-- ==== Sys2Proof/Word.lean ====
section
/-!
DEFINITION. The widths the manual uses (R4): bytes, 16-bit and 32-bit words, and plain helpers on them.
Nothing here is particular to one block of the module.
-/

namespace Sys2Proof

/-- One byte. -/
abbrev Byte := BitVec 8
/-- One 32-bit register word. -/
abbrev Word := BitVec 32
/-- A 64-bit structure word: a Beam Table entry, an echo record, a sequence number. -/
abbrev DWord := BitVec 64

/-- Little-endian value of a list of bytes (R4). -/
def leNat : List Byte → Nat
  | [] => 0
  | b :: bs => b.toNat + 256 * leNat bs

/-- The `n` low bytes of a number, little-endian (R4). -/
def leBytes : Nat → Nat → List Byte
  | 0, _ => []
  | n + 1, v => BitVec.ofNat 8 v :: leBytes n (v / 256)

/-- Big-endian value of a list of bytes (structures of a published standard, R4). -/
def beNat (bs : List Byte) : Nat := leNat bs.reverse

/-- `n` bytes of a list from an offset; bytes beyond the end read zero. -/
def slice (bs : List Byte) (off n : Nat) : List Byte :=
  ((bs.drop off).take n) ++ List.replicate (n - ((bs.drop off).take n).length) 0

/-- The little-endian field of `n` bytes at an offset of a structure. -/
def leAt (bs : List Byte) (off n : Nat) : Nat := leNat (slice bs off n)

/-- Two's-complement value of the low `n` bits. -/
def signed (n v : Nat) : Int :=
  let m := v % 2 ^ n
  if m < 2 ^ (n - 1) then (m : Int) else (m : Int) - (2 ^ n : Nat)

/-- The low `n` bits of an integer, as a number. -/
def unsigned (n : Nat) (i : Int) : Nat := (i % ((2 ^ n : Nat) : Int)).toNat

/-- Bits `hi` to `lo` of a number. -/
def bits (v hi lo : Nat) : Nat := v / 2 ^ lo % 2 ^ (hi - lo + 1)

/-- Round a quotient to nearest, ties toward plus infinity (the rule of R194 and R203). -/
def rndDiv (a b : Int) : Int := Int.fdiv (2 * a + b) (2 * b)

/-- Saturating count: holds at `top`. -/
def satAdd (top v k : Nat) : Nat := min top (v + k)

/-- The sign of a difference modulo 2^32 says that `a` is later than `b` (R355, R360). -/
def later32 (a b : Nat) : Bool :=
  let d := (2 ^ 32 + a - b % 2 ^ 32) % 2 ^ 32
  decide (1 ≤ d ∧ d ≤ 2 ^ 31 - 1)

end Sys2Proof
end

