-- ==== Sys2Proof/Config.lean ====
section
/-!
DEFINITION. What the manual leaves to a module or to a published standard: values no proof can see.
-/

namespace Sys2Proof.Config

/-- The free values of log entry 4: a value the manual leaves open, by how many have been used before it. -/
opaque freeValue : Nat → Nat

/-- The number that a client of on-die SRAM has in the error log (R341): 0 gather, 1 the scrubber, 2 firmware. -/
opaque sramClient : Nat → Nat

/-- AES-256-GCM of NIST SP 800-38D (R453): the plaintext under key, IV, additional data, ciphertext and tag, or none when
the tag does not verify. -/
opaque gcmOpen : (key iv aad ciphertext tag : List Byte) → Option (List Byte)

/-- ECDSA P-384 verification of a message under SHA-384 (FIPS 186-5): key x ‖ y, message, signature r ‖ s. -/
opaque ecdsaOk : (key message signature : List Byte) → Bool

/-- The module's ECDSA P-384 signature of a message under its identity key: 96 bytes r ‖ s (R380, R444). -/
opaque identitySign : (message : List Byte) → List Byte

/-- SHA-384 (FIPS 180-4). -/
opaque sha384 : List Byte → List Byte

/-- HKDF-SHA-384 (RFC 5869) for 32 bytes: salt, input key material, info (R452). -/
opaque hkdf : (salt ikm info : List Byte) → List Byte

/-- The x-coordinate of ECDH of the module's static key with a 97-byte point, or none when it is no valid point
(R452). -/
opaque ecdh : (point : List Byte) → Option (List Byte)

/-- ML-KEM-768 decapsulation under the module's key (FIPS 203; R452). -/
opaque kemDecap : (ciphertext : List Byte) → List Byte

/-- AES-KW unwrap of NIST SP 800-38F, or none when its integrity check fails (R452). -/
opaque kwUnwrap : (kek wrapped : List Byte) → Option (List Byte)

/-- SERIAL, 8 bytes (R347). -/
opaque serial : List Byte

/-- The identity public key, 96 bytes x ‖ y (R444). -/
opaque identityKey : List Byte

/-- The Ceraener firmware key and lifecycle key in Boot ROM, x ‖ y (R444). -/
opaque firmwareKey : List Byte
opaque lifecycleKey : List Byte

/-- What ID_KEY_HASH reads once the identity key can no longer be derived (R462; log entry 172). -/
opaque lostKeyHash : List Byte

/-! ## Certificates (R446) -/

/-- The module's public wrap keys: the ML-KEM-768 encapsulation key, and the static P-384 key x ‖ y (R444). -/
opaque kemKey : List Byte
opaque ecdhKey : List Byte

/-- The Ceraener intermediate key, x ‖ y. -/
opaque intermediateKey : List Byte

/-- Who issues a certificate of the chain. -/
inductive Issuer where
  | identity | intermediate | root
  deriving DecidableEq, Repr

/-- The algorithm of a subject key. -/
inductive SubjectAlg where
  | mlKem768 | p384
  deriving DecidableEq, Repr

/-- What R446 says of a certificate: its subject key, whether its key usage is keyAgreement only, the subject serial number, and
its issuer. -/
structure Cert where
  alg : SubjectAlg
  key : List Byte
  keyAgreementOnly : Bool
  subjectSerial : Option (List Byte)
  issuer : Issuer
  deriving DecidableEq, Repr

/-- The DER encoding of an X.509 v3 certificate; what else it holds is left to the issuer. -/
opaque der : Cert → List Byte

/-- The certificates in their order: KEM, ECDH, device, intermediate. -/
def certificates : List Cert :=
  [⟨.mlKem768, kemKey, false, none, .identity⟩, ⟨.p384, ecdhKey, true, none, .identity⟩,
    ⟨.p384, identityKey, false, some serial, .intermediate⟩, ⟨.p384, intermediateKey, false, none, .root⟩]

/-- The certificate chain that CERT_READ returns. -/
def certChain : List Byte := certificates.flatMap der

/-! ## Firmware -/

/-- The image in slot A (0) or B (1) holds an expected logic BIST signature of a domain for this HW_REV (R507). -/
opaque bistSignature : (slot domain : Nat) → Bool

/-- The Skiver stream that firmware encodes a diagnostics chunk into (R505): any stream that decodes to the content under
R108 to R110 will do, and one that does not is not taken (`Machine.diagStream`). -/
opaque diagEncode : (content : List Byte) → List Byte

end Sys2Proof.Config
end

