-- ==== Sys2Proof/Machine/Regs.lean ====
section
/-!
DEFINITION. The register map: every register of every block by its key, every field by its bits, and one table of
access codes and POR values (R5, Table 0-3), taken from the register tables of the chapters. A key is the block code of
R367 times 65,536 plus the offset within the block; code 0 stands for the doorbell page of BAR0 (R358).
-/

namespace Sys2Proof.Machine

/-- A field of a register: bits `hi` to `lo`. -/
structure Field where
  reg : Nat
  hi : Nat
  lo : Nat
  deriving DecidableEq, Repr

/-- One row of the register table: a register, or `count` like registers `stride` bytes apart, with the bits of each
access code and the POR value. Bits in no mask are RO or reserved. -/
structure RegDesc where
  key : Nat
  count : Nat
  stride : Nat
  por : Nat
  rw : Nat
  wo : Nat
  rc : Nat
  w1c : Nat
  wi : Nat
  ro : Nat
  deriving DecidableEq, Repr

namespace Reg

/-! BAR0_ block (R358, R404, Tables 14-7b and 16-6). -/

abbrev MBX_DB (n : Nat) : Nat := 0x0F000 + 0x4 * n
abbrev MBX_DB_RING (n : Nat) : Field := ⟨MBX_DB n, 31, 0⟩
abbrev DMA_CH_APPEND_COUNT (n : Nat) : Nat := 0x0F040 + 0x4 * n
abbrev DMA_CH_APPEND_COUNT_COUNT (n : Nat) : Field := ⟨DMA_CH_APPEND_COUNT n, 31, 0⟩
abbrev MBX_STATE : Nat := 0x0F060
abbrev MBX_STATE_BUSY : Field := ⟨MBX_STATE, 15, 0⟩
abbrev MBX_ERR : Nat := 0x0F064
abbrev MBX_ERR_DROPPED : Field := ⟨MBX_ERR, 15, 0⟩
abbrev MBX_ERR_OVERRUN : Field := ⟨MBX_ERR, 31, 16⟩
abbrev DMA_STG_REL_LO : Nat := 0x0F068
abbrev DMA_STG_REL_LO_SEQ : Field := ⟨DMA_STG_REL_LO, 31, 0⟩
abbrev DMA_STG_REL_HI : Nat := 0x0F06C
abbrev DMA_STG_REL_HI_SEQ : Field := ⟨DMA_STG_REL_HI, 31, 0⟩
abbrev DMA_CH_HEAD_LO (n : Nat) : Nat := 0x0F080 + 0x10 * n
abbrev DMA_CH_HEAD_LO_ADDR (n : Nat) : Field := ⟨DMA_CH_HEAD_LO n, 31, 0⟩
abbrev DMA_CH_HEAD_HI (n : Nat) : Nat := 0x0F084 + 0x10 * n
abbrev DMA_CH_HEAD_HI_ADDR (n : Nat) : Field := ⟨DMA_CH_HEAD_HI n, 31, 0⟩
abbrev DMA_CH_CTRL (n : Nat) : Nat := 0x0F088 + 0x10 * n
abbrev DMA_CH_CTRL_START (n : Nat) : Field := ⟨DMA_CH_CTRL n, 0, 0⟩
abbrev DMA_CH_CTRL_RETRY (n : Nat) : Field := ⟨DMA_CH_CTRL n, 1, 1⟩
abbrev DMA_CH_CTRL_STOP (n : Nat) : Field := ⟨DMA_CH_CTRL n, 2, 2⟩
abbrev DMA_CH_STATE (n : Nat) : Nat := 0x0F08C + 0x10 * n
abbrev DMA_CH_STATE_DONE_SEQ (n : Nat) : Field := ⟨DMA_CH_STATE n, 15, 0⟩
abbrev DMA_CH_STATE_STATE (n : Nat) : Field := ⟨DMA_CH_STATE n, 17, 16⟩
abbrev DMA_CH_STATE_ERR (n : Nat) : Field := ⟨DMA_CH_STATE n, 31, 24⟩

/-! BELL_ block (R210, Table 7-4). -/

abbrev BELL_PMIN : Nat := 0x10000
abbrev BELL_PMIN_STEPS : Field := ⟨BELL_PMIN, 19, 0⟩
abbrev BELL_GUARD : Nat := 0x10004
abbrev BELL_GUARD_STEPS : Field := ⟨BELL_GUARD, 19, 0⟩
abbrev BELL_SHOT : Nat := 0x10008
abbrev BELL_SHOT_SHOT : Field := ⟨BELL_SHOT, 31, 0⟩
abbrev BELL_PERIOD : Nat := 0x1000C
abbrev BELL_PERIOD_STEPS : Field := ⟨BELL_PERIOD, 31, 0⟩
abbrev BELL_XING_MIN : Nat := 0x10010
abbrev BELL_XING_MIN_STEPS : Field := ⟨BELL_XING_MIN, 31, 0⟩
abbrev BELL_DEFER : Nat := 0x10014
abbrev BELL_DEFER_STEPS : Field := ⟨BELL_DEFER, 31, 0⟩
abbrev BELL_DROP : Nat := 0x10018
abbrev BELL_DROP_COUNT : Field := ⟨BELL_DROP, 31, 0⟩
abbrev BELL_TRACK_CUT : Nat := 0x1001C
abbrev BELL_TRACK_CUT_COUNT : Field := ⟨BELL_TRACK_CUT, 31, 0⟩
abbrev BELL_ARM_MISS : Nat := 0x10020
abbrev BELL_ARM_MISS_COUNT : Field := ⟨BELL_ARM_MISS, 15, 0⟩

/-! POS_ block (R210, Table 7-4). -/

abbrev POS_CFG : Nat := 0x20000
abbrev POS_CFG_FORM : Field := ⟨POS_CFG, 0, 0⟩
abbrev POS_CFG_INV_Y : Field := ⟨POS_CFG, 1, 1⟩
abbrev POS_CFG_INV_X : Field := ⟨POS_CFG, 2, 2⟩
abbrev POS_CFG_INV_YAW : Field := ⟨POS_CFG, 3, 3⟩
abbrev POS_CFG_FILT_Y : Field := ⟨POS_CFG, 8, 4⟩
abbrev POS_CFG_FILT_X : Field := ⟨POS_CFG, 13, 9⟩
abbrev POS_CFG_FILT_YAW : Field := ⟨POS_CFG, 18, 14⟩
abbrev POS_JITTER : Nat := 0x20004
abbrev POS_JITTER_WINDOW : Field := ⟨POS_JITTER, 7, 0⟩
abbrev POS_VEL : Nat := 0x20008
abbrev POS_VEL_WIN : Field := ⟨POS_VEL, 2, 0⟩
abbrev POS_TRACK : Nat := 0x2000C
abbrev POS_TRACK_TOL : Field := ⟨POS_TRACK, 7, 0⟩
abbrev POS_YAW_GAIN : Nat := 0x20010
abbrev POS_YAW_GAIN_GAIN : Field := ⟨POS_YAW_GAIN, 31, 0⟩
abbrev POS_PWS_CFG : Nat := 0x20014
abbrev POS_PWS_CFG_SKEW : Field := ⟨POS_PWS_CFG, 6, 0⟩
abbrev POS_PWS_CFG_TIMEOUT : Field := ⟨POS_PWS_CFG, 11, 8⟩
abbrev POS_YAW_ZERO_LO : Nat := 0x20018
abbrev POS_YAW_ZERO_LO_VALUE : Field := ⟨POS_YAW_ZERO_LO, 31, 0⟩
abbrev POS_YAW_ZERO_HI : Nat := 0x2001C
abbrev POS_YAW_ZERO_HI_VALUE : Field := ⟨POS_YAW_ZERO_HI, 7, 0⟩
abbrev POS_STATUS : Nat := 0x20020
abbrev POS_STATUS_VALID_Y : Field := ⟨POS_STATUS, 0, 0⟩
abbrev POS_STATUS_VALID_X : Field := ⟨POS_STATUS, 1, 1⟩
abbrev POS_STATUS_VALID_YAW : Field := ⟨POS_STATUS, 2, 2⟩
abbrev POS_STATUS_LOCK : Field := ⟨POS_STATUS, 3, 3⟩
abbrev POS_STATUS_ARMED : Field := ⟨POS_STATUS, 4, 4⟩
abbrev POS_STATUS_REVERSED : Field := ⟨POS_STATUS, 5, 5⟩
abbrev POS_SET_CMD : Nat := 0x20024
abbrev POS_SET_CMD_AXIS : Field := ⟨POS_SET_CMD, 1, 0⟩
abbrev POS_SET_LO : Nat := 0x20028
abbrev POS_SET_LO_VALUE : Field := ⟨POS_SET_LO, 31, 0⟩
abbrev POS_SET_HI : Nat := 0x2002C
abbrev POS_SET_HI_VALUE : Field := ⟨POS_SET_HI, 7, 0⟩
abbrev POS_Y_LO : Nat := 0x20030
abbrev POS_Y_LO_VALUE : Field := ⟨POS_Y_LO, 31, 0⟩
abbrev POS_Y_HI : Nat := 0x20034
abbrev POS_Y_HI_VALUE : Field := ⟨POS_Y_HI, 7, 0⟩
abbrev POS_X_LO : Nat := 0x20038
abbrev POS_X_LO_VALUE : Field := ⟨POS_X_LO, 31, 0⟩
abbrev POS_X_HI : Nat := 0x2003C
abbrev POS_X_HI_VALUE : Field := ⟨POS_X_HI, 7, 0⟩
abbrev POS_YAW_LO : Nat := 0x20040
abbrev POS_YAW_LO_VALUE : Field := ⟨POS_YAW_LO, 31, 0⟩
abbrev POS_YAW_HI : Nat := 0x20044
abbrev POS_YAW_HI_VALUE : Field := ⟨POS_YAW_HI, 7, 0⟩
abbrev POS_HWM_LO : Nat := 0x20048
abbrev POS_HWM_LO_VALUE : Field := ⟨POS_HWM_LO, 31, 0⟩
abbrev POS_HWM_HI : Nat := 0x2004C
abbrev POS_HWM_HI_VALUE : Field := ⟨POS_HWM_HI, 7, 0⟩
abbrev POS_QUAD_ERR : Nat := 0x20050
abbrev POS_QUAD_ERR_COUNT : Field := ⟨POS_QUAD_ERR, 15, 0⟩
abbrev POS_PWS_ERR : Nat := 0x20054
abbrev POS_PWS_ERR_FRAMES : Field := ⟨POS_PWS_ERR, 15, 0⟩
abbrev POS_PWS_ERR_GAPS : Field := ⟨POS_PWS_ERR, 31, 16⟩
abbrev POS_RESID_MAX : Nat := 0x20058
abbrev POS_RESID_MAX_VALUE : Field := ⟨POS_RESID_MAX, 15, 0⟩

/-! GTH_ block (R183, Table 6-6). -/

abbrev GTH_PSET_CMD : Nat := 0x30000
abbrev GTH_PSET_CMD_COMMIT : Field := ⟨GTH_PSET_CMD, 0, 0⟩
abbrev GTH_PSET_STATUS : Nat := 0x30004
abbrev GTH_PSET_STATUS_PENDING : Field := ⟨GTH_PSET_STATUS, 0, 0⟩
abbrev GTH_PSET_SEQ : Nat := 0x30008
abbrev GTH_PSET_SEQ_SEQ : Field := ⟨GTH_PSET_SEQ, 31, 0⟩
abbrev GTH_WIN_CFG : Nat := 0x3000C
abbrev GTH_WIN_CFG_GUARD : Field := ⟨GTH_WIN_CFG, 7, 0⟩
abbrev GTH_WIN_LEAD : Nat := 0x30010
abbrev GTH_WIN_LEAD_ROWS : Field := ⟨GTH_WIN_LEAD, 12, 0⟩
abbrev GTH_WIN_LEAD_MIN : Nat := 0x30014
abbrev GTH_WIN_LEAD_MIN_ROWS : Field := ⟨GTH_WIN_LEAD_MIN, 12, 0⟩
abbrev GTH_MARGIN_MIN : Nat := 0x30018
abbrev GTH_MARGIN_MIN_CYCLES : Field := ⟨GTH_MARGIN_MIN, 15, 0⟩
abbrev GTH_CLAMP : Nat := 0x3001C
abbrev GTH_CLAMP_COUNT : Field := ⟨GTH_CLAMP, 31, 0⟩
abbrev GTH_CLIP : Nat := 0x30020
abbrev GTH_CLIP_COUNT : Field := ⟨GTH_CLIP, 31, 0⟩
abbrev GTH_RANGE : Nat := 0x30024
abbrev GTH_RANGE_COUNT : Field := ⟨GTH_RANGE, 31, 0⟩
abbrev GTH_LATE : Nat := 0x30028
abbrev GTH_LATE_COUNT : Field := ⟨GTH_LATE, 31, 0⟩
abbrev GTH_BT_CMD : Nat := 0x3002C
abbrev GTH_BT_CMD_APPLY : Field := ⟨GTH_BT_CMD, 0, 0⟩
abbrev GTH_BT_CMD_COUNT : Field := ⟨GTH_BT_CMD, 5, 1⟩
abbrev GTH_BT_CMD_CSET : Field := ⟨GTH_BT_CMD, 30, 16⟩
abbrev GTH_BT_STATUS : Nat := 0x30030
abbrev GTH_BT_STATUS_PENDING : Field := ⟨GTH_BT_STATUS, 0, 0⟩
abbrev GTH_BT_SUM : Nat := 0x30034
abbrev GTH_BT_SUM_WORD : Field := ⟨GTH_BT_SUM, 31, 0⟩
abbrev GTH_SH_MAG_X : Nat := 0x30040
abbrev GTH_SH_MAG_X_VALUE : Field := ⟨GTH_SH_MAG_X, 23, 0⟩
abbrev GTH_SH_MAG_Y : Nat := 0x30044
abbrev GTH_SH_MAG_Y_VALUE : Field := ⟨GTH_SH_MAG_Y, 23, 0⟩
abbrev GTH_SH_ROT : Nat := 0x30048
abbrev GTH_SH_ROT_VALUE : Field := ⟨GTH_SH_ROT, 23, 0⟩
abbrev GTH_SH_LIMIT : Nat := 0x3004C
abbrev GTH_SH_LIMIT_LIM_X : Field := ⟨GTH_SH_LIMIT, 7, 0⟩
abbrev GTH_SH_LIMIT_LIM_Y : Field := ⟨GTH_SH_LIMIT, 15, 8⟩
abbrev GTH_SH_SCALE : Nat := 0x30050
abbrev GTH_SH_SCALE_DOSE_SCALE : Field := ⟨GTH_SH_SCALE, 12, 0⟩
abbrev GTH_ACT_MAG_X : Nat := 0x30080
abbrev GTH_ACT_MAG_X_VALUE : Field := ⟨GTH_ACT_MAG_X, 23, 0⟩
abbrev GTH_ACT_MAG_Y : Nat := 0x30084
abbrev GTH_ACT_MAG_Y_VALUE : Field := ⟨GTH_ACT_MAG_Y, 23, 0⟩
abbrev GTH_ACT_ROT : Nat := 0x30088
abbrev GTH_ACT_ROT_VALUE : Field := ⟨GTH_ACT_ROT, 23, 0⟩
abbrev GTH_ACT_LIMIT : Nat := 0x3008C
abbrev GTH_ACT_LIMIT_LIM_X : Field := ⟨GTH_ACT_LIMIT, 7, 0⟩
abbrev GTH_ACT_LIMIT_LIM_Y : Field := ⟨GTH_ACT_LIMIT, 15, 8⟩
abbrev GTH_ACT_SCALE : Nat := 0x30090
abbrev GTH_ACT_SCALE_DOSE_SCALE : Field := ⟨GTH_ACT_SCALE, 12, 0⟩
abbrev GTH_BT_STAGE_IDX (n : Nat) : Nat := 0x30100 + 0x10 * n
abbrev GTH_BT_STAGE_IDX_BEAM (n : Nat) : Field := ⟨GTH_BT_STAGE_IDX n, 17, 0⟩
abbrev GTH_BT_STAGE_LO (n : Nat) : Nat := 0x30104 + 0x10 * n
abbrev GTH_BT_STAGE_LO_ENTRY (n : Nat) : Field := ⟨GTH_BT_STAGE_LO n, 31, 0⟩
abbrev GTH_BT_STAGE_HI (n : Nat) : Nat := 0x30108 + 0x10 * n
abbrev GTH_BT_STAGE_HI_ENTRY (n : Nat) : Field := ⟨GTH_BT_STAGE_HI n, 31, 0⟩

/-! RAS_ block (R153, Table 5-2). -/

abbrev RAS_STATUS : Nat := 0x40000
abbrev RAS_STATUS_STATE : Field := ⟨RAS_STATUS, 1, 0⟩
abbrev RAS_POS_BAND : Nat := 0x40004
abbrev RAS_POS_BAND_BAND : Field := ⟨RAS_POS_BAND, 19, 0⟩
abbrev RAS_POS_STRIPE : Nat := 0x40008
abbrev RAS_POS_STRIPE_STRIPE : Field := ⟨RAS_POS_STRIPE, 15, 0⟩
abbrev RAS_POS_STRIPE_LAYER : Field := ⟨RAS_POS_STRIPE, 31, 16⟩
abbrev RAS_BAND_LEAD : Nat := 0x4000C
abbrev RAS_BAND_LEAD_BANDS : Field := ⟨RAS_BAND_LEAD, 8, 0⟩
abbrev RAS_LEAD_MIN : Nat := 0x40010
abbrev RAS_LEAD_MIN_BANDS : Field := ⟨RAS_LEAD_MIN, 8, 0⟩
abbrev RAS_LEAD_WARN : Nat := 0x40014
abbrev RAS_LEAD_WARN_BANDS : Field := ⟨RAS_LEAD_WARN, 8, 0⟩
abbrev RAS_BUDGET : Nat := 0x40018
abbrev RAS_BUDGET_CYCLES : Field := ⟨RAS_BUDGET, 31, 0⟩
abbrev RAS_BAND_CYCLES : Nat := 0x4001C
abbrev RAS_BAND_CYCLES_CYCLES : Field := ⟨RAS_BAND_CYCLES, 31, 0⟩
abbrev RAS_OVER_BUDGET : Nat := 0x40020
abbrev RAS_OVER_BUDGET_COUNT : Field := ⟨RAS_OVER_BUDGET, 15, 0⟩
abbrev RAS_TILE_MAX : Nat := 0x40024
abbrev RAS_TILE_MAX_CYCLES : Field := ⟨RAS_TILE_MAX, 31, 0⟩
abbrev RAS_SAT : Nat := 0x40028
abbrev RAS_SAT_COUNT : Field := ⟨RAS_SAT, 31, 0⟩

/-! PEC_ block (R153, Table 5-2). -/

abbrev PEC_STATUS : Nat := 0x50000
abbrev PEC_STATUS_ACTIVE : Field := ⟨PEC_STATUS, 0, 0⟩
abbrev PEC_PROBE_SEL : Nat := 0x50004
abbrev PEC_PROBE_SEL_I : Field := ⟨PEC_PROBE_SEL, 9, 0⟩
abbrev PEC_PROBE_SEL_M : Field := ⟨PEC_PROBE_SEL, 11, 10⟩
abbrev PEC_PROBE_VAL : Nat := 0x50008
abbrev PEC_PROBE_VAL_DENSITY : Field := ⟨PEC_PROBE_VAL, 7, 0⟩
abbrev PEC_PROBE_VAL_S_IDX : Field := ⟨PEC_PROBE_VAL, 15, 8⟩
abbrev PEC_PROBE_VAL_L_IDX : Field := ⟨PEC_PROBE_VAL, 21, 16⟩
abbrev PEC_PROBE_F : Nat := 0x5000C
abbrev PEC_PROBE_F_FACTOR : Field := ⟨PEC_PROBE_F, 15, 0⟩

/-! SKV_ block (R129, Table 4-3). -/

abbrev SKV_GUARD : Nat := 0x60000
abbrev SKV_GUARD_RATIO_M1 : Field := ⟨SKV_GUARD, 9, 0⟩
abbrev SKV_CACHE_CFG : Nat := 0x60004
abbrev SKV_CACHE_CFG_SIZE : Field := ⟨SKV_CACHE_CFG, 6, 0⟩
abbrev SKV_STATUS : Nat := 0x60008
abbrev SKV_STATUS_STATE : Field := ⟨SKV_STATUS, 1, 0⟩
abbrev SKV_CELLS : Nat := 0x6000C
abbrev SKV_CELLS_ENTRIES : Field := ⟨SKV_CELLS, 22, 0⟩
abbrev SKV_FREE : Nat := 0x60010
abbrev SKV_FREE_GRANULES : Field := ⟨SKV_FREE, 31, 0⟩
abbrev SKV_PENDING : Nat := 0x60014
abbrev SKV_PENDING_GRANULES : Field := ⟨SKV_PENDING, 31, 0⟩
abbrev SKV_STOP_SEQ_LO : Nat := 0x60018
abbrev SKV_STOP_SEQ_LO_SEQ : Field := ⟨SKV_STOP_SEQ_LO, 31, 0⟩
abbrev SKV_STOP_SEQ_HI : Nat := 0x6001C
abbrev SKV_STOP_SEQ_HI_SEQ : Field := ⟨SKV_STOP_SEQ_HI, 31, 0⟩
abbrev SKV_STOP_STORED : Nat := 0x60020
abbrev SKV_STOP_STORED_GRANULES : Field := ⟨SKV_STOP_STORED, 31, 0⟩
abbrev SKV_STOP_CELLS : Nat := 0x60024
abbrev SKV_STOP_CELLS_CELLS : Field := ⟨SKV_STOP_CELLS, 22, 0⟩
abbrev SKV_REFETCH : Nat := 0x60028
abbrev SKV_REFETCH_COUNT : Field := ⟨SKV_REFETCH, 15, 0⟩
abbrev SKV_QUEUE_FREE : Nat := 0x6002C
abbrev SKV_QUEUE_FREE_KIB : Field := ⟨SKV_QUEUE_FREE, 21, 0⟩

/-! OUT_ block (R243, Table 8-9). -/

abbrev OUT_STATUS : Nat := 0x70000
abbrev OUT_STATUS_BLANK : Field := ⟨OUT_STATUS, 0, 0⟩
abbrev OUT_STATUS_EXPOSE_EN : Field := ⟨OUT_STATUS, 1, 1⟩
abbrev OUT_STATUS_LINK_LOSS : Field := ⟨OUT_STATUS, 2, 2⟩
abbrev OUT_STATUS_CINCH : Field := ⟨OUT_STATUS, 3, 3⟩
abbrev OUT_STATUS_SETTLED : Field := ⟨OUT_STATUS, 4, 4⟩
abbrev OUT_STATUS_CINCH_TEST_OK : Field := ⟨OUT_STATUS, 5, 5⟩
abbrev OUT_SLICE : Nat := 0x70004
abbrev OUT_SLICE_STEPS : Field := ⟨OUT_SLICE, 15, 0⟩
abbrev OUT_CINCH : Nat := 0x70008
abbrev OUT_CINCH_MAX_NS : Field := ⟨OUT_CINCH, 11, 0⟩
abbrev OUT_CINCH_CMD : Nat := 0x7000C
abbrev OUT_CINCH_CMD_TEST : Field := ⟨OUT_CINCH_CMD, 0, 0⟩
abbrev OUT_EN : Nat := 0x70010
abbrev OUT_EN_SETTLE_MS : Field := ⟨OUT_EN, 9, 0⟩
abbrev OUT_EN_GAP_US : Field := ⟨OUT_EN, 19, 10⟩
abbrev OUT_ECHO_CFG : Nat := 0x70014
abbrev OUT_ECHO_CFG_LIMIT : Field := ⟨OUT_ECHO_CFG, 3, 0⟩
abbrev OUT_LINK_CFG : Nat := 0x70018
abbrev OUT_LINK_CFG_SETTLE : Field := ⟨OUT_LINK_CFG, 15, 0⟩
abbrev OUT_TX_FAULT_LO : Nat := 0x7001C
abbrev OUT_TX_FAULT_LO_LANES : Field := ⟨OUT_TX_FAULT_LO, 31, 0⟩
abbrev OUT_TX_FAULT_HI : Nat := 0x70020
abbrev OUT_TX_FAULT_HI_LANES : Field := ⟨OUT_TX_FAULT_HI, 31, 0⟩
abbrev OUT_RX_LOCK_LO : Nat := 0x70024
abbrev OUT_RX_LOCK_LO_LANES : Field := ⟨OUT_RX_LOCK_LO, 31, 0⟩
abbrev OUT_RX_LOCK_HI : Nat := 0x70028
abbrev OUT_RX_LOCK_HI_LANES : Field := ⟨OUT_RX_LOCK_HI, 31, 0⟩
abbrev OUT_ECHO_ERR : Nat := 0x7002C
abbrev OUT_ECHO_ERR_COUNT : Field := ⟨OUT_ECHO_ERR, 15, 0⟩
abbrev OUT_ECHO_ERR_MISSING : Field := ⟨OUT_ECHO_ERR, 31, 16⟩
abbrev OUT_LATE_FRAMES : Nat := 0x70030
abbrev OUT_LATE_FRAMES_COUNT : Field := ⟨OUT_LATE_FRAMES, 31, 0⟩
abbrev OUT_ECHO_LAT_MAX : Nat := 0x70034
abbrev OUT_ECHO_LAT_MAX_NS : Field := ⟨OUT_ECHO_LAT_MAX, 15, 0⟩
abbrev OUT_CUT_TIME : Nat := 0x70038
abbrev OUT_CUT_TIME_STEPS : Field := ⟨OUT_CUT_TIME, 23, 0⟩
abbrev OUT_LAST_MISMATCH : Nat := 0x7003C
abbrev OUT_LAST_MISMATCH_LANE : Field := ⟨OUT_LAST_MISMATCH, 5, 0⟩
abbrev OUT_LAST_MISMATCH_CLASS : Field := ⟨OUT_LAST_MISMATCH, 8, 6⟩
abbrev OUT_LAST_SHOT : Nat := 0x70040
abbrev OUT_LAST_SHOT_SHOT : Field := ⟨OUT_LAST_SHOT, 31, 0⟩
abbrev OUT_OPT_CFG : Nat := 0x70044
abbrev OUT_OPT_CFG_PWR_WARN : Field := ⟨OUT_OPT_CFG, 7, 0⟩
abbrev OUT_OPT_CFG_BIAS_PCT : Field := ⟨OUT_OPT_CFG, 15, 8⟩
abbrev OUT_OPT_CFG_TEMP_WARN : Field := ⟨OUT_OPT_CFG, 23, 16⟩
abbrev OUT_SKEW (n : Nat) : Nat := 0x70060 + 0x4 * n
abbrev OUT_SKEW_STEPS (n : Nat) : Field := ⟨OUT_SKEW n, 7, 0⟩

/-! BHM_ block (R266, Table 9-5). -/

abbrev BHM_CFG : Nat := 0x80000
abbrev BHM_CFG_READY_GPIO : Field := ⟨BHM_CFG, 3, 0⟩
abbrev BHM_CFG_FILT : Field := ⟨BHM_CFG, 8, 4⟩
abbrev BHM_CFG_L_WARN : Field := ⟨BHM_CFG, 12, 9⟩
abbrev BHM_CFG_DARK_EACH_SLOT : Field := ⟨BHM_CFG, 13, 13⟩
abbrev BHM_GATE : Nat := 0x80004
abbrev BHM_GATE_OPEN_NS : Field := ⟨BHM_GATE, 5, 0⟩
abbrev BHM_TEST : Nat := 0x80008
abbrev BHM_TEST_COUNT : Field := ⟨BHM_TEST, 3, 0⟩
abbrev BHM_TEST_REPEAT : Field := ⟨BHM_TEST, 7, 4⟩
abbrev BHM_DARK : Nat := 0x8000C
abbrev BHM_DARK_BELLS : Field := ⟨BHM_DARK, 7, 0⟩
abbrev BHM_DARK_TOL : Field := ⟨BHM_DARK, 15, 8⟩
abbrev BHM_CAL_CFG : Nat := 0x80010
abbrev BHM_CAL_CFG_CHAN : Field := ⟨BHM_CAL_CFG, 2, 0⟩
abbrev BHM_CAL_CFG_SAMPLES : Field := ⟨BHM_CAL_CFG, 11, 4⟩
abbrev BHM_CAL_CFG_SETTLE : Field := ⟨BHM_CAL_CFG, 15, 12⟩
abbrev BHM_CAL_REF : Nat := 0x80014
abbrev BHM_CAL_REF_REF : Field := ⟨BHM_CAL_REF, 15, 0⟩
abbrev BHM_SCAN_CURSOR : Nat := 0x80018
abbrev BHM_SCAN_CURSOR_INDEX : Field := ⟨BHM_SCAN_CURSOR, 14, 0⟩
abbrev BHM_SCAN_CURSOR_PASSES : Field := ⟨BHM_SCAN_CURSOR, 31, 15⟩
abbrev BHM_CAL_CURSOR : Nat := 0x8001C
abbrev BHM_CAL_CURSOR_BEAM : Field := ⟨BHM_CAL_CURSOR, 17, 0⟩
abbrev BHM_CAL_CURSOR_PASSES : Field := ⟨BHM_CAL_CURSOR, 30, 18⟩
abbrev BHM_CAL_CURSOR_ACTIVE : Field := ⟨BHM_CAL_CURSOR, 31, 31⟩
abbrev BHM_STUCK : Nat := 0x80020
abbrev BHM_STUCK_BEAM : Field := ⟨BHM_STUCK, 17, 0⟩
abbrev BHM_STUCK_VALID : Field := ⟨BHM_STUCK, 18, 18⟩
abbrev BHM_STUCK_UNRESOLVED : Field := ⟨BHM_STUCK, 19, 19⟩
abbrev BHM_LOC : Nat := 0x80024
abbrev BHM_LOC_X : Field := ⟨BHM_LOC, 19, 0⟩
abbrev BHM_LOC_Y : Field := ⟨BHM_LOC, 31, 20⟩
abbrev BHM_EDGE_X : Nat := 0x80028
abbrev BHM_EDGE_X_COUNTS : Field := ⟨BHM_EDGE_X, 31, 0⟩
abbrev BHM_EDGE_Y : Nat := 0x8002C
abbrev BHM_EDGE_Y_COUNTS : Field := ⟨BHM_EDGE_Y, 31, 0⟩
abbrev BHM_COUNTS : Nat := 0x80030
abbrev BHM_COUNTS_RETIRED : Field := ⟨BHM_COUNTS, 17, 0⟩
abbrev BHM_COUNTS_WEAK : Field := ⟨BHM_COUNTS, 31, 18⟩
abbrev BHM_FLAKY : Nat := 0x80034
abbrev BHM_FLAKY_COUNT : Field := ⟨BHM_FLAKY, 15, 0⟩

/-! ABS_ block (R285, Table 10-3). -/

abbrev ABS_CFG : Nat := 0x90000
abbrev ABS_CFG_RESERVE : Field := ⟨ABS_CFG, 23, 0⟩
abbrev ABS_HEAD : Nat := 0x90004
abbrev ABS_HEAD_INDEX : Field := ⟨ABS_HEAD, 31, 0⟩
abbrev ABS_TAIL : Nat := 0x90008
abbrev ABS_TAIL_INDEX : Field := ⟨ABS_TAIL, 31, 0⟩
abbrev ABS_FREE : Nat := 0x9000C
abbrev ABS_FREE_SLOTS : Field := ⟨ABS_FREE, 23, 0⟩
abbrev ABS_OPEN : Nat := 0x90010
abbrev ABS_OPEN_ENTRIES : Field := ⟨ABS_OPEN, 12, 0⟩
abbrev ABS_UNREC : Nat := 0x90014
abbrev ABS_UNREC_ENTRIES : Field := ⟨ABS_UNREC, 23, 0⟩
abbrev ABS_STATUS : Nat := 0x90018
abbrev ABS_STATUS_RESERVE : Field := ⟨ABS_STATUS, 0, 0⟩
abbrev ABS_STATUS_LOST : Field := ⟨ABS_STATUS, 1, 1⟩
abbrev ABS_STATUS_LOST_REASON : Field := ⟨ABS_STATUS, 15, 8⟩
abbrev ABS_LOST_LS : Nat := 0x9001C
abbrev ABS_LOST_LS_STRIPE : Field := ⟨ABS_LOST_LS, 15, 0⟩
abbrev ABS_LOST_LS_LAYER : Field := ⟨ABS_LOST_LS, 31, 16⟩
abbrev ABS_LOST_SHOT : Nat := 0x90020
abbrev ABS_LOST_SHOT_SHOT : Field := ⟨ABS_LOST_SHOT, 31, 0⟩
abbrev ABS_STALE : Nat := 0x90024
abbrev ABS_STALE_COUNT : Field := ⟨ABS_STALE, 15, 0⟩
abbrev ABS_ENTRIES (n : Nat) : Nat := 0x90040 + 0x4 * n
abbrev ABS_ENTRIES_COUNT (n : Nat) : Field := ⟨ABS_ENTRIES n, 31, 0⟩

/-! MOT_ block (R305, Table 11-7). -/

abbrev MOT_SERVO : Nat := 0xA0000
abbrev MOT_SERVO_PERIOD_US : Field := ⟨MOT_SERVO, 5, 0⟩
abbrev MOT_SP_CFG : Nat := 0xA0004
abbrev MOT_SP_CFG_MASK : Field := ⟨MOT_SP_CFG, 5, 0⟩
abbrev MOT_SP_CFG_EN : Field := ⟨MOT_SP_CFG, 8, 8⟩
abbrev MOT_STEP : Nat := 0xA0008
abbrev MOT_STEP_PULSE_NS : Field := ⟨MOT_STEP, 9, 0⟩
abbrev MOT_STEP_DIR_SETUP_NS : Field := ⟨MOT_STEP, 19, 10⟩
abbrev MOT_STALL : Nat := 0xA000C
abbrev MOT_STALL_ANGLE : Field := ⟨MOT_STALL, 6, 0⟩
abbrev MOT_STALL_STEPS : Field := ⟨MOT_STALL, 10, 7⟩
abbrev MOT_STALL_DELAY_US : Field := ⟨MOT_STALL, 18, 11⟩
abbrev MOT_STALL_FMIN : Nat := 0xA0010
abbrev MOT_STALL_FMIN_RATE : Field := ⟨MOT_STALL_FMIN, 23, 0⟩
abbrev MOT_CHOREO : Nat := 0xA0014
abbrev MOT_CHOREO_MASTER : Field := ⟨MOT_CHOREO, 0, 0⟩
abbrev MOT_CHOREO_APPROACH_PX : Field := ⟨MOT_CHOREO, 8, 1⟩
abbrev MOT_CHOREO_TAIL_PX : Field := ⟨MOT_CHOREO, 16, 9⟩
abbrev MOT_CHOREO_RECESS_MIN_MS : Field := ⟨MOT_CHOREO, 26, 17⟩
abbrev MOT_CHOREO_WAIT_MASK : Field := ⟨MOT_CHOREO, 30, 27⟩
abbrev MOT_CMD : Nat := 0xA0018
abbrev MOT_CMD_STOP : Field := ⟨MOT_CMD, 5, 0⟩
abbrev MOT_CMD_CLEAR : Field := ⟨MOT_CMD, 13, 8⟩
abbrev MOT_CH_CFG (n : Nat) : Nat := 0xA0100 + 0x80 * n
abbrev MOT_CH_CFG_MODE (n : Nat) : Field := ⟨MOT_CH_CFG n, 1, 0⟩
abbrev MOT_CH_CFG_INV (n : Nat) : Field := ⟨MOT_CH_CFG n, 2, 2⟩
abbrev MOT_CH_CFG_HOLD_ON_STALL (n : Nat) : Field := ⟨MOT_CH_CFG n, 3, 3⟩
abbrev MOT_CH_CFG_MSTEPS_LOG2 (n : Nat) : Field := ⟨MOT_CH_CFG n, 7, 4⟩
abbrev MOT_CH_CFG_PHASE (n : Nat) : Field := ⟨MOT_CH_CFG n, 15, 8⟩
abbrev MOT_CH_CFG_KE (n : Nat) : Field := ⟨MOT_CH_CFG n, 31, 16⟩
abbrev MOT_CH_STATUS (n : Nat) : Nat := 0xA0104 + 0x80 * n
abbrev MOT_CH_STATUS_STATE (n : Nat) : Field := ⟨MOT_CH_STATUS n, 1, 0⟩
abbrev MOT_CH_STATUS_PENDING (n : Nat) : Field := ⟨MOT_CH_STATUS n, 2, 2⟩
abbrev MOT_CH_STATUS_OWNED (n : Nat) : Field := ⟨MOT_CH_STATUS n, 3, 3⟩
abbrev MOT_CH_STATUS_PLANNED (n : Nat) : Field := ⟨MOT_CH_STATUS n, 4, 4⟩
abbrev MOT_CH_STATUS_SENSE_OFF (n : Nat) : Field := ⟨MOT_CH_STATUS n, 5, 5⟩
abbrev MOT_CH_STATUS_REJECT (n : Nat) : Field := ⟨MOT_CH_STATUS n, 11, 8⟩
abbrev MOT_CH_STATUS_STALL_RUN (n : Nat) : Field := ⟨MOT_CH_STATUS n, 15, 12⟩
abbrev MOT_CH_CMD (n : Nat) : Nat := 0xA0108 + 0x80 * n
abbrev MOT_CH_CMD_COMMIT (n : Nat) : Field := ⟨MOT_CH_CMD n, 0, 0⟩
abbrev MOT_CH_SEQ (n : Nat) : Nat := 0xA010C + 0x80 * n
abbrev MOT_CH_SEQ_SEQ (n : Nat) : Field := ⟨MOT_CH_SEQ n, 31, 0⟩
abbrev MOT_CH_SH_TARGET_LO (n : Nat) : Nat := 0xA0110 + 0x80 * n
abbrev MOT_CH_SH_TARGET_LO_WORD (n : Nat) : Field := ⟨MOT_CH_SH_TARGET_LO n, 31, 0⟩
abbrev MOT_CH_SH_TARGET_HI (n : Nat) : Nat := 0xA0114 + 0x80 * n
abbrev MOT_CH_SH_TARGET_HI_WORD (n : Nat) : Field := ⟨MOT_CH_SH_TARGET_HI n, 31, 0⟩
abbrev MOT_CH_SH_VEND_LO (n : Nat) : Nat := 0xA0118 + 0x80 * n
abbrev MOT_CH_SH_VEND_LO_WORD (n : Nat) : Field := ⟨MOT_CH_SH_VEND_LO n, 31, 0⟩
abbrev MOT_CH_SH_VEND_HI (n : Nat) : Nat := 0xA011C + 0x80 * n
abbrev MOT_CH_SH_VEND_HI_WORD (n : Nat) : Field := ⟨MOT_CH_SH_VEND_HI n, 31, 0⟩
abbrev MOT_CH_SH_VMAX_LO (n : Nat) : Nat := 0xA0120 + 0x80 * n
abbrev MOT_CH_SH_VMAX_LO_WORD (n : Nat) : Field := ⟨MOT_CH_SH_VMAX_LO n, 31, 0⟩
abbrev MOT_CH_SH_VMAX_HI (n : Nat) : Nat := 0xA0124 + 0x80 * n
abbrev MOT_CH_SH_VMAX_HI_WORD (n : Nat) : Field := ⟨MOT_CH_SH_VMAX_HI n, 31, 0⟩
abbrev MOT_CH_SH_AMAX_LO (n : Nat) : Nat := 0xA0128 + 0x80 * n
abbrev MOT_CH_SH_AMAX_LO_WORD (n : Nat) : Field := ⟨MOT_CH_SH_AMAX_LO n, 31, 0⟩
abbrev MOT_CH_SH_AMAX_HI (n : Nat) : Nat := 0xA012C + 0x80 * n
abbrev MOT_CH_SH_AMAX_HI_WORD (n : Nat) : Field := ⟨MOT_CH_SH_AMAX_HI n, 31, 0⟩
abbrev MOT_CH_SH_JMAX_LO (n : Nat) : Nat := 0xA0130 + 0x80 * n
abbrev MOT_CH_SH_JMAX_LO_WORD (n : Nat) : Field := ⟨MOT_CH_SH_JMAX_LO n, 31, 0⟩
abbrev MOT_CH_SH_JMAX_HI (n : Nat) : Nat := 0xA0134 + 0x80 * n
abbrev MOT_CH_SH_JMAX_HI_WORD (n : Nat) : Field := ⟨MOT_CH_SH_JMAX_HI n, 31, 0⟩
abbrev MOT_CH_ACT_TARGET_LO (n : Nat) : Nat := 0xA0140 + 0x80 * n
abbrev MOT_CH_ACT_TARGET_LO_WORD (n : Nat) : Field := ⟨MOT_CH_ACT_TARGET_LO n, 31, 0⟩
abbrev MOT_CH_ACT_TARGET_HI (n : Nat) : Nat := 0xA0144 + 0x80 * n
abbrev MOT_CH_ACT_TARGET_HI_WORD (n : Nat) : Field := ⟨MOT_CH_ACT_TARGET_HI n, 31, 0⟩
abbrev MOT_CH_ACT_VEND_LO (n : Nat) : Nat := 0xA0148 + 0x80 * n
abbrev MOT_CH_ACT_VEND_LO_WORD (n : Nat) : Field := ⟨MOT_CH_ACT_VEND_LO n, 31, 0⟩
abbrev MOT_CH_ACT_VEND_HI (n : Nat) : Nat := 0xA014C + 0x80 * n
abbrev MOT_CH_ACT_VEND_HI_WORD (n : Nat) : Field := ⟨MOT_CH_ACT_VEND_HI n, 31, 0⟩
abbrev MOT_CH_ACT_VMAX_LO (n : Nat) : Nat := 0xA0150 + 0x80 * n
abbrev MOT_CH_ACT_VMAX_LO_WORD (n : Nat) : Field := ⟨MOT_CH_ACT_VMAX_LO n, 31, 0⟩
abbrev MOT_CH_ACT_VMAX_HI (n : Nat) : Nat := 0xA0154 + 0x80 * n
abbrev MOT_CH_ACT_VMAX_HI_WORD (n : Nat) : Field := ⟨MOT_CH_ACT_VMAX_HI n, 31, 0⟩
abbrev MOT_CH_ACT_AMAX_LO (n : Nat) : Nat := 0xA0158 + 0x80 * n
abbrev MOT_CH_ACT_AMAX_LO_WORD (n : Nat) : Field := ⟨MOT_CH_ACT_AMAX_LO n, 31, 0⟩
abbrev MOT_CH_ACT_AMAX_HI (n : Nat) : Nat := 0xA015C + 0x80 * n
abbrev MOT_CH_ACT_AMAX_HI_WORD (n : Nat) : Field := ⟨MOT_CH_ACT_AMAX_HI n, 31, 0⟩
abbrev MOT_CH_ACT_JMAX_LO (n : Nat) : Nat := 0xA0160 + 0x80 * n
abbrev MOT_CH_ACT_JMAX_LO_WORD (n : Nat) : Field := ⟨MOT_CH_ACT_JMAX_LO n, 31, 0⟩
abbrev MOT_CH_ACT_JMAX_HI (n : Nat) : Nat := 0xA0164 + 0x80 * n
abbrev MOT_CH_ACT_JMAX_HI_WORD (n : Nat) : Field := ⟨MOT_CH_ACT_JMAX_HI n, 31, 0⟩
abbrev MOT_CH_LIM_LO_L (n : Nat) : Nat := 0xA0168 + 0x80 * n
abbrev MOT_CH_LIM_LO_L_WORD (n : Nat) : Field := ⟨MOT_CH_LIM_LO_L n, 31, 0⟩
abbrev MOT_CH_LIM_LO_H (n : Nat) : Nat := 0xA016C + 0x80 * n
abbrev MOT_CH_LIM_LO_H_WORD (n : Nat) : Field := ⟨MOT_CH_LIM_LO_H n, 31, 0⟩
abbrev MOT_CH_LIM_HI_L (n : Nat) : Nat := 0xA0170 + 0x80 * n
abbrev MOT_CH_LIM_HI_L_WORD (n : Nat) : Field := ⟨MOT_CH_LIM_HI_L n, 31, 0⟩
abbrev MOT_CH_LIM_HI_H (n : Nat) : Nat := 0xA0174 + 0x80 * n
abbrev MOT_CH_LIM_HI_H_WORD (n : Nat) : Field := ⟨MOT_CH_LIM_HI_H n, 31, 0⟩
abbrev MOT_CH_POS_L (n : Nat) : Nat := 0xA0178 + 0x80 * n
abbrev MOT_CH_POS_L_WORD (n : Nat) : Field := ⟨MOT_CH_POS_L n, 31, 0⟩
abbrev MOT_CH_POS_H (n : Nat) : Nat := 0xA017C + 0x80 * n
abbrev MOT_CH_POS_H_WORD (n : Nat) : Field := ⟨MOT_CH_POS_H n, 31, 0⟩

/-! HBM_ block (R326, Table 12-8). -/

abbrev HBM_MAP_CFG : Nat := 0xB0000
abbrev HBM_MAP_CFG_ORDER : Field := ⟨HBM_MAP_CFG, 1, 0⟩
abbrev HBM_MAP_CFG_LOCK : Field := ⟨HBM_MAP_CFG, 2, 2⟩
abbrev HBM_STATUS : Nat := 0xB0004
abbrev HBM_STATUS_TRAINED : Field := ⟨HBM_STATUS, 0, 0⟩
abbrev HBM_STATUS_BAND_0 : Field := ⟨HBM_STATUS, 2, 1⟩
abbrev HBM_STATUS_BAND_1 : Field := ⟨HBM_STATUS, 4, 3⟩
abbrev HBM_STATUS_HOT : Field := ⟨HBM_STATUS, 5, 5⟩
abbrev HBM_FENCE : Nat := 0xB0008
abbrev HBM_FENCE_CHANNELS : Field := ⟨HBM_FENCE, 31, 0⟩
abbrev HBM_REF_CFG : Nat := 0xB000C
abbrev HBM_REF_CFG_PB_EN : Field := ⟨HBM_REF_CFG, 0, 0⟩
abbrev HBM_REF_CFG_POSTPONE_EN : Field := ⟨HBM_REF_CFG, 1, 1⟩
abbrev HBM_TEMP : Nat := 0xB0010
abbrev HBM_TEMP_S0A : Field := ⟨HBM_TEMP, 7, 0⟩
abbrev HBM_TEMP_S0B : Field := ⟨HBM_TEMP, 15, 8⟩
abbrev HBM_TEMP_S1A : Field := ⟨HBM_TEMP, 23, 16⟩
abbrev HBM_TEMP_S1B : Field := ⟨HBM_TEMP, 31, 24⟩
abbrev HBM_TEMP_CFG : Nat := 0xB0014
abbrev HBM_TEMP_CFG_HOT : Field := ⟨HBM_TEMP_CFG, 7, 0⟩
abbrev HBM_TEMP_CFG_HYST : Field := ⟨HBM_TEMP_CFG, 11, 8⟩
abbrev HBM_REF_DEBT_MAX : Nat := 0xB0018
abbrev HBM_REF_DEBT_MAX_INTERVALS : Field := ⟨HBM_REF_DEBT_MAX, 5, 0⟩
abbrev HBM_REF_FORCED : Nat := 0xB001C
abbrev HBM_REF_FORCED_COUNT : Field := ⟨HBM_REF_FORCED, 31, 0⟩
abbrev HBM_RD_CFG : Nat := 0xB0020
abbrev HBM_RD_CFG_THRESHOLD : Field := ⟨HBM_RD_CFG, 15, 0⟩
abbrev HBM_RD_COUNT : Nat := 0xB0024
abbrev HBM_RD_COUNT_COUNT : Field := ⟨HBM_RD_COUNT, 31, 0⟩
abbrev HBM_PAR_ERR : Nat := 0xB0028
abbrev HBM_PAR_ERR_AERR : Field := ⟨HBM_PAR_ERR, 15, 0⟩
abbrev HBM_PAR_ERR_REPLAY_FAIL : Field := ⟨HBM_PAR_ERR, 31, 16⟩
abbrev HBM_PD_CFG : Nat := 0xB002C
abbrev HBM_PD_CFG_IDLE_NS : Field := ⟨HBM_PD_CFG, 15, 0⟩
abbrev HBM_TRAIN_STATUS : Nat := 0xB0030
abbrev HBM_TRAIN_STATUS_STEP : Field := ⟨HBM_TRAIN_STATUS, 3, 0⟩
abbrev HBM_TRAIN_STATUS_FAIL : Field := ⟨HBM_TRAIN_STATUS, 4, 4⟩
abbrev HBM_TRAIN_STATUS_CHANNEL : Field := ⟨HBM_TRAIN_STATUS, 9, 5⟩
abbrev HBM_TRAIN_STATUS_LANE : Field := ⟨HBM_TRAIN_STATUS, 19, 10⟩
abbrev HBM_TG_CFG : Nat := 0xB0034
abbrev HBM_TG_CFG_PATTERN : Field := ⟨HBM_TG_CFG, 2, 0⟩
abbrev HBM_TG_CFG_CHANNEL : Field := ⟨HBM_TG_CFG, 7, 3⟩
abbrev HBM_TG_CFG_ALL : Field := ⟨HBM_TG_CFG, 8, 8⟩
abbrev HBM_TG_CMD : Nat := 0xB0038
abbrev HBM_TG_CMD_RUN : Field := ⟨HBM_TG_CMD, 0, 0⟩
abbrev HBM_TG_ERR : Nat := 0xB003C
abbrev HBM_TG_ERR_COUNT : Field := ⟨HBM_TG_ERR, 31, 0⟩
abbrev HBM_PORT_TGT (n : Nat) : Nat := 0xB0040 + 0x4 * n
abbrev HBM_PORT_TGT_NS (n : Nat) : Field := ⟨HBM_PORT_TGT n, 15, 0⟩
abbrev HBM_PORT_URG3 (n : Nat) : Nat := 0xB0060 + 0x4 * n
abbrev HBM_PORT_URG3_COUNT (n : Nat) : Field := ⟨HBM_PORT_URG3 n, 31, 0⟩

/-! ECC_ block (R341, Table 13-5). -/

abbrev ECC_STATUS : Nat := 0xC0000
abbrev ECC_STATUS_FILL_BUSY : Field := ⟨ECC_STATUS, 0, 0⟩
abbrev ECC_STATUS_SELFTEST_OK : Field := ⟨ECC_STATUS, 1, 1⟩
abbrev ECC_STATUS_SELFTEST_FAIL : Field := ⟨ECC_STATUS, 9, 2⟩
abbrev ECC_SCRUB_CFG : Nat := 0xC0004
abbrev ECC_SCRUB_CFG_EN : Field := ⟨ECC_SCRUB_CFG, 0, 0⟩
abbrev ECC_SCRUB_CFG_DRAM_PASS_MIN : Field := ⟨ECC_SCRUB_CFG, 12, 1⟩
abbrev ECC_SCRUB_CFG_SRAM_PASS_S : Field := ⟨ECC_SCRUB_CFG, 20, 13⟩
abbrev ECC_CE_COUNT : Nat := 0xC0008
abbrev ECC_CE_COUNT_COUNT : Field := ⟨ECC_CE_COUNT, 31, 0⟩
abbrev ECC_UE_COUNT : Nat := 0xC000C
abbrev ECC_UE_COUNT_COUNT : Field := ⟨ECC_UE_COUNT, 31, 0⟩
abbrev ECC_CE_WARN : Nat := 0xC0010
abbrev ECC_CE_WARN_PER_S : Field := ⟨ECC_CE_WARN, 15, 0⟩
abbrev ECC_LOG_IDX : Nat := 0xC0014
abbrev ECC_LOG_IDX_NEXT : Field := ⟨ECC_LOG_IDX, 3, 0⟩
abbrev ECC_INJECT : Nat := 0xC0018
abbrev ECC_INJECT_KIND : Field := ⟨ECC_INJECT, 1, 0⟩
abbrev ECC_INJECT_TARGET : Field := ⟨ECC_INJECT, 9, 2⟩
abbrev ECC_SRC_LS : Nat := 0xC0020
abbrev ECC_SRC_LS_STRIPE : Field := ⟨ECC_SRC_LS, 15, 0⟩
abbrev ECC_SRC_LS_LAYER : Field := ⟨ECC_SRC_LS, 31, 16⟩
abbrev ECC_SRC_BAND : Nat := 0xC0024
abbrev ECC_SRC_BAND_BAND : Field := ⟨ECC_SRC_BAND, 19, 0⟩
abbrev ECC_SRC_SEQ_LO : Nat := 0xC0028
abbrev ECC_SRC_SEQ_LO_SEQ : Field := ⟨ECC_SRC_SEQ_LO, 31, 0⟩
abbrev ECC_SRC_SEQ_HI : Nat := 0xC002C
abbrev ECC_SRC_SEQ_HI_SEQ : Field := ⟨ECC_SRC_SEQ_HI, 31, 0⟩
abbrev ECC_LOG_ADDR_LO (n : Nat) : Nat := 0xC0040 + 0x10 * n
abbrev ECC_LOG_ADDR_LO_ADDR (n : Nat) : Field := ⟨ECC_LOG_ADDR_LO n, 31, 0⟩
abbrev ECC_LOG_ADDR_HI (n : Nat) : Nat := 0xC0044 + 0x10 * n
abbrev ECC_LOG_ADDR_HI_ADDR (n : Nat) : Field := ⟨ECC_LOG_ADDR_HI n, 2, 0⟩
abbrev ECC_LOG_INFO (n : Nat) : Nat := 0xC0048 + 0x10 * n
abbrev ECC_LOG_INFO_DRAM (n : Nat) : Field := ⟨ECC_LOG_INFO n, 0, 0⟩
abbrev ECC_LOG_INFO_RESULT (n : Nat) : Field := ⟨ECC_LOG_INFO n, 2, 1⟩
abbrev ECC_LOG_INFO_SCRUB (n : Nat) : Field := ⟨ECC_LOG_INFO n, 3, 3⟩
abbrev ECC_LOG_INFO_WHERE (n : Nat) : Field := ⟨ECC_LOG_INFO n, 11, 4⟩
abbrev ECC_LOG_INFO_PORT (n : Nat) : Field := ⟨ECC_LOG_INFO n, 15, 12⟩

/-! DMA_ block (R404, Table 16-7). -/

abbrev DMA_CFG : Nat := 0xD0000
abbrev DMA_CFG_CH_MAX_KIB : Field := ⟨DMA_CFG, 10, 0⟩
abbrev DMA_AER : Nat := 0xD0004
abbrev DMA_AER_WARN : Field := ⟨DMA_AER, 15, 0⟩
abbrev DMA_AER_COUNT : Nat := 0xD0008
abbrev DMA_AER_COUNT_COUNT : Field := ⟨DMA_AER_COUNT, 31, 0⟩
abbrev DMA_CH_CUR_LO (n : Nat) : Nat := 0xD0100 + 0x20 * n
abbrev DMA_CH_CUR_LO_ADDR (n : Nat) : Field := ⟨DMA_CH_CUR_LO n, 31, 0⟩
abbrev DMA_CH_CUR_HI (n : Nat) : Nat := 0xD0104 + 0x20 * n
abbrev DMA_CH_CUR_HI_ADDR (n : Nat) : Field := ⟨DMA_CH_CUR_HI n, 31, 0⟩
abbrev DMA_CH_ERR_ADDR_LO (n : Nat) : Nat := 0xD0108 + 0x20 * n
abbrev DMA_CH_ERR_ADDR_LO_ADDR (n : Nat) : Field := ⟨DMA_CH_ERR_ADDR_LO n, 31, 0⟩
abbrev DMA_CH_ERR_ADDR_HI (n : Nat) : Nat := 0xD010C + 0x20 * n
abbrev DMA_CH_ERR_ADDR_HI_ADDR (n : Nat) : Field := ⟨DMA_CH_ERR_ADDR_HI n, 31, 0⟩
abbrev DMA_CH_BYTES (n : Nat) : Nat := 0xD0110 + 0x20 * n
abbrev DMA_CH_BYTES_COUNT (n : Nat) : Field := ⟨DMA_CH_BYTES n, 31, 0⟩

/-! CHK_ block (R404, Table 16-8). -/

abbrev CHK_UNIT_CFG (n : Nat) : Nat := 0xE0000 + 0x40 * n
abbrev CHK_UNIT_CFG_ALG (n : Nat) : Field := ⟨CHK_UNIT_CFG n, 1, 0⟩
abbrev CHK_UNIT_CFG_GUARD (n : Nat) : Field := ⟨CHK_UNIT_CFG n, 3, 2⟩
abbrev CHK_UNIT_FOLD_LO (n : Nat) : Nat := 0xE0004 + 0x40 * n
abbrev CHK_UNIT_FOLD_LO_VALUE (n : Nat) : Field := ⟨CHK_UNIT_FOLD_LO n, 31, 0⟩
abbrev CHK_UNIT_FOLD_HI (n : Nat) : Nat := 0xE0008 + 0x40 * n
abbrev CHK_UNIT_FOLD_HI_VALUE (n : Nat) : Field := ⟨CHK_UNIT_FOLD_HI n, 31, 0⟩
abbrev CHK_UNIT_CMD (n : Nat) : Nat := 0xE000C + 0x40 * n
abbrev CHK_UNIT_CMD_START (n : Nat) : Field := ⟨CHK_UNIT_CMD n, 0, 0⟩
abbrev CHK_UNIT_DATA8 (n : Nat) : Nat := 0xE0010 + 0x40 * n
abbrev CHK_UNIT_DATA8_BYTE (n : Nat) : Field := ⟨CHK_UNIT_DATA8 n, 7, 0⟩
abbrev CHK_UNIT_DATA16 (n : Nat) : Nat := 0xE0014 + 0x40 * n
abbrev CHK_UNIT_DATA16_HALF (n : Nat) : Field := ⟨CHK_UNIT_DATA16 n, 15, 0⟩
abbrev CHK_UNIT_DATA32 (n : Nat) : Nat := 0xE0018 + 0x40 * n
abbrev CHK_UNIT_DATA32_WORD (n : Nat) : Field := ⟨CHK_UNIT_DATA32 n, 31, 0⟩
abbrev CHK_UNIT_DATA32A (n : Nat) : Nat := 0xE001C + 0x40 * n
abbrev CHK_UNIT_DATA32A_WORD (n : Nat) : Field := ⟨CHK_UNIT_DATA32A n, 31, 0⟩
abbrev CHK_UNIT_RESULT_LO (n : Nat) : Nat := 0xE0020 + 0x40 * n
abbrev CHK_UNIT_RESULT_LO_VALUE (n : Nat) : Field := ⟨CHK_UNIT_RESULT_LO n, 31, 0⟩
abbrev CHK_UNIT_RESULT_HI (n : Nat) : Nat := 0xE0024 + 0x40 * n
abbrev CHK_UNIT_RESULT_HI_VALUE (n : Nat) : Field := ⟨CHK_UNIT_RESULT_HI n, 31, 0⟩
abbrev CHK_UNIT_COUNT (n : Nat) : Nat := 0xE0028 + 0x40 * n
abbrev CHK_UNIT_COUNT_BYTES (n : Nat) : Field := ⟨CHK_UNIT_COUNT n, 31, 0⟩
abbrev CHK_UNIT_STATUS (n : Nat) : Nat := 0xE002C + 0x40 * n
abbrev CHK_UNIT_STATUS_QUEUED (n : Nat) : Field := ⟨CHK_UNIT_STATUS n, 4, 0⟩
abbrev CHK_UNIT_STATUS_DROPPED (n : Nat) : Field := ⟨CHK_UNIT_STATUS n, 31, 16⟩

/-! COH_ block (R429, Table 17-5). -/

abbrev COH_CFG : Nat := 0xF0000
abbrev COH_CFG_MEMBERS : Field := ⟨COH_CFG, 5, 0⟩
abbrev COH_CFG_OWN : Field := ⟨COH_CFG, 12, 8⟩
abbrev COH_STATUS : Nat := 0xF0004
abbrev COH_STATUS_EAST_UP : Field := ⟨COH_STATUS, 0, 0⟩
abbrev COH_STATUS_WEST_UP : Field := ⟨COH_STATUS, 1, 1⟩
abbrev COH_STATUS_WHOLE : Field := ⟨COH_STATUS, 2, 2⟩
abbrev COH_STATUS_IN_MASTER_PART : Field := ⟨COH_STATUS, 3, 3⟩
abbrev COH_STATUS_TIME_SRC : Field := ⟨COH_STATUS, 5, 4⟩
abbrev COH_KEEP : Nat := 0xF0008
abbrev COH_KEEP_MASK : Field := ⟨COH_KEEP, 31, 0⟩
abbrev COH_REACH : Nat := 0xF000C
abbrev COH_REACH_MASK : Field := ⟨COH_REACH, 31, 0⟩
abbrev COH_EPOCH : Nat := 0xF0010
abbrev COH_EPOCH_EPOCH : Field := ⟨COH_EPOCH, 31, 0⟩
abbrev COH_DIGEST_LO : Nat := 0xF0014
abbrev COH_DIGEST_LO_VALUE : Field := ⟨COH_DIGEST_LO, 31, 0⟩
abbrev COH_DIGEST_HI : Nat := 0xF0018
abbrev COH_DIGEST_HI_VALUE : Field := ⟨COH_DIGEST_HI, 31, 0⟩
abbrev COH_TIME_OFS : Nat := 0xF001C
abbrev COH_TIME_OFS_PS : Field := ⟨COH_TIME_OFS, 31, 0⟩
abbrev COH_HOLD_ID : Nat := 0xF0020
abbrev COH_HOLD_ID_ID : Field := ⟨COH_HOLD_ID, 15, 0⟩
abbrev COH_LANES : Nat := 0xF0024
abbrev COH_LANES_EAST : Field := ⟨COH_LANES, 3, 0⟩
abbrev COH_LANES_WEST : Field := ⟨COH_LANES, 7, 4⟩
abbrev COH_FRAME_ERR : Nat := 0xF0028
abbrev COH_FRAME_ERR_CRC : Field := ⟨COH_FRAME_ERR, 15, 0⟩
abbrev COH_FRAME_ERR_ALIVE : Field := ⟨COH_FRAME_ERR, 31, 16⟩
abbrev COH_DELAY : Nat := 0xF002C
abbrev COH_DELAY_EAST : Field := ⟨COH_DELAY, 15, 0⟩
abbrev COH_DELAY_WEST : Field := ⟨COH_DELAY, 31, 16⟩

/-! TIM_ block (R443, Table 18-2). -/

abbrev TIM_NS : Nat := 0x100000
abbrev TIM_NS_NS : Field := ⟨TIM_NS, 31, 0⟩
abbrev TIM_FRAC : Nat := 0x100004
abbrev TIM_FRAC_FRAC : Field := ⟨TIM_FRAC, 31, 0⟩
abbrev TIM_WRAPS : Nat := 0x100008
abbrev TIM_WRAPS_WRAPS : Field := ⟨TIM_WRAPS, 15, 0⟩
abbrev TIM_INC_LO : Nat := 0x10000C
abbrev TIM_INC_LO_VALUE : Field := ⟨TIM_INC_LO, 31, 0⟩
abbrev TIM_INC_HI : Nat := 0x100010
abbrev TIM_INC_HI_VALUE : Field := ⟨TIM_INC_HI, 31, 0⟩
abbrev TIM_STATUS : Nat := 0x100014
abbrev TIM_STATUS_SRC : Field := ⟨TIM_STATUS, 1, 0⟩
abbrev TIM_STATUS_PTP_EN : Field := ⟨TIM_STATUS, 2, 2⟩
abbrev TIM_STATUS_PTP_LOCK : Field := ⟨TIM_STATUS, 3, 3⟩
abbrev TIM_STATUS_REF_LOCK : Field := ⟨TIM_STATUS, 4, 4⟩
abbrev TIM_STATUS_REF_EN : Field := ⟨TIM_STATUS, 5, 5⟩
abbrev TIM_PTP_OFS : Nat := 0x100018
abbrev TIM_PTP_OFS_NS : Field := ⟨TIM_PTP_OFS, 31, 0⟩
abbrev TIM_REF_ERR : Nat := 0x10001C
abbrev TIM_REF_ERR_PPB : Field := ⟨TIM_REF_ERR, 31, 0⟩
abbrev TIM_STEP_LAST : Nat := 0x100020
abbrev TIM_STEP_LAST_NS : Field := ⟨TIM_STEP_LAST, 31, 0⟩
abbrev TIM_TRIG_STATUS : Nat := 0x100024
abbrev TIM_TRIG_STATUS_ACTIVE : Field := ⟨TIM_TRIG_STATUS, 7, 0⟩
abbrev TIM_TRIG_STATUS_LATE : Field := ⟨TIM_TRIG_STATUS, 15, 8⟩
abbrev TIM_TS_COUNT : Nat := 0x100028
abbrev TIM_TS_COUNT_ENTRIES : Field := ⟨TIM_TS_COUNT, 4, 0⟩
abbrev TIM_TS_DROP : Nat := 0x10002C
abbrev TIM_TS_DROP_COUNT : Field := ⟨TIM_TS_DROP, 15, 0⟩
abbrev TIM_REST_WRAPS : Nat := 0x100030
abbrev TIM_REST_WRAPS_WRAPS : Field := ⟨TIM_REST_WRAPS, 15, 0⟩
abbrev TIM_TRIG_LAST (n : Nat) : Nat := 0x100040 + 0x8 * n
abbrev TIM_TRIG_LAST_CODE (n : Nat) : Field := ⟨TIM_TRIG_LAST n, 15, 0⟩
abbrev TIM_TRIG_SKIP (n : Nat) : Nat := 0x100044 + 0x8 * n
abbrev TIM_TRIG_SKIP_COUNT (n : Nat) : Field := ⟨TIM_TRIG_SKIP n, 31, 0⟩

/-! SEC_ block (R463, Table 19-7). -/

abbrev SEC_STATUS : Nat := 0x110000
abbrev SEC_STATUS_LIFECYCLE : Field := ⟨SEC_STATUS, 1, 0⟩
abbrev SEC_STATUS_ROOT_KEY : Field := ⟨SEC_STATUS, 2, 2⟩
abbrev SEC_STATUS_JOB_KEY : Field := ⟨SEC_STATUS, 3, 3⟩
abbrev SEC_STATUS_DEBUG_OPEN : Field := ⟨SEC_STATUS, 4, 4⟩
abbrev SEC_STATUS_SLOT : Field := ⟨SEC_STATUS, 5, 5⟩
abbrev SEC_STATUS_FALLBACK : Field := ⟨SEC_STATUS, 6, 6⟩
abbrev SEC_ROLLBACK : Nat := 0x110004
abbrev SEC_ROLLBACK_COUNTER : Field := ⟨SEC_ROLLBACK, 6, 0⟩
abbrev SEC_ZEROIZE : Nat := 0x110008
abbrev SEC_ZEROIZE_PENDING : Field := ⟨SEC_ZEROIZE, 0, 0⟩
abbrev SEC_DEBUG_COUNT : Nat := 0x11000C
abbrev SEC_DEBUG_COUNT_COUNT : Field := ⟨SEC_DEBUG_COUNT, 15, 0⟩

/-! PWR_ block (R486, Table 20-11). -/

abbrev PWR_STATUS : Nat := 0x120000
abbrev PWR_STATUS_DOMAINS : Field := ⟨PWR_STATUS, 8, 0⟩
abbrev PWR_STATUS_WARN : Field := ⟨PWR_STATUS, 9, 9⟩
abbrev PWR_STATUS_RECOVERING : Field := ⟨PWR_STATUS, 10, 10⟩
abbrev PWR_CFG : Nat := 0x120004
abbrev PWR_CFG_AUTO_RESUME : Field := ⟨PWR_CFG, 0, 0⟩
abbrev PWR_CFG_WAKE_L_EN : Field := ⟨PWR_CFG, 1, 1⟩
abbrev PWR_CFG_COH_WAKE_EN : Field := ⟨PWR_CFG, 2, 2⟩
abbrev PWR_VIN : Nat := 0x120008
abbrev PWR_VIN_MV : Field := ⟨PWR_VIN, 15, 0⟩
abbrev PWR_VIN_MIN : Nat := 0x12000C
abbrev PWR_VIN_MIN_MV : Field := ⟨PWR_VIN_MIN, 15, 0⟩
abbrev PWR_DIP_COUNT : Nat := 0x120010
abbrev PWR_DIP_COUNT_COUNT : Field := ⟨PWR_DIP_COUNT, 15, 0⟩
abbrev PWR_RAIL_WARN : Nat := 0x120014
abbrev PWR_RAIL_WARN_RAILS : Field := ⟨PWR_RAIL_WARN, 7, 0⟩
abbrev PWR_REST_STATUS : Nat := 0x120018
abbrev PWR_REST_STATUS_LAST_AP : Field := ⟨PWR_REST_STATUS, 2, 0⟩
abbrev PWR_REST_STATUS_UNWOUND : Field := ⟨PWR_REST_STATUS, 3, 3⟩
abbrev PWR_REST_STATUS_TIMEOUT : Field := ⟨PWR_REST_STATUS, 4, 4⟩
abbrev PWR_REST_STATUS_WAKE_SRC : Field := ⟨PWR_REST_STATUS, 6, 5⟩
abbrev PWR_RESET_CAUSE : Nat := 0x12001C
abbrev PWR_RESET_CAUSE_POR : Field := ⟨PWR_RESET_CAUSE, 0, 0⟩
abbrev PWR_RESET_CAUSE_BROWNOUT : Field := ⟨PWR_RESET_CAUSE, 1, 1⟩
abbrev PWR_RESET_CAUSE_MRST : Field := ⟨PWR_RESET_CAUSE, 2, 2⟩
abbrev PWR_RESET_CAUSE_RETENTION : Field := ⟨PWR_RESET_CAUSE, 3, 3⟩
abbrev PWR_RESET_CAUSE_WATCHDOG : Field := ⟨PWR_RESET_CAUSE, 4, 4⟩
abbrev PWR_WDOG : Nat := 0x120020
abbrev PWR_WDOG_TIMEOUT_MS : Field := ⟨PWR_WDOG, 15, 0⟩
abbrev PWR_CKPT_SEQ_LO : Nat := 0x120024
abbrev PWR_CKPT_SEQ_LO_SEQ : Field := ⟨PWR_CKPT_SEQ_LO, 31, 0⟩
abbrev PWR_CKPT_SEQ_HI : Nat := 0x120028
abbrev PWR_CKPT_SEQ_HI_SEQ : Field := ⟨PWR_CKPT_SEQ_HI, 31, 0⟩
abbrev PWR_RET (n : Nat) : Nat := 0x120030 + 0x4 * n
abbrev PWR_RET_BANKS (n : Nat) : Field := ⟨PWR_RET n, 31, 0⟩
abbrev PWR_VOTE (n : Nat) : Nat := 0x120040 + 0x4 * n
abbrev PWR_VOTE_VOTES (n : Nat) : Field := ⟨PWR_VOTE n, 7, 0⟩
abbrev PWR_LOST (n : Nat) : Nat := 0x120070 + 0x4 * n
abbrev PWR_LOST_BANKS (n : Nat) : Field := ⟨PWR_LOST n, 31, 0⟩
abbrev PWR_LOST_RGN : Nat := 0x12007C
abbrev PWR_LOST_RGN_REGIONS : Field := ⟨PWR_LOST_RGN, 15, 0⟩

/-! CLK_ block (R497, Table 21-5). -/

abbrev CLK_STATUS : Nat := 0x130000
abbrev CLK_STATUS_BELL : Field := ⟨CLK_STATUS, 0, 0⟩
abbrev CLK_STATUS_CORE : Field := ⟨CLK_STATUS, 1, 1⟩
abbrev CLK_STATUS_PROC : Field := ⟨CLK_STATUS, 2, 2⟩
abbrev CLK_STATUS_DRAM : Field := ⟨CLK_STATUS, 3, 3⟩
abbrev CLK_STATUS_OPT : Field := ⟨CLK_STATUS, 4, 4⟩
abbrev CLK_STATUS_PORT : Field := ⟨CLK_STATUS, 5, 5⟩
abbrev CLK_SPREAD : Nat := 0x130004
abbrev CLK_SPREAD_CORE : Field := ⟨CLK_SPREAD, 0, 0⟩
abbrev CLK_SPREAD_PROC : Field := ⟨CLK_SPREAD, 1, 1⟩
abbrev CLK_UNLOCK_COUNT : Nat := 0x130008
abbrev CLK_UNLOCK_COUNT_COUNT : Field := ⟨CLK_UNLOCK_COUNT, 15, 0⟩
abbrev CLK_XOVR : Nat := 0x13000C
abbrev CLK_XOVR_FLAGS : Field := ⟨CLK_XOVR, 26, 0⟩

/-! MON_ block (R513, Table 22-4). -/

abbrev MON_TEMP : Nat := 0x140000
abbrev MON_TEMP_WARN : Field := ⟨MON_TEMP, 7, 0⟩
abbrev MON_TEMP_TRIP : Field := ⟨MON_TEMP, 15, 8⟩
abbrev MON_GPIO_EVT : Nat := 0x140004
abbrev MON_GPIO_EVT_RISE : Field := ⟨MON_GPIO_EVT, 7, 0⟩
abbrev MON_GPIO_EVT_FALL : Field := ⟨MON_GPIO_EVT, 15, 8⟩
abbrev MON_SNAP : Nat := 0x140008
abbrev MON_SNAP_EN : Field := ⟨MON_SNAP, 0, 0⟩
abbrev MON_SNAP_PERIOD_MS : Field := ⟨MON_SNAP, 16, 1⟩
abbrev MON_DIAG_HEAD : Nat := 0x14000C
abbrev MON_DIAG_HEAD_BYTES : Field := ⟨MON_DIAG_HEAD, 31, 0⟩
abbrev MON_DIAG_ACK : Nat := 0x140010
abbrev MON_DIAG_ACK_BYTES : Field := ⟨MON_DIAG_ACK, 31, 0⟩
abbrev MON_DIAG_LOST : Nat := 0x140014
abbrev MON_DIAG_LOST_COUNT : Field := ⟨MON_DIAG_LOST, 15, 0⟩
abbrev MON_BIST_STATUS : Nat := 0x140018
abbrev MON_BIST_STATUS_RUNNING : Field := ⟨MON_BIST_STATUS, 0, 0⟩
abbrev MON_BIST_STATUS_KIND : Field := ⟨MON_BIST_STATUS, 1, 1⟩
abbrev MON_BIST_STATUS_TESTED : Field := ⟨MON_BIST_STATUS, 10, 2⟩
abbrev MON_BIST_STATUS_FAILED : Field := ⟨MON_BIST_STATUS, 19, 11⟩
abbrev MON_BIST_STATUS_MEM_FAIL : Field := ⟨MON_BIST_STATUS, 20, 20⟩
abbrev MON_BIST_MISR_LO : Nat := 0x14001C
abbrev MON_BIST_MISR_LO_VALUE : Field := ⟨MON_BIST_MISR_LO, 31, 0⟩
abbrev MON_BIST_MISR_HI : Nat := 0x140020
abbrev MON_BIST_MISR_HI_VALUE : Field := ⟨MON_BIST_MISR_HI, 31, 0⟩
abbrev MON_BIST_FAIL_ADDR_LO : Nat := 0x140024
abbrev MON_BIST_FAIL_ADDR_LO_ADDR : Field := ⟨MON_BIST_FAIL_ADDR_LO, 31, 0⟩
abbrev MON_BIST_FAIL_ADDR_HI : Nat := 0x140028
abbrev MON_BIST_FAIL_ADDR_HI_ADDR : Field := ⟨MON_BIST_FAIL_ADDR_HI, 2, 0⟩
abbrev MON_BIST_FAIL_ADDR_HI_DRAM : Field := ⟨MON_BIST_FAIL_ADDR_HI, 3, 3⟩
abbrev MON_BIST_FAIL_ADDR_HI_WHERE : Field := ⟨MON_BIST_FAIL_ADDR_HI, 10, 4⟩
abbrev MON_PROBE_SRC (n : Nat) : Nat := 0x140100 + 0x10 * n
abbrev MON_PROBE_SRC_SOURCE (n : Nat) : Field := ⟨MON_PROBE_SRC n, 15, 0⟩
abbrev MON_PROBE_WIDTH (n : Nat) : Nat := 0x140104 + 0x10 * n
abbrev MON_PROBE_WIDTH_BIN_WIDTH (n : Nat) : Field := ⟨MON_PROBE_WIDTH n, 31, 0⟩
abbrev MON_PROBE_LO (n : Nat) : Nat := 0x140108 + 0x10 * n
abbrev MON_PROBE_LO_LIMIT_LO (n : Nat) : Field := ⟨MON_PROBE_LO n, 31, 0⟩
abbrev MON_PROBE_HI (n : Nat) : Nat := 0x14010C + 0x10 * n
abbrev MON_PROBE_HI_LIMIT_HI (n : Nat) : Field := ⟨MON_PROBE_HI n, 31, 0⟩

end Reg

/-- Access codes and POR values of the BAR0_ block (R358, R404, Tables 14-7b and 16-6). -/
def regsBar0 : List RegDesc := [
  ⟨0x0F000, 16, 0x4, 0x0, 0x0, 0xFFFFFFFF, 0x0, 0x0, 0x0, 0x0⟩,
  ⟨0x0F040, 8, 0x4, 0x0, 0x0, 0x0, 0x0, 0x0, 0xFFFFFFFF, 0x0⟩,
  ⟨0x0F060, 1, 0x0, 0x0, 0x0, 0x0, 0x0, 0x0, 0x0, 0xFFFF⟩,
  ⟨0x0F064, 1, 0x0, 0x0, 0x0, 0x0, 0xFFFFFFFF, 0x0, 0x0, 0x0⟩,
  ⟨0x0F068, 1, 0x0, 0x0, 0x0, 0x0, 0x0, 0x0, 0x0, 0xFFFFFFFF⟩,
  ⟨0x0F06C, 1, 0x0, 0x0, 0x0, 0x0, 0x0, 0x0, 0x0, 0xFFFFFFFF⟩,
  ⟨0x0F080, 8, 0x10, 0x0, 0xFFFFFFFF, 0x0, 0x0, 0x0, 0x0, 0x0⟩,
  ⟨0x0F084, 8, 0x10, 0x0, 0xFFFFFFFF, 0x0, 0x0, 0x0, 0x0, 0x0⟩,
  ⟨0x0F088, 8, 0x10, 0x0, 0x0, 0x7, 0x0, 0x0, 0x0, 0x0⟩,
  ⟨0x0F08C, 8, 0x10, 0x0, 0x0, 0x0, 0x0, 0x0, 0x0, 0xFF03FFFF⟩]

/-- Access codes and POR values of the BELL_ block (R210, Table 7-4). -/
def regsBell : List RegDesc := [
  ⟨0x10000, 1, 0x0, 0x7D00, 0xFFFFF, 0x0, 0x0, 0x0, 0x0, 0x0⟩,
  ⟨0x10004, 1, 0x0, 0x8394, 0xFFFFF, 0x0, 0x0, 0x0, 0x0, 0x0⟩,
  ⟨0x10008, 1, 0x0, 0x0, 0x0, 0x0, 0x0, 0x0, 0x0, 0xFFFFFFFF⟩,
  ⟨0x1000C, 1, 0x0, 0x0, 0x0, 0x0, 0x0, 0x0, 0x0, 0xFFFFFFFF⟩,
  ⟨0x10010, 1, 0x0, 0xFFFFFFFF, 0x0, 0x0, 0xFFFFFFFF, 0x0, 0x0, 0x0⟩,
  ⟨0x10014, 1, 0x0, 0x0, 0x0, 0x0, 0x0, 0x0, 0x0, 0xFFFFFFFF⟩,
  ⟨0x10018, 1, 0x0, 0x0, 0x0, 0x0, 0xFFFFFFFF, 0x0, 0x0, 0x0⟩,
  ⟨0x1001C, 1, 0x0, 0x0, 0x0, 0x0, 0xFFFFFFFF, 0x0, 0x0, 0x0⟩,
  ⟨0x10020, 1, 0x0, 0x0, 0x0, 0x0, 0xFFFF, 0x0, 0x0, 0x0⟩]

/-- Access codes and POR values of the POS_ block (R210, Table 7-4). -/
def regsPos : List RegDesc := [
  ⟨0x20000, 1, 0x0, 0x21080, 0x7FFFF, 0x0, 0x0, 0x0, 0x0, 0x0⟩,
  ⟨0x20004, 1, 0x0, 0x4, 0xFF, 0x0, 0x0, 0x0, 0x0, 0x0⟩,
  ⟨0x20008, 1, 0x0, 0x4, 0x7, 0x0, 0x0, 0x0, 0x0, 0x0⟩,
  ⟨0x2000C, 1, 0x0, 0x2, 0xFF, 0x0, 0x0, 0x0, 0x0, 0x0⟩,
  ⟨0x20010, 1, 0x0, 0x0, 0xFFFFFFFF, 0x0, 0x0, 0x0, 0x0, 0x0⟩,
  ⟨0x20014, 1, 0x0, 0x400, 0xF7F, 0x0, 0x0, 0x0, 0x0, 0x0⟩,
  ⟨0x20018, 1, 0x0, 0x0, 0xFFFFFFFF, 0x0, 0x0, 0x0, 0x0, 0x0⟩,
  ⟨0x2001C, 1, 0x0, 0x0, 0xFF, 0x0, 0x0, 0x0, 0x0, 0x0⟩,
  ⟨0x20020, 1, 0x0, 0x0, 0x0, 0x0, 0x0, 0x0, 0x0, 0x3F⟩,
  ⟨0x20024, 1, 0x0, 0x0, 0x0, 0x3, 0x0, 0x0, 0x0, 0x0⟩,
  ⟨0x20028, 1, 0x0, 0x0, 0xFFFFFFFF, 0x0, 0x0, 0x0, 0x0, 0x0⟩,
  ⟨0x2002C, 1, 0x0, 0x0, 0xFF, 0x0, 0x0, 0x0, 0x0, 0x0⟩,
  ⟨0x20030, 1, 0x0, 0x0, 0x0, 0x0, 0x0, 0x0, 0x0, 0xFFFFFFFF⟩,
  ⟨0x20034, 1, 0x0, 0x0, 0x0, 0x0, 0x0, 0x0, 0x0, 0xFF⟩,
  ⟨0x20038, 1, 0x0, 0x0, 0x0, 0x0, 0x0, 0x0, 0x0, 0xFFFFFFFF⟩,
  ⟨0x2003C, 1, 0x0, 0x0, 0x0, 0x0, 0x0, 0x0, 0x0, 0xFF⟩,
  ⟨0x20040, 1, 0x0, 0x0, 0x0, 0x0, 0x0, 0x0, 0x0, 0xFFFFFFFF⟩,
  ⟨0x20044, 1, 0x0, 0x0, 0x0, 0x0, 0x0, 0x0, 0x0, 0xFF⟩,
  ⟨0x20048, 1, 0x0, 0x0, 0x0, 0x0, 0x0, 0x0, 0x0, 0xFFFFFFFF⟩,
  ⟨0x2004C, 1, 0x0, 0x0, 0x0, 0x0, 0x0, 0x0, 0x0, 0xFF⟩,
  ⟨0x20050, 1, 0x0, 0x0, 0x0, 0x0, 0xFFFF, 0x0, 0x0, 0x0⟩,
  ⟨0x20054, 1, 0x0, 0x0, 0x0, 0x0, 0xFFFFFFFF, 0x0, 0x0, 0x0⟩,
  ⟨0x20058, 1, 0x0, 0x0, 0x0, 0x0, 0xFFFF, 0x0, 0x0, 0x0⟩]

/-- Access codes and POR values of the GTH_ block (R183, Table 6-6). -/
def regsGth : List RegDesc := [
  ⟨0x30000, 1, 0x0, 0x0, 0x0, 0x1, 0x0, 0x0, 0x0, 0x0⟩,
  ⟨0x30004, 1, 0x0, 0x0, 0x0, 0x0, 0x0, 0x0, 0x0, 0x1⟩,
  ⟨0x30008, 1, 0x0, 0x0, 0x0, 0x0, 0x0, 0x0, 0x0, 0xFFFFFFFF⟩,
  ⟨0x3000C, 1, 0x0, 0x40, 0xFF, 0x0, 0x0, 0x0, 0x0, 0x0⟩,
  ⟨0x30010, 1, 0x0, 0x0, 0x0, 0x0, 0x0, 0x0, 0x0, 0x1FFF⟩,
  ⟨0x30014, 1, 0x0, 0x0, 0x0, 0x0, 0x1FFF, 0x0, 0x0, 0x0⟩,
  ⟨0x30018, 1, 0x0, 0xFFFF, 0x0, 0x0, 0xFFFF, 0x0, 0x0, 0x0⟩,
  ⟨0x3001C, 1, 0x0, 0x0, 0x0, 0x0, 0xFFFFFFFF, 0x0, 0x0, 0x0⟩,
  ⟨0x30020, 1, 0x0, 0x0, 0x0, 0x0, 0xFFFFFFFF, 0x0, 0x0, 0x0⟩,
  ⟨0x30024, 1, 0x0, 0x0, 0x0, 0x0, 0xFFFFFFFF, 0x0, 0x0, 0x0⟩,
  ⟨0x30028, 1, 0x0, 0x0, 0x0, 0x0, 0xFFFFFFFF, 0x0, 0x0, 0x0⟩,
  ⟨0x3002C, 1, 0x0, 0x0, 0x0, 0x7FFF003F, 0x0, 0x0, 0x0, 0x0⟩,
  ⟨0x30030, 1, 0x0, 0x0, 0x0, 0x0, 0x0, 0x0, 0x0, 0x1⟩,
  ⟨0x30034, 1, 0x0, 0x0, 0xFFFFFFFF, 0x0, 0x0, 0x0, 0x0, 0x0⟩,
  ⟨0x30040, 1, 0x0, 0x0, 0xFFFFFF, 0x0, 0x0, 0x0, 0x0, 0x0⟩,
  ⟨0x30044, 1, 0x0, 0x0, 0xFFFFFF, 0x0, 0x0, 0x0, 0x0, 0x0⟩,
  ⟨0x30048, 1, 0x0, 0x0, 0xFFFFFF, 0x0, 0x0, 0x0, 0x0, 0x0⟩,
  ⟨0x3004C, 1, 0x0, 0x1010, 0xFFFF, 0x0, 0x0, 0x0, 0x0, 0x0⟩,
  ⟨0x30050, 1, 0x0, 0x1000, 0x1FFF, 0x0, 0x0, 0x0, 0x0, 0x0⟩,
  ⟨0x30080, 1, 0x0, 0x0, 0x0, 0x0, 0x0, 0x0, 0x0, 0xFFFFFF⟩,
  ⟨0x30084, 1, 0x0, 0x0, 0x0, 0x0, 0x0, 0x0, 0x0, 0xFFFFFF⟩,
  ⟨0x30088, 1, 0x0, 0x0, 0x0, 0x0, 0x0, 0x0, 0x0, 0xFFFFFF⟩,
  ⟨0x3008C, 1, 0x0, 0x1010, 0x0, 0x0, 0x0, 0x0, 0x0, 0xFFFF⟩,
  ⟨0x30090, 1, 0x0, 0x1000, 0x0, 0x0, 0x0, 0x0, 0x0, 0x1FFF⟩,
  ⟨0x30100, 16, 0x10, 0x0, 0x3FFFF, 0x0, 0x0, 0x0, 0x0, 0x0⟩,
  ⟨0x30104, 16, 0x10, 0x0, 0xFFFFFFFF, 0x0, 0x0, 0x0, 0x0, 0x0⟩,
  ⟨0x30108, 16, 0x10, 0x0, 0xFFFFFFFF, 0x0, 0x0, 0x0, 0x0, 0x0⟩]

/-- Access codes and POR values of the RAS_ block (R153, Table 5-2). -/
def regsRas : List RegDesc := [
  ⟨0x40000, 1, 0x0, 0x0, 0x0, 0x0, 0x0, 0x0, 0x0, 0x3⟩,
  ⟨0x40004, 1, 0x0, 0x0, 0x0, 0x0, 0x0, 0x0, 0x0, 0xFFFFF⟩,
  ⟨0x40008, 1, 0x0, 0x0, 0x0, 0x0, 0x0, 0x0, 0x0, 0xFFFFFFFF⟩,
  ⟨0x4000C, 1, 0x0, 0x0, 0x0, 0x0, 0x0, 0x0, 0x0, 0x1FF⟩,
  ⟨0x40010, 1, 0x0, 0x0, 0x0, 0x0, 0x1FF, 0x0, 0x0, 0x0⟩,
  ⟨0x40014, 1, 0x0, 0x8, 0x1FF, 0x0, 0x0, 0x0, 0x0, 0x0⟩,
  ⟨0x40018, 1, 0x0, 0x1400000, 0xFFFFFFFF, 0x0, 0x0, 0x0, 0x0, 0x0⟩,
  ⟨0x4001C, 1, 0x0, 0x0, 0x0, 0x0, 0x0, 0x0, 0x0, 0xFFFFFFFF⟩,
  ⟨0x40020, 1, 0x0, 0x0, 0x0, 0x0, 0xFFFF, 0x0, 0x0, 0x0⟩,
  ⟨0x40024, 1, 0x0, 0x0, 0x0, 0x0, 0xFFFFFFFF, 0x0, 0x0, 0x0⟩,
  ⟨0x40028, 1, 0x0, 0x0, 0x0, 0x0, 0xFFFFFFFF, 0x0, 0x0, 0x0⟩]

/-- Access codes and POR values of the PEC_ block (R153, Table 5-2). -/
def regsPec : List RegDesc := [
  ⟨0x50000, 1, 0x0, 0x0, 0x0, 0x0, 0x0, 0x0, 0x0, 0x1⟩,
  ⟨0x50004, 1, 0x0, 0x0, 0xFFF, 0x0, 0x0, 0x0, 0x0, 0x0⟩,
  ⟨0x50008, 1, 0x0, 0x0, 0x0, 0x0, 0x0, 0x0, 0x0, 0x3FFFFF⟩,
  ⟨0x5000C, 1, 0x0, 0x0, 0x0, 0x0, 0x0, 0x0, 0x0, 0xFFFF⟩]

/-- Access codes and POR values of the SKV_ block (R129, Table 4-3). -/
def regsSkv : List RegDesc := [
  ⟨0x60000, 1, 0x0, 0x3F, 0x3FF, 0x0, 0x0, 0x0, 0x0, 0x0⟩,
  ⟨0x60004, 1, 0x0, 0x40, 0x7F, 0x0, 0x0, 0x0, 0x0, 0x0⟩,
  ⟨0x60008, 1, 0x0, 0x0, 0x0, 0x0, 0x0, 0x0, 0x0, 0x3⟩,
  ⟨0x6000C, 1, 0x0, 0x0, 0x0, 0x0, 0x0, 0x0, 0x0, 0x7FFFFF⟩,
  ⟨0x60010, 1, 0x0, 0xFF00000, 0x0, 0x0, 0x0, 0x0, 0x0, 0xFFFFFFFF⟩,
  ⟨0x60014, 1, 0x0, 0x0, 0x0, 0x0, 0x0, 0x0, 0x0, 0xFFFFFFFF⟩,
  ⟨0x60018, 1, 0x0, 0x0, 0x0, 0x0, 0x0, 0x0, 0x0, 0xFFFFFFFF⟩,
  ⟨0x6001C, 1, 0x0, 0x0, 0x0, 0x0, 0x0, 0x0, 0x0, 0xFFFFFFFF⟩,
  ⟨0x60020, 1, 0x0, 0x0, 0x0, 0x0, 0x0, 0x0, 0x0, 0xFFFFFFFF⟩,
  ⟨0x60024, 1, 0x0, 0x0, 0x0, 0x0, 0x0, 0x0, 0x0, 0x7FFFFF⟩,
  ⟨0x60028, 1, 0x0, 0x0, 0x0, 0x0, 0xFFFF, 0x0, 0x0, 0x0⟩,
  ⟨0x6002C, 1, 0x0, 0x200000, 0x0, 0x0, 0x0, 0x0, 0x0, 0x3FFFFF⟩]

/-- Access codes and POR values of the OUT_ block (R243, Table 8-9). -/
def regsOut : List RegDesc := [
  ⟨0x70000, 1, 0x0, 0x1, 0x0, 0x0, 0x0, 0x0, 0x0, 0x3F⟩,
  ⟨0x70004, 1, 0x0, 0x3C0, 0xFFFF, 0x0, 0x0, 0x0, 0x0, 0x0⟩,
  ⟨0x70008, 1, 0x0, 0x3E8, 0xFFF, 0x0, 0x0, 0x0, 0x0, 0x0⟩,
  ⟨0x7000C, 1, 0x0, 0x0, 0x0, 0x1, 0x0, 0x0, 0x0, 0x0⟩,
  ⟨0x70010, 1, 0x0, 0x40A, 0xFFFFF, 0x0, 0x0, 0x0, 0x0, 0x0⟩,
  ⟨0x70014, 1, 0x0, 0x4, 0xF, 0x0, 0x0, 0x0, 0x0, 0x0⟩,
  ⟨0x70018, 1, 0x0, 0x100, 0xFFFF, 0x0, 0x0, 0x0, 0x0, 0x0⟩,
  ⟨0x7001C, 1, 0x0, 0x0, 0x0, 0x0, 0x0, 0x0, 0x0, 0xFFFFFFFF⟩,
  ⟨0x70020, 1, 0x0, 0x0, 0x0, 0x0, 0x0, 0x0, 0x0, 0xFFFFFFFF⟩,
  ⟨0x70024, 1, 0x0, 0x0, 0x0, 0x0, 0x0, 0x0, 0x0, 0xFFFFFFFF⟩,
  ⟨0x70028, 1, 0x0, 0x0, 0x0, 0x0, 0x0, 0x0, 0x0, 0xFFFFFFFF⟩,
  ⟨0x7002C, 1, 0x0, 0x0, 0x0, 0x0, 0xFFFFFFFF, 0x0, 0x0, 0x0⟩,
  ⟨0x70030, 1, 0x0, 0x0, 0x0, 0x0, 0xFFFFFFFF, 0x0, 0x0, 0x0⟩,
  ⟨0x70034, 1, 0x0, 0x0, 0x0, 0x0, 0xFFFF, 0x0, 0x0, 0x0⟩,
  ⟨0x70038, 1, 0x0, 0x0, 0x0, 0x0, 0x0, 0x0, 0x0, 0xFFFFFF⟩,
  ⟨0x7003C, 1, 0x0, 0x0, 0x0, 0x0, 0x0, 0x0, 0x0, 0x1FF⟩,
  ⟨0x70040, 1, 0x0, 0x0, 0x0, 0x0, 0x0, 0x0, 0x0, 0xFFFFFFFF⟩,
  ⟨0x70044, 1, 0x0, 0x875AE2, 0xFFFFFF, 0x0, 0x0, 0x0, 0x0, 0x0⟩,
  ⟨0x70060, 8, 0x4, 0x0, 0xFF, 0x0, 0x0, 0x0, 0x0, 0x0⟩]

/-- Access codes and POR values of the BHM_ block (R266, Table 9-5). -/
def regsBhm : List RegDesc := [
  ⟨0x80000, 1, 0x0, 0x2C8F, 0x3FFF, 0x0, 0x0, 0x0, 0x0, 0x0⟩,
  ⟨0x80004, 1, 0x0, 0x14, 0x3F, 0x0, 0x0, 0x0, 0x0, 0x0⟩,
  ⟨0x80008, 1, 0x0, 0x24, 0xFF, 0x0, 0x0, 0x0, 0x0, 0x0⟩,
  ⟨0x8000C, 1, 0x0, 0x40, 0xFFFF, 0x0, 0x0, 0x0, 0x0, 0x0⟩,
  ⟨0x80010, 1, 0x0, 0x4207, 0xFFF7, 0x0, 0x0, 0x0, 0x0, 0x0⟩,
  ⟨0x80014, 1, 0x0, 0x0, 0xFFFF, 0x0, 0x0, 0x0, 0x0, 0x0⟩,
  ⟨0x80018, 1, 0x0, 0x0, 0x0, 0x0, 0x0, 0x0, 0x0, 0xFFFFFFFF⟩,
  ⟨0x8001C, 1, 0x0, 0x0, 0x0, 0x0, 0x0, 0x0, 0x0, 0xFFFFFFFF⟩,
  ⟨0x80020, 1, 0x0, 0x0, 0x0, 0x0, 0x0, 0x0, 0x0, 0xFFFFF⟩,
  ⟨0x80024, 1, 0x0, 0x0, 0x0, 0x0, 0x0, 0x0, 0x0, 0xFFFFFFFF⟩,
  ⟨0x80028, 1, 0x0, 0x0, 0xFFFFFFFF, 0x0, 0x0, 0x0, 0x0, 0x0⟩,
  ⟨0x8002C, 1, 0x0, 0x0, 0xFFFFFFFF, 0x0, 0x0, 0x0, 0x0, 0x0⟩,
  ⟨0x80030, 1, 0x0, 0x0, 0x0, 0x0, 0x0, 0x0, 0x0, 0xFFFFFFFF⟩,
  ⟨0x80034, 1, 0x0, 0x0, 0x0, 0x0, 0xFFFF, 0x0, 0x0, 0x0⟩]

/-- Access codes and POR values of the ABS_ block (R285, Table 10-3). -/
def regsAbs : List RegDesc := [
  ⟨0x90000, 1, 0x0, 0x40000, 0xFFFFFF, 0x0, 0x0, 0x0, 0x0, 0x0⟩,
  ⟨0x90004, 1, 0x0, 0x0, 0x0, 0x0, 0x0, 0x0, 0x0, 0xFFFFFFFF⟩,
  ⟨0x90008, 1, 0x0, 0x0, 0x0, 0x0, 0x0, 0x0, 0x0, 0xFFFFFFFF⟩,
  ⟨0x9000C, 1, 0x0, 0x800000, 0x0, 0x0, 0x0, 0x0, 0x0, 0xFFFFFF⟩,
  ⟨0x90010, 1, 0x0, 0x0, 0x0, 0x0, 0x0, 0x0, 0x0, 0x1FFF⟩,
  ⟨0x90014, 1, 0x0, 0x0, 0x0, 0x0, 0x0, 0x0, 0x0, 0xFFFFFF⟩,
  ⟨0x90018, 1, 0x0, 0x0, 0x0, 0x0, 0x0, 0x0, 0x0, 0xFF03⟩,
  ⟨0x9001C, 1, 0x0, 0x0, 0x0, 0x0, 0x0, 0x0, 0x0, 0xFFFFFFFF⟩,
  ⟨0x90020, 1, 0x0, 0x0, 0x0, 0x0, 0x0, 0x0, 0x0, 0xFFFFFFFF⟩,
  ⟨0x90024, 1, 0x0, 0x0, 0x0, 0x0, 0xFFFF, 0x0, 0x0, 0x0⟩,
  ⟨0x90044, 13, 0x4, 0x0, 0x0, 0x0, 0xFFFFFFFF, 0x0, 0x0, 0x0⟩]

/-- Access codes and POR values of the MOT_ block (R305, Table 11-7). -/
def regsMot : List RegDesc := [
  ⟨0xA0000, 1, 0x0, 0xA, 0x3F, 0x0, 0x0, 0x0, 0x0, 0x0⟩,
  ⟨0xA0004, 1, 0x0, 0x3, 0x13F, 0x0, 0x0, 0x0, 0x0, 0x0⟩,
  ⟨0xA0008, 1, 0x0, 0x320FA, 0xFFFFF, 0x0, 0x0, 0x0, 0x0, 0x0⟩,
  ⟨0xA000C, 1, 0x0, 0x1250, 0x7FFFF, 0x0, 0x0, 0x0, 0x0, 0x0⟩,
  ⟨0xA0010, 1, 0x0, 0xC8, 0xFFFFFF, 0x0, 0x0, 0x0, 0x0, 0x0⟩,
  ⟨0xA0014, 1, 0x0, 0x783C8080, 0x7FFFFFFF, 0x0, 0x0, 0x0, 0x0, 0x0⟩,
  ⟨0xA0018, 1, 0x0, 0x0, 0x0, 0x3F3F, 0x0, 0x0, 0x0, 0x0⟩,
  ⟨0xA0100, 6, 0x80, 0x48, 0xFFFFFFFF, 0x0, 0x0, 0x0, 0x0, 0x0⟩,
  ⟨0xA0104, 6, 0x80, 0x0, 0x0, 0x0, 0x0, 0x0, 0x0, 0xFF3F⟩,
  ⟨0xA0108, 6, 0x80, 0x0, 0x0, 0x1, 0x0, 0x0, 0x0, 0x0⟩,
  ⟨0xA010C, 6, 0x80, 0x0, 0x0, 0x0, 0x0, 0x0, 0x0, 0xFFFFFFFF⟩,
  ⟨0xA0110, 6, 0x80, 0x0, 0xFFFFFFFF, 0x0, 0x0, 0x0, 0x0, 0x0⟩,
  ⟨0xA0114, 6, 0x80, 0x0, 0xFFFFFFFF, 0x0, 0x0, 0x0, 0x0, 0x0⟩,
  ⟨0xA0118, 6, 0x80, 0x0, 0xFFFFFFFF, 0x0, 0x0, 0x0, 0x0, 0x0⟩,
  ⟨0xA011C, 6, 0x80, 0x0, 0xFFFFFFFF, 0x0, 0x0, 0x0, 0x0, 0x0⟩,
  ⟨0xA0120, 6, 0x80, 0x0, 0xFFFFFFFF, 0x0, 0x0, 0x0, 0x0, 0x0⟩,
  ⟨0xA0124, 6, 0x80, 0x0, 0xFFFFFFFF, 0x0, 0x0, 0x0, 0x0, 0x0⟩,
  ⟨0xA0128, 6, 0x80, 0x0, 0xFFFFFFFF, 0x0, 0x0, 0x0, 0x0, 0x0⟩,
  ⟨0xA012C, 6, 0x80, 0x0, 0xFFFFFFFF, 0x0, 0x0, 0x0, 0x0, 0x0⟩,
  ⟨0xA0130, 6, 0x80, 0x0, 0xFFFFFFFF, 0x0, 0x0, 0x0, 0x0, 0x0⟩,
  ⟨0xA0134, 6, 0x80, 0x0, 0xFFFFFFFF, 0x0, 0x0, 0x0, 0x0, 0x0⟩,
  ⟨0xA0140, 6, 0x80, 0x0, 0x0, 0x0, 0x0, 0x0, 0x0, 0xFFFFFFFF⟩,
  ⟨0xA0144, 6, 0x80, 0x0, 0x0, 0x0, 0x0, 0x0, 0x0, 0xFFFFFFFF⟩,
  ⟨0xA0148, 6, 0x80, 0x0, 0x0, 0x0, 0x0, 0x0, 0x0, 0xFFFFFFFF⟩,
  ⟨0xA014C, 6, 0x80, 0x0, 0x0, 0x0, 0x0, 0x0, 0x0, 0xFFFFFFFF⟩,
  ⟨0xA0150, 6, 0x80, 0x0, 0x0, 0x0, 0x0, 0x0, 0x0, 0xFFFFFFFF⟩,
  ⟨0xA0154, 6, 0x80, 0x0, 0x0, 0x0, 0x0, 0x0, 0x0, 0xFFFFFFFF⟩,
  ⟨0xA0158, 6, 0x80, 0x0, 0x0, 0x0, 0x0, 0x0, 0x0, 0xFFFFFFFF⟩,
  ⟨0xA015C, 6, 0x80, 0x0, 0x0, 0x0, 0x0, 0x0, 0x0, 0xFFFFFFFF⟩,
  ⟨0xA0160, 6, 0x80, 0x0, 0x0, 0x0, 0x0, 0x0, 0x0, 0xFFFFFFFF⟩,
  ⟨0xA0164, 6, 0x80, 0x0, 0x0, 0x0, 0x0, 0x0, 0x0, 0xFFFFFFFF⟩,
  ⟨0xA0168, 6, 0x80, 0x0, 0xFFFFFFFF, 0x0, 0x0, 0x0, 0x0, 0x0⟩,
  ⟨0xA016C, 6, 0x80, 0xFFFFFF80, 0xFFFFFFFF, 0x0, 0x0, 0x0, 0x0, 0x0⟩,
  ⟨0xA0170, 6, 0x80, 0xFFFFFFFF, 0xFFFFFFFF, 0x0, 0x0, 0x0, 0x0, 0x0⟩,
  ⟨0xA0174, 6, 0x80, 0x7F, 0xFFFFFFFF, 0x0, 0x0, 0x0, 0x0, 0x0⟩,
  ⟨0xA0178, 6, 0x80, 0x0, 0x0, 0x0, 0x0, 0x0, 0x0, 0xFFFFFFFF⟩,
  ⟨0xA017C, 6, 0x80, 0x0, 0x0, 0x0, 0x0, 0x0, 0x0, 0xFFFFFFFF⟩]

/-- Access codes and POR values of the HBM_ block (R326, Table 12-8). -/
def regsHbm : List RegDesc := [
  ⟨0xB0000, 1, 0x0, 0x2, 0x7, 0x0, 0x0, 0x0, 0x0, 0x0⟩,
  ⟨0xB0004, 1, 0x0, 0x0, 0x0, 0x0, 0x0, 0x0, 0x0, 0x3F⟩,
  ⟨0xB0008, 1, 0x0, 0x0, 0x0, 0x0, 0x0, 0x0, 0x0, 0xFFFFFFFF⟩,
  ⟨0xB000C, 1, 0x0, 0x3, 0x3, 0x0, 0x0, 0x0, 0x0, 0x0⟩,
  ⟨0xB0010, 1, 0x0, 0x0, 0x0, 0x0, 0x0, 0x0, 0x0, 0xFFFFFFFF⟩,
  ⟨0xB0014, 1, 0x0, 0x282, 0xFFF, 0x0, 0x0, 0x0, 0x0, 0x0⟩,
  ⟨0xB0018, 1, 0x0, 0x0, 0x0, 0x0, 0x3F, 0x0, 0x0, 0x0⟩,
  ⟨0xB001C, 1, 0x0, 0x0, 0x0, 0x0, 0xFFFFFFFF, 0x0, 0x0, 0x0⟩,
  ⟨0xB0020, 1, 0x0, 0x800, 0xFFFF, 0x0, 0x0, 0x0, 0x0, 0x0⟩,
  ⟨0xB0024, 1, 0x0, 0x0, 0x0, 0x0, 0xFFFFFFFF, 0x0, 0x0, 0x0⟩,
  ⟨0xB0028, 1, 0x0, 0x0, 0x0, 0x0, 0xFFFFFFFF, 0x0, 0x0, 0x0⟩,
  ⟨0xB002C, 1, 0x0, 0x7D0, 0xFFFF, 0x0, 0x0, 0x0, 0x0, 0x0⟩,
  ⟨0xB0030, 1, 0x0, 0x0, 0x0, 0x0, 0x0, 0x0, 0x0, 0xFFFFF⟩,
  ⟨0xB0034, 1, 0x0, 0x0, 0x1FF, 0x0, 0x0, 0x0, 0x0, 0x0⟩,
  ⟨0xB0038, 1, 0x0, 0x0, 0x0, 0x1, 0x0, 0x0, 0x0, 0x0⟩,
  ⟨0xB003C, 1, 0x0, 0x0, 0x0, 0x0, 0xFFFFFFFF, 0x0, 0x0, 0x0⟩,
  ⟨0xB0040, 1, 0x4, 0x190, 0xFFFF, 0x0, 0x0, 0x0, 0x0, 0x0⟩,
  ⟨0xB0044, 1, 0x4, 0x7D0, 0xFFFF, 0x0, 0x0, 0x0, 0x0, 0x0⟩,
  ⟨0xB0048, 1, 0x4, 0xFA0, 0xFFFF, 0x0, 0x0, 0x0, 0x0, 0x0⟩,
  ⟨0xB004C, 1, 0x4, 0x3E8, 0xFFFF, 0x0, 0x0, 0x0, 0x0, 0x0⟩,
  ⟨0xB0050, 1, 0x4, 0x1F4, 0xFFFF, 0x0, 0x0, 0x0, 0x0, 0x0⟩,
  ⟨0xB0054, 1, 0x4, 0x4E20, 0xFFFF, 0x0, 0x0, 0x0, 0x0, 0x0⟩,
  ⟨0xB0058, 1, 0x4, 0x2710, 0xFFFF, 0x0, 0x0, 0x0, 0x0, 0x0⟩,
  ⟨0xB0060, 7, 0x4, 0x0, 0x0, 0x0, 0xFFFFFFFF, 0x0, 0x0, 0x0⟩]

/-- Access codes and POR values of the ECC_ block (R341, Table 13-5). -/
def regsEcc : List RegDesc := [
  ⟨0xC0000, 1, 0x0, 0x1, 0x0, 0x0, 0x0, 0x0, 0x0, 0x3FF⟩,
  ⟨0xC0004, 1, 0x0, 0x144B1, 0x1FFFFF, 0x0, 0x0, 0x0, 0x0, 0x0⟩,
  ⟨0xC0008, 1, 0x0, 0x0, 0x0, 0x0, 0xFFFFFFFF, 0x0, 0x0, 0x0⟩,
  ⟨0xC000C, 1, 0x0, 0x0, 0x0, 0x0, 0xFFFFFFFF, 0x0, 0x0, 0x0⟩,
  ⟨0xC0010, 1, 0x0, 0x3E8, 0xFFFF, 0x0, 0x0, 0x0, 0x0, 0x0⟩,
  ⟨0xC0014, 1, 0x0, 0x0, 0x0, 0x0, 0x0, 0x0, 0x0, 0xF⟩,
  ⟨0xC0018, 1, 0x0, 0x0, 0x3FF, 0x0, 0x0, 0x0, 0x0, 0x0⟩,
  ⟨0xC0020, 1, 0x0, 0x0, 0x0, 0x0, 0x0, 0x0, 0x0, 0xFFFFFFFF⟩,
  ⟨0xC0024, 1, 0x0, 0x0, 0x0, 0x0, 0x0, 0x0, 0x0, 0xFFFFF⟩,
  ⟨0xC0028, 1, 0x0, 0x0, 0x0, 0x0, 0x0, 0x0, 0x0, 0xFFFFFFFF⟩,
  ⟨0xC002C, 1, 0x0, 0x0, 0x0, 0x0, 0x0, 0x0, 0x0, 0xFFFFFFFF⟩,
  ⟨0xC0040, 16, 0x10, 0x0, 0x0, 0x0, 0x0, 0x0, 0x0, 0xFFFFFFFF⟩,
  ⟨0xC0044, 16, 0x10, 0x0, 0x0, 0x0, 0x0, 0x0, 0x0, 0x7⟩,
  ⟨0xC0048, 16, 0x10, 0x0, 0x0, 0x0, 0x0, 0x0, 0x0, 0xFFFF⟩]

/-- Access codes and POR values of the DMA_ block (R404, Table 16-7). -/
def regsDma : List RegDesc := [
  ⟨0xD0000, 1, 0x0, 0x100, 0x7FF, 0x0, 0x0, 0x0, 0x0, 0x0⟩,
  ⟨0xD0004, 1, 0x0, 0x10, 0xFFFF, 0x0, 0x0, 0x0, 0x0, 0x0⟩,
  ⟨0xD0008, 1, 0x0, 0x0, 0x0, 0x0, 0xFFFFFFFF, 0x0, 0x0, 0x0⟩,
  ⟨0xD0100, 8, 0x20, 0x0, 0x0, 0x0, 0x0, 0x0, 0x0, 0xFFFFFFFF⟩,
  ⟨0xD0104, 8, 0x20, 0x0, 0x0, 0x0, 0x0, 0x0, 0x0, 0xFFFFFFFF⟩,
  ⟨0xD0108, 8, 0x20, 0x0, 0x0, 0x0, 0x0, 0x0, 0x0, 0xFFFFFFFF⟩,
  ⟨0xD010C, 8, 0x20, 0x0, 0x0, 0x0, 0x0, 0x0, 0x0, 0xFFFFFFFF⟩,
  ⟨0xD0110, 8, 0x20, 0x0, 0x0, 0x0, 0xFFFFFFFF, 0x0, 0x0, 0x0⟩]

/-- Access codes and POR values of the CHK_ block (R404, Table 16-8). -/
def regsChk : List RegDesc := [
  ⟨0xE0000, 4, 0x40, 0x0, 0xF, 0x0, 0x0, 0x0, 0x0, 0x0⟩,
  ⟨0xE0004, 4, 0x40, 0x0, 0xFFFFFFFF, 0x0, 0x0, 0x0, 0x0, 0x0⟩,
  ⟨0xE0008, 4, 0x40, 0x0, 0xFFFFFFFF, 0x0, 0x0, 0x0, 0x0, 0x0⟩,
  ⟨0xE000C, 4, 0x40, 0x0, 0x0, 0x1, 0x0, 0x0, 0x0, 0x0⟩,
  ⟨0xE0010, 4, 0x40, 0x0, 0x0, 0xFF, 0x0, 0x0, 0x0, 0x0⟩,
  ⟨0xE0014, 4, 0x40, 0x0, 0x0, 0xFFFF, 0x0, 0x0, 0x0, 0x0⟩,
  ⟨0xE0018, 4, 0x40, 0x0, 0x0, 0xFFFFFFFF, 0x0, 0x0, 0x0, 0x0⟩,
  ⟨0xE001C, 4, 0x40, 0x0, 0x0, 0xFFFFFFFF, 0x0, 0x0, 0x0, 0x0⟩,
  ⟨0xE0020, 4, 0x40, 0x0, 0x0, 0x0, 0x0, 0x0, 0x0, 0xFFFFFFFF⟩,
  ⟨0xE0024, 4, 0x40, 0x0, 0x0, 0x0, 0x0, 0x0, 0x0, 0xFFFFFFFF⟩,
  ⟨0xE0028, 4, 0x40, 0x0, 0x0, 0x0, 0x0, 0x0, 0x0, 0xFFFFFFFF⟩,
  ⟨0xE002C, 4, 0x40, 0x0, 0x0, 0x0, 0xFFFF0000, 0x0, 0x0, 0x1F⟩]

/-- Access codes and POR values of the COH_ block (R429, Table 17-5). -/
def regsCoh : List RegDesc := [
  ⟨0xF0000, 1, 0x0, 0x1, 0x1F3F, 0x0, 0x0, 0x0, 0x0, 0x0⟩,
  ⟨0xF0004, 1, 0x0, 0x0, 0x0, 0x0, 0x0, 0x0, 0x0, 0x3F⟩,
  ⟨0xF0008, 1, 0x0, 0x1, 0x0, 0x0, 0x0, 0x0, 0x0, 0xFFFFFFFF⟩,
  ⟨0xF000C, 1, 0x0, 0x1, 0x0, 0x0, 0x0, 0x0, 0x0, 0xFFFFFFFF⟩,
  ⟨0xF0010, 1, 0x0, 0x0, 0x0, 0x0, 0x0, 0x0, 0x0, 0xFFFFFFFF⟩,
  ⟨0xF0014, 1, 0x0, 0x0, 0x0, 0x0, 0x0, 0x0, 0x0, 0xFFFFFFFF⟩,
  ⟨0xF0018, 1, 0x0, 0x0, 0x0, 0x0, 0x0, 0x0, 0x0, 0xFFFFFFFF⟩,
  ⟨0xF001C, 1, 0x0, 0x0, 0x0, 0x0, 0x0, 0x0, 0x0, 0xFFFFFFFF⟩,
  ⟨0xF0020, 1, 0x0, 0x0, 0x0, 0x0, 0x0, 0x0, 0x0, 0xFFFF⟩,
  ⟨0xF0024, 1, 0x0, 0x0, 0x0, 0x0, 0x0, 0x0, 0x0, 0xFF⟩,
  ⟨0xF0028, 1, 0x0, 0x0, 0x0, 0x0, 0xFFFFFFFF, 0x0, 0x0, 0x0⟩,
  ⟨0xF002C, 1, 0x0, 0x0, 0x0, 0x0, 0x0, 0x0, 0x0, 0xFFFFFFFF⟩]

/-- Access codes and POR values of the TIM_ block (R443, Table 18-2). -/
def regsTim : List RegDesc := [
  ⟨0x100000, 1, 0x0, 0x0, 0x0, 0x0, 0x0, 0x0, 0x0, 0xFFFFFFFF⟩,
  ⟨0x100004, 1, 0x0, 0x0, 0x0, 0x0, 0x0, 0x0, 0x0, 0xFFFFFFFF⟩,
  ⟨0x100008, 1, 0x0, 0x0, 0x0, 0x0, 0x0, 0x0, 0x0, 0xFFFF⟩,
  ⟨0x10000C, 1, 0x0, 0x0, 0x0, 0x0, 0x0, 0x0, 0x0, 0xFFFFFFFF⟩,
  ⟨0x100010, 1, 0x0, 0x2, 0x0, 0x0, 0x0, 0x0, 0x0, 0xFFFFFFFF⟩,
  ⟨0x100014, 1, 0x0, 0x3, 0x0, 0x0, 0x0, 0x0, 0x0, 0x3F⟩,
  ⟨0x100018, 1, 0x0, 0x0, 0x0, 0x0, 0x0, 0x0, 0x0, 0xFFFFFFFF⟩,
  ⟨0x10001C, 1, 0x0, 0x0, 0x0, 0x0, 0x0, 0x0, 0x0, 0xFFFFFFFF⟩,
  ⟨0x100020, 1, 0x0, 0x0, 0x0, 0x0, 0x0, 0x0, 0x0, 0xFFFFFFFF⟩,
  ⟨0x100024, 1, 0x0, 0x0, 0x0, 0x0, 0xFF00, 0x0, 0x0, 0xFF⟩,
  ⟨0x100028, 1, 0x0, 0x0, 0x0, 0x0, 0x0, 0x0, 0x0, 0x1F⟩,
  ⟨0x10002C, 1, 0x0, 0x0, 0x0, 0x0, 0xFFFF, 0x0, 0x0, 0x0⟩,
  ⟨0x100030, 1, 0x0, 0x0, 0x0, 0x0, 0x0, 0x0, 0x0, 0xFFFF⟩,
  ⟨0x100040, 8, 0x8, 0x0, 0x0, 0x0, 0x0, 0x0, 0x0, 0xFFFF⟩,
  ⟨0x100044, 8, 0x8, 0x0, 0x0, 0x0, 0xFFFFFFFF, 0x0, 0x0, 0x0⟩]

/-- Access codes and POR values of the SEC_ block (R463, Table 19-7). -/
def regsSec : List RegDesc := [
  ⟨0x110000, 1, 0x0, 0x1, 0x0, 0x0, 0x0, 0x0, 0x0, 0x7F⟩,
  ⟨0x110004, 1, 0x0, 0x0, 0x0, 0x0, 0x0, 0x0, 0x0, 0x7F⟩,
  ⟨0x110008, 1, 0x0, 0x0, 0x0, 0x0, 0x0, 0x0, 0x0, 0x1⟩,
  ⟨0x11000C, 1, 0x0, 0x0, 0x0, 0x0, 0xFFFF, 0x0, 0x0, 0x0⟩]

/-- Access codes and POR values of the PWR_ block (R486, Table 20-11). -/
def regsPwr : List RegDesc := [
  ⟨0x120000, 1, 0x0, 0x3, 0x0, 0x0, 0x0, 0x0, 0x0, 0x7FF⟩,
  ⟨0x120004, 1, 0x0, 0x7, 0x7, 0x0, 0x0, 0x0, 0x0, 0x0⟩,
  ⟨0x120008, 1, 0x0, 0x0, 0x0, 0x0, 0x0, 0x0, 0x0, 0xFFFF⟩,
  ⟨0x12000C, 1, 0x0, 0xFFFF, 0x0, 0x0, 0xFFFF, 0x0, 0x0, 0x0⟩,
  ⟨0x120010, 1, 0x0, 0x0, 0x0, 0x0, 0xFFFF, 0x0, 0x0, 0x0⟩,
  ⟨0x120014, 1, 0x0, 0x0, 0x0, 0x0, 0x0, 0x0, 0x0, 0xFF⟩,
  ⟨0x120018, 1, 0x0, 0x0, 0x0, 0x0, 0x0, 0x0, 0x0, 0x7F⟩,
  ⟨0x12001C, 1, 0x0, 0x1, 0x0, 0x0, 0x0, 0x0, 0x0, 0x1F⟩,
  ⟨0x120020, 1, 0x0, 0x64, 0xFFFF, 0x0, 0x0, 0x0, 0x0, 0x0⟩,
  ⟨0x120024, 1, 0x0, 0x0, 0x0, 0x0, 0x0, 0x0, 0x0, 0xFFFFFFFF⟩,
  ⟨0x120028, 1, 0x0, 0x0, 0x0, 0x0, 0x0, 0x0, 0x0, 0xFFFFFFFF⟩,
  ⟨0x120030, 2, 0x4, 0x0, 0xFFFFFFFF, 0x0, 0x0, 0x0, 0x0, 0x0⟩,
  ⟨0x120038, 1, 0x4, 0xFC000000, 0xFFFFFFFF, 0x0, 0x0, 0x0, 0x0, 0x0⟩,
  ⟨0x120048, 7, 0x4, 0x0, 0x0, 0x0, 0x0, 0x0, 0x0, 0xFF⟩,
  ⟨0x120070, 3, 0x4, 0x0, 0x0, 0x0, 0x0, 0x0, 0x0, 0xFFFFFFFF⟩,
  ⟨0x12007C, 1, 0x0, 0x0, 0x0, 0x0, 0x0, 0x0, 0x0, 0xFFFF⟩]

/-- Access codes and POR values of the CLK_ block (R497, Table 21-5). -/
def regsClk : List RegDesc := [
  ⟨0x130000, 1, 0x0, 0x0, 0x0, 0x0, 0x0, 0x0, 0x0, 0x3F⟩,
  ⟨0x130004, 1, 0x0, 0x3, 0x3, 0x0, 0x0, 0x0, 0x0, 0x0⟩,
  ⟨0x130008, 1, 0x0, 0x0, 0x0, 0x0, 0xFFFF, 0x0, 0x0, 0x0⟩,
  ⟨0x13000C, 1, 0x0, 0x0, 0x0, 0x0, 0x0, 0x7FFFFFF, 0x0, 0x0⟩]

/-- Access codes and POR values of the MON_ block (R513, Table 22-4). -/
def regsMon : List RegDesc := [
  ⟨0x140000, 1, 0x0, 0x968C, 0xFFFF, 0x0, 0x0, 0x0, 0x0, 0x0⟩,
  ⟨0x140004, 1, 0x0, 0x0, 0xFFFF, 0x0, 0x0, 0x0, 0x0, 0x0⟩,
  ⟨0x140008, 1, 0x0, 0x7D0, 0x1FFFF, 0x0, 0x0, 0x0, 0x0, 0x0⟩,
  ⟨0x14000C, 1, 0x0, 0x0, 0x0, 0x0, 0x0, 0x0, 0x0, 0xFFFFFFFF⟩,
  ⟨0x140010, 1, 0x0, 0x0, 0xFFFFFFFF, 0x0, 0x0, 0x0, 0x0, 0x0⟩,
  ⟨0x140014, 1, 0x0, 0x0, 0x0, 0x0, 0xFFFF, 0x0, 0x0, 0x0⟩,
  ⟨0x140018, 1, 0x0, 0x0, 0x0, 0x0, 0x0, 0x0, 0x0, 0x1FFFFF⟩,
  ⟨0x14001C, 1, 0x0, 0x0, 0x0, 0x0, 0x0, 0x0, 0x0, 0xFFFFFFFF⟩,
  ⟨0x140020, 1, 0x0, 0x0, 0x0, 0x0, 0x0, 0x0, 0x0, 0xFFFFFFFF⟩,
  ⟨0x140024, 1, 0x0, 0x0, 0x0, 0x0, 0x0, 0x0, 0x0, 0xFFFFFFFF⟩,
  ⟨0x140028, 1, 0x0, 0x0, 0x0, 0x0, 0x0, 0x0, 0x0, 0x7FF⟩,
  ⟨0x140100, 16, 0x10, 0x0, 0xFFFF, 0x0, 0x0, 0x0, 0x0, 0x0⟩,
  ⟨0x140104, 16, 0x10, 0x1, 0xFFFFFFFF, 0x0, 0x0, 0x0, 0x0, 0x0⟩,
  ⟨0x140108, 16, 0x10, 0x0, 0xFFFFFFFF, 0x0, 0x0, 0x0, 0x0, 0x0⟩,
  ⟨0x14010C, 16, 0x10, 0x0, 0xFFFFFFFF, 0x0, 0x0, 0x0, 0x0, 0x0⟩]

/-- The whole register table (R367). -/
def regTable : List RegDesc :=
  regsBar0 ++
  regsBell ++
  regsPos ++
  regsGth ++
  regsRas ++
  regsPec ++
  regsSkv ++
  regsOut ++
  regsBhm ++
  regsAbs ++
  regsMot ++
  regsHbm ++
  regsEcc ++
  regsDma ++
  regsChk ++
  regsCoh ++
  regsTim ++
  regsSec ++
  regsPwr ++
  regsClk ++
  regsMon

/-- Does this row hold the key? -/
def RegDesc.has (d : RegDesc) (k : Nat) : Bool :=
  decide (d.key ≤ k ∧ k < d.key + max 1 (d.count * d.stride)) && (if d.stride = 0 then true else (k - d.key) % d.stride == 0)

/-- The row of a register, when one stands at the key (R367). -/
def regDesc (k : Nat) : Option RegDesc := regTable.find? (·.has k)

/-- The POR value of a register (R5); a key with no register reads zero (R8, R344). -/
def regPor (k : Nat) : Word :=
  match regDesc k with
  | some d => BitVec.ofNat 32 d.por
  | none => 0

end Sys2Proof.Machine
end

