-- ==== Sys2Proof/Machine/Sparse.lean ====
section
/-!
DEFINITION. Sparse maps: a list of key and value pairs in one canonical form, keys strictly rising and no value equal
to what an unlisted key reads as. Memory, the register file and the Beam Table are held this way.
-/

namespace Sys2Proof.Sparse

variable {α : Type} [DecidableEq α]

/-- What key `k` reads as, `d` giving the value of an unlisted key. -/
def get (d : Nat → α) : List (Nat × α) → Nat → α
  | [], k => d k
  | (j, v) :: m, k => if k = j then v else if k < j then d k else get d m k

/-- The map with key `k` holding `v`; a value an unlisted key reads as removes the entry. -/
def set (d : Nat → α) : List (Nat × α) → Nat → α → List (Nat × α)
  | [], k, v => if v = d k then [] else [(k, v)]
  | (j, w) :: m, k, v =>
    if k = j then (if v = d k then m.dropWhile (fun e => decide (e.1 ≤ k)) else (k, v) :: m)
    else if k < j then (if v = d k then (j, w) :: m else (k, v) :: (j, w) :: m)
    else (j, w) :: set d m k v

/-- Every key of `m` lies above `k`. -/
def above (k : Nat) : List (Nat × α) → Bool
  | [] => true
  | (j, _) :: _ => decide (k < j)

/-- The canonical form: keys strictly rising, no entry at the value an unlisted key reads as. -/
def wf (d : Nat → α) : List (Nat × α) → Bool
  | [] => true
  | (j, v) :: m => decide (v ≠ d j) && above j m && wf d m

/-- Write a run of values at rising keys. -/
def setRun (d : Nat → α) (m : List (Nat × α)) (k : Nat) : List α → List (Nat × α)
  | [] => m
  | v :: vs => setRun d (set d m k v) (k + 1) vs

/-- Read a run of `n` keys. -/
def getRun (d : Nat → α) (m : List (Nat × α)) (k : Nat) : Nat → List α
  | 0 => []
  | n + 1 => get d m k :: getRun d m (k + 1) n

/-- Drop every entry whose key lies in `lo` to `hi - 1`. -/
def clear (m : List (Nat × α)) (lo hi : Nat) : List (Nat × α) :=
  m.filter fun e => decide (e.1 < lo ∨ hi ≤ e.1)

end Sys2Proof.Sparse
end

