-- ==== Sys2Proof/Machine/Binary64.lean ====
section
/-!
DEFINITION. IEEE 754 binary64 arithmetic as the motion planner uses it (R289): finite values as dyadic numbers, exact
operations, and rounding to 53 significant bits, ties to even. No value of the planner reaches the format's exponent
limits, so they are not modelled.
-/

namespace Sys2Proof.Machine

/-- A dyadic number, `m / 2^e`. -/
structure Dy where
  m : Int
  e : Nat
  deriving DecidableEq, Repr

namespace Dy

/-- An integer. -/
def ofInt (i : Int) : Dy := ⟨i, 0⟩
/-- Zero. -/
def zero : Dy := ⟨0, 0⟩
/-- The mantissa at a larger exponent. -/
def at_ (a : Dy) (e : Nat) : Int := a.m * 2 ^ (e - a.e)
/-- Exact sum. -/
def add (a b : Dy) : Dy := ⟨a.at_ (max a.e b.e) + b.at_ (max a.e b.e), max a.e b.e⟩
/-- Negation. -/
def neg (a : Dy) : Dy := ⟨-a.m, a.e⟩
/-- Exact difference. -/
def sub (a b : Dy) : Dy := a.add b.neg
/-- Exact product. -/
def mul (a b : Dy) : Dy := ⟨a.m * b.m, a.e + b.e⟩
/-- Magnitude. -/
def abs (a : Dy) : Dy := ⟨a.m.natAbs, a.e⟩
/-- Comparison. -/
def le (a b : Dy) : Bool := decide (a.at_ (max a.e b.e) ≤ b.at_ (max a.e b.e))
/-- Strict comparison. -/
def lt (a b : Dy) : Bool := !b.le a
/-- The larger of two. -/
def max2 (a b : Dy) : Dy := if a.le b then b else a
/-- The value is 0. -/
def isZero (a : Dy) : Bool := a.m == 0
/-- Floor. -/
def floor (a : Dy) : Int := Int.fdiv a.m (2 ^ a.e)
/-- Ceiling. -/
def ceil (a : Dy) : Int := -(a.neg.floor)
/-- The sign, as 1, 0 or -1. -/
def sign (a : Dy) : Int := a.m.sign

/-- A natural quotient rounded to nearest, ties to even. -/
def rne (n d : Nat) : Nat :=
  let q := n / d
  let r := n % d
  if 2 * r < d then q else if d < 2 * r then q + 1 else if q % 2 = 0 then q else q + 1

/-- Round to 53 significant bits, ties to even. -/
def round (a : Dy) : Dy :=
  let n := a.m.natAbs
  let k := Nat.log2 n + 1 - 53
  let v := if k = 0 then n else rne n (2 ^ k)
  let s : Int := if a.m < 0 then -1 else 1
  if k ≤ a.e then ⟨s * v, a.e - k⟩ else ⟨s * (v * 2 ^ (k - a.e) : Nat), 0⟩

/-- A quotient rounded to 53 bits: enough quotient bits, and a last bit that says whether a remainder was left. -/
def quot (n d : Nat) : Dy :=
  if d = 0 then zero
  else
    let s := Nat.log2 d + 58 - min (Nat.log2 n) (Nat.log2 d + 58)
    let q := n * 2 ^ s / d
    let sticky := if n * 2 ^ s % d = 0 then 0 else 1
    round ⟨2 * q + sticky, s + 1⟩

/-- Rounded sum. -/
def addR (a b : Dy) : Dy := (a.add b).round
/-- Rounded difference. -/
def subR (a b : Dy) : Dy := (a.sub b).round
/-- Rounded product. -/
def mulR (a b : Dy) : Dy := (a.mul b).round
/-- Rounded quotient. -/
def divR (a b : Dy) : Dy :=
  let q := quot (a.m.natAbs * 2 ^ b.e) (b.m.natAbs * 2 ^ a.e)
  if a.m.sign * b.m.sign < 0 then q.neg else q

/-- Integer square root, bit by bit from bit `n`. -/
def isqrtFrom : Nat → Nat → Nat → Nat
  | 0, _, r => r
  | n + 1, v, r => if (r + 2 ^ n) * (r + 2 ^ n) ≤ v then isqrtFrom n v (r + 2 ^ n) else isqrtFrom n v r

/-- Integer square root. -/
def isqrt (v : Nat) : Nat := isqrtFrom (Nat.log2 v / 2 + 1) v 0

/-- Rounded square root of a value that is not negative. -/
def sqrtR (a : Dy) : Dy :=
  let h := a.e / 2 + a.e % 2 + 60
  let v := a.m.toNat * 2 ^ (2 * h - a.e)
  let r := isqrt v
  round ⟨2 * r + (if r * r = v then 0 else 1), h + 1⟩

end Dy

end Sys2Proof.Machine
end

