-- ==== Sys2Proof/Syntax.lean ====
section
/-!
DEFINITION. The commands: one constructor per row of spec/opcode_table.json, in the table's order, with the row's
operands. A firmware command carries its mailbox request; an event carries what the outside world supplies with it
(a position, a frame, a temperature, a time), never anything the module's own state already says.
Times called `t` are counted in 25 ps steps of the Bell timebase (R201) unless a name says otherwise.
-/

namespace Sys2Proof

/-- The part of a mailbox request that is common to every command: its slot, the LENGTH the host wrote (R353) and
whether every reserved byte of the request was zero (R362). -/
structure Req where
  slot : Fin 16
  length : Nat
  reservedZero : Bool
  deriving DecidableEq, Repr

/-- A register named by BLOCK and OFFSET (R367). -/
structure RegRef where
  block : Nat
  offset : Nat
  deriving DecidableEq, Repr

/-- One entry of CFG_WRITE or POKE (Table 15-2). -/
structure RegWrite where
  block : Nat
  offset : Nat
  value : Word
  deriving DecidableEq, Repr

/-- Where a register access comes from: the host through BAR0 (R344, R345), with its address and size in bytes, or
Liroth firmware (or a command it runs) through a block's own registers (R367). -/
inductive RegAccess where
  | bar0 (addr size : Nat)
  | block (ref : RegRef)
  deriving DecidableEq, Repr

/-- The three axes of the position port (R184). -/
inductive Axis where
  | y | x | yaw
  deriving DecidableEq, Repr

/-- What a core cycle accepted on one quadrature axis (R185, R187): a count up, a count down, or edges on A and B at
once. -/
inductive QuadMove where
  | up | down | both
  deriving DecidableEq, Repr

/-- The two cohort ports (R405): East is J11, West is J12. -/
inductive Port where
  | east | west
  deriving DecidableEq, Repr

/-- A received cohort frame (Table 17-1): the seven start-block fields, ALIVE, EPOCH, the payload bytes and the
received CRC field. -/
structure CohFrame where
  kind : Nat
  src : Nat
  hops : Nat
  npay : Nat
  reserved : Nat
  alive : Nat
  epoch : Nat
  payload : List Byte
  crc : Word
  deriving DecidableEq, Repr

/-- The times of a TIME_REQ in 25 ps steps: T1, at which its neighbour sent it, and T2, at which it came (R418). A request has
no payload; T1 comes with the command (log entry 34). -/
structure ReqTimes where
  t1 : Nat
  t2 : Nat
  deriving DecidableEq, Repr

/-- The host-link reset kinds (R343). -/
inductive LinkReset where
  | perst | hotReset | linkDown | flr
  deriving DecidableEq, Repr

/-- Why power-on reset happens (R477, Table 20-11). -/
inductive PorCause where
  | powerApplied | brownout
  deriving DecidableEq, Repr

/-- The sections of the status page (R348). -/
inductive Section where
  | core | monitor | cohort
  deriving DecidableEq, Repr

/-- The wake sources of R470, in the order of their numbers 1 to 3. -/
inductive WakeSource where
  | host | cohort | wakeL
  deriving DecidableEq, Repr

/-- The synthesisers of Table 21-2; the reference oscillator is the last. -/
inductive Synth where
  | bell | core | proctor | dram | optical | port | reference
  deriving DecidableEq, Repr

/-- What a read over PCIe returned (R394, Table 16-4): the bytes, or UR, CA or a completion timeout. -/
inductive HostRead where
  | ok (bytes : List Byte)
  | failed
  deriving DecidableEq, Repr

/-- How the data phase of a descriptor ended on its host side (R390 to R394). -/
inductive HostXfer where
  /-- Inbound: the bytes read from host memory, once per reading (R391 reads up to three times). -/
  | data (readings : List (List Byte))
  /-- Outbound: the posted writes were issued and the zero-length read returned. -/
  | written
  /-- The host side failed as for DESC_FETCH. What was in flight completes (R394): the bytes that came, each part with its place in
the inbound data of the descriptors in execution, counted from the first byte of the oldest. -/
  | failed (parts : List (Nat × List Byte))
  deriving DecidableEq, Repr

/-- The rates to which the link trains (Table 14-1). -/
inductive PcieRate where
  | gt2_5 | gt5 | gt8 | gt16 | gt32
  deriving DecidableEq, Repr

/-- The widths to which the link trains (Table 14-1). -/
inductive PcieWidth where
  | x1 | x2 | x4 | x8
  deriving DecidableEq, Repr

/-- A link that has trained: its rate, and what the host then sets as it configures the endpoint: Max Payload Size, up to the
512 bytes supported, and Max Read Request Size, up to 4,096 bytes, each as PCIe codes it: 128 bytes times a power of two
(R342, R384; log entry 170). -/
structure PcieTraining where
  rate : PcieRate
  payload : Fin 3
  readRequest : Fin 6
  deriving DecidableEq, Repr

/-- The decode results of Table 13-1 that a scrubber read can meet. -/
inductive EccResult where
  | clean | correctable | uncorrectable | poisoned
  deriving DecidableEq, Repr

/-- A request that waits in a pseudo-channel: its port, its age in ns, and whether its row is open (R311, R312). -/
structure DramWait where
  port : Nat
  ageNs : Nat
  openHit : Bool
  deriving DecidableEq, Repr

/-- What failed in a Boot step up to the fill (R324, R336): a checker of Table 13-3; a training step of Table 12-6, with the
channel and the lane; the Boot ROM's march over bank 90 or 91, with the first failing offset (R509); or another step, before or
after training. -/
inductive BootFault where
  | selfTest (checker : Nat)
  | march (high : Bool) (offset : Nat)
  | training (step channel lane : Nat)
  | other (trained : Bool)
  deriving DecidableEq, Repr

/-- How a fill ended (R48, R336): in Boot, the number of the step that failed before it and what failed, and the lanes that
training has mapped to spare lanes, by channel and lane. -/
structure FillEnd where
  fault : Option (Nat × BootFault)
  spares : List (Nat × Nat)
  deriving DecidableEq, Repr

/-- A raster cell that has finished its tile, and the cycles it took (R149 to R151). -/
structure TileDone where
  cell : Fin 64
  cycles : Nat
  deriving DecidableEq, Repr

/-- A rising edge of GATE_IN: the time stamp of the pin edge, and how long the new level has held, in core cycles (R186,
R245). -/
structure GateEdge where
  stamp : Nat
  held : Nat
  deriving DecidableEq, Repr

/-- AERR on a channel, of whose last commands `unconfirmed` are not confirmed (R321). -/
structure ParityError where
  ch : Fin 32
  unconfirmed : Nat
  deriving DecidableEq, Repr

/-- A 64-byte unit of memory: a DRAM byte address, or an on-die SRAM bank with its offset (R341). -/
inductive MemUnit where
  | dram (addr : Nat)
  | sram (bank offset : Nat)
  deriving DecidableEq, Repr

/-- The JTAG instructions of R511, and any other debug instruction. -/
inductive TapInstr where
  | idcode | bypass | sample | extest | clamp | highz | debug
  deriving DecidableEq, Repr

/-- What PTP_CONFIG selects of a received message: its domain number, and whether it came over UDP/IPv4 (R438). -/
structure PtpHead where
  domain : Nat
  udp : Bool
  deriving DecidableEq, Repr

/-- The PTP event messages of R438 and R439. -/
inductive PtpMsg where
  /-- A Sync as J13 receives it, with the origin timestamp of its Follow_Up (two-step), in ns, and the increment that the
  servo then asks for. -/
  | sync (head : PtpHead) (originNs increment : Nat)
  /-- An event message that the module transmits, a Delay_Req, with its sequenceId. -/
  | sent (seqId : Nat)
  /-- The Delay_Resp to that sequenceId, with the master's receive timestamp in ns. -/
  | delayResp (head : PtpHead) (seqId receivedNs : Nat)
  /-- Any message the module does not support (R438). -/
  | unsupported
  deriving DecidableEq, Repr

/-- The commands of the module, one per row of the opcode table, in its order. -/
inductive Instr where
  -- System group (Table 15-2)
  | nop (r : Req)
  | eventAck (r : Req) (mask : BitVec 96) (seqSeen : Nat)
  | storedCfg (r : Req) (write order : Nat)
  | serviceEnter (r : Req)
  | serviceExit (r : Req)
  | proctorRestart (r : Req)
  | cfgWrite (r : Req) (writes : List RegWrite)
  -- Job group (Table 15-3)
  | jobLoad (r : Req) (offset len : Nat)
  | jobSupplement (r : Req) (offset len : Nat)
  | jobStart (r : Req) (startLead : Nat)
  | holdRequest (r : Req)
  | resume (r : Req)
  | recessExtend (r : Req) (ms : Nat)
  | layerClose (r : Req) (layer flags : Nat)
  | jobClose (r : Req) (flags : Nat)
  | jobAbort (r : Req)
  | rejectRead (r : Req) (first : Nat)
  | cellEvict (r : Req) (form n : Nat) (ids : List Nat) (first last : Nat)
  | cacheStatus (r : Req)
  | absRead (r : Req) (first count : Nat)
  | absAck (r : Req) (newTail : Nat)
  | absStatus (r : Req)
  -- Beam and calibration group (Table 15-4)
  | beamTableLoad (r : Req) (offset len : Nat)
  | beamSet (r : Req) (entries : List (Nat × DWord))
  | beamCheck (r : Req) (op : Nat)
  | beamLocate (r : Req)
  | calStart (r : Req)
  | calAbort (r : Req)
  | beamReport (r : Req) (kind arg : Nat)
  /-- The readings of Table 9-3: REFV in µV, then the coefficients found, ADC (offset code, gain ppm of 1), sensors (0.001 °C), rails (ppm). -/
  | analogCal (r : Req) (refvUv : Nat) (adc : List (Int × Nat)) (sensors : List Int) (rails : List Nat)
  -- Memory, cohort and time groups (Table 15-5)
  | memStatus (r : Req) (refs : List RegRef)
  | memZero (r : Req) (region firstPage pages : Nat)
  | memFill (r : Req)
  | cohortConfig (r : Req) (members own : Nat)
  | cohortShrink (r : Req) (keep : Word)
  | timeSet (r : Req) (seconds ns : Nat)
  | timeRate (r : Req) (increment : Nat)
  | triggerSet (r : Req) (index action gpio startS startNs periodNs widthNs : Nat)
  | ptpConfig (r : Req) (flags domain : Nat) (ipv4 : Nat)
  | tsRead (r : Req)
  | refConfig (r : Req) (flags : Nat)
  -- Security group (Table 15-6)
  | certRead (r : Req) (offset : Nat)
  | attest (r : Req) (nonce : List Byte) (kind : Nat)
  | fwUpdate (r : Req) (offset len : Nat)
  | lifecycleSet (r : Req) (target : Nat) (auth : List Byte)
  | keyProvision (r : Req) (key : List Byte)
  -- Power group (Table 15-7)
  | restEnter (r : Req) (delayMs : Nat)
  | voteSet (r : Req) (mask vote : Word)
  | supplyCfg (r : Req) (autoResume : Nat)
  -- Diagnostics group (Table 15-8)
  | peek (r : Req) (refs : List RegRef)
  | poke (r : Req) (writes : List RegWrite)
  | regRead (r : Req) (refs : List RegRef)
  | eventTest (r : Req)
  | bistRun (r : Req) (kind domains : Nat)
  | monConfig (r : Req) (probe source : Nat) (width lo hi : Word)
  | monRead (r : Req) (probe flags : Nat)
  -- Host accesses and register commands
  | mbxDoorbell (slot : Fin 16)
  | registerWrite (a : RegAccess) (value : DWord)
  | psetCommit
  | psetSwap
  | apply (word : Word)
  | beamTableApply
  | posSet (axis : Nat)
  | cinchTest (tripPs : Nat)
  | motionCommit (ch : Fin 6) (byHost : Bool)
  | motionShadowWrite (ch : Fin 6) (word : Fin 5) (high : Bool) (value : Word)
  | motionPlanComplete (ch : Fin 6)
  | segmentSwap (ch : Fin 6)
  | segmentEnd (ch : Fin 6)
  | motionStop (mask : BitVec 6)
  | motionClear (mask : BitVec 6)
  | patternRun (errors : Nat)
  | dmaStart (c : Fin 8)
  | dmaRetry (c : Fin 8)
  | dmaStop (c : Fin 8)
  | dmaAppend (c : Fin 8)
  | checkUnitStart (u : Fin 4) (byHost : Bool)
  | checkUnitData8 (u : Fin 4) (byHost : Bool) (value : Word)
  | checkUnitData16 (u : Fin 4) (byHost : Bool) (value : Word)
  | checkUnitData32 (u : Fin 4) (byHost : Bool) (value : Word)
  | posYLoRead
  | timNsRead
  | clkXovrClear (value : Word)
  | monDiagAck (value : Word)
  | monProbeWrite (p : Fin 16) (reg : Fin 4) (value : Word)
  -- Resets, boot, status page
  | powerOnReset (cause : PorCause)
  | mrst
  | hostLinkReset (kind : LinkReset)
  | watchdogExpiry
  /-- The fill ends, or a Boot step has failed before it (R48). -/
  | dramFillComplete (report : FillEnd)
  | statusRefresh (sec : Section)
  | parameterTick
  -- Position and pacing
  | quadEdge (axis : Axis) (move : QuadMove) (stamp detected : Nat)
  | pwsFrame (d0 d1 : BitVec 80) (arrival : Nat)
  | pwsAxisTimeout (axis : Axis)
  | shotCrossed (shot : Int) (tc tdet : Nat)
  | stripeArm (t : Nat)
  | bell (ts : Nat)
  | gatherComplete (shot : Int) (margins : List Nat)
  | laneDeadline (group : Fin 8) (incomplete : BitVec 64)
  /-- `t` is the block boundary at which the frame begins (R217). -/
  | frameStart (lane : Fin 64) (t : Nat)
  | idleFrame (t : Nat)
  | strobeRise (group : Fin 8)
  | strobeFall (group : Fin 8)
  | echoReceived (lane : Fin 64) (echo : DWord) (t : Nat)
  | echoDeadline (lane : Fin 64) (t : Nat)
  | returnLaneLock (lane : Fin 64)
  | returnLaneLockLost (lane : Fin 64) (t : Nat)
  | returnLockTimeout (lane : Fin 64) (t : Nat)
  | txLaneFault (lane : Fin 64) (t : Nat)
  | linkLossClear
  /-- One engine's report: launch power of its 8 lanes in 0.1 dBm, bias of its lanes in percent of the fault limit, temperature in °C, and ms since the last report. -/
  | opticsReport (engine : Fin 8) (power : List Int) (bias : List Nat) (temp : Int)
  | cinchTrip (t : Nat)
  | exposeSettleDone (tripPs : Nat)
  | holdEffect
  | lastLayerReady
  -- Beam health
  /-- The µs left in the Recess slot (R60). -/
  | checkRunOpen (slotUs : Nat)
  /-- Its time, the ADC sample taken at it, and the stage counts at it (R257, R260). -/
  | checkBell (t sample : Nat) (stageX stageY : Int)
  /-- A rising edge that the filter of R245 is to accept. -/
  | gateInEdge (edge : GateEdge)
  | checkWindowClose (group : Fin 8) (high : Bool)
  | checkBatchEnd
  | readyGpioFall
  -- Ingest, Skiver, rasterizer, Window
  | blockLanded (c : Fin 8) (bytes : List Byte)
  | blockRefetch (seq : Nat) (bytes : List Byte)
  | decodeStart (seq : Nat)
  | decodeComplete (seq : Nat)
  | blockCommit
  | granuleReturn
  | tileComplete (tile : TileDone)
  | bandFinalize
  | windowRowWrite
  | stagingRoom (c : Fin 8)
  -- DMA and link
  | dmaDescriptorFetch (c : Fin 8) (read : HostRead)
  | dmaDescriptorComplete (c : Fin 8) (xfer : HostXfer)
  | pcieCorrectableError
  -- DRAM
  /-- A tREFI interval ends; `unitDone` says that every bank has had its REFpb in it, `waiting` what waits (R311 to R315). -/
  | refreshInterval (pc : Fin 64) (unitDone : Bool) (waiting : List DramWait)
  | hbmTempRead (stack : Fin 2) (a b : Nat)
  | neighbourRefresh (pc : Fin 64) (bank : Fin 32) (row : Nat)
  | disturbWindowStart (stack : Fin 2)
  | hbmAerr (error : ParityError)
  | hbmPowerDown (pc : Fin 64)
  | scrubUnit (addr : MemUnit) (result : EccResult) (rewritten : Bool)
  -- Supply, Rest, domains
  | vinBelowWarning (t : Nat)
  | supplyRecovery
  | railBelowWarning (rail : Fin 8)
  | restEntryStart
  | restStageComplete
  | restStageOverrun
  | restWake (src : WakeSource)
  /-- The banks and the firmware-and-tables regions whose signature differs (R472). -/
  | wakeComplete (lostBanks : BitVec 96) (lostRegions : BitVec 16)
  | domainPowerGood (d : Fin 9)
  | domainFault (d : Fin 9)
  -- Cohort
  | rollCallSend
  | rollCallReceived (p : Port) (f : CohFrame)
  | rollCallMiss (pos : Fin 32)
  | reachExpiry (pos : Fin 32)
  | cohPortDown (p : Port)
  /-- T1 to T4 of R418 are times of the module time counter, in 25 ps steps. -/
  | timeReqSend (p : Port) (t1 : Nat)
  | timeReqReceived (p : Port) (f : CohFrame) (req : ReqTimes) (t3 : Nat)
  | timeRespReceived (p : Port) (f : CohFrame) (t4 : Nat)
  | readySend
  | readyReceived (p : Port) (f : CohFrame)
  | goReceived (p : Port) (f : CohFrame)
  | armMissFrame (p : Port) (f : CohFrame)
  | membershipReceived (p : Port) (f : CohFrame)
  | resumeFrameReceived (p : Port) (f : CohFrame)
  | holdSetReceived (p : Port) (src : Fin 32) (holdId : Nat)
  | wakePatternBurst
  -- Time
  | triggerFire (n : Fin 8)
  | servoTick
  /-- The advance of H over the window's 10^7 REF_IN cycles, in units of 2^-32 ns (R437). -/
  | refInWindow (advance : Nat)
  | refInLost
  | ptpEventMessage (m : PtpMsg)
  | ptpSyncTimeout
  -- Motion
  | stepPulse (ch : Fin 6)
  /-- The sense code of a zero-current position and the counter time in ns; `skipped` when the next step came first (R298). -/
  | stallSample (ch : Fin 6) (skipped : Bool) (code t : Nat)
  | approachStart
  -- Monitors, clocks, JTAG
  | dieTempRead (temps : List Int)
  | diagSnapshot
  | bistComplete (failed : BitVec 9) (misr : DWord) (memFail : Option MemUnit)
  | gpioEdge (n : Fin 8) (rising : Bool)
  | pllUnlock (p : Synth)
  | pllRelock (p : Synth)
  | jtagInstruction (i : TapInstr)
  | debugOpen
  | rcRegisterRead (a : RegAccess)
  | proctorRestartEnd
  | porRelease (slewSel : BitVec 2)
  | mrstRelease (slewSel : BitVec 2)
  | cohLaneLockChange (p : Port) (lane : Fin 4) (locked : Bool)
  | ethLinkChange (up : Bool)
  | pcieLinkUp (link : PcieTraining) (width : PcieWidth)
  | railRecovery (rail : Fin 8)
  | vinRecoveryCrossing (mv : Nat)
  | railSample (mv : List Nat)
  | replayComplete (ch : Fin 32)
  | stopProfileEnd (ch : Fin 6)
  | counterWrap
  | auxAdcConversionEnd (n : Fin 8) (code : Nat)
  | gpioPulseEnd (n : Fin 8)
  | txLaneFaultEnd (lane : Fin 64)
  | tapReset
  deriving DecidableEq, Repr

end Sys2Proof
end

