-- ==== Sys2Proof/Machine/State.lean ====
section
/-!
DEFINITION. The state of the module: everything the manual gives it, as plain data. Registers the manual numbers stand
in ONE register file (`regs`, by key); the structures beside it hold the state that has no register. Each field's
comment gives its width or range, the rule that names it, and its value at reset.
-/

namespace Sys2Proof.Machine

/-- Reasons a step can stop. -/
inductive Fault where
  /-- Raised by the commands that carry a supply voltage (RAIL_SAMPLE, VIN_RECOVERY_CROSSING) when it lies beyond the
  absolute maximum of Table 23-5: "The module is not specified to operate at these values" (R522). Safe: the model
  stops where the manual gives no behaviour. -/
  | absoluteMaximum
  deriving DecidableEq, Repr

/-- Commands without a meaning. -/
inductive Refusal where
  /-- The command of this mnemonic has no meaning yet. Raised by no arm of the finished model. Safe. -/
  | notModelled (mnemonic : String)
  deriving DecidableEq, Repr

/-! ## Modes, job states, reasons -/

/-- The six modes (Table 2-1). -/
inductive Mode where
  | boot | ready | write | hold | service | rest
  deriving DecidableEq, Repr

/-- The mode code of Table 2-1. -/
def Mode.code : Mode → Nat
  | .boot => 0 | .ready => 1 | .write => 2 | .hold => 3 | .service => 4 | .rest => 5

/-- The job states (Table 2-5). -/
inductive JobState where
  | none | loaded | stripe | recess | layerOpen | done
  deriving DecidableEq, Repr

/-- The job-state code of Table 2-5. -/
def JobState.code : JobState → Nat
  | .none => 0 | .loaded => 1 | .stripe => 2 | .recess => 3 | .layerOpen => 4 | .done => 5

/-- The blanking reasons, in the order of precedence of R40. -/
inductive Reason where
  | strobeCut | supplyWarn | linkLoss | hold | outOfStep | overspeedDrop | lateData | renderReject | poisonData
  | correctionRange | lateShot | doseClip | echoMismatch
  deriving DecidableEq, Repr

/-- The echo classes (Table 8-6). -/
inductive EchoClass where
  | match | notFired | crcBad | missing | cut | wrongFrame | firedNonShot
  deriving DecidableEq, Repr

/-- Frame types (Table 8-3). -/
inductive FrameType where
  | shot | blank | idle
  deriving DecidableEq, Repr

/-- Where Boot stands (R336, R477). -/
inductive BootPhase where
  /-- A reset holds the module. -/
  | held
  /-- The self-test and SRAM fill are done, the Proctor runs and the DRAM fill runs. -/
  | filling
  /-- A Boot step failed (R48). -/
  | failed
  /-- Boot is over. -/
  | over
  deriving DecidableEq, Repr

/-- A resume that has been accepted and has not completed (R53, R55, R373). -/
inductive Resume where
  | none
  /-- In-stripe: gather restarts with this shot; the slot that asked. -/
  | inStripe (first : Int) (slot : Option (Fin 16))
  /-- While no stripe is armed: at the next tick. -/
  | atTick (slot : Option (Fin 16))
  deriving DecidableEq, Repr

/-- A job end in progress (R65, R66): the slot that asked (none: the abort of R460), the FORCE flag when it is a
JOB_CLOSE, and whether it has taken effect, so that only echoes of fired shots are outstanding. -/
structure Ending where
  slot : Option (Fin 16)
  close : Option Bool
  effective : Bool
  deriving DecidableEq, Repr

/-- Modes, job state and Hold. -/
structure Flow where
  /-- Mode (4-bit code, R46); reset Boot (Table 20-8). -/
  mode : Mode
  /-- Job state (4-bit code, Table 2-5); reset NONE. -/
  job : JobState
  /-- Boot phase (R336, R477); reset filling: POR has been released, the self-test has passed. -/
  boot : BootPhase
  /-- Failing Boot step (8 bits, R48); reset 0. -/
  bootStep : Nat
  /-- HOLD_CAUSES (32 bits, Table 14-5); reset 0. -/
  causes : Word
  /-- Hold causes that have arisen since the last resume or job end: their events must be acknowledged (R52); reset 0. -/
  seen : Word
  /-- A Hold is requested and has not taken effect (R43); reset false. -/
  holdReq : Bool
  /-- Bit 0 of HOLD_CAUSES stands for a request of host software or of firmware, and not for a clock alone (R372, Table
  21-2); reset false. -/
  hostHold : Bool
  /-- The resume in progress (R53, R373); reset none. -/
  resume : Resume
  /-- The job is ending: a JOB_ABORT or JOB_CLOSE that has not finished (R65, R66); reset none. -/
  ending : Option Ending
  /-- A LAYER_CLOSE of the last layer waits for the next tick (R64), with its slot and the entries it waived; reset none. -/
  lastLayer : Option (Fin 16 × Nat)
  /-- A JOB_START waits for the settle of R242, with its slot (none: a time trigger); reset none. -/
  starting : Option (Option (Fin 16))
  /-- A Proctor restart is in progress, with the mode that follows it (R50); reset none. -/
  restart : Option Mode
  /-- A Proctor restart is requested and waits for the Hold it asked for (R50); reset false. -/
  restartReq : Bool
  /-- A SERVICE_EXIT waits for a running BIST and its fill (Table 15-2), with its slot; reset none. -/
  serviceExit : Option (Fin 16)
  deriving DecidableEq, Repr

/-- Event sources (R359, R360). -/
structure Events where
  /-- EVENT_0 to EVENT_2 (96 bits, Table 14-9); reset 0. -/
  bits : BitVec 96
  /-- Sources raised since the refresh that last showed them (96 bits, R360); reset 0. -/
  unseen : BitVec 96
  /-- Per source, the SEQ of the first refresh that showed its latest raise (32 bits each, R360); reset: none listed. -/
  shown : List (Nat × Nat)
  deriving DecidableEq, Repr

/-- The core section of the status page as last refreshed (Table 14-4). -/
structure CorePage where
  timeNs : Nat
  timeS : Nat
  mode : Nat
  job : Nat
  bootStep : Nat
  causes : Word
  jobId : Nat
  layer : Nat
  stripe : Nat
  shot : Word
  bandLead : Nat
  psetSeq : Word
  absHead : Word
  absUnrec : Word
  events : BitVec 96
  digest : Nat
  jobDigest : Nat
  epoch : Word
  stagingFree : Nat
  dmaState : Nat
  domains : Nat
  deriving DecidableEq, Repr

/-- One member's row of the cohort section (Table 14-6). -/
structure MemberRow where
  digest : Nat
  epoch : Nat
  state : Nat
  deriving DecidableEq, Repr

/-- One probe's row of the monitor section (Table 14-6). -/
structure ProbeRow where
  source : Nat
  min : Int
  max : Int
  last : Int
  deriving DecidableEq, Repr

/-- The status page and the firmware-written identity fields. -/
structure Page where
  /-- Core sequence word SEQ (32 bits, R348); reset 0. -/
  coreSeq : Nat
  /-- The core section (Table 14-4); reset all zero (R350). -/
  core : CorePage
  /-- MON_SEQ (32 bits, R348); reset 0. -/
  monSeq : Nat
  /-- The 16 probe rows (Table 14-6); reset: none written, reading zero. -/
  probes : List ProbeRow
  /-- COH_SEQ (32 bits, R348); reset 0. -/
  cohSeq : Nat
  /-- MEMBERS and OWN as last refreshed (R352); reset 0. -/
  members : Nat
  own : Nat
  /-- The 32 member rows (Table 14-6); reset: none written, reading zero. -/
  rows : List MemberRow
  /-- Firmware has written FW_RELEASE, IF_LEVEL, LIFECYCLE, ROLLBACK and PAGE_VERSION (R347); reset false. -/
  identityWritten : Bool
  deriving DecidableEq, Repr

/-- One mailbox slot (Table 14-7a). -/
structure Slot where
  opcode : Nat
  tag : Nat
  alive : Nat
  length : Nat
  reserved : Nat
  lastAlive : Nat
  status : Nat
  ctag : Nat
  calive : Nat
  clength : Nat
  done : Nat
  payload : List Byte
  deriving DecidableEq, Repr

/-- The mailboxes (R353 to R357). -/
structure Mail where
  /-- MBX_0 to MBX_15 (256 bytes each, Table 14-7a); reset all zero. -/
  slots : List Slot
  /-- Slots rung whose command has not been accepted, in order of arrival (R343, R357); reset empty. -/
  waiting : List (Fin 16)
  /-- The slot whose accepted command has not completed (R357); reset none. -/
  current : Option (Fin 16)
  /-- A host-link reset has cleared that slot: its completion is not written (R343); reset false. -/
  orphan : Bool
  /-- Slots whose command a Proctor restart cut off, to complete ABORTED after it (R357); reset empty. -/
  cut : List (Fin 16)
  deriving DecidableEq, Repr

/-- The optional features of Table 14-1 that the endpoint has. -/
inductive PcieFeature where
  | laneReversal | polarityInversion | tenBitTags | aer | aspmL1 | functionLevelReset
  deriving DecidableEq, Repr

/-- The configuration space of the PCIe endpoint, as Table 14-1 fixes it (R342). -/
structure PcieConfig where
  /-- Vendor and Device ID, and the subsystem IDs that equal them (16 bits each). -/
  vendor : Nat
  device : Nat
  subVendor : Nat
  subDevice : Nat
  /-- Class code (24 bits). -/
  classCode : Nat
  /-- Physical functions. -/
  functions : Nat
  /-- BAR0, the only one: its size in bytes, the width of its address, and whether it is prefetchable; and the expansion ROM. -/
  bar0 : Nat
  bar0Bits : Nat
  prefetchable : Bool
  expansionRom : Bool
  /-- Interrupt Pin. -/
  interruptPin : Nat
  /-- The rates and widths to which the link trains. -/
  rates : List PcieRate
  widths : List PcieWidth
  /-- Max Payload Size and the largest Max Read Request Size in bytes; non-posted requests outstanding. -/
  maxPayload : Nat
  maxReadRequest : Nat
  outstanding : Nat
  /-- What of the optional features is present; no other is. -/
  features : List PcieFeature
  deriving DecidableEq, Repr

/-- The configuration space of this module. -/
def PcieConfig.dm5126 : PcieConfig :=
  { vendor := 0x1F3C, device := 0x5126, subVendor := 0x1F3C, subDevice := 0x5126, classCode := 0x120000, functions := 1
    bar0 := 65536, bar0Bits := 64, prefetchable := false, expansionRom := false, interruptPin := 0
    rates := [.gt2_5, .gt5, .gt8, .gt16, .gt32], widths := [.x1, .x2, .x4, .x8], maxPayload := 512, maxReadRequest := 4096, outstanding := 256
    features := [.laneReversal, .polarityInversion, .tenBitTags, .aer, .aspmL1, .functionLevelReset] }

/-- The host's side of J2. -/
structure HostLink where
  /-- The configuration space (R342); fixed. -/
  config : PcieConfig
  /-- The rate and the width to which the link last trained (Table 14-1); reset none: not trained. -/
  rate : Option PcieRate
  width : Option PcieWidth
  /-- The Max Payload Size and the Max Read Request Size that the host has set, in bytes (R342, R384); reset 128 and 512. -/
  payload : Nat
  readRequest : Nat
  /-- The bytes that the completion of the last BAR0 read carried (R345); reset empty. -/
  read : List Byte
  /-- The posted writes of the last outbound descriptor, in order: host address and bytes (R384, R388 to R391); reset empty. -/
  wrote : List (Nat × List Byte)
  /-- Accesses that arrived in Rest and wait for the wake, in order of arrival (R346); reset empty. -/
  held : List Instr
  deriving DecidableEq, Repr

/-- A descriptor as fetched (Table 16-1). -/
structure Desc where
  addr : Nat
  src : Nat
  dst : Nat
  next : Nat
  len : Nat
  flags : Nat
  seq : Nat
  deriving DecidableEq, Repr

/-- A descriptor read ahead of its turn (R385): what came, or the address whose read failed. -/
inductive Fetched where
  | read (d : Desc)
  | failed (addr : Nat)
  deriving DecidableEq, Repr

/-- A read of host memory that the write engine has issued for a channel and whose data stands in the buffer or in flight (R384). -/
structure HostRequest where
  chan : Nat
  addr : Nat
  len : Nat
  deriving DecidableEq, Repr

/-- What a DMA channel waits for. -/
inductive DmaPhase where
  | idle
  /-- The read of the descriptor at this address is in flight. -/
  | fetch (addr : Nat)
  /-- The NEXT word of the kept tail is being read again (R398). -/
  | reread
  /-- A STAGING descriptor waits for ring room (R392). -/
  | room
  /-- The data of the current descriptor is in flight. -/
  | data
  deriving DecidableEq, Repr

/-- One DMA channel beside its registers (R397, R398). -/
structure DmaChan where
  /-- What it waits for; reset idle. -/
  phase : DmaPhase
  /-- Copy of the descriptor being executed, or of the kept tail (R398); reset none. -/
  desc : Option Desc
  /-- The descriptors read behind it, in chain order (R385); reset empty. -/
  ahead : List Fetched
  /-- The read of the next one is in flight (R385); reset false. -/
  reading : Bool
  /-- Bytes of the descriptors in execution that have been asked of host memory (R384); reset 0. -/
  asked : Nat
  /-- APPEND_COUNT sampled at the last descriptor read (32 bits, R398); reset 0. -/
  sample : Nat
  /-- STOP lets the current descriptor complete (R397); reset false. -/
  stopping : Bool
  /-- First staging ring unit of its STAGING transfer (R392); reset 0. -/
  ringAt : Nat
  deriving DecidableEq, Repr

/-- The DMA engines (R384 to R398). -/
structure Dma where
  /-- The eight channels. -/
  chans : List DmaChan
  /-- Requests of host memory issued and not done with, oldest first, and the channel that issued last (R384, R385); reset empty, 7. -/
  requests : List HostRequest
  turn : Nat
  /-- Correctable errors in the running second of the time counter, and that second (R396); reset 0. -/
  aerSecond : Nat
  aerInSecond : Nat
  /-- PCIE_ERROR has been raised in that second (R396); reset false. -/
  aerRaised : Bool
  /-- The link has trained below 32 GT/s x8 (R342, Table 14-9); reset false. -/
  degraded : Bool
  deriving DecidableEq, Repr

/-- One check-value unit's running state (R401, R402). -/
structure Chk where
  /-- Algorithm sampled at START (Table 16-5); reset 0. -/
  alg : Nat
  /-- Running CRC register (64 bits); reset the initial value of ALG 0. -/
  crc : Nat
  /-- Bytes that may still wait in its queue, at most (R402); reset 0. -/
  queued : Nat
  deriving DecidableEq, Repr

/-! ## The job -/

/-- A DOSE_CLASS_TABLE entry (R72). -/
structure DoseClass where
  base : Nat
  pec : Bool
  deriving DecidableEq, Repr

/-- A stripe list entry (Table 3-3). -/
structure StripeEntry where
  layer : Nat
  stripe : Nat
  h : Nat
  xOrigin : Int
  yOrigin : Int
  makeup : Bool
  scanNeg : Bool
  deriving DecidableEq, Repr

/-- The loaded job (R68 to R76). -/
structure Job where
  jobId : Nat
  digest : Nat
  additive : Bool
  pixPm : Nat
  pixCounts : Nat
  nlayer : Nat
  classes : List DoseClass
  /-- PEC_KERNEL weights, 81 of them, or empty (R72). -/
  kernel : List Nat
  /-- PEC_FACTOR_TABLE, 256 × 64, or empty (R72). -/
  factors : List Nat
  /-- The stripes in writing order (R59, R74). -/
  stripes : List StripeEntry
  /-- The sequence number after the last block the headers cover (R75, R79). -/
  seqEnd : Nat
  deriving DecidableEq, Repr

/-- Progress of the job (R57 to R64). -/
structure Progress where
  /-- START_LEAD in force (R58, 9 bits); reset 32 (its default). -/
  startLead : Nat
  /-- Position in the stripe list of the current or next stripe; reset 0. -/
  cur : Nat
  /-- The last stripe started: layer and stripe (R66); reset none. -/
  lastStarted : Option (Nat × Nat)
  /-- The stripe of the job's last Bell: layer and stripe (R461); reset none. -/
  lastBell : Option (Nat × Nat)
  /-- Layers closed (R64); reset 0. -/
  closed : Nat
  /-- A Recess slot is open (R302), the counter time of its start and the earliest end (ns, R374); reset none. -/
  recess : Option (Nat × Nat)
  /-- RECESS_EXTEND accepted with no slot open: ms for the next slot (R374); reset 0. -/
  extendMs : Nat
  /-- The motion master reports scan speed reached for the current stripe (R58, R303); reset false. -/
  speed : Bool
  deriving DecidableEq, Repr

/-! ## Ingest and the Skiver -/

/-- A sealed block header as received (Table 3-4). -/
structure BlockHdr where
  magic : Nat
  version : Nat
  kind : Nat
  bflags : Nat
  seq : Nat
  layer : Nat
  stripe : Nat
  firstBand : Nat
  lastBand : Nat
  clen : Nat
  dlen : Nat
  res1 : Nat
  ccheck : Nat
  res2 : Nat
  deriving DecidableEq, Repr

/-- One record of decompressed content: type, attribute, byte offset, body bytes (R88). -/
structure Record where
  typ : Nat
  attr : Nat
  off : Nat
  body : List Byte
  deriving DecidableEq, Repr

/-- Where an accepted block stands between landing and commit (R79, R105). -/
inductive BlockPhase where
  /-- Failed for good at a check before its turn for check 4, whose effect waits for that turn (R79, R82, R102). -/
  | held
  /-- A failed reading is being read again from the descriptor (R80, R116). -/
  | refetch
  /-- It has passed checks 1 to 3; waits for a decode engine (R104). -/
  | ready
  /-- On a decode engine. -/
  | decoding
  /-- Waiting for geometry queue room (R118). -/
  | waitQueue
  /-- Decoded, its content equal to CCHECK, before its turn for check 4 (R117). -/
  | decoded
  /-- Decoded and checked; waits to commit. -/
  | checked
  /-- Unrenderable; its effect has been applied and its SEQ is consumed at its turn. -/
  | rejected
  /-- Accepted and discarded: a block of an abandoned stripe, or one below a checkpoint's commit point. -/
  | discarded
  deriving DecidableEq, Repr

/-- An accepted block (R79 to R105). -/
structure Blk where
  seq : Nat
  /-- Channel and descriptor it landed from (R80). -/
  chan : Nat
  descAddr : Nat
  /-- The bytes of its last reading. -/
  bytes : List Byte
  hdr : BlockHdr
  readings : Nat
  phase : BlockPhase
  /-- The cause of a failure at checks 1 to 3 whose effect waits for the block's turn (R102). -/
  cause : Option Nat
  /-- The cause and offset of a failure at check 5 before its turn for check 4 (R117). -/
  late : Option (Nat × Nat)
  /-- It has passed check 4. -/
  placed : Bool
  /-- What check 4 found before it placed the block: the current stripe, the FIRST_BAND of R83 and the stripe's last
  DENSITY_MAP block (R116); none until it is placed. -/
  before : Option (Nat × Option Nat × Option Nat)
  /-- Units of the staging ring it holds, and the first of them (R392). -/
  units : Nat
  ringAt : Nat
  /-- Position of its stripe in the stripe list (geometry and density blocks). -/
  stripeIdx : Nat
  /-- The first STRIPE_GEOMETRY block of its stripe. -/
  first : Bool
  plain : List Byte
  content : List Byte
  records : List Record
  /-- Its parse has got past the stripe prologue (R97). -/
  opened : Bool
  /-- KiB of the geometry queue it reserved (R118), and the first of them (log entry 22). -/
  queueKib : Nat
  queueAt : Nat
  deriving DecidableEq, Repr

/-- A reject record (R103). -/
structure Reject where
  seq : Nat
  cause : Nat
  offset : Nat
  deriving DecidableEq, Repr

/-- Ingest of the block stream (R79 to R83). -/
structure Ingest where
  /-- Next expected SEQ (64 bits, R79); reset 0. -/
  nextSeq : Nat
  /-- Next SEQ to commit (R105); reset 0. -/
  commitSeq : Nat
  /-- The current stripe of R82, as a position in the stripe list; reset 0. -/
  curStripe : Nat
  /-- Stripes abandoned under Table 3-9, as positions; reset empty. -/
  abandoned : List Nat
  /-- Make-up stripes removed from the list when their layer closed (R100), by layer and stripe; reset empty. -/
  removed : List (Nat × Nat)
  /-- The current stripe has had a STRIPE_GEOMETRY block, and that block's FIRST_BAND (R81, R83); reset none. -/
  geomFirst : Option Nat
  /-- Accepted blocks not yet consumed, in SEQ order; reset empty. -/
  blocks : List Blk
  /-- Reject records, newest first, at most 16 (R103); reset empty. -/
  rejects : List Reject
  /-- Duplicate and out-of-sequence block counts (32 bits each, R103); reset 0. -/
  duplicates : Nat
  outOfSeq : Nat
  /-- CELLS blocks below this SEQ are discarded without commit after a checkpoint (R474); reset 0. -/
  cellsBelow : Nat
  /-- Staging ring units in use, in 4 KiB, and the unit that the next transfer takes first (R392); reset 0. -/
  stagingUsed : Nat
  stagingNext : Nat
  /-- KiB of the geometry queue that the next content takes first (log entry 22); reset 0. -/
  queueNext : Nat
  deriving DecidableEq, Repr

/-- A committed cell (R91, R121). -/
structure Cell where
  uid : Nat
  id : Nat
  bbox : Int × Int × Int × Int
  records : List Record
  granules : Nat
  /-- Its first granule (log entry 22). -/
  storeAt : Nat
  depth : Nat
  /-- The box of its expanded coordinates, none when it has none (R87). -/
  ext : Option (Int × Int × Int × Int)
  /-- The storage each placed CELL_ID resolved to (R106). -/
  places : List (Nat × Nat)
  deriving DecidableEq, Repr

/-- Evicted granules waiting for the fence of R125. -/
structure Fence where
  granules : Nat
  uids : List Nat
  /-- The bands that must be rendered first: stripe position and last band. -/
  upTo : List (Nat × Nat)
  deriving DecidableEq, Repr

/-- The cell cache (R120 to R127). -/
structure Cache where
  /-- SIZE sampled at JOB_LOAD, as it acts (R120); reset 64. -/
  size : Nat
  /-- The directory: CELL_ID to storage, none for an unrenderable mark (R121); reset empty. -/
  dir : List (Nat × Option Nat)
  /-- Cell storage by uid, evicted cells of pending fences included; reset empty. -/
  cells : List Cell
  /-- Next uid; reset 0. -/
  nextUid : Nat
  /-- Pending evictions (R125); reset empty. -/
  fences : List Fence
  /-- Granule of storage that the next cell takes first, before wrapping (log entry 22); reset 0. -/
  nextGranule : Nat
  deriving DecidableEq, Repr

/-! ## Rasterizer, band ring, Window -/

/-- Committed geometry of one block (R84, R105). -/
structure Geom where
  stripeIdx : Nat
  firstBand : Nat
  lastBand : Nat
  seq : Nat
  dlen : Nat
  queueKib : Nat
  queueAt : Nat
  last : Bool
  records : List Record
  places : List (Nat × Nat)
  deriving DecidableEq, Repr

/-- A MAKEUP record (Table 3-8). -/
structure Makeup where
  srcLayer : Nat
  srcStripe : Nat
  entry : Nat
  x0 : Nat
  x1 : Nat
  v0 : Nat
  v1 : Nat
  miss : Nat
  lsrc : Nat
  deriving DecidableEq, Repr

/-- Per-stripe prologue data (R95 to R98). -/
structure StripeData where
  stripeIdx : Nat
  classes : List DoseClass
  /-- Supplied margin densities: key tile row × 520 + tile column (R96). -/
  margin : List (Nat × Nat)
  /-- Coarse density: key q × 10 + (p + 1) (R97). -/
  dmap : List (Nat × Nat)
  /-- SEQ of its last DENSITY_MAP block, when it has had one (R97). -/
  dmapSeq : Option Nat
  makeups : List Makeup
  /-- Its prologue has been parsed (R97). -/
  parsed : Bool
  /-- Bands logged RENDER_REJECT (R102). -/
  rejected : List Nat
  /-- Bands complete under R84, counted from 0; all of them once its LAST_OF_STRIPE block is checked. -/
  complete : Nat
  /-- SEQ, FIRST_BAND, LAST_BAND and DLEN of its geometry blocks that passed check 4, oldest first (R119, R339). -/
  covers : List (Nat × Nat × Nat × Nat)
  /-- SEQ of its first block (R469). -/
  firstSeq : Option Nat
  deriving DecidableEq, Repr

/-- A rendered, unfinalized band (R141): w and v of each covered pixel, key row × 33,280 + column. -/
structure Pending where
  stripeIdx : Nat
  band : Nat
  w : List (Nat × Nat)
  v : List (Nat × Nat)
  /-- Tiles whose content or density could not be read (Table 13-2), as 520m + i. -/
  unreadable : List Nat
  /-- First byte of its w and v in the pending area (log entry 22). -/
  base : Nat
  deriving DecidableEq, Repr

/-- A band that is being rendered (R149 to R152): the tiles that have started and that are finished, those whose content
could not be read (as 520m + i), Σ of R151 and the actual cell-cycles. -/
structure Render where
  stripeIdx : Nat
  band : Nat
  started : Nat
  done : Nat
  unreadable : List Nat
  bound : Nat
  cycles : Nat
  deriving DecidableEq, Repr

/-- A finished band in the ring (R144): T by byte offset of its slot. Its poisoned units are those of the slot's
addresses. `seq` is the SEQ of the first STRIPE_GEOMETRY block that covers it (R339), none where no block does. -/
structure Band where
  stripeIdx : Nat
  band : Nat
  slot : Nat
  seq : Option Nat
  dose : List (Nat × Nat)
  deriving DecidableEq, Repr

/-- The rasterizer and correction engine (R130 to R153). -/
structure Raster where
  /-- Committed geometry, in SEQ order; reset empty. -/
  geoms : List Geom
  /-- Prologue and completion data of the stripes in flight; reset empty. -/
  stripes : List StripeData
  /-- The next band to start (stripe position, band); reset (0, 0). -/
  stripeIdx : Nat
  band : Nat
  /-- Bands being rendered, oldest first; reset empty. -/
  current : List Render
  /-- The 64 raster cells: stripe position, band and tile of each one's tile (R149); reset all free. -/
  cells : List (Option (Nat × Nat × Nat))
  /-- Rendered, unfinalized bands, oldest first, at most two (R146); reset empty. -/
  pending : List Pending
  /-- Tile densities: key ((stripe position × 2^22 + tile row) × 520 + column) (R135); reset empty. -/
  density : List (Nat × Nat)
  /-- Finished bands not yet loaded into the Window, oldest first (R147); reset empty. -/
  ring : List Band
  /-- Bands loaded into a Window, whose bytes still stand in their released slots (R146, R339; log entry 18); reset
  empty. -/
  released : List Band
  /-- Ring slot of the next finished band; reset 0. -/
  nextSlot : Nat
  deriving DecidableEq, Repr

/-- The Window (R161 to R168). -/
structure Window where
  /-- The stripe it is open for, as a position; reset none. -/
  stripeIdx : Option Nat
  /-- G_W sampled at opening (R162); reset 64. -/
  guard : Nat
  /-- Next row to write, and the first row still resident (R164, R165); reset 0. -/
  next : Int
  low : Int
  /-- Resident bytes: key (ring row) × 33,280 + column offset, unlisted = 0 (R161); reset empty. -/
  bytes : List (Nat × Nat)
  /-- Last shot whose gather has completed in this stripe (R165); reset -4. -/
  gathered : Int
  deriving DecidableEq, Repr

/-! ## Beam Table -/

/-- A BEAM_REPORT history record (R377). -/
structure History where
  layer : Nat
  stripe : Nat
  shot : Nat
  beam : Nat
  oldStatus : Nat
  newStatus : Nat
  live : Nat
  gNew : Nat
  deriving DecidableEq, Repr

/-- The Beam Table and its summaries (R156 to R160). -/
structure Beams where
  /-- 262,144 entries of 64 bits, unlisted = 0 (Table 6-1); reset emptied (Table 20-8 Z). -/
  table : List (Nat × DWord)
  /-- 32,768 summary words (Table 6-2); reset emptied. -/
  summary : List (Nat × Word)
  /-- An APPLY seen and not yet applied: its GTH_BT_CMD word (R159), and the slot of a BEAM_SET that waits for it; reset none. -/
  applyCmd : Option (Word × Option (Fin 16))
  /-- Applies firmware has made and not yet staged, oldest first (R255, R376): cover set, entries; reset empty. -/
  queue : List (Nat × List (Nat × DWord) × Option (Fin 16))
  /-- Writes to the staging registers waiting under R160: register key and value; reset empty. -/
  stalled : List (Nat × Word)
  /-- History records, newest first, at most 65,536, and the index of the next (R377); reset empty, 0. -/
  history : List History
  nextHist : Nat
  /-- Per beam: layer and stripe written when it last passed a SCAN (R256); reset: none listed. -/
  lastPass : List (Nat × Nat × Nat)
  /-- Per beam: layer, stripe, shot of its last status change (R377); reset: none listed. -/
  lastChange : List (Nat × Nat × Nat × Nat)
  /-- Cover sets changed by applies since the last gather start (R268); reset empty. -/
  changed : List Nat
  deriving DecidableEq, Repr

/-! ## Position, Bell, shots, lanes -/

/-- One axis of the position input (R185 to R191). -/
structure AxisState where
  /-- Count (40 bits, signed); reset 0. -/
  count : Int
  /-- PWS: frames since the last good frame that set VALID (R191); reset 0. -/
  age : Nat
  deriving DecidableEq, Repr

/-- The PWS receiver (R190). -/
structure Pws where
  /-- Consecutive good and bad frames; reset 0. -/
  good : Nat
  bad : Nat
  /-- FSEQ of the last good frame; reset none. -/
  fseq : Option Nat
  /-- Latch time of the last good frame and u at it; reset none. -/
  lastLatch : Option Nat
  deriving DecidableEq, Repr

/-- A position sample for the velocity estimate (R203). -/
structure Sample where
  t : Nat
  y : Int
  x : Int
  /-- The yaw count. -/
  w : Int
  deriving DecidableEq, Repr

/-- The position block beside its registers. -/
structure Pos where
  y : AxisState
  x : AxisState
  yaw : AxisState
  pws : Pws
  /-- Position samples, newest first (R203); reset empty. -/
  samples : List Sample
  /-- Values POS_Y_LO's last read captured for its seven companions stand in the registers (R209). High-water mark h (40 bits, R198); reset 0. -/
  hwm : Int
  /-- POS_CFG, POS_JITTER, POS_VEL, POS_PWS_CFG as in force (sampled at arming, R210); reset their POR values. -/
  cfg : Word
  jitter : Word
  vel : Word
  pwsCfg : Word
  /-- Axes that have raised POS_FAULT: its condition lasts while one of them is invalid (R187, R191, R360); reset none. -/
  faulted : List Axis
  /-- OVERSPEED_WARN may be raised (R208); reset true: no interval has been at or below the guard. -/
  warnArmed : Bool
  deriving DecidableEq, Repr

/-- A crossing of a shot position (R198): its time and the time it became known. -/
structure Crossing where
  shot : Int
  tc : Nat
  tdet : Nat
  deriving DecidableEq, Repr

/-- The armed stripe (R197 to R208). Times are in 25 ps steps. -/
structure Armed where
  stripeIdx : Nat
  /-- Shots assigned to the next slots, in order (R199). -/
  slots : List Int
  /-- Bell time of the previous slot; none before the first lead slot (R199). -/
  tPrev : Option Int
  /-- Its period; before the first lead slot, the P_prev of R199. -/
  pPrev : Int
  /-- Crossings not yet carried by a Bell. -/
  crossings : List Crossing
  /-- Time of the last crossing, for the interval of R208. -/
  lastTc : Option Nat
  /-- The shot after the last one assigned to a slot or dropped (R199, R205). -/
  next : Int
  /-- OUT_SLICE and OUT_SKEW_g sampled at arming (R243), as they act. -/
  slice : Nat
  skew : List Nat
  deriving DecidableEq, Repr

/-- One lane's part of one shot. -/
structure LaneShot where
  /-- Counts were not complete at the lane deadline (R29). -/
  late : Bool
  /-- The lane deadline has passed (R27). -/
  passed : Bool
  /-- The frame sent: its type, its CRC, and the time of its first block (R215 to R217). -/
  sent : Option (FrameType × Word × Nat)
  /-- BLANK_ALL sources in force at the frame start or at the sample of R221, as reasons. -/
  blocked : List Reason
  /-- A cut pending its echo: reason and t_a in 25 ps steps, 0xFF_FFFF when the strobe had fallen (R233). -/
  cut : Option (Reason × Nat)
  /-- The class, once classified (R226). -/
  cls : Option EchoClass
  deriving DecidableEq, Repr

/-- One Stitch Group's strobe of one shot. -/
structure GroupShot where
  /-- Rise time when the strobe was issued (R219). -/
  rise : Option Int
  fallen : Bool
  deriving DecidableEq, Repr

/-- A shot from gather start to settling (R154, R269). -/
structure Shot where
  stripeIdx : Nat
  /-- Layer, stripe, S − 1 and JOB_TAG of its stripe (R22, R267). -/
  layer : Nat
  stripe : Nat
  lastShot : Nat
  jobTag : Nat
  shot : Int
  psetSeq : Word
  /-- Stage errors and yaw used by gather (R205). -/
  ex : Int
  ey : Int
  theta : Int
  /-- Whole-shot reasons that apply (R39). -/
  whole : List Reason
  /-- Every group has finished its gather (R175). -/
  gathered : Bool
  /-- Gather has formed its doses: no whole-shot reason was found at its start (R154). -/
  dosed : Bool
  /-- OUT_SLICE and OUT_SKEW_g as sampled for its strobes (R219, R243). -/
  slice : Nat
  skew : List Nat
  /-- Its stripe has been closed or its job ended before its Bell: only echoes are to come (R55, R66). -/
  closed : Bool
  /-- The record stands for every shot from this one to S − 1 of a closed stripe (R55). -/
  rest : Bool
  /-- Beam Table entries in force at the shot (R154, R268). -/
  table : List (Nat × DWord)
  /-- Counts of the beams that carry one above 0 (R173). -/
  counts : List (Nat × Nat)
  /-- Absent exposures found at gather, stand-ins included: beam and reason (R34, R35, R172). -/
  absent : List (Nat × Reason)
  /-- Beams whose exposure falls on rejected rows (R272). -/
  rowsBeams : List Nat
  /-- Cover sets changed by the applies between the gather before this one and this one (R268). -/
  btSets : List Nat
  lanes : List LaneShot
  groups : List GroupShot
  /-- Bell time and period once its Bell has run. -/
  bell : Option (Int × Int)
  deriving DecidableEq, Repr

/-- LINK_LOSS (R234 to R236). -/
structure LinkLoss where
  /-- In force; reset false. -/
  on : Bool
  /-- Consecutive clean slots counted toward SETTLE (16 bits); reset 0. -/
  clean : Nat
  /-- First shot to fire after it cleared (R236); reset none. -/
  clearsAt : Option Int
  deriving DecidableEq, Repr

/-- One output lane (R211 to R228). -/
structure Lane where
  /-- Consecutive frames not in class MATCH (R228); reset 0. -/
  bad : Nat
  /-- The return lane has gained lock since OUT was raised, or its timeout has passed (R234); reset false. -/
  watched : Bool
  /-- Ends of the IDLE frames sent and not yet classified, oldest first; reset empty. -/
  idle : List Nat
  /-- The lane's own transmit fault is reported (R234); reset false. -/
  alarm : Bool
  deriving DecidableEq, Repr

/-- The outputs (R211 to R242). -/
structure Out where
  /-- The 64 lanes. -/
  lanes : List Lane
  link : LinkLoss
  /-- HEAD_FAULT latched (R229); reset false. -/
  headFault : Bool
  /-- The supply warning blanks (R482); reset false. -/
  supply : Bool
  /-- Shots resume after a supply dip at this shot (R484); reset none. -/
  supplyTo : Option Int
  /-- OUT_OF_STEP in force (R414), and its blanking holds to the end of this stripe; reset false. -/
  outOfStep : Bool
  outOfStepStripe : Option Nat
  /-- Strobe outputs now high, one per group (R219); reset 0. -/
  strobes : BitVec 8
  /-- Counter time at which EXPOSE_EN turned on (ns, R242); reset none. -/
  exposeSince : Option Nat
  /-- OPTICS_WARN may be raised, and the reports within limits since (R237); reset true, 0. -/
  opticsArmed : Bool
  opticsClean : List Nat
  deriving DecidableEq, Repr

/-! ## Beam health -/

/-- The check steps (Table 9-1). -/
inductive CheckStep where
  | dark | scan | recheck | cal | locateX | locateY
  deriving DecidableEq, Repr

/-- The batch in progress (R251 to R263). Its check Bells play contents 0 to n − 1 and then those of `extra`. -/
structure Batch where
  step : CheckStep
  /-- The last check Bell run; -1 after the lead, -2 before it (R248). -/
  i : Int
  /-- The check Bell of the run, counted after its lead, that is the batch's first (R248). -/
  start : Nat
  n : Nat
  /-- Contents played after the first n: repeats of void check Bells, and beams measured again. -/
  extra : List Nat
  /-- First scan index of a SCAN batch; BHM_CAL_CURSOR as a CAL batch began. -/
  base : Nat
  /-- The beam of a RECHECK; the beams of a CAL batch. -/
  plan : List Nat
  /-- COUNT, REPEAT, SAMPLES and SETTLE as they act in this batch. -/
  count : Nat
  reps : Nat
  samp : Nat
  settle : Nat
  /-- Windows PULSED and HELD: check Bell and group (R245). -/
  pulsed : List (Int × Nat)
  held : List (Int × Nat)
  /-- Windows of which a beam is fired, by the table as their check Bell's counts were formed: check Bell and group (R252). -/
  fired : List (Int × Nat)
  /-- Contents found void once (R248). -/
  voids : List Nat
  /-- CAL samples, by content (R261). -/
  samples : List (Nat × Nat)
  /-- Beams of `plan` to measure again at the end, and those already listed for it (R262, R263). -/
  redo : List Nat
  redone : List Nat
  /-- Stage position at the last check Bell, and at the check Bells of a LOCATE traverse that had a PULSED window (R257). -/
  stage : Int
  hits : List (Int × Int)
  /-- Beams whose first measurement saturated, and positions of `plan` that have been judged (R262). -/
  saturated : List Nat
  judged : List Nat
  deriving DecidableEq, Repr

/-- A detector window that has not closed (R245, R249), in steps. -/
structure CheckWindow where
  group : Nat
  opens : Int
  closes : Int
  pulsed : Bool
  /-- Its check Bell, and the stage position there. -/
  bell : Int
  stage : Int
  deriving DecidableEq, Repr

/-- Beam health (R244 to R264). -/
structure Health where
  /-- The open check run's batch; reset none. -/
  run : Option Batch
  /-- Batches opened so far, which tells their check shots apart; reset 0. -/
  serial : Nat
  /-- Windows of the last check Bell that have not closed; reset empty. -/
  windows : List CheckWindow
  /-- What BEAM_CHECK and BEAM_LOCATE asked for and has not ended; reset empty. -/
  asked : List CheckStep
  /-- The commands that complete as a step they asked for begins, with their slots (R365); reset empty. -/
  starts : List (CheckStep × Fin 16)
  /-- Beams waiting for RECHECK (R252); reset empty. -/
  recheck : List Nat
  /-- A DARK step has passed since the last DARK failure (R259); reset true. -/
  darkPassed : Bool
  /-- The Recess slot, by its start, in which DARK has run (R264); reset none. -/
  darkAt : Option Nat
  /-- The next of SCAN and CAL in a slot is CAL (R264); reset false. -/
  calNext : Bool
  /-- Stage position of the hit of the X traverse (R257); reset none. -/
  xHit : Option Int
  /-- PIX_COUNTS of the traverses in progress (R257, log entry 20); reset 0. -/
  pix : Nat
  /-- BEAM_CHECK has stopped the sequence of Service (R264); reset false. -/
  paused : Bool
  /-- ADC, sensor and rail coefficients of ANALOG_CAL (Table 9-3); reset: none calibrated. -/
  adcCal : List (Int × Nat)
  sensorCal : List Int
  railCal : List Nat
  deriving DecidableEq, Repr

/-! ## Absence Log -/

/-- An Absence Log entry (Table 10-1). -/
structure AbsEntry where
  layer : Nat
  stripe : Nat
  first : Nat
  last : Nat
  x0 : Nat
  x1 : Nat
  mask : Nat
  reason : Reason
  cut : Bool
  rows : Bool
  reconciled : Bool
  waived : Bool
  psetSeq : Nat
  ta : Nat
  l : Nat
  jobTag : Nat
  /-- S − 1 of its stripe, which a lost record needs (R277); no field of the entry. -/
  stripeEnd : Nat
  deriving DecidableEq, Repr

/-- The Absence Log beside its registers (R267 to R280). -/
structure Abs where
  /-- The ring: entries by index, oldest first (R274); reset empty. -/
  ring : List (Nat × AbsEntry)
  /-- Open entries, earliest opened first (R271); reset empty. -/
  openE : List AbsEntry
  /-- The lost record (R277); reset none. -/
  lost : Option AbsEntry
  /-- Entries waiting for a slot, in the order they formed (R277); reset empty. -/
  waiting : List AbsEntry
  deriving DecidableEq, Repr

/-! ## Motion -/

/-- A profile a channel follows (R289, R293): its start, the jerk sequence, and where it ends. -/
structure Segment where
  /-- Start position, velocity and acceleration, in counts and µs. -/
  p0 : Dy
  v0 : Dy
  a0 : Dy
  /-- The jerk sequence: durations in µs, jerk. -/
  phases : List (Dy × Dy)
  /-- Duration T in µs (R289). -/
  dur : Dy
  /-- End position and velocity. -/
  target : Dy
  vEnd : Dy
  /-- Start time, extended ns of the counter, unrounded (R292). -/
  start : Dy
  deriving DecidableEq, Repr

/-- One motion channel beside its registers (R286 to R300). -/
structure Chan where
  /-- The active segment or stop profile while it moves; reset none. -/
  seg : Option Segment
  /-- The plan of the pending COMMIT, once complete (R292); reset none. Its start time is set at the swap. -/
  plan : Option Segment
  /-- Rest position in counts (R289); reset 0. -/
  rest : Dy
  /-- Output count of a step channel (64 bits, R296); reset 0. -/
  count : Int
  /-- Direction output DIRN_n (R296); reset false. -/
  dirn : Bool
  /-- MOT_CH_n_CFG as it was when the channel last left rest (R305); reset 0. -/
  cfg : Word
  /-- The 0.4 ns cycles of the last step and of the last change of DIRN_n (R296, R297); reset none. -/
  lastStep : Option Nat
  dirAt : Option Nat
  deriving DecidableEq, Repr

/-- The motion generator (R286 to R304). -/
structure Motion where
  chans : List Chan
  /-- FSEQ of the next set-point frame (8 bits, Table 11-4); reset 0. -/
  fseq : Nat
  /-- The last set-point frame sent (R294); reset none. -/
  frame : List Byte
  /-- Counter time of a servo tick: the phase (R294, Table 18-1); reset 0. -/
  phase : Int
  /-- Choreography step the master is in, 0 when none (Table 11-5); in a LOCATE traverse 11 to position, 12 to gather speed,
  13 to traverse, 14 to stop (R257); reset 0. -/
  step : Nat
  /-- Limits of channels A and B that firmware uses: V_MAX, A_MAX, J_MAX raw (R301); reset 0. -/
  limA : Nat × Nat × Nat
  limB : Nat × Nat × Nat
  /-- BEAM_LOCATE traverses own channels A and B (R287); reset false. -/
  locate : Bool
  deriving DecidableEq, Repr

/-! ## DRAM and integrity -/

/-- One row-disturbance counter entry (R319). -/
structure RowCount where
  entry : Nat
  row : Nat
  count : Nat
  deriving DecidableEq, Repr

/-- A command to a DRAM channel (R321): the pseudo-channel, and what it acts on. -/
inductive DramCmd where
  | activate (pc bank row : Nat)
  | precharge (pc bank : Nat)
  | prechargeAll (pc : Nat)
  | read (pc bank row col burst : Nat)
  | write (pc bank row col burst : Nat)
  | refreshAll (pc : Nat)
  | refreshBank (pc bank : Nat)
  | rfm (pc bank : Nat)
  deriving DecidableEq, Repr

/-- The DRAM subsystem beside its registers (R306 to R325). -/
structure Hbm where
  /-- Refresh debt of each pseudo-channel (R314), unlisted = 0; reset 0. -/
  debt : List (Nat × Nat)
  /-- Counter entries: key (pseudo-channel × 32 + bank), R319; reset empty. -/
  rows : List (Nat × List RowCount)
  /-- Channels replaying, and consecutive failed replays per channel (R321, R322); reset empty. -/
  replaying : List Nat
  fails : List (Nat × Nat)
  /-- Pseudo-channels in power-down (64 bits, R323); reset 0. -/
  powerDown : BitVec 64
  /-- Stacks in self-refresh (R468); reset false. -/
  selfRefresh : Bool
  /-- Stored DRAM address order in flash (2 bits, R310); reset 2 (DESIGN CHOICE, log entry 3). -/
  storedOrder : Nat
  /-- A DRAM fill is running for Service (MEM_FILL, pattern run, memory BIST) and what follows it; reset none. -/
  fill : Option Bool
  /-- The open row of each bank, by the key of `rows` (log entry 130); reset none. -/
  openRows : List (Nat × Nat)
  /-- The last 32 commands of each channel, newest first, and those that a replay reissues, in their order (R321); reset
  empty. -/
  retry : List (Nat × List DramCmd)
  reissue : List (Nat × List DramCmd)
  /-- Requests for one 64-byte unit that wait for a replay of their channel to end, a write or a read of a unit each, oldest
  first (R321); reset empty. -/
  held : List (Bool × Nat)
  /-- Sensors whose last reading lay at or above HOT: S0A, S0B, S1A, S1B (4 bits, R318); reset 0. -/
  hot : BitVec 4
  /-- Lanes that training has mapped to spare lanes: channel and lane (Table 12-6); reset empty. -/
  spares : List (Nat × Nat)
  deriving DecidableEq, Repr

/-- The 64-bit words of a memory that do not decode as clean, by word number (R327, R328): with one flipped bit, with an
uncorrectable error, and poisoned. -/
structure Codes where
  single : List Nat
  double : List Nat
  poison : List Nat
  deriving DecidableEq, Repr

/-- Memory integrity beside its registers (R327 to R340). -/
structure Ecc where
  /-- Words of DRAM, by address / 8; reset empty. -/
  dram : Codes
  /-- Words of on-die SRAM, by bank × 262,144 + offset / 8; reset empty. -/
  sram : Codes
  /-- DRAM pages whose valid bit is clear (R333, R335): ranges, first page and count; reset every page (before the fill). -/
  invalid : List (Nat × Nat)
  /-- 64-byte units of SRAM whose valid bit is clear: ranges, first unit (bank × 32,768 + offset / 64) and count; reset
  empty (filled). -/
  sramInvalid : List (Nat × Nat)
  /-- Corrections in the running second of the time counter, that second, and whether ECC_CE_HIGH has been raised in it
  (R329); reset 0, false. -/
  ceSecond : Nat
  ceInSecond : Nat
  ceRaised : Bool
  /-- Generation of the memory key pair (R340); reset 1: generated at this fill. -/
  memKey : Nat
  /-- The memory key pair is zeroized (R462); reset false. -/
  memKeyGone : Bool
  deriving DecidableEq, Repr

/-! ## Cohort and time -/

/-- What the module keeps of one ring position (R408, R411, R416, R421). -/
structure Peer where
  /-- ALIVE of the last accepted frame (R408); reset none. -/
  alive : Option Nat
  /-- Its last ROLL_CALL: digest, epoch, STATE word, HOLD_CAUSES, JOB_ID; reset none. -/
  roll : Option (Nat × Nat × Nat × Nat × Nat)
  /-- Port and HOPS of its last ROLL_CALL (R419); reset none. -/
  via : Option (Port × Nat)
  /-- Last HOLD_ID acted on from it (R416, R417); reset 0. -/
  holdId : Nat
  /-- Its READY for the next stripe has been accepted (R422); reset none. -/
  ready : Option (Nat × Nat)
  deriving DecidableEq, Repr

/-- A burst of the wake pattern (R428): the port and lane, the sync header, the eight bytes behind it, least significant bit of
each first, and how often the ordered set is repeated. -/
structure WakeBurst where
  port : Port
  lane : Nat
  header : Nat
  block : List Byte
  times : Nat
  deriving DecidableEq, Repr

/-- The cohort block beside its registers (R405 to R428). -/
structure Coh where
  /-- The 32 ring positions. -/
  peers : List Peer
  /-- Recorded HOLD pairs (SRC, HOLD_ID), R416; reset empty. -/
  pairs : List (Nat × Nat)
  /-- HOLD sets already acted on or forwarded, by (SRC, HOLD_ID), R415; reset empty. -/
  seen : List (Nat × Nat)
  /-- ALIVE of the next frame this module sends (32 bits); reset 0. -/
  alive : Nat
  /-- The GO last accepted: layer, stripe, epoch (R423); reset none. -/
  go : Option (Nat × Nat × Nat)
  /-- T1 of the outstanding TIME_REQ per port, 25 ps steps (R418); reset none. -/
  t1East : Option Nat
  t1West : Option Nat
  /-- Frames sent, on the wire: port, frame (R408, R409), oldest first; reset empty. -/
  sent : List (Port × CohFrame)
  /-- HOLD ordered sets sent, on the wire: port, SRC, HOLD_ID (R415), oldest first; reset empty. -/
  sentHold : List (Port × Nat × Nat)
  /-- Wake-pattern bursts sent on each port since the wake, 10,000 when none is to be sent (R428); reset 10,000: no wake has
been. -/
  burstsEast : Nat
  burstsWest : Nat
  /-- Wake-pattern bursts sent, on the wire (R428), oldest first; reset empty. -/
  sentWake : List WakeBurst
  /-- TIME_ALIGN by offset (R420); reset false. -/
  misaligned : Bool
  /-- No master frame accepted for 3 ms (R420); reset false. -/
  masterLost : Bool
  /-- This module was removed from COH_KEEP (R426); reset false. -/
  removed : Bool
  /-- A frame or ordered set was accepted on the port within the last 100 µs (R406); reset false. -/
  heardEast : Bool
  heardWest : Bool
  deriving DecidableEq, Repr

/-- A time trigger (R441). -/
structure Trigger where
  action : Nat
  gpio : Nat
  /-- Next firing time, extended ns. -/
  next : Nat
  period : Nat
  width : Nat
  deriving DecidableEq, Repr

/-- A transmit-timestamp queue entry (R440). -/
structure TsEntry where
  id : Nat
  time : Nat
  deriving DecidableEq, Repr

/-- The time base beside its registers (R430 to R442). -/
structure Tim where
  /-- H (48 bits of ns) and FRAC (32 bits), R430; reset 0. -/
  h : Nat
  frac : Nat
  /-- HIGH (R432), and WRAPS at firmware's previous read; reset 0. -/
  high : Nat
  prevWraps : Nat
  /-- Host increment (32.32 ns, R435); reset 0x0000_0002_0000_0000. -/
  hostInc : Nat
  /-- The eight triggers (R441); reset all off. -/
  trigs : List (Option Trigger)
  /-- Sense inputs converting for ACTION 2 (8 bits); reset 0. -/
  converting : BitVec 8
  /-- Trigger index per converting input; reset: none listed. -/
  convFor : List (Nat × Nat)
  /-- Transmit-timestamp queue, oldest first, at most 16 (R440); reset empty. -/
  ts : List TsEntry
  /-- PTP_CONFIG FLAGS bit 1, DOMAIN, IPV4 (R438); reset 0. -/
  ptpUdp : Bool
  ptpDomain : Nat
  ptpIp : Nat
  /-- The delay request-response exchange in ns: the origin and the receive timestamp of the last Sync, the servo's copies of
  the transmit timestamps of the Delay_Req messages by sequenceId, and the mean path delay (R438 to R440); reset none, 0. -/
  ptpSync : Option (Nat × Nat)
  ptpReqs : List (Nat × Nat)
  ptpDelay : Int
  /-- PTP_UNLOCKED is in force: the offset exceeded 1 µs, or no Sync came for 3 s (R439); reset false. -/
  ptpOut : Bool
  /-- REF_IN has had a complete window and is not lost (R437); reset false. -/
  refGood : Bool
  /-- Consecutive windows below 0.1 ppm (R437); reset 0. -/
  refWindows : Nat
  /-- The module is past AP4: wraps are counted in TIM_REST_WRAPS (R432); reset false. -/
  inRest : Bool
  /-- The SFP+ link at J13 is up (Table 14-9); reset false. -/
  ethUp : Bool
  deriving DecidableEq, Repr

/-! ## Security, power, monitors -/

/-- A firmware image in a flash slot (R457, R458). -/
structure Image where
  release : Nat
  rollback : Nat
  ifLevel : Nat
  /-- SHA-384 of header bytes 0x00-0x9F: FW_MEAS. -/
  meas : List Byte
  /-- The slot's copy verifies (R459). -/
  good : Bool
  deriving DecidableEq, Repr

/-- The keys of a job (R444, R452): the content key K_job and the block key K_blk. -/
structure JobKeys where
  content : List Byte
  block : List Byte
  deriving DecidableEq, Repr

/-- The pins of J14 that the boundary chain covers; a differential pair or a current loop is one (Table 23-4, R511, R512). STEP_x
and DIRN_x are numbered by k. -/
inductive J14Pin where
  | yA | yB | xA | xB | yawA | yawB | pwsD0 | pwsD1 | spD
  | strobe (g : Fin 8)
  | blankAll | exposeEn | gateIn
  | step (k : Fin 4)
  | dirn (k : Fin 4)
  | gpio (n : Fin 8)
  | wakeL | mrstL
  | slewSel (n : Fin 2)
  deriving DecidableEq, Repr

/-- What the data register of the TAP has captured (R511): the IDCODE word, the bypass bit, or the boundary chain. -/
inductive TapData where
  | idcode (w : Word)
  | bypass
  | boundary (cells : List (J14Pin × Bool))
  deriving DecidableEq, Repr

/-- Security (R444 to R463). -/
structure Sec where
  /-- Ordering code (R2, Table 14-3): 0 DM5126-AX, 1 DM5126-AK; reset 0 (DESIGN CHOICE, log entry 3). -/
  order : Nat
  /-- Customer root key in fuses, 96 bytes (R450); reset none, as a DM5126-AX ships (DESIGN CHOICE, log entry 3). -/
  rootKey : Option (List Byte)
  /-- K_job and K_blk, while they are held (R444, R452); reset none. -/
  jobKey : Option JobKeys
  /-- Flash slots A and B, the newest and the running one (R458); reset log entry 3. -/
  slotA : Image
  slotB : Image
  newestB : Bool
  runningB : Bool
  /-- The helper data from which the identity and wrap keys are derived at each POR is there (R444, R462); reset true. -/
  helper : Bool
  /-- The AON key store holds the identity key, and the two wrap keys, derived from it (R444, R462; their values are those under
which `Config.identitySign`, `Config.ecdh` and `Config.kemDecap` work); reset true. -/
  identity : Bool
  wrap : Bool
  /-- AON has loaded ID_KEY_HASH into the identity block (R347, R447): at each POR at which the identity key can be derived; reset true. -/
  hashLoaded : Bool
  /-- The first locked instruction since the last TAP reset is still to come (R460); reset true. -/
  tapArmed : Bool
  /-- A debug instruction is held until the sequence of R460 ends; reset false. -/
  debugHeld : Bool
  /-- The DRAM fill of that sequence has started (R460); reset false. -/
  debugFill : Bool
  /-- Instruction the TAP acts on (R511); reset IDCODE. -/
  tap : TapInstr
  /-- What the data register that it selects has captured (R511); reset IDCODE. -/
  tapData : TapData
  /-- Attestations since POR (32 bits, R380); reset 0. -/
  attests : Nat
  deriving DecidableEq, Repr

/-- What stage 2 of a Rest entry leaves (R469): the CRC-64/XZ of each retained bank, by its number, and of each of the 16 regions
of the firmware-and-tables region; which of those holds the copies; and the copies of bank 92 (the Beam Table), of bank 93 (the
cover-set summaries and the page-valid map) and of the band checkpoint (stripe, SEQ, commit point). -/
structure Retention where
  banks : List (Nat × Nat)
  regions : List Nat
  at' : Nat
  table : List (Nat × DWord)
  summary : List (Nat × Word)
  invalid : List (Nat × Nat)
  ckpt : Nat × Nat × Nat
  deriving DecidableEq, Repr

/-- Rest entry and wake (R469 to R472). -/
structure Rest where
  /-- REST_ENTER accepted, entry due after the delay (R382): mode of entry; reset none. -/
  due : Option Mode
  /-- Rest entry stage in progress, 1-4; 0 when none; reset 0. -/
  stage : Nat
  /-- Mode and job state of entry (R472); reset Ready. -/
  entry : Mode
  /-- A wake past AP4 is in progress; reset false. -/
  waking : Bool
  /-- A host-link reset takes effect after the wake (R478); reset none. -/
  linkReset : Option LinkReset
  /-- The band checkpoint: first stripe not started, its first SEQ, the commit point (R469); reset 0. -/
  ckptStripe : Nat
  ckptSeq : Nat
  ckptCommit : Nat
  /-- What stage 2 leaves until the retention check: the signatures in AON and the copies in DRAM (R469); reset none. -/
  kept : Option Retention
  /-- A dip came in Rest, to be raised at the wake (R485); reset false. -/
  dip : Bool
  deriving DecidableEq, Repr

/-- Power (R464 to R486). -/
structure Pwr where
  /-- Domains being raised, awaiting power-good (9 bits, R467); reset PROC and MEM, which Boot needs (DEDUCED, log entry 5). -/
  raising : BitVec 9
  /-- Domains that failed and wait for a vote cast anew (R467); reset 0. -/
  failed : BitVec 9
  /-- Votes, by domain and client, withdrawn since their domain failed (R467); reset none. -/
  withdrawn : List (Nat × Nat)
  rest : Rest
  /-- SLEW_SEL straps sampled (2 bits, R521); reset 0b11: open pins read high (R519). -/
  straps : BitVec 2
  /-- Register values that firmware holds for domains that are off (R467, R469): key and word; reset empty. -/
  saved : List (Nat × Word)
  deriving DecidableEq, Repr

/-- A probe's capture (R499). -/
structure Capture where
  min : Int
  max : Int
  last : Int
  samples : Nat
  bins : List (Nat × Nat)
  deriving DecidableEq, Repr

/-- A BIST run (R507 to R509). -/
structure Bist where
  kind : Nat
  domains : BitVec 9
  /-- A memory run is over and its fill runs; or a logic run is over and its result waits for the Proctor restart. -/
  filling : Bool
  deriving DecidableEq, Repr

/-- Monitors, GPIO and self-test (R498 to R513). -/
structure Mon where
  /-- The 16 captures (R499); reset restarted captures. -/
  caps : List Capture
  /-- THERMAL_WARN and THERMAL_TRIP in force (R503); reset false. -/
  warn : Bool
  trip : Bool
  /-- GPIO input levels (8 bits, R519: open reads low) and pins a trigger pulse drives high now (R520); reset 0. -/
  gpioIn : BitVec 8
  gpioHigh : List (Nat × Nat)
  /-- Index of the next diagnostics snapshot, and the snapshots of the chunk being filled (R505); reset 0, empty. -/
  snapIndex : Nat
  snaps : List (List Byte)
  /-- The count of diagnostics bytes that have been freed: MON_DIAG_ACK as it acts, one that would pass HEAD as HEAD (R506);
  reset 0. -/
  acked : Nat
  /-- The BIST run in progress, and one waiting with its slot (R508); reset none. -/
  bist : Option Bist
  bistNext : Option (Nat × Nat × Fin 16)
  deriving DecidableEq, Repr

/-- The clocks: pulse-crossing pending counts (R491), by CLK_XOVR bit, unlisted = 0, and the spread in force (R497). -/
structure Clk where
  /-- Pending counts, 0-15; reset 0. -/
  pend : List (Nat × Nat)
  /-- Accesses of firmware that wait for the clock of a stopped domain, oldest first (R494); reset empty. -/
  waiting : List Instr
  /-- The spread enables in force: bit 0 core, bit 1 Proctor; reset the POR value of CLK_SPREAD. -/
  spread : BitVec 2
  deriving DecidableEq, Repr

/-! ## The whole state -/

/-- The state of the module. -/
@[ext]
structure State where
  /-- The commands waiting, first in first out. -/
  pending : List Instr
  /-- The register file: key to 32-bit word, unlisted = the POR value of Regs.lean (R5). -/
  regs : List (Nat × Word)
  /-- DRAM by byte address, 35 bits (R308), unlisted = 0 (R333, R336). -/
  dram : List Host.Cell
  flow : Flow
  ev : Events
  page : Page
  mail : Mail
  host : HostLink
  dma : Dma
  chk : List Chk
  job : Option Job
  prog : Progress
  ingest : Ingest
  cache : Cache
  ras : Raster
  win : Window
  beams : Beams
  pos : Pos
  armed : Option Armed
  /-- Shots from gather start to settling, oldest first. -/
  shots : List Shot
  out : Out
  health : Health
  abs : Abs
  mot : Motion
  hbm : Hbm
  ecc : Ecc
  coh : Coh
  tim : Tim
  sec : Sec
  pwr : Pwr
  mon : Mon
  clk : Clk
  /-- The model's own field: how many free values have been used (log entry 4). -/
  free : Nat
  deriving DecidableEq, Repr

/-! ## Reset -/

/-- The core section before the Proctor runs: all zero (R350). -/
def CorePage.zero : CorePage :=
  ⟨0, 0, 0, 0, 0, 0, 0, 0, 0, 0, 0, 0, 0, 0, 0, 0, 0, 0, 0, 0, 0⟩

/-- A mailbox slot that reads zero (R343). -/
def Slot.zero : Slot := ⟨0, 0, 0, 0, 0, 0, 0, 0, 0, 0, 0, List.replicate 224 0⟩

/-- A restarted capture (R499). -/
def Capture.fresh : Capture := ⟨0x7FFFFFFF, -0x80000000, 0, 0, []⟩

/-- An idle DMA channel. -/
def DmaChan.idle : DmaChan := ⟨.idle, none, [], false, 0, 0, false, 0⟩

/-- A check unit as if started with ALG 0 and no fold (R401). -/
def Chk.por : Chk := ⟨0, 0xFFFFFFFF, 0⟩

/-- A motion channel at rest at position 0. -/
def Chan.por : Chan := ⟨none, none, Dy.zero, 0, false, 0, none, none⟩

/-- A ring position of which nothing is kept. -/
def Peer.empty : Peer := ⟨none, none, none, 0, none⟩

/-- The flash image a module ships with: release 3.4 at interface level 3 (R3); measurement bytes zero (log entry 3). -/
def Image.shipped : Image := ⟨0x03040000, 0, 3, List.replicate 48 0, true⟩

/-- No job has been run. -/
def Progress.zero : Progress := ⟨32, 0, none, none, 0, none, 0, false⟩

/-- Nothing has been ingested. -/
def Ingest.empty : Ingest := ⟨0, 0, 0, [], [], none, [], [], 0, 0, 0, 0, 0, 0⟩

/-- Every word decodes as clean. -/
def Codes.clean : Codes := ⟨[], [], []⟩

/-- An empty cell cache at SIZE 64. -/
def Cache.empty : Cache := ⟨64, [], [], 0, [], 0⟩

/-- The rasterizer with nothing rendered. -/
def Raster.empty : Raster := ⟨[], [], 0, 0, [], List.replicate 64 none, [], [], [], [], 0⟩

/-- A closed Window. -/
def Window.closed : Window := ⟨none, 64, 0, 0, [], -4⟩

/-- The Beam Table store, emptied. -/
def Beams.empty : Beams := ⟨[], [], none, [], [], [], 0, [], [], []⟩

/-- The position block at its POR values (R187, R210). -/
def Pos.por : Pos := ⟨⟨0, 0⟩, ⟨0, 0⟩, ⟨0, 0⟩, ⟨0, 0, none, none⟩, [], 0, 0x00021080, 4, 4, 0x400, [], true⟩

/-- A lane before anything has been sent on it. -/
def Lane.por : Lane := ⟨0, false, [], false⟩

/-- The outputs at reset: nothing in force, no lane locked. -/
def Out.por : Out :=
  ⟨List.replicate 64 Lane.por, ⟨false, 0, none⟩, false, false, none, false, none, 0, none, true, []⟩

/-- Beam health with no run. -/
def Health.por : Health := ⟨none, 0, [], [], [], [], true, none, false, none, 0, false, [], [], []⟩

/-- The machine right after power-on reset: POR has been released, the checker self-test has passed and SRAM is
filled, the Proctor runs and the DRAM fill is running (R336, R477; Table 20-8). -/
def State.reset : State where
  pending := []
  regs := []
  dram := []
  flow := ⟨.boot, .none, .filling, 0, 0, 0, false, false, .none, none, none, none, none, false, none⟩
  ev := ⟨0, 0, []⟩
  page := ⟨0, CorePage.zero, 0, [], 0, 0, 0, [], false⟩
  mail := ⟨List.replicate 16 Slot.zero, [], none, false, []⟩
  host := ⟨PcieConfig.dm5126, none, none, 128, 512, [], [], []⟩
  dma := ⟨List.replicate 8 DmaChan.idle, [], 7, 0, 0, false, false⟩
  chk := List.replicate 4 Chk.por
  job := none
  prog := Progress.zero
  ingest := Ingest.empty
  cache := Cache.empty
  ras := Raster.empty
  win := Window.closed
  beams := Beams.empty
  pos := Pos.por
  armed := none
  shots := []
  out := Out.por
  health := Health.por
  abs := ⟨[], [], none, []⟩
  mot := ⟨List.replicate 6 Chan.por, 0, [], 0, 0, (0, 0, 0), (0, 0, 0), false⟩
  hbm := ⟨[], [], [], [], 0, false, 2, none, [], [], [], [], 0, []⟩
  ecc := ⟨Codes.clean, Codes.clean, [(0, 8388608)], [], 0, 0, false, 1, false⟩
  coh := ⟨List.replicate 32 Peer.empty, [], [], 0, none, none, none, [], [], 10000, 10000, [], false, false, false, false, false⟩
  tim := ⟨0, 0, 0, 0, 0x200000000, List.replicate 8 none, 0, [], [], false, 0, 0, none, [], 0, false, false, 0, false, false⟩
  sec := ⟨0, none, none, Image.shipped, Image.shipped, false, false, true, true, true, true, true, false, false, .idcode, .idcode 0x1512681D, 0⟩
  pwr := ⟨12, 0, [], ⟨none, 0, .ready, false, none, 0, 0, 0, none, false⟩, 3, []⟩
  mon := ⟨List.replicate 16 Capture.fresh, false, false, 0, [], 0, [], 0, none, none⟩
  clk := ⟨[], [], 3⟩
  free := 0

end Sys2Proof.Machine
end

