-- ==== Sys2Proof/Machine/Ops.lean ====
section
/-!
DEFINITION. The named operations every block shares: registers and their fields, events, Hold causes, mailbox
completions, the time counter, memory, and lists by index.
-/

namespace Sys2Proof.Machine

/-! ## Event sources (Table 14-9) -/

namespace Ev

abbrev LATE_DATA : Nat := 0
abbrev LATE_SHOT : Nat := 1
abbrev OVERSPEED_DROP : Nat := 2
abbrev POISON_DATA : Nat := 3
abbrev CORRECTION_RANGE : Nat := 4
abbrev DOSE_CLIP : Nat := 5
abbrev SUPPLY_WARN : Nat := 6
abbrev ECHO_MISMATCH : Nat := 7
abbrev SOURCE_CHECK : Nat := 8
abbrev LINK_LOSS : Nat := 9
abbrev OUT_OF_STEP : Nat := 10
abbrev CINCH_CUT : Nat := 11
abbrev HOLD : Nat := 12
abbrev STUCK_OPEN : Nat := 13
abbrev REVERSAL : Nat := 14
abbrev HEAD_FAULT : Nat := 15
abbrev OVERSPEED_WARN : Nat := 16
abbrev POS_FAULT : Nat := 17
abbrev LEAD_LOW : Nat := 18
abbrev STREAM_ERROR : Nat := 19
abbrev CACHE_FULL : Nat := 20
abbrev LAYER_FORCED : Nat := 21
abbrev ABS_FULL : Nat := 22
abbrev ABS_LOST : Nat := 23
abbrev STRIPE_DONE : Nat := 24
abbrev LAYER_DONE : Nat := 25
abbrev JOB_DONE : Nat := 26
abbrev BEAM_RETIRED : Nat := 27
abbrev COVER_LOW : Nat := 28
abbrev CAL_DONE : Nat := 29
abbrev CHECK_DONE : Nat := 30
abbrev REFV_FAULT : Nat := 31
abbrev MOTION_FAULT : Nat := 32
abbrev STALL : Nat := 33
abbrev HBM_HOT : Nat := 34
abbrev HBM_FENCE : Nat := 35
abbrev HBM_BAND : Nat := 36
abbrev HBM_REPLAY : Nat := 37
abbrev ECC_CE_HIGH : Nat := 38
abbrev ECC_UE : Nat := 39
abbrev ECC_SCRUB_UE : Nat := 40
abbrev RETENTION_LOST : Nat := 41
abbrev OPTICS_WARN : Nat := 42
abbrev ARM_MISS : Nat := 43
/-- DMA_CH_c_HALT (Table 14-9, bits 44 to 51). -/
abbrev DMA_CH_HALT (c : Nat) : Nat := 44 + c
abbrev STAGING_FULL : Nat := 52
abbrev PCIE_ERROR : Nat := 53
abbrev PCIE_DEGRADED : Nat := 54
abbrev HOST_RESET : Nat := 55
abbrev PROCTOR_RESTART : Nat := 56
abbrev MBX_OVERRUN : Nat := 57
abbrev FW_WATCHDOG : Nat := 58
abbrev CROSSING_OVERRUN : Nat := 59
abbrev CLK_UNLOCK : Nat := 60
abbrev REF_IN_LOST : Nat := 61
abbrev THERMAL_WARN : Nat := 62
abbrev THERMAL_TRIP : Nat := 63
abbrev COH_EAST_DOWN : Nat := 64
abbrev COH_WEST_DOWN : Nat := 65
abbrev PARTITION : Nat := 66
abbrev REJOINED : Nat := 67
abbrev TIME_ALIGN : Nat := 68
abbrev MASTER_CONFLICT : Nat := 69
abbrev ROLL_CALL_MISS : Nat := 70
abbrev COHORT_CHANGED : Nat := 71
abbrev PTP_UNLOCKED : Nat := 72
abbrev TS_OVERFLOW : Nat := 73
abbrev TIME_STEP : Nat := 74
abbrev TRIGGER_MISSED : Nat := 75
abbrev FW_VERIFY_FAIL : Nat := 76
abbrev ROLLBACK_REFUSED : Nat := 77
abbrev DEBUG_ATTEMPT : Nat := 78
abbrev LIFECYCLE_CHANGE : Nat := 79
abbrev BLOCK_REFETCH : Nat := 80
abbrev RAIL_WARN : Nat := 81
abbrev WAKE : Nat := 82
abbrev REST_UNWOUND : Nat := 83
abbrev DOMAIN_FAULT : Nat := 84
abbrev AUTO_RESUME : Nat := 85
abbrev BIST_DONE : Nat := 86
abbrev BIST_FAIL : Nat := 87
abbrev MON_LIMIT : Nat := 88
abbrev GPIO_EDGE : Nat := 89
abbrev ETH_LINK : Nat := 90
abbrev RAS_SATURATE : Nat := 91
abbrev DOSE_CLAMP : Nat := 92
abbrev OVER_BUDGET : Nat := 93
abbrev ABS_STALE : Nat := 94
abbrev EVENT_TEST : Nat := 95

end Ev

/-- What a meaning answers. -/
abbrev Res : Type := Host.Outcome State Fault Refusal

/-! ## Registers -/

/-- The word a register holds. -/
def rget (s : State) (k : Nat) : Word := Sparse.get regPor s.regs k

/-- Make a register hold a word. -/
def rset (k : Nat) (v : Word) (s : State) : State := { s with regs := Sparse.set regPor s.regs k v }

/-- The value of a field. -/
def fget (s : State) (f : Field) : Nat := bits (rget s f.reg).toNat f.hi f.lo

/-- A field of width 1 reads 1. -/
def fbit (s : State) (f : Field) : Bool := fget s f == 1

/-- The signed value of a field. -/
def fint (s : State) (f : Field) : Int := signed (f.hi - f.lo + 1) (fget s f)

/-- A word with a field replaced. -/
def Field.put (f : Field) (w : Word) (v : Nat) : Word :=
  let n := f.hi - f.lo + 1
  BitVec.ofNat 32 (w.toNat - bits w.toNat f.hi f.lo * 2 ^ f.lo + v % 2 ^ n * 2 ^ f.lo)

/-- Put a value in a field (modulo its width). -/
def fput (f : Field) (v : Nat) (s : State) : State := rset f.reg (f.put (rget s f.reg) v) s

/-- Put a signed value in a field, in two's complement. -/
def fputInt (f : Field) (v : Int) (s : State) : State := fput f (unsigned (f.hi - f.lo + 1) v) s

/-- The largest value of a field. -/
def Field.top (f : Field) : Nat := 2 ^ (f.hi - f.lo + 1) - 1

/-- Put a value in a field, held at the field's largest value. -/
def fputSat (f : Field) (v : Nat) (s : State) : State := fput f (min f.top v) s

/-- Count in a field that holds at all ones. -/
def fcount (f : Field) (k : Nat) (s : State) : State := fput f (satAdd f.top (fget s f) k) s

/-- Keep the largest of a series in a field. -/
def fmax (f : Field) (v : Nat) (s : State) : State := fput f (max (fget s f) (min f.top v)) s

/-- Keep the smallest of a series in a field. -/
def fmin (f : Field) (v : Nat) (s : State) : State := fput f (min (fget s f) (min f.top v)) s

/-- Bit `n` of a field. -/
def fbitAt (s : State) (f : Field) (n : Nat) : Bool := (fget s f).testBit n

/-- Set or clear bit `n` of a field. -/
def fputBit (f : Field) (n : Nat) (b : Bool) (s : State) : State :=
  if fbitAt s f n = b then s else fput f (fget s f ^^^ 2 ^ n) s

/-- Bit `i` of a pair of 32-bit registers that hold 64 lanes. -/
def lanesBit (s : State) (lo hi : Nat) (i : Nat) : Bool :=
  if i < 32 then (rget s lo).getLsbD i else (rget s hi).getLsbD (i - 32)

/-- Set or clear bit `i` of a pair of 32-bit registers that hold 64 lanes. -/
def putLanesBit (lo hi : Nat) (i : Nat) (b : Bool) (s : State) : State :=
  let k := if i < 32 then lo else hi
  let m : Word := 1 <<< (i % 32)
  rset k (if b then rget s k ||| m else rget s k &&& ~~~m) s

/-- A 64-bit value in two registers. -/
def rget64 (s : State) (lo hi : Nat) : Nat := (rget s lo).toNat + 2 ^ 32 * (rget s hi).toNat

/-- Write a 64-bit value to two registers. -/
def rset64 (lo hi : Nat) (v : Nat) (s : State) : State :=
  rset hi (BitVec.ofNat 32 (v / 2 ^ 32)) (rset lo (BitVec.ofNat 32 v) s)

/-- A register returns to its POR value. -/
def rpor (k : Nat) (s : State) : State := rset k (regPor k) s

/-! ## Memory -/

/-- What an unlisted byte of DRAM reads as: zero, as the fill wrote it (R333, R336). -/
def dramPor : Nat → Byte := fun _ => 0

/-- The byte at a DRAM address. -/
def dramByte (s : State) (a : Nat) : Byte := Sparse.get dramPor s.dram a

/-- `n` bytes of DRAM from an address. -/
def dramRead (s : State) (a n : Nat) : List Byte := Sparse.getRun dramPor s.dram a n

/-- Write bytes to DRAM at an address. -/
def dramWrite (a : Nat) (bs : List Byte) (s : State) : State :=
  { s with dram := Sparse.setRun dramPor s.dram a bs }

/-- Bytes `lo` to `hi - 1` of DRAM read zero. -/
def dramClear (lo hi : Nat) (s : State) : State := { s with dram := Sparse.clear s.dram lo hi }

/-! ## Association lists of model data -/

/-- The value at a key, or a default. -/
def assocD {β : Type} (d : β) : List (Nat × β) → Nat → β
  | [], _ => d
  | (j, v) :: m, k => if k = j then v else assocD d m k

/-- Put a value at a key. -/
def assocPut {β : Type} (m : List (Nat × β)) (k : Nat) (v : β) : List (Nat × β) :=
  (k, v) :: m.filter fun e => e.1 != k

/-- Change the element at an index. -/
def updAt {β : Type} (d : β) (l : List β) (i : Nat) (f : β → β) : List β :=
  (l ++ List.replicate (i + 1 - l.length) d).modify i f

/-! ## Events (R359, R360) -/

/-- A source is raised: its bit is set, and no refresh has yet shown this raise. -/
def raise (n : Nat) (s : State) : State :=
  { s with ev := { s.ev with bits := s.ev.bits ||| 1 <<< n, unseen := s.ev.unseen ||| 1 <<< n } }

/-- Raise a source when a condition holds. -/
def raiseIf (b : Bool) (n : Nat) (s : State) : State := if b then raise n s else s

/-! ## Hold causes (Table 14-5) -/

/-- Bit `n` of HOLD_CAUSES is in force. -/
def hasCause (s : State) (n : Nat) : Bool := s.flow.causes.getLsbD n

/-- Set bit `n` of HOLD_CAUSES. -/
def setCause (n : Nat) (s : State) : State :=
  { s with flow := { s.flow with causes := s.flow.causes ||| 1 <<< n, seen := s.flow.seen ||| 1 <<< n } }

/-- Clear bit `n` of HOLD_CAUSES. -/
def clearCause (n : Nat) (s : State) : State :=
  { s with flow := { s.flow with causes := s.flow.causes &&& ~~~((1 : Word) <<< n) } }

/-! ## The time counter (R430, R432) -/

/-- H, modulo 2^48 ns. -/
abbrev timeH (s : State) : Nat := s.tim.h

/-- HIGH as firmware has it after reading WRAPS now: one more when WRAPS has wrapped since its previous read. -/
def timeHigh (s : State) : Nat := s.tim.high + (if s.tim.h / 2 ^ 32 < s.tim.prevWraps then 1 else 0)

/-- The extended time E in ns. -/
def timeE (s : State) : Nat := timeHigh s * 2 ^ 48 + s.tim.h

/-- The second of the extended time. -/
def timeSec (s : State) : Nat := timeE s / 1000000000

/-! ## Free values (log entry 4) -/

/-- Use one free value. -/
def useFree (s : State) : State := { s with free := s.free + 1 }

/-- The free value in force. -/
def freeNat (s : State) : Nat := Config.freeValue s.free

/-! ## Domains -/

/-- Domain `d` of the DOMAINS order is powered (Table 14-4). -/
def powered (s : State) (d : Nat) : Bool := fbitAt s Reg.PWR_STATUS_DOMAINS d

/-- Rest entry, Rest or a wake is in progress: what stage 1 stops does not go on (R469). -/
def resting (s : State) : Bool := s.pwr.rest.stage != 0 || s.flow.mode == .rest || s.pwr.rest.waking

/-- The Proctor takes pulses and refreshes the status page: it is released (R336), not restarting, and its domain is up,
which in Rest it is until AP4 (R350, R469). -/
def proctorRuns (s : State) : Bool :=
  s.flow.restart.isNone && (s.flow.boot != .held) && powered s 2 && (s.flow.mode != .rest || s.pwr.rest.stage == 4)

/-- A logic BIST is in progress. -/
def logicRuns (s : State) : Bool :=
  match s.mon.bist with
  | some b => b.kind == 0 && !b.filling
  | none => false

/-- A logic BIST holds the outputs of a domain in their state of Table 20-5 (R507). -/
def outputsHeld (s : State) (d : Nat) : Bool :=
  match s.mon.bist with
  | some b => b.kind == 0 && !b.filling && b.domains.getLsbD d
  | none => false

/-- The core clock runs: one of MEM, RAST, GATH and OUT is powered (Table 21-1). -/
def coreRuns (s : State) : Bool := powered s 3 || powered s 4 || powered s 5 || powered s 6

/-! ## Pulse crossings (R491) -/

/-- A source pulse of a named crossing, by its CLK_XOVR bit. While the destination runs, it takes every pending pulse
before the next source pulse; while it does not, pulses pend, and the sixteenth sets the overrun bit. -/
def crossPulse (bit : Nat) (destRuns : Bool) (s : State) : State :=
  let p := assocD 0 s.clk.pend bit
  if destRuns then { s with clk := { s.clk with pend := s.clk.pend.filter fun e => e.1 != bit } }
  else if p < 15 then { s with clk := { s.clk with pend := assocPut s.clk.pend bit (p + 1) } }
  else raise Ev.CROSSING_OVERRUN (fputBit Reg.CLK_XOVR_FLAGS bit true s)

/-! ## Completions (R353 to R357, R361) -/

/-- Status codes (Table 14-8). -/
inductive Status where
  | ok | inProgress | stale | badOpcode | badLength | badParam | wrongMode | busy | notPermitted | aborted | domainOff
  | range | headerInvalid | signatureInvalid | keyUnwrap | tableInadmissible | digestMismatch | noJob | holdCause
  | unreconciled | selftestFail | cellInUse | noReference | calFail | rollback | lifecycle | authFail
  deriving DecidableEq, Repr

/-- The code of a status. -/
def Status.code : Status → Nat
  | .ok => 0x0000 | .inProgress => 0x0001 | .stale => 0x0002 | .badOpcode => 0x0003 | .badLength => 0x0004
  | .badParam => 0x0005 | .wrongMode => 0x0006 | .busy => 0x0007 | .notPermitted => 0x0008 | .aborted => 0x0009
  | .domainOff => 0x000A | .range => 0x000B | .headerInvalid => 0x0101 | .signatureInvalid => 0x0102
  | .keyUnwrap => 0x0103 | .tableInadmissible => 0x0104 | .digestMismatch => 0x0105 | .noJob => 0x0106
  | .holdCause => 0x0107 | .unreconciled => 0x0108 | .selftestFail => 0x0109 | .cellInUse => 0x010A
  | .noReference => 0x0201 | .calFail => 0x0202 | .rollback => 0x0301 | .lifecycle => 0x0302 | .authFail => 0x0303

/-- The bytes of a slot. -/
def slotOf (s : State) (n : Fin 16) : Slot := s.mail.slots.getD n.val Slot.zero

/-- Change a slot. -/
def updSlot (n : Fin 16) (f : Slot → Slot) (s : State) : State :=
  { s with mail := { s.mail with slots := updAt Slot.zero s.mail.slots n.val f } }

/-- Slot `n` is busy (R354). -/
def slotBusy (s : State) (n : Fin 16) : Bool := fbitAt s Reg.MBX_STATE_BUSY n.val

/-- A completion payload, filled with zeros to 224 bytes (R362). -/
def padPayload (bs : List Byte) : List Byte := slice bs 0 224

/-- The slot with a completion in it: the payload, CLENGTH, STATUS, and DONE last (R356). -/
def Slot.completed (sl : Slot) (st : Status) (payload : List Byte) : Slot :=
  { sl with payload := padPayload payload, clength := payload.length, status := st.code, done := sl.calive }

/-- The command of slot `n` is no longer the one in progress. -/
def freeCurrent (n : Fin 16) (s : State) : State :=
  if s.mail.current = some n then { s with mail := { s.mail with current := none } } else s

/-- The accepted command of slot `n` completes. A command whose slot a host-link reset has cleared writes nothing
(R343). -/
def complete (n : Fin 16) (st : Status) (payload : List Byte) (s : State) : State :=
  if s.mail.current = some n ∧ s.mail.orphan then { s with mail := { s.mail with current := none, orphan := false } }
  else freeCurrent n (fputBit Reg.MBX_STATE_BUSY n.val false (updSlot n (fun sl => sl.completed st payload) s))

/-- Complete a command that an earlier command left in progress, when a slot asked for it. -/
def completeOpt (n : Option (Fin 16)) (st : Status) (payload : List Byte) (s : State) : State :=
  match n with
  | some n => complete n st payload s
  | none => s

/-- The slot of a command that is accepted: LAST_ALIVE, STATUS = IN_PROGRESS, CTAG and CALIVE (R356). -/
def Slot.accepted (sl : Slot) : Slot :=
  { sl with lastAlive := sl.alive, status := Status.inProgress.code, ctag := sl.tag, calive := sl.alive }

/-- Any command accepted during the delay of REST_ENTER cancels the entry (R382). -/
def cancelRest (s : State) : State := { s with pwr := { s.pwr with rest := { s.pwr.rest with due := none } } }

/-- The command of slot `n` is in progress, unless one is already. -/
def takeCurrent (n : Fin 16) (s : State) : State :=
  if s.mail.current.isNone then { s with mail := { s.mail with current := some n, orphan := false } } else s

/-- A command is accepted (R356). -/
def accept (n : Fin 16) (s : State) : State :=
  takeCurrent n (cancelRest (fputBit Reg.MBX_STATE_BUSY n.val true (updSlot n Slot.accepted s)))

end Sys2Proof.Machine
end

