-- ==== Sys2Proof/Machine/Beams.lean ====
section
/-!
DEFINITION. The Beam Table and its cover sets (R11 to R17, R156 to R158, R174): fields, ranks, admissibility, ERR.
-/

namespace Sys2Proof.Machine

/-- Beams of the array (R11). -/
abbrev nBeams : Nat := 262144
/-- Cover sets (R14). -/
abbrev nSets : Nat := 32768

/-- Fields of a Beam Table entry (Table 6-1). -/
def entX (e : DWord) : Int := signed 20 (bits e.toNat 19 0)
def entY (e : DWord) : Int := signed 20 (bits e.toNat 39 20)
def entG (e : DWord) : Nat := bits e.toNat 51 40
def entStatus (e : DWord) : Nat := bits e.toNat 53 52
def entRank (e : DWord) : Nat := bits e.toNat 57 54
def entReserved (e : DWord) : Nat := bits e.toNat 63 58

/-- An entry with its RANK replaced. -/
def withRank (e : DWord) (k : Nat) : DWord := BitVec.ofNat 64 (e.toNat - entRank e * 2 ^ 54 + k % 16 * 2 ^ 54)

/-- An entry with its G replaced. -/
def withG (e : DWord) (g : Nat) : DWord := BitVec.ofNat 64 (e.toNat - entG e * 2 ^ 40 + g % 4096 * 2 ^ 40)

/-- An entry with its STATUS replaced. -/
def withStatus (e : DWord) (st : Nat) : DWord := BitVec.ofNat 64 (e.toNat - entStatus e * 2 ^ 52 + st % 4 * 2 ^ 52)

/-- Live or weak-live (R16). -/
def entLive (e : DWord) : Bool := decide (entStatus e < 2)

/-- The cover set of an entry, x_b = (X_raw + 8) >> 4 (R14). -/
def entSet (e : DWord) : Int := (entX e + 8) / 16

/-- A beam table as a sparse list. -/
abbrev BeamTable : Type := List (Nat × DWord)

/-- The entry of a beam; an emptied store reads zero (Table 20-8). -/
def entry (t : BeamTable) (b : Nat) : DWord := Sparse.get (fun _ => 0) t b

/-- Put an entry. -/
def putEntry (t : BeamTable) (b : Nat) (e : DWord) : BeamTable := Sparse.set (fun _ => 0) t b e

/-- The members of a cover set, in ascending beam index. -/
def members (t : BeamTable) (x : Int) : List Nat := (List.range nBeams).filter fun b => entSet (entry t b) == x

/-- The live members of a cover set, in ascending beam index (R16). -/
def liveMembers (t : BeamTable) (x : Int) : List Nat := (members t x).filter fun b => entLive (entry t b)

/-- The position of a beam in a list. -/
def rankIn (l : List Nat) (b : Nat) : Nat := l.findIdx (· == b)

/-- The rank R16 assigns: its place among the live members of its set; 0 for a retired or stuck-open beam. -/
def assignedRank (t : BeamTable) (b : Nat) : Nat :=
  if entLive (entry t b) then rankIn (liveMembers t (entSet (entry t b))) b else 0

/-- The share of rank k among L members (R32). -/
def share (T k L : Nat) : Nat := T * (k + 1) / L - T * k / L

/-- The count before the clip test (R33). -/
def count (n G : Nat) : Nat := (n * G + 1024) / 2048

/-- 2,048 times the rounding error of a cover set at target T, for gains in rank order (R174). -/
def roundErr (gains : List Nat) (T : Nat) : Int :=
  (gains.zipIdx.map fun (g, k) =>
    let n := share T k gains.length
    (2048 * count n g : Int) - (n * g : Int)).foldl (· + ·) 0

/-- ERR: the largest |E(T)| over T = 0 to 248 (R174). -/
def setErr (gains : List Nat) : Nat := (List.range 249).foldl (fun m T => max m (roundErr gains T).natAbs) 0

/-- The summary word of a cover set (Table 6-2). -/
def summaryWord (mem live err : Nat) : Word := BitVec.ofNat 32 (mem + 32 * live + 1024 * err)

/-- The summary word the table gives a cover set (R158, R174). -/
def summaryOf (t : BeamTable) (x : Int) : Word :=
  let live := liveMembers t x
  summaryWord (members t x).length live.length (setErr (live.map fun b => entG (entry t b)))

/-- Fields of a summary word. -/
def sumMembers (w : Word) : Nat := bits w.toNat 4 0
def sumLive (w : Word) : Nat := bits w.toNat 9 5
def sumErr (w : Word) : Nat := bits w.toNat 24 10

/-- The summary word in force for a cover set. -/
def summary (s : State) (x : Nat) : Word := Sparse.get (fun _ => 0) s.beams.summary x

/-- Why a table is refused (R375): the RULE code, the beam and the cover set of the failure payload. -/
structure TableFault where
  rule : Nat
  beam : Nat
  cset : Nat
  deriving DecidableEq, Repr

/-- The first of rules 1, 2, 4, 5 and 6 a beam breaks (R15, R16, R157). -/
def beamFault (t : BeamTable) (b : Nat) : Option TableFault :=
  let e := entry t b
  if entSet e < 0 ∨ 32767 < entSet e then some ⟨1, b, 0⟩
  else if entY e < 0 ∨ 65535 < entY e then some ⟨2, b, 0⟩
  else if entLive e ∧ ¬ (1024 ≤ entG e ∧ entG e ≤ 4095) then some ⟨4, b, 0⟩
  else if entLive e ∧ entRank e ≠ assignedRank t b then some ⟨5, b, 0⟩
  else if entReserved e ≠ 0 then some ⟨6, b, 0⟩
  else none

/-- A cover set breaks rule 3 (R15). -/
def setFault (t : BeamTable) (x : Nat) : Option TableFault :=
  let m := members t x
  if m.length < 4 ∨ 16 < m.length then some ⟨3, m.headD 0xFFFFFFFF, x⟩ else none

/-- The first failure of a table, beam by beam and then cover set by cover set (R375). -/
def tableFault (t : BeamTable) : Option TableFault :=
  match (List.range nBeams).findSome? (beamFault t) with
  | some f => some f
  | none => (List.range nSets).findSome? (setFault t)

/-- A table is admissible and obeys R157. -/
def admissible (t : BeamTable) : Bool := (tableFault t).isNone

/-- The table with the ranks of R16 in a cover set. -/
def rerank (t : BeamTable) (x : Int) : BeamTable :=
  (members t x).foldl (fun u b => putEntry u b (withRank (entry u b) (assignedRank t b))) t

/-- Every summary word of a table (R158). -/
def allSummaries (t : BeamTable) : List (Nat × Word) :=
  (List.range nSets).foldl (fun m x => Sparse.set (fun _ => 0) m x (summaryOf t x)) []

end Sys2Proof.Machine
end

