-- ==== Sys2Proof/Machine/Mem.lean ====
section
/-!
DEFINITION. DRAM and on-die SRAM as their clients see them (R308 to R312, R319 to R323, R327 to R337): regions, address
orders, the commands an access makes, check codes, valid bits, the error log, and the results of reads and writes.
-/

namespace Sys2Proof.Machine

/-! ## Regions (Table 12-3) -/

/-- A region: base and size in MiB. -/
structure Region where
  base : Nat
  size : Nat
  deriving DecidableEq, Repr

/-- The regions of Table 12-3, in order. -/
def regions : List Region :=
  [⟨0, 256⟩, ⟨256, 8192⟩, ⟨8448, 16384⟩, ⟨24832, 2080⟩, ⟨26912, 512⟩, ⟨27424, 256⟩, ⟨27680, 1024⟩, ⟨28704, 4064⟩]

/-- A region by its row. -/
def region (n : Nat) : Region := regions.getD n ⟨0, 0⟩
/-- First byte of a region. -/
def Region.lo (r : Region) : Nat := r.base * 1048576
/-- Bytes of a region. -/
def Region.bytes (r : Region) : Nat := r.size * 1048576

/-- Rows of Table 12-3. -/
abbrev Rgn.firmware : Nat := 0
abbrev Rgn.staging : Nat := 1
abbrev Rgn.cache : Nat := 2
abbrev Rgn.band : Nat := 3
abbrev Rgn.density : Nat := 4
abbrev Rgn.absence : Nat := 5
abbrev Rgn.diag : Nat := 6
abbrev Rgn.scratch : Nat := 7

/-- The address of granule `g` of the cell cache (R120, R121). -/
def granuleAt (g : Nat) : Nat := (region Rgn.cache).lo + (67108864 + 64 * g)

/-! ## Address orders (Table 12-4) -/

/-- Where an access lands. -/
structure DramPlace where
  pcn : Nat
  bank : Nat
  row : Nat
  col : Nat
  deriving DecidableEq, Repr

/-- The place of a DRAM address under an order (R309). -/
def placeOf (order a : Nat) : DramPlace :=
  match order % 4 with
  | 0 => ⟨bits a 11 6, bits a 20 16, bits a 34 21, bits a 15 12⟩
  | 1 => ⟨bits a 11 6, bits a 34 30, bits a 29 16, bits a 15 12⟩
  | 2 => ⟨bits a 11 6, bits a 20 16 ^^^ bits a 25 21, bits a 34 21, bits a 15 12⟩
  | _ => ⟨bits a 34 29, bits a 14 10, bits a 28 15, bits a 9 6⟩

/-- The pseudo-channel of a DRAM address. -/
def pcnOf (s : State) (a : Nat) : Nat := (placeOf (fget s Reg.HBM_MAP_CFG_ORDER) a).pcn

/-- The channel that holds an address is fenced (R322). -/
def fencedAt (s : State) (a : Nat) : Bool := fbitAt s Reg.HBM_FENCE_CHANNELS (pcnOf s a / 2)

/-! ## Check codes (R327, R328) -/

/-- What a word decodes as (Table 13-1). -/
def Codes.look (c : Codes) (w : Nat) : EccResult :=
  if c.poison.contains w then .poisoned else if c.double.contains w then .uncorrectable
  else if c.single.contains w then .correctable else .clean

/-- The words that meet `p` decode as clean. -/
def Codes.cleared (p : Nat → Bool) (c : Codes) : Codes :=
  ⟨c.single.filter fun w => !p w, c.double.filter fun w => !p w, c.poison.filter fun w => !p w⟩

/-- A word decodes as given. -/
def Codes.put (w : Nat) (r : EccResult) (c : Codes) : Codes :=
  let c := c.cleared (· == w)
  match r with
  | .clean => c
  | .correctable => { c with single := w :: c.single }
  | .uncorrectable => { c with double := w :: c.double }
  | .poisoned => { c with poison := w :: c.poison }

/-- Several words decode as given. -/
def Codes.putAll (ws : List Nat) (r : EccResult) (c : Codes) : Codes := ws.foldl (fun c w => c.put w r) c

/-- The words `lo` to `hi - 1` that do not decode as clean. -/
def Codes.flawed (c : Codes) (lo hi : Nat) : List Nat :=
  (c.poison ++ c.double ++ c.single).filter fun w => decide (lo ≤ w ∧ w < hi)

/-- The word cannot be read: it is uncorrectable or poisoned (R332). -/
def Codes.bad (c : Codes) (w : Nat) : Bool := c.poison.contains w || c.double.contains w

/-- The eight words of a 64-byte unit. -/
def unitWords (u : Nat) : List Nat := (List.range 8).map (8 * u + ·)

/-! ## Valid bits (R333 to R335) -/

/-- A number lies in one of the ranges. -/
def inRanges (rs : List (Nat × Nat)) (n : Nat) : Bool := rs.any fun r => decide (r.1 ≤ n ∧ n < r.1 + r.2)

/-- A range without the numbers from `lo` to `hi - 1`. -/
def cutRange (lo hi : Nat) (r : Nat × Nat) : List (Nat × Nat) :=
  let e := r.1 + r.2
  if hi ≤ r.1 ∨ e ≤ lo then [r]
  else (if r.1 < lo then [(r.1, lo - r.1)] else []) ++ (if hi < e then [(hi, e - hi)] else [])

/-- Ranges with the numbers from `lo` to `hi - 1` added. -/
def addRange (lo hi : Nat) (rs : List (Nat × Nat)) : List (Nat × Nat) :=
  let rs := rs.flatMap (cutRange lo hi)
  if lo < hi then rs ++ [(lo, hi - lo)] else rs

/-- The valid bit of a page is clear. -/
def pageInvalid (s : State) (p : Nat) : Bool := inRanges s.ecc.invalid p

/-- Pages `lo` to `hi - 1` become valid. -/
def validatePages (lo hi : Nat) (s : State) : State :=
  { s with ecc := { s.ecc with invalid := s.ecc.invalid.flatMap (cutRange lo hi) } }

/-- Clear the valid bits of pages `lo` to `hi - 1`: they read as zeros, clean (R333, R335). -/
def invalidatePages (lo hi : Nat) (s : State) : State :=
  let s := dramClear (lo * 4096) (hi * 4096) s
  { s with ecc := { s.ecc with
      invalid := addRange lo hi s.ecc.invalid
      dram := s.ecc.dram.cleared fun w => decide (lo * 512 ≤ w ∧ w < hi * 512) } }

/-- Empty a region: the valid bits of all its pages are cleared (R335, Table 20-8 Z). -/
def emptyRegion (n : Nat) (s : State) : State :=
  invalidatePages ((region n).lo / 4096) (((region n).lo + (region n).bytes) / 4096) s

/-- The valid bit of an SRAM unit is clear. -/
def sramUnitInvalid (s : State) (u : Nat) : Bool := inRanges s.ecc.sramInvalid u

/-- SRAM banks `lo` to `hi` lose their contents: every valid bit is cleared (R335). -/
def emptyBanks (lo hi : Nat) (s : State) : State :=
  { s with ecc := { s.ecc with
      sramInvalid := addRange (lo * 32768) ((hi + 1) * 32768) s.ecc.sramInvalid
      sram := s.ecc.sram.cleared fun w => decide (lo * 262144 ≤ w ∧ w < (hi + 1) * 262144) } }

/-- All SRAM is filled with zeros, every unit valid and clean (R336). -/
def fillSram (s : State) : State := { s with ecc := { s.ecc with sramInvalid := [], sram := Codes.clean } }

/-! ## The error log (R337) -/

/-- Ports of Table 12-5. -/
abbrev Port.windowFill : Nat := 0
abbrev Port.bandWrite : Nat := 1
abbrev Port.staging : Nat := 2
abbrev Port.cellRead : Nat := 3
abbrev Port.proctor : Nat := 4
abbrev Port.scrub : Nat := 5
abbrev Port.log : Nat := 6

/-- Write one error record (R337): address, memory kind, result code, scrubber, PCN or bank, port. -/
def eccLog (dram : Bool) (addr result : Nat) (scrub : Bool) (wher port : Nat) (s : State) : State :=
  let n := fget s Reg.ECC_LOG_IDX_NEXT
  let s := fput (Reg.ECC_LOG_ADDR_LO_ADDR n) addr s
  let s := fput (Reg.ECC_LOG_ADDR_HI_ADDR n) (if dram then addr / 2 ^ 32 else 0) s
  let s := fput (Reg.ECC_LOG_INFO_DRAM n) (if dram then 1 else 0) (fput (Reg.ECC_LOG_INFO_RESULT n) result s)
  let s := fput (Reg.ECC_LOG_INFO_SCRUB n) (if scrub then 1 else 0) (fput (Reg.ECC_LOG_INFO_WHERE n) wher s)
  fput Reg.ECC_LOG_IDX_NEXT ((n + 1) % 16) (fput (Reg.ECC_LOG_INFO_PORT n) port s)

/-- One correction is counted (R329): ECC_CE_HIGH once in a second of the time counter in which they exceed PER_S. -/
def countCorrection (s : State) : State :=
  let sec := timeSec s
  let same := s.ecc.ceSecond == sec
  let n := if same then s.ecc.ceInSecond + 1 else 1
  let lim := fget s Reg.ECC_CE_WARN_PER_S
  let high := decide (lim ≠ 0 ∧ lim < n) && !(same && s.ecc.ceRaised)
  raiseIf high Ev.ECC_CE_HIGH (fcount Reg.ECC_CE_COUNT_COUNT 1
    { s with ecc := { s.ecc with ceSecond := sec, ceInSecond := n, ceRaised := (same && s.ecc.ceRaised) || high } })

/-- An uncorrectable result is counted and raised (R330). -/
def countUncorrectable (s : State) : State := raise Ev.ECC_UE (fcount Reg.ECC_UE_COUNT_COUNT 1 s)

/-! ## Commands to the stacks (R311, R312, R319 to R321, R323) -/

/-- A command is issued: its channel's retry buffer keeps the last 32 (R321). -/
def issueCmd (pc : Nat) (c : DramCmd) (s : State) : State :=
  { s with hbm := { s.hbm with retry := assocPut s.hbm.retry (pc / 2) ((c :: assocD [] s.hbm.retry (pc / 2)).take 32) } }

/-- The key of a bank's counters. -/
def bankKey (pc bank : Nat) : Nat := pc * 32 + bank

/-- The channel of a pseudo-channel replays: nothing else is issued to it (R321). -/
def pcReplays (s : State) (pc : Nat) : Bool := s.hbm.replaying.contains (pc / 2)

/-- A bank is precharged: its open row is closed. -/
def precharge (pc bank : Nat) (s : State) : State :=
  issueCmd pc (.precharge pc bank) { s with hbm := { s.hbm with openRows := s.hbm.openRows.filter (·.1 != bankKey pc bank) } }

/-- Every bank of a pseudo-channel is precharged. -/
def prechargeAll (pc : Nat) (s : State) : State :=
  issueCmd pc (.prechargeAll pc) { s with hbm := { s.hbm with openRows := s.hbm.openRows.filter fun e => e.1 / 32 != pc } }

/-- A pseudo-channel leaves power-down (R323). -/
def leavePowerDown (pc : Nat) (s : State) : State :=
  { s with hbm := { s.hbm with powerDown := s.hbm.powerDown &&& ~~~((1 : BitVec 64) <<< pc) } }

/-- The entry that a row takes: its own, an empty one, or the one with the smallest count, lowest number first (R319). -/
def takeEntry (row : Nat) (es : List RowCount) : List RowCount :=
  if es.any (·.row == row) then es.map fun e => if e.row = row then { e with count := e.count + 1 } else e
  else if es.length < 16 then es ++ [⟨es.length, row, 1⟩]
  else
    let least := es.foldl (fun m e => if e.count < m then e.count else m) ((es.map (·.count)).foldl max 0)
    match es.find? (·.count == least) with
    | some v => es.map fun e => if e.entry = v.entry then { e with row := row, count := e.count + 1 } else e
    | none => es

/-- The counter entries of a bank. -/
def rowCounts (s : State) (pc bank : Nat) : List RowCount := assocD [] s.hbm.rows (bankKey pc bank)

/-- A row of a bank is activated: the command, and the bank's counters (R319). -/
def activateRow (pc bank row : Nat) (s : State) : State :=
  let s := issueCmd pc (.activate pc bank row) s
  { s with hbm := { s.hbm with rows := assocPut s.hbm.rows (bankKey pc bank) (takeEntry row (rowCounts s pc bank)) } }

/-- HBM_RD_CFG.THRESHOLD as it acts (Table 12-8). -/
def actThreshold (s : State) : Nat := max 256 (fget s Reg.HBM_RD_CFG_THRESHOLD)

/-- The neighbours of a row, in the order they are refreshed; rows outside 0 to 16,383 are skipped (R320). -/
def neighbours (row : Nat) : List Nat :=
  ([(row : Int) - 2, row - 1, row + 1, row + 2].filter fun r => decide (0 ≤ r ∧ r ≤ 16383)).map Int.toNat

/-- The entry of a row has reached THRESHOLD (R320). -/
def rowDue (s : State) (pc bank row : Nat) : Bool :=
  (rowCounts s pc bank).any fun e => e.row == row && decide (actThreshold s ≤ e.count)

/-- The neighbours of a row are activated and precharged, one RFM follows, and the entry's count returns to 0 (R320). -/
def refreshNeighbours (pc bank row : Nat) (s : State) : State :=
  let s := precharge pc bank (leavePowerDown pc s)
  let s := (neighbours row).foldl (fun s r => precharge pc bank (activateRow pc bank r s)) s
  let zero := fun (e : RowCount) => if e.row = row then { e with count := 0 } else e
  let s := issueCmd pc (.rfm pc bank) s
  fcount Reg.HBM_RD_COUNT_COUNT 1 { s with hbm := { s.hbm with
    rows := assocPut s.hbm.rows (bankKey pc bank) ((rowCounts s pc bank).map zero) } }

/-- Neighbour refreshes of a bank, one after another, as long as one is due: those that the activates of an earlier one
bring about as well. Each takes at least 256 from the counts of the bank's 16 rows and adds at most 4. -/
def refreshDueLoop (pc bank : Nat) : Nat → State → State
  | 0, s => s
  | n + 1, s =>
    match ((rowCounts s pc bank).map (·.row)).find? (rowDue s pc bank) with
    | some row => refreshDueLoop pc bank n (refreshNeighbours pc bank row s)
    | none => s

/-- Every neighbour refresh that is due in a bank is done, before the next activate to it (R320). -/
def refreshDue (pc bank : Nat) (s : State) : State :=
  refreshDueLoop pc bank (((rowCounts s pc bank).map (·.count)).foldl (· + ·) 16) s

/-- A row is opened when it is not the bank's open row. That a row stays open until another is needed or the bank is
refreshed is a DESIGN CHOICE (log entry 130). -/
def openRow (pc bank row : Nat) (s : State) : State :=
  if s.hbm.openRows.lookup (bankKey pc bank) = some row then s
  else
    let s := refreshDue pc bank s
    let s := if (s.hbm.openRows.lookup (bankKey pc bank)).isSome then precharge pc bank s else s
    let s := activateRow pc bank row s
    { s with hbm := { s.hbm with openRows := assocPut s.hbm.openRows (bankKey pc bank) row } }

/-- One burst of a unit. -/
def burstCmd (write : Bool) (p : DramPlace) (n : Nat) : DramCmd :=
  if write then .write p.pcn p.bank p.row p.col n else .read p.pcn p.bank p.row p.col n

/-- The commands of a request for one 64-byte unit: its pseudo-channel leaves power-down, the row is opened, and the two
bursts go to it (Table 12-1, R319, R321, R323). -/
def serveUnit (write : Bool) (u : Nat) (s : State) : State :=
  let p := placeOf (fget s Reg.HBM_MAP_CFG_ORDER) (u * 64)
  let s := openRow p.pcn p.bank p.row (leavePowerDown p.pcn s)
  issueCmd p.pcn (burstCmd write p 1) (issueCmd p.pcn (burstCmd write p 0) s)

/-- A request for one 64-byte unit: it is served, or its commands wait until a replay of its channel ends (R321). -/
def accessUnit (write : Bool) (u : Nat) (s : State) : State :=
  if pcReplays s (pcnOf s (u * 64)) then { s with hbm := { s.hbm with held := s.hbm.held ++ [(write, u)] } }
  else serveUnit write u s

/-- HBM_PORT_p_TGT.NS as it acts (Table 12-8). -/
def actTarget (s : State) (p : Nat) : Nat := max 1 (fget s (Reg.HBM_PORT_TGT_NS p))

/-- The urgency of a request of age `ns` against a target (R311). -/
def urgencyOf (target ns : Nat) : Nat :=
  if target ≤ ns then 3 else if 3 * target ≤ 4 * ns then 2 else if target ≤ 2 * ns then 1 else 0

/-- `n` requests of a port are served: how many of them reach level 3 of urgency is a matter of time, and so a free value
(R311, R312; log entry 131). -/
def countUrgent (p n : Nat) (s : State) : State :=
  useFree (fcount (Reg.HBM_PORT_URG3_COUNT p) (freeNat s % (n + 1)) s)

/-! ## DRAM reads and writes by requesters (R328 to R334) -/

/-- The units an access touches. -/
def unitsOf (a n : Nat) : List Nat := (List.range ((a + n + 63) / 64 - a / 64)).map (· + a / 64)

/-- A DRAM word is decoded for a port: corrections and uncorrectable results are counted and logged, and an uncorrectable
word is written back as poisoned (R329, R330, R337). -/
def readWord (port w : Nat) (s : State) : State :=
  let pcn := pcnOf s (w * 8)
  match s.ecc.dram.look w with
  | .clean => s
  | .correctable => countCorrection (eccLog true (w * 8) 1 false pcn port s)
  | .uncorrectable =>
    let s := countUncorrectable (eccLog true (w * 8) 2 false pcn port s)
    { s with ecc := { s.ecc with dram := s.ecc.dram.put w .poisoned } }
  | .poisoned => eccLog true (w * 8) 3 false pcn port s

/-- The words of a unit that do not decode as clean, in rising order. -/
def unitFlaws (s : State) (u : Nat) : List Nat := (unitWords u).filter fun w => s.ecc.dram.look w != .clean

/-- One unit is read: nothing is asked of the stacks for an invalid page (R333), nor of a fenced channel (R322). -/
def readUnit (port u : Nat) (s : State) : State :=
  if pageInvalid s (u / 64) || fencedAt s (u * 64) then s
  else (unitFlaws s u).foldl (fun s w => readWord port w s) (accessUnit false u s)

/-- A unit's read ends in a bus error (R332, R322). -/
def unitBad (s : State) (u : Nat) : Bool :=
  !pageInvalid s (u / 64) && (fencedAt s (u * 64) || (unitWords u).any s.ecc.dram.bad)

/-- A port reads the units of a range. -/
def readUnits (port a n : Nat) (s : State) : State :=
  (unitsOf a n).foldl (fun s u => readUnit port u s) (countUrgent port (unitsOf a n).length s)

/-- A range holds a unit whose read ends in a bus error. -/
def rangeBad (s : State) (a n : Nat) : Bool := (unitsOf a n).any (unitBad s)

/-- The bytes of a unit that a zeroized memory key leaves unreadable (R462): those of valid pages. -/
def keyless (s : State) (a : Nat) : Bool := s.ecc.memKeyGone && !pageInvalid s (a / 4096)

/-- Read `n` bytes for a port: the bytes, or none on a bus error. Under a zeroized memory key what a read returns is free
(R462: "unreadable"). -/
def memRead (port a n : Nat) (s : State) : State × Option (List Byte) :=
  let bad := rangeBad s a n
  let s := readUnits port a n s
  if bad then (s, none)
  else if s.ecc.memKeyGone then
    ({ s with free := s.free + n }, some ((List.range n).map fun i =>
      if keyless s (a + i) then BitVec.ofNat 8 (Config.freeValue (s.free + i)) else dramByte s (a + i)))
  else (s, some (dramRead s a n))

/-- The kind of error injection armed for a memory: Service only, on the next write to it (Table 13-5). -/
def injectKind (s : State) (target : Nat) : EccResult :=
  if s.flow.mode = .service ∧ fget s Reg.ECC_INJECT_TARGET = target then
    match fget s Reg.ECC_INJECT_KIND with
    | 1 => .correctable
    | 2 => .uncorrectable
    | 3 => .poisoned
    | _ => .clean
  else .clean

/-- One unit of a write to bytes `a` to `a + n - 1` reaches the stacks (R331): a unit written whole has new check bits;
otherwise the unit is read first, and a bad word that the write does not cover stays poisoned. The word that an injection
strikes is a free value. -/
def writeUnit (port a n u : Nat) (s : State) : State :=
  if fencedAt s (u * 64) then s
  else
    let whole := decide (a ≤ u * 64 ∧ u * 64 + 64 ≤ a + n)
    let s := if whole then s else readUnit port u s
    let stays := fun (w : Nat) => !decide (a ≤ w * 8 ∧ w * 8 + 8 ≤ a + n) && s.ecc.dram.bad w
    let s := accessUnit true u s
    let s := { s with ecc := { s.ecc with dram := s.ecc.dram.cleared fun w => w / 8 == u && !stays w } }
    let k := injectKind s (128 + pcnOf s (u * 64))
    if k = .clean then s
    else useFree (fput Reg.ECC_INJECT_KIND 0
      { s with ecc := { s.ecc with dram := s.ecc.dram.put (8 * u + freeNat s % 8) k } })

/-- What a write of `n` bytes at `a` writes in one page: an invalid page whole, another one where the write lies
(R334). -/
def writePart (s : State) (a n p : Nat) : Nat × Nat :=
  if pageInvalid s p then (p * 4096, 4096)
  else (max a (p * 4096), min (a + n) (p * 4096 + 4096) - max a (p * 4096))

/-- The parts of a write, page by page. -/
def writeSpans (s : State) (a n : Nat) : List (Nat × Nat) :=
  (List.range ((a + n + 4095) / 4096 - a / 4096)).map fun k => writePart s a n (a / 4096 + k)

/-- The units of a write of `n` bytes at `a`: its units have new check bits, an invalid page is written whole, and becomes
valid (R334). A write of which every unit lies in a fenced channel is answered with a bus error and does nothing (R322). -/
def writeUnits (port a n : Nat) (s : State) : State :=
  if (unitsOf a n).all fun u => fencedAt s (u * 64) then s
  else
    let parts := writeSpans s a n
    let s := validatePages (a / 4096) ((a + n - 1) / 4096 + 1) (countUrgent port (unitsOf a n).length s)
    parts.foldl (fun s p => (unitsOf p.1 p.2).foldl (fun s u => writeUnit port p.1 p.2 u s) s) s

/-- Bytes of a write that lie in one unit, stored unless its channel is fenced. -/
def writeUnitBytes (a : Nat) (bs : List Byte) (u : Nat) (s : State) : State :=
  if fencedAt s (u * 64) then s
  else
    let lo := max a (u * 64)
    dramWrite lo (slice bs (lo - a) (min (a + bs.length) (u * 64 + 64) - lo)) s

/-- Write bytes (R331, R334); a fenced channel takes none of its bytes (R322). -/
def memWrite (port a : Nat) (bs : List Byte) (s : State) : State :=
  if bs.isEmpty then s
  else
    let us := unitsOf a bs.length
    let fenced := us.any fun u => fencedAt s (u * 64)
    writeUnits port a bs.length (if fenced then us.foldl (fun s u => writeUnitBytes a bs u s) s else dramWrite a bs s)

/-- The fill of R336 ends: every page holds zeros and is valid, under a new key (R340). The entries of the Absence Log
that stood in DRAM are gone; its head and tail are registers. -/
def fillDram (s : State) : State :=
  { s with dram := [], abs := { s.abs with ring := [] }
           ecc := { s.ecc with dram := Codes.clean, invalid := [], memKey := s.ecc.memKey + 1, memKeyGone := false } }

/-- A DRAM fill starts outside Boot; every page reads zero from here on (R336; log entry 24). `bist` says that a memory
BIST waits for it. -/
def startFill (bist : Bool) (s : State) : State :=
  fput Reg.ECC_STATUS_FILL_BUSY 1 (fillDram { s with hbm := { s.hbm with fill := some (bist || s.hbm.fill == some true) } })

/-! ## Reads whose place is open (log entry 22) -/

/-- Which of the units `us` a read meets: a free value for each. -/
def metUnits (s : State) (us : List Nat) : List Nat :=
  (us.zipIdx.filter fun p => Config.freeValue (s.free + p.2) % 2 == 1).map (·.1)

/-- A port reads some of the units `us`; whether that ends in a bus error. -/
def readSome (port : Nat) (us : List Nat) (s : State) : State × Bool :=
  let met := metUnits s us
  let s := { s with free := s.free + us.length }
  (met.foldl (fun s u => readUnit port u s) (countUrgent port met.length s), met.any (unitBad s))

/-! ## On-die SRAM (R156, R158, R161, R464; log entry 25) -/

/-- The word of a byte of a Window row: 4,160 words a ring row, from bank 0 on. -/
def winWord (row col : Nat) : Nat := row * 4160 + col / 8

/-- The word of a Beam Table entry: bank 92 (R464). -/
def entryWord (b : Nat) : Nat := 92 * 262144 + b

/-- The word of a cover set's summary: bank 93, above the page-valid map. -/
def sumWord (x : Nat) : Nat := 93 * 262144 + 131072 + x

/-- The first word of a place in the on-die summary of the Absence Log: bank 94, 32 bytes a place. -/
def absStoreWord (n : Nat) : Nat := 94 * 262144 + 4 * (n % 4096)

/-- The band checkpoint's place in bank 94 (R469), behind that summary. -/
def checkpointWord : Nat := 94 * 262144 + 16384

/-- An SRAM word is decoded for a client (R329, R330, R337). -/
def readSram (client w : Nat) (s : State) : State :=
  let bank := w / 262144
  let off := w % 262144 * 8
  match s.ecc.sram.look w with
  | .clean => s
  | .correctable => countCorrection (eccLog false off 1 false bank (Config.sramClient client % 16) s)
  | .uncorrectable =>
    let s := countUncorrectable (eccLog false off 2 false bank (Config.sramClient client % 16) s)
    { s with ecc := { s.ecc with sram := s.ecc.sram.put w .poisoned } }
  | .poisoned => eccLog false off 3 false bank (Config.sramClient client % 16) s

/-- The words that the read of a read-modify-write finds flawed, in the units that `n` words from `w` on cover in part,
which are the first or the last of them: an invalid unit is not read (R331, R334). -/
def sramRmw (s : State) (w n : Nat) : List Nat :=
  [w / 8, (w + n - 1) / 8].eraseDups.flatMap fun u =>
    if (w ≤ 8 * u ∧ 8 * u + 8 ≤ w + n) ∨ sramUnitInvalid s u then []
    else (unitWords u).filter fun v => s.ecc.sram.look v != .clean

/-- `n` words from `w` on are written whole: they have new check bits, and their units become valid; a unit that the write
covers in part is read first (R331, R334). The word that an injection strikes is a free value. -/
def writeSram (w n : Nat) (s : State) : State :=
  let s := (sramRmw s w n).foldl (fun s v => readSram 1 v s) s
  let s := { s with ecc := { s.ecc with
    sram := s.ecc.sram.cleared fun v => decide (w ≤ v ∧ v < w + n)
    sramInvalid := s.ecc.sramInvalid.flatMap (cutRange (w / 8) ((w + n - 1) / 8 + 1)) } }
  let target := fget s Reg.ECC_INJECT_TARGET
  let k := if w / 262144 ≤ target ∧ target ≤ (w + n - 1) / 262144 then injectKind s target else .clean
  if k = .clean then s
  else useFree (fput Reg.ECC_INJECT_KIND 0 { s with ecc := { s.ecc with sram := s.ecc.sram.put (w + freeNat s % n) k } })

end Sys2Proof.Machine
end

