-- ==== Sys2Proof/Machine/Domains.lean ====
section
/-!
DEFINITION. Power domains and votes (R464 to R467): raising, dropping, and what a dropped domain loses.
-/

namespace Sys2Proof.Machine

/-- Domains in the order of Table 20-1. -/
abbrev Dom.PROC : Nat := 2
abbrev Dom.MEM : Nat := 3
abbrev Dom.RAST : Nat := 4
abbrev Dom.GATH : Nat := 5
abbrev Dom.OUT : Nat := 6
abbrev Dom.COH : Nat := 7
abbrev Dom.ETH : Nat := 8

/-- Vote bits (R465). -/
abbrev Client.host : Nat := 0
abbrev Client.firmware : Nat := 1
abbrev Client.job : Nat := 2
abbrev Client.cohort : Nat := 3
abbrev Client.cal : Nat := 4
abbrev Client.triggers : Nat := 5
abbrev Client.diag : Nat := 6
abbrev Client.motion : Nat := 7

/-- The domain a domain depends on (Table 20-1). -/
def domainNeeds : Nat → Option Nat
  | 3 => some 2 | 4 => some 3 | 5 => some 3 | 6 => some 5 | 7 => some 2 | 8 => some 2 | _ => none

/-- The domain that holds a register block, by the block code of R367 (Table 20-1). Blocks the table does not name are
read by firmware from AON, HOST or Proctor memory (DEDUCED, log entry 7). -/
def blockDomain : Nat → Nat
  | 0x01 | 0x02 | 0x03 | 0x08 | 0x0A => 5
  | 0x04 | 0x05 | 0x06 => 4
  | 0x07 => 6
  | 0x09 | 0x0B | 0x0C => 3
  | 0x0D | 0x0E => 1
  | _ => 0

/-- The stored value of a register, which firmware holds while its domain is off (R467). -/
def storedReg (s : State) (k : Nat) : Word :=
  let d := blockDomain (k / 65536)
  if d = 0 ∨ powered s d then rget s k else assocD (regPor k) s.pwr.saved k

/-- A field of a register as stored. -/
def storedField (s : State) (f : Field) : Nat := bits (storedReg s f.reg).toNat f.hi f.lo

/-- MOT_CHOREO.MASTER, as stored (R303, R421). -/
def masterBit (s : State) : Bool := storedField s Reg.MOT_CHOREO_MASTER == 1

/-- Votes of a domain. -/
def votes (s : State) (d : Nat) : Nat := fget s (Reg.PWR_VOTE_VOTES d)

/-- The blocks whose registers a domain holds. -/
def domainBlocks (d : Nat) : List Nat := (List.range 21).filter fun b => b != 0 && d ≥ 2 && blockDomain b == d

/-- Registers that firmware holds whole, beside their RW bits: the items that Table 20-8 keeps across Rest. -/
def heldWhole (k : Nat) : Bool :=
  [Reg.GTH_PSET_SEQ, Reg.GTH_ACT_MAG_X, Reg.GTH_ACT_MAG_Y, Reg.GTH_ACT_ROT, Reg.GTH_ACT_LIMIT, Reg.GTH_ACT_SCALE,
    Reg.GTH_PSET_STATUS, Reg.BHM_SCAN_CURSOR, Reg.BHM_CAL_CURSOR, Reg.BHM_STUCK, Reg.BHM_LOC, Reg.BHM_COUNTS, Reg.OUT_STATUS,
    Reg.SKV_STATUS, Reg.SKV_STOP_SEQ_LO, Reg.SKV_STOP_SEQ_HI, Reg.SKV_STOP_STORED, Reg.SKV_STOP_CELLS, Reg.RAS_POS_BAND,
    Reg.RAS_POS_STRIPE, Reg.ABS_HEAD, Reg.ABS_TAIL, Reg.ABS_STATUS, Reg.ABS_LOST_LS, Reg.ABS_LOST_SHOT, Reg.HBM_MAP_CFG,
    Reg.HBM_FENCE, Reg.HBM_STATUS, Reg.HBM_TRAIN_STATUS, Reg.ECC_STATUS].contains k ||
  (List.range 6).any fun n => k == Reg.MOT_CH_SEQ n || k == Reg.MOT_CH_POS_L n || k == Reg.MOT_CH_POS_H n ||
    decide (Reg.MOT_CH_ACT_TARGET_LO n ≤ k ∧ k ≤ Reg.MOT_CH_ACT_TARGET_LO n + 0x24)

/-- The part of a register that firmware holds: its RW bits, the rest at POR. -/
def heldPart (k : Nat) (v : Word) : Word :=
  if heldWhole k then v else
  match regDesc k with
  | some d => (v &&& BitVec.ofNat 32 d.rw) ||| (BitVec.ofNat 32 d.por &&& ~~~(BitVec.ofNat 32 d.rw))
  | none => 0

/-- What firmware holds of a register in Rest: stage 2 saves the state of the channels too (R287, R469). -/
def heldInRest (k : Nat) (v : Word) : Word :=
  if (List.range 6).any fun n => k == Reg.MOT_CH_STATUS n then v else heldPart k v

/-- The registers of a domain return to POR; firmware keeps the values it holds for them (R467). -/
def dropRegs (d : Nat) (s : State) : State :=
  let inD := fun (e : Nat × Word) => (domainBlocks d).contains (e.1 / 65536)
  let mine := s.regs.filter inD
  { s with
    regs := s.regs.filter fun e => !inD e
    pwr := { s.pwr with saved := s.pwr.saved ++ mine.map fun e => (e.1, if s.flow.mode = .rest then heldInRest e.1 e.2 else heldPart e.1 e.2) } }

/-- A field of a register block is written where its value stands: in the value firmware holds while the domain of the
block is off (R467). -/
def fputStored (f : Field) (v : Nat) (s : State) : State :=
  let d := blockDomain (f.reg / 65536)
  if d = 0 ∨ powered s d then fput f v s
  else { s with pwr := { s.pwr with saved := s.pwr.saved.map fun e => if e.1 = f.reg then (e.1, f.put e.2 v) else e } }

/-- The registers of a domain that comes up take the values firmware holds for them (R467). -/
def restoreRegs (d : Nat) (s : State) : State :=
  let inD := fun (e : Nat × Word) => (domainBlocks d).contains (e.1 / 65536)
  let mine := s.pwr.saved.filter inD
  let s := { s with
    regs := s.regs.filter fun e => !inD e
    pwr := { s.pwr with saved := s.pwr.saved.filter fun e => !inD e } }
  mine.foldl (fun s e => rset e.1 e.2 s) s

/-- The SRAM banks that a domain holds (Table 20-1). -/
def domainBanks : Nat → List (Nat × Nat)
  | 2 => [(90, 91)] | 3 => [(93, 93)] | 4 => [(74, 89)] | 5 => [(0, 73), (92, 92), (94, 95)] | _ => []

/-- The SRAM banks of a domain lose their contents, outside Rest without exception (R335, R467). -/
def dropDomainBanks (d : Nat) (s : State) : State := (domainBanks d).foldl (fun s b => emptyBanks b.1 b.2 s) s

/-- Firmware writes its copy of a bank back where the bank has lost some of it: the Beam Table in bank 92, the summaries and
the page-valid map in bank 93 (R467, R473, Table 13-2). -/
def restoreBank (b : Nat) (s : State) : State :=
  if s.ecc.sramInvalid.any fun r => decide (r.1 < (b + 1) * 32768 ∧ b * 32768 < r.1 + r.2) then writeSram (b * 262144) 262144 s else s

/-- The cohort ports go down with their domain: outside Rest each that was up raises its event (R406). What the receiver keeps of
each position's ALIVE is lost (R408, R467), and outside Rest, whose stage 2 saves them (R469), so are the ports' counts and delays. -/
def dropPorts (s : State) : State :=
  let quiet := s.flow.mode == .rest
  let s := raiseIf (fbit s Reg.COH_STATUS_EAST_UP && !quiet) Ev.COH_EAST_DOWN s
  let s := raiseIf (fbit s Reg.COH_STATUS_WEST_UP && !quiet) Ev.COH_WEST_DOWN s
  let s := if quiet then s else rpor Reg.COH_FRAME_ERR (rpor Reg.COH_DELAY s)
  let s := { s with coh := { s.coh with
    heardEast := false, heardWest := false, peers := s.coh.peers.map fun q => { q with alive := none } } }
  fput Reg.COH_LANES_EAST 0 (fput Reg.COH_LANES_WEST 0 (fput Reg.COH_STATUS_EAST_UP 0 (fput Reg.COH_STATUS_WEST_UP 0 s)))

/-- What a domain loses beside its registers when it drops (R467; its contents in Table 20-1). Firmware's copies of the
Beam Table and of the motion positions stand in DRAM (Table 13-2), and come back when it is raised. -/
def dropContents (d : Nat) (s : State) : State :=
  match d with
  | 4 => { s with ras := Raster.empty }
  | 5 =>
    { s with
      beams := { s.beams with applyCmd := none, stalled := [], changed := [] }
      win := Window.closed, pos := Pos.por, armed := none, shots := []
      mot := { s.mot with chans := s.mot.chans.map fun c => { c with seg := none, plan := none } }
      mon := { s.mon with gpioHigh := [] } }
  | 6 => { s with out := { s.out with lanes := Out.por.lanes, strobes := 0 } }
  | 7 => dropPorts s
  | 8 =>
    let s := if s.flow.mode = .rest then s else rpor Reg.TIM_TS_DROP (rpor Reg.TIM_PTP_OFS s)
    fput Reg.TIM_TS_COUNT_ENTRIES 0 { s with tim := { s.tim with ts := [] } }
  | _ => s

/-- Domain `d` drops: its clocks stop and its contents are lost (R467). -/
def dropDomain (d : Nat) (s : State) : State :=
  if powered s d then dropDomainBanks d (dropContents d (dropRegs d (fputBit Reg.PWR_STATUS_DOMAINS d false s))) else s

/-- Begin raising a domain that is off and has not failed (R465, R467). -/
def beginRaise (d : Nat) (s : State) : State :=
  if powered s d || s.pwr.failed.getLsbD d then s
  else { s with pwr := { s.pwr with raising := s.pwr.raising ||| 1 <<< d } }

/-- Raise a domain and those it depends on (R464, R465). -/
def raiseDomain (d : Nat) (s : State) : State :=
  let s := beginRaise d s
  match domainNeeds d with
  | none => s
  | some e =>
    let s := beginRaise e s
    match domainNeeds e with
    | none => s
    | some f =>
      let s := beginRaise f s
      match domainNeeds f with
      | none => s
      | some g => beginRaise g s

/-- No powered domain, and none being raised, depends on `d`. -/
def noDependents (s : State) (d : Nat) : Bool :=
  (List.range 9).all fun e => !(domainNeeds e == some d && (powered s e || s.pwr.raising.getLsbD e))

/-- Drop a domain without votes that no other needs, and then the one it needed (R465). -/
def settleDrop : Nat → Nat → State → State
  | 0, _, s => s
  | n + 1, d, s =>
    if votes s d = 0 ∧ noDependents s d ∧ 2 ≤ d then
      let s := dropDomain d { s with pwr := { s.pwr with raising := s.pwr.raising &&& ~~~((1 : BitVec 9) <<< d) } }
      match domainNeeds d with
      | some e => settleDrop n e s
      | none => s
    else s

/-- A vote is withdrawn: for a domain that has failed this is noted (R467). -/
def noteWithdrawn (d client : Nat) (s : State) : State :=
  if s.pwr.failed.getLsbD d ∧ s.pwr.withdrawn.contains (d, client) = false then
    { s with pwr := { s.pwr with withdrawn := (d, client) :: s.pwr.withdrawn } }
  else s

/-- A vote is cast: one that was withdrawn since its domain failed lets the domain be tried again (R467). -/
def voteAnew (d client : Nat) (s : State) : State :=
  if s.pwr.withdrawn.contains (d, client) then
    { s with pwr := { s.pwr with
      failed := s.pwr.failed &&& ~~~((1 : BitVec 9) <<< d), withdrawn := s.pwr.withdrawn.filter fun e => e.1 != d } }
  else s

/-- A client casts or withdraws its vote for a domain (R465, R467). -/
def setVote (d client : Nat) (on : Bool) (s : State) : State :=
  let had := (votes s d).testBit client
  let s := fputBit (Reg.PWR_VOTE_VOTES d) client on s
  if on then raiseDomain d (if had then s else voteAnew d client s)
  else if had then settleDrop 4 d (noteWithdrawn d client s)
  else s

/-- A client casts or withdraws its votes for several domains. -/
def setVotes (ds : List Nat) (client : Nat) (on : Bool) (s : State) : State :=
  ds.foldl (fun s d => setVote d client on s) s

/-- The votes that keep the Proctor and memory up (Table 20-2). -/
def firmwareVotes (s : State) : State := setVotes [2, 3] Client.firmware true s

/-- The domain that `d` depends on, if any, is powered. -/
def needMet (s : State) (d : Nat) : Bool :=
  match domainNeeds d with
  | some e => powered s e
  | none => true

/-- POS_CFG, POS_JITTER, POS_VEL and POS_PWS_CFG take effect as stored (R210). No stripe is armed where firmware restores
them (DEDUCED, log entry 128). -/
def takePosCfg (s : State) : State :=
  { s with pos := { s.pos with
    cfg := rget s Reg.POS_CFG, jitter := rget s Reg.POS_JITTER, vel := rget s Reg.POS_VEL, pwsCfg := rget s Reg.POS_PWS_CFG } }

/-- Power-good arrives for a domain being raised whose own needs are met: it is powered, and firmware restores its
registers (R467). -/
def powerGood (d : Nat) (s : State) : State :=
  if s.pwr.raising.getLsbD d && needMet s d then
    let s := { s with pwr := { s.pwr with raising := s.pwr.raising &&& ~~~((1 : BitVec 9) <<< d) } }
    let s := restoreRegs d (fputBit Reg.PWR_STATUS_DOMAINS d true s)
    if d = Dom.GATH then restoreBank 92 (takePosCfg s) else if d = Dom.MEM then restoreBank 93 s else s
  else s

/-- Power-good does not arrive in time: the domain stays off, its votes stay, and DOMAIN_FAULT is raised (R467). -/
def powerFault (d : Nat) (s : State) : State :=
  if s.pwr.raising.getLsbD d then
    raise Ev.DOMAIN_FAULT
      { s with pwr := { s.pwr with raising := s.pwr.raising &&& ~~~((1 : BitVec 9) <<< d), failed := s.pwr.failed ||| 1 <<< d } }
  else s

/-- DOMAIN_FAULT. -/
def execDomainFault (d : Fin 9) (s : State) : Res := .next (powerFault d.val s)

/-- The transmit disable of the SFP+ module: asserted in Rest and whenever ETH is off (R517). -/
def sfpTransmitDisable (s : State) : Bool := s.flow.mode == .rest || !powered s Dom.ETH || outputsHeld s Dom.ETH

end Sys2Proof.Machine
end

