-- ==== Sys2Proof/Machine/Gate.lean ====
section
/-!
DEFINITION. The checks every mailbox command passes before its effect (R48, R49, R363, R364), as one shared operation.
-/

namespace Sys2Proof.Machine

/-- A mode transition is in progress (R49). A registered Hold that has not taken effect is none: R43 sets the point of
its transition (DEDUCED, log entry 6). -/
def transitioning (s : State) : Bool :=
  (s.flow.resume != .none) || s.flow.ending.isSome || s.flow.lastLayer.isSome || s.flow.starting.isSome ||
  s.flow.restart.isSome || s.flow.restartReq || s.flow.serviceExit.isSome || (s.pwr.rest.stage != 0) || s.pwr.rest.waking

/-- What R363 checks of one command, in its order. -/
structure Gate where
  /-- The opcode, whose high byte is the group. -/
  op : Nat
  /-- Bytes the command's row asks of LENGTH (R362). -/
  len : Nat
  /-- Every field lies in its range. -/
  inRange : Bool := true
  /-- The Service-only rule of PEEK and POKE, and the SEC_ limit of SECURED, allow it. -/
  allowed : Bool := true
  /-- It asks for a mode transition. -/
  moves : Bool := false
  /-- The mode and job state are among those the row accepts. -/
  accepted : Bool := true
  /-- The domains it needs. -/
  needs : List Nat := []
  /-- Addresses, indexes and regions lie within reach. -/
  reach : Bool := true

/-- The lifecycle limits of Table 15-1. -/
def lifecycleAllows (s : State) (op : Nat) : Bool :=
  match fget s Reg.SEC_STATUS_LIFECYCLE with
  | 0 => !(op == 0x0201 || op == 0x0202 || op == 0x0702)
  | 1 => true
  | 2 => !(op == 0x0705)
  | _ => op / 256 == 1 || op == 0x0903 || op == 0x0701

/-- Whether R48 refuses the command: a failed Boot accepts the System and Diagnostics groups only. -/
def bootRefuses (s : State) (op : Nat) : Bool :=
  (s.flow.boot == .failed) && !(op / 256 == 1 || op / 256 == 9)

/-- The first check of R363 that fails, as its status. -/
def refusal (r : Req) (g : Gate) (s : State) : Option Status :=
  if r.length ≠ g.len then some .badLength
  else if !r.reservedZero || !g.inRange then some .badParam
  else if !lifecycleAllows s g.op || !g.allowed then some .notPermitted
  else if g.moves && transitioning s then some .busy
  else if !g.accepted || bootRefuses s g.op then some .wrongMode
  else if !g.needs.all (powered s) then some .domainOff
  else if !g.reach then some .range
  else none

/-- Carry out one command: it is accepted, checked, and has its effect; a command that fails a check changes nothing
else and completes with the status of that check (R356, R363). -/
def runCommand (r : Req) (g : Gate) (eff : State → State) (s : State) : State :=
  match refusal r g (accept r.slot s) with
  | some st => complete r.slot st [] (accept r.slot s)
  | none => eff (accept r.slot s)

/-! ## Modes and job states named by the command tables -/

/-- The module is in one of these modes. -/
def modeIn (s : State) (ms : List Mode) : Bool := ms.contains s.flow.mode

/-- The module is in this mode and job state. -/
def inState (s : State) (m : Mode) (j : JobState) : Bool := s.flow.mode == m && s.flow.job == j

/-- Ready, Write, Hold or Service. -/
def rwhs (s : State) : Bool := modeIn s [.ready, .write, .hold, .service]

/-- Ready with no job, or Service. -/
def readyNoneOrService (s : State) : Bool := inState s .ready .none || s.flow.mode == .service

/-- RECESS or LAYER_OPEN. -/
def betweenStripes (s : State) : Bool := s.flow.job == .recess || s.flow.job == .layerOpen

end Sys2Proof.Machine
end

