-- ==== Sys2Proof/Machine/Flow.lean ====
section
/-!
DEFINITION. Requesting a Hold (R43, R51, R54), the HOLD ordered set (R415), and the ends of a check run (R250): what
every block may ask of the job flow.
-/

namespace Sys2Proof.Machine

/-- The synthesisers whose loss of lock keeps bit 0 in force are all in lock (Table 21-2). -/
def holdClocksLocked (s : State) : Bool :=
  fbit s Reg.CLK_STATUS_BELL && fbit s Reg.CLK_STATUS_CORE && fbit s Reg.CLK_STATUS_PROC && fbit s Reg.CLK_STATUS_DRAM

/-- Lanes of a cohort port in lock. -/
def portLanes (s : State) : Port → Nat
  | .east => fget s Reg.COH_LANES_EAST
  | .west => fget s Reg.COH_LANES_WEST

/-- What a port is given to send goes out: the COH domain is powered and a lane is in lock (R406). -/
def portSends (s : State) (p : Port) : Bool := powered s Dom.COH && !outputsHeld s Dom.COH && portLanes s p != 0

/-- A HOLD ordered set goes out on a port (R415). -/
def sendHoldOn (src id : Nat) (s : State) (p : Port) : State :=
  if portSends s p then { s with coh := { s.coh with sentHold := s.coh.sentHold ++ [(p, src, id)] } } else s

/-- The module enters Hold for a cause of its own: in COH_KEEP it sends the HOLD ordered set on both ports (R415). -/
def sendHoldSet (s : State) : State :=
  let own := fget s Reg.COH_CFG_OWN
  if (rget s Reg.COH_KEEP).getLsbD own then
    let id := (fget s Reg.COH_HOLD_ID_ID + 1) % 65536
    [Port.east, Port.west].foldl (sendHoldOn own id) (fput Reg.COH_HOLD_ID_ID id s)
  else s

/-- A cause of the module's own is in force: bits 5 and 6 stand for other modules, and send no HOLD set (R415). -/
def ownCause (s : State) : Bool := (s.flow.causes &&& ~~~((1 : Word) <<< 5 ||| (1 : Word) <<< 6)) != 0

/-- A resume that is in progress ends with HOLD_CAUSE; the module is in Hold (R54). Where a Bell has taken it to Write
already, it enters Hold again, and tells the cohort so (R415). A resume that waits for a tick is none of these (R373). -/
def cancelResume (s : State) : State :=
  match s.flow.resume with
  | .inStripe _ slot =>
    let t := fput Reg.OUT_STATUS_BLANK 1 { s with flow := { s.flow with resume := .none, mode := .hold } }
    let t := if s.flow.mode = .write then (if ownCause t then sendHoldSet (raise Ev.HOLD t) else raise Ev.HOLD t) else t
    completeOpt slot .holdCause [] t
  | _ => s

/-- A Hold cause arises that acts under R43: bit `n` is set, a resume in progress is cancelled, and in Write a Hold is
requested (R43, R54). In other modes it changes no mode. -/
def requestHold (n : Nat) (s : State) : State :=
  let s := cancelResume (setCause n s)
  match s.flow.resume with
  | .atTick _ => { s with flow := { s.flow with holdReq := true } }
  | _ => if s.flow.mode = .write then { s with flow := { s.flow with holdReq := true } } else s

/-- A Hold that host software or firmware asks for without a condition of Table 21-2: bit 0, until RESUME (R372). -/
def requestHostHold (s : State) : State := requestHold 0 { s with flow := { s.flow with hostHold := true } }

/-- Bit 0 clears, unless a synthesiser of its row in Table 21-2 is unlocked. -/
def clearHostHold (s : State) : State :=
  let s := { s with flow := { s.flow with hostHold := false } }
  if holdClocksLocked s then clearCause 0 s else s

/-- The handshakes of a job's stripes are no other job's (R422, R423). -/
def Coh.noHandshake (c : Coh) : Coh := { c with go := none, peers := c.peers.map fun q => { q with ready := none } }

/-- The number of the first check shot (R248). -/
abbrev checkShot0 : Int := 0xC0000000

/-- A check shot that a run's end leaves: lanes that have sent no frame send none. -/
def Shot.abandonCheck (sh : Shot) : Shot :=
  if sh.shot < checkShot0 then sh
  else { sh with lanes := sh.lanes.map fun ls => if ls.sent.isNone then { ls with cls := some .match } else ls }

/-- A check shot of which no lane awaits an echo: it logs nothing, and is gone. -/
def Shot.checkOver (sh : Shot) : Bool := decide (checkShot0 ≤ sh.shot) && sh.lanes.all fun ls => ls.cls.isSome

/-- A check run closes: its votes are withdrawn (Table 20-2), once the measurements it completed are applied (R250), BLANK_ALL asserts, and in Service EXPOSE_EN turns off
(R241). -/
def closeCheckRun (s : State) : State :=
  let s := { s with health := { s.health with run := none, windows := [] }, shots := (s.shots.map Shot.abandonCheck).filter fun sh => !sh.checkOver }
  let s := fput Reg.OUT_STATUS_BLANK 1 s
  let s := if s.flow.mode = .service then
      fput Reg.OUT_STATUS_SETTLED 0 (fput Reg.OUT_STATUS_EXPOSE_EN 0 { s with out := { s.out with exposeSince := none } })
    else s
  if s.beams.applyCmd.isNone && s.beams.queue.isEmpty then setVotes [Dom.GATH, Dom.OUT] Client.cal false s else s

/-- Commands that wait for a check step to begin, which is not to come, complete ABORTED: a DESIGN CHOICE (log entry 167). -/
def dropStarts (s : State) : State :=
  s.health.starts.foldl (fun s p => complete p.2 .aborted [] s)
    { s with health := { s.health with starts := [], asked := s.health.asked.filter fun c => !s.health.starts.any (·.1 == c) } }

/-- A check run ends early, and the batch in progress is discarded (R250). -/
def endCheckRun (s : State) : State := if s.health.run.isSome then closeCheckRun s else s

end Sys2Proof.Machine
end

