-- ==== Sys2Proof/Machine/Absence.lean ====
section
/-!
DEFINITION. The Absence Log (R37 to R45, R267 to R280): what becomes of each exposure of a settled shot, the entries it
forms, the ring, the lost record and reconciliation.
-/

namespace Sys2Proof.Machine

/-! ## Reasons (R39, R40) -/

/-- The reason code of Table 1-5. -/
def Reason.code : Reason → Nat
  | .lateData => 1 | .lateShot => 2 | .overspeedDrop => 3 | .poisonData => 4 | .correctionRange => 5 | .doseClip => 6
  | .supplyWarn => 7 | .echoMismatch => 8 | .renderReject => 9 | .linkLoss => 0xA | .outOfStep => 0xB
  | .strobeCut => 0xC | .hold => 0xD

/-- The place in the order of R40. -/
def Reason.order : Reason → Nat
  | .strobeCut => 0 | .supplyWarn => 1 | .linkLoss => 2 | .hold => 3 | .outOfStep => 4 | .overspeedDrop => 5
  | .lateData => 6 | .renderReject => 7 | .poisonData => 8 | .correctionRange => 9 | .lateShot => 10 | .doseClip => 11
  | .echoMismatch => 12

/-- The event of a reason (Table 1-5). -/
def Reason.event : Reason → Nat
  | .lateData => Ev.LATE_DATA | .lateShot => Ev.LATE_SHOT | .overspeedDrop => Ev.OVERSPEED_DROP
  | .poisonData => Ev.POISON_DATA | .correctionRange => Ev.CORRECTION_RANGE | .doseClip => Ev.DOSE_CLIP
  | .supplyWarn => Ev.SUPPLY_WARN | .echoMismatch => Ev.ECHO_MISMATCH | .renderReject => Ev.SOURCE_CHECK
  | .linkLoss => Ev.LINK_LOSS | .outOfStep => Ev.OUT_OF_STEP | .strobeCut => Ev.CINCH_CUT | .hold => Ev.HOLD

/-- The earlier of two reasons (R40). -/
def Reason.first (a b : Reason) : Reason := if a.order ≤ b.order then a else b

/-- The reason that comes first in the order of R40. -/
def firstReason : List Reason → Option Reason
  | [] => none
  | r :: rs => match firstReason rs with
    | none => some r
    | some q => some (r.first q)

/-! ## What becomes of an exposure (R37, R42, R227, R233) -/

/-- The lane of a beam (R155, R211). -/
def laneOf (b : Nat) : Nat := b / 4096

/-- The Stitch Group of a lane. -/
def groupOf (l : Nat) : Nat := l % 8

/-- t_a of a cut that delivered an unknown part (Table 10-1). -/
abbrev taUnknown : Nat := 0xFFFFFF

/-- A lane's part of a shot before anything has happened. -/
def LaneShot.fresh : LaneShot := ⟨false, false, none, [], none, none⟩

/-- One lane's part of a shot. -/
def Shot.lane (sh : Shot) (l : Nat) : LaneShot := sh.lanes.getD l LaneShot.fresh

/-- The reason a lane's echo class gives the exposures of a SHOT frame (R226). -/
def LaneShot.echoReasons (ls : LaneShot) : List Reason :=
  match ls.sent, ls.cls with
  | some (.shot, _, _), some c =>
    if c = .missing ∨ c = .wrongFrame ∨ c = .crcBad ∨ c = .notFired ∨ (c = .cut ∧ ls.cut.isNone) then [.echoMismatch] else []
  | _, _ => []

/-- The reason of a cut, unless the head's echo shows the frame written (R233, and its worked example). -/
def LaneShot.cutReasons (ls : LaneShot) : List Reason :=
  match ls.cut, ls.cls with
  | some (r, _), some c => if c = .match then [] else [r]
  | _, _ => []

/-- Reasons that apply to every exposure of one lane. -/
def Shot.laneReasons (sh : Shot) (l : Nat) : List Reason :=
  let ls := sh.lane l
  sh.whole ++ ls.blocked ++ (if ls.late then [.lateShot] else []) ++ ls.cutReasons ++ ls.echoReasons

/-- CUT and t_a of a lane's absent exposures: classes CUT, MISSING and WRONG_FRAME (R227, R233, Table 10-1; log entry
47). -/
def Shot.laneCut (sh : Shot) (l : Nat) : Bool × Nat :=
  let ls := sh.lane l
  match ls.cls with
  | some .cut => (true, match ls.cut with | some (_, ta) => ta | none => taUnknown)
  | some .missing | some .wrongFrame => (true, taUnknown)
  | _ => (false, 0)

/-- What became of one exposure. -/
inductive Fate where
  /-- Written, or it had nothing to lose. -/
  | written
  /-- Covered by the ROWS entry of its rows (R273). -/
  | rows
  /-- Absent: reason, CUT, t_a. -/
  | absent (r : Reason) (cut : Bool) (ta : Nat)
  deriving DecidableEq, Repr

/-- The fate of a beam's exposure, or of its stand-in (R40, R270, R273). -/
def Shot.fate (sh : Shot) (b : Nat) : Fate :=
  let l := laneOf b
  let own := (sh.absent.filter fun e => e.1 == b).map (·.2)
  let r := firstReason (sh.laneReasons l ++ own)
  let c := sh.laneCut l
  if sh.rowsBeams.contains b then
    match r with
    | some r => if r.order < Reason.renderReject.order then .absent r c.1 c.2 else .rows
    | none => .rows
  else
    match r with
    | some r => .absent r c.1 c.2
    | none => .written

/-! ## Entries (R267 to R271) -/

/-- The flags byte of an entry (Table 10-1). -/
def AbsEntry.flags (e : AbsEntry) : Nat :=
  (if e.cut then 1 else 0) + (if e.rows then 2 else 0) + (if e.reconciled then 4 else 0) + (if e.waived then 8 else 0)

/-- The 32 bytes of an entry (Table 10-1). -/
def AbsEntry.bytes (e : AbsEntry) : List Byte :=
  leBytes 2 e.layer ++ leBytes 2 e.stripe ++ leBytes 4 e.first ++ leBytes 4 e.last ++ leBytes 2 e.x0 ++ leBytes 2 e.x1 ++
  leBytes 2 e.mask ++ leBytes 1 e.reason.code ++ leBytes 1 e.flags ++ leBytes 4 e.psetSeq ++ leBytes 3 e.ta ++
  leBytes 1 e.l ++ leBytes 4 e.jobTag

/-- An entry of a shot. -/
def Shot.entryFor (sh : Shot) (x0 x1 mask l : Nat) (r : Reason) (cut : Bool) (ta : Nat) : AbsEntry :=
  { layer := sh.layer, stripe := sh.stripe, first := sh.shot.toNat, last := sh.shot.toNat, x0 := x0, x1 := x1,
    mask := mask, reason := r, cut := cut, rows := false, reconciled := false, waived := false,
    psetSeq := sh.psetSeq.toNat, ta := if cut then ta else 0, l := l, jobTag := sh.jobTag, stripeEnd := sh.lastShot }

/-- The exposures of one cover set: its live members, or, when it has none, the stand-ins of R35, in rank order. -/
def Shot.setBeams (sh : Shot) (x : Nat) : List Nat :=
  let live := liveMembers sh.table x
  if live.isEmpty then members sh.table x else live

/-- A beam's exposure counts for the log: a live beam's, and of the stand-ins those with dose to deliver (R35). Where no
dose was formed, every stand-in counts (DESIGN CHOICE, log entry 123). -/
def Shot.logs (sh : Shot) (b : Nat) : Bool :=
  entLive (entry sh.table b) || !sh.dosed || sh.absent.any fun e => e.1 == b

/-- Absent ranks of a cover set under one reason, CUT and t_a, as a mask. -/
def Shot.absentMask (sh : Shot) (x : Nat) (r : Reason) (cut : Bool) (ta : Nat) : Nat :=
  ((sh.setBeams x).zipIdx.map fun (b, k) => if sh.logs b ∧ sh.fate b = .absent r cut ta then 2 ^ k else 0).foldl (· + ·) 0

/-- What one cover set contributes to a group: absent ranks, live count, and the L an entry carries (R268, R270). -/
structure SetPart where
  mask : Nat
  live : Nat
  l : Nat
  deriving DecidableEq, Repr

/-- One cover set's part of a group. -/
def Shot.setPart (sh : Shot) (r : Reason) (cut : Bool) (ta : Nat) (x : Nat) : SetPart :=
  ⟨sh.absentMask x r cut ta, (liveMembers sh.table x).length, (sh.setBeams x).length⟩

/-- Maximal runs of consecutive cover sets whose absent ranks and live count are the same (R270): the start of the run
in progress, its part, and the next cover set. -/
def runsOf (part : Nat → SetPart) : Nat → Nat → Option (Nat × SetPart) → List (Nat × Nat × SetPart)
  | 0, x, some (a, p) => [(a, x - 1, p)]
  | 0, _, none => []
  | n + 1, x, cur =>
    let p := part x
    match cur with
    | some (a, q) =>
      if p = q then runsOf part n (x + 1) cur
      else (a, x - 1, q) :: runsOf part n (x + 1) (some (x, p))
    | none => runsOf part n (x + 1) (some (x, p))

/-- The live exposures of a shot, and the stand-ins that need dose (R35, R37, R270). -/
def Shot.exposures (sh : Shot) : List Nat :=
  (List.range nBeams).filter fun b => entLive (entry sh.table b) || (sh.absent.any fun e => e.1 == b) ||
    (!sh.dosed && (liveMembers sh.table (entSet (entry sh.table b))).isEmpty)

/-- The reason, CUT and t_a groups of a shot, in the order of R40 (R270). -/
def Shot.absentGroups (sh : Shot) : List (Reason × Bool × Nat) :=
  (sh.exposures.filterMap fun b => match sh.fate b with
    | .absent r c t => some (r, c, t)
    | _ => none).eraseDups

/-- The entries a settled shot forms (R270). -/
def Shot.entries (sh : Shot) : List AbsEntry :=
  let fates := sh.exposures.map sh.fate
  match fates with
  | [] => []
  | .absent r false ta :: _ =>
    if fates.all (· == .absent r false ta) then [sh.entryFor 0 32767 0xFFFF 0 r false 0] else groups
  | _ => groups
where
  groups : List AbsEntry :=
    sh.absentGroups.flatMap fun (r, c, ta) =>
      ((runsOf (sh.setPart r c ta) nSets 0 none).filter fun (_, _, p) => p.mask != 0).map fun (a, b, p) =>
        sh.entryFor a b p.mask p.l r c ta

/-- Two entries are equal in every field except FIRST and LAST (R271). -/
def AbsEntry.sameRun (a b : AbsEntry) : Bool := decide ({ a with first := 0, last := 0 } = { b with first := 0, last := 0 })

/-! ## Ring, lost record and waiting entries (R274 to R277) -/

/-- Slots of the ring. -/
abbrev absSlots : Nat := 8388608
/-- Entries the on-die store holds (R271). -/
abbrev absStore : Nat := 4096

/-- Entries in the ring. -/
def absUsed (s : State) : Nat := (2 ^ 32 + fget s Reg.ABS_HEAD_INDEX - fget s Reg.ABS_TAIL_INDEX) % 2 ^ 32

/-- Free slots (R274). -/
def absFree (s : State) : Nat := absSlots - absUsed s

/-- ABS_CFG.RESERVE as it acts. -/
def actReserve (s : State) : Nat := min 4194304 (fget s Reg.ABS_CFG_RESERVE)

/-- JOB_TAG of the loaded job. -/
def jobTag (s : State) : Nat := match s.job with | some j => j.jobId % 2 ^ 32 | none => 0

/-- The open layer of the loaded job. -/
def openLayer (s : State) : Option Nat :=
  match s.job with
  | some j => if s.prog.closed < j.nlayer then some s.prog.closed else none
  | none => none

/-- An entry is unreconciled (R280). -/
def AbsEntry.unrec (e : AbsEntry) : Bool := !e.reconciled && !e.waived

/-- Every entry the module holds. -/
def absAll (s : State) : List AbsEntry :=
  s.abs.ring.map (·.2) ++ s.abs.openE ++ s.abs.waiting ++ s.abs.lost.toList

/-- Unreconciled entries of a layer of the loaded job, the lost record included (R63, R280). -/
def unreconciled (s : State) (layer : Nat) : Nat :=
  ((absAll s).filter fun e => e.unrec && e.layer == layer && e.jobTag == jobTag s).length

/-- ABS_UNREC as it stands. -/
def unrecCount (s : State) : Nat :=
  match openLayer s with
  | some l => unreconciled s l
  | none => 0

/-- ABS_LOST_* and the LOST bits show the entry for lost records. -/
def absShowLost (s : State) : State :=
  match s.abs.lost with
  | some e => fput Reg.ABS_STATUS_LOST 1 (fput Reg.ABS_STATUS_LOST_REASON e.reason.code
      (fput Reg.ABS_LOST_LS_LAYER e.layer (fput Reg.ABS_LOST_LS_STRIPE e.stripe (fput Reg.ABS_LOST_SHOT_SHOT e.first s))))
  | none => fput Reg.ABS_STATUS_LOST 0 (fput Reg.ABS_STATUS_LOST_REASON 0
      (fput Reg.ABS_LOST_LS_LAYER 0 (fput Reg.ABS_LOST_LS_STRIPE 0 (fput Reg.ABS_LOST_SHOT_SHOT 0 s))))

/-- The log enters or leaves its reserve (R274). -/
def absReserve (s : State) : State :=
  if absFree s < actReserve s ∧ ¬ fbit s Reg.ABS_STATUS_RESERVE then
    raise Ev.ABS_FULL (requestHold 9 (fput Reg.ABS_STATUS_RESERVE 1 s))
  else if actReserve s < absFree s ∧ fbit s Reg.ABS_STATUS_RESERVE then
    clearCause 9 (fput Reg.ABS_STATUS_RESERVE 0 s)
  else s

/-- The ABS_ registers follow the log. -/
def absSync (s : State) : State :=
  let s := fput Reg.ABS_FREE_SLOTS (absFree s) s
  let s := fput Reg.ABS_OPEN_ENTRIES s.abs.openE.length s
  absReserve (absShowLost (fputSat Reg.ABS_UNREC_ENTRIES (unrecCount s) s))

/-- Where the DRAM holds the entry of an index (R274). -/
def absAddr (n : Nat) : Nat := (region Rgn.absence).lo + 32 * (n % 8388608)

/-- Write an entry to the ring at ABS_HEAD (R274), through the LOG port. -/
def absWrite (e : AbsEntry) (s : State) : State :=
  let n := fget s Reg.ABS_HEAD_INDEX
  let s := writeUnits Port.log (absAddr n) 32 s
  let s := { s with abs := { s.abs with ring := s.abs.ring ++ [(n, e)] } }
  fcount (Reg.ABS_ENTRIES_COUNT e.reason.code) 1 (fput Reg.ABS_HEAD_INDEX ((n + 1) % 2 ^ 32) s)

/-- The lost record covers an entry of its own stripe that begins no earlier (R277). -/
def coveredByLost (lost e : AbsEntry) : Bool :=
  !e.rows && e.layer == lost.layer && e.stripe == lost.stripe && e.jobTag == lost.jobTag && decide (lost.first ≤ e.first)

/-- The lost record covers an entry, and takes its reason where that comes first (R277). -/
def absCover (lo e : AbsEntry) (s : State) : State :=
  { s with abs := { s.abs with lost := some { lo with reason := lo.reason.first e.reason } } }

/-- A closed entry goes to the ring, or under R277 to the lost record or the waiting entries. -/
def absPlace (e : AbsEntry) (s : State) : State :=
  match s.abs.lost with
  | some lo =>
    if coveredByLost lo e then absCover lo e s
    else { s with abs := { s.abs with waiting := s.abs.waiting ++ [e] } }
  | none =>
    if 0 < absFree s then absWrite e s
    else if e.rows then { s with abs := { s.abs with waiting := s.abs.waiting ++ [e] } }
    else
      raise Ev.ABS_LOST { s with abs := { s.abs with lost := some { e with
        x0 := 0, x1 := 32767, mask := 0xFFFF, l := 0, cut := false, ta := 0, last := e.stripeEnd } } }

/-- Open entries close, the one opened earliest first, until open and waiting entries together take at most `room` places
in the store (R271, R277). -/
def absMakeRoom (room : Nat) : Nat → State → State
  | 0, s => s
  | n + 1, s =>
    if s.abs.openE.length + s.abs.waiting.length ≤ room then s
    else match s.abs.openE with
      | o :: os => absMakeRoom room n (absPlace o { s with abs := { s.abs with openE := os } })
      | [] => s

/-- Append a closed entry; one that must wait takes a place in the store. -/
def absAppend (e : AbsEntry) (s : State) : State := absMakeRoom absStore s.abs.openE.length (absPlace e s)

/-- Slots have become free: the lost record is appended first, then the waiting entries in order (R277). -/
def absFlushWaiting : Nat → State → State
  | 0, s => s
  | n + 1, s =>
    match s.abs.waiting with
    | [] => s
    | e :: es =>
      if 0 < absFree s then absFlushWaiting n (absWrite e { s with abs := { s.abs with waiting := es } }) else s

/-- The entry for lost records is written once a slot is free. -/
def absFlushLost (s : State) : State :=
  match s.abs.lost with
  | some lo => if 0 < absFree s then absWrite lo { s with abs := { s.abs with lost := none } } else s
  | none => s

/-- Entries that wait for slots are written. -/
def absFlush (s : State) : State :=
  let s := absFlushLost s
  if s.abs.lost.isSome then s else absFlushWaiting s.abs.waiting.length s

/-- Waiting entries fill the store: the Skiver holds its next commit (R277). -/
def absHolds (s : State) : Bool := decide (absStore ≤ s.abs.waiting.length)

/-- Open entries that meet `p` close, in the order in which they opened (R271). -/
def absCloseWhere (p : AbsEntry → Bool) (s : State) : State :=
  let closing := s.abs.openE.filter p
  let s := { s with abs := { s.abs with openE := s.abs.openE.filter fun e => !p e } }
  closing.foldl (fun s e => absAppend e s) s

/-- Open a new entry; when the store is full, the entry opened earliest closes (R271). -/
def absOpen (e : AbsEntry) (s : State) : State :=
  let s := absMakeRoom (absStore - 1) s.abs.openE.length s
  let s := writeSram (absStoreWord s.abs.openE.length) 4 s
  { s with abs := { s.abs with openE := s.abs.openE ++ [e] } }

/-- A newly formed entry extends an open one or opens on its own (R271). -/
def absJoin (e : AbsEntry) (s : State) : State :=
  let ext := fun (o : AbsEntry) => o.sameRun e && !o.cut && o.last + 1 == e.first
  if s.abs.openE.any ext then
    { s with abs := { s.abs with openE := s.abs.openE.map fun o => if ext o then { o with last := e.last } else o } }
  else absOpen e s

/-- An entry forms: one of the lost record's stripe that forms while the record is open is covered by it (R277). -/
def absForm (e : AbsEntry) (s : State) : State :=
  match s.abs.lost with
  | some lo => if coveredByLost lo e then absCover lo e s else absJoin e s
  | none => absJoin e s

/-- GTH_CLIP counts the exposures of a shot that are logged DOSE_CLIP (Table 6-6). -/
def countClips (sh : Shot) (s : State) : State :=
  fcount Reg.GTH_CLIP_COUNT ((sh.absent.map (·.1)).eraseDups.countP fun b => match sh.fate b with
    | .absent .doseClip _ _ => true
    | _ => false) s

/-- The entry for the shots of a closed stripe from this one on, none of which fires (R55). -/
def Shot.restEntry (sh : Shot) : AbsEntry := { sh.entryFor 0 32767 0xFFFF 0 .hold false 0 with last := sh.lastShot }

/-- Open entries of a shot's stripe. -/
def Shot.ofStripe (sh : Shot) (o : AbsEntry) : Bool := o.layer == sh.layer && o.stripe == sh.stripe

/-- The entries that a numbered shot forms (R270), or the rest of its closed stripe (R55). -/
def absFormShot (sh : Shot) (s : State) : State :=
  if sh.rest then absCloseWhere sh.ofStripe (absForm sh.restEntry s)
  else if 0 ≤ sh.shot ∧ sh.shot ≤ sh.lastShot then
    absCloseWhere (fun o => o.last != sh.shot.toNat || !sh.ofStripe o)
      (sh.entries.foldl (fun s e => absForm e s) (countClips sh s))
  else s

/-- A shot settles (R269 to R271). -/
def absSettle (sh : Shot) (s : State) : State :=
  absSync (absFormShot sh (absCloseWhere (fun o => sh.btSets.any fun x => decide (o.x0 ≤ x ∧ x ≤ o.x1)) s))

/-- Rows `a` to `b` of a stripe are logged RENDER_REJECT at once (R273). -/
def absLogRows (layer stripe lastShot tag : Nat) (psetSeq : Word) (a b : Nat) (s : State) : State :=
  if b < a then s
  else absSync (absAppend
    { layer := layer, stripe := stripe, first := a, last := b, x0 := 0, x1 := 32767, mask := 0xFFFF,
      reason := .renderReject, cut := false, rows := true, reconciled := false, waived := false,
      psetSeq := psetSeq.toNat, ta := 0, l := 0, jobTag := tag, stripeEnd := lastShot } s)

/-- The last shot of a stripe that has ended or been closed has settled: the stripe's open entries close (R55, R271). -/
def absLastShot (sh : Shot) (s : State) : State :=
  if sh.stripeIdx < s.prog.cur ∧ !s.shots.any (·.stripeIdx == sh.stripeIdx) then absSync (absCloseWhere sh.ofStripe s) else s

/-- The stripe in force ends or is closed: its open entries close, once no shot of it has still to settle (R271). -/
def absLeave (s : State) : State :=
  if s.shots.any (·.stripeIdx == s.prog.cur) then s else absSync (absCloseWhere (fun _ => true) s)

/-- Every open entry closes (R271). -/
def absStripeEnd (s : State) : State := absSync (absCloseWhere (fun _ => true) s)

/-- The entries a Make-up record names are marked reconciled; a record that matches none is counted (R278). -/
def absReconcile (m : Makeup) (s : State) : State :=
  let hit := fun (p : Nat × AbsEntry) => p.1 == m.entry && p.2.layer == m.srcLayer && p.2.stripe == m.srcStripe
  if s.abs.ring.any hit then
    { s with abs := { s.abs with ring := s.abs.ring.map fun p => if hit p then (p.1, { p.2 with reconciled := true }) else p } }
  else raise Ev.ABS_STALE (fcount Reg.ABS_STALE_COUNT 1 s)

/-- Every unreconciled entry of a layer is waived (R63, R280). -/
def absWaive (layer : Nat) (s : State) : State :=
  let w := fun (e : AbsEntry) => if e.unrec && e.layer == layer && e.jobTag == jobTag s then { e with waived := true } else e
  { s with abs := { ring := s.abs.ring.map fun p => (p.1, w p.2), openE := s.abs.openE.map w,
                    lost := s.abs.lost.map w, waiting := s.abs.waiting.map w } }

/-- ABS_ACK stops at this entry: neither reconciled nor waived, and of an open layer of the loaded job (R275). -/
def ackStops (s : State) (e : AbsEntry) : Bool :=
  match s.job with
  | some j => e.unrec && e.jobTag == jobTag s && decide (s.prog.closed ≤ e.layer ∧ e.layer < j.nlayer)
  | none => false

/-- Advance ABS_TAIL over `n` entries at most (R275). A slot whose memory reads zero holds no entry of a loaded job. -/
def ackWalk : Nat → State → State
  | 0, s => s
  | n + 1, s =>
    let i := fget s Reg.ABS_TAIL_INDEX
    match s.abs.ring.lookup i with
    | some e =>
      if ackStops s e then s
      else ackWalk n (fput Reg.ABS_TAIL_INDEX ((i + 1) % 2 ^ 32) { s with abs := { s.abs with ring := s.abs.ring.filter fun p => p.1 != i } })
    | none => ackWalk n (fput Reg.ABS_TAIL_INDEX ((i + 1) % 2 ^ 32) s)

end Sys2Proof.Machine
end

