-- ==== Sys2Proof/Machine/BeamApply.lean ====
section
/-!
DEFINITION. The Beam Table hand-over (R159, R160, R255, R376): staging, APPLY, and the apply at a Bell or tick.
-/

namespace Sys2Proof.Machine

/-- The staging registers of R159. -/
def isStaging (k : Nat) : Bool :=
  k == Reg.GTH_BT_SUM || k == Reg.GTH_BT_CMD ||
  (List.range 16).any fun n => k == Reg.GTH_BT_STAGE_IDX n || k == Reg.GTH_BT_STAGE_LO n || k == Reg.GTH_BT_STAGE_HI n

/-- An apply is pending. -/
def applyPending (s : State) : Bool := fbit s Reg.GTH_BT_STATUS_PENDING

/-- APPLY is seen: the staged values are taken at the next Bell or tick (R159). -/
def applyCommand (w : Word) (slot : Option (Fin 16)) (s : State) : State :=
  if w.getLsbD 0 then fput Reg.GTH_BT_STATUS_PENDING 1 { s with beams := { s.beams with applyCmd := some (w, slot) } } else s

/-- A write to a staging register stalls while an apply is pending (R160). -/
def stagingWrite (k : Nat) (v : Word) (s : State) : State :=
  if applyPending s then { s with beams := { s.beams with stalled := s.beams.stalled ++ [(k, v)] } }
  else if k = Reg.GTH_BT_CMD then applyCommand v none s
  else rset k v s

/-- Stalled writes take effect in order, up to one that makes an apply pending again. -/
def drainStalled : Nat → State → State
  | 0, s => s
  | n + 1, s =>
    match s.beams.stalled with
    | [] => s
    | (k, v) :: rest =>
      if applyPending s then s
      else drainStalled n (stagingWrite k v { s with beams := { s.beams with stalled := rest } })

/-- FIRST_SHOT of a change applied now: three shots after the Bell's, or none (R376). -/
def firstShotOf (bell : Option Int) : Nat :=
  match bell with
  | some n => unsigned 32 (n + 3)
  | none => 0xFFFFFFFF

/-- Layer and stripe in force, 0 when none. -/
def stripeInForce (s : State) : Nat × Nat :=
  match s.job with
  | some j => match j.stripes[s.prog.cur]? with
    | some e => (e.layer, e.stripe)
    | none => (0, 0)
  | none => (0, 0)

/-- One beam's entry is written: its word has new check bits, and when it changes, the history record of R377 and its
last status change follow. -/
def changeEntry (first : Nat) (b : Nat) (e : DWord) (s : State) : State :=
  let s := writeSram (entryWord b) 1 s
  let old := entry s.beams.table b
  if old = e then s
  else
    let (l, st) := stripeInForce s
    let table := putEntry s.beams.table b e
    let h : History := ⟨l, st, first, b, entStatus old, entStatus e, 0, entG e⟩
    { s with beams := { s.beams with
        table := table, history := (h :: s.beams.history).take 65536, nextHist := s.beams.nextHist + 1
        lastChange := if entStatus old = entStatus e then s.beams.lastChange else assocPut s.beams.lastChange b (l, st, first) } }

/-- L of the records written since `n` is that of their cover sets after the change (R377). -/
def closeHistory (n : Nat) (s : State) : State :=
  let fresh := s.beams.nextHist - n
  { s with beams := { s.beams with history := s.beams.history.mapIdx fun i h =>
      if i < fresh then { h with live := (liveMembers s.beams.table (entSet (entry s.beams.table h.beam))).length } else h } }

/-- Count retired and weak beams into BHM_COUNTS (Table 9-5). -/
def beamCounts (s : State) : State :=
  let n := fun (st : Nat) => ((List.range nBeams).filter fun b => entStatus (entry s.beams.table b) == st).length
  fputSat Reg.BHM_COUNTS_RETIRED (n 2) (fputSat Reg.BHM_COUNTS_WEAK (n 1) s)

/-- The summary word of a cover set is written, with the 64-bit word that it has to itself (log entry 25). -/
def writeSummary (x : Nat) (w : Word) (s : State) : State :=
  writeSram (sumWord x) 1 { s with beams := { s.beams with summary := Sparse.set (fun _ => 0) s.beams.summary x w } }

/-- The STUCK_OPEN Hold cause clears once no entry has status 0b11 and a DARK step has passed (R259). -/
def stuckRelease (s : State) : State :=
  if hasCause s 1 && s.health.darkPassed && !s.beams.table.any fun p => entStatus p.2 == 3 then clearCause 1 s else s

/-- Entries, and the summary word of a cover set, take effect together (R17, R159). -/
def applyEntries (bell : Option Int) (cset : Nat) (sum : Word) (es : List (Nat × DWord)) (s : State) : State :=
  let n := s.beams.nextHist
  let real := es.filter fun p => entry s.beams.table p.1 != p.2
  let old := real.map fun p => (entSet (entry s.beams.table p.1)).toNat
  let s := es.foldl (fun s p => changeEntry (firstShotOf bell) p.1 p.2 s) s
  let new := real.map fun p => (entSet p.2).toNat
  let s := { s with beams := { s.beams with changed := s.beams.changed ++ (old ++ new).eraseDups } }
  stuckRelease (beamCounts (closeHistory n (writeSummary cset sum s)))

/-- The staged entries of an APPLY word. -/
def stagedEntries (s : State) (w : Word) : List (Nat × DWord) :=
  (List.range (min 16 (bits w.toNat 5 1))).map fun n =>
    (fget s (Reg.GTH_BT_STAGE_IDX_BEAM n), BitVec.ofNat 64 (rget64 s (Reg.GTH_BT_STAGE_LO n) (Reg.GTH_BT_STAGE_HI n)))

/-- Liroth firmware stages its next change: the cover set's entries with the ranks of R16 and its summary word with ERR
(R159, R255, R376). -/
def stageNext (s : State) : State :=
  match s.beams.queue with
  | [] => s
  | (cset, es, slot) :: rest =>
    if applyPending s then s
    else
      let t := rerank (es.foldl (fun t p => putEntry t p.1 p.2) s.beams.table) cset
      let mem := members t cset
      let changed := mem.filter fun b => entry t b != entry s.beams.table b || es.any fun p => p.1 == b
      let s := { s with beams := { s.beams with queue := rest } }
      let s := (changed.take 16).zipIdx.foldl (fun s (b, n) =>
        rset64 (Reg.GTH_BT_STAGE_LO n) (Reg.GTH_BT_STAGE_HI n) (entry t b).toNat (fput (Reg.GTH_BT_STAGE_IDX_BEAM n) b s)) s
      let s := rset Reg.GTH_BT_SUM (summaryOf t cset) s
      applyCommand (BitVec.ofNat 32 (1 + 2 * (changed.take 16).length + 65536 * cset)) slot s

/-- The completion of BEAM_SET: L, ERR and FIRST_SHOT (Table 15-4). -/
def beamSetBytes (s : State) (cset first : Nat) : List Byte :=
  let w := summary s cset
  leBytes 1 (sumLive w) ++ leBytes 1 0 ++ leBytes 2 (sumErr w) ++ leBytes 4 first

/-- The apply of R159, at Bell `bell` or at a tick: then stalled writes land (R160) and firmware stages its next change. -/
def beamApply (bell : Option Int) (s : State) : State :=
  match s.beams.applyCmd with
  | none => s
  | some (w, slot) =>
    let cset := bits w.toNat 30 16
    let s := applyEntries bell cset (rget s Reg.GTH_BT_SUM) (stagedEntries s w) s
    let s := fput Reg.GTH_BT_STATUS_PENDING 0 { s with beams := { s.beams with applyCmd := none } }
    let s := completeOpt slot .ok (beamSetBytes s cset (firstShotOf bell)) s
    stageNext (drainStalled s.beams.stalled.length s)

/-- Queue a change firmware makes, and stage it when nothing is pending. -/
def queueApply (cset : Nat) (es : List (Nat × DWord)) (slot : Option (Fin 16)) (s : State) : State :=
  stageNext { s with beams := { s.beams with queue := s.beams.queue ++ [(cset, es, slot)] } }

/-- Every apply that waits lands, one after another, as at a tick (R376). -/
def applyWaiting : Nat → State → State
  | 0, s => s
  | n + 1, s => if s.beams.applyCmd.isSome then applyWaiting n (beamApply none s) else s

/-- Every apply that waits, and every one that those make room for. -/
def applyAll (s : State) : State := applyWaiting (s.beams.queue.length + s.beams.stalled.length + 1) s

/-- A rewrite of a cover set is under way already. -/
def rewriteAsked (s : State) (x : Nat) : Bool :=
  s.beams.queue.any (·.1 == x) || s.beams.applyCmd.any fun p => bits p.1.toNat 30 16 == x

/-- Firmware rewrites a cover set's unreadable entries, or with none of them an entry and the summary word, from its DRAM
copy (R332, R159). -/
def rewriteSet (x : Nat) (bs : List Nat) (s : State) : State :=
  if rewriteAsked s x || !proctorRuns s then s
  else queueApply x ((bs.take 16).map fun b => (b, entry s.beams.table b)) none s

/-- APPLY: a write of GTH_BT_CMD. -/
def execApply (word : Word) (s : State) : Res := .next (stagingWrite Reg.GTH_BT_CMD word s)

end Sys2Proof.Machine
end

