-- ==== Sys2Proof/Machine/Crc.lean ====
section
/-!
DEFINITION. The cyclic redundancy codes the manual uses: CRC-32C (R215), CRC-64/XZ (R83, R469), CRC-16/CCITT-FALSE
(Table 16-5) and CRC-8 of the Position Word Stream (R189).
-/

namespace Sys2Proof.Machine

/-- A CRC: width, polynomial, initial value, reflection and final exclusive-or. -/
structure CrcAlg where
  width : Nat
  poly : Nat
  init : Nat
  reflected : Bool
  xorOut : Nat
  deriving DecidableEq, Repr

/-- The low `n` bits of a number in reverse order. -/
def reverseBits : Nat → Nat → Nat
  | 0, _ => 0
  | n + 1, v => (v % 2) * 2 ^ n + reverseBits n (v / 2)

/-- One bit of an unreflected CRC register. -/
def crcShift (a : CrcAlg) (r : Nat) : Nat :=
  let x := r * 2 % 2 ^ a.width
  if r / 2 ^ (a.width - 1) % 2 = 1 then x ^^^ a.poly else x

/-- Feed one byte: a reflected CRC takes its bits least significant first. -/
def crcByte (a : CrcAlg) (r : Nat) (b : Byte) : Nat :=
  let v := if a.reflected then reverseBits 8 b.toNat else b.toNat
  (List.range 8).foldl (fun r _ => crcShift a r) (r ^^^ (v * 2 ^ (a.width - 8)))

/-- Feed bytes to a running register. -/
def crcFeed (a : CrcAlg) (r : Nat) (bs : List Byte) : Nat := bs.foldl (crcByte a) r

/-- The result a running register shows. -/
def crcResult (a : CrcAlg) (r : Nat) : Nat :=
  (if a.reflected then reverseBits a.width r else r) ^^^ a.xorOut

/-- The check value of a byte string. -/
def crcOf (a : CrcAlg) (bs : List Byte) : Nat := crcResult a (crcFeed a a.init bs)

/-- CRC-32C (R215). -/
def crc32c : CrcAlg := ⟨32, 0x1EDC6F41, 0xFFFFFFFF, true, 0xFFFFFFFF⟩
/-- CRC-64/XZ (Table 16-5). -/
def crc64 : CrcAlg := ⟨64, 0x42F0E1EBA9EA3693, 0xFFFFFFFFFFFFFFFF, true, 0xFFFFFFFFFFFFFFFF⟩
/-- CRC-16/CCITT-FALSE (Table 16-5). -/
def crc16 : CrcAlg := ⟨16, 0x1021, 0xFFFF, false, 0⟩
/-- CRC-8 of R189. -/
def crc8 : CrcAlg := ⟨8, 0x2F, 0xFF, false, 0xFF⟩

end Sys2Proof.Machine
end

