-- ==== Sys2Proof/Machine/Digest.lean ====
section
/-!
DEFINITION. The Config Digest (R412 to R414) and what a digest that differs does.
-/

namespace Sys2Proof.Machine

/-- The registers of the image, in order (Table 17-3). -/
def digestRegs : List Nat :=
  [Reg.BELL_PMIN, Reg.POS_TRACK, Reg.GTH_WIN_CFG, Reg.SKV_GUARD, Reg.OUT_SLICE, Reg.OUT_CINCH, Reg.OUT_ECHO_CFG]

/-- The image that runs. -/
def runningImage (s : State) : Image := if s.sec.runningB then s.sec.slotB else s.sec.slotA

/-- One register record of the image. -/
def digestRecord (s : State) (k : Nat) : List Byte :=
  leBytes 1 (k / 65536) ++ [0] ++ leBytes 2 (k % 65536) ++ leBytes 4 (storedReg s k).toNat

/-- The 64-byte canonical image (Table 17-3). -/
def digestImage (s : State) : List Byte :=
  [0x44, 0x4D, 0x43, 0x49] ++ leBytes 2 (runningImage s).ifLevel ++ leBytes 2 ((runningImage s).release / 65536) ++
  digestRegs.flatMap (digestRecord s)

/-- The module's own Config Digest (R412). -/
def ownDigest (s : State) : Nat := crcOf crc64 (digestImage s)

/-- The digest is recomputed (R413); with a job loaded, one that differs is OUT_OF_STEP until it is equal again (R414). -/
def recomputeDigest (s : State) : State :=
  let d := ownDigest s
  let s := rset64 Reg.COH_DIGEST_LO Reg.COH_DIGEST_HI d s
  match s.job with
  | none => { s with out := { s.out with outOfStep := false } }
  | some j =>
    let bad := d != j.digest
    raiseIf (bad && !s.out.outOfStep) Ev.OUT_OF_STEP { s with out := { s.out with outOfStep := bad } }

end Sys2Proof.Machine
end

