-- ==== Sys2Proof/Machine/Records.lean ====
section
/-!
DEFINITION. The records of decompressed content (R86 to R99, R101, R103): reading them, the first malformed one, and
what the density and prologue records say. Causes of one record are looked for in the order type, length, placement,
reserved field, range, and then the record's own rule (log entry 21).
-/

namespace Sys2Proof.Machine

/-! ## Reject causes (Table 3-10) -/

abbrev Cause.envelope : Nat := 0x01
abbrev Cause.transport : Nat := 0x02
abbrev Cause.authentication : Nat := 0x03
abbrev Cause.contentCheck : Nat := 0x04
abbrev Cause.expansion : Nat := 0x05
abbrev Cause.recordType : Nat := 0x06
abbrev Cause.recordLength : Nat := 0x07
abbrev Cause.reservedField : Nat := 0x08
abbrev Cause.fieldRange : Nat := 0x09
abbrev Cause.geometry : Nat := 0x0A
abbrev Cause.cellReference : Nat := 0x0B
abbrev Cause.cellRedefined : Nat := 0x0C
abbrev Cause.placement : Nat := 0x0D
abbrev Cause.bandRange : Nat := 0x0E
abbrev Cause.stripeMismatch : Nat := 0x0F
abbrev Cause.makeupRule : Nat := 0x10
/-- The offset of a cause that lies in no single record (R103). -/
abbrev noOffset : Nat := 0xFFFFFFFF

/-! ## Fields -/

/-- Record types (Table 3-6). -/
abbrev Rec.rect : Nat := 0x01
abbrev Rec.trap : Nat := 0x02
abbrev Rec.poly : Nat := 0x03
abbrev Rec.curv : Nat := 0x04
abbrev Rec.defineCell : Nat := 0x10
abbrev Rec.inst : Nat := 0x11
abbrev Rec.array : Nat := 0x12
abbrev Rec.doseClass : Nat := 0x13
abbrev Rec.margin : Nat := 0x14
abbrev Rec.makeup : Nat := 0x15
abbrev Rec.dmap : Nat := 0x16
abbrev Rec.pad : Nat := 0x1E
abbrev Rec.endCell : Nat := 0x1F

/-- An unsigned field of a record's body. -/
def Record.u (r : Record) (off n : Nat) : Nat := leAt r.body off n

/-- A signed 32-bit field of a record's body. -/
def Record.i (r : Record) (off : Nat) : Int := signed 32 (leAt r.body off 4)

/-- A geometry record (R88). -/
def Record.isGeom (r : Record) : Bool := decide (1 ≤ r.typ ∧ r.typ ≤ 4)

/-- An INSTANCE or ARRAY record. -/
def Record.isPlace (r : Record) : Bool := r.typ == Rec.inst || r.typ == Rec.array

/-- Words of a record, header included. -/
def Record.words (r : Record) : Nat := r.body.length / 4 + 1

/-- Dose class and CONT of a geometry record (R88). -/
def Record.cls (r : Record) : Nat := r.attr % 64
def Record.cont (r : Record) : Bool := r.attr.testBit 6

/-- The words Table 3-6 asks of a record; none for a reserved type. -/
def Record.asked (r : Record) : Option Nat :=
  match r.typ with
  | 0x01 => some 5 | 0x02 => some 7
  | 0x03 => some (2 + 2 * r.u 0 2)
  | 0x04 => some (2 + (r.u 0 2 + 31) / 32 + 2 * r.u 0 2)
  | 0x10 => some 6 | 0x11 => some 4 | 0x12 => some 10 | 0x13 => some 2
  | 0x14 => some (3 + r.u 4 2)
  | 0x15 => some 8
  | 0x16 => some (3 + (10 * r.u 4 4 + 3) / 4)
  | 0x1E => some r.words
  | 0x1F => some 1
  | _ => none

/-- Tag words of a CURV record. -/
def Record.tagWords (r : Record) : Nat := if r.typ = Rec.curv then (r.u 0 2 + 31) / 32 else 0

/-- Point `p` of a CURV record is a control point (R89). -/
def Record.tag (r : Record) (p : Nat) : Bool :=
  r.typ == Rec.curv && (r.u (4 + 4 * (p / 32)) 4).testBit (p % 32)

/-- The points of a POLY or CURV record, with their tags (R89). -/
def Record.points (r : Record) : List (Int × Int × Bool) :=
  (List.range (r.u 0 2)).map fun p =>
    let o := 4 + 4 * r.tagWords + 8 * p
    (r.i o, r.i (o + 4), r.tag p)

/-- The vertices of a geometry record's contour, control points marked (R89). -/
def Record.contour (r : Record) : List (Int × Int × Bool) :=
  match r.typ with
  | 0x01 => [(r.i 0, r.i 4, false), (r.i 8, r.i 4, false), (r.i 8, r.i 12, false), (r.i 0, r.i 12, false)]
  | 0x02 => [(r.i 8, r.i 0, false), (r.i 12, r.i 0, false), (r.i 20, r.i 4, false), (r.i 16, r.i 4, false)]
  | _ => r.points

/-- A coordinate lies in the range of R86. -/
def coordOk (v : Int) : Bool := decide (-(2 ^ 30) ≤ v ∧ v ≤ 2 ^ 30 - 1)

/-! ## One record -/

/-- What checking a record needs of its block (R94, R95, R98). -/
structure ParseCtx where
  kind : Nat
  /-- The first STRIPE_GEOMETRY block of its stripe, which opens with the prologue. -/
  first : Bool
  /-- Its stripe has MAKEUP set. -/
  makeup : Bool
  /-- The header carries PEC_KERNEL and PEC_FACTOR_TABLE. -/
  pecOk : Bool
  h : Nat
  additive : Bool
  layer : Nat
  deriving DecidableEq, Repr

/-- Where a parse stands: in the prologue, in which definition, after a POLY or CURV of which class. -/
structure ParsePos where
  prologue : Bool
  cell : Option Nat
  shape : Option Nat
  makeups : List Makeup
  deriving DecidableEq, Repr

/-- The record stands where Table 3-7 permits it. -/
def placeOk (c : ParseCtx) (p : ParsePos) (r : Record) : Bool :=
  if r.typ = Rec.pad then true
  else if r.typ = Rec.doseClass ∨ r.typ = Rec.margin then p.prologue
  else if r.typ = Rec.makeup then p.prologue && c.makeup
  else if r.typ = Rec.dmap then c.kind == 2
  else if r.typ = Rec.defineCell then c.kind == 1 && p.cell.isNone
  else if r.typ = Rec.endCell then c.kind == 1 && p.cell.isSome
  else c.kind == 3 || (c.kind == 1 && p.cell.isSome)

/-- Every reserved field of the record is zero (R101). -/
def reservedOk (r : Record) : Bool :=
  match r.typ with
  | 0x01 | 0x02 => !r.attr.testBit 7
  | 0x03 => !r.attr.testBit 7 && r.u 2 2 == 0
  | 0x04 => !r.attr.testBit 7 && r.u 2 2 == 0 &&
      (r.u 0 2 % 32 == 0 || r.u (4 * r.tagWords) 4 / 2 ^ (r.u 0 2 % 32) == 0)
  | 0x11 => r.attr / 8 == 0
  | 0x12 => r.attr / 8 == 0 && r.u 32 4 == 0
  | 0x13 => r.u 1 1 / 2 == 0 && r.u 2 2 == 0
  | 0x14 => r.u 6 2 == 0
  | 0x15 => r.attr == 0 && r.u 26 2 == 0
  | 0x16 => r.attr == 0 && (r.body.drop (8 + 10 * r.u 4 4)).all (· == 0)
  | _ => r.attr == 0

/-- Counts, coordinates, classes, doses and rows lie in their ranges (R86 to R97). That a DMAP row beyond the stripe's last
cell row is "density-map coverage outside its range" (Table 3-10) is DEDUCED (log entry 137), and so is that the steps of an ARRAY
keep the range of coordinates (log entry 156). -/
def rangeOk (c : ParseCtx) (r : Record) : Bool :=
  match r.typ with
  | 0x01 => [0, 4, 8, 12].all fun o => coordOk (r.i o)
  | 0x02 => [0, 4, 8, 12, 16, 20].all fun o => coordOk (r.i o)
  | 0x03 | 0x04 => decide (3 ≤ r.u 0 2 ∧ r.u 0 2 ≤ 4096) && r.points.all fun p => coordOk p.1 && coordOk p.2.1
  | 0x10 => decide (1 ≤ r.u 0 4 ∧ r.u 0 4 ≤ 16777215) && [4, 8, 12, 16].all fun o => coordOk (r.i o)
  | 0x11 => coordOk (r.i 4) && coordOk (r.i 8)
  | 0x12 => ([4, 8, 12, 16, 20, 24].all fun o => coordOk (r.i o)) && r.u 28 2 != 0 && r.u 30 2 != 0
  | 0x13 => decide (r.attr ≤ 63 ∧ r.u 0 1 ≤ 248) && (c.pecOk || !(r.u 1 1).testBit 0)
  | 0x14 => decide (r.attr ≤ 1 ∧ 1 ≤ r.u 4 2 ∧ r.u 4 2 ≤ 4096 ∧ r.u 0 4 + r.u 4 2 ≤ c.h / 64)
  | 0x16 => decide (1 ≤ r.u 4 4 ∧ r.u 4 4 ≤ 26212 ∧ r.u 0 4 + r.u 4 4 ≤ (c.h + 4095) / 4096)
  | _ => true

/-- The MAKEUP record of Table 3-8. -/
def Record.toMakeup (r : Record) : Makeup :=
  ⟨r.u 0 2, r.u 2 2, r.u 4 4, r.u 8 4, r.u 12 4, r.u 16 4, r.u 20 4, r.u 24 1, r.u 25 1⟩

/-- Two rectangles overlap (R99). -/
def Makeup.meets (a b : Makeup) : Bool := decide (a.x0 ≤ b.x1 ∧ b.x0 ≤ a.x1 ∧ a.v0 ≤ b.v1 ∧ b.v0 ≤ a.v1)

/-- R98 and R99 hold of a MAKEUP record, after those before it in the stripe. -/
def makeupOk (c : ParseCtx) (before : List Makeup) (m : Makeup) : Bool :=
  decide (m.x0 ≤ m.x1 ∧ m.x1 ≤ 32767 ∧ m.v0 ≤ m.v1 ∧ m.v1 < c.h ∧ 1 ≤ m.lsrc ∧ m.lsrc ≤ 16 ∧ 1 ≤ m.miss ∧ m.miss ≤ m.lsrc) &&
  (!c.additive || m.srcLayer == c.layer) && before.all fun b => !b.meets m

/-- The tags keep R89: point 0 on the curve, no two cyclically adjacent control points. -/
def tagsOk (ts : List Bool) : Bool :=
  match ts with
  | [] => true
  | t :: _ => !t && (ts.zip (ts.drop 1 ++ [t])).all fun p => !(p.1 && p.2)

/-- The ordering, tag and CONT rules of a record (R89 to R91). -/
def shapeOk (p : ParsePos) (r : Record) : Bool :=
  match r.typ with
  | 0x01 => !r.cont && decide (r.i 0 ≤ r.i 8 ∧ r.i 4 ≤ r.i 12)
  | 0x02 => !r.cont && decide (r.i 0 ≤ r.i 4 ∧ r.i 8 ≤ r.i 12 ∧ r.i 16 ≤ r.i 20)
  | 0x03 | 0x04 => tagsOk (r.points.map fun q => q.2.2) && (!r.cont || p.shape == some r.cls)
  | 0x10 => decide (r.i 4 ≤ r.i 12 ∧ r.i 8 ≤ r.i 16)
  | _ => true

/-- The cause that makes a record malformed, if any (R101, Table 3-10). -/
def recordCause (c : ParseCtx) (p : ParsePos) (r : Record) : Option Nat :=
  if r.asked = none then some Cause.recordType
  else if r.asked ≠ some r.words then some Cause.recordLength
  else if !placeOk c p r then some Cause.placement
  else if !reservedOk r then some Cause.reservedField
  else if !rangeOk c r then some Cause.fieldRange
  else if !shapeOk p r then some Cause.geometry
  else if r.typ = Rec.makeup ∧ !makeupOk c p.makeups r.toMakeup then some Cause.makeupRule
  else none

/-- Where the parse stands after a record. PAD records neither end nor break a shape (R90). -/
def ParsePos.after (p : ParsePos) (r : Record) : ParsePos :=
  if r.typ = Rec.pad then p
  else if r.typ = Rec.poly ∨ r.typ = Rec.curv then { p with prologue := false, shape := some r.cls }
  else if r.typ = Rec.doseClass ∨ r.typ = Rec.margin then { p with shape := none }
  else if r.typ = Rec.makeup then { p with shape := none, makeups := r.toMakeup :: p.makeups }
  else if r.typ = Rec.defineCell then { p with prologue := false, shape := none, cell := some r.off }
  else if r.typ = Rec.endCell then { p with prologue := false, shape := none, cell := none }
  else { p with prologue := false, shape := none }

/-! ## The content -/

/-- Content as parsed: the records before the first malformed one, its cause and offset, and the CELL_IDs that DEFINE
records named up to and including it (Table 3-9). -/
structure Parsed where
  records : List Record
  bad : Option (Nat × Nat)
  defined : List Nat
  /-- The prologue has been parsed: the whole content, or a record that ends the run of prologue records (R94, R97). -/
  opened : Bool
  deriving DecidableEq, Repr

/-- The CELL_ID a DEFINE record names. One of a wrong length, or with an id out of range, names none (DESIGN CHOICE, log
entry 136). -/
def Record.definedId (r : Record) : List Nat :=
  if r.typ = Rec.defineCell ∧ r.words = 6 ∧ 1 ≤ r.u 0 4 ∧ r.u 0 4 ≤ 16777215 then [r.u 0 4] else []

/-- A record of the prologue's run (R94). -/
def Record.inPrologue (r : Record) : Bool := [Rec.doseClass, Rec.margin, Rec.makeup, Rec.pad].contains r.typ

/-- Parse from offset `off` on; the records so far stand newest first. -/
def parseLoop (c : ParseCtx) : Nat → Nat → List Byte → ParsePos → List Record → Parsed
  | 0, off, _, p, acc => ⟨acc.reverse, some (Cause.recordLength, off), acc.reverse.flatMap Record.definedId, !p.prologue⟩
  | fuel + 1, off, bs, p, acc =>
    match bs with
    | [] =>
      ⟨acc.reverse, p.cell.map fun o => (Cause.placement, o), acc.reverse.flatMap Record.definedId, true⟩
    | ty :: at' :: l0 :: l1 :: rest =>
      let len := leNat [l0, l1]
      let r : Record := ⟨ty.toNat, at'.toNat, off, rest.take (4 * (len - 1))⟩
      let stop := fun (cause : Nat) =>
        (⟨acc.reverse, some (cause, off), (r :: acc).reverse.flatMap Record.definedId, !p.prologue || !r.inPrologue⟩ : Parsed)
      if r.asked = none then stop Cause.recordType
      else if len = 0 ∨ rest.length < 4 * (len - 1) then stop Cause.recordLength
      else
        match recordCause c p r with
        | some cause => stop cause
        | none => parseLoop c fuel (off + 4 * len) (rest.drop (4 * (len - 1))) (p.after r) (r :: acc)
    | _ => ⟨acc.reverse, some (Cause.recordLength, off), acc.reverse.flatMap Record.definedId, !p.prologue⟩

/-- Parse the content of a block. -/
def parseContent (c : ParseCtx) (content : List Byte) : Parsed :=
  parseLoop c (content.length + 1) 0 content ⟨c.kind == 3 && c.first, none, none, []⟩ []

/-! ## Prologue and density records -/

/-- The class table of a stripe: the header's, with its DOSE_CLASS records applied (R95). -/
def classesWith (base : List DoseClass) (rs : List Record) : List DoseClass :=
  rs.foldl (fun t r => if r.typ = Rec.doseClass then t.set r.attr ⟨r.u 0 1, (r.u 1 1).testBit 0⟩ else t) base

/-- Margin densities of the MARGIN_STRIP records (R96): key tile row × 520 + tile column, the later value standing. -/
def marginsOf (rs : List Record) : List (Nat × Nat) :=
  rs.foldl (fun m r =>
    if r.typ = Rec.margin then
      (List.range (4 * r.u 4 2)).foldl (fun m k =>
        assocPut m ((r.u 0 4 + k / 4) * 520 + (if r.attr = 0 then k % 4 else 516 + k % 4)) (r.u (8 + k) 1)) m
    else m) []
where
  /-- Put a value at a key. -/
  assocPut (m : List (Nat × Nat)) (k v : Nat) : List (Nat × Nat) := (k, v) :: m.filter fun e => e.1 != k

/-- Density cells of the DMAP records, newest first: key q × 10 + (p + 1) (R97). -/
def dmapOf (rs : List Record) : List (Nat × Nat) :=
  rs.foldl (fun m r =>
    if r.typ = Rec.dmap then
      (List.range (10 * r.u 4 4)).foldl (fun m k => ((r.u 0 4 + k / 10) * 10 + k % 10, r.u (8 + k) 1) :: m) m
    else m) []

/-- The MAKEUP records, in order. -/
def makeupsOf (rs : List Record) : List Makeup := (rs.filter fun r => r.typ == Rec.makeup).map Record.toMakeup

end Sys2Proof.Machine
end

