-- ==== Sys2Proof/Machine/Geometry.lean ====
section
/-!
DEFINITION. Exact plane geometry for the rasterizer (R86, R87, R90, R91, R130 to R132, R150): rational numbers, chords,
placed shapes, the area of a class region in a pixel, and the segments that meet a tile.
-/

namespace Sys2Proof.Machine

/-! ## Rational numbers -/

/-- A rational number: a numerator over a positive denominator, in lowest terms. -/
structure Q where
  num : Int
  den : Nat
  deriving DecidableEq, Repr

/-- The rational n / d in lowest terms; 0 when d is 0. -/
def Q.make (n d : Int) : Q :=
  let g := Nat.gcd n.natAbs d.natAbs
  if d = 0 then ⟨0, 1⟩
  else if 0 < d then ⟨n / g, (d / g).toNat⟩
  else ⟨(-n) / g, ((-d) / g).toNat⟩

def Q.ofInt (n : Int) : Q := ⟨n, 1⟩
def Q.add (a b : Q) : Q := Q.make (a.num * b.den + b.num * a.den) (a.den * b.den)
def Q.sub (a b : Q) : Q := Q.make (a.num * b.den - b.num * a.den) (a.den * b.den)
def Q.mul (a b : Q) : Q := Q.make (a.num * b.num) (a.den * b.den)
def Q.quot (a b : Q) : Q := Q.make (a.num * b.den) (a.den * b.num)
def Q.lt (a b : Q) : Bool := decide (a.num * b.den < b.num * a.den)
def Q.le (a b : Q) : Bool := decide (a.num * b.den ≤ b.num * a.den)
def Q.isZero (a : Q) : Bool := a.num == 0
def Q.mid (a b : Q) : Q := (a.add b).quot (Q.ofInt 2)
def Q.max (a b : Q) : Q := if a.lt b then b else a
def Q.min (a b : Q) : Q := if a.lt b then a else b

/-- Put a number in its place in a rising list without repeats. -/
def Q.insert (x : Q) : List Q → List Q
  | [] => [x]
  | y :: ys => if x.lt y then x :: y :: ys else if x = y then y :: ys else y :: Q.insert x ys

/-- A rising list without repeats of the numbers of a list. -/
def Q.sort (l : List Q) : List Q := l.foldr Q.insert []

/-! ## Contours and chords (R89, R131) -/

/-- A point, or a control point when the flag is set. -/
abbrev Pt : Type := Int × Int × Bool

/-- A straight segment. -/
structure Seg where
  ax : Q
  ay : Q
  bx : Q
  py : Q
  deriving DecidableEq, Repr

/-- The smallest d with e ≤ 4^d (R131). -/
def chordDepth (e : Nat) : Nat := ((List.range 18).find? fun d => decide (e ≤ 4 ^ d)).getD 17

/-- B(i/n) of a quadratic in one coordinate. -/
def bezier (p0 p1 p2 : Int) (n i : Nat) : Q :=
  Q.make (((n - i : Nat) : Int) ^ 2 * p0 + 2 * (i : Int) * ((n - i : Nat) : Int) * p1 + (i : Int) ^ 2 * p2) ((n : Int) ^ 2)

/-- The chords of a quadratic segment (R131). -/
def chords (p c q : Pt) : List Seg :=
  let e := (p.1 - 2 * c.1 + q.1).natAbs + (p.2.1 - 2 * c.2.1 + q.2.1).natAbs
  let n := 2 ^ chordDepth e
  (List.range n).map fun i =>
    ⟨bezier p.1 c.1 q.1 n i, bezier p.2.1 c.2.1 q.2.1 n i, bezier p.1 c.1 q.1 n (i + 1), bezier p.2.1 c.2.1 q.2.1 n (i + 1)⟩

/-- The straight segment between two points. -/
def straight (p q : Pt) : Seg := ⟨Q.ofInt p.1, Q.ofInt p.2.1, Q.ofInt q.1, Q.ofInt q.2.1⟩

/-- The segments of a contour from here to its end, closed to the point `first`. -/
def segsFrom (first : Pt) : List Pt → List Seg
  | [] => []
  | [p] => [straight p first]
  | p :: c :: rest =>
    if c.2.2 then
      match rest with
      | [] => chords p c first
      | q :: more => chords p c q ++ segsFrom first (q :: more)
    else straight p c :: segsFrom first (c :: rest)

/-- The segments of a closed contour. -/
def contourSegs (pts : List Pt) : List Seg :=
  match pts with
  | [] => []
  | p :: _ => segsFrom p pts

/-! ## Placement (R87, R91, R93) -/

/-- An axis-aligned box x0 ≤ x < x1, y0 ≤ y < y1. -/
structure Box where
  x0 : Int
  y0 : Int
  x1 : Int
  y1 : Int
  deriving DecidableEq, Repr

/-- The part of two boxes that both hold. -/
def Box.meet (a b : Box) : Box := ⟨max a.x0 b.x0, max a.y0 b.y0, min a.x1 b.x1, min a.y1 b.y1⟩

/-- A quarter turn counter-clockwise. -/
def quarter (p : Int × Int) : Int × Int := (-p.2, p.1)

/-- The transform code: mirror first, then the quarter turns (R87). -/
def turn (t : Nat) (p : Int × Int) : Int × Int :=
  let p := if t.testBit 2 then (-p.1, p.2) else p
  match t % 4 with
  | 0 => p | 1 => quarter p | 2 => quarter (quarter p) | _ => quarter (quarter (quarter p))

/-- A placement: transform code, then offset. -/
structure Place where
  t : Nat
  x : Int
  y : Int
  deriving DecidableEq, Repr

/-- The image of a point under a placement. -/
def Place.at (pl : Place) (p : Int × Int) : Int × Int := ((turn pl.t p).1 + pl.x, (turn pl.t p).2 + pl.y)

/-- The image under each placement in turn, innermost first. -/
def placeAll (pls : List Place) (p : Int × Int) : Int × Int := pls.foldl (fun p pl => pl.at p) p

/-- The image of a box. -/
def placeBox (pls : List Place) (b : Int × Int × Int × Int) : Box :=
  let p := placeAll pls (b.1, b.2.1)
  let q := placeAll pls (b.2.2.1, b.2.2.2)
  ⟨min p.1 q.1, min p.2 q.2, max p.1 q.1, max p.2 q.2⟩

/-- The placements of an INSTANCE or ARRAY record (R93). -/
def Record.placements (r : Record) : List Place :=
  if r.typ = Rec.inst then [⟨r.attr % 8, r.i 4, r.i 8⟩]
  else
    (List.range (r.u 28 2)).flatMap fun (i : Nat) => (List.range (r.u 30 2)).map fun (j : Nat) =>
      ⟨r.attr % 8, r.i 4 + (i : Int) * r.i 12 + (j : Int) * r.i 20, r.i 8 + (i : Int) * r.i 16 + (j : Int) * r.i 24⟩

/-- A shape as drawn: its class, its contours in stripe coordinates, and the box it is clipped to. -/
structure Drawn where
  cls : Nat
  contours : List (List Pt)
  clip : Box
  deriving DecidableEq, Repr

/-- The shapes of a record list (R90): class and contours. -/
def shapesOf (rs : List Record) : List (Nat × List (List Pt)) :=
  rs.foldr (fun r acc =>
    if !r.isGeom then acc
    else if r.cont then
      -- folded from the end: a continuation waits for the shape it belongs to
      (64 + r.cls, [r.contour]) :: acc
    else
      let conts := acc.takeWhile fun a => decide (64 ≤ a.1)
      (r.cls, r.contour :: conts.flatMap (·.2)) :: acc.dropWhile fun a => decide (64 ≤ a.1)) []

/-- A cell by its storage. -/
def cellOf (cells : List Cell) (uid : Nat) : Option Cell := cells.find? (·.uid == uid)

/-- Every shape that a record list draws under placements `pls` (innermost first) within `clip`; `places` gives the
storage each CELL_ID resolved to. -/
def drawAll (cells : List Cell) : Nat → List Place → Box → List Record → List (Nat × Nat) → List Drawn
  | 0, _, _, _, _ => []
  | fuel + 1, pls, clip, rs, places =>
    ((shapesOf rs).map fun sh =>
      ⟨sh.1, sh.2.map fun c => c.map fun p => ((placeAll pls (p.1, p.2.1)).1, (placeAll pls (p.1, p.2.1)).2, p.2.2), clip⟩) ++
    (rs.filter Record.isPlace).flatMap fun r =>
      match (places.lookup (r.u 0 4)).bind (cellOf cells) with
      | none => []
      | some c => r.placements.flatMap fun pl =>
          drawAll cells fuel (pl :: pls) (clip.meet (placeBox (pl :: pls) c.bbox)) c.records c.places

/-- Columns of a stripe as stored, in layout units: 33,280 columns from column −256 (R144). -/
abbrev stripeX0 : Int := -4104
abbrev stripeX1 : Int := 528376

/-- What a geometry block draws in the rows of band `j`, in stripe coordinates (R84, R86). -/
def Geom.drawn (cells : List Cell) (g : Geom) (j : Nat) : List Drawn :=
  if g.firstBand ≤ j ∧ j ≤ g.lastBand then
    drawAll cells 17 [⟨0, 0, 4096 * g.firstBand⟩] ⟨stripeX0, 4096 * j - 8, stripeX1, 4096 * (j + 1) - 8⟩ g.records g.places
  else []

/-! ## Area (R130, R132) -/

/-- The segments of a drawn shape. -/
def Drawn.segs (d : Drawn) : List Seg := d.contours.flatMap contourSegs

/-- The x of a segment at height y. -/
def Seg.xAt (g : Seg) (y : Q) : Q :=
  g.ax.add (((g.bx.sub g.ax).mul (y.sub g.ay)).quot (g.py.sub g.ay))

/-- The y of a segment's line at abscissa x; none when it is vertical. -/
def Seg.yAt (g : Seg) (x : Q) : Option Q :=
  if g.ax = g.bx then none else some (g.ay.add (((g.py.sub g.ay).mul (x.sub g.ax)).quot (g.bx.sub g.ax)))

/-- The height at which the lines of two segments cross; none when they are parallel. -/
def Seg.crossY (g h : Seg) : Option Q :=
  let dx := g.bx.sub g.ax
  let dy := g.py.sub g.ay
  let ex := h.bx.sub h.ax
  let ey := h.py.sub h.ay
  let d := (dx.mul ey).sub (dy.mul ex)
  if d.isZero then none
  else
    let t := ((ex.mul (g.ay.sub h.ay)).sub (ey.mul (g.ax.sub h.ax))).quot d
    some (g.ay.add (dy.mul t))

/-- A segment spans the height y. -/
def Seg.spans (g : Seg) (y : Q) : Bool := (g.ay.lt y && y.lt g.py) || (g.py.lt y && y.lt g.ay)

/-- The winding number of segments at a point whose height is that of no vertex. -/
def winding (segs : List Seg) (x y : Q) : Int :=
  (segs.map fun g => if g.spans y && (g.xAt y).lt x then (if g.ay.lt g.py then 1 else -1) else 0).foldl (· + ·) 0

/-- A drawn shape, ready for tests: its segments and its clip box. -/
structure Shape where
  segs : List Seg
  clip : Box
  deriving DecidableEq, Repr

/-- A point lies in the interior of a shape's clip box and has a nonzero winding number. -/
def Shape.holds (sh : Shape) (x y : Q) : Bool :=
  (Q.ofInt sh.clip.x0).lt x && x.lt (Q.ofInt sh.clip.x1) && (Q.ofInt sh.clip.y0).lt y && y.lt (Q.ofInt sh.clip.y1) &&
  winding sh.segs x y != 0

/-- Consecutive pairs of a list. -/
def pairs {β : Type} (l : List β) : List (β × β) := l.zip (l.drop 1)

/-- Numbers between two bounds, both bounds included. -/
def Q.within (lo hi : Q) (l : List Q) : List Q := Q.sort (lo :: hi :: l.filter fun x => lo.lt x && x.lt hi)

/-- The area of a union of shapes in a box: slabs between the heights at which any two edges, an edge and a side, or a
vertex meet; in each slab the edges keep their order, so the widths at its middle give its area exactly. -/
def unionArea (shapes : List Shape) (b : Box) : Q :=
  let segs := shapes.flatMap (·.segs)
  let sides := Q.ofInt b.x0 :: Q.ofInt b.x1 :: shapes.flatMap fun sh => [Q.ofInt sh.clip.x0, Q.ofInt sh.clip.x1]
  let ys := (segs.flatMap fun g => [g.ay, g.py]) ++ (shapes.flatMap fun sh => [Q.ofInt sh.clip.y0, Q.ofInt sh.clip.y1]) ++
    (segs.flatMap fun g => segs.filterMap g.crossY) ++ segs.flatMap fun g => sides.filterMap g.yAt
  ((pairs (Q.within (Q.ofInt b.y0) (Q.ofInt b.y1) ys)).map fun (lo, hi) =>
    let y := Q.mid lo hi
    let xs := Q.within (Q.ofInt b.x0) (Q.ofInt b.x1) (sides ++ (segs.filter (·.spans y)).map fun g => g.xAt y)
    let width := ((pairs xs).filter fun (l, r) => shapes.any fun sh => sh.holds (Q.mid l r) y).foldl
      (fun (w : Q) (lr : Q × Q) => w.add (lr.2.sub lr.1)) (Q.ofInt 0)
    width.mul (hi.sub lo)).foldl Q.add (Q.ofInt 0)

/-- The coverage byte of an area inside a pixel (R132): floor(255·A + 1/2), A the area divided by 256. -/
def coverageByte (area : Q) : Nat := (Int.fdiv (2 * 255 * area.num + 256 * area.den) (2 * 256 * area.den)).toNat

/-- The box of pixel (x, v) of a stripe (R86). -/
def pixelBox (x v : Int) : Box := ⟨16 * x - 8, 16 * v - 8, 16 * x + 8, 16 * v + 8⟩

/-- A shape may touch a box: its clip box does, and not all its vertices lie on one side of the box. -/
def Shape.near (b : Box) (sh : Shape) : Bool :=
  decide (sh.clip.x0 < b.x1 ∧ b.x0 < sh.clip.x1 ∧ sh.clip.y0 < b.y1 ∧ b.y0 < sh.clip.y1) &&
  !(sh.segs.all fun g => g.ax.le (Q.ofInt b.x0) && g.bx.le (Q.ofInt b.x0)) &&
  !(sh.segs.all fun g => (Q.ofInt b.x1).le g.ax && (Q.ofInt b.x1).le g.bx) &&
  !(sh.segs.all fun g => g.ay.le (Q.ofInt b.y0) && g.py.le (Q.ofInt b.y0)) &&
  !(sh.segs.all fun g => (Q.ofInt b.y1).le g.ay && (Q.ofInt b.y1).le g.py)

/-- Coverage a_c of a class at a pixel (R132). -/
def coverage (shapes : List Shape) (x v : Int) : Nat :=
  let b := pixelBox x v
  match shapes.filter (Shape.near b) with
  | [] => 0
  | near => coverageByte (unionArea near b)

/-! ## Segments in a tile (R150) -/

/-- The stretch of a segment's parameter, from 0 to 1, that meets a condition: bounds, and whether each belongs to it. -/
structure Stretch where
  lo : Q
  loIn : Bool
  hi : Q
  hiIn : Bool
  empty : Bool
  deriving DecidableEq, Repr

/-- Keep the part of a stretch where a + t·d ≥ c. -/
def Stretch.atLeast (s : Stretch) (a d c : Q) : Stretch :=
  if d.isZero then (if a.lt c then { s with empty := true } else s)
  else
    let t := (c.sub a).quot d
    if (Q.ofInt 0).lt d then (if s.lo.lt t then { s with lo := t, loIn := true } else s)
    else (if t.lt s.hi then { s with hi := t, hiIn := true } else s)

/-- Keep the part of a stretch where a + t·d < c. -/
def Stretch.below (s : Stretch) (a d c : Q) : Stretch :=
  if d.isZero then (if a.lt c then s else { s with empty := true })
  else
    let t := (c.sub a).quot d
    if (Q.ofInt 0).lt d then (if t.le s.hi then { s with hi := t, hiIn := false } else s)
    else (if s.lo.le t then { s with lo := t, loIn := false } else s)

/-- A segment of nonzero length meets a half-open box. -/
def Seg.meets (g : Seg) (b : Box) : Bool :=
  let dx := g.bx.sub g.ax
  let dy := g.py.sub g.ay
  let s : Stretch := ⟨Q.ofInt 0, true, Q.ofInt 1, true, false⟩
  let s := (s.atLeast g.ax dx (Q.ofInt b.x0)).below g.ax dx (Q.ofInt b.x1)
  let s := (s.atLeast g.ay dy (Q.ofInt b.y0)).below g.ay dy (Q.ofInt b.y1)
  !(dx.isZero && dy.isZero) && !s.empty && (s.lo.lt s.hi || (s.lo == s.hi && s.loIn && s.hiIn))

/-- The square of tile (i, m) of band j, in layout units (R150). -/
def tileBox (j m i : Nat) : Box :=
  let x : Int := 16 * (64 * i - 256) - 8
  let y : Int := 16 * (256 * j + 64 * m) - 8
  ⟨x, y, x + 1024, y + 1024⟩

/-- The bound of R150 for a tile that meets `n` segments. -/
def tileBound (n : Nat) : Nat := 2048 + 16 * n

/-- Σ of R151 for band `j` with these shapes drawn. -/
def bandBound (segs : List Seg) (j : Nat) : Nat :=
  ((List.range 2080).map fun k => tileBound (segs.countP fun g => g.meets (tileBox j (k / 520) (k % 520)))).foldl (· + ·) 0

end Sys2Proof.Machine
end

