-- ==== Sys2Proof/Machine/Monitor.lean ====
section
/-!
DEFINITION. The sixteen probes (R498 to R502) and their commands.
-/

namespace Sys2Proof.Machine

/-- Sources of Table 22-1. -/
abbrev Src.shotMargin : Nat := 0x0001
abbrev Src.bandLead : Nat := 0x0002
abbrev Src.windowFill : Nat := 0x0003
abbrev Src.tileCycles : Nat := 0x0004
abbrev Src.errX : Nat := 0x0005
abbrev Src.errY : Nat := 0x0006
abbrev Src.dieTemp (n : Nat) : Nat := 0x0010 + n
abbrev Src.dramTemp (n : Nat) : Nat := 0x0020 + n
abbrev Src.rail (n : Nat) : Nat := 0x0030 + n
abbrev Src.cohEast : Nat := 0x0040
abbrev Src.cohWest : Nat := 0x0041
abbrev Src.echo : Nat := 0x0050
abbrev Src.debt : Nat := 0x0060

/-! ## What the monitors measure, with the coefficients of ANALOG_CAL (R265) -/

/-- A reading of temperature sensor `i`, die sensors 0 to 11 and then the DRAM sensors of Table 22-1, in units of `unit`
m°C, less the sensor's offset (R265; log entry 147). -/
def sensorReading (s : State) (i : Nat) (unit v : Int) : Int :=
  match s.health.sensorCal[i]? with
  | some off => rndDiv (v * unit - off) unit
  | none => v

/-- A reading of a rail divider in mV, in the row order of Table 20-9, times its gain in ppm (R265; log entry 147). -/
def railReading (s : State) (i mv : Nat) : Nat :=
  match s.health.railCal[i]? with
  | some gain => (rndDiv ((mv * gain : Nat) : Int) 1000000).toNat
  | none => mv

/-- The SOURCE values of Table 22-1. -/
def sourceKnown (n : Nat) : Bool :=
  decide (n ≤ 6 ∨ (0x10 ≤ n ∧ n ≤ 0x1B) ∨ (0x20 ≤ n ∧ n ≤ 0x23) ∨ (0x30 ≤ n ∧ n ≤ 0x38) ∨ n = 0x40 ∨ n = 0x41 ∨ n = 0x50 ∨ n = 0x60)

/-- The domain of a source (R498): the one that holds what it measures (Table 20-1). -/
def sourceDomain (n : Nat) : Nat :=
  if n = 1 ∨ n = 5 ∨ n = 6 then 5 else if n = 2 ∨ n = 4 then 4 else if n = 3 ∨ (0x20 ≤ n ∧ n ≤ 0x23) ∨ n = 0x60 then 3
  else if n = 0x40 ∨ n = 0x41 then 7 else if n = 0x50 then 6 else 0

/-- The capture of a probe. -/
def captureOf (s : State) (p : Nat) : Capture := s.mon.caps.getD p Capture.fresh

/-- The samples of one core cycle, none of them first: MIN and MAX take each, LAST, SAMPLES and the bins the largest
(R499, R500). -/
def Capture.take (lo : Int) (w : Nat) (vals : List Int) (c : Capture) : Capture :=
  match vals with
  | [] => c
  | v :: vs =>
    let big := vs.foldl (fun a b => if a < b then b else a) v
    let bin := (Max.max (0 : Int) (Min.min 31 (Int.fdiv (big - lo) (Max.max 1 w)))).toNat
    { min := vals.foldl (fun a b => if b < a then b else a) c.min
      max := vals.foldl (fun a b => if a < b then b else a) c.max
      last := big
      samples := satAdd 0xFFFFFFFF c.samples 1
      bins := assocPut c.bins bin (satAdd 0xFFFFFFFF (assocD 0 c.bins bin) 1) }

/-- One probe meets the samples of a source; a sample beyond a limit raises MON_LIMIT (R502). -/
def probeSample (src : Nat) (vals : List Int) (s : State) (p : Nat) : State :=
  if fget s (Reg.MON_PROBE_SRC_SOURCE p) ≠ src then s
  else
    let lo := fint s (Reg.MON_PROBE_LO_LIMIT_LO p)
    let hi := fint s (Reg.MON_PROBE_HI_LIMIT_HI p)
    let w := fget s (Reg.MON_PROBE_WIDTH_BIN_WIDTH p)
    let s := { s with mon := { s.mon with caps := updAt Capture.fresh s.mon.caps p (Capture.take lo w vals) } }
    raiseIf (decide (lo ≠ hi) && vals.any fun v => decide (v < lo ∨ hi < v)) Ev.MON_LIMIT s

/-- The samples a source gives in one core cycle reach every probe that names it (R498); none while its domain is off,
and none in Rest. -/
def sample (src : Nat) (vals : List Int) (s : State) : State :=
  if src = 0 ∨ s.flow.mode = .rest ∨ ¬ powered s (sourceDomain src) then s
  else (List.range 16).foldl (probeSample src vals) s

/-- Samples whose values the manual leaves open, one at each of `n` completions (R498). -/
def sampleEach (src : Nat) : Nat → State → State
  | 0, s => s
  | n + 1, s => sampleEach src n (useFree (sample src [(freeNat s % 2 ^ 31 : Nat)] s))

/-- Such samples, where a probe has the source selected. -/
def sampleFree (src n : Nat) (s : State) : State :=
  if (List.range 16).any fun p => fget s (Reg.MON_PROBE_SRC_SOURCE p) == src then sampleEach src n s
  else { s with free := s.free + n }

/-- Restart a probe's capture (R501). -/
def restartCapture (p : Nat) (s : State) : State :=
  { s with mon := { s.mon with caps := updAt Capture.fresh s.mon.caps p fun _ => Capture.fresh } }

/-- A capture as MON_READ returns it. -/
def captureBytes (c : Capture) : List Byte :=
  leBytes 4 (unsigned 32 c.min) ++ leBytes 4 (unsigned 32 c.max) ++ leBytes 4 (unsigned 32 c.last) ++ leBytes 4 c.samples ++
  (List.range 32).flatMap fun i => leBytes 4 (assocD 0 c.bins i)

/-- MON_CONFIG (R498, R501). -/
def monConfigCommand (r : Req) (probe source : Nat) (width lo hi : Word) (s : State) : State :=
  runCommand r { op := 0x0906, len := 16, inRange := decide (probe < 16) && sourceKnown source } (fun s =>
    let s := fput (Reg.MON_PROBE_SRC_SOURCE probe) source s
    let s := rset (Reg.MON_PROBE_WIDTH probe) width s
    let s := rset (Reg.MON_PROBE_LO probe) lo s
    let s := rset (Reg.MON_PROBE_HI probe) hi s
    complete r.slot .ok [] (restartCapture probe s)) s

/-- MON_CONFIG. -/
def execMonConfig (r : Req) (probe source : Nat) (width lo hi : Word) (s : State) : Res :=
  .next (monConfigCommand r probe source width lo hi s)

/-- MON_READ (R501). -/
def monReadCommand (r : Req) (probe flags : Nat) (s : State) : State :=
  runCommand r { op := 0x0907, len := 4, inRange := decide (probe < 16 ∧ flags ≤ 1) } (fun s =>
    let bytes := captureBytes (captureOf s probe)
    complete r.slot .ok bytes (if flags = 1 then restartCapture probe s else s)) s

/-- MON_READ. -/
def execMonRead (r : Req) (probe flags : Nat) (s : State) : Res := .next (monReadCommand r probe flags s)

/-- A write to a probe's settings stores the value and restarts the capture (R501). -/
def probeWrite (p : Nat) (reg : Nat) (value : Word) (s : State) : State :=
  let s := match reg with
    | 0 => fput (Reg.MON_PROBE_SRC_SOURCE p) (bits value.toNat 15 0) s
    | 1 => rset (Reg.MON_PROBE_WIDTH p) value s
    | 2 => rset (Reg.MON_PROBE_LO p) value s
    | _ => rset (Reg.MON_PROBE_HI p) value s
  restartCapture p s

/-- MON_PROBE_WRITE. -/
def execMonProbeWrite (p : Fin 16) (reg : Fin 4) (value : Word) (s : State) : Res :=
  .next (probeWrite p.val reg.val value s)

/-! ## GPIO (R519, R520) -/

/-- GPIO_n drives: an armed time trigger with ACTION 4 names it, and its domain is on and no logic BIST holds its outputs (R476,
R507). -/
def gpioDriven (s : State) (n : Nat) : Bool :=
  powered s 5 && s.flow.mode != .rest && !outputsHeld s 5 && s.tim.trigs.any fun t => match t with
    | some t => t.action == 4 && t.gpio == n
    | none => false

/-- The level at the input receiver of GPIO_n: the OR of its pulses while it drives, else the pin's input. -/
def gpioLevel (s : State) (n : Nat) : Bool :=
  if gpioDriven s n then s.mon.gpioHigh.any fun p => p.2 == n else s.mon.gpioIn.getLsbD n

end Sys2Proof.Machine
end

