-- ==== Sys2Proof/Machine/Operands.lean ====
section
/-!
DEFINITION. The values register fields act as (R535), one function per field whose row says that some of its values
act as others, and the fixed-point forms of the manual.
-/

namespace Sys2Proof.Machine

/-- BELL_PMIN.STEPS: smaller values act as 32,000 (Table 7-4). -/
def actPmin (s : State) : Nat := max 32000 (fget s Reg.BELL_PMIN_STEPS)

/-- OUT_SLICE.STEPS (Table 8-9). -/
def actSlice (s : State) : Nat :=
  let v := max 40 (fget s Reg.OUT_SLICE_STEPS)
  if 31 * v > actPmin s - 800 then (actPmin s - 800) / 31 else v

/-- OUT_CINCH.MAX_NS for slice time `v` in steps: values below ceil(1.1 W) + 50 ns act as that value (R238). -/
def actCinchNs (s : State) : Nat := max (fget s Reg.OUT_CINCH_MAX_NS) ((341 * actSlice s + 399) / 400 + 50)

/-- OUT_EN.SETTLE_MS: larger values act as 1,000. -/
def actSettleMs (s : State) : Nat := min 1000 (fget s Reg.OUT_EN_SETTLE_MS)

/-- OUT_EN.GAP_US: 0 acts as 1. -/
def actGapUs (s : State) : Nat := max 1 (fget s Reg.OUT_EN_GAP_US)

/-- OUT_ECHO_CFG.LIMIT: 0 acts as 1. -/
def actEchoLimit (s : State) : Nat := max 1 (fget s Reg.OUT_ECHO_CFG_LIMIT)

/-- OUT_LINK_CFG.SETTLE: 0 acts as 1. -/
def actLinkSettle (s : State) : Nat := max 1 (fget s Reg.OUT_LINK_CFG_SETTLE)

/-- OUT_OPT_CFG.BIAS_PCT: values above 99 act as 99. -/
def actBiasPct (s : State) : Nat := min 99 (fget s Reg.OUT_OPT_CFG_BIAS_PCT)

/-- POS_TRACK.TOL: 0 acts as 1. -/
def actTrackTol (s : State) : Nat := max 1 (fget s Reg.POS_TRACK_TOL)

/-- POS_PWS_CFG.TIMEOUT of a word: 0 acts as 1. -/
def actPwsTimeout (cfg : Word) : Nat := max 1 (bits cfg.toNat 11 8)

/-- A glitch filter of R186: 0 and 1 act as 2. -/
def actFilt (v : Nat) : Nat := max 2 v

/-- GTH_WIN_CFG.GUARD: values above 240 act as 240 (R162). -/
def actGuard (s : State) : Nat := min 240 (fget s Reg.GTH_WIN_CFG_GUARD)

/-- LIM_X and LIM_Y of the active set: larger values act as 240 (Table 6-3). -/
def actLimX (s : State) : Nat := min 240 (fget s Reg.GTH_ACT_LIMIT_LIM_X)
def actLimY (s : State) : Nat := min 240 (fget s Reg.GTH_ACT_LIMIT_LIM_Y)

/-- DOSE_SCALE of the active set: larger values act as 4,096 (Table 6-3). -/
def actScale (s : State) : Nat := min 4096 (fget s Reg.GTH_ACT_SCALE_DOSE_SCALE)

/-- PWR_WDOG.TIMEOUT_MS: 0 acts as 1. -/
def actWdogMs (s : State) : Nat := max 1 (fget s Reg.PWR_WDOG_TIMEOUT_MS)

/-- MON_TEMP.TRIP: values above 150 act as 150. -/
def actTrip (s : State) : Nat := min 150 (fget s Reg.MON_TEMP_TRIP)

/-- MON_SNAP.PERIOD_MS: 0 acts as 1. -/
def actSnapMs (s : State) : Nat := max 1 (fget s Reg.MON_SNAP_PERIOD_MS)

end Sys2Proof.Machine
end

