-- ==== Sys2Proof/Machine/Gather.lean ====
section
/-!
DEFINITION. Gather (R154 to R176, R272): the sample point, interpolation, dose split and the record of a shot; the
parameter-set swap (R177 to R181) and the Beam Table apply (R159, R160).
-/

namespace Sys2Proof.Machine

/-! ## Window reads (R161 to R163) -/

/-- Ring row of a stripe row. -/
def ringRow (v : Int) : Nat := (v % 4608).toNat

/-- Row `v` is resident (R164, R165). -/
def rowResident (s : State) (v : Int) : Bool := decide (s.win.low ≤ v ∧ v < s.win.next)

/-- A Window byte: T(x, v), 0 outside the stripe's rows (R25). -/
def windowDose (s : State) (h : Nat) (x v : Int) : Nat :=
  if v < 0 ∨ (h : Int) ≤ v then 0 else assocD 0 s.win.bytes (ringRow v * 33280 + (x + 256).toNat)

/-- The Window word that holds T(x, v). -/
def windowWord (x v : Int) : Nat := winWord (ringRow v) (x + 256).toNat

/-! ## The sample point (R169) -/

/-- What gather uses of one shot beside the tables (R154). -/
structure GatherIn where
  shot : Int
  h : Nat
  ex : Int
  ey : Int
  theta : Int
  deriving DecidableEq, Repr

/-- ROT + θ. -/
def rotOf (s : State) (gi : GatherIn) : Int := fint s Reg.GTH_ACT_ROT_VALUE + gi.theta

/-- The sample point of a beam, in 1/256 px (R169). -/
def samplePoint (s : State) (gi : GatherIn) (e : DWord) (g : Nat) : Int × Int :=
  let rot := rotOf s gi
  let magX := fint s Reg.GTH_ACT_MAG_X_VALUE
  let magY := fint s Reg.GTH_ACT_MAG_Y_VALUE
  let dx := entX e - 262144
  let dy := entY e - 32768
  let tx := magX * dx - rot * dy
  let ty := rot * dx + magY * dy
  ((entX e + gi.ex) * 16 + Int.fdiv (tx + 2 ^ 23) (2 ^ 24),
   (16 * gi.shot - entY e + gi.ey) * 16 + 32 * g + Int.fdiv (ty + 2 ^ 23) (2 ^ 24))

/-- Y_LIM of the stripe in progress (R162). -/
def yLimit (s : State) : Nat := min (actLimY s) s.win.guard

/-- The Y test of R170 fails at some corner, for a stage error e_y. -/
def yTestFails (s : State) (gi : GatherIn) : Bool :=
  [(-8 : Int), 524280].any fun x => [(0 : Int), 65536].any fun y =>
    let d := gi.ey * 2 ^ 28 + rotOf s gi * (x - 262144) + fint s Reg.GTH_ACT_MAG_Y_VALUE * (y - 32768)
    decide ((yLimit s * 2 ^ 32 : Nat) < d.natAbs)

/-- The X test of R170 fails at some corner. -/
def xTestFails (s : State) (gi : GatherIn) : Bool :=
  [(-8 : Int), 524280].any fun x => [(0 : Int), 65536].any fun y =>
    let d := gi.ex * 2 ^ 28 + fint s Reg.GTH_ACT_MAG_X_VALUE * (x - 262144) - rotOf s gi * (y - 32768)
    decide ((actLimX s * 2 ^ 32 : Nat) < d.natAbs)

/-! ## Interpolation, split and gain (R171 to R173) -/

/-- The interpolated dose before the clamp, from the sample point (R171). -/
def scaledDose (s : State) (gi : GatherIn) (p : Int × Int) : Nat :=
  let x0 := Int.fdiv p.1 256
  let v0 := Int.fdiv p.2 256
  let fx := (p.1 % 256).toNat
  let fy := (p.2 % 256).toNat
  let t := windowDose s gi.h x0 v0 * (256 - fx) * (256 - fy) + windowDose s gi.h (x0 + 1) v0 * fx * (256 - fy) +
    windowDose s gi.h x0 (v0 + 1) * (256 - fx) * fy + windowDose s gi.h (x0 + 1) (v0 + 1) * fx * fy
  let ti := (t + 32768) / 65536
  (ti * actScale s + 2048) / 4096

/-- The Window words an interpolation reads (R171). -/
def sampleWords (p : Int × Int) : List Nat :=
  let x0 := Int.fdiv p.1 256
  let v0 := Int.fdiv p.2 256
  [windowWord x0 v0, windowWord (x0 + 1) v0, windowWord x0 (v0 + 1), windowWord (x0 + 1) (v0 + 1)].eraseDups

/-- One of the four words of an interpolation is uncorrectable or poisoned (R172). -/
def samplePoisoned (s : State) (p : Int × Int) : Bool := (sampleWords p).any s.ecc.sram.bad

/-- An interpolation starts on rows a − 1 to b of a rejected band (R272). -/
def onRejectedRows (rejected : List Nat) (p : Int × Int) : Bool :=
  let v0 := Int.fdiv p.2 256
  rejected.any fun j => decide ((256 * j : Nat) - 1 ≤ v0 ∧ v0 ≤ (256 * j + 255 : Nat))

/-- What gather finds for one beam. -/
structure BeamOut where
  beam : Nat
  count : Nat
  clamp : Bool
  rows : Bool
  absent : List Reason
  clip : Bool
  deriving DecidableEq, Repr

/-- A beam whose entry or summary word gather cannot read (Table 13-2). -/
def beamUnreadable (s : State) (b : Nat) (x : Int) : Bool :=
  s.ecc.sram.bad (entryWord b) || s.ecc.sram.bad (sumWord x.toNat)

/-- Gather of one live member (R169 to R173, R34). The event of a clip does not depend on the rows it falls on (R41). -/
def gatherLive (s : State) (gi : GatherIn) (rejected : List Nat) (b : Nat) : BeamOut :=
  let e := entry s.beams.table b
  let p := samplePoint s gi e (groupOf (laneOf b))
  let ts := scaledDose s gi p
  let x := entSet e
  let L := sumLive (summary s x.toNat)
  let n := if L = 0 then 0 else share (min 248 ts) (entRank e) L
  let c := count n (entG e)
  let poison := samplePoisoned s p || beamUnreadable s b x
  let rows := onRejectedRows rejected p
  let clip := decide (31 < c) && !poison
  { beam := b, count := if poison || rows || decide (31 < c) then 0 else c, clamp := decide (248 < ts), rows := rows
    absent := (if poison then [.poisonData] else []) ++ (if clip then [.doseClip] else []), clip := clip }

/-- Gather of one stand-in of a set without live members (R35). -/
def gatherStandIn (s : State) (gi : GatherIn) (rejected : List Nat) (b : Nat) : BeamOut :=
  let e := entry s.beams.table b
  let p := samplePoint s gi e (groupOf (laneOf b))
  let ts := scaledDose s gi p
  let poison := samplePoisoned s p || beamUnreadable s b (entSet e)
  let clip := decide (0 < ts) && !poison
  { beam := b, count := 0, clamp := decide (248 < ts), rows := onRejectedRows rejected p && decide (0 < ts)
    absent := (if poison then [.poisonData] else []) ++ (if clip then [.doseClip] else []), clip := clip }

/-- Beams gather works on: the live members, and the members of the sets that have none. -/
def gatherBeams (s : State) (gi : GatherIn) (rejected : List Nat) : List BeamOut :=
  (List.range nBeams).filterMap fun b =>
    let e := entry s.beams.table b
    if entLive e then some (gatherLive s gi rejected b)
    else if sumLive (summary s (entSet e).toNat) = 0 then some (gatherStandIn s gi rejected b)
    else none

/-- The beam's exposure or stand-in is one that gather works on. -/
def works (s : State) (e : DWord) : Bool := entLive e || sumLive (summary s (entSet e).toNat) == 0

/-- The SRAM words gather reads for a beam: its entry, its cover set's summary, and the Window words of its sample. -/
def beamWords (s : State) (gi : GatherIn) (b : Nat) : List Nat :=
  let e := entry s.beams.table b
  entryWord b :: sumWord (entSet e).toNat ::
    (if works s e then sampleWords (samplePoint s gi e (groupOf (laneOf b))) else [])

/-- The words of the Window and of the Beam Table store that do not decode as clean. -/
def gatherFlaws (s : State) : List Nat :=
  s.ecc.sram.flawed 0 (winWord 4608 0) ++ s.ecc.sram.flawed (entryWord 0) (sumWord nSets)

/-- What gather's reads of a shot decode, beam by beam (R176, R328 to R330, R337; log entry 132). -/
def gatherReads (gi : GatherIn) (s : State) : State :=
  let bad := gatherFlaws s
  if bad.isEmpty then s
  else ((List.range nBeams).flatMap fun b => (beamWords s gi b).filter bad.contains).foldl (fun s w => readSram 0 w s) s

/-- The entries and summary words that gather cannot read are rewritten by firmware (Table 13-2). -/
def rewriteTable (s : State) : State :=
  if (gatherFlaws s).isEmpty then s
  else
    let sick := (List.range nBeams).filter fun b => beamUnreadable s b (entSet (entry s.beams.table b))
    let xs := (sick.map fun b => (entSet (entry s.beams.table b)).toNat).eraseDups
    xs.foldl (fun s' (x : Nat) =>
      let bs := sick.filter fun b => entSet (entry s.beams.table b) == x
      let entries := bs.filter fun b => s.ecc.sram.bad (entryWord b)
      rewriteSet x (if entries.isEmpty then bs.take 1 else entries) s') s

/-! ## One shot's gather -/

/-- The bands of a stripe logged RENDER_REJECT. -/
def rejectedBands (s : State) (i : Nat) : List Nat :=
  match s.ras.stripes.find? (·.stripeIdx == i) with
  | some d => d.rejected
  | none => []

/-- The record of a shot before its gather. -/
def Shot.fresh (stripeIdx : Nat) (e : StripeEntry) (tag : Nat) (n : Int) (psetSeq : Word) (slice : Nat) (skew : List Nat) : Shot :=
  { stripeIdx := stripeIdx, layer := e.layer, stripe := e.stripe, lastShot := 4095 + e.h, jobTag := tag, shot := n,
    psetSeq := psetSeq, ex := 0, ey := 0, theta := 0, whole := [], gathered := false, dosed := false, slice := slice, skew := skew, closed := false, rest := false,
    table := [], counts := [], absent := [], rowsBeams := [], btSets := [], lanes := List.replicate 64 LaneShot.fresh, groups := List.replicate 8 ⟨none, false⟩,
    bell := none }

/-- Rows a shot requires are resident (R28, R163). -/
def rowsReady (s : State) (n : Int) : Bool :=
  rowResident s (n - 4096 - s.win.guard) && rowResident s (n + s.win.guard + 1)

/-- GTH_WIN_LEAD and its lowest value (R168). -/
def windowLead (n : Int) (s : State) : State :=
  let v := (s.win.next - (n + s.win.guard + 2)).toNat
  fmin Reg.GTH_WIN_LEAD_MIN_ROWS v (fput Reg.GTH_WIN_LEAD_ROWS v s)

/-- Whole-shot reasons that gather finds (R28, R170, R195, R196), with their counters and events. `invalid` says that
an axis is invalid or the yaw out of range; GTH_RANGE counts the shots that R170 blanks (Table 6-6). -/
def gatherReasons (gi : GatherIn) (invalid : Bool) (s : State) : State × List Reason :=
  let late := !rowsReady s gi.shot
  let far := xTestFails s gi || yTestFails s gi
  let s := raiseIf late Ev.LATE_DATA (if late then fcount Reg.GTH_LATE_COUNT 1 s else s)
  let s := raiseIf (invalid || far) Ev.CORRECTION_RANGE (if far then fcount Reg.GTH_RANGE_COUNT 1 s else s)
  (s, (if late then [.lateData] else []) ++ (if invalid || far then [.correctionRange] else []))

/-- Beams whose exposure or stand-in falls on rejected rows, of a shot that a later reason blanks as a whole: R272 and
R40 put their rows first. No dose is formed, so that every stand-in counts (DEDUCED, log entry 123). -/
def rejectedBeams (s : State) (gi : GatherIn) (rejected : List Nat) : List Nat :=
  if rejected.isEmpty then []
  else (List.range nBeams).filter fun b =>
    let e := entry s.beams.table b
    works s e && onRejectedRows rejected (samplePoint s gi e (groupOf (laneOf b)))

/-- The gather of a shot that is not blanked as a whole: counts, absences, counters and events (R171 to R174). GTH_CLIP
counts at the log (`countClips`). -/
def gatherDose (gi : GatherIn) (sh : Shot) (s : State) : State × Shot :=
  let outs := gatherBeams s gi (rejectedBands s sh.stripeIdx)
  let clamps := (outs.filter (·.clamp)).length
  let s := raiseIf (decide (0 < clamps)) Ev.DOSE_CLAMP (fcount Reg.GTH_CLAMP_COUNT clamps s)
  let s := raiseIf (outs.any (·.clip)) Ev.DOSE_CLIP s
  let s := raiseIf (outs.any fun o => o.absent.contains .poisonData) Ev.POISON_DATA (rewriteTable (gatherReads gi s))
  (s, { sh with
    dosed := true
    counts := outs.filterMap fun o => if 0 < o.count then some (o.beam, o.count) else none
    absent := outs.flatMap fun o => o.absent.map fun r => (o.beam, r)
    rowsBeams := outs.filterMap fun o => if o.rows then some o.beam else none })

/-- Gather of a shot numbered 0 to S − 1: the record it adds (R154). In Hold, and before the shot a resume starts with,
the record carries the blanking reason and no dose is computed (R53). -/
def gatherShot (gi : GatherIn) (invalid held : Bool) (sh : Shot) (s : State) : State :=
  let sh := { sh with ex := gi.ex, ey := gi.ey, theta := gi.theta, table := s.beams.table, btSets := s.beams.changed }
  let s := windowLead gi.shot { s with beams := { s.beams with changed := [] } }
  if held then { s with shots := s.shots ++ [{ sh with whole := [.hold] }] }
  else
    let (s, whole) := gatherReasons gi invalid s
    let (s, sh) :=
      if whole.isEmpty then gatherDose gi sh s
      else if whole.contains .lateData then (s, sh)
      else (s, { sh with rowsBeams := rejectedBeams s gi (rejectedBands s sh.stripeIdx) })
    { s with shots := s.shots ++ [{ sh with whole := whole }] }

/-! ## Completion and the lane deadlines (R29, R175, R176) -/

/-- Change the record of a shot in flight. -/
def updShot (stripeIdx : Nat) (n : Int) (f : Shot → Shot) (s : State) : State :=
  { s with shots := s.shots.map fun sh => if sh.stripeIdx = stripeIdx ∧ sh.shot = n then f sh else sh }

/-- Every group of a shot has finished its gather, with the margins of its groups in core cycles (R175, R176). The groups
finish in cycles of their own, so that each margin is a sample of its own (R500, R502). -/
def gatherComplete (n : Int) (margins : List Nat) (s : State) : State :=
  match s.shots.find? (fun sh => sh.shot == n && !sh.gathered) with
  | none => s
  | some sh =>
    let s := updShot sh.stripeIdx n (fun sh => { sh with gathered := true }) s
    let s := if s.win.stripeIdx = some sh.stripeIdx then { s with win := { s.win with gathered := max s.win.gathered n } } else s
    let s := margins.foldl (fun s m => fmin Reg.GTH_MARGIN_MIN_CYCLES m s) s
    margins.foldl (fun s (m : Nat) => sample Src.shotMargin [(m : Int)] s) s

/-- The lane deadline of a group: lanes whose counts are incomplete send a blank-shot frame (R29). It is the deadline of
the oldest shot for which the group's has not passed. -/
def laneDeadline (g : Nat) (incomplete : BitVec 64) (s : State) : State :=
  let open_ := fun (sh : Shot) => sh.whole.isEmpty && !(sh.lane g).passed && decide (0 ≤ sh.shot)
  match s.shots.find? open_ with
  | none => s
  | some sh =>
    let late := (List.range 64).filter fun l => groupOf l == g && incomplete.getLsbD l
    let s := updShot sh.stripeIdx sh.shot (fun sh =>
      { sh with lanes := sh.lanes.mapIdx fun l ls =>
          if groupOf l = g then { ls with passed := true, late := ls.late || incomplete.getLsbD l } else ls }) s
    if late.isEmpty then s
    else
      let s := fcount Reg.OUT_LATE_FRAMES_COUNT late.length s
      raise Ev.LATE_SHOT (sample Src.shotMargin [0] (fput Reg.GTH_MARGIN_MIN_CYCLES 0 s))

/-- LANE_DEADLINE. -/
def execLaneDeadline (group : Fin 8) (incomplete : BitVec 64) (s : State) : Res := .next (laneDeadline group.val incomplete s)

/-! ## Parameter sets (R177 to R181) -/

/-- Registers of the shadow set and of the active set, in step (Table 6-3). -/
def psetRegs : List (Nat × Nat) :=
  [(Reg.GTH_SH_MAG_X, Reg.GTH_ACT_MAG_X), (Reg.GTH_SH_MAG_Y, Reg.GTH_ACT_MAG_Y), (Reg.GTH_SH_ROT, Reg.GTH_ACT_ROT),
   (Reg.GTH_SH_LIMIT, Reg.GTH_ACT_LIMIT), (Reg.GTH_SH_SCALE, Reg.GTH_ACT_SCALE)]

/-- COMMIT (R177). -/
def psetCommit (s : State) : State := fput Reg.GTH_PSET_STATUS_PENDING 1 s

/-- The swap of R178, when a COMMIT is pending. -/
def psetSwap (s : State) : State :=
  if fbit s Reg.GTH_PSET_STATUS_PENDING then
    let s := psetRegs.foldl (fun s p => rset p.2 (rget s p.1) s) s
    fput Reg.GTH_PSET_SEQ_SEQ (fget s Reg.GTH_PSET_SEQ_SEQ + 1) (fput Reg.GTH_PSET_STATUS_PENDING 0 s)
  else s

/-- PSET_COMMIT. -/
def execPsetCommit (s : State) : Res := .next (psetCommit s)

/-- PSET_SWAP. -/
def execPsetSwap (s : State) : Res := .next (psetSwap s)

end Sys2Proof.Machine
end

