-- ==== Sys2Proof/Machine/Time.lean ====
section
/-!
DEFINITION. The time counter, its steps and its disciplines (R430 to R440), and the Time commands that touch nothing
else. Events that happen at a counter time put the counter at that time (log entry 8).
-/

namespace Sys2Proof.Machine

/-- The active increment, 32.32 ns (R430). -/
def increment (s : State) : Nat := rget64 s Reg.TIM_INC_LO Reg.TIM_INC_HI

/-- Set the active increment. -/
def setIncrement (v : Nat) (s : State) : State := rset64 Reg.TIM_INC_LO Reg.TIM_INC_HI v s

/-- H wraps: AON counts the wrap while the module is in Rest past AP4 (R432). -/
def countWrap (s : State) : State :=
  if s.tim.inRest then fcount Reg.TIM_REST_WRAPS_WRAPS 1 s else s

/-- The counter value, in units of 2^-32 ns, that the next tick makes (R430). -/
def nextCount (s : State) : Nat := s.tim.h * 2 ^ 32 + s.tim.frac + increment s

/-- One 2 ns tick of the counter (R430). -/
def timeTick (s : State) : State :=
  let c := nextCount s
  let t := { s with tim := { s.tim with h := c / 2 ^ 32 % 2 ^ 48, frac := c % 2 ^ 32 } }
  if 2 ^ 80 ≤ c then countWrap t else t

/-- The counter runs on to `h`, when that lies ahead by the sign of the difference modulo 2^48 (log entry 8). -/
def runTo (h : Nat) (s : State) : State :=
  let d := (2 ^ 48 + h - s.tim.h) % 2 ^ 48
  if d = 0 ∨ 2 ^ 47 ≤ d then s
  else
    let t := { s with tim := { s.tim with h := h % 2 ^ 48, frac := 0 } }
    if h % 2 ^ 48 < s.tim.h then countWrap t else t

/-- A read of TIM_NS captures FRAC and WRAPS of the same tick (R431). -/
def timNsCapture (s : State) : State :=
  fput Reg.TIM_FRAC_FRAC s.tim.frac (fput Reg.TIM_WRAPS_WRAPS (s.tim.h / 2 ^ 32)
    (fput Reg.TIM_NS_NS (s.tim.h % 2 ^ 32) s))

/-- Firmware reads the counter under R431 at a refresh: HIGH follows a wrap since its previous read (R432). -/
def readHigh (s : State) : State :=
  timNsCapture { s with tim := { s.tim with high := timeHigh s, prevWraps := s.tim.h / 2 ^ 32 } }

/-- A signed value saturated to 32 bits. -/
def sat32 (v : Int) : Int := max (-0x80000000) (min 0x7FFFFFFF v)

/-- A 0.4 ns cycle number of the counter, `diff` ns on. -/
def shiftCycle (diff : Int) (k : Nat) : Nat := ((k : Int) + Int.fdiv (5 * diff) 2).toNat

/-- A channel's times move with a step of the counter: its segment's, and those of its last step and turn (R297, R434). -/
def Chan.shift (diff : Int) (c : Chan) : Chan :=
  { c with seg := c.seg.map (fun g => { g with start := g.start.add (Dy.ofInt diff) })
           lastStep := c.lastStep.map (shiftCycle diff), dirAt := c.dirAt.map (shiftCycle diff) }

/-- An ACTION 1 trigger moves with the servo ticks that it sets (R434). -/
def Trigger.shift (diff : Int) (t : Trigger) : Trigger := if t.action = 1 then { t with next := ((t.next : Int) + diff).toNat } else t

/-- Load extended time `e` at the next tick: TIME_STEP, its size, and the values R434 moves with it. Answers the state
and the extended time the tick would have produced (R433, R434). A discipline may step the counter back past 0: H takes
the value modulo 2^48, and HIGH stays 0 there (DESIGN CHOICE, log entry 9). -/
def loadTime (e : Int) (s : State) : State × Nat :=
  let tickE : Nat := timeHigh s * 2 ^ 48 + nextCount s / 2 ^ 32
  let diff : Int := e - (tickE : Int)
  let h : Nat := (e % 2 ^ 48).toNat
  let s := { s with tim := { s.tim with
    h := h, frac := 0, high := (e / 2 ^ 48).toNat, prevWraps := h / 2 ^ 32, trigs := s.tim.trigs.map (Option.map (Trigger.shift diff)) } }
  let s := { s with mot := { s.mot with phase := s.mot.phase + diff, chans := s.mot.chans.map (Chan.shift diff) } }
  let s := fputInt Reg.TIM_STEP_LAST_NS (sat32 (signed 48 (unsigned 48 diff))) s
  (raise Ev.TIME_STEP s, tickE)

/-! ## Disciplines (R435 to R437) -/

/-- The limits of every increment: 2 ns ± 500 ppm (R436). -/
def incMin : Nat := 0x1FFBE76C9
def incMax : Nat := 0x200418937

/-- An increment steered within the limits of R436. -/
def clampInc (v : Int) : Nat := (max (incMin : Int) (min (incMax : Int) v)).toNat

/-- The source in force (R435): 0 COHORT, 1 PTP, 2 REF_IN, 3 HOST. -/
def timeSource (s : State) : Nat :=
  if fget s Reg.COH_CFG_MEMBERS > 1 ∧ ¬ masterBit s then 0
  else if fbit s Reg.TIM_STATUS_PTP_EN ∧ fbit s Reg.TIM_STATUS_PTP_LOCK then 1
  else if fbit s Reg.TIM_STATUS_REF_EN ∧ s.tim.refGood then 2
  else 3

/-- The source is taken anew; a source that takes over starts from the increment last in force, and HOST brings the
increment last written by TIME_RATE (R435). -/
def settleSource (s : State) : State :=
  let n := timeSource s
  let s := fput Reg.TIM_STATUS_SRC n s
  if n = 3 then setIncrement s.tim.hostInc s else s

/-- PTP_UNLOCKED begins, stands or ends; it is raised where it begins (R439). -/
def setPtpOut (out : Bool) (s : State) : State :=
  raiseIf (out && !s.tim.ptpOut) Ev.PTP_UNLOCKED { s with tim := { s.tim with ptpOut := out } }

/-- A 1 s REF_IN window ends: H advanced by `adv` units of 2^-32 ns over 10^7 REF_IN cycles (R437). The residual is
rounded to the nearest ppb and unit, ties upward (DESIGN CHOICE, log entry 9). -/
def refWindow (adv : Nat) (s : State) : State :=
  if !fbit s Reg.TIM_STATUS_REF_EN || adv = 0 then s
  else
    let want : Int := 10 ^ 9 * 2 ^ 32
    let resid : Int := adv - want
    let ppb := rndDiv (resid * 10 ^ 9) want
    let small : Bool := decide (resid.natAbs * 10 ^ 7 < want.natAbs)
    let n := if small then s.tim.refWindows + 1 else 0
    let s := { s with tim := { s.tim with refGood := true, refWindows := n } }
    let s := fputInt Reg.TIM_REF_ERR_PPB (sat32 ppb) s
    let s := fput Reg.TIM_STATUS_REF_LOCK (if 10 ≤ n then 1 else 0) s
    let s := settleSource s
    if fget s Reg.TIM_STATUS_SRC = 2 then
      setIncrement (clampInc (rndDiv (increment s * want) adv)) s
    else s

/-- REF_IN is lost (R437). -/
def refLost (s : State) : State :=
  if !fbit s Reg.TIM_STATUS_REF_EN then s
  else
    let s := { s with tim := { s.tim with refGood := false, refWindows := 0 } }
    let s := fput Reg.TIM_STATUS_REF_LOCK 0 s
    raise Ev.REF_IN_LOST (settleSource s)

/-- REF_IN_WINDOW. -/
def execRefInWindow (advance : Nat) (s : State) : Res := .next (refWindow advance s)

/-- REF_IN_LOST. -/
def execRefInLost (s : State) : Res := .next (refLost s)

/-- No Sync for 3 s: PTP is out of lock (R439). -/
def ptpTimeout (s : State) : State :=
  if !fbit s Reg.TIM_STATUS_PTP_EN then s
  else setPtpOut true (settleSource (fput Reg.TIM_STATUS_PTP_LOCK 0 s))

/-- PTP_SYNC_TIMEOUT. -/
def execPtpSyncTimeout (s : State) : Res := .next (ptpTimeout s)

/-- COUNTER_WRAP: H passes 2^48 (R430, R432). -/
def counterWrap (s : State) : State :=
  let s := if s.tim.inRest then s else { s with tim := { s.tim with high := timeHigh s, prevWraps := 0xFFFF } }
  countWrap { s with tim := { s.tim with h := 0, frac := 0 } }

/-- COUNTER_WRAP. -/
def execCounterWrap (s : State) : Res := .next (counterWrap s)

/-- TIM_NS_READ. -/
def execTimNsRead (s : State) : Res := .next (timNsCapture s)

/-! ## Commands -/

/-- TIME_RATE (R436). -/
def timeRateCommand (r : Req) (inc : Nat) (s : State) : State :=
  runCommand r { op := 0x0602, len := 8, inRange := decide (incMin ≤ inc ∧ inc ≤ incMax) } (fun s =>
    let old := s.tim.hostInc
    let s := settleSource { s with tim := { s.tim with hostInc := inc } }
    complete r.slot .ok (leBytes 8 old) s) s

/-- TIME_RATE. -/
def execTimeRate (r : Req) (increment : Nat) (s : State) : Res := .next (timeRateCommand r increment s)

/-- REF_CONFIG (R437): disabling ends the discipline and its lock. -/
def refConfigCommand (r : Req) (flags : Nat) (s : State) : State :=
  runCommand r { op := 0x0606, len := 4, inRange := decide (flags ≤ 1), accepted := rwhs s } (fun s =>
    let old := fget s Reg.TIM_STATUS_REF_EN
    let s := fput Reg.TIM_STATUS_REF_EN flags s
    let s := if flags = old then s else
      fput Reg.TIM_STATUS_REF_LOCK 0 { s with tim := { s.tim with refGood := false, refWindows := 0 } }
    complete r.slot .ok (leBytes 1 old) (settleSource s)) s

/-- REF_CONFIG. -/
def execRefConfig (r : Req) (flags : Nat) (s : State) : Res := .next (refConfigCommand r flags s)

/-- PTP_CONFIG (R438): ENABLE also votes for ETH (Table 20-2). -/
def ptpConfigCommand (r : Req) (flags domain ipv4 : Nat) (s : State) : State :=
  runCommand r { op := 0x0604, len := 8, inRange := decide (flags ≤ 3), accepted := modeIn s [.ready, .service] } (fun s =>
    let s := { s with tim := { s.tim with ptpUdp := flags.testBit 1, ptpDomain := domain, ptpIp := ipv4, ptpSync := none, ptpReqs := [], ptpDelay := 0, ptpOut := false } }
    let s := fput Reg.TIM_STATUS_PTP_EN (flags % 2) (fput Reg.TIM_STATUS_PTP_LOCK 0 s)
    let s := setVote Dom.ETH Client.firmware (flags.testBit 0) s
    complete r.slot .ok [] (settleSource s)) s

/-- PTP_CONFIG. -/
def execPtpConfig (r : Req) (flags domain : Nat) (ipv4 : Nat) (s : State) : Res :=
  .next (ptpConfigCommand r flags domain ipv4 s)

/-- One entry of TS_READ's completion. -/
def tsBytes (e : TsEntry) : List Byte :=
  leBytes 2 e.id ++ leBytes 2 0 ++ leBytes 8 (e.time / 1000000000) ++ leBytes 4 (e.time % 1000000000)

/-- TS_READ (R440): the oldest entries, 13 at most, leave the queue. -/
def tsReadCommand (r : Req) (s : State) : State :=
  runCommand r { op := 0x0605, len := 0, accepted := rwhs s } (fun s =>
    let out := s.tim.ts.take 13
    let s := { s with tim := { s.tim with ts := s.tim.ts.drop 13 } }
    let s := fput Reg.TIM_TS_COUNT_ENTRIES s.tim.ts.length s
    complete r.slot .ok (leBytes 1 out.length ++ leBytes 3 0 ++ out.flatMap tsBytes) s) s

/-- TS_READ. -/
def execTsRead (r : Req) (s : State) : Res := .next (tsReadCommand r s)

/-- A transmitted event message places its timestamp in the queue; a full queue drops the newest (R440). -/
def ptpSent (seqId : Nat) (s : State) : State :=
  if s.tim.ts.length < 16 then
    let s := { s with tim := { s.tim with ts := s.tim.ts ++ [⟨seqId % 65536, timeE s⟩] } }
    fput Reg.TIM_TS_COUNT_ENTRIES s.tim.ts.length s
  else raise Ev.TS_OVERFLOW (fcount Reg.TIM_TS_DROP_COUNT 1 s)

end Sys2Proof.Machine
end

