-- ==== Sys2Proof/Machine/Motion.lean ====
section
/-!
DEFINITION. The motion generator (R286 to R304): planning, commits and swaps, stop profiles, the set-point stream,
steps and stalls, and the segments of the stripe choreography. What ends a stripe or starts one stands elsewhere.
-/

namespace Sys2Proof.Machine

/-! ## Channels -/

/-- One channel. -/
def chan (s : State) (n : Nat) : Chan := s.mot.chans.getD n Chan.por

/-- Change one channel. -/
def updChan (n : Nat) (f : Chan → Chan) (s : State) : State :=
  { s with mot := { s.mot with chans := updAt Chan.por s.mot.chans n f } }

/-- The configuration in force: a write acts while the channel rests (R305). -/
def chanCfg (s : State) (n : Nat) : Word :=
  if (chan s n).seg.isSome then (chan s n).cfg else rget s (Reg.MOT_CH_CFG n)

/-- A MODE value of channel `n` as it acts: A and B have no step output, and 3 acts as 0 (R286, Table 11-7). -/
def actMode (n m : Nat) : Nat := if m = 1 then 1 else if m = 2 ∧ 2 ≤ n then 2 else 0

/-- MODE as it acts: 0 off, 1 set-point, 2 step (R286, Table 11-7). -/
def chanMode (s : State) (n : Nat) : Nat :=
  actMode n (bits (chanCfg s n).toNat 1 0)

/-- STATE codes (Table 11-7). -/
abbrev stIdle : Nat := 0
abbrev stMoving : Nat := 1
abbrev stStopping : Nat := 2
abbrev stStalled : Nat := 3

/-- STATE of a channel. -/
def chanState (s : State) (n : Nat) : Nat := fget s (Reg.MOT_CH_STATUS_STATE n)

/-- A COMMIT is pending (R292). -/
def chanPending (s : State) (n : Nat) : Bool := fbit s (Reg.MOT_CH_STATUS_PENDING n)

/-- A channel rests with nothing pending. -/
def chanQuiet (s : State) (n : Nat) : Bool := (chan s n).seg.isNone && !chanPending s n && chanState s n == stIdle

/-- PULSE_NS as it acts (Table 11-7). -/
def actPulseNs (s : State) : Nat := max 20 (fget s Reg.MOT_STEP_PULSE_NS)
/-- ANGLE as it acts. -/
def actAngle (s : State) : Nat := min 89 (fget s Reg.MOT_STALL_ANGLE)
/-- STEPS as it acts. -/
def actStallSteps (s : State) : Nat := max 1 (fget s Reg.MOT_STALL_STEPS)
/-- PERIOD_US as it acts (R294). -/
def actServoUs (s : State) : Nat := max 5 (min 50 (fget s Reg.MOT_SERVO_PERIOD_US))
/-- APPROACH_PX as it acts. -/
def actApproachPx (s : State) : Nat := max 16 (fget s Reg.MOT_CHOREO_APPROACH_PX)
/-- TAIL_PX as it acts. -/
def actTailPx (s : State) : Nat := max 8 (fget s Reg.MOT_CHOREO_TAIL_PX)

/-- The POR value of a soft limit is part of the register table; both limits as signed values (Table 11-7). -/
def limLo (s : State) (n : Nat) : Int := signed 64 (rget64 s (Reg.MOT_CH_LIM_LO_L n) (Reg.MOT_CH_LIM_LO_H n))
def limHi (s : State) (n : Nat) : Int := signed 64 (rget64 s (Reg.MOT_CH_LIM_HI_L n) (Reg.MOT_CH_LIM_HI_H n))

/-! ## The planner (R289) -/

/-- The limits of a segment as binary64. -/
structure Limits where
  V : Dy
  A : Dy
  J : Dy
  deriving DecidableEq, Repr

/-- tau(dv). -/
def Limits.tau (l : Limits) (dv : Dy) : Dy :=
  if (Dy.divR (Dy.mulR l.A l.A) l.J).le dv then Dy.addR (Dy.divR dv l.A) (Dy.divR l.A l.J)
  else Dy.mulR (Dy.ofInt 2) (Dy.sqrtR (Dy.divR dv l.J))

/-- dist(a, b). -/
def Limits.dist (l : Limits) (a b : Dy) : Dy :=
  Dy.mulR (Dy.divR (Dy.addR a b) (Dy.ofInt 2)) (l.tau (Dy.subR b a).abs)

/-- need(m) for end speeds w0 and w1. -/
def Limits.need (l : Limits) (w0 w1 m : Dy) : Dy := Dy.addR (l.dist w0 m) (l.dist m w1)

/-- The bisection of R289: `n` halvings between lo and hi. -/
def Limits.bisect (l : Limits) (w0 w1 D : Dy) : Nat → Dy → Dy → Dy
  | 0, lo, _ => lo
  | n + 1, lo, hi =>
    let m := Dy.divR (Dy.addR lo hi) (Dy.ofInt 2)
    if (l.need w0 w1 m).le D then l.bisect w0 w1 D n m hi else l.bisect w0 w1 D n lo m

/-- The jerk sequence of one speed change from w to w' along direction `dir` (R289). -/
def Limits.change (l : Limits) (dir : Int) (w w' : Dy) : List (Dy × Dy) :=
  let dv := (Dy.subR w' w).abs
  let j := if (w'.sub w).sign * dir < 0 then l.J.neg else l.J
  if dv.isZero then []
  else if (Dy.divR (Dy.mulR l.A l.A) l.J).le dv then
    let t := Dy.divR l.A l.J
    [(t, j), (Dy.subR (Dy.divR dv l.A) t, Dy.zero), (t, j.neg)]
  else
    let t := Dy.divR (l.tau dv) (Dy.ofInt 2)
    [(t, j), (t, j.neg)]

/-- A rational 32.32, 16.48 or 0.64 word as binary64. -/
def wordDy (raw : Int) (frac : Nat) : Dy := Dy.round ⟨raw, frac⟩

/-- The words of a shadow segment (Table 11-2). -/
structure SegWords where
  target : Int
  vEnd : Int
  vMax : Nat
  aMax : Nat
  jMax : Nat
  deriving DecidableEq, Repr

/-- The shadow of a channel, or its active words. -/
def segWords (s : State) (base : Nat) : SegWords :=
  { target := signed 64 (rget64 s base (base + 4)), vEnd := signed 64 (rget64 s (base + 8) (base + 12)),
    vMax := rget64 s (base + 16) (base + 20), aMax := rget64 s (base + 24) (base + 28), jMax := rget64 s (base + 32) (base + 36) }

/-- Write the five words of a segment from a base key. -/
def putWords (base : Nat) (w : SegWords) (s : State) : State :=
  rset64 (base + 32) (base + 36) w.jMax (rset64 (base + 24) (base + 28) w.aMax (rset64 (base + 16) (base + 20) w.vMax
    (rset64 (base + 8) (base + 12) (unsigned 64 w.vEnd) (rset64 base (base + 4) (unsigned 64 w.target) s))))

/-- The limits in the words. -/
def SegWords.limits (w : SegWords) : Limits := ⟨wordDy w.vMax 32, wordDy w.aMax 48, wordDy w.jMax 64⟩

/-- Reject causes (Table 11-3, Table 11-7). -/
abbrev rejLimit : Nat := 1
abbrev rejInfeasible : Nat := 2
abbrev rejRate : Nat := 3
abbrev rejOwned : Nat := 4
abbrev rejMode : Nat := 5
abbrev rejZero : Nat := 6
abbrev rejDirection : Nat := 7
abbrev rejUnderrun : Nat := 8

/-- Plan a segment from p0 and v0 (R289): the profile, or INFEASIBLE. -/
def planProfile (w : SegWords) (p0 v0 : Dy) : Option Segment :=
  let l := w.limits
  let p1 := Dy.ofInt w.target
  let v1 := wordDy w.vEnd 32
  let dir := (p1.sub p0).sign
  let D := (Dy.subR p1 p0).abs
  let w0 := v0.abs
  let w1 := v1.abs
  let lo := w0.max2 w1
  if D.isZero then some ⟨p0, v0, Dy.zero, [], Dy.zero, p1, v1, Dy.zero⟩
  else if D.lt (l.need w0 w1 lo) then none
  else
    let vp := if (l.need w0 w1 l.V).le D then l.V else l.bisect w0 w1 D 64 lo l.V
    let tc := Dy.divR (Dy.subR D (l.need w0 w1 vp)) vp
    let dur := Dy.addR (Dy.addR (l.tau (Dy.subR vp w0)) tc) (l.tau (Dy.subR vp w1))
    some ⟨p0, v0, Dy.zero, l.change dir w0 vp ++ [(tc, Dy.zero)] ++ l.change dir vp w1, dur, p1, v1, Dy.zero⟩

/-- The first cause of Table 11-3 under which a plan of channel `n` is rejected (the order among several: log entry
11), or the profile. -/
def planOf (s : State) (n : Nat) (w : SegWords) (p0 v0 : Dy) : Nat × Option Segment :=
  let p1 := Dy.ofInt w.target
  let v1 := wordDy w.vEnd 32
  let d := p1.sub p0
  let away := fun (v : Dy) => v.sign * d.sign < 0
  if w.target < limLo s n ∨ limHi s n < w.target ∨ w.target < -(2 ^ 39) ∨ 2 ^ 39 - 1 < w.target then (rejLimit, none)
  else if chanMode s n = 0 ∨ chanState s n = stStalled then (rejMode, none)
  else if ¬ d.isZero ∧ (w.vMax = 0 ∨ w.aMax = 0 ∨ w.jMax = 0) then (rejZero, none)
  else if away v0 ∨ away v1 ∨ (d.isZero ∧ ¬ (v0.isZero ∧ v1.isZero)) ∨
      (¬ d.isZero ∧ ((w.limits.V.lt v0.abs) ∨ (w.limits.V.lt v1.abs))) then (rejDirection, none)
  else if chanMode s n = 2 ∧ 1000 * 2 ^ 32 < w.vMax * (2 * actPulseNs s) then (rejRate, none)
  else match planProfile w p0 v0 with
    | none => (rejInfeasible, none)
    | some g => (0, some g)

/-! ## Evaluation (R291) -/

/-- Position, velocity and acceleration. -/
structure Kin where
  p : Dy
  v : Dy
  a : Dy
  deriving DecidableEq, Repr

/-- The exact integral of one jerk over `t` µs, each result rounded once to binary64 (log entry 12). -/
def Kin.after (k : Kin) (j t : Dy) : Kin :=
  let three := Dy.ofInt 3
  let six := Dy.ofInt 6
  let t2 := t.mul t
  let p6 := ((six.mul k.p).add (six.mul (k.v.mul t))).add ((three.mul (k.a.mul t2)).add (j.mul (t2.mul t)))
  { p := Dy.divR p6 six
    v := Dy.divR (((Dy.ofInt 2).mul (k.v.add (k.a.mul t))).add (j.mul t2)) (Dy.ofInt 2)
    a := Dy.round (k.a.add (j.mul t)) }

/-- Where a jerk sequence stands after `t` µs; past its end it holds the last value. -/
def Kin.along : List (Dy × Dy) → Dy → Kin → Kin
  | [], _, k => k
  | (d, j) :: ps, t, k => if t.le d then k.after j t else Kin.along ps (Dy.subR t d) (k.after j d)

/-- A profile's state `t` µs after its start. -/
def Segment.kinAt (g : Segment) (t : Dy) : Kin :=
  if g.dur.le t then ⟨g.target, g.vEnd, Dy.zero⟩ else Kin.along g.phases t ⟨g.p0, g.v0, g.a0⟩

/-- End time of a profile in extended ns, unrounded (R292). -/
def Segment.endNs (g : Segment) : Dy := g.start.add (g.dur.mul (Dy.ofInt 1000))

/-- µs from a profile's start to the time `k` in fifths of a nanosecond, as binary64. -/
def Segment.usAt (g : Segment) (k : Int) : Dy := Dy.divR ((Dy.ofInt k).sub ((Dy.ofInt 5).mul g.start)) (Dy.ofInt 5000)

/-- The stop profile from a moving state (R293): acceleration to 0 at J_MAX, then speed to 0. -/
def stopProfile (l : Limits) (k : Kin) (start : Dy) : Segment :=
  let ta := Dy.divR k.a.abs l.J
  let ja := if 0 < k.a.sign then l.J.neg else l.J
  let pre := if k.a.isZero then [] else [(ta, ja)]
  let k1 := if k.a.isZero then k else { k.after ja ta with a := Dy.zero }
  let dec := l.change k1.v.sign k1.v.abs Dy.zero
  let k2 := dec.foldl (fun k d => k.after d.2 d.1) k1
  { p0 := k.p, v0 := k.v, a0 := k.a, phases := pre ++ dec,
    dur := (pre ++ dec).foldl (fun t d => Dy.addR t d.1) Dy.zero, target := k2.p, vEnd := Dy.zero, start := start }

/-- The limits of a channel's active segment. -/
def actLimits (s : State) (n : Nat) : Limits := (segWords s (Reg.MOT_CH_ACT_TARGET_LO n)).limits

/-- Where a channel is at the time `k` in fifths of a nanosecond, across a segment end whose successor is known (R291,
R292, R293). -/
def chanKin (s : State) (n : Nat) (k : Int) : Kin :=
  let c := chan s n
  match c.seg with
  | none => ⟨c.rest, Dy.zero, Dy.zero⟩
  | some g =>
    if (Dy.ofInt k).le ((Dy.ofInt 5).mul g.endNs) then g.kinAt (g.usAt k)
    else match c.plan with
      | some q => q.kinAt ({ q with start := g.endNs }.usAt k)
      | none =>
        if g.vEnd.isZero then ⟨g.target, Dy.zero, Dy.zero⟩
        else
          let st := stopProfile (actLimits s n) ⟨g.target, g.vEnd, Dy.zero⟩ g.endNs
          st.kinAt (st.usAt k)

/-- p(t) of a channel at counter time `e`. -/
def chanPos (s : State) (n : Nat) (e : Int) : Dy := (chanKin s n (5 * e)).p

/-! ## Faults, stops and rest -/

/-- Cancel a pending COMMIT. -/
def cancelCommit (n : Nat) (s : State) : State :=
  updChan n (fun c => { c with plan := none })
    (fput (Reg.MOT_CH_STATUS_PENDING n) 0 (fput (Reg.MOT_CH_STATUS_PLANNED n) 0 s))

/-- A channel starts a profile. -/
def startProfile (n : Nat) (g : Segment) (state : Nat) (s : State) : State :=
  let cfg := chanCfg s n
  fput (Reg.MOT_CH_STATUS_STATE n) state (updChan n (fun c => { c with seg := some g, cfg := cfg }) s)

/-- A channel comes to rest at a position. -/
def comeToRest (n : Nat) (p : Dy) (s : State) : State :=
  fput (Reg.MOT_CH_STATUS_STATE n) stIdle (updChan n (fun c => { c with seg := none, rest := p }) s)

/-- Run the stop profile on a moving channel at the present time and cancel its pending COMMIT (R293). -/
def stopChan (n : Nat) (s : State) : State :=
  let s := cancelCommit n s
  match (chan s n).seg with
  | some g =>
    if chanState s n = stMoving then
      let now : Int := timeE s
      startProfile n (stopProfile (actLimits s n) (g.kinAt (g.usAt (5 * now))) (Dy.ofInt now)) stStopping s
    else s
  | none => s

/-- The stop profile on channels A and B at once (R304). -/
def stopStage (s : State) : State :=
  let s := stopChan 1 (stopChan 0 s)
  { s with mot := { s.mot with step := 0 } }

/-- A job is loaded. -/
def jobLoaded (s : State) : Bool := s.job.isSome

/-- MOTION_FAULT is raised: channels A and B stop, and with a job loaded the Hold cause of Table 14-5 arises (R290,
R293, R304; DEDUCED, log entry 13). -/
def motionFault (s : State) : State :=
  let s := stopStage (raise Ev.MOTION_FAULT s)
  if jobLoaded s then requestHold 11 s else s

/-- A segment is rejected (R290). -/
def rejectSegment (n cause : Nat) (s : State) : State :=
  motionFault (fput (Reg.MOT_CH_STATUS_REJECT n) cause (cancelCommit n s))

/-! ## Commits and swaps (R292, R293) -/

/-- A COMMIT starts a plan, or is rejected at once (R287, R290, R292). -/
def motionCommit (n : Nat) (byHost : Bool) (s : State) : State :=
  if byHost && fbit s (Reg.MOT_CH_STATUS_OWNED n) then rejectSegment n rejOwned s
  else if chanMode s n = 0 ∨ chanState s n = stStalled then rejectSegment n rejMode s
  else
    updChan n (fun c => { c with plan := none })
      (fput (Reg.MOT_CH_STATUS_PLANNED n) 0 (fput (Reg.MOT_CH_STATUS_PENDING n) 1 s))

/-- MOTION_COMMIT. -/
def execMotionCommit (ch : Fin 6) (byHost : Bool) (s : State) : Res := .next (motionCommit ch.val byHost s)

/-- A shadow write lands, and restarts a pending plan (R292). -/
def shadowWrite (n word : Nat) (high : Bool) (v : Word) (s : State) : State :=
  let s := rset (Reg.MOT_CH_SH_TARGET_LO n + 8 * word + (if high then 4 else 0)) v s
  if chanPending s n then
    updChan n (fun c => { c with plan := none }) (fput (Reg.MOT_CH_STATUS_PLANNED n) 0 s)
  else s

/-- MOTION_SHADOW_WRITE. -/
def execMotionShadowWrite (ch : Fin 6) (word : Fin 5) (high : Bool) (value : Word) (s : State) : Res :=
  .next (shadowWrite ch.val word.val high value s)

/-- The plan of a pending COMMIT completes, 4 µs after the later of the COMMIT and the last shadow write (R292). -/
def planComplete (n : Nat) (s : State) : State :=
  if !chanPending s n then s
  else
    let c := chan s n
    let (p0, v0) := match c.seg with
      | some g => (g.target, g.vEnd)
      | none => (c.rest, Dy.zero)
    match planOf s n (segWords s (Reg.MOT_CH_SH_TARGET_LO n)) p0 v0 with
    | (_, some g) => updChan n (fun c => { c with plan := some g }) (fput (Reg.MOT_CH_STATUS_PLANNED n) 1 s)
    | (cause, none) => rejectSegment n cause s

/-- MOTION_PLAN_COMPLETE. -/
def execMotionPlanComplete (ch : Fin 6) (s : State) : Res := .next (planComplete ch.val s)

/-- The pending segment becomes active at `start` (R292): the shadow then holds a copy of it, PENDING clears and SEQ
counts. A null segment ends at the swap (R290). -/
def swapSegment (n : Nat) (g : Segment) (start : Dy) (s : State) : State :=
  let s := putWords (Reg.MOT_CH_ACT_TARGET_LO n) (segWords s (Reg.MOT_CH_SH_TARGET_LO n)) s
  let s := cancelCommit n s
  let s := fput (Reg.MOT_CH_SEQ_SEQ n) (fget s (Reg.MOT_CH_SEQ_SEQ n) + 1) s
  if g.phases.isEmpty then comeToRest n g.target s
  else startProfile n { g with start := start } stMoving s

/-- DIRN_n of a step channel that leaves rest: high for an increasing count, reversed by INV (R296, R297). -/
def turnDir (n : Nat) (g : Segment) (t : Dy) (s : State) : State :=
  let way := (g.target.sub g.p0).sign
  let level := decide (0 < way) != (chanCfg s n).getLsbD 2
  if chanMode s n ≠ 2 ∨ way = 0 ∨ (chan s n).dirn = level then s
  else updChan n (fun c => { c with dirn := level, dirAt := some (((Dy.ofInt 5).mul t).floor / 2).toNat }) s

/-! ## Firmware's own segments (R301) -/

/-- A COMMIT by Liroth firmware of its own words. -/
def firmwareSegment (n : Nat) (w : SegWords) (s : State) : State :=
  motionCommit n false (putWords (Reg.MOT_CH_SH_TARGET_LO n) w s)

/-- PIX_COUNTS of the loaded job. -/
def pixCounts (s : State) : Nat := match s.job with | some j => j.pixCounts | none => 1

/-- v_s in 32.32 counts per µs, to nearest (R301). -/
def scanSpeed (s : State) : Nat := (rndDiv (pixCounts s * 40000 * 2 ^ 32) (actPmin s)).toNat

/-- The sense of the scan: Y falls as u rises when SCAN_NEG is set (R193). -/
def StripeEntry.dir (e : StripeEntry) : Int := if e.scanNeg then -1 else 1

/-- The Y count of a scan progress given in counts (R193). -/
def StripeEntry.yAt (e : StripeEntry) (u : Int) : Int := e.yOrigin + e.dir * u

/-- Shots of a stripe: S = H + 4,096 (R22). -/
def StripeEntry.shots (e : StripeEntry) : Nat := 4096 + e.h

/-- A stripe list entry by position. -/
def stripeAt (s : State) (i : Nat) : Option StripeEntry := match s.job with | some j => j.stripes[i]? | none => none

/-- The distance of the speed change from 0 to v_s on channel A, in whole counts (R301; rounded up, log entry 14). -/
def scanStopDistance (s : State) : Int :=
  let l : Limits := ⟨wordDy s.mot.limA.1 32, wordDy s.mot.limA.2.1 48, wordDy s.mot.limA.2.2 64⟩
  (l.dist Dy.zero (wordDy (scanSpeed s) 32)).ceil

/-- The end of the approach of a stripe (step 1 of Table 11-5). -/
def approachEnd (s : State) (e : StripeEntry) : Int := e.yAt (-(actApproachPx s * pixCounts s : Nat))

/-- The approach start of a stripe. -/
def approachStart (s : State) (e : StripeEntry) : Int := approachEnd s e - e.dir * scanStopDistance s

/-- A segment of channel A with firmware's limits. -/
def segA (s : State) (target vEnd : Int) (vMax : Nat) : SegWords := ⟨target, vEnd, vMax, s.mot.limA.2.1, s.mot.limA.2.2⟩

/-- The segment of step 1. -/
def approachWords (s : State) (e : StripeEntry) : SegWords :=
  segA s (approachEnd s e) (e.dir * scanSpeed s) (scanSpeed s)

/-- The end of step 2. -/
def scanEnd (s : State) (e : StripeEntry) : Int :=
  e.yAt (((e.shots : Int) - 1 + actTailPx s) * pixCounts s)

/-- The segments of steps 2 and 3. -/
def scanWords (s : State) (e : StripeEntry) : SegWords := segA s (scanEnd s e) (e.dir * scanSpeed s) (scanSpeed s)
def stopWords (s : State) (e : StripeEntry) : SegWords :=
  segA s (scanEnd s e + e.dir * scanStopDistance s) 0 (scanSpeed s)

/-- The segment of step 5, to the next stripe's approach start. -/
def repositionWords (s : State) (e : StripeEntry) : SegWords := segA s (approachStart s e) 0 s.mot.limA.1

/-- The segment of step 4, to the next stripe's X_ORIGIN. -/
def stepWords (s : State) (e : StripeEntry) : SegWords := ⟨e.xOrigin, 0, s.mot.limB.1, s.mot.limB.2.1, s.mot.limB.2.2⟩

/-- This module drives the stage: MASTER, or a single module (R287, R303). -/
def isMaster (s : State) : Bool := masterBit s || decide (fget s Reg.COH_CFG_MEMBERS ≤ 1)

/-- Channels A and B emit: a module that is no master leaves them silent while a job is loaded (R287). -/
def stageEmits (s : State) : Bool := isMaster s || !jobLoaded s

/-- The next stripe after the one at the list position in force. -/
def nextStripe (s : State) : Option StripeEntry :=
  if s.flow.job = .stripe then stripeAt s (s.prog.cur + 1) else stripeAt s s.prog.cur

/-- Firmware positions the resting stage for the next stripe (steps 4 and 5 of Table 11-5; before the first stripe of a
job: DEDUCED, log entry 14). -/
def positionStage (s : State) : State :=
  if !isMaster s || s.flow.mode != .write || s.armed.isSome || (s.mot.step != 0 && s.mot.step != 6) then s
  else match nextStripe s with
    | none => s
    | some e =>
      let s := if chanQuiet s 0 && (chan s 0).rest != Dy.ofInt (approachStart s e) && chanMode s 0 == 1 then
          { firmwareSegment 0 (repositionWords s e) s with mot := { (firmwareSegment 0 (repositionWords s e) s).mot with step := 5 } }
        else s
      if chanQuiet s 1 && (chan s 1).rest != Dy.ofInt e.xOrigin && chanMode s 1 == 1 then firmwareSegment 1 (stepWords s e) s else s

/-! ## The traverses of LOCATE (R257, R287; log entry 144) -/

/-- The limits firmware uses on channel A or B. -/
def stageLimits (s : State) (n : Nat) : Nat × Nat × Nat := if n = 0 then s.mot.limA else s.mot.limB

/-- The speed of a traverse, one pixel for each check Bell of 3,200 ns, in 32.32 counts per µs. -/
def traverseSpeed (s : State) : Nat := s.health.pix * 10 * 2 ^ 27

/-- Stage counts of an array offset over the edge of channel `n`: Y is channel A, X channel B. -/
def edgeAt (s : State) (n : Nat) (px : Int) : Int :=
  fint s (if n = 0 then Reg.BHM_EDGE_Y_COUNTS else Reg.BHM_EDGE_X_COUNTS) + px * s.health.pix

/-- The last offset of a traverse. -/
def lastOffset (n : Nat) : Int := if n = 0 then 4111 else 32783

/-- The distance in which the traverse speed is reached, in whole counts. -/
def runUp (s : State) (n : Nat) : Int :=
  let q := stageLimits s n
  ((⟨wordDy q.1 32, wordDy q.2.1 48, wordDy q.2.2 64⟩ : Limits).dist Dy.zero (wordDy (traverseSpeed s) 32)).ceil

/-- A segment of a traverse. -/
def traverseSeg (s : State) (n : Nat) (target : Int) (vEnd vMax : Nat) : SegWords :=
  ⟨target, vEnd, vMax, (stageLimits s n).2.1, (stageLimits s n).2.2⟩

/-- The four segments: to the start of the run-up, the run-up, the traverse, and the stop. -/
def locateStart (s : State) (n : Nat) : Int := edgeAt s n (-16) - runUp s n
def locateWords (s : State) (n : Nat) : Nat → SegWords
  | 11 => traverseSeg s n (locateStart s n) 0 (stageLimits s n).1
  | 12 => traverseSeg s n (edgeAt s n (-16)) (traverseSpeed s) (traverseSpeed s)
  | 13 => traverseSeg s n (edgeAt s n (lastOffset n)) (traverseSpeed s) (traverseSpeed s)
  | _ => traverseSeg s n (edgeAt s n (lastOffset n) + runUp s n) 0 (traverseSpeed s)

/-- The channel that the traverse asked for next moves: B for X, then A for Y. -/
def locateChan (s : State) : Option Nat :=
  if s.health.asked.contains .locateX then some 1 else if s.health.asked.contains .locateY then some 0 else none

/-- This module carries the traverse of channel `n`. -/
def carries (s : State) (n : Nat) : Bool := isMaster s && chanMode s n == 1

/-- Firmware puts a step of the choreography in force with its segment. -/
def commitStep (n k : Nat) (w : SegWords) (s : State) : State := firmwareSegment n w { s with mot := { s.mot with step := k } }

/-- Firmware moves the resting stage to the start of the next traverse, and then starts its run-up. -/
def positionLocate (s : State) : State :=
  match locateChan s with
  | none => s
  | some n =>
    if !s.mot.locate || !modeIn s [.hold, .service] || s.health.run.isSome || !carries s n || !chanQuiet s n ||
        (s.mot.step != 0 && s.mot.step != 6) then s
    else if (chan s n).rest = Dy.ofInt (locateStart s n) then commitStep n 12 (locateWords s n 12) s
    else commitStep n 11 (locateWords s n 11) s

/-! ## The steps of Table 11-5 -/

/-- The choreography drives the segments of channel `n`. -/
def choreoOwns (s : State) (n : Nat) : Bool :=
  (n == 0 || (n == 1 && decide (11 ≤ s.mot.step))) && fbit s (Reg.MOT_CH_STATUS_OWNED n) && isMaster s

/-- A segment has started from rest: firmware commits the one after it. -/
def choreoStarts (n : Nat) (s : State) : State :=
  match s.mot.step, stripeAt s s.prog.cur with
  | 1, some e => firmwareSegment 0 (scanWords s e) s
  | 12, _ => firmwareSegment n (locateWords s n 13) s
  | _, _ => s

/-- A segment has followed another: the next step of Table 11-5 is in force, and firmware commits the one after it. -/
def choreoFollows (n : Nat) (s : State) : State :=
  match s.mot.step, stripeAt s s.prog.cur with
  | 1, some e => commitStep 0 2 (stopWords s e) { s with prog := { s.prog with speed := true } }
  | 2, _ =>
    let s := { s with mot := { s.mot with step := 3 } }
    match nextStripe s, (chan s 0).seg with
    | some e, some g => if g.target = Dy.ofInt (approachStart s e) then s else firmwareSegment 0 (repositionWords s e) s
    | _, _ => s
  | 3, _ => { s with mot := { s.mot with step := 5 } }
  | 12, _ => commitStep n 13 (locateWords s n 14) s
  | 13, _ => { s with mot := { s.mot with step := 14 } }
  | _, _ => s

/-- A segment has come to rest: after steps 3 and 5, and after those of a traverse, the stage waits. -/
def choreoRests (s : State) : State :=
  if [3, 5, 11, 14].contains s.mot.step then { s with mot := { s.mot with step := 6 } } else s

/-- The planned segment of a resting channel starts at a parameter tick (R293). -/
def startAtTick (n : Nat) (s : State) : State :=
  let c := chan s n
  match c.seg, c.plan with
  | none, some g =>
    if !chanPending s n then s
    else
      let s := swapSegment n g (Dy.ofInt (timeE s)) (turnDir n g (Dy.ofInt (timeE s)) s)
      if !choreoOwns s n then s else if (chan s n).seg.isNone then choreoRests s else choreoStarts n s
  | _, _ => s

/-- A planned segment follows the one that ended, at its end. -/
def segmentNext (n : Nat) (own : Bool) (q : Segment) (t : Dy) (s : State) : State :=
  let s := swapSegment n q t (turnDir n q t s)
  if own then choreoFollows n s else s

/-- No segment follows: the channel rests when the one that ended came to rest, and underruns otherwise (R293). -/
def segmentLast (n : Nat) (own : Bool) (g : Segment) (s : State) : State :=
  if g.vEnd.isZero then
    if own then choreoRests (comeToRest n g.target s) else comeToRest n g.target s
  else
    motionFault (fput (Reg.MOT_CH_STATUS_REJECT n) rejUnderrun
      (startProfile n (stopProfile (actLimits s n) ⟨g.target, g.vEnd, Dy.zero⟩ g.endNs) stStopping (cancelCommit n s)))

/-- The segment in progress ends at its time. -/
def segmentOver (n : Nat) (g : Segment) (s : State) : State :=
  let own := choreoOwns s n
  match (chan s n).plan with
  | some q => segmentNext n own q g.endNs s
  | none => segmentLast n own g s

/-- The end of a segment in motion (R293). -/
def segmentEnd (n : Nat) (s : State) : State :=
  match (chan s n).seg with
  | none => s
  | some g => if chanState s n ≠ stMoving then s else segmentOver n g (runTo (unsigned 48 g.endNs.ceil) s)

/-- SEGMENT_SWAP: the segment end at which a planned COMMIT swaps. -/
def execSegmentSwap (ch : Fin 6) (s : State) : Res :=
  .next (if (chan s ch.val).plan.isSome then segmentEnd ch.val s else s)

/-- SEGMENT_END. -/
def execSegmentEnd (ch : Fin 6) (s : State) : Res := .next (segmentEnd ch.val s)

/-- A stop profile ends, and the channel rests where it stands (R293). -/
def stopProfileEnd (n : Nat) (s : State) : State :=
  match (chan s n).seg with
  | none => s
  | some g =>
    if chanState s n = stStopping then
      let s := comeToRest n g.target (runTo (unsigned 48 g.endNs.ceil) s)
      if choreoOwns s n then choreoRests s else s
    else s

/-- STOP_PROFILE_END. -/
def execStopProfileEnd (ch : Fin 6) (s : State) : Res := .next (stopProfileEnd ch.val s)

/-- MOT_CMD.STOP (R293). -/
def motionStop (mask : BitVec 6) (s : State) : State :=
  (List.range 6).foldl (fun s n => if mask.getLsbD n then stopChan n s else s) s

/-- MOTION_STOP. -/
def execMotionStop (mask : BitVec 6) (s : State) : Res := .next (motionStop mask s)

/-- MOT_CMD.CLEAR on one channel (R300). -/
def clearChan (n : Nat) (s : State) : State :=
  if chanState s n = stStalled then
    comeToRest n (Dy.ofInt (chan s n).count) (fput (Reg.MOT_CH_STATUS_STALL_RUN n) 0 s)
  else s

/-- A channel is STALLED. -/
def anyStalled (s : State) : Bool := (List.range 6).any fun n => chanState s n == stStalled

/-- MOT_CMD.CLEAR (R300); the Hold cause of a stall ends with the last stalled channel. -/
def motionClear (mask : BitVec 6) (s : State) : State :=
  let s := (List.range 6).foldl (fun s n => if mask.getLsbD n then clearChan n s else s) s
  if anyStalled s || (s.ev.bits.getLsbD Ev.MOTION_FAULT) then s else clearCause 11 s

/-- MOTION_CLEAR. -/
def execMotionClear (mask : BitVec 6) (s : State) : Res := .next (motionClear mask s)

/-! ## The set-point stream (R294, R295) -/

/-- The module controls the axes (R295). -/
def servoRun (s : State) : Bool := rwhs s && fbit s Reg.MOT_SP_CFG_EN

/-- Channels present in a frame (Table 11-4). -/
def framedChannels (s : State) : List Nat :=
  (List.range 6).filter fun n =>
    fbitAt s Reg.MOT_SP_CFG_MASK n && chanMode s n == 1 && s.flow.mode != .boot && (decide (2 ≤ n) || stageEmits s)

/-- A set-point frame for the positions at counter time `e` (Table 11-4). -/
def setPointFrame (s : State) (e : Int) : List Byte :=
  let chs := framedChannels s
  let fault := s.flow.mode == .boot || s.ev.bits.getLsbD Ev.MOTION_FAULT || anyStalled s
  let mask := (chs.map (2 ^ ·)).foldl (· + ·) 0
  let pos := fun n => leBytes 6 (unsigned 48 ((((Dy.ofInt 512).mul (chanPos s n e)).add (Dy.ofInt 1)).mul ⟨1, 1⟩).floor)
  let body := [0x5A, BitVec.ofNat 8 s.mot.fseq, BitVec.ofNat 8 ((if servoRun s then 1 else 0) + (if fault then 2 else 0)),
    BitVec.ofNat 8 mask] ++ chs.flatMap pos
  body ++ leBytes 2 (crcOf crc16 body)

/-- The first servo tick after the present counter time (R294). -/
def nextServoTick (s : State) : Int :=
  let per : Int := actServoUs s * 1000
  s.mot.phase + per * (Int.fdiv ((timeE s : Int) - s.mot.phase) per + 1)

/-- A servo tick: the counter is at it, MOT_CH_n_POS take floor(p), and a frame starts unless the motion generator is
off (R291, R294, R295). -/
def servoTick (s : State) : State :=
  let t := nextServoTick s
  let s := runTo (unsigned 48 t) s
  if s.flow.mode == .rest || !powered s Dom.GATH then s
  else
    let s := (List.range 6).foldl (fun s n =>
      rset64 (Reg.MOT_CH_POS_L n) (Reg.MOT_CH_POS_H n) (unsigned 64 (chanPos s n t).floor) s) s
    if outputsHeld s Dom.GATH then s
    else { s with mot := { s.mot with frame := setPointFrame s (t + actServoUs s * 1000), fseq := (s.mot.fseq + 1) % 256 } }

/-- SERVO_TICK. -/
def execServoTick (s : State) : Res := .next (servoTick s)

/-! ## Steps and stalls (R296 to R300) -/

/-- The output count of a step channel at a position: floor(p + 1/2) (R296). -/
def outCount (p : Dy) : Int := ((p.mul (Dy.ofInt 2)).add (Dy.ofInt 1)).mul ⟨1, 1⟩ |>.floor

/-- Where the known motion of a channel ends: the position and the time, in ns. -/
def motionEnd (s : State) (n : Nat) : Dy × Dy :=
  let c := chan s n
  match c.seg with
  | none => (c.rest, Dy.zero)
  | some g => match c.plan with
    | some q => (q.target, g.endNs.add (q.dur.mul (Dy.ofInt 1000)))
    | none =>
      if g.vEnd.isZero then (g.target, g.endNs)
      else
        let st := stopProfile (actLimits s n) ⟨g.target, g.vEnd, Dy.zero⟩ g.endNs
        (st.target, st.endNs)

/-- The least number above `lo`, up to `hi`, from which `p` holds. -/
def leastFrom (p : Nat → Bool) : Nat → Nat → Nat → Nat
  | 0, _, hi => hi
  | n + 1, lo, hi =>
    if hi ≤ lo + 1 then hi
    else if p ((lo + hi) / 2) then leastFrom p n lo ((lo + hi) / 2) else leastFrom p n ((lo + hi) / 2) hi

/-- The output count has come as far as `c`, half a 0.4 ns cycle after the start of cycle `k`. -/
def countReached (s : State) (n : Nat) (up : Bool) (c : Int) (k : Nat) : Bool :=
  let now := outCount (chanKin s n (2 * k + 1)).p
  if up then decide (c ≤ now) else decide (now ≤ c)

/-- The crossing time of the next step, rounded to a 0.4 ns cycle, and its direction; none while the known motion asks for
no step (R296). -/
def stepCrossing (s : State) (n : Nat) : Option (Nat × Bool) :=
  let c := (chan s n).count
  let goal := outCount (motionEnd s n).1
  if goal = c then none
  else
    let up := decide (c < goal)
    let reached := countReached s n up (if up then c + 1 else c - 1)
    match (chan s n).seg with
    | none => some (0, up)
    | some g =>
      let lo := (((Dy.ofInt 5).mul g.start).floor / 2).toNat
      let hi := (((Dy.ofInt 5).mul (motionEnd s n).2).ceil / 2 + 2).toNat
      some (if reached lo then lo else leastFrom reached 128 lo hi, up)

/-- The cycle at which the next step rises: its crossing, not before DIR_SETUP_NS after a change of DIRN_n, nor before
2 × PULSE_NS after the step before it (R297). -/
def stepCycle (s : State) (n : Nat) (cross : Nat) : Nat :=
  let c := chan s n
  max cross (max (match c.dirAt with | some d => d + (5 * fget s Reg.MOT_STEP_DIR_SETUP_NS + 1) / 2 | none => 0)
    (match c.lastStep with | some l => l + 5 * actPulseNs s | none => 0))

/-- One step of a step channel (R296, R297): the counter has come to its time, and its count moves by one. -/
def stepPulse (n : Nat) (s : State) : State :=
  if chanMode s n ≠ 2 ∨ chanState s n = stStalled ∨ !(rwhs s) ∨ outputsHeld s Dom.GATH then s
  else match stepCrossing s n with
    | none => s
    | some (cross, up) =>
      let k := stepCycle s n cross
      updChan n (fun c => { c with count := if up then c.count + 1 else c.count - 1, lastStep := some k })
        (runTo (2 * k / 5 % 2 ^ 48) s)

/-- STEP_PULSE. -/
def execStepPulse (ch : Fin 6) (s : State) : Res := .next (stepPulse ch.val s)

/-- round(65,536 cos n°) for n = 0 to 89 (R299). -/
def cosTable : List Nat :=
  [65536, 65526, 65496, 65446, 65376, 65287, 65177, 65048, 64898, 64729, 64540, 64332, 64104, 63856, 63589] ++
  [63303, 62997, 62672, 62328, 61966, 61584, 61183, 60764, 60326, 59870, 59396, 58903, 58393, 57865, 57319] ++
  [56756, 56175, 55578, 54963, 54332, 53684, 53020, 52339, 51643, 50931, 50203, 49461, 48703, 47930, 47143] ++
  [46341, 45525, 44695, 43852, 42995, 42126, 41243, 40348, 39441, 38521, 37590, 36647, 35693, 34729, 33754] ++
  [32768, 31772, 30767, 29753, 28729, 27697, 26656, 25607, 24550, 23486, 22415, 21336, 20252, 19161, 18064] ++
  [16962, 15855, 14742, 13626, 12505, 11380, 10252, 9121, 7987, 6850, 5712, 4572, 3430, 2287, 1144]

/-- COS (R299). -/
def stallCos (s : State) : Nat := cosTable.getD (actAngle s) 0

/-- Microsteps per full step (R298). -/
def msteps (s : State) (n : Nat) : Nat := 2 ^ min 8 (bits (chanCfg s n).toNat 7 4)

/-- q of R298. -/
def stallQ (s : State) (n : Nat) : Nat :=
  (((chan s n).count - bits (chanCfg s n).toNat 15 8) % (4 * msteps s n : Nat)).toNat

/-- The sense input sampled at q: phase A where it is MSTEPS or 3 × MSTEPS, phase B where it is 0 or 2 × MSTEPS
(R298, Table 11-1). -/
def senseInput (s : State) (n : Nat) : Nat := 2 * (n - 2) + (if stallQ s n / msteps s n % 2 = 1 then 0 else 1)

/-- Sense inputs that BHM_CAL_CFG.CHAN selects turn stall detection off for their channel (R300). -/
def senseOff (s : State) (n : Nat) : Bool :=
  let c := fget s Reg.BHM_CAL_CFG_CHAN
  decide (2 ≤ n ∧ c / 2 = n - 2)

/-- A sample code with the ADC calibration of Beam Health applied (R265, R299). -/
def calibrated (s : State) (input code : Nat) : Int :=
  match s.health.adcCal[input]? with
  | some (off, gain) => max 0 (min 65535 (rndDiv ((code - off) * gain) 1000000))
  | none => code

/-- A channel stalls (R300): output stops, no stop profile, STALLED, the pending COMMIT is cancelled, channels A and B
stop (R304), and with HOLD_ON_STALL and a job loaded a Hold is requested. -/
def stallChan (n : Nat) (s : State) : State :=
  let hold := (chanCfg s n).getLsbD 3
  let s := cancelCommit n s
  let s := updChan n (fun c => { c with seg := none, rest := Dy.ofInt c.count }) s
  let s := raise Ev.STALL (fput (Reg.MOT_CH_STATUS_STATE n) stStalled s)
  let s := stopStage s
  if hold && jobLoaded s then requestHold 11 s else s

/-- The commanded step rate in full steps per second, as an integer: the planned speed, rounded down (R299; DEDUCED, log
entry 145). -/
def stepRate (s : State) (n : Nat) : Nat :=
  ((chanKin s n (5 * timeE s)).v.abs.mul ⟨1000000, min 8 (bits (chanCfg s n).toNat 7 4)⟩).floor.toNat

/-- MOT_STALL.DELAY_US has passed since the step that reached the present position (R298). -/
def sampleDue (s : State) (n : Nat) : Bool :=
  match (chan s n).lastStep with
  | some l => decide (2 * l + 5000 * fget s Reg.MOT_STALL_DELAY_US ≤ 5 * timeE s)
  | none => false

/-- A back-EMF sample at a zero-current position, at counter time `t` in ns (R298, R299, R300). -/
def stallSample (n : Nat) (skipped : Bool) (code t : Nat) (s : State) : State :=
  let k := bits (chanCfg s n).toNat 31 16
  if chanMode s n ≠ 2 ∨ chanState s n = stStalled ∨ k = 0 ∨ skipped ∨ senseOff s n ∨
      stallQ s n % msteps s n ≠ 0 ∨ sampleDue (runTo t s) n = false then s
  else
    let s := runTo t s
    let rate := stepRate s n
    let c := calibrated s (senseInput s n) code
    let low := decide ((c - 32768).natAbs * 256000 * 65536 < k * rate * stallCos s)
    if fget s Reg.MOT_STALL_FMIN_RATE ≤ rate ∧ low then
      let run := fget s (Reg.MOT_CH_STATUS_STALL_RUN n) + 1
      let s := fputSat (Reg.MOT_CH_STATUS_STALL_RUN n) run s
      if actStallSteps s ≤ run then stallChan n s else s
    else fput (Reg.MOT_CH_STATUS_STALL_RUN n) 0 s

/-- STALL_SAMPLE. -/
def execStallSample (ch : Fin 6) (skipped : Bool) (code t : Nat) (s : State) : Res :=
  .next (stallSample ch.val skipped code t s)

/-! ## Ownership (R287, R301) -/

/-- Channels A and B are owned by firmware, which takes their limits from the active segments. -/
def ownStage (s : State) : State :=
  let a := segWords s (Reg.MOT_CH_ACT_TARGET_LO 0)
  let b := segWords s (Reg.MOT_CH_ACT_TARGET_LO 1)
  let s := { s with mot := { s.mot with limA := (a.vMax, a.aMax, a.jMax), limB := (b.vMax, b.aMax, b.jMax), step := 0 } }
  fput (Reg.MOT_CH_STATUS_OWNED 0) 1 (fput (Reg.MOT_CH_STATUS_OWNED 1) 1 s)

/-- Channels A and B return to host software. -/
def disownStage (s : State) : State :=
  fput (Reg.MOT_CH_STATUS_OWNED 0) 0 (fput (Reg.MOT_CH_STATUS_OWNED 1) 0 { s with mot := { s.mot with step := 0, locate := false } })

end Sys2Proof.Machine
end

