-- ==== Sys2Proof/Machine/Window.lean ====
section
/-!
DEFINITION. The band lead (R146 to R148) and the Window filler (R161 to R167).
-/

namespace Sys2Proof.Machine

/-! ## The band lead -/

/-- Bands of the job from the stripe at position `k` on. -/
def bandsFrom (k : Nat) (s : State) : Nat :=
  match s.job with
  | some j => ((j.stripes.drop k).map fun e => e.h / 256).foldl (· + ·) 0
  | none => 0

/-- Bands of the job that remain to be loaded into a Window (R148). -/
def bandsToLoad (s : State) : Nat :=
  match s.win.stripeIdx with
  | some i => bandsFrom i s - (Int.fdiv (max 0 s.win.next) 256).toNat
  | none => bandsFrom s.prog.cur s

/-- The band lead is taken anew (R147): the register, its lowest value, the probe, and LEAD_LOW when it falls below
RAS_LEAD_WARN.BANDS while at least so many of the job's bands, of which `left` remain, are still to be loaded (R148). -/
def leadTo (left : Nat) (s : State) : State :=
  let old := fget s Reg.RAS_BAND_LEAD_BANDS
  let lead := s.ras.ring.length
  let warn := fget s Reg.RAS_LEAD_WARN_BANDS
  if lead = old then s
  else
    let s := sample Src.bandLead [lead] (fmin Reg.RAS_LEAD_MIN_BANDS lead (fput Reg.RAS_BAND_LEAD_BANDS lead s))
    raiseIf (decide (lead < warn ∧ warn ≤ old ∧ warn ≤ left)) Ev.LEAD_LOW s

/-- The band lead is taken anew. -/
def leadSync (s : State) : State := leadTo (bandsToLoad s) s

/-! ## Opening (R162, R167) -/

/-- The Window opens for the stripe at position `i`: G_W is sampled, every ring row is non-resident, and the filler
starts at row −4,096 − G_W. With no such stripe it closes. -/
def openWindow (i : Nat) (s : State) : State :=
  match stripeAt s i with
  | none => { s with win := Window.closed }
  | some _ =>
    let g := actGuard s
    { s with win := ⟨some i, g, -4096 - g, -4096 - g, [], -4⟩ }

/-- Gather of the last shot of a stripe has completed: the Window opens for the next entry of the list (R167). -/
def windowAfterGather (stripeIdx : Nat) (n : Int) (s : State) : State :=
  match stripeAt s stripeIdx with
  | some e => if n = 4095 + e.h ∧ s.win.stripeIdx = some stripeIdx then openWindow (stripeIdx + 1) s else s
  | none => s

/-- GATHER_COMPLETE: the margins of the shot, and the next Window after shot S − 1. -/
def execGatherComplete (shot : Int) (margins : List Nat) (s : State) : Res :=
  .next (match s.shots.find? (fun sh => sh.shot == shot && !sh.gathered) with
    | some sh => windowAfterGather sh.stripeIdx shot (gatherComplete shot margins s)
    | none => s)

/-! ## Rows (R164, R165) -/

/-- The byte address of a unit of a ring slot: tile column `i`, row `v` of the band (R144). -/
def ringUnit (slot v i : Nat) : Nat := ((region Rgn.band).lo + 8519680 * slot + 4096 * (520 * (v / 64) + i) + 64 * (v % 64)) / 64

/-- The dose bytes of row `v` of a band, as Window keys of ring row `r`. -/
def bandRow (b : Band) (v r : Nat) : List (Nat × Nat) :=
  b.dose.filterMap fun (off, t) =>
    let tile := off / 4096
    if tile / 520 = v / 64 ∧ off % 4096 / 64 = v % 64 then some (r * 33280 + (tile % 520) * 64 + off % 64, t) else none

/-- A band that the filler can read: in the ring, or loaded before and still standing in its slot, where the Window was
opened again since (log entry 18). -/
def finishedBand (s : State) (i j : Nat) : Option Band :=
  (s.ras.ring ++ s.ras.released).find? fun b => b.stripeIdx == i && b.band == j

/-- The filler may write its next row now: the ring row is free (R165), the stripe needs the row, and its band is
finished (R166). -/
def rowMayLoad (s : State) (e : StripeEntry) (i : Nat) : Bool :=
  let v := s.win.next
  let g : Int := s.win.guard
  decide (v ≤ e.h + 4096 + g ∧ (v - 512 + g < 0 ∨ v - 512 + g ≤ s.win.gathered)) &&
  (decide (v < 0 ∨ (e.h : Int) ≤ v) || (finishedBand s i (v / 256).toNat).isSome)

/-- Row `v` becomes resident with these bytes, its words written anew but for the poisoned ones; the row 4,608 before it
is no longer held. -/
def placeRow (v : Int) (bytes : List (Nat × Nat)) (bad : List Nat) (s : State) : State :=
  let r := ringRow v
  let w := s.win
  let s := writeSram (winWord r 0) 4160 s
  { s with
    ecc := { s.ecc with sram := s.ecc.sram.putAll bad .poisoned }
    win := { w with
      next := v + 1, low := max w.low (v - 4607)
      bytes := bytes ++ w.bytes.filter fun p => p.1 / 33280 != r } }

/-- The last row of a band is resident: its slot is released (R146, R165). -/
def releaseBand (b : Band) (s : State) : State :=
  if s.ras.ring.contains b then
    leadSync { s with ras := { s.ras with ring := s.ras.ring.filter (· != b), released := s.ras.released ++ [b] } }
  else s

/-- A row of the stripe is read from its band's slot; a unit that ends in a bus error is written as poisoned
(Table 13-2). The age of the request is a free value (R498, R311). -/
def loadRow (b : Band) (v : Nat) (s : State) : State :=
  let units := (List.range 520).map (ringUnit b.slot (v % 256))
  let bad := (List.range 520).filter fun i => unitBad s (ringUnit b.slot (v % 256) i)
  let s := units.foldl (fun s u => readUnit Port.windowFill u s) (countUrgent Port.windowFill 520 s)
  let r := ringRow v
  let s := placeRow v (bandRow b (v % 256) r) (bad.flatMap fun i => (List.range 8).map (winWord r (64 * i) + ·)) s
  let s := sampleFree Src.windowFill 520 s
  if v % 256 = 255 then releaseBand b s else s

/-- The window filler writes its next row (R164 to R166). -/
def windowRow (s : State) : State :=
  match s.win.stripeIdx with
  | none => s
  | some i =>
    match stripeAt s i with
    | none => s
    | some e =>
      if !powered s Dom.GATH || !rowMayLoad s e i then s
      else
        let v := s.win.next
        if v < 0 ∨ (e.h : Int) ≤ v then placeRow v [] [] s
        else match finishedBand s i (v / 256).toNat with
          | some b => loadRow b v.toNat s
          | none => s

end Sys2Proof.Machine
end

