-- ==== Sys2Proof/Machine/Raster.lean ====
section
/-!
DEFINITION. The rasterizer and correction engine (R130 to R153): starting and finishing bands, tile densities, dose
factors, finalization, and the rejection of bands (R102).
-/

namespace Sys2Proof.Machine

/-! ## Stripe data -/

/-- What the rasterizer holds of a stripe before any block of it: the header's class table, nothing complete. -/
def StripeData.fresh (s : State) (i : Nat) : StripeData :=
  ⟨i, match s.job with | some j => j.classes | none => [], [], [], none, [], false, [], 0, [], none⟩

/-- The data of the stripe at position `i`. -/
def stripeData (s : State) (i : Nat) : StripeData :=
  (s.ras.stripes.find? fun d => d.stripeIdx == i).getD (StripeData.fresh s i)

/-- Change the data of a stripe. -/
def updStripe (i : Nat) (f : StripeData → StripeData) (s : State) : State :=
  { s with ras := { s.ras with stripes := (s.ras.stripes.filter fun d => d.stripeIdx != i) ++ [f (stripeData s i)] } }

/-- Some class of the stripe's table has PEC set (R134). -/
def StripeData.active (d : StripeData) : Bool := d.classes.any (·.pec)

/-- Band `j` of the stripe is logged RENDER_REJECT. -/
def StripeData.isRejected (d : StripeData) (j : Nat) : Bool := d.rejected.contains j

/-! ## The geometry queue (R118) -/

/-- KiB of the geometry queue reserved or held. -/
def queueUsed (s : State) : Nat :=
  (s.ras.geoms.map (·.queueKib)).foldl (· + ·) 0 + (s.ingest.blocks.map (·.queueKib)).foldl (· + ·) 0

/-- SKV_QUEUE_FREE follows the queue. -/
def queueSync (s : State) : State := fput Reg.SKV_QUEUE_FREE_KIB (2097152 - queueUsed s) s

/-! ## Rejected bands (R102, R137, R273) -/

/-- Runs of consecutive numbers in a rising list. -/
def numberRuns : List Nat → List (Nat × Nat)
  | [] => []
  | n :: ns =>
    match numberRuns ns with
    | (a, b) :: rest => if a = n + 1 then (n, b) :: rest else (n, n) :: (a, b) :: rest
    | [] => [(n, n)]

/-- The key of a tile's density: stripe position, tile row of the stripe, tile column. -/
def densityKey (i row col : Nat) : Nat := (i * 4194304 + row) * 520 + col

/-- The stripe position and band of a density key. -/
def densityBand (k : Nat) : Nat × Nat := (k / 520 / 4194304, k / 520 % 4194304 / 4)

/-- Bands `bs` of the stripe at position `i` are logged RENDER_REJECT: their rows at once (R273), their densities 0 from
here on (R137). -/
def rejectBands (i : Nat) (bs : List Nat) (s : State) : State :=
  match stripeAt s i with
  | none => s
  | some e =>
    let new := bs.filter fun j => decide (j < e.h / 256) && !(stripeData s i).isRejected j
    let s := updStripe i (fun d => { d with rejected := d.rejected ++ new }) s
    let s := { s with ras := { s.ras with density := s.ras.density.filter fun p =>
        !((densityBand p.1).1 == i && new.contains (densityBand p.1).2) } }
    (numberRuns new).foldl (fun s r =>
      absLogRows e.layer e.stripe (4095 + e.h) (jobTag s) (rget s Reg.GTH_PSET_SEQ) (256 * r.1) (256 * r.2 + 255) s) s

/-! ## Rendering (R130 to R137, R146, R149 to R152) -/

/-- Everything drawn in band `j` of a stripe (R84). -/
def bandDrawn (s : State) (i j : Nat) : List Drawn :=
  (s.ras.geoms.filter fun g => g.stripeIdx == i).flatMap fun g => g.drawn s.cache.cells j

/-- The shapes of one class. -/
def classShapes (ds : List Drawn) (c : Nat) : List Shape := (ds.filter fun d => d.cls == c).map fun d => ⟨d.segs, d.clip⟩

/-- d_c (R133). -/
def classDose (base cov : Nat) : Nat := (base * cov + 127) / 255

/-- The largest d_c at a pixel over the classes whose PEC flag is `pec` (R133). -/
def pixelDose (classes : List DoseClass) (shapes : Nat → List Shape) (pec : Bool) (x v : Int) : Nat :=
  (classes.zipIdx.map fun (k, c) => if k.pec = pec then classDose k.base (coverage (shapes c) x v) else 0).foldl max 0

/-- w or v over a band: the pixels that hold one above 0, by row × 33,280 + column. -/
def bandDoses (classes : List DoseClass) (ds : List Drawn) (j : Nat) (pec : Bool) : List (Nat × Nat) :=
  if ds.isEmpty then []
  else (List.range (256 * 33280)).filterMap fun k =>
    let d := pixelDose classes (classShapes ds) pec ((k % 33280 : Nat) - 256 : Int) (256 * j + k / 33280 : Nat)
    if d = 0 then none else some (k, d)

/-- The density of tile (i, m) from the w of its band (R135). -/
def tileDensity (w : List (Nat × Nat)) (m i : Nat) : Nat :=
  let sum := (w.map fun (k, d) => if k / 33280 / 64 = m ∧ k % 33280 / 64 = i then d else 0).foldl (· + ·) 0
  (255 * sum + 507904) / 1015808

/-- The mark of a tile whose density could not be read (Table 13-2). -/
abbrev unreadableDensity : Nat := 256

/-- Densities of a rendered band (R135 to R137), with margin overrides and unreadable tiles. -/
def bandDensity (d : StripeData) (p : Pending) : List (Nat × Nat) :=
  if d.isRejected p.band then []
  else (List.range 2080).filterMap fun k =>
    let m := k / 520
    let i := k % 520
    let row := 4 * p.band + m
    let v := if p.unreadable.contains k then unreadableDensity
      else if i < 4 ∨ 516 ≤ i then (d.margin.lookup (row * 520 + i)).getD (tileDensity p.w m i)
      else tileDensity p.w m i
    if v = 0 then none else some (densityKey p.stripeIdx row i, v)

/-- The rasterizer works: RAST is powered and a job is loaded, in Write and Hold (Table 2-3). -/
def rasterOn (s : State) : Bool := powered s Dom.RAST && s.job.isSome && (s.flow.mode == .write || s.flow.mode == .hold)

/-- The next band is complete (R84). -/
def nextComplete (s : State) : Bool :=
  match stripeAt s s.ras.stripeIdx with
  | some e => decide (s.ras.band < e.h / 256 ∧ s.ras.band < (stripeData s s.ras.stripeIdx).complete)
  | none => false

/-- RAS_STATUS.STATE (R153): nothing is rendered outside Write and Hold (Table 2-3). That it reads IDLE while the pending
area or a Rest entry keeps a complete band waiting, and a band that is done does not count as being rendered, is a DESIGN
CHOICE (log entry 58). -/
def rasterSync (s : State) : State :=
  let st := if !rasterOn s then 0 else if s.ras.current.any (·.done != 2080) then 1 else if s.ras.ring.length = 256 then 2
    else if (stripeAt s s.ras.stripeIdx).isNone || nextComplete s then 0 else 3
  fput Reg.RAS_STATUS_STATE st s

/-- The next band may start (R84, R146, R149): it is complete, a slot of the ring is free, the pending area has room, no
rendered band waits for it, and the last tile of the one band before it has started. -/
def bandMayStart (s : State) : Bool :=
  rasterOn s && !resting s && nextComplete s && decide (s.ras.ring.length < 256) && decide (s.ras.pending.length < 2) &&
  decide (s.ras.current.length < 2) && s.ras.current.all fun c => c.started == 2080 && c.done != 2080

/-- The next band starts. Σ of R152 is taken here: a band rejected before then is not drawn (R150). RAS_POS_BAND and
RAS_POS_STRIPE name the band last started (DESIGN CHOICE, log entry 58). -/
def startBand (s : State) : State :=
  match stripeAt s s.ras.stripeIdx with
  | none => s
  | some e =>
    let i := s.ras.stripeIdx
    let j := s.ras.band
    let last := decide (e.h / 256 ≤ j + 1)
    let segs := if (stripeData s i).isRejected j then [] else (bandDrawn s i j).flatMap Drawn.segs
    let s := { s with ras := { s.ras with
      current := s.ras.current ++ [⟨i, j, 0, 0, [], bandBound segs j, 0⟩]
      stripeIdx := if last then i + 1 else i, band := if last then 0 else j + 1 } }
    fput Reg.RAS_POS_BAND_BAND j (fput Reg.RAS_POS_STRIPE_STRIPE e.stripe (fput Reg.RAS_POS_STRIPE_LAYER e.layer s))

/-- The first free cell; of several, that of the lowest number (DESIGN CHOICE, log entry 58). -/
def freeCell (s : State) : Option Nat := s.ras.cells.findIdx? Option.isNone

/-- The next tile of the band being handed out goes to the first free cell (R149). -/
def giveTile (s : State) : State :=
  match freeCell s, s.ras.current.find? fun c => decide (c.started < 2080) with
  | some n, some c => { s with ras := { s.ras with
      cells := s.ras.cells.set n (some (c.stripeIdx, c.band, c.started))
      current := s.ras.current.map fun d => if d.started < 2080 then { d with started := d.started + 1 } else d } }
  | _, _ => s

/-- Free cells take tiles, of the next band too once the last tile of one has started (R149). -/
def fillCells : Nat → State → State
  | 0, s => s
  | n + 1, s =>
    if (freeCell s).isNone then s
    else if s.ras.current.any fun c => decide (c.started < 2080) then fillCells n (giveTile s)
    else if bandMayStart s then fillCells n (startBand s)
    else s

/-- The raster cells take what there is to render. -/
def rasterStart (s : State) : State := rasterSync (if rasterOn s then fillCells 130 s else s)

/-- Geometry whose LAST_BAND has been rendered leaves the queue (R118). -/
def returnQueue (i j : Nat) (s : State) : State :=
  queueSync { s with ras := { s.ras with geoms := s.ras.geoms.filter fun g => !(g.stripeIdx == i && decide (g.lastBand ≤ j)) } }

/-- Where the pending area and the density maps hold a band (log entry 22). -/
def pendingAt (s : State) : Nat :=
  (region Rgn.scratch).lo + 2147483648 + (s.ras.nextSlot + s.ras.pending.length) % 2 * 17039360
def densityStore (i j : Nat) : Nat := (region Rgn.density).lo + i % 512 * 1048576 + j % 252 * 2080
def dmapStore (i : Nat) : Nat := (region Rgn.density).lo + i % 512 * 1048576 + 524288
/-- The byte ranges of `n` bytes of the geometry queue, from KiB `at'` on. -/
def queueParts (at' n : Nat) : List (Nat × Nat) :=
  let lo := (region Rgn.scratch).lo
  let o := at' * 1024
  let k := min n (2147483648 - o)
  (lo + o, k) :: (if k < n then [(lo, n - k)] else [])

/-- The last tile of a band is done: w, v and the densities are formed and stored, and the band waits to be finalized
(R135, R139, R141). -/
def finishBand (c : Render) (rest : List Render) (s : State) : State :=
  let d := stripeData s c.stripeIdx
  let ds := if d.isRejected c.band then [] else bandDrawn s c.stripeIdx c.band
  let p := ⟨c.stripeIdx, c.band, bandDoses d.classes ds c.band true, bandDoses d.classes ds c.band false, c.unreadable, pendingAt s⟩
  let s := writeUnits Port.bandWrite (densityStore c.stripeIdx c.band) 2080 (writeUnits Port.bandWrite (pendingAt s) 17039360 s)
  returnQueue c.stripeIdx c.band { s with ras := { s.ras with
    current := rest, pending := s.ras.pending ++ [p], density := s.ras.density ++ bandDensity d p } }

/-- The oldest band goes to the pending area once all its tiles are done and the area holds fewer than two (R146). -/
def promote (s : State) : State :=
  match s.ras.current with
  | c :: rest => if c.done = 2080 ∧ s.ras.pending.length < 2 then finishBand c rest s else s
  | [] => s

/-- Bands that are done go to the pending area, and the cells go on. -/
def rasterGo (s : State) : State := rasterStart (promote (promote s))

/-- The units of the geometry queue and of cell storage that hold what a band can draw. -/
def drawnUnits (s : State) (i j : Nat) : List Nat :=
  let gs := s.ras.geoms.filter fun g => g.stripeIdx == i && decide (g.firstBand ≤ j ∧ j ≤ g.lastBand)
  gs.flatMap (fun g => (queueParts g.queueAt g.dlen).flatMap fun p => unitsOf p.1 p.2) ++
  if gs.isEmpty then [] else s.cache.cells.flatMap fun c => unitsOf (granuleAt c.storeAt) (c.granules * 64)

/-- A raster cell reads cell storage and the geometry queue for a tile of band `j`: what the reads decode, and a bus error
on either (Table 13-2). Which of the units a tile meets is open (log entry 22). -/
def tileReads (i j : Nat) (s : State) : State × Bool := readSome Port.cellRead (drawnUnits s i j) s

/-- The buffer of a raster cell, in banks 74 to 81, is written (R334, R464). -/
def tileBuffer (cell : Nat) (s : State) : State := writeSram (74 * 262144 + cell * 32768) 32768 s

/-- The cells have finished a band: its cycles, and its budget (R152, R153). -/
def bandCycles (c : Render) (s : State) : State :=
  let s := if fget s Reg.RAS_BUDGET_CYCLES < c.bound then
      raise Ev.OVER_BUDGET (fcount Reg.RAS_OVER_BUDGET_COUNT 1 s) else s
  fputSat Reg.RAS_BAND_CYCLES_CYCLES c.cycles s

/-- Tile `k` of a band is done. -/
def Render.tileDone (c : Render) (k cycles : Nat) (bad : Bool) : Render :=
  { c with done := c.done + 1, cycles := c.cycles + cycles, unreadable := if bad then c.unreadable ++ [k] else c.unreadable }

/-- TILE_COMPLETE: a raster cell finishes its tile after `cycles` core cycles. -/
def tileComplete (cell : Fin 64) (cycles : Nat) (s : State) : State :=
  match s.ras.cells.getD cell.val none with
  | none => s
  | some (i, j, k) =>
    if !rasterOn s then s
    else
      let p := tileReads i j s
      let s := tileBuffer cell.val p.1
      let mine := fun (c : Render) => c.stripeIdx == i && c.band == j
      let s := { s with ras := { s.ras with
        cells := s.ras.cells.set cell.val none
        current := s.ras.current.map fun c => if mine c then c.tileDone k cycles p.2 else c } }
      let s := match s.ras.current.find? fun c => mine c && c.done == 2080 with
        | some c => bandCycles c s
        | none => s
      rasterGo (sample Src.tileCycles [cycles] (fmax Reg.RAS_TILE_MAX_CYCLES cycles s))

/-- TILE_COMPLETE. -/
def execTileComplete (tile : TileDone) (s : State) : Res := .next (tileComplete tile.cell tile.cycles s)

/-- WINDOW_ROW_WRITE: a slot that a row releases lets the rasterizer go on (R146). -/
def execWindowRowWrite (s : State) : Res :=
  .next (if (windowRow s).ras.ring.length < s.ras.ring.length then rasterGo (windowRow s) else windowRow s)

/-! ## Finalization (R134, R138 to R145, R283) -/

/-- Tile rows of the stripe at position `i` (R136). -/
def tileRows (s : State) (i : Nat) : Nat := match stripeAt s i with | some e => e.h / 64 | none => 0

/-- The density of a stripe's tile; outside the stripe 0 (R136). -/
def densityAt (s : State) (i : Nat) (row col : Int) : Nat :=
  if row < 0 ∨ (tileRows s i : Int) ≤ row ∨ col < 0 ∨ 520 ≤ col then 0 else assocD 0 s.ras.density (densityKey i row.toNat col.toNat)

/-- The 81 offsets of the kernel, with the index of the weight (R72). -/
def kernelOffsets : List (Nat × Int × Int) :=
  (List.range 81).map fun k => (k, ((k % 9 : Nat) : Int) - 4, ((k / 9 : Nat) : Int) - 4)

/-- The short-range index of a tile (R138). -/
def shortIndex (s : State) (kernel : List Nat) (i : Nat) (row col : Int) : Nat :=
  let sum := (kernelOffsets.map fun (k, a, b) => kernel.getD k 0 * densityAt s i (row + b) (col + a)).foldl (· + ·) 0
  min 255 ((sum + 32768) / 65536)

/-- The key of a tile's coarse cell (R139). -/
def coarseKey (row col : Nat) : Nat := 64 * row / 4096 * 10 + (Int.fdiv (64 * ((col : Int) - 4)) 4096 + 1).toNat

/-- The long-range index of a tile (R139). -/
def longIndex (d : StripeData) (row col : Nat) : Nat := assocD 0 d.dmap (coarseKey row col) / 4

/-- Some tile within 4 of this one is unreadable (Table 13-2). -/
def nearUnreadable (s : State) (i : Nat) (row col : Int) : Bool :=
  kernelOffsets.any fun (_, a, b) => densityAt s i (row + b) (col + a) == unreadableDensity

/-- The dose factor of a tile (R134, R140). -/
def tileFactor (s : State) (d : StripeData) (row col : Nat) : Nat :=
  match s.job with
  | some j => if d.active then j.factors.getD (64 * shortIndex s j.kernel d.stripeIdx row col + longIndex d row col) 16384 else 16384
  | none => 16384

/-- max(v, T_pec) before saturation (R134). -/
def pixelTarget (w v f : Nat) : Nat := max v ((w * f + 8192) / 16384)

/-- T_mu of a pixel in a MAKEUP rectangle (R283). -/
def makeupDose (t miss l : Nat) : Nat := (2 * min t 248 * miss + l) / (2 * l)

/-- The byte of a pixel's dose in its slot (R144), from row × 33,280 + column. -/
def doseOffset (k : Nat) : Nat :=
  let v := k / 33280
  let c := k % 33280
  4096 * (520 * (v / 64) + c / 64) + 64 * (v % 64) + c % 64

/-- The dose stored for a pixel of a band: limited to the rectangles of a Make-up stripe (R98, R283). -/
def storedDose (e : StripeEntry) (d : StripeData) (j k t : Nat) : Nat :=
  if e.makeup then
    let x := k % 33280
    let v := 256 * j + k / 33280
    match d.makeups.find? fun m => decide (m.x0 + 256 ≤ x ∧ x ≤ m.x1 + 256 ∧ m.v0 ≤ v ∧ v ≤ m.v1) with
    | some m => makeupDose (min 255 t) m.miss m.lsrc
    | none => 0
  else min 255 t

/-- Targets of a band's covered pixels, before saturation. -/
def bandTargets (s : State) (d : StripeData) (p : Pending) : List (Nat × Nat) :=
  ((p.w.map (·.1) ++ (p.v.map (·.1)).filter fun k => !p.w.any fun e => e.1 == k)).map fun k =>
    let row := 4 * p.band + k / 33280 / 64
    (k, pixelTarget (assocD 0 p.w k) (assocD 0 p.v k) (tileFactor s d row (k % 33280 / 64)))

/-- The density-map byte of a tile cannot be read (R139, Table 13-2). -/
def coarseBad (s : State) (i row col : Nat) : Bool := unitBad s ((dmapStore i + coarseKey row col) / 64)

/-- Tiles of a band written poisoned: unreadable ones, and with correction those whose factor an unreadable density or map
byte would enter (Table 13-2). -/
def poisonTiles (s : State) (d : StripeData) (p : Pending) : List Nat :=
  if d.isRejected p.band then []
  else (List.range 2080).filter fun k =>
    p.unreadable.contains k || (d.active && (nearUnreadable s d.stripeIdx (4 * p.band + k / 520 : Nat) (k % 520 : Nat) ||
      coarseBad s d.stripeIdx (4 * p.band + k / 520) (k % 520)))

/-- PEC_PROBE_VAL and PEC_PROBE_F capture the selected tile (R153). The density of an unreadable tile, and the short-range
index and factor of a tile near one, are free values: an unreadable density enters no factor (Table 13-2). -/
def probeTile (d : StripeData) (p : Pending) (s : State) : State :=
  let i := fget s Reg.PEC_PROBE_SEL_I
  let row := 4 * p.band + fget s Reg.PEC_PROBE_SEL_M
  if 519 < i then s
  else
    let own := densityAt s d.stripeIdx row i
    let map := d.active && coarseBad s d.stripeIdx row i
    let bad := own == unreadableDensity || map || (d.active && nearUnreadable s d.stripeIdx row i)
    let f := freeNat s
    let si := if !d.active then 0 else if bad then f / 256 % 256 else
      match s.job with | some j => shortIndex s j.kernel d.stripeIdx row i | none => 0
    let s' := fput Reg.PEC_PROBE_VAL_DENSITY (if own == unreadableDensity then f % 256 else own) s
    let s' := fput Reg.PEC_PROBE_VAL_S_IDX si (fput Reg.PEC_PROBE_VAL_L_IDX
      (if map then f / 2 ^ 32 % 64 else if d.active then longIndex d row i else 0) s')
    let s' := fput Reg.PEC_PROBE_F_FACTOR (if d.active && bad then f / 65536 % 65536 else tileFactor s d row i) s'
    if bad then useFree s' else s'

/-- First byte of a ring slot. -/
def slotBase (slot : Nat) : Nat := (region Rgn.band).lo + 8519680 * slot

/-- The words of tile `k` of a slot. -/
def tileWords (slot k : Nat) : List Nat := (List.range 512).map ((slotBase slot + 4096 * k) / 8 + ·)

/-- The first `n` bytes of a slot are written, the tiles of `bad` as poisoned. -/
def writeSlotBytes (n slot : Nat) (bad : List Nat) (s : State) : State :=
  let s := writeUnits Port.bandWrite (slotBase slot) n s
  { s with ecc := { s.ecc with dram := s.ecc.dram.putAll (bad.flatMap (tileWords slot)) .poisoned } }

/-- The finished band's bytes are written to its slot (R144, R331, R334), the tiles of `bad` as poisoned (Table 13-2). -/
def writeSlot (slot : Nat) (bad : List Nat) (s : State) : State := writeSlotBytes 8519680 slot bad s

/-- Tiles of a rendered band whose w or v cannot be read from the pending area. -/
def pendingBad (s : State) (p : Pending) : List Nat := (List.range 2080).filter fun k => rangeBad s (p.base + 8192 * k) 8192

/-- Tiles of band `j` of a stripe whose density cannot be read: those of a rejected band are 0 and not read (R137). -/
def densityBad (s : State) (d : StripeData) (j : Nat) : List Nat :=
  if d.isRejected j ∨ tileRows s d.stripeIdx ≤ 4 * j then []
  else (List.range 2080).filter fun k => unitBad s ((densityStore d.stripeIdx j + k) / 64)

/-- Tiles of a band count as unreadable, with their densities (Table 13-2). -/
def spoilTiles (i j : Nat) (ks : List Nat) (s : State) : State :=
  { s with ras := { s.ras with density := ks.foldl (fun m k =>
      assocPut m (densityKey i (4 * j + k / 520) (k % 520)) unreadableDensity) s.ras.density } }

/-- The bands whose densities a band's factors take (R138): its own and those beside it. -/
def nearBands (j : Nat) : List Nat := [j - 1, j, j + 1].eraseDups

/-- The correction engine reads the densities and the density map of a stripe for a band, when the stripe uses correction;
its working store is in banks 82 to 85. -/
def readDensities (d : StripeData) (j : Nat) (s : State) : State :=
  let s := writeSram (82 * 262144) (4 * 262144) s
  if !d.active then s
  else
    let i := d.stripeIdx
    let bad := (nearBands j).map fun b => (b, densityBad s d b)
    let s := (nearBands j).foldl (fun s b => if d.isRejected b then s else readUnits Port.bandWrite (densityStore i b) 2080 s) s
    let s := readUnits Port.bandWrite (dmapStore i) (10 * ((tileRows s i + 63) / 64)) s
    bad.foldl (fun s p => spoilTiles i p.1 p.2 s) s

/-- The correction engine reads a band's w and v: the tiles that it cannot read count as unreadable, with their densities
(Table 13-2). A rejected band is not read: its densities are 0 (R137). -/
def readPending (d : StripeData) (p : Pending) (s : State) : State × Pending :=
  if d.isRejected p.band then (readDensities d p.band s, p)
  else
    let bad := pendingBad s p
    let s := readDensities d p.band (readUnits Port.bandWrite p.base 17039360 s)
    (spoilTiles p.stripeIdx p.band bad s, { p with unreadable := p.unreadable ++ bad })

/-- The oldest rendered band may be finalized (R141, R146): band j + 1 is rendered, or it is the stripe's last and the
LAST_OF_STRIPE block has been checked; and a slot is free. -/
def mayFinalize (s : State) (p : Pending) : Bool :=
  decide (s.ras.ring.length < 256) &&
  ((s.ras.pending.any fun q => q.stripeIdx == p.stripeIdx && q.band == p.band + 1) ||
   (match stripeAt s p.stripeIdx with
    | some e => decide (e.h / 256 = p.band + 1) && decide (e.h / 256 ≤ (stripeData s p.stripeIdx).complete)
    | none => false))

/-- The SEQ of the first STRIPE_GEOMETRY block that covers a band (R339). -/
def coverSeq (d : StripeData) (j : Nat) : Option Nat :=
  (d.covers.find? fun c => decide (c.2.1 ≤ j ∧ j ≤ c.2.2.1)).map (·.1)

/-- What a band's covered pixels are stored as, but for the tiles written poisoned: offset in the slot and dose. -/
def bandBytes (e : StripeEntry) (d : StripeData) (j : Nat) (targets : List (Nat × Nat)) : List (Nat × Nat) :=
  targets.filterMap fun (k, t) =>
    let v := storedDose e d j k t
    if v = 0 then none else some (doseOffset k, v)

/-- A band is finalized into the ring (R134, R141 to R145); RAS_SAT counts pixels stored at 255, and so none of a tile
written poisoned. -/
def finalizeBand (p : Pending) (e : StripeEntry) (s : State) : State :=
  let d := stripeData s p.stripeIdx
  let s := fput Reg.PEC_STATUS_ACTIVE (if d.active then 1 else 0) s
  let r := readPending d p s
  let p := r.2
  let s := probeTile d p r.1
  let bad := poisonTiles s d p
  let targets := if d.isRejected p.band then []
    else (bandTargets s d p).filter fun t => !bad.contains (t.1 / 33280 / 64 * 520 + t.1 % 33280 / 64)
  let sat := if e.makeup then 0 else (targets.filter fun t => decide (255 < t.2)).length
  let slot := s.ras.nextSlot
  let s := writeSlot slot bad s
  let s := if sat = 0 then s else raise Ev.RAS_SATURATE (fcount Reg.RAS_SAT_COUNT sat s)
  let s := { s with ras := { s.ras with
    pending := s.ras.pending.drop 1, nextSlot := (slot + 1) % 256
    ring := s.ras.ring ++ [⟨p.stripeIdx, p.band, slot, coverSeq d p.band, bandBytes e d p.band targets⟩]
    released := s.ras.released.filter fun b => b.slot != slot
    density := s.ras.density.filter fun q => !((densityBand q.1).1 == p.stripeIdx && decide ((densityBand q.1).2 < p.band)) } }
  rasterGo (leadSync s)

/-- BAND_FINALIZE. -/
def bandFinalize (s : State) : State :=
  match s.ras.pending with
  | [] => s
  | p :: _ =>
    match stripeAt s p.stripeIdx with
    | some e => if rasterOn s && mayFinalize s p then finalizeBand p e s else s
    | none => s

/-- BAND_FINALIZE. -/
def execBandFinalize (s : State) : Res := .next (bandFinalize s)

end Sys2Proof.Machine
end

