-- ==== Sys2Proof/Machine/Cells.lean ====
section
/-!
DEFINITION. The cell cache (R91, R92, R106, R107, R120 to R127): what a block's cells need, resolving references,
storing cells, the stop when space runs out, eviction and its fence.
-/

namespace Sys2Proof.Machine

/-! ## Sizes -/

/-- Granules of storage (R120): SIZE × 256 MiB less the 64 MiB of the directory. -/
def cacheGranules (s : State) : Nat := s.cache.size * 4194304 - 1048576

/-- Granules held, evicted ones of pending fences included. -/
def granulesUsed (s : State) : Nat := (s.cache.cells.map (·.granules)).foldl (· + ·) 0

/-- Granules awaiting the fence. -/
def granulesPending (s : State) : Nat := (s.cache.fences.map (·.granules)).foldl (· + ·) 0

/-- Free granules. -/
def granulesFree (s : State) : Nat := cacheGranules s - granulesUsed s

/-- SKV_CELLS, SKV_FREE and SKV_PENDING follow the cache (R129). -/
def cacheSync (s : State) : State :=
  let s := fput Reg.SKV_CELLS_ENTRIES s.cache.dir.length s
  fput Reg.SKV_FREE_GRANULES (granulesFree s) (fput Reg.SKV_PENDING_GRANULES (granulesPending s) s)

/-! ## The directory -/

/-- The storage a CELL_ID names, when it is defined and renderable. -/
def lookupCell (s : State) (id : Nat) : Option Cell :=
  match s.cache.dir.lookup id with
  | some (some uid) => cellOf s.cache.cells uid
  | _ => none

/-- Mark CELL_IDs unrenderable; one that is defined and renderable keeps its definition (Table 3-9). A full directory takes
no mark: a DESIGN CHOICE (log entry 158). -/
def markCells (ids : List Nat) (s : State) : State :=
  cacheSync (ids.foldl (fun s id =>
    if (s.cache.dir.lookup id).isSome ∨ 4194304 ≤ s.cache.dir.length then s
    else { s with cache := { s.cache with dir := s.cache.dir ++ [(id, none)] } }) s)

/-! ## Cells of a block -/

/-- A cell definition in a block's records. -/
structure CellDraft where
  id : Nat
  off : Nat
  bbox : Int × Int × Int × Int
  records : List Record
  deriving DecidableEq, Repr

/-- The definitions of a parsed CELLS block (R91), the last one open while `cur` holds it. -/
def draftsOf : List Record → Option CellDraft → List CellDraft
  | [], _ => []
  | r :: rs, cur =>
    if r.typ = Rec.defineCell then draftsOf rs (some ⟨r.u 0 4, r.off, (r.i 4, r.i 8, r.i 12, r.i 16), []⟩)
    else if r.typ = Rec.pad then draftsOf rs cur
    else
      match cur with
      | none => draftsOf rs none
      | some d => if r.typ = Rec.endCell then d :: draftsOf rs none else draftsOf rs (some { d with records := d.records ++ [r] })

/-- Granules of a cell (R121): c counts its records without PAD. -/
def CellDraft.granules (d : CellDraft) : Nat := 1 + ((d.records.map fun r => 4 * r.words).foldl (· + ·) 0 + 63) / 64

/-- A box of expanded coordinates. -/
abbrev Ext : Type := Option (Int × Int × Int × Int)

/-- The smallest box that holds two. -/
def extJoin (a b : Ext) : Ext :=
  match a, b with
  | none, b => b
  | a, none => a
  | some p, some q => some (min p.1 q.1, min p.2.1 q.2.1, max p.2.2.1 q.2.2.1, max p.2.2.2 q.2.2.2)

/-- Every coordinate of a box lies in the range of R86. -/
def extOk : Ext → Bool
  | none => true
  | some p => coordOk p.1 && coordOk p.2.1 && coordOk p.2.2.1 && coordOk p.2.2.2

/-- The box of a contour's points. -/
def pointsExt (pts : List Pt) : Ext := pts.foldl (fun e p => extJoin e (some (p.1, p.2.1, p.1, p.2.1))) none

/-- The placements of an array's corner elements, which bound all the others. -/
def Record.cornerPlacements (r : Record) : List Place :=
  if r.typ = Rec.inst then r.placements
  else
    let nc : Int := r.u 28 2 - 1
    let nr : Int := r.u 30 2 - 1
    [(0, 0), (nc, 0), (0, nr), (nc, nr)].map fun (i, j) =>
      ⟨r.attr % 8, r.i 4 + i * r.i 12 + j * r.i 20, r.i 8 + i * r.i 16 + j * r.i 24⟩

/-- The box of a cell's image under placements. -/
def placedExt (pls : List Place) (e : Ext) : Ext :=
  match e with
  | none => none
  | some b => pls.foldl (fun acc pl => let x := placeBox [pl] b; extJoin acc (some (x.x0, x.y0, x.x1, x.y1))) none

/-- What resolving a record list finds: the depth below it, the box of its expanded coordinates, the storage of each
CELL_ID, or the first cause and offset (R87, R92, R93, R106). -/
structure Resolved where
  depth : Nat
  ext : Ext
  places : List (Nat × Nat)
  bad : Option (Nat × Nat)
  deriving DecidableEq, Repr

/-- Resolve one record; `own` are the CELL_IDs of the same block, `limit` says that depth counts. -/
def resolveRecord (s : State) (own : List Nat) (limit : Bool) (a : Resolved) (r : Record) : Resolved :=
  if a.bad.isSome then a
  else if r.isGeom then
    let e := pointsExt r.contour
    if extOk e then { a with ext := extJoin a.ext e } else { a with bad := some (Cause.fieldRange, r.off) }
  else if r.isPlace then
    match if own.contains (r.u 0 4) then none else lookupCell s (r.u 0 4) with
    | none => { a with bad := some (Cause.cellReference, r.off) }
    | some c =>
      if limit ∧ 16 ≤ c.depth then { a with bad := some (Cause.cellReference, r.off) }
      else
        let e := placedExt r.cornerPlacements c.ext
        if extOk e then { depth := max a.depth (c.depth + 1), ext := extJoin a.ext e, places := (r.u 0 4, c.uid) :: a.places, bad := none }
        else { a with bad := some (Cause.fieldRange, r.off) }
  else a

/-- Resolve a record list. -/
def resolveRecords (s : State) (own : List Nat) (limit : Bool) (rs : List Record) : Resolved :=
  rs.foldl (resolveRecord s own limit) ⟨1, none, [], none⟩

/-- The cells of a CELLS block as they would be stored, without uid, or the first cause and offset. -/
def resolveDrafts (s : State) (ds : List CellDraft) : Except (Nat × Nat) (List Cell) :=
  let own := ds.map (·.id)
  go own [] ds
where
  /-- One definition after another; `seen` are the CELL_IDs already defined by the block. -/
  go (own seen : List Nat) : List CellDraft → Except (Nat × Nat) (List Cell)
    | [] => .ok []
    | d :: rest =>
      -- Two definitions of one CELL_ID in a block are CELL_REDEFINED (DESIGN CHOICE, log entry 143).
      if seen.contains d.id || (lookupCell s d.id).isSome then .error (Cause.cellRedefined, d.off)
      else
        let r := resolveRecords s own true d.records
        match r.bad with
        | some b => .error b
        | none =>
          match go own (d.id :: seen) rest with
          | .error b => .error b
          | .ok cs => .ok (⟨0, d.id, d.bbox, d.records, d.granules, 0, r.depth, r.ext, r.places⟩ :: cs)

/-! ## Storing (R121, R126) -/

/-- How storing a block's cells ended: the granules and cells stored, and whether space ran out. -/
structure StoreEnd where
  state : State
  granules : Nat
  cells : Nat
  full : Bool

/-- Store cells one after another until one finds no room. -/
def storeCells : List Cell → Nat → Nat → State → StoreEnd
  | [], g, n, s => ⟨s, g, n, false⟩
  | c :: cs, g, n, s =>
    let known := (s.cache.dir.lookup c.id).isSome
    if granulesFree s < c.granules ∨ (!known ∧ 4194304 ≤ s.cache.dir.length) then ⟨s, g, n, true⟩
    else
      let uid := s.cache.nextUid
      let at' := if s.cache.nextGranule + c.granules ≤ cacheGranules s then s.cache.nextGranule else 0
      let s := writeUnits Port.cellRead (granuleAt at') (c.granules * 64) s
      storeCells cs (g + c.granules) (n + 1) { s with cache := { s.cache with
        nextGranule := at' + c.granules
        nextUid := uid + 1, cells := s.cache.cells ++ [{ c with uid := uid, storeAt := at' }]
        dir := assocPut s.cache.dir c.id (some uid) } }

/-- The Skiver is stopped (R126). -/
def skiverStopped (s : State) : Bool := fget s Reg.SKV_STATUS_STATE == 3

/-- The Skiver stops at block `seq`: the counts are recorded, and CACHE_FULL is raised once for the stop (R126, R127). -/
def stopSkiver (seq g n : Nat) (s : State) : State :=
  let s := raiseIf (!skiverStopped s) Ev.CACHE_FULL s
  let s := rset64 Reg.SKV_STOP_SEQ_LO Reg.SKV_STOP_SEQ_HI seq (fput Reg.SKV_STATUS_STATE 3 s)
  fput Reg.SKV_STOP_STORED_GRANULES g (fput Reg.SKV_STOP_CELLS_CELLS n s)

/-! ## Eviction (R123 to R125) -/

/-- A named cell is placed by a committed renderable cell that the command does not name (R124). -/
def evictBlocked (s : State) (ids : List Nat) : Bool :=
  let uids := ids.filterMap fun id => (lookupCell s id).map (·.uid)
  s.cache.dir.any fun e => !ids.contains e.1 &&
    match e.2.bind (cellOf s.cache.cells) with
    | some c => c.places.any fun p => uids.contains p.2
    | none => false

/-- Evict the named cells: directory entries go at once, granules become pending behind the geometry committed so far
(R125). -/
def evictCells (ids : List Nat) (s : State) : State :=
  let named := s.cache.dir.filter fun e => ids.contains e.1
  let uids := named.filterMap (·.2)
  let g := ((s.cache.cells.filter fun c => uids.contains c.uid).map (·.granules)).foldl (· + ·) 0
  let upTo := s.ras.geoms.map fun q => (q.stripeIdx, q.lastBand)
  cacheSync { s with cache := { s.cache with
    dir := s.cache.dir.filter fun e => !ids.contains e.1
    fences := if uids.isEmpty then s.cache.fences else s.cache.fences ++ [⟨g, uids, upTo⟩] } }

/-- The rasterizer has rendered a band. -/
def hasRendered (s : State) (i j : Nat) : Bool :=
  match s.ras.current with
  | c :: _ => decide (i < c.stripeIdx ∨ (i = c.stripeIdx ∧ j < c.band))
  | [] => decide (i < s.ras.stripeIdx ∨ (i = s.ras.stripeIdx ∧ j < s.ras.band))

/-- A fence is met: every band it names has been rendered (R125). -/
def fenceMet (s : State) (f : Fence) : Bool := f.upTo.all fun p => hasRendered s p.1 p.2

/-- Granules of met fences return to free storage (R125). -/
def returnGranules (s : State) : State :=
  let gone := (s.cache.fences.filter (fenceMet s)).flatMap (·.uids)
  cacheSync { s with cache := { s.cache with
    fences := s.cache.fences.filter fun f => !fenceMet s f
    cells := s.cache.cells.filter fun c => !gone.contains c.uid } }

end Sys2Proof.Machine
end

