-- ==== Sys2Proof/Machine/SkvStream.lean ====
section
/-!
DEFINITION. The Skiver stream (R108 to R111, R114): decoding a plaintext to its content.
-/

namespace Sys2Proof.Machine

/-- How a decode ends: the content, or the number of bytes output when the guard of R114 stopped it. -/
inductive SkvResult where
  | ok (content : List Byte)
  | stopped (output : Nat)
  deriving DecidableEq, Repr

/-- Append the `n` bytes of a match at distance `d` to an output held newest first (R109). -/
def skvCopy (d : Nat) : Nat → List Byte → List Byte
  | 0, out => out
  | n + 1, out => skvCopy d n (out.getD (d - 1) 0 :: out)

/-- A command of Table 4-1, with the bytes that follow it: literals of a length, a match of a length and distance, or
the end. -/
inductive SkvCmd where
  | lit (n : Nat) (rest : List Byte)
  | copy (n d : Nat) (rest : List Byte)
  | fin (rest : List Byte)
  deriving DecidableEq, Repr

/-- Read one command (Table 4-1); none for a reserved command byte or a field cut short. -/
def skvCmd : List Byte → Option SkvCmd
  | [] => none
  | k :: bs =>
    let k := k.toNat
    if k = 0xFF then some (.fin bs)
    else if 0xE0 ≤ k then none
    else if k < 0x40 then some (.lit (k + 1) bs)
    else if k < 0x80 then
      match bs with
      | e :: bs => some (.lit (k % 64 * 256 + e.toNat + 65) bs)
      | _ => none
    else if k < 0xC0 then
      match bs with
      | a :: b :: bs => some (.copy (k % 64 + 4) (leNat [a, b]) bs)
      | _ => none
    else
      match bs with
      | e :: a :: b :: c :: bs => some (.copy (k % 32 * 256 + e.toNat + 4) (leNat [a, b, c]) bs)
      | _ => none

/-- The decode loop: `fuel` bounds the commands, `o` is the length of the output, held newest first. -/
def skvLoop (dlen : Nat) : Nat → List Byte → Nat → List Byte → SkvResult
  | 0, _, o, _ => .stopped o
  | fuel + 1, inp, o, out =>
    match skvCmd inp with
    | none => .stopped o
    | some (.fin rest) => if rest.isEmpty ∧ o = dlen then .ok out.reverse else .stopped o
    | some (.lit n rest) =>
      if dlen < o + n ∨ rest.length < n then .stopped o
      else skvLoop dlen fuel (rest.drop n) (o + n) ((rest.take n).reverse ++ out)
    | some (.copy n d rest) =>
      if dlen < o + n ∨ d = 0 ∨ 1048576 < d ∨ o < d then .stopped o
      else skvLoop dlen fuel rest (o + n) (skvCopy d n out)

/-- The content of a plaintext (R110, R111). -/
def skvDecode (stored : Bool) (dlen : Nat) (plain : List Byte) : SkvResult :=
  if stored then .ok plain else skvLoop dlen (plain.length + 1) plain 0 []

/-- A stream of literals alone that decodes to the content (R108, R110); `fuel` bounds the commands. -/
def skvLiterals : Nat → List Byte → List Byte
  | 0, _ => [0xFF]
  | fuel + 1, bs =>
    if bs.isEmpty then [0xFF]
    else if bs.length ≤ 64 then BitVec.ofNat 8 (bs.length - 1) :: bs ++ [0xFF]
    else
      let n := min bs.length 16448
      BitVec.ofNat 8 (0x40 + (n - 65) / 256) :: BitVec.ofNat 8 ((n - 65) % 256) :: bs.take n ++ skvLiterals fuel (bs.drop n)

end Sys2Proof.Machine
end

