-- ==== Sys2Proof/Machine/Ingest.lean ====
section
/-!
DEFINITION. Ingest of the block stream (R77 to R85, R100 to R119): landing, the checks of Table 3-5, what an
unrenderable block does, decoding and commit.
-/

namespace Sys2Proof.Machine

/-! ## Headers and transfers (R77, R78, R80) -/

/-- The block header of a transfer (Table 3-4). -/
def headerOf (bs : List Byte) : BlockHdr :=
  { magic := leAt bs 0 4, version := leAt bs 4 2, kind := leAt bs 6 1, bflags := leAt bs 7 1, seq := leAt bs 8 8,
    layer := leAt bs 16 2, stripe := leAt bs 18 2, firstBand := leAt bs 20 4, lastBand := leAt bs 24 4,
    clen := leAt bs 28 4, dlen := leAt bs 32 4, res1 := leAt bs 36 4, ccheck := leAt bs 40 8, res2 := leAt bs 48 16 }

/-- BFLAGS (Table 3-4). -/
def BlockHdr.last (h : BlockHdr) : Bool := h.bflags.testBit 0
def BlockHdr.stored (h : BlockHdr) : Bool := h.bflags.testBit 1

/-- Padding after the tag (R77): (−C − 4) mod 8. -/
def blockPad (c : Nat) : Nat := ((-(c : Int) - 4) % 8).toNat

/-- Total length of a block (R77). -/
def blockTotal (c : Nat) : Nat := 84 + c + blockPad c

/-- Check 1: the transport check, CRC-32C in sequence fold with the block's SEQ, over the transfer but its last 4 bytes
(R78). -/
def transportOk (seq : Nat) (bs : List Byte) : Bool :=
  let n := bs.length - 4
  crcOf crc32c (leBytes 8 seq ++ bs.take n) == leNat (bs.drop n)

/-- Check 2: GCM under K_blk (R453). -/
def openBlock (s : State) (seq : Nat) (bs : List Byte) : Option (List Byte) :=
  let c := leAt bs 28 4
  match s.sec.jobKey, s.job with
  | some k, some j => Config.gcmOpen k.block (leBytes 4 j.jobId ++ leBytes 8 seq) (bs.take 64) (slice bs 64 c) (slice bs (64 + c) 16)
  | _, _ => none

/-- Check 3: the envelope (Table 3-5). -/
def envelopeOk (h : BlockHdr) (len : Nat) : Bool :=
  decide (h.magic = 0x42534D44 ∧ h.version = 3 ∧ 1 ≤ h.kind ∧ h.kind ≤ 3 ∧ h.bflags < 4 ∧ h.res1 = 0 ∧ h.res2 = 0) &&
  decide (16 ≤ h.clen ∧ h.clen ≤ 1048576 ∧ h.dlen % 4 = 0 ∧ h.dlen ≤ 16777216 ∧ len = blockTotal h.clen) &&
  (!h.stored || h.dlen == h.clen) &&
  (match h.kind with
    | 1 => !h.last && h.layer == 0 && h.stripe == 0 && h.firstBand == 0 && h.lastBand == 0
    | 2 => h.firstBand == 0 && h.lastBand == 0
    | _ => true)

/-! ## Blocks in hand -/

/-- The accepted block of a SEQ. -/
def blockAt (s : State) (seq : Nat) : Option Blk := s.ingest.blocks.find? (·.seq == seq)

/-- Change an accepted block. -/
def updBlock (seq : Nat) (f : Blk → Blk) (s : State) : State :=
  { s with ingest := { s.ingest with blocks := s.ingest.blocks.map fun b => if b.seq = seq then f b else b } }

/-- SKV_STATUS (Table 4-3); a stop stays until a retry succeeds. That it reads RUNNING exactly while an engine decodes, and
WAIT_QUEUE over RUNNING, is a DESIGN CHOICE (log entry 138). -/
def skiverSync (s : State) : State :=
  if skiverStopped s then queueSync s
  else
    let st := if s.ingest.blocks.any (·.phase == .waitQueue) then 2 else if s.ingest.blocks.any (·.phase == .decoding) then 1 else 0
    queueSync (fput Reg.SKV_STATUS_STATE st s)

/-- Add a reject record; the last 16 are kept (R103). -/
def addReject (seq cause off : Nat) (s : State) : State :=
  { s with ingest := { s.ingest with rejects := (⟨seq, cause, off⟩ :: s.ingest.rejects).take 16 } }

/-- STAGING_FULL ends when no descriptor waits (Table 14-9); the staging ring gives units back. -/
def freeStaging (n : Nat) (s : State) : State :=
  { s with ingest := { s.ingest with stagingUsed := s.ingest.stagingUsed - n } }

/-! ## Unrenderable blocks (R102, Table 3-9) -/

/-- Bands of a stripe. -/
def bandsOf (s : State) (i : Nat) : Nat := match stripeAt s i with | some e => e.h / 256 | none => 0

/-- The stripe at position `i` is abandoned: its bands not yet complete are rejected and all are complete; where it is the
current stripe, the next entry of the list is current. The bands are judged as the failing block's turn for check 4
comes, before blocks placed earlier have all committed (DESIGN CHOICE, log entry 139). -/
def abandonAt (i : Nat) (s : State) : State :=
  let n := bandsOf s i
  let done := (stripeData s i).complete
  if n = 0 then s
  else
    let s := rejectBands i ((List.range n).drop done) s
    let s := updStripe i (fun d => { d with complete := n }) s
    let s := { s with ingest := { s.ingest with abandoned := i :: s.ingest.abandoned } }
    if i = s.ingest.curStripe then { s with ingest := { s.ingest with curStripe := i + 1, geomFirst := none } } else s

/-- The current stripe of R82 is abandoned. -/
def abandonStripe (s : State) : State := abandonAt s.ingest.curStripe s

/-- A Skiver that had stopped runs again. -/
def skiverRestart (s : State) : State := if skiverStopped s then fput Reg.SKV_STATUS_STATE 0 s else s

/-- A block is unrenderable with this cause: the event, the record, and the block's phase. A stop at the block is over. -/
def declare (b : Blk) (cause off : Nat) (s : State) : State :=
  updBlock b.seq (fun b => { b with phase := .rejected, queueKib := 0, cause := none, late := none })
    (raise Ev.SOURCE_CHECK (addReject b.seq cause off (if s.ingest.commitSeq = b.seq then skiverRestart s else s)))

/-- A block is no longer placed: a re-reading has given it another header, or has failed (R84, R116). -/
def unplace (b : Blk) (s : State) : State :=
  let s := updBlock b.seq (fun b => { b with placed := false }) s
  if b.placed ∧ b.hdr.kind = 3 then
    updStripe b.stripeIdx (fun d => { d with covers := d.covers.filter fun c => c.1 != b.seq }) s
  else s

/-- The stripe that an unrenderable block at checks 1 to 4 abandons: the current stripe of its turn. A block that had been
placed before its re-reading failed had its turn then (DESIGN CHOICE, log entry 134). -/
def turnStripe (b : Blk) (s : State) : Nat := if b.placed ∧ b.hdr.kind ≠ 1 then b.stripeIdx else s.ingest.curStripe

/-- Unrenderable at checks 1 to 4 (Table 3-9): the stripe is abandoned, but for a CELLS block at check 3. The block's
header is not used: it completes no band. -/
def rejectEarly (b : Blk) (cause : Nat) (s : State) : State :=
  let s := unplace b (declare b cause noOffset s)
  if cause = Cause.envelope ∧ b.hdr.kind = 1 then s else abandonAt (turnStripe b s) s

/-- Unrenderable at check 5 or 6 (Table 3-9); `ids` are the CELL_IDs its records named. -/
def rejectLate (b : Blk) (cause off : Nat) (ids : List Nat) (s : State) : State :=
  let s := declare b cause off s
  let n := bandsOf s b.stripeIdx
  match b.hdr.kind with
  | 1 => markCells ids s
  | 2 => rejectBands b.stripeIdx (List.range n) s
  | _ =>
    if b.first then rejectBands b.stripeIdx (List.range n) s
    else rejectBands b.stripeIdx ((List.range n).filter fun j => decide (b.hdr.firstBand ≤ j + 1 ∧ j ≤ b.hdr.lastBand + 1)) s

/-- A block fails check 5 for good: at once, or when its turn for check 4 has come (R117). -/
def failContent (b : Blk) (cause off : Nat) (s : State) : State :=
  if b.placed then rejectLate b cause off [] s
  else updBlock b.seq (fun b => { b with phase := .decoded, late := some (cause, off), queueKib := 0 }) s

/-- A reading failed a check that asks for a re-fetch (R80, R116): the block is read again, or after the third reading it
is unrenderable; `late` says that the check was the fifth. The three readings are counted over all checks together, and
the cause is that of the third (DESIGN CHOICE, log entry 140). -/
def failReading (b : Blk) (cause off : Nat) (late : Bool) (s : State) : State :=
  if b.readings < 3 then
    let s := raise Ev.BLOCK_REFETCH (fcount Reg.SKV_REFETCH_COUNT 1 s)
    updBlock b.seq (fun b => { b with phase := .refetch, queueKib := 0 }) s
  else if late then failContent b cause off s
  else updBlock b.seq (fun b => { b with phase := .held, cause := some cause, queueKib := 0 }) s

/-! ## The staging ring (R392) -/

/-- The byte ranges of `n` bytes from byte `o` of the staging ring on. -/
def stagingSpan (o n : Nat) : List (Nat × Nat) :=
  let o := o % 8589934592
  let k := min n (8589934592 - o)
  ((region Rgn.staging).lo + o, k) :: (if k < n then [((region Rgn.staging).lo, n - k)] else [])

/-- The byte ranges of `n` bytes from unit `u` of the staging ring on. -/
def stagingParts (u n : Nat) : List (Nat × Nat) := stagingSpan (u * 4096) n

/-- Some unit of the ranges ends in a bus error. -/
def partsBad (s : State) (ps : List (Nat × Nat)) : Bool := ps.any fun p => rangeBad s p.1 p.2
/-- A port reads the ranges. -/
def readParts (port : Nat) (ps : List (Nat × Nat)) (s : State) : State := ps.foldl (fun s p => readUnits port p.1 p.2 s) s
/-- A port writes the ranges. -/
def writeParts (port : Nat) (ps : List (Nat × Nat)) (s : State) : State := ps.foldl (fun s p => writeUnits port p.1 p.2 s) s

/-- A block's bytes as the staging ring holds them: zeros where a page is not valid (R333). -/
def ringBytes (s : State) (b : Blk) : List Byte :=
  let o := fun (i : Nat) => (b.ringAt % 2097152 * 4096 + i) % 8589934592
  if s.ecc.invalid.isEmpty then b.bytes
  else b.bytes.mapIdx fun i x => if pageInvalid s (((region Rgn.staging).lo + o i) / 4096) then 0 else x

/-- The Skiver's dictionaries and queues, in banks 86 to 89, are written (R334, R464). -/
def dictionaries (s : State) : State := writeSram (86 * 262144) (4 * 262144) s

/-! ## Checks 1 to 3 (R80) -/

/-- A block that check 4 has placed, and that nothing has rejected since. -/
def Blk.stands (b : Blk) : Bool := b.placed && b.phase != .rejected && b.phase != .discarded && b.phase != .held

/-- Undo the placing of one block: what it left in its stripe. Its records are checked anew where it is placed again. -/
def takeBack (b : Blk) (s : State) : State :=
  let s := updBlock b.seq (fun b => { b with phase := if b.phase = .checked then .decoded else b.phase, opened := false }) (unplace b s)
  if b.hdr.kind = 1 then s
  else updStripe b.stripeIdx (fun d => { d with
    dmapSeq := if d.dmapSeq = some b.seq then b.before.bind (·.2.2) else d.dmapSeq
    firstSeq := if d.firstSeq = some b.seq then none else d.firstSeq }) s

/-- Check 4 is done anew from a block on, whose re-reading has another header: the block and those placed after it lose
their places, and the stripe position is the one that check 4 found (R116). A stripe abandoned since is not current
again. -/
def replaceFrom (b : Blk) (s : State) : State :=
  let after := s.ingest.blocks.filter fun c => c.stands && decide (b.seq < c.seq)
  let s := (after.reverse ++ [b]).foldl (fun s c => takeBack c s) s
  match b.before with
  | some (i, f, _) =>
    if s.ingest.abandoned.contains i then s else { s with ingest := { s.ingest with curStripe := i, geomFirst := f } }
  | none => s

/-- A reading has passed checks 1 to 3 with header `h`. A block placed before keeps its place where the header is the one it
was placed by; another header waits for check 4 anew (R116; log entry 134). -/
def passReading (b : Blk) (h : BlockHdr) (plain : List Byte) (s : State) : State :=
  let s := if b.hdr = h ∨ !b.placed then s else replaceFrom b s
  updBlock b.seq (fun b => { b with phase := .ready, hdr := h, plain := plain }) s

/-- A reading is checked: transport, authentication, envelope. A reading of the staging ring that ends in a bus error
fails its transport check (Table 13-2). -/
def checkReading (b : Blk) (s : State) : State :=
  let ps := stagingParts b.ringAt b.bytes.length
  let bad := partsBad s ps
  let s := readParts Port.cellRead ps s
  if bad || !transportOk b.seq b.bytes then failReading b Cause.transport noOffset false s
  else
    match openBlock s b.seq b.bytes with
    | none => failReading b Cause.authentication noOffset false s
    | some plain =>
      let h := headerOf b.bytes
      if envelopeOk h b.bytes.length then passReading b h plain s
      else updBlock b.seq (fun b => { b with phase := .held, cause := some Cause.envelope, hdr := if b.placed then b.hdr else h }) s

/-! ## Check 4 (R81 to R83, R119, R474) -/

/-- The position of a stripe in the list. -/
def stripePos (s : State) (layer stripe : Nat) : Option Nat :=
  match s.job with
  | some j => j.stripes.findIdx? fun e => e.layer == layer && e.stripe == stripe
  | none => none

/-- The total DLEN of a stripe's geometry blocks over some band of a range passes the limit of R119 with `dlen` more. -/
def overDlen (d : StripeData) (first last dlen : Nat) : Bool :=
  (List.range (last + 1 - first)).any fun k =>
    decide (536870912 < dlen + ((d.covers.filter fun c => decide (c.2.1 ≤ first + k ∧ first + k ≤ c.2.2.1)).map
      fun c => c.2.2.2).foldl (· + ·) 0)

/-- The first SEQ of a stripe is noted (R469). -/
def noteFirst (i seq : Nat) (s : State) : State :=
  updStripe i (fun d => if d.firstSeq.isSome then d else { d with firstSeq := some seq }) s

/-- A block of an abandoned or removed stripe, or a CELLS block a checkpoint has behind it, is discarded. -/
def discardBlock (b : Blk) (dup : Bool) (s : State) : State :=
  let s := updBlock b.seq (fun b => { b with phase := .discarded, queueKib := 0 }) s
  if dup then { s with ingest := { s.ingest with duplicates := satAdd 0xFFFFFFFF s.ingest.duplicates 1 } } else s

/-- A density or geometry block of the current stripe at position `i` (R81, R83, R119). A DENSITY_MAP block counts among
those its stripe carries whatever becomes of it at checks 5 and 6 (R97). -/
def placeStripeBlock (b : Blk) (i : Nat) (e : StripeEntry) (s : State) : State :=
  let h := b.hdr
  let before := some (s.ingest.curStripe, s.ingest.geomFirst, (stripeData s i).dmapSeq)
  if h.kind = 2 then
    if s.ingest.geomFirst.isSome ∨ h.last then rejectEarly b Cause.bandRange s
    else
      let s := updStripe i (fun d => { d with dmapSeq := some b.seq }) (noteFirst i b.seq s)
      updBlock b.seq (fun b => { b with placed := true, before := before, stripeIdx := i }) s
  else if decide (h.lastBand < h.firstBand ∨ e.h / 256 ≤ h.lastBand ∨ 4095 < h.lastBand - h.firstBand) ||
      (match s.ingest.geomFirst with | some f => decide (h.firstBand < f) | none => false) then rejectEarly b Cause.bandRange s
  else
    let b := { b with placed := true, before := before, stripeIdx := i, first := s.ingest.geomFirst.isNone }
    let excess := overDlen (stripeData s i) h.firstBand h.lastBand h.dlen
    let s := noteFirst i b.seq (updBlock b.seq (fun _ => b) s)
    let s := { s with ingest := { s.ingest with
      geomFirst := if h.last then none else some h.firstBand, curStripe := if h.last then i + 1 else i } }
    if excess then rejectLate b Cause.fieldRange noOffset [] s
    else updStripe i (fun d => { d with covers := d.covers ++ [(b.seq, h.firstBand, h.lastBand, h.dlen)] }) s

/-- What parsing a block needs of its stripe and job. -/
def parseCtx (s : State) (b : Blk) : ParseCtx :=
  let e := stripeAt s b.stripeIdx
  { kind := b.hdr.kind, first := b.first, makeup := (e.map (·.makeup)).getD false
    pecOk := (s.job.map fun j => !j.kernel.isEmpty && !j.factors.isEmpty).getD false
    h := (e.map (·.h)).getD 0
    additive := (s.job.map (·.additive)).getD false
    layer := (e.map (·.layer)).getD 0 }

/-- The records of a placed block's content are checked (check 6). -/
def checkRecords (b : Blk) (s : State) : State :=
  let p := parseContent (parseCtx s b) b.content
  let s := updBlock b.seq (fun b => { b with phase := .checked, records := p.records, opened := p.opened }) s
  match p.bad with
  | some (cause, off) => rejectLate b cause off p.defined s
  | none => s

/-- A block that has passed check 4 goes on from where it stands at check 5 (R117). -/
def afterPlace (seq : Nat) (s : State) : State :=
  match blockAt s seq with
  | some b =>
    if !b.placed || b.phase == .rejected then s
    else match b.late with
      | some (cause, off) => rejectLate b cause off [] s
      | none => if b.phase = .decoded then checkRecords b s else s
  | none => s

/-- Check 4 of a block whose predecessors have been placed, or the effect of its failure at checks 1 to 3. -/
def placeBlock (b : Blk) (s : State) : State :=
  match b.cause with
  | some c => rejectEarly b c s
  | none =>
    if b.hdr.kind = 1 then
      if b.seq < s.ingest.cellsBelow then discardBlock b false s
      else updBlock b.seq (fun b => { b with placed := true }) s
    else
      match stripePos s b.hdr.layer b.hdr.stripe with
      | none =>
        if s.ingest.removed.contains (b.hdr.layer, b.hdr.stripe) then discardBlock b false s
        else rejectEarly b Cause.stripeMismatch s
      | some i =>
        if s.ingest.abandoned.contains i then discardBlock b true s
        else
          match stripeAt s i with
          | none => rejectEarly b Cause.stripeMismatch s
          | some e =>
            if i ≠ s.ingest.curStripe ∨ e.layer < s.prog.closed then rejectEarly b Cause.stripeMismatch s
            else placeStripeBlock b i e s

/-- The first block whose turn for check 4 has come: it has not been placed, or it has failed since; it is none while that
block is being read again. -/
def nextHeld (bs : List Blk) : Option Blk :=
  match bs.find? fun b => b.phase == .held || (!b.placed && b.phase != .rejected && b.phase != .discarded) with
  | some b => if b.phase = .refetch then none else some b
  | none => none

/-- Place blocks in SEQ order as far as they have been checked. -/
def placeLoop : Nat → State → State
  | 0, s => s
  | n + 1, s =>
    match nextHeld s.ingest.blocks with
    | some b => placeLoop n (afterPlace b.seq (placeBlock b s))
    | none => s

/-! ## Consuming in SEQ order (R79, R84, R105, R392) -/

/-- Bands that a geometry block completes once its checks are over (R84). -/
def completeBands (b : Blk) (s : State) : State :=
  if b.hdr.kind = 3 ∧ b.placed then
    updStripe b.stripeIdx (fun d => { d with
      complete := max d.complete (if b.hdr.last then bandsOf s b.stripeIdx else b.hdr.firstBand) }) s
  else s

/-- The block at the commit point is consumed: its staging units return and DMA_STG_REL moves past it. -/
def consume (b : Blk) (s : State) : State :=
  let s := { s with ingest := { s.ingest with
    blocks := s.ingest.blocks.filter (·.seq != b.seq), commitSeq := b.seq + 1 } }
  freeStaging b.units (rset64 Reg.DMA_STG_REL_LO Reg.DMA_STG_REL_HI (b.seq + 1) s)

/-- The density map of a stripe of height `h` is complete (R97). -/
def densityComplete (d : StripeData) (h : Nat) : Bool :=
  if d.dmapSeq.isNone && !d.active then true
  else d.dmapSeq.isSome && (List.range ((h + 4095) / 4096 * 10)).all fun k => d.dmap.any fun p => p.1 == k

/-- The density map is checked under the stripe data `d`, once the prologue of its first geometry block has been parsed
(R97). -/
def checkMap (b : Blk) (d : StripeData) (s : State) : State :=
  match stripeAt s b.stripeIdx with
  | none => s
  | some e =>
    if densityComplete d e.h then s
    else
      let s := raise Ev.SOURCE_CHECK (addReject (d.dmapSeq.getD b.seq) Cause.fieldRange noOffset s)
      rejectBands b.stripeIdx (List.range (e.h / 256)) s

/-- A first geometry block that is unrenderable, but whose prologue has been parsed, has the density map checked at its
turn, when every DENSITY_MAP block before it has committed (R97). -/
def checkRejected (b : Blk) (s : State) : State :=
  if b.placed && b.first && b.opened then
    let d := stripeData s b.stripeIdx
    checkMap b { d with classes := classesWith d.classes b.records } s
  else s

/-- The block at the commit point: the accepted block of the lowest SEQ (R105). -/
def commitPoint (s : State) : Option Blk := s.ingest.blocks.head?

/-- Unrenderable and discarded blocks at the commit point are consumed. -/
def consumeLoop : Nat → State → State
  | 0, s => s
  | n + 1, s =>
    match commitPoint s with
    | some b =>
      if b.phase = .rejected then consumeLoop n (consume b (completeBands b (checkRejected b s)))
      else if b.phase = .discarded then consumeLoop n (consume b s)
      else s
    | none => s

/-- Everything that follows from a change of the blocks: placing, consuming, the Skiver's status, the rasterizer. -/
def ingestPump (s : State) : State :=
  let s := placeLoop s.ingest.blocks.length s
  let s := consumeLoop s.ingest.blocks.length s
  rasterGo (skiverSync s)

/-! ## Landing (R79) -/

/-- A block as it lands. -/
def Blk.fresh (c addr units ringAt : Nat) (bytes : List Byte) : Blk :=
  let h := headerOf bytes
  { seq := h.seq, chan := c, descAddr := addr, bytes := bytes, hdr := h, readings := 1, phase := .refetch, cause := none,
    late := none, placed := false, before := none, units := units, ringAt := ringAt, stripeIdx := 0, first := false, plain := [],
    content := [], records := [], opened := false, queueKib := 0, queueAt := 0 }

/-- A whole block has landed from a descriptor of channel `c` at `addr`, holding `units` of the staging ring from `ringAt`
on. With no job loaded it is dropped, uncounted (DESIGN CHOICE, log entry 141); the counts of R103 hold at 0xFFFF_FFFF
(DESIGN CHOICE, log entry 142). -/
def landBlock (c addr units ringAt : Nat) (bytes : List Byte) (s : State) : State :=
  let h := headerOf bytes
  match s.job with
  | none => freeStaging units s
  | some j =>
    if h.seq < s.ingest.nextSeq then
      freeStaging units { s with ingest := { s.ingest with duplicates := satAdd 0xFFFFFFFF s.ingest.duplicates 1 } }
    else if s.ingest.nextSeq < h.seq ∨ j.seqEnd ≤ h.seq then
      freeStaging units (raise Ev.STREAM_ERROR
        { s with ingest := { s.ingest with outOfSeq := satAdd 0xFFFFFFFF s.ingest.outOfSeq 1 } })
    else
      let b := Blk.fresh c addr units ringAt bytes
      let s := { s with ingest := { s.ingest with nextSeq := h.seq + 1, blocks := s.ingest.blocks ++ [b] } }
      ingestPump (checkReading b s)

/-- A re-reading of a block lands in the block's own units of the ring (R79, R80, R116). Its header is not used before
it has authenticated. -/
def blockRefetched (seq : Nat) (bytes : List Byte) (s : State) : State :=
  match blockAt s seq with
  | none => s
  | some b =>
    if b.phase ≠ .refetch then s
    else
      let b := { b with bytes := bytes, readings := b.readings + 1 }
      let s := writeParts Port.staging (stagingParts b.ringAt bytes.length) (updBlock seq (fun _ => b) s)
      ingestPump (checkReading b s)

/-- BLOCK_REFETCH. -/
def execBlockRefetch (seq : Nat) (bytes : List Byte) (s : State) : Res := .next (blockRefetched seq bytes s)

/-! ## Decoding (R104, R112 to R118) -/

/-- The block the Skiver decodes next: the lowest SEQ that has passed checks 1 to 3 and is not decoded, whether or not its
turn for check 4 has come (R104, R117). -/
def nextToDecode (s : State) : Option Blk := s.ingest.blocks.find? fun b => b.phase == .ready || b.phase == .waitQueue

/-- The Skiver works: RAST is powered and a job is loaded, in Ready, Write and Hold (Table 2-3). -/
def skiverOn (s : State) : Bool :=
  powered s Dom.RAST && s.job.isSome && !resting s && (s.flow.mode == .ready || s.flow.mode == .write || s.flow.mode == .hold)

/-- RATIO (R113). -/
def skvRatio (s : State) : Nat := fget s Reg.SKV_GUARD_RATIO_M1 + 1

/-- KiB of the geometry queue that a block reserves (R118). -/
def queueNeed (b : Blk) : Nat := if b.hdr.kind = 3 then (b.hdr.dlen + 1023) / 1024 else 0

/-- A free engine takes the next block: the expansion guard (R113), then room in the queue (R118). -/
def decodeStart (seq : Nat) (s : State) : State :=
  match nextToDecode s with
  | none => s
  | some b =>
    if b.seq ≠ seq ∨ !skiverOn s ∨ 4 ≤ s.ingest.blocks.countP (·.phase == .decoding) then s
    else if !b.hdr.stored ∧ skvRatio s * b.hdr.clen < b.hdr.dlen then
      ingestPump (failContent b Cause.expansion noOffset s)
    else if 2097152 - queueUsed s < queueNeed b then skiverSync (updBlock seq (fun b => { b with phase := .waitQueue }) s)
    else skiverSync (updBlock seq (fun b => { b with phase := .decoding, queueKib := queueNeed b }) s)

/-- DECODE_START. -/
def execDecodeStart (seq : Nat) (s : State) : Res := .next (decodeStart seq s)

/-- The content of a geometry block goes to the geometry queue (R118; log entry 22). -/
def storeQueue (b : Blk) (s : State) : State :=
  if b.hdr.kind ≠ 3 then s
  else
    let at' := s.ingest.queueNext % 2097152
    let s := updBlock b.seq (fun b => { b with queueAt := at' }) s
    writeParts Port.cellRead (queueParts at' b.hdr.dlen)
      { s with ingest := { s.ingest with queueNext := (at' + queueNeed b) % 2097152 } }

/-- A decoded block's content is checked against CCHECK (check 5); its records are checked once its turn for check 4 has
come (R117). -/
def checkContent (b : Blk) (content : List Byte) (s : State) : State :=
  if crcOf crc64 content ≠ b.hdr.ccheck then failReading b Cause.contentCheck noOffset true s
  else
    let s := updBlock b.seq (fun b => { b with phase := .decoded, content := content }) (storeQueue b s)
    afterPlace b.seq s

/-! ## Commit (R97, R105, R106, R126) -/

/-- The cells of a block are stored, or the cache is full before the last of them. -/
def cellsStored (b : Blk) (cells : List Cell) (s : State) : State :=
  let r := storeCells cells 0 0 s
  if r.full then stopSkiver b.seq r.granules r.cells s else consume b (cacheSync (skiverRestart r.state))

/-- A CELLS block commits, stops the Skiver, or is unrenderable. -/
def commitCells (b : Blk) (s : State) : State :=
  let ds := draftsOf b.records none
  match resolveDrafts s ds with
  | .error (cause, off) => rejectLate b cause off ((ds.filter fun d => decide (d.off ≤ off)).map (·.id)) s
  | .ok cells => cellsStored b cells s

/-- A DENSITY_MAP block commits: its cells join the stripe's, later values standing (R97). -/
def commitDensity (b : Blk) (s : State) : State :=
  let s := writeUnits Port.cellRead (dmapStore b.stripeIdx) (10 * ((bandsOf s b.stripeIdx + 15) / 16)) s
  consume b (updStripe b.stripeIdx (fun d => { d with dmap := dmapOf b.records ++ d.dmap }) s)

/-- The prologue of a stripe's first geometry block takes effect, and the density map is checked (R95 to R98). -/
def commitPrologue (b : Blk) (s : State) : State :=
  let s := updStripe b.stripeIdx (fun d => { d with
    classes := classesWith d.classes b.records, margin := marginsOf b.records, makeups := makeupsOf b.records, parsed := true }) s
  checkMap b (stripeData s b.stripeIdx) s

/-- Geometry of a block that commits, for a stripe still to be rendered. -/
def geomOf (b : Blk) (places : List (Nat × Nat)) : Geom :=
  { stripeIdx := b.stripeIdx, firstBand := b.hdr.firstBand, lastBand := b.hdr.lastBand, seq := b.seq, dlen := b.hdr.dlen,
    queueKib := b.queueKib, queueAt := b.queueAt, last := b.hdr.last, records := b.records, places := places }

/-- A STRIPE_GEOMETRY block commits (R105, R106). -/
def commitGeometry (b : Blk) (s : State) : State :=
  let r := resolveRecords s [] false b.records
  match r.bad with
  | some (cause, off) => rejectLate b cause off [] s
  | none =>
    let s := if b.first then commitPrologue b s else s
    let s := completeBands b (consume b s)
    if hasRendered s b.stripeIdx b.hdr.lastBand then s
    else { s with ras := { s.ras with geoms := s.ras.geoms ++ [geomOf b r.places] } }

/-- The block at the commit point commits. -/
def commitBlock (b : Blk) (s : State) : State :=
  match b.hdr.kind with
  | 1 => commitCells b s
  | 2 => commitDensity b s
  | _ => commitGeometry b s

/-- BLOCK_COMMIT: blocks commit strictly in ascending SEQ, none while the Skiver is stopped or while waiting entries fill
the store of the Absence Log (R105, R126, R277). -/
def blockCommit (s : State) : State :=
  match commitPoint s with
  | some b => if b.phase = .checked ∧ skiverOn s ∧ !skiverStopped s ∧ !absHolds s then ingestPump (commitBlock b s) else s
  | none => s

/-- BLOCK_COMMIT. -/
def execBlockCommit (s : State) : Res := .next (blockCommit s)

/-- The Skiver reads a block's bytes from the staging ring: a bus error is a failed transport check, and so are bytes that
MEM_ZERO has changed, unless they authenticate (Table 13-2, R333). -/
def ringRead (b : Blk) (s : State) : State × Option (List Byte) :=
  let ps := stagingParts b.ringAt b.bytes.length
  let bad := partsBad s ps
  let bytes := ringBytes s b
  let s := readParts Port.cellRead ps s
  if bad || !transportOk b.seq bytes then (s, none)
  else if bytes = b.bytes then (s, some b.plain)
  else (s, openBlock s b.seq bytes)

/-- A block that had stopped the Skiver is tried again from the staging ring (R127; log entry 135). -/
def retryStopped (b : Blk) (s : State) : State :=
  let r := ringRead b s
  ingestPump (match r.2 with
    | some _ => commitBlock b r.1
    | none => failReading b Cause.transport noOffset false r.1)

/-- The block that has stopped the Skiver is tried again, once it has been checked (R127). -/
def commitStopped (s : State) : State :=
  match commitPoint s with
  | some b => if skiverStopped s ∧ b.phase = .checked ∧ !absHolds s then retryStopped b s else s
  | none => s

/-- What a decode of a block's bytes comes to (R110, R114 to R116). -/
def decodeBlock (b : Blk) (plain : List Byte) (s : State) : State :=
  match skvDecode b.hdr.stored b.hdr.dlen plain with
  | .stopped n => ingestPump (failReading b Cause.expansion n true s)
  | .ok content => ingestPump (checkContent b content s)

/-- An engine has decoded a block. The stopped block itself, which a re-fetch or a Rest entry had put back, commits here if
it can (R127, R469). -/
def decoded (b : Blk) (s : State) : State :=
  let r := ringRead b s
  match r.2 with
  | none => ingestPump (failReading b Cause.transport noOffset false r.1)
  | some plain =>
    let s := decodeBlock b plain (dictionaries r.1)
    if b.seq = s.ingest.commitSeq then commitStopped s else s

/-- DECODE_COMPLETE: an engine ends a decode. -/
def decodeComplete (seq : Nat) (s : State) : State :=
  match blockAt s seq with
  | none => s
  | some b => if b.phase ≠ .decoding ∨ !skiverOn s then s else decoded b s

/-- DECODE_COMPLETE. -/
def execDecodeComplete (seq : Nat) (s : State) : Res := .next (decodeComplete seq s)

/-- Granules whose fences are met return, and a stopped Skiver tries its block again (R125, R126). -/
def granuleReturn (s : State) : State :=
  if !s.cache.fences.any (fenceMet s) then s else commitStopped (returnGranules s)

/-- GRANULE_RETURN. -/
def execGranuleReturn (s : State) : Res := .next (granuleReturn s)

end Sys2Proof.Machine
end

