-- ==== Sys2Proof/Machine/Output.lean ====
section
/-!
DEFINITION. The outputs (R211 to R236): the sources of BLANK_ALL, cuts, frames, echo classes, LINK_LOSS and the Cinch
latch, as operations the events share.
-/

namespace Sys2Proof.Machine

/-- Current time in 25 ps steps, for what has no time of its own (DESIGN CHOICE). -/
def stepsNow (s : State) : Int := (timeE s * 40 : Nat)

/-! ## BLANK_ALL (R230 to R233) -/

/-- The sources of Table 8-7 in force for shot `n`, as reasons. A source that has ended still holds back the shots
before the one that R53, R236 or R484 lets fire first. -/
def blockReasons (s : State) (n : Int) : List Reason :=
  (if fbit s Reg.OUT_STATUS_CINCH then [Reason.strobeCut] else []) ++
  (if s.out.supply || (match s.out.supplyTo with | some k => decide (n < k) | none => false) then [.supplyWarn] else []) ++
  (if s.out.link.on || (match s.out.link.clearsAt with | some k => decide (n < k) | none => false) then [.linkLoss] else []) ++
  (if (s.flow.mode == .hold && decide (n < checkShot0)) || (match s.flow.ending with | some e => e.effective | none => false) || (match s.flow.resume with | .inStripe k _ => decide (n < k) | _ => false) then [.hold] else []) ++
  (if s.out.outOfStepStripe.isSome then [.outOfStep] else [])

/-- A cut pending on one lane of a shot when BLANK_ALL asserts at `t`: its SHOT frame's strobe has risen and its echo is
not yet classified (R233). -/
def LaneShot.markCut (r : Reason) (t : Int) (g : GroupShot) (ls : LaneShot) : LaneShot :=
  match ls.sent, g.rise with
  | some (.shot, _, _), some rise =>
    if rise ≤ t ∧ ls.cls.isNone ∧ ls.cut.isNone then
      { ls with cut := some (r, if g.fallen then taUnknown else min 0xFFFFFE (t - rise).toNat) }
    else ls
  | _, _ => ls

/-- The cuts of one shot. -/
def Shot.markCuts (r : Reason) (t : Int) (sh : Shot) : Shot :=
  { sh with lanes := sh.lanes.mapIdx fun l ls => ls.markCut r t (sh.groups.getD (groupOf l) ⟨none, false⟩) }

/-- Numbers in rising order. -/
def insertNat (n : Nat) : List Nat → List Nat
  | [] => [n]
  | m :: ms => if n ≤ m then n :: m :: ms else m :: insertNat n ms

/-- A list of numbers sorted. -/
def sortNat (l : List Nat) : List Nat := l.foldr insertNat []

/-- An exposure of group `g` of a shot that an assertion cuts: a lane's frame that is neither classified nor cut yet
(R233). -/
def Shot.cutting (sh : Shot) (g : Nat) : Bool :=
  (List.range 64).any fun l => groupOf l == g && (match sh.lanes[l]? with
    | some ls => (match ls.sent with | some (.shot, _, _) => true | _ => false) && ls.cls.isNone && ls.cut.isNone
    | none => false)

/-- t_a of the strobes still high at `t` whose exposures the assertion cuts, the most recently risen first (R233). -/
def openCuts (t : Int) (s : State) : List Nat :=
  sortNat (s.shots.flatMap fun sh => sh.groups.zipIdx.filterMap fun (g, k) => match g.rise with
    | some r => if r ≤ t ∧ !g.fallen ∧ sh.cutting k then some (min 0xFFFFFE (t - r).toNat) else none
    | none => none)

/-- BLANK_ALL asserts at `t` and cuts the exposures in flight, under reason `r` (R42, R231, R233). A check run ends
(R250). -/
def assertCut (r : Reason) (t : Int) (s : State) : State :=
  let s := match openCuts t s with
    | a :: _ => fput Reg.OUT_CUT_TIME_STEPS a s
    | [] => s
  let s := { s with shots := s.shots.map (Shot.markCuts r t) }
  endCheckRun (fput Reg.OUT_STATUS_BLANK 1 s)

/-- BLANK_ALL asserts at a Bell or while nothing is in flight: nothing is cut. -/
def assertBlank (s : State) : State := fput Reg.OUT_STATUS_BLANK 1 s

/-- An instruction drives pins through the boundary-scan chain (R511). -/
def tapDrives : TapInstr → Bool
  | .extest | .clamp | .highz => true
  | .idcode | .bypass | .sample | .debug => false

/-- The chain drives pins: such an instruction is current and acts, in MANUFACTURE, and in PROVISIONED in Service (R460,
Table 19-2). BLANK_ALL and EXPOSE_EN then carry no current (R512). -/
def tapHolds (s : State) : Bool :=
  tapDrives s.sec.tap && (fget s Reg.SEC_STATUS_LIFECYCLE == 0 || (fget s Reg.SEC_STATUS_LIFECYCLE == 1 && s.flow.mode == .service))

/-- BLANK_ALL may be released: EXPOSE_EN is on, the Cinch is not latched (R232), and the TAP does not hold it (R512). -/
def mayRelease (s : State) : Bool := fbit s Reg.OUT_STATUS_EXPOSE_EN && !fbit s Reg.OUT_STATUS_CINCH && !tapHolds s

/-- EXPOSE_EN turns on (R241, R242), once the TAP does not hold it (R512). -/
def exposeOn (s : State) : State :=
  if fbit s Reg.OUT_STATUS_EXPOSE_EN then s
  else
    let s := { s with out := { s.out with exposeSince := some (timeE s) } }
    fput Reg.OUT_STATUS_SETTLED 0 (fput Reg.OUT_STATUS_EXPOSE_EN (if tapHolds s || logicRuns s then 0 else 1) s)

/-- BLANK_ALL asserts and EXPOSE_EN turns off after it (R242). -/
def exposeOff (s : State) : State :=
  let s := { s with out := { s.out with exposeSince := none } }
  fput Reg.OUT_STATUS_SETTLED 0 (fput Reg.OUT_STATUS_EXPOSE_EN 0 (assertBlank s))

/-! ## LINK_LOSS (R234 to R236) -/

/-- LINK_LOSS is declared at `t` (R234, R235). -/
def declareLinkLoss (t : Int) (s : State) : State :=
  if s.out.link.on then { s with out := { s.out with link := { s.out.link with clean := 0 } } }
  else
    let s := { s with out := { s.out with link := ⟨true, 0, none⟩ } }
    assertCut .linkLoss t (raise Ev.LINK_LOSS (fput Reg.OUT_STATUS_LINK_LOSS 1 s))

/-- No lane reports a fault and every return lane is in lock (R236). -/
def lanesGood (s : State) : Bool :=
  rget64 s Reg.OUT_TX_FAULT_LO Reg.OUT_TX_FAULT_HI == 0 && rget64 s Reg.OUT_RX_LOCK_LO Reg.OUT_RX_LOCK_HI == 2 ^ 64 - 1

/-- One Bell slot counts toward SETTLE (R236). -/
def countCleanSlot (s : State) : State :=
  if s.out.link.on then
    let n := if lanesGood s then satAdd 0xFFFF s.out.link.clean 1 else 0
    { s with out := { s.out with link := { s.out.link with clean := n } } }
  else s

/-- Change one lane. -/
def updLane (l : Nat) (f : Lane → Lane) (s : State) : State :=
  { s with out := { s.out with lanes := updAt Lane.por s.out.lanes l f } }

/-- A lane's output state. -/
def laneState (s : State) (l : Nat) : Lane := s.out.lanes.getD l Lane.por

/-! ## Frames (R212 to R217) -/

/-- The payload of a lane: the 5-bit counts of its 4,096 beams, least significant bit first (R214). -/
def lanePayload (counts : List (Nat × Nat)) (l : Nat) : List Byte :=
  leBytes 2560 ((counts.filterMap fun (b, c) =>
    if laneOf b = l then some (c % 32 * 2 ^ (5 * (b % 4096))) else none).foldl (· + ·) 0)

/-- The TYPE code of a frame (Table 8-3). -/
def FrameType.code : FrameType → Nat
  | .shot => 1 | .blank => 2 | .idle => 3

/-- The CRC of a frame: over the seven start-block bytes and the payload (R215). -/
def frameCrc (ty : FrameType) (l : Nat) (shot : Nat) (payload : List Byte) : Word :=
  BitVec.ofNat 32 (crcOf crc32c (leBytes 1 ty.code ++ leBytes 1 l ++ leBytes 4 shot ++ [0] ++ payload))

/-- The CRC of an IDLE frame of a lane. -/
def idleCrc (l : Nat) : Word := frameCrc .idle l 0x80000000 (List.replicate 2560 0)

/-- The type of the frame a lane sends for a shot (Table 8-3). -/
def frameType (s : State) (sh : Shot) (l : Nat) : FrameType :=
  if 0 ≤ sh.shot ∧ (sh.gathered ∨ (sh.lane l).passed) ∧ ¬ (sh.lane l).late ∧ sh.whole = [] ∧ blockReasons s sh.shot = [] then .shot else .blank

/-- The frame of one shot on one lane. -/
def sendFrame (s : State) (t l : Nat) (sh : Shot) : Shot :=
  let ty := frameType s sh l
  let payload := if ty = .shot then lanePayload sh.counts l else List.replicate 2560 0
  let crc := frameCrc ty l (unsigned 32 sh.shot) payload
  { sh with lanes := updAt LaneShot.fresh sh.lanes l fun ls =>
      { ls with sent := some (ty, crc, t), blocked := if ty = .shot then ls.blocked else ls.blocked ++ blockReasons s sh.shot } }

/-- Change the first element that meets a test. -/
def updFirst {β : Type} (p : β → Bool) (f : β → β) : List β → List β
  | [] => []
  | x :: xs => if p x then f x :: xs else x :: updFirst p f xs

/-- Duration of a frame in steps: 666.1875 ns, rounded up to a step (R213). -/
abbrev frameSteps : Nat := 26648

/-! ## Echoes (R224 to R229) -/

/-- Fields of an echo record (Table 8-5). -/
def echoCrcOk (e : DWord) : Bool := e.getLsbD 0
def echoFired (e : DWord) : Bool := e.getLsbD 1
def echoCut (e : DWord) : Bool := e.getLsbD 2
def echoType (e : DWord) : Nat := bits e.toNat 4 3
def echoShot (e : DWord) : Nat := bits e.toNat 31 8
def echoCrc (e : DWord) : Word := BitVec.ofNat 32 (bits e.toNat 63 32)

/-- The class of an echo for the frame sent, the first row of Table 8-6 that applies; no record is MISSING (R226). -/
def classify (ty : FrameType) (shot : Nat) (crc : Word) (echo : Option DWord) : EchoClass :=
  match echo with
  | none => .missing
  | some e =>
    if echoFired e ∧ ty ≠ .shot then .firedNonShot
    else if echoShot e ≠ shot % 2 ^ 24 ∨ echoType e ≠ ty.code % 4 then .wrongFrame
    else if !echoCrcOk e ∨ echoCrc e ≠ crc then .crcBad
    else if echoFired e ∧ echoCut e then .cut
    else if ty = .shot ∧ !echoFired e then .notFired
    else .match

/-- The code of a class (Table 8-6). -/
def EchoClass.code : EchoClass → Nat
  | .match => 0 | .notFired => 1 | .crcBad => 2 | .missing => 3 | .cut => 4 | .wrongFrame => 5 | .firedNonShot => 6

/-- A class logs ECHO_MISMATCH, or would but for an earlier cause (R41, Table 8-6): on a BLANK frame of a numbered shot
as on a SHOT frame. `cut` says that BLANK_ALL has cut the frame's strobe. -/
def echoMismatch (ty : FrameType) (shot : Nat) (c : EchoClass) (cut : Bool) : Bool :=
  ((ty == .shot || (ty == .blank && decide (shot < 2 ^ 31))) && (c == .missing || c == .wrongFrame || c == .crcBad)) ||
  (ty == .shot && (c == .notFired || (c == .cut && !cut)))

/-- A lane's frame has been classified: counts, LIMIT and the events (R41, R226, R228). HEAD_FAULT is the caller's. -/
def countEcho (l : Nat) (ty : FrameType) (shot : Nat) (c : EchoClass) (cut : Bool) (t : Int) (s : State) : State :=
  if c = .match then updLane l (fun x => { x with bad := 0 }) s
  else
    let s := fcount (if c = .missing then Reg.OUT_ECHO_ERR_MISSING else Reg.OUT_ECHO_ERR_COUNT) 1 s
    let s := fput Reg.OUT_LAST_MISMATCH_LANE l (fput Reg.OUT_LAST_MISMATCH_CLASS c.code s)
    let s := fput Reg.OUT_LAST_SHOT_SHOT shot s
    let s := { s with out := { s.out with link := { s.out.link with clean := 0 } } }
    let s := updLane l (fun x => { x with bad := x.bad + 1 }) s
    let s := raiseIf (echoMismatch ty shot c cut) Ev.ECHO_MISMATCH s
    if actEchoLimit s ≤ (laneState s l).bad then declareLinkLoss t s else s

/-- The strobe time of a group of a shot whose Bell has run: t_k + g·P_k/8 + OUT_SKEW_g (R219). -/
def Shot.strobeTime (sh : Shot) (g : Nat) (b : Int × Int) : Int := b.1 + rndDiv (g * b.2) 8 + sh.skew.getD g 0

/-- The time an echo's latency counts from, in steps (R225). -/
def echoBase (sh : Shot) (l : Nat) : Int :=
  let ls := sh.lane l
  let w : Nat := 31 * sh.slice
  match ls.sent with
  | some (.shot, _, t) =>
    match (sh.groups.getD (groupOf l) ⟨none, false⟩).rise, sh.bell with
    | some r, _ => r + w
    | none, some b => sh.strobeTime (groupOf l) b + w
    | none, none => t + frameSteps
  | some (_, _, t) => t + frameSteps
  | none => 0

/-- OUT_ECHO_LAT_MAX and the echo-latency probe (R225, R498). -/
def recordLatency (base t : Int) (s : State) : State :=
  let ns := ((t - base) / 40).toNat
  sample Src.echo [ns] (fmax Reg.OUT_ECHO_LAT_MAX_NS ns s)

end Sys2Proof.Machine
end

