-- ==== Sys2Proof/Machine/Restart.lean ====
section
/-!
DEFINITION. The Proctor restart (R50, R357, R477, Table 20-8): what it cuts off and what it resets.
-/

namespace Sys2Proof.Machine

/-- Slots of commands whose end is still to come (R357). -/
def slotsInProgress (s : State) : List (Fin 16) :=
  s.mail.current.toList ++
  (match s.flow.resume with | .inStripe _ sl => sl.toList | .atTick sl => sl.toList | .none => []) ++
  (match s.flow.ending with | some e => e.slot.toList | none => []) ++
  (match s.flow.lastLayer with | some p => [p.1] | none => []) ++
  (match s.flow.starting with | some sl => sl.toList | none => []) ++
  s.flow.serviceExit.toList ++
  (match s.mon.bistNext with | some p => [p.2.2] | none => []) ++
  (match s.beams.applyCmd with | some p => p.2.toList | none => []) ++
  (s.beams.queue.flatMap fun q => q.2.2.toList) ++ s.health.starts.map (·.2)

/-- The mode after a Proctor restart (R50). -/
def modeAfterRestart : Mode → Mode
  | .write | .hold => .hold
  | .boot => .boot
  | _ => .ready

/-- Registers of a check-value unit. -/
def chkRegs (u : Nat) : List Nat :=
  [Reg.CHK_UNIT_CFG u, Reg.CHK_UNIT_FOLD_LO u, Reg.CHK_UNIT_FOLD_HI u, Reg.CHK_UNIT_RESULT_LO u, Reg.CHK_UNIT_RESULT_HI u,
   Reg.CHK_UNIT_COUNT u, Reg.CHK_UNIT_STATUS u]

/-- Check-value units return to their POR values. -/
def resetChk (us : List Nat) (s : State) : State :=
  us.foldl (fun s u => (chkRegs u).foldl (fun s k => rpor k s) { s with chk := updAt Chk.por s.chk u fun _ => Chk.por }) s

/-- Locks that a restart or a Rest loses and that the module gains again (Table 20-8). -/
def loseLocks (s : State) : State :=
  settleSource (fput Reg.TIM_STATUS_PTP_LOCK 0 (fput Reg.TIM_STATUS_REF_LOCK 0 { s with tim := { s.tim with refWindows := 0 } }))

/-- A JOB_START that waited for its settle ends: in Ready EXPOSE_EN is off, and the stage is the host's again (R241,
R287). -/
def dropStart (s : State) : State :=
  if s.flow.starting.isSome then disownStage (exposeOff { s with flow := { s.flow with starting := none } }) else s

/-- The restart that follows is not the watchdog's (R477). -/
def notWatchdog (s : State) : State := fput Reg.PWR_RESET_CAUSE_WATCHDOG 0 s

/-- The Proctor stops: commands in progress are cut off, a last layer whose close is cut off is open again (log entry 155), firmware state goes, and the items of Table 20-8's column take
their state (R50, R357). What runs without the Proctor goes on. -/
def startRestart (after : Mode) (s : State) : State :=
  let cut := (slotsInProgress s).eraseDups
  let s := dropStart (endCheckRun s)
  let s := { s with
    mail := { s.mail with current := none, orphan := false, cut := s.mail.cut ++ (if s.mail.orphan then cut.filter (fun n => s.mail.current != some n) else cut) }
    flow := { s.flow with resume := .none, ending := none, lastLayer := none, starting := none, serviceExit := none,
                          restart := some after, restartReq := false, holdReq := false }
    beams := { s.beams with applyCmd := s.beams.applyCmd.map fun (p : Word × Option (Fin 16)) => (p.1, none), queue := [] }
    mon := { s.mon with bistNext := none }, clk := { s.clk with waiting := [] }
    prog := { s.prog with closed := s.prog.closed - (if s.flow.lastLayer.isSome then 1 else 0) }
    health := { s.health with asked := [], starts := [], recheck := [] }
    ingest := { s.ingest with rejects := [], duplicates := 0, outOfSeq := 0 } }
  let s := match s.mon.bist with
    | some b => if b.kind = 0 ∧ !b.filling then fput Reg.MON_BIST_STATUS_RUNNING 0 { s with mon := { s.mon with bist := none } } else s
    | none => s
  loseLocks (resetChk [2, 3] s)

end Sys2Proof.Machine
end

