-- ==== Sys2Proof/Machine/Ring.lean ====
section
/-!
DEFINITION. What the job flow needs of the cohort (R405 to R409, R421, R424): the ring as reachable now, and sending
frames.
-/

namespace Sys2Proof.Machine

/-- MEMBERS as it acts: 0 acts as 1 (Table 17-5). -/
def cohMembers (s : State) : Nat := max 1 (fget s Reg.COH_CFG_MEMBERS)

/-- This module's ring position. -/
def cohOwn (s : State) : Nat := fget s Reg.COH_CFG_OWN

/-- A cohort of more than one module is configured. -/
def inCohort (s : State) : Bool := decide (1 < cohMembers s)

/-- What is kept of a ring position. -/
def peer (s : State) (i : Nat) : Peer := s.coh.peers.getD i Peer.empty

/-- Change what is kept of a ring position. -/
def updPeer (i : Nat) (f : Peer → Peer) (s : State) : State :=
  { s with coh := { s.coh with peers := updAt Peer.empty s.coh.peers i f } }

/-- Position `i` is a member. -/
def kept (s : State) (i : Nat) : Bool := (rget s Reg.COH_KEEP).getLsbD i

/-- Position `i` is reachable. -/
def reachable (s : State) (i : Nat) : Bool := (rget s Reg.COH_REACH).getLsbD i

/-- The ring is whole (R424). -/
def ringWhole (s : State) : Bool := rget s Reg.COH_REACH == rget s Reg.COH_KEEP

/-- Position `i`'s last ROLL_CALL has STATE bit 10 set; the module's own is its own MASTER (R421). -/
def saysMaster (s : State) (i : Nat) : Bool :=
  if i = cohOwn s then isMaster s
  else match (peer s i).roll with
    | some (_, _, st, _, _) => st.testBit 10
    | none => false

/-- Masters reachable (R421). -/
def masterCount (s : State) : Nat := ((List.range 32).filter fun i => reachable s i && saysMaster s i).length

/-- The module stands outside the motion master's partition of a ring that is not whole (R421, R425). -/
def outsidePartition (s : State) : Bool := inCohort s && !ringWhole s && masterCount s == 0

/-! ## Frames (R408, R409) -/

/-- Frame kinds (Table 17-2). -/
abbrev Kind.rollCall : Nat := 1
abbrev Kind.timeReq : Nat := 2
abbrev Kind.timeResp : Nat := 3
abbrev Kind.ready : Nat := 4
abbrev Kind.go : Nat := 5
abbrev Kind.armMiss : Nat := 6
abbrev Kind.membership : Nat := 7
abbrev Kind.resume : Nat := 8

/-- The CRC of a frame: CRC-32C in the alive fold of R401, with HOPS taken as zero. -/
def cohCrc (f : CohFrame) : Word :=
  BitVec.ofNat 32 (crcOf crc32c (leBytes 4 f.alive ++ leBytes 1 f.kind ++ leBytes 1 f.src ++ [0] ++ leBytes 1 f.npay ++
    leBytes 3 f.reserved ++ leBytes 4 f.alive ++ leBytes 4 f.epoch ++ f.payload))

/-- A frame of this module's own. -/
def ownFrame (s : State) (kind : Nat) (payload : List Byte) : CohFrame :=
  let f : CohFrame := ⟨kind, cohOwn s, 0, payload.length / 8, 0, s.coh.alive, (rget s Reg.COH_EPOCH).toNat, payload, 0⟩
  { f with crc := cohCrc f }

/-- A frame goes out on a port. -/
def putFrame (f : CohFrame) (s : State) (p : Port) : State :=
  if portSends s p then { s with coh := { s.coh with sent := s.coh.sent ++ [(p, f)] } } else s

/-- The module sends a frame of its own on some ports; ALIVE counts it (Table 17-1). -/
def sendOwn (ps : List Port) (kind : Nat) (payload : List Byte) (s : State) : State :=
  let f := ownFrame s kind payload
  let s := ps.foldl (putFrame f) s
  { s with coh := { s.coh with alive := (s.coh.alive + 1) % 2 ^ 32 } }

/-- A frame of a broadcast kind goes out on both ports (R409). -/
def broadcast (kind : Nat) (payload : List Byte) (s : State) : State := sendOwn [.east, .west] kind payload s

/-- A frame of a neighbour kind goes out on one port. -/
def sendNeighbour (p : Port) (kind : Nat) (payload : List Byte) (s : State) : State := sendOwn [p] kind payload s

/-- The payload of READY, GO and ARM_MISS. -/
def stripePayload (e : StripeEntry) : List Byte := leBytes 2 e.layer ++ leBytes 2 e.stripe ++ leBytes 4 0

end Sys2Proof.Machine
end

