-- ==== Sys2Proof/Machine/JobFlow.lean ====
section
/-!
DEFINITION. The life of a job (R43, R46 to R67, R537): entries to Hold, stripe ends, closing an interrupted stripe,
resuming, and the ways a job ends.
-/

namespace Sys2Proof.Machine

/-! ## Stripes -/

/-- The stripe list entry after position `i` belongs to the same layer. -/
def sameLayerNext (s : State) (i : Nat) : Bool :=
  match stripeAt s i, stripeAt s (i + 1) with
  | some a, some b => a.layer == b.layer
  | _, _ => false

/-- A Recess slot opens: its earliest end is RECESS_MIN after its start, or later by an extension asked for before it
(R60, R302, R374). -/
def openRecess (s : State) : State :=
  let now := timeE s
  { s with health := { s.health with calNext := false }, prog := { s.prog with
      recess := some (now, now + max (fget s Reg.MOT_CHOREO_RECESS_MIN_MS) s.prog.extendMs * 1000000), extendMs := 0 } }

/-- The Recess slot in progress ends, and with it any check run (R60). -/
def closeRecess (s : State) : State := endCheckRun { s with prog := { s.prog with recess := none } }

/-- Bands of a stripe that will not be loaded leave the band ring and the rasterizer: a DESIGN CHOICE (log entry 161). The
bands that remain to be loaded are those of the stripes after it (R148). -/
def dropStripe (i : Nat) (s : State) : State :=
  rasterGo <| queueSync <| leadTo (bandsFrom (i + 1) s) { s with ras := { s.ras with
      ring := s.ras.ring.filter fun b => b.stripeIdx != i
      pending := s.ras.pending.filter fun b => b.stripeIdx != i
      current := s.ras.current.filter fun c => c.stripeIdx != i
      cells := s.ras.cells.map fun c => c.filter fun t => t.1 != i
      geoms := s.ras.geoms.filter fun g => g.stripeIdx != i
      stripes := s.ras.stripes.filter fun d => d.stripeIdx != i
      stripeIdx := if s.ras.stripeIdx = i then i + 1 else s.ras.stripeIdx
      band := if s.ras.stripeIdx = i then 0 else s.ras.band } }

/-- The job's position moves past the stripe in force: RECESS, or LAYER_OPEN after the last of its layer. -/
def passStripe (last : Bool) (s : State) : State :=
  { s with
    flow := { s.flow with job := if last then .layerOpen else .recess }
    prog := { s.prog with cur := s.prog.cur + 1, speed := false }
    out := { s.out with outOfStepStripe := none, supplyTo := none, link := { s.out.link with clearsAt := none } } }

/-- The Window is open for the stripe the job now stands before. -/
def openNext (s : State) : State := if s.win.stripeIdx == some s.prog.cur then s else openWindow s.prog.cur s

/-- The job moves on from the stripe in force (R59, R62). -/
def leaveStripe (s : State) : State :=
  let last := !sameLayerNext s s.prog.cur
  openRecess (raiseIf last Ev.LAYER_DONE (openNext (passStripe last (absLeave (dropStripe s.prog.cur s)))))

/-- A shot has settled: every lane's frame has been classified (R269). -/
def Shot.settled (sh : Shot) : Bool := sh.lanes.all fun ls => ls.cls.isSome

/-- Settle shots in order from the oldest (R269). -/
def settleLoop : Nat → State → State
  | 0, s => s
  | n + 1, s =>
    match s.shots with
    | sh :: rest => if sh.settled then settleLoop n (absLastShot sh (absSettle sh { s with shots := rest })) else s
    | [] => s

/-- Settle what has settled. -/
def settleAll (s : State) : State := settleLoop s.shots.length s

/-- The stripe is disarmed (R202). -/
def disarm (s : State) : State := fput Reg.POS_STATUS_ARMED 0 { s with armed := none }

/-- A shot of which no strobe has been issued. -/
def Shot.unstrobed (sh : Shot) : Bool := sh.groups.all fun g => g.rise.isNone

/-- A shot in flight of a stripe that is closed: one that can no longer fire is under HOLD, a shot dropped before only
where the mark `h` has not crossed it; lanes that have sent no frame for it send none (R55, R227). -/
def Shot.close (pc h : Int) (sh : Shot) : Shot :=
  if sh.bell.isSome && !sh.unstrobed then sh
  else
    let whole := if sh.whole.contains .hold || (sh.whole.contains .overspeedDrop && decide (sh.shot * pc ≤ h)) then sh.whole else .hold :: sh.whole
    { sh with closed := true, whole := whole
              lanes := sh.lanes.map fun ls => if ls.sent.isNone then { ls with cls := some .match } else ls }

/-- The shots that no gather has started, from the armed stripe's next to S − 1, as one record that settles in its turn
(R55, R269). They carry the parameter set now in force (DESIGN CHOICE, log entry 125). -/
def restShot (a : Armed) (e : StripeEntry) (s : State) : Shot :=
  { Shot.fresh a.stripeIdx e (jobTag s) a.next (rget s Reg.GTH_PSET_SEQ) a.slice a.skew with
    closed := true, rest := true, gathered := true, table := s.beams.table, btSets := s.beams.changed
    lanes := List.replicate 64 { LaneShot.fresh with cls := some .match } }

/-- The shots of the armed stripe that have not fired are left to HOLD: those in flight settle with their echoes, and
then the rest of the stripe (R55, R66). -/
def closeShots (a : Armed) (e : StripeEntry) (s : State) : State :=
  let mine := fun (sh : Shot) => sh.stripeIdx == a.stripeIdx
  let shots := s.shots.map fun sh => if mine sh then sh.close (pixCounts s) s.pos.hwm else sh
  let rest := if a.next ≤ 4095 + e.h then [restShot a e s] else []
  let s := { s with shots := shots ++ rest, beams := { s.beams with changed := if rest.isEmpty then s.beams.changed else [] } }
  raiseIf (!rest.isEmpty || shots.any fun sh => mine sh && sh.closed && decide (0 ≤ sh.shot)) Ev.HOLD s

/-- The interrupted stripe is closed (R55): its shots settle or are logged, and the stripe is disarmed. -/
def closeArmed (a : Armed) (e : StripeEntry) (s : State) : State :=
  settleAll (leaveStripe (disarm { closeShots a e s with win := Window.closed }))

/-- The interrupted stripe is closed (R55), armed or disarmed before its end. -/
def closeStripe (s : State) : State :=
  match s.armed, stripeAt s s.prog.cur with
  | some a, some e => closeArmed a e s
  | _, _ => if s.flow.job = .stripe then leaveStripe s else s

/-! ## Ends of a job (R64 to R66, R537) -/

/-- BLANK_ALL and EXPOSE_EN in Ready (R241, R242). -/
def readyOutputs (s : State) : State := exposeOff (assertBlank s)

/-- HOLD_CAUSES bits that a job end clears (R537), and the HOLD pairs it forgets. -/
def clearJobCauses (s : State) : State :=
  let s := clearHostHold (clearCause 2 (clearCause 5 (clearCause 6 s)))
  { s with coh := { s.coh with pairs := [] }, flow := { s.flow with seen := s.flow.causes } }


/-- The registers that show the stream, the cells and the rasterizer. -/
def streamSync (s : State) : State :=
  rasterSync (leadSync (skiverSync (cacheSync s)))

/-- Ingest of a job that is gone. The reject records and counts stay at a JOB_CLOSE, and go at an abort (R103, Table
20-8). -/
def Ingest.after (abort : Bool) (g : Ingest) : Ingest :=
  if abort then Ingest.empty else { Ingest.empty with rejects := g.rejects, duplicates := g.duplicates, outOfSeq := g.outOfSeq }

/-- What a job abort marks Z in memory: the staging ring, the geometry queue and pending area, the band ring, the cell
cache, and banks 0 to 89 (R335, Table 20-8). -/
def emptyJobMemory (s : State) : State :=
  emptyBanks 0 89 (emptyRegion Rgn.scratch (emptyRegion Rgn.band (emptyRegion Rgn.cache (emptyRegion Rgn.staging s))))

/-- The job is gone: its keys, its stream, its cells, bands and votes (Table 20-8, column Job abort; R122, R127, R287,
R452, R466). The Absence Log, the Beam Table and the event bits stay, and so does the cache SIZE, until the next JOB_LOAD (DEDUCED,
log entry 169). -/
def discardJob (abort : Bool) (s : State) : State :=
  let s := applyAll (absStripeEnd s)
  let s := clearJobCauses s
  let s := { s with
    flow := { s.flow with job := .none, resume := .none, holdReq := false, lastLayer := none, starting := none }
    job := none
    prog := { Progress.zero with lastStarted := none }
    ingest := s.ingest.after abort, cache := { Cache.empty with size := s.cache.size }, ras := Raster.empty, win := Window.closed, shots := []
    sec := { s.sec with jobKey := none }, coh := s.coh.noHandshake }
  let s := if abort then emptyJobMemory s else s
  let s := streamSync (skiverRestart (fput Reg.SEC_STATUS_JOB_KEY 0 (disarm s)))
  let s := dropStarts (disownStage s)
  absSync (setVotes [Dom.RAST, Dom.GATH, Dom.OUT] Client.job false s)

/-- The DRAM fill of R460 starts. -/
def debugFill (s : State) : State := startFill false { s with sec := { s.sec with debugFill := true } }

/-- The module enters Ready with job state NONE (R65, R66). Where debug waits for this, the fill of R460 follows. -/
def endJob (abort : Bool) (s : State) : State :=
  let s := readyOutputs (closeRecess (stopStage s))
  let s := discardJob abort { s with flow := { s.flow with mode := .ready } }
  if s.sec.debugHeld then debugFill s else s

/-- The bytes of JOB_ABORT's completion: the last stripe started (Table 15-3). -/
def lastStartedBytes (s : State) : List Byte :=
  match s.prog.lastStarted with
  | some (l, st) => leBytes 2 l ++ leBytes 2 st
  | none => leBytes 2 0xFFFF ++ leBytes 2 0xFFFF

/-- FORCE waives the open entries of a layer and raises LAYER_FORCED (R63); the number waived. -/
def forceLayer (layer : Nat) (s : State) : State × Nat :=
  let n := unreconciled s layer
  (absSync (raise Ev.LAYER_FORCED (absWaive layer s)), n)

/-- What a JOB_CLOSE waives: the open layer's entries under FORCE, in a job of more than one layer (R65). -/
def closeWaive (force : Bool) (s : State) : State × Nat :=
  match s.job, openLayer s with
  | some j, some l => if force && decide (1 < j.nlayer) then forceLayer l s else (s, 0)
  | _, _ => (s, 0)

/-- What a job end completes with, and what a JOB_CLOSE waives first. -/
def endingBytes (e : Ending) (s : State) : State × List Byte :=
  match e.close with
  | some force => ((closeWaive force (absStripeEnd s)).1, leBytes 4 (closeWaive force (absStripeEnd s)).2)
  | none => (s, lastStartedBytes s)

/-- The job ends, and its command completes. -/
def completeEnding (e : Ending) (s : State) : State :=
  completeOpt e.slot .ok (endingBytes e s).2
    (endJob e.close.isNone { (endingBytes e s).1 with flow := { (endingBytes e s).1.flow with ending := none } })

/-- The job end in progress finishes once no fired shot awaits its echo. -/
def finishEnding (s : State) : State :=
  match s.flow.ending with
  | some e => if e.effective && s.shots.isEmpty && !s.flow.restartReq then completeEnding e s else s
  | none => s

/-- A job end takes effect: the stage stops for an abort (R304), the current stripe is closed, nothing fires from here
on (R65, R66). -/
def effectEnding (s : State) : State :=
  match s.flow.ending with
  | some e =>
    let s := if e.close.isNone then stopStage s else s
    finishEnding (closeStripe (assertBlank
      { s with flow := { s.flow with ending := some { e with effective := true }, holdReq := false } }))
  | none => s

/-! ## Hold (R43, R51, R61) -/

/-- The module is in Hold. What waits for the point of R43, a job end or a Proctor restart, goes on waiting for it. -/
def toHold (s : State) : State :=
  let s := { s with flow := { s.flow with mode := .hold, holdReq := s.flow.ending.isSome || s.flow.restartReq } }
  let s := raise Ev.HOLD (endCheckRun (assertBlank s))
  if ownCause s then sendHoldSet s else s

/-- The mode changes to Hold, when the module is in Write. -/
def takeHold (s : State) : State :=
  if s.flow.mode = .write then toHold s else { s with flow := { s.flow with holdReq := false } }

/-- A requested Hold takes effect in Write (R43); a job end or a Proctor restart that waited for it follows. A restart cuts
off a job end that waits for the same point (R50, R357; log entry 155). -/
def enterHold (s : State) : State :=
  if s.flow.restartReq then startRestart .hold (takeHold s)
  else if s.flow.ending.isSome then effectEnding s
  else takeHold s

/-- A Hold cause that asserts BLANK_ALL acts at once (R51): bit `n`, the exposures in flight are cut under `r` at `t`. A
resume that waits for a tick completes there all the same (R373), and the Hold follows it. -/
def holdAtOnce (n : Nat) (r : Reason) (t : Int) (s : State) : State :=
  let s := assertCut r t (cancelResume (setCause n s))
  match s.flow.resume with
  | .atTick _ => { s with flow := { s.flow with holdReq := true } }
  | _ => if s.flow.mode = .write then toHold s else s

/-- A Hold is requested by Liroth firmware for the end of a job or a restart, without a cause. -/
def askHold (s : State) : State := { s with flow := { s.flow with holdReq := true } }

/-- The strobes of a shot are over: they fell, were withheld, or none is to come. -/
def Shot.strobesOver (sh : Shot) : Bool :=
  sh.bell.isNone || sh.groups.all (·.fallen) || (sh.unstrobed && (!sh.whole.isEmpty || decide (sh.shot < 0)))

/-- BLANK_ALL asserts again once the strobes of the last fired shot have fallen (R232): no stripe and no check run is
left to fire, and every strobe is over. -/
def blankIfOver (s : State) : State :=
  if s.armed.isNone && s.health.run.isNone && s.shots.all Shot.strobesOver then assertBlank s else s

/-- No strobe of the last Bell has started, so that it is the first Bell whose strobes have not started (R43). -/
def lastBellUnstarted (s : State) : Bool :=
  match (s.shots.filter fun sh => sh.bell.isSome).getLast? with
  | some sh => sh.groups.all fun g => g.rise.isNone && !g.fallen
  | none => false

/-- A requested Hold takes effect now (R43): no stripe armed and none between its disarming and its end; or armed, at a
Bell whose strobes have not started, or with no crossed shot waiting and every strobe fallen. -/
def holdMayAct (s : State) : Bool :=
  match s.armed with
  | none => s.flow.job != .stripe
  | some a => lastBellUnstarted s || (a.crossings.isEmpty && s.shots.all Shot.strobesOver)

/-- HOLD_EFFECT: a requested Hold takes effect (R43). -/
def holdEffect (s : State) : State := if s.flow.holdReq && holdMayAct s then enterHold s else s

/-- HOLD_EFFECT. -/
def execHoldEffect (s : State) : Res := .next (holdEffect s)

/-! ## Stripe ends (R59, R61) -/

/-- A module outside the motion master's partition sets bit 6 and enters Hold (R61, R425, Table 2-4). -/
def partitionHold (s : State) : State :=
  if outsidePartition s && !hasCause s 6 then requestHold 6 s else s

/-- In Write or Hold with no stripe in progress, a module outside the master's partition holds at once (R425; log entry
28). -/
def partitionAtOnce (s : State) : State :=
  if modeIn s [.write, .hold] && s.flow.job != .stripe then partitionHold s else s

/-- An in-stripe resume whose first shot the stripe no longer holds completes at the stripe end (R53, R61; log entry 31). -/
def resumeAtEnd (s : State) : State :=
  match s.flow.resume with
  | .inStripe _ slot => completeOpt slot .ok [] { s with flow := { s.flow with resume := .none, mode := .write, seen := s.flow.causes } }
  | _ => s

/-- The entries that the MAKEUP records of a stripe name are marked as it ends (R278). -/
def reconcileStripe (s : State) : State :=
  (stripeData s s.prog.cur).makeups.foldl (fun s m => absReconcile m s) (leaveStripe s)

/-- The stripe in force ends (R59); a requested Hold takes effect here (R61). -/
def stripeOver (s : State) : State :=
  let s := partitionHold (resumeAtEnd (raise Ev.STRIPE_DONE (absSync (reconcileStripe s))))
  if s.flow.holdReq then enterHold s else s

/-- The stripe in force ends once it is disarmed and no shot of it is outstanding (R59). -/
def tryStripeEnd (s : State) : State :=
  if s.flow.job = .stripe ∧ s.armed.isNone ∧ s.shots.all (fun sh => sh.stripeIdx != s.prog.cur) then stripeOver s else s

/-- Settle what has settled, and end the stripe or the job when that completes it. -/
def settle (s : State) : State := finishEnding (tryStripeEnd (settleAll s))

/-! ## The parameter tick (R43, R53, R64, R182, R293) -/

/-- The last layer closes at a tick: Ready with job state DONE (R64), unless a Proctor restart comes first (log entry 155). -/
def lastLayerEffect (s : State) : State :=
  match s.flow.lastLayer with
  | some (slot, waived) => if s.flow.restartReq then s else
    let s := { s with flow := { s.flow with lastLayer := none, holdReq := false, mode := .ready, job := .done, resume := .none } }
    let s := rasterSync (readyOutputs (closeRecess s))
    complete slot .ok (leBytes 4 waived) (raise Ev.JOB_DONE s)
  | none => s

/-- LAST_LAYER_READY. -/
def execLastLayerReady (s : State) : Res := .next (lastLayerEffect s)

/-- A resume accepted while no stripe is armed takes effect: back to Write with the job state it had (R53, R373). A
cause that arose meanwhile requests its Hold then. -/
def resumeAtTick (s : State) : State :=
  match s.flow.resume with
  | .atTick slot => completeOpt slot .ok [] { s with flow := { s.flow with resume := .none, mode := .write, seen := s.flow.causes } }
  | _ => s

end Sys2Proof.Machine
end

