-- ==== Sys2Proof/Machine/Position.lean ====
section
/-!
DEFINITION. Position input (R184 to R198, R203, R204, R208, R209): edges and frames, validity, the high-water mark,
crossings, reversal and the velocity estimate. Times are in steps of 25 ps.
-/

namespace Sys2Proof.Machine

/-! ## Configuration in force (R210) -/

/-- POS_CFG.FORM in force selects the Position Word Stream. -/
def pwsForm (s : State) : Bool := s.pos.cfg.getLsbD 0

/-- INV of an axis in force (R185, R192; in both forms, log entry 15). -/
def axisInv (s : State) : Axis → Bool
  | .y => s.pos.cfg.getLsbD 1
  | .x => s.pos.cfg.getLsbD 2
  | .yaw => s.pos.cfg.getLsbD 3

/-- L_B in steps (Table 7-1). -/
def bellLatency (s : State) : Int := if pwsForm s then 384 * 40 else 64 * 40

/-- SKEW in steps. -/
def pwsSkew (s : State) : Nat := bits s.pos.pwsCfg.toNat 6 0 * 40

/-- The length of the velocity window in steps (R203). -/
def velWindow (s : State) : Nat := 2 ^ bits s.pos.vel.toNat 2 0 * 32000

/-- The VALID bit of an axis. -/
def validField : Axis → Field
  | .y => Reg.POS_STATUS_VALID_Y
  | .x => Reg.POS_STATUS_VALID_X
  | .yaw => Reg.POS_STATUS_VALID_YAW

/-- An axis is valid. -/
def axisValid (s : State) (a : Axis) : Bool := fbit s (validField a)

/-- One axis. -/
def axisOf (s : State) : Axis → AxisState
  | .y => s.pos.y
  | .x => s.pos.x
  | .yaw => s.pos.yaw

/-- Change one axis. -/
def updAxis (a : Axis) (f : AxisState → AxisState) (s : State) : State :=
  match a with
  | .y => { s with pos := { s.pos with y := f s.pos.y } }
  | .x => { s with pos := { s.pos with x := f s.pos.x } }
  | .yaw => { s with pos := { s.pos with yaw := f s.pos.yaw } }

/-- A signed 40-bit value. -/
def wrap40 (v : Int) : Int := signed 40 (unsigned 40 v)

/-- Set an axis's count. -/
def setCount (a : Axis) (v : Int) (s : State) : State := updAxis a (fun x => { x with count := wrap40 v }) s

/-- An axis is faulted: VALID clears and POS_FAULT is raised (R187). -/
def faultAxis (a : Axis) (s : State) : State :=
  raise Ev.POS_FAULT (fput (validField a) 0 { s with pos := { s.pos with faulted := a :: s.pos.faulted.filter (· != a) } })

/-- An axis becomes invalid: POS_FAULT, and with Y in an armed stripe the stage stops (R187, R191, R196, R304). -/
def invalidate (a : Axis) (s : State) : State :=
  if axisValid s a then
    let s := faultAxis a s
    if a = .y ∧ s.armed.isSome then stopStage s else s
  else s

/-! ## Scan progress and crossings (R193, R197, R198) -/

/-- The list entry of the stripe in progress. -/
def curEntry (s : State) : Option StripeEntry := stripeAt s s.prog.cur

/-- u for a Y count (R193). -/
def progressOf (e : StripeEntry) (y : Int) : Int := wrap40 (e.dir * (y - e.yOrigin))

/-- Change the armed stripe. -/
def updArmed (f : Armed → Armed) (s : State) : State := { s with armed := s.armed.map f }

/-- A crossing interval (R208, Table 7-4): the smallest is kept, and one at or below BELL_GUARD raises OVERSPEED_WARN
once until an interval above BELL_GUARD + (BELL_GUARD >> 6). -/
def crossingInterval (d : Nat) (s : State) : State :=
  let guard := fget s Reg.BELL_GUARD_STEPS
  let s := fmin Reg.BELL_XING_MIN_STEPS d s
  if d ≤ guard then
    raiseIf s.pos.warnArmed Ev.OVERSPEED_WARN { s with pos := { s.pos with warnArmed := false } }
  else if guard + guard / 64 < d then { s with pos := { s.pos with warnArmed := true } }
  else s

/-- Shot `n` is crossed at `tc`, known at `tdet` (R198). -/
def noteCrossing (n : Int) (tc tdet : Nat) (s : State) : State :=
  match s.armed with
  | none => s
  | some a =>
    let s := match a.lastTc with
      | some t => crossingInterval (tc - t) s
      | none => s
    updArmed (fun a => { a with crossings := a.crossings ++ [⟨n, tc, tdet⟩], lastTc := some tc }) s

/-- The high-water mark rises to `u`; each shot position it reaches is crossed at the time `tcOf` gives (R198). -/
def raiseMark (u : Int) (tcOf : Int → Nat) (tdet : Nat) (s : State) : State :=
  if s.armed.isNone || decide (u ≤ s.pos.hwm) then s
  else
    let pc : Int := pixCounts s
    let first := max (-3) (Int.fdiv s.pos.hwm pc + 1)
    let last := Int.fdiv u pc
    let s := { s with pos := { s.pos with hwm := u } }
    (List.range (last - first + 1).toNat).foldl (fun s i => noteCrossing (first + Int.ofNat i) (tcOf (first + Int.ofNat i)) tdet s) s

/-- A backward excursion beyond the jitter window (R204): REVERSAL once per stripe, a Hold under R43, the stage stops. -/
def checkReversal (u : Int) (s : State) : State :=
  if s.armed.isSome && decide ((bits s.pos.jitter.toNat 7 0 : Int) < s.pos.hwm - u) && !fbit s Reg.POS_STATUS_REVERSED then
    requestHold 2 (stopStage (raise Ev.REVERSAL (fput Reg.POS_STATUS_REVERSED 1 s)))
  else s

/-- Keep a position sample, and drop those that no window reaches (R203). -/
def keepSample (t : Nat) (s : State) : State :=
  let w := velWindow s
  let old := s.pos.samples
  let recent := old.takeWhile fun p => decide (t < p.t + w)
  let s := { s with pos := { s.pos with samples := ⟨t, s.pos.y.count, s.pos.x.count, s.pos.yaw.count⟩ :: (recent ++ (old.drop recent.length).take 1) } }
  s

/-! ## Quadrature (R185 to R187) -/

/-- FILT of an axis in force: 0 and 1 act as 2 (R186). -/
def filterOf (s : State) (a : Axis) : Nat :=
  let lo := match a with
    | .y => 4
    | .x => 9
    | .yaw => 14
  actFilt (bits s.pos.cfg.toNat (lo + 4) lo)

/-- An edge has held its level to the core cycle that would accept it, the FILT-th that samples it: the samples span
FILT − 1 core cycles of 25 steps; a shorter pulse is removed (R186; DEDUCED, log entry 126). -/
def edgeHeld (s : State) (a : Axis) (stamp detected : Nat) : Bool := decide (stamp + 25 * (filterOf s a - 1) ≤ detected)

/-- An edge of one axis: `stamp` is the pin edge's time, `detected` the start of the core cycle that accepts it, once the
filter lets it pass. Edges on A and B at once are counted and leave the axis invalid (R187). -/
def quadEdge (a : Axis) (m : QuadMove) (stamp detected : Nat) (s : State) : State :=
  if pwsForm s || s.flow.mode == .boot || s.flow.mode == .rest || !powered s Dom.GATH || !edgeHeld s a stamp detected then s
  else match m with
    | .both => faultAxis a (invalidate a (fcount Reg.POS_QUAD_ERR_COUNT 1 s))
    | mv =>
      let up := (mv == .up) != axisInv s a
      let s := keepSample stamp (setCount a ((axisOf s a).count + (if up then 1 else -1)) s)
      if a = .y then
        match curEntry s with
        | some e =>
          let u := progressOf e s.pos.y.count
          checkReversal u (raiseMark u (fun _ => stamp) detected s)
        | none => s
      else s

/-- QUAD_EDGE. -/
def execQuadEdge (axis : Axis) (move : QuadMove) (stamp detected : Nat) (s : State) : Res :=
  .next (quadEdge axis move stamp detected s)

/-- POS_SET_CMD sets an axis count to POS_SET and marks the axis valid: in quadrature form, in Ready, Hold and Service
and in Write with job state RECESS (R187, R196). -/
def posSet (axis : Nat) (s : State) : State :=
  let ok := modeIn s [.ready, .hold, .service] || inState s .write .recess
  if pwsForm s || !ok || decide (2 < axis) then s
  else
    let a : Axis := if axis = 0 then .y else if axis = 1 then .x else .yaw
    let v := signed 40 (rget64 s Reg.POS_SET_LO Reg.POS_SET_HI)
    let s := fput (validField a) 1 (setCount a v s)
    if a = .y then
      match curEntry s with
      | some e =>
        -- A set has no edge whose stamp could time a crossing (R198): that time is a free value (log entry 127).
        checkReversal (progressOf e v) (raiseMark (progressOf e v) (fun _ => freeNat s) (freeNat s) (useFree s))
      | none => s
    else s

/-- POS_SET. -/
def execPosSet (axis : Nat) (s : State) : Res := .next (posSet axis s)

/-! ## Position Word Stream (R188 to R191) -/

/-- The 17 bytes the CRC covers (R189). -/
def pwsCrcBytes (d0 d1 : BitVec 80) : List Byte :=
  leBytes 9 (d0.toNat / 256) ++ leBytes 8 (d1.toNat / 256)

/-- Both syncs are right and the CRC is correct (R190). -/
def pwsFrameGood (d0 d1 : BitVec 80) : Bool :=
  decide (bits d0.toNat 7 0 = 0xB4 ∧ bits d1.toNat 7 0 = 0x4B ∧ bits d1.toNat 79 72 = crcOf crc8 (pwsCrcBytes d0 d1))

/-- The axes in the order of the STATUS bits. -/
def axes : List Axis := [.y, .x, .yaw]

/-- Frame lock ends: every axis is invalid (R191). -/
def pwsUnlock (s : State) : State :=
  axes.foldl (fun s a => invalidate a s) (fput Reg.POS_STATUS_LOCK 0 s)

/-- A frame that is discarded: counted, and older by one for each axis (R190, R191). -/
def pwsDiscard (s : State) : State :=
  let s := fcount Reg.POS_PWS_ERR_FRAMES 1 s
  let lim := actPwsTimeout s.pos.pwsCfg
  axes.foldl (fun s a =>
    let s := updAxis a (fun x => { x with age := x.age + 1 }) s
    if lim < (axisOf s a).age then invalidate a s else s) s

/-- A position taken from a frame, with the sign of INV. -/
def pwsCount (s : State) (a : Axis) (raw : Nat) : Int :=
  let v := signed 40 raw
  if axisInv s a then wrap40 (-v) else v

/-- A frame whose sequence number does not follow the last one counts a gap. -/
def pwsGap (seq : Nat) (s : State) : State :=
  match s.pos.pws.fseq with
  | some f => if seq ≠ (f + 1) % 16 then fcount Reg.POS_PWS_ERR_GAPS 1 s else s
  | none => s

/-- The counts of a frame are taken, with its sequence number and its latch instant. -/
def pwsTake (seq latch : Nat) (y x w : Int) (s : State) : State :=
  let s := setCount .y y (setCount .x x (setCount .yaw w s))
  { s with pos := { s.pos with pws := { s.pos.pws with fseq := some seq, lastLatch := some latch } } }

/-- Each axis is valid when the frame says so. -/
def pwsValid (d1 : BitVec 80) (s : State) : State :=
  axes.zipIdx.foldl (fun s (p : Axis × Nat) =>
    if d1.getLsbD (56 + p.2) then fput (validField p.1) 1 (updAxis p.1 (fun x => { x with age := 0 }) s) else invalidate p.1 s) s

/-- The instant at which progress reached shot `n`, on the line through the last two samples. -/
def pwsCrossing (s : State) (e : StripeEntry) (prev : Option Sample) (latch : Nat) (u n : Int) : Nat :=
  match prev with
  | some p =>
    let u0 := progressOf e p.y
    let den := u - u0
    if den ≤ 0 then latch else (p.t + rndDiv ((n * pixCounts s - u0) * ((latch : Int) - p.t)) den).toNat
  | none => latch

/-- A frame with a valid y moves the marks of the current stripe. -/
def pwsProgress (yValid : Bool) (y : Int) (prev : Option Sample) (latch arrival : Nat) (s : State) : State :=
  match curEntry s with
  | some e =>
    if !yValid then s
    else checkReversal (progressOf e y) (raiseMark (progressOf e y) (pwsCrossing s e prev latch (progressOf e y)) (arrival + 4000) s)
  | none => s

/-- A good frame's positions and validity: the crossings between it and the good frame before it are interpolated
(R191, R196, R198), one with Y_VALID 0 included (DEDUCED, log entry 163). -/
def pwsUse (d0 d1 : BitVec 80) (arrival : Nat) (s : State) : State :=
  let latch := arrival - pwsSkew s
  let seq := bits d1.toNat 67 64
  let s := pwsGap seq s
  let y := pwsCount s .y (bits d0.toNat 47 8)
  let x := pwsCount s .x (bits d0.toNat 79 48 + 2 ^ 32 * bits d1.toNat 15 8)
  let w := pwsCount s .yaw (bits d1.toNat 55 16)
  let prev := s.pos.samples.head?
  pwsProgress (d1.getLsbD 56) y prev latch arrival (keepSample latch (pwsValid d1 (pwsTake seq latch y x w s)))

/-- A Position Word Stream frame (R190): four consecutive good frames bring lock, four bad ones end it. A frame that
arrives out of lock is discarded, the fourth good one included (log entry 16). One with ERROR set is no bad frame: DEDUCED (log
entry 162). -/
def pwsFrame (d0 d1 : BitVec 80) (arrival : Nat) (s : State) : State :=
  if !pwsForm s || s.flow.mode == .boot || s.flow.mode == .rest || !powered s Dom.GATH then s
  else
    let locked := fbit s Reg.POS_STATUS_LOCK
    if pwsFrameGood d0 d1 then
      let good := s.pos.pws.good + 1
      let s := { s with pos := { s.pos with pws := { s.pos.pws with good := good, bad := 0 } } }
      if locked then (if d1.getLsbD 59 then pwsDiscard s else pwsUse d0 d1 arrival s)
      else pwsDiscard (if 4 ≤ good then fput Reg.POS_STATUS_LOCK 1 s else s)
    else
      let bad := s.pos.pws.bad + 1
      let s := pwsDiscard { s with pos := { s.pos with pws := { s.pos.pws with good := 0, bad := bad } } }
      if locked && decide (4 ≤ bad) then pwsUnlock s else s

/-- PWS_FRAME. -/
def execPwsFrame (d0 d1 : BitVec 80) (arrival : Nat) (s : State) : Res := .next (pwsFrame d0 d1 arrival s)

/-- PWS_AXIS_TIMEOUT: the last good frame that set VALID has grown older than TIMEOUT frames (R191). -/
def execPwsAxisTimeout (axis : Axis) (s : State) : Res :=
  .next (if pwsForm s then invalidate axis s else s)

/-- SHOT_CROSSED: h reaches the position of shot `n` at `tc`, known at `tdet` (R198). -/
def shotCrossed (n : Int) (tc tdet : Nat) (s : State) : State :=
  if s.armed.isSome && decide (s.pos.hwm < n * pixCounts s ∧ -3 ≤ n) then
    noteCrossing n tc tdet { s with pos := { s.pos with hwm := n * pixCounts s } }
  else s

/-- SHOT_CROSSED. -/
def execShotCrossed (shot : Int) (tc tdet : Nat) (s : State) : Res := .next (shotCrossed shot tc tdet s)

/-! ## Velocity and snapshot (R203, R205, R209) -/

/-- A position at a time as a fraction: the value of the last sample up to it, or in PWS form the interpolation to the
next one. Before the oldest sample it is that sample's (DEDUCED, log entry 165). -/
def posAt (pws : Bool) (f : Sample → Int) (samples : List Sample) (t : Int) : Int × Int :=
  let later := samples.takeWhile fun p => decide (t < p.t)
  let earlier := samples.drop later.length
  match earlier.head?, later.getLast? with
  | some a, some b =>
    if pws ∧ a.t < b.t then (f a * ((b.t : Int) - a.t) + (f b - f a).bmod (2 ^ 40) * (t - a.t), (b.t : Int) - a.t) else (f a, 1)
  | some a, none => (f a, 1)
  | none, some b => (f b, 1)
  | none, none => (0, 1)

/-- The velocity of an axis over the window that ends at `t`: signed, counts per step in 1/2^32 (R203). -/
def velocity (s : State) (f : Sample → Int) (t : Nat) : Int :=
  let w := velWindow s
  let a := posAt (pwsForm s) f s.pos.samples t
  let b := posAt (pwsForm s) f s.pos.samples ((t : Int) - w)
  rndDiv ((a.1 * b.2 - b.1 * a.2).bmod (2 ^ 40 * (a.2 * b.2).toNat) * 2 ^ 32) (a.2 * b.2 * w)

/-- v_y along the scan (R203, R193). -/
def scanVelocity (s : State) (e : StripeEntry) (t : Nat) : Int := e.dir * velocity s (·.y) t

/-- θ from a yaw count (R195). -/
def yawOf (s : State) (w : Int) : Int :=
  let zero := signed 40 (rget64 s Reg.POS_YAW_ZERO_LO Reg.POS_YAW_ZERO_HI)
  Int.fdiv ((w - zero) * fint s Reg.POS_YAW_GAIN_GAIN + 2 ^ 15) (2 ^ 16)

/-- A read of POS_Y_LO captures every position register from one instant (R209). -/
def posYLoCapture (s : State) : State :=
  let put := fun (lo hi : Nat) (v : Int) (s : State) => rset64 lo hi (unsigned 40 v) s
  put Reg.POS_HWM_LO Reg.POS_HWM_HI s.pos.hwm (put Reg.POS_YAW_LO Reg.POS_YAW_HI s.pos.yaw.count
    (put Reg.POS_X_LO Reg.POS_X_HI s.pos.x.count (put Reg.POS_Y_LO Reg.POS_Y_HI s.pos.y.count s)))

/-- POS_Y_LO_READ. -/
def execPosYLoRead (s : State) : Res := .next (if powered s Dom.GATH then posYLoCapture s else s)

end Sys2Proof.Machine
end

