-- ==== Sys2Proof/Machine/Bell.lean ====
section
/-!
DEFINITION. The Bell (R26, R27, R58, R182, R197 to R208): arming, slots, the firing check, the prediction, gather start
and the parameter tick.
-/

namespace Sys2Proof.Machine

/-! ## Arming (R58, R197) -/

/-- Finished bands of a stripe in the ring, counting those already loaded into its Window. -/
def finishedBands (s : State) (i : Nat) : Nat :=
  (s.ras.ring.filter fun b => b.stripeIdx == i).length +
  (if s.win.stripeIdx = some i then (Int.fdiv (max 0 s.win.next) 256).toNat else 0)

/-- The band ring holds the lead that a start needs (R58). -/
def leadReady (s : State) : Bool :=
  match curEntry s with
  | some e => decide (min s.prog.startLead (e.h / 256) ≤ finishedBands s s.prog.cur)
  | none => false

/-- The latest digest equals the job header's expected digest (R52, R58; the module's own alone carries weight, R414). -/
def digestOk (s : State) : Bool :=
  match s.job with
  | none => true
  | some j => ownDigest s == j.digest

/-- In a cohort, the GO that named the stripe has been accepted at the present epoch (R423). -/
def goneFor (s : State) (e : StripeEntry) : Bool :=
  !inCohort s || s.coh.go == some (e.layer, e.stripe, (rget s Reg.COH_EPOCH).toNat)

/-- No Hold cause is in force (R58). -/
def noCause (s : State) : Bool := s.flow.causes == 0

/-- A stripe may start but for the position input (R58): Write, between stripes, with a stripe to write, its Window
open, and no lost record open (R277). -/
def startReady (s : State) : Bool :=
  match curEntry s with
  | none => false
  | some e =>
    inState s .write .recess && leadReady s && digestOk s && s.prog.speed && noCause s && goneFor s e &&
    decide (s.win.stripeIdx = some s.prog.cur) && !transitioning s && !s.flow.holdReq && s.health.run.isNone && s.abs.lost.isNone

/-- POS_CFG, POS_JITTER, POS_VEL and POS_PWS_CFG are sampled (R210). -/
def samplePosCfg (s : State) : State :=
  let form := (rget s Reg.POS_CFG).getLsbD 0
  let was := pwsForm s
  let s := takePosCfg s
  if form = was then s
  else
    let s := axes.foldl (fun s a => fput (validField a) 0 s) (fput Reg.POS_STATUS_LOCK 0 s)
    { s with pos := { s.pos with pws := ⟨0, 0, none, none⟩, samples := [], faulted := [] } }

/-- The P_prev of the first lead slot (R199). -/
def firstPeriod (s : State) (vy : Int) : Nat :=
  if vy ≤ 0 then actPmin s else max (actPmin s) (Int.tdiv ((pixCounts s : Int) * 2 ^ 32) vy).toNat

/-- The armed stripe is given up without an entry: none of its shots has had its Bell, and the job stands before it again
(R303). -/
def unarm (s : State) : State :=
  let s := disarm { s with shots := s.shots.filter fun sh => sh.stripeIdx != s.prog.cur }
  assertBlank { s with flow := { s.flow with job := .recess } }

/-- The armed stripe may still be given up: its shot 0 has had no Bell. -/
def mayUnarm (s : State) : Bool := s.shots.all fun sh => sh.stripeIdx != s.prog.cur || decide (sh.shot < 0) || sh.bell.isNone

/-- The motion master repeats steps 3, 5, 6 and 1 for the same stripe, and the repeat logs nothing (R303). Where it has
armed the stripe itself, it gives that up while no shot from 0 on has had its Bell (DEDUCED, log entry 146). -/
def repeatApproach (s : State) : State :=
  if s.flow.job = .stripe ∧ (s.armed.isNone ∨ !mayUnarm s) then s
  else
    let s := stopChan 0 (if s.armed.isSome then unarm s else s)
    { s with mot := { s.mot with step := if (chan s 0).seg.isSome then 3 else 6 }, prog := { s.prog with speed := false } }

/-- An arming miss: the stage is already too far on (R197); the motion master repeats the approach, and another
member reports the miss to it (R303, R422). -/
def armMiss (s : State) : State :=
  let s := raise Ev.ARM_MISS (fcount Reg.BELL_ARM_MISS_COUNT 1 s)
  if isMaster s then repeatApproach s
  else match curEntry s with
    | some e => broadcast Kind.armMiss (stripePayload e) { s with prog := { s.prog with speed := false } }
    | none => s

/-- The record of a shot of the armed stripe, with the strobe settings sampled at arming (R243). -/
def newShot (s : State) (e : StripeEntry) (n : Int) : Shot :=
  let (slice, skew) := match s.armed with
    | some a => (a.slice, a.skew)
    | none => (actSlice s, (List.range 8).map fun g => fget s (Reg.OUT_SKEW_STEPS g))
  Shot.fresh s.prog.cur e (jobTag s) n (rget s Reg.GTH_PSET_SEQ) slice skew

/-- A lead shot's record. -/
def leadShot (s : State) (e : StripeEntry) (n : Int) : Shot :=
  { newShot s e n with gathered := true }

/-- The module arms the stripe at time `t` (R197): h takes the present u, and the lead slots are assigned. A Recess slot
that is still open ends here: on a member that is not the motion master, which hears nothing of the approach (R60; DESIGN
CHOICE, log entry 129). -/
def armStripe (t : Nat) (s : State) : State :=
  match curEntry s with
  | none => s
  | some e =>
    if !startReady s then s
    else
      let s := samplePosCfg s
      if !axisValid s .y then s
      else
        let u := progressOf e s.pos.y.count
        if -4 * (pixCounts s : Int) ≤ u then armMiss s
        else
          let a : Armed := { stripeIdx := s.prog.cur, slots := [-3, -2, -1], tPrev := none, pPrev := firstPeriod s (scanVelocity s e t),
                             crossings := [], lastTc := none, next := 0, slice := actSlice s,
                             skew := (List.range 8).map fun g => fget s (Reg.OUT_SKEW_STEPS g) }
          let s := closeRecess s
          let s := { s with
            armed := some a, pos := { s.pos with hwm := u }, flow := { s.flow with job := .stripe }
            prog := { s.prog with lastStarted := some (e.layer, e.stripe) }
            shots := s.shots ++ [leadShot s e (-3), leadShot s e (-2), leadShot s e (-1)] }
          fput Reg.POS_STATUS_ARMED 1 (fput Reg.POS_STATUS_REVERSED 0 (fputBit Reg.CLK_XOVR_FLAGS 0 false s))

/-- STRIPE_ARM. -/
def execStripeArm (t : Nat) (s : State) : Res := .next (armStripe t s)

/-! ## The slot of a Bell (R199) -/

/-- P_floor (R199). -/
def periodFloor (s : State) (p : Int) : Int := max (actPmin s) (p - Int.fdiv p 16)

/-- Bell time and period of the slot that carries a crossed shot. The first lead slot takes P_floor from P_prev: DEDUCED (log entry
164). -/
def bellTime (s : State) (a : Armed) (c : Crossing) : Int × Int :=
  let base := max ((c.tc : Int) + bellLatency s) ((c.tdet : Int) + 640)
  match a.tPrev with
  | some tp =>
    let t := max base (tp + periodFloor s a.pPrev)
    (t, t - tp)
  | none => (base, periodFloor s a.pPrev)

/-! ## The firing check (R206) -/

/-- A value in 1/16 px, rounded and saturated (R194). -/
def sixteenths (a den : Int) : Int := max (-32768) (min 32767 (rndDiv a den))

/-- A position at the Bell: the count, or in PWS form the last good frame's position carried on with the velocity
(log entry 17). -/
def posNow (s : State) (f : Sample → Int) (now : Int) (t : Int) : Int :=
  if pwsForm s then
    match s.pos.samples.head? with
    | some p => now * 2 ^ 32 + velocity s f p.t * (t - p.t)
    | none => now * 2 ^ 32
  else now * 2 ^ 32

/-- u for a Y position in 1/2^32 counts, in 40-bit modular arithmetic (R193). -/
def progressOf32 (e : StripeEntry) (y : Int) : Int := signed 72 (unsigned 72 (e.dir * (y - e.yOrigin * 2 ^ 32)))

/-- The measured stage errors of a shot at its Bell time `t` (R194, R206): e_y is how far u has gone since the crossing
t_c(n), at which it is n × PIX_COUNTS (R198). -/
def measuredErrors (s : State) (e : StripeEntry) (n t : Int) : Int × Int :=
  let pc : Int := pixCounts s
  let y := posNow s (·.y) s.pos.y.count t
  let x := posNow s (·.x) s.pos.x.count t
  let u := progressOf32 e y
  (sixteenths (16 * (x - e.xOrigin * 2 ^ 32)) (pc * 2 ^ 32), sixteenths (16 * (u - n * pc * 2 ^ 32)) (pc * 2 ^ 32))

/-- The check of the shot a Bell fires: beyond POS_TRACK.TOL its strobes are withheld and the whole shot is logged
CORRECTION_RANGE. A shot blanked for another reason than HOLD is checked too: DEDUCED (log entry 166). -/
def firingCheck (e : StripeEntry) (n t : Int) (s : State) : State :=
  match s.shots.find? (fun sh => sh.stripeIdx == s.prog.cur && sh.shot == n) with
  | none => s
  | some sh =>
    if n < 0 ∨ sh.whole.contains .hold then s
    else
      let m := measuredErrors s e n t
      let d := max (m.1 - sh.ex).natAbs (m.2 - sh.ey).natAbs
      let s := fmax Reg.POS_RESID_MAX_VALUE d s
      if actTrackTol s < d then
        let s := updShot s.prog.cur n (fun sh => { sh with whole := sh.whole ++ [.correctionRange] }) s
        raise Ev.CORRECTION_RANGE (fcount Reg.BELL_TRACK_CUT_COUNT 1 s)
      else s

/-! ## Prediction and gather start (R205) -/

/-- One step of bell() in the prediction: the Bell time, period and predicted crossing of shot `n`. -/
def predictBell (s : State) (us vy ts : Int) (n t p : Int) : Int × Int × Int :=
  let tc := ts + Int.tdiv ((n * pixCounts s - us) * 2 ^ 32) vy
  let tn := max (tc + bellLatency s) (t + periodFloor s p)
  (tn, tn - t, tc)

/-- The candidate the prediction settles on, and the shots it drops before it. -/
structure Pick where
  drops : List Int
  shot : Int
  t : Int
  ey : Int
  deriving DecidableEq, Repr

/-- The loop of R205 from candidate `k`; `S` bounds it. -/
def pickShot (s : State) (h : Nat) (theta us vy ts t p : Int) : Nat → Int → List Int → Pick
  | 0, k, drops => ⟨drops, k, t, 0⟩
  | fuel + 1, k, drops =>
    let (t1, _, tc) := predictBell s us vy ts k t p
    let pc : Int := pixCounts s
    let ey := sixteenths (vy * (t1 - tc) * 16) (pc * 2 ^ 32)
    let d := sixteenths (vy * (t1 - tc - bellLatency s) * 16) (pc * 2 ^ 32)
    if yTestFails s ⟨k, h, 0, ey, theta⟩ ∧ 16 ≤ d then pickShot s h theta us vy ts t p fuel (k + 1) (drops ++ [k])
    else ⟨drops, k, t1, ey⟩

/-- A shot dropped under R205: counted, and logged in its turn with the first of its reasons. -/
def dropShot (e : StripeEntry) (k : Int) (s : State) : State :=
  let sh := { newShot s e k with
    whole := .overspeedDrop :: blockReasons s k, gathered := true, table := s.beams.table, btSets := s.beams.changed
    lanes := List.replicate 64 { LaneShot.fresh with cls := some .match } }
  raise Ev.OVERSPEED_DROP (fcount Reg.BELL_DROP_COUNT 1
    { updArmed (fun a => { a with next := k + 1 }) s with shots := s.shots ++ [sh], beams := { s.beams with changed := [] } })

/-- Gather start at the Bell of slot j, sampled at `ts`: the prediction, the drops, and the gather of slot j + 3's shot
(R205). -/
def gatherStart (e : StripeEntry) (tj pj : Int) (ts : Nat) (rest : List Int) (s : State) : State :=
  match rest.getLast? with
  | none => s
  | some last =>
    if (e.h : Int) + 4095 ≤ last then s
    else
      let vy := scanVelocity s e ts
      let vx := velocity s (·.x) ts
      let ys := posAt (pwsForm s) (·.y) s.pos.samples ts
      let us : Int := if s.pos.samples.isEmpty then progressOf e s.pos.y.count else progressOf e (Int.fdiv ys.1 ys.2)
      let xs := posAt (pwsForm s) (·.x) s.pos.samples ts
      let x0 : Int := if s.pos.samples.isEmpty then s.pos.x.count else Int.fdiv xs.1 xs.2
      let ws := posAt (pwsForm s) (·.w) s.pos.samples ts
      let theta := yawOf s (if s.pos.samples.isEmpty then s.pos.yaw.count else Int.fdiv ws.1 ws.2)
      let (t2, p2) := rest.dropLast.foldl (fun (tp : Int × Int) _ => tp) (tj, pj)
      let (t3, p3) := if vy ≤ 0 then (t2, p2) else
        rest.foldl (fun (tp : Int × Int) n => ((predictBell s us vy ts n tp.1 tp.2).1, (predictBell s us vy ts n tp.1 tp.2).2.1)) (t2, p2)
      let pick : Pick := if vy ≤ 0 then ⟨[], last + 1, ts, 0⟩ else pickShot s e.h theta us vy ts t3 p3 (e.h + 4096) (last + 1) []
      let inS := fun (k : Int) => decide (k ≤ (e.h : Int) + 4095)
      let s := (pick.drops.filter inS).foldl (fun s k => dropShot e k s) s
      if !inS pick.shot then s
      else
        let ex := sixteenths (16 * ((x0 - e.xOrigin) * 2 ^ 32 + vx * (pick.t - ts))) ((pixCounts s : Int) * 2 ^ 32)
        let s := updArmed (fun a => { a with slots := a.slots ++ [pick.shot], next := pick.shot + 1 }) s
        let s := sample Src.errX [ex] (sample Src.errY [pick.ey] s)
        let bad := !axisValid s .y || !axisValid s .x || !axisValid s .yaw || decide (theta < -(2 ^ 23) ∨ 2 ^ 23 - 1 < theta)
        gatherShot ⟨pick.shot, e.h, ex, pick.ey, theta⟩ bad (s.flow.mode == .hold)
          (newShot s e pick.shot) s

/-! ## The Bell (R58, R199, R202, R232) -/

/-- A requested Hold takes effect at a Bell (R43). -/
def bellHold (s : State) : State := if s.flow.holdReq then enterHold s else s

/-- OUT_OF_STEP asserts BLANK_ALL at a Bell (R414). -/
def bellOutOfStep (s : State) : State :=
  if s.out.outOfStep then { assertBlank s with out := { s.out with outOfStepStripe := some s.prog.cur } } else s

/-- An in-stripe resume returns to Write at its Bell (R53). -/
def bellResume (n : Int) (s : State) : State :=
  match s.flow.resume with
  | .inStripe first _ => if first - 3 ≤ n ∧ s.flow.mode = .hold then { s with flow := { s.flow with mode := .write, seen := s.flow.causes } } else s
  | _ => s

/-- What a Bell hands over: a requested Hold (R43), OUT_OF_STEP (R414), the parameter set (R178) and the Beam Table
(R159), and the return to Write of an in-stripe resume (R53). -/
def bellHandOver (n : Int) (s : State) : State :=
  bellResume n (beamApply (some n) (psetSwap (bellOutOfStep (bellHold s))))

/-- The shot of the next slot. -/
def nextSlotShot (s : State) : Option Shot :=
  match s.armed with
  | some a => match a.slots with
    | m :: _ => s.shots.find? fun sh => sh.stripeIdx == s.prog.cur && sh.shot == m
    | [] => none
  | none => none

/-- BLANK_ALL is released at the Bell before the first Bell of a run that fires a SHOT frame (R232). -/
def bellRelease (s : State) : State :=
  match nextSlotShot s with
  | some sh => if 0 ≤ sh.shot ∧ sh.whole = [] ∧ blockReasons s sh.shot = [] ∧ mayRelease s then fput Reg.OUT_STATUS_BLANK 0 s else s
  | none => s

/-- Reasons in force at a shot's Bell join the shot (R39, R41). -/
def bellReasons (n : Int) (s : State) : State :=
  let rs := if n < 0 then [] else blockReasons s n
  let s := updShot s.prog.cur n (fun sh => { sh with whole := sh.whole ++ rs.filter fun r => !sh.whole.contains r }) s
  raiseIf (rs.contains .hold) Ev.HOLD s

/-- Shots from which firing resumes have been reached: the sources that ended no longer hold anything back. -/
def bellExpire (n : Int) (s : State) : State :=
  let s := match s.out.supplyTo with
    | some k => if k ≤ n then { s with out := { s.out with supplyTo := none } } else s
    | none => s
  match s.out.link.clearsAt with
  | some k => if k ≤ n then { s with out := { s.out with link := { s.out.link with clearsAt := none } } } else s
  | none => s

/-- The Bell of the last slot: the stripe is disarmed, and channel B starts its step (R202, Table 11-5 step 4). -/
def bellLast (s : State) : State :=
  let s := disarm s
  match nextStripe s with
  | some e => if isMaster s && chanQuiet s 1 && chanMode s 1 == 1 && (chan s 1).rest != Dy.ofInt e.xOrigin then
      firmwareSegment 1 (stepWords s e) s else s
  | none => s

/-- The slot of shot `n` has its Bell at `t`: the slot is spent and the Bell registers show it (R199, R202). -/
def bellShown (n : Int) (rest : List Int) (c : Crossing) (t : Int) (p : Int) (s : State) : State :=
  let s := updArmed (fun a => { a with slots := rest, tPrev := some t, pPrev := p, crossings := a.crossings.filter fun c => decide (n < c.shot) })
    { s with prog := { s.prog with lastBell := s.prog.lastStarted } }
  fput Reg.BELL_DEFER_STEPS (unsigned 32 (t - c.tc - bellLatency s))
    (fput Reg.BELL_SHOT_SHOT (unsigned 32 n) (fput Reg.BELL_PERIOD_STEPS p.toNat s))

/-- The shot of a Bell starts its gather, and the shots before it go on (R199, R232, R233). -/
def bellGather (e : StripeEntry) (n : Int) (t : Int) (p : Int) (ts : Nat) (rest : List Int) (s : State) : State :=
  let s := bellReasons n (countCleanSlot (firingCheck e n t s))
  let s := updShot s.prog.cur n (fun sh => { sh with bell := some (t, p) }) s
  bellExpire n (bellRelease (gatherStart e t p ts rest s))

/-- The last slot of the stripe has had its Bell. -/
def bellOver (s : State) : State :=
  if (match s.armed with | some a => a.slots.isEmpty | none => false) then blankIfOver (settle (bellLast s)) else s

/-- A Bell: what it hands over, then, unless that disarmed the stripe, its shot. -/
def bellFire (e : StripeEntry) (n : Int) (rest : List Int) (c : Crossing) (t : Int) (p : Int) (ts : Nat) (s : State) : State :=
  let s := bellHandOver n (bellShown n rest c t p s)
  if s.armed.isNone then s else bellOver (bellGather e n t p ts rest s)

/-- The Bell of the next slot, once its shot has been crossed; `ts` is the sample instant of the snapshot. -/
def bellEvent (ts : Nat) (s : State) : State :=
  match s.armed, curEntry s with
  | some a, some e =>
    match a.slots with
    | [] => s
    | n :: rest =>
      match a.crossings.find? (·.shot == n) with
      | none => s
      | some c => bellFire e n rest c (bellTime s a c).1 (bellTime s a c).2 ts s
  | _, _ => s

/-- The Bell's pulse crosses to the core. While both clocks are in lock it does so before the next Bell; under a clock fault it may
overrun, which is a free value: the bit is set, CROSSING_OVERRUN raised, and firmware requests Hold (R491, R492; log entry 173). -/
def bellCrossing (s : State) : State :=
  if fbit s Reg.CLK_STATUS_BELL && fbit s Reg.CLK_STATUS_CORE then s
  else if freeNat s % 2 = 1 then requestHostHold (raise Ev.CROSSING_OVERRUN (fputBit Reg.CLK_XOVR_FLAGS 0 true (useFree s)))
  else useFree s

/-- BELL. -/
def execBell (ts : Nat) (s : State) : Res := .next (bellEvent ts (if s.armed.isSome then bellCrossing s else s))

/-! ## The parameter tick (R182) -/

/-- The calibration votes that a check run has left are withdrawn once its results are applied (R250, Table 20-2). -/
def endChecks (s : State) : State :=
  if s.health.run.isNone && s.beams.applyCmd.isNone && s.beams.queue.isEmpty then
    setVotes [Dom.GATH, Dom.OUT] Client.cal false s
  else s

/-- While no stripe is armed a tick stands in for the Bell (R159, R178). -/
def tickBeams (s : State) : State := if s.armed.isNone then endChecks (beamApply none (psetSwap s)) else s

/-- Channels that rest start their planned segments at a tick (R293). -/
def tickMotion (s : State) : State :=
  if s.flow.mode == .rest then s else (List.range 6).foldl (fun s n => startAtTick n s) s

/-- The master's report of scan speed reaches a member: it follows the GO of the stripe, and since no frame of Table 17-2
carries it, the tick at which it has come is a free value (R303; log entry 32). -/
def hearSpeed (s : State) : State :=
  match curEntry s with
  | some e =>
    if isMaster s || s.prog.speed || !goneFor s e || !inState s .write .recess then s
    else useFree { s with prog := { s.prog with speed := decide (freeNat s % 2 = 1) } }
  | none => s

/-- A tick of the free-running count: while no stripe is armed it stands in for the Bell (R43, R53, R64, R159, R178,
R293); with one armed it may end the wait of a requested Hold (R43). Channels that rest start their planned segments,
and firmware positions the stage. -/
def parameterTick (s : State) : State :=
  if !coreRuns s then s
  else stageNext (positionLocate (positionStage (tickMotion (holdEffect (resumeAtTick (lastLayerEffect (tickBeams (hearSpeed s))))))))

/-- PARAMETER_TICK. -/
def execParameterTick (s : State) : Res := .next (parameterTick s)

/-- BEAM_TABLE_APPLY: the Bell or tick at which a seen APPLY takes effect (R17, R159). -/
def execBeamTableApply (s : State) : Res :=
  .next (beamApply (match s.armed with
    | some _ => some (signed 32 (fget s Reg.BELL_SHOT_SHOT))
    | none => none) s)

/-- The shot that the next Bell gathers: the one after the last assigned or dropped (R205); j + 4 while nothing is
dropped. -/
def nextGathered (s : State) : Int :=
  match s.armed with
  | some a => a.next
  | none => 0

end Sys2Proof.Machine
end

