-- ==== Sys2Proof/Machine/CheckRun.lean ====
section
/-!
DEFINITION. Check runs (R247 to R253, R260, R261): the contents of a batch's check Bells, its check shots, void check
Bells, and how the steps are ordered (R264).
-/

namespace Sys2Proof.Machine

/-! ## Operands as they act (Table 9-5) -/

/-- BHM_TEST.COUNT: 0 acts as 1, limited under R249. -/
def actTestCount (s : State) : Nat := min (max 1 (fget s Reg.BHM_TEST_COUNT)) (12000 / actSlice s)
def actRepeat (s : State) : Nat := max 1 (fget s Reg.BHM_TEST_REPEAT)
def actDarkBells (s : State) : Nat := max 1 (fget s Reg.BHM_DARK_BELLS)
def actSamples (s : State) : Nat := max 1 (fget s Reg.BHM_CAL_CFG_SAMPLES)
/-- BHM_GATE.OPEN_NS in steps: values above 40 act as 40. -/
def actGateOpen (s : State) : Nat := 40 * min 40 (fget s Reg.BHM_GATE_OPEN_NS)

/-- The detector is in the beam path (R246). -/
def detectorReady (s : State) : Bool :=
  let g := fget s Reg.BHM_CFG_READY_GPIO
  decide (8 ≤ g) || gpioLevel s g

/-! ## Contents -/

/-- The scan index of content `c` of a SCAN batch. -/
def Batch.scanIndex (b : Batch) (c : Nat) : Nat := b.base + c % 1024

/-- The beam of group `g` at scan index `j` (R252). -/
def scanBeam (j g : Nat) : Nat := 4096 * (8 * (j / 4096) + g) + j % 4096

/-- The position in the plan of content `c` of a CAL batch; none for the samples at zero. -/
def Batch.calPos (b : Batch) (c : Nat) : Option Nat := if c < b.samp then none else some ((c - b.samp) / (b.settle + b.samp))

/-- The content of check Bell `i`; none past the end of the batch. -/
def Batch.content (b : Batch) (i : Nat) : Option Nat := if i < b.n then some i else b.extra[i - b.n]?

/-- The last check Bell that plays content `c`. -/
def Batch.bellOf (b : Batch) (c : Nat) : Int :=
  match (b.extra.zipIdx.filter fun p => p.1 == c).getLast? with
  | some (_, k) => b.n + k
  | none => c

/-- The counts a check Bell of content `c` fires (Table 9-1, R252, R261). -/
def Batch.counts (b : Batch) (t : BeamTable) (c : Nat) : List (Nat × Nat) :=
  match b.step with
  | .scan => (List.range 8).filterMap fun g =>
      let x := scanBeam (b.scanIndex c) g
      if entLive (entry t x) then some (x, b.count) else none
  | .recheck => b.plan.map fun x => (x, b.count)
  | .cal => match b.calPos c with
    | none => []
    | some k => (b.plan[k]?).toList.map fun x => (x, 31)
  | _ => []

/-- Every check Bell of the batch has run. -/
def Batch.played (b : Batch) : Bool := decide ((b.n + b.extra.length : Nat) ≤ b.i + 1)

/-- Change the batch in progress. -/
def updBatch (f : Batch → Batch) (s : State) : State := { s with health := { s.health with run := s.health.run.map f } }

/-! ## Check shots (R248) -/

/-- What stands in for the stripe of a check shot. -/
def checkStripe (s : State) : Nat := 2 ^ 32 + s.health.serial

/-- The shot of check Bell `i`: a SHOT frame on every lane, with the counts of its content; it writes no Absence Log
entry. -/
def checkShot (s : State) (b : Batch) (i c : Nat) : Shot :=
  { stripeIdx := checkStripe s, layer := 0, stripe := 0, lastShot := 0, jobTag := 0, shot := checkShot0 + (b.start + i : Nat),
    psetSeq := 0, ex := 0, ey := 0, theta := 0, whole := [], gathered := true, dosed := true, slice := actSlice s,
    skew := (List.range 8).map fun g => fget s (Reg.OUT_SKEW_STEPS g), closed := false, rest := false, table := [],
    counts := b.counts s.beams.table c, absent := [], rowsBeams := [], btSets := [], lanes := List.replicate 64 { LaneShot.fresh with passed := true },
    groups := List.replicate 8 ⟨none, false⟩, bell := none }

/-- The shot of check Bell `i` exists from the check Bell before it. -/
def ensureCheckShot (i : Nat) (s : State) : State :=
  match s.health.run with
  | none => s
  | some b =>
    match b.content i with
    | none => s
    | some c =>
      if s.shots.any fun sh => sh.stripeIdx == checkStripe s && sh.shot == checkShot0 + (b.start + i : Nat) then s
      else
        let sh := checkShot s b i c
        { updBatch (fun b => { b with fired := b.fired ++ (sh.counts.map fun p => ((i : Int), groupOf (laneOf p.1))).eraseDups }) s
          with shots := s.shots ++ [sh] }

/-- Contents are added at the end of the batch. -/
def appendContents (cs : List Nat) (s : State) : State :=
  match s.health.run with
  | none => s
  | some b =>
    let s := updBatch (fun b => { b with extra := b.extra ++ cs }) s
    if b.played then ensureCheckShot (b.i + 1).toNat s else s

/-- An echo of check Bell `i` is not in class MATCH: its windows are void and it is repeated once; a second void fails
the batch, and the run ends (R248, R250). -/
def checkVoid (sh : Shot) (s : State) : State :=
  match s.health.run with
  | none => s
  | some b =>
    if sh.stripeIdx ≠ checkStripe s then s
    else match b.content (sh.shot - checkShot0 - b.start).toNat with
      | none => s
      | some c =>
        let first := b.bellOf c == sh.shot - checkShot0 - b.start
        if !b.voids.contains c then appendContents [c] (updBatch (fun b => { b with voids := c :: b.voids }) s)
        else if first then endCheckRun s
        else s

/-! ## Results -/

/-- Group `g`'s window of content `c` was PULSED. -/
def Batch.sawPulse (b : Batch) (c g : Nat) : Bool := b.pulsed.contains (b.bellOf c, g)

/-- Group `g` fired a beam at content `c`. -/
def Batch.firedAt (b : Batch) (c g : Nat) : Bool := b.fired.contains (b.bellOf c, g)

/-- A SCAN batch fails (R253): a window HELD, or one PULSED whose group fired only beams with ignored windows, which are
those that were given count 0 at that check Bell (R252). -/
def Batch.scanFails (b : Batch) : Bool :=
  b.step == .scan &&
  (List.range b.n).any fun c => (List.range 8).any fun g =>
    b.held.contains (b.bellOf c, g) || (b.sawPulse c g && !b.firedAt c g)

/-- PULSED windows of the batch that stand. -/
def Batch.pulses (b : Batch) : Nat :=
  (List.range b.n).foldl (fun a c => a + ((List.range 8).filter (b.sawPulse c)).length) 0

/-- The samples of the plan's beam at position `k`, without those discarded (R261). -/
def Batch.beamSamples (b : Batch) (k : Nat) : List Nat :=
  (List.range b.samp).filterMap fun r => (b.samples.find? fun p => p.1 == b.samp + k * (b.settle + b.samp) + b.settle + r).map (·.2)

/-- Σdark (R261). -/
def Batch.darkSum (b : Batch) : Nat := (b.samples.filterMap fun p => if p.1 < b.samp then some p.2 else none).foldl (· + ·) 0

/-! ## The table as it will stand -/

/-- The Beam Table with every change firmware has made and not yet applied, in the order of R376. -/
def tableAhead (s : State) : BeamTable :=
  let t := match s.beams.applyCmd with
    | some (w, _) => (stagedEntries s w).foldl (fun t p => putEntry t p.1 p.2) s.beams.table
    | none => s.beams.table
  s.beams.queue.foldl (fun t q => rerank (q.2.1.foldl (fun t p => putEntry t p.1 p.2) t) q.1) t

/-- Write one beam's entry through R159 (R255). -/
def applyBeam (b : Nat) (e : DWord) (s : State) : State := queueApply (entSet e).toNat [(b, e)] none s

/-- A beam is retired (Table 9-2): BEAM_RETIRED, and COVER_LOW when its set's L falls below BHM_CFG.L_WARN. One that
BEAM_SET has made retired or stuck-open meanwhile is left as it is. -/
def retireBeam (b : Nat) (s : State) : State :=
  let t := tableAhead s
  let e := withStatus (entry t b) 2
  let live := (liveMembers (putEntry t b e) (entSet e)).length
  if !entLive (entry t b) then s
  else raiseIf (decide (live < fget s Reg.BHM_CFG_L_WARN)) Ev.COVER_LOW (raise Ev.BEAM_RETIRED (applyBeam b e s))

/-! ## The beams of a CAL batch (R261 to R263) -/

/-- What R262 finds for one beam. -/
inductive CalResult where
  | again
  | retire
  | write (g status : Nat)
  deriving DecidableEq, Repr

/-- The result of a beam: its samples, Σdark, S, REF, and whether it has been measured again for saturation (R262). -/
def calResult (xs : List Nat) (dark samp ref : Nat) (second : Bool) : CalResult :=
  if xs.contains 65535 then (if second then .retire else .again)
  else
    let d : Int := ((xs.foldl (· + ·) 0 : Nat) : Int) - dark
    let r : Int := samp * ref
    if d ≤ 0 then .retire
    else
      let g := Int.fdiv (4096 * r + d) (2 * d)
      if g < 1024 ∨ 4095 < g then .retire
      else .write g.toNat (if 10 * d < 9 * r ∨ 11 * r < 10 * d then 1 else 0)

/-- The beam at position `k` of the plan is judged, and written unless it is measured again or is no longer live (R256,
R262, R263). -/
def judgeBeam (b : Batch) (k : Nat) (s : State) : State :=
  match b.plan[k]? with
  | none => s
  | some x =>
    let s := updBatch (fun b => { b with judged := k :: b.judged }) s
    match calResult (b.beamSamples k) b.darkSum b.samp (fget s Reg.BHM_CAL_REF_REF) (b.saturated.contains x) with
    | .again => updBatch (fun b => { b with redo := b.redo ++ [x], saturated := x :: b.saturated }) s
    | .retire => retireBeam x s
    | .write g st =>
      if entLive (entry (tableAhead s) x) then applyBeam x (withStatus (withG (entry (tableAhead s) x) g) st) s else s

/-- The contents whose samples a beam's result takes: those at zero, and its own (R261). -/
def Batch.calContents (b : Batch) (k : Nat) : List Nat :=
  let per := b.settle + b.samp
  List.range b.samp ++ (List.range per).map (b.samp + k * per + ·)

/-- A content stands: its last check Bell has run, and no echo of it is awaited (R248). -/
def contentStands (s : State) (b : Batch) (c : Nat) : Bool :=
  decide (b.bellOf c ≤ b.i) && s.shots.all fun sh => sh.stripeIdx != checkStripe s || sh.shot != checkShot0 + b.start + b.bellOf c

/-- The beam of content `k` is judged, once its measurement is complete, or in any case with `all`. -/
def judgeIf (all : Bool) (k : Nat) (s : State) : State :=
  match s.health.run with
  | some b => if !b.judged.contains k && (all || (b.calContents k).all (contentStands s b)) then judgeBeam b k s else s
  | none => s

/-- The beams whose measurement is complete are judged, once none of its check Bells can be void any more (R248, R254);
with `all`, every beam of the plan. -/
def judgeBeams (all : Bool) (s : State) : State :=
  match s.health.run with
  | some b =>
    if b.step ≠ .cal then s
    else (List.range b.plan.length).foldl (fun s k => judgeIf all k s) s
  | none => s

/-! ## The order of steps (R264) -/

/-- Key of the Recess slot in progress; 0 in Service. -/
def slotKey (s : State) : Nat := match s.prog.recess with | some r => r.1 + 1 | none => 0

/-- DARK is due in this slot: asked for, or DARK_EACH_SLOT and not yet run. -/
def darkDue (s : State) : Bool :=
  s.health.asked.contains .dark || (fbit s Reg.BHM_CFG_DARK_EACH_SLOT && s.health.darkAt != some (slotKey s))

/-- The next step a check run would take (R247, R264). In Service the order of a slot runs while a pass or calibration is
asked for, until BEAM_CHECK or CAL_ABORT stops it. -/
def nextCheckStep (s : State) : Option CheckStep :=
  let locate := s.health.asked.find? fun c => c == .locateX || c == .locateY
  let cal := fbit s Reg.BHM_CAL_CURSOR_ACTIVE
  let work := if cal && s.health.calNext then some .cal else some .scan
  match s.flow.mode with
  | .write =>
    if s.prog.recess.isNone then none
    else if darkDue s then some .dark
    else if !s.health.recheck.isEmpty then some .recheck
    else work
  | .hold => if s.health.asked.contains .dark then some .dark else locate
  | .service =>
    if s.health.paused || (s.health.asked.isEmpty && !cal && s.health.recheck.isEmpty) then none
    else if s.health.asked.contains .dark || (darkDue s && locate.isNone) then some .dark
    else if !s.health.recheck.isEmpty then some .recheck
    else if locate.isSome then locate
    else if cal || s.health.asked.contains .scan then work
    else none
  | _ => none

/-- The next beams a CAL batch measures: up to 64 from the cursor, without retired and stuck-open ones (R261). -/
def calBeams (s : State) : List Nat :=
  ((List.range nBeams).filter fun b => decide (fget s Reg.BHM_CAL_CURSOR_BEAM ≤ b) && entLive (entry s.beams.table b)).take 64

/-- A batch of a step before its lead check Bell. -/
def freshBatch (s : State) (step : CheckStep) : Batch :=
  let cal := calBeams s
  let n := match step with
    | .dark => actDarkBells s
    | .scan => 1024 * actRepeat s
    | .recheck => 16
    | .cal => cal.length * (fget s Reg.BHM_CAL_CFG_SETTLE + actSamples s) + actSamples s
    | .locateX => 32800
    | .locateY => 4128
  { step := step, i := -2, start := 0, n := n, extra := []
    base := if step = .cal then fget s Reg.BHM_CAL_CURSOR_BEAM else fget s Reg.BHM_SCAN_CURSOR_INDEX / 1024 * 1024
    plan := match step with | .recheck => s.health.recheck.take 1 | .cal => cal | _ => []
    count := actTestCount s, reps := actRepeat s, samp := actSamples s, settle := fget s Reg.BHM_CAL_CFG_SETTLE
    pulsed := [], held := [], fired := [], voids := [], samples := [], redo := [], redone := [], stage := 0, hits := [], saturated := [], judged := [] }

/-- The stated duration of a batch in units of 0.1 µs: 15 µs and 3.2 µs for each check Bell (R251). -/
def Batch.duration (b : Batch) : Nat := 150 + 32 * b.n

/-- A batch begins. -/
def beginBatch (b : Batch) (s : State) : State :=
  { s with health := { s.health with run := some b, serial := s.health.serial + 1, windows := [] } }

/-- A source of Table 8-7, or a Hold to come, keeps a check run from opening. -/
def checkBlocked (s : State) : Bool :=
  !(blockReasons s checkShot0).isEmpty || s.out.outOfStep || s.flow.holdReq || transitioning s || s.out.headFault || logicRuns s

end Sys2Proof.Machine
end

