-- ==== Sys2Proof/Machine/Lanes.lean ====
section
/-!
DEFINITION. The 64 lanes (R211 to R237): frames, strobes, echoes, locks, transmit faults, LINK_LOSS and the optical
warnings. Times are in steps of 25 ps.
-/

namespace Sys2Proof.Machine

/-! ## Frames (R216, R217) -/

/-- A shot whose frame on lane `l` is the next to begin: none sent, nothing classified. -/
def Shot.frameDue (l : Nat) (sh : Shot) : Bool := (sh.lane l).sent.isNone && (sh.lane l).cls.isNone

/-- The shots up to and including the first that has not had its Bell: the frame of a shot begins after the Bell of the
slot before it (R217). -/
def shotsInReach : List Shot → List Shot
  | [] => []
  | sh :: rest => if sh.bell.isNone && !sh.closed && (sh.lane 0).cls.isNone then [sh] else sh :: shotsInReach rest

/-- A lane whose counts were never complete at its frame sends a BLANK frame, and counts as late (R218). -/
def Shot.lateAtFrame (l : Nat) (sh : Shot) : Shot :=
  if sh.gathered || (sh.lane l).passed || decide (sh.shot < 0) || !sh.whole.isEmpty then sh
  else { sh with lanes := updAt LaneShot.fresh sh.lanes l fun ls => { ls with late := true } }

/-- FRAME_START: lane `l` begins the frame of its next shot at block boundary `t`. -/
def frameStart (l t : Nat) (s : State) : State :=
  if !powered s Dom.OUT then s
  else match (shotsInReach s.shots).find? (Shot.frameDue l) with
    | none => s
    | some sh => updShot sh.stripeIdx sh.shot (fun sh => sendFrame s t l (sh.lateAtFrame l)) s

/-- FRAME_START. -/
def execFrameStart (lane : Fin 64) (t : Nat) (s : State) : Res := .next (frameStart lane.val t s)

/-- IDLE_FRAME: while no stripe is armed and no commanded pattern runs, every lane sends an IDLE frame from `t`. -/
def idleFrame (t : Nat) (s : State) : State :=
  if !powered s Dom.OUT || s.armed.isSome || s.health.run.isSome then s
  else { s with out := { s.out with lanes := s.out.lanes.map fun x => { x with idle := x.idle ++ [t + frameSteps] } } }

/-- IDLE_FRAME. -/
def execIdleFrame (t : Nat) (s : State) : Res := .next (idleFrame t s)

/-! ## Strobes (R219, R221) -/

/-- Change one group's strobe of a shot. -/
def Shot.setGroup (g : Nat) (x : GroupShot) (sh : Shot) : Shot := { sh with groups := updAt ⟨none, false⟩ sh.groups g fun _ => x }

/-- Lanes of a group. -/
def groupLanes (g : Nat) : List Nat := (List.range 64).filter fun l => groupOf l == g

/-- Some lane of the group sends a SHOT frame for the shot. -/
def Shot.groupFires (g : Nat) (sh : Shot) : Bool :=
  (groupLanes g).any fun l => match (sh.lane l).sent with | some (.shot, _, _) => true | _ => false

/-- The strobe is withheld or suppressed: the exposures of its lanes are under the reasons in force. -/
def suppressStrobe (g : Nat) (sh : Shot) (s : State) : State :=
  let rs : List Reason := if decide (sh.shot < 0) then [] else blockReasons s sh.shot
  let mark := fun (l : Nat) (ls : LaneShot) =>
    if groupOf l = g then { ls with blocked := ls.blocked ++ rs.filter fun r => !ls.blocked.contains r } else ls
  updShot sh.stripeIdx sh.shot (fun sh => { sh.setGroup g ⟨none, true⟩ with lanes := sh.lanes.mapIdx mark }) s

/-- An in-stripe resume completes at the first strobe of its first shot (R54, R373). -/
def resumeFires (n : Int) (s : State) : State :=
  match s.flow.resume with
  | .inStripe first slot =>
    if first ≤ n then completeOpt slot .ok [] { s with flow := { s.flow with resume := .none } } else s
  | _ => s

/-- STROBE_RISE: the strobe generator samples the blank request, and the strobe of the oldest shot whose Bell has run
rises or is suppressed. -/
def strobeRise (g : Nat) (s : State) : State :=
  if !powered s Dom.OUT || outputsHeld s Dom.OUT then s
  else match s.shots.find? fun sh => sh.bell.isSome && (sh.groups.getD g ⟨none, false⟩) == ⟨none, false⟩ with
    | none => s
    | some sh =>
      match sh.bell with
      | none => s
      | some b =>
        if sh.shot < 0 ∨ !(blockReasons s sh.shot).isEmpty ∨ !sh.whole.isEmpty ∨ !sh.groupFires g then blankIfOver (suppressStrobe g sh s)
        else
          let s := updShot sh.stripeIdx sh.shot (Shot.setGroup g ⟨some (sh.strobeTime g b), false⟩) s
          resumeFires sh.shot { s with out := { s.out with strobes := s.out.strobes ||| 1 <<< g } }

/-- STROBE_RISE. -/
def execStrobeRise (group : Fin 8) (s : State) : Res := .next (strobeRise group.val s)

/-- STROBE_FALL: after the strobes of the last fired shot have fallen, BLANK_ALL asserts again (R232). -/
def strobeFall (g : Nat) (s : State) : State :=
  let s := { s with out := { s.out with strobes := s.out.strobes &&& ~~~((1 : BitVec 8) <<< g) } }
  match s.shots.find? fun sh => match sh.groups.getD g ⟨none, false⟩ with | ⟨some _, false⟩ => true | _ => false with
  | none => s
  | some sh =>
    blankIfOver (updShot sh.stripeIdx sh.shot (fun sh =>
      { sh with groups := updAt ⟨none, false⟩ sh.groups g fun x => { x with fallen := true } }) s)

/-- STROBE_FALL. -/
def execStrobeFall (group : Fin 8) (s : State) : Res := .next (strobeFall group.val s)

/-! ## Echoes (R224 to R229) -/

/-- A frame that awaits its echo: a shot's, or the oldest IDLE frame of the lane. -/
inductive Awaited where
  | shot (stripeIdx : Nat) (n : Int)
  | idle
  deriving DecidableEq, Repr

/-- A shot's frame on a lane has been sent and not classified. -/
def Shot.awaits (l : Nat) (sh : Shot) : Bool := (sh.lane l).sent.isSome && (sh.lane l).cls.isNone

/-- The low two bits of the TYPE sent. -/
def Shot.sentType (l : Nat) (sh : Shot) : Nat :=
  match (sh.lane l).sent with
  | some (ty, _, _) => ty.code % 4
  | none => 0

/-- The frame an echo record belongs to: one with its SHOT and TYPE, else one with its SHOT, else the oldest awaited
(log entry 19). -/
def echoFrame (s : State) (l : Nat) (e : DWord) : Option Awaited :=
  let of := fun (sh : Shot) => Awaited.shot sh.stripeIdx sh.shot
  let num := fun (sh : Shot) => decide (unsigned 24 sh.shot = echoShot e)
  let open_ := s.shots.filter (Shot.awaits l)
  let idle := !(laneState s l).idle.isEmpty
  match open_.find? fun sh => num sh && sh.sentType l == echoType e with
  | some sh => some (of sh)
  | none =>
    if idle ∧ echoShot e = 0 ∧ echoType e = 3 then some .idle
    else match open_.find? num with
      | some sh => some (of sh)
      | none => if idle then some .idle else open_.head?.map of

/-- The frame whose echo deadline passes at `t`: the lane's oldest IDLE frame 3,200 ns after its end, else its oldest
shot frame (R225). -/
def deadlineFrame (s : State) (l t : Nat) : Option Awaited :=
  match (laneState s l).idle, (s.shots.filter (Shot.awaits l)).head? with
  | e :: _, some sh => if e + 128000 ≤ t then some .idle else some (.shot sh.stripeIdx sh.shot)
  | _ :: _, none => some .idle
  | [], some sh => some (.shot sh.stripeIdx sh.shot)
  | [], none => none

/-- HEAD_FAULT (R229): BLANK_ALL asserts, and the module enters Hold. -/
def headFault (t : Int) (s : State) : State :=
  holdAtOnce 8 .hold t (raise Ev.HEAD_FAULT { s with out := { s.out with headFault := true } })

/-- The latency of an echo that came is recorded. -/
def echoLatency (echo : Option DWord) (base : Int) (t : Nat) (s : State) : State :=
  if echo.isSome then recordLatency base t s else s

/-- An idle frame of a lane is classified. -/
def classifyIdle (l base : Nat) (rest : List Nat) (echo : Option DWord) (t : Nat) (s : State) : State :=
  let c := classify .idle 0x80000000 (idleCrc l) echo
  let s := countEcho l .idle 0x80000000 c false t (echoLatency echo base t (updLane l (fun x => { x with idle := rest }) s))
  if c = .firedNonShot then headFault t s else s

/-- A frame of shot `n` is classified. -/
def classifyShot (l i : Nat) (n : Int) (sh : Shot) (ty : FrameType) (crc : Word) (echo : Option DWord) (t : Nat) (s : State) : State :=
  let c := classify ty (unsigned 32 n) crc echo
  let s := updShot i n (fun sh => { sh with lanes := updAt LaneShot.fresh sh.lanes l fun ls => { ls with cls := some c } })
    (echoLatency echo (echoBase sh l) t s)
  let s := countEcho l ty (unsigned 32 n) c (sh.lane l).cut.isSome t s
  let s := if c ≠ .match ∧ checkShot0 ≤ n then checkVoid sh s else s
  let s := settle (if c = .firedNonShot then headFault t s else s)
  if checkShot0 ≤ n then judgeBeams false s else s

/-- The frame `f` of lane `l` is classified with this record, or with none at its deadline, at `t`. -/
def classifyFrame (l : Nat) (f : Awaited) (echo : Option DWord) (t : Nat) (s : State) : State :=
  match f with
  | .idle =>
    match (laneState s l).idle with
    | [] => s
    | base :: rest => classifyIdle l base rest echo t s
  | .shot i n =>
    match s.shots.find? fun sh => sh.stripeIdx == i && sh.shot == n with
    | none => s
    | some sh =>
      match (sh.lane l).sent with
      | none => s
      | some (ty, crc, _) => classifyShot l i n sh ty crc echo t s

/-- ECHO_RECEIVED: a record that no awaited frame can have caused is dropped. -/
def echoReceived (l : Nat) (echo : DWord) (t : Nat) (s : State) : State :=
  match echoFrame s l echo with
  | some f => classifyFrame l f (some echo) t s
  | none => s

/-- ECHO_RECEIVED. -/
def execEchoReceived (lane : Fin 64) (echo : DWord) (t : Nat) (s : State) : Res := .next (echoReceived lane.val echo t s)

/-- ECHO_DEADLINE. -/
def echoDeadline (l t : Nat) (s : State) : State :=
  match deadlineFrame s l t with
  | some f => classifyFrame l f none t s
  | none => s

/-- ECHO_DEADLINE. -/
def execEchoDeadline (lane : Fin 64) (t : Nat) (s : State) : Res := .next (echoDeadline lane.val t s)

/-! ## Locks, transmit faults, LINK_LOSS (R223, R234 to R236) -/

/-- RETURN_LANE_LOCK. -/
def returnLaneLock (l : Nat) (s : State) : State :=
  if powered s Dom.OUT then
    updLane l (fun x => { x with watched := true }) (putLanesBit Reg.OUT_RX_LOCK_LO Reg.OUT_RX_LOCK_HI l true s)
  else s

/-- RETURN_LANE_LOCK. -/
def execReturnLaneLock (lane : Fin 64) (s : State) : Res := .next (returnLaneLock lane.val s)

/-- RETURN_LANE_LOCK_LOST: of a lane in lock. -/
def returnLaneLost (l t : Nat) (s : State) : State :=
  if lanesBit s Reg.OUT_RX_LOCK_LO Reg.OUT_RX_LOCK_HI l then
    declareLinkLoss t (putLanesBit Reg.OUT_RX_LOCK_LO Reg.OUT_RX_LOCK_HI l false s)
  else s

/-- RETURN_LANE_LOCK_LOST. -/
def execReturnLaneLockLost (lane : Fin 64) (t : Nat) (s : State) : Res := .next (returnLaneLost lane.val t s)

/-- RETURN_LOCK_TIMEOUT: of a lane that has not gained lock since OUT was raised. -/
def returnLockTimeout (l t : Nat) (s : State) : State :=
  if powered s Dom.OUT && !(laneState s l).watched then declareLinkLoss t (updLane l (fun x => { x with watched := true }) s)
  else s

/-- RETURN_LOCK_TIMEOUT. -/
def execReturnLockTimeout (lane : Fin 64) (t : Nat) (s : State) : Res := .next (returnLockTimeout lane.val t s)

/-- TX_LANE_FAULT: the lane's own fault is reported. -/
def txLaneFault (l t : Nat) (s : State) : State :=
  if powered s Dom.OUT then
    declareLinkLoss t (putLanesBit Reg.OUT_TX_FAULT_LO Reg.OUT_TX_FAULT_HI l true (updLane l (fun x => { x with alarm := true }) s))
  else s

/-- TX_LANE_FAULT. -/
def execTxLaneFault (lane : Fin 64) (t : Nat) (s : State) : Res := .next (txLaneFault lane.val t s)

/-- TX_LANE_FAULT_END: the lane's own fault ends; its bit stays while the serializer PLL is unlocked (R234). -/
def txLaneFaultEnd (l : Nat) (s : State) : State :=
  putLanesBit Reg.OUT_TX_FAULT_LO Reg.OUT_TX_FAULT_HI l (!fbit s Reg.CLK_STATUS_OPT) (updLane l (fun x => { x with alarm := false }) s)

/-- TX_LANE_FAULT_END. -/
def execTxLaneFaultEnd (lane : Fin 64) (s : State) : Res := .next (txLaneFaultEnd lane.val s)

/-- LINK_LOSS may clear: every lane is good, and SETTLE clean Bell slots have passed; while no Bells run the event
itself says that the units of 800 ns have, and the last echo of every lane was in class MATCH (log entry 124). -/
def linkLossMayClear (s : State) : Bool :=
  s.out.link.on && lanesGood s &&
  (if s.armed.isNone then s.out.lanes.all (·.bad == 0) else decide (actLinkSettle s ≤ s.out.link.clean))

/-- LINK_LOSS_CLEAR: with a stripe armed, the shot gathered at the next Bell is the first fired (R236). -/
def linkLossClear (s : State) : State :=
  if linkLossMayClear s then
    fput Reg.OUT_STATUS_LINK_LOSS 0
      { s with out := { s.out with link := ⟨false, 0, if s.armed.isSome then some (nextGathered s) else none⟩ } }
  else s

/-- LINK_LOSS_CLEAR. -/
def execLinkLossClear (s : State) : Res := .next (linkLossClear s)

/-! ## Optical warnings (R237) -/

/-- A report of an engine lies beyond a limit of R237. -/
def opticsBeyond (s : State) (power : List Int) (bias : List Nat) (temp : Int) : Bool :=
  power.any (fun p => decide (p < fint s Reg.OUT_OPT_CFG_PWR_WARN)) || bias.any (fun b => decide (actBiasPct s < b)) ||
  decide ((fget s Reg.OUT_OPT_CFG_TEMP_WARN : Int) ≤ temp)

/-- OPTICS_REPORT: one of the reports each engine gives every 1 ms. The event may be raised again after 1,000 clean
reports of every engine. -/
def opticsReport (e : Nat) (power : List Int) (bias : List Nat) (temp : Int) (s : State) : State :=
  if !powered s Dom.OUT then s
  else if opticsBeyond s power bias temp then
    raiseIf s.out.opticsArmed Ev.OPTICS_WARN { s with out := { s.out with opticsArmed := false, opticsClean := [] } }
  else
    let clean := (List.range 8).map fun i => min 1000 (s.out.opticsClean.getD i 0 + if i = e then 1 else 0)
    { s with out := { s.out with opticsClean := clean, opticsArmed := s.out.opticsArmed || clean.all (· == 1000) } }

/-- OPTICS_REPORT. -/
def execOpticsReport (engine : Fin 8) (power : List Int) (bias : List Nat) (temp : Int) (s : State) : Res :=
  .next (opticsReport engine.val power bias temp s)

end Sys2Proof.Machine
end

