-- ==== Sys2Proof/Machine/Exposure.lean ====
section
/-!
DEFINITION. The Cinch (R238 to R240) and the enable sequence (R241, R242), with the entry to Write that ends it (R57).
-/

namespace Sys2Proof.Machine

/-! ## The Cinch -/

/-- Every strobe that is high is forced low. -/
def Shot.forceLow (sh : Shot) : Shot :=
  { sh with groups := sh.groups.map fun g => if g.rise.isSome then { g with fallen := true } else g }

/-- CINCH_TRIP: the strobes are forced low, BLANK_ALL asserts and cuts, and the latch sets (R238, R239). -/
def cinchTrip (t : Nat) (s : State) : State :=
  if fbit s Reg.OUT_STATUS_CINCH then s
  else
    let s := raise Ev.CINCH_CUT (fput Reg.OUT_STATUS_CINCH 1 s)
    let s := holdAtOnce 4 .strobeCut t s
    { s with shots := s.shots.map Shot.forceLow, out := { s.out with strobes := 0 } }

/-- CINCH_TRIP. -/
def execCinchTrip (t : Nat) (s : State) : Res := .next (cinchTrip t s)

/-- The test of R240: a trip, at `ps` picoseconds, between 0.95 and 1.05 × SHOT_STROBE_MAX. -/
def cinchTestPasses (s : State) (ps : Nat) : Bool := decide (950 * actCinchNs s ≤ ps ∧ ps ≤ 1050 * actCinchNs s)

/-- Record the result of the test. -/
def cinchTested (ps : Nat) (s : State) : State :=
  fput Reg.OUT_STATUS_CINCH_TEST_OK (if cinchTestPasses s ps then 1 else 0) s

/-- CINCH_TEST: OUT_CINCH_CMD.TEST, accepted in Service only (Table 8-9). -/
def cinchTest (ps : Nat) (s : State) : State :=
  if s.flow.mode = .service ∧ powered s Dom.OUT then cinchTested ps s else s

/-- CINCH_TEST. -/
def execCinchTest (tripPs : Nat) (s : State) : Res := .next (cinchTest tripPs s)

/-! ## EXPOSE_EN and the start of a job -/

/-- The module enters Write with job state RECESS, before the first stripe (R57), and its first Recess slot opens. The
Window has been open since JOB_START (R167), unless the banks it stands in have lost their contents. -/
def enterWrite (s : State) : State :=
  let s := { s with flow := { s.flow with mode := .write, job := .recess, starting := none, seen := s.flow.causes } }
  partitionAtOnce (rasterStart (openRecess (openNext s)))

/-- The Cinch test of a JOB_START failed: the module stays in Ready (R240). -/
def startFails (s : State) : State :=
  disownStage (exposeOff { s with flow := { s.flow with starting := none } })

/-- A JOB_START that waited runs the Cinch test and enters Write, or completes SELFTEST_FAIL (R242). -/
def startSettled (ps : Nat) (slot : Option (Fin 16)) (s : State) : State :=
  if cinchTestPasses s ps then completeOpt slot .ok [] (enterWrite (cinchTested ps s))
  else completeOpt slot .selftestFail [] (startFails (cinchTested ps s))

/-- EXPOSE_SETTLE_DONE: SETTLE_MS after EXPOSE_EN turned on (R242). -/
def exposeSettled (ps : Nat) (s : State) : State :=
  match s.out.exposeSince with
  | none => s
  | some t0 =>
    if fbit s Reg.OUT_STATUS_SETTLED ∨ !fbit s Reg.OUT_STATUS_EXPOSE_EN then s
    else
      let s := fput Reg.OUT_STATUS_SETTLED 1 (runTo (t0 + actSettleMs s * 1000000) s)
      match s.flow.starting with
      | none => s
      | some slot => startSettled ps slot s

/-- EXPOSE_SETTLE_DONE. -/
def execExposeSettleDone (tripPs : Nat) (s : State) : Res := .next (exposeSettled tripPs s)

end Sys2Proof.Machine
end

