-- ==== Sys2Proof/Machine/Gpio.lean ====
section
/-!
DEFINITION. GPIO pins (R504, R519, R520): what an edge at an input receiver does, and the pins' external levels.
-/

namespace Sys2Proof.Machine

/-- An edge at the input receiver of GPIO_n: a fall of the detector's input ends the check run (R246, R250), and a
selected edge crosses to the Proctor and raises GPIO_EDGE (R492, R504). -/
def gpioSeen (n : Nat) (rising : Bool) (s : State) : State :=
  let s := if !rising && fget s Reg.BHM_CFG_READY_GPIO == n then endCheckRun s else s
  if powered s Dom.GATH && fbitAt s (if rising then Reg.MON_GPIO_EVT_RISE else Reg.MON_GPIO_EVT_FALL) n then
    raiseIf (proctorRuns s) Ev.GPIO_EDGE (crossPulse 10 (proctorRuns s) s)
  else s

/-- A change that may move the level of GPIO_n; an edge it makes is seen. -/
def withPin (n : Nat) (f : State → State) (s : State) : State :=
  let t := f s
  if gpioLevel s n = gpioLevel t n then t else gpioSeen n (gpioLevel t n) t

/-- The level outside GPIO_n changes. -/
def pinInput (n : Nat) (high : Bool) (s : State) : State :=
  withPin n (fun s => { s with mon := { s.mon with
    gpioIn := if high then s.mon.gpioIn ||| 1 <<< n else s.mon.gpioIn &&& ~~~((1 : BitVec 8) <<< n) } }) s

/-- GPIO_EDGE. -/
def execGpioEdge (n : Fin 8) (rising : Bool) (s : State) : Res := .next (pinInput n.val rising s)

end Sys2Proof.Machine
end

