-- ==== Sys2Proof/Machine/BeamHealth.lean ====
section
/-!
DEFINITION. Beam health (R244 to R265): opening a check run, its check Bells and windows, the judgement of a batch, and
the commands that ask for checks and calibration.
-/

namespace Sys2Proof.Machine

/-! ## Opening (R247, R264) -/

/-- Calibration has reached the end of the array: the cursor wraps, CAL_DONE, and calibration ends (R264). -/
def calWrap (s : State) : State :=
  let s := fput Reg.BHM_CAL_CURSOR_PASSES (fget s Reg.BHM_CAL_CURSOR_PASSES + 1) s
  raise Ev.CAL_DONE (fput Reg.BHM_CAL_CURSOR_ACTIVE 0 (fput Reg.BHM_CAL_CURSOR_BEAM 0 s))

/-- The commands that asked for a step complete as it begins (R365). -/
def startsDone (c : CheckStep) (s : State) : State :=
  (s.health.starts.filter (·.1 == c)).foldl (fun s p => complete p.2 .ok [] s)
    { s with health := { s.health with starts := s.health.starts.filter (·.1 != c) } }

/-- The check run opens with this batch: its votes are cast (Table 20-2), and in Service EXPOSE_EN turns on (R241). A
domain that is still off is raised first. -/
def openRun (b : Batch) (s : State) : State :=
  let s := setVotes [Dom.GATH, Dom.OUT] Client.cal true s
  if powered s Dom.GATH && powered s Dom.OUT then
    startsDone b.step (beginBatch b (if s.flow.mode = .service then exposeOn s else s))
  else s

/-- The stage carries the traverse that a LOCATE batch needs, or another module or nothing does. -/
def traverseRuns (s : State) : CheckStep → Bool
  | .locateX => !carries s 1 || s.mot.step == 13
  | .locateY => !carries s 0 || s.mot.step == 13
  | _ => true

/-- CHECK_RUN_OPEN: firmware opens a check run for the next step, when its stated duration fits in the slot's remaining
time (R60), or in Service without that limit. -/
def checkRunOpen (slotUs : Nat) (s : State) : State :=
  if s.health.run.isSome || s.armed.isSome || !detectorReady s || checkBlocked s ||
      !(s.flow.mode == .service || betweenStripes s) then s
  else match nextCheckStep s with
    | none => s
    | some step =>
      let b := freshBatch s step
      if step = .cal ∧ b.plan.isEmpty then calWrap s
      else if !traverseRuns s step then s
      else if s.flow.mode = .service ∨ b.duration ≤ 10 * slotUs then openRun b s
      else s

/-- CHECK_RUN_OPEN. -/
def execCheckRunOpen (slotUs : Nat) (s : State) : Res := .next (checkRunOpen slotUs s)

/-! ## Check Bells (R248, R249, R260, R261) -/

/-- The windows of check Bell `i` at `t` (R249). -/
def checkWindows (i t : Nat) (stage : Int) (s : State) : List CheckWindow :=
  (List.range 8).map fun g =>
    let o : Int := t + 16000 * g + fget s (Reg.OUT_SKEW_STEPS g) + actGateOpen s
    ⟨g, o, o + 14400, false, i, stage⟩

/-- A calibration sample is taken at content `c`; a repeat takes the place of the void one (R248). -/
def calSample (c code : Nat) (s : State) : State :=
  let v := (calibrated s (fget s Reg.BHM_CAL_CFG_CHAN) code).toNat
  updBatch (fun b => { b with samples := assocPut b.samples c v }) s

/-- Check Bell `i` of content `c` at `t`. Windows of the check Bell before it that are still open stay open (R249). -/
def playContent (b : Batch) (i c t sample : Nat) (stage : Int) (s : State) : State :=
  let s := ensureCheckShot i (updBatch (fun b => { b with i := i, stage := stage }) s)
  let s := updShot (checkStripe s) (checkShot0 + (b.start + i : Nat)) (fun sh => { sh with bell := some (t, 128000) }) s
  let s := { s with health := { s.health with windows := s.health.windows ++ checkWindows i t stage s } }
  let s := if b.step = .cal then judgeBeams false (calSample c sample s) else s
  ensureCheckShot (i + 1) s

/-- CHECK_BELL: the lead releases BLANK_ALL (R232); every other one fires the step's counts. A requested Hold and
OUT_OF_STEP act here, as at a Bell. -/
def checkBell (t sample : Nat) (x y : Int) (s : State) : State :=
  match s.health.run with
  | none => s
  | some b =>
    if s.flow.holdReq then enterHold s
    else if s.out.outOfStep then endCheckRun (assertBlank s)
    else if b.i < -1 then
      let s := ensureCheckShot 0 (updBatch (fun b => { b with i := -1 }) s)
      if mayRelease s then fput Reg.OUT_STATUS_BLANK 0 s else s
    else
      let i := (b.i + 1).toNat
      match b.content i with
      | none => s
      | some c => playContent b i c t sample (if b.step = .locateX then x else y) s

/-- CHECK_BELL. -/
def execCheckBell (t sample : Nat) (stageX stageY : Int) (s : State) : Res := .next (checkBell t sample stageX stageY s)

/-! ## Windows (R245, R249) -/

/-- BHM_CFG.FILT as it acts: 0 and 1 act as 2 (Table 9-5). -/
def actGateFilter (s : State) : Nat := max 2 (fget s Reg.BHM_CFG_FILT)

/-- GATE_IN_EDGE: an edge whose level has held for FILT core cycles is accepted, and the window that is open at its time
stamp is PULSED; a shorter pulse is removed (R186, R245; log entry 174). -/
def gateInEdge (e : GateEdge) (s : State) : State :=
  if e.held < actGateFilter s then s
  else { s with health := { s.health with windows := s.health.windows.map fun w =>
      if w.opens ≤ (e.stamp : Int) ∧ (e.stamp : Int) < w.closes then { w with pulsed := true } else w } }

/-- GATE_IN_EDGE. -/
def execGateInEdge (edge : GateEdge) (s : State) : Res := .next (gateInEdge edge s)

/-- CHECK_WINDOW_CLOSE: PULSED and HELD of group `g`'s window, the oldest one open, with the filtered level of GATE_IN at
its close. -/
def windowClose (g : Nat) (high : Bool) (s : State) : State :=
  match s.health.windows.find? (·.group == g), s.health.run with
  | some w, some b =>
    let pulsed := w.pulsed || high
    let b' := { b with
      pulsed := if pulsed then b.pulsed ++ [(w.bell, g)] else b.pulsed
      held := if high then b.held ++ [(w.bell, g)] else b.held
      hits := if pulsed then b.hits ++ [(w.bell, w.stage)] else b.hits }
    { s with health := { s.health with run := some b', windows := s.health.windows.erase w } }
  | _, _ => s

/-- The stage position at the check Bell of the first PULSED window that stands (R257): one of a void check Bell does not
(R248). -/
def Batch.hit (b : Batch) : Option Int :=
  (b.hits.find? fun p => match b.content p.1.toNat with
    | some c => b.bellOf c == p.1
    | none => false).map (·.2)

/-- CHECK_WINDOW_CLOSE. -/
def execCheckWindowClose (group : Fin 8) (high : Bool) (s : State) : Res := .next (windowClose group.val high s)

/-! ## The end of a batch (R252 to R254, R257 to R264) -/

/-- What was asked for has ended (CHECK_DONE). -/
def askedDone (c : CheckStep) (s : State) : State :=
  if s.health.asked.contains c then
    raise Ev.CHECK_DONE { s with health := { s.health with asked := s.health.asked.filter (· != c) } }
  else s

/-- A DARK batch ends (R254, R257, R259). -/
def darkEnds (b : Batch) (s : State) : State :=
  let s := { s with health := { s.health with darkAt := some (slotKey s), calNext := false } }
  if b.pulses ≤ fget s Reg.BHM_DARK_TOL then
    stuckRelease (askedDone .dark { s with health := { s.health with darkPassed := true } })
  else
    let s := { s with health := { s.health with darkPassed := false } }
    askedDone .dark (requestHold 1 (raise Ev.STUCK_OPEN (fput Reg.BHM_STUCK_VALID 0 s)))

/-- The layer and stripe that a SCAN pass is put down to (R256): the last stripe started. -/
def passStripeOf (s : State) : Nat × Nat := s.prog.lastStarted.getD (stripeInForce s)

/-- The beams a SCAN batch fired, with their result: PULSED in every repetition that fired them (R252). -/
def scanResults (b : Batch) : List (Nat × Bool) :=
  (List.range 1024).flatMap fun j => (List.range 8).filterMap fun g =>
    let bells := (List.range b.reps).filter fun r => b.firedAt (1024 * r + j) g
    if bells.isEmpty then none else some (scanBeam (b.base + j) g, bells.all fun r => b.sawPulse (1024 * r + j) g)

/-- The SCAN cursor advances over the batch (R264). -/
def scanAdvance (b : Batch) (s : State) : State :=
  if fget s Reg.BHM_SCAN_CURSOR_INDEX / 1024 * 1024 ≠ b.base then s
  else if b.base + 1024 < 32768 then fput Reg.BHM_SCAN_CURSOR_INDEX (b.base + 1024) s
  else
    let s := fput Reg.BHM_SCAN_CURSOR_PASSES (fget s Reg.BHM_SCAN_CURSOR_PASSES + 1) (fput Reg.BHM_SCAN_CURSOR_INDEX 0 s)
    askedDone .scan s

/-- A SCAN batch that has not failed ends. -/
def scanEnds (b : Batch) (s : State) : State :=
  let rs := scanResults b
  let pass := passStripeOf s
  let s := { s with
    beams := { s.beams with lastPass := rs.foldl (fun m r => if r.2 then assocPut m r.1 pass else m) s.beams.lastPass }
    health := { s.health with
      recheck := s.health.recheck ++ rs.filterMap fun r =>
        if !r.2 && entLive (entry s.beams.table r.1) && !s.health.recheck.contains r.1 then some r.1 else none
      calNext := true } }
  scanAdvance b s

/-- A RECHECK ends: at least 12 of 16 windows PULSED passes (Table 9-1). -/
def recheckEnds (b : Batch) (s : State) : State :=
  match b.plan with
  | [] => s
  | x :: _ =>
    let s := { s with health := { s.health with recheck := s.health.recheck.drop 1 } }
    let n := ((List.range 16).filter fun c => b.sawPulse c (groupOf (laneOf x))).length
    if 12 ≤ n then fcount Reg.BHM_FLAKY_COUNT 1 s else retireBeam x s

/-- A CAL batch ends: the cursor moves past its last beam, unless CAL_START has put it elsewhere meanwhile (R264, R375). -/
def calEnds (b : Batch) (s : State) : State :=
  let s := { s with health := { s.health with calNext := false } }
  if fget s Reg.BHM_CAL_CURSOR_BEAM ≠ b.base then s
  else match b.plan.foldl Nat.max 0 with
  | last => if last + 1 < nBeams ∧ b.plan.eraseDups.length = 64 then fput Reg.BHM_CAL_CURSOR_BEAM (last + 1) s else calWrap s

/-- PIX_COUNTS of a LOCATE; without a job the manual names none, and it is a free value (log entry 20). -/
def locatePix (s : State) : Nat := match s.job with | some j => j.pixCounts | none => max 1 (freeNat s)

/-- LOCATE is over, or given up: without a job the stage is the host's again (R287). -/
def locateOver (s : State) : State :=
  if s.job.isNone then disownStage s else { s with mot := { s.mot with locate := false } }

/-- An offset of LOCATE in 1/16 px (R257). -/
def locateOffset (pix : Nat) (stage edge : Int) : Int := rndDiv ((stage - edge) * 16) pix

/-- Beams near a located point (R258). -/
def located (t : BeamTable) (x y : Int) : List Nat :=
  (List.range nBeams).filter fun b => decide ((entX (entry t b) - x).natAbs ≤ 32 ∧ (entY (entry t b) - y).natAbs ≤ 32)

/-- The traverses are over: LOCATE resolves exactly one beam, or none (R258). A traverse without a PULSED window leaves
its offset open, a free value. -/
def locateEnds (b : Batch) (s : State) : State :=
  let pix := s.health.pix
  let fx : Int := freeNat s
  let fy : Int := Config.freeValue (s.free + 1)
  let x := match s.health.xHit with | some v => locateOffset pix v (fint s Reg.BHM_EDGE_X_COUNTS) | none => fx
  let y := match b.hit with | some v => locateOffset pix v (fint s Reg.BHM_EDGE_Y_COUNTS) | none => fy
  let both := s.health.xHit.isSome && b.hit.isSome
  let s := if both then s else useFree (useFree s)
  let found := if both then located s.beams.table x y else []
  let s := match found with
    | [beam] =>
      let s := applyBeam beam (withStatus (entry (tableAhead s) beam) 3) s
      fput Reg.BHM_STUCK_BEAM beam (fput Reg.BHM_STUCK_VALID 1 (fput Reg.BHM_STUCK_UNRESOLVED 0 s))
    | _ => fputInt Reg.BHM_LOC_X x (fputInt Reg.BHM_LOC_Y (Int.fdiv y 16) (fput Reg.BHM_STUCK_UNRESOLVED 1 s))
  askedDone .locateY (locateOver { s with health := { s.health with xHit := none } })

/-- The X traverse is over, and the Y traverse follows. -/
def locateXEnds (b : Batch) (s : State) : State :=
  { s with health := { s.health with
      xHit := b.hit, asked := s.health.asked.map fun c => if c = .locateX then .locateY else c } }

/-- Beams to measure again are put at the end of a CAL batch (R262, R263). -/
def calAgain (b : Batch) (s : State) : State :=
  let per := b.settle + b.samp
  let cs := (List.range b.redo.length).flatMap fun j => (List.range per).map fun r => b.samp + (b.plan.length + j) * per + r
  appendContents cs (updBatch (fun b => { b with plan := b.plan ++ b.redo, redone := b.redone ++ b.redo, redo := [] }) s)

/-- A batch that has played is judged (Table 9-1). -/
def judgeBatch (b : Batch) (s : State) : State :=
  match b.step with
  | .dark => darkEnds b s
  | .scan => scanEnds b s
  | .recheck => recheckEnds b s
  | .cal => calEnds b s
  | .locateX => locateXEnds b s
  | .locateY => locateEnds b s

/-- In Service the entries that firmware has written are applied before the run's votes are withdrawn, which may drop
the gather domain. -/
def serviceApplies (s : State) : State :=
  if s.flow.mode = .service then applyAll s else s

/-- The check Bells of a batch have all run: beams to measure again go on, or the batch is judged and the run closes. -/
def batchOver (s : State) : State :=
  match s.health.run with
  | none => s
  | some b =>
    if b.step = .cal ∧ ¬ b.redo.isEmpty then calAgain b s
    else closeCheckRun (serviceApplies (judgeBatch b s))

/-- CHECK_BATCH_END: a SCAN that failed goes over to DARK within the run, whose check Bells count on (R248, R253); every other batch whose check Bells
have all run is judged, and its run closes. -/
def checkBatchEnd (s : State) : State :=
  match s.health.run with
  | none => s
  | some b =>
    if !b.played then s
    else if b.scanFails then
      ensureCheckShot 0 (beginBatch { freshBatch s .dark with i := -1, start := b.start + b.n + b.extra.length } s)
    else batchOver (judgeBeams true s)

/-- CHECK_BATCH_END. -/
def execCheckBatchEnd (s : State) : Res := .next (checkBatchEnd s)

/-- READY_GPIO_FALL: the detector leaves the beam path, and the run ends (R246, R250). -/
def readyFall (s : State) : State :=
  let g := fget s Reg.BHM_CFG_READY_GPIO
  if g < 8 then endCheckRun (pinInput g false s) else s

/-- READY_GPIO_FALL. -/
def execReadyGpioFall (s : State) : Res := .next (readyFall s)

/-! ## Commands (Table 15-4) -/

/-- Ask for a check step. -/
def ask (c : CheckStep) (s : State) : State :=
  { s with health := { s.health with asked := if s.health.asked.contains c then s.health.asked else s.health.asked ++ [c] } }

/-- A command asks for a check step, and completes as that begins ("Start", R365). -/
def askFor (c : CheckStep) (r : Req) (s : State) : State :=
  let s := ask c s
  { s with health := { s.health with starts := s.health.starts ++ [(c, r.slot)] } }

/-- Traverses that were asked for are given up: the stage stops and is owned no longer (R287). -/
def dropLocate (s : State) : State := if s.mot.locate then locateOver (stopStage s) else s

/-- BEAM_CHECK OP 2 stops the checks of Service (R264). -/
def stopChecks (s : State) : State :=
  let s := dropStarts (dropLocate (endCheckRun s))
  let had := !s.health.asked.isEmpty
  raiseIf had Ev.CHECK_DONE { s with health := { s.health with asked := [], paused := true } }

/-- The sequence of Service begins anew, with DARK first and SCAN before CAL (R264). -/
def restartChecks (s : State) : State :=
  let service := s.flow.mode == .service
  { s with health := { s.health with
      paused := false, darkAt := if service then none else s.health.darkAt, calNext := s.health.calNext && !service } }

/-- BEAM_CHECK (R247, R375). -/
def beamCheckCommand (r : Req) (op : Nat) (s : State) : State :=
  let writeOrHold := modeIn s [.write, .hold] && betweenStripes s
  runCommand r { op := 0x0303, len := 4, inRange := decide (op ≤ 2)
                 accepted := s.flow.mode == .service || (writeOrHold && (op == 0 || (op == 1 && s.flow.mode == .write))) } (fun s =>
    match op with
    | 0 => askFor .dark r { s with health := { s.health with paused := false } }
    | 1 => askFor .scan r (fput Reg.BHM_SCAN_CURSOR_INDEX 0 (restartChecks s))
    | _ => complete r.slot .ok [] (stopChecks s)) s

/-- BEAM_CHECK. -/
def execBeamCheck (r : Req) (op : Nat) (s : State) : Res := .next (beamCheckCommand r op s)

/-- LOCATE begins: firmware owns channels A and B for the traverses, with the limits that the host last committed (R257,
R287; log entry 144). -/
def startLocate (r : Req) (s : State) : State :=
  let s := if s.job.isNone then ownStage s else fput (Reg.MOT_CH_STATUS_OWNED 0) 1 (fput (Reg.MOT_CH_STATUS_OWNED 1) 1 s)
  let s := { s with mot := { s.mot with locate := true }, health := { s.health with xHit := none, pix := locatePix s, paused := false } }
  askFor .locateX r (if s.job.isNone then useFree s else s)

/-- BEAM_LOCATE (R257). -/
def beamLocateCommand (r : Req) (s : State) : State :=
  runCommand r { op := 0x0304, len := 0
                 accepted := s.flow.mode == .service || (s.flow.mode == .hold && betweenStripes s) } (startLocate r) s

/-- BEAM_LOCATE. -/
def execBeamLocate (r : Req) (s : State) : Res := .next (beamLocateCommand r s)

/-- CAL_START (R262, R375). -/
def calStartCommand (r : Req) (s : State) : State :=
  runCommand r { op := 0x0305, len := 0, accepted := rwhs s, needs := [Dom.GATH] } (fun s =>
    if fget s Reg.BHM_CAL_REF_REF = 0 then complete r.slot .noReference [] s
    else complete r.slot .ok [] (fput Reg.BHM_CAL_CURSOR_BEAM 0 (fput Reg.BHM_CAL_CURSOR_ACTIVE 1 (restartChecks s)))) s

/-- CAL_START. -/
def execCalStart (r : Req) (s : State) : Res := .next (calStartCommand r s)

/-- CAL_ABORT (R250, R263, R264): the run ends, and results already applied stand; in Service the sequence of checks stops. -/
def calAbortCommand (r : Req) (s : State) : State :=
  runCommand r { op := 0x0306, len := 0, accepted := rwhs s, needs := [Dom.GATH] } (fun s =>
    let s := fput Reg.BHM_CAL_CURSOR_ACTIVE 0 (if s.flow.mode = .service then stopChecks s else endCheckRun s)
    complete r.slot .ok (leBytes 4 (fget s Reg.BHM_CAL_CURSOR_BEAM)) s) s

/-- CAL_ABORT. -/
def execCalAbort (r : Req) (s : State) : Res := .next (calAbortCommand r s)

/-- A gain lies within 0.98 to 1.02, in ppm (Table 9-3). -/
def gainOk (g : Nat) : Bool := decide (980000 ≤ g ∧ g ≤ 1020000)

/-- ANALOG_CAL (R265): REFV is measured first; a failure keeps the previous coefficients. The calibration votes are
cast while it runs (Table 20-2). -/
def analogCalCommand (r : Req) (refvUv : Nat) (adc : List (Int × Nat)) (sensors : List Int) (rails : List Nat) (s : State) :
    State :=
  runCommand r { op := 0x0308, len := 0, accepted := modeIn s [.ready, .service] } (fun s =>
    let s := setVotes [Dom.GATH, Dom.OUT] Client.cal false (setVotes [Dom.GATH, Dom.OUT] Client.cal true s)
    if refvUv < 1188000 ∨ 1212000 < refvUv then complete r.slot .calFail [] (raise Ev.REFV_FAULT s)
    else if adc.all (fun p => decide (p.1.natAbs ≤ 256) && gainOk p.2) && sensors.all (fun v => decide (v.natAbs ≤ 3000)) && rails.all gainOk then
      complete r.slot .ok (leBytes 4 refvUv) { s with health := { s.health with adcCal := adc, sensorCal := sensors, railCal := rails } }
    else complete r.slot .calFail [] (raise Ev.REFV_FAULT s)) s

/-- ANALOG_CAL. -/
def execAnalogCal (r : Req) (refvUv : Nat) (adc : List (Int × Nat)) (sensors : List Int) (rails : List Nat) (s : State) : Res :=
  .next (analogCalCommand r refvUv adc sensors rails s)

end Sys2Proof.Machine
end

