-- ==== Sys2Proof/Machine/Header.lean ====
section
/-!
DEFINITION. The job header and the supplement header (R68 to R76, R193, R451, R452): the four steps that check one, what
it says, and the unwrapping of the job content key.
-/

namespace Sys2Proof.Machine

/-! ## The input buffer (R366) -/

/-- The input buffer in DRAM. -/
abbrev bufferBase : Nat := 0x08000000
/-- Its length, 64 MiB. -/
abbrev bufferBytes : Nat := 67108864

/-- Bytes of the input buffer. -/
def bufferRead (s : State) (off len : Nat) : List Byte := dramRead s (bufferBase + off) len

/-! ## Fixed part and directory (R68 to R70) -/

abbrev hdrMagic (h : List Byte) : Nat := leAt h 0x00 4
abbrev hdrVersion (h : List Byte) : Nat := leAt h 0x04 2
abbrev hdrFlags (h : List Byte) : Nat := leAt h 0x06 2
abbrev hdrLen (h : List Byte) : Nat := leAt h 0x08 4
abbrev hdrNsect (h : List Byte) : Nat := leAt h 0x0C 4
abbrev hdrDigest (h : List Byte) : Nat := leAt h 0x10 8
abbrev hdrJobId (h : List Byte) : Nat := leAt h 0x18 8
abbrev hdrPixPm (h : List Byte) : Nat := leAt h 0x20 2
abbrev hdrPixCounts (h : List Byte) : Nat := leAt h 0x22 2
abbrev hdrNlayer (h : List Byte) : Nat := leAt h 0x24 4
abbrev hdrNstripe (h : List Byte) : Nat := leAt h 0x28 4
abbrev hdrSeqFirst (h : List Byte) : Nat := leAt h 0x30 8
abbrev hdrNblock (h : List Byte) : Nat := leAt h 0x38 8
/-- HFLAGS. -/
def hdrAdditive (h : List Byte) : Bool := (hdrFlags h).testBit 0
def hdrSupplement (h : List Byte) : Bool := (hdrFlags h).testBit 1

/-- A directory entry (R69). -/
structure HdrSection where
  typ : Nat
  off : Nat
  len : Nat
  reservedZero : Bool
  deriving DecidableEq, Repr

/-- HdrSection types (Table 3-2). -/
abbrev Sect.classes : Nat := 1
abbrev Sect.kernel : Nat := 2
abbrev Sect.factors : Nat := 3
abbrev Sect.layers : Nat := 4
abbrev Sect.stripes : Nat := 5
abbrev Sect.envelope : Nat := 6
abbrev Sect.signature : Nat := 15

/-- Directory entry `i`. -/
def sectionAt (h : List Byte) (i : Nat) : HdrSection :=
  let o := 0x80 + 16 * i
  ⟨leAt h o 2, leAt h (o + 4) 4, leAt h (o + 8) 4, leAt h (o + 2) 2 == 0 && leAt h (o + 12) 4 == 0⟩

/-- The directory, as far as the 64 entries NSECT may count (`structureOk` refuses a longer one, R68). -/
def sections (h : List Byte) : List HdrSection := (List.range (min (hdrNsect h) 64)).map (sectionAt h)

/-- The section of a type. -/
def sectionOf (h : List Byte) (t : Nat) : Option HdrSection := (sections h).find? (·.typ == t)

/-- The bytes of a section; none at all when it is missing. -/
def sectionBytes (h : List Byte) (t : Nat) : List Byte :=
  match sectionOf h t with
  | some c => slice h c.off c.len
  | none => []

/-- The length Table 3-2 gives a type. -/
def lengthOk (h : List Byte) (c : HdrSection) : Bool :=
  match c.typ with
  | 1 => c.len == 256
  | 2 => c.len == 164
  | 3 => c.len == 32768
  | 4 => c.len == 16 * hdrNlayer h
  | 5 => c.len == 32 * hdrNstripe h
  | 6 => decide (8 ≤ c.len ∧ c.len ≤ 65536)
  | 15 => c.len == 96
  | t => decide (t < 0x8000)

/-- A type of Table 3-2. -/
def knownType (t : Nat) : Bool := [1, 2, 3, 4, 5, 6, 15].contains t

/-- Two sections share no byte, and neither begins inside the other: for one of LENGTH 0 this is DEDUCED (log entry 157). -/
def HdrSection.apart (a b : HdrSection) : Bool := decide (a.off + a.len ≤ b.off ∨ b.off + b.len ≤ a.off)

/-- No two sections of a list overlap, and no known type stands twice. -/
def sectionsApart : List HdrSection → Bool
  | [] => true
  | c :: cs => cs.all (fun d => c.apart d && !(knownType c.typ && c.typ == d.typ)) && sectionsApart cs

/-- A class has PEC set (R72). -/
def pecUsed (h : List Byte) : Bool :=
  let t := sectionBytes h Sect.classes
  (List.range 64).any fun c => (leAt t (4 * c + 1) 1).testBit 0

/-- The types a header must hold (Table 3-2). -/
def requiredTypes (h : List Byte) : List Nat :=
  if hdrSupplement h then [Sect.stripes, Sect.signature]
  else [Sect.classes, Sect.layers, Sect.stripes, Sect.envelope, Sect.signature] ++ (if pecUsed h then [Sect.kernel, Sect.factors] else [])

/-- Step 1 of R76: the structure that locates the signature, for the LEN the command names. -/
def structureOk (h : List Byte) (len : Nat) : Bool :=
  let cs := sections h
  hdrMagic h == 0x484A4D44 && hdrVersion h == 3 && hdrLen h == len && decide (256 ≤ len ∧ len ≤ 50331648) &&
  decide (2 ≤ hdrNsect h ∧ hdrNsect h ≤ 64) &&
  cs.all (fun c => c.reservedZero && c.off % 8 == 0 && decide (0x80 + 16 * hdrNsect h ≤ c.off ∧ c.off + c.len ≤ len) && lengthOk h c) &&
  sectionsApart cs && (requiredTypes h).all (fun t => (sectionOf h t).isSome) &&
  (match cs.getLast? with
    | some c => c.typ == Sect.signature && c.off + c.len == len
    | none => false)

/-- Step 2 of R76: the signature over the bytes before the SIGNATURE section (R71, R452). -/
def headerSigned (s : State) (h : List Byte) : Bool :=
  match s.sec.rootKey, sectionOf h Sect.signature with
  | some k, some c => Config.ecdsaOk k (h.take c.off) (slice h c.off 96)
  | _, _ => false

/-! ## What the header says (R72 to R74) -/

/-- The DOSE_CLASS_TABLE. -/
def hdrClasses (h : List Byte) : List DoseClass :=
  let t := sectionBytes h Sect.classes
  (List.range 64).map fun c => ⟨leAt t (4 * c) 1, (leAt t (4 * c + 1) 1).testBit 0⟩

/-- 16-bit values of a section. -/
def halves (bs : List Byte) (n : Nat) : List Nat := (List.range n).map fun i => leAt bs (2 * i) 2

/-- Stripe list entry `i` (Table 3-3). -/
def stripeEntryAt (t : List Byte) (i : Nat) : StripeEntry :=
  let o := 32 * i
  { layer := leAt t o 2, stripe := leAt t (o + 2) 2, h := leAt t (o + 4) 4
    xOrigin := signed 64 (leAt t (o + 8) 8), yOrigin := signed 64 (leAt t (o + 16) 8)
    makeup := (leAt t (o + 24) 4).testBit 0, scanNeg := (leAt t (o + 24) 4).testBit 1 }

/-- The stripe list. -/
def hdrStripes (h : List Byte) : List StripeEntry :=
  let t := sectionBytes h Sect.stripes
  (List.range (hdrNstripe h)).map (stripeEntryAt t)

/-- Ranges of one stripe list entry: H, SFLAGS and the reserved bytes, and the scan limit of R193. -/
def stripeRangeOk (h t : List Byte) (i : Nat) : Bool :=
  let e := stripeEntryAt t i
  decide (e.h % 256 = 0 ∧ 256 ≤ e.h ∧ e.h ≤ 268435456) && decide (leAt t (32 * i + 24) 4 < 4) && leAt t (32 * i + 28) 4 == 0 &&
  decide ((e.h + 4351) * hdrPixCounts h ≤ 2 ^ 39 - 1)

/-- The entries are sorted by layer and, within one, run on from `next` without gap (R74). -/
def stripeOrderOk (next : Nat → Nat) : Nat → List StripeEntry → Bool
  | _, [] => true
  | last, e :: es =>
    decide (last ≤ e.layer) && e.stripe == next e.layer &&
      stripeOrderOk (fun l => if l = e.layer then e.stripe + 1 else next l) e.layer es

/-- The layer list covers the stripe list in order (R73), each entry with the stripes of its own layer (R74). -/
def layersOk (t : List Byte) (ss : List StripeEntry) : Nat → Nat → Nat → Bool
  | 0, _, at' => at' == ss.length
  | n + 1, l, at' =>
    let first := leAt t (16 * l) 4
    let cnt := leAt t (16 * l + 4) 4
    first == at' && decide (1 ≤ cnt ∧ cnt ≤ 65536) && leAt t (16 * l + 8) 8 == 0 &&
      ((ss.drop at').take cnt).all (fun e => e.layer == l) && decide (at' + cnt ≤ ss.length) && layersOk t ss n (l + 1) (at' + cnt)

/-- The classes and the kernel's reserved bytes (R72). -/
def classesOk (h : List Byte) : Bool :=
  let t := sectionBytes h Sect.classes
  (List.range 64).all (fun c => decide (leAt t (4 * c) 1 ≤ 248 ∧ leAt t (4 * c + 1) 1 < 2) && leAt t (4 * c + 2) 2 == 0) &&
  ((sectionOf h Sect.kernel).isNone || leAt (sectionBytes h Sect.kernel) 162 2 == 0)

/-- The key envelope (R451). -/
def envelopeRulesOk (e : List Byte) : Bool :=
  let n := leAt e 2 2
  let ids := (List.range n).map fun r => slice e (0x70 + 1152 * r) 16
  leAt e 0 2 == 1 && decide (1 ≤ n ∧ n ≤ 32) && e.length == 112 + 1152 * n && leAt e 4 4 == 0 && leAt e 0x69 7 == 0 &&
  (List.range n).all (fun r => leAt e (0x70 + 1152 * r + 0x478) 8 == 0) && ids.eraseDups.length == n

/-- Fields of the fixed part that both kinds of header share (Table 3-1). -/
def fixedOk (h : List Byte) : Bool :=
  decide (hdrFlags h < 4) && hdrJobId h != 0 && decide (2000 ≤ hdrPixPm h ∧ hdrPixPm h ≤ 20000) &&
  decide (16 ≤ hdrPixCounts h) && decide (1 ≤ hdrNstripe h ∧ hdrNstripe h ≤ 1048576) && leAt h 0x2C 4 == 0 &&
  decide (1 ≤ hdrNblock h ∧ hdrNblock h ≤ 2 ^ 40) && leAt h 0x40 64 == 0

/-- Step 3 of R76 for JOB_LOAD. -/
def jobRulesOk (h : List Byte) : Bool :=
  let ss := hdrStripes h
  fixedOk h && !hdrSupplement h && hdrSeqFirst h == 0 && decide (1 ≤ hdrNlayer h ∧ hdrNlayer h ≤ 65536) &&
  (hdrAdditive h || hdrNlayer h == 1) && classesOk h &&
  (List.range ss.length).all (stripeRangeOk h (sectionBytes h Sect.stripes)) &&
  stripeOrderOk (fun _ => 0) 0 ss && layersOk (sectionBytes h Sect.layers) ss (hdrNlayer h) 0 0 &&
  envelopeRulesOk (sectionBytes h Sect.envelope)

/-- The layer of the loaded job that is open: R75 does not say which is; it is the one in progress, from the closing of the one before it
to its own (DESIGN CHOICE, log entry 149). -/
def layerIsOpen (s : State) (j : Job) (l : Nat) : Bool := l == s.prog.closed && decide (l < j.nlayer)

/-- Step 3 of R76 for a supplement (R75). PIX_PM and PIX_COUNTS that differ from the loaded job's are accepted: the job
keeps its own, and the scan limit of R193 is tested with the supplement's (DESIGN CHOICE, log entry 150). Either value of
ADDITIVE is accepted, since a supplement's NLAYER is 0 (DESIGN CHOICE, log entry 151). -/
def supplementRulesOk (s : State) (j : Job) (h : List Byte) : Bool :=
  let ss := hdrStripes h
  fixedOk h && hdrSupplement h && hdrNlayer h == 0 && hdrSeqFirst h == j.seqEnd &&
  (sections h).all (fun c => !knownType c.typ || c.typ == Sect.stripes || c.typ == Sect.signature) &&
  (List.range ss.length).all (stripeRangeOk h (sectionBytes h Sect.stripes)) &&
  ss.all (fun e => e.makeup && layerIsOpen s j e.layer) &&
  stripeOrderOk (fun l => (j.stripes.filter fun e => e.layer == l).length) 0 ss

/-- The first failing step of R76 for JOB_LOAD. -/
def jobHeaderFault (s : State) (h : List Byte) (len : Nat) : Option Status :=
  if !structureOk h len then some .headerInvalid
  else if !headerSigned s h then some .signatureInvalid
  else if !jobRulesOk h then some .headerInvalid
  else none

/-- The first failing step of R76 for a supplement; step 4 is the match of JOB_ID and DIGEST. -/
def supplementFault (s : State) (j : Job) (h : List Byte) (len : Nat) : Option Status :=
  if !structureOk h len then some .headerInvalid
  else if !headerSigned s h then some .signatureInvalid
  else if !supplementRulesOk s j h then some .headerInvalid
  else if hdrJobId h ≠ j.jobId ∨ hdrDigest h ≠ j.digest then some .headerInvalid
  else none

/-! ## Keys (R447, R452) -/

/-- HW_REV (Table 14-3). -/
abbrev hwRev : Nat := 1

/-- ID_KEY_HASH. -/
def idKeyHash : List Byte := (Config.sha384 (4 :: Config.identityKey)).take 16

/-- The recipient record of this module in an envelope. -/
def ownRecord (e : List Byte) : Option (List Byte) :=
  ((List.range (leAt e 2 2)).map fun r => slice e (0x70 + 1152 * r) 1152).find? fun rec => rec.take 16 == idKeyHash

/-- K_job and K_blk of a header, or none when KEY_UNWRAP is the answer (R452). Without the wrap keys nothing can be unwrapped (R444). -/
def unwrapKey (s : State) (h : List Byte) : Option JobKeys :=
  let e := sectionBytes h Sect.envelope
  match ownRecord e, (if s.sec.wrap then Config.ecdh (slice e 8 97) else none) with
  | some rec, some zec =>
    let salt := leBytes 8 (hdrJobId h)
    let kek := Config.hkdf salt (zec ++ Config.kemDecap (slice rec 16 1088)) ([0x44, 0x4D, 0x4B, 0x57] ++ rec.take 16 ++ leBytes 8 (hdrDigest h))
    (Config.kwUnwrap kek (slice rec 0x450 40)).map fun k => ⟨k, Config.hkdf salt k [0x44, 0x4D, 0x42, 0x4B]⟩
  | _, _ => none

/-- The job a header describes. -/
def jobOf (h : List Byte) : Job :=
  { jobId := hdrJobId h, digest := hdrDigest h, additive := hdrAdditive h, pixPm := hdrPixPm h, pixCounts := hdrPixCounts h
    nlayer := hdrNlayer h, classes := hdrClasses h
    kernel := if (sectionOf h Sect.kernel).isSome then halves (sectionBytes h Sect.kernel) 81 else []
    factors := if (sectionOf h Sect.factors).isSome then halves (sectionBytes h Sect.factors) 16384 else []
    stripes := hdrStripes h, seqEnd := hdrNblock h }

end Sys2Proof.Machine
end

