-- ==== Sys2Proof/Machine/Check.lean ====
section
/-!
DEFINITION. The check-value units (R400 to R403). A unit consumes a byte per core cycle from its queue, and reads of RESULT and
COUNT wait for the queue (R403), so each write acts at once here. How far the queue has drained when STATUS is read is a free
value (log entry 23).
-/

namespace Sys2Proof.Machine

/-- The algorithm of an ALG value: 3 acts as 0 (Table 16-8). -/
def chkAlg (n : Nat) : CrcAlg := if n = 1 then crc64 else if n = 2 then crc16 else crc32c

/-- A unit's running state. -/
def chkUnit (s : State) (u : Nat) : Chk := s.chk.getD u Chk.por

/-- RESULT follows the running register, with the final exclusive-or (R403). -/
def chkResult (u : Nat) (s : State) : State :=
  let k := chkUnit s u
  rset64 (Reg.CHK_UNIT_RESULT_LO u) (Reg.CHK_UNIT_RESULT_HI u) (crcResult (chkAlg k.alg) k.crc) s

/-- Units 0 and 1 take writes from host software, units 2 and 3 from Liroth firmware (R400). -/
def chkAccepts (u : Nat) (byHost : Bool) : Bool := byHost == decide (u < 2)

/-- A write from the other side is dropped and counted (R400). -/
def chkDrop (u : Nat) (s : State) : State := fcount (Reg.CHK_UNIT_STATUS_DROPPED u) 1 s

/-- The fold bytes that CFG.GUARD selects; 3 acts as 0 (R401). -/
def chkFold (s : State) (u : Nat) : List Byte :=
  match fget s (Reg.CHK_UNIT_CFG_GUARD u) with
  | 1 => leBytes 8 (rget64 s (Reg.CHK_UNIT_FOLD_LO u) (Reg.CHK_UNIT_FOLD_HI u))
  | 2 => leBytes 4 (rget s (Reg.CHK_UNIT_FOLD_LO u)).toNat
  | _ => []

/-- CMD.START (R401): the initial value of ALG, COUNT cleared, the fold fed. -/
def chkStart (u : Nat) (byHost : Bool) (s : State) : State :=
  if !chkAccepts u byHost then chkDrop u s
  else
    let alg := fget s (Reg.CHK_UNIT_CFG_ALG u)
    let alg := if alg = 3 then 0 else alg
    let a := chkAlg alg
    let s := { s with chk := updAt Chk.por s.chk u fun k => ⟨alg, crcFeed a a.init (chkFold s u), k.queued⟩ }
    chkResult u (fput (Reg.CHK_UNIT_COUNT_BYTES u) 0 s)

/-- Bytes are fed to a unit (R402). -/
def chkFeed (u : Nat) (byHost : Bool) (bs : List Byte) (s : State) : State :=
  if !chkAccepts u byHost then chkDrop u s
  else
    let s := { s with chk := updAt Chk.por s.chk u fun k =>
      { k with crc := crcFeed (chkAlg k.alg) k.crc bs, queued := min 16 (k.queued + bs.length) } }
    chkResult u (fput (Reg.CHK_UNIT_COUNT_BYTES u) ((fget s (Reg.CHK_UNIT_COUNT_BYTES u) + bs.length) % 2 ^ 32) s)

/-- What a read of a unit does first: one of RESULT or COUNT waits until the queue is empty; one of STATUS meets as many bytes in
the queue as have not yet been consumed (R402, R403). -/
def chkCapture (u k : Nat) (s : State) : State :=
  let left := fun (n : Nat) (s : State) => { s with chk := updAt Chk.por s.chk u fun k => { k with queued := n } }
  if k = Reg.CHK_UNIT_RESULT_LO u ∨ k = Reg.CHK_UNIT_RESULT_HI u ∨ k = Reg.CHK_UNIT_COUNT u then left 0 s
  else if k = Reg.CHK_UNIT_STATUS u ∧ (chkUnit s u).queued ≠ 0 then
    let n := freeNat s % ((chkUnit s u).queued + 1)
    fput (Reg.CHK_UNIT_STATUS_QUEUED u) n (left n (useFree s))
  else if k = Reg.CHK_UNIT_STATUS u then fput (Reg.CHK_UNIT_STATUS_QUEUED u) 0 s
  else s

end Sys2Proof.Machine
end

