-- ==== Sys2Proof/Machine/Dma.lean ====
section
/-!
DEFINITION. The DMA engines (R384 to R399): channels, descriptors, transfers, parking, halting, and the correctable
errors of the link.
-/

namespace Sys2Proof.Machine

/-! ## Channels -/

/-- A channel. -/
def dmaChan (s : State) (c : Nat) : DmaChan := s.dma.chans.getD c DmaChan.idle

/-- Change a channel. -/
def updDma (c : Nat) (f : DmaChan → DmaChan) (s : State) : State :=
  { s with dma := { s.dma with chans := updAt DmaChan.idle s.dma.chans c f } }

/-- Channel states (Table 16-6). -/
abbrev Dma.idle : Nat := 0
abbrev Dma.running : Nat := 1
abbrev Dma.parked : Nat := 2
abbrev Dma.halted : Nat := 3

/-- The STATE of a channel. -/
def dmaState (s : State) (c : Nat) : Nat := fget s (Reg.DMA_CH_STATE_STATE c)

/-- Put a channel in a state. -/
def setDma (c st : Nat) (s : State) : State := fput (Reg.DMA_CH_STATE_STATE c) st s

/-- Halt codes (Table 16-4). -/
abbrev Halt.descFetch : Nat := 1
abbrev Halt.descFormat : Nat := 2
abbrev Halt.hostData : Nat := 3
abbrev Halt.foldMismatch : Nat := 4
abbrev Halt.poison : Nat := 5

/-! ## Descriptors (R386, R387, R391) -/

/-- A descriptor from its 32 bytes (Table 16-1). -/
def descOf (addr : Nat) (bs : List Byte) : Desc :=
  { addr := addr, src := leAt bs 0 8, dst := leAt bs 8 8, next := leAt bs 16 8, len := leAt bs 24 4
    flags := leAt bs 28 2, seq := leAt bs 30 2 }

/-- Flags (Table 16-2). -/
def Desc.barrier (d : Desc) : Bool := d.flags.testBit 0
def Desc.swap (d : Desc) : Nat := bits d.flags 2 1
def Desc.eoc (d : Desc) : Bool := d.flags.testBit 3
def Desc.fold (d : Desc) : Bool := d.flags.testBit 4
def Desc.outbound (d : Desc) : Bool := d.flags.testBit 5

/-- The module pointer's CLASS and OFFSET (R386). -/
def Desc.modulePtr (d : Desc) : Nat := if d.outbound then d.src else d.dst
def Desc.cls (d : Desc) : Nat := d.modulePtr / 2 ^ 60
def Desc.offset (d : Desc) : Nat := d.modulePtr % 2 ^ 36

/-- The descriptor keeps R386, R387, R389, R391 and Tables 16-1 to 16-3. -/
def Desc.ok (d : Desc) : Bool :=
  decide (d.addr % 32 = 0 ∧ d.next % 32 = 0 ∧ 1 ≤ d.len ∧ d.len ≤ 16777216 ∧ d.flags < 64 ∧ d.swap ≠ 3 ∧
    d.modulePtr / 2 ^ 36 % 2 ^ 24 = 0) &&
  (d.next != 0 || d.eoc) &&
  decide (d.swap = 1 → d.offset % 2 = 0 ∧ d.len % 2 = 0) && decide (d.swap = 2 → d.offset % 4 = 0 ∧ d.len % 4 = 0) &&
  (match d.cls with
    | 1 => !d.outbound && decide (d.offset = 0 ∧ d.len % 8 = 0 ∧ 104 ≤ d.len ∧ d.len ≤ 1048664 ∧ d.swap = 0)
    | 2 => !d.outbound && decide (d.offset + d.len ≤ 67108864) && (!d.fold || decide (5 ≤ d.len))
    | 3 => d.outbound && decide (d.offset + d.len ≤ 1073741824) && (!d.fold || decide (5 ≤ d.len))
    | _ => false)

/-! ## Requests of host memory, and descriptors begun behind one another (R384, R385) -/

/-- The shared buffer, and the share of it that one channel holds at most: CH_MAX_KIB acts as 16 to 1,024 (Table 16-7). -/
abbrev dmaBuffer : Nat := 1048576
def dmaShare (s : State) : Nat := 1024 * max 16 (min 1024 (fget s Reg.DMA_CFG_CH_MAX_KIB))

/-- The bytes of the buffer that requests hold. -/
def bytesHeld (rs : List HostRequest) : Nat := (rs.map (·.len)).sum

/-- A channel's requests. -/
def chanRequests (c : Nat) (s : State) : List HostRequest := s.dma.requests.filter fun r => r.chan == c

/-- A descriptor read ahead that begins while the data of those before it is in flight: an INPUT transfer without fault. Another
begins when it is its turn (log entry 67). -/
def Fetched.begun : Fetched → Option Desc
  | .read d => if d.ok && d.cls == 2 then some d else none
  | .failed _ => none

/-- The descriptors of a channel that are in execution, in chain order. -/
def DmaChan.begun (k : DmaChan) : List Desc :=
  match k.phase, k.desc with
  | .data, some d => d :: (k.ahead.takeWhile fun f => f.begun.isSome).filterMap Fetched.begun
  | _, _ => []

/-- The descriptor that holds byte `n` of the data that the write engine reads for `ds`, and the byte's place in it. -/
def inboundAt : List Desc → Nat → Option (Desc × Nat)
  | [], _ => none
  | d :: ds, n => if d.outbound then inboundAt ds n else if n < d.len then some (d, n) else inboundAt ds (n - d.len)

/-- The next read of host memory that a channel would issue: it ends with the descriptor, at the Max Read Request Size and at a
4 KiB boundary, and its data fits in the channel's share and in the buffer. -/
def nextRead (c : Nat) (s : State) : Option HostRequest :=
  let k := dmaChan s c
  if dmaState s c ≠ Dma.running then none
  else
    match inboundAt k.begun k.asked with
    | none => none
    | some (d, i) =>
      let a := d.src + i
      let n := min (d.len - i) (min s.host.readRequest (4096 - a % 4096))
      if bytesHeld (chanRequests c s) + n ≤ dmaShare s ∧ bytesHeld s.dma.requests + n ≤ dmaBuffer then some ⟨c, a, n⟩ else none

/-- The tags in use (Table 14-1): the requests for data, and the reads of descriptors. -/
def tagsUsed (s : State) : Nat :=
  s.dma.requests.length + (s.dma.chans.filter fun k =>
    k.reading || (match k.phase with | .fetch _ | .reread => true | _ => false)).length

/-- The write engine issues requests, one a turn, round robin over the channels (R385), while there are tags and buffer. -/
def issueReads : Nat → State → State
  | 0, s => s
  | n + 1, s =>
    if s.host.config.outstanding ≤ tagsUsed s then s
    else
      match ((List.range 8).map fun i => (s.dma.turn + 1 + i) % 8).findSome? fun c => nextRead c s with
      | none => s
      | some r => issueReads n (updDma r.chan (fun k => { k with asked := k.asked + r.len })
          { s with dma := { s.dma with requests := s.dma.requests ++ [r], turn := r.chan } })

/-- The read of the next descriptor may be issued ahead: the last one read leads on, has no BARRIER, and leaves room in the
channel's share (R384, R385). -/
def leadsOn (c : Nat) (s : State) : Bool :=
  let k := dmaChan s c
  let ds := k.begun
  !k.reading && !k.stopping && dmaState s c == Dma.running && decide ((ds.map (·.len)).sum < dmaShare s) &&
    ds.length == k.ahead.length + 1 && (match ds.getLast? with | some d => d.next != 0 && !d.barrier | none => false)

/-- The read of the next descriptor of a channel is issued where it may be, and APPEND_COUNT sampled with it (R398). -/
def readAhead (c : Nat) (s : State) : State :=
  if leadsOn c s then
    let a := (rget s (Reg.DMA_CH_APPEND_COUNT c)).toNat
    updDma c (fun k => { k with reading := true, sample := a }) s
  else s

/-- The engines go on: reads of descriptors ahead, then requests for data. In Rest and its entry they issue none (R469). -/
def dmaGoesOn (s : State) : State :=
  if resting s then s else issueReads 256 ((List.range 8).foldl (fun s c => readAhead c s) s)

/-- Take from a list of requests, oldest first, those that make up its first `n` bytes. -/
def dropBytes : Nat → List HostRequest → List HostRequest
  | _, [] => []
  | n, r :: rs => if n = 0 then r :: rs else dropBytes (n - r.len) rs

/-- The first `n` bytes that a channel has asked for have come and left the buffer. -/
def releaseReads (c n : Nat) (s : State) : State :=
  let kept := dropBytes (min n (dmaChan s c).asked) (chanRequests c s)
  updDma c (fun k => { k with asked := k.asked - n })
    { s with dma := { s.dma with requests := s.dma.requests.filter (fun r => r.chan != c) ++ kept } }

/-- A channel gives up its share of the buffer, and what it read ahead. -/
def dropReads (c : Nat) (s : State) : State :=
  updDma c (fun k => { k with ahead := [], reading := false, asked := 0 })
    { s with dma := { s.dma with requests := s.dma.requests.filter fun r => r.chan != c } }

/-- A channel halts on the descriptor at `addr` (R394): it issues no further request. -/
def haltDma (c code addr : Nat) (s : State) : State :=
  let s := dropReads c s
  let s := rset64 (Reg.DMA_CH_ERR_ADDR_LO c) (Reg.DMA_CH_ERR_ADDR_HI c) addr s
  raise (Ev.DMA_CH_HALT c) (fput (Reg.DMA_CH_STATE_ERR c) code (setDma c Dma.halted s))

/-- Units of the staging ring that a descriptor needs (R392). -/
def stagingUnits (len : Nat) : Nat := (len + 4095) / 4096

/-- Units of the staging ring: 8 GiB in 4 KiB. -/
abbrev stagingRing : Nat := 2097152

/-- A channel drops what it holds: the units of a staging block not wholly landed (R395). -/
def dropHeld (c : Nat) (s : State) : State :=
  let k := dmaChan s c
  let s := match k.phase, k.desc with
    | .data, some d => if d.flags.testBit 5 = false ∧ d.dst / 2 ^ 60 = 1 then freeStaging (stagingUnits d.len) s else s
    | _, _ => s
  updDma c (fun _ => DmaChan.idle) (dropReads c s)

/-- A channel becomes IDLE. -/
def idleDma (c : Nat) (s : State) : State := setDma c Dma.idle (dropHeld c s)

/-- The read of a descriptor at `addr` is issued, and APPEND_COUNT sampled with it (R398). -/
def fetchDesc (c addr : Nat) (s : State) : State :=
  let a := (rget s (Reg.DMA_CH_APPEND_COUNT c)).toNat
  updDma c (fun k => { k with phase := .fetch addr, desc := none, sample := a }) (setDma c Dma.running s)

/-! ## Descriptors in execution -/

/-- DMA into the staging ring runs in Ready, Write and Hold (Table 2-3). -/
def stagingOn (s : State) : Bool := s.flow.mode == .ready || s.flow.mode == .write || s.flow.mode == .hold

/-- A STAGING descriptor starts once the ring has room for its block; until then STAGING_FULL is in force (R392). -/
def startStaging (c : Nat) (d : Desc) (s : State) : State :=
  if stagingOn s ∧ s.ingest.stagingUsed + stagingUnits d.len ≤ stagingRing then
    updDma c (fun k => { k with phase := .data, ringAt := s.ingest.stagingNext }) { s with ingest := { s.ingest with
      stagingUsed := s.ingest.stagingUsed + stagingUnits d.len
      stagingNext := (s.ingest.stagingNext + stagingUnits d.len) % stagingRing } }
  else raiseIf (stagingOn s) Ev.STAGING_FULL (updDma c (fun k => { k with phase := .room }) s)

/-- A descriptor that has been read begins. -/
def startDesc (c : Nat) (d : Desc) (s : State) : State :=
  let s := updDma c (fun k => { k with desc := some d }) s
  if !d.ok then haltDma c Halt.descFormat d.addr s
  else if d.cls = 1 then startStaging c d s
  else updDma c (fun k => { k with phase := .data }) s

/-- The loop of R398 on a tail whose NEXT reads 0: park, or read NEXT again. -/
def tailLoop (c : Nat) (s : State) : State :=
  let a := (rget s (Reg.DMA_CH_APPEND_COUNT c)).toNat
  if a = (dmaChan s c).sample then setDma c Dma.parked (updDma c (fun k => { k with phase := .idle }) s)
  else setDma c Dma.running (updDma c (fun k => { k with phase := .reread, sample := a }) s)

/-- A descriptor that has been read takes its turn: it is the one being executed. -/
def turnDesc (c : Nat) (d : Desc) (s : State) : State :=
  startDesc c d (rset64 (Reg.DMA_CH_CUR_LO c) (Reg.DMA_CH_CUR_HI c) d.addr s)

/-- The read of the descriptor at `addr` failed, and its turn has come. -/
def turnFailed (c addr : Nat) (s : State) : State :=
  haltDma c Halt.descFetch addr (rset64 (Reg.DMA_CH_CUR_LO c) (Reg.DMA_CH_CUR_HI c) addr s)

/-- NEXT of the kept tail has been read again (R398). -/
def rereadDone (c next : Nat) (s : State) : State :=
  if (dmaChan s c).stopping then idleDma c s
  else if next = 0 then tailLoop c s
  else if next % 32 ≠ 0 then
    haltDma c Halt.descFormat (match (dmaChan s c).desc with | some d => d.addr | none => 0) s
  else fetchDesc c next s

/-- The read of a descriptor ahead of its turn returns (R385). -/
def fetchedAhead (c : Nat) (read : HostRead) (s : State) : State :=
  let k := dmaChan s c
  match k.reading, k.begun.getLast? with
  | true, some d =>
    let f := match read with
      | .ok bs => Fetched.read (descOf d.next bs)
      | .failed => Fetched.failed d.next
    updDma c (fun k => { k with reading := false, ahead := k.ahead ++ [f] }) s
  | _, _ => s

/-- DMA_DESCRIPTOR_FETCH: a descriptor read, or the re-read of a tail's NEXT, returns (R386, R394, R398). -/
def descFetched (c : Nat) (read : HostRead) (s : State) : State :=
  if dmaState s c ≠ Dma.running ∨ resting s = true then s
  else
    let k := dmaChan s c
    match k.phase, read with
    | .fetch addr, .ok bs => turnDesc c (descOf addr bs) s
    | .fetch addr, .failed => turnFailed c addr s
    | .reread, .ok bs => rereadDone c (leAt bs 0 8) s
    | .reread, .failed => haltDma c Halt.descFetch (match k.desc with | some d => d.addr | none => 0) s
    | .data, read => fetchedAhead c read s
    | _, _ => s

/-- DMA_DESCRIPTOR_FETCH. -/
def execDmaDescriptorFetch (c : Fin 8) (read : HostRead) (s : State) : Res := .next (dmaGoesOn (descFetched c.val read s))

/-! ## Completion (R388 to R394) -/

/-- The chain goes on behind the descriptor that completed: with what has been read ahead, else with its NEXT (R385, R398). -/
def chainOn (c : Nat) (d : Desc) (s : State) : State :=
  let k := dmaChan s c
  if k.stopping then idleDma c s
  else
    match k.ahead with
    | .read e :: rest => turnDesc c e (updDma c (fun k => { k with ahead := rest }) s)
    | .failed addr :: _ => turnFailed c addr s
    | [] =>
      if k.reading then updDma c (fun k => { k with phase := .fetch d.next, desc := none, reading := false }) s
      else if d.next = 0 then tailLoop c s
      else fetchDesc c d.next s

/-- The current descriptor completes: DONE_SEQ takes its SEQ, and the chain goes on, parks or stops (R390, R397, R398). -/
def descDone (c : Nat) (d : Desc) (s : State) : State :=
  let s := if d.outbound then s else releaseReads c d.len s
  chainOn c d (updDma c (fun k => { k with phase := .idle }) (fput (Reg.DMA_CH_STATE_DONE_SEQ c) d.seq s))

/-- Bytes moved by a channel (Table 16-7). -/
def bytesMoved (c n : Nat) (s : State) : State := fcount (Reg.DMA_CH_BYTES_COUNT c) n s

/-- Module bytes of an inbound transfer: host byte i goes to module byte OFFSET + (i XOR s) (R389). -/
def swapped (sw : Nat) (bs : List Byte) : List Byte :=
  let k := if sw = 1 then 1 else if sw = 2 then 2 else 0
  (List.range bs.length).map fun i => bs.getD (i ^^^ k) 0

/-- The fold value of a transfer is right (R391). -/
def foldOk (d : Desc) (bs : List Byte) : Bool :=
  !d.fold || transportOk d.seq bs

/-- The input buffer (R366). -/
abbrev inputBuffer : Nat := 0x08000000

/-- An INPUT transfer lands: each reading is written as it comes, up to the first of three whose fold value is right; after
three that are wrong the channel halts (R391). With fewer the transfer is still being read. -/
def landInput (c : Nat) (d : Desc) : Nat → List (List Byte) → State → State
  | 0, _, s => haltDma c Halt.foldMismatch d.addr s
  | _ + 1, [], s => s
  | n + 1, bs :: rest, s =>
    if bs.length ≠ d.len then s
    else
      let s := bytesMoved c d.len (memWrite Port.proctor (inputBuffer + d.offset) (swapped d.swap bs) s)
      if foldOk d bs then descDone c d s else landInput c d n rest s

/-- A STAGING transfer lands: the block is taken up by SEQ, and the descriptor completes (R79, R390). -/
def landStaging (c : Nat) (d : Desc) (bs : List Byte) (s : State) : State :=
  if bs.length ≠ d.len then s
  else
    let at' := (dmaChan s c).ringAt
    let s := writeParts Port.staging (stagingParts at' d.len) (updDma c (fun k => { k with phase := .idle }) s)
    descDone c d (landBlock c d.addr (stagingUnits d.len) at' bs (bytesMoved c d.len s))

/-- What an outbound transfer writes to host memory: the module's bytes under SWAP, with the fold value in place of the last
four under FOLD_SEQ (R389, R391). -/
def outboundBytes (d : Desc) (bs : List Byte) : List Byte :=
  let out := swapped d.swap bs
  if d.fold then
    let body := out.take (d.len - 4)
    body ++ leBytes 4 (crcOf crc32c (leBytes 8 d.seq ++ body))
  else out

/-- Bytes in pieces of `k`: host addresses and contents. -/
def pieces (k : Nat) : Nat → Nat → List Byte → List (Nat × List Byte)
  | 0, _, _ => []
  | n + 1, a, bs => if bs.isEmpty then [] else (a, bs.take k) :: pieces k n (a + k) (bs.drop k)

/-- The posted writes of some bytes, split at the Max Payload Size (R384). -/
def postedWrites (s : State) (addr : Nat) (bs : List Byte) : List (Nat × List Byte) := pieces s.host.payload bs.length addr bs

/-- A DIAG transfer ends: its writes have been posted, then `f` follows; a unit that cannot be read halts the channel (R393). -/
def endDiag (c : Nat) (d : Desc) (f : State → State) (s : State) : State :=
  let p := memRead Port.proctor ((region Rgn.diag).lo + d.offset) d.len s
  match p.2 with
  | some bs =>
    let t := { p.1 with host := { p.1.host with wrote := postedWrites p.1 d.dst (outboundBytes d bs) } }
    f (bytesMoved c d.len t)
  | none => haltDma c Halt.poison d.addr p.1

/-- A part of a failing transfer lands in the descriptor that holds it, at byte `i` of it (R389, R394). -/
def landPart (c : Nat) (d : Desc) (i : Nat) (bs : List Byte) (s : State) : State :=
  let bs := bs.take (d.len - i)
  let k := if d.swap = 1 then 1 else if d.swap = 2 then 2 else 0
  bytesMoved c bs.length
    (if d.cls = 1 then writeParts Port.staging (stagingSpan ((dmaChan s c).ringAt * 4096 + i) bs.length) s
     else bs.zipIdx.foldl (fun s b => memWrite Port.proctor (inputBuffer + d.offset + ((i + b.2) ^^^ k)) [b.1] s) s)

/-- What was in flight when a request failed lands (R394). -/
def landParts (c : Nat) (parts : List (Nat × List Byte)) (s : State) : State :=
  let ds := (dmaChan s c).begun
  parts.foldl (fun s p => match inboundAt ds p.1 with | some (d, i) => landPart c d i p.2 s | none => s) s

/-- A transfer through the PROCTOR port of DRAM, which is held closed until the fill of Boot completes (R336): it does not
end before that. -/
def portClosed (s : State) (d : Desc) : Bool :=
  s.flow.mode == .boot && s.flow.boot != .over && (d.outbound || d.cls != 1)

/-- DMA_DESCRIPTOR_COMPLETE: the data phase of a channel's descriptor ends. -/
def descComplete (c : Nat) (xfer : HostXfer) (s : State) : State :=
  let k := dmaChan s c
  match k.phase, k.desc with
  | .data, some d =>
    if dmaState s c ≠ Dma.running ∨ s.flow.mode = .rest ∨ portClosed s d then s
    else
      match xfer with
      | .failed parts =>
        if d.outbound then endDiag c d (haltDma c Halt.hostData d.addr) s
        else haltDma c Halt.hostData d.addr (landParts c parts s)
      | .written => if d.outbound then endDiag c d (descDone c d) s else s
      | .data readings =>
        if d.outbound then s
        else if d.cls = 1 then
          match readings with
          | bs :: _ => landStaging c d bs s
          | [] => s
        else landInput c d 3 readings s
  | _, _ => s

/-- DMA_DESCRIPTOR_COMPLETE. -/
def execDmaDescriptorComplete (c : Fin 8) (xfer : HostXfer) (s : State) : Res := .next (dmaGoesOn (descComplete c.val xfer s))

/-- BLOCK_LANDED: a sealed block lands in the staging ring (R79). -/
def execBlockLanded (c : Fin 8) (bytes : List Byte) (s : State) : Res :=
  .next (dmaGoesOn (match (dmaChan s c.val).phase, (dmaChan s c.val).desc with
    | .data, some d => if dmaState s c.val = Dma.running ∧ !d.outbound ∧ d.cls = 1 then landStaging c.val d bytes s else s
    | _, _ => s))

/-- STAGING_ROOM: a waiting STAGING descriptor starts once the ring has room (R392). -/
def stagingRoom (c : Nat) (s : State) : State :=
  match (dmaChan s c).phase, (dmaChan s c).desc with
  | .room, some d =>
    if dmaState s c = Dma.running ∧ stagingOn s ∧ resting s = false ∧ s.ingest.stagingUsed + stagingUnits d.len ≤ stagingRing then startStaging c d s else s
  | _, _ => s

/-- STAGING_ROOM. -/
def execStagingRoom (c : Fin 8) (s : State) : Res := .next (dmaGoesOn (stagingRoom c.val s))

/-! ## CTRL and APPEND_COUNT (R397, R398) -/

/-- START, while the channel is IDLE or HALTED. -/
def dmaStart (c : Nat) (s : State) : State :=
  if dmaState s c = Dma.idle ∨ dmaState s c = Dma.halted then
    let s := fput (Reg.DMA_CH_STATE_ERR c) 0 (dropHeld c s)
    fetchDesc c (rget64 s (Reg.DMA_CH_HEAD_LO c) (Reg.DMA_CH_HEAD_HI c)) s
  else s

/-- RETRY, while HALTED: the failing descriptor runs again from its first byte. A transfer is made again; a descriptor whose
read failed, or whose NEXT could not be read again, is read again, and APPEND_COUNT sampled anew. -/
def dmaRetry (c : Nat) (s : State) : State :=
  if dmaState s c ≠ Dma.halted then s
  else
    let addr := rget64 s (Reg.DMA_CH_ERR_ADDR_LO c) (Reg.DMA_CH_ERR_ADDR_HI c)
    let code := fget s (Reg.DMA_CH_STATE_ERR c)
    let s := fput (Reg.DMA_CH_STATE_ERR c) 0 s
    match (dmaChan s c).phase with
    | .data => dmaGoesOn (setDma c Dma.running s)
    | _ => if code = 0 then s else fetchDesc c addr s

/-- STOP lets the current descriptor complete and then sets IDLE; a parked channel has none. -/
def dmaStop (c : Nat) (s : State) : State :=
  if dmaState s c = Dma.parked then idleDma c s
  else if dmaState s c = Dma.running then updDma c (fun k => { k with stopping := true }) s
  else s

/-- A write of APPEND_COUNT adds 1, whatever the value, and restarts the tail loop of a parked channel (R398). -/
def dmaAppend (c : Nat) (s : State) : State :=
  let s := rset (Reg.DMA_CH_APPEND_COUNT c) (rget s (Reg.DMA_CH_APPEND_COUNT c) + 1) s
  if dmaState s c = Dma.parked then tailLoop c s else s

/-- Every channel stops at once and is IDLE (R395). -/
def stopAllDma (s : State) : State := (List.range 8).foldl (fun s c => fput (Reg.DMA_CH_STATE_ERR c) 0 (idleDma c s)) s

/-! ## Correctable errors (R396) -/

/-- One correctable error of the link: PCIE_ERROR once in a second in which more than WARN fall. -/
def aerError (s : State) : State :=
  let sec := timeSec s
  let same := s.dma.aerSecond == sec
  let n := if same then s.dma.aerInSecond + 1 else 1
  let w := fget s Reg.DMA_AER_WARN
  let high := decide (w ≠ 0 ∧ w < n) && !(same && s.dma.aerRaised)
  raiseIf high Ev.PCIE_ERROR (fcount Reg.DMA_AER_COUNT_COUNT 1 { s with dma := { s.dma with
    aerSecond := sec, aerInSecond := n, aerRaised := (same && s.dma.aerRaised) || high } })

/-- PCIE_CORRECTABLE_ERROR. -/
def execPcieCorrectableError (s : State) : Res := .next (aerError s)

end Sys2Proof.Machine
end

