-- ==== Sys2Proof/Machine/Page.lean ====
section
/-!
DEFINITION. The status page (R347 to R352): the three sections and their refreshes, and the identity block's
firmware-written fields.
-/

namespace Sys2Proof.Machine

/-- A sequence word after one whole update (R348). -/
def seqNext (n : Nat) : Nat := (n + 2) % 2 ^ 32

/-! ## Core section (R350, R351) -/

/-- LAYER and STRIPE of the current or last stripe; the last ones stay when a job has gone. -/
def pageStripe (s : State) : Nat × Nat :=
  match s.flow.job, stripeAt s s.prog.cur, s.prog.lastStarted with
  | .stripe, some e, _ => (e.layer, e.stripe)
  | _, _, some p => p
  | _, _, none => (s.page.core.layer, s.page.core.stripe)

/-- DMA_STATE: bit c for a RUNNING channel, bit 8 + c for a HALTED one (log entry 26). -/
def dmaStateWord (s : State) : Nat :=
  (List.range 8).foldl (fun w c =>
    w + (if dmaState s c = Dma.running then 2 ^ c else 0) + (if dmaState s c = Dma.halted then 2 ^ (8 + c) else 0)) 0

/-- The core section's fields as they stand now (Table 14-4). -/
def corePage (s : State) : CorePage :=
  { timeNs := timeE s % 1000000000
    timeS := timeSec s % 2 ^ 48
    mode := s.flow.mode.code
    job := s.flow.job.code
    bootStep := s.flow.bootStep
    causes := s.flow.causes
    jobId := match s.job with | some j => j.jobId | none => 0
    layer := (pageStripe s).1
    stripe := (pageStripe s).2
    shot := storedReg s Reg.BELL_SHOT
    bandLead := (storedReg s Reg.RAS_BAND_LEAD).toNat
    psetSeq := storedReg s Reg.GTH_PSET_SEQ
    absHead := storedReg s Reg.ABS_HEAD
    absUnrec := storedReg s Reg.ABS_UNREC
    events := s.ev.bits
    digest := rget64 s Reg.COH_DIGEST_LO Reg.COH_DIGEST_HI
    jobDigest := match s.job with | some j => j.digest | none => 0
    epoch := rget s Reg.COH_EPOCH
    stagingFree := stagingRing - s.ingest.stagingUsed
    dmaState := dmaStateWord s
    domains := fget s Reg.PWR_STATUS_DOMAINS }

/-- The sources whose latest raise this refresh, under `seq`, is the first to show (R360). -/
def showEvents (seq : Nat) (e : Events) : Events :=
  let new := (List.range 96).filter fun n => e.unseen.getLsbD n
  { bits := e.bits, unseen := 0, shown := new.foldl (fun m n => assocPut m n seq) e.shown }

/-- A core refresh (R348, R350, R432). -/
def refreshCore (s : State) : State :=
  let s := readHigh s
  let seq := seqNext s.page.coreSeq
  { s with page := { s.page with coreSeq := seq, core := corePage s, identityWritten := true }, ev := showEvents seq s.ev }

/-! ## Monitor section (R352) -/

/-- A probe's row. -/
def probeRow (s : State) (p : Nat) : ProbeRow :=
  let c := captureOf s p
  ⟨fget s (Reg.MON_PROBE_SRC_SOURCE p), c.min, c.max, c.last⟩

/-- A monitor refresh. -/
def refreshMonitor (s : State) : State :=
  { s with page := { s.page with monSeq := seqNext s.page.monSeq, probes := (List.range 16).map (probeRow s) } }

/-! ## Cohort section (R352, R411) -/

/-- An unwritten member row reads zero. -/
def MemberRow.zero : MemberRow := ⟨0, 0, 0⟩

/-- The 32 member rows, unwritten ones as zero. -/
def memberRows (s : State) : List MemberRow := (List.range 32).map fun i => s.page.rows.getD i MemberRow.zero

/-- A cohort refresh that takes the ROLL_CALL of position `i`: DIGEST, EPOCH and bits [9:0] of STATE (R411). -/
def refreshMember (i : Nat) (digest epoch state : Nat) (s : State) : State :=
  { s with page := { s.page with
      cohSeq := seqNext s.page.cohSeq, members := cohMembers s, own := fget s Reg.COH_CFG_OWN
      rows := (memberRows s).set i ⟨digest, epoch, state % 1024⟩ } }

/-- A cohort refresh that changes no member's row. -/
def refreshCohort (s : State) : State :=
  { s with page := { s.page with
      cohSeq := seqNext s.page.cohSeq, members := cohMembers s, own := fget s Reg.COH_CFG_OWN, rows := memberRows s } }

/-- STATUS_REFRESH: Liroth firmware updates a section (R348); while the Proctor is stopped, in Rest, or in a Boot whose
Proctor does not run yet, it does not (R350). -/
def statusRefresh (sec : Section) (s : State) : State :=
  if !proctorRuns s then s
  else match sec with
    | .core => refreshCore s
    | .monitor => refreshMonitor s
    | .cohort => refreshCohort s

/-- STATUS_REFRESH. -/
def execStatusRefresh (sec : Section) (s : State) : Res := .next (statusRefresh sec s)

end Sys2Proof.Machine
end

