-- ==== Sys2Proof/Machine/Resume.lean ====
section
/-!
DEFINITION. Resuming from Hold (R52 to R55, R372, R373, Table 2-4), by RESUME or by a RESUME frame (R417).
-/

namespace Sys2Proof.Machine

/-- The event of each Hold cause that RESUME asks to be acknowledged; the HOLD event is never required (R52). -/
def causeEvents : Nat → List Nat
  | 1 => [Ev.STUCK_OPEN] | 2 => [Ev.REVERSAL] | 3 => [Ev.SUPPLY_WARN] | 4 => [Ev.CINCH_CUT] | 6 => [Ev.PARTITION]
  | 7 => [Ev.HBM_FENCE] | 8 => [Ev.HEAD_FAULT] | 9 => [Ev.ABS_FULL] | 10 => [Ev.HBM_HOT]
  | 11 => [Ev.MOTION_FAULT, Ev.STALL] | 12 => [Ev.THERMAL_TRIP] | _ => []

/-- Every cause but bit 0, which RESUME itself clears, is gone, and no condition keeps bit 0 in force (R52, R372). -/
def causesGone (s : State) : Bool := (s.flow.causes &&& ~~~(1 : Word)) == 0 && holdClocksLocked s

/-- The events of the causes since the last resume are acknowledged (R52). -/
def causesAcked (s : State) : Bool :=
  (List.range 13).all fun n => !(s.flow.seen.getLsbD n) || (causeEvents n).all fun e => !(s.ev.bits.getLsbD e)

/-- The conditions of R52 on the state. -/
def resumeAllowed (s : State) : Bool := causesGone s && causesAcked s && digestOk s && fbit s Reg.OUT_STATUS_SETTLED

/-- A cause since the last resume has its resume point at the stripe boundary (Table 2-4; for bit 11, whose stop profile
has ended the scan, log entry 30). -/
def atBoundary (s : State) : Bool :=
  s.flow.seen.getLsbD 1 || s.flow.seen.getLsbD 2 || s.flow.seen.getLsbD 6 || s.flow.seen.getLsbD 11

/-- A stripe-boundary resume: the interrupted stripe is closed and the module enters Write (R55, R373). -/
def resumeBoundary (slot : Option (Fin 16)) (s : State) : State :=
  let s := closeStripe s
  partitionAtOnce (completeOpt slot .ok [] { s with flow := { s.flow with mode := .write, seen := s.flow.causes, holdReq := false } })

/-- A resume begins: bit 0 clears, and the module resumes in-stripe, at the stripe boundary, or, with no stripe armed, at
the next tick (R53, R55, R372, R373). -/
def beginResume (slot : Option (Fin 16)) (s : State) : State :=
  let s := clearHostHold s
  if s.flow.job = .stripe then
    if atBoundary s then resumeBoundary slot s
    else { s with flow := { s.flow with resume := .inStripe (nextGathered s) slot } }
  else { s with flow := { s.flow with resume := .atTick slot } }

/-- The payload of a RESUME frame: the last HOLD_ID acted on from each position, and the module's own (R417). -/
def resumePayload (s : State) : List Byte :=
  (List.range 32).flatMap fun i => leBytes 2 (if i = cohOwn s then fget s Reg.COH_HOLD_ID_ID else (peer s i).holdId)

/-- RESUME: refused with HOLD_CAUSE unless R52 allows it; accepted, it is told to the cohort (R417). -/
def resumeCommand (r : Req) (s : State) : State :=
  runCommand r { op := 0x0205, len := 0, moves := true, accepted := s.flow.mode == .hold } (fun s =>
    if resumeAllowed s then beginResume (some r.slot) (broadcast Kind.resume (resumePayload s) s)
    else complete r.slot .holdCause [] s) s

/-- RESUME. -/
def execResume (r : Req) (s : State) : Res := .next (resumeCommand r s)

end Sys2Proof.Machine
end

