-- ==== Sys2Proof/Machine/Triggers.lean ====
section
/-!
DEFINITION. Steps of the time counter with the triggers they pass, the eight time triggers (R441, R442), network time
(R438, R439), and the commands TIME_SET and TRIGGER_SET.
-/

namespace Sys2Proof.Machine

/-! ## The start of a job (R57, R58, R242) -/

/-- A JOB_START is under way: firmware owns the stage, START_LEAD is in force, the Window opens for the first stripe, and
EXPOSE_EN turns on (R58, R167, R242, R287). -/
def startJob (slot : Option (Fin 16)) (lead : Nat) (s : State) : State :=
  let s := { s with prog := { s.prog with startLead := if lead = 0 then 32 else lead } }
  let s := exposeOn (openWindow s.prog.cur (ownStage s))
  { s with flow := { s.flow with starting := some slot } }

/-- A JOB_START may act: Ready with job state LOADED, no transition in progress, and its domains powered. -/
def mayStart (s : State) : Bool :=
  inState s .ready .loaded && !transitioning s && [Dom.RAST, Dom.GATH, Dom.OUT].all (powered s)

/-! ## The triggers -/

/-- Trigger `n`, when it is armed. -/
def trigOf (s : State) (n : Nat) : Option Trigger := s.tim.trigs.getD n none

/-- A trigger with ACTION 2 or 4 is armed (Table 20-2). -/
def triggersVote (s : State) : Bool :=
  s.tim.trigs.any fun t => match t with
    | some t => t.action == 2 || t.action == 4
    | none => false

/-- Arm, change or turn off trigger `n`. -/
def putTrig (n : Nat) (t : Option Trigger) (s : State) : State :=
  let s := { s with tim := { s.tim with trigs := updAt none s.tim.trigs n fun _ => t } }
  let s := fputBit Reg.TIM_TRIG_STATUS_ACTIVE n t.isSome s
  if fbitAt s (Reg.PWR_VOTE_VOTES Dom.GATH) Client.triggers = triggersVote s then s
  else setVote Dom.GATH Client.triggers (triggersVote s) s

/-- A trigger fired late or its action was missed (R442). -/
def missTrig (n : Nat) (s : State) : State := raise Ev.TRIGGER_MISSED (fputBit Reg.TIM_TRIG_STATUS_LATE n true s)

/-- The input trigger `n` is converting, when it is. -/
def convInput (s : State) (n : Nat) : Option Nat :=
  (s.tim.convFor.find? fun p => p.2 == n && s.tim.converting.getLsbD p.1).map (·.1)

/-- A conversion or a pulse of trigger `n` is in progress. -/
def trigBusy (s : State) (n : Nat) : Bool := (convInput s n).isSome || s.mon.gpioHigh.any fun p => p.1 == n

/-- A pulse of trigger `n` ends (R520). -/
def endPulse (n : Nat) (s : State) : State :=
  match s.mon.gpioHigh.find? fun p => p.1 == n with
  | some p => withPin p.2 (fun s => { s with mon := { s.mon with gpioHigh := s.mon.gpioHigh.filter fun q => q.1 != n } }) s
  | none => s

/-- A conversion of trigger `n` is over or abandoned. -/
def endConversion (n : Nat) (s : State) : State :=
  match convInput s n with
  | some g => { s with tim := { s.tim with
      converting := s.tim.converting &&& ~~~((1 : BitVec 8) <<< g), convFor := s.tim.convFor.filter fun p => p.1 != g } }
  | none => s

/-- The action of a firing (Table 18-1). -/
def trigAction (n : Nat) (t : Trigger) (s : State) : State :=
  match t.action with
  | 2 =>
    if !powered s Dom.GATH || s.tim.converting.getLsbD t.gpio then missTrig n s
    else { s with tim := { s.tim with
      converting := s.tim.converting ||| 1 <<< t.gpio, convFor := assocPut s.tim.convFor t.gpio n } }
  | 3 => if mayStart s then startJob none 32 s else missTrig n s
  | 4 =>
    if !powered s Dom.GATH then missTrig n s
    else withPin t.gpio (fun s => { s with mon := { s.mon with gpioHigh := (n, t.gpio) :: s.mon.gpioHigh.filter fun p => p.1 != n } }) s
  | _ => s

/-- A one-shot that has fired is off, once its conversion or pulse is over. -/
def oneShotOver (n : Nat) (s : State) : State :=
  match trigOf s n with
  | some t => if t.period = 0 ∧ t.action ≠ 1 ∧ !trigBusy s n then withPin t.gpio (putTrig n none) s else s
  | none => s

/-- Trigger `n` fires, and its next firing is `next`; a one-shot has none (R441). -/
def fireNow (n : Nat) (t : Trigger) (next : Nat) (s : State) : State :=
  let s := trigAction n t s
  if t.period = 0 then oneShotOver n s else putTrig n (some { t with next := next }) s

/-- Firings of trigger `n` that wait for the core clock (R491). -/
def trigPend (s : State) (n : Nat) : Nat := assocD 0 s.clk.pend (2 + n)

/-- Trigger `n` fires while the core clock is stopped: its pulse waits in the crossing. The sixteenth overruns it, which
raises TRIGGER_MISSED, and firmware clears the bit at once (R491, Table 21-3). -/
def crossTrigger (n : Nat) (t : Trigger) (s : State) : State :=
  let full : Bool := trigPend s n == 15
  let s := crossPulse (2 + n) false s
  let s := if full then missTrig n (if proctorRuns s then fputBit Reg.CLK_XOVR_FLAGS (2 + n) false s else s) else s
  if t.period = 0 then s else putTrig n (some { t with next := t.next + t.period }) s

/-- Firings that wait are dropped: the trigger is replaced or turned off (R441). -/
def dropPend (n : Nat) (s : State) : State :=
  if trigPend s n = 0 then s else { s with clk := { s.clk with pend := s.clk.pend.filter fun e => e.1 != 2 + n } }

/-- The core clock runs again: the firings of trigger `n` that wait reach it (R491). -/
def deliverTrigger (s : State) (n : Nat) : State :=
  match trigOf s n with
  | some t =>
    if trigPend s n = 0 then s
    else
      let s := (List.range (trigPend s n)).foldl (fun s _ => trigAction n t s) (dropPend n s)
      if t.period = 0 then oneShotOver n s else s
  | none => s

/-- Every firing that waits for the core clock reaches it. -/
def deliverTriggers (s : State) : State := (List.range 8).foldl deliverTrigger s

/-- TRIGGER_FIRE: H reaches the firing time of trigger `n` (R441). ACTION 1 sets a phase and fires nothing; no trigger
fires in Rest (R442). -/
def triggerFire (n : Nat) (s : State) : State :=
  match trigOf s n with
  | some t =>
    if t.action = 1 ∨ s.flow.mode = .rest ∨ (t.period = 0 ∧ (trigBusy s n ∨ trigPend s n ≠ 0)) then s
    else if !coreRuns s then crossTrigger n t (runTo (t.next % 2 ^ 48) s)
    else fireNow n t (t.next + t.period) (runTo (t.next % 2 ^ 48) s)
  | none => s

/-- TRIGGER_FIRE. -/
def execTriggerFire (n : Fin 8) (s : State) : Res := .next (triggerFire n.val s)

/-- How far a firing time lies in the past, by the sign of the difference modulo 2^48; 0 when it does not (R441). -/
def overdue (s : State) (t : Trigger) : Nat :=
  let d := (2 ^ 48 + s.tim.h - t.next % 2 ^ 48) % 2 ^ 48
  if d < 2 ^ 47 then d else 0

/-- A firing time passed without a firing, at a step or a wake: the trigger fires once, late; in Rest none fires (R442). -/
def lateTrigger (s : State) (n : Nat) : State :=
  match trigOf s n with
  | some t =>
    if t.action = 1 ∨ s.flow.mode = .rest ∨ overdue s t = 0 ∨ (t.period = 0 ∧ (trigBusy s n ∨ trigPend s n ≠ 0)) then s
    else
      let skipped := overdue s t / max 1 t.period
      let s := if t.period = 0 then s else fcount (Reg.TIM_TRIG_SKIP_COUNT n) skipped s
      fireNow n t (t.next + (skipped + 1) * t.period) (missTrig n s)
  | none => s

/-- Every trigger whose time has been passed fires late. -/
def lateTriggers (s : State) : State := (List.range 8).foldl lateTrigger s

/-- A step of the counter (R433, R434, R442). -/
def stepTime (e : Int) (s : State) : State := lateTriggers (loadTime e s).1

/-- AUX_ADC_CONVERSION_END: the result, calibrated, stands in TIM_TRIG_n_LAST (R441). -/
def conversionEnd (n code : Nat) (s : State) : State :=
  match convInput s n with
  | some g =>
    let v := (max 0 (min 65535 (calibrated s g code))).toNat
    oneShotOver n (endConversion n (fput (Reg.TIM_TRIG_LAST_CODE n) v s))
  | none => s

/-- AUX_ADC_CONVERSION_END. -/
def execAuxAdcConversionEnd (n : Fin 8) (code : Nat) (s : State) : Res := .next (conversionEnd n.val code s)

/-- GPIO_PULSE_END: the pulse of trigger `n` ends. -/
def pulseEnd (n : Nat) (s : State) : State :=
  if s.mon.gpioHigh.any (fun p => p.1 == n) then oneShotOver n (endPulse n s) else s

/-- GPIO_PULSE_END. -/
def execGpioPulseEnd (n : Fin 8) (s : State) : Res := .next (pulseEnd n.val s)

/-! ## Commands -/

/-- The fields of TRIGGER_SET lie in range (Table 15-5, Table 18-1). -/
def triggerOk (index action gpio period width : Nat) : Bool :=
  decide (index ≤ 7 ∧ action ≤ 4 ∧ gpio ≤ 7 ∧ ((action = 1 ∨ action = 3) → period = 0) ∧
    (action = 4 → 2 ≤ width ∧ (period ≠ 0 → width < period)))

/-- Put trigger `n`, or none, in place of the one of its index, at once: the pins that either drives are seen to change. -/
def replaceTrig (n : Nat) (t : Option Trigger) (s : State) : State :=
  let pins := ((trigOf s n).toList ++ t.toList).map (·.gpio) |>.eraseDups
  pins.foldr (fun g f => withPin g f) (putTrig n t) s

/-- The servo phase of the ACTION 1 triggers that are armed; H = 0 without one (Table 18-1). -/
def servoPhase (s : State) : Int :=
  match s.tim.trigs.find? fun t => match t with | some t => t.action == 1 | none => false with
  | some (some t) => t.next
  | _ => 0

/-- A trigger replaces the one of its index (R441); a time in the past is treated under R442. ACTION 1 sets the servo
phase, which is H = 0 without it; where one of several is taken away, that of the lowest index left is in force (DESIGN
CHOICE, log entry 168). -/
def setTrigger (n action gpio start period width : Nat) (s : State) : State :=
  let s := dropPend n (endConversion n (endPulse n s))
  let was := match trigOf s n with | some t => t.action == 1 | none => false
  let t : Trigger := ⟨action, gpio, start, period, width⟩
  let late := overdue s t
  let t := if period ≠ 0 then { t with next := start + (late + period - 1) / period * period } else t
  let s := replaceTrig n (if action = 0 then none else some t) s
  let s := if was then { s with mot := { s.mot with phase := servoPhase s } } else s
  if action = 0 then s
  else
    if action = 1 then { s with mot := { s.mot with phase := start } }
    else if period = 0 ∧ late ≠ 0 then fireNow n t 0 (missTrig n s)
    else s

/-- TRIGGER_SET. -/
def triggerSetCommand (r : Req) (index action gpio startS startNs period width : Nat) (s : State) : State :=
  runCommand r { op := 0x0603, len := 24, inRange := triggerOk index action gpio period width, accepted := rwhs s } (fun s =>
    complete r.slot .ok [] (setTrigger index action gpio (startS * 1000000000 + startNs) period width s)) s

/-- TRIGGER_SET. -/
def execTriggerSet (r : Req) (index action gpio startS startNs periodNs widthNs : Nat) (s : State) : Res :=
  .next (triggerSetCommand r index action gpio startS startNs periodNs widthNs s)

/-- TIME_SET (R433). -/
def timeSetCommand (r : Req) (seconds ns : Nat) (s : State) : State :=
  runCommand r { op := 0x0601, len := 12, inRange := decide (seconds < 2 ^ 48 ∧ ns < 1000000000), accepted := modeIn s [.ready, .service] } (fun s =>
    complete r.slot .ok [] (stepTime (seconds * 1000000000 + ns) s)) s

/-- TIME_SET. -/
def execTimeSet (r : Req) (seconds ns : Nat) (s : State) : Res := .next (timeSetCommand r seconds ns s)

/-! ## Network time (R438, R439) -/

/-- The offset of the module's time from the master's, by the last Sync and the mean path delay (R438). -/
def ptpOffset (s : State) : Int := match s.tim.ptpSync with | some (t1, t2) => (t2 : Int) - t1 - s.tim.ptpDelay | none => 0

/-- A Sync with the offset it yields: beyond 100 µs the servo steps H, unless the module follows the cohort; within it, it
slews while PTP is the source (R435); beyond 1 µs it is out of lock (R439; log entry 36). -/
def ptpSync (ofs : Int) (inc : Nat) (s : State) : State :=
  let lock : Bool := decide (ofs.natAbs ≤ 1000)
  let s := fputInt Reg.TIM_PTP_OFS_NS (sat32 ofs) s
  let s := settleSource (fput Reg.TIM_STATUS_PTP_LOCK (if lock then 1 else 0) s)
  let s := setPtpOut (!lock) s
  if timeSource s = 0 then s
  else if 100000 < ofs.natAbs then stepTime ((timeE s : Int) - ofs) s
  else if timeSource s = 1 then setIncrement (clampInc inc) s
  else s

/-- A Sync arrives: hardware timestamps it with H, and the servo takes the offset (R438, R439). -/
def ptpSyncArrives (origin inc : Nat) (s : State) : State :=
  let s := { s with tim := { s.tim with ptpSync := some (origin, timeE s) } }
  ptpSync (ptpOffset s) inc s

/-- A Delay_Req leaves J13: its timestamp goes to the queue, and the servo takes its copy (R438, R440). -/
def ptpReqSent (id : Nat) (s : State) : State :=
  ptpSent id { s with tim := { s.tim with ptpReqs := assocPut s.tim.ptpReqs id (timeE s) } }

/-- The Delay_Resp to a Delay_Req: the mean path delay is half of (t2 − t1) + (t4 − t3) (R438). -/
def ptpDelayResp (id t4 : Nat) (s : State) : State :=
  match s.tim.ptpSync, s.tim.ptpReqs.lookup id with
  | some (t1, t2), some t3 => { s with tim := { s.tim with
      ptpReqs := s.tim.ptpReqs.filter (·.1 != id), ptpDelay := rndDiv ((t2 : Int) - t1 + (t4 - t3)) 2 } }
  | _, _ => s

/-- A received message is of the domain and transport that PTP_CONFIG selects (R438). -/
def ptpMine (s : State) (h : PtpHead) : Bool := h.domain == s.tim.ptpDomain && h.udp == s.tim.ptpUdp

/-- PTP_EVENT_MESSAGE, while PTP is enabled and J13 is powered; nothing is sent while the transmit disable of J13 is
asserted (R517). -/
def ptpMessage (m : PtpMsg) (s : State) : State :=
  if !fbit s Reg.TIM_STATUS_PTP_EN || !powered s Dom.ETH then s
  else match m with
    | .sync h origin inc => if ptpMine s h then ptpSyncArrives origin inc s else s
    | .sent id => if sfpTransmitDisable s then s else ptpReqSent id s
    | .delayResp h id t4 => if ptpMine s h then ptpDelayResp id t4 s else s
    | .unsupported => s

/-- PTP_EVENT_MESSAGE. -/
def execPtpEventMessage (m : PtpMsg) (s : State) : Res := .next (ptpMessage m s)

end Sys2Proof.Machine
end

