-- ==== Sys2Proof/Machine/Cohort.lean ====
section
/-!
DEFINITION. The cohort (R405 to R428): ports, received frames, Roll Call, the ring, the handshake of the motion master,
membership, Hold and resume across the cohort, time alignment and the wake pattern.
-/

namespace Sys2Proof.Machine

/-! ## Ports (R406) -/

/-- The UP field of a port. -/
def portUp : Port → Field
  | .east => Reg.COH_STATUS_EAST_UP
  | .west => Reg.COH_STATUS_WEST_UP

/-- The event of a port that goes down. -/
def portEvent : Port → Nat
  | .east => Ev.COH_EAST_DOWN
  | .west => Ev.COH_WEST_DOWN

/-- The opposite port. -/
def otherPort : Port → Port
  | .east => .west
  | .west => .east

/-- A frame or ordered set has been accepted on the port within the last 100 µs. -/
def portHeard (s : State) : Port → Bool
  | .east => s.coh.heardEast
  | .west => s.coh.heardWest

/-- The port is up while two lanes are in lock and it has been heard; going down raises its event. -/
def portSync (p : Port) (s : State) : State :=
  let up : Bool := decide (2 ≤ ((List.range 4).filter fun n => (portLanes s p).testBit n).length) && portHeard s p && powered s Dom.COH
  raiseIf (fbit s (portUp p) && !up) (portEvent p) (fput (portUp p) (if up then 1 else 0) s)

/-- Note whether the port has been heard. -/
def setHeard (p : Port) (b : Bool) (s : State) : State :=
  portSync p (match p with
    | .east => { s with coh := { s.coh with heardEast := b } }
    | .west => { s with coh := { s.coh with heardWest := b } })

/-- COH_PORT_DOWN: 100 µs without a frame or an ordered set. -/
def execCohPortDown (p : Port) (s : State) : Res := .next (setHeard p false s)

/-- COH_LANE_LOCK_CHANGE. -/
def execCohLaneLockChange (p : Port) (lane : Fin 4) (locked : Bool) (s : State) : Res :=
  .next (if powered s Dom.COH then
      portSync p (fputBit (match p with | .east => Reg.COH_LANES_EAST | .west => Reg.COH_LANES_WEST) lane.val locked s)
    else s)

/-! ## The ring (R421, R424, R425, R427) -/

/-- IN_MASTER_PART and WHOLE as they follow from what is kept; MASTER_CONFLICT when the count of masters stops being
one, and always when `anew` (R421). -/
def masterSync (anew : Bool) (s : State) : State :=
  let one := masterCount s == 1
  let was := fbit s Reg.COH_STATUS_IN_MASTER_PART
  let s := fput Reg.COH_STATUS_IN_MASTER_PART (if one then 1 else 0) (fput Reg.COH_STATUS_WHOLE (if ringWhole s then 1 else 0) s)
  raiseIf (!one && (was || anew)) Ev.MASTER_CONFLICT s

/-- Change COH_REACH and COH_KEEP: PARTITION when the ring stops being whole, REJOINED when it is whole again. -/
def setRing (reach keep : Word) (anew : Bool) (s : State) : State :=
  let was := ringWhole s
  let s := rset Reg.COH_KEEP keep (rset Reg.COH_REACH reach s)
  let s := raiseIf ((was || anew) && !ringWhole s) Ev.PARTITION s
  let s := raiseIf (!was && ringWhole s && inCohort s) Ev.REJOINED s
  partitionAtOnce (masterSync anew s)

/-- TIME_ALIGN is in force (R420). -/
def timeUnaligned (s : State) : Bool := inCohort s && !isMaster s && (s.coh.misaligned || s.coh.masterLost)

/-- TIME_SRC: the upstream port while the module follows the master, otherwise its own (Table 17-5). -/
def timeSrcSync (s : State) : State :=
  let via := (List.range 32).findSome? fun i => if i != cohOwn s && reachable s i && saysMaster s i then (peer s i).via else none
  fput Reg.COH_STATUS_TIME_SRC (match via with
    | some (.east, _) => if isMaster s || timeUnaligned s then 0 else 1
    | some (.west, _) => if isMaster s || timeUnaligned s then 0 else 2
    | none => 0) s

/-- Take a new state of alignment: TIME_ALIGN is raised when it begins (R420). -/
def setAlign (misaligned lost : Bool) (s : State) : State :=
  let was := timeUnaligned s
  let s := { s with coh := { s.coh with misaligned := misaligned, masterLost := lost } }
  timeSrcSync (raiseIf (!was && timeUnaligned s) Ev.TIME_ALIGN s)

/-- REACH_EXPIRY: 3 ms without an accepted frame from a position: its ALIVE is forgotten (R408), it leaves COH_REACH
(R424), and without a master TIME_ALIGN begins (R420). -/
def reachExpiry (i : Nat) (s : State) : State :=
  if i = cohOwn s then s
  else
    let s := updPeer i (fun p => { p with alive := none }) s
    let lost : Bool := saysMaster s i || !((List.range 32).any fun j => j != cohOwn s && j != i && reachable s j && saysMaster s j)
    let s := setRing (rget s Reg.COH_REACH &&& ~~~((1 : Word) <<< i)) (rget s Reg.COH_KEEP) false s
    setAlign s.coh.misaligned (s.coh.masterLost || lost) s

/-- REACH_EXPIRY. -/
def execReachExpiry (pos : Fin 32) (s : State) : Res := .next (if coreRuns s then reachExpiry pos.val s else s)

/-- ROLL_CALL_MISS: the last record of the position stays (R411). -/
def execRollCallMiss (pos : Fin 32) (s : State) : Res :=
  .next (raiseIf (coreRuns s && kept s pos.val && pos.val != cohOwn s) Ev.ROLL_CALL_MISS s)

/-! ## Received frames (R408, R409) -/

/-- The kinds that are forwarded. -/
def broadcastKind (k : Nat) : Bool := k != Kind.timeReq && k != Kind.timeResp

/-- An accepted frame of a broadcast kind goes on, with one hop more (R409). -/
def forward (p : Port) (f : CohFrame) (s : State) : State :=
  if broadcastKind f.kind && f.hops + 1 != cohMembers s then putFrame { f with hops := f.hops + 1 } s (otherPort p) else s

/-- A frame that passes every check is accepted: its ALIVE is kept, its port heard, its position reachable, and a frame of
the master is one (R420). -/
def admitFrame (p : Port) (f : CohFrame) (s : State) : State :=
  let s := updPeer f.src (fun q => { q with alive := some f.alive }) s
  let s := setRing (rget s Reg.COH_REACH ||| 1 <<< f.src) (rget s Reg.COH_KEEP) false (setHeard p true s)
  forward p f (if s.coh.masterLost && saysMaster s f.src then setAlign s.coh.misaligned false s else s)

/-- The CRC of a received frame checks, over a payload of the length NPAY names. -/
def frameSound (f : CohFrame) : Bool := f.npay ≤ 8 && f.payload.length == 8 * f.npay && cohCrc f == f.crc

/-- A frame is received on a port: the state after it, and whether it was accepted (R408, R409). -/
def receiveFrame (p : Port) (f : CohFrame) (s : State) : State × Bool :=
  if !powered s Dom.COH then (s, false)
  else if !frameSound f then (fcount Reg.COH_FRAME_ERR_CRC 1 s, false)
  else if f.src = cohOwn s ∨ !kept s f.src then (s, false)
  else match (peer s f.src).alive with
    | none => (admitFrame p f s, true)
    | some a =>
      let d := (2 ^ 32 + f.alive - a) % 2 ^ 32
      if d = 0 then (s, false)
      else if d < 2 ^ 31 then (admitFrame p f s, true)
      else (fcount Reg.COH_FRAME_ERR_ALIVE 1 s, false)

/-- Receive a frame of one kind, and on acceptance do what the kind asks. A frame of another kind is none of this
command's (log entry 8). -/
def onFrame (kind : Nat) (p : Port) (f : CohFrame) (act : State → State) (s : State) : State :=
  if f.kind = kind then
    let (t, ok) := receiveFrame p f s
    if ok then act t else t
  else s

/-- The `k`-byte field at an offset of a payload. -/
def fword (f : CohFrame) (off k : Nat) : Nat := leNat (slice f.payload off k)

/-! ## Roll Call (R410, R411, R414, R427) -/

/-- STATE of this module's ROLL_CALL (Table 17-2). -/
def rollState (s : State) : Nat :=
  s.flow.mode.code + 16 * s.flow.job.code + (if fbit s Reg.COH_STATUS_IN_MASTER_PART then 2 ^ 8 else 0) +
  (if s.job.isSome && digestOk s then 2 ^ 9 else 0) + (if masterBit s then 2 ^ 10 else 0)

/-- The payload of this module's ROLL_CALL. -/
def rollPayload (s : State) : List Byte :=
  leBytes 8 (rget64 s Reg.COH_DIGEST_LO Reg.COH_DIGEST_HI) ++ leBytes 4 (rollState s) ++ leBytes 4 s.flow.causes.toNat ++
  leBytes 8 (match s.job with | some j => j.jobId | none => 0)

/-- ROLL_CALL_SEND: the digest is recomputed, the frame goes out, and the module's own record is refreshed (R410, R411,
R413). None goes out in Boot, Service and Rest. -/
def rollCallSend (s : State) : State :=
  if !proctorRuns s || resting s || !modeIn s [.ready, .write, .hold] then s
  else
    let s := masterSync false (recomputeDigest s)
    let st := rollState s
    let s := broadcast Kind.rollCall (rollPayload s) s
    refreshMember (cohOwn s) (rget64 s Reg.COH_DIGEST_LO Reg.COH_DIGEST_HI) (rget s Reg.COH_EPOCH).toNat st s

/-- ROLL_CALL_SEND. -/
def execRollCallSend (s : State) : Res := .next (rollCallSend s)

/-- Bit 6 clears on a ROLL_CALL of the master at the module's own epoch, with the ring whole and the own digest right
(R427); a module removed keeps it (R426). -/
def rejoin (st epoch : Nat) (s : State) : State :=
  if hasCause s 6 && ringWhole s && st.testBit 10 && epoch == (rget s Reg.COH_EPOCH).toNat && digestOk s && !s.coh.removed then
    clearCause 6 s
  else s

/-- What an accepted ROLL_CALL leaves (R411, R419, R420, R427). -/
def rollCallAccepted (p : Port) (f : CohFrame) (s : State) : State :=
  let st := fword f 8 4
  let s := updPeer f.src (fun q => { q with
    roll := some (fword f 0 8, f.epoch, st, fword f 12 4, fword f 16 8), via := some (p, f.hops) }) s
  let s := partitionAtOnce (masterSync false (refreshMember f.src (fword f 0 8) f.epoch st s))
  let s := if st.testBit 10 then setAlign s.coh.misaligned false s else timeSrcSync s
  rejoin st f.epoch s

/-- A copy of the last ROLL_CALL that comes on the other port with fewer hops, or on East with as many, names the
upstream port (R419; log entry 29). -/
def rollCallCopy (p : Port) (f : CohFrame) (s : State) : State :=
  let q := peer s f.src
  match q.via, q.alive with
  | some (_, h), some a =>
    if frameSound f && powered s Dom.COH && kept s f.src && f.src != cohOwn s && a == f.alive && (f.hops < h || (f.hops == h && p == .east)) then
      timeSrcSync (updPeer f.src (fun q => { q with via := some (p, f.hops) }) s)
    else s
  | _, _ => s

/-- ROLL_CALL_RECEIVED. -/
def execRollCallReceived (p : Port) (f : CohFrame) (s : State) : Res :=
  .next (onFrame Kind.rollCall p f (rollCallAccepted p f) (if f.kind = Kind.rollCall then rollCallCopy p f s else s))

/-! ## The handshake of the motion master (R303, R422, R423) -/

/-- A member may send READY for the next stripe (R303, R420 to R422): the first, second and fourth conditions of R58,
TIME_ALIGN clear, one master, and no GO for that stripe yet. -/
def readyToSend (s : State) : Option StripeEntry :=
  match curEntry s with
  | some e =>
    if inCohort s && inState s .write .recess && leadReady s && digestOk s && noCause s && !timeUnaligned s && masterCount s == 1 &&
      !goneFor s e then some e
    else none
  | none => none

/-- READY for the stripe has been accepted from every member (R422). -/
def allReady (s : State) (e : StripeEntry) : Bool :=
  (List.range 32).all fun i => !kept s i || (peer s i).ready == some (e.layer, e.stripe)

/-- The GO of a stripe at the present epoch takes effect: the module may arm it, once scan speed is reported (log
entry 32). -/
def goStripe (layer stripe : Nat) (s : State) : State :=
  { s with coh := { s.coh with go := some (layer, stripe, (rget s Reg.COH_EPOCH).toNat) } }

/-- The master sends GO once every member is ready: the epoch advances by one (R422, R423). None while the ring is not
whole (R425). -/
def tryGo (s : State) : State :=
  match curEntry s with
  | some e =>
    if masterBit s && inCohort s && ringWhole s && inState s .write .recess && allReady s e && !goneFor s e then
      let s := rset Reg.COH_EPOCH (rget s Reg.COH_EPOCH + 1) s
      goStripe e.layer e.stripe (broadcast Kind.go (stripePayload e) s)
    else s
  | none => s

/-- READY_SEND. -/
def readySend (s : State) : State :=
  match readyToSend s with
  | some e =>
    let s := updPeer (cohOwn s) (fun q => { q with ready := some (e.layer, e.stripe) }) (broadcast Kind.ready (stripePayload e) s)
    tryGo s
  | none => s

/-- READY_SEND. -/
def execReadySend (s : State) : Res := .next (readySend s)

/-- READY_RECEIVED. -/
def execReadyReceived (p : Port) (f : CohFrame) (s : State) : Res :=
  .next (onFrame Kind.ready p f (fun s => tryGo (updPeer f.src (fun q => { q with ready := some (fword f 0 2, fword f 2 2) }) s)) s)

/-- The frame comes from the motion master, as its last ROLL_CALL says. -/
def fromMaster (s : State) (f : CohFrame) : Bool := saysMaster s f.src

/-- GO_RECEIVED: the member adopts the epoch of the master's GO (R423). -/
def execGoReceived (p : Port) (f : CohFrame) (s : State) : Res :=
  .next (onFrame Kind.go p f (fun s =>
    if fromMaster s f then
      goStripe (fword f 0 2) (fword f 2 2) (rset Reg.COH_EPOCH (BitVec.ofNat 32 f.epoch) s)
    else s) s)

/-- ARM_MISS_FRAME: the master repeats the approach for the same stripe (R303). -/
def execArmMissFrame (p : Port) (f : CohFrame) (s : State) : Res :=
  .next (onFrame Kind.armMiss p f (fun s =>
    match curEntry s with
    | some e =>
      if isMaster s && fword f 0 2 == e.layer && fword f 2 2 == e.stripe && s.flow.mode == .write then repeatApproach s else s
    | none => s) s)

/-! ## Membership (R407, R426) -/

/-- The payload of MEMBERSHIP. -/
def membershipPayload (keep : Word) : List Byte := leBytes 4 keep.toNat ++ leBytes 4 0

/-- A member in KEEP replaces COH_KEEP and raises COHORT_CHANGED; one outside it is removed. -/
def takeMembership (keep : Word) (s : State) : State :=
  if keep.getLsbD (cohOwn s) then
    raise Ev.COHORT_CHANGED (setRing (rget s Reg.COH_REACH) keep false s)
  else { s with coh := { s.coh with removed := true } }

/-- The master sends MEMBERSHIP at the next epoch (R423, R426). -/
def masterMembership (keep : Word) (s : State) : State :=
  let s := rset Reg.COH_EPOCH (rget s Reg.COH_EPOCH + 1) s
  takeMembership keep (broadcast Kind.membership (membershipPayload keep) s)

/-- MEMBERSHIP_RECEIVED: the master passes a member's request on at the next epoch; a member follows the master's. -/
def execMembershipReceived (p : Port) (f : CohFrame) (s : State) : Res :=
  .next (onFrame Kind.membership p f (fun s =>
    let keep := BitVec.ofNat 32 (fword f 0 4)
    if masterBit s then masterMembership keep s
    else if fromMaster s f then takeMembership keep (rset Reg.COH_EPOCH (BitVec.ofNat 32 f.epoch) s)
    else s) s)

/-- COHORT_CONFIG (R407): COH is voted up while MEMBERS exceeds 1 (Table 20-2). -/
def cohortConfigCommand (r : Req) (m own : Nat) (s : State) : State :=
  runCommand r { op := 0x0501, len := 4, inRange := decide (1 ≤ m ∧ m ≤ 32 ∧ own < m), accepted := readyNoneOrService s } (fun s =>
    let reach := (rget s Reg.COH_REACH &&& ~~~((1 : Word) <<< cohOwn s)) ||| ((1 : Word) <<< own)
    let s := fput Reg.COH_CFG_OWN own (fput Reg.COH_CFG_MEMBERS m s)
    let s := { s with coh := { s.coh with peers := s.coh.peers.map fun q => { Peer.empty with holdId := q.holdId }
                                          go := none, removed := false, misaligned := false, masterLost := false } }
    let s := rset Reg.COH_EPOCH 0 s
    let s := setRing reach (BitVec.ofNat 32 (2 ^ m - 1)) true s
    let s := timeSrcSync (settleSource (setVote Dom.COH Client.cohort (decide (1 < m)) s))
    complete r.slot .ok [] s) s

/-- COHORT_CONFIG. -/
def execCohortConfig (r : Req) (members own : Nat) (s : State) : Res := .next (cohortConfigCommand r members own s)

/-- KEEP keeps this module and every reachable position that says it is the motion master. -/
def shrinkOk (s : State) (keep : Word) : Bool :=
  keep.getLsbD (cohOwn s) && (List.range 32).all fun i => !(reachable s i && saysMaster s i) || keep.getLsbD i

/-- Positions a mask names. -/
def maskCount (w : Word) : Nat := ((List.range 32).filter fun i => w.getLsbD i).length

/-- COHORT_SHRINK (R426): accepted where the module's own ROLL_CALL shows STATE bit 8; the completion tells the size
that KEEP leaves. -/
def cohortShrinkCommand (r : Req) (keep : Word) (s : State) : State :=
  runCommand r { op := 0x0502, len := 4, inRange := shrinkOk s keep
                 accepted := (s.flow.mode == .hold || (s.flow.mode == .write && betweenStripes s)) && fbit s Reg.COH_STATUS_IN_MASTER_PART }
    (fun s =>
      let s := if isMaster s then masterMembership keep s else broadcast Kind.membership (membershipPayload keep) s
      complete r.slot .ok (leBytes 1 (maskCount keep)) s) s

/-- COHORT_SHRINK. -/
def execCohortShrink (r : Req) (keep : Word) (s : State) : Res := .next (cohortShrinkCommand r keep s)

/-! ## Hold and resume across the cohort (R415 to R417) -/

/-- `a` is not later than `b`, by the sign of the difference modulo 2^16. -/
def idNotLater (a b : Nat) : Bool := decide ((65536 + b - a) % 65536 < 32768)

/-- The ring position at the far end of a port. -/
def neighbour (s : State) : Port → Nat
  | .east => (cohOwn s + 1) % cohMembers s
  | .west => (cohOwn s + cohMembers s - 1) % cohMembers s

/-- HOLD_SET_RECEIVED: the set is recorded, sets bit 5 and requests Hold; one not seen before goes on, unless the port leads
back to its origin (R415, R416). -/
def holdSetReceived (p : Port) (src id : Nat) (s : State) : State :=
  if !powered s Dom.COH then s
  else
    let s := setHeard p true s
    if src = cohOwn s then s
    else
      let anew := !s.coh.seen.contains (src, id)
      let s := { s with coh := { s.coh with
        seen := if anew then (src, id) :: s.coh.seen.filter fun e => e.1 != src || idNotLater e.2 id else s.coh.seen
        pairs := if s.coh.pairs.contains (src, id) then s.coh.pairs else s.coh.pairs ++ [(src, id)] } }
      let s := updPeer src (fun q => { q with holdId := id }) s
      let s := if anew && neighbour s (otherPort p) != src then sendHoldOn src id s (otherPort p) else s
      requestHold 5 s

/-- HOLD_SET_RECEIVED. -/
def execHoldSetReceived (p : Port) (src : Fin 32) (holdId : Nat) (s : State) : Res :=
  .next (holdSetReceived p src.val (holdId % 65536) s)

/-- RESUME_FRAME_RECEIVED: pairs the frame covers are removed, bit 0 and then bit 5 clear, and a member with no other
cause resumes (R417). -/
def resumeFrame (f : CohFrame) (s : State) : State :=
  let s := { s with coh := { s.coh with pairs := s.coh.pairs.filter fun e => !idNotLater e.2 (fword f (2 * e.1) 2) } }
  let s := clearHostHold s
  let s := if s.coh.pairs.isEmpty then clearCause 5 s else s
  if s.flow.mode == .hold && noCause s && !transitioning s then beginResume none s else s

/-- RESUME_FRAME_RECEIVED. -/
def execResumeFrameReceived (p : Port) (f : CohFrame) (s : State) : Res :=
  .next (onFrame Kind.resume p f (resumeFrame f) s)

/-! ## Time alignment (R418 to R420) -/

/-- A time of 25 ps steps in time-counter format, 32.32 ns modulo 2^64 (log entry 33). -/
def wireTime (t : Nat) : Nat := (t * 2 ^ 32 + 20) / 40 % 2 ^ 64

/-- A time-counter value in 25 ps steps. -/
def stepsOf (w : Nat) : Nat := (2 ^ 31 + w * 40) / 2 ^ 32

/-- The signed difference of two times in steps, modulo 2^32 ns. -/
def stepDiff (a b : Nat) : Int :=
  let m : Int := 40 * 2 ^ 32
  let d := ((a : Int) - b) % m
  if d < m / 2 then d else d - m

/-- T1 of the request outstanding on a port. -/
def sentT1 (s : State) : Port → Option Nat
  | .east => s.coh.t1East
  | .west => s.coh.t1West

/-- TIME_REQ_SEND on an up port (R418). -/
def timeReqSend (p : Port) (t1 : Nat) (s : State) : State :=
  if !fbit s (portUp p) || !powered s Dom.COH then s
  else
    let s := match p with
      | .east => { s with coh := { s.coh with t1East := some t1 } }
      | .west => { s with coh := { s.coh with t1West := some t1 } }
    sendNeighbour p Kind.timeReq [] s

/-- TIME_REQ_SEND. -/
def execTimeReqSend (p : Port) (t1 : Nat) (s : State) : Res := .next (timeReqSend p t1 s)

/-- COH_TIME_OFS as it stands. -/
def timeOffset (s : State) : Int := if isMaster s then 0 else fint s Reg.COH_TIME_OFS_PS

/-- TIME_REQ_RECEIVED: the answer carries T1, the request's send time, T2, T3 and the own offset (R418, R419; log
entry 34). -/
def timeResp (p : Port) (req : ReqTimes) (t3 : Nat) (s : State) : State :=
  let payload := leBytes 8 (wireTime req.t1) ++ leBytes 8 (wireTime req.t2) ++ leBytes 8 (wireTime t3) ++ leBytes 4 (unsigned 32 (timeOffset s)) ++ leBytes 4 0
  sendNeighbour p Kind.timeResp payload s

/-- TIME_REQ_RECEIVED. -/
def execTimeReqReceived (p : Port) (f : CohFrame) (req : ReqTimes) (t3 : Nat) (s : State) : Res :=
  .next (onFrame Kind.timeReq p f (timeResp p req t3) s)

/-- The upstream port (R419). -/
def upstream (s : State) : Option Port :=
  if isMaster s then none
  else ((List.range 32).findSome? fun i => if i != cohOwn s && reachable s i && saysMaster s i then (peer s i).via else none).map (·.1)

/-- The one-way delay of a port, in steps, saturated (Table 17-5). -/
def delayField : Port → Field
  | .east => Reg.COH_DELAY_EAST
  | .west => Reg.COH_DELAY_WEST

/-- The offset to the master has been measured: beyond 1 µs the counter steps; beyond 2 ns it free-runs at its last rate; within
that it is steered, at a rate the manual leaves open (R419, R420, R433, R436; log entry 35). -/
def followMaster (ps : Int) (s : State) : State :=
  let s := fputInt Reg.COH_TIME_OFS_PS (sat32 ps) s
  let s := if 1000000 < ps.natAbs then
      stepTime ((timeE s : Int) + rndDiv ps 1000) s
    else if ps.natAbs ≤ 2000 ∧ !s.coh.masterLost ∧ fget s Reg.TIM_STATUS_SRC = 0 then
      useFree (setIncrement (incMin + freeNat s % (incMax - incMin + 1)) s)
    else s
  setAlign (decide (2000 < ps.natAbs)) s.coh.masterLost s

/-- TIME_RESP_RECEIVED (R418, R419). -/
def timeRespAccepted (p : Port) (f : CohFrame) (t4 : Nat) (s : State) : State :=
  match sentT1 s p with
  | none => s
  | some t1 =>
    let t2 := stepsOf (fword f 8 8)
    let t3 := stepsOf (fword f 16 8)
    let delay := rndDiv (stepDiff t4 t1 - stepDiff t3 t2) 2
    let offset := rndDiv ((stepDiff t2 t1 + stepDiff t3 t4) * 25) 2
    let s := fputSat (delayField p) delay.toNat s
    let s := match p with
      | .east => sample Src.cohEast [delay] { s with coh := { s.coh with t1East := none } }
      | .west => sample Src.cohWest [delay] { s with coh := { s.coh with t1West := none } }
    if upstream s = some p then followMaster (offset + signed 32 (fword f 24 4)) s else s

/-- TIME_RESP_RECEIVED. -/
def execTimeRespReceived (p : Port) (f : CohFrame) (t4 : Nat) (s : State) : Res :=
  .next (onFrame Kind.timeResp p f (timeRespAccepted p f t4) s)

/-! ## Wake (R428) -/

/-- The burst on a port: 64 repetitions on lane 0, unscrambled. -/
def wakePattern (p : Port) : WakeBurst := ⟨p, 0, 0b10, [0x4B, 0x57, 0x41, 0x4B, 0x0D, 0x00, 0x00, 0x00], 64⟩

/-- The bursts sent on a port since the wake. -/
def burstsOn (s : State) : Port → Nat
  | .east => s.coh.burstsEast
  | .west => s.coh.burstsWest

/-- A port has sent `n` bursts. -/
def setBursts (p : Port) (n : Nat) (s : State) : State :=
  match p with
  | .east => { s with coh := { s.coh with burstsEast := n } }
  | .west => { s with coh := { s.coh with burstsWest := n } }

/-- A burst is due on a port: the first after the wake goes out on both, and a port that is not up has it repeated until it is,
for at most 100 ms, which is 10,000 bursts. -/
def burstPort (s : State) (p : Port) : State :=
  let n := burstsOn s p
  if 10000 ≤ n then s
  else if 0 < n ∧ fbit s (portUp p) = true then setBursts p 10000 s
  else setBursts p (n + 1) { s with coh := { s.coh with sentWake := s.coh.sentWake ++ [wakePattern p] } }

/-- WAKE_PATTERN_BURST: on both ports of a module in COH_KEEP. -/
def wakeBurst (s : State) : State :=
  if powered s Dom.COH && kept s (cohOwn s) then [Port.east, Port.west].foldl burstPort s else s

/-- WAKE_PATTERN_BURST. -/
def execWakePatternBurst (s : State) : Res := .next (wakeBurst s)

/-! ## The approach (R301 to R303, R425) -/

/-- Channels that WAIT_MASK names rest (Table 11-5). -/
def waitersQuiet (s : State) : Bool :=
  (List.range 4).all fun i => !((fget s Reg.MOT_CHOREO_WAIT_MASK).testBit i) || chanQuiet s (i + 2)

/-- The Recess slot may end: its earliest end has passed (R302, R374). -/
def slotOver (s : State) : Bool :=
  match s.prog.recess with
  | some (_, earliest) => decide (earliest ≤ timeE s)
  | none => true

/-- The master may start step 1 of the next stripe (Table 11-5, R302, R303, R425). -/
def approachReady (s : State) (e : StripeEntry) : Bool :=
  isMaster s && inState s .write .recess && noCause s && !s.flow.holdReq && !transitioning s &&
  (s.mot.step == 0 || s.mot.step == 6) && chanQuiet s 0 && chanQuiet s 1 && waitersQuiet s &&
  (chan s 0).rest == Dy.ofInt (approachStart s e) && (chan s 1).rest == Dy.ofInt e.xOrigin &&
  leadReady s && digestOk s && (!inCohort s || ringWhole s) && goneFor s e

/-- APPROACH_START: the Recess slot and any check run end, and channel A starts step 1. The counter stands at the slot's
earliest end or later (log entry 8). -/
def approachStarts (s : State) : State :=
  match curEntry s with
  | some e =>
    if approachReady s e then
      let s := match s.prog.recess with
        | some (_, earliest) => if slotOver s then s else runTo (earliest % 2 ^ 48) s
        | none => s
      let s := closeRecess s
      firmwareSegment 0 (approachWords s e) { s with mot := { s.mot with step := 1 } }
    else s
  | none => s

/-- APPROACH_START. -/
def execApproachStart (s : State) : Res := .next (approachStarts s)

end Sys2Proof.Machine
end

