-- ==== Sys2Proof/Machine/Hbm.lean ====
section
/-!
DEFINITION. The DRAM controller and the scrubber (R306 to R325, R337 to R339): refresh debt, temperature bands, row
disturbance, parity replay, fencing, power-down, the pattern generator, and what the scrubber finds.
-/

namespace Sys2Proof.Machine

/-- The controller runs: MEM is powered and the stacks are not in self-refresh. -/
def hbmOn (s : State) : Bool := powered s Dom.MEM && !s.hbm.selfRefresh

/-- The channel of a pseudo-channel is fenced: no command goes to it (R322). -/
def pcFenced (s : State) (pc : Nat) : Bool := fbitAt s Reg.HBM_FENCE_CHANNELS (pc / 2)

/-! ## Refresh (R313 to R317) -/

/-- The band of a stack (Table 12-8). -/
def bandOf (s : State) (stack : Nat) : Nat := fget s (if stack = 0 then Reg.HBM_STATUS_BAND_0 else Reg.HBM_STATUS_BAND_1)

/-- The postponement limit of a band (Table 12-2). -/
def debtLimit (band : Nat) : Nat := 8 / 2 ^ band

/-- The debt of a pseudo-channel. -/
def debtOf (s : State) (pc : Nat) : Nat := assocD 0 s.hbm.debt pc

/-- The debt of a pseudo-channel is put. -/
def putDebt (pc d : Nat) (s : State) : State :=
  fmax Reg.HBM_REF_DEBT_MAX_INTERVALS d
    { s with hbm := { s.hbm with debt := if d = 0 then s.hbm.debt.filter (·.1 != pc) else assocPut s.hbm.debt pc d } }

/-- The debts of pseudo-channels change at once: the probe samples those that changed together (R317, R500). -/
def setDebts (ds : List (Nat × Nat)) (s : State) : State :=
  let new := ds.filter fun p => debtOf s p.1 != p.2
  if new.isEmpty then s else sample Src.debt (new.map fun p => (p.2 : Int)) (new.foldl (fun s p => putDebt p.1 p.2 s) s)

/-- The debt of a pseudo-channel changes. -/
def setDebt (pc d : Nat) (s : State) : State := setDebts [(pc, d)] s

/-- One REFab pays one unit of debt, after a precharge of all banks (R314, R315). -/
def refreshAllBanks (pc : Nat) (s : State) : State :=
  setDebt pc (debtOf s pc - 1) (issueCmd pc (.refreshAll pc) (prechargeAll pc s))

/-- A forced REFab, after a precharge of all banks (R315). -/
def forceRefresh (pc : Nat) (s : State) : State := refreshAllBanks pc (fcount Reg.HBM_REF_FORCED_COUNT 1 s)

/-- Forced REFab commands, back to back and in every pseudo-channel of `pcs` whose debt is above the limit in parallel
(R316). -/
def forceTogether (limit : Nat) (pcs : List Nat) : Nat → State → State
  | 0, s => s
  | n + 1, s =>
    let due := pcs.filter fun pc => decide (limit < debtOf s pc)
    if due.isEmpty then s
    else
      let s := due.foldl (fun s pc => issueCmd pc (.refreshAll pc) (fcount Reg.HBM_REF_FORCED_COUNT 1 s)) s
      forceTogether limit pcs n (setDebts (due.map fun pc => (pc, debtOf s pc - 1)) s)

/-- One REFpb to each of the 32 banks, each while its bank is idle (R314). -/
def refreshPerBank (pc : Nat) (s : State) : State :=
  (List.range 32).foldl (fun s b => issueCmd pc (.refreshBank pc b)
    (if (s.hbm.openRows.lookup (bankKey pc b)).isSome then precharge pc b s else s)) s

/-! ## The choice of the next command (R311, R312, R315) -/

/-- What a pseudo-channel does next. -/
inductive DramNext where
  | forced
  | neighbour (bank row : Nat)
  | request (w : DramWait)
  | refresh
  | idle
  deriving DecidableEq, Repr

/-- The urgency of a port within a pseudo-channel: that of its oldest request (R311). -/
def portUrgency (s : State) (p : Nat) (ws : List DramWait) : Nat :=
  urgencyOf (actTarget s p) ((ws.filter (·.port == p)).foldl (fun m w => max m w.ageNs) 0)

/-- Request `a` goes before request `b` (R312): the higher level by its own age; at level 0 a hit on an open row; then
WINDOW_FILL, and the older. That a request has a level of its own beside its port's urgency is DEDUCED (log entry 131). -/
def goesBefore (s : State) (a b : DramWait) : Bool :=
  let ua := urgencyOf (actTarget s a.port) a.ageNs
  let ub := urgencyOf (actTarget s b.port) b.ageNs
  if ua ≠ ub then decide (ub < ua)
  else if ua = 0 ∧ a.openHit ≠ b.openHit then a.openHit
  else if (a.port = 0) ≠ (b.port = 0) then decide (a.port = 0)
  else decide (b.ageNs < a.ageNs)

/-- The request that is served next. -/
def firstRequest (s : State) (ws : List DramWait) : Option DramWait :=
  ws.foldl (fun m w => match m with
    | some v => if goesBefore s w v then some w else some v
    | none => some w) none

/-- A neighbour refresh is due in the pseudo-channel: the bank and the row (R320). -/
def neighbourDue (s : State) (pc : Nat) : Option (Nat × Nat) :=
  ((s.hbm.rows.filter fun e => e.1 / 32 == pc).flatMap fun e => e.2.map fun r => (e.1 % 32, r.row)).find? fun p => rowDue s pc p.1 p.2

/-- REFab of the pseudo-channel is postponed (R315). -/
def postponed (s : State) (ws : List DramWait) : Bool := fbit s Reg.HBM_REF_CFG_POSTPONE_EN && decide (2 ≤ portUrgency s 0 ws)

/-- The next command of a pseudo-channel (R312): forced refreshes, neighbour refreshes, the requests in their order, and
refreshes that are not forced. -/
def nextCommand (s : State) (pc : Nat) (ws : List DramWait) : DramNext :=
  if debtLimit (bandOf s (pc / 32)) < debtOf s pc then .forced
  else match neighbourDue s pc, firstRequest s ws with
    | some (b, r), _ => .neighbour b r
    | none, some w => .request w
    | none, none => if debtOf s pc = 0 then .idle else .refresh

/-- A request that is served after it has reached level 3 is counted (R312, Table 12-8). -/
def countLevel3 (w : DramWait) (s : State) : State :=
  if w.port < 7 ∧ urgencyOf (actTarget s w.port) w.ageNs = 3 then fcount (Reg.HBM_PORT_URG3_COUNT w.port) 1 s else s

/-- The commands of a pseudo-channel up to the end of its debt. A request's own effects come with the row that it is part
of; a postponed debt waits (R312, R315). -/
def runCommands (pc : Nat) (hold : Bool) : Nat → List DramWait → State → State
  | 0, _, s => s
  | n + 1, ws, s =>
    match nextCommand s pc ws with
    | .forced => runCommands pc hold n ws (forceRefresh pc s)
    | .neighbour b r => runCommands pc hold n ws (refreshNeighbours pc b r s)
    | .request w => runCommands pc hold n (ws.erase w) (countLevel3 w s)
    | .refresh => if hold then s else runCommands pc hold n ws (refreshAllBanks pc s)
    | .idle => s

/-- An incomplete unit adds to the debt; where that would exceed the limit, a forced REFab comes first (R314, R315). -/
def addDebt (pc : Nat) (s : State) : State :=
  let s := if debtLimit (bandOf s (pc / 32)) ≤ debtOf s pc then forceRefresh pc s else s
  setDebt pc (debtOf s pc + 1) s

/-- A tREFI interval ends (R314, R315): its unit is done bank by bank, or adds to the debt; the debt is paid, or postponed
up to the limit while WINDOW_FILL is at urgency 2 or higher. While the channel replays nothing else is issued to it: the
unit adds to the debt (R321). -/
def refreshInterval (pc : Nat) (unitDone : Bool) (ws : List DramWait) (s : State) : State :=
  if !hbmOn s || pcFenced s pc then s
  else if pcReplays s pc then setDebt pc (debtOf s pc + 1) s
  else
    let s := leavePowerDown pc s
    let s := if fbit s Reg.HBM_REF_CFG_PB_EN && unitDone then refreshPerBank pc s else addDebt pc s
    runCommands pc (postponed s ws) (ws.length + debtOf s pc + 600) ws s

/-- REFRESH_INTERVAL. -/
def execRefreshInterval (pc : Fin 64) (unitDone : Bool) (waiting : List DramWait) (s : State) : Res :=
  .next (refreshInterval pc.val unitDone waiting s)

/-! ## Temperature (R313, R316, R318) -/

/-- The band of a reading (Table 12-2). -/
def bandOfTemp (t : Nat) : Nat := if t ≤ 85 then 0 else if t ≤ 105 then 1 else 2

/-- The lower limit of a band. -/
def bandFloor (band : Nat) : Nat := if band = 2 then 105 else 85

/-- The band after a reading of `t` when it may fall: each step down asks for HYST below that band's limit (R313). -/
def fallTo (t hyst : Nat) : Nat → Nat
  | 0 => 0
  | n + 1 => if t + hyst ≤ bandFloor (n + 1) then fallTo t hyst n else n + 1

/-- The debts of a stack's pseudo-channels are converted at once when its band rises from `old` to `new`, and the excess
over the new limit is forced, after one precharge of all banks (R316). A channel that replays forces its own later
(R321). -/
def convertDebts (old new : Nat) (pcs : List Nat) (s : State) : State :=
  let pcs := pcs.filter fun pc => !pcFenced s pc
  let s := setDebts (pcs.map fun pc => (pc, debtOf s pc * 2 ^ (new - old))) s
  let over' := pcs.filter fun pc => decide (debtLimit new < debtOf s pc) && !pcReplays s pc
  forceTogether (debtLimit new) over' ((over'.map (debtOf s)).foldl max 0) (over'.foldl (fun s pc => prechargeAll pc s) s)

/-- Put the band of a stack. -/
def setBand (stack band : Nat) (s : State) : State :=
  fput (if stack = 0 then Reg.HBM_STATUS_BAND_0 else Reg.HBM_STATUS_BAND_1) band s

/-- The band of a stack follows its hotter reading. -/
def updateBand (stack t : Nat) (s : State) : State :=
  let old := bandOf s stack
  let new := bandOfTemp t
  let pcs := (List.range 32).map (· + 32 * stack)
  if old < new then convertDebts old new pcs (raise Ev.HBM_BAND (setBand stack new s))
  else if pcs.all fun pc => debtOf s pc == 0 then setBand stack (fallTo t (fget s Reg.HBM_TEMP_CFG_HYST) old) s
  else s

/-- The four readings. -/
def dramTemps (s : State) : List Nat :=
  [fget s Reg.HBM_TEMP_S0A, fget s Reg.HBM_TEMP_S0B, fget s Reg.HBM_TEMP_S1A, fget s Reg.HBM_TEMP_S1B]

/-- HBM_HOT where a reading reaches HOT, and the Hold cause above 135 °C (R318). -/
def heatSync (s : State) : State :=
  let hot := fget s Reg.HBM_TEMP_CFG_HOT
  let now := BitVec.ofNat 4 ((dramTemps s).zipIdx.map fun (t, k) => if hot ≤ t then 2 ^ k else 0).sum
  let new := now &&& ~~~s.hbm.hot
  let s := fput Reg.HBM_STATUS_HOT (if now = 0 then 0 else 1) { s with hbm := { s.hbm with hot := now } }
  let s := raiseIf (new != 0) Ev.HBM_HOT s
  if (dramTemps s).any fun t => decide (135 < t) then (if hasCause s 10 then s else requestHold 10 s)
  else clearCause 10 s

/-- The temperatures of a stack are read (R313). -/
def hbmTemp (stack a b : Nat) (s : State) : State :=
  if !hbmOn s then s
  else
    let a := min 255 (sensorReading s (12 + 2 * stack) 1000 a).toNat
    let b := min 255 (sensorReading s (13 + 2 * stack) 1000 b).toNat
    let s := if stack = 0 then fput Reg.HBM_TEMP_S0A a (fput Reg.HBM_TEMP_S0B b s)
      else fput Reg.HBM_TEMP_S1A a (fput Reg.HBM_TEMP_S1B b s)
    let s := sample (Src.dramTemp (2 * stack + 1)) [b] (sample (Src.dramTemp (2 * stack)) [a] s)
    heatSync (updateBand stack (max a b) s)

/-- HBM_TEMP_READ. -/
def execHbmTempRead (stack : Fin 2) (a b : Nat) (s : State) : Res := .next (hbmTemp stack.val a b s)

/-! ## Row disturbance (R319, R320) -/

/-- NEIGHBOUR_REFRESH: where a row's count has reached THRESHOLD, its neighbours are refreshed now. The next activate to
the bank does the same where it comes first (R320). -/
def neighbourRefresh (pc bank row : Nat) (s : State) : State :=
  if hbmOn s && !pcFenced s pc && !pcReplays s pc && rowDue s pc bank row then refreshNeighbours pc bank row s else s

/-- NEIGHBOUR_REFRESH. -/
def execNeighbourRefresh (pc : Fin 64) (bank : Fin 32) (row : Nat) (s : State) : Res :=
  .next (neighbourRefresh pc.val bank.val row s)

/-- DISTURB_WINDOW_START: the counters of every bank of a stack clear (R319). -/
def execDisturbWindowStart (stack : Fin 2) (s : State) : Res :=
  .next { s with hbm := { s.hbm with rows := s.hbm.rows.filter fun e => e.1 / 1024 != stack.val } }

/-! ## Parity replay and fencing (R321, R322) -/

/-- A channel is fenced (R322). -/
def fenceChannel (ch : Nat) (s : State) : State :=
  let s := fputBit Reg.HBM_FENCE_CHANNELS ch true s
  requestHold 7 (raise Ev.HBM_FENCE { s with hbm := { s.hbm with
    replaying := s.hbm.replaying.filter (· != ch), reissue := s.hbm.reissue.filter (·.1 != ch)
    retry := s.hbm.retry.filter (·.1 != ch), held := s.hbm.held.filter fun r => pcnOf s (r.2 * 64) / 2 != ch } })

/-- A replay begins (R321): both pseudo-channels of the channel are precharged, and the commands not confirmed are
reissued in their order. A reissued command counts no second time toward debt and row counters. -/
def startReplay (ch unconfirmed : Nat) (s : State) : State :=
  let again := ((assocD [] s.hbm.retry ch).take unconfirmed).reverse
  let s := prechargeAll (2 * ch + 1) (prechargeAll (2 * ch) s)
  { s with hbm := { s.hbm with
      replaying := ch :: s.hbm.replaying.filter (· != ch), reissue := assocPut s.hbm.reissue ch again } }

/-- AERR asserts on a channel: a replay starts, or the one in progress has failed and starts again (R321, R322). -/
def aerr (ch unconfirmed : Nat) (s : State) : State :=
  if !hbmOn s || fbitAt s Reg.HBM_FENCE_CHANNELS ch then s
  else
    let s := fcount Reg.HBM_PAR_ERR_AERR 1 s
    if s.hbm.replaying.contains ch then
      let n := assocD 0 s.hbm.fails ch + 1
      let s := fcount Reg.HBM_PAR_ERR_REPLAY_FAIL 1 { s with hbm := { s.hbm with fails := assocPut s.hbm.fails ch n } }
      if 3 ≤ n then fenceChannel ch s else startReplay ch unconfirmed s
    else startReplay ch unconfirmed s

/-- HBM_AERR. -/
def execHbmAerr (error : ParityError) (s : State) : Res := .next (aerr error.ch.val error.unconfirmed s)

/-- A replay completes: every command is confirmed, and the requests that waited are served in their order (R321, R322). -/
def replayComplete (ch : Nat) (s : State) : State :=
  if s.hbm.replaying.contains ch then
    let mine := fun (r : Bool × Nat) => pcnOf s (r.2 * 64) / 2 == ch
    let s' := { s with hbm := { s.hbm with
      replaying := s.hbm.replaying.filter (· != ch), fails := s.hbm.fails.filter (·.1 != ch)
      reissue := s.hbm.reissue.filter (·.1 != ch), held := s.hbm.held.filter fun r => !mine r } }
    raise Ev.HBM_REPLAY ((s.hbm.held.filter mine).foldl (fun s r => serveUnit r.1 r.2 s) s')
  else s

/-- REPLAY_COMPLETE. -/
def execReplayComplete (ch : Fin 32) (s : State) : Res := .next (replayComplete ch.val s)

/-! ## Power-down and the pattern generator (R323, R325) -/

/-- A pseudo-channel with no refresh due, of its own or of a row's neighbours, enters power-down (R323). -/
def powerDown (pc : Nat) (s : State) : State :=
  if hbmOn s && fget s Reg.HBM_PD_CFG_IDLE_NS != 0 && debtOf s pc == 0 && (neighbourDue s pc).isNone && !pcFenced s pc &&
      !pcReplays s pc then
    { s with hbm := { s.hbm with powerDown := s.hbm.powerDown ||| 1 <<< pc } }
  else s

/-- HBM_POWER_DOWN. -/
def execHbmPowerDown (pc : Fin 64) (s : State) : Res := .next (powerDown pc.val s)

/-- HBM_TG_CMD.RUN, in Service: the run destroys what it tests, and the fill follows (R325). -/
def patternRun (errors : Nat) (s : State) : State :=
  if s.flow.mode ≠ .service ∨ !hbmOn s ∨ s.hbm.fill.isSome then s
  else startFill false (fputSat Reg.HBM_TG_ERR_COUNT errors s)

/-- PATTERN_RUN. -/
def execPatternRun (errors : Nat) (s : State) : Res := .next (patternRun errors s)

/-! ## The scrubber (R338, R339) -/

/-- The scrubber runs (R338, R339, Table 2-3). -/
def scrubOn (s : State) : Bool :=
  fbit s Reg.ECC_SCRUB_CFG_EN && hbmOn s && !fbit s Reg.ECC_STATUS_FILL_BUSY && s.mon.bist.isNone &&
  s.flow.mode != .rest && s.flow.boot == .over && s.pwr.rest.stage == 0

/-- ECC_SRC names the band whose slot holds a poisoned unit, in the ring or loaded (R339). -/
def noteSource (u : Nat) (s : State) : State :=
  let base := (region Rgn.band).lo / 64
  if u < base ∨ base + 256 * 133120 ≤ u then s
  else
    match (s.ras.ring ++ s.ras.released).find? fun b => b.slot == (u - base) / 133120 with
    | none => s
    | some b =>
      match stripeAt s b.stripeIdx with
      | none => s
      | some e =>
        let s := fput Reg.ECC_SRC_LS_STRIPE e.stripe (fput Reg.ECC_SRC_LS_LAYER e.layer s)
        rset64 Reg.ECC_SRC_SEQ_LO Reg.ECC_SRC_SEQ_HI (b.seq.getD 0) (fput Reg.ECC_SRC_BAND_BAND b.band s)

/-- How bad a result is. -/
def eccRank : EccResult → Nat
  | .clean => 0 | .correctable => 1 | .uncorrectable => 2 | .poisoned => 3

/-- A word decodes as `r` from here on, unless it decodes as worse. -/
def Codes.worsen (w : Nat) (r : EccResult) (c : Codes) : Codes := if eccRank (c.look w) < eccRank r then c.put w r else c

/-- What the scrubber makes of a unit's codes (R338): a poisoned unit is skipped; an uncorrectable one is written back as
poisoned; each correctable word is written back corrected. -/
def Codes.scrub (u : Nat) (c : Codes) : Codes :=
  let ws := unitWords u
  if ws.any fun w => c.look w == .poisoned then c
  else if ws.any fun w => c.look w == .uncorrectable then c.putAll ws .poisoned
  else c.putAll ws .clean

/-- The first word of a unit that decodes as `r`. -/
def Codes.first (u : Nat) (r : EccResult) (c : Codes) : Option Nat := (unitWords u).find? fun w => c.look w == r

/-- What the scrubber finds in a unit is counted, logged and raised (R329, R337, R338); `addr` is the address of a word. -/
def scrubFinds (c : Codes) (dram : Bool) (u wher : Nat) (addr : Nat → Nat) (s : State) : State :=
  match c.first u .poisoned, c.first u .uncorrectable with
  | some _, _ => s
  | none, some w =>
    raise Ev.ECC_SCRUB_UE (fcount Reg.ECC_UE_COUNT_COUNT 1 (eccLog dram (addr w) 2 true wher Port.scrub s))
  | none, none => ((unitWords u).filter fun w => c.look w == .correctable).foldl (fun s w =>
      countCorrection (eccLog dram (addr w) 1 true wher Port.scrub s)) s

/-- A DRAM unit is scrubbed. `r` is a new error that it is found with, in a word that is a free value; `dropped` says that a
requester's write came between, so that the write-back is dropped. -/
def scrubDram (u : Nat) (r : EccResult) (dropped : Bool) (s : State) : State :=
  if decide (536870912 ≤ u) || pageInvalid s (u / 64) || fencedAt s (u * 64) then s
  else
    let c := s.ecc.dram.worsen (8 * u + freeNat s % 8) r
    let s := accessUnit false u (countUrgent Port.scrub 1 (useFree { s with ecc := { s.ecc with dram := c } }))
    let s := scrubFinds c true u (pcnOf s (u * 64)) (· * 8) s
    if dropped ∨ c.scrub u = c then s
    else
      let s := accessUnit true u { s with ecc := { s.ecc with dram := c.scrub u } }
      if (c.first u .uncorrectable).isSome then noteSource u s else s

/-- An SRAM unit is scrubbed: unit `u` counts from bank 0. -/
def scrubSram (u : Nat) (r : EccResult) (dropped : Bool) (s : State) : State :=
  if decide (96 * 32768 ≤ u) || sramUnitInvalid s u then s
  else
    let c := s.ecc.sram.worsen (8 * u + freeNat s % 8) r
    let s := useFree { s with ecc := { s.ecc with sram := c } }
    let s := scrubFinds c false u (u / 32768) (fun w => w % 262144 * 8) s
    if dropped then s else { s with ecc := { s.ecc with sram := c.scrub u } }

/-- SCRUB_UNIT: the scrubber reads a unit (R338). -/
def scrubUnit (addr : MemUnit) (r : EccResult) (dropped : Bool) (s : State) : State :=
  if !scrubOn s then s
  else
    match addr with
    | .dram a => scrubDram (a / 64) r dropped s
    | .sram bank off => scrubSram (bank * 32768 + off / 64) r dropped s

/-- SCRUB_UNIT. -/
def execScrubUnit (addr : MemUnit) (result : EccResult) (rewritten : Bool) (s : State) : Res :=
  .next (scrubUnit addr result rewritten s)

end Sys2Proof.Machine
end

