-- ==== Sys2Proof/Machine/RegAccess.lean ====
section
/-!
DEFINITION. Reads and writes of registers by their access codes (R5, R8, R535, R536), with the effect each register's
own rule gives a write, and the command CFG_WRITE with the register commands of the Diagnostics group (R367, R368, R383).
-/

namespace Sys2Proof.Machine

/-- Who writes a register: the host through BAR0, the host through a mailbox command, or firmware for itself. -/
inductive Writer where
  | bar0 | command | firmware
  deriving DecidableEq, Repr

/-- The bits of a register that carry an access code. -/
def codeBits (f : RegDesc → Nat) (k : Nat) : Word :=
  match regDesc k with
  | some d => BitVec.ofNat 32 (f d)
  | none => 0

/-- The key of a register named by BLOCK and OFFSET (R367). -/
def RegRef.key (r : RegRef) : Nat := r.block * 65536 + r.offset

/-- A register stands there (R367). -/
def refExists (block offset : Nat) : Bool :=
  decide (1 ≤ block ∧ block ≤ 20 ∧ offset < 65536) && (regDesc (block * 65536 + offset)).isSome

/-! ## Reads -/

/-- Reads that capture companions (R209, R431). -/
def readCapture (k : Nat) (s : State) : State :=
  if k = Reg.POS_Y_LO then posYLoCapture s
  else if k = Reg.TIM_NS then timNsCapture s
  else match (List.range 4).find? fun u => k / 0x40 == Reg.CHK_UNIT_CFG u / 0x40 with
    | some u => chkCapture u k s
    | none => s

/-- The word as it stands: SENSE_OFF follows BHM_CAL_CFG.CHAN (R300). -/
def liveWord (s : State) (k : Nat) : Word :=
  match (List.range 6).find? fun n => k == Reg.MOT_CH_STATUS n with
  | some n => (Reg.MOT_CH_STATUS_SENSE_OFF n).put (rget s k) (if senseOff s n then 1 else 0)
  | none => rget s k

/-- Where the RC bits of a register restart: at POR, but the two lead minima at the lead in force (R536, Tables 5-2 and
6-6). -/
def rcRestart (s : State) (k : Nat) : Word :=
  if k = Reg.RAS_LEAD_MIN then rget s Reg.RAS_BAND_LEAD
  else if k = Reg.GTH_WIN_LEAD_MIN then rget s Reg.GTH_WIN_LEAD
  else regPor k

/-- The RC bits of a register restart. -/
def rcClear (k : Nat) (s : State) : State :=
  let m := codeBits RegDesc.rc k
  if m = 0 then s else rset k ((rget s k &&& ~~~m) ||| (rcRestart s k &&& m)) s

/-- A read of one register: the value, and the state after it (R5). -/
def readReg (k : Nat) (s : State) : State × Word :=
  let s := readCapture k s
  (rcClear k s, liveWord s k &&& ~~~(codeBits RegDesc.wo k))

/-- Reads of several registers in order. -/
def readRegs : List Nat → State → State × List Word
  | [], s => (s, [])
  | k :: ks, s =>
    let a := readReg k s
    let b := readRegs ks a.1
    (b.1, a.2 :: b.2)

/-- The bytes of words read. -/
def wordBytes (ws : List Word) : List Byte := ws.flatMap fun w => leBytes 4 w.toNat

/-! ## Writes -/

/-- A written word is stored in the RW bits. -/
def storeRw (k : Nat) (v : Word) (s : State) : State :=
  let m := codeBits RegDesc.rw k
  rset k ((rget s k &&& ~~~m) ||| (v &&& m)) s

/-- Channels with MODE other than 0 vote for GATH (Table 20-2). -/
def motionVote (s : State) : State :=
  let on := (List.range 6).any fun n => actMode n (bits (storedReg s (Reg.MOT_CH_CFG n)).toNat 1 0) != 0
  if fbitAt s (Reg.PWR_VOTE_VOTES Dom.GATH) Client.motion = on then s else setVote Dom.GATH Client.motion on s

/-- MASTER or the cohort's setting may have changed: who is master, and the source of time, follow (R421, R435). -/
def masterChanged (s : State) : State := partitionAtOnce (masterSync false (timeSrcSync (settleSource s)))

/-- What follows a store in an RW register. -/
def afterStore (k : Nat) (s : State) : State :=
  let s := if digestRegs.contains k then recomputeDigest s else s
  if [Reg.POS_CFG, Reg.POS_JITTER, Reg.POS_VEL, Reg.POS_PWS_CFG].contains k then
    if modeIn s [.ready, .service] then samplePosCfg s else s
  else if k = Reg.MOT_CHOREO ∨ k = Reg.COH_CFG then masterChanged s
  else if k = Reg.ABS_CFG then absSync s
  else if (List.range 6).any (fun n => k == Reg.MOT_CH_CFG n) then motionVote s
  else s

/-- A write to a check-value unit (R400 to R402). -/
def chkWrite (u off : Nat) (byHost : Bool) (v : Word) (s : State) : State :=
  if !chkAccepts u byHost then chkDrop u s
  else match off with
  | 0x0C => if v.getLsbD 0 then chkStart u byHost s else s
  | 0x10 => chkFeed u byHost (leBytes 1 v.toNat) s
  | 0x14 => chkFeed u byHost (leBytes 2 v.toNat) s
  | 0x18 | 0x1C => chkFeed u byHost (leBytes 4 v.toNat) s
  | _ => storeRw (0xE0000 + 0x40 * u + off) v s

/-- A write to a register of the motion generator that acts (R292, R300, R305). -/
def motionWrite (k : Nat) (host : Bool) (v : Word) (s : State) : State :=
  if k = Reg.MOT_CMD then motionClear (BitVec.ofNat 6 (bits v.toNat 13 8)) (motionStop (BitVec.ofNat 6 (bits v.toNat 5 0)) s)
  else
    let n := (k - 0xA0100) / 0x80
    let off := (k - 0xA0100) % 0x80
    if k < 0xA0100 ∨ 6 ≤ n then afterStore k (storeRw k v s)
    else if off = 0x08 then (if v.getLsbD 0 then motionCommit n host s else s)
    else if 0x10 ≤ off ∧ off ≤ 0x34 then shadowWrite n ((off - 0x10) / 8) (off % 8 == 4) v s
    else afterStore k (storeRw k v s)

/-- A write to a DMA register of the doorbell page (R397, R398; the order of the bits of one CTRL write is the model's,
log entry 38). -/
def dmaWrite (k : Nat) (v : Word) (s : State) : State :=
  if k < 0x0F060 then dmaAppend ((k - 0x0F040) / 4) s
  else
    let c := (k - 0x0F080) / 16
    match (k - 0x0F080) % 16 with
    | 0 | 4 => if dmaState s c = Dma.running ∨ dmaState s c = Dma.parked then s else storeRw k v s
    | 8 =>
      let s := if v.getLsbD 0 then dmaStart c s else s
      let s := if v.getLsbD 1 then dmaRetry c s else s
      if v.getLsbD 2 then dmaStop c s else s
    | _ => s

/-- A write of MON_DIAG_ACK frees chunks; a value that would pass HEAD acts as HEAD, and reads back as written (R5, R506). -/
def diagAck (v : Word) (s : State) : State :=
  let head := (rget s Reg.MON_DIAG_HEAD).toNat
  let ahead := fun (x : Nat) => (2 ^ 32 + x - s.mon.acked) % 2 ^ 32
  let acts := if ahead head < ahead v.toNat then head else v.toNat
  rset Reg.MON_DIAG_ACK v { s with mon := { s.mon with acked := acts } }

/-- MON_DIAG_ACK. -/
def execMonDiagAck (value : Word) (s : State) : Res := .next (diagAck value s)

/-- A W1C write: ones clear (R5, R491). -/
def xovrClear (v : Word) (s : State) : State := rset Reg.CLK_XOVR (rget s Reg.CLK_XOVR &&& ~~~(v &&& codeBits RegDesc.w1c Reg.CLK_XOVR)) s

/-- CLK_XOVR_CLEAR. -/
def execClkXovrClear (value : Word) (s : State) : Res := .next (xovrClear value s)

/-- One write to one register, with the effect its register map gives (R5, R368). What a test that the write starts
would measure is a free value (log entry 4). -/
def writeReg (w : Writer) (k : Nat) (v : Word) (s : State) : State :=
  if isStaging k then stagingWrite k (if k = Reg.GTH_BT_CMD then v else v &&& codeBits RegDesc.rw k) s
  else if k = Reg.GTH_PSET_CMD then (if v.getLsbD 0 then psetCommit s else s)
  else if k = Reg.POS_SET_CMD then posSet (bits v.toNat 1 0) s
  else if k = Reg.OUT_CINCH_CMD then (if v.getLsbD 0 then cinchTest (freeNat s) (useFree s) else s)
  else if k = Reg.HBM_TG_CMD then (if v.getLsbD 0 then patternRun (freeNat s) (useFree s) else s)
  else if k = Reg.HBM_MAP_CFG then (if fbit s Reg.HBM_MAP_CFG_LOCK then s else storeRw k v s)
  else if k = Reg.CLK_XOVR then xovrClear v s
  else if k = Reg.MON_DIAG_ACK then diagAck v s
  else match k / 65536 with
    | 0x00 => if k < 0x0F040 then s else dmaWrite k v s
    | 0x0A => motionWrite k (w != .firmware) v s
    | 0x0E => chkWrite ((k - 0xE0000) / 0x40) (k % 0x40) (w == .bar0) v s
    | 0x14 =>
      if 0x140100 ≤ k ∧ k < 0x140200 ∧ (regDesc k).isSome then probeWrite ((k - 0x140100) / 16) (k % 16 / 4) v s
      else afterStore k (storeRw k v s)
    | _ => afterStore k (storeRw k v s)

/-- Writes in their order (R368). One that has to wait for an apply keeps back those behind it: the tick comes that ends the
wait (R160, R383). -/
def writeRegs (ws : List RegWrite) (s : State) : State :=
  ws.foldl (fun s e =>
    let k := e.block * 65536 + e.offset
    writeReg .command k e.value (if isStaging k && applyPending s then applyAll s else s)) s

/-! ## Accesses of firmware into a domain (R494 to R496) -/

/-- What an access of firmware does where the clock of its domain runs. -/
def blockDo (i : Instr) (s : State) : State :=
  match i with
  | .registerWrite (.block ref) v => writeReg .firmware (RegRef.key ref) (v.extractLsb' 0 32) s
  | .rcRegisterRead (.block ref) => (readReg (RegRef.key ref) s).1
  | _ => s

/-- Firmware accesses a register of a block: where the domain is stopped the access waits (R494). -/
def blockAccess (ref : RegRef) (i : Instr) (s : State) : State :=
  if !refExists ref.block ref.offset then s
  else if powered s (blockDomain ref.block) then blockDo i s
  else { s with clk := { s.clk with waiting := s.clk.waiting ++ [i] } }

/-- The domain that a waiting access waits for. -/
def waitsFor : Instr → Nat
  | .registerWrite (.block ref) _ => blockDomain ref.block
  | .rcRegisterRead (.block ref) => blockDomain ref.block
  | _ => 0

/-- The clock of domain `d` runs again: the accesses that waited for it are made, in order. -/
def accessesGo (d : Nat) (s : State) : State :=
  (s.clk.waiting.filter fun i => waitsFor i == d).foldl (fun s i => blockDo i s)
    { s with clk := { s.clk with waiting := s.clk.waiting.filter fun i => waitsFor i != d } }

/-! ## Commands (R368, R383) -/

/-- The switched domains of these blocks that the client does not vote for. -/
def unheld (client : Nat) (blocks : List Nat) (s : State) : List Nat :=
  ((blocks.map blockDomain).eraseDups).filter fun d => decide (2 ≤ d) && !(votes s d).testBit client

/-- Firmware holds a client's vote for the domains of some blocks while it accesses them, where that client does not vote for them
already (R466, R495, Table 20-2). -/
def holding (client : Nat) (blocks : List Nat) (f : State → State) (s : State) : State :=
  let ds := unheld client blocks s
  setVotes ds client false (f (setVotes ds client true s))

/-- Bits of a register that are reserved. -/
def reservedBits (k : Nat) : Word := ~~~(codeBits (fun d => d.rw ||| d.wo ||| d.rc ||| d.w1c ||| d.wi ||| d.ro) k)

/-- A register that CFG_WRITE and POKE may write: one with RW or WO bits. -/
def writable (block offset : Nat) : Bool :=
  refExists block offset && codeBits (fun d => d.rw ||| d.wo) (block * 65536 + offset) != 0

/-- No reserved bit of a value for a writable register is set (R368). -/
def valueOk (e : RegWrite) : Bool :=
  !writable e.block e.offset || e.value &&& reservedBits (e.block * 65536 + e.offset) == 0

/-- The blocks CFG_WRITE reaches (R368). -/
def cfgBlocks : List Nat := [0x01, 0x02, 0x03, 0x04, 0x05, 0x06, 0x07, 0x08, 0x09, 0x0A, 0x0B, 0x0C, 0x14]

/-- What CFG_WRITE reaches (R368). -/
def cfgReach (e : RegWrite) : Bool :=
  let k := e.block * 65536 + e.offset
  cfgBlocks.contains e.block && writable e.block e.offset && !isStaging k && k != Reg.HBM_MAP_CFG

/-- Registers that CFG_WRITE writes in Service only (R368). -/
def serviceOnly (e : RegWrite) : Bool :=
  [Reg.OUT_CINCH_CMD, Reg.ECC_INJECT, Reg.HBM_TG_CMD].contains (e.block * 65536 + e.offset)

/-- CFG_WRITE. -/
def cfgWriteCommand (r : Req) (ws : List RegWrite) (s : State) : State :=
  runCommand r { op := 0x0108, len := 4 + 8 * ws.length
                 inRange := decide (1 ≤ ws.length ∧ ws.length ≤ 27) && ws.all valueOk
                 accepted := rwhs s && (s.flow.mode == .service || !ws.any serviceOnly)
                 needs := ws.map fun e => blockDomain e.block
                 reach := ws.all cfgReach } (holding Client.firmware (ws.map (·.block)) fun s =>
    complete r.slot .ok (leBytes 1 ws.length) (writeRegs ws s)) s

/-- CFG_WRITE. -/
def execCfgWrite (r : Req) (writes : List RegWrite) (s : State) : Res := .next (cfgWriteCommand r writes s)

/-- PEEK and POKE are for Service, and in SECURED not for the SEC_ block (R364, Table 14-8). -/
def debugAllowed (s : State) (blocks : List Nat) : Bool :=
  s.flow.mode == .service && !(fget s Reg.SEC_STATUS_LIFECYCLE == 2 && blocks.contains 0x11)

/-- POKE. -/
def pokeCommand (r : Req) (ws : List RegWrite) (s : State) : State :=
  runCommand r { op := 0x0902, len := 4 + 8 * ws.length
                 inRange := decide (1 ≤ ws.length ∧ ws.length ≤ 27) && ws.all valueOk
                 allowed := debugAllowed s (ws.map (·.block))
                 needs := ws.map fun e => blockDomain e.block
                 reach := ws.all fun e => writable e.block e.offset } (holding Client.diag (ws.map (·.block)) fun s =>
    complete r.slot .ok (leBytes 1 ws.length) (writeRegs ws s)) s

/-- POKE. -/
def execPoke (r : Req) (writes : List RegWrite) (s : State) : Res := .next (pokeCommand r writes s)

/-- Read a list of registers and complete with their values. -/
def readList (slot : Fin 16) (refs : List RegRef) (s : State) : State :=
  let a := readRegs (refs.map RegRef.key) s
  complete slot .ok (wordBytes a.2) a.1

/-- What every list of registers to read must be. -/
def listOk (refs : List RegRef) : Bool := decide (1 ≤ refs.length ∧ refs.length ≤ 52)

/-- PEEK. -/
def peekCommand (r : Req) (refs : List RegRef) (s : State) : State :=
  runCommand r { op := 0x0901, len := 4 + 4 * refs.length, inRange := listOk refs
                 allowed := debugAllowed s (refs.map (·.block))
                 needs := refs.map fun e => blockDomain e.block
                 reach := refs.all fun e => refExists e.block e.offset }
    (holding Client.diag (refs.map (·.block)) (readList r.slot refs)) s

/-- PEEK. -/
def execPeek (r : Req) (refs : List RegRef) (s : State) : Res := .next (peekCommand r refs s)

/-- REG_READ: any block but SEC_. -/
def regReadCommand (r : Req) (refs : List RegRef) (s : State) : State :=
  runCommand r { op := 0x0903, len := 4 + 4 * refs.length, inRange := listOk refs
                 needs := refs.map fun e => blockDomain e.block
                 reach := refs.all fun e => refExists e.block e.offset && e.block != 0x11 }
    (holding Client.diag (refs.map (·.block)) (readList r.slot refs)) s

/-- REG_READ. -/
def execRegRead (r : Req) (refs : List RegRef) (s : State) : Res := .next (regReadCommand r refs s)

/-- MEM_STATUS: the HBM_ and ECC_ registers (R378). -/
def memStatusCommand (r : Req) (refs : List RegRef) (s : State) : State :=
  runCommand r { op := 0x0401, len := 4 + 4 * refs.length, inRange := listOk refs
                 needs := [Dom.MEM]
                 reach := refs.all fun e => refExists e.block e.offset && (e.block == 0x0B || e.block == 0x0C) } (readList r.slot refs) s

/-- MEM_STATUS. -/
def execMemStatus (r : Req) (refs : List RegRef) (s : State) : Res := .next (memStatusCommand r refs s)

end Sys2Proof.Machine
end

