-- ==== Sys2Proof/Machine/Proctor.lean ====
section
/-!
DEFINITION. The Proctor: the votes firmware has its clients cast, the image the Boot ROM selects, and the Proctor
restart from its request to its end (R50, R357, R459, R466, R477, Table 20-8).
-/

namespace Sys2Proof.Machine

/-! ## Votes of the module's clients (Table 20-2) -/

/-- A client of Table 20-2 votes for a domain now. -/
def clientWants (s : State) (d c : Nat) : Bool :=
  match c with
  | 1 => (d == Dom.PROC || d == Dom.MEM) || (d == Dom.ETH && fbit s Reg.TIM_STATUS_PTP_EN)
  | 2 => s.job.isSome && [Dom.RAST, Dom.GATH, Dom.OUT].contains d
  | 3 => d == Dom.COH && inCohort s
  | 4 => (d == Dom.GATH || d == Dom.OUT) && s.health.run.isSome
  | 5 => d == Dom.GATH && triggersVote s
  | 6 => match s.mon.bist with
    | some b => b.kind == 0 && b.domains.getLsbD d
    | none => false
  | 7 => d == Dom.GATH && (List.range 6).any fun n => actMode n (bits (storedReg s (Reg.MOT_CH_CFG n)).toNat 1 0) != 0
  | _ => false

/-- The pairs of a domain with votes and a client of the module. -/
def clientPairs : List (Nat × Nat) := (List.range 7).flatMap fun i => (List.range 7).map fun j => (i + 2, j + 1)

/-- Every client casts its votes again (Table 20-8); the host's votes are kept. -/
def castVotes (s : State) : State :=
  let s := clientPairs.foldl (fun s p => if clientWants s p.1 p.2 then setVote p.1 p.2 true s else s) s
  clientPairs.foldl (fun s p => if clientWants s p.1 p.2 then s else setVote p.1 p.2 false s) s

/-! ## The image (R458, R459) -/

/-- The image in a slot. -/
def imageIn (s : State) (b : Bool) : Image := if b then s.sec.slotB else s.sec.slotA

/-- An image may run: it verifies, and its rollback value is at least the counter. -/
def imageRuns (s : State) (b : Bool) : Bool :=
  (imageIn s b).good && decide (fget s Reg.SEC_ROLLBACK_COUNTER ≤ (imageIn s b).rollback)

/-- The image of one slot runs, and raises the rollback counter to its own value. -/
def runImage (b fallback : Bool) (s : State) : State :=
  let s := { s with sec := { s.sec with runningB := b } }
  let s := fput Reg.SEC_STATUS_SLOT (if b then 1 else 0) (fput Reg.SEC_STATUS_FALLBACK (if fallback then 1 else 0) s)
  raiseIf fallback Ev.FW_VERIFY_FAIL (fmax Reg.SEC_ROLLBACK_COUNTER (imageIn s b).rollback s)

/-- A Boot step fails; the manual gives the steps no numbers, so the number of one the module itself finds is free (R48). -/
def bootFails (step : Nat) (s : State) : State :=
  { s with flow := { s.flow with mode := .boot, boot := .failed, bootStep := step % 256 } }

/-- The image is loaded into Proctor memory, banks 90 and 91, which are written whole (R334, R464). -/
def loadImage (s : State) : State := writeSram (90 * 262144) (2 * 262144) s

/-- The Boot ROM selects the newest image that may run (R459). -/
def selectImage (s : State) : State :=
  let n := s.sec.newestB
  if imageRuns s n then runImage n false (loadImage s)
  else if imageRuns s (!n) then runImage (!n) true (loadImage s)
  else bootFails (1 + freeNat s % 255) (useFree s)

/-! ## The restart (R50) -/

/-- A Proctor restart is asked for: in Write the module first enters Hold under R43. -/
def askRestart (s : State) : State :=
  if s.flow.restart.isSome then s
  else if s.flow.mode = .write ∧ (requestHostHold s).flow.mode = .write then
    let s := requestHostHold s
    { s with flow := { s.flow with restartReq := true } }
  else if s.flow.mode = .write then startRestart .hold (requestHostHold s)
  else startRestart (modeAfterRestart s.flow.mode) s

/-- The command PROCTOR_RESTART: it completes before the restart begins (Table 15-2). -/
def proctorRestartCommand (r : Req) (s : State) : State :=
  runCommand r { op := 0x0107, len := 0, moves := true, accepted := rwhs s } (fun s =>
    askRestart (notWatchdog (complete r.slot .ok [] s))) s

/-- PROCTOR_RESTART. -/
def execProctorRestart (r : Req) (s : State) : Res := .next (proctorRestartCommand r s)

/-- PWR_WDOG.TIMEOUT_MS passes without a firmware refresh while the Proctor runs (R477). -/
def watchdogExpiry (s : State) : State :=
  if proctorRuns s then askRestart (raise Ev.FW_WATCHDOG (fput Reg.PWR_RESET_CAUSE_WATCHDOG 1 s)) else s

/-- WATCHDOG_EXPIRY. -/
def execWatchdogExpiry (s : State) : Res := .next (watchdogExpiry s)

/-- The overrun bits that firmware clears at once (Table 21-3). -/
def clearOverruns (s : State) : State := (List.range 9).foldl (fun s i => fputBit Reg.CLK_XOVR_FLAGS (2 + i) false s) s

/-- Pulses that pended while the Proctor was away reach it, and firmware clears the overrun bits it answers at once (R491,
R492). -/
def deliverPulses (s : State) : State :=
  let s := raiseIf (assocD 0 s.clk.pend 10 != 0) Ev.GPIO_EDGE s
  let s := { s with clk := { s.clk with pend := s.clk.pend.filter fun e => e.1 != 10 } }
  clearOverruns s

/-- The spread that CLK_SPREAD holds takes effect: the module leaves Service (R497). -/
def takeSpread (s : State) : State := { s with clk := { s.clk with spread := (rget s Reg.CLK_SPREAD).setWidth 2 } }

/-- The mode that follows a restart is entered (R50). From Boot the steps run again, unless one had failed (R48). -/
def modeAfter (after : Mode) (s : State) : State :=
  match after with
  | .hold => { s with flow := { s.flow with mode := .hold } }
  | .boot =>
    if s.flow.boot = .failed then s
    else fput Reg.ECC_STATUS_FILL_BUSY 1 { s with flow := { s.flow with boot := .filling } }
  | _ => if s.flow.mode = .service then readyOutputs (takeSpread { s with flow := { s.flow with mode := .ready } }) else s

/-- The commands that the restart cut off complete ABORTED (R357). -/
def abortCut (s : State) : State :=
  let cut := s.mail.cut
  cut.foldl (fun s n => complete n .aborted [] s) { s with mail := { s.mail with cut := [] } }

/-- The restart ends: the image is loaded again, the mode is set, the commands cut off complete ABORTED, the votes are
cast again, and PROCTOR_RESTART is raised. -/
def restartEnd (s : State) : State :=
  match s.flow.restart with
  | none => s
  | some after =>
    let s := selectImage { s with flow := { s.flow with restart := none } }
    let s := abortCut (if s.flow.boot = .failed then s else modeAfter after s)
    let s := recomputeDigest (deliverPulses s)
    raise Ev.PROCTOR_RESTART (if s.flow.mode = .boot then s else castVotes s)

/-! ## Reads of the input buffer (R366, Table 13-2) -/

/-- OFFSET and LEN name a range of the input buffer: OFFSET is a multiple of 8, and the range lies within it. -/
def bufferAligned (off : Nat) : Bool := off % 8 == 0
def bufferReach (off len : Nat) : Bool := decide (off + len ≤ bufferBytes)

/-- Firmware reads a range of the input buffer. On a bus error it rereads once; on a second one it asks for a Proctor
restart, since the region is that of its code and tables (Table 13-2); the command then completes ABORTED. -/
def withBuffer (off len : Nat) (f : List Byte → State → State) (s : State) : State :=
  match memRead Port.proctor (bufferBase + off) len s with
  | (s, some bs) => f bs s
  | (s, none) =>
    match memRead Port.proctor (bufferBase + off) len s with
    | (s, some bs) => f bs s
    | (s, none) => askRestart (notWatchdog s)

end Sys2Proof.Machine
end

