-- ==== Sys2Proof/Machine/JobCmd.lean ====
section
/-!
DEFINITION. The commands of the Job group (Table 15-3): loading and extending a job, starting and ending it, closing
its layers, and reading the reject records, the cell cache and the Absence Log.
-/

namespace Sys2Proof.Machine

/-! ## JOB_LOAD (R56, R76) -/

/-- SIZE as it acts, sampled at JOB_LOAD (R120, Table 4-3). -/
def cacheSize (s : State) : Nat := max 1 (min 64 (storedField s Reg.SKV_CACHE_CFG_SIZE))

/-- A header that has passed its checks becomes the loaded job: its key, its empty stream and cell cache, its votes. The
reject records and counts of the job before stay (R103). -/
def loadJob (j : Job) (key : JobKeys) (s : State) : State :=
  let s := { s with
    flow := { s.flow with job := .loaded }
    job := some j, prog := Progress.zero, ingest := s.ingest.after false
    cache := { Cache.empty with size := cacheSize s }, ras := Raster.empty
    sec := { s.sec with jobKey := some key }, coh := s.coh.noHandshake }
  let s := fput Reg.SEC_STATUS_JOB_KEY 1 s
  recomputeDigest (absSync (streamSync (setVotes [Dom.RAST, Dom.GATH, Dom.OUT] Client.job true s)))

/-- The four checks of R56 in their order: the status of the first that fails, or the job's keys. -/
def jobLoadCheck (s : State) (h : List Byte) (len : Nat) : Except Status JobKeys :=
  match jobHeaderFault s h len with
  | some st => .error st
  | none =>
    match unwrapKey s h with
    | none => .error .keyUnwrap
    | some k =>
      if !admissible s.beams.table then .error .tableInadmissible
      else if hdrDigest h ≠ ownDigest s then .error .digestMismatch
      else .ok k

/-- The bytes of a header, read: its checks, and its effect. -/
def jobLoadWith (slot : Fin 16) (len : Nat) (h : List Byte) (s : State) : State :=
  match jobLoadCheck s h len with
  | .error st => complete slot st [] s
  | .ok k =>
    complete slot .ok (leBytes 8 (jobOf h).jobId ++ leBytes 4 (jobOf h).nlayer ++ leBytes 4 (jobOf h).stripes.length)
      (loadJob (jobOf h) k s)

/-- The command JOB_LOAD. -/
def jobLoadCommand (r : Req) (off len : Nat) (s : State) : State :=
  runCommand r
    { op := 0x0201, len := 8, inRange := bufferAligned off, allowed := !fbit s Reg.SEC_STATUS_DEBUG_OPEN,
      accepted := inState s .ready .none, needs := [Dom.MEM], reach := bufferReach off len }
    (withBuffer off len (jobLoadWith r.slot len)) s

/-- JOB_LOAD. -/
def execJobLoad (r : Req) (offset len : Nat) (s : State) : Res := .next (jobLoadCommand r offset len s)

/-! ## JOB_SUPPLEMENT (R75, R371) -/

/-- The stripe list with a supplement's stripes after those of their layer. -/
def insertStripes (old new : List StripeEntry) (nlayer : Nat) : List StripeEntry :=
  (List.range nlayer).flatMap fun l => old.filter (·.layer == l) ++ new.filter (·.layer == l)

/-- Where a position of the old list stands in the new one. -/
def shiftPos (old new : List StripeEntry) (i : Nat) : Nat :=
  match old[i]? with
  | some e => i + (new.filter fun x => decide (x.layer < e.layer)).length
  | none => i

/-- A position that names no stripe begun yet stays where new stripes come in. -/
def shiftNext (old new : List StripeEntry) (begun : Bool) (i : Nat) : Nat := if begun then shiftPos old new i else
  match old[i - 1]? with
  | some e => if i = 0 then 0 else i + (new.filter fun x => decide (x.layer < e.layer)).length
  | none => i

/-- Ingest, at the new positions. -/
def shiftIngest (f : Nat → Nat) (cur : Nat) (g : Ingest) : Ingest :=
  { g with curStripe := cur, abandoned := g.abandoned.map f
           blocks := g.blocks.map fun b => { b with stripeIdx := f b.stripeIdx } }

/-- The rasterizer, at the new positions. -/
def shiftRaster (f : Nat → Nat) (next : Nat) (g : Raster) : Raster :=
  { g with
    geoms := g.geoms.map fun q => { q with stripeIdx := f q.stripeIdx }
    stripes := g.stripes.map fun d => { d with stripeIdx := f d.stripeIdx }
    stripeIdx := next
    current := g.current.map fun c => { c with stripeIdx := f c.stripeIdx }
    cells := g.cells.map fun c => c.map fun t => (f t.1, t.2)
    pending := g.pending.map fun p => { p with stripeIdx := f p.stripeIdx }
    density := g.density.map fun p =>
      (densityKey (f (p.1 / 520 / 4194304)) (p.1 / 520 % 4194304) (p.1 % 520), p.2)
    ring := g.ring.map fun b => { b with stripeIdx := f b.stripeIdx }
    released := g.released.map fun b => { b with stripeIdx := f b.stripeIdx } }

/-- The position the Window must be open for next: the current stripe, or the one after it once its last gather is
over (R167). -/
def windowNext (s : State) : Nat := if s.flow.job = .stripe then s.prog.cur + 1 else s.prog.cur

/-- The Window follows the new list: with new stripes before the one it is open for, it opens for the first of them, and for that one again later (log
entry 18); and a Window that found no next stripe opens for the first new one. -/
def windowAfterSupplement (f : Nat → Nat) (s : State) : State :=
  if s.flow.job = .loaded then s
  else
    match s.win.stripeIdx with
    | some i =>
      let s := { s with win := { s.win with stripeIdx := some (f i) } }
      if f i = i then s else openWindow (windowNext s) s
    | none => openWindow (windowNext s) s

/-- The stripes of a supplement join the loaded job. -/
def supplementJob (j : Job) (new : List StripeEntry) (nblock : Nat) (s : State) : State :=
  let f := shiftPos j.stripes new
  let ingestNext := shiftNext j.stripes new (stripeData s s.ingest.curStripe).firstSeq.isSome s.ingest.curStripe
  let rasterNext := shiftNext j.stripes new (s.ras.band != 0) s.ras.stripeIdx
  let s := { s with
    job := some { j with stripes := insertStripes j.stripes new j.nlayer, seqEnd := j.seqEnd + nblock }
    ingest := shiftIngest f ingestNext s.ingest
    cache := { s.cache with fences := s.cache.fences.map fun c => { c with upTo := c.upTo.map fun p => (f p.1, p.2) } }
    ras := shiftRaster f rasterNext s.ras }
  let s := if s.flow.job = .layerOpen then { s with flow := { s.flow with job := .recess } } else s
  leadSync (windowAfterSupplement f s)

/-- The bytes of a supplement, read: its checks, and its effect. -/
def supplementWith (slot : Fin 16) (len : Nat) (h : List Byte) (s : State) : State :=
  match s.job with
  | none => complete slot .headerInvalid [] s
  | some j =>
    match supplementFault s j h len with
    | some st => complete slot st [] s
    | none =>
      complete slot .ok (leBytes 4 (hdrStripes h).length ++ leBytes 4 0 ++ leBytes 8 (j.seqEnd + hdrNblock h))
        (supplementJob j (hdrStripes h) (hdrNblock h) s)

/-- The command JOB_SUPPLEMENT. -/
def jobSupplementCommand (r : Req) (off len : Nat) (s : State) : State :=
  runCommand r
    { op := 0x0202, len := 8, inRange := bufferAligned off,
      accepted := inState s .ready .loaded || modeIn s [.write, .hold], needs := [Dom.MEM], reach := bufferReach off len }
    (withBuffer off len (supplementWith r.slot len)) s

/-- JOB_SUPPLEMENT. -/
def execJobSupplement (r : Req) (offset len : Nat) (s : State) : Res := .next (jobSupplementCommand r offset len s)

/-! ## Starting, holding, extending (R57, R372, R374) -/

/-- The command JOB_START: it completes at the entry to Write (R242). -/
def jobStartCommand (r : Req) (lead : Nat) (s : State) : State :=
  runCommand r
    { op := 0x0203, len := 4, inRange := lead == 0 || decide (18 ≤ lead ∧ lead ≤ 256), moves := true,
      accepted := inState s .ready .loaded, needs := [Dom.RAST, Dom.GATH, Dom.OUT] }
    (startJob (some r.slot) lead) s

/-- JOB_START. -/
def execJobStart (r : Req) (startLead : Nat) (s : State) : Res := .next (jobStartCommand r startLead s)

/-- The command HOLD_REQUEST: it completes once the request is registered (R372). -/
def holdRequestCommand (r : Req) (s : State) : State :=
  runCommand r { op := 0x0204, len := 0, moves := true, accepted := modeIn s [.write, .hold] } (fun s =>
    let s := requestHostHold s
    complete r.slot .ok (leBytes 1 (if s.flow.mode = .hold then 1 else 0)) s) s

/-- HOLD_REQUEST. -/
def execHoldRequest (r : Req) (s : State) : Res := .next (holdRequestCommand r s)

/-- The earliest end of the slot in progress, or of the next one, moves to acceptance plus `ms` (R374). -/
def extendRecess (ms : Nat) (s : State) : State :=
  let p := match s.prog.recess with
    | some (a, e) => { s.prog with recess := some (a, max e (timeE s + ms * 1000000)) }
    | none => { s.prog with extendMs := max s.prog.extendMs ms }
  { s with prog := p }

/-- The command RECESS_EXTEND. -/
def recessExtendCommand (r : Req) (ms : Nat) (s : State) : State :=
  runCommand r
    { op := 0x0206, len := 4, inRange := decide (1 ≤ ms ∧ ms ≤ 60000),
      accepted := modeIn s [.write, .hold] && betweenStripes s }
    (fun s => complete r.slot .ok [] (extendRecess ms s)) s

/-- RECESS_EXTEND. -/
def execRecessExtend (r : Req) (ms : Nat) (s : State) : Res := .next (recessExtendCommand r ms s)

/-! ## Closing layers and jobs (R63 to R66) -/

/-- The open layer is the job's last. -/
def lastLayerOpen (s : State) : Bool :=
  match s.job with
  | some j => s.prog.closed + 1 == j.nlayer
  | none => false

/-- The Make-up stripes of a layer that have not started, as positions (R100). -/
def unstartedMakeups (s : State) (layer : Nat) : List Nat :=
  match s.job with
  | some j => (List.range j.stripes.length).filter fun i => decide (s.prog.cur ≤ i) &&
      (match j.stripes[i]? with | some e => e.makeup && e.layer == layer | none => false)
  | none => []

/-- The SEQ that follows the blocks of the stripes at `gone` (R100): after the last block of the headers where no other
stripe is still to be delivered, else a free value, for no header says how many blocks a stripe has (log entry 37). -/
def seqAfterRemoved (s : State) (j : Job) (gone : List Nat) : Nat :=
  let g := s.ingest
  if gone.all fun i => decide (i < g.curStripe) then g.nextSeq
  else if (List.range j.stripes.length).all fun i => decide (i < g.curStripe) || gone.contains i then max g.nextSeq j.seqEnd
  else g.nextSeq + freeNat s % (j.seqEnd - g.nextSeq + 1)

/-- A block in hand belongs to a stripe at `gone`: it was placed for it, or its header names it (log entry 37). -/
def Blk.ofStripes (j : Job) (gone : List Nat) (b : Blk) : Bool :=
  b.hdr.kind != 1 && gone.any fun i => if b.placed then b.stripeIdx == i else
    match j.stripes[i]? with | some e => e.layer == b.hdr.layer && e.stripe == b.hdr.stripe | none => false

/-- Ingest without the stripes at `gone`: their blocks are discarded, and the SEQ after theirs is expected (R100). -/
def Ingest.without (j : Job) (gone : List Nat) (next : Nat) (g : Ingest) : Ingest :=
  { g with
    nextSeq := next
    removed := gone.filterMap (fun i => (j.stripes[i]?).map fun e => (e.layer, e.stripe)) ++ g.removed
    geomFirst := if gone.contains g.curStripe then none else g.geomFirst
    abandoned := g.abandoned.filter fun i => !gone.contains i
    blocks := g.blocks.map fun b => if b.ofStripes j gone then { b with phase := .discarded, queueKib := 0, late := none } else b }

/-- The list without the stripes at `gone`. -/
def stripesWithout (gone : List Nat) (es : List StripeEntry) : List StripeEntry :=
  ((List.range es.length).filter fun i => !gone.contains i).filterMap fun i => es[i]?

/-- The stripes at `gone` leave the stripe list, and nothing is logged for them (R100). -/
def removeStripes (gone : List Nat) (s : State) : State :=
  match s.job with
  | none => s
  | some j =>
    if gone.isEmpty then s
    else
      let f := fun i => i - gone.countP fun k => decide (k < i)
      let next := seqAfterRemoved s j gone
      let s := gone.foldl (fun s i => dropStripe i s) (useFree s)
      let reopen := match s.win.stripeIdx with | some i => gone.contains i | none => false
      let g := s.ingest.without j gone next
      let s := { s with
        job := some { j with stripes := stripesWithout gone j.stripes }
        ingest := shiftIngest f (f g.curStripe) g
        cache := { s.cache with fences := s.cache.fences.map fun c => { c with upTo := c.upTo.map fun p => (f p.1, p.2) } }
        ras := shiftRaster f (f s.ras.stripeIdx) s.ras
        win := { s.win with stripeIdx := s.win.stripeIdx.map f } }
      ingestPump (leadSync (if reopen then openWindow s.prog.cur s else s))

/-- The open layer closes (R64): a recoat slot for the next, or the end of the last one at the next tick. -/
def closeLayer (slot : Fin 16) (waived : Nat) (s : State) : State :=
  let last := lastLayerOpen s
  let s := absSync { s with prog := { s.prog with closed := s.prog.closed + 1 } }
  if last then { s with flow := { s.flow with lastLayer := some (slot, waived) } }
  else complete slot .ok (leBytes 4 waived) (openRecess { s with flow := { s.flow with job := .recess } })

/-- The command LAYER_CLOSE. It is accepted in job state LAYER_OPEN, when no stripe of the layer is left started but not
ended (R62, R100). -/
def layerCloseCommand (r : Req) (layer flags : Nat) (s : State) : State :=
  runCommand r
    { op := 0x0207, len := 4, inRange := decide (flags ≤ 1) && (s.flow.job != .layerOpen || openLayer s == some layer),
      moves := lastLayerOpen s, accepted := modeIn s [.write, .hold] && s.flow.job == .layerOpen }
    (fun s =>
      let n := unreconciled s layer
      if flags = 0 ∧ n ≠ 0 then complete r.slot .unreconciled (leBytes 4 n) s
      else
        let (s, w) := if flags = 1 then forceLayer layer (removeStripes (unstartedMakeups s layer) s) else (s, 0)
        closeLayer r.slot w s) s

/-- LAYER_CLOSE. -/
def execLayerClose (r : Req) (layer flags : Nat) (s : State) : Res := .next (layerCloseCommand r layer flags s)

/-- The entries that refuse a JOB_CLOSE without FORCE: those of the open layer as they stand at acceptance, in a job of
more than one layer (R65). -/
def closeRefused (s : State) : Nat :=
  match s.job, openLayer s with
  | some j, some l => if 1 < j.nlayer then unreconciled s l else 0
  | _, _ => 0

/-- The command JOB_CLOSE. -/
def jobCloseCommand (r : Req) (flags : Nat) (s : State) : State :=
  runCommand r
    { op := 0x0208, len := 4, inRange := decide (flags ≤ 1), moves := true,
      accepted := (s.flow.mode == .write && betweenStripes s) || s.flow.mode == .hold || inState s .ready .done }
    (fun s =>
      if flags = 0 ∧ closeRefused s ≠ 0 then complete r.slot .unreconciled (leBytes 4 (closeRefused s)) s
      else effectEnding { s with flow := { s.flow with ending := some ⟨some r.slot, some (flags == 1), false⟩ } }) s

/-- JOB_CLOSE. -/
def execJobClose (r : Req) (flags : Nat) (s : State) : Res := .next (jobCloseCommand r flags s)

/-- A job abort: the stage stops at once (R304); the job ends at once where nothing can fire, and in Write at the point
of R43. -/
def abortJob (slot : Option (Fin 16)) (s : State) : State :=
  let s := stopStage { s with flow := { s.flow with ending := some ⟨slot, none, false⟩ } }
  if s.flow.mode = .write then askHold s else effectEnding s

/-- What a job still waits for is given up, and its command completes ABORTED (DESIGN CHOICE, log entry 39). -/
def dropTransitions (s : State) : State :=
  let f := s.flow
  let s := match f.resume with
    | .inStripe _ slot => completeOpt slot .aborted [] (fput Reg.OUT_STATUS_BLANK 1 { s with flow := { s.flow with resume := .none, mode := .hold } })
    | .atTick slot => completeOpt slot .aborted [] { s with flow := { s.flow with resume := .none } }
    | .none => s
  let s := match f.starting with
    | some slot => completeOpt slot .aborted [] { s with flow := { s.flow with starting := none } }
    | none => s
  match f.lastLayer with
  | some (slot, _) => complete slot .aborted [] { s with flow := { s.flow with lastLayer := none } }
  | none => s

/-- A held debug instruction has the module end its job and fill DRAM (R460), as soon as the Proctor can. -/
def debugDue (s : State) : State :=
  if !s.sec.debugHeld || s.sec.debugFill || s.flow.boot != .over || resting s || s.flow.restart.isSome ||
    s.flow.restartReq || s.flow.ending.isSome then s
  else if s.job.isSome then abortJob none (dropTransitions s)
  else debugFill s

/-- The command JOB_ABORT. -/
def jobAbortCommand (r : Req) (s : State) : State :=
  runCommand r
    { op := 0x0209, len := 0, moves := true,
      accepted := modeIn s [.write, .hold] || inState s .ready .loaded || inState s .ready .done }
    (abortJob (some r.slot)) s

/-- JOB_ABORT. -/
def execJobAbort (r : Req) (s : State) : Res := .next (jobAbortCommand r s)

/-! ## Reject records and cells (R103, R123 to R125) -/

/-- A reject record as REJECT_READ returns it. -/
def Reject.bytes (x : Reject) : List Byte :=
  leBytes 8 x.seq ++ leBytes 1 x.cause ++ leBytes 3 0 ++ leBytes 4 x.offset

/-- The payload of REJECT_READ from record `first`, 0 the newest. -/
def rejectBytes (s : State) (first : Nat) : List Byte :=
  let held := s.ingest.rejects.length
  let rs := (s.ingest.rejects.drop first).take 12
  leBytes 4 s.ingest.duplicates ++ leBytes 4 s.ingest.outOfSeq ++ leBytes 1 held ++ leBytes 1 rs.length ++ leBytes 6 0 ++
    rs.flatMap Reject.bytes

/-- The command REJECT_READ. -/
def rejectReadCommand (r : Req) (first : Nat) (s : State) : State :=
  runCommand r { op := 0x020A, len := 4, inRange := decide (first ≤ 15), accepted := rwhs s }
    (fun s => complete r.slot .ok (rejectBytes s first) s) s

/-- REJECT_READ. -/
def execRejectRead (r : Req) (first : Nat) (s : State) : Res := .next (rejectReadCommand r first s)

/-- The pairs of a named cell and a cell not named that places it (R124). -/
def placedPairs (s : State) (ids : List Nat) : List (Nat × Nat) :=
  let uids := ids.filterMap fun id => (lookupCell s id).map (·.uid)
  s.cache.dir.flatMap fun e =>
    if ids.contains e.1 then []
    else match e.2.bind (cellOf s.cache.cells) with
      | some c => (c.places.filter fun p => uids.contains p.2).map fun p => (p.1, e.1)
      | none => []

/-- The eviction of `ids`, of which `named` CELL_IDs were named: all or none (R123, R124). Where several pairs refuse it,
the one reported is free. -/
def evictNamed (slot : Fin 16) (ids : List Nat) (named : Nat) (s : State) : State :=
  if evictBlocked s ids then
    let ps := placedPairs s ids
    let p := ps.getD (freeNat s % ps.length) (0, 0)
    complete slot .cellInUse (leBytes 4 p.1 ++ leBytes 4 p.2) (useFree s)
  else
    let gone := (s.cache.dir.filter fun e => ids.contains e.1).length
    let s := evictCells ids s
    complete slot .ok (leBytes 4 gone ++ leBytes 4 (named - gone) ++ leBytes 4 (granulesPending s)) s

/-- The command CELL_EVICT: a list (FORM 0) or a range (FORM 1). A range with FIRST above LAST names no cell, and a CELL_ID listed
twice counts once: DESIGN CHOICES (log entries 159 and 160). -/
def cellEvictCommand (r : Req) (form n : Nat) (ids : List Nat) (first last : Nat) (s : State) : State :=
  runCommand r
    { op := 0x020B, len := if form = 0 then 4 + 4 * n else 12,
      inRange := if form = 0 then decide (1 ≤ n ∧ n ≤ 53) && ids.length == n else form == 1 && n == 0,
      accepted := inState s .ready .loaded || modeIn s [.write, .hold], needs := [Dom.RAST] }
    (fun s =>
      if form = 0 then evictNamed r.slot ids.eraseDups ids.eraseDups.length s
      else
        let inRange := (s.cache.dir.map (·.1)).filter fun id => decide (first ≤ id ∧ id ≤ last)
        evictNamed r.slot inRange (last + 1 - first) s) s

/-- CELL_EVICT. -/
def execCellEvict (r : Req) (form n : Nat) (ids : List Nat) (first last : Nat) (s : State) : Res :=
  .next (cellEvictCommand r form n ids first last s)

/-- Registers from `k` on, read in offset order. -/
def registersFrom (k n : Nat) : List Nat := (List.range n).map fun i => k + 4 * i

/-- Complete a command with the registers it reads. -/
def completeWords (slot : Fin 16) (ks : List Nat) (s : State) : State :=
  let p := readRegs ks s
  complete slot .ok (wordBytes p.2) p.1

/-- The command CACHE_STATUS. -/
def cacheStatusCommand (r : Req) (s : State) : State :=
  runCommand r { op := 0x020C, len := 0, accepted := rwhs s, needs := [Dom.RAST] }
    (completeWords r.slot (registersFrom Reg.SKV_GUARD 12)) s

/-- CACHE_STATUS. -/
def execCacheStatus (r : Req) (s : State) : Res := .next (cacheStatusCommand r s)

/-! ## The Absence Log (R275) -/

/-- ABS_HEAD − ABS_TAIL, and an index as its distance from ABS_TAIL, modulo 2^32. -/
def absIndex (s : State) (i : Nat) : Nat := (2 ^ 32 + i - fget s Reg.ABS_TAIL_INDEX) % 2 ^ 32

/-- The 32 bytes of the slot of an index; a slot whose memory has been zeroed reads zero. -/
def absSlot (s : State) (i : Nat) : List Byte :=
  match s.abs.ring.lookup (i % 2 ^ 32) with
  | some e => e.bytes
  | none => List.replicate 32 0

/-- The LOG port reads the entry of an index. Table 13-2 sends the answer to a bus error to the command reference, which
gives none: such an entry's bytes are free values, and so are those that a zeroized memory key leaves unreadable (R462;
log entry 148). -/
def absFetch (i : Nat) (s : State) : State × List Byte :=
  let a := absAddr i
  let lost := rangeBad s a 32 || keyless s a
  let s := readUnits Port.log a 32 s
  if lost then ({ s with free := s.free + 32 }, (List.range 32).map fun k => BitVec.ofNat 8 (Config.freeValue (s.free + k)))
  else (s, absSlot s i)

/-- `n` entries from an index, in order. -/
def absEntries : Nat → Nat → State → State × List Byte
  | _, 0, s => (s, [])
  | first, n + 1, s =>
    let q := absFetch first s
    let r := absEntries (first + 1) n q.1
    (r.1, q.2 ++ r.2)

/-- The command ABS_READ. -/
def absReadCommand (r : Req) (first cnt : Nat) (s : State) : State :=
  runCommand r
    { op := 0x020D, len := 8, inRange := decide (1 ≤ cnt ∧ cnt ≤ 6), accepted := rwhs s, needs := [Dom.MEM],
      reach := decide (absIndex s first < absUsed s) }
    (fun s =>
      let n := min cnt (absUsed s - absIndex s first)
      let p := absEntries first n s
      complete r.slot .ok (leBytes 4 first ++ leBytes 1 n ++ leBytes 3 0 ++ p.2) p.1) s

/-- ABS_READ. -/
def execAbsRead (r : Req) (first count : Nat) (s : State) : Res := .next (absReadCommand r first count s)

/-- The command ABS_ACK. -/
def absAckCommand (r : Req) (newTail : Nat) (s : State) : State :=
  runCommand r
    { op := 0x020E, len := 4, accepted := rwhs s, needs := [Dom.MEM], reach := decide (absIndex s newTail ≤ absUsed s) }
    (fun s =>
      let s := ackWalk (absIndex s newTail) s
      let tail := fget s Reg.ABS_TAIL_INDEX
      complete r.slot .ok (leBytes 4 tail) (absSync (absFlush s))) s

/-- ABS_ACK. -/
def execAbsAck (r : Req) (newTail : Nat) (s : State) : Res := .next (absAckCommand r newTail s)

/-- The command ABS_STATUS. -/
def absStatusCommand (r : Req) (s : State) : State :=
  runCommand r { op := 0x020F, len := 0, accepted := rwhs s, needs := [Dom.MEM] }
    (completeWords r.slot (registersFrom Reg.ABS_CFG 10 ++ registersFrom (Reg.ABS_ENTRIES 1) 13)) s

/-- ABS_STATUS. -/
def execAbsStatus (r : Req) (s : State) : Res := .next (absStatusCommand r s)

end Sys2Proof.Machine
end

