-- ==== Sys2Proof/Machine/BeamCmd.lean ====
section
/-!
DEFINITION. The commands that load, edit and report the Beam Table (Table 15-4, R375 to R377). The commands of checks and
calibration stand in BeamHealth.lean.
-/

namespace Sys2Proof.Machine

/-! ## BEAM_TABLE_LOAD -/

/-- The table that the 2 MiB of the input buffer spell: one entry of 8 bytes for each beam. -/
def tableOf (h : List Byte) : BeamTable :=
  (List.range nBeams).foldl (fun t b => putEntry t b (BitVec.ofNat 64 (leAt h (8 * b) 8))) []

/-- The failure payload: BEAM, RULE, CSET. -/
def TableFault.bytes (f : TableFault) : List Byte := leBytes 4 f.beam ++ leBytes 1 f.rule ++ [0] ++ leBytes 2 f.cset

/-- Entries of the table with a status. -/
def withCode (t : BeamTable) (st : Nat) : Nat := ((List.range nBeams).filter fun b => entStatus (entry t b) == st).length

/-- The largest ERR of the summaries. -/
def errMax (m : List (Nat × Word)) : Nat := m.foldl (fun a p => max a (sumErr p.2)) 0

/-- The completion of a load: LIVE, WEAK, RETIRED, STUCK, ERR_MAX. -/
def tableBytes (t : BeamTable) (m : List (Nat × Word)) : List Byte :=
  leBytes 4 (withCode t 0) ++ leBytes 4 (withCode t 1) ++ leBytes 4 (withCode t 2) ++ leBytes 4 (withCode t 3) ++
  leBytes 2 (errMax m) ++ [0, 0]

/-- Beams whose entry differs between two tables. -/
def differing (t u : BeamTable) : List Nat := (List.range nBeams).filter fun b => entry t b != entry u b

/-- A table and its summaries replace those in force, after every apply that waits (R376; log entry 133); a record is
kept for each beam whose entry changes (R377). -/
def loadTable (t : BeamTable) (m : List (Nat × Word)) (s : State) : State :=
  let s := applyAll s
  let n := s.beams.nextHist
  let s := (differing s.beams.table t).foldl (fun s b => changeEntry 0xFFFFFFFF b (entry t b) s) s
  let s := { s with beams := { s.beams with table := t, summary := m } }
  stuckRelease (beamCounts (closeHistory n (writeSram (entryWord 0) nBeams (writeSram (sumWord 0) nSets s))))

/-- A table of which a fault was found, or none, is refused or loaded. -/
def tableLoadEnd (slot : Fin 16) (t : BeamTable) (f : Option TableFault) (s : State) : State :=
  match f with
  | some f => complete slot .tableInadmissible f.bytes s
  | none => complete slot .ok (tableBytes t (allSummaries t)) (loadTable t (allSummaries t) s)

/-- The bytes of a Beam Table, read: its checks, and its effect. -/
def tableLoadWith (slot : Fin 16) (h : List Byte) (s : State) : State :=
  tableLoadEnd slot (tableOf h) (tableFault (tableOf h)) s

/-- The command BEAM_TABLE_LOAD. -/
def beamTableLoadCommand (r : Req) (off len : Nat) (s : State) : State :=
  runCommand r
    { op := 0x0301, len := 8, inRange := bufferAligned off && len == 2097152, accepted := readyNoneOrService s,
      needs := [Dom.MEM], reach := bufferReach off len }
    (withBuffer off len (tableLoadWith r.slot)) s

/-- BEAM_TABLE_LOAD. -/
def execBeamTableLoad (r : Req) (offset len : Nat) (s : State) : Res := .next (beamTableLoadCommand r offset len s)

/-! ## BEAM_SET (R376) -/

/-- The table with the entries written. -/
def putEntries (t : BeamTable) (es : List (Nat × DWord)) : BeamTable := es.foldl (fun t p => putEntry t p.1 p.2) t

/-- The cover sets that the entries leave or join, the last one written last. -/
def touchedSets (t : BeamTable) (es : List (Nat × DWord)) : List Int :=
  ((es.map fun p => entSet (entry t p.1)) ++ es.map fun p => entSet p.2).reverse.eraseDups.reverse

/-- The entries lie in one cover set and move no beam to another (R14). -/
def oneSet (t : BeamTable) (es : List (Nat × DWord)) : Bool :=
  es.all fun p => entSet p.2 == entSet (entry t p.1) && entSet p.2 == entSet (es.headD p).2

/-- The table that a BEAM_SET asks for, with the ranks of R16. -/
def editedTable (t : BeamTable) (es : List (Nat × DWord)) : BeamTable :=
  (touchedSets t es).foldl rerank (putEntries t es)

/-- The position at which a beam of a calibration batch is being measured: its check Bells have begun, and it has not been
judged. -/
def measuredAt (b : Batch) (x : Nat) : Option Nat :=
  if b.step ≠ .cal then none
  else (List.range b.plan.length).find? fun k =>
    b.plan[k]? == some x && !b.judged.contains k && decide (((b.samp + k * (b.settle + b.samp) : Nat) : Int) ≤ b.i)

/-- The measurement of a beam whose entry is changed is discarded and made again at the end of the batch (R263). -/
def remeasure (es : List (Nat × DWord)) (s : State) : State :=
  es.foldl (fun s p => updBatch (fun b => match measuredAt b p.1 with
    | some k => { b with judged := k :: b.judged, redo := b.redo ++ [p.1] }
    | none => b) s) s

/-- The summary words of cover sets, as a table gives them. -/
def writeSummaries (t : BeamTable) (xs : List Int) (s : State) : State :=
  xs.foldl (fun s x => writeSummary x.toNat (summaryOf t x) s) s

/-- In Ready and Service the edit takes effect at once, after every apply that waits (R376; log entry 133). -/
def setAtOnce (slot : Fin 16) (es : List (Nat × DWord)) (s : State) : State :=
  let s := applyAll s
  let t := editedTable s.beams.table es
  let xs := touchedSets s.beams.table es
  let last := xs.getLastD 0
  let changed := ((differing s.beams.table t) ++ es.map (·.1)).eraseDups.map fun b => (b, entry t b)
  let s := applyEntries none last.toNat (summaryOf t last) changed (writeSummaries t xs s)
  let s := remeasure es s
  complete slot .ok (beamSetBytes s last.toNat 0xFFFFFFFF) s

/-- The table against which a BEAM_SET is checked: with every change firmware has made before it (R376). -/
def tableForSet (s : State) : BeamTable := tableAhead s

/-- The command BEAM_SET: in Write and Hold it completes at the apply. -/
def beamSetCommand (r : Req) (es : List (Nat × DWord)) (s : State) : State :=
  runCommand r
    { op := 0x0302, len := 4 + 12 * es.length
      inRange := decide (1 ≤ es.length ∧ es.length ≤ 16) && es.all (fun p => entRank p.2 == 0) &&
        (!modeIn s [.write, .hold] || oneSet (tableAhead s) es)
      accepted := rwhs s, reach := es.all fun p => decide (p.1 < nBeams) } (fun s =>
    if !admissible (editedTable (tableForSet s) es) then complete r.slot .tableInadmissible [] s
    else if modeIn s [.write, .hold] then queueApply (entSet (es.headD (0, 0)).2).toNat es (some r.slot) (remeasure es s)
    else setAtOnce r.slot es s) s

/-- BEAM_SET. -/
def execBeamSet (r : Req) (entries : List (Nat × DWord)) (s : State) : Res := .next (beamSetCommand r entries s)

/-! ## BEAM_REPORT (R377) -/

/-- The registers of KIND 0. -/
def reportRegs : List Nat := registersFrom Reg.BHM_CFG 14

/-- Bytes that are on record, or free ones where there is no record yet (DESIGN CHOICE, log entry 40). -/
def orFree (n : Nat) (v : Option (List Byte)) (s : State) : State × List Byte :=
  match v with
  | some bs => (s, bs)
  | none => (useFree s, leBytes n (freeNat s))

/-- KIND 1: one beam's entry, its last SCAN pass and its last status change. -/
def reportBeam (slot : Fin 16) (b : Nat) (s : State) : State :=
  let pass := (s.beams.lastPass.find? fun p => p.1 == b).map fun p => leBytes 2 p.2.1 ++ leBytes 2 p.2.2
  let change := (s.beams.lastChange.find? fun p => p.1 == b).map fun p =>
    leBytes 2 p.2.1 ++ leBytes 2 p.2.2.1 ++ leBytes 4 p.2.2.2
  let p := orFree 4 pass s
  let q := orFree 8 change p.1
  complete slot .ok (leBytes 8 (entry s.beams.table b).toNat ++ p.2 ++ q.2) q.1

/-- A record of the history. -/
def History.bytes (h : History) : List Byte :=
  leBytes 2 h.layer ++ leBytes 2 h.stripe ++ leBytes 4 h.shot ++
  leBytes 4 (h.beam + 2 ^ 18 * h.oldStatus + 2 ^ 20 * h.newStatus + 2 ^ 22 * h.live) ++ leBytes 2 h.gNew ++ [0, 0]

/-- The records from an index on, at most 13. -/
def historyFrom (s : State) (i : Nat) : List History :=
  (List.range (min 13 (s.beams.nextHist - i))).filterMap fun j => s.beams.history[s.beams.nextHist - 1 - (i + j)]?

/-- KIND 2: the history. -/
def reportHistory (slot : Fin 16) (i : Nat) (s : State) : State :=
  let hs := historyFrom s i
  complete slot .ok (leBytes 4 s.beams.nextHist ++ leBytes 1 hs.length ++ [0, 0, 0] ++ hs.flatMap History.bytes) s

/-- ARG lies within reach: a beam's index, or an index that the history still holds. -/
def reportReach (s : State) (kind arg : Nat) : Bool :=
  match kind with
  | 1 => decide (arg < nBeams)
  | 2 => decide (s.beams.nextHist ≤ arg + 65536)
  | _ => true

/-- The command BEAM_REPORT. -/
def beamReportCommand (r : Req) (kind arg : Nat) (s : State) : State :=
  runCommand r
    { op := 0x0307, len := 8, inRange := decide (kind ≤ 2), accepted := rwhs s,
      needs := if kind = 0 then [Dom.GATH] else [], reach := reportReach s kind arg } (fun s =>
    match kind with
    | 0 => completeWords r.slot reportRegs s
    | 1 => reportBeam r.slot arg s
    | _ => reportHistory r.slot arg s) s

/-- BEAM_REPORT. -/
def execBeamReport (r : Req) (kind arg : Nat) (s : State) : Res := .next (beamReportCommand r kind arg s)

end Sys2Proof.Machine
end

