-- ==== Sys2Proof/Machine/Boot.lean ====
section
/-!
DEFINITION. Power-on reset and MRST_L, the release of a reset, the fills of DRAM and what waits for one, Service, the
built-in self-tests (R46 to R50, R310, R336, R477 to R479, R507 to R510; Tables 20-6, 20-8, 22-2).
-/

namespace Sys2Proof.Machine

/-! ## POR and MRST_L (R477, R478, Table 20-8) -/

/-- What both resets keep: fuses, flash, derived identity, the pins, the commands waiting, and the count of free values. -/
def keptBase (s : State) : State :=
  { State.reset with
    pending := s.pending, free := s.free
    hbm := { State.reset.hbm with storedOrder := s.hbm.storedOrder }
    ecc := { State.reset.ecc with memKey := s.ecc.memKey }
    sec := { State.reset.sec with order := s.sec.order, rootKey := s.sec.rootKey, slotA := s.sec.slotA, slotB := s.sec.slotB
                                  newestB := s.sec.newestB, runningB := s.sec.runningB, helper := s.sec.helper
                                  identity := s.sec.helper, wrap := s.sec.helper, hashLoaded := s.sec.helper }
    mon := { State.reset.mon with gpioIn := s.mon.gpioIn }
    pwr := { State.reset.pwr with raising := 0 }
    flow := { State.reset.flow with boot := .held } }

/-- The fields that fuses hold. -/
def keptFields : List Field := [Reg.SEC_STATUS_LIFECYCLE, Reg.SEC_STATUS_ROOT_KEY, Reg.SEC_ROLLBACK_COUNTER]

/-- The state in which a reset holds the module. -/
def resetHeld (s : State) : State := keptFields.foldl (fun t f => fput f (fget s f) t) (keptBase s)

/-- Put the cause of a reset (R477). -/
def putCause (por brownout mrst retention : Nat) (s : State) : State :=
  fput Reg.PWR_RESET_CAUSE_POR por (fput Reg.PWR_RESET_CAUSE_BROWNOUT brownout
    (fput Reg.PWR_RESET_CAUSE_MRST mrst (fput Reg.PWR_RESET_CAUSE_RETENTION retention s)))

/-- Power-on reset. -/
def powerOnReset (c : PorCause) (s : State) : State :=
  match c with
  | .powerApplied => putCause 1 0 0 0 (resetHeld s)
  | .brownout => putCause 0 1 0 0 (resetHeld s)

/-- POWER_ON_RESET. -/
def execPowerOnReset (cause : PorCause) (s : State) : Res := .next (powerOnReset cause s)

/-- A POR holds the module. -/
def heldByPor (s : State) : Bool :=
  s.flow.boot == .held && (fbit s Reg.PWR_RESET_CAUSE_POR || fbit s Reg.PWR_RESET_CAUSE_BROWNOUT)

/-- The AON monitors go on through MRST_L: PWR_VIN keeps the last sample since POR (Table 20-11), and what stands below its warning
goes on standing below it (R480 to R482). -/
def supplyStands (s t : State) : State :=
  let t := fput Reg.PWR_VIN_MV (fget s Reg.PWR_VIN_MV) (fput Reg.PWR_RAIL_WARN_RAILS (fget s Reg.PWR_RAIL_WARN_RAILS) t)
  let t := fput Reg.PWR_STATUS_WARN (fget s Reg.PWR_STATUS_WARN) (fput Reg.PWR_STATUS_RECOVERING (fget s Reg.PWR_STATUS_RECOVERING) t)
  { t with out := { t.out with supply := s.out.supply && fbit s Reg.PWR_STATUS_WARN } }

/-- The MRST_L reset: as POR, with HBM_MAP_CFG kept, and what stands until the next POR: DEBUG_OPEN (R460) and the count of
attestations (R380; DEDUCED, log entry 154). -/
def mrstReset (retention : Bool) (s : State) : State :=
  putCause 0 0 (if retention then 0 else 1) (if retention then 1 else 0)
    (rset Reg.HBM_MAP_CFG (rget s Reg.HBM_MAP_CFG) (fput Reg.SEC_STATUS_DEBUG_OPEN (fget s Reg.SEC_STATUS_DEBUG_OPEN)
      (supplyStands s { resetHeld s with sec := { (resetHeld s).sec with attests := s.sec.attests } })))

/-- MRST_L low for 1 µs: a POR in progress governs (R478). -/
def mrst (s : State) : State := if heldByPor s then s else mrstReset false s

/-- MRST. -/
def execMrst (s : State) : Res := .next (mrst s)

/-- A reset is released and Boot begins: the straps are sampled, the self-test and the SRAM fill are done, PROC and MEM
are raised, the Boot ROM has selected an image and the Proctor runs (R336, R459, R521). -/
def bootStart (straps : BitVec 2) (s : State) : State :=
  selectImage { s with flow := { s.flow with boot := .filling }, pwr := { s.pwr with raising := 12, straps := straps } }

/-- POR_RELEASE. -/
def porRelease (straps : BitVec 2) (s : State) : State := if heldByPor s then bootStart straps s else s

/-- POR_RELEASE. -/
def execPorRelease (slewSel : BitVec 2) (s : State) : Res := .next (porRelease slewSel s)

/-- MRST_L returns high. -/
def mrstRelease (straps : BitVec 2) (s : State) : State :=
  if s.flow.boot = .held ∧ heldByPor s = false then bootStart straps s else s

/-- MRST_RELEASE. -/
def execMrstRelease (slewSel : BitVec 2) (s : State) : Res := .next (mrstRelease slewSel s)

/-- The reset of Table 20-4, which releases itself: the straps are as they were. -/
def retentionReset (s : State) : State := bootStart s.pwr.straps (mrstReset true s)

/-! ## Service (R47, Table 2-2) -/

/-- The module leaves Service: checks end, and the outputs take their Ready state. -/
def leaveService (s : State) : State :=
  let s := stopChecks s
  let s := takeSpread { s with flow := { s.flow with mode := .ready, serviceExit := none } }
  let s := { s with mot := { s.mot with locate := false } }
  readyOutputs (disownStage s)

/-- The command SERVICE_ENTER. -/
def serviceEnterCommand (r : Req) (s : State) : State :=
  runCommand r { op := 0x0105, len := 0, moves := true, accepted := inState s .ready .none } (fun s =>
    complete r.slot .ok [] { s with flow := { s.flow with mode := .service }, health := { s.health with paused := false } }) s

/-- SERVICE_ENTER. -/
def execServiceEnter (r : Req) (s : State) : Res := .next (serviceEnterCommand r s)

/-- A BIST or a fill runs. -/
def testRuns (s : State) : Bool := s.mon.bist.isSome || s.hbm.fill == some true

/-- The command SERVICE_EXIT: it waits for a running BIST and its fill (Table 15-2). -/
def serviceExitCommand (r : Req) (s : State) : State :=
  runCommand r { op := 0x0106, len := 0, moves := true, accepted := s.flow.mode == .service } (fun s =>
    if testRuns s then { s with flow := { s.flow with serviceExit := some r.slot } }
    else complete r.slot .ok [] (leaveService s)) s

/-- SERVICE_EXIT. -/
def execServiceExit (r : Req) (s : State) : Res := .next (serviceExitCommand r s)

/-- A SERVICE_EXIT that waited completes once nothing runs. -/
def serviceExitDue (s : State) : State :=
  match s.flow.serviceExit with
  | some n => if testRuns s then s else complete n .ok [] (leaveService s)
  | none => s

/-! ## BIST (R507 to R510) -/

/-- Domains of a mask, PROC last (R507). -/
def bistOrder (m : BitVec 9) : List Nat := [3, 4, 5, 6, 7, 8, 2].filter fun d => m.getLsbD d

/-- A logic run starts: the diagnostics votes are cast, and the outputs are held in their state of Table 20-5. -/
def startLogic (m : BitVec 9) (s : State) : State :=
  let s := setVotes (bistOrder m) Client.diag true { s with mon := { s.mon with bist := some ⟨0, m, false⟩ } }
  exposeOff (stopChecks s)

/-- A memory run starts: everything it tests is emptied (R510). -/
def startMemory (s : State) : State :=
  let s := stopChecks { s with mon := { s.mon with bist := some ⟨1, 0, false⟩ } }
  let s := { s with
    beams := Beams.empty, abs := ⟨[], [], none, []⟩
    ingest := { s.ingest with rejects := [] } }
  let s := [Reg.GTH_BT_STATUS, Reg.ABS_HEAD, Reg.ABS_TAIL, Reg.ABS_STATUS, Reg.ABS_LOST_LS, Reg.ABS_LOST_SHOT].foldl (fun s k => rpor k s) s
  absSync (beamCounts s)

/-- A run starts (R508). -/
def startBist (kind : Nat) (m : BitVec 9) (s : State) : State :=
  let s := fput Reg.MON_BIST_STATUS_KIND kind (fput Reg.MON_BIST_STATUS_RUNNING 1 s)
  if kind = 0 then startLogic m s else startMemory s

/-- A domain has an expected signature in the image for HW_REV (R507). The manual lists none, so it is open. -/
def hasSignature (s : State) (d : Nat) : Bool := Config.bistSignature (if s.sec.runningB then 1 else 0) d

/-- A BIST starts, waits for the logic run in progress, or is refused (R508). -/
def bistRunWith (slot : Fin 16) (kind domains : Nat) (s : State) : State :=
  match s.mon.bist with
  | some b =>
    if b.kind = 0 ∧ b.filling = false then { s with mon := { s.mon with bistNext := some (kind, domains, slot) } }
    else complete slot .busy [] s
  | none =>
    if s.hbm.fill = some true then complete slot .busy [] s
    else if kind = 0 ∧ (bistOrder (BitVec.ofNat 9 domains)).all (hasSignature s) = false then complete slot .badParam [] s
    else complete slot .ok [] (startBist kind (BitVec.ofNat 9 domains) s)

/-- The command BIST_RUN. -/
def bistRunCommand (r : Req) (kind domains : Nat) (s : State) : State :=
  runCommand r
    { op := 0x0905, len := 8,
      inRange := (kind == 0 && decide (domains < 512) && domains % 4 == 0) || (kind == 1 && domains == 0),
      moves := kind == 1, accepted := s.flow.mode == .service, needs := if kind = 1 then [Dom.MEM] else [] }
    (bistRunWith r.slot kind domains) s

/-- BIST_RUN. -/
def execBistRun (r : Req) (kind domains : Nat) (s : State) : Res := .next (bistRunCommand r kind domains s)

/-- A run that waited for the one before it starts, and its command completes (R508). -/
def bistFollows (s : State) : State :=
  match s.mon.bistNext with
  | some (kind, domains, n) =>
    let s := { s with mon := { s.mon with bistNext := none } }
    if kind = 0 ∧ (bistOrder (BitVec.ofNat 9 domains)).all (hasSignature s) = false then complete n .badParam [] s
    else complete n .ok [] (startBist kind (BitVec.ofNat 9 domains) s)
  | none => s

/-- A tested domain takes its POR values and the values firmware holds for it (R507). -/
def renewDomain (d : Nat) (s : State) : State := if powered s d then restoreRegs d (dropContents d (dropRegs d s)) else s

/-- The events of a run's end (R508). -/
def bistReport (failed : Bool) (s : State) : State :=
  let s := raiseIf failed Ev.BIST_FAIL (raise Ev.BIST_DONE s)
  fput Reg.MON_BIST_STATUS_RUNNING 0 { s with mon := { s.mon with bist := none } }

/-- The result of a logic run stands in MON_BIST_STATUS and MON_BIST_MISR, and the domains it tested come up anew. -/
def logicResult (m bad : BitVec 9) (misr : DWord) (s : State) : State :=
  let s := fput Reg.MON_BIST_STATUS_TESTED m.toNat (fput Reg.MON_BIST_STATUS_FAILED bad.toNat s)
  ((bistOrder m).filter (· != 2)).foldl (fun s d => renewDomain d s)
    (if bad = 0 then s else rset64 Reg.MON_BIST_MISR_LO Reg.MON_BIST_MISR_HI misr.toNat s)

/-- A logic run ends (R507, R508). One that tested PROC is followed by a Proctor restart, after which it is reported. -/
def logicEnds (m failed : BitVec 9) (misr : DWord) (s : State) : State :=
  let bad := failed &&& m
  let s := logicResult m bad misr s
  if m.getLsbD 2 then startRestart .ready (notWatchdog { s with mon := { s.mon with bist := some ⟨0, m, true⟩ } })
  else serviceExitDue (bistFollows (setVotes (bistOrder m) Client.diag false (bistReport (bad != 0) s)))

/-- A march has failed: MEM_FAIL is set, and the first failing address held (R509). -/
def memFails (u : MemUnit) (s : State) : State :=
  let s := fput Reg.MON_BIST_STATUS_MEM_FAIL 1 s
  match u with
  | .dram a =>
    fput Reg.MON_BIST_FAIL_ADDR_LO_ADDR (a % 2 ^ 32) (fput Reg.MON_BIST_FAIL_ADDR_HI_ADDR (a / 2 ^ 32)
      (fput Reg.MON_BIST_FAIL_ADDR_HI_DRAM 1 (fput Reg.MON_BIST_FAIL_ADDR_HI_WHERE (pcnOf s a) s)))
  | .sram b o =>
    fput Reg.MON_BIST_FAIL_ADDR_LO_ADDR o (fput Reg.MON_BIST_FAIL_ADDR_HI_ADDR 0
      (fput Reg.MON_BIST_FAIL_ADDR_HI_DRAM 0 (fput Reg.MON_BIST_FAIL_ADDR_HI_WHERE b s)))

/-- A memory run ends: its result, and the fill (R509). -/
def memoryEnds (fail : Option MemUnit) (s : State) : State :=
  let s := match fail with
    | some u => memFails u s
    | none => fput Reg.MON_BIST_STATUS_MEM_FAIL 0 s
  let s := raiseIf fail.isSome Ev.BIST_FAIL (raise Ev.BIST_DONE s)
  startFill true { s with mon := { s.mon with bist := some ⟨1, 0, true⟩ } }

/-- BIST_COMPLETE. -/
def bistComplete (failed : BitVec 9) (misr : DWord) (memFail : Option MemUnit) (s : State) : State :=
  match s.mon.bist with
  | some b =>
    if b.filling then s
    else if b.kind = 0 then logicEnds b.domains failed misr s
    else memoryEnds memFail s
  | none => s

/-- BIST_COMPLETE. -/
def execBistComplete (failed : BitVec 9) (misr : DWord) (memFail : Option MemUnit) (s : State) : Res :=
  .next (bistComplete failed misr memFail s)

/-- The restart after a logic run of PROC is over: the run is reported (R507). -/
def bistAfterRestart (s : State) : State :=
  match s.mon.bist with
  | some b =>
    if b.kind = 0 ∧ b.filling = true ∧ s.flow.restart = none then
      setVotes (bistOrder b.domains) Client.diag false (bistReport (fget s Reg.MON_BIST_STATUS_FAILED != 0) s)
    else s
  | none => s

/-- PROCTOR_RESTART_END. -/
def proctorRestartEnd (s : State) : State := if s.flow.restart.isSome then debugDue (bistAfterRestart (restartEnd s)) else s

/-- PROCTOR_RESTART_END. -/
def execProctorRestartEnd (s : State) : Res := .next (proctorRestartEnd s)

/-! ## The fills (R336) -/

/-- The self-test of the checkers has passed, and training has come to step `n`, with what it mapped (R324, R336). -/
def bootTested (n : Nat) (spares : List (Nat × Nat)) (s : State) : State :=
  fput Reg.ECC_STATUS_SELFTEST_OK 1 (fput Reg.HBM_TRAIN_STATUS_STEP n
    { s with hbm := { s.hbm with spares := if 2 ≤ n then spares else [] } })

/-- What the status registers show of a failed Boot step: the checker, or the training step with its channel and lane
(R324, R336). -/
def bootFaultShows (f : BootFault) (spares : List (Nat × Nat)) (s : State) : State :=
  match f with
  | .selfTest c => fput Reg.ECC_STATUS_SELFTEST_FAIL c s
  | .march high off => memFails (.sram (if high then 91 else 90) off) s
  | .training n ch lane =>
    fput Reg.HBM_TRAIN_STATUS_FAIL 1 (fput Reg.HBM_TRAIN_STATUS_CHANNEL ch (fput Reg.HBM_TRAIN_STATUS_LANE lane (bootTested n spares s)))
  | .other trained => if trained then fput Reg.HBM_STATUS_TRAINED 1 (bootTested 7 spares s) else bootTested 0 spares s

/-- A Boot step up to the fill has failed (R48). -/
def bootStepFails (step : Nat) (f : BootFault) (spares : List (Nat × Nat)) (s : State) : State :=
  bootFails step (bootFaultShows f spares s)

/-- The DRAM address order of this Boot: the stored one after POR, the locked one later (R310). -/
def bootOrder (s : State) : State :=
  if fbit s Reg.HBM_MAP_CFG_LOCK then s
  else fput Reg.HBM_MAP_CFG_LOCK 1 (fput Reg.HBM_MAP_CFG_ORDER s.hbm.storedOrder s)

/-- Boot is over: every step has passed (R46, R47, R336). -/
def bootOver (spares : List (Nat × Nat)) (s : State) : State :=
  let s := fput Reg.ECC_STATUS_FILL_BUSY 0 (fillDram (bootOrder s))
  let s := fput Reg.HBM_STATUS_TRAINED 1 (bootTested 7 spares s)
  let s := fput Reg.CLK_STATUS_BELL 1 (fput Reg.CLK_STATUS_CORE 1 (fput Reg.CLK_STATUS_PROC 1 (fput Reg.CLK_STATUS_DRAM 1 s)))
  let s := { s with sec := { s.sec with debugFill := s.sec.debugHeld } }
  castVotes (recomputeDigest { s with flow := { s.flow with boot := .over, mode := .ready } })

/-- The fill of Boot ends. That it has run says that PROC and MEM are up (DEDUCED). -/
def bootFillEnds (fault : Option (Nat × BootFault)) (spares : List (Nat × Nat)) (s : State) : State :=
  let s := powerGood Dom.MEM (powerGood Dom.PROC s)
  match fault with
  | some (step, f) => bootStepFails step f spares s
  | none => if powered s Dom.MEM then bootOver spares s else s

/-- A fill outside Boot ends. After a memory BIST every unit of SRAM is valid again, and the module returns to Ready (R335,
R336, R509). -/
def laterFillEnds (s : State) : State :=
  let bist := s.hbm.fill == some true
  let s := fput Reg.ECC_STATUS_FILL_BUSY 0 { s with hbm := { s.hbm with fill := none } }
  if bist then
    let s := fillSram (fput Reg.MON_BIST_STATUS_RUNNING 0 { s with mon := { s.mon with bist := none } })
    let slot := s.flow.serviceExit
    let s := if s.flow.mode = .service then leaveService s else s
    completeOpt slot .ok [] s
  else serviceExitDue s

/-- DRAM_FILL_COMPLETE. -/
def dramFillComplete (fault : Option (Nat × BootFault)) (spares : List (Nat × Nat)) (s : State) : State :=
  if s.flow.boot = .filling then bootFillEnds fault spares s
  else if s.hbm.fill.isSome then laterFillEnds s
  else s

/-- DRAM_FILL_COMPLETE. -/
def execDramFillComplete (report : FillEnd) (s : State) : Res :=
  .next (dramFillComplete report.fault report.spares s)

end Sys2Proof.Machine
end

