-- ==== Sys2Proof/Machine/Supply.lean ====
section
/-!
DEFINITION. The supply and its events (R480 to R485, R498), the loss of a synthesiser's lock (R489, Table 21-2), the
links at J2 and J13, the die sensors (R503) and the diagnostics ring (R505, R506).
-/

namespace Sys2Proof.Machine

/-! ## VIN (R482 to R485) -/

/-- What a dip does in every mode but Rest: BLANK_ALL, the cut, the event, the end of a check run (R250), and the Hold of
AUTO_RESUME = 0. -/
def dipActs (t : Int) (s : State) : State :=
  let s := raise Ev.SUPPLY_WARN { s with out := { s.out with supply := true, supplyTo := none } }
  let s := endCheckRun s
  if fget s Reg.PWR_CFG_AUTO_RESUME = 0 ∧ (s.flow.mode = .write ∨ s.flow.mode = .hold) then holdAtOnce 3 .supplyWarn t s
  else assertCut .supplyWarn t s

/-- VIN falls below 10.4 V. In Rest the dip is counted and raised at the wake (R485). -/
def vinBelowWarning (t : Int) (s : State) : State :=
  if s.flow.boot = .held then s
  else
    let s := fcount Reg.PWR_DIP_COUNT_COUNT 1 (fput Reg.PWR_STATUS_WARN 1 (fput Reg.PWR_STATUS_RECOVERING 0 s))
    if s.flow.mode = .rest then { s with pwr := { s.pwr with rest := { s.pwr.rest with dip := true } } }
    else dipActs t s

/-- VIN_BELOW_WARNING. -/
def execVinBelowWarning (t : Nat) (s : State) : Res := .next (vinBelowWarning t s)

/-- The Bell interval in progress, by the shot of its Bell (R484). -/
def bellShot (s : State) : Option Int :=
  match s.armed with
  | some a => if a.tPrev.isSome then a.slots.head?.map (· - 1) else none
  | none => none

/-- VIN has stayed at or above 10.6 V for 200 µs (R483, R484). -/
def supplyRecovery (s : State) : State :=
  if s.flow.boot = .held ∨ fbit s Reg.PWR_STATUS_WARN = false then s
  else
    let s := clearCause 3 (fput Reg.PWR_STATUS_WARN 0 (fput Reg.PWR_STATUS_RECOVERING 0 s))
    let s := { s with out := { s.out with supply := false } }
    if fget s Reg.PWR_CFG_AUTO_RESUME = 1 ∧ s.flow.mode = .write ∧ s.armed.isSome then
      let upTo := match bellShot s with
        | some j => some (j + 2)
        | none => none
      raise Ev.AUTO_RESUME { s with out := { s.out with supplyTo := upTo } }
    else s

/-- SUPPLY_RECOVERY. -/
def execSupplyRecovery (s : State) : Res := .next (supplyRecovery s)

/-- VIN beyond the highest that Table 23-5 allows for any time. -/
def vinBeyond (mv : Nat) : Bool := decide (18000 < mv)

/-- VIN reaches 10.6 V, or falls below it without reaching 10.4 V: the timer of R483 starts, or stops until it is
reached again. -/
def vinCrossing (mv : Nat) (s : State) : State :=
  if s.flow.boot = .held ∨ fbit s Reg.PWR_STATUS_WARN = false then s
  else fput Reg.PWR_STATUS_RECOVERING (if 10600 ≤ mv then 1 else 0) s

/-- VIN_RECOVERY_CROSSING. -/
def execVinRecoveryCrossing (mv : Nat) (s : State) : Res :=
  if vinBeyond mv then .fault .absoluteMaximum else .next (vinCrossing mv s)

/-! ## The rails (R481, R498) -/

/-- An internal rail falls below its warning. -/
def railBelow (r : Nat) (s : State) : State :=
  if s.flow.boot = .held then s else raise Ev.RAIL_WARN (fputBit Reg.PWR_RAIL_WARN_RAILS r true s)

/-- RAIL_BELOW_WARNING. -/
def execRailBelowWarning (rail : Fin 8) (s : State) : Res := .next (railBelow rail.val s)

/-- RAIL_RECOVERY. -/
def execRailRecovery (rail : Fin 8) (s : State) : Res := .next (fputBit Reg.PWR_RAIL_WARN_RAILS rail.val false s)

/-- A sample of VIN and of the rails, in the order of Table 20-9. None is taken before the release of POR (Table 20-11). -/
def railSample (mv : List Nat) (s : State) : State :=
  if s.flow.boot = .held then s
  else
    let mv := mv.zipIdx.map fun p => railReading s p.2 p.1
    let s := match mv with
      | v :: _ => fmin Reg.PWR_VIN_MIN_MV v (fputSat Reg.PWR_VIN_MV v s)
      | [] => s
    (mv.take 9).zipIdx.foldl (fun s p => sample (Src.rail p.2) [p.1] s) s

/-- RAIL_SAMPLE. -/
def execRailSample (mv : List Nat) (s : State) : Res :=
  if vinBeyond (mv.headD 0) then .fault .absoluteMaximum else .next (railSample mv s)

/-! ## Synthesisers (R489, Table 21-2) -/

/-- The CLK_STATUS bits of a synthesiser; those of all of them for the oscillator. -/
def synthBits : Synth → List Nat
  | .bell => [0] | .core => [1] | .proctor => [2] | .dram => [3] | .optical => [4] | .port => [5]
  | .reference => [0, 1, 2, 3, 4, 5]

/-- The lock bit of a synthesiser. -/
def clkBit (n : Nat) : Field := ⟨Reg.CLK_STATUS, n, n⟩

/-- Every engine reports its serializer's loss of lock: LINK_LOSS (R234). -/
def opticsUnlock (s : State) : State :=
  if powered s Dom.OUT then
    declareLinkLoss (stepsNow s) (rset Reg.OUT_TX_FAULT_LO 0xFFFFFFFF (rset Reg.OUT_TX_FAULT_HI 0xFFFFFFFF s))
  else s

/-- The SFP+ link changes state (Table 14-9). -/
def ethLink (up : Bool) (s : State) : State :=
  if powered s Dom.ETH ∧ s.tim.ethUp ≠ up then raise Ev.ETH_LINK { s with tim := { s.tim with ethUp := up } } else s

/-- ETH_LINK_CHANGE. -/
def execEthLinkChange (up : Bool) (s : State) : Res := .next (ethLink up s)

/-- Both cohort ports and J13 go down. -/
def portsDown (s : State) : State :=
  let s := fput Reg.COH_LANES_EAST 0 (fput Reg.COH_LANES_WEST 0 s)
  ethLink false (setHeard .west false (setHeard .east false s))

/-- The response of Table 21-2 to the loss of one lock. -/
def unlockActs (n : Nat) (s : State) : State :=
  if n ≤ 3 then requestHold 0 s else if n = 4 then opticsUnlock s else portsDown s

/-- A synthesiser loses its lock. -/
def unlockOne (s : State) (n : Nat) : State :=
  if fbit s (clkBit n) then
    unlockActs n (raise Ev.CLK_UNLOCK (fcount Reg.CLK_UNLOCK_COUNT_COUNT 1 (fput (clkBit n) 0 s)))
  else s

/-- PLL_UNLOCK. -/
def execPllUnlock (p : Synth) (s : State) : Res := .next ((synthBits p).foldl unlockOne s)

/-- The engines report no PLL unlock any more: the bits of lanes with no alarm of their own clear (R234). -/
def opticsRelock (s : State) : State :=
  (List.range 64).foldl (fun s l => putLanesBit Reg.OUT_TX_FAULT_LO Reg.OUT_TX_FAULT_HI l (laneState s l).alarm s) s

/-- A synthesiser is in lock: its bit is set; the Hold cause of the clocks ends with the last of them, and the engines
of the optical reference report no PLL unlock (Table 21-2). -/
def relockOne (s : State) (n : Nat) : State :=
  let s := fput (clkBit n) 1 s
  if n = 4 then opticsRelock s
  else if n ≤ 3 ∧ holdClocksLocked s ∧ !s.flow.hostHold then clearCause 0 s
  else s

/-- PLL_RELOCK: a locked synthesiser stays as it is. -/
def execPllRelock (p : Synth) (s : State) : Res :=
  .next (((synthBits p).filter fun n => !fbit s (clkBit n)).foldl relockOne s)

/-! ## The PCIe link (R342, Table 14-9) -/

/-- The link has trained, and the host has configured the endpoint. -/
def pcieUp (link : PcieTraining) (width : PcieWidth) (s : State) : State :=
  let bad : Bool := link.rate != .gt32 || width != .x8
  raiseIf (bad && !s.dma.degraded) Ev.PCIE_DEGRADED { s with
    dma := { s.dma with degraded := bad }
    host := { s.host with rate := some link.rate, width := some width
                          payload := 128 * 2 ^ link.payload.val, readRequest := 128 * 2 ^ link.readRequest.val } }

/-- PCIE_LINK_UP. -/
def execPcieLinkUp (link : PcieTraining) (width : PcieWidth) (s : State) : Res := .next (pcieUp link width s)

/-! ## Die sensors (R503) -/

/-- THERMAL_WARN and THERMAL_TRIP after a reading of the die (R503). -/
def tempLimits (warn trip : Bool) (s : State) : State :=
  let wasWarn := s.mon.warn
  let wasTrip := s.mon.trip
  let s := raiseIf (warn && !wasWarn) Ev.THERMAL_WARN { s with mon := { s.mon with warn := warn, trip := trip } }
  if trip && !wasTrip then requestHold 12 (raise Ev.THERMAL_TRIP s)
  else if !trip && wasTrip then clearCause 12 s
  else s

/-- The readings reach the probes. -/
def dieSamples (ts : List Int) (s : State) : State :=
  (ts.take 12).zipIdx.foldl (fun s p => sample (Src.dieTemp p.2) [p.1] s) s

/-- A reading reaches the warning limit, with its hysteresis of 2 °C. -/
def dieWarns (ts : List Int) (s : State) : Bool :=
  let at' : Int := (8 * fget s Reg.MON_TEMP_WARN : Nat)
  if s.mon.warn then ts.any fun t => decide (at' - 16 ≤ t) else ts.any fun t => decide (at' ≤ t)

/-- A reading reaches the trip limit, with its hysteresis of 5 °C. -/
def dieTrips (ts : List Int) (s : State) : Bool :=
  let at' : Int := (8 * actTrip s : Nat)
  if s.mon.trip then ts.any fun t => decide (at' - 40 ≤ t) else ts.any fun t => decide (at' ≤ t)

/-- The readings of the sensors, each in 0.125 °C: the warning and the trip, and the probes. In Rest, with the Proctor off, none
is read until a wake. -/
def dieTemps (ts : List Int) (s : State) : State :=
  if s.flow.boot = .held ∨ (s.flow.mode = .rest ∧ s.pwr.rest.stage = 0 ∧ !s.pwr.rest.waking) then s
  else
    let ts := ts.zipIdx.map fun p => sensorReading s p.2 125 p.1
    let s := dieSamples ts s
    tempLimits (dieWarns ts s) (dieTrips ts s) s

/-- DIE_TEMP_READ. -/
def execDieTempRead (temps : List Int) (s : State) : Res := .next (dieTemps temps s)

/-! ## The diagnostics ring (R505, R506) -/

/-- The 32-byte head of a snapshot. -/
def snapHead (s : State) : List Byte :=
  let p := corePage s
  [0x44, 0x4D, 0x44, 0x53] ++ leBytes 4 s.mon.snapIndex ++ leBytes 6 p.timeS ++ leBytes 4 p.timeNs ++ leBytes 1 p.mode ++
  leBytes 1 p.job ++ leBytes 2 p.layer ++ leBytes 2 p.stripe ++ leBytes 4 p.shot.toNat ++ leBytes 4 0

/-- One probe's part of a snapshot: 148 bytes. -/
def snapProbe (s : State) (p : Nat) : List Byte :=
  leBytes 2 (fget s (Reg.MON_PROBE_SRC_SOURCE p)) ++ leBytes 2 0 ++ captureBytes (captureOf s p)

/-- A snapshot: 2,400 bytes. -/
def snapshot (s : State) : List Byte := snapHead s ++ (List.range 16).flatMap (snapProbe s)

/-- The Skiver stream of a chunk's content: whichever firmware forms, so long as it decodes to the content under R108 to R110. -/
def diagStream (content : List Byte) : List Byte :=
  let enc := Config.diagEncode content
  if skvDecode false content.length enc = .ok content then enc else skvLiterals content.length content

/-- A chunk of snapshots whose first has index `first`, padded to a multiple of 64 bytes. The manual leaves the choice of
the Skiver stream that encodes the content to the firmware. -/
def diagChunk (first : Nat) (content : List Byte) : List Byte :=
  let enc := diagStream content
  let body := [0x44, 0x4D, 0x44, 0x47] ++ leBytes 4 enc.length ++ leBytes 4 content.length ++ leBytes 4 0 ++ leBytes 8 first ++
    leBytes 8 (crcOf crc64 content) ++ enc
  body ++ List.replicate ((64 - body.length % 64) % 64) 0

/-- Write a chunk to the region at the count HEAD, around its end. -/
def writeDiag (bs : List Byte) (s : State) : State :=
  let off := fget s Reg.MON_DIAG_HEAD_BYTES % 2 ^ 30
  let room := 2 ^ 30 - off
  let lo := (region Rgn.diag).lo
  let s := memWrite Port.proctor (lo + off) (bs.take room) s
  if bs.length ≤ room then s else memWrite Port.proctor lo (bs.drop room) s

/-- A chunk is written, or dropped whole when it does not fit (R506). -/
def putChunk (bs : List Byte) (s : State) : State :=
  let head := fget s Reg.MON_DIAG_HEAD_BYTES
  let used := (2 ^ 32 + head - s.mon.acked) % 2 ^ 32
  if 2 ^ 30 - used < bs.length then fcount Reg.MON_DIAG_LOST_COUNT 1 s
  else fput Reg.MON_DIAG_HEAD_BYTES (head + bs.length) (writeDiag bs s)

/-- A snapshot is formed; the 64th makes a chunk. -/
def diagSnapshot (s : State) : State :=
  if fbit s Reg.MON_SNAP_EN ∧ proctorRuns s = true ∧ resting s = false ∧ powered s Dom.MEM = true ∧ s.flow.boot = .over then
    let snaps := s.mon.snaps ++ [snapshot s]
    let index := s.mon.snapIndex + 1
    let s := { s with mon := { s.mon with snapIndex := index, snaps := if snaps.length < 64 then snaps else [] } }
    if snaps.length < 64 then s else putChunk (diagChunk (index - 64) snaps.flatten) s
  else s

/-- DIAG_SNAPSHOT. -/
def execDiagSnapshot (s : State) : Res := .next (diagSnapshot s)

end Sys2Proof.Machine
end

