-- ==== Sys2Proof/Machine/Flags.lean ====
section
/-!
DEFINITION. The event flags (R359, R360, Table 14-9): the condition of each source of kind C, the latches that sources of
kind L release, and what EVENT_ACK clears.
-/

namespace Sys2Proof.Machine

/-! ## Conditions of kind C -/

/-- A synthesiser in use is out of lock: the timebases always, the optical and port references while a domain that uses
them is powered (R489). -/
def clockUnlocked (s : State) : Bool :=
  !(fbit s Reg.CLK_STATUS_BELL && fbit s Reg.CLK_STATUS_CORE && fbit s Reg.CLK_STATUS_PROC && fbit s Reg.CLK_STATUS_DRAM) ||
  (powered s Dom.OUT && !fbit s (clkBit 4)) || ((powered s Dom.COH || powered s Dom.ETH) && !fbit s (clkBit 5))

/-- A staging descriptor waits for room (R392). -/
def stagingWaits (s : State) : Bool := stagingOn s && s.dma.chans.any fun c => c.phase == .room

/-- The condition of a source of kind C is still in force; sources of the other kinds have none. -/
def conditionHolds (s : State) (n : Nat) : Bool :=
  if n = Ev.SUPPLY_WARN then fbit s Reg.PWR_STATUS_WARN
  else if n = Ev.LINK_LOSS then s.out.link.on
  else if n = Ev.OUT_OF_STEP then s.out.outOfStep
  else if n = Ev.STUCK_OPEN then hasCause s 1
  else if n = Ev.POS_FAULT then s.pos.faulted.any fun a => !axisValid s a
  else if n = Ev.ABS_FULL then fbit s Reg.ABS_STATUS_RESERVE
  else if n = Ev.ABS_LOST then s.abs.lost.isSome
  else if n = Ev.STALL then anyStalled s
  else if n = Ev.HBM_HOT then fbit s Reg.HBM_STATUS_HOT
  else if n = Ev.HBM_FENCE then fget s Reg.HBM_FENCE_CHANNELS != 0
  else if n = Ev.STAGING_FULL then stagingWaits s
  else if n = Ev.PCIE_DEGRADED then s.dma.degraded
  else if n = Ev.CLK_UNLOCK then clockUnlocked s
  else if n = Ev.REF_IN_LOST then fbit s Reg.TIM_STATUS_REF_EN && !s.tim.refGood
  else if n = Ev.THERMAL_WARN then s.mon.warn
  else if n = Ev.THERMAL_TRIP then s.mon.trip
  else if n = Ev.COH_EAST_DOWN then !fbit s Reg.COH_STATUS_EAST_UP
  else if n = Ev.COH_WEST_DOWN then !fbit s Reg.COH_STATUS_WEST_UP
  else if n = Ev.PARTITION then inCohort s && !ringWhole s
  else if n = Ev.TIME_ALIGN then timeUnaligned s
  else if n = Ev.MASTER_CONFLICT then inCohort s && masterCount s != 1
  else if n = Ev.PTP_UNLOCKED then s.tim.ptpOut
  else if n = Ev.RAIL_WARN then fget s Reg.PWR_RAIL_WARN_RAILS != 0
  else false

/-! ## What acknowledging does -/

/-- The latest raise of a source was first shown by a refresh not later than SEQ_SEEN, and none has come since. -/
def shownBy (s : State) (seen n : Nat) : Bool :=
  !s.ev.unseen.getLsbD n && match s.ev.shown.lookup n with
    | some q => !later32 q seen
    | none => false

/-- A masked bit clears (R360). -/
def ackClears (s : State) (mask : BitVec 96) (seen n : Nat) : Bool :=
  mask.getLsbD n && s.ev.bits.getLsbD n && shownBy s seen n && !conditionHolds s n

/-- The bits that an EVENT_ACK clears. -/
def clearedBits (s : State) (mask : BitVec 96) (seen : Nat) : BitVec 96 :=
  (List.range 96).foldl (fun m n => if ackClears s mask seen n then m ||| (1 : BitVec 96) <<< n else m) 0

/-- What follows the clearing of one bit: the latches of kind L, and the Hold causes that an acknowledgement ends
(R229, R239, Table 2-4). -/
def ackActs (n : Nat) (s : State) : State :=
  if n = Ev.CINCH_CUT then clearCause 4 (fputStored Reg.OUT_STATUS_CINCH 0 s)
  else if n = Ev.HEAD_FAULT then clearCause 8 { s with out := { s.out with headFault := false } }
  else if n = Ev.REVERSAL then clearCause 2 s
  else if n = Ev.MOTION_FAULT then (if anyStalled s then s else clearCause 11 s)
  else s

/-- The bits are cleared and their latches released. -/
def clearEvents (m : BitVec 96) (s : State) : State :=
  let s := { s with ev := { s.ev with bits := s.ev.bits &&& ~~~m } }
  ((List.range 96).filter fun n => m.getLsbD n).foldl (fun s n => ackActs n s) s

/-- The twelve bytes of 96 event bits. -/
def eventBytes (m : BitVec 96) : List Byte := leBytes 12 m.toNat

/-- The command EVENT_ACK. -/
def eventAckCommand (r : Req) (mask : BitVec 96) (seen : Nat) (s : State) : State :=
  runCommand r { op := 0x0103, len := 16, inRange := seen % 2 == 0 && !later32 seen s.page.coreSeq } (fun s =>
    let m := clearedBits s mask seen
    complete r.slot .ok (eventBytes m ++ eventBytes (mask &&& s.ev.bits &&& ~~~m)) (clearEvents m s)) s

/-- EVENT_ACK. -/
def execEventAck (r : Req) (mask : BitVec 96) (seqSeen : Nat) (s : State) : Res := .next (eventAckCommand r mask seqSeen s)

end Sys2Proof.Machine
end

