-- ==== Sys2Proof/Decode.lean ====
section
/-!
DEFINITION. What stands for decoding in a block. The command table gives its rows no bits, so no word spells a command. A
mailbox request does: its OPCODE and payload, in the layouts of Tables 15-2 to 15-8, give the command it asks for.
-/

namespace Sys2Proof

/-- The command that a word spells by the table's bits. No row of the table has any. -/
def decodeTableWord (_nbits _w : Nat) : Option Instr := none

namespace Machine

/-! ## Fields of a request payload -/

/-- A run of payload bytes is zero. -/
def zeroAt (p : List Byte) (off n : Nat) : Bool := (slice p off n).all (· == 0)

/-- The common part of a request in slot `n`: its LENGTH, and that its reserved bytes are zero. -/
def reqOf (n : Fin 16) (sl : Slot) (reserved : Bool) : Req := ⟨n, sl.length, sl.reserved == 0 && reserved⟩

/-- A 32-bit word of the payload. -/
def wordAt (p : List Byte) (off : Nat) : Word := BitVec.ofNat 32 (leAt p off 4)

/-- The register writes of CFG_WRITE and POKE. -/
def writesAt (p : List Byte) : List RegWrite :=
  (List.range (leAt p 0 1)).map fun i => ⟨leAt p (4 + 8 * i) 1, leAt p (6 + 8 * i) 2, wordAt p (8 + 8 * i)⟩

/-- The register names of REG_READ, MEM_STATUS and PEEK. -/
def refsAt (p : List Byte) : List RegRef :=
  (List.range (leAt p 0 1)).map fun i => ⟨leAt p (4 + 4 * i) 1, leAt p (6 + 4 * i) 2⟩

/-- The reserved bytes of a list with one reserved byte at offset 1 of each entry. -/
def listReserved (p : List Byte) (size : Nat) : Bool :=
  zeroAt p 1 3 && (List.range (leAt p 0 1)).all fun i => zeroAt p (5 + size * i) 1

/-- The entries of BEAM_SET. -/
def beamsAt (p : List Byte) : List (Nat × DWord) :=
  (List.range (leAt p 0 1)).map fun i => (leAt p (4 + 12 * i) 4, BitVec.ofNat 64 (leAt p (8 + 12 * i) 8))

/-! ## The groups -/

/-- System group (Table 15-2). -/
def systemRequest (n : Fin 16) (sl : Slot) : Option Instr :=
  let p := sl.payload
  match sl.opcode with
  | 0x0101 => some (.nop (reqOf n sl true))
  | 0x0103 => some (.eventAck (reqOf n sl true) (BitVec.ofNat 96 (leAt p 0 12)) (leAt p 12 4))
  | 0x0104 => some (.storedCfg (reqOf n sl (zeroAt p 2 2)) (leAt p 0 1) (leAt p 1 1))
  | 0x0105 => some (.serviceEnter (reqOf n sl true))
  | 0x0106 => some (.serviceExit (reqOf n sl true))
  | 0x0107 => some (.proctorRestart (reqOf n sl true))
  | 0x0108 => some (.cfgWrite (reqOf n sl (listReserved p 8)) (writesAt p))
  | _ => none

/-- Job group (Table 15-3). -/
def jobRequest (n : Fin 16) (sl : Slot) : Option Instr :=
  let p := sl.payload
  match sl.opcode with
  | 0x0201 => some (.jobLoad (reqOf n sl true) (leAt p 0 4) (leAt p 4 4))
  | 0x0202 => some (.jobSupplement (reqOf n sl true) (leAt p 0 4) (leAt p 4 4))
  | 0x0203 => some (.jobStart (reqOf n sl (zeroAt p 2 2)) (leAt p 0 2))
  | 0x0204 => some (.holdRequest (reqOf n sl true))
  | 0x0205 => some (.resume (reqOf n sl true))
  | 0x0206 => some (.recessExtend (reqOf n sl true) (leAt p 0 4))
  | 0x0207 => some (.layerClose (reqOf n sl (zeroAt p 3 1)) (leAt p 0 2) (leAt p 2 1))
  | 0x0208 => some (.jobClose (reqOf n sl (zeroAt p 1 3)) (leAt p 0 1))
  | 0x0209 => some (.jobAbort (reqOf n sl true))
  | 0x020A => some (.rejectRead (reqOf n sl (zeroAt p 1 3)) (leAt p 0 1))
  | 0x020B =>
    let k := leAt p 1 1
    some (.cellEvict (reqOf n sl (zeroAt p 2 2)) (leAt p 0 1) k ((List.range k).map fun i => leAt p (4 + 4 * i) 4)
      (leAt p 4 4) (leAt p 8 4))
  | 0x020C => some (.cacheStatus (reqOf n sl true))
  | 0x020D => some (.absRead (reqOf n sl (zeroAt p 5 3)) (leAt p 0 4) (leAt p 4 1))
  | 0x020E => some (.absAck (reqOf n sl true) (leAt p 0 4))
  | 0x020F => some (.absStatus (reqOf n sl true))
  | _ => none

/-- Beam and calibration group (Table 15-4). The readings of ANALOG_CAL are no part of its request. -/
def beamRequest (n : Fin 16) (sl : Slot) : Option Instr :=
  let p := sl.payload
  match sl.opcode with
  | 0x0301 => some (.beamTableLoad (reqOf n sl true) (leAt p 0 4) (leAt p 4 4))
  | 0x0302 => some (.beamSet (reqOf n sl (zeroAt p 1 3)) (beamsAt p))
  | 0x0303 => some (.beamCheck (reqOf n sl (zeroAt p 1 3)) (leAt p 0 1))
  | 0x0304 => some (.beamLocate (reqOf n sl true))
  | 0x0305 => some (.calStart (reqOf n sl true))
  | 0x0306 => some (.calAbort (reqOf n sl true))
  | 0x0307 => some (.beamReport (reqOf n sl (zeroAt p 1 3)) (leAt p 0 1) (leAt p 4 4))
  | 0x0308 => some (.analogCal (reqOf n sl true) 0 [] [] [])
  | _ => none

/-- Memory, cohort and time groups (Table 15-5). -/
def memoryRequest (n : Fin 16) (sl : Slot) : Option Instr :=
  let p := sl.payload
  match sl.opcode with
  | 0x0401 => some (.memStatus (reqOf n sl (listReserved p 4)) (refsAt p))
  | 0x0402 => some (.memZero (reqOf n sl (zeroAt p 1 3)) (leAt p 0 1) (leAt p 4 4) (leAt p 8 4))
  | 0x0403 => some (.memFill (reqOf n sl true))
  | 0x0501 => some (.cohortConfig (reqOf n sl (zeroAt p 2 2)) (leAt p 0 1) (leAt p 1 1))
  | 0x0502 => some (.cohortShrink (reqOf n sl true) (wordAt p 0))
  | 0x0601 => some (.timeSet (reqOf n sl true) (leAt p 0 8) (leAt p 8 4))
  | 0x0602 => some (.timeRate (reqOf n sl true) (leAt p 0 8))
  | 0x0603 =>
    some (.triggerSet (reqOf n sl (zeroAt p 3 1)) (leAt p 0 1) (leAt p 1 1) (leAt p 2 1) (leAt p 4 8) (leAt p 0xC 4)
      (leAt p 0x10 4) (leAt p 0x14 4))
  | 0x0604 => some (.ptpConfig (reqOf n sl (zeroAt p 2 2)) (leAt p 0 1) (leAt p 1 1) (leAt p 4 4))
  | 0x0605 => some (.tsRead (reqOf n sl true))
  | 0x0606 => some (.refConfig (reqOf n sl (zeroAt p 1 3)) (leAt p 0 1))
  | _ => none

/-- Security and Power groups (Tables 15-6, 15-7). -/
def securityRequest (n : Fin 16) (sl : Slot) : Option Instr :=
  let p := sl.payload
  match sl.opcode with
  | 0x0701 => some (.certRead (reqOf n sl true) (leAt p 0 4))
  | 0x0702 => some (.attest (reqOf n sl (zeroAt p 0x21 3)) (slice p 0 32) (leAt p 0x20 1))
  | 0x0703 => some (.fwUpdate (reqOf n sl true) (leAt p 0 4) (leAt p 4 4))
  | 0x0704 => some (.lifecycleSet (reqOf n sl (zeroAt p 1 3)) (leAt p 0 1) (slice p 4 96))
  | 0x0705 => some (.keyProvision (reqOf n sl true) (slice p 0 96))
  | 0x0801 => some (.restEnter (reqOf n sl (zeroAt p 2 2)) (leAt p 0 2))
  | 0x0802 => some (.voteSet (reqOf n sl true) (wordAt p 0) (wordAt p 4))
  | 0x0803 => some (.supplyCfg (reqOf n sl (zeroAt p 1 3)) (leAt p 0 1))
  | _ => none

/-- Diagnostics group (Table 15-8). -/
def diagRequest (n : Fin 16) (sl : Slot) : Option Instr :=
  let p := sl.payload
  match sl.opcode with
  | 0x0901 => some (.peek (reqOf n sl (listReserved p 4)) (refsAt p))
  | 0x0902 => some (.poke (reqOf n sl (listReserved p 8)) (writesAt p))
  | 0x0903 => some (.regRead (reqOf n sl (listReserved p 4)) (refsAt p))
  | 0x0904 => some (.eventTest (reqOf n sl true))
  | 0x0905 => some (.bistRun (reqOf n sl (zeroAt p 1 3)) (leAt p 0 1) (leAt p 4 4))
  | 0x0906 => some (.monConfig (reqOf n sl (zeroAt p 1 1)) (leAt p 0 1) (leAt p 2 2) (wordAt p 4) (wordAt p 8) (wordAt p 12))
  | 0x0907 => some (.monRead (reqOf n sl (zeroAt p 2 2)) (leAt p 0 1) (leAt p 1 1))
  | _ => none

/-- The command that the request in a slot asks for, or none when no table of interface level 3 lists its opcode. -/
def requestOf (n : Fin 16) (sl : Slot) : Option Instr :=
  match sl.opcode / 256 with
  | 1 => systemRequest n sl
  | 2 => jobRequest n sl
  | 3 => beamRequest n sl
  | 4 | 5 | 6 => memoryRequest n sl
  | 7 | 8 => securityRequest n sl
  | 9 => diagRequest n sl
  | _ => none

/-! ## The request of a command (Tables 15-2 to 15-8) -/

/-- The bytes of register writes. -/
def writeBytes (ws : List RegWrite) : List Byte :=
  leBytes 1 ws.length ++ leBytes 3 0 ++ ws.flatMap fun w => leBytes 1 w.block ++ leBytes 1 0 ++ leBytes 2 w.offset ++ leBytes 4 w.value.toNat

/-- The bytes of register names. -/
def refBytes (rs : List RegRef) : List Byte :=
  leBytes 1 rs.length ++ leBytes 3 0 ++ rs.flatMap fun w => leBytes 1 w.block ++ leBytes 1 0 ++ leBytes 2 w.offset

/-- The bytes of Beam Table entries. -/
def entryBytes (es : List (Nat × DWord)) : List Byte :=
  leBytes 1 es.length ++ leBytes 3 0 ++ es.flatMap fun e => leBytes 4 e.1 ++ leBytes 8 e.2.toNat

/-- The payload of a CELL_EVICT: a list of CELL_IDs, or a range. -/
def evictBytes (form n : Nat) (ids : List Nat) (first last : Nat) : List Byte :=
  leBytes 1 form ++ leBytes 1 n ++ leBytes 2 0 ++ (if form = 0 then ids.flatMap (leBytes 4) else leBytes 4 first ++ leBytes 4 last)

/-- The request, OPCODE and payload of a mailbox command; the other commands have none. -/
def encodeRequest : Instr → Option (Req × Nat × List Byte)
  | .nop r => some (r, 0x0101, [])
  | .eventAck r mask seen => some (r, 0x0103, leBytes 12 mask.toNat ++ leBytes 4 seen)
  | .storedCfg r write order => some (r, 0x0104, leBytes 1 write ++ leBytes 1 order)
  | .serviceEnter r => some (r, 0x0105, [])
  | .serviceExit r => some (r, 0x0106, [])
  | .proctorRestart r => some (r, 0x0107, [])
  | .cfgWrite r ws => some (r, 0x0108, writeBytes ws)
  | .jobLoad r offset len => some (r, 0x0201, leBytes 4 offset ++ leBytes 4 len)
  | .jobSupplement r offset len => some (r, 0x0202, leBytes 4 offset ++ leBytes 4 len)
  | .jobStart r lead => some (r, 0x0203, leBytes 2 lead)
  | .holdRequest r => some (r, 0x0204, [])
  | .resume r => some (r, 0x0205, [])
  | .recessExtend r ms => some (r, 0x0206, leBytes 4 ms)
  | .layerClose r layer flags => some (r, 0x0207, leBytes 2 layer ++ leBytes 1 flags)
  | .jobClose r flags => some (r, 0x0208, leBytes 1 flags)
  | .jobAbort r => some (r, 0x0209, [])
  | .rejectRead r first => some (r, 0x020A, leBytes 1 first)
  | .cellEvict r form n ids first last => some (r, 0x020B, evictBytes form n ids first last)
  | .cacheStatus r => some (r, 0x020C, [])
  | .absRead r first count => some (r, 0x020D, leBytes 4 first ++ leBytes 1 count)
  | .absAck r newTail => some (r, 0x020E, leBytes 4 newTail)
  | .absStatus r => some (r, 0x020F, [])
  | .beamTableLoad r offset len => some (r, 0x0301, leBytes 4 offset ++ leBytes 4 len)
  | .beamSet r es => some (r, 0x0302, entryBytes es)
  | .beamCheck r op => some (r, 0x0303, leBytes 1 op)
  | .beamLocate r => some (r, 0x0304, [])
  | .calStart r => some (r, 0x0305, [])
  | .calAbort r => some (r, 0x0306, [])
  | .beamReport r kind arg => some (r, 0x0307, leBytes 1 kind ++ leBytes 3 0 ++ leBytes 4 arg)
  | .analogCal r _ _ _ _ => some (r, 0x0308, [])
  | .memStatus r refs => some (r, 0x0401, refBytes refs)
  | .memZero r region first pages => some (r, 0x0402, leBytes 1 region ++ leBytes 3 0 ++ leBytes 4 first ++ leBytes 4 pages)
  | .memFill r => some (r, 0x0403, [])
  | .cohortConfig r members own => some (r, 0x0501, leBytes 1 members ++ leBytes 1 own)
  | .cohortShrink r keep => some (r, 0x0502, leBytes 4 keep.toNat)
  | .timeSet r seconds ns => some (r, 0x0601, leBytes 8 seconds ++ leBytes 4 ns)
  | .timeRate r inc => some (r, 0x0602, leBytes 8 inc)
  | .triggerSet r index action gpio startS startNs periodNs widthNs =>
    some (r, 0x0603, leBytes 1 index ++ leBytes 1 action ++ leBytes 1 gpio ++ leBytes 1 0 ++ leBytes 8 startS ++ leBytes 4 startNs ++
      leBytes 4 periodNs ++ leBytes 4 widthNs)
  | .ptpConfig r flags domain ip => some (r, 0x0604, leBytes 1 flags ++ leBytes 1 domain ++ leBytes 2 0 ++ leBytes 4 ip)
  | .tsRead r => some (r, 0x0605, [])
  | .refConfig r flags => some (r, 0x0606, leBytes 1 flags)
  | .certRead r offset => some (r, 0x0701, leBytes 4 offset)
  | .attest r nonce kind => some (r, 0x0702, nonce ++ leBytes 1 kind)
  | .fwUpdate r offset len => some (r, 0x0703, leBytes 4 offset ++ leBytes 4 len)
  | .lifecycleSet r target auth => some (r, 0x0704, leBytes 1 target ++ leBytes 3 0 ++ auth)
  | .keyProvision r key => some (r, 0x0705, key)
  | .restEnter r delay => some (r, 0x0801, leBytes 2 delay)
  | .voteSet r mask vote => some (r, 0x0802, leBytes 4 mask.toNat ++ leBytes 4 vote.toNat)
  | .supplyCfg r auto => some (r, 0x0803, leBytes 1 auto)
  | .peek r refs => some (r, 0x0901, refBytes refs)
  | .poke r ws => some (r, 0x0902, writeBytes ws)
  | .regRead r refs => some (r, 0x0903, refBytes refs)
  | .eventTest r => some (r, 0x0904, [])
  | .bistRun r kind domains => some (r, 0x0905, leBytes 1 kind ++ leBytes 3 0 ++ leBytes 4 domains)
  | .monConfig r probe source width lo hi =>
    some (r, 0x0906, leBytes 1 probe ++ leBytes 1 0 ++ leBytes 2 source ++ leBytes 4 width.toNat ++ leBytes 4 lo.toNat ++ leBytes 4 hi.toNat)
  | .monRead r probe flags => some (r, 0x0907, leBytes 1 probe ++ leBytes 1 flags)
  | _ => none

/-- The slot that carries a request: its reserved bytes are zero when the request says so. -/
def requestSlot (r : Req) (op : Nat) (payload : List Byte) : Slot :=
  { Slot.zero with opcode := op, length := r.length, reserved := if r.reservedZero then 0 else 1, payload := slice payload 0 224 }

/-- What a payload can carry: lists within their counts, and no readings with an ANALOG_CAL. -/
def requestCarried : Instr → Bool
  | .cfgWrite _ ws | .poke _ ws => decide (ws.length ≤ 27)
  | .memStatus _ rs | .peek _ rs | .regRead _ rs => decide (rs.length ≤ 52)
  | .beamSet _ es => decide (es.length ≤ 18)
  | .cellEvict _ form n ids first last =>
    if form = 0 then n == ids.length && decide (n ≤ 53) && first == ids.getD 0 0 && last == ids.getD 1 0
    else n == 0 && ids.isEmpty
  | .analogCal _ u a b c => u == 0 && a.isEmpty && b.isEmpty && c.isEmpty
  | _ => true

end Machine

end Sys2Proof
end

