-- ==== Sys2Proof/Machine/Bar0.lean ====
section
/-!
DEFINITION. What BAR0 reads (R344, R345): the identity block, the three sections of the status page and the mailbox slots,
byte by byte as Tables 14-2 to 14-7a lay them out, and the registers that stand between them.
-/

namespace Sys2Proof.Machine

/-- One byte of a region laid out as fields of offset, size and value; a byte of no field reads zero. -/
def layoutByte (l : List (Nat × Nat × Nat)) (a : Nat) : Byte :=
  match l.find? fun f => decide (f.1 ≤ a ∧ a < f.1 + f.2.1) with
  | some f => BitVec.ofNat 8 (f.2.2 / 256 ^ (a - f.1))
  | none => 0

/-- The fields that Liroth firmware writes once it has started (R347). It writes what holds at the read (log entry 153). -/
def firmwareFields (s : State) : List (Nat × Nat × Nat) :=
  if s.page.identityWritten then
    [(0x000C, 4, (runningImage s).release), (0x0010, 4, (runningImage s).ifLevel), (0x0014, 4, fget s Reg.SEC_STATUS_LIFECYCLE),
      (0x0020, 4, fget s Reg.SEC_ROLLBACK_COUNTER), (0x0024, 4, 1)]
  else []

/-- The identity block (R2, Table 14-3): MAGIC, PART, ORDER, HW_REV, SERIAL and ID_KEY_HASH, and what firmware writes. -/
def identityFields (s : State) : List (Nat × Nat × Nat) :=
  [(0x0000, 4, 0x4D445343), (0x0004, 2, 0x5126), (0x0006, 1, s.sec.order), (0x0008, 4, hwRev), (0x0018, 8, leAt Config.serial 0 8),
    (0x0030, 16, leAt (if s.sec.hashLoaded then idKeyHash else Config.lostKeyHash) 0 16)] ++ firmwareFields s

/-- The core section (Table 14-4). -/
def coreFields (s : State) : List (Nat × Nat × Nat) :=
  let c := s.page.core
  [(0x0100, 4, s.page.coreSeq), (0x0104, 4, c.timeNs), (0x0108, 8, c.timeS), (0x0110, 1, c.mode), (0x0111, 1, c.job),
    (0x0112, 1, c.bootStep), (0x0114, 4, c.causes.toNat), (0x0118, 8, c.jobId), (0x0120, 2, c.layer), (0x0122, 2, c.stripe),
    (0x0124, 4, c.shot.toNat), (0x0128, 2, c.bandLead), (0x012C, 4, c.psetSeq.toNat), (0x0130, 4, c.absHead.toNat),
    (0x0134, 4, c.absUnrec.toNat), (0x0138, 12, c.events.toNat), (0x0148, 8, c.digest), (0x0150, 8, c.jobDigest),
    (0x0158, 4, c.epoch.toNat), (0x015C, 4, c.stagingFree), (0x0160, 4, c.dmaState), (0x0164, 4, c.domains)]

/-- Row `p` of the monitor section: SOURCE, MIN, MAX and LAST. -/
def probeFields (p : Nat) (r : ProbeRow) : List (Nat × Nat × Nat) :=
  let a := 0x0210 + 16 * p
  [(a, 2, r.source), (a + 4, 4, unsigned 32 r.min), (a + 8, 4, unsigned 32 r.max), (a + 12, 4, unsigned 32 r.last)]

/-- The monitor section (Table 14-6). -/
def monitorFields (s : State) : List (Nat × Nat × Nat) :=
  (0x0200, 4, s.page.monSeq) :: s.page.probes.zipIdx.flatMap fun r => probeFields r.2 r.1

/-- Row `i` of the cohort section: DIGEST, EPOCH and STATE. -/
def memberFields (i : Nat) (r : MemberRow) : List (Nat × Nat × Nat) :=
  let a := 0x0910 + 16 * i
  [(a, 8, r.digest), (a + 8, 4, r.epoch), (a + 12, 4, r.state)]

/-- The cohort section (Table 14-6). -/
def cohortFields (s : State) : List (Nat × Nat × Nat) :=
  (0x0900, 4, s.page.cohSeq) :: (0x0904, 1, s.page.members) :: (0x0905, 1, s.page.own) ::
    s.page.rows.zipIdx.flatMap fun r => memberFields r.2 r.1

/-- A mailbox slot below its payload (Table 14-7a). -/
def slotFields (sl : Slot) : List (Nat × Nat × Nat) :=
  [(0x00, 2, sl.opcode), (0x02, 2, sl.tag), (0x04, 4, sl.alive), (0x08, 2, sl.length), (0x0A, 2, sl.reserved), (0x0C, 4, sl.lastAlive),
    (0x10, 2, sl.status), (0x12, 2, sl.ctag), (0x14, 4, sl.calive), (0x18, 2, sl.clength), (0x1C, 4, sl.done)]

/-- Byte `a` of a mailbox slot. -/
def slotByte (sl : Slot) (a : Nat) : Byte := if a < 0x20 then layoutByte (slotFields sl) a else sl.payload.getD (a - 0x20) 0

/-- A byte of BAR0 that is no register's (Table 14-2); any other offset reads zero. -/
def bar0Byte (s : State) (a : Nat) : Byte :=
  if a < 0x0100 then layoutByte (identityFields s) a
  else if a < 0x0200 then layoutByte (coreFields s) a
  else if a < 0x0800 then layoutByte (monitorFields s) a
  else if a < 0x0900 then 0
  else if a < 0x1000 then layoutByte (cohortFields s) a
  else if a < 0x2000 then slotByte (slotOf s (Fin.ofNat 16 ((a - 0x1000) / 256))) (a % 256)
  else 0

/-- The register that stands at a BAR0 address, as a key of the register file. -/
def bar0Key (addr : Nat) : Option Nat :=
  let k := if 0x0800 ≤ addr ∧ addr < 0x0900 then 0xE0000 + (addr - 0x0800) else addr
  if (0x0800 ≤ addr ∧ addr < 0x0900) ∨ (0xF000 ≤ addr ∧ addr < 0xF100) then (if (regDesc k).isSome then some k else none)
  else none

/-- The four bytes at an address that is a multiple of 4. -/
def bar0Word (a : Nat) (s : State) : State × List Byte :=
  match bar0Key a with
  | some k => let p := readReg k s; (p.1, leBytes 4 p.2.toNat)
  | none => (s, (List.range 4).map fun i => bar0Byte s (a + i))

/-- The addresses of the words that an access of `size` bytes touches. -/
def wordsAt (addr size : Nat) : List Nat := (List.range ((addr + size + 3) / 4 - addr / 4)).map fun i => (addr / 4 + i) * 4

/-- Words of BAR0 in order. A register is read whole, whatever part of it the access asks for. -/
def bar0Words : List Nat → State → State × List Byte
  | [], s => (s, [])
  | a :: as, s =>
    let q := bar0Word a s
    let r := bar0Words as q.1
    (r.1, q.2 ++ r.2)

/-- The host reads BAR0: 1, 2, 4 or 8 bytes, which the completion carries to it. -/
def hostRead (addr size : Nat) (s : State) : State :=
  let p := bar0Words (wordsAt addr size) s
  { p.1 with host := { p.1.host with read := slice p.2 (addr % 4) size } }

end Sys2Proof.Machine
end

