-- ==== Sys2Proof/Machine/MemCmd.lean ====
section
/-!
DEFINITION. The Memory commands that empty DRAM: MEM_ZERO and MEM_FILL (Table 15-5, R335, R336). MEM_STATUS stands with
the register reads.
-/

namespace Sys2Proof.Machine

/-- 4 KiB pages of a region. -/
def Region.pages (g : Region) : Nat := g.size * 256

/-- Absence Log entries whose slots lie in zeroed pages are gone (R274: 32 bytes a slot). -/
def zeroEntries (lo hi : Nat) (s : State) : State :=
  let out := fun (n : Nat) => decide (n % 8388608 / 128 < lo ∨ hi ≤ n % 8388608 / 128)
  { s with abs := { s.abs with ring := s.abs.ring.filter fun p => out p.1 } }

/-- Band-ring bytes in zeroed pages are gone (R144: 8,519,680 bytes a slot). -/
def zeroBands (lo hi : Nat) (s : State) : State :=
  let out := fun (slot off : Nat) => decide ((8519680 * slot + off) / 4096 < lo ∨ hi ≤ (8519680 * slot + off) / 4096)
  let keep := fun (b : Band) => { b with dose := b.dose.filter fun p => out b.slot p.1 }
  { s with ras := { s.ras with ring := s.ras.ring.map keep, released := s.ras.released.map keep } }

/-- A byte range has a byte in pages `lo` to `hi - 1`. -/
def inPages (lo hi a n : Nat) : Bool := decide (0 < n ∧ a / 4096 < hi ∧ lo ≤ (a + n - 1) / 4096)

/-- Directory entries and cells that stood in zeroed pages are gone: entry `k` of the directory stands at 16 k, and a cell
without its records draws nothing (log entry 41). -/
def zeroCache (lo hi : Nat) (s : State) : State :=
  let dir := (s.cache.dir.zipIdx.filter fun p => !inPages lo hi ((region Rgn.cache).lo + 16 * p.2) 16).map (·.1)
  let cells := s.cache.cells.map fun c =>
    if inPages lo hi (granuleAt c.storeAt) (64 * c.granules) then { c with records := [] } else c
  cacheSync { s with cache := { s.cache with dir := dir, cells := cells } }

/-- The densities and map values that stood in zeroed pages are 0. -/
def zeroDensities (lo hi : Nat) (s : State) : State :=
  let at' := fun (k : Nat) => densityStore (densityBand k).1 (densityBand k).2 + (k / 520 % 4 * 520 + k % 520)
  { s with ras := { s.ras with
      density := s.ras.density.filter fun p => !inPages lo hi (at' p.1) 1
      stripes := s.ras.stripes.map fun d => { d with dmap := d.dmap.filter fun p => !inPages lo hi (dmapStore d.stripeIdx + p.1) 1 } } }

/-- Geometry that stood in zeroed pages draws nothing (log entry 41), and the w and v that stood there are 0. -/
def zeroScratch (lo hi : Nat) (s : State) : State :=
  let gone := fun (g : Geom) => (queueParts g.queueAt g.dlen).any fun p => inPages lo hi p.1 p.2
  let tile := fun (k : Nat) => k / 33280 / 64 * 520 + k % 33280 / 64
  let kept := fun (b k : Nat) => !inPages lo hi (b + 8192 * tile k) 8192
  { s with ras := { s.ras with
      geoms := s.ras.geoms.map fun g => if gone g then { g with records := [] } else g
      pending := s.ras.pending.map fun p => { p with w := p.w.filter fun e => kept p.base e.1, v := p.v.filter fun e => kept p.base e.1 } } }

/-- Pages `first` to `first + n - 1` of a region read zero: what the model holds decoded of them goes. A staged block is
found changed as the Skiver reads it (`ringBytes`). -/
def zeroPages (g first n : Nat) (s : State) : State :=
  let base := (region g).lo / 4096 + first
  let s := invalidatePages base (base + n) s
  if g = Rgn.absence then zeroEntries first (first + n) s
  else if g = Rgn.band then zeroBands first (first + n) s
  else if g = Rgn.cache then zeroCache base (base + n) s
  else if g = Rgn.density then zeroDensities base (base + n) s
  else if g = Rgn.scratch then zeroScratch base (base + n) s
  else s

/-- The command MEM_ZERO. -/
def memZeroCommand (r : Req) (g first n : Nat) (s : State) : State :=
  runCommand r
    { op := 0x0402, len := 12, inRange := decide (1 ≤ g ∧ g ≤ 7)
      accepted := modeIn s [.ready, .hold, .service] && !(g == Rgn.band && s.armed.isSome)
      needs := [Dom.MEM], reach := decide (first + n ≤ (region g).pages) }
    (fun s => complete r.slot .ok (leBytes 4 n) (zeroPages g first n s)) s

/-- MEM_ZERO. -/
def execMemZero (r : Req) (region firstPage pages : Nat) (s : State) : Res := .next (memZeroCommand r region firstPage pages s)

/-- The command MEM_FILL: it completes once the fill has begun. -/
def memFillCommand (r : Req) (s : State) : State :=
  runCommand r { op := 0x0403, len := 0, accepted := s.flow.mode == .service, needs := [Dom.MEM] }
    (fun s => complete r.slot .ok [] (startFill false s)) s

/-- MEM_FILL. -/
def execMemFill (r : Req) (s : State) : Res := .next (memFillCommand r s)

end Sys2Proof.Machine
end

