-- ==== Sys2Proof/Machine/Rest.lean ====
section
/-!
DEFINITION. Rest: its entry in four stages, the unwinding of an entry, the wake and its retention check, the host-link
reset, and power-good (R343, R467 to R475, R478, Tables 20-3, 20-4, 20-8).
-/

namespace Sys2Proof.Machine

/-- Change the Rest state. -/
def updRest (f : Rest → Rest) (s : State) : State := { s with pwr := { s.pwr with rest := f s.pwr.rest } }

/-- The module is in Rest past AP4, with no wake in progress. -/
def asleep (s : State) : Bool := s.flow.mode == .rest && s.pwr.rest.stage == 0 && !s.pwr.rest.waking

/-! ## The host-link reset (R343, Table 20-8) -/

/-- The DMA and doorbell registers return to POR. -/
def dmaPor (s : State) : State :=
  let one := fun (s : State) (c : Nat) =>
    [Reg.DMA_CH_APPEND_COUNT c, Reg.DMA_CH_HEAD_LO c, Reg.DMA_CH_HEAD_HI c, Reg.DMA_CH_CTRL c, Reg.DMA_CH_STATE c,
      Reg.DMA_CH_CUR_LO c, Reg.DMA_CH_CUR_HI c, Reg.DMA_CH_ERR_ADDR_LO c, Reg.DMA_CH_ERR_ADDR_HI c, Reg.DMA_CH_BYTES c].foldl (fun s k => rpor k s) s
  rpor Reg.DMA_STG_REL_LO (rpor Reg.DMA_STG_REL_HI ((List.range 8).foldl one (stopAllDma s)))

/-- Every slot reads zero, waiting doorbells go, and an accepted command keeps its effect but loses its completion. -/
def clearMail (s : State) : State :=
  rpor Reg.MBX_STATE (rpor Reg.MBX_ERR { s with mail := { s.mail with
    slots := List.replicate 16 Slot.zero, waiting := [], orphan := s.mail.current.isSome, cut := [] } })

/-- The reset takes effect: mailboxes, DMA, check units 0 and 1, host votes. -/
def linkResetActs (s : State) : State :=
  let s := resetChk [0, 1] (dmaPor (clearMail s))
  raise Ev.HOST_RESET (setVotes [2, 3, 4, 5, 6, 7, 8] Client.host false s)

/-- A reset that waited for the wake takes effect (R478). -/
def linkResetDue (s : State) : State :=
  match s.pwr.rest.linkReset with
  | some _ => linkResetActs (updRest (fun r => { r with linkReset := none }) s)
  | none => s

/-! ## Entry (R469, Table 20-3) -/

/-- A block whose decode has not committed goes back to the staging ring, to be decoded again. A failure at check 5 that
has been found stands. -/
def Blk.back (b : Blk) : Blk :=
  if b.phase = .decoding ∨ b.phase = .checked ∨ b.phase = .waitQueue ∨ (b.phase = .decoded ∧ b.late.isNone) then
    { b with phase := .ready, queueKib := 0 }
  else b

/-- Accepted decodes and checks that have not committed are given up; their blocks stay in the staging ring. A block that
had stopped the Skiver is tried again once it has been decoded anew (log entry 135). -/
def abandonDecodes (s : State) : State :=
  skiverSync { s with ingest := { s.ingest with blocks := s.ingest.blocks.map Blk.back } }

/-- Moving channels run the stop profile, and pending COMMITs are cancelled. -/
def stopMotion (s : State) : State :=
  let s := (List.range 6).foldl (fun s n => stopChan n s) s
  { s with mot := { s.mot with step := 0 } }

/-- The mode and job state from which Rest may be entered. -/
def restAllowed (s : State) : Bool := s.flow.mode == .ready || (s.flow.mode == .hold && betweenStripes s)

/-- DELAY_MS has passed: stage 1 begins, in the mode that asked for it. -/
def restStarts (s : State) : State :=
  match s.pwr.rest.due with
  | none => s
  | some m =>
    let s := updRest (fun r => { r with due := none }) s
    if s.flow.mode ≠ m ∨ restAllowed s = false ∨ transitioning s = true then s
    else
      let s := updRest (fun r => { r with stage := 1, entry := m }) s
      let s := rset Reg.PWR_REST_STATUS 0 s
      let s := applyAll (stopChecks s)
      stopMotion (abandonDecodes s)

/-- REST_ENTRY_START. -/
def execRestEntryStart (s : State) : Res := .next (restStarts s)

/-- What stage 1 waits for is over: requests in flight, the band in progress, the stop profiles. -/
def stageOneOver (s : State) : Bool :=
  s.dma.chans.all (fun c => !(c.phase == .data)) && s.ras.current.all (·.done == 2080) && (List.range 6).all fun n => (chan s n).seg.isNone

/-- The banks of the retention mask (R468). -/
def retained (s : State) (b : Nat) : Bool := fbitAt s (Reg.PWR_RET_BANKS (b / 32)) (b % 32)

/-- What stage 2 computes and copies. The bytes of a bank have no layout in the manual, so the signatures are free values, and so
is the region in which firmware keeps its copies (log entry 119). -/
def retention (s : State) : Retention :=
  let bs := (List.range 96).filter (retained s)
  { banks := bs.zipIdx.map fun p => (p.1, Config.freeValue (s.free + 17 + p.2) % 2 ^ 64)
    regions := (List.range 16).map fun i => Config.freeValue (s.free + 1 + i) % 2 ^ 64
    at' := freeNat s % 16
    table := s.beams.table, summary := s.beams.summary, invalid := s.ecc.invalid
    ckpt := (s.pwr.rest.ckptStripe, s.pwr.rest.ckptSeq, s.pwr.rest.ckptCommit) }

/-- Stage 2: the band checkpoint is recorded in bank 94; banks 92 and 93 and the checkpoint are copied, and the signatures stored
(R469). -/
def checkpoint (s : State) : State :=
  let i := s.prog.cur
  let seq := ((stripeData s i).firstSeq).getD s.ingest.nextSeq
  let s := writeSram checkpointWord 3 (updRest (fun r => { r with ckptStripe := i, ckptSeq := seq, ckptCommit := s.ingest.commitSeq }) s)
  updRest (fun r => { r with kept := some (retention s) }) { s with free := s.free + 113 }

/-- Every bank outside the mask loses its contents. -/
def dropBanks (s : State) : State :=
  (List.range 96).foldl (fun s b => if retained s b then s else emptyBanks b b s) s

/-- RC counters return to their POR values, but for those that Table 20-8 keeps: the mailboxes, DMA, check units, and
PWR_ (its row for PWR_DIP_COUNT and PWR_VIN_MIN). -/
def restCounters (s : State) : State :=
  let one := fun (s : State) (e : Nat × Word) =>
    if [0x00, 0x0E, 0x12].contains (e.1 / 65536) ∨ (e.1 / 65536 = 0x0D ∧ e.1 ≠ Reg.DMA_AER_COUNT) then s
    else
      let rc := codeBits RegDesc.rc e.1
      rset e.1 ((rget s e.1 &&& ~~~rc) ||| (regPor e.1 &&& rc)) s
  s.regs.foldl one { s with mon := { s.mon with caps := List.replicate 16 Capture.fresh } }

/-- The Window opens anew as its banks lose power, unless they are all retained (log entry 97). -/
def windowRest (s : State) : State :=
  match s.win.stripeIdx with
  | some i => if (List.range 74).all (retained s) then s else openWindow i s
  | none => s

/-- Domain `d` is off, its registers lost but for what firmware holds. -/
def restDomain (s : State) (d : Nat) : State := dropRegs d (fputBit Reg.PWR_STATUS_DOMAINS d false s)

/-- Stage 4: domains RAST to ETH, MEM and PROC drop; what Table 20-8 keeps across Rest is kept. -/
def restDrops (s : State) : State :=
  let s := restCounters (loseLocks (exposeOff (windowRest s)))
  let s := dropContents 8 (dropContents 7 s)
  let s := [8, 7, 6, 5, 4, 3, 2].foldl restDomain s
  let s := { s with
    pos := Pos.por, armed := none, shots := []
    out := { s.out with lanes := Out.por.lanes, strobes := 0 }
    mot := { s.mot with chans := s.mot.chans.map fun c => { c with seg := none, plan := none } }
    mon := { s.mon with gpioHigh := [] }
    tim := { s.tim with inRest := true, ethUp := false, converting := 0, convFor := [] } }
  fput Reg.TIM_REST_WRAPS_WRAPS 0 (dropBanks s)

/-- The stacks enter self-refresh with no debt left: what a pseudo-channel owes is paid first, and the probe samples every
change (R317, R468). -/
def enterSelfRefresh (s : State) : State :=
  let s := (List.range 64).foldl (fun s pc =>
    if pcFenced s pc then s else (List.range (debtOf s pc)).foldl (fun s _ => refreshAllBanks pc s) s) s
  { s with hbm := { s.hbm with selfRefresh := true, openRows := [], powerDown := 0 } }

/-- A stage of Rest entry reaches its abort point, and the next begins. From AP3 on the status page shows Rest (R350). -/
def stageDone (s : State) : State :=
  match s.pwr.rest.stage with
  | 1 =>
    if stageOneOver s then fput Reg.PWR_REST_STATUS_LAST_AP 1 (updRest (fun r => { r with stage := 2 }) s) else s
  | 2 => fput Reg.PWR_REST_STATUS_LAST_AP 2 (updRest (fun r => { r with stage := 3 }) (checkpoint s))
  | 3 =>
    let s := enterSelfRefresh s
    refreshCore (fput Reg.PWR_REST_STATUS_LAST_AP 3
      (updRest (fun r => { r with stage := 4 }) { s with flow := { s.flow with mode := .rest } }))
  | 4 => fput Reg.PWR_REST_STATUS_LAST_AP 4 (restDrops (updRest (fun r => { r with stage := 0 }) s))
  | _ => s

/-- REST_STAGE_COMPLETE. -/
def execRestStageComplete (s : State) : Res := .next (stageDone s)

/-! ## Unwinding (R471) -/

/-- A dip that came in Rest is raised at the wake (R485). -/
def dipDue (s : State) : State :=
  if s.pwr.rest.dip then
    raise Ev.SUPPLY_WARN (updRest (fun r => { r with dip := false }) { s with out := { s.out with supply := fbit s Reg.PWR_STATUS_WARN } })
  else s

/-- A Rest entry unwinds to the mode from which it began. -/
def unwind (s : State) : State :=
  if s.pwr.rest.stage = 0 then s
  else
    let m := s.pwr.rest.entry
    let s := updRest (fun r => { r with stage := 0, kept := none }) s
    let s := { s with flow := { s.flow with mode := m }, hbm := { s.hbm with selfRefresh := false } }
    let s := raise Ev.REST_UNWOUND (fput Reg.PWR_REST_STATUS_UNWOUND 1 s)
    debugDue (linkResetDue (dipDue (lateTriggers (rasterStart s))))

/-- Stage 1 overruns its bound: the entry unwinds, and TIMEOUT reads 1. -/
def stageOverrun (s : State) : State :=
  if s.pwr.rest.stage = 1 then unwind (fput Reg.PWR_REST_STATUS_TIMEOUT 1 s) else s

/-- REST_STAGE_OVERRUN. -/
def execRestStageOverrun (s : State) : Res := .next (stageOverrun s)

/-! ## Wake (R470, R472 to R475) -/

/-- The number of a wake source in PWR_REST_STATUS.WAKE_SRC. -/
def WakeSource.number : WakeSource → Nat
  | .host => 1 | .cohort => 2 | .wakeL => 3

/-- A source may wake the module (R470). -/
def wakeEnabled (s : State) : WakeSource → Bool
  | .host => true
  | .cohort => fbit s Reg.PWR_CFG_COH_WAKE_EN
  | .wakeL => fbit s Reg.PWR_CFG_WAKE_L_EN

/-- A wake source arrives: before AP4 the entry unwinds; after it the wake begins. During DELAY_MS, and during a wake,
it does nothing (R382). -/
def restWake (src : WakeSource) (s : State) : State :=
  if !wakeEnabled s src then s
  else if s.pwr.rest.stage ≠ 0 then unwind (fput Reg.PWR_REST_STATUS_WAKE_SRC (WakeSource.number src) s)
  else if asleep s then fput Reg.PWR_REST_STATUS_WAKE_SRC (WakeSource.number src) (updRest (fun r => { r with waking := true }) s)
  else s

/-- REST_WAKE. -/
def execRestWake (src : WakeSource) (s : State) : Res := .next (restWake src s)

/-- Host-link activity wakes the module (R346, R470). -/
def hostTouch (s : State) : State := restWake .host s

/-- HOST_LINK_RESET: in Rest, and during Rest entry, first a wake (R478). Accesses that wait for a wake go with the link. -/
def hostLinkReset (k : LinkReset) (s : State) : State :=
  if s.flow.boot = .held then s
  else if resting s then hostTouch (updRest (fun r => { r with linkReset := some k }) { s with host := { s.host with held := [] } })
  else linkResetActs s

/-- HOST_LINK_RESET. -/
def execHostLinkReset (kind : LinkReset) (s : State) : Res := .next (hostLinkReset kind s)

/-- The time counter's upper bits after Rest (R432). -/
def wakeTime (s : State) : State :=
  { s with tim := { s.tim with
    high := s.tim.high + fget s Reg.TIM_REST_WRAPS_WRAPS, prevWraps := s.tim.h / 2 ^ 32, inRest := false } }

/-- A step channel that drove a motor reads STALLED (R475). -/
def stallSteps (s : State) : State :=
  (List.range 6).foldl (fun s n => if chanMode s n = 2 then fput (Reg.MOT_CH_STATUS_STATE n) stStalled s else s) s

/-- A domain comes up at the wake: it has votes, or one that depends on it has (R465, R472). -/
def wanted (s : State) (d : Nat) : Bool :=
  (List.range 9).any fun e => votes s e != 0 && (e == d || domainNeeds e == some d)

/-- A domain that is wanted comes up, its registers as firmware holds them. -/
def wakeDomain (s : State) (d : Nat) : State := if wanted s d then powerGood d (raiseDomain d s) else s

/-- The domains come up: PROC and MEM by AON, the others by their votes (R472). -/
def wakeDomains (s : State) : State :=
  let up := fun (s : State) (d : Nat) => powerGood d (beginRaise d s)
  let s := { s with hbm := { s.hbm with selfRefresh := false } }
  [4, 5, 6, 7, 8].foldl wakeDomain (up (up s 2) 3)

/-- The job goes back to its band checkpoint (R474). -/
def revertJob (s : State) : State :=
  let r := s.pwr.rest
  let i := r.ckptStripe
  let keep := fun (k : Nat) => decide (k < i)
  let s := { s with
    ingest := { s.ingest with
      nextSeq := r.ckptSeq, commitSeq := r.ckptSeq, cellsBelow := r.ckptCommit, curStripe := i, geomFirst := none
      blocks := [], stagingUsed := 0, abandoned := s.ingest.abandoned.filter keep }
    ras := { s.ras with
      geoms := [], pending := [], current := [], cells := List.replicate 64 none, stripeIdx := i, band := 0
      stripes := s.ras.stripes.filter fun d => keep d.stripeIdx
      ring := s.ras.ring.filter fun b => keep b.stripeIdx
      released := s.ras.released.filter fun b => keep b.stripeIdx
      density := s.ras.density.filter fun p => keep (densityBand p.1).1 }
    win := Window.closed }
  rset64 Reg.PWR_CKPT_SEQ_LO Reg.PWR_CKPT_SEQ_HI r.ckptSeq (skiverRestart s)

/-- The banks and regions that the retention check found lost are recorded (R473). -/
def recordLost (banks : BitVec 96) (regions : BitVec 16) (s : State) : State :=
  let s := (List.range 3).foldl (fun s i => rset (Reg.PWR_LOST i) (banks.extractLsb' (32 * i) 32) s) s
  let s := fput Reg.PWR_LOST_RGN_REGIONS regions.toNat s
  (List.range 96).foldl (fun s b => if banks.getLsbD b then emptyBanks b b s else s) s

/-- Banks whose contents are gone: lost ones, and those that the mask leaves out. -/
def goneBank (s : State) (lost : BitVec 96) (b : Nat) : Bool := lost.getLsbD b || !retained s b

/-- The region that holds the copies of stage 2 is lost. -/
def copyLost (s : State) (regions : BitVec 16) : Bool :=
  match s.pwr.rest.kept with
  | some k => regions.getLsbD k.at'
  | none => false

/-- Banks 92 and 93 are restored from their copies (Table 20-4). Their units are written as their domains come up. -/
def restoreCopies (s : State) : State :=
  match s.pwr.rest.kept with
  | some k => { s with beams := { s.beams with table := k.table, summary := k.summary }, ecc := { s.ecc with invalid := k.invalid } }
  | none => s

/-- The band checkpoint is taken from its copy (Table 20-4). -/
def copiedCheckpoint (s : State) : State :=
  match s.pwr.rest.kept with
  | some k => updRest (fun r => { r with ckptStripe := k.ckpt.1, ckptSeq := k.ckpt.2.1, ckptCommit := k.ckpt.2.2 }) s
  | none => s

/-- What the loss of bank 94 or 95 empties (Table 20-4). -/
def loseLogStore (s : State) : State :=
  absSync (fput Reg.ABS_STATUS_LOST 0 { copiedCheckpoint s with abs := { s.abs with openE := [], lost := none, waiting := [] } })

/-- The Proctor memory is gone, or a firmware region and no bank is: the Proctor restarts (Table 20-4). -/
def wakeRestart (gone : Bool) (s : State) : State :=
  if gone then startRestart (modeAfterRestart s.flow.mode) (notWatchdog s) else s

/-- The module is back in the mode from which it entered Rest, with its outputs as that mode has them. -/
def backFromRest (s : State) : State :=
  let m := s.pwr.rest.entry
  let s := updRest (fun r => { r with waking := false, kept := none }) s
  let s := { s with flow := { s.flow with mode := m }, coh := { s.coh with burstsEast := 0, burstsWest := 0 } }
  let s := if m = .hold then exposeOn s else s
  let s := stallSteps (streamSync (absSync (beamCounts s)))
  let s := if s.job.isSome && s.win.stripeIdx.isNone && s.flow.job != .loaded then openWindow s.prog.cur s else s
  dipDue (raise Ev.WAKE (castVotes (rasterStart s)))

/-- The wake completes: the retention check's findings take their response, and the triggers whose times have passed fire
(R442, R472 to R475, Table 20-4). -/
def wakeComplete (lostBanks : BitVec 96) (lostRegions : BitVec 16) (s : State) : State :=
  if !s.pwr.rest.waking then s
  else
    let lost := (List.range 96).foldl (fun m b => if lostBanks.getLsbD b && retained s b then m ||| (1 : BitVec 96) <<< b else m) 0
    let any : Bool := lost != 0 || lostRegions != 0
    let table := goneBank s lost 92 || goneBank s lost 93
    if table && copyLost s lostRegions then retentionReset s
    else
      let logs := goneBank s lost 94 || goneBank s lost 95
      let proc := goneBank s lost 90 || goneBank s lost 91 || (lostRegions != 0 && lost == 0)
      let s := if table then restoreCopies s else s
      let s := wakeDomains (wakeTime (recordLost lost lostRegions s))
      let s := if logs then loseLogStore s else s
      let s := raiseIf any Ev.RETENTION_LOST s
      let s := if any && s.job.isSome then revertJob s else s
      debugDue (wakeRestart proc (linkResetDue (lateTriggers (backFromRest s))))

/-! ## Power-good (R467) -/

/-- What a domain that has come up takes from the machine as it stands: the stream, the counts of the table, and for OUT an
optical reference that is out of lock (R234, Table 21-2). -/
def domainSync (d : Nat) (s : State) : State :=
  let s := if d = Dom.RAST then rasterStart (streamSync s) else s
  let s := if d = Dom.GATH then beamCounts s else s
  if d = Dom.OUT && !fbit s Reg.CLK_STATUS_OPT then opticsUnlock s else s

/-- DOMAIN_POWER_GOOD: a domain comes up. -/
def domainUp (d : Nat) (s : State) : State :=
  if s.pwr.raising.getLsbD d && needMet s d then
    let t := accessesGo d (domainSync d (powerGood d s))
    if !coreRuns s && coreRuns t then deliverTriggers t else t
  else s

/-- DOMAIN_POWER_GOOD. -/
def execDomainPowerGood (d : Fin 9) (s : State) : Res := .next (domainUp d.val s)

end Sys2Proof.Machine
end

