-- ==== Sys2Proof/Machine/Security.lean ====
section
/-!
DEFINITION. Security: the certificate chain, attestation, firmware images, the lifecycle with its zeroization, the
customer root key, and the JTAG TAP (R444 to R463, R379, R380, R511).
-/

namespace Sys2Proof.Machine

/-- The lifecycle codes of Table 14-3. -/
abbrev Life.manufacture : Nat := 0
abbrev Life.provisioned : Nat := 1
abbrev Life.secured : Nat := 2
abbrev Life.retired : Nat := 3

/-- The lifecycle state (R448). -/
def lifecycle (s : State) : Nat := fget s Reg.SEC_STATUS_LIFECYCLE

/-! ## CERT_READ and ATTEST (R380, R446, R461) -/

/-- The completion of CERT_READ: TOTAL, N and up to 216 bytes of the chain. -/
def certBytes (off : Nat) : List Byte :=
  let part := (Config.certChain.drop off).take 216
  leBytes 4 Config.certChain.length ++ leBytes 2 part.length ++ [0, 0] ++ part

/-- The command CERT_READ: an OFFSET beyond the chain lies out of reach. -/
def certReadCommand (r : Req) (off : Nat) (s : State) : State :=
  runCommand r { op := 0x0701, len := 4, accepted := rwhs s, reach := decide (off ≤ Config.certChain.length) }
    (complete r.slot .ok (certBytes off)) s

/-- CERT_READ. -/
def execCertRead (r : Req) (offset : Nat) (s : State) : Res := .next (certReadCommand r offset s)

/-- The job position of a report: JOB_ID, and layer, stripe and shot of the last Bell (R380, R461). Before the first Bell of
a job the three are free. -/
def jobPosition (s : State) (j : Job) : State × List Byte :=
  match s.prog.lastBell with
  | some (l, st) => (s, leBytes 8 j.jobId ++ leBytes 2 l ++ leBytes 2 st ++ leBytes 4 (storedReg s Reg.BELL_SHOT).toNat)
  | none => (useFree s, leBytes 8 j.jobId ++ leBytes 8 (freeNat s))

/-- Completion bytes 0x00 to 0x4F of a report (R380). -/
def reportBytes (kind : Nat) (s : State) (position : List Byte) : List Byte :=
  leBytes 1 kind ++ [0, 0, 0] ++ leBytes 4 s.sec.attests ++ leBytes 8 (ownDigest s) ++ slice (runningImage s).meas 0 48 ++
  slice position 0 16

/-- A report with its signature over NONCE and the report's own bytes, under the identity key, which the module holds in every
state in which it takes ATTEST (R444, Table 15-1). -/
def signedReport (s : State) (nonce report : List Byte) : List Byte :=
  report ++ (if s.sec.identity then slice (Config.identitySign (nonce ++ report)) 0 96 else List.replicate 96 0)

/-- The report is formed and COUNTER rises (R380; COUNTER starts at 0). -/
def attestEffect (slot : Fin 16) (nonce : List Byte) (kind : Nat) (s : State) : State :=
  let p := match s.job with
    | some j => jobPosition s j
    | none => (s, [])
  complete slot .ok (signedReport s (slice nonce 0 32) (reportBytes kind p.1 p.2))
    { p.1 with sec := { p.1.sec with attests := (p.1.sec.attests + 1) % 2 ^ 32 } }

/-- The command ATTEST. -/
def attestCommand (r : Req) (nonce : List Byte) (kind : Nat) (s : State) : State :=
  runCommand r { op := 0x0702, len := 36, inRange := decide (kind ≤ 1), accepted := rwhs s } (fun s =>
    if kind = 1 ∧ s.job.isNone then complete r.slot .noJob [] s else attestEffect r.slot nonce kind s) s

/-- ATTEST. -/
def execAttest (r : Req) (nonce : List Byte) (kind : Nat) (s : State) : Res := .next (attestCommand r nonce kind s)

/-! ## Firmware images (R457, R458) -/

/-- The fields of an image header lie in their ranges, its reserved bytes are zero, and the body fills the rest of the
buffer range (Table 19-6). -/
def imageFieldsOk (h : List Byte) (len : Nat) : Bool :=
  let body := leAt h 0x10 4
  slice h 0 4 == [0x44, 0x4D, 0x46, 0x57] && decide (leAt h 0x08 4 ≤ 127) && decide (1 ≤ body ∧ body ≤ 16776960) &&
  len == 256 + body && (slice h 0x14 12).all (· == 0) && (slice h 0x50 80).all (· == 0)

/-- The header's fields, its signature under the Ceraener firmware key, and BODY_HASH hold. -/
def imageVerifies (h : List Byte) (len : Nat) : Bool :=
  imageFieldsOk h len && Config.ecdsaOk Config.firmwareKey (slice h 0 0xA0) (slice h 0xA0 96) &&
  Config.sha384 (h.drop 256) == slice h 0x20 48

/-- The image that a header describes; FW_MEAS is the digest of header bytes 0x00 to 0x9F. -/
def imageOf (h : List Byte) : Image :=
  ⟨leAt h 0x04 4, leAt h 0x08 4, leAt h 0x0C 4, Config.sha384 (slice h 0 0xA0), true⟩

/-- The image is written into the slot that is not running. -/
def flashSlot (im : Image) (s : State) : State :=
  if s.sec.runningB then { s with sec := { s.sec with slotA := im } } else { s with sec := { s.sec with slotB := im } }

/-- The image is written into the slot that is not running, and the copy verified; only then is that slot the newest (R458).
Whether the flash has kept the copy whole is a free value (log entry 103). -/
def storeImage (slot : Fin 16) (im : Image) (s : State) : State :=
  let whole := decide (freeNat s % 2 = 1)
  let s := flashSlot { im with good := whole } (useFree s)
  if whole then
    complete slot .ok (leBytes 4 im.release ++ leBytes 4 im.rollback) { s with sec := { s.sec with newestB := !s.sec.runningB } }
  else complete slot .authFail [] (raise Ev.FW_VERIFY_FAIL s)

/-- The command FW_UPDATE. -/
def fwUpdateCommand (r : Req) (off len : Nat) (s : State) : State :=
  runCommand r
    { op := 0x0703, len := 8, inRange := bufferAligned off && decide (len ≤ 16777216), accepted := readyNoneOrService s,
      needs := [Dom.MEM], reach := bufferReach off len }
    (withBuffer off len fun h s =>
      if !imageVerifies h len then complete r.slot .authFail [] (raise Ev.FW_VERIFY_FAIL s)
      else if leAt h 0x08 4 < fget s Reg.SEC_ROLLBACK_COUNTER then complete r.slot .rollback [] (raise Ev.ROLLBACK_REFUSED s)
      else storeImage r.slot (imageOf h) s) s

/-- FW_UPDATE. -/
def execFwUpdate (r : Req) (offset len : Nat) (s : State) : Res := .next (fwUpdateCommand r offset len s)

/-! ## Lifecycle and keys (R448 to R450, R462) -/

/-- The key that authorises a transition, or none when Table 19-3 has no such transition. -/
def transitionKey (s : State) (src dst : Nat) : Option (List Byte) :=
  if src = Life.manufacture ∧ dst = Life.provisioned then some Config.lifecycleKey
  else if src = Life.provisioned ∧ dst = Life.secured then s.sec.rootKey
  else if src = Life.provisioned ∧ dst = Life.retired then some (s.sec.rootKey.getD Config.lifecycleKey)
  else if src = Life.secured ∧ dst = Life.retired then s.sec.rootKey
  else none

/-- The 14-byte message that AUTH signs (R449). -/
def transitionMessage (src dst : Nat) : List Byte :=
  [0x44, 0x4D, 0x4C, 0x43] ++ slice Config.serial 0 8 ++ leBytes 1 src ++ leBytes 1 dst

/-- Steps 1 and 2 of R462: BLANK_ALL asserts and EXPOSE_EN goes, which ends a check run (R250); then K_job, K_blk and the memory
key pair are zeroized, which leaves DRAM unreadable. -/
def zeroizeJob (s : State) : State :=
  let s := exposeOff (assertCut .hold (stepsNow s) s)
  fput Reg.SEC_STATUS_JOB_KEY 0 { s with sec := { s.sec with jobKey := none }, ecc := { s.ecc with memKeyGone := true } }

/-- Steps 3 and 4 of R462: the helper data is erased, and the identity and wrap keys with it; the customer root key is invalid. -/
def zeroizeIdentity (s : State) : State :=
  fput Reg.SEC_STATUS_ROOT_KEY 0 { s with sec := { s.sec with helper := false, identity := false, wrap := false, rootKey := none } }

/-- Entry to RETIRED: SEC_ZEROIZE.PENDING reads 1 from the first step to the last (R462). -/
def zeroize (s : State) : State :=
  fput Reg.SEC_ZEROIZE_PENDING 0 (zeroizeIdentity (zeroizeJob (fput Reg.SEC_ZEROIZE_PENDING 1 s)))

/-- A transition is committed: its fuses are blown, and it is reported. -/
def lifecycleEffect (dst : Nat) (s : State) : State :=
  let s := raise Ev.LIFECYCLE_CHANGE (fput Reg.SEC_STATUS_LIFECYCLE dst s)
  if dst = Life.retired then zeroize s else s

/-- A lifecycle transition is checked, and made (Table 15-6). -/
def lifecycleWith (slot : Fin 16) (target : Nat) (auth : List Byte) (s : State) : State :=
  match transitionKey s (lifecycle s) target with
  | none => complete slot .lifecycle [] s
  | some key =>
    if Config.ecdsaOk key (transitionMessage (lifecycle s) target) (slice auth 0 96) then
      complete slot .ok [] (lifecycleEffect target s)
    else complete slot .authFail [] s

/-- The command LIFECYCLE_SET. -/
def lifecycleSetCommand (r : Req) (target : Nat) (auth : List Byte) (s : State) : State :=
  runCommand r { op := 0x0704, len := 100, inRange := decide (1 ≤ target ∧ target ≤ 3), accepted := readyNoneOrService s }
    (lifecycleWith r.slot target auth) s

/-- LIFECYCLE_SET. -/
def execLifecycleSet (r : Req) (target : Nat) (auth : List Byte) (s : State) : Res :=
  .next (lifecycleSetCommand r target auth s)

/-- The command KEY_PROVISION: the customer root key is blown into fuses once. -/
def keyProvisionCommand (r : Req) (key : List Byte) (s : State) : State :=
  runCommand r { op := 0x0705, len := 96, accepted := readyNoneOrService s } (fun s =>
    if s.sec.order = 0 ∧ lifecycle s = Life.provisioned ∧ s.sec.rootKey.isNone then
      complete r.slot .ok [] (fput Reg.SEC_STATUS_ROOT_KEY 1 { s with sec := { s.sec with rootKey := some (slice key 0 96) } })
    else complete r.slot .lifecycle [] s) s

/-- KEY_PROVISION. -/
def execKeyProvision (r : Req) (key : List Byte) (s : State) : Res := .next (keyProvisionCommand r key s)

/-! ## The TAP (R460, R511) -/

/-- What IDCODE reads: 0xV512_681D, V being HW_REV bits [3:0] (R511, Table 14-3). -/
def idcode : Word := BitVec.ofNat 32 (hwRev % 16 * 2 ^ 28 + 0x512681D)

/-- The pins of the boundary chain: the digital and LVDS pins of J14 (R511, Table 23-4; log entry 171). -/
def chainPins : List J14Pin :=
  [.yA, .yB, .xA, .xB, .yawA, .yawB, .pwsD0, .pwsD1, .spD, .strobe 0, .strobe 1, .strobe 2, .strobe 3, .strobe 4, .strobe 5, .strobe 6,
    .strobe 7, .blankAll, .exposeEn, .gateIn, .step 0, .dirn 0, .step 1, .dirn 1, .step 2, .dirn 2, .step 3, .dirn 3, .gpio 0, .gpio 1,
    .gpio 2, .gpio 3, .gpio 4, .gpio 5, .gpio 6, .gpio 7, .wakeL, .mrstL, .slewSel 0, .slewSel 1]

/-- The level of a pin that the state settles: a current loop is high while it carries current (R230, R241, R525). The others, which
the world outside or a waveform in between sets, are free. -/
def pinLevel (s : State) : J14Pin → Option Bool
  | .strobe g => some (s.out.strobes.getLsbD g.val)
  | .blankAll => some (!fbit s Reg.OUT_STATUS_BLANK && !tapHolds s)
  | .exposeEn => some (fbit s Reg.OUT_STATUS_EXPOSE_EN)
  | .dirn k => some (chan s (k.val + 2)).dirn
  | .gpio n => some (gpioLevel s n.val)
  | .mrstL => some true
  | .yA | .yB | .xA | .xB | .yawA | .yawB | .pwsD0 | .pwsD1 | .spD | .gateIn | .step _ | .wakeL | .slewSel _ => none

/-- The levels of the boundary chain as SAMPLE/PRELOAD, EXTEST, CLAMP and HIGHZ find them. -/
def boundary (s : State) : List (J14Pin × Bool) :=
  chainPins.zipIdx.map fun p => (p.1, (pinLevel s p.1).getD (decide (Config.freeValue (s.free + p.2) % 2 = 1)))

/-- The data register that an instruction selects captures: the IDCODE word, the bypass bit, or the boundary chain (IEEE 1149.1,
R511). -/
def tapCapture (i : TapInstr) (s : State) : State :=
  match i with
  | .idcode => { s with sec := { s.sec with tapData := .idcode idcode } }
  | .bypass | .clamp | .highz | .debug => { s with sec := { s.sec with tapData := .bypass } }
  | .sample | .extest => { s with free := s.free + chainPins.length, sec := { s.sec with tapData := .boundary (boundary s) } }

/-- The TAP acts on an instruction. One that drives pins takes both currents, which ends a check run (R250, R512); with
the next that does not, EXPOSE_EN comes on again where the module still wants it, and settles anew (log entry 152). -/
def tapActs (i : TapInstr) (s : State) : State :=
  let s := tapCapture i { s with sec := { s.sec with tap := i } }
  if tapHolds s then fput Reg.OUT_STATUS_SETTLED 0 (fput Reg.OUT_STATUS_EXPOSE_EN 0 (assertCut .hold (stepsNow s) s))
  else if s.out.exposeSince.isSome then exposeOn s
  else s

/-- A locked instruction acts as BYPASS; the first since the last TAP reset is reported. -/
def tapLocked (s : State) : State :=
  let s := tapActs .bypass s
  if s.sec.tapArmed then
    raise Ev.DEBUG_ATTEMPT (fcount Reg.SEC_DEBUG_COUNT_COUNT 1 { s with sec := { s.sec with tapArmed := false } })
  else s

/-- The first debug instruction in PROVISIONED is held until the module has no job and a filled DRAM. -/
def tapDebug (s : State) : State :=
  if fbit s Reg.SEC_STATUS_DEBUG_OPEN then tapActs .debug s
  else debugDue { s with sec := { s.sec with debugHeld := true } }

/-- JTAG_INSTRUCTION: IDCODE and BYPASS always act; the others under the lifecycle state. -/
def jtagInstruction (i : TapInstr) (s : State) : State :=
  if i = .idcode ∨ i = .bypass ∨ lifecycle s = Life.manufacture then tapActs i s
  else if lifecycle s = Life.provisioned then
    if i = .debug then tapDebug s
    else tapActs (if tapDrives i && s.flow.mode != .service then .bypass else i) s
  else tapLocked s

/-- JTAG_INSTRUCTION. -/
def execJtagInstruction (i : TapInstr) (s : State) : Res := .next (jtagInstruction i s)

/-- DEBUG_OPEN: the sequence that a held debug instruction waits for is over. A module that has been SECURED or RETIRED since
is locked: the instruction acts as BYPASS (Table 19-2). -/
def debugOpens (s : State) : State :=
  if s.sec.debugHeld && lifecycle s != Life.manufacture && lifecycle s != Life.provisioned then
    tapLocked { s with sec := { s.sec with debugHeld := false, debugFill := false } }
  else if s.sec.debugHeld && s.sec.debugFill && s.job.isNone && s.hbm.fill.isNone && s.flow.boot == .over then
    fput Reg.SEC_STATUS_DEBUG_OPEN 1 (tapActs .debug { s with sec := { s.sec with debugHeld := false, debugFill := false } })
  else s

/-- DEBUG_OPEN. -/
def execDebugOpen (s : State) : Res := .next (debugOpens s)

/-- TAP_RESET: the instruction register holds IDCODE (IEEE 1149.1), and the next locked instruction is reported. -/
def tapReset (s : State) : State := tapActs .idcode { s with sec := { s.sec with tapArmed := true } }

/-- TAP_RESET. -/
def execTapReset (s : State) : Res := .next (tapReset s)

end Sys2Proof.Machine
end

