-- ==== Sys2Proof/Machine/SystemCmd.lean ====
section
/-!
DEFINITION. The commands of the System, Power and Diagnostics groups that touch no single block: NOP, STORED_CFG, REST_ENTER,
VOTE_SET, SUPPLY_CFG and EVENT_TEST (Tables 15-2, 15-7, 15-8).
-/

namespace Sys2Proof.Machine

/-- The command NOP: it completes, and does nothing else. -/
def nopCommand (r : Req) (s : State) : State := runCommand r { op := 0x0101, len := 0 } (complete r.slot .ok []) s

/-- NOP. -/
def execNop (r : Req) (s : State) : Res := .next (nopCommand r s)

/-- The command STORED_CFG: the stored order takes effect at the next POR (R310). -/
def storedCfgCommand (r : Req) (write order : Nat) (s : State) : State :=
  runCommand r { op := 0x0104, len := 4, inRange := decide (write ≤ 1 ∧ order ≤ 3), accepted := modeIn s [.ready, .service] } (fun s =>
    let s := if write = 1 then { s with hbm := { s.hbm with storedOrder := order } } else s
    complete r.slot .ok (leBytes 1 s.hbm.storedOrder ++ leBytes 1 (fget s Reg.HBM_MAP_CFG_ORDER) ++ [0, 0]) s) s

/-- STORED_CFG. -/
def execStoredCfg (r : Req) (write order : Nat) (s : State) : Res := .next (storedCfgCommand r write order s)

/-- The command REST_ENTER: it completes at acceptance, and the entry begins DELAY_MS later (R382). -/
def restEnterCommand (r : Req) (delay : Nat) (s : State) : State :=
  runCommand r
    { op := 0x0801, len := 4, inRange := decide (1 ≤ delay ∧ delay ≤ 1000), moves := true, accepted := restAllowed s }
    (fun s => updRest (fun x => { x with due := some s.flow.mode }) (complete r.slot .ok [] s)) s

/-- REST_ENTER. -/
def execRestEnter (r : Req) (delayMs : Nat) (s : State) : Res := .next (restEnterCommand r delayMs s)

/-- The domains with a vote that a word names. -/
def maskedDomains (m : Word) : List Nat := (List.range 9).filter fun d => decide (2 ≤ d) && m.getLsbD d

/-- The command VOTE_SET: the host votes of the masked domains, those cast before those withdrawn. -/
def voteSetCommand (r : Req) (mask vote : Word) (s : State) : State :=
  runCommand r { op := 0x0802, len := 8, inRange := bits mask.toNat 1 0 == 0 && decide (mask.toNat < 512), accepted := rwhs s } (fun s =>
    let s := setVotes (maskedDomains (mask &&& vote)) Client.host true s
    let s := setVotes (maskedDomains (mask &&& ~~~vote)) Client.host false s
    complete r.slot .ok (leBytes 4 (fget s Reg.PWR_STATUS_DOMAINS)) s) s

/-- VOTE_SET. -/
def execVoteSet (r : Req) (mask vote : Word) (s : State) : Res := .next (voteSetCommand r mask vote s)

/-- The command SUPPLY_CFG. -/
def supplyCfgCommand (r : Req) (auto : Nat) (s : State) : State :=
  runCommand r { op := 0x0803, len := 4, inRange := decide (auto ≤ 1) } (fun s =>
    complete r.slot .ok (leBytes 1 (fget s Reg.PWR_CFG_AUTO_RESUME)) (fput Reg.PWR_CFG_AUTO_RESUME auto s)) s

/-- SUPPLY_CFG. -/
def execSupplyCfg (r : Req) (autoResume : Nat) (s : State) : Res := .next (supplyCfgCommand r autoResume s)

/-- The command EVENT_TEST. -/
def eventTestCommand (r : Req) (s : State) : State :=
  runCommand r { op := 0x0904, len := 0 } (fun s => complete r.slot .ok [] (raise Ev.EVENT_TEST s)) s

/-- EVENT_TEST. -/
def execEventTest (r : Req) (s : State) : Res := .next (eventTestCommand r s)

end Sys2Proof.Machine
end

