-- ==== Sys2Proof/Machine/Mailbox.lean ====
section
/-!
DEFINITION. The mailboxes: a doorbell, the alive check, and the command that the request of a slot asks for (R353 to R358,
R363, R365), the accesses of the host to BAR0 (R344 to R346), and the end of a wake.
-/

namespace Sys2Proof.Machine

/-! ## The command of a request -/

/-- `n` free values, as magnitudes. -/
def freeList (s : State) (from_ n : Nat) : List Nat := (List.range n).map fun i => Config.freeValue (s.free + from_ + i)

/-- ANALOG_CAL as the module carries it out: what it measures is free (log entry 4). Table 9-3 has 8 sense inputs; the
manual has 24 temperature sensors at most and 9 rails. -/
def analogCalFree (r : Req) (s : State) : State :=
  let signedOf := fun (v : Nat) => signed 32 v
  let adc := ((freeList s 1 8).map signedOf).zip (freeList s 9 8)
  analogCalCommand r (freeNat s) adc ((freeList s 17 24).map signedOf) (freeList s 41 9) { s with free := s.free + 50 }

/-- Carry out a mailbox command. Rows that are no mailbox command stand in no slot. -/
def fwRun (i : Instr) (s : State) : State :=
  match i with
  | .nop r => nopCommand r s
  | .eventAck r m q => eventAckCommand r m q s
  | .storedCfg r w o => storedCfgCommand r w o s
  | .serviceEnter r => serviceEnterCommand r s
  | .serviceExit r => serviceExitCommand r s
  | .proctorRestart r => proctorRestartCommand r s
  | .cfgWrite r ws => cfgWriteCommand r ws s
  | .jobLoad r o l => jobLoadCommand r o l s
  | .jobSupplement r o l => jobSupplementCommand r o l s
  | .jobStart r l => jobStartCommand r l s
  | .holdRequest r => holdRequestCommand r s
  | .resume r => resumeCommand r s
  | .recessExtend r ms => recessExtendCommand r ms s
  | .layerClose r l f => layerCloseCommand r l f s
  | .jobClose r f => jobCloseCommand r f s
  | .jobAbort r => jobAbortCommand r s
  | .rejectRead r f => rejectReadCommand r f s
  | .cellEvict r f n ids a b => cellEvictCommand r f n ids a b s
  | .cacheStatus r => cacheStatusCommand r s
  | .absRead r f c => absReadCommand r f c s
  | .absAck r t => absAckCommand r t s
  | .absStatus r => absStatusCommand r s
  | .beamTableLoad r o l => beamTableLoadCommand r o l s
  | .beamSet r es => beamSetCommand r es s
  | .beamCheck r o => beamCheckCommand r o s
  | .beamLocate r => beamLocateCommand r s
  | .calStart r => calStartCommand r s
  | .calAbort r => calAbortCommand r s
  | .beamReport r k a => beamReportCommand r k a s
  | .analogCal r _ _ _ _ => analogCalFree r s
  | .memStatus r refs => memStatusCommand r refs s
  | .memZero r g f n => memZeroCommand r g f n s
  | .memFill r => memFillCommand r s
  | .cohortConfig r m o => cohortConfigCommand r m o s
  | .cohortShrink r k => cohortShrinkCommand r k s
  | .timeSet r a b => timeSetCommand r a b s
  | .timeRate r i => timeRateCommand r i s
  | .triggerSet r a b c d e f g => triggerSetCommand r a b c d e f g s
  | .ptpConfig r f d ip => ptpConfigCommand r f d ip s
  | .tsRead r => tsReadCommand r s
  | .refConfig r f => refConfigCommand r f s
  | .certRead r o => certReadCommand r o s
  | .attest r n k => attestCommand r n k s
  | .fwUpdate r o l => fwUpdateCommand r o l s
  | .lifecycleSet r t a => lifecycleSetCommand r t a s
  | .keyProvision r k => keyProvisionCommand r k s
  | .restEnter r d => restEnterCommand r d s
  | .voteSet r m v => voteSetCommand r m v s
  | .supplyCfg r a => supplyCfgCommand r a s
  | .peek r refs => peekCommand r refs s
  | .poke r ws => pokeCommand r ws s
  | .regRead r refs => regReadCommand r refs s
  | .eventTest r => eventTestCommand r s
  | .bistRun r k d => bistRunCommand r k d s
  | .monConfig r p c w a b => monConfigCommand r p c w a b s
  | .monRead r p f => monReadCommand r p f s
  | _ => s

/-! ## Doorbells (R354 to R357) -/

/-- The slot with a STALE completion: LAST_ALIVE stays. -/
def Slot.stale (sl : Slot) : Slot := ({ sl with ctag := sl.tag, calive := sl.alive } : Slot).completed .stale []

/-- The module turns to the doorbell of slot `n`: the alive check, then the command. -/
def takeSlot (n : Fin 16) (s : State) : State :=
  let sl := slotOf s n
  if !later32 sl.alive sl.lastAlive then fputBit Reg.MBX_STATE_BUSY n.val false (updSlot n Slot.stale s)
  else match requestOf n sl with
    | some i => fwRun i s
    | none => complete n .badOpcode [] (accept n s)

/-- The module takes a doorbell now: no command is in progress, and the Proctor runs, neither restarting nor in Rest. -/
def mayTake (s : State) : Bool := s.mail.current.isNone && proctorRuns s && !resting s

/-- Waiting doorbells are taken in order while each command completes at once. -/
def takeWaiting : Nat → State → State
  | 0, s => s
  | k + 1, s =>
    match s.mail.waiting with
    | n :: rest => if mayTake s then takeWaiting k (takeSlot n { s with mail := { s.mail with waiting := rest } }) else s
    | [] => s

/-- Every doorbell that can be taken is. -/
def takeDoorbells (s : State) : State := takeWaiting s.mail.waiting.length s

/-- A further doorbell to a busy slot (R354). -/
def overrun (s : State) : State := raise Ev.MBX_OVERRUN (fcount Reg.MBX_ERR_OVERRUN 1 s)

/-- The doorbell of slot `n` is written. -/
def doorbell (n : Fin 16) (s : State) : State :=
  if slotBusy s n then overrun s
  else takeDoorbells (fputBit Reg.MBX_STATE_BUSY n.val true { s with mail := { s.mail with waiting := s.mail.waiting ++ [n] } })

/-! ## Host accesses (R344, R345, R494, R536) -/

/-- A dropped host write is counted. -/
def dropHostWrite (s : State) : State := fcount Reg.MBX_ERR_DROPPED 1 s

/-- Four bytes of a slot, from a multiple of 4, as the host writes them; bytes 0x0C to 0x1F are the module's. -/
def Slot.hostWord (off : Nat) (v : Word) (sl : Slot) : Slot :=
  let x := v.toNat
  match off with
  | 0x00 => { sl with opcode := x % 65536, tag := x / 65536 }
  | 0x04 => { sl with alive := x }
  | 0x08 => { sl with length := x % 65536, reserved := x / 65536 }
  | _ =>
    if off < 0x20 then sl
    else { sl with payload := sl.payload.take (off - 0x20) ++ leBytes 4 x ++ sl.payload.drop (off - 0x20 + 4) }

/-- One aligned word that the host writes into BAR0, at an address outside the mailbox slots (Table 14-2). -/
def bar0Put (addr : Nat) (v : Word) (s : State) : State :=
  if 0x0800 ≤ addr ∧ addr < 0x0900 then writeReg .bar0 (0xE0000 + (addr - 0x0800)) v s
  else if 0xF000 ≤ addr ∧ addr < 0xF040 then doorbell (Fin.ofNat 16 ((addr - 0xF000) / 4)) s
  else if 0xF040 ≤ addr ∧ addr < 0xF100 ∧ (regDesc addr).isSome then writeReg .bar0 addr v s
  else s

/-- The words of a write: its low half, and the high half of an 8-byte write above it. -/
def writeWords (addr size : Nat) (v : DWord) : List (Nat × Word) :=
  if size = 8 then [(addr, v.extractLsb' 0 32), (addr + 4, v.extractLsb' 32 32)] else [(addr, v.extractLsb' 0 32)]

/-- The host writes to BAR0: 4 or 8 bytes, naturally aligned, and not to a busy slot; any other write is dropped. -/
def hostWrite (addr size : Nat) (v : DWord) (s : State) : State :=
  if ¬ (size = 4 ∨ size = 8) ∨ addr % size ≠ 0 then dropHostWrite s
  else if 0x1000 ≤ addr ∧ addr < 0x2000 then
    let n := Fin.ofNat 16 ((addr - 0x1000) / 256)
    if slotBusy s n then dropHostWrite s
    else (writeWords addr size v).foldl (fun s w => updSlot n (Slot.hostWord (w.1 % 256) w.2) s) s
  else (writeWords addr size v).foldl (fun s w => bar0Put w.1 w.2 s) s

/-! ## Accesses of the host (R346, R397, R398, R400) -/

/-- What an access of the host does once the HOST domain answers it. -/
def hostDo (i : Instr) (s : State) : State :=
  match i with
  | .mbxDoorbell n => doorbell n s
  | .registerWrite (.bar0 addr size) v => hostWrite addr size v s
  | .rcRegisterRead (.bar0 addr size) => hostRead addr size s
  | .dmaStart c => dmaStart c.val s
  | .dmaRetry c => dmaRetry c.val s
  | .dmaStop c => dmaStop c.val s
  | .dmaAppend c => dmaAppend c.val s
  | .checkUnitStart u _ => chkStart u.val true s
  | .checkUnitData8 u _ v => chkFeed u.val true (leBytes 1 v.toNat) s
  | .checkUnitData16 u _ v => chkFeed u.val true (leBytes 2 v.toNat) s
  | .checkUnitData32 u _ v => chkFeed u.val true (leBytes 4 v.toNat) s
  | _ => s

/-- The host accesses BAR0: in Rest that wakes the module, and the access waits for the wake (R346). Before the module is
released from reset nothing answers (log entry 115). -/
def hostAccess (i : Instr) (s : State) : State :=
  if s.flow.boot = .held then s
  else
    let s := hostTouch s
    if s.pwr.rest.waking then { s with host := { s.host with held := s.host.held ++ [i] } } else hostDo i s

/-- MBX_DOORBELL. -/
def execMbxDoorbell (slot : Fin 16) (s : State) : Res := .next (hostAccess (.mbxDoorbell slot) s)

/-- A write to a register. -/
def registerWrite (a : RegAccess) (v : DWord) (s : State) : State :=
  match a with
  | .bar0 addr size => hostAccess (.registerWrite (.bar0 addr size) v) s
  | .block ref => blockAccess ref (.registerWrite (.block ref) v) s

/-- REGISTER_WRITE. -/
def execRegisterWrite (a : RegAccess) (value : DWord) (s : State) : Res := .next (registerWrite a value s)

/-- A direct read of a register with RC fields. -/
def registerRead (a : RegAccess) (s : State) : State :=
  match a with
  | .bar0 addr size => hostAccess (.rcRegisterRead (.bar0 addr size)) s
  | .block ref => blockAccess ref (.rcRegisterRead (.block ref)) s

/-- RC_REGISTER_READ. -/
def execRcRegisterRead (a : RegAccess) (s : State) : Res := .next (registerRead a s)

/-- DMA_START. -/
def execDmaStart (c : Fin 8) (s : State) : Res := .next (hostAccess (.dmaStart c) s)

/-- DMA_RETRY. -/
def execDmaRetry (c : Fin 8) (s : State) : Res := .next (hostAccess (.dmaRetry c) s)

/-- DMA_STOP. -/
def execDmaStop (c : Fin 8) (s : State) : Res := .next (hostAccess (.dmaStop c) s)

/-- DMA_APPEND. -/
def execDmaAppend (c : Fin 8) (s : State) : Res := .next (hostAccess (.dmaAppend c) s)

/-- CHECK_UNIT_START. -/
def execCheckUnitStart (u : Fin 4) (byHost : Bool) (s : State) : Res :=
  .next (if byHost then hostAccess (.checkUnitStart u true) s else chkStart u.val false s)

/-- CHECK_UNIT_DATA8: byte [7:0]. -/
def execCheckUnitData8 (u : Fin 4) (byHost : Bool) (value : Word) (s : State) : Res :=
  .next (if byHost then hostAccess (.checkUnitData8 u true value) s else chkFeed u.val false (leBytes 1 value.toNat) s)

/-- CHECK_UNIT_DATA16: bytes [7:0] and then [15:8]. -/
def execCheckUnitData16 (u : Fin 4) (byHost : Bool) (value : Word) (s : State) : Res :=
  .next (if byHost then hostAccess (.checkUnitData16 u true value) s else chkFeed u.val false (leBytes 2 value.toNat) s)

/-- CHECK_UNIT_DATA32: four bytes, least significant first. -/
def execCheckUnitData32 (u : Fin 4) (byHost : Bool) (value : Word) (s : State) : Res :=
  .next (if byHost then hostAccess (.checkUnitData32 u true value) s else chkFeed u.val false (leBytes 4 value.toNat) s)

/-! ## The end of a wake -/

/-- The wake completes, and the accesses that waited for it are answered in order (R346, R472). -/
def wakeServes (lostBanks : BitVec 96) (lostRegions : BitVec 16) (s : State) : State :=
  let s := wakeComplete lostBanks lostRegions s
  if s.pwr.rest.waking then s else s.host.held.foldl (fun s i => hostAccess i s) { s with host := { s.host with held := [] } }

/-- WAKE_COMPLETE. -/
def execWakeComplete (lostBanks : BitVec 96) (lostRegions : BitVec 16) (s : State) : Res :=
  .next (wakeServes lostBanks lostRegions s)

end Sys2Proof.Machine
end

