-- ==== Sys2Proof/Machine/Dispatch.lean ====
section
/-!
DEFINITION. The dispatch: one arm per command, each one direct call of that command's meaning.
-/

namespace Sys2Proof.Machine

/-- The effect of one command. -/
def exec (i : Instr) (s : State) : Host.Outcome State Fault Refusal :=
  match i with
  | .nop r => Sys2Proof.Machine.execNop r s
  | .eventAck r mask seqSeen => Sys2Proof.Machine.execEventAck r mask seqSeen s
  | .storedCfg r write order => Sys2Proof.Machine.execStoredCfg r write order s
  | .serviceEnter r => Sys2Proof.Machine.execServiceEnter r s
  | .serviceExit r => Sys2Proof.Machine.execServiceExit r s
  | .proctorRestart r => Sys2Proof.Machine.execProctorRestart r s
  | .cfgWrite r writes => Sys2Proof.Machine.execCfgWrite r writes s
  | .jobLoad r offset len => Sys2Proof.Machine.execJobLoad r offset len s
  | .jobSupplement r offset len => Sys2Proof.Machine.execJobSupplement r offset len s
  | .jobStart r startLead => Sys2Proof.Machine.execJobStart r startLead s
  | .holdRequest r => Sys2Proof.Machine.execHoldRequest r s
  | .resume r => Sys2Proof.Machine.execResume r s
  | .recessExtend r ms => Sys2Proof.Machine.execRecessExtend r ms s
  | .layerClose r layer flags => Sys2Proof.Machine.execLayerClose r layer flags s
  | .jobClose r flags => Sys2Proof.Machine.execJobClose r flags s
  | .jobAbort r => Sys2Proof.Machine.execJobAbort r s
  | .rejectRead r first => Sys2Proof.Machine.execRejectRead r first s
  | .cellEvict r form n ids first last => Sys2Proof.Machine.execCellEvict r form n ids first last s
  | .cacheStatus r => Sys2Proof.Machine.execCacheStatus r s
  | .absRead r first count => Sys2Proof.Machine.execAbsRead r first count s
  | .absAck r newTail => Sys2Proof.Machine.execAbsAck r newTail s
  | .absStatus r => Sys2Proof.Machine.execAbsStatus r s
  | .beamTableLoad r offset len => Sys2Proof.Machine.execBeamTableLoad r offset len s
  | .beamSet r entries => Sys2Proof.Machine.execBeamSet r entries s
  | .beamCheck r op => Sys2Proof.Machine.execBeamCheck r op s
  | .beamLocate r => Sys2Proof.Machine.execBeamLocate r s
  | .calStart r => Sys2Proof.Machine.execCalStart r s
  | .calAbort r => Sys2Proof.Machine.execCalAbort r s
  | .beamReport r kind arg => Sys2Proof.Machine.execBeamReport r kind arg s
  | .analogCal r refvUv adc sensors rails => Sys2Proof.Machine.execAnalogCal r refvUv adc sensors rails s
  | .memStatus r refs => Sys2Proof.Machine.execMemStatus r refs s
  | .memZero r region firstPage pages => Sys2Proof.Machine.execMemZero r region firstPage pages s
  | .memFill r => Sys2Proof.Machine.execMemFill r s
  | .cohortConfig r members own => Sys2Proof.Machine.execCohortConfig r members own s
  | .cohortShrink r keep => Sys2Proof.Machine.execCohortShrink r keep s
  | .timeSet r seconds ns => Sys2Proof.Machine.execTimeSet r seconds ns s
  | .timeRate r increment => Sys2Proof.Machine.execTimeRate r increment s
  | .triggerSet r index action gpio startS startNs periodNs widthNs => Sys2Proof.Machine.execTriggerSet r index action gpio startS startNs periodNs widthNs s
  | .ptpConfig r flags domain ipv4 => Sys2Proof.Machine.execPtpConfig r flags domain ipv4 s
  | .tsRead r => Sys2Proof.Machine.execTsRead r s
  | .refConfig r flags => Sys2Proof.Machine.execRefConfig r flags s
  | .certRead r offset => Sys2Proof.Machine.execCertRead r offset s
  | .attest r nonce kind => Sys2Proof.Machine.execAttest r nonce kind s
  | .fwUpdate r offset len => Sys2Proof.Machine.execFwUpdate r offset len s
  | .lifecycleSet r target auth => Sys2Proof.Machine.execLifecycleSet r target auth s
  | .keyProvision r key => Sys2Proof.Machine.execKeyProvision r key s
  | .restEnter r delayMs => Sys2Proof.Machine.execRestEnter r delayMs s
  | .voteSet r mask vote => Sys2Proof.Machine.execVoteSet r mask vote s
  | .supplyCfg r autoResume => Sys2Proof.Machine.execSupplyCfg r autoResume s
  | .peek r refs => Sys2Proof.Machine.execPeek r refs s
  | .poke r writes => Sys2Proof.Machine.execPoke r writes s
  | .regRead r refs => Sys2Proof.Machine.execRegRead r refs s
  | .eventTest r => Sys2Proof.Machine.execEventTest r s
  | .bistRun r kind domains => Sys2Proof.Machine.execBistRun r kind domains s
  | .monConfig r probe source width lo hi => Sys2Proof.Machine.execMonConfig r probe source width lo hi s
  | .monRead r probe flags => Sys2Proof.Machine.execMonRead r probe flags s
  | .mbxDoorbell slot => Sys2Proof.Machine.execMbxDoorbell slot s
  | .registerWrite a value => Sys2Proof.Machine.execRegisterWrite a value s
  | .psetCommit => Sys2Proof.Machine.execPsetCommit s
  | .psetSwap => Sys2Proof.Machine.execPsetSwap s
  | .apply word => Sys2Proof.Machine.execApply word s
  | .beamTableApply => Sys2Proof.Machine.execBeamTableApply s
  | .posSet axis => Sys2Proof.Machine.execPosSet axis s
  | .cinchTest tripPs => Sys2Proof.Machine.execCinchTest tripPs s
  | .motionCommit ch byHost => Sys2Proof.Machine.execMotionCommit ch byHost s
  | .motionShadowWrite ch word high value => Sys2Proof.Machine.execMotionShadowWrite ch word high value s
  | .motionPlanComplete ch => Sys2Proof.Machine.execMotionPlanComplete ch s
  | .segmentSwap ch => Sys2Proof.Machine.execSegmentSwap ch s
  | .segmentEnd ch => Sys2Proof.Machine.execSegmentEnd ch s
  | .motionStop mask => Sys2Proof.Machine.execMotionStop mask s
  | .motionClear mask => Sys2Proof.Machine.execMotionClear mask s
  | .patternRun errors => Sys2Proof.Machine.execPatternRun errors s
  | .dmaStart c => Sys2Proof.Machine.execDmaStart c s
  | .dmaRetry c => Sys2Proof.Machine.execDmaRetry c s
  | .dmaStop c => Sys2Proof.Machine.execDmaStop c s
  | .dmaAppend c => Sys2Proof.Machine.execDmaAppend c s
  | .checkUnitStart u byHost => Sys2Proof.Machine.execCheckUnitStart u byHost s
  | .checkUnitData8 u byHost value => Sys2Proof.Machine.execCheckUnitData8 u byHost value s
  | .checkUnitData16 u byHost value => Sys2Proof.Machine.execCheckUnitData16 u byHost value s
  | .checkUnitData32 u byHost value => Sys2Proof.Machine.execCheckUnitData32 u byHost value s
  | .posYLoRead => Sys2Proof.Machine.execPosYLoRead s
  | .timNsRead => Sys2Proof.Machine.execTimNsRead s
  | .clkXovrClear value => Sys2Proof.Machine.execClkXovrClear value s
  | .monDiagAck value => Sys2Proof.Machine.execMonDiagAck value s
  | .monProbeWrite p reg value => Sys2Proof.Machine.execMonProbeWrite p reg value s
  | .powerOnReset cause => Sys2Proof.Machine.execPowerOnReset cause s
  | .mrst => Sys2Proof.Machine.execMrst s
  | .hostLinkReset kind => Sys2Proof.Machine.execHostLinkReset kind s
  | .watchdogExpiry => Sys2Proof.Machine.execWatchdogExpiry s
  | .dramFillComplete report => Sys2Proof.Machine.execDramFillComplete report s
  | .statusRefresh sec => Sys2Proof.Machine.execStatusRefresh sec s
  | .parameterTick => Sys2Proof.Machine.execParameterTick s
  | .quadEdge axis move stamp detected => Sys2Proof.Machine.execQuadEdge axis move stamp detected s
  | .pwsFrame d0 d1 arrival => Sys2Proof.Machine.execPwsFrame d0 d1 arrival s
  | .pwsAxisTimeout axis => Sys2Proof.Machine.execPwsAxisTimeout axis s
  | .shotCrossed shot tc tdet => Sys2Proof.Machine.execShotCrossed shot tc tdet s
  | .stripeArm t => Sys2Proof.Machine.execStripeArm t s
  | .bell ts => Sys2Proof.Machine.execBell ts s
  | .gatherComplete shot margins => Sys2Proof.Machine.execGatherComplete shot margins s
  | .laneDeadline group incomplete => Sys2Proof.Machine.execLaneDeadline group incomplete s
  | .frameStart lane t => Sys2Proof.Machine.execFrameStart lane t s
  | .idleFrame t => Sys2Proof.Machine.execIdleFrame t s
  | .strobeRise group => Sys2Proof.Machine.execStrobeRise group s
  | .strobeFall group => Sys2Proof.Machine.execStrobeFall group s
  | .echoReceived lane echo t => Sys2Proof.Machine.execEchoReceived lane echo t s
  | .echoDeadline lane t => Sys2Proof.Machine.execEchoDeadline lane t s
  | .returnLaneLock lane => Sys2Proof.Machine.execReturnLaneLock lane s
  | .returnLaneLockLost lane t => Sys2Proof.Machine.execReturnLaneLockLost lane t s
  | .returnLockTimeout lane t => Sys2Proof.Machine.execReturnLockTimeout lane t s
  | .txLaneFault lane t => Sys2Proof.Machine.execTxLaneFault lane t s
  | .linkLossClear => Sys2Proof.Machine.execLinkLossClear s
  | .opticsReport engine power bias temp => Sys2Proof.Machine.execOpticsReport engine power bias temp s
  | .cinchTrip t => Sys2Proof.Machine.execCinchTrip t s
  | .exposeSettleDone tripPs => Sys2Proof.Machine.execExposeSettleDone tripPs s
  | .holdEffect => Sys2Proof.Machine.execHoldEffect s
  | .lastLayerReady => Sys2Proof.Machine.execLastLayerReady s
  | .checkRunOpen slotUs => Sys2Proof.Machine.execCheckRunOpen slotUs s
  | .checkBell t sample stageX stageY => Sys2Proof.Machine.execCheckBell t sample stageX stageY s
  | .gateInEdge edge => Sys2Proof.Machine.execGateInEdge edge s
  | .checkWindowClose group high => Sys2Proof.Machine.execCheckWindowClose group high s
  | .checkBatchEnd => Sys2Proof.Machine.execCheckBatchEnd s
  | .readyGpioFall => Sys2Proof.Machine.execReadyGpioFall s
  | .blockLanded c bytes => Sys2Proof.Machine.execBlockLanded c bytes s
  | .blockRefetch seq bytes => Sys2Proof.Machine.execBlockRefetch seq bytes s
  | .decodeStart seq => Sys2Proof.Machine.execDecodeStart seq s
  | .decodeComplete seq => Sys2Proof.Machine.execDecodeComplete seq s
  | .blockCommit => Sys2Proof.Machine.execBlockCommit s
  | .granuleReturn => Sys2Proof.Machine.execGranuleReturn s
  | .tileComplete tile => Sys2Proof.Machine.execTileComplete tile s
  | .bandFinalize => Sys2Proof.Machine.execBandFinalize s
  | .windowRowWrite => Sys2Proof.Machine.execWindowRowWrite s
  | .stagingRoom c => Sys2Proof.Machine.execStagingRoom c s
  | .dmaDescriptorFetch c read => Sys2Proof.Machine.execDmaDescriptorFetch c read s
  | .dmaDescriptorComplete c xfer => Sys2Proof.Machine.execDmaDescriptorComplete c xfer s
  | .pcieCorrectableError => Sys2Proof.Machine.execPcieCorrectableError s
  | .refreshInterval pc unitDone waiting => Sys2Proof.Machine.execRefreshInterval pc unitDone waiting s
  | .hbmTempRead stack a b => Sys2Proof.Machine.execHbmTempRead stack a b s
  | .neighbourRefresh pc bank row => Sys2Proof.Machine.execNeighbourRefresh pc bank row s
  | .disturbWindowStart stack => Sys2Proof.Machine.execDisturbWindowStart stack s
  | .hbmAerr error => Sys2Proof.Machine.execHbmAerr error s
  | .hbmPowerDown pc => Sys2Proof.Machine.execHbmPowerDown pc s
  | .scrubUnit addr result rewritten => Sys2Proof.Machine.execScrubUnit addr result rewritten s
  | .vinBelowWarning t => Sys2Proof.Machine.execVinBelowWarning t s
  | .supplyRecovery => Sys2Proof.Machine.execSupplyRecovery s
  | .railBelowWarning rail => Sys2Proof.Machine.execRailBelowWarning rail s
  | .restEntryStart => Sys2Proof.Machine.execRestEntryStart s
  | .restStageComplete => Sys2Proof.Machine.execRestStageComplete s
  | .restStageOverrun => Sys2Proof.Machine.execRestStageOverrun s
  | .restWake src => Sys2Proof.Machine.execRestWake src s
  | .wakeComplete lostBanks lostRegions => Sys2Proof.Machine.execWakeComplete lostBanks lostRegions s
  | .domainPowerGood d => Sys2Proof.Machine.execDomainPowerGood d s
  | .domainFault d => Sys2Proof.Machine.execDomainFault d s
  | .rollCallSend => Sys2Proof.Machine.execRollCallSend s
  | .rollCallReceived p f => Sys2Proof.Machine.execRollCallReceived p f s
  | .rollCallMiss pos => Sys2Proof.Machine.execRollCallMiss pos s
  | .reachExpiry pos => Sys2Proof.Machine.execReachExpiry pos s
  | .cohPortDown p => Sys2Proof.Machine.execCohPortDown p s
  | .timeReqSend p t1 => Sys2Proof.Machine.execTimeReqSend p t1 s
  | .timeReqReceived p f req t3 => Sys2Proof.Machine.execTimeReqReceived p f req t3 s
  | .timeRespReceived p f t4 => Sys2Proof.Machine.execTimeRespReceived p f t4 s
  | .readySend => Sys2Proof.Machine.execReadySend s
  | .readyReceived p f => Sys2Proof.Machine.execReadyReceived p f s
  | .goReceived p f => Sys2Proof.Machine.execGoReceived p f s
  | .armMissFrame p f => Sys2Proof.Machine.execArmMissFrame p f s
  | .membershipReceived p f => Sys2Proof.Machine.execMembershipReceived p f s
  | .resumeFrameReceived p f => Sys2Proof.Machine.execResumeFrameReceived p f s
  | .holdSetReceived p src holdId => Sys2Proof.Machine.execHoldSetReceived p src holdId s
  | .wakePatternBurst => Sys2Proof.Machine.execWakePatternBurst s
  | .triggerFire n => Sys2Proof.Machine.execTriggerFire n s
  | .servoTick => Sys2Proof.Machine.execServoTick s
  | .refInWindow advance => Sys2Proof.Machine.execRefInWindow advance s
  | .refInLost => Sys2Proof.Machine.execRefInLost s
  | .ptpEventMessage m => Sys2Proof.Machine.execPtpEventMessage m s
  | .ptpSyncTimeout => Sys2Proof.Machine.execPtpSyncTimeout s
  | .stepPulse ch => Sys2Proof.Machine.execStepPulse ch s
  | .stallSample ch skipped code t => Sys2Proof.Machine.execStallSample ch skipped code t s
  | .approachStart => Sys2Proof.Machine.execApproachStart s
  | .dieTempRead temps => Sys2Proof.Machine.execDieTempRead temps s
  | .diagSnapshot => Sys2Proof.Machine.execDiagSnapshot s
  | .bistComplete failed misr memFail => Sys2Proof.Machine.execBistComplete failed misr memFail s
  | .gpioEdge n rising => Sys2Proof.Machine.execGpioEdge n rising s
  | .pllUnlock p => Sys2Proof.Machine.execPllUnlock p s
  | .pllRelock p => Sys2Proof.Machine.execPllRelock p s
  | .jtagInstruction ins => Sys2Proof.Machine.execJtagInstruction ins s
  | .debugOpen => Sys2Proof.Machine.execDebugOpen s
  | .rcRegisterRead a => Sys2Proof.Machine.execRcRegisterRead a s
  | .proctorRestartEnd => Sys2Proof.Machine.execProctorRestartEnd s
  | .porRelease slewSel => Sys2Proof.Machine.execPorRelease slewSel s
  | .mrstRelease slewSel => Sys2Proof.Machine.execMrstRelease slewSel s
  | .cohLaneLockChange p lane locked => Sys2Proof.Machine.execCohLaneLockChange p lane locked s
  | .ethLinkChange up => Sys2Proof.Machine.execEthLinkChange up s
  | .pcieLinkUp link width => Sys2Proof.Machine.execPcieLinkUp link width s
  | .railRecovery rail => Sys2Proof.Machine.execRailRecovery rail s
  | .vinRecoveryCrossing mv => Sys2Proof.Machine.execVinRecoveryCrossing mv s
  | .railSample mv => Sys2Proof.Machine.execRailSample mv s
  | .replayComplete ch => Sys2Proof.Machine.execReplayComplete ch s
  | .stopProfileEnd ch => Sys2Proof.Machine.execStopProfileEnd ch s
  | .counterWrap => Sys2Proof.Machine.execCounterWrap s
  | .auxAdcConversionEnd n code => Sys2Proof.Machine.execAuxAdcConversionEnd n code s
  | .gpioPulseEnd n => Sys2Proof.Machine.execGpioPulseEnd n s
  | .txLaneFaultEnd lane => Sys2Proof.Machine.execTxLaneFaultEnd lane s
  | .tapReset => Sys2Proof.Machine.execTapReset s

end Sys2Proof.Machine
end

