-- ==== Sys2Proof/Machine/Step.lean ====
section
/-!
DEFINITION. One step: the command at the front of the queue, or, when none waits, what the module does by itself: it
takes a waiting doorbell (R357), or the time counter advances by one increment (R430). Log entries 42 and 43.
-/

namespace Sys2Proof.Machine

/-- The module with no command waiting. -/
def idle (s : State) : State :=
  if s.flow.boot = .held then s
  else if !s.mail.waiting.isEmpty && mayTake s then takeDoorbells s
  else timeTick s

/-- One step. -/
def step (s : State) : Host.Outcome State Fault Refusal :=
  match s.pending with
  | c :: rest => exec c { s with pending := rest }
  | [] => .next (idle s)

/-- The state with the command that a table word spells in front of its queue; no word spells one. -/
def State.withFetchWord (s : State) (nbits w : Nat) : State :=
  match decodeTableWord nbits w with
  | some c => { s with pending := c :: s.pending }
  | none => s

end Sys2Proof.Machine
end

