-- ==== Sys2Proof/Safety.lean ====
section
/-!
DEFINITION. The terms of the claims: the forms of state that every command keeps, what it is for a command to complete,
and what a mailbox command leaves in its slot.
-/

namespace Sys2Proof.Machine

/-! ## Canonical state -/

/-- DRAM in its canonical form: addresses rising, no entry equal to what an unlisted byte reads as. -/
abbrev Memory.wf (m : List Host.Cell) : Bool := Sparse.wf dramPor m

/-- DRAM and the register file stand in their canonical form. -/
def State.canonical (s : State) : Prop := Memory.wf s.dram = true ∧ Sparse.wf regPor s.regs = true

/-! ## Completion -/

/-- The command completes: it has a next state, and that state has the property. -/
def Yields (i : Instr) (s : State) (p : State → Prop) : Prop := ∃ t, exec i s = .next t ∧ p t

/-- A run of commands that ends in a next state every time. -/
def SafeRun : List Instr → State → State → Prop
  | [], s, t => s = t
  | i :: is, s, t => Yields i s fun u => SafeRun is u t

/-- Every register but those listed reads the same. -/
def RegsKept (ks : List Nat) (s t : State) : Prop := ∀ k, k ∉ ks → rget t k = rget s k

/-- Every byte of DRAM reads the same. -/
def DramKept (s t : State) : Prop := ∀ a, dramByte t a = dramByte s a

/-- Every event but those listed stands. -/
def EventsKept (es : List Nat) (s t : State) : Prop := ∀ n, n < 96 → n ∉ es → t.ev.bits.getLsbD n = s.ev.bits.getLsbD n

/-- What software and the job see stands: modes, job, events, DRAM, and every register but those listed. -/
def Quiet (ks : List Nat) (s t : State) : Prop :=
  t.flow = s.flow ∧ t.job = s.job ∧ t.ev = s.ev ∧ RegsKept ks s t ∧ DramKept s t

/-- No reset holds the module, and it neither rests nor enters Rest: a host access wakes nothing (R344, R470). -/
def Awake (s : State) : Prop :=
  s.flow.boot ≠ .held ∧ s.flow.mode ≠ .rest ∧ s.pwr.rest.stage = 0 ∧ s.pwr.rest.waking = false

/-! ## The block stream -/

/-- A reject record has been made of a block, and SOURCE_CHECK raised (R102, R103). -/
def Recorded (s t : State) (seq cause off : Nat) : Prop :=
  (∃ l, t.ingest.rejects = (l ++ ⟨seq, cause, off⟩ :: s.ingest.rejects).take 16) ∧ t.ev.bits.getLsbD Ev.SOURCE_CHECK = true

/-- What the accepted blocks `bs` ask for at once is done: each has a SEQ of its own, no turn for check 4 has come, and the
block at the commit point is neither unrenderable nor discarded. -/
def Settled (bs : List Blk) : Prop :=
  (bs.map (·.seq)).Nodup ∧ nextHeld bs = none ∧ ∀ b, bs.head? = some b → b.phase ≠ .rejected ∧ b.phase ≠ .discarded

/-- No DRAM word is uncorrectable or poisoned, no channel is fenced, and none is about to be injected: every read answers. -/
def DramReads (s : State) : Prop :=
  s.ecc.dram.double = [] ∧ s.ecc.dram.poison = [] ∧ rget s Reg.HBM_FENCE = 0 ∧ s.flow.mode ≠ .service

/-! ## Mailbox commands -/

/-- What R363 asks of a request before its own conditions, on the state and the request alone: LENGTH is the command's,
no reserved byte is set, the lifecycle allows the opcode, Boot has not failed for it, no transition is in progress when
it asks for one (`moves`). No completion is cancelled by a host-link reset (R343). -/
def Admitted (s : State) (r : Req) (op len : Nat) (moves : Bool) : Prop :=
  r.length = len ∧ r.reservedZero = true ∧ lifecycleAllows s op = true ∧ bootRefuses s op = false ∧
  (moves = true → transitioning s = false) ∧ s.mail.orphan = false

/-- Slot `n` of `t` holds the completion of the command that slot `n` of `s` asked for (R356, R361): status, payload padded
with zeros, its length, the tag and ALIVE of the request, DONE equal to ALIVE, and BUSY clear. -/
def Answered (s t : State) (n : Fin 16) (st : Status) (payload : List Byte) : Prop :=
  (slotOf t n).status = st.code ∧ (slotOf t n).payload = padPayload payload ∧ (slotOf t n).clength = payload.length ∧
  (slotOf t n).ctag = (slotOf s n).tag ∧ (slotOf t n).lastAlive = (slotOf s n).alive ∧
  (slotOf t n).done = (slotOf s n).alive ∧ slotBusy t n = false

/-- `t` is `s` but for the bytes of slot `n`, its BUSY bit, the command in progress, and the delay of a REST_ENTER, which
any later command cancels (R382). -/
def SlotOnly (s t : State) (n : Fin 16) : Prop :=
  t = { s with mail := t.mail, regs := t.regs, pwr := { s.pwr with rest := { s.pwr.rest with due := none } } } ∧
  RegsKept [Reg.MBX_STATE] s t ∧
  ∀ m, m ≠ n → slotOf t m = slotOf s m ∧ slotBusy t m = slotBusy s m

/-- The command of slot `n` completes with this status and payload, and the state is otherwise `u`. -/
def Completes (i : Instr) (s : State) (n : Fin 16) (st : Status) (payload : List Byte) (u : State) : Prop :=
  Yields i s fun t => Answered s t n st payload ∧ SlotOnly u t n

/-- What a command that reads `len` bytes of the input buffer does after acceptance (R366, Table 13-2): `ok` with the bytes;
on a bus error it reads them once more, and a second one asks for the Proctor restart. -/
def FromBuffer (r : Req) (s t : State) (off len : Nat) (ok : State → List Byte → Prop) : Prop :=
  match memRead Port.proctor (bufferBase + off) len (accept r.slot s) with
  | (u, some h) => ok u h
  | (u, none) =>
    match memRead Port.proctor (bufferBase + off) len u with
    | (v, some h) => ok v h
    | (v, none) => t = askRestart (notWatchdog v)

/-- The domain of each block is one that is never switched, or a vote holds it (R465). -/
def Voted (s : State) (blocks : List Nat) : Prop := ∀ b ∈ blocks, blockDomain b < 2 ∨ votes s (blockDomain b) ≠ 0

/-! ## The DMA engines -/

/-- What the engines change of a channel as they go on: its reads of descriptors ahead, and its requests for data (R384, R385). -/
def ReadsOn (k l : DmaChan) : Prop := l = { k with reading := l.reading, sample := l.sample, asked := l.asked }

/-- The engines have gone on, and nothing else has happened. -/
def EnginesOnly (s t : State) : Prop :=
  (∀ d, ReadsOn (dmaChan s d) (dmaChan t d)) ∧
  t = { s with dma := { s.dma with chans := t.dma.chans, requests := t.dma.requests, turn := t.dma.turn } }

/-! ## Cohort frames -/

/-- What R408 and R409 ask of a received frame: COH is powered, its CRC checks, it comes from another position that is kept, and its
ALIVE is newer than the last one of that position, by the sign of the difference modulo 2^32. -/
def Acceptable (s : State) (f : CohFrame) : Prop :=
  powered s Dom.COH = true ∧ frameSound f = true ∧ f.src ≠ cohOwn s ∧ kept s f.src = true ∧
  ∀ a, (peer s f.src).alive = some a → 0 < (2 ^ 32 + f.alive - a) % 2 ^ 32 ∧ (2 ^ 32 + f.alive - a) % 2 ^ 32 < 2 ^ 31

end Sys2Proof.Machine
end

