-- ==== Sys2Proof/WellFormed.lean ====
section
/-!
DEFINITION. Well-formed commands: what the outside world can put into each field, by the width the manual gives it. A
value outside a command's own range but inside its field's width is well formed: the module refuses it itself.
-/

namespace Sys2Proof

/-- A number fits `n` bits. -/
def fits (n v : Nat) : Bool := decide (v < 2 ^ n)

/-- The common part of a request: LENGTH has 16 bits (R353). -/
def Req.wf (r : Req) : Bool := fits 16 r.length

/-- BLOCK has 8 bits and OFFSET 16 (R367). -/
def RegRef.wf (r : RegRef) : Bool := fits 8 r.block && fits 16 r.offset

/-- As a name, with its value. -/
def RegWrite.wf (w : RegWrite) : Bool := fits 8 w.block && fits 16 w.offset

/-- An access reaches BAR0 with a size of PCIe, or names a register. -/
def RegAccess.wf : RegAccess → Bool
  | .bar0 addr size => fits 16 addr && [1, 2, 4, 8].contains size
  | .block ref => ref.wf

/-- The fields of a cohort frame (Table 17-1). -/
def CohFrame.wf (f : CohFrame) : Bool :=
  fits 8 f.kind && fits 8 f.src && fits 8 f.hops && fits 8 f.npay && fits 24 f.reserved && fits 32 f.alive && fits 32 f.epoch &&
  f.payload.length == 8 * f.npay

/-- A DRAM address has 35 bits; an SRAM bank is one of 96, of 2 MiB (R308, R464). -/
def MemUnit.wf : MemUnit → Bool
  | .dram addr => fits 35 addr
  | .sram bank offset => decide (bank < 96) && fits 21 offset

/-- A list has so many elements. -/
def sized {α : Type} (n : Nat) (l : List α) : Bool := l.length == n

/-- A PTP message: the domain number has eight bits, sequenceId 16. -/
def PtpMsg.wf : PtpMsg → Bool
  | .sync h _ inc => fits 8 h.domain && fits 64 inc
  | .delayResp h i _ => fits 8 h.domain && fits 16 i
  | .sent i => fits 16 i
  | .unsupported => true

/-- A failed Boot step: a checker has a number other than 0 in eight bits; a training step, its channel and lane have the
widths of HBM_TRAIN_STATUS (R326, R341). -/
def BootFault.wf : BootFault → Bool
  | .selfTest checker => decide (0 < checker) && fits 8 checker
  | .march _ offset => decide (offset < 2097152)
  | .training step channel lane => decide (1 ≤ step ∧ step ≤ 7) && decide (channel < 32) && fits 10 lane
  | .other _ => true

/-- A command is well formed. -/
def Instr.wf : Instr → Bool
  | .nop r => r.wf
  | .eventAck r _ seqSeen => r.wf && fits 32 seqSeen
  | .storedCfg r write order => r.wf && fits 8 write && fits 8 order
  | .serviceEnter r => r.wf
  | .serviceExit r => r.wf
  | .proctorRestart r => r.wf
  | .cfgWrite r writes => r.wf && writes.all RegWrite.wf
  | .jobLoad r offset len => r.wf && fits 32 offset && fits 32 len
  | .jobSupplement r offset len => r.wf && fits 32 offset && fits 32 len
  | .jobStart r startLead => r.wf && fits 16 startLead
  | .holdRequest r => r.wf
  | .resume r => r.wf
  | .recessExtend r ms => r.wf && fits 32 ms
  | .layerClose r layer flags => r.wf && fits 16 layer && fits 8 flags
  | .jobClose r flags => r.wf && fits 8 flags
  | .jobAbort r => r.wf
  | .rejectRead r first => r.wf && fits 8 first
  | .cellEvict r form n ids first last =>
    r.wf && fits 8 form && fits 8 n && ids.all (fits 32) && fits 32 first && fits 32 last
  | .cacheStatus r => r.wf
  | .absRead r first count => r.wf && fits 32 first && fits 8 count
  | .absAck r newTail => r.wf && fits 32 newTail
  | .absStatus r => r.wf
  | .beamTableLoad r offset len => r.wf && fits 32 offset && fits 32 len
  | .beamSet r entries => r.wf && entries.all fun p => fits 32 p.1
  | .beamCheck r op => r.wf && fits 8 op
  | .beamLocate r => r.wf
  | .calStart r => r.wf
  | .calAbort r => r.wf
  | .beamReport r kind arg => r.wf && fits 8 kind && fits 32 arg
  | .analogCal r _ _ _ _ => r.wf
  | .memStatus r refs => r.wf && refs.all RegRef.wf
  | .memZero r region firstPage pages => r.wf && fits 8 region && fits 32 firstPage && fits 32 pages
  | .memFill r => r.wf
  | .cohortConfig r members own => r.wf && fits 8 members && fits 8 own
  | .cohortShrink r _ => r.wf
  | .timeSet r seconds ns => r.wf && fits 64 seconds && fits 32 ns
  | .timeRate r increment => r.wf && fits 64 increment
  | .triggerSet r index action gpio startS startNs periodNs widthNs =>
    r.wf && fits 8 index && fits 8 action && fits 8 gpio && fits 64 startS && fits 32 startNs && fits 32 periodNs && fits 32 widthNs
  | .ptpConfig r flags domain ipv4 => r.wf && fits 8 flags && fits 8 domain && fits 32 ipv4
  | .tsRead r => r.wf
  | .refConfig r flags => r.wf && fits 8 flags
  | .certRead r offset => r.wf && fits 32 offset
  | .attest r nonce kind => r.wf && sized 32 nonce && fits 8 kind
  | .fwUpdate r offset len => r.wf && fits 32 offset && fits 32 len
  | .lifecycleSet r target auth => r.wf && fits 8 target && sized 96 auth
  | .keyProvision r key => r.wf && sized 96 key
  | .restEnter r delayMs => r.wf && fits 16 delayMs
  | .voteSet r _ _ => r.wf
  | .supplyCfg r autoResume => r.wf && fits 8 autoResume
  | .peek r refs => r.wf && refs.all RegRef.wf
  | .poke r writes => r.wf && writes.all RegWrite.wf
  | .regRead r refs => r.wf && refs.all RegRef.wf
  | .eventTest r => r.wf
  | .bistRun r kind domains => r.wf && fits 8 kind && fits 32 domains
  | .monConfig r probe source _ _ _ => r.wf && fits 8 probe && fits 16 source
  | .monRead r probe flags => r.wf && fits 8 probe && fits 8 flags
  | .mbxDoorbell _ => true
  | .registerWrite a _ => a.wf
  | .psetCommit => true
  | .psetSwap => true
  | .apply _ => true
  | .beamTableApply => true
  | .posSet axis => fits 2 axis
  | .cinchTest _ => true
  | .motionCommit _ _ => true
  | .motionShadowWrite _ _ _ _ => true
  | .motionPlanComplete _ => true
  | .segmentSwap _ => true
  | .segmentEnd _ => true
  | .motionStop _ => true
  | .motionClear _ => true
  | .patternRun _ => true
  | .dmaStart _ => true
  | .dmaRetry _ => true
  | .dmaStop _ => true
  | .dmaAppend _ => true
  | .checkUnitStart _ _ => true
  | .checkUnitData8 _ _ _ => true
  | .checkUnitData16 _ _ _ => true
  | .checkUnitData32 _ _ _ => true
  | .posYLoRead => true
  | .timNsRead => true
  | .clkXovrClear _ => true
  | .monDiagAck _ => true
  | .monProbeWrite _ _ _ => true
  | .powerOnReset _ => true
  | .mrst => true
  | .hostLinkReset _ => true
  | .watchdogExpiry => true
  | .dramFillComplete report =>
    (match report.fault with | some (step, f) => decide (0 < step) && fits 8 step && f.wf | none => true) &&
    report.spares.all fun p => decide (p.1 < 32) && fits 10 p.2
  | .statusRefresh _ => true
  | .parameterTick => true
  | .quadEdge _ _ stamp detected => decide (stamp ≤ detected)
  | .pwsFrame _ _ _ => true
  | .pwsAxisTimeout _ => true
  | .shotCrossed _ tc tdet => decide (tc ≤ tdet)
  | .stripeArm _ => true
  | .bell _ => true
  | .gatherComplete _ margins => sized 8 margins
  | .laneDeadline _ _ => true
  | .frameStart _ _ => true
  | .idleFrame _ => true
  | .strobeRise _ => true
  | .strobeFall _ => true
  | .echoReceived _ _ _ => true
  | .echoDeadline _ _ => true
  | .returnLaneLock _ => true
  | .returnLaneLockLost _ _ => true
  | .returnLockTimeout _ _ => true
  | .txLaneFault _ _ => true
  | .linkLossClear => true
  | .opticsReport _ power bias _ => sized 8 power && sized 8 bias
  | .cinchTrip _ => true
  | .exposeSettleDone _ => true
  | .holdEffect => true
  | .lastLayerReady => true
  | .checkRunOpen _ => true
  | .checkBell _ sample _ _ => fits 16 sample
  | .gateInEdge _ => true
  | .checkWindowClose _ _ => true
  | .checkBatchEnd => true
  | .readyGpioFall => true
  | .blockLanded _ bytes => decide (104 ≤ bytes.length ∧ bytes.length ≤ 1048664)
  | .blockRefetch seq bytes => fits 64 seq && decide (104 ≤ bytes.length ∧ bytes.length ≤ 1048664)
  | .decodeStart seq => fits 64 seq
  | .decodeComplete seq => fits 64 seq
  | .blockCommit => true
  | .granuleReturn => true
  | .tileComplete _ => true
  | .bandFinalize => true
  | .windowRowWrite => true
  | .stagingRoom _ => true
  | .dmaDescriptorFetch _ _ => true
  | .dmaDescriptorComplete _ _ => true
  | .pcieCorrectableError => true
  | .refreshInterval _ _ waiting => waiting.all fun w => decide (w.port < 7)
  | .hbmTempRead _ a b => fits 8 a && fits 8 b
  | .neighbourRefresh _ _ row => fits 14 row
  | .disturbWindowStart _ => true
  | .hbmAerr error => decide (error.unconfirmed ≤ 32)
  | .hbmPowerDown _ => true
  | .scrubUnit addr _ _ => addr.wf
  | .vinBelowWarning _ => true
  | .supplyRecovery => true
  | .railBelowWarning _ => true
  | .restEntryStart => true
  | .restStageComplete => true
  | .restStageOverrun => true
  | .restWake _ => true
  | .wakeComplete _ _ => true
  | .domainPowerGood _ => true
  | .domainFault _ => true
  | .rollCallSend => true
  | .rollCallReceived _ f => f.wf
  | .rollCallMiss _ => true
  | .reachExpiry _ => true
  | .cohPortDown _ => true
  | .timeReqSend _ _ => true
  | .timeReqReceived _ f _ _ => f.wf
  | .timeRespReceived _ f _ => f.wf
  | .readySend => true
  | .readyReceived _ f => f.wf
  | .goReceived _ f => f.wf
  | .armMissFrame _ f => f.wf
  | .membershipReceived _ f => f.wf
  | .resumeFrameReceived _ f => f.wf
  | .holdSetReceived _ _ holdId => fits 16 holdId
  | .wakePatternBurst => true
  | .triggerFire _ => true
  | .servoTick => true
  | .refInWindow _ => true
  | .refInLost => true
  | .ptpEventMessage m => m.wf
  | .ptpSyncTimeout => true
  | .stepPulse _ => true
  | .stallSample _ _ code t => fits 16 code && fits 48 t
  | .approachStart => true
  | .dieTempRead _ => true
  | .diagSnapshot => true
  | .bistComplete _ _ memFail => match memFail with | some u => u.wf | none => true
  | .gpioEdge _ _ => true
  | .pllUnlock _ => true
  | .pllRelock _ => true
  | .jtagInstruction _ => true
  | .debugOpen => true
  | .rcRegisterRead a => a.wf
  | .proctorRestartEnd => true
  | .porRelease _ => true
  | .mrstRelease _ => true
  | .cohLaneLockChange _ _ _ => true
  | .ethLinkChange _ => true
  | .pcieLinkUp _ _ => true
  | .railRecovery _ => true
  | .vinRecoveryCrossing _ => true
  | .railSample mv => sized 9 mv
  | .replayComplete _ => true
  | .stopProfileEnd _ => true
  | .counterWrap => true
  | .auxAdcConversionEnd _ code => fits 16 code
  | .gpioPulseEnd _ => true
  | .txLaneFaultEnd _ => true
  | .tapReset => true

end Sys2Proof
end

