-- ==== Sys2Proof/Certificates/Slice0/Obligations.lean ====
section
/-!
DEFINITION. The statements about the model, for the provers: first the step and the queue, then the commands family by
family, in the order of the command table. `Yields i s p` says that the command completes with a next state that has `p`.
-/

open Sys2Proof Sys2Proof.Machine

/-! ## The step, the queue, reset -/

/-- A step runs the command at the front of the queue, with the queue's rest. -/
def Obligations.StepRunsFront : Prop :=
  ∀ (c : Instr) (rest : List Instr) (s : State), step { s with pending := c :: rest } = exec c { s with pending := rest }

/-- On an empty queue (the model's choice, log entries 42 and 43): held by a reset, nothing happens; a doorbell that may be taken
is taken; otherwise the time counter advances by one increment (R430). No command but the one taken leaves the queue, and none
joins it. -/
def Obligations.StepIdlesAndTakesOne : Prop :=
  (∀ s : State, s.pending = [] →
    (s.flow.boot = .held → step s = .next s) ∧
    (s.flow.boot ≠ .held → s.mail.waiting ≠ [] → mayTake s = true → step s = .next (takeDoorbells s)) ∧
    (s.flow.boot ≠ .held → (s.mail.waiting = [] ∨ mayTake s = false) → step s = .next (timeTick s))) ∧
  ((∀ (i : Instr) (s t : State), exec i s = .next t → t.pending = s.pending) ∧
  ∀ s t : State, step s = .next t → t.pending = s.pending.tail)

/-- Every register reads its POR value after reset (R5); the module is in Boot with no job, its queue, its events and its
Hold causes empty (Tables 2-1, 2-5, 20-8). The model's own choices, no rule of the manual: DRAM reads zero before Boot has filled it
(log entry 2), and the registers that the manual takes from fuses and flash read zero (log entry 3). -/
def Obligations.ResetState : Prop :=
  (∀ k, rget State.reset k = regPor k) ∧ State.reset.flow.mode = .boot ∧ State.reset.flow.job = .none ∧
  State.reset.pending = [] ∧ State.reset.ev.bits = 0 ∧ State.reset.flow.causes = 0 ∧ (∀ n, slotOf State.reset n = Slot.zero) ∧
  ∀ a, dramByte State.reset a = 0

/-- DRAM and the register file are in canonical form after reset. -/
def Obligations.ResetCanonical : Prop :=
  State.reset.canonical

/-- Every step keeps DRAM and the register file in canonical form, from every state that has it. -/
def Obligations.StepKeepsCanonical : Prop :=
  ∀ s t : State, s.canonical → step s = .next t → t.canonical

/-- The request of every mailbox command, as Tables 15-2 to 15-8 lay it out, is read back as that command with every
field, for every value its bytes can carry. -/
def Obligations.RequestsRoundTrip : Prop :=
  ∀ (i : Instr) (r : Req) (op : Nat) (p : List Byte), i.wf = true → requestCarried i = true → encodeRequest i = some (r, op, p) →
    requestOf r.slot (requestSlot r op p) = some i

/-! ## Checks every mailbox command passes (R356, R362, R363) -/

/-- A mailbox command refused by a check of R363 completes with that check's status and an empty payload, and changes nothing but its
slot. For every mailbox command: a LENGTH that is not its table's gives BAD_LENGTH, a reserved byte BAD_PARAM. Command by command: a field
outside its range BAD_PARAM, a lifecycle or debug limit NOT_PERMITTED, a transition in progress BUSY, a mode or job state outside the row
WRONG_MODE, an unpowered domain DOMAIN_OFF, an index or address beyond reach RANGE (R356, R362 to R364; Tables 15-2 to 15-8). -/
def Obligations.RequestsAreChecked : Prop :=
  (∀ (i : Instr) (r : Req) (op : Nat) (p : List Byte) (s : State), i.wf = true → requestCarried i = true →
    encodeRequest i = some (r, op, p) → s.mail.orphan = false →
    (r.length ≠ (p.length + 3) / 4 * 4 → Completes i s r.slot .badLength [] s) ∧
    (r.length = (p.length + 3) / 4 * 4 → r.reservedZero = false → Completes i s r.slot .badParam [] s) ∧
    (r.length = 0 → p = [] → r.reservedZero = true →
      (lifecycleAllows s op = false → Completes i s r.slot .notPermitted [] s) ∧
      (lifecycleAllows s op = true → transitioning s = false → bootRefuses s op = true → Completes i s r.slot .wrongMode [] s))) ∧
  (∀ (r : Req) (s : State), s.mail.orphan = false → r.reservedZero = true →
    let refused := fun (st : Status) (i : Instr) => Completes i s r.slot st [] s
    let asks := fun (op len : Nat) => r.length = len ∧ lifecycleAllows s op = true
    let ready := fun (op len : Nat) => asks op len ∧ bootRefuses s op = false
    let writeHold := modeIn s [.write, .hold] = true
    let between := betweenStripes s = true
    -- BAD_PARAM
    (∀ n, (18 ≤ n → 256 < n) → n ≠ 0 → r.length = 4 → refused .badParam (.jobStart r n)) ∧
    (∀ n, n = 0 ∨ 60000 < n → r.length = 4 → refused .badParam (.recessExtend r n)) ∧
    (∀ n, n = 0 ∨ 1000 < n → r.length = 4 → refused .badParam (.restEnter r n)) ∧
    (∀ a b, 1 < a ∨ 3 < b → r.length = 4 → refused .badParam (.storedCfg r a b)) ∧
    (∀ m own, m = 0 ∨ 32 < m ∨ m ≤ own → r.length = 4 → refused .badParam (.cohortConfig r m own)) ∧
    (∀ f, 1 < f → r.length = 4 → refused .badParam (.jobClose r f) ∧ refused .badParam (.refConfig r f) ∧ refused .badParam (.supplyCfg r f)) ∧
    (∀ f n, 15 < n ∨ 1 < f → r.length = 4 → refused .badParam (.monRead r n f)) ∧
    (∀ n, 15 < n → r.length = 4 → refused .badParam (.rejectRead r n)) ∧
    (∀ n, 2 < n → r.length = 4 → refused .badParam (.beamCheck r n)) ∧
    (∀ off len, off % 8 ≠ 0 → r.length = 8 → refused .badParam (.jobLoad r off len) ∧ refused .badParam (.jobSupplement r off len) ∧
      refused .badParam (.beamTableLoad r off len) ∧ refused .badParam (.fwUpdate r off len)) ∧
    (∀ first n, n = 0 ∨ 6 < n → r.length = 8 → refused .badParam (.absRead r first n)) ∧
    (∀ kind arg, 2 < kind → r.length = 8 → refused .badParam (.beamReport r kind arg)) ∧
    (∀ g first n, g = 0 ∨ 7 < g → r.length = 12 → refused .badParam (.memZero r g first n)) ∧
    (∀ sec ns, 2 ^ 48 ≤ sec ∨ 1000000000 ≤ ns → r.length = 12 → refused .badParam (.timeSet r sec ns)) ∧
    (∀ inc, inc < incMin ∨ incMax < inc → r.length = 8 → refused .badParam (.timeRate r inc)) ∧
    (∀ f d ip, 3 < f → r.length = 8 → refused .badParam (.ptpConfig r f d ip)) ∧
    (∀ n a g ss sn pe w, triggerOk n a g pe w = false → r.length = 24 → refused .badParam (.triggerSet r n a g ss sn pe w)) ∧
    (∀ nonce k, 1 < k → r.length = 36 → refused .badParam (.attest r nonce k)) ∧
    (∀ target auth, target = 0 ∨ 3 < target → r.length = 100 → refused .badParam (.lifecycleSet r target auth)) ∧
    (∀ mask seen, seen % 2 = 1 ∨ later32 seen s.page.coreSeq = true → r.length = 16 → refused .badParam (.eventAck r mask seen)) ∧
    -- NOT_PERMITTED
    (∀ off len, asks 0x0201 8 → off % 8 = 0 → fbit s Reg.SEC_STATUS_DEBUG_OPEN = true → refused .notPermitted (.jobLoad r off len)) ∧
    (∀ rs, asks 0x0901 (4 + 4 * List.length rs) → 1 ≤ List.length rs → List.length rs ≤ 52 → s.flow.mode ≠ .service →
      refused .notPermitted (.peek r rs)) ∧
    (∀ ws, asks 0x0902 (4 + 8 * List.length ws) → 1 ≤ List.length ws → List.length ws ≤ 27 → List.all ws valueOk = true →
      s.flow.mode ≠ .service → refused .notPermitted (.poke r ws)) ∧
    -- BUSY
    (transitioning s = true →
      (asks 0x0105 0 → refused .busy (.serviceEnter r)) ∧ (asks 0x0106 0 → refused .busy (.serviceExit r)) ∧
      (asks 0x0107 0 → refused .busy (.proctorRestart r)) ∧ (asks 0x0203 4 → refused .busy (.jobStart r 0)) ∧
      (asks 0x0204 0 → refused .busy (.holdRequest r)) ∧ (asks 0x0205 0 → refused .busy (.resume r)) ∧
      (asks 0x0207 4 → lastLayerOpen s = true → ∀ l, openLayer s = some l → refused .busy (.layerClose r l 0)) ∧
      (asks 0x0208 4 → refused .busy (.jobClose r 0)) ∧ (asks 0x0209 0 → refused .busy (.jobAbort r)) ∧
      (asks 0x0801 4 → refused .busy (.restEnter r 1)) ∧ (asks 0x0905 8 → refused .busy (.bistRun r 1 0))) ∧
    -- WRONG_MODE
    (rwhs s = false →
      (asks 0x020A 4 → refused .wrongMode (.rejectRead r 0)) ∧ (asks 0x020C 0 → refused .wrongMode (.cacheStatus r)) ∧
      (∀ n, asks 0x020D 8 → refused .wrongMode (.absRead r n 1)) ∧ (∀ n, asks 0x020E 4 → refused .wrongMode (.absAck r n)) ∧
      (asks 0x020F 0 → refused .wrongMode (.absStatus r)) ∧ (asks 0x0305 0 → refused .wrongMode (.calStart r)) ∧
      (asks 0x0306 0 → refused .wrongMode (.calAbort r)) ∧ (∀ a, asks 0x0307 8 → refused .wrongMode (.beamReport r 0 a)) ∧
      (asks 0x0605 0 → refused .wrongMode (.tsRead r)) ∧ (asks 0x0606 4 → refused .wrongMode (.refConfig r 0)) ∧
      (∀ n, asks 0x0701 4 → refused .wrongMode (.certRead r n)) ∧ (∀ n, asks 0x0702 36 → refused .wrongMode (.attest r n 0)) ∧
      (asks 0x0107 0 → transitioning s = false → refused .wrongMode (.proctorRestart r)) ∧
      (∀ v, asks 0x0802 8 → refused .wrongMode (.voteSet r 0 v))) ∧
    (readyNoneOrService s = false →
      (∀ off, asks 0x0301 8 → off % 8 = 0 → refused .wrongMode (.beamTableLoad r off 2097152)) ∧
      (asks 0x0501 4 → refused .wrongMode (.cohortConfig r 1 0)) ∧
      (∀ off, asks 0x0703 8 → off % 8 = 0 → refused .wrongMode (.fwUpdate r off 0)) ∧
      (∀ a, asks 0x0704 100 → refused .wrongMode (.lifecycleSet r 1 a)) ∧ (∀ k, asks 0x0705 96 → refused .wrongMode (.keyProvision r k))) ∧
    (s.flow.mode ≠ .ready → s.flow.mode ≠ .service →
      (asks 0x0104 4 → refused .wrongMode (.storedCfg r 0 0)) ∧ (∀ u a b c, asks 0x0308 0 → refused .wrongMode (.analogCal r u a b c)) ∧
      (asks 0x0601 12 → refused .wrongMode (.timeSet r 0 0)) ∧ (∀ d ip, asks 0x0604 8 → refused .wrongMode (.ptpConfig r 0 d ip))) ∧
    (s.flow.mode ≠ .service → (asks 0x0403 0 → refused .wrongMode (.memFill r)) ∧ (asks 0x0905 8 → refused .wrongMode (.bistRun r 0 0)) ∧
      (asks 0x0106 0 → transitioning s = false → refused .wrongMode (.serviceExit r))) ∧
    (s.flow.mode ≠ .hold → asks 0x0205 0 → transitioning s = false → refused .wrongMode (.resume r)) ∧
    (inState s .ready .none = false → (asks 0x0105 0 → transitioning s = false → refused .wrongMode (.serviceEnter r)) ∧
      (∀ off len, asks 0x0201 8 → off % 8 = 0 → fbit s Reg.SEC_STATUS_DEBUG_OPEN = false → refused .wrongMode (.jobLoad r off len))) ∧
    (inState s .ready .loaded = false → (asks 0x0203 4 → transitioning s = false → refused .wrongMode (.jobStart r 0)) ∧
      (¬ writeHold → (∀ off len, asks 0x0202 8 → off % 8 = 0 → refused .wrongMode (.jobSupplement r off len)) ∧
        (∀ a b, asks 0x020B 12 → refused .wrongMode (.cellEvict r 1 0 [] a b)))) ∧
    (¬ writeHold → asks 0x0204 0 → transitioning s = false → refused .wrongMode (.holdRequest r)) ∧
    (¬ (writeHold ∧ between) → asks 0x0206 4 → refused .wrongMode (.recessExtend r 1)) ∧
    (s.flow.mode ≠ .service → ¬ (writeHold ∧ between) → asks 0x0303 4 → refused .wrongMode (.beamCheck r 0)) ∧
    (s.flow.mode ≠ .service → ¬ (s.flow.mode = .hold ∧ between) → asks 0x0304 0 → refused .wrongMode (.beamLocate r)) ∧
    (restAllowed s = false → transitioning s = false → asks 0x0801 4 → refused .wrongMode (.restEnter r 1)) ∧
    -- DOMAIN_OFF
    (∀ off, off % 8 = 0 → powered s Dom.MEM = false →
      (∀ len, ready 0x0201 8 → fbit s Reg.SEC_STATUS_DEBUG_OPEN = false → inState s .ready .none = true → refused .domainOff (.jobLoad r off len)) ∧
      (∀ len, ready 0x0202 8 → writeHold → refused .domainOff (.jobSupplement r off len)) ∧
      (ready 0x0301 8 → readyNoneOrService s = true → refused .domainOff (.beamTableLoad r off 2097152)) ∧
      (ready 0x0703 8 → readyNoneOrService s = true → refused .domainOff (.fwUpdate r off 0))) ∧
    (rwhs s = true → powered s Dom.MEM = false → (ready 0x020F 0 → refused .domainOff (.absStatus r)) ∧
      (∀ n, ready 0x020D 8 → refused .domainOff (.absRead r n 1)) ∧ (∀ n, ready 0x020E 4 → refused .domainOff (.absAck r n))) ∧
    (rwhs s = true → powered s Dom.RAST = false → ready 0x020C 0 → refused .domainOff (.cacheStatus r)) ∧
    (rwhs s = true → powered s Dom.GATH = false → (ready 0x0305 0 → refused .domainOff (.calStart r)) ∧
      (ready 0x0306 0 → refused .domainOff (.calAbort r)) ∧ (∀ a, ready 0x0307 8 → refused .domainOff (.beamReport r 0 a))) ∧
    (s.flow.mode = .service → powered s Dom.MEM = false →
      (ready 0x0403 0 → refused .domainOff (.memFill r)) ∧ (∀ n, ready 0x0402 12 → refused .domainOff (.memZero r 1 0 n))) ∧
    (∀ (e : RegRef), powered s (blockDomain e.block) = false →
      (ready 0x0903 8 → refused .domainOff (.regRead r [e])) ∧
      (ready 0x0901 8 → debugAllowed s [e.block] = true → refused .domainOff (.peek r [e]))) ∧
    (inState s .ready .loaded = true → ready 0x0203 4 → transitioning s = false →
      powered s Dom.RAST = false ∨ powered s Dom.GATH = false ∨ powered s Dom.OUT = false → refused .domainOff (.jobStart r 0)) ∧
    -- RANGE
    (∀ off len, off % 8 = 0 → bufferReach off len = false → powered s Dom.MEM = true →
      (ready 0x0201 8 → fbit s Reg.SEC_STATUS_DEBUG_OPEN = false → inState s .ready .none = true → refused .range (.jobLoad r off len)) ∧
      (ready 0x0202 8 → writeHold → refused .range (.jobSupplement r off len)) ∧
      (ready 0x0703 8 → readyNoneOrService s = true → len ≤ 16777216 → refused .range (.fwUpdate r off len))) ∧
    (rwhs s = true → (∀ n, ready 0x0701 4 → Config.certChain.length < n → refused .range (.certRead r n)) ∧
      (∀ b, ready 0x0307 8 → nBeams ≤ b → refused .range (.beamReport r 1 b)) ∧
      (∀ n, ready 0x020D 8 → powered s Dom.MEM = true → absUsed s ≤ absIndex s n → refused .range (.absRead r n 1)) ∧
      (∀ n, ready 0x020E 4 → powered s Dom.MEM = true → absUsed s < absIndex s n → refused .range (.absAck r n))) ∧
    (∀ g first n, 1 ≤ g → g ≤ 7 → ready 0x0402 12 → s.flow.mode = .service → s.armed = none → powered s Dom.MEM = true →
      (region g).pages < first + n → refused .range (.memZero r g first n)) ∧
    ∀ (e : RegRef), powered s (blockDomain e.block) = true → refExists e.block e.offset = false →
      (ready 0x0903 8 → refused .range (.regRead r [e])) ∧ (ready 0x0901 8 → debugAllowed s [e.block] = true → refused .range (.peek r [e])))

/-! ## System, Power and Diagnostics groups -/

/-- NOP, EVENT_TEST and SUPPLY_CFG complete OK, EVENT_TEST raising its event and SUPPLY_CFG writing AUTO_RESUME and answering the value
before it; STORED_CFG writes the stored order when WRITE is 1 and answers it beside the order in force; REST_ENTER completes at once and
has its entry due from the mode in force; nothing else changes (R369, R381 to R383; Tables 15-2, 15-7, 15-8). -/
def Obligations.SystemCommandsComplete : Prop :=
  (∀ (r : Req) (s : State),
    (Admitted s r 0x0101 0 false → Completes (.nop r) s r.slot .ok [] s) ∧
    (Admitted s r 0x0904 0 false → Completes (.eventTest r) s r.slot .ok [] (raise Ev.EVENT_TEST s)) ∧
    ∀ a, Admitted s r 0x0803 4 false → a ≤ 1 →
      Completes (.supplyCfg r a) s r.slot .ok (leBytes 1 (fget s Reg.PWR_CFG_AUTO_RESUME)) (fput Reg.PWR_CFG_AUTO_RESUME a s)) ∧
  (∀ (r : Req) (s : State),
    (∀ o, Admitted s r 0x0104 4 false → o ≤ 3 → s.flow.mode = .ready ∨ s.flow.mode = .service →
      Completes (.storedCfg r 1 o) s r.slot .ok (leBytes 1 o ++ leBytes 1 (fget s Reg.HBM_MAP_CFG_ORDER) ++ [0, 0])
        { s with hbm := { s.hbm with storedOrder := o } } ∧
      Completes (.storedCfg r 0 o) s r.slot .ok (leBytes 1 s.hbm.storedOrder ++ leBytes 1 (fget s Reg.HBM_MAP_CFG_ORDER) ++ [0, 0]) s) ∧
    ∀ d, Admitted s r 0x0801 4 true → 1 ≤ d → d ≤ 1000 → restAllowed s = true →
      Yields (.restEnter r d) s fun t => Answered s t r.slot .ok [] ∧ t.pwr.rest.due = some s.flow.mode ∧
        SlotOnly s { t with pwr := { t.pwr with rest := { t.pwr.rest with due := none } } } r.slot)

/-- EVENT_ACK clears exactly the bits it may (R360), answers them and the masked bits left set, and touches no DRAM. SERVICE_ENTER changes
Ready with no job to Service; SERVICE_EXIT returns to Ready at once, or waits for a BIST and its DRAM fill. -/
def Obligations.EventsClearAndServiceEnters : Prop :=
  (∀ (r : Req) (s : State) (mask : BitVec 96) (seen : Nat), Admitted s r 0x0103 16 false → seen % 2 = 0 →
    later32 seen s.page.coreSeq = false →
    (∀ n, n < 96 → (clearedBits s mask seen).getLsbD n =
      (mask.getLsbD n && s.ev.bits.getLsbD n && shownBy s seen n && !conditionHolds s n)) ∧
    Yields (.eventAck r mask seen) s fun t =>
      Answered s t r.slot .ok (eventBytes (clearedBits s mask seen) ++ eventBytes (mask &&& s.ev.bits &&& ~~~(clearedBits s mask seen))) ∧
      t.ev.bits = s.ev.bits &&& ~~~(clearedBits s mask seen) ∧ t.flow.mode = s.flow.mode ∧ DramKept s t ∧
      RegsKept [Reg.MBX_STATE, Reg.OUT_STATUS] s t) ∧
  (∀ (r : Req) (s : State),
    (Admitted s r 0x0105 0 true → s.flow.mode = .ready → s.flow.job = .none →
      Completes (.serviceEnter r) s r.slot .ok []
        { s with flow := { s.flow with mode := .service }, health := { s.health with paused := false } }) ∧
    (Admitted s r 0x0106 0 true → s.flow.mode = .service → testRuns s = false →
      Yields (.serviceExit r) s fun t => t.flow.mode = .ready ∧ Answered s t r.slot .ok [] ∧ DramKept s t) ∧
    (Admitted s r 0x0106 0 true → s.flow.mode = .service → testRuns s = true →
      Yields (.serviceExit r) s fun t => t.flow.mode = .service ∧ t.flow.serviceExit = some r.slot ∧
        (slotOf t r.slot).status = Status.inProgress.code ∧ t.ev = s.ev ∧ RegsKept [Reg.MBX_STATE] s t ∧ DramKept s t))

/-! ## Registers -/

/-- A write to a register of the RAS_ or PEC_ block stores the RW bits and nothing else (R5): by firmware, by CFG_WRITE, and
by POKE in Service, which answer the number of writes made; a vote holds RAST, as R465 has it. -/
def Obligations.RegisterWritesStore : Prop :=
  ∀ (r : Req) (s : State) (b off : Nat) (v : DWord) (w : Word), b = 0x04 ∨ b = 0x05 → writable b off = true →
    powered s Dom.RAST = true →
    let k := b * 65536 + off
    let stored := fun (x : Word) => (rget s k &&& ~~~(codeBits RegDesc.rw k)) ||| (x &&& codeBits RegDesc.rw k)
    (Yields (.registerWrite (.block ⟨b, off⟩) v) s fun t =>
      rget t k = stored (v.extractLsb' 0 32) ∧ RegsKept [k] s t ∧ t = { s with regs := t.regs }) ∧
    (votes s Dom.RAST ≠ 0 → Admitted s r 0x0108 12 false → rwhs s = true → valueOk ⟨b, off, w⟩ = true →
      Yields (.cfgWrite r [⟨b, off, w⟩]) s fun t =>
        Answered s t r.slot .ok [1] ∧ rget t k = stored w ∧ RegsKept [k, Reg.MBX_STATE] s t ∧ t.flow = s.flow ∧ t.ev = s.ev ∧ DramKept s t) ∧
    (votes s Dom.RAST ≠ 0 → Admitted s r 0x0902 12 false → s.flow.mode = .service → valueOk ⟨b, off, w⟩ = true →
      Yields (.poke r [⟨b, off, w⟩]) s fun t =>
        Answered s t r.slot .ok [1] ∧ rget t k = stored w ∧ RegsKept [k, Reg.MBX_STATE] s t ∧ t.flow = s.flow ∧ t.ev = s.ev ∧ DramKept s t)

/-- CFG_WRITE and POKE of any list make their writes in order (R368), and complete, while firmware's vote, or the diagnostics vote, holds the
domains of the list (R466, R495). PEEK, REG_READ and MEM_STATUS answer the registers of their list, read in order, PEEK and REG_READ under
the diagnostics vote (R466), and leave DRAM, the modes and the events. A domain that is switched is held by a vote before the command
(R465). -/
def Obligations.RegisterListsAreServed : Prop :=
  (∀ (r : Req) (s : State) (ws : List RegWrite), 1 ≤ ws.length → ws.length ≤ 27 → ws.all valueOk = true →
    (ws.all fun e => powered s (blockDomain e.block)) = true →
    (Admitted s r 0x0108 (4 + 8 * ws.length) false → rwhs s = true → s.flow.mode = .service ∨ ws.any serviceOnly = false →
      ws.all cfgReach = true →
      Yields (.cfgWrite r ws) s fun t => t = setVotes (unheld Client.firmware (ws.map (·.block)) (accept r.slot s)) Client.firmware false
        (complete r.slot .ok (leBytes 1 ws.length) (writeRegs ws
          (setVotes (unheld Client.firmware (ws.map (·.block)) (accept r.slot s)) Client.firmware true (accept r.slot s))))) ∧
    (Admitted s r 0x0902 (4 + 8 * ws.length) false → debugAllowed s (ws.map (·.block)) = true →
      (ws.all fun e => writable e.block e.offset) = true →
      Yields (.poke r ws) s fun t => t = setVotes (unheld Client.diag (ws.map (·.block)) (accept r.slot s)) Client.diag false
        (complete r.slot .ok (leBytes 1 ws.length) (writeRegs ws
          (setVotes (unheld Client.diag (ws.map (·.block)) (accept r.slot s)) Client.diag true (accept r.slot s)))))) ∧
  (∀ (r : Req) (s : State) (refs : List RegRef), 1 ≤ refs.length → refs.length ≤ 52 →
    (refs.all fun e => refExists e.block e.offset) = true →
    let held := setVotes (unheld Client.diag (refs.map (·.block)) (accept r.slot s)) Client.diag true (accept r.slot s)
    let read := fun (i : Instr) (u : State) => Yields i s fun t =>
      Answered s t r.slot .ok (wordBytes (readRegs (refs.map RegRef.key) u).2) ∧
        DramKept s t ∧ t.flow = s.flow ∧ t.ev = s.ev ∧ t.job = s.job
    (Admitted s r 0x0901 (4 + 4 * refs.length) false → debugAllowed s (refs.map (·.block)) = true →
      (refs.all fun e => powered s (blockDomain e.block)) = true → Voted s (refs.map (·.block)) → read (.peek r refs) held) ∧
    (Admitted s r 0x0903 (4 + 4 * refs.length) false → (refs.all fun e => e.block != 0x11) = true →
      (refs.all fun e => powered s (blockDomain e.block)) = true → Voted s (refs.map (·.block)) → read (.regRead r refs) held) ∧
    (Admitted s r 0x0401 (4 + 4 * refs.length) false → (refs.all fun e => e.block == 0x0B || e.block == 0x0C) = true →
      powered s Dom.MEM = true → read (.memStatus r refs) (accept r.slot s)))

/-- A read of a register restarts its RC bits at their POR value, those of the two lead minima at the lead in force, and changes nothing
else (R5, R536); the two registers whose read captures companions do that instead (R209, R431). CLK_XOVR_CLEAR clears the bits
written 1, MON_DIAG_ACK keeps what is written and frees no more than HEAD, PSET_COMMIT sets PENDING, and PSET_SWAP copies the shadow
set when PENDING and does nothing otherwise (R178, R492, R506). -/
def Obligations.RegisterSideEffects : Prop :=
  (∀ (s : State) (b off : Nat), refExists b off = true → powered s (blockDomain b) = true →
    let k := b * 65536 + off
    let start := if k = Reg.RAS_LEAD_MIN then rget s Reg.RAS_BAND_LEAD
      else if k = Reg.GTH_WIN_LEAD_MIN then rget s Reg.GTH_WIN_LEAD else regPor k
    (k ≠ Reg.POS_Y_LO → k ≠ Reg.TIM_NS → Yields (.rcRegisterRead (.block ⟨b, off⟩)) s fun t =>
      rget t k = (rget s k &&& ~~~(codeBits RegDesc.rc k)) ||| (start &&& codeBits RegDesc.rc k) ∧
      RegsKept [k] s t ∧ t = { s with regs := t.regs }) ∧
    (k = Reg.POS_Y_LO → Yields (.rcRegisterRead (.block ⟨b, off⟩)) s fun t => t = posYLoCapture s) ∧
    (k = Reg.TIM_NS → Yields (.rcRegisterRead (.block ⟨b, off⟩)) s fun t => t = timNsCapture s)) ∧
  (∀ s : State,
    (∀ v, Yields (.clkXovrClear v) s fun t =>
      rget t Reg.CLK_XOVR = rget s Reg.CLK_XOVR &&& ~~~(v &&& codeBits RegDesc.w1c Reg.CLK_XOVR) ∧ RegsKept [Reg.CLK_XOVR] s t ∧
        t = { s with regs := t.regs }) ∧
    (∀ v : Word,
      let head := (rget s Reg.MON_DIAG_HEAD).toNat
      let ahead := fun (x : Nat) => (2 ^ 32 + x - s.mon.acked) % 2 ^ 32
      Yields (.monDiagAck v) s fun t =>
        rget t Reg.MON_DIAG_ACK = v ∧ t.mon = { s.mon with acked := if ahead head < ahead v.toNat then head else v.toNat } ∧
        RegsKept [Reg.MON_DIAG_ACK] s t ∧ t = { s with regs := t.regs, mon := t.mon }) ∧
    (Yields .psetCommit s fun t => fbit t Reg.GTH_PSET_STATUS_PENDING = true ∧ RegsKept [Reg.GTH_PSET_STATUS] s t ∧
        t = { s with regs := t.regs }) ∧
    (fbit s Reg.GTH_PSET_STATUS_PENDING = false → Yields .psetSwap s fun t => t = s) ∧
    (fbit s Reg.GTH_PSET_STATUS_PENDING = true → Yields .psetSwap s fun t =>
      fbit t Reg.GTH_PSET_STATUS_PENDING = false ∧ (rget t Reg.GTH_PSET_SEQ).toNat = ((rget s Reg.GTH_PSET_SEQ).toNat + 1) % 2 ^ 32 ∧
      (psetRegs.all fun p => rget t p.2 == rget s p.1) = true ∧
      RegsKept (Reg.GTH_PSET_STATUS :: Reg.GTH_PSET_SEQ :: psetRegs.map (·.2)) s t ∧ t = { s with regs := t.regs }))

/-! ## Job group -/

/-- JOB_LOAD reads its header from the input buffer and checks it in the order of R56: the structure of R76 gives HEADER_INVALID, the
signature SIGNATURE_INVALID, the other header rules HEADER_INVALID, the unwrapping of the key KEY_UNWRAP, the Beam Table
TABLE_INADMISSIBLE, the Config Digest DIGEST_MISMATCH. The first failure is the status and loads nothing; a header that passes all leaves
the job state LOADED, with its job and both keys. A bus error on the buffer has firmware read it once more, and then restart.
JOB_SUPPLEMENT reads its header from the input buffer and checks it against the loaded job in the four steps of R76, the first failure
being its status; a header that passes adds its stripes to those of its layers, and its blocks to the stream. -/
def Obligations.HeadersLoad : Prop :=
  (∀ (r : Req) (s : State) (off len : Nat), Admitted s r 0x0201 8 false → bufferAligned off = true →
    bufferReach off len = true → fbit s Reg.SEC_STATUS_DEBUG_OPEN = false → s.flow.mode = .ready → s.flow.job = .none →
    powered s Dom.MEM = true → Yields (.jobLoad r off len) s fun t => FromBuffer r s t off len fun u h =>
      let fails := fun (st : Status) => t = complete r.slot st [] u ∧ t.job = s.job ∧ t.sec = s.sec ∧ t.flow = s.flow ∧ DramKept s t
      (structureOk h len = false → fails .headerInvalid) ∧
      (structureOk h len = true → headerSigned u h = false → fails .signatureInvalid) ∧
      (structureOk h len = true → headerSigned u h = true → jobRulesOk h = false → fails .headerInvalid) ∧
      (structureOk h len = true → headerSigned u h = true → jobRulesOk h = true →
        (unwrapKey u h = none → fails .keyUnwrap) ∧
        ∀ k, unwrapKey u h = some k →
          (admissible u.beams.table = false → fails .tableInadmissible) ∧
          (admissible u.beams.table = true → hdrDigest h ≠ ownDigest u → fails .digestMismatch) ∧
          (admissible u.beams.table = true → hdrDigest h = ownDigest u →
            t = complete r.slot .ok (leBytes 8 (jobOf h).jobId ++ leBytes 4 (jobOf h).nlayer ++ leBytes 4 (jobOf h).stripes.length)
              (loadJob (jobOf h) k u) ∧
            t.flow.job = .loaded ∧ t.flow.mode = .ready ∧ t.job = some (jobOf h) ∧ t.sec.jobKey = some k ∧
            fget t Reg.SEC_STATUS_JOB_KEY = 1 ∧ DramKept s t))) ∧
  (∀ (r : Req) (s : State) (j : Job) (off len : Nat), Admitted s r 0x0202 8 false → bufferAligned off = true →
    bufferReach off len = true → (inState s .ready .loaded || modeIn s [.write, .hold]) = true → powered s Dom.MEM = true →
    s.job = some j → Yields (.jobSupplement r off len) s fun t => FromBuffer r s t off len fun u h =>
      let fails := fun (st : Status) => t = complete r.slot st [] u ∧ t.job = s.job ∧ t.flow = s.flow ∧ DramKept s t
      (structureOk h len = false → fails .headerInvalid) ∧
      (structureOk h len = true → headerSigned u h = false → fails .signatureInvalid) ∧
      (structureOk h len = true → headerSigned u h = true → supplementRulesOk u j h = false → fails .headerInvalid) ∧
      (structureOk h len = true → headerSigned u h = true → supplementRulesOk u j h = true →
        (hdrJobId h ≠ j.jobId ∨ hdrDigest h ≠ j.digest → fails .headerInvalid) ∧
        (hdrJobId h = j.jobId → hdrDigest h = j.digest →
          t = complete r.slot .ok (leBytes 4 (hdrStripes h).length ++ leBytes 4 0 ++ leBytes 8 (j.seqEnd + hdrNblock h))
            (supplementJob j (hdrStripes h) (hdrNblock h) u) ∧
          t.job = some { j with stripes := insertStripes j.stripes (hdrStripes h) j.nlayer, seqEnd := j.seqEnd + hdrNblock h } ∧
          t.flow.mode = s.flow.mode ∧ (s.flow.job ≠ .layerOpen → t.flow.job = s.flow.job) ∧
          (s.flow.job = .layerOpen → t.flow.job = .recess) ∧ DramKept s t)))

/-- JOB_START turns EXPOSE_EN on, unless a TAP instruction or a logic self-test holds it off (R507, R512), takes the stage, and stays in progress for
the settle of R242; START_LEAD 0 stands for 32. -/
def Obligations.JobStartBegins : Prop :=
  ∀ (r : Req) (s : State) (lead : Nat), Admitted s r 0x0203 4 true → lead = 0 ∨ (18 ≤ lead ∧ lead ≤ 256) → s.flow.mode = .ready →
    s.flow.job = .loaded → powered s Dom.RAST = true → powered s Dom.GATH = true → powered s Dom.OUT = true →
    Yields (.jobStart r lead) s fun t =>
      t.flow.starting = some (some r.slot) ∧ t.prog.startLead = (if lead = 0 then 32 else lead) ∧
      fbit t Reg.OUT_STATUS_EXPOSE_EN = (fbit s Reg.OUT_STATUS_EXPOSE_EN || !(tapHolds s || logicRuns s)) ∧
      fbit t (Reg.MOT_CH_STATUS_OWNED 0) = true ∧ fbit t (Reg.MOT_CH_STATUS_OWNED 1) = true ∧ t.flow.mode = .ready ∧ t.job = s.job ∧ t.ev = s.ev ∧ DramKept s t ∧
      (slotOf t r.slot).status = Status.inProgress.code ∧
      RegsKept [Reg.MBX_STATE, Reg.OUT_STATUS, Reg.MOT_CH_STATUS 0, Reg.MOT_CH_STATUS 1] s t

/-- HOLD_REQUEST sets cause 0 and, in Write, requests the Hold that HOLD_EFFECT carries out; in Hold it answers 1. HOLD_EFFECT takes a
requested Hold when it may act (R43): the module is in Hold, its request is spent, the HOLD event is raised and BLANK_ALL is asserted. -/
def Obligations.HoldIsTaken : Prop :=
  (∀ (r : Req) (s : State), Admitted s r 0x0204 0 true →
    (s.flow.mode = .write → Yields (.holdRequest r) s fun t =>
      t.flow.holdReq = true ∧ hasCause t 0 = true ∧ t.flow.mode = .write ∧ Answered s t r.slot .ok [0] ∧ t.ev = s.ev ∧
      RegsKept [Reg.MBX_STATE] s t ∧ DramKept s t) ∧
    (s.flow.mode = .hold → Yields (.holdRequest r) s fun t =>
      hasCause t 0 = true ∧ t.flow.mode = .hold ∧ t.flow.holdReq = s.flow.holdReq ∧ Answered s t r.slot .ok [1] ∧ t.ev = s.ev ∧
      RegsKept [Reg.MBX_STATE] s t ∧ DramKept s t)) ∧
  (∀ s : State, s.flow.holdReq = true → holdMayAct s = true → s.flow.mode = .write → s.flow.ending = none →
    s.flow.restartReq = false →
    Yields .holdEffect s fun t => t.flow.mode = .hold ∧ t.flow.holdReq = false ∧ t.flow.causes = s.flow.causes ∧
      t.flow.job = s.flow.job ∧ t.ev.bits.getLsbD Ev.HOLD = true ∧ fbit t Reg.OUT_STATUS_BLANK = true ∧ t.job = s.job ∧ DramKept s t)

/-- RESUME completes HOLD_CAUSE where a cause stands (R52). Otherwise it clears cause 0 and begins the resume that the state
asks for: at the next tick between stripes, at the shot next to be gathered within one (R53), or at once, at the stripe
boundary, where a cause of R55 has closed the stripe. -/
def Obligations.ResumeBegins : Prop :=
  ∀ (r : Req) (s : State), Admitted s r 0x0205 0 true → s.flow.mode = .hold →
    (resumeAllowed s = false → Completes (.resume r) s r.slot .holdCause [] s) ∧
    (resumeAllowed s = true → s.flow.job ≠ .stripe → Yields (.resume r) s fun t =>
      t.flow.resume = .atTick (some r.slot) ∧ hasCause t 0 = false ∧ t.flow.mode = .hold ∧ t.job = s.job ∧ t.ev = s.ev ∧ DramKept s t) ∧
    (resumeAllowed s = true → s.flow.job = .stripe → atBoundary s = false → Yields (.resume r) s fun t =>
      t.flow.resume = .inStripe (nextGathered s) (some r.slot) ∧ hasCause t 0 = false ∧ t.flow.mode = .hold ∧ t.job = s.job ∧
      t.ev = s.ev ∧ DramKept s t) ∧
    (resumeAllowed s = true → s.flow.job = .stripe → atBoundary s = true → Yields (.resume r) s fun t =>
      t.flow.mode = .write ∧ t.flow.job ≠ .stripe ∧ hasCause t 0 = false ∧ (slotOf t r.slot).status = Status.ok.code ∧ DramKept s t)

/-- RECESS_EXTEND moves the earliest end of the slot in progress to MS after acceptance, or leaves a later one; with none open, the
extension applies to the next slot: it ends at the earliest RECESS_MIN_MS or the extension, the longer, after its start; nothing else
changes (R374). -/
def Obligations.RecessIsExtended : Prop :=
  (∀ (r : Req) (s : State) (ms a e : Nat), Admitted s r 0x0206 4 false → 1 ≤ ms → ms ≤ 60000 → s.flow.mode = .write ∨ s.flow.mode = .hold →
    s.flow.job = .recess ∨ s.flow.job = .layerOpen →
    (s.prog.recess = some (a, e) → Completes (.recessExtend r ms) s r.slot .ok []
      { s with prog := { s.prog with recess := some (a, max e (timeE s + ms * 1000000)) } }) ∧
    (s.prog.recess = none → Completes (.recessExtend r ms) s r.slot .ok []
      { s with prog := { s.prog with extendMs := max s.prog.extendMs ms } })) ∧
  ∀ s : State,
    (openRecess s).prog.recess =
      some (timeE s, timeE s + max (fget s Reg.MOT_CHOREO_RECESS_MIN_MS) s.prog.extendMs * 1000000) ∧
    (openRecess s).prog.extendMs = 0

/-- LAYER_CLOSE without FORCE refuses a layer with open entries, answering how many, and closes a layer without: the next layer's Recess slot,
or, for the last layer, the end of the job that LAST_LAYER_READY carries out. With FORCE it closes the layer in either case, and raises
LAYER_FORCED (R63, R64). LAST_LAYER_READY: Ready with job state DONE, JOB_DONE raised, BLANK_ALL asserted and EXPOSE_EN off, and the
LAYER_CLOSE that waited completes (R64). JOB_ABORT in Write stops the stage at once (R304) and requests the Hold at which the job ends;
JOB_CLOSE without FORCE refuses a job with open entries (R65, R66). A job end with nothing fired outstanding and no stripe armed ends the
job at once: Ready with job state NONE, no job and no block key, and EXPOSE_EN off (R65, R66; Table 20-8). JOB_ABORT in every mode and job
state that accepts it but Write, and JOB_CLOSE in every one, with FORCE or with no entry that refuses it. -/
def Obligations.LayersAndJobsEnd : Prop :=
  (∀ (r : Req) (s : State) (layer : Nat), Admitted s r 0x0207 4 (lastLayerOpen s) → s.flow.mode = .write ∨ s.flow.mode = .hold →
    s.flow.job = .layerOpen → (∀ n slot, s.flow.resume ≠ .inStripe n slot) → openLayer s = some layer →
    (unreconciled s layer ≠ 0 → Completes (.layerClose r layer 0) s r.slot .unreconciled (leBytes 4 (unreconciled s layer)) s) ∧
    (unreconciled s layer = 0 → lastLayerOpen s = false → Yields (.layerClose r layer 0) s fun t =>
      t.flow.job = .recess ∧ t.prog.closed = s.prog.closed + 1 ∧ t.prog.recess ≠ none ∧ t.flow.mode = s.flow.mode ∧ t.job = s.job ∧
      (slotOf t r.slot).status = Status.ok.code ∧ DramKept s t) ∧
    (unreconciled s layer = 0 → lastLayerOpen s = true → Yields (.layerClose r layer 0) s fun t =>
      t.flow.lastLayer = some (r.slot, 0) ∧ t.flow.job = .layerOpen ∧ t.prog.closed = s.prog.closed + 1 ∧ t.job = s.job ∧ DramKept s t) ∧
    Yields (.layerClose r layer 1) s fun t =>
      t.prog.closed = s.prog.closed + 1 ∧ t.ev.bits.getLsbD Ev.LAYER_FORCED = true ∧ t.flow.mode = s.flow.mode ∧
      (lastLayerOpen s = false → t.flow.job = .recess ∧ (slotOf t r.slot).status = Status.ok.code)) ∧
  (∀ (s : State) (n : Fin 16) (w : Nat), s.flow.lastLayer = some (n, w) → s.flow.restartReq = false → s.mail.orphan = false →
    Yields .lastLayerReady s fun t => t.flow.mode = .ready ∧ t.flow.job = .done ∧ t.flow.lastLayer = none ∧
      t.ev.bits.getLsbD Ev.JOB_DONE = true ∧ fbit t Reg.OUT_STATUS_BLANK = true ∧ fbit t Reg.OUT_STATUS_EXPOSE_EN = false ∧
      (slotOf t n).status = Status.ok.code ∧ (slotOf t n).payload = padPayload (leBytes 4 w) ∧ slotBusy t n = false ∧ DramKept s t) ∧
  (∀ (r : Req) (s : State),
    (Admitted s r 0x0209 0 true → s.flow.mode = .write → Yields (.jobAbort r) s fun t =>
      t.flow.ending = some ⟨some r.slot, none, false⟩ ∧ t.flow.holdReq = true ∧ t.flow.mode = .write ∧ t.job = s.job ∧ t.ev = s.ev ∧
      (slotOf t r.slot).status = Status.inProgress.code ∧ t.mot.step = 0 ∧
      (∀ n, n < 2 → (chan s n).seg ≠ none → chanState t n ≠ stMoving) ∧
      (∀ k, k ≠ Reg.MBX_STATE → k / 65536 ≠ 0x0A → rget t k = rget s k) ∧ DramKept s t) ∧
    (Admitted s r 0x0208 4 true → s.flow.mode = .hold → closeRefused s ≠ 0 →
      Completes (.jobClose r 0) s r.slot .unreconciled (leBytes 4 (closeRefused s)) s)) ∧
  (∀ (r : Req) (s : State), s.armed = none → s.shots = [] → s.flow.job ≠ .stripe → s.sec.debugHeld = false →
    let ended := fun (t : State) => t.flow.mode = .ready ∧ t.flow.job = .none ∧ t.job = none ∧ t.sec.jobKey = none ∧ t.flow.ending = none ∧
      t.shots = [] ∧ fbit t Reg.OUT_STATUS_EXPOSE_EN = false
    (Admitted s r 0x0209 0 true → (s.flow.mode == .hold || inState s .ready .loaded || inState s .ready .done) = true →
      Yields (.jobAbort r) s ended) ∧
    (∀ flags, Admitted s r 0x0208 4 true →
      ((s.flow.mode == .write && betweenStripes s) || s.flow.mode == .hold || inState s .ready .done) = true →
      flags = 1 ∨ (flags = 0 ∧ closeRefused s = 0) → Yields (.jobClose r flags) s ended))

/-- REJECT_READ, CACHE_STATUS, ABS_READ and ABS_STATUS answer what they read, and leave the modes, DRAM, and the log or the cache that
they read. ABS_ACK of one index past ABS_TAIL frees that entry when it need not be kept (R275); CELL_EVICT of one cell that no other
cell places removes it from the directory (R123, R124). -/
def Obligations.JobReportsAndReleases : Prop :=
  (∀ (r : Req) (s : State), rwhs s = true →
    (∀ first, Admitted s r 0x020A 4 false → first ≤ 15 → Completes (.rejectRead r first) s r.slot .ok (rejectBytes s first) s) ∧
    (∀ first cnt, Admitted s r 0x020D 8 false → 1 ≤ cnt → cnt ≤ 6 → powered s Dom.MEM = true → absIndex s first < absUsed s →
      let n := min cnt (absUsed s - absIndex s first)
      Yields (.absRead r first cnt) s fun t =>
        Answered s t r.slot .ok (leBytes 4 first ++ leBytes 1 n ++ leBytes 3 0 ++ (absEntries first n (accept r.slot s)).2) ∧
        t.abs = s.abs ∧ t.flow = s.flow ∧ DramKept s t) ∧
    (Admitted s r 0x020C 0 false → powered s Dom.RAST = true → Yields (.cacheStatus r) s fun t =>
      Answered s t r.slot .ok (wordBytes (readRegs (registersFrom Reg.SKV_GUARD 12) (accept r.slot s)).2) ∧ t.cache = s.cache ∧
      t.flow = s.flow ∧ t.ev = s.ev ∧ DramKept s t) ∧
    (Admitted s r 0x020F 0 false → powered s Dom.MEM = true → Yields (.absStatus r) s fun t =>
      Answered s t r.slot .ok (wordBytes (readRegs (registersFrom Reg.ABS_CFG 10 ++ registersFrom (Reg.ABS_ENTRIES 1) 13) (accept r.slot s)).2) ∧
      t.abs = s.abs ∧ t.flow = s.flow ∧ t.ev = s.ev ∧ DramKept s t)) ∧
  (∀ (r : Req) (s : State),
    (∀ (e : AbsEntry), Admitted s r 0x020E 4 false → rwhs s = true → powered s Dom.MEM = true → s.abs.lost = none → s.abs.waiting = [] →
      1 ≤ absUsed s → s.abs.ring.lookup (fget s Reg.ABS_TAIL_INDEX) = some e → ackStops s e = false →
      Yields (.absAck r ((fget s Reg.ABS_TAIL_INDEX + 1) % 2 ^ 32)) s fun t =>
        fget t Reg.ABS_TAIL_INDEX = (fget s Reg.ABS_TAIL_INDEX + 1) % 2 ^ 32 ∧
        t.abs.ring = s.abs.ring.filter (fun p => p.1 != fget s Reg.ABS_TAIL_INDEX) ∧
        (slotOf t r.slot).status = Status.ok.code ∧ t.job = s.job ∧ DramKept s t) ∧
    (∀ id, Admitted s r 0x020B 8 false → inState s .ready .loaded = true → powered s Dom.RAST = true → evictBlocked s [id] = false →
      Yields (.cellEvict r 0 1 [id] id 0) s fun t =>
        t.cache.dir = s.cache.dir.filter (fun e => e.1 != id) ∧ (slotOf t r.slot).status = Status.ok.code ∧ t.flow = s.flow ∧
        t.ev = s.ev ∧ t.job = s.job ∧ DramKept s t))

/-! ## Beam and calibration group, and the Beam Table -/

/-- BEAM_TABLE_LOAD reads a table from the input buffer; a table without a fault becomes the Beam Table, with the summaries it gives
its cover sets, and the completion counts its beams; one with a fault is refused with what is wrong, and the table stands (R375, R377). -/
def Obligations.BeamTableLoads : Prop :=
  ∀ (r : Req) (s : State) (off : Nat), Admitted s r 0x0301 8 false → bufferAligned off = true → bufferReach off 2097152 = true →
    readyNoneOrService s = true → powered s Dom.MEM = true →
    Yields (.beamTableLoad r off 2097152) s fun t => FromBuffer r s t off 2097152 fun u h =>
      (tableFault (tableOf h) = none → t.beams.table = tableOf h ∧ t.beams.summary = allSummaries (tableOf h) ∧
        (slotOf t r.slot).status = Status.ok.code ∧
        (slotOf t r.slot).payload = padPayload (tableBytes (tableOf h) (allSummaries (tableOf h))) ∧ slotBusy t r.slot = false ∧
        t.job = s.job ∧ DramKept s t) ∧
      ∀ f, tableFault (tableOf h) = some f → t = complete r.slot .tableInadmissible f.bytes u ∧ t.beams = s.beams ∧ DramKept s t

/-- BEAM_SET in Ready and Service writes the entries at once, with the ranks of R16, after every apply that waits: each beam then has the
entry of the edited table. In Write and Hold it queues one apply that completes at its Bell or tick, and the table stands until then;
entries that leave no admissible table are refused and nothing else changes (R376). APPLY starts an apply when bit 0 is 1 and none is
pending, and stalls behind a pending one (R159); BEAM_TABLE_APPLY at a Bell or tick carries out the apply in force: the staged entries
stand in the Beam Table and the staged summary word in its cover set, and PENDING is clear, unless firmware's next change or a stalled
APPLY follows at once. Without an apply in force nothing happens. -/
def Obligations.BeamEntriesAreWritten : Prop :=
  (∀ (r : Req) (s : State) (es : List (Nat × DWord)), Admitted s r 0x0302 (4 + 12 * es.length) false → 1 ≤ es.length → es.length ≤ 16 →
    (es.all fun p => entRank p.2 == 0 && decide (p.1 < nBeams)) = true → rwhs s = true →
    (modeIn s [.write, .hold] = true → oneSet (tableAhead s) es = true) →
    Yields (.beamSet r es) s fun t =>
      if admissible (editedTable (tableForSet s) es) = true then
        t = (if modeIn s [.write, .hold] = true then
          queueApply (entSet (es.headD (0, 0)).2).toNat es (some r.slot) (remeasure es (accept r.slot s))
        else setAtOnce r.slot es (accept r.slot s)) ∧
        (modeIn s [.write, .hold] = true → t.beams.table = s.beams.table) ∧
        (modeIn s [.write, .hold] = false → (slotOf t r.slot).status = Status.ok.code ∧ slotBusy t r.slot = false ∧
          ∀ b, b < nBeams → entry t.beams.table b = entry (editedTable (applyAll (accept r.slot s)).beams.table es) b) ∧
        t.job = s.job ∧ DramKept s t
      else Answered s t r.slot .tableInadmissible [] ∧ SlotOnly s t r.slot) ∧
  (∀ (s : State) (w : Word),
    (applyPending s = false → w.getLsbD 0 = true → Yields (.apply w) s fun t =>
      t.beams.applyCmd = some (w, none) ∧ fbit t Reg.GTH_BT_STATUS_PENDING = true ∧ RegsKept [Reg.GTH_BT_STATUS] s t ∧
      t.beams.table = s.beams.table ∧ DramKept s t) ∧
    (applyPending s = true → Yields (.apply w) s fun t =>
      t = { s with beams := { s.beams with stalled := s.beams.stalled ++ [(Reg.GTH_BT_CMD, w)] } }) ∧
    (s.beams.applyCmd = none → Yields .beamTableApply s fun t => t = s) ∧
    ∀ slot, s.beams.applyCmd = some (w, slot) → Yields .beamTableApply s fun t =>
      (∀ b, entry t.beams.table b = entry (putEntries s.beams.table (stagedEntries s w)) b) ∧
      summary t (bits w.toNat 30 16) = rget s Reg.GTH_BT_SUM ∧ t.job = s.job ∧ DramKept s t ∧
      (s.beams.stalled = [] → s.beams.queue = [] → t.beams.applyCmd = none ∧ fbit t Reg.GTH_BT_STATUS_PENDING = false))

/-- BEAM_CHECK asks for a DARK (OP 0) or a SCAN from the first beam (OP 1), and stays in progress until the run begins, or ends the run and
the requests (OP 2), in the modes and job states that accept it; BEAM_LOCATE takes the stage and asks for its traverses, in progress until
the first begins; CAL_START begins the calibration at beam 0, or completes NO_REFERENCE without a reference; CAL_ABORT ends it and answers
the beam it stood at, and in Service stops the sequence of checks (R257, R262 to R264, R365, R375). BEAM_REPORT answers the calibration
registers (KIND 0), one beam's entry with its last SCAN pass and its last change of status (KIND 1; bytes of which there is no record yet
are free, log entry 40), or the history from an index on (KIND 2). ANALOG_CAL stores readings that lie within Table 9-3, and completes
CAL_FAIL with REFV_FAULT on any that do not. -/
def Obligations.ChecksAreAskedAndReported : Prop :=
  (∀ (r : Req) (s : State),
    let between := betweenStripes s = true
    let asked := fun (c : CheckStep) (t : State) => t.health.asked.contains c = true ∧ t.health.starts = s.health.starts ++ [(c, r.slot)] ∧
      (slotOf t r.slot).status = Status.inProgress.code ∧ t.health.paused = false ∧ t.flow = s.flow ∧ t.ev = s.ev ∧ DramKept s t
    let ended := fun (u : State) => if s.flow.mode = .service then stopChecks u else endCheckRun u
    (Admitted s r 0x0303 4 false → s.flow.mode = .service ∨ ((s.flow.mode = .write ∨ s.flow.mode = .hold) ∧ between) →
      Yields (.beamCheck r 0) s fun t => asked .dark t ∧ RegsKept [Reg.MBX_STATE] s t) ∧
    (Admitted s r 0x0303 4 false → s.flow.mode = .service ∨ (s.flow.mode = .write ∧ between) →
      Yields (.beamCheck r 1) s fun t => asked .scan t ∧ fget t Reg.BHM_SCAN_CURSOR_INDEX = 0 ∧
        RegsKept [Reg.MBX_STATE, Reg.BHM_SCAN_CURSOR] s t) ∧
    (Admitted s r 0x0303 4 false → s.flow.mode = .service → Yields (.beamCheck r 2) s fun t =>
      Answered s t r.slot .ok [] ∧ t.health.run = none ∧ t.health.asked = [] ∧ t.health.starts = [] ∧ t.health.paused = true ∧
      t.flow = s.flow ∧ DramKept s t) ∧
    (Admitted s r 0x0304 0 false → s.flow.mode = .service ∨ (s.flow.mode = .hold ∧ between) → Yields (.beamLocate r) s fun t =>
      asked .locateX t ∧ t.mot.locate = true ∧ fbit t (Reg.MOT_CH_STATUS_OWNED 0) = true ∧ fbit t (Reg.MOT_CH_STATUS_OWNED 1) = true) ∧
    (Admitted s r 0x0305 0 false → rwhs s = true → powered s Dom.GATH = true →
      (fget s Reg.BHM_CAL_REF_REF = 0 → Completes (.calStart r) s r.slot .noReference [] s) ∧
      (fget s Reg.BHM_CAL_REF_REF ≠ 0 → Yields (.calStart r) s fun t => Answered s t r.slot .ok [] ∧
        fbit t Reg.BHM_CAL_CURSOR_ACTIVE = true ∧ fget t Reg.BHM_CAL_CURSOR_BEAM = 0 ∧ RegsKept [Reg.MBX_STATE, Reg.BHM_CAL_CURSOR] s t ∧
        t.flow = s.flow ∧ DramKept s t)) ∧
    (Admitted s r 0x0306 0 false → rwhs s = true → powered s Dom.GATH = true → Yields (.calAbort r) s fun t =>
      Answered s t r.slot .ok (leBytes 4 (fget (ended (accept r.slot s)) Reg.BHM_CAL_CURSOR_BEAM)) ∧
      fbit t Reg.BHM_CAL_CURSOR_ACTIVE = false ∧ t.health.run = none ∧ (s.flow.mode = .service → t.health.asked = []) ∧
      t.flow = s.flow ∧ DramKept s t ∧
      (s.health.run = none → s.mot.locate = false → RegsKept [Reg.MBX_STATE, Reg.BHM_CAL_CURSOR] s t ∧
        fget (ended (accept r.slot s)) Reg.BHM_CAL_CURSOR_BEAM = fget s Reg.BHM_CAL_CURSOR_BEAM))) ∧
  (∀ (r : Req) (s : State),
    (Admitted s r 0x0307 8 false → rwhs s = true →
      (∀ arg, powered s Dom.GATH = true → Yields (.beamReport r 0 arg) s fun t =>
        Answered s t r.slot .ok (wordBytes (readRegs reportRegs (accept r.slot s)).2) ∧ t.flow = s.flow ∧ t.ev = s.ev ∧ DramKept s t) ∧
      (∀ b, b < nBeams → ∃ p q : List Byte, p.length = 4 ∧ q.length = 8 ∧
        (∀ x, (s.beams.lastPass.find? fun e => e.1 == b) = some x → p = leBytes 2 x.2.1 ++ leBytes 2 x.2.2) ∧
        (∀ x, (s.beams.lastChange.find? fun e => e.1 == b) = some x → q = leBytes 2 x.2.1 ++ leBytes 2 x.2.2.1 ++ leBytes 4 x.2.2.2) ∧
        Yields (.beamReport r 1 b) s fun t => Answered s t r.slot .ok (leBytes 8 (entry s.beams.table b).toNat ++ p ++ q) ∧
          t.beams = s.beams ∧ t.flow = s.flow ∧ t.ev = s.ev ∧ DramKept s t) ∧
      (∀ i, s.beams.nextHist ≤ i + 65536 → Completes (.beamReport r 2 i) s r.slot .ok
        (leBytes 4 s.beams.nextHist ++ leBytes 1 (historyFrom s i).length ++ [0, 0, 0] ++ (historyFrom s i).flatMap History.bytes) s)) ∧
    (∀ refv adc sensors rails, Admitted s r 0x0308 0 false → s.flow.mode = .ready ∨ s.flow.mode = .service →
      let within := 1188000 ≤ refv ∧ refv ≤ 1212000 ∧ (∀ p ∈ adc, p.1.natAbs ≤ 256 ∧ gainOk p.2 = true) ∧
        (∀ v ∈ sensors, v.natAbs ≤ 3000) ∧ ∀ g ∈ rails, gainOk g = true
      (within → Yields (.analogCal r refv adc sensors rails) s fun t => Answered s t r.slot .ok (leBytes 4 refv) ∧
        t.health.adcCal = adc ∧ t.health.sensorCal = sensors ∧ t.health.railCal = rails ∧ t.flow = s.flow ∧ DramKept s t) ∧
      (¬ within → Yields (.analogCal r refv adc sensors rails) s fun t => Answered s t r.slot .calFail [] ∧
        t.ev.bits.getLsbD Ev.REFV_FAULT = true ∧ t.flow = s.flow ∧ DramKept s t)))

/-! ## Memory, cohort and time groups -/

/-- MEM_ZERO zeroes the pages it names, and no other byte of DRAM, and MEM_FILL in Service empties all of DRAM and sets
FILL_BUSY (R335, R336). -/
def Obligations.MemoryIsZeroed : Prop :=
  ∀ (r : Req) (s : State),
    (∀ g first n, Admitted s r 0x0402 12 false → 1 ≤ g → g ≤ 7 → (g = Rgn.band → s.armed = none) →
      modeIn s [.ready, .hold, .service] = true → powered s Dom.MEM = true → first + n ≤ (region g).pages →
      Yields (.memZero r g first n) s fun t => Answered s t r.slot .ok (leBytes 4 n) ∧
        (∀ a, (region g).lo + 4096 * first ≤ a → a < (region g).lo + 4096 * (first + n) → dramByte t a = 0) ∧
        (∀ a, a < (region g).lo + 4096 * first ∨ (region g).lo + 4096 * (first + n) ≤ a → dramByte t a = dramByte s a) ∧
        t.flow = s.flow ∧
        RegsKept (Reg.MBX_STATE :: if g = Rgn.cache then [Reg.SKV_CELLS, Reg.SKV_FREE, Reg.SKV_PENDING] else []) s t) ∧
    (Admitted s r 0x0403 0 false → s.flow.mode = .service → powered s Dom.MEM = true → Yields (.memFill r) s fun t =>
      Answered s t r.slot .ok [] ∧ (∀ a, dramByte t a = 0) ∧ fbit t Reg.ECC_STATUS_FILL_BUSY = true ∧ t.ecc.dram = Codes.clean ∧
      t.flow = s.flow ∧ RegsKept [Reg.MBX_STATE, Reg.ECC_STATUS] s t)

/-- COHORT_CONFIG sets the size and the own position, at epoch 0 with no GO in hand. COHORT_SHRINK by a module that is not the
master broadcasts the membership it asks for, and by the master takes it at the next epoch (R405, R426). -/
def Obligations.CohortIsConfigured : Prop :=
  ∀ (r : Req) (s : State),
    (∀ m own, Admitted s r 0x0501 4 false → readyNoneOrService s = true → 1 ≤ m → m ≤ 32 → own < m → Yields (.cohortConfig r m own) s fun t =>
      fget t Reg.COH_CFG_MEMBERS = m ∧ fget t Reg.COH_CFG_OWN = own ∧ rget t Reg.COH_EPOCH = 0 ∧ t.coh.go = none ∧
      (slotOf t r.slot).status = Status.ok.code ∧ t.job = s.job ∧ DramKept s t) ∧
    (∀ keep, Admitted s r 0x0502 4 false → shrinkOk s keep = true → s.flow.mode = .hold ∨ (s.flow.mode = .write ∧ betweenStripes s = true) →
      fbit s Reg.COH_STATUS_IN_MASTER_PART = true →
      (isMaster s = false → Yields (.cohortShrink r keep) s fun t =>
        t.coh = (broadcast Kind.membership (membershipPayload keep) (accept r.slot s)).coh ∧
        Answered s t r.slot .ok (leBytes 1 (maskCount keep)) ∧ t.flow = s.flow ∧ t.ev = s.ev ∧ RegsKept [Reg.MBX_STATE] s t ∧ DramKept s t) ∧
      (isMaster s = true → Yields (.cohortShrink r keep) s fun t =>
        (rget t Reg.COH_EPOCH).toNat = ((rget s Reg.COH_EPOCH).toNat + 1) % 2 ^ 32 ∧ (slotOf t r.slot).status = Status.ok.code ∧
        t.job = s.job ∧ DramKept s t))

/-- TIME_SET loads the extended time, TIME_RATE the host increment, REF_CONFIG and PTP_CONFIG their enables, and TS_READ
takes up to 13 timestamps from the queue. -/
def Obligations.TimeIsCommanded : Prop :=
  ∀ (r : Req) (s : State),
    (∀ sec ns, Admitted s r 0x0601 12 false → sec < 2 ^ 48 → ns < 1000000000 → s.flow.mode = .ready ∨ s.flow.mode = .service →
      Yields (.timeSet r sec ns) s fun t => timeE t = sec * 1000000000 + ns ∧ Answered s t r.slot .ok [] ∧ DramKept s t ∧
        ((∀ n, trigOf s n = none) → t.flow = s.flow)) ∧
    (∀ inc, Admitted s r 0x0602 8 false → incMin ≤ inc → inc ≤ incMax → Yields (.timeRate r inc) s fun t =>
      t.tim = { s.tim with hostInc := inc } ∧ Answered s t r.slot .ok (leBytes 8 s.tim.hostInc) ∧ t.flow = s.flow ∧ t.ev = s.ev ∧ DramKept s t) ∧
    (∀ f, Admitted s r 0x0606 4 false → f ≤ 1 → rwhs s = true → Yields (.refConfig r f) s fun t =>
      fget t Reg.TIM_STATUS_REF_EN = f ∧ Answered s t r.slot .ok (leBytes 1 (fget s Reg.TIM_STATUS_REF_EN)) ∧ t.flow = s.flow ∧ t.ev = s.ev ∧ DramKept s t) ∧
    (∀ f d ip, Admitted s r 0x0604 8 false → f ≤ 3 → s.flow.mode = .ready ∨ s.flow.mode = .service → Yields (.ptpConfig r f d ip) s fun t =>
      fget t Reg.TIM_STATUS_PTP_EN = f % 2 ∧ t.tim.ptpUdp = f.testBit 1 ∧ t.tim.ptpDomain = d ∧ t.tim.ptpIp = ip ∧
      (slotOf t r.slot).status = Status.ok.code ∧ t.flow = s.flow ∧ DramKept s t) ∧
    (Admitted s r 0x0605 0 false → rwhs s = true → Yields (.tsRead r) s fun t =>
      t.tim = { s.tim with ts := s.tim.ts.drop 13 } ∧ fget t Reg.TIM_TS_COUNT_ENTRIES = (s.tim.ts.drop 13).length % 32 ∧
      Answered s t r.slot .ok (leBytes 1 (s.tim.ts.take 13).length ++ leBytes 3 0 ++ (s.tim.ts.take 13).flatMap tsBytes) ∧ t.flow = s.flow ∧
      t.ev = s.ev ∧ RegsKept [Reg.MBX_STATE, Reg.TIM_TS_COUNT] s t ∧ DramKept s t)

/-! ## Security group -/

/-- CERT_READ answers TOTAL, N and up to 216 bytes of the certificate chain, and refuses an OFFSET beyond it; ATTEST answers a report with its
kind, its counter, the digest, the measurement and a signature over NONCE and the report, and counts it. The report holds JOB_ID and the
layer, stripe and shot of the last Bell when a job is loaded (the last three free before its first Bell), and zeros when none is; one of
kind 1 needs a job (R380, R446, R461). FW_UPDATE reads an image from the input buffer: one that does not verify completes AUTH_FAIL and
raises FW_VERIFY_FAIL, one below the rollback counter completes ROLLBACK and raises ROLLBACK_REFUSED, and any other goes into the slot
that is not running. A copy that verifies there becomes the newest; one that does not (which it is, is free: log entry 103) completes
AUTH_FAIL, and the newest slot stays as it was (R457, R458). -/
def Obligations.ImagesAndReportsAreSigned : Prop :=
  (∀ (r : Req) (s : State),
    (∀ off, Admitted s r 0x0701 4 false → rwhs s = true →
      (off ≤ Config.certChain.length → Completes (.certRead r off) s r.slot .ok
        (leBytes 4 Config.certChain.length ++ leBytes 2 ((Config.certChain.drop off).take 216).length ++ [0, 0] ++
          (Config.certChain.drop off).take 216) s) ∧
      (Config.certChain.length < off → Completes (.certRead r off) s r.slot .range [] s)) ∧
    ∀ (nonce : List Byte) (kind : Nat), Admitted s r 0x0702 36 false → rwhs s = true → nonce.length = 32 → kind ≤ 1 →
      let report := fun (position : List Byte) => leBytes 1 kind ++ [0, 0, 0] ++ leBytes 4 s.sec.attests ++ leBytes 8 (ownDigest s) ++
        slice (runningImage s).meas 0 48 ++ position
      let counted := { s.sec with attests := (s.sec.attests + 1) % 2 ^ 32 }
      (s.job = none → kind = 0 → Completes (.attest r nonce kind) s r.slot .ok
        (signedReport s nonce (report (List.replicate 16 0))) { s with sec := counted }) ∧
      (s.job = none → kind = 1 → Completes (.attest r nonce kind) s r.slot .noJob [] s) ∧
      (∀ j, s.job = some j → s.prog.lastBell = none → ∃ p : List Byte, p.length = 8 ∧ Yields (.attest r nonce kind) s fun t =>
        Answered s t r.slot .ok (signedReport s nonce (report (leBytes 8 j.jobId ++ p))) ∧ t.sec = counted ∧ Quiet [Reg.MBX_STATE] s t) ∧
      (∀ j l st, s.job = some j → s.prog.lastBell = some (l, st) → Completes (.attest r nonce kind) s r.slot .ok
        (signedReport s nonce (report (leBytes 8 j.jobId ++ leBytes 2 l ++ leBytes 2 st ++
          leBytes 4 (storedReg s Reg.BELL_SHOT).toNat))) { s with sec := counted })) ∧
  (∀ (r : Req) (s : State) (off len : Nat), Admitted s r 0x0703 8 false → bufferAligned off = true → len ≤ 16777216 →
    bufferReach off len = true → readyNoneOrService s = true → powered s Dom.MEM = true →
    Yields (.fwUpdate r off len) s fun t => FromBuffer r s t off len fun u h =>
      (imageVerifies h len = false → t = complete r.slot .authFail [] (raise Ev.FW_VERIFY_FAIL u)) ∧
      (imageVerifies h len = true → leAt h 0x08 4 < fget s Reg.SEC_ROLLBACK_COUNTER →
        t = complete r.slot .rollback [] (raise Ev.ROLLBACK_REFUSED u)) ∧
      (imageVerifies h len = true → fget s Reg.SEC_ROLLBACK_COUNTER ≤ leAt h 0x08 4 → t.flow = s.flow ∧ t.job = s.job ∧ DramKept s t ∧
        ((Answered s t r.slot .ok (leBytes 4 (leAt h 0x04 4) ++ leBytes 4 (leAt h 0x08 4)) ∧ t.ev = u.ev ∧
            t.sec = (if s.sec.runningB then { s.sec with slotA := imageOf h, newestB := false }
              else { s.sec with slotB := imageOf h, newestB := true })) ∨
          (Answered s t r.slot .authFail [] ∧ t.ev = (raise Ev.FW_VERIFY_FAIL u).ev ∧
            t.sec = (if s.sec.runningB then { s.sec with slotA := { imageOf h with good := false } }
              else { s.sec with slotB := { imageOf h with good := false } })))))

/-- LIFECYCLE_SET makes a transition of Table 19-3 whose authorisation verifies, entry to RETIRED zeroizing every key (R449, R462);
KEY_PROVISION sets the customer root key once, in PROVISIONED, on a module of the standard ordering code (R2, R450). -/
def Obligations.LifecycleMoves : Prop :=
  ∀ (r : Req) (s : State),
    (∀ target auth, Admitted s r 0x0704 100 false → 1 ≤ target → target ≤ 3 → readyNoneOrService s = true →
      (transitionKey s (lifecycle s) target = none → Completes (.lifecycleSet r target auth) s r.slot .lifecycle [] s) ∧
      ∀ key, transitionKey s (lifecycle s) target = some key → Yields (.lifecycleSet r target auth) s fun t =>
        (Config.ecdsaOk key (transitionMessage (lifecycle s) target) (slice auth 0 96) = false →
          Answered s t r.slot .authFail [] ∧ t.sec = s.sec ∧ Quiet [Reg.MBX_STATE] s t) ∧
        (Config.ecdsaOk key (transitionMessage (lifecycle s) target) (slice auth 0 96) = true →
          Answered s t r.slot .ok [] ∧ lifecycle t = target ∧ t.ev = (raise Ev.LIFECYCLE_CHANGE s).ev ∧
          t.flow = s.flow ∧ t.job = s.job ∧ DramKept s t ∧
          (target ≠ 3 → t.sec = s.sec ∧ RegsKept [Reg.MBX_STATE, Reg.SEC_STATUS] s t) ∧
          (target = 3 → t.sec = { s.sec with jobKey := none, helper := false, identity := false, wrap := false, rootKey := none } ∧ t.ecc.memKeyGone = true ∧
            fbit t Reg.OUT_STATUS_BLANK = true ∧ fbit t Reg.OUT_STATUS_EXPOSE_EN = false ∧
            fget t Reg.SEC_STATUS_ROOT_KEY = 0 ∧ fget t Reg.SEC_STATUS_JOB_KEY = 0))) ∧
    ∀ key, Admitted s r 0x0705 96 false → readyNoneOrService s = true → key.length = 96 → Yields (.keyProvision r key) s fun t =>
      (s.sec.order = 0 → lifecycle s = Life.provisioned → s.sec.rootKey = none →
        Answered s t r.slot .ok [] ∧ t.sec = { s.sec with rootKey := some key } ∧ fget t Reg.SEC_STATUS_ROOT_KEY = 1 ∧
        Quiet [Reg.MBX_STATE, Reg.SEC_STATUS] s t) ∧
      (s.sec.order ≠ 0 ∨ lifecycle s ≠ Life.provisioned ∨ s.sec.rootKey.isSome → Answered s t r.slot .lifecycle [] ∧ SlotOnly s t r.slot)

/-! ## Power domains, self-test, monitors -/

/-- VOTE_SET changes the host's vote for exactly the masked domains, and what it votes for is powered, comes up, or has failed;
power-good powers a domain being raised whose need is met, its saved registers return, and no access waits for it any more; a missing
power-good leaves it off, failed, and reported (R465, R467, R494). -/
def Obligations.DomainsFollowVotes : Prop :=
  ∀ (s : State),
    (∀ (r : Req) (mask vote : Word), Admitted s r 0x0802 8 false → mask.toNat < 512 → mask.getLsbD 0 = false → mask.getLsbD 1 = false →
      rwhs s = true → Yields (.voteSet r mask vote) s fun t =>
        Answered s t r.slot .ok (leBytes 4 (fget t Reg.PWR_STATUS_DOMAINS)) ∧
        (∀ d c, d < 9 → c < 8 → (votes t d).testBit c =
          if c = Client.host ∧ mask.getLsbD d then vote.getLsbD d else (votes s d).testBit c) ∧
        (∀ d, d < 9 → mask.getLsbD d = true → vote.getLsbD d = true →
          powered t d = true ∨ t.pwr.raising.getLsbD d = true ∨ s.pwr.failed.getLsbD d = true) ∧
        t.flow = s.flow ∧ t.job = s.job ∧ DramKept s t ∧
        ((mask.getLsbD Dom.COH = true → vote.getLsbD Dom.COH = true) → t.ev = s.ev)) ∧
    (∀ d : Fin 9, s.pwr.raising.getLsbD d.val = true → needMet s d.val = true →
      Yields (.domainPowerGood d) s fun t => ∀ i ∈ t.clk.waiting, waitsFor i ≠ d.val) ∧
    (∀ d : Fin 9, s.pwr.raising.getLsbD d.val = true → needMet s d.val = true → (∀ i ∈ s.clk.waiting, waitsFor i ≠ d.val) →
      Yields (.domainPowerGood d) s fun t =>
      (∀ e, e < 9 → powered t e = (powered s e || e == d.val)) ∧ t.pwr.raising = s.pwr.raising &&& ~~~((1 : BitVec 9) <<< d.val) ∧
      (d.val ≠ Dom.RAST → d.val ≠ Dom.GATH → (d.val = Dom.MEM → s.ecc.sramInvalid = []) → (d.val = Dom.OUT → fbit s Reg.CLK_STATUS_OPT = true) → (∀ n, trigPend s n = 0) → ∀ k v, blockDomain (k / 65536) = d.val → k / 65536 ≠ 0 → k / 65536 < 21 → 2 ≤ d.val →
        (k, v) ∈ s.pwr.saved → (∀ w, (k, w) ∈ s.pwr.saved → w = v) → rget t k = v) ∧
      ((∀ n, trigPend s n = 0) → t.flow = s.flow) ∧ t.job = s.job ∧ DramKept s t) ∧
    ∀ d : Fin 9, s.pwr.raising.getLsbD d.val = true → Yields (.domainFault d) s fun t =>
      t = { s with ev := (raise Ev.DOMAIN_FAULT s).ev,
                   pwr := { s.pwr with raising := s.pwr.raising &&& ~~~((1 : BitVec 9) <<< d.val), failed := s.pwr.failed ||| 1 <<< d.val } }

/-- BIST_RUN starts a logic run over its domains, or a memory run, with the outputs blanked; BIST_COMPLETE records the result and
raises BIST_DONE, a memory run going on to a DRAM fill and a run over the Proctor's domain to a restart (R507 to R509). -/
def Obligations.SelfTestRuns : Prop :=
  ∀ (s : State),
    (∀ (r : Req) (m : Nat), Admitted s r 0x0905 8 false → m < 512 → m % 4 = 0 → s.flow.mode = .service → s.mon.bist = none →
      s.hbm.fill ≠ some true → Yields (.bistRun r 0 m) s fun t =>
        ((bistOrder (BitVec.ofNat 9 m)).all (hasSignature s) = false → Answered s t r.slot .badParam [] ∧ t.mon = s.mon ∧
          Quiet [Reg.MBX_STATE] s t) ∧
        ((bistOrder (BitVec.ofNat 9 m)).all (hasSignature s) = true → Answered s t r.slot .ok [] ∧
          t.mon.bist = some ⟨0, BitVec.ofNat 9 m, false⟩ ∧ fget t Reg.MON_BIST_STATUS_RUNNING = 1 ∧ fget t Reg.MON_BIST_STATUS_KIND = 0 ∧
          fbit t Reg.OUT_STATUS_BLANK = true ∧ fbit t Reg.OUT_STATUS_EXPOSE_EN = false ∧ t.job = s.job ∧ DramKept s t)) ∧
    (∀ r : Req, Admitted s r 0x0905 8 true → s.flow.mode = .service → powered s Dom.MEM = true → s.mon.bist = none →
      s.hbm.fill ≠ some true → Yields (.bistRun r 1 0) s fun t =>
        Answered s t r.slot .ok [] ∧ t.mon.bist = some ⟨1, 0, false⟩ ∧ fget t Reg.MON_BIST_STATUS_RUNNING = 1 ∧
        fget t Reg.MON_BIST_STATUS_KIND = 1 ∧ t.beams.table = [] ∧ t.ingest.rejects = [] ∧ t.job = s.job ∧ DramKept s t) ∧
    ∀ (m failed : BitVec 9) (misr : DWord) (fail : Option MemUnit),
      (s.mon.bist = some ⟨0, m, false⟩ → m.getLsbD 2 = false → s.mon.bistNext = none → s.flow.serviceExit = none →
        Yields (.bistComplete failed misr fail) s fun t =>
          t.mon.bist = none ∧ fget t Reg.MON_BIST_STATUS_RUNNING = 0 ∧ fget t Reg.MON_BIST_STATUS_TESTED = m.toNat ∧
          fget t Reg.MON_BIST_STATUS_FAILED = (failed &&& m).toNat ∧
          (m.getLsbD Dom.COH = false → t.ev = (raiseIf (failed &&& m != 0) Ev.BIST_FAIL (raise Ev.BIST_DONE s)).ev) ∧
          t.ev.bits.getLsbD Ev.BIST_DONE = true ∧ (failed &&& m ≠ 0 → t.ev.bits.getLsbD Ev.BIST_FAIL = true) ∧
          (failed &&& m ≠ 0 → (rget t Reg.MON_BIST_MISR_LO).toNat = misr.toNat % 2 ^ 32 ∧
            (rget t Reg.MON_BIST_MISR_HI).toNat = misr.toNat / 2 ^ 32) ∧
          t.flow = s.flow ∧ t.job = s.job ∧ DramKept s t) ∧
      (s.mon.bist = some ⟨0, m, false⟩ → m.getLsbD 2 = true → Yields (.bistComplete failed misr fail) s fun t =>
          t.mon.bist = some ⟨0, m, true⟩ ∧ t.flow.restart = some .ready ∧ fget t Reg.MON_BIST_STATUS_TESTED = m.toNat ∧
          fget t Reg.MON_BIST_STATUS_FAILED = (failed &&& m).toNat ∧ t.job = s.job ∧ DramKept s t) ∧
      (s.mon.bist = some ⟨1, m, false⟩ → Yields (.bistComplete failed misr fail) s fun t =>
          t.mon.bist = some ⟨1, 0, true⟩ ∧ t.hbm.fill = some true ∧ fbit t Reg.ECC_STATUS_FILL_BUSY = true ∧
          (fbit t Reg.MON_BIST_STATUS_MEM_FAIL = fail.isSome) ∧ (∀ a, dramByte t a = 0) ∧
          t.ev = (raiseIf fail.isSome Ev.BIST_FAIL (raise Ev.BIST_DONE s)).ev ∧ t.flow = s.flow ∧ t.job = s.job)

/-- MON_CONFIG and a probe write set a probe's registers and restart its capture; MON_READ answers the capture, and restarts it when FLAGS
says so (R499). DIE_TEMP_READ, but in Rest, sets the warning and the trip from its calibrated readings, a new trip raising THERMAL_TRIP
and requesting a Hold of cause 12 (R503); DIAG_SNAPSHOT forms a snapshot, and the 64th makes a chunk that enters the ring, or is dropped
whole (R505, R506). -/
def Obligations.ProbesAndSensorsReport : Prop :=
  (∀ (s : State) (p : Fin 16),
    (∀ (r : Req) (src : Nat) (w lo hi : Word), Admitted s r 0x0906 16 false → sourceKnown src = true →
      Yields (.monConfig r p.val src w lo hi) s fun t => Answered s t r.slot .ok [] ∧
        fget t (Reg.MON_PROBE_SRC_SOURCE p.val) = src ∧ rget t (Reg.MON_PROBE_WIDTH p.val) = w ∧
        rget t (Reg.MON_PROBE_LO p.val) = lo ∧ rget t (Reg.MON_PROBE_HI p.val) = hi ∧ captureOf t p.val = Capture.fresh ∧
        (∀ q, q ≠ p.val → captureOf t q = captureOf s q) ∧
        Quiet [Reg.MBX_STATE, Reg.MON_PROBE_SRC p.val, Reg.MON_PROBE_WIDTH p.val, Reg.MON_PROBE_LO p.val, Reg.MON_PROBE_HI p.val] s t) ∧
    (∀ (r : Req), Admitted s r 0x0907 4 false →
      Completes (.monRead r p.val 0) s r.slot .ok (captureBytes (captureOf s p.val)) s ∧
      Yields (.monRead r p.val 1) s fun t => Answered s t r.slot .ok (captureBytes (captureOf s p.val)) ∧
        captureOf t p.val = Capture.fresh ∧ (∀ q, q ≠ p.val → captureOf t q = captureOf s q) ∧ Quiet [Reg.MBX_STATE] s t) ∧
    ∀ (i : Fin 4) (v : Word), Yields (.monProbeWrite p i v) s fun t =>
      rget t (Reg.MON_PROBE_SRC p.val + 4 * i.val) =
        (if i = 0 then BitVec.ofNat 32 (bits (rget s (Reg.MON_PROBE_SRC p.val)).toNat 31 16 * 65536 + bits v.toNat 15 0) else v) ∧
      captureOf t p.val = Capture.fresh ∧ (∀ q, q ≠ p.val → captureOf t q = captureOf s q) ∧
      Quiet [Reg.MON_PROBE_SRC p.val + 4 * i.val] s t) ∧
  (∀ (s : State),
    (∀ raw, s.flow.boot = .held ∨ asleep s = true → Yields (.dieTempRead raw) s fun t => t = s) ∧
    (∀ raw, s.flow.boot ≠ .held → asleep s = false → Yields (.dieTempRead raw) s fun t =>
      let ts := raw.zipIdx.map fun p => sensorReading s p.2 125 p.1
      t.mon.warn = dieWarns ts s ∧ t.mon.trip = dieTrips ts s ∧
      (dieWarns ts s = true → s.mon.warn = false → t.ev.bits.getLsbD Ev.THERMAL_WARN = true) ∧
      (dieTrips ts s = true → s.mon.trip = false → t.ev.bits.getLsbD Ev.THERMAL_TRIP = true ∧ hasCause t 12 = true ∧
        (s.flow.mode = .write → s.flow.resume = .none → t.flow.holdReq = true)) ∧
      (dieTrips ts s = false → s.mon.trip = true → hasCause t 12 = false) ∧
      (dieTrips ts s = s.mon.trip → t.flow = s.flow) ∧ t.job = s.job ∧ DramKept s t) ∧
    (fbit s Reg.MON_SNAP_EN = true → proctorRuns s = true → resting s = false → powered s Dom.MEM = true → s.flow.boot = .over →
      (s.mon.snaps.length < 63 → Yields .diagSnapshot s fun t =>
        t = { s with mon := { s.mon with snapIndex := s.mon.snapIndex + 1, snaps := s.mon.snaps ++ [snapshot s] } }) ∧
      (s.mon.snaps.length = 63 → Yields .diagSnapshot s fun t =>
        t.mon.snapIndex = s.mon.snapIndex + 1 ∧ t.mon.snaps = [] ∧ t.flow = s.flow ∧ t.job = s.job ∧
        (fget s Reg.MON_DIAG_HEAD_BYTES % 64 = 0 → t.ev = s.ev) ∧
        (let chunk := diagChunk (s.mon.snapIndex - 63) (s.mon.snaps ++ [snapshot s]).flatten
         let used := (2 ^ 32 + fget s Reg.MON_DIAG_HEAD_BYTES - s.mon.acked) % 2 ^ 32
         if 2 ^ 30 < used + chunk.length then
           fget t Reg.MON_DIAG_HEAD_BYTES = fget s Reg.MON_DIAG_HEAD_BYTES ∧
           fget t Reg.MON_DIAG_LOST_COUNT = min 65535 (fget s Reg.MON_DIAG_LOST_COUNT + 1) ∧ DramKept s t
         else fget t Reg.MON_DIAG_HEAD_BYTES = (fget s Reg.MON_DIAG_HEAD_BYTES + chunk.length) % 2 ^ 32 ∧
           fget t Reg.MON_DIAG_LOST_COUNT = fget s Reg.MON_DIAG_LOST_COUNT ∧
           ∀ i b, chunk[i]? = some b → fget s Reg.HBM_FENCE_CHANNELS = 0 →
             dramByte t ((region Rgn.diag).lo + (fget s Reg.MON_DIAG_HEAD_BYTES + i) % 2 ^ 30) = b))))

/-! ## The Proctor and the doorbell -/

/-- PROCTOR_RESTART and an expired watchdog restart the Proctor, at once outside Write and after the Hold they ask for in Write; the end of a
restart runs the newest image that verifies, completes what was cut off ABORTED, and reports the restart (R50, R459). MBX_DOORBELL on a
busy slot is an overrun and nothing else; on a free one it sets BUSY, and the request waits, is stale, or is taken: then the command it
spells runs, as exec does on the state with BUSY set (R354, R355, R357, R361). -/
def Obligations.ProctorServesAndRestarts : Prop :=
  (∀ (s : State),
    (∀ r : Req, Admitted s r 0x0107 0 true → rwhs s = true → Yields (.proctorRestart r) s fun t => (slotOf t r.slot).status = Status.ok.code ∧ fget t Reg.PWR_RESET_CAUSE_WATCHDOG = 0 ∧
        (if s.flow.mode = .write then t.flow.restartReq = true ∧ t.flow.holdReq = true ∧ t.flow.causes = s.flow.causes ||| 1
         else t.flow.restart = some (modeAfterRestart s.flow.mode) ∧ t.mail.current = none ∧ t.ingest.rejects = []) ∧
        t.flow.mode = s.flow.mode ∧ t.job = s.job ∧ DramKept s t) ∧
    (proctorRuns s = true → Yields .watchdogExpiry s fun t => t.ev = (raise Ev.FW_WATCHDOG s).ev ∧ t.job = s.job ∧ DramKept s t ∧
      fget t Reg.PWR_RESET_CAUSE_WATCHDOG = 1 ∧ (s.flow.resume = .none → t.flow.mode = s.flow.mode) ∧
      (s.flow.mode ≠ .write → t.flow.restart = some (modeAfterRestart s.flow.mode))) ∧
    (∀ after, s.flow.restart = some after → s.flow.boot = .over → s.mon.bist = none → s.sec.debugHeld = false → s.mail.orphan = false →
      (imageRuns s s.sec.newestB || imageRuns s (!s.sec.newestB)) = true → after = .hold ∨ after = .ready →
      s.flow.mode ≠ .boot → Yields .proctorRestartEnd s fun t =>
        t.flow.restart = none ∧ t.sec.runningB = (s.sec.newestB == imageRuns s s.sec.newestB) ∧
        t.flow.mode = (if after = .hold then .hold else if s.flow.mode = .service then .ready else s.flow.mode) ∧
        t.ev.bits.getLsbD Ev.PROCTOR_RESTART = true ∧ (∀ n ∈ s.mail.cut, (slotOf t n).status = Status.aborted.code) ∧
        t.mail.cut = [] ∧ t.job = s.job ∧ DramKept s t) ∧
    ((proctorRuns s = false → Yields .watchdogExpiry s fun t => t = s) ∧
      (s.flow.restart = none → Yields .proctorRestartEnd s fun t => t = s))) ∧
  (∀ (s : State) (n : Fin 16), Awake s → s.mail.waiting = [] →
    (slotBusy s n = true → Yields (.mbxDoorbell n) s fun t => t.ev = (raise Ev.MBX_OVERRUN s).ev ∧ t.mail = s.mail ∧ t.flow = s.flow ∧
      fget t Reg.MBX_ERR_OVERRUN = min 65535 (fget s Reg.MBX_ERR_OVERRUN + 1) ∧ RegsKept [Reg.MBX_ERR] s t ∧ DramKept s t) ∧
    (slotBusy s n = false → mayTake s = false → Yields (.mbxDoorbell n) s fun t => slotBusy t n = true ∧ t.mail.waiting = [n] ∧
      (∀ m, slotOf t m = slotOf s m) ∧ Quiet [Reg.MBX_STATE] s t) ∧
    (slotBusy s n = false → mayTake s = true → later32 (slotOf s n).alive (slotOf s n).lastAlive = false →
      Yields (.mbxDoorbell n) s fun t => (slotOf t n).status = Status.stale.code ∧ slotBusy t n = false ∧ t.mail.waiting = [] ∧
        (slotOf t n).lastAlive = (slotOf s n).lastAlive ∧ (slotOf t n).done = (slotOf s n).alive ∧
        (∀ m, m ≠ n → slotOf t m = slotOf s m) ∧ Quiet [Reg.MBX_STATE] s t) ∧
    (slotBusy s n = false → mayTake s = true → later32 (slotOf s n).alive (slotOf s n).lastAlive = true →
      (requestOf n (slotOf s n) = none → s.mail.orphan = false → Completes (.mbxDoorbell n) s n .badOpcode [] s) ∧
      ∀ i, requestOf n (slotOf s n) = some i → (∀ r a b c d, i ≠ .analogCal r a b c d) →
        Yields (.mbxDoorbell n) s fun t => exec i (fputBit Reg.MBX_STATE_BUSY n.val true s) = .next t))

/-! ## Time triggers, pins, supply and clocks -/

/-- TRIGGER_SET arms a trigger, or turns it off, with whatever it was doing; TRIGGER_FIRE starts a conversion, a job or a pulse, and
reports a firing whose action cannot act, or waits for a stopped core clock; the ends of a conversion and of a pulse leave the code
and release the pin; a pin takes the level outside it, and the detector's fall ends a check run (R246, R441, R442, R491, R504,
R520). -/
def Obligations.TriggersAct : Prop :=
  ∀ (s : State) (n : Fin 8),
    (∀ (r : Req) (action gpio sec ns period width : Nat), Admitted s r 0x0603 24 false → triggerOk n.val action gpio period width = true →
      rwhs s = true →
      let late := overdue s ⟨action, gpio, sec * 1000000000 + ns, period, width⟩
      let set := fun (p : State → Prop) => Yields (.triggerSet r n.val action gpio sec ns period width) s fun t =>
        Answered s t r.slot .ok [] ∧ (∀ m, m ≠ n.val → trigOf t m = trigOf s m) ∧ t.job = s.job ∧ DramKept s t ∧ p t
      (1 ≤ action → late = 0 → set fun t => trigOf t n.val = some ⟨action, gpio, sec * 1000000000 + ns, period, width⟩ ∧
        fbitAt t Reg.TIM_TRIG_STATUS_ACTIVE n.val = true ∧ (action = 1 → t.mot.phase = sec * 1000000000 + ns) ∧ t.flow = s.flow) ∧
      (1 ≤ action → late ≠ 0 → period ≠ 0 → set fun t => t.flow = s.flow ∧ trigOf t n.val =
        some ⟨action, gpio, sec * 1000000000 + ns + (late + period - 1) / period * period, period, width⟩) ∧
      (2 ≤ action → late ≠ 0 → period = 0 → set fun t => t.ev.bits.getLsbD Ev.TRIGGER_MISSED = true ∧
        fbitAt t Reg.TIM_TRIG_STATUS_LATE n.val = true) ∧
      (action = 0 → set fun t => trigOf t n.val = none ∧ trigBusy t n.val = false ∧ t.flow = s.flow) ∧
      (action = 0 → trigOf s n.val = none → trigBusy s n.val = false → trigPend s n.val = 0 → n.val < s.tim.trigs.length →
        fbitAt s Reg.TIM_TRIG_STATUS_ACTIVE n.val = false → fbitAt s (Reg.PWR_VOTE_VOTES Dom.GATH) Client.triggers = triggersVote s →
        Completes (.triggerSet r n.val action gpio sec ns period width) s r.slot .ok [] s)) ∧
    (∀ tr, trigOf s n.val = some tr → s.flow.mode ≠ .rest → coreRuns s = false → tr.action ≠ 1 → trigPend s n.val < 15 →
      (tr.period = 0 → trigBusy s n.val = false ∧ trigPend s n.val = 0) → Yields (.triggerFire n) s fun t =>
        trigPend t n.val = trigPend s n.val + 1 ∧ trigOf t n.val = some { tr with next := tr.next + tr.period } ∧ t.flow = s.flow ∧
        t.job = s.job ∧ t.ev = s.ev ∧ DramKept s t) ∧
    (∀ tr, trigOf s n.val = some tr → s.flow.mode ≠ .rest → coreRuns s = true → trigBusy s n.val = false → trigPend s n.val = 0 →
      tr.gpio < 8 →
      (tr.action = 2 → powered s Dom.GATH = true → s.tim.converting.getLsbD tr.gpio = false → Yields (.triggerFire n) s fun t =>
        t.tim.converting = s.tim.converting ||| 1 <<< tr.gpio ∧ assocD 8 t.tim.convFor tr.gpio = n.val ∧
        trigOf t n.val = some { tr with next := tr.next + tr.period } ∧ t.flow = s.flow ∧ t.job = s.job ∧ t.ev = s.ev ∧ DramKept s t) ∧
      (tr.action = 3 → tr.period = 0 → mayStart s = true → Yields (.triggerFire n) s fun t =>
        t.flow = { s.flow with starting := some none } ∧ t.prog = { s.prog with startLead := 32 } ∧ trigOf t n.val = none ∧
        fbit t Reg.OUT_STATUS_EXPOSE_EN = (fbit s Reg.OUT_STATUS_EXPOSE_EN || !(tapHolds s || logicRuns s)) ∧ t.job = s.job ∧ t.ev = s.ev ∧ DramKept s t) ∧
      (tr.action = 3 → tr.period = 0 → mayStart s = false → Yields (.triggerFire n) s fun t =>
        t.ev = (raise Ev.TRIGGER_MISSED s).ev ∧ fbitAt t Reg.TIM_TRIG_STATUS_LATE n.val = true ∧ trigOf t n.val = none ∧
        t.flow = s.flow ∧ t.job = s.job ∧ DramKept s t) ∧
      (tr.action = 4 → powered s Dom.GATH = true → Yields (.triggerFire n) s fun t =>
        (n.val, tr.gpio) ∈ t.mon.gpioHigh ∧ trigOf t n.val = some { tr with next := tr.next + tr.period } ∧ t.flow = s.flow ∧
        t.job = s.job ∧ DramKept s t)) ∧
    (∀ g code, convInput s n.val = some g → Yields (.auxAdcConversionEnd n code) s fun t =>
      fget t (Reg.TIM_TRIG_LAST_CODE n.val) = (max 0 (min 65535 (calibrated s g code))).toNat ∧
      t.tim.converting = s.tim.converting &&& ~~~((1 : BitVec 8) <<< g) ∧ t.flow = s.flow ∧ t.job = s.job ∧ t.ev = s.ev ∧ DramKept s t) ∧
    (∀ g, (n.val, g) ∈ s.mon.gpioHigh → Yields (.gpioPulseEnd n) s fun t =>
      (powered t Dom.GATH = true → t.mon.gpioHigh = s.mon.gpioHigh.filter (fun q => q.1 != n.val)) ∧ t.flow = s.flow ∧ t.job = s.job ∧ DramKept s t) ∧
    (∀ up, Yields (.gpioEdge n up) s fun t => t.mon.gpioIn.getLsbD n.val = up ∧ (∀ m, m ≠ n.val → t.mon.gpioIn.getLsbD m = s.mon.gpioIn.getLsbD m) ∧
      (gpioDriven s n.val = false → s.health.run = none → s.mon.gpioIn.getLsbD n.val ≠ up → powered s Dom.GATH = true → proctorRuns s = true →
        fbitAt s (if up then Reg.MON_GPIO_EVT_RISE else Reg.MON_GPIO_EVT_FALL) n.val = true → t.ev = (raise Ev.GPIO_EDGE s).ev) ∧
      (s.mon.gpioIn.getLsbD n.val = up → t.ev = s.ev ∧ t.regs = s.regs) ∧ t.flow = s.flow ∧ t.job = s.job ∧ DramKept s t) ∧
    (fget s Reg.BHM_CFG_READY_GPIO = n.val → Yields .readyGpioFall s fun t => t.health.run = none ∧ t.mon.gpioIn.getLsbD n.val = false ∧
      (s.health.run.isSome → fbit t Reg.OUT_STATUS_BLANK = true) ∧ t.flow = s.flow ∧ t.job = s.job ∧ DramKept s t)

/-- A dip of VIN counts, warns, blanks every output, and in Write takes a Hold at once when AUTO_RESUME is 0; recovery ends the blanking and
reports an automatic resume; a rail's warning and its end, and a sample, keep PWR_RAIL_WARN and PWR_VIN; a voltage beyond the absolute
maximum has no stated effect, and is a fault (R480 to R485, R522, Table 23-5). A synthesiser that loses its lock counts, raises CLK_UNLOCK
and does what Table 21-2 says of it: a Hold of cause 0, link loss, or the ports down; in lock again, its bit is set, the cause ends with
the last of the four clocks, and only the transmit faults of lanes with an alarm of their own stay. The reference oscillator takes every
synthesiser with it, and brings every one back (R234, R489). -/
def Obligations.SupplyAndClocksAreWatched : Prop :=
  (∀ (s : State), s.flow.boot ≠ .held →
    (∀ t0 : Nat, s.flow.mode ≠ .rest → Yields (.vinBelowWarning t0) s fun t =>
      fget t Reg.PWR_DIP_COUNT_COUNT = min 65535 (fget s Reg.PWR_DIP_COUNT_COUNT + 1) ∧ fbit t Reg.PWR_STATUS_WARN = true ∧
      fbit t Reg.PWR_STATUS_RECOVERING = false ∧ t.out.supply = true ∧ t.ev.bits.getLsbD Ev.SUPPLY_WARN = true ∧ t.health.run = none ∧
      fbit t Reg.OUT_STATUS_BLANK = true ∧ t.job = s.job ∧ DramKept s t ∧
      (fget s Reg.PWR_CFG_AUTO_RESUME = 1 → t.flow = s.flow) ∧
      (fget s Reg.PWR_CFG_AUTO_RESUME = 0 → s.flow.mode = .write → s.flow.resume = .none → t.flow.mode = .hold ∧ hasCause t 3 = true ∧
        t.ev.bits.getLsbD Ev.HOLD = true)) ∧
    (∀ t0 : Nat, s.flow.mode = .rest → Yields (.vinBelowWarning t0) s fun t => t.pwr.rest.dip = true ∧ t.flow = s.flow ∧ t.ev = s.ev ∧
      t.out = s.out ∧ RegsKept [Reg.PWR_STATUS, Reg.PWR_DIP_COUNT] s t ∧ DramKept s t) ∧
    (fbit s Reg.PWR_STATUS_WARN = true →
      (Yields .supplyRecovery s fun t => fbit t Reg.PWR_STATUS_WARN = false ∧ t.out.supply = false ∧ hasCause t 3 = false ∧
        t.flow.mode = s.flow.mode ∧
        t.ev = (raiseIf (fget s Reg.PWR_CFG_AUTO_RESUME == 1 && s.flow.mode == .write && s.armed.isSome) Ev.AUTO_RESUME s).ev ∧
        t.job = s.job ∧ RegsKept [Reg.PWR_STATUS] s t ∧ DramKept s t) ∧
      (∀ mv, mv ≤ 18000 → Yields (.vinRecoveryCrossing mv) s fun t => fbit t Reg.PWR_STATUS_RECOVERING = decide (10600 ≤ mv) ∧
        fbit t Reg.PWR_STATUS_WARN = true ∧ Quiet [Reg.PWR_STATUS] s t)) ∧
    (∀ k : Fin 8, (Yields (.railBelowWarning k) s fun t => fbitAt t Reg.PWR_RAIL_WARN_RAILS k.val = true ∧ t.ev = (raise Ev.RAIL_WARN s).ev ∧
        t.flow = s.flow ∧ t.job = s.job ∧ RegsKept [Reg.PWR_RAIL_WARN] s t ∧ DramKept s t) ∧
      Yields (.railRecovery k) s fun t => fbitAt t Reg.PWR_RAIL_WARN_RAILS k.val = false ∧ Quiet [Reg.PWR_RAIL_WARN] s t) ∧
    (∀ v rails, v ≤ 18000 → Yields (.railSample (v :: rails)) s fun t =>
      fget t Reg.PWR_VIN_MV = min 65535 (railReading s 0 v) ∧
      fget t Reg.PWR_VIN_MIN_MV = min (fget s Reg.PWR_VIN_MIN_MV) (railReading s 0 v) ∧ t.flow = s.flow ∧ t.job = s.job ∧
      RegsKept [Reg.PWR_VIN, Reg.PWR_VIN_MIN] s t ∧ DramKept s t) ∧
    ∀ v rails, 18000 < v → exec (.vinRecoveryCrossing v) s = .fault .absoluteMaximum ∧
      exec (.railSample (v :: rails)) s = .fault .absoluteMaximum) ∧
  ((∀ (s : State) (p : Synth) (n : Nat), synthBits p = [n] →
    (fbit s (clkBit n) = true → Yields (.pllUnlock p) s fun t =>
      fbit t (clkBit n) = false ∧ fget t Reg.CLK_UNLOCK_COUNT_COUNT = min 65535 (fget s Reg.CLK_UNLOCK_COUNT_COUNT + 1) ∧
      t.ev.bits.getLsbD Ev.CLK_UNLOCK = true ∧ t.job = s.job ∧ DramKept s t ∧
      (n ≤ 3 → hasCause t 0 = true ∧ (s.flow.mode = .write → s.flow.resume = .none → t.flow.holdReq = true)) ∧
      (n = 4 → powered s Dom.OUT = true → t.out.link.on = true ∧ (s.out.link.on = false → t.ev.bits.getLsbD Ev.LINK_LOSS = true ∧
        fbit t Reg.OUT_STATUS_BLANK = true)) ∧
      (n = 5 → fbit t Reg.COH_STATUS_EAST_UP = false ∧ fbit t Reg.COH_STATUS_WEST_UP = false ∧ (powered s Dom.ETH = true → t.tim.ethUp = false))) ∧
    (fbit s (clkBit n) = false → Yields (.pllUnlock p) s fun t => t = s) ∧
    (fbit s (clkBit n) = false → Yields (.pllRelock p) s fun t => fbit t (clkBit n) = true ∧ t.job = s.job ∧ t.ev = s.ev ∧ DramKept s t ∧
      (n ≠ 4 → RegsKept [Reg.CLK_STATUS] s t) ∧ (4 ≤ n → t.flow = s.flow) ∧
      (n ≤ 3 → t.flow = if holdClocksLocked (fput (clkBit n) 1 s) && !s.flow.hostHold then (clearCause 0 s).flow else s.flow) ∧
      (n = 4 → RegsKept [Reg.CLK_STATUS, Reg.OUT_TX_FAULT_LO, Reg.OUT_TX_FAULT_HI] s t ∧
        ∀ l, l < 64 → lanesBit t Reg.OUT_TX_FAULT_LO Reg.OUT_TX_FAULT_HI l = (laneState s l).alarm)) ∧
    (fbit s (clkBit n) = true → Yields (.pllRelock p) s fun t => t = s)) ∧
  ∀ s : State,
    (Yields (.pllUnlock .reference) s fun t => (∀ n, n < 6 → fbit t (clkBit n) = false) ∧ t.job = s.job ∧ DramKept s t ∧
      ((∃ n, n < 4 ∧ fbit s (clkBit n) = true) → hasCause t 0 = true ∧ t.ev.bits.getLsbD Ev.CLK_UNLOCK = true)) ∧
    (Yields (.pllRelock .reference) s fun t => (∀ n, n < 6 → fbit t (clkBit n) = true) ∧ t.job = s.job ∧ t.ev = s.ev ∧ DramKept s t ∧
      (s.flow.hostHold = false → (∃ n, n < 4 ∧ fbit s (clkBit n) = false) → hasCause t 0 = false)))

/-! ## Resets, Boot, the status page, the tick -/

/-- A power-on reset holds the module with every register at POR but for what fuses keep, and its release runs Boot; MRST_L is the same with
HBM_MAP_CFG and what shows the supply kept, and does nothing while a POR holds; the end of Boot's fill makes the module Ready with empty
DRAM, and a step that failed leaves it in Boot with the checker, the memory word or the training step named; a fill outside Boot that runs
for no BIST only ends (R324, R336, R477, R478, R509, R521, Table 20-8, Table 20-11). A host-link reset clears the mailboxes, idles the DMA
channels, withdraws the host's votes and reports itself; the job, the mode and DRAM stand. During Rest entry it unwinds the entry first;
in Rest it wakes the module first and waits for the wake, and the accesses that wait with it are lost. A cohort port that falls with the
host's votes reports itself too (R343, R395, R406, R478). -/
def Obligations.ResetsClear : Prop :=
  (∀ (s : State),
    let held := fun (t : State) => t.flow = { State.reset.flow with boot := .held } ∧ t.job = none ∧ t.ev = State.reset.ev ∧
      t.mail = State.reset.mail ∧ (∀ a, dramByte t a = 0) ∧ t.pending = s.pending ∧ t.sec.rootKey = s.sec.rootKey ∧
      fget t Reg.SEC_STATUS_LIFECYCLE = fget s Reg.SEC_STATUS_LIFECYCLE ∧ fget t Reg.SEC_STATUS_ROOT_KEY = fget s Reg.SEC_STATUS_ROOT_KEY ∧
      fget t Reg.SEC_ROLLBACK_COUNTER = fget s Reg.SEC_ROLLBACK_COUNTER
    let boots := fun (straps : BitVec 2) (t : State) => t.pwr.raising = 12 ∧ t.pwr.straps = straps ∧ t.job = s.job ∧ DramKept s t ∧
      ((imageRuns s s.sec.newestB || imageRuns s (!s.sec.newestB)) = true → t.flow = { s.flow with boot := .filling } ∧
        t.sec.runningB = (s.sec.newestB == imageRuns s s.sec.newestB)) ∧
      ((imageRuns s s.sec.newestB || imageRuns s (!s.sec.newestB)) = false → t.flow.boot = .failed ∧ t.flow.mode = .boot)
    (∀ c, Yields (.powerOnReset c) s fun t => held t ∧
      (∀ k, k ∉ [Reg.PWR_RESET_CAUSE, Reg.SEC_STATUS, Reg.SEC_ROLLBACK] → rget t k = regPor k) ∧
      fbit t Reg.PWR_RESET_CAUSE_POR = (c == .powerApplied) ∧ fbit t Reg.PWR_RESET_CAUSE_BROWNOUT = (c == .brownout) ∧
      fbit t Reg.PWR_RESET_CAUSE_MRST = false) ∧
    (heldByPor s = false → Yields .mrst s fun t => held t ∧
      (∀ k, k ∉ [Reg.PWR_RESET_CAUSE, Reg.SEC_STATUS, Reg.SEC_ROLLBACK, Reg.HBM_MAP_CFG, Reg.PWR_STATUS, Reg.PWR_VIN, Reg.PWR_RAIL_WARN] →
        rget t k = regPor k) ∧ fget t Reg.PWR_STATUS_DOMAINS = 3 ∧
      (∀ f ∈ [Reg.PWR_STATUS_WARN, Reg.PWR_STATUS_RECOVERING, Reg.PWR_VIN_MV, Reg.PWR_RAIL_WARN_RAILS], fget t f = fget s f) ∧
      rget t Reg.HBM_MAP_CFG = rget s Reg.HBM_MAP_CFG ∧ fbit t Reg.PWR_RESET_CAUSE_MRST = true ∧
      fbit t Reg.PWR_RESET_CAUSE_POR = false ∧ fbit t Reg.PWR_RESET_CAUSE_BROWNOUT = false) ∧
    (heldByPor s = true → (Yields .mrst s fun t => t = s) ∧ ∀ straps, Yields (.porRelease straps) s (boots straps)) ∧
    (s.flow.boot = .held → heldByPor s = false → ∀ straps, Yields (.mrstRelease straps) s (boots straps)) ∧
    (s.flow.boot = .filling → s.pwr.raising = 12 →
      ∀ spares, (Yields (.dramFillComplete ⟨none, spares⟩) s fun t => t.flow = { s.flow with boot := .over, mode := .ready } ∧
        (∀ a, dramByte t a = 0) ∧ t.ecc.dram = Codes.clean ∧ t.ecc.invalid = [] ∧ t.hbm.spares = spares ∧
        fbit t Reg.HBM_STATUS_TRAINED = true ∧ fget t Reg.HBM_TRAIN_STATUS_STEP = 7 ∧ fbit t Reg.ECC_STATUS_SELFTEST_OK = true ∧
        fbit t Reg.ECC_STATUS_FILL_BUSY = false ∧ fbit t Reg.HBM_MAP_CFG_LOCK = true ∧ t.job = s.job) ∧
      ∀ step f, Yields (.dramFillComplete ⟨some (step, f), spares⟩) s fun t =>
        t.flow = { s.flow with boot := .failed, mode := .boot, bootStep := step % 256 } ∧ t.job = s.job ∧ t.ev = s.ev ∧ DramKept s t ∧
        (∀ c, f = .selfTest c → fget t Reg.ECC_STATUS_SELFTEST_FAIL = c % 256) ∧
        (∀ high off, f = .march high off → fbit t Reg.MON_BIST_STATUS_MEM_FAIL = true ∧ fbit t Reg.MON_BIST_FAIL_ADDR_HI_DRAM = false ∧
          fget t Reg.MON_BIST_FAIL_ADDR_HI_WHERE = (if high then 91 else 90) ∧ fget t Reg.MON_BIST_FAIL_ADDR_LO_ADDR = off % 2 ^ 32) ∧
        ∀ n ch lane, f = .training n ch lane → fbit t Reg.HBM_TRAIN_STATUS_FAIL = true ∧
          fget t Reg.HBM_TRAIN_STATUS_STEP = n % 16 ∧ fget t Reg.HBM_TRAIN_STATUS_CHANNEL = ch % 32 ∧
          fget t Reg.HBM_TRAIN_STATUS_LANE = lane % 1024 ∧ fbit t Reg.ECC_STATUS_SELFTEST_OK = true) ∧
    (∀ fault spares, s.flow.boot ≠ .filling → (s.hbm.fill = none → Yields (.dramFillComplete ⟨fault, spares⟩) s fun t => t = s) ∧
      (s.hbm.fill = some false → s.flow.serviceExit = none → Yields (.dramFillComplete ⟨fault, spares⟩) s fun t =>
        t.hbm = { s.hbm with fill := none } ∧ fbit t Reg.ECC_STATUS_FILL_BUSY = false ∧ Quiet [Reg.ECC_STATUS] s t))) ∧
  (∀ (s : State) (k : LinkReset), s.flow.boot ≠ .held →
    let cleared := fun (t : State) => t.mail.slots = List.replicate 16 Slot.zero ∧ t.mail.waiting = [] ∧
      t.mail.orphan = s.mail.current.isSome ∧ (∀ n, slotBusy t n = false) ∧ (∀ c, c < 8 → dmaChan t c = DmaChan.idle) ∧
      (∀ d, 2 ≤ d → d < 9 → ∀ c, (votes t d).testBit c = ((votes s d).testBit c && c != Client.host)) ∧
      t.ev.bits.getLsbD Ev.HOST_RESET = true ∧ t.job = s.job ∧ DramKept s t
    (resting s = false → Yields (.hostLinkReset k) s fun t => cleared t ∧ t.flow = s.flow ∧
      EventsKept [Ev.HOST_RESET, Ev.COH_EAST_DOWN, Ev.COH_WEST_DOWN] s t ∧
      (fbit s Reg.COH_STATUS_EAST_UP = false → fbit s Reg.COH_STATUS_WEST_UP = false → t.ev = (raise Ev.HOST_RESET s).ev)) ∧
    (s.pwr.rest.stage ≠ 0 → s.sec.debugHeld = false → (∀ n, trigOf s n = none) → Yields (.hostLinkReset k) s fun t => cleared t ∧ t.pwr.rest.stage = 0 ∧
      t.host.held = [] ∧ t.flow = { s.flow with mode := s.pwr.rest.entry } ∧ t.ev.bits.getLsbD Ev.REST_UNWOUND = true ∧
      (s.pwr.rest.dip = true → t.ev.bits.getLsbD Ev.SUPPLY_WARN = true ∧ t.pwr.rest.dip = false)) ∧
    (asleep s = true → Yields (.hostLinkReset k) s fun t => t.pwr.rest.linkReset = some k ∧ t.pwr.rest.waking = true ∧
      t.host.held = [] ∧ fget t Reg.PWR_REST_STATUS_WAKE_SRC = 1 ∧ t.mail = s.mail ∧ Quiet [Reg.PWR_REST_STATUS] s t) ∧
    (s.pwr.rest.stage = 0 → s.pwr.rest.waking = true → Yields (.hostLinkReset k) s fun t => t.pwr.rest.linkReset = some k ∧
      t.host.held = [] ∧ t.mail = s.mail ∧ Quiet [] s t))

/-- STATUS_REFRESH writes its section with an even sequence step (R348 to R352), and does nothing while the Proctor does not run.
PARAMETER_TICK with no stripe armed swaps a committed parameter set (R178, R182) and completes a resume that waits for it (R53); where
no motion, apply or locate waits for the tick either, nothing else changes. -/
def Obligations.PageAndTick : Prop :=
  ∀ (s : State),
    (proctorRuns s = true →
      (Yields (.statusRefresh .core) s fun t => t.page.coreSeq = (s.page.coreSeq + 2) % 2 ^ 32 ∧ t.page.core.mode = s.flow.mode.code ∧
        t.page.core.job = s.flow.job.code ∧ t.page.core.causes = s.flow.causes ∧ t.page.core.events = s.ev.bits ∧
        t.page.core.domains = fget s Reg.PWR_STATUS_DOMAINS ∧ t.page.identityWritten = true ∧ t.ev.bits = s.ev.bits ∧ t.ev.unseen = 0 ∧
        t.flow = s.flow ∧ t.job = s.job ∧ RegsKept [Reg.TIM_NS, Reg.TIM_FRAC, Reg.TIM_WRAPS] s t ∧
        fget t Reg.TIM_FRAC_FRAC = s.tim.frac % 2 ^ 32 ∧ fget t Reg.TIM_NS_NS = s.tim.h % 2 ^ 32 ∧ DramKept s t) ∧
      (Yields (.statusRefresh .monitor) s fun t => t.page.monSeq = (s.page.monSeq + 2) % 2 ^ 32 ∧ t.page.core = s.page.core ∧
        t.page.probes = (List.range 16).map (probeRow s) ∧ t.page.rows = s.page.rows ∧ Quiet [] s t) ∧
      (Yields (.statusRefresh .cohort) s fun t => t.page.cohSeq = (s.page.cohSeq + 2) % 2 ^ 32 ∧
        t.page.members = max 1 (fget s Reg.COH_CFG_MEMBERS) ∧ t.page.own = fget s Reg.COH_CFG_OWN ∧ t.page.rows = memberRows s ∧
        t.page.core = s.page.core ∧ Quiet [] s t)) ∧
    (proctorRuns s = false → ∀ sec, Yields (.statusRefresh sec) s fun t => t = s) ∧
    (coreRuns s = false → Yields .parameterTick s fun t => t = s) ∧
    (coreRuns s = true → s.armed = none → s.flow.lastLayer = none → s.flow.holdReq = false →
      (∃ c, c ≠ Client.cal ∧ (votes s Dom.GATH).testBit c = true) →
      let swapped := fun (t : State) => fbit s Reg.GTH_PSET_STATUS_PENDING = true → (∀ p ∈ psetRegs, rget t p.2 = rget s p.1) ∧
        fbit t Reg.GTH_PSET_STATUS_PENDING = false ∧ fget t Reg.GTH_PSET_SEQ_SEQ = (fget s Reg.GTH_PSET_SEQ_SEQ + 1) % 2 ^ 32
      let resumed := fun (t : State) => ∀ slot, s.flow.resume = .atTick slot → t.flow.resume = .none ∧ t.flow.mode = .write ∧
        ∀ n, slot = some n → (slotOf t n).status = Status.ok.code ∨ s.mail.orphan = true
      (Yields .parameterTick s fun t => swapped t ∧ resumed t) ∧
      (isMaster s = false → s.mot.locate = false → s.beams.applyCmd = none → s.beams.queue = [] → Yields .parameterTick s fun t =>
        swapped t ∧ resumed t ∧ t.job = s.job ∧ t.ev = s.ev ∧ DramKept s t ∧ (s.flow.resume = .none → t.flow = s.flow) ∧
        ∀ slot, s.flow.resume = .atTick slot → t.flow = { s.flow with resume := .none, mode := .write, seen := s.flow.causes }))

/-! ## Rest -/

/-- Rest is entered in four stages, from the mode that asked for it: the stop of what runs, the checkpoint, the mode with self-refresh and the
status page showing Rest, and the drop of the domains; where the mode has changed, Rest may not be entered or a transition is in progress,
the entry lapses. Stage 2 leaves the signatures and the copies, and a fenced pseudo-channel gets no refresh. An overrun of stage 1 and a
wake before AP4 unwind it; a dip since AP3 is raised then (R250, R322, R350, R469, R471, R485). A wake source that is enabled wakes a
module in Rest, and another does nothing. With the Proctor's memory and the table kept, and no trigger waiting, a wake ends in the mode of
entry with its job, the job back at its band checkpoint where anything was lost; it records and reports what was lost, and then the host
accesses that waited for it are served in order (R346, R470, R472 to R474). -/
def Obligations.RestIsEnteredAndLeft : Prop :=
  (∀ (s : State), s.pwr.rest.linkReset = none → s.sec.debugHeld = false →
    let unwound := fun (t : State) => t.pwr.rest.stage = 0 ∧ t.flow = { s.flow with mode := s.pwr.rest.entry } ∧
      t.ev = (raiseIf s.pwr.rest.dip Ev.SUPPLY_WARN (raise Ev.REST_UNWOUND s)).ev ∧ t.pwr.rest.dip = false ∧ t.pwr.rest.kept = none ∧ fbit t Reg.PWR_REST_STATUS_UNWOUND = true ∧ t.hbm.selfRefresh = false ∧
      t.job = s.job ∧ DramKept s t
    (s.pwr.rest.due = some s.flow.mode → restAllowed s = true → transitioning s = false → Yields .restEntryStart s fun t =>
      t.pwr.rest.stage = 1 ∧ t.pwr.rest.entry = s.flow.mode ∧ t.pwr.rest.due = none ∧ rget t Reg.PWR_REST_STATUS = 0 ∧
      t.health.run = none ∧ t.health.starts = [] ∧
      t.flow = { s.flow with causes := t.flow.causes } ∧ t.job = s.job ∧ DramKept s t) ∧
    (∀ m, s.pwr.rest.due = some m → s.flow.mode ≠ m ∨ restAllowed s = false ∨ transitioning s = true → Yields .restEntryStart s fun t =>
      t = { s with pwr := { s.pwr with rest := { s.pwr.rest with due := none } } }) ∧
    (s.pwr.rest.due = none → Yields .restEntryStart s fun t => t = s) ∧
    (s.pwr.rest.stage = 1 → (stageOneOver s = true → Yields .restStageComplete s fun t =>
        t.pwr.rest = { s.pwr.rest with stage := 2 } ∧ fget t Reg.PWR_REST_STATUS_LAST_AP = 1 ∧ Quiet [Reg.PWR_REST_STATUS] s t) ∧
      ((∀ n, trigOf s n = none) → Yields .restStageOverrun s fun t => unwound t ∧ fbit t Reg.PWR_REST_STATUS_TIMEOUT = true)) ∧
    (s.pwr.rest.stage = 2 → Yields .restStageComplete s fun t =>
      t.pwr.rest = { s.pwr.rest with stage := 3, ckptStripe := s.prog.cur, ckptCommit := s.ingest.commitSeq, kept := t.pwr.rest.kept,
                                     ckptSeq := ((stripeData s s.prog.cur).firstSeq).getD s.ingest.nextSeq } ∧
      (∃ k, t.pwr.rest.kept = some k ∧ k.table = s.beams.table ∧ k.summary = s.beams.summary ∧ k.regions.length = 16 ∧
        k.banks.map Prod.fst = (List.range 96).filter (retained s) ∧
        k.ckpt = (t.pwr.rest.ckptStripe, t.pwr.rest.ckptSeq, t.pwr.rest.ckptCommit)) ∧
      fget t Reg.PWR_REST_STATUS_LAST_AP = 2 ∧ t.flow = s.flow ∧ t.job = s.job ∧ DramKept s t ∧
      (s.ecc.sram = Codes.clean → injectKind s 94 = .clean → Quiet [Reg.PWR_REST_STATUS] s t)) ∧
    (s.pwr.rest.stage = 3 → Yields .restStageComplete s fun t => t.pwr.rest = { s.pwr.rest with stage := 4 } ∧ t.flow = { s.flow with mode := .rest } ∧
      t.hbm.selfRefresh = true ∧ t.hbm.powerDown = 0 ∧ t.hbm.openRows = [] ∧ (∀ pc, pc < 64 → debtOf t pc = if pcFenced s pc then debtOf s pc else 0) ∧
      t.page.core.mode = Mode.rest.code ∧ fget t Reg.PWR_REST_STATUS_LAST_AP = 3 ∧ t.job = s.job ∧
      RegsKept [Reg.PWR_REST_STATUS, Reg.HBM_REF_DEBT_MAX, Reg.TIM_NS, Reg.TIM_FRAC, Reg.TIM_WRAPS] s t ∧ DramKept s t) ∧
    (s.pwr.rest.stage = 4 → Yields .restStageComplete s fun t => t.pwr.rest.stage = 0 ∧ (∀ d, 2 ≤ d → d < 9 → powered t d = false) ∧
      t.tim.inRest = true ∧ t.armed = none ∧ t.shots = [] ∧ fget t Reg.PWR_REST_STATUS_LAST_AP = 4 ∧ t.flow = s.flow ∧ t.job = s.job ∧ DramKept s t) ∧
    (∀ src, wakeEnabled s src = true → s.pwr.rest.stage ≠ 0 → (∀ n, trigOf s n = none) → Yields (.restWake src) s fun t => unwound t ∧
      fget t Reg.PWR_REST_STATUS_WAKE_SRC = WakeSource.number src)) ∧
  (∀ (s : State),
    (∀ src, asleep s = true → wakeEnabled s src = true → Yields (.restWake src) s fun t => t.pwr.rest = { s.pwr.rest with waking := true } ∧
      fget t Reg.PWR_REST_STATUS_WAKE_SRC = WakeSource.number src ∧ Quiet [Reg.PWR_REST_STATUS] s t) ∧
    (∀ src, wakeEnabled s src = false ∨ (s.pwr.rest.stage = 0 ∧ asleep s = false) → Yields (.restWake src) s fun t => t = s) ∧
    (∀ lost regions, s.pwr.rest.waking = false → s.host.held = [] → Yields (.wakeComplete lost regions) s fun t => t = s) ∧
    ∀ lost : BitVec 96, s.pwr.rest.waking = true → s.flow.resume = .none → s.pwr.rest.linkReset = none → s.sec.debugHeld = false → (∀ b, b < 96 → retained s b = true) →
      (∀ b, 90 ≤ b → b < 96 → lost.getLsbD b = false) → (∀ n, trigOf s n = none) →
      Yields (.wakeComplete lost 0) s fun t => ∃ u, t = s.host.held.foldl (fun v i => hostAccess i v) { u with host := { u.host with held := [] } } ∧
        u.flow.mode = s.pwr.rest.entry ∧ u.pwr.rest.waking = false ∧ u.tim.inRest = false ∧
        u.ev.bits.getLsbD Ev.WAKE = true ∧ u.coh.burstsEast = 0 ∧ u.coh.burstsWest = 0 ∧ u.pwr.rest.kept = none ∧ u.job = s.job ∧ u.hbm.selfRefresh = false ∧
        (lost ≠ 0 → u.ev.bits.getLsbD Ev.RETENTION_LOST = true ∧ (s.job.isSome = true → u.ingest.nextSeq = s.pwr.rest.ckptSeq ∧
          u.ingest.blocks = [] ∧ rget64 u Reg.PWR_CKPT_SEQ_LO Reg.PWR_CKPT_SEQ_HI = s.pwr.rest.ckptSeq % 2 ^ 64)) ∧
        (∀ i, i < 3 → rget u (Reg.PWR_LOST i) = lost.extractLsb' (32 * i) 32) ∧ DramKept s u)

/-! ## Position, and the enable sequence -/

/-- QUAD_EDGE, PWS_FRAME, PWS_AXIS_TIMEOUT and POS_SET keep the counts and the validity of the axes, a crossing is kept with its
times, and a read of POS_Y_LO captures every position register at once (R185 to R191, R198, R209). An edge counts only in quadrature
form, past its filter, in a powered module out of Boot and Rest; a frame only in the other form. -/
def Obligations.PositionIsTracked : Prop :=
  ∀ (s : State),
    let counts : Bool := s.flow.mode != .boot && s.flow.mode != .rest && powered s Dom.GATH
    let still := fun (t : State) => t.job = s.job ∧ DramKept s t
    let marked := fun (t : State) (y : Int) => ∀ e, s.armed.isSome = true → curEntry s = some e →
      t.pos.hwm = max s.pos.hwm (progressOf e y) ∧
      (fbit s Reg.POS_STATUS_REVERSED = false → ((bits s.pos.jitter.toNat 7 0 : Nat) : Int) < s.pos.hwm - progressOf e y →
        hasCause t 2 = true ∧ t.ev.bits.getLsbD Ev.REVERSAL = true ∧ fbit t Reg.POS_STATUS_REVERSED = true)
    (∀ (a : Axis) (m : QuadMove) (st det : Nat),
      (pwsForm s = true ∨ counts = false ∨ edgeHeld s a st det = false → Yields (.quadEdge a m st det) s fun t => t = s) ∧
      (pwsForm s = false → counts = true → edgeHeld s a st det = true →
        (m = .both → Yields (.quadEdge a m st det) s fun t =>
          fget t Reg.POS_QUAD_ERR_COUNT = min 65535 (fget s Reg.POS_QUAD_ERR_COUNT + 1) ∧ axisValid t a = false ∧ axisOf t a = axisOf s a ∧
          (∀ b, b ≠ a → axisValid t b = axisValid s b) ∧ t.ev = (raise Ev.POS_FAULT s).ev ∧ t.flow = s.flow ∧ still t ∧
          (a ≠ .y ∨ s.armed = none → RegsKept [Reg.POS_QUAD_ERR, Reg.POS_STATUS] s t)) ∧
        (m ≠ .both → Yields (.quadEdge a m st det) s fun t =>
          (axisOf t a).count = wrap40 ((axisOf s a).count + if (m == .up) == axisInv s a then -1 else 1) ∧
          (∀ b, b ≠ a → axisOf t b = axisOf s b) ∧ (∀ b, axisValid t b = axisValid s b) ∧
          t.pos.samples.head? = some ⟨st, t.pos.y.count, t.pos.x.count, t.pos.yaw.count⟩ ∧ still t ∧
          (a ≠ .y ∨ s.armed = none → t.pos.hwm = s.pos.hwm ∧ Quiet [] s t) ∧ (a = .y → marked t t.pos.y.count)))) ∧
    (∀ k, let a : Axis := if k = 0 then .y else if k = 1 then .x else .yaw
      let may : Bool := !pwsForm s && (modeIn s [.ready, .hold, .service] || inState s .write .recess) && decide (k ≤ 2)
      (may = false → Yields (.posSet k) s fun t => t = s) ∧
      (may = true → Yields (.posSet k) s fun t =>
        (axisOf t a).count = signed 40 (rget64 s Reg.POS_SET_LO Reg.POS_SET_HI) ∧ axisValid t a = true ∧
        (∀ b, b ≠ a → axisOf t b = axisOf s b ∧ axisValid t b = axisValid s b) ∧ still t ∧
        (a ≠ .y ∨ s.armed = none → Quiet [Reg.POS_STATUS] s t) ∧ (a = .y → marked t t.pos.y.count))) ∧
    (∀ (d0 d1 : BitVec 80) (at' : Nat),
      (pwsForm s = false ∨ counts = false → Yields (.pwsFrame d0 d1 at') s fun t => t = s) ∧
      (pwsForm s = true → counts = true →
        let quiet := fun (t : State) => s.armed = none → t.flow = s.flow ∧ RegsKept [Reg.POS_STATUS, Reg.POS_PWS_ERR] s t
        let discarded := fun (t : State) => fget t Reg.POS_PWS_ERR_FRAMES = min 65535 (fget s Reg.POS_PWS_ERR_FRAMES + 1) ∧
          t.pos.y.count = s.pos.y.count ∧ t.pos.x.count = s.pos.x.count ∧ t.pos.yaw.count = s.pos.yaw.count ∧
          t.pos.hwm = s.pos.hwm ∧ t.flow = s.flow ∧ quiet t ∧ still t
        (pwsFrameGood d0 d1 = true → fbit s Reg.POS_STATUS_LOCK = true → d1.getLsbD 59 = false → Yields (.pwsFrame d0 d1 at') s fun t =>
          t.pos.y.count = wrap40 (pwsCount s .y (bits d0.toNat 47 8)) ∧
          t.pos.x.count = wrap40 (pwsCount s .x (bits d0.toNat 79 48 + 2 ^ 32 * bits d1.toNat 15 8)) ∧
          t.pos.yaw.count = wrap40 (pwsCount s .yaw (bits d1.toNat 55 16)) ∧ t.pos.pws.fseq = some (bits d1.toNat 67 64) ∧
          axisValid t .y = d1.getLsbD 56 ∧ axisValid t .x = d1.getLsbD 57 ∧ axisValid t .yaw = d1.getLsbD 58 ∧
          t.pos.pws.bad = 0 ∧ (d1.getLsbD 56 = true → marked t (pwsCount s .y (bits d0.toNat 47 8))) ∧ quiet t ∧ still t) ∧
        (pwsFrameGood d0 d1 = true → fbit s Reg.POS_STATUS_LOCK = false ∨ d1.getLsbD 59 = true → Yields (.pwsFrame d0 d1 at') s fun t =>
          discarded t ∧ t.pos.pws.good = s.pos.pws.good + 1 ∧
          fbit t Reg.POS_STATUS_LOCK = (fbit s Reg.POS_STATUS_LOCK || decide (3 ≤ s.pos.pws.good))) ∧
        (pwsFrameGood d0 d1 = false → Yields (.pwsFrame d0 d1 at') s fun t => discarded t ∧ t.pos.pws.good = 0 ∧
          (fbit s Reg.POS_STATUS_LOCK = true → 3 ≤ s.pos.pws.bad → fbit t Reg.POS_STATUS_LOCK = false ∧ ∀ a, axisValid t a = false)))) ∧
    (∀ a, (pwsForm s = false → Yields (.pwsAxisTimeout a) s fun t => t = s) ∧
      (pwsForm s = true → Yields (.pwsAxisTimeout a) s fun t => axisValid t a = false ∧
        (∀ b, b ≠ a → axisValid t b = axisValid s b) ∧ t.ev = (raiseIf (axisValid s a) Ev.POS_FAULT s).ev ∧ t.flow = s.flow ∧
        still t ∧ (a ≠ .y ∨ s.armed = none → RegsKept [Reg.POS_STATUS] s t))) ∧
    (∀ n tc tdet, (s.armed = none ∨ n * pixCounts s ≤ s.pos.hwm ∨ n < -3 → Yields (.shotCrossed n tc tdet) s fun t => t = s) ∧
      ∀ a, s.armed = some a → s.pos.hwm < n * pixCounts s → -3 ≤ n → Yields (.shotCrossed n tc tdet) s fun t =>
        t.pos = { s.pos with hwm := n * pixCounts s, warnArmed := t.pos.warnArmed } ∧
        t.armed = some { a with crossings := a.crossings ++ [⟨n, tc, tdet⟩], lastTc := some tc } ∧
        (a.lastTc = none → t.pos.warnArmed = s.pos.warnArmed ∧ t.ev = s.ev) ∧
        (∀ l, a.lastTc = some l → fget t Reg.BELL_XING_MIN_STEPS = min (fget s Reg.BELL_XING_MIN_STEPS) (min (2 ^ 32 - 1) (tc - l)) ∧
          (tc - l ≤ fget s Reg.BELL_GUARD_STEPS → t.pos.warnArmed = false ∧ t.ev = (raiseIf s.pos.warnArmed Ev.OVERSPEED_WARN s).ev) ∧
          (fget s Reg.BELL_GUARD_STEPS < tc - l → t.ev = s.ev ∧ t.pos.warnArmed = (s.pos.warnArmed ||
            decide (fget s Reg.BELL_GUARD_STEPS + fget s Reg.BELL_GUARD_STEPS / 64 < tc - l)))) ∧
        t.flow = s.flow ∧ RegsKept [Reg.BELL_XING_MIN] s t ∧ still t) ∧
    (powered s Dom.GATH = false → Yields .posYLoRead s fun t => t = s) ∧
    (powered s Dom.GATH = true → Yields .posYLoRead s fun t =>
      rget64 t Reg.POS_Y_LO Reg.POS_Y_HI = unsigned 40 s.pos.y.count ∧ rget64 t Reg.POS_X_LO Reg.POS_X_HI = unsigned 40 s.pos.x.count ∧
      rget64 t Reg.POS_YAW_LO Reg.POS_YAW_HI = unsigned 40 s.pos.yaw.count ∧ rget64 t Reg.POS_HWM_LO Reg.POS_HWM_HI = unsigned 40 s.pos.hwm ∧
      t.pos = s.pos ∧ Quiet [Reg.POS_Y_LO, Reg.POS_Y_HI, Reg.POS_X_LO, Reg.POS_X_HI, Reg.POS_YAW_LO, Reg.POS_YAW_HI, Reg.POS_HWM_LO, Reg.POS_HWM_HI] s t)

/-- The Cinch test in Service records its result; a trip latches, blanks, forces every strobe low and takes Write to Hold at once; the
end of the settle time records SETTLED, and a JOB_START that waited for it enters Write or fails its test (R238 to R242). A trip while
the Cinch is latched, a test outside Service, and a settle that nothing began or that has ended do nothing. -/
def Obligations.OutputsAreEnabled : Prop :=
  ∀ (s : State) (ps : Nat),
    (s.flow.mode = .service → powered s Dom.OUT = true → Yields (.cinchTest ps) s fun t =>
      fbit t Reg.OUT_STATUS_CINCH_TEST_OK = decide (950 * actCinchNs s ≤ ps ∧ ps ≤ 1050 * actCinchNs s) ∧ Quiet [Reg.OUT_STATUS] s t) ∧
    (s.flow.mode ≠ .service ∨ powered s Dom.OUT = false → Yields (.cinchTest ps) s fun t => t = s) ∧
    (fbit s Reg.OUT_STATUS_CINCH = false → Yields (.cinchTrip ps) s fun t =>
      t.out.strobes = 0 ∧ hasCause t 4 = true ∧ t.ev.bits.getLsbD Ev.CINCH_CUT = true ∧ t.health.run = none ∧
      (s.health.run = none → fbit t Reg.OUT_STATUS_CINCH = true ∧ fbit t Reg.OUT_STATUS_BLANK = true) ∧
      (s.flow.mode = .write → (∀ n, s.flow.resume ≠ .atTick n) → t.flow.mode = .hold) ∧
      (s.flow.mode = .write → s.flow.resume = .none → t.ev.bits.getLsbD Ev.HOLD = true) ∧ t.job = s.job ∧ DramKept s t) ∧
    (fbit s Reg.OUT_STATUS_CINCH = true → Yields (.cinchTrip ps) s fun t => t = s) ∧
    (s.out.exposeSince = none ∨ fbit s Reg.OUT_STATUS_SETTLED = true ∨ fbit s Reg.OUT_STATUS_EXPOSE_EN = false →
      Yields (.exposeSettleDone ps) s fun t => t = s) ∧
    (s.out.exposeSince.isSome = true → fbit s Reg.OUT_STATUS_SETTLED = false → fbit s Reg.OUT_STATUS_EXPOSE_EN = true →
      (s.flow.starting = none → Yields (.exposeSettleDone ps) s fun t => fbit t Reg.OUT_STATUS_SETTLED = true ∧ t.flow = s.flow ∧
        t.job = s.job ∧ t.ev = s.ev ∧ t.out = s.out ∧ DramKept s t) ∧
      ∀ slot, s.flow.starting = some slot →
        let answers := fun (t : State) (st : Status) => ∀ n, slot = some n → (slotOf t n).status = st.code ∨ s.mail.orphan = true
        (cinchTestPasses s ps = true → s.flow.resume = .none → Yields (.exposeSettleDone ps) s fun t =>
          t.flow.mode = .write ∧ t.flow.job = .recess ∧ t.flow.starting = none ∧ fbit t Reg.OUT_STATUS_CINCH_TEST_OK = true ∧
          fbit t Reg.OUT_STATUS_SETTLED = true ∧ t.prog.recess ≠ none ∧ answers t .ok ∧ t.job = s.job ∧ DramKept s t) ∧
        (cinchTestPasses s ps = false → Yields (.exposeSettleDone ps) s fun t =>
          t.flow = { s.flow with starting := none } ∧ fbit t Reg.OUT_STATUS_CINCH_TEST_OK = false ∧ fbit t Reg.OUT_STATUS_EXPOSE_EN = false ∧
          answers t .selftestFail ∧ t.job = s.job ∧ DramKept s t))

/-! ## Motion -/

/-- A COMMIT makes its channel's segment pending, or is rejected with a cause; a shadow write lands and restarts the plan; a plan
completes or is rejected with a cause of Table 11-3 (R287, R290, R292). -/
def Obligations.SegmentsArePlanned : Prop :=
  ∀ (s : State) (n : Fin 6),
    let rejected := fun (cause : Nat) (t : State) => fget t (Reg.MOT_CH_STATUS_REJECT n.val) = cause ∧ chanPending t n.val = false ∧
      (chan t n.val).plan = none ∧ t.ev = (raise Ev.MOTION_FAULT s).ev ∧ (s.job.isSome = true → hasCause t 11 = true) ∧
      (s.job = none → t.flow = s.flow) ∧ t.job = s.job ∧ DramKept s t
    (∀ host, (host = true → fbit s (Reg.MOT_CH_STATUS_OWNED n.val) = false) → chanMode s n.val ≠ 0 → chanState s n.val ≠ stStalled →
      Yields (.motionCommit n host) s fun t => chanPending t n.val = true ∧ fbit t (Reg.MOT_CH_STATUS_PLANNED n.val) = false ∧
        chan t n.val = { chan s n.val with plan := none } ∧ (∀ m, m ≠ n.val → chan t m = chan s m) ∧
        chanState t n.val = chanState s n.val ∧ Quiet [Reg.MOT_CH_STATUS n.val] s t) ∧
    (fbit s (Reg.MOT_CH_STATUS_OWNED n.val) = true → Yields (.motionCommit n true) s (rejected rejOwned)) ∧
    (∀ host, (host = true → fbit s (Reg.MOT_CH_STATUS_OWNED n.val) = false) → chanMode s n.val = 0 ∨ chanState s n.val = stStalled →
      Yields (.motionCommit n host) s (rejected rejMode)) ∧
    (∀ (w : Fin 5) (high : Bool) (v : Word), Yields (.motionShadowWrite n w high v) s fun t =>
      rget t (Reg.MOT_CH_SH_TARGET_LO n.val + 8 * w.val + (if high then 4 else 0)) = v ∧
      (chanPending s n.val = true → chan t n.val = { chan s n.val with plan := none } ∧ fbit t (Reg.MOT_CH_STATUS_PLANNED n.val) = false ∧
        chanPending t n.val = true) ∧
      (chanPending s n.val = false → t.mot = s.mot) ∧ (∀ m, m ≠ n.val → chan t m = chan s m) ∧
      Quiet [Reg.MOT_CH_SH_TARGET_LO n.val + 8 * w.val + (if high then 4 else 0), Reg.MOT_CH_STATUS n.val] s t) ∧
    (chanPending s n.val = false → Yields (.motionPlanComplete n) s fun t => t = s) ∧
    (chanPending s n.val = true →
      let from' : Dy × Dy := match (chan s n.val).seg with
        | some g => (g.target, g.vEnd)
        | none => ((chan s n.val).rest, Dy.zero)
      let plan := planOf s n.val (segWords s (Reg.MOT_CH_SH_TARGET_LO n.val)) from'.1 from'.2
      (∀ g, plan.2 = some g → Yields (.motionPlanComplete n) s fun t => chan t n.val = { chan s n.val with plan := some g } ∧
        fbit t (Reg.MOT_CH_STATUS_PLANNED n.val) = true ∧ chanPending t n.val = true ∧ (∀ m, m ≠ n.val → chan t m = chan s m) ∧
        Quiet [Reg.MOT_CH_STATUS n.val] s t) ∧
      (plan.2 = none → Yields (.motionPlanComplete n) s (rejected plan.1)))

/-- A planned segment takes over at the end of the one in progress, its words becoming the active ones and DIRN the sense of its motion, and
the choreography may commit the one after it; a channel without one rests there, or underruns; STOP runs the stop profile and cancels the
COMMIT, and its end leaves the channel at rest (R290, R292, R293, R297, R301). CLEAR ends the stall of the channels it names. A step moves
a step channel's count one toward the end of its known motion, at its crossing time, but not before the setup of DIRN and twice PULSE_NS
after the step before it, and none while a BIST holds its outputs. A sense sample counts toward a stall by the commanded rate, and the
last of MOT_STALL steps stalls the channel. The approach starts when it may (R296 to R301, R304, R507). -/
def Obligations.SegmentsRunAndStall : Prop :=
  (∀ (s : State) (n : Fin 6),
    let keeps := fun (t : State) => t.flow = s.flow ∧ t.job = s.job ∧ t.ev = s.ev ∧ DramKept s t
    let others := fun (t : State) => ∀ m, m ≠ n.val → chan t m = chan s m
    let rests := fun (p : Dy) (t : State) => (chan t n.val).seg = none ∧ (chan t n.val).rest = p ∧ chanState t n.val = stIdle
    ((chan s n.val).plan = none → Yields (.segmentSwap n) s fun t => t = s) ∧
    ((chan s n.val).seg = none ∨ chanState s n.val ≠ stMoving → (Yields (.segmentSwap n) s fun t => t = s) ∧ Yields (.segmentEnd n) s fun t => t = s) ∧
    ((chan s n.val).seg = none ∨ chanState s n.val ≠ stStopping → Yields (.stopProfileEnd n) s fun t => t = s) ∧
    (∀ g, (chan s n.val).seg = some g →
      (chanState s n.val = stMoving →
        (∀ q, (chan s n.val).plan = some q →
          let taken := fun (t : State) =>
            (∀ i, i < 10 → rget t (Reg.MOT_CH_ACT_TARGET_LO n.val + 4 * i) = rget s (Reg.MOT_CH_SH_TARGET_LO n.val + 4 * i)) ∧
            fget t (Reg.MOT_CH_SEQ_SEQ n.val) = (fget s (Reg.MOT_CH_SEQ_SEQ n.val) + 1) % 2 ^ 32 ∧ t.job = s.job ∧ DramKept s t
          let moves := fun (t : State) => (chan t n.val).seg = some { q with start := g.endNs } ∧ chanState t n.val = stMoving
          let swapped := fun (t : State) => taken t ∧ (chan t n.val).plan = none ∧
            (choreoOwns s n.val = false → chanPending t n.val = false ∧ others t ∧ keeps t ∧
              (chanMode s n.val = 2 → (q.target.sub q.p0).sign ≠ 0 →
                (chan t n.val).dirn = (decide (0 < (q.target.sub q.p0).sign) != (chanCfg s n.val).getLsbD 2))) ∧
            (choreoOwns s n.val = false ∨ chanMode s n.val ≠ 0 → if q.phases = [] then rests q.target t else moves t)
          (Yields (.segmentSwap n) s swapped) ∧ Yields (.segmentEnd n) s swapped) ∧
        ((chan s n.val).plan = none → g.vEnd.isZero = true → Yields (.segmentEnd n) s fun t => rests g.target t ∧ others t ∧ keeps t) ∧
        ((chan s n.val).plan = none → g.vEnd.isZero = false → Yields (.segmentEnd n) s fun t => chanState t n.val = stStopping ∧
          fget t (Reg.MOT_CH_STATUS_REJECT n.val) = rejUnderrun ∧ t.ev = (raise Ev.MOTION_FAULT s).ev ∧
          (s.job.isSome = true → hasCause t 11 = true) ∧ t.job = s.job ∧ DramKept s t)) ∧
      (chanState s n.val = stStopping → Yields (.stopProfileEnd n) s fun t => rests g.target t ∧ others t ∧ keeps t)) ∧
    (∀ mask : BitVec 6, Yields (.motionStop mask) s fun t =>
      (∀ m, m < 6 → (mask.getLsbD m = true → chanPending t m = false ∧ (chan t m).plan = none ∧
          (chanState s m = stMoving → (chan s m).seg.isSome = true → chanState t m = stStopping) ∧
          (chanState s m ≠ stMoving → chan t m = { chan s m with plan := none } ∧ chanState t m = chanState s m)) ∧
        (mask.getLsbD m = false → chan t m = chan s m ∧ rget t (Reg.MOT_CH_STATUS m) = rget s (Reg.MOT_CH_STATUS m))) ∧
      Quiet ((List.range 6).map Reg.MOT_CH_STATUS) s t)) ∧
  (∀ (s : State) (n : Fin 6),
    (∀ mask : BitVec 6, Yields (.motionClear mask) s fun t =>
      (∀ m, m < 6 → mask.getLsbD m = true → chanState s m = stStalled → chanState t m = stIdle ∧ (chan t m).seg = none ∧
        (chan t m).rest = Dy.ofInt (chan s m).count ∧ fget t (Reg.MOT_CH_STATUS_STALL_RUN m) = 0) ∧
      (∀ m, m < 6 → mask.getLsbD m = false ∨ chanState s m ≠ stStalled → chan t m = chan s m ∧ chanState t m = chanState s m) ∧
      (t.flow = if anyStalled t || s.ev.bits.getLsbD Ev.MOTION_FAULT then s.flow else { s.flow with causes := s.flow.causes &&& ~~~((1 : Word) <<< 11) }) ∧
      t.job = s.job ∧ t.ev = s.ev ∧ RegsKept ((List.range 6).map Reg.MOT_CH_STATUS) s t ∧ DramKept s t) ∧
    (let c := chan s n.val
     let goal := outCount (motionEnd s n.val).1
     (chanMode s n.val ≠ 2 ∨ chanState s n.val = stStalled ∨ rwhs s = false ∨ outputsHeld s Dom.GATH = true ∨ goal = c.count →
       Yields (.stepPulse n) s fun t => t = s) ∧
     (chanMode s n.val = 2 → chanState s n.val ≠ stStalled → rwhs s = true → outputsHeld s Dom.GATH = false → goal ≠ c.count →
       ∃ cross k, stepCrossing s n.val = some (cross, decide (c.count < goal)) ∧ cross ≤ k ∧
         (∀ d, c.dirAt = some d → 2 * d + 5 * fget s Reg.MOT_STEP_DIR_SETUP_NS ≤ 2 * k) ∧ (∀ l, c.lastStep = some l → l + 5 * actPulseNs s ≤ k) ∧
         Yields (.stepPulse n) s fun t =>
           chan t n.val = { c with count := c.count + (if c.count < goal then 1 else -1), lastStep := some k } ∧
           (∀ m, m ≠ n.val → chan t m = chan s m) ∧ Quiet [Reg.TIM_REST_WRAPS] s t)) ∧
    (∀ code t0 skipped, chanMode s n.val ≠ 2 ∨ chanState s n.val = stStalled ∨ bits (chanCfg s n.val).toNat 31 16 = 0 ∨ skipped = true ∨
        senseOff s n.val = true ∨ stallQ s n.val % msteps s n.val ≠ 0 ∨ sampleDue (runTo t0 s) n.val = false →
        Yields (.stallSample n skipped code t0) s fun t => t = s) ∧
    (∀ code t0, chanMode s n.val = 2 → chanState s n.val ≠ stStalled → bits (chanCfg s n.val).toNat 31 16 ≠ 0 → senseOff s n.val = false →
      stallQ s n.val % msteps s n.val = 0 → sampleDue (runTo t0 s) n.val = true →
      let rate := stepRate (runTo t0 s) n.val
      let low := decide ((calibrated s (senseInput s n.val) code - 32768).natAbs * 256000 * 65536 <
        bits (chanCfg s n.val).toNat 31 16 * rate * stallCos s) && decide (fget s Reg.MOT_STALL_FMIN_RATE ≤ rate)
      let run := fget s (Reg.MOT_CH_STATUS_STALL_RUN n.val) + 1
      (low = false → Yields (.stallSample n false code t0) s fun t => fget t (Reg.MOT_CH_STATUS_STALL_RUN n.val) = 0 ∧ t.mot = s.mot ∧
        Quiet [Reg.MOT_CH_STATUS n.val, Reg.TIM_REST_WRAPS] s t) ∧
      (low = true → run < actStallSteps s → Yields (.stallSample n false code t0) s fun t =>
        fget t (Reg.MOT_CH_STATUS_STALL_RUN n.val) = min 15 run ∧ t.mot = s.mot ∧
        Quiet [Reg.MOT_CH_STATUS n.val, Reg.TIM_REST_WRAPS] s t) ∧
      (low = true → actStallSteps s ≤ run → Yields (.stallSample n false code t0) s fun t => chanState t n.val = stStalled ∧
        (chan t n.val).seg = none ∧ chanPending t n.val = false ∧ t.ev = (raise Ev.STALL s).ev ∧
        (if (chanCfg s n.val).getLsbD 3 = true ∧ s.job.isSome = true then hasCause t 11 = true else t.flow = s.flow) ∧
        t.job = s.job ∧ DramKept s t)) ∧
    ((∀ e, curEntry s = some e → approachReady s e = false) → Yields .approachStart s fun t => t = s) ∧
    (∀ e, curEntry s = some e → approachReady s e = true → chanMode s 0 ≠ 0 →
      s.health.run = none ∨ (∃ c, c < 16 ∧ c ≠ Client.cal ∧ (votes s Dom.GATH).testBit c = true) → Yields .approachStart s fun t =>
      t.mot.step = 1 ∧ chanPending t 0 = true ∧ t.prog.recess = none ∧
      segWords t (Reg.MOT_CH_SH_TARGET_LO 0) =
        segWords (putWords (Reg.MOT_CH_SH_TARGET_LO 0) (approachWords s e) s) (Reg.MOT_CH_SH_TARGET_LO 0) ∧ t.flow.mode = s.flow.mode ∧ t.job = s.job ∧ DramKept s t))

/-! ## DMA, check units, the link -/

/-- START, RETRY, STOP and APPEND act on a channel in the states of R397, and a tail that was parked is read again (R398). In Rest each wakes
the module and waits; while a reset holds the module it is ignored (R346). A descriptor that is read begins, waits for room in the staging
ring, or halts its channel; one read behind it waits for its turn. INPUT data land and the descriptor completes with its SEQ, after which
the chain goes on, parks or stops; readings whose fold value is wrong three times, a failed transfer, of which what was in flight still
lands, and a unit of a DIAG transfer that cannot be read halt the channel. A parked tail's NEXT is read again; a STAGING descriptor that
waits starts once there is room; errors of the link are counted and reported. Requests keep to the read size, to 4 KiB and to the shared
buffer (R342, R384 to R398; what a STAGING block does as it lands stands in BlocksLand). -/
def Obligations.DescriptorChainsRun : Prop :=
  (∀ (s : State) (c : Fin 8),
    let same := fun (t : State) => t.flow = s.flow ∧ t.job = s.job ∧ t.ev = s.ev ∧ DramKept s t
    let others := fun (t : State) => ∀ d, d ≠ c.val → dmaChan t d = dmaChan s d
    let begins := fun (t : State) => (dmaChan t c.val).desc = none ∧ (dmaChan t c.val).ahead = [] ∧ (dmaChan t c.val).asked = 0 ∧
      chanRequests c.val t = []
    (∀ i ∈ [Instr.dmaStart c, .dmaRetry c, .dmaStop c, .dmaAppend c],
      (s.flow.boot = .held → Yields i s fun t => t = s) ∧
      (s.flow.boot ≠ .held → asleep s = true → Yields i s fun t => t.host.held = s.host.held ++ [i] ∧ t.pwr.rest.waking = true ∧
        t.dma = s.dma ∧ Quiet [Reg.PWR_REST_STATUS] s t)) ∧
    (Awake s →
      (dmaState s c.val = Dma.idle ∨ dmaState s c.val = Dma.halted → Yields (.dmaStart c) s fun t =>
        dmaState t c.val = Dma.running ∧ fget t (Reg.DMA_CH_STATE_ERR c.val) = 0 ∧
        (dmaChan t c.val).phase = .fetch (rget64 s (Reg.DMA_CH_HEAD_LO c.val) (Reg.DMA_CH_HEAD_HI c.val)) ∧ (dmaChan t c.val).stopping = false ∧
        begins t ∧ others t ∧ same t) ∧
      (dmaState s c.val = Dma.running ∨ dmaState s c.val = Dma.parked → Yields (.dmaStart c) s fun t => t = s) ∧
      (dmaState s c.val = Dma.halted →
        ((dmaChan s c.val).phase = .data → Yields (.dmaRetry c) s fun t =>
          dmaState t c.val = Dma.running ∧ fget t (Reg.DMA_CH_STATE_ERR c.val) = 0 ∧
          (∀ d, ReadsOn (dmaChan s d) (dmaChan t d)) ∧
          same t) ∧
        ((dmaChan s c.val).phase ≠ .data → fget s (Reg.DMA_CH_STATE_ERR c.val) ≠ 0 →
          Yields (.dmaRetry c) s fun t => dmaState t c.val = Dma.running ∧ fget t (Reg.DMA_CH_STATE_ERR c.val) = 0 ∧
            (dmaChan t c.val).phase = .fetch (rget64 s (Reg.DMA_CH_ERR_ADDR_LO c.val) (Reg.DMA_CH_ERR_ADDR_HI c.val)) ∧ (dmaChan t c.val).desc = none ∧ (dmaChan t c.val).sample = (rget s (Reg.DMA_CH_APPEND_COUNT c.val)).toNat ∧ others t ∧ same t)) ∧
      (dmaState s c.val ≠ Dma.halted → Yields (.dmaRetry c) s fun t => t = s) ∧
      (dmaState s c.val = Dma.parked → Yields (.dmaStop c) s fun t => dmaState t c.val = Dma.idle ∧ dmaChan t c.val = DmaChan.idle ∧
        others t ∧ same t) ∧
      (dmaState s c.val = Dma.running → Yields (.dmaStop c) s fun t => dmaChan t c.val = { dmaChan s c.val with stopping := true } ∧
        others t ∧ Quiet [] s t) ∧
      (dmaState s c.val = Dma.idle ∨ dmaState s c.val = Dma.halted → Yields (.dmaStop c) s fun t => t = s) ∧
      (Yields (.dmaAppend c) s fun t => rget t (Reg.DMA_CH_APPEND_COUNT c.val) = rget s (Reg.DMA_CH_APPEND_COUNT c.val) + 1 ∧
        (dmaState s c.val ≠ Dma.parked → t.dma = s.dma ∧ dmaState t c.val = dmaState s c.val) ∧
        (dmaState s c.val = Dma.parked → (dmaChan s c.val).sample = (rget s (Reg.DMA_CH_APPEND_COUNT c.val)).toNat →
          dmaState t c.val = Dma.running ∧ (dmaChan t c.val).phase = .reread) ∧
        others t ∧ Quiet [Reg.DMA_CH_APPEND_COUNT c.val, Reg.DMA_CH_STATE c.val] s t))) ∧
  (∀ (s : State) (c : Fin 8),
    let k := dmaChan s c.val
    let count := (rget s (Reg.DMA_CH_APPEND_COUNT c.val)).toNat
    let halted := fun (code addr : Nat) (t : State) => dmaState t c.val = Dma.halted ∧ fget t (Reg.DMA_CH_STATE_ERR c.val) = code ∧
      rget64 t (Reg.DMA_CH_ERR_ADDR_LO c.val) (Reg.DMA_CH_ERR_ADDR_HI c.val) = addr % 2 ^ 64 ∧ chanRequests c.val t = [] ∧
      t.ev.bits.getLsbD (Ev.DMA_CH_HALT c.val) = true ∧ t.flow = s.flow ∧ t.job = s.job
    let halts := fun (code addr : Nat) (t : State) => halted code addr t ∧ t.ev = (raise (Ev.DMA_CH_HALT c.val) s).ev ∧ DramKept s t
    let cur := fun (addr : Nat) (t : State) => rget64 t (Reg.DMA_CH_CUR_LO c.val) (Reg.DMA_CH_CUR_HI c.val) = addr % 2 ^ 64
    let tail := fun (t : State) =>
      if k.sample = count then dmaState t c.val = Dma.parked else dmaState t c.val = Dma.running ∧ (dmaChan t c.val).phase = .reread
    let follows := fun (next : Nat) (t : State) =>
      if k.stopping = true then dmaState t c.val = Dma.idle ∧ dmaChan t c.val = DmaChan.idle
      else if next = 0 then tail t else dmaState t c.val = Dma.running ∧ (dmaChan t c.val).phase = .fetch next
    let goesOn := fun (d : Desc) (t : State) => match k.stopping, k.ahead with
      | false, .read e :: rest => cur e.addr t ∧ (e.ok = false → halted Halt.descFormat e.addr t) ∧
          (e.ok = true → e.cls ≠ 1 → (dmaChan t c.val).phase = .data ∧ (dmaChan t c.val).desc = some e ∧ (dmaChan t c.val).ahead = rest)
      | false, .failed addr :: _ => cur addr t ∧ halted Halt.descFetch addr t
      | false, [] => if k.reading = true then (dmaChan t c.val).phase = .fetch d.next else follows d.next t
      | true, _ => follows d.next t
    let finished := fun (d : Desc) (t : State) => fget t (Reg.DMA_CH_STATE_DONE_SEQ c.val) = d.seq % 2 ^ 16 ∧ goesOn d t ∧
      t.flow = s.flow ∧ t.job = s.job
    (∀ (i : Instr) (t : State), (∃ r, i = .dmaDescriptorFetch c r) ∨ (∃ x, i = .dmaDescriptorComplete c x) ∨ i = .stagingRoom c →
      exec i s = .next t → bytesHeld t.dma.requests ≤ max (bytesHeld s.dma.requests) dmaBuffer ∧
      ∀ q ∈ t.dma.requests, q ∉ s.dma.requests → q.len ≤ s.host.readRequest ∧ q.addr % 4096 + q.len ≤ 4096) ∧
    (∀ r, dmaState s c.val ≠ Dma.running ∨ resting s = true → Yields (.dmaDescriptorFetch c r) s (EnginesOnly s)) ∧
    (dmaState s c.val = Dma.running → resting s = false →
      (∀ addr, k.phase = .fetch addr →
        (Yields (.dmaDescriptorFetch c .failed) s fun t => halts Halt.descFetch addr t ∧ cur addr t) ∧
        (∀ bs, (descOf addr bs).ok = false → Yields (.dmaDescriptorFetch c (.ok bs)) s fun t => halts Halt.descFormat addr t ∧ cur addr t) ∧
        (∀ bs, (descOf addr bs).ok = true → Yields (.dmaDescriptorFetch c (.ok bs)) s fun t => cur addr t ∧
          (dmaChan t c.val).desc = some (descOf addr bs) ∧ (∀ d, d ≠ c.val → ReadsOn (dmaChan s d) (dmaChan t d)) ∧
          t.flow = s.flow ∧ t.job = s.job ∧ DramKept s t ∧ RegsKept [Reg.DMA_CH_CUR_LO c.val, Reg.DMA_CH_CUR_HI c.val] s t ∧
          ((descOf addr bs).cls ≠ 1 → (dmaChan t c.val).phase = .data ∧ t.ingest = s.ingest ∧ t.ev = s.ev) ∧
          ((descOf addr bs).cls = 1 →
            let room : Bool := stagingOn s && decide (s.ingest.stagingUsed + stagingUnits (descOf addr bs).len ≤ stagingRing)
            (room = true → (dmaChan t c.val).phase = .data ∧ t.ev = s.ev ∧
              t.ingest.stagingUsed = s.ingest.stagingUsed + stagingUnits (descOf addr bs).len) ∧
            (room = false → (dmaChan t c.val).phase = .room ∧ t.ingest = s.ingest ∧ t.ev = (raiseIf (stagingOn s) Ev.STAGING_FULL s).ev)))) ∧
      (k.phase = .data → k.reading = true → ∀ d, k.begun.getLast? = some d →
        (∀ bs, Yields (.dmaDescriptorFetch c (.ok bs)) s fun t => (dmaChan t c.val).ahead = k.ahead ++ [.read (descOf d.next bs)] ∧
          (dmaChan t c.val).phase = .data ∧ (dmaChan t c.val).desc = k.desc ∧ Quiet [] s t) ∧
        Yields (.dmaDescriptorFetch c .failed) s fun t => (dmaChan t c.val).ahead = k.ahead ++ [.failed d.next] ∧
          (dmaChan t c.val).phase = .data ∧ (dmaChan t c.val).desc = k.desc ∧ Quiet [] s t) ∧
      (k.phase = .reread →
        (∀ bs, leAt bs 0 8 % 32 = 0 → Yields (.dmaDescriptorFetch c (.ok bs)) s fun t => follows (leAt bs 0 8) t ∧
          t.flow = s.flow ∧ t.job = s.job ∧ t.ev = s.ev ∧ DramKept s t) ∧
        ∀ d, k.desc = some d → k.stopping = false →
          (Yields (.dmaDescriptorFetch c .failed) s (halts Halt.descFetch d.addr)) ∧
          ∀ bs, leAt bs 0 8 % 32 ≠ 0 → Yields (.dmaDescriptorFetch c (.ok bs)) s (halts Halt.descFormat d.addr)) ∧
      (∀ d, k.phase = .data → k.desc = some d → portClosed s d = true → ∀ x, Yields (.dmaDescriptorComplete c x) s (EnginesOnly s)) ∧
      (∀ d, k.phase = .data → k.desc = some d → portClosed s d = false →
        (d.outbound = false →
          (Yields (.dmaDescriptorComplete c (.failed [])) s (halts Halt.hostData d.addr)) ∧
          (∀ parts, Yields (.dmaDescriptorComplete c (.failed parts)) s (halted Halt.hostData d.addr)) ∧
          (d.cls ≠ 1 → d.swap = 0 → ∀ i bs, i + bs.length ≤ d.len →
            Yields (.dmaDescriptorComplete c (.failed [(i, bs)])) s fun t => halted Halt.hostData d.addr t ∧
              rget t (Reg.DMA_CH_BYTES c.val) = rget (bytesMoved c.val bs.length s) (Reg.DMA_CH_BYTES c.val) ∧
              (∀ j b, bs[j]? = some b → dramByte t (inputBuffer + d.offset + i + j) =
                if fencedAt s (inputBuffer + d.offset + i + j) then dramByte s (inputBuffer + d.offset + i + j) else b) ∧
              ∀ a, a < inputBuffer + d.offset + i ∨ inputBuffer + d.offset + i + bs.length ≤ a → dramByte t a = dramByte s a)) ∧
        (d.outbound = false → d.cls ≠ 1 →
          (∀ pre bs post, pre.length ≤ 2 → (∀ b ∈ pre, b.length = d.len ∧ foldOk d b = false) → bs.length = d.len → foldOk d bs = true →
            Yields (.dmaDescriptorComplete c (.data (pre ++ bs :: post))) s fun t => finished d t ∧
              (∀ i b, (swapped d.swap bs)[i]? = some b → dramByte t (inputBuffer + d.offset + i) =
                if fencedAt s (inputBuffer + d.offset + i) then dramByte s (inputBuffer + d.offset + i) else b) ∧
              (∀ a, a < inputBuffer + d.offset ∨ inputBuffer + d.offset + d.len ≤ a → dramByte t a = dramByte s a) ∧
              (s.ecc.dram = Codes.clean → k.ahead = [] → t.ev = s.ev)) ∧
          (∀ x y z, (∀ bs ∈ [x, y, z], bs.length = d.len ∧ foldOk d bs = false) →
            Yields (.dmaDescriptorComplete c (.data [x, y, z])) s fun t => halted Halt.foldMismatch d.addr t ∧
              ∀ a, a < inputBuffer + d.offset ∨ inputBuffer + d.offset + d.len ≤ a → dramByte t a = dramByte s a)) ∧
        (d.outbound = true →
          (∀ rs, Yields (.dmaDescriptorComplete c (.data rs)) s (EnginesOnly s)) ∧
          (∀ u bs, memRead Port.proctor ((region Rgn.diag).lo + d.offset) d.len s = (u, some bs) →
            (Yields (.dmaDescriptorComplete c .written) s fun t => finished d t ∧
              t.host.wrote = postedWrites s d.dst (outboundBytes d bs) ∧ DramKept s t) ∧
            ∀ parts, Yields (.dmaDescriptorComplete c (.failed parts)) s fun t => halted Halt.hostData d.addr t ∧ DramKept s t) ∧
          (∀ u, memRead Port.proctor ((region Rgn.diag).lo + d.offset) d.len s = (u, none) →
            Yields (.dmaDescriptorComplete c .written) s fun t => halted Halt.poison d.addr t ∧ DramKept s t)))) ∧
    (∀ x, dmaState s c.val ≠ Dma.running ∨ k.phase ≠ .data ∨ s.flow.mode = .rest → Yields (.dmaDescriptorComplete c x) s (EnginesOnly s)) ∧
    (∀ d, k.phase = .room → k.desc = some d →
      let starts : Bool := dmaState s c.val == Dma.running && stagingOn s && !resting s &&
        decide (s.ingest.stagingUsed + stagingUnits d.len ≤ stagingRing)
      (starts = true → Yields (.stagingRoom c) s fun t => ReadsOn { k with phase := .data, ringAt := s.ingest.stagingNext } (dmaChan t c.val) ∧
        t.ingest = { s.ingest with stagingUsed := s.ingest.stagingUsed + stagingUnits d.len,
                                   stagingNext := (s.ingest.stagingNext + stagingUnits d.len) % stagingRing } ∧ Quiet [] s t) ∧
      (starts = false → Yields (.stagingRoom c) s (EnginesOnly s))) ∧
    (k.phase ≠ .room → Yields (.stagingRoom c) s (EnginesOnly s)) ∧
    (Yields .pcieCorrectableError s fun t => fget t Reg.DMA_AER_COUNT_COUNT = min (2 ^ 32 - 1) (fget s Reg.DMA_AER_COUNT_COUNT + 1) ∧
      t.dma.aerSecond = timeSec s ∧ t.dma.aerInSecond = (if s.dma.aerSecond = timeSec s then s.dma.aerInSecond + 1 else 1) ∧
      t.ev = (raiseIf (decide (fget s Reg.DMA_AER_WARN ≠ 0 ∧ fget s Reg.DMA_AER_WARN < t.dma.aerInSecond) &&
        !(s.dma.aerSecond == timeSec s && s.dma.aerRaised)) Ev.PCIE_ERROR s).ev ∧
      t.flow = s.flow ∧ t.job = s.job ∧ RegsKept [Reg.DMA_AER_COUNT] s t ∧ DramKept s t) ∧
    ∀ l w, Yields (.pcieLinkUp l w) s fun t =>
      let below : Bool := l.rate != .gt32 || w != .x8
      t = { s with dma := { s.dma with degraded := below },
                   host := { s.host with rate := some l.rate, width := some w, payload := 128 * 2 ^ l.payload.val,
                                         readRequest := 128 * 2 ^ l.readRequest.val },
                   ev := (raiseIf (below && !s.dma.degraded) Ev.PCIE_DEGRADED s).ev })

/-- START of a check unit feeds the initial value with the fold, and a data write its bytes in order, and RESULT and COUNT show them; a
write from the side that does not own the unit is dropped and counted; a host write in Rest wakes the module and waits (R346, R400 to
R403). -/
def Obligations.CheckUnitsRun : Prop :=
  ∀ (s : State) (u : Fin 4) (host : Bool) (v : Word),
    (host = true → s.flow.boot ≠ .held → asleep s = true →
      ∀ i ∈ [Instr.checkUnitStart u true, .checkUnitData8 u true v, .checkUnitData16 u true v, .checkUnitData32 u true v],
        Yields i s fun t => t.host.held = s.host.held ++ [i] ∧ t.pwr.rest.waking = true ∧ t.chk = s.chk ∧ Quiet [Reg.PWR_REST_STATUS] s t) ∧
    ((host = true → Awake s) →
      (chkAccepts u.val host = true →
        let alg := if fget s (Reg.CHK_UNIT_CFG_ALG u.val) = 3 then 0 else fget s (Reg.CHK_UNIT_CFG_ALG u.val)
        let k := chkUnit s u.val
        let leaves := fun (k : Chk) (n : Nat) (t : State) => chkUnit t u.val = k ∧ fget t (Reg.CHK_UNIT_COUNT_BYTES u.val) = n % 2 ^ 32 ∧
          rget64 t (Reg.CHK_UNIT_RESULT_LO u.val) (Reg.CHK_UNIT_RESULT_HI u.val) = crcResult (chkAlg k.alg) k.crc % 2 ^ 64 ∧
          (∀ w, w ≠ u.val → chkUnit t w = chkUnit s w) ∧ Quiet (chkRegs u.val) s t
        let fed := fun (n : Nat) => leaves { k with crc := crcFeed (chkAlg k.alg) k.crc (leBytes n v.toNat), queued := min 16 (k.queued + n) }
          (fget s (Reg.CHK_UNIT_COUNT_BYTES u.val) + n)
        (Yields (.checkUnitStart u host) s (leaves ⟨alg, crcFeed (chkAlg alg) (chkAlg alg).init (chkFold s u.val), k.queued⟩ 0)) ∧
        (Yields (.checkUnitData8 u host v) s (fed 1)) ∧ (Yields (.checkUnitData16 u host v) s (fed 2)) ∧
        (Yields (.checkUnitData32 u host v) s (fed 4))) ∧
      (chkAccepts u.val host = false →
        let dropped := fun (t : State) => t.chk = s.chk ∧
          fget t (Reg.CHK_UNIT_STATUS_DROPPED u.val) = min 65535 (fget s (Reg.CHK_UNIT_STATUS_DROPPED u.val) + 1) ∧
          Quiet [Reg.CHK_UNIT_STATUS u.val] s t
        (Yields (.checkUnitStart u host) s dropped) ∧ (Yields (.checkUnitData8 u host v) s dropped) ∧
        (Yields (.checkUnitData16 u host v) s dropped) ∧ (Yields (.checkUnitData32 u host v) s dropped)))

/-! ## The time base, and JTAG -/

/-- The counter wraps and is captured; the reference's windows and loss, the Syncs of PTP, with the delay that
its request and response measure, and their absence steer the increment or the counter and the locks (a step of time here with no
trigger waiting; a message of another domain or transport is ignored); a servo tick takes the positions of every channel and frames them,
and the link of the Ethernet port is reported as it changes (R291, R294, R431, R432, R435 to R440). -/
def Obligations.TimeIsKept : Prop :=
  ∀ (s : State),
    (Yields .timNsRead s fun t => fget t Reg.TIM_NS_NS = s.tim.h % 2 ^ 32 ∧ fget t Reg.TIM_FRAC_FRAC = s.tim.frac % 2 ^ 32 ∧
      fget t Reg.TIM_WRAPS_WRAPS = s.tim.h / 2 ^ 32 % 65536 ∧ t.tim = s.tim ∧ Quiet [Reg.TIM_NS, Reg.TIM_FRAC, Reg.TIM_WRAPS] s t) ∧
    (s.tim.inRest = false → Yields .counterWrap s fun t => t.tim.h = 0 ∧ t.tim.frac = 0 ∧ timeE t = (timeHigh s + 1) * 2 ^ 48 ∧ Quiet [] s t) ∧
    (s.tim.inRest = true → Yields .counterWrap s fun t => t.tim = { s.tim with h := 0, frac := 0 } ∧
      fget t Reg.TIM_REST_WRAPS_WRAPS = min 65535 (fget s Reg.TIM_REST_WRAPS_WRAPS + 1) ∧ Quiet [Reg.TIM_REST_WRAPS] s t) ∧
    (s.flow.mode ≠ .rest → powered s Dom.GATH = true → Yields .servoTick s fun t =>
      (∀ n, n < 6 → rget64 t (Reg.MOT_CH_POS_L n) (Reg.MOT_CH_POS_H n) = unsigned 64 (chanPos s n (nextServoTick s)).floor) ∧
      (outputsHeld s Dom.GATH = true → t.mot = s.mot) ∧ (outputsHeld s Dom.GATH = false →
        t.mot.frame = setPointFrame s (nextServoTick s + actServoUs s * 1000) ∧ t.mot.fseq = (s.mot.fseq + 1) % 256) ∧ t.mot.chans = s.mot.chans ∧ t.flow = s.flow ∧ t.job = s.job ∧ t.ev = s.ev ∧ DramKept s t) ∧
    (s.flow.mode = .rest ∨ powered s Dom.GATH = false → Yields .servoTick s fun t => t.mot = s.mot ∧ Quiet [Reg.TIM_REST_WRAPS] s t) ∧
    (∀ adv : Nat, adv = 0 ∨ fbit s Reg.TIM_STATUS_REF_EN = false → Yields (.refInWindow adv) s fun t => t = s) ∧
    (∀ adv : Nat, adv ≠ 0 → fbit s Reg.TIM_STATUS_REF_EN = true → Yields (.refInWindow adv) s fun t =>
      t.tim = { s.tim with refGood := true, refWindows :=
        if ((adv : Int) - 10 ^ 9 * 2 ^ 32).natAbs * 10 ^ 7 < 10 ^ 9 * 2 ^ 32 then s.tim.refWindows + 1 else 0 } ∧
      fbit t Reg.TIM_STATUS_REF_LOCK = decide (10 ≤ t.tim.refWindows) ∧
      fget t Reg.TIM_REF_ERR_PPB = unsigned 32 (sat32 (rndDiv (((adv : Int) - 10 ^ 9 * 2 ^ 32) * 10 ^ 9) (10 ^ 9 * 2 ^ 32))) ∧
      (fget t Reg.TIM_STATUS_SRC = 2 → increment t = clampInc (rndDiv ((increment s : Int) * (10 ^ 9 * 2 ^ 32)) adv)) ∧
      fget t Reg.TIM_STATUS_SRC = timeSource t ∧ (fget t Reg.TIM_STATUS_SRC = 3 → increment t = s.tim.hostInc % 2 ^ 64) ∧
      Quiet [Reg.TIM_STATUS, Reg.TIM_REF_ERR, Reg.TIM_INC_LO, Reg.TIM_INC_HI] s t) ∧
    (fbit s Reg.TIM_STATUS_REF_EN = true → Yields .refInLost s fun t => t.tim = { s.tim with refGood := false, refWindows := 0 } ∧
      fbit t Reg.TIM_STATUS_REF_LOCK = false ∧ fget t Reg.TIM_STATUS_SRC ≠ 2 ∧ t.ev = (raise Ev.REF_IN_LOST s).ev ∧ t.flow = s.flow ∧
      t.job = s.job ∧ RegsKept [Reg.TIM_STATUS, Reg.TIM_INC_LO, Reg.TIM_INC_HI] s t ∧ DramKept s t) ∧
    (fbit s Reg.TIM_STATUS_REF_EN = false → Yields .refInLost s fun t => t = s) ∧
    (fbit s Reg.TIM_STATUS_PTP_EN = false → Yields .ptpSyncTimeout s fun t => t = s) ∧
    (∀ m, fbit s Reg.TIM_STATUS_PTP_EN = false ∨ powered s Dom.ETH = false → Yields (.ptpEventMessage m) s fun t => t = s) ∧
    (fbit s Reg.TIM_STATUS_PTP_EN = true → Yields .ptpSyncTimeout s fun t => fbit t Reg.TIM_STATUS_PTP_LOCK = false ∧
      fget t Reg.TIM_STATUS_SRC ≠ 1 ∧ t.ev = (raiseIf (!s.tim.ptpOut) Ev.PTP_UNLOCKED s).ev ∧ t.tim = { s.tim with ptpOut := true } ∧ t.flow = s.flow ∧ t.job = s.job ∧
      RegsKept [Reg.TIM_STATUS, Reg.TIM_INC_LO, Reg.TIM_INC_HI] s t ∧ DramKept s t) ∧
    (fbit s Reg.TIM_STATUS_PTP_EN = true → powered s Dom.ETH = true →
      (∀ (h : PtpHead) (origin inc : Nat), ptpMine s h = true →
        let ofs : Int := (timeE s : Int) - origin - s.tim.ptpDelay
        let heard := { s.tim with ptpSync := some (origin, timeE s), ptpOut := decide (1000 < ofs.natAbs) }
        (ofs.natAbs ≤ 100000 → Yields (.ptpEventMessage (.sync h origin inc)) s fun t =>
          fget t Reg.TIM_PTP_OFS_NS = unsigned 32 ofs ∧ fbit t Reg.TIM_STATUS_PTP_LOCK = decide (ofs.natAbs ≤ 1000) ∧
          fget t Reg.TIM_STATUS_SRC = timeSource t ∧ (timeSource t = 1 → increment t = clampInc inc) ∧
          (timeSource t = 3 → increment t = s.tim.hostInc % 2 ^ 64) ∧ (timeSource t ≠ 1 → timeSource t ≠ 3 → increment t = increment s) ∧
          t.ev = (raiseIf (decide (1000 < ofs.natAbs) && !s.tim.ptpOut) Ev.PTP_UNLOCKED s).ev ∧ t.tim = heard ∧ t.flow = s.flow ∧
          t.job = s.job ∧ RegsKept [Reg.TIM_STATUS, Reg.TIM_PTP_OFS, Reg.TIM_INC_LO, Reg.TIM_INC_HI] s t ∧ DramKept s t) ∧
        (100000 < ofs.natAbs → timeSource s = 0 → Yields (.ptpEventMessage (.sync h origin inc)) s fun t =>
          fget t Reg.TIM_PTP_OFS_NS = unsigned 32 (sat32 ofs) ∧ fbit t Reg.TIM_STATUS_PTP_LOCK = false ∧ increment t = increment s ∧
          t.tim = heard ∧ t.flow = s.flow ∧ t.job = s.job ∧ DramKept s t) ∧
        (100000 < ofs.natAbs → timeSource s ≠ 0 → (∀ n, trigOf s n = none) → Yields (.ptpEventMessage (.sync h origin inc)) s fun t =>
          (t.tim.h : Int) = ((timeE s : Int) - ofs) % 2 ^ 48 ∧ t.tim.frac = 0 ∧ (ofs ≤ timeE s → (timeE t : Int) = timeE s - ofs) ∧
          t.ev.bits.getLsbD Ev.TIME_STEP = true ∧ fbit t Reg.TIM_STATUS_PTP_LOCK = false ∧ t.flow = s.flow ∧ t.job = s.job ∧ DramKept s t)) ∧
      (∀ h origin inc id at', ptpMine s h = false → (Yields (.ptpEventMessage (.sync h origin inc)) s fun t => t = s) ∧
        Yields (.ptpEventMessage (.delayResp h id at')) s fun t => t = s) ∧
      (∀ h id at', ptpMine s h = true →
        (∀ t1 t2 t3, s.tim.ptpSync = some (t1, t2) → s.tim.ptpReqs.lookup id = some t3 → Yields (.ptpEventMessage (.delayResp h id at')) s fun t =>
          t = { s with tim := { s.tim with ptpReqs := s.tim.ptpReqs.filter (·.1 != id),
                                           ptpDelay := rndDiv (((t2 : Int) - t1) + ((at' : Int) - t3)) 2 } }) ∧
        (s.tim.ptpSync = none ∨ s.tim.ptpReqs.lookup id = none → Yields (.ptpEventMessage (.delayResp h id at')) s fun t => t = s)) ∧
      (∀ id, sfpTransmitDisable s = true → Yields (.ptpEventMessage (.sent id)) s fun t => t = s) ∧
      (∀ id, sfpTransmitDisable s = false →
        let asked := assocPut s.tim.ptpReqs id (timeE s)
        (s.tim.ts.length < 16 → Yields (.ptpEventMessage (.sent id)) s fun t =>
          t.tim = { s.tim with ptpReqs := asked, ts := s.tim.ts ++ [⟨id % 65536, timeE s⟩] } ∧
          fget t Reg.TIM_TS_COUNT_ENTRIES = s.tim.ts.length + 1 ∧ Quiet [Reg.TIM_TS_COUNT] s t) ∧
        (16 ≤ s.tim.ts.length → Yields (.ptpEventMessage (.sent id)) s fun t => t.tim = { s.tim with ptpReqs := asked } ∧
          t.ev = (raise Ev.TS_OVERFLOW s).ev ∧ fget t Reg.TIM_TS_DROP_COUNT = min 65535 (fget s Reg.TIM_TS_DROP_COUNT + 1) ∧
          t.flow = s.flow ∧ RegsKept [Reg.TIM_TS_DROP] s t ∧ DramKept s t)) ∧
      (Yields (.ptpEventMessage .unsupported) s fun t => t = s)) ∧
    (∀ up, powered s Dom.ETH = false ∨ s.tim.ethUp = up → Yields (.ethLinkChange up) s fun t => t = s) ∧
    ∀ up, powered s Dom.ETH = true → s.tim.ethUp ≠ up → Yields (.ethLinkChange up) s fun t =>
      t = { s with tim := { s.tim with ethUp := up }, ev := (raise Ev.ETH_LINK s).ev }

/-- The TAP acts on an instruction as the lifecycle allows: every one in MANUFACTURE, none but IDCODE and BYPASS once locked, where the
first attempt is reported, and debug in PROVISIONED only after the module has been emptied, and not once it has left PROVISIONED. The data register captures
IDCODE, BYPASS or the pins. While EXTEST, CLAMP or HIGHZ drives the
outputs, EXPOSE_EN is off and the beams are blanked, and after it EXPOSE_EN is as the module has it (R460, R511, R512). -/
def Obligations.TapIsGuarded : Prop :=
  ∀ (s : State) (i : TapInstr),
    let captured := fun (t : State) => match t.sec.tap with
      | .idcode => t.sec.tapData = .idcode idcode
      | .sample | .extest => ∃ l, t.sec.tapData = .boundary l ∧ l.map Prod.fst = chainPins ∧
          ∀ p ∈ l, ∀ b, pinLevel { s with sec := { s.sec with tap := t.sec.tap } } p.1 = some b → p.2 = b
      | _ => t.sec.tapData = .bypass
    let acts := fun (sec : Sec) (t : State) =>
      let u := { s with sec := sec }
      captured t ∧ t.sec = { sec with tapData := t.sec.tapData } ∧ t.flow = s.flow ∧ t.job = s.job ∧ t.ev = s.ev ∧ DramKept s t ∧
      (tapHolds u = true → fbit t Reg.OUT_STATUS_EXPOSE_EN = false ∧ fbit t Reg.OUT_STATUS_SETTLED = false ∧ t.health.run = none ∧
        (s.health.run = none → fbit t Reg.OUT_STATUS_BLANK = true)) ∧
      (tapHolds u = false → logicRuns s = false → s.out.exposeSince.isSome = true → fbit t Reg.OUT_STATUS_EXPOSE_EN = true) ∧
      (tapHolds u = false → s.out.exposeSince = none → t = { u with free := t.free, sec := t.sec })
    (Yields .tapReset s (acts { s.sec with tap := .idcode, tapArmed := true })) ∧
    (i = .idcode ∨ i = .bypass ∨ lifecycle s = Life.manufacture → Yields (.jtagInstruction i) s (acts { s.sec with tap := i })) ∧
    (i ≠ .idcode → i ≠ .bypass → lifecycle s = Life.secured ∨ lifecycle s = Life.retired →
      Yields (.jtagInstruction i) s fun t => t.sec = { s.sec with tap := .bypass, tapData := .bypass, tapArmed := false } ∧
        t.ev = (raiseIf s.sec.tapArmed Ev.DEBUG_ATTEMPT s).ev ∧
        fget t Reg.SEC_DEBUG_COUNT_COUNT = (if s.sec.tapArmed then satAdd Reg.SEC_DEBUG_COUNT_COUNT.top (fget s Reg.SEC_DEBUG_COUNT_COUNT) 1
          else fget s Reg.SEC_DEBUG_COUNT_COUNT) ∧
        t.flow = s.flow ∧ t.job = s.job ∧ (s.out.exposeSince = none → RegsKept [Reg.SEC_DEBUG_COUNT] s t) ∧ DramKept s t) ∧
    (lifecycle s = Life.provisioned → i = .sample ∨ i = .extest ∨ i = .clamp ∨ i = .highz → Yields (.jtagInstruction i) s
      (acts { s.sec with tap := if i = .sample ∨ s.flow.mode = .service then i else .bypass })) ∧
    (lifecycle s = Life.provisioned →
      (fbit s Reg.SEC_STATUS_DEBUG_OPEN = true → Yields (.jtagInstruction .debug) s (acts { s.sec with tap := .debug })) ∧
      (fbit s Reg.SEC_STATUS_DEBUG_OPEN = false → Yields (.jtagInstruction .debug) s fun t =>
        t.sec.debugHeld = true ∧ t.sec.tap = s.sec.tap ∧ fbit t Reg.SEC_STATUS_DEBUG_OPEN = false) ∧
      (fbit s Reg.SEC_STATUS_DEBUG_OPEN = false →
        let waits : Bool := s.sec.debugFill || s.flow.boot != .over || resting s || s.flow.restart.isSome || s.flow.restartReq || s.flow.ending.isSome
        (waits = true → Yields (.jtagInstruction .debug) s fun t => t = { s with sec := { s.sec with debugHeld := true } }) ∧
        (waits = false → s.job = none → Yields (.jtagInstruction .debug) s fun t =>
          t.sec = { s.sec with debugHeld := true, debugFill := true } ∧ (∀ a, dramByte t a = 0) ∧ fbit t Reg.ECC_STATUS_FILL_BUSY = true ∧
          t.flow = s.flow ∧ t.ev = s.ev))) ∧
    (let may : Bool := lifecycle s == Life.manufacture || lifecycle s == Life.provisioned
     let opens : Bool := s.sec.debugHeld && s.sec.debugFill && s.job.isNone && s.hbm.fill.isNone && s.flow.boot == .over
     (may = true → opens = true → Yields .debugOpen s fun t =>
       t.sec = { s.sec with tap := .debug, tapData := .bypass, debugHeld := false, debugFill := false } ∧
       fbit t Reg.SEC_STATUS_DEBUG_OPEN = true ∧ t.flow = s.flow ∧ t.job = s.job ∧ t.ev = s.ev ∧ DramKept s t ∧
       RegsKept [Reg.SEC_STATUS, Reg.OUT_STATUS] s t) ∧
     (may = false → s.sec.debugHeld = true → Yields .debugOpen s fun t =>
       t.sec = { s.sec with tap := .bypass, tapData := .bypass, tapArmed := false, debugHeld := false, debugFill := false } ∧
       fbit t Reg.SEC_STATUS_DEBUG_OPEN = fbit s Reg.SEC_STATUS_DEBUG_OPEN ∧ t.flow = s.flow ∧ t.job = s.job ∧
       t.ev = (raiseIf s.sec.tapArmed Ev.DEBUG_ATTEMPT s).ev ∧ DramKept s t) ∧
     (s.sec.debugHeld = false ∨ (may = true ∧ opens = false) → Yields .debugOpen s fun t => t = s))

/-! ## Pacing and the lanes -/

/-- STRIPE_ARM samples the position configuration and arms a stripe that may start, with its three lead slots, or misses it: the motion
master then repeats the approach, and another member reports the miss (R58, R197, R210, R303). BELL gives the next slot its time, period
and deferral and starts the next gather, and the last slot disarms the stripe; while a
clock of its crossing is not in lock its pulse may be lost, which the crossing reports with a Hold (R199, R202, R491, R492). The end of a gather and a lane deadline are
recorded with the shot (R29, R175). -/
def Obligations.StripesArePaced : Prop :=
  ∀ (s : State),
    let kept := fun (t : State) => t.job = s.job ∧ DramKept s t
    let clocks : Bool := fbit s Reg.CLK_STATUS_BELL && fbit s Reg.CLK_STATUS_CORE
    (∀ t0, startReady s = false → Yields (.stripeArm t0) s fun t => t = s) ∧
    (∀ e t0, curEntry s = some e → startReady s = true →
      let u := samplePosCfg s
      (axisValid u .y = false → Yields (.stripeArm t0) s fun t => t = u) ∧
      (axisValid u .y = true → progressOf e s.pos.y.count < -4 * (pixCounts s : Int) → Yields (.stripeArm t0) s fun t =>
        (∃ a, t.armed = some a ∧ a.stripeIdx = s.prog.cur ∧ a.slots = [-3, -2, -1] ∧ a.tPrev = none ∧ a.crossings = [] ∧ a.lastTc = none ∧
          a.next = 0 ∧ a.slice = actSlice s ∧ a.skew = (List.range 8).map fun g => fget s (Reg.OUT_SKEW_STEPS g)) ∧
        t.flow = { s.flow with job := .stripe } ∧ t.pos.hwm = progressOf e s.pos.y.count ∧ t.prog.lastStarted = some (e.layer, e.stripe) ∧
        t.prog.recess = none ∧ (t.shots.map (·.shot)) = s.shots.map (·.shot) ++ [-3, -2, -1] ∧ fbit t Reg.POS_STATUS_ARMED = true ∧
        fbit t Reg.POS_STATUS_REVERSED = false ∧ t.ev = s.ev ∧ RegsKept [Reg.POS_STATUS, Reg.CLK_XOVR] s t ∧ kept t) ∧
      (axisValid u .y = true → -4 * (pixCounts s : Int) ≤ progressOf e s.pos.y.count → Yields (.stripeArm t0) s fun t =>
        t.ev = (raise Ev.ARM_MISS s).ev ∧ fget t Reg.BELL_ARM_MISS_COUNT = satAdd Reg.BELL_ARM_MISS_COUNT.top (fget s Reg.BELL_ARM_MISS_COUNT) 1 ∧
        t.flow = s.flow ∧ kept t ∧
        (isMaster s = true → t.armed = none ∧ t.mot.step = (if (chan t 0).seg.isSome then 3 else 6) ∧ t.prog.speed = false) ∧
        (isMaster s = false → t.armed = s.armed ∧ t.mot = s.mot ∧ t.coh = (broadcast Kind.armMiss (stripePayload e) s).coh ∧
          t.prog.speed = false))) ∧
    (∀ ts, s.armed = none → Yields (.bell ts) s fun t => t = s) ∧
    (∀ ts, s.armed.isSome = true → clocks = true → (∀ a e, s.armed = some a → curEntry s = some e → ∀ n rest, a.slots = n :: rest → (a.crossings.find? (·.shot == n)) = none) →
      Yields (.bell ts) s fun t => t = s) ∧
    (∀ ts, s.armed.isSome = true → clocks = false → curEntry s = none → Yields (.bell ts) s fun t => t.armed = s.armed ∧ kept t ∧
      (if freeNat s % 2 = 1 then t.ev.bits.getLsbD Ev.CROSSING_OVERRUN = true ∧ fbitAt t Reg.CLK_XOVR_FLAGS 0 = true ∧
        t.flow.hostHold = true ∧ hasCause t 0 = true else t = { s with free := s.free + 1 })) ∧
    (∀ a e n rest c ts, clocks = true → s.armed = some a → curEntry s = some e → a.slots = n :: rest → (a.crossings.find? (·.shot == n)) = some c →
      s.flow.holdReq = false ∨ (s.flow.ending = none ∧ s.flow.restartReq = false ∧ s.health.run = none) →
      let shown := fun (t : State) => fget t Reg.BELL_PERIOD_STEPS = (bellTime s a c).2.toNat % 2 ^ 32 ∧ fget t Reg.BELL_SHOT_SHOT = unsigned 32 n ∧
        fget t Reg.BELL_DEFER_STEPS = unsigned 32 ((bellTime s a c).1 - c.tc - bellLatency s)
      (rest ≠ [] → Yields (.bell ts) s fun t => shown t ∧
        (∃ b, t.armed = some b ∧ b.tPrev = some (bellTime s a c).1 ∧ b.pPrev = (bellTime s a c).2 ∧ rest <+: b.slots ∧
          b.crossings = a.crossings.filter fun c => decide (n < c.shot)) ∧
        (∀ sh ∈ s.shots, sh.stripeIdx = s.prog.cur → sh.shot = n →
          ∃ sh' ∈ t.shots, sh'.stripeIdx = s.prog.cur ∧ sh'.shot = n ∧ sh'.bell = some ((bellTime s a c).1, (bellTime s a c).2)) ∧
        (s.flow.holdReq = false → s.flow.resume = .none → s.beams.applyCmd = none → t.flow = s.flow) ∧ kept t) ∧
      (rest = [] → s.flow.ending = none → Yields (.bell ts) s fun t => t.armed = none ∧ fbit t Reg.POS_STATUS_ARMED = false)) ∧
    (∀ n margins, s.shots.find? (fun x => x.shot == n && !x.gathered) = none → Yields (.gatherComplete n margins) s fun t => t = s) ∧
    (∀ sh n margins, s.shots.find? (fun x => x.shot == n && !x.gathered) = some sh → Yields (.gatherComplete n margins) s fun t =>
      (∀ x ∈ t.shots, x.stripeIdx = sh.stripeIdx → x.shot = n → x.gathered = true) ∧ t.shots.map (·.shot) = s.shots.map (·.shot) ∧
      fget t Reg.GTH_MARGIN_MIN_CYCLES = margins.foldl (fun m x => min m (min 65535 x)) (fget s Reg.GTH_MARGIN_MIN_CYCLES) ∧
      t.flow = s.flow ∧ RegsKept [Reg.GTH_MARGIN_MIN] s t ∧ kept t) ∧
    ∀ (g : Fin 8) (inc : BitVec 64),
      let open' := s.shots.find? (fun x => x.whole.isEmpty && !(x.lane g.val).passed && decide (0 ≤ x.shot))
      (open' = none → Yields (.laneDeadline g inc) s fun t => t = s) ∧
      ∀ sh, open' = some sh → Yields (.laneDeadline g inc) s fun t =>
        let late := ((List.range 64).filter fun l => groupOf l == g.val && inc.getLsbD l).length
        (∀ x ∈ t.shots, x.stripeIdx = sh.stripeIdx → x.shot = sh.shot → ∀ l, l < x.lanes.length → groupOf l = g.val →
          (x.lane l).passed = true ∧ (inc.getLsbD l = true → (x.lane l).late = true)) ∧
        (late = 0 → Quiet [] s t) ∧
        (late ≠ 0 → fget t Reg.OUT_LATE_FRAMES_COUNT = min (2 ^ 32 - 1) (fget s Reg.OUT_LATE_FRAMES_COUNT + late) ∧
          fget t Reg.GTH_MARGIN_MIN_CYCLES = 0 ∧ t.ev.bits.getLsbD Ev.LATE_SHOT = true ∧ t.flow = s.flow ∧
          RegsKept [Reg.OUT_LATE_FRAMES, Reg.GTH_MARGIN_MIN] s t ∧ kept t)

/-- A lane begins the frame of its next shot, or IDLE frames when nothing is armed; a strobe rises at its time unless a reason blanks its
shot, an in-stripe resume completing with it, and falls, with BLANK_ALL asserted after the last (R53, R215 to R217, R219, R221, R232). An
output domain that is off sends nothing, and one that a BIST holds raises no strobe (R507). The lock of a return lane, its loss and its
timeout, and a transmit fault and its end, are shown, the loss of a lane declaring LINK_LOSS, which clears once every lane is good; a
lane's own fault that ends stays shown while its serializer PLL is unlocked; an engine's report beyond a limit raises OPTICS_WARN once
(R223, R234 to R237). While the outputs are off nothing is watched; with no check run in progress. -/
def Obligations.LanesSendAndAreWatched : Prop :=
  (∀ (s : State),
    let noLonger := fun (t : State) => Quiet [Reg.OUT_STATUS] s t ∧ (s.armed.isSome = true → Quiet [] s t) ∧
      (s.armed = none → s.health.run = none → t.shots.all Shot.strobesOver = true → fbit t Reg.OUT_STATUS_BLANK = true)
    (∀ (l : Fin 64) t0, powered s Dom.OUT = false ∨ (shotsInReach s.shots).find? (Shot.frameDue l.val) = none →
      Yields (.frameStart l t0) s fun t => t = s) ∧
    (∀ (l : Fin 64) t0 sh, powered s Dom.OUT = true → (shotsInReach s.shots).find? (Shot.frameDue l.val) = some sh →
      Yields (.frameStart l t0) s fun t =>
        (∀ x ∈ t.shots, x.stripeIdx = sh.stripeIdx → x.shot = sh.shot → ∃ ty, (x.lane l.val).sent =
            some (ty, frameCrc ty l.val (unsigned 32 sh.shot) (if ty = .shot then lanePayload x.counts l.val else List.replicate 2560 0), t0) ∧
          (ty = .shot → 0 ≤ sh.shot ∧ x.whole = [] ∧ (x.lane l.val).late = false ∧ blockReasons s sh.shot = [])) ∧
        t.shots.map (·.shot) = s.shots.map (·.shot) ∧ t.out = s.out ∧ Quiet [] s t) ∧
    (∀ t0, powered s Dom.OUT = false ∨ s.armed.isSome = true ∨ s.health.run.isSome = true → Yields (.idleFrame t0) s fun t => t = s) ∧
    (∀ t0, powered s Dom.OUT = true → s.armed = none → s.health.run = none → Yields (.idleFrame t0) s fun t =>
      t = { s with out := { s.out with lanes := s.out.lanes.map fun x => { x with idle := x.idle ++ [t0 + 26648] } } }) ∧
    (∀ (g : Fin 8), let next := s.shots.find? (fun x => x.bell.isSome && (x.groups.getD g.val ⟨none, false⟩) == ⟨none, false⟩)
      (powered s Dom.OUT = false ∨ outputsHeld s Dom.OUT = true ∨ next = none → Yields (.strobeRise g) s fun t => t = s) ∧
      ∀ sh b, powered s Dom.OUT = true → outputsHeld s Dom.OUT = false → next = some sh → sh.bell = some b →
        let fires : Bool := decide (0 ≤ sh.shot) && (blockReasons s sh.shot).isEmpty && sh.whole.isEmpty && sh.groupFires g.val
        (fires = true → Yields (.strobeRise g) s fun t => t.out = { s.out with strobes := s.out.strobes ||| 1 <<< g.val } ∧
          (∀ x ∈ t.shots, x.stripeIdx = sh.stripeIdx → x.shot = sh.shot → x.groups.getD g.val ⟨none, false⟩ =
            ⟨some (b.1 + rndDiv (g.val * b.2) 8 + sh.skew.getD g.val 0), false⟩) ∧
          ((∀ k n, s.flow.resume ≠ .inStripe k n) → Quiet [] s t) ∧
          (∀ k slot, s.flow.resume = .inStripe k slot → t.flow = { s.flow with resume := .none } ∧ t.job = s.job ∧ t.ev = s.ev ∧ DramKept s t ∧
            ∀ n, slot = some n → (slotOf t n).status = Status.ok.code ∨ s.mail.orphan = true)) ∧
        (fires = false → Yields (.strobeRise g) s fun t => t.out = s.out ∧ noLonger t ∧
          ∀ x ∈ t.shots, x.stripeIdx = sh.stripeIdx → x.shot = sh.shot → x.groups.getD g.val ⟨none, false⟩ = ⟨none, true⟩)) ∧
    ∀ g : Fin 8, Yields (.strobeFall g) s fun t => t.out = { s.out with strobes := s.out.strobes &&& ~~~((1 : BitVec 8) <<< g.val) } ∧
      t.shots.map (·.shot) = s.shots.map (·.shot) ∧ Quiet [Reg.OUT_STATUS] s t ∧
      (s.shots.any (fun sh => (sh.groups.getD g.val ⟨none, false⟩).rise.isSome && !(sh.groups.getD g.val ⟨none, false⟩).fallen) = true → noLonger t)) ∧
  (∀ (s : State) (l : Fin 64) (t0 : Nat) (e : Fin 8) (power : List Int) (bias : List Nat) (temp : Int),
    let lost := fun (t : State) => t.out.link.on = true ∧ (s.out.link.on = false → t.ev = (raise Ev.LINK_LOSS s).ev ∧
      fbit t Reg.OUT_STATUS_BLANK = true ∧ fbit t Reg.OUT_STATUS_LINK_LOSS = true) ∧ t.flow = s.flow ∧ t.job = s.job ∧ DramKept s t
    (powered s Dom.OUT = false →
      ∀ i ∈ [Instr.returnLaneLock l, .returnLockTimeout l t0, .txLaneFault l t0, .opticsReport e power bias temp], Yields i s fun t => t = s) ∧
    (powered s Dom.OUT = true → Yields (.returnLaneLock l) s fun t =>
      lanesBit t Reg.OUT_RX_LOCK_LO Reg.OUT_RX_LOCK_HI l.val = true ∧ (laneState t l.val).watched = true ∧
      (∀ m, m < 64 → m ≠ l.val → lanesBit t Reg.OUT_RX_LOCK_LO Reg.OUT_RX_LOCK_HI m = lanesBit s Reg.OUT_RX_LOCK_LO Reg.OUT_RX_LOCK_HI m) ∧
      Quiet [Reg.OUT_RX_LOCK_LO, Reg.OUT_RX_LOCK_HI] s t) ∧
    (lanesBit s Reg.OUT_RX_LOCK_LO Reg.OUT_RX_LOCK_HI l.val = true → s.health.run = none → Yields (.returnLaneLockLost l t0) s fun t =>
      lanesBit t Reg.OUT_RX_LOCK_LO Reg.OUT_RX_LOCK_HI l.val = false ∧ lost t) ∧
    (lanesBit s Reg.OUT_RX_LOCK_LO Reg.OUT_RX_LOCK_HI l.val = false → Yields (.returnLaneLockLost l t0) s fun t => t = s) ∧
    (powered s Dom.OUT = true → s.health.run = none →
      ((laneState s l.val).watched = false → Yields (.returnLockTimeout l t0) s fun t => (laneState t l.val).watched = true ∧ lost t) ∧
      ((laneState s l.val).watched = true → Yields (.returnLockTimeout l t0) s fun t => t = s) ∧
      (Yields (.txLaneFault l t0) s fun t => lanesBit t Reg.OUT_TX_FAULT_LO Reg.OUT_TX_FAULT_HI l.val = true ∧
        (laneState t l.val).alarm = true ∧ lost t)) ∧
    (Yields (.txLaneFaultEnd l) s fun t => lanesBit t Reg.OUT_TX_FAULT_LO Reg.OUT_TX_FAULT_HI l.val = !fbit s Reg.CLK_STATUS_OPT ∧
      (laneState t l.val).alarm = false ∧ Quiet [Reg.OUT_TX_FAULT_LO, Reg.OUT_TX_FAULT_HI] s t) ∧
    (linkLossMayClear s = true → Yields .linkLossClear s fun t => t.out.link.on = false ∧ fbit t Reg.OUT_STATUS_LINK_LOSS = false ∧
      t.out.link.clearsAt = (if s.armed.isSome then some (nextGathered s) else none) ∧ Quiet [Reg.OUT_STATUS] s t) ∧
    (linkLossMayClear s = false → Yields .linkLossClear s fun t => t = s) ∧
    (powered s Dom.OUT = true →
      (opticsBeyond s power bias temp = true → Yields (.opticsReport e power bias temp) s fun t => t.out.opticsArmed = false ∧
        t.out.opticsClean = [] ∧ t.ev = (raiseIf s.out.opticsArmed Ev.OPTICS_WARN s).ev ∧ t.flow = s.flow ∧ t.job = s.job ∧ RegsKept [] s t ∧ DramKept s t) ∧
      (opticsBeyond s power bias temp = false → Yields (.opticsReport e power bias temp) s fun t =>
        t.out.opticsClean = ((List.range 8).map fun i => min 1000 (s.out.opticsClean.getD i 0 + if i = e.val then 1 else 0)) ∧
        t.out.opticsArmed = (s.out.opticsArmed || t.out.opticsClean.all (· == 1000)) ∧ Quiet [] s t)))

/-- An echo, or its absence at the deadline, classifies the frame it belongs to and counts a mismatch, LIMIT of them declaring LINK_LOSS; a
frame of an armed stripe that carries no good echo raises ECHO_MISMATCH; an exposure that was never asked for is a head fault, and a Hold
at once; a record that no frame awaits is dropped (R41, R224 to R229, R235). With no check run in progress; of shots, in an armed
stripe. -/
def Obligations.EchoesAreClassified : Prop :=
  ∀ (s : State) (l : Fin 64) (echo : DWord) (t0 : Nat),
    let counted := fun (c : EchoClass) (shot : Nat) (t : State) =>
      (c = .match → (laneState t l.val).bad = 0 ∧ rget t Reg.OUT_ECHO_ERR = rget s Reg.OUT_ECHO_ERR) ∧
      (c ≠ .match → fget t (if c = .missing then Reg.OUT_ECHO_ERR_MISSING else Reg.OUT_ECHO_ERR_COUNT) =
          min 65535 (fget s (if c = .missing then Reg.OUT_ECHO_ERR_MISSING else Reg.OUT_ECHO_ERR_COUNT) + 1) ∧
        fget t Reg.OUT_LAST_MISMATCH_LANE = l.val ∧ fget t Reg.OUT_LAST_MISMATCH_CLASS = c.code ∧ fget t Reg.OUT_LAST_SHOT_SHOT = shot % 2 ^ 32 ∧
        (laneState t l.val).bad = (laneState s l.val).bad + 1 ∧ t.out.link.clean = 0 ∧
        (actEchoLimit s ≤ (laneState s l.val).bad + 1 → t.out.link.on = true ∧ (s.out.link.on = false → t.ev.bits.getLsbD Ev.LINK_LOSS = true)))
    let within := fun (c : EchoClass) => c = .match ∨ (laneState s l.val).bad + 1 < actEchoLimit s
    let faulted := fun (t : State) => t.ev.bits.getLsbD Ev.HEAD_FAULT = true ∧ t.out.headFault = true ∧ hasCause t 8 = true ∧
      fbit t Reg.OUT_STATUS_BLANK = true
    let quiet := fun (t : State) => t.flow = s.flow ∧ t.job = s.job ∧
      RegsKept [Reg.OUT_ECHO_ERR, Reg.OUT_LAST_MISMATCH, Reg.OUT_LAST_SHOT, Reg.OUT_ECHO_LAT_MAX] s t ∧ DramKept s t
    (echoFrame s l.val echo = none → Yields (.echoReceived l echo t0) s fun t => t = s) ∧
    (deadlineFrame s l.val t0 = none → Yields (.echoDeadline l t0) s fun t => t = s) ∧
    (s.health.run = none → ∀ base rest, (laneState s l.val).idle = base :: rest →
      (echoFrame s l.val echo = some .idle → ∀ c, classify .idle 0x80000000 (idleCrc l.val) (some echo) = c →
        Yields (.echoReceived l echo t0) s fun t => counted c 0x80000000 t ∧ (laneState t l.val).idle = rest ∧ t.job = s.job ∧ DramKept s t ∧
          (c ≠ .firedNonShot → within c → quiet t) ∧
          (c = .firedNonShot → faulted t ∧ (s.flow.mode = .write → (∀ n, s.flow.resume ≠ .atTick n) → t.flow.mode = .hold))) ∧
      (deadlineFrame s l.val t0 = some .idle → Yields (.echoDeadline l t0) s fun t => counted .missing 0x80000000 t ∧
        (laneState t l.val).idle = rest ∧ (within .missing → quiet t))) ∧
    (s.health.run = none → s.armed.isSome = true → s.flow.ending = none →
      ∀ i n sh ty crc t1, s.shots.find? (fun x => x.stripeIdx == i && x.shot == n) = some sh → (sh.lane l.val).sent = some (ty, crc, t1) →
      let waits := ∃ sh0 k, s.shots.head? = some sh0 ∧ k < sh0.lanes.length ∧ k ≠ l.val ∧ (sh0.lane k).cls = none
      let classified := fun (c : EchoClass) (t : State) => counted c (unsigned 32 n) t ∧
        (∀ x ∈ t.shots, x.stripeIdx = i → x.shot = n → (x.lane l.val).cls = some c) ∧
        (echoMismatch ty (unsigned 32 n) c (sh.lane l.val).cut.isSome = true → t.ev.bits.getLsbD Ev.ECHO_MISMATCH = true) ∧
        (c ≠ .firedNonShot → within c → waits → quiet t) ∧ (c = .firedNonShot → faulted t)
      (echoFrame s l.val echo = some (.shot i n) → Yields (.echoReceived l echo t0) s (classified (classify ty (unsigned 32 n) crc (some echo)))) ∧
      (deadlineFrame s l.val t0 = some (.shot i n) → Yields (.echoDeadline l t0) s (classified .missing)))

/-! ## Check runs -/

/-- A check run opens for the next step when it may, its votes are cast and the commands that asked for it complete; its check Bells play the batch, the lead releasing BLANK_ALL,
and a requested Hold or OUT_OF_STEP ends it; GATE_IN edges that pass the filter and window closes are recorded; the end of a batch judges it: DARK passes or
finds a beam stuck open, SCAN lists the beams to check again or goes over to DARK in the same run, RECHECK retires a beam that fails, CAL measures again
or ends, and the traverses of LOCATE end (R245, R247 to R254, R256 to R259, R262 to R264, R365). -/
def Obligations.CheckRunsPlay : Prop :=
  ∀ (s : State),
    let kept := fun (t : State) => t.job = s.job ∧ DramKept s t
    (∀ slotUs,
      let open' : Bool := s.health.run.isNone && s.armed.isNone && detectorReady s && !checkBlocked s && (s.flow.mode == .service || betweenStripes s)
      (open' = false ∨ nextCheckStep s = none → Yields (.checkRunOpen slotUs) s fun t => t = s) ∧
      ∀ step, open' = true → nextCheckStep s = some step →
        let wraps : Bool := step == .cal && (freshBatch s step).plan.isEmpty
        let fits : Bool := traverseRuns s step && (s.flow.mode == .service || decide ((freshBatch s step).duration ≤ 10 * slotUs))
        (wraps = true → Yields (.checkRunOpen slotUs) s fun t => fbit t Reg.BHM_CAL_CURSOR_ACTIVE = false ∧
          fget t Reg.BHM_CAL_CURSOR_BEAM = 0 ∧ t.ev = (raise Ev.CAL_DONE s).ev ∧ t.flow = s.flow ∧ kept t ∧ RegsKept [Reg.BHM_CAL_CURSOR] s t) ∧
        (wraps = false → fits = false → Yields (.checkRunOpen slotUs) s fun t => t = s) ∧
        (wraps = false → fits = true → Yields (.checkRunOpen slotUs) s fun t =>
          (votes t Dom.GATH).testBit Client.cal = true ∧ (votes t Dom.OUT).testBit Client.cal = true ∧
          (powered s Dom.GATH = true ∧ powered s Dom.OUT = true → t.health = { s.health with
              run := some (freshBatch s step), serial := s.health.serial + 1, windows := [],
              starts := s.health.starts.filter (·.1 != step) } ∧
            (∀ p ∈ s.health.starts, p.1 = step → (slotOf t p.2).status = Status.ok.code ∨ s.mail.orphan = true) ∧
            (s.flow.mode = .service → tapHolds s = false → fbit t Reg.OUT_STATUS_EXPOSE_EN = true)) ∧
          (powered s Dom.GATH = false ∨ powered s Dom.OUT = false → t.health = s.health) ∧ t.flow = s.flow ∧ t.ev = s.ev ∧ kept t)) ∧
    (∀ t0 smp x y, s.health.run = none → Yields (.checkBell t0 smp x y) s fun t => t = s) ∧
    (∀ b t0 smp x y, s.health.run = some b →
      (s.flow.holdReq = true → s.flow.mode = .write → s.flow.ending = none → s.flow.restartReq = false → Yields (.checkBell t0 smp x y) s fun t =>
        t.health.run = none ∧ t.flow.mode = .hold ∧ t.flow.holdReq = false ∧ t.ev.bits.getLsbD Ev.HOLD = true ∧ kept t) ∧
      (s.flow.holdReq = false → s.out.outOfStep = true → Yields (.checkBell t0 smp x y) s fun t =>
        t.health.run = none ∧ t.flow = s.flow ∧ t.ev = s.ev ∧ kept t) ∧
      (s.flow.holdReq = false → s.out.outOfStep = false →
        (b.i < -1 → Yields (.checkBell t0 smp x y) s fun t => (∃ f, t.health.run = some { b with i := -1, fired := f }) ∧
          (mayRelease s = true → fbit t Reg.OUT_STATUS_BLANK = false) ∧ Quiet [Reg.OUT_STATUS] s t) ∧
        (-1 ≤ b.i → b.content (b.i + 1).toNat = none → Yields (.checkBell t0 smp x y) s fun t => t = s) ∧
        (∀ c, -1 ≤ b.i → b.content (b.i + 1).toNat = some c →
          let stage := if b.step = .locateX then x else y
          Yields (.checkBell t0 smp x y) s fun t =>
            (∃ b', t.health.run = some b' ∧ b'.i = b.i + 1 ∧ b'.stage = stage) ∧
            t.health.windows = s.health.windows ++ checkWindows (b.i + 1).toNat t0 stage s ∧
            (∃ sh ∈ t.shots, sh.stripeIdx = checkStripe s ∧ sh.shot = checkShot0 + b.start + (b.i + 1) ∧ sh.bell = some ((t0 : Int), 128000)) ∧
            t.flow = s.flow ∧ kept t ∧ (b.step ≠ .cal → (∃ f, t.health.run = some { b with i := b.i + 1, stage := stage, fired := f }) ∧ Quiet [] s t)))) ∧
    (∀ e : GateEdge, (e.held < max 2 (fget s Reg.BHM_CFG_FILT) → Yields (.gateInEdge e) s fun t => t = s) ∧
      (max 2 (fget s Reg.BHM_CFG_FILT) ≤ e.held → Yields (.gateInEdge e) s fun t =>
        t = { s with health := { s.health with windows := s.health.windows.map (fun w =>
          { w with pulsed := w.pulsed || (decide (w.opens ≤ (e.stamp : Int)) && decide ((e.stamp : Int) < w.closes)) }) } })) ∧
    (∀ (g : Fin 8) high, s.health.run = none ∨ s.health.windows.find? (·.group == g.val) = none → Yields (.checkWindowClose g high) s fun t => t = s) ∧
    (∀ (g : Fin 8) high w b, s.health.windows.find? (·.group == g.val) = some w → s.health.run = some b → Yields (.checkWindowClose g high) s fun t =>
      t = { s with health := { s.health with windows := s.health.windows.erase w, run := some { b with
        pulsed := b.pulsed ++ (if w.pulsed || high then [(w.bell, g.val)] else [])
        held := b.held ++ (if high then [(w.bell, g.val)] else [])
        hits := b.hits ++ (if w.pulsed || high then [(w.bell, w.stage)] else []) } } }) ∧
    ((∀ b, s.health.run = some b → b.played = false) → Yields .checkBatchEnd s fun t => t = s) ∧
    ∀ b, s.health.run = some b → b.played = true →
      let same := fun (t : State) => (hasCause s 1 = false → t.flow = s.flow) ∧ kept t
      let still := s.flow.mode ≠ .service ∨ (s.beams.applyCmd = none ∧ s.beams.queue = [])
      (b.step = .dark → b.pulses ≤ fget s Reg.BHM_DARK_TOL → Yields .checkBatchEnd s fun t => t.health.run = none ∧
        t.health.darkPassed = true ∧ t.health.darkAt = some (slotKey s) ∧ ¬ CheckStep.dark ∈ t.health.asked ∧
        (still → t.ev = (raiseIf (s.health.asked.contains .dark) Ev.CHECK_DONE s).ev) ∧ same t ∧
        ((s.beams.table.any fun p => entStatus p.2 == 3) = false → hasCause t 1 = false)) ∧
      (b.step = .dark → fget s Reg.BHM_DARK_TOL < b.pulses → Yields .checkBatchEnd s fun t => t.health.run = none ∧
        t.health.darkPassed = false ∧ t.ev.bits.getLsbD Ev.STUCK_OPEN = true ∧ hasCause t 1 = true ∧
        (s.flow.mode = .write → s.flow.resume = .none → t.flow.holdReq = true) ∧ kept t) ∧
      (b.step = .scan → b.scanFails = true → Yields .checkBatchEnd s fun t =>
        t.health.run = some { freshBatch s .dark with i := -1, start := b.start + b.n + b.extra.length } ∧ t.health.serial = s.health.serial + 1 ∧ Quiet [] s t) ∧
      (b.step = .scan → b.scanFails = false → Yields .checkBatchEnd s fun t => t.health.run = none ∧ t.health.calNext = true ∧
        (∀ x, x ∈ t.health.recheck ↔ x ∈ s.health.recheck ∨ ((x, false) ∈ scanResults b ∧ entLive (entry s.beams.table x) = true)) ∧ same t) ∧
      (∀ x plan, b.step = .recheck → b.plan = x :: plan → Yields .checkBatchEnd s fun t =>
        let n := ((List.range 16).filter fun c => b.sawPulse c (groupOf (laneOf x))).length
        t.health.run = none ∧ t.health.recheck = s.health.recheck.drop 1 ∧ (12 ≤ n → still → t.ev = s.ev) ∧
        (n < 12 → entLive (entry (tableAhead s) x) = true → t.ev.bits.getLsbD Ev.BEAM_RETIRED = true) ∧ same t) ∧
      (b.step = .cal → Yields .checkBatchEnd s fun t => ∃ bu, (judgeBeams true s).health.run = some bu ∧
        (bu.redo = [] → t.health.run = none) ∧
        (bu.redo ≠ [] → ∃ c, t.health.run = some c ∧ c.plan = bu.plan ++ bu.redo ∧ c.redo = []) ∧ same t) ∧
      (b.step = .locateX → Yields .checkBatchEnd s fun t => t.health.run = none ∧ t.health.xHit = b.hit ∧
        t.health.asked = s.health.asked.map (fun c => if c = .locateX then .locateY else c) ∧ (still → t.ev = s.ev) ∧ same t) ∧
      (b.step = .locateY → Yields .checkBatchEnd s fun t => t.health.run = none ∧ t.health.xHit = none ∧ t.mot.locate = false ∧
        ¬ CheckStep.locateY ∈ t.health.asked ∧ (s.flow.mode ≠ .service → t.ev = (raiseIf (s.health.asked.contains .locateY) Ev.CHECK_DONE s).ev) ∧ same t)

/-! ## Ingest and rendering -/

/-- What lands from a STAGING descriptor is taken up by SEQ: an old block is a duplicate, one out of sequence an error, the next one is
checked; a reading that fails is asked for again, and the third one makes the block unrenderable; a block whose re-reading has another
header is placed anew, the stripe position being the one before it (R77 to R83, R102, R116, R119). With no job loaded it is dropped (the
model's choice, log entry 141). A decode starts on the first block that has passed checks 1 to 3, placed or not: the guard of R113, room
in the queue, one of four engines; it ends with content that checks, or, where the staging ring cannot be read or the content does not
check, with a reading to be asked for again, or, after three, with a block that cannot be rendered (R104, R113 to R118). -/
def Obligations.BlocksLandAndDecode : Prop :=
  (∀ (s : State),
    (∀ (c : Fin 8) d bs, (dmaChan s c.val).phase = .data → (dmaChan s c.val).desc = some d → dmaState s c.val = Dma.running →
      d.outbound = false → d.cls = 1 →
      (bs.length ≠ d.len → Yields (.blockLanded c bs) s (EnginesOnly s)) ∧
      (bs.length = d.len →
        let done := fun (t : State) => fget t (Reg.DMA_CH_STATE_DONE_SEQ c.val) = d.seq % 2 ^ 16 ∧ t.job = s.job ∧ DramKept s t
        let freed := s.ingest.stagingUsed - stagingUnits d.len
        (Yields (.blockLanded c bs) s done) ∧
        ((dmaChan s c.val).ahead = [] → s.job = none → Yields (.blockLanded c bs) s fun t => done t ∧ t.ingest = { s.ingest with stagingUsed := freed } ∧ t.flow = s.flow ∧
          EventsKept [Ev.ECC_UE, Ev.ECC_CE_HIGH] s t) ∧
        ∀ j, (dmaChan s c.val).ahead = [] → s.job = some j →
          ((headerOf bs).seq < s.ingest.nextSeq → Yields (.blockLanded c bs) s fun t => done t ∧
            t.ingest = { s.ingest with duplicates := min (2 ^ 32 - 1) (s.ingest.duplicates + 1), stagingUsed := freed } ∧
            t.flow = s.flow ∧ EventsKept [Ev.ECC_UE, Ev.ECC_CE_HIGH] s t) ∧
          (s.ingest.nextSeq ≤ (headerOf bs).seq → s.ingest.nextSeq < (headerOf bs).seq ∨ j.seqEnd ≤ (headerOf bs).seq →
            Yields (.blockLanded c bs) s fun t => done t ∧
            t.ingest = { s.ingest with outOfSeq := min (2 ^ 32 - 1) (s.ingest.outOfSeq + 1), stagingUsed := freed } ∧
            t.ev.bits.getLsbD Ev.STREAM_ERROR = true ∧ t.flow = s.flow ∧ EventsKept [Ev.STREAM_ERROR, Ev.ECC_UE, Ev.ECC_CE_HIGH] s t) ∧
          ((headerOf bs).seq = s.ingest.nextSeq → s.ingest.nextSeq < j.seqEnd →
            (Yields (.blockLanded c bs) s fun t => done t ∧ t.ingest.nextSeq = s.ingest.nextSeq + 1) ∧
            (s.ingest.blocks = [] →
              let seq := s.ingest.nextSeq
              let h := headerOf bs
              let b := Blk.fresh c.val d.addr (stagingUnits d.len) (dmaChan s c.val).ringAt bs
              let consumed := fun (t : State) => done t ∧ t.ingest.blocks = [] ∧ t.ingest.commitSeq = seq + 1 ∧
                rget64 t Reg.DMA_STG_REL_LO Reg.DMA_STG_REL_HI = (seq + 1) % 2 ^ 64
              (transportOk seq bs = false ∨ openBlock s seq bs = none → Yields (.blockLanded c bs) s fun t => done t ∧
                t.ingest.blocks = [b] ∧ b.phase = .refetch ∧ b.readings = 1 ∧
                fget t Reg.SKV_REFETCH_COUNT = min 65535 (fget s Reg.SKV_REFETCH_COUNT + 1) ∧ t.ev.bits.getLsbD Ev.BLOCK_REFETCH = true ∧
                t.flow = s.flow) ∧
              (∀ plain, transportOk seq bs = true → openBlock s seq bs = some plain → DramReads s →
                (envelopeOk h bs.length = false → Yields (.blockLanded c bs) s fun t => consumed t ∧ Recorded s t seq Cause.envelope noOffset) ∧
                (envelopeOk h bs.length = true → h.kind = 1 → seq < s.ingest.cellsBelow → Yields (.blockLanded c bs) s fun t => consumed t ∧
                  t.flow = s.flow) ∧
                (envelopeOk h bs.length = true → h.kind = 1 → s.ingest.cellsBelow ≤ seq → Yields (.blockLanded c bs) s fun t => done t ∧
                  t.ingest.blocks = [{ b with phase := .ready, plain := plain, placed := true }] ∧ t.flow = s.flow) ∧
                (envelopeOk h bs.length = true → h.kind ≠ 1 → stripePos s h.layer h.stripe = none →
                  s.ingest.removed.contains (h.layer, h.stripe) = false → Yields (.blockLanded c bs) s fun t =>
                  consumed t ∧ Recorded s t seq Cause.stripeMismatch noOffset) ∧
                (∀ i, envelopeOk h bs.length = true → h.kind ≠ 1 → stripePos s h.layer h.stripe = some i →
                  (s.ingest.abandoned.contains i = true → Yields (.blockLanded c bs) s fun t => consumed t ∧
                    t.ingest.duplicates = min (2 ^ 32 - 1) (s.ingest.duplicates + 1) ∧ t.flow = s.flow) ∧
                  (∀ e, s.ingest.abandoned.contains i = false → stripeAt s i = some e →
                    (i ≠ s.ingest.curStripe ∨ e.layer < s.prog.closed → Yields (.blockLanded c bs) s fun t => consumed t ∧
                      Recorded s t seq Cause.stripeMismatch noOffset) ∧
                    (i = s.ingest.curStripe → s.prog.closed ≤ e.layer →
                      (h.kind = 2 → s.ingest.geomFirst = none → h.last = false → Yields (.blockLanded c bs) s fun t => done t ∧
                        t.ingest.blocks = [{ b with phase := .ready, plain := plain, placed := true, stripeIdx := i,
                                                    before := some (i, none, (stripeData s i).dmapSeq) }] ∧
                        (stripeData t i).dmapSeq = some seq ∧ t.flow = s.flow) ∧
                      (h.kind = 2 → s.ingest.geomFirst ≠ none ∨ h.last = true → Yields (.blockLanded c bs) s fun t => consumed t ∧
                        Recorded s t seq Cause.bandRange noOffset) ∧
                      (h.kind = 3 → h.lastBand < h.firstBand ∨ e.h / 256 ≤ h.lastBand ∨ 4095 < h.lastBand - h.firstBand ∨
                          (∃ f, s.ingest.geomFirst = some f ∧ h.firstBand < f) →
                        Yields (.blockLanded c bs) s fun t => consumed t ∧ Recorded s t seq Cause.bandRange noOffset) ∧
                      (h.kind = 3 → h.firstBand ≤ h.lastBand → h.lastBand < e.h / 256 → h.lastBand - h.firstBand ≤ 4095 →
                        (∀ f, s.ingest.geomFirst = some f → f ≤ h.firstBand) →
                        (overDlen (stripeData s i) h.firstBand h.lastBand h.dlen = true → Yields (.blockLanded c bs) s fun t => consumed t ∧
                          Recorded s t seq Cause.fieldRange noOffset) ∧
                        (overDlen (stripeData s i) h.firstBand h.lastBand h.dlen = false → Yields (.blockLanded c bs) s fun t => done t ∧
                        t.ingest.blocks = [{ b with phase := .ready, plain := plain, placed := true, stripeIdx := i,
                                                    first := s.ingest.geomFirst.isNone,
                                                    before := some (i, s.ingest.geomFirst, (stripeData s i).dmapSeq) }] ∧
                        t.ingest.curStripe = (if h.last then i + 1 else i) ∧
                        t.ingest.geomFirst = (if h.last then none else some h.firstBand) ∧ t.flow = s.flow)))))))))) ∧
    (∀ (c : Fin 8) bs, ((dmaChan s c.val).phase ≠ .data ∨ (dmaChan s c.val).desc = none ∨ dmaState s c.val ≠ Dma.running ∨
      ∃ d, (dmaChan s c.val).desc = some d ∧ (d.outbound = true ∨ d.cls ≠ 1)) → Yields (.blockLanded c bs) s (EnginesOnly s)) ∧
    (∀ b bs, s.ingest.blocks = [b] → b.phase = .refetch →
      let read := { b with bytes := bs, readings := b.readings + 1 }
      let consumed := fun (t : State) => t.ingest.blocks = [] ∧ t.ingest.commitSeq = b.seq + 1 ∧
        rget64 t Reg.DMA_STG_REL_LO Reg.DMA_STG_REL_HI = (b.seq + 1) % 2 ^ 64 ∧ t.job = s.job ∧ DramKept s t
      (transportOk b.seq bs = false ∨ openBlock s b.seq bs = none →
        (b.readings < 2 → Yields (.blockRefetch b.seq bs) s fun t => t.ingest.blocks = [{ read with queueKib := 0 }] ∧
          fget t Reg.SKV_REFETCH_COUNT = min 65535 (fget s Reg.SKV_REFETCH_COUNT + 1) ∧ t.ev.bits.getLsbD Ev.BLOCK_REFETCH = true ∧
          t.flow = s.flow ∧ t.job = s.job ∧ DramKept s t) ∧
        (2 ≤ b.readings → Yields (.blockRefetch b.seq bs) s fun t => consumed t ∧ ∃ cause, Recorded s t b.seq cause noOffset ∧
          (transportOk b.seq bs = false → cause = Cause.transport) ∧
          (transportOk b.seq bs = true → DramReads s → cause = Cause.authentication))) ∧
      (∀ plain, transportOk b.seq bs = true → openBlock s b.seq bs = some plain → DramReads s →
        (envelopeOk (headerOf bs) bs.length = false → Yields (.blockRefetch b.seq bs) s fun t =>
          consumed t ∧ Recorded s t b.seq Cause.envelope noOffset) ∧
        (envelopeOk (headerOf bs) bs.length = true →
          (b.placed = true → b.hdr = headerOf bs → Yields (.blockRefetch b.seq bs) s fun t =>
            t.ingest.blocks = [{ read with phase := .ready, plain := plain }] ∧ t.flow = s.flow ∧ t.job = s.job ∧ DramKept s t) ∧
          ((headerOf bs).kind = 1 → b.cause = none → b.late = none → s.ingest.cellsBelow ≤ b.seq → Yields (.blockRefetch b.seq bs) s fun t =>
            t.ingest.blocks = [{ read with phase := .ready, plain := plain, hdr := headerOf bs, placed := true,
                                           opened := b.opened && (!b.placed || b.hdr == headerOf bs) }] ∧
            (b.placed = true → b.hdr ≠ headerOf bs → ∀ i f m, b.before = some (i, f, m) → s.ingest.abandoned.contains i = false →
              t.ingest.curStripe = i ∧ t.ingest.geomFirst = f) ∧ t.flow = s.flow ∧ t.job = s.job ∧ DramKept s t)))) ∧
    ∀ seq bs, (∀ b, blockAt s seq = some b → b.phase ≠ .refetch) → Yields (.blockRefetch seq bs) s fun t => t = s) ∧
  (∀ (s : State),
    let changed := fun (t : State) (seq : Nat) (f : Blk → Blk) => t.ingest.blocks = s.ingest.blocks.map fun x => if x.seq = seq then f x else x
    let mayRetry := fun (b : Blk) => skiverStopped s = true → b.seq ≠ s.ingest.commitSeq ∨ ∀ x, s.ingest.blocks.head? = some x → x.phase ≠ .checked
    (skiverOn s = true →
      (∀ b, nextToDecode s = some b → s.ingest.blocks.countP (·.phase == .decoding) < 4 →
        (b.hdr.stored = false → skvRatio s * b.hdr.clen < b.hdr.dlen →
          (b.placed = true → Yields (.decodeStart b.seq) s fun t =>
            Recorded s t b.seq Cause.expansion noOffset ∧ t.job = s.job ∧ DramKept s t) ∧
          (b.placed = false → Settled s.ingest.blocks → Yields (.decodeStart b.seq) s fun t =>
            changed t b.seq (fun x => { x with phase := .decoded, late := some (Cause.expansion, noOffset), queueKib := 0 }) ∧
            t.flow = s.flow ∧ t.job = s.job ∧ DramKept s t)) ∧
        (b.hdr.stored = true ∨ b.hdr.dlen ≤ skvRatio s * b.hdr.clen →
          (2097152 - queueUsed s < queueNeed b → Yields (.decodeStart b.seq) s fun t =>
            changed t b.seq (fun x => { x with phase := .waitQueue }) ∧
            (skiverStopped s = false → fget t Reg.SKV_STATUS_STATE = 2) ∧ Quiet [Reg.SKV_STATUS, Reg.SKV_QUEUE_FREE] s t) ∧
          (queueNeed b ≤ 2097152 - queueUsed s → Yields (.decodeStart b.seq) s fun t =>
            changed t b.seq (fun x => { x with phase := .decoding, queueKib := queueNeed b }) ∧
            Quiet [Reg.SKV_STATUS, Reg.SKV_QUEUE_FREE] s t)) ∧
        ∀ seq, seq ≠ b.seq → Yields (.decodeStart seq) s fun t => t = s) ∧
      (∀ b, blockAt s b.seq = some b → b.phase = .decoding → b.readings < 3 → Settled s.ingest.blocks →
        partsBad s (stagingParts b.ringAt b.bytes.length) = true ∨ transportOk b.seq (ringBytes s b) = false →
        Yields (.decodeComplete b.seq) s fun t => changed t b.seq (fun x => { x with phase := .refetch, queueKib := 0 }) ∧
          fget t Reg.SKV_REFETCH_COUNT = min 65535 (fget s Reg.SKV_REFETCH_COUNT + 1) ∧ t.ev.bits.getLsbD Ev.BLOCK_REFETCH = true ∧
          t.flow = s.flow ∧ t.job = s.job ∧ DramKept s t) ∧
      (∀ b, blockAt s b.seq = some b → b.phase = .decoding → transportOk b.seq b.bytes = true → DramReads s → s.ecc.invalid = [] →
        let queueAt := fun (x : Blk) => if b.hdr.kind = 3 then s.ingest.queueNext % 2097152 else x.queueAt
        (∀ content, skvDecode b.hdr.stored b.hdr.dlen b.plain = .ok content → crcOf crc64 content = b.hdr.ccheck →
          (Settled s.ingest.blocks → mayRetry b → (skiverStopped s = true → ∀ x, s.ingest.blocks.head? = some x → x.seq ≠ b.seq) →
            (b.placed = true → b.late = none → (parseContent (parseCtx s b) content).bad = none → Yields (.decodeComplete b.seq) s fun t =>
              changed t b.seq (fun x => { x with
                phase := .checked, content := content, records := (parseContent (parseCtx s b) content).records,
                queueAt := queueAt x,
                opened := (parseContent (parseCtx s b) content).opened }) ∧
              EventsKept [Ev.OVER_BUDGET, Ev.ECC_UE, Ev.ECC_CE_HIGH] s t ∧ t.flow = s.flow ∧ t.job = s.job ∧ DramKept s t) ∧
            (b.placed = false → Yields (.decodeComplete b.seq) s fun t =>
              changed t b.seq (fun x => { x with phase := .decoded, content := content, queueAt := queueAt x }) ∧
              EventsKept [Ev.OVER_BUDGET, Ev.ECC_UE, Ev.ECC_CE_HIGH] s t ∧ t.flow = s.flow ∧ t.job = s.job ∧ DramKept s t)) ∧
          (∀ cause off, b.placed = true → b.late = none → (parseContent (parseCtx s b) content).bad = some (cause, off) →
            Yields (.decodeComplete b.seq) s fun t => Recorded s t b.seq cause off ∧ t.job = s.job ∧ DramKept s t)) ∧
        (∀ cause off, (∃ n, skvDecode b.hdr.stored b.hdr.dlen b.plain = .stopped n ∧ cause = Cause.expansion ∧ off = n) ∨
            (∃ content, skvDecode b.hdr.stored b.hdr.dlen b.plain = .ok content ∧ crcOf crc64 content ≠ b.hdr.ccheck ∧
              cause = Cause.contentCheck ∧ off = noOffset) →
          (b.readings < 3 → Settled s.ingest.blocks → mayRetry b → Yields (.decodeComplete b.seq) s fun t =>
            changed t b.seq (fun x => { x with phase := .refetch, queueKib := 0 }) ∧
            fget t Reg.SKV_REFETCH_COUNT = min 65535 (fget s Reg.SKV_REFETCH_COUNT + 1) ∧ t.ev.bits.getLsbD Ev.BLOCK_REFETCH = true ∧
            t.flow = s.flow ∧ t.job = s.job ∧ DramKept s t) ∧
          (3 ≤ b.readings → b.placed = true → Yields (.decodeComplete b.seq) s fun t =>
            Recorded s t b.seq cause off ∧ t.job = s.job ∧ DramKept s t) ∧
          (3 ≤ b.readings → b.placed = false → Settled s.ingest.blocks → mayRetry b → Yields (.decodeComplete b.seq) s fun t =>
            changed t b.seq (fun x => { x with phase := .decoded, late := some (cause, off), queueKib := 0 }) ∧
            t.flow = s.flow ∧ t.job = s.job ∧ DramKept s t)))) ∧
    (∀ seq, skiverOn s = false ∨ nextToDecode s = none ∨ 4 ≤ s.ingest.blocks.countP (·.phase == .decoding) →
      Yields (.decodeStart seq) s fun t => t = s) ∧
    ∀ seq, skiverOn s = false ∨ (∀ b, blockAt s seq = some b → b.phase ≠ .decoding) → Yields (.decodeComplete seq) s fun t => t = s)

/-- The block at the commit point commits: its cells are stored, or stop the Skiver where they find no room; its densities and its
geometry join their stripe's, and the density map is checked after the prologue; records that do not resolve make it unrenderable. None
commits while the Skiver is stopped or entries of the Absence Log wait for room. Granules return once the bands their fence names are
rendered, and a stopped Skiver reads its block again from the staging ring and tries it (R97, R105, R106, R121, R125 to R127, R277). -/
def Obligations.BlocksCommit : Prop :=
  ∀ (s : State),
    let rastered := ∀ c, s.ras.current.head? = some c → c.done ≠ 2080 ∨ 2 ≤ s.ras.pending.length
    (∀ b rest, s.ingest.blocks = b :: rest → Settled (b :: rest) → Settled rest → b.phase = .checked → skiverOn s = true → absHolds s = false →
      let gone := fun (t : State) => t.ingest.blocks = rest ∧ t.ingest.commitSeq = b.seq + 1 ∧
        rget64 t Reg.DMA_STG_REL_LO Reg.DMA_STG_REL_HI = (b.seq + 1) % 2 ^ 64 ∧ t.job = s.job ∧ DramKept s t
      let plainly := fun (t : State) => t.flow = s.flow ∧ EventsKept [Ev.OVER_BUDGET, Ev.ECC_UE, Ev.ECC_CE_HIGH] s t
      (skiverStopped s = false →
        (b.hdr.kind = 2 → Yields .blockCommit s fun t => gone t ∧ plainly t ∧ t.cache = s.cache ∧
          (stripeData t b.stripeIdx).dmap = dmapOf b.records ++ (stripeData s b.stripeIdx).dmap) ∧
        (∀ cells, b.hdr.kind = 1 → resolveDrafts s (draftsOf b.records none) = .ok cells →
          ((storeCells cells 0 0 s).full = false → Yields .blockCommit s fun t => gone t ∧ plainly t ∧
            t.cache = (storeCells cells 0 0 s).state.cache ∧ fget t Reg.SKV_FREE_GRANULES = granulesFree t % 2 ^ 32) ∧
          ((storeCells cells 0 0 s).full = true → Yields .blockCommit s fun t => t.ingest = s.ingest ∧ t.cache = s.cache ∧
            skiverStopped t = true ∧ rget64 t Reg.SKV_STOP_SEQ_LO Reg.SKV_STOP_SEQ_HI = b.seq % 2 ^ 64 ∧
            fget t Reg.SKV_STOP_STORED_GRANULES = (storeCells cells 0 0 s).granules % 2 ^ 32 ∧ t.ev.bits.getLsbD Ev.CACHE_FULL = true ∧
            EventsKept [Ev.CACHE_FULL, Ev.OVER_BUDGET, Ev.ECC_UE, Ev.ECC_CE_HIGH] s t ∧ t.flow = s.flow ∧ t.job = s.job ∧ DramKept s t)) ∧
        (∀ cause off, b.hdr.kind = 1 → resolveDrafts s (draftsOf b.records none) = .error (cause, off) → Yields .blockCommit s fun t =>
          gone t ∧ Recorded s t b.seq cause off) ∧
        (b.hdr.kind = 3 → b.placed = true →
          let r := resolveRecords s [] false b.records
          let d := stripeData s b.stripeIdx
          let opened := { d with
            classes := classesWith d.classes b.records, margin := marginsOf b.records, makeups := makeupsOf b.records, parsed := true }
          (r.bad = none → b.first = false ∨ (∀ e, stripeAt s b.stripeIdx = some e → densityComplete opened e.h = true) →
            Yields .blockCommit s fun t => gone t ∧ plainly t ∧ t.cache = s.cache ∧
              stripeData t b.stripeIdx = { (if b.first then opened else d) with
                complete := max d.complete (if b.hdr.last then bandsOf s b.stripeIdx else b.hdr.firstBand) } ∧
              (rastered → t.ras.geoms =
                s.ras.geoms ++ (if hasRendered s b.stripeIdx b.hdr.lastBand then [] else [geomOf b r.places]))) ∧
          (∀ e, r.bad = none → b.first = true → stripeAt s b.stripeIdx = some e → densityComplete opened e.h = false →
            Yields .blockCommit s fun t => gone t ∧ Recorded s t (d.dmapSeq.getD b.seq) Cause.fieldRange noOffset ∧
              ∀ j, j < e.h / 256 → (stripeData t b.stripeIdx).isRejected j = true) ∧
          (∀ cause off, r.bad = some (cause, off) → Yields .blockCommit s fun t => gone t ∧ Recorded s t b.seq cause off))) ∧
      (skiverStopped s = true → s.cache.fences.any (fenceMet s) = true → b.readings < 3 →
        partsBad s (stagingParts b.ringAt b.bytes.length) = true → Yields .granuleReturn s fun t =>
          t.ingest.blocks = { b with phase := .refetch, queueKib := 0 } :: rest ∧ t.ev.bits.getLsbD Ev.BLOCK_REFETCH = true ∧
          skiverStopped t = true ∧ t.flow = s.flow ∧ t.job = s.job ∧ DramKept s t) ∧
      (skiverStopped s = true → s.cache.fences.any (fenceMet s) = true → transportOk b.seq b.bytes = true → DramReads s → s.ecc.invalid = [] →
        ∀ cells, b.hdr.kind = 1 → resolveDrafts (returnGranules s) (draftsOf b.records none) = .ok cells →
          ((storeCells cells 0 0 (returnGranules s)).full = false → Yields .granuleReturn s fun t => gone t ∧ plainly t ∧
            t.cache = (storeCells cells 0 0 (returnGranules s)).state.cache ∧ skiverStopped t = false) ∧
          ((storeCells cells 0 0 (returnGranules s)).full = true → Yields .granuleReturn s fun t => t.ingest = s.ingest ∧
            t.cache = (returnGranules s).cache ∧ skiverStopped t = true ∧ plainly t ∧ t.job = s.job ∧ DramKept s t))) ∧
    (skiverOn s = false ∨ skiverStopped s = true ∨ absHolds s = true ∨ (∀ b, s.ingest.blocks.head? = some b → b.phase ≠ .checked) →
      Yields .blockCommit s fun t => t = s) ∧
    (s.cache.fences.any (fenceMet s) = false → Yields .granuleReturn s fun t => t = s) ∧
    (s.cache.fences.any (fenceMet s) = true →
      skiverStopped s = false ∨ absHolds s = true ∨ (∀ b, s.ingest.blocks.head? = some b → b.phase ≠ .checked) →
      Yields .granuleReturn s fun t =>
        t.cache.fences = s.cache.fences.filter (fun f => !fenceMet s f) ∧ t.cache.dir = s.cache.dir ∧
        (∀ c, c ∈ t.cache.cells ↔ c ∈ s.cache.cells ∧ ∀ f ∈ s.cache.fences, fenceMet s f = true → c.uid ∉ f.uids) ∧
        fget t Reg.SKV_FREE_GRANULES = granulesFree t % 2 ^ 32 ∧ Quiet [Reg.SKV_CELLS, Reg.SKV_FREE, Reg.SKV_PENDING] s t)

/-- A cell completes its tile; the last one of the oldest band records the band's cycles and forms its doses and densities, as soon as
the pending area has room. A rendered band is finalized into the ring with its correction factors. The Window takes its next row, from the stripe's band or empty outside it, and the
band's last row gives its slot back (R130 to R149, R152, R161 to R166). -/
def Obligations.BandsRender : Prop :=
  ∀ (s : State),
    (∀ (n : Fin 64) cycles i j k, s.ras.cells.getD n.val none = some (i, j, k) → rasterOn s = true →
      (Yields (.tileComplete ⟨n, cycles⟩) s fun t =>
        fget t Reg.RAS_TILE_MAX_CYCLES = max (fget s Reg.RAS_TILE_MAX_CYCLES) (min (2 ^ 32 - 1) cycles) ∧ t.ras.ring = s.ras.ring ∧
        t.flow = s.flow ∧ t.job = s.job ∧ EventsKept [Ev.OVER_BUDGET, Ev.MON_LIMIT, Ev.ECC_UE, Ev.ECC_CE_HIGH] s t ∧ DramKept s t) ∧
      (∀ c ∈ s.ras.current, c.stripeIdx = i → c.band = j → c.done + 1 ≠ 2080 → Yields (.tileComplete ⟨n, cycles⟩) s fun t =>
        ∃ u ∈ t.ras.current, u.stripeIdx = i ∧ u.band = j ∧ u.done = c.done + 1 ∧ u.cycles = c.cycles + cycles ∧ u.bound = c.bound ∧
          (DramReads s → u.unreadable = c.unreadable)) ∧
      (∀ c rest, s.ras.current = c :: rest → c.stripeIdx = i → c.band = j → c.done + 1 = 2080 →
        (∀ d ∈ rest, d.done ≠ 2080 ∧ (d.stripeIdx ≠ i ∨ d.band ≠ j)) →
        Yields (.tileComplete ⟨n, cycles⟩) s fun t =>
          (2 ≤ s.ras.pending.length → t.ras.pending = s.ras.pending) ∧
          (s.ras.pending.length < 2 → ∃ p, t.ras.pending = s.ras.pending ++ [p] ∧ p.stripeIdx = i ∧ p.band = j ∧
            ((stripeData s i).isRejected j = false →
              p.w = bandDoses (stripeData s i).classes (bandDrawn s i j) j true ∧
              p.v = bandDoses (stripeData s i).classes (bandDrawn s i j) j false)) ∧
          fget t Reg.RAS_BAND_CYCLES_CYCLES = min (2 ^ 32 - 1) (c.cycles + cycles) ∧
          (fget s Reg.RAS_BUDGET_CYCLES < c.bound → t.ev.bits.getLsbD Ev.OVER_BUDGET = true ∧
            fget t Reg.RAS_OVER_BUDGET_COUNT = min 65535 (fget s Reg.RAS_OVER_BUDGET_COUNT + 1)))) ∧
    (∀ (n : Fin 64) cycles, s.ras.cells.getD n.val none = none ∨ rasterOn s = false → Yields (.tileComplete ⟨n, cycles⟩) s fun t => t = s) ∧
    (∀ p ps e, s.ras.pending = p :: ps → stripeAt s p.stripeIdx = some e → rasterOn s = true → mayFinalize s p = true → Yields .bandFinalize s fun t =>
      let d := stripeData s p.stripeIdx
      (∃ b, t.ras.ring = s.ras.ring ++ [b] ∧ b.stripeIdx = p.stripeIdx ∧ b.band = p.band ∧ b.slot = s.ras.nextSlot ∧ b.seq = coverSeq d p.band ∧
        (d.isRejected p.band = true → b.dose = []) ∧
        (d.isRejected p.band = false → DramReads s → poisonTiles s d p = [] →
          b.dose = bandBytes e d p.band (bandTargets s d p) ∧
          (e.makeup = false →
            b.dose = (bandTargets s d p).filterMap (fun q => if min 255 q.2 = 0 then none else some (doseOffset q.1, min 255 q.2)) ∧
            fget t Reg.RAS_SAT_COUNT = min (2 ^ 32 - 1) (fget s Reg.RAS_SAT_COUNT +
              ((bandTargets s d p).filter (fun q => decide (255 < q.2))).length)))) ∧
      (∃ l, t.ras.pending = ps ++ l) ∧ t.ras.nextSlot = (s.ras.nextSlot + 1) % 256 ∧ fget t Reg.RAS_BAND_LEAD_BANDS = s.ras.ring.length + 1 ∧
      t.flow = s.flow ∧ t.job = s.job ∧ DramKept s t) ∧
    ((∀ p ps e, s.ras.pending = p :: ps → stripeAt s p.stripeIdx = some e → rasterOn s = true → mayFinalize s p = false) →
      Yields .bandFinalize s fun t => t = s) ∧
    (∀ i e, s.win.stripeIdx = some i → stripeAt s i = some e → powered s Dom.GATH = true → rowMayLoad s e i = true →
      let others := s.win.bytes.filter (fun p => p.1 / 33280 != ringRow s.win.next)
      (s.win.next < 0 ∨ (e.h : Int) ≤ s.win.next → Yields .windowRowWrite s fun t =>
        t.win.next = s.win.next + 1 ∧ t.win.low = max s.win.low (s.win.next - 4607) ∧ t.win.bytes = others ∧ t.ras = s.ras ∧
        Quiet [Reg.ECC_INJECT] s t) ∧
      (∀ b, 0 ≤ s.win.next → s.win.next < e.h → finishedBand s i (s.win.next / 256).toNat = some b →
        Yields .windowRowWrite s fun t => t.win.next = s.win.next + 1 ∧ t.win.low = max s.win.low (s.win.next - 4607) ∧
          t.win.bytes = bandRow b (s.win.next.toNat % 256) (ringRow s.win.next) ++ others ∧
          (s.win.next % 256 = 255 → t.ras.ring = s.ras.ring.filter (fun c => c != b) ∧
            (b ∈ s.ras.ring → t.ras.released = s.ras.released ++ [b] ∧ fget t Reg.RAS_BAND_LEAD_BANDS = t.ras.ring.length % 2 ^ 9)) ∧
          (s.win.next % 256 ≠ 255 → t.ras = s.ras) ∧
          t.flow = s.flow ∧ t.job = s.job ∧ DramKept s t)) ∧
    ((∀ i e, s.win.stripeIdx = some i → stripeAt s i = some e → powered s Dom.GATH = true → rowMayLoad s e i = false) →
      Yields .windowRowWrite s fun t => t = s)

/-! ## DRAM -/

/-- Refresh pays its debt, the part over the limit of the band forced, or postpones the rest; readings move the band, with its debt, the HOT
bit and Hold cause 10; a row at its threshold has its neighbours refreshed, and a disturbance window clears the counters. While a channel
replays, its refreshes wait (R313 to R321, R323). -/
def Obligations.DramIsRefreshed : Prop :=
  ∀ (s : State),
    (∀ (pc : Fin 64) done ws, hbmOn s = true → pcFenced s pc.val = false → pcReplays s pc.val = true →
      Yields (.refreshInterval pc done ws) s fun t => debtOf t pc.val = debtOf s pc.val + 1 ∧ (∀ k, k ≠ pc.val → debtOf t k = debtOf s k) ∧
        t.hbm = { s.hbm with debt := t.hbm.debt } ∧ EventsKept [Ev.MON_LIMIT] s t ∧ RegsKept [Reg.HBM_REF_DEBT_MAX] s t ∧
        t.flow = s.flow ∧ t.job = s.job ∧ DramKept s t) ∧
    (∀ (pc : Fin 64) done ws, hbmOn s = true → pcFenced s pc.val = false → pcReplays s pc.val = false →
      let lim := debtLimit (bandOf s (pc.val / 32))
      let unpaid := !(fbit s Reg.HBM_REF_CFG_PB_EN && done)
      let d := debtOf s pc.val + (if unpaid && decide (debtOf s pc.val < lim) then 1 else 0)
      (Yields (.refreshInterval pc done ws) s fun t => (∀ k, k ≠ pc.val → debtOf t k = debtOf s k) ∧
        t.hbm.powerDown.getLsbD pc.val = false ∧ EventsKept [Ev.MON_LIMIT] s t ∧
        RegsKept ([Reg.HBM_REF_DEBT_MAX, Reg.HBM_REF_FORCED, Reg.HBM_RD_COUNT] ++ (List.range 7).map Reg.HBM_PORT_URG3) s t ∧ t.flow = s.flow ∧ t.job = s.job ∧ DramKept s t) ∧
      (neighbourDue s pc.val = none → Yields (.refreshInterval pc done ws) s fun t =>
        debtOf t pc.val = (if postponed s ws then min lim d else 0) ∧
        fget t Reg.HBM_REF_FORCED_COUNT = min (2 ^ 32 - 1) (fget s Reg.HBM_REF_FORCED_COUNT +
          ((if unpaid && decide (lim ≤ debtOf s pc.val) then 1 else 0) + (d - lim))))) ∧
    (∀ (pc : Fin 64) done ws, hbmOn s = false ∨ pcFenced s pc.val = true → Yields (.refreshInterval pc done ws) s fun t => t = s) ∧
    (∀ (stack : Fin 2) (ra rb : Nat), hbmOn s = true →
      let a := min 255 (sensorReading s (12 + 2 * stack.val) 1000 ra).toNat
      let b := min 255 (sensorReading s (13 + 2 * stack.val) 1000 rb).toNat
      let m := max a b
      let old := bandOf s stack.val
      Yields (.hbmTempRead stack ra rb) s fun t =>
        (stack.val = 0 → fget t Reg.HBM_TEMP_S0A = a ∧ fget t Reg.HBM_TEMP_S0B = b ∧ fget t Reg.HBM_TEMP_S1A = fget s Reg.HBM_TEMP_S1A ∧
          fget t Reg.HBM_TEMP_S1B = fget s Reg.HBM_TEMP_S1B) ∧
        (stack.val = 1 → fget t Reg.HBM_TEMP_S1A = a ∧ fget t Reg.HBM_TEMP_S1B = b ∧ fget t Reg.HBM_TEMP_S0A = fget s Reg.HBM_TEMP_S0A ∧
          fget t Reg.HBM_TEMP_S0B = fget s Reg.HBM_TEMP_S0B) ∧
        (old < bandOfTemp m → bandOf t stack.val = bandOfTemp m ∧ t.ev.bits.getLsbD Ev.HBM_BAND = true ∧
          ∀ pc, pc / 32 = stack.val → debtOf t pc = (if pcFenced s pc then debtOf s pc
            else if pcReplays s pc then debtOf s pc * 2 ^ (bandOfTemp m - old)
            else min (debtLimit (bandOfTemp m)) (debtOf s pc * 2 ^ (bandOfTemp m - old)))) ∧
        (bandOfTemp m ≤ old → (∀ pc, debtOf t pc = debtOf s pc) ∧ bandOf t stack.val =
          if (List.range 32).all (fun i => debtOf s (i + 32 * stack.val) == 0) then fallTo m (fget s Reg.HBM_TEMP_CFG_HYST) old else old) ∧
        (fbit t Reg.HBM_STATUS_HOT = true ↔ ∃ v ∈ dramTemps t, fget s Reg.HBM_TEMP_CFG_HOT ≤ v) ∧
        (∀ k, k < 4 → fget s Reg.HBM_TEMP_CFG_HOT ≤ (dramTemps t).getD k 0 → s.hbm.hot.getLsbD k = false →
          t.ev.bits.getLsbD Ev.HBM_HOT = true) ∧
        EventsKept [Ev.HBM_BAND, Ev.HBM_HOT, Ev.MON_LIMIT, Ev.HOLD] s t ∧
        (hasCause t 10 = true ↔ ∃ v ∈ dramTemps t, 135 < v) ∧
        (135 < m → hasCause s 10 = false → s.flow.mode = .write → s.flow.resume = .none → t.flow.holdReq = true) ∧ t.job = s.job ∧ DramKept s t) ∧
    (∀ (stack : Fin 2) a b, hbmOn s = false → Yields (.hbmTempRead stack a b) s fun t => t = s) ∧
    (∀ (pc : Fin 64) (bank : Fin 32) row,
      (hbmOn s = true → pcFenced s pc.val = false → pcReplays s pc.val = false → rowDue s pc.val bank.val row = true → Yields (.neighbourRefresh pc bank row) s fun t =>
        (∀ e ∈ rowCounts t pc.val bank.val, e.row = row → e.count = 0) ∧
        (∀ k, k ≠ bankKey pc.val bank.val → assocD [] t.hbm.rows k = assocD [] s.hbm.rows k) ∧
        (assocD [] t.hbm.retry (pc.val / 2)).head? = some (.rfm pc.val bank.val) ∧ t.hbm.powerDown.getLsbD pc.val = false ∧
        fget t Reg.HBM_RD_COUNT_COUNT = min (2 ^ 32 - 1) (fget s Reg.HBM_RD_COUNT_COUNT + 1) ∧ Quiet [Reg.HBM_RD_COUNT] s t) ∧
      (hbmOn s = false ∨ pcFenced s pc.val = true ∨ pcReplays s pc.val = true ∨ rowDue s pc.val bank.val row = false →
        Yields (.neighbourRefresh pc bank row) s fun t => t = s)) ∧
    (∀ (stack : Fin 2), Yields (.disturbWindowStart stack) s fun t =>
      (∀ k, assocD [] t.hbm.rows k = if k / 1024 = stack.val then [] else assocD [] s.hbm.rows k) ∧ Quiet [] s t) ∧
    ∀ (pc : Fin 64), Yields (.hbmPowerDown pc) s fun t => Quiet [] s t ∧ t.hbm.powerDown.getLsbD pc.val =
      (s.hbm.powerDown.getLsbD pc.val ||
        (hbmOn s && fget s Reg.HBM_PD_CFG_IDLE_NS != 0 && debtOf s pc.val == 0 && (neighbourDue s pc.val).isNone &&
          !pcFenced s pc.val && !pcReplays s pc.val)) ∧
      ∀ k, k ≠ pc.val → t.hbm.powerDown.getLsbD k = s.hbm.powerDown.getLsbD k

/-- AERR starts a replay, which reissues the commands not confirmed in their order, or fails the one in progress; the third failure fences the
channel, with event and Hold cause 7; a replay that completes is reported, and the accesses that waited for it are served. The pattern
generator's run counts its errors and the fill follows (R321, R322, R325). The scrubber corrects a single-bit error in place, poisons a
unit it cannot correct, with count, event and the band it held, skips a poisoned unit and leaves a clean one; its write-back gives way to
a write that overtakes it. The words of other units stand. Where it does not run, or may not read the unit, nothing happens (R338, R339). -/
def Obligations.DramIsWatched : Prop :=
  (∀ (s : State),
    (∀ (ch : Fin 32) n, hbmOn s = true → fbitAt s Reg.HBM_FENCE_CHANNELS ch.val = false →
      let started := fun (t : State) => t.hbm.replaying = ch.val :: s.hbm.replaying.filter (· != ch.val) ∧
        assocD [] t.hbm.reissue ch.val = ((assocD [] s.hbm.retry ch.val).take n).reverse ∧
        assocD [] t.hbm.retry ch.val = (.prechargeAll (2 * ch.val + 1) :: .prechargeAll (2 * ch.val) :: assocD [] s.hbm.retry ch.val).take 32 ∧
        (∀ c, c ≠ ch.val → assocD [] t.hbm.retry c = assocD [] s.hbm.retry c) ∧
        (∀ e ∈ t.hbm.openRows, e.1 / 64 ≠ ch.val) ∧ t.hbm.debt = s.hbm.debt ∧ t.hbm.rows = s.hbm.rows ∧ Quiet [Reg.HBM_PAR_ERR] s t
      let counted := fun (t : State) => fget t Reg.HBM_PAR_ERR_AERR = min 65535 (fget s Reg.HBM_PAR_ERR_AERR + 1)
      (s.hbm.replaying.contains ch.val = false → Yields (.hbmAerr ⟨ch, n⟩) s fun t => started t ∧ counted t ∧ t.hbm.fails = s.hbm.fails ∧
        fget t Reg.HBM_PAR_ERR_REPLAY_FAIL = fget s Reg.HBM_PAR_ERR_REPLAY_FAIL) ∧
      (s.hbm.replaying.contains ch.val = true → Yields (.hbmAerr ⟨ch, n⟩) s fun t => counted t ∧
        assocD 0 t.hbm.fails ch.val = assocD 0 s.hbm.fails ch.val + 1 ∧
        fget t Reg.HBM_PAR_ERR_REPLAY_FAIL = min 65535 (fget s Reg.HBM_PAR_ERR_REPLAY_FAIL + 1) ∧ t.job = s.job ∧ DramKept s t ∧
        (assocD 0 s.hbm.fails ch.val < 2 → started t) ∧
        (2 ≤ assocD 0 s.hbm.fails ch.val → fbitAt t Reg.HBM_FENCE_CHANNELS ch.val = true ∧ hasCause t 7 = true ∧
          t.ev.bits.getLsbD Ev.HBM_FENCE = true ∧ EventsKept [Ev.HBM_FENCE, Ev.HOLD] s t ∧
          (s.flow.mode = .write → s.flow.resume = .none → t.flow.holdReq = true) ∧
          t.hbm.replaying = s.hbm.replaying.filter (· != ch.val) ∧ assocD [] t.hbm.reissue ch.val = [] ∧
          t.hbm.held = s.hbm.held.filter (fun r => pcnOf s (r.2 * 64) / 2 != ch.val)))) ∧
    (∀ (ch : Fin 32) n, hbmOn s = false ∨ fbitAt s Reg.HBM_FENCE_CHANNELS ch.val = true → Yields (.hbmAerr ⟨ch, n⟩) s fun t => t = s) ∧
    (∀ (ch : Fin 32), (s.hbm.replaying.contains ch.val = true → Yields (.replayComplete ch) s fun t =>
        t.hbm.replaying = s.hbm.replaying.filter (· != ch.val) ∧ t.ev = (raise Ev.HBM_REPLAY s).ev ∧ assocD 0 t.hbm.fails ch.val = 0 ∧
        assocD [] t.hbm.reissue ch.val = [] ∧ t.hbm.held = s.hbm.held.filter (fun r => pcnOf s (r.2 * 64) / 2 != ch.val) ∧
        t.flow = s.flow ∧ t.job = s.job ∧ RegsKept [Reg.HBM_RD_COUNT] s t ∧ DramKept s t) ∧
      (s.hbm.replaying.contains ch.val = false → Yields (.replayComplete ch) s fun t => t = s)) ∧
    (∀ errors, s.flow.mode = .service → hbmOn s = true → s.hbm.fill = none → Yields (.patternRun errors) s fun t =>
      fget t Reg.HBM_TG_ERR_COUNT = min (2 ^ 32 - 1) errors ∧ fbit t Reg.ECC_STATUS_FILL_BUSY = true ∧ (∀ a, dramByte t a = 0) ∧
      t.flow = s.flow ∧ t.job = s.job ∧ t.ev = s.ev ∧ RegsKept [Reg.HBM_TG_ERR, Reg.ECC_STATUS] s t) ∧
    ∀ errors, s.flow.mode ≠ .service ∨ hbmOn s = false ∨ s.hbm.fill ≠ none → Yields (.patternRun errors) s fun t => t = s) ∧
  (∀ (s : State),
    let ended := fun (t : State) (looks : Nat → EccResult) (u : Nat) (r : EccResult) => (∀ w ∈ unitWords u, looks w = r) ∧
      t.flow = s.flow ∧ t.job = s.job ∧ t.cache = s.cache ∧ t.ras = s.ras ∧ DramKept s t
    let corrected := fun (t : State) => fget t Reg.ECC_CE_COUNT_COUNT = min (2 ^ 32 - 1) (fget s Reg.ECC_CE_COUNT_COUNT + 1) ∧
      fget t Reg.ECC_UE_COUNT_COUNT = fget s Reg.ECC_UE_COUNT_COUNT ∧ EventsKept [Ev.ECC_CE_HIGH] s t
    let failed := fun (t : State) => fget t Reg.ECC_UE_COUNT_COUNT = min (2 ^ 32 - 1) (fget s Reg.ECC_UE_COUNT_COUNT + 1) ∧
      fget t Reg.ECC_CE_COUNT_COUNT = fget s Reg.ECC_CE_COUNT_COUNT ∧ t.ev.bits.getLsbD Ev.ECC_SCRUB_UE = true ∧
      EventsKept [Ev.ECC_SCRUB_UE] s t
    let silent := fun (t : State) => fget t Reg.ECC_CE_COUNT_COUNT = fget s Reg.ECC_CE_COUNT_COUNT ∧
      fget t Reg.ECC_UE_COUNT_COUNT = fget s Reg.ECC_UE_COUNT_COUNT ∧ t.ev = s.ev
    (∀ a, scrubOn s = true → a / 64 < 536870912 → pageInvalid s (a / 64 / 64) = false → fencedAt s (a / 64 * 64) = false →
      let u := a / 64
      let struck := 8 * u + freeNat s % 8
      (∀ r dropped, Yields (.scrubUnit (.dram a) r dropped) s fun t => t.flow = s.flow ∧ t.job = s.job ∧ DramKept s t ∧
        (∀ w, w / 8 ≠ u → t.ecc.dram.look w = s.ecc.dram.look w) ∧ t.ecc.sram = s.ecc.sram) ∧
      ((∀ w ∈ unitWords u, s.ecc.dram.look w = .clean) →
        (∀ dropped, Yields (.scrubUnit (.dram a) .clean dropped) s fun t => ended t t.ecc.dram.look u .clean ∧ silent t) ∧
        (Yields (.scrubUnit (.dram a) .correctable false) s fun t => ended t t.ecc.dram.look u .clean ∧ corrected t) ∧
        (Yields (.scrubUnit (.dram a) .correctable true) s fun t => t.ecc.dram.look struck = .correctable ∧ corrected t) ∧
        (Yields (.scrubUnit (.dram a) .uncorrectable false) s fun t => ended t t.ecc.dram.look u .poisoned ∧ failed t ∧
          ∀ b e, (region Rgn.band).lo / 64 ≤ u → u < (region Rgn.band).lo / 64 + 256 * 133120 →
            (s.ras.ring ++ s.ras.released).find? (fun b => b.slot == (u - (region Rgn.band).lo / 64) / 133120) = some b →
            stripeAt s b.stripeIdx = some e →
            fget t Reg.ECC_SRC_LS_STRIPE = e.stripe % 2 ^ 16 ∧ fget t Reg.ECC_SRC_LS_LAYER = e.layer % 2 ^ 16 ∧
              fget t Reg.ECC_SRC_BAND_BAND = b.band % 2 ^ 20 ∧ rget64 t Reg.ECC_SRC_SEQ_LO Reg.ECC_SRC_SEQ_HI = b.seq.getD 0 % 2 ^ 64) ∧
        (Yields (.scrubUnit (.dram a) .uncorrectable true) s fun t => t.ecc.dram.look struck = .uncorrectable ∧ failed t) ∧
        ∀ dropped, Yields (.scrubUnit (.dram a) .poisoned dropped) s fun t => t.ecc.dram.look struck = .poisoned ∧ silent t) ∧
      ((∃ w ∈ unitWords u, s.ecc.dram.look w = .poisoned) → ∀ dropped, Yields (.scrubUnit (.dram a) .clean dropped) s fun t =>
        t.ecc.dram = s.ecc.dram ∧ silent t)) ∧
    (∀ bank off, scrubOn s = true → bank < 96 → off < 2097152 → sramUnitInvalid s (bank * 32768 + off / 64) = false →
      let u := bank * 32768 + off / 64
      (∀ r dropped, Yields (.scrubUnit (.sram bank off) r dropped) s fun t => t.flow = s.flow ∧ t.job = s.job ∧ DramKept s t ∧
        (∀ w, w / 8 ≠ u → t.ecc.sram.look w = s.ecc.sram.look w) ∧ t.ecc.dram = s.ecc.dram) ∧
      ((∀ w ∈ unitWords u, s.ecc.sram.look w = .clean) →
        (∀ dropped, Yields (.scrubUnit (.sram bank off) .clean dropped) s fun t => ended t t.ecc.sram.look u .clean ∧ silent t) ∧
        (Yields (.scrubUnit (.sram bank off) .correctable false) s fun t => ended t t.ecc.sram.look u .clean ∧ corrected t) ∧
        (Yields (.scrubUnit (.sram bank off) .uncorrectable false) s fun t => ended t t.ecc.sram.look u .poisoned ∧ failed t))) ∧
    (∀ addr r dropped, scrubOn s = false ∨ (∃ a, addr = .dram a ∧
        (536870912 ≤ a / 64 ∨ pageInvalid s (a / 64 / 64) = true ∨ fencedAt s (a / 64 * 64) = true)) ∨
      (∃ bank off, addr = .sram bank off ∧ (96 * 32768 ≤ bank * 32768 + off / 64 ∨ sramUnitInvalid s (bank * 32768 + off / 64) = true)) →
      Yields (.scrubUnit addr r dropped) s fun t => t = s))

/-! ## The cohort -/

/-- A port follows its lanes and what it hears; a position that is no longer heard leaves the ring; a Roll Call goes out with the module's
digest, a missed one is reported, whether or not the links are powered; the wake pattern goes out 64 times on lane 0 of each port that is not
yet up, for at most 100 ms (R406, R410 to R413, R420, R424, R428). -/
def Obligations.RingIsWatched : Prop :=
  ∀ (s : State),
    (∀ p, Yields (.cohPortDown p) s fun t => fbit t (portUp p) = false ∧ portHeard t p = false ∧
      t.ev = (raiseIf (fbit s (portUp p)) (portEvent p) s).ev ∧ t.flow = s.flow ∧ t.job = s.job ∧ RegsKept [Reg.COH_STATUS] s t ∧ DramKept s t) ∧
    (∀ p lane locked, powered s Dom.COH = true → Yields (.cohLaneLockChange p lane locked) s fun t => (portLanes t p).testBit lane.val = locked ∧
      (∀ n, n < 4 → n ≠ lane.val → (portLanes t p).testBit n = (portLanes s p).testBit n) ∧
      fbit t (portUp p) = (decide (2 ≤ ((List.range 4).filter fun n => (portLanes t p).testBit n).length) && portHeard s p) ∧
      t.ev = (raiseIf (fbit s (portUp p) && !fbit t (portUp p)) (portEvent p) s).ev ∧
      t.flow = s.flow ∧ t.job = s.job ∧ RegsKept [Reg.COH_STATUS, Reg.COH_LANES] s t ∧ DramKept s t) ∧
    (∀ p lane locked, powered s Dom.COH = false → Yields (.cohLaneLockChange p lane locked) s fun t => t = s) ∧
    (∀ (i : Fin 32), coreRuns s = true → i.val ≠ cohOwn s → Yields (.reachExpiry i) s fun t => reachable t i.val = false ∧
      (peer t i.val).alive = none ∧ (∀ k, k ≠ i.val → reachable t k = reachable s k ∧ peer t k = peer s k) ∧
      (ringWhole s = true → reachable s i.val = true → t.ev.bits.getLsbD Ev.PARTITION = true) ∧
      (saysMaster s i.val = true ∨ (∀ j, j < 32 → j ≠ cohOwn s → j ≠ i.val → reachable s j = true → saysMaster s j = false) → t.coh.masterLost = true ∧
        (inCohort s = true → isMaster s = false → timeUnaligned s = false → t.ev.bits.getLsbD Ev.TIME_ALIGN = true)) ∧
      t.job = s.job ∧ DramKept s t) ∧
    (∀ (i : Fin 32), coreRuns s = false ∨ i.val = cohOwn s → Yields (.reachExpiry i) s fun t => t = s) ∧
    (∀ (i : Fin 32), coreRuns s = true → kept s i.val = true → i.val ≠ cohOwn s → Yields (.rollCallMiss i) s fun t =>
      t = raise Ev.ROLL_CALL_MISS s) ∧
    (∀ (i : Fin 32), coreRuns s = false ∨ kept s i.val = false ∨ i.val = cohOwn s → Yields (.rollCallMiss i) s fun t => t = s) ∧
    (proctorRuns s = true → resting s = false → s.flow.mode ∈ [Mode.ready, Mode.write, Mode.hold] → Yields .rollCallSend s fun t =>
      rget64 t Reg.COH_DIGEST_LO Reg.COH_DIGEST_HI = ownDigest s % 2 ^ 64 ∧ t.coh.alive = (s.coh.alive + 1) % 2 ^ 32 ∧
      (∀ p, portSends s p = true → ∃ f, (p, f) ∈ t.coh.sent ∧ f.kind = Kind.rollCall ∧ f.src = cohOwn s ∧ f.alive = s.coh.alive ∧ frameSound f = true ∧
        slice f.payload 0 8 = leBytes 8 (ownDigest s % 2 ^ 64)) ∧
      t.flow = s.flow ∧ t.job = s.job ∧ DramKept s t) ∧
    (proctorRuns s = false ∨ resting s = true ∨ s.flow.mode ∉ [Mode.ready, Mode.write, Mode.hold] → Yields .rollCallSend s fun t => t = s) ∧
    Yields .wakePatternBurst s fun t =>
      let due := fun (p : Port) => powered s Dom.COH && kept s (cohOwn s) && decide (burstsOn s p < 10000) && !(decide (0 < burstsOn s p) && fbit s (portUp p))
      Quiet [] s t ∧
      t.coh.sentWake = s.coh.sentWake ++ ([Port.east, Port.west].filter due).map
        (fun p => ⟨p, 0, 0b10, [0x4B, 0x57, 0x41, 0x4B, 0x0D, 0x00, 0x00, 0x00], 64⟩) ∧
      t.coh = { s.coh with burstsEast := t.coh.burstsEast, burstsWest := t.coh.burstsWest, sentWake := t.coh.sentWake } ∧
      ∀ p, (due p = true → burstsOn t p = burstsOn s p + 1) ∧
        (due p = false → powered s Dom.COH = true → kept s (cohOwn s) = true → 10000 ≤ burstsOn t p) ∧
        (powered s Dom.COH = false ∨ kept s (cohOwn s) = false → burstsOn t p = burstsOn s p)

/-- A frame whose CRC is wrong, or whose ALIVE is old, is counted and changes nothing else; one of a position that is not kept, or of the
module itself, is dropped; an accepted one keeps its position's ALIVE, puts it in reach and goes on with one hop more. Roll Calls are kept
as the position's last record, and one of the master's can end a rejoin; time requests are answered with all their times, and the answers
measure the port and, upstream, the offset, which over 2 ns leaves the rate alone (R408 to R411, R418 to R420, R427). -/
def Obligations.FramesAreAccepted : Prop :=
  ∀ (s : State) (p : Port) (f : CohFrame),
    (powered s Dom.COH = true →
      (∀ req t3, ∀ q ∈ [(Instr.rollCallReceived p f, Kind.rollCall), (.timeReqReceived p f req t3, Kind.timeReq), (.timeRespReceived p f t3, Kind.timeResp),
          (.readyReceived p f, Kind.ready), (.goReceived p f, Kind.go), (.armMissFrame p f, Kind.armMiss), (.membershipReceived p f, Kind.membership),
          (.resumeFrameReceived p f, Kind.resume)],
        (frameSound f = false → Yields q.1 s fun t => t.coh = s.coh ∧ Quiet [Reg.COH_FRAME_ERR] s t ∧
          fget t Reg.COH_FRAME_ERR_CRC = min 65535 (fget s Reg.COH_FRAME_ERR_CRC + if f.kind = q.2 then 1 else 0)) ∧
        (frameSound f = true → f.src = cohOwn s ∨ kept s f.src = false → Yields q.1 s fun t => t = s) ∧
        (∀ a, frameSound f = true → f.src ≠ cohOwn s → kept s f.src = true → (peer s f.src).alive = some a →
          (2 ^ 31 ≤ (2 ^ 32 + f.alive - a) % 2 ^ 32 → Yields q.1 s fun t => t.coh = s.coh ∧ Quiet [Reg.COH_FRAME_ERR] s t ∧
            fget t Reg.COH_FRAME_ERR_ALIVE = min 65535 (fget s Reg.COH_FRAME_ERR_ALIVE + if f.kind = q.2 then 1 else 0)) ∧
          ((2 ^ 32 + f.alive - a) % 2 ^ 32 = 0 → q.2 ≠ Kind.rollCall → Yields q.1 s fun t => t = s)))) ∧
    (powered s Dom.COH = false → ∀ req t3, ∀ i ∈ [Instr.rollCallReceived p f, .timeReqReceived p f req t3, .timeRespReceived p f t3,
        .readyReceived p f, .goReceived p f, .armMissFrame p f, .membershipReceived p f, .resumeFrameReceived p f],
      Yields i s fun t => t = s) ∧
    (Acceptable s f →
      (f.kind = Kind.rollCall → Yields (.rollCallReceived p f) s fun t =>
        (peer t f.src).roll = some (fword f 0 8, f.epoch, fword f 8 4, fword f 12 4, fword f 16 8) ∧ (peer t f.src).alive = some f.alive ∧
        (peer t f.src).via = some (p, f.hops) ∧ reachable t f.src = true ∧
        (f.hops + 1 ≠ cohMembers s → portSends s (otherPort p) = true → (otherPort p, { f with hops := f.hops + 1 }) ∈ t.coh.sent) ∧
        (ringWhole s = true → reachable s f.src = true → hasCause s 6 = false → t.flow = s.flow) ∧
        (ringWhole s = true → reachable s f.src = true → (fword f 8 4).testBit 10 = true → f.epoch = (rget s Reg.COH_EPOCH).toNat →
          digestOk s = true → s.coh.removed = false → hasCause t 6 = false) ∧
        (s.coh.removed = true → hasCause s 6 = true → hasCause t 6 = true) ∧ t.job = s.job ∧ DramKept s t) ∧
      (∀ req t3, f.kind = Kind.timeReq → Yields (.timeReqReceived p f req t3) s fun t => (peer t f.src).alive = some f.alive ∧
        (portSends s p = true → ∃ g, (p, g) ∈ t.coh.sent ∧ g.kind = Kind.timeResp ∧ g.src = cohOwn s ∧ slice g.payload 0 8 = leBytes 8 (wireTime req.t1) ∧
          slice g.payload 8 8 = leBytes 8 (wireTime req.t2) ∧
          slice g.payload 16 8 = leBytes 8 (wireTime t3) ∧ frameSound g = true) ∧ t.job = s.job ∧ DramKept s t) ∧
      (∀ t4, f.kind = Kind.timeResp → sentT1 s p = none → Yields (.timeRespReceived p f t4) s fun t => (peer t f.src).alive = some f.alive ∧
        fget t (delayField p) = fget s (delayField p) ∧ t.tim = s.tim ∧ t.job = s.job ∧ DramKept s t) ∧
      (∀ t1 t4, f.kind = Kind.timeResp → sentT1 s p = some t1 → reachable s f.src = true → Yields (.timeRespReceived p f t4) s fun t =>
        sentT1 t p = none ∧ (peer t f.src).alive = some f.alive ∧ fget t (delayField p) =
          min 65535 (rndDiv (stepDiff t4 t1 - stepDiff (stepsOf (fword f 16 8)) (stepsOf (fword f 8 8))) 2).toNat ∧
        (upstream s ≠ some p → t.tim = s.tim) ∧
        (upstream s = some p →
          let ps := rndDiv ((stepDiff (stepsOf (fword f 8 8)) t1 + stepDiff (stepsOf (fword f 16 8)) t4) * 25) 2 + signed 32 (fword f 24 4)
          t.coh.misaligned = decide (2000 < ps.natAbs) ∧ (ps.natAbs ≤ 1000000 → t.tim = s.tim ∧ fint t Reg.COH_TIME_OFS_PS = sat32 ps) ∧
          (2000 < ps.natAbs → ps.natAbs ≤ 1000000 → rget t Reg.TIM_INC_LO = rget s Reg.TIM_INC_LO ∧ rget t Reg.TIM_INC_HI = rget s Reg.TIM_INC_HI) ∧
          (1000000 < ps.natAbs → t.ev.bits.getLsbD Ev.TIME_STEP = true)) ∧
        t.job = s.job ∧ DramKept s t)) ∧
    (∀ t1, fbit s (portUp p) = true → powered s Dom.COH = true → Yields (.timeReqSend p t1) s fun t => sentT1 t p = some t1 ∧
      (portSends s p = true → ∃ g, (p, g) ∈ t.coh.sent ∧ g.kind = Kind.timeReq ∧ g.src = cohOwn s ∧ frameSound g = true) ∧ Quiet [] s t) ∧
    ∀ t1, fbit s (portUp p) = false ∨ powered s Dom.COH = false → Yields (.timeReqSend p t1) s fun t => t = s

/-- READY names the next stripe to the ring; when every member is ready the motion master advances the epoch and sends GO, which a member
adopts; ARM_MISS sends the master back to the approach, a stripe it has armed given up where no Bell of it has rung (R303, R420 to R423; that
the master gives it up is the model's choice, log entry 146). -/
def Obligations.MembersAgree : Prop :=
  ∀ (s : State),
    (readyToSend s = none → Yields .readySend s fun t => t = s) ∧
    (∀ e, readyToSend s = some e →
      let go := masterBit s && ringWhole s && !goneFor s e &&
        (List.range 32).all fun i => !kept s i || decide (i = cohOwn s) || (peer s i).ready == some (e.layer, e.stripe)
      Yields .readySend s fun t => (peer t (cohOwn s)).ready = some (e.layer, e.stripe) ∧
      (∀ p, portSends s p = true → ∃ f, (p, f) ∈ t.coh.sent ∧ f.kind = Kind.ready ∧ f.src = cohOwn s ∧ f.payload = stripePayload e ∧ frameSound f = true) ∧
      (go = false → rget t Reg.COH_EPOCH = rget s Reg.COH_EPOCH ∧ t.coh.go = s.coh.go) ∧
      (go = true → rget t Reg.COH_EPOCH = rget s Reg.COH_EPOCH + 1 ∧ t.coh.go = some (e.layer, e.stripe, (rget t Reg.COH_EPOCH).toNat) ∧
        ∀ p, portSends s p = true → ∃ f, (p, f) ∈ t.coh.sent ∧ f.kind = Kind.go ∧ f.src = cohOwn s ∧ f.epoch = (rget t Reg.COH_EPOCH).toNat ∧
          f.payload = stripePayload e ∧ frameSound f = true) ∧
      t.flow = s.flow ∧ t.job = s.job ∧ t.ev = s.ev ∧ DramKept s t) ∧
    ∀ (p : Port) (f : CohFrame), Acceptable s f →
      (f.kind = Kind.ready → Yields (.readyReceived p f) s fun t => (peer t f.src).ready = some (fword f 0 2, fword f 2 2) ∧
        (peer t f.src).alive = some f.alive ∧ reachable t f.src = true ∧ (masterBit s = false → t.coh.go = s.coh.go) ∧
        (∀ e, masterBit s = true → curEntry s = some e → inCohort s = true → ringWhole s = true → reachable s f.src = true →
          inState s .write .recess = true → goneFor s e = false →
          (∀ i, i < 32 → kept s i = true → i ≠ f.src → (peer s i).ready = some (e.layer, e.stripe)) → fword f 0 2 = e.layer → fword f 2 2 = e.stripe →
          t.coh.go = some (e.layer, e.stripe, (rget t Reg.COH_EPOCH).toNat) ∧ rget t Reg.COH_EPOCH = rget s Reg.COH_EPOCH + 1) ∧
        t.job = s.job ∧ DramKept s t) ∧
      (f.kind = Kind.go → Yields (.goReceived p f) s fun t => (peer t f.src).alive = some f.alive ∧
        (saysMaster s f.src = true → rget t Reg.COH_EPOCH = BitVec.ofNat 32 f.epoch ∧
          t.coh.go = some (fword f 0 2, fword f 2 2, (rget t Reg.COH_EPOCH).toNat)) ∧
        (saysMaster s f.src = false → rget t Reg.COH_EPOCH = rget s Reg.COH_EPOCH ∧ t.coh.go = s.coh.go) ∧
        t.prog = s.prog ∧ t.job = s.job ∧ DramKept s t) ∧
      (f.kind = Kind.armMiss → Yields (.armMissFrame p f) s fun t => (peer t f.src).alive = some f.alive ∧ DramKept s t ∧
        (∀ e, curEntry s = some e → s.flow.mode = .write → s.flow.resume = .none →
          (isMaster s = true → fword f 0 2 = e.layer → fword f 2 2 = e.stripe →
            (s.flow.job ≠ .stripe → s.armed = none → t.prog = { s.prog with speed := false } ∧
              t.mot.step = (if (chan t 0).seg.isSome then 3 else 6) ∧ (∀ g, (chan t 0).seg = some g → chanState t 0 ≠ stMoving)) ∧
            (s.armed ≠ none → mayUnarm s = true → t.armed = none ∧ t.flow.job = .recess ∧ t.prog.speed = false ∧
              fbit t Reg.OUT_STATUS_BLANK = true) ∧
            (s.flow.job = .stripe → s.armed = none ∨ mayUnarm s = false → t.mot = s.mot ∧ t.prog = s.prog ∧ t.armed = s.armed)) ∧
          (isMaster s = false ∨ fword f 0 2 ≠ e.layer ∨ fword f 2 2 ≠ e.stripe → t.mot = s.mot ∧ t.prog = s.prog ∧ t.armed = s.armed)))

/-- MEMBERSHIP replaces the ring, whose reach stays what is heard, and a module it leaves out is removed; a Hold set of another position holds
this module too, and goes on where it is seen for the first time; RESUME takes back the pairs it covers, and with no other cause the module
resumes (R407, R415 to R417, R423, R426). -/
def Obligations.RingHoldsAndResumes : Prop :=
  ∀ (s : State) (p : Port),
    (∀ f, Acceptable s f → f.kind = Kind.membership → Yields (.membershipReceived p f) s fun t => t.job = s.job ∧ DramKept s t ∧
      (∀ k, k < 32 → (reachable t k = true ↔ reachable s k = true ∨ k = f.src)) ∧
      (masterBit s = false → saysMaster s f.src = true → rget t Reg.COH_EPOCH = BitVec.ofNat 32 f.epoch) ∧
      (masterBit s = true → rget t Reg.COH_EPOCH = rget s Reg.COH_EPOCH + 1 ∧
        ∀ q, portSends s q = true → ∃ g, (q, g) ∈ t.coh.sent ∧ g.kind = Kind.membership ∧ g.src = cohOwn s ∧
          g.epoch = (rget t Reg.COH_EPOCH).toNat ∧ fword g 0 4 = fword f 0 4 ∧ frameSound g = true) ∧
      (masterBit s = true ∨ saysMaster s f.src = true →
        ((BitVec.ofNat 32 (fword f 0 4)).getLsbD (cohOwn s) = true →
          rget t Reg.COH_KEEP = BitVec.ofNat 32 (fword f 0 4) ∧ t.ev.bits.getLsbD Ev.COHORT_CHANGED = true) ∧
        ((BitVec.ofNat 32 (fword f 0 4)).getLsbD (cohOwn s) = false → t.coh.removed = true ∧ rget t Reg.COH_KEEP = rget s Reg.COH_KEEP)) ∧
      (masterBit s = false → saysMaster s f.src = false → rget t Reg.COH_KEEP = rget s Reg.COH_KEEP ∧ rget t Reg.COH_EPOCH = rget s Reg.COH_EPOCH)) ∧
    (∀ (src : Fin 32) id, powered s Dom.COH = true →
      (src.val = cohOwn s → Yields (.holdSetReceived p src id) s fun t =>
        t.coh.pairs = s.coh.pairs ∧ t.flow = s.flow ∧ t.job = s.job ∧ RegsKept [Reg.COH_STATUS] s t ∧ DramKept s t) ∧
      (src.val ≠ cohOwn s →
        let pair := (src.val, id % 65536)
        let anew := !s.coh.seen.contains pair
        Yields (.holdSetReceived p src id) s fun t =>
        hasCause t 5 = true ∧ t.coh.pairs = (if s.coh.pairs.contains pair then s.coh.pairs else s.coh.pairs ++ [pair]) ∧ t.coh.seen.contains pair = true ∧
        (peer t src.val).holdId = id % 65536 ∧ (s.flow.mode = .write → s.flow.resume = .none → t.flow.holdReq = true) ∧
        (anew = true → neighbour s (otherPort p) ≠ src.val → portSends s (otherPort p) = true → (otherPort p, pair) ∈ t.coh.sentHold) ∧
        (anew = false ∨ neighbour s (otherPort p) = src.val → s.flow.resume = .none → t.coh.sentHold = s.coh.sentHold) ∧ t.job = s.job ∧ DramKept s t)) ∧
    (∀ (src : Fin 32) id, powered s Dom.COH = false → Yields (.holdSetReceived p src id) s fun t => t = s) ∧
    ∀ f, Acceptable s f → f.kind = Kind.resume →
      let left := s.coh.pairs.filter fun e => !idNotLater e.2 (fword f (2 * e.1) 2)
      Yields (.resumeFrameReceived p f) s fun t => t.coh.pairs = left ∧
        (left = [] → hasCause t 5 = false) ∧ (left ≠ [] → hasCause t 5 = hasCause s 5) ∧
        (s.flow.mode ≠ .hold → s.flow.resume = .none → t.job = s.job ∧ t.flow.mode = s.flow.mode) ∧
        (s.flow.mode = .hold → s.flow.job ≠ .stripe → (∀ n, hasCause s n = true → n = 0 ∨ n = 5) → left = [] → holdClocksLocked s = true →
          transitioning s = false → ringWhole s = true → reachable s f.src = true →
          t.flow.resume = .atTick none ∧ s.flow.mode = t.flow.mode ∧ s.job = t.job) ∧ DramKept s t

/-! ## Rules stated word for word -/

/-- The shares of a cover set sum to T, each is the difference of two floors, and a live member's count is its share times its gain, rounded
to nearest with ties upward; a beam whose count passes 31 is blanked (R32, R33). -/
def Obligations.DoseIsSplit : Prop :=
  (∀ T L : Nat, 0 < L → ((List.range L).map fun k => share T k L).sum = T) ∧
  (∀ T k L : Nat, 0 < L → share T k L + T * k / L = T * (k + 1) / L) ∧
  (∀ n G : Nat, 2048 * count n G ≤ n * G + 1024 ∧ n * G + 1024 < 2048 * (count n G + 1) ∧ count n G = (n * G + 1024) >>> 11) ∧
  ∀ (s : State) (gi : GatherIn) (rejected : List Nat) (b : Nat),
    let e := entry s.beams.table b
    let p := samplePoint s gi e (groupOf (laneOf b))
    let L := sumLive (summary s (entSet e).toNat)
    let c := count (share (min 248 (scaledDose s gi p)) (entRank e) L) (entG e)
    0 < L → samplePoisoned s p = false → beamUnreadable s b (entSet e) = false → onRejectedRows rejected p = false →
      (c ≤ 31 → (gatherLive s gi rejected b).count = c ∧ (gatherLive s gi rejected b).absent = []) ∧
      (31 < c → (gatherLive s gi rejected b).count = 0 ∧ (gatherLive s gi rejected b).absent = [.doseClip])

/-- Samples that come together reach every probe that names their source: MIN and MAX take every one, LAST, SAMPLES and the bins only the
largest, and each one outside the limits raises MON_LIMIT, unless the limits are equal (R500, R502). -/
def Obligations.ProbesSample : Prop :=
  ∀ (s : State) (src : Nat) (vals : List Int), vals ≠ [] →
    (src = 0 ∨ s.flow.mode = .rest ∨ powered s (sourceDomain src) = false → sample src vals s = s) ∧
    (src ≠ 0 → s.flow.mode ≠ .rest → powered s (sourceDomain src) = true →
      let t := sample src vals s
      let names := fun (p : Nat) => fget s (Reg.MON_PROBE_SRC_SOURCE p) = src
      let outside := fun (p : Nat) => fint s (Reg.MON_PROBE_LO_LIMIT_LO p) ≠ fint s (Reg.MON_PROBE_HI_LIMIT_HI p) ∧
        ∃ v ∈ vals, v < fint s (Reg.MON_PROBE_LO_LIMIT_LO p) ∨ fint s (Reg.MON_PROBE_HI_LIMIT_HI p) < v
      (∀ p, p < 16 → names p →
        let old := captureOf s p
        let new := captureOf t p
        let bin := (max (0 : Int) (min 31 (Int.fdiv (new.last - fint s (Reg.MON_PROBE_LO_LIMIT_LO p)) (max 1 (fget s (Reg.MON_PROBE_WIDTH_BIN_WIDTH p)))))).toNat
        (∀ v ∈ vals, new.min ≤ v ∧ v ≤ new.max ∧ v ≤ new.last) ∧ new.min ≤ old.min ∧ old.max ≤ new.max ∧
        (new.min = old.min ∨ new.min ∈ vals) ∧ (new.max = old.max ∨ new.max ∈ vals) ∧ new.last ∈ vals ∧
        new.samples = min (2 ^ 32 - 1) (old.samples + 1) ∧
        ∀ i, assocD 0 new.bins i = if i = bin then min (2 ^ 32 - 1) (assocD 0 old.bins i + 1) else assocD 0 old.bins i) ∧
      (∀ p, ¬ names p → captureOf t p = captureOf s p) ∧
      ((∃ p, p < 16 ∧ names p ∧ outside p) → t.ev = (raise Ev.MON_LIMIT s).ev) ∧
      ((∀ p, p < 16 → names p → ¬ outside p) → t.ev = s.ev) ∧ t = { s with mon := t.mon, ev := t.ev })

/-- Each Roll Call, accepted or sent, refreshes its sender's record in the cohort section with its digest, its epoch and bits 9 to 0 of its
state, which the cohort section of the status page then shows; a missed one raises ROLL_CALL_MISS and keeps the record (R411). -/
def Obligations.RollCallsAreRecorded : Prop :=
  ∀ (s : State),
    (∀ p f, Acceptable s f → f.kind = Kind.rollCall → Yields (.rollCallReceived p f) s fun t =>
      (memberRows t)[f.src]? = some ⟨fword f 0 8, f.epoch, fword f 8 4 % 1024⟩ ∧ t.page.cohSeq = (s.page.cohSeq + 2) % 2 ^ 32 ∧
      t.page.rows = memberRows t ∧ ∀ i, i ≠ f.src → (memberRows t)[i]? = (memberRows s)[i]?) ∧
    (proctorRuns s = true → resting s = false → s.flow.mode ∈ [Mode.ready, Mode.write, Mode.hold] → Yields .rollCallSend s fun t =>
      ∃ st, (memberRows t)[cohOwn s]? = some ⟨ownDigest s % 2 ^ 64, (rget s Reg.COH_EPOCH).toNat, st % 1024⟩ ∧
        (∀ p, portSends s p = true → ∃ f, (p, f) ∈ t.coh.sent ∧ f.kind = Kind.rollCall ∧ f.alive = s.coh.alive ∧ slice f.payload 8 4 = leBytes 4 st) ∧
        t.page.cohSeq = (s.page.cohSeq + 2) % 2 ^ 32 ∧ t.page.rows = memberRows t ∧
        ∀ i, i ≠ cohOwn s → (memberRows t)[i]? = (memberRows s)[i]?) ∧
    ∀ i : Fin 32, coreRuns s = true → kept s i.val = true → i.val ≠ cohOwn s → Yields (.rollCallMiss i) s fun t =>
      t.ev = (raise Ev.ROLL_CALL_MISS s).ev ∧ t.page = s.page
end

