-- ==== Sys2Proof/Laws/Sparse.lean ====
section
/-!
SUPPORT. Laws of sparse maps: a read after a write, and the canonical form under every operation.
-/

namespace Sys2Proof.Sparse

set_option Elab.async false

variable {α : Type} [DecidableEq α]

omit [DecidableEq α] in
/-- What an entry at the front of a list reads as. -/
theorem get_cons (d : Nat → α) (i : Nat) (w : α) (m : List (Nat × α)) (j : Nat) :
    get d ((i, w) :: m) j = if j = i then w else if j < i then d j else get d m j := rfl

/-- Reading below a bound that a list was cut at. -/
theorem get_dropWhile (d : Nat → α) (m : List (Nat × α)) (k j : Nat) :
    get d (m.dropWhile fun e => decide (e.1 ≤ k)) j = if j ≤ k then d j else get d m j := by
  induction m with
  | nil => simp [get]
  | cons e m ih =>
    obtain ⟨i, w⟩ := e
    by_cases h : i ≤ k
    · simp only [List.dropWhile_cons, h, decide_true, if_true, ih, get_cons]
      split_ifs <;> first | rfl | omega
    · simp only [List.dropWhile_cons, h, decide_false, Bool.false_eq_true, if_false, get_cons]
      split_ifs <;> first | rfl | omega

/-- A read after a write, at any key and of any list. -/
theorem get_set (d : Nat → α) (m : List (Nat × α)) (k : Nat) (v : α) (j : Nat) :
    get d (set d m k v) j = if j = k then v else get d m j := by
  induction m with
  | nil =>
    by_cases h : v = d k
    · simp only [set, h, if_true, get]
      split_ifs with h2
      · rw [h2]
      · rfl
    · simp only [set, h, if_false, get_cons, get, ite_self]
  | cons e m ih =>
    obtain ⟨i, w⟩ := e
    rcases Nat.lt_trichotomy k i with h | h | h
    · by_cases hv : v = d k
      · simp only [set, hv, if_neg (Nat.ne_of_lt h), if_pos h, if_true, get_cons]
        split_ifs <;> first | rfl | omega | (subst_vars; rfl)
      · simp only [set, hv, if_neg (Nat.ne_of_lt h), if_pos h, if_false, get_cons]
        split_ifs <;> first | rfl | omega
    · subst h
      by_cases hv : v = d k
      · simp only [set, hv, if_true, get_dropWhile, get_cons]
        split_ifs <;> first | rfl | omega | (subst_vars; rfl)
      · simp only [set, hv, if_true, if_false, get_cons]
        split_ifs <;> first | rfl | omega
    · simp only [set, if_neg (Nat.ne_of_gt h), if_neg (Nat.lt_asymm h), get_cons, ih]
      split_ifs <;> first | rfl | omega

@[simp] theorem get_set_same (d : Nat → α) (m : List (Nat × α)) (k : Nat) (v : α) : get d (set d m k v) k = v := by
  rw [get_set, if_pos rfl]

theorem get_set_other (d : Nat → α) (m : List (Nat × α)) (k : Nat) (v : α) (j : Nat) (h : j ≠ k) :
    get d (set d m k v) j = get d m j := by
  rw [get_set, if_neg h]

/-! ## The canonical form -/

omit [DecidableEq α] in
theorem above_trans {i k : Nat} {m : List (Nat × α)} (h : i ≤ k) (ha : above k m = true) : above i m = true := by
  cases m with
  | nil => rfl
  | cons e m => simp only [above, decide_eq_true_eq] at *; omega

omit [DecidableEq α] in
theorem dropWhile_above {k : Nat} {m : List (Nat × α)} (h : above k m = true) :
    m.dropWhile (fun e => decide (e.1 ≤ k)) = m := by
  cases m with
  | nil => rfl
  | cons e m =>
    simp only [above, decide_eq_true_eq] at h
    have : ¬ e.1 ≤ k := by omega
    simp [this]

theorem above_set (d : Nat → α) {i : Nat} {m : List (Nat × α)} (hm : above i m = true) {k : Nat} (hk : i < k) (v : α)
    (hw : wf d m = true) : above i (set d m k v) = true := by
  cases m with
  | nil => simp only [set]; split <;> simp [above, hk]
  | cons e m =>
    obtain ⟨j, w⟩ := e
    simp only [above, decide_eq_true_eq] at hm
    simp only [wf, Bool.and_eq_true, decide_eq_true_eq] at hw
    simp only [set]
    split
    · split
      · rw [dropWhile_above (by subst_vars; exact hw.1.2)]
        exact above_trans (by omega) hw.1.2
      · simp [above, hk]
    · split
      · split <;> simp [above, hk, hm]
      · simp [above, hm]

/-- A write keeps the canonical form. -/
theorem wf_set (d : Nat → α) {m : List (Nat × α)} (hw : wf d m = true) (k : Nat) (v : α) : wf d (set d m k v) = true := by
  induction m with
  | nil => simp only [set]; split <;> simp_all [wf, above]
  | cons e m ih =>
    obtain ⟨j, w⟩ := e
    have hw' := hw
    simp only [wf, Bool.and_eq_true, decide_eq_true_eq] at hw
    simp only [set]
    split
    · subst_vars
      split
      · rw [dropWhile_above hw.1.2]; exact hw.2
      · simp_all [wf]
    · split
      · split
        · exact hw'
        · simp only [wf, above, Bool.and_eq_true, decide_eq_true_eq]
          exact ⟨⟨‹_›, ‹_›⟩, hw⟩
      · simp only [wf, Bool.and_eq_true, decide_eq_true_eq]
        exact ⟨⟨hw.1.1, above_set d hw.1.2 (by omega) v hw.2⟩, ih hw.2⟩

/-- A run of writes keeps the canonical form. -/
theorem wf_setRun (d : Nat → α) (vs : List α) {m : List (Nat × α)} (hw : wf d m = true) (k : Nat) :
    wf d (setRun d m k vs) = true := by
  induction vs generalizing m k with
  | nil => exact hw
  | cons v vs ih => exact ih (wf_set d hw k v) (k + 1)

theorem above_filter {i : Nat} (p : Nat × α → Bool) (d : Nat → α) {m : List (Nat × α)} (ha : above i m = true)
    (hw : wf d m = true) : above i (m.filter p) = true := by
  induction m with
  | nil => rfl
  | cons e m ih =>
    obtain ⟨j, w⟩ := e
    simp only [above, decide_eq_true_eq] at ha
    simp only [wf, Bool.and_eq_true, decide_eq_true_eq] at hw
    simp only [List.filter_cons]
    split
    · simp [above, ha]
    · exact ih (above_trans (by omega) hw.1.2) hw.2

/-- Dropping entries keeps the canonical form. -/
theorem wf_filter (p : Nat × α → Bool) (d : Nat → α) {m : List (Nat × α)} (hw : wf d m = true) : wf d (m.filter p) = true := by
  induction m with
  | nil => rfl
  | cons e m ih =>
    obtain ⟨j, w⟩ := e
    simp only [wf, Bool.and_eq_true, decide_eq_true_eq] at hw
    simp only [List.filter_cons]
    split
    · simp only [wf, Bool.and_eq_true, decide_eq_true_eq]
      exact ⟨⟨hw.1.1, above_filter p d hw.1.2 hw.2⟩, ih hw.2⟩
    · exact ih hw.2

/-- Clearing a range keeps the canonical form. -/
theorem wf_clear (d : Nat → α) {m : List (Nat × α)} (hw : wf d m = true) (lo hi : Nat) : wf d (clear m lo hi) = true :=
  wf_filter _ d hw

/-- A read after a run of writes. -/
theorem get_setRun (d : Nat → α) (vs : List α) (m : List (Nat × α)) (k j : Nat) :
    get d (setRun d m k vs) j = if h : k ≤ j ∧ j - k < vs.length then vs[j - k]'h.2 else get d m j := by
  induction vs generalizing m k with
  | nil => simp [setRun]
  | cons v vs ih =>
    simp only [setRun, ih, get_set, List.length_cons]
    by_cases h : j = k
    · subst h; simp
    · by_cases h2 : k + 1 ≤ j ∧ j - (k + 1) < vs.length
      · rw [dif_pos h2, dif_pos ⟨by omega, by omega⟩]
        have : j - k = (j - (k + 1)) + 1 := by omega
        simp [this]
      · rw [dif_neg h2, if_neg h, dif_neg (by omega)]

/-- A read after a range was cleared, in a canonical map. -/
theorem get_clear (d : Nat → α) {m : List (Nat × α)} (hw : wf d m = true) (lo hi j : Nat) :
    get d (clear m lo hi) j = if lo ≤ j ∧ j < hi then d j else get d m j := by
  induction m with
  | nil => simp [clear, get]
  | cons e m ih =>
    obtain ⟨i, w⟩ := e
    have hw' := hw
    simp only [wf, Bool.and_eq_true, decide_eq_true_eq] at hw
    have ih := ih hw.2
    have low : ∀ j, j ≤ i → get d m j = d j := by
      intro j hj
      cases m with
      | nil => rfl
      | cons e2 m2 =>
        have := hw.1.2
        simp only [above, decide_eq_true_eq] at this
        simp only [get]
        rw [if_neg (by omega), if_pos (by omega)]
    simp only [clear] at ih ⊢
    by_cases h : i < lo ∨ hi ≤ i
    · simp only [List.filter_cons, h, decide_true, if_true, get_cons, ih]
      split_ifs <;> first | rfl | omega
    · simp only [List.filter_cons, h, decide_false, get_cons, Bool.false_eq_true, if_false, ih]
      split_ifs <;> first | rfl | omega | exact low j (by omega)

end Sys2Proof.Sparse
end

