-- ==== Sys2Proof/Laws/Regs.lean ====
section
/-!
SUPPORT. Laws of registers and their fields: a read after a write, of the same field, of another field of the register,
and of another register.
-/

namespace Sys2Proof.Machine

set_option Elab.async false

/-- A field lies within its register. -/
def Field.ok (f : Field) : Bool := decide (f.lo ≤ f.hi ∧ f.hi < 32)

theorem testBit_bits (v hi lo i : Nat) : (bits v hi lo).testBit i = (decide (i < hi - lo + 1) && v.testBit (i + lo)) := by
  simp only [bits, Nat.testBit_mod_two_pow, Nat.testBit_div_two_pow]

/-- A word with a field replaced, bit by bit. -/
theorem Field.testBit_put (f : Field) (hf : f.ok = true) (w : Word) (v i : Nat) :
    (f.put w v).toNat.testBit i =
      if f.lo ≤ i ∧ i ≤ f.hi then v.testBit (i - f.lo) else w.toNat.testBit i := by
  simp only [Field.ok, decide_eq_true_eq] at hf
  obtain ⟨h1, h2⟩ := hf
  obtain ⟨n, hn⟩ : ∃ n, n = f.hi - f.lo + 1 := ⟨_, rfl⟩
  obtain ⟨q, hq⟩ : ∃ q, q = w.toNat / 2 ^ f.lo := ⟨_, rfl⟩
  have hw : w.toNat = 2 ^ f.lo * q + w.toNat % 2 ^ f.lo := by rw [hq]; exact (Nat.div_add_mod _ _).symm
  have hq2 : q = 2 ^ n * (q / 2 ^ n) + q % 2 ^ n := (Nat.div_add_mod _ _).symm
  have hl : w.toNat % 2 ^ f.lo < 2 ^ f.lo := Nat.mod_lt _ (Nat.two_pow_pos _)
  have hv : v % 2 ^ n < 2 ^ n := Nat.mod_lt _ (Nat.two_pow_pos _)
  have hm : q % 2 ^ n < 2 ^ n := Nat.mod_lt _ (Nat.two_pow_pos _)
  have key : w.toNat - bits w.toNat f.hi f.lo * 2 ^ f.lo + v % 2 ^ (f.hi - f.lo + 1) * 2 ^ f.lo =
      2 ^ f.lo * (2 ^ n * (q / 2 ^ n) + v % 2 ^ n) + w.toNat % 2 ^ f.lo := by
    have e1 : bits w.toNat f.hi f.lo = q % 2 ^ n := by simp only [bits, hq, hn]
    rw [e1, ← hn]
    have e2 : w.toNat = 2 ^ f.lo * (2 ^ n * (q / 2 ^ n)) + 2 ^ f.lo * (q % 2 ^ n) + w.toNat % 2 ^ f.lo := by
      conv_lhs => rw [hw, hq2]
      ring_nf
    have e3 : w.toNat - q % 2 ^ n * 2 ^ f.lo = 2 ^ f.lo * (2 ^ n * (q / 2 ^ n)) + w.toNat % 2 ^ f.lo := by
      rw [Nat.mul_comm (q % 2 ^ n)]; omega
    rw [e3]; ring
  have bound : 2 ^ f.lo * (2 ^ n * (q / 2 ^ n) + v % 2 ^ n) + w.toNat % 2 ^ f.lo < 2 ^ 32 := by
    have hw32 := w.isLt
    have hsplit : 2 ^ 32 = 2 ^ f.lo * (2 ^ n * 2 ^ (31 - f.hi)) := by
      rw [← Nat.pow_add, ← Nat.pow_add]; congr 1; omega
    have hq3 : q / 2 ^ n < 2 ^ (31 - f.hi) := by
      rw [hq, Nat.div_div_eq_div_mul, ← Nat.pow_add]
      apply Nat.div_lt_of_lt_mul
      rw [← Nat.pow_add]
      have : f.lo + n + (31 - f.hi) = 32 := by omega
      rw [this]; exact hw32
    have hq4 : q / 2 ^ n + 1 ≤ 2 ^ (31 - f.hi) := hq3
    have s1 : 2 ^ n * (q / 2 ^ n) + v % 2 ^ n + 1 ≤ 2 ^ n * 2 ^ (31 - f.hi) :=
      calc 2 ^ n * (q / 2 ^ n) + v % 2 ^ n + 1 ≤ 2 ^ n * (q / 2 ^ n) + 2 ^ n := by omega
        _ = 2 ^ n * (q / 2 ^ n + 1) := by ring
        _ ≤ 2 ^ n * 2 ^ (31 - f.hi) := Nat.mul_le_mul_left _ hq4
    rw [hsplit]
    calc 2 ^ f.lo * (2 ^ n * (q / 2 ^ n) + v % 2 ^ n) + w.toNat % 2 ^ f.lo
        < 2 ^ f.lo * (2 ^ n * (q / 2 ^ n) + v % 2 ^ n) + 2 ^ f.lo := by omega
      _ = 2 ^ f.lo * (2 ^ n * (q / 2 ^ n) + v % 2 ^ n + 1) := by ring
      _ ≤ 2 ^ f.lo * (2 ^ n * 2 ^ (31 - f.hi)) := Nat.mul_le_mul_left _ s1
  have hput : (f.put w v).toNat = 2 ^ f.lo * (2 ^ n * (q / 2 ^ n) + v % 2 ^ n) + w.toNat % 2 ^ f.lo := by
    simp only [Field.put, BitVec.toNat_ofNat]
    rw [key, Nat.mod_eq_of_lt bound]
  have hwbit : w.toNat.testBit i =
      if i < f.lo then (w.toNat % 2 ^ f.lo).testBit i
      else if i - f.lo < n then (q % 2 ^ n).testBit (i - f.lo) else (q / 2 ^ n).testBit (i - f.lo - n) := by
    rw [← Nat.testBit_two_pow_mul_add _ hm, ← Nat.testBit_two_pow_mul_add _ hl, ← hq2, ← hw]
  rw [hput, Nat.testBit_two_pow_mul_add _ hl, Nat.testBit_two_pow_mul_add _ hv, hwbit]
  by_cases hi : i < f.lo
  · rw [if_pos hi, if_neg (by omega), if_pos hi]
  · rw [if_neg hi]
    by_cases hj : i ≤ f.hi
    · rw [if_pos (by omega), if_pos ⟨by omega, hj⟩, Nat.testBit_mod_two_pow]
      simp only [show i - f.lo < n by omega, decide_true, Bool.true_and]
    · rw [if_neg (by omega), if_neg (by omega), if_neg hi, if_neg (by omega)]

/-! ## Registers -/

theorem rget_rset (s : State) (k j : Nat) (v : Word) : rget (rset k v s) j = if j = k then v else rget s j :=
  Sparse.get_set _ _ _ _ _

@[simp] theorem rget_rset_same (s : State) (k : Nat) (v : Word) : rget (rset k v s) k = v := by
  rw [rget_rset, if_pos rfl]

theorem rget_rset_other (s : State) (k j : Nat) (v : Word) (h : j ≠ k) : rget (rset k v s) j = rget s j := by
  rw [rget_rset, if_neg h]

/-- A write of a field leaves every other register. -/
theorem rget_fput (s : State) (f : Field) (v j : Nat) :
    rget (fput f v s) j = if j = f.reg then f.put (rget s f.reg) v else rget s j := rget_rset _ _ _ _

/-- A field reads what was put in it, modulo its width. -/
theorem fget_fput_same (s : State) (f : Field) (hf : f.ok = true) (v : Nat) :
    fget (fput f v s) f = v % 2 ^ (f.hi - f.lo + 1) := by
  have hf' := hf
  simp only [Field.ok, decide_eq_true_eq] at hf'
  simp only [fget, rget_fput, if_true]
  apply Nat.eq_of_testBit_eq
  intro i
  rw [testBit_bits, Field.testBit_put f hf, Nat.testBit_mod_two_pow]
  by_cases h : i < f.hi - f.lo + 1
  · rw [if_pos (by omega)]; simp [h]
  · simp [h]

/-- A field of another register is left. -/
theorem fget_fput_other (s : State) (f g : Field) (v : Nat) (h : g.reg ≠ f.reg) : fget (fput f v s) g = fget s g := by
  simp only [fget, rget_fput, if_neg h]

/-- A field beside the one written is left. -/
theorem fget_fput_beside (s : State) (f g : Field) (hf : f.ok = true) (v : Nat) (h : g.hi < f.lo ∨ f.hi < g.lo)
    (hg : g.lo ≤ g.hi) : fget (fput f v s) g = fget s g := by
  by_cases hr : g.reg = f.reg
  · simp only [fget, rget_fput, if_pos hr]
    apply Nat.eq_of_testBit_eq
    intro i
    rw [testBit_bits, testBit_bits, Field.testBit_put f hf, hr]
    by_cases hi : i < g.hi - g.lo + 1
    · rw [if_neg (by omega)]
    · simp [hi]
  · exact fget_fput_other s f g v hr

/-- A field of a register that is written whole. -/
theorem fget_rset (s : State) (f : Field) (k : Nat) (v : Word) :
    fget (rset k v s) f = if f.reg = k then bits v.toNat f.hi f.lo else fget s f := by
  simp only [fget, rget_rset]; split <;> rfl

theorem fbit_fput_same (s : State) (f : Field) (hf : f.ok = true) (hw : f.hi = f.lo) (b : Bool) :
    fbit (fput f (if b then 1 else 0) s) f = b := by
  simp only [fbit, fget_fput_same s f hf, hw]; cases b <;> simp

/-! ## Memory -/

/-- A byte of DRAM after a write of bytes: the byte written there, or the one that stood there. -/
theorem dramByte_dramWrite (s : State) (a : Nat) (bs : List Byte) (j : Nat) :
    dramByte (dramWrite a bs s) j = if h : a ≤ j ∧ j - a < bs.length then bs[j - a]'h.2 else dramByte s j :=
  Sparse.get_setRun _ _ _ _ _

theorem dram_wf_write (s : State) (a : Nat) (bs : List Byte) (h : Sparse.wf dramPor s.dram = true) :
    Sparse.wf dramPor (dramWrite a bs s).dram = true := Sparse.wf_setRun _ _ h _

theorem dram_wf_clear (s : State) (lo hi : Nat) (h : Sparse.wf dramPor s.dram = true) :
    Sparse.wf dramPor (dramClear lo hi s).dram = true := Sparse.wf_clear _ h _ _

theorem regs_wf_rset (s : State) (k : Nat) (v : Word) (h : Sparse.wf regPor s.regs = true) :
    Sparse.wf regPor (rset k v s).regs = true := Sparse.wf_set _ h _ _

/-! ## Lists of like things -/

theorem getD_updAt {β : Type} (d : β) (l : List β) (i j : Nat) (f : β → β) :
    (updAt d l i f).getD j d = if j = i then f (l.getD j d) else l.getD j d := by
  have hpad : ∀ j, (l ++ List.replicate (i + 1 - l.length) d).getD j d = l.getD j d := by
    intro j
    simp only [List.getD_eq_getElem?_getD, List.getElem?_append]
    by_cases h : j < l.length
    · simp [h]
    · simp only [h, if_false, List.getElem?_replicate]
      split <;> simp [List.getElem?_eq_none (Nat.not_lt.mp h)]
  by_cases h : j = i
  · subst h
    rw [if_pos rfl, ← hpad j]
    have hlen : j < (l ++ List.replicate (j + 1 - l.length) d).length := by simp; omega
    simp only [updAt, List.getD_eq_getElem?_getD, List.getElem?_modify, if_true, List.getElem?_eq_getElem hlen]
    rfl
  · rw [if_neg h, ← hpad j]
    simp only [updAt, List.getD_eq_getElem?_getD, List.getElem?_modify, if_neg (Ne.symm h)]
    simp

end Sys2Proof.Machine
end

