-- ==== Sys2Proof/Laws/State.lean ====
section
/-!
SUPPORT. What each named operation leaves of the state: one lemma per operation, a conjunction over the fields, for the
simplifier.
-/

namespace Sys2Proof.Machine

set_option Elab.async false

@[simp] theorem rset_frame (s : State) (k : Nat) (v : Word) :
    (rset k v s).pending = s.pending ∧ (rset k v s).dram = s.dram ∧ (rset k v s).flow = s.flow ∧
    (rset k v s).ev = s.ev ∧ (rset k v s).page = s.page ∧ (rset k v s).mail = s.mail ∧
    (rset k v s).dma = s.dma ∧ (rset k v s).chk = s.chk ∧ (rset k v s).job = s.job ∧
    (rset k v s).prog = s.prog ∧ (rset k v s).ingest = s.ingest ∧ (rset k v s).cache = s.cache ∧
    (rset k v s).ras = s.ras ∧ (rset k v s).win = s.win ∧ (rset k v s).beams = s.beams ∧
    (rset k v s).pos = s.pos ∧ (rset k v s).armed = s.armed ∧ (rset k v s).shots = s.shots ∧
    (rset k v s).out = s.out ∧ (rset k v s).health = s.health ∧ (rset k v s).abs = s.abs ∧
    (rset k v s).mot = s.mot ∧ (rset k v s).hbm = s.hbm ∧ (rset k v s).ecc = s.ecc ∧
    (rset k v s).coh = s.coh ∧ (rset k v s).tim = s.tim ∧ (rset k v s).sec = s.sec ∧
    (rset k v s).pwr = s.pwr ∧ (rset k v s).mon = s.mon ∧ (rset k v s).clk = s.clk ∧
    (rset k v s).free = s.free ∧ (rset k v s).host = s.host :=
  ⟨rfl, rfl, rfl, rfl, rfl, rfl, rfl, rfl, rfl, rfl, rfl, rfl, rfl, rfl, rfl, rfl, rfl, rfl, rfl, rfl, rfl, rfl, rfl, rfl, rfl, rfl, rfl, rfl, rfl, rfl, rfl, rfl⟩

@[simp] theorem fput_frame (s : State) (f : Field) (v : Nat) :
    (fput f v s).pending = s.pending ∧ (fput f v s).dram = s.dram ∧ (fput f v s).flow = s.flow ∧
    (fput f v s).ev = s.ev ∧ (fput f v s).page = s.page ∧ (fput f v s).mail = s.mail ∧
    (fput f v s).dma = s.dma ∧ (fput f v s).chk = s.chk ∧ (fput f v s).job = s.job ∧
    (fput f v s).prog = s.prog ∧ (fput f v s).ingest = s.ingest ∧ (fput f v s).cache = s.cache ∧
    (fput f v s).ras = s.ras ∧ (fput f v s).win = s.win ∧ (fput f v s).beams = s.beams ∧
    (fput f v s).pos = s.pos ∧ (fput f v s).armed = s.armed ∧ (fput f v s).shots = s.shots ∧
    (fput f v s).out = s.out ∧ (fput f v s).health = s.health ∧ (fput f v s).abs = s.abs ∧
    (fput f v s).mot = s.mot ∧ (fput f v s).hbm = s.hbm ∧ (fput f v s).ecc = s.ecc ∧
    (fput f v s).coh = s.coh ∧ (fput f v s).tim = s.tim ∧ (fput f v s).sec = s.sec ∧
    (fput f v s).pwr = s.pwr ∧ (fput f v s).mon = s.mon ∧ (fput f v s).clk = s.clk ∧
    (fput f v s).free = s.free ∧ (fput f v s).host = s.host :=
  ⟨rfl, rfl, rfl, rfl, rfl, rfl, rfl, rfl, rfl, rfl, rfl, rfl, rfl, rfl, rfl, rfl, rfl, rfl, rfl, rfl, rfl, rfl, rfl, rfl, rfl, rfl, rfl, rfl, rfl, rfl, rfl, rfl⟩

@[simp] theorem fputInt_frame (s : State) (f : Field) (v : Int) :
    (fputInt f v s).pending = s.pending ∧ (fputInt f v s).dram = s.dram ∧ (fputInt f v s).flow = s.flow ∧
    (fputInt f v s).ev = s.ev ∧ (fputInt f v s).page = s.page ∧ (fputInt f v s).mail = s.mail ∧
    (fputInt f v s).dma = s.dma ∧ (fputInt f v s).chk = s.chk ∧ (fputInt f v s).job = s.job ∧
    (fputInt f v s).prog = s.prog ∧ (fputInt f v s).ingest = s.ingest ∧ (fputInt f v s).cache = s.cache ∧
    (fputInt f v s).ras = s.ras ∧ (fputInt f v s).win = s.win ∧ (fputInt f v s).beams = s.beams ∧
    (fputInt f v s).pos = s.pos ∧ (fputInt f v s).armed = s.armed ∧ (fputInt f v s).shots = s.shots ∧
    (fputInt f v s).out = s.out ∧ (fputInt f v s).health = s.health ∧ (fputInt f v s).abs = s.abs ∧
    (fputInt f v s).mot = s.mot ∧ (fputInt f v s).hbm = s.hbm ∧ (fputInt f v s).ecc = s.ecc ∧
    (fputInt f v s).coh = s.coh ∧ (fputInt f v s).tim = s.tim ∧ (fputInt f v s).sec = s.sec ∧
    (fputInt f v s).pwr = s.pwr ∧ (fputInt f v s).mon = s.mon ∧ (fputInt f v s).clk = s.clk ∧
    (fputInt f v s).free = s.free ∧ (fputInt f v s).host = s.host :=
  ⟨rfl, rfl, rfl, rfl, rfl, rfl, rfl, rfl, rfl, rfl, rfl, rfl, rfl, rfl, rfl, rfl, rfl, rfl, rfl, rfl, rfl, rfl, rfl, rfl, rfl, rfl, rfl, rfl, rfl, rfl, rfl, rfl⟩

@[simp] theorem fputSat_frame (s : State) (f : Field) (v : Nat) :
    (fputSat f v s).pending = s.pending ∧ (fputSat f v s).dram = s.dram ∧ (fputSat f v s).flow = s.flow ∧
    (fputSat f v s).ev = s.ev ∧ (fputSat f v s).page = s.page ∧ (fputSat f v s).mail = s.mail ∧
    (fputSat f v s).dma = s.dma ∧ (fputSat f v s).chk = s.chk ∧ (fputSat f v s).job = s.job ∧
    (fputSat f v s).prog = s.prog ∧ (fputSat f v s).ingest = s.ingest ∧ (fputSat f v s).cache = s.cache ∧
    (fputSat f v s).ras = s.ras ∧ (fputSat f v s).win = s.win ∧ (fputSat f v s).beams = s.beams ∧
    (fputSat f v s).pos = s.pos ∧ (fputSat f v s).armed = s.armed ∧ (fputSat f v s).shots = s.shots ∧
    (fputSat f v s).out = s.out ∧ (fputSat f v s).health = s.health ∧ (fputSat f v s).abs = s.abs ∧
    (fputSat f v s).mot = s.mot ∧ (fputSat f v s).hbm = s.hbm ∧ (fputSat f v s).ecc = s.ecc ∧
    (fputSat f v s).coh = s.coh ∧ (fputSat f v s).tim = s.tim ∧ (fputSat f v s).sec = s.sec ∧
    (fputSat f v s).pwr = s.pwr ∧ (fputSat f v s).mon = s.mon ∧ (fputSat f v s).clk = s.clk ∧
    (fputSat f v s).free = s.free ∧ (fputSat f v s).host = s.host :=
  ⟨rfl, rfl, rfl, rfl, rfl, rfl, rfl, rfl, rfl, rfl, rfl, rfl, rfl, rfl, rfl, rfl, rfl, rfl, rfl, rfl, rfl, rfl, rfl, rfl, rfl, rfl, rfl, rfl, rfl, rfl, rfl, rfl⟩

@[simp] theorem fcount_frame (s : State) (f : Field) (k : Nat) :
    (fcount f k s).pending = s.pending ∧ (fcount f k s).dram = s.dram ∧ (fcount f k s).flow = s.flow ∧
    (fcount f k s).ev = s.ev ∧ (fcount f k s).page = s.page ∧ (fcount f k s).mail = s.mail ∧
    (fcount f k s).dma = s.dma ∧ (fcount f k s).chk = s.chk ∧ (fcount f k s).job = s.job ∧
    (fcount f k s).prog = s.prog ∧ (fcount f k s).ingest = s.ingest ∧ (fcount f k s).cache = s.cache ∧
    (fcount f k s).ras = s.ras ∧ (fcount f k s).win = s.win ∧ (fcount f k s).beams = s.beams ∧
    (fcount f k s).pos = s.pos ∧ (fcount f k s).armed = s.armed ∧ (fcount f k s).shots = s.shots ∧
    (fcount f k s).out = s.out ∧ (fcount f k s).health = s.health ∧ (fcount f k s).abs = s.abs ∧
    (fcount f k s).mot = s.mot ∧ (fcount f k s).hbm = s.hbm ∧ (fcount f k s).ecc = s.ecc ∧
    (fcount f k s).coh = s.coh ∧ (fcount f k s).tim = s.tim ∧ (fcount f k s).sec = s.sec ∧
    (fcount f k s).pwr = s.pwr ∧ (fcount f k s).mon = s.mon ∧ (fcount f k s).clk = s.clk ∧
    (fcount f k s).free = s.free ∧ (fcount f k s).host = s.host :=
  ⟨rfl, rfl, rfl, rfl, rfl, rfl, rfl, rfl, rfl, rfl, rfl, rfl, rfl, rfl, rfl, rfl, rfl, rfl, rfl, rfl, rfl, rfl, rfl, rfl, rfl, rfl, rfl, rfl, rfl, rfl, rfl, rfl⟩

@[simp] theorem fmax_frame (s : State) (f : Field) (v : Nat) :
    (fmax f v s).pending = s.pending ∧ (fmax f v s).dram = s.dram ∧ (fmax f v s).flow = s.flow ∧
    (fmax f v s).ev = s.ev ∧ (fmax f v s).page = s.page ∧ (fmax f v s).mail = s.mail ∧
    (fmax f v s).dma = s.dma ∧ (fmax f v s).chk = s.chk ∧ (fmax f v s).job = s.job ∧
    (fmax f v s).prog = s.prog ∧ (fmax f v s).ingest = s.ingest ∧ (fmax f v s).cache = s.cache ∧
    (fmax f v s).ras = s.ras ∧ (fmax f v s).win = s.win ∧ (fmax f v s).beams = s.beams ∧
    (fmax f v s).pos = s.pos ∧ (fmax f v s).armed = s.armed ∧ (fmax f v s).shots = s.shots ∧
    (fmax f v s).out = s.out ∧ (fmax f v s).health = s.health ∧ (fmax f v s).abs = s.abs ∧
    (fmax f v s).mot = s.mot ∧ (fmax f v s).hbm = s.hbm ∧ (fmax f v s).ecc = s.ecc ∧
    (fmax f v s).coh = s.coh ∧ (fmax f v s).tim = s.tim ∧ (fmax f v s).sec = s.sec ∧
    (fmax f v s).pwr = s.pwr ∧ (fmax f v s).mon = s.mon ∧ (fmax f v s).clk = s.clk ∧
    (fmax f v s).free = s.free ∧ (fmax f v s).host = s.host :=
  ⟨rfl, rfl, rfl, rfl, rfl, rfl, rfl, rfl, rfl, rfl, rfl, rfl, rfl, rfl, rfl, rfl, rfl, rfl, rfl, rfl, rfl, rfl, rfl, rfl, rfl, rfl, rfl, rfl, rfl, rfl, rfl, rfl⟩

@[simp] theorem fmin_frame (s : State) (f : Field) (v : Nat) :
    (fmin f v s).pending = s.pending ∧ (fmin f v s).dram = s.dram ∧ (fmin f v s).flow = s.flow ∧
    (fmin f v s).ev = s.ev ∧ (fmin f v s).page = s.page ∧ (fmin f v s).mail = s.mail ∧
    (fmin f v s).dma = s.dma ∧ (fmin f v s).chk = s.chk ∧ (fmin f v s).job = s.job ∧
    (fmin f v s).prog = s.prog ∧ (fmin f v s).ingest = s.ingest ∧ (fmin f v s).cache = s.cache ∧
    (fmin f v s).ras = s.ras ∧ (fmin f v s).win = s.win ∧ (fmin f v s).beams = s.beams ∧
    (fmin f v s).pos = s.pos ∧ (fmin f v s).armed = s.armed ∧ (fmin f v s).shots = s.shots ∧
    (fmin f v s).out = s.out ∧ (fmin f v s).health = s.health ∧ (fmin f v s).abs = s.abs ∧
    (fmin f v s).mot = s.mot ∧ (fmin f v s).hbm = s.hbm ∧ (fmin f v s).ecc = s.ecc ∧
    (fmin f v s).coh = s.coh ∧ (fmin f v s).tim = s.tim ∧ (fmin f v s).sec = s.sec ∧
    (fmin f v s).pwr = s.pwr ∧ (fmin f v s).mon = s.mon ∧ (fmin f v s).clk = s.clk ∧
    (fmin f v s).free = s.free ∧ (fmin f v s).host = s.host :=
  ⟨rfl, rfl, rfl, rfl, rfl, rfl, rfl, rfl, rfl, rfl, rfl, rfl, rfl, rfl, rfl, rfl, rfl, rfl, rfl, rfl, rfl, rfl, rfl, rfl, rfl, rfl, rfl, rfl, rfl, rfl, rfl, rfl⟩

@[simp] theorem fputBit_frame (s : State) (f : Field) (n : Nat) (b : Bool) :
    (fputBit f n b s).pending = s.pending ∧ (fputBit f n b s).dram = s.dram ∧ (fputBit f n b s).flow = s.flow ∧
    (fputBit f n b s).ev = s.ev ∧ (fputBit f n b s).page = s.page ∧ (fputBit f n b s).mail = s.mail ∧
    (fputBit f n b s).dma = s.dma ∧ (fputBit f n b s).chk = s.chk ∧ (fputBit f n b s).job = s.job ∧
    (fputBit f n b s).prog = s.prog ∧ (fputBit f n b s).ingest = s.ingest ∧ (fputBit f n b s).cache = s.cache ∧
    (fputBit f n b s).ras = s.ras ∧ (fputBit f n b s).win = s.win ∧ (fputBit f n b s).beams = s.beams ∧
    (fputBit f n b s).pos = s.pos ∧ (fputBit f n b s).armed = s.armed ∧ (fputBit f n b s).shots = s.shots ∧
    (fputBit f n b s).out = s.out ∧ (fputBit f n b s).health = s.health ∧ (fputBit f n b s).abs = s.abs ∧
    (fputBit f n b s).mot = s.mot ∧ (fputBit f n b s).hbm = s.hbm ∧ (fputBit f n b s).ecc = s.ecc ∧
    (fputBit f n b s).coh = s.coh ∧ (fputBit f n b s).tim = s.tim ∧ (fputBit f n b s).sec = s.sec ∧
    (fputBit f n b s).pwr = s.pwr ∧ (fputBit f n b s).mon = s.mon ∧ (fputBit f n b s).clk = s.clk ∧
    (fputBit f n b s).free = s.free ∧ (fputBit f n b s).host = s.host :=
  by
  unfold fputBit; (try dsimp only); (repeat' split) <;> simp

@[simp] theorem putLanesBit_frame (s : State) (lo hi i : Nat) (b : Bool) :
    (putLanesBit lo hi i b s).pending = s.pending ∧ (putLanesBit lo hi i b s).dram = s.dram ∧ (putLanesBit lo hi i b s).flow = s.flow ∧
    (putLanesBit lo hi i b s).ev = s.ev ∧ (putLanesBit lo hi i b s).page = s.page ∧ (putLanesBit lo hi i b s).mail = s.mail ∧
    (putLanesBit lo hi i b s).dma = s.dma ∧ (putLanesBit lo hi i b s).chk = s.chk ∧ (putLanesBit lo hi i b s).job = s.job ∧
    (putLanesBit lo hi i b s).prog = s.prog ∧ (putLanesBit lo hi i b s).ingest = s.ingest ∧ (putLanesBit lo hi i b s).cache = s.cache ∧
    (putLanesBit lo hi i b s).ras = s.ras ∧ (putLanesBit lo hi i b s).win = s.win ∧ (putLanesBit lo hi i b s).beams = s.beams ∧
    (putLanesBit lo hi i b s).pos = s.pos ∧ (putLanesBit lo hi i b s).armed = s.armed ∧ (putLanesBit lo hi i b s).shots = s.shots ∧
    (putLanesBit lo hi i b s).out = s.out ∧ (putLanesBit lo hi i b s).health = s.health ∧ (putLanesBit lo hi i b s).abs = s.abs ∧
    (putLanesBit lo hi i b s).mot = s.mot ∧ (putLanesBit lo hi i b s).hbm = s.hbm ∧ (putLanesBit lo hi i b s).ecc = s.ecc ∧
    (putLanesBit lo hi i b s).coh = s.coh ∧ (putLanesBit lo hi i b s).tim = s.tim ∧ (putLanesBit lo hi i b s).sec = s.sec ∧
    (putLanesBit lo hi i b s).pwr = s.pwr ∧ (putLanesBit lo hi i b s).mon = s.mon ∧ (putLanesBit lo hi i b s).clk = s.clk ∧
    (putLanesBit lo hi i b s).free = s.free ∧ (putLanesBit lo hi i b s).host = s.host :=
  ⟨rfl, rfl, rfl, rfl, rfl, rfl, rfl, rfl, rfl, rfl, rfl, rfl, rfl, rfl, rfl, rfl, rfl, rfl, rfl, rfl, rfl, rfl, rfl, rfl, rfl, rfl, rfl, rfl, rfl, rfl, rfl, rfl⟩

@[simp] theorem rset64_frame (s : State) (lo hi v : Nat) :
    (rset64 lo hi v s).pending = s.pending ∧ (rset64 lo hi v s).dram = s.dram ∧ (rset64 lo hi v s).flow = s.flow ∧
    (rset64 lo hi v s).ev = s.ev ∧ (rset64 lo hi v s).page = s.page ∧ (rset64 lo hi v s).mail = s.mail ∧
    (rset64 lo hi v s).dma = s.dma ∧ (rset64 lo hi v s).chk = s.chk ∧ (rset64 lo hi v s).job = s.job ∧
    (rset64 lo hi v s).prog = s.prog ∧ (rset64 lo hi v s).ingest = s.ingest ∧ (rset64 lo hi v s).cache = s.cache ∧
    (rset64 lo hi v s).ras = s.ras ∧ (rset64 lo hi v s).win = s.win ∧ (rset64 lo hi v s).beams = s.beams ∧
    (rset64 lo hi v s).pos = s.pos ∧ (rset64 lo hi v s).armed = s.armed ∧ (rset64 lo hi v s).shots = s.shots ∧
    (rset64 lo hi v s).out = s.out ∧ (rset64 lo hi v s).health = s.health ∧ (rset64 lo hi v s).abs = s.abs ∧
    (rset64 lo hi v s).mot = s.mot ∧ (rset64 lo hi v s).hbm = s.hbm ∧ (rset64 lo hi v s).ecc = s.ecc ∧
    (rset64 lo hi v s).coh = s.coh ∧ (rset64 lo hi v s).tim = s.tim ∧ (rset64 lo hi v s).sec = s.sec ∧
    (rset64 lo hi v s).pwr = s.pwr ∧ (rset64 lo hi v s).mon = s.mon ∧ (rset64 lo hi v s).clk = s.clk ∧
    (rset64 lo hi v s).free = s.free ∧ (rset64 lo hi v s).host = s.host :=
  ⟨rfl, rfl, rfl, rfl, rfl, rfl, rfl, rfl, rfl, rfl, rfl, rfl, rfl, rfl, rfl, rfl, rfl, rfl, rfl, rfl, rfl, rfl, rfl, rfl, rfl, rfl, rfl, rfl, rfl, rfl, rfl, rfl⟩

@[simp] theorem rpor_frame (s : State) (k : Nat) :
    (rpor k s).pending = s.pending ∧ (rpor k s).dram = s.dram ∧ (rpor k s).flow = s.flow ∧
    (rpor k s).ev = s.ev ∧ (rpor k s).page = s.page ∧ (rpor k s).mail = s.mail ∧
    (rpor k s).dma = s.dma ∧ (rpor k s).chk = s.chk ∧ (rpor k s).job = s.job ∧
    (rpor k s).prog = s.prog ∧ (rpor k s).ingest = s.ingest ∧ (rpor k s).cache = s.cache ∧
    (rpor k s).ras = s.ras ∧ (rpor k s).win = s.win ∧ (rpor k s).beams = s.beams ∧
    (rpor k s).pos = s.pos ∧ (rpor k s).armed = s.armed ∧ (rpor k s).shots = s.shots ∧
    (rpor k s).out = s.out ∧ (rpor k s).health = s.health ∧ (rpor k s).abs = s.abs ∧
    (rpor k s).mot = s.mot ∧ (rpor k s).hbm = s.hbm ∧ (rpor k s).ecc = s.ecc ∧
    (rpor k s).coh = s.coh ∧ (rpor k s).tim = s.tim ∧ (rpor k s).sec = s.sec ∧
    (rpor k s).pwr = s.pwr ∧ (rpor k s).mon = s.mon ∧ (rpor k s).clk = s.clk ∧
    (rpor k s).free = s.free ∧ (rpor k s).host = s.host :=
  ⟨rfl, rfl, rfl, rfl, rfl, rfl, rfl, rfl, rfl, rfl, rfl, rfl, rfl, rfl, rfl, rfl, rfl, rfl, rfl, rfl, rfl, rfl, rfl, rfl, rfl, rfl, rfl, rfl, rfl, rfl, rfl, rfl⟩

@[simp] theorem dramWrite_frame (s : State) (a : Nat) (bs : List Byte) :
    (dramWrite a bs s).pending = s.pending ∧ (dramWrite a bs s).regs = s.regs ∧ (dramWrite a bs s).flow = s.flow ∧
    (dramWrite a bs s).ev = s.ev ∧ (dramWrite a bs s).page = s.page ∧ (dramWrite a bs s).mail = s.mail ∧
    (dramWrite a bs s).dma = s.dma ∧ (dramWrite a bs s).chk = s.chk ∧ (dramWrite a bs s).job = s.job ∧
    (dramWrite a bs s).prog = s.prog ∧ (dramWrite a bs s).ingest = s.ingest ∧ (dramWrite a bs s).cache = s.cache ∧
    (dramWrite a bs s).ras = s.ras ∧ (dramWrite a bs s).win = s.win ∧ (dramWrite a bs s).beams = s.beams ∧
    (dramWrite a bs s).pos = s.pos ∧ (dramWrite a bs s).armed = s.armed ∧ (dramWrite a bs s).shots = s.shots ∧
    (dramWrite a bs s).out = s.out ∧ (dramWrite a bs s).health = s.health ∧ (dramWrite a bs s).abs = s.abs ∧
    (dramWrite a bs s).mot = s.mot ∧ (dramWrite a bs s).hbm = s.hbm ∧ (dramWrite a bs s).ecc = s.ecc ∧
    (dramWrite a bs s).coh = s.coh ∧ (dramWrite a bs s).tim = s.tim ∧ (dramWrite a bs s).sec = s.sec ∧
    (dramWrite a bs s).pwr = s.pwr ∧ (dramWrite a bs s).mon = s.mon ∧ (dramWrite a bs s).clk = s.clk ∧
    (dramWrite a bs s).free = s.free ∧ (dramWrite a bs s).host = s.host :=
  ⟨rfl, rfl, rfl, rfl, rfl, rfl, rfl, rfl, rfl, rfl, rfl, rfl, rfl, rfl, rfl, rfl, rfl, rfl, rfl, rfl, rfl, rfl, rfl, rfl, rfl, rfl, rfl, rfl, rfl, rfl, rfl, rfl⟩

@[simp] theorem dramClear_frame (s : State) (lo hi : Nat) :
    (dramClear lo hi s).pending = s.pending ∧ (dramClear lo hi s).regs = s.regs ∧ (dramClear lo hi s).flow = s.flow ∧
    (dramClear lo hi s).ev = s.ev ∧ (dramClear lo hi s).page = s.page ∧ (dramClear lo hi s).mail = s.mail ∧
    (dramClear lo hi s).dma = s.dma ∧ (dramClear lo hi s).chk = s.chk ∧ (dramClear lo hi s).job = s.job ∧
    (dramClear lo hi s).prog = s.prog ∧ (dramClear lo hi s).ingest = s.ingest ∧ (dramClear lo hi s).cache = s.cache ∧
    (dramClear lo hi s).ras = s.ras ∧ (dramClear lo hi s).win = s.win ∧ (dramClear lo hi s).beams = s.beams ∧
    (dramClear lo hi s).pos = s.pos ∧ (dramClear lo hi s).armed = s.armed ∧ (dramClear lo hi s).shots = s.shots ∧
    (dramClear lo hi s).out = s.out ∧ (dramClear lo hi s).health = s.health ∧ (dramClear lo hi s).abs = s.abs ∧
    (dramClear lo hi s).mot = s.mot ∧ (dramClear lo hi s).hbm = s.hbm ∧ (dramClear lo hi s).ecc = s.ecc ∧
    (dramClear lo hi s).coh = s.coh ∧ (dramClear lo hi s).tim = s.tim ∧ (dramClear lo hi s).sec = s.sec ∧
    (dramClear lo hi s).pwr = s.pwr ∧ (dramClear lo hi s).mon = s.mon ∧ (dramClear lo hi s).clk = s.clk ∧
    (dramClear lo hi s).free = s.free ∧ (dramClear lo hi s).host = s.host :=
  ⟨rfl, rfl, rfl, rfl, rfl, rfl, rfl, rfl, rfl, rfl, rfl, rfl, rfl, rfl, rfl, rfl, rfl, rfl, rfl, rfl, rfl, rfl, rfl, rfl, rfl, rfl, rfl, rfl, rfl, rfl, rfl, rfl⟩

@[simp] theorem raise_frame (s : State) (n : Nat) :
    (raise n s).pending = s.pending ∧ (raise n s).regs = s.regs ∧ (raise n s).dram = s.dram ∧
    (raise n s).flow = s.flow ∧ (raise n s).page = s.page ∧ (raise n s).mail = s.mail ∧
    (raise n s).dma = s.dma ∧ (raise n s).chk = s.chk ∧ (raise n s).job = s.job ∧
    (raise n s).prog = s.prog ∧ (raise n s).ingest = s.ingest ∧ (raise n s).cache = s.cache ∧
    (raise n s).ras = s.ras ∧ (raise n s).win = s.win ∧ (raise n s).beams = s.beams ∧
    (raise n s).pos = s.pos ∧ (raise n s).armed = s.armed ∧ (raise n s).shots = s.shots ∧
    (raise n s).out = s.out ∧ (raise n s).health = s.health ∧ (raise n s).abs = s.abs ∧
    (raise n s).mot = s.mot ∧ (raise n s).hbm = s.hbm ∧ (raise n s).ecc = s.ecc ∧
    (raise n s).coh = s.coh ∧ (raise n s).tim = s.tim ∧ (raise n s).sec = s.sec ∧
    (raise n s).pwr = s.pwr ∧ (raise n s).mon = s.mon ∧ (raise n s).clk = s.clk ∧
    (raise n s).free = s.free ∧ (raise n s).host = s.host :=
  ⟨rfl, rfl, rfl, rfl, rfl, rfl, rfl, rfl, rfl, rfl, rfl, rfl, rfl, rfl, rfl, rfl, rfl, rfl, rfl, rfl, rfl, rfl, rfl, rfl, rfl, rfl, rfl, rfl, rfl, rfl, rfl, rfl⟩

@[simp] theorem raiseIf_frame (s : State) (b : Bool) (n : Nat) :
    (raiseIf b n s).pending = s.pending ∧ (raiseIf b n s).regs = s.regs ∧ (raiseIf b n s).dram = s.dram ∧
    (raiseIf b n s).flow = s.flow ∧ (raiseIf b n s).page = s.page ∧ (raiseIf b n s).mail = s.mail ∧
    (raiseIf b n s).dma = s.dma ∧ (raiseIf b n s).chk = s.chk ∧ (raiseIf b n s).job = s.job ∧
    (raiseIf b n s).prog = s.prog ∧ (raiseIf b n s).ingest = s.ingest ∧ (raiseIf b n s).cache = s.cache ∧
    (raiseIf b n s).ras = s.ras ∧ (raiseIf b n s).win = s.win ∧ (raiseIf b n s).beams = s.beams ∧
    (raiseIf b n s).pos = s.pos ∧ (raiseIf b n s).armed = s.armed ∧ (raiseIf b n s).shots = s.shots ∧
    (raiseIf b n s).out = s.out ∧ (raiseIf b n s).health = s.health ∧ (raiseIf b n s).abs = s.abs ∧
    (raiseIf b n s).mot = s.mot ∧ (raiseIf b n s).hbm = s.hbm ∧ (raiseIf b n s).ecc = s.ecc ∧
    (raiseIf b n s).coh = s.coh ∧ (raiseIf b n s).tim = s.tim ∧ (raiseIf b n s).sec = s.sec ∧
    (raiseIf b n s).pwr = s.pwr ∧ (raiseIf b n s).mon = s.mon ∧ (raiseIf b n s).clk = s.clk ∧
    (raiseIf b n s).free = s.free ∧ (raiseIf b n s).host = s.host :=
  by
  unfold raiseIf; (try dsimp only); (repeat' split) <;> simp

@[simp] theorem setCause_frame (s : State) (n : Nat) :
    (setCause n s).pending = s.pending ∧ (setCause n s).regs = s.regs ∧ (setCause n s).dram = s.dram ∧
    (setCause n s).ev = s.ev ∧ (setCause n s).page = s.page ∧ (setCause n s).mail = s.mail ∧
    (setCause n s).dma = s.dma ∧ (setCause n s).chk = s.chk ∧ (setCause n s).job = s.job ∧
    (setCause n s).prog = s.prog ∧ (setCause n s).ingest = s.ingest ∧ (setCause n s).cache = s.cache ∧
    (setCause n s).ras = s.ras ∧ (setCause n s).win = s.win ∧ (setCause n s).beams = s.beams ∧
    (setCause n s).pos = s.pos ∧ (setCause n s).armed = s.armed ∧ (setCause n s).shots = s.shots ∧
    (setCause n s).out = s.out ∧ (setCause n s).health = s.health ∧ (setCause n s).abs = s.abs ∧
    (setCause n s).mot = s.mot ∧ (setCause n s).hbm = s.hbm ∧ (setCause n s).ecc = s.ecc ∧
    (setCause n s).coh = s.coh ∧ (setCause n s).tim = s.tim ∧ (setCause n s).sec = s.sec ∧
    (setCause n s).pwr = s.pwr ∧ (setCause n s).mon = s.mon ∧ (setCause n s).clk = s.clk ∧
    (setCause n s).free = s.free ∧ (setCause n s).host = s.host :=
  ⟨rfl, rfl, rfl, rfl, rfl, rfl, rfl, rfl, rfl, rfl, rfl, rfl, rfl, rfl, rfl, rfl, rfl, rfl, rfl, rfl, rfl, rfl, rfl, rfl, rfl, rfl, rfl, rfl, rfl, rfl, rfl, rfl⟩

@[simp] theorem clearCause_frame (s : State) (n : Nat) :
    (clearCause n s).pending = s.pending ∧ (clearCause n s).regs = s.regs ∧ (clearCause n s).dram = s.dram ∧
    (clearCause n s).ev = s.ev ∧ (clearCause n s).page = s.page ∧ (clearCause n s).mail = s.mail ∧
    (clearCause n s).dma = s.dma ∧ (clearCause n s).chk = s.chk ∧ (clearCause n s).job = s.job ∧
    (clearCause n s).prog = s.prog ∧ (clearCause n s).ingest = s.ingest ∧ (clearCause n s).cache = s.cache ∧
    (clearCause n s).ras = s.ras ∧ (clearCause n s).win = s.win ∧ (clearCause n s).beams = s.beams ∧
    (clearCause n s).pos = s.pos ∧ (clearCause n s).armed = s.armed ∧ (clearCause n s).shots = s.shots ∧
    (clearCause n s).out = s.out ∧ (clearCause n s).health = s.health ∧ (clearCause n s).abs = s.abs ∧
    (clearCause n s).mot = s.mot ∧ (clearCause n s).hbm = s.hbm ∧ (clearCause n s).ecc = s.ecc ∧
    (clearCause n s).coh = s.coh ∧ (clearCause n s).tim = s.tim ∧ (clearCause n s).sec = s.sec ∧
    (clearCause n s).pwr = s.pwr ∧ (clearCause n s).mon = s.mon ∧ (clearCause n s).clk = s.clk ∧
    (clearCause n s).free = s.free ∧ (clearCause n s).host = s.host :=
  ⟨rfl, rfl, rfl, rfl, rfl, rfl, rfl, rfl, rfl, rfl, rfl, rfl, rfl, rfl, rfl, rfl, rfl, rfl, rfl, rfl, rfl, rfl, rfl, rfl, rfl, rfl, rfl, rfl, rfl, rfl, rfl, rfl⟩

@[simp] theorem useFree_frame (s : State) :
    (useFree s).pending = s.pending ∧ (useFree s).regs = s.regs ∧ (useFree s).dram = s.dram ∧
    (useFree s).flow = s.flow ∧ (useFree s).ev = s.ev ∧ (useFree s).page = s.page ∧
    (useFree s).mail = s.mail ∧ (useFree s).dma = s.dma ∧ (useFree s).chk = s.chk ∧
    (useFree s).job = s.job ∧ (useFree s).prog = s.prog ∧ (useFree s).ingest = s.ingest ∧
    (useFree s).cache = s.cache ∧ (useFree s).ras = s.ras ∧ (useFree s).win = s.win ∧
    (useFree s).beams = s.beams ∧ (useFree s).pos = s.pos ∧ (useFree s).armed = s.armed ∧
    (useFree s).shots = s.shots ∧ (useFree s).out = s.out ∧ (useFree s).health = s.health ∧
    (useFree s).abs = s.abs ∧ (useFree s).mot = s.mot ∧ (useFree s).hbm = s.hbm ∧
    (useFree s).ecc = s.ecc ∧ (useFree s).coh = s.coh ∧ (useFree s).tim = s.tim ∧
    (useFree s).sec = s.sec ∧ (useFree s).pwr = s.pwr ∧ (useFree s).mon = s.mon ∧
    (useFree s).clk = s.clk ∧ (useFree s).host = s.host :=
  ⟨rfl, rfl, rfl, rfl, rfl, rfl, rfl, rfl, rfl, rfl, rfl, rfl, rfl, rfl, rfl, rfl, rfl, rfl, rfl, rfl, rfl, rfl, rfl, rfl, rfl, rfl, rfl, rfl, rfl, rfl, rfl, rfl⟩

@[simp] theorem crossPulse_frame (s : State) (bit : Nat) (b : Bool) :
    (crossPulse bit b s).pending = s.pending ∧ (crossPulse bit b s).dram = s.dram ∧ (crossPulse bit b s).flow = s.flow ∧
    (crossPulse bit b s).page = s.page ∧ (crossPulse bit b s).mail = s.mail ∧ (crossPulse bit b s).dma = s.dma ∧
    (crossPulse bit b s).chk = s.chk ∧ (crossPulse bit b s).job = s.job ∧ (crossPulse bit b s).prog = s.prog ∧
    (crossPulse bit b s).ingest = s.ingest ∧ (crossPulse bit b s).cache = s.cache ∧ (crossPulse bit b s).ras = s.ras ∧
    (crossPulse bit b s).win = s.win ∧ (crossPulse bit b s).beams = s.beams ∧ (crossPulse bit b s).pos = s.pos ∧
    (crossPulse bit b s).armed = s.armed ∧ (crossPulse bit b s).shots = s.shots ∧ (crossPulse bit b s).out = s.out ∧
    (crossPulse bit b s).health = s.health ∧ (crossPulse bit b s).abs = s.abs ∧ (crossPulse bit b s).mot = s.mot ∧
    (crossPulse bit b s).hbm = s.hbm ∧ (crossPulse bit b s).ecc = s.ecc ∧ (crossPulse bit b s).coh = s.coh ∧
    (crossPulse bit b s).tim = s.tim ∧ (crossPulse bit b s).sec = s.sec ∧ (crossPulse bit b s).pwr = s.pwr ∧
    (crossPulse bit b s).mon = s.mon ∧ (crossPulse bit b s).free = s.free ∧ (crossPulse bit b s).host = s.host :=
  by
  unfold crossPulse; (try dsimp only); (repeat' split) <;> simp

@[simp] theorem updSlot_frame (s : State) (n : Fin 16) (f : Slot → Slot) :
    (updSlot n f s).pending = s.pending ∧ (updSlot n f s).regs = s.regs ∧ (updSlot n f s).dram = s.dram ∧
    (updSlot n f s).flow = s.flow ∧ (updSlot n f s).ev = s.ev ∧ (updSlot n f s).page = s.page ∧
    (updSlot n f s).dma = s.dma ∧ (updSlot n f s).chk = s.chk ∧ (updSlot n f s).job = s.job ∧
    (updSlot n f s).prog = s.prog ∧ (updSlot n f s).ingest = s.ingest ∧ (updSlot n f s).cache = s.cache ∧
    (updSlot n f s).ras = s.ras ∧ (updSlot n f s).win = s.win ∧ (updSlot n f s).beams = s.beams ∧
    (updSlot n f s).pos = s.pos ∧ (updSlot n f s).armed = s.armed ∧ (updSlot n f s).shots = s.shots ∧
    (updSlot n f s).out = s.out ∧ (updSlot n f s).health = s.health ∧ (updSlot n f s).abs = s.abs ∧
    (updSlot n f s).mot = s.mot ∧ (updSlot n f s).hbm = s.hbm ∧ (updSlot n f s).ecc = s.ecc ∧
    (updSlot n f s).coh = s.coh ∧ (updSlot n f s).tim = s.tim ∧ (updSlot n f s).sec = s.sec ∧
    (updSlot n f s).pwr = s.pwr ∧ (updSlot n f s).mon = s.mon ∧ (updSlot n f s).clk = s.clk ∧
    (updSlot n f s).free = s.free ∧ (updSlot n f s).host = s.host :=
  ⟨rfl, rfl, rfl, rfl, rfl, rfl, rfl, rfl, rfl, rfl, rfl, rfl, rfl, rfl, rfl, rfl, rfl, rfl, rfl, rfl, rfl, rfl, rfl, rfl, rfl, rfl, rfl, rfl, rfl, rfl, rfl, rfl⟩

@[simp] theorem freeCurrent_frame (s : State) (n : Fin 16) :
    (freeCurrent n s).pending = s.pending ∧ (freeCurrent n s).regs = s.regs ∧ (freeCurrent n s).dram = s.dram ∧
    (freeCurrent n s).flow = s.flow ∧ (freeCurrent n s).ev = s.ev ∧ (freeCurrent n s).page = s.page ∧
    (freeCurrent n s).dma = s.dma ∧ (freeCurrent n s).chk = s.chk ∧ (freeCurrent n s).job = s.job ∧
    (freeCurrent n s).prog = s.prog ∧ (freeCurrent n s).ingest = s.ingest ∧ (freeCurrent n s).cache = s.cache ∧
    (freeCurrent n s).ras = s.ras ∧ (freeCurrent n s).win = s.win ∧ (freeCurrent n s).beams = s.beams ∧
    (freeCurrent n s).pos = s.pos ∧ (freeCurrent n s).armed = s.armed ∧ (freeCurrent n s).shots = s.shots ∧
    (freeCurrent n s).out = s.out ∧ (freeCurrent n s).health = s.health ∧ (freeCurrent n s).abs = s.abs ∧
    (freeCurrent n s).mot = s.mot ∧ (freeCurrent n s).hbm = s.hbm ∧ (freeCurrent n s).ecc = s.ecc ∧
    (freeCurrent n s).coh = s.coh ∧ (freeCurrent n s).tim = s.tim ∧ (freeCurrent n s).sec = s.sec ∧
    (freeCurrent n s).pwr = s.pwr ∧ (freeCurrent n s).mon = s.mon ∧ (freeCurrent n s).clk = s.clk ∧
    (freeCurrent n s).free = s.free ∧ (freeCurrent n s).host = s.host :=
  by
  unfold freeCurrent; (try dsimp only); (repeat' split) <;> simp

@[simp] theorem cancelRest_frame (s : State) :
    (cancelRest s).pending = s.pending ∧ (cancelRest s).regs = s.regs ∧ (cancelRest s).dram = s.dram ∧
    (cancelRest s).flow = s.flow ∧ (cancelRest s).ev = s.ev ∧ (cancelRest s).page = s.page ∧
    (cancelRest s).mail = s.mail ∧ (cancelRest s).dma = s.dma ∧ (cancelRest s).chk = s.chk ∧
    (cancelRest s).job = s.job ∧ (cancelRest s).prog = s.prog ∧ (cancelRest s).ingest = s.ingest ∧
    (cancelRest s).cache = s.cache ∧ (cancelRest s).ras = s.ras ∧ (cancelRest s).win = s.win ∧
    (cancelRest s).beams = s.beams ∧ (cancelRest s).pos = s.pos ∧ (cancelRest s).armed = s.armed ∧
    (cancelRest s).shots = s.shots ∧ (cancelRest s).out = s.out ∧ (cancelRest s).health = s.health ∧
    (cancelRest s).abs = s.abs ∧ (cancelRest s).mot = s.mot ∧ (cancelRest s).hbm = s.hbm ∧
    (cancelRest s).ecc = s.ecc ∧ (cancelRest s).coh = s.coh ∧ (cancelRest s).tim = s.tim ∧
    (cancelRest s).sec = s.sec ∧ (cancelRest s).mon = s.mon ∧ (cancelRest s).clk = s.clk ∧
    (cancelRest s).free = s.free ∧ (cancelRest s).host = s.host :=
  ⟨rfl, rfl, rfl, rfl, rfl, rfl, rfl, rfl, rfl, rfl, rfl, rfl, rfl, rfl, rfl, rfl, rfl, rfl, rfl, rfl, rfl, rfl, rfl, rfl, rfl, rfl, rfl, rfl, rfl, rfl, rfl, rfl⟩

@[simp] theorem takeCurrent_frame (s : State) (n : Fin 16) :
    (takeCurrent n s).pending = s.pending ∧ (takeCurrent n s).regs = s.regs ∧ (takeCurrent n s).dram = s.dram ∧
    (takeCurrent n s).flow = s.flow ∧ (takeCurrent n s).ev = s.ev ∧ (takeCurrent n s).page = s.page ∧
    (takeCurrent n s).dma = s.dma ∧ (takeCurrent n s).chk = s.chk ∧ (takeCurrent n s).job = s.job ∧
    (takeCurrent n s).prog = s.prog ∧ (takeCurrent n s).ingest = s.ingest ∧ (takeCurrent n s).cache = s.cache ∧
    (takeCurrent n s).ras = s.ras ∧ (takeCurrent n s).win = s.win ∧ (takeCurrent n s).beams = s.beams ∧
    (takeCurrent n s).pos = s.pos ∧ (takeCurrent n s).armed = s.armed ∧ (takeCurrent n s).shots = s.shots ∧
    (takeCurrent n s).out = s.out ∧ (takeCurrent n s).health = s.health ∧ (takeCurrent n s).abs = s.abs ∧
    (takeCurrent n s).mot = s.mot ∧ (takeCurrent n s).hbm = s.hbm ∧ (takeCurrent n s).ecc = s.ecc ∧
    (takeCurrent n s).coh = s.coh ∧ (takeCurrent n s).tim = s.tim ∧ (takeCurrent n s).sec = s.sec ∧
    (takeCurrent n s).pwr = s.pwr ∧ (takeCurrent n s).mon = s.mon ∧ (takeCurrent n s).clk = s.clk ∧
    (takeCurrent n s).free = s.free ∧ (takeCurrent n s).host = s.host :=
  by
  unfold takeCurrent; (try dsimp only); (repeat' split) <;> simp

@[simp] theorem accept_frame (s : State) (n : Fin 16) :
    (accept n s).pending = s.pending ∧ (accept n s).dram = s.dram ∧ (accept n s).flow = s.flow ∧
    (accept n s).ev = s.ev ∧ (accept n s).page = s.page ∧ (accept n s).dma = s.dma ∧
    (accept n s).chk = s.chk ∧ (accept n s).job = s.job ∧ (accept n s).prog = s.prog ∧
    (accept n s).ingest = s.ingest ∧ (accept n s).cache = s.cache ∧ (accept n s).ras = s.ras ∧
    (accept n s).win = s.win ∧ (accept n s).beams = s.beams ∧ (accept n s).pos = s.pos ∧
    (accept n s).armed = s.armed ∧ (accept n s).shots = s.shots ∧ (accept n s).out = s.out ∧
    (accept n s).health = s.health ∧ (accept n s).abs = s.abs ∧ (accept n s).mot = s.mot ∧
    (accept n s).hbm = s.hbm ∧ (accept n s).ecc = s.ecc ∧ (accept n s).coh = s.coh ∧
    (accept n s).tim = s.tim ∧ (accept n s).sec = s.sec ∧ (accept n s).mon = s.mon ∧
    (accept n s).clk = s.clk ∧ (accept n s).free = s.free ∧ (accept n s).host = s.host :=
  by
  unfold accept; simp

@[simp] theorem complete_frame (s : State) (n : Fin 16) (st : Status) (p : List Byte) :
    (complete n st p s).pending = s.pending ∧ (complete n st p s).dram = s.dram ∧ (complete n st p s).flow = s.flow ∧
    (complete n st p s).ev = s.ev ∧ (complete n st p s).page = s.page ∧ (complete n st p s).dma = s.dma ∧
    (complete n st p s).chk = s.chk ∧ (complete n st p s).job = s.job ∧ (complete n st p s).prog = s.prog ∧
    (complete n st p s).ingest = s.ingest ∧ (complete n st p s).cache = s.cache ∧ (complete n st p s).ras = s.ras ∧
    (complete n st p s).win = s.win ∧ (complete n st p s).beams = s.beams ∧ (complete n st p s).pos = s.pos ∧
    (complete n st p s).armed = s.armed ∧ (complete n st p s).shots = s.shots ∧ (complete n st p s).out = s.out ∧
    (complete n st p s).health = s.health ∧ (complete n st p s).abs = s.abs ∧ (complete n st p s).mot = s.mot ∧
    (complete n st p s).hbm = s.hbm ∧ (complete n st p s).ecc = s.ecc ∧ (complete n st p s).coh = s.coh ∧
    (complete n st p s).tim = s.tim ∧ (complete n st p s).sec = s.sec ∧ (complete n st p s).pwr = s.pwr ∧
    (complete n st p s).mon = s.mon ∧ (complete n st p s).clk = s.clk ∧ (complete n st p s).free = s.free ∧
    (complete n st p s).host = s.host :=
  by
  unfold complete; (try dsimp only); (repeat' split) <;> simp

@[simp] theorem completeOpt_frame (s : State) (n : Option (Fin 16)) (st : Status) (p : List Byte) :
    (completeOpt n st p s).pending = s.pending ∧ (completeOpt n st p s).dram = s.dram ∧ (completeOpt n st p s).flow = s.flow ∧
    (completeOpt n st p s).ev = s.ev ∧ (completeOpt n st p s).page = s.page ∧ (completeOpt n st p s).dma = s.dma ∧
    (completeOpt n st p s).chk = s.chk ∧ (completeOpt n st p s).job = s.job ∧ (completeOpt n st p s).prog = s.prog ∧
    (completeOpt n st p s).ingest = s.ingest ∧ (completeOpt n st p s).cache = s.cache ∧ (completeOpt n st p s).ras = s.ras ∧
    (completeOpt n st p s).win = s.win ∧ (completeOpt n st p s).beams = s.beams ∧ (completeOpt n st p s).pos = s.pos ∧
    (completeOpt n st p s).armed = s.armed ∧ (completeOpt n st p s).shots = s.shots ∧ (completeOpt n st p s).out = s.out ∧
    (completeOpt n st p s).health = s.health ∧ (completeOpt n st p s).abs = s.abs ∧ (completeOpt n st p s).mot = s.mot ∧
    (completeOpt n st p s).hbm = s.hbm ∧ (completeOpt n st p s).ecc = s.ecc ∧ (completeOpt n st p s).coh = s.coh ∧
    (completeOpt n st p s).tim = s.tim ∧ (completeOpt n st p s).sec = s.sec ∧ (completeOpt n st p s).pwr = s.pwr ∧
    (completeOpt n st p s).mon = s.mon ∧ (completeOpt n st p s).clk = s.clk ∧ (completeOpt n st p s).free = s.free ∧
    (completeOpt n st p s).host = s.host :=
  by
  unfold completeOpt; (try dsimp only); (repeat' split) <;> simp

/-! ## Choices, folds and commands -/

@[simp] theorem ite_frame (c : Prop) [Decidable c] (a b : State) :
    (if c then a else b).pending = (if c then a.pending else b.pending) ∧ (if c then a else b).regs = (if c then a.regs else b.regs) ∧
    (if c then a else b).dram = (if c then a.dram else b.dram) ∧ (if c then a else b).flow = (if c then a.flow else b.flow) ∧
    (if c then a else b).ev = (if c then a.ev else b.ev) ∧ (if c then a else b).page = (if c then a.page else b.page) ∧
    (if c then a else b).mail = (if c then a.mail else b.mail) ∧ (if c then a else b).dma = (if c then a.dma else b.dma) ∧
    (if c then a else b).chk = (if c then a.chk else b.chk) ∧ (if c then a else b).job = (if c then a.job else b.job) ∧
    (if c then a else b).prog = (if c then a.prog else b.prog) ∧ (if c then a else b).ingest = (if c then a.ingest else b.ingest) ∧
    (if c then a else b).cache = (if c then a.cache else b.cache) ∧ (if c then a else b).ras = (if c then a.ras else b.ras) ∧
    (if c then a else b).win = (if c then a.win else b.win) ∧ (if c then a else b).beams = (if c then a.beams else b.beams) ∧
    (if c then a else b).pos = (if c then a.pos else b.pos) ∧ (if c then a else b).armed = (if c then a.armed else b.armed) ∧
    (if c then a else b).shots = (if c then a.shots else b.shots) ∧ (if c then a else b).out = (if c then a.out else b.out) ∧
    (if c then a else b).health = (if c then a.health else b.health) ∧ (if c then a else b).abs = (if c then a.abs else b.abs) ∧
    (if c then a else b).mot = (if c then a.mot else b.mot) ∧ (if c then a else b).hbm = (if c then a.hbm else b.hbm) ∧
    (if c then a else b).ecc = (if c then a.ecc else b.ecc) ∧ (if c then a else b).coh = (if c then a.coh else b.coh) ∧
    (if c then a else b).tim = (if c then a.tim else b.tim) ∧ (if c then a else b).sec = (if c then a.sec else b.sec) ∧
    (if c then a else b).pwr = (if c then a.pwr else b.pwr) ∧ (if c then a else b).mon = (if c then a.mon else b.mon) ∧
    (if c then a else b).clk = (if c then a.clk else b.clk) ∧ (if c then a else b).free = (if c then a.free else b.free) ∧
    (if c then a else b).host = (if c then a.host else b.host) := by
  split <;> simp

@[simp] theorem foldl_pending {β : Type} (l : List β) (g : State → β → State) (s : State) (h : ∀ s x t, g s x = t → t.pending = s.pending) :
    (l.foldl g s).pending = s.pending := by
  induction l generalizing s with
  | nil => rfl
  | cons x l ih => rw [List.foldl_cons, ih, h s x _ rfl]

@[simp] theorem foldl_regs {β : Type} (l : List β) (g : State → β → State) (s : State) (h : ∀ s x t, g s x = t → t.regs = s.regs) :
    (l.foldl g s).regs = s.regs := by
  induction l generalizing s with
  | nil => rfl
  | cons x l ih => rw [List.foldl_cons, ih, h s x _ rfl]

@[simp] theorem foldl_dram {β : Type} (l : List β) (g : State → β → State) (s : State) (h : ∀ s x t, g s x = t → t.dram = s.dram) :
    (l.foldl g s).dram = s.dram := by
  induction l generalizing s with
  | nil => rfl
  | cons x l ih => rw [List.foldl_cons, ih, h s x _ rfl]

@[simp] theorem foldl_flow {β : Type} (l : List β) (g : State → β → State) (s : State) (h : ∀ s x t, g s x = t → t.flow = s.flow) :
    (l.foldl g s).flow = s.flow := by
  induction l generalizing s with
  | nil => rfl
  | cons x l ih => rw [List.foldl_cons, ih, h s x _ rfl]

@[simp] theorem foldl_ev {β : Type} (l : List β) (g : State → β → State) (s : State) (h : ∀ s x t, g s x = t → t.ev = s.ev) :
    (l.foldl g s).ev = s.ev := by
  induction l generalizing s with
  | nil => rfl
  | cons x l ih => rw [List.foldl_cons, ih, h s x _ rfl]

@[simp] theorem foldl_page {β : Type} (l : List β) (g : State → β → State) (s : State) (h : ∀ s x t, g s x = t → t.page = s.page) :
    (l.foldl g s).page = s.page := by
  induction l generalizing s with
  | nil => rfl
  | cons x l ih => rw [List.foldl_cons, ih, h s x _ rfl]

@[simp] theorem foldl_mail {β : Type} (l : List β) (g : State → β → State) (s : State) (h : ∀ s x t, g s x = t → t.mail = s.mail) :
    (l.foldl g s).mail = s.mail := by
  induction l generalizing s with
  | nil => rfl
  | cons x l ih => rw [List.foldl_cons, ih, h s x _ rfl]

@[simp] theorem foldl_dma {β : Type} (l : List β) (g : State → β → State) (s : State) (h : ∀ s x t, g s x = t → t.dma = s.dma) :
    (l.foldl g s).dma = s.dma := by
  induction l generalizing s with
  | nil => rfl
  | cons x l ih => rw [List.foldl_cons, ih, h s x _ rfl]

@[simp] theorem foldl_chk {β : Type} (l : List β) (g : State → β → State) (s : State) (h : ∀ s x t, g s x = t → t.chk = s.chk) :
    (l.foldl g s).chk = s.chk := by
  induction l generalizing s with
  | nil => rfl
  | cons x l ih => rw [List.foldl_cons, ih, h s x _ rfl]

@[simp] theorem foldl_job {β : Type} (l : List β) (g : State → β → State) (s : State) (h : ∀ s x t, g s x = t → t.job = s.job) :
    (l.foldl g s).job = s.job := by
  induction l generalizing s with
  | nil => rfl
  | cons x l ih => rw [List.foldl_cons, ih, h s x _ rfl]

@[simp] theorem foldl_prog {β : Type} (l : List β) (g : State → β → State) (s : State) (h : ∀ s x t, g s x = t → t.prog = s.prog) :
    (l.foldl g s).prog = s.prog := by
  induction l generalizing s with
  | nil => rfl
  | cons x l ih => rw [List.foldl_cons, ih, h s x _ rfl]

@[simp] theorem foldl_ingest {β : Type} (l : List β) (g : State → β → State) (s : State) (h : ∀ s x t, g s x = t → t.ingest = s.ingest) :
    (l.foldl g s).ingest = s.ingest := by
  induction l generalizing s with
  | nil => rfl
  | cons x l ih => rw [List.foldl_cons, ih, h s x _ rfl]

@[simp] theorem foldl_cache {β : Type} (l : List β) (g : State → β → State) (s : State) (h : ∀ s x t, g s x = t → t.cache = s.cache) :
    (l.foldl g s).cache = s.cache := by
  induction l generalizing s with
  | nil => rfl
  | cons x l ih => rw [List.foldl_cons, ih, h s x _ rfl]

@[simp] theorem foldl_ras {β : Type} (l : List β) (g : State → β → State) (s : State) (h : ∀ s x t, g s x = t → t.ras = s.ras) :
    (l.foldl g s).ras = s.ras := by
  induction l generalizing s with
  | nil => rfl
  | cons x l ih => rw [List.foldl_cons, ih, h s x _ rfl]

@[simp] theorem foldl_win {β : Type} (l : List β) (g : State → β → State) (s : State) (h : ∀ s x t, g s x = t → t.win = s.win) :
    (l.foldl g s).win = s.win := by
  induction l generalizing s with
  | nil => rfl
  | cons x l ih => rw [List.foldl_cons, ih, h s x _ rfl]

@[simp] theorem foldl_beams {β : Type} (l : List β) (g : State → β → State) (s : State) (h : ∀ s x t, g s x = t → t.beams = s.beams) :
    (l.foldl g s).beams = s.beams := by
  induction l generalizing s with
  | nil => rfl
  | cons x l ih => rw [List.foldl_cons, ih, h s x _ rfl]

@[simp] theorem foldl_pos {β : Type} (l : List β) (g : State → β → State) (s : State) (h : ∀ s x t, g s x = t → t.pos = s.pos) :
    (l.foldl g s).pos = s.pos := by
  induction l generalizing s with
  | nil => rfl
  | cons x l ih => rw [List.foldl_cons, ih, h s x _ rfl]

@[simp] theorem foldl_armed {β : Type} (l : List β) (g : State → β → State) (s : State) (h : ∀ s x t, g s x = t → t.armed = s.armed) :
    (l.foldl g s).armed = s.armed := by
  induction l generalizing s with
  | nil => rfl
  | cons x l ih => rw [List.foldl_cons, ih, h s x _ rfl]

@[simp] theorem foldl_shots {β : Type} (l : List β) (g : State → β → State) (s : State) (h : ∀ s x t, g s x = t → t.shots = s.shots) :
    (l.foldl g s).shots = s.shots := by
  induction l generalizing s with
  | nil => rfl
  | cons x l ih => rw [List.foldl_cons, ih, h s x _ rfl]

@[simp] theorem foldl_out {β : Type} (l : List β) (g : State → β → State) (s : State) (h : ∀ s x t, g s x = t → t.out = s.out) :
    (l.foldl g s).out = s.out := by
  induction l generalizing s with
  | nil => rfl
  | cons x l ih => rw [List.foldl_cons, ih, h s x _ rfl]

@[simp] theorem foldl_health {β : Type} (l : List β) (g : State → β → State) (s : State) (h : ∀ s x t, g s x = t → t.health = s.health) :
    (l.foldl g s).health = s.health := by
  induction l generalizing s with
  | nil => rfl
  | cons x l ih => rw [List.foldl_cons, ih, h s x _ rfl]

@[simp] theorem foldl_abs {β : Type} (l : List β) (g : State → β → State) (s : State) (h : ∀ s x t, g s x = t → t.abs = s.abs) :
    (l.foldl g s).abs = s.abs := by
  induction l generalizing s with
  | nil => rfl
  | cons x l ih => rw [List.foldl_cons, ih, h s x _ rfl]

@[simp] theorem foldl_mot {β : Type} (l : List β) (g : State → β → State) (s : State) (h : ∀ s x t, g s x = t → t.mot = s.mot) :
    (l.foldl g s).mot = s.mot := by
  induction l generalizing s with
  | nil => rfl
  | cons x l ih => rw [List.foldl_cons, ih, h s x _ rfl]

@[simp] theorem foldl_hbm {β : Type} (l : List β) (g : State → β → State) (s : State) (h : ∀ s x t, g s x = t → t.hbm = s.hbm) :
    (l.foldl g s).hbm = s.hbm := by
  induction l generalizing s with
  | nil => rfl
  | cons x l ih => rw [List.foldl_cons, ih, h s x _ rfl]

@[simp] theorem foldl_ecc {β : Type} (l : List β) (g : State → β → State) (s : State) (h : ∀ s x t, g s x = t → t.ecc = s.ecc) :
    (l.foldl g s).ecc = s.ecc := by
  induction l generalizing s with
  | nil => rfl
  | cons x l ih => rw [List.foldl_cons, ih, h s x _ rfl]

@[simp] theorem foldl_coh {β : Type} (l : List β) (g : State → β → State) (s : State) (h : ∀ s x t, g s x = t → t.coh = s.coh) :
    (l.foldl g s).coh = s.coh := by
  induction l generalizing s with
  | nil => rfl
  | cons x l ih => rw [List.foldl_cons, ih, h s x _ rfl]

@[simp] theorem foldl_tim {β : Type} (l : List β) (g : State → β → State) (s : State) (h : ∀ s x t, g s x = t → t.tim = s.tim) :
    (l.foldl g s).tim = s.tim := by
  induction l generalizing s with
  | nil => rfl
  | cons x l ih => rw [List.foldl_cons, ih, h s x _ rfl]

@[simp] theorem foldl_sec {β : Type} (l : List β) (g : State → β → State) (s : State) (h : ∀ s x t, g s x = t → t.sec = s.sec) :
    (l.foldl g s).sec = s.sec := by
  induction l generalizing s with
  | nil => rfl
  | cons x l ih => rw [List.foldl_cons, ih, h s x _ rfl]

@[simp] theorem foldl_pwr {β : Type} (l : List β) (g : State → β → State) (s : State) (h : ∀ s x t, g s x = t → t.pwr = s.pwr) :
    (l.foldl g s).pwr = s.pwr := by
  induction l generalizing s with
  | nil => rfl
  | cons x l ih => rw [List.foldl_cons, ih, h s x _ rfl]

@[simp] theorem foldl_mon {β : Type} (l : List β) (g : State → β → State) (s : State) (h : ∀ s x t, g s x = t → t.mon = s.mon) :
    (l.foldl g s).mon = s.mon := by
  induction l generalizing s with
  | nil => rfl
  | cons x l ih => rw [List.foldl_cons, ih, h s x _ rfl]

@[simp] theorem foldl_clk {β : Type} (l : List β) (g : State → β → State) (s : State) (h : ∀ s x t, g s x = t → t.clk = s.clk) :
    (l.foldl g s).clk = s.clk := by
  induction l generalizing s with
  | nil => rfl
  | cons x l ih => rw [List.foldl_cons, ih, h s x _ rfl]

@[simp] theorem foldl_free {β : Type} (l : List β) (g : State → β → State) (s : State) (h : ∀ s x t, g s x = t → t.free = s.free) :
    (l.foldl g s).free = s.free := by
  induction l generalizing s with
  | nil => rfl
  | cons x l ih => rw [List.foldl_cons, ih, h s x _ rfl]

@[simp] theorem foldl_host {β : Type} (l : List β) (g : State → β → State) (s : State) (h : ∀ s x t, g s x = t → t.host = s.host) :
    (l.foldl g s).host = s.host := by
  induction l generalizing s with
  | nil => rfl
  | cons x l ih => rw [List.foldl_cons, ih, h s x _ rfl]

end Sys2Proof.Machine
end

