-- ==== Sys2Proof/Laws/Canon.lean ====
section
/-!
SUPPORT. The canonical form of DRAM and of the register file is kept by the named operations, by choices, folds and
commands.
-/

namespace Sys2Proof.Machine

set_option Elab.async false

theorem State.canonical.regs {s : State} (h : s.canonical) : Sparse.wf regPor s.regs = true := h.2

theorem State.canonical.dram {s : State} (h : s.canonical) : Sparse.wf dramPor s.dram = true := h.1

/-- A state is canonical when its register file and its DRAM are. -/
theorem canonical_of {s : State} (h1 : Sparse.wf dramPor s.dram = true) (h2 : Sparse.wf regPor s.regs = true) :
    s.canonical := ⟨h1, h2⟩

@[simp] theorem mk_canon x0 x1 x2 x3 x4 x5 x6 x7 x8 x9 x10 x11 x12 x13 x14 x15 x16 x17 x18 x19 x20 x21 x22 x23 x24 x25 x26 x27 x28 x29 x30 x31 x32
    (h1 : Sparse.wf dramPor x2 = true) (h2 : Sparse.wf regPor x1 = true) :
    (State.mk x0 x1 x2 x3 x4 x5 x6 x7 x8 x9 x10 x11 x12 x13 x14 x15 x16 x17 x18 x19 x20 x21 x22 x23 x24 x25 x26 x27 x28 x29 x30 x31 x32).canonical := ⟨h1, h2⟩

@[simp] theorem regs_canon (s : State) (h : s.canonical) : Sparse.wf regPor s.regs = true := h.2

@[simp] theorem dram_canon (s : State) (h : s.canonical) : Sparse.wf dramPor s.dram = true := h.1

@[simp] theorem rset_canon (k : Nat) (v : Word) (s : State) (h : s.canonical) : (rset k v s).canonical :=
  ⟨h.1, Sparse.wf_set _ h.2 _ _⟩

@[simp] theorem fput_canon (f : Field) (v : Nat) (s : State) (h : s.canonical) : (fput f v s).canonical := rset_canon _ _ _ h
@[simp] theorem fputInt_canon (f : Field) (v : Int) (s : State) (h : s.canonical) : (fputInt f v s).canonical := fput_canon _ _ _ h
@[simp] theorem fputSat_canon (f : Field) (v : Nat) (s : State) (h : s.canonical) : (fputSat f v s).canonical := fput_canon _ _ _ h
@[simp] theorem fcount_canon (f : Field) (v : Nat) (s : State) (h : s.canonical) : (fcount f v s).canonical := fput_canon _ _ _ h
@[simp] theorem fmax_canon (f : Field) (v : Nat) (s : State) (h : s.canonical) : (fmax f v s).canonical := fput_canon _ _ _ h
@[simp] theorem fmin_canon (f : Field) (v : Nat) (s : State) (h : s.canonical) : (fmin f v s).canonical := fput_canon _ _ _ h
@[simp] theorem rpor_canon (k : Nat) (s : State) (h : s.canonical) : (rpor k s).canonical := rset_canon _ _ _ h
@[simp] theorem rset64_canon (lo hi v : Nat) (s : State) (h : s.canonical) : (rset64 lo hi v s).canonical :=
  rset_canon _ _ _ (rset_canon _ _ _ h)
@[simp] theorem putLanesBit_canon (lo hi i : Nat) (b : Bool) (s : State) (h : s.canonical) : (putLanesBit lo hi i b s).canonical :=
  rset_canon _ _ _ h
@[simp] theorem fputBit_canon (f : Field) (n : Nat) (b : Bool) (s : State) (h : s.canonical) : (fputBit f n b s).canonical := by
  unfold fputBit; split
  · exact h
  · exact fput_canon _ _ _ h

@[simp] theorem dramWrite_canon (a : Nat) (bs : List Byte) (s : State) (h : s.canonical) : (dramWrite a bs s).canonical :=
  ⟨Sparse.wf_setRun _ _ h.1 _, h.2⟩
@[simp] theorem dramClear_canon (lo hi : Nat) (s : State) (h : s.canonical) : (dramClear lo hi s).canonical :=
  ⟨Sparse.wf_clear _ h.1 _ _, h.2⟩

@[simp] theorem ite_canon (c : Prop) [Decidable c] (a b : State) (ha : a.canonical) (hb : b.canonical) :
    (if c then a else b).canonical := by split <;> assumption

@[simp] theorem foldl_canon {β : Type} (l : List β) (g : State → β → State) (s : State)
    (h : ∀ s x t, g s x = t → s.canonical → t.canonical) (hs : s.canonical) : (l.foldl g s).canonical := by
  induction l generalizing s with
  | nil => exact hs
  | cons x l ih => exact ih _ (h s x _ rfl hs)

@[simp] theorem wf_nil (d : Nat → Byte) : Sparse.wf d [] = true := rfl
@[simp] theorem wf_nil_regs (d : Nat → Word) : Sparse.wf d [] = true := rfl

@[simp] theorem wf_filter_regs (s : State) (h : s.canonical) (p : Nat × Word → Bool) : Sparse.wf regPor (s.regs.filter p) = true :=
  Sparse.wf_filter p regPor h.2

end Sys2Proof.Machine
end

