-- ==== Sys2Proof/Laws/Frame0.lean ====
section
/-!
SUPPORT. What the operations of these files leave of the state, one lemma per operation, for the simplifier.
-/

namespace Sys2Proof.Machine

set_option Elab.async false

set_option maxHeartbeats 60000 in
@[simp] theorem validatePages_frame (lo hi : Nat) (s : State) :
    (validatePages lo hi s).pending = s.pending ∧ (validatePages lo hi s).mail = s.mail ∧ (validatePages lo hi s).dram = s.dram ∧ (validatePages lo hi s).job = s.job ∧ (validatePages lo hi s).page = s.page ∧ (validatePages lo hi s).flow = s.flow ∧ (validatePages lo hi s).prog = s.prog ∧ (validatePages lo hi s).sec = s.sec ∧ (validatePages lo hi s).tim = s.tim ∧ (validatePages lo hi s).ev = s.ev := by
  unfold validatePages; simp

set_option maxHeartbeats 60000 in
@[simp] theorem invalidatePages_frame (lo hi : Nat) (s : State) :
    (invalidatePages lo hi s).pending = s.pending ∧ (invalidatePages lo hi s).mail = s.mail ∧ (invalidatePages lo hi s).job = s.job ∧ (invalidatePages lo hi s).page = s.page ∧ (invalidatePages lo hi s).flow = s.flow ∧ (invalidatePages lo hi s).prog = s.prog ∧ (invalidatePages lo hi s).sec = s.sec ∧ (invalidatePages lo hi s).tim = s.tim ∧ (invalidatePages lo hi s).ev = s.ev := by
  unfold invalidatePages; simp

set_option maxHeartbeats 60000 in
@[simp] theorem emptyRegion_frame (n : Nat) (s : State) :
    (emptyRegion n s).pending = s.pending ∧ (emptyRegion n s).mail = s.mail ∧ (emptyRegion n s).job = s.job ∧ (emptyRegion n s).page = s.page ∧ (emptyRegion n s).flow = s.flow ∧ (emptyRegion n s).prog = s.prog ∧ (emptyRegion n s).sec = s.sec ∧ (emptyRegion n s).tim = s.tim ∧ (emptyRegion n s).ev = s.ev := by
  unfold emptyRegion; simp

set_option maxHeartbeats 60000 in
@[simp] theorem emptyBanks_frame (lo hi : Nat) (s : State) :
    (emptyBanks lo hi s).pending = s.pending ∧ (emptyBanks lo hi s).mail = s.mail ∧ (emptyBanks lo hi s).dram = s.dram ∧ (emptyBanks lo hi s).job = s.job ∧ (emptyBanks lo hi s).page = s.page ∧ (emptyBanks lo hi s).flow = s.flow ∧ (emptyBanks lo hi s).prog = s.prog ∧ (emptyBanks lo hi s).sec = s.sec ∧ (emptyBanks lo hi s).tim = s.tim ∧ (emptyBanks lo hi s).ev = s.ev := by
  unfold emptyBanks; simp

set_option maxHeartbeats 60000 in
@[simp] theorem fillSram_frame (s : State) :
    (fillSram s).pending = s.pending ∧ (fillSram s).mail = s.mail ∧ (fillSram s).dram = s.dram ∧ (fillSram s).job = s.job ∧ (fillSram s).page = s.page ∧ (fillSram s).flow = s.flow ∧ (fillSram s).prog = s.prog ∧ (fillSram s).sec = s.sec ∧ (fillSram s).tim = s.tim ∧ (fillSram s).ev = s.ev := by
  unfold fillSram; simp

set_option maxHeartbeats 60000 in
@[simp] theorem eccLog_frame (dram : Bool) (addr result : Nat) (scrub : Bool) (wher port : Nat) (s : State) :
    (eccLog dram addr result scrub wher port s).pending = s.pending ∧ (eccLog dram addr result scrub wher port s).mail = s.mail ∧ (eccLog dram addr result scrub wher port s).dram = s.dram ∧ (eccLog dram addr result scrub wher port s).job = s.job ∧ (eccLog dram addr result scrub wher port s).page = s.page ∧ (eccLog dram addr result scrub wher port s).flow = s.flow ∧ (eccLog dram addr result scrub wher port s).prog = s.prog ∧ (eccLog dram addr result scrub wher port s).sec = s.sec ∧ (eccLog dram addr result scrub wher port s).tim = s.tim ∧ (eccLog dram addr result scrub wher port s).ev = s.ev := by
  unfold eccLog; simp

set_option maxHeartbeats 60000 in
@[simp] theorem countCorrection_frame (s : State) :
    (countCorrection s).pending = s.pending ∧ (countCorrection s).mail = s.mail ∧ (countCorrection s).dram = s.dram ∧ (countCorrection s).job = s.job ∧ (countCorrection s).page = s.page ∧ (countCorrection s).flow = s.flow ∧ (countCorrection s).prog = s.prog ∧ (countCorrection s).sec = s.sec ∧ (countCorrection s).tim = s.tim := by
  unfold countCorrection; simp

set_option maxHeartbeats 60000 in
@[simp] theorem countUncorrectable_frame (s : State) :
    (countUncorrectable s).pending = s.pending ∧ (countUncorrectable s).mail = s.mail ∧ (countUncorrectable s).dram = s.dram ∧ (countUncorrectable s).job = s.job ∧ (countUncorrectable s).page = s.page ∧ (countUncorrectable s).flow = s.flow ∧ (countUncorrectable s).prog = s.prog ∧ (countUncorrectable s).sec = s.sec ∧ (countUncorrectable s).tim = s.tim := by
  unfold countUncorrectable; simp

set_option maxHeartbeats 60000 in
@[simp] theorem issueCmd_frame (pc : Nat) (c : DramCmd) (s : State) :
    (issueCmd pc c s).pending = s.pending ∧ (issueCmd pc c s).mail = s.mail ∧ (issueCmd pc c s).dram = s.dram ∧ (issueCmd pc c s).job = s.job ∧ (issueCmd pc c s).page = s.page ∧ (issueCmd pc c s).flow = s.flow ∧ (issueCmd pc c s).prog = s.prog ∧ (issueCmd pc c s).sec = s.sec ∧ (issueCmd pc c s).tim = s.tim ∧ (issueCmd pc c s).ev = s.ev := by
  unfold issueCmd; simp

set_option maxHeartbeats 60000 in
@[simp] theorem precharge_frame (pc bank : Nat) (s : State) :
    (precharge pc bank s).pending = s.pending ∧ (precharge pc bank s).mail = s.mail ∧ (precharge pc bank s).dram = s.dram ∧ (precharge pc bank s).job = s.job ∧ (precharge pc bank s).page = s.page ∧ (precharge pc bank s).flow = s.flow ∧ (precharge pc bank s).prog = s.prog ∧ (precharge pc bank s).sec = s.sec ∧ (precharge pc bank s).tim = s.tim ∧ (precharge pc bank s).ev = s.ev := by
  unfold precharge; simp

set_option maxHeartbeats 60000 in
@[simp] theorem prechargeAll_frame (pc : Nat) (s : State) :
    (prechargeAll pc s).pending = s.pending ∧ (prechargeAll pc s).mail = s.mail ∧ (prechargeAll pc s).dram = s.dram ∧ (prechargeAll pc s).job = s.job ∧ (prechargeAll pc s).page = s.page ∧ (prechargeAll pc s).flow = s.flow ∧ (prechargeAll pc s).prog = s.prog ∧ (prechargeAll pc s).sec = s.sec ∧ (prechargeAll pc s).tim = s.tim ∧ (prechargeAll pc s).ev = s.ev := by
  unfold prechargeAll; simp

set_option maxHeartbeats 60000 in
@[simp] theorem leavePowerDown_frame (pc : Nat) (s : State) :
    (leavePowerDown pc s).pending = s.pending ∧ (leavePowerDown pc s).mail = s.mail ∧ (leavePowerDown pc s).dram = s.dram ∧ (leavePowerDown pc s).job = s.job ∧ (leavePowerDown pc s).page = s.page ∧ (leavePowerDown pc s).flow = s.flow ∧ (leavePowerDown pc s).prog = s.prog ∧ (leavePowerDown pc s).sec = s.sec ∧ (leavePowerDown pc s).tim = s.tim ∧ (leavePowerDown pc s).ev = s.ev := by
  unfold leavePowerDown; simp

set_option maxHeartbeats 60000 in
@[simp] theorem activateRow_frame (pc bank row : Nat) (s : State) :
    (activateRow pc bank row s).pending = s.pending ∧ (activateRow pc bank row s).mail = s.mail ∧ (activateRow pc bank row s).dram = s.dram ∧ (activateRow pc bank row s).job = s.job ∧ (activateRow pc bank row s).page = s.page ∧ (activateRow pc bank row s).flow = s.flow ∧ (activateRow pc bank row s).prog = s.prog ∧ (activateRow pc bank row s).sec = s.sec ∧ (activateRow pc bank row s).tim = s.tim ∧ (activateRow pc bank row s).ev = s.ev := by
  unfold activateRow; simp

set_option maxHeartbeats 60000 in
@[simp] theorem refreshNeighbours_frame (pc bank row : Nat) (s : State) :
    (refreshNeighbours pc bank row s).pending = s.pending ∧ (refreshNeighbours pc bank row s).mail = s.mail ∧ (refreshNeighbours pc bank row s).dram = s.dram ∧ (refreshNeighbours pc bank row s).job = s.job ∧ (refreshNeighbours pc bank row s).page = s.page ∧ (refreshNeighbours pc bank row s).flow = s.flow ∧ (refreshNeighbours pc bank row s).prog = s.prog ∧ (refreshNeighbours pc bank row s).sec = s.sec ∧ (refreshNeighbours pc bank row s).tim = s.tim ∧ (refreshNeighbours pc bank row s).ev = s.ev := by
  unfold refreshNeighbours; simp

set_option maxHeartbeats 60000 in
@[simp] theorem refreshDueLoop_frame (pc bank : Nat) (x0 : Nat) (x1 : State) :
    (refreshDueLoop pc bank x0 x1).pending = x1.pending ∧ (refreshDueLoop pc bank x0 x1).mail = x1.mail ∧ (refreshDueLoop pc bank x0 x1).dram = x1.dram ∧ (refreshDueLoop pc bank x0 x1).job = x1.job ∧ (refreshDueLoop pc bank x0 x1).page = x1.page ∧ (refreshDueLoop pc bank x0 x1).flow = x1.flow ∧ (refreshDueLoop pc bank x0 x1).prog = x1.prog ∧ (refreshDueLoop pc bank x0 x1).sec = x1.sec ∧ (refreshDueLoop pc bank x0 x1).tim = x1.tim ∧ (refreshDueLoop pc bank x0 x1).ev = x1.ev := by
  induction x0 generalizing x1 with
  | zero => simp [refreshDueLoop]
  | succ n ih => unfold refreshDueLoop; (try dsimp only); (repeat' split) <;> simp [ih]

set_option maxHeartbeats 60000 in
@[simp] theorem refreshDue_frame (pc bank : Nat) (s : State) :
    (refreshDue pc bank s).pending = s.pending ∧ (refreshDue pc bank s).mail = s.mail ∧ (refreshDue pc bank s).dram = s.dram ∧ (refreshDue pc bank s).job = s.job ∧ (refreshDue pc bank s).page = s.page ∧ (refreshDue pc bank s).flow = s.flow ∧ (refreshDue pc bank s).prog = s.prog ∧ (refreshDue pc bank s).sec = s.sec ∧ (refreshDue pc bank s).tim = s.tim ∧ (refreshDue pc bank s).ev = s.ev := by
  unfold refreshDue; simp

set_option maxHeartbeats 60000 in
@[simp] theorem openRow_frame (pc bank row : Nat) (s : State) :
    (openRow pc bank row s).pending = s.pending ∧ (openRow pc bank row s).mail = s.mail ∧ (openRow pc bank row s).dram = s.dram ∧ (openRow pc bank row s).job = s.job ∧ (openRow pc bank row s).page = s.page ∧ (openRow pc bank row s).flow = s.flow ∧ (openRow pc bank row s).prog = s.prog ∧ (openRow pc bank row s).sec = s.sec ∧ (openRow pc bank row s).tim = s.tim ∧ (openRow pc bank row s).ev = s.ev := by
  unfold openRow; simp

set_option maxHeartbeats 60000 in
@[simp] theorem serveUnit_frame (write : Bool) (u : Nat) (s : State) :
    (serveUnit write u s).pending = s.pending ∧ (serveUnit write u s).mail = s.mail ∧ (serveUnit write u s).dram = s.dram ∧ (serveUnit write u s).job = s.job ∧ (serveUnit write u s).page = s.page ∧ (serveUnit write u s).flow = s.flow ∧ (serveUnit write u s).prog = s.prog ∧ (serveUnit write u s).sec = s.sec ∧ (serveUnit write u s).tim = s.tim ∧ (serveUnit write u s).ev = s.ev := by
  unfold serveUnit; simp

set_option maxHeartbeats 60000 in
@[simp] theorem accessUnit_frame (write : Bool) (u : Nat) (s : State) :
    (accessUnit write u s).pending = s.pending ∧ (accessUnit write u s).mail = s.mail ∧ (accessUnit write u s).dram = s.dram ∧ (accessUnit write u s).job = s.job ∧ (accessUnit write u s).page = s.page ∧ (accessUnit write u s).flow = s.flow ∧ (accessUnit write u s).prog = s.prog ∧ (accessUnit write u s).sec = s.sec ∧ (accessUnit write u s).tim = s.tim ∧ (accessUnit write u s).ev = s.ev := by
  unfold accessUnit; simp

set_option maxHeartbeats 60000 in
@[simp] theorem countUrgent_frame (p n : Nat) (s : State) :
    (countUrgent p n s).pending = s.pending ∧ (countUrgent p n s).mail = s.mail ∧ (countUrgent p n s).dram = s.dram ∧ (countUrgent p n s).job = s.job ∧ (countUrgent p n s).page = s.page ∧ (countUrgent p n s).flow = s.flow ∧ (countUrgent p n s).prog = s.prog ∧ (countUrgent p n s).sec = s.sec ∧ (countUrgent p n s).tim = s.tim ∧ (countUrgent p n s).ev = s.ev := by
  unfold countUrgent; simp

set_option maxHeartbeats 60000 in
@[simp] theorem readWord_frame (port w : Nat) (s : State) :
    (readWord port w s).pending = s.pending ∧ (readWord port w s).mail = s.mail ∧ (readWord port w s).dram = s.dram ∧ (readWord port w s).job = s.job ∧ (readWord port w s).page = s.page ∧ (readWord port w s).flow = s.flow ∧ (readWord port w s).prog = s.prog ∧ (readWord port w s).sec = s.sec ∧ (readWord port w s).tim = s.tim := by
  unfold readWord; (repeat' split) <;> simp

set_option maxHeartbeats 60000 in
@[simp] theorem readUnit_frame (port u : Nat) (s : State) :
    (readUnit port u s).pending = s.pending ∧ (readUnit port u s).mail = s.mail ∧ (readUnit port u s).dram = s.dram ∧ (readUnit port u s).job = s.job ∧ (readUnit port u s).page = s.page ∧ (readUnit port u s).flow = s.flow ∧ (readUnit port u s).prog = s.prog ∧ (readUnit port u s).sec = s.sec ∧ (readUnit port u s).tim = s.tim := by
  unfold readUnit; simp

set_option maxHeartbeats 60000 in
@[simp] theorem readUnits_frame (port a n : Nat) (s : State) :
    (readUnits port a n s).pending = s.pending ∧ (readUnits port a n s).mail = s.mail ∧ (readUnits port a n s).dram = s.dram ∧ (readUnits port a n s).job = s.job ∧ (readUnits port a n s).page = s.page ∧ (readUnits port a n s).flow = s.flow ∧ (readUnits port a n s).prog = s.prog ∧ (readUnits port a n s).sec = s.sec ∧ (readUnits port a n s).tim = s.tim := by
  unfold readUnits; simp

set_option maxHeartbeats 60000 in
@[simp] theorem memRead_frame (port a n : Nat) (s : State) :
    (memRead port a n s).1.pending = s.pending ∧ (memRead port a n s).1.mail = s.mail ∧ (memRead port a n s).1.dram = s.dram ∧ (memRead port a n s).1.job = s.job ∧ (memRead port a n s).1.page = s.page ∧ (memRead port a n s).1.flow = s.flow ∧ (memRead port a n s).1.prog = s.prog ∧ (memRead port a n s).1.sec = s.sec ∧ (memRead port a n s).1.tim = s.tim := by
  unfold memRead; (try dsimp only); (repeat' split) <;> simp

set_option maxHeartbeats 60000 in
@[simp] theorem writeUnit_frame (port a n u : Nat) (s : State) :
    (writeUnit port a n u s).pending = s.pending ∧ (writeUnit port a n u s).mail = s.mail ∧ (writeUnit port a n u s).dram = s.dram ∧ (writeUnit port a n u s).job = s.job ∧ (writeUnit port a n u s).page = s.page ∧ (writeUnit port a n u s).flow = s.flow ∧ (writeUnit port a n u s).prog = s.prog ∧ (writeUnit port a n u s).sec = s.sec ∧ (writeUnit port a n u s).tim = s.tim := by
  unfold writeUnit; simp

set_option maxHeartbeats 60000 in
@[simp] theorem writeUnits_frame (port a n : Nat) (s : State) :
    (writeUnits port a n s).pending = s.pending ∧ (writeUnits port a n s).mail = s.mail ∧ (writeUnits port a n s).dram = s.dram ∧ (writeUnits port a n s).job = s.job ∧ (writeUnits port a n s).page = s.page ∧ (writeUnits port a n s).flow = s.flow ∧ (writeUnits port a n s).prog = s.prog ∧ (writeUnits port a n s).sec = s.sec ∧ (writeUnits port a n s).tim = s.tim := by
  unfold writeUnits; simp

set_option maxHeartbeats 60000 in
@[simp] theorem writeUnitBytes_frame (a : Nat) (bs : List Byte) (u : Nat) (s : State) :
    (writeUnitBytes a bs u s).pending = s.pending ∧ (writeUnitBytes a bs u s).mail = s.mail ∧ (writeUnitBytes a bs u s).job = s.job ∧ (writeUnitBytes a bs u s).page = s.page ∧ (writeUnitBytes a bs u s).flow = s.flow ∧ (writeUnitBytes a bs u s).prog = s.prog ∧ (writeUnitBytes a bs u s).sec = s.sec ∧ (writeUnitBytes a bs u s).tim = s.tim ∧ (writeUnitBytes a bs u s).ev = s.ev := by
  unfold writeUnitBytes; simp

set_option maxHeartbeats 60000 in
@[simp] theorem memWrite_frame (port a : Nat) (bs : List Byte) (s : State) :
    (memWrite port a bs s).pending = s.pending ∧ (memWrite port a bs s).mail = s.mail ∧ (memWrite port a bs s).job = s.job ∧ (memWrite port a bs s).page = s.page ∧ (memWrite port a bs s).flow = s.flow ∧ (memWrite port a bs s).prog = s.prog ∧ (memWrite port a bs s).sec = s.sec ∧ (memWrite port a bs s).tim = s.tim := by
  unfold memWrite; simp

set_option maxHeartbeats 60000 in
@[simp] theorem fillDram_frame (s : State) :
    (fillDram s).pending = s.pending ∧ (fillDram s).mail = s.mail ∧ (fillDram s).job = s.job ∧ (fillDram s).page = s.page ∧ (fillDram s).flow = s.flow ∧ (fillDram s).prog = s.prog ∧ (fillDram s).sec = s.sec ∧ (fillDram s).tim = s.tim ∧ (fillDram s).ev = s.ev := by
  unfold fillDram; simp

set_option maxHeartbeats 60000 in
@[simp] theorem startFill_frame (bist : Bool) (s : State) :
    (startFill bist s).pending = s.pending ∧ (startFill bist s).mail = s.mail ∧ (startFill bist s).job = s.job ∧ (startFill bist s).page = s.page ∧ (startFill bist s).flow = s.flow ∧ (startFill bist s).prog = s.prog ∧ (startFill bist s).sec = s.sec ∧ (startFill bist s).tim = s.tim ∧ (startFill bist s).ev = s.ev := by
  unfold startFill; simp

set_option maxHeartbeats 60000 in
@[simp] theorem readSome_frame (port : Nat) (us : List Nat) (s : State) :
    (readSome port us s).1.pending = s.pending ∧ (readSome port us s).1.mail = s.mail ∧ (readSome port us s).1.dram = s.dram ∧ (readSome port us s).1.job = s.job ∧ (readSome port us s).1.page = s.page ∧ (readSome port us s).1.flow = s.flow ∧ (readSome port us s).1.prog = s.prog ∧ (readSome port us s).1.sec = s.sec ∧ (readSome port us s).1.tim = s.tim := by
  unfold readSome; simp

set_option maxHeartbeats 60000 in
@[simp] theorem readSram_frame (client w : Nat) (s : State) :
    (readSram client w s).pending = s.pending ∧ (readSram client w s).mail = s.mail ∧ (readSram client w s).dram = s.dram ∧ (readSram client w s).job = s.job ∧ (readSram client w s).page = s.page ∧ (readSram client w s).flow = s.flow ∧ (readSram client w s).prog = s.prog ∧ (readSram client w s).sec = s.sec ∧ (readSram client w s).tim = s.tim := by
  unfold readSram; (repeat' split) <;> simp

set_option maxHeartbeats 60000 in
@[simp] theorem writeSram_frame (w n : Nat) (s : State) :
    (writeSram w n s).pending = s.pending ∧ (writeSram w n s).mail = s.mail ∧ (writeSram w n s).dram = s.dram ∧ (writeSram w n s).job = s.job ∧ (writeSram w n s).page = s.page ∧ (writeSram w n s).flow = s.flow ∧ (writeSram w n s).prog = s.prog ∧ (writeSram w n s).sec = s.sec ∧ (writeSram w n s).tim = s.tim := by
  unfold writeSram; simp

@[simp] theorem runCommand_pending (r : Req) (g : Gate) (eff : State → State) (s : State) (h : ∀ u t, eff u = t → t.pending = u.pending) :
    (runCommand r g eff s).pending = s.pending := by
  unfold runCommand; split
  · simp
  · rw [h _ _ rfl]; simp

@[simp] theorem runCommand_dram (r : Req) (g : Gate) (eff : State → State) (s : State) (h : ∀ u t, eff u = t → t.dram = u.dram) :
    (runCommand r g eff s).dram = s.dram := by
  unfold runCommand; split
  · simp
  · rw [h _ _ rfl]; simp

@[simp] theorem runCommand_flow (r : Req) (g : Gate) (eff : State → State) (s : State) (h : ∀ u t, eff u = t → t.flow = u.flow) :
    (runCommand r g eff s).flow = s.flow := by
  unfold runCommand; split
  · simp
  · rw [h _ _ rfl]; simp

@[simp] theorem runCommand_ev (r : Req) (g : Gate) (eff : State → State) (s : State) (h : ∀ u t, eff u = t → t.ev = u.ev) :
    (runCommand r g eff s).ev = s.ev := by
  unfold runCommand; split
  · simp
  · rw [h _ _ rfl]; simp

@[simp] theorem runCommand_page (r : Req) (g : Gate) (eff : State → State) (s : State) (h : ∀ u t, eff u = t → t.page = u.page) :
    (runCommand r g eff s).page = s.page := by
  unfold runCommand; split
  · simp
  · rw [h _ _ rfl]; simp

@[simp] theorem runCommand_job (r : Req) (g : Gate) (eff : State → State) (s : State) (h : ∀ u t, eff u = t → t.job = u.job) :
    (runCommand r g eff s).job = s.job := by
  unfold runCommand; split
  · simp
  · rw [h _ _ rfl]; simp

@[simp] theorem runCommand_prog (r : Req) (g : Gate) (eff : State → State) (s : State) (h : ∀ u t, eff u = t → t.prog = u.prog) :
    (runCommand r g eff s).prog = s.prog := by
  unfold runCommand; split
  · simp
  · rw [h _ _ rfl]; simp

@[simp] theorem runCommand_tim (r : Req) (g : Gate) (eff : State → State) (s : State) (h : ∀ u t, eff u = t → t.tim = u.tim) :
    (runCommand r g eff s).tim = s.tim := by
  unfold runCommand; split
  · simp
  · rw [h _ _ rfl]; simp

@[simp] theorem runCommand_sec (r : Req) (g : Gate) (eff : State → State) (s : State) (h : ∀ u t, eff u = t → t.sec = u.sec) :
    (runCommand r g eff s).sec = s.sec := by
  unfold runCommand; split
  · simp
  · rw [h _ _ rfl]; simp


set_option maxHeartbeats 60000 in
@[simp] theorem dropRegs_frame (d : Nat) (s : State) :
    (dropRegs d s).pending = s.pending ∧ (dropRegs d s).mail = s.mail ∧ (dropRegs d s).dram = s.dram ∧ (dropRegs d s).job = s.job ∧ (dropRegs d s).page = s.page ∧ (dropRegs d s).flow = s.flow ∧ (dropRegs d s).prog = s.prog ∧ (dropRegs d s).sec = s.sec ∧ (dropRegs d s).tim = s.tim ∧ (dropRegs d s).ev = s.ev := by
  unfold dropRegs; simp

set_option maxHeartbeats 60000 in
@[simp] theorem fputStored_frame (f : Field) (v : Nat) (s : State) :
    (fputStored f v s).pending = s.pending ∧ (fputStored f v s).mail = s.mail ∧ (fputStored f v s).dram = s.dram ∧ (fputStored f v s).job = s.job ∧ (fputStored f v s).page = s.page ∧ (fputStored f v s).flow = s.flow ∧ (fputStored f v s).prog = s.prog ∧ (fputStored f v s).sec = s.sec ∧ (fputStored f v s).tim = s.tim ∧ (fputStored f v s).ev = s.ev := by
  unfold fputStored; simp

set_option maxHeartbeats 60000 in
@[simp] theorem restoreRegs_frame (d : Nat) (s : State) :
    (restoreRegs d s).pending = s.pending ∧ (restoreRegs d s).mail = s.mail ∧ (restoreRegs d s).dram = s.dram ∧ (restoreRegs d s).job = s.job ∧ (restoreRegs d s).page = s.page ∧ (restoreRegs d s).flow = s.flow ∧ (restoreRegs d s).prog = s.prog ∧ (restoreRegs d s).sec = s.sec ∧ (restoreRegs d s).tim = s.tim ∧ (restoreRegs d s).ev = s.ev := by
  unfold restoreRegs; simp

set_option maxHeartbeats 60000 in
@[simp] theorem dropDomainBanks_frame (d : Nat) (s : State) :
    (dropDomainBanks d s).pending = s.pending ∧ (dropDomainBanks d s).mail = s.mail ∧ (dropDomainBanks d s).dram = s.dram ∧ (dropDomainBanks d s).job = s.job ∧ (dropDomainBanks d s).page = s.page ∧ (dropDomainBanks d s).flow = s.flow ∧ (dropDomainBanks d s).prog = s.prog ∧ (dropDomainBanks d s).sec = s.sec ∧ (dropDomainBanks d s).tim = s.tim ∧ (dropDomainBanks d s).ev = s.ev := by
  unfold dropDomainBanks; simp

set_option maxHeartbeats 60000 in
@[simp] theorem restoreBank_frame (b : Nat) (s : State) :
    (restoreBank b s).pending = s.pending ∧ (restoreBank b s).mail = s.mail ∧ (restoreBank b s).dram = s.dram ∧ (restoreBank b s).job = s.job ∧ (restoreBank b s).page = s.page ∧ (restoreBank b s).flow = s.flow ∧ (restoreBank b s).prog = s.prog ∧ (restoreBank b s).sec = s.sec ∧ (restoreBank b s).tim = s.tim := by
  unfold restoreBank; simp

set_option maxHeartbeats 60000 in
@[simp] theorem dropPorts_frame (s : State) :
    (dropPorts s).pending = s.pending ∧ (dropPorts s).mail = s.mail ∧ (dropPorts s).dram = s.dram ∧ (dropPorts s).job = s.job ∧ (dropPorts s).page = s.page ∧ (dropPorts s).flow = s.flow ∧ (dropPorts s).prog = s.prog ∧ (dropPorts s).sec = s.sec ∧ (dropPorts s).tim = s.tim := by
  unfold dropPorts; simp

set_option maxHeartbeats 60000 in
@[simp] theorem dropContents_frame (d : Nat) (s : State) :
    (dropContents d s).pending = s.pending ∧ (dropContents d s).mail = s.mail ∧ (dropContents d s).dram = s.dram ∧ (dropContents d s).job = s.job ∧ (dropContents d s).page = s.page ∧ (dropContents d s).flow = s.flow ∧ (dropContents d s).prog = s.prog ∧ (dropContents d s).sec = s.sec := by
  unfold dropContents; (repeat' split) <;> simp

set_option maxHeartbeats 60000 in
@[simp] theorem dropDomain_frame (d : Nat) (s : State) :
    (dropDomain d s).pending = s.pending ∧ (dropDomain d s).mail = s.mail ∧ (dropDomain d s).dram = s.dram ∧ (dropDomain d s).job = s.job ∧ (dropDomain d s).page = s.page ∧ (dropDomain d s).flow = s.flow ∧ (dropDomain d s).prog = s.prog ∧ (dropDomain d s).sec = s.sec := by
  unfold dropDomain; simp

set_option maxHeartbeats 60000 in
@[simp] theorem beginRaise_frame (d : Nat) (s : State) :
    (beginRaise d s).pending = s.pending ∧ (beginRaise d s).mail = s.mail ∧ (beginRaise d s).dram = s.dram ∧ (beginRaise d s).job = s.job ∧ (beginRaise d s).page = s.page ∧ (beginRaise d s).flow = s.flow ∧ (beginRaise d s).prog = s.prog ∧ (beginRaise d s).sec = s.sec ∧ (beginRaise d s).tim = s.tim ∧ (beginRaise d s).ev = s.ev := by
  unfold beginRaise; simp

set_option maxHeartbeats 60000 in
@[simp] theorem raiseDomain_frame (d : Nat) (s : State) :
    (raiseDomain d s).pending = s.pending ∧ (raiseDomain d s).mail = s.mail ∧ (raiseDomain d s).dram = s.dram ∧ (raiseDomain d s).job = s.job ∧ (raiseDomain d s).page = s.page ∧ (raiseDomain d s).flow = s.flow ∧ (raiseDomain d s).prog = s.prog ∧ (raiseDomain d s).sec = s.sec ∧ (raiseDomain d s).tim = s.tim ∧ (raiseDomain d s).ev = s.ev := by
  unfold raiseDomain; (repeat' split) <;> simp

set_option maxHeartbeats 60000 in
@[simp] theorem settleDrop_frame (x0 : Nat) (x1 : Nat) (x2 : State) :
    (settleDrop x0 x1 x2).pending = x2.pending ∧ (settleDrop x0 x1 x2).mail = x2.mail ∧ (settleDrop x0 x1 x2).dram = x2.dram ∧ (settleDrop x0 x1 x2).job = x2.job ∧ (settleDrop x0 x1 x2).page = x2.page ∧ (settleDrop x0 x1 x2).flow = x2.flow ∧ (settleDrop x0 x1 x2).prog = x2.prog ∧ (settleDrop x0 x1 x2).sec = x2.sec := by
  induction x0 generalizing x1 x2 with
  | zero => simp [settleDrop]
  | succ n ih =>
    unfold settleDrop; split
    · dsimp only; split <;> simp [ih]
    · simp

set_option maxHeartbeats 60000 in
@[simp] theorem noteWithdrawn_frame (d client : Nat) (s : State) :
    (noteWithdrawn d client s).pending = s.pending ∧ (noteWithdrawn d client s).mail = s.mail ∧ (noteWithdrawn d client s).dram = s.dram ∧ (noteWithdrawn d client s).job = s.job ∧ (noteWithdrawn d client s).page = s.page ∧ (noteWithdrawn d client s).flow = s.flow ∧ (noteWithdrawn d client s).prog = s.prog ∧ (noteWithdrawn d client s).sec = s.sec ∧ (noteWithdrawn d client s).tim = s.tim ∧ (noteWithdrawn d client s).ev = s.ev := by
  unfold noteWithdrawn; simp

set_option maxHeartbeats 60000 in
@[simp] theorem voteAnew_frame (d client : Nat) (s : State) :
    (voteAnew d client s).pending = s.pending ∧ (voteAnew d client s).mail = s.mail ∧ (voteAnew d client s).dram = s.dram ∧ (voteAnew d client s).job = s.job ∧ (voteAnew d client s).page = s.page ∧ (voteAnew d client s).flow = s.flow ∧ (voteAnew d client s).prog = s.prog ∧ (voteAnew d client s).sec = s.sec ∧ (voteAnew d client s).tim = s.tim ∧ (voteAnew d client s).ev = s.ev := by
  unfold voteAnew; simp

set_option maxHeartbeats 60000 in
@[simp] theorem setVote_frame (d client : Nat) (on : Bool) (s : State) :
    (setVote d client on s).pending = s.pending ∧ (setVote d client on s).mail = s.mail ∧ (setVote d client on s).dram = s.dram ∧ (setVote d client on s).job = s.job ∧ (setVote d client on s).page = s.page ∧ (setVote d client on s).flow = s.flow ∧ (setVote d client on s).prog = s.prog ∧ (setVote d client on s).sec = s.sec := by
  unfold setVote; simp

set_option maxHeartbeats 60000 in
@[simp] theorem setVotes_frame (ds : List Nat) (client : Nat) (on : Bool) (s : State) :
    (setVotes ds client on s).pending = s.pending ∧ (setVotes ds client on s).mail = s.mail ∧ (setVotes ds client on s).dram = s.dram ∧ (setVotes ds client on s).job = s.job ∧ (setVotes ds client on s).page = s.page ∧ (setVotes ds client on s).flow = s.flow ∧ (setVotes ds client on s).prog = s.prog ∧ (setVotes ds client on s).sec = s.sec := by
  unfold setVotes; simp

set_option maxHeartbeats 60000 in
@[simp] theorem firmwareVotes_frame (s : State) :
    (firmwareVotes s).pending = s.pending ∧ (firmwareVotes s).mail = s.mail ∧ (firmwareVotes s).dram = s.dram ∧ (firmwareVotes s).job = s.job ∧ (firmwareVotes s).page = s.page ∧ (firmwareVotes s).flow = s.flow ∧ (firmwareVotes s).prog = s.prog ∧ (firmwareVotes s).sec = s.sec := by
  unfold firmwareVotes; simp

set_option maxHeartbeats 60000 in
@[simp] theorem takePosCfg_frame (s : State) :
    (takePosCfg s).pending = s.pending ∧ (takePosCfg s).mail = s.mail ∧ (takePosCfg s).dram = s.dram ∧ (takePosCfg s).job = s.job ∧ (takePosCfg s).page = s.page ∧ (takePosCfg s).flow = s.flow ∧ (takePosCfg s).prog = s.prog ∧ (takePosCfg s).sec = s.sec ∧ (takePosCfg s).tim = s.tim ∧ (takePosCfg s).ev = s.ev := by
  unfold takePosCfg; simp

set_option maxHeartbeats 60000 in
@[simp] theorem powerGood_frame (d : Nat) (s : State) :
    (powerGood d s).pending = s.pending ∧ (powerGood d s).mail = s.mail ∧ (powerGood d s).dram = s.dram ∧ (powerGood d s).job = s.job ∧ (powerGood d s).page = s.page ∧ (powerGood d s).flow = s.flow ∧ (powerGood d s).prog = s.prog ∧ (powerGood d s).sec = s.sec ∧ (powerGood d s).tim = s.tim := by
  unfold powerGood; simp

set_option maxHeartbeats 60000 in
@[simp] theorem powerFault_frame (d : Nat) (s : State) :
    (powerFault d s).pending = s.pending ∧ (powerFault d s).mail = s.mail ∧ (powerFault d s).dram = s.dram ∧ (powerFault d s).job = s.job ∧ (powerFault d s).page = s.page ∧ (powerFault d s).flow = s.flow ∧ (powerFault d s).prog = s.prog ∧ (powerFault d s).sec = s.sec ∧ (powerFault d s).tim = s.tim := by
  unfold powerFault; simp

set_option maxHeartbeats 60000 in
@[simp] theorem setIncrement_frame (v : Nat) (s : State) :
    (setIncrement v s).pending = s.pending ∧ (setIncrement v s).mail = s.mail ∧ (setIncrement v s).dram = s.dram ∧ (setIncrement v s).job = s.job ∧ (setIncrement v s).page = s.page ∧ (setIncrement v s).flow = s.flow ∧ (setIncrement v s).prog = s.prog ∧ (setIncrement v s).sec = s.sec ∧ (setIncrement v s).tim = s.tim ∧ (setIncrement v s).ev = s.ev := by
  unfold setIncrement; simp

set_option maxHeartbeats 60000 in
@[simp] theorem countWrap_frame (s : State) :
    (countWrap s).pending = s.pending ∧ (countWrap s).mail = s.mail ∧ (countWrap s).dram = s.dram ∧ (countWrap s).job = s.job ∧ (countWrap s).page = s.page ∧ (countWrap s).flow = s.flow ∧ (countWrap s).prog = s.prog ∧ (countWrap s).sec = s.sec ∧ (countWrap s).tim = s.tim ∧ (countWrap s).ev = s.ev := by
  unfold countWrap; simp

set_option maxHeartbeats 60000 in
@[simp] theorem timeTick_frame (s : State) :
    (timeTick s).pending = s.pending ∧ (timeTick s).mail = s.mail ∧ (timeTick s).dram = s.dram ∧ (timeTick s).job = s.job ∧ (timeTick s).page = s.page ∧ (timeTick s).flow = s.flow ∧ (timeTick s).prog = s.prog ∧ (timeTick s).sec = s.sec ∧ (timeTick s).ev = s.ev := by
  unfold timeTick; simp

set_option maxHeartbeats 60000 in
@[simp] theorem runTo_frame (h : Nat) (s : State) :
    (runTo h s).pending = s.pending ∧ (runTo h s).mail = s.mail ∧ (runTo h s).dram = s.dram ∧ (runTo h s).job = s.job ∧ (runTo h s).page = s.page ∧ (runTo h s).flow = s.flow ∧ (runTo h s).prog = s.prog ∧ (runTo h s).sec = s.sec ∧ (runTo h s).ev = s.ev := by
  unfold runTo; simp

set_option maxHeartbeats 60000 in
@[simp] theorem timNsCapture_frame (s : State) :
    (timNsCapture s).pending = s.pending ∧ (timNsCapture s).mail = s.mail ∧ (timNsCapture s).dram = s.dram ∧ (timNsCapture s).job = s.job ∧ (timNsCapture s).page = s.page ∧ (timNsCapture s).flow = s.flow ∧ (timNsCapture s).prog = s.prog ∧ (timNsCapture s).sec = s.sec ∧ (timNsCapture s).tim = s.tim ∧ (timNsCapture s).ev = s.ev := by
  unfold timNsCapture; simp

set_option maxHeartbeats 60000 in
@[simp] theorem readHigh_frame (s : State) :
    (readHigh s).pending = s.pending ∧ (readHigh s).mail = s.mail ∧ (readHigh s).dram = s.dram ∧ (readHigh s).job = s.job ∧ (readHigh s).page = s.page ∧ (readHigh s).flow = s.flow ∧ (readHigh s).prog = s.prog ∧ (readHigh s).sec = s.sec ∧ (readHigh s).ev = s.ev := by
  unfold readHigh; simp

set_option maxHeartbeats 60000 in
@[simp] theorem loadTime_frame (e : Int) (s : State) :
    (loadTime e s).1.pending = s.pending ∧ (loadTime e s).1.mail = s.mail ∧ (loadTime e s).1.dram = s.dram ∧ (loadTime e s).1.job = s.job ∧ (loadTime e s).1.page = s.page ∧ (loadTime e s).1.flow = s.flow ∧ (loadTime e s).1.prog = s.prog ∧ (loadTime e s).1.sec = s.sec := by
  unfold loadTime; simp

set_option maxHeartbeats 60000 in
@[simp] theorem settleSource_frame (s : State) :
    (settleSource s).pending = s.pending ∧ (settleSource s).mail = s.mail ∧ (settleSource s).dram = s.dram ∧ (settleSource s).job = s.job ∧ (settleSource s).page = s.page ∧ (settleSource s).flow = s.flow ∧ (settleSource s).prog = s.prog ∧ (settleSource s).sec = s.sec ∧ (settleSource s).tim = s.tim ∧ (settleSource s).ev = s.ev := by
  unfold settleSource; simp

set_option maxHeartbeats 60000 in
@[simp] theorem setPtpOut_frame (out : Bool) (s : State) :
    (setPtpOut out s).pending = s.pending ∧ (setPtpOut out s).mail = s.mail ∧ (setPtpOut out s).dram = s.dram ∧ (setPtpOut out s).job = s.job ∧ (setPtpOut out s).page = s.page ∧ (setPtpOut out s).flow = s.flow ∧ (setPtpOut out s).prog = s.prog ∧ (setPtpOut out s).sec = s.sec := by
  unfold setPtpOut; simp

set_option maxHeartbeats 60000 in
@[simp] theorem refWindow_frame (adv : Nat) (s : State) :
    (refWindow adv s).pending = s.pending ∧ (refWindow adv s).mail = s.mail ∧ (refWindow adv s).dram = s.dram ∧ (refWindow adv s).job = s.job ∧ (refWindow adv s).page = s.page ∧ (refWindow adv s).flow = s.flow ∧ (refWindow adv s).prog = s.prog ∧ (refWindow adv s).sec = s.sec ∧ (refWindow adv s).ev = s.ev := by
  unfold refWindow; simp

set_option maxHeartbeats 60000 in
@[simp] theorem refLost_frame (s : State) :
    (refLost s).pending = s.pending ∧ (refLost s).mail = s.mail ∧ (refLost s).dram = s.dram ∧ (refLost s).job = s.job ∧ (refLost s).page = s.page ∧ (refLost s).flow = s.flow ∧ (refLost s).prog = s.prog ∧ (refLost s).sec = s.sec := by
  unfold refLost; simp

set_option maxHeartbeats 60000 in
@[simp] theorem ptpTimeout_frame (s : State) :
    (ptpTimeout s).pending = s.pending ∧ (ptpTimeout s).mail = s.mail ∧ (ptpTimeout s).dram = s.dram ∧ (ptpTimeout s).job = s.job ∧ (ptpTimeout s).page = s.page ∧ (ptpTimeout s).flow = s.flow ∧ (ptpTimeout s).prog = s.prog ∧ (ptpTimeout s).sec = s.sec := by
  unfold ptpTimeout; simp

set_option maxHeartbeats 60000 in
@[simp] theorem counterWrap_frame (s : State) :
    (counterWrap s).pending = s.pending ∧ (counterWrap s).mail = s.mail ∧ (counterWrap s).dram = s.dram ∧ (counterWrap s).job = s.job ∧ (counterWrap s).page = s.page ∧ (counterWrap s).flow = s.flow ∧ (counterWrap s).prog = s.prog ∧ (counterWrap s).sec = s.sec ∧ (counterWrap s).ev = s.ev := by
  unfold counterWrap; simp

set_option maxHeartbeats 60000 in
@[simp] theorem timeRateCommand_frame (r : Req) (inc : Nat) (s : State) :
    (timeRateCommand r inc s).pending = s.pending ∧ (timeRateCommand r inc s).dram = s.dram ∧ (timeRateCommand r inc s).job = s.job ∧ (timeRateCommand r inc s).page = s.page ∧ (timeRateCommand r inc s).flow = s.flow ∧ (timeRateCommand r inc s).prog = s.prog ∧ (timeRateCommand r inc s).sec = s.sec ∧ (timeRateCommand r inc s).ev = s.ev := by
  unfold timeRateCommand; simp

set_option maxHeartbeats 60000 in
@[simp] theorem refConfigCommand_frame (r : Req) (flags : Nat) (s : State) :
    (refConfigCommand r flags s).pending = s.pending ∧ (refConfigCommand r flags s).dram = s.dram ∧ (refConfigCommand r flags s).job = s.job ∧ (refConfigCommand r flags s).page = s.page ∧ (refConfigCommand r flags s).flow = s.flow ∧ (refConfigCommand r flags s).prog = s.prog ∧ (refConfigCommand r flags s).sec = s.sec ∧ (refConfigCommand r flags s).ev = s.ev := by
  unfold refConfigCommand; simp

set_option maxHeartbeats 60000 in
@[simp] theorem ptpConfigCommand_frame (r : Req) (flags domain ipv4 : Nat) (s : State) :
    (ptpConfigCommand r flags domain ipv4 s).pending = s.pending ∧ (ptpConfigCommand r flags domain ipv4 s).dram = s.dram ∧ (ptpConfigCommand r flags domain ipv4 s).job = s.job ∧ (ptpConfigCommand r flags domain ipv4 s).page = s.page ∧ (ptpConfigCommand r flags domain ipv4 s).sec = s.sec := by
  unfold ptpConfigCommand; simp

set_option maxHeartbeats 60000 in
@[simp] theorem tsReadCommand_frame (r : Req) (s : State) :
    (tsReadCommand r s).pending = s.pending ∧ (tsReadCommand r s).dram = s.dram ∧ (tsReadCommand r s).job = s.job ∧ (tsReadCommand r s).page = s.page ∧ (tsReadCommand r s).flow = s.flow ∧ (tsReadCommand r s).prog = s.prog ∧ (tsReadCommand r s).sec = s.sec ∧ (tsReadCommand r s).ev = s.ev := by
  unfold tsReadCommand; simp

set_option maxHeartbeats 60000 in
@[simp] theorem ptpSent_frame (seqId : Nat) (s : State) :
    (ptpSent seqId s).pending = s.pending ∧ (ptpSent seqId s).mail = s.mail ∧ (ptpSent seqId s).dram = s.dram ∧ (ptpSent seqId s).job = s.job ∧ (ptpSent seqId s).page = s.page ∧ (ptpSent seqId s).flow = s.flow ∧ (ptpSent seqId s).prog = s.prog ∧ (ptpSent seqId s).sec = s.sec := by
  unfold ptpSent; simp

set_option maxHeartbeats 60000 in
@[simp] theorem sendHoldOn_frame (src id : Nat) (s : State) (p : Port) :
    (sendHoldOn src id s p).pending = s.pending ∧ (sendHoldOn src id s p).mail = s.mail ∧ (sendHoldOn src id s p).dram = s.dram ∧ (sendHoldOn src id s p).job = s.job ∧ (sendHoldOn src id s p).page = s.page ∧ (sendHoldOn src id s p).flow = s.flow ∧ (sendHoldOn src id s p).prog = s.prog ∧ (sendHoldOn src id s p).sec = s.sec ∧ (sendHoldOn src id s p).tim = s.tim ∧ (sendHoldOn src id s p).ev = s.ev := by
  unfold sendHoldOn; simp

set_option maxHeartbeats 60000 in
@[simp] theorem sendHoldSet_frame (s : State) :
    (sendHoldSet s).pending = s.pending ∧ (sendHoldSet s).mail = s.mail ∧ (sendHoldSet s).dram = s.dram ∧ (sendHoldSet s).job = s.job ∧ (sendHoldSet s).page = s.page ∧ (sendHoldSet s).flow = s.flow ∧ (sendHoldSet s).prog = s.prog ∧ (sendHoldSet s).sec = s.sec ∧ (sendHoldSet s).tim = s.tim ∧ (sendHoldSet s).ev = s.ev := by
  unfold sendHoldSet; simp

set_option maxHeartbeats 60000 in
@[simp] theorem cancelResume_frame (s : State) :
    (cancelResume s).pending = s.pending ∧ (cancelResume s).dram = s.dram ∧ (cancelResume s).job = s.job ∧ (cancelResume s).page = s.page ∧ (cancelResume s).prog = s.prog ∧ (cancelResume s).sec = s.sec ∧ (cancelResume s).tim = s.tim := by
  unfold cancelResume; (repeat' split) <;> simp

set_option maxHeartbeats 60000 in
@[simp] theorem requestHold_frame (n : Nat) (s : State) :
    (requestHold n s).pending = s.pending ∧ (requestHold n s).dram = s.dram ∧ (requestHold n s).job = s.job ∧ (requestHold n s).page = s.page ∧ (requestHold n s).prog = s.prog ∧ (requestHold n s).sec = s.sec ∧ (requestHold n s).tim = s.tim := by
  unfold requestHold; (try dsimp only); (repeat' split) <;> simp

set_option maxHeartbeats 60000 in
@[simp] theorem requestHostHold_frame (s : State) :
    (requestHostHold s).pending = s.pending ∧ (requestHostHold s).dram = s.dram ∧ (requestHostHold s).job = s.job ∧ (requestHostHold s).page = s.page ∧ (requestHostHold s).prog = s.prog ∧ (requestHostHold s).sec = s.sec ∧ (requestHostHold s).tim = s.tim := by
  unfold requestHostHold; simp

set_option maxHeartbeats 60000 in
@[simp] theorem clearHostHold_frame (s : State) :
    (clearHostHold s).pending = s.pending ∧ (clearHostHold s).mail = s.mail ∧ (clearHostHold s).dram = s.dram ∧ (clearHostHold s).job = s.job ∧ (clearHostHold s).page = s.page ∧ (clearHostHold s).prog = s.prog ∧ (clearHostHold s).sec = s.sec ∧ (clearHostHold s).tim = s.tim ∧ (clearHostHold s).ev = s.ev := by
  unfold clearHostHold; simp

set_option maxHeartbeats 60000 in
@[simp] theorem closeCheckRun_frame (s : State) :
    (closeCheckRun s).pending = s.pending ∧ (closeCheckRun s).mail = s.mail ∧ (closeCheckRun s).dram = s.dram ∧ (closeCheckRun s).job = s.job ∧ (closeCheckRun s).page = s.page ∧ (closeCheckRun s).flow = s.flow ∧ (closeCheckRun s).prog = s.prog ∧ (closeCheckRun s).sec = s.sec := by
  unfold closeCheckRun; simp

set_option maxHeartbeats 60000 in
@[simp] theorem dropStarts_frame (s : State) :
    (dropStarts s).pending = s.pending ∧ (dropStarts s).dram = s.dram ∧ (dropStarts s).job = s.job ∧ (dropStarts s).page = s.page ∧ (dropStarts s).flow = s.flow ∧ (dropStarts s).prog = s.prog ∧ (dropStarts s).sec = s.sec ∧ (dropStarts s).tim = s.tim ∧ (dropStarts s).ev = s.ev := by
  unfold dropStarts; simp

set_option maxHeartbeats 60000 in
@[simp] theorem endCheckRun_frame (s : State) :
    (endCheckRun s).pending = s.pending ∧ (endCheckRun s).mail = s.mail ∧ (endCheckRun s).dram = s.dram ∧ (endCheckRun s).job = s.job ∧ (endCheckRun s).page = s.page ∧ (endCheckRun s).flow = s.flow ∧ (endCheckRun s).prog = s.prog ∧ (endCheckRun s).sec = s.sec := by
  unfold endCheckRun; simp

end Sys2Proof.Machine
end

