-- ==== Sys2Proof/Laws/Canon0.lean ====
section
/-!
SUPPORT. The canonical form is kept by the operations of these files, one lemma per operation, for the simplifier.
-/

namespace Sys2Proof.Machine

set_option Elab.async false

@[simp] theorem updSlot_canon (n : Fin 16) (f : Slot → Slot) (s : State) (h : s.canonical) : (updSlot n f s).canonical := h
@[simp] theorem cancelRest_canon (s : State) (h : s.canonical) : (cancelRest s).canonical := h
@[simp] theorem takeCurrent_canon (n : Fin 16) (s : State) (h : s.canonical) : (takeCurrent n s).canonical := by
  unfold takeCurrent; split <;> exact h
@[simp] theorem freeCurrent_canon (n : Fin 16) (s : State) (h : s.canonical) : (freeCurrent n s).canonical := by
  unfold freeCurrent; split <;> exact h

@[simp] theorem accept_canon (n : Fin 16) (s : State) (h : s.canonical) : (accept n s).canonical := by
  unfold accept; simp (maxDischargeDepth := 60) [h]

@[simp] theorem complete_canon (n : Fin 16) (st : Status) (p : List Byte) (s : State) (h : s.canonical) : (complete n st p s).canonical := by
  unfold complete; split
  · exact h
  · simp (maxDischargeDepth := 60) [h]

@[simp] theorem completeOpt_canon (n : Option (Fin 16)) (st : Status) (p : List Byte) (s : State) (h : s.canonical) :
    (completeOpt n st p s).canonical := by
  unfold completeOpt; split <;> simp (maxDischargeDepth := 60) [h]

@[simp] theorem raise_canon (n : Nat) (s : State) (h : s.canonical) : (raise n s).canonical := h
@[simp] theorem raiseIf_canon (b : Bool) (n : Nat) (s : State) (h : s.canonical) : (raiseIf b n s).canonical := by
  unfold raiseIf; split <;> simp (maxDischargeDepth := 60) [h]
@[simp] theorem setCause_canon (n : Nat) (s : State) (h : s.canonical) : (setCause n s).canonical := h
@[simp] theorem clearCause_canon (n : Nat) (s : State) (h : s.canonical) : (clearCause n s).canonical := h
@[simp] theorem useFree_canon (s : State) (h : s.canonical) : (useFree s).canonical := h
@[simp] theorem crossPulse_canon (bit : Nat) (b : Bool) (s : State) (h : s.canonical) : (crossPulse bit b s).canonical := by
  unfold crossPulse; dsimp only; (repeat' split) <;> simp (maxDischargeDepth := 60) [h]


set_option maxHeartbeats 80000 in
@[simp] theorem validatePages_canon (lo hi : Nat) (s : State) (hc : s.canonical) :
    (validatePages lo hi s).canonical := by
  unfold validatePages; simp (maxDischargeDepth := 60) [hc]

set_option maxHeartbeats 80000 in
@[simp] theorem invalidatePages_canon (lo hi : Nat) (s : State) (hc : s.canonical) :
    (invalidatePages lo hi s).canonical := by
  unfold invalidatePages; simp (maxDischargeDepth := 60) [hc]

set_option maxHeartbeats 80000 in
@[simp] theorem emptyRegion_canon (n : Nat) (s : State) (hc : s.canonical) :
    (emptyRegion n s).canonical := by
  unfold emptyRegion; simp (maxDischargeDepth := 60) [hc]

set_option maxHeartbeats 80000 in
@[simp] theorem emptyBanks_canon (lo hi : Nat) (s : State) (hc : s.canonical) :
    (emptyBanks lo hi s).canonical := by
  unfold emptyBanks; simp (maxDischargeDepth := 60) [hc]

set_option maxHeartbeats 80000 in
@[simp] theorem fillSram_canon (s : State) (hc : s.canonical) :
    (fillSram s).canonical := by
  unfold fillSram; simp (maxDischargeDepth := 60) [hc]

set_option maxHeartbeats 80000 in
@[simp] theorem eccLog_canon (dram : Bool) (addr result : Nat) (scrub : Bool) (wher port : Nat) (s : State) (hc : s.canonical) :
    (eccLog dram addr result scrub wher port s).canonical := by
  unfold eccLog; simp (maxDischargeDepth := 60) [hc]

set_option maxHeartbeats 80000 in
@[simp] theorem countCorrection_canon (s : State) (hc : s.canonical) :
    (countCorrection s).canonical := by
  unfold countCorrection; simp (maxDischargeDepth := 60) [hc]

set_option maxHeartbeats 80000 in
@[simp] theorem countUncorrectable_canon (s : State) (hc : s.canonical) :
    (countUncorrectable s).canonical := by
  unfold countUncorrectable; simp (maxDischargeDepth := 60) [hc]

set_option maxHeartbeats 80000 in
@[simp] theorem issueCmd_canon (pc : Nat) (c : DramCmd) (s : State) (hc : s.canonical) :
    (issueCmd pc c s).canonical := by
  unfold issueCmd; simp (maxDischargeDepth := 60) [hc]

set_option maxHeartbeats 80000 in
@[simp] theorem precharge_canon (pc bank : Nat) (s : State) (hc : s.canonical) :
    (precharge pc bank s).canonical := by
  unfold precharge; simp (maxDischargeDepth := 60) [hc]

set_option maxHeartbeats 80000 in
@[simp] theorem prechargeAll_canon (pc : Nat) (s : State) (hc : s.canonical) :
    (prechargeAll pc s).canonical := by
  unfold prechargeAll; simp (maxDischargeDepth := 60) [hc]

set_option maxHeartbeats 80000 in
@[simp] theorem leavePowerDown_canon (pc : Nat) (s : State) (hc : s.canonical) :
    (leavePowerDown pc s).canonical := by
  unfold leavePowerDown; simp (maxDischargeDepth := 60) [hc]

set_option maxHeartbeats 80000 in
@[simp] theorem activateRow_canon (pc bank row : Nat) (s : State) (hc : s.canonical) :
    (activateRow pc bank row s).canonical := by
  unfold activateRow; simp (maxDischargeDepth := 60) [hc]

set_option maxHeartbeats 80000 in
@[simp] theorem refreshNeighbours_canon (pc bank row : Nat) (s : State) (hc : s.canonical) :
    (refreshNeighbours pc bank row s).canonical := by
  unfold refreshNeighbours; (try dsimp only); (repeat' split) <;> simp_all (maxDischargeDepth := 60)

set_option maxHeartbeats 80000 in
@[simp] theorem refreshDueLoop_canon (pc bank : Nat) (x0 : Nat) (x1 : State) (hc : x1.canonical) :
    (refreshDueLoop pc bank x0 x1).canonical := by
  induction x0 generalizing x1 with
  | zero => simp (maxDischargeDepth := 60) [refreshDueLoop, hc]
  | succ n ih => unfold refreshDueLoop; (try dsimp only); (repeat' split) <;> simp (maxDischargeDepth := 60) [ih, hc]

set_option maxHeartbeats 80000 in
@[simp] theorem refreshDue_canon (pc bank : Nat) (s : State) (hc : s.canonical) :
    (refreshDue pc bank s).canonical := by
  unfold refreshDue; simp (maxDischargeDepth := 60) [hc]

set_option maxHeartbeats 80000 in
@[simp] theorem openRow_canon (pc bank row : Nat) (s : State) (hc : s.canonical) :
    (openRow pc bank row s).canonical := by
  unfold openRow; simp (maxDischargeDepth := 60) [hc]

set_option maxHeartbeats 80000 in
@[simp] theorem serveUnit_canon (write : Bool) (u : Nat) (s : State) (hc : s.canonical) :
    (serveUnit write u s).canonical := by
  unfold serveUnit; simp (maxDischargeDepth := 60) [hc]

set_option maxHeartbeats 80000 in
@[simp] theorem accessUnit_canon (write : Bool) (u : Nat) (s : State) (hc : s.canonical) :
    (accessUnit write u s).canonical := by
  unfold accessUnit; simp (maxDischargeDepth := 60) [hc]

set_option maxHeartbeats 80000 in
@[simp] theorem countUrgent_canon (p n : Nat) (s : State) (hc : s.canonical) :
    (countUrgent p n s).canonical := by
  unfold countUrgent; simp (maxDischargeDepth := 60) [hc]

set_option maxHeartbeats 80000 in
@[simp] theorem readWord_canon (port w : Nat) (s : State) (hc : s.canonical) :
    (readWord port w s).canonical := by
  unfold readWord; (repeat' split) <;> simp (maxDischargeDepth := 60) [hc]

set_option maxHeartbeats 80000 in
@[simp] theorem readUnit_canon (port u : Nat) (s : State) (hc : s.canonical) :
    (readUnit port u s).canonical := by
  unfold readUnit; (try dsimp only); (repeat' split) <;> simp_all (maxDischargeDepth := 60)

set_option maxHeartbeats 80000 in
@[simp] theorem readUnits_canon (port a n : Nat) (s : State) (hc : s.canonical) :
    (readUnits port a n s).canonical := by
  unfold readUnits; (try dsimp only); (repeat' split) <;> simp_all (maxDischargeDepth := 60)

set_option maxHeartbeats 80000 in
@[simp] theorem memRead_canon (port a n : Nat) (s : State) (hc : s.canonical) :
    (memRead port a n s).1.canonical := by
  unfold memRead; (try dsimp only); (repeat' split) <;> simp (maxDischargeDepth := 60) [hc]

set_option maxHeartbeats 80000 in
@[simp] theorem writeUnit_canon (port a n u : Nat) (s : State) (hc : s.canonical) :
    (writeUnit port a n u s).canonical := by
  unfold writeUnit; simp (maxDischargeDepth := 60) [hc]

set_option maxHeartbeats 80000 in
@[simp] theorem writeUnits_canon (port a n : Nat) (s : State) (hc : s.canonical) :
    (writeUnits port a n s).canonical := by
  unfold writeUnits; (try dsimp only); (repeat' split) <;> simp_all (maxDischargeDepth := 60)

set_option maxHeartbeats 80000 in
@[simp] theorem writeUnitBytes_canon (a : Nat) (bs : List Byte) (u : Nat) (s : State) (hc : s.canonical) :
    (writeUnitBytes a bs u s).canonical := by
  unfold writeUnitBytes; simp (maxDischargeDepth := 60) [hc]

set_option maxHeartbeats 80000 in
@[simp] theorem memWrite_canon (port a : Nat) (bs : List Byte) (s : State) (hc : s.canonical) :
    (memWrite port a bs s).canonical := by
  unfold memWrite; (try dsimp only); (repeat' split) <;> simp_all (maxDischargeDepth := 60)

set_option maxHeartbeats 80000 in
@[simp] theorem fillDram_canon (s : State) (hc : s.canonical) :
    (fillDram s).canonical := by
  exact ⟨rfl, hc.2⟩

set_option maxHeartbeats 80000 in
@[simp] theorem startFill_canon (bist : Bool) (s : State) (hc : s.canonical) :
    (startFill bist s).canonical := by
  unfold startFill; simp (maxDischargeDepth := 60) [hc]

set_option maxHeartbeats 80000 in
@[simp] theorem readSome_canon (port : Nat) (us : List Nat) (s : State) (hc : s.canonical) :
    (readSome port us s).1.canonical := by
  unfold readSome; (try dsimp only); (repeat' split) <;> simp_all (maxDischargeDepth := 60)

set_option maxHeartbeats 80000 in
@[simp] theorem readSram_canon (client w : Nat) (s : State) (hc : s.canonical) :
    (readSram client w s).canonical := by
  unfold readSram; (repeat' split) <;> simp (maxDischargeDepth := 60) [hc]

@[simp] theorem writeSram_canon (w n : Nat) (s : State) (hc : s.canonical) :
    (writeSram w n s).canonical := by
  have h : ((sramRmw s w n).foldl (fun s v => readSram 1 v s) s).canonical :=
    foldl_canon _ _ _ (fun u x t e hu => e ▸ readSram_canon 1 x u hu) hc
  unfold writeSram; dsimp only
  generalize ((sramRmw s w n).foldl (fun s v => readSram 1 v s) s) = u at *
  exact ite_canon _ _ _ h (useFree_canon _ (fput_canon _ _ _ h))

@[simp] theorem runCommand_canon (r : Req) (g : Gate) (eff : State → State) (s : State) (h : s.canonical)
    (he : ∀ u t, eff u = t → u.canonical → t.canonical) : (runCommand r g eff s).canonical := by
  unfold runCommand; split
  · simp (maxDischargeDepth := 60) [h]
  · exact he _ _ rfl (accept_canon _ _ h)


set_option maxHeartbeats 80000 in
@[simp] theorem dropRegs_canon (d : Nat) (s : State) (hc : s.canonical) :
    (dropRegs d s).canonical := by
  unfold dropRegs; simp (maxDischargeDepth := 60) [hc]

set_option maxHeartbeats 80000 in
@[simp] theorem fputStored_canon (f : Field) (v : Nat) (s : State) (hc : s.canonical) :
    (fputStored f v s).canonical := by
  unfold fputStored; simp (maxDischargeDepth := 60) [hc]

set_option maxHeartbeats 80000 in
@[simp] theorem restoreRegs_canon (d : Nat) (s : State) (hc : s.canonical) :
    (restoreRegs d s).canonical := by
  unfold restoreRegs; (try dsimp only); (repeat' split) <;> simp_all (maxDischargeDepth := 60)

set_option maxHeartbeats 80000 in
@[simp] theorem dropDomainBanks_canon (d : Nat) (s : State) (hc : s.canonical) :
    (dropDomainBanks d s).canonical := by
  unfold dropDomainBanks; (try dsimp only); (repeat' split) <;> simp_all (maxDischargeDepth := 60)

set_option maxHeartbeats 80000 in
@[simp] theorem restoreBank_canon (b : Nat) (s : State) (hc : s.canonical) :
    (restoreBank b s).canonical := by
  unfold restoreBank; simp (maxDischargeDepth := 60) [hc]

set_option maxHeartbeats 80000 in
@[simp] theorem dropPorts_canon (s : State) (hc : s.canonical) :
    (dropPorts s).canonical := by
  unfold dropPorts; (try dsimp only); (repeat' split) <;> simp (maxDischargeDepth := 60) [hc]

set_option maxHeartbeats 80000 in
@[simp] theorem dropContents_canon (d : Nat) (s : State) (hc : s.canonical) :
    (dropContents d s).canonical := by
  unfold dropContents; (repeat' split) <;> simp (maxDischargeDepth := 60) [hc]

set_option maxHeartbeats 80000 in
@[simp] theorem dropDomain_canon (d : Nat) (s : State) (hc : s.canonical) :
    (dropDomain d s).canonical := by
  unfold dropDomain; simp (maxDischargeDepth := 60) [hc]

set_option maxHeartbeats 80000 in
@[simp] theorem beginRaise_canon (d : Nat) (s : State) (hc : s.canonical) :
    (beginRaise d s).canonical := by
  unfold beginRaise; simp (maxDischargeDepth := 60) [hc]

set_option maxHeartbeats 80000 in
@[simp] theorem raiseDomain_canon (d : Nat) (s : State) (hc : s.canonical) :
    (raiseDomain d s).canonical := by
  unfold raiseDomain; (repeat' split) <;> simp (maxDischargeDepth := 60) [hc]

set_option maxHeartbeats 80000 in
@[simp] theorem settleDrop_canon (x0 : Nat) (x1 : Nat) (x2 : State) (hc : x2.canonical) :
    (settleDrop x0 x1 x2).canonical := by
  induction x0 generalizing x1 x2 with
  | zero => simp (maxDischargeDepth := 60) [settleDrop, hc]
  | succ n ih =>
    unfold settleDrop; split
    · dsimp only; split <;> simp (maxDischargeDepth := 60) [ih, hc]
    · simp (maxDischargeDepth := 60) [hc]

set_option maxHeartbeats 80000 in
@[simp] theorem noteWithdrawn_canon (d client : Nat) (s : State) (hc : s.canonical) :
    (noteWithdrawn d client s).canonical := by
  unfold noteWithdrawn; simp (maxDischargeDepth := 60) [hc]

set_option maxHeartbeats 80000 in
@[simp] theorem voteAnew_canon (d client : Nat) (s : State) (hc : s.canonical) :
    (voteAnew d client s).canonical := by
  unfold voteAnew; simp (maxDischargeDepth := 60) [hc]

set_option maxHeartbeats 80000 in
@[simp] theorem setVote_canon (d client : Nat) (on : Bool) (s : State) (hc : s.canonical) :
    (setVote d client on s).canonical := by
  unfold setVote; simp (maxDischargeDepth := 60) [hc]

set_option maxHeartbeats 80000 in
@[simp] theorem setVotes_canon (ds : List Nat) (client : Nat) (on : Bool) (s : State) (hc : s.canonical) :
    (setVotes ds client on s).canonical := by
  unfold setVotes; (try dsimp only); (repeat' split) <;> simp_all (maxDischargeDepth := 60)

set_option maxHeartbeats 80000 in
@[simp] theorem firmwareVotes_canon (s : State) (hc : s.canonical) :
    (firmwareVotes s).canonical := by
  unfold firmwareVotes; simp (maxDischargeDepth := 60) [hc]

set_option maxHeartbeats 80000 in
@[simp] theorem takePosCfg_canon (s : State) (hc : s.canonical) :
    (takePosCfg s).canonical := by
  unfold takePosCfg; simp (maxDischargeDepth := 60) [hc]

set_option maxHeartbeats 80000 in
@[simp] theorem powerGood_canon (d : Nat) (s : State) (hc : s.canonical) :
    (powerGood d s).canonical := by
  unfold powerGood; simp (maxDischargeDepth := 60) [hc]

set_option maxHeartbeats 80000 in
@[simp] theorem powerFault_canon (d : Nat) (s : State) (hc : s.canonical) :
    (powerFault d s).canonical := by
  unfold powerFault; simp (maxDischargeDepth := 60) [hc]

set_option maxHeartbeats 80000 in
@[simp] theorem setIncrement_canon (v : Nat) (s : State) (hc : s.canonical) :
    (setIncrement v s).canonical := by
  unfold setIncrement; simp (maxDischargeDepth := 60) [hc]

set_option maxHeartbeats 80000 in
@[simp] theorem countWrap_canon (s : State) (hc : s.canonical) :
    (countWrap s).canonical := by
  unfold countWrap; simp (maxDischargeDepth := 60) [hc]

set_option maxHeartbeats 80000 in
@[simp] theorem timeTick_canon (s : State) (hc : s.canonical) :
    (timeTick s).canonical := by
  unfold timeTick; simp (maxDischargeDepth := 60) [hc]

set_option maxHeartbeats 80000 in
@[simp] theorem runTo_canon (h : Nat) (s : State) (hc : s.canonical) :
    (runTo h s).canonical := by
  unfold runTo; dsimp only; split
  · simp (maxDischargeDepth := 60) [hc]
  · split <;> simp (maxDischargeDepth := 60) [hc]

set_option maxHeartbeats 80000 in
@[simp] theorem timNsCapture_canon (s : State) (hc : s.canonical) :
    (timNsCapture s).canonical := by
  unfold timNsCapture; simp (maxDischargeDepth := 60) [hc]

set_option maxHeartbeats 80000 in
@[simp] theorem readHigh_canon (s : State) (hc : s.canonical) :
    (readHigh s).canonical := by
  unfold readHigh; simp (maxDischargeDepth := 60) [hc]

set_option maxHeartbeats 80000 in
@[simp] theorem loadTime_canon (e : Int) (s : State) (hc : s.canonical) :
    (loadTime e s).1.canonical := by
  unfold loadTime; simp (maxDischargeDepth := 60) [hc]

set_option maxHeartbeats 80000 in
@[simp] theorem settleSource_canon (s : State) (hc : s.canonical) :
    (settleSource s).canonical := by
  unfold settleSource; simp (maxDischargeDepth := 60) [hc]

set_option maxHeartbeats 80000 in
@[simp] theorem setPtpOut_canon (out : Bool) (s : State) (hc : s.canonical) :
    (setPtpOut out s).canonical := by
  unfold setPtpOut; simp (maxDischargeDepth := 60) [hc]

set_option maxHeartbeats 80000 in
@[simp] theorem refWindow_canon (adv : Nat) (s : State) (hc : s.canonical) :
    (refWindow adv s).canonical := by
  unfold refWindow; simp (maxDischargeDepth := 60) [hc]

set_option maxHeartbeats 80000 in
@[simp] theorem refLost_canon (s : State) (hc : s.canonical) :
    (refLost s).canonical := by
  unfold refLost; simp (maxDischargeDepth := 60) [hc]

set_option maxHeartbeats 80000 in
@[simp] theorem ptpTimeout_canon (s : State) (hc : s.canonical) :
    (ptpTimeout s).canonical := by
  unfold ptpTimeout; simp (maxDischargeDepth := 60) [hc]

set_option maxHeartbeats 80000 in
@[simp] theorem counterWrap_canon (s : State) (hc : s.canonical) :
    (counterWrap s).canonical := by
  unfold counterWrap; simp (maxDischargeDepth := 60) [hc]

set_option maxHeartbeats 80000 in
@[simp] theorem timeRateCommand_canon (r : Req) (inc : Nat) (s : State) (hc : s.canonical) :
    (timeRateCommand r inc s).canonical := by
  unfold timeRateCommand; (try dsimp only); (repeat' split) <;> simp_all (maxDischargeDepth := 60)

set_option maxHeartbeats 80000 in
@[simp] theorem refConfigCommand_canon (r : Req) (flags : Nat) (s : State) (hc : s.canonical) :
    (refConfigCommand r flags s).canonical := by
  unfold refConfigCommand; (try dsimp only); (repeat' split) <;> simp_all (maxDischargeDepth := 60)

set_option maxHeartbeats 80000 in
@[simp] theorem ptpConfigCommand_canon (r : Req) (flags domain ipv4 : Nat) (s : State) (hc : s.canonical) :
    (ptpConfigCommand r flags domain ipv4 s).canonical := by
  unfold ptpConfigCommand; (try dsimp only); (repeat' split) <;> simp_all (maxDischargeDepth := 60)

set_option maxHeartbeats 80000 in
@[simp] theorem tsReadCommand_canon (r : Req) (s : State) (hc : s.canonical) :
    (tsReadCommand r s).canonical := by
  unfold tsReadCommand; (try dsimp only); (repeat' split) <;> simp_all (maxDischargeDepth := 60)

set_option maxHeartbeats 80000 in
@[simp] theorem ptpSent_canon (seqId : Nat) (s : State) (hc : s.canonical) :
    (ptpSent seqId s).canonical := by
  unfold ptpSent; simp (maxDischargeDepth := 60) [hc]

set_option maxHeartbeats 80000 in
@[simp] theorem sendHoldOn_canon (src id : Nat) (s : State) (p : Port) (hc : s.canonical) :
    (sendHoldOn src id s p).canonical := by
  unfold sendHoldOn; simp (maxDischargeDepth := 60) [hc]

set_option maxHeartbeats 80000 in
@[simp] theorem sendHoldSet_canon (s : State) (hc : s.canonical) :
    (sendHoldSet s).canonical := by
  unfold sendHoldSet; simp (maxDischargeDepth := 60) [hc]

set_option maxHeartbeats 80000 in
@[simp] theorem cancelResume_canon (s : State) (hc : s.canonical) :
    (cancelResume s).canonical := by
  unfold cancelResume; (repeat' split) <;> simp (maxDischargeDepth := 60) [hc]

set_option maxHeartbeats 80000 in
@[simp] theorem requestHold_canon (n : Nat) (s : State) (hc : s.canonical) :
    (requestHold n s).canonical := by
  unfold requestHold; (try dsimp only); (repeat' split) <;> simp (maxDischargeDepth := 60) [hc]

set_option maxHeartbeats 80000 in
@[simp] theorem requestHostHold_canon (s : State) (hc : s.canonical) :
    (requestHostHold s).canonical := by
  unfold requestHostHold; simp (maxDischargeDepth := 60) [hc]

set_option maxHeartbeats 80000 in
@[simp] theorem clearHostHold_canon (s : State) (hc : s.canonical) :
    (clearHostHold s).canonical := by
  unfold clearHostHold; simp (maxDischargeDepth := 60) [hc]

set_option maxHeartbeats 80000 in
@[simp] theorem closeCheckRun_canon (s : State) (hc : s.canonical) :
    (closeCheckRun s).canonical := by
  unfold closeCheckRun; simp (maxDischargeDepth := 60) [hc]

set_option maxHeartbeats 80000 in
@[simp] theorem dropStarts_canon (s : State) (hc : s.canonical) :
    (dropStarts s).canonical := by
  unfold dropStarts; (try dsimp only); (repeat' split) <;> simp_all (maxDischargeDepth := 60)

set_option maxHeartbeats 80000 in
@[simp] theorem endCheckRun_canon (s : State) (hc : s.canonical) :
    (endCheckRun s).canonical := by
  unfold endCheckRun; simp (maxDischargeDepth := 60) [hc]

end Sys2Proof.Machine
end

