-- ==== Sys2Proof/Laws/Frame1.lean ====
section
/-!
SUPPORT. What the operations of these files leave of the state, one lemma per operation, for the simplifier.
-/

namespace Sys2Proof.Machine

set_option Elab.async false

set_option maxHeartbeats 60000 in
@[simp] theorem probeSample_frame (src : Nat) (vals : List Int) (s : State) (p : Nat) :
    (probeSample src vals s p).pending = s.pending ∧ (probeSample src vals s p).mail = s.mail ∧ (probeSample src vals s p).dram = s.dram ∧ (probeSample src vals s p).job = s.job ∧ (probeSample src vals s p).page = s.page ∧ (probeSample src vals s p).flow = s.flow ∧ (probeSample src vals s p).prog = s.prog ∧ (probeSample src vals s p).sec = s.sec ∧ (probeSample src vals s p).tim = s.tim := by
  unfold probeSample; simp

set_option maxHeartbeats 60000 in
@[simp] theorem sample_frame (src : Nat) (vals : List Int) (s : State) :
    (sample src vals s).pending = s.pending ∧ (sample src vals s).mail = s.mail ∧ (sample src vals s).dram = s.dram ∧ (sample src vals s).job = s.job ∧ (sample src vals s).page = s.page ∧ (sample src vals s).flow = s.flow ∧ (sample src vals s).prog = s.prog ∧ (sample src vals s).sec = s.sec ∧ (sample src vals s).tim = s.tim := by
  unfold sample; simp

set_option maxHeartbeats 60000 in
@[simp] theorem sampleEach_frame (src : Nat) (x0 : Nat) (x1 : State) :
    (sampleEach src x0 x1).pending = x1.pending ∧ (sampleEach src x0 x1).mail = x1.mail ∧ (sampleEach src x0 x1).dram = x1.dram ∧ (sampleEach src x0 x1).job = x1.job ∧ (sampleEach src x0 x1).page = x1.page ∧ (sampleEach src x0 x1).flow = x1.flow ∧ (sampleEach src x0 x1).prog = x1.prog ∧ (sampleEach src x0 x1).sec = x1.sec ∧ (sampleEach src x0 x1).tim = x1.tim := by
  induction x0 generalizing x1 with
  | zero => simp [sampleEach]
  | succ n ih => unfold sampleEach; (try dsimp only); (repeat' split) <;> simp [ih]

set_option maxHeartbeats 60000 in
@[simp] theorem sampleFree_frame (src n : Nat) (s : State) :
    (sampleFree src n s).pending = s.pending ∧ (sampleFree src n s).mail = s.mail ∧ (sampleFree src n s).dram = s.dram ∧ (sampleFree src n s).job = s.job ∧ (sampleFree src n s).page = s.page ∧ (sampleFree src n s).flow = s.flow ∧ (sampleFree src n s).prog = s.prog ∧ (sampleFree src n s).sec = s.sec ∧ (sampleFree src n s).tim = s.tim := by
  unfold sampleFree; simp

set_option maxHeartbeats 60000 in
@[simp] theorem restartCapture_frame (p : Nat) (s : State) :
    (restartCapture p s).pending = s.pending ∧ (restartCapture p s).mail = s.mail ∧ (restartCapture p s).dram = s.dram ∧ (restartCapture p s).job = s.job ∧ (restartCapture p s).page = s.page ∧ (restartCapture p s).flow = s.flow ∧ (restartCapture p s).prog = s.prog ∧ (restartCapture p s).sec = s.sec ∧ (restartCapture p s).tim = s.tim ∧ (restartCapture p s).ev = s.ev := by
  unfold restartCapture; simp

set_option maxHeartbeats 60000 in
@[simp] theorem monConfigCommand_frame (r : Req) (probe source : Nat) (width lo hi : Word) (s : State) :
    (monConfigCommand r probe source width lo hi s).pending = s.pending ∧ (monConfigCommand r probe source width lo hi s).dram = s.dram ∧ (monConfigCommand r probe source width lo hi s).job = s.job ∧ (monConfigCommand r probe source width lo hi s).page = s.page ∧ (monConfigCommand r probe source width lo hi s).flow = s.flow ∧ (monConfigCommand r probe source width lo hi s).prog = s.prog ∧ (monConfigCommand r probe source width lo hi s).sec = s.sec ∧ (monConfigCommand r probe source width lo hi s).tim = s.tim ∧ (monConfigCommand r probe source width lo hi s).ev = s.ev := by
  unfold monConfigCommand; simp

set_option maxHeartbeats 60000 in
@[simp] theorem monReadCommand_frame (r : Req) (probe flags : Nat) (s : State) :
    (monReadCommand r probe flags s).pending = s.pending ∧ (monReadCommand r probe flags s).dram = s.dram ∧ (monReadCommand r probe flags s).job = s.job ∧ (monReadCommand r probe flags s).page = s.page ∧ (monReadCommand r probe flags s).flow = s.flow ∧ (monReadCommand r probe flags s).prog = s.prog ∧ (monReadCommand r probe flags s).sec = s.sec ∧ (monReadCommand r probe flags s).tim = s.tim ∧ (monReadCommand r probe flags s).ev = s.ev := by
  unfold monReadCommand; simp

set_option maxHeartbeats 60000 in
@[simp] theorem probeWrite_frame (p : Nat) (reg : Nat) (value : Word) (s : State) :
    (probeWrite p reg value s).pending = s.pending ∧ (probeWrite p reg value s).mail = s.mail ∧ (probeWrite p reg value s).dram = s.dram ∧ (probeWrite p reg value s).job = s.job ∧ (probeWrite p reg value s).page = s.page ∧ (probeWrite p reg value s).flow = s.flow ∧ (probeWrite p reg value s).prog = s.prog ∧ (probeWrite p reg value s).sec = s.sec ∧ (probeWrite p reg value s).tim = s.tim ∧ (probeWrite p reg value s).ev = s.ev := by
  unfold probeWrite; (repeat' split) <;> simp

set_option maxHeartbeats 60000 in
@[simp] theorem absShowLost_frame (s : State) :
    (absShowLost s).pending = s.pending ∧ (absShowLost s).mail = s.mail ∧ (absShowLost s).dram = s.dram ∧ (absShowLost s).job = s.job ∧ (absShowLost s).page = s.page ∧ (absShowLost s).flow = s.flow ∧ (absShowLost s).prog = s.prog ∧ (absShowLost s).sec = s.sec ∧ (absShowLost s).tim = s.tim ∧ (absShowLost s).ev = s.ev := by
  unfold absShowLost; (repeat' split) <;> simp

set_option maxHeartbeats 60000 in
@[simp] theorem absReserve_frame (s : State) :
    (absReserve s).pending = s.pending ∧ (absReserve s).dram = s.dram ∧ (absReserve s).job = s.job ∧ (absReserve s).page = s.page ∧ (absReserve s).prog = s.prog ∧ (absReserve s).sec = s.sec ∧ (absReserve s).tim = s.tim := by
  unfold absReserve; simp

set_option maxHeartbeats 60000 in
@[simp] theorem absSync_frame (s : State) :
    (absSync s).pending = s.pending ∧ (absSync s).dram = s.dram ∧ (absSync s).job = s.job ∧ (absSync s).page = s.page ∧ (absSync s).prog = s.prog ∧ (absSync s).sec = s.sec ∧ (absSync s).tim = s.tim := by
  unfold absSync; simp

set_option maxHeartbeats 60000 in
@[simp] theorem absWrite_frame (e : AbsEntry) (s : State) :
    (absWrite e s).pending = s.pending ∧ (absWrite e s).mail = s.mail ∧ (absWrite e s).dram = s.dram ∧ (absWrite e s).job = s.job ∧ (absWrite e s).page = s.page ∧ (absWrite e s).flow = s.flow ∧ (absWrite e s).prog = s.prog ∧ (absWrite e s).sec = s.sec ∧ (absWrite e s).tim = s.tim := by
  unfold absWrite; simp

set_option maxHeartbeats 60000 in
@[simp] theorem absCover_frame (lo e : AbsEntry) (s : State) :
    (absCover lo e s).pending = s.pending ∧ (absCover lo e s).mail = s.mail ∧ (absCover lo e s).dram = s.dram ∧ (absCover lo e s).job = s.job ∧ (absCover lo e s).page = s.page ∧ (absCover lo e s).flow = s.flow ∧ (absCover lo e s).prog = s.prog ∧ (absCover lo e s).sec = s.sec ∧ (absCover lo e s).tim = s.tim ∧ (absCover lo e s).ev = s.ev := by
  unfold absCover; simp

set_option maxHeartbeats 60000 in
@[simp] theorem absPlace_frame (e : AbsEntry) (s : State) :
    (absPlace e s).pending = s.pending ∧ (absPlace e s).mail = s.mail ∧ (absPlace e s).dram = s.dram ∧ (absPlace e s).job = s.job ∧ (absPlace e s).page = s.page ∧ (absPlace e s).flow = s.flow ∧ (absPlace e s).prog = s.prog ∧ (absPlace e s).sec = s.sec ∧ (absPlace e s).tim = s.tim := by
  unfold absPlace; (repeat' split) <;> simp

set_option maxHeartbeats 60000 in
@[simp] theorem absMakeRoom_frame (room : Nat) (x0 : Nat) (x1 : State) :
    (absMakeRoom room x0 x1).pending = x1.pending ∧ (absMakeRoom room x0 x1).mail = x1.mail ∧ (absMakeRoom room x0 x1).dram = x1.dram ∧ (absMakeRoom room x0 x1).job = x1.job ∧ (absMakeRoom room x0 x1).page = x1.page ∧ (absMakeRoom room x0 x1).flow = x1.flow ∧ (absMakeRoom room x0 x1).prog = x1.prog ∧ (absMakeRoom room x0 x1).sec = x1.sec ∧ (absMakeRoom room x0 x1).tim = x1.tim := by
  induction x0 generalizing x1 with
  | zero => simp [absMakeRoom]
  | succ n ih => unfold absMakeRoom; (try dsimp only); (repeat' split) <;> simp [ih]

set_option maxHeartbeats 60000 in
@[simp] theorem absAppend_frame (e : AbsEntry) (s : State) :
    (absAppend e s).pending = s.pending ∧ (absAppend e s).mail = s.mail ∧ (absAppend e s).dram = s.dram ∧ (absAppend e s).job = s.job ∧ (absAppend e s).page = s.page ∧ (absAppend e s).flow = s.flow ∧ (absAppend e s).prog = s.prog ∧ (absAppend e s).sec = s.sec ∧ (absAppend e s).tim = s.tim := by
  unfold absAppend; simp

set_option maxHeartbeats 60000 in
@[simp] theorem absFlushWaiting_frame (x0 : Nat) (x1 : State) :
    (absFlushWaiting x0 x1).pending = x1.pending ∧ (absFlushWaiting x0 x1).mail = x1.mail ∧ (absFlushWaiting x0 x1).dram = x1.dram ∧ (absFlushWaiting x0 x1).job = x1.job ∧ (absFlushWaiting x0 x1).page = x1.page ∧ (absFlushWaiting x0 x1).flow = x1.flow ∧ (absFlushWaiting x0 x1).prog = x1.prog ∧ (absFlushWaiting x0 x1).sec = x1.sec ∧ (absFlushWaiting x0 x1).tim = x1.tim := by
  induction x0 generalizing x1 with
  | zero => simp [absFlushWaiting]
  | succ n ih => unfold absFlushWaiting; (try dsimp only); (repeat' split) <;> simp [ih]

set_option maxHeartbeats 60000 in
@[simp] theorem absFlushLost_frame (s : State) :
    (absFlushLost s).pending = s.pending ∧ (absFlushLost s).mail = s.mail ∧ (absFlushLost s).dram = s.dram ∧ (absFlushLost s).job = s.job ∧ (absFlushLost s).page = s.page ∧ (absFlushLost s).flow = s.flow ∧ (absFlushLost s).prog = s.prog ∧ (absFlushLost s).sec = s.sec ∧ (absFlushLost s).tim = s.tim := by
  unfold absFlushLost; (repeat' split) <;> simp

set_option maxHeartbeats 60000 in
@[simp] theorem absFlush_frame (s : State) :
    (absFlush s).pending = s.pending ∧ (absFlush s).mail = s.mail ∧ (absFlush s).dram = s.dram ∧ (absFlush s).job = s.job ∧ (absFlush s).page = s.page ∧ (absFlush s).flow = s.flow ∧ (absFlush s).prog = s.prog ∧ (absFlush s).sec = s.sec ∧ (absFlush s).tim = s.tim := by
  unfold absFlush; simp

set_option maxHeartbeats 60000 in
@[simp] theorem absCloseWhere_frame (p : AbsEntry → Bool) (s : State) :
    (absCloseWhere p s).pending = s.pending ∧ (absCloseWhere p s).mail = s.mail ∧ (absCloseWhere p s).dram = s.dram ∧ (absCloseWhere p s).job = s.job ∧ (absCloseWhere p s).page = s.page ∧ (absCloseWhere p s).flow = s.flow ∧ (absCloseWhere p s).prog = s.prog ∧ (absCloseWhere p s).sec = s.sec ∧ (absCloseWhere p s).tim = s.tim := by
  unfold absCloseWhere; simp

set_option maxHeartbeats 60000 in
@[simp] theorem absOpen_frame (e : AbsEntry) (s : State) :
    (absOpen e s).pending = s.pending ∧ (absOpen e s).mail = s.mail ∧ (absOpen e s).dram = s.dram ∧ (absOpen e s).job = s.job ∧ (absOpen e s).page = s.page ∧ (absOpen e s).flow = s.flow ∧ (absOpen e s).prog = s.prog ∧ (absOpen e s).sec = s.sec ∧ (absOpen e s).tim = s.tim := by
  unfold absOpen; simp

set_option maxHeartbeats 60000 in
@[simp] theorem absJoin_frame (e : AbsEntry) (s : State) :
    (absJoin e s).pending = s.pending ∧ (absJoin e s).mail = s.mail ∧ (absJoin e s).dram = s.dram ∧ (absJoin e s).job = s.job ∧ (absJoin e s).page = s.page ∧ (absJoin e s).flow = s.flow ∧ (absJoin e s).prog = s.prog ∧ (absJoin e s).sec = s.sec ∧ (absJoin e s).tim = s.tim := by
  unfold absJoin; simp

set_option maxHeartbeats 60000 in
@[simp] theorem absForm_frame (e : AbsEntry) (s : State) :
    (absForm e s).pending = s.pending ∧ (absForm e s).mail = s.mail ∧ (absForm e s).dram = s.dram ∧ (absForm e s).job = s.job ∧ (absForm e s).page = s.page ∧ (absForm e s).flow = s.flow ∧ (absForm e s).prog = s.prog ∧ (absForm e s).sec = s.sec ∧ (absForm e s).tim = s.tim := by
  unfold absForm; (repeat' split) <;> simp

set_option maxHeartbeats 60000 in
@[simp] theorem countClips_frame (sh : Shot) (s : State) :
    (countClips sh s).pending = s.pending ∧ (countClips sh s).mail = s.mail ∧ (countClips sh s).dram = s.dram ∧ (countClips sh s).job = s.job ∧ (countClips sh s).page = s.page ∧ (countClips sh s).flow = s.flow ∧ (countClips sh s).prog = s.prog ∧ (countClips sh s).sec = s.sec ∧ (countClips sh s).tim = s.tim ∧ (countClips sh s).ev = s.ev := by
  unfold countClips; simp

set_option maxHeartbeats 60000 in
@[simp] theorem absFormShot_frame (sh : Shot) (s : State) :
    (absFormShot sh s).pending = s.pending ∧ (absFormShot sh s).mail = s.mail ∧ (absFormShot sh s).dram = s.dram ∧ (absFormShot sh s).job = s.job ∧ (absFormShot sh s).page = s.page ∧ (absFormShot sh s).flow = s.flow ∧ (absFormShot sh s).prog = s.prog ∧ (absFormShot sh s).sec = s.sec ∧ (absFormShot sh s).tim = s.tim := by
  unfold absFormShot; simp

set_option maxHeartbeats 60000 in
@[simp] theorem absSettle_frame (sh : Shot) (s : State) :
    (absSettle sh s).pending = s.pending ∧ (absSettle sh s).dram = s.dram ∧ (absSettle sh s).job = s.job ∧ (absSettle sh s).page = s.page ∧ (absSettle sh s).prog = s.prog ∧ (absSettle sh s).sec = s.sec ∧ (absSettle sh s).tim = s.tim := by
  unfold absSettle; simp

set_option maxHeartbeats 60000 in
@[simp] theorem absLogRows_frame (layer stripe lastShot tag : Nat) (psetSeq : Word) (a b : Nat) (s : State) :
    (absLogRows layer stripe lastShot tag psetSeq a b s).pending = s.pending ∧ (absLogRows layer stripe lastShot tag psetSeq a b s).dram = s.dram ∧ (absLogRows layer stripe lastShot tag psetSeq a b s).job = s.job ∧ (absLogRows layer stripe lastShot tag psetSeq a b s).page = s.page ∧ (absLogRows layer stripe lastShot tag psetSeq a b s).prog = s.prog ∧ (absLogRows layer stripe lastShot tag psetSeq a b s).sec = s.sec ∧ (absLogRows layer stripe lastShot tag psetSeq a b s).tim = s.tim := by
  unfold absLogRows; simp

set_option maxHeartbeats 60000 in
@[simp] theorem absLastShot_frame (sh : Shot) (s : State) :
    (absLastShot sh s).pending = s.pending ∧ (absLastShot sh s).dram = s.dram ∧ (absLastShot sh s).job = s.job ∧ (absLastShot sh s).page = s.page ∧ (absLastShot sh s).prog = s.prog ∧ (absLastShot sh s).sec = s.sec ∧ (absLastShot sh s).tim = s.tim := by
  unfold absLastShot; simp

set_option maxHeartbeats 60000 in
@[simp] theorem absLeave_frame (s : State) :
    (absLeave s).pending = s.pending ∧ (absLeave s).dram = s.dram ∧ (absLeave s).job = s.job ∧ (absLeave s).page = s.page ∧ (absLeave s).prog = s.prog ∧ (absLeave s).sec = s.sec ∧ (absLeave s).tim = s.tim := by
  unfold absLeave; simp

set_option maxHeartbeats 60000 in
@[simp] theorem absStripeEnd_frame (s : State) :
    (absStripeEnd s).pending = s.pending ∧ (absStripeEnd s).dram = s.dram ∧ (absStripeEnd s).job = s.job ∧ (absStripeEnd s).page = s.page ∧ (absStripeEnd s).prog = s.prog ∧ (absStripeEnd s).sec = s.sec ∧ (absStripeEnd s).tim = s.tim := by
  unfold absStripeEnd; simp

set_option maxHeartbeats 60000 in
@[simp] theorem absReconcile_frame (m : Makeup) (s : State) :
    (absReconcile m s).pending = s.pending ∧ (absReconcile m s).mail = s.mail ∧ (absReconcile m s).dram = s.dram ∧ (absReconcile m s).job = s.job ∧ (absReconcile m s).page = s.page ∧ (absReconcile m s).flow = s.flow ∧ (absReconcile m s).prog = s.prog ∧ (absReconcile m s).sec = s.sec ∧ (absReconcile m s).tim = s.tim := by
  unfold absReconcile; simp

set_option maxHeartbeats 60000 in
@[simp] theorem absWaive_frame (layer : Nat) (s : State) :
    (absWaive layer s).pending = s.pending ∧ (absWaive layer s).mail = s.mail ∧ (absWaive layer s).dram = s.dram ∧ (absWaive layer s).job = s.job ∧ (absWaive layer s).page = s.page ∧ (absWaive layer s).flow = s.flow ∧ (absWaive layer s).prog = s.prog ∧ (absWaive layer s).sec = s.sec ∧ (absWaive layer s).tim = s.tim ∧ (absWaive layer s).ev = s.ev := by
  unfold absWaive; simp

set_option maxHeartbeats 60000 in
@[simp] theorem ackWalk_frame (x0 : Nat) (x1 : State) :
    (ackWalk x0 x1).pending = x1.pending ∧ (ackWalk x0 x1).mail = x1.mail ∧ (ackWalk x0 x1).dram = x1.dram ∧ (ackWalk x0 x1).job = x1.job ∧ (ackWalk x0 x1).page = x1.page ∧ (ackWalk x0 x1).flow = x1.flow ∧ (ackWalk x0 x1).prog = x1.prog ∧ (ackWalk x0 x1).sec = x1.sec ∧ (ackWalk x0 x1).tim = x1.tim ∧ (ackWalk x0 x1).ev = x1.ev := by
  induction x0 generalizing x1 with
  | zero => simp [ackWalk]
  | succ n ih => unfold ackWalk; (try dsimp only); (repeat' split) <;> simp [ih]

set_option maxHeartbeats 60000 in
@[simp] theorem updChan_frame (n : Nat) (f : Chan → Chan) (s : State) :
    (updChan n f s).pending = s.pending ∧ (updChan n f s).mail = s.mail ∧ (updChan n f s).dram = s.dram ∧ (updChan n f s).job = s.job ∧ (updChan n f s).page = s.page ∧ (updChan n f s).flow = s.flow ∧ (updChan n f s).prog = s.prog ∧ (updChan n f s).sec = s.sec ∧ (updChan n f s).tim = s.tim ∧ (updChan n f s).ev = s.ev := by
  unfold updChan; simp

set_option maxHeartbeats 60000 in
@[simp] theorem putWords_frame (base : Nat) (w : SegWords) (s : State) :
    (putWords base w s).pending = s.pending ∧ (putWords base w s).mail = s.mail ∧ (putWords base w s).dram = s.dram ∧ (putWords base w s).job = s.job ∧ (putWords base w s).page = s.page ∧ (putWords base w s).flow = s.flow ∧ (putWords base w s).prog = s.prog ∧ (putWords base w s).sec = s.sec ∧ (putWords base w s).tim = s.tim ∧ (putWords base w s).ev = s.ev := by
  unfold putWords; simp

set_option maxHeartbeats 60000 in
@[simp] theorem cancelCommit_frame (n : Nat) (s : State) :
    (cancelCommit n s).pending = s.pending ∧ (cancelCommit n s).mail = s.mail ∧ (cancelCommit n s).dram = s.dram ∧ (cancelCommit n s).job = s.job ∧ (cancelCommit n s).page = s.page ∧ (cancelCommit n s).flow = s.flow ∧ (cancelCommit n s).prog = s.prog ∧ (cancelCommit n s).sec = s.sec ∧ (cancelCommit n s).tim = s.tim ∧ (cancelCommit n s).ev = s.ev := by
  unfold cancelCommit; simp

set_option maxHeartbeats 60000 in
@[simp] theorem startProfile_frame (n : Nat) (g : Segment) (state : Nat) (s : State) :
    (startProfile n g state s).pending = s.pending ∧ (startProfile n g state s).mail = s.mail ∧ (startProfile n g state s).dram = s.dram ∧ (startProfile n g state s).job = s.job ∧ (startProfile n g state s).page = s.page ∧ (startProfile n g state s).flow = s.flow ∧ (startProfile n g state s).prog = s.prog ∧ (startProfile n g state s).sec = s.sec ∧ (startProfile n g state s).tim = s.tim ∧ (startProfile n g state s).ev = s.ev := by
  unfold startProfile; simp

set_option maxHeartbeats 60000 in
@[simp] theorem comeToRest_frame (n : Nat) (p : Dy) (s : State) :
    (comeToRest n p s).pending = s.pending ∧ (comeToRest n p s).mail = s.mail ∧ (comeToRest n p s).dram = s.dram ∧ (comeToRest n p s).job = s.job ∧ (comeToRest n p s).page = s.page ∧ (comeToRest n p s).flow = s.flow ∧ (comeToRest n p s).prog = s.prog ∧ (comeToRest n p s).sec = s.sec ∧ (comeToRest n p s).tim = s.tim ∧ (comeToRest n p s).ev = s.ev := by
  unfold comeToRest; simp

set_option maxHeartbeats 60000 in
@[simp] theorem stopChan_frame (n : Nat) (s : State) :
    (stopChan n s).pending = s.pending ∧ (stopChan n s).mail = s.mail ∧ (stopChan n s).dram = s.dram ∧ (stopChan n s).job = s.job ∧ (stopChan n s).page = s.page ∧ (stopChan n s).flow = s.flow ∧ (stopChan n s).prog = s.prog ∧ (stopChan n s).sec = s.sec ∧ (stopChan n s).tim = s.tim ∧ (stopChan n s).ev = s.ev := by
  unfold stopChan; (try dsimp only); (repeat' split) <;> simp

set_option maxHeartbeats 60000 in
@[simp] theorem stopStage_frame (s : State) :
    (stopStage s).pending = s.pending ∧ (stopStage s).mail = s.mail ∧ (stopStage s).dram = s.dram ∧ (stopStage s).job = s.job ∧ (stopStage s).page = s.page ∧ (stopStage s).flow = s.flow ∧ (stopStage s).prog = s.prog ∧ (stopStage s).sec = s.sec ∧ (stopStage s).tim = s.tim ∧ (stopStage s).ev = s.ev := by
  unfold stopStage; simp

set_option maxHeartbeats 60000 in
@[simp] theorem motionFault_frame (s : State) :
    (motionFault s).pending = s.pending ∧ (motionFault s).dram = s.dram ∧ (motionFault s).job = s.job ∧ (motionFault s).page = s.page ∧ (motionFault s).prog = s.prog ∧ (motionFault s).sec = s.sec ∧ (motionFault s).tim = s.tim := by
  unfold motionFault; simp

set_option maxHeartbeats 60000 in
@[simp] theorem rejectSegment_frame (n cause : Nat) (s : State) :
    (rejectSegment n cause s).pending = s.pending ∧ (rejectSegment n cause s).dram = s.dram ∧ (rejectSegment n cause s).job = s.job ∧ (rejectSegment n cause s).page = s.page ∧ (rejectSegment n cause s).prog = s.prog ∧ (rejectSegment n cause s).sec = s.sec ∧ (rejectSegment n cause s).tim = s.tim := by
  unfold rejectSegment; simp

set_option maxHeartbeats 60000 in
@[simp] theorem motionCommit_frame (n : Nat) (byHost : Bool) (s : State) :
    (motionCommit n byHost s).pending = s.pending ∧ (motionCommit n byHost s).dram = s.dram ∧ (motionCommit n byHost s).job = s.job ∧ (motionCommit n byHost s).page = s.page ∧ (motionCommit n byHost s).prog = s.prog ∧ (motionCommit n byHost s).sec = s.sec ∧ (motionCommit n byHost s).tim = s.tim := by
  unfold motionCommit; simp

set_option maxHeartbeats 60000 in
@[simp] theorem shadowWrite_frame (n word : Nat) (high : Bool) (v : Word) (s : State) :
    (shadowWrite n word high v s).pending = s.pending ∧ (shadowWrite n word high v s).mail = s.mail ∧ (shadowWrite n word high v s).dram = s.dram ∧ (shadowWrite n word high v s).job = s.job ∧ (shadowWrite n word high v s).page = s.page ∧ (shadowWrite n word high v s).flow = s.flow ∧ (shadowWrite n word high v s).prog = s.prog ∧ (shadowWrite n word high v s).sec = s.sec ∧ (shadowWrite n word high v s).tim = s.tim ∧ (shadowWrite n word high v s).ev = s.ev := by
  unfold shadowWrite; simp

set_option maxHeartbeats 60000 in
@[simp] theorem planComplete_frame (n : Nat) (s : State) :
    (planComplete n s).pending = s.pending ∧ (planComplete n s).dram = s.dram ∧ (planComplete n s).job = s.job ∧ (planComplete n s).page = s.page ∧ (planComplete n s).prog = s.prog ∧ (planComplete n s).sec = s.sec ∧ (planComplete n s).tim = s.tim := by
  unfold planComplete; (try dsimp only); (repeat' split) <;> simp

set_option maxHeartbeats 60000 in
@[simp] theorem swapSegment_frame (n : Nat) (g : Segment) (start : Dy) (s : State) :
    (swapSegment n g start s).pending = s.pending ∧ (swapSegment n g start s).mail = s.mail ∧ (swapSegment n g start s).dram = s.dram ∧ (swapSegment n g start s).job = s.job ∧ (swapSegment n g start s).page = s.page ∧ (swapSegment n g start s).flow = s.flow ∧ (swapSegment n g start s).prog = s.prog ∧ (swapSegment n g start s).sec = s.sec ∧ (swapSegment n g start s).tim = s.tim ∧ (swapSegment n g start s).ev = s.ev := by
  unfold swapSegment; simp

set_option maxHeartbeats 60000 in
@[simp] theorem turnDir_frame (n : Nat) (g : Segment) (t : Dy) (s : State) :
    (turnDir n g t s).pending = s.pending ∧ (turnDir n g t s).mail = s.mail ∧ (turnDir n g t s).dram = s.dram ∧ (turnDir n g t s).job = s.job ∧ (turnDir n g t s).page = s.page ∧ (turnDir n g t s).flow = s.flow ∧ (turnDir n g t s).prog = s.prog ∧ (turnDir n g t s).sec = s.sec ∧ (turnDir n g t s).tim = s.tim ∧ (turnDir n g t s).ev = s.ev := by
  unfold turnDir; simp

set_option maxHeartbeats 60000 in
@[simp] theorem firmwareSegment_frame (n : Nat) (w : SegWords) (s : State) :
    (firmwareSegment n w s).pending = s.pending ∧ (firmwareSegment n w s).dram = s.dram ∧ (firmwareSegment n w s).job = s.job ∧ (firmwareSegment n w s).page = s.page ∧ (firmwareSegment n w s).prog = s.prog ∧ (firmwareSegment n w s).sec = s.sec ∧ (firmwareSegment n w s).tim = s.tim := by
  unfold firmwareSegment; simp

set_option maxHeartbeats 60000 in
@[simp] theorem positionStage_frame (s : State) :
    (positionStage s).pending = s.pending ∧ (positionStage s).dram = s.dram ∧ (positionStage s).job = s.job ∧ (positionStage s).page = s.page ∧ (positionStage s).prog = s.prog ∧ (positionStage s).sec = s.sec ∧ (positionStage s).tim = s.tim := by
  unfold positionStage; (repeat' split) <;> simp

set_option maxHeartbeats 60000 in
@[simp] theorem commitStep_frame (n k : Nat) (w : SegWords) (s : State) :
    (commitStep n k w s).pending = s.pending ∧ (commitStep n k w s).dram = s.dram ∧ (commitStep n k w s).job = s.job ∧ (commitStep n k w s).page = s.page ∧ (commitStep n k w s).prog = s.prog ∧ (commitStep n k w s).sec = s.sec ∧ (commitStep n k w s).tim = s.tim := by
  unfold commitStep; simp

set_option maxHeartbeats 60000 in
@[simp] theorem positionLocate_frame (s : State) :
    (positionLocate s).pending = s.pending ∧ (positionLocate s).dram = s.dram ∧ (positionLocate s).job = s.job ∧ (positionLocate s).page = s.page ∧ (positionLocate s).prog = s.prog ∧ (positionLocate s).sec = s.sec ∧ (positionLocate s).tim = s.tim := by
  unfold positionLocate; (repeat' split) <;> simp

set_option maxHeartbeats 60000 in
@[simp] theorem choreoStarts_frame (n : Nat) (s : State) :
    (choreoStarts n s).pending = s.pending ∧ (choreoStarts n s).dram = s.dram ∧ (choreoStarts n s).job = s.job ∧ (choreoStarts n s).page = s.page ∧ (choreoStarts n s).prog = s.prog ∧ (choreoStarts n s).sec = s.sec ∧ (choreoStarts n s).tim = s.tim := by
  unfold choreoStarts; (repeat' split) <;> simp

set_option maxHeartbeats 60000 in
@[simp] theorem choreoFollows_frame (n : Nat) (s : State) :
    (choreoFollows n s).pending = s.pending ∧ (choreoFollows n s).dram = s.dram ∧ (choreoFollows n s).job = s.job ∧ (choreoFollows n s).page = s.page ∧ (choreoFollows n s).sec = s.sec ∧ (choreoFollows n s).tim = s.tim := by
  unfold choreoFollows; (try dsimp only); (repeat' split) <;> simp

set_option maxHeartbeats 60000 in
@[simp] theorem choreoRests_frame (s : State) :
    (choreoRests s).pending = s.pending ∧ (choreoRests s).mail = s.mail ∧ (choreoRests s).dram = s.dram ∧ (choreoRests s).job = s.job ∧ (choreoRests s).page = s.page ∧ (choreoRests s).flow = s.flow ∧ (choreoRests s).prog = s.prog ∧ (choreoRests s).sec = s.sec ∧ (choreoRests s).tim = s.tim ∧ (choreoRests s).ev = s.ev := by
  unfold choreoRests; simp

set_option maxHeartbeats 60000 in
@[simp] theorem startAtTick_frame (n : Nat) (s : State) :
    (startAtTick n s).pending = s.pending ∧ (startAtTick n s).dram = s.dram ∧ (startAtTick n s).job = s.job ∧ (startAtTick n s).page = s.page ∧ (startAtTick n s).prog = s.prog ∧ (startAtTick n s).sec = s.sec ∧ (startAtTick n s).tim = s.tim := by
  unfold startAtTick; (try dsimp only); (repeat' split) <;> simp

set_option maxHeartbeats 60000 in
@[simp] theorem segmentNext_frame (n : Nat) (own : Bool) (q : Segment) (t : Dy) (s : State) :
    (segmentNext n own q t s).pending = s.pending ∧ (segmentNext n own q t s).dram = s.dram ∧ (segmentNext n own q t s).job = s.job ∧ (segmentNext n own q t s).page = s.page ∧ (segmentNext n own q t s).sec = s.sec ∧ (segmentNext n own q t s).tim = s.tim := by
  unfold segmentNext; simp

set_option maxHeartbeats 60000 in
@[simp] theorem segmentLast_frame (n : Nat) (own : Bool) (g : Segment) (s : State) :
    (segmentLast n own g s).pending = s.pending ∧ (segmentLast n own g s).dram = s.dram ∧ (segmentLast n own g s).job = s.job ∧ (segmentLast n own g s).page = s.page ∧ (segmentLast n own g s).prog = s.prog ∧ (segmentLast n own g s).sec = s.sec ∧ (segmentLast n own g s).tim = s.tim := by
  unfold segmentLast; simp

set_option maxHeartbeats 60000 in
@[simp] theorem segmentOver_frame (n : Nat) (g : Segment) (s : State) :
    (segmentOver n g s).pending = s.pending ∧ (segmentOver n g s).dram = s.dram ∧ (segmentOver n g s).job = s.job ∧ (segmentOver n g s).page = s.page ∧ (segmentOver n g s).sec = s.sec ∧ (segmentOver n g s).tim = s.tim := by
  unfold segmentOver; (repeat' split) <;> simp

set_option maxHeartbeats 60000 in
@[simp] theorem segmentEnd_frame (n : Nat) (s : State) :
    (segmentEnd n s).pending = s.pending ∧ (segmentEnd n s).dram = s.dram ∧ (segmentEnd n s).job = s.job ∧ (segmentEnd n s).page = s.page ∧ (segmentEnd n s).sec = s.sec := by
  unfold segmentEnd; (repeat' split) <;> simp

set_option maxHeartbeats 60000 in
@[simp] theorem stopProfileEnd_frame (n : Nat) (s : State) :
    (stopProfileEnd n s).pending = s.pending ∧ (stopProfileEnd n s).mail = s.mail ∧ (stopProfileEnd n s).dram = s.dram ∧ (stopProfileEnd n s).job = s.job ∧ (stopProfileEnd n s).page = s.page ∧ (stopProfileEnd n s).flow = s.flow ∧ (stopProfileEnd n s).prog = s.prog ∧ (stopProfileEnd n s).sec = s.sec ∧ (stopProfileEnd n s).ev = s.ev := by
  unfold stopProfileEnd; (repeat' split) <;> simp

set_option maxHeartbeats 60000 in
@[simp] theorem motionStop_frame (mask : BitVec 6) (s : State) :
    (motionStop mask s).pending = s.pending ∧ (motionStop mask s).mail = s.mail ∧ (motionStop mask s).dram = s.dram ∧ (motionStop mask s).job = s.job ∧ (motionStop mask s).page = s.page ∧ (motionStop mask s).flow = s.flow ∧ (motionStop mask s).prog = s.prog ∧ (motionStop mask s).sec = s.sec ∧ (motionStop mask s).tim = s.tim ∧ (motionStop mask s).ev = s.ev := by
  unfold motionStop; simp

set_option maxHeartbeats 60000 in
@[simp] theorem clearChan_frame (n : Nat) (s : State) :
    (clearChan n s).pending = s.pending ∧ (clearChan n s).mail = s.mail ∧ (clearChan n s).dram = s.dram ∧ (clearChan n s).job = s.job ∧ (clearChan n s).page = s.page ∧ (clearChan n s).flow = s.flow ∧ (clearChan n s).prog = s.prog ∧ (clearChan n s).sec = s.sec ∧ (clearChan n s).tim = s.tim ∧ (clearChan n s).ev = s.ev := by
  unfold clearChan; simp

set_option maxHeartbeats 60000 in
@[simp] theorem motionClear_frame (mask : BitVec 6) (s : State) :
    (motionClear mask s).pending = s.pending ∧ (motionClear mask s).mail = s.mail ∧ (motionClear mask s).dram = s.dram ∧ (motionClear mask s).job = s.job ∧ (motionClear mask s).page = s.page ∧ (motionClear mask s).prog = s.prog ∧ (motionClear mask s).sec = s.sec ∧ (motionClear mask s).tim = s.tim ∧ (motionClear mask s).ev = s.ev := by
  unfold motionClear; simp

set_option maxHeartbeats 60000 in
@[simp] theorem servoTick_frame (s : State) :
    (servoTick s).pending = s.pending ∧ (servoTick s).mail = s.mail ∧ (servoTick s).dram = s.dram ∧ (servoTick s).job = s.job ∧ (servoTick s).page = s.page ∧ (servoTick s).flow = s.flow ∧ (servoTick s).prog = s.prog ∧ (servoTick s).sec = s.sec ∧ (servoTick s).ev = s.ev := by
  unfold servoTick; simp

set_option maxHeartbeats 60000 in
@[simp] theorem stepPulse_frame (n : Nat) (s : State) :
    (stepPulse n s).pending = s.pending ∧ (stepPulse n s).mail = s.mail ∧ (stepPulse n s).dram = s.dram ∧ (stepPulse n s).job = s.job ∧ (stepPulse n s).page = s.page ∧ (stepPulse n s).flow = s.flow ∧ (stepPulse n s).prog = s.prog ∧ (stepPulse n s).sec = s.sec ∧ (stepPulse n s).ev = s.ev := by
  unfold stepPulse; (repeat' split) <;> simp

set_option maxHeartbeats 60000 in
@[simp] theorem stallChan_frame (n : Nat) (s : State) :
    (stallChan n s).pending = s.pending ∧ (stallChan n s).dram = s.dram ∧ (stallChan n s).job = s.job ∧ (stallChan n s).page = s.page ∧ (stallChan n s).prog = s.prog ∧ (stallChan n s).sec = s.sec ∧ (stallChan n s).tim = s.tim := by
  unfold stallChan; simp

set_option maxHeartbeats 60000 in
@[simp] theorem stallSample_frame (n : Nat) (skipped : Bool) (code t : Nat) (s : State) :
    (stallSample n skipped code t s).pending = s.pending ∧ (stallSample n skipped code t s).dram = s.dram ∧ (stallSample n skipped code t s).job = s.job ∧ (stallSample n skipped code t s).page = s.page ∧ (stallSample n skipped code t s).prog = s.prog ∧ (stallSample n skipped code t s).sec = s.sec := by
  unfold stallSample; simp

set_option maxHeartbeats 60000 in
@[simp] theorem ownStage_frame (s : State) :
    (ownStage s).pending = s.pending ∧ (ownStage s).mail = s.mail ∧ (ownStage s).dram = s.dram ∧ (ownStage s).job = s.job ∧ (ownStage s).page = s.page ∧ (ownStage s).flow = s.flow ∧ (ownStage s).prog = s.prog ∧ (ownStage s).sec = s.sec ∧ (ownStage s).tim = s.tim ∧ (ownStage s).ev = s.ev := by
  unfold ownStage; simp

set_option maxHeartbeats 60000 in
@[simp] theorem disownStage_frame (s : State) :
    (disownStage s).pending = s.pending ∧ (disownStage s).mail = s.mail ∧ (disownStage s).dram = s.dram ∧ (disownStage s).job = s.job ∧ (disownStage s).page = s.page ∧ (disownStage s).flow = s.flow ∧ (disownStage s).prog = s.prog ∧ (disownStage s).sec = s.sec ∧ (disownStage s).tim = s.tim ∧ (disownStage s).ev = s.ev := by
  unfold disownStage; simp

set_option maxHeartbeats 60000 in
@[simp] theorem updPeer_frame (i : Nat) (f : Peer → Peer) (s : State) :
    (updPeer i f s).pending = s.pending ∧ (updPeer i f s).mail = s.mail ∧ (updPeer i f s).dram = s.dram ∧ (updPeer i f s).job = s.job ∧ (updPeer i f s).page = s.page ∧ (updPeer i f s).flow = s.flow ∧ (updPeer i f s).prog = s.prog ∧ (updPeer i f s).sec = s.sec ∧ (updPeer i f s).tim = s.tim ∧ (updPeer i f s).ev = s.ev := by
  unfold updPeer; simp

set_option maxHeartbeats 60000 in
@[simp] theorem putFrame_frame (f : CohFrame) (s : State) (p : Port) :
    (putFrame f s p).pending = s.pending ∧ (putFrame f s p).mail = s.mail ∧ (putFrame f s p).dram = s.dram ∧ (putFrame f s p).job = s.job ∧ (putFrame f s p).page = s.page ∧ (putFrame f s p).flow = s.flow ∧ (putFrame f s p).prog = s.prog ∧ (putFrame f s p).sec = s.sec ∧ (putFrame f s p).tim = s.tim ∧ (putFrame f s p).ev = s.ev := by
  unfold putFrame; simp

set_option maxHeartbeats 60000 in
@[simp] theorem sendOwn_frame (ps : List Port) (kind : Nat) (payload : List Byte) (s : State) :
    (sendOwn ps kind payload s).pending = s.pending ∧ (sendOwn ps kind payload s).mail = s.mail ∧ (sendOwn ps kind payload s).dram = s.dram ∧ (sendOwn ps kind payload s).job = s.job ∧ (sendOwn ps kind payload s).page = s.page ∧ (sendOwn ps kind payload s).flow = s.flow ∧ (sendOwn ps kind payload s).prog = s.prog ∧ (sendOwn ps kind payload s).sec = s.sec ∧ (sendOwn ps kind payload s).tim = s.tim ∧ (sendOwn ps kind payload s).ev = s.ev := by
  unfold sendOwn; simp

set_option maxHeartbeats 60000 in
@[simp] theorem broadcast_frame (kind : Nat) (payload : List Byte) (s : State) :
    (broadcast kind payload s).pending = s.pending ∧ (broadcast kind payload s).mail = s.mail ∧ (broadcast kind payload s).dram = s.dram ∧ (broadcast kind payload s).job = s.job ∧ (broadcast kind payload s).page = s.page ∧ (broadcast kind payload s).flow = s.flow ∧ (broadcast kind payload s).prog = s.prog ∧ (broadcast kind payload s).sec = s.sec ∧ (broadcast kind payload s).tim = s.tim ∧ (broadcast kind payload s).ev = s.ev := by
  unfold broadcast; simp

set_option maxHeartbeats 60000 in
@[simp] theorem sendNeighbour_frame (p : Port) (kind : Nat) (payload : List Byte) (s : State) :
    (sendNeighbour p kind payload s).pending = s.pending ∧ (sendNeighbour p kind payload s).mail = s.mail ∧ (sendNeighbour p kind payload s).dram = s.dram ∧ (sendNeighbour p kind payload s).job = s.job ∧ (sendNeighbour p kind payload s).page = s.page ∧ (sendNeighbour p kind payload s).flow = s.flow ∧ (sendNeighbour p kind payload s).prog = s.prog ∧ (sendNeighbour p kind payload s).sec = s.sec ∧ (sendNeighbour p kind payload s).tim = s.tim ∧ (sendNeighbour p kind payload s).ev = s.ev := by
  unfold sendNeighbour; simp

set_option maxHeartbeats 60000 in
@[simp] theorem applyCommand_frame (w : Word) (slot : Option (Fin 16)) (s : State) :
    (applyCommand w slot s).pending = s.pending ∧ (applyCommand w slot s).mail = s.mail ∧ (applyCommand w slot s).dram = s.dram ∧ (applyCommand w slot s).job = s.job ∧ (applyCommand w slot s).page = s.page ∧ (applyCommand w slot s).flow = s.flow ∧ (applyCommand w slot s).prog = s.prog ∧ (applyCommand w slot s).sec = s.sec ∧ (applyCommand w slot s).tim = s.tim ∧ (applyCommand w slot s).ev = s.ev := by
  unfold applyCommand; simp

set_option maxHeartbeats 60000 in
@[simp] theorem stagingWrite_frame (k : Nat) (v : Word) (s : State) :
    (stagingWrite k v s).pending = s.pending ∧ (stagingWrite k v s).mail = s.mail ∧ (stagingWrite k v s).dram = s.dram ∧ (stagingWrite k v s).job = s.job ∧ (stagingWrite k v s).page = s.page ∧ (stagingWrite k v s).flow = s.flow ∧ (stagingWrite k v s).prog = s.prog ∧ (stagingWrite k v s).sec = s.sec ∧ (stagingWrite k v s).tim = s.tim ∧ (stagingWrite k v s).ev = s.ev := by
  unfold stagingWrite; simp

set_option maxHeartbeats 60000 in
@[simp] theorem drainStalled_frame (x0 : Nat) (x1 : State) :
    (drainStalled x0 x1).pending = x1.pending ∧ (drainStalled x0 x1).mail = x1.mail ∧ (drainStalled x0 x1).dram = x1.dram ∧ (drainStalled x0 x1).job = x1.job ∧ (drainStalled x0 x1).page = x1.page ∧ (drainStalled x0 x1).flow = x1.flow ∧ (drainStalled x0 x1).prog = x1.prog ∧ (drainStalled x0 x1).sec = x1.sec ∧ (drainStalled x0 x1).tim = x1.tim ∧ (drainStalled x0 x1).ev = x1.ev := by
  induction x0 generalizing x1 with
  | zero => simp [drainStalled]
  | succ n ih => unfold drainStalled; (try dsimp only); (repeat' split) <;> simp [ih]

set_option maxHeartbeats 60000 in
@[simp] theorem changeEntry_frame (first : Nat) (b : Nat) (e : DWord) (s : State) :
    (changeEntry first b e s).pending = s.pending ∧ (changeEntry first b e s).mail = s.mail ∧ (changeEntry first b e s).dram = s.dram ∧ (changeEntry first b e s).job = s.job ∧ (changeEntry first b e s).page = s.page ∧ (changeEntry first b e s).flow = s.flow ∧ (changeEntry first b e s).prog = s.prog ∧ (changeEntry first b e s).sec = s.sec ∧ (changeEntry first b e s).tim = s.tim := by
  unfold changeEntry; simp

set_option maxHeartbeats 60000 in
@[simp] theorem closeHistory_frame (n : Nat) (s : State) :
    (closeHistory n s).pending = s.pending ∧ (closeHistory n s).mail = s.mail ∧ (closeHistory n s).dram = s.dram ∧ (closeHistory n s).job = s.job ∧ (closeHistory n s).page = s.page ∧ (closeHistory n s).flow = s.flow ∧ (closeHistory n s).prog = s.prog ∧ (closeHistory n s).sec = s.sec ∧ (closeHistory n s).tim = s.tim ∧ (closeHistory n s).ev = s.ev := by
  unfold closeHistory; simp

set_option maxHeartbeats 60000 in
@[simp] theorem beamCounts_frame (s : State) :
    (beamCounts s).pending = s.pending ∧ (beamCounts s).mail = s.mail ∧ (beamCounts s).dram = s.dram ∧ (beamCounts s).job = s.job ∧ (beamCounts s).page = s.page ∧ (beamCounts s).flow = s.flow ∧ (beamCounts s).prog = s.prog ∧ (beamCounts s).sec = s.sec ∧ (beamCounts s).tim = s.tim ∧ (beamCounts s).ev = s.ev := by
  unfold beamCounts; simp

set_option maxHeartbeats 60000 in
@[simp] theorem writeSummary_frame (x : Nat) (w : Word) (s : State) :
    (writeSummary x w s).pending = s.pending ∧ (writeSummary x w s).mail = s.mail ∧ (writeSummary x w s).dram = s.dram ∧ (writeSummary x w s).job = s.job ∧ (writeSummary x w s).page = s.page ∧ (writeSummary x w s).flow = s.flow ∧ (writeSummary x w s).prog = s.prog ∧ (writeSummary x w s).sec = s.sec ∧ (writeSummary x w s).tim = s.tim := by
  unfold writeSummary; simp

set_option maxHeartbeats 60000 in
@[simp] theorem stuckRelease_frame (s : State) :
    (stuckRelease s).pending = s.pending ∧ (stuckRelease s).mail = s.mail ∧ (stuckRelease s).dram = s.dram ∧ (stuckRelease s).job = s.job ∧ (stuckRelease s).page = s.page ∧ (stuckRelease s).prog = s.prog ∧ (stuckRelease s).sec = s.sec ∧ (stuckRelease s).tim = s.tim ∧ (stuckRelease s).ev = s.ev := by
  unfold stuckRelease; simp

set_option maxHeartbeats 60000 in
@[simp] theorem applyEntries_frame (bell : Option Int) (cset : Nat) (sum : Word) (es : List (Nat × DWord)) (s : State) :
    (applyEntries bell cset sum es s).pending = s.pending ∧ (applyEntries bell cset sum es s).mail = s.mail ∧ (applyEntries bell cset sum es s).dram = s.dram ∧ (applyEntries bell cset sum es s).job = s.job ∧ (applyEntries bell cset sum es s).page = s.page ∧ (applyEntries bell cset sum es s).prog = s.prog ∧ (applyEntries bell cset sum es s).sec = s.sec ∧ (applyEntries bell cset sum es s).tim = s.tim := by
  unfold applyEntries; simp

set_option maxHeartbeats 60000 in
@[simp] theorem stageNext_frame (s : State) :
    (stageNext s).pending = s.pending ∧ (stageNext s).mail = s.mail ∧ (stageNext s).dram = s.dram ∧ (stageNext s).job = s.job ∧ (stageNext s).page = s.page ∧ (stageNext s).flow = s.flow ∧ (stageNext s).prog = s.prog ∧ (stageNext s).sec = s.sec ∧ (stageNext s).tim = s.tim ∧ (stageNext s).ev = s.ev := by
  unfold stageNext; (repeat' split) <;> simp

set_option maxHeartbeats 60000 in
@[simp] theorem beamApply_frame (bell : Option Int) (s : State) :
    (beamApply bell s).pending = s.pending ∧ (beamApply bell s).dram = s.dram ∧ (beamApply bell s).job = s.job ∧ (beamApply bell s).page = s.page ∧ (beamApply bell s).prog = s.prog ∧ (beamApply bell s).sec = s.sec ∧ (beamApply bell s).tim = s.tim := by
  unfold beamApply; (repeat' split) <;> simp

set_option maxHeartbeats 60000 in
@[simp] theorem queueApply_frame (cset : Nat) (es : List (Nat × DWord)) (slot : Option (Fin 16)) (s : State) :
    (queueApply cset es slot s).pending = s.pending ∧ (queueApply cset es slot s).mail = s.mail ∧ (queueApply cset es slot s).dram = s.dram ∧ (queueApply cset es slot s).job = s.job ∧ (queueApply cset es slot s).page = s.page ∧ (queueApply cset es slot s).flow = s.flow ∧ (queueApply cset es slot s).prog = s.prog ∧ (queueApply cset es slot s).sec = s.sec ∧ (queueApply cset es slot s).tim = s.tim ∧ (queueApply cset es slot s).ev = s.ev := by
  unfold queueApply; simp

set_option maxHeartbeats 60000 in
@[simp] theorem applyWaiting_frame (x0 : Nat) (x1 : State) :
    (applyWaiting x0 x1).pending = x1.pending ∧ (applyWaiting x0 x1).dram = x1.dram ∧ (applyWaiting x0 x1).job = x1.job ∧ (applyWaiting x0 x1).page = x1.page ∧ (applyWaiting x0 x1).prog = x1.prog ∧ (applyWaiting x0 x1).sec = x1.sec ∧ (applyWaiting x0 x1).tim = x1.tim := by
  induction x0 generalizing x1 with
  | zero => simp [applyWaiting]
  | succ n ih => unfold applyWaiting; (try dsimp only); (repeat' split) <;> simp [ih]

set_option maxHeartbeats 60000 in
@[simp] theorem applyAll_frame (s : State) :
    (applyAll s).pending = s.pending ∧ (applyAll s).dram = s.dram ∧ (applyAll s).job = s.job ∧ (applyAll s).page = s.page ∧ (applyAll s).prog = s.prog ∧ (applyAll s).sec = s.sec ∧ (applyAll s).tim = s.tim := by
  unfold applyAll; simp

set_option maxHeartbeats 60000 in
@[simp] theorem rewriteSet_frame (x : Nat) (bs : List Nat) (s : State) :
    (rewriteSet x bs s).pending = s.pending ∧ (rewriteSet x bs s).mail = s.mail ∧ (rewriteSet x bs s).dram = s.dram ∧ (rewriteSet x bs s).job = s.job ∧ (rewriteSet x bs s).page = s.page ∧ (rewriteSet x bs s).flow = s.flow ∧ (rewriteSet x bs s).prog = s.prog ∧ (rewriteSet x bs s).sec = s.sec ∧ (rewriteSet x bs s).tim = s.tim ∧ (rewriteSet x bs s).ev = s.ev := by
  unfold rewriteSet; simp

set_option maxHeartbeats 60000 in
@[simp] theorem gatherReads_frame (gi : GatherIn) (s : State) :
    (gatherReads gi s).pending = s.pending ∧ (gatherReads gi s).mail = s.mail ∧ (gatherReads gi s).dram = s.dram ∧ (gatherReads gi s).job = s.job ∧ (gatherReads gi s).page = s.page ∧ (gatherReads gi s).flow = s.flow ∧ (gatherReads gi s).prog = s.prog ∧ (gatherReads gi s).sec = s.sec ∧ (gatherReads gi s).tim = s.tim := by
  unfold gatherReads; simp

set_option maxHeartbeats 60000 in
@[simp] theorem rewriteTable_frame (s : State) :
    (rewriteTable s).pending = s.pending ∧ (rewriteTable s).mail = s.mail ∧ (rewriteTable s).dram = s.dram ∧ (rewriteTable s).job = s.job ∧ (rewriteTable s).page = s.page ∧ (rewriteTable s).flow = s.flow ∧ (rewriteTable s).prog = s.prog ∧ (rewriteTable s).sec = s.sec ∧ (rewriteTable s).tim = s.tim ∧ (rewriteTable s).ev = s.ev := by
  unfold rewriteTable; simp

set_option maxHeartbeats 60000 in
@[simp] theorem windowLead_frame (n : Int) (s : State) :
    (windowLead n s).pending = s.pending ∧ (windowLead n s).mail = s.mail ∧ (windowLead n s).dram = s.dram ∧ (windowLead n s).job = s.job ∧ (windowLead n s).page = s.page ∧ (windowLead n s).flow = s.flow ∧ (windowLead n s).prog = s.prog ∧ (windowLead n s).sec = s.sec ∧ (windowLead n s).tim = s.tim ∧ (windowLead n s).ev = s.ev := by
  unfold windowLead; simp

set_option maxHeartbeats 60000 in
@[simp] theorem gatherReasons_frame (gi : GatherIn) (invalid : Bool) (s : State) :
    (gatherReasons gi invalid s).1.pending = s.pending ∧ (gatherReasons gi invalid s).1.mail = s.mail ∧ (gatherReasons gi invalid s).1.dram = s.dram ∧ (gatherReasons gi invalid s).1.job = s.job ∧ (gatherReasons gi invalid s).1.page = s.page ∧ (gatherReasons gi invalid s).1.flow = s.flow ∧ (gatherReasons gi invalid s).1.prog = s.prog ∧ (gatherReasons gi invalid s).1.sec = s.sec ∧ (gatherReasons gi invalid s).1.tim = s.tim := by
  unfold gatherReasons; simp

set_option maxHeartbeats 60000 in
@[simp] theorem gatherDose_frame (gi : GatherIn) (sh : Shot) (s : State) :
    (gatherDose gi sh s).1.pending = s.pending ∧ (gatherDose gi sh s).1.mail = s.mail ∧ (gatherDose gi sh s).1.dram = s.dram ∧ (gatherDose gi sh s).1.job = s.job ∧ (gatherDose gi sh s).1.page = s.page ∧ (gatherDose gi sh s).1.flow = s.flow ∧ (gatherDose gi sh s).1.prog = s.prog ∧ (gatherDose gi sh s).1.sec = s.sec ∧ (gatherDose gi sh s).1.tim = s.tim := by
  unfold gatherDose; simp

set_option maxHeartbeats 60000 in
@[simp] theorem gatherShot_frame (gi : GatherIn) (invalid held : Bool) (sh : Shot) (s : State) :
    (gatherShot gi invalid held sh s).pending = s.pending ∧ (gatherShot gi invalid held sh s).mail = s.mail ∧ (gatherShot gi invalid held sh s).dram = s.dram ∧ (gatherShot gi invalid held sh s).job = s.job ∧ (gatherShot gi invalid held sh s).page = s.page ∧ (gatherShot gi invalid held sh s).flow = s.flow ∧ (gatherShot gi invalid held sh s).prog = s.prog ∧ (gatherShot gi invalid held sh s).sec = s.sec ∧ (gatherShot gi invalid held sh s).tim = s.tim := by
  unfold gatherShot
  have hw := windowLead_frame gi.shot { s with beams := { s.beams with changed := [] } }
  generalize windowLead gi.shot { s with beams := { s.beams with changed := [] } } = u at hw ⊢
  dsimp only at hw ⊢
  split
  · exact ⟨hw.1, hw.2.1, hw.2.2.1, hw.2.2.2.1, hw.2.2.2.2.1, hw.2.2.2.2.2.1, hw.2.2.2.2.2.2.1, hw.2.2.2.2.2.2.2.1, hw.2.2.2.2.2.2.2.2.1⟩
  · have hr := gatherReasons_frame gi invalid u
    generalize gatherReasons gi invalid u = p at hr ⊢
    obtain ⟨v, whole⟩ := p
    dsimp only at hr ⊢
    (repeat' split) <;> simp [hr, hw]

set_option maxHeartbeats 60000 in
@[simp] theorem updShot_frame (stripeIdx : Nat) (n : Int) (f : Shot → Shot) (s : State) :
    (updShot stripeIdx n f s).pending = s.pending ∧ (updShot stripeIdx n f s).mail = s.mail ∧ (updShot stripeIdx n f s).dram = s.dram ∧ (updShot stripeIdx n f s).job = s.job ∧ (updShot stripeIdx n f s).page = s.page ∧ (updShot stripeIdx n f s).flow = s.flow ∧ (updShot stripeIdx n f s).prog = s.prog ∧ (updShot stripeIdx n f s).sec = s.sec ∧ (updShot stripeIdx n f s).tim = s.tim ∧ (updShot stripeIdx n f s).ev = s.ev := by
  unfold updShot; simp

set_option maxHeartbeats 60000 in
@[simp] theorem gatherComplete_frame (n : Int) (margins : List Nat) (s : State) :
    (gatherComplete n margins s).pending = s.pending ∧ (gatherComplete n margins s).mail = s.mail ∧ (gatherComplete n margins s).dram = s.dram ∧ (gatherComplete n margins s).job = s.job ∧ (gatherComplete n margins s).page = s.page ∧ (gatherComplete n margins s).flow = s.flow ∧ (gatherComplete n margins s).prog = s.prog ∧ (gatherComplete n margins s).sec = s.sec ∧ (gatherComplete n margins s).tim = s.tim := by
  unfold gatherComplete; (repeat' split) <;> simp

set_option maxHeartbeats 60000 in
@[simp] theorem laneDeadline_frame (g : Nat) (incomplete : BitVec 64) (s : State) :
    (laneDeadline g incomplete s).pending = s.pending ∧ (laneDeadline g incomplete s).mail = s.mail ∧ (laneDeadline g incomplete s).dram = s.dram ∧ (laneDeadline g incomplete s).job = s.job ∧ (laneDeadline g incomplete s).page = s.page ∧ (laneDeadline g incomplete s).flow = s.flow ∧ (laneDeadline g incomplete s).prog = s.prog ∧ (laneDeadline g incomplete s).sec = s.sec ∧ (laneDeadline g incomplete s).tim = s.tim := by
  unfold laneDeadline; (try dsimp only); (repeat' split) <;> simp

set_option maxHeartbeats 60000 in
@[simp] theorem psetCommit_frame (s : State) :
    (psetCommit s).pending = s.pending ∧ (psetCommit s).mail = s.mail ∧ (psetCommit s).dram = s.dram ∧ (psetCommit s).job = s.job ∧ (psetCommit s).page = s.page ∧ (psetCommit s).flow = s.flow ∧ (psetCommit s).prog = s.prog ∧ (psetCommit s).sec = s.sec ∧ (psetCommit s).tim = s.tim ∧ (psetCommit s).ev = s.ev := by
  unfold psetCommit; simp

set_option maxHeartbeats 60000 in
@[simp] theorem psetSwap_frame (s : State) :
    (psetSwap s).pending = s.pending ∧ (psetSwap s).mail = s.mail ∧ (psetSwap s).dram = s.dram ∧ (psetSwap s).job = s.job ∧ (psetSwap s).page = s.page ∧ (psetSwap s).flow = s.flow ∧ (psetSwap s).prog = s.prog ∧ (psetSwap s).sec = s.sec ∧ (psetSwap s).tim = s.tim ∧ (psetSwap s).ev = s.ev := by
  unfold psetSwap; simp

set_option maxHeartbeats 60000 in
@[simp] theorem leadTo_frame (left : Nat) (s : State) :
    (leadTo left s).pending = s.pending ∧ (leadTo left s).mail = s.mail ∧ (leadTo left s).dram = s.dram ∧ (leadTo left s).job = s.job ∧ (leadTo left s).page = s.page ∧ (leadTo left s).flow = s.flow ∧ (leadTo left s).prog = s.prog ∧ (leadTo left s).sec = s.sec ∧ (leadTo left s).tim = s.tim := by
  unfold leadTo; simp

set_option maxHeartbeats 60000 in
@[simp] theorem leadSync_frame (s : State) :
    (leadSync s).pending = s.pending ∧ (leadSync s).mail = s.mail ∧ (leadSync s).dram = s.dram ∧ (leadSync s).job = s.job ∧ (leadSync s).page = s.page ∧ (leadSync s).flow = s.flow ∧ (leadSync s).prog = s.prog ∧ (leadSync s).sec = s.sec ∧ (leadSync s).tim = s.tim := by
  unfold leadSync; simp

set_option maxHeartbeats 60000 in
@[simp] theorem openWindow_frame (i : Nat) (s : State) :
    (openWindow i s).pending = s.pending ∧ (openWindow i s).mail = s.mail ∧ (openWindow i s).dram = s.dram ∧ (openWindow i s).job = s.job ∧ (openWindow i s).page = s.page ∧ (openWindow i s).flow = s.flow ∧ (openWindow i s).prog = s.prog ∧ (openWindow i s).sec = s.sec ∧ (openWindow i s).tim = s.tim ∧ (openWindow i s).ev = s.ev := by
  unfold openWindow; (repeat' split) <;> simp

set_option maxHeartbeats 60000 in
@[simp] theorem windowAfterGather_frame (stripeIdx : Nat) (n : Int) (s : State) :
    (windowAfterGather stripeIdx n s).pending = s.pending ∧ (windowAfterGather stripeIdx n s).mail = s.mail ∧ (windowAfterGather stripeIdx n s).dram = s.dram ∧ (windowAfterGather stripeIdx n s).job = s.job ∧ (windowAfterGather stripeIdx n s).page = s.page ∧ (windowAfterGather stripeIdx n s).flow = s.flow ∧ (windowAfterGather stripeIdx n s).prog = s.prog ∧ (windowAfterGather stripeIdx n s).sec = s.sec ∧ (windowAfterGather stripeIdx n s).tim = s.tim ∧ (windowAfterGather stripeIdx n s).ev = s.ev := by
  unfold windowAfterGather; (repeat' split) <;> simp

set_option maxHeartbeats 60000 in
@[simp] theorem placeRow_frame (v : Int) (bytes : List (Nat × Nat)) (bad : List Nat) (s : State) :
    (placeRow v bytes bad s).pending = s.pending ∧ (placeRow v bytes bad s).mail = s.mail ∧ (placeRow v bytes bad s).dram = s.dram ∧ (placeRow v bytes bad s).job = s.job ∧ (placeRow v bytes bad s).page = s.page ∧ (placeRow v bytes bad s).flow = s.flow ∧ (placeRow v bytes bad s).prog = s.prog ∧ (placeRow v bytes bad s).sec = s.sec ∧ (placeRow v bytes bad s).tim = s.tim := by
  unfold placeRow; simp

set_option maxHeartbeats 60000 in
@[simp] theorem releaseBand_frame (b : Band) (s : State) :
    (releaseBand b s).pending = s.pending ∧ (releaseBand b s).mail = s.mail ∧ (releaseBand b s).dram = s.dram ∧ (releaseBand b s).job = s.job ∧ (releaseBand b s).page = s.page ∧ (releaseBand b s).flow = s.flow ∧ (releaseBand b s).prog = s.prog ∧ (releaseBand b s).sec = s.sec ∧ (releaseBand b s).tim = s.tim := by
  unfold releaseBand; simp

set_option maxHeartbeats 60000 in
@[simp] theorem loadRow_frame (b : Band) (v : Nat) (s : State) :
    (loadRow b v s).pending = s.pending ∧ (loadRow b v s).mail = s.mail ∧ (loadRow b v s).dram = s.dram ∧ (loadRow b v s).job = s.job ∧ (loadRow b v s).page = s.page ∧ (loadRow b v s).flow = s.flow ∧ (loadRow b v s).prog = s.prog ∧ (loadRow b v s).sec = s.sec ∧ (loadRow b v s).tim = s.tim := by
  unfold loadRow; simp

set_option maxHeartbeats 60000 in
@[simp] theorem windowRow_frame (s : State) :
    (windowRow s).pending = s.pending ∧ (windowRow s).mail = s.mail ∧ (windowRow s).dram = s.dram ∧ (windowRow s).job = s.job ∧ (windowRow s).page = s.page ∧ (windowRow s).flow = s.flow ∧ (windowRow s).prog = s.prog ∧ (windowRow s).sec = s.sec ∧ (windowRow s).tim = s.tim := by
  unfold windowRow; (try dsimp only); (repeat' split) <;> simp

end Sys2Proof.Machine
end

