-- ==== Sys2Proof/Laws/Canon1.lean ====
section
/-!
SUPPORT. The canonical form is kept by the operations of these files, one lemma per operation, for the simplifier.
-/

namespace Sys2Proof.Machine

set_option Elab.async false

set_option maxHeartbeats 80000 in
@[simp] theorem probeSample_canon (src : Nat) (vals : List Int) (s : State) (p : Nat) (hc : s.canonical) :
    (probeSample src vals s p).canonical := by
  unfold probeSample; simp (maxDischargeDepth := 60) [hc]

set_option maxHeartbeats 80000 in
@[simp] theorem sample_canon (src : Nat) (vals : List Int) (s : State) (hc : s.canonical) :
    (sample src vals s).canonical := by
  unfold sample; (try dsimp only); (repeat' split) <;> simp_all (maxDischargeDepth := 60)

set_option maxHeartbeats 80000 in
@[simp] theorem sampleEach_canon (src : Nat) (x0 : Nat) (x1 : State) (hc : x1.canonical) :
    (sampleEach src x0 x1).canonical := by
  induction x0 generalizing x1 with
  | zero => simp (maxDischargeDepth := 60) [sampleEach, hc]
  | succ n ih => unfold sampleEach; (try dsimp only); (repeat' split) <;> simp (maxDischargeDepth := 60) [ih, hc]

set_option maxHeartbeats 80000 in
@[simp] theorem sampleFree_canon (src n : Nat) (s : State) (hc : s.canonical) :
    (sampleFree src n s).canonical := by
  unfold sampleFree; simp (maxDischargeDepth := 60) [hc]

set_option maxHeartbeats 80000 in
@[simp] theorem restartCapture_canon (p : Nat) (s : State) (hc : s.canonical) :
    (restartCapture p s).canonical := by
  unfold restartCapture; simp (maxDischargeDepth := 60) [hc]

set_option maxHeartbeats 80000 in
@[simp] theorem monConfigCommand_canon (r : Req) (probe source : Nat) (width lo hi : Word) (s : State) (hc : s.canonical) :
    (monConfigCommand r probe source width lo hi s).canonical := by
  unfold monConfigCommand; (try dsimp only); (repeat' split) <;> simp_all (maxDischargeDepth := 60)

set_option maxHeartbeats 80000 in
@[simp] theorem monReadCommand_canon (r : Req) (probe flags : Nat) (s : State) (hc : s.canonical) :
    (monReadCommand r probe flags s).canonical := by
  unfold monReadCommand; (try dsimp only); (repeat' split) <;> simp_all (maxDischargeDepth := 60)

set_option maxHeartbeats 80000 in
@[simp] theorem probeWrite_canon (p : Nat) (reg : Nat) (value : Word) (s : State) (hc : s.canonical) :
    (probeWrite p reg value s).canonical := by
  unfold probeWrite; (repeat' split) <;> simp (maxDischargeDepth := 60) [hc]

set_option maxHeartbeats 80000 in
@[simp] theorem absShowLost_canon (s : State) (hc : s.canonical) :
    (absShowLost s).canonical := by
  unfold absShowLost; (repeat' split) <;> simp (maxDischargeDepth := 60) [hc]

set_option maxHeartbeats 80000 in
@[simp] theorem absReserve_canon (s : State) (hc : s.canonical) :
    (absReserve s).canonical := by
  unfold absReserve; simp (maxDischargeDepth := 60) [hc]

set_option maxHeartbeats 80000 in
@[simp] theorem absSync_canon (s : State) (hc : s.canonical) :
    (absSync s).canonical := by
  unfold absSync; simp (maxDischargeDepth := 60) [hc]

set_option maxHeartbeats 80000 in
@[simp] theorem absWrite_canon (e : AbsEntry) (s : State) (hc : s.canonical) :
    (absWrite e s).canonical := by
  unfold absWrite; simp (maxDischargeDepth := 60) [hc]

set_option maxHeartbeats 80000 in
@[simp] theorem absCover_canon (lo e : AbsEntry) (s : State) (hc : s.canonical) :
    (absCover lo e s).canonical := by
  unfold absCover; simp (maxDischargeDepth := 60) [hc]

set_option maxHeartbeats 80000 in
@[simp] theorem absPlace_canon (e : AbsEntry) (s : State) (hc : s.canonical) :
    (absPlace e s).canonical := by
  unfold absPlace; (repeat' split) <;> simp (maxDischargeDepth := 60) [hc]

set_option maxHeartbeats 80000 in
@[simp] theorem absMakeRoom_canon (room : Nat) (x0 : Nat) (x1 : State) (hc : x1.canonical) :
    (absMakeRoom room x0 x1).canonical := by
  induction x0 generalizing x1 with
  | zero => simp (maxDischargeDepth := 60) [absMakeRoom, hc]
  | succ n ih => unfold absMakeRoom; (try dsimp only); (repeat' split) <;> simp (maxDischargeDepth := 60) [ih, hc]

set_option maxHeartbeats 80000 in
@[simp] theorem absAppend_canon (e : AbsEntry) (s : State) (hc : s.canonical) :
    (absAppend e s).canonical := by
  unfold absAppend; simp (maxDischargeDepth := 60) [hc]

set_option maxHeartbeats 80000 in
@[simp] theorem absFlushWaiting_canon (x0 : Nat) (x1 : State) (hc : x1.canonical) :
    (absFlushWaiting x0 x1).canonical := by
  induction x0 generalizing x1 with
  | zero => simp (maxDischargeDepth := 60) [absFlushWaiting, hc]
  | succ n ih => unfold absFlushWaiting; (try dsimp only); (repeat' split) <;> simp (maxDischargeDepth := 60) [ih, hc]

set_option maxHeartbeats 80000 in
@[simp] theorem absFlushLost_canon (s : State) (hc : s.canonical) :
    (absFlushLost s).canonical := by
  unfold absFlushLost; (repeat' split) <;> simp (maxDischargeDepth := 60) [hc]

set_option maxHeartbeats 80000 in
@[simp] theorem absFlush_canon (s : State) (hc : s.canonical) :
    (absFlush s).canonical := by
  unfold absFlush; simp (maxDischargeDepth := 60) [hc]

set_option maxHeartbeats 80000 in
@[simp] theorem absCloseWhere_canon (p : AbsEntry → Bool) (s : State) (hc : s.canonical) :
    (absCloseWhere p s).canonical := by
  unfold absCloseWhere; (try dsimp only); (repeat' split) <;> simp_all (maxDischargeDepth := 60)

set_option maxHeartbeats 80000 in
@[simp] theorem absOpen_canon (e : AbsEntry) (s : State) (hc : s.canonical) :
    (absOpen e s).canonical := by
  unfold absOpen; simp (maxDischargeDepth := 60) [hc]

set_option maxHeartbeats 80000 in
@[simp] theorem absJoin_canon (e : AbsEntry) (s : State) (hc : s.canonical) :
    (absJoin e s).canonical := by
  unfold absJoin; simp (maxDischargeDepth := 60) [hc]

set_option maxHeartbeats 80000 in
@[simp] theorem absForm_canon (e : AbsEntry) (s : State) (hc : s.canonical) :
    (absForm e s).canonical := by
  unfold absForm; (repeat' split) <;> simp (maxDischargeDepth := 60) [hc]

set_option maxHeartbeats 80000 in
@[simp] theorem countClips_canon (sh : Shot) (s : State) (hc : s.canonical) :
    (countClips sh s).canonical := by
  unfold countClips; simp (maxDischargeDepth := 60) [hc]

set_option maxHeartbeats 80000 in
@[simp] theorem absFormShot_canon (sh : Shot) (s : State) (hc : s.canonical) :
    (absFormShot sh s).canonical := by
  unfold absFormShot; (try dsimp only); (repeat' split) <;> simp_all (maxDischargeDepth := 60)

set_option maxHeartbeats 80000 in
@[simp] theorem absSettle_canon (sh : Shot) (s : State) (hc : s.canonical) :
    (absSettle sh s).canonical := by
  unfold absSettle; simp (maxDischargeDepth := 60) [hc]

set_option maxHeartbeats 80000 in
@[simp] theorem absLogRows_canon (layer stripe lastShot tag : Nat) (psetSeq : Word) (a b : Nat) (s : State) (hc : s.canonical) :
    (absLogRows layer stripe lastShot tag psetSeq a b s).canonical := by
  unfold absLogRows; simp (maxDischargeDepth := 60) [hc]

set_option maxHeartbeats 80000 in
@[simp] theorem absLastShot_canon (sh : Shot) (s : State) (hc : s.canonical) :
    (absLastShot sh s).canonical := by
  unfold absLastShot; simp (maxDischargeDepth := 60) [hc]

set_option maxHeartbeats 80000 in
@[simp] theorem absLeave_canon (s : State) (hc : s.canonical) :
    (absLeave s).canonical := by
  unfold absLeave; simp (maxDischargeDepth := 60) [hc]

set_option maxHeartbeats 80000 in
@[simp] theorem absStripeEnd_canon (s : State) (hc : s.canonical) :
    (absStripeEnd s).canonical := by
  unfold absStripeEnd; simp (maxDischargeDepth := 60) [hc]

set_option maxHeartbeats 80000 in
@[simp] theorem absReconcile_canon (m : Makeup) (s : State) (hc : s.canonical) :
    (absReconcile m s).canonical := by
  unfold absReconcile; simp (maxDischargeDepth := 60) [hc]

set_option maxHeartbeats 80000 in
@[simp] theorem absWaive_canon (layer : Nat) (s : State) (hc : s.canonical) :
    (absWaive layer s).canonical := by
  unfold absWaive; simp (maxDischargeDepth := 60) [hc]

set_option maxHeartbeats 80000 in
@[simp] theorem ackWalk_canon (x0 : Nat) (x1 : State) (hc : x1.canonical) :
    (ackWalk x0 x1).canonical := by
  induction x0 generalizing x1 with
  | zero => simp (maxDischargeDepth := 60) [ackWalk, hc]
  | succ n ih => unfold ackWalk; (try dsimp only); (repeat' split) <;> simp (maxDischargeDepth := 60) [ih, hc]

set_option maxHeartbeats 80000 in
@[simp] theorem updChan_canon (n : Nat) (f : Chan → Chan) (s : State) (hc : s.canonical) :
    (updChan n f s).canonical := by
  unfold updChan; simp (maxDischargeDepth := 60) [hc]

set_option maxHeartbeats 80000 in
@[simp] theorem putWords_canon (base : Nat) (w : SegWords) (s : State) (hc : s.canonical) :
    (putWords base w s).canonical := by
  unfold putWords; simp (maxDischargeDepth := 60) [hc]

set_option maxHeartbeats 80000 in
@[simp] theorem cancelCommit_canon (n : Nat) (s : State) (hc : s.canonical) :
    (cancelCommit n s).canonical := by
  unfold cancelCommit; simp (maxDischargeDepth := 60) [hc]

set_option maxHeartbeats 80000 in
@[simp] theorem startProfile_canon (n : Nat) (g : Segment) (state : Nat) (s : State) (hc : s.canonical) :
    (startProfile n g state s).canonical := by
  unfold startProfile; simp (maxDischargeDepth := 60) [hc]

set_option maxHeartbeats 80000 in
@[simp] theorem comeToRest_canon (n : Nat) (p : Dy) (s : State) (hc : s.canonical) :
    (comeToRest n p s).canonical := by
  unfold comeToRest; simp (maxDischargeDepth := 60) [hc]

set_option maxHeartbeats 80000 in
@[simp] theorem stopChan_canon (n : Nat) (s : State) (hc : s.canonical) :
    (stopChan n s).canonical := by
  unfold stopChan; (try dsimp only); (repeat' split) <;> simp (maxDischargeDepth := 60) [hc]

set_option maxHeartbeats 80000 in
@[simp] theorem stopStage_canon (s : State) (hc : s.canonical) :
    (stopStage s).canonical := by
  unfold stopStage; simp (maxDischargeDepth := 60) [hc]

set_option maxHeartbeats 80000 in
@[simp] theorem motionFault_canon (s : State) (hc : s.canonical) :
    (motionFault s).canonical := by
  unfold motionFault; simp (maxDischargeDepth := 60) [hc]

set_option maxHeartbeats 80000 in
@[simp] theorem rejectSegment_canon (n cause : Nat) (s : State) (hc : s.canonical) :
    (rejectSegment n cause s).canonical := by
  unfold rejectSegment; simp (maxDischargeDepth := 60) [hc]

set_option maxHeartbeats 80000 in
@[simp] theorem motionCommit_canon (n : Nat) (byHost : Bool) (s : State) (hc : s.canonical) :
    (motionCommit n byHost s).canonical := by
  unfold motionCommit; simp (maxDischargeDepth := 60) [hc]

set_option maxHeartbeats 80000 in
@[simp] theorem shadowWrite_canon (n word : Nat) (high : Bool) (v : Word) (s : State) (hc : s.canonical) :
    (shadowWrite n word high v s).canonical := by
  unfold shadowWrite; simp (maxDischargeDepth := 60) [hc]

set_option maxHeartbeats 80000 in
@[simp] theorem planComplete_canon (n : Nat) (s : State) (hc : s.canonical) :
    (planComplete n s).canonical := by
  unfold planComplete; (try dsimp only); (repeat' split) <;> simp (maxDischargeDepth := 60) [hc]

set_option maxHeartbeats 80000 in
@[simp] theorem swapSegment_canon (n : Nat) (g : Segment) (start : Dy) (s : State) (hc : s.canonical) :
    (swapSegment n g start s).canonical := by
  unfold swapSegment; simp (maxDischargeDepth := 60) [hc]

set_option maxHeartbeats 80000 in
@[simp] theorem turnDir_canon (n : Nat) (g : Segment) (t : Dy) (s : State) (hc : s.canonical) :
    (turnDir n g t s).canonical := by
  unfold turnDir; simp (maxDischargeDepth := 60) [hc]

set_option maxHeartbeats 80000 in
@[simp] theorem firmwareSegment_canon (n : Nat) (w : SegWords) (s : State) (hc : s.canonical) :
    (firmwareSegment n w s).canonical := by
  unfold firmwareSegment; simp (maxDischargeDepth := 60) [hc]

set_option maxHeartbeats 80000 in
@[simp] theorem positionStage_canon (s : State) (hc : s.canonical) :
    (positionStage s).canonical := by
  unfold positionStage; (repeat' split) <;> simp (maxDischargeDepth := 60) [hc]

set_option maxHeartbeats 80000 in
@[simp] theorem commitStep_canon (n k : Nat) (w : SegWords) (s : State) (hc : s.canonical) :
    (commitStep n k w s).canonical := by
  unfold commitStep; simp (maxDischargeDepth := 60) [hc]

set_option maxHeartbeats 80000 in
@[simp] theorem positionLocate_canon (s : State) (hc : s.canonical) :
    (positionLocate s).canonical := by
  unfold positionLocate; (repeat' split) <;> simp (maxDischargeDepth := 60) [hc]

set_option maxHeartbeats 80000 in
@[simp] theorem choreoStarts_canon (n : Nat) (s : State) (hc : s.canonical) :
    (choreoStarts n s).canonical := by
  unfold choreoStarts; (repeat' split) <;> simp (maxDischargeDepth := 60) [hc]

set_option maxHeartbeats 80000 in
@[simp] theorem choreoFollows_canon (n : Nat) (s : State) (hc : s.canonical) :
    (choreoFollows n s).canonical := by
  unfold choreoFollows; (try dsimp only); (repeat' split) <;> simp (maxDischargeDepth := 60) [hc]

set_option maxHeartbeats 80000 in
@[simp] theorem choreoRests_canon (s : State) (hc : s.canonical) :
    (choreoRests s).canonical := by
  unfold choreoRests; simp (maxDischargeDepth := 60) [hc]

set_option maxHeartbeats 80000 in
@[simp] theorem startAtTick_canon (n : Nat) (s : State) (hc : s.canonical) :
    (startAtTick n s).canonical := by
  unfold startAtTick; (try dsimp only); (repeat' split) <;> simp (maxDischargeDepth := 60) [hc]

set_option maxHeartbeats 80000 in
@[simp] theorem segmentNext_canon (n : Nat) (own : Bool) (q : Segment) (t : Dy) (s : State) (hc : s.canonical) :
    (segmentNext n own q t s).canonical := by
  unfold segmentNext; simp (maxDischargeDepth := 60) [hc]

set_option maxHeartbeats 80000 in
@[simp] theorem segmentLast_canon (n : Nat) (own : Bool) (g : Segment) (s : State) (hc : s.canonical) :
    (segmentLast n own g s).canonical := by
  unfold segmentLast; simp (maxDischargeDepth := 60) [hc]

set_option maxHeartbeats 80000 in
@[simp] theorem segmentOver_canon (n : Nat) (g : Segment) (s : State) (hc : s.canonical) :
    (segmentOver n g s).canonical := by
  unfold segmentOver; (repeat' split) <;> simp (maxDischargeDepth := 60) [hc]

set_option maxHeartbeats 80000 in
@[simp] theorem segmentEnd_canon (n : Nat) (s : State) (hc : s.canonical) :
    (segmentEnd n s).canonical := by
  unfold segmentEnd; (repeat' split) <;> simp (maxDischargeDepth := 60) [hc]

set_option maxHeartbeats 80000 in
@[simp] theorem stopProfileEnd_canon (n : Nat) (s : State) (hc : s.canonical) :
    (stopProfileEnd n s).canonical := by
  unfold stopProfileEnd; (repeat' split) <;> simp (maxDischargeDepth := 60) [hc]

set_option maxHeartbeats 80000 in
@[simp] theorem motionStop_canon (mask : BitVec 6) (s : State) (hc : s.canonical) :
    (motionStop mask s).canonical := by
  unfold motionStop; (try dsimp only); (repeat' split) <;> simp_all (maxDischargeDepth := 60)

set_option maxHeartbeats 80000 in
@[simp] theorem clearChan_canon (n : Nat) (s : State) (hc : s.canonical) :
    (clearChan n s).canonical := by
  unfold clearChan; simp (maxDischargeDepth := 60) [hc]

set_option maxHeartbeats 80000 in
@[simp] theorem motionClear_canon (mask : BitVec 6) (s : State) (hc : s.canonical) :
    (motionClear mask s).canonical := by
  unfold motionClear; (try dsimp only); (repeat' split) <;> simp_all (maxDischargeDepth := 60)

set_option maxHeartbeats 80000 in
@[simp] theorem servoTick_canon (s : State) (hc : s.canonical) :
    (servoTick s).canonical := by
  unfold servoTick; (try dsimp only); (repeat' split) <;> simp_all (maxDischargeDepth := 60)

set_option maxHeartbeats 80000 in
@[simp] theorem stepPulse_canon (n : Nat) (s : State) (hc : s.canonical) :
    (stepPulse n s).canonical := by
  unfold stepPulse; (repeat' split) <;> simp (maxDischargeDepth := 60) [hc]

set_option maxHeartbeats 80000 in
@[simp] theorem stallChan_canon (n : Nat) (s : State) (hc : s.canonical) :
    (stallChan n s).canonical := by
  unfold stallChan; (try dsimp only); (repeat' split) <;> simp (maxDischargeDepth := 60) [hc]

set_option maxHeartbeats 80000 in
@[simp] theorem stallSample_canon (n : Nat) (skipped : Bool) (code t : Nat) (s : State) (hc : s.canonical) :
    (stallSample n skipped code t s).canonical := by
  unfold stallSample; (try dsimp only); (repeat' split) <;> simp (maxDischargeDepth := 60) [hc]

set_option maxHeartbeats 80000 in
@[simp] theorem ownStage_canon (s : State) (hc : s.canonical) :
    (ownStage s).canonical := by
  unfold ownStage; simp (maxDischargeDepth := 60) [hc]

set_option maxHeartbeats 80000 in
@[simp] theorem disownStage_canon (s : State) (hc : s.canonical) :
    (disownStage s).canonical := by
  unfold disownStage; simp (maxDischargeDepth := 60) [hc]

set_option maxHeartbeats 80000 in
@[simp] theorem updPeer_canon (i : Nat) (f : Peer → Peer) (s : State) (hc : s.canonical) :
    (updPeer i f s).canonical := by
  unfold updPeer; simp (maxDischargeDepth := 60) [hc]

set_option maxHeartbeats 80000 in
@[simp] theorem putFrame_canon (f : CohFrame) (s : State) (p : Port) (hc : s.canonical) :
    (putFrame f s p).canonical := by
  unfold putFrame; simp (maxDischargeDepth := 60) [hc]

set_option maxHeartbeats 80000 in
@[simp] theorem sendOwn_canon (ps : List Port) (kind : Nat) (payload : List Byte) (s : State) (hc : s.canonical) :
    (sendOwn ps kind payload s).canonical := by
  unfold sendOwn; (try dsimp only); (repeat' split) <;> simp_all (maxDischargeDepth := 60)

set_option maxHeartbeats 80000 in
@[simp] theorem broadcast_canon (kind : Nat) (payload : List Byte) (s : State) (hc : s.canonical) :
    (broadcast kind payload s).canonical := by
  unfold broadcast; simp (maxDischargeDepth := 60) [hc]

set_option maxHeartbeats 80000 in
@[simp] theorem sendNeighbour_canon (p : Port) (kind : Nat) (payload : List Byte) (s : State) (hc : s.canonical) :
    (sendNeighbour p kind payload s).canonical := by
  unfold sendNeighbour; simp (maxDischargeDepth := 60) [hc]

set_option maxHeartbeats 80000 in
@[simp] theorem applyCommand_canon (w : Word) (slot : Option (Fin 16)) (s : State) (hc : s.canonical) :
    (applyCommand w slot s).canonical := by
  unfold applyCommand; (repeat' split) <;> simp (maxDischargeDepth := 60) [hc]

set_option maxHeartbeats 80000 in
@[simp] theorem stagingWrite_canon (k : Nat) (v : Word) (s : State) (hc : s.canonical) :
    (stagingWrite k v s).canonical := by
  unfold stagingWrite; (repeat' split) <;> simp (maxDischargeDepth := 60) [hc]

set_option maxHeartbeats 80000 in
@[simp] theorem drainStalled_canon (x0 : Nat) (x1 : State) (hc : x1.canonical) :
    (drainStalled x0 x1).canonical := by
  induction x0 generalizing x1 with
  | zero => simp (maxDischargeDepth := 60) [drainStalled, hc]
  | succ n ih => unfold drainStalled; (try dsimp only); (repeat' split) <;> simp (maxDischargeDepth := 60) [ih, hc]

set_option maxHeartbeats 80000 in
@[simp] theorem changeEntry_canon (first : Nat) (b : Nat) (e : DWord) (s : State) (hc : s.canonical) :
    (changeEntry first b e s).canonical := by
  unfold changeEntry; simp (maxDischargeDepth := 60) [hc]

set_option maxHeartbeats 80000 in
@[simp] theorem closeHistory_canon (n : Nat) (s : State) (hc : s.canonical) :
    (closeHistory n s).canonical := by
  unfold closeHistory; simp (maxDischargeDepth := 60) [hc]

set_option maxHeartbeats 80000 in
@[simp] theorem beamCounts_canon (s : State) (hc : s.canonical) :
    (beamCounts s).canonical := by
  unfold beamCounts; simp (maxDischargeDepth := 60) [hc]

set_option maxHeartbeats 80000 in
@[simp] theorem writeSummary_canon (x : Nat) (w : Word) (s : State) (hc : s.canonical) :
    (writeSummary x w s).canonical := by
  unfold writeSummary; simp (maxDischargeDepth := 60) [hc]

set_option maxHeartbeats 80000 in
@[simp] theorem stuckRelease_canon (s : State) (hc : s.canonical) :
    (stuckRelease s).canonical := by
  unfold stuckRelease; simp (maxDischargeDepth := 60) [hc]

set_option maxHeartbeats 80000 in
@[simp] theorem applyEntries_canon (bell : Option Int) (cset : Nat) (sum : Word) (es : List (Nat × DWord)) (s : State) (hc : s.canonical) :
    (applyEntries bell cset sum es s).canonical := by
  unfold applyEntries; (try dsimp only); (repeat' split) <;> simp_all (maxDischargeDepth := 60)

set_option maxHeartbeats 80000 in
@[simp] theorem stageNext_canon (s : State) (hc : s.canonical) :
    (stageNext s).canonical := by
  unfold stageNext; (try dsimp only); (repeat' split) <;> simp_all (maxDischargeDepth := 60)

set_option maxHeartbeats 80000 in
@[simp] theorem beamApply_canon (bell : Option Int) (s : State) (hc : s.canonical) :
    (beamApply bell s).canonical := by
  unfold beamApply; (repeat' split) <;> simp (maxDischargeDepth := 60) [hc]

set_option maxHeartbeats 80000 in
@[simp] theorem queueApply_canon (cset : Nat) (es : List (Nat × DWord)) (slot : Option (Fin 16)) (s : State) (hc : s.canonical) :
    (queueApply cset es slot s).canonical := by
  unfold queueApply; simp (maxDischargeDepth := 60) [hc]

set_option maxHeartbeats 80000 in
@[simp] theorem applyWaiting_canon (x0 : Nat) (x1 : State) (hc : x1.canonical) :
    (applyWaiting x0 x1).canonical := by
  induction x0 generalizing x1 with
  | zero => simp (maxDischargeDepth := 60) [applyWaiting, hc]
  | succ n ih => unfold applyWaiting; (try dsimp only); (repeat' split) <;> simp (maxDischargeDepth := 60) [ih, hc]

set_option maxHeartbeats 80000 in
@[simp] theorem applyAll_canon (s : State) (hc : s.canonical) :
    (applyAll s).canonical := by
  unfold applyAll; simp (maxDischargeDepth := 60) [hc]

set_option maxHeartbeats 80000 in
@[simp] theorem rewriteSet_canon (x : Nat) (bs : List Nat) (s : State) (hc : s.canonical) :
    (rewriteSet x bs s).canonical := by
  unfold rewriteSet; simp (maxDischargeDepth := 60) [hc]

set_option maxHeartbeats 80000 in
@[simp] theorem gatherReads_canon (gi : GatherIn) (s : State) (hc : s.canonical) :
    (gatherReads gi s).canonical := by
  unfold gatherReads; (try dsimp only); (repeat' split) <;> simp_all (maxDischargeDepth := 60)

set_option maxHeartbeats 80000 in
@[simp] theorem rewriteTable_canon (s : State) (hc : s.canonical) :
    (rewriteTable s).canonical := by
  unfold rewriteTable; (try dsimp only); (repeat' split) <;> simp_all (maxDischargeDepth := 60)

set_option maxHeartbeats 80000 in
@[simp] theorem windowLead_canon (n : Int) (s : State) (hc : s.canonical) :
    (windowLead n s).canonical := by
  unfold windowLead; simp (maxDischargeDepth := 60) [hc]

set_option maxHeartbeats 80000 in
@[simp] theorem gatherReasons_canon (gi : GatherIn) (invalid : Bool) (s : State) (hc : s.canonical) :
    (gatherReasons gi invalid s).1.canonical := by
  unfold gatherReasons; simp (maxDischargeDepth := 60) [hc]

set_option maxHeartbeats 80000 in
@[simp] theorem gatherDose_canon (gi : GatherIn) (sh : Shot) (s : State) (hc : s.canonical) :
    (gatherDose gi sh s).1.canonical := by
  unfold gatherDose; simp (maxDischargeDepth := 60) [hc]

set_option maxHeartbeats 80000 in
@[simp] theorem gatherShot_canon (gi : GatherIn) (invalid held : Bool) (sh : Shot) (s : State) (hc : s.canonical) :
    (gatherShot gi invalid held sh s).canonical := by
  unfold gatherShot; (try dsimp only); (repeat' split) <;> simp (maxDischargeDepth := 60) [hc]

set_option maxHeartbeats 80000 in
@[simp] theorem updShot_canon (stripeIdx : Nat) (n : Int) (f : Shot → Shot) (s : State) (hc : s.canonical) :
    (updShot stripeIdx n f s).canonical := by
  unfold updShot; simp (maxDischargeDepth := 60) [hc]

set_option maxHeartbeats 80000 in
@[simp] theorem gatherComplete_canon (n : Int) (margins : List Nat) (s : State) (hc : s.canonical) :
    (gatherComplete n margins s).canonical := by
  unfold gatherComplete; (try dsimp only); (repeat' split) <;> simp_all (maxDischargeDepth := 60)

set_option maxHeartbeats 80000 in
@[simp] theorem laneDeadline_canon (g : Nat) (incomplete : BitVec 64) (s : State) (hc : s.canonical) :
    (laneDeadline g incomplete s).canonical := by
  unfold laneDeadline; (try dsimp only); (repeat' split) <;> simp (maxDischargeDepth := 60) [hc]

set_option maxHeartbeats 80000 in
@[simp] theorem psetCommit_canon (s : State) (hc : s.canonical) :
    (psetCommit s).canonical := by
  unfold psetCommit; simp (maxDischargeDepth := 60) [hc]

set_option maxHeartbeats 80000 in
@[simp] theorem psetSwap_canon (s : State) (hc : s.canonical) :
    (psetSwap s).canonical := by
  unfold psetSwap; (try dsimp only); (repeat' split) <;> simp_all (maxDischargeDepth := 60)

set_option maxHeartbeats 80000 in
@[simp] theorem leadTo_canon (left : Nat) (s : State) (hc : s.canonical) :
    (leadTo left s).canonical := by
  unfold leadTo; simp (maxDischargeDepth := 60) [hc]

set_option maxHeartbeats 80000 in
@[simp] theorem leadSync_canon (s : State) (hc : s.canonical) :
    (leadSync s).canonical := by
  unfold leadSync; simp (maxDischargeDepth := 60) [hc]

set_option maxHeartbeats 80000 in
@[simp] theorem openWindow_canon (i : Nat) (s : State) (hc : s.canonical) :
    (openWindow i s).canonical := by
  unfold openWindow; (repeat' split) <;> simp (maxDischargeDepth := 60) [hc]

set_option maxHeartbeats 80000 in
@[simp] theorem windowAfterGather_canon (stripeIdx : Nat) (n : Int) (s : State) (hc : s.canonical) :
    (windowAfterGather stripeIdx n s).canonical := by
  unfold windowAfterGather; (repeat' split) <;> simp (maxDischargeDepth := 60) [hc]

set_option maxHeartbeats 80000 in
@[simp] theorem placeRow_canon (v : Int) (bytes : List (Nat × Nat)) (bad : List Nat) (s : State) (hc : s.canonical) :
    (placeRow v bytes bad s).canonical := by
  unfold placeRow; simp (maxDischargeDepth := 60) [hc]

set_option maxHeartbeats 80000 in
@[simp] theorem releaseBand_canon (b : Band) (s : State) (hc : s.canonical) :
    (releaseBand b s).canonical := by
  unfold releaseBand; simp (maxDischargeDepth := 60) [hc]

set_option maxHeartbeats 80000 in
@[simp] theorem loadRow_canon (b : Band) (v : Nat) (s : State) (hc : s.canonical) :
    (loadRow b v s).canonical := by
  unfold loadRow; (try dsimp only); (repeat' split) <;> simp_all (maxDischargeDepth := 60)

set_option maxHeartbeats 80000 in
@[simp] theorem windowRow_canon (s : State) (hc : s.canonical) :
    (windowRow s).canonical := by
  unfold windowRow; (try dsimp only); (repeat' split) <;> simp (maxDischargeDepth := 60) [hc]

end Sys2Proof.Machine
end

