-- ==== Sys2Proof/Laws/Frame2.lean ====
section
/-!
SUPPORT. What the operations of these files leave of the state, one lemma per operation, for the simplifier.
-/

namespace Sys2Proof.Machine

set_option Elab.async false

set_option maxHeartbeats 60000 in
@[simp] theorem updStripe_frame (i : Nat) (f : StripeData → StripeData) (s : State) :
    (updStripe i f s).pending = s.pending ∧ (updStripe i f s).mail = s.mail ∧ (updStripe i f s).dram = s.dram ∧ (updStripe i f s).job = s.job ∧ (updStripe i f s).page = s.page ∧ (updStripe i f s).flow = s.flow ∧ (updStripe i f s).prog = s.prog ∧ (updStripe i f s).sec = s.sec ∧ (updStripe i f s).tim = s.tim ∧ (updStripe i f s).ev = s.ev := by
  unfold updStripe; simp

set_option maxHeartbeats 60000 in
@[simp] theorem queueSync_frame (s : State) :
    (queueSync s).pending = s.pending ∧ (queueSync s).mail = s.mail ∧ (queueSync s).dram = s.dram ∧ (queueSync s).job = s.job ∧ (queueSync s).page = s.page ∧ (queueSync s).flow = s.flow ∧ (queueSync s).prog = s.prog ∧ (queueSync s).sec = s.sec ∧ (queueSync s).tim = s.tim ∧ (queueSync s).ev = s.ev := by
  unfold queueSync; simp

set_option maxHeartbeats 60000 in
@[simp] theorem rejectBands_frame (i : Nat) (bs : List Nat) (s : State) :
    (rejectBands i bs s).pending = s.pending ∧ (rejectBands i bs s).dram = s.dram ∧ (rejectBands i bs s).job = s.job ∧ (rejectBands i bs s).page = s.page ∧ (rejectBands i bs s).prog = s.prog ∧ (rejectBands i bs s).sec = s.sec ∧ (rejectBands i bs s).tim = s.tim := by
  unfold rejectBands; (repeat' split) <;> simp

set_option maxHeartbeats 60000 in
@[simp] theorem rasterSync_frame (s : State) :
    (rasterSync s).pending = s.pending ∧ (rasterSync s).mail = s.mail ∧ (rasterSync s).dram = s.dram ∧ (rasterSync s).job = s.job ∧ (rasterSync s).page = s.page ∧ (rasterSync s).flow = s.flow ∧ (rasterSync s).prog = s.prog ∧ (rasterSync s).sec = s.sec ∧ (rasterSync s).tim = s.tim ∧ (rasterSync s).ev = s.ev := by
  unfold rasterSync; simp

set_option maxHeartbeats 60000 in
@[simp] theorem startBand_frame (s : State) :
    (startBand s).pending = s.pending ∧ (startBand s).mail = s.mail ∧ (startBand s).dram = s.dram ∧ (startBand s).job = s.job ∧ (startBand s).page = s.page ∧ (startBand s).flow = s.flow ∧ (startBand s).prog = s.prog ∧ (startBand s).sec = s.sec ∧ (startBand s).tim = s.tim ∧ (startBand s).ev = s.ev := by
  unfold startBand; (repeat' split) <;> simp

set_option maxHeartbeats 60000 in
@[simp] theorem giveTile_frame (s : State) :
    (giveTile s).pending = s.pending ∧ (giveTile s).mail = s.mail ∧ (giveTile s).dram = s.dram ∧ (giveTile s).job = s.job ∧ (giveTile s).page = s.page ∧ (giveTile s).flow = s.flow ∧ (giveTile s).prog = s.prog ∧ (giveTile s).sec = s.sec ∧ (giveTile s).tim = s.tim ∧ (giveTile s).ev = s.ev := by
  unfold giveTile; (repeat' split) <;> simp

set_option maxHeartbeats 60000 in
@[simp] theorem fillCells_frame (x0 : Nat) (x1 : State) :
    (fillCells x0 x1).pending = x1.pending ∧ (fillCells x0 x1).mail = x1.mail ∧ (fillCells x0 x1).dram = x1.dram ∧ (fillCells x0 x1).job = x1.job ∧ (fillCells x0 x1).page = x1.page ∧ (fillCells x0 x1).flow = x1.flow ∧ (fillCells x0 x1).prog = x1.prog ∧ (fillCells x0 x1).sec = x1.sec ∧ (fillCells x0 x1).tim = x1.tim ∧ (fillCells x0 x1).ev = x1.ev := by
  induction x0 generalizing x1 with
  | zero => simp [fillCells]
  | succ n ih => unfold fillCells; (try dsimp only); (repeat' split) <;> simp [ih]

set_option maxHeartbeats 60000 in
@[simp] theorem rasterStart_frame (s : State) :
    (rasterStart s).pending = s.pending ∧ (rasterStart s).mail = s.mail ∧ (rasterStart s).dram = s.dram ∧ (rasterStart s).job = s.job ∧ (rasterStart s).page = s.page ∧ (rasterStart s).flow = s.flow ∧ (rasterStart s).prog = s.prog ∧ (rasterStart s).sec = s.sec ∧ (rasterStart s).tim = s.tim ∧ (rasterStart s).ev = s.ev := by
  unfold rasterStart; simp

set_option maxHeartbeats 60000 in
@[simp] theorem returnQueue_frame (i j : Nat) (s : State) :
    (returnQueue i j s).pending = s.pending ∧ (returnQueue i j s).mail = s.mail ∧ (returnQueue i j s).dram = s.dram ∧ (returnQueue i j s).job = s.job ∧ (returnQueue i j s).page = s.page ∧ (returnQueue i j s).flow = s.flow ∧ (returnQueue i j s).prog = s.prog ∧ (returnQueue i j s).sec = s.sec ∧ (returnQueue i j s).tim = s.tim ∧ (returnQueue i j s).ev = s.ev := by
  unfold returnQueue; simp

set_option maxHeartbeats 60000 in
@[simp] theorem finishBand_frame (c : Render) (rest : List Render) (s : State) :
    (finishBand c rest s).pending = s.pending ∧ (finishBand c rest s).mail = s.mail ∧ (finishBand c rest s).dram = s.dram ∧ (finishBand c rest s).job = s.job ∧ (finishBand c rest s).page = s.page ∧ (finishBand c rest s).flow = s.flow ∧ (finishBand c rest s).prog = s.prog ∧ (finishBand c rest s).sec = s.sec ∧ (finishBand c rest s).tim = s.tim := by
  unfold finishBand; simp

set_option maxHeartbeats 60000 in
@[simp] theorem promote_frame (s : State) :
    (promote s).pending = s.pending ∧ (promote s).mail = s.mail ∧ (promote s).dram = s.dram ∧ (promote s).job = s.job ∧ (promote s).page = s.page ∧ (promote s).flow = s.flow ∧ (promote s).prog = s.prog ∧ (promote s).sec = s.sec ∧ (promote s).tim = s.tim := by
  unfold promote; (repeat' split) <;> simp

set_option maxHeartbeats 60000 in
@[simp] theorem rasterGo_frame (s : State) :
    (rasterGo s).pending = s.pending ∧ (rasterGo s).mail = s.mail ∧ (rasterGo s).dram = s.dram ∧ (rasterGo s).job = s.job ∧ (rasterGo s).page = s.page ∧ (rasterGo s).flow = s.flow ∧ (rasterGo s).prog = s.prog ∧ (rasterGo s).sec = s.sec ∧ (rasterGo s).tim = s.tim := by
  unfold rasterGo; simp

set_option maxHeartbeats 60000 in
@[simp] theorem tileReads_frame (i j : Nat) (s : State) :
    (tileReads i j s).1.pending = s.pending ∧ (tileReads i j s).1.mail = s.mail ∧ (tileReads i j s).1.dram = s.dram ∧ (tileReads i j s).1.job = s.job ∧ (tileReads i j s).1.page = s.page ∧ (tileReads i j s).1.flow = s.flow ∧ (tileReads i j s).1.prog = s.prog ∧ (tileReads i j s).1.sec = s.sec ∧ (tileReads i j s).1.tim = s.tim := by
  unfold tileReads; simp

set_option maxHeartbeats 60000 in
@[simp] theorem tileBuffer_frame (cell : Nat) (s : State) :
    (tileBuffer cell s).pending = s.pending ∧ (tileBuffer cell s).mail = s.mail ∧ (tileBuffer cell s).dram = s.dram ∧ (tileBuffer cell s).job = s.job ∧ (tileBuffer cell s).page = s.page ∧ (tileBuffer cell s).flow = s.flow ∧ (tileBuffer cell s).prog = s.prog ∧ (tileBuffer cell s).sec = s.sec ∧ (tileBuffer cell s).tim = s.tim := by
  unfold tileBuffer; simp

set_option maxHeartbeats 60000 in
@[simp] theorem bandCycles_frame (c : Render) (s : State) :
    (bandCycles c s).pending = s.pending ∧ (bandCycles c s).mail = s.mail ∧ (bandCycles c s).dram = s.dram ∧ (bandCycles c s).job = s.job ∧ (bandCycles c s).page = s.page ∧ (bandCycles c s).flow = s.flow ∧ (bandCycles c s).prog = s.prog ∧ (bandCycles c s).sec = s.sec ∧ (bandCycles c s).tim = s.tim := by
  unfold bandCycles; simp

set_option maxHeartbeats 60000 in
@[simp] theorem tileComplete_frame (cell : Fin 64) (cycles : Nat) (s : State) :
    (tileComplete cell cycles s).pending = s.pending ∧ (tileComplete cell cycles s).mail = s.mail ∧ (tileComplete cell cycles s).dram = s.dram ∧ (tileComplete cell cycles s).job = s.job ∧ (tileComplete cell cycles s).page = s.page ∧ (tileComplete cell cycles s).flow = s.flow ∧ (tileComplete cell cycles s).prog = s.prog ∧ (tileComplete cell cycles s).sec = s.sec ∧ (tileComplete cell cycles s).tim = s.tim := by
  unfold tileComplete; (try dsimp only); (repeat' split) <;> simp

set_option maxHeartbeats 60000 in
@[simp] theorem probeTile_frame (d : StripeData) (p : Pending) (s : State) :
    (probeTile d p s).pending = s.pending ∧ (probeTile d p s).mail = s.mail ∧ (probeTile d p s).dram = s.dram ∧ (probeTile d p s).job = s.job ∧ (probeTile d p s).page = s.page ∧ (probeTile d p s).flow = s.flow ∧ (probeTile d p s).prog = s.prog ∧ (probeTile d p s).sec = s.sec ∧ (probeTile d p s).tim = s.tim ∧ (probeTile d p s).ev = s.ev := by
  unfold probeTile; simp

set_option maxHeartbeats 60000 in
@[simp] theorem writeSlotBytes_frame (n slot : Nat) (bad : List Nat) (s : State) :
    (writeSlotBytes n slot bad s).pending = s.pending ∧ (writeSlotBytes n slot bad s).mail = s.mail ∧ (writeSlotBytes n slot bad s).dram = s.dram ∧ (writeSlotBytes n slot bad s).job = s.job ∧ (writeSlotBytes n slot bad s).page = s.page ∧ (writeSlotBytes n slot bad s).flow = s.flow ∧ (writeSlotBytes n slot bad s).prog = s.prog ∧ (writeSlotBytes n slot bad s).sec = s.sec ∧ (writeSlotBytes n slot bad s).tim = s.tim := by
  unfold writeSlotBytes; simp

set_option maxHeartbeats 60000 in
@[simp] theorem writeSlot_frame (slot : Nat) (bad : List Nat) (s : State) :
    (writeSlot slot bad s).pending = s.pending ∧ (writeSlot slot bad s).mail = s.mail ∧ (writeSlot slot bad s).dram = s.dram ∧ (writeSlot slot bad s).job = s.job ∧ (writeSlot slot bad s).page = s.page ∧ (writeSlot slot bad s).flow = s.flow ∧ (writeSlot slot bad s).prog = s.prog ∧ (writeSlot slot bad s).sec = s.sec ∧ (writeSlot slot bad s).tim = s.tim := by
  unfold writeSlot; simp

set_option maxHeartbeats 60000 in
@[simp] theorem spoilTiles_frame (i j : Nat) (ks : List Nat) (s : State) :
    (spoilTiles i j ks s).pending = s.pending ∧ (spoilTiles i j ks s).mail = s.mail ∧ (spoilTiles i j ks s).dram = s.dram ∧ (spoilTiles i j ks s).job = s.job ∧ (spoilTiles i j ks s).page = s.page ∧ (spoilTiles i j ks s).flow = s.flow ∧ (spoilTiles i j ks s).prog = s.prog ∧ (spoilTiles i j ks s).sec = s.sec ∧ (spoilTiles i j ks s).tim = s.tim ∧ (spoilTiles i j ks s).ev = s.ev := by
  unfold spoilTiles; simp

set_option maxHeartbeats 60000 in
@[simp] theorem readDensities_frame (d : StripeData) (j : Nat) (s : State) :
    (readDensities d j s).pending = s.pending ∧ (readDensities d j s).mail = s.mail ∧ (readDensities d j s).dram = s.dram ∧ (readDensities d j s).job = s.job ∧ (readDensities d j s).page = s.page ∧ (readDensities d j s).flow = s.flow ∧ (readDensities d j s).prog = s.prog ∧ (readDensities d j s).sec = s.sec ∧ (readDensities d j s).tim = s.tim := by
  unfold readDensities; simp

set_option maxHeartbeats 60000 in
@[simp] theorem readPending_frame (d : StripeData) (p : Pending) (s : State) :
    (readPending d p s).1.pending = s.pending ∧ (readPending d p s).1.mail = s.mail ∧ (readPending d p s).1.dram = s.dram ∧ (readPending d p s).1.job = s.job ∧ (readPending d p s).1.page = s.page ∧ (readPending d p s).1.flow = s.flow ∧ (readPending d p s).1.prog = s.prog ∧ (readPending d p s).1.sec = s.sec ∧ (readPending d p s).1.tim = s.tim := by
  unfold readPending; (repeat' split) <;> simp

set_option maxHeartbeats 60000 in
@[simp] theorem finalizeBand_frame (p : Pending) (e : StripeEntry) (s : State) :
    (finalizeBand p e s).pending = s.pending ∧ (finalizeBand p e s).mail = s.mail ∧ (finalizeBand p e s).dram = s.dram ∧ (finalizeBand p e s).job = s.job ∧ (finalizeBand p e s).page = s.page ∧ (finalizeBand p e s).flow = s.flow ∧ (finalizeBand p e s).prog = s.prog ∧ (finalizeBand p e s).sec = s.sec ∧ (finalizeBand p e s).tim = s.tim := by
  unfold finalizeBand; simp

set_option maxHeartbeats 60000 in
@[simp] theorem bandFinalize_frame (s : State) :
    (bandFinalize s).pending = s.pending ∧ (bandFinalize s).mail = s.mail ∧ (bandFinalize s).dram = s.dram ∧ (bandFinalize s).job = s.job ∧ (bandFinalize s).page = s.page ∧ (bandFinalize s).flow = s.flow ∧ (bandFinalize s).prog = s.prog ∧ (bandFinalize s).sec = s.sec ∧ (bandFinalize s).tim = s.tim := by
  unfold bandFinalize; (repeat' split) <;> simp

@[simp] theorem storeCells_pending (cs : List Cell) (g n : Nat) (s : State) : (storeCells cs g n s).state.pending = s.pending := by
  induction cs generalizing g n s with
  | nil => rfl
  | cons c cs ih =>
    simp only [storeCells]
    generalize (4194304 : Nat) = k
    split
    · rfl
    · rw [ih]; simp

@[simp] theorem storeCells_mail (cs : List Cell) (g n : Nat) (s : State) : (storeCells cs g n s).state.mail = s.mail := by
  induction cs generalizing g n s with
  | nil => rfl
  | cons c cs ih =>
    simp only [storeCells]
    generalize (4194304 : Nat) = k
    split
    · rfl
    · rw [ih]; simp

@[simp] theorem storeCells_dram (cs : List Cell) (g n : Nat) (s : State) : (storeCells cs g n s).state.dram = s.dram := by
  induction cs generalizing g n s with
  | nil => rfl
  | cons c cs ih =>
    simp only [storeCells]
    generalize (4194304 : Nat) = k
    split
    · rfl
    · rw [ih]; simp

@[simp] theorem storeCells_job (cs : List Cell) (g n : Nat) (s : State) : (storeCells cs g n s).state.job = s.job := by
  induction cs generalizing g n s with
  | nil => rfl
  | cons c cs ih =>
    simp only [storeCells]
    generalize (4194304 : Nat) = k
    split
    · rfl
    · rw [ih]; simp

@[simp] theorem storeCells_page (cs : List Cell) (g n : Nat) (s : State) : (storeCells cs g n s).state.page = s.page := by
  induction cs generalizing g n s with
  | nil => rfl
  | cons c cs ih =>
    simp only [storeCells]
    generalize (4194304 : Nat) = k
    split
    · rfl
    · rw [ih]; simp

@[simp] theorem storeCells_flow (cs : List Cell) (g n : Nat) (s : State) : (storeCells cs g n s).state.flow = s.flow := by
  induction cs generalizing g n s with
  | nil => rfl
  | cons c cs ih =>
    simp only [storeCells]
    generalize (4194304 : Nat) = k
    split
    · rfl
    · rw [ih]; simp

@[simp] theorem storeCells_prog (cs : List Cell) (g n : Nat) (s : State) : (storeCells cs g n s).state.prog = s.prog := by
  induction cs generalizing g n s with
  | nil => rfl
  | cons c cs ih =>
    simp only [storeCells]
    generalize (4194304 : Nat) = k
    split
    · rfl
    · rw [ih]; simp

@[simp] theorem storeCells_sec (cs : List Cell) (g n : Nat) (s : State) : (storeCells cs g n s).state.sec = s.sec := by
  induction cs generalizing g n s with
  | nil => rfl
  | cons c cs ih =>
    simp only [storeCells]
    generalize (4194304 : Nat) = k
    split
    · rfl
    · rw [ih]; simp

@[simp] theorem storeCells_tim (cs : List Cell) (g n : Nat) (s : State) : (storeCells cs g n s).state.tim = s.tim := by
  induction cs generalizing g n s with
  | nil => rfl
  | cons c cs ih =>
    simp only [storeCells]
    generalize (4194304 : Nat) = k
    split
    · rfl
    · rw [ih]; simp


set_option maxHeartbeats 60000 in
@[simp] theorem cacheSync_frame (s : State) :
    (cacheSync s).pending = s.pending ∧ (cacheSync s).mail = s.mail ∧ (cacheSync s).dram = s.dram ∧ (cacheSync s).job = s.job ∧ (cacheSync s).page = s.page ∧ (cacheSync s).flow = s.flow ∧ (cacheSync s).prog = s.prog ∧ (cacheSync s).sec = s.sec ∧ (cacheSync s).tim = s.tim ∧ (cacheSync s).ev = s.ev := by
  unfold cacheSync; simp

set_option maxHeartbeats 60000 in
@[simp] theorem markCells_frame (ids : List Nat) (s : State) :
    (markCells ids s).pending = s.pending ∧ (markCells ids s).mail = s.mail ∧ (markCells ids s).dram = s.dram ∧ (markCells ids s).job = s.job ∧ (markCells ids s).page = s.page ∧ (markCells ids s).flow = s.flow ∧ (markCells ids s).prog = s.prog ∧ (markCells ids s).sec = s.sec ∧ (markCells ids s).tim = s.tim ∧ (markCells ids s).ev = s.ev := by
  unfold markCells; simp

set_option maxHeartbeats 60000 in
@[simp] theorem stopSkiver_frame (seq g n : Nat) (s : State) :
    (stopSkiver seq g n s).pending = s.pending ∧ (stopSkiver seq g n s).mail = s.mail ∧ (stopSkiver seq g n s).dram = s.dram ∧ (stopSkiver seq g n s).job = s.job ∧ (stopSkiver seq g n s).page = s.page ∧ (stopSkiver seq g n s).flow = s.flow ∧ (stopSkiver seq g n s).prog = s.prog ∧ (stopSkiver seq g n s).sec = s.sec ∧ (stopSkiver seq g n s).tim = s.tim := by
  unfold stopSkiver; simp

set_option maxHeartbeats 60000 in
@[simp] theorem evictCells_frame (ids : List Nat) (s : State) :
    (evictCells ids s).pending = s.pending ∧ (evictCells ids s).mail = s.mail ∧ (evictCells ids s).dram = s.dram ∧ (evictCells ids s).job = s.job ∧ (evictCells ids s).page = s.page ∧ (evictCells ids s).flow = s.flow ∧ (evictCells ids s).prog = s.prog ∧ (evictCells ids s).sec = s.sec ∧ (evictCells ids s).tim = s.tim ∧ (evictCells ids s).ev = s.ev := by
  unfold evictCells; simp

set_option maxHeartbeats 60000 in
@[simp] theorem returnGranules_frame (s : State) :
    (returnGranules s).pending = s.pending ∧ (returnGranules s).mail = s.mail ∧ (returnGranules s).dram = s.dram ∧ (returnGranules s).job = s.job ∧ (returnGranules s).page = s.page ∧ (returnGranules s).flow = s.flow ∧ (returnGranules s).prog = s.prog ∧ (returnGranules s).sec = s.sec ∧ (returnGranules s).tim = s.tim ∧ (returnGranules s).ev = s.ev := by
  unfold returnGranules; simp

set_option maxHeartbeats 60000 in
@[simp] theorem updBlock_frame (seq : Nat) (f : Blk → Blk) (s : State) :
    (updBlock seq f s).pending = s.pending ∧ (updBlock seq f s).mail = s.mail ∧ (updBlock seq f s).dram = s.dram ∧ (updBlock seq f s).job = s.job ∧ (updBlock seq f s).page = s.page ∧ (updBlock seq f s).flow = s.flow ∧ (updBlock seq f s).prog = s.prog ∧ (updBlock seq f s).sec = s.sec ∧ (updBlock seq f s).tim = s.tim ∧ (updBlock seq f s).ev = s.ev := by
  unfold updBlock; simp

set_option maxHeartbeats 60000 in
@[simp] theorem skiverSync_frame (s : State) :
    (skiverSync s).pending = s.pending ∧ (skiverSync s).mail = s.mail ∧ (skiverSync s).dram = s.dram ∧ (skiverSync s).job = s.job ∧ (skiverSync s).page = s.page ∧ (skiverSync s).flow = s.flow ∧ (skiverSync s).prog = s.prog ∧ (skiverSync s).sec = s.sec ∧ (skiverSync s).tim = s.tim ∧ (skiverSync s).ev = s.ev := by
  unfold skiverSync; simp

set_option maxHeartbeats 60000 in
@[simp] theorem addReject_frame (seq cause off : Nat) (s : State) :
    (addReject seq cause off s).pending = s.pending ∧ (addReject seq cause off s).mail = s.mail ∧ (addReject seq cause off s).dram = s.dram ∧ (addReject seq cause off s).job = s.job ∧ (addReject seq cause off s).page = s.page ∧ (addReject seq cause off s).flow = s.flow ∧ (addReject seq cause off s).prog = s.prog ∧ (addReject seq cause off s).sec = s.sec ∧ (addReject seq cause off s).tim = s.tim ∧ (addReject seq cause off s).ev = s.ev := by
  unfold addReject; simp

set_option maxHeartbeats 60000 in
@[simp] theorem freeStaging_frame (n : Nat) (s : State) :
    (freeStaging n s).pending = s.pending ∧ (freeStaging n s).mail = s.mail ∧ (freeStaging n s).dram = s.dram ∧ (freeStaging n s).job = s.job ∧ (freeStaging n s).page = s.page ∧ (freeStaging n s).flow = s.flow ∧ (freeStaging n s).prog = s.prog ∧ (freeStaging n s).sec = s.sec ∧ (freeStaging n s).tim = s.tim ∧ (freeStaging n s).ev = s.ev := by
  unfold freeStaging; simp

set_option maxHeartbeats 60000 in
@[simp] theorem abandonAt_frame (i : Nat) (s : State) :
    (abandonAt i s).pending = s.pending ∧ (abandonAt i s).dram = s.dram ∧ (abandonAt i s).job = s.job ∧ (abandonAt i s).page = s.page ∧ (abandonAt i s).prog = s.prog ∧ (abandonAt i s).sec = s.sec ∧ (abandonAt i s).tim = s.tim := by
  unfold abandonAt; simp

set_option maxHeartbeats 60000 in
@[simp] theorem abandonStripe_frame (s : State) :
    (abandonStripe s).pending = s.pending ∧ (abandonStripe s).dram = s.dram ∧ (abandonStripe s).job = s.job ∧ (abandonStripe s).page = s.page ∧ (abandonStripe s).prog = s.prog ∧ (abandonStripe s).sec = s.sec ∧ (abandonStripe s).tim = s.tim := by
  unfold abandonStripe; simp

set_option maxHeartbeats 60000 in
@[simp] theorem skiverRestart_frame (s : State) :
    (skiverRestart s).pending = s.pending ∧ (skiverRestart s).mail = s.mail ∧ (skiverRestart s).dram = s.dram ∧ (skiverRestart s).job = s.job ∧ (skiverRestart s).page = s.page ∧ (skiverRestart s).flow = s.flow ∧ (skiverRestart s).prog = s.prog ∧ (skiverRestart s).sec = s.sec ∧ (skiverRestart s).tim = s.tim ∧ (skiverRestart s).ev = s.ev := by
  unfold skiverRestart; simp

set_option maxHeartbeats 60000 in
@[simp] theorem declare_frame (b : Blk) (cause off : Nat) (s : State) :
    (declare b cause off s).pending = s.pending ∧ (declare b cause off s).mail = s.mail ∧ (declare b cause off s).dram = s.dram ∧ (declare b cause off s).job = s.job ∧ (declare b cause off s).page = s.page ∧ (declare b cause off s).flow = s.flow ∧ (declare b cause off s).prog = s.prog ∧ (declare b cause off s).sec = s.sec ∧ (declare b cause off s).tim = s.tim := by
  unfold declare; simp

set_option maxHeartbeats 60000 in
@[simp] theorem unplace_frame (b : Blk) (s : State) :
    (unplace b s).pending = s.pending ∧ (unplace b s).mail = s.mail ∧ (unplace b s).dram = s.dram ∧ (unplace b s).job = s.job ∧ (unplace b s).page = s.page ∧ (unplace b s).flow = s.flow ∧ (unplace b s).prog = s.prog ∧ (unplace b s).sec = s.sec ∧ (unplace b s).tim = s.tim ∧ (unplace b s).ev = s.ev := by
  unfold unplace; simp

set_option maxHeartbeats 60000 in
@[simp] theorem rejectEarly_frame (b : Blk) (cause : Nat) (s : State) :
    (rejectEarly b cause s).pending = s.pending ∧ (rejectEarly b cause s).dram = s.dram ∧ (rejectEarly b cause s).job = s.job ∧ (rejectEarly b cause s).page = s.page ∧ (rejectEarly b cause s).prog = s.prog ∧ (rejectEarly b cause s).sec = s.sec ∧ (rejectEarly b cause s).tim = s.tim := by
  unfold rejectEarly; simp

set_option maxHeartbeats 60000 in
@[simp] theorem rejectLate_frame (b : Blk) (cause off : Nat) (ids : List Nat) (s : State) :
    (rejectLate b cause off ids s).pending = s.pending ∧ (rejectLate b cause off ids s).dram = s.dram ∧ (rejectLate b cause off ids s).job = s.job ∧ (rejectLate b cause off ids s).page = s.page ∧ (rejectLate b cause off ids s).prog = s.prog ∧ (rejectLate b cause off ids s).sec = s.sec ∧ (rejectLate b cause off ids s).tim = s.tim := by
  unfold rejectLate; (repeat' split) <;> simp

set_option maxHeartbeats 60000 in
@[simp] theorem failContent_frame (b : Blk) (cause off : Nat) (s : State) :
    (failContent b cause off s).pending = s.pending ∧ (failContent b cause off s).dram = s.dram ∧ (failContent b cause off s).job = s.job ∧ (failContent b cause off s).page = s.page ∧ (failContent b cause off s).prog = s.prog ∧ (failContent b cause off s).sec = s.sec ∧ (failContent b cause off s).tim = s.tim := by
  unfold failContent; simp

set_option maxHeartbeats 60000 in
@[simp] theorem failReading_frame (b : Blk) (cause off : Nat) (late : Bool) (s : State) :
    (failReading b cause off late s).pending = s.pending ∧ (failReading b cause off late s).dram = s.dram ∧ (failReading b cause off late s).job = s.job ∧ (failReading b cause off late s).page = s.page ∧ (failReading b cause off late s).prog = s.prog ∧ (failReading b cause off late s).sec = s.sec ∧ (failReading b cause off late s).tim = s.tim := by
  unfold failReading; simp

set_option maxHeartbeats 60000 in
@[simp] theorem readParts_frame (port : Nat) (ps : List (Nat × Nat)) (s : State) :
    (readParts port ps s).pending = s.pending ∧ (readParts port ps s).mail = s.mail ∧ (readParts port ps s).dram = s.dram ∧ (readParts port ps s).job = s.job ∧ (readParts port ps s).page = s.page ∧ (readParts port ps s).flow = s.flow ∧ (readParts port ps s).prog = s.prog ∧ (readParts port ps s).sec = s.sec ∧ (readParts port ps s).tim = s.tim := by
  unfold readParts; simp

set_option maxHeartbeats 60000 in
@[simp] theorem writeParts_frame (port : Nat) (ps : List (Nat × Nat)) (s : State) :
    (writeParts port ps s).pending = s.pending ∧ (writeParts port ps s).mail = s.mail ∧ (writeParts port ps s).dram = s.dram ∧ (writeParts port ps s).job = s.job ∧ (writeParts port ps s).page = s.page ∧ (writeParts port ps s).flow = s.flow ∧ (writeParts port ps s).prog = s.prog ∧ (writeParts port ps s).sec = s.sec ∧ (writeParts port ps s).tim = s.tim := by
  unfold writeParts; simp

set_option maxHeartbeats 60000 in
@[simp] theorem dictionaries_frame (s : State) :
    (dictionaries s).pending = s.pending ∧ (dictionaries s).mail = s.mail ∧ (dictionaries s).dram = s.dram ∧ (dictionaries s).job = s.job ∧ (dictionaries s).page = s.page ∧ (dictionaries s).flow = s.flow ∧ (dictionaries s).prog = s.prog ∧ (dictionaries s).sec = s.sec ∧ (dictionaries s).tim = s.tim := by
  unfold dictionaries; simp

set_option maxHeartbeats 60000 in
@[simp] theorem takeBack_frame (b : Blk) (s : State) :
    (takeBack b s).pending = s.pending ∧ (takeBack b s).dram = s.dram ∧ (takeBack b s).job = s.job ∧ (takeBack b s).page = s.page ∧ (takeBack b s).prog = s.prog ∧ (takeBack b s).sec = s.sec ∧ (takeBack b s).tim = s.tim := by
  unfold takeBack; simp

set_option maxHeartbeats 60000 in
@[simp] theorem replaceFrom_frame (b : Blk) (s : State) :
    (replaceFrom b s).pending = s.pending ∧ (replaceFrom b s).dram = s.dram ∧ (replaceFrom b s).job = s.job ∧ (replaceFrom b s).page = s.page ∧ (replaceFrom b s).prog = s.prog ∧ (replaceFrom b s).sec = s.sec ∧ (replaceFrom b s).tim = s.tim := by
  unfold replaceFrom; (try dsimp only); (repeat' split) <;> simp [-List.foldl_reverse, -List.foldl_append]

set_option maxHeartbeats 60000 in
@[simp] theorem passReading_frame (b : Blk) (h : BlockHdr) (plain : List Byte) (s : State) :
    (passReading b h plain s).pending = s.pending ∧ (passReading b h plain s).dram = s.dram ∧ (passReading b h plain s).job = s.job ∧ (passReading b h plain s).page = s.page ∧ (passReading b h plain s).prog = s.prog ∧ (passReading b h plain s).sec = s.sec ∧ (passReading b h plain s).tim = s.tim := by
  unfold passReading; simp

set_option maxHeartbeats 60000 in
@[simp] theorem checkReading_frame (b : Blk) (s : State) :
    (checkReading b s).pending = s.pending ∧ (checkReading b s).dram = s.dram ∧ (checkReading b s).job = s.job ∧ (checkReading b s).page = s.page ∧ (checkReading b s).prog = s.prog ∧ (checkReading b s).sec = s.sec ∧ (checkReading b s).tim = s.tim := by
  unfold checkReading; (try dsimp only); (repeat' split) <;> simp

set_option maxHeartbeats 60000 in
@[simp] theorem noteFirst_frame (i seq : Nat) (s : State) :
    (noteFirst i seq s).pending = s.pending ∧ (noteFirst i seq s).mail = s.mail ∧ (noteFirst i seq s).dram = s.dram ∧ (noteFirst i seq s).job = s.job ∧ (noteFirst i seq s).page = s.page ∧ (noteFirst i seq s).flow = s.flow ∧ (noteFirst i seq s).prog = s.prog ∧ (noteFirst i seq s).sec = s.sec ∧ (noteFirst i seq s).tim = s.tim ∧ (noteFirst i seq s).ev = s.ev := by
  unfold noteFirst; simp

set_option maxHeartbeats 60000 in
@[simp] theorem discardBlock_frame (b : Blk) (dup : Bool) (s : State) :
    (discardBlock b dup s).pending = s.pending ∧ (discardBlock b dup s).mail = s.mail ∧ (discardBlock b dup s).dram = s.dram ∧ (discardBlock b dup s).job = s.job ∧ (discardBlock b dup s).page = s.page ∧ (discardBlock b dup s).flow = s.flow ∧ (discardBlock b dup s).prog = s.prog ∧ (discardBlock b dup s).sec = s.sec ∧ (discardBlock b dup s).tim = s.tim ∧ (discardBlock b dup s).ev = s.ev := by
  unfold discardBlock; simp

set_option maxHeartbeats 60000 in
@[simp] theorem placeStripeBlock_frame (b : Blk) (i : Nat) (e : StripeEntry) (s : State) :
    (placeStripeBlock b i e s).pending = s.pending ∧ (placeStripeBlock b i e s).dram = s.dram ∧ (placeStripeBlock b i e s).job = s.job ∧ (placeStripeBlock b i e s).page = s.page ∧ (placeStripeBlock b i e s).prog = s.prog ∧ (placeStripeBlock b i e s).sec = s.sec ∧ (placeStripeBlock b i e s).tim = s.tim := by
  unfold placeStripeBlock; simp

set_option maxHeartbeats 60000 in
@[simp] theorem checkRecords_frame (b : Blk) (s : State) :
    (checkRecords b s).pending = s.pending ∧ (checkRecords b s).dram = s.dram ∧ (checkRecords b s).job = s.job ∧ (checkRecords b s).page = s.page ∧ (checkRecords b s).prog = s.prog ∧ (checkRecords b s).sec = s.sec ∧ (checkRecords b s).tim = s.tim := by
  unfold checkRecords; (try dsimp only); (repeat' split) <;> simp

set_option maxHeartbeats 60000 in
@[simp] theorem afterPlace_frame (seq : Nat) (s : State) :
    (afterPlace seq s).pending = s.pending ∧ (afterPlace seq s).dram = s.dram ∧ (afterPlace seq s).job = s.job ∧ (afterPlace seq s).page = s.page ∧ (afterPlace seq s).prog = s.prog ∧ (afterPlace seq s).sec = s.sec ∧ (afterPlace seq s).tim = s.tim := by
  unfold afterPlace; (repeat' split) <;> simp

set_option maxHeartbeats 60000 in
@[simp] theorem placeBlock_frame (b : Blk) (s : State) :
    (placeBlock b s).pending = s.pending ∧ (placeBlock b s).dram = s.dram ∧ (placeBlock b s).job = s.job ∧ (placeBlock b s).page = s.page ∧ (placeBlock b s).prog = s.prog ∧ (placeBlock b s).sec = s.sec ∧ (placeBlock b s).tim = s.tim := by
  unfold placeBlock; (repeat' split) <;> simp

set_option maxHeartbeats 60000 in
@[simp] theorem placeLoop_frame (x0 : Nat) (x1 : State) :
    (placeLoop x0 x1).pending = x1.pending ∧ (placeLoop x0 x1).dram = x1.dram ∧ (placeLoop x0 x1).job = x1.job ∧ (placeLoop x0 x1).page = x1.page ∧ (placeLoop x0 x1).prog = x1.prog ∧ (placeLoop x0 x1).sec = x1.sec ∧ (placeLoop x0 x1).tim = x1.tim := by
  induction x0 generalizing x1 with
  | zero => simp [placeLoop]
  | succ n ih => unfold placeLoop; (try dsimp only); (repeat' split) <;> simp [ih]

set_option maxHeartbeats 60000 in
@[simp] theorem completeBands_frame (b : Blk) (s : State) :
    (completeBands b s).pending = s.pending ∧ (completeBands b s).dram = s.dram ∧ (completeBands b s).job = s.job ∧ (completeBands b s).page = s.page ∧ (completeBands b s).flow = s.flow ∧ (completeBands b s).prog = s.prog ∧ (completeBands b s).sec = s.sec ∧ (completeBands b s).tim = s.tim ∧ (completeBands b s).ev = s.ev := by
  unfold completeBands; simp

set_option maxHeartbeats 60000 in
@[simp] theorem consume_frame (b : Blk) (s : State) :
    (consume b s).pending = s.pending ∧ (consume b s).mail = s.mail ∧ (consume b s).dram = s.dram ∧ (consume b s).job = s.job ∧ (consume b s).page = s.page ∧ (consume b s).flow = s.flow ∧ (consume b s).prog = s.prog ∧ (consume b s).sec = s.sec ∧ (consume b s).tim = s.tim ∧ (consume b s).ev = s.ev := by
  unfold consume; simp

set_option maxHeartbeats 60000 in
@[simp] theorem checkMap_frame (b : Blk) (d : StripeData) (s : State) :
    (checkMap b d s).pending = s.pending ∧ (checkMap b d s).dram = s.dram ∧ (checkMap b d s).job = s.job ∧ (checkMap b d s).page = s.page ∧ (checkMap b d s).prog = s.prog ∧ (checkMap b d s).sec = s.sec ∧ (checkMap b d s).tim = s.tim := by
  unfold checkMap; (repeat' split) <;> simp

set_option maxHeartbeats 60000 in
@[simp] theorem checkRejected_frame (b : Blk) (s : State) :
    (checkRejected b s).pending = s.pending ∧ (checkRejected b s).dram = s.dram ∧ (checkRejected b s).job = s.job ∧ (checkRejected b s).page = s.page ∧ (checkRejected b s).prog = s.prog ∧ (checkRejected b s).sec = s.sec ∧ (checkRejected b s).tim = s.tim := by
  unfold checkRejected; simp

set_option maxHeartbeats 60000 in
@[simp] theorem consumeLoop_frame (x0 : Nat) (x1 : State) :
    (consumeLoop x0 x1).pending = x1.pending ∧ (consumeLoop x0 x1).dram = x1.dram ∧ (consumeLoop x0 x1).job = x1.job ∧ (consumeLoop x0 x1).page = x1.page ∧ (consumeLoop x0 x1).prog = x1.prog ∧ (consumeLoop x0 x1).sec = x1.sec ∧ (consumeLoop x0 x1).tim = x1.tim := by
  induction x0 generalizing x1 with
  | zero => simp [consumeLoop]
  | succ n ih => unfold consumeLoop; (try dsimp only); (repeat' split) <;> simp [ih]

set_option maxHeartbeats 60000 in
@[simp] theorem ingestPump_frame (s : State) :
    (ingestPump s).pending = s.pending ∧ (ingestPump s).dram = s.dram ∧ (ingestPump s).job = s.job ∧ (ingestPump s).page = s.page ∧ (ingestPump s).prog = s.prog ∧ (ingestPump s).sec = s.sec ∧ (ingestPump s).tim = s.tim := by
  unfold ingestPump; simp

set_option maxHeartbeats 60000 in
@[simp] theorem landBlock_frame (c addr units ringAt : Nat) (bytes : List Byte) (s : State) :
    (landBlock c addr units ringAt bytes s).pending = s.pending ∧ (landBlock c addr units ringAt bytes s).dram = s.dram ∧ (landBlock c addr units ringAt bytes s).job = s.job ∧ (landBlock c addr units ringAt bytes s).page = s.page ∧ (landBlock c addr units ringAt bytes s).prog = s.prog ∧ (landBlock c addr units ringAt bytes s).sec = s.sec ∧ (landBlock c addr units ringAt bytes s).tim = s.tim := by
  unfold landBlock; (repeat' split) <;> simp

set_option maxHeartbeats 60000 in
@[simp] theorem blockRefetched_frame (seq : Nat) (bytes : List Byte) (s : State) :
    (blockRefetched seq bytes s).pending = s.pending ∧ (blockRefetched seq bytes s).dram = s.dram ∧ (blockRefetched seq bytes s).job = s.job ∧ (blockRefetched seq bytes s).page = s.page ∧ (blockRefetched seq bytes s).prog = s.prog ∧ (blockRefetched seq bytes s).sec = s.sec ∧ (blockRefetched seq bytes s).tim = s.tim := by
  unfold blockRefetched; (repeat' split) <;> simp

set_option maxHeartbeats 60000 in
@[simp] theorem decodeStart_frame (seq : Nat) (s : State) :
    (decodeStart seq s).pending = s.pending ∧ (decodeStart seq s).dram = s.dram ∧ (decodeStart seq s).job = s.job ∧ (decodeStart seq s).page = s.page ∧ (decodeStart seq s).prog = s.prog ∧ (decodeStart seq s).sec = s.sec ∧ (decodeStart seq s).tim = s.tim := by
  unfold decodeStart; (repeat' split) <;> simp

set_option maxHeartbeats 60000 in
@[simp] theorem storeQueue_frame (b : Blk) (s : State) :
    (storeQueue b s).pending = s.pending ∧ (storeQueue b s).mail = s.mail ∧ (storeQueue b s).dram = s.dram ∧ (storeQueue b s).job = s.job ∧ (storeQueue b s).page = s.page ∧ (storeQueue b s).flow = s.flow ∧ (storeQueue b s).prog = s.prog ∧ (storeQueue b s).sec = s.sec ∧ (storeQueue b s).tim = s.tim := by
  unfold storeQueue; simp

set_option maxHeartbeats 60000 in
@[simp] theorem checkContent_frame (b : Blk) (content : List Byte) (s : State) :
    (checkContent b content s).pending = s.pending ∧ (checkContent b content s).dram = s.dram ∧ (checkContent b content s).job = s.job ∧ (checkContent b content s).page = s.page ∧ (checkContent b content s).prog = s.prog ∧ (checkContent b content s).sec = s.sec ∧ (checkContent b content s).tim = s.tim := by
  unfold checkContent; simp

set_option maxHeartbeats 60000 in
@[simp] theorem cellsStored_frame (b : Blk) (cells : List Cell) (s : State) :
    (cellsStored b cells s).pending = s.pending ∧ (cellsStored b cells s).mail = s.mail ∧ (cellsStored b cells s).dram = s.dram ∧ (cellsStored b cells s).job = s.job ∧ (cellsStored b cells s).page = s.page ∧ (cellsStored b cells s).flow = s.flow ∧ (cellsStored b cells s).prog = s.prog ∧ (cellsStored b cells s).sec = s.sec ∧ (cellsStored b cells s).tim = s.tim := by
  unfold cellsStored; simp

set_option maxHeartbeats 60000 in
@[simp] theorem commitCells_frame (b : Blk) (s : State) :
    (commitCells b s).pending = s.pending ∧ (commitCells b s).dram = s.dram ∧ (commitCells b s).job = s.job ∧ (commitCells b s).page = s.page ∧ (commitCells b s).prog = s.prog ∧ (commitCells b s).sec = s.sec ∧ (commitCells b s).tim = s.tim := by
  unfold commitCells; (try dsimp only); (repeat' split) <;> simp

set_option maxHeartbeats 60000 in
@[simp] theorem commitDensity_frame (b : Blk) (s : State) :
    (commitDensity b s).pending = s.pending ∧ (commitDensity b s).mail = s.mail ∧ (commitDensity b s).dram = s.dram ∧ (commitDensity b s).job = s.job ∧ (commitDensity b s).page = s.page ∧ (commitDensity b s).flow = s.flow ∧ (commitDensity b s).prog = s.prog ∧ (commitDensity b s).sec = s.sec ∧ (commitDensity b s).tim = s.tim := by
  unfold commitDensity; simp

set_option maxHeartbeats 60000 in
@[simp] theorem commitPrologue_frame (b : Blk) (s : State) :
    (commitPrologue b s).pending = s.pending ∧ (commitPrologue b s).dram = s.dram ∧ (commitPrologue b s).job = s.job ∧ (commitPrologue b s).page = s.page ∧ (commitPrologue b s).prog = s.prog ∧ (commitPrologue b s).sec = s.sec ∧ (commitPrologue b s).tim = s.tim := by
  unfold commitPrologue; simp

set_option maxHeartbeats 60000 in
@[simp] theorem commitGeometry_frame (b : Blk) (s : State) :
    (commitGeometry b s).pending = s.pending ∧ (commitGeometry b s).dram = s.dram ∧ (commitGeometry b s).job = s.job ∧ (commitGeometry b s).page = s.page ∧ (commitGeometry b s).prog = s.prog ∧ (commitGeometry b s).sec = s.sec ∧ (commitGeometry b s).tim = s.tim := by
  unfold commitGeometry; (try dsimp only); (repeat' split) <;> simp

set_option maxHeartbeats 60000 in
@[simp] theorem commitBlock_frame (b : Blk) (s : State) :
    (commitBlock b s).pending = s.pending ∧ (commitBlock b s).dram = s.dram ∧ (commitBlock b s).job = s.job ∧ (commitBlock b s).page = s.page ∧ (commitBlock b s).prog = s.prog ∧ (commitBlock b s).sec = s.sec ∧ (commitBlock b s).tim = s.tim := by
  unfold commitBlock; (repeat' split) <;> simp

set_option maxHeartbeats 60000 in
@[simp] theorem blockCommit_frame (s : State) :
    (blockCommit s).pending = s.pending ∧ (blockCommit s).dram = s.dram ∧ (blockCommit s).job = s.job ∧ (blockCommit s).page = s.page ∧ (blockCommit s).prog = s.prog ∧ (blockCommit s).sec = s.sec ∧ (blockCommit s).tim = s.tim := by
  unfold blockCommit; (repeat' split) <;> simp

set_option maxHeartbeats 60000 in
@[simp] theorem ringRead_frame (b : Blk) (s : State) :
    (ringRead b s).1.pending = s.pending ∧ (ringRead b s).1.mail = s.mail ∧ (ringRead b s).1.dram = s.dram ∧ (ringRead b s).1.job = s.job ∧ (ringRead b s).1.page = s.page ∧ (ringRead b s).1.flow = s.flow ∧ (ringRead b s).1.prog = s.prog ∧ (ringRead b s).1.sec = s.sec ∧ (ringRead b s).1.tim = s.tim := by
  unfold ringRead; (try dsimp only); (repeat' split) <;> simp

set_option maxHeartbeats 60000 in
@[simp] theorem retryStopped_frame (b : Blk) (s : State) :
    (retryStopped b s).pending = s.pending ∧ (retryStopped b s).dram = s.dram ∧ (retryStopped b s).job = s.job ∧ (retryStopped b s).page = s.page ∧ (retryStopped b s).prog = s.prog ∧ (retryStopped b s).sec = s.sec ∧ (retryStopped b s).tim = s.tim := by
  unfold retryStopped; (try dsimp only); (repeat' split) <;> simp

set_option maxHeartbeats 60000 in
@[simp] theorem commitStopped_frame (s : State) :
    (commitStopped s).pending = s.pending ∧ (commitStopped s).dram = s.dram ∧ (commitStopped s).job = s.job ∧ (commitStopped s).page = s.page ∧ (commitStopped s).prog = s.prog ∧ (commitStopped s).sec = s.sec ∧ (commitStopped s).tim = s.tim := by
  unfold commitStopped; (repeat' split) <;> simp

set_option maxHeartbeats 60000 in
@[simp] theorem decodeBlock_frame (b : Blk) (plain : List Byte) (s : State) :
    (decodeBlock b plain s).pending = s.pending ∧ (decodeBlock b plain s).dram = s.dram ∧ (decodeBlock b plain s).job = s.job ∧ (decodeBlock b plain s).page = s.page ∧ (decodeBlock b plain s).prog = s.prog ∧ (decodeBlock b plain s).sec = s.sec ∧ (decodeBlock b plain s).tim = s.tim := by
  unfold decodeBlock; (repeat' split) <;> simp

set_option maxHeartbeats 60000 in
@[simp] theorem decoded_frame (b : Blk) (s : State) :
    (decoded b s).pending = s.pending ∧ (decoded b s).dram = s.dram ∧ (decoded b s).job = s.job ∧ (decoded b s).page = s.page ∧ (decoded b s).prog = s.prog ∧ (decoded b s).sec = s.sec ∧ (decoded b s).tim = s.tim := by
  unfold decoded; (try dsimp only); (repeat' split) <;> simp

set_option maxHeartbeats 60000 in
@[simp] theorem decodeComplete_frame (seq : Nat) (s : State) :
    (decodeComplete seq s).pending = s.pending ∧ (decodeComplete seq s).dram = s.dram ∧ (decodeComplete seq s).job = s.job ∧ (decodeComplete seq s).page = s.page ∧ (decodeComplete seq s).prog = s.prog ∧ (decodeComplete seq s).sec = s.sec ∧ (decodeComplete seq s).tim = s.tim := by
  unfold decodeComplete; (repeat' split) <;> simp

set_option maxHeartbeats 60000 in
@[simp] theorem granuleReturn_frame (s : State) :
    (granuleReturn s).pending = s.pending ∧ (granuleReturn s).dram = s.dram ∧ (granuleReturn s).job = s.job ∧ (granuleReturn s).page = s.page ∧ (granuleReturn s).prog = s.prog ∧ (granuleReturn s).sec = s.sec ∧ (granuleReturn s).tim = s.tim := by
  unfold granuleReturn; simp

set_option maxHeartbeats 60000 in
@[simp] theorem updDma_frame (c : Nat) (f : DmaChan → DmaChan) (s : State) :
    (updDma c f s).pending = s.pending ∧ (updDma c f s).mail = s.mail ∧ (updDma c f s).dram = s.dram ∧ (updDma c f s).job = s.job ∧ (updDma c f s).page = s.page ∧ (updDma c f s).flow = s.flow ∧ (updDma c f s).prog = s.prog ∧ (updDma c f s).sec = s.sec ∧ (updDma c f s).tim = s.tim ∧ (updDma c f s).ev = s.ev := by
  unfold updDma; simp

set_option maxHeartbeats 60000 in
@[simp] theorem setDma_frame (c st : Nat) (s : State) :
    (setDma c st s).pending = s.pending ∧ (setDma c st s).mail = s.mail ∧ (setDma c st s).dram = s.dram ∧ (setDma c st s).job = s.job ∧ (setDma c st s).page = s.page ∧ (setDma c st s).flow = s.flow ∧ (setDma c st s).prog = s.prog ∧ (setDma c st s).sec = s.sec ∧ (setDma c st s).tim = s.tim ∧ (setDma c st s).ev = s.ev := by
  unfold setDma; simp

set_option maxHeartbeats 60000 in
@[simp] theorem issueReads_frame (x0 : Nat) (x1 : State) :
    (issueReads x0 x1).pending = x1.pending ∧ (issueReads x0 x1).mail = x1.mail ∧ (issueReads x0 x1).dram = x1.dram ∧ (issueReads x0 x1).job = x1.job ∧ (issueReads x0 x1).page = x1.page ∧ (issueReads x0 x1).flow = x1.flow ∧ (issueReads x0 x1).prog = x1.prog ∧ (issueReads x0 x1).sec = x1.sec ∧ (issueReads x0 x1).tim = x1.tim ∧ (issueReads x0 x1).ev = x1.ev := by
  induction x0 generalizing x1 with
  | zero => simp [issueReads]
  | succ n ih => unfold issueReads; (try dsimp only); (repeat' split) <;> simp [ih]

set_option maxHeartbeats 60000 in
@[simp] theorem readAhead_frame (c : Nat) (s : State) :
    (readAhead c s).pending = s.pending ∧ (readAhead c s).mail = s.mail ∧ (readAhead c s).dram = s.dram ∧ (readAhead c s).job = s.job ∧ (readAhead c s).page = s.page ∧ (readAhead c s).flow = s.flow ∧ (readAhead c s).prog = s.prog ∧ (readAhead c s).sec = s.sec ∧ (readAhead c s).tim = s.tim := by
  unfold readAhead; simp

set_option maxHeartbeats 60000 in
@[simp] theorem dmaGoesOn_frame (s : State) :
    (dmaGoesOn s).pending = s.pending ∧ (dmaGoesOn s).mail = s.mail ∧ (dmaGoesOn s).dram = s.dram ∧ (dmaGoesOn s).job = s.job ∧ (dmaGoesOn s).page = s.page ∧ (dmaGoesOn s).flow = s.flow ∧ (dmaGoesOn s).prog = s.prog ∧ (dmaGoesOn s).sec = s.sec ∧ (dmaGoesOn s).tim = s.tim := by
  unfold dmaGoesOn; simp

set_option maxHeartbeats 60000 in
@[simp] theorem releaseReads_frame (c n : Nat) (s : State) :
    (releaseReads c n s).pending = s.pending ∧ (releaseReads c n s).mail = s.mail ∧ (releaseReads c n s).dram = s.dram ∧ (releaseReads c n s).job = s.job ∧ (releaseReads c n s).page = s.page ∧ (releaseReads c n s).flow = s.flow ∧ (releaseReads c n s).prog = s.prog ∧ (releaseReads c n s).sec = s.sec ∧ (releaseReads c n s).tim = s.tim ∧ (releaseReads c n s).ev = s.ev := by
  unfold releaseReads; simp

set_option maxHeartbeats 60000 in
@[simp] theorem dropReads_frame (c : Nat) (s : State) :
    (dropReads c s).pending = s.pending ∧ (dropReads c s).mail = s.mail ∧ (dropReads c s).dram = s.dram ∧ (dropReads c s).job = s.job ∧ (dropReads c s).page = s.page ∧ (dropReads c s).flow = s.flow ∧ (dropReads c s).prog = s.prog ∧ (dropReads c s).sec = s.sec ∧ (dropReads c s).tim = s.tim ∧ (dropReads c s).ev = s.ev := by
  unfold dropReads; simp

set_option maxHeartbeats 60000 in
@[simp] theorem haltDma_frame (c code addr : Nat) (s : State) :
    (haltDma c code addr s).pending = s.pending ∧ (haltDma c code addr s).mail = s.mail ∧ (haltDma c code addr s).dram = s.dram ∧ (haltDma c code addr s).job = s.job ∧ (haltDma c code addr s).page = s.page ∧ (haltDma c code addr s).flow = s.flow ∧ (haltDma c code addr s).prog = s.prog ∧ (haltDma c code addr s).sec = s.sec ∧ (haltDma c code addr s).tim = s.tim := by
  unfold haltDma; simp

set_option maxHeartbeats 60000 in
@[simp] theorem dropHeld_frame (c : Nat) (s : State) :
    (dropHeld c s).pending = s.pending ∧ (dropHeld c s).mail = s.mail ∧ (dropHeld c s).dram = s.dram ∧ (dropHeld c s).job = s.job ∧ (dropHeld c s).page = s.page ∧ (dropHeld c s).flow = s.flow ∧ (dropHeld c s).prog = s.prog ∧ (dropHeld c s).sec = s.sec ∧ (dropHeld c s).tim = s.tim ∧ (dropHeld c s).ev = s.ev := by
  unfold dropHeld; (try dsimp only); (repeat' split) <;> simp

set_option maxHeartbeats 60000 in
@[simp] theorem idleDma_frame (c : Nat) (s : State) :
    (idleDma c s).pending = s.pending ∧ (idleDma c s).mail = s.mail ∧ (idleDma c s).dram = s.dram ∧ (idleDma c s).job = s.job ∧ (idleDma c s).page = s.page ∧ (idleDma c s).flow = s.flow ∧ (idleDma c s).prog = s.prog ∧ (idleDma c s).sec = s.sec ∧ (idleDma c s).tim = s.tim ∧ (idleDma c s).ev = s.ev := by
  unfold idleDma; simp

set_option maxHeartbeats 60000 in
@[simp] theorem fetchDesc_frame (c addr : Nat) (s : State) :
    (fetchDesc c addr s).pending = s.pending ∧ (fetchDesc c addr s).mail = s.mail ∧ (fetchDesc c addr s).dram = s.dram ∧ (fetchDesc c addr s).job = s.job ∧ (fetchDesc c addr s).page = s.page ∧ (fetchDesc c addr s).flow = s.flow ∧ (fetchDesc c addr s).prog = s.prog ∧ (fetchDesc c addr s).sec = s.sec ∧ (fetchDesc c addr s).tim = s.tim := by
  unfold fetchDesc; simp

set_option maxHeartbeats 60000 in
@[simp] theorem startStaging_frame (c : Nat) (d : Desc) (s : State) :
    (startStaging c d s).pending = s.pending ∧ (startStaging c d s).mail = s.mail ∧ (startStaging c d s).dram = s.dram ∧ (startStaging c d s).job = s.job ∧ (startStaging c d s).page = s.page ∧ (startStaging c d s).flow = s.flow ∧ (startStaging c d s).prog = s.prog ∧ (startStaging c d s).sec = s.sec ∧ (startStaging c d s).tim = s.tim := by
  unfold startStaging; simp

set_option maxHeartbeats 60000 in
@[simp] theorem startDesc_frame (c : Nat) (d : Desc) (s : State) :
    (startDesc c d s).pending = s.pending ∧ (startDesc c d s).mail = s.mail ∧ (startDesc c d s).dram = s.dram ∧ (startDesc c d s).job = s.job ∧ (startDesc c d s).page = s.page ∧ (startDesc c d s).flow = s.flow ∧ (startDesc c d s).prog = s.prog ∧ (startDesc c d s).sec = s.sec ∧ (startDesc c d s).tim = s.tim := by
  unfold startDesc; simp

set_option maxHeartbeats 60000 in
@[simp] theorem tailLoop_frame (c : Nat) (s : State) :
    (tailLoop c s).pending = s.pending := by
  unfold tailLoop; simp

set_option maxHeartbeats 60000 in
@[simp] theorem turnDesc_frame (c : Nat) (d : Desc) (s : State) :
    (turnDesc c d s).pending = s.pending ∧ (turnDesc c d s).mail = s.mail ∧ (turnDesc c d s).dram = s.dram ∧ (turnDesc c d s).job = s.job ∧ (turnDesc c d s).page = s.page ∧ (turnDesc c d s).flow = s.flow ∧ (turnDesc c d s).prog = s.prog ∧ (turnDesc c d s).sec = s.sec ∧ (turnDesc c d s).tim = s.tim := by
  unfold turnDesc; simp

set_option maxHeartbeats 60000 in
@[simp] theorem turnFailed_frame (c addr : Nat) (s : State) :
    (turnFailed c addr s).pending = s.pending ∧ (turnFailed c addr s).mail = s.mail ∧ (turnFailed c addr s).dram = s.dram ∧ (turnFailed c addr s).job = s.job ∧ (turnFailed c addr s).page = s.page ∧ (turnFailed c addr s).flow = s.flow ∧ (turnFailed c addr s).prog = s.prog ∧ (turnFailed c addr s).sec = s.sec ∧ (turnFailed c addr s).tim = s.tim := by
  unfold turnFailed; simp

set_option maxHeartbeats 60000 in
@[simp] theorem rereadDone_frame (c next : Nat) (s : State) :
    (rereadDone c next s).pending = s.pending := by
  unfold rereadDone; simp

set_option maxHeartbeats 60000 in
@[simp] theorem fetchedAhead_frame (c : Nat) (read : HostRead) (s : State) :
    (fetchedAhead c read s).pending = s.pending ∧ (fetchedAhead c read s).mail = s.mail ∧ (fetchedAhead c read s).dram = s.dram ∧ (fetchedAhead c read s).job = s.job ∧ (fetchedAhead c read s).page = s.page ∧ (fetchedAhead c read s).flow = s.flow ∧ (fetchedAhead c read s).prog = s.prog ∧ (fetchedAhead c read s).sec = s.sec ∧ (fetchedAhead c read s).tim = s.tim ∧ (fetchedAhead c read s).ev = s.ev := by
  unfold fetchedAhead; (try dsimp only); (repeat' split) <;> simp

set_option maxHeartbeats 60000 in
@[simp] theorem descFetched_frame (c : Nat) (read : HostRead) (s : State) :
    (descFetched c read s).pending = s.pending := by
  unfold descFetched; (try dsimp only); (repeat' split) <;> simp

set_option maxHeartbeats 60000 in
@[simp] theorem chainOn_frame (c : Nat) (d : Desc) (s : State) :
    (chainOn c d s).pending = s.pending := by
  unfold chainOn; (try dsimp only); (repeat' split) <;> simp

set_option maxHeartbeats 60000 in
@[simp] theorem descDone_frame (c : Nat) (d : Desc) (s : State) :
    (descDone c d s).pending = s.pending := by
  unfold descDone; simp

set_option maxHeartbeats 60000 in
@[simp] theorem bytesMoved_frame (c n : Nat) (s : State) :
    (bytesMoved c n s).pending = s.pending ∧ (bytesMoved c n s).mail = s.mail ∧ (bytesMoved c n s).dram = s.dram ∧ (bytesMoved c n s).job = s.job ∧ (bytesMoved c n s).page = s.page ∧ (bytesMoved c n s).flow = s.flow ∧ (bytesMoved c n s).prog = s.prog ∧ (bytesMoved c n s).sec = s.sec ∧ (bytesMoved c n s).tim = s.tim ∧ (bytesMoved c n s).ev = s.ev := by
  unfold bytesMoved; simp

set_option maxHeartbeats 60000 in
@[simp] theorem landInput_frame (c : Nat) (d : Desc) (x0 : Nat) (x1 : List (List Byte)) (x2 : State) :
    (landInput c d x0 x1 x2).pending = x2.pending := by
  induction x0 generalizing x1 x2 with
  | zero => simp [landInput]
  | succ n ih =>
    cases x1 with
    | nil => simp [landInput]
    | cons b bs => unfold landInput; (try dsimp only); (repeat' split) <;> simp [ih]

set_option maxHeartbeats 60000 in
@[simp] theorem landStaging_frame (c : Nat) (d : Desc) (bs : List Byte) (s : State) :
    (landStaging c d bs s).pending = s.pending := by
  unfold landStaging; simp

@[simp] theorem endDiag_pending (c : Nat) (d : Desc) (g : State → State) (s : State)
    (h : ∀ u t, g u = t → t.pending = u.pending) : (endDiag c d g s).pending = s.pending := by
  unfold endDiag; dsimp only; split
  · rw [h _ _ rfl]; simp
  · simp

@[simp] theorem endDiag_mail (c : Nat) (d : Desc) (g : State → State) (s : State)
    (h : ∀ u t, g u = t → t.mail = u.mail) : (endDiag c d g s).mail = s.mail := by
  unfold endDiag; dsimp only; split
  · rw [h _ _ rfl]; simp
  · simp

@[simp] theorem endDiag_dram (c : Nat) (d : Desc) (g : State → State) (s : State)
    (h : ∀ u t, g u = t → t.dram = u.dram) : (endDiag c d g s).dram = s.dram := by
  unfold endDiag; dsimp only; split
  · rw [h _ _ rfl]; simp
  · simp

@[simp] theorem endDiag_job (c : Nat) (d : Desc) (g : State → State) (s : State)
    (h : ∀ u t, g u = t → t.job = u.job) : (endDiag c d g s).job = s.job := by
  unfold endDiag; dsimp only; split
  · rw [h _ _ rfl]; simp
  · simp

@[simp] theorem endDiag_page (c : Nat) (d : Desc) (g : State → State) (s : State)
    (h : ∀ u t, g u = t → t.page = u.page) : (endDiag c d g s).page = s.page := by
  unfold endDiag; dsimp only; split
  · rw [h _ _ rfl]; simp
  · simp

@[simp] theorem endDiag_flow (c : Nat) (d : Desc) (g : State → State) (s : State)
    (h : ∀ u t, g u = t → t.flow = u.flow) : (endDiag c d g s).flow = s.flow := by
  unfold endDiag; dsimp only; split
  · rw [h _ _ rfl]; simp
  · simp

@[simp] theorem endDiag_prog (c : Nat) (d : Desc) (g : State → State) (s : State)
    (h : ∀ u t, g u = t → t.prog = u.prog) : (endDiag c d g s).prog = s.prog := by
  unfold endDiag; dsimp only; split
  · rw [h _ _ rfl]; simp
  · simp

@[simp] theorem endDiag_sec (c : Nat) (d : Desc) (g : State → State) (s : State)
    (h : ∀ u t, g u = t → t.sec = u.sec) : (endDiag c d g s).sec = s.sec := by
  unfold endDiag; dsimp only; split
  · rw [h _ _ rfl]; simp
  · simp

@[simp] theorem endDiag_tim (c : Nat) (d : Desc) (g : State → State) (s : State)
    (h : ∀ u t, g u = t → t.tim = u.tim) : (endDiag c d g s).tim = s.tim := by
  unfold endDiag; dsimp only; split
  · rw [h _ _ rfl]; simp
  · simp


set_option maxHeartbeats 60000 in
@[simp] theorem landPart_frame (c : Nat) (d : Desc) (i : Nat) (bs : List Byte) (s : State) :
    (landPart c d i bs s).pending = s.pending ∧ (landPart c d i bs s).mail = s.mail ∧ (landPart c d i bs s).job = s.job ∧ (landPart c d i bs s).page = s.page ∧ (landPart c d i bs s).flow = s.flow ∧ (landPart c d i bs s).prog = s.prog ∧ (landPart c d i bs s).sec = s.sec ∧ (landPart c d i bs s).tim = s.tim := by
  unfold landPart; simp

@[simp] theorem landParts_pending (c : Nat) (parts : List (Nat × List Byte)) (s : State) : (landParts c parts s).pending = s.pending := by
  unfold landParts
  exact foldl_pending _ _ _ fun s x t e => by subst e; split <;> simp

@[simp] theorem landParts_mail (c : Nat) (parts : List (Nat × List Byte)) (s : State) : (landParts c parts s).mail = s.mail := by
  unfold landParts
  exact foldl_mail _ _ _ fun s x t e => by subst e; split <;> simp

@[simp] theorem landParts_job (c : Nat) (parts : List (Nat × List Byte)) (s : State) : (landParts c parts s).job = s.job := by
  unfold landParts
  exact foldl_job _ _ _ fun s x t e => by subst e; split <;> simp

@[simp] theorem landParts_page (c : Nat) (parts : List (Nat × List Byte)) (s : State) : (landParts c parts s).page = s.page := by
  unfold landParts
  exact foldl_page _ _ _ fun s x t e => by subst e; split <;> simp

@[simp] theorem landParts_flow (c : Nat) (parts : List (Nat × List Byte)) (s : State) : (landParts c parts s).flow = s.flow := by
  unfold landParts
  exact foldl_flow _ _ _ fun s x t e => by subst e; split <;> simp

@[simp] theorem landParts_prog (c : Nat) (parts : List (Nat × List Byte)) (s : State) : (landParts c parts s).prog = s.prog := by
  unfold landParts
  exact foldl_prog _ _ _ fun s x t e => by subst e; split <;> simp

@[simp] theorem landParts_sec (c : Nat) (parts : List (Nat × List Byte)) (s : State) : (landParts c parts s).sec = s.sec := by
  unfold landParts
  exact foldl_sec _ _ _ fun s x t e => by subst e; split <;> simp

@[simp] theorem landParts_tim (c : Nat) (parts : List (Nat × List Byte)) (s : State) : (landParts c parts s).tim = s.tim := by
  unfold landParts
  exact foldl_tim _ _ _ fun s x t e => by subst e; split <;> simp


set_option maxHeartbeats 60000 in
@[simp] theorem descComplete_frame (c : Nat) (xfer : HostXfer) (s : State) :
    (descComplete c xfer s).pending = s.pending := by
  unfold descComplete; (try dsimp only); (repeat' split) <;> simp

set_option maxHeartbeats 60000 in
@[simp] theorem stagingRoom_frame (c : Nat) (s : State) :
    (stagingRoom c s).pending = s.pending ∧ (stagingRoom c s).mail = s.mail ∧ (stagingRoom c s).dram = s.dram ∧ (stagingRoom c s).job = s.job ∧ (stagingRoom c s).page = s.page ∧ (stagingRoom c s).flow = s.flow ∧ (stagingRoom c s).prog = s.prog ∧ (stagingRoom c s).sec = s.sec ∧ (stagingRoom c s).tim = s.tim := by
  unfold stagingRoom; (repeat' split) <;> simp

set_option maxHeartbeats 60000 in
@[simp] theorem dmaStart_frame (c : Nat) (s : State) :
    (dmaStart c s).pending = s.pending ∧ (dmaStart c s).mail = s.mail ∧ (dmaStart c s).dram = s.dram ∧ (dmaStart c s).job = s.job ∧ (dmaStart c s).page = s.page ∧ (dmaStart c s).flow = s.flow ∧ (dmaStart c s).prog = s.prog ∧ (dmaStart c s).sec = s.sec ∧ (dmaStart c s).tim = s.tim := by
  unfold dmaStart; simp

set_option maxHeartbeats 60000 in
@[simp] theorem dmaRetry_frame (c : Nat) (s : State) :
    (dmaRetry c s).pending = s.pending ∧ (dmaRetry c s).mail = s.mail ∧ (dmaRetry c s).dram = s.dram ∧ (dmaRetry c s).job = s.job ∧ (dmaRetry c s).page = s.page ∧ (dmaRetry c s).flow = s.flow ∧ (dmaRetry c s).prog = s.prog ∧ (dmaRetry c s).sec = s.sec ∧ (dmaRetry c s).tim = s.tim := by
  unfold dmaRetry; (try dsimp only); (repeat' split) <;> simp

set_option maxHeartbeats 60000 in
@[simp] theorem dmaStop_frame (c : Nat) (s : State) :
    (dmaStop c s).pending = s.pending ∧ (dmaStop c s).mail = s.mail ∧ (dmaStop c s).dram = s.dram ∧ (dmaStop c s).job = s.job ∧ (dmaStop c s).page = s.page ∧ (dmaStop c s).flow = s.flow ∧ (dmaStop c s).prog = s.prog ∧ (dmaStop c s).sec = s.sec ∧ (dmaStop c s).tim = s.tim ∧ (dmaStop c s).ev = s.ev := by
  unfold dmaStop; simp

set_option maxHeartbeats 60000 in
@[simp] theorem dmaAppend_frame (c : Nat) (s : State) :
    (dmaAppend c s).pending = s.pending := by
  unfold dmaAppend; simp

set_option maxHeartbeats 60000 in
@[simp] theorem stopAllDma_frame (s : State) :
    (stopAllDma s).pending = s.pending ∧ (stopAllDma s).mail = s.mail ∧ (stopAllDma s).dram = s.dram ∧ (stopAllDma s).job = s.job ∧ (stopAllDma s).page = s.page ∧ (stopAllDma s).flow = s.flow ∧ (stopAllDma s).prog = s.prog ∧ (stopAllDma s).sec = s.sec ∧ (stopAllDma s).tim = s.tim ∧ (stopAllDma s).ev = s.ev := by
  unfold stopAllDma; simp

set_option maxHeartbeats 60000 in
@[simp] theorem aerError_frame (s : State) :
    (aerError s).pending = s.pending ∧ (aerError s).mail = s.mail ∧ (aerError s).dram = s.dram ∧ (aerError s).job = s.job ∧ (aerError s).page = s.page ∧ (aerError s).flow = s.flow ∧ (aerError s).prog = s.prog ∧ (aerError s).sec = s.sec ∧ (aerError s).tim = s.tim := by
  unfold aerError; simp

set_option maxHeartbeats 60000 in
@[simp] theorem chkResult_frame (u : Nat) (s : State) :
    (chkResult u s).pending = s.pending ∧ (chkResult u s).mail = s.mail ∧ (chkResult u s).dram = s.dram ∧ (chkResult u s).job = s.job ∧ (chkResult u s).page = s.page ∧ (chkResult u s).flow = s.flow ∧ (chkResult u s).prog = s.prog ∧ (chkResult u s).sec = s.sec ∧ (chkResult u s).tim = s.tim ∧ (chkResult u s).ev = s.ev := by
  unfold chkResult; simp

set_option maxHeartbeats 60000 in
@[simp] theorem chkDrop_frame (u : Nat) (s : State) :
    (chkDrop u s).pending = s.pending ∧ (chkDrop u s).mail = s.mail ∧ (chkDrop u s).dram = s.dram ∧ (chkDrop u s).job = s.job ∧ (chkDrop u s).page = s.page ∧ (chkDrop u s).flow = s.flow ∧ (chkDrop u s).prog = s.prog ∧ (chkDrop u s).sec = s.sec ∧ (chkDrop u s).tim = s.tim ∧ (chkDrop u s).ev = s.ev := by
  unfold chkDrop; simp

set_option maxHeartbeats 60000 in
@[simp] theorem chkStart_frame (u : Nat) (byHost : Bool) (s : State) :
    (chkStart u byHost s).pending = s.pending ∧ (chkStart u byHost s).mail = s.mail ∧ (chkStart u byHost s).dram = s.dram ∧ (chkStart u byHost s).job = s.job ∧ (chkStart u byHost s).page = s.page ∧ (chkStart u byHost s).flow = s.flow ∧ (chkStart u byHost s).prog = s.prog ∧ (chkStart u byHost s).sec = s.sec ∧ (chkStart u byHost s).tim = s.tim ∧ (chkStart u byHost s).ev = s.ev := by
  unfold chkStart; simp

set_option maxHeartbeats 60000 in
@[simp] theorem chkFeed_frame (u : Nat) (byHost : Bool) (bs : List Byte) (s : State) :
    (chkFeed u byHost bs s).pending = s.pending ∧ (chkFeed u byHost bs s).mail = s.mail ∧ (chkFeed u byHost bs s).dram = s.dram ∧ (chkFeed u byHost bs s).job = s.job ∧ (chkFeed u byHost bs s).page = s.page ∧ (chkFeed u byHost bs s).flow = s.flow ∧ (chkFeed u byHost bs s).prog = s.prog ∧ (chkFeed u byHost bs s).sec = s.sec ∧ (chkFeed u byHost bs s).tim = s.tim ∧ (chkFeed u byHost bs s).ev = s.ev := by
  unfold chkFeed; simp

set_option maxHeartbeats 60000 in
@[simp] theorem chkCapture_frame (u k : Nat) (s : State) :
    (chkCapture u k s).pending = s.pending ∧ (chkCapture u k s).mail = s.mail ∧ (chkCapture u k s).dram = s.dram ∧ (chkCapture u k s).job = s.job ∧ (chkCapture u k s).page = s.page ∧ (chkCapture u k s).flow = s.flow ∧ (chkCapture u k s).prog = s.prog ∧ (chkCapture u k s).sec = s.sec ∧ (chkCapture u k s).tim = s.tim ∧ (chkCapture u k s).ev = s.ev := by
  unfold chkCapture; simp

set_option maxHeartbeats 60000 in
@[simp] theorem assertCut_frame (r : Reason) (t : Int) (s : State) :
    (assertCut r t s).pending = s.pending ∧ (assertCut r t s).mail = s.mail ∧ (assertCut r t s).dram = s.dram ∧ (assertCut r t s).job = s.job ∧ (assertCut r t s).page = s.page ∧ (assertCut r t s).flow = s.flow ∧ (assertCut r t s).prog = s.prog ∧ (assertCut r t s).sec = s.sec := by
  unfold assertCut; (repeat' split) <;> simp

set_option maxHeartbeats 60000 in
@[simp] theorem assertBlank_frame (s : State) :
    (assertBlank s).pending = s.pending ∧ (assertBlank s).mail = s.mail ∧ (assertBlank s).dram = s.dram ∧ (assertBlank s).job = s.job ∧ (assertBlank s).page = s.page ∧ (assertBlank s).flow = s.flow ∧ (assertBlank s).prog = s.prog ∧ (assertBlank s).sec = s.sec ∧ (assertBlank s).tim = s.tim ∧ (assertBlank s).ev = s.ev := by
  unfold assertBlank; simp

set_option maxHeartbeats 60000 in
@[simp] theorem exposeOn_frame (s : State) :
    (exposeOn s).pending = s.pending ∧ (exposeOn s).mail = s.mail ∧ (exposeOn s).dram = s.dram ∧ (exposeOn s).job = s.job ∧ (exposeOn s).page = s.page ∧ (exposeOn s).flow = s.flow ∧ (exposeOn s).prog = s.prog ∧ (exposeOn s).sec = s.sec ∧ (exposeOn s).tim = s.tim ∧ (exposeOn s).ev = s.ev := by
  unfold exposeOn; simp

set_option maxHeartbeats 60000 in
@[simp] theorem exposeOff_frame (s : State) :
    (exposeOff s).pending = s.pending ∧ (exposeOff s).mail = s.mail ∧ (exposeOff s).dram = s.dram ∧ (exposeOff s).job = s.job ∧ (exposeOff s).page = s.page ∧ (exposeOff s).flow = s.flow ∧ (exposeOff s).prog = s.prog ∧ (exposeOff s).sec = s.sec ∧ (exposeOff s).tim = s.tim ∧ (exposeOff s).ev = s.ev := by
  unfold exposeOff; simp

set_option maxHeartbeats 60000 in
@[simp] theorem declareLinkLoss_frame (t : Int) (s : State) :
    (declareLinkLoss t s).pending = s.pending ∧ (declareLinkLoss t s).mail = s.mail ∧ (declareLinkLoss t s).dram = s.dram ∧ (declareLinkLoss t s).job = s.job ∧ (declareLinkLoss t s).page = s.page ∧ (declareLinkLoss t s).flow = s.flow ∧ (declareLinkLoss t s).prog = s.prog ∧ (declareLinkLoss t s).sec = s.sec := by
  unfold declareLinkLoss; simp

set_option maxHeartbeats 60000 in
@[simp] theorem countCleanSlot_frame (s : State) :
    (countCleanSlot s).pending = s.pending ∧ (countCleanSlot s).mail = s.mail ∧ (countCleanSlot s).dram = s.dram ∧ (countCleanSlot s).job = s.job ∧ (countCleanSlot s).page = s.page ∧ (countCleanSlot s).flow = s.flow ∧ (countCleanSlot s).prog = s.prog ∧ (countCleanSlot s).sec = s.sec ∧ (countCleanSlot s).tim = s.tim ∧ (countCleanSlot s).ev = s.ev := by
  unfold countCleanSlot; simp

set_option maxHeartbeats 60000 in
@[simp] theorem updLane_frame (l : Nat) (f : Lane → Lane) (s : State) :
    (updLane l f s).pending = s.pending ∧ (updLane l f s).mail = s.mail ∧ (updLane l f s).dram = s.dram ∧ (updLane l f s).job = s.job ∧ (updLane l f s).page = s.page ∧ (updLane l f s).flow = s.flow ∧ (updLane l f s).prog = s.prog ∧ (updLane l f s).sec = s.sec ∧ (updLane l f s).tim = s.tim ∧ (updLane l f s).ev = s.ev := by
  unfold updLane; simp

set_option maxHeartbeats 60000 in
@[simp] theorem countEcho_frame (l : Nat) (ty : FrameType) (shot : Nat) (c : EchoClass) (cut : Bool) (t : Int) (s : State) :
    (countEcho l ty shot c cut t s).pending = s.pending ∧ (countEcho l ty shot c cut t s).mail = s.mail ∧ (countEcho l ty shot c cut t s).dram = s.dram ∧ (countEcho l ty shot c cut t s).job = s.job ∧ (countEcho l ty shot c cut t s).page = s.page ∧ (countEcho l ty shot c cut t s).flow = s.flow ∧ (countEcho l ty shot c cut t s).prog = s.prog ∧ (countEcho l ty shot c cut t s).sec = s.sec := by
  unfold countEcho; simp

set_option maxHeartbeats 60000 in
@[simp] theorem recordLatency_frame (base t : Int) (s : State) :
    (recordLatency base t s).pending = s.pending ∧ (recordLatency base t s).mail = s.mail ∧ (recordLatency base t s).dram = s.dram ∧ (recordLatency base t s).job = s.job ∧ (recordLatency base t s).page = s.page ∧ (recordLatency base t s).flow = s.flow ∧ (recordLatency base t s).prog = s.prog ∧ (recordLatency base t s).sec = s.sec ∧ (recordLatency base t s).tim = s.tim := by
  unfold recordLatency; simp

set_option maxHeartbeats 60000 in
@[simp] theorem resetChk_frame (us : List Nat) (s : State) :
    (resetChk us s).pending = s.pending ∧ (resetChk us s).mail = s.mail ∧ (resetChk us s).dram = s.dram ∧ (resetChk us s).job = s.job ∧ (resetChk us s).page = s.page ∧ (resetChk us s).flow = s.flow ∧ (resetChk us s).prog = s.prog ∧ (resetChk us s).sec = s.sec ∧ (resetChk us s).tim = s.tim ∧ (resetChk us s).ev = s.ev := by
  unfold resetChk; simp

set_option maxHeartbeats 60000 in
@[simp] theorem loseLocks_frame (s : State) :
    (loseLocks s).pending = s.pending ∧ (loseLocks s).mail = s.mail ∧ (loseLocks s).dram = s.dram ∧ (loseLocks s).job = s.job ∧ (loseLocks s).page = s.page ∧ (loseLocks s).flow = s.flow ∧ (loseLocks s).prog = s.prog ∧ (loseLocks s).sec = s.sec ∧ (loseLocks s).ev = s.ev := by
  unfold loseLocks; simp

set_option maxHeartbeats 60000 in
@[simp] theorem dropStart_frame (s : State) :
    (dropStart s).pending = s.pending ∧ (dropStart s).mail = s.mail ∧ (dropStart s).dram = s.dram ∧ (dropStart s).job = s.job ∧ (dropStart s).page = s.page ∧ (dropStart s).prog = s.prog ∧ (dropStart s).sec = s.sec ∧ (dropStart s).tim = s.tim ∧ (dropStart s).ev = s.ev := by
  unfold dropStart; simp

set_option maxHeartbeats 60000 in
@[simp] theorem notWatchdog_frame (s : State) :
    (notWatchdog s).pending = s.pending ∧ (notWatchdog s).mail = s.mail ∧ (notWatchdog s).dram = s.dram ∧ (notWatchdog s).job = s.job ∧ (notWatchdog s).page = s.page ∧ (notWatchdog s).flow = s.flow ∧ (notWatchdog s).prog = s.prog ∧ (notWatchdog s).sec = s.sec ∧ (notWatchdog s).tim = s.tim ∧ (notWatchdog s).ev = s.ev := by
  unfold notWatchdog; simp

set_option maxHeartbeats 60000 in
@[simp] theorem startRestart_frame (after : Mode) (s : State) :
    (startRestart after s).pending = s.pending ∧ (startRestart after s).dram = s.dram ∧ (startRestart after s).job = s.job ∧ (startRestart after s).page = s.page ∧ (startRestart after s).sec = s.sec := by
  unfold startRestart; (try dsimp only); (repeat' split) <;> simp

end Sys2Proof.Machine
end

