-- ==== Sys2Proof/Laws/Canon2.lean ====
section
/-!
SUPPORT. The canonical form is kept by the operations of these files, one lemma per operation, for the simplifier.
-/

namespace Sys2Proof.Machine

set_option Elab.async false

set_option maxHeartbeats 80000 in
@[simp] theorem updStripe_canon (i : Nat) (f : StripeData → StripeData) (s : State) (hc : s.canonical) :
    (updStripe i f s).canonical := by
  unfold updStripe; simp (maxDischargeDepth := 60) [hc]

set_option maxHeartbeats 80000 in
@[simp] theorem queueSync_canon (s : State) (hc : s.canonical) :
    (queueSync s).canonical := by
  unfold queueSync; simp (maxDischargeDepth := 60) [hc]

set_option maxHeartbeats 80000 in
@[simp] theorem rejectBands_canon (i : Nat) (bs : List Nat) (s : State) (hc : s.canonical) :
    (rejectBands i bs s).canonical := by
  unfold rejectBands; (try dsimp only); (repeat' split) <;> simp_all (maxDischargeDepth := 60)

set_option maxHeartbeats 80000 in
@[simp] theorem rasterSync_canon (s : State) (hc : s.canonical) :
    (rasterSync s).canonical := by
  unfold rasterSync; simp (maxDischargeDepth := 60) [hc]

set_option maxHeartbeats 80000 in
@[simp] theorem startBand_canon (s : State) (hc : s.canonical) :
    (startBand s).canonical := by
  unfold startBand; (repeat' split) <;> simp (maxDischargeDepth := 60) [hc]

set_option maxHeartbeats 80000 in
@[simp] theorem giveTile_canon (s : State) (hc : s.canonical) :
    (giveTile s).canonical := by
  unfold giveTile; (repeat' split) <;> simp (maxDischargeDepth := 60) [hc]

set_option maxHeartbeats 80000 in
@[simp] theorem fillCells_canon (x0 : Nat) (x1 : State) (hc : x1.canonical) :
    (fillCells x0 x1).canonical := by
  induction x0 generalizing x1 with
  | zero => simp (maxDischargeDepth := 60) [fillCells, hc]
  | succ n ih => unfold fillCells; (try dsimp only); (repeat' split) <;> simp (maxDischargeDepth := 60) [ih, hc]

set_option maxHeartbeats 80000 in
@[simp] theorem rasterStart_canon (s : State) (hc : s.canonical) :
    (rasterStart s).canonical := by
  unfold rasterStart; simp (maxDischargeDepth := 60) [hc]

set_option maxHeartbeats 80000 in
@[simp] theorem returnQueue_canon (i j : Nat) (s : State) (hc : s.canonical) :
    (returnQueue i j s).canonical := by
  unfold returnQueue; simp (maxDischargeDepth := 60) [hc]

set_option maxHeartbeats 80000 in
@[simp] theorem finishBand_canon (c : Render) (rest : List Render) (s : State) (hc : s.canonical) :
    (finishBand c rest s).canonical := by
  unfold finishBand; simp (maxDischargeDepth := 60) [hc]

set_option maxHeartbeats 80000 in
@[simp] theorem promote_canon (s : State) (hc : s.canonical) :
    (promote s).canonical := by
  unfold promote; (repeat' split) <;> simp (maxDischargeDepth := 60) [hc]

set_option maxHeartbeats 80000 in
@[simp] theorem rasterGo_canon (s : State) (hc : s.canonical) :
    (rasterGo s).canonical := by
  unfold rasterGo; simp (maxDischargeDepth := 60) [hc]

set_option maxHeartbeats 80000 in
@[simp] theorem tileReads_canon (i j : Nat) (s : State) (hc : s.canonical) :
    (tileReads i j s).1.canonical := by
  unfold tileReads; simp (maxDischargeDepth := 60) [hc]

set_option maxHeartbeats 80000 in
@[simp] theorem tileBuffer_canon (cell : Nat) (s : State) (hc : s.canonical) :
    (tileBuffer cell s).canonical := by
  unfold tileBuffer; simp (maxDischargeDepth := 60) [hc]

set_option maxHeartbeats 80000 in
@[simp] theorem bandCycles_canon (c : Render) (s : State) (hc : s.canonical) :
    (bandCycles c s).canonical := by
  unfold bandCycles; simp (maxDischargeDepth := 60) [hc]

set_option maxHeartbeats 80000 in
@[simp] theorem tileComplete_canon (cell : Fin 64) (cycles : Nat) (s : State) (hc : s.canonical) :
    (tileComplete cell cycles s).canonical := by
  unfold tileComplete; (try dsimp only); (repeat' split) <;> simp (maxDischargeDepth := 60) [hc]

set_option maxHeartbeats 80000 in
@[simp] theorem probeTile_canon (d : StripeData) (p : Pending) (s : State) (hc : s.canonical) :
    (probeTile d p s).canonical := by
  unfold probeTile; simp (maxDischargeDepth := 60) [hc]

set_option maxHeartbeats 80000 in
@[simp] theorem writeSlotBytes_canon (n slot : Nat) (bad : List Nat) (s : State) (hc : s.canonical) :
    (writeSlotBytes n slot bad s).canonical := by
  unfold writeSlotBytes; simp (maxDischargeDepth := 60) [hc]

set_option maxHeartbeats 80000 in
@[simp] theorem writeSlot_canon (slot : Nat) (bad : List Nat) (s : State) (hc : s.canonical) :
    (writeSlot slot bad s).canonical := by
  unfold writeSlot; simp (maxDischargeDepth := 60) [hc]

set_option maxHeartbeats 80000 in
@[simp] theorem spoilTiles_canon (i j : Nat) (ks : List Nat) (s : State) (hc : s.canonical) :
    (spoilTiles i j ks s).canonical := by
  unfold spoilTiles; simp (maxDischargeDepth := 60) [hc]

set_option maxHeartbeats 80000 in
@[simp] theorem readDensities_canon (d : StripeData) (j : Nat) (s : State) (hc : s.canonical) :
    (readDensities d j s).canonical := by
  unfold readDensities; (try dsimp only); (repeat' split) <;> simp_all (maxDischargeDepth := 60)

set_option maxHeartbeats 80000 in
@[simp] theorem readPending_canon (d : StripeData) (p : Pending) (s : State) (hc : s.canonical) :
    (readPending d p s).1.canonical := by
  unfold readPending; (repeat' split) <;> simp (maxDischargeDepth := 60) [hc]

set_option maxHeartbeats 80000 in
@[simp] theorem finalizeBand_canon (p : Pending) (e : StripeEntry) (s : State) (hc : s.canonical) :
    (finalizeBand p e s).canonical := by
  unfold finalizeBand; (try dsimp only); (repeat' split) <;> simp (maxDischargeDepth := 60) [hc]

set_option maxHeartbeats 80000 in
@[simp] theorem bandFinalize_canon (s : State) (hc : s.canonical) :
    (bandFinalize s).canonical := by
  unfold bandFinalize; (repeat' split) <;> simp (maxDischargeDepth := 60) [hc]

@[simp] theorem storeCells_canon (cs : List Cell) (g n : Nat) (s : State) (hc : s.canonical) :
    (storeCells cs g n s).state.canonical := by
  induction cs generalizing g n s with
  | nil => exact hc
  | cons c cs ih =>
    simp only [storeCells]
    generalize (4194304 : Nat) = k
    split
    · exact hc
    · exact ih _ _ _ (writeUnits_canon _ _ _ _ hc)


set_option maxHeartbeats 80000 in
@[simp] theorem cacheSync_canon (s : State) (hc : s.canonical) :
    (cacheSync s).canonical := by
  unfold cacheSync; simp (maxDischargeDepth := 60) [hc]

set_option maxHeartbeats 80000 in
@[simp] theorem markCells_canon (ids : List Nat) (s : State) (hc : s.canonical) :
    (markCells ids s).canonical := by
  unfold markCells; (try dsimp only); (repeat' split) <;> simp_all (maxDischargeDepth := 60)

set_option maxHeartbeats 80000 in
@[simp] theorem stopSkiver_canon (seq g n : Nat) (s : State) (hc : s.canonical) :
    (stopSkiver seq g n s).canonical := by
  unfold stopSkiver; simp (maxDischargeDepth := 60) [hc]

set_option maxHeartbeats 80000 in
@[simp] theorem evictCells_canon (ids : List Nat) (s : State) (hc : s.canonical) :
    (evictCells ids s).canonical := by
  unfold evictCells; simp (maxDischargeDepth := 60) [hc]

set_option maxHeartbeats 80000 in
@[simp] theorem returnGranules_canon (s : State) (hc : s.canonical) :
    (returnGranules s).canonical := by
  unfold returnGranules; simp (maxDischargeDepth := 60) [hc]

set_option maxHeartbeats 80000 in
@[simp] theorem updBlock_canon (seq : Nat) (f : Blk → Blk) (s : State) (hc : s.canonical) :
    (updBlock seq f s).canonical := by
  unfold updBlock; simp (maxDischargeDepth := 60) [hc]

set_option maxHeartbeats 80000 in
@[simp] theorem skiverSync_canon (s : State) (hc : s.canonical) :
    (skiverSync s).canonical := by
  unfold skiverSync; simp (maxDischargeDepth := 60) [hc]

set_option maxHeartbeats 80000 in
@[simp] theorem addReject_canon (seq cause off : Nat) (s : State) (hc : s.canonical) :
    (addReject seq cause off s).canonical := by
  unfold addReject; simp (maxDischargeDepth := 60) [hc]

set_option maxHeartbeats 80000 in
@[simp] theorem freeStaging_canon (n : Nat) (s : State) (hc : s.canonical) :
    (freeStaging n s).canonical := by
  unfold freeStaging; simp (maxDischargeDepth := 60) [hc]

set_option maxHeartbeats 80000 in
@[simp] theorem abandonAt_canon (i : Nat) (s : State) (hc : s.canonical) :
    (abandonAt i s).canonical := by
  unfold abandonAt; simp (maxDischargeDepth := 60) [hc]

set_option maxHeartbeats 80000 in
@[simp] theorem abandonStripe_canon (s : State) (hc : s.canonical) :
    (abandonStripe s).canonical := by
  unfold abandonStripe; simp (maxDischargeDepth := 60) [hc]

set_option maxHeartbeats 80000 in
@[simp] theorem skiverRestart_canon (s : State) (hc : s.canonical) :
    (skiverRestart s).canonical := by
  unfold skiverRestart; simp (maxDischargeDepth := 60) [hc]

set_option maxHeartbeats 80000 in
@[simp] theorem declare_canon (b : Blk) (cause off : Nat) (s : State) (hc : s.canonical) :
    (declare b cause off s).canonical := by
  unfold declare; simp (maxDischargeDepth := 60) [hc]

set_option maxHeartbeats 80000 in
@[simp] theorem unplace_canon (b : Blk) (s : State) (hc : s.canonical) :
    (unplace b s).canonical := by
  unfold unplace; simp (maxDischargeDepth := 60) [hc]

set_option maxHeartbeats 80000 in
@[simp] theorem rejectEarly_canon (b : Blk) (cause : Nat) (s : State) (hc : s.canonical) :
    (rejectEarly b cause s).canonical := by
  unfold rejectEarly; simp (maxDischargeDepth := 60) [hc]

set_option maxHeartbeats 80000 in
@[simp] theorem rejectLate_canon (b : Blk) (cause off : Nat) (ids : List Nat) (s : State) (hc : s.canonical) :
    (rejectLate b cause off ids s).canonical := by
  unfold rejectLate; (repeat' split) <;> simp (maxDischargeDepth := 60) [hc]

set_option maxHeartbeats 80000 in
@[simp] theorem failContent_canon (b : Blk) (cause off : Nat) (s : State) (hc : s.canonical) :
    (failContent b cause off s).canonical := by
  unfold failContent; simp (maxDischargeDepth := 60) [hc]

set_option maxHeartbeats 80000 in
@[simp] theorem failReading_canon (b : Blk) (cause off : Nat) (late : Bool) (s : State) (hc : s.canonical) :
    (failReading b cause off late s).canonical := by
  unfold failReading; simp (maxDischargeDepth := 60) [hc]

set_option maxHeartbeats 80000 in
@[simp] theorem readParts_canon (port : Nat) (ps : List (Nat × Nat)) (s : State) (hc : s.canonical) :
    (readParts port ps s).canonical := by
  unfold readParts; (try dsimp only); (repeat' split) <;> simp_all (maxDischargeDepth := 60)

set_option maxHeartbeats 80000 in
@[simp] theorem writeParts_canon (port : Nat) (ps : List (Nat × Nat)) (s : State) (hc : s.canonical) :
    (writeParts port ps s).canonical := by
  unfold writeParts; (try dsimp only); (repeat' split) <;> simp_all (maxDischargeDepth := 60)

set_option maxHeartbeats 80000 in
@[simp] theorem dictionaries_canon (s : State) (hc : s.canonical) :
    (dictionaries s).canonical := by
  unfold dictionaries; simp (maxDischargeDepth := 60) [hc]

set_option maxHeartbeats 80000 in
@[simp] theorem takeBack_canon (b : Blk) (s : State) (hc : s.canonical) :
    (takeBack b s).canonical := by
  unfold takeBack; simp (maxDischargeDepth := 60) [hc]

set_option maxHeartbeats 80000 in
@[simp] theorem replaceFrom_canon (b : Blk) (s : State) (hc : s.canonical) :
    (replaceFrom b s).canonical := by
  have h : (((s.ingest.blocks.filter fun c => c.stands && decide (b.seq < c.seq)).reverse ++ [b]).foldl (fun s c => takeBack c s) s).canonical :=
    foldl_canon _ _ _ (fun u x t e hu => e ▸ takeBack_canon _ _ hu) hc
  unfold replaceFrom; dsimp only; (repeat' split) <;> exact h

set_option maxHeartbeats 80000 in
@[simp] theorem passReading_canon (b : Blk) (h : BlockHdr) (plain : List Byte) (s : State) (hc : s.canonical) :
    (passReading b h plain s).canonical := by
  unfold passReading; simp (maxDischargeDepth := 60) [hc]

set_option maxHeartbeats 80000 in
@[simp] theorem checkReading_canon (b : Blk) (s : State) (hc : s.canonical) :
    (checkReading b s).canonical := by
  unfold checkReading; (try dsimp only); (repeat' split) <;> simp (maxDischargeDepth := 60) [hc]

set_option maxHeartbeats 80000 in
@[simp] theorem noteFirst_canon (i seq : Nat) (s : State) (hc : s.canonical) :
    (noteFirst i seq s).canonical := by
  unfold noteFirst; simp (maxDischargeDepth := 60) [hc]

set_option maxHeartbeats 80000 in
@[simp] theorem discardBlock_canon (b : Blk) (dup : Bool) (s : State) (hc : s.canonical) :
    (discardBlock b dup s).canonical := by
  unfold discardBlock; simp (maxDischargeDepth := 60) [hc]

set_option maxHeartbeats 80000 in
@[simp] theorem placeStripeBlock_canon (b : Blk) (i : Nat) (e : StripeEntry) (s : State) (hc : s.canonical) :
    (placeStripeBlock b i e s).canonical := by
  unfold placeStripeBlock; simp (maxDischargeDepth := 60) [hc]

set_option maxHeartbeats 80000 in
@[simp] theorem checkRecords_canon (b : Blk) (s : State) (hc : s.canonical) :
    (checkRecords b s).canonical := by
  unfold checkRecords; (try dsimp only); (repeat' split) <;> simp (maxDischargeDepth := 60) [hc]

set_option maxHeartbeats 80000 in
@[simp] theorem afterPlace_canon (seq : Nat) (s : State) (hc : s.canonical) :
    (afterPlace seq s).canonical := by
  unfold afterPlace; (repeat' split) <;> simp (maxDischargeDepth := 60) [hc]

set_option maxHeartbeats 80000 in
@[simp] theorem placeBlock_canon (b : Blk) (s : State) (hc : s.canonical) :
    (placeBlock b s).canonical := by
  unfold placeBlock; (repeat' split) <;> simp (maxDischargeDepth := 60) [hc]

set_option maxHeartbeats 80000 in
@[simp] theorem placeLoop_canon (x0 : Nat) (x1 : State) (hc : x1.canonical) :
    (placeLoop x0 x1).canonical := by
  induction x0 generalizing x1 with
  | zero => simp (maxDischargeDepth := 60) [placeLoop, hc]
  | succ n ih => unfold placeLoop; (try dsimp only); (repeat' split) <;> simp (maxDischargeDepth := 60) [ih, hc]

set_option maxHeartbeats 80000 in
@[simp] theorem completeBands_canon (b : Blk) (s : State) (hc : s.canonical) :
    (completeBands b s).canonical := by
  unfold completeBands; simp (maxDischargeDepth := 60) [hc]

set_option maxHeartbeats 80000 in
@[simp] theorem consume_canon (b : Blk) (s : State) (hc : s.canonical) :
    (consume b s).canonical := by
  unfold consume; simp (maxDischargeDepth := 60) [hc]

set_option maxHeartbeats 80000 in
@[simp] theorem checkMap_canon (b : Blk) (d : StripeData) (s : State) (hc : s.canonical) :
    (checkMap b d s).canonical := by
  unfold checkMap; (repeat' split) <;> simp (maxDischargeDepth := 60) [hc]

set_option maxHeartbeats 80000 in
@[simp] theorem checkRejected_canon (b : Blk) (s : State) (hc : s.canonical) :
    (checkRejected b s).canonical := by
  unfold checkRejected; simp (maxDischargeDepth := 60) [hc]

set_option maxHeartbeats 80000 in
@[simp] theorem consumeLoop_canon (x0 : Nat) (x1 : State) (hc : x1.canonical) :
    (consumeLoop x0 x1).canonical := by
  induction x0 generalizing x1 with
  | zero => simp (maxDischargeDepth := 60) [consumeLoop, hc]
  | succ n ih => unfold consumeLoop; (try dsimp only); (repeat' split) <;> simp (maxDischargeDepth := 60) [ih, hc]

set_option maxHeartbeats 80000 in
@[simp] theorem ingestPump_canon (s : State) (hc : s.canonical) :
    (ingestPump s).canonical := by
  unfold ingestPump; simp (maxDischargeDepth := 60) [hc]

set_option maxHeartbeats 80000 in
@[simp] theorem landBlock_canon (c addr units ringAt : Nat) (bytes : List Byte) (s : State) (hc : s.canonical) :
    (landBlock c addr units ringAt bytes s).canonical := by
  unfold landBlock; (repeat' split) <;> simp (maxDischargeDepth := 60) [hc]

set_option maxHeartbeats 80000 in
@[simp] theorem blockRefetched_canon (seq : Nat) (bytes : List Byte) (s : State) (hc : s.canonical) :
    (blockRefetched seq bytes s).canonical := by
  unfold blockRefetched; (repeat' split) <;> simp (maxDischargeDepth := 60) [hc]

set_option maxHeartbeats 80000 in
@[simp] theorem decodeStart_canon (seq : Nat) (s : State) (hc : s.canonical) :
    (decodeStart seq s).canonical := by
  unfold decodeStart; (repeat' split) <;> simp (maxDischargeDepth := 60) [hc]

set_option maxHeartbeats 80000 in
@[simp] theorem storeQueue_canon (b : Blk) (s : State) (hc : s.canonical) :
    (storeQueue b s).canonical := by
  unfold storeQueue; simp (maxDischargeDepth := 60) [hc]

set_option maxHeartbeats 80000 in
@[simp] theorem checkContent_canon (b : Blk) (content : List Byte) (s : State) (hc : s.canonical) :
    (checkContent b content s).canonical := by
  unfold checkContent; simp (maxDischargeDepth := 60) [hc]

set_option maxHeartbeats 80000 in
@[simp] theorem cellsStored_canon (b : Blk) (cells : List Cell) (s : State) (hc : s.canonical) :
    (cellsStored b cells s).canonical := by
  unfold cellsStored; simp (maxDischargeDepth := 60) [hc]

set_option maxHeartbeats 80000 in
@[simp] theorem commitCells_canon (b : Blk) (s : State) (hc : s.canonical) :
    (commitCells b s).canonical := by
  unfold commitCells; (try dsimp only); (repeat' split) <;> simp (maxDischargeDepth := 60) [hc]

set_option maxHeartbeats 80000 in
@[simp] theorem commitDensity_canon (b : Blk) (s : State) (hc : s.canonical) :
    (commitDensity b s).canonical := by
  unfold commitDensity; simp (maxDischargeDepth := 60) [hc]

set_option maxHeartbeats 80000 in
@[simp] theorem commitPrologue_canon (b : Blk) (s : State) (hc : s.canonical) :
    (commitPrologue b s).canonical := by
  unfold commitPrologue; simp (maxDischargeDepth := 60) [hc]

set_option maxHeartbeats 80000 in
@[simp] theorem commitGeometry_canon (b : Blk) (s : State) (hc : s.canonical) :
    (commitGeometry b s).canonical := by
  unfold commitGeometry; (try dsimp only); (repeat' split) <;> simp (maxDischargeDepth := 60) [hc]

set_option maxHeartbeats 80000 in
@[simp] theorem commitBlock_canon (b : Blk) (s : State) (hc : s.canonical) :
    (commitBlock b s).canonical := by
  unfold commitBlock; (repeat' split) <;> simp (maxDischargeDepth := 60) [hc]

set_option maxHeartbeats 80000 in
@[simp] theorem blockCommit_canon (s : State) (hc : s.canonical) :
    (blockCommit s).canonical := by
  unfold blockCommit; (repeat' split) <;> simp (maxDischargeDepth := 60) [hc]

set_option maxHeartbeats 80000 in
@[simp] theorem ringRead_canon (b : Blk) (s : State) (hc : s.canonical) :
    (ringRead b s).1.canonical := by
  unfold ringRead; (try dsimp only); (repeat' split) <;> simp (maxDischargeDepth := 60) [hc]

set_option maxHeartbeats 80000 in
@[simp] theorem retryStopped_canon (b : Blk) (s : State) (hc : s.canonical) :
    (retryStopped b s).canonical := by
  unfold retryStopped; (try dsimp only); (repeat' split) <;> simp (maxDischargeDepth := 60) [hc]

set_option maxHeartbeats 80000 in
@[simp] theorem commitStopped_canon (s : State) (hc : s.canonical) :
    (commitStopped s).canonical := by
  unfold commitStopped; (repeat' split) <;> simp (maxDischargeDepth := 60) [hc]

set_option maxHeartbeats 80000 in
@[simp] theorem decodeBlock_canon (b : Blk) (plain : List Byte) (s : State) (hc : s.canonical) :
    (decodeBlock b plain s).canonical := by
  unfold decodeBlock; (repeat' split) <;> simp (maxDischargeDepth := 60) [hc]

set_option maxHeartbeats 80000 in
@[simp] theorem decoded_canon (b : Blk) (s : State) (hc : s.canonical) :
    (decoded b s).canonical := by
  unfold decoded; (try dsimp only); (repeat' split) <;> simp (maxDischargeDepth := 60) [hc]

set_option maxHeartbeats 80000 in
@[simp] theorem decodeComplete_canon (seq : Nat) (s : State) (hc : s.canonical) :
    (decodeComplete seq s).canonical := by
  unfold decodeComplete; (repeat' split) <;> simp (maxDischargeDepth := 60) [hc]

set_option maxHeartbeats 80000 in
@[simp] theorem granuleReturn_canon (s : State) (hc : s.canonical) :
    (granuleReturn s).canonical := by
  unfold granuleReturn; simp (maxDischargeDepth := 60) [hc]

set_option maxHeartbeats 80000 in
@[simp] theorem updDma_canon (c : Nat) (f : DmaChan → DmaChan) (s : State) (hc : s.canonical) :
    (updDma c f s).canonical := by
  unfold updDma; simp (maxDischargeDepth := 60) [hc]

set_option maxHeartbeats 80000 in
@[simp] theorem setDma_canon (c st : Nat) (s : State) (hc : s.canonical) :
    (setDma c st s).canonical := by
  unfold setDma; simp (maxDischargeDepth := 60) [hc]

set_option maxHeartbeats 80000 in
@[simp] theorem issueReads_canon (x0 : Nat) (x1 : State) (hc : x1.canonical) :
    (issueReads x0 x1).canonical := by
  induction x0 generalizing x1 with
  | zero => simp (maxDischargeDepth := 60) [issueReads, hc]
  | succ n ih => unfold issueReads; (try dsimp only); (repeat' split) <;> simp (maxDischargeDepth := 60) [ih, hc]

set_option maxHeartbeats 80000 in
@[simp] theorem readAhead_canon (c : Nat) (s : State) (hc : s.canonical) :
    (readAhead c s).canonical := by
  unfold readAhead; simp (maxDischargeDepth := 60) [hc]

set_option maxHeartbeats 80000 in
@[simp] theorem dmaGoesOn_canon (s : State) (hc : s.canonical) :
    (dmaGoesOn s).canonical := by
  unfold dmaGoesOn; (try dsimp only); (repeat' split) <;> simp_all (maxDischargeDepth := 60)

set_option maxHeartbeats 80000 in
@[simp] theorem releaseReads_canon (c n : Nat) (s : State) (hc : s.canonical) :
    (releaseReads c n s).canonical := by
  unfold releaseReads; simp (maxDischargeDepth := 60) [hc]

set_option maxHeartbeats 80000 in
@[simp] theorem dropReads_canon (c : Nat) (s : State) (hc : s.canonical) :
    (dropReads c s).canonical := by
  unfold dropReads; simp (maxDischargeDepth := 60) [hc]

set_option maxHeartbeats 80000 in
@[simp] theorem haltDma_canon (c code addr : Nat) (s : State) (hc : s.canonical) :
    (haltDma c code addr s).canonical := by
  unfold haltDma; simp (maxDischargeDepth := 60) [hc]

set_option maxHeartbeats 80000 in
@[simp] theorem dropHeld_canon (c : Nat) (s : State) (hc : s.canonical) :
    (dropHeld c s).canonical := by
  unfold dropHeld; (try dsimp only); (repeat' split) <;> simp (maxDischargeDepth := 60) [hc]

set_option maxHeartbeats 80000 in
@[simp] theorem idleDma_canon (c : Nat) (s : State) (hc : s.canonical) :
    (idleDma c s).canonical := by
  unfold idleDma; simp (maxDischargeDepth := 60) [hc]

set_option maxHeartbeats 80000 in
@[simp] theorem fetchDesc_canon (c addr : Nat) (s : State) (hc : s.canonical) :
    (fetchDesc c addr s).canonical := by
  unfold fetchDesc; simp (maxDischargeDepth := 60) [hc]

set_option maxHeartbeats 80000 in
@[simp] theorem startStaging_canon (c : Nat) (d : Desc) (s : State) (hc : s.canonical) :
    (startStaging c d s).canonical := by
  unfold startStaging; simp (maxDischargeDepth := 60) [hc]

set_option maxHeartbeats 80000 in
@[simp] theorem startDesc_canon (c : Nat) (d : Desc) (s : State) (hc : s.canonical) :
    (startDesc c d s).canonical := by
  unfold startDesc; simp (maxDischargeDepth := 60) [hc]

set_option maxHeartbeats 80000 in
@[simp] theorem tailLoop_canon (c : Nat) (s : State) (hc : s.canonical) :
    (tailLoop c s).canonical := by
  unfold tailLoop; simp (maxDischargeDepth := 60) [hc]

set_option maxHeartbeats 80000 in
@[simp] theorem turnDesc_canon (c : Nat) (d : Desc) (s : State) (hc : s.canonical) :
    (turnDesc c d s).canonical := by
  unfold turnDesc; simp (maxDischargeDepth := 60) [hc]

set_option maxHeartbeats 80000 in
@[simp] theorem turnFailed_canon (c addr : Nat) (s : State) (hc : s.canonical) :
    (turnFailed c addr s).canonical := by
  unfold turnFailed; simp (maxDischargeDepth := 60) [hc]

set_option maxHeartbeats 80000 in
@[simp] theorem rereadDone_canon (c next : Nat) (s : State) (hc : s.canonical) :
    (rereadDone c next s).canonical := by
  unfold rereadDone; simp (maxDischargeDepth := 60) [hc]

set_option maxHeartbeats 80000 in
@[simp] theorem fetchedAhead_canon (c : Nat) (read : HostRead) (s : State) (hc : s.canonical) :
    (fetchedAhead c read s).canonical := by
  unfold fetchedAhead; (try dsimp only); (repeat' split) <;> simp (maxDischargeDepth := 60) [hc]

set_option maxHeartbeats 80000 in
@[simp] theorem descFetched_canon (c : Nat) (read : HostRead) (s : State) (hc : s.canonical) :
    (descFetched c read s).canonical := by
  unfold descFetched; (try dsimp only); (repeat' split) <;> simp (maxDischargeDepth := 60) [hc]

set_option maxHeartbeats 80000 in
@[simp] theorem chainOn_canon (c : Nat) (d : Desc) (s : State) (hc : s.canonical) :
    (chainOn c d s).canonical := by
  unfold chainOn; (try dsimp only); (repeat' split) <;> simp (maxDischargeDepth := 60) [hc]

set_option maxHeartbeats 80000 in
@[simp] theorem descDone_canon (c : Nat) (d : Desc) (s : State) (hc : s.canonical) :
    (descDone c d s).canonical := by
  unfold descDone; simp (maxDischargeDepth := 60) [hc]

set_option maxHeartbeats 80000 in
@[simp] theorem bytesMoved_canon (c n : Nat) (s : State) (hc : s.canonical) :
    (bytesMoved c n s).canonical := by
  unfold bytesMoved; simp (maxDischargeDepth := 60) [hc]

set_option maxHeartbeats 80000 in
@[simp] theorem landInput_canon (c : Nat) (d : Desc) (x0 : Nat) (x1 : List (List Byte)) (x2 : State) (hc : x2.canonical) :
    (landInput c d x0 x1 x2).canonical := by
  induction x0 generalizing x1 x2 with
  | zero => simp (maxDischargeDepth := 60) [landInput, hc]
  | succ n ih =>
    cases x1 with
    | nil => simp (maxDischargeDepth := 60) [landInput, hc]
    | cons b bs => unfold landInput; (try dsimp only); (repeat' split) <;> simp (maxDischargeDepth := 60) [ih, hc]

set_option maxHeartbeats 80000 in
@[simp] theorem landStaging_canon (c : Nat) (d : Desc) (bs : List Byte) (s : State) (hc : s.canonical) :
    (landStaging c d bs s).canonical := by
  unfold landStaging; simp (maxDischargeDepth := 60) [hc]

@[simp] theorem endDiag_canon (c : Nat) (d : Desc) (g : State → State) (s : State) (hc : s.canonical)
    (h : ∀ u t, g u = t → u.canonical → t.canonical) : (endDiag c d g s).canonical := by
  unfold endDiag; dsimp only; split
  · refine h _ _ rfl ?_; simp (maxDischargeDepth := 60) [hc]
  · simp (maxDischargeDepth := 60) [hc]


set_option maxHeartbeats 80000 in
@[simp] theorem landPart_canon (c : Nat) (d : Desc) (i : Nat) (bs : List Byte) (s : State) (hc : s.canonical) :
    (landPart c d i bs s).canonical := by
  unfold landPart; (try dsimp only); (repeat' split) <;> simp_all (maxDischargeDepth := 60)

@[simp] theorem landParts_canon (c : Nat) (parts : List (Nat × List Byte)) (s : State) (hc : s.canonical) :
    (landParts c parts s).canonical := by
  unfold landParts
  refine foldl_canon _ _ _ ?_ hc
  intro s x t e hs; subst e; split <;> simp (maxDischargeDepth := 60) [hs]


set_option maxHeartbeats 80000 in
@[simp] theorem descComplete_canon (c : Nat) (xfer : HostXfer) (s : State) (hc : s.canonical) :
    (descComplete c xfer s).canonical := by
  unfold descComplete; (try dsimp only); (repeat' split) <;> simp_all (maxDischargeDepth := 60)

set_option maxHeartbeats 80000 in
@[simp] theorem stagingRoom_canon (c : Nat) (s : State) (hc : s.canonical) :
    (stagingRoom c s).canonical := by
  unfold stagingRoom; (repeat' split) <;> simp (maxDischargeDepth := 60) [hc]

set_option maxHeartbeats 80000 in
@[simp] theorem dmaStart_canon (c : Nat) (s : State) (hc : s.canonical) :
    (dmaStart c s).canonical := by
  unfold dmaStart; simp (maxDischargeDepth := 60) [hc]

set_option maxHeartbeats 80000 in
@[simp] theorem dmaRetry_canon (c : Nat) (s : State) (hc : s.canonical) :
    (dmaRetry c s).canonical := by
  unfold dmaRetry; (try dsimp only); (repeat' split) <;> simp (maxDischargeDepth := 60) [hc]

set_option maxHeartbeats 80000 in
@[simp] theorem dmaStop_canon (c : Nat) (s : State) (hc : s.canonical) :
    (dmaStop c s).canonical := by
  unfold dmaStop; simp (maxDischargeDepth := 60) [hc]

set_option maxHeartbeats 80000 in
@[simp] theorem dmaAppend_canon (c : Nat) (s : State) (hc : s.canonical) :
    (dmaAppend c s).canonical := by
  unfold dmaAppend; simp (maxDischargeDepth := 60) [hc]

set_option maxHeartbeats 80000 in
@[simp] theorem stopAllDma_canon (s : State) (hc : s.canonical) :
    (stopAllDma s).canonical := by
  unfold stopAllDma; (try dsimp only); (repeat' split) <;> simp_all (maxDischargeDepth := 60)

set_option maxHeartbeats 80000 in
@[simp] theorem aerError_canon (s : State) (hc : s.canonical) :
    (aerError s).canonical := by
  unfold aerError; simp (maxDischargeDepth := 60) [hc]

set_option maxHeartbeats 80000 in
@[simp] theorem chkResult_canon (u : Nat) (s : State) (hc : s.canonical) :
    (chkResult u s).canonical := by
  unfold chkResult; simp (maxDischargeDepth := 60) [hc]

set_option maxHeartbeats 80000 in
@[simp] theorem chkDrop_canon (u : Nat) (s : State) (hc : s.canonical) :
    (chkDrop u s).canonical := by
  unfold chkDrop; simp (maxDischargeDepth := 60) [hc]

set_option maxHeartbeats 80000 in
@[simp] theorem chkStart_canon (u : Nat) (byHost : Bool) (s : State) (hc : s.canonical) :
    (chkStart u byHost s).canonical := by
  unfold chkStart; simp (maxDischargeDepth := 60) [hc]

set_option maxHeartbeats 80000 in
@[simp] theorem chkFeed_canon (u : Nat) (byHost : Bool) (bs : List Byte) (s : State) (hc : s.canonical) :
    (chkFeed u byHost bs s).canonical := by
  unfold chkFeed; simp (maxDischargeDepth := 60) [hc]

set_option maxHeartbeats 80000 in
@[simp] theorem chkCapture_canon (u k : Nat) (s : State) (hc : s.canonical) :
    (chkCapture u k s).canonical := by
  unfold chkCapture; simp (maxDischargeDepth := 60) [hc]

set_option maxHeartbeats 80000 in
@[simp] theorem assertCut_canon (r : Reason) (t : Int) (s : State) (hc : s.canonical) :
    (assertCut r t s).canonical := by
  unfold assertCut; (repeat' split) <;> simp (maxDischargeDepth := 60) [hc]

set_option maxHeartbeats 80000 in
@[simp] theorem assertBlank_canon (s : State) (hc : s.canonical) :
    (assertBlank s).canonical := by
  unfold assertBlank; simp (maxDischargeDepth := 60) [hc]

set_option maxHeartbeats 80000 in
@[simp] theorem exposeOn_canon (s : State) (hc : s.canonical) :
    (exposeOn s).canonical := by
  unfold exposeOn; simp (maxDischargeDepth := 60) [hc]

set_option maxHeartbeats 80000 in
@[simp] theorem exposeOff_canon (s : State) (hc : s.canonical) :
    (exposeOff s).canonical := by
  unfold exposeOff; simp (maxDischargeDepth := 60) [hc]

set_option maxHeartbeats 80000 in
@[simp] theorem declareLinkLoss_canon (t : Int) (s : State) (hc : s.canonical) :
    (declareLinkLoss t s).canonical := by
  unfold declareLinkLoss; simp (maxDischargeDepth := 60) [hc]

set_option maxHeartbeats 80000 in
@[simp] theorem countCleanSlot_canon (s : State) (hc : s.canonical) :
    (countCleanSlot s).canonical := by
  unfold countCleanSlot; simp (maxDischargeDepth := 60) [hc]

set_option maxHeartbeats 80000 in
@[simp] theorem updLane_canon (l : Nat) (f : Lane → Lane) (s : State) (hc : s.canonical) :
    (updLane l f s).canonical := by
  unfold updLane; simp (maxDischargeDepth := 60) [hc]

set_option maxHeartbeats 80000 in
@[simp] theorem countEcho_canon (l : Nat) (ty : FrameType) (shot : Nat) (c : EchoClass) (cut : Bool) (t : Int) (s : State) (hc : s.canonical) :
    (countEcho l ty shot c cut t s).canonical := by
  unfold countEcho; simp (maxDischargeDepth := 60) [hc]

set_option maxHeartbeats 80000 in
@[simp] theorem recordLatency_canon (base t : Int) (s : State) (hc : s.canonical) :
    (recordLatency base t s).canonical := by
  unfold recordLatency; simp (maxDischargeDepth := 60) [hc]

set_option maxHeartbeats 80000 in
@[simp] theorem resetChk_canon (us : List Nat) (s : State) (hc : s.canonical) :
    (resetChk us s).canonical := by
  unfold resetChk; (try dsimp only); (repeat' split) <;> simp_all (maxDischargeDepth := 60)

set_option maxHeartbeats 80000 in
@[simp] theorem loseLocks_canon (s : State) (hc : s.canonical) :
    (loseLocks s).canonical := by
  unfold loseLocks; simp (maxDischargeDepth := 60) [hc]

set_option maxHeartbeats 80000 in
@[simp] theorem dropStart_canon (s : State) (hc : s.canonical) :
    (dropStart s).canonical := by
  unfold dropStart; simp (maxDischargeDepth := 60) [hc]

set_option maxHeartbeats 80000 in
@[simp] theorem notWatchdog_canon (s : State) (hc : s.canonical) :
    (notWatchdog s).canonical := by
  unfold notWatchdog; simp (maxDischargeDepth := 60) [hc]

set_option maxHeartbeats 80000 in
@[simp] theorem startRestart_canon (after : Mode) (s : State) (hc : s.canonical) :
    (startRestart after s).canonical := by
  unfold startRestart; (try dsimp only); (repeat' split) <;> simp (maxDischargeDepth := 60) [hc]

end Sys2Proof.Machine
end

