-- ==== Sys2Proof/Laws/Frame3.lean ====
section
/-!
SUPPORT. What the operations of these files leave of the state, one lemma per operation, for the simplifier.
-/

namespace Sys2Proof.Machine

set_option Elab.async false

set_option maxHeartbeats 60000 in
@[simp] theorem openRecess_frame (s : State) :
    (openRecess s).pending = s.pending ∧ (openRecess s).mail = s.mail ∧ (openRecess s).dram = s.dram ∧ (openRecess s).job = s.job ∧ (openRecess s).page = s.page ∧ (openRecess s).flow = s.flow ∧ (openRecess s).sec = s.sec ∧ (openRecess s).tim = s.tim ∧ (openRecess s).ev = s.ev := by
  unfold openRecess; simp

set_option maxHeartbeats 60000 in
@[simp] theorem closeRecess_frame (s : State) :
    (closeRecess s).pending = s.pending ∧ (closeRecess s).mail = s.mail ∧ (closeRecess s).dram = s.dram ∧ (closeRecess s).job = s.job ∧ (closeRecess s).page = s.page ∧ (closeRecess s).flow = s.flow ∧ (closeRecess s).sec = s.sec := by
  unfold closeRecess; simp

set_option maxHeartbeats 60000 in
@[simp] theorem dropStripe_frame (i : Nat) (s : State) :
    (dropStripe i s).pending = s.pending ∧ (dropStripe i s).mail = s.mail ∧ (dropStripe i s).dram = s.dram ∧ (dropStripe i s).job = s.job ∧ (dropStripe i s).page = s.page ∧ (dropStripe i s).flow = s.flow ∧ (dropStripe i s).prog = s.prog ∧ (dropStripe i s).sec = s.sec ∧ (dropStripe i s).tim = s.tim := by
  unfold dropStripe; simp

set_option maxHeartbeats 60000 in
@[simp] theorem passStripe_frame (last : Bool) (s : State) :
    (passStripe last s).pending = s.pending ∧ (passStripe last s).mail = s.mail ∧ (passStripe last s).dram = s.dram ∧ (passStripe last s).page = s.page ∧ (passStripe last s).sec = s.sec ∧ (passStripe last s).tim = s.tim ∧ (passStripe last s).ev = s.ev := by
  unfold passStripe; simp

set_option maxHeartbeats 60000 in
@[simp] theorem openNext_frame (s : State) :
    (openNext s).pending = s.pending ∧ (openNext s).mail = s.mail ∧ (openNext s).dram = s.dram ∧ (openNext s).job = s.job ∧ (openNext s).page = s.page ∧ (openNext s).flow = s.flow ∧ (openNext s).prog = s.prog ∧ (openNext s).sec = s.sec ∧ (openNext s).tim = s.tim ∧ (openNext s).ev = s.ev := by
  unfold openNext; simp

set_option maxHeartbeats 60000 in
@[simp] theorem leaveStripe_frame (s : State) :
    (leaveStripe s).pending = s.pending ∧ (leaveStripe s).dram = s.dram ∧ (leaveStripe s).page = s.page ∧ (leaveStripe s).sec = s.sec ∧ (leaveStripe s).tim = s.tim := by
  unfold leaveStripe; simp

set_option maxHeartbeats 60000 in
@[simp] theorem settleLoop_frame (x0 : Nat) (x1 : State) :
    (settleLoop x0 x1).pending = x1.pending ∧ (settleLoop x0 x1).dram = x1.dram ∧ (settleLoop x0 x1).job = x1.job ∧ (settleLoop x0 x1).page = x1.page ∧ (settleLoop x0 x1).prog = x1.prog ∧ (settleLoop x0 x1).sec = x1.sec ∧ (settleLoop x0 x1).tim = x1.tim := by
  induction x0 generalizing x1 with
  | zero => simp [settleLoop]
  | succ n ih => unfold settleLoop; (try dsimp only); (repeat' split) <;> simp [ih]

set_option maxHeartbeats 60000 in
@[simp] theorem settleAll_frame (s : State) :
    (settleAll s).pending = s.pending ∧ (settleAll s).dram = s.dram ∧ (settleAll s).job = s.job ∧ (settleAll s).page = s.page ∧ (settleAll s).prog = s.prog ∧ (settleAll s).sec = s.sec ∧ (settleAll s).tim = s.tim := by
  unfold settleAll; simp

set_option maxHeartbeats 60000 in
@[simp] theorem disarm_frame (s : State) :
    (disarm s).pending = s.pending ∧ (disarm s).mail = s.mail ∧ (disarm s).dram = s.dram ∧ (disarm s).job = s.job ∧ (disarm s).page = s.page ∧ (disarm s).flow = s.flow ∧ (disarm s).prog = s.prog ∧ (disarm s).sec = s.sec ∧ (disarm s).tim = s.tim ∧ (disarm s).ev = s.ev := by
  unfold disarm; simp

set_option maxHeartbeats 60000 in
@[simp] theorem closeShots_frame (a : Armed) (e : StripeEntry) (s : State) :
    (closeShots a e s).pending = s.pending ∧ (closeShots a e s).mail = s.mail ∧ (closeShots a e s).dram = s.dram ∧ (closeShots a e s).job = s.job ∧ (closeShots a e s).page = s.page ∧ (closeShots a e s).flow = s.flow ∧ (closeShots a e s).prog = s.prog ∧ (closeShots a e s).sec = s.sec ∧ (closeShots a e s).tim = s.tim := by
  unfold closeShots; simp

set_option maxHeartbeats 60000 in
@[simp] theorem closeArmed_frame (a : Armed) (e : StripeEntry) (s : State) :
    (closeArmed a e s).pending = s.pending ∧ (closeArmed a e s).dram = s.dram ∧ (closeArmed a e s).page = s.page ∧ (closeArmed a e s).sec = s.sec ∧ (closeArmed a e s).tim = s.tim := by
  unfold closeArmed; simp

set_option maxHeartbeats 60000 in
@[simp] theorem closeStripe_frame (s : State) :
    (closeStripe s).pending = s.pending ∧ (closeStripe s).dram = s.dram ∧ (closeStripe s).page = s.page ∧ (closeStripe s).sec = s.sec ∧ (closeStripe s).tim = s.tim := by
  unfold closeStripe; (repeat' split) <;> simp

set_option maxHeartbeats 60000 in
@[simp] theorem readyOutputs_frame (s : State) :
    (readyOutputs s).pending = s.pending ∧ (readyOutputs s).mail = s.mail ∧ (readyOutputs s).dram = s.dram ∧ (readyOutputs s).job = s.job ∧ (readyOutputs s).page = s.page ∧ (readyOutputs s).flow = s.flow ∧ (readyOutputs s).prog = s.prog ∧ (readyOutputs s).sec = s.sec ∧ (readyOutputs s).tim = s.tim ∧ (readyOutputs s).ev = s.ev := by
  unfold readyOutputs; simp

set_option maxHeartbeats 60000 in
@[simp] theorem clearJobCauses_frame (s : State) :
    (clearJobCauses s).pending = s.pending ∧ (clearJobCauses s).mail = s.mail ∧ (clearJobCauses s).dram = s.dram ∧ (clearJobCauses s).job = s.job ∧ (clearJobCauses s).page = s.page ∧ (clearJobCauses s).prog = s.prog ∧ (clearJobCauses s).sec = s.sec ∧ (clearJobCauses s).tim = s.tim ∧ (clearJobCauses s).ev = s.ev := by
  unfold clearJobCauses; simp

set_option maxHeartbeats 60000 in
@[simp] theorem streamSync_frame (s : State) :
    (streamSync s).pending = s.pending ∧ (streamSync s).mail = s.mail ∧ (streamSync s).dram = s.dram ∧ (streamSync s).job = s.job ∧ (streamSync s).page = s.page ∧ (streamSync s).flow = s.flow ∧ (streamSync s).prog = s.prog ∧ (streamSync s).sec = s.sec ∧ (streamSync s).tim = s.tim := by
  unfold streamSync; simp

set_option maxHeartbeats 60000 in
@[simp] theorem emptyJobMemory_frame (s : State) :
    (emptyJobMemory s).pending = s.pending ∧ (emptyJobMemory s).mail = s.mail ∧ (emptyJobMemory s).job = s.job ∧ (emptyJobMemory s).page = s.page ∧ (emptyJobMemory s).flow = s.flow ∧ (emptyJobMemory s).prog = s.prog ∧ (emptyJobMemory s).sec = s.sec ∧ (emptyJobMemory s).tim = s.tim ∧ (emptyJobMemory s).ev = s.ev := by
  unfold emptyJobMemory; simp

set_option maxHeartbeats 60000 in
@[simp] theorem discardJob_frame (abort : Bool) (s : State) :
    (discardJob abort s).pending = s.pending ∧ (discardJob abort s).page = s.page := by
  unfold discardJob; simp

set_option maxHeartbeats 60000 in
@[simp] theorem debugFill_frame (s : State) :
    (debugFill s).pending = s.pending ∧ (debugFill s).mail = s.mail ∧ (debugFill s).job = s.job ∧ (debugFill s).page = s.page ∧ (debugFill s).flow = s.flow ∧ (debugFill s).prog = s.prog ∧ (debugFill s).tim = s.tim ∧ (debugFill s).ev = s.ev := by
  unfold debugFill; simp

set_option maxHeartbeats 60000 in
@[simp] theorem endJob_frame (abort : Bool) (s : State) :
    (endJob abort s).pending = s.pending ∧ (endJob abort s).page = s.page := by
  unfold endJob; simp

set_option maxHeartbeats 60000 in
@[simp] theorem forceLayer_frame (layer : Nat) (s : State) :
    (forceLayer layer s).1.pending = s.pending ∧ (forceLayer layer s).1.dram = s.dram ∧ (forceLayer layer s).1.job = s.job ∧ (forceLayer layer s).1.page = s.page ∧ (forceLayer layer s).1.prog = s.prog ∧ (forceLayer layer s).1.sec = s.sec ∧ (forceLayer layer s).1.tim = s.tim := by
  unfold forceLayer; simp

set_option maxHeartbeats 60000 in
@[simp] theorem closeWaive_frame (force : Bool) (s : State) :
    (closeWaive force s).1.pending = s.pending ∧ (closeWaive force s).1.dram = s.dram ∧ (closeWaive force s).1.job = s.job ∧ (closeWaive force s).1.page = s.page ∧ (closeWaive force s).1.prog = s.prog ∧ (closeWaive force s).1.sec = s.sec ∧ (closeWaive force s).1.tim = s.tim := by
  unfold closeWaive; (repeat' split) <;> simp

set_option maxHeartbeats 60000 in
@[simp] theorem endingBytes_frame (e : Ending) (s : State) :
    (endingBytes e s).1.pending = s.pending ∧ (endingBytes e s).1.dram = s.dram ∧ (endingBytes e s).1.job = s.job ∧ (endingBytes e s).1.page = s.page ∧ (endingBytes e s).1.prog = s.prog ∧ (endingBytes e s).1.sec = s.sec ∧ (endingBytes e s).1.tim = s.tim := by
  unfold endingBytes; (repeat' split) <;> simp

set_option maxHeartbeats 60000 in
@[simp] theorem completeEnding_frame (e : Ending) (s : State) :
    (completeEnding e s).pending = s.pending ∧ (completeEnding e s).page = s.page := by
  unfold completeEnding; simp

set_option maxHeartbeats 60000 in
@[simp] theorem finishEnding_frame (s : State) :
    (finishEnding s).pending = s.pending ∧ (finishEnding s).page = s.page := by
  unfold finishEnding; (repeat' split) <;> simp

set_option maxHeartbeats 60000 in
@[simp] theorem effectEnding_frame (s : State) :
    (effectEnding s).pending = s.pending ∧ (effectEnding s).page = s.page := by
  unfold effectEnding; (repeat' split) <;> simp

set_option maxHeartbeats 60000 in
@[simp] theorem toHold_frame (s : State) :
    (toHold s).pending = s.pending ∧ (toHold s).mail = s.mail ∧ (toHold s).dram = s.dram ∧ (toHold s).job = s.job ∧ (toHold s).page = s.page ∧ (toHold s).prog = s.prog ∧ (toHold s).sec = s.sec := by
  unfold toHold; simp

set_option maxHeartbeats 60000 in
@[simp] theorem takeHold_frame (s : State) :
    (takeHold s).pending = s.pending ∧ (takeHold s).mail = s.mail ∧ (takeHold s).dram = s.dram ∧ (takeHold s).job = s.job ∧ (takeHold s).page = s.page ∧ (takeHold s).prog = s.prog ∧ (takeHold s).sec = s.sec := by
  unfold takeHold; simp

set_option maxHeartbeats 60000 in
@[simp] theorem enterHold_frame (s : State) :
    (enterHold s).pending = s.pending ∧ (enterHold s).page = s.page := by
  unfold enterHold; simp

set_option maxHeartbeats 60000 in
@[simp] theorem holdAtOnce_frame (n : Nat) (r : Reason) (t : Int) (s : State) :
    (holdAtOnce n r t s).pending = s.pending ∧ (holdAtOnce n r t s).dram = s.dram ∧ (holdAtOnce n r t s).job = s.job ∧ (holdAtOnce n r t s).page = s.page ∧ (holdAtOnce n r t s).prog = s.prog ∧ (holdAtOnce n r t s).sec = s.sec := by
  unfold holdAtOnce; (try dsimp only); (repeat' split) <;> simp

set_option maxHeartbeats 60000 in
@[simp] theorem askHold_frame (s : State) :
    (askHold s).pending = s.pending ∧ (askHold s).mail = s.mail ∧ (askHold s).dram = s.dram ∧ (askHold s).job = s.job ∧ (askHold s).page = s.page ∧ (askHold s).prog = s.prog ∧ (askHold s).sec = s.sec ∧ (askHold s).tim = s.tim ∧ (askHold s).ev = s.ev := by
  unfold askHold; simp

set_option maxHeartbeats 60000 in
@[simp] theorem blankIfOver_frame (s : State) :
    (blankIfOver s).pending = s.pending ∧ (blankIfOver s).mail = s.mail ∧ (blankIfOver s).dram = s.dram ∧ (blankIfOver s).job = s.job ∧ (blankIfOver s).page = s.page ∧ (blankIfOver s).flow = s.flow ∧ (blankIfOver s).prog = s.prog ∧ (blankIfOver s).sec = s.sec ∧ (blankIfOver s).tim = s.tim ∧ (blankIfOver s).ev = s.ev := by
  unfold blankIfOver; simp

set_option maxHeartbeats 60000 in
@[simp] theorem holdEffect_frame (s : State) :
    (holdEffect s).pending = s.pending ∧ (holdEffect s).page = s.page := by
  unfold holdEffect; simp

set_option maxHeartbeats 60000 in
@[simp] theorem partitionHold_frame (s : State) :
    (partitionHold s).pending = s.pending ∧ (partitionHold s).dram = s.dram ∧ (partitionHold s).job = s.job ∧ (partitionHold s).page = s.page ∧ (partitionHold s).prog = s.prog ∧ (partitionHold s).sec = s.sec ∧ (partitionHold s).tim = s.tim := by
  unfold partitionHold; simp

set_option maxHeartbeats 60000 in
@[simp] theorem partitionAtOnce_frame (s : State) :
    (partitionAtOnce s).pending = s.pending ∧ (partitionAtOnce s).dram = s.dram ∧ (partitionAtOnce s).job = s.job ∧ (partitionAtOnce s).page = s.page ∧ (partitionAtOnce s).prog = s.prog ∧ (partitionAtOnce s).sec = s.sec ∧ (partitionAtOnce s).tim = s.tim := by
  unfold partitionAtOnce; simp

set_option maxHeartbeats 60000 in
@[simp] theorem resumeAtEnd_frame (s : State) :
    (resumeAtEnd s).pending = s.pending ∧ (resumeAtEnd s).dram = s.dram ∧ (resumeAtEnd s).job = s.job ∧ (resumeAtEnd s).page = s.page ∧ (resumeAtEnd s).prog = s.prog ∧ (resumeAtEnd s).sec = s.sec ∧ (resumeAtEnd s).tim = s.tim ∧ (resumeAtEnd s).ev = s.ev := by
  unfold resumeAtEnd; (repeat' split) <;> simp

set_option maxHeartbeats 60000 in
@[simp] theorem reconcileStripe_frame (s : State) :
    (reconcileStripe s).pending = s.pending ∧ (reconcileStripe s).dram = s.dram ∧ (reconcileStripe s).page = s.page ∧ (reconcileStripe s).sec = s.sec ∧ (reconcileStripe s).tim = s.tim := by
  unfold reconcileStripe; simp

set_option maxHeartbeats 60000 in
@[simp] theorem stripeOver_frame (s : State) :
    (stripeOver s).pending = s.pending ∧ (stripeOver s).page = s.page := by
  unfold stripeOver; simp

set_option maxHeartbeats 60000 in
@[simp] theorem tryStripeEnd_frame (s : State) :
    (tryStripeEnd s).pending = s.pending ∧ (tryStripeEnd s).page = s.page := by
  unfold tryStripeEnd; simp

set_option maxHeartbeats 60000 in
@[simp] theorem settle_frame (s : State) :
    (settle s).pending = s.pending ∧ (settle s).page = s.page := by
  unfold settle; simp

set_option maxHeartbeats 60000 in
@[simp] theorem lastLayerEffect_frame (s : State) :
    (lastLayerEffect s).pending = s.pending ∧ (lastLayerEffect s).dram = s.dram ∧ (lastLayerEffect s).page = s.page ∧ (lastLayerEffect s).sec = s.sec := by
  unfold lastLayerEffect; (repeat' split) <;> simp

set_option maxHeartbeats 60000 in
@[simp] theorem resumeAtTick_frame (s : State) :
    (resumeAtTick s).pending = s.pending ∧ (resumeAtTick s).dram = s.dram ∧ (resumeAtTick s).job = s.job ∧ (resumeAtTick s).page = s.page ∧ (resumeAtTick s).prog = s.prog ∧ (resumeAtTick s).sec = s.sec ∧ (resumeAtTick s).tim = s.tim ∧ (resumeAtTick s).ev = s.ev := by
  unfold resumeAtTick; (repeat' split) <;> simp

set_option maxHeartbeats 60000 in
@[simp] theorem putDebt_frame (pc d : Nat) (s : State) :
    (putDebt pc d s).pending = s.pending ∧ (putDebt pc d s).mail = s.mail ∧ (putDebt pc d s).dram = s.dram ∧ (putDebt pc d s).job = s.job ∧ (putDebt pc d s).page = s.page ∧ (putDebt pc d s).flow = s.flow ∧ (putDebt pc d s).prog = s.prog ∧ (putDebt pc d s).sec = s.sec ∧ (putDebt pc d s).tim = s.tim ∧ (putDebt pc d s).ev = s.ev := by
  unfold putDebt; simp

set_option maxHeartbeats 60000 in
@[simp] theorem setDebts_frame (ds : List (Nat × Nat)) (s : State) :
    (setDebts ds s).pending = s.pending ∧ (setDebts ds s).mail = s.mail ∧ (setDebts ds s).dram = s.dram ∧ (setDebts ds s).job = s.job ∧ (setDebts ds s).page = s.page ∧ (setDebts ds s).flow = s.flow ∧ (setDebts ds s).prog = s.prog ∧ (setDebts ds s).sec = s.sec ∧ (setDebts ds s).tim = s.tim := by
  unfold setDebts; simp

set_option maxHeartbeats 60000 in
@[simp] theorem setDebt_frame (pc d : Nat) (s : State) :
    (setDebt pc d s).pending = s.pending ∧ (setDebt pc d s).mail = s.mail ∧ (setDebt pc d s).dram = s.dram ∧ (setDebt pc d s).job = s.job ∧ (setDebt pc d s).page = s.page ∧ (setDebt pc d s).flow = s.flow ∧ (setDebt pc d s).prog = s.prog ∧ (setDebt pc d s).sec = s.sec ∧ (setDebt pc d s).tim = s.tim := by
  unfold setDebt; simp

set_option maxHeartbeats 60000 in
@[simp] theorem refreshAllBanks_frame (pc : Nat) (s : State) :
    (refreshAllBanks pc s).pending = s.pending ∧ (refreshAllBanks pc s).mail = s.mail ∧ (refreshAllBanks pc s).dram = s.dram ∧ (refreshAllBanks pc s).job = s.job ∧ (refreshAllBanks pc s).page = s.page ∧ (refreshAllBanks pc s).flow = s.flow ∧ (refreshAllBanks pc s).prog = s.prog ∧ (refreshAllBanks pc s).sec = s.sec ∧ (refreshAllBanks pc s).tim = s.tim := by
  unfold refreshAllBanks; simp

set_option maxHeartbeats 60000 in
@[simp] theorem forceRefresh_frame (pc : Nat) (s : State) :
    (forceRefresh pc s).pending = s.pending ∧ (forceRefresh pc s).mail = s.mail ∧ (forceRefresh pc s).dram = s.dram ∧ (forceRefresh pc s).job = s.job ∧ (forceRefresh pc s).page = s.page ∧ (forceRefresh pc s).flow = s.flow ∧ (forceRefresh pc s).prog = s.prog ∧ (forceRefresh pc s).sec = s.sec ∧ (forceRefresh pc s).tim = s.tim := by
  unfold forceRefresh; simp

set_option maxHeartbeats 60000 in
@[simp] theorem forceTogether_frame (limit : Nat) (pcs : List Nat) (x0 : Nat) (x1 : State) :
    (forceTogether limit pcs x0 x1).pending = x1.pending ∧ (forceTogether limit pcs x0 x1).mail = x1.mail ∧ (forceTogether limit pcs x0 x1).dram = x1.dram ∧ (forceTogether limit pcs x0 x1).job = x1.job ∧ (forceTogether limit pcs x0 x1).page = x1.page ∧ (forceTogether limit pcs x0 x1).flow = x1.flow ∧ (forceTogether limit pcs x0 x1).prog = x1.prog ∧ (forceTogether limit pcs x0 x1).sec = x1.sec ∧ (forceTogether limit pcs x0 x1).tim = x1.tim := by
  induction x0 generalizing x1 with
  | zero => simp [forceTogether]
  | succ n ih => unfold forceTogether; (try dsimp only); (repeat' split) <;> simp [ih]

set_option maxHeartbeats 60000 in
@[simp] theorem refreshPerBank_frame (pc : Nat) (s : State) :
    (refreshPerBank pc s).pending = s.pending ∧ (refreshPerBank pc s).mail = s.mail ∧ (refreshPerBank pc s).dram = s.dram ∧ (refreshPerBank pc s).job = s.job ∧ (refreshPerBank pc s).page = s.page ∧ (refreshPerBank pc s).flow = s.flow ∧ (refreshPerBank pc s).prog = s.prog ∧ (refreshPerBank pc s).sec = s.sec ∧ (refreshPerBank pc s).tim = s.tim ∧ (refreshPerBank pc s).ev = s.ev := by
  unfold refreshPerBank; simp

set_option maxHeartbeats 60000 in
@[simp] theorem countLevel3_frame (w : DramWait) (s : State) :
    (countLevel3 w s).pending = s.pending ∧ (countLevel3 w s).mail = s.mail ∧ (countLevel3 w s).dram = s.dram ∧ (countLevel3 w s).job = s.job ∧ (countLevel3 w s).page = s.page ∧ (countLevel3 w s).flow = s.flow ∧ (countLevel3 w s).prog = s.prog ∧ (countLevel3 w s).sec = s.sec ∧ (countLevel3 w s).tim = s.tim ∧ (countLevel3 w s).ev = s.ev := by
  unfold countLevel3; simp

set_option maxHeartbeats 60000 in
@[simp] theorem runCommands_frame (pc : Nat) (hold : Bool) (x0 : Nat) (x1 : List DramWait) (x2 : State) :
    (runCommands pc hold x0 x1 x2).pending = x2.pending := by
  induction x0 generalizing x1 x2 with
  | zero => simp [runCommands]
  | succ n ih => unfold runCommands; (try dsimp only); (repeat' split) <;> simp [ih]

set_option maxHeartbeats 60000 in
@[simp] theorem addDebt_frame (pc : Nat) (s : State) :
    (addDebt pc s).pending = s.pending ∧ (addDebt pc s).mail = s.mail ∧ (addDebt pc s).dram = s.dram ∧ (addDebt pc s).job = s.job ∧ (addDebt pc s).page = s.page ∧ (addDebt pc s).flow = s.flow ∧ (addDebt pc s).prog = s.prog ∧ (addDebt pc s).sec = s.sec ∧ (addDebt pc s).tim = s.tim := by
  unfold addDebt; simp

set_option maxHeartbeats 60000 in
@[simp] theorem refreshInterval_frame (pc : Nat) (unitDone : Bool) (ws : List DramWait) (s : State) :
    (refreshInterval pc unitDone ws s).pending = s.pending := by
  unfold refreshInterval; simp

set_option maxHeartbeats 60000 in
@[simp] theorem convertDebts_frame (old new : Nat) (pcs : List Nat) (s : State) :
    (convertDebts old new pcs s).pending = s.pending ∧ (convertDebts old new pcs s).mail = s.mail ∧ (convertDebts old new pcs s).dram = s.dram ∧ (convertDebts old new pcs s).job = s.job ∧ (convertDebts old new pcs s).page = s.page ∧ (convertDebts old new pcs s).flow = s.flow ∧ (convertDebts old new pcs s).prog = s.prog ∧ (convertDebts old new pcs s).sec = s.sec ∧ (convertDebts old new pcs s).tim = s.tim := by
  unfold convertDebts; simp

set_option maxHeartbeats 60000 in
@[simp] theorem setBand_frame (stack band : Nat) (s : State) :
    (setBand stack band s).pending = s.pending ∧ (setBand stack band s).mail = s.mail ∧ (setBand stack band s).dram = s.dram ∧ (setBand stack band s).job = s.job ∧ (setBand stack band s).page = s.page ∧ (setBand stack band s).flow = s.flow ∧ (setBand stack band s).prog = s.prog ∧ (setBand stack band s).sec = s.sec ∧ (setBand stack band s).tim = s.tim ∧ (setBand stack band s).ev = s.ev := by
  unfold setBand; simp

set_option maxHeartbeats 60000 in
@[simp] theorem updateBand_frame (stack t : Nat) (s : State) :
    (updateBand stack t s).pending = s.pending ∧ (updateBand stack t s).mail = s.mail ∧ (updateBand stack t s).dram = s.dram ∧ (updateBand stack t s).job = s.job ∧ (updateBand stack t s).page = s.page ∧ (updateBand stack t s).flow = s.flow ∧ (updateBand stack t s).prog = s.prog ∧ (updateBand stack t s).sec = s.sec ∧ (updateBand stack t s).tim = s.tim := by
  unfold updateBand; simp

set_option maxHeartbeats 60000 in
@[simp] theorem heatSync_frame (s : State) :
    (heatSync s).pending = s.pending ∧ (heatSync s).dram = s.dram ∧ (heatSync s).job = s.job ∧ (heatSync s).page = s.page ∧ (heatSync s).prog = s.prog ∧ (heatSync s).sec = s.sec ∧ (heatSync s).tim = s.tim := by
  unfold heatSync; simp

set_option maxHeartbeats 60000 in
@[simp] theorem hbmTemp_frame (stack a b : Nat) (s : State) :
    (hbmTemp stack a b s).pending = s.pending ∧ (hbmTemp stack a b s).dram = s.dram ∧ (hbmTemp stack a b s).job = s.job ∧ (hbmTemp stack a b s).page = s.page ∧ (hbmTemp stack a b s).prog = s.prog ∧ (hbmTemp stack a b s).sec = s.sec ∧ (hbmTemp stack a b s).tim = s.tim := by
  unfold hbmTemp; simp

set_option maxHeartbeats 60000 in
@[simp] theorem neighbourRefresh_frame (pc bank row : Nat) (s : State) :
    (neighbourRefresh pc bank row s).pending = s.pending ∧ (neighbourRefresh pc bank row s).mail = s.mail ∧ (neighbourRefresh pc bank row s).dram = s.dram ∧ (neighbourRefresh pc bank row s).job = s.job ∧ (neighbourRefresh pc bank row s).page = s.page ∧ (neighbourRefresh pc bank row s).flow = s.flow ∧ (neighbourRefresh pc bank row s).prog = s.prog ∧ (neighbourRefresh pc bank row s).sec = s.sec ∧ (neighbourRefresh pc bank row s).tim = s.tim ∧ (neighbourRefresh pc bank row s).ev = s.ev := by
  unfold neighbourRefresh; simp

set_option maxHeartbeats 60000 in
@[simp] theorem fenceChannel_frame (ch : Nat) (s : State) :
    (fenceChannel ch s).pending = s.pending ∧ (fenceChannel ch s).dram = s.dram ∧ (fenceChannel ch s).job = s.job ∧ (fenceChannel ch s).page = s.page ∧ (fenceChannel ch s).prog = s.prog ∧ (fenceChannel ch s).sec = s.sec ∧ (fenceChannel ch s).tim = s.tim := by
  unfold fenceChannel; simp

set_option maxHeartbeats 60000 in
@[simp] theorem startReplay_frame (ch unconfirmed : Nat) (s : State) :
    (startReplay ch unconfirmed s).pending = s.pending ∧ (startReplay ch unconfirmed s).mail = s.mail ∧ (startReplay ch unconfirmed s).dram = s.dram ∧ (startReplay ch unconfirmed s).job = s.job ∧ (startReplay ch unconfirmed s).page = s.page ∧ (startReplay ch unconfirmed s).flow = s.flow ∧ (startReplay ch unconfirmed s).prog = s.prog ∧ (startReplay ch unconfirmed s).sec = s.sec ∧ (startReplay ch unconfirmed s).tim = s.tim ∧ (startReplay ch unconfirmed s).ev = s.ev := by
  unfold startReplay; simp

set_option maxHeartbeats 60000 in
@[simp] theorem aerr_frame (ch unconfirmed : Nat) (s : State) :
    (aerr ch unconfirmed s).pending = s.pending ∧ (aerr ch unconfirmed s).dram = s.dram ∧ (aerr ch unconfirmed s).job = s.job ∧ (aerr ch unconfirmed s).page = s.page ∧ (aerr ch unconfirmed s).prog = s.prog ∧ (aerr ch unconfirmed s).sec = s.sec ∧ (aerr ch unconfirmed s).tim = s.tim := by
  unfold aerr; simp

set_option maxHeartbeats 60000 in
@[simp] theorem replayComplete_frame (ch : Nat) (s : State) :
    (replayComplete ch s).pending = s.pending ∧ (replayComplete ch s).mail = s.mail ∧ (replayComplete ch s).dram = s.dram ∧ (replayComplete ch s).job = s.job ∧ (replayComplete ch s).page = s.page ∧ (replayComplete ch s).flow = s.flow ∧ (replayComplete ch s).prog = s.prog ∧ (replayComplete ch s).sec = s.sec ∧ (replayComplete ch s).tim = s.tim := by
  unfold replayComplete; simp

set_option maxHeartbeats 60000 in
@[simp] theorem powerDown_frame (pc : Nat) (s : State) :
    (powerDown pc s).pending = s.pending ∧ (powerDown pc s).mail = s.mail ∧ (powerDown pc s).dram = s.dram ∧ (powerDown pc s).job = s.job ∧ (powerDown pc s).page = s.page ∧ (powerDown pc s).flow = s.flow ∧ (powerDown pc s).prog = s.prog ∧ (powerDown pc s).sec = s.sec ∧ (powerDown pc s).tim = s.tim ∧ (powerDown pc s).ev = s.ev := by
  unfold powerDown; simp

set_option maxHeartbeats 60000 in
@[simp] theorem patternRun_frame (errors : Nat) (s : State) :
    (patternRun errors s).pending = s.pending ∧ (patternRun errors s).mail = s.mail ∧ (patternRun errors s).job = s.job ∧ (patternRun errors s).page = s.page ∧ (patternRun errors s).flow = s.flow ∧ (patternRun errors s).prog = s.prog ∧ (patternRun errors s).sec = s.sec ∧ (patternRun errors s).tim = s.tim ∧ (patternRun errors s).ev = s.ev := by
  unfold patternRun; simp

set_option maxHeartbeats 60000 in
@[simp] theorem noteSource_frame (u : Nat) (s : State) :
    (noteSource u s).pending = s.pending ∧ (noteSource u s).mail = s.mail ∧ (noteSource u s).dram = s.dram ∧ (noteSource u s).job = s.job ∧ (noteSource u s).page = s.page ∧ (noteSource u s).flow = s.flow ∧ (noteSource u s).prog = s.prog ∧ (noteSource u s).sec = s.sec ∧ (noteSource u s).tim = s.tim ∧ (noteSource u s).ev = s.ev := by
  unfold noteSource; (try dsimp only); (repeat' split) <;> simp

set_option maxHeartbeats 60000 in
@[simp] theorem scrubFinds_frame (c : Codes) (dram : Bool) (u wher : Nat) (addr : Nat → Nat) (s : State) :
    (scrubFinds c dram u wher addr s).pending = s.pending ∧ (scrubFinds c dram u wher addr s).mail = s.mail ∧ (scrubFinds c dram u wher addr s).dram = s.dram ∧ (scrubFinds c dram u wher addr s).job = s.job ∧ (scrubFinds c dram u wher addr s).page = s.page ∧ (scrubFinds c dram u wher addr s).flow = s.flow ∧ (scrubFinds c dram u wher addr s).prog = s.prog ∧ (scrubFinds c dram u wher addr s).sec = s.sec ∧ (scrubFinds c dram u wher addr s).tim = s.tim := by
  unfold scrubFinds; (repeat' split) <;> simp

set_option maxHeartbeats 60000 in
@[simp] theorem scrubDram_frame (u : Nat) (r : EccResult) (dropped : Bool) (s : State) :
    (scrubDram u r dropped s).pending = s.pending ∧ (scrubDram u r dropped s).mail = s.mail ∧ (scrubDram u r dropped s).job = s.job ∧ (scrubDram u r dropped s).page = s.page ∧ (scrubDram u r dropped s).flow = s.flow ∧ (scrubDram u r dropped s).prog = s.prog ∧ (scrubDram u r dropped s).sec = s.sec ∧ (scrubDram u r dropped s).tim = s.tim := by
  unfold scrubDram; simp

set_option maxHeartbeats 60000 in
@[simp] theorem scrubSram_frame (u : Nat) (r : EccResult) (dropped : Bool) (s : State) :
    (scrubSram u r dropped s).pending = s.pending ∧ (scrubSram u r dropped s).mail = s.mail ∧ (scrubSram u r dropped s).dram = s.dram ∧ (scrubSram u r dropped s).job = s.job ∧ (scrubSram u r dropped s).page = s.page ∧ (scrubSram u r dropped s).flow = s.flow ∧ (scrubSram u r dropped s).prog = s.prog ∧ (scrubSram u r dropped s).sec = s.sec ∧ (scrubSram u r dropped s).tim = s.tim := by
  unfold scrubSram; simp

set_option maxHeartbeats 60000 in
@[simp] theorem scrubUnit_frame (addr : MemUnit) (r : EccResult) (dropped : Bool) (s : State) :
    (scrubUnit addr r dropped s).pending = s.pending ∧ (scrubUnit addr r dropped s).mail = s.mail ∧ (scrubUnit addr r dropped s).job = s.job ∧ (scrubUnit addr r dropped s).page = s.page ∧ (scrubUnit addr r dropped s).flow = s.flow ∧ (scrubUnit addr r dropped s).prog = s.prog ∧ (scrubUnit addr r dropped s).sec = s.sec ∧ (scrubUnit addr r dropped s).tim = s.tim := by
  unfold scrubUnit; (repeat' split) <;> simp

set_option maxHeartbeats 60000 in
@[simp] theorem updAxis_frame (a : Axis) (f : AxisState → AxisState) (s : State) :
    (updAxis a f s).pending = s.pending ∧ (updAxis a f s).mail = s.mail ∧ (updAxis a f s).dram = s.dram ∧ (updAxis a f s).job = s.job ∧ (updAxis a f s).page = s.page ∧ (updAxis a f s).flow = s.flow ∧ (updAxis a f s).prog = s.prog ∧ (updAxis a f s).sec = s.sec ∧ (updAxis a f s).tim = s.tim ∧ (updAxis a f s).ev = s.ev := by
  unfold updAxis; (repeat' split) <;> simp

set_option maxHeartbeats 60000 in
@[simp] theorem setCount_frame (a : Axis) (v : Int) (s : State) :
    (setCount a v s).pending = s.pending ∧ (setCount a v s).mail = s.mail ∧ (setCount a v s).dram = s.dram ∧ (setCount a v s).job = s.job ∧ (setCount a v s).page = s.page ∧ (setCount a v s).flow = s.flow ∧ (setCount a v s).prog = s.prog ∧ (setCount a v s).sec = s.sec ∧ (setCount a v s).tim = s.tim ∧ (setCount a v s).ev = s.ev := by
  unfold setCount; simp

set_option maxHeartbeats 60000 in
@[simp] theorem faultAxis_frame (a : Axis) (s : State) :
    (faultAxis a s).pending = s.pending ∧ (faultAxis a s).mail = s.mail ∧ (faultAxis a s).dram = s.dram ∧ (faultAxis a s).job = s.job ∧ (faultAxis a s).page = s.page ∧ (faultAxis a s).flow = s.flow ∧ (faultAxis a s).prog = s.prog ∧ (faultAxis a s).sec = s.sec ∧ (faultAxis a s).tim = s.tim := by
  unfold faultAxis; simp

set_option maxHeartbeats 60000 in
@[simp] theorem invalidate_frame (a : Axis) (s : State) :
    (invalidate a s).pending = s.pending ∧ (invalidate a s).mail = s.mail ∧ (invalidate a s).dram = s.dram ∧ (invalidate a s).job = s.job ∧ (invalidate a s).page = s.page ∧ (invalidate a s).flow = s.flow ∧ (invalidate a s).prog = s.prog ∧ (invalidate a s).sec = s.sec ∧ (invalidate a s).tim = s.tim := by
  unfold invalidate; simp

set_option maxHeartbeats 60000 in
@[simp] theorem updArmed_frame (f : Armed → Armed) (s : State) :
    (updArmed f s).pending = s.pending ∧ (updArmed f s).mail = s.mail ∧ (updArmed f s).dram = s.dram ∧ (updArmed f s).job = s.job ∧ (updArmed f s).page = s.page ∧ (updArmed f s).flow = s.flow ∧ (updArmed f s).prog = s.prog ∧ (updArmed f s).sec = s.sec ∧ (updArmed f s).tim = s.tim ∧ (updArmed f s).ev = s.ev := by
  unfold updArmed; simp

set_option maxHeartbeats 60000 in
@[simp] theorem crossingInterval_frame (d : Nat) (s : State) :
    (crossingInterval d s).pending = s.pending ∧ (crossingInterval d s).mail = s.mail ∧ (crossingInterval d s).dram = s.dram ∧ (crossingInterval d s).job = s.job ∧ (crossingInterval d s).page = s.page ∧ (crossingInterval d s).flow = s.flow ∧ (crossingInterval d s).prog = s.prog ∧ (crossingInterval d s).sec = s.sec ∧ (crossingInterval d s).tim = s.tim := by
  unfold crossingInterval; simp

set_option maxHeartbeats 60000 in
@[simp] theorem noteCrossing_frame (n : Int) (tc tdet : Nat) (s : State) :
    (noteCrossing n tc tdet s).pending = s.pending ∧ (noteCrossing n tc tdet s).mail = s.mail ∧ (noteCrossing n tc tdet s).dram = s.dram ∧ (noteCrossing n tc tdet s).job = s.job ∧ (noteCrossing n tc tdet s).page = s.page ∧ (noteCrossing n tc tdet s).flow = s.flow ∧ (noteCrossing n tc tdet s).prog = s.prog ∧ (noteCrossing n tc tdet s).sec = s.sec ∧ (noteCrossing n tc tdet s).tim = s.tim := by
  unfold noteCrossing; (repeat' split) <;> simp

set_option maxHeartbeats 60000 in
@[simp] theorem raiseMark_frame (u : Int) (tcOf : Int → Nat) (tdet : Nat) (s : State) :
    (raiseMark u tcOf tdet s).pending = s.pending ∧ (raiseMark u tcOf tdet s).mail = s.mail ∧ (raiseMark u tcOf tdet s).dram = s.dram ∧ (raiseMark u tcOf tdet s).job = s.job ∧ (raiseMark u tcOf tdet s).page = s.page ∧ (raiseMark u tcOf tdet s).flow = s.flow ∧ (raiseMark u tcOf tdet s).prog = s.prog ∧ (raiseMark u tcOf tdet s).sec = s.sec ∧ (raiseMark u tcOf tdet s).tim = s.tim := by
  unfold raiseMark; simp

set_option maxHeartbeats 60000 in
@[simp] theorem checkReversal_frame (u : Int) (s : State) :
    (checkReversal u s).pending = s.pending ∧ (checkReversal u s).dram = s.dram ∧ (checkReversal u s).job = s.job ∧ (checkReversal u s).page = s.page ∧ (checkReversal u s).prog = s.prog ∧ (checkReversal u s).sec = s.sec ∧ (checkReversal u s).tim = s.tim := by
  unfold checkReversal; simp

set_option maxHeartbeats 60000 in
@[simp] theorem keepSample_frame (t : Nat) (s : State) :
    (keepSample t s).pending = s.pending ∧ (keepSample t s).mail = s.mail ∧ (keepSample t s).dram = s.dram ∧ (keepSample t s).job = s.job ∧ (keepSample t s).page = s.page ∧ (keepSample t s).flow = s.flow ∧ (keepSample t s).prog = s.prog ∧ (keepSample t s).sec = s.sec ∧ (keepSample t s).tim = s.tim ∧ (keepSample t s).ev = s.ev := by
  unfold keepSample; simp

set_option maxHeartbeats 60000 in
@[simp] theorem quadEdge_frame (a : Axis) (m : QuadMove) (stamp detected : Nat) (s : State) :
    (quadEdge a m stamp detected s).pending = s.pending ∧ (quadEdge a m stamp detected s).dram = s.dram ∧ (quadEdge a m stamp detected s).job = s.job ∧ (quadEdge a m stamp detected s).page = s.page ∧ (quadEdge a m stamp detected s).prog = s.prog ∧ (quadEdge a m stamp detected s).sec = s.sec ∧ (quadEdge a m stamp detected s).tim = s.tim := by
  unfold quadEdge; (try dsimp only); (repeat' split) <;> simp

set_option maxHeartbeats 60000 in
@[simp] theorem posSet_frame (axis : Nat) (s : State) :
    (posSet axis s).pending = s.pending ∧ (posSet axis s).dram = s.dram ∧ (posSet axis s).job = s.job ∧ (posSet axis s).page = s.page ∧ (posSet axis s).prog = s.prog ∧ (posSet axis s).sec = s.sec ∧ (posSet axis s).tim = s.tim := by
  unfold posSet; (try dsimp only); (repeat' split) <;> simp

set_option maxHeartbeats 60000 in
@[simp] theorem pwsUnlock_frame (s : State) :
    (pwsUnlock s).pending = s.pending ∧ (pwsUnlock s).mail = s.mail ∧ (pwsUnlock s).dram = s.dram ∧ (pwsUnlock s).job = s.job ∧ (pwsUnlock s).page = s.page ∧ (pwsUnlock s).flow = s.flow ∧ (pwsUnlock s).prog = s.prog ∧ (pwsUnlock s).sec = s.sec ∧ (pwsUnlock s).tim = s.tim := by
  unfold pwsUnlock; simp

set_option maxHeartbeats 60000 in
@[simp] theorem pwsDiscard_frame (s : State) :
    (pwsDiscard s).pending = s.pending ∧ (pwsDiscard s).mail = s.mail ∧ (pwsDiscard s).dram = s.dram ∧ (pwsDiscard s).job = s.job ∧ (pwsDiscard s).page = s.page ∧ (pwsDiscard s).flow = s.flow ∧ (pwsDiscard s).prog = s.prog ∧ (pwsDiscard s).sec = s.sec ∧ (pwsDiscard s).tim = s.tim := by
  unfold pwsDiscard; simp

set_option maxHeartbeats 60000 in
@[simp] theorem pwsGap_frame (seq : Nat) (s : State) :
    (pwsGap seq s).pending = s.pending ∧ (pwsGap seq s).mail = s.mail ∧ (pwsGap seq s).dram = s.dram ∧ (pwsGap seq s).job = s.job ∧ (pwsGap seq s).page = s.page ∧ (pwsGap seq s).flow = s.flow ∧ (pwsGap seq s).prog = s.prog ∧ (pwsGap seq s).sec = s.sec ∧ (pwsGap seq s).tim = s.tim ∧ (pwsGap seq s).ev = s.ev := by
  unfold pwsGap; (repeat' split) <;> simp

set_option maxHeartbeats 60000 in
@[simp] theorem pwsTake_frame (seq latch : Nat) (y x w : Int) (s : State) :
    (pwsTake seq latch y x w s).pending = s.pending ∧ (pwsTake seq latch y x w s).mail = s.mail ∧ (pwsTake seq latch y x w s).dram = s.dram ∧ (pwsTake seq latch y x w s).job = s.job ∧ (pwsTake seq latch y x w s).page = s.page ∧ (pwsTake seq latch y x w s).flow = s.flow ∧ (pwsTake seq latch y x w s).prog = s.prog ∧ (pwsTake seq latch y x w s).sec = s.sec ∧ (pwsTake seq latch y x w s).tim = s.tim ∧ (pwsTake seq latch y x w s).ev = s.ev := by
  unfold pwsTake; simp

set_option maxHeartbeats 60000 in
@[simp] theorem pwsValid_frame (d1 : BitVec 80) (s : State) :
    (pwsValid d1 s).pending = s.pending ∧ (pwsValid d1 s).mail = s.mail ∧ (pwsValid d1 s).dram = s.dram ∧ (pwsValid d1 s).job = s.job ∧ (pwsValid d1 s).page = s.page ∧ (pwsValid d1 s).flow = s.flow ∧ (pwsValid d1 s).prog = s.prog ∧ (pwsValid d1 s).sec = s.sec ∧ (pwsValid d1 s).tim = s.tim := by
  unfold pwsValid; simp

set_option maxHeartbeats 60000 in
@[simp] theorem pwsProgress_frame (yValid : Bool) (y : Int) (prev : Option Sample) (latch arrival : Nat) (s : State) :
    (pwsProgress yValid y prev latch arrival s).pending = s.pending ∧ (pwsProgress yValid y prev latch arrival s).dram = s.dram ∧ (pwsProgress yValid y prev latch arrival s).job = s.job ∧ (pwsProgress yValid y prev latch arrival s).page = s.page ∧ (pwsProgress yValid y prev latch arrival s).prog = s.prog ∧ (pwsProgress yValid y prev latch arrival s).sec = s.sec ∧ (pwsProgress yValid y prev latch arrival s).tim = s.tim := by
  unfold pwsProgress; (repeat' split) <;> simp

set_option maxHeartbeats 60000 in
@[simp] theorem pwsUse_frame (d0 d1 : BitVec 80) (arrival : Nat) (s : State) :
    (pwsUse d0 d1 arrival s).pending = s.pending ∧ (pwsUse d0 d1 arrival s).dram = s.dram ∧ (pwsUse d0 d1 arrival s).job = s.job ∧ (pwsUse d0 d1 arrival s).page = s.page ∧ (pwsUse d0 d1 arrival s).prog = s.prog ∧ (pwsUse d0 d1 arrival s).sec = s.sec ∧ (pwsUse d0 d1 arrival s).tim = s.tim := by
  unfold pwsUse; simp

set_option maxHeartbeats 60000 in
@[simp] theorem pwsFrame_frame (d0 d1 : BitVec 80) (arrival : Nat) (s : State) :
    (pwsFrame d0 d1 arrival s).pending = s.pending ∧ (pwsFrame d0 d1 arrival s).dram = s.dram ∧ (pwsFrame d0 d1 arrival s).job = s.job ∧ (pwsFrame d0 d1 arrival s).page = s.page ∧ (pwsFrame d0 d1 arrival s).prog = s.prog ∧ (pwsFrame d0 d1 arrival s).sec = s.sec ∧ (pwsFrame d0 d1 arrival s).tim = s.tim := by
  unfold pwsFrame; simp

set_option maxHeartbeats 60000 in
@[simp] theorem shotCrossed_frame (n : Int) (tc tdet : Nat) (s : State) :
    (shotCrossed n tc tdet s).pending = s.pending ∧ (shotCrossed n tc tdet s).mail = s.mail ∧ (shotCrossed n tc tdet s).dram = s.dram ∧ (shotCrossed n tc tdet s).job = s.job ∧ (shotCrossed n tc tdet s).page = s.page ∧ (shotCrossed n tc tdet s).flow = s.flow ∧ (shotCrossed n tc tdet s).prog = s.prog ∧ (shotCrossed n tc tdet s).sec = s.sec ∧ (shotCrossed n tc tdet s).tim = s.tim := by
  unfold shotCrossed; simp

set_option maxHeartbeats 60000 in
@[simp] theorem posYLoCapture_frame (s : State) :
    (posYLoCapture s).pending = s.pending ∧ (posYLoCapture s).mail = s.mail ∧ (posYLoCapture s).dram = s.dram ∧ (posYLoCapture s).job = s.job ∧ (posYLoCapture s).page = s.page ∧ (posYLoCapture s).flow = s.flow ∧ (posYLoCapture s).prog = s.prog ∧ (posYLoCapture s).sec = s.sec ∧ (posYLoCapture s).tim = s.tim ∧ (posYLoCapture s).ev = s.ev := by
  unfold posYLoCapture; simp

set_option maxHeartbeats 60000 in
@[simp] theorem recomputeDigest_frame (s : State) :
    (recomputeDigest s).pending = s.pending ∧ (recomputeDigest s).mail = s.mail ∧ (recomputeDigest s).dram = s.dram ∧ (recomputeDigest s).job = s.job ∧ (recomputeDigest s).page = s.page ∧ (recomputeDigest s).flow = s.flow ∧ (recomputeDigest s).prog = s.prog ∧ (recomputeDigest s).sec = s.sec ∧ (recomputeDigest s).tim = s.tim := by
  unfold recomputeDigest; (try dsimp only); (repeat' split) <;> simp

set_option maxHeartbeats 60000 in
@[simp] theorem samplePosCfg_frame (s : State) :
    (samplePosCfg s).pending = s.pending ∧ (samplePosCfg s).mail = s.mail ∧ (samplePosCfg s).dram = s.dram ∧ (samplePosCfg s).job = s.job ∧ (samplePosCfg s).page = s.page ∧ (samplePosCfg s).flow = s.flow ∧ (samplePosCfg s).prog = s.prog ∧ (samplePosCfg s).sec = s.sec ∧ (samplePosCfg s).tim = s.tim ∧ (samplePosCfg s).ev = s.ev := by
  unfold samplePosCfg; simp

set_option maxHeartbeats 60000 in
@[simp] theorem unarm_frame (s : State) :
    (unarm s).pending = s.pending ∧ (unarm s).mail = s.mail ∧ (unarm s).dram = s.dram ∧ (unarm s).page = s.page ∧ (unarm s).prog = s.prog ∧ (unarm s).sec = s.sec ∧ (unarm s).tim = s.tim ∧ (unarm s).ev = s.ev := by
  unfold unarm; simp

set_option maxHeartbeats 60000 in
@[simp] theorem repeatApproach_frame (s : State) :
    (repeatApproach s).pending = s.pending ∧ (repeatApproach s).mail = s.mail ∧ (repeatApproach s).dram = s.dram ∧ (repeatApproach s).page = s.page ∧ (repeatApproach s).sec = s.sec ∧ (repeatApproach s).tim = s.tim ∧ (repeatApproach s).ev = s.ev := by
  unfold repeatApproach; simp

set_option maxHeartbeats 60000 in
@[simp] theorem armMiss_frame (s : State) :
    (armMiss s).pending = s.pending ∧ (armMiss s).mail = s.mail ∧ (armMiss s).dram = s.dram ∧ (armMiss s).page = s.page ∧ (armMiss s).sec = s.sec ∧ (armMiss s).tim = s.tim := by
  unfold armMiss; (try dsimp only); (repeat' split) <;> simp

set_option maxHeartbeats 60000 in
@[simp] theorem armStripe_frame (t : Nat) (s : State) :
    (armStripe t s).pending = s.pending ∧ (armStripe t s).mail = s.mail ∧ (armStripe t s).dram = s.dram ∧ (armStripe t s).page = s.page ∧ (armStripe t s).sec = s.sec := by
  unfold armStripe; (repeat' split) <;> simp

set_option maxHeartbeats 60000 in
@[simp] theorem firingCheck_frame (e : StripeEntry) (n t : Int) (s : State) :
    (firingCheck e n t s).pending = s.pending ∧ (firingCheck e n t s).mail = s.mail ∧ (firingCheck e n t s).dram = s.dram ∧ (firingCheck e n t s).job = s.job ∧ (firingCheck e n t s).page = s.page ∧ (firingCheck e n t s).flow = s.flow ∧ (firingCheck e n t s).prog = s.prog ∧ (firingCheck e n t s).sec = s.sec ∧ (firingCheck e n t s).tim = s.tim := by
  unfold firingCheck; (repeat' split) <;> simp

set_option maxHeartbeats 60000 in
@[simp] theorem dropShot_frame (e : StripeEntry) (k : Int) (s : State) :
    (dropShot e k s).pending = s.pending ∧ (dropShot e k s).mail = s.mail ∧ (dropShot e k s).dram = s.dram ∧ (dropShot e k s).job = s.job ∧ (dropShot e k s).page = s.page ∧ (dropShot e k s).flow = s.flow ∧ (dropShot e k s).prog = s.prog ∧ (dropShot e k s).sec = s.sec ∧ (dropShot e k s).tim = s.tim := by
  unfold dropShot; simp

set_option maxHeartbeats 60000 in
@[simp] theorem gatherStart_frame (e : StripeEntry) (tj pj : Int) (ts : Nat) (rest : List Int) (s : State) :
    (gatherStart e tj pj ts rest s).pending = s.pending ∧ (gatherStart e tj pj ts rest s).mail = s.mail ∧ (gatherStart e tj pj ts rest s).dram = s.dram ∧ (gatherStart e tj pj ts rest s).job = s.job ∧ (gatherStart e tj pj ts rest s).page = s.page ∧ (gatherStart e tj pj ts rest s).flow = s.flow ∧ (gatherStart e tj pj ts rest s).prog = s.prog ∧ (gatherStart e tj pj ts rest s).sec = s.sec ∧ (gatherStart e tj pj ts rest s).tim = s.tim := by
  unfold gatherStart; (repeat' split) <;> simp

set_option maxHeartbeats 60000 in
@[simp] theorem bellHold_frame (s : State) :
    (bellHold s).pending = s.pending ∧ (bellHold s).page = s.page := by
  unfold bellHold; simp

set_option maxHeartbeats 60000 in
@[simp] theorem bellOutOfStep_frame (s : State) :
    (bellOutOfStep s).pending = s.pending ∧ (bellOutOfStep s).mail = s.mail ∧ (bellOutOfStep s).dram = s.dram ∧ (bellOutOfStep s).job = s.job ∧ (bellOutOfStep s).page = s.page ∧ (bellOutOfStep s).flow = s.flow ∧ (bellOutOfStep s).prog = s.prog ∧ (bellOutOfStep s).sec = s.sec ∧ (bellOutOfStep s).tim = s.tim ∧ (bellOutOfStep s).ev = s.ev := by
  unfold bellOutOfStep; simp

set_option maxHeartbeats 60000 in
@[simp] theorem bellResume_frame (n : Int) (s : State) :
    (bellResume n s).pending = s.pending ∧ (bellResume n s).mail = s.mail ∧ (bellResume n s).dram = s.dram ∧ (bellResume n s).job = s.job ∧ (bellResume n s).page = s.page ∧ (bellResume n s).prog = s.prog ∧ (bellResume n s).sec = s.sec ∧ (bellResume n s).tim = s.tim ∧ (bellResume n s).ev = s.ev := by
  unfold bellResume; (repeat' split) <;> simp

set_option maxHeartbeats 60000 in
@[simp] theorem bellHandOver_frame (n : Int) (s : State) :
    (bellHandOver n s).pending = s.pending ∧ (bellHandOver n s).page = s.page := by
  unfold bellHandOver; simp

set_option maxHeartbeats 60000 in
@[simp] theorem bellRelease_frame (s : State) :
    (bellRelease s).pending = s.pending ∧ (bellRelease s).mail = s.mail ∧ (bellRelease s).dram = s.dram ∧ (bellRelease s).job = s.job ∧ (bellRelease s).page = s.page ∧ (bellRelease s).flow = s.flow ∧ (bellRelease s).prog = s.prog ∧ (bellRelease s).sec = s.sec ∧ (bellRelease s).tim = s.tim ∧ (bellRelease s).ev = s.ev := by
  unfold bellRelease; (repeat' split) <;> simp

set_option maxHeartbeats 60000 in
@[simp] theorem bellReasons_frame (n : Int) (s : State) :
    (bellReasons n s).pending = s.pending ∧ (bellReasons n s).mail = s.mail ∧ (bellReasons n s).dram = s.dram ∧ (bellReasons n s).job = s.job ∧ (bellReasons n s).page = s.page ∧ (bellReasons n s).flow = s.flow ∧ (bellReasons n s).prog = s.prog ∧ (bellReasons n s).sec = s.sec ∧ (bellReasons n s).tim = s.tim := by
  unfold bellReasons; simp

set_option maxHeartbeats 60000 in
@[simp] theorem bellExpire_frame (n : Int) (s : State) :
    (bellExpire n s).pending = s.pending ∧ (bellExpire n s).mail = s.mail ∧ (bellExpire n s).dram = s.dram ∧ (bellExpire n s).job = s.job ∧ (bellExpire n s).page = s.page ∧ (bellExpire n s).flow = s.flow ∧ (bellExpire n s).prog = s.prog ∧ (bellExpire n s).sec = s.sec ∧ (bellExpire n s).tim = s.tim ∧ (bellExpire n s).ev = s.ev := by
  unfold bellExpire; (try dsimp only); (repeat' split) <;> simp

set_option maxHeartbeats 60000 in
@[simp] theorem bellLast_frame (s : State) :
    (bellLast s).pending = s.pending ∧ (bellLast s).dram = s.dram ∧ (bellLast s).job = s.job ∧ (bellLast s).page = s.page ∧ (bellLast s).prog = s.prog ∧ (bellLast s).sec = s.sec ∧ (bellLast s).tim = s.tim := by
  unfold bellLast; (try dsimp only); (repeat' split) <;> simp

set_option maxHeartbeats 60000 in
@[simp] theorem bellShown_frame (n : Int) (rest : List Int) (c : Crossing) (t : Int) (p : Int) (s : State) :
    (bellShown n rest c t p s).pending = s.pending ∧ (bellShown n rest c t p s).mail = s.mail ∧ (bellShown n rest c t p s).dram = s.dram ∧ (bellShown n rest c t p s).job = s.job ∧ (bellShown n rest c t p s).page = s.page ∧ (bellShown n rest c t p s).flow = s.flow ∧ (bellShown n rest c t p s).sec = s.sec ∧ (bellShown n rest c t p s).tim = s.tim ∧ (bellShown n rest c t p s).ev = s.ev := by
  unfold bellShown; simp

set_option maxHeartbeats 60000 in
@[simp] theorem bellGather_frame (e : StripeEntry) (n : Int) (t : Int) (p : Int) (ts : Nat) (rest : List Int) (s : State) :
    (bellGather e n t p ts rest s).pending = s.pending ∧ (bellGather e n t p ts rest s).mail = s.mail ∧ (bellGather e n t p ts rest s).dram = s.dram ∧ (bellGather e n t p ts rest s).job = s.job ∧ (bellGather e n t p ts rest s).page = s.page ∧ (bellGather e n t p ts rest s).flow = s.flow ∧ (bellGather e n t p ts rest s).prog = s.prog ∧ (bellGather e n t p ts rest s).sec = s.sec ∧ (bellGather e n t p ts rest s).tim = s.tim := by
  unfold bellGather; simp

set_option maxHeartbeats 60000 in
@[simp] theorem bellOver_frame (s : State) :
    (bellOver s).pending = s.pending ∧ (bellOver s).page = s.page := by
  unfold bellOver; simp

set_option maxHeartbeats 60000 in
@[simp] theorem bellFire_frame (e : StripeEntry) (n : Int) (rest : List Int) (c : Crossing) (t : Int) (p : Int) (ts : Nat) (s : State) :
    (bellFire e n rest c t p ts s).pending = s.pending ∧ (bellFire e n rest c t p ts s).page = s.page := by
  unfold bellFire; simp

set_option maxHeartbeats 60000 in
@[simp] theorem bellEvent_frame (ts : Nat) (s : State) :
    (bellEvent ts s).pending = s.pending ∧ (bellEvent ts s).page = s.page := by
  unfold bellEvent; (repeat' split) <;> simp

set_option maxHeartbeats 60000 in
@[simp] theorem bellCrossing_frame (s : State) :
    (bellCrossing s).pending = s.pending ∧ (bellCrossing s).dram = s.dram ∧ (bellCrossing s).job = s.job ∧ (bellCrossing s).page = s.page ∧ (bellCrossing s).prog = s.prog ∧ (bellCrossing s).sec = s.sec ∧ (bellCrossing s).tim = s.tim := by
  unfold bellCrossing; simp

set_option maxHeartbeats 60000 in
@[simp] theorem endChecks_frame (s : State) :
    (endChecks s).pending = s.pending ∧ (endChecks s).mail = s.mail ∧ (endChecks s).dram = s.dram ∧ (endChecks s).job = s.job ∧ (endChecks s).page = s.page ∧ (endChecks s).flow = s.flow ∧ (endChecks s).prog = s.prog ∧ (endChecks s).sec = s.sec := by
  unfold endChecks; simp

set_option maxHeartbeats 60000 in
@[simp] theorem tickBeams_frame (s : State) :
    (tickBeams s).pending = s.pending ∧ (tickBeams s).dram = s.dram ∧ (tickBeams s).job = s.job ∧ (tickBeams s).page = s.page ∧ (tickBeams s).prog = s.prog ∧ (tickBeams s).sec = s.sec := by
  unfold tickBeams; simp

set_option maxHeartbeats 60000 in
@[simp] theorem tickMotion_frame (s : State) :
    (tickMotion s).pending = s.pending ∧ (tickMotion s).dram = s.dram ∧ (tickMotion s).job = s.job ∧ (tickMotion s).page = s.page ∧ (tickMotion s).prog = s.prog ∧ (tickMotion s).sec = s.sec ∧ (tickMotion s).tim = s.tim := by
  unfold tickMotion; simp

set_option maxHeartbeats 60000 in
@[simp] theorem hearSpeed_frame (s : State) :
    (hearSpeed s).pending = s.pending ∧ (hearSpeed s).mail = s.mail ∧ (hearSpeed s).dram = s.dram ∧ (hearSpeed s).job = s.job ∧ (hearSpeed s).page = s.page ∧ (hearSpeed s).flow = s.flow ∧ (hearSpeed s).sec = s.sec ∧ (hearSpeed s).tim = s.tim ∧ (hearSpeed s).ev = s.ev := by
  unfold hearSpeed; (repeat' split) <;> simp

set_option maxHeartbeats 60000 in
@[simp] theorem parameterTick_frame (s : State) :
    (parameterTick s).pending = s.pending ∧ (parameterTick s).page = s.page := by
  unfold parameterTick; simp

set_option maxHeartbeats 60000 in
@[simp] theorem updBatch_frame (f : Batch → Batch) (s : State) :
    (updBatch f s).pending = s.pending ∧ (updBatch f s).mail = s.mail ∧ (updBatch f s).dram = s.dram ∧ (updBatch f s).job = s.job ∧ (updBatch f s).page = s.page ∧ (updBatch f s).flow = s.flow ∧ (updBatch f s).prog = s.prog ∧ (updBatch f s).sec = s.sec ∧ (updBatch f s).tim = s.tim ∧ (updBatch f s).ev = s.ev := by
  unfold updBatch; simp

set_option maxHeartbeats 60000 in
@[simp] theorem ensureCheckShot_frame (i : Nat) (s : State) :
    (ensureCheckShot i s).pending = s.pending ∧ (ensureCheckShot i s).mail = s.mail ∧ (ensureCheckShot i s).dram = s.dram ∧ (ensureCheckShot i s).job = s.job ∧ (ensureCheckShot i s).page = s.page ∧ (ensureCheckShot i s).flow = s.flow ∧ (ensureCheckShot i s).prog = s.prog ∧ (ensureCheckShot i s).sec = s.sec ∧ (ensureCheckShot i s).tim = s.tim ∧ (ensureCheckShot i s).ev = s.ev := by
  unfold ensureCheckShot; (repeat' split) <;> simp

set_option maxHeartbeats 60000 in
@[simp] theorem appendContents_frame (cs : List Nat) (s : State) :
    (appendContents cs s).pending = s.pending ∧ (appendContents cs s).mail = s.mail ∧ (appendContents cs s).dram = s.dram ∧ (appendContents cs s).job = s.job ∧ (appendContents cs s).page = s.page ∧ (appendContents cs s).flow = s.flow ∧ (appendContents cs s).prog = s.prog ∧ (appendContents cs s).sec = s.sec ∧ (appendContents cs s).tim = s.tim ∧ (appendContents cs s).ev = s.ev := by
  unfold appendContents; (repeat' split) <;> simp

set_option maxHeartbeats 60000 in
@[simp] theorem checkVoid_frame (sh : Shot) (s : State) :
    (checkVoid sh s).pending = s.pending ∧ (checkVoid sh s).mail = s.mail ∧ (checkVoid sh s).dram = s.dram ∧ (checkVoid sh s).job = s.job ∧ (checkVoid sh s).page = s.page ∧ (checkVoid sh s).flow = s.flow ∧ (checkVoid sh s).prog = s.prog ∧ (checkVoid sh s).sec = s.sec := by
  unfold checkVoid; (repeat' split) <;> simp

set_option maxHeartbeats 60000 in
@[simp] theorem applyBeam_frame (b : Nat) (e : DWord) (s : State) :
    (applyBeam b e s).pending = s.pending ∧ (applyBeam b e s).mail = s.mail ∧ (applyBeam b e s).dram = s.dram ∧ (applyBeam b e s).job = s.job ∧ (applyBeam b e s).page = s.page ∧ (applyBeam b e s).flow = s.flow ∧ (applyBeam b e s).prog = s.prog ∧ (applyBeam b e s).sec = s.sec ∧ (applyBeam b e s).tim = s.tim ∧ (applyBeam b e s).ev = s.ev := by
  unfold applyBeam; simp

set_option maxHeartbeats 60000 in
@[simp] theorem retireBeam_frame (b : Nat) (s : State) :
    (retireBeam b s).pending = s.pending ∧ (retireBeam b s).mail = s.mail ∧ (retireBeam b s).dram = s.dram ∧ (retireBeam b s).job = s.job ∧ (retireBeam b s).page = s.page ∧ (retireBeam b s).flow = s.flow ∧ (retireBeam b s).prog = s.prog ∧ (retireBeam b s).sec = s.sec ∧ (retireBeam b s).tim = s.tim := by
  unfold retireBeam; simp

set_option maxHeartbeats 60000 in
@[simp] theorem judgeBeam_frame (b : Batch) (k : Nat) (s : State) :
    (judgeBeam b k s).pending = s.pending ∧ (judgeBeam b k s).mail = s.mail ∧ (judgeBeam b k s).dram = s.dram ∧ (judgeBeam b k s).job = s.job ∧ (judgeBeam b k s).page = s.page ∧ (judgeBeam b k s).flow = s.flow ∧ (judgeBeam b k s).prog = s.prog ∧ (judgeBeam b k s).sec = s.sec ∧ (judgeBeam b k s).tim = s.tim := by
  unfold judgeBeam; (try dsimp only); (repeat' split) <;> simp

set_option maxHeartbeats 60000 in
@[simp] theorem judgeIf_frame (all : Bool) (k : Nat) (s : State) :
    (judgeIf all k s).pending = s.pending ∧ (judgeIf all k s).mail = s.mail ∧ (judgeIf all k s).dram = s.dram ∧ (judgeIf all k s).job = s.job ∧ (judgeIf all k s).page = s.page ∧ (judgeIf all k s).flow = s.flow ∧ (judgeIf all k s).prog = s.prog ∧ (judgeIf all k s).sec = s.sec ∧ (judgeIf all k s).tim = s.tim := by
  unfold judgeIf; (repeat' split) <;> simp

set_option maxHeartbeats 60000 in
@[simp] theorem judgeBeams_frame (all : Bool) (s : State) :
    (judgeBeams all s).pending = s.pending ∧ (judgeBeams all s).mail = s.mail ∧ (judgeBeams all s).dram = s.dram ∧ (judgeBeams all s).job = s.job ∧ (judgeBeams all s).page = s.page ∧ (judgeBeams all s).flow = s.flow ∧ (judgeBeams all s).prog = s.prog ∧ (judgeBeams all s).sec = s.sec ∧ (judgeBeams all s).tim = s.tim := by
  unfold judgeBeams; (repeat' split) <;> simp

set_option maxHeartbeats 60000 in
@[simp] theorem beginBatch_frame (b : Batch) (s : State) :
    (beginBatch b s).pending = s.pending ∧ (beginBatch b s).mail = s.mail ∧ (beginBatch b s).dram = s.dram ∧ (beginBatch b s).job = s.job ∧ (beginBatch b s).page = s.page ∧ (beginBatch b s).flow = s.flow ∧ (beginBatch b s).prog = s.prog ∧ (beginBatch b s).sec = s.sec ∧ (beginBatch b s).tim = s.tim ∧ (beginBatch b s).ev = s.ev := by
  unfold beginBatch; simp

set_option maxHeartbeats 60000 in
@[simp] theorem frameStart_frame (l t : Nat) (s : State) :
    (frameStart l t s).pending = s.pending ∧ (frameStart l t s).mail = s.mail ∧ (frameStart l t s).dram = s.dram ∧ (frameStart l t s).job = s.job ∧ (frameStart l t s).page = s.page ∧ (frameStart l t s).flow = s.flow ∧ (frameStart l t s).prog = s.prog ∧ (frameStart l t s).sec = s.sec ∧ (frameStart l t s).tim = s.tim ∧ (frameStart l t s).ev = s.ev := by
  unfold frameStart; (repeat' split) <;> simp

set_option maxHeartbeats 60000 in
@[simp] theorem idleFrame_frame (t : Nat) (s : State) :
    (idleFrame t s).pending = s.pending := by
  unfold idleFrame; simp

set_option maxHeartbeats 60000 in
@[simp] theorem suppressStrobe_frame (g : Nat) (sh : Shot) (s : State) :
    (suppressStrobe g sh s).pending = s.pending ∧ (suppressStrobe g sh s).mail = s.mail ∧ (suppressStrobe g sh s).dram = s.dram ∧ (suppressStrobe g sh s).job = s.job ∧ (suppressStrobe g sh s).page = s.page ∧ (suppressStrobe g sh s).flow = s.flow ∧ (suppressStrobe g sh s).prog = s.prog ∧ (suppressStrobe g sh s).sec = s.sec ∧ (suppressStrobe g sh s).tim = s.tim ∧ (suppressStrobe g sh s).ev = s.ev := by
  unfold suppressStrobe; simp

set_option maxHeartbeats 60000 in
@[simp] theorem resumeFires_frame (n : Int) (s : State) :
    (resumeFires n s).pending = s.pending ∧ (resumeFires n s).dram = s.dram ∧ (resumeFires n s).job = s.job ∧ (resumeFires n s).page = s.page ∧ (resumeFires n s).prog = s.prog ∧ (resumeFires n s).sec = s.sec ∧ (resumeFires n s).tim = s.tim ∧ (resumeFires n s).ev = s.ev := by
  unfold resumeFires; (repeat' split) <;> simp

set_option maxHeartbeats 60000 in
@[simp] theorem strobeRise_frame (g : Nat) (s : State) :
    (strobeRise g s).pending = s.pending ∧ (strobeRise g s).dram = s.dram ∧ (strobeRise g s).job = s.job ∧ (strobeRise g s).page = s.page ∧ (strobeRise g s).prog = s.prog ∧ (strobeRise g s).sec = s.sec ∧ (strobeRise g s).tim = s.tim ∧ (strobeRise g s).ev = s.ev := by
  unfold strobeRise; (repeat' split) <;> simp

set_option maxHeartbeats 60000 in
@[simp] theorem strobeFall_frame (g : Nat) (s : State) :
    (strobeFall g s).pending = s.pending ∧ (strobeFall g s).mail = s.mail ∧ (strobeFall g s).dram = s.dram ∧ (strobeFall g s).job = s.job ∧ (strobeFall g s).page = s.page ∧ (strobeFall g s).flow = s.flow ∧ (strobeFall g s).prog = s.prog ∧ (strobeFall g s).sec = s.sec ∧ (strobeFall g s).tim = s.tim ∧ (strobeFall g s).ev = s.ev := by
  unfold strobeFall; (try dsimp only); (repeat' split) <;> simp

set_option maxHeartbeats 60000 in
@[simp] theorem headFault_frame (t : Int) (s : State) :
    (headFault t s).pending = s.pending ∧ (headFault t s).dram = s.dram ∧ (headFault t s).job = s.job ∧ (headFault t s).page = s.page ∧ (headFault t s).prog = s.prog ∧ (headFault t s).sec = s.sec := by
  unfold headFault; simp

set_option maxHeartbeats 60000 in
@[simp] theorem echoLatency_frame (echo : Option DWord) (base : Int) (t : Nat) (s : State) :
    (echoLatency echo base t s).pending = s.pending ∧ (echoLatency echo base t s).mail = s.mail ∧ (echoLatency echo base t s).dram = s.dram ∧ (echoLatency echo base t s).job = s.job ∧ (echoLatency echo base t s).page = s.page ∧ (echoLatency echo base t s).flow = s.flow ∧ (echoLatency echo base t s).prog = s.prog ∧ (echoLatency echo base t s).sec = s.sec ∧ (echoLatency echo base t s).tim = s.tim := by
  unfold echoLatency; simp

set_option maxHeartbeats 60000 in
@[simp] theorem classifyIdle_frame (l base : Nat) (rest : List Nat) (echo : Option DWord) (t : Nat) (s : State) :
    (classifyIdle l base rest echo t s).pending = s.pending := by
  unfold classifyIdle; simp

set_option maxHeartbeats 60000 in
@[simp] theorem classifyShot_frame (l i : Nat) (n : Int) (sh : Shot) (ty : FrameType) (crc : Word) (echo : Option DWord) (t : Nat) (s : State) :
    (classifyShot l i n sh ty crc echo t s).pending = s.pending ∧ (classifyShot l i n sh ty crc echo t s).page = s.page := by
  unfold classifyShot; simp

set_option maxHeartbeats 60000 in
@[simp] theorem classifyFrame_frame (l : Nat) (f : Awaited) (echo : Option DWord) (t : Nat) (s : State) :
    (classifyFrame l f echo t s).pending = s.pending := by
  unfold classifyFrame; (repeat' split) <;> simp

set_option maxHeartbeats 60000 in
@[simp] theorem echoReceived_frame (l : Nat) (echo : DWord) (t : Nat) (s : State) :
    (echoReceived l echo t s).pending = s.pending := by
  unfold echoReceived; (repeat' split) <;> simp

set_option maxHeartbeats 60000 in
@[simp] theorem echoDeadline_frame (l t : Nat) (s : State) :
    (echoDeadline l t s).pending = s.pending := by
  unfold echoDeadline; (repeat' split) <;> simp

set_option maxHeartbeats 60000 in
@[simp] theorem returnLaneLock_frame (l : Nat) (s : State) :
    (returnLaneLock l s).pending = s.pending ∧ (returnLaneLock l s).mail = s.mail ∧ (returnLaneLock l s).dram = s.dram ∧ (returnLaneLock l s).job = s.job ∧ (returnLaneLock l s).page = s.page ∧ (returnLaneLock l s).flow = s.flow ∧ (returnLaneLock l s).prog = s.prog ∧ (returnLaneLock l s).sec = s.sec ∧ (returnLaneLock l s).tim = s.tim ∧ (returnLaneLock l s).ev = s.ev := by
  unfold returnLaneLock; simp

set_option maxHeartbeats 60000 in
@[simp] theorem returnLaneLost_frame (l t : Nat) (s : State) :
    (returnLaneLost l t s).pending = s.pending ∧ (returnLaneLost l t s).mail = s.mail ∧ (returnLaneLost l t s).dram = s.dram ∧ (returnLaneLost l t s).job = s.job ∧ (returnLaneLost l t s).page = s.page ∧ (returnLaneLost l t s).flow = s.flow ∧ (returnLaneLost l t s).prog = s.prog ∧ (returnLaneLost l t s).sec = s.sec := by
  unfold returnLaneLost; simp

set_option maxHeartbeats 60000 in
@[simp] theorem returnLockTimeout_frame (l t : Nat) (s : State) :
    (returnLockTimeout l t s).pending = s.pending ∧ (returnLockTimeout l t s).mail = s.mail ∧ (returnLockTimeout l t s).dram = s.dram ∧ (returnLockTimeout l t s).job = s.job ∧ (returnLockTimeout l t s).page = s.page ∧ (returnLockTimeout l t s).flow = s.flow ∧ (returnLockTimeout l t s).prog = s.prog ∧ (returnLockTimeout l t s).sec = s.sec := by
  unfold returnLockTimeout; simp

set_option maxHeartbeats 60000 in
@[simp] theorem txLaneFault_frame (l t : Nat) (s : State) :
    (txLaneFault l t s).pending = s.pending ∧ (txLaneFault l t s).mail = s.mail ∧ (txLaneFault l t s).dram = s.dram ∧ (txLaneFault l t s).job = s.job ∧ (txLaneFault l t s).page = s.page ∧ (txLaneFault l t s).flow = s.flow ∧ (txLaneFault l t s).prog = s.prog ∧ (txLaneFault l t s).sec = s.sec := by
  unfold txLaneFault; simp

set_option maxHeartbeats 60000 in
@[simp] theorem txLaneFaultEnd_frame (l : Nat) (s : State) :
    (txLaneFaultEnd l s).pending = s.pending ∧ (txLaneFaultEnd l s).mail = s.mail ∧ (txLaneFaultEnd l s).dram = s.dram ∧ (txLaneFaultEnd l s).job = s.job ∧ (txLaneFaultEnd l s).page = s.page ∧ (txLaneFaultEnd l s).flow = s.flow ∧ (txLaneFaultEnd l s).prog = s.prog ∧ (txLaneFaultEnd l s).sec = s.sec ∧ (txLaneFaultEnd l s).tim = s.tim ∧ (txLaneFaultEnd l s).ev = s.ev := by
  unfold txLaneFaultEnd; simp

set_option maxHeartbeats 60000 in
@[simp] theorem linkLossClear_frame (s : State) :
    (linkLossClear s).pending = s.pending ∧ (linkLossClear s).mail = s.mail ∧ (linkLossClear s).dram = s.dram ∧ (linkLossClear s).job = s.job ∧ (linkLossClear s).page = s.page ∧ (linkLossClear s).flow = s.flow ∧ (linkLossClear s).prog = s.prog ∧ (linkLossClear s).sec = s.sec ∧ (linkLossClear s).tim = s.tim ∧ (linkLossClear s).ev = s.ev := by
  unfold linkLossClear; simp

set_option maxHeartbeats 60000 in
@[simp] theorem opticsReport_frame (e : Nat) (power : List Int) (bias : List Nat) (temp : Int) (s : State) :
    (opticsReport e power bias temp s).pending = s.pending ∧ (opticsReport e power bias temp s).mail = s.mail ∧ (opticsReport e power bias temp s).dram = s.dram ∧ (opticsReport e power bias temp s).job = s.job ∧ (opticsReport e power bias temp s).page = s.page ∧ (opticsReport e power bias temp s).flow = s.flow ∧ (opticsReport e power bias temp s).prog = s.prog ∧ (opticsReport e power bias temp s).sec = s.sec ∧ (opticsReport e power bias temp s).tim = s.tim := by
  unfold opticsReport; simp

set_option maxHeartbeats 60000 in
@[simp] theorem cinchTrip_frame (t : Nat) (s : State) :
    (cinchTrip t s).pending = s.pending ∧ (cinchTrip t s).dram = s.dram ∧ (cinchTrip t s).job = s.job ∧ (cinchTrip t s).page = s.page ∧ (cinchTrip t s).prog = s.prog ∧ (cinchTrip t s).sec = s.sec := by
  unfold cinchTrip; simp

set_option maxHeartbeats 60000 in
@[simp] theorem cinchTested_frame (ps : Nat) (s : State) :
    (cinchTested ps s).pending = s.pending ∧ (cinchTested ps s).mail = s.mail ∧ (cinchTested ps s).dram = s.dram ∧ (cinchTested ps s).job = s.job ∧ (cinchTested ps s).page = s.page ∧ (cinchTested ps s).flow = s.flow ∧ (cinchTested ps s).prog = s.prog ∧ (cinchTested ps s).sec = s.sec ∧ (cinchTested ps s).tim = s.tim ∧ (cinchTested ps s).ev = s.ev := by
  unfold cinchTested; simp

set_option maxHeartbeats 60000 in
@[simp] theorem cinchTest_frame (ps : Nat) (s : State) :
    (cinchTest ps s).pending = s.pending ∧ (cinchTest ps s).mail = s.mail ∧ (cinchTest ps s).dram = s.dram ∧ (cinchTest ps s).job = s.job ∧ (cinchTest ps s).page = s.page ∧ (cinchTest ps s).flow = s.flow ∧ (cinchTest ps s).prog = s.prog ∧ (cinchTest ps s).sec = s.sec ∧ (cinchTest ps s).tim = s.tim ∧ (cinchTest ps s).ev = s.ev := by
  unfold cinchTest; simp

set_option maxHeartbeats 60000 in
@[simp] theorem enterWrite_frame (s : State) :
    (enterWrite s).pending = s.pending ∧ (enterWrite s).dram = s.dram ∧ (enterWrite s).page = s.page ∧ (enterWrite s).sec = s.sec ∧ (enterWrite s).tim = s.tim := by
  unfold enterWrite; simp

set_option maxHeartbeats 60000 in
@[simp] theorem startFails_frame (s : State) :
    (startFails s).pending = s.pending ∧ (startFails s).mail = s.mail ∧ (startFails s).dram = s.dram ∧ (startFails s).job = s.job ∧ (startFails s).page = s.page ∧ (startFails s).prog = s.prog ∧ (startFails s).sec = s.sec ∧ (startFails s).tim = s.tim ∧ (startFails s).ev = s.ev := by
  unfold startFails; simp

set_option maxHeartbeats 60000 in
@[simp] theorem startSettled_frame (ps : Nat) (slot : Option (Fin 16)) (s : State) :
    (startSettled ps slot s).pending = s.pending ∧ (startSettled ps slot s).dram = s.dram ∧ (startSettled ps slot s).page = s.page ∧ (startSettled ps slot s).sec = s.sec ∧ (startSettled ps slot s).tim = s.tim := by
  unfold startSettled; simp

set_option maxHeartbeats 60000 in
@[simp] theorem exposeSettled_frame (ps : Nat) (s : State) :
    (exposeSettled ps s).pending = s.pending ∧ (exposeSettled ps s).dram = s.dram ∧ (exposeSettled ps s).page = s.page ∧ (exposeSettled ps s).sec = s.sec := by
  unfold exposeSettled; (try dsimp only); (repeat' split) <;> simp

set_option maxHeartbeats 60000 in
@[simp] theorem gpioSeen_frame (n : Nat) (rising : Bool) (s : State) :
    (gpioSeen n rising s).pending = s.pending ∧ (gpioSeen n rising s).mail = s.mail ∧ (gpioSeen n rising s).dram = s.dram ∧ (gpioSeen n rising s).job = s.job ∧ (gpioSeen n rising s).page = s.page ∧ (gpioSeen n rising s).flow = s.flow ∧ (gpioSeen n rising s).prog = s.prog ∧ (gpioSeen n rising s).sec = s.sec := by
  unfold gpioSeen; simp

@[simp] theorem withPin_pending (n : Nat) (g : State → State) (s : State) (h : ∀ u t, g u = t → t.pending = u.pending) :
    (withPin n g s).pending = s.pending := by
  unfold withPin; dsimp only; split
  · exact h _ _ rfl
  · rw [show (gpioSeen n (gpioLevel (g s) n) (g s)).pending = (g s).pending by simp]; exact h _ _ rfl

@[simp] theorem withPin_mail (n : Nat) (g : State → State) (s : State) (h : ∀ u t, g u = t → t.mail = u.mail) :
    (withPin n g s).mail = s.mail := by
  unfold withPin; dsimp only; split
  · exact h _ _ rfl
  · rw [show (gpioSeen n (gpioLevel (g s) n) (g s)).mail = (g s).mail by simp]; exact h _ _ rfl

@[simp] theorem withPin_dram (n : Nat) (g : State → State) (s : State) (h : ∀ u t, g u = t → t.dram = u.dram) :
    (withPin n g s).dram = s.dram := by
  unfold withPin; dsimp only; split
  · exact h _ _ rfl
  · rw [show (gpioSeen n (gpioLevel (g s) n) (g s)).dram = (g s).dram by simp]; exact h _ _ rfl

@[simp] theorem withPin_job (n : Nat) (g : State → State) (s : State) (h : ∀ u t, g u = t → t.job = u.job) :
    (withPin n g s).job = s.job := by
  unfold withPin; dsimp only; split
  · exact h _ _ rfl
  · rw [show (gpioSeen n (gpioLevel (g s) n) (g s)).job = (g s).job by simp]; exact h _ _ rfl

@[simp] theorem withPin_page (n : Nat) (g : State → State) (s : State) (h : ∀ u t, g u = t → t.page = u.page) :
    (withPin n g s).page = s.page := by
  unfold withPin; dsimp only; split
  · exact h _ _ rfl
  · rw [show (gpioSeen n (gpioLevel (g s) n) (g s)).page = (g s).page by simp]; exact h _ _ rfl

@[simp] theorem withPin_flow (n : Nat) (g : State → State) (s : State) (h : ∀ u t, g u = t → t.flow = u.flow) :
    (withPin n g s).flow = s.flow := by
  unfold withPin; dsimp only; split
  · exact h _ _ rfl
  · rw [show (gpioSeen n (gpioLevel (g s) n) (g s)).flow = (g s).flow by simp]; exact h _ _ rfl

@[simp] theorem withPin_prog (n : Nat) (g : State → State) (s : State) (h : ∀ u t, g u = t → t.prog = u.prog) :
    (withPin n g s).prog = s.prog := by
  unfold withPin; dsimp only; split
  · exact h _ _ rfl
  · rw [show (gpioSeen n (gpioLevel (g s) n) (g s)).prog = (g s).prog by simp]; exact h _ _ rfl

@[simp] theorem withPin_sec (n : Nat) (g : State → State) (s : State) (h : ∀ u t, g u = t → t.sec = u.sec) :
    (withPin n g s).sec = s.sec := by
  unfold withPin; dsimp only; split
  · exact h _ _ rfl
  · rw [show (gpioSeen n (gpioLevel (g s) n) (g s)).sec = (g s).sec by simp]; exact h _ _ rfl


set_option maxHeartbeats 60000 in
@[simp] theorem pinInput_frame (n : Nat) (high : Bool) (s : State) :
    (pinInput n high s).pending = s.pending ∧ (pinInput n high s).mail = s.mail ∧ (pinInput n high s).dram = s.dram ∧ (pinInput n high s).job = s.job ∧ (pinInput n high s).page = s.page ∧ (pinInput n high s).flow = s.flow ∧ (pinInput n high s).prog = s.prog ∧ (pinInput n high s).sec = s.sec := by
  unfold pinInput; simp

set_option maxHeartbeats 60000 in
@[simp] theorem calWrap_frame (s : State) :
    (calWrap s).pending = s.pending ∧ (calWrap s).mail = s.mail ∧ (calWrap s).dram = s.dram ∧ (calWrap s).job = s.job ∧ (calWrap s).page = s.page ∧ (calWrap s).flow = s.flow ∧ (calWrap s).prog = s.prog ∧ (calWrap s).sec = s.sec ∧ (calWrap s).tim = s.tim := by
  unfold calWrap; simp

set_option maxHeartbeats 60000 in
@[simp] theorem startsDone_frame (c : CheckStep) (s : State) :
    (startsDone c s).pending = s.pending ∧ (startsDone c s).dram = s.dram ∧ (startsDone c s).job = s.job ∧ (startsDone c s).page = s.page ∧ (startsDone c s).flow = s.flow ∧ (startsDone c s).prog = s.prog ∧ (startsDone c s).sec = s.sec ∧ (startsDone c s).tim = s.tim ∧ (startsDone c s).ev = s.ev := by
  unfold startsDone; simp

set_option maxHeartbeats 60000 in
@[simp] theorem openRun_frame (b : Batch) (s : State) :
    (openRun b s).pending = s.pending ∧ (openRun b s).dram = s.dram ∧ (openRun b s).job = s.job ∧ (openRun b s).page = s.page ∧ (openRun b s).flow = s.flow ∧ (openRun b s).prog = s.prog ∧ (openRun b s).sec = s.sec := by
  unfold openRun; simp

set_option maxHeartbeats 60000 in
@[simp] theorem checkRunOpen_frame (slotUs : Nat) (s : State) :
    (checkRunOpen slotUs s).pending = s.pending ∧ (checkRunOpen slotUs s).dram = s.dram ∧ (checkRunOpen slotUs s).job = s.job ∧ (checkRunOpen slotUs s).page = s.page ∧ (checkRunOpen slotUs s).flow = s.flow ∧ (checkRunOpen slotUs s).prog = s.prog ∧ (checkRunOpen slotUs s).sec = s.sec := by
  unfold checkRunOpen; (repeat' split) <;> simp

set_option maxHeartbeats 60000 in
@[simp] theorem calSample_frame (c code : Nat) (s : State) :
    (calSample c code s).pending = s.pending ∧ (calSample c code s).mail = s.mail ∧ (calSample c code s).dram = s.dram ∧ (calSample c code s).job = s.job ∧ (calSample c code s).page = s.page ∧ (calSample c code s).flow = s.flow ∧ (calSample c code s).prog = s.prog ∧ (calSample c code s).sec = s.sec ∧ (calSample c code s).tim = s.tim ∧ (calSample c code s).ev = s.ev := by
  unfold calSample; simp

set_option maxHeartbeats 60000 in
@[simp] theorem playContent_frame (b : Batch) (i c t sample : Nat) (stage : Int) (s : State) :
    (playContent b i c t sample stage s).pending = s.pending ∧ (playContent b i c t sample stage s).mail = s.mail ∧ (playContent b i c t sample stage s).dram = s.dram ∧ (playContent b i c t sample stage s).job = s.job ∧ (playContent b i c t sample stage s).page = s.page ∧ (playContent b i c t sample stage s).flow = s.flow ∧ (playContent b i c t sample stage s).prog = s.prog ∧ (playContent b i c t sample stage s).sec = s.sec ∧ (playContent b i c t sample stage s).tim = s.tim := by
  unfold playContent; simp

set_option maxHeartbeats 60000 in
@[simp] theorem checkBell_frame (t sample : Nat) (x y : Int) (s : State) :
    (checkBell t sample x y s).pending = s.pending ∧ (checkBell t sample x y s).page = s.page := by
  unfold checkBell; (try dsimp only); (repeat' split) <;> simp

set_option maxHeartbeats 60000 in
@[simp] theorem gateInEdge_frame (e : GateEdge) (s : State) :
    (gateInEdge e s).pending = s.pending ∧ (gateInEdge e s).mail = s.mail ∧ (gateInEdge e s).dram = s.dram ∧ (gateInEdge e s).job = s.job ∧ (gateInEdge e s).page = s.page ∧ (gateInEdge e s).flow = s.flow ∧ (gateInEdge e s).prog = s.prog ∧ (gateInEdge e s).sec = s.sec ∧ (gateInEdge e s).tim = s.tim ∧ (gateInEdge e s).ev = s.ev := by
  unfold gateInEdge; simp

set_option maxHeartbeats 60000 in
@[simp] theorem windowClose_frame (g : Nat) (high : Bool) (s : State) :
    (windowClose g high s).pending = s.pending ∧ (windowClose g high s).mail = s.mail ∧ (windowClose g high s).dram = s.dram ∧ (windowClose g high s).job = s.job ∧ (windowClose g high s).page = s.page ∧ (windowClose g high s).flow = s.flow ∧ (windowClose g high s).prog = s.prog ∧ (windowClose g high s).sec = s.sec ∧ (windowClose g high s).tim = s.tim ∧ (windowClose g high s).ev = s.ev := by
  unfold windowClose; (repeat' split) <;> simp

set_option maxHeartbeats 60000 in
@[simp] theorem askedDone_frame (c : CheckStep) (s : State) :
    (askedDone c s).pending = s.pending ∧ (askedDone c s).mail = s.mail ∧ (askedDone c s).dram = s.dram ∧ (askedDone c s).job = s.job ∧ (askedDone c s).page = s.page ∧ (askedDone c s).flow = s.flow ∧ (askedDone c s).prog = s.prog ∧ (askedDone c s).sec = s.sec ∧ (askedDone c s).tim = s.tim := by
  unfold askedDone; simp

set_option maxHeartbeats 60000 in
@[simp] theorem darkEnds_frame (b : Batch) (s : State) :
    (darkEnds b s).pending = s.pending ∧ (darkEnds b s).dram = s.dram ∧ (darkEnds b s).job = s.job ∧ (darkEnds b s).page = s.page ∧ (darkEnds b s).prog = s.prog ∧ (darkEnds b s).sec = s.sec ∧ (darkEnds b s).tim = s.tim := by
  unfold darkEnds; simp

set_option maxHeartbeats 60000 in
@[simp] theorem scanAdvance_frame (b : Batch) (s : State) :
    (scanAdvance b s).pending = s.pending ∧ (scanAdvance b s).mail = s.mail ∧ (scanAdvance b s).dram = s.dram ∧ (scanAdvance b s).job = s.job ∧ (scanAdvance b s).page = s.page ∧ (scanAdvance b s).flow = s.flow ∧ (scanAdvance b s).prog = s.prog ∧ (scanAdvance b s).sec = s.sec ∧ (scanAdvance b s).tim = s.tim := by
  unfold scanAdvance; simp

set_option maxHeartbeats 60000 in
@[simp] theorem scanEnds_frame (b : Batch) (s : State) :
    (scanEnds b s).pending = s.pending ∧ (scanEnds b s).mail = s.mail ∧ (scanEnds b s).dram = s.dram ∧ (scanEnds b s).job = s.job ∧ (scanEnds b s).page = s.page ∧ (scanEnds b s).flow = s.flow ∧ (scanEnds b s).prog = s.prog ∧ (scanEnds b s).sec = s.sec ∧ (scanEnds b s).tim = s.tim := by
  unfold scanEnds; simp

set_option maxHeartbeats 60000 in
@[simp] theorem recheckEnds_frame (b : Batch) (s : State) :
    (recheckEnds b s).pending = s.pending ∧ (recheckEnds b s).mail = s.mail ∧ (recheckEnds b s).dram = s.dram ∧ (recheckEnds b s).job = s.job ∧ (recheckEnds b s).page = s.page ∧ (recheckEnds b s).flow = s.flow ∧ (recheckEnds b s).prog = s.prog ∧ (recheckEnds b s).sec = s.sec ∧ (recheckEnds b s).tim = s.tim := by
  unfold recheckEnds; (repeat' split) <;> simp

set_option maxHeartbeats 60000 in
@[simp] theorem calEnds_frame (b : Batch) (s : State) :
    (calEnds b s).pending = s.pending ∧ (calEnds b s).mail = s.mail ∧ (calEnds b s).dram = s.dram ∧ (calEnds b s).job = s.job ∧ (calEnds b s).page = s.page ∧ (calEnds b s).flow = s.flow ∧ (calEnds b s).prog = s.prog ∧ (calEnds b s).sec = s.sec ∧ (calEnds b s).tim = s.tim := by
  unfold calEnds; simp

set_option maxHeartbeats 60000 in
@[simp] theorem locateOver_frame (s : State) :
    (locateOver s).pending = s.pending ∧ (locateOver s).mail = s.mail ∧ (locateOver s).dram = s.dram ∧ (locateOver s).job = s.job ∧ (locateOver s).page = s.page ∧ (locateOver s).flow = s.flow ∧ (locateOver s).prog = s.prog ∧ (locateOver s).sec = s.sec ∧ (locateOver s).tim = s.tim ∧ (locateOver s).ev = s.ev := by
  unfold locateOver; simp

set_option maxHeartbeats 60000 in
@[simp] theorem locateEnds_frame (b : Batch) (s : State) :
    (locateEnds b s).pending = s.pending ∧ (locateEnds b s).mail = s.mail ∧ (locateEnds b s).dram = s.dram ∧ (locateEnds b s).job = s.job ∧ (locateEnds b s).page = s.page ∧ (locateEnds b s).flow = s.flow ∧ (locateEnds b s).prog = s.prog ∧ (locateEnds b s).sec = s.sec ∧ (locateEnds b s).tim = s.tim := by
  unfold locateEnds; (try dsimp only); (repeat' split) <;> simp

set_option maxHeartbeats 60000 in
@[simp] theorem locateXEnds_frame (b : Batch) (s : State) :
    (locateXEnds b s).pending = s.pending ∧ (locateXEnds b s).mail = s.mail ∧ (locateXEnds b s).dram = s.dram ∧ (locateXEnds b s).job = s.job ∧ (locateXEnds b s).page = s.page ∧ (locateXEnds b s).flow = s.flow ∧ (locateXEnds b s).prog = s.prog ∧ (locateXEnds b s).sec = s.sec ∧ (locateXEnds b s).tim = s.tim ∧ (locateXEnds b s).ev = s.ev := by
  unfold locateXEnds; simp

set_option maxHeartbeats 60000 in
@[simp] theorem calAgain_frame (b : Batch) (s : State) :
    (calAgain b s).pending = s.pending ∧ (calAgain b s).mail = s.mail ∧ (calAgain b s).dram = s.dram ∧ (calAgain b s).job = s.job ∧ (calAgain b s).page = s.page ∧ (calAgain b s).flow = s.flow ∧ (calAgain b s).prog = s.prog ∧ (calAgain b s).sec = s.sec ∧ (calAgain b s).tim = s.tim ∧ (calAgain b s).ev = s.ev := by
  unfold calAgain; simp

set_option maxHeartbeats 60000 in
@[simp] theorem judgeBatch_frame (b : Batch) (s : State) :
    (judgeBatch b s).pending = s.pending ∧ (judgeBatch b s).dram = s.dram ∧ (judgeBatch b s).job = s.job ∧ (judgeBatch b s).page = s.page ∧ (judgeBatch b s).prog = s.prog ∧ (judgeBatch b s).sec = s.sec ∧ (judgeBatch b s).tim = s.tim := by
  unfold judgeBatch; (repeat' split) <;> simp

set_option maxHeartbeats 60000 in
@[simp] theorem serviceApplies_frame (s : State) :
    (serviceApplies s).pending = s.pending ∧ (serviceApplies s).dram = s.dram ∧ (serviceApplies s).job = s.job ∧ (serviceApplies s).page = s.page ∧ (serviceApplies s).prog = s.prog ∧ (serviceApplies s).sec = s.sec ∧ (serviceApplies s).tim = s.tim := by
  unfold serviceApplies; simp

set_option maxHeartbeats 60000 in
@[simp] theorem batchOver_frame (s : State) :
    (batchOver s).pending = s.pending ∧ (batchOver s).dram = s.dram ∧ (batchOver s).job = s.job ∧ (batchOver s).page = s.page ∧ (batchOver s).prog = s.prog ∧ (batchOver s).sec = s.sec := by
  unfold batchOver; (repeat' split) <;> simp

set_option maxHeartbeats 60000 in
@[simp] theorem checkBatchEnd_frame (s : State) :
    (checkBatchEnd s).pending = s.pending ∧ (checkBatchEnd s).dram = s.dram ∧ (checkBatchEnd s).job = s.job ∧ (checkBatchEnd s).page = s.page ∧ (checkBatchEnd s).prog = s.prog ∧ (checkBatchEnd s).sec = s.sec := by
  unfold checkBatchEnd; (repeat' split) <;> simp

set_option maxHeartbeats 60000 in
@[simp] theorem readyFall_frame (s : State) :
    (readyFall s).pending = s.pending ∧ (readyFall s).mail = s.mail ∧ (readyFall s).dram = s.dram ∧ (readyFall s).job = s.job ∧ (readyFall s).page = s.page ∧ (readyFall s).flow = s.flow ∧ (readyFall s).prog = s.prog ∧ (readyFall s).sec = s.sec := by
  unfold readyFall; simp

set_option maxHeartbeats 60000 in
@[simp] theorem ask_frame (c : CheckStep) (s : State) :
    (ask c s).pending = s.pending ∧ (ask c s).mail = s.mail ∧ (ask c s).dram = s.dram ∧ (ask c s).job = s.job ∧ (ask c s).page = s.page ∧ (ask c s).flow = s.flow ∧ (ask c s).prog = s.prog ∧ (ask c s).sec = s.sec ∧ (ask c s).tim = s.tim ∧ (ask c s).ev = s.ev := by
  unfold ask; simp

set_option maxHeartbeats 60000 in
@[simp] theorem askFor_frame (c : CheckStep) (r : Req) (s : State) :
    (askFor c r s).pending = s.pending ∧ (askFor c r s).mail = s.mail ∧ (askFor c r s).dram = s.dram ∧ (askFor c r s).job = s.job ∧ (askFor c r s).page = s.page ∧ (askFor c r s).flow = s.flow ∧ (askFor c r s).prog = s.prog ∧ (askFor c r s).sec = s.sec ∧ (askFor c r s).tim = s.tim ∧ (askFor c r s).ev = s.ev := by
  unfold askFor; simp

set_option maxHeartbeats 60000 in
@[simp] theorem dropLocate_frame (s : State) :
    (dropLocate s).pending = s.pending ∧ (dropLocate s).mail = s.mail ∧ (dropLocate s).dram = s.dram ∧ (dropLocate s).job = s.job ∧ (dropLocate s).page = s.page ∧ (dropLocate s).flow = s.flow ∧ (dropLocate s).prog = s.prog ∧ (dropLocate s).sec = s.sec ∧ (dropLocate s).tim = s.tim ∧ (dropLocate s).ev = s.ev := by
  unfold dropLocate; simp

set_option maxHeartbeats 60000 in
@[simp] theorem stopChecks_frame (s : State) :
    (stopChecks s).pending = s.pending ∧ (stopChecks s).dram = s.dram ∧ (stopChecks s).job = s.job ∧ (stopChecks s).page = s.page ∧ (stopChecks s).flow = s.flow ∧ (stopChecks s).prog = s.prog ∧ (stopChecks s).sec = s.sec := by
  unfold stopChecks; simp

set_option maxHeartbeats 60000 in
@[simp] theorem restartChecks_frame (s : State) :
    (restartChecks s).pending = s.pending ∧ (restartChecks s).mail = s.mail ∧ (restartChecks s).dram = s.dram ∧ (restartChecks s).job = s.job ∧ (restartChecks s).page = s.page ∧ (restartChecks s).flow = s.flow ∧ (restartChecks s).prog = s.prog ∧ (restartChecks s).sec = s.sec ∧ (restartChecks s).tim = s.tim ∧ (restartChecks s).ev = s.ev := by
  unfold restartChecks; simp

set_option maxHeartbeats 60000 in
@[simp] theorem beamCheckCommand_frame (r : Req) (op : Nat) (s : State) :
    (beamCheckCommand r op s).pending = s.pending ∧ (beamCheckCommand r op s).dram = s.dram ∧ (beamCheckCommand r op s).job = s.job ∧ (beamCheckCommand r op s).page = s.page ∧ (beamCheckCommand r op s).flow = s.flow ∧ (beamCheckCommand r op s).prog = s.prog ∧ (beamCheckCommand r op s).sec = s.sec := by
  unfold beamCheckCommand; (repeat' split) <;> simp

set_option maxHeartbeats 60000 in
@[simp] theorem startLocate_frame (r : Req) (s : State) :
    (startLocate r s).pending = s.pending ∧ (startLocate r s).mail = s.mail ∧ (startLocate r s).dram = s.dram ∧ (startLocate r s).job = s.job ∧ (startLocate r s).page = s.page ∧ (startLocate r s).flow = s.flow ∧ (startLocate r s).prog = s.prog ∧ (startLocate r s).sec = s.sec ∧ (startLocate r s).tim = s.tim ∧ (startLocate r s).ev = s.ev := by
  unfold startLocate; simp

set_option maxHeartbeats 60000 in
@[simp] theorem beamLocateCommand_frame (r : Req) (s : State) :
    (beamLocateCommand r s).pending = s.pending ∧ (beamLocateCommand r s).dram = s.dram ∧ (beamLocateCommand r s).job = s.job ∧ (beamLocateCommand r s).page = s.page ∧ (beamLocateCommand r s).flow = s.flow ∧ (beamLocateCommand r s).prog = s.prog ∧ (beamLocateCommand r s).sec = s.sec ∧ (beamLocateCommand r s).tim = s.tim ∧ (beamLocateCommand r s).ev = s.ev := by
  unfold beamLocateCommand; simp

set_option maxHeartbeats 60000 in
@[simp] theorem calStartCommand_frame (r : Req) (s : State) :
    (calStartCommand r s).pending = s.pending ∧ (calStartCommand r s).dram = s.dram ∧ (calStartCommand r s).job = s.job ∧ (calStartCommand r s).page = s.page ∧ (calStartCommand r s).flow = s.flow ∧ (calStartCommand r s).prog = s.prog ∧ (calStartCommand r s).sec = s.sec ∧ (calStartCommand r s).tim = s.tim ∧ (calStartCommand r s).ev = s.ev := by
  unfold calStartCommand; simp

set_option maxHeartbeats 60000 in
@[simp] theorem calAbortCommand_frame (r : Req) (s : State) :
    (calAbortCommand r s).pending = s.pending ∧ (calAbortCommand r s).dram = s.dram ∧ (calAbortCommand r s).job = s.job ∧ (calAbortCommand r s).page = s.page ∧ (calAbortCommand r s).flow = s.flow ∧ (calAbortCommand r s).prog = s.prog ∧ (calAbortCommand r s).sec = s.sec := by
  unfold calAbortCommand; simp

set_option maxHeartbeats 60000 in
@[simp] theorem analogCalCommand_frame (r : Req) (refvUv : Nat) (adc : List (Int × Nat)) (sensors : List Int) (rails : List Nat) (s : State) :
    (analogCalCommand r refvUv adc sensors rails s).pending = s.pending ∧ (analogCalCommand r refvUv adc sensors rails s).dram = s.dram ∧ (analogCalCommand r refvUv adc sensors rails s).job = s.job ∧ (analogCalCommand r refvUv adc sensors rails s).page = s.page ∧ (analogCalCommand r refvUv adc sensors rails s).flow = s.flow ∧ (analogCalCommand r refvUv adc sensors rails s).prog = s.prog ∧ (analogCalCommand r refvUv adc sensors rails s).sec = s.sec := by
  unfold analogCalCommand; simp

end Sys2Proof.Machine
end

