-- ==== Sys2Proof/Laws/Canon3.lean ====
section
/-!
SUPPORT. The canonical form is kept by the operations of these files, one lemma per operation, for the simplifier.
-/

namespace Sys2Proof.Machine

set_option Elab.async false

set_option maxHeartbeats 80000 in
@[simp] theorem openRecess_canon (s : State) (hc : s.canonical) :
    (openRecess s).canonical := by
  unfold openRecess; simp (maxDischargeDepth := 60) [hc]

set_option maxHeartbeats 80000 in
@[simp] theorem closeRecess_canon (s : State) (hc : s.canonical) :
    (closeRecess s).canonical := by
  unfold closeRecess; simp (maxDischargeDepth := 60) [hc]

set_option maxHeartbeats 80000 in
@[simp] theorem dropStripe_canon (i : Nat) (s : State) (hc : s.canonical) :
    (dropStripe i s).canonical := by
  unfold dropStripe; simp (maxDischargeDepth := 60) [hc]

set_option maxHeartbeats 80000 in
@[simp] theorem passStripe_canon (last : Bool) (s : State) (hc : s.canonical) :
    (passStripe last s).canonical := by
  unfold passStripe; simp (maxDischargeDepth := 60) [hc]

set_option maxHeartbeats 80000 in
@[simp] theorem openNext_canon (s : State) (hc : s.canonical) :
    (openNext s).canonical := by
  unfold openNext; simp (maxDischargeDepth := 60) [hc]

set_option maxHeartbeats 80000 in
@[simp] theorem leaveStripe_canon (s : State) (hc : s.canonical) :
    (leaveStripe s).canonical := by
  unfold leaveStripe; simp (maxDischargeDepth := 60) [hc]

set_option maxHeartbeats 80000 in
@[simp] theorem settleLoop_canon (x0 : Nat) (x1 : State) (hc : x1.canonical) :
    (settleLoop x0 x1).canonical := by
  induction x0 generalizing x1 with
  | zero => simp (maxDischargeDepth := 60) [settleLoop, hc]
  | succ n ih => unfold settleLoop; (try dsimp only); (repeat' split) <;> simp (maxDischargeDepth := 60) [ih, hc]

set_option maxHeartbeats 80000 in
@[simp] theorem settleAll_canon (s : State) (hc : s.canonical) :
    (settleAll s).canonical := by
  unfold settleAll; simp (maxDischargeDepth := 60) [hc]

set_option maxHeartbeats 80000 in
@[simp] theorem disarm_canon (s : State) (hc : s.canonical) :
    (disarm s).canonical := by
  unfold disarm; simp (maxDischargeDepth := 60) [hc]

set_option maxHeartbeats 80000 in
@[simp] theorem closeShots_canon (a : Armed) (e : StripeEntry) (s : State) (hc : s.canonical) :
    (closeShots a e s).canonical := by
  unfold closeShots; simp (maxDischargeDepth := 60) [hc]

set_option maxHeartbeats 80000 in
@[simp] theorem closeArmed_canon (a : Armed) (e : StripeEntry) (s : State) (hc : s.canonical) :
    (closeArmed a e s).canonical := by
  unfold closeArmed; simp (maxDischargeDepth := 60) [hc]

set_option maxHeartbeats 80000 in
@[simp] theorem closeStripe_canon (s : State) (hc : s.canonical) :
    (closeStripe s).canonical := by
  unfold closeStripe; (repeat' split) <;> simp (maxDischargeDepth := 60) [hc]

set_option maxHeartbeats 80000 in
@[simp] theorem readyOutputs_canon (s : State) (hc : s.canonical) :
    (readyOutputs s).canonical := by
  unfold readyOutputs; simp (maxDischargeDepth := 60) [hc]

set_option maxHeartbeats 80000 in
@[simp] theorem clearJobCauses_canon (s : State) (hc : s.canonical) :
    (clearJobCauses s).canonical := by
  unfold clearJobCauses; simp (maxDischargeDepth := 60) [hc]

set_option maxHeartbeats 80000 in
@[simp] theorem streamSync_canon (s : State) (hc : s.canonical) :
    (streamSync s).canonical := by
  unfold streamSync; simp (maxDischargeDepth := 60) [hc]

set_option maxHeartbeats 80000 in
@[simp] theorem emptyJobMemory_canon (s : State) (hc : s.canonical) :
    (emptyJobMemory s).canonical := by
  unfold emptyJobMemory; simp (maxDischargeDepth := 60) [hc]

set_option maxHeartbeats 80000 in
@[simp] theorem discardJob_canon (abort : Bool) (s : State) (hc : s.canonical) :
    (discardJob abort s).canonical := by
  unfold discardJob; simp (maxDischargeDepth := 60) [hc]

set_option maxHeartbeats 80000 in
@[simp] theorem debugFill_canon (s : State) (hc : s.canonical) :
    (debugFill s).canonical := by
  unfold debugFill; simp (maxDischargeDepth := 60) [hc]

set_option maxHeartbeats 80000 in
@[simp] theorem endJob_canon (abort : Bool) (s : State) (hc : s.canonical) :
    (endJob abort s).canonical := by
  unfold endJob; simp (maxDischargeDepth := 60) [hc]

set_option maxHeartbeats 80000 in
@[simp] theorem forceLayer_canon (layer : Nat) (s : State) (hc : s.canonical) :
    (forceLayer layer s).1.canonical := by
  unfold forceLayer; simp (maxDischargeDepth := 60) [hc]

set_option maxHeartbeats 80000 in
@[simp] theorem closeWaive_canon (force : Bool) (s : State) (hc : s.canonical) :
    (closeWaive force s).1.canonical := by
  unfold closeWaive; (repeat' split) <;> simp (maxDischargeDepth := 60) [hc]

set_option maxHeartbeats 80000 in
@[simp] theorem endingBytes_canon (e : Ending) (s : State) (hc : s.canonical) :
    (endingBytes e s).1.canonical := by
  unfold endingBytes; (repeat' split) <;> simp (maxDischargeDepth := 60) [hc]

set_option maxHeartbeats 80000 in
@[simp] theorem completeEnding_canon (e : Ending) (s : State) (hc : s.canonical) :
    (completeEnding e s).canonical := by
  unfold completeEnding; simp (maxDischargeDepth := 60) [hc]

set_option maxHeartbeats 80000 in
@[simp] theorem finishEnding_canon (s : State) (hc : s.canonical) :
    (finishEnding s).canonical := by
  unfold finishEnding; (repeat' split) <;> simp (maxDischargeDepth := 60) [hc]

set_option maxHeartbeats 80000 in
@[simp] theorem effectEnding_canon (s : State) (hc : s.canonical) :
    (effectEnding s).canonical := by
  unfold effectEnding; (repeat' split) <;> simp (maxDischargeDepth := 60) [hc]

set_option maxHeartbeats 80000 in
@[simp] theorem toHold_canon (s : State) (hc : s.canonical) :
    (toHold s).canonical := by
  unfold toHold; simp (maxDischargeDepth := 60) [hc]

set_option maxHeartbeats 80000 in
@[simp] theorem takeHold_canon (s : State) (hc : s.canonical) :
    (takeHold s).canonical := by
  unfold takeHold; simp (maxDischargeDepth := 60) [hc]

set_option maxHeartbeats 80000 in
@[simp] theorem enterHold_canon (s : State) (hc : s.canonical) :
    (enterHold s).canonical := by
  unfold enterHold; simp (maxDischargeDepth := 60) [hc]

set_option maxHeartbeats 80000 in
@[simp] theorem holdAtOnce_canon (n : Nat) (r : Reason) (t : Int) (s : State) (hc : s.canonical) :
    (holdAtOnce n r t s).canonical := by
  unfold holdAtOnce; (try dsimp only); (repeat' split) <;> simp (maxDischargeDepth := 60) [hc]

set_option maxHeartbeats 80000 in
@[simp] theorem askHold_canon (s : State) (hc : s.canonical) :
    (askHold s).canonical := by
  unfold askHold; simp (maxDischargeDepth := 60) [hc]

set_option maxHeartbeats 80000 in
@[simp] theorem blankIfOver_canon (s : State) (hc : s.canonical) :
    (blankIfOver s).canonical := by
  unfold blankIfOver; simp (maxDischargeDepth := 60) [hc]

set_option maxHeartbeats 80000 in
@[simp] theorem holdEffect_canon (s : State) (hc : s.canonical) :
    (holdEffect s).canonical := by
  unfold holdEffect; simp (maxDischargeDepth := 60) [hc]

set_option maxHeartbeats 80000 in
@[simp] theorem partitionHold_canon (s : State) (hc : s.canonical) :
    (partitionHold s).canonical := by
  unfold partitionHold; simp (maxDischargeDepth := 60) [hc]

set_option maxHeartbeats 80000 in
@[simp] theorem partitionAtOnce_canon (s : State) (hc : s.canonical) :
    (partitionAtOnce s).canonical := by
  unfold partitionAtOnce; simp (maxDischargeDepth := 60) [hc]

set_option maxHeartbeats 80000 in
@[simp] theorem resumeAtEnd_canon (s : State) (hc : s.canonical) :
    (resumeAtEnd s).canonical := by
  unfold resumeAtEnd; (repeat' split) <;> simp (maxDischargeDepth := 60) [hc]

set_option maxHeartbeats 80000 in
@[simp] theorem reconcileStripe_canon (s : State) (hc : s.canonical) :
    (reconcileStripe s).canonical := by
  unfold reconcileStripe; (try dsimp only); (repeat' split) <;> simp_all (maxDischargeDepth := 60)

set_option maxHeartbeats 80000 in
@[simp] theorem stripeOver_canon (s : State) (hc : s.canonical) :
    (stripeOver s).canonical := by
  unfold stripeOver; simp (maxDischargeDepth := 60) [hc]

set_option maxHeartbeats 80000 in
@[simp] theorem tryStripeEnd_canon (s : State) (hc : s.canonical) :
    (tryStripeEnd s).canonical := by
  unfold tryStripeEnd; simp (maxDischargeDepth := 60) [hc]

set_option maxHeartbeats 80000 in
@[simp] theorem settle_canon (s : State) (hc : s.canonical) :
    (settle s).canonical := by
  unfold settle; simp (maxDischargeDepth := 60) [hc]

set_option maxHeartbeats 80000 in
@[simp] theorem lastLayerEffect_canon (s : State) (hc : s.canonical) :
    (lastLayerEffect s).canonical := by
  unfold lastLayerEffect; (repeat' split) <;> simp (maxDischargeDepth := 60) [hc]

set_option maxHeartbeats 80000 in
@[simp] theorem resumeAtTick_canon (s : State) (hc : s.canonical) :
    (resumeAtTick s).canonical := by
  unfold resumeAtTick; (repeat' split) <;> simp (maxDischargeDepth := 60) [hc]

set_option maxHeartbeats 80000 in
@[simp] theorem putDebt_canon (pc d : Nat) (s : State) (hc : s.canonical) :
    (putDebt pc d s).canonical := by
  unfold putDebt; simp (maxDischargeDepth := 60) [hc]

set_option maxHeartbeats 80000 in
@[simp] theorem setDebts_canon (ds : List (Nat × Nat)) (s : State) (hc : s.canonical) :
    (setDebts ds s).canonical := by
  unfold setDebts; (try dsimp only); (repeat' split) <;> simp_all (maxDischargeDepth := 60)

set_option maxHeartbeats 80000 in
@[simp] theorem setDebt_canon (pc d : Nat) (s : State) (hc : s.canonical) :
    (setDebt pc d s).canonical := by
  unfold setDebt; simp (maxDischargeDepth := 60) [hc]

set_option maxHeartbeats 80000 in
@[simp] theorem refreshAllBanks_canon (pc : Nat) (s : State) (hc : s.canonical) :
    (refreshAllBanks pc s).canonical := by
  unfold refreshAllBanks; simp (maxDischargeDepth := 60) [hc]

set_option maxHeartbeats 80000 in
@[simp] theorem forceRefresh_canon (pc : Nat) (s : State) (hc : s.canonical) :
    (forceRefresh pc s).canonical := by
  unfold forceRefresh; simp (maxDischargeDepth := 60) [hc]

set_option maxHeartbeats 80000 in
@[simp] theorem forceTogether_canon (limit : Nat) (pcs : List Nat) (x0 : Nat) (x1 : State) (hc : x1.canonical) :
    (forceTogether limit pcs x0 x1).canonical := by
  induction x0 generalizing x1 with
  | zero => exact hc
  | succ n ih =>
    unfold forceTogether; dsimp only; split
    · exact hc
    · exact ih _ (setDebts_canon _ _ (foldl_canon _ _ _ (fun s x t e hs => e ▸ issueCmd_canon _ _ _ (fcount_canon _ _ _ hs)) hc))

set_option maxHeartbeats 80000 in
@[simp] theorem refreshPerBank_canon (pc : Nat) (s : State) (hc : s.canonical) :
    (refreshPerBank pc s).canonical := by
  unfold refreshPerBank; (try dsimp only); (repeat' split) <;> simp_all (maxDischargeDepth := 60)

set_option maxHeartbeats 80000 in
@[simp] theorem countLevel3_canon (w : DramWait) (s : State) (hc : s.canonical) :
    (countLevel3 w s).canonical := by
  unfold countLevel3; simp (maxDischargeDepth := 60) [hc]

set_option maxHeartbeats 80000 in
@[simp] theorem runCommands_canon (pc : Nat) (hold : Bool) (x0 : Nat) (x1 : List DramWait) (x2 : State) (hc : x2.canonical) :
    (runCommands pc hold x0 x1 x2).canonical := by
  induction x0 generalizing x1 x2 with
  | zero => simp (maxDischargeDepth := 60) [runCommands, hc]
  | succ n ih => unfold runCommands; (try dsimp only); (repeat' split) <;> simp (maxDischargeDepth := 60) [ih, hc]

set_option maxHeartbeats 80000 in
@[simp] theorem addDebt_canon (pc : Nat) (s : State) (hc : s.canonical) :
    (addDebt pc s).canonical := by
  unfold addDebt; simp (maxDischargeDepth := 60) [hc]

set_option maxHeartbeats 80000 in
@[simp] theorem refreshInterval_canon (pc : Nat) (unitDone : Bool) (ws : List DramWait) (s : State) (hc : s.canonical) :
    (refreshInterval pc unitDone ws s).canonical := by
  unfold refreshInterval; simp (maxDischargeDepth := 60) [hc]

set_option maxHeartbeats 80000 in
@[simp] theorem convertDebts_canon (old new : Nat) (pcs : List Nat) (s : State) (hc : s.canonical) :
    (convertDebts old new pcs s).canonical := by
  unfold convertDebts; (try dsimp only); (repeat' split) <;> simp_all (maxDischargeDepth := 60)

set_option maxHeartbeats 80000 in
@[simp] theorem setBand_canon (stack band : Nat) (s : State) (hc : s.canonical) :
    (setBand stack band s).canonical := by
  unfold setBand; simp (maxDischargeDepth := 60) [hc]

set_option maxHeartbeats 80000 in
@[simp] theorem updateBand_canon (stack t : Nat) (s : State) (hc : s.canonical) :
    (updateBand stack t s).canonical := by
  unfold updateBand; simp (maxDischargeDepth := 60) [hc]

set_option maxHeartbeats 80000 in
@[simp] theorem heatSync_canon (s : State) (hc : s.canonical) :
    (heatSync s).canonical := by
  unfold heatSync; simp (maxDischargeDepth := 60) [hc]

set_option maxHeartbeats 80000 in
@[simp] theorem hbmTemp_canon (stack a b : Nat) (s : State) (hc : s.canonical) :
    (hbmTemp stack a b s).canonical := by
  unfold hbmTemp; simp (maxDischargeDepth := 60) [hc]

set_option maxHeartbeats 80000 in
@[simp] theorem neighbourRefresh_canon (pc bank row : Nat) (s : State) (hc : s.canonical) :
    (neighbourRefresh pc bank row s).canonical := by
  unfold neighbourRefresh; simp (maxDischargeDepth := 60) [hc]

set_option maxHeartbeats 80000 in
@[simp] theorem fenceChannel_canon (ch : Nat) (s : State) (hc : s.canonical) :
    (fenceChannel ch s).canonical := by
  unfold fenceChannel; simp (maxDischargeDepth := 60) [hc]

set_option maxHeartbeats 80000 in
@[simp] theorem startReplay_canon (ch unconfirmed : Nat) (s : State) (hc : s.canonical) :
    (startReplay ch unconfirmed s).canonical := by
  unfold startReplay; simp (maxDischargeDepth := 60) [hc]

set_option maxHeartbeats 80000 in
@[simp] theorem aerr_canon (ch unconfirmed : Nat) (s : State) (hc : s.canonical) :
    (aerr ch unconfirmed s).canonical := by
  unfold aerr; simp (maxDischargeDepth := 60) [hc]

set_option maxHeartbeats 80000 in
@[simp] theorem replayComplete_canon (ch : Nat) (s : State) (hc : s.canonical) :
    (replayComplete ch s).canonical := by
  unfold replayComplete; (try dsimp only); (repeat' split) <;> simp_all (maxDischargeDepth := 60)

set_option maxHeartbeats 80000 in
@[simp] theorem powerDown_canon (pc : Nat) (s : State) (hc : s.canonical) :
    (powerDown pc s).canonical := by
  unfold powerDown; simp (maxDischargeDepth := 60) [hc]

set_option maxHeartbeats 80000 in
@[simp] theorem patternRun_canon (errors : Nat) (s : State) (hc : s.canonical) :
    (patternRun errors s).canonical := by
  unfold patternRun; simp (maxDischargeDepth := 60) [hc]

set_option maxHeartbeats 80000 in
@[simp] theorem noteSource_canon (u : Nat) (s : State) (hc : s.canonical) :
    (noteSource u s).canonical := by
  unfold noteSource; (try dsimp only); (repeat' split) <;> simp (maxDischargeDepth := 60) [hc]

set_option maxHeartbeats 80000 in
@[simp] theorem scrubFinds_canon (c : Codes) (dram : Bool) (u wher : Nat) (addr : Nat → Nat) (s : State) (hc : s.canonical) :
    (scrubFinds c dram u wher addr s).canonical := by
  unfold scrubFinds; (try dsimp only); (repeat' split) <;> simp_all (maxDischargeDepth := 60)

set_option maxHeartbeats 80000 in
@[simp] theorem scrubDram_canon (u : Nat) (r : EccResult) (dropped : Bool) (s : State) (hc : s.canonical) :
    (scrubDram u r dropped s).canonical := by
  unfold scrubDram; simp (maxDischargeDepth := 60) [hc]

set_option maxHeartbeats 80000 in
@[simp] theorem scrubSram_canon (u : Nat) (r : EccResult) (dropped : Bool) (s : State) (hc : s.canonical) :
    (scrubSram u r dropped s).canonical := by
  unfold scrubSram; simp (maxDischargeDepth := 60) [hc]

set_option maxHeartbeats 80000 in
@[simp] theorem scrubUnit_canon (addr : MemUnit) (r : EccResult) (dropped : Bool) (s : State) (hc : s.canonical) :
    (scrubUnit addr r dropped s).canonical := by
  unfold scrubUnit; (repeat' split) <;> simp (maxDischargeDepth := 60) [hc]

set_option maxHeartbeats 80000 in
@[simp] theorem updAxis_canon (a : Axis) (f : AxisState → AxisState) (s : State) (hc : s.canonical) :
    (updAxis a f s).canonical := by
  unfold updAxis; (repeat' split) <;> simp (maxDischargeDepth := 60) [hc]

set_option maxHeartbeats 80000 in
@[simp] theorem setCount_canon (a : Axis) (v : Int) (s : State) (hc : s.canonical) :
    (setCount a v s).canonical := by
  unfold setCount; simp (maxDischargeDepth := 60) [hc]

set_option maxHeartbeats 80000 in
@[simp] theorem faultAxis_canon (a : Axis) (s : State) (hc : s.canonical) :
    (faultAxis a s).canonical := by
  unfold faultAxis; simp (maxDischargeDepth := 60) [hc]

set_option maxHeartbeats 80000 in
@[simp] theorem invalidate_canon (a : Axis) (s : State) (hc : s.canonical) :
    (invalidate a s).canonical := by
  unfold invalidate; simp (maxDischargeDepth := 60) [hc]

set_option maxHeartbeats 80000 in
@[simp] theorem updArmed_canon (f : Armed → Armed) (s : State) (hc : s.canonical) :
    (updArmed f s).canonical := by
  unfold updArmed; simp (maxDischargeDepth := 60) [hc]

set_option maxHeartbeats 80000 in
@[simp] theorem crossingInterval_canon (d : Nat) (s : State) (hc : s.canonical) :
    (crossingInterval d s).canonical := by
  unfold crossingInterval; simp (maxDischargeDepth := 60) [hc]

set_option maxHeartbeats 80000 in
@[simp] theorem noteCrossing_canon (n : Int) (tc tdet : Nat) (s : State) (hc : s.canonical) :
    (noteCrossing n tc tdet s).canonical := by
  unfold noteCrossing; (repeat' split) <;> simp (maxDischargeDepth := 60) [hc]

set_option maxHeartbeats 80000 in
@[simp] theorem raiseMark_canon (u : Int) (tcOf : Int → Nat) (tdet : Nat) (s : State) (hc : s.canonical) :
    (raiseMark u tcOf tdet s).canonical := by
  unfold raiseMark; (try dsimp only); (repeat' split) <;> simp_all (maxDischargeDepth := 60)

set_option maxHeartbeats 80000 in
@[simp] theorem checkReversal_canon (u : Int) (s : State) (hc : s.canonical) :
    (checkReversal u s).canonical := by
  unfold checkReversal; simp (maxDischargeDepth := 60) [hc]

set_option maxHeartbeats 80000 in
@[simp] theorem keepSample_canon (t : Nat) (s : State) (hc : s.canonical) :
    (keepSample t s).canonical := by
  unfold keepSample; simp (maxDischargeDepth := 60) [hc]

set_option maxHeartbeats 80000 in
@[simp] theorem quadEdge_canon (a : Axis) (m : QuadMove) (stamp detected : Nat) (s : State) (hc : s.canonical) :
    (quadEdge a m stamp detected s).canonical := by
  unfold quadEdge; (try dsimp only); (repeat' split) <;> simp (maxDischargeDepth := 60) [hc]

set_option maxHeartbeats 80000 in
@[simp] theorem posSet_canon (axis : Nat) (s : State) (hc : s.canonical) :
    (posSet axis s).canonical := by
  unfold posSet; (try dsimp only); (repeat' split) <;> simp (maxDischargeDepth := 60) [hc]

set_option maxHeartbeats 80000 in
@[simp] theorem pwsUnlock_canon (s : State) (hc : s.canonical) :
    (pwsUnlock s).canonical := by
  unfold pwsUnlock; (try dsimp only); (repeat' split) <;> simp_all (maxDischargeDepth := 60)

set_option maxHeartbeats 80000 in
@[simp] theorem pwsDiscard_canon (s : State) (hc : s.canonical) :
    (pwsDiscard s).canonical := by
  unfold pwsDiscard; (try dsimp only); (repeat' split) <;> simp_all (maxDischargeDepth := 60)

set_option maxHeartbeats 80000 in
@[simp] theorem pwsGap_canon (seq : Nat) (s : State) (hc : s.canonical) :
    (pwsGap seq s).canonical := by
  unfold pwsGap; (repeat' split) <;> simp (maxDischargeDepth := 60) [hc]

set_option maxHeartbeats 80000 in
@[simp] theorem pwsTake_canon (seq latch : Nat) (y x w : Int) (s : State) (hc : s.canonical) :
    (pwsTake seq latch y x w s).canonical := by
  unfold pwsTake; simp (maxDischargeDepth := 60) [hc]

set_option maxHeartbeats 80000 in
@[simp] theorem pwsValid_canon (d1 : BitVec 80) (s : State) (hc : s.canonical) :
    (pwsValid d1 s).canonical := by
  unfold pwsValid; (try dsimp only); (repeat' split) <;> simp_all (maxDischargeDepth := 60)

set_option maxHeartbeats 80000 in
@[simp] theorem pwsProgress_canon (yValid : Bool) (y : Int) (prev : Option Sample) (latch arrival : Nat) (s : State) (hc : s.canonical) :
    (pwsProgress yValid y prev latch arrival s).canonical := by
  unfold pwsProgress; (repeat' split) <;> simp (maxDischargeDepth := 60) [hc]

set_option maxHeartbeats 80000 in
@[simp] theorem pwsUse_canon (d0 d1 : BitVec 80) (arrival : Nat) (s : State) (hc : s.canonical) :
    (pwsUse d0 d1 arrival s).canonical := by
  unfold pwsUse; simp (maxDischargeDepth := 60) [hc]

set_option maxHeartbeats 80000 in
@[simp] theorem pwsFrame_canon (d0 d1 : BitVec 80) (arrival : Nat) (s : State) (hc : s.canonical) :
    (pwsFrame d0 d1 arrival s).canonical := by
  unfold pwsFrame; (repeat' split) <;> simp (maxDischargeDepth := 60) [hc]

set_option maxHeartbeats 80000 in
@[simp] theorem shotCrossed_canon (n : Int) (tc tdet : Nat) (s : State) (hc : s.canonical) :
    (shotCrossed n tc tdet s).canonical := by
  unfold shotCrossed; simp (maxDischargeDepth := 60) [hc]

set_option maxHeartbeats 80000 in
@[simp] theorem posYLoCapture_canon (s : State) (hc : s.canonical) :
    (posYLoCapture s).canonical := by
  unfold posYLoCapture; simp (maxDischargeDepth := 60) [hc]

set_option maxHeartbeats 80000 in
@[simp] theorem recomputeDigest_canon (s : State) (hc : s.canonical) :
    (recomputeDigest s).canonical := by
  unfold recomputeDigest; (try dsimp only); (repeat' split) <;> simp (maxDischargeDepth := 60) [hc]

set_option maxHeartbeats 80000 in
@[simp] theorem samplePosCfg_canon (s : State) (hc : s.canonical) :
    (samplePosCfg s).canonical := by
  unfold samplePosCfg; (try dsimp only); (repeat' split) <;> simp_all (maxDischargeDepth := 60)

set_option maxHeartbeats 80000 in
@[simp] theorem unarm_canon (s : State) (hc : s.canonical) :
    (unarm s).canonical := by
  unfold unarm; simp (maxDischargeDepth := 60) [hc]

set_option maxHeartbeats 80000 in
@[simp] theorem repeatApproach_canon (s : State) (hc : s.canonical) :
    (repeatApproach s).canonical := by
  unfold repeatApproach; simp (maxDischargeDepth := 60) [hc]

set_option maxHeartbeats 80000 in
@[simp] theorem armMiss_canon (s : State) (hc : s.canonical) :
    (armMiss s).canonical := by
  unfold armMiss; (try dsimp only); (repeat' split) <;> simp (maxDischargeDepth := 60) [hc]

set_option maxHeartbeats 80000 in
@[simp] theorem armStripe_canon (t : Nat) (s : State) (hc : s.canonical) :
    (armStripe t s).canonical := by
  unfold armStripe; (repeat' split) <;> simp (maxDischargeDepth := 60) [hc]

set_option maxHeartbeats 80000 in
@[simp] theorem firingCheck_canon (e : StripeEntry) (n t : Int) (s : State) (hc : s.canonical) :
    (firingCheck e n t s).canonical := by
  unfold firingCheck; (repeat' split) <;> simp (maxDischargeDepth := 60) [hc]

set_option maxHeartbeats 80000 in
@[simp] theorem dropShot_canon (e : StripeEntry) (k : Int) (s : State) (hc : s.canonical) :
    (dropShot e k s).canonical := by
  unfold dropShot; simp (maxDischargeDepth := 60) [hc]

set_option maxHeartbeats 80000 in
@[simp] theorem gatherStart_canon (e : StripeEntry) (tj pj : Int) (ts : Nat) (rest : List Int) (s : State) (hc : s.canonical) :
    (gatherStart e tj pj ts rest s).canonical := by
  unfold gatherStart; (try dsimp only); (repeat' split) <;> simp_all (maxDischargeDepth := 60)

set_option maxHeartbeats 80000 in
@[simp] theorem bellHold_canon (s : State) (hc : s.canonical) :
    (bellHold s).canonical := by
  unfold bellHold; simp (maxDischargeDepth := 60) [hc]

set_option maxHeartbeats 80000 in
@[simp] theorem bellOutOfStep_canon (s : State) (hc : s.canonical) :
    (bellOutOfStep s).canonical := by
  unfold bellOutOfStep; simp (maxDischargeDepth := 60) [hc]

set_option maxHeartbeats 80000 in
@[simp] theorem bellResume_canon (n : Int) (s : State) (hc : s.canonical) :
    (bellResume n s).canonical := by
  unfold bellResume; (repeat' split) <;> simp (maxDischargeDepth := 60) [hc]

set_option maxHeartbeats 80000 in
@[simp] theorem bellHandOver_canon (n : Int) (s : State) (hc : s.canonical) :
    (bellHandOver n s).canonical := by
  unfold bellHandOver; simp (maxDischargeDepth := 60) [hc]

set_option maxHeartbeats 80000 in
@[simp] theorem bellRelease_canon (s : State) (hc : s.canonical) :
    (bellRelease s).canonical := by
  unfold bellRelease; (repeat' split) <;> simp (maxDischargeDepth := 60) [hc]

set_option maxHeartbeats 80000 in
@[simp] theorem bellReasons_canon (n : Int) (s : State) (hc : s.canonical) :
    (bellReasons n s).canonical := by
  unfold bellReasons; simp (maxDischargeDepth := 60) [hc]

set_option maxHeartbeats 80000 in
@[simp] theorem bellExpire_canon (n : Int) (s : State) (hc : s.canonical) :
    (bellExpire n s).canonical := by
  unfold bellExpire; (try dsimp only); (repeat' split) <;> simp (maxDischargeDepth := 60) [hc]

set_option maxHeartbeats 80000 in
@[simp] theorem bellLast_canon (s : State) (hc : s.canonical) :
    (bellLast s).canonical := by
  unfold bellLast; (try dsimp only); (repeat' split) <;> simp (maxDischargeDepth := 60) [hc]

set_option maxHeartbeats 80000 in
@[simp] theorem bellShown_canon (n : Int) (rest : List Int) (c : Crossing) (t : Int) (p : Int) (s : State) (hc : s.canonical) :
    (bellShown n rest c t p s).canonical := by
  unfold bellShown; simp (maxDischargeDepth := 60) [hc]

set_option maxHeartbeats 80000 in
@[simp] theorem bellGather_canon (e : StripeEntry) (n : Int) (t : Int) (p : Int) (ts : Nat) (rest : List Int) (s : State) (hc : s.canonical) :
    (bellGather e n t p ts rest s).canonical := by
  unfold bellGather; simp (maxDischargeDepth := 60) [hc]

set_option maxHeartbeats 80000 in
@[simp] theorem bellOver_canon (s : State) (hc : s.canonical) :
    (bellOver s).canonical := by
  unfold bellOver; simp (maxDischargeDepth := 60) [hc]

set_option maxHeartbeats 80000 in
@[simp] theorem bellFire_canon (e : StripeEntry) (n : Int) (rest : List Int) (c : Crossing) (t : Int) (p : Int) (ts : Nat) (s : State) (hc : s.canonical) :
    (bellFire e n rest c t p ts s).canonical := by
  unfold bellFire; simp (maxDischargeDepth := 60) [hc]

set_option maxHeartbeats 80000 in
@[simp] theorem bellEvent_canon (ts : Nat) (s : State) (hc : s.canonical) :
    (bellEvent ts s).canonical := by
  unfold bellEvent; (repeat' split) <;> simp (maxDischargeDepth := 60) [hc]

set_option maxHeartbeats 80000 in
@[simp] theorem bellCrossing_canon (s : State) (hc : s.canonical) :
    (bellCrossing s).canonical := by
  unfold bellCrossing; simp (maxDischargeDepth := 60) [hc]

set_option maxHeartbeats 80000 in
@[simp] theorem endChecks_canon (s : State) (hc : s.canonical) :
    (endChecks s).canonical := by
  unfold endChecks; simp (maxDischargeDepth := 60) [hc]

set_option maxHeartbeats 80000 in
@[simp] theorem tickBeams_canon (s : State) (hc : s.canonical) :
    (tickBeams s).canonical := by
  unfold tickBeams; simp (maxDischargeDepth := 60) [hc]

set_option maxHeartbeats 80000 in
@[simp] theorem tickMotion_canon (s : State) (hc : s.canonical) :
    (tickMotion s).canonical := by
  unfold tickMotion; (try dsimp only); (repeat' split) <;> simp_all (maxDischargeDepth := 60)

set_option maxHeartbeats 80000 in
@[simp] theorem hearSpeed_canon (s : State) (hc : s.canonical) :
    (hearSpeed s).canonical := by
  unfold hearSpeed; (repeat' split) <;> simp (maxDischargeDepth := 60) [hc]

set_option maxHeartbeats 80000 in
@[simp] theorem parameterTick_canon (s : State) (hc : s.canonical) :
    (parameterTick s).canonical := by
  unfold parameterTick; simp (maxDischargeDepth := 60) [hc]

set_option maxHeartbeats 80000 in
@[simp] theorem updBatch_canon (f : Batch → Batch) (s : State) (hc : s.canonical) :
    (updBatch f s).canonical := by
  unfold updBatch; simp (maxDischargeDepth := 60) [hc]

set_option maxHeartbeats 80000 in
@[simp] theorem ensureCheckShot_canon (i : Nat) (s : State) (hc : s.canonical) :
    (ensureCheckShot i s).canonical := by
  unfold ensureCheckShot; (repeat' split) <;> simp (maxDischargeDepth := 60) [hc]

set_option maxHeartbeats 80000 in
@[simp] theorem appendContents_canon (cs : List Nat) (s : State) (hc : s.canonical) :
    (appendContents cs s).canonical := by
  unfold appendContents; (repeat' split) <;> simp (maxDischargeDepth := 60) [hc]

set_option maxHeartbeats 80000 in
@[simp] theorem checkVoid_canon (sh : Shot) (s : State) (hc : s.canonical) :
    (checkVoid sh s).canonical := by
  unfold checkVoid; (repeat' split) <;> simp (maxDischargeDepth := 60) [hc]

set_option maxHeartbeats 80000 in
@[simp] theorem applyBeam_canon (b : Nat) (e : DWord) (s : State) (hc : s.canonical) :
    (applyBeam b e s).canonical := by
  unfold applyBeam; simp (maxDischargeDepth := 60) [hc]

set_option maxHeartbeats 80000 in
@[simp] theorem retireBeam_canon (b : Nat) (s : State) (hc : s.canonical) :
    (retireBeam b s).canonical := by
  unfold retireBeam; simp (maxDischargeDepth := 60) [hc]

set_option maxHeartbeats 80000 in
@[simp] theorem judgeBeam_canon (b : Batch) (k : Nat) (s : State) (hc : s.canonical) :
    (judgeBeam b k s).canonical := by
  unfold judgeBeam; (try dsimp only); (repeat' split) <;> simp (maxDischargeDepth := 60) [hc]

set_option maxHeartbeats 80000 in
@[simp] theorem judgeIf_canon (all : Bool) (k : Nat) (s : State) (hc : s.canonical) :
    (judgeIf all k s).canonical := by
  unfold judgeIf; (repeat' split) <;> simp (maxDischargeDepth := 60) [hc]

set_option maxHeartbeats 80000 in
@[simp] theorem judgeBeams_canon (all : Bool) (s : State) (hc : s.canonical) :
    (judgeBeams all s).canonical := by
  unfold judgeBeams; (try dsimp only); (repeat' split) <;> simp_all (maxDischargeDepth := 60)

set_option maxHeartbeats 80000 in
@[simp] theorem beginBatch_canon (b : Batch) (s : State) (hc : s.canonical) :
    (beginBatch b s).canonical := by
  unfold beginBatch; simp (maxDischargeDepth := 60) [hc]

set_option maxHeartbeats 80000 in
@[simp] theorem frameStart_canon (l t : Nat) (s : State) (hc : s.canonical) :
    (frameStart l t s).canonical := by
  unfold frameStart; (repeat' split) <;> simp (maxDischargeDepth := 60) [hc]

set_option maxHeartbeats 80000 in
@[simp] theorem idleFrame_canon (t : Nat) (s : State) (hc : s.canonical) :
    (idleFrame t s).canonical := by
  unfold idleFrame; simp (maxDischargeDepth := 60) [hc]

set_option maxHeartbeats 80000 in
@[simp] theorem suppressStrobe_canon (g : Nat) (sh : Shot) (s : State) (hc : s.canonical) :
    (suppressStrobe g sh s).canonical := by
  unfold suppressStrobe; simp (maxDischargeDepth := 60) [hc]

set_option maxHeartbeats 80000 in
@[simp] theorem resumeFires_canon (n : Int) (s : State) (hc : s.canonical) :
    (resumeFires n s).canonical := by
  unfold resumeFires; (repeat' split) <;> simp (maxDischargeDepth := 60) [hc]

set_option maxHeartbeats 80000 in
@[simp] theorem strobeRise_canon (g : Nat) (s : State) (hc : s.canonical) :
    (strobeRise g s).canonical := by
  unfold strobeRise; (repeat' split) <;> simp (maxDischargeDepth := 60) [hc]

set_option maxHeartbeats 80000 in
@[simp] theorem strobeFall_canon (g : Nat) (s : State) (hc : s.canonical) :
    (strobeFall g s).canonical := by
  unfold strobeFall; (try dsimp only); (repeat' split) <;> simp (maxDischargeDepth := 60) [hc]

set_option maxHeartbeats 80000 in
@[simp] theorem headFault_canon (t : Int) (s : State) (hc : s.canonical) :
    (headFault t s).canonical := by
  unfold headFault; simp (maxDischargeDepth := 60) [hc]

set_option maxHeartbeats 80000 in
@[simp] theorem echoLatency_canon (echo : Option DWord) (base : Int) (t : Nat) (s : State) (hc : s.canonical) :
    (echoLatency echo base t s).canonical := by
  unfold echoLatency; simp (maxDischargeDepth := 60) [hc]

set_option maxHeartbeats 80000 in
@[simp] theorem classifyIdle_canon (l base : Nat) (rest : List Nat) (echo : Option DWord) (t : Nat) (s : State) (hc : s.canonical) :
    (classifyIdle l base rest echo t s).canonical := by
  unfold classifyIdle; simp (maxDischargeDepth := 60) [hc]

set_option maxHeartbeats 80000 in
@[simp] theorem classifyShot_canon (l i : Nat) (n : Int) (sh : Shot) (ty : FrameType) (crc : Word) (echo : Option DWord) (t : Nat) (s : State) (hc : s.canonical) :
    (classifyShot l i n sh ty crc echo t s).canonical := by
  unfold classifyShot; simp (maxDischargeDepth := 60) [hc]

set_option maxHeartbeats 80000 in
@[simp] theorem classifyFrame_canon (l : Nat) (f : Awaited) (echo : Option DWord) (t : Nat) (s : State) (hc : s.canonical) :
    (classifyFrame l f echo t s).canonical := by
  unfold classifyFrame; (repeat' split) <;> simp (maxDischargeDepth := 60) [hc]

set_option maxHeartbeats 80000 in
@[simp] theorem echoReceived_canon (l : Nat) (echo : DWord) (t : Nat) (s : State) (hc : s.canonical) :
    (echoReceived l echo t s).canonical := by
  unfold echoReceived; (repeat' split) <;> simp (maxDischargeDepth := 60) [hc]

set_option maxHeartbeats 80000 in
@[simp] theorem echoDeadline_canon (l t : Nat) (s : State) (hc : s.canonical) :
    (echoDeadline l t s).canonical := by
  unfold echoDeadline; (repeat' split) <;> simp (maxDischargeDepth := 60) [hc]

set_option maxHeartbeats 80000 in
@[simp] theorem returnLaneLock_canon (l : Nat) (s : State) (hc : s.canonical) :
    (returnLaneLock l s).canonical := by
  unfold returnLaneLock; simp (maxDischargeDepth := 60) [hc]

set_option maxHeartbeats 80000 in
@[simp] theorem returnLaneLost_canon (l t : Nat) (s : State) (hc : s.canonical) :
    (returnLaneLost l t s).canonical := by
  unfold returnLaneLost; simp (maxDischargeDepth := 60) [hc]

set_option maxHeartbeats 80000 in
@[simp] theorem returnLockTimeout_canon (l t : Nat) (s : State) (hc : s.canonical) :
    (returnLockTimeout l t s).canonical := by
  unfold returnLockTimeout; simp (maxDischargeDepth := 60) [hc]

set_option maxHeartbeats 80000 in
@[simp] theorem txLaneFault_canon (l t : Nat) (s : State) (hc : s.canonical) :
    (txLaneFault l t s).canonical := by
  unfold txLaneFault; simp (maxDischargeDepth := 60) [hc]

set_option maxHeartbeats 80000 in
@[simp] theorem txLaneFaultEnd_canon (l : Nat) (s : State) (hc : s.canonical) :
    (txLaneFaultEnd l s).canonical := by
  unfold txLaneFaultEnd; simp (maxDischargeDepth := 60) [hc]

set_option maxHeartbeats 80000 in
@[simp] theorem linkLossClear_canon (s : State) (hc : s.canonical) :
    (linkLossClear s).canonical := by
  unfold linkLossClear; simp (maxDischargeDepth := 60) [hc]

set_option maxHeartbeats 80000 in
@[simp] theorem opticsReport_canon (e : Nat) (power : List Int) (bias : List Nat) (temp : Int) (s : State) (hc : s.canonical) :
    (opticsReport e power bias temp s).canonical := by
  unfold opticsReport; simp (maxDischargeDepth := 60) [hc]

set_option maxHeartbeats 80000 in
@[simp] theorem cinchTrip_canon (t : Nat) (s : State) (hc : s.canonical) :
    (cinchTrip t s).canonical := by
  unfold cinchTrip; simp (maxDischargeDepth := 60) [hc]

set_option maxHeartbeats 80000 in
@[simp] theorem cinchTested_canon (ps : Nat) (s : State) (hc : s.canonical) :
    (cinchTested ps s).canonical := by
  unfold cinchTested; simp (maxDischargeDepth := 60) [hc]

set_option maxHeartbeats 80000 in
@[simp] theorem cinchTest_canon (ps : Nat) (s : State) (hc : s.canonical) :
    (cinchTest ps s).canonical := by
  unfold cinchTest; simp (maxDischargeDepth := 60) [hc]

set_option maxHeartbeats 80000 in
@[simp] theorem enterWrite_canon (s : State) (hc : s.canonical) :
    (enterWrite s).canonical := by
  unfold enterWrite; simp (maxDischargeDepth := 60) [hc]

set_option maxHeartbeats 80000 in
@[simp] theorem startFails_canon (s : State) (hc : s.canonical) :
    (startFails s).canonical := by
  unfold startFails; simp (maxDischargeDepth := 60) [hc]

set_option maxHeartbeats 80000 in
@[simp] theorem startSettled_canon (ps : Nat) (slot : Option (Fin 16)) (s : State) (hc : s.canonical) :
    (startSettled ps slot s).canonical := by
  unfold startSettled; simp (maxDischargeDepth := 60) [hc]

set_option maxHeartbeats 80000 in
@[simp] theorem exposeSettled_canon (ps : Nat) (s : State) (hc : s.canonical) :
    (exposeSettled ps s).canonical := by
  unfold exposeSettled; (try dsimp only); (repeat' split) <;> simp (maxDischargeDepth := 60) [hc]

set_option maxHeartbeats 80000 in
@[simp] theorem gpioSeen_canon (n : Nat) (rising : Bool) (s : State) (hc : s.canonical) :
    (gpioSeen n rising s).canonical := by
  unfold gpioSeen; simp (maxDischargeDepth := 60) [hc]

@[simp] theorem withPin_canon (n : Nat) (g : State → State) (s : State) (hc : s.canonical)
    (h : ∀ u t, g u = t → u.canonical → t.canonical) : (withPin n g s).canonical := by
  unfold withPin; dsimp only; split
  · exact h _ _ rfl hc
  · exact gpioSeen_canon _ _ _ (h _ _ rfl hc)


set_option maxHeartbeats 80000 in
@[simp] theorem pinInput_canon (n : Nat) (high : Bool) (s : State) (hc : s.canonical) :
    (pinInput n high s).canonical := by
  unfold pinInput; (try dsimp only); (repeat' split) <;> simp_all (maxDischargeDepth := 60)

set_option maxHeartbeats 80000 in
@[simp] theorem calWrap_canon (s : State) (hc : s.canonical) :
    (calWrap s).canonical := by
  unfold calWrap; simp (maxDischargeDepth := 60) [hc]

set_option maxHeartbeats 80000 in
@[simp] theorem startsDone_canon (c : CheckStep) (s : State) (hc : s.canonical) :
    (startsDone c s).canonical := by
  unfold startsDone; (try dsimp only); (repeat' split) <;> simp_all (maxDischargeDepth := 60)

set_option maxHeartbeats 80000 in
@[simp] theorem openRun_canon (b : Batch) (s : State) (hc : s.canonical) :
    (openRun b s).canonical := by
  unfold openRun; simp (maxDischargeDepth := 60) [hc]

set_option maxHeartbeats 80000 in
@[simp] theorem checkRunOpen_canon (slotUs : Nat) (s : State) (hc : s.canonical) :
    (checkRunOpen slotUs s).canonical := by
  unfold checkRunOpen; (repeat' split) <;> simp (maxDischargeDepth := 60) [hc]

set_option maxHeartbeats 80000 in
@[simp] theorem calSample_canon (c code : Nat) (s : State) (hc : s.canonical) :
    (calSample c code s).canonical := by
  unfold calSample; simp (maxDischargeDepth := 60) [hc]

set_option maxHeartbeats 80000 in
@[simp] theorem playContent_canon (b : Batch) (i c t sample : Nat) (stage : Int) (s : State) (hc : s.canonical) :
    (playContent b i c t sample stage s).canonical := by
  unfold playContent; simp (maxDischargeDepth := 60) [hc]

set_option maxHeartbeats 80000 in
@[simp] theorem checkBell_canon (t sample : Nat) (x y : Int) (s : State) (hc : s.canonical) :
    (checkBell t sample x y s).canonical := by
  unfold checkBell; (try dsimp only); (repeat' split) <;> simp (maxDischargeDepth := 60) [hc]

set_option maxHeartbeats 80000 in
@[simp] theorem gateInEdge_canon (e : GateEdge) (s : State) (hc : s.canonical) :
    (gateInEdge e s).canonical := by
  unfold gateInEdge; simp (maxDischargeDepth := 60) [hc]

set_option maxHeartbeats 80000 in
@[simp] theorem windowClose_canon (g : Nat) (high : Bool) (s : State) (hc : s.canonical) :
    (windowClose g high s).canonical := by
  unfold windowClose; (repeat' split) <;> simp (maxDischargeDepth := 60) [hc]

set_option maxHeartbeats 80000 in
@[simp] theorem askedDone_canon (c : CheckStep) (s : State) (hc : s.canonical) :
    (askedDone c s).canonical := by
  unfold askedDone; simp (maxDischargeDepth := 60) [hc]

set_option maxHeartbeats 80000 in
@[simp] theorem darkEnds_canon (b : Batch) (s : State) (hc : s.canonical) :
    (darkEnds b s).canonical := by
  unfold darkEnds; simp (maxDischargeDepth := 60) [hc]

set_option maxHeartbeats 80000 in
@[simp] theorem scanAdvance_canon (b : Batch) (s : State) (hc : s.canonical) :
    (scanAdvance b s).canonical := by
  unfold scanAdvance; simp (maxDischargeDepth := 60) [hc]

set_option maxHeartbeats 80000 in
@[simp] theorem scanEnds_canon (b : Batch) (s : State) (hc : s.canonical) :
    (scanEnds b s).canonical := by
  unfold scanEnds; simp (maxDischargeDepth := 60) [hc]

set_option maxHeartbeats 80000 in
@[simp] theorem recheckEnds_canon (b : Batch) (s : State) (hc : s.canonical) :
    (recheckEnds b s).canonical := by
  unfold recheckEnds; (repeat' split) <;> simp (maxDischargeDepth := 60) [hc]

set_option maxHeartbeats 80000 in
@[simp] theorem calEnds_canon (b : Batch) (s : State) (hc : s.canonical) :
    (calEnds b s).canonical := by
  unfold calEnds; simp (maxDischargeDepth := 60) [hc]

set_option maxHeartbeats 80000 in
@[simp] theorem locateOver_canon (s : State) (hc : s.canonical) :
    (locateOver s).canonical := by
  unfold locateOver; simp (maxDischargeDepth := 60) [hc]

set_option maxHeartbeats 80000 in
@[simp] theorem locateEnds_canon (b : Batch) (s : State) (hc : s.canonical) :
    (locateEnds b s).canonical := by
  unfold locateEnds; (try dsimp only); (repeat' split) <;> simp (maxDischargeDepth := 60) [hc]

set_option maxHeartbeats 80000 in
@[simp] theorem locateXEnds_canon (b : Batch) (s : State) (hc : s.canonical) :
    (locateXEnds b s).canonical := by
  unfold locateXEnds; simp (maxDischargeDepth := 60) [hc]

set_option maxHeartbeats 80000 in
@[simp] theorem calAgain_canon (b : Batch) (s : State) (hc : s.canonical) :
    (calAgain b s).canonical := by
  unfold calAgain; simp (maxDischargeDepth := 60) [hc]

set_option maxHeartbeats 80000 in
@[simp] theorem judgeBatch_canon (b : Batch) (s : State) (hc : s.canonical) :
    (judgeBatch b s).canonical := by
  unfold judgeBatch; (repeat' split) <;> simp (maxDischargeDepth := 60) [hc]

set_option maxHeartbeats 80000 in
@[simp] theorem serviceApplies_canon (s : State) (hc : s.canonical) :
    (serviceApplies s).canonical := by
  unfold serviceApplies; simp (maxDischargeDepth := 60) [hc]

set_option maxHeartbeats 80000 in
@[simp] theorem batchOver_canon (s : State) (hc : s.canonical) :
    (batchOver s).canonical := by
  unfold batchOver; (repeat' split) <;> simp (maxDischargeDepth := 60) [hc]

set_option maxHeartbeats 80000 in
@[simp] theorem checkBatchEnd_canon (s : State) (hc : s.canonical) :
    (checkBatchEnd s).canonical := by
  unfold checkBatchEnd; (repeat' split) <;> simp (maxDischargeDepth := 60) [hc]

set_option maxHeartbeats 80000 in
@[simp] theorem readyFall_canon (s : State) (hc : s.canonical) :
    (readyFall s).canonical := by
  unfold readyFall; simp (maxDischargeDepth := 60) [hc]

set_option maxHeartbeats 80000 in
@[simp] theorem ask_canon (c : CheckStep) (s : State) (hc : s.canonical) :
    (ask c s).canonical := by
  unfold ask; simp (maxDischargeDepth := 60) [hc]

set_option maxHeartbeats 80000 in
@[simp] theorem askFor_canon (c : CheckStep) (r : Req) (s : State) (hc : s.canonical) :
    (askFor c r s).canonical := by
  unfold askFor; simp (maxDischargeDepth := 60) [hc]

set_option maxHeartbeats 80000 in
@[simp] theorem dropLocate_canon (s : State) (hc : s.canonical) :
    (dropLocate s).canonical := by
  unfold dropLocate; simp (maxDischargeDepth := 60) [hc]

set_option maxHeartbeats 80000 in
@[simp] theorem stopChecks_canon (s : State) (hc : s.canonical) :
    (stopChecks s).canonical := by
  unfold stopChecks; simp (maxDischargeDepth := 60) [hc]

set_option maxHeartbeats 80000 in
@[simp] theorem restartChecks_canon (s : State) (hc : s.canonical) :
    (restartChecks s).canonical := by
  unfold restartChecks; simp (maxDischargeDepth := 60) [hc]

set_option maxHeartbeats 80000 in
@[simp] theorem beamCheckCommand_canon (r : Req) (op : Nat) (s : State) (hc : s.canonical) :
    (beamCheckCommand r op s).canonical := by
  unfold beamCheckCommand; (try dsimp only); (repeat' split) <;> simp_all (maxDischargeDepth := 60)

set_option maxHeartbeats 80000 in
@[simp] theorem startLocate_canon (r : Req) (s : State) (hc : s.canonical) :
    (startLocate r s).canonical := by
  unfold startLocate; (repeat' split) <;> simp (maxDischargeDepth := 60) [hc]

set_option maxHeartbeats 80000 in
@[simp] theorem beamLocateCommand_canon (r : Req) (s : State) (hc : s.canonical) :
    (beamLocateCommand r s).canonical := by
  unfold beamLocateCommand; (try dsimp only); (repeat' split) <;> simp_all (maxDischargeDepth := 60)

set_option maxHeartbeats 80000 in
@[simp] theorem calStartCommand_canon (r : Req) (s : State) (hc : s.canonical) :
    (calStartCommand r s).canonical := by
  unfold calStartCommand; (try dsimp only); (repeat' split) <;> simp_all (maxDischargeDepth := 60)

set_option maxHeartbeats 80000 in
@[simp] theorem calAbortCommand_canon (r : Req) (s : State) (hc : s.canonical) :
    (calAbortCommand r s).canonical := by
  unfold calAbortCommand; (try dsimp only); (repeat' split) <;> simp_all (maxDischargeDepth := 60)

set_option maxHeartbeats 80000 in
@[simp] theorem analogCalCommand_canon (r : Req) (refvUv : Nat) (adc : List (Int × Nat)) (sensors : List Int) (rails : List Nat) (s : State) (hc : s.canonical) :
    (analogCalCommand r refvUv adc sensors rails s).canonical := by
  unfold analogCalCommand; (try dsimp only); (repeat' split) <;> simp_all (maxDischargeDepth := 60)

end Sys2Proof.Machine
end

