-- ==== Sys2Proof/Laws/Frame4.lean ====
section
/-!
SUPPORT. What the operations of these files leave of the state, one lemma per operation, for the simplifier.
-/

namespace Sys2Proof.Machine

set_option Elab.async false

set_option maxHeartbeats 60000 in
@[simp] theorem startJob_frame (slot : Option (Fin 16)) (lead : Nat) (s : State) :
    (startJob slot lead s).pending = s.pending ∧ (startJob slot lead s).mail = s.mail ∧ (startJob slot lead s).dram = s.dram ∧ (startJob slot lead s).job = s.job ∧ (startJob slot lead s).page = s.page ∧ (startJob slot lead s).sec = s.sec ∧ (startJob slot lead s).tim = s.tim ∧ (startJob slot lead s).ev = s.ev := by
  unfold startJob; simp

set_option maxHeartbeats 60000 in
@[simp] theorem putTrig_frame (n : Nat) (t : Option Trigger) (s : State) :
    (putTrig n t s).pending = s.pending ∧ (putTrig n t s).mail = s.mail ∧ (putTrig n t s).dram = s.dram ∧ (putTrig n t s).job = s.job ∧ (putTrig n t s).page = s.page ∧ (putTrig n t s).flow = s.flow ∧ (putTrig n t s).prog = s.prog ∧ (putTrig n t s).sec = s.sec := by
  unfold putTrig; simp

set_option maxHeartbeats 60000 in
@[simp] theorem missTrig_frame (n : Nat) (s : State) :
    (missTrig n s).pending = s.pending ∧ (missTrig n s).mail = s.mail ∧ (missTrig n s).dram = s.dram ∧ (missTrig n s).job = s.job ∧ (missTrig n s).page = s.page ∧ (missTrig n s).flow = s.flow ∧ (missTrig n s).prog = s.prog ∧ (missTrig n s).sec = s.sec ∧ (missTrig n s).tim = s.tim := by
  unfold missTrig; simp

set_option maxHeartbeats 60000 in
@[simp] theorem endPulse_frame (n : Nat) (s : State) :
    (endPulse n s).pending = s.pending ∧ (endPulse n s).mail = s.mail ∧ (endPulse n s).dram = s.dram ∧ (endPulse n s).job = s.job ∧ (endPulse n s).page = s.page ∧ (endPulse n s).flow = s.flow ∧ (endPulse n s).prog = s.prog ∧ (endPulse n s).sec = s.sec := by
  unfold endPulse; (repeat' split) <;> simp

set_option maxHeartbeats 60000 in
@[simp] theorem endConversion_frame (n : Nat) (s : State) :
    (endConversion n s).pending = s.pending ∧ (endConversion n s).mail = s.mail ∧ (endConversion n s).dram = s.dram ∧ (endConversion n s).job = s.job ∧ (endConversion n s).page = s.page ∧ (endConversion n s).flow = s.flow ∧ (endConversion n s).prog = s.prog ∧ (endConversion n s).sec = s.sec ∧ (endConversion n s).ev = s.ev := by
  unfold endConversion; (repeat' split) <;> simp

set_option maxHeartbeats 60000 in
@[simp] theorem trigAction_frame (n : Nat) (t : Trigger) (s : State) :
    (trigAction n t s).pending = s.pending ∧ (trigAction n t s).mail = s.mail ∧ (trigAction n t s).dram = s.dram ∧ (trigAction n t s).job = s.job ∧ (trigAction n t s).page = s.page ∧ (trigAction n t s).sec = s.sec := by
  unfold trigAction; (repeat' split) <;> simp

set_option maxHeartbeats 60000 in
@[simp] theorem oneShotOver_frame (n : Nat) (s : State) :
    (oneShotOver n s).pending = s.pending ∧ (oneShotOver n s).mail = s.mail ∧ (oneShotOver n s).dram = s.dram ∧ (oneShotOver n s).job = s.job ∧ (oneShotOver n s).page = s.page ∧ (oneShotOver n s).flow = s.flow ∧ (oneShotOver n s).prog = s.prog ∧ (oneShotOver n s).sec = s.sec := by
  unfold oneShotOver; (repeat' split) <;> simp

set_option maxHeartbeats 60000 in
@[simp] theorem fireNow_frame (n : Nat) (t : Trigger) (next : Nat) (s : State) :
    (fireNow n t next s).pending = s.pending ∧ (fireNow n t next s).mail = s.mail ∧ (fireNow n t next s).dram = s.dram ∧ (fireNow n t next s).job = s.job ∧ (fireNow n t next s).page = s.page ∧ (fireNow n t next s).sec = s.sec := by
  unfold fireNow; simp

set_option maxHeartbeats 60000 in
@[simp] theorem crossTrigger_frame (n : Nat) (t : Trigger) (s : State) :
    (crossTrigger n t s).pending = s.pending ∧ (crossTrigger n t s).mail = s.mail ∧ (crossTrigger n t s).dram = s.dram ∧ (crossTrigger n t s).job = s.job ∧ (crossTrigger n t s).page = s.page ∧ (crossTrigger n t s).flow = s.flow ∧ (crossTrigger n t s).prog = s.prog ∧ (crossTrigger n t s).sec = s.sec := by
  unfold crossTrigger; simp

set_option maxHeartbeats 60000 in
@[simp] theorem dropPend_frame (n : Nat) (s : State) :
    (dropPend n s).pending = s.pending ∧ (dropPend n s).mail = s.mail ∧ (dropPend n s).dram = s.dram ∧ (dropPend n s).job = s.job ∧ (dropPend n s).page = s.page ∧ (dropPend n s).flow = s.flow ∧ (dropPend n s).prog = s.prog ∧ (dropPend n s).sec = s.sec ∧ (dropPend n s).tim = s.tim ∧ (dropPend n s).ev = s.ev := by
  unfold dropPend; simp

set_option maxHeartbeats 60000 in
@[simp] theorem deliverTrigger_frame (s : State) (n : Nat) :
    (deliverTrigger s n).pending = s.pending ∧ (deliverTrigger s n).mail = s.mail ∧ (deliverTrigger s n).dram = s.dram ∧ (deliverTrigger s n).job = s.job ∧ (deliverTrigger s n).page = s.page ∧ (deliverTrigger s n).sec = s.sec := by
  unfold deliverTrigger; (repeat' split) <;> simp

set_option maxHeartbeats 60000 in
@[simp] theorem deliverTriggers_frame (s : State) :
    (deliverTriggers s).pending = s.pending ∧ (deliverTriggers s).mail = s.mail ∧ (deliverTriggers s).dram = s.dram ∧ (deliverTriggers s).job = s.job ∧ (deliverTriggers s).page = s.page ∧ (deliverTriggers s).sec = s.sec := by
  unfold deliverTriggers; simp

set_option maxHeartbeats 60000 in
@[simp] theorem triggerFire_frame (n : Nat) (s : State) :
    (triggerFire n s).pending = s.pending ∧ (triggerFire n s).mail = s.mail ∧ (triggerFire n s).dram = s.dram ∧ (triggerFire n s).job = s.job ∧ (triggerFire n s).page = s.page ∧ (triggerFire n s).sec = s.sec := by
  unfold triggerFire; (repeat' split) <;> simp

set_option maxHeartbeats 60000 in
@[simp] theorem lateTrigger_frame (s : State) (n : Nat) :
    (lateTrigger s n).pending = s.pending ∧ (lateTrigger s n).mail = s.mail ∧ (lateTrigger s n).dram = s.dram ∧ (lateTrigger s n).job = s.job ∧ (lateTrigger s n).page = s.page ∧ (lateTrigger s n).sec = s.sec := by
  unfold lateTrigger; (repeat' split) <;> simp

set_option maxHeartbeats 60000 in
@[simp] theorem lateTriggers_frame (s : State) :
    (lateTriggers s).pending = s.pending ∧ (lateTriggers s).mail = s.mail ∧ (lateTriggers s).dram = s.dram ∧ (lateTriggers s).job = s.job ∧ (lateTriggers s).page = s.page ∧ (lateTriggers s).sec = s.sec := by
  unfold lateTriggers; simp

set_option maxHeartbeats 60000 in
@[simp] theorem stepTime_frame (e : Int) (s : State) :
    (stepTime e s).pending = s.pending ∧ (stepTime e s).mail = s.mail ∧ (stepTime e s).dram = s.dram ∧ (stepTime e s).job = s.job ∧ (stepTime e s).page = s.page ∧ (stepTime e s).sec = s.sec := by
  unfold stepTime; simp

set_option maxHeartbeats 60000 in
@[simp] theorem conversionEnd_frame (n code : Nat) (s : State) :
    (conversionEnd n code s).pending = s.pending ∧ (conversionEnd n code s).mail = s.mail ∧ (conversionEnd n code s).dram = s.dram ∧ (conversionEnd n code s).job = s.job ∧ (conversionEnd n code s).page = s.page ∧ (conversionEnd n code s).flow = s.flow ∧ (conversionEnd n code s).prog = s.prog ∧ (conversionEnd n code s).sec = s.sec := by
  unfold conversionEnd; (repeat' split) <;> simp

set_option maxHeartbeats 60000 in
@[simp] theorem pulseEnd_frame (n : Nat) (s : State) :
    (pulseEnd n s).pending = s.pending ∧ (pulseEnd n s).mail = s.mail ∧ (pulseEnd n s).dram = s.dram ∧ (pulseEnd n s).job = s.job ∧ (pulseEnd n s).page = s.page ∧ (pulseEnd n s).flow = s.flow ∧ (pulseEnd n s).prog = s.prog ∧ (pulseEnd n s).sec = s.sec := by
  unfold pulseEnd; simp

@[simp] theorem replaceTrig_pending (n : Nat) (t : Option Trigger) (s : State) : (replaceTrig n t s).pending = s.pending := by
  unfold replaceTrig; dsimp only
  generalize (List.eraseDups (((trigOf s n).toList ++ t.toList).map (·.gpio)) : List Nat) = l
  induction l generalizing s with
  | nil => simp
  | cons a l ih => exact withPin_pending a _ s fun u _ e => e ▸ ih u

@[simp] theorem replaceTrig_mail (n : Nat) (t : Option Trigger) (s : State) : (replaceTrig n t s).mail = s.mail := by
  unfold replaceTrig; dsimp only
  generalize (List.eraseDups (((trigOf s n).toList ++ t.toList).map (·.gpio)) : List Nat) = l
  induction l generalizing s with
  | nil => simp
  | cons a l ih => exact withPin_mail a _ s fun u _ e => e ▸ ih u

@[simp] theorem replaceTrig_dram (n : Nat) (t : Option Trigger) (s : State) : (replaceTrig n t s).dram = s.dram := by
  unfold replaceTrig; dsimp only
  generalize (List.eraseDups (((trigOf s n).toList ++ t.toList).map (·.gpio)) : List Nat) = l
  induction l generalizing s with
  | nil => simp
  | cons a l ih => exact withPin_dram a _ s fun u _ e => e ▸ ih u

@[simp] theorem replaceTrig_job (n : Nat) (t : Option Trigger) (s : State) : (replaceTrig n t s).job = s.job := by
  unfold replaceTrig; dsimp only
  generalize (List.eraseDups (((trigOf s n).toList ++ t.toList).map (·.gpio)) : List Nat) = l
  induction l generalizing s with
  | nil => simp
  | cons a l ih => exact withPin_job a _ s fun u _ e => e ▸ ih u

@[simp] theorem replaceTrig_page (n : Nat) (t : Option Trigger) (s : State) : (replaceTrig n t s).page = s.page := by
  unfold replaceTrig; dsimp only
  generalize (List.eraseDups (((trigOf s n).toList ++ t.toList).map (·.gpio)) : List Nat) = l
  induction l generalizing s with
  | nil => simp
  | cons a l ih => exact withPin_page a _ s fun u _ e => e ▸ ih u

@[simp] theorem replaceTrig_flow (n : Nat) (t : Option Trigger) (s : State) : (replaceTrig n t s).flow = s.flow := by
  unfold replaceTrig; dsimp only
  generalize (List.eraseDups (((trigOf s n).toList ++ t.toList).map (·.gpio)) : List Nat) = l
  induction l generalizing s with
  | nil => simp
  | cons a l ih => exact withPin_flow a _ s fun u _ e => e ▸ ih u

@[simp] theorem replaceTrig_prog (n : Nat) (t : Option Trigger) (s : State) : (replaceTrig n t s).prog = s.prog := by
  unfold replaceTrig; dsimp only
  generalize (List.eraseDups (((trigOf s n).toList ++ t.toList).map (·.gpio)) : List Nat) = l
  induction l generalizing s with
  | nil => simp
  | cons a l ih => exact withPin_prog a _ s fun u _ e => e ▸ ih u

@[simp] theorem replaceTrig_sec (n : Nat) (t : Option Trigger) (s : State) : (replaceTrig n t s).sec = s.sec := by
  unfold replaceTrig; dsimp only
  generalize (List.eraseDups (((trigOf s n).toList ++ t.toList).map (·.gpio)) : List Nat) = l
  induction l generalizing s with
  | nil => simp
  | cons a l ih => exact withPin_sec a _ s fun u _ e => e ▸ ih u


set_option maxHeartbeats 60000 in
@[simp] theorem setTrigger_frame (n action gpio start period width : Nat) (s : State) :
    (setTrigger n action gpio start period width s).pending = s.pending ∧ (setTrigger n action gpio start period width s).mail = s.mail ∧ (setTrigger n action gpio start period width s).dram = s.dram ∧ (setTrigger n action gpio start period width s).job = s.job ∧ (setTrigger n action gpio start period width s).page = s.page ∧ (setTrigger n action gpio start period width s).sec = s.sec := by
  unfold setTrigger; simp

set_option maxHeartbeats 60000 in
@[simp] theorem triggerSetCommand_frame (r : Req) (index action gpio startS startNs period width : Nat) (s : State) :
    (triggerSetCommand r index action gpio startS startNs period width s).pending = s.pending ∧ (triggerSetCommand r index action gpio startS startNs period width s).dram = s.dram ∧ (triggerSetCommand r index action gpio startS startNs period width s).job = s.job ∧ (triggerSetCommand r index action gpio startS startNs period width s).page = s.page ∧ (triggerSetCommand r index action gpio startS startNs period width s).sec = s.sec := by
  unfold triggerSetCommand; simp

set_option maxHeartbeats 60000 in
@[simp] theorem timeSetCommand_frame (r : Req) (seconds ns : Nat) (s : State) :
    (timeSetCommand r seconds ns s).pending = s.pending ∧ (timeSetCommand r seconds ns s).dram = s.dram ∧ (timeSetCommand r seconds ns s).job = s.job ∧ (timeSetCommand r seconds ns s).page = s.page ∧ (timeSetCommand r seconds ns s).sec = s.sec := by
  unfold timeSetCommand; simp

set_option maxHeartbeats 60000 in
@[simp] theorem ptpSync_frame (ofs : Int) (inc : Nat) (s : State) :
    (ptpSync ofs inc s).pending = s.pending ∧ (ptpSync ofs inc s).mail = s.mail ∧ (ptpSync ofs inc s).dram = s.dram ∧ (ptpSync ofs inc s).job = s.job ∧ (ptpSync ofs inc s).page = s.page ∧ (ptpSync ofs inc s).sec = s.sec := by
  unfold ptpSync; simp

set_option maxHeartbeats 60000 in
@[simp] theorem ptpSyncArrives_frame (origin inc : Nat) (s : State) :
    (ptpSyncArrives origin inc s).pending = s.pending ∧ (ptpSyncArrives origin inc s).mail = s.mail ∧ (ptpSyncArrives origin inc s).dram = s.dram ∧ (ptpSyncArrives origin inc s).job = s.job ∧ (ptpSyncArrives origin inc s).page = s.page ∧ (ptpSyncArrives origin inc s).sec = s.sec := by
  unfold ptpSyncArrives; simp

set_option maxHeartbeats 60000 in
@[simp] theorem ptpReqSent_frame (id : Nat) (s : State) :
    (ptpReqSent id s).pending = s.pending ∧ (ptpReqSent id s).mail = s.mail ∧ (ptpReqSent id s).dram = s.dram ∧ (ptpReqSent id s).job = s.job ∧ (ptpReqSent id s).page = s.page ∧ (ptpReqSent id s).flow = s.flow ∧ (ptpReqSent id s).prog = s.prog ∧ (ptpReqSent id s).sec = s.sec := by
  unfold ptpReqSent; simp

set_option maxHeartbeats 60000 in
@[simp] theorem ptpDelayResp_frame (id t4 : Nat) (s : State) :
    (ptpDelayResp id t4 s).pending = s.pending ∧ (ptpDelayResp id t4 s).mail = s.mail ∧ (ptpDelayResp id t4 s).dram = s.dram ∧ (ptpDelayResp id t4 s).job = s.job ∧ (ptpDelayResp id t4 s).page = s.page ∧ (ptpDelayResp id t4 s).flow = s.flow ∧ (ptpDelayResp id t4 s).prog = s.prog ∧ (ptpDelayResp id t4 s).sec = s.sec ∧ (ptpDelayResp id t4 s).ev = s.ev := by
  unfold ptpDelayResp; (repeat' split) <;> simp

set_option maxHeartbeats 60000 in
@[simp] theorem ptpMessage_frame (m : PtpMsg) (s : State) :
    (ptpMessage m s).pending = s.pending ∧ (ptpMessage m s).mail = s.mail ∧ (ptpMessage m s).dram = s.dram ∧ (ptpMessage m s).job = s.job ∧ (ptpMessage m s).page = s.page ∧ (ptpMessage m s).sec = s.sec := by
  unfold ptpMessage; (repeat' split) <;> simp

set_option maxHeartbeats 60000 in
@[simp] theorem refreshCore_frame (s : State) :
    (refreshCore s).pending = s.pending ∧ (refreshCore s).mail = s.mail ∧ (refreshCore s).dram = s.dram ∧ (refreshCore s).job = s.job ∧ (refreshCore s).flow = s.flow ∧ (refreshCore s).prog = s.prog ∧ (refreshCore s).sec = s.sec := by
  unfold refreshCore; simp

set_option maxHeartbeats 60000 in
@[simp] theorem refreshMonitor_frame (s : State) :
    (refreshMonitor s).pending = s.pending ∧ (refreshMonitor s).mail = s.mail ∧ (refreshMonitor s).dram = s.dram ∧ (refreshMonitor s).job = s.job ∧ (refreshMonitor s).flow = s.flow ∧ (refreshMonitor s).prog = s.prog ∧ (refreshMonitor s).sec = s.sec ∧ (refreshMonitor s).tim = s.tim ∧ (refreshMonitor s).ev = s.ev := by
  unfold refreshMonitor; simp

set_option maxHeartbeats 60000 in
@[simp] theorem refreshMember_frame (i : Nat) (digest epoch state : Nat) (s : State) :
    (refreshMember i digest epoch state s).pending = s.pending ∧ (refreshMember i digest epoch state s).mail = s.mail ∧ (refreshMember i digest epoch state s).dram = s.dram ∧ (refreshMember i digest epoch state s).job = s.job ∧ (refreshMember i digest epoch state s).flow = s.flow ∧ (refreshMember i digest epoch state s).prog = s.prog ∧ (refreshMember i digest epoch state s).sec = s.sec ∧ (refreshMember i digest epoch state s).tim = s.tim ∧ (refreshMember i digest epoch state s).ev = s.ev := by
  unfold refreshMember; simp

set_option maxHeartbeats 60000 in
@[simp] theorem refreshCohort_frame (s : State) :
    (refreshCohort s).pending = s.pending ∧ (refreshCohort s).mail = s.mail ∧ (refreshCohort s).dram = s.dram ∧ (refreshCohort s).job = s.job ∧ (refreshCohort s).flow = s.flow ∧ (refreshCohort s).prog = s.prog ∧ (refreshCohort s).sec = s.sec ∧ (refreshCohort s).tim = s.tim ∧ (refreshCohort s).ev = s.ev := by
  unfold refreshCohort; simp

set_option maxHeartbeats 60000 in
@[simp] theorem statusRefresh_frame (sec : Section) (s : State) :
    (statusRefresh sec s).pending = s.pending ∧ (statusRefresh sec s).mail = s.mail ∧ (statusRefresh sec s).dram = s.dram ∧ (statusRefresh sec s).job = s.job ∧ (statusRefresh sec s).flow = s.flow ∧ (statusRefresh sec s).prog = s.prog ∧ (statusRefresh sec s).sec = s.sec := by
  unfold statusRefresh; (repeat' split) <;> simp

set_option maxHeartbeats 60000 in
@[simp] theorem resumeBoundary_frame (slot : Option (Fin 16)) (s : State) :
    (resumeBoundary slot s).pending = s.pending ∧ (resumeBoundary slot s).dram = s.dram ∧ (resumeBoundary slot s).page = s.page ∧ (resumeBoundary slot s).sec = s.sec ∧ (resumeBoundary slot s).tim = s.tim := by
  unfold resumeBoundary; simp

set_option maxHeartbeats 60000 in
@[simp] theorem beginResume_frame (slot : Option (Fin 16)) (s : State) :
    (beginResume slot s).pending = s.pending ∧ (beginResume slot s).dram = s.dram ∧ (beginResume slot s).page = s.page ∧ (beginResume slot s).sec = s.sec ∧ (beginResume slot s).tim = s.tim := by
  unfold beginResume; simp

set_option maxHeartbeats 60000 in
@[simp] theorem resumeCommand_frame (r : Req) (s : State) :
    (resumeCommand r s).pending = s.pending ∧ (resumeCommand r s).dram = s.dram ∧ (resumeCommand r s).page = s.page ∧ (resumeCommand r s).sec = s.sec ∧ (resumeCommand r s).tim = s.tim := by
  unfold resumeCommand; simp

set_option maxHeartbeats 60000 in
@[simp] theorem portSync_frame (p : Port) (s : State) :
    (portSync p s).pending = s.pending ∧ (portSync p s).mail = s.mail ∧ (portSync p s).dram = s.dram ∧ (portSync p s).job = s.job ∧ (portSync p s).page = s.page ∧ (portSync p s).flow = s.flow ∧ (portSync p s).prog = s.prog ∧ (portSync p s).sec = s.sec ∧ (portSync p s).tim = s.tim := by
  unfold portSync; simp

set_option maxHeartbeats 60000 in
@[simp] theorem setHeard_frame (p : Port) (b : Bool) (s : State) :
    (setHeard p b s).pending = s.pending ∧ (setHeard p b s).mail = s.mail ∧ (setHeard p b s).dram = s.dram ∧ (setHeard p b s).job = s.job ∧ (setHeard p b s).page = s.page ∧ (setHeard p b s).flow = s.flow ∧ (setHeard p b s).prog = s.prog ∧ (setHeard p b s).sec = s.sec ∧ (setHeard p b s).tim = s.tim := by
  unfold setHeard; (repeat' split) <;> simp

set_option maxHeartbeats 60000 in
@[simp] theorem masterSync_frame (anew : Bool) (s : State) :
    (masterSync anew s).pending = s.pending ∧ (masterSync anew s).mail = s.mail ∧ (masterSync anew s).dram = s.dram ∧ (masterSync anew s).job = s.job ∧ (masterSync anew s).page = s.page ∧ (masterSync anew s).flow = s.flow ∧ (masterSync anew s).prog = s.prog ∧ (masterSync anew s).sec = s.sec ∧ (masterSync anew s).tim = s.tim := by
  unfold masterSync; simp

set_option maxHeartbeats 60000 in
@[simp] theorem setRing_frame (reach keep : Word) (anew : Bool) (s : State) :
    (setRing reach keep anew s).pending = s.pending ∧ (setRing reach keep anew s).dram = s.dram ∧ (setRing reach keep anew s).job = s.job ∧ (setRing reach keep anew s).page = s.page ∧ (setRing reach keep anew s).prog = s.prog ∧ (setRing reach keep anew s).sec = s.sec ∧ (setRing reach keep anew s).tim = s.tim := by
  unfold setRing; simp

set_option maxHeartbeats 60000 in
@[simp] theorem timeSrcSync_frame (s : State) :
    (timeSrcSync s).pending = s.pending ∧ (timeSrcSync s).mail = s.mail ∧ (timeSrcSync s).dram = s.dram ∧ (timeSrcSync s).job = s.job ∧ (timeSrcSync s).page = s.page ∧ (timeSrcSync s).flow = s.flow ∧ (timeSrcSync s).prog = s.prog ∧ (timeSrcSync s).sec = s.sec ∧ (timeSrcSync s).tim = s.tim ∧ (timeSrcSync s).ev = s.ev := by
  unfold timeSrcSync; simp

set_option maxHeartbeats 60000 in
@[simp] theorem setAlign_frame (misaligned lost : Bool) (s : State) :
    (setAlign misaligned lost s).pending = s.pending ∧ (setAlign misaligned lost s).mail = s.mail ∧ (setAlign misaligned lost s).dram = s.dram ∧ (setAlign misaligned lost s).job = s.job ∧ (setAlign misaligned lost s).page = s.page ∧ (setAlign misaligned lost s).flow = s.flow ∧ (setAlign misaligned lost s).prog = s.prog ∧ (setAlign misaligned lost s).sec = s.sec ∧ (setAlign misaligned lost s).tim = s.tim := by
  unfold setAlign; simp

set_option maxHeartbeats 60000 in
@[simp] theorem reachExpiry_frame (i : Nat) (s : State) :
    (reachExpiry i s).pending = s.pending ∧ (reachExpiry i s).dram = s.dram ∧ (reachExpiry i s).job = s.job ∧ (reachExpiry i s).page = s.page ∧ (reachExpiry i s).prog = s.prog ∧ (reachExpiry i s).sec = s.sec ∧ (reachExpiry i s).tim = s.tim := by
  unfold reachExpiry; simp

set_option maxHeartbeats 60000 in
@[simp] theorem forward_frame (p : Port) (f : CohFrame) (s : State) :
    (forward p f s).pending = s.pending ∧ (forward p f s).mail = s.mail ∧ (forward p f s).dram = s.dram ∧ (forward p f s).job = s.job ∧ (forward p f s).page = s.page ∧ (forward p f s).flow = s.flow ∧ (forward p f s).prog = s.prog ∧ (forward p f s).sec = s.sec ∧ (forward p f s).tim = s.tim ∧ (forward p f s).ev = s.ev := by
  unfold forward; simp

set_option maxHeartbeats 60000 in
@[simp] theorem admitFrame_frame (p : Port) (f : CohFrame) (s : State) :
    (admitFrame p f s).pending = s.pending ∧ (admitFrame p f s).dram = s.dram ∧ (admitFrame p f s).job = s.job ∧ (admitFrame p f s).page = s.page ∧ (admitFrame p f s).prog = s.prog ∧ (admitFrame p f s).sec = s.sec ∧ (admitFrame p f s).tim = s.tim := by
  unfold admitFrame; simp

set_option maxHeartbeats 60000 in
@[simp] theorem receiveFrame_frame (p : Port) (f : CohFrame) (s : State) :
    (receiveFrame p f s).1.pending = s.pending ∧ (receiveFrame p f s).1.dram = s.dram ∧ (receiveFrame p f s).1.job = s.job ∧ (receiveFrame p f s).1.page = s.page ∧ (receiveFrame p f s).1.prog = s.prog ∧ (receiveFrame p f s).1.sec = s.sec ∧ (receiveFrame p f s).1.tim = s.tim := by
  unfold receiveFrame; (try dsimp only); (repeat' split) <;> simp

@[simp] theorem onFrame_pending (kind : Nat) (p : Port) (fr : CohFrame) (act : State → State) (s : State)
    (h : ∀ u t, act u = t → t.pending = u.pending) : (onFrame kind p fr act s).pending = s.pending := by
  unfold onFrame; split
  · dsimp only; split
    · rw [h _ _ rfl]; simp
    · simp
  · rfl

@[simp] theorem onFrame_dram (kind : Nat) (p : Port) (fr : CohFrame) (act : State → State) (s : State)
    (h : ∀ u t, act u = t → t.dram = u.dram) : (onFrame kind p fr act s).dram = s.dram := by
  unfold onFrame; split
  · dsimp only; split
    · rw [h _ _ rfl]; simp
    · simp
  · rfl

@[simp] theorem onFrame_job (kind : Nat) (p : Port) (fr : CohFrame) (act : State → State) (s : State)
    (h : ∀ u t, act u = t → t.job = u.job) : (onFrame kind p fr act s).job = s.job := by
  unfold onFrame; split
  · dsimp only; split
    · rw [h _ _ rfl]; simp
    · simp
  · rfl

@[simp] theorem onFrame_page (kind : Nat) (p : Port) (fr : CohFrame) (act : State → State) (s : State)
    (h : ∀ u t, act u = t → t.page = u.page) : (onFrame kind p fr act s).page = s.page := by
  unfold onFrame; split
  · dsimp only; split
    · rw [h _ _ rfl]; simp
    · simp
  · rfl

@[simp] theorem onFrame_prog (kind : Nat) (p : Port) (fr : CohFrame) (act : State → State) (s : State)
    (h : ∀ u t, act u = t → t.prog = u.prog) : (onFrame kind p fr act s).prog = s.prog := by
  unfold onFrame; split
  · dsimp only; split
    · rw [h _ _ rfl]; simp
    · simp
  · rfl

@[simp] theorem onFrame_sec (kind : Nat) (p : Port) (fr : CohFrame) (act : State → State) (s : State)
    (h : ∀ u t, act u = t → t.sec = u.sec) : (onFrame kind p fr act s).sec = s.sec := by
  unfold onFrame; split
  · dsimp only; split
    · rw [h _ _ rfl]; simp
    · simp
  · rfl

@[simp] theorem onFrame_tim (kind : Nat) (p : Port) (fr : CohFrame) (act : State → State) (s : State)
    (h : ∀ u t, act u = t → t.tim = u.tim) : (onFrame kind p fr act s).tim = s.tim := by
  unfold onFrame; split
  · dsimp only; split
    · rw [h _ _ rfl]; simp
    · simp
  · rfl


set_option maxHeartbeats 60000 in
@[simp] theorem rollCallSend_frame (s : State) :
    (rollCallSend s).pending = s.pending ∧ (rollCallSend s).mail = s.mail ∧ (rollCallSend s).dram = s.dram ∧ (rollCallSend s).job = s.job ∧ (rollCallSend s).flow = s.flow ∧ (rollCallSend s).prog = s.prog ∧ (rollCallSend s).sec = s.sec ∧ (rollCallSend s).tim = s.tim := by
  unfold rollCallSend; simp

set_option maxHeartbeats 60000 in
@[simp] theorem rejoin_frame (st epoch : Nat) (s : State) :
    (rejoin st epoch s).pending = s.pending ∧ (rejoin st epoch s).mail = s.mail ∧ (rejoin st epoch s).dram = s.dram ∧ (rejoin st epoch s).job = s.job ∧ (rejoin st epoch s).page = s.page ∧ (rejoin st epoch s).prog = s.prog ∧ (rejoin st epoch s).sec = s.sec ∧ (rejoin st epoch s).tim = s.tim ∧ (rejoin st epoch s).ev = s.ev := by
  unfold rejoin; simp

set_option maxHeartbeats 60000 in
@[simp] theorem rollCallAccepted_frame (p : Port) (f : CohFrame) (s : State) :
    (rollCallAccepted p f s).pending = s.pending ∧ (rollCallAccepted p f s).dram = s.dram ∧ (rollCallAccepted p f s).job = s.job ∧ (rollCallAccepted p f s).prog = s.prog ∧ (rollCallAccepted p f s).sec = s.sec ∧ (rollCallAccepted p f s).tim = s.tim := by
  unfold rollCallAccepted; simp

set_option maxHeartbeats 60000 in
@[simp] theorem rollCallCopy_frame (p : Port) (f : CohFrame) (s : State) :
    (rollCallCopy p f s).pending = s.pending ∧ (rollCallCopy p f s).mail = s.mail ∧ (rollCallCopy p f s).dram = s.dram ∧ (rollCallCopy p f s).job = s.job ∧ (rollCallCopy p f s).page = s.page ∧ (rollCallCopy p f s).flow = s.flow ∧ (rollCallCopy p f s).prog = s.prog ∧ (rollCallCopy p f s).sec = s.sec ∧ (rollCallCopy p f s).tim = s.tim ∧ (rollCallCopy p f s).ev = s.ev := by
  unfold rollCallCopy; (try dsimp only); (repeat' split) <;> simp

set_option maxHeartbeats 60000 in
@[simp] theorem goStripe_frame (layer stripe : Nat) (s : State) :
    (goStripe layer stripe s).pending = s.pending ∧ (goStripe layer stripe s).mail = s.mail ∧ (goStripe layer stripe s).dram = s.dram ∧ (goStripe layer stripe s).job = s.job ∧ (goStripe layer stripe s).page = s.page ∧ (goStripe layer stripe s).flow = s.flow ∧ (goStripe layer stripe s).prog = s.prog ∧ (goStripe layer stripe s).sec = s.sec ∧ (goStripe layer stripe s).tim = s.tim ∧ (goStripe layer stripe s).ev = s.ev := by
  unfold goStripe; simp

set_option maxHeartbeats 60000 in
@[simp] theorem tryGo_frame (s : State) :
    (tryGo s).pending = s.pending ∧ (tryGo s).mail = s.mail ∧ (tryGo s).dram = s.dram ∧ (tryGo s).job = s.job ∧ (tryGo s).page = s.page ∧ (tryGo s).flow = s.flow ∧ (tryGo s).prog = s.prog ∧ (tryGo s).sec = s.sec ∧ (tryGo s).tim = s.tim ∧ (tryGo s).ev = s.ev := by
  unfold tryGo; (repeat' split) <;> simp

set_option maxHeartbeats 60000 in
@[simp] theorem readySend_frame (s : State) :
    (readySend s).pending = s.pending ∧ (readySend s).mail = s.mail ∧ (readySend s).dram = s.dram ∧ (readySend s).job = s.job ∧ (readySend s).page = s.page ∧ (readySend s).flow = s.flow ∧ (readySend s).prog = s.prog ∧ (readySend s).sec = s.sec ∧ (readySend s).tim = s.tim ∧ (readySend s).ev = s.ev := by
  unfold readySend; (repeat' split) <;> simp

set_option maxHeartbeats 60000 in
@[simp] theorem takeMembership_frame (keep : Word) (s : State) :
    (takeMembership keep s).pending = s.pending ∧ (takeMembership keep s).dram = s.dram ∧ (takeMembership keep s).job = s.job ∧ (takeMembership keep s).page = s.page ∧ (takeMembership keep s).prog = s.prog ∧ (takeMembership keep s).sec = s.sec ∧ (takeMembership keep s).tim = s.tim := by
  unfold takeMembership; simp

set_option maxHeartbeats 60000 in
@[simp] theorem masterMembership_frame (keep : Word) (s : State) :
    (masterMembership keep s).pending = s.pending ∧ (masterMembership keep s).dram = s.dram ∧ (masterMembership keep s).job = s.job ∧ (masterMembership keep s).page = s.page ∧ (masterMembership keep s).prog = s.prog ∧ (masterMembership keep s).sec = s.sec ∧ (masterMembership keep s).tim = s.tim := by
  unfold masterMembership; simp

set_option maxHeartbeats 60000 in
@[simp] theorem cohortConfigCommand_frame (r : Req) (m own : Nat) (s : State) :
    (cohortConfigCommand r m own s).pending = s.pending ∧ (cohortConfigCommand r m own s).dram = s.dram ∧ (cohortConfigCommand r m own s).job = s.job ∧ (cohortConfigCommand r m own s).page = s.page ∧ (cohortConfigCommand r m own s).prog = s.prog ∧ (cohortConfigCommand r m own s).sec = s.sec := by
  unfold cohortConfigCommand; simp

set_option maxHeartbeats 60000 in
@[simp] theorem cohortShrinkCommand_frame (r : Req) (keep : Word) (s : State) :
    (cohortShrinkCommand r keep s).pending = s.pending ∧ (cohortShrinkCommand r keep s).dram = s.dram ∧ (cohortShrinkCommand r keep s).job = s.job ∧ (cohortShrinkCommand r keep s).page = s.page ∧ (cohortShrinkCommand r keep s).prog = s.prog ∧ (cohortShrinkCommand r keep s).sec = s.sec ∧ (cohortShrinkCommand r keep s).tim = s.tim := by
  unfold cohortShrinkCommand; simp

set_option maxHeartbeats 60000 in
@[simp] theorem holdSetReceived_frame (p : Port) (src id : Nat) (s : State) :
    (holdSetReceived p src id s).pending = s.pending ∧ (holdSetReceived p src id s).dram = s.dram ∧ (holdSetReceived p src id s).job = s.job ∧ (holdSetReceived p src id s).page = s.page ∧ (holdSetReceived p src id s).prog = s.prog ∧ (holdSetReceived p src id s).sec = s.sec ∧ (holdSetReceived p src id s).tim = s.tim := by
  unfold holdSetReceived; simp

set_option maxHeartbeats 60000 in
@[simp] theorem resumeFrame_frame (f : CohFrame) (s : State) :
    (resumeFrame f s).pending = s.pending ∧ (resumeFrame f s).dram = s.dram ∧ (resumeFrame f s).page = s.page ∧ (resumeFrame f s).sec = s.sec ∧ (resumeFrame f s).tim = s.tim := by
  unfold resumeFrame; simp

set_option maxHeartbeats 60000 in
@[simp] theorem timeReqSend_frame (p : Port) (t1 : Nat) (s : State) :
    (timeReqSend p t1 s).pending = s.pending ∧ (timeReqSend p t1 s).mail = s.mail ∧ (timeReqSend p t1 s).dram = s.dram ∧ (timeReqSend p t1 s).job = s.job ∧ (timeReqSend p t1 s).page = s.page ∧ (timeReqSend p t1 s).flow = s.flow ∧ (timeReqSend p t1 s).prog = s.prog ∧ (timeReqSend p t1 s).sec = s.sec ∧ (timeReqSend p t1 s).tim = s.tim ∧ (timeReqSend p t1 s).ev = s.ev := by
  unfold timeReqSend; (repeat' split) <;> simp

set_option maxHeartbeats 60000 in
@[simp] theorem timeResp_frame (p : Port) (req : ReqTimes) (t3 : Nat) (s : State) :
    (timeResp p req t3 s).pending = s.pending ∧ (timeResp p req t3 s).mail = s.mail ∧ (timeResp p req t3 s).dram = s.dram ∧ (timeResp p req t3 s).job = s.job ∧ (timeResp p req t3 s).page = s.page ∧ (timeResp p req t3 s).flow = s.flow ∧ (timeResp p req t3 s).prog = s.prog ∧ (timeResp p req t3 s).sec = s.sec ∧ (timeResp p req t3 s).tim = s.tim ∧ (timeResp p req t3 s).ev = s.ev := by
  unfold timeResp; simp

set_option maxHeartbeats 60000 in
@[simp] theorem followMaster_frame (ps : Int) (s : State) :
    (followMaster ps s).pending = s.pending ∧ (followMaster ps s).mail = s.mail ∧ (followMaster ps s).dram = s.dram ∧ (followMaster ps s).job = s.job ∧ (followMaster ps s).page = s.page ∧ (followMaster ps s).sec = s.sec := by
  unfold followMaster; simp

set_option maxHeartbeats 60000 in
@[simp] theorem timeRespAccepted_frame (p : Port) (f : CohFrame) (t4 : Nat) (s : State) :
    (timeRespAccepted p f t4 s).pending = s.pending ∧ (timeRespAccepted p f t4 s).mail = s.mail ∧ (timeRespAccepted p f t4 s).dram = s.dram ∧ (timeRespAccepted p f t4 s).job = s.job ∧ (timeRespAccepted p f t4 s).page = s.page ∧ (timeRespAccepted p f t4 s).sec = s.sec := by
  unfold timeRespAccepted; (repeat' split) <;> simp

set_option maxHeartbeats 60000 in
@[simp] theorem setBursts_frame (p : Port) (n : Nat) (s : State) :
    (setBursts p n s).pending = s.pending ∧ (setBursts p n s).mail = s.mail ∧ (setBursts p n s).dram = s.dram ∧ (setBursts p n s).job = s.job ∧ (setBursts p n s).page = s.page ∧ (setBursts p n s).flow = s.flow ∧ (setBursts p n s).prog = s.prog ∧ (setBursts p n s).sec = s.sec ∧ (setBursts p n s).tim = s.tim ∧ (setBursts p n s).ev = s.ev := by
  unfold setBursts; (repeat' split) <;> simp

set_option maxHeartbeats 60000 in
@[simp] theorem burstPort_frame (s : State) (p : Port) :
    (burstPort s p).pending = s.pending ∧ (burstPort s p).mail = s.mail ∧ (burstPort s p).dram = s.dram ∧ (burstPort s p).job = s.job ∧ (burstPort s p).page = s.page ∧ (burstPort s p).flow = s.flow ∧ (burstPort s p).prog = s.prog ∧ (burstPort s p).sec = s.sec ∧ (burstPort s p).tim = s.tim ∧ (burstPort s p).ev = s.ev := by
  unfold burstPort; simp

set_option maxHeartbeats 60000 in
@[simp] theorem wakeBurst_frame (s : State) :
    (wakeBurst s).pending = s.pending ∧ (wakeBurst s).mail = s.mail ∧ (wakeBurst s).dram = s.dram ∧ (wakeBurst s).job = s.job ∧ (wakeBurst s).page = s.page ∧ (wakeBurst s).flow = s.flow ∧ (wakeBurst s).prog = s.prog ∧ (wakeBurst s).sec = s.sec ∧ (wakeBurst s).tim = s.tim ∧ (wakeBurst s).ev = s.ev := by
  unfold wakeBurst; simp

set_option maxHeartbeats 60000 in
@[simp] theorem approachStarts_frame (s : State) :
    (approachStarts s).pending = s.pending ∧ (approachStarts s).dram = s.dram ∧ (approachStarts s).job = s.job ∧ (approachStarts s).page = s.page ∧ (approachStarts s).sec = s.sec := by
  unfold approachStarts; (repeat' split) <;> simp

set_option maxHeartbeats 60000 in
@[simp] theorem readCapture_frame (k : Nat) (s : State) :
    (readCapture k s).pending = s.pending ∧ (readCapture k s).mail = s.mail ∧ (readCapture k s).dram = s.dram ∧ (readCapture k s).job = s.job ∧ (readCapture k s).page = s.page ∧ (readCapture k s).flow = s.flow ∧ (readCapture k s).prog = s.prog ∧ (readCapture k s).sec = s.sec ∧ (readCapture k s).tim = s.tim ∧ (readCapture k s).ev = s.ev := by
  unfold readCapture; (repeat' split) <;> simp

set_option maxHeartbeats 60000 in
@[simp] theorem rcClear_frame (k : Nat) (s : State) :
    (rcClear k s).pending = s.pending ∧ (rcClear k s).mail = s.mail ∧ (rcClear k s).dram = s.dram ∧ (rcClear k s).job = s.job ∧ (rcClear k s).page = s.page ∧ (rcClear k s).flow = s.flow ∧ (rcClear k s).prog = s.prog ∧ (rcClear k s).sec = s.sec ∧ (rcClear k s).tim = s.tim ∧ (rcClear k s).ev = s.ev := by
  unfold rcClear; simp

set_option maxHeartbeats 60000 in
@[simp] theorem readReg_frame (k : Nat) (s : State) :
    (readReg k s).1.pending = s.pending ∧ (readReg k s).1.mail = s.mail ∧ (readReg k s).1.dram = s.dram ∧ (readReg k s).1.job = s.job ∧ (readReg k s).1.page = s.page ∧ (readReg k s).1.flow = s.flow ∧ (readReg k s).1.prog = s.prog ∧ (readReg k s).1.sec = s.sec ∧ (readReg k s).1.tim = s.tim ∧ (readReg k s).1.ev = s.ev := by
  unfold readReg; simp

@[simp] theorem readRegs_pending (ks : List Nat) (s : State) : (readRegs ks s).1.pending = s.pending := by
  induction ks generalizing s with
  | nil => rfl
  | cons k ks ih => simp only [readRegs]; rw [ih]; simp

@[simp] theorem readRegs_mail (ks : List Nat) (s : State) : (readRegs ks s).1.mail = s.mail := by
  induction ks generalizing s with
  | nil => rfl
  | cons k ks ih => simp only [readRegs]; rw [ih]; simp

@[simp] theorem readRegs_dram (ks : List Nat) (s : State) : (readRegs ks s).1.dram = s.dram := by
  induction ks generalizing s with
  | nil => rfl
  | cons k ks ih => simp only [readRegs]; rw [ih]; simp

@[simp] theorem readRegs_job (ks : List Nat) (s : State) : (readRegs ks s).1.job = s.job := by
  induction ks generalizing s with
  | nil => rfl
  | cons k ks ih => simp only [readRegs]; rw [ih]; simp

@[simp] theorem readRegs_page (ks : List Nat) (s : State) : (readRegs ks s).1.page = s.page := by
  induction ks generalizing s with
  | nil => rfl
  | cons k ks ih => simp only [readRegs]; rw [ih]; simp

@[simp] theorem readRegs_flow (ks : List Nat) (s : State) : (readRegs ks s).1.flow = s.flow := by
  induction ks generalizing s with
  | nil => rfl
  | cons k ks ih => simp only [readRegs]; rw [ih]; simp

@[simp] theorem readRegs_prog (ks : List Nat) (s : State) : (readRegs ks s).1.prog = s.prog := by
  induction ks generalizing s with
  | nil => rfl
  | cons k ks ih => simp only [readRegs]; rw [ih]; simp

@[simp] theorem readRegs_sec (ks : List Nat) (s : State) : (readRegs ks s).1.sec = s.sec := by
  induction ks generalizing s with
  | nil => rfl
  | cons k ks ih => simp only [readRegs]; rw [ih]; simp

@[simp] theorem readRegs_tim (ks : List Nat) (s : State) : (readRegs ks s).1.tim = s.tim := by
  induction ks generalizing s with
  | nil => rfl
  | cons k ks ih => simp only [readRegs]; rw [ih]; simp

@[simp] theorem readRegs_ev (ks : List Nat) (s : State) : (readRegs ks s).1.ev = s.ev := by
  induction ks generalizing s with
  | nil => rfl
  | cons k ks ih => simp only [readRegs]; rw [ih]; simp


set_option maxHeartbeats 60000 in
@[simp] theorem storeRw_frame (k : Nat) (v : Word) (s : State) :
    (storeRw k v s).pending = s.pending ∧ (storeRw k v s).mail = s.mail ∧ (storeRw k v s).dram = s.dram ∧ (storeRw k v s).job = s.job ∧ (storeRw k v s).page = s.page ∧ (storeRw k v s).flow = s.flow ∧ (storeRw k v s).prog = s.prog ∧ (storeRw k v s).sec = s.sec ∧ (storeRw k v s).tim = s.tim ∧ (storeRw k v s).ev = s.ev := by
  unfold storeRw; simp

set_option maxHeartbeats 60000 in
@[simp] theorem motionVote_frame (s : State) :
    (motionVote s).pending = s.pending ∧ (motionVote s).mail = s.mail ∧ (motionVote s).dram = s.dram ∧ (motionVote s).job = s.job ∧ (motionVote s).page = s.page ∧ (motionVote s).flow = s.flow ∧ (motionVote s).prog = s.prog ∧ (motionVote s).sec = s.sec := by
  unfold motionVote; simp

set_option maxHeartbeats 60000 in
@[simp] theorem masterChanged_frame (s : State) :
    (masterChanged s).pending = s.pending ∧ (masterChanged s).dram = s.dram ∧ (masterChanged s).job = s.job ∧ (masterChanged s).page = s.page ∧ (masterChanged s).prog = s.prog ∧ (masterChanged s).sec = s.sec ∧ (masterChanged s).tim = s.tim := by
  unfold masterChanged; simp

set_option maxHeartbeats 60000 in
@[simp] theorem afterStore_frame (k : Nat) (s : State) :
    (afterStore k s).pending = s.pending ∧ (afterStore k s).dram = s.dram ∧ (afterStore k s).job = s.job ∧ (afterStore k s).page = s.page ∧ (afterStore k s).prog = s.prog ∧ (afterStore k s).sec = s.sec := by
  unfold afterStore; simp

set_option maxHeartbeats 60000 in
@[simp] theorem chkWrite_frame (u off : Nat) (byHost : Bool) (v : Word) (s : State) :
    (chkWrite u off byHost v s).pending = s.pending ∧ (chkWrite u off byHost v s).mail = s.mail ∧ (chkWrite u off byHost v s).dram = s.dram ∧ (chkWrite u off byHost v s).job = s.job ∧ (chkWrite u off byHost v s).page = s.page ∧ (chkWrite u off byHost v s).flow = s.flow ∧ (chkWrite u off byHost v s).prog = s.prog ∧ (chkWrite u off byHost v s).sec = s.sec ∧ (chkWrite u off byHost v s).tim = s.tim ∧ (chkWrite u off byHost v s).ev = s.ev := by
  unfold chkWrite; (repeat' split) <;> simp

set_option maxHeartbeats 60000 in
@[simp] theorem motionWrite_frame (k : Nat) (host : Bool) (v : Word) (s : State) :
    (motionWrite k host v s).pending = s.pending ∧ (motionWrite k host v s).dram = s.dram ∧ (motionWrite k host v s).job = s.job ∧ (motionWrite k host v s).page = s.page ∧ (motionWrite k host v s).prog = s.prog ∧ (motionWrite k host v s).sec = s.sec := by
  unfold motionWrite; simp

set_option maxHeartbeats 60000 in
@[simp] theorem dmaWrite_frame (k : Nat) (v : Word) (s : State) :
    (dmaWrite k v s).pending = s.pending := by
  unfold dmaWrite; (repeat' split) <;> simp

set_option maxHeartbeats 60000 in
@[simp] theorem diagAck_frame (v : Word) (s : State) :
    (diagAck v s).pending = s.pending ∧ (diagAck v s).mail = s.mail ∧ (diagAck v s).dram = s.dram ∧ (diagAck v s).job = s.job ∧ (diagAck v s).page = s.page ∧ (diagAck v s).flow = s.flow ∧ (diagAck v s).prog = s.prog ∧ (diagAck v s).sec = s.sec ∧ (diagAck v s).tim = s.tim ∧ (diagAck v s).ev = s.ev := by
  unfold diagAck; (try dsimp only); (repeat' split) <;> simp

set_option maxHeartbeats 60000 in
@[simp] theorem xovrClear_frame (v : Word) (s : State) :
    (xovrClear v s).pending = s.pending ∧ (xovrClear v s).mail = s.mail ∧ (xovrClear v s).dram = s.dram ∧ (xovrClear v s).job = s.job ∧ (xovrClear v s).page = s.page ∧ (xovrClear v s).flow = s.flow ∧ (xovrClear v s).prog = s.prog ∧ (xovrClear v s).sec = s.sec ∧ (xovrClear v s).tim = s.tim ∧ (xovrClear v s).ev = s.ev := by
  unfold xovrClear; simp

set_option maxHeartbeats 60000 in
@[simp] theorem writeReg_frame (w : Writer) (k : Nat) (v : Word) (s : State) :
    (writeReg w k v s).pending = s.pending := by
  unfold writeReg; (try dsimp only); (repeat' split) <;> simp

set_option maxHeartbeats 60000 in
@[simp] theorem writeRegs_frame (ws : List RegWrite) (s : State) :
    (writeRegs ws s).pending = s.pending := by
  unfold writeRegs; simp

set_option maxHeartbeats 60000 in
@[simp] theorem blockDo_frame (i : Instr) (s : State) :
    (blockDo i s).pending = s.pending := by
  unfold blockDo; (repeat' split) <;> simp

set_option maxHeartbeats 60000 in
@[simp] theorem blockAccess_frame (ref : RegRef) (i : Instr) (s : State) :
    (blockAccess ref i s).pending = s.pending := by
  unfold blockAccess; simp

set_option maxHeartbeats 60000 in
@[simp] theorem accessesGo_frame (d : Nat) (s : State) :
    (accessesGo d s).pending = s.pending := by
  unfold accessesGo; simp

@[simp] theorem holding_pending (client : Nat) (blocks : List Nat) (g : State → State) (s : State)
    (h : ∀ u t, g u = t → t.pending = u.pending) : (holding client blocks g s).pending = s.pending := by
  unfold holding; dsimp only
  rw [show ∀ ds u, (setVotes ds client false u).pending = u.pending by intro ds u; simp, h _ _ rfl]; simp

@[simp] theorem holding_mail (client : Nat) (blocks : List Nat) (g : State → State) (s : State)
    (h : ∀ u t, g u = t → t.mail = u.mail) : (holding client blocks g s).mail = s.mail := by
  unfold holding; dsimp only
  rw [show ∀ ds u, (setVotes ds client false u).mail = u.mail by intro ds u; simp, h _ _ rfl]; simp

@[simp] theorem holding_dram (client : Nat) (blocks : List Nat) (g : State → State) (s : State)
    (h : ∀ u t, g u = t → t.dram = u.dram) : (holding client blocks g s).dram = s.dram := by
  unfold holding; dsimp only
  rw [show ∀ ds u, (setVotes ds client false u).dram = u.dram by intro ds u; simp, h _ _ rfl]; simp

@[simp] theorem holding_job (client : Nat) (blocks : List Nat) (g : State → State) (s : State)
    (h : ∀ u t, g u = t → t.job = u.job) : (holding client blocks g s).job = s.job := by
  unfold holding; dsimp only
  rw [show ∀ ds u, (setVotes ds client false u).job = u.job by intro ds u; simp, h _ _ rfl]; simp

@[simp] theorem holding_page (client : Nat) (blocks : List Nat) (g : State → State) (s : State)
    (h : ∀ u t, g u = t → t.page = u.page) : (holding client blocks g s).page = s.page := by
  unfold holding; dsimp only
  rw [show ∀ ds u, (setVotes ds client false u).page = u.page by intro ds u; simp, h _ _ rfl]; simp

@[simp] theorem holding_flow (client : Nat) (blocks : List Nat) (g : State → State) (s : State)
    (h : ∀ u t, g u = t → t.flow = u.flow) : (holding client blocks g s).flow = s.flow := by
  unfold holding; dsimp only
  rw [show ∀ ds u, (setVotes ds client false u).flow = u.flow by intro ds u; simp, h _ _ rfl]; simp

@[simp] theorem holding_prog (client : Nat) (blocks : List Nat) (g : State → State) (s : State)
    (h : ∀ u t, g u = t → t.prog = u.prog) : (holding client blocks g s).prog = s.prog := by
  unfold holding; dsimp only
  rw [show ∀ ds u, (setVotes ds client false u).prog = u.prog by intro ds u; simp, h _ _ rfl]; simp

@[simp] theorem holding_sec (client : Nat) (blocks : List Nat) (g : State → State) (s : State)
    (h : ∀ u t, g u = t → t.sec = u.sec) : (holding client blocks g s).sec = s.sec := by
  unfold holding; dsimp only
  rw [show ∀ ds u, (setVotes ds client false u).sec = u.sec by intro ds u; simp, h _ _ rfl]; simp


set_option maxHeartbeats 60000 in
@[simp] theorem cfgWriteCommand_frame (r : Req) (ws : List RegWrite) (s : State) :
    (cfgWriteCommand r ws s).pending = s.pending := by
  unfold cfgWriteCommand; simp

set_option maxHeartbeats 60000 in
@[simp] theorem pokeCommand_frame (r : Req) (ws : List RegWrite) (s : State) :
    (pokeCommand r ws s).pending = s.pending := by
  unfold pokeCommand; simp

set_option maxHeartbeats 60000 in
@[simp] theorem readList_frame (slot : Fin 16) (refs : List RegRef) (s : State) :
    (readList slot refs s).pending = s.pending ∧ (readList slot refs s).dram = s.dram ∧ (readList slot refs s).job = s.job ∧ (readList slot refs s).page = s.page ∧ (readList slot refs s).flow = s.flow ∧ (readList slot refs s).prog = s.prog ∧ (readList slot refs s).sec = s.sec ∧ (readList slot refs s).tim = s.tim ∧ (readList slot refs s).ev = s.ev := by
  unfold readList; simp

set_option maxHeartbeats 60000 in
@[simp] theorem peekCommand_frame (r : Req) (refs : List RegRef) (s : State) :
    (peekCommand r refs s).pending = s.pending ∧ (peekCommand r refs s).dram = s.dram ∧ (peekCommand r refs s).job = s.job ∧ (peekCommand r refs s).page = s.page ∧ (peekCommand r refs s).flow = s.flow ∧ (peekCommand r refs s).prog = s.prog ∧ (peekCommand r refs s).sec = s.sec := by
  unfold peekCommand; simp

set_option maxHeartbeats 60000 in
@[simp] theorem regReadCommand_frame (r : Req) (refs : List RegRef) (s : State) :
    (regReadCommand r refs s).pending = s.pending ∧ (regReadCommand r refs s).dram = s.dram ∧ (regReadCommand r refs s).job = s.job ∧ (regReadCommand r refs s).page = s.page ∧ (regReadCommand r refs s).flow = s.flow ∧ (regReadCommand r refs s).prog = s.prog ∧ (regReadCommand r refs s).sec = s.sec := by
  unfold regReadCommand; simp

set_option maxHeartbeats 60000 in
@[simp] theorem memStatusCommand_frame (r : Req) (refs : List RegRef) (s : State) :
    (memStatusCommand r refs s).pending = s.pending ∧ (memStatusCommand r refs s).dram = s.dram ∧ (memStatusCommand r refs s).job = s.job ∧ (memStatusCommand r refs s).page = s.page ∧ (memStatusCommand r refs s).flow = s.flow ∧ (memStatusCommand r refs s).prog = s.prog ∧ (memStatusCommand r refs s).sec = s.sec ∧ (memStatusCommand r refs s).tim = s.tim ∧ (memStatusCommand r refs s).ev = s.ev := by
  unfold memStatusCommand; simp

set_option maxHeartbeats 60000 in
@[simp] theorem castVotes_frame (s : State) :
    (castVotes s).pending = s.pending ∧ (castVotes s).mail = s.mail ∧ (castVotes s).dram = s.dram ∧ (castVotes s).job = s.job ∧ (castVotes s).page = s.page ∧ (castVotes s).flow = s.flow ∧ (castVotes s).prog = s.prog ∧ (castVotes s).sec = s.sec := by
  unfold castVotes; simp

set_option maxHeartbeats 60000 in
@[simp] theorem runImage_frame (b fallback : Bool) (s : State) :
    (runImage b fallback s).pending = s.pending ∧ (runImage b fallback s).mail = s.mail ∧ (runImage b fallback s).dram = s.dram ∧ (runImage b fallback s).job = s.job ∧ (runImage b fallback s).page = s.page ∧ (runImage b fallback s).flow = s.flow ∧ (runImage b fallback s).prog = s.prog ∧ (runImage b fallback s).tim = s.tim := by
  unfold runImage; simp

set_option maxHeartbeats 60000 in
@[simp] theorem bootFails_frame (step : Nat) (s : State) :
    (bootFails step s).pending = s.pending ∧ (bootFails step s).mail = s.mail ∧ (bootFails step s).dram = s.dram ∧ (bootFails step s).job = s.job ∧ (bootFails step s).page = s.page ∧ (bootFails step s).prog = s.prog ∧ (bootFails step s).sec = s.sec ∧ (bootFails step s).tim = s.tim ∧ (bootFails step s).ev = s.ev := by
  unfold bootFails; simp

set_option maxHeartbeats 60000 in
@[simp] theorem loadImage_frame (s : State) :
    (loadImage s).pending = s.pending ∧ (loadImage s).mail = s.mail ∧ (loadImage s).dram = s.dram ∧ (loadImage s).job = s.job ∧ (loadImage s).page = s.page ∧ (loadImage s).flow = s.flow ∧ (loadImage s).prog = s.prog ∧ (loadImage s).sec = s.sec ∧ (loadImage s).tim = s.tim := by
  unfold loadImage; simp

set_option maxHeartbeats 60000 in
@[simp] theorem selectImage_frame (s : State) :
    (selectImage s).pending = s.pending ∧ (selectImage s).mail = s.mail ∧ (selectImage s).dram = s.dram ∧ (selectImage s).job = s.job ∧ (selectImage s).page = s.page ∧ (selectImage s).prog = s.prog ∧ (selectImage s).tim = s.tim := by
  unfold selectImage; simp

set_option maxHeartbeats 60000 in
@[simp] theorem askRestart_frame (s : State) :
    (askRestart s).pending = s.pending ∧ (askRestart s).dram = s.dram ∧ (askRestart s).job = s.job ∧ (askRestart s).page = s.page ∧ (askRestart s).sec = s.sec := by
  unfold askRestart; simp

set_option maxHeartbeats 60000 in
@[simp] theorem proctorRestartCommand_frame (r : Req) (s : State) :
    (proctorRestartCommand r s).pending = s.pending ∧ (proctorRestartCommand r s).dram = s.dram ∧ (proctorRestartCommand r s).job = s.job ∧ (proctorRestartCommand r s).page = s.page ∧ (proctorRestartCommand r s).sec = s.sec := by
  unfold proctorRestartCommand; simp

set_option maxHeartbeats 60000 in
@[simp] theorem watchdogExpiry_frame (s : State) :
    (watchdogExpiry s).pending = s.pending ∧ (watchdogExpiry s).dram = s.dram ∧ (watchdogExpiry s).job = s.job ∧ (watchdogExpiry s).page = s.page ∧ (watchdogExpiry s).sec = s.sec := by
  unfold watchdogExpiry; simp

set_option maxHeartbeats 60000 in
@[simp] theorem clearOverruns_frame (s : State) :
    (clearOverruns s).pending = s.pending ∧ (clearOverruns s).mail = s.mail ∧ (clearOverruns s).dram = s.dram ∧ (clearOverruns s).job = s.job ∧ (clearOverruns s).page = s.page ∧ (clearOverruns s).flow = s.flow ∧ (clearOverruns s).prog = s.prog ∧ (clearOverruns s).sec = s.sec ∧ (clearOverruns s).tim = s.tim ∧ (clearOverruns s).ev = s.ev := by
  unfold clearOverruns; simp

set_option maxHeartbeats 60000 in
@[simp] theorem deliverPulses_frame (s : State) :
    (deliverPulses s).pending = s.pending ∧ (deliverPulses s).mail = s.mail ∧ (deliverPulses s).dram = s.dram ∧ (deliverPulses s).job = s.job ∧ (deliverPulses s).page = s.page ∧ (deliverPulses s).flow = s.flow ∧ (deliverPulses s).prog = s.prog ∧ (deliverPulses s).sec = s.sec ∧ (deliverPulses s).tim = s.tim := by
  unfold deliverPulses; simp

set_option maxHeartbeats 60000 in
@[simp] theorem takeSpread_frame (s : State) :
    (takeSpread s).pending = s.pending ∧ (takeSpread s).mail = s.mail ∧ (takeSpread s).dram = s.dram ∧ (takeSpread s).job = s.job ∧ (takeSpread s).page = s.page ∧ (takeSpread s).flow = s.flow ∧ (takeSpread s).prog = s.prog ∧ (takeSpread s).sec = s.sec ∧ (takeSpread s).tim = s.tim ∧ (takeSpread s).ev = s.ev := by
  unfold takeSpread; simp

set_option maxHeartbeats 60000 in
@[simp] theorem modeAfter_frame (after : Mode) (s : State) :
    (modeAfter after s).pending = s.pending ∧ (modeAfter after s).mail = s.mail ∧ (modeAfter after s).dram = s.dram ∧ (modeAfter after s).job = s.job ∧ (modeAfter after s).page = s.page ∧ (modeAfter after s).prog = s.prog ∧ (modeAfter after s).sec = s.sec ∧ (modeAfter after s).tim = s.tim ∧ (modeAfter after s).ev = s.ev := by
  unfold modeAfter; (repeat' split) <;> simp

set_option maxHeartbeats 60000 in
@[simp] theorem abortCut_frame (s : State) :
    (abortCut s).pending = s.pending ∧ (abortCut s).dram = s.dram ∧ (abortCut s).job = s.job ∧ (abortCut s).page = s.page ∧ (abortCut s).flow = s.flow ∧ (abortCut s).prog = s.prog ∧ (abortCut s).sec = s.sec ∧ (abortCut s).tim = s.tim ∧ (abortCut s).ev = s.ev := by
  unfold abortCut; simp

set_option maxHeartbeats 60000 in
@[simp] theorem restartEnd_frame (s : State) :
    (restartEnd s).pending = s.pending ∧ (restartEnd s).dram = s.dram ∧ (restartEnd s).job = s.job ∧ (restartEnd s).page = s.page ∧ (restartEnd s).prog = s.prog := by
  unfold restartEnd; (repeat' split) <;> simp

@[simp] theorem withBuffer_pending (off len : Nat) (g : List Byte → State → State) (s : State)
    (h : ∀ b u t, g b u = t → t.pending = u.pending) : (withBuffer off len g s).pending = s.pending := by
  unfold withBuffer
  have e := (show (memRead Port.proctor (bufferBase + off) len s).1.pending = s.pending by simp)
  revert e
  rcases memRead Port.proctor (bufferBase + off) len s with ⟨t, _ | bs⟩ <;> intro e
  · have e2 := (show (memRead Port.proctor (bufferBase + off) len t).1.pending = t.pending by simp)
    revert e2
    dsimp only
    rcases memRead Port.proctor (bufferBase + off) len t with ⟨u, _ | bs⟩ <;> intro e2
    · simpa using e2.trans e
    · exact (h _ _ _ rfl).trans (e2.trans e)
  · exact (h _ _ _ rfl).trans e

@[simp] theorem withBuffer_dram (off len : Nat) (g : List Byte → State → State) (s : State)
    (h : ∀ b u t, g b u = t → t.dram = u.dram) : (withBuffer off len g s).dram = s.dram := by
  unfold withBuffer
  have e := (show (memRead Port.proctor (bufferBase + off) len s).1.dram = s.dram by simp)
  revert e
  rcases memRead Port.proctor (bufferBase + off) len s with ⟨t, _ | bs⟩ <;> intro e
  · have e2 := (show (memRead Port.proctor (bufferBase + off) len t).1.dram = t.dram by simp)
    revert e2
    dsimp only
    rcases memRead Port.proctor (bufferBase + off) len t with ⟨u, _ | bs⟩ <;> intro e2
    · simpa using e2.trans e
    · exact (h _ _ _ rfl).trans (e2.trans e)
  · exact (h _ _ _ rfl).trans e

@[simp] theorem withBuffer_job (off len : Nat) (g : List Byte → State → State) (s : State)
    (h : ∀ b u t, g b u = t → t.job = u.job) : (withBuffer off len g s).job = s.job := by
  unfold withBuffer
  have e := (show (memRead Port.proctor (bufferBase + off) len s).1.job = s.job by simp)
  revert e
  rcases memRead Port.proctor (bufferBase + off) len s with ⟨t, _ | bs⟩ <;> intro e
  · have e2 := (show (memRead Port.proctor (bufferBase + off) len t).1.job = t.job by simp)
    revert e2
    dsimp only
    rcases memRead Port.proctor (bufferBase + off) len t with ⟨u, _ | bs⟩ <;> intro e2
    · simpa using e2.trans e
    · exact (h _ _ _ rfl).trans (e2.trans e)
  · exact (h _ _ _ rfl).trans e

@[simp] theorem withBuffer_page (off len : Nat) (g : List Byte → State → State) (s : State)
    (h : ∀ b u t, g b u = t → t.page = u.page) : (withBuffer off len g s).page = s.page := by
  unfold withBuffer
  have e := (show (memRead Port.proctor (bufferBase + off) len s).1.page = s.page by simp)
  revert e
  rcases memRead Port.proctor (bufferBase + off) len s with ⟨t, _ | bs⟩ <;> intro e
  · have e2 := (show (memRead Port.proctor (bufferBase + off) len t).1.page = t.page by simp)
    revert e2
    dsimp only
    rcases memRead Port.proctor (bufferBase + off) len t with ⟨u, _ | bs⟩ <;> intro e2
    · simpa using e2.trans e
    · exact (h _ _ _ rfl).trans (e2.trans e)
  · exact (h _ _ _ rfl).trans e

@[simp] theorem withBuffer_sec (off len : Nat) (g : List Byte → State → State) (s : State)
    (h : ∀ b u t, g b u = t → t.sec = u.sec) : (withBuffer off len g s).sec = s.sec := by
  unfold withBuffer
  have e := (show (memRead Port.proctor (bufferBase + off) len s).1.sec = s.sec by simp)
  revert e
  rcases memRead Port.proctor (bufferBase + off) len s with ⟨t, _ | bs⟩ <;> intro e
  · have e2 := (show (memRead Port.proctor (bufferBase + off) len t).1.sec = t.sec by simp)
    revert e2
    dsimp only
    rcases memRead Port.proctor (bufferBase + off) len t with ⟨u, _ | bs⟩ <;> intro e2
    · simpa using e2.trans e
    · exact (h _ _ _ rfl).trans (e2.trans e)
  · exact (h _ _ _ rfl).trans e


set_option maxHeartbeats 60000 in
@[simp] theorem loadJob_frame (j : Job) (key : JobKeys) (s : State) :
    (loadJob j key s).pending = s.pending ∧ (loadJob j key s).dram = s.dram ∧ (loadJob j key s).page = s.page := by
  unfold loadJob; simp

set_option maxHeartbeats 60000 in
@[simp] theorem jobLoadWith_frame (slot : Fin 16) (len : Nat) (h : List Byte) (s : State) :
    (jobLoadWith slot len h s).pending = s.pending ∧ (jobLoadWith slot len h s).dram = s.dram ∧ (jobLoadWith slot len h s).page = s.page := by
  unfold jobLoadWith; (repeat' split) <;> simp

set_option maxHeartbeats 60000 in
@[simp] theorem jobLoadCommand_frame (r : Req) (off len : Nat) (s : State) :
    (jobLoadCommand r off len s).pending = s.pending ∧ (jobLoadCommand r off len s).dram = s.dram ∧ (jobLoadCommand r off len s).page = s.page := by
  unfold jobLoadCommand; simp

set_option maxHeartbeats 60000 in
@[simp] theorem windowAfterSupplement_frame (f : Nat → Nat) (s : State) :
    (windowAfterSupplement f s).pending = s.pending ∧ (windowAfterSupplement f s).mail = s.mail ∧ (windowAfterSupplement f s).dram = s.dram ∧ (windowAfterSupplement f s).job = s.job ∧ (windowAfterSupplement f s).page = s.page ∧ (windowAfterSupplement f s).flow = s.flow ∧ (windowAfterSupplement f s).prog = s.prog ∧ (windowAfterSupplement f s).sec = s.sec ∧ (windowAfterSupplement f s).tim = s.tim ∧ (windowAfterSupplement f s).ev = s.ev := by
  unfold windowAfterSupplement; (repeat' split) <;> simp

set_option maxHeartbeats 60000 in
@[simp] theorem supplementJob_frame (j : Job) (new : List StripeEntry) (nblock : Nat) (s : State) :
    (supplementJob j new nblock s).pending = s.pending ∧ (supplementJob j new nblock s).mail = s.mail ∧ (supplementJob j new nblock s).dram = s.dram ∧ (supplementJob j new nblock s).page = s.page ∧ (supplementJob j new nblock s).prog = s.prog ∧ (supplementJob j new nblock s).sec = s.sec ∧ (supplementJob j new nblock s).tim = s.tim := by
  unfold supplementJob; simp

set_option maxHeartbeats 60000 in
@[simp] theorem supplementWith_frame (slot : Fin 16) (len : Nat) (h : List Byte) (s : State) :
    (supplementWith slot len h s).pending = s.pending ∧ (supplementWith slot len h s).dram = s.dram ∧ (supplementWith slot len h s).page = s.page ∧ (supplementWith slot len h s).prog = s.prog ∧ (supplementWith slot len h s).sec = s.sec ∧ (supplementWith slot len h s).tim = s.tim := by
  unfold supplementWith; (repeat' split) <;> simp

set_option maxHeartbeats 60000 in
@[simp] theorem jobSupplementCommand_frame (r : Req) (off len : Nat) (s : State) :
    (jobSupplementCommand r off len s).pending = s.pending ∧ (jobSupplementCommand r off len s).dram = s.dram ∧ (jobSupplementCommand r off len s).page = s.page ∧ (jobSupplementCommand r off len s).sec = s.sec := by
  unfold jobSupplementCommand; simp

set_option maxHeartbeats 60000 in
@[simp] theorem jobStartCommand_frame (r : Req) (lead : Nat) (s : State) :
    (jobStartCommand r lead s).pending = s.pending ∧ (jobStartCommand r lead s).dram = s.dram ∧ (jobStartCommand r lead s).job = s.job ∧ (jobStartCommand r lead s).page = s.page ∧ (jobStartCommand r lead s).sec = s.sec ∧ (jobStartCommand r lead s).tim = s.tim ∧ (jobStartCommand r lead s).ev = s.ev := by
  unfold jobStartCommand; simp

set_option maxHeartbeats 60000 in
@[simp] theorem holdRequestCommand_frame (r : Req) (s : State) :
    (holdRequestCommand r s).pending = s.pending ∧ (holdRequestCommand r s).dram = s.dram ∧ (holdRequestCommand r s).job = s.job ∧ (holdRequestCommand r s).page = s.page ∧ (holdRequestCommand r s).prog = s.prog ∧ (holdRequestCommand r s).sec = s.sec ∧ (holdRequestCommand r s).tim = s.tim := by
  unfold holdRequestCommand; simp

set_option maxHeartbeats 60000 in
@[simp] theorem extendRecess_frame (ms : Nat) (s : State) :
    (extendRecess ms s).pending = s.pending ∧ (extendRecess ms s).mail = s.mail ∧ (extendRecess ms s).dram = s.dram ∧ (extendRecess ms s).job = s.job ∧ (extendRecess ms s).page = s.page ∧ (extendRecess ms s).flow = s.flow ∧ (extendRecess ms s).sec = s.sec ∧ (extendRecess ms s).tim = s.tim ∧ (extendRecess ms s).ev = s.ev := by
  unfold extendRecess; simp

set_option maxHeartbeats 60000 in
@[simp] theorem recessExtendCommand_frame (r : Req) (ms : Nat) (s : State) :
    (recessExtendCommand r ms s).pending = s.pending ∧ (recessExtendCommand r ms s).dram = s.dram ∧ (recessExtendCommand r ms s).job = s.job ∧ (recessExtendCommand r ms s).page = s.page ∧ (recessExtendCommand r ms s).flow = s.flow ∧ (recessExtendCommand r ms s).sec = s.sec ∧ (recessExtendCommand r ms s).tim = s.tim ∧ (recessExtendCommand r ms s).ev = s.ev := by
  unfold recessExtendCommand; simp

set_option maxHeartbeats 60000 in
@[simp] theorem removeStripes_frame (gone : List Nat) (s : State) :
    (removeStripes gone s).pending = s.pending ∧ (removeStripes gone s).dram = s.dram ∧ (removeStripes gone s).page = s.page ∧ (removeStripes gone s).prog = s.prog ∧ (removeStripes gone s).sec = s.sec ∧ (removeStripes gone s).tim = s.tim := by
  unfold removeStripes; (repeat' split) <;> simp

set_option maxHeartbeats 60000 in
@[simp] theorem closeLayer_frame (slot : Fin 16) (waived : Nat) (s : State) :
    (closeLayer slot waived s).pending = s.pending ∧ (closeLayer slot waived s).dram = s.dram ∧ (closeLayer slot waived s).page = s.page ∧ (closeLayer slot waived s).sec = s.sec ∧ (closeLayer slot waived s).tim = s.tim := by
  unfold closeLayer; simp

set_option maxHeartbeats 60000 in
@[simp] theorem layerCloseCommand_frame (r : Req) (layer flags : Nat) (s : State) :
    (layerCloseCommand r layer flags s).pending = s.pending ∧ (layerCloseCommand r layer flags s).dram = s.dram ∧ (layerCloseCommand r layer flags s).page = s.page ∧ (layerCloseCommand r layer flags s).sec = s.sec ∧ (layerCloseCommand r layer flags s).tim = s.tim := by
  unfold layerCloseCommand; (repeat' split) <;> simp

set_option maxHeartbeats 60000 in
@[simp] theorem jobCloseCommand_frame (r : Req) (flags : Nat) (s : State) :
    (jobCloseCommand r flags s).pending = s.pending ∧ (jobCloseCommand r flags s).page = s.page := by
  unfold jobCloseCommand; simp

set_option maxHeartbeats 60000 in
@[simp] theorem abortJob_frame (slot : Option (Fin 16)) (s : State) :
    (abortJob slot s).pending = s.pending ∧ (abortJob slot s).page = s.page := by
  unfold abortJob; simp

set_option maxHeartbeats 60000 in
@[simp] theorem dropTransitions_frame (s : State) :
    (dropTransitions s).pending = s.pending ∧ (dropTransitions s).dram = s.dram ∧ (dropTransitions s).job = s.job ∧ (dropTransitions s).page = s.page ∧ (dropTransitions s).prog = s.prog ∧ (dropTransitions s).sec = s.sec ∧ (dropTransitions s).tim = s.tim ∧ (dropTransitions s).ev = s.ev := by
  unfold dropTransitions; (try dsimp only); (repeat' split) <;> simp

set_option maxHeartbeats 60000 in
@[simp] theorem debugDue_frame (s : State) :
    (debugDue s).pending = s.pending ∧ (debugDue s).page = s.page := by
  unfold debugDue; simp

set_option maxHeartbeats 60000 in
@[simp] theorem jobAbortCommand_frame (r : Req) (s : State) :
    (jobAbortCommand r s).pending = s.pending ∧ (jobAbortCommand r s).page = s.page := by
  unfold jobAbortCommand; simp

set_option maxHeartbeats 60000 in
@[simp] theorem rejectReadCommand_frame (r : Req) (first : Nat) (s : State) :
    (rejectReadCommand r first s).pending = s.pending ∧ (rejectReadCommand r first s).dram = s.dram ∧ (rejectReadCommand r first s).job = s.job ∧ (rejectReadCommand r first s).page = s.page ∧ (rejectReadCommand r first s).flow = s.flow ∧ (rejectReadCommand r first s).prog = s.prog ∧ (rejectReadCommand r first s).sec = s.sec ∧ (rejectReadCommand r first s).tim = s.tim ∧ (rejectReadCommand r first s).ev = s.ev := by
  unfold rejectReadCommand; simp

set_option maxHeartbeats 60000 in
@[simp] theorem evictNamed_frame (slot : Fin 16) (ids : List Nat) (named : Nat) (s : State) :
    (evictNamed slot ids named s).pending = s.pending ∧ (evictNamed slot ids named s).dram = s.dram ∧ (evictNamed slot ids named s).job = s.job ∧ (evictNamed slot ids named s).page = s.page ∧ (evictNamed slot ids named s).flow = s.flow ∧ (evictNamed slot ids named s).prog = s.prog ∧ (evictNamed slot ids named s).sec = s.sec ∧ (evictNamed slot ids named s).tim = s.tim ∧ (evictNamed slot ids named s).ev = s.ev := by
  unfold evictNamed; simp

set_option maxHeartbeats 60000 in
@[simp] theorem cellEvictCommand_frame (r : Req) (form n : Nat) (ids : List Nat) (first last : Nat) (s : State) :
    (cellEvictCommand r form n ids first last s).pending = s.pending ∧ (cellEvictCommand r form n ids first last s).dram = s.dram ∧ (cellEvictCommand r form n ids first last s).job = s.job ∧ (cellEvictCommand r form n ids first last s).page = s.page ∧ (cellEvictCommand r form n ids first last s).flow = s.flow ∧ (cellEvictCommand r form n ids first last s).prog = s.prog ∧ (cellEvictCommand r form n ids first last s).sec = s.sec ∧ (cellEvictCommand r form n ids first last s).tim = s.tim ∧ (cellEvictCommand r form n ids first last s).ev = s.ev := by
  unfold cellEvictCommand; simp

set_option maxHeartbeats 60000 in
@[simp] theorem completeWords_frame (slot : Fin 16) (ks : List Nat) (s : State) :
    (completeWords slot ks s).pending = s.pending ∧ (completeWords slot ks s).dram = s.dram ∧ (completeWords slot ks s).job = s.job ∧ (completeWords slot ks s).page = s.page ∧ (completeWords slot ks s).flow = s.flow ∧ (completeWords slot ks s).prog = s.prog ∧ (completeWords slot ks s).sec = s.sec ∧ (completeWords slot ks s).tim = s.tim ∧ (completeWords slot ks s).ev = s.ev := by
  unfold completeWords; simp

set_option maxHeartbeats 60000 in
@[simp] theorem cacheStatusCommand_frame (r : Req) (s : State) :
    (cacheStatusCommand r s).pending = s.pending ∧ (cacheStatusCommand r s).dram = s.dram ∧ (cacheStatusCommand r s).job = s.job ∧ (cacheStatusCommand r s).page = s.page ∧ (cacheStatusCommand r s).flow = s.flow ∧ (cacheStatusCommand r s).prog = s.prog ∧ (cacheStatusCommand r s).sec = s.sec ∧ (cacheStatusCommand r s).tim = s.tim ∧ (cacheStatusCommand r s).ev = s.ev := by
  unfold cacheStatusCommand; simp

set_option maxHeartbeats 60000 in
@[simp] theorem absFetch_frame (i : Nat) (s : State) :
    (absFetch i s).1.pending = s.pending ∧ (absFetch i s).1.mail = s.mail ∧ (absFetch i s).1.dram = s.dram ∧ (absFetch i s).1.job = s.job ∧ (absFetch i s).1.page = s.page ∧ (absFetch i s).1.flow = s.flow ∧ (absFetch i s).1.prog = s.prog ∧ (absFetch i s).1.sec = s.sec ∧ (absFetch i s).1.tim = s.tim := by
  unfold absFetch; (try dsimp only); (repeat' split) <;> simp

@[simp] theorem absEntries_pending (first n : Nat) (s : State) : (absEntries first n s).1.pending = s.pending := by
  induction n generalizing first s with
  | zero => rfl
  | succ n ih => simp only [absEntries]; rw [ih]; simp

@[simp] theorem absEntries_mail (first n : Nat) (s : State) : (absEntries first n s).1.mail = s.mail := by
  induction n generalizing first s with
  | zero => rfl
  | succ n ih => simp only [absEntries]; rw [ih]; simp

@[simp] theorem absEntries_dram (first n : Nat) (s : State) : (absEntries first n s).1.dram = s.dram := by
  induction n generalizing first s with
  | zero => rfl
  | succ n ih => simp only [absEntries]; rw [ih]; simp

@[simp] theorem absEntries_job (first n : Nat) (s : State) : (absEntries first n s).1.job = s.job := by
  induction n generalizing first s with
  | zero => rfl
  | succ n ih => simp only [absEntries]; rw [ih]; simp

@[simp] theorem absEntries_page (first n : Nat) (s : State) : (absEntries first n s).1.page = s.page := by
  induction n generalizing first s with
  | zero => rfl
  | succ n ih => simp only [absEntries]; rw [ih]; simp

@[simp] theorem absEntries_flow (first n : Nat) (s : State) : (absEntries first n s).1.flow = s.flow := by
  induction n generalizing first s with
  | zero => rfl
  | succ n ih => simp only [absEntries]; rw [ih]; simp

@[simp] theorem absEntries_prog (first n : Nat) (s : State) : (absEntries first n s).1.prog = s.prog := by
  induction n generalizing first s with
  | zero => rfl
  | succ n ih => simp only [absEntries]; rw [ih]; simp

@[simp] theorem absEntries_sec (first n : Nat) (s : State) : (absEntries first n s).1.sec = s.sec := by
  induction n generalizing first s with
  | zero => rfl
  | succ n ih => simp only [absEntries]; rw [ih]; simp

@[simp] theorem absEntries_tim (first n : Nat) (s : State) : (absEntries first n s).1.tim = s.tim := by
  induction n generalizing first s with
  | zero => rfl
  | succ n ih => simp only [absEntries]; rw [ih]; simp


set_option maxHeartbeats 60000 in
@[simp] theorem absReadCommand_frame (r : Req) (first cnt : Nat) (s : State) :
    (absReadCommand r first cnt s).pending = s.pending ∧ (absReadCommand r first cnt s).dram = s.dram ∧ (absReadCommand r first cnt s).job = s.job ∧ (absReadCommand r first cnt s).page = s.page ∧ (absReadCommand r first cnt s).flow = s.flow ∧ (absReadCommand r first cnt s).prog = s.prog ∧ (absReadCommand r first cnt s).sec = s.sec ∧ (absReadCommand r first cnt s).tim = s.tim := by
  unfold absReadCommand; simp

set_option maxHeartbeats 60000 in
@[simp] theorem absAckCommand_frame (r : Req) (newTail : Nat) (s : State) :
    (absAckCommand r newTail s).pending = s.pending ∧ (absAckCommand r newTail s).dram = s.dram ∧ (absAckCommand r newTail s).job = s.job ∧ (absAckCommand r newTail s).page = s.page ∧ (absAckCommand r newTail s).prog = s.prog ∧ (absAckCommand r newTail s).sec = s.sec ∧ (absAckCommand r newTail s).tim = s.tim := by
  unfold absAckCommand; simp

set_option maxHeartbeats 60000 in
@[simp] theorem absStatusCommand_frame (r : Req) (s : State) :
    (absStatusCommand r s).pending = s.pending ∧ (absStatusCommand r s).dram = s.dram ∧ (absStatusCommand r s).job = s.job ∧ (absStatusCommand r s).page = s.page ∧ (absStatusCommand r s).flow = s.flow ∧ (absStatusCommand r s).prog = s.prog ∧ (absStatusCommand r s).sec = s.sec ∧ (absStatusCommand r s).tim = s.tim ∧ (absStatusCommand r s).ev = s.ev := by
  unfold absStatusCommand; simp

end Sys2Proof.Machine
end

