-- ==== Sys2Proof/Laws/Canon4.lean ====
section
/-!
SUPPORT. The canonical form is kept by the operations of these files, one lemma per operation, for the simplifier.
-/

namespace Sys2Proof.Machine

set_option Elab.async false

set_option maxHeartbeats 80000 in
@[simp] theorem startJob_canon (slot : Option (Fin 16)) (lead : Nat) (s : State) (hc : s.canonical) :
    (startJob slot lead s).canonical := by
  unfold startJob; simp (maxDischargeDepth := 60) [hc]

set_option maxHeartbeats 80000 in
@[simp] theorem putTrig_canon (n : Nat) (t : Option Trigger) (s : State) (hc : s.canonical) :
    (putTrig n t s).canonical := by
  unfold putTrig; simp (maxDischargeDepth := 60) [hc]

set_option maxHeartbeats 80000 in
@[simp] theorem missTrig_canon (n : Nat) (s : State) (hc : s.canonical) :
    (missTrig n s).canonical := by
  unfold missTrig; simp (maxDischargeDepth := 60) [hc]

set_option maxHeartbeats 80000 in
@[simp] theorem endPulse_canon (n : Nat) (s : State) (hc : s.canonical) :
    (endPulse n s).canonical := by
  unfold endPulse; (try dsimp only); (repeat' split) <;> simp_all (maxDischargeDepth := 60)

set_option maxHeartbeats 80000 in
@[simp] theorem endConversion_canon (n : Nat) (s : State) (hc : s.canonical) :
    (endConversion n s).canonical := by
  unfold endConversion; (repeat' split) <;> simp (maxDischargeDepth := 60) [hc]

set_option maxHeartbeats 80000 in
@[simp] theorem trigAction_canon (n : Nat) (t : Trigger) (s : State) (hc : s.canonical) :
    (trigAction n t s).canonical := by
  unfold trigAction; (try dsimp only); (repeat' split) <;> simp_all (maxDischargeDepth := 60)

set_option maxHeartbeats 80000 in
@[simp] theorem oneShotOver_canon (n : Nat) (s : State) (hc : s.canonical) :
    (oneShotOver n s).canonical := by
  unfold oneShotOver; (try dsimp only); (repeat' split) <;> simp_all (maxDischargeDepth := 60)

set_option maxHeartbeats 80000 in
@[simp] theorem fireNow_canon (n : Nat) (t : Trigger) (next : Nat) (s : State) (hc : s.canonical) :
    (fireNow n t next s).canonical := by
  unfold fireNow; simp (maxDischargeDepth := 60) [hc]

set_option maxHeartbeats 80000 in
@[simp] theorem crossTrigger_canon (n : Nat) (t : Trigger) (s : State) (hc : s.canonical) :
    (crossTrigger n t s).canonical := by
  unfold crossTrigger; simp (maxDischargeDepth := 60) [hc]

set_option maxHeartbeats 80000 in
@[simp] theorem dropPend_canon (n : Nat) (s : State) (hc : s.canonical) :
    (dropPend n s).canonical := by
  unfold dropPend; simp (maxDischargeDepth := 60) [hc]

set_option maxHeartbeats 80000 in
@[simp] theorem deliverTrigger_canon (s : State) (n : Nat) (hc : s.canonical) :
    (deliverTrigger s n).canonical := by
  unfold deliverTrigger; (try dsimp only); (repeat' split) <;> simp_all (maxDischargeDepth := 60)

set_option maxHeartbeats 80000 in
@[simp] theorem deliverTriggers_canon (s : State) (hc : s.canonical) :
    (deliverTriggers s).canonical := by
  unfold deliverTriggers; (try dsimp only); (repeat' split) <;> simp_all (maxDischargeDepth := 60)

set_option maxHeartbeats 80000 in
@[simp] theorem triggerFire_canon (n : Nat) (s : State) (hc : s.canonical) :
    (triggerFire n s).canonical := by
  unfold triggerFire; (repeat' split) <;> simp (maxDischargeDepth := 60) [hc]

set_option maxHeartbeats 80000 in
@[simp] theorem lateTrigger_canon (s : State) (n : Nat) (hc : s.canonical) :
    (lateTrigger s n).canonical := by
  unfold lateTrigger; (repeat' split) <;> simp (maxDischargeDepth := 60) [hc]

set_option maxHeartbeats 80000 in
@[simp] theorem lateTriggers_canon (s : State) (hc : s.canonical) :
    (lateTriggers s).canonical := by
  unfold lateTriggers; (try dsimp only); (repeat' split) <;> simp_all (maxDischargeDepth := 60)

set_option maxHeartbeats 80000 in
@[simp] theorem stepTime_canon (e : Int) (s : State) (hc : s.canonical) :
    (stepTime e s).canonical := by
  unfold stepTime; simp (maxDischargeDepth := 60) [hc]

set_option maxHeartbeats 80000 in
@[simp] theorem conversionEnd_canon (n code : Nat) (s : State) (hc : s.canonical) :
    (conversionEnd n code s).canonical := by
  unfold conversionEnd; (repeat' split) <;> simp (maxDischargeDepth := 60) [hc]

set_option maxHeartbeats 80000 in
@[simp] theorem pulseEnd_canon (n : Nat) (s : State) (hc : s.canonical) :
    (pulseEnd n s).canonical := by
  unfold pulseEnd; simp (maxDischargeDepth := 60) [hc]

@[simp] theorem replaceTrig_canon (n : Nat) (t : Option Trigger) (s : State) (hc : s.canonical) : (replaceTrig n t s).canonical := by
  unfold replaceTrig; dsimp only
  generalize (List.eraseDups (((trigOf s n).toList ++ t.toList).map (·.gpio)) : List Nat) = l
  induction l generalizing s with
  | nil => simp (maxDischargeDepth := 60) [hc]
  | cons a l ih => exact withPin_canon a _ s hc fun u _ e hu => e ▸ ih u hu


set_option maxHeartbeats 80000 in
@[simp] theorem setTrigger_canon (n action gpio start period width : Nat) (s : State) (hc : s.canonical) :
    (setTrigger n action gpio start period width s).canonical := by
  unfold setTrigger; simp (maxDischargeDepth := 60) [hc]

set_option maxHeartbeats 80000 in
@[simp] theorem triggerSetCommand_canon (r : Req) (index action gpio startS startNs period width : Nat) (s : State) (hc : s.canonical) :
    (triggerSetCommand r index action gpio startS startNs period width s).canonical := by
  unfold triggerSetCommand; (try dsimp only); (repeat' split) <;> simp_all (maxDischargeDepth := 60)

set_option maxHeartbeats 80000 in
@[simp] theorem timeSetCommand_canon (r : Req) (seconds ns : Nat) (s : State) (hc : s.canonical) :
    (timeSetCommand r seconds ns s).canonical := by
  unfold timeSetCommand; (try dsimp only); (repeat' split) <;> simp_all (maxDischargeDepth := 60)

set_option maxHeartbeats 80000 in
@[simp] theorem ptpSync_canon (ofs : Int) (inc : Nat) (s : State) (hc : s.canonical) :
    (ptpSync ofs inc s).canonical := by
  unfold ptpSync; simp (maxDischargeDepth := 60) [hc]

set_option maxHeartbeats 80000 in
@[simp] theorem ptpSyncArrives_canon (origin inc : Nat) (s : State) (hc : s.canonical) :
    (ptpSyncArrives origin inc s).canonical := by
  unfold ptpSyncArrives; simp (maxDischargeDepth := 60) [hc]

set_option maxHeartbeats 80000 in
@[simp] theorem ptpReqSent_canon (id : Nat) (s : State) (hc : s.canonical) :
    (ptpReqSent id s).canonical := by
  unfold ptpReqSent; simp (maxDischargeDepth := 60) [hc]

set_option maxHeartbeats 80000 in
@[simp] theorem ptpDelayResp_canon (id t4 : Nat) (s : State) (hc : s.canonical) :
    (ptpDelayResp id t4 s).canonical := by
  unfold ptpDelayResp; (repeat' split) <;> simp (maxDischargeDepth := 60) [hc]

set_option maxHeartbeats 80000 in
@[simp] theorem ptpMessage_canon (m : PtpMsg) (s : State) (hc : s.canonical) :
    (ptpMessage m s).canonical := by
  unfold ptpMessage; (repeat' split) <;> simp (maxDischargeDepth := 60) [hc]

set_option maxHeartbeats 80000 in
@[simp] theorem refreshCore_canon (s : State) (hc : s.canonical) :
    (refreshCore s).canonical := by
  unfold refreshCore; simp (maxDischargeDepth := 60) [hc]

set_option maxHeartbeats 80000 in
@[simp] theorem refreshMonitor_canon (s : State) (hc : s.canonical) :
    (refreshMonitor s).canonical := by
  unfold refreshMonitor; simp (maxDischargeDepth := 60) [hc]

set_option maxHeartbeats 80000 in
@[simp] theorem refreshMember_canon (i : Nat) (digest epoch state : Nat) (s : State) (hc : s.canonical) :
    (refreshMember i digest epoch state s).canonical := by
  unfold refreshMember; simp (maxDischargeDepth := 60) [hc]

set_option maxHeartbeats 80000 in
@[simp] theorem refreshCohort_canon (s : State) (hc : s.canonical) :
    (refreshCohort s).canonical := by
  unfold refreshCohort; simp (maxDischargeDepth := 60) [hc]

set_option maxHeartbeats 80000 in
@[simp] theorem statusRefresh_canon (sec : Section) (s : State) (hc : s.canonical) :
    (statusRefresh sec s).canonical := by
  unfold statusRefresh; (repeat' split) <;> simp (maxDischargeDepth := 60) [hc]

set_option maxHeartbeats 80000 in
@[simp] theorem resumeBoundary_canon (slot : Option (Fin 16)) (s : State) (hc : s.canonical) :
    (resumeBoundary slot s).canonical := by
  unfold resumeBoundary; simp (maxDischargeDepth := 60) [hc]

set_option maxHeartbeats 80000 in
@[simp] theorem beginResume_canon (slot : Option (Fin 16)) (s : State) (hc : s.canonical) :
    (beginResume slot s).canonical := by
  unfold beginResume; simp (maxDischargeDepth := 60) [hc]

set_option maxHeartbeats 80000 in
@[simp] theorem resumeCommand_canon (r : Req) (s : State) (hc : s.canonical) :
    (resumeCommand r s).canonical := by
  unfold resumeCommand; (try dsimp only); (repeat' split) <;> simp_all (maxDischargeDepth := 60)

set_option maxHeartbeats 80000 in
@[simp] theorem portSync_canon (p : Port) (s : State) (hc : s.canonical) :
    (portSync p s).canonical := by
  unfold portSync; simp (maxDischargeDepth := 60) [hc]

set_option maxHeartbeats 80000 in
@[simp] theorem setHeard_canon (p : Port) (b : Bool) (s : State) (hc : s.canonical) :
    (setHeard p b s).canonical := by
  unfold setHeard; (repeat' split) <;> simp (maxDischargeDepth := 60) [hc]

set_option maxHeartbeats 80000 in
@[simp] theorem masterSync_canon (anew : Bool) (s : State) (hc : s.canonical) :
    (masterSync anew s).canonical := by
  unfold masterSync; simp (maxDischargeDepth := 60) [hc]

set_option maxHeartbeats 80000 in
@[simp] theorem setRing_canon (reach keep : Word) (anew : Bool) (s : State) (hc : s.canonical) :
    (setRing reach keep anew s).canonical := by
  unfold setRing; simp (maxDischargeDepth := 60) [hc]

set_option maxHeartbeats 80000 in
@[simp] theorem timeSrcSync_canon (s : State) (hc : s.canonical) :
    (timeSrcSync s).canonical := by
  unfold timeSrcSync; simp (maxDischargeDepth := 60) [hc]

set_option maxHeartbeats 80000 in
@[simp] theorem setAlign_canon (misaligned lost : Bool) (s : State) (hc : s.canonical) :
    (setAlign misaligned lost s).canonical := by
  unfold setAlign; simp (maxDischargeDepth := 60) [hc]

set_option maxHeartbeats 80000 in
@[simp] theorem reachExpiry_canon (i : Nat) (s : State) (hc : s.canonical) :
    (reachExpiry i s).canonical := by
  unfold reachExpiry; simp (maxDischargeDepth := 60) [hc]

set_option maxHeartbeats 80000 in
@[simp] theorem forward_canon (p : Port) (f : CohFrame) (s : State) (hc : s.canonical) :
    (forward p f s).canonical := by
  unfold forward; simp (maxDischargeDepth := 60) [hc]

set_option maxHeartbeats 80000 in
@[simp] theorem admitFrame_canon (p : Port) (f : CohFrame) (s : State) (hc : s.canonical) :
    (admitFrame p f s).canonical := by
  unfold admitFrame; simp (maxDischargeDepth := 60) [hc]

set_option maxHeartbeats 80000 in
@[simp] theorem receiveFrame_canon (p : Port) (f : CohFrame) (s : State) (hc : s.canonical) :
    (receiveFrame p f s).1.canonical := by
  unfold receiveFrame; (try dsimp only); (repeat' split) <;> simp (maxDischargeDepth := 60) [hc]

@[simp] theorem onFrame_canon (kind : Nat) (p : Port) (fr : CohFrame) (act : State → State) (s : State) (hc : s.canonical)
    (h : ∀ u t, act u = t → u.canonical → t.canonical) : (onFrame kind p fr act s).canonical := by
  unfold onFrame; split
  · dsimp only; split
    · exact h _ _ rfl (receiveFrame_canon _ _ _ hc)
    · exact receiveFrame_canon _ _ _ hc
  · exact hc


set_option maxHeartbeats 80000 in
@[simp] theorem rollCallSend_canon (s : State) (hc : s.canonical) :
    (rollCallSend s).canonical := by
  unfold rollCallSend; simp (maxDischargeDepth := 60) [hc]

set_option maxHeartbeats 80000 in
@[simp] theorem rejoin_canon (st epoch : Nat) (s : State) (hc : s.canonical) :
    (rejoin st epoch s).canonical := by
  unfold rejoin; simp (maxDischargeDepth := 60) [hc]

set_option maxHeartbeats 80000 in
@[simp] theorem rollCallAccepted_canon (p : Port) (f : CohFrame) (s : State) (hc : s.canonical) :
    (rollCallAccepted p f s).canonical := by
  unfold rollCallAccepted; simp (maxDischargeDepth := 60) [hc]

set_option maxHeartbeats 80000 in
@[simp] theorem rollCallCopy_canon (p : Port) (f : CohFrame) (s : State) (hc : s.canonical) :
    (rollCallCopy p f s).canonical := by
  unfold rollCallCopy; (try dsimp only); (repeat' split) <;> simp (maxDischargeDepth := 60) [hc]

set_option maxHeartbeats 80000 in
@[simp] theorem goStripe_canon (layer stripe : Nat) (s : State) (hc : s.canonical) :
    (goStripe layer stripe s).canonical := by
  unfold goStripe; simp (maxDischargeDepth := 60) [hc]

set_option maxHeartbeats 80000 in
@[simp] theorem tryGo_canon (s : State) (hc : s.canonical) :
    (tryGo s).canonical := by
  unfold tryGo; (repeat' split) <;> simp (maxDischargeDepth := 60) [hc]

set_option maxHeartbeats 80000 in
@[simp] theorem readySend_canon (s : State) (hc : s.canonical) :
    (readySend s).canonical := by
  unfold readySend; (repeat' split) <;> simp (maxDischargeDepth := 60) [hc]

set_option maxHeartbeats 80000 in
@[simp] theorem takeMembership_canon (keep : Word) (s : State) (hc : s.canonical) :
    (takeMembership keep s).canonical := by
  unfold takeMembership; simp (maxDischargeDepth := 60) [hc]

set_option maxHeartbeats 80000 in
@[simp] theorem masterMembership_canon (keep : Word) (s : State) (hc : s.canonical) :
    (masterMembership keep s).canonical := by
  unfold masterMembership; simp (maxDischargeDepth := 60) [hc]

set_option maxHeartbeats 80000 in
@[simp] theorem cohortConfigCommand_canon (r : Req) (m own : Nat) (s : State) (hc : s.canonical) :
    (cohortConfigCommand r m own s).canonical := by
  unfold cohortConfigCommand; (try dsimp only); (repeat' split) <;> simp_all (maxDischargeDepth := 60)

set_option maxHeartbeats 80000 in
@[simp] theorem cohortShrinkCommand_canon (r : Req) (keep : Word) (s : State) (hc : s.canonical) :
    (cohortShrinkCommand r keep s).canonical := by
  unfold cohortShrinkCommand; (try dsimp only); (repeat' split) <;> simp_all (maxDischargeDepth := 60)

set_option maxHeartbeats 80000 in
@[simp] theorem holdSetReceived_canon (p : Port) (src id : Nat) (s : State) (hc : s.canonical) :
    (holdSetReceived p src id s).canonical := by
  unfold holdSetReceived; simp (maxDischargeDepth := 60) [hc]

set_option maxHeartbeats 80000 in
@[simp] theorem resumeFrame_canon (f : CohFrame) (s : State) (hc : s.canonical) :
    (resumeFrame f s).canonical := by
  unfold resumeFrame; simp (maxDischargeDepth := 60) [hc]

set_option maxHeartbeats 80000 in
@[simp] theorem timeReqSend_canon (p : Port) (t1 : Nat) (s : State) (hc : s.canonical) :
    (timeReqSend p t1 s).canonical := by
  unfold timeReqSend; (repeat' split) <;> simp (maxDischargeDepth := 60) [hc]

set_option maxHeartbeats 80000 in
@[simp] theorem timeResp_canon (p : Port) (req : ReqTimes) (t3 : Nat) (s : State) (hc : s.canonical) :
    (timeResp p req t3 s).canonical := by
  unfold timeResp; simp (maxDischargeDepth := 60) [hc]

set_option maxHeartbeats 80000 in
@[simp] theorem followMaster_canon (ps : Int) (s : State) (hc : s.canonical) :
    (followMaster ps s).canonical := by
  unfold followMaster; simp (maxDischargeDepth := 60) [hc]

set_option maxHeartbeats 80000 in
@[simp] theorem timeRespAccepted_canon (p : Port) (f : CohFrame) (t4 : Nat) (s : State) (hc : s.canonical) :
    (timeRespAccepted p f t4 s).canonical := by
  unfold timeRespAccepted; (repeat' split) <;> simp (maxDischargeDepth := 60) [hc]

set_option maxHeartbeats 80000 in
@[simp] theorem setBursts_canon (p : Port) (n : Nat) (s : State) (hc : s.canonical) :
    (setBursts p n s).canonical := by
  unfold setBursts; (repeat' split) <;> simp (maxDischargeDepth := 60) [hc]

set_option maxHeartbeats 80000 in
@[simp] theorem burstPort_canon (s : State) (p : Port) (hc : s.canonical) :
    (burstPort s p).canonical := by
  unfold burstPort; simp (maxDischargeDepth := 60) [hc]

set_option maxHeartbeats 80000 in
@[simp] theorem wakeBurst_canon (s : State) (hc : s.canonical) :
    (wakeBurst s).canonical := by
  unfold wakeBurst; simp (maxDischargeDepth := 60) [hc]

set_option maxHeartbeats 80000 in
@[simp] theorem approachStarts_canon (s : State) (hc : s.canonical) :
    (approachStarts s).canonical := by
  unfold approachStarts; (repeat' split) <;> simp (maxDischargeDepth := 60) [hc]

set_option maxHeartbeats 80000 in
@[simp] theorem readCapture_canon (k : Nat) (s : State) (hc : s.canonical) :
    (readCapture k s).canonical := by
  unfold readCapture; (repeat' split) <;> simp (maxDischargeDepth := 60) [hc]

set_option maxHeartbeats 80000 in
@[simp] theorem rcClear_canon (k : Nat) (s : State) (hc : s.canonical) :
    (rcClear k s).canonical := by
  unfold rcClear; simp (maxDischargeDepth := 60) [hc]

set_option maxHeartbeats 80000 in
@[simp] theorem readReg_canon (k : Nat) (s : State) (hc : s.canonical) :
    (readReg k s).1.canonical := by
  unfold readReg; simp (maxDischargeDepth := 60) [hc]

@[simp] theorem readRegs_canon (ks : List Nat) (s : State) (hc : s.canonical) : (readRegs ks s).1.canonical := by
  induction ks generalizing s with
  | nil => exact hc
  | cons k ks ih => exact ih _ (readReg_canon k s hc)


set_option maxHeartbeats 80000 in
@[simp] theorem storeRw_canon (k : Nat) (v : Word) (s : State) (hc : s.canonical) :
    (storeRw k v s).canonical := by
  unfold storeRw; simp (maxDischargeDepth := 60) [hc]

set_option maxHeartbeats 80000 in
@[simp] theorem motionVote_canon (s : State) (hc : s.canonical) :
    (motionVote s).canonical := by
  unfold motionVote; simp (maxDischargeDepth := 60) [hc]

set_option maxHeartbeats 80000 in
@[simp] theorem masterChanged_canon (s : State) (hc : s.canonical) :
    (masterChanged s).canonical := by
  unfold masterChanged; simp (maxDischargeDepth := 60) [hc]

set_option maxHeartbeats 80000 in
@[simp] theorem afterStore_canon (k : Nat) (s : State) (hc : s.canonical) :
    (afterStore k s).canonical := by
  unfold afterStore; simp (maxDischargeDepth := 60) [hc]

set_option maxHeartbeats 80000 in
@[simp] theorem chkWrite_canon (u off : Nat) (byHost : Bool) (v : Word) (s : State) (hc : s.canonical) :
    (chkWrite u off byHost v s).canonical := by
  unfold chkWrite; (repeat' split) <;> simp (maxDischargeDepth := 60) [hc]

set_option maxHeartbeats 80000 in
@[simp] theorem motionWrite_canon (k : Nat) (host : Bool) (v : Word) (s : State) (hc : s.canonical) :
    (motionWrite k host v s).canonical := by
  unfold motionWrite; (repeat' split) <;> simp (maxDischargeDepth := 60) [hc]

set_option maxHeartbeats 80000 in
@[simp] theorem dmaWrite_canon (k : Nat) (v : Word) (s : State) (hc : s.canonical) :
    (dmaWrite k v s).canonical := by
  unfold dmaWrite; (repeat' split) <;> simp (maxDischargeDepth := 60) [hc]

set_option maxHeartbeats 80000 in
@[simp] theorem diagAck_canon (v : Word) (s : State) (hc : s.canonical) :
    (diagAck v s).canonical := by
  unfold diagAck; (try dsimp only); (repeat' split) <;> simp (maxDischargeDepth := 60) [hc]

set_option maxHeartbeats 80000 in
@[simp] theorem xovrClear_canon (v : Word) (s : State) (hc : s.canonical) :
    (xovrClear v s).canonical := by
  unfold xovrClear; simp (maxDischargeDepth := 60) [hc]

set_option maxHeartbeats 80000 in
@[simp] theorem writeReg_canon (w : Writer) (k : Nat) (v : Word) (s : State) (hc : s.canonical) :
    (writeReg w k v s).canonical := by
  unfold writeReg; (try dsimp only); (repeat' split) <;> simp (maxDischargeDepth := 60) [hc]

set_option maxHeartbeats 80000 in
@[simp] theorem writeRegs_canon (ws : List RegWrite) (s : State) (hc : s.canonical) :
    (writeRegs ws s).canonical := by
  unfold writeRegs; (try dsimp only); (repeat' split) <;> simp_all (maxDischargeDepth := 60)

set_option maxHeartbeats 80000 in
@[simp] theorem blockDo_canon (i : Instr) (s : State) (hc : s.canonical) :
    (blockDo i s).canonical := by
  unfold blockDo; (repeat' split) <;> simp (maxDischargeDepth := 60) [hc]

set_option maxHeartbeats 80000 in
@[simp] theorem blockAccess_canon (ref : RegRef) (i : Instr) (s : State) (hc : s.canonical) :
    (blockAccess ref i s).canonical := by
  unfold blockAccess; simp (maxDischargeDepth := 60) [hc]

set_option maxHeartbeats 80000 in
@[simp] theorem accessesGo_canon (d : Nat) (s : State) (hc : s.canonical) :
    (accessesGo d s).canonical := by
  unfold accessesGo; (try dsimp only); (repeat' split) <;> simp_all (maxDischargeDepth := 60)

@[simp] theorem holding_canon (client : Nat) (blocks : List Nat) (g : State → State) (s : State) (hc : s.canonical)
    (h : ∀ u t, g u = t → u.canonical → t.canonical) : (holding client blocks g s).canonical := by
  unfold holding; dsimp only
  exact setVotes_canon _ _ _ _ (h _ _ rfl (setVotes_canon _ _ _ _ hc))


set_option maxHeartbeats 80000 in
@[simp] theorem cfgWriteCommand_canon (r : Req) (ws : List RegWrite) (s : State) (hc : s.canonical) :
    (cfgWriteCommand r ws s).canonical := by
  unfold cfgWriteCommand; (try dsimp only); (repeat' split) <;> simp_all (maxDischargeDepth := 60)

set_option maxHeartbeats 80000 in
@[simp] theorem pokeCommand_canon (r : Req) (ws : List RegWrite) (s : State) (hc : s.canonical) :
    (pokeCommand r ws s).canonical := by
  unfold pokeCommand; (try dsimp only); (repeat' split) <;> simp_all (maxDischargeDepth := 60)

set_option maxHeartbeats 80000 in
@[simp] theorem readList_canon (slot : Fin 16) (refs : List RegRef) (s : State) (hc : s.canonical) :
    (readList slot refs s).canonical := by
  unfold readList; simp (maxDischargeDepth := 60) [hc]

set_option maxHeartbeats 80000 in
@[simp] theorem peekCommand_canon (r : Req) (refs : List RegRef) (s : State) (hc : s.canonical) :
    (peekCommand r refs s).canonical := by
  unfold peekCommand; (try dsimp only); (repeat' split) <;> simp_all (maxDischargeDepth := 60)

set_option maxHeartbeats 80000 in
@[simp] theorem regReadCommand_canon (r : Req) (refs : List RegRef) (s : State) (hc : s.canonical) :
    (regReadCommand r refs s).canonical := by
  unfold regReadCommand; (try dsimp only); (repeat' split) <;> simp_all (maxDischargeDepth := 60)

set_option maxHeartbeats 80000 in
@[simp] theorem memStatusCommand_canon (r : Req) (refs : List RegRef) (s : State) (hc : s.canonical) :
    (memStatusCommand r refs s).canonical := by
  unfold memStatusCommand; (try dsimp only); (repeat' split) <;> simp_all (maxDischargeDepth := 60)

set_option maxHeartbeats 80000 in
@[simp] theorem castVotes_canon (s : State) (hc : s.canonical) :
    (castVotes s).canonical := by
  unfold castVotes; (try dsimp only); (repeat' split) <;> simp_all (maxDischargeDepth := 60)

set_option maxHeartbeats 80000 in
@[simp] theorem runImage_canon (b fallback : Bool) (s : State) (hc : s.canonical) :
    (runImage b fallback s).canonical := by
  unfold runImage; simp (maxDischargeDepth := 60) [hc]

set_option maxHeartbeats 80000 in
@[simp] theorem bootFails_canon (step : Nat) (s : State) (hc : s.canonical) :
    (bootFails step s).canonical := by
  unfold bootFails; simp (maxDischargeDepth := 60) [hc]

set_option maxHeartbeats 80000 in
@[simp] theorem loadImage_canon (s : State) (hc : s.canonical) :
    (loadImage s).canonical := by
  unfold loadImage; simp (maxDischargeDepth := 60) [hc]

set_option maxHeartbeats 80000 in
@[simp] theorem selectImage_canon (s : State) (hc : s.canonical) :
    (selectImage s).canonical := by
  unfold selectImage; simp (maxDischargeDepth := 60) [hc]

set_option maxHeartbeats 80000 in
@[simp] theorem askRestart_canon (s : State) (hc : s.canonical) :
    (askRestart s).canonical := by
  unfold askRestart; simp (maxDischargeDepth := 60) [hc]

set_option maxHeartbeats 80000 in
@[simp] theorem proctorRestartCommand_canon (r : Req) (s : State) (hc : s.canonical) :
    (proctorRestartCommand r s).canonical := by
  unfold proctorRestartCommand; (try dsimp only); (repeat' split) <;> simp_all (maxDischargeDepth := 60)

set_option maxHeartbeats 80000 in
@[simp] theorem watchdogExpiry_canon (s : State) (hc : s.canonical) :
    (watchdogExpiry s).canonical := by
  unfold watchdogExpiry; simp (maxDischargeDepth := 60) [hc]

set_option maxHeartbeats 80000 in
@[simp] theorem clearOverruns_canon (s : State) (hc : s.canonical) :
    (clearOverruns s).canonical := by
  unfold clearOverruns; (try dsimp only); (repeat' split) <;> simp_all (maxDischargeDepth := 60)

set_option maxHeartbeats 80000 in
@[simp] theorem deliverPulses_canon (s : State) (hc : s.canonical) :
    (deliverPulses s).canonical := by
  unfold deliverPulses; simp (maxDischargeDepth := 60) [hc]

set_option maxHeartbeats 80000 in
@[simp] theorem takeSpread_canon (s : State) (hc : s.canonical) :
    (takeSpread s).canonical := by
  unfold takeSpread; simp (maxDischargeDepth := 60) [hc]

set_option maxHeartbeats 80000 in
@[simp] theorem modeAfter_canon (after : Mode) (s : State) (hc : s.canonical) :
    (modeAfter after s).canonical := by
  unfold modeAfter; (repeat' split) <;> simp (maxDischargeDepth := 60) [hc]

set_option maxHeartbeats 80000 in
@[simp] theorem abortCut_canon (s : State) (hc : s.canonical) :
    (abortCut s).canonical := by
  unfold abortCut; (try dsimp only); (repeat' split) <;> simp_all (maxDischargeDepth := 60)

set_option maxHeartbeats 80000 in
@[simp] theorem restartEnd_canon (s : State) (hc : s.canonical) :
    (restartEnd s).canonical := by
  unfold restartEnd; (repeat' split) <;> simp (maxDischargeDepth := 60) [hc]

@[simp] theorem withBuffer_canon (off len : Nat) (g : List Byte → State → State) (s : State) (hc : s.canonical)
    (h : ∀ b u t, g b u = t → u.canonical → t.canonical) : (withBuffer off len g s).canonical := by
  unfold withBuffer
  have e := memRead_canon Port.proctor (bufferBase + off) len s hc
  revert e
  rcases memRead Port.proctor (bufferBase + off) len s with ⟨t, _ | bs⟩ <;> intro e
  · have e2 := memRead_canon Port.proctor (bufferBase + off) len t e
    revert e2
    dsimp only
    rcases memRead Port.proctor (bufferBase + off) len t with ⟨u, _ | bs⟩ <;> intro e2
    · exact askRestart_canon _ (notWatchdog_canon _ e2)
    · exact h _ _ _ rfl e2
  · exact h _ _ _ rfl e


set_option maxHeartbeats 80000 in
@[simp] theorem loadJob_canon (j : Job) (key : JobKeys) (s : State) (hc : s.canonical) :
    (loadJob j key s).canonical := by
  unfold loadJob; simp (maxDischargeDepth := 60) [hc]

set_option maxHeartbeats 80000 in
@[simp] theorem jobLoadWith_canon (slot : Fin 16) (len : Nat) (h : List Byte) (s : State) (hc : s.canonical) :
    (jobLoadWith slot len h s).canonical := by
  unfold jobLoadWith; (repeat' split) <;> simp (maxDischargeDepth := 60) [hc]

set_option maxHeartbeats 80000 in
@[simp] theorem jobLoadCommand_canon (r : Req) (off len : Nat) (s : State) (hc : s.canonical) :
    (jobLoadCommand r off len s).canonical := by
  unfold jobLoadCommand; (try dsimp only); (repeat' split) <;> simp_all (maxDischargeDepth := 60)

set_option maxHeartbeats 80000 in
@[simp] theorem windowAfterSupplement_canon (f : Nat → Nat) (s : State) (hc : s.canonical) :
    (windowAfterSupplement f s).canonical := by
  unfold windowAfterSupplement; (repeat' split) <;> simp (maxDischargeDepth := 60) [hc]

set_option maxHeartbeats 80000 in
@[simp] theorem supplementJob_canon (j : Job) (new : List StripeEntry) (nblock : Nat) (s : State) (hc : s.canonical) :
    (supplementJob j new nblock s).canonical := by
  unfold supplementJob; simp (maxDischargeDepth := 60) [hc]

set_option maxHeartbeats 80000 in
@[simp] theorem supplementWith_canon (slot : Fin 16) (len : Nat) (h : List Byte) (s : State) (hc : s.canonical) :
    (supplementWith slot len h s).canonical := by
  unfold supplementWith; (repeat' split) <;> simp (maxDischargeDepth := 60) [hc]

set_option maxHeartbeats 80000 in
@[simp] theorem jobSupplementCommand_canon (r : Req) (off len : Nat) (s : State) (hc : s.canonical) :
    (jobSupplementCommand r off len s).canonical := by
  unfold jobSupplementCommand; (try dsimp only); (repeat' split) <;> simp_all (maxDischargeDepth := 60)

set_option maxHeartbeats 80000 in
@[simp] theorem jobStartCommand_canon (r : Req) (lead : Nat) (s : State) (hc : s.canonical) :
    (jobStartCommand r lead s).canonical := by
  unfold jobStartCommand; (try dsimp only); (repeat' split) <;> simp_all (maxDischargeDepth := 60)

set_option maxHeartbeats 80000 in
@[simp] theorem holdRequestCommand_canon (r : Req) (s : State) (hc : s.canonical) :
    (holdRequestCommand r s).canonical := by
  unfold holdRequestCommand; (try dsimp only); (repeat' split) <;> simp_all (maxDischargeDepth := 60)

set_option maxHeartbeats 80000 in
@[simp] theorem extendRecess_canon (ms : Nat) (s : State) (hc : s.canonical) :
    (extendRecess ms s).canonical := by
  unfold extendRecess; simp (maxDischargeDepth := 60) [hc]

set_option maxHeartbeats 80000 in
@[simp] theorem recessExtendCommand_canon (r : Req) (ms : Nat) (s : State) (hc : s.canonical) :
    (recessExtendCommand r ms s).canonical := by
  unfold recessExtendCommand; (try dsimp only); (repeat' split) <;> simp_all (maxDischargeDepth := 60)

set_option maxHeartbeats 80000 in
@[simp] theorem removeStripes_canon (gone : List Nat) (s : State) (hc : s.canonical) :
    (removeStripes gone s).canonical := by
  unfold removeStripes; (try dsimp only); (repeat' split) <;> simp_all (maxDischargeDepth := 60)

set_option maxHeartbeats 80000 in
@[simp] theorem closeLayer_canon (slot : Fin 16) (waived : Nat) (s : State) (hc : s.canonical) :
    (closeLayer slot waived s).canonical := by
  unfold closeLayer; simp (maxDischargeDepth := 60) [hc]

set_option maxHeartbeats 80000 in
@[simp] theorem layerCloseCommand_canon (r : Req) (layer flags : Nat) (s : State) (hc : s.canonical) :
    (layerCloseCommand r layer flags s).canonical := by
  unfold layerCloseCommand; (try dsimp only); (repeat' split) <;> simp_all (maxDischargeDepth := 60)

set_option maxHeartbeats 80000 in
@[simp] theorem jobCloseCommand_canon (r : Req) (flags : Nat) (s : State) (hc : s.canonical) :
    (jobCloseCommand r flags s).canonical := by
  unfold jobCloseCommand; (try dsimp only); (repeat' split) <;> simp_all (maxDischargeDepth := 60)

set_option maxHeartbeats 80000 in
@[simp] theorem abortJob_canon (slot : Option (Fin 16)) (s : State) (hc : s.canonical) :
    (abortJob slot s).canonical := by
  unfold abortJob; simp (maxDischargeDepth := 60) [hc]

set_option maxHeartbeats 80000 in
@[simp] theorem dropTransitions_canon (s : State) (hc : s.canonical) :
    (dropTransitions s).canonical := by
  unfold dropTransitions; (try dsimp only); (repeat' split) <;> simp (maxDischargeDepth := 60) [hc]

set_option maxHeartbeats 80000 in
@[simp] theorem debugDue_canon (s : State) (hc : s.canonical) :
    (debugDue s).canonical := by
  unfold debugDue; simp (maxDischargeDepth := 60) [hc]

set_option maxHeartbeats 80000 in
@[simp] theorem jobAbortCommand_canon (r : Req) (s : State) (hc : s.canonical) :
    (jobAbortCommand r s).canonical := by
  unfold jobAbortCommand; (try dsimp only); (repeat' split) <;> simp_all (maxDischargeDepth := 60)

set_option maxHeartbeats 80000 in
@[simp] theorem rejectReadCommand_canon (r : Req) (first : Nat) (s : State) (hc : s.canonical) :
    (rejectReadCommand r first s).canonical := by
  unfold rejectReadCommand; (try dsimp only); (repeat' split) <;> simp_all (maxDischargeDepth := 60)

set_option maxHeartbeats 80000 in
@[simp] theorem evictNamed_canon (slot : Fin 16) (ids : List Nat) (named : Nat) (s : State) (hc : s.canonical) :
    (evictNamed slot ids named s).canonical := by
  unfold evictNamed; simp (maxDischargeDepth := 60) [hc]

set_option maxHeartbeats 80000 in
@[simp] theorem cellEvictCommand_canon (r : Req) (form n : Nat) (ids : List Nat) (first last : Nat) (s : State) (hc : s.canonical) :
    (cellEvictCommand r form n ids first last s).canonical := by
  unfold cellEvictCommand; (try dsimp only); (repeat' split) <;> simp_all (maxDischargeDepth := 60)

set_option maxHeartbeats 80000 in
@[simp] theorem completeWords_canon (slot : Fin 16) (ks : List Nat) (s : State) (hc : s.canonical) :
    (completeWords slot ks s).canonical := by
  unfold completeWords; simp (maxDischargeDepth := 60) [hc]

set_option maxHeartbeats 80000 in
@[simp] theorem cacheStatusCommand_canon (r : Req) (s : State) (hc : s.canonical) :
    (cacheStatusCommand r s).canonical := by
  unfold cacheStatusCommand; (try dsimp only); (repeat' split) <;> simp_all (maxDischargeDepth := 60)

set_option maxHeartbeats 80000 in
@[simp] theorem absFetch_canon (i : Nat) (s : State) (hc : s.canonical) :
    (absFetch i s).1.canonical := by
  unfold absFetch; (try dsimp only); (repeat' split) <;> simp (maxDischargeDepth := 60) [hc]

@[simp] theorem absEntries_canon (first n : Nat) (s : State) (hc : s.canonical) : (absEntries first n s).1.canonical := by
  induction n generalizing first s with
  | zero => exact hc
  | succ n ih => exact ih _ _ (absFetch_canon first s hc)


set_option maxHeartbeats 80000 in
@[simp] theorem absReadCommand_canon (r : Req) (first cnt : Nat) (s : State) (hc : s.canonical) :
    (absReadCommand r first cnt s).canonical := by
  unfold absReadCommand; (try dsimp only); (repeat' split) <;> simp_all (maxDischargeDepth := 60)

set_option maxHeartbeats 80000 in
@[simp] theorem absAckCommand_canon (r : Req) (newTail : Nat) (s : State) (hc : s.canonical) :
    (absAckCommand r newTail s).canonical := by
  unfold absAckCommand; (try dsimp only); (repeat' split) <;> simp_all (maxDischargeDepth := 60)

set_option maxHeartbeats 80000 in
@[simp] theorem absStatusCommand_canon (r : Req) (s : State) (hc : s.canonical) :
    (absStatusCommand r s).canonical := by
  unfold absStatusCommand; (try dsimp only); (repeat' split) <;> simp_all (maxDischargeDepth := 60)

end Sys2Proof.Machine
end

