-- ==== Sys2Proof/Laws/Frame5.lean ====
section
/-!
SUPPORT. What the operations of these files leave of the state, one lemma per operation, for the simplifier.
-/

namespace Sys2Proof.Machine

set_option Elab.async false

set_option maxHeartbeats 60000 in
@[simp] theorem keptBase_frame (s : State) :
    (keptBase s).pending = s.pending := by
  rfl

set_option maxHeartbeats 60000 in
@[simp] theorem resetHeld_frame (s : State) :
    (resetHeld s).pending = s.pending := by
  unfold resetHeld; simp

set_option maxHeartbeats 60000 in
@[simp] theorem putCause_frame (por brownout mrst retention : Nat) (s : State) :
    (putCause por brownout mrst retention s).pending = s.pending := by
  unfold putCause; simp

set_option maxHeartbeats 60000 in
@[simp] theorem powerOnReset_frame (c : PorCause) (s : State) :
    (powerOnReset c s).pending = s.pending := by
  unfold powerOnReset; (repeat' split) <;> simp

set_option maxHeartbeats 60000 in
@[simp] theorem supplyStands_frame (s t : State) :
    (supplyStands s t).pending = t.pending ∧ (supplyStands s t).mail = t.mail ∧ (supplyStands s t).dram = t.dram ∧ (supplyStands s t).job = t.job ∧ (supplyStands s t).page = t.page ∧ (supplyStands s t).flow = t.flow ∧ (supplyStands s t).prog = t.prog ∧ (supplyStands s t).sec = t.sec ∧ (supplyStands s t).tim = t.tim ∧ (supplyStands s t).ev = t.ev := by
  unfold supplyStands; simp

set_option maxHeartbeats 60000 in
@[simp] theorem mrstReset_frame (retention : Bool) (s : State) :
    (mrstReset retention s).pending = s.pending := by
  unfold mrstReset; simp

set_option maxHeartbeats 60000 in
@[simp] theorem mrst_frame (s : State) :
    (mrst s).pending = s.pending := by
  unfold mrst; simp

set_option maxHeartbeats 60000 in
@[simp] theorem bootStart_frame (straps : BitVec 2) (s : State) :
    (bootStart straps s).pending = s.pending ∧ (bootStart straps s).mail = s.mail ∧ (bootStart straps s).dram = s.dram ∧ (bootStart straps s).job = s.job ∧ (bootStart straps s).page = s.page ∧ (bootStart straps s).prog = s.prog ∧ (bootStart straps s).tim = s.tim := by
  unfold bootStart; simp

set_option maxHeartbeats 60000 in
@[simp] theorem porRelease_frame (straps : BitVec 2) (s : State) :
    (porRelease straps s).pending = s.pending ∧ (porRelease straps s).mail = s.mail ∧ (porRelease straps s).dram = s.dram ∧ (porRelease straps s).job = s.job ∧ (porRelease straps s).page = s.page ∧ (porRelease straps s).prog = s.prog ∧ (porRelease straps s).tim = s.tim := by
  unfold porRelease; simp

set_option maxHeartbeats 60000 in
@[simp] theorem mrstRelease_frame (straps : BitVec 2) (s : State) :
    (mrstRelease straps s).pending = s.pending ∧ (mrstRelease straps s).mail = s.mail ∧ (mrstRelease straps s).dram = s.dram ∧ (mrstRelease straps s).job = s.job ∧ (mrstRelease straps s).page = s.page ∧ (mrstRelease straps s).prog = s.prog ∧ (mrstRelease straps s).tim = s.tim := by
  unfold mrstRelease; simp

set_option maxHeartbeats 60000 in
@[simp] theorem retentionReset_frame (s : State) :
    (retentionReset s).pending = s.pending := by
  unfold retentionReset; simp

set_option maxHeartbeats 60000 in
@[simp] theorem leaveService_frame (s : State) :
    (leaveService s).pending = s.pending ∧ (leaveService s).dram = s.dram ∧ (leaveService s).job = s.job ∧ (leaveService s).page = s.page ∧ (leaveService s).prog = s.prog ∧ (leaveService s).sec = s.sec := by
  unfold leaveService; simp

set_option maxHeartbeats 60000 in
@[simp] theorem serviceEnterCommand_frame (r : Req) (s : State) :
    (serviceEnterCommand r s).pending = s.pending ∧ (serviceEnterCommand r s).dram = s.dram ∧ (serviceEnterCommand r s).job = s.job ∧ (serviceEnterCommand r s).page = s.page ∧ (serviceEnterCommand r s).prog = s.prog ∧ (serviceEnterCommand r s).sec = s.sec ∧ (serviceEnterCommand r s).tim = s.tim ∧ (serviceEnterCommand r s).ev = s.ev := by
  unfold serviceEnterCommand; simp

set_option maxHeartbeats 60000 in
@[simp] theorem serviceExitCommand_frame (r : Req) (s : State) :
    (serviceExitCommand r s).pending = s.pending ∧ (serviceExitCommand r s).dram = s.dram ∧ (serviceExitCommand r s).job = s.job ∧ (serviceExitCommand r s).page = s.page ∧ (serviceExitCommand r s).prog = s.prog ∧ (serviceExitCommand r s).sec = s.sec := by
  unfold serviceExitCommand; simp

set_option maxHeartbeats 60000 in
@[simp] theorem serviceExitDue_frame (s : State) :
    (serviceExitDue s).pending = s.pending ∧ (serviceExitDue s).dram = s.dram ∧ (serviceExitDue s).job = s.job ∧ (serviceExitDue s).page = s.page ∧ (serviceExitDue s).prog = s.prog ∧ (serviceExitDue s).sec = s.sec := by
  unfold serviceExitDue; (repeat' split) <;> simp

set_option maxHeartbeats 60000 in
@[simp] theorem startLogic_frame (m : BitVec 9) (s : State) :
    (startLogic m s).pending = s.pending ∧ (startLogic m s).dram = s.dram ∧ (startLogic m s).job = s.job ∧ (startLogic m s).page = s.page ∧ (startLogic m s).flow = s.flow ∧ (startLogic m s).prog = s.prog ∧ (startLogic m s).sec = s.sec := by
  unfold startLogic; simp

set_option maxHeartbeats 60000 in
@[simp] theorem startMemory_frame (s : State) :
    (startMemory s).pending = s.pending ∧ (startMemory s).dram = s.dram ∧ (startMemory s).job = s.job ∧ (startMemory s).page = s.page ∧ (startMemory s).prog = s.prog ∧ (startMemory s).sec = s.sec := by
  unfold startMemory; simp

set_option maxHeartbeats 60000 in
@[simp] theorem startBist_frame (kind : Nat) (m : BitVec 9) (s : State) :
    (startBist kind m s).pending = s.pending ∧ (startBist kind m s).dram = s.dram ∧ (startBist kind m s).job = s.job ∧ (startBist kind m s).page = s.page ∧ (startBist kind m s).prog = s.prog ∧ (startBist kind m s).sec = s.sec := by
  unfold startBist; simp

set_option maxHeartbeats 60000 in
@[simp] theorem bistRunWith_frame (slot : Fin 16) (kind domains : Nat) (s : State) :
    (bistRunWith slot kind domains s).pending = s.pending ∧ (bistRunWith slot kind domains s).dram = s.dram ∧ (bistRunWith slot kind domains s).job = s.job ∧ (bistRunWith slot kind domains s).page = s.page ∧ (bistRunWith slot kind domains s).prog = s.prog ∧ (bistRunWith slot kind domains s).sec = s.sec := by
  unfold bistRunWith; (repeat' split) <;> simp

set_option maxHeartbeats 60000 in
@[simp] theorem bistRunCommand_frame (r : Req) (kind domains : Nat) (s : State) :
    (bistRunCommand r kind domains s).pending = s.pending ∧ (bistRunCommand r kind domains s).dram = s.dram ∧ (bistRunCommand r kind domains s).job = s.job ∧ (bistRunCommand r kind domains s).page = s.page ∧ (bistRunCommand r kind domains s).prog = s.prog ∧ (bistRunCommand r kind domains s).sec = s.sec := by
  unfold bistRunCommand; simp

set_option maxHeartbeats 60000 in
@[simp] theorem bistFollows_frame (s : State) :
    (bistFollows s).pending = s.pending ∧ (bistFollows s).dram = s.dram ∧ (bistFollows s).job = s.job ∧ (bistFollows s).page = s.page ∧ (bistFollows s).prog = s.prog ∧ (bistFollows s).sec = s.sec := by
  unfold bistFollows; (repeat' split) <;> simp

set_option maxHeartbeats 60000 in
@[simp] theorem renewDomain_frame (d : Nat) (s : State) :
    (renewDomain d s).pending = s.pending ∧ (renewDomain d s).mail = s.mail ∧ (renewDomain d s).dram = s.dram ∧ (renewDomain d s).job = s.job ∧ (renewDomain d s).page = s.page ∧ (renewDomain d s).flow = s.flow ∧ (renewDomain d s).prog = s.prog ∧ (renewDomain d s).sec = s.sec := by
  unfold renewDomain; simp

set_option maxHeartbeats 60000 in
@[simp] theorem bistReport_frame (failed : Bool) (s : State) :
    (bistReport failed s).pending = s.pending ∧ (bistReport failed s).mail = s.mail ∧ (bistReport failed s).dram = s.dram ∧ (bistReport failed s).job = s.job ∧ (bistReport failed s).page = s.page ∧ (bistReport failed s).flow = s.flow ∧ (bistReport failed s).prog = s.prog ∧ (bistReport failed s).sec = s.sec ∧ (bistReport failed s).tim = s.tim := by
  unfold bistReport; simp

set_option maxHeartbeats 60000 in
@[simp] theorem logicResult_frame (m bad : BitVec 9) (misr : DWord) (s : State) :
    (logicResult m bad misr s).pending = s.pending ∧ (logicResult m bad misr s).mail = s.mail ∧ (logicResult m bad misr s).dram = s.dram ∧ (logicResult m bad misr s).job = s.job ∧ (logicResult m bad misr s).page = s.page ∧ (logicResult m bad misr s).flow = s.flow ∧ (logicResult m bad misr s).prog = s.prog ∧ (logicResult m bad misr s).sec = s.sec := by
  unfold logicResult; simp

set_option maxHeartbeats 60000 in
@[simp] theorem logicEnds_frame (m failed : BitVec 9) (misr : DWord) (s : State) :
    (logicEnds m failed misr s).pending = s.pending ∧ (logicEnds m failed misr s).dram = s.dram ∧ (logicEnds m failed misr s).job = s.job ∧ (logicEnds m failed misr s).page = s.page ∧ (logicEnds m failed misr s).sec = s.sec := by
  unfold logicEnds; simp

set_option maxHeartbeats 60000 in
@[simp] theorem memFails_frame (u : MemUnit) (s : State) :
    (memFails u s).pending = s.pending ∧ (memFails u s).mail = s.mail ∧ (memFails u s).dram = s.dram ∧ (memFails u s).job = s.job ∧ (memFails u s).page = s.page ∧ (memFails u s).flow = s.flow ∧ (memFails u s).prog = s.prog ∧ (memFails u s).sec = s.sec ∧ (memFails u s).tim = s.tim ∧ (memFails u s).ev = s.ev := by
  unfold memFails; (repeat' split) <;> simp

set_option maxHeartbeats 60000 in
@[simp] theorem memoryEnds_frame (fail : Option MemUnit) (s : State) :
    (memoryEnds fail s).pending = s.pending ∧ (memoryEnds fail s).mail = s.mail ∧ (memoryEnds fail s).job = s.job ∧ (memoryEnds fail s).page = s.page ∧ (memoryEnds fail s).flow = s.flow ∧ (memoryEnds fail s).prog = s.prog ∧ (memoryEnds fail s).sec = s.sec ∧ (memoryEnds fail s).tim = s.tim := by
  unfold memoryEnds; (repeat' split) <;> simp

set_option maxHeartbeats 60000 in
@[simp] theorem bistComplete_frame (failed : BitVec 9) (misr : DWord) (memFail : Option MemUnit) (s : State) :
    (bistComplete failed misr memFail s).pending = s.pending ∧ (bistComplete failed misr memFail s).job = s.job ∧ (bistComplete failed misr memFail s).page = s.page ∧ (bistComplete failed misr memFail s).sec = s.sec := by
  unfold bistComplete; (repeat' split) <;> simp

set_option maxHeartbeats 60000 in
@[simp] theorem bistAfterRestart_frame (s : State) :
    (bistAfterRestart s).pending = s.pending ∧ (bistAfterRestart s).mail = s.mail ∧ (bistAfterRestart s).dram = s.dram ∧ (bistAfterRestart s).job = s.job ∧ (bistAfterRestart s).page = s.page ∧ (bistAfterRestart s).flow = s.flow ∧ (bistAfterRestart s).prog = s.prog ∧ (bistAfterRestart s).sec = s.sec := by
  unfold bistAfterRestart; (repeat' split) <;> simp

set_option maxHeartbeats 60000 in
@[simp] theorem proctorRestartEnd_frame (s : State) :
    (proctorRestartEnd s).pending = s.pending ∧ (proctorRestartEnd s).page = s.page := by
  unfold proctorRestartEnd; simp

set_option maxHeartbeats 60000 in
@[simp] theorem bootTested_frame (n : Nat) (spares : List (Nat × Nat)) (s : State) :
    (bootTested n spares s).pending = s.pending ∧ (bootTested n spares s).mail = s.mail ∧ (bootTested n spares s).dram = s.dram ∧ (bootTested n spares s).job = s.job ∧ (bootTested n spares s).page = s.page ∧ (bootTested n spares s).flow = s.flow ∧ (bootTested n spares s).prog = s.prog ∧ (bootTested n spares s).sec = s.sec ∧ (bootTested n spares s).tim = s.tim ∧ (bootTested n spares s).ev = s.ev := by
  unfold bootTested; simp

set_option maxHeartbeats 60000 in
@[simp] theorem bootFaultShows_frame (f : BootFault) (spares : List (Nat × Nat)) (s : State) :
    (bootFaultShows f spares s).pending = s.pending ∧ (bootFaultShows f spares s).mail = s.mail ∧ (bootFaultShows f spares s).dram = s.dram ∧ (bootFaultShows f spares s).job = s.job ∧ (bootFaultShows f spares s).page = s.page ∧ (bootFaultShows f spares s).flow = s.flow ∧ (bootFaultShows f spares s).prog = s.prog ∧ (bootFaultShows f spares s).sec = s.sec ∧ (bootFaultShows f spares s).tim = s.tim ∧ (bootFaultShows f spares s).ev = s.ev := by
  unfold bootFaultShows; (repeat' split) <;> simp

set_option maxHeartbeats 60000 in
@[simp] theorem bootStepFails_frame (step : Nat) (f : BootFault) (spares : List (Nat × Nat)) (s : State) :
    (bootStepFails step f spares s).pending = s.pending ∧ (bootStepFails step f spares s).mail = s.mail ∧ (bootStepFails step f spares s).dram = s.dram ∧ (bootStepFails step f spares s).job = s.job ∧ (bootStepFails step f spares s).page = s.page ∧ (bootStepFails step f spares s).prog = s.prog ∧ (bootStepFails step f spares s).sec = s.sec ∧ (bootStepFails step f spares s).tim = s.tim ∧ (bootStepFails step f spares s).ev = s.ev := by
  unfold bootStepFails; simp

set_option maxHeartbeats 60000 in
@[simp] theorem bootOrder_frame (s : State) :
    (bootOrder s).pending = s.pending ∧ (bootOrder s).mail = s.mail ∧ (bootOrder s).dram = s.dram ∧ (bootOrder s).job = s.job ∧ (bootOrder s).page = s.page ∧ (bootOrder s).flow = s.flow ∧ (bootOrder s).prog = s.prog ∧ (bootOrder s).sec = s.sec ∧ (bootOrder s).tim = s.tim ∧ (bootOrder s).ev = s.ev := by
  unfold bootOrder; simp

set_option maxHeartbeats 60000 in
@[simp] theorem bootOver_frame (spares : List (Nat × Nat)) (s : State) :
    (bootOver spares s).pending = s.pending ∧ (bootOver spares s).mail = s.mail ∧ (bootOver spares s).job = s.job ∧ (bootOver spares s).page = s.page ∧ (bootOver spares s).prog = s.prog := by
  unfold bootOver; simp

set_option maxHeartbeats 60000 in
@[simp] theorem bootFillEnds_frame (fault : Option (Nat × BootFault)) (spares : List (Nat × Nat)) (s : State) :
    (bootFillEnds fault spares s).pending = s.pending ∧ (bootFillEnds fault spares s).mail = s.mail ∧ (bootFillEnds fault spares s).job = s.job ∧ (bootFillEnds fault spares s).page = s.page ∧ (bootFillEnds fault spares s).prog = s.prog := by
  unfold bootFillEnds; (repeat' split) <;> simp

set_option maxHeartbeats 60000 in
@[simp] theorem laterFillEnds_frame (s : State) :
    (laterFillEnds s).pending = s.pending ∧ (laterFillEnds s).dram = s.dram ∧ (laterFillEnds s).job = s.job ∧ (laterFillEnds s).page = s.page ∧ (laterFillEnds s).prog = s.prog ∧ (laterFillEnds s).sec = s.sec := by
  unfold laterFillEnds; simp

set_option maxHeartbeats 60000 in
@[simp] theorem dramFillComplete_frame (fault : Option (Nat × BootFault)) (spares : List (Nat × Nat)) (s : State) :
    (dramFillComplete fault spares s).pending = s.pending ∧ (dramFillComplete fault spares s).job = s.job ∧ (dramFillComplete fault spares s).page = s.page ∧ (dramFillComplete fault spares s).prog = s.prog := by
  unfold dramFillComplete; simp

set_option maxHeartbeats 60000 in
@[simp] theorem dipActs_frame (t : Int) (s : State) :
    (dipActs t s).pending = s.pending ∧ (dipActs t s).dram = s.dram ∧ (dipActs t s).job = s.job ∧ (dipActs t s).page = s.page ∧ (dipActs t s).prog = s.prog ∧ (dipActs t s).sec = s.sec := by
  unfold dipActs; simp

set_option maxHeartbeats 60000 in
@[simp] theorem vinBelowWarning_frame (t : Int) (s : State) :
    (vinBelowWarning t s).pending = s.pending ∧ (vinBelowWarning t s).dram = s.dram ∧ (vinBelowWarning t s).job = s.job ∧ (vinBelowWarning t s).page = s.page ∧ (vinBelowWarning t s).prog = s.prog ∧ (vinBelowWarning t s).sec = s.sec := by
  unfold vinBelowWarning; simp

set_option maxHeartbeats 60000 in
@[simp] theorem supplyRecovery_frame (s : State) :
    (supplyRecovery s).pending = s.pending ∧ (supplyRecovery s).mail = s.mail ∧ (supplyRecovery s).dram = s.dram ∧ (supplyRecovery s).job = s.job ∧ (supplyRecovery s).page = s.page ∧ (supplyRecovery s).prog = s.prog ∧ (supplyRecovery s).sec = s.sec ∧ (supplyRecovery s).tim = s.tim := by
  unfold supplyRecovery; simp

set_option maxHeartbeats 60000 in
@[simp] theorem vinCrossing_frame (mv : Nat) (s : State) :
    (vinCrossing mv s).pending = s.pending ∧ (vinCrossing mv s).mail = s.mail ∧ (vinCrossing mv s).dram = s.dram ∧ (vinCrossing mv s).job = s.job ∧ (vinCrossing mv s).page = s.page ∧ (vinCrossing mv s).flow = s.flow ∧ (vinCrossing mv s).prog = s.prog ∧ (vinCrossing mv s).sec = s.sec ∧ (vinCrossing mv s).tim = s.tim ∧ (vinCrossing mv s).ev = s.ev := by
  unfold vinCrossing; simp

set_option maxHeartbeats 60000 in
@[simp] theorem railBelow_frame (r : Nat) (s : State) :
    (railBelow r s).pending = s.pending ∧ (railBelow r s).mail = s.mail ∧ (railBelow r s).dram = s.dram ∧ (railBelow r s).job = s.job ∧ (railBelow r s).page = s.page ∧ (railBelow r s).flow = s.flow ∧ (railBelow r s).prog = s.prog ∧ (railBelow r s).sec = s.sec ∧ (railBelow r s).tim = s.tim := by
  unfold railBelow; simp

set_option maxHeartbeats 60000 in
@[simp] theorem railSample_frame (mv : List Nat) (s : State) :
    (railSample mv s).pending = s.pending ∧ (railSample mv s).mail = s.mail ∧ (railSample mv s).dram = s.dram ∧ (railSample mv s).job = s.job ∧ (railSample mv s).page = s.page ∧ (railSample mv s).flow = s.flow ∧ (railSample mv s).prog = s.prog ∧ (railSample mv s).sec = s.sec ∧ (railSample mv s).tim = s.tim := by
  unfold railSample; (try dsimp only); (repeat' split) <;> simp

set_option maxHeartbeats 60000 in
@[simp] theorem opticsUnlock_frame (s : State) :
    (opticsUnlock s).pending = s.pending ∧ (opticsUnlock s).mail = s.mail ∧ (opticsUnlock s).dram = s.dram ∧ (opticsUnlock s).job = s.job ∧ (opticsUnlock s).page = s.page ∧ (opticsUnlock s).flow = s.flow ∧ (opticsUnlock s).prog = s.prog ∧ (opticsUnlock s).sec = s.sec := by
  unfold opticsUnlock; simp

set_option maxHeartbeats 60000 in
@[simp] theorem ethLink_frame (up : Bool) (s : State) :
    (ethLink up s).pending = s.pending ∧ (ethLink up s).mail = s.mail ∧ (ethLink up s).dram = s.dram ∧ (ethLink up s).job = s.job ∧ (ethLink up s).page = s.page ∧ (ethLink up s).flow = s.flow ∧ (ethLink up s).prog = s.prog ∧ (ethLink up s).sec = s.sec := by
  unfold ethLink; simp

set_option maxHeartbeats 60000 in
@[simp] theorem portsDown_frame (s : State) :
    (portsDown s).pending = s.pending ∧ (portsDown s).mail = s.mail ∧ (portsDown s).dram = s.dram ∧ (portsDown s).job = s.job ∧ (portsDown s).page = s.page ∧ (portsDown s).flow = s.flow ∧ (portsDown s).prog = s.prog ∧ (portsDown s).sec = s.sec := by
  unfold portsDown; simp

set_option maxHeartbeats 60000 in
@[simp] theorem unlockActs_frame (n : Nat) (s : State) :
    (unlockActs n s).pending = s.pending ∧ (unlockActs n s).dram = s.dram ∧ (unlockActs n s).job = s.job ∧ (unlockActs n s).page = s.page ∧ (unlockActs n s).prog = s.prog ∧ (unlockActs n s).sec = s.sec := by
  unfold unlockActs; simp

set_option maxHeartbeats 60000 in
@[simp] theorem unlockOne_frame (s : State) (n : Nat) :
    (unlockOne s n).pending = s.pending ∧ (unlockOne s n).dram = s.dram ∧ (unlockOne s n).job = s.job ∧ (unlockOne s n).page = s.page ∧ (unlockOne s n).prog = s.prog ∧ (unlockOne s n).sec = s.sec := by
  unfold unlockOne; simp

set_option maxHeartbeats 60000 in
@[simp] theorem opticsRelock_frame (s : State) :
    (opticsRelock s).pending = s.pending ∧ (opticsRelock s).mail = s.mail ∧ (opticsRelock s).dram = s.dram ∧ (opticsRelock s).job = s.job ∧ (opticsRelock s).page = s.page ∧ (opticsRelock s).flow = s.flow ∧ (opticsRelock s).prog = s.prog ∧ (opticsRelock s).sec = s.sec ∧ (opticsRelock s).tim = s.tim ∧ (opticsRelock s).ev = s.ev := by
  unfold opticsRelock; simp

set_option maxHeartbeats 60000 in
@[simp] theorem relockOne_frame (s : State) (n : Nat) :
    (relockOne s n).pending = s.pending ∧ (relockOne s n).mail = s.mail ∧ (relockOne s n).dram = s.dram ∧ (relockOne s n).job = s.job ∧ (relockOne s n).page = s.page ∧ (relockOne s n).prog = s.prog ∧ (relockOne s n).sec = s.sec ∧ (relockOne s n).tim = s.tim ∧ (relockOne s n).ev = s.ev := by
  unfold relockOne; simp

set_option maxHeartbeats 60000 in
@[simp] theorem pcieUp_frame (link : PcieTraining) (width : PcieWidth) (s : State) :
    (pcieUp link width s).pending = s.pending ∧ (pcieUp link width s).mail = s.mail ∧ (pcieUp link width s).dram = s.dram ∧ (pcieUp link width s).job = s.job ∧ (pcieUp link width s).page = s.page ∧ (pcieUp link width s).flow = s.flow ∧ (pcieUp link width s).prog = s.prog ∧ (pcieUp link width s).sec = s.sec ∧ (pcieUp link width s).tim = s.tim := by
  unfold pcieUp; simp

set_option maxHeartbeats 60000 in
@[simp] theorem tempLimits_frame (warn trip : Bool) (s : State) :
    (tempLimits warn trip s).pending = s.pending ∧ (tempLimits warn trip s).dram = s.dram ∧ (tempLimits warn trip s).job = s.job ∧ (tempLimits warn trip s).page = s.page ∧ (tempLimits warn trip s).prog = s.prog ∧ (tempLimits warn trip s).sec = s.sec ∧ (tempLimits warn trip s).tim = s.tim := by
  unfold tempLimits; simp

set_option maxHeartbeats 60000 in
@[simp] theorem dieSamples_frame (ts : List Int) (s : State) :
    (dieSamples ts s).pending = s.pending ∧ (dieSamples ts s).mail = s.mail ∧ (dieSamples ts s).dram = s.dram ∧ (dieSamples ts s).job = s.job ∧ (dieSamples ts s).page = s.page ∧ (dieSamples ts s).flow = s.flow ∧ (dieSamples ts s).prog = s.prog ∧ (dieSamples ts s).sec = s.sec ∧ (dieSamples ts s).tim = s.tim := by
  unfold dieSamples; simp

set_option maxHeartbeats 60000 in
@[simp] theorem dieTemps_frame (ts : List Int) (s : State) :
    (dieTemps ts s).pending = s.pending ∧ (dieTemps ts s).dram = s.dram ∧ (dieTemps ts s).job = s.job ∧ (dieTemps ts s).page = s.page ∧ (dieTemps ts s).prog = s.prog ∧ (dieTemps ts s).sec = s.sec ∧ (dieTemps ts s).tim = s.tim := by
  unfold dieTemps; simp

set_option maxHeartbeats 60000 in
@[simp] theorem writeDiag_frame (bs : List Byte) (s : State) :
    (writeDiag bs s).pending = s.pending ∧ (writeDiag bs s).mail = s.mail ∧ (writeDiag bs s).job = s.job ∧ (writeDiag bs s).page = s.page ∧ (writeDiag bs s).flow = s.flow ∧ (writeDiag bs s).prog = s.prog ∧ (writeDiag bs s).sec = s.sec ∧ (writeDiag bs s).tim = s.tim := by
  unfold writeDiag; simp

set_option maxHeartbeats 60000 in
@[simp] theorem putChunk_frame (bs : List Byte) (s : State) :
    (putChunk bs s).pending = s.pending ∧ (putChunk bs s).mail = s.mail ∧ (putChunk bs s).job = s.job ∧ (putChunk bs s).page = s.page ∧ (putChunk bs s).flow = s.flow ∧ (putChunk bs s).prog = s.prog ∧ (putChunk bs s).sec = s.sec ∧ (putChunk bs s).tim = s.tim := by
  unfold putChunk; simp

set_option maxHeartbeats 60000 in
@[simp] theorem diagSnapshot_frame (s : State) :
    (diagSnapshot s).pending = s.pending ∧ (diagSnapshot s).mail = s.mail ∧ (diagSnapshot s).job = s.job ∧ (diagSnapshot s).page = s.page ∧ (diagSnapshot s).flow = s.flow ∧ (diagSnapshot s).prog = s.prog ∧ (diagSnapshot s).sec = s.sec ∧ (diagSnapshot s).tim = s.tim := by
  unfold diagSnapshot; simp

set_option maxHeartbeats 60000 in
@[simp] theorem updRest_frame (f : Rest → Rest) (s : State) :
    (updRest f s).pending = s.pending ∧ (updRest f s).mail = s.mail ∧ (updRest f s).dram = s.dram ∧ (updRest f s).job = s.job ∧ (updRest f s).page = s.page ∧ (updRest f s).flow = s.flow ∧ (updRest f s).prog = s.prog ∧ (updRest f s).sec = s.sec ∧ (updRest f s).tim = s.tim ∧ (updRest f s).ev = s.ev := by
  unfold updRest; simp

set_option maxHeartbeats 60000 in
@[simp] theorem dmaPor_frame (s : State) :
    (dmaPor s).pending = s.pending ∧ (dmaPor s).mail = s.mail ∧ (dmaPor s).dram = s.dram ∧ (dmaPor s).job = s.job ∧ (dmaPor s).page = s.page ∧ (dmaPor s).flow = s.flow ∧ (dmaPor s).prog = s.prog ∧ (dmaPor s).sec = s.sec ∧ (dmaPor s).tim = s.tim ∧ (dmaPor s).ev = s.ev := by
  unfold dmaPor; simp

set_option maxHeartbeats 60000 in
@[simp] theorem clearMail_frame (s : State) :
    (clearMail s).pending = s.pending ∧ (clearMail s).dram = s.dram ∧ (clearMail s).job = s.job ∧ (clearMail s).page = s.page ∧ (clearMail s).flow = s.flow ∧ (clearMail s).prog = s.prog ∧ (clearMail s).sec = s.sec ∧ (clearMail s).tim = s.tim ∧ (clearMail s).ev = s.ev := by
  unfold clearMail; simp

set_option maxHeartbeats 60000 in
@[simp] theorem linkResetActs_frame (s : State) :
    (linkResetActs s).pending = s.pending ∧ (linkResetActs s).dram = s.dram ∧ (linkResetActs s).job = s.job ∧ (linkResetActs s).page = s.page ∧ (linkResetActs s).flow = s.flow ∧ (linkResetActs s).prog = s.prog ∧ (linkResetActs s).sec = s.sec := by
  unfold linkResetActs; simp

set_option maxHeartbeats 60000 in
@[simp] theorem linkResetDue_frame (s : State) :
    (linkResetDue s).pending = s.pending ∧ (linkResetDue s).dram = s.dram ∧ (linkResetDue s).job = s.job ∧ (linkResetDue s).page = s.page ∧ (linkResetDue s).flow = s.flow ∧ (linkResetDue s).prog = s.prog ∧ (linkResetDue s).sec = s.sec := by
  unfold linkResetDue; (repeat' split) <;> simp

set_option maxHeartbeats 60000 in
@[simp] theorem abandonDecodes_frame (s : State) :
    (abandonDecodes s).pending = s.pending ∧ (abandonDecodes s).mail = s.mail ∧ (abandonDecodes s).dram = s.dram ∧ (abandonDecodes s).job = s.job ∧ (abandonDecodes s).page = s.page ∧ (abandonDecodes s).flow = s.flow ∧ (abandonDecodes s).prog = s.prog ∧ (abandonDecodes s).sec = s.sec ∧ (abandonDecodes s).tim = s.tim ∧ (abandonDecodes s).ev = s.ev := by
  unfold abandonDecodes; simp

set_option maxHeartbeats 60000 in
@[simp] theorem stopMotion_frame (s : State) :
    (stopMotion s).pending = s.pending ∧ (stopMotion s).mail = s.mail ∧ (stopMotion s).dram = s.dram ∧ (stopMotion s).job = s.job ∧ (stopMotion s).page = s.page ∧ (stopMotion s).flow = s.flow ∧ (stopMotion s).prog = s.prog ∧ (stopMotion s).sec = s.sec ∧ (stopMotion s).tim = s.tim ∧ (stopMotion s).ev = s.ev := by
  unfold stopMotion; simp

set_option maxHeartbeats 60000 in
@[simp] theorem restStarts_frame (s : State) :
    (restStarts s).pending = s.pending ∧ (restStarts s).dram = s.dram ∧ (restStarts s).job = s.job ∧ (restStarts s).page = s.page ∧ (restStarts s).prog = s.prog ∧ (restStarts s).sec = s.sec := by
  unfold restStarts; (repeat' split) <;> simp

set_option maxHeartbeats 60000 in
@[simp] theorem checkpoint_frame (s : State) :
    (checkpoint s).pending = s.pending ∧ (checkpoint s).mail = s.mail ∧ (checkpoint s).dram = s.dram ∧ (checkpoint s).job = s.job ∧ (checkpoint s).page = s.page ∧ (checkpoint s).flow = s.flow ∧ (checkpoint s).prog = s.prog ∧ (checkpoint s).sec = s.sec ∧ (checkpoint s).tim = s.tim := by
  unfold checkpoint; simp

set_option maxHeartbeats 60000 in
@[simp] theorem dropBanks_frame (s : State) :
    (dropBanks s).pending = s.pending ∧ (dropBanks s).mail = s.mail ∧ (dropBanks s).dram = s.dram ∧ (dropBanks s).job = s.job ∧ (dropBanks s).page = s.page ∧ (dropBanks s).flow = s.flow ∧ (dropBanks s).prog = s.prog ∧ (dropBanks s).sec = s.sec ∧ (dropBanks s).tim = s.tim ∧ (dropBanks s).ev = s.ev := by
  unfold dropBanks; simp

set_option maxHeartbeats 60000 in
@[simp] theorem restCounters_frame (s : State) :
    (restCounters s).pending = s.pending ∧ (restCounters s).mail = s.mail ∧ (restCounters s).dram = s.dram ∧ (restCounters s).job = s.job ∧ (restCounters s).page = s.page ∧ (restCounters s).flow = s.flow ∧ (restCounters s).prog = s.prog ∧ (restCounters s).sec = s.sec ∧ (restCounters s).tim = s.tim ∧ (restCounters s).ev = s.ev := by
  unfold restCounters; simp

set_option maxHeartbeats 60000 in
@[simp] theorem windowRest_frame (s : State) :
    (windowRest s).pending = s.pending ∧ (windowRest s).mail = s.mail ∧ (windowRest s).dram = s.dram ∧ (windowRest s).job = s.job ∧ (windowRest s).page = s.page ∧ (windowRest s).flow = s.flow ∧ (windowRest s).prog = s.prog ∧ (windowRest s).sec = s.sec ∧ (windowRest s).tim = s.tim ∧ (windowRest s).ev = s.ev := by
  unfold windowRest; (repeat' split) <;> simp

set_option maxHeartbeats 60000 in
@[simp] theorem restDomain_frame (s : State) (d : Nat) :
    (restDomain s d).pending = s.pending ∧ (restDomain s d).mail = s.mail ∧ (restDomain s d).dram = s.dram ∧ (restDomain s d).job = s.job ∧ (restDomain s d).page = s.page ∧ (restDomain s d).flow = s.flow ∧ (restDomain s d).prog = s.prog ∧ (restDomain s d).sec = s.sec ∧ (restDomain s d).tim = s.tim ∧ (restDomain s d).ev = s.ev := by
  unfold restDomain; simp

set_option maxHeartbeats 60000 in
@[simp] theorem restDrops_frame (s : State) :
    (restDrops s).pending = s.pending ∧ (restDrops s).mail = s.mail ∧ (restDrops s).dram = s.dram ∧ (restDrops s).job = s.job ∧ (restDrops s).page = s.page ∧ (restDrops s).flow = s.flow ∧ (restDrops s).prog = s.prog ∧ (restDrops s).sec = s.sec := by
  unfold restDrops; simp

set_option maxHeartbeats 60000 in
@[simp] theorem enterSelfRefresh_frame (s : State) :
    (enterSelfRefresh s).pending = s.pending ∧ (enterSelfRefresh s).mail = s.mail ∧ (enterSelfRefresh s).dram = s.dram ∧ (enterSelfRefresh s).job = s.job ∧ (enterSelfRefresh s).page = s.page ∧ (enterSelfRefresh s).flow = s.flow ∧ (enterSelfRefresh s).prog = s.prog ∧ (enterSelfRefresh s).sec = s.sec ∧ (enterSelfRefresh s).tim = s.tim := by
  unfold enterSelfRefresh; simp

set_option maxHeartbeats 60000 in
@[simp] theorem stageDone_frame (s : State) :
    (stageDone s).pending = s.pending ∧ (stageDone s).mail = s.mail ∧ (stageDone s).dram = s.dram ∧ (stageDone s).job = s.job ∧ (stageDone s).prog = s.prog ∧ (stageDone s).sec = s.sec := by
  unfold stageDone; (repeat' split) <;> simp

set_option maxHeartbeats 60000 in
@[simp] theorem dipDue_frame (s : State) :
    (dipDue s).pending = s.pending ∧ (dipDue s).mail = s.mail ∧ (dipDue s).dram = s.dram ∧ (dipDue s).job = s.job ∧ (dipDue s).page = s.page ∧ (dipDue s).flow = s.flow ∧ (dipDue s).prog = s.prog ∧ (dipDue s).sec = s.sec ∧ (dipDue s).tim = s.tim := by
  unfold dipDue; simp

set_option maxHeartbeats 60000 in
@[simp] theorem unwind_frame (s : State) :
    (unwind s).pending = s.pending ∧ (unwind s).page = s.page := by
  unfold unwind; simp

set_option maxHeartbeats 60000 in
@[simp] theorem stageOverrun_frame (s : State) :
    (stageOverrun s).pending = s.pending ∧ (stageOverrun s).page = s.page := by
  unfold stageOverrun; simp

set_option maxHeartbeats 60000 in
@[simp] theorem restWake_frame (src : WakeSource) (s : State) :
    (restWake src s).pending = s.pending ∧ (restWake src s).page = s.page := by
  unfold restWake; simp

set_option maxHeartbeats 60000 in
@[simp] theorem hostTouch_frame (s : State) :
    (hostTouch s).pending = s.pending ∧ (hostTouch s).page = s.page := by
  unfold hostTouch; simp

set_option maxHeartbeats 60000 in
@[simp] theorem hostLinkReset_frame (k : LinkReset) (s : State) :
    (hostLinkReset k s).pending = s.pending ∧ (hostLinkReset k s).page = s.page := by
  unfold hostLinkReset; simp

set_option maxHeartbeats 60000 in
@[simp] theorem wakeTime_frame (s : State) :
    (wakeTime s).pending = s.pending ∧ (wakeTime s).mail = s.mail ∧ (wakeTime s).dram = s.dram ∧ (wakeTime s).job = s.job ∧ (wakeTime s).page = s.page ∧ (wakeTime s).flow = s.flow ∧ (wakeTime s).prog = s.prog ∧ (wakeTime s).sec = s.sec ∧ (wakeTime s).ev = s.ev := by
  unfold wakeTime; simp

set_option maxHeartbeats 60000 in
@[simp] theorem stallSteps_frame (s : State) :
    (stallSteps s).pending = s.pending ∧ (stallSteps s).mail = s.mail ∧ (stallSteps s).dram = s.dram ∧ (stallSteps s).job = s.job ∧ (stallSteps s).page = s.page ∧ (stallSteps s).flow = s.flow ∧ (stallSteps s).prog = s.prog ∧ (stallSteps s).sec = s.sec ∧ (stallSteps s).tim = s.tim ∧ (stallSteps s).ev = s.ev := by
  unfold stallSteps; simp

set_option maxHeartbeats 60000 in
@[simp] theorem wakeDomain_frame (s : State) (d : Nat) :
    (wakeDomain s d).pending = s.pending ∧ (wakeDomain s d).mail = s.mail ∧ (wakeDomain s d).dram = s.dram ∧ (wakeDomain s d).job = s.job ∧ (wakeDomain s d).page = s.page ∧ (wakeDomain s d).flow = s.flow ∧ (wakeDomain s d).prog = s.prog ∧ (wakeDomain s d).sec = s.sec ∧ (wakeDomain s d).tim = s.tim := by
  unfold wakeDomain; simp

set_option maxHeartbeats 60000 in
@[simp] theorem wakeDomains_frame (s : State) :
    (wakeDomains s).pending = s.pending ∧ (wakeDomains s).mail = s.mail ∧ (wakeDomains s).dram = s.dram ∧ (wakeDomains s).job = s.job ∧ (wakeDomains s).page = s.page ∧ (wakeDomains s).flow = s.flow ∧ (wakeDomains s).prog = s.prog ∧ (wakeDomains s).sec = s.sec ∧ (wakeDomains s).tim = s.tim := by
  unfold wakeDomains; simp

set_option maxHeartbeats 60000 in
@[simp] theorem revertJob_frame (s : State) :
    (revertJob s).pending = s.pending ∧ (revertJob s).mail = s.mail ∧ (revertJob s).dram = s.dram ∧ (revertJob s).job = s.job ∧ (revertJob s).page = s.page ∧ (revertJob s).flow = s.flow ∧ (revertJob s).prog = s.prog ∧ (revertJob s).sec = s.sec ∧ (revertJob s).tim = s.tim ∧ (revertJob s).ev = s.ev := by
  unfold revertJob; simp

set_option maxHeartbeats 60000 in
@[simp] theorem recordLost_frame (banks : BitVec 96) (regions : BitVec 16) (s : State) :
    (recordLost banks regions s).pending = s.pending ∧ (recordLost banks regions s).mail = s.mail ∧ (recordLost banks regions s).dram = s.dram ∧ (recordLost banks regions s).job = s.job ∧ (recordLost banks regions s).page = s.page ∧ (recordLost banks regions s).flow = s.flow ∧ (recordLost banks regions s).prog = s.prog ∧ (recordLost banks regions s).sec = s.sec ∧ (recordLost banks regions s).tim = s.tim ∧ (recordLost banks regions s).ev = s.ev := by
  unfold recordLost; simp

set_option maxHeartbeats 60000 in
@[simp] theorem restoreCopies_frame (s : State) :
    (restoreCopies s).pending = s.pending ∧ (restoreCopies s).mail = s.mail ∧ (restoreCopies s).dram = s.dram ∧ (restoreCopies s).job = s.job ∧ (restoreCopies s).page = s.page ∧ (restoreCopies s).flow = s.flow ∧ (restoreCopies s).prog = s.prog ∧ (restoreCopies s).sec = s.sec ∧ (restoreCopies s).tim = s.tim ∧ (restoreCopies s).ev = s.ev := by
  unfold restoreCopies; (repeat' split) <;> simp

set_option maxHeartbeats 60000 in
@[simp] theorem copiedCheckpoint_frame (s : State) :
    (copiedCheckpoint s).pending = s.pending ∧ (copiedCheckpoint s).mail = s.mail ∧ (copiedCheckpoint s).dram = s.dram ∧ (copiedCheckpoint s).job = s.job ∧ (copiedCheckpoint s).page = s.page ∧ (copiedCheckpoint s).flow = s.flow ∧ (copiedCheckpoint s).prog = s.prog ∧ (copiedCheckpoint s).sec = s.sec ∧ (copiedCheckpoint s).tim = s.tim ∧ (copiedCheckpoint s).ev = s.ev := by
  unfold copiedCheckpoint; (repeat' split) <;> simp

set_option maxHeartbeats 60000 in
@[simp] theorem loseLogStore_frame (s : State) :
    (loseLogStore s).pending = s.pending ∧ (loseLogStore s).dram = s.dram ∧ (loseLogStore s).job = s.job ∧ (loseLogStore s).page = s.page ∧ (loseLogStore s).prog = s.prog ∧ (loseLogStore s).sec = s.sec ∧ (loseLogStore s).tim = s.tim := by
  unfold loseLogStore; simp

set_option maxHeartbeats 60000 in
@[simp] theorem wakeRestart_frame (gone : Bool) (s : State) :
    (wakeRestart gone s).pending = s.pending ∧ (wakeRestart gone s).dram = s.dram ∧ (wakeRestart gone s).job = s.job ∧ (wakeRestart gone s).page = s.page ∧ (wakeRestart gone s).sec = s.sec := by
  unfold wakeRestart; simp

set_option maxHeartbeats 60000 in
@[simp] theorem backFromRest_frame (s : State) :
    (backFromRest s).pending = s.pending ∧ (backFromRest s).dram = s.dram ∧ (backFromRest s).job = s.job ∧ (backFromRest s).page = s.page ∧ (backFromRest s).prog = s.prog ∧ (backFromRest s).sec = s.sec := by
  unfold backFromRest; simp

set_option maxHeartbeats 60000 in
@[simp] theorem wakeComplete_frame (lostBanks : BitVec 96) (lostRegions : BitVec 16) (s : State) :
    (wakeComplete lostBanks lostRegions s).pending = s.pending := by
  unfold wakeComplete; simp

set_option maxHeartbeats 60000 in
@[simp] theorem domainSync_frame (d : Nat) (s : State) :
    (domainSync d s).pending = s.pending ∧ (domainSync d s).mail = s.mail ∧ (domainSync d s).dram = s.dram ∧ (domainSync d s).job = s.job ∧ (domainSync d s).page = s.page ∧ (domainSync d s).flow = s.flow ∧ (domainSync d s).prog = s.prog ∧ (domainSync d s).sec = s.sec := by
  unfold domainSync; simp

set_option maxHeartbeats 60000 in
@[simp] theorem domainUp_frame (d : Nat) (s : State) :
    (domainUp d s).pending = s.pending := by
  unfold domainUp; simp

set_option maxHeartbeats 60000 in
@[simp] theorem certReadCommand_frame (r : Req) (off : Nat) (s : State) :
    (certReadCommand r off s).pending = s.pending ∧ (certReadCommand r off s).dram = s.dram ∧ (certReadCommand r off s).job = s.job ∧ (certReadCommand r off s).page = s.page ∧ (certReadCommand r off s).flow = s.flow ∧ (certReadCommand r off s).prog = s.prog ∧ (certReadCommand r off s).sec = s.sec ∧ (certReadCommand r off s).tim = s.tim ∧ (certReadCommand r off s).ev = s.ev := by
  unfold certReadCommand; simp

set_option maxHeartbeats 60000 in
@[simp] theorem jobPosition_frame (s : State) (j : Job) :
    (jobPosition s j).1.pending = s.pending ∧ (jobPosition s j).1.mail = s.mail ∧ (jobPosition s j).1.dram = s.dram ∧ (jobPosition s j).1.job = s.job ∧ (jobPosition s j).1.page = s.page ∧ (jobPosition s j).1.flow = s.flow ∧ (jobPosition s j).1.prog = s.prog ∧ (jobPosition s j).1.sec = s.sec ∧ (jobPosition s j).1.tim = s.tim ∧ (jobPosition s j).1.ev = s.ev := by
  unfold jobPosition; (repeat' split) <;> simp

set_option maxHeartbeats 60000 in
@[simp] theorem attestEffect_frame (slot : Fin 16) (nonce : List Byte) (kind : Nat) (s : State) :
    (attestEffect slot nonce kind s).pending = s.pending ∧ (attestEffect slot nonce kind s).dram = s.dram ∧ (attestEffect slot nonce kind s).job = s.job ∧ (attestEffect slot nonce kind s).page = s.page ∧ (attestEffect slot nonce kind s).flow = s.flow ∧ (attestEffect slot nonce kind s).prog = s.prog ∧ (attestEffect slot nonce kind s).tim = s.tim ∧ (attestEffect slot nonce kind s).ev = s.ev := by
  unfold attestEffect; (repeat' split) <;> simp

set_option maxHeartbeats 60000 in
@[simp] theorem attestCommand_frame (r : Req) (nonce : List Byte) (kind : Nat) (s : State) :
    (attestCommand r nonce kind s).pending = s.pending ∧ (attestCommand r nonce kind s).dram = s.dram ∧ (attestCommand r nonce kind s).job = s.job ∧ (attestCommand r nonce kind s).page = s.page ∧ (attestCommand r nonce kind s).flow = s.flow ∧ (attestCommand r nonce kind s).prog = s.prog ∧ (attestCommand r nonce kind s).tim = s.tim ∧ (attestCommand r nonce kind s).ev = s.ev := by
  unfold attestCommand; simp

set_option maxHeartbeats 60000 in
@[simp] theorem flashSlot_frame (im : Image) (s : State) :
    (flashSlot im s).pending = s.pending ∧ (flashSlot im s).mail = s.mail ∧ (flashSlot im s).dram = s.dram ∧ (flashSlot im s).job = s.job ∧ (flashSlot im s).page = s.page ∧ (flashSlot im s).flow = s.flow ∧ (flashSlot im s).prog = s.prog ∧ (flashSlot im s).tim = s.tim ∧ (flashSlot im s).ev = s.ev := by
  unfold flashSlot; simp

set_option maxHeartbeats 60000 in
@[simp] theorem storeImage_frame (slot : Fin 16) (im : Image) (s : State) :
    (storeImage slot im s).pending = s.pending ∧ (storeImage slot im s).dram = s.dram ∧ (storeImage slot im s).job = s.job ∧ (storeImage slot im s).page = s.page ∧ (storeImage slot im s).flow = s.flow ∧ (storeImage slot im s).prog = s.prog ∧ (storeImage slot im s).tim = s.tim := by
  unfold storeImage; simp

set_option maxHeartbeats 60000 in
@[simp] theorem fwUpdateCommand_frame (r : Req) (off len : Nat) (s : State) :
    (fwUpdateCommand r off len s).pending = s.pending ∧ (fwUpdateCommand r off len s).dram = s.dram ∧ (fwUpdateCommand r off len s).job = s.job ∧ (fwUpdateCommand r off len s).page = s.page := by
  unfold fwUpdateCommand; simp

set_option maxHeartbeats 60000 in
@[simp] theorem zeroizeJob_frame (s : State) :
    (zeroizeJob s).pending = s.pending ∧ (zeroizeJob s).mail = s.mail ∧ (zeroizeJob s).dram = s.dram ∧ (zeroizeJob s).job = s.job ∧ (zeroizeJob s).page = s.page ∧ (zeroizeJob s).flow = s.flow ∧ (zeroizeJob s).prog = s.prog := by
  unfold zeroizeJob; simp

set_option maxHeartbeats 60000 in
@[simp] theorem zeroizeIdentity_frame (s : State) :
    (zeroizeIdentity s).pending = s.pending ∧ (zeroizeIdentity s).mail = s.mail ∧ (zeroizeIdentity s).dram = s.dram ∧ (zeroizeIdentity s).job = s.job ∧ (zeroizeIdentity s).page = s.page ∧ (zeroizeIdentity s).flow = s.flow ∧ (zeroizeIdentity s).prog = s.prog ∧ (zeroizeIdentity s).tim = s.tim ∧ (zeroizeIdentity s).ev = s.ev := by
  unfold zeroizeIdentity; simp

set_option maxHeartbeats 60000 in
@[simp] theorem zeroize_frame (s : State) :
    (zeroize s).pending = s.pending ∧ (zeroize s).mail = s.mail ∧ (zeroize s).dram = s.dram ∧ (zeroize s).job = s.job ∧ (zeroize s).page = s.page ∧ (zeroize s).flow = s.flow ∧ (zeroize s).prog = s.prog := by
  unfold zeroize; simp

set_option maxHeartbeats 60000 in
@[simp] theorem lifecycleEffect_frame (dst : Nat) (s : State) :
    (lifecycleEffect dst s).pending = s.pending ∧ (lifecycleEffect dst s).mail = s.mail ∧ (lifecycleEffect dst s).dram = s.dram ∧ (lifecycleEffect dst s).job = s.job ∧ (lifecycleEffect dst s).page = s.page ∧ (lifecycleEffect dst s).flow = s.flow ∧ (lifecycleEffect dst s).prog = s.prog := by
  unfold lifecycleEffect; simp

set_option maxHeartbeats 60000 in
@[simp] theorem lifecycleWith_frame (slot : Fin 16) (target : Nat) (auth : List Byte) (s : State) :
    (lifecycleWith slot target auth s).pending = s.pending ∧ (lifecycleWith slot target auth s).dram = s.dram ∧ (lifecycleWith slot target auth s).job = s.job ∧ (lifecycleWith slot target auth s).page = s.page ∧ (lifecycleWith slot target auth s).flow = s.flow ∧ (lifecycleWith slot target auth s).prog = s.prog := by
  unfold lifecycleWith; (repeat' split) <;> simp

set_option maxHeartbeats 60000 in
@[simp] theorem lifecycleSetCommand_frame (r : Req) (target : Nat) (auth : List Byte) (s : State) :
    (lifecycleSetCommand r target auth s).pending = s.pending ∧ (lifecycleSetCommand r target auth s).dram = s.dram ∧ (lifecycleSetCommand r target auth s).job = s.job ∧ (lifecycleSetCommand r target auth s).page = s.page ∧ (lifecycleSetCommand r target auth s).flow = s.flow ∧ (lifecycleSetCommand r target auth s).prog = s.prog := by
  unfold lifecycleSetCommand; simp

set_option maxHeartbeats 60000 in
@[simp] theorem keyProvisionCommand_frame (r : Req) (key : List Byte) (s : State) :
    (keyProvisionCommand r key s).pending = s.pending ∧ (keyProvisionCommand r key s).dram = s.dram ∧ (keyProvisionCommand r key s).job = s.job ∧ (keyProvisionCommand r key s).page = s.page ∧ (keyProvisionCommand r key s).flow = s.flow ∧ (keyProvisionCommand r key s).prog = s.prog ∧ (keyProvisionCommand r key s).tim = s.tim ∧ (keyProvisionCommand r key s).ev = s.ev := by
  unfold keyProvisionCommand; simp

set_option maxHeartbeats 60000 in
@[simp] theorem tapCapture_frame (i : TapInstr) (s : State) :
    (tapCapture i s).pending = s.pending ∧ (tapCapture i s).mail = s.mail ∧ (tapCapture i s).dram = s.dram ∧ (tapCapture i s).job = s.job ∧ (tapCapture i s).page = s.page ∧ (tapCapture i s).flow = s.flow ∧ (tapCapture i s).prog = s.prog ∧ (tapCapture i s).tim = s.tim := by
  unfold tapCapture; (repeat' split) <;> simp

set_option maxHeartbeats 60000 in
@[simp] theorem tapActs_frame (i : TapInstr) (s : State) :
    (tapActs i s).pending = s.pending ∧ (tapActs i s).mail = s.mail ∧ (tapActs i s).dram = s.dram ∧ (tapActs i s).job = s.job ∧ (tapActs i s).page = s.page ∧ (tapActs i s).flow = s.flow ∧ (tapActs i s).prog = s.prog := by
  unfold tapActs; simp

set_option maxHeartbeats 60000 in
@[simp] theorem tapLocked_frame (s : State) :
    (tapLocked s).pending = s.pending ∧ (tapLocked s).mail = s.mail ∧ (tapLocked s).dram = s.dram ∧ (tapLocked s).job = s.job ∧ (tapLocked s).page = s.page ∧ (tapLocked s).flow = s.flow ∧ (tapLocked s).prog = s.prog := by
  unfold tapLocked; simp

set_option maxHeartbeats 60000 in
@[simp] theorem tapDebug_frame (s : State) :
    (tapDebug s).pending = s.pending ∧ (tapDebug s).page = s.page := by
  unfold tapDebug; simp

set_option maxHeartbeats 60000 in
@[simp] theorem jtagInstruction_frame (i : TapInstr) (s : State) :
    (jtagInstruction i s).pending = s.pending ∧ (jtagInstruction i s).page = s.page := by
  unfold jtagInstruction; simp

set_option maxHeartbeats 60000 in
@[simp] theorem debugOpens_frame (s : State) :
    (debugOpens s).pending = s.pending ∧ (debugOpens s).mail = s.mail ∧ (debugOpens s).job = s.job ∧ (debugOpens s).page = s.page ∧ (debugOpens s).flow = s.flow ∧ (debugOpens s).prog = s.prog := by
  unfold debugOpens; simp

set_option maxHeartbeats 60000 in
@[simp] theorem tapReset_frame (s : State) :
    (tapReset s).pending = s.pending ∧ (tapReset s).mail = s.mail ∧ (tapReset s).dram = s.dram ∧ (tapReset s).job = s.job ∧ (tapReset s).page = s.page ∧ (tapReset s).flow = s.flow ∧ (tapReset s).prog = s.prog := by
  unfold tapReset; simp

set_option maxHeartbeats 60000 in
@[simp] theorem loadTable_frame (t : BeamTable) (m : List (Nat × Word)) (s : State) :
    (loadTable t m s).pending = s.pending ∧ (loadTable t m s).dram = s.dram ∧ (loadTable t m s).job = s.job ∧ (loadTable t m s).page = s.page ∧ (loadTable t m s).prog = s.prog ∧ (loadTable t m s).sec = s.sec ∧ (loadTable t m s).tim = s.tim := by
  unfold loadTable; simp

set_option maxHeartbeats 60000 in
@[simp] theorem tableLoadEnd_frame (slot : Fin 16) (t : BeamTable) (f : Option TableFault) (s : State) :
    (tableLoadEnd slot t f s).pending = s.pending ∧ (tableLoadEnd slot t f s).dram = s.dram ∧ (tableLoadEnd slot t f s).job = s.job ∧ (tableLoadEnd slot t f s).page = s.page ∧ (tableLoadEnd slot t f s).prog = s.prog ∧ (tableLoadEnd slot t f s).sec = s.sec ∧ (tableLoadEnd slot t f s).tim = s.tim := by
  unfold tableLoadEnd; (repeat' split) <;> simp

set_option maxHeartbeats 60000 in
@[simp] theorem tableLoadWith_frame (slot : Fin 16) (h : List Byte) (s : State) :
    (tableLoadWith slot h s).pending = s.pending ∧ (tableLoadWith slot h s).dram = s.dram ∧ (tableLoadWith slot h s).job = s.job ∧ (tableLoadWith slot h s).page = s.page ∧ (tableLoadWith slot h s).prog = s.prog ∧ (tableLoadWith slot h s).sec = s.sec ∧ (tableLoadWith slot h s).tim = s.tim := by
  unfold tableLoadWith; simp

set_option maxHeartbeats 60000 in
@[simp] theorem beamTableLoadCommand_frame (r : Req) (off len : Nat) (s : State) :
    (beamTableLoadCommand r off len s).pending = s.pending ∧ (beamTableLoadCommand r off len s).dram = s.dram ∧ (beamTableLoadCommand r off len s).job = s.job ∧ (beamTableLoadCommand r off len s).page = s.page ∧ (beamTableLoadCommand r off len s).sec = s.sec := by
  unfold beamTableLoadCommand; simp

set_option maxHeartbeats 60000 in
@[simp] theorem remeasure_frame (es : List (Nat × DWord)) (s : State) :
    (remeasure es s).pending = s.pending ∧ (remeasure es s).mail = s.mail ∧ (remeasure es s).dram = s.dram ∧ (remeasure es s).job = s.job ∧ (remeasure es s).page = s.page ∧ (remeasure es s).flow = s.flow ∧ (remeasure es s).prog = s.prog ∧ (remeasure es s).sec = s.sec ∧ (remeasure es s).tim = s.tim ∧ (remeasure es s).ev = s.ev := by
  unfold remeasure; simp

set_option maxHeartbeats 60000 in
@[simp] theorem writeSummaries_frame (t : BeamTable) (xs : List Int) (s : State) :
    (writeSummaries t xs s).pending = s.pending ∧ (writeSummaries t xs s).mail = s.mail ∧ (writeSummaries t xs s).dram = s.dram ∧ (writeSummaries t xs s).job = s.job ∧ (writeSummaries t xs s).page = s.page ∧ (writeSummaries t xs s).flow = s.flow ∧ (writeSummaries t xs s).prog = s.prog ∧ (writeSummaries t xs s).sec = s.sec ∧ (writeSummaries t xs s).tim = s.tim := by
  unfold writeSummaries; simp

set_option maxHeartbeats 60000 in
@[simp] theorem setAtOnce_frame (slot : Fin 16) (es : List (Nat × DWord)) (s : State) :
    (setAtOnce slot es s).pending = s.pending ∧ (setAtOnce slot es s).dram = s.dram ∧ (setAtOnce slot es s).job = s.job ∧ (setAtOnce slot es s).page = s.page ∧ (setAtOnce slot es s).prog = s.prog ∧ (setAtOnce slot es s).sec = s.sec ∧ (setAtOnce slot es s).tim = s.tim := by
  unfold setAtOnce; simp

set_option maxHeartbeats 60000 in
@[simp] theorem beamSetCommand_frame (r : Req) (es : List (Nat × DWord)) (s : State) :
    (beamSetCommand r es s).pending = s.pending ∧ (beamSetCommand r es s).dram = s.dram ∧ (beamSetCommand r es s).job = s.job ∧ (beamSetCommand r es s).page = s.page ∧ (beamSetCommand r es s).prog = s.prog ∧ (beamSetCommand r es s).sec = s.sec ∧ (beamSetCommand r es s).tim = s.tim := by
  unfold beamSetCommand; simp

set_option maxHeartbeats 60000 in
@[simp] theorem orFree_frame (n : Nat) (v : Option (List Byte)) (s : State) :
    (orFree n v s).1.pending = s.pending ∧ (orFree n v s).1.mail = s.mail ∧ (orFree n v s).1.dram = s.dram ∧ (orFree n v s).1.job = s.job ∧ (orFree n v s).1.page = s.page ∧ (orFree n v s).1.flow = s.flow ∧ (orFree n v s).1.prog = s.prog ∧ (orFree n v s).1.sec = s.sec ∧ (orFree n v s).1.tim = s.tim ∧ (orFree n v s).1.ev = s.ev := by
  unfold orFree; (repeat' split) <;> simp

set_option maxHeartbeats 60000 in
@[simp] theorem reportBeam_frame (slot : Fin 16) (b : Nat) (s : State) :
    (reportBeam slot b s).pending = s.pending ∧ (reportBeam slot b s).dram = s.dram ∧ (reportBeam slot b s).job = s.job ∧ (reportBeam slot b s).page = s.page ∧ (reportBeam slot b s).flow = s.flow ∧ (reportBeam slot b s).prog = s.prog ∧ (reportBeam slot b s).sec = s.sec ∧ (reportBeam slot b s).tim = s.tim ∧ (reportBeam slot b s).ev = s.ev := by
  unfold reportBeam; simp

set_option maxHeartbeats 60000 in
@[simp] theorem reportHistory_frame (slot : Fin 16) (i : Nat) (s : State) :
    (reportHistory slot i s).pending = s.pending ∧ (reportHistory slot i s).dram = s.dram ∧ (reportHistory slot i s).job = s.job ∧ (reportHistory slot i s).page = s.page ∧ (reportHistory slot i s).flow = s.flow ∧ (reportHistory slot i s).prog = s.prog ∧ (reportHistory slot i s).sec = s.sec ∧ (reportHistory slot i s).tim = s.tim ∧ (reportHistory slot i s).ev = s.ev := by
  unfold reportHistory; simp

set_option maxHeartbeats 60000 in
@[simp] theorem beamReportCommand_frame (r : Req) (kind arg : Nat) (s : State) :
    (beamReportCommand r kind arg s).pending = s.pending ∧ (beamReportCommand r kind arg s).dram = s.dram ∧ (beamReportCommand r kind arg s).job = s.job ∧ (beamReportCommand r kind arg s).page = s.page ∧ (beamReportCommand r kind arg s).flow = s.flow ∧ (beamReportCommand r kind arg s).prog = s.prog ∧ (beamReportCommand r kind arg s).sec = s.sec ∧ (beamReportCommand r kind arg s).tim = s.tim ∧ (beamReportCommand r kind arg s).ev = s.ev := by
  unfold beamReportCommand; (repeat' split) <;> simp

set_option maxHeartbeats 60000 in
@[simp] theorem zeroEntries_frame (lo hi : Nat) (s : State) :
    (zeroEntries lo hi s).pending = s.pending ∧ (zeroEntries lo hi s).mail = s.mail ∧ (zeroEntries lo hi s).dram = s.dram ∧ (zeroEntries lo hi s).job = s.job ∧ (zeroEntries lo hi s).page = s.page ∧ (zeroEntries lo hi s).flow = s.flow ∧ (zeroEntries lo hi s).prog = s.prog ∧ (zeroEntries lo hi s).sec = s.sec ∧ (zeroEntries lo hi s).tim = s.tim ∧ (zeroEntries lo hi s).ev = s.ev := by
  unfold zeroEntries; simp

set_option maxHeartbeats 60000 in
@[simp] theorem zeroBands_frame (lo hi : Nat) (s : State) :
    (zeroBands lo hi s).pending = s.pending ∧ (zeroBands lo hi s).mail = s.mail ∧ (zeroBands lo hi s).dram = s.dram ∧ (zeroBands lo hi s).job = s.job ∧ (zeroBands lo hi s).page = s.page ∧ (zeroBands lo hi s).flow = s.flow ∧ (zeroBands lo hi s).prog = s.prog ∧ (zeroBands lo hi s).sec = s.sec ∧ (zeroBands lo hi s).tim = s.tim ∧ (zeroBands lo hi s).ev = s.ev := by
  unfold zeroBands; simp

set_option maxHeartbeats 60000 in
@[simp] theorem zeroCache_frame (lo hi : Nat) (s : State) :
    (zeroCache lo hi s).pending = s.pending ∧ (zeroCache lo hi s).mail = s.mail ∧ (zeroCache lo hi s).dram = s.dram ∧ (zeroCache lo hi s).job = s.job ∧ (zeroCache lo hi s).page = s.page ∧ (zeroCache lo hi s).flow = s.flow ∧ (zeroCache lo hi s).prog = s.prog ∧ (zeroCache lo hi s).sec = s.sec ∧ (zeroCache lo hi s).tim = s.tim ∧ (zeroCache lo hi s).ev = s.ev := by
  unfold zeroCache; simp

set_option maxHeartbeats 60000 in
@[simp] theorem zeroDensities_frame (lo hi : Nat) (s : State) :
    (zeroDensities lo hi s).pending = s.pending ∧ (zeroDensities lo hi s).mail = s.mail ∧ (zeroDensities lo hi s).dram = s.dram ∧ (zeroDensities lo hi s).job = s.job ∧ (zeroDensities lo hi s).page = s.page ∧ (zeroDensities lo hi s).flow = s.flow ∧ (zeroDensities lo hi s).prog = s.prog ∧ (zeroDensities lo hi s).sec = s.sec ∧ (zeroDensities lo hi s).tim = s.tim ∧ (zeroDensities lo hi s).ev = s.ev := by
  unfold zeroDensities; simp

set_option maxHeartbeats 60000 in
@[simp] theorem zeroScratch_frame (lo hi : Nat) (s : State) :
    (zeroScratch lo hi s).pending = s.pending ∧ (zeroScratch lo hi s).mail = s.mail ∧ (zeroScratch lo hi s).dram = s.dram ∧ (zeroScratch lo hi s).job = s.job ∧ (zeroScratch lo hi s).page = s.page ∧ (zeroScratch lo hi s).flow = s.flow ∧ (zeroScratch lo hi s).prog = s.prog ∧ (zeroScratch lo hi s).sec = s.sec ∧ (zeroScratch lo hi s).tim = s.tim ∧ (zeroScratch lo hi s).ev = s.ev := by
  unfold zeroScratch; simp

set_option maxHeartbeats 60000 in
@[simp] theorem zeroPages_frame (g first n : Nat) (s : State) :
    (zeroPages g first n s).pending = s.pending ∧ (zeroPages g first n s).mail = s.mail ∧ (zeroPages g first n s).job = s.job ∧ (zeroPages g first n s).page = s.page ∧ (zeroPages g first n s).flow = s.flow ∧ (zeroPages g first n s).prog = s.prog ∧ (zeroPages g first n s).sec = s.sec ∧ (zeroPages g first n s).tim = s.tim ∧ (zeroPages g first n s).ev = s.ev := by
  unfold zeroPages; simp

set_option maxHeartbeats 60000 in
@[simp] theorem memZeroCommand_frame (r : Req) (g first n : Nat) (s : State) :
    (memZeroCommand r g first n s).pending = s.pending ∧ (memZeroCommand r g first n s).job = s.job ∧ (memZeroCommand r g first n s).page = s.page ∧ (memZeroCommand r g first n s).flow = s.flow ∧ (memZeroCommand r g first n s).prog = s.prog ∧ (memZeroCommand r g first n s).sec = s.sec ∧ (memZeroCommand r g first n s).tim = s.tim ∧ (memZeroCommand r g first n s).ev = s.ev := by
  unfold memZeroCommand; simp

set_option maxHeartbeats 60000 in
@[simp] theorem memFillCommand_frame (r : Req) (s : State) :
    (memFillCommand r s).pending = s.pending ∧ (memFillCommand r s).job = s.job ∧ (memFillCommand r s).page = s.page ∧ (memFillCommand r s).flow = s.flow ∧ (memFillCommand r s).prog = s.prog ∧ (memFillCommand r s).sec = s.sec ∧ (memFillCommand r s).tim = s.tim ∧ (memFillCommand r s).ev = s.ev := by
  unfold memFillCommand; simp

set_option maxHeartbeats 60000 in
@[simp] theorem ackActs_frame (n : Nat) (s : State) :
    (ackActs n s).pending = s.pending ∧ (ackActs n s).dram = s.dram ∧ (ackActs n s).job = s.job ∧ (ackActs n s).page = s.page ∧ (ackActs n s).prog = s.prog ∧ (ackActs n s).sec = s.sec := by
  unfold ackActs; simp

set_option maxHeartbeats 60000 in
@[simp] theorem clearEvents_frame (m : BitVec 96) (s : State) :
    (clearEvents m s).pending = s.pending ∧ (clearEvents m s).dram = s.dram ∧ (clearEvents m s).job = s.job ∧ (clearEvents m s).page = s.page ∧ (clearEvents m s).prog = s.prog ∧ (clearEvents m s).sec = s.sec := by
  unfold clearEvents; simp

set_option maxHeartbeats 60000 in
@[simp] theorem eventAckCommand_frame (r : Req) (mask : BitVec 96) (seen : Nat) (s : State) :
    (eventAckCommand r mask seen s).pending = s.pending ∧ (eventAckCommand r mask seen s).dram = s.dram ∧ (eventAckCommand r mask seen s).job = s.job ∧ (eventAckCommand r mask seen s).page = s.page ∧ (eventAckCommand r mask seen s).prog = s.prog ∧ (eventAckCommand r mask seen s).sec = s.sec := by
  unfold eventAckCommand; simp

set_option maxHeartbeats 60000 in
@[simp] theorem nopCommand_frame (r : Req) (s : State) :
    (nopCommand r s).pending = s.pending ∧ (nopCommand r s).dram = s.dram ∧ (nopCommand r s).job = s.job ∧ (nopCommand r s).page = s.page ∧ (nopCommand r s).flow = s.flow ∧ (nopCommand r s).prog = s.prog ∧ (nopCommand r s).sec = s.sec ∧ (nopCommand r s).tim = s.tim ∧ (nopCommand r s).ev = s.ev := by
  unfold nopCommand; simp

set_option maxHeartbeats 60000 in
@[simp] theorem storedCfgCommand_frame (r : Req) (write order : Nat) (s : State) :
    (storedCfgCommand r write order s).pending = s.pending ∧ (storedCfgCommand r write order s).dram = s.dram ∧ (storedCfgCommand r write order s).job = s.job ∧ (storedCfgCommand r write order s).page = s.page ∧ (storedCfgCommand r write order s).flow = s.flow ∧ (storedCfgCommand r write order s).prog = s.prog ∧ (storedCfgCommand r write order s).sec = s.sec ∧ (storedCfgCommand r write order s).tim = s.tim ∧ (storedCfgCommand r write order s).ev = s.ev := by
  unfold storedCfgCommand; simp

set_option maxHeartbeats 60000 in
@[simp] theorem restEnterCommand_frame (r : Req) (delay : Nat) (s : State) :
    (restEnterCommand r delay s).pending = s.pending ∧ (restEnterCommand r delay s).dram = s.dram ∧ (restEnterCommand r delay s).job = s.job ∧ (restEnterCommand r delay s).page = s.page ∧ (restEnterCommand r delay s).flow = s.flow ∧ (restEnterCommand r delay s).prog = s.prog ∧ (restEnterCommand r delay s).sec = s.sec ∧ (restEnterCommand r delay s).tim = s.tim ∧ (restEnterCommand r delay s).ev = s.ev := by
  unfold restEnterCommand; simp

set_option maxHeartbeats 60000 in
@[simp] theorem voteSetCommand_frame (r : Req) (mask vote : Word) (s : State) :
    (voteSetCommand r mask vote s).pending = s.pending ∧ (voteSetCommand r mask vote s).dram = s.dram ∧ (voteSetCommand r mask vote s).job = s.job ∧ (voteSetCommand r mask vote s).page = s.page ∧ (voteSetCommand r mask vote s).flow = s.flow ∧ (voteSetCommand r mask vote s).prog = s.prog ∧ (voteSetCommand r mask vote s).sec = s.sec := by
  unfold voteSetCommand; simp

set_option maxHeartbeats 60000 in
@[simp] theorem supplyCfgCommand_frame (r : Req) (auto : Nat) (s : State) :
    (supplyCfgCommand r auto s).pending = s.pending ∧ (supplyCfgCommand r auto s).dram = s.dram ∧ (supplyCfgCommand r auto s).job = s.job ∧ (supplyCfgCommand r auto s).page = s.page ∧ (supplyCfgCommand r auto s).flow = s.flow ∧ (supplyCfgCommand r auto s).prog = s.prog ∧ (supplyCfgCommand r auto s).sec = s.sec ∧ (supplyCfgCommand r auto s).tim = s.tim ∧ (supplyCfgCommand r auto s).ev = s.ev := by
  unfold supplyCfgCommand; simp

set_option maxHeartbeats 60000 in
@[simp] theorem eventTestCommand_frame (r : Req) (s : State) :
    (eventTestCommand r s).pending = s.pending ∧ (eventTestCommand r s).dram = s.dram ∧ (eventTestCommand r s).job = s.job ∧ (eventTestCommand r s).page = s.page ∧ (eventTestCommand r s).flow = s.flow ∧ (eventTestCommand r s).prog = s.prog ∧ (eventTestCommand r s).sec = s.sec ∧ (eventTestCommand r s).tim = s.tim := by
  unfold eventTestCommand; simp

set_option maxHeartbeats 60000 in
@[simp] theorem bar0Word_frame (a : Nat) (s : State) :
    (bar0Word a s).1.pending = s.pending ∧ (bar0Word a s).1.mail = s.mail ∧ (bar0Word a s).1.dram = s.dram ∧ (bar0Word a s).1.job = s.job ∧ (bar0Word a s).1.page = s.page ∧ (bar0Word a s).1.flow = s.flow ∧ (bar0Word a s).1.prog = s.prog ∧ (bar0Word a s).1.sec = s.sec ∧ (bar0Word a s).1.tim = s.tim ∧ (bar0Word a s).1.ev = s.ev := by
  unfold bar0Word; (repeat' split) <;> simp

@[simp] theorem bar0Words_pending (as : List Nat) (s : State) : (bar0Words as s).1.pending = s.pending := by
  induction as generalizing s with
  | nil => rfl
  | cons a as ih => simp only [bar0Words]; rw [ih]; simp

@[simp] theorem bar0Words_mail (as : List Nat) (s : State) : (bar0Words as s).1.mail = s.mail := by
  induction as generalizing s with
  | nil => rfl
  | cons a as ih => simp only [bar0Words]; rw [ih]; simp

@[simp] theorem bar0Words_dram (as : List Nat) (s : State) : (bar0Words as s).1.dram = s.dram := by
  induction as generalizing s with
  | nil => rfl
  | cons a as ih => simp only [bar0Words]; rw [ih]; simp

@[simp] theorem bar0Words_job (as : List Nat) (s : State) : (bar0Words as s).1.job = s.job := by
  induction as generalizing s with
  | nil => rfl
  | cons a as ih => simp only [bar0Words]; rw [ih]; simp

@[simp] theorem bar0Words_page (as : List Nat) (s : State) : (bar0Words as s).1.page = s.page := by
  induction as generalizing s with
  | nil => rfl
  | cons a as ih => simp only [bar0Words]; rw [ih]; simp

@[simp] theorem bar0Words_flow (as : List Nat) (s : State) : (bar0Words as s).1.flow = s.flow := by
  induction as generalizing s with
  | nil => rfl
  | cons a as ih => simp only [bar0Words]; rw [ih]; simp

@[simp] theorem bar0Words_prog (as : List Nat) (s : State) : (bar0Words as s).1.prog = s.prog := by
  induction as generalizing s with
  | nil => rfl
  | cons a as ih => simp only [bar0Words]; rw [ih]; simp

@[simp] theorem bar0Words_sec (as : List Nat) (s : State) : (bar0Words as s).1.sec = s.sec := by
  induction as generalizing s with
  | nil => rfl
  | cons a as ih => simp only [bar0Words]; rw [ih]; simp

@[simp] theorem bar0Words_tim (as : List Nat) (s : State) : (bar0Words as s).1.tim = s.tim := by
  induction as generalizing s with
  | nil => rfl
  | cons a as ih => simp only [bar0Words]; rw [ih]; simp

@[simp] theorem bar0Words_ev (as : List Nat) (s : State) : (bar0Words as s).1.ev = s.ev := by
  induction as generalizing s with
  | nil => rfl
  | cons a as ih => simp only [bar0Words]; rw [ih]; simp


set_option maxHeartbeats 60000 in
@[simp] theorem hostRead_frame (addr size : Nat) (s : State) :
    (hostRead addr size s).pending = s.pending ∧ (hostRead addr size s).mail = s.mail ∧ (hostRead addr size s).dram = s.dram ∧ (hostRead addr size s).job = s.job ∧ (hostRead addr size s).page = s.page ∧ (hostRead addr size s).flow = s.flow ∧ (hostRead addr size s).prog = s.prog ∧ (hostRead addr size s).sec = s.sec ∧ (hostRead addr size s).tim = s.tim ∧ (hostRead addr size s).ev = s.ev := by
  unfold hostRead; simp

set_option maxHeartbeats 60000 in
@[simp] theorem analogCalFree_frame (r : Req) (s : State) :
    (analogCalFree r s).pending = s.pending ∧ (analogCalFree r s).dram = s.dram ∧ (analogCalFree r s).job = s.job ∧ (analogCalFree r s).page = s.page ∧ (analogCalFree r s).flow = s.flow ∧ (analogCalFree r s).prog = s.prog ∧ (analogCalFree r s).sec = s.sec := by
  unfold analogCalFree; simp

@[simp] theorem fwRun_frame (i : Instr) (s : State) : (fwRun i s).pending = s.pending := by
  cases i <;> simp [fwRun]


set_option maxHeartbeats 60000 in
@[simp] theorem takeSlot_frame (n : Fin 16) (s : State) :
    (takeSlot n s).pending = s.pending := by
  simp only [takeSlot]
  split
  · simp
  · generalize requestOf n (slotOf s n) = q
    cases q <;> simp

set_option maxHeartbeats 60000 in
@[simp] theorem takeWaiting_frame (x0 : Nat) (x1 : State) :
    (takeWaiting x0 x1).pending = x1.pending := by
  induction x0 generalizing x1 with
  | zero => simp [takeWaiting]
  | succ n ih => unfold takeWaiting; (try dsimp only); (repeat' split) <;> simp [ih]

set_option maxHeartbeats 60000 in
@[simp] theorem takeDoorbells_frame (s : State) :
    (takeDoorbells s).pending = s.pending := by
  unfold takeDoorbells; simp

set_option maxHeartbeats 60000 in
@[simp] theorem overrun_frame (s : State) :
    (overrun s).pending = s.pending ∧ (overrun s).mail = s.mail ∧ (overrun s).dram = s.dram ∧ (overrun s).job = s.job ∧ (overrun s).page = s.page ∧ (overrun s).flow = s.flow ∧ (overrun s).prog = s.prog ∧ (overrun s).sec = s.sec ∧ (overrun s).tim = s.tim := by
  unfold overrun; simp

set_option maxHeartbeats 60000 in
@[simp] theorem doorbell_frame (n : Fin 16) (s : State) :
    (doorbell n s).pending = s.pending := by
  unfold doorbell; simp

set_option maxHeartbeats 60000 in
@[simp] theorem dropHostWrite_frame (s : State) :
    (dropHostWrite s).pending = s.pending ∧ (dropHostWrite s).mail = s.mail ∧ (dropHostWrite s).dram = s.dram ∧ (dropHostWrite s).job = s.job ∧ (dropHostWrite s).page = s.page ∧ (dropHostWrite s).flow = s.flow ∧ (dropHostWrite s).prog = s.prog ∧ (dropHostWrite s).sec = s.sec ∧ (dropHostWrite s).tim = s.tim ∧ (dropHostWrite s).ev = s.ev := by
  unfold dropHostWrite; simp

set_option maxHeartbeats 60000 in
@[simp] theorem bar0Put_frame (addr : Nat) (v : Word) (s : State) :
    (bar0Put addr v s).pending = s.pending := by
  unfold bar0Put; simp

set_option maxHeartbeats 60000 in
@[simp] theorem hostWrite_frame (addr size : Nat) (v : DWord) (s : State) :
    (hostWrite addr size v s).pending = s.pending := by
  unfold hostWrite; simp

set_option maxHeartbeats 60000 in
@[simp] theorem hostDo_frame (i : Instr) (s : State) :
    (hostDo i s).pending = s.pending := by
  unfold hostDo; (repeat' split) <;> simp

set_option maxHeartbeats 60000 in
@[simp] theorem hostAccess_frame (i : Instr) (s : State) :
    (hostAccess i s).pending = s.pending := by
  unfold hostAccess; simp

set_option maxHeartbeats 60000 in
@[simp] theorem registerWrite_frame (a : RegAccess) (v : DWord) (s : State) :
    (registerWrite a v s).pending = s.pending := by
  unfold registerWrite; (repeat' split) <;> simp

set_option maxHeartbeats 60000 in
@[simp] theorem registerRead_frame (a : RegAccess) (s : State) :
    (registerRead a s).pending = s.pending := by
  unfold registerRead; (repeat' split) <;> simp

set_option maxHeartbeats 60000 in
@[simp] theorem wakeServes_frame (lostBanks : BitVec 96) (lostRegions : BitVec 16) (s : State) :
    (wakeServes lostBanks lostRegions s).pending = s.pending := by
  unfold wakeServes; simp

end Sys2Proof.Machine
end

