-- ==== Sys2Proof/Laws/Canon5.lean ====
section
/-!
SUPPORT. The canonical form is kept by the operations of these files, one lemma per operation, for the simplifier.
-/

namespace Sys2Proof.Machine

set_option Elab.async false

set_option maxHeartbeats 80000 in
@[simp] theorem keptBase_canon (s : State) (hc : s.canonical) :
    (keptBase s).canonical := by
  exact ⟨rfl, rfl⟩

set_option maxHeartbeats 80000 in
@[simp] theorem resetHeld_canon (s : State) (hc : s.canonical) :
    (resetHeld s).canonical := by
  unfold resetHeld; (try dsimp only); (repeat' split) <;> simp_all (maxDischargeDepth := 60)

set_option maxHeartbeats 80000 in
@[simp] theorem putCause_canon (por brownout mrst retention : Nat) (s : State) (hc : s.canonical) :
    (putCause por brownout mrst retention s).canonical := by
  unfold putCause; simp (maxDischargeDepth := 60) [hc]

set_option maxHeartbeats 80000 in
@[simp] theorem powerOnReset_canon (c : PorCause) (s : State) (hc : s.canonical) :
    (powerOnReset c s).canonical := by
  unfold powerOnReset; (repeat' split) <;> simp (maxDischargeDepth := 60) [hc]

set_option maxHeartbeats 80000 in
@[simp] theorem supplyStands_canon (s t : State) (hc : t.canonical) :
    (supplyStands s t).canonical := by
  unfold supplyStands; simp (maxDischargeDepth := 60) [hc]

set_option maxHeartbeats 80000 in
@[simp] theorem mrstReset_canon (retention : Bool) (s : State) (hc : s.canonical) :
    (mrstReset retention s).canonical := by
  unfold mrstReset; simp (maxDischargeDepth := 60) [hc]

set_option maxHeartbeats 80000 in
@[simp] theorem mrst_canon (s : State) (hc : s.canonical) :
    (mrst s).canonical := by
  unfold mrst; simp (maxDischargeDepth := 60) [hc]

set_option maxHeartbeats 80000 in
@[simp] theorem bootStart_canon (straps : BitVec 2) (s : State) (hc : s.canonical) :
    (bootStart straps s).canonical := by
  unfold bootStart; simp (maxDischargeDepth := 60) [hc]

set_option maxHeartbeats 80000 in
@[simp] theorem porRelease_canon (straps : BitVec 2) (s : State) (hc : s.canonical) :
    (porRelease straps s).canonical := by
  unfold porRelease; simp (maxDischargeDepth := 60) [hc]

set_option maxHeartbeats 80000 in
@[simp] theorem mrstRelease_canon (straps : BitVec 2) (s : State) (hc : s.canonical) :
    (mrstRelease straps s).canonical := by
  unfold mrstRelease; simp (maxDischargeDepth := 60) [hc]

set_option maxHeartbeats 80000 in
@[simp] theorem retentionReset_canon (s : State) (hc : s.canonical) :
    (retentionReset s).canonical := by
  unfold retentionReset; simp (maxDischargeDepth := 60) [hc]

set_option maxHeartbeats 80000 in
@[simp] theorem leaveService_canon (s : State) (hc : s.canonical) :
    (leaveService s).canonical := by
  unfold leaveService; simp (maxDischargeDepth := 60) [hc]

set_option maxHeartbeats 80000 in
@[simp] theorem serviceEnterCommand_canon (r : Req) (s : State) (hc : s.canonical) :
    (serviceEnterCommand r s).canonical := by
  unfold serviceEnterCommand; (try dsimp only); (repeat' split) <;> simp_all (maxDischargeDepth := 60)

set_option maxHeartbeats 80000 in
@[simp] theorem serviceExitCommand_canon (r : Req) (s : State) (hc : s.canonical) :
    (serviceExitCommand r s).canonical := by
  unfold serviceExitCommand; (try dsimp only); (repeat' split) <;> simp_all (maxDischargeDepth := 60)

set_option maxHeartbeats 80000 in
@[simp] theorem serviceExitDue_canon (s : State) (hc : s.canonical) :
    (serviceExitDue s).canonical := by
  unfold serviceExitDue; (repeat' split) <;> simp (maxDischargeDepth := 60) [hc]

set_option maxHeartbeats 80000 in
@[simp] theorem startLogic_canon (m : BitVec 9) (s : State) (hc : s.canonical) :
    (startLogic m s).canonical := by
  unfold startLogic; simp (maxDischargeDepth := 60) [hc]

set_option maxHeartbeats 80000 in
@[simp] theorem startMemory_canon (s : State) (hc : s.canonical) :
    (startMemory s).canonical := by
  unfold startMemory; simp (maxDischargeDepth := 60) [hc]

set_option maxHeartbeats 80000 in
@[simp] theorem startBist_canon (kind : Nat) (m : BitVec 9) (s : State) (hc : s.canonical) :
    (startBist kind m s).canonical := by
  unfold startBist; simp (maxDischargeDepth := 60) [hc]

set_option maxHeartbeats 80000 in
@[simp] theorem bistRunWith_canon (slot : Fin 16) (kind domains : Nat) (s : State) (hc : s.canonical) :
    (bistRunWith slot kind domains s).canonical := by
  unfold bistRunWith; (repeat' split) <;> simp (maxDischargeDepth := 60) [hc]

set_option maxHeartbeats 80000 in
@[simp] theorem bistRunCommand_canon (r : Req) (kind domains : Nat) (s : State) (hc : s.canonical) :
    (bistRunCommand r kind domains s).canonical := by
  unfold bistRunCommand; (try dsimp only); (repeat' split) <;> simp_all (maxDischargeDepth := 60)

set_option maxHeartbeats 80000 in
@[simp] theorem bistFollows_canon (s : State) (hc : s.canonical) :
    (bistFollows s).canonical := by
  unfold bistFollows; (repeat' split) <;> simp (maxDischargeDepth := 60) [hc]

set_option maxHeartbeats 80000 in
@[simp] theorem renewDomain_canon (d : Nat) (s : State) (hc : s.canonical) :
    (renewDomain d s).canonical := by
  unfold renewDomain; simp (maxDischargeDepth := 60) [hc]

set_option maxHeartbeats 80000 in
@[simp] theorem bistReport_canon (failed : Bool) (s : State) (hc : s.canonical) :
    (bistReport failed s).canonical := by
  unfold bistReport; simp (maxDischargeDepth := 60) [hc]

set_option maxHeartbeats 80000 in
@[simp] theorem logicResult_canon (m bad : BitVec 9) (misr : DWord) (s : State) (hc : s.canonical) :
    (logicResult m bad misr s).canonical := by
  unfold logicResult; (try dsimp only); (repeat' split) <;> simp_all (maxDischargeDepth := 60)

set_option maxHeartbeats 80000 in
@[simp] theorem logicEnds_canon (m failed : BitVec 9) (misr : DWord) (s : State) (hc : s.canonical) :
    (logicEnds m failed misr s).canonical := by
  unfold logicEnds; (repeat' split) <;> simp (maxDischargeDepth := 60) [hc]

set_option maxHeartbeats 80000 in
@[simp] theorem memFails_canon (u : MemUnit) (s : State) (hc : s.canonical) :
    (memFails u s).canonical := by
  unfold memFails; (repeat' split) <;> simp (maxDischargeDepth := 60) [hc]

set_option maxHeartbeats 80000 in
@[simp] theorem memoryEnds_canon (fail : Option MemUnit) (s : State) (hc : s.canonical) :
    (memoryEnds fail s).canonical := by
  unfold memoryEnds; (repeat' split) <;> simp (maxDischargeDepth := 60) [hc]

set_option maxHeartbeats 80000 in
@[simp] theorem bistComplete_canon (failed : BitVec 9) (misr : DWord) (memFail : Option MemUnit) (s : State) (hc : s.canonical) :
    (bistComplete failed misr memFail s).canonical := by
  unfold bistComplete; (repeat' split) <;> simp (maxDischargeDepth := 60) [hc]

set_option maxHeartbeats 80000 in
@[simp] theorem bistAfterRestart_canon (s : State) (hc : s.canonical) :
    (bistAfterRestart s).canonical := by
  unfold bistAfterRestart; (repeat' split) <;> simp (maxDischargeDepth := 60) [hc]

set_option maxHeartbeats 80000 in
@[simp] theorem proctorRestartEnd_canon (s : State) (hc : s.canonical) :
    (proctorRestartEnd s).canonical := by
  unfold proctorRestartEnd; simp (maxDischargeDepth := 60) [hc]

set_option maxHeartbeats 80000 in
@[simp] theorem bootTested_canon (n : Nat) (spares : List (Nat × Nat)) (s : State) (hc : s.canonical) :
    (bootTested n spares s).canonical := by
  unfold bootTested; simp (maxDischargeDepth := 60) [hc]

set_option maxHeartbeats 80000 in
@[simp] theorem bootFaultShows_canon (f : BootFault) (spares : List (Nat × Nat)) (s : State) (hc : s.canonical) :
    (bootFaultShows f spares s).canonical := by
  unfold bootFaultShows; (repeat' split) <;> simp (maxDischargeDepth := 60) [hc]

set_option maxHeartbeats 80000 in
@[simp] theorem bootStepFails_canon (step : Nat) (f : BootFault) (spares : List (Nat × Nat)) (s : State) (hc : s.canonical) :
    (bootStepFails step f spares s).canonical := by
  unfold bootStepFails; simp (maxDischargeDepth := 60) [hc]

set_option maxHeartbeats 80000 in
@[simp] theorem bootOrder_canon (s : State) (hc : s.canonical) :
    (bootOrder s).canonical := by
  unfold bootOrder; simp (maxDischargeDepth := 60) [hc]

set_option maxHeartbeats 80000 in
@[simp] theorem bootOver_canon (spares : List (Nat × Nat)) (s : State) (hc : s.canonical) :
    (bootOver spares s).canonical := by
  unfold bootOver; simp (maxDischargeDepth := 60) [hc]

set_option maxHeartbeats 80000 in
@[simp] theorem bootFillEnds_canon (fault : Option (Nat × BootFault)) (spares : List (Nat × Nat)) (s : State) (hc : s.canonical) :
    (bootFillEnds fault spares s).canonical := by
  unfold bootFillEnds; (repeat' split) <;> simp (maxDischargeDepth := 60) [hc]

set_option maxHeartbeats 80000 in
@[simp] theorem laterFillEnds_canon (s : State) (hc : s.canonical) :
    (laterFillEnds s).canonical := by
  unfold laterFillEnds; simp (maxDischargeDepth := 60) [hc]

set_option maxHeartbeats 80000 in
@[simp] theorem dramFillComplete_canon (fault : Option (Nat × BootFault)) (spares : List (Nat × Nat)) (s : State) (hc : s.canonical) :
    (dramFillComplete fault spares s).canonical := by
  unfold dramFillComplete; simp (maxDischargeDepth := 60) [hc]

set_option maxHeartbeats 80000 in
@[simp] theorem dipActs_canon (t : Int) (s : State) (hc : s.canonical) :
    (dipActs t s).canonical := by
  unfold dipActs; simp (maxDischargeDepth := 60) [hc]

set_option maxHeartbeats 80000 in
@[simp] theorem vinBelowWarning_canon (t : Int) (s : State) (hc : s.canonical) :
    (vinBelowWarning t s).canonical := by
  unfold vinBelowWarning; simp (maxDischargeDepth := 60) [hc]

set_option maxHeartbeats 80000 in
@[simp] theorem supplyRecovery_canon (s : State) (hc : s.canonical) :
    (supplyRecovery s).canonical := by
  unfold supplyRecovery; simp (maxDischargeDepth := 60) [hc]

set_option maxHeartbeats 80000 in
@[simp] theorem vinCrossing_canon (mv : Nat) (s : State) (hc : s.canonical) :
    (vinCrossing mv s).canonical := by
  unfold vinCrossing; simp (maxDischargeDepth := 60) [hc]

set_option maxHeartbeats 80000 in
@[simp] theorem railBelow_canon (r : Nat) (s : State) (hc : s.canonical) :
    (railBelow r s).canonical := by
  unfold railBelow; simp (maxDischargeDepth := 60) [hc]

set_option maxHeartbeats 80000 in
@[simp] theorem railSample_canon (mv : List Nat) (s : State) (hc : s.canonical) :
    (railSample mv s).canonical := by
  unfold railSample; (try dsimp only); (repeat' split) <;> simp_all (maxDischargeDepth := 60)

set_option maxHeartbeats 80000 in
@[simp] theorem opticsUnlock_canon (s : State) (hc : s.canonical) :
    (opticsUnlock s).canonical := by
  unfold opticsUnlock; simp (maxDischargeDepth := 60) [hc]

set_option maxHeartbeats 80000 in
@[simp] theorem ethLink_canon (up : Bool) (s : State) (hc : s.canonical) :
    (ethLink up s).canonical := by
  unfold ethLink; simp (maxDischargeDepth := 60) [hc]

set_option maxHeartbeats 80000 in
@[simp] theorem portsDown_canon (s : State) (hc : s.canonical) :
    (portsDown s).canonical := by
  unfold portsDown; simp (maxDischargeDepth := 60) [hc]

set_option maxHeartbeats 80000 in
@[simp] theorem unlockActs_canon (n : Nat) (s : State) (hc : s.canonical) :
    (unlockActs n s).canonical := by
  unfold unlockActs; simp (maxDischargeDepth := 60) [hc]

set_option maxHeartbeats 80000 in
@[simp] theorem unlockOne_canon (s : State) (n : Nat) (hc : s.canonical) :
    (unlockOne s n).canonical := by
  unfold unlockOne; simp (maxDischargeDepth := 60) [hc]

set_option maxHeartbeats 80000 in
@[simp] theorem opticsRelock_canon (s : State) (hc : s.canonical) :
    (opticsRelock s).canonical := by
  unfold opticsRelock; (try dsimp only); (repeat' split) <;> simp_all (maxDischargeDepth := 60)

set_option maxHeartbeats 80000 in
@[simp] theorem relockOne_canon (s : State) (n : Nat) (hc : s.canonical) :
    (relockOne s n).canonical := by
  unfold relockOne; simp (maxDischargeDepth := 60) [hc]

set_option maxHeartbeats 80000 in
@[simp] theorem pcieUp_canon (link : PcieTraining) (width : PcieWidth) (s : State) (hc : s.canonical) :
    (pcieUp link width s).canonical := by
  unfold pcieUp; simp (maxDischargeDepth := 60) [hc]

set_option maxHeartbeats 80000 in
@[simp] theorem tempLimits_canon (warn trip : Bool) (s : State) (hc : s.canonical) :
    (tempLimits warn trip s).canonical := by
  unfold tempLimits; simp (maxDischargeDepth := 60) [hc]

set_option maxHeartbeats 80000 in
@[simp] theorem dieSamples_canon (ts : List Int) (s : State) (hc : s.canonical) :
    (dieSamples ts s).canonical := by
  unfold dieSamples; (try dsimp only); (repeat' split) <;> simp_all (maxDischargeDepth := 60)

set_option maxHeartbeats 80000 in
@[simp] theorem dieTemps_canon (ts : List Int) (s : State) (hc : s.canonical) :
    (dieTemps ts s).canonical := by
  unfold dieTemps; simp (maxDischargeDepth := 60) [hc]

set_option maxHeartbeats 80000 in
@[simp] theorem writeDiag_canon (bs : List Byte) (s : State) (hc : s.canonical) :
    (writeDiag bs s).canonical := by
  unfold writeDiag; simp (maxDischargeDepth := 60) [hc]

set_option maxHeartbeats 80000 in
@[simp] theorem putChunk_canon (bs : List Byte) (s : State) (hc : s.canonical) :
    (putChunk bs s).canonical := by
  unfold putChunk; simp (maxDischargeDepth := 60) [hc]

set_option maxHeartbeats 80000 in
@[simp] theorem diagSnapshot_canon (s : State) (hc : s.canonical) :
    (diagSnapshot s).canonical := by
  unfold diagSnapshot; simp (maxDischargeDepth := 60) [hc]

set_option maxHeartbeats 80000 in
@[simp] theorem updRest_canon (f : Rest → Rest) (s : State) (hc : s.canonical) :
    (updRest f s).canonical := by
  unfold updRest; simp (maxDischargeDepth := 60) [hc]

set_option maxHeartbeats 80000 in
@[simp] theorem dmaPor_canon (s : State) (hc : s.canonical) :
    (dmaPor s).canonical := by
  unfold dmaPor; (try dsimp only); (repeat' split) <;> simp_all (maxDischargeDepth := 60)

set_option maxHeartbeats 80000 in
@[simp] theorem clearMail_canon (s : State) (hc : s.canonical) :
    (clearMail s).canonical := by
  unfold clearMail; simp (maxDischargeDepth := 60) [hc]

set_option maxHeartbeats 80000 in
@[simp] theorem linkResetActs_canon (s : State) (hc : s.canonical) :
    (linkResetActs s).canonical := by
  unfold linkResetActs; simp (maxDischargeDepth := 60) [hc]

set_option maxHeartbeats 80000 in
@[simp] theorem linkResetDue_canon (s : State) (hc : s.canonical) :
    (linkResetDue s).canonical := by
  unfold linkResetDue; (repeat' split) <;> simp (maxDischargeDepth := 60) [hc]

set_option maxHeartbeats 80000 in
@[simp] theorem abandonDecodes_canon (s : State) (hc : s.canonical) :
    (abandonDecodes s).canonical := by
  unfold abandonDecodes; simp (maxDischargeDepth := 60) [hc]

set_option maxHeartbeats 80000 in
@[simp] theorem stopMotion_canon (s : State) (hc : s.canonical) :
    (stopMotion s).canonical := by
  unfold stopMotion; (try dsimp only); (repeat' split) <;> simp_all (maxDischargeDepth := 60)

set_option maxHeartbeats 80000 in
@[simp] theorem restStarts_canon (s : State) (hc : s.canonical) :
    (restStarts s).canonical := by
  unfold restStarts; (repeat' split) <;> simp (maxDischargeDepth := 60) [hc]

set_option maxHeartbeats 80000 in
@[simp] theorem checkpoint_canon (s : State) (hc : s.canonical) :
    (checkpoint s).canonical := by
  unfold checkpoint; simp (maxDischargeDepth := 60) [hc]

set_option maxHeartbeats 80000 in
@[simp] theorem dropBanks_canon (s : State) (hc : s.canonical) :
    (dropBanks s).canonical := by
  unfold dropBanks; (try dsimp only); (repeat' split) <;> simp_all (maxDischargeDepth := 60)

set_option maxHeartbeats 80000 in
@[simp] theorem restCounters_canon (s : State) (hc : s.canonical) :
    (restCounters s).canonical := by
  unfold restCounters; (try dsimp only); (repeat' split) <;> simp_all (maxDischargeDepth := 60)

set_option maxHeartbeats 80000 in
@[simp] theorem windowRest_canon (s : State) (hc : s.canonical) :
    (windowRest s).canonical := by
  unfold windowRest; (repeat' split) <;> simp (maxDischargeDepth := 60) [hc]

set_option maxHeartbeats 80000 in
@[simp] theorem restDomain_canon (s : State) (d : Nat) (hc : s.canonical) :
    (restDomain s d).canonical := by
  unfold restDomain; simp (maxDischargeDepth := 60) [hc]

set_option maxHeartbeats 80000 in
@[simp] theorem restDrops_canon (s : State) (hc : s.canonical) :
    (restDrops s).canonical := by
  unfold restDrops; simp (maxDischargeDepth := 60) [hc]

set_option maxHeartbeats 80000 in
@[simp] theorem enterSelfRefresh_canon (s : State) (hc : s.canonical) :
    (enterSelfRefresh s).canonical := by
  unfold enterSelfRefresh; (try dsimp only); (repeat' split) <;> simp_all (maxDischargeDepth := 60)

set_option maxHeartbeats 80000 in
@[simp] theorem stageDone_canon (s : State) (hc : s.canonical) :
    (stageDone s).canonical := by
  unfold stageDone; (repeat' split) <;> simp (maxDischargeDepth := 60) [hc]

set_option maxHeartbeats 80000 in
@[simp] theorem dipDue_canon (s : State) (hc : s.canonical) :
    (dipDue s).canonical := by
  unfold dipDue; simp (maxDischargeDepth := 60) [hc]

set_option maxHeartbeats 80000 in
@[simp] theorem unwind_canon (s : State) (hc : s.canonical) :
    (unwind s).canonical := by
  unfold unwind; simp (maxDischargeDepth := 60) [hc]

set_option maxHeartbeats 80000 in
@[simp] theorem stageOverrun_canon (s : State) (hc : s.canonical) :
    (stageOverrun s).canonical := by
  unfold stageOverrun; simp (maxDischargeDepth := 60) [hc]

set_option maxHeartbeats 80000 in
@[simp] theorem restWake_canon (src : WakeSource) (s : State) (hc : s.canonical) :
    (restWake src s).canonical := by
  unfold restWake; simp (maxDischargeDepth := 60) [hc]

set_option maxHeartbeats 80000 in
@[simp] theorem hostTouch_canon (s : State) (hc : s.canonical) :
    (hostTouch s).canonical := by
  unfold hostTouch; simp (maxDischargeDepth := 60) [hc]

set_option maxHeartbeats 80000 in
@[simp] theorem hostLinkReset_canon (k : LinkReset) (s : State) (hc : s.canonical) :
    (hostLinkReset k s).canonical := by
  unfold hostLinkReset; simp (maxDischargeDepth := 60) [hc]

set_option maxHeartbeats 80000 in
@[simp] theorem wakeTime_canon (s : State) (hc : s.canonical) :
    (wakeTime s).canonical := by
  unfold wakeTime; simp (maxDischargeDepth := 60) [hc]

set_option maxHeartbeats 80000 in
@[simp] theorem stallSteps_canon (s : State) (hc : s.canonical) :
    (stallSteps s).canonical := by
  unfold stallSteps; (try dsimp only); (repeat' split) <;> simp_all (maxDischargeDepth := 60)

set_option maxHeartbeats 80000 in
@[simp] theorem wakeDomain_canon (s : State) (d : Nat) (hc : s.canonical) :
    (wakeDomain s d).canonical := by
  unfold wakeDomain; simp (maxDischargeDepth := 60) [hc]

set_option maxHeartbeats 80000 in
@[simp] theorem wakeDomains_canon (s : State) (hc : s.canonical) :
    (wakeDomains s).canonical := by
  unfold wakeDomains; simp (maxDischargeDepth := 60) [hc]

set_option maxHeartbeats 80000 in
@[simp] theorem revertJob_canon (s : State) (hc : s.canonical) :
    (revertJob s).canonical := by
  unfold revertJob; simp (maxDischargeDepth := 60) [hc]

set_option maxHeartbeats 80000 in
@[simp] theorem recordLost_canon (banks : BitVec 96) (regions : BitVec 16) (s : State) (hc : s.canonical) :
    (recordLost banks regions s).canonical := by
  unfold recordLost; (try dsimp only); (repeat' split) <;> simp_all (maxDischargeDepth := 60)

set_option maxHeartbeats 80000 in
@[simp] theorem restoreCopies_canon (s : State) (hc : s.canonical) :
    (restoreCopies s).canonical := by
  unfold restoreCopies; (repeat' split) <;> simp (maxDischargeDepth := 60) [hc]

set_option maxHeartbeats 80000 in
@[simp] theorem copiedCheckpoint_canon (s : State) (hc : s.canonical) :
    (copiedCheckpoint s).canonical := by
  unfold copiedCheckpoint; (repeat' split) <;> simp (maxDischargeDepth := 60) [hc]

set_option maxHeartbeats 80000 in
@[simp] theorem loseLogStore_canon (s : State) (hc : s.canonical) :
    (loseLogStore s).canonical := by
  unfold loseLogStore; simp (maxDischargeDepth := 60) [hc]

set_option maxHeartbeats 80000 in
@[simp] theorem wakeRestart_canon (gone : Bool) (s : State) (hc : s.canonical) :
    (wakeRestart gone s).canonical := by
  unfold wakeRestart; simp (maxDischargeDepth := 60) [hc]

set_option maxHeartbeats 80000 in
@[simp] theorem backFromRest_canon (s : State) (hc : s.canonical) :
    (backFromRest s).canonical := by
  unfold backFromRest; simp (maxDischargeDepth := 60) [hc]

set_option maxHeartbeats 80000 in
@[simp] theorem wakeComplete_canon (lostBanks : BitVec 96) (lostRegions : BitVec 16) (s : State) (hc : s.canonical) :
    (wakeComplete lostBanks lostRegions s).canonical := by
  unfold wakeComplete; simp (maxDischargeDepth := 60) [hc]

set_option maxHeartbeats 80000 in
@[simp] theorem domainSync_canon (d : Nat) (s : State) (hc : s.canonical) :
    (domainSync d s).canonical := by
  unfold domainSync; simp (maxDischargeDepth := 60) [hc]

set_option maxHeartbeats 80000 in
@[simp] theorem domainUp_canon (d : Nat) (s : State) (hc : s.canonical) :
    (domainUp d s).canonical := by
  unfold domainUp; simp (maxDischargeDepth := 60) [hc]

set_option maxHeartbeats 80000 in
@[simp] theorem certReadCommand_canon (r : Req) (off : Nat) (s : State) (hc : s.canonical) :
    (certReadCommand r off s).canonical := by
  unfold certReadCommand; (try dsimp only); (repeat' split) <;> simp_all (maxDischargeDepth := 60)

set_option maxHeartbeats 80000 in
@[simp] theorem jobPosition_canon (s : State) (j : Job) (hc : s.canonical) :
    (jobPosition s j).1.canonical := by
  unfold jobPosition; (repeat' split) <;> simp (maxDischargeDepth := 60) [hc]

set_option maxHeartbeats 80000 in
@[simp] theorem attestEffect_canon (slot : Fin 16) (nonce : List Byte) (kind : Nat) (s : State) (hc : s.canonical) :
    (attestEffect slot nonce kind s).canonical := by
  unfold attestEffect; (repeat' split) <;> simp (maxDischargeDepth := 60) [hc]

set_option maxHeartbeats 80000 in
@[simp] theorem attestCommand_canon (r : Req) (nonce : List Byte) (kind : Nat) (s : State) (hc : s.canonical) :
    (attestCommand r nonce kind s).canonical := by
  unfold attestCommand; (try dsimp only); (repeat' split) <;> simp_all (maxDischargeDepth := 60)

set_option maxHeartbeats 80000 in
@[simp] theorem flashSlot_canon (im : Image) (s : State) (hc : s.canonical) :
    (flashSlot im s).canonical := by
  unfold flashSlot; simp (maxDischargeDepth := 60) [hc]

set_option maxHeartbeats 80000 in
@[simp] theorem storeImage_canon (slot : Fin 16) (im : Image) (s : State) (hc : s.canonical) :
    (storeImage slot im s).canonical := by
  unfold storeImage; simp (maxDischargeDepth := 60) [hc]

set_option maxHeartbeats 80000 in
@[simp] theorem fwUpdateCommand_canon (r : Req) (off len : Nat) (s : State) (hc : s.canonical) :
    (fwUpdateCommand r off len s).canonical := by
  unfold fwUpdateCommand; (try dsimp only); (repeat' split) <;> simp_all (maxDischargeDepth := 60)

set_option maxHeartbeats 80000 in
@[simp] theorem zeroizeJob_canon (s : State) (hc : s.canonical) :
    (zeroizeJob s).canonical := by
  unfold zeroizeJob; simp (maxDischargeDepth := 60) [hc]

set_option maxHeartbeats 80000 in
@[simp] theorem zeroizeIdentity_canon (s : State) (hc : s.canonical) :
    (zeroizeIdentity s).canonical := by
  unfold zeroizeIdentity; simp (maxDischargeDepth := 60) [hc]

set_option maxHeartbeats 80000 in
@[simp] theorem zeroize_canon (s : State) (hc : s.canonical) :
    (zeroize s).canonical := by
  unfold zeroize; simp (maxDischargeDepth := 60) [hc]

set_option maxHeartbeats 80000 in
@[simp] theorem lifecycleEffect_canon (dst : Nat) (s : State) (hc : s.canonical) :
    (lifecycleEffect dst s).canonical := by
  unfold lifecycleEffect; simp (maxDischargeDepth := 60) [hc]

set_option maxHeartbeats 80000 in
@[simp] theorem lifecycleWith_canon (slot : Fin 16) (target : Nat) (auth : List Byte) (s : State) (hc : s.canonical) :
    (lifecycleWith slot target auth s).canonical := by
  unfold lifecycleWith; (repeat' split) <;> simp (maxDischargeDepth := 60) [hc]

set_option maxHeartbeats 80000 in
@[simp] theorem lifecycleSetCommand_canon (r : Req) (target : Nat) (auth : List Byte) (s : State) (hc : s.canonical) :
    (lifecycleSetCommand r target auth s).canonical := by
  unfold lifecycleSetCommand; (try dsimp only); (repeat' split) <;> simp_all (maxDischargeDepth := 60)

set_option maxHeartbeats 80000 in
@[simp] theorem keyProvisionCommand_canon (r : Req) (key : List Byte) (s : State) (hc : s.canonical) :
    (keyProvisionCommand r key s).canonical := by
  unfold keyProvisionCommand; (try dsimp only); (repeat' split) <;> simp_all (maxDischargeDepth := 60)

set_option maxHeartbeats 80000 in
@[simp] theorem tapCapture_canon (i : TapInstr) (s : State) (hc : s.canonical) :
    (tapCapture i s).canonical := by
  unfold tapCapture; (repeat' split) <;> simp (maxDischargeDepth := 60) [hc]

set_option maxHeartbeats 80000 in
@[simp] theorem tapActs_canon (i : TapInstr) (s : State) (hc : s.canonical) :
    (tapActs i s).canonical := by
  unfold tapActs; simp (maxDischargeDepth := 60) [hc]

set_option maxHeartbeats 80000 in
@[simp] theorem tapLocked_canon (s : State) (hc : s.canonical) :
    (tapLocked s).canonical := by
  unfold tapLocked; simp (maxDischargeDepth := 60) [hc]

set_option maxHeartbeats 80000 in
@[simp] theorem tapDebug_canon (s : State) (hc : s.canonical) :
    (tapDebug s).canonical := by
  unfold tapDebug; simp (maxDischargeDepth := 60) [hc]

set_option maxHeartbeats 80000 in
@[simp] theorem jtagInstruction_canon (i : TapInstr) (s : State) (hc : s.canonical) :
    (jtagInstruction i s).canonical := by
  unfold jtagInstruction; simp (maxDischargeDepth := 60) [hc]

set_option maxHeartbeats 80000 in
@[simp] theorem debugOpens_canon (s : State) (hc : s.canonical) :
    (debugOpens s).canonical := by
  unfold debugOpens; simp (maxDischargeDepth := 60) [hc]

set_option maxHeartbeats 80000 in
@[simp] theorem tapReset_canon (s : State) (hc : s.canonical) :
    (tapReset s).canonical := by
  unfold tapReset; simp (maxDischargeDepth := 60) [hc]

set_option maxHeartbeats 80000 in
@[simp] theorem loadTable_canon (t : BeamTable) (m : List (Nat × Word)) (s : State) (hc : s.canonical) :
    (loadTable t m s).canonical := by
  unfold loadTable; (try dsimp only); (repeat' split) <;> simp_all (maxDischargeDepth := 60)

set_option maxHeartbeats 80000 in
@[simp] theorem tableLoadEnd_canon (slot : Fin 16) (t : BeamTable) (f : Option TableFault) (s : State) (hc : s.canonical) :
    (tableLoadEnd slot t f s).canonical := by
  unfold tableLoadEnd; (repeat' split) <;> simp (maxDischargeDepth := 60) [hc]

set_option maxHeartbeats 80000 in
@[simp] theorem tableLoadWith_canon (slot : Fin 16) (h : List Byte) (s : State) (hc : s.canonical) :
    (tableLoadWith slot h s).canonical := by
  unfold tableLoadWith; simp (maxDischargeDepth := 60) [hc]

set_option maxHeartbeats 80000 in
@[simp] theorem beamTableLoadCommand_canon (r : Req) (off len : Nat) (s : State) (hc : s.canonical) :
    (beamTableLoadCommand r off len s).canonical := by
  unfold beamTableLoadCommand; (try dsimp only); (repeat' split) <;> simp_all (maxDischargeDepth := 60)

set_option maxHeartbeats 80000 in
@[simp] theorem remeasure_canon (es : List (Nat × DWord)) (s : State) (hc : s.canonical) :
    (remeasure es s).canonical := by
  unfold remeasure; (try dsimp only); (repeat' split) <;> simp_all (maxDischargeDepth := 60)

set_option maxHeartbeats 80000 in
@[simp] theorem writeSummaries_canon (t : BeamTable) (xs : List Int) (s : State) (hc : s.canonical) :
    (writeSummaries t xs s).canonical := by
  unfold writeSummaries; (try dsimp only); (repeat' split) <;> simp_all (maxDischargeDepth := 60)

set_option maxHeartbeats 80000 in
@[simp] theorem setAtOnce_canon (slot : Fin 16) (es : List (Nat × DWord)) (s : State) (hc : s.canonical) :
    (setAtOnce slot es s).canonical := by
  unfold setAtOnce; simp (maxDischargeDepth := 60) [hc]

set_option maxHeartbeats 80000 in
@[simp] theorem beamSetCommand_canon (r : Req) (es : List (Nat × DWord)) (s : State) (hc : s.canonical) :
    (beamSetCommand r es s).canonical := by
  unfold beamSetCommand; (try dsimp only); (repeat' split) <;> simp_all (maxDischargeDepth := 60)

set_option maxHeartbeats 80000 in
@[simp] theorem orFree_canon (n : Nat) (v : Option (List Byte)) (s : State) (hc : s.canonical) :
    (orFree n v s).1.canonical := by
  unfold orFree; (repeat' split) <;> simp (maxDischargeDepth := 60) [hc]

set_option maxHeartbeats 80000 in
@[simp] theorem reportBeam_canon (slot : Fin 16) (b : Nat) (s : State) (hc : s.canonical) :
    (reportBeam slot b s).canonical := by
  unfold reportBeam; simp (maxDischargeDepth := 60) [hc]

set_option maxHeartbeats 80000 in
@[simp] theorem reportHistory_canon (slot : Fin 16) (i : Nat) (s : State) (hc : s.canonical) :
    (reportHistory slot i s).canonical := by
  unfold reportHistory; simp (maxDischargeDepth := 60) [hc]

set_option maxHeartbeats 80000 in
@[simp] theorem beamReportCommand_canon (r : Req) (kind arg : Nat) (s : State) (hc : s.canonical) :
    (beamReportCommand r kind arg s).canonical := by
  unfold beamReportCommand; (try dsimp only); (repeat' split) <;> simp_all (maxDischargeDepth := 60)

set_option maxHeartbeats 80000 in
@[simp] theorem zeroEntries_canon (lo hi : Nat) (s : State) (hc : s.canonical) :
    (zeroEntries lo hi s).canonical := by
  unfold zeroEntries; simp (maxDischargeDepth := 60) [hc]

set_option maxHeartbeats 80000 in
@[simp] theorem zeroBands_canon (lo hi : Nat) (s : State) (hc : s.canonical) :
    (zeroBands lo hi s).canonical := by
  unfold zeroBands; simp (maxDischargeDepth := 60) [hc]

set_option maxHeartbeats 80000 in
@[simp] theorem zeroCache_canon (lo hi : Nat) (s : State) (hc : s.canonical) :
    (zeroCache lo hi s).canonical := by
  unfold zeroCache; simp (maxDischargeDepth := 60) [hc]

set_option maxHeartbeats 80000 in
@[simp] theorem zeroDensities_canon (lo hi : Nat) (s : State) (hc : s.canonical) :
    (zeroDensities lo hi s).canonical := by
  unfold zeroDensities; simp (maxDischargeDepth := 60) [hc]

set_option maxHeartbeats 80000 in
@[simp] theorem zeroScratch_canon (lo hi : Nat) (s : State) (hc : s.canonical) :
    (zeroScratch lo hi s).canonical := by
  unfold zeroScratch; simp (maxDischargeDepth := 60) [hc]

set_option maxHeartbeats 80000 in
@[simp] theorem zeroPages_canon (g first n : Nat) (s : State) (hc : s.canonical) :
    (zeroPages g first n s).canonical := by
  unfold zeroPages; simp (maxDischargeDepth := 60) [hc]

set_option maxHeartbeats 80000 in
@[simp] theorem memZeroCommand_canon (r : Req) (g first n : Nat) (s : State) (hc : s.canonical) :
    (memZeroCommand r g first n s).canonical := by
  unfold memZeroCommand; (try dsimp only); (repeat' split) <;> simp_all (maxDischargeDepth := 60)

set_option maxHeartbeats 80000 in
@[simp] theorem memFillCommand_canon (r : Req) (s : State) (hc : s.canonical) :
    (memFillCommand r s).canonical := by
  unfold memFillCommand; (try dsimp only); (repeat' split) <;> simp_all (maxDischargeDepth := 60)

set_option maxHeartbeats 80000 in
@[simp] theorem ackActs_canon (n : Nat) (s : State) (hc : s.canonical) :
    (ackActs n s).canonical := by
  unfold ackActs; simp (maxDischargeDepth := 60) [hc]

set_option maxHeartbeats 80000 in
@[simp] theorem clearEvents_canon (m : BitVec 96) (s : State) (hc : s.canonical) :
    (clearEvents m s).canonical := by
  unfold clearEvents; (try dsimp only); (repeat' split) <;> simp_all (maxDischargeDepth := 60)

set_option maxHeartbeats 80000 in
@[simp] theorem eventAckCommand_canon (r : Req) (mask : BitVec 96) (seen : Nat) (s : State) (hc : s.canonical) :
    (eventAckCommand r mask seen s).canonical := by
  unfold eventAckCommand; (try dsimp only); (repeat' split) <;> simp_all (maxDischargeDepth := 60)

set_option maxHeartbeats 80000 in
@[simp] theorem nopCommand_canon (r : Req) (s : State) (hc : s.canonical) :
    (nopCommand r s).canonical := by
  unfold nopCommand; (try dsimp only); (repeat' split) <;> simp_all (maxDischargeDepth := 60)

set_option maxHeartbeats 80000 in
@[simp] theorem storedCfgCommand_canon (r : Req) (write order : Nat) (s : State) (hc : s.canonical) :
    (storedCfgCommand r write order s).canonical := by
  unfold storedCfgCommand; (try dsimp only); (repeat' split) <;> simp_all (maxDischargeDepth := 60)

set_option maxHeartbeats 80000 in
@[simp] theorem restEnterCommand_canon (r : Req) (delay : Nat) (s : State) (hc : s.canonical) :
    (restEnterCommand r delay s).canonical := by
  unfold restEnterCommand; (try dsimp only); (repeat' split) <;> simp_all (maxDischargeDepth := 60)

set_option maxHeartbeats 80000 in
@[simp] theorem voteSetCommand_canon (r : Req) (mask vote : Word) (s : State) (hc : s.canonical) :
    (voteSetCommand r mask vote s).canonical := by
  unfold voteSetCommand; (try dsimp only); (repeat' split) <;> simp_all (maxDischargeDepth := 60)

set_option maxHeartbeats 80000 in
@[simp] theorem supplyCfgCommand_canon (r : Req) (auto : Nat) (s : State) (hc : s.canonical) :
    (supplyCfgCommand r auto s).canonical := by
  unfold supplyCfgCommand; (try dsimp only); (repeat' split) <;> simp_all (maxDischargeDepth := 60)

set_option maxHeartbeats 80000 in
@[simp] theorem eventTestCommand_canon (r : Req) (s : State) (hc : s.canonical) :
    (eventTestCommand r s).canonical := by
  unfold eventTestCommand; (try dsimp only); (repeat' split) <;> simp_all (maxDischargeDepth := 60)

set_option maxHeartbeats 80000 in
@[simp] theorem bar0Word_canon (a : Nat) (s : State) (hc : s.canonical) :
    (bar0Word a s).1.canonical := by
  unfold bar0Word; (repeat' split) <;> simp (maxDischargeDepth := 60) [hc]

@[simp] theorem bar0Words_canon (as : List Nat) (s : State) (hc : s.canonical) : (bar0Words as s).1.canonical := by
  induction as generalizing s with
  | nil => exact hc
  | cons a as ih => exact ih _ (bar0Word_canon a s hc)


set_option maxHeartbeats 80000 in
@[simp] theorem hostRead_canon (addr size : Nat) (s : State) (hc : s.canonical) :
    (hostRead addr size s).canonical := by
  unfold hostRead; simp (maxDischargeDepth := 60) [hc]

set_option maxHeartbeats 80000 in
@[simp] theorem analogCalFree_canon (r : Req) (s : State) (hc : s.canonical) :
    (analogCalFree r s).canonical := by
  unfold analogCalFree; simp (maxDischargeDepth := 60) [hc]

@[simp] theorem fwRun_canon (i : Instr) (s : State) (hc : s.canonical) : (fwRun i s).canonical := by
  cases i <;> simp (maxDischargeDepth := 60) [fwRun, hc]


set_option maxHeartbeats 80000 in
@[simp] theorem takeSlot_canon (n : Fin 16) (s : State) (hc : s.canonical) :
    (takeSlot n s).canonical := by
  simp only [takeSlot]
  split
  · simp (maxDischargeDepth := 60) [hc]
  · generalize requestOf n (slotOf s n) = q
    cases q <;> simp (maxDischargeDepth := 60) [hc]

set_option maxHeartbeats 80000 in
@[simp] theorem takeWaiting_canon (x0 : Nat) (x1 : State) (hc : x1.canonical) :
    (takeWaiting x0 x1).canonical := by
  induction x0 generalizing x1 with
  | zero => simp (maxDischargeDepth := 60) [takeWaiting, hc]
  | succ n ih => unfold takeWaiting; (try dsimp only); (repeat' split) <;> simp (maxDischargeDepth := 60) [ih, hc]

set_option maxHeartbeats 80000 in
@[simp] theorem takeDoorbells_canon (s : State) (hc : s.canonical) :
    (takeDoorbells s).canonical := by
  unfold takeDoorbells; simp (maxDischargeDepth := 60) [hc]

set_option maxHeartbeats 80000 in
@[simp] theorem overrun_canon (s : State) (hc : s.canonical) :
    (overrun s).canonical := by
  unfold overrun; simp (maxDischargeDepth := 60) [hc]

set_option maxHeartbeats 80000 in
@[simp] theorem doorbell_canon (n : Fin 16) (s : State) (hc : s.canonical) :
    (doorbell n s).canonical := by
  unfold doorbell; simp (maxDischargeDepth := 60) [hc]

set_option maxHeartbeats 80000 in
@[simp] theorem dropHostWrite_canon (s : State) (hc : s.canonical) :
    (dropHostWrite s).canonical := by
  unfold dropHostWrite; simp (maxDischargeDepth := 60) [hc]

set_option maxHeartbeats 80000 in
@[simp] theorem bar0Put_canon (addr : Nat) (v : Word) (s : State) (hc : s.canonical) :
    (bar0Put addr v s).canonical := by
  unfold bar0Put; simp (maxDischargeDepth := 60) [hc]

set_option maxHeartbeats 80000 in
@[simp] theorem hostWrite_canon (addr size : Nat) (v : DWord) (s : State) (hc : s.canonical) :
    (hostWrite addr size v s).canonical := by
  unfold hostWrite; (try dsimp only); (repeat' split) <;> simp_all (maxDischargeDepth := 60)

set_option maxHeartbeats 80000 in
@[simp] theorem hostDo_canon (i : Instr) (s : State) (hc : s.canonical) :
    (hostDo i s).canonical := by
  unfold hostDo; (try dsimp only); (repeat' split) <;> simp_all (maxDischargeDepth := 60)

set_option maxHeartbeats 80000 in
@[simp] theorem hostAccess_canon (i : Instr) (s : State) (hc : s.canonical) :
    (hostAccess i s).canonical := by
  unfold hostAccess; simp (maxDischargeDepth := 60) [hc]

set_option maxHeartbeats 80000 in
@[simp] theorem registerWrite_canon (a : RegAccess) (v : DWord) (s : State) (hc : s.canonical) :
    (registerWrite a v s).canonical := by
  unfold registerWrite; (repeat' split) <;> simp (maxDischargeDepth := 60) [hc]

set_option maxHeartbeats 80000 in
@[simp] theorem registerRead_canon (a : RegAccess) (s : State) (hc : s.canonical) :
    (registerRead a s).canonical := by
  unfold registerRead; (repeat' split) <;> simp (maxDischargeDepth := 60) [hc]

set_option maxHeartbeats 80000 in
@[simp] theorem wakeServes_canon (lostBanks : BitVec 96) (lostRegions : BitVec 16) (s : State) (hc : s.canonical) :
    (wakeServes lostBanks lostRegions s).canonical := by
  unfold wakeServes; (try dsimp only); (repeat' split) <;> simp_all (maxDischargeDepth := 60)

end Sys2Proof.Machine
end

