-- ==== Sys2Proof/Laws/Mailbox.lean ====
section
/-!
SUPPORT. Laws of the mailbox: what accepting a command, completing it, and the checks of R363 do.
-/

namespace Sys2Proof.Machine

set_option Elab.async false

/-! ## Bits of fields -/

theorem fbitAt_fput (s : State) (f : Field) (hf : f.ok = true) (v m : Nat) :
    fbitAt (fput f v s) f m = (decide (m < f.hi - f.lo + 1) && v.testBit m) := by
  rw [fbitAt, fget_fput_same s f hf, Nat.testBit_mod_two_pow]

theorem fbitAt_lt (s : State) (f : Field) (m : Nat) (h : f.hi - f.lo + 1 ≤ m) : fbitAt s f m = false := by
  rw [fbitAt, fget, testBit_bits]; simp; omega

/-- A bit of a field after one bit of it is set or cleared. -/
theorem fbitAt_fputBit (s : State) (f : Field) (hf : f.ok = true) (n : Nat) (hn : n < f.hi - f.lo + 1) (b : Bool) (m : Nat) :
    fbitAt (fputBit f n b s) f m = if m = n then b else fbitAt s f m := by
  unfold fputBit
  split
  · rename_i h; split <;> simp_all
  · rename_i h
    rw [fbitAt_fput s f hf, Nat.testBit_xor, Nat.testBit_two_pow]
    by_cases hm : m < f.hi - f.lo + 1
    · by_cases hmn : m = n
      · subst hmn
        have : (fget s f).testBit m = !b := by
          have h' : ¬ (fget s f).testBit m = b := h
          revert h'; cases (fget s f).testBit m <;> cases b <;> simp
        simp [this, hm]
      · have : ¬ n = m := fun h => hmn h.symm
        simp [hm, hmn, this, fbitAt]
    · have : m ≠ n := by omega
      rw [fbitAt_lt s f m (by omega)]; simp [hm, this]

theorem rget_fputBit (s : State) (f : Field) (n : Nat) (b : Bool) (j : Nat) (h : j ≠ f.reg) :
    rget (fputBit f n b s) j = rget s j := by
  unfold fputBit; split
  · rfl
  · rw [rget_fput, if_neg h]

/-! ## Slots -/

theorem slotOf_updSlot (s : State) (n m : Fin 16) (f : Slot → Slot) :
    slotOf (updSlot n f s) m = if m = n then f (slotOf s n) else slotOf s m := by
  simp only [slotOf, updSlot, getD_updAt, Fin.ext_iff]
  split
  · rename_i h; rw [h]
  · rfl

theorem slotOf_congr {s t : State} (h : t.mail.slots = s.mail.slots) (m : Fin 16) : slotOf t m = slotOf s m := by
  simp only [slotOf, h]

/-! ## Accepting -/

theorem takeCurrent_slots (n : Fin 16) (s : State) : (takeCurrent n s).mail.slots = s.mail.slots := by
  unfold takeCurrent; split <;> rfl

theorem freeCurrent_slots (n : Fin 16) (s : State) : (freeCurrent n s).mail.slots = s.mail.slots := by
  unfold freeCurrent; split <;> rfl

theorem fputBit_regs_congr {s u : State} (h : u.regs = s.regs) (f : Field) (n : Nat) (b : Bool) :
    (fputBit f n b u).regs = (fputBit f n b s).regs := by
  have h1 : fbitAt u f n = fbitAt s f n := by simp only [fbitAt, fget, rget, h]
  unfold fputBit; rw [h1]; split
  · exact h
  · simp only [fput, rset, fget, rget, h]

/-- What accepting does: the slot's completion fields, its BUSY bit, the command in progress, the REST_ENTER delay. -/
theorem accept_pwr (n : Fin 16) (s : State) : (accept n s).pwr = { s.pwr with rest := { s.pwr.rest with due := none } } := by
  unfold accept; simp [cancelRest]

theorem accept_eq (n : Fin 16) (s : State) :
    accept n s = { s with
      mail := (accept n s).mail, regs := (accept n s).regs, pwr := { s.pwr with rest := { s.pwr.rest with due := none } } } := by
  apply State.ext <;> simp [accept_pwr]

theorem accept_regs (n : Fin 16) (s : State) : (accept n s).regs = (fputBit Reg.MBX_STATE_BUSY n.val true s).regs := by
  unfold accept; simp only [takeCurrent_frame, cancelRest_frame]; exact fputBit_regs_congr (by simp) _ _ _

theorem accept_slots (n : Fin 16) (s : State) : (accept n s).mail.slots = updAt Slot.zero s.mail.slots n.val Slot.accepted := by
  unfold accept; rw [takeCurrent_slots]; simp [cancelRest, updSlot]

theorem accept_orphan (n : Fin 16) (s : State) (h : s.mail.orphan = false) : (accept n s).mail.orphan = false := by
  unfold accept takeCurrent; split <;> simp [cancelRest, updSlot, h]

/-- Accepting reads nothing of the state but the mailboxes, the registers and the REST_ENTER delay. -/
theorem accept_mail_congr {s u : State} (h : u.mail = s.mail) (n : Fin 16) : (accept n u).mail = (accept n s).mail := by
  simp [accept, takeCurrent, cancelRest, updSlot, h]

theorem accept_regs_congr {s u : State} (h : u.regs = s.regs) (n : Fin 16) : (accept n u).regs = (accept n s).regs := by
  rw [accept_regs, accept_regs]; exact fputBit_regs_congr h _ _ _

theorem rget_accept (n : Fin 16) (s : State) (k : Nat) (h : k ≠ Reg.MBX_STATE) : rget (accept n s) k = rget s k := by
  rw [rget, accept_regs]; exact rget_fputBit s _ _ _ k h

theorem fget_accept (n : Fin 16) (s : State) (f : Field) (h : f.reg ≠ Reg.MBX_STATE) : fget (accept n s) f = fget s f := by
  simp only [fget, rget_accept n s _ h]

theorem slotOf_accept (n : Fin 16) (s : State) (m : Fin 16) :
    slotOf (accept n s) m = if m = n then (slotOf s n).accepted else slotOf s m := by
  rw [← slotOf_updSlot]
  exact slotOf_congr (accept_slots n s) m

theorem slotBusy_accept (n : Fin 16) (s : State) (m : Fin 16) :
    slotBusy (accept n s) m = if m = n then true else slotBusy s m := by
  have h1 : slotBusy (accept n s) m = slotBusy (fputBit Reg.MBX_STATE_BUSY n.val true s) m := by
    simp only [slotBusy, fbitAt, fget, rget, accept_regs]
  rw [h1, slotBusy, fbitAt_fputBit _ _ (by decide) _ (by have := n.isLt; simp)]
  simp only [Fin.ext_iff, slotBusy]

/-! ## Completing -/

/-- A completion changes the slot, its BUSY bit and the command in progress, and nothing else. -/
theorem complete_eq (n : Fin 16) (st : Status) (p : List Byte) (s : State) :
    complete n st p s = { s with mail := (complete n st p s).mail, regs := (complete n st p s).regs } := by
  apply State.ext <;> simp

theorem complete_regs (n : Fin 16) (st : Status) (p : List Byte) (s : State) (h : s.mail.orphan = false) :
    (complete n st p s).regs = (fputBit Reg.MBX_STATE_BUSY n.val false s).regs := by
  unfold complete; simp only [h, Bool.false_eq_true, and_false, if_false, freeCurrent_frame]
  exact fputBit_regs_congr (by simp) _ _ _

theorem complete_slots (n : Fin 16) (st : Status) (p : List Byte) (s : State) (h : s.mail.orphan = false) :
    (complete n st p s).mail.slots = updAt Slot.zero s.mail.slots n.val (fun sl => sl.completed st p) := by
  unfold complete; simp only [h, Bool.false_eq_true, and_false, if_false]
  rw [freeCurrent_slots]; simp [updSlot]

theorem slotOf_complete (n : Fin 16) (st : Status) (p : List Byte) (s : State) (h : s.mail.orphan = false) (m : Fin 16) :
    slotOf (complete n st p s) m = if m = n then (slotOf s n).completed st p else slotOf s m := by
  rw [← slotOf_updSlot s n m fun sl => sl.completed st p]
  exact slotOf_congr (complete_slots n st p s h) m

theorem slotBusy_complete (n : Fin 16) (st : Status) (p : List Byte) (s : State) (h : s.mail.orphan = false) (m : Fin 16) :
    slotBusy (complete n st p s) m = if m = n then false else slotBusy s m := by
  have h1 : slotBusy (complete n st p s) m = slotBusy (fputBit Reg.MBX_STATE_BUSY n.val false s) m := by
    simp only [slotBusy, fbitAt, fget, rget, complete_regs n st p s h]
  rw [h1, slotBusy, fbitAt_fputBit _ _ (by decide) _ (by have := n.isLt; simp)]
  simp only [Fin.ext_iff, slotBusy]

theorem rget_complete (n : Fin 16) (st : Status) (p : List Byte) (s : State) (k : Nat) (h : k ≠ Reg.MBX_STATE) :
    rget (complete n st p s) k = rget s k := by
  unfold complete; split
  · rfl
  · have : ∀ u : State, rget (freeCurrent n u) k = rget u k := by intro u; simp [rget]
    rw [this, rget_fputBit _ _ _ _ _ h]; rfl

/-- The completion of a command whose effect `u` has left its slot as accepted: the slot is answered, and only it
changes. -/
theorem complete_answers (s u : State) (n : Fin 16) (st : Status) (p : List Byte)
    (hm : slotOf u n = slotOf (accept n s) n) (ho : u.mail.orphan = false) :
    Answered s (complete n st p u) n st p := by
  refine ⟨?_, ?_, ?_, ?_, ?_, ?_, ?_⟩
  · rw [slotOf_complete n st p u ho, if_pos rfl]; rfl
  · rw [slotOf_complete n st p u ho, if_pos rfl]; rfl
  · rw [slotOf_complete n st p u ho, if_pos rfl]; rfl
  · rw [slotOf_complete n st p u ho, if_pos rfl, hm, slotOf_accept, if_pos rfl]; rfl
  · rw [slotOf_complete n st p u ho, if_pos rfl, hm, slotOf_accept, if_pos rfl]; rfl
  · rw [slotOf_complete n st p u ho, if_pos rfl, hm, slotOf_accept, if_pos rfl]; rfl
  · rw [slotBusy_complete n st p u ho, if_pos rfl]

theorem complete_slotOnly (u : State) (n : Fin 16) (st : Status) (p : List Byte) (ho : u.mail.orphan = false)
    (hd : u.pwr.rest.due = none) : SlotOnly u (complete n st p u) n := by
  refine ⟨?_, ?_, ?_⟩
  · rw [← hd]; exact complete_eq n st p u
  · intro k hk; exact rget_complete n st p u k (by simpa using hk)
  · intro m hm
    rw [slotOf_complete n st p u ho, slotBusy_complete n st p u ho, if_neg hm, if_neg hm]; exact ⟨rfl, rfl⟩

/-! ## The checks -/

theorem lifecycleAllows_accept (n : Fin 16) (s : State) (op : Nat) : lifecycleAllows (accept n s) op = lifecycleAllows s op := by
  simp only [lifecycleAllows]; rw [fget_accept _ _ _ (by decide)]

theorem bootRefuses_accept (n : Fin 16) (s : State) (op : Nat) : bootRefuses (accept n s) op = bootRefuses s op := by
  simp only [bootRefuses]; rw [accept_eq]

theorem transitioning_accept (n : Fin 16) (s : State) : transitioning (accept n s) = transitioning s := by
  simp only [transitioning]; rw [accept_eq]

theorem powered_accept (n : Fin 16) (s : State) (d : Nat) : powered (accept n s) d = powered s d := by
  simp only [powered, fbitAt]; rw [fget_accept _ _ _ (by decide)]

/-- Accepting changes nothing that R363 checks. -/
theorem refusal_accept (r : Req) (g : Gate) (n : Fin 16) (s : State) : refusal r g (accept n s) = refusal r g s := by
  have : powered (accept n s) = powered s := funext fun d => powered_accept n s d
  simp only [refusal, lifecycleAllows_accept, bootRefuses_accept, transitioning_accept, this]

/-- A command that passes the checks has its effect on the state that acceptance leaves. -/
theorem runCommand_ok (r : Req) (g : Gate) (eff : State → State) (s : State) (h : Admitted s r g.op g.len g.moves)
    (h1 : g.inRange = true) (h2 : g.allowed = true) (h3 : g.accepted = true) (h4 : g.needs.all (powered s) = true)
    (h5 : g.reach = true) : runCommand r g eff s = eff (accept r.slot s) := by
  obtain ⟨a, b, c, d, e, -⟩ := h
  have : refusal r g (accept r.slot s) = none := by
    rw [refusal_accept]
    simp only [refusal, a, b, c, d, h1, h2, h3, h4, h5]
    cases hm : g.moves
    · simp
    · simp [e hm]
  simp only [runCommand, this]

/-- A command that fails a check completes with that status, and nothing else changes. -/
theorem runCommand_refused (r : Req) (g : Gate) (eff : State → State) (s : State) (st : Status) (h : refusal r g s = some st) :
    runCommand r g eff s = complete r.slot st [] (accept r.slot s) := by
  simp only [runCommand, refusal_accept, h]

/-- From acceptance to completion with nothing between: only the slot changes. -/
theorem slotOnly_complete_accept (s : State) (n : Fin 16) (st : Status) (p : List Byte) (ho : s.mail.orphan = false) :
    SlotOnly s (complete n st p (accept n s)) n := by
  have ho' := accept_orphan n s ho
  refine ⟨?_, ?_, ?_⟩
  · apply State.ext <;> simp [accept_pwr]
  · intro k hk
    have hk' : k ≠ Reg.MBX_STATE := by simpa using hk
    rw [rget_complete n st p _ k hk', rget_accept n s k hk']
  · intro m hm
    rw [slotOf_complete n st p _ ho', slotBusy_complete n st p _ ho', if_neg hm, if_neg hm, slotOf_accept, slotBusy_accept,
      if_neg hm, if_neg hm]; exact ⟨rfl, rfl⟩

end Sys2Proof.Machine
end

