-- ==== Sys2Proof/Tests/Slice0.lean ====
section
/-!
SUPPORT. Tests: an ill-formed term for each check of WellFormed, a state and operands that meet the hypotheses of each statement, and
small steps with results taken from the manual.
-/

namespace Sys2Proof.Tests

set_option Elab.async false

open Sys2Proof.Machine

/-! ## Helpers -/

/-- A request in slot 0 of a length, with its reserved bytes zero. -/
def rq (len : Nat) : Req := ⟨0, len, true⟩

/-- Every domain powered, the lifecycle PROVISIONED, Boot over. -/
def live (m : Mode) (j : JobState) : State :=
  fput Reg.PWR_STATUS_DOMAINS 0x1FF (fput Reg.SEC_STATUS_LIFECYCLE 1
    { State.reset with flow := { State.reset.flow with mode := m, job := j, boot := .over }, pwr := { State.reset.pwr with raising := 0 } })

/-- A stripe of two bands, the first of layer 0. -/
def stripe0 : StripeEntry := ⟨0, 0, 512, 0, 0, false, false⟩

/-- A job of one stripe and one layer. -/
def job0 : Job := ⟨7, 0, false, 4000, 16, 1, [], [], [], [stripe0], 1000⟩

/-- The module with that job. -/
def jobbed (m : Mode) (j : JobState) : State := { live m j with job := some job0 }

/-- With the host's vote for RAST and for GATH. -/
def voted (s : State) : State := fput (Reg.PWR_VOTE_VOTES 4) 1 (fput (Reg.PWR_VOTE_VOTES 5) 1 s)

/-- A command has a next state. -/
def goes (i : Instr) (s : State) : Bool := match exec i s with | .next _ => true | _ => false

/-- The state a command leads to, or the state itself. -/
def after (i : Instr) (s : State) : State := match exec i s with | .next t => t | _ => s

/-! ## Ill-formed terms: one for each check of WellFormed -/

theorem test_wf_request : Instr.wf (.nop ⟨0, 65536, true⟩) = false := by decide
theorem test_wf_seq : Instr.wf (.eventAck (rq 16) 0 (2 ^ 32)) = false := by decide
theorem test_wf_byte : Instr.wf (.storedCfg (rq 4) 256 0) = false ∧ Instr.wf (.storedCfg (rq 4) 0 256) = false := by decide
theorem test_wf_writes : Instr.wf (.cfgWrite (rq 12) [⟨256, 0, 0⟩]) = false ∧ Instr.wf (.poke (rq 12) [⟨0, 65536, 0⟩]) = false := by decide
theorem test_wf_refs : Instr.wf (.peek (rq 8) [⟨256, 0⟩]) = false ∧ Instr.wf (.regRead (rq 8) [⟨0, 65536⟩]) = false ∧
    Instr.wf (.memStatus (rq 8) [⟨256, 0⟩]) = false := by decide
theorem test_wf_buffers : Instr.wf (.jobLoad (rq 8) (2 ^ 32) 0) = false ∧ Instr.wf (.jobSupplement (rq 8) 0 (2 ^ 32)) = false ∧
    Instr.wf (.beamTableLoad (rq 8) (2 ^ 32) 0) = false ∧ Instr.wf (.fwUpdate (rq 8) 0 (2 ^ 32)) = false := by decide
theorem test_wf_job : Instr.wf (.jobStart (rq 4) 65536) = false ∧ Instr.wf (.recessExtend (rq 4) (2 ^ 32)) = false ∧
    Instr.wf (.layerClose (rq 4) 65536 0) = false ∧ Instr.wf (.jobClose (rq 4) 256) = false ∧ Instr.wf (.rejectRead (rq 4) 256) = false := by decide
theorem test_wf_evict : Instr.wf (.cellEvict (rq 8) 0 1 [2 ^ 32] 0 0) = false ∧ Instr.wf (.cellEvict (rq 8) 256 1 [0] 0 0) = false := by decide
theorem test_wf_absence : Instr.wf (.absRead (rq 8) 0 256) = false ∧ Instr.wf (.absAck (rq 4) (2 ^ 32)) = false := by decide
theorem test_wf_beams : Instr.wf (.beamSet (rq 16) [(2 ^ 32, 0)]) = false ∧ Instr.wf (.beamCheck (rq 4) 256) = false ∧
    Instr.wf (.beamReport (rq 8) 0 (2 ^ 32)) = false := by decide
theorem test_wf_memory : Instr.wf (.memZero (rq 12) 256 0 0) = false := by decide
theorem test_wf_cohort : Instr.wf (.cohortConfig (rq 4) 256 0) = false := by decide
theorem test_wf_time : Instr.wf (.timeSet (rq 12) (2 ^ 64) 0) = false ∧ Instr.wf (.timeRate (rq 8) (2 ^ 64)) = false ∧
    Instr.wf (.triggerSet (rq 24) 0 256 0 0 0 0 0) = false ∧ Instr.wf (.ptpConfig (rq 8) 0 256 0) = false ∧ Instr.wf (.refConfig (rq 4) 256) = false := by decide
theorem test_wf_security : Instr.wf (.certRead (rq 4) (2 ^ 32)) = false ∧ Instr.wf (.attest (rq 36) [] 0) = false ∧
    Instr.wf (.lifecycleSet (rq 100) 0 []) = false ∧ Instr.wf (.keyProvision (rq 96) [0]) = false := by decide
theorem test_wf_power : Instr.wf (.restEnter (rq 4) 65536) = false ∧ Instr.wf (.supplyCfg (rq 4) 256) = false := by decide
theorem test_wf_diagnostics : Instr.wf (.bistRun (rq 8) 256 0) = false ∧ Instr.wf (.monConfig (rq 16) 0 65536 0 0 0) = false ∧
    Instr.wf (.monRead (rq 4) 256 0) = false := by decide
theorem test_wf_access : Instr.wf (.registerWrite (.bar0 65536 4) 0) = false ∧ Instr.wf (.rcRegisterRead (.bar0 0 3)) = false ∧
    Instr.wf (.registerWrite (.block ⟨256, 0⟩) 0) = false := by decide
theorem test_wf_position : Instr.wf (.posSet 4) = false ∧ Instr.wf (.quadEdge .y .up 2 1) = false ∧ Instr.wf (.shotCrossed 0 2 1) = false := by decide
theorem test_wf_lanes : Instr.wf (.gatherComplete 0 [1]) = false ∧ Instr.wf (.opticsReport 0 [] [] 0) = false ∧ Instr.wf (.checkBell 0 65536 0 0) = false := by decide
theorem test_wf_blocks : Instr.wf (.blockLanded 0 []) = false ∧ Instr.wf (.blockRefetch 0 []) = false ∧ Instr.wf (.decodeStart (2 ^ 64)) = false ∧
    Instr.wf (.decodeComplete (2 ^ 64)) = false := by decide
theorem test_wf_dram : Instr.wf (.refreshInterval 0 true [⟨18, 0, false⟩]) = false ∧ Instr.wf (.hbmTempRead 0 256 0) = false ∧
    Instr.wf (.neighbourRefresh 0 0 16384) = false ∧ Instr.wf (.scrubUnit (.dram (2 ^ 35)) .clean false) = false ∧
    Instr.wf (.scrubUnit (.sram 96 0) .clean false) = false := by decide
theorem test_wf_boot : Instr.wf (.dramFillComplete ⟨some (256, .selfTest 0), []⟩) = false ∧ Instr.wf (.bistComplete 0 0 (some (.sram 96 0))) = false := by decide
theorem test_wf_frames : Instr.wf (.goReceived .east ⟨5, 1, 0, 1, 0, 1, 0, [], 0⟩) = false ∧ Instr.wf (.holdSetReceived .east 1 65536) = false := by decide
theorem test_wf_links : Instr.wf (.ptpEventMessage (.sent 65536)) = false ∧ Instr.wf (.stallSample 0 true 65536 0) = false ∧
    Instr.wf (.auxAdcConversionEnd 0 65536) = false ∧ Instr.wf (.railSample []) = false := by decide

/-! ## Witnesses: the step, requests, the System group -/

theorem wit_step_idles_held : { State.reset with flow := { State.reset.flow with boot := .held } }.pending = [] := by decide
theorem wit_step_idles_takes : let s := { live .ready .none with mail := { State.reset.mail with waiting := [3] } }
    s.pending = [] ∧ s.flow.boot ≠ .held ∧ s.mail.waiting ≠ [] ∧ mayTake s = true := by decide
theorem wit_step_idles_ticks : (live .ready .none).pending = [] ∧ (live .ready .none).flow.boot ≠ .held ∧ (live .ready .none).mail.waiting = [] := by decide
theorem wit_step_keeps_canonical : State.reset.canonical := by unfold State.canonical; decide
theorem wit_requests_round_trip : Instr.wf (.recessExtend (rq 4) 60000) = true ∧ requestCarried (.recessExtend (rq 4) 60000) = true ∧
    (encodeRequest (.recessExtend (rq 4) 60000)).isSome = true := by decide
theorem wit_wrong_length : State.reset.mail.orphan = false ∧ (rq 1).length ≠ 0 ∧ (rq 9).length ≠ 8 ∧ (rq 3).length ≠ 4 ∧
    (rq 13).length ≠ 4 + 8 * List.length [(⟨4, 0, 0⟩ : RegWrite)] ∧ (rq 4).length ≠ 4 + 4 * List.length [(⟨4, 0⟩ : RegRef)] := by decide
theorem wit_checks_reserved : let s := live .ready .loaded
    s.mail.orphan = false ∧ lifecycleAllows s 0x0203 = true ∧ (⟨0, 4, false⟩ : Req).reservedZero = false := by decide
theorem wit_checks_range : (17 : Nat) ≠ 0 ∧ (17 < 18 ∨ 256 < 17) ∧ (257 < 18 ∨ 256 < 257) := by decide
theorem wit_checks_busy : transitioning { live .ready .loaded with flow := { (live .ready .loaded).flow with starting := some none } } = true := by decide
theorem wit_checks_mode : let s := live .hold .stripe
    transitioning s = false ∧ (s.flow.mode ≠ .ready ∨ s.flow.job ≠ .loaded) := by decide
theorem wit_checks_domain : let s := fput Reg.PWR_STATUS_DOMAINS 0x1BF (live .ready .loaded)
    transitioning s = false ∧ s.flow.mode = .ready ∧ s.flow.job = .loaded ∧ bootRefuses s 0x0203 = false ∧ powered s Dom.OUT = false := by decide
theorem wit_plain_commands : let s := live .ready .none
    Admitted s (rq 0) 0x0101 0 false ∧ Admitted s (rq 0) 0x0904 0 false ∧ Admitted s (rq 4) 0x0803 4 false := by unfold Admitted; decide
theorem wit_stored_cfg : let s := live .service .none
    Admitted s (rq 4) 0x0104 4 false ∧ (s.flow.mode = .ready ∨ s.flow.mode = .service) := by unfold Admitted; decide
theorem wit_rest_enter : let s := live .ready .loaded
    Admitted s (rq 4) 0x0801 4 true ∧ restAllowed s = true := by unfold Admitted; decide
theorem wit_event_ack : let s := live .ready .none
    Admitted s (rq 16) 0x0103 16 false ∧ 0 % 2 = 0 ∧ later32 0 s.page.coreSeq = false := by unfold Admitted; decide
theorem wit_service : Admitted (live .ready .none) (rq 0) 0x0105 0 true ∧ Admitted (live .service .none) (rq 0) 0x0106 0 true ∧
    testRuns (live .service .none) = false ∧ testRuns { live .service .none with hbm := { State.reset.hbm with fill := some true } } = true := by
  unfold Admitted; decide

/-! ## Witnesses: registers -/

theorem wit_register_write : let s := voted (live .service .none)
    votes s Dom.RAST ≠ 0 ∧ writable 0x04 0x14 = true ∧ powered s Dom.RAST = true ∧ Admitted s (rq 12) 0x0902 12 false ∧ s.flow.mode = .service ∧
    valueOk ⟨0x04, 0x14, 0⟩ = true ∧ Admitted s (rq 12) 0x0108 12 false ∧ rwhs s = true := by unfold Admitted; decide +kernel
theorem wit_register_lists : let s := live .service .none
    let ws : List RegWrite := [⟨0x04, 0x14, 0⟩]
    1 ≤ ws.length ∧ ws.length ≤ 27 ∧ ws.all valueOk = true ∧ (ws.all fun e => powered s (blockDomain e.block)) = true ∧
    Admitted s (rq 12) 0x0108 (4 + 8 * ws.length) false ∧ rwhs s = true ∧ s.flow.mode = .service ∧ ws.all cfgReach = true ∧
    Admitted s (rq 12) 0x0902 (4 + 8 * ws.length) false ∧ debugAllowed s (ws.map (·.block)) = true ∧
    (ws.all fun e => writable e.block e.offset) = true := by unfold Admitted; decide
theorem wit_register_reads : let s := voted (live .service .none)
    let rs : List RegRef := [⟨0x0B, 4⟩]
    Voted s [0x04, 0x0D] ∧     1 ≤ rs.length ∧ rs.length ≤ 52 ∧ (rs.all fun e => refExists e.block e.offset) = true ∧ Admitted s (rq 8) 0x0901 (4 + 4 * rs.length) false ∧
    debugAllowed s (rs.map (·.block)) = true ∧ (rs.all fun e => powered s (blockDomain e.block)) = true ∧
    Admitted s (rq 8) 0x0903 (4 + 4 * rs.length) false ∧ (rs.all fun e => e.block != 0x11) = true ∧
    Admitted s (rq 8) 0x0401 (4 + 4 * rs.length) false ∧ (rs.all fun e => e.block == 0x0B || e.block == 0x0C) = true := by
  unfold Admitted Voted; decide +kernel
theorem wit_rc_read : refExists 0x04 0x24 = true ∧ powered (live .ready .none) (blockDomain 0x04) = true ∧
    0x04 * 65536 + 0x24 ≠ Reg.POS_Y_LO ∧ 0x04 * 65536 + 0x24 ≠ Reg.TIM_NS ∧ 0x04 * 65536 + 0x24 ≠ Reg.RAS_LEAD_MIN ∧
    0x04 * 65536 + 0x24 ≠ Reg.GTH_WIN_LEAD_MIN := by decide
theorem wit_pset_swap : fbit (fput Reg.GTH_PSET_STATUS_PENDING 1 (live .ready .none)) Reg.GTH_PSET_STATUS_PENDING = true := by decide

theorem wit_capture_reads : (∀ k ∈ [Reg.POS_Y_LO, Reg.TIM_NS, Reg.RAS_LEAD_MIN, Reg.GTH_WIN_LEAD_MIN],
    refExists (k / 65536) (k % 65536) = true ∧ powered (live .ready .none) (blockDomain (k / 65536)) = true ∧ k / 65536 * 65536 + k % 65536 = k) ∧
    fbit (live .ready .none) Reg.GTH_PSET_STATUS_PENDING = false := by decide

/-! ## Witnesses: the Job group -/

theorem wit_job_load : let s := live .ready .none
    Admitted s (rq 8) 0x0201 8 false ∧ bufferAligned 8 = true ∧ bufferReach 67107840 1024 = true ∧ fbit s Reg.SEC_STATUS_DEBUG_OPEN = false ∧
    s.flow.mode = .ready ∧ s.flow.job = .none ∧ powered s Dom.MEM = true := by unfold Admitted; decide
theorem wit_job_supplement : let s := jobbed .write .recess
    Admitted s (rq 8) 0x0202 8 false ∧ (inState s .ready .loaded || modeIn s [.write, .hold]) = true ∧ s.job = some job0 := by unfold Admitted; decide
theorem wit_job_start : let s := jobbed .ready .loaded
    Admitted s (rq 4) 0x0203 4 true ∧ ((18 : Nat) = 0 ∨ (18 ≤ 18 ∧ 18 ≤ 256)) ∧ s.flow.mode = .ready ∧ s.flow.job = .loaded ∧
    powered s Dom.RAST = true ∧ powered s Dom.GATH = true ∧ powered s Dom.OUT = true := by unfold Admitted; decide
theorem wit_hold_request : Admitted (jobbed .write .recess) (rq 0) 0x0204 0 true ∧ Admitted (jobbed .hold .recess) (rq 0) 0x0204 0 true := by
  unfold Admitted; decide
theorem wit_hold_effect : let s := requestHold 0 (jobbed .write .recess)
    s.flow.holdReq = true ∧ holdMayAct s = true ∧ s.flow.mode = .write ∧ s.flow.ending = none ∧ s.flow.restartReq = false ∧ s.health.run = none := by decide
theorem wit_resume : let s := jobbed .hold .recess
    Admitted s (rq 0) 0x0205 0 true ∧ resumeAllowed s = false ∧ s.flow.job ≠ .stripe := by unfold Admitted; decide
/-- The module in Hold with every condition of R52 met. -/
def resumable : State :=
  fput Reg.OUT_STATUS_SETTLED 1 (rset Reg.CLK_STATUS 0x3F { live .hold .recess with job := some { job0 with digest := ownDigest (live .hold .recess) } })
theorem wit_resume_allowed : (causesGone resumable && causesAcked resumable && fbit resumable Reg.OUT_STATUS_SETTLED) = true ∧
    Admitted resumable (rq 0) 0x0205 0 true := by unfold Admitted; decide +kernel
theorem wit_resume_digest : digestOk resumable = true := by decide +kernel
theorem wit_resume_stripe : let s := { resumable with flow := { resumable.flow with job := .stripe } }
    let u := { s with flow := { s.flow with seen := 2 } }
    resumeAllowed s = true ∧ s.flow.job = .stripe ∧ atBoundary s = false ∧ Admitted s (rq 0) 0x0205 0 true ∧ s.flow.mode = .hold ∧
    resumeAllowed u = true ∧ atBoundary u = true ∧ Admitted u (rq 0) 0x0205 0 true := by unfold Admitted; decide +kernel
theorem wit_recess_extend : let s := { jobbed .write .recess with prog := { Progress.zero with recess := some (0, 0) } }
    Admitted s (rq 4) 0x0206 4 false ∧ 1 ≤ 60000 ∧ (s.flow.mode = .write ∨ s.flow.mode = .hold) ∧ (s.flow.job = .recess ∨ s.flow.job = .layerOpen) ∧
    s.prog.recess = some (0, 0) ∧ (jobbed .write .recess).prog.recess = none := by unfold Admitted; decide
/-- An entry of layer 0 of the job that is neither reconciled nor waived. -/
def entry0 : AbsEntry := ⟨0, 0, 0, 0, 0, 0, 1, .lateData, false, false, false, false, 0, 0, 1, 7, 511⟩
/-- The module with one entry in its log. -/
def logged (m : Mode) (j : JobState) : State :=
  fput Reg.ABS_HEAD_INDEX 1 { jobbed m j with abs := { State.reset.abs with ring := [(0, entry0)] } }
theorem wit_layer_close_refused : let s := logged .write .layerOpen
    Admitted s (rq 4) 0x0207 4 (lastLayerOpen s) ∧ s.flow.resume = .none ∧ openLayer s = some 0 ∧ unreconciled s 0 ≠ 0 := by
  unfold Admitted; decide +kernel
theorem wit_layer_close : let s := { jobbed .write .layerOpen with job := some { job0 with nlayer := 2 } }
    Admitted s (rq 4) 0x0207 4 (lastLayerOpen s) ∧ openLayer s = some 0 ∧ unreconciled s 0 = 0 ∧ lastLayerOpen s = false ∧
    lastLayerOpen (jobbed .write .layerOpen) = true ∧ unreconciled (jobbed .write .layerOpen) 0 = 0 := by unfold Admitted; decide +kernel
theorem wit_last_layer : let s := { jobbed .write .layerOpen with flow := { (live .write .layerOpen).flow with lastLayer := some (0, 3) } }
    s.flow.lastLayer = some (0, 3) ∧ s.mail.orphan = false ∧ s.health.run = none := by decide
theorem wit_job_ends_asked : Admitted (jobbed .write .recess) (rq 0) 0x0209 0 true ∧ Admitted (logged .hold .layerOpen) (rq 4) 0x0208 4 true ∧
    closeRefused { logged .hold .layerOpen with job := some { job0 with nlayer := 2 } } ≠ 0 := by unfold Admitted; decide +kernel
theorem wit_job_ends : let s := jobbed .hold .recess
    s.armed = none ∧ s.shots = [] ∧ s.flow.job ≠ .stripe ∧ s.health.run = none ∧ s.sec.debugHeld = false ∧ Admitted s (rq 0) 0x0209 0 true ∧
    Admitted s (rq 4) 0x0208 4 true ∧ closeRefused s = 0 := by unfold Admitted; decide +kernel
theorem wit_job_reports : let s := logged .hold .layerOpen
    rwhs s = true ∧ Admitted s (rq 4) 0x020A 4 false ∧ Admitted s (rq 8) 0x020D 8 false ∧ powered s Dom.MEM = true ∧ absIndex s 0 < absUsed s ∧
    Admitted s (rq 0) 0x020C 0 false ∧ powered s Dom.RAST = true ∧ Admitted s (rq 0) 0x020F 0 false := by unfold Admitted; decide +kernel
theorem wit_abs_ack : let s := { logged .ready .none with job := none }
    Admitted s (rq 4) 0x020E 4 false ∧ s.abs.lost = none ∧ s.abs.waiting = [] ∧ 1 ≤ absUsed s ∧
    s.abs.ring.lookup (fget s Reg.ABS_TAIL_INDEX) = some entry0 ∧ ackStops s entry0 = false := by unfold Admitted; decide +kernel
theorem wit_cell_evict : let s := { jobbed .ready .loaded with cache := { Cache.empty with dir := [(5, none)] } }
    Admitted s (rq 8) 0x020B 8 false ∧ inState s .ready .loaded = true ∧ powered s Dom.RAST = true ∧ evictBlocked s [5] = false := by unfold Admitted; decide

/-! ## Witnesses: beams, memory, cohort and time groups -/

theorem wit_beam_table_load : let s := live .service .none
    Admitted s (rq 8) 0x0301 8 false ∧ bufferReach 0 2097152 = true ∧ readyNoneOrService s = true ∧ powered s Dom.MEM = true := by unfold Admitted; decide
theorem wit_beam_set : let s := live .service .none
    Admitted s (rq 16) 0x0302 (4 + 12 * [(0, (0 : DWord))].length) false ∧ ([(0, (0 : DWord))].all fun p => entRank p.2 == 0 && decide (p.1 < nBeams)) = true ∧
    rwhs s = true ∧ modeIn s [.write, .hold] = false ∧ oneSet (tableAhead (live .write .recess)) [(0, 0)] = true := by unfold Admitted; decide +kernel
theorem wit_apply : let s := live .write .recess
    applyPending s = false ∧ (1 : Word).getLsbD 0 = true ∧ applyPending (fput Reg.GTH_BT_STATUS_PENDING 1 s) = true ∧ s.armed = none ∧
    s.beams.stalled = [] ∧ s.beams.queue = [] := by decide
theorem wit_checks_asked : let s := fput Reg.BHM_CAL_REF_REF 1 (live .service .none)
    Admitted s (rq 4) 0x0303 4 false ∧ Admitted s (rq 0) 0x0304 0 false ∧ Admitted s (rq 0) 0x0305 0 false ∧ Admitted s (rq 0) 0x0306 0 false ∧
    powered s Dom.GATH = true ∧ s.health.run = none ∧ fget s Reg.BHM_CAL_REF_REF ≠ 0 ∧ fget (live .service .none) Reg.BHM_CAL_REF_REF = 0 := by
  unfold Admitted; decide
theorem wit_beam_report : let s := live .ready .none
    Admitted s (rq 8) 0x0307 8 false ∧ s.beams.nextHist ≤ 0 + 65536 ∧ Admitted s (rq 0) 0x0308 0 false ∧ 1188000 ≤ 1212000 ∧ (1187999 < 1188000 ∨ 1212000 < 1187999) := by
  unfold Admitted; decide
theorem wit_mem_zero : Admitted (live .hold .recess) (rq 12) 0x0402 12 false ∧ modeIn (live .hold .recess) [.ready, .hold, .service] = true ∧
    (1 : Nat) ≠ Rgn.absence ∧ (1 : Nat) ≠ Rgn.band ∧ 2097151 + 1 ≤ (region 1).pages ∧ Admitted (live .service .none) (rq 0) 0x0403 0 false := by
  unfold Admitted; decide
theorem wit_cohort_config : let s := live .ready .none
    Admitted s (rq 4) 0x0501 4 false ∧ readyNoneOrService s = true ∧ 31 < 32 := by unfold Admitted; decide
/-- A member at position 1 of three that are all in reach, position 0 being the motion master. -/
def member (m : Mode) (j : JobState) : State :=
  let s := jobbed m j
  let s := fput Reg.COH_CFG_OWN 1 (fput Reg.COH_CFG_MEMBERS 3 s)
  let s := fput Reg.COH_STATUS_IN_MASTER_PART 1 (rset Reg.COH_KEEP 7 (rset Reg.COH_REACH 7 s))
  fput Reg.COH_LANES_EAST 15 (fput Reg.COH_LANES_WEST 15
    { s with coh := { s.coh with peers := ({ Peer.empty with roll := some (0, 0, 1024, 0, 0) } : Peer) :: List.replicate 31 Peer.empty } })
theorem wit_cohort_shrink : let s := member .hold .recess
    Admitted s (rq 4) 0x0502 4 false ∧ shrinkOk s 3 = true ∧ s.flow.mode = .hold ∧ fbit s Reg.COH_STATUS_IN_MASTER_PART = true ∧ isMaster s = false := by
  unfold Admitted; decide +kernel
theorem wit_cohort_shrink_master : let s := fput Reg.MOT_CHOREO_MASTER 1 (member .write .recess)
    Admitted s (rq 4) 0x0502 4 false ∧ shrinkOk s 3 = true ∧ betweenStripes s = true ∧ fbit s Reg.COH_STATUS_IN_MASTER_PART = true ∧ isMaster s = true := by
  unfold Admitted; decide +kernel
theorem wit_time_set : let s := live .ready .none
    Admitted s (rq 12) 0x0601 12 false ∧ 2 ^ 48 - 1 < 2 ^ 48 ∧ 999999999 < 1000000000 ∧ (s.flow.mode = .ready ∨ s.flow.mode = .service) ∧
    (List.range 8).all (fun n => trigOf s n == none) = true := by unfold Admitted; decide
theorem wit_time_group : let s := live .ready .none
    Admitted s (rq 8) 0x0602 8 false ∧ incMin ≤ incMax ∧ Admitted s (rq 4) 0x0606 4 false ∧ rwhs s = true ∧ Admitted s (rq 8) 0x0604 8 false ∧
    Admitted s (rq 0) 0x0605 0 false := by unfold Admitted; decide

/-! ## Witnesses: the Security group -/

theorem wit_cert_read : Admitted (live .ready .none) (rq 4) 0x0701 4 false ∧ rwhs (live .ready .none) = true ∧ 0 ≤ Config.certChain.length ∧
    Config.certChain.length < Config.certChain.length + 1 := ⟨by unfold Admitted; decide, by decide, Nat.zero_le _, Nat.lt_succ_self _⟩
theorem wit_attest : let s := { jobbed .write .stripe with prog := { Progress.zero with lastBell := some (0, 0) } }
    Admitted s (rq 36) 0x0702 36 false ∧ (List.replicate 32 (0 : Byte)).length = 32 ∧ s.job = some job0 ∧ s.prog.lastBell = some (0, 0) ∧
    (jobbed .write .recess).prog.lastBell = none ∧ (live .ready .none).job = none := by unfold Admitted; decide
theorem wit_fw_update : let s := live .ready .none
    Admitted s (rq 8) 0x0703 8 false ∧ bufferAligned 0 = true ∧ 16777216 ≤ 16777216 ∧ bufferReach 0 16777216 = true ∧ readyNoneOrService s = true ∧
    powered s Dom.MEM = true := by unfold Admitted; decide
theorem wit_lifecycle : let s := live .ready .none
    Admitted s (rq 100) 0x0704 100 false ∧ readyNoneOrService s = true ∧ transitionKey s (lifecycle s) 1 = none ∧
    (transitionKey s (lifecycle s) 3).isSome = true := by unfold Admitted; decide
theorem wit_key_provision : let s := live .ready .none
    Admitted s (rq 96) 0x0705 96 false ∧ (List.replicate 96 (0 : Byte)).length = 96 ∧ lifecycle s = Life.provisioned ∧ s.sec.rootKey = none ∧
    (lifecycle s ≠ Life.provisioned ∨ ({ s with sec := { s.sec with rootKey := some [] } }).sec.rootKey.isSome) := by unfold Admitted; decide

theorem wit_attest_none : (jobbed .write .stripe).job = some job0 ∧ (jobbed .write .stripe).prog.lastBell = none ∧
    Admitted (jobbed .write .stripe) (rq 36) 0x0702 36 false := by unfold Admitted; decide
theorem wit_key_refused : let s := { live .ready .none with sec := { State.reset.sec with order := 1 } }
    s.sec.order ≠ 0 ∧ State.reset.sec.order = 0 ∧ Admitted s (rq 96) 0x0705 96 false ∧ readyNoneOrService s = true := by unfold Admitted; decide

/-! ## Witnesses: domains, self-test, monitors, the Proctor -/

theorem wit_vote_set : let s := live .ready .none
    Admitted s (rq 8) 0x0802 8 false ∧ (0x1FC : Word).toNat < 512 ∧ (0x1FC : Word).getLsbD 0 = false ∧ (0x1FC : Word).getLsbD 1 = false ∧ rwhs s = true := by
  unfold Admitted; decide
theorem wit_domain_raised : let s := { State.reset with pwr := { State.reset.pwr with saved := [(0x00050014, 3)] } }
    s.pwr.raising.getLsbD 2 = true ∧ s.pwr.raising.getLsbD 3 = true ∧ needMet s 2 = true ∧ s.clk.waiting = [] ∧ waitsFor (.registerWrite (.block ⟨0x04, 0x14⟩) 0) = 4 ∧
    (List.range 8).all (fun n => trigPend s n == 0) = true := by decide +kernel
theorem wit_domain_registers : let s := { fput Reg.PWR_STATUS_DOMAINS 0x0F State.reset with
      pwr := { State.reset.pwr with raising := 64, saved := [(0x00070000, 3)] } }
    s.pwr.raising.getLsbD 6 = true ∧ 6 ≠ Dom.RAST ∧ 6 ≠ Dom.GATH ∧ blockDomain (0x00070000 / 65536) = 6 ∧ (0x00070000, 3) ∈ s.pwr.saved := by decide
theorem wit_bist_run : let s := live .service .none
    Admitted s (rq 8) 0x0905 8 false ∧ 508 < 512 ∧ 508 % 4 = 0 ∧ s.mon.bist = none ∧ s.hbm.fill ≠ some true ∧ Admitted s (rq 8) 0x0905 8 true ∧
    powered s Dom.MEM = true := by unfold Admitted; decide
theorem wit_bist_complete : let s := { live .service .none with mon := { State.reset.mon with bist := some ⟨0, 8, false⟩ } }
    s.mon.bist = some ⟨0, 8, false⟩ ∧ (8 : BitVec 9).getLsbD 2 = false ∧ s.mon.bistNext = none ∧ s.flow.serviceExit = none ∧
    (12 : BitVec 9).getLsbD 2 = true := by decide
theorem wit_probes : let s := live .ready .none
    Admitted s (rq 16) 0x0906 16 false ∧ sourceKnown 0x60 = true ∧ Admitted s (rq 4) 0x0907 4 false := by unfold Admitted; decide
theorem wit_die_temp : let s := live .write .recess
    s.flow.boot ≠ .held ∧ resting s = false ∧ dieWarns [2000] s = true ∧ dieTrips [2000] s = true ∧ s.mon.warn = false ∧ s.mon.trip = false ∧
    dieTrips [0] { s with mon := { s.mon with trip := true } } = false := by decide +kernel
theorem wit_diag_snapshot : let s := fput Reg.MON_SNAP_EN 1 (live .ready .none)
    fbit s Reg.MON_SNAP_EN = true ∧ proctorRuns s = true ∧ resting s = false ∧ powered s Dom.MEM = true ∧ s.flow.boot = .over ∧ s.mon.snaps.length < 63 := by decide
theorem wit_proctor_restart : Admitted (live .write .recess) (rq 0) 0x0107 0 true ∧ rwhs (live .write .recess) = true ∧
    proctorRuns (live .write .recess) = true ∧ proctorRuns { State.reset with flow := { State.reset.flow with boot := .held } } = false := by unfold Admitted; decide
theorem wit_restart_end : let s := { live .hold .recess with flow := { (live .hold .recess).flow with restart := some .hold } }
    s.flow.restart = some .hold ∧ s.flow.boot = .over ∧ s.mon.bist = none ∧ s.sec.debugHeld = false ∧ s.mail.orphan = false ∧ s.flow.mode ≠ .boot ∧
    (imageRuns s s.sec.newestB || imageRuns s (!s.sec.newestB)) = true := by decide
theorem wit_doorbell : let s := live .ready .none
    Awake s ∧ s.mail.waiting = [] ∧ slotBusy s 0 = false ∧ mayTake s = true ∧ later32 (slotOf s 0).alive (slotOf s 0).lastAlive = false ∧
    slotBusy (fputBit Reg.MBX_STATE_BUSY 0 true s) 0 = true := by unfold Awake; decide
theorem wit_doorbell_taken : let s := { live .ready .none with mail := { State.reset.mail with
      slots := requestSlot (rq 0) 0x0101 [] :: List.replicate 15 Slot.zero, current := some 1 } }
    mayTake s = false ∧ later32 1 0 = true ∧ requestOf 0 (slotOf s 0) = some (.nop (rq 0)) ∧ requestOf 0 Slot.zero = none := by decide

/-! ## Witnesses: triggers, supply, clocks -/

theorem wit_trigger_set : let s := live .ready .loaded
    Admitted s (rq 24) 0x0603 24 false ∧ triggerOk 7 4 7 0 2 = true ∧ rwhs s = true ∧ trigOf s 7 = none ∧ trigBusy s 7 = false ∧
    overdue s ⟨4, 7, 0, 0, 2⟩ = 0 := by unfold Admitted; decide
/-- The module with trigger 0 armed. -/
def triggered (a : Nat) : State :=
  { live .ready .loaded with tim := { State.reset.tim with trigs := some ⟨a, 7, 0, 0, 2⟩ :: List.replicate 7 none } }
theorem wit_trigger_fire : let s := triggered 2
    trigOf s 0 = some ⟨2, 7, 0, 0, 2⟩ ∧ s.flow.mode ≠ .rest ∧ coreRuns s = true ∧ trigBusy s 0 = false ∧ powered s Dom.GATH = true ∧
    s.tim.converting.getLsbD 7 = false ∧ mayStart (triggered 3) = true ∧ mayStart { triggered 3 with flow := (live .hold .recess).flow } = false := by decide
theorem wit_trigger_kept : let s := fput Reg.PWR_STATUS_DOMAINS 0x187 (triggered 2)
    let late := { live .ready .none with tim := { State.reset.tim with h := 100 } }
    coreRuns s = false ∧ trigOf s 0 = some ⟨2, 7, 0, 0, 2⟩ ∧ trigBusy s 0 = false ∧ trigPend s 0 = 0 ∧
    overdue late ⟨4, 7, 0, 0, 2⟩ ≠ 0 ∧ triggerOk 7 4 7 3 2 = true ∧ triggerOk 0 0 0 0 0 = true ∧ trigPend late 7 = 0 := by decide
theorem wit_conversion_end : convInput { triggered 2 with tim := { (triggered 2).tim with converting := 128, convFor := [(7, 0)] } } 0 = some 7 := by decide
theorem wit_pulse_end : (0, 7) ∈ ({ live .ready .none with mon := { State.reset.mon with gpioHigh := [(0, 7)] } }).mon.gpioHigh := by decide
theorem wit_gpio_edge : let s := fputBit Reg.MON_GPIO_EVT_RISE 7 true (live .ready .none)
    gpioDriven s 7 = false ∧ s.health.run = none ∧ s.mon.gpioIn.getLsbD 7 ≠ true ∧ powered s Dom.GATH = true ∧ proctorRuns s = true ∧
    fbitAt s Reg.MON_GPIO_EVT_RISE 7 = true ∧ fget (fput Reg.BHM_CFG_READY_GPIO 7 s) Reg.BHM_CFG_READY_GPIO = 7 := by decide
theorem wit_supply : let s := fput Reg.PWR_CFG_AUTO_RESUME 0 (fput Reg.PWR_STATUS_WARN 1 (live .write .recess))
    s.flow.boot ≠ .held ∧ s.flow.mode ≠ .rest ∧ s.flow.resume = .none ∧ fget s Reg.PWR_CFG_AUTO_RESUME = 0 ∧ fbit s Reg.PWR_STATUS_WARN = true ∧
    (live .rest .none).flow.mode = .rest ∧ fget (fput Reg.PWR_CFG_AUTO_RESUME 1 s) Reg.PWR_CFG_AUTO_RESUME = 1 := by decide
theorem wit_supply_rest : let s := live .rest .none
    s.flow.boot ≠ .held ∧ s.flow.mode = .rest ∧ (18000 : Nat) ≤ 18000 ∧ 18000 < 18001 := by decide
theorem wit_relock : let s := rset Reg.CLK_STATUS 0x37 (live .write .recess)
    fbit s (clkBit 3) = false ∧ fbit s (clkBit 4) = true ∧ fbit s (clkBit 5) = true ∧ powered s Dom.OUT = true ∧ s.out.link.on = false ∧
    powered s Dom.ETH = true ∧ s.flow.hostHold = false ∧ fbit (live .write .recess) (clkBit 5) = false ∧ s.flow.resume = .none := by decide
theorem wit_synth : synthBits .optical = [4] ∧ synthBits .port = [5] ∧ synthBits .dram = [3] ∧
    fbit (rset Reg.CLK_STATUS 0x3F (live .write .recess)) (clkBit 4) = true ∧ fbit (live .write .recess) (clkBit 4) = false := by decide

/-! ## Witnesses: resets, Boot, the page, Rest -/

/-- The module in a stage of Rest entry, from Ready. -/
def entering (stage : Nat) (m : Mode) : State :=
  { live m .none with pwr := { State.reset.pwr with raising := 0, rest := { State.reset.pwr.rest with stage := stage } } }

/-- Held by a power-on reset. -/
def held : State := { fput Reg.PWR_RESET_CAUSE_POR 1 State.reset with flow := { State.reset.flow with boot := .held } }
theorem wit_resets : heldByPor (live .ready .none) = false ∧ heldByPor held = true ∧
    heldByPor (fput Reg.PWR_RESET_CAUSE_POR 0 held) = false ∧
    State.reset.flow.boot = .filling ∧ State.reset.pwr.raising = 12 := by decide
theorem wit_dram_fill : let s := { live .service .none with hbm := { State.reset.hbm with fill := some false } }
    s.flow.boot = .over ∧ s.hbm.fill = some false ∧ s.flow.serviceExit = none := by decide
theorem wit_resets_held : let s := fput Reg.PWR_RESET_CAUSE_POR 0 held
    s.flow.boot = .held ∧ heldByPor s = false ∧ (imageRuns held held.sec.newestB || imageRuns held (!held.sec.newestB)) = true ∧
    (live .ready .none).flow.boot ≠ .filling ∧ (live .ready .none).hbm.fill = none := by decide +kernel
theorem wit_link_resets : (let s := entering 1 .ready; s.pwr.rest.stage ≠ 0 ∧ s.sec.debugHeld = false ∧ (List.range 8).all (fun n => trigOf s n == none) = true) ∧
    (let s := { live .rest .none with pwr := { State.reset.pwr with raising := 0, rest := { State.reset.pwr.rest with waking := true } } }
     s.pwr.rest.stage = 0 ∧ s.pwr.rest.waking = true ∧ s.flow.boot ≠ .held) := by decide
theorem wit_link_reset : (live .ready .none).flow.boot ≠ .held ∧ resting (live .ready .none) = false ∧ asleep (live .rest .none) = true := by decide
theorem wit_page : proctorRuns (live .ready .none) = true ∧ proctorRuns held = false ∧ coreRuns held = false := by decide
theorem wit_parameter_tick : let s := voted <| fput Reg.GTH_PSET_STATUS_PENDING 1 (fput Reg.COH_CFG_MEMBERS 2 (jobbed .hold .recess))
    (Client.host ≠ Client.cal ∧ (votes s Dom.GATH).testBit Client.host = true) ∧ coreRuns s = true ∧ s.armed = none ∧ isMaster s = false ∧ s.beams.applyCmd = none ∧ s.beams.queue = [] ∧ s.flow.lastLayer = none ∧
    s.flow.holdReq = false ∧ s.flow.resume = .none ∧ fbit s Reg.GTH_PSET_STATUS_PENDING = true := by decide
theorem wit_tick_resumes : let s := voted <| fput Reg.COH_CFG_MEMBERS 2 (jobbed .hold .recess)
    let u := { s with flow := { s.flow with resume := .atTick (some 15) } }
    (votes u Dom.GATH).testBit Client.host = true ∧ coreRuns u = true ∧ u.armed = none ∧ u.flow.lastLayer = none ∧ u.flow.holdReq = false ∧ isMaster u = false ∧ u.mot.locate = false ∧
    u.beams.applyCmd = none ∧ u.beams.queue = [] ∧ u.flow.resume = .atTick (some 15) ∧
    fbit (fput Reg.GTH_PSET_STATUS_PENDING 1 u) Reg.GTH_PSET_STATUS_PENDING = true := by decide
theorem wit_rest_entry : let s := { entering 0 .ready with pwr := { State.reset.pwr with rest := { State.reset.pwr.rest with due := some .ready } } }
    s.pwr.rest.linkReset = none ∧ s.sec.debugHeld = false ∧ s.pwr.rest.due = some s.flow.mode ∧ restAllowed s = true ∧ transitioning s = false ∧
    s.flow.mode ≠ .hold := by decide
theorem wit_rest_dropped : let s := { entering 0 .hold with pwr := { State.reset.pwr with rest := { State.reset.pwr.rest with due := some .ready } } }
    s.pwr.rest.due = some .ready ∧ s.flow.mode ≠ .ready ∧ (entering 0 .hold).pwr.rest.due = none ∧ wakeEnabled (entering 0 .ready) .host = true ∧
    asleep (entering 0 .ready) = false := by decide
theorem wit_rest_stages : (entering 1 .ready).pwr.rest.stage = 1 ∧ stageOneOver (entering 1 .ready) = true ∧ (entering 2 .ready).pwr.rest.stage = 2 ∧
    (entering 2 .ready).ecc.sram = Codes.clean ∧ injectKind (entering 2 .ready) 94 = .clean ∧ (entering 1 .ready).pwr.rest.linkReset = none ∧
    (entering 3 .ready).pwr.rest.stage = 3 ∧ (entering 4 .rest).pwr.rest.stage = 4 ∧ wakeEnabled (entering 1 .ready) .host = true ∧
    wakeEnabled (fput Reg.PWR_CFG_WAKE_L_EN 0 (entering 1 .ready)) .wakeL = false := by decide
/-- Asleep, with every bank retained. -/
def sleeping : State := rset (Reg.PWR_RET 0) 0xFFFFFFFF (rset (Reg.PWR_RET 1) 0xFFFFFFFF (rset (Reg.PWR_RET 2) 0xFFFFFFFF (entering 0 .rest)))
theorem wit_rest_left : asleep sleeping = true ∧ wakeEnabled sleeping .host = true ∧ (List.range 96).all (retained sleeping) = true ∧
    (List.range 6).all (fun b => !(1 : BitVec 96).getLsbD (90 + b)) = true ∧ (List.range 8).all (fun n => trigOf sleeping n == none) = true ∧
    sleeping.flow.resume = .none ∧ sleeping.job = none ∧
    ({ sleeping with pwr := { sleeping.pwr with rest := { sleeping.pwr.rest with waking := true } } }).pwr.rest.waking = true := by decide +kernel

/-! ## Witnesses: position, enables, motion -/

theorem wit_quad : let s := jobbed .ready .loaded
    pwsForm s = false ∧ s.flow.mode ≠ .boot ∧ s.flow.mode ≠ .rest ∧ powered s Dom.GATH = true ∧ s.armed = none ∧ Axis.x ≠ .y ∧ QuadMove.up ≠ .both := by decide
theorem wit_quad_kept : let s := { live .ready .none with pos := { State.reset.pos with cfg := 31 * 16 } }
    edgeHeld s .x 25 50 = true ∧ edgeHeld s .y 25 774 = false ∧ edgeHeld s .y 25 775 = true ∧ pwsForm s = false ∧ s.flow.mode ≠ .boot ∧
    powered (fput Reg.PWR_STATUS_DOMAINS 0x1DF s) Dom.GATH = false := by decide
/-- A stripe armed, before its first crossing. -/
def armed0 : Armed := ⟨0, [-3, -2, -1], none, 32000, [], none, 0, 0, List.replicate 8 0⟩
/-- The module with that stripe armed. -/
def firing : State := { jobbed .write .stripe with armed := some armed0, pos := { State.reset.pos with hwm := -1000 } }
theorem wit_quad_armed : firing.armed.isSome = true ∧ curEntry firing = some stripe0 ∧ fbit firing Reg.POS_STATUS_REVERSED = false ∧
    ((bits firing.pos.jitter.toNat 7 0 : Nat) : Int) < 1000 - progressOf stripe0 firing.pos.y.count := by decide
theorem wit_pos_set : let s := live .ready .none
    s.armed = none ∧ (!pwsForm s && (modeIn s [.ready, .hold, .service] || inState s .write .recess) && decide ((2 : Nat) ≤ 2)) = true ∧
    (!pwsForm s && (modeIn s [.ready, .hold, .service] || inState s .write .recess) && decide ((3 : Nat) ≤ 2)) = false := by decide
/-- The module with the serial form of the position port. -/
def serial : State := fput Reg.POS_STATUS_LOCK 1 { live .ready .none with pos := { State.reset.pos with cfg := 1, pws := { State.reset.pos.pws with bad := 3 } } }
theorem wit_pws : pwsForm serial = true ∧ serial.armed = none ∧ pwsFrameGood 0 0 = false ∧ fbit serial Reg.POS_STATUS_LOCK = true ∧ 3 ≤ serial.pos.pws.bad := by
  decide
theorem wit_pws_counts : serial.flow.mode ≠ .boot ∧ serial.flow.mode ≠ .rest ∧ powered serial Dom.GATH = true ∧
    fbit (fput Reg.POS_STATUS_LOCK 0 serial) Reg.POS_STATUS_LOCK = false ∧ (fput Reg.POS_STATUS_LOCK 0 serial).pos.pws.good ≤ 3 := by decide
theorem wit_pws_good : let d1 : BitVec 80 := BitVec.ofNat 80 (crcOf crc8 (pwsCrcBytes 0xB4 0x4B) * 2 ^ 72 + 0x4B)
    pwsFrameGood 0xB4 d1 = true ∧ d1.getLsbD 59 = false := by decide +kernel
theorem wit_shot_crossed : firing.armed = some armed0 ∧ firing.pos.hwm < -3 * (pixCounts firing : Int) ∧ (-3 : Int) ≤ -3 := by decide
theorem wit_crossing_interval : let a := { armed0 with lastTc := some 0 }
    let s := fput Reg.BELL_GUARD_STEPS 640 { firing with armed := some a }
    s.armed = some a ∧ a.lastTc = some 0 ∧ (640 : Int) - 0 ≤ fget s Reg.BELL_GUARD_STEPS ∧ (fget s Reg.BELL_GUARD_STEPS : Int) < 641 - 0 ∧
    (-4 : Int) < -3 ∧ powered (fput Reg.PWR_STATUS_DOMAINS 0x1DF s) Dom.GATH = false ∧ powered s Dom.GATH = true := by decide
theorem wit_cinch : (live .service .none).flow.mode = .service ∧ powered (live .service .none) Dom.OUT = true ∧
    fbit (live .write .recess) Reg.OUT_STATUS_CINCH = false ∧ (live .write .recess).health.run = none ∧
    fbit (fput Reg.OUT_STATUS_CINCH 1 (live .write .recess)) Reg.OUT_STATUS_CINCH = true := by decide
theorem wit_expose : let s : State :=
      { fput Reg.OUT_STATUS_EXPOSE_EN 1 (jobbed .ready .loaded) with
        out := { Out.por with exposeSince := some 0 }
        flow := { (live .ready .loaded).flow with starting := some (some 0) } }
    s.out.exposeSince.isSome = true ∧ fbit s Reg.OUT_STATUS_EXPOSE_EN = true ∧ fbit s Reg.OUT_STATUS_SETTLED = false ∧ s.flow.starting = some (some 0) ∧ s.mail.orphan = false ∧
    cinchTestPasses s (1000 * actCinchNs s) = true ∧ cinchTestPasses s 0 = false ∧ (live .ready .none).flow.starting = none := by decide
theorem wit_expose_none : (live .ready .none).flow.mode ≠ .service ∧ (live .ready .none).out.exposeSince = none ∧
    (∀ n, (jobbed .write .recess).flow.resume ≠ .atTick n) ∧ (jobbed .write .recess).flow.mode = .write := by
  refine ⟨by decide, by decide, fun n => ?_, by decide⟩
  intro h; cases h
/-- A segment at rest at 0 that ends there. -/
def still : Segment := ⟨Dy.zero, Dy.zero, Dy.zero, [(Dy.ofInt 1, Dy.zero)], Dy.ofInt 1, Dy.zero, Dy.zero, Dy.zero⟩
/-- The module with channel `n` a servo or step channel in a state, with a segment. -/
def running (n : Nat) (md st : Nat) (g : Segment) (plan : Option Segment) : State :=
  let s := fput (Reg.MOT_CH_CFG_MODE n) md (fput (Reg.MOT_CH_STATUS_STATE n) st (live .ready .none))
  { s with mot := { s.mot with chans := s.mot.chans.set n { Chan.por with seg := some g, plan := plan, cfg := BitVec.ofNat 32 md } } }
theorem wit_commit : let s := fput (Reg.MOT_CH_CFG_MODE 0) 1 (live .ready .none)
    fbit s (Reg.MOT_CH_STATUS_OWNED 0) = false ∧ chanMode s 0 ≠ 0 ∧ chanState s 0 ≠ stStalled ∧ chanMode (live .ready .none) 0 = 0 ∧
    fbit (fput (Reg.MOT_CH_STATUS_OWNED 0) 1 s) (Reg.MOT_CH_STATUS_OWNED 0) = true := by decide
theorem wit_shadow : chanPending (fput (Reg.MOT_CH_STATUS_PENDING 5) 1 (live .ready .none)) 5 = true ∧ chanPending (live .ready .none) 5 = false := by decide
/-- Channel 0 with a commit of no move pending. -/
def pended : State :=
  fput (Reg.MOT_CH_CFG_MODE 0) 1 (fput (Reg.MOT_CH_STATUS_PENDING 0) 1 (live .ready .none))
theorem wit_plan : chanPending pended 0 = true ∧ (chan pended 0).seg = none ∧
    (planOf pended 0 (segWords pended (Reg.MOT_CH_SH_TARGET_LO 0)) (chan pended 0).rest Dy.zero).2.isSome = true ∧
    planOf (live .ready .none) 0 (segWords pended (Reg.MOT_CH_SH_TARGET_LO 0)) (chan pended 0).rest Dy.zero = (rejMode, none) := by decide +kernel
theorem wit_segments : let s := running 1 1 stMoving still (some still)
    (chan s 1).seg = some still ∧ chanState s 1 = stMoving ∧ (1 ≤ 1 ∨ fbit s (Reg.MOT_CH_STATUS_OWNED 0) = false) ∧ (chan s 1).plan = some still ∧
    still.phases ≠ [] ∧ still.vEnd.isZero = true ∧ (chan (running 1 1 stMoving still none) 1).plan = none ∧
    ({ still with vEnd := Dy.ofInt 1 } : Segment).vEnd.isZero = false ∧ chanState (running 1 1 stStopping still none) 1 = stStopping := by decide
theorem wit_clear : chanState (running 2 2 stStalled still none) 2 = stStalled ∧ (63 : BitVec 6).getLsbD 2 = true := by decide
theorem wit_step : let s := running 2 2 stMoving { still with target := Dy.ofInt 5 } none
    chanMode s 2 = 2 ∧ chanState s 2 ≠ stStalled ∧ outCount (motionEnd s 2).1 ≠ (chan s 2).count ∧ rwhs s = true := by decide +kernel
theorem wit_step_none : let s := running 2 2 stMoving still none
    chanMode s 2 = 2 ∧ outCount (motionEnd s 2).1 = (chan s 2).count ∧ (∀ e, curEntry s = some e → approachReady s e = false) := by decide +kernel
theorem wit_segments_none : let s := running 1 1 stMoving { still with vEnd := Dy.ofInt 1 } none
    (chan s 1).seg = some { still with vEnd := Dy.ofInt 1 } ∧ chanState s 1 = stMoving ∧ (chan s 1).plan = none ∧
    (chan (live .ready .none) 5).seg = none ∧ chanState (running 1 1 stIdle still none) 1 ≠ stStopping ∧ choreoOwns s 1 = false ∧
    ({ still with phases := [] } : Segment).phases = [] := by decide +kernel
theorem wit_stall_not_low : let s := running 5 2 stMoving still none
    chanMode s 5 = 2 ∧ bits (chanCfg s 5).toNat 31 16 = 0 ∧
    (let s := fput Reg.BHM_CAL_CFG_CHAN 0 (fput Reg.MOT_STALL_FMIN_RATE 1 { s with mot := { s.mot with chans := s.mot.chans.set 5 { Chan.por with seg := some still, cfg := 0x00010002, lastStep := some 0 } } })
     chanMode s 5 = 2 ∧ bits (chanCfg s 5).toNat 31 16 ≠ 0 ∧ senseOff s 5 = false ∧ stallQ s 5 % msteps s 5 = 0 ∧
     sampleDue (runTo 1999 s) 5 = false ∧ sampleDue (runTo 2000 s) 5 = true ∧
     decide (fget s Reg.MOT_STALL_FMIN_RATE ≤ stepRate (runTo 2000 s) 5) = false) := by decide +kernel
theorem wit_stall :
    let c : Chan := { Chan.por with seg := some { still with v0 := Dy.ofInt 1, dur := Dy.ofInt 100 }, cfg := 0x00010002, lastStep := some 0 }
    let s := fput Reg.BHM_CAL_CFG_CHAN 2 (fput Reg.MOT_STALL_STEPS 1
      { running 2 2 stMoving still none with mot := { State.reset.mot with chans := State.reset.mot.chans.set 2 c } })
    chanMode s 2 = 2 ∧ chanState s 2 ≠ stStalled ∧ bits (chanCfg s 2).toNat 31 16 ≠ 0 ∧ senseOff s 2 = false ∧ stallQ s 2 % msteps s 2 = 0 ∧
    sampleDue (runTo 2000 s) 2 = true ∧ fget s Reg.MOT_STALL_FMIN_RATE ≤ stepRate (runTo 2000 s) 2 ∧
    (calibrated s (senseInput s 2) 32768 - 32768).natAbs * 256000 * 65536 < bits (chanCfg s 2).toNat 31 16 * stepRate (runTo 2000 s) 2 * stallCos s ∧
    actStallSteps s ≤ fget s (Reg.MOT_CH_STATUS_STALL_RUN 2) + 1 := by decide +kernel

/-! ## Witnesses: DMA, check units, time, JTAG -/

/-- Channel 0 in a state, with a phase and a descriptor. -/
def chained (st : Nat) (ph : DmaPhase) (d : Option Desc) : State :=
  let s := fput (Reg.DMA_CH_STATE_STATE 0) st (live .ready .loaded)
  { s with dma := { s.dma with chans := { DmaChan.idle with phase := ph, desc := d } :: List.replicate 7 DmaChan.idle } }
/-- A descriptor of the input buffer, and one of the staging ring. -/
def inputDesc : Desc := ⟨32, 0, 2 * 2 ^ 60, 0, 4, 8, 5⟩
def stagingDesc : Desc := ⟨32, 0, 2 ^ 60, 0, 104, 8, 6⟩
theorem wit_dma_commands : Awake (live .ready .loaded) ∧ dmaState (live .ready .loaded) 0 = Dma.idle ∧ dmaState (chained Dma.halted .idle none) 0 = Dma.halted ∧
    fget (fput (Reg.DMA_CH_STATE_ERR 0) 1 (chained Dma.halted .idle none)) (Reg.DMA_CH_STATE_ERR 0) ≠ 0 ∧
    dmaState (chained Dma.parked .idle none) 0 = Dma.parked ∧ dmaState (chained Dma.running (.fetch 32) none) 0 = Dma.running ∧
    (dmaChan (chained Dma.parked .idle none) 0).sample = (rget (chained Dma.parked .idle none) (Reg.DMA_CH_APPEND_COUNT 0)).toNat := by unfold Awake; decide
theorem wit_dma_fetch : let s := chained Dma.running (.fetch 32) none
    dmaState s 0 = Dma.running ∧ resting s = false ∧ (dmaChan s 0).phase = .fetch 32 ∧ (descOf 32 []).ok = false ∧
    (let bs := leBytes 8 0 ++ leBytes 8 (2 * 2 ^ 60) ++ leBytes 8 0 ++ leBytes 4 4 ++ leBytes 2 8 ++ leBytes 2 5
     (descOf 32 bs).ok = true ∧ (descOf 32 bs).cls ≠ 1) := by decide +kernel
theorem wit_dma_data : let s := chained Dma.running .data (some inputDesc)
    (dmaChan s 0).phase = .data ∧ (dmaChan s 0).desc = some inputDesc ∧ inputDesc.outbound = false ∧ inputDesc.cls = 2 ∧ inputDesc.next = 0 ∧
    ([1, 2, 3, 4] : List Byte).length = inputDesc.len ∧ foldOk inputDesc [1, 2, 3, 4] = true ∧ (dmaChan s 0).stopping = false ∧
    (dmaChan s 0).sample = (rget s (Reg.DMA_CH_APPEND_COUNT 0)).toNat ∧ (dmaChan s 0).ahead = [] ∧ portClosed s inputDesc = false ∧ inputDesc.swap = 0 ∧
    1 + ([2, 3] : List Byte).length ≤ inputDesc.len ∧ s.ecc.dram = Codes.clean := by decide
/-- A descriptor behind the one that channel 0 executes. -/
theorem wit_dma_ahead : let s := chained Dma.running .data (some { inputDesc with next := 64 })
    let u := { s with dma := { s.dma with chans := s.dma.chans.set 0 { dmaChan s 0 with reading := true } } }
    (dmaChan u 0).phase = .data ∧ (dmaChan u 0).reading = true ∧ (dmaChan u 0).begun.getLast? = some { inputDesc with next := 64 } ∧
    (let v := { s with dma := { s.dma with chans := s.dma.chans.set 0 { dmaChan s 0 with ahead := [.read inputDesc, .failed 96] } } }
     (dmaChan v 0).ahead = .read inputDesc :: [.failed 96] ∧ inputDesc.ok = true ∧ inputDesc.cls ≠ 1 ∧ (dmaChan v 0).stopping = false) ∧
    portClosed { s with flow := { s.flow with mode := .boot, boot := .filling } } inputDesc = true := by decide
theorem wit_dma_fold : let d : Desc := { inputDesc with len := 5, flags := 24 }
    d.outbound = false ∧ d.cls = 2 ∧ ([1, 2, 3, 4, 5] : List Byte).length = d.len ∧ foldOk d [1, 2, 3, 4, 5] = false := by decide +kernel
theorem wit_dma_waits : let bs := leBytes 8 0 ++ leBytes 8 (2 ^ 60) ++ leBytes 8 0 ++ leBytes 4 104 ++ leBytes 2 8 ++ leBytes 2 5
    let s := chained Dma.running .reread (some inputDesc)
    (descOf 32 bs).ok = true ∧ (descOf 32 bs).cls = 1 ∧ stagingOn (chained Dma.running (.fetch 32) none) = true ∧
    (dmaChan s 0).phase = .reread ∧ leAt [32] 0 8 % 32 = 0 ∧ leAt [33] 0 8 % 32 ≠ 0 ∧ (dmaChan s 0).desc = some inputDesc ∧ (dmaChan s 0).stopping = false ∧
    dmaState (chained Dma.halted .reread none) 0 = Dma.halted ∧ asleep sleeping = true ∧ sleeping.flow.boot ≠ .held ∧ held.flow.boot = .held ∧
    dmaState sleeping 0 ≠ Dma.running ∧ (dmaChan sleeping 0).phase ≠ .room := by decide +kernel
theorem wit_dma_outbound : let d : Desc := ⟨32, 3 * 2 ^ 60, 64, 0, 4, 32, 5⟩
    let s := chained Dma.running .data (some d)
    let u := { s with ecc := { s.ecc with invalid := [], dram := { Codes.clean with poison := [((region Rgn.diag).lo + 4) / 8] } } }
    d.outbound = true ∧ (memRead Port.proctor ((region Rgn.diag).lo + d.offset) d.len s).2 = some [0, 0, 0, 0] ∧
    (memRead Port.proctor ((region Rgn.diag).lo + ({ d with src := d.src + 4 } : Desc).offset) d.len u).2 = none := by decide +kernel
theorem wit_staging_full : let s := chained Dma.running .room (some stagingDesc)
    stagingRing < ({ s with ingest := { s.ingest with stagingUsed := stagingRing } }).ingest.stagingUsed + stagingUnits stagingDesc.len := by decide
theorem wit_staging_room : let s := chained Dma.running .room (some stagingDesc)
    (dmaChan s 0).phase = .room ∧ stagingOn s = true ∧ s.ingest.stagingUsed + stagingUnits stagingDesc.len ≤ stagingRing := by decide
theorem wit_check_units : chkAccepts 1 true = true ∧ chkAccepts 2 false = true ∧ chkAccepts 2 true = false ∧ chkAccepts 1 false = false ∧ Awake (live .ready .none) ∧ asleep sleeping = true ∧ sleeping.flow.boot ≠ .held := by unfold Awake; decide +kernel
theorem wit_counter : (live .ready .none).tim.inRest = false ∧ ({ sleeping with tim := { sleeping.tim with inRest := true } }).tim.inRest = true ∧
    powered (live .ready .none) Dom.GATH = true := by decide
theorem wit_references : fbit (fput Reg.TIM_STATUS_REF_EN 1 (live .ready .none)) Reg.TIM_STATUS_REF_EN = true ∧
    fbit (fput Reg.TIM_STATUS_PTP_EN 1 (live .ready .none)) Reg.TIM_STATUS_PTP_EN = true ∧ powered (live .ready .none) Dom.ETH = true ∧
    (100000 : Int).natAbs ≤ 100000 ∧ 100000 < (-100001 : Int).natAbs ∧ (-100001 : Int) ≤ timeE (live .ready .none) ∧
    ptpMine (live .ready .none) ⟨0, false⟩ = true ∧ ptpMine (live .ready .none) ⟨1, false⟩ = false ∧ sfpTransmitDisable (live .ready .none) = false ∧
    sfpTransmitDisable sleeping = true ∧ outputsHeld (live .ready .none) Dom.GATH = false ∧
    timeSource (live .ready .none) ≠ 0 ∧ (live .ready .none).tim.ts.length < 16 ∧ (live .ready .none).tim.ethUp ≠ true := by decide
theorem wit_tap : lifecycle (fput Reg.SEC_STATUS_LIFECYCLE 0 (live .ready .none)) = Life.manufacture ∧
    lifecycle (fput Reg.SEC_STATUS_LIFECYCLE 2 (live .ready .none)) = Life.secured ∧ lifecycle (live .ready .none) = Life.provisioned ∧
    TapInstr.debug ≠ .idcode ∧ TapInstr.debug ≠ .bypass := by decide
theorem wit_time_none : let s := live .ready .none
    fbit s Reg.TIM_STATUS_REF_EN = false ∧ fbit s Reg.TIM_STATUS_PTP_EN = false ∧ (live .rest .none).flow.mode = .rest ∧
    powered (fput Reg.PWR_STATUS_DOMAINS 0 s) Dom.ETH = false ∧ (List.range 8).all (fun n => trigOf s n == none) = true ∧ s.flow.mode ≠ .rest ∧
    timeSource (fput Reg.TIM_STATUS_REF_EN 1 { s with tim := { s.tim with refGood := true, refWindows := 10 } }) ≠ 0 := by decide
theorem wit_time_held : let s := { live .ready .none with tim := { State.reset.tim with ts := List.replicate 16 ⟨0, 0⟩, ethUp := true } }
    16 ≤ s.tim.ts.length ∧ s.tim.ethUp = true ∧
    (let u := { s with tim := { s.tim with ptpSync := some (5, 7), ptpReqs := [(9, 11)] } }
     u.tim.ptpSync = some (5, 7) ∧ u.tim.ptpReqs.lookup 9 = some 11 ∧ u.tim.ptpReqs.lookup 8 = none) := by decide
theorem wit_tap_holds : let s := live .service .none
    tapHolds { s with sec := { s.sec with tap := .extest } } = true ∧ tapHolds { s with sec := { s.sec with tap := .idcode, tapArmed := true } } = false ∧
    s.out.exposeSince = none ∧ ({ s with out := { Out.por with exposeSince := some 0 } }).out.exposeSince.isSome = true ∧
    (held.flow.boot != .over) = true := by decide
theorem wit_tap_debug : let s := live .ready .none
    fbit s Reg.SEC_STATUS_DEBUG_OPEN = false ∧ s.sec.debugFill = false ∧ s.flow.boot = .over ∧ resting s = false ∧ s.flow.restart = none ∧
    s.flow.restartReq = false ∧ s.flow.ending = none ∧ s.job = none ∧ fbit (fput Reg.SEC_STATUS_DEBUG_OPEN 1 s) Reg.SEC_STATUS_DEBUG_OPEN = true := by decide
theorem wit_debug_open : let s := { live .ready .none with sec := { State.reset.sec with debugHeld := true, debugFill := true } }
    s.sec.debugHeld = true ∧ s.sec.debugFill = true ∧ s.job = none ∧ s.hbm.fill = none ∧ s.flow.boot = .over ∧ (live .ready .none).sec.debugHeld = false ∧
    lifecycle s = Life.provisioned ∧ lifecycle (fput Reg.SEC_STATUS_LIFECYCLE 2 s) = Life.secured := by decide

/-! ## Witnesses: pacing and the lanes -/

/-- A band of the current stripe. -/
def bandN (n : Nat) : Band := ⟨0, n, n, none, []⟩
/-- The module ready to start stripe 0: two bands finished, the digest the job's, scan speed, the Window open. -/
def starting : State :=
  fput Reg.POS_STATUS_VALID_Y 1
    { jobbed .write .recess with
      job := some { job0 with digest := ownDigest (live .write .recess) }
      prog := { Progress.zero with speed := true }
      ras := { Raster.empty with ring := [bandN 0, bandN 1] }
      win := ⟨some 0, 0, -4096, -4096, [], -4⟩
      pos := { State.reset.pos with y := ⟨-65, 0⟩ } }
theorem wit_stripe_kept : startReady firing = false ∧ axisValid (samplePosCfg starting) .y = true ∧
    axisValid (samplePosCfg (fput Reg.POS_STATUS_VALID_Y 0 starting)) .y = false ∧ startReady (fput Reg.POS_STATUS_VALID_Y 0 starting) = true ∧
    (let s := fput Reg.COH_CFG_MEMBERS 2 { starting with coh := { starting.coh with go := some (0, 0, 0) } }
     startReady s = true ∧ isMaster s = false) := by decide +kernel
/-- The motion master at rest at the start of its first approach. -/
def approaching : State :=
  let s := fput (Reg.MOT_CH_CFG_MODE 0) 1 { starting with prog := Progress.zero }
  let s := { s with mot := { s.mot with chans := s.mot.chans.set 0 { Chan.por with rest := Dy.ofInt (approachStart s stripe0) } } }
  { s with job := some { job0 with digest := ownDigest s } }
theorem wit_approach : curEntry approaching = some stripe0 ∧ approachReady approaching stripe0 = true ∧ chanMode approaching 0 ≠ 0 ∧
    approaching.health.run = none := by decide +kernel
theorem wit_stripe_arm : curEntry starting = some stripe0 ∧ startReady starting = true ∧ pwsForm starting = (rget starting Reg.POS_CFG).getLsbD 0 ∧
    axisValid starting .y = true ∧ progressOf stripe0 starting.pos.y.count < -4 * (pixCounts starting : Int) ∧ isMaster starting = true ∧
    -4 * (pixCounts starting : Int) ≤ progressOf stripe0 ({ starting with pos := { starting.pos with y := ⟨-64, 0⟩ } }).pos.y.count := by decide +kernel
/-- The armed stripe with its first lead slot crossed. -/
def crossed : State := rset Reg.CLK_STATUS 0x3F { firing with armed := some { armed0 with crossings := [⟨-3, 1000, 1000⟩] } }
theorem wit_bell : (fbit crossed Reg.CLK_STATUS_BELL && fbit crossed Reg.CLK_STATUS_CORE) = true ∧
    (fbit firing Reg.CLK_STATUS_BELL && fbit firing Reg.CLK_STATUS_CORE) = false ∧ curEntry { firing with job := none } = none ∧ curEntry crossed = some stripe0 ∧ ({ armed0 with crossings := [⟨-3, 1000, 1000⟩] } : Armed).slots = -3 :: -2 :: [-1] ∧
    (([⟨-3, 1000, 1000⟩] : List Crossing).find? (·.shot == -3)) = some ⟨-3, 1000, 1000⟩ ∧ crossed.flow.holdReq = false ∧ crossed.flow.resume = .none ∧
    crossed.out.outOfStep = false ∧ crossed.beams.applyCmd = none ∧ fbit crossed Reg.GTH_PSET_STATUS_PENDING = false := by decide
theorem wit_bell_last : let a := { armed0 with slots := [1], crossings := [⟨1, 1000, 1000⟩] }
    let s := { firing with armed := some a }
    s.armed = some a ∧ a.slots = [1] ∧ (a.crossings.find? (·.shot == 1)) = some ⟨1, 1000, 1000⟩ ∧ s.flow.ending = none ∧ s.flow.restartReq = false ∧
    s.health.run = none ∧ (armed0.crossings.find? (·.shot == -3)) = none ∧
    (firing.shots.find? fun x => x.shot == 3 && !x.gathered) = none ∧
    (firing.shots.find? fun x => x.whole.isEmpty && !(x.lane 7).passed && decide (0 ≤ x.shot)) = none := by decide
/-- A shot that awaits everything. -/
def shotN (n : Int) : Shot := Shot.fresh 0 stripe0 7 n 0 0 (List.replicate 8 0)
/-- The armed stripe with shots in flight. -/
def flying (l : List Shot) : State := { firing with shots := l }
theorem wit_gather_complete : ((flying [shotN 3]).shots.find? fun x => x.shot == 3 && !x.gathered) = some (shotN 3) := by decide
theorem wit_lane_deadline : ((flying [shotN 3]).shots.find? fun x => x.whole.isEmpty && !(x.lane 7).passed && decide (0 ≤ x.shot)) = some (shotN 3) := by decide
theorem wit_frame_start : powered (flying [shotN 3]) Dom.OUT = true ∧ (shotsInReach (flying [shotN 3]).shots).find? (Shot.frameDue 63) = some (shotN 3) ∧
    (live .ready .none).armed = none ∧ (live .ready .none).health.run = none := by decide
/-- A shot with its Bell, its lane 0 sent as a shot frame. -/
def firedN (n : Int) : Shot :=
  { shotN n with bell := some (64000, 32000), lanes := (List.replicate 64 LaneShot.fresh).set 0 { LaneShot.fresh with sent := some (.shot, 0, 0) } }
theorem wit_strobe_rise : ((flying [firedN 3]).shots.find? fun x => x.bell.isSome && (x.groups.getD 0 ⟨none, false⟩) == ⟨none, false⟩) = some (firedN 3) ∧
    (firedN 3).bell = some (64000, 32000) ∧ 0 ≤ (firedN 3).shot ∧ blockReasons (flying [firedN 3]) 3 = [] ∧ (firedN 3).whole = [] ∧
    (firedN 3).groupFires 0 = true ∧ (flying [firedN 3]).flow.resume = .none ∧ (firedN 3).groupFires 1 = false := by decide
theorem wit_strobes : let s := flying [firedN 3]
    let up := { firedN 3 with groups := ⟨some 0, false⟩ :: List.replicate 7 ⟨none, true⟩ }
    (s.shots.find? fun x => x.bell.isSome && (x.groups.getD 7 ⟨none, false⟩) == ⟨none, false⟩) = some (firedN 3) ∧ (firedN 3).groupFires 7 = false ∧
    (firing.shots.find? fun x => x.bell.isSome && (x.groups.getD 0 ⟨none, false⟩) == ⟨none, false⟩) = none ∧
    powered (fput Reg.PWR_STATUS_DOMAINS 0 s) Dom.OUT = false ∧ s.armed.isSome = true ∧ (∀ k n, s.flow.resume ≠ .inStripe k n) ∧
    ([up].any fun sh => (sh.groups.getD 0 ⟨none, false⟩).rise.isSome && !(sh.groups.getD 0 ⟨none, false⟩).fallen) = true ∧
    (let u := { s with flow := { s.flow with resume := .inStripe 3 (some 0) } }
     u.flow.resume = .inStripe 3 (some 0) ∧ blockReasons u 3 = []) ∧
    ({ s with armed := none }).armed = none ∧ ([{ up with groups := List.replicate 8 ⟨none, true⟩ }].all Shot.strobesOver) = true := by
  refine ⟨by decide, by decide, by decide, by decide, by decide, ?_, by decide, by decide, by decide, by decide⟩
  intro k n h; cases h
/-- Lane 0 awaits the echo of an IDLE frame. -/
def idling : State :=
  { live .ready .none with out := { Out.por with lanes := ⟨0, false, [100], false⟩ :: List.replicate 63 ⟨0, false, [], false⟩ } }
theorem wit_idle_echo : idling.health.run = none ∧ (laneState idling 0).idle = 100 :: [] ∧ (laneState idling 0).bad + 1 < actEchoLimit idling ∧
    echoFrame idling 0 0 = some .idle ∧ deadlineFrame idling 0 200000 = some .idle ∧ echoFrame idling 0 2 = some .idle ∧ echoFired 2 = true ∧
    EchoClass.wrongFrame ≠ .firedNonShot := by decide
theorem wit_no_echo : echoFrame (live .ready .none) 0 0 = none ∧ deadlineFrame (live .ready .none) 0 0 = none ∧
    (let s := { idling with out := { idling.out with lanes := ⟨255, false, [100], false⟩ :: List.replicate 63 ⟨0, false, [], false⟩ } }
     actEchoLimit s ≤ (laneState s 0).bad + 1) ∧ (∀ n, idling.flow.resume ≠ .atTick n) ∧
    classify .idle 0x80000000 (idleCrc 0) (some 2) = .firedNonShot := by
  refine ⟨by decide, by decide, by decide, ?_, ?_⟩
  · intro n h; cases h
  · simp [classify, echoFired]
theorem wit_idle_class : classify .idle 0x80000000 (idleCrc 0) (some 0) = .wrongFrame := by
  simp [classify, echoFired, echoType, echoShot, FrameType.code]
  intro _ h
  exact absurd h (by decide)
theorem wit_shot_echo : let s := flying [firedN 3]
    (s.shots.find? fun x => x.stripeIdx == 0 && x.shot == 3) = some (firedN 3) ∧ ((firedN 3).lane 0).sent = some (.shot, 0, 0) ∧ s.armed.isSome = true ∧
    s.flow.ending = none ∧ s.shots.head? = some (firedN 3) ∧ 1 < (firedN 3).lanes.length ∧ 1 ≠ 0 ∧ ((firedN 3).lane 1).cls = none ∧
    (laneState s 0).bad + 1 < actEchoLimit s ∧ echoFrame s 0 0 = some (.shot 0 3) ∧ classify .shot (unsigned 32 3) 0 (some 0) ≠ .firedNonShot ∧
    deadlineFrame s 0 0 = some (.shot 0 3) := by decide
theorem wit_lanes_watched : let s := live .ready .none
    powered s Dom.OUT = true ∧ s.health.run = none ∧ lanesBit (rset Reg.OUT_RX_LOCK_HI 0x80000000 s) Reg.OUT_RX_LOCK_LO Reg.OUT_RX_LOCK_HI 63 = true ∧
    (laneState s 0).watched = false ∧ linkLossMayClear s = false := by decide
theorem wit_lanes_kept : let s := live .ready .none
    powered (fput Reg.PWR_STATUS_DOMAINS 0 s) Dom.OUT = false ∧ lanesBit s Reg.OUT_RX_LOCK_LO Reg.OUT_RX_LOCK_HI 0 = false ∧
    (laneState { s with out := { Out.por with lanes := ⟨0, true, [], false⟩ :: List.replicate 63 ⟨0, false, [], false⟩ } } 0).watched = true := by decide
theorem wit_link_loss_clear : let s := rset Reg.OUT_RX_LOCK_LO 0xFFFFFFFF (rset Reg.OUT_RX_LOCK_HI 0xFFFFFFFF { live .ready .none with out := { Out.por with link := ⟨true, 0, none⟩ } })
    linkLossMayClear s = true := by decide +kernel
theorem wit_optics : opticsBeyond (live .ready .none) [-1000] [] 0 = true ∧ opticsBeyond (live .ready .none) [] [] (-100) = false := by decide

/-! ## Witnesses: check runs -/

/-- The module in Service with a DARK step asked for. -/
def asking : State := { live .service .none with health := { Health.por with asked := [.dark] } }
theorem wit_check_opens : asking.health.run = none ∧ asking.armed = none ∧ detectorReady (fput Reg.BHM_CFG_READY_GPIO 8 asking) = true ∧ checkBlocked asking = false ∧
    (asking.flow.mode = .service ∨ betweenStripes asking = true) ∧ nextCheckStep asking = some .dark ∧ CheckStep.dark ≠ .cal ∧
    powered asking Dom.GATH = true ∧ powered asking Dom.OUT = true := by decide
/-- The module with a batch at check Bell `i`. -/
def checking (c : CheckStep) (i : Int) (n : Nat) : State :=
  { asking with health := { asking.health with run := some { freshBatch asking c with i := i, n := n }, windows := [⟨0, 0, 100, false, 0, 0⟩] } }
/-- The module in Service, calibrating with no beam left. -/
def calibrating : State :=
  fput Reg.BHM_CAL_CURSOR_BEAM 262143 (fput Reg.BHM_CAL_CURSOR_ACTIVE 1 (fput Reg.BHM_CFG_READY_GPIO 8
    { live .service .none with
      health := { Health.por with calNext := true, darkAt := some 0 }
      beams := { State.reset.beams with table := [(262143, 2 ^ 53)] } }))
theorem wit_check_wraps : nextCheckStep calibrating = some .cal ∧ checkBlocked calibrating = false ∧
    detectorReady calibrating = true := by decide +kernel
theorem no_cal_beams (s : State) (hc : fget s Reg.BHM_CAL_CURSOR_BEAM = 262143) (he : entLive (entry s.beams.table 262143) = false) :
    (freshBatch s .cal).plan = [] := by
  have hp : (freshBatch s .cal).plan = calBeams s := by simp only [freshBatch]
  rw [hp, calBeams]
  refine List.eq_nil_iff_forall_not_mem.2 fun b h => ?_
  obtain ⟨hb, hl⟩ := List.mem_filter.1 (List.mem_of_mem_take h)
  simp only [hc, Bool.and_eq_true, decide_eq_true_eq, List.mem_range, nBeams] at hb hl
  rw [show b = 262143 by omega, he] at hl
  exact absurd hl.2 (by decide)
theorem wit_check_wraps_plan : (freshBatch calibrating .cal).plan = [] := no_cal_beams _ (by decide +kernel) (by decide +kernel)
theorem wit_check_fits : traverseRuns asking .dark = true ∧ asking.flow.mode = .service ∧ checkBlocked asking = false ∧
    ¬ ((freshBatch asking .dark).duration ≤ 10 * 0) ∧ nextCheckStep (live .ready .none) = none ∧ tapHolds asking = false ∧
    (let s := { jobbed .write .recess with prog := { Progress.zero with recess := some (0, 0) } }
     (nextCheckStep s).isSome = true ∧ betweenStripes s = true ∧ s.flow.mode ≠ .service ∧ checkBlocked s = false) ∧
    powered (fput Reg.PWR_STATUS_DOMAINS 0 asking) Dom.GATH = false := by decide +kernel
theorem wit_check_stops : let s := { live .write .recess with health := { Health.por with run := some (freshBatch asking .scan) }, flow := { (live .write .recess).flow with holdReq := true } }
    s.health.run.isSome = true ∧ s.flow.holdReq = true ∧ s.flow.mode = .write ∧ s.flow.ending = none ∧ s.flow.restartReq = false ∧
    ({ asking with out := { Out.por with outOfStep := true } }).out.outOfStep = true ∧
    ({ freshBatch asking .dark with i := 3, n := 4 } : Batch).content ((3 : Int) + 1).toNat = none ∧ (live .ready .none).health.run = none ∧
    ({ freshBatch asking .dark with i := 2, n := 4 } : Batch).played = false := by decide
theorem wit_gate_edge : (1 : Nat) < max 2 (fget asking Reg.BHM_CFG_FILT) ∧ max 2 (fget asking Reg.BHM_CFG_FILT) ≤ 15 ∧
    (∃ p ∈ ({ asking with health := { asking.health with starts := [(CheckStep.dark, (3 : Fin 16))] } }).health.starts, p.1 = .dark) := by decide
theorem wit_check_bells : (checking .dark (-2) 4).health.run.isSome = true ∧ (checking .dark (-2) 4).flow.holdReq = false ∧
    (checking .dark (-2) 4).out.outOfStep = false ∧ (-2 : Int) < -1 ∧ ({ freshBatch asking .dark with i := -1, n := 4 } : Batch).content ((-1 : Int) + 1).toNat = some 0 ∧
    (checking .dark 0 4).health.windows.find? (·.group == 0) = some ⟨0, 0, 100, false, 0, 0⟩ := by decide
theorem wit_check_ends : let s := checking .dark 3 4
    ({ freshBatch asking .dark with i := 3, n := 4 } : Batch).played = true ∧ (s.flow.mode ≠ .service ∨ s.beams.applyCmd = none) ∧
    ({ freshBatch asking .dark with i := 3, n := 4 } : Batch).pulses ≤ fget s Reg.BHM_DARK_TOL ∧ hasCause s 1 = false ∧ s.flow.resume = .none := by decide
theorem wit_check_stuck : fget asking Reg.BHM_DARK_TOL <
    ({ freshBatch asking .dark with i := 3, n := 4, pulsed := (List.range 256).map fun (k : Nat) => (Int.ofNat k, k % 8) } : Batch).pulses := by decide +kernel
theorem wit_check_judged : ({ freshBatch asking .scan with i := 3, n := 4, pulsed := [(0, 0)] } : Batch).scanFails = true ∧
    entLive (entry (tableAhead asking) 0) = true ∧ ((List.range 16).filter fun c => ({ freshBatch asking .recheck with plan := [0] } : Batch).sawPulse c (groupOf (laneOf 0))).length < 12 ∧
    (asking.beams.table.any fun p => entStatus p.2 == 3) = false ∧
    (∀ c ∈ [CheckStep.recheck, .cal, .locateX, .locateY], ({ freshBatch asking c with i := 3, n := 4 } : Batch).played = true) := by decide +kernel
theorem wit_check_scan : ({ freshBatch asking .scan with i := 3, n := 4 } : Batch).scanFails = false := by decide +kernel

/-! ## Witnesses: ingest and rendering. Where a premise speaks of a published function (openBlock), it is met by what that function answers. -/

/-- A block of a kind that has landed, at SEQ 0. -/
def blk (kind : Nat) (ph : BlockPhase) : Blk :=
  { Blk.fresh 0 32 1 0 [] with hdr := ⟨0x42534D44, 3, kind, 0, 0, 0, 0, 0, 0, 16, 16, 0, 0, 0⟩, phase := ph, placed := true }
/-- The job in Ready with that block. -/
def ingesting (b : Blk) : State :=
  let s := jobbed .ready .loaded
  { s with ingest := { s.ingest with blocks := [b], nextSeq := 1 } }
theorem wit_block_landed : let s := { jobbed .ready .loaded with dma := (chained Dma.running .data (some stagingDesc)).dma }
    let t := fput (Reg.DMA_CH_STATE_STATE 0) Dma.running s
    (dmaChan t 0).phase = .data ∧ (dmaChan t 0).desc = some stagingDesc ∧ dmaState t 0 = Dma.running ∧ stagingDesc.outbound = false ∧ stagingDesc.cls = 1 ∧
    (List.replicate 104 (0 : Byte)).length = stagingDesc.len ∧ t.job = some job0 ∧ (headerOf (List.replicate 104 0)).seq = t.ingest.nextSeq ∧
    t.ingest.nextSeq < job0.seqEnd ∧ t.ingest.blocks = [] ∧ transportOk t.ingest.nextSeq (List.replicate 104 0) = false ∧
    transportOk 0 (List.replicate 104 (0 : Byte) ++ leBytes 4 (crcOf crc32c (List.replicate 112 0))) = true := by decide +kernel
/-- The bytes of a block at SEQ 0 with their transport code, whatever its 16 bytes hold. -/
def bytesOf (kind flags layer stripe first last : Nat) : List Byte :=
  let b := leBytes 4 0x42534D44 ++ leBytes 2 3 ++ leBytes 1 kind ++ leBytes 1 flags ++ leBytes 8 0 ++ leBytes 2 layer ++ leBytes 2 stripe ++
    leBytes 4 first ++ leBytes 4 last ++ leBytes 4 16 ++ leBytes 4 16 ++ leBytes 28 0 ++ leBytes 36 0
  b ++ leBytes 4 (crcOf crc32c (leBytes 8 0 ++ b))
/-- A block opens with what the cipher answers for the job's key, as in these premises. -/
theorem wit_block_opens (k : JobKeys) (plain : List Byte) (bs : List Byte)
    (h : Config.gcmOpen k.block (leBytes 4 7 ++ leBytes 8 0) (bs.take 64) (slice bs 64 (leAt bs 28 4)) (slice bs (64 + leAt bs 28 4) 16) = some plain) :
    openBlock { jobbed .ready .loaded with sec := { State.reset.sec with jobKey := some k } } 0 bs = some plain := h
theorem wit_block_closed : openBlock (jobbed .ready .loaded) 0 (bytesOf 1 0 0 0 0 0) = none := rfl
theorem wit_block_envelope : (∀ bs ∈ [bytesOf 1 0 0 0 0 0, bytesOf 2 0 0 0 0 0, bytesOf 3 1 0 0 1 1, bytesOf 3 0 0 5 0 0, bytesOf 3 0 0 0 0 2],
      transportOk 0 bs = true ∧ envelopeOk (headerOf bs) bs.length = true ∧ (headerOf bs).seq = 0 ∧ bs.length = stagingDesc.len) ∧ (dmaChan (chained Dma.running .data (some stagingDesc)) 0).ahead = [] ∧
    envelopeOk (headerOf (bytesOf 4 0 0 0 0 0)) 104 = false ∧ transportOk 0 (bytesOf 4 0 0 0 0 0) = true ∧
    (jobbed .ready .loaded).ingest.cellsBelow ≤ 0 ∧ DramReads (jobbed .ready .loaded) := by unfold DramReads; decide +kernel
theorem wit_block_place : let s := jobbed .ready .loaded
    stripePos s 0 0 = some 0 ∧ stripePos s 0 5 = none ∧ s.ingest.removed.contains (0, 5) = false ∧ s.ingest.abandoned.contains 0 = false ∧
    stripeAt s 0 = some stripe0 ∧ s.ingest.curStripe = 0 ∧ s.prog.closed ≤ stripe0.layer ∧ s.ingest.geomFirst = none ∧
    overDlen (stripeData s 0) 1 1 16 = false ∧ overDlen { stripeData s 0 with covers := [(0, 0, 1, 536870912)] } 1 1 16 = true ∧
    (let u := { s with ingest := { s.ingest with abandoned := [0], curStripe := 1, geomFirst := some 1, cellsBelow := 1 } }
     u.ingest.abandoned.contains 0 = true ∧ 0 ≠ u.ingest.curStripe ∧ u.ingest.geomFirst = some 1 ∧ 0 < u.ingest.cellsBelow) := by decide +kernel
theorem wit_block_order : let s := jobbed .ready .loaded
    let late := { s with ingest := { s.ingest with nextSeq := 1 } }
    (headerOf (bytesOf 1 0 0 0 0 0)).seq < late.ingest.nextSeq ∧ job0.seqEnd ≤ 1000 ∧ late.ingest.nextSeq ≤ 1 ∧ 0 < late.ingest.nextSeq ∧
    (dmaChan s 0).phase ≠ .data ∧ (live .ready .none).job = none := by decide +kernel
theorem wit_block_refetch : let b := { blk 1 .refetch with readings := 2, placed := false }
    (ingesting b).ingest.blocks = [b] ∧ b.phase = .refetch ∧ transportOk b.seq [0, 0, 0, 0] = false ∧ b.readings = 2 ∧ b.placed = false ∧
    (ingesting b).ingest.commitSeq = b.seq := by decide +kernel
theorem wit_refetch_again : let b := { blk 1 .refetch with placed := false }
    b.readings < 2 ∧ (blk 1 .refetch).placed = true ∧ ({ blk 1 .refetch with hdr := headerOf (bytesOf 1 0 0 0 0 0) }).hdr = headerOf (bytesOf 1 0 0 0 0 0) ∧
    b.cause = none ∧ b.late = none ∧ (ingesting b).ingest.cellsBelow ≤ b.seq ∧ (∀ x, blockAt (ingesting (blk 1 .ready)) 0 = some x → x.phase ≠ .refetch) := by
  refine ⟨by decide, by decide, by decide, by decide, by decide, by decide, fun x h => ?_⟩
  rw [show blockAt (ingesting (blk 1 .ready)) 0 = some (blk 1 .ready) by decide] at h
  cases h; decide
theorem wit_decode_start : let s := ingesting (blk 1 .ready)
    skiverOn s = true ∧ nextToDecode s = some (blk 1 .ready) ∧ s.ingest.blocks.countP (·.phase == .decoding) < 4 ∧
    (blk 1 .ready).hdr.dlen ≤ skvRatio s * (blk 1 .ready).hdr.clen ∧ queueNeed (blk 1 .ready) ≤ 2097152 - queueUsed s ∧
    (blk 1 .ready).phase ≠ .held ∧ (blk 1 .ready).hdr.stored = false := by decide +kernel
theorem wit_decode_guard : let b := { blk 1 .ready with hdr := { (blk 1 .ready).hdr with dlen := 4 * 1048576 } }
    nextToDecode (ingesting b) = some b ∧ skvRatio (ingesting b) * b.hdr.clen < b.hdr.dlen ∧
    (2097152 - queueUsed (ingesting { b with queueKib := 2097152, phase := .checked }) < queueNeed { b with hdr := { b.hdr with kind := 3 } }) := by decide +kernel
theorem wit_decode_unplaced : let b := { blk 1 .ready with placed := false, hdr := { (blk 1 .ready).hdr with dlen := 4 * 1048576 } }
    nextToDecode (ingesting b) = some b ∧ b.placed = false ∧ Settled (ingesting (blk 1 .ready)).ingest.blocks ∧ skiverStopped (ingesting b) = false ∧
    (1 : Nat) ≠ b.seq ∧ nextToDecode (ingesting (blk 1 .checked)) = none ∧ skiverOn (live .ready .none) = false := by
  refine ⟨by decide +kernel, rfl, ⟨by decide, by decide +kernel, ?_⟩, by decide +kernel, by decide, by decide, by decide⟩
  intro b h; cases h; decide
theorem wit_decode_fails : let b := { blk 1 .decoding with hdr := { (blk 1 .decoding).hdr with bflags := 2, clen := 0, dlen := 0, ccheck := 1 + crcOf crc64 [] } }
    skvDecode b.hdr.stored b.hdr.dlen b.plain = .ok [] ∧ crcOf crc64 [] ≠ b.hdr.ccheck ∧ b.readings < 3 ∧ b.late = none ∧
    (parseContent (parseCtx (ingesting (blk 1 .decoding)) (blk 1 .decoding)) [1, 2, 3, 4]).bad.isSome = true := by decide +kernel
/-- A cell block at SEQ 0 whose bytes pass check 1, being decoded, and with its content checked. -/
def sound (ph : BlockPhase) : Blk :=
  { blk 1 ph with bytes := bytesOf 1 2 0 0 0 0, ringAt := 0, hdr := { (blk 1 ph).hdr with bflags := 2, clen := 0, dlen := 0, ccheck := crcOf crc64 [] } }
theorem wit_decode_ring : let s := { ingesting (sound .decoding) with ecc := { State.reset.ecc with invalid := [] } }
    let lost := { s with ecc := { s.ecc with dram := { Codes.clean with poison := [(region Rgn.staging).lo / 8] } } }
    blockAt s 0 = some (sound .decoding) ∧ transportOk 0 (sound .decoding).bytes = true ∧ DramReads s ∧ s.ecc.invalid = [] ∧ skiverStopped s = false ∧
    partsBad lost (stagingParts 0 (sound .decoding).bytes.length) = true ∧ (sound .decoding).readings < 3 := by unfold DramReads; decide +kernel
theorem wit_decode_full : 4 ≤ (List.replicate 4 (blk 1 .decoding)).countP (fun b => b.phase == .decoding) := by decide
theorem wit_decode_complete : let b := { blk 1 .decoding with hdr := { (blk 1 .decoding).hdr with bflags := 2, clen := 0, dlen := 0, ccheck := crcOf crc64 [] } }
    blockAt (ingesting b) b.seq = some b ∧ b.phase = .decoding ∧ skvDecode b.hdr.stored b.hdr.dlen b.plain = .ok [] ∧ crcOf crc64 [] = b.hdr.ccheck ∧
    (parseContent (parseCtx (ingesting b) b) []).bad = none ∧ skvDecode false 4 [] = .stopped 0 ∧ 3 ≤ ({ b with readings := 3 } : Blk).readings := by decide +kernel
theorem wit_block_commit : (∀ k ∈ [1, 2, 3], let s := ingesting (blk k .checked)
      (blk k .checked).seq = s.ingest.commitSeq ∧ skiverOn s = true ∧ skiverStopped s = false ∧ hasRendered s 0 0 = false) ∧
    draftsOf (blk 1 .checked).records none = [] ∧ (resolveRecords (ingesting (blk 3 .checked)) [] false []).bad = none ∧
    skiverOn (live .ready .none) = false := by decide
theorem wit_commit_fails : let s := ingesting (blk 3 .checked)
    let d := stripeData s 0
    let place : Record := ⟨Rec.inst, 0, 0, leBytes 16 5⟩
    absHolds s = false ∧ Settled [blk 3 .checked] ∧ Settled ([] : List Blk) ∧ (blk 3 .checked).placed = true ∧
    densityComplete { d with parsed := true } 512 = true ∧ densityComplete { d with dmapSeq := some 0 } 512 = false ∧ stripeAt s 0 = some stripe0 ∧
    (match resolveDrafts s [⟨5, 0, (0, 0, 0, 0), []⟩, ⟨5, 8, (0, 0, 0, 0), []⟩] with | .error e => e == (Cause.cellRedefined, 8) | .ok _ => false) = true ∧
    (match resolveDrafts s [] with | .ok cs => cs == [] | .error _ => false) = true ∧
    (resolveRecords s [] false [place]).bad.isSome = true ∧
    (∀ c, s.ras.current.head? = some c → c.done ≠ 2080 ∨ 2 ≤ s.ras.pending.length) ∧
    skiverStopped (fput Reg.SKV_STATUS_STATE 3 s) = true := by
  refine ⟨by decide +kernel, ⟨by decide, by decide +kernel, ?_⟩, ⟨by decide, by decide +kernel, ?_⟩, rfl, by decide +kernel, by decide +kernel, by decide +kernel,
    by decide +kernel, by decide +kernel, by decide +kernel, ?_, by decide +kernel⟩
  · intro b h; cases h; decide
  · intro b h; cases h
  · intro c h; cases h
/-- A cell definition of one granule more than the cache holds. -/
def bigCell : Cell := ⟨0, 5, (0, 0, 0, 0), [], 300000000, 0, 1, none, []⟩
theorem wit_cache_full : (storeCells [bigCell] 0 0 (ingesting (blk 1 .checked))).full = true ∧ (storeCells [] 0 0 (ingesting (blk 1 .checked))).full = false := by
  decide +kernel
theorem wit_granule_return : let s := { jobbed .write .stripe with
      cache := { Cache.empty with fences := [⟨1, [0], []⟩], cells := [{ bigCell with granules := 1 }] } }
    s.cache.fences.any (fenceMet s) = true ∧ skiverStopped s = false ∧ (jobbed .ready .loaded).cache.fences.any (fenceMet (jobbed .ready .loaded)) = false := by decide
/-- A Skiver that has stopped over a cell block, as a fence is met. -/
def stopped : State := fput Reg.SKV_STATUS_STATE 3 { ingesting (sound .checked) with
  cache := { Cache.empty with fences := [⟨1, [0], []⟩], cells := [{ bigCell with granules := 1 }] }
  ecc := { State.reset.ecc with invalid := [] } }
theorem wit_granule_retry : skiverOn stopped = true ∧ skiverStopped stopped = true ∧ stopped.cache.fences.any (fenceMet stopped) = true ∧
    absHolds stopped = false ∧ transportOk 0 (sound .checked).bytes = true ∧ DramReads stopped ∧ stopped.ecc.invalid = [] ∧ (sound .checked).hdr.kind = 1 ∧
    draftsOf (sound .checked).records none = [] ∧ (sound .checked).readings < 3 ∧
    partsBad { stopped with ecc := { stopped.ecc with dram := { Codes.clean with poison := [(region Rgn.staging).lo / 8] } } }
      (stagingParts 0 (sound .checked).bytes.length) = true := by unfold DramReads; decide +kernel
theorem wit_block_anew : let b := { blk 1 .refetch with before := some (0, none, none) }
    b.placed = true ∧ b.hdr ≠ headerOf (bytesOf 1 0 0 7 0 0) ∧ b.before = some (0, none, none) ∧ (ingesting b).ingest.abandoned.contains 0 = false := by
  decide +kernel
/-- A band being rendered or waiting, of stripe 0. -/
def pendingBand (n : Nat) : Pending := ⟨0, n, [], [], [], 0⟩
/-- The module rendering band 0 with tiles finished, the next one on cell 0. -/
def rendering (k : Nat) : State :=
  { jobbed .write .recess with
    ras := { Raster.empty with current := [⟨0, 0, k + 1, k, [], 0, 0⟩], cells := some (0, 0, k) :: List.replicate 63 none } }
theorem wit_tiles : (∀ k ∈ [0, 2079], (rendering k).ras.cells.getD 0 none = some (0, 0, k) ∧ rasterOn (rendering k) = true ∧
      (rendering k).ras.current = [⟨0, 0, k + 1, k, [], 0, 0⟩]) ∧ 0 + 1 ≠ 2080 ∧ 2079 + 1 = 2080 ∧ (rendering 2079).ras.pending.length < 2 ∧
    (stripeData (rendering 2079) 0).isRejected 0 = false ∧ DramReads (rendering 0) ∧ (rendering 0).ras.cells.getD 63 none = none ∧
    2 ≤ [pendingBand 0, pendingBand 1].length ∧ rasterOn (jobbed .ready .loaded) = false := by unfold DramReads; decide +kernel
theorem wit_tile_budget : let c : Render := ⟨0, 0, 2080, 2079, [], 6, 0⟩
    let s := fput Reg.RAS_BUDGET_CYCLES 5 { rendering 2079 with ras := { (rendering 2079).ras with current := [c] } }
    fget s Reg.RAS_BUDGET_CYCLES < c.bound ∧ s.ras.current = c :: [] := by decide +kernel
theorem wit_band_finalize : let s := { jobbed .write .recess with ras := { Raster.empty with pending := [pendingBand 0, pendingBand 1] } }
    s.ras.pending = pendingBand 0 :: [pendingBand 1] ∧ stripeAt s 0 = some stripe0 ∧ rasterOn s = true ∧ mayFinalize s (pendingBand 0) = true ∧
    (stripeData s 0).isRejected 0 = false ∧ stripe0.makeup = false ∧ poisonTiles s (stripeData s 0) (pendingBand 0) = [] ∧ DramReads s ∧
    ({ stripeData s 0 with rejected := [0] }).isRejected 0 = true ∧ mayFinalize s (pendingBand 1) = false := by unfold DramReads; decide +kernel
theorem wit_window_row : starting.win.stripeIdx = some 0 ∧ stripeAt starting 0 = some stripe0 ∧ powered starting Dom.GATH = true ∧
    rowMayLoad starting stripe0 0 = true ∧ starting.win.next < 0 := by decide
theorem wit_window_band : let s := { starting with win := { starting.win with next := 255, gathered := 2 } }
    rowMayLoad s stripe0 0 = true ∧ 0 ≤ s.win.next ∧ s.win.next < stripe0.h ∧
    finishedBand s 0 (s.win.next / 256).toNat = some (bandN 0) ∧ s.win.next % 256 = 255 ∧ bandN 0 ∈ s.ras.ring ∧
    powered (fput Reg.PWR_STATUS_DOMAINS 0 s) Dom.GATH = false := by decide

/-! ## Witnesses: DRAM -/

theorem wit_dram_refresh : let s := live .write .recess
    hbmOn s = true ∧ pcFenced s 63 = false ∧ pcFenced (fput Reg.HBM_FENCE_CHANNELS 0x80000000 s) 63 = true ∧ hasCause s 10 = false ∧ s.flow.resume = .none ∧
    pcReplays s 63 = false ∧ pcReplays { s with hbm := { s.hbm with replaying := [31] } } 63 = true ∧
    135 < max (min 255 136) (min 255 0) ∧ bandOf s 0 < bandOfTemp 200 ∧ bandOfTemp 0 ≤ bandOf s 1 ∧
    neighbourDue s 63 = none ∧ hbmOn { s with hbm := { s.hbm with selfRefresh := true } } = false := by decide +kernel
theorem wit_neighbour : let s := { live .write .recess with hbm := { State.reset.hbm with rows := [(bankKey 63 31, [⟨0, 16383, 65535⟩])] } }
    hbmOn s = true ∧ pcFenced s 63 = false ∧ rowDue s 63 31 16383 = true ∧ rowDue s 63 31 0 = false ∧ neighbourDue s 63 = some (31, 16383) := by decide +kernel
theorem wit_channel_replay : let s := { live .write .recess with hbm := { State.reset.hbm with replaying := [31], fails := [(31, 2)] } }
    fbitAt s Reg.HBM_FENCE_CHANNELS 31 = false ∧ s.hbm.replaying.contains 31 = true ∧ 2 ≤ assocD 0 s.hbm.fails 31 ∧ s.flow.resume = .none ∧
    s.hbm.replaying.contains 0 = false ∧ assocD 0 s.hbm.fails 0 < 2 ∧ fbitAt (fput Reg.HBM_FENCE_CHANNELS 1 s) Reg.HBM_FENCE_CHANNELS 0 = true := by decide
theorem wit_pattern_run : (live .service .none).flow.mode = .service ∧ hbmOn (live .service .none) = true ∧ (live .service .none).hbm.fill = none := by decide
/-- The scrubber running over filled memory. -/
def scrubbing : State :=
  fput Reg.ECC_STATUS_FILL_BUSY 0 <| fput Reg.ECC_SCRUB_CFG_EN 1 { live .ready .none with ecc := { State.reset.ecc with invalid := [] } }
theorem wit_scrub : let s := scrubbing
    scrubOn s = true ∧ 34359738367 / 64 < 536870912 ∧ pageInvalid s (34359738367 / 64 / 64) = false ∧ fencedAt s (34359738367 / 64 * 64) = false ∧
    (∀ w ∈ unitWords (34359738367 / 64), s.ecc.dram.look w = .clean) ∧ sramUnitInvalid s (95 * 32768 + 2097151 / 64) = false ∧
    (∀ w ∈ unitWords (95 * 32768 + 2097151 / 64), s.ecc.sram.look w = .clean) ∧ scrubOn State.reset = false ∧
    (∃ w ∈ unitWords 0, (⟨[], [], [7]⟩ : Codes).look w = .poisoned) ∧ 536870912 ≤ 34359738368 / 64 ∧ pageInvalid State.reset 0 = true := by decide +kernel
theorem wit_scrub_band : let s := { jobbed .write .recess with ras := { Raster.empty with ring := [bandN 0] } }
    let u := (region Rgn.band).lo / 64 + 133119
    (region Rgn.band).lo / 64 ≤ u ∧ u < (region Rgn.band).lo / 64 + 256 * 133120 ∧
    (s.ras.ring ++ s.ras.released).find? (fun b => b.slot == (u - (region Rgn.band).lo / 64) / 133120) = some (bandN 0) ∧
    stripeAt s (bandN 0).stripeIdx = some stripe0 := by decide +kernel

/-! ## Witnesses: the cohort -/

/-- Member 1 of a whole ring of two, both ports up, nothing heard yet. -/
def member1 : State :=
  rset Reg.COH_REACH 3 (rset Reg.COH_KEEP 3 (fput Reg.COH_CFG_OWN 1 (fput Reg.COH_CFG_MEMBERS 2
    (rset Reg.COH_LANES 0xFF (fput Reg.COH_STATUS_EAST_UP 1 (fput Reg.COH_STATUS_WEST_UP 1 (jobbed .write .recess)))))))
theorem wit_ring : powered member1 Dom.COH = true ∧ coreRuns member1 = true ∧ coreRuns held = false ∧ (0 : Fin 32).val ≠ cohOwn member1 ∧ ringWhole member1 = true ∧ reachable member1 0 = true ∧ kept member1 0 = true ∧
    proctorRuns member1 = true ∧ resting member1 = false ∧ member1.flow.mode ∈ [Mode.ready, Mode.write, Mode.hold] ∧ portSends member1 .east = true ∧
    Mode.service ∉ [Mode.ready, Mode.write, Mode.hold] ∧ portSends member1 .west = true := by decide +kernel
/-- Waking, with a burst sent on each port; East is up, West not yet. -/
theorem wit_wake_bursts :
    let s := fput Reg.COH_STATUS_WEST_UP 0 { member1 with coh := { member1.coh with burstsEast := 1, burstsWest := 1 } }
    kept s (cohOwn s) = true ∧ (decide (burstsOn s .east < 10000) && !(decide (0 < burstsOn s .east) && fbit s (portUp .east))) = false ∧
    (decide (burstsOn s .west < 10000) && !(decide (0 < burstsOn s .west) && fbit s (portUp .west))) = true := by decide +kernel
/-- A frame of position 0 with its CRC. -/
def frame (kind : Nat) (payload : List Byte) : CohFrame :=
  let f : CohFrame := ⟨kind, 0, 0, payload.length / 8, 0, 1, 9, payload, 0⟩
  { f with crc := cohCrc f }
theorem wit_frame_accepted : ∀ k ∈ [Kind.rollCall, Kind.timeReq, Kind.timeResp, Kind.ready, Kind.go, Kind.armMiss, Kind.membership, Kind.resume],
    (frame k (leBytes 24 0)).kind = k ∧ powered member1 Dom.COH = true ∧ frameSound (frame k (leBytes 24 0)) = true ∧ (frame k []).src ≠ cohOwn member1 ∧
    kept member1 (frame k []).src = true ∧ (peer member1 (frame k []).src).alive = none ∧
    frameSound { frame k [] with crc := ~~~(frame k []).crc } = false := by decide +kernel
theorem wit_frame_old : let s := { member1 with coh := { member1.coh with peers := { Peer.empty with alive := some 1 } :: member1.coh.peers.tail } }
    let f := frame Kind.rollCall (leBytes 24 0)
    (peer s 0).alive = some 1 ∧ (2 ^ 32 + f.alive - 1) % 2 ^ 32 = 0 ∧ 2 ^ 31 ≤ (2 ^ 32 + ({ f with alive := 2147483649 } : CohFrame).alive - 1) % 2 ^ 32 ∧ Kind.go ≠ Kind.rollCall ∧
    kept (rset Reg.COH_KEEP 2 s) 0 = false ∧ powered (fput Reg.PWR_STATUS_DOMAINS 0 s) Dom.COH = false ∧ (1 : Fin 32).val = cohOwn s := by decide +kernel
theorem wit_frame_rejoins : let m := rset Reg.COH_EPOCH 9 member1
    let s := { m with job := some { job0 with digest := ownDigest m } }
    let f := frame Kind.rollCall (leBytes 8 0 ++ leBytes 4 1024 ++ leBytes 12 0)
    ringWhole s = true ∧ reachable s f.src = true ∧ (fword f 8 4).testBit 10 = true ∧ f.epoch = (rget s Reg.COH_EPOCH).toNat ∧ digestOk s = true ∧
    s.coh.removed = false ∧ hasCause { s with flow := { s.flow with causes := 64 }, coh := { s.coh with removed := true } } 6 = true ∧
    sentT1 s .east = none := by decide +kernel
theorem wit_upstream : let s := { member1 with coh := { member1.coh with
      t1East := some 4, peers := { Peer.empty with roll := some (0, 0, 1024, 0, 0), via := some (.east, 0) } :: member1.coh.peers.tail } }
    upstream s = some .east ∧ upstream member1 ≠ some .east ∧ sentT1 s .east = some 4 ∧ reachable s 0 = true ∧ inCohort s = true ∧ isMaster s = false ∧
    timeUnaligned s = false ∧ saysMaster s 0 = true ∧
    (let f := frame Kind.timeResp (leBytes 32 0)
     let ps := rndDiv ((stepDiff (stepsOf (fword f 8 8)) 4 + stepDiff (stepsOf (fword f 16 8)) 0) * 25) 2 + signed 32 (fword f 24 4)
     ps.natAbs ≤ 1000000) ∧
    (let f := frame Kind.timeResp (leBytes 24 0 ++ leBytes 8 2000000)
     let ps := rndDiv ((stepDiff (stepsOf (fword f 8 8)) 4 + stepDiff (stepsOf (fword f 16 8)) 0) * 25) 2 + signed 32 (fword f 24 4)
     1000000 < ps.natAbs) ∧
    (let f := frame Kind.timeResp (leBytes 24 0 ++ leBytes 8 500000)
     let ps := rndDiv ((stepDiff (stepsOf (fword f 8 8)) 4 + stepDiff (stepsOf (fword f 16 8)) 0) * 25) 2 + signed 32 (fword f 24 4)
     2000 < ps.natAbs ∧ ps.natAbs ≤ 1000000) := by decide +kernel
theorem wit_frame_forwarded : let s := fput Reg.COH_CFG_MEMBERS 3 member1
    (frame Kind.rollCall (leBytes 24 0)).hops + 1 ≠ cohMembers s ∧ portSends s (otherPort .east) = true ∧ hasCause s 6 = false ∧ curEntry s = some stripe0 ∧
    s.flow.mode = .write ∧ s.flow.resume = .none := by decide +kernel
theorem wit_time_frames : let s := fput Reg.MOT_CHOREO_MASTER 1 { member1 with coh := { member1.coh with t1East := some 4 } }
    sentT1 s .east = some 4 ∧ isMaster s = true ∧ fbit s (portUp .east) = true ∧ fbit (live .ready .none) (portUp .west) = false := by decide
/-- The motion master at position 1 of that ring, ready for stripe 0; position 0 has announced it. -/
def masterReady : State :=
  let s := fput Reg.MOT_CHOREO_MASTER 1 member1
  { s with
    ras := { Raster.empty with ring := [bandN 0, bandN 1] }
    job := some { job0 with digest := ownDigest s }
    coh := { s.coh with peers := { Peer.empty with ready := some (0, 0) } :: s.coh.peers.tail } }
theorem wit_ready : readyToSend masterReady = some stripe0 ∧ masterBit masterReady = true ∧ ringWhole masterReady = true ∧ goneFor masterReady stripe0 = false ∧
    (∀ i, i < 32 → kept masterReady i = true → i ≠ cohOwn masterReady → (peer masterReady i).ready = some (stripe0.layer, stripe0.stripe)) ∧
    readyToSend (live .ready .none) = none := by decide +kernel
theorem wit_ready_waits : let s := { masterReady with coh := { masterReady.coh with peers := List.replicate 32 Peer.empty } }
    let f := frame Kind.ready (stripePayload stripe0)
    readyToSend s = some stripe0 ∧ ((List.range 32).all fun i => !kept s i || decide (i = cohOwn s) || (peer s i).ready == some (0, 0)) = false ∧
    (let u := { s with coh := { s.coh with peers := s.coh.peers.set 1 { Peer.empty with ready := some (0, 0) } } }
     masterBit u = true ∧ curEntry u = some stripe0 ∧ inCohort u = true ∧ ringWhole u = true ∧ reachable u f.src = true ∧ inState u .write .recess = true ∧
     goneFor u stripe0 = false ∧ (∀ i, i < 32 → kept u i = true → i ≠ f.src → (peer u i).ready = some (0, 0)) ∧ fword f 0 2 = 0 ∧ fword f 2 2 = 0) := by decide +kernel
theorem wit_arm_miss : let s := fput Reg.MOT_CHOREO_MASTER 1 { member1 with armed := some armed0 }
    isMaster s = true ∧ curEntry s = some stripe0 ∧ s.armed ≠ none ∧ mayUnarm s = true ∧ isMaster member1 = false ∧ member1.flow.job ≠ .stripe ∧
    member1.armed = none ∧ (chan (running 0 1 stMoving still none) 0).seg = some still ∧
    mayUnarm { s with shots := [{ shotN 0 with bell := some (0, 0) }] } = false := by decide +kernel
theorem wit_says_master : let s := { member1 with coh := { member1.coh with peers := { Peer.empty with roll := some (0, 0, 1024, 0, 0) } :: member1.coh.peers.tail } }
    saysMaster s 0 = true ∧ saysMaster member1 0 = false ∧ masterBit member1 = false ∧ (BitVec.ofNat 32 (fword (frame Kind.membership (leBytes 8 2)) 0 4)).getLsbD 1 = true ∧
    (BitVec.ofNat 32 (fword (frame Kind.membership (leBytes 8 1)) 0 4)).getLsbD 1 = false := by decide +kernel
theorem wit_hold_set : (0 : Fin 32).val ≠ cohOwn member1 ∧ member1.coh.seen.contains (0, 5 % 65536) = false ∧ member1.flow.mode = .write ∧
    member1.flow.resume = .none ∧ neighbour (fput Reg.COH_CFG_MEMBERS 3 member1) .east ≠ 0 ∧ member1.coh.seen.contains (0, 6) = false ∧
    powered State.reset Dom.COH = false := by decide
/-- The member1 in Hold over a pair of position 0 that RESUME takes back. -/
def heldMember : State :=
  let s := fput Reg.OUT_STATUS_SETTLED 1 (rset Reg.CLK_STATUS 0x3F member1)
  { s with
    flow := { s.flow with mode := .hold, causes := 32 }
    job := some { job0 with digest := ownDigest s }
    coh := { s.coh with pairs := [(0, 5)] } }
theorem wit_resume_kept : ({ heldMember with coh := { heldMember.coh with pairs := [(0, 6)] } }).coh.pairs.filter
      (fun e : Nat × Nat => !idNotLater e.2 (fword (frame Kind.resume (leBytes 64 5)) (2 * e.1) 2)) ≠ [] ∧ member1.flow.mode ≠ .hold ∧ member1.flow.resume = .none ∧
    neighbour member1 (otherPort .east) = 0 ∧ ({ member1.coh with seen := [(0, 5)] }).seen.contains (0, 5 % 65536) = true ∧
    powered member1 Dom.COH = true := by decide +kernel
theorem wit_resume_frame : heldMember.coh.pairs.filter (fun e => !idNotLater e.2 (fword (frame Kind.resume (leBytes 64 5)) (2 * e.1) 2)) = [] ∧
    heldMember.flow.mode = .hold ∧ heldMember.flow.job ≠ .stripe ∧ (∀ n, n < 32 → hasCause heldMember n = true → n = 0 ∨ n = 5) ∧
    holdClocksLocked heldMember = true ∧ transitioning heldMember = false ∧ coreRuns heldMember = true ∧
    ringWhole heldMember = true ∧ reachable heldMember 0 = true ∧ Acceptable heldMember (frame Kind.resume (leBytes 64 5)) := by
  refine ⟨?_, ?_, ?_, ?_, ?_, ?_, ?_, ?_, ?_, ?_, ?_, ?_, ?_, ?_⟩ <;> decide +kernel

/-! ## Witnesses: the split of dose, the probes -/

theorem wit_live_gather : ∃ s : State, ∃ gi : GatherIn, ∃ b : Nat,
    let e := entry s.beams.table b
    0 < sumLive (summary s (entSet e).toNat) ∧ samplePoisoned s (samplePoint s gi e (groupOf (laneOf b))) = false ∧ beamUnreadable s b (entSet e) = false ∧
    onRejectedRows [] (samplePoint s gi e (groupOf (laneOf b))) = false :=
  ⟨{ starting with beams := { starting.beams with summary := [(0, 32)] } }, ⟨0, 0, 0, 0, 0⟩, 0, by decide +kernel⟩
theorem wit_probe_sample : let s := fput (Reg.MON_PROBE_SRC_SOURCE 3) 1 (live .ready .none)
    (1 : Nat) ≠ 0 ∧ s.flow.mode ≠ .rest ∧ powered s (sourceDomain 1) = true ∧ fget s (Reg.MON_PROBE_SRC_SOURCE 3) = 1 ∧ ([5, -3] : List Int) ≠ [] := by decide

/-! ## Results of the manual's worked examples -/

/-- R32, R33: T = 200 over seven members; share 25 at gain 1,781; the shares and gains of the ERR example. -/
theorem test_share : (List.range 7).map (fun k => share 200 k 7) = [28, 29, 28, 29, 28, 29, 29] ∧ count 25 1781 = 22 ∧ count 2 3072 = 3 ∧ count 1 3072 = 2 := by decide
/-- R77: a block of C = 1,048,576 is 1,048,664 bytes long. -/
theorem test_block_total : blockTotal 1048576 = 1048664 := by decide
/-- Cell placement (spec 03): a point (40, 8) placed with t = 0b101 at (1,000, 2,000). -/
theorem test_placement : (⟨5, 1000, 2000⟩ : Place).at (40, 8) = (992, 1960) := by decide
/-- R108 to R110: three PAD records in four commands. -/
theorem test_skiver_stream : skvDecode false 76 [0x04, 0x1E, 0, 0x11, 0, 0, 0xBB, 1, 0, 0x07, 0x1E, 0, 1, 0, 0x1E, 0, 1, 0, 0xFF] =
    .ok ([0x1E, 0, 0x11, 0] ++ List.replicate 64 0 ++ [0x1E, 0, 1, 0, 0x1E, 0, 1, 0]) := by decide
/-- Rasterizer and correction (spec 05): a class of base 200 at coverage 211, and a pixel with w = 165 and v = 40 at the factor 0x3A00. -/
theorem test_doses : classDose 200 211 = 165 ∧ pixelTarget 165 40 0x3A00 = 150 := by decide
/-- Calibration (spec 09): beam 70,001 measures 1.15 of the reference and becomes weak-live at G = 1,781; beam 70,002, at 0.45, is retired. -/
theorem test_calibration : calResult (List.replicate 32 24210) 38720 32 20000 false = .write 1781 1 ∧
    calResult (List.replicate 32 10210) 38720 32 20000 false = .retire := by decide
/-- R309: where DRAM address 27,584,971,392 lies under HASHED_BANK. -/
theorem test_dram_place : placeOf 2 27584971392 = ⟨10, 16, 13153, 4⟩ := by decide
/-- R315 to R317: at 86 °C a debt of 7 becomes 14, and is paid down to the limit of 4. -/
theorem test_refresh_band : let s := { live .write .recess with hbm := { State.reset.hbm with debt := [(17, 7)] } }
    let t := after (.hbmTempRead 0 86 0) s
    bandOf t 0 = 1 ∧ debtOf t 17 = 4 ∧ fget t Reg.HBM_REF_DEBT_MAX_INTERVALS = 14 ∧ fget t Reg.HBM_REF_FORCED_COUNT = 10 := by decide +kernel
/-- R500, R501: probe 3 on source 1, limits 160 and up, bins 64 wide: margins of 1,104 and 1,328 cycles. -/
theorem test_probe_bins : let s := after (.monConfig (rq 16) 3 1 64 160 0x7FFFFFFF) (live .ready .none)
    let c := captureOf (sample 1 [1328] (sample 1 [1104] s)) 3
    assocD 0 c.bins 14 = 1 ∧ assocD 0 c.bins 18 = 1 ∧ c.samples = 2 ∧ c.min = 1104 ∧ c.max = 1328 := by decide +kernel

/-! ## Small steps -/

theorem test_hold_request : (after (.holdRequest (rq 0)) (live .write .recess)).flow.holdReq = true ∧
    hasCause (after (.holdRequest (rq 0)) (live .write .recess)) 0 = true := by decide
theorem test_hold_effect : (after .holdEffect (after (.holdRequest (rq 0)) (jobbed .write .recess))).flow.mode = .hold := by decide
theorem test_service_enter : (after (.serviceEnter (rq 0)) (live .ready .none)).flow.mode = .service ∧
    (after (.serviceEnter (rq 0)) (live .write .recess)).flow.mode = .write := by decide

end Sys2Proof.Tests
end

section
/-!
PROOFS. The dose split of a cover set (R32), the count of a beam (R33), and what gather finds for a live member whose reads are good and
whose rows are rendered (R34).
-/

namespace Sys2Proof.Machine

/-! ## Shares (R32) -/

/-- `T·k/L` grows with `k`, so the truncated subtraction in `share` loses nothing. -/
theorem share_add_floor (T k L : Nat) : share T k L + T * k / L = T * (k + 1) / L :=
  Nat.sub_add_cancel (Nat.div_le_div_right (Nat.mul_le_mul_left T k.le_succ))

/-- The shares telescope: the ranks below `m` together receive one floor, whether or not `m` reaches the live count. -/
theorem sum_share_range (T L m : Nat) : ((List.range m).map fun k => share T k L).sum = T * m / L := by
  induction m with
  | zero => simp
  | succ m ih =>
    calc ((List.range (m + 1)).map fun k => share T k L).sum
        = T * m / L + share T m L := by rw [List.sum_range_succ, ih]
      _ = T * (m + 1) / L := by rw [Nat.add_comm, share_add_floor]

theorem sum_share_eq_dose (T L : Nat) (hL : 0 < L) : ((List.range L).map fun k => share T k L).sum = T := by
  rw [sum_share_range, Nat.mul_div_cancel T hL]

/-! ## Counts (R33) -/

/-- Half a slice upward is the 1,024 of R33: 2,048 times the count lies in the half-open interval of length 2,048 that ends at
`n·G + 1,024`, so an exact half goes up. -/
theorem count_rounds_half_up (n G : Nat) : 2048 * count n G ≤ n * G + 1024 ∧ n * G + 1024 < 2048 * (count n G + 1) :=
  ⟨Nat.mul_div_le _ _, Nat.lt_mul_div_succ _ (by decide)⟩

theorem count_eq_shiftRight (n G : Nat) : count n G = (n * G + 1024) >>> 11 :=
  (Nat.shiftRight_eq_div_pow _ 11).symm

/-! ## The count gather computes for a live member (R34) -/

/-- Where gather samples the Window for a beam (R169). -/
def beamSample (s : State) (gi : GatherIn) (b : Nat) : Int × Int := samplePoint s gi (entry s.beams.table b) (groupOf (laneOf b))

/-- The live members of a beam's cover set, as its summary word gives them. -/
def liveInSet (s : State) (b : Nat) : Nat := sumLive (summary s (entSet (entry s.beams.table b)).toNat)

/-- The count of a live member before the clip test: its share of the clamped dose (R30, R32) times its gain (R33). -/
def unclippedCount (s : State) (gi : GatherIn) (b : Nat) : Nat :=
  let e := entry s.beams.table b
  count (share (min 248 (scaledDose s gi (beamSample s gi b))) (entRank e) (liveInSet s b)) (entG e)

/-- With good reads on rows that are not rejected, only the clip test of R34 decides between the computed count and a blanked beam. -/
theorem gatherLive_of_good_reads (s : State) (gi : GatherIn) (rejected : List Nat) (b : Nat) (hlive : 0 < liveInSet s b)
    (hwindow : samplePoisoned s (beamSample s gi b) = false)
    (htable : beamUnreadable s b (entSet (entry s.beams.table b)) = false)
    (hrows : onRejectedRows rejected (beamSample s gi b) = false) :
    gatherLive s gi rejected b =
      { beam := b
        count := if 31 < unclippedCount s gi b then 0 else unclippedCount s gi b
        clamp := decide (248 < scaledDose s gi (beamSample s gi b))
        rows := false
        absent := if 31 < unclippedCount s gi b then [.doseClip] else []
        clip := decide (31 < unclippedCount s gi b) } := by
  have hmembers : liveInSet s b ≠ 0 := hlive.ne'
  unfold unclippedCount
  unfold liveInSet beamSample at *
  simp [gatherLive, hmembers, hwindow, htable, hrows]

/-! ## O58 -/

/-- Settles O58: the shares telescope, the count is a division by 2,048, and gather compares that count with 31. -/
theorem doseIsSplit : Obligations.DoseIsSplit := by
  refine ⟨sum_share_eq_dose, fun T k L _ => share_add_floor T k L, fun n G => ?_, ?_⟩
  · obtain ⟨hle, hlt⟩ := count_rounds_half_up n G
    exact ⟨hle, hlt, count_eq_shiftRight n G⟩
  · intro s gi rejected b e p L c hlive hwindow htable hrows
    rw [gatherLive_of_good_reads s gi rejected b hlive hwindow htable hrows]
    constructor
    · intro hfits
      exact ⟨if_neg (Nat.not_lt.mpr hfits), if_neg (Nat.not_lt.mpr hfits)⟩
    · intro hclips
      exact ⟨if_pos hclips, if_pos hclips⟩

end Sys2Proof.Machine
end

section
/-!
PROOFS. What RECESS_EXTEND does to the Recess slot in progress, or to the next one (R374).
-/

namespace Sys2Proof.Machine

/-! ## A command whose effect does not touch its slot -/

/-- A command that completes on the state its effect leaves, the effect being one that acceptance does not disturb. -/
theorem completes_of_effect {i : Instr} {r : Req} {st : Status} {p : List Byte} {s t u : State} (ho : s.mail.orphan = false)
    (hexec : exec i s = .next (complete r.slot st p t)) (heff : t = accept r.slot u) (hmail : u.mail = s.mail) :
    Completes i s r.slot st p u := by
  subst heff
  have hou : u.mail.orphan = false := by rw [hmail, ho]
  have hslot : slotOf u r.slot = slotOf s r.slot := slotOf_congr (by rw [hmail]) _
  refine ⟨_, hexec, ?_, slotOnly_complete_accept u r.slot st p hou⟩
  have hanswer := complete_answers u (accept r.slot u) r.slot st p rfl (accept_orphan r.slot u hou)
  rwa [Answered, hslot] at hanswer

/-! ## The earliest end of a Recess slot (R374) -/

/-- Acceptance reads and changes nothing of the progress of a job. -/
theorem accept_prog (n : Fin 16) (s : State) (p : Progress) : accept n { s with prog := p } = { accept n s with prog := p } := by
  apply State.ext <;> simp [accept_pwr, accept_mail_congr (u := { s with prog := p }) (s := s) rfl,
    accept_regs_congr (u := { s with prog := p }) (s := s) rfl]

theorem timeE_accept (n : Fin 16) (s : State) : timeE (accept n s) = timeE s := by
  simp [timeE, timeHigh]

theorem extendRecess_open {ms a e : Nat} {s : State} (h : s.prog.recess = some (a, e)) :
    extendRecess ms s = { s with prog := { s.prog with recess := some (a, max e (timeE s + ms * 1000000)) } } := by
  simp only [extendRecess, h]

theorem extendRecess_none {ms : Nat} {s : State} (h : s.prog.recess = none) :
    extendRecess ms s = { s with prog := { s.prog with extendMs := max s.prog.extendMs ms } } := by
  simp only [extendRecess, h]

/-- The extension counts from acceptance, which changes neither the slot nor the time. -/
theorem extendRecess_accept (n : Fin 16) (ms : Nat) (s : State) :
    extendRecess ms (accept n s) = accept n (extendRecess ms s) := by
  have hprog : (extendRecess ms (accept n s)).prog = (extendRecess ms s).prog := by
    simp [extendRecess, timeE_accept]
  calc extendRecess ms (accept n s)
      = { accept n s with prog := (extendRecess ms (accept n s)).prog } := rfl
    _ = { accept n s with prog := (extendRecess ms s).prog } := by rw [hprog]
    _ = accept n (extendRecess ms s) := (accept_prog n s _).symm

theorem extendRecess_mail (ms : Nat) (s : State) : (extendRecess ms s).mail = s.mail := rfl

theorem recessExtend_completes {r : Req} {s : State} {ms : Nat} (h : Admitted s r 0x0206 4 false) (hms : 1 ≤ ms ∧ ms ≤ 60000)
    (hmode : modeIn s [.write, .hold] = true) (hjob : betweenStripes s = true) :
    Completes (.recessExtend r ms) s r.slot .ok [] (extendRecess ms s) := by
  have ⟨_, _, _, _, _, ho⟩ := h
  refine completes_of_effect ho ?_ (extendRecess_accept r.slot ms s) (extendRecess_mail ms s)
  exact congrArg Host.Outcome.next (runCommand_ok r _ _ s h (decide_eq_true hms) rfl (by simp [hmode, hjob]) rfl rfl)

/-! ## O17 -/

/-- Settles O17: the effect of RECESS_EXTEND commutes with its acceptance; the rest is `extendRecess` by its two cases. -/
theorem recessIsExtended : Obligations.RecessIsExtended := by
  refine ⟨fun r s ms a e h hlo hhi hmode hjob => ?_, fun s => ⟨rfl, rfl⟩⟩
  have hdone : Completes (.recessExtend r ms) s r.slot .ok [] (extendRecess ms s) :=
    recessExtend_completes h ⟨hlo, hhi⟩ (by simpa [modeIn] using hmode) (by simpa [betweenStripes] using hjob)
  exact ⟨fun hopen => extendRecess_open hopen ▸ hdone, fun hnone => extendRecess_none hnone ▸ hdone⟩

end Sys2Proof.Machine
end

section
/-!
PROOFS. The checks of R363, one lemma for each status, and the mailbox commands they refuse (R356, R362 to R364).
-/

namespace Sys2Proof.Machine

/-! ## The length of a request (R362) -/

@[simp] theorem length_leBytes (n v : Nat) : (leBytes n v).length = n := by
  induction n generalizing v with
  | zero => rfl
  | succ n ih => simp [leBytes, ih]

/-- A list of parts of one size. -/
theorem length_flatMap_const {α : Type} {k : Nat} {f : α → List Byte} (h : ∀ x, (f x).length = k) (l : List α) :
    (l.flatMap f).length = k * l.length := by
  simp [List.length_flatMap, h, Nat.mul_comm]

@[simp] theorem length_writeBytes (ws : List RegWrite) : (writeBytes ws).length = 4 + 8 * ws.length := by
  simp [writeBytes, length_flatMap_const (k := 8)]; omega

@[simp] theorem length_refBytes (rs : List RegRef) : (refBytes rs).length = 4 + 4 * rs.length := by
  simp [refBytes, length_flatMap_const (k := 4)]; omega

@[simp] theorem length_entryBytes (es : List (Nat × DWord)) : (entryBytes es).length = 4 + 12 * es.length := by
  simp [entryBytes, length_flatMap_const (k := 12)]; omega

/-- A CELL_EVICT that a payload carries names as many cells as it says, or a range. -/
theorem length_evictBytes {r : Req} {form n : Nat} {ids : List Nat} {first last : Nat}
    (hc : requestCarried (.cellEvict r form n ids first last) = true) :
    (evictBytes form n ids first last).length = if form = 0 then 4 + 4 * n else 12 := by
  unfold evictBytes
  split
  case isTrue h =>
    have hn : n = ids.length := by simp [requestCarried, h] at hc; omega
    simp [length_flatMap_const (k := 4), hn]
    omega
  case isFalse => simp

/-- Every mailbox command is one call of `runCommand`. Its checks name the command's opcode and the LENGTH of its payload in whole
words; a command without payload has no field to be out of range, and no limit of its own beside its lifecycle's. -/
theorem exec_eq_runCommand {i : Instr} {r : Req} {op : Nat} {p : List Byte} (s : State) (hwf : i.wf = true)
    (hc : requestCarried i = true) (he : encodeRequest i = some (r, op, p)) :
    ∃ g eff, exec i s = .next (runCommand r g eff s) ∧ g.op = op ∧ g.len = (p.length + 3) / 4 * 4 ∧
      (p.length = 0 → g.inRange = true ∧ g.allowed = true) := by
  cases i <;> cases he <;> refine ⟨_, fun _ => _, rfl, rfl, ?_, ?_⟩
  case cellEvict.refl.refine_1 => rw [length_evictBytes hc]; dsimp only; split <;> omega
  case cellEvict.refl.refine_2 => rw [length_evictBytes hc]; split <;> omega
  case attest.refl.refine_1 nonce kind =>
    have hnonce : nonce.length = 32 := by simp [Instr.wf, sized] at hwf; omega
    simp [hnonce]
  case lifecycleSet.refl.refine_1 target auth =>
    have hauth : auth.length = 96 := by simp [Instr.wf, sized] at hwf; omega
    simp [hauth]
  case keyProvision.refl.refine_1 =>
    have hkey : p.length = 96 := by simp [Instr.wf, sized] at hwf; omega
    simp [hkey]
  all_goals simp <;> omega

/-! ## The checks of R363, in their order -/

section
variable {i : Instr} {r : Req} {g : Gate} {eff : State → State} {s : State}

/-- A command whose checks answer a status completes with it, and changes only its slot (R356). -/
theorem completes_of_refusal {st : Status} (hexec : exec i s = .next (runCommand r g eff s)) (ho : s.mail.orphan = false)
    (hst : refusal r g s = some st) : Completes i s r.slot st [] s := by
  refine ⟨_, hexec, ?_⟩
  rw [runCommand_refused r g eff s st hst]
  exact ⟨complete_answers s _ _ _ _ rfl (accept_orphan _ s ho), slotOnly_complete_accept s _ _ _ ho⟩

/-- The checks of R363 before that of a transition hold: LENGTH, the reserved bytes, the fields, and the limits on the command. -/
structure FormHolds (r : Req) (g : Gate) (s : State) : Prop where
  len : r.length = g.len
  zero : r.reservedZero = true
  inRange : g.inRange = true
  life : lifecycleAllows s g.op = true
  allowed : g.allowed = true

/-- The checks of R363 before those of domains and reach hold. -/
structure ModeHolds (r : Req) (g : Gate) (s : State) : Prop where
  form : FormHolds r g s
  still : g.moves = true → transitioning s = false
  accepted : g.accepted = true
  booted : bootRefuses s g.op = false

theorem refusal_badLength (h : r.length ≠ g.len) : refusal r g s = some .badLength := by
  simp [refusal, h]

theorem refusal_badParam (hlen : r.length = g.len) (h : r.reservedZero = false ∨ g.inRange = false) :
    refusal r g s = some .badParam := by
  simp [refusal, hlen, h]

theorem refusal_notPermitted (hlen : r.length = g.len) (hzero : r.reservedZero = true) (hin : g.inRange = true)
    (h : lifecycleAllows s g.op = false ∨ g.allowed = false) : refusal r g s = some .notPermitted := by
  simp [refusal, hlen, hzero, hin, h]

theorem refusal_busy (h : FormHolds r g s) (hmoves : g.moves = true) (hmoving : transitioning s = true) :
    refusal r g s = some .busy := by
  obtain ⟨hlen, hzero, hin, hlife, hallow⟩ := h
  simp [refusal, hlen, hzero, hlife, hin, hallow, hmoves, hmoving]

theorem refusal_wrongMode (h : FormHolds r g s) (hstill : g.moves = true → transitioning s = false)
    (hmode : g.accepted = false ∨ bootRefuses s g.op = true) : refusal r g s = some .wrongMode := by
  obtain ⟨hlen, hzero, hin, hlife, hallow⟩ := h
  have hmoves : (g.moves && transitioning s) = false := by simpa using hstill
  simp [refusal, hlen, hzero, hlife, hin, hallow, hmoves, hmode]

theorem refusal_domainOff (h : ModeHolds r g s) (hoff : g.needs.all (powered s) = false) : refusal r g s = some .domainOff := by
  obtain ⟨⟨hlen, hzero, hin, hlife, hallow⟩, hstill, hmode, hboot⟩ := h
  have hmoves : (g.moves && transitioning s) = false := by simpa using hstill
  simp [refusal, hlen, hzero, hlife, hin, hallow, hmoves, hmode, hboot, hoff]

theorem refusal_range (h : ModeHolds r g s) (hon : g.needs.all (powered s) = true) (hreach : g.reach = false) :
    refusal r g s = some .range := by
  obtain ⟨⟨hlen, hzero, hin, hlife, hallow⟩, hstill, hmode, hboot⟩ := h
  have hmoves : (g.moves && transitioning s) = false := by simpa using hstill
  simp [refusal, hlen, hzero, hlife, hin, hallow, hmoves, hmode, hboot, hon, hreach]

/-! ## A command refused by each check

The command is read as a call of `runCommand` by `hexec`, which fixes its checks; those that the status does not turn on, and that
hold by the command's own row, are settled by evaluation. -/

variable (ho : s.mail.orphan = false) (hzero : r.reservedZero = true) (hexec : exec i s = .next (runCommand r g eff s))
include ho hexec

theorem refused_badParam (hlen : r.length = g.len) (hin : g.inRange = false := by simp; omega) :
    Completes i s r.slot .badParam [] s :=
  completes_of_refusal hexec ho (refusal_badParam hlen (.inr hin))

include hzero

theorem refused_notPermitted (hlen : r.length = g.len) (hallow : g.allowed = false) (hin : g.inRange = true := by rfl) :
    Completes i s r.slot .notPermitted [] s :=
  completes_of_refusal hexec ho (refusal_notPermitted hlen hzero hin (.inr hallow))

theorem refused_busy (hmoving : transitioning s = true) (hasks : r.length = g.len ∧ lifecycleAllows s g.op = true)
    (hmoves : g.moves = true := by rfl) (hin : g.inRange = true := by rfl) (hallow : g.allowed = true := by rfl) :
    Completes i s r.slot .busy [] s :=
  completes_of_refusal hexec ho (refusal_busy ⟨hasks.1, hzero, hin, hasks.2, hallow⟩ hmoves hmoving)

theorem refused_wrongMode (hasks : r.length = g.len ∧ lifecycleAllows s g.op = true) (hmode : g.accepted = false)
    (hstill : g.moves = true → transitioning s = false := by nofun) (hin : g.inRange = true := by rfl)
    (hallow : g.allowed = true := by rfl) : Completes i s r.slot .wrongMode [] s :=
  completes_of_refusal hexec ho (refusal_wrongMode ⟨hasks.1, hzero, hin, hasks.2, hallow⟩ hstill (.inl hmode))

theorem refused_domainOff (hready : (r.length = g.len ∧ lifecycleAllows s g.op = true) ∧ bootRefuses s g.op = false)
    (hoff : g.needs.all (powered s) = false) (hmode : g.accepted = true := by rfl)
    (hstill : g.moves = true → transitioning s = false := by nofun) (hin : g.inRange = true := by rfl)
    (hallow : g.allowed = true := by rfl) : Completes i s r.slot .domainOff [] s := by
  obtain ⟨⟨hlen, hlife⟩, hboot⟩ := hready
  exact completes_of_refusal hexec ho (refusal_domainOff ⟨⟨hlen, hzero, hin, hlife, hallow⟩, hstill, hmode, hboot⟩ hoff)

theorem refused_range (hready : (r.length = g.len ∧ lifecycleAllows s g.op = true) ∧ bootRefuses s g.op = false)
    (hreach : g.reach = false) (hon : g.needs.all (powered s) = true := by rfl) (hmode : g.accepted = true := by rfl)
    (hstill : g.moves = true → transitioning s = false := by nofun) (hin : g.inRange = true := by rfl)
    (hallow : g.allowed = true := by rfl) : Completes i s r.slot .range [] s := by
  obtain ⟨⟨hlen, hlife⟩, hboot⟩ := hready
  exact completes_of_refusal hexec ho (refusal_range ⟨⟨hlen, hzero, hin, hlife, hallow⟩, hstill, hmode, hboot⟩ hon hreach)

end

/-- The checks that every mailbox command shares. -/
theorem mailbox_checked {i : Instr} {r : Req} {op : Nat} {p : List Byte} {s : State} (hwf : i.wf = true)
    (hc : requestCarried i = true) (he : encodeRequest i = some (r, op, p)) (ho : s.mail.orphan = false) :
    (r.length ≠ (p.length + 3) / 4 * 4 → Completes i s r.slot .badLength [] s) ∧
    (r.length = (p.length + 3) / 4 * 4 → r.reservedZero = false → Completes i s r.slot .badParam [] s) ∧
    (r.length = 0 → p = [] → r.reservedZero = true →
      (lifecycleAllows s op = false → Completes i s r.slot .notPermitted [] s) ∧
      (lifecycleAllows s op = true → transitioning s = false → bootRefuses s op = true → Completes i s r.slot .wrongMode [] s)) := by
  obtain ⟨g, eff, hexec, rfl, hlen, hbare⟩ := exec_eq_runCommand s hwf hc he
  rw [← hlen]
  refine ⟨fun h => completes_of_refusal hexec ho (refusal_badLength h),
    fun h hz => completes_of_refusal hexec ho (refusal_badParam h (.inl hz)), ?_⟩
  rintro h rfl hz
  obtain ⟨hin, hallow⟩ := hbare rfl
  have hl : r.length = g.len := h.trans hlen.symm
  exact ⟨fun hlife => completes_of_refusal hexec ho (refusal_notPermitted hl hz hin (.inl hlife)),
    fun hlife hstill hboot => completes_of_refusal hexec ho
      (refusal_wrongMode ⟨hl, hz, hin, hlife, hallow⟩ (fun _ => hstill) (.inr hboot))⟩

/-! ## O7 -/

/-- Settles O7: `exec_eq_runCommand` for the checks that every command shares; for the others, clause by clause, the check of the
command's own row that fails, where those before it hold. -/
theorem requestsAreChecked : Obligations.RequestsAreChecked := by
  refine ⟨fun i r op p s hwf hc he ho => mailbox_checked hwf hc he ho, fun r s ho hz => ?_⟩
  have param := fun {i g eff} => @refused_badParam i r g eff s ho
  have permit := fun {i g eff} => @refused_notPermitted i r g eff s ho hz
  have busy := fun {i g eff} => @refused_busy i r g eff s ho hz
  have mode := fun {i g eff} => @refused_wrongMode i r g eff s ho hz
  have domain := fun {i g eff} => @refused_domainOff i r g eff s ho hz
  have range := fun {i g eff} => @refused_range i r g eff s ho hz
  have aligned : ∀ {off}, off % 8 = 0 → bufferAligned off = true := by simp [bufferAligned]
  have misaligned : ∀ {off}, off % 8 ≠ 0 → bufferAligned off = false := by simp [bufferAligned]
  dsimp only
  -- BAD_PARAM: a field lies outside its range
  refine ⟨fun n h h0 hl => param rfl hl, fun n h hl => param rfl hl, fun n h hl => param rfl hl, fun a b h hl => param rfl hl,
    fun m own h hl => param rfl hl, fun f h hl => ⟨param rfl hl, param rfl hl, param rfl hl⟩, fun f n h hl => param rfl hl,
    fun n h hl => param rfl hl, fun n h hl => param (eff := fun _ => _) rfl hl,
    fun off len h hl => ⟨param rfl hl (misaligned h), param rfl hl (misaligned h), param rfl hl (by simp [misaligned h]),
      param rfl hl (by simp [misaligned h])⟩,
    fun first n h hl => param rfl hl, fun kind arg h hl => param rfl hl, fun g first n h hl => param rfl hl,
    fun sec ns h hl => param rfl hl, fun inc h hl => param rfl hl, fun f d ip h hl => param rfl hl,
    fun n a g ss sn pe w h hl => param rfl hl h, fun nonce k h hl => param rfl hl, fun target auth h hl => param rfl hl,
    fun mask seen h hl => param rfl hl (by simp; exact fun heven => h.resolve_left (by omega)), ?_⟩
  -- NOT_PERMITTED: the SEC_ limit on SECURED, and the Service-only rule
  refine ⟨fun off len ha h8 hd => permit rfl ha.1 (by simp [hd]) (aligned h8),
    fun rs ha h1 h52 hm => permit rfl ha.1 (by simp [debugAllowed, hm]) (by simp [listOk, h1, h52]),
    fun ws ha h1 h27 hv hm => permit rfl ha.1 (by simp [debugAllowed, hm]) (by simp [h1, h27, hv]), ?_⟩
  -- BUSY: the command moves, and a transition is in progress
  refine ⟨fun ht => ⟨fun ha => busy rfl ht ha, fun ha => busy rfl ht ha, fun ha => busy rfl ht ha, fun ha => busy rfl ht ha,
    fun ha => busy rfl ht ha, fun ha => busy rfl ht ha, fun ha hlast l hl => busy rfl ht ha hlast (by simp [hl]),
    fun ha => busy rfl ht ha, fun ha => busy rfl ht ha, fun ha => busy rfl ht ha, fun ha => busy rfl ht ha⟩, ?_⟩
  -- WRONG_MODE: the row accepts other modes or job states
  refine ⟨fun hm => ⟨fun ha => mode rfl ha hm, fun ha => mode rfl ha hm, fun n ha => mode rfl ha hm, fun n ha => mode rfl ha hm,
      fun ha => mode rfl ha hm, fun ha => mode rfl ha hm, fun ha => mode rfl ha hm, fun b ha => mode rfl ha hm,
      fun ha => mode rfl ha hm, fun ha => mode rfl ha hm, fun n ha => mode rfl ha hm, fun n ha => mode rfl ha hm,
      fun ha ht => mode rfl ha hm fun _ => ht, fun v ha => mode rfl ha hm⟩,
    fun hm => ⟨fun off ha h8 => mode rfl ha hm nofun (by simp [aligned h8]), fun ha => mode rfl ha hm,
      fun off ha h8 => mode rfl ha hm nofun (by simp [aligned h8]), fun a ha => mode rfl ha hm, fun k ha => mode rfl ha hm⟩,
    fun hready hservice => ?_, fun hservice => ?_,
    fun hhold ha ht => mode rfl ha (beq_false_of_ne hhold) fun _ => ht,
    fun hm => ⟨fun ha ht => mode rfl ha hm fun _ => ht,
      fun off len ha h8 hd => mode rfl ha hm nofun (aligned h8) (by simp [hd])⟩,
    fun hm => ⟨fun ha ht => mode rfl ha hm fun _ => ht,
      fun hw => ⟨fun off len ha h8 => mode rfl ha (by simp [hm, hw]) nofun (aligned h8),
        fun a b ha => mode rfl ha (by simp [hm, hw])⟩⟩,
    fun hw ha ht => mode rfl ha (by simpa using hw) fun _ => ht,
    fun hw ha => mode rfl ha (by simpa using hw),
    fun hs hw ha => mode (eff := fun _ => _) rfl ha (by simp [hs]; grind),
    fun hs hh ha => mode rfl ha (by simp [hs]; grind),
    fun hm ht ha => mode rfl ha hm fun _ => ht, ?_⟩
  · have hm : modeIn s [.ready, .service] = false := by simp [modeIn, hready, hservice]
    exact ⟨fun ha => mode rfl ha hm, fun u a b c ha => mode rfl ha hm, fun ha => mode rfl ha hm, fun d ip ha => mode rfl ha hm⟩
  · have hm : (s.flow.mode == .service) = false := beq_false_of_ne hservice
    exact ⟨fun ha => mode rfl ha hm, fun ha => mode rfl ha hm, fun ha ht => mode rfl ha hm fun _ => ht⟩
  -- DOMAIN_OFF: one of the domains needed is off
  refine ⟨fun off h8 hoff => ?_, fun hm hoff => ?_, fun hm hoff ha => domain rfl ha (by simp [hoff]) hm, fun hm hoff => ?_,
    fun hm hoff => ?_, fun e hoff => ?_, fun hm ha ht hoff => domain rfl ha (by simp; grind) hm fun _ => ht, ?_⟩
  · exact ⟨fun len ha hd hm => domain rfl ha (by simp [hoff]) hm nofun (aligned h8) (by simp [hd]),
      fun len ha hw => domain rfl ha (by simp [hoff]) (by simp [hw]) nofun (aligned h8),
      fun ha hm => domain rfl ha (by simp [hoff]) hm nofun (by simp [aligned h8]),
      fun ha hm => domain rfl ha (by simp [hoff]) hm nofun (by simp [aligned h8])⟩
  · exact ⟨fun ha => domain rfl ha (by simp [hoff]) hm, fun n ha => domain rfl ha (by simp [hoff]) hm,
      fun n ha => domain rfl ha (by simp [hoff]) hm⟩
  · exact ⟨fun ha => domain rfl ha (by simp [hoff]) hm, fun ha => domain rfl ha (by simp [hoff]) hm,
      fun a ha => domain rfl ha (by simp [hoff]) hm⟩
  · exact ⟨fun ha => domain rfl ha (by simp [hoff]) (by simp [hm]), fun n ha => domain rfl ha (by simp [hoff]) (by simp [modeIn, hm])⟩
  · exact ⟨fun ha => domain rfl ha (by simp [hoff]), fun ha hd => domain rfl ha (by simp [hoff]) rfl nofun rfl hd⟩
  -- RANGE: the domains are on, and the index or address lies beyond reach
  refine ⟨fun off len h8 hfar hon => ?_, fun hm => ?_, fun g first n hlo hhi ha hm harm hon hfar => ?_, fun e hon hnone => ?_⟩
  · exact ⟨fun ha hd hm => range rfl ha hfar (by simp [hon]) hm nofun (aligned h8) (by simp [hd]),
      fun ha hw => range rfl ha hfar (by simp [hon]) (by simp [hw]) nofun (aligned h8),
      fun ha hm hlen => range rfl ha hfar (by simp [hon]) hm nofun (by simp [aligned h8, hlen])⟩
  · exact ⟨fun n ha hfar => range rfl ha (by simp [hfar]) rfl hm,
      fun b ha hfar => range rfl ha (by simp [reportReach, hfar]) rfl hm,
      fun n ha hon hfar => range rfl ha (by simp [hfar]) (by simp [hon]) hm,
      fun n ha hon hfar => range rfl ha (by simp [hfar]) (by simp [hon]) hm⟩
  · exact range rfl ha (by simp [hfar]) (by simp [hon]) (by simp [modeIn, hm, harm]) nofun (by simp [hlo, hhi])
  · exact ⟨fun ha => range rfl ha (by simp [hnone]) (by simp [hon]),
      fun ha hd => range rfl ha (by simp [hnone]) (by simp [hon]) rfl nofun rfl hd⟩

end Sys2Proof.Machine
end

section
/-!
PROOFS. What a Roll Call, accepted or sent, leaves in the cohort section of the status page, and what a missed one leaves (R411).
-/

namespace Sys2Proof.Machine

/-! ## The record of a member (R352, R411) -/

/-- The cohort section of `t` is that of `s` after one refresh that gives position `i` the record `r`. -/
def RecordRefreshed (s t : State) (i : Nat) (r : MemberRow) : Prop :=
  (memberRows t)[i]? = some r ∧ t.page.cohSeq = seqNext s.page.cohSeq ∧ t.page.rows = memberRows t ∧
  ∀ j, j ≠ i → (memberRows t)[j]? = (memberRows s)[j]?

/-- The rows are those of the page alone. -/
theorem memberRows_congr {s t : State} (h : t.page = s.page) : memberRows t = memberRows s := by
  rw [memberRows, memberRows, h]

@[simp] theorem length_memberRows (s : State) : (memberRows s).length = 32 := by simp [memberRows]

/-- A page whose 32 rows are all written shows them as they stand. -/
theorem memberRows_of_length {s : State} (h : s.page.rows.length = 32) : memberRows s = s.page.rows := by
  apply List.ext_getElem
  · rw [length_memberRows, h]
  · intro i _ hi
    simp [memberRows, List.getElem?_eq_getElem hi]

theorem memberRows_refreshMember (i digest epoch state : Nat) (s : State) :
    memberRows (refreshMember i digest epoch state s) = (memberRows s).set i ⟨digest, epoch, state % 1024⟩ :=
  memberRows_of_length (by simp [refreshMember])

/-- The refresh of one member's record does that to every state whose page it makes out of that of `s`. -/
theorem recordRefreshed_of_page {s t u : State} {i digest epoch state : Nat} (hi : i < 32) (hu : u.page = s.page)
    (ht : t.page = (refreshMember i digest epoch state u).page) : RecordRefreshed s t i ⟨digest, epoch, state % 1024⟩ := by
  have hrows : memberRows t = (memberRows s).set i ⟨digest, epoch, state % 1024⟩ := by
    rw [memberRows_congr ht, memberRows_refreshMember, memberRows_congr hu]
  refine ⟨?_, ?_, ?_, fun j hj => ?_⟩
  · rw [hrows, List.getElem?_set_self (by simpa using hi)]
  · rw [ht, ← hu]; rfl
  · rw [hrows, ht, ← memberRows_congr hu]; rfl
  · rw [hrows, List.getElem?_set_ne hj.symm]

/-! ## An accepted Roll Call (R408, R411) -/

/-- A kept position is one of the 32 of the ring. -/
theorem lt_of_kept {s : State} {i : Nat} (h : kept s i = true) : i < 32 :=
  BitVec.lt_of_getLsbD h

theorem receiveFrame_of_acceptable {s : State} {f : CohFrame} (p : Port) (h : Acceptable s f) :
    receiveFrame p f s = (admitFrame p f s, true) := by
  obtain ⟨hpower, hsound, hsrc, hkept, hnewer⟩ := h
  cases halive : (peer s f.src).alive with
  | none => simp [receiveFrame, hpower, hsound, hsrc, hkept, halive]
  | some a =>
    obtain ⟨hpos, hlt⟩ := hnewer a halive
    simp only [receiveFrame, hpower, hsound, hsrc, hkept, halive, hpos.ne', hlt]
    rfl

/-- A frame newer than the last one of its position is no copy of it. -/
theorem rollCallCopy_of_acceptable {s : State} {f : CohFrame} (p : Port) (h : Acceptable s f) : rollCallCopy p f s = s := by
  obtain ⟨_, _, _, _, hnewer⟩ := h
  cases halive : (peer s f.src).alive with
  | none => simp [rollCallCopy, halive]
  | some a =>
    have hne : a ≠ f.alive := by
      rintro rfl
      simpa using (hnewer _ halive).1
    cases hvia : (peer s f.src).via <;> simp [rollCallCopy, halive, hvia, hne]

theorem exec_rollCallReceived {s : State} {f : CohFrame} (p : Port) (h : Acceptable s f) (hkind : f.kind = Kind.rollCall) :
    exec (.rollCallReceived p f) s = .next (rollCallAccepted p f (admitFrame p f s)) := by
  have harm : exec (.rollCallReceived p f) s = execRollCallReceived p f s := rfl
  simp [harm, execRollCallReceived, onFrame, hkind, rollCallCopy_of_acceptable p h, receiveFrame_of_acceptable p h]

/-- Of all that an accepted Roll Call does, only the refresh of its record reaches the status page. -/
theorem rollCallAccepted_page (p : Port) (f : CohFrame) (s : State) :
    (rollCallAccepted p f s).page = (refreshMember f.src (fword f 0 8) f.epoch (fword f 8 4) s).page := by
  have hpage : ∀ (g : Peer → Peer), (refreshMember f.src (fword f 0 8) f.epoch (fword f 8 4) (updPeer f.src g s)).page =
      (refreshMember f.src (fword f 0 8) f.epoch (fword f 8 4) s).page := fun _ => rfl
  unfold rollCallAccepted
  simp only [rejoin_frame]
  split <;> simp [hpage]

/-! ## A sent Roll Call (R410, R411, R413) -/

/-- The state that a Roll Call to be sent tells of: the digest is recomputed and IN_MASTER_PART stands as it follows. -/
def rollCallSource (s : State) : State := masterSync false (recomputeDigest s)

theorem rget64_rset64 (lo hi v : Nat) (s : State) (h : lo ≠ hi) : rget64 (rset64 lo hi v s) lo hi = v % 2 ^ 64 := by
  have hlo : rget (rset64 lo hi v s) lo = BitVec.ofNat 32 v := by
    rw [rset64, rget_rset_other _ _ _ _ h, rget_rset_same]
  have hhi : rget (rset64 lo hi v s) hi = BitVec.ofNat 32 (v / 2 ^ 32) := rget_rset_same _ _ _
  rw [rget64, hlo, hhi, BitVec.toNat_ofNat, BitVec.toNat_ofNat]
  omega

theorem rget_recomputeDigest (s : State) (k : Nat) :
    rget (recomputeDigest s) k = rget (rset64 Reg.COH_DIGEST_LO Reg.COH_DIGEST_HI (ownDigest s) s) k := by
  have hregs : (recomputeDigest s).regs = (rset64 Reg.COH_DIGEST_LO Reg.COH_DIGEST_HI (ownDigest s) s).regs := by
    unfold recomputeDigest
    dsimp only
    split <;> simp
  rw [rget, hregs, rget]

theorem recomputeDigest_keeps (s : State) : (recomputeDigest s).coh = s.coh ∧ (recomputeDigest s).mon = s.mon := by
  unfold recomputeDigest
  dsimp only
  split <;> simp

theorem rget_raiseIf (b : Bool) (n : Nat) (s : State) (k : Nat) : rget (raiseIf b n s) k = rget s k := by
  simp [rget]

theorem rget_masterSync (anew : Bool) (s : State) {k : Nat} (h : k ≠ Reg.COH_STATUS) : rget (masterSync anew s) k = rget s k := by
  simp [masterSync, rget_raiseIf, rget_fput, h]

theorem masterSync_keeps (anew : Bool) (s : State) : (masterSync anew s).coh = s.coh ∧ (masterSync anew s).mon = s.mon := by
  simp [masterSync]

theorem rget_rollCallSource (s : State) {k : Nat} (h : k ∉ [Reg.COH_STATUS, Reg.COH_DIGEST_LO, Reg.COH_DIGEST_HI]) :
    rget (rollCallSource s) k = rget s k := by
  simp only [List.mem_cons, List.not_mem_nil, or_false, not_or] at h
  obtain ⟨hstatus, hlo, hhi⟩ := h
  rw [rollCallSource, rget_masterSync _ _ hstatus, rget_recomputeDigest, rset64, rget_rset_other _ _ _ _ hhi, rget_rset_other _ _ _ _ hlo]

/-- The digest that a Roll Call tells of is the module's own as it stands now (R413). -/
theorem digest_rollCallSource (s : State) :
    rget64 (rollCallSource s) Reg.COH_DIGEST_LO Reg.COH_DIGEST_HI = ownDigest s % 2 ^ 64 := by
  rw [← rget64_rset64 Reg.COH_DIGEST_LO Reg.COH_DIGEST_HI (ownDigest s) s (by decide)]
  simp only [rget64, rollCallSource, rget_masterSync _ _ (show Reg.COH_DIGEST_LO ≠ Reg.COH_STATUS by decide),
    rget_masterSync _ _ (show Reg.COH_DIGEST_HI ≠ Reg.COH_STATUS by decide), rget_recomputeDigest]

theorem rollCallSource_coh (s : State) : (rollCallSource s).coh = s.coh := by
  rw [rollCallSource, (masterSync_keeps _ _).1, (recomputeDigest_keeps s).1]

theorem rollCallSource_page (s : State) : (rollCallSource s).page = s.page := by simp [rollCallSource]

theorem cohOwn_rollCallSource (s : State) : cohOwn (rollCallSource s) = cohOwn s := by
  rw [cohOwn, fget, rget_rollCallSource s (by decide), cohOwn, fget]

/-- A port sends by the power of COH, the lanes in lock and the BIST in progress alone. -/
theorem portSends_congr {s u : State} (hpower : rget u Reg.PWR_STATUS = rget s Reg.PWR_STATUS)
    (hlanes : rget u Reg.COH_LANES = rget s Reg.COH_LANES) (hmon : u.mon = s.mon) (p : Port) : portSends u p = portSends s p := by
  cases p <;> simp [portSends, powered, fbitAt, outputsHeld, portLanes, fget, hpower, hlanes, hmon]

theorem portSends_rollCallSource (s : State) (p : Port) : portSends (rollCallSource s) p = portSends s p :=
  portSends_congr (rget_rollCallSource s (by decide)) (rget_rollCallSource s (by decide))
    (by rw [rollCallSource, (masterSync_keeps _ _).2, (recomputeDigest_keeps s).2]) p

/-- The ring position of a module has five bits. -/
theorem cohOwn_lt (s : State) : cohOwn s < 32 := Nat.mod_lt _ (by decide)

/-! ## A frame on the wire (R409) -/

/-- Sending writes to the wire alone. -/
theorem putFrame_keeps (f : CohFrame) (s : State) (p : Port) : (putFrame f s p).regs = s.regs ∧ (putFrame f s p).mon = s.mon := by
  unfold putFrame
  split <;> exact ⟨rfl, rfl⟩

theorem portSends_putFrame (f : CohFrame) (s : State) (p q : Port) : portSends (putFrame f s p) q = portSends s q := by
  obtain ⟨hregs, hmon⟩ := putFrame_keeps f s p
  exact portSends_congr (by rw [rget, hregs, rget]) (by rw [rget, hregs, rget]) hmon q

/-- What the wire carries after a frame is given to a port. -/
theorem sent_putFrame (f : CohFrame) (s : State) (p : Port) :
    (putFrame f s p).coh.sent = s.coh.sent ++ if portSends s p then [(p, f)] else [] := by
  unfold putFrame
  split <;> simp

theorem sent_broadcast (kind : Nat) (payload : List Byte) (s : State) {p : Port} (h : portSends s p = true) :
    (p, ownFrame s kind payload) ∈ (broadcast kind payload s).coh.sent := by
  have hsent : (broadcast kind payload s).coh.sent =
      (putFrame (ownFrame s kind payload) (putFrame (ownFrame s kind payload) s .east) .west).coh.sent := rfl
  rw [hsent, sent_putFrame, sent_putFrame, portSends_putFrame]
  cases p <;> simp [h]

theorem broadcast_regs (kind : Nat) (payload : List Byte) (s : State) : (broadcast kind payload s).regs = s.regs := by
  have hregs : (broadcast kind payload s).regs =
      (putFrame (ownFrame s kind payload) (putFrame (ownFrame s kind payload) s .east) .west).regs := rfl
  rw [hregs, (putFrame_keeps _ _ _).1, (putFrame_keeps _ _ _).1]

/-- A part of a payload stands at the offset that the parts before it make. -/
theorem slice_append_middle {a b : List Byte} {off n : Nat} (c : List Byte) (ha : a.length = off) (hb : b.length = n) :
    slice (a ++ (b ++ c)) off n = b := by
  subst ha hb
  simp [slice]

/-- STATE stands at bytes 8 to 11 of a Roll Call (Table 17-2). -/
theorem state_rollPayload (s : State) : slice (rollPayload s) 8 4 = leBytes 4 (rollState s) := by
  rw [rollPayload, List.append_assoc, List.append_assoc]
  exact slice_append_middle _ (length_leBytes 8 _) (length_leBytes 4 _)

/-- The Roll Call that goes out, and the record that the module makes of itself. -/
theorem rollCallSend_eq {s : State} (hproctor : proctorRuns s = true) (hrest : resting s = false)
    (hmode : s.flow.mode ∈ [Mode.ready, Mode.write, Mode.hold]) :
    rollCallSend s = refreshMember (cohOwn s) (ownDigest s % 2 ^ 64) (rget s Reg.COH_EPOCH).toNat (rollState (rollCallSource s))
      (broadcast Kind.rollCall (rollPayload (rollCallSource s)) (rollCallSource s)) := by
  have hin : modeIn s [.ready, .write, .hold] = true := by simpa [modeIn] using hmode
  have hrget : ∀ k, rget (broadcast Kind.rollCall (rollPayload (rollCallSource s)) (rollCallSource s)) k = rget (rollCallSource s) k :=
    fun k => by rw [rget, broadcast_regs, rget]
  rw [rollCallSend, if_neg (by simp [hproctor, hrest, hin])]
  dsimp only
  rw [← rollCallSource, ← digest_rollCallSource, ← cohOwn_rollCallSource s, ← rget_rollCallSource s (k := Reg.COH_EPOCH) (by decide)]
  simp only [cohOwn, fget, rget64, hrget]

/-! ## A missed Roll Call (R411) -/

theorem exec_rollCallMiss {s : State} {i : Fin 32} (hcore : coreRuns s = true) (hkept : kept s i.val = true) (hother : i.val ≠ cohOwn s) :
    exec (.rollCallMiss i) s = .next (raise Ev.ROLL_CALL_MISS s) := by
  have harm : exec (.rollCallMiss i) s = execRollCallMiss i s := rfl
  simp [harm, execRollCallMiss, raiseIf, hcore, hkept, hother]

/-! ## O60 -/

/-- Settles O60: an accepted and a sent Roll Call each reach the status page through one `refreshMember`, on a state whose page is that
before the event; a missed one is a `raise`. -/
theorem rollCallsAreRecorded : Obligations.RollCallsAreRecorded := by
  intro s
  refine ⟨fun p f hacc hkind => ?_, fun hproctor hrest hmode => ?_, fun i hcore hkept hother => ?_⟩
  · have ⟨_, _, _, hkept, _⟩ := hacc
    obtain ⟨hrow, hseq, hshown, hothers⟩ : RecordRefreshed s (rollCallAccepted p f (admitFrame p f s)) f.src _ :=
      recordRefreshed_of_page (lt_of_kept hkept) (by simp) (rollCallAccepted_page p f _)
    exact ⟨_, exec_rollCallReceived p hacc hkind, hrow, hseq, hshown, hothers⟩
  · have heq := rollCallSend_eq hproctor hrest hmode
    obtain ⟨hrow, hseq, hshown, hothers⟩ : RecordRefreshed s (rollCallSend s) (cohOwn s) _ :=
      recordRefreshed_of_page (cohOwn_lt s) (by simp [rollCallSource_page]) (congrArg State.page heq)
    refine ⟨_, rfl, rollState (rollCallSource s), hrow, fun p hp => ?_, hseq, hshown, hothers⟩
    have hsent := sent_broadcast Kind.rollCall (rollPayload (rollCallSource s)) (rollCallSource s)
      ((portSends_rollCallSource s p).trans hp)
    refine ⟨_, by rw [heq]; exact hsent, rfl, ?_, state_rollPayload _⟩
    exact congrArg Coh.alive (rollCallSource_coh s)
  · exact ⟨_, exec_rollCallMiss hcore hkept hother, rfl, rfl⟩

end Sys2Proof.Machine
end

section
/-!
PROOFS. What the module does by itself on an empty queue (R357, R430, log entries 42 and 43), and that no command changes the queue, so
that a step takes its front and nothing else.
-/

namespace Sys2Proof.Machine

/-! ## The module with no command waiting -/

theorem idle_of_held {s : State} (h : s.flow.boot = .held) : idle s = s := by
  simp [idle, h]

theorem idle_of_takes {s : State} (hboot : s.flow.boot ≠ .held) (hwaiting : s.mail.waiting ≠ []) (htake : mayTake s = true) :
    idle s = takeDoorbells s := by
  simp [idle, hboot, hwaiting, htake]

theorem idle_of_none_taken {s : State} (hboot : s.flow.boot ≠ .held) (h : s.mail.waiting = [] ∨ mayTake s = false) :
    idle s = timeTick s := by
  obtain hnone | hnot := h
  · simp [idle, hboot, hnone]
  · simp [idle, hboot, hnot]

@[simp] theorem idle_pending (s : State) : (idle s).pending = s.pending := by
  unfold idle
  split
  · rfl
  · split <;> simp

/-! ## A step, by its queue -/

theorem step_of_empty {s : State} (h : s.pending = []) : step s = .next (idle s) := by
  simp [step, h]

theorem step_of_front {s : State} {c : Instr} {rest : List Instr} (h : s.pending = c :: rest) :
    step s = exec c { s with pending := rest } := by
  simp [step, h]

/-! ## Commands whose arm in the dispatch makes a case distinction of its own -/

/-- A command stopped by a fault under a condition has its effect's state as next state, if it has one. -/
theorem eq_of_unless_fault {p : Prop} [Decidable p] {f : Fault} {t u : State}
    (h : (if p then .fault f else .next u : Host.Outcome State Fault Refusal) = .next t) : u = t := by
  split at h
  · cases h
  · exact Host.Outcome.next.inj h

theorem execGatherComplete_pending {shot : Int} {margins : List Nat} {s t : State} (h : execGatherComplete shot margins s = .next t) :
    t.pending = s.pending := by
  cases h
  split <;> simp

theorem execBlockLanded_pending {c : Fin 8} {bytes : List Byte} {s t : State} (h : execBlockLanded c bytes s = .next t) :
    t.pending = s.pending := by
  cases h
  rw [(dmaGoesOn_frame _).1]
  split
  · split <;> simp
  · rfl

theorem execArmMissFrame_pending {p : Port} {f : CohFrame} {s t : State} (h : execArmMissFrame p f s = .next t) :
    t.pending = s.pending := by
  cases h
  refine onFrame_pending Kind.armMiss p f _ s fun u v hact => ?_
  subst hact
  split
  · split <;> simp
  · rfl

/-! ## No command changes the queue -/

/-- Two commands may stop with the fault of an absolute maximum (R522); every other command's next state is that of one operation on the
state, or of a few in a row, each of which leaves the queue as it is. -/
theorem exec_pending {i : Instr} {s t : State} (h : exec i s = .next t) : t.pending = s.pending := by
  cases i
  case vinRecoveryCrossing mv => simp [← eq_of_unless_fault h]
  case railSample mv => simp [← eq_of_unless_fault h]
  case gatherComplete => exact execGatherComplete_pending h
  case blockLanded => exact execBlockLanded_pending h
  case armMissFrame => exact execArmMissFrame_pending h
  all_goals
    obtain rfl := Host.Outcome.next.inj h
    simp

theorem step_pending {s t : State} (h : step s = .next t) : t.pending = s.pending.tail := by
  cases hq : s.pending with
  | nil =>
    obtain rfl := Host.Outcome.next.inj ((step_of_empty hq).symm.trans h)
    simp [hq]
  | cons c rest => exact exec_pending ((step_of_front hq).symm.trans h)

/-! ## O2 -/

/-- Settles O2: an empty queue's step is `idle`, by its three cases; a step on a queue runs its front on the rest, which no command
changes. -/
theorem stepIdlesAndTakesOne : Obligations.StepIdlesAndTakesOne := by
  refine ⟨fun s hempty => ?_, fun _ _ _ => exec_pending, fun _ _ => step_pending⟩
  rw [step_of_empty hempty]
  refine ⟨fun hheld => ?_, fun hboot hwaiting htake => ?_, fun hboot hnone => ?_⟩
  · rw [idle_of_held hheld]
  · rw [idle_of_takes hboot hwaiting htake]
  · rw [idle_of_none_taken hboot hnone]

end Sys2Proof.Machine
end

section
/-!
PROOFS. How samples that come together change one probe's capture, the captures of all probes and the event state (R498 to R502).
-/

namespace Sys2Proof.Machine

/-! ## Least and greatest of a series -/

theorem foldl_greatest (a : Int) (l : List Int) :
    l.foldl (fun a b => if a < b then b else a) a ∈ a :: l ∧ ∀ v ∈ a :: l, v ≤ l.foldl (fun a b => if a < b then b else a) a := by
  simp only [← max_def_lt]
  exact List.max?_eq_some_iff.mp List.max?_cons'

theorem foldl_least (a : Int) (l : List Int) :
    l.foldl (fun a b => if b < a then b else a) a ∈ a :: l ∧ ∀ v ∈ a :: l, l.foldl (fun a b => if b < a then b else a) a ≤ v := by
  simp only [← min_def_lt, min_comm]
  exact List.min?_eq_some_iff.mp List.min?_cons'

/-! ## A value put at a key -/

theorem assocD_filter_other {β : Type} (d : β) (m : List (Nat × β)) {k i : Nat} (h : i ≠ k) :
    assocD d (m.filter fun e => e.1 != k) i = assocD d m i := by
  induction m with
  | nil => rfl
  | cons e m ih =>
    obtain ⟨j, v⟩ := e
    by_cases hj : j = k
    · simp [hj, assocD, ih, h]
    · simp [hj, assocD, ih]

theorem assocD_assocPut {β : Type} (d : β) (m : List (Nat × β)) (k i : Nat) (v : β) :
    assocD d (assocPut m k v) i = if i = k then v else assocD d m i := by
  by_cases h : i = k
  · simp [assocPut, assocD, h]
  · simp [assocPut, assocD, h, assocD_filter_other d m h]

/-! ## One capture takes the samples of a core cycle (R499, R500) -/

/-- The bin of a sample: bins of width `w`, at least 1, count from `lo`, and the outer two take what lies beyond (R499). -/
def sampleBin (lo : Int) (w : Nat) (v : Int) : Nat := (max (0 : Int) (min 31 (Int.fdiv (v - lo) (max 1 w)))).toNat

section
variable (lo : Int) (w : Nat) (vals : List Int) (c : Capture)

theorem Capture.take_min : (c.take lo w vals).min ∈ c.min :: vals ∧ ∀ v ∈ c.min :: vals, (c.take lo w vals).min ≤ v := by
  cases vals with
  | nil => simp [Capture.take]
  | cons v vs => exact foldl_least c.min (v :: vs)

theorem Capture.take_max : (c.take lo w vals).max ∈ c.max :: vals ∧ ∀ v ∈ c.max :: vals, v ≤ (c.take lo w vals).max := by
  cases vals with
  | nil => simp [Capture.take]
  | cons v vs => exact foldl_greatest c.max (v :: vs)

variable {vals} (h : vals ≠ [])
include h

theorem Capture.take_last : (c.take lo w vals).last ∈ vals ∧ ∀ v ∈ vals, v ≤ (c.take lo w vals).last := by
  obtain ⟨v, vs, rfl⟩ := List.exists_cons_of_ne_nil h
  exact foldl_greatest v vs

theorem Capture.take_samples : (c.take lo w vals).samples = Min.min (2 ^ 32 - 1) (c.samples + 1) := by
  obtain ⟨v, vs, rfl⟩ := List.exists_cons_of_ne_nil h
  rfl

theorem Capture.assocD_take_bins (i : Nat) :
    assocD 0 (c.take lo w vals).bins i =
      if i = sampleBin lo w (c.take lo w vals).last then Min.min (2 ^ 32 - 1) (assocD 0 c.bins i + 1) else assocD 0 c.bins i := by
  obtain ⟨v, vs, rfl⟩ := List.exists_cons_of_ne_nil h
  refine (assocD_assocPut 0 c.bins (sampleBin lo w (c.take lo w (v :: vs)).last) i _).trans ?_
  split
  case isTrue hi => rw [hi]; rfl
  case isFalse => rfl
end

/-! ## A source raised more than once (R359) -/

theorem raise_ev_congr (n : Nat) {s t : State} (h : t.ev = s.ev) : (raise n t).ev = (raise n s).ev := by
  simp [raise, h]

theorem raise_ev_again (n : Nat) {s t : State} (h : t.ev = (raise n s).ev) : (raise n t).ev = (raise n s).ev := by
  simp [raise, h, BitVec.or_assoc]

/-! ## One probe -/

/-- A probe has the source selected (R498). -/
abbrev probeNames (src : Nat) (s : State) (p : Nat) : Prop := fget s (Reg.MON_PROBE_SRC_SOURCE p) = src

/-- What the samples make of a probe's capture, by the probe's settings. -/
def probeTake (vals : List Int) (s : State) (p : Nat) (c : Capture) : Capture :=
  c.take (fint s (Reg.MON_PROBE_LO_LIMIT_LO p)) (fget s (Reg.MON_PROBE_WIDTH_BIN_WIDTH p)) vals

/-- A sample lies outside a probe's limits, which are not equal (R502). -/
abbrev beyondLimits (vals : List Int) (s : State) (p : Nat) : Prop :=
  fint s (Reg.MON_PROBE_LO_LIMIT_LO p) ≠ fint s (Reg.MON_PROBE_HI_LIMIT_HI p) ∧
    ∃ v ∈ vals, v < fint s (Reg.MON_PROBE_LO_LIMIT_LO p) ∨ fint s (Reg.MON_PROBE_HI_LIMIT_HI p) < v

section
variable (src : Nat) (vals : List Int) (s : State) (p : Nat)

theorem probeSample_of_other (h : ¬ probeNames src s p) : probeSample src vals s p = s := if_pos h

theorem probeSample_of_named (h : probeNames src s p) :
    probeSample src vals s p = raiseIf (decide (beyondLimits vals s p)) Ev.MON_LIMIT
      { s with mon := { s.mon with caps := updAt Capture.fresh s.mon.caps p (probeTake vals s p) } } := by
  have hany : decide (beyondLimits vals s p) =
      (decide (fint s (Reg.MON_PROBE_LO_LIMIT_LO p) ≠ fint s (Reg.MON_PROBE_HI_LIMIT_HI p)) &&
        vals.any fun v => decide (v < fint s (Reg.MON_PROBE_LO_LIMIT_LO p) ∨ fint s (Reg.MON_PROBE_HI_LIMIT_HI p) < v)) := by
    rw [Bool.eq_iff_iff]
    simp
  rw [hany]
  exact if_neg (not_not.mpr h)

theorem probeSample_eq_with_mon_ev : probeSample src vals s p =
    { s with mon := (probeSample src vals s p).mon, ev := (probeSample src vals s p).ev } := by
  by_cases hname : probeNames src s p
  · rw [probeSample_of_named src vals s p hname]
    unfold raiseIf
    split <;> rfl
  · rw [probeSample_of_other src vals s p hname]

theorem captureOf_probeSample (q : Nat) : captureOf (probeSample src vals s p) q =
    if q = p ∧ probeNames src s p then probeTake vals s p (captureOf s p) else captureOf s q := by
  by_cases hname : probeNames src s p
  · rw [probeSample_of_named src vals s p hname]
    simp only [captureOf, raiseIf_frame, getD_updAt]
    by_cases hq : q = p
    · rw [if_pos hq, if_pos ⟨hq, hname⟩, hq]
    · rw [if_neg hq, if_neg fun h => hq h.1]
  · rw [probeSample_of_other src vals s p hname, if_neg fun h => hname h.2]

theorem probeSample_ev : (probeSample src vals s p).ev =
    if probeNames src s p ∧ beyondLimits vals s p then (raise Ev.MON_LIMIT s).ev else s.ev := by
  by_cases hname : probeNames src s p
  · rw [probeSample_of_named src vals s p hname]
    by_cases hout : beyondLimits vals s p
    · rw [if_pos ⟨hname, hout⟩, decide_eq_true hout]
      rfl
    · rw [if_neg fun h => hout h.2, decide_eq_false hout]
      rfl
  · rw [probeSample_of_other src vals s p hname, if_neg fun h => hname h.1]

/-! ## The probes in turn: no probe changes the settings of another -/

theorem probeSettings_probeSample (q : Nat) :
    (probeNames src (probeSample src vals s p) q ↔ probeNames src s q) ∧
    (beyondLimits vals (probeSample src vals s p) q ↔ beyondLimits vals s q) ∧
    probeTake vals (probeSample src vals s p) q = probeTake vals s q := by
  rw [probeSample_eq_with_mon_ev src vals s p]
  exact ⟨Iff.rfl, Iff.rfl, rfl⟩

variable (l : List Nat)

theorem foldl_probeSample_eq_with_mon_ev : l.foldl (probeSample src vals) s =
    { s with mon := (l.foldl (probeSample src vals) s).mon, ev := (l.foldl (probeSample src vals) s).ev } := by
  induction l generalizing s with
  | nil => rfl
  | cons p l ih =>
    rw [List.foldl_cons]
    refine (ih (probeSample src vals s p)).trans ?_
    generalize List.foldl (probeSample src vals) (probeSample src vals s p) l = t
    rw [probeSample_eq_with_mon_ev src vals s p]

theorem captureOf_foldl_of_untouched (q : Nat) (h : q ∉ l ∨ ¬ probeNames src s q) :
    captureOf (l.foldl (probeSample src vals) s) q = captureOf s q := by
  induction l generalizing s with
  | nil => rfl
  | cons p l ih =>
    obtain ⟨hnames, -, -⟩ := probeSettings_probeSample src vals s p q
    have hrest : q ∉ l ∨ ¬ probeNames src (probeSample src vals s p) q :=
      h.imp (fun hq hm => hq (List.mem_cons_of_mem p hm)) hnames.not.mpr
    have hfirst : ¬ (q = p ∧ probeNames src s p) := by
      rintro ⟨rfl, hname⟩
      exact h.elim (fun hq => hq List.mem_cons_self) fun hq => hq hname
    rw [List.foldl_cons, ih _ hrest, captureOf_probeSample, if_neg hfirst]

theorem captureOf_foldl_of_named (hl : l.Nodup) (hp : p ∈ l) (hname : probeNames src s p) :
    captureOf (l.foldl (probeSample src vals) s) p = probeTake vals s p (captureOf s p) := by
  induction l generalizing s with
  | nil => cases hp
  | cons q l ih =>
    obtain ⟨hq, hl⟩ := List.nodup_cons.mp hl
    obtain ⟨hnames, -, htake⟩ := probeSettings_probeSample src vals s q p
    rw [List.foldl_cons]
    obtain rfl | hp := List.mem_cons.mp hp
    · rw [captureOf_foldl_of_untouched src vals _ l p (.inl hq), captureOf_probeSample, if_pos ⟨rfl, hname⟩]
    · have hne : p ≠ q := fun h => hq (h ▸ hp)
      rw [ih _ hl hp (hnames.mpr hname), htake, captureOf_probeSample, if_neg fun h => hne h.1]

theorem foldl_probeSample_ev : (l.foldl (probeSample src vals) s).ev =
    if ∃ p ∈ l, probeNames src s p ∧ beyondLimits vals s p then (raise Ev.MON_LIMIT s).ev else s.ev := by
  induction l generalizing s with
  | nil => simp
  | cons p l ih =>
    have hsettings := probeSettings_probeSample src vals s p
    have hev := probeSample_ev src vals s p
    simp only [List.foldl_cons, ih, hsettings, List.exists_mem_cons_iff]
    by_cases hfirst : probeNames src s p ∧ beyondLimits vals s p
    · rw [if_pos hfirst] at hev
      rw [raise_ev_again _ hev, hev, ite_self, if_pos (Or.inl hfirst)]
    · rw [if_neg hfirst] at hev
      simp only [raise_ev_congr _ hev, hev, hfirst, false_or]
end

/-! ## All probes -/

theorem sample_of_off {src : Nat} {s : State} (vals : List Int)
    (h : src = 0 ∨ s.flow.mode = .rest ∨ powered s (sourceDomain src) = false) : sample src vals s = s :=
  if_pos (h.imp_right (Or.imp_right (by simp)))

theorem sample_of_on {src : Nat} {s : State} (vals : List Int) (hsrc : src ≠ 0) (hmode : s.flow.mode ≠ .rest)
    (hpower : powered s (sourceDomain src) = true) : sample src vals s = (List.range 16).foldl (probeSample src vals) s :=
  if_neg (by simp [hsrc, hmode, hpower])

/-- Settles O59: a named probe's capture takes the samples once, as `Capture.take` says; the event state and the frame are those of the fold
over the sixteen probes, none of which changes another's settings. -/
theorem probesSample : Obligations.ProbesSample := by
  intro s src vals hvals
  refine ⟨sample_of_off vals, fun hsrc hmode hpower => ?_⟩
  rw [sample_of_on vals hsrc hmode hpower]
  intro t names outside
  have hev : t.ev = if ∃ p ∈ List.range 16, names p ∧ outside p then (raise Ev.MON_LIMIT s).ev else s.ev :=
    foldl_probeSample_ev src vals s _
  simp only [List.mem_range] at hev
  refine ⟨fun p hp hname => ?_, fun p hname => captureOf_foldl_of_untouched src vals s _ p (.inr hname), fun hout => hev.trans (if_pos hout),
    fun hin => hev.trans (if_neg ?_), foldl_probeSample_eq_with_mon_ev src vals s _⟩
  · intro old new
    have hnew : new = probeTake vals s p old :=
      captureOf_foldl_of_named src vals s p _ List.nodup_range (List.mem_range.mpr hp) hname
    rw [hnew]
    obtain ⟨hminMem, hmin⟩ := old.take_min (fint s (Reg.MON_PROBE_LO_LIMIT_LO p)) (fget s (Reg.MON_PROBE_WIDTH_BIN_WIDTH p)) vals
    obtain ⟨hmaxMem, hmax⟩ := old.take_max (fint s (Reg.MON_PROBE_LO_LIMIT_LO p)) (fget s (Reg.MON_PROBE_WIDTH_BIN_WIDTH p)) vals
    obtain ⟨hlastMem, hlast⟩ := old.take_last (fint s (Reg.MON_PROBE_LO_LIMIT_LO p)) (fget s (Reg.MON_PROBE_WIDTH_BIN_WIDTH p)) hvals
    exact ⟨fun v hv => ⟨hmin v (.tail _ hv), hmax v (.tail _ hv), hlast v hv⟩, hmin _ List.mem_cons_self, hmax _ List.mem_cons_self,
      List.mem_cons.mp hminMem, List.mem_cons.mp hmaxMem, hlastMem, old.take_samples _ _ hvals, old.assocD_take_bins _ _ hvals⟩
  · rintro ⟨p, hp, hname, hout⟩
    exact hin p hp hname hout

end Sys2Proof.Machine
end

section
/-!
PROOFS. The step, the state after reset, and the canonical form of DRAM and the register file, which each command keeps by the lemma of its
operation.
-/

namespace Sys2Proof.Machine

theorem idle_canon {s : State} (hs : s.canonical) : (idle s).canonical := by
  unfold idle
  split
  · exact hs
  · split <;> simp [hs]

theorem execGatherComplete_canon {shot : Int} {margins : List Nat} {s t : State} (hs : s.canonical)
    (h : execGatherComplete shot margins s = .next t) : t.canonical := by
  cases h
  split <;> simp [hs]

theorem execBlockLanded_canon {c : Fin 8} {bytes : List Byte} {s t : State} (hs : s.canonical)
    (h : execBlockLanded c bytes s = .next t) : t.canonical := by
  cases h
  refine dmaGoesOn_canon _ ?_
  split
  · split <;> simp [hs]
  · exact hs

theorem execArmMissFrame_canon {p : Port} {f : CohFrame} {s t : State} (hs : s.canonical)
    (h : execArmMissFrame p f s = .next t) : t.canonical := by
  cases h
  refine onFrame_canon Kind.armMiss p f _ s hs fun u v hact hu => ?_
  subst hact
  split
  · split <;> simp [hu]
  · exact hu

/-- Two commands may stop with the fault of an absolute maximum (R522); every other command's next state is that of one operation on the
state, or of a few in a row, each of which keeps the canonical form. -/
theorem exec_canon {i : Instr} {s t : State} (hs : s.canonical) (h : exec i s = .next t) : t.canonical := by
  cases i
  case vinRecoveryCrossing mv => simp [← eq_of_unless_fault h, hs]
  case railSample mv => simp [← eq_of_unless_fault h, hs]
  case gatherComplete => exact execGatherComplete_canon hs h
  case blockLanded => exact execBlockLanded_canon hs h
  case armMissFrame => exact execArmMissFrame_canon hs h
  all_goals
    obtain rfl := Host.Outcome.next.inj h
    simp +contextual (maxDischargeDepth := 60) [hs]

/-- Settles O5: by the queue of the step. An empty queue's step is `idle`; any other runs one command, on a state that differs in its queue. -/
theorem stepKeepsCanonical : Obligations.StepKeepsCanonical := by
  intro s t hs h
  cases hq : s.pending with
  | nil =>
    obtain rfl := Host.Outcome.next.inj ((step_of_empty hq).symm.trans h)
    exact idle_canon hs
  | cons c rest => exact exec_canon (s := { s with pending := rest }) hs ((step_of_front hq).symm.trans h)

/-- Settles O1: the step of a queue is its front's, on the rest. -/
theorem stepRunsFront : Obligations.StepRunsFront := fun c rest s => step_of_front (s := { s with pending := c :: rest }) rfl

/-- Settles O4: nothing is listed. -/
theorem resetCanonical : Obligations.ResetCanonical := ⟨rfl, rfl⟩

theorem slotOf_reset (n : Fin 16) : slotOf State.reset n = Slot.zero :=
  List.getD_replicate (x := Slot.zero) (n := 16) (y := Slot.zero) n.isLt

set_option Elab.async false in
/-- Settles O3: nothing is listed among the registers and in DRAM, and the other fields are written out. -/
theorem resetState : Obligations.ResetState :=
  ⟨fun _ => rfl, rfl, rfl, rfl, rfl, rfl, slotOf_reset, fun _ => rfl⟩

end Sys2Proof.Machine
end

section
/-!
PROOFS. A mailbox request laid out by Tables 15-2 to 15-8 is read back as its command: first the parts of a payload and the numbers in
it, then the lists of a request, each with what its reader finds.
-/

namespace Sys2Proof.Machine

/-! ## Parts of a payload -/

/-- Bytes beyond the end of a payload read zero. -/
theorem slice_eq_map (p : List Byte) (off n : Nat) : slice p off n = (List.range n).map fun i => p.getD (off + i) 0 := by
  apply List.ext_getElem
  · simp [slice]
  · intro i h1 h2
    have hi : i < n := by simpa using h2
    simp only [slice, List.getElem_append, List.getElem_map, List.getElem_range, List.getElem_replicate, List.getD_eq_getElem?_getD]
    split
    case isTrue h =>
      have : off + i < p.length := by simp at h; omega
      simp [this]
    case isFalse h =>
      have : p.length ≤ off + i := by simp at h; omega
      simp [this]

/-- A slot holds the first 224 bytes of a payload. -/
theorem slice_slice {p : List Byte} {off n m : Nat} (h : off + n ≤ m) : slice (slice p 0 m) off n = slice p off n := by
  simp only [slice_eq_map p off n, slice_eq_map (slice p 0 m) off n]
  refine List.map_congr_left fun i hi => ?_
  have : off + i < m := by have := List.mem_range.mp hi; omega
  simp [slice_eq_map, this]

theorem slice_append_of_le {a : List Byte} (b : List Byte) {off : Nat} (n : Nat) (h : a.length ≤ off) :
    slice (a ++ b) off n = slice b (off - a.length) n := by
  simp [slice, List.drop_append, List.drop_eq_nil_of_le h]

theorem slice_self {a : List Byte} {n : Nat} (h : a.length = n) : slice a 0 n = a := by
  simp [slice, ← h]

theorem slice_append_self {a : List Byte} (b : List Byte) {n : Nat} (h : a.length = n) : slice (a ++ b) 0 n = a := by
  simp [slice, ← h]

theorem slice_of_end {p : List Byte} {off : Nat} (n : Nat) (h : p.length ≤ off) : slice p off n = List.replicate n 0 := by
  simp [slice, List.drop_eq_nil_of_le h]

/-! ## Numbers in a payload (R4) -/

theorem leNat_leBytes {n v : Nat} (h : v < 256 ^ n) : leNat (leBytes n v) = v := by
  induction n generalizing v with
  | zero => simp at h; simp [leBytes, leNat, h]
  | succ n ih =>
    have : v / 256 < 256 ^ n := Nat.div_lt_of_lt_mul (by rw [Nat.pow_succ] at h; omega)
    simp [leBytes, leNat, ih this]
    omega

theorem leNat_replicate (n : Nat) : leNat (List.replicate n 0) = 0 := by
  induction n with
  | zero => rfl
  | succ n ih => simpa [List.replicate_succ, leNat] using ih

theorem leBytes_zero (n : Nat) : leBytes n 0 = List.replicate n 0 := by
  induction n with
  | zero => rfl
  | succ n ih => simp [leBytes, ih, List.replicate_succ]

/-! ## Fields of a request -/

section
variable {p : List Byte} {off n : Nat}

@[simp] theorem leAt_slot (h : off + n ≤ 224) : leAt (slice p 0 224) off n = leAt p off n := by
  rw [leAt, slice_slice h, leAt]

@[simp] theorem zeroAt_slot (h : off + n ≤ 224) : zeroAt (slice p 0 224) off n = zeroAt p off n := by
  rw [zeroAt, slice_slice h, zeroAt]

@[simp] theorem leAt_of_end (h : p.length ≤ off) : leAt p off n = 0 := by
  rw [leAt, slice_of_end n h, leNat_replicate]

@[simp] theorem zeroAt_of_end (h : p.length ≤ off) : zeroAt p off n = true := by
  simp [zeroAt, slice_of_end n h]

@[simp] theorem leAt_append_of_le {a : List Byte} (h : a.length ≤ off) : leAt (a ++ p) off n = leAt p (off - a.length) n := by
  rw [leAt, slice_append_of_le p n h, leAt]

@[simp] theorem zeroAt_append_of_le {a : List Byte} (h : a.length ≤ off) : zeroAt (a ++ p) off n = zeroAt p (off - a.length) n := by
  rw [zeroAt, slice_append_of_le p n h, zeroAt]

@[simp] theorem leAt_leBytes_append {v : Nat} (h : v < 256 ^ n) : leAt (leBytes n v ++ p) 0 n = v := by
  rw [leAt, slice_append_self p (length_leBytes n v), leNat_leBytes h]

@[simp] theorem leAt_leBytes {v : Nat} (h : v < 256 ^ n) : leAt (leBytes n v) 0 n = v := by
  rw [leAt, slice_self (length_leBytes n v), leNat_leBytes h]

@[simp] theorem zeroAt_zeros_append : zeroAt (leBytes n 0 ++ p) 0 n = true := by
  rw [zeroAt, slice_append_self p (length_leBytes n 0)]
  simp [leBytes_zero]

@[simp] theorem zeroAt_zeros : zeroAt (leBytes n 0) 0 n = true := by
  rw [zeroAt, slice_self (length_leBytes n 0)]
  simp [leBytes_zero]

end

/-! ## Lists in a request (Tables 15-2, 15-4, 15-8) -/

section
variable {α : Type} {f : α → List Byte} {k : Nat}

/-- The part of one element in a list of parts of one size. -/
theorem slice_flatMap {o n : Nat} (hf : ∀ x, (f x).length = k) (hn : o + n ≤ k) (l : List α) {i : Nat} (hi : i < l.length) :
    slice (l.flatMap f) (k * i + o) n = slice (f l[i]) o n := by
  induction l generalizing i with
  | nil => simp at hi
  | cons x l ih =>
    cases i with
    | zero =>
      refine List.ext_getElem (by simp [slice_eq_map]) fun j hj _ => ?_
      have : j < n := by simpa [slice_eq_map] using hj
      simp [slice_eq_map, List.getElem?_append, hf, show o + j < k by omega]
    | succ i =>
      have hle : (f x).length ≤ k * (i + 1) + o := by rw [hf, Nat.mul_succ]; omega
      rw [List.flatMap_cons, slice_append_of_le _ _ hle, hf, show k * (i + 1) + o - k = k * i + o by rw [Nat.mul_succ]; omega]
      exact ih (by simpa using hi)

/-- The payload of a list: its count, three reserved bytes, and its elements. -/
def listBytes (f : α → List Byte) (l : List α) : List Byte := leBytes 1 l.length ++ leBytes 3 0 ++ l.flatMap f

theorem slice_listBytes {o n : Nat} (hf : ∀ x, (f x).length = k) (hn : o + n ≤ k) (l : List α) {i : Nat} (hi : i < l.length) :
    slice (listBytes f l) (4 + (k * i + o)) n = slice (f l[i]) o n := by
  rw [listBytes, slice_append_of_le _ _ (by simp), ← slice_flatMap hf hn l hi]
  congr 1
  simp

/-- A field of one element of a list, in the slot. -/
theorem leAt_listBytes {o n : Nat} (hf : ∀ x, (f x).length = k) (hn : o + n ≤ k) {l : List α} (hl : 4 + k * l.length ≤ 224) {i : Nat}
    (hi : i < l.length) : leAt (slice (listBytes f l) 0 224) (4 + (k * i + o)) n = leAt (f l[i]) o n := by
  have : k * i + k ≤ k * l.length := by rw [← Nat.mul_succ]; exact Nat.mul_le_mul_left k hi
  rw [leAt_slot (by omega), leAt, slice_listBytes hf hn l hi, leAt]

theorem zeroAt_listBytes {o n : Nat} (hf : ∀ x, (f x).length = k) (hn : o + n ≤ k) {l : List α} (hl : 4 + k * l.length ≤ 224) {i : Nat}
    (hi : i < l.length) : zeroAt (slice (listBytes f l) 0 224) (4 + (k * i + o)) n = zeroAt (f l[i]) o n := by
  have : k * i + k ≤ k * l.length := by rw [← Nat.mul_succ]; exact Nat.mul_le_mul_left k hi
  rw [zeroAt_slot (by omega), zeroAt, slice_listBytes hf hn l hi, zeroAt]

theorem leAt_listBytes_count {l : List α} (hl : l.length < 256) : leAt (slice (listBytes f l) 0 224) 0 1 = l.length := by
  rw [leAt_slot (by omega), listBytes, List.append_assoc, leAt_leBytes_append hl]

theorem zeroAt_listBytes_count (l : List α) : zeroAt (slice (listBytes f l) 0 224) 1 3 = true := by
  rw [zeroAt_slot (by omega), listBytes, List.append_assoc, zeroAt_append_of_le (by simp)]
  exact zeroAt_zeros_append

/-- A list whose reserved bytes are the second one of each element. -/
theorem listReserved_listBytes (hf : ∀ x, (f x).length = k) (hk : 2 ≤ k) (hz : ∀ x, zeroAt (f x) 1 1 = true) {l : List α}
    (hl : 4 + k * l.length ≤ 224) : listReserved (slice (listBytes f l) 0 224) k = true := by
  have hcount : l.length < 256 := by nlinarith
  simp only [listReserved, zeroAt_listBytes_count, leAt_listBytes_count hcount, Bool.true_and, List.all_eq_true, List.mem_range]
  intro i hi
  rw [show 5 + k * i = 4 + (k * i + 1) by omega, zeroAt_listBytes hf (by omega) hl hi, hz]

end

/-- The bytes of one register write. -/
def oneWriteBytes (w : RegWrite) : List Byte := leBytes 1 w.block ++ leBytes 1 0 ++ leBytes 2 w.offset ++ leBytes 4 w.value.toNat

/-- The bytes of one register name. -/
def oneRefBytes (e : RegRef) : List Byte := leBytes 1 e.block ++ leBytes 1 0 ++ leBytes 2 e.offset

/-- The bytes of one Beam Table entry. -/
def oneEntryBytes (e : Nat × DWord) : List Byte := leBytes 4 e.1 ++ leBytes 8 e.2.toNat

@[simp] theorem leAt_word_append (v : Word) (p : List Byte) : leAt (leBytes 4 v.toNat ++ p) 0 4 = v.toNat :=
  leAt_leBytes_append v.isLt

@[simp] theorem leAt_word (v : Word) : leAt (leBytes 4 v.toNat) 0 4 = v.toNat :=
  leAt_leBytes v.isLt

theorem leAt_oneWriteBytes {w : RegWrite} (hw : w.wf = true) :
    leAt (oneWriteBytes w) 0 1 = w.block ∧ leAt (oneWriteBytes w) 2 2 = w.offset ∧ leAt (oneWriteBytes w) 4 4 = w.value.toNat := by
  have hfits : w.block < 256 ∧ w.offset < 65536 := by simpa [RegWrite.wf, fits] using hw
  simp [oneWriteBytes, hfits]

theorem leAt_oneRefBytes {e : RegRef} (he : e.wf = true) : leAt (oneRefBytes e) 0 1 = e.block ∧ leAt (oneRefBytes e) 2 2 = e.offset := by
  have hfits : e.block < 256 ∧ e.offset < 65536 := by simpa [RegRef.wf, fits] using he
  simp [oneRefBytes, hfits]

theorem leAt_oneEntryBytes {e : Nat × DWord} (he : e.1 < 4294967296) :
    leAt (oneEntryBytes e) 0 4 = e.1 ∧ leAt (oneEntryBytes e) 4 8 = e.2.toNat := by
  simp [oneEntryBytes, he, e.2.isLt]

theorem writesAt_slot {ws : List RegWrite} (hlen : ws.length ≤ 27) (hwf : ∀ w ∈ ws, w.wf = true) :
    writesAt (slice (writeBytes ws) 0 224) = ws := by
  have hbytes : ∀ w, (oneWriteBytes w).length = 8 := by simp [oneWriteBytes]
  have hat := fun o n (hn : o + n ≤ 8) i => leAt_listBytes hbytes hn (show 4 + 8 * ws.length ≤ 224 by omega) (i := i)
  change writesAt (slice (listBytes oneWriteBytes ws) 0 224) = ws
  refine List.ext_getElem (by simp [writesAt, leAt_listBytes_count (f := oneWriteBytes) (l := ws) (by omega)]) fun i _ hi => ?_
  obtain ⟨hblock, hoffset, hvalue⟩ := leAt_oneWriteBytes (hwf _ (List.getElem_mem hi))
  have h6 : 6 + 8 * i = 4 + (8 * i + 2) := by omega
  have h8 : 8 + 8 * i = 4 + (8 * i + 4) := by omega
  have hfirst : leAt (slice (listBytes oneWriteBytes ws) 0 224) (4 + 8 * i) 1 = ws[i].block := (hat 0 1 (by omega) i hi).trans hblock
  simp [writesAt, wordAt, h6, h8, hat 2 2 (by omega) i hi, hat 4 4 (by omega) i hi, hfirst, hoffset, hvalue]

theorem refsAt_slot {rs : List RegRef} (hlen : rs.length ≤ 52) (hwf : ∀ e ∈ rs, e.wf = true) :
    refsAt (slice (refBytes rs) 0 224) = rs := by
  have hbytes : ∀ e, (oneRefBytes e).length = 4 := by simp [oneRefBytes]
  have hat := fun o n (hn : o + n ≤ 4) i => leAt_listBytes hbytes hn (show 4 + 4 * rs.length ≤ 224 by omega) (i := i)
  change refsAt (slice (listBytes oneRefBytes rs) 0 224) = rs
  refine List.ext_getElem (by simp [refsAt, leAt_listBytes_count (f := oneRefBytes) (l := rs) (by omega)]) fun i _ hi => ?_
  obtain ⟨hblock, hoffset⟩ := leAt_oneRefBytes (hwf _ (List.getElem_mem hi))
  have h6 : 6 + 4 * i = 4 + (4 * i + 2) := by omega
  have hfirst : leAt (slice (listBytes oneRefBytes rs) 0 224) (4 + 4 * i) 1 = rs[i].block := (hat 0 1 (by omega) i hi).trans hblock
  simp [refsAt, h6, hat 2 2 (by omega) i hi, hfirst, hoffset]

theorem beamsAt_slot {es : List (Nat × DWord)} (hlen : es.length ≤ 18) (hwf : ∀ e ∈ es, e.1 < 4294967296) :
    beamsAt (slice (entryBytes es) 0 224) = es := by
  have hbytes : ∀ e, (oneEntryBytes e).length = 12 := by simp [oneEntryBytes]
  have hat := fun o n (hn : o + n ≤ 12) i => leAt_listBytes hbytes hn (show 4 + 12 * es.length ≤ 224 by omega) (i := i)
  change beamsAt (slice (listBytes oneEntryBytes es) 0 224) = es
  refine List.ext_getElem (by simp [beamsAt, leAt_listBytes_count (f := oneEntryBytes) (l := es) (by omega)]) fun i _ hi => ?_
  obtain ⟨hbeam, hentry⟩ := leAt_oneEntryBytes (hwf _ (List.getElem_mem hi))
  have h8 : 8 + 12 * i = 4 + (12 * i + 4) := by omega
  have hfirst : leAt (slice (listBytes oneEntryBytes es) 0 224) (4 + 12 * i) 4 = es[i].1 := (hat 0 4 (by omega) i hi).trans hbeam
  simp [beamsAt, h8, hat 4 8 (by omega) i hi, hfirst, hentry]

theorem listReserved_writeBytes {ws : List RegWrite} (hlen : ws.length ≤ 27) : listReserved (slice (writeBytes ws) 0 224) 8 = true :=
  listReserved_listBytes (f := oneWriteBytes) (by simp [oneWriteBytes]) (by omega) (by simp [oneWriteBytes]) (by omega)

theorem listReserved_refBytes {rs : List RegRef} (hlen : rs.length ≤ 52) : listReserved (slice (refBytes rs) 0 224) 4 = true :=
  listReserved_listBytes (f := oneRefBytes) (by simp [oneRefBytes]) (by omega) (by simp [oneRefBytes]) (by omega)

theorem zeroAt_entryBytes (es : List (Nat × DWord)) : zeroAt (entryBytes es) 1 3 = true :=
  (zeroAt_slot (by omega)).symm.trans (zeroAt_listBytes_count (f := oneEntryBytes) es)

/-- The cell in place `i` of a list of CELL_IDs; beyond its end a payload reads zero. -/
theorem leAt_cells {ids : List Nat} (hids : ∀ c ∈ ids, c < 4294967296) (i : Nat) : leAt (ids.flatMap (leBytes 4)) (4 * i) 4 = ids.getD i 0 := by
  by_cases hi : i < ids.length
  · have := slice_flatMap (k := 4) (o := 0) (n := 4) (length_leBytes 4) (by omega) ids hi
    rw [leAt, ← Nat.add_zero (4 * i), this, ← leAt, leAt_leBytes (hids _ (List.getElem_mem hi))]
    simp [hi]
  · rw [leAt_of_end (by rw [length_flatMap_const (length_leBytes 4)]; omega)]
    simp [Nat.le_of_not_lt hi]

/-- The cells of a CELL_EVICT: a list of as many as it says, or a range. -/
theorem evict_slot {r : Req} {form n first last : Nat} {ids : List Nat}
    (hwf : (Instr.cellEvict r form n ids first last).wf = true) (hc : requestCarried (.cellEvict r form n ids first last) = true) :
    let p := slice (evictBytes form n ids first last) 0 224
    leAt p 0 1 = form ∧ leAt p 1 1 = n ∧ zeroAt p 2 2 = true ∧ ((List.range n).map fun i => leAt p (4 + 4 * i) 4) = ids ∧
      leAt p 4 4 = first ∧ leAt p 8 4 = last := by
  obtain ⟨hform, hn, hids, hfirst, hlast⟩ :
      form < 256 ∧ n < 256 ∧ (∀ c ∈ ids, c < 4294967296) ∧ first < 4294967296 ∧ last < 4294967296 := by
    simp [Instr.wf, fits] at hwf
    grind
  by_cases h0 : form = 0
  · obtain ⟨rfl, hcount, rfl, rfl⟩ : n = ids.length ∧ n ≤ 53 ∧ first = ids.getD 0 0 ∧ last = ids.getD 1 0 := by
      simpa [requestCarried, h0, and_assoc] using hc
    have hat : ∀ i, i < 55 → leAt (slice (evictBytes form ids.length ids (ids.getD 0 0) (ids.getD 1 0)) 0 224) (4 + 4 * i) 4 = ids.getD i 0 := by
      intro i hi
      rw [leAt_slot (by omega), evictBytes, if_pos h0, leAt_append_of_le (by simp), ← leAt_cells hids i]
      simp
    refine ⟨by simp [evictBytes, hform], by simp [evictBytes, hn], by simp [evictBytes],
      List.ext_getElem (by simp) fun i _ hi => ?_, hat 0 (by omega), hat 1 (by omega)⟩
    rw [List.getElem_map, List.getElem_range, hat i (by omega)]
    simp [hi]
  · obtain ⟨rfl, rfl⟩ : n = 0 ∧ ids = [] := by simpa [requestCarried, h0] using hc
    simp [evictBytes, h0, hform, hfirst, hlast]

/-! ## O6 -/

@[simp] theorem opcode_requestSlot (r : Req) (op : Nat) (p : List Byte) : (requestSlot r op p).opcode = op := rfl

@[simp] theorem payload_requestSlot (r : Req) (op : Nat) (p : List Byte) : (requestSlot r op p).payload = slice p 0 224 := rfl

/-- The common part of a request is read back. -/
@[simp] theorem reqOf_requestSlot (r : Req) (op : Nat) (p : List Byte) : reqOf r.slot (requestSlot r op p) true = r := by
  obtain ⟨slot, length, reservedZero⟩ := r
  cases reservedZero <;> rfl

set_option Elab.async false in
/-- Settles O6: the opcode gives the row; each field of the payload is read at the offset where the row's layout has it, lists by
their own lemmas. -/
theorem requestsRoundTrip : Obligations.RequestsRoundTrip := by
  intro i r op p hwf hc he
  cases i <;> cases he
  all_goals simp only [Instr.wf, fits, sized, Bool.and_eq_true, decide_eq_true_eq, List.all_eq_true, Nat.reducePow, beq_iff_eq] at hwf
  case eventAck mask seen =>
    have hmask : leAt (leBytes 12 mask.toNat ++ leBytes 4 seen) 0 12 = mask.toNat := leAt_leBytes_append mask.isLt
    simp [requestOf, systemRequest, hwf, hmask]
  case cfgWrite ws =>
    have hlen : ws.length ≤ 27 := by simpa [requestCarried] using hc
    simp [requestOf, systemRequest, writesAt_slot hlen hwf.2, listReserved_writeBytes hlen]
  case poke ws =>
    have hlen : ws.length ≤ 27 := by simpa [requestCarried] using hc
    simp [requestOf, diagRequest, writesAt_slot hlen hwf.2, listReserved_writeBytes hlen]
  case memStatus rs =>
    have hlen : rs.length ≤ 52 := by simpa [requestCarried] using hc
    simp [requestOf, memoryRequest, refsAt_slot hlen hwf.2, listReserved_refBytes hlen]
  case peek rs =>
    have hlen : rs.length ≤ 52 := by simpa [requestCarried] using hc
    simp [requestOf, diagRequest, refsAt_slot hlen hwf.2, listReserved_refBytes hlen]
  case regRead rs =>
    have hlen : rs.length ≤ 52 := by simpa [requestCarried] using hc
    simp [requestOf, diagRequest, refsAt_slot hlen hwf.2, listReserved_refBytes hlen]
  case beamSet es =>
    have hlen : es.length ≤ 18 := by simpa [requestCarried] using hc
    simp [requestOf, beamRequest, beamsAt_slot hlen hwf.2, zeroAt_entryBytes]
  case cellEvict form n ids first last =>
    obtain ⟨hform, hn, hzero, hids, hfirst, hlast⟩ := evict_slot (by simpa [Instr.wf, fits] using hwf) hc
    simp only [requestOf, jobRequest, opcode_requestSlot, payload_requestSlot, hform, hn, hzero, hids, hfirst, hlast, reqOf_requestSlot]
  case analogCal u a b c =>
    obtain ⟨⟨⟨rfl, rfl⟩, rfl⟩, rfl⟩ : ((u = 0 ∧ a = []) ∧ b = []) ∧ c = [] := by simpa [requestCarried] using hc
    simp [requestOf, beamRequest]
  case attest nonce kind =>
    simp [requestOf, securityRequest, slice_slice, slice_append_self _ hwf.1.2, hwf]
  case lifecycleSet target auth =>
    simp [requestOf, securityRequest, slice_slice, slice_append_of_le, slice_self hwf.2, hwf]
  case keyProvision =>
    simp [requestOf, securityRequest, slice_slice, slice_self hwf.2]
  all_goals simp [requestOf, systemRequest, jobRequest, beamRequest, memoryRequest, securityRequest, diagRequest, wordAt, hwf]

end Sys2Proof.Machine
end

section
/-!
PROOFS. Rules for a mailbox command that passes its checks: what acceptance leaves of registers, and when a state that its effect makes
is completed with nothing else changed.
-/

namespace Sys2Proof.Machine

/-! ## A command that passes its checks -/

/-- A command whose checks hold yields what its effect makes of the accepted state. -/
theorem yields_of_effect {i : Instr} {r : Req} {g : Gate} {eff : State → State} {s : State} {p : State → Prop}
    (hexec : exec i s = .next (runCommand r g eff s)) (h : Admitted s r g.op g.len g.moves) (heff : p (eff (accept r.slot s)))
    (hin : g.inRange = true := by rfl) (hallow : g.allowed = true := by rfl) (hmode : g.accepted = true := by rfl)
    (hon : g.needs.all (powered s) = true := by rfl) (hreach : g.reach = true := by rfl) : Yields i s p :=
  ⟨_, hexec.trans (congrArg Host.Outcome.next (runCommand_ok r g eff s h hin hallow hmode hon hreach)), heff⟩

theorem Admitted.orphan {s : State} {r : Req} {op len : Nat} {moves : Bool} (h : Admitted s r op len moves) : s.mail.orphan = false := by
  obtain ⟨_, _, _, _, _, ho⟩ := h
  exact ho

/-! ## Registers -/

theorem rget_regs_congr {s u : State} (h : u.regs = s.regs) (k : Nat) : rget u k = rget s k := by
  simp only [rget, h]

theorem fget_congr {s u : State} {f : Field} (h : rget u f.reg = rget s f.reg) : fget u f = fget s f := by
  simp only [fget, h]

/-- A bit of a field is written on what the field's register holds. -/
theorem rget_fputBit_congr {s u : State} {f : Field} (n : Nat) (b : Bool) (h : rget u f.reg = rget s f.reg) :
    rget (fputBit f n b u) f.reg = rget (fputBit f n b s) f.reg := by
  have hf : fget u f = fget s f := fget_congr h
  by_cases hbit : (fget s f).testBit n = b <;> simp [fputBit, fbitAt, hf, hbit, rget_fput, h]

/-- The BUSY bits after acceptance are those before it and the slot's own. -/
theorem rget_accept_mbx {s u : State} (n : Fin 16) (h : rget u Reg.MBX_STATE = rget s Reg.MBX_STATE) :
    rget (accept n u) Reg.MBX_STATE = rget (accept n s) Reg.MBX_STATE := by
  rw [rget_regs_congr (accept_regs n u), rget_regs_congr (accept_regs n s)]
  exact rget_fputBit_congr (f := Reg.MBX_STATE_BUSY) n.val true h

/-- Acceptance acts on BUSY alone: two states that read alike at a register do so after it. -/
theorem rget_accept_congr {s u : State} (n : Fin 16) {k : Nat} (hmbx : rget u Reg.MBX_STATE = rget s Reg.MBX_STATE)
    (hk : rget u k = rget s k) : rget (accept n u) k = rget (accept n s) k := by
  by_cases h : k = Reg.MBX_STATE
  · rw [h, rget_accept_mbx n hmbx]
  · rw [rget_accept n u k h, rget_accept n s k h, hk]

/-! ## Registers and DRAM kept -/

theorem dramKept_of_eq {s t : State} (h : t.dram = s.dram) : DramKept s t := fun a => by
  rw [dramByte, h, dramByte]

theorem RegsKept.trans {ks : List Nat} {s t u : State} (h : RegsKept ks s t) (h' : RegsKept ks t u) : RegsKept ks s u :=
  fun k hk => (h' k hk).trans (h k hk)

theorem RegsKept.mono {ks ls : List Nat} {s t : State} (h : RegsKept ks s t) (hsub : ks ⊆ ls) : RegsKept ls s t :=
  fun k hk => h k fun hin => hk (hsub hin)

theorem regsKept_of_eq {ks : List Nat} {s t : State} (h : t.regs = s.regs) : RegsKept ks s t := fun k _ => rget_regs_congr h k

theorem regsKept_accept (n : Fin 16) (s : State) : RegsKept [Reg.MBX_STATE] s (accept n s) :=
  fun k hk => rget_accept n s k (by simpa using hk)

theorem regsKept_complete (n : Fin 16) (st : Status) (p : List Byte) (s : State) : RegsKept [Reg.MBX_STATE] s (complete n st p s) :=
  fun k hk => rget_complete n st p s k (by simpa using hk)

/-- The registers that an effect leaves stand from before its acceptance until after its completion. -/
theorem regsKept_command {ks : List Nat} {s u : State} {n : Fin 16} {st : Status} {p : List Byte} (h : RegsKept ks (accept n s) u)
    (hmbx : Reg.MBX_STATE ∈ ks := by simp) : RegsKept ks s (complete n st p u) := by
  have hsub : [Reg.MBX_STATE] ⊆ ks := by simpa using hmbx
  exact ((regsKept_accept n s).mono hsub).trans (h.trans ((regsKept_complete n st p u).mono hsub))

/-! ## Completion -/

/-- The completion of a command whose effect has left the mailboxes as acceptance made them. -/
theorem answered_of_mail {s u : State} {n : Fin 16} {st : Status} {p : List Byte} (ho : s.mail.orphan = false)
    (hmail : u.mail = (accept n s).mail) : Answered s (complete n st p u) n st p :=
  complete_answers s u n st p (slotOf_congr (by rw [hmail]) n) (by rw [hmail, accept_orphan n s ho])

theorem status_inProgress {s u : State} {n : Fin 16} (h : u.mail = (accept n s).mail) :
    (slotOf u n).status = Status.inProgress.code := by
  rw [slotOf_congr (s := accept n s) (by rw [h]), slotOf_accept, if_pos rfl]
  rfl

/-- `v` is `u` but for the slot `n`, which stands as its acceptance in `s` has left it; `u` has the mailboxes of `s`. -/
structure AcceptedAs (n : Fin 16) (s u v : State) : Prop where
  rest : v = { u with mail := (accept n s).mail, regs := v.regs, pwr := { u.pwr with rest := { u.pwr.rest with due := none } } }
  regs : ∀ k, k ≠ Reg.MBX_STATE → rget v k = rget u k
  busy : rget v Reg.MBX_STATE = rget (accept n s) Reg.MBX_STATE
  mail : u.mail = s.mail
  idle : rget u Reg.MBX_STATE = rget s Reg.MBX_STATE

theorem AcceptedAs.completed {n : Fin 16} {s u v : State} (h : AcceptedAs n s u v) (st : Status) (p : List Byte)
    (ho : s.mail.orphan = false) : Answered s (complete n st p v) n st p ∧ SlotOnly u (complete n st p v) n := by
  have hmail : v.mail = (accept n s).mail := by rw [h.rest]
  have hov : v.mail.orphan = false := by rw [hmail, accept_orphan n s ho]
  refine ⟨answered_of_mail ho hmail, ?_, ?_, ?_⟩
  · have hrest := h.rest
    apply State.ext <;> simp <;> rw [hrest]
  · intro k hk
    have hk' : k ≠ Reg.MBX_STATE := by simpa using hk
    rw [rget_complete n st p v k hk', h.regs k hk']
  · intro m hm
    have hslot : slotOf v m = slotOf u m := by
      rw [slotOf_congr (s := accept n s) (by rw [hmail]) m, slotOf_accept, if_neg hm, slotOf_congr (s := s) (t := u) (by rw [h.mail]) m]
    have hbusy : slotBusy v m = slotBusy u m := by
      have hv : slotBusy v m = slotBusy (accept n s) m := by simp only [slotBusy, fbitAt, fget_congr (f := Reg.MBX_STATE_BUSY) h.busy]
      have hu : slotBusy u m = slotBusy s m := by simp only [slotBusy, fbitAt, fget_congr (f := Reg.MBX_STATE_BUSY) h.idle]
      rw [hv, slotBusy_accept, if_neg hm, hu]
    rw [slotOf_complete n st p v hov, slotBusy_complete n st p v hov, if_neg hm, if_neg hm]
    exact ⟨hslot, hbusy⟩

theorem acceptedAs_self (n : Fin 16) (s : State) : AcceptedAs n s s (accept n s) :=
  ⟨accept_eq n s, rget_accept n s, rfl, rfl, rfl⟩

/-- A change of other parts of the state than registers, mailboxes and power. -/
theorem AcceptedAs.of_regs {n : Fin 16} {s u v : State} (hu : u.mail = s.mail ∧ u.regs = s.regs) (hv : v.regs = (accept n s).regs)
    (hrest : v = { u with mail := (accept n s).mail, regs := v.regs, pwr := { u.pwr with rest := { u.pwr.rest with due := none } } }) :
    AcceptedAs n s u v := by
  obtain ⟨hmail, hregs⟩ := hu
  exact ⟨hrest, fun k hk => by rw [rget_regs_congr hv, rget_accept n s k hk, rget_regs_congr hregs], rget_regs_congr hv _, hmail,
    rget_regs_congr hregs _⟩

/-- A register other than MBX_STATE is written as acceptance leaves it. -/
theorem acceptedAs_fput (n : Fin 16) (s : State) (f : Field) (v : Nat) (h : f.reg ≠ Reg.MBX_STATE) :
    AcceptedAs n s (fput f v s) (fput f v (accept n s)) := by
  refine ⟨?_, fun k hk => ?_, ?_, by simp, ?_⟩
  · apply State.ext <;> simp [accept_pwr]
  · simp only [rget_fput, rget_accept n s k hk, rget_accept n s f.reg h]
  · rw [rget_fput, if_neg (Ne.symm h)]
  · rw [rget_fput, if_neg (Ne.symm h)]

/-- A command whose checks hold, and whose effect on the accepted state ends in its completion. -/
theorem completes_of_command {i : Instr} {r : Req} {g : Gate} {eff : State → State} {st : Status} {p : List Byte} {s u v : State}
    (hexec : exec i s = .next (runCommand r g eff s)) (h : Admitted s r g.op g.len g.moves)
    (heff : eff (accept r.slot s) = complete r.slot st p v) (hv : AcceptedAs r.slot s u v) (hin : g.inRange = true := by rfl)
    (hallow : g.allowed = true := by rfl) (hmode : g.accepted = true := by rfl) (hon : g.needs.all (powered s) = true := by rfl)
    (hreach : g.reach = true := by rfl) : Completes i s r.slot st p u :=
  yields_of_effect hexec h (by rw [heff]; exact hv.completed st p h.orphan) hin hallow hmode hon hreach

/-! ## Completions of other slots -/

/-- The mailboxes of `t` are those of `s` with some commands completed: a slot keeps what its command's acceptance wrote. -/
structure Completing (s t : State) : Prop where
  orphan : s.mail.orphan = false → t.mail.orphan = false
  ctag : ∀ n, (slotOf t n).ctag = (slotOf s n).ctag
  lastAlive : ∀ n, (slotOf t n).lastAlive = (slotOf s n).lastAlive
  calive : ∀ n, (slotOf t n).calive = (slotOf s n).calive

theorem completing_of_mail {s t : State} (h : t.mail = s.mail) : Completing s t := by
  have hslot := slotOf_congr (s := s) (t := t) (by rw [h])
  exact ⟨fun ho => h ▸ ho, fun n => by rw [hslot], fun n => by rw [hslot], fun n => by rw [hslot]⟩

theorem Completing.trans {s t u : State} (h : Completing s t) (h' : Completing t u) : Completing s u :=
  ⟨fun ho => h'.orphan (h.orphan ho), fun n => (h'.ctag n).trans (h.ctag n), fun n => (h'.lastAlive n).trans (h.lastAlive n),
    fun n => (h'.calive n).trans (h.calive n)⟩

/-- What follows a part that leaves the mailboxes alone. -/
theorem Completing.of_mail {s t u : State} (h : Completing s t) (hu : u.mail = t.mail) : Completing s u :=
  h.trans (completing_of_mail hu)

theorem completing_complete (n : Fin 16) (st : Status) (p : List Byte) (s : State) : Completing s (complete n st p s) := by
  by_cases ho : s.mail.current = some n ∧ s.mail.orphan = true
  · have hmail : (complete n st p s).mail.slots = s.mail.slots ∧ (complete n st p s).mail.orphan = false := by
      simp [complete, ho]
    have hslot := slotOf_congr hmail.1
    exact ⟨fun _ => hmail.2, fun m => by rw [hslot], fun m => by rw [hslot], fun m => by rw [hslot]⟩
  · have hmail : (complete n st p s).mail.slots = updAt Slot.zero s.mail.slots n.val (fun sl => sl.completed st p) ∧
        (complete n st p s).mail.orphan = s.mail.orphan := by
      unfold complete
      rw [if_neg ho, freeCurrent_slots]
      unfold freeCurrent
      split <;> simp [updSlot]
    have hslot : ∀ m, slotOf (complete n st p s) m = if m = n then (slotOf s n).completed st p else slotOf s m := fun m =>
      (slotOf_congr (s := updSlot n (fun sl => sl.completed st p) s) hmail.1 m).trans (slotOf_updSlot s n m _)
    have hkept : ∀ m, (slotOf (complete n st p s) m).ctag = (slotOf s m).ctag ∧
        (slotOf (complete n st p s) m).lastAlive = (slotOf s m).lastAlive ∧
        (slotOf (complete n st p s) m).calive = (slotOf s m).calive := by
      intro m
      rw [hslot]
      split
      case isTrue h => subst h; exact ⟨rfl, rfl, rfl⟩
      case isFalse => exact ⟨rfl, rfl, rfl⟩
    exact ⟨fun h => hmail.2.trans h, fun m => (hkept m).1, fun m => (hkept m).2.1, fun m => (hkept m).2.2⟩

theorem completing_foldl {β : Type} {g : State → β → State} (h : ∀ s x, Completing s (g s x)) (l : List β) (s : State) :
    Completing s (l.foldl g s) := by
  induction l generalizing s with
  | nil => exact completing_of_mail rfl
  | cons x l ih => exact (h s x).trans (ih _)

set_option Elab.async false in
/-- A command is answered although its effect has completed others. -/
theorem answered_of_completing {s u : State} {n : Fin 16} {st : Status} {p : List Byte} (ho : s.mail.orphan = false)
    (h : Completing (accept n s) u) : Answered s (complete n st p u) n st p := by
  have hou := h.orphan (accept_orphan n s ho)
  have hslot := slotOf_complete n st p u hou n
  have haccept := slotOf_accept n s n
  rw [if_pos rfl] at hslot haccept
  have hctag := h.ctag n
  have hlast := h.lastAlive n
  have hcalive := h.calive n
  rw [haccept] at hctag hlast hcalive
  refine ⟨?_, ?_, ?_, ?_, ?_, ?_, by rw [slotBusy_complete n st p u hou, if_pos rfl]⟩
  all_goals rw [hslot]
  · rfl
  · rfl
  · rfl
  · exact hctag
  · exact hlast
  · exact hcalive

end Sys2Proof.Machine
end

section
/-!
PROOFS. NOP, EVENT_TEST, SUPPLY_CFG, STORED_CFG and REST_ENTER: each effect is one that acceptance does not disturb.
-/

namespace Sys2Proof.Machine

theorem acceptedAs_raise (n : Fin 16) (e : Nat) (s : State) : AcceptedAs n s (raise e s) (raise e (accept n s)) :=
  .of_regs ⟨rfl, rfl⟩ rfl (by rw [accept_eq]; rfl)

theorem acceptedAs_storedOrder (n : Fin 16) (o : Nat) (s : State) :
    AcceptedAs n s { s with hbm := { s.hbm with storedOrder := o } }
      { accept n s with hbm := { (accept n s).hbm with storedOrder := o } } :=
  .of_regs ⟨rfl, rfl⟩ rfl (by rw [accept_eq])

/-- Settles O8: by the five commands' effects; the entry of REST_ENTER is due after its own acceptance, which cancels an earlier one. -/
theorem systemCommandsComplete : Obligations.SystemCommandsComplete := by
  refine ⟨fun r s => ⟨fun h => ?_, fun h => ?_, fun a h ha => ?_⟩, fun r s => ⟨fun o h ho hmode => ?_, fun d h hlo hhi hrest => ?_⟩⟩
  · exact completes_of_command rfl h rfl (acceptedAs_self _ _)
  · exact completes_of_command rfl h rfl (acceptedAs_raise _ _ _)
  · exact completes_of_command rfl h (by rw [fget_accept _ _ _ (by decide)]) (acceptedAs_fput _ _ _ _ (by decide)) (decide_eq_true ha)
  · have hm : modeIn s [.ready, .service] = true := by simpa [modeIn] using hmode
    have horder : fget (accept r.slot s) Reg.HBM_MAP_CFG_ORDER = fget s Reg.HBM_MAP_CFG_ORDER := fget_accept _ _ _ (by decide)
    exact ⟨completes_of_command rfl h (by rw [← horder]; rfl) (acceptedAs_storedOrder _ _ _) (by simp [ho]) rfl hm,
      completes_of_command rfl h (by simp [← horder]) (acceptedAs_self _ _) (by simp [ho]) rfl hm⟩
  · refine yields_of_effect rfl h ?_ (decide_eq_true ⟨hlo, hhi⟩) rfl hrest
    obtain ⟨hanswer, hslot⟩ := (acceptedAs_self r.slot s).completed .ok [] h.orphan
    refine ⟨hanswer, by simp [updRest], ?_⟩
    convert hslot using 1
    apply State.ext <;> simp [updRest, accept_pwr]
end Sys2Proof.Machine
end

section
/-!
PROOFS. EVENT_ACK: the bits it clears, which acceptance does not change, and the latches that their clearing releases (R360). SERVICE_ENTER
and SERVICE_EXIT.
-/

namespace Sys2Proof.Machine
/-! ## Conditions of kind C, and acceptance -/

theorem fbit_accept (n : Fin 16) (s : State) (f : Field) (h : f.reg ≠ Reg.MBX_STATE) : fbit (accept n s) f = fbit s f := by
  rw [fbit, fget_accept n s f h, fbit]

theorem hasCause_accept (n : Fin 16) (s : State) (k : Nat) : hasCause (accept n s) k = hasCause s k := by simp [hasCause]

theorem axisValid_accept (n : Fin 16) (s : State) (a : Axis) : axisValid (accept n s) a = axisValid s a := by
  cases a <;> exact fbit_accept n s _ (by decide)

theorem chanState_accept (n : Fin 16) (s : State) (c : Nat) : chanState (accept n s) c = chanState s c :=
  fget_accept n s _ (show 0xA0104 + 0x80 * c ≠ 0x0F060 by omega)

theorem anyStalled_accept (n : Fin 16) (s : State) : anyStalled (accept n s) = anyStalled s := by
  simp only [anyStalled, chanState_accept]

theorem stagingWaits_accept (n : Fin 16) (s : State) : stagingWaits (accept n s) = stagingWaits s := by
  simp [stagingWaits, stagingOn]

theorem clockUnlocked_accept (n : Fin 16) (s : State) : clockUnlocked (accept n s) = clockUnlocked s := by
  simp (disch := decide) only [clockUnlocked, fbit_accept, powered_accept]

theorem inCohort_accept (n : Fin 16) (s : State) : inCohort (accept n s) = inCohort s := by
  simp (disch := decide) [inCohort, cohMembers, fget_accept]

theorem ringWhole_accept (n : Fin 16) (s : State) : ringWhole (accept n s) = ringWhole s := by
  simp (disch := decide) only [ringWhole, rget_accept]

theorem masterBit_accept (n : Fin 16) (s : State) : masterBit (accept n s) = masterBit s := by
  simp (disch := decide) only [masterBit, storedField, storedReg, rget_accept, powered_accept, accept_pwr]

theorem isMaster_accept (n : Fin 16) (s : State) : isMaster (accept n s) = isMaster s := by
  simp (disch := decide) only [isMaster, masterBit_accept, fget_accept]

theorem saysMaster_accept (n : Fin 16) (s : State) (i : Nat) : saysMaster (accept n s) i = saysMaster s i := by
  simp (disch := decide) [saysMaster, isMaster_accept, cohOwn, peer, fget_accept]

theorem masterCount_accept (n : Fin 16) (s : State) : masterCount (accept n s) = masterCount s := by
  simp (disch := decide) only [masterCount, saysMaster_accept, reachable, rget_accept]

theorem timeUnaligned_accept (n : Fin 16) (s : State) : timeUnaligned (accept n s) = timeUnaligned s := by
  simp only [timeUnaligned, inCohort_accept, isMaster_accept, accept_frame]

theorem conditionHolds_accept (n : Fin 16) (s : State) (k : Nat) : conditionHolds (accept n s) k = conditionHolds s k := by
  have hbit := fun f hf => fbit_accept n s f hf
  have hfield := fun f hf => fget_accept n s f hf
  obtain ⟨-, -, -, -, -, hdma, -, -, -, -, -, -, -, -, hpos, -, -, hout, -, habs, -, -, -, -, htim, -, hmon, -⟩ := accept_frame s n
  have hvalid : axisValid (accept n s) = axisValid s := funext fun a => axisValid_accept n s a
  rw [conditionHolds, conditionHolds, hasCause_accept, hvalid, anyStalled_accept, stagingWaits_accept, clockUnlocked_accept,
    inCohort_accept, ringWhole_accept, timeUnaligned_accept, masterCount_accept, hbit Reg.PWR_STATUS_WARN (by decide),
    hbit Reg.ABS_STATUS_RESERVE (by decide), hbit Reg.HBM_STATUS_HOT (by decide), hbit Reg.TIM_STATUS_REF_EN (by decide),
    hbit Reg.COH_STATUS_EAST_UP (by decide), hbit Reg.COH_STATUS_WEST_UP (by decide), hfield Reg.HBM_FENCE_CHANNELS (by decide),
    hfield Reg.PWR_RAIL_WARN_RAILS (by decide), hdma, hpos, hout, habs, htim, hmon]

/-! ## The bits cleared -/

/-- The bits that a test picks from a list, set one after another. -/
theorem getLsbD_foldl_or {w : Nat} (p : Nat → Bool) (l : List Nat) (m : BitVec w) {n : Nat} (hn : n < w) :
    (l.foldl (fun m n => if p n then m ||| (1 : BitVec w) <<< n else m) m).getLsbD n = (m.getLsbD n || (l.contains n && p n)) := by
  induction l generalizing m with
  | nil => simp
  | cons x l ih =>
    have hbit : (if p x then m ||| (1 : BitVec w) <<< x else m).getLsbD n = (m.getLsbD n || (n == x && p n)) := by
      by_cases hx : n = x
      · subst hx
        cases hp : p n <;> simp [hn]
      · have hone : ((1 : BitVec w) <<< x).getLsbD n = false := by simp; omega
        split
        · rw [BitVec.getLsbD_or, hone]
          simp [hx]
        · simp [*]
    rw [List.foldl_cons, ih, hbit, List.contains_cons, Bool.or_assoc, ← Bool.and_or_distrib_right]

theorem getLsbD_clearedBits (s : State) (mask : BitVec 96) (seen : Nat) {n : Nat} (hn : n < 96) :
    (clearedBits s mask seen).getLsbD n = ackClears s mask seen n := by
  rw [clearedBits, getLsbD_foldl_or (ackClears s mask seen) _ _ hn, List.contains_iff_mem.mpr (List.mem_range.mpr hn)]
  simp

theorem clearedBits_accept (n : Fin 16) (s : State) (mask : BitVec 96) (seen : Nat) :
    clearedBits (accept n s) mask seen = clearedBits s mask seen := by
  have hclears : ackClears (accept n s) mask seen = ackClears s mask seen := funext fun k => by
    simp [ackClears, shownBy, conditionHolds_accept]
  simp only [clearedBits, hclears]

/-! ## What their clearing releases -/

/-- An acknowledgement releases latches and Hold causes, and stores CINCH in OUT_STATUS. -/
structure Released (s t : State) : Prop where
  mail : t.mail = s.mail
  ev : t.ev = s.ev
  mode : t.flow.mode = s.flow.mode
  dram : t.dram = s.dram
  regs : RegsKept [Reg.OUT_STATUS] s t

theorem released_refl (s : State) : Released s s := ⟨rfl, rfl, rfl, rfl, fun _ _ => rfl⟩

theorem Released.trans {s t u : State} (h : Released s t) (h' : Released t u) : Released s u :=
  ⟨h'.mail.trans h.mail, h'.ev.trans h.ev, h'.mode.trans h.mode, h'.dram.trans h.dram, fun k hk => (h'.regs k hk).trans (h.regs k hk)⟩

theorem released_clearCause (n : Nat) (s : State) : Released s (clearCause n s) := ⟨rfl, rfl, rfl, rfl, fun _ _ => rfl⟩

theorem rget_fputStored (f : Field) (v : Nat) (s : State) (k : Nat) (h : k ≠ f.reg) : rget (fputStored f v s) k = rget s k := by
  simp only [fputStored]
  split
  · rw [rget_fput, if_neg h]
  · rfl

theorem released_ackActs (n : Nat) (s : State) : Released s (ackActs n s) := by
  unfold ackActs
  split_ifs
  · refine Released.trans ⟨?_, ?_, ?_, ?_, fun k hk => ?_⟩ (released_clearCause _ _)
    · simp
    · simp
    · simp
    · simp
    · exact rget_fputStored _ _ s k (by simpa using hk)
  · exact ⟨rfl, rfl, rfl, rfl, fun _ _ => rfl⟩
  · exact released_clearCause _ s
  · exact released_refl s
  · exact released_clearCause _ s
  · exact released_refl s

theorem released_clearEvents (m : BitVec 96) (s : State) :
    Released { s with ev := { s.ev with bits := s.ev.bits &&& ~~~m } } (clearEvents m s) := by
  unfold clearEvents
  generalize (List.range 96).filter _ = l
  generalize ({ s with ev := { s.ev with bits := s.ev.bits &&& ~~~m } } : State) = u
  induction l generalizing u with
  | nil => exact released_refl u
  | cons x l ih => exact (released_ackActs x u).trans (ih _)

/-! ## Leaving Service -/

theorem completing_dropStarts (s : State) : Completing s (dropStarts s) := by
  unfold dropStarts
  refine Completing.trans ?_ (completing_foldl (fun s p => completing_complete (Prod.snd p) .aborted [] s) _ _)
  exact completing_of_mail rfl

theorem completing_stopChecks (s : State) : Completing s (stopChecks s) := by
  have hbefore : Completing s (dropLocate (endCheckRun s)) := completing_of_mail (by simp)
  refine (hbefore.trans (completing_dropStarts _)).of_mail ?_
  simp [stopChecks]

theorem completing_leaveService (s : State) : Completing s (leaveService s) :=
  (completing_stopChecks s).of_mail (by simp [leaveService])

theorem leaveService_mode (s : State) : (leaveService s).flow.mode = .ready := by
  simp [leaveService]

/-! ## O9 -/

set_option Elab.async false in
/-- Settles O9: a cleared bit is one that `ackClears` holds of; the effects of the three commands leave their own slot as accepted. -/
theorem eventsClearAndServiceEnters : Obligations.EventsClearAndServiceEnters := by
  refine ⟨fun r s mask seen h heven hlater => ⟨fun n hn => getLsbD_clearedBits s mask seen hn, ?_⟩,
    fun r s => ⟨fun h hmode hjob => ?_, fun h hmode hruns => ?_, fun h hmode hruns => ?_⟩⟩
  · refine yields_of_effect rfl h ?_ (by simp [heven, hlater])
    obtain ⟨hmail, hev, hmd, hdram, hregs⟩ := released_clearEvents (clearedBits s mask seen) (accept r.slot s)
    dsimp only
    rw [clearedBits_accept]
    refine ⟨?_, ?_, ?_, ?_, ?_⟩
    · simpa using answered_of_mail h.orphan hmail
    · simp [hev]
    · simp [hmd]
    · exact dramKept_of_eq (by simp)
    · exact regsKept_command (hregs.mono (by simp))
  · exact completes_of_command rfl h rfl (.of_regs ⟨rfl, rfl⟩ rfl (by rw [accept_eq])) rfl rfl (by simp [inState, hmode, hjob])
  · refine yields_of_effect rfl h ?_ rfl rfl (by simp [hmode])
    rw [if_neg (by simpa [testRuns] using hruns)]
    exact ⟨by simp [leaveService_mode], answered_of_completing h.orphan (completing_leaveService _), dramKept_of_eq (by simp)⟩
  · refine yields_of_effect rfl h ?_ rfl rfl (by simp [hmode])
    rw [if_pos (by simpa [testRuns] using hruns)]
    exact ⟨by simpa using hmode, rfl, status_inProgress rfl, by simp, regsKept_accept r.slot s, dramKept_of_eq (by simp)⟩
end Sys2Proof.Machine
end

section
/-!
PROOFS. Votes of domains that other clients hold (R465): casting and withdrawing one changes its bit, what is being raised and what has
failed, and nothing else.
-/

namespace Sys2Proof.Machine

/-! ## A bit of a field, in its register -/

theorem testBit_rget_fputBit (s : State) (f : Field) (hf : f.ok = true) {n : Nat} (hn : n < f.hi - f.lo + 1) (b : Bool) (i : Nat) :
    (rget (fputBit f n b s) f.reg).toNat.testBit i = if i = f.lo + n then b else (rget s f.reg).toNat.testBit i := by
  have hbit : fbitAt s f n = (rget s f.reg).toNat.testBit (f.lo + n) := by
    rw [fbitAt, fget, testBit_bits]
    simp [hn, Nat.add_comm]
  have hok := hf
  simp only [Field.ok, decide_eq_true_eq] at hok
  unfold fputBit
  split
  case isTrue h =>
    split
    case isTrue hi => rw [hi, ← hbit, h]
    case isFalse => rfl
  case isFalse h =>
    rw [rget_fput, if_pos rfl, Field.testBit_put f hf, Nat.testBit_xor, Nat.testBit_two_pow, fget, testBit_bits]
    by_cases hi : i = f.lo + n
    · subst hi
      rw [if_pos (by omega), if_pos rfl]
      rw [hbit] at h
      simp [hn, Nat.add_comm n]
      cases b <;> simp_all
    · rw [if_neg hi]
      split
      case isTrue hin =>
        have hne : n ≠ i - f.lo := by omega
        simp [hne, show i - f.lo < f.hi - f.lo + 1 by omega, show i - f.lo + f.lo = i by omega]
      case isFalse => rfl

/-- A bit put back as it was. -/
theorem rget_fputBit_back {s u : State} {f : Field} (hf : f.ok = true) {n : Nat} (hn : n < f.hi - f.lo + 1) {b : Bool}
    (hs : fbitAt s f n = b) (hu : rget u f.reg = rget (fputBit f n (!b) s) f.reg) :
    rget (fputBit f n b u) f.reg = rget s f.reg := by
  apply BitVec.eq_of_toNat_eq
  apply Nat.eq_of_testBit_eq
  intro i
  rw [testBit_rget_fputBit u f hf hn, hu, testBit_rget_fputBit s f hf hn]
  split
  case isTrue hi =>
    rw [← hs, fbitAt, fget, testBit_bits, hi]
    simp [hn, Nat.add_comm]
  case isFalse => rfl

/-! ## What votes leave -/

theorem beginRaise_eq (d : Nat) (s : State) : beginRaise d s = { s with pwr := (beginRaise d s).pwr } := by
  unfold beginRaise
  split <;> rfl

theorem raiseDomain_eq (d : Nat) (s : State) : raiseDomain d s = { s with pwr := (raiseDomain d s).pwr } := by
  unfold raiseDomain
  dsimp only
  split
  · exact beginRaise_eq d s
  split
  · rw [beginRaise_eq, beginRaise_eq d s]
  split
  · rw [beginRaise_eq, beginRaise_eq _ (beginRaise d s), beginRaise_eq d s]
  · rw [beginRaise_eq, beginRaise_eq _ (beginRaise _ (beginRaise d s)), beginRaise_eq _ (beginRaise d s), beginRaise_eq d s]

theorem voteAnew_eq (d c : Nat) (s : State) : voteAnew d c s = { s with pwr := (voteAnew d c s).pwr } := by
  unfold voteAnew
  split <;> rfl

theorem noteWithdrawn_eq (d c : Nat) (s : State) : noteWithdrawn d c s = { s with pwr := (noteWithdrawn d c s).pwr } := by
  unfold noteWithdrawn
  split <;> rfl

theorem settleDrop_of_voted {n d : Nat} {s : State} (h : votes s d ≠ 0) : settleDrop n d s = s := by
  cases n <;> simp [settleDrop, h]

/-! ## A domain that another client holds -/

/-- A client other than `c` votes for domain `d`. -/
def HeldBeside (s : State) (c d : Nat) : Prop := ∃ b, b ≠ c ∧ (votes s d).testBit b = true

theorem votes_congr {s u : State} {d : Nat} (h : rget u (Reg.PWR_VOTE d) = rget s (Reg.PWR_VOTE d)) : votes u d = votes s d :=
  fget_congr (f := Reg.PWR_VOTE_VOTES d) h

theorem heldBeside_congr {s u : State} {c d : Nat} (h : rget u (Reg.PWR_VOTE d) = rget s (Reg.PWR_VOTE d)) :
    HeldBeside u c d ↔ HeldBeside s c d := by
  rw [HeldBeside, HeldBeside, votes_congr h]

/-- A client that does not vote for a domain with votes leaves it held without its own. -/
theorem heldBeside_of_votes {s : State} {c d : Nat} (h : votes s d ≠ 0) (hc : (votes s d).testBit c = false) : HeldBeside s c d := by
  obtain ⟨b, hb⟩ := Nat.exists_testBit_of_ne_zero h
  exact ⟨b, fun hbc => by simp [← hbc, hb] at hc, hb⟩

theorem votes_fputBit_same (s : State) (d : Nat) {c b : Nat} (hc : c < 8) (on : Bool) :
    (votes (fputBit (Reg.PWR_VOTE_VOTES d) c on s) d).testBit b = if b = c then on else (votes s d).testBit b :=
  fbitAt_fputBit s (Reg.PWR_VOTE_VOTES d) rfl c hc on b

theorem heldBeside_fputBit {s : State} {c d : Nat} (hc : c < 8) (on : Bool) (h : HeldBeside s c d) (e : Nat) :
    HeldBeside (fputBit (Reg.PWR_VOTE_VOTES e) c on s) c d := by
  by_cases he : d = e
  · subst he
    obtain ⟨b, hb, hbit⟩ := h
    exact ⟨b, hb, by rw [votes_fputBit_same s d hc, if_neg hb, hbit]⟩
  · exact (heldBeside_congr (rget_fputBit s _ c on _ (show 0x120040 + 0x4 * d ≠ 0x120040 + 0x4 * e by omega))).mpr h

/-- Registers and power apart, `t` is `s`. -/
def RegsAndPwr (s t : State) : Prop := t = { s with regs := t.regs, pwr := t.pwr }

theorem RegsAndPwr.trans {s t u : State} (h : RegsAndPwr s t) (h' : RegsAndPwr t u) : RegsAndPwr s u := by
  unfold RegsAndPwr at *
  rw [h', h]

theorem RegsAndPwr.keeps {s t : State} (h : RegsAndPwr s t) :
    t.mail = s.mail ∧ t.flow = s.flow ∧ t.ev = s.ev ∧ t.dram = s.dram ∧ t.job = s.job := by
  unfold RegsAndPwr at h
  rw [h]
  exact ⟨rfl, rfl, rfl, rfl, rfl⟩

theorem regsAndPwr_fputBit (f : Field) (n : Nat) (b : Bool) (s : State) : RegsAndPwr s (fputBit f n b s) := by
  apply State.ext <;> simp

theorem setVote_of_held {s : State} {c d : Nat} (hc : c < 8) (h : HeldBeside s c d) (on : Bool) :
    RegsAndPwr s (setVote d c on s) ∧ (setVote d c on s).regs = (fputBit (Reg.PWR_VOTE_VOTES d) c on s).regs := by
  have hput := regsAndPwr_fputBit (Reg.PWR_VOTE_VOTES d) c on s
  have hpwr : ∀ {t : State} (p : Pwr), t = { fputBit (Reg.PWR_VOTE_VOTES d) c on s with pwr := p } →
      RegsAndPwr s t ∧ t.regs = (fputBit (Reg.PWR_VOTE_VOTES d) c on s).regs := by
    rintro t p rfl
    exact ⟨hput.trans rfl, rfl⟩
  unfold setVote
  dsimp only
  split
  case isTrue hon =>
    rw [raiseDomain_eq]
    split
    case isTrue => exact hpwr _ rfl
    case isFalse =>
      rw [voteAnew_eq]
      exact hpwr _ rfl
  case isFalse hoff =>
    split
    case isTrue =>
      obtain ⟨b, hb, hbit⟩ := heldBeside_fputBit hc on h d
      have hvotes : votes (noteWithdrawn d c (fputBit (Reg.PWR_VOTE_VOTES d) c on s)) d ≠ 0 := by
        rw [noteWithdrawn_eq]
        intro hzero
        have hz : votes (fputBit (Reg.PWR_VOTE_VOTES d) c on s) d = 0 := hzero
        simp [hz] at hbit
      rw [settleDrop_of_voted hvotes, noteWithdrawn_eq]
      exact hpwr _ rfl
    case isFalse => exact hpwr _ rfl

theorem heldBeside_setVote {s : State} {c d : Nat} (hc : c < 8) (on : Bool) (h : HeldBeside s c d) {e : Nat} (he : HeldBeside s c e) :
    HeldBeside (setVote d c on s) c e :=
  (heldBeside_congr (rget_regs_congr (setVote_of_held hc h on).2 _)).mpr (heldBeside_fputBit hc on he d)

set_option Elab.async false in
/-- Votes for domains that others hold change registers and power alone, and leave them held. -/
theorem setVotes_of_held {c : Nat} (hc : c < 8) (on : Bool) (ds : List Nat) {s : State} (h : ∀ d ∈ ds, HeldBeside s c d) :
    RegsAndPwr s (setVotes ds c on s) ∧ ∀ e, HeldBeside s c e → HeldBeside (setVotes ds c on s) c e := by
  induction ds generalizing s with
  | nil => exact ⟨rfl, fun _ he => he⟩
  | cons d ds ih =>
    have hd := h d List.mem_cons_self
    obtain ⟨hrest, hheld⟩ := ih (s := setVote d c on s) fun e he => heldBeside_setVote hc on hd (h e (List.mem_cons_of_mem d he))
    exact ⟨(setVote_of_held hc hd on).1.trans hrest, fun e he => hheld e (heldBeside_setVote hc on hd he)⟩

end Sys2Proof.Machine
end

section
/-! PROOFS. Register writes: the RAS_ and PEC_ blocks have no rule of their own, so a write stores the RW bits (R5), under a vote or without (O10). -/
namespace Sys2Proof.Machine

theorem Answered.congr {s t u : State} {n : Fin 16} {st : Status} {p : List Byte} (h : Answered s t n st p) (hmail : u.mail = t.mail)
    (hbusy : rget u Reg.MBX_STATE = rget t Reg.MBX_STATE) : Answered s u n st p := by
  have hb : slotBusy u n = slotBusy t n := by simp only [slotBusy, fbitAt, fget_congr (f := Reg.MBX_STATE_BUSY) hbusy]
  have hslot : slotOf u n = slotOf t n := slotOf_congr (by rw [hmail]) n
  simpa only [Answered, hslot, hb] using h

section
variable {k : Nat} (hk : k / 65536 = 0x04 ∨ k / 65536 = 0x05)
include hk

theorem ne_of_ras {j : Nat} (hj : j < 0x40000 ∨ 0x60000 ≤ j) : k ≠ j := by omega

theorem isStaging_of_ras : isStaging k = false := by
  have hne := fun {j} => ne_of_ras hk (j := j)
  have hstage : ∀ n < 16, k ≠ Reg.GTH_BT_STAGE_IDX n ∧ k ≠ Reg.GTH_BT_STAGE_LO n ∧ k ≠ Reg.GTH_BT_STAGE_HI n := fun n hn =>
    ⟨hne (.inl (show 0x30100 + 0x10 * n < 0x40000 by omega)), hne (.inl (show 0x30104 + 0x10 * n < 0x40000 by omega)),
      hne (.inl (show 0x30108 + 0x10 * n < 0x40000 by omega))⟩
  simp +contextual [isStaging, hstage, hne (j := Reg.GTH_BT_SUM) (by decide), hne (j := Reg.GTH_BT_CMD) (by decide)]

theorem afterStore_of_ras (s : State) : afterStore k s = s := by
  have hne : ∀ js : List Nat, (∀ j ∈ js, j < 0x40000 ∨ 0x60000 ≤ j) → js.contains k = false := fun js hjs =>
    Bool.eq_false_iff.mpr fun hin => ne_of_ras hk (hjs k (List.contains_iff_mem.mp hin)) rfl
  have hchan : ((List.range 6).any fun n => k == Reg.MOT_CH_CFG n) = false := by
    simp
    intro n hn
    exact ne_of_ras hk (.inr (show 0x60000 ≤ 0xA0100 + 0x80 * n by omega))
  have hmaster : ¬ (k = Reg.MOT_CHOREO ∨ k = Reg.COH_CFG) := by
    simpa using hne [Reg.MOT_CHOREO, Reg.COH_CFG] (by decide)
  have habs : k ≠ Reg.ABS_CFG := ne_of_ras hk (by decide)
  simp only [afterStore, hne digestRegs (by decide), hne _ (show ∀ j ∈ [Reg.POS_CFG, Reg.POS_JITTER, Reg.POS_VEL, Reg.POS_PWS_CFG], _ by decide),
    hchan, hmaster, habs, Bool.false_eq_true, if_false]

/-- RAS_ and PEC_ registers have no rule of their own: a write stores the RW bits (R5). -/
theorem writeReg_of_ras (wr : Writer) (v : Word) (s : State) : writeReg wr k v s = storeRw k v s := by
  have hne := fun {j} => ne_of_ras hk (j := j)
  unfold writeReg
  rw [isStaging_of_ras hk, if_neg (by decide), if_neg (hne (by decide)), if_neg (hne (by decide)), if_neg (hne (by decide)),
    if_neg (hne (by decide)), if_neg (hne (by decide)), if_neg (hne (by decide)), if_neg (hne (by decide))]
  obtain h | h := hk <;> simp only [h] <;> exact afterStore_of_ras (by omega) _

end

/-- What a register holds once a word is written to it: the word's RW bits, and its own others (R5). -/
theorem rget_storeRw (k : Nat) (v : Word) (s : State) (j : Nat) : rget (storeRw k v s) j =
    if j = k then (rget s k &&& ~~~(codeBits RegDesc.rw k)) ||| (v &&& codeBits RegDesc.rw k) else rget s j :=
  rget_rset _ _ _ _

theorem storeRw_eq (k : Nat) (v : Word) (s : State) : storeRw k v s = { s with regs := (storeRw k v s).regs } := rfl

/-- The domain of a RAS_ or PEC_ block, held by a vote of a client, or by a vote of another. -/
theorem unheld_ras {b c : Nat} (hb : b = 0x04 ∨ b = 0x05) (s : State) :
    unheld c [b] s = if (votes s Dom.RAST).testBit c then [] else [Dom.RAST] := by
  have hd : blockDomain b = Dom.RAST := by obtain rfl | rfl := hb <;> rfl
  cases hbit : (votes s Dom.RAST).testBit c <;> simp [unheld, hd, List.eraseDups_cons, hbit, Dom.RAST]

theorem votes_accept (n : Fin 16) (s : State) (d : Nat) : votes (accept n s) d = votes s d :=
  fget_accept n s (Reg.PWR_VOTE_VOTES d) (show 0x120040 + 0x4 * d ≠ 0x0F060 by omega)

theorem writeRegs_ras {b off : Nat} (hb : b = 0x04 ∨ b = 0x05) (hoff : off < 65536) (w : Word) (s : State) :
    writeRegs [⟨b, off, w⟩] s = storeRw (b * 65536 + off) w s := by
  have hk : (b * 65536 + off) / 65536 = 0x04 ∨ (b * 65536 + off) / 65536 = 0x05 := by omega
  simp [writeRegs, isStaging_of_ras hk, writeReg_of_ras hk]

section
variable {b off : Nat} {w : Word} {c : Nat} {n : Fin 16} {s : State} (hb : b = 0x04 ∨ b = 0x05) (hoff : off < 65536) (hc : c < 8)
  (hvotes : votes s Dom.RAST ≠ 0)
include hb hoff hc hvotes

/-- One write to a register of a RAS_ or PEC_ block under a client's vote: the register alone has changed when the vote is back as it was. -/
theorem holding_ras (ho : s.mail.orphan = false) :
    let k := b * 65536 + off
    let t := holding c [b] (fun s => complete n .ok [1] (writeRegs [⟨b, off, w⟩] s)) (accept n s)
    Answered s t n .ok [1] ∧ rget t k = (rget s k &&& ~~~(codeBits RegDesc.rw k)) ||| (w &&& codeBits RegDesc.rw k) ∧
      RegsKept [k, Reg.MBX_STATE] s t ∧ t.flow = s.flow ∧ t.ev = s.ev ∧ DramKept s t := by
  intro k t
  have hmbx : k ≠ Reg.MBX_STATE := show b * 65536 + off ≠ 0x0F060 by omega
  have hvote : k ≠ Reg.PWR_VOTE Dom.RAST := show b * 65536 + off ≠ 0x120050 by omega
  have hstored : ∀ {u : State} {j : Nat}, rget u k = rget s k → rget u j = rget s j → rget (storeRw k w u) j = rget (storeRw k w s) j := by
    intro u j hk hj
    rw [rget_storeRw, rget_storeRw, hk, hj]
  suffices h : Answered s t n .ok [1] ∧ (∀ j, j ≠ Reg.MBX_STATE → rget t j = rget (storeRw k w s) j) ∧ t.flow = s.flow ∧ t.ev = s.ev ∧
      t.dram = s.dram by
    obtain ⟨hanswer, hregs, hflow, hev, hdram⟩ := h
    refine ⟨hanswer, by rw [hregs k hmbx, rget_storeRw, if_pos rfl], fun j hj => ?_, hflow, hev, dramKept_of_eq hdram⟩
    obtain ⟨hjk, hj⟩ : j ≠ k ∧ j ≠ Reg.MBX_STATE := by simpa using hj
    rw [hregs j hj, rget_storeRw, if_neg hjk]
  have ht : t = holding c [b] (fun s => complete n .ok [1] (storeRw k w s)) (accept n s) := by
    simp only [t, writeRegs_ras hb hoff, k]
  rw [ht, holding, unheld_ras hb, votes_accept]
  cases hbit : (votes s Dom.RAST).testBit c with
  | true =>
    refine ⟨answered_of_mail ho rfl, fun j hj => ?_, ?_, ?_, ?_⟩
    · simp only [if_true, setVotes, List.foldl_nil]
      rw [rget_complete _ _ _ _ _ hj]
      exact hstored (rget_accept _ _ _ hmbx) (rget_accept _ _ _ hj)
    all_goals simp [setVotes]
  | false =>
    simp only [Bool.false_eq_true, if_false, setVotes, List.foldl_cons, List.foldl_nil]
    have hheld : HeldBeside (accept n s) c Dom.RAST :=
      heldBeside_of_votes (by rwa [votes_accept]) (by rwa [votes_accept])
    obtain ⟨hcast, hcastRegs⟩ := setVote_of_held hc hheld true
    have hheld' := heldBeside_setVote hc true hheld hheld
    generalize setVote Dom.RAST c true (accept n s) = u at *
    have hu : ∀ {j}, j ≠ Reg.MBX_STATE → j ≠ Reg.PWR_VOTE Dom.RAST → rget u j = rget s j := fun hj hv => by
      rw [rget_regs_congr hcastRegs, rget_fputBit _ _ _ _ _ hv, rget_accept _ _ _ hj]
    have hv : ∀ {j}, j ≠ Reg.MBX_STATE → rget (complete n .ok [1] (storeRw k w u)) j = rget (storeRw k w u) j := fun hj =>
      rget_complete _ _ _ _ _ hj
    have hheld'' : HeldBeside (complete n .ok [1] (storeRw k w u)) c Dom.RAST :=
      (heldBeside_congr (by rw [hv (by decide), rget_storeRw, if_neg (Ne.symm hvote)])).mpr hheld'
    obtain ⟨hdrop, hdropRegs⟩ := setVote_of_held hc hheld'' false
    obtain ⟨hmail, hflow, hev, hdram, -⟩ := hcast.keeps
    obtain ⟨hmail', hflow', hev', hdram', -⟩ := hdrop.keeps
    refine ⟨?_, fun j hj => ?_, ?_, ?_, ?_⟩
    · refine (answered_of_mail ho (u := storeRw k w u) hmail).congr hmail' ?_
      rw [rget_regs_congr hdropRegs, rget_fputBit _ _ _ _ _ (by decide)]
    rotate_left
    · rw [hflow']; exact (by simp : _ = u.flow).trans (hflow.trans (by simp))
    · rw [hev']; exact (by simp : _ = u.ev).trans (hev.trans (by simp))
    · rw [hdram']; exact (by simp : _ = u.dram).trans (hdram.trans (by simp))
    · rw [rget_regs_congr hdropRegs]
      by_cases hjv : j = Reg.PWR_VOTE Dom.RAST
      · rw [hjv, rget_storeRw, if_neg (Ne.symm hvote)]
        refine rget_fputBit_back (f := Reg.PWR_VOTE_VOTES Dom.RAST) rfl hc hbit ?_
        rw [hv (by decide), rget_storeRw, if_neg (Ne.symm hvote), rget_regs_congr hcastRegs]
        exact rget_fputBit_congr c true (rget_accept n s _ (by decide))
      · rw [rget_fputBit _ _ _ _ _ hjv, hv hj]
        exact hstored (hu hmbx hvote) (hu hj hjv)

end

theorem writable_off {b off : Nat} (h : writable b off = true) : refExists b off = true ∧ off < 65536 := by
  simp only [writable, refExists, Bool.and_eq_true, decide_eq_true_eq] at h ⊢
  exact ⟨h.1, h.1.1.2.2⟩

/-- Settles O10: the vote that `holding` casts and takes back leaves the register file as it was, so a write shows in its register alone. -/
theorem registerWritesStore : Obligations.RegisterWritesStore := by
  intro r s b off v w hb hwritable hon k stored
  obtain ⟨hexists, hoff⟩ := writable_off hwritable
  have hk : k / 65536 = 0x04 ∨ k / 65536 = 0x05 := by omega
  have hd : blockDomain b = Dom.RAST := by obtain rfl | rfl := hb <;> rfl
  have hne := fun {j} => ne_of_ras hk (j := j)
  refine ⟨⟨_, rfl, ?_⟩, fun hvotes h hm hv => ?_, fun hvotes h hm hv => ?_⟩
  · have hwrite : registerWrite (.block ⟨b, off⟩) v s = storeRw k (v.extractLsb' 0 32) s := by
      simp only [registerWrite, blockAccess, hexists, hd, hon, blockDo, if_true, Bool.not_true, Bool.false_eq_true, if_false]
      exact writeReg_of_ras hk _ _ s
    rw [hwrite]
    exact ⟨by rw [rget_storeRw, if_pos rfl], fun j hj => by rw [rget_storeRw, if_neg (by simpa using hj)], rfl⟩
  · have hcfg : cfgBlocks.contains b = true := by obtain rfl | rfl := hb <;> rfl
    have hmap : (b * 65536 + off != Reg.HBM_MAP_CFG) = true := bne_iff_ne.mpr (hne (by decide))
    refine yields_of_effect rfl h (holding_ras hb hoff (by decide) hvotes h.orphan) (by simp [hv]) rfl ?_ (by simp [hd, hon]) ?_
    · have : serviceOnly ⟨b, off, w⟩ = false := by
        simp [serviceOnly]
        exact ⟨hne (by decide), hne (by decide), hne (by decide)⟩
      simp [hm, this]
    · simp only [List.all_cons, List.all_nil, Bool.and_true, cfgReach, hcfg, hwritable, isStaging_of_ras hk, hmap, Bool.not_false, k]
  · have hall : debugAllowed s [b] = true := by
      have hblock : ¬ 0x11 = b := by omega
      simp [debugAllowed, hm, hblock]
    exact yields_of_effect rfl h (holding_ras hb hoff (by decide) hvotes h.orphan) (by simp [hv]) hall rfl (by simp [hd, hon]) (by simp [hwritable])

end Sys2Proof.Machine
end

section
/-!
PROOFS. Lists of registers: CFG_WRITE and POKE make their writes under a vote, and PEEK, REG_READ and MEM_STATUS read under one (O11).
-/

namespace Sys2Proof.Machine

theorem rget_rset64 {lo hi v j : Nat} {s : State} (hlo : j ≠ lo) (hhi : j ≠ hi) : rget (rset64 lo hi v s) j = rget s j := by
  rw [rset64, rget_rset_other _ _ _ _ hhi, rget_rset_other _ _ _ _ hlo]

/-! ## Reads leave the votes -/

theorem rget_readCapture_of_le (k : Nat) {j : Nat} (hj : 0x120000 ≤ j) (s : State) : rget (readCapture k s) j = rget s j := by
  have hne : ∀ {i}, i < 0x120000 → j ≠ i := by omega
  unfold readCapture
  split
  · rw [posYLoCapture, rget_rset64 (hne (by decide)) (hne (by decide)), rget_rset64 (hne (by decide)) (hne (by decide)),
      rget_rset64 (hne (by decide)) (hne (by decide)), rget_rset64 (hne (by decide)) (hne (by decide))]
  split
  · rw [timNsCapture, rget_fput, if_neg (hne (by decide)), rget_fput, if_neg (hne (by decide)), rget_fput, if_neg (hne (by decide))]
  split
  case h_1 u hu =>
    have hlt : u < 4 := List.mem_range.mp (List.mem_of_find?_eq_some hu)
    have hstatus : j ≠ (Reg.CHK_UNIT_STATUS_QUEUED u).reg := hne (show 0xE002C + 0x40 * u < _ by omega)
    unfold chkCapture
    split
    · rfl
    split
    · rw [rget_fput, if_neg hstatus]; rfl
    split
    · rw [rget_fput, if_neg hstatus]
    · rfl
  case h_2 => rfl

/-- A vote register has no RC bits. -/
theorem rget_rcClear_vote (k : Nat) {d : Nat} (hd : d < 7) (s : State) : rget (rcClear k s) (Reg.PWR_VOTE d) = rget s (Reg.PWR_VOTE d) := by
  have hrc : ∀ d < 7, codeBits RegDesc.rc (Reg.PWR_VOTE d) = 0 := by decide
  unfold rcClear
  dsimp only
  split
  · rfl
  · rw [rget_rset_other]
    rintro rfl
    simp_all

theorem rget_readRegs_vote (ks : List Nat) {d : Nat} (hd : d < 7) (s : State) :
    rget (readRegs ks s).1 (Reg.PWR_VOTE d) = rget s (Reg.PWR_VOTE d) := by
  induction ks generalizing s with
  | nil => rfl
  | cons k ks ih =>
    exact (ih _).trans ((rget_rcClear_vote k hd _).trans (rget_readCapture_of_le k (show _ ≤ 0x120040 + 0x4 * d by omega) s))

/-! ## A list under a vote -/

theorem mem_unheld {c d : Nat} {blocks : List Nat} {s : State} (h : d ∈ unheld c blocks s) :
    d < 7 ∧ 2 ≤ d ∧ (∃ b ∈ blocks, blockDomain b = d) ∧ (votes s d).testBit c = false := by
  simp only [unheld, List.mem_filter, List.mem_eraseDups, List.mem_map, Bool.and_eq_true, decide_eq_true_eq, Bool.not_eq_true'] at h
  obtain ⟨⟨b, hb, rfl⟩, h2, hbit⟩ := h
  refine ⟨?_, h2, ⟨b, hb, rfl⟩, hbit⟩
  unfold blockDomain
  split <;> decide

/-- Where votes hold the domains of the blocks, those that a client is to hold itself are held beside it. -/
theorem heldBeside_unheld {c : Nat} {blocks : List Nat} {s : State} (hv : Voted s blocks) (n : Fin 16) :
    ∀ d ∈ unheld c blocks (accept n s), HeldBeside (accept n s) c d := by
  intro d hd
  obtain ⟨-, h2, ⟨b, hb, rfl⟩, hbit⟩ := mem_unheld hd
  refine heldBeside_of_votes ?_ hbit
  rw [votes_accept]
  exact (hv b hb).resolve_left (by omega)

theorem rget_setVotes_of_held {c : Nat} (hc : c < 8) (on : Bool) {ds : List Nat} {s : State} (h : ∀ d ∈ ds, HeldBeside s c d) {j : Nat}
    (hj : ∀ d ∈ ds, j ≠ Reg.PWR_VOTE d) : rget (setVotes ds c on s) j = rget s j := by
  induction ds generalizing s with
  | nil => rfl
  | cons d ds ih =>
    have hd := h d List.mem_cons_self
    refine (ih (s := setVote d c on s) (fun e he => heldBeside_setVote hc on hd (h e (List.mem_cons_of_mem d he)))
      fun e he => hj e (List.mem_cons_of_mem d he)).trans ?_
    rw [rget_regs_congr (setVote_of_held hc hd on).2, rget_fputBit _ _ _ _ _ (hj d List.mem_cons_self)]

/-- A list of registers read under the diagnostics vote: the mailbox is answered, and registers and votes apart nothing else changes. -/
theorem holding_readList {s : State} {n : Fin 16} {refs : List RegRef} (ho : s.mail.orphan = false) (hv : Voted s (refs.map (·.block))) :
    let held := setVotes (unheld Client.diag (refs.map (·.block)) (accept n s)) Client.diag true (accept n s)
    let t := holding Client.diag (refs.map (·.block)) (readList n refs) (accept n s)
    Answered s t n .ok (wordBytes (readRegs (refs.map RegRef.key) held).2) ∧ DramKept s t ∧ t.flow = s.flow ∧ t.ev = s.ev ∧ t.job = s.job := by
  intro held t
  have hheld := heldBeside_unheld (c := Client.diag) hv n
  obtain ⟨hcast, hkept⟩ := setVotes_of_held (by decide) true _ hheld
  have hread : ∀ d ∈ unheld Client.diag (refs.map (·.block)) (accept n s), HeldBeside (readList n refs held) Client.diag d := by
    intro d hd
    refine (heldBeside_congr ?_).mpr (hkept d (hheld d hd))
    rw [readList, rget_complete _ _ _ _ _ (show 0x120040 + 0x4 * d ≠ 0x0F060 by omega), rget_readRegs_vote _ (mem_unheld hd).1]
  obtain ⟨hmail, -, hev, -, -⟩ := hcast.keeps
  obtain ⟨hmail', hflow', hev', hdram', hjob'⟩ := (setVotes_of_held (by decide) false _ hread).1.keeps
  refine ⟨?_, dramKept_of_eq (hdram'.trans ?_), hflow'.trans ?_, hev'.trans ?_, hjob'.trans ?_⟩
  · refine (answered_of_mail ho (u := (readRegs (refs.map RegRef.key) held).1) (by rw [readRegs_mail, hmail])).congr hmail' ?_
    exact rget_setVotes_of_held (by decide) false hread fun d _ => show 0x0F060 ≠ 0x120040 + 0x4 * d by omega
  · simp [readList, held]
  · simp [readList, held]
  · simp [readList, held, hev]
  · simp [readList, held]

/-- Settles O11: a vote for a domain that another client holds changes its own bit alone, and no read changes a vote. -/
theorem registerListsAreServed : Obligations.RegisterListsAreServed := by
  constructor
  · intro r s ws h1 h27 hok hon
    refine ⟨fun h hm hs hreach => ?_, fun h hallow hreach => ?_⟩
    · refine yields_of_effect rfl h rfl (by simp [h1, h27, hok]) rfl ?_ (by simpa using hon) hreach
      obtain hs | hs := hs <;> simp [hm, hs]
    · exact yields_of_effect rfl h rfl (by simp [h1, h27, hok]) hallow rfl (by simpa using hon) hreach
  · intro r s refs h1 h52 hex held read
    have hlist : listOk refs = true := by simp [listOk, h1, h52]
    refine ⟨fun h hallow hon hv => ?_, fun h hsec hon hv => ?_, fun h hblock hon => ?_⟩
    · exact yields_of_effect rfl h (holding_readList h.orphan hv) hlist hallow rfl (by simpa using hon) hex
    · refine yields_of_effect rfl h (holding_readList h.orphan hv) hlist rfl rfl (by simpa using hon) ?_
      simp_all
    · refine yields_of_effect rfl h ⟨answered_of_mail h.orphan (readRegs_mail _ _), ?_⟩ hlist rfl rfl (by simp [hon]) ?_
      · exact ⟨dramKept_of_eq (by simp [readList]), by simp [readList], by simp [readList], by simp [readList]⟩
      · simp_all

end Sys2Proof.Machine
end

section
/-!
PROOFS. O12 fails at the check-value units: a read of a unit's count is answered after the unit has folded what it had queued (R402), so the
read changes the unit beside the registers.
-/

namespace Sys2Proof.Machine

/-- The module after reset with the Proctor's domain powered and one byte in the queue of check-value unit 0. -/
def oneByteQueued : State := fput Reg.PWR_STATUS_DOMAINS 2 { State.reset with chk := [⟨0, 0, 1⟩] }

/-- The read of the unit's count leaves no byte in its queue. -/
theorem countRead_empties_queue :
    (registerRead (.block ⟨0x0E, 0x28⟩) oneByteQueued).chk = [⟨0, 0, 0⟩] := by decide

set_option Elab.async false in
/-- Refutes O12: a read of CHK_UNIT_COUNT changes what the unit holds queued, and not the registers alone. -/
theorem not_registerSideEffects : ¬ Obligations.RegisterSideEffects := by
  intro ⟨hread, _⟩
  obtain ⟨t, hexec, _, _, hframe⟩ := (hread oneByteQueued 0x0E 0x28 (by decide) (by decide)).1 (by decide) (by decide)
  have ht : registerRead (.block ⟨0x0E, 0x28⟩) oneByteQueued = t := Host.Outcome.next.inj hexec
  have hkept : t.chk = [⟨0, 0, 1⟩] := congrArg State.chk hframe
  rw [← ht, countRead_empties_queue] at hkept
  exact absurd hkept (by decide)

end Sys2Proof.Machine
end

section
/-!
PROOFS. Which registers the shared operations leave, and JOB_START (O14).
-/

namespace Sys2Proof.Machine

/-! ## Registers that an operation leaves -/

theorem regsKept_rset {ks : List Nat} {k : Nat} (h : k ∈ ks) (v : Word) (s : State) : RegsKept ks s (rset k v s) :=
  fun _ hj => rget_rset_other s _ _ v fun e => hj (e ▸ h)

theorem regsKept_fput {ks : List Nat} {f : Field} (h : f.reg ∈ ks) (v : Nat) (s : State) : RegsKept ks s (fput f v s) :=
  regsKept_rset h _ s

theorem regsKept_fputBit {ks : List Nat} {f : Field} (h : f.reg ∈ ks) (n : Nat) (b : Bool) (s : State) : RegsKept ks s (fputBit f n b s) :=
  fun _ hj => rget_fputBit s f n b _ fun e => hj (e ▸ h)

theorem RegsKept.fget {ks : List Nat} {s t : State} (h : RegsKept ks s t) {f : Field} (hf : f.reg ∉ ks) : fget t f = fget s f :=
  fget_congr (h _ hf)

theorem RegsKept.fbit {ks : List Nat} {s t : State} (h : RegsKept ks s t) {f : Field} (hf : f.reg ∉ ks) : fbit t f = fbit s f := by
  rw [Machine.fbit, Machine.fbit, h.fget hf]

theorem RegsKept.fbitAt {ks : List Nat} {s t : State} (h : RegsKept ks s t) {f : Field} (hf : f.reg ∉ ks) (n : Nat) :
    fbitAt t f n = fbitAt s f n := by
  rw [Machine.fbitAt, Machine.fbitAt, h.fget hf]

theorem fbit_fput_other (s : State) (f g : Field) (v : Nat) (h : g.reg ≠ f.reg) : fbit (fput f v s) g = fbit s g := by
  rw [fbit, fbit, fget_fput_other s f g v h]

theorem fbit_fput_beside (s : State) (f g : Field) (hf : f.ok = true) (v : Nat) (h : g.hi < f.lo ∨ f.hi < g.lo)
    (hg : g.lo ≤ g.hi) : fbit (fput f v s) g = fbit s g := by
  rw [fbit, fbit, fget_fput_beside s f g hf v h hg]

/-- A field of one bit, once it is set or cleared. -/
theorem fbit_fput (s : State) (f : Field) (hf : f.ok = true) (hw : f.hi = f.lo) (v : Nat) : fbit (fput f v s) f = (v % 2 == 1) := by
  rw [fbit, fget_fput_same s f hf, hw]
  simp

/-! ## EXPOSE_EN and the stage -/

theorem regsKept_exposeOn (s : State) : RegsKept [Reg.OUT_STATUS] s (exposeOn s) := by
  unfold exposeOn
  split
  · exact fun _ _ => rfl
  · exact (regsKept_fput (by simp) _ _).trans (regsKept_fput (by simp) _ _)

theorem regsKept_ownStage (s : State) : RegsKept [Reg.MOT_CH_STATUS 0, Reg.MOT_CH_STATUS 1] s (ownStage s) :=
  RegsKept.trans (t := fput (Reg.MOT_CH_STATUS_OWNED 1) 1 _) (regsKept_fput (by simp) _ _) (regsKept_fput (by simp) _ _)

theorem openWindow_regs (i : Nat) (s : State) : (openWindow i s).regs = s.regs := by
  unfold openWindow
  split <;> rfl

theorem fbit_exposeOn (s : State) :
    fbit (exposeOn s) Reg.OUT_STATUS_EXPOSE_EN = (fbit s Reg.OUT_STATUS_EXPOSE_EN || !(tapHolds s || logicRuns s)) := by
  unfold exposeOn
  split
  case isTrue h => simp [h]
  case isFalse h =>
    rw [fbit_fput_beside _ _ _ rfl _ (by decide) (by decide), fbit_fput _ _ rfl rfl]
    change ((if tapHolds s || logicRuns s then 0 else 1) % 2 == 1) = _
    rw [Bool.eq_false_iff.mpr h]
    cases tapHolds s || logicRuns s <;> rfl

/-- What `mayRelease` and EXPOSE_EN look at beside OUT_STATUS. -/
theorem tapHolds_congr {s t : State} (hsec : t.sec = s.sec) (hmode : t.flow.mode = s.flow.mode)
    (hreg : rget t Reg.SEC_STATUS = rget s Reg.SEC_STATUS) : tapHolds t = tapHolds s := by
  rw [tapHolds, tapHolds, hsec, hmode, fget_congr (f := Reg.SEC_STATUS_LIFECYCLE) hreg]

theorem logicRuns_congr {s t : State} (h : t.mon = s.mon) : logicRuns t = logicRuns s := by rw [logicRuns, logicRuns, h]

theorem ownStage_mon (s : State) : (ownStage s).mon = s.mon := by simp [ownStage]

theorem openWindow_mon (i : Nat) (s : State) : (openWindow i s).mon = s.mon := by
  unfold openWindow
  split <;> rfl

theorem fbit_ownStage (s : State) :
    fbit (ownStage s) (Reg.MOT_CH_STATUS_OWNED 0) = true ∧ fbit (ownStage s) (Reg.MOT_CH_STATUS_OWNED 1) = true := by
  unfold ownStage
  exact ⟨fbit_fput _ _ rfl rfl 1, (fbit_fput_other _ _ _ _ (by decide)).trans (fbit_fput _ _ rfl rfl 1)⟩

/-! ## JOB_START -/

/-- The stage taken, the Window opened and EXPOSE_EN turned on, as JOB_START does them. -/
def stageExposed (i : Nat) (s : State) : State := exposeOn (openWindow i (ownStage s))

theorem startJob_eq (slot : Option (Fin 16)) (lead : Nat) (s : State) :
    ∃ u : State, u = { s with prog := u.prog } ∧
      startJob slot lead s = { stageExposed s.prog.cur u with flow := { (stageExposed s.prog.cur u).flow with starting := some slot } } :=
  ⟨{ s with prog := { s.prog with startLead := if lead = 0 then 32 else lead } }, rfl, by simp [startJob, stageExposed]⟩

theorem regsKept_stageExposed (i : Nat) (s : State) :
    RegsKept [Reg.OUT_STATUS, Reg.MOT_CH_STATUS 0, Reg.MOT_CH_STATUS 1] s (stageExposed i s) :=
  ((regsKept_ownStage s).mono (by simp)).trans ((regsKept_of_eq (openWindow_regs i _)).trans ((regsKept_exposeOn _).mono (by simp)))

theorem stageExposed_exposes (i : Nat) (s : State) :
    fbit (stageExposed i s) Reg.OUT_STATUS_EXPOSE_EN = (fbit s Reg.OUT_STATUS_EXPOSE_EN || !(tapHolds s || logicRuns s)) := by
  have hregs : RegsKept [Reg.MOT_CH_STATUS 0, Reg.MOT_CH_STATUS 1] s (openWindow i (ownStage s)) :=
    (regsKept_ownStage s).trans (regsKept_of_eq (openWindow_regs i _))
  rw [stageExposed, fbit_exposeOn, hregs.fbit (by decide), tapHolds_congr (s := s) (by simp) (by simp) (hregs _ (by decide)),
    logicRuns_congr (s := s) (by rw [openWindow_mon, ownStage_mon])]

theorem stageExposed_owns (i : Nat) (s : State) :
    fbit (stageExposed i s) (Reg.MOT_CH_STATUS_OWNED 0) = true ∧ fbit (stageExposed i s) (Reg.MOT_CH_STATUS_OWNED 1) = true := by
  have hregs : RegsKept [Reg.OUT_STATUS] (ownStage s) (stageExposed i s) :=
    (regsKept_of_eq (openWindow_regs i _)).trans (regsKept_exposeOn _)
  rw [hregs.fbit (by decide), hregs.fbit (by decide)]
  exact fbit_ownStage s

theorem regsKept_startJob (slot : Option (Fin 16)) (lead : Nat) (s : State) :
    RegsKept [Reg.OUT_STATUS, Reg.MOT_CH_STATUS 0, Reg.MOT_CH_STATUS 1] s (startJob slot lead s) := by
  obtain ⟨u, hu, hstart⟩ := startJob_eq slot lead s
  rw [hstart]
  exact RegsKept.trans (regsKept_of_eq (by rw [hu])) (regsKept_stageExposed s.prog.cur u)

theorem startJob_exposes (slot : Option (Fin 16)) (lead : Nat) (s : State) :
    fbit (startJob slot lead s) Reg.OUT_STATUS_EXPOSE_EN = (fbit s Reg.OUT_STATUS_EXPOSE_EN || !(tapHolds s || logicRuns s)) := by
  obtain ⟨u, hu, hstart⟩ := startJob_eq slot lead s
  have hexpose := stageExposed_exposes s.prog.cur u
  rw [hstart]
  refine hexpose.trans ?_
  rw [hu]
  rfl

theorem startJob_owns (slot : Option (Fin 16)) (lead : Nat) (s : State) :
    fbit (startJob slot lead s) (Reg.MOT_CH_STATUS_OWNED 0) = true ∧ fbit (startJob slot lead s) (Reg.MOT_CH_STATUS_OWNED 1) = true := by
  obtain ⟨u, -, hstart⟩ := startJob_eq slot lead s
  rw [hstart]
  exact stageExposed_owns s.prog.cur u

/-- Settles O14: what `startJob` does to the accepted state. -/
theorem jobStartBegins : Obligations.JobStartBegins := by
  intro r s lead h hlead hmode hjob hrast hgath hout
  have hin : (lead == 0 || decide (18 ≤ lead ∧ lead ≤ 256)) = true := by simpa using hlead
  refine yields_of_effect rfl h ?_ hin rfl (by simp [inState, hmode, hjob]) (by simp [hrast, hgath, hout])
  have hexpose := startJob_exposes (some r.slot) lead (accept r.slot s)
  obtain ⟨howns0, howns1⟩ := startJob_owns (some r.slot) lead (accept r.slot s)
  refine ⟨rfl, by simp [startJob], hexpose.trans ?_, howns0, howns1, by simp [startJob, hmode], by simp, by simp,
    dramKept_of_eq (by simp), status_inProgress (s := s) (by simp),
    ((regsKept_accept _ _).mono (by simp)).trans ((regsKept_startJob _ _ _).mono (by simp))⟩
  rw [tapHolds_congr (s := s) (by simp) (by simp) (rget_accept _ _ _ (by decide)), logicRuns_congr (s := s) (by simp),
    (regsKept_accept _ _).fbit (by decide)]

end Sys2Proof.Machine
end

section
/-!
PROOFS. O15 fails in a state whose register file is not in canonical form: there an entry may stand behind one of a higher key, unread until a
domain that drops takes the entry before it away.
-/

namespace Sys2Proof.Machine

/-- A check run of no shots. -/
def emptyRun : Batch := ⟨.dark, 0, 0, 0, [], 0, [], 0, 0, 0, 0, [], [], [], [], [], [], [], 0, [], [], []⟩

/-- Write with a requested Hold and an open check run, whose vote alone holds GATH. OUT_STATUS is listed as 0 behind BHM_STATUS, where it does
not read until the registers of GATH are gone. -/
def hiddenOutStatus : State :=
  { State.reset with
    regs := [(0x80000, 1), (Reg.OUT_STATUS, 0), (Reg.PWR_STATUS, 0x2F), (Reg.PWR_VOTE Dom.GATH, 0x10)]
    flow := { State.reset.flow with mode := .write, holdReq := true }
    health := { State.reset.health with run := some emptyRun } }

/-- The Hold ends the check run and withdraws its vote; GATH drops, and OUT_STATUS reads 0. -/
theorem holdEffect_unblanks : fbit (holdEffect hiddenOutStatus) Reg.OUT_STATUS_BLANK = false := by decide

/-- Refutes O15: HOLD_EFFECT may leave BLANK_ALL reading 0 where the register file is not in canonical form. -/
theorem not_holdIsTaken : ¬ Obligations.HoldIsTaken := by
  intro ⟨_, heffect⟩
  obtain ⟨t, hexec, _, _, _, _, _, hblank, _⟩ := heffect hiddenOutStatus (by decide) (by decide) (by decide) (by decide) (by decide)
  have ht : holdEffect hiddenOutStatus = t := Host.Outcome.next.inj hexec
  rw [← ht, holdEffect_unblanks] at hblank
  exact absurd hblank (by decide)

end Sys2Proof.Machine
end

section
/-!
PROOFS. What the Absence Log and the partition of the cohort may ask of the job flow while no resume is in progress (R54, R274, R425), and
RESUME (O16).
-/

namespace Sys2Proof.Machine

/-! ## Causes -/

theorem getLsbD_one_shiftLeft (n m : Nat) : ((1 : Word) <<< n).getLsbD m = (decide (n < 32) && decide (n = m)) :=
  BitVec.getLsbD_twoPow n m

theorem hasCause_setCause {n : Nat} (hn : n < 32) (m : Nat) (s : State) : hasCause (setCause n s) m = (hasCause s m || decide (n = m)) := by
  have hbit : (s.flow.causes ||| (1 : Word) <<< n).getLsbD m = (s.flow.causes.getLsbD m || decide (n = m)) := by
    rw [BitVec.getLsbD_or, getLsbD_one_shiftLeft]
    simp [hn]
  exact hbit

theorem hasCause_clearCause {n : Nat} (hn : n < 32) (m : Nat) (s : State) : hasCause (clearCause n s) m = (hasCause s m && !decide (n = m)) := by
  have hbit : (s.flow.causes &&& ~~~((1 : Word) <<< n)).getLsbD m = (s.flow.causes.getLsbD m && !decide (n = m)) := by
    rw [BitVec.getLsbD_and, BitVec.getLsbD_not, getLsbD_one_shiftLeft]
    by_cases hm : m < 32
    · simp [hn, hm]
    · simp [BitVec.getLsbD_of_ge s.flow.causes m (by omega)]
  exact hbit

/-! ## Holds asked for -/

/-- From `s`, where no resume is in progress, to `t`: the flow has changed in its causes, in whether a Hold is requested, and in the job state
alone; the causes other than those of `ns` are as they were; no command has completed. -/
def HoldsAsked (ns : List Nat) (s t : State) : Prop :=
  s.flow.resume = .none →
    t.flow = { s.flow with job := t.flow.job, causes := t.flow.causes, seen := t.flow.seen, holdReq := t.flow.holdReq } ∧
    (∀ n, n ∉ ns → hasCause t n = hasCause s n) ∧ t.mail = s.mail

theorem holdsAsked_of_eq {ns : List Nat} {s t : State} (hflow : t.flow = s.flow) (hmail : t.mail = s.mail) : HoldsAsked ns s t := fun _ =>
  ⟨by rw [hflow], fun n _ => by rw [hasCause, hasCause, hflow], hmail⟩

theorem HoldsAsked.trans {ns : List Nat} {s t u : State} (h : HoldsAsked ns s t) (h' : HoldsAsked ns t u) : HoldsAsked ns s u := by
  intro hs
  obtain ⟨hflow, hcauses, hmail⟩ := h hs
  obtain ⟨hflow', hcauses', hmail'⟩ := h' (by rw [hflow]; exact hs)
  exact ⟨by rw [hflow', hflow], fun n hn => (hcauses' n hn).trans (hcauses n hn), hmail'.trans hmail⟩

theorem cancelResume_of_none {s : State} (h : s.flow.resume = .none) : cancelResume s = s := by
  simp [cancelResume, h]

/-- A Hold asked for while no resume is in progress. -/
theorem requestHold_of_none {n : Nat} {s : State} (h : s.flow.resume = .none) : requestHold n s =
    if s.flow.mode = .write then { setCause n s with flow := { (setCause n s).flow with holdReq := true } } else setCause n s := by
  have hset : (setCause n s).flow.resume = .none := h
  unfold requestHold
  dsimp only
  rw [cancelResume_of_none hset]
  split
  case h_1 _ htick => exact absurd (hset.symm.trans htick) (by simp)
  case h_2 => rfl

theorem holdsAsked_requestHold {ns : List Nat} {n : Nat} (hn : n ∈ ns) (hlt : n < 32) (s : State) : HoldsAsked ns s (requestHold n s) := by
  intro hs
  have hkept : ∀ m, m ∉ ns → hasCause (setCause n s) m = hasCause s m := fun m hm => by
    have : n ≠ m := fun h => hm (h ▸ hn)
    simp [hasCause_setCause hlt, this]
  rw [requestHold_of_none hs]
  split <;> exact ⟨rfl, hkept, rfl⟩

theorem holdsAsked_clearCause {ns : List Nat} {n : Nat} (hn : n ∈ ns) (hlt : n < 32) (s : State) : HoldsAsked ns s (clearCause n s) := fun _ =>
  ⟨rfl, fun m hm => by
    have : n ≠ m := fun h => hm (h ▸ hn)
    simp [hasCause_clearCause hlt, this], rfl⟩

theorem requestHold_job (n : Nat) (s : State) : (requestHold n s).flow.job = s.flow.job := by
  have hcancel : ∀ u : State, (cancelResume u).flow.job = u.flow.job := by
    intro u
    unfold cancelResume
    split
    · dsimp only
      (repeat' split) <;> simp
    · rfl
  unfold requestHold
  dsimp only
  split
  · exact hcancel _
  · split <;> exact hcancel _

/-! ## The Absence Log -/

theorem holdsAsked_absReserve (s : State) : HoldsAsked [9] s (absReserve s) := by
  unfold absReserve
  split
  · have hask : HoldsAsked [9] s (requestHold 9 (fput Reg.ABS_STATUS_RESERVE 1 s)) :=
      (holdsAsked_of_eq (t := fput Reg.ABS_STATUS_RESERVE 1 s) (by simp) (by simp)).trans (holdsAsked_requestHold (by simp) (by decide) _)
    exact hask.trans (holdsAsked_of_eq (by simp) (by simp))
  split
  · exact (holdsAsked_of_eq (by simp) (by simp)).trans (holdsAsked_clearCause (by simp) (by decide) _)
  · exact holdsAsked_of_eq rfl rfl

theorem absReserve_job (s : State) : (absReserve s).flow.job = s.flow.job := by
  unfold absReserve
  split
  · simpa using requestHold_job 9 (fput Reg.ABS_STATUS_RESERVE 1 s)
  split
  · exact (by simp : (fput Reg.ABS_STATUS_RESERVE 0 s).flow.job = s.flow.job)
  · rfl

theorem holdsAsked_absSync (s : State) : HoldsAsked [9] s (absSync s) :=
  (holdsAsked_of_eq (by simp) (by simp)).trans (holdsAsked_absReserve _)

theorem absSync_job (s : State) : (absSync s).flow.job = s.flow.job :=
  (absReserve_job _).trans (by simp)

theorem holdsAsked_absLeave (s : State) : HoldsAsked [9] s (absLeave s) := by
  unfold absLeave
  split
  · exact holdsAsked_of_eq rfl rfl
  · exact (holdsAsked_of_eq (t := absCloseWhere (fun _ => true) s) (by simp) (by simp)).trans (holdsAsked_absSync _)

theorem holdsAsked_absLastShot (sh : Shot) (s : State) : HoldsAsked [9] s (absLastShot sh s) := by
  unfold absLastShot
  split
  · exact (holdsAsked_of_eq (t := absCloseWhere sh.ofStripe s) (by simp) (by simp)).trans (holdsAsked_absSync _)
  · exact holdsAsked_of_eq rfl rfl

theorem absLastShot_job (sh : Shot) (s : State) : (absLastShot sh s).flow.job = s.flow.job := by
  unfold absLastShot
  split
  · exact (absSync_job _).trans (by simp)
  · rfl

theorem holdsAsked_absSettle (sh : Shot) (s : State) : HoldsAsked [9] s (absSettle sh s) :=
  (holdsAsked_of_eq (t := absFormShot sh (absCloseWhere _ s)) (by simp) (by simp)).trans (holdsAsked_absSync _)

theorem absSettle_job (sh : Shot) (s : State) : (absSettle sh s).flow.job = s.flow.job :=
  (absSync_job _).trans (by simp)

/-! ## Stripes closed -/

theorem holdsAsked_settleLoop (n : Nat) (s : State) :
    HoldsAsked [9] s (settleLoop n s) ∧ (settleLoop n s).flow.job = s.flow.job := by
  induction n generalizing s with
  | zero => exact ⟨holdsAsked_of_eq rfl rfl, rfl⟩
  | succ n ih =>
    unfold settleLoop
    split
    case h_1 sh rest _ =>
      split
      · obtain ⟨hask, hjob⟩ := ih (absLastShot sh (absSettle sh { s with shots := rest }))
        refine ⟨?_, by rw [hjob, absLastShot_job, absSettle_job]⟩
        exact ((holdsAsked_of_eq (t := { s with shots := rest }) rfl rfl).trans (holdsAsked_absSettle sh _)).trans
          ((holdsAsked_absLastShot sh _).trans hask)
      · exact ⟨holdsAsked_of_eq rfl rfl, rfl⟩
    case h_2 => exact ⟨holdsAsked_of_eq rfl rfl, rfl⟩

theorem holdsAsked_passStripe (last : Bool) (s : State) : HoldsAsked [9] s (passStripe last s) := fun _ => ⟨rfl, fun _ _ => rfl, rfl⟩

theorem holdsAsked_leaveStripe (s : State) : HoldsAsked [9] s (leaveStripe s) := by
  have hpass : HoldsAsked [9] s (passStripe (!sameLayerNext s s.prog.cur) (absLeave (dropStripe s.prog.cur s))) :=
    ((holdsAsked_of_eq (t := dropStripe s.prog.cur s) (by simp) (by simp)).trans (holdsAsked_absLeave _)).trans (holdsAsked_passStripe _ _)
  exact hpass.trans (holdsAsked_of_eq (by simp [leaveStripe]) (by simp [leaveStripe]))

theorem leaveStripe_job (s : State) : (leaveStripe s).flow.job ≠ .stripe := by
  have hjob : (leaveStripe s).flow.job = if (!sameLayerNext s s.prog.cur) then .layerOpen else .recess := by
    simp [leaveStripe, passStripe]
  rw [hjob]
  split <;> simp

theorem holdsAsked_closeStripe (s : State) : HoldsAsked [9] s (closeStripe s) := by
  unfold closeStripe
  split
  case h_1 a e _ _ =>
    have hclose : HoldsAsked [9] s (disarm { closeShots a e s with win := Window.closed }) :=
      holdsAsked_of_eq (by simp) (by simp)
    exact (hclose.trans (holdsAsked_leaveStripe _)).trans (holdsAsked_settleLoop _ _).1
  case h_2 =>
    split
    · exact holdsAsked_leaveStripe s
    · exact holdsAsked_of_eq rfl rfl

theorem closeStripe_job (s : State) : (closeStripe s).flow.job ≠ .stripe := by
  unfold closeStripe
  split
  · unfold closeArmed settleAll
    rw [(holdsAsked_settleLoop _ _).2]
    exact leaveStripe_job _
  · split
    · exact leaveStripe_job s
    case isFalse h => exact h

/-! ## The partition -/

theorem holdsAsked_partitionAtOnce (s : State) :
    HoldsAsked [6] s (partitionAtOnce s) ∧ (partitionAtOnce s).flow.job = s.flow.job := by
  unfold partitionAtOnce partitionHold
  split
  · split
    · exact ⟨holdsAsked_requestHold (by simp) (by decide) s, requestHold_job 6 s⟩
    · exact ⟨holdsAsked_of_eq rfl rfl, rfl⟩
  · exact ⟨holdsAsked_of_eq rfl rfl, rfl⟩

/-! ## RESUME -/

theorem storedReg_congr {s t : State} {k : Nat} (hsaved : t.pwr.saved = s.pwr.saved) (hk : rget t k = rget s k)
    (hon : rget t Reg.PWR_STATUS = rget s Reg.PWR_STATUS) : storedReg t k = storedReg s k := by
  have hpow : ∀ d, powered t d = powered s d := fun d => by
    simp only [powered, fbitAt, fget_congr (f := Reg.PWR_STATUS_DOMAINS) hon]
  simp only [storedReg, hpow, hk, hsaved]

/-- The Config Digest looks at its registers, at what firmware holds of them, and at the image that runs. -/
theorem ownDigest_congr {s t : State} (hsec : t.sec = s.sec) (hsaved : t.pwr.saved = s.pwr.saved)
    (hreg : ∀ k ∈ digestRegs, rget t k = rget s k) (hon : rget t Reg.PWR_STATUS = rget s Reg.PWR_STATUS) : ownDigest t = ownDigest s := by
  have hrecord : digestRegs.flatMap (digestRecord t) = digestRegs.flatMap (digestRecord s) :=
    List.flatMap_congr fun k hk => by rw [digestRecord, digestRecord, storedReg_congr hsaved (hreg k hk) hon]
  rw [ownDigest, ownDigest, digestImage, digestImage, hrecord, runningImage, runningImage, hsec]

theorem resumeAllowed_accept (n : Fin 16) (s : State) : resumeAllowed (accept n s) = resumeAllowed s := by
  have hreg : ∀ {k}, k ≠ Reg.MBX_STATE → rget (accept n s) k = rget s k := rget_accept n s _
  have hdigest : digestOk (accept n s) = digestOk s := by
    have hown : ownDigest (accept n s) = ownDigest s :=
      ownDigest_congr (by simp) (by rw [accept_pwr]) (fun k hk => hreg fun h => absurd (h ▸ hk) (by decide)) (hreg (by decide))
    simp only [digestOk, hown, accept_frame]
  have hfbit : ∀ f : Field, f.reg ≠ Reg.MBX_STATE → fbit (accept n s) f = fbit s f := fun f hf => by rw [fbit, fbit, fget_accept n s f hf]
  have hclocks : holdClocksLocked (accept n s) = holdClocksLocked s := by
    rw [holdClocksLocked, hfbit _ (by decide), hfbit _ (by decide), hfbit _ (by decide), hfbit _ (by decide), holdClocksLocked]
  rw [resumeAllowed, resumeAllowed, causesGone, causesGone, causesAcked, causesAcked, hdigest, hclocks, hfbit _ (by decide)]
  simp only [accept_frame]

/-- Cause 0 is gone once its clocks are in lock. -/
theorem clearHostHold_of_locked {s : State} (h : holdClocksLocked s = true) :
    clearHostHold s = clearCause 0 { s with flow := { s.flow with hostHold := false } } := if_pos h

theorem atBoundary_congr {s t : State} (h : t.flow.seen = s.flow.seen) : atBoundary t = atBoundary s := by
  rw [atBoundary, atBoundary, h]

theorem nextGathered_congr {s t : State} (h : t.armed = s.armed) : nextGathered t = nextGathered s := by
  rw [nextGathered, nextGathered, h]

theorem broadcast_armed (kind : Nat) (payload : List Byte) (s : State) : (broadcast kind payload s).armed = s.armed := by
  have hput : ∀ (f : CohFrame) (u : State) (p : Port), (putFrame f u p).armed = u.armed := by
    intro f u p
    unfold putFrame
    split <;> rfl
  simp [broadcast, sendOwn, hput]

/-- The stripe-boundary resume: the stripe is closed, and the command has completed in Write. -/
theorem resumeBoundary_enters {n : Fin 16} {s : State} (hresume : s.flow.resume = .none) (ho : s.mail.orphan = false)
    (hcause : hasCause s 0 = false) :
    let t := resumeBoundary (some n) s
    t.flow.mode = .write ∧ t.flow.job ≠ .stripe ∧ hasCause t 0 = false ∧ (slotOf t n).status = Status.ok.code ∧ t.dram = s.dram := by
  intro t
  obtain ⟨hflow, hcauses, hmail⟩ := holdsAsked_closeStripe s hresume
  have hdram : t.dram = s.dram := by simp [t, resumeBoundary]
  let u := closeStripe s
  let v := complete n .ok [] { u with flow := { u.flow with mode := .write, seen := u.flow.causes, holdReq := false } }
  have hvflow : v.flow = { u.flow with mode := .write, seen := u.flow.causes, holdReq := false } := by simp [v]
  obtain ⟨hask, hjob⟩ := holdsAsked_partitionAtOnce v
  obtain ⟨hflow', hcauses', hmail'⟩ := hask (by rw [hvflow]; exact (congrArg Flow.resume hflow).trans hresume)
  refine ⟨?_, ?_, ?_, ?_, hdram⟩
  · exact (congrArg Flow.mode hflow').trans (by rw [hvflow])
  · exact fun h => closeStripe_job s (by rw [← h]; exact (hjob.trans (by rw [hvflow])).symm)
  · refine (hcauses' 0 (by decide)).trans ?_
    rw [hasCause, hvflow]
    exact (hcauses 0 (by decide)).trans hcause
  · rw [slotOf_congr (s := v) (by rw [← hmail']; rfl), slotOf_complete _ _ _ _ (by exact (congrArg Mail.orphan hmail).trans ho), if_pos rfl]
    rfl

set_option Elab.async false in
/-- Settles O16: with no resume in progress, closing a stripe asks for no resume and completes no command. -/
theorem resumeBegins : Obligations.ResumeBegins := by
  intro r s h hmode
  have hresume : s.flow.resume = .none := by
    obtain ⟨_, _, _, _, hmoves, _⟩ := h
    have := hmoves rfl
    simp only [transitioning, Bool.or_eq_false_iff] at this
    simpa using this.1.1.1.1.1.1.1.1
  have hacc : (s.flow.mode == .hold) = true := by simp [hmode]
  constructor
  · intro hno
    refine completes_of_command rfl h ?_ (acceptedAs_self r.slot s) rfl rfl hacc
    simp [resumeAllowed_accept, hno]
  -- The state told to the cohort, cause 0 gone: what each of the three ways to resume goes on from.
  let u := broadcast Kind.resume (resumePayload (accept r.slot s)) (accept r.slot s)
  let v := clearCause 0 { u with flow := { u.flow with hostHold := false } }
  have huflow : u.flow = s.flow := by simp [u]
  have hzero : hasCause v 0 = false := by simp [v, hasCause_clearCause (show 0 < 32 by decide)]
  have hvflow : v.flow = { s.flow with hostHold := false, causes := v.flow.causes } := by
    rw [← huflow]
    rfl
  have hfrom : ∀ {p : State → Prop}, resumeAllowed s = true → p (beginResume (some r.slot) u) → Yields (.resume r) s p := by
    intro p hyes hp
    refine yields_of_effect rfl h ?_ rfl rfl hacc
    simp only [resumeAllowed_accept, hyes, if_true]
    exact hp
  have hclear : resumeAllowed s = true → clearHostHold u = v := by
    intro hyes
    refine clearHostHold_of_locked ?_
    rw [← resumeAllowed_accept r.slot] at hyes
    simp only [resumeAllowed, causesGone, Bool.and_eq_true] at hyes
    have hregs : u.regs = (accept r.slot s).regs := broadcast_regs _ _ _
    simpa only [holdClocksLocked, fbit, fget, rget, hregs] using hyes.1.1.1.2
  have hseen : v.flow.seen = s.flow.seen := by rw [hvflow]
  refine ⟨fun hyes hjob => hfrom hyes ?_, fun hyes hjob hbound => hfrom hyes ?_, fun hyes hjob hbound => hfrom hyes ?_⟩
  · rw [beginResume, hclear hyes, if_neg (by rw [hvflow]; exact hjob)]
    exact ⟨rfl, hzero, (congrArg Flow.mode hvflow).trans hmode, by simp [v, u], by simp [v, u], dramKept_of_eq (by simp [v, u])⟩
  · have hvbound : atBoundary v = false := (atBoundary_congr hseen).trans hbound
    rw [beginResume, hclear hyes, if_pos ((congrArg Flow.job hvflow).trans hjob), if_neg (by simp [hvbound])]
    have hnext : nextGathered v = nextGathered s := nextGathered_congr ((broadcast_armed _ _ _).trans (by simp))
    exact ⟨congrArg (Resume.inStripe · (some r.slot)) hnext, hzero, (congrArg Flow.mode hvflow).trans hmode, by simp [v, u],
      by simp [v, u], dramKept_of_eq (by simp [v, u])⟩
  · have hvbound : atBoundary v = true := (atBoundary_congr hseen).trans hbound
    rw [beginResume, hclear hyes, if_pos ((congrArg Flow.job hvflow).trans hjob), if_pos hvbound]
    have ho : v.mail.orphan = false := (congrArg Mail.orphan (by simp [v, u])).trans (accept_orphan r.slot s h.orphan)
    obtain ⟨hwrite, hleft, hcause, hstatus, hdram⟩ := resumeBoundary_enters (n := r.slot) ((congrArg Flow.resume hvflow).trans hresume) ho hzero
    exact ⟨hwrite, hleft, hcause, hstatus, dramKept_of_eq (hdram.trans (by simp [v, u]))⟩

end Sys2Proof.Machine
end

section
/-!
PROOFS. O18 fails in a state whose register file is not in canonical form: the votes of the job are withdrawn after EXPOSE_EN is off, and a domain
that drops then may bring an entry of OUT_STATUS to light that did not read before.
-/

namespace Sys2Proof.Machine

/-- Hold between two stripes, GATH held by the job's vote alone. OUT_STATUS is listed with EXPOSE_EN set behind a register of GATH, where it does
not read until the registers of GATH are gone. -/
def hiddenExposeEn : State :=
  { State.reset with
    regs := [(0x80000, 1), (Reg.OUT_STATUS, 2), (Reg.PWR_STATUS, 0x2F), (Reg.PWR_VOTE Dom.GATH, 0x4)]
    flow := { State.reset.flow with mode := .hold, boot := .over, job := .recess } }

/-- A JOB_ABORT in slot 0. -/
def abortRequest : Req := ⟨0, 0, true⟩

/-- The job ends and withdraws its votes; GATH drops, and EXPOSE_EN reads 1. -/
theorem jobAbort_exposes : fbit (jobAbortCommand abortRequest hiddenExposeEn) Reg.OUT_STATUS_EXPOSE_EN = true := by decide +kernel

/-- Refutes O18: the end of a job may leave EXPOSE_EN reading 1 where the register file is not in canonical form. -/
theorem not_layersAndJobsEnd : ¬ Obligations.LayersAndJobsEnd := by
  intro ⟨_, _, _, hend⟩
  have hadmit : Admitted hiddenExposeEn abortRequest 0x0209 0 true := ⟨rfl, rfl, by decide, by decide, fun _ => by decide, rfl⟩
  obtain ⟨t, hexec, _, _, _, _, _, _, hoff⟩ :=
    (hend abortRequest hiddenExposeEn rfl rfl (by decide) rfl).1 hadmit (by decide)
  have ht : jobAbortCommand abortRequest hiddenExposeEn = t := Host.Outcome.next.inj hexec
  rw [← ht, jobAbort_exposes] at hoff
  exact absurd hoff (by decide)

end Sys2Proof.Machine
end

section
/-!
PROOFS. What a read of DRAM changes: the registers of the HBM_ and ECC_ blocks, the state of the stacks and of the check bits, events that
arise, and free values used (R311 to R330, R337).
-/

namespace Sys2Proof.Machine

/-- From `s` to `t` only the memories have been at work. -/
structure MemoryOnly (s t : State) : Prop where
  rest : t = { s with regs := t.regs, ev := t.ev, hbm := t.hbm, ecc := t.ecc, free := t.free }
  regs : ∀ k, k / 65536 ≠ 0x0B → k / 65536 ≠ 0x0C → rget t k = rget s k
  events : ∀ n, s.ev.bits.getLsbD n = true → t.ev.bits.getLsbD n = true
  fence : rget t Reg.HBM_FENCE = rget s Reg.HBM_FENCE

theorem MemoryOnly.refl (s : State) : MemoryOnly s s := ⟨rfl, fun _ _ _ => rfl, fun _ h => h, rfl⟩

theorem MemoryOnly.trans {s t u : State} (h : MemoryOnly s t) (h' : MemoryOnly t u) : MemoryOnly s u :=
  ⟨by rw [h'.rest, h.rest], fun k hb hc => (h'.regs k hb hc).trans (h.regs k hb hc), fun n hn => h'.events n (h.events n hn),
    h'.fence.trans h.fence⟩

theorem memoryOnly_foldl {β : Type} {g : State → β → State} {l : List β} (h : ∀ x ∈ l, ∀ s, MemoryOnly s (g s x)) (s : State) :
    MemoryOnly s (l.foldl g s) := by
  induction l generalizing s with
  | nil => exact .refl s
  | cons x l ih => exact (h x List.mem_cons_self s).trans (ih (fun y hy => h y (List.mem_cons_of_mem x hy)) _)

theorem memoryOnly_fput {f : Field} (hf : f.reg / 65536 = 0x0B ∨ f.reg / 65536 = 0x0C) (v : Nat) (s : State)
    (hfence : f.reg ≠ Reg.HBM_FENCE := by decide) : MemoryOnly s (fput f v s) :=
  ⟨by apply State.ext <;> simp, fun k hb hc => by rw [rget_fput, if_neg (fun h => by subst h; omega)], fun n h => by simpa using h,
    by rw [rget_fput, if_neg (Ne.symm hfence)]⟩

theorem getLsbD_raise (n m : Nat) (s : State) : (raise n s).ev.bits.getLsbD m = (s.ev.bits.getLsbD m || decide (n < 96) && decide (n = m)) := by
  have hone : ((1 : BitVec 96) <<< n).getLsbD m = (decide (n < 96) && decide (n = m)) := BitVec.getLsbD_twoPow n m
  exact (BitVec.getLsbD_or (x := s.ev.bits) (y := (1 : BitVec 96) <<< n)).trans (by rw [hone])

theorem memoryOnly_raise (n : Nat) (s : State) : MemoryOnly s (raise n s) :=
  ⟨rfl, fun _ _ _ => rfl, fun m h => by rw [getLsbD_raise, h, Bool.true_or], rfl⟩

theorem memoryOnly_raiseIf (b : Bool) (n : Nat) (s : State) : MemoryOnly s (raiseIf b n s) := by
  cases b
  · exact .refl s
  · exact memoryOnly_raise n s

/-! ## The stacks -/

theorem memoryOnly_hbm (m : Hbm) (s : State) : MemoryOnly s { s with hbm := m } := ⟨rfl, fun _ _ _ => rfl, fun _ h => h, rfl⟩

theorem memoryOnly_ecc (e : Ecc) (s : State) : MemoryOnly s { s with ecc := e } := ⟨rfl, fun _ _ _ => rfl, fun _ h => h, rfl⟩

theorem memoryOnly_precharge (pc bank : Nat) (s : State) : MemoryOnly s (precharge pc bank s) := ⟨rfl, fun _ _ _ => rfl, fun _ h => h, rfl⟩

theorem memoryOnly_activateRow (pc bank row : Nat) (s : State) : MemoryOnly s (activateRow pc bank row s) :=
  ⟨rfl, fun _ _ _ => rfl, fun _ h => h, rfl⟩

theorem memoryOnly_issueCmd (pc : Nat) (c : DramCmd) (s : State) : MemoryOnly s (issueCmd pc c s) := ⟨rfl, fun _ _ _ => rfl, fun _ h => h, rfl⟩

theorem memoryOnly_leavePowerDown (pc : Nat) (s : State) : MemoryOnly s (leavePowerDown pc s) := ⟨rfl, fun _ _ _ => rfl, fun _ h => h, rfl⟩

theorem memoryOnly_refreshNeighbours (pc bank row : Nat) (s : State) : MemoryOnly s (refreshNeighbours pc bank row s) := by
  have hrows := memoryOnly_foldl (l := neighbours row) (g := fun s r => precharge pc bank (activateRow pc bank r s))
    (fun r _ u => (memoryOnly_activateRow pc bank r u).trans (memoryOnly_precharge pc bank _)) (precharge pc bank (leavePowerDown pc s))
  have hfirst := (memoryOnly_leavePowerDown pc s).trans (memoryOnly_precharge pc bank _)
  exact ((hfirst.trans hrows).trans (memoryOnly_issueCmd pc (.rfm pc bank) _)).trans
    ((memoryOnly_hbm _ _).trans (memoryOnly_fput (by decide) _ _))

theorem memoryOnly_refreshDueLoop (pc bank n : Nat) (s : State) : MemoryOnly s (refreshDueLoop pc bank n s) := by
  induction n generalizing s with
  | zero => exact .refl s
  | succ n ih =>
    unfold refreshDueLoop
    split
    · exact (memoryOnly_refreshNeighbours pc bank _ s).trans (ih _)
    · exact .refl s

theorem memoryOnly_openRow (pc bank row : Nat) (s : State) : MemoryOnly s (openRow pc bank row s) := by
  unfold openRow
  split
  · exact .refl s
  · have hdue : MemoryOnly s (refreshDue pc bank s) := memoryOnly_refreshDueLoop pc bank _ s
    refine (hdue.trans ?_).trans (memoryOnly_hbm _ _)
    split
    · exact (memoryOnly_precharge pc bank _).trans (memoryOnly_activateRow pc bank row _)
    · exact memoryOnly_activateRow pc bank row _

theorem memoryOnly_accessUnit (write : Bool) (u : Nat) (s : State) : MemoryOnly s (accessUnit write u s) := by
  unfold accessUnit
  split
  · exact memoryOnly_hbm _ s
  · exact (((memoryOnly_leavePowerDown _ s).trans (memoryOnly_openRow _ _ _ _)).trans (memoryOnly_issueCmd _ _ _)).trans
      (memoryOnly_issueCmd _ _ _)

theorem memoryOnly_countUrgent {p : Nat} (hp : p < 16) (n : Nat) (s : State) : MemoryOnly s (countUrgent p n s) :=
  (memoryOnly_fput (.inl (show (0xB0060 + 0x4 * p) / 65536 = 0xB by omega)) _ s (show 0xB0060 + 0x4 * p ≠ Reg.HBM_FENCE by unfold Reg.HBM_FENCE; omega)).trans ⟨rfl, fun _ _ _ => rfl, fun _ h => h, rfl⟩

/-! ## Words and units -/

theorem memoryOnly_eccLog (dram : Bool) (addr result : Nat) (scrub : Bool) (wher port : Nat) (s : State) :
    MemoryOnly s (eccLog dram addr result scrub wher port s) := by
  have hn : fget s Reg.ECC_LOG_IDX_NEXT < 16 := Nat.mod_lt _ (by decide)
  have hlo : (0xC0040 + 0x10 * fget s Reg.ECC_LOG_IDX_NEXT) / 65536 = 0x0C := by omega
  have hhi : (0xC0044 + 0x10 * fget s Reg.ECC_LOG_IDX_NEXT) / 65536 = 0x0C := by omega
  have hinfo : (0xC0048 + 0x10 * fget s Reg.ECC_LOG_IDX_NEXT) / 65536 = 0x0C := by omega
  have hfence : ∀ {k : Nat}, k / 65536 = 0x0C → k ≠ Reg.HBM_FENCE := fun hk h => by subst h; exact absurd hk (by decide)
  exact (((((((memoryOnly_fput (.inr hlo) _ _ (hfence hlo)).trans (memoryOnly_fput (.inr hhi) _ _ (hfence hhi))).trans (memoryOnly_fput (.inr hinfo) _ _ (hfence hinfo))).trans
    (memoryOnly_fput (.inr hinfo) _ _ (hfence hinfo))).trans (memoryOnly_fput (.inr hinfo) _ _ (hfence hinfo))).trans (memoryOnly_fput (.inr hinfo) _ _ (hfence hinfo))).trans
    (memoryOnly_fput (.inr hinfo) _ _ (hfence hinfo))).trans (memoryOnly_fput (by decide) _ _)

theorem memoryOnly_countCorrection (s : State) : MemoryOnly s (countCorrection s) :=
  ((memoryOnly_ecc _ s).trans (memoryOnly_fput (by decide) _ _)).trans (memoryOnly_raiseIf _ _ _)

theorem memoryOnly_countUncorrectable (s : State) : MemoryOnly s (countUncorrectable s) :=
  (memoryOnly_fput (by decide) _ s).trans (memoryOnly_raise _ _)

theorem memoryOnly_readWord (port w : Nat) (s : State) : MemoryOnly s (readWord port w s) := by
  unfold readWord
  split
  · exact .refl s
  · exact (memoryOnly_eccLog _ _ _ _ _ _ s).trans (memoryOnly_countCorrection _)
  · exact ((memoryOnly_eccLog _ _ _ _ _ _ s).trans (memoryOnly_countUncorrectable _)).trans (memoryOnly_ecc _ _)
  · exact memoryOnly_eccLog _ _ _ _ _ _ s

theorem memoryOnly_readUnit (port u : Nat) (s : State) : MemoryOnly s (readUnit port u s) := by
  unfold readUnit
  split
  · exact .refl s
  · exact (memoryOnly_accessUnit false u s).trans (memoryOnly_foldl (fun w _ u => memoryOnly_readWord port w u) _)

theorem memoryOnly_readUnits {port : Nat} (hp : port < 16) (a n : Nat) (s : State) : MemoryOnly s (readUnits port a n s) :=
  (memoryOnly_countUrgent hp _ s).trans (memoryOnly_foldl (fun u _ v => memoryOnly_readUnit port u v) _)

theorem memoryOnly_memRead {port : Nat} (hp : port < 16) (a n : Nat) (s : State) : MemoryOnly s (memRead port a n s).1 := by
  have hread := memoryOnly_readUnits hp a n s
  unfold memRead
  dsimp only
  split
  · exact hread
  split
  · exact hread.trans ⟨rfl, fun _ _ _ => rfl, fun _ h => h, rfl⟩
  · exact hread

end Sys2Proof.Machine
end

section
/-!
PROOFS. Reports of the job, and the release of Absence entries and of cached cells (O19).
-/

namespace Sys2Proof.Machine

/-! ## Reads of registers and of the Absence Log -/

/-- A read of registers may capture companions and let a check-value unit fold what it has queued. -/
theorem readRegs_eq (ks : List Nat) (s : State) :
    ∃ m c f, (readRegs ks s).1 = { s with regs := m, chk := c, free := f } := by
  have hcapture : ∀ (k : Nat) (u : State), ∃ m c f, readCapture k u = { u with regs := m, chk := c, free := f } := by
    intro k u
    unfold readCapture
    split
    · exact ⟨_, _, _, rfl⟩
    split
    · exact ⟨_, _, _, rfl⟩
    split
    · unfold chkCapture
      split
      · exact ⟨_, _, _, rfl⟩
      split
      · exact ⟨_, _, _, rfl⟩
      split
      · exact ⟨_, _, _, rfl⟩
      · exact ⟨_, _, _, rfl⟩
    · exact ⟨_, _, _, rfl⟩
  have hclear : ∀ (k : Nat) (u : State), ∃ m, rcClear k u = { u with regs := m } := by
    intro k u
    unfold rcClear
    dsimp only
    split <;> exact ⟨_, rfl⟩
  induction ks generalizing s with
  | nil => exact ⟨_, _, _, rfl⟩
  | cons k ks ih =>
    obtain ⟨m, c, f, hm⟩ := hcapture k s
    obtain ⟨m', hm'⟩ := hclear k (readCapture k s)
    obtain ⟨m'', c', f', hrest⟩ := ih (rcClear k (readCapture k s))
    exact ⟨m'', c', f', hrest.trans (by rw [hm', hm])⟩

theorem memoryOnly_absEntries (first n : Nat) (s : State) : MemoryOnly s (absEntries first n s).1 := by
  induction n generalizing first s with
  | zero => exact .refl s
  | succ n ih =>
    have hfetch : MemoryOnly s (absFetch first s).1 := by
      have hread := memoryOnly_readUnits (port := Port.log) (by decide) (absAddr first) 32 s
      unfold absFetch
      dsimp only
      split
      · exact hread.trans ⟨rfl, fun _ _ _ => rfl, fun _ h => h, rfl⟩
      · exact hread
    exact hfetch.trans (ih (first + 1) _)

/-! ## Holds that the log asks for -/

theorem regsKept_completeOpt (n : Option (Fin 16)) (st : Status) (p : List Byte) (s : State) :
    RegsKept [Reg.MBX_STATE] s (completeOpt n st p s) := by
  cases n
  · exact fun _ _ => rfl
  · exact regsKept_complete _ st p s

theorem regsKept_sendHoldSet (s : State) : RegsKept [Reg.COH_HOLD_ID] s (sendHoldSet s) := by
  have hsend : ∀ src id (u : State) (p : Port), (sendHoldOn src id u p).regs = u.regs := by
    intro src id u p
    unfold sendHoldOn
    split <;> rfl
  unfold sendHoldSet
  dsimp only
  split
  · have hid := regsKept_fput (f := Reg.COH_HOLD_ID_ID) (ks := [Reg.COH_HOLD_ID]) (by decide) ((fget s Reg.COH_HOLD_ID_ID + 1) % 65536) s
    exact hid.trans (regsKept_of_eq (by simp [hsend]))
  · exact fun _ _ => rfl

/-- The registers that a Hold asked for may write: what the end of a resume shows, and what it tells the cohort. -/
abbrev holdRegs : List Nat := [Reg.OUT_STATUS, Reg.COH_HOLD_ID, Reg.MBX_STATE]

theorem regsKept_cancelResume (s : State) : RegsKept holdRegs s (cancelResume s) := by
  unfold cancelResume
  split
  case h_2 => exact fun _ _ => rfl
  case h_1 =>
    dsimp only
    refine RegsKept.trans ?_ ((regsKept_completeOpt _ _ _ _).mono (by simp))
    split
    · split
      · exact (regsKept_fput (by decide) _ _).trans ((regsKept_sendHoldSet _).mono (by simp))
      · exact regsKept_fput (by decide) _ _
    · exact regsKept_fput (by decide) _ _

theorem regsKept_requestHold (n : Nat) (s : State) : RegsKept holdRegs s (requestHold n s) := by
  have hcancel : RegsKept holdRegs s (cancelResume (setCause n s)) := regsKept_cancelResume (setCause n s)
  unfold requestHold
  dsimp only
  split
  · exact hcancel
  · split <;> exact hcancel

/-- The registers that show the Absence Log, and those of the Hold that it may ask for. -/
abbrev absRegs : List Nat := [Reg.ABS_FREE, Reg.ABS_OPEN, Reg.ABS_UNREC, Reg.ABS_STATUS, Reg.ABS_LOST_LS, Reg.ABS_LOST_SHOT] ++ holdRegs

theorem regsKept_absSync (s : State) : RegsKept absRegs s (absSync s) := by
  have hreserve : ∀ u, RegsKept absRegs u (absReserve u) := by
    intro u
    unfold absReserve
    split
    · exact (regsKept_fput (by decide) 1 u).trans ((regsKept_requestHold 9 _).mono (by simp))
    split
    · exact regsKept_fput (f := Reg.ABS_STATUS_RESERVE) (by decide) 0 u
    · exact fun _ _ => rfl
  have hlost : ∀ u, RegsKept absRegs u (absShowLost u) := by
    intro u
    unfold absShowLost
    split <;> exact ((((regsKept_fput (by decide) _ _).trans (regsKept_fput (by decide) _ _)).trans (regsKept_fput (by decide) _ _)).trans
      (regsKept_fput (by decide) _ _)).trans (regsKept_fput (by decide) _ _)
  exact (((regsKept_fput (by decide) _ _).trans (regsKept_fput (by decide) _ _)).trans (regsKept_fput (by decide) _ _)).trans
    ((hlost _).trans (hreserve _))

theorem completing_completeOpt (n : Option (Fin 16)) (st : Status) (p : List Byte) (s : State) : Completing s (completeOpt n st p s) := by
  cases n
  · exact completing_of_mail rfl
  · exact completing_complete _ st p s

theorem completing_requestHold (n : Nat) (s : State) : Completing s (requestHold n s) := by
  have hcancel : Completing s (cancelResume (setCause n s)) := by
    unfold cancelResume
    split
    case h_2 => exact completing_of_mail rfl
    case h_1 =>
      dsimp only
      refine Completing.trans (completing_of_mail ?_) (completing_completeOpt _ _ _ _)
      split
      · split <;> simp
      · simp
  unfold requestHold
  dsimp only
  split
  · exact hcancel.of_mail rfl
  · split
    · exact hcancel.of_mail rfl
    · exact hcancel

theorem completing_absSync (s : State) : Completing s (absSync s) := by
  have hreserve : ∀ u, Completing u (absReserve u) := by
    intro u
    unfold absReserve
    split
    · have hfull : Completing u (requestHold 9 (fput Reg.ABS_STATUS_RESERVE 1 u)) :=
        (completing_of_mail (t := fput Reg.ABS_STATUS_RESERVE 1 u) (by simp)).trans (completing_requestHold 9 _)
      exact hfull.of_mail (by simp)
    split
    · exact completing_of_mail (by simp)
    · exact completing_of_mail rfl
  exact Completing.trans (completing_of_mail (by simp)) (hreserve _)

theorem completeOpt_abs (n : Option (Fin 16)) (st : Status) (p : List Byte) (s : State) : (completeOpt n st p s).abs = s.abs := by
  simp

theorem requestHold_abs (n : Nat) (s : State) : (requestHold n s).abs = s.abs := by
  have hset : ∀ u : State, (sendHoldSet u).abs = u.abs := by
    intro u
    have hsend : ∀ src id (u : State) (p : Port), (sendHoldOn src id u p).abs = u.abs := by
      intro src id u p
      unfold sendHoldOn
      split <;> rfl
    unfold sendHoldSet
    dsimp only
    split <;> simp [hsend]
  have hcancel : (cancelResume (setCause n s)).abs = s.abs := by
    unfold cancelResume
    split
    case h_2 => rfl
    case h_1 =>
      dsimp only
      rw [completeOpt_abs]
      (repeat' split) <;> simp [hset, setCause]
  unfold requestHold
  dsimp only
  split
  · exact hcancel
  · split <;> exact hcancel

theorem absSync_abs (s : State) : (absSync s).abs = s.abs := by
  have hlost : ∀ u, (absShowLost u).abs = u.abs := by
    intro u
    unfold absShowLost
    split <;> simp
  have hreserve : ∀ u, (absReserve u).abs = u.abs := by
    intro u
    unfold absReserve
    split
    · simp [requestHold_abs]
    split
    · simp [clearCause]
    · rfl
  simp [absSync, hreserve, hlost]

/-! ## The obligation -/

theorem absUsed_accept (n : Fin 16) (s : State) : absUsed (accept n s) = absUsed s := by
  rw [absUsed, absUsed, fget_accept _ _ _ (by decide), fget_accept _ _ _ (by decide)]

theorem absIndex_accept (n : Fin 16) (s : State) (i : Nat) : absIndex (accept n s) i = absIndex s i := by
  rw [absIndex, absIndex, fget_accept _ _ _ (by decide)]

/-- One entry past ABS_TAIL is let go. -/
theorem ackWalk_one {s : State} {e : AbsEntry} (h : s.abs.ring.lookup (fget s Reg.ABS_TAIL_INDEX) = some e) (hstop : ackStops s e = false) :
    ackWalk 1 s = fput Reg.ABS_TAIL_INDEX ((fget s Reg.ABS_TAIL_INDEX + 1) % 2 ^ 32)
      { s with abs := { s.abs with ring := s.abs.ring.filter fun p => p.1 != fget s Reg.ABS_TAIL_INDEX } } := by
  simp [ackWalk, h, hstop]

theorem absFlush_of_none {s : State} (hlost : s.abs.lost = none) (hwaiting : s.abs.waiting = []) : absFlush s = s := by
  simp [absFlush, absFlushLost, hlost, hwaiting, absFlushWaiting]

theorem absRead_answers {r : Req} {s : State} {first cnt : Nat} (ho : s.mail.orphan = false) :
    let n := min cnt (absUsed s - absIndex s first)
    let p := absEntries first n (accept r.slot s)
    let t := complete r.slot .ok (leBytes 4 first ++ leBytes 1 n ++ leBytes 3 0 ++ p.2) p.1
    Answered s t r.slot .ok (leBytes 4 first ++ leBytes 1 n ++ leBytes 3 0 ++ p.2) ∧ t.abs = s.abs ∧ t.flow = s.flow ∧ DramKept s t := by
  intro n p t
  have hrest := (memoryOnly_absEntries first n (accept r.slot s)).rest
  have hp : p.1.mail = (accept r.slot s).mail ∧ p.1.abs = (accept r.slot s).abs ∧ p.1.flow = (accept r.slot s).flow ∧
      p.1.dram = (accept r.slot s).dram := by rw [hrest]; exact ⟨rfl, rfl, rfl, rfl⟩
  obtain ⟨hmail, habs, hflow, hdram⟩ := hp
  exact ⟨answered_of_mail ho hmail, by simp [t, habs], by simp [t, hflow], dramKept_of_eq (by simp [t, hdram])⟩

/-- Registers read and answered leave everything but registers and check-value units. -/
theorem completeWords_answers {s : State} (n : Fin 16) (ks : List Nat) (ho : s.mail.orphan = false) :
    let t := completeWords n ks (accept n s)
    Answered s t n .ok (wordBytes (readRegs ks (accept n s)).2) ∧ t.cache = s.cache ∧ t.abs = s.abs ∧ t.flow = s.flow ∧ t.ev = s.ev ∧
      DramKept s t := by
  intro t
  obtain ⟨m, c, f, hread⟩ := readRegs_eq ks (accept n s)
  refine ⟨answered_of_mail ho (readRegs_mail _ _), ?_, ?_, ?_, ?_, dramKept_of_eq ?_⟩ <;> simp [t, completeWords, hread]

/-- The index behind ABS_TAIL is one entry on. -/
theorem absIndex_next (s : State) : absIndex s ((fget s Reg.ABS_TAIL_INDEX + 1) % 2 ^ 32) = 1 := by
  have hlt : fget s Reg.ABS_TAIL_INDEX < 2 ^ 32 := Nat.mod_lt _ (by decide)
  unfold absIndex
  omega

/-- ABS_ACK of the entry at ABS_TAIL, with nothing that waits for a slot. -/
theorem absAck_frees {s : State} {e : AbsEntry} (n : Fin 16) (p : List Byte) (ho : s.mail.orphan = false) (hlost : s.abs.lost = none)
    (hwaiting : s.abs.waiting = []) (hlook : s.abs.ring.lookup (fget s Reg.ABS_TAIL_INDEX) = some e) (hstop : ackStops s e = false) :
    let t := complete n .ok p (absSync (absFlush (ackWalk 1 (accept n s))))
    fget t Reg.ABS_TAIL_INDEX = (fget s Reg.ABS_TAIL_INDEX + 1) % 2 ^ 32 ∧
      t.abs.ring = s.abs.ring.filter (fun p => p.1 != fget s Reg.ABS_TAIL_INDEX) ∧
      (slotOf t n).status = Status.ok.code ∧ t.job = s.job ∧ DramKept s t := by
  intro t
  have htail : fget (accept n s) Reg.ABS_TAIL_INDEX = fget s Reg.ABS_TAIL_INDEX := fget_accept _ _ _ (by decide)
  have hwalk := ackWalk_one (s := accept n s) (e := e) (by simp [htail, hlook]) (by simpa [ackStops, jobTag] using hstop)
  have hflush : absFlush (ackWalk 1 (accept n s)) = ackWalk 1 (accept n s) :=
    absFlush_of_none (by rw [hwalk]; simp [hlost]) (by rw [hwalk]; simp [hwaiting])
  refine ⟨?_, ?_, ?_, by simp [t], dramKept_of_eq (by simp [t])⟩
  · have hkept := (regsKept_absSync (ackWalk 1 (accept n s))).trans ((regsKept_complete n .ok p _).mono (by simp))
    simp only [t, hflush]
    rw [hkept.fget (by decide), hwalk, fget_fput_same _ _ rfl, htail]
    exact Nat.mod_mod _ _
  · simp only [t, hflush, complete_frame, absSync_abs]
    rw [hwalk, htail]
    simp
  · have hdone : Completing (accept n s) (absSync (absFlush (ackWalk 1 (accept n s)))) :=
      (completing_of_mail (by simp)).trans (completing_absSync _)
    exact (answered_of_completing ho hdone).1

/-- CELL_EVICT of one cell that no other cell places. -/
theorem evictNamed_one {s : State} {n : Fin 16} {id : Nat} (ho : s.mail.orphan = false) (hfree : evictBlocked s [id] = false) :
    let t := evictNamed n [id].eraseDups [id].eraseDups.length (accept n s)
    t.cache.dir = s.cache.dir.filter (fun e => e.1 != id) ∧ (slotOf t n).status = Status.ok.code ∧ t.flow = s.flow ∧
      t.ev = s.ev ∧ t.job = s.job ∧ DramKept s t := by
  have hfree' : evictBlocked (accept n s) [id] = false := by simpa [evictBlocked, lookupCell] using hfree
  have hids : [id].eraseDups = [id] := rfl
  simp only [hids, evictNamed, hfree', Bool.false_eq_true, if_false]
  refine ⟨?_, (answered_of_mail ho (by simp)).1, by simp, by simp, by simp, dramKept_of_eq (by simp)⟩
  simp only [evictCells, cacheSync, complete_frame, fput_frame, accept_frame, List.contains_cons, List.contains_nil, Bool.or_false, bne]

set_option Elab.async false in
/-- Settles O19: what each report and release does to the accepted state. -/
theorem jobReportsAndReleases : Obligations.JobReportsAndReleases := by
  constructor
  · intro r s hmode
    refine ⟨?_, ?_, ?_, ?_⟩
    · intro first h hfirst
      exact completes_of_command rfl h (by simp [rejectBytes]) (acceptedAs_self _ _) (by simp [hfirst]) rfl hmode
    · intro first cnt h h1 h6 hon hreach n
      refine yields_of_effect rfl h ?_ (by simp [h1, h6]) rfl hmode (by simp [hon]) (by simp [hreach])
      simp only [absUsed_accept, absIndex_accept]
      exact absRead_answers h.orphan
    · intro h hon
      obtain ⟨hanswer, hcache, -, hflow, hev, hdram⟩ := completeWords_answers r.slot (registersFrom Reg.SKV_GUARD 12) h.orphan
      exact yields_of_effect rfl h ⟨hanswer, hcache, hflow, hev, hdram⟩ rfl rfl hmode (by simp [hon])
    · intro h hon
      obtain ⟨hanswer, -, habs, hflow, hev, hdram⟩ :=
        completeWords_answers r.slot (registersFrom Reg.ABS_CFG 10 ++ registersFrom (Reg.ABS_ENTRIES 1) 13) h.orphan
      exact yields_of_effect rfl h ⟨hanswer, habs, hflow, hev, hdram⟩ rfl rfl hmode (by simp [hon])
  · intro r s
    constructor
    · intro e h hmode hon hlost hwaiting hused hlook hstop
      refine yields_of_effect rfl h ?_ rfl rfl hmode (by simp [hon]) (decide_eq_true (by rw [absIndex_next]; exact hused))
      simp only [absIndex_accept, absIndex_next]
      exact absAck_frees r.slot _ h.orphan hlost hwaiting hlook hstop
    · intro id h hmode hon hfree
      exact yields_of_effect rfl h (evictNamed_one h.orphan hfree) rfl rfl (by simp [hmode]) (by simp [hon])

end Sys2Proof.Machine
end

section
/-!
PROOFS. The on-die memories, commands that read the input buffer, and the load of a Beam Table (O20).
-/

namespace Sys2Proof.Machine

/-! ## On-die SRAM -/

theorem memoryOnly_useFree (s : State) : MemoryOnly s (useFree s) := ⟨rfl, fun _ _ _ => rfl, fun _ h => h, rfl⟩

theorem memoryOnly_readSram (client w : Nat) (s : State) : MemoryOnly s (readSram client w s) := by
  unfold readSram
  split
  · exact .refl s
  · exact (memoryOnly_eccLog _ _ _ _ _ _ s).trans (memoryOnly_countCorrection _)
  · exact ((memoryOnly_eccLog _ _ _ _ _ _ s).trans (memoryOnly_countUncorrectable _)).trans (memoryOnly_ecc _ _)
  · exact memoryOnly_eccLog _ _ _ _ _ _ s

/-- An injected fault, where one is armed. -/
theorem memoryOnly_inject (c : Prop) [Decidable c] (e : Ecc) (s : State) :
    MemoryOnly s (if c then s else useFree (fput Reg.ECC_INJECT_KIND 0 { s with ecc := e })) := by
  split
  · exact .refl s
  · exact ((memoryOnly_ecc e s).trans (memoryOnly_fput (by decide) _ _)).trans (memoryOnly_useFree _)

theorem memoryOnly_writeSram (w n : Nat) (s : State) : MemoryOnly s (writeSram w n s) := by
  have hread := memoryOnly_foldl (l := sramRmw s w n) (g := fun s v => readSram 1 v s) (fun v _ u => memoryOnly_readSram 1 v u) s
  exact (hread.trans (memoryOnly_ecc _ _)).trans (memoryOnly_inject _ _ _)

theorem MemoryOnly.beams {s t : State} (h : MemoryOnly s t) : t.beams = s.beams := by rw [h.rest]

/-! ## The input buffer -/

/-- What a command makes of the bytes it reads is its result, whatever the reads have changed in the memories. -/
theorem fromBuffer_of_read {r : Req} {s t : State} {off len : Nat} {f : List Byte → State → State} {ok : State → List Byte → Prop}
    (ht : t = withBuffer off len f (accept r.slot s)) (h : ∀ u bs, MemoryOnly (accept r.slot s) u → t = f bs u → ok u bs) :
    FromBuffer r s t off len ok := by
  have hfirst := memoryOnly_memRead (port := Port.proctor) (by decide) (bufferBase + off) len (accept r.slot s)
  unfold withBuffer at ht
  unfold FromBuffer
  split
  case h_1 u bs hread =>
    rw [hread] at hfirst ht
    exact h u bs hfirst ht
  case h_2 u hread =>
    rw [hread] at hfirst ht
    have hsecond := memoryOnly_memRead (port := Port.proctor) (by decide) (bufferBase + off) len u
    dsimp only at ht
    split
    case h_1 v bs hread' =>
      rw [hread'] at hsecond ht
      exact h v bs (hfirst.trans hsecond) ht
    case h_2 v hread' =>
      rw [hread'] at ht
      exact ht

/-! ## The hand-over of the Beam Table -/

theorem completing_beamApply (bell : Option Int) (s : State) : Completing s (beamApply bell s) := by
  unfold beamApply
  split
  case h_1 => exact completing_of_mail rfl
  case h_2 w slot _ =>
    refine Completing.of_mail ((completing_of_mail ?_).trans (completing_completeOpt slot .ok _ _)) (by simp; rfl)
    simp

theorem completing_applyWaiting (n : Nat) (s : State) : Completing s (applyWaiting n s) := by
  induction n generalizing s with
  | zero => exact completing_of_mail rfl
  | succ n ih =>
    unfold applyWaiting
    split
    · exact (completing_beamApply none s).trans (ih _)
    · exact completing_of_mail rfl

theorem completing_applyAll (s : State) : Completing s (applyAll s) := completing_applyWaiting _ s

theorem closeHistory_beams (n : Nat) (s : State) :
    (closeHistory n s).beams = { s.beams with history := (closeHistory n s).beams.history } := rfl

theorem beamCounts_beams (s : State) : (beamCounts s).beams = s.beams := by simp [beamCounts]

theorem stuckRelease_beams (s : State) : (stuckRelease s).beams = s.beams := by
  unfold stuckRelease
  split <;> rfl

theorem loadTable_beams (t : BeamTable) (m : List (Nat × Word)) (s : State) :
    (loadTable t m s).beams.table = t ∧ (loadTable t m s).beams.summary = m := by
  have hsram : ∀ u, (writeSram (entryWord 0) nBeams (writeSram (sumWord 0) nSets u)).beams = u.beams := fun u =>
    (memoryOnly_writeSram _ _ _).beams.trans (memoryOnly_writeSram _ _ _).beams
  unfold loadTable
  rw [stuckRelease_beams, beamCounts_beams, closeHistory_beams, hsram]
  exact ⟨rfl, rfl⟩

theorem completing_loadTable (t : BeamTable) (m : List (Nat × Word)) (s : State) : Completing s (loadTable t m s) :=
  (completing_applyAll s).of_mail (by simp [loadTable])

/-- Settles O20: the bytes that the input buffer gives are refused or loaded as a table. -/
theorem beamTableLoads : Obligations.BeamTableLoads := by
  intro r s off h halign hreach hmode hon
  refine yields_of_effect rfl h (fromBuffer_of_read rfl fun u bs hu ht => ?_) (by simp [halign]) rfl hmode (by simp [hon]) (by dsimp only; exact hreach)
  have hmail : u.mail = (accept r.slot s).mail := by rw [hu.rest]
  have hdram : u.dram = s.dram := by rw [hu.rest]; simp
  constructor
  · intro hgood
    have hload : tableLoadWith r.slot bs u =
        complete r.slot .ok (tableBytes (tableOf bs) (allSummaries (tableOf bs))) (loadTable (tableOf bs) (allSummaries (tableOf bs)) u) := by
      rw [tableLoadWith, hgood]
      rfl
    obtain ⟨htable, hsummary⟩ := loadTable_beams (tableOf bs) (allSummaries (tableOf bs)) u
    have hdone : Completing (accept r.slot s) (loadTable (tableOf bs) (allSummaries (tableOf bs)) u) :=
      (completing_of_mail hmail).trans (completing_loadTable _ _ u)
    obtain ⟨hstatus, hpayload, -, -, -, -, hbusy⟩ :=
      answered_of_completing (st := .ok) (p := tableBytes (tableOf bs) (allSummaries (tableOf bs))) h.orphan hdone
    rw [ht, hload]
    refine ⟨by simpa using htable, by simpa using hsummary, hstatus, hpayload, hbusy, ?_, dramKept_of_eq (by simpa using hdram)⟩
    rw [hu.rest]
    simp
  · intro f hbad
    have hrefuse : tableLoadWith r.slot bs u = complete r.slot .tableInadmissible f.bytes u := by
      rw [tableLoadWith, hbad]
      rfl
    rw [ht, hrefuse]
    refine ⟨rfl, ?_, dramKept_of_eq (by simpa using hdram)⟩
    rw [hu.rest]
    simp

end Sys2Proof.Machine
end

section
/-!
PROOFS. Edits of the Beam Table: BEAM_SET, APPLY, and the apply at a Bell or tick (O21). Two tables are compared by the entries they read as.
-/

namespace Sys2Proof.Machine

/-! ## Entries -/

theorem entry_putEntry (t : BeamTable) (b : Nat) (e : DWord) (c : Nat) : entry (putEntry t b e) c = if c = b then e else entry t c :=
  Sparse.get_set _ t b e c

theorem entry_putEntries_congr {t u : BeamTable} (h : ∀ b, entry t b = entry u b) (es : List (Nat × DWord)) (b : Nat) :
    entry (putEntries t es) b = entry (putEntries u es) b := by
  induction es generalizing t u with
  | nil => exact h b
  | cons p es ih => exact ih fun c => by rw [entry_putEntry, entry_putEntry, h c]

/-- Entries written with the values of another table. -/
theorem entry_putEntries_map (t u : BeamTable) (bs : List Nat) (b : Nat) :
    entry (putEntries t (bs.map fun c => (c, entry u c))) b = if b ∈ bs then entry u b else entry t b := by
  induction bs generalizing t with
  | nil => simp [putEntries]
  | cons c bs ih =>
    refine (ih (putEntry t c (entry u c))).trans ?_
    rw [entry_putEntry]
    by_cases hb : b = c
    · simp [hb]
    · simp [hb]

theorem changeEntry_beams (first b : Nat) (e : DWord) (s : State) : (changeEntry first b e s).beams =
    { s.beams with table := (changeEntry first b e s).beams.table, history := (changeEntry first b e s).beams.history,
                   nextHist := (changeEntry first b e s).beams.nextHist, lastChange := (changeEntry first b e s).beams.lastChange } := by
  have hbeams := (memoryOnly_writeSram (entryWord b) 1 s).beams
  unfold changeEntry
  dsimp only
  split
  · rw [hbeams]
  · simp only [hbeams]

theorem entry_changeEntry (first b : Nat) (e : DWord) (s : State) (c : Nat) :
    entry (changeEntry first b e s).beams.table c = entry (putEntry s.beams.table b e) c := by
  have hbeams := (memoryOnly_writeSram (entryWord b) 1 s).beams
  unfold changeEntry
  dsimp only
  split
  case isTrue h =>
    rw [hbeams] at h ⊢
    rw [entry_putEntry]
    split
    · subst c; exact h
    · rfl
  case isFalse => simp only [hbeams]

/-- The entries of an apply, one after another. -/
theorem changeEntries_beams (first : Nat) (es : List (Nat × DWord)) (s : State) :
    let t := es.foldl (fun s p => changeEntry first p.1 p.2 s) s
    t.beams = { s.beams with table := t.beams.table, history := t.beams.history, nextHist := t.beams.nextHist, lastChange := t.beams.lastChange } ∧
      ∀ b, entry t.beams.table b = entry (putEntries s.beams.table es) b := by
  induction es generalizing s with
  | nil => exact ⟨rfl, fun _ => rfl⟩
  | cons p es ih =>
    obtain ⟨hbeams, hentry⟩ := ih (changeEntry first p.1 p.2 s)
    refine ⟨hbeams.trans (by rw [changeEntry_beams]; rfl), fun b => (hentry b).trans ?_⟩
    exact entry_putEntries_congr (entry_changeEntry first p.1 p.2 s) es b

theorem writeSummary_beams (x : Nat) (w : Word) (s : State) :
    (writeSummary x w s).beams = { s.beams with summary := Sparse.set (fun _ => 0) s.beams.summary x w } :=
  (memoryOnly_writeSram _ _ _).beams

theorem applyEntries_beams (bell : Option Int) (cset : Nat) (sum : Word) (es : List (Nat × DWord)) (s : State) :
    let t := applyEntries bell cset sum es s
    (∀ b, entry t.beams.table b = entry (putEntries s.beams.table es) b) ∧ summary t cset = sum ∧ t.beams.applyCmd = s.beams.applyCmd ∧
      t.beams.stalled = s.beams.stalled ∧ t.beams.queue = s.beams.queue := by
  intro t
  obtain ⟨hbeams, hentry⟩ := changeEntries_beams (firstShotOf bell) es s
  have ht : ∃ h c, t.beams = { (es.foldl (fun s p => changeEntry (firstShotOf bell) p.1 p.2 s) s).beams with
      summary := Sparse.set (fun _ => 0) s.beams.summary cset sum, history := h, changed := c } := by
    simp only [t, applyEntries]
    rw [stuckRelease_beams, beamCounts_beams, closeHistory_beams, writeSummary_beams, hbeams]
    exact ⟨_, _, rfl⟩
  obtain ⟨h, c, ht⟩ := ht
  refine ⟨fun b => ?_, ?_, ?_, ?_, ?_⟩
  · rw [ht]; exact hentry b
  · rw [summary, ht]; exact Sparse.get_set_same _ _ _ _
  all_goals rw [ht, hbeams]

/-! ## What waits for an apply -/

theorem stageNext_table (s : State) : (stageNext s).beams.table = s.beams.table ∧ (stageNext s).beams.summary = s.beams.summary := by
  unfold stageNext
  split
  · exact ⟨rfl, rfl⟩
  split
  · exact ⟨rfl, rfl⟩
  · dsimp only
    unfold applyCommand
    split <;> simp

theorem drainStalled_table (n : Nat) (s : State) :
    (drainStalled n s).beams.table = s.beams.table ∧ (drainStalled n s).beams.summary = s.beams.summary := by
  have hstaging : ∀ k v u, (stagingWrite k v u).beams.table = u.beams.table ∧ (stagingWrite k v u).beams.summary = u.beams.summary := by
    intro k v u
    unfold stagingWrite
    split
    · exact ⟨rfl, rfl⟩
    split
    · unfold applyCommand
      split
      · exact ⟨by simp, by simp⟩
      · exact ⟨rfl, rfl⟩
    · exact ⟨rfl, rfl⟩
  induction n generalizing s with
  | zero => exact ⟨rfl, rfl⟩
  | succ n ih =>
    unfold drainStalled
    split
    case h_1 => exact ⟨rfl, rfl⟩
    case h_2 k v rest _ =>
      split
      · exact ⟨rfl, rfl⟩
      · obtain ⟨htable, hsummary⟩ := ih (stagingWrite k v { s with beams := { s.beams with stalled := rest } })
        exact ⟨htable.trans (hstaging k v _).1, hsummary.trans (hstaging k v _).2⟩

/-- The apply in force is carried out. -/
theorem beamApply_applies {bell : Option Int} {s : State} {w : Word} {slot : Option (Fin 16)} (h : s.beams.applyCmd = some (w, slot)) :
    let t := beamApply bell s
    (∀ b, entry t.beams.table b = entry (putEntries s.beams.table (stagedEntries s w)) b) ∧
      summary t (bits w.toNat 30 16) = rget s Reg.GTH_BT_SUM ∧
      (s.beams.stalled = [] → s.beams.queue = [] → t.beams.applyCmd = none ∧ fbit t Reg.GTH_BT_STATUS_PENDING = false) := by
  intro t
  obtain ⟨hentry, hsummary, -, hstalled, hqueue⟩ := applyEntries_beams bell (bits w.toNat 30 16) (rget s Reg.GTH_BT_SUM) (stagedEntries s w) s
  let u := applyEntries bell (bits w.toNat 30 16) (rget s Reg.GTH_BT_SUM) (stagedEntries s w) s
  let v := fput Reg.GTH_BT_STATUS_PENDING 0 { u with beams := { u.beams with applyCmd := none } }
  let x := completeOpt slot .ok (beamSetBytes v (bits w.toNat 30 16) (firstShotOf bell)) v
  have hx : x.beams = { u.beams with applyCmd := none } := by simp [x, v]
  have ht : t = stageNext (drainStalled x.beams.stalled.length x) := by simp only [t, beamApply, h, x, v, u]
  refine ⟨fun b => ?_, ?_, fun hs hq => ?_⟩
  · rw [ht, (stageNext_table _).1, (drainStalled_table _ _).1, hx]
    exact hentry b
  · rw [ht, summary, (stageNext_table _).2, (drainStalled_table _ _).2, hx]
    exact hsummary
  · have hxs : x.beams.stalled = [] := by rw [hx]; exact hstalled.trans hs
    have hxq : x.beams.queue = [] := by rw [hx]; exact hqueue.trans hq
    have htx : t = x := by
      rw [ht, hxs]
      simp [drainStalled, stageNext, hxq]
    rw [htx]
    refine ⟨by rw [hx], ?_⟩
    rw [(regsKept_completeOpt slot .ok _ v).fbit (by decide)]
    exact fbit_fput _ _ rfl rfl 0

/-! ## BEAM_SET -/

theorem writeSummaries_table (t : BeamTable) (xs : List Int) (s : State) : (writeSummaries t xs s).beams.table = s.beams.table := by
  unfold writeSummaries
  induction xs generalizing s with
  | nil => rfl
  | cons x xs ih => exact (ih _).trans (by rw [writeSummary_beams])

theorem remeasure_beams (es : List (Nat × DWord)) (s : State) : (remeasure es s).beams = s.beams := by
  unfold remeasure
  simp [updBatch]

theorem queueApply_table (cset : Nat) (es : List (Nat × DWord)) (slot : Option (Fin 16)) (s : State) :
    (queueApply cset es slot s).beams.table = s.beams.table := (stageNext_table _).1

theorem mem_differing {t u : BeamTable} {b : Nat} (hb : b < nBeams) : b ∈ differing t u ↔ entry t b ≠ entry u b := by
  unfold differing
  rw [List.mem_filter, List.mem_range]
  simp [hb]

/-- At once, each beam has the entry of the edited table. -/
theorem entry_setAtOnce (n : Fin 16) (es : List (Nat × DWord)) (s : State) {b : Nat} (hb : b < nBeams) :
    entry (setAtOnce n es s).beams.table b = entry (editedTable (applyAll s).beams.table es) b := by
  let u := applyAll s
  let t := editedTable u.beams.table es
  let xs := touchedSets u.beams.table es
  let bs := (differing u.beams.table t ++ es.map (·.1)).eraseDups
  obtain ⟨hentry, -⟩ := applyEntries_beams none (xs.getLastD 0).toNat (summaryOf t (xs.getLastD 0)) (bs.map fun b => (b, entry t b))
    (writeSummaries t xs u)
  have hset : (setAtOnce n es s).beams.table =
      (applyEntries none (xs.getLastD 0).toNat (summaryOf t (xs.getLastD 0)) (bs.map fun b => (b, entry t b)) (writeSummaries t xs u)).beams.table := by
    unfold setAtOnce
    dsimp only
    rw [(complete_frame _ _ _ _).2.2.2.2.2.2.2.2.2.2.2.2.2.1, remeasure_beams]
  rw [hset, hentry b, entry_putEntries_map, writeSummaries_table]
  split
  · rfl
  case isFalse hnot =>
    have hsame : b ∉ differing u.beams.table t := fun h => hnot (List.mem_eraseDups.mpr (List.mem_append_left _ h))
    rw [mem_differing hb, not_not] at hsame
    exact hsame

theorem tableAhead_accept (n : Fin 16) (s : State) : tableAhead (accept n s) = tableAhead s := by
  have hstaged : ∀ w, stagedEntries (accept n s) w = stagedEntries s w := by
    intro w
    refine List.map_congr_left fun i _ => ?_
    rw [fget_accept _ _ _ (show 0x30100 + 0x10 * i ≠ 0x0F060 by omega), rget64, rget64,
      rget_accept _ _ _ (show 0x30104 + 0x10 * i ≠ 0x0F060 by omega), rget_accept _ _ _ (show 0x30108 + 0x10 * i ≠ 0x0F060 by omega)]
  simp only [tableAhead, hstaged, accept_frame]

theorem completing_setAtOnce_effect (es : List (Nat × DWord)) (s : State) :
    ∀ first cset sum changed t xs, Completing s (remeasure es (applyEntries first cset sum changed (writeSummaries t xs (applyAll s)))) := by
  intro first cset sum changed t xs
  exact (completing_applyAll s).of_mail (by simp)

/-- BEAM_SET of a table that stays admissible. -/
theorem beamSet_admits {r : Req} {s : State} {es : List (Nat × DWord)} (ho : s.mail.orphan = false) :
    let t := if modeIn s [.write, .hold] = true then
        queueApply (entSet (es.headD (0, 0)).2).toNat es (some r.slot) (remeasure es (accept r.slot s))
      else setAtOnce r.slot es (accept r.slot s)
    (modeIn s [.write, .hold] = true → t.beams.table = s.beams.table) ∧
      (modeIn s [.write, .hold] = false → (slotOf t r.slot).status = Status.ok.code ∧ slotBusy t r.slot = false ∧
        ∀ b, b < nBeams → entry t.beams.table b = entry (editedTable (applyAll (accept r.slot s)).beams.table es) b) ∧
      t.job = s.job ∧ DramKept s t := by
  intro t
  refine ⟨fun hm => ?_, fun hm => ?_, ?_, dramKept_of_eq ?_⟩
  · simp only [t, hm, if_true, queueApply_table, remeasure_beams, accept_frame]
  · have ht : t = setAtOnce r.slot es (accept r.slot s) := by simp only [t, hm, Bool.false_eq_true, if_false]
    obtain ⟨hstatus, -, -, -, -, -, hbusy⟩ := answered_of_completing (st := .ok) (p := _) ho (completing_setAtOnce_effect es (accept r.slot s) _ _ _ _ _ _)
    rw [ht]
    exact ⟨hstatus, hbusy, fun b hb => entry_setAtOnce r.slot es _ hb⟩
  · simp only [t]
    split <;> simp
  · simp only [t]
    split <;> simp

/-- Settles O21: entries that are staged, queued or written at once are read back from the table. -/
theorem beamEntriesAreWritten : Obligations.BeamEntriesAreWritten := by
  constructor
  · intro r s es h h1 h16 hes hmode hone
    have hmodes : modeIn (accept r.slot s) [.write, .hold] = modeIn s [.write, .hold] := by simp [modeIn]
    simp only [List.all_eq_true, Bool.and_eq_true, beq_iff_eq, decide_eq_true_eq] at hes
    refine yields_of_effect rfl h ?_ ?_ rfl hmode rfl ?_
    · have htable : tableForSet (accept r.slot s) = tableForSet s := tableAhead_accept r.slot s
      simp only [htable, hmodes]
      cases hgood : admissible (editedTable (tableForSet s) es) with
      | true =>
        simp only [Bool.not_true, Bool.false_eq_true, if_true, if_false]
        exact ⟨trivial, beamSet_admits h.orphan⟩
      | false =>
        simp only [Bool.not_false, Bool.false_eq_true, if_true, if_false]
        exact (acceptedAs_self r.slot s).completed _ _ h.orphan
    · have hrank : es.all (fun p => entRank p.2 == 0) = true := List.all_eq_true.mpr fun p hp => by simpa using (hes p hp).1
      cases hm : modeIn s [.write, .hold] with
      | false => simp [h1, h16, hrank]
      | true => simp [h1, h16, hrank, hone hm]
    · exact List.all_eq_true.mpr fun p hp => decide_eq_true (hes p hp).2
  · intro s w
    refine ⟨fun hpend hbit => ?_, fun hpend => ?_, fun hnone => ⟨s, ?_, rfl⟩, fun slot hcmd => ?_⟩
    · have happly : stagingWrite Reg.GTH_BT_CMD w s =
          fput Reg.GTH_BT_STATUS_PENDING 1 { s with beams := { s.beams with applyCmd := some (w, none) } } := by
        simp [stagingWrite, hpend, applyCommand, hbit]
      refine ⟨_, congrArg Host.Outcome.next happly, by simp, fbit_fput _ _ rfl rfl 1, ?_, by simp, dramKept_of_eq (by simp)⟩
      exact fun k hk => regsKept_fput (f := Reg.GTH_BT_STATUS_PENDING) (List.mem_singleton.mpr rfl) 1 _ k hk
    · exact ⟨_, rfl, by simp [stagingWrite, hpend]⟩
    · exact congrArg Host.Outcome.next (by simp [beamApply, hnone])
    · obtain ⟨hentry, hsummary, hover⟩ := beamApply_applies hcmd
      exact ⟨_, rfl, hentry, hsummary, by simp, dramKept_of_eq (by simp), hover⟩

end Sys2Proof.Machine
end

section
/-!
PROOFS. Commands of beam checks and calibration (O22).
-/

namespace Sys2Proof.Machine

/-! ## What votes leave -/

/-- From `s` to `t` votes have been cast or withdrawn, and domains may have dropped: what stands here is kept by both (R465, R467). -/
def VotesMoved (s t : State) : Prop :=
  t = { s with regs := t.regs, ev := t.ev, ras := t.ras, win := t.win, beams := t.beams, pos := t.pos, armed := t.armed, shots := t.shots,
               out := t.out, mot := { s.mot with chans := t.mot.chans }, ecc := t.ecc, coh := t.coh, tim := { s.tim with ts := t.tim.ts }, pwr := t.pwr,
               mon := { s.mon with gpioHigh := t.mon.gpioHigh } }

theorem VotesMoved.trans {s t u : State} (h : VotesMoved s t) (h' : VotesMoved t u) : VotesMoved s u := by
  unfold VotesMoved at *
  rw [h', h]

theorem votesMoved_regs {s t : State} (h : t = { s with regs := t.regs }) : VotesMoved s t := by
  unfold VotesMoved
  rw [h]

theorem votesMoved_fput (f : Field) (v : Nat) (s : State) : VotesMoved s (fput f v s) := rfl

theorem votesMoved_rpor (k : Nat) (s : State) : VotesMoved s (rpor k s) := rfl

theorem votesMoved_fputBit (f : Field) (n : Nat) (b : Bool) (s : State) : VotesMoved s (fputBit f n b s) := by
  unfold fputBit
  split
  · rfl
  · exact votesMoved_fput _ _ s

theorem votesMoved_raiseIf (b : Bool) (n : Nat) (s : State) : VotesMoved s (raiseIf b n s) := by
  cases b <;> rfl

theorem votesMoved_dropPorts (s : State) : VotesMoved s (dropPorts s) := by
  have hraise := (votesMoved_raiseIf (fbit s Reg.COH_STATUS_EAST_UP && !(s.flow.mode == .rest)) Ev.COH_EAST_DOWN s).trans
    (votesMoved_raiseIf (fbit (raiseIf (fbit s Reg.COH_STATUS_EAST_UP && !(s.flow.mode == .rest)) Ev.COH_EAST_DOWN s) Reg.COH_STATUS_WEST_UP &&
      !(s.flow.mode == .rest)) Ev.COH_WEST_DOWN _)
  refine hraise.trans ?_
  unfold dropPorts
  dsimp only
  split
  · rfl
  · rfl

theorem votesMoved_dropContents (d : Nat) (s : State) : VotesMoved s (dropContents d s) := by
  unfold dropContents
  split
  case h_4 => exact votesMoved_dropPorts s
  case h_5 =>
    dsimp only
    split <;> rfl
  all_goals rfl

theorem votesMoved_dropRegs (d : Nat) (s : State) : VotesMoved s (dropRegs d s) := rfl

theorem votesMoved_pwr (p : Pwr) (s : State) : VotesMoved s { s with pwr := p } := rfl

theorem votesMoved_dropDomain (d : Nat) (s : State) : VotesMoved s (dropDomain d s) := by
  have hbanks : ∀ (l : List (Nat × Nat)) (u : State), VotesMoved u (l.foldl (fun s b => emptyBanks b.1 b.2 s) u) := by
    intro l
    induction l with
    | nil => exact fun _ => rfl
    | cons b l ih => exact fun u => VotesMoved.trans (t := emptyBanks b.1 b.2 u) rfl (ih _)
  unfold dropDomain
  split
  · exact (((votesMoved_fputBit Reg.PWR_STATUS_DOMAINS d false s).trans (votesMoved_dropRegs d _)).trans
      (votesMoved_dropContents d _)).trans (hbanks _ _)
  · rfl

theorem votesMoved_settleDrop (n d : Nat) (s : State) : VotesMoved s (settleDrop n d s) := by
  induction n generalizing d s with
  | zero => rfl
  | succ n ih =>
    unfold settleDrop
    split
    · dsimp only
      have hdrop : VotesMoved s (dropDomain d { s with pwr := { s.pwr with raising := s.pwr.raising &&& ~~~((1 : BitVec 9) <<< d) } }) :=
        (votesMoved_pwr _ s).trans (votesMoved_dropDomain d _)
      split
      · exact hdrop.trans (ih _ _)
      · exact hdrop
    · rfl

theorem votesMoved_setVote (d c : Nat) (on : Bool) (s : State) : VotesMoved s (setVote d c on s) := by
  have hput := votesMoved_fputBit (Reg.PWR_VOTE_VOTES d) c on s
  unfold setVote
  dsimp only
  split
  · rw [raiseDomain_eq]
    split
    · exact hput.trans (votesMoved_pwr _ _)
    · rw [voteAnew_eq]
      exact hput.trans (votesMoved_pwr _ _)
  split
  · refine (hput.trans ?_).trans (votesMoved_settleDrop 4 d _)
    rw [noteWithdrawn_eq]
    exact votesMoved_pwr _ _
  · exact hput

theorem votesMoved_setVotes (ds : List Nat) (c : Nat) (on : Bool) (s : State) : VotesMoved s (setVotes ds c on s) := by
  unfold setVotes
  induction ds generalizing s with
  | nil => rfl
  | cons d ds ih => exact (votesMoved_setVote d c on s).trans (ih _)

theorem VotesMoved.health {s t : State} (h : VotesMoved s t) : t.health = s.health := by rw [h]

/-! ## The end of a check run -/

theorem endCheckRun_health (s : State) : (endCheckRun s).health.run = none ∧ (endCheckRun s).health.asked = s.health.asked ∧
    (endCheckRun s).health.starts = s.health.starts := by
  unfold endCheckRun
  split
  case isTrue =>
    have hclose : (closeCheckRun s).health = { s.health with run := none, windows := [] } := by
      have hvotes : ∀ ds c on u, (setVotes ds c on u).health = u.health := fun ds c on u => (votesMoved_setVotes ds c on u).health
      unfold closeCheckRun
      dsimp only
      (repeat' split) <;> simp [hvotes]
    rw [hclose]
    exact ⟨rfl, rfl, rfl⟩
  case isFalse h => exact ⟨by simpa using h, rfl, rfl⟩

theorem stopChan_health (n : Nat) (s : State) : (stopChan n s).health = s.health := by
  unfold stopChan
  dsimp only
  split
  · split <;> simp [startProfile, cancelCommit, updChan]
  · simp [cancelCommit, updChan]

theorem dropLocate_health (s : State) : (dropLocate s).health = s.health := by
  unfold dropLocate locateOver
  split
  · split <;> simp [disownStage, stopStage, stopChan_health]
  · rfl

theorem dropStarts_health (s : State) : (dropStarts s).health.run = s.health.run ∧ (dropStarts s).health.starts = [] := by
  have hfold : ∀ (l : List (CheckStep × Fin 16)) (u : State), (l.foldl (fun s p => complete p.2 .aborted [] s) u).health = u.health :=
    fun l u => foldl_health l _ u fun s x t h => by rw [← h]; simp
  unfold dropStarts
  rw [hfold]
  exact ⟨rfl, rfl⟩

theorem stopChecks_health (s : State) : (stopChecks s).health.run = none ∧ (stopChecks s).health.asked = [] ∧
    (stopChecks s).health.starts = [] ∧ (stopChecks s).health.paused = true := by
  obtain ⟨hrun, hstarts⟩ := dropStarts_health (dropLocate (endCheckRun s))
  rw [dropLocate_health, (endCheckRun_health s).1] at hrun
  unfold stopChecks
  dsimp only
  unfold raiseIf
  split <;> exact ⟨hrun, rfl, hstarts, rfl⟩

theorem regsKept_dropStarts (s : State) : RegsKept [Reg.MBX_STATE] s (dropStarts s) := by
  have hfold : ∀ (l : List (CheckStep × Fin 16)) (u : State), RegsKept [Reg.MBX_STATE] u (l.foldl (fun s p => complete p.2 .aborted [] s) u) := by
    intro l
    induction l with
    | nil => exact fun _ _ _ => rfl
    | cons p l ih => exact fun u => (regsKept_complete _ _ _ u).trans (ih _)
  exact hfold _ { s with health := _ }

/-- With no run and no traverse in progress, stopping the checks completes commands and does no more to a register. -/
theorem regsKept_stopChecks {s : State} (hrun : s.health.run = none) (hlocate : s.mot.locate = false) :
    RegsKept [Reg.MBX_STATE] s (stopChecks s) := by
  have hidle : dropLocate (endCheckRun s) = s := by simp [endCheckRun, hrun, dropLocate, hlocate]
  unfold stopChecks
  rw [hidle]
  dsimp only
  unfold raiseIf
  split <;> exact regsKept_dropStarts s

/-! ## Asking for a check step -/

theorem askFor_asks (c : CheckStep) (r : Req) (s : State) :
    (askFor c r s).health.asked.contains c = true ∧ (askFor c r s).health.starts = s.health.starts ++ [(c, r.slot)] ∧
      (askFor c r s).health.paused = s.health.paused ∧ askFor c r s = { s with health := (askFor c r s).health } := by
  refine ⟨?_, rfl, rfl, rfl⟩
  simp only [askFor, ask]
  split
  · assumption
  · simp

/-- What BEAM_CHECK and BEAM_LOCATE have in common: a step is asked for on a state that acceptance and the command's own part have made. -/
theorem asked_of_accepted {r : Req} {s u : State} {c : CheckStep} (hmail : u.mail = (accept r.slot s).mail)
    (hstarts : u.health.starts = s.health.starts) (hpaused : u.health.paused = false) (hflow : u.flow = s.flow) (hev : u.ev = s.ev)
    (hdram : u.dram = s.dram) :
    (askFor c r u).health.asked.contains c = true ∧ (askFor c r u).health.starts = s.health.starts ++ [(c, r.slot)] ∧
      (slotOf (askFor c r u) r.slot).status = Status.inProgress.code ∧ (askFor c r u).health.paused = false ∧ (askFor c r u).flow = s.flow ∧
      (askFor c r u).ev = s.ev ∧ DramKept s (askFor c r u) := by
  obtain ⟨hasked, hnew, hp, hrest⟩ := askFor_asks c r u
  exact ⟨hasked, hnew.trans (by rw [hstarts]), status_inProgress (s := s) (by rw [hrest]; exact hmail), hp.trans hpaused,
    by rw [hrest]; exact hflow, by rw [hrest]; exact hev, dramKept_of_eq (by rw [hrest]; exact hdram)⟩

/-- What LOCATE does before it asks for its first traverse. -/
theorem startLocate_owns (r : Req) (s : State) :
    (startLocate r s).mot.locate = true ∧ fbit (startLocate r s) (Reg.MOT_CH_STATUS_OWNED 0) = true ∧
      fbit (startLocate r s) (Reg.MOT_CH_STATUS_OWNED 1) = true := by
  have hregs : (startLocate r s).regs = (ownStage s).regs := by
    simp only [startLocate, askFor, ask]
    (repeat' split) <;> rfl
  have hfbit : ∀ f, fbit (startLocate r s) f = fbit (ownStage s) f := fun f => by rw [fbit, fbit, fget_congr (rget_regs_congr hregs _)]
  rw [hfbit, hfbit]
  refine ⟨?_, fbit_ownStage s⟩
  simp only [startLocate, askFor, ask]
  (repeat' split) <;> rfl

theorem startLocate_asks (r : Req) (s : State) : ∃ u, startLocate r s = askFor .locateX r u ∧ u.mail = s.mail ∧
    u.health.starts = s.health.starts ∧ u.health.paused = false ∧ u.flow = s.flow ∧ u.ev = s.ev ∧ u.dram = s.dram := by
  unfold startLocate
  dsimp only
  (repeat' split) <;> exact ⟨_, rfl, rfl, rfl, rfl, rfl, rfl, rfl⟩

/-- BEAM_CHECK in the modes that accept it (R247). -/
theorem yields_of_beamCheck {r : Req} {s : State} {op : Nat} {p : State → Prop} (h : Admitted s r 0x0303 4 false) (hop : op ≤ 2)
    (hmode : s.flow.mode = .service ∨ modeIn s [.write, .hold] = true ∧ betweenStripes s = true ∧
      (op == 0 || (op == 1 && s.flow.mode == .write)) = true)
    (hp : p (match (generalizing := false) op with
      | 0 => askFor .dark r { accept r.slot s with health := { (accept r.slot s).health with paused := false } }
      | 1 => askFor .scan r (fput Reg.BHM_SCAN_CURSOR_INDEX 0 (restartChecks (accept r.slot s)))
      | _ => complete r.slot .ok [] (stopChecks (accept r.slot s)))) : Yields (.beamCheck r op) s p := by
  let g : Gate := { op := 0x0303, len := 4, inRange := decide (op ≤ 2)
                    accepted := s.flow.mode == .service || ((modeIn s [.write, .hold] && betweenStripes s) && (op == 0 || (op == 1 && s.flow.mode == .write))) }
  have haccepted : g.accepted = true := by
    obtain hm | ⟨hm, hbetween, hin⟩ := hmode
    · simp [g, hm]
    · simp only [g, hm, hbetween, hin, Bool.and_self, Bool.or_true]
  have hexec : exec (.beamCheck r op) s = .next (runCommand r g (fun s => match (generalizing := false) op with
      | 0 => askFor .dark r { s with health := { s.health with paused := false } }
      | 1 => askFor .scan r (fput Reg.BHM_SCAN_CURSOR_INDEX 0 (restartChecks s))
      | _ => complete r.slot .ok [] (stopChecks s)) s) := rfl
  exact yields_of_effect hexec h hp (decide_eq_true hop) rfl haccepted

/-! ## Reports -/

theorem leBytes_length (n v : Nat) : (leBytes n v).length = n := by
  simp

/-- Bytes on record, or free ones, of the length asked for. -/
theorem orFree_spec (n : Nat) (v : Option (List Byte)) (hv : ∀ bs, v = some bs → bs.length = n) (s : State) :
    (orFree n v s).2.length = n ∧ (∀ bs, v = some bs → (orFree n v s).2 = bs) ∧ ∃ f, (orFree n v s).1 = { s with free := f } := by
  cases v with
  | none => exact ⟨leBytes_length n _, by simp, _, rfl⟩
  | some bs => exact ⟨hv bs rfl, fun _ h => Option.some.inj h, _, rfl⟩

theorem setVotes_keeps (ds : List Nat) (c : Nat) (s : State) :
    let t := setVotes ds c false (setVotes ds c true s)
    t.mail = s.mail ∧ t.flow = s.flow ∧ t.dram = s.dram := by
  simp

/-- ANALOG_CAL: the readings are stored, or REFV_FAULT is raised. -/
theorem analogCal_judges {r : Req} {s : State} {refv : Nat} {adc : List (Int × Nat)} {sensors : List Int} {rails : List Nat}
    (h : Admitted s r 0x0308 0 false) (hm : s.flow.mode = .ready ∨ s.flow.mode = .service) :
    let within := 1188000 ≤ refv ∧ refv ≤ 1212000 ∧ (∀ p ∈ adc, p.1.natAbs ≤ 256 ∧ gainOk p.2 = true) ∧
      (∀ v ∈ sensors, v.natAbs ≤ 3000) ∧ ∀ g ∈ rails, gainOk g = true
    (within → Yields (.analogCal r refv adc sensors rails) s fun t => Answered s t r.slot .ok (leBytes 4 refv) ∧
      t.health.adcCal = adc ∧ t.health.sensorCal = sensors ∧ t.health.railCal = rails ∧ t.flow = s.flow ∧ DramKept s t) ∧
    (¬ within → Yields (.analogCal r refv adc sensors rails) s fun t => Answered s t r.slot .calFail [] ∧
      t.ev.bits.getLsbD Ev.REFV_FAULT = true ∧ t.flow = s.flow ∧ DramKept s t) := by
  intro within
  have hmode : modeIn s [.ready, .service] = true := by simpa [modeIn] using hm
  let good := adc.all (fun p => decide (p.1.natAbs ≤ 256) && gainOk p.2) && sensors.all (fun v => decide (v.natAbs ≤ 3000)) && rails.all gainOk
  have hgood : within ↔ (1188000 ≤ refv ∧ refv ≤ 1212000) ∧ good = true := by
    simp only [within, good, Bool.and_eq_true, List.all_eq_true, decide_eq_true_eq]
    tauto
  have hfail : ∀ u : State, u.mail = (accept r.slot s).mail → u.flow = s.flow → u.dram = s.dram →
      Answered s (complete r.slot .calFail [] (raise Ev.REFV_FAULT u)) r.slot .calFail [] ∧
        (complete r.slot .calFail [] (raise Ev.REFV_FAULT u)).ev.bits.getLsbD Ev.REFV_FAULT = true ∧
        (complete r.slot .calFail [] (raise Ev.REFV_FAULT u)).flow = s.flow ∧ DramKept s (complete r.slot .calFail [] (raise Ev.REFV_FAULT u)) := by
    intro u hmail hflow hdram
    refine ⟨answered_of_mail h.orphan hmail, ?_, by simpa using hflow, dramKept_of_eq (by simpa using hdram)⟩
    rw [(complete_frame _ _ _ _).2.2.2.1, getLsbD_raise]
    simp [Ev.REFV_FAULT]
  obtain ⟨hmail, hflow, hdram⟩ := setVotes_keeps [Dom.GATH, Dom.OUT] Client.cal (accept r.slot s)
  constructor
  · intro hw
    obtain ⟨⟨hlo, hhi⟩, hall⟩ := hgood.mp hw
    refine yields_of_effect rfl h ?_ rfl rfl hmode
    have hrange : ¬ (refv < 1188000 ∨ 1212000 < refv) := by omega
    simp only [hrange, if_false, show (_ && _ && _) = true from hall, if_true]
    exact ⟨answered_of_mail h.orphan hmail, by simp, by simp, by simp, by simp, dramKept_of_eq (by simp)⟩
  · intro hw
    refine yields_of_effect rfl h ?_ rfl rfl hmode
    by_cases hrange : refv < 1188000 ∨ 1212000 < refv
    · simp only [hrange, if_true]
      exact hfail _ hmail (hflow.trans (by simp)) (hdram.trans (by simp))
    · have hbad : good = false := by
        rw [← Bool.not_eq_true]
        exact fun hall => hw (hgood.mpr ⟨by omega, hall⟩)
      simp only [hrange, if_false, show (_ && _ && _) = false from hbad, Bool.false_eq_true]
      exact hfail _ hmail (hflow.trans (by simp)) (hdram.trans (by simp))

/-! ## The obligation -/

/-- CAL_ABORT ends the run, and in Service the sequence of checks. -/
theorem calAbort_ends {r : Req} {s : State} (h : Admitted s r 0x0306 0 false) (hmode : rwhs s = true) (hon : powered s Dom.GATH = true) :
    let ended := fun (u : State) => if s.flow.mode = .service then stopChecks u else endCheckRun u
    Yields (.calAbort r) s fun t =>
      Answered s t r.slot .ok (leBytes 4 (fget (ended (accept r.slot s)) Reg.BHM_CAL_CURSOR_BEAM)) ∧
      fbit t Reg.BHM_CAL_CURSOR_ACTIVE = false ∧ t.health.run = none ∧ (s.flow.mode = .service → t.health.asked = []) ∧
      t.flow = s.flow ∧ DramKept s t ∧
      (s.health.run = none → s.mot.locate = false → RegsKept [Reg.MBX_STATE, Reg.BHM_CAL_CURSOR] s t ∧
        fget (ended (accept r.slot s)) Reg.BHM_CAL_CURSOR_BEAM = fget s Reg.BHM_CAL_CURSOR_BEAM) := by
  intro ended
  let u := ended (accept r.slot s)
  have hflow : u.flow = s.flow := by simp only [u, ended]; split <;> simp
  have hdram : u.dram = s.dram := by simp only [u, ended]; split <;> simp
  have hcompleting : Completing (accept r.slot s) u := by
    simp only [u, ended]
    split
    · exact completing_stopChecks _
    · exact completing_of_mail (by simp)
  have hrun : u.health.run = none := by
    simp only [u, ended]
    split
    · exact (stopChecks_health _).1
    · exact (endCheckRun_health _).1
  have hasked : s.flow.mode = .service → u.health.asked = [] := fun hm => by
    simp only [u, ended, hm, if_true]
    exact (stopChecks_health _).2.1
  have hregs : s.health.run = none → s.mot.locate = false → RegsKept [Reg.MBX_STATE] (accept r.slot s) u := fun hr hl => by
    simp only [u, ended]
    split
    · exact regsKept_stopChecks (by simpa using hr) (by simpa using hl)
    · have : endCheckRun (accept r.slot s) = accept r.slot s := by simp [endCheckRun, hr]
      rw [this]
      exact fun _ _ => rfl
  have hbeam : fget (fput Reg.BHM_CAL_CURSOR_ACTIVE 0 u) Reg.BHM_CAL_CURSOR_BEAM = fget u Reg.BHM_CAL_CURSOR_BEAM :=
    fget_fput_beside _ _ _ rfl _ (by decide) (by decide)
  refine yields_of_effect rfl h ?_ rfl rfl hmode (by simp [hon])
  simp only [accept_frame, hbeam, show (if s.flow.mode = .service then stopChecks (accept r.slot s) else endCheckRun (accept r.slot s)) = u from rfl]
  refine ⟨answered_of_completing h.orphan (hcompleting.of_mail (by simp)), ?_, by simpa using hrun, fun hm => by simpa using hasked hm,
    by simpa using hflow, dramKept_of_eq (by simpa using hdram), fun hr hl => ⟨?_, ?_⟩⟩
  · rw [(regsKept_complete _ _ _ _).fbit (by decide)]
    exact fbit_fput _ _ rfl rfl 0
  · exact regsKept_command (((hregs hr hl).mono (by simp)).trans (regsKept_fput (by decide) _ _))
  · rw [show ended (accept r.slot s) = u from rfl, (hregs hr hl).fget (by decide), fget_accept _ _ _ (by decide)]

/-- BEAM_REPORT of one beam. -/
theorem beamReport_beam {r : Req} {s : State} {b : Nat} (h : Admitted s r 0x0307 8 false) (hmode : rwhs s = true) (hb : b < nBeams) :
    ∃ p q : List Byte, p.length = 4 ∧ q.length = 8 ∧
      (∀ x, (s.beams.lastPass.find? fun e => e.1 == b) = some x → p = leBytes 2 x.2.1 ++ leBytes 2 x.2.2) ∧
      (∀ x, (s.beams.lastChange.find? fun e => e.1 == b) = some x → q = leBytes 2 x.2.1 ++ leBytes 2 x.2.2.1 ++ leBytes 4 x.2.2.2) ∧
      Yields (.beamReport r 1 b) s fun t => Answered s t r.slot .ok (leBytes 8 (entry s.beams.table b).toNat ++ p ++ q) ∧
        t.beams = s.beams ∧ t.flow = s.flow ∧ t.ev = s.ev ∧ DramKept s t := by
  let pass := (s.beams.lastPass.find? fun e => e.1 == b).map fun p => leBytes 2 p.2.1 ++ leBytes 2 p.2.2
  let change := (s.beams.lastChange.find? fun e => e.1 == b).map fun p => leBytes 2 p.2.1 ++ leBytes 2 p.2.2.1 ++ leBytes 4 p.2.2.2
  let p := orFree 4 pass (accept r.slot s)
  let q := orFree 8 change p.1
  obtain ⟨hplen, hp, f, hpfree⟩ := orFree_spec 4 pass (fun bs hbs => by
    obtain ⟨x, -, rfl⟩ := Option.map_eq_some_iff.mp hbs
    simp) (accept r.slot s)
  obtain ⟨hqlen, hq, f', hqfree⟩ := orFree_spec 8 change (fun bs hbs => by
    obtain ⟨x, -, rfl⟩ := Option.map_eq_some_iff.mp hbs
    simp) p.1
  have hrest : q.1 = { accept r.slot s with free := f' } := by rw [show q.1 = _ from hqfree, show p.1 = _ from hpfree]
  refine ⟨p.2, q.2, hplen, hqlen, fun x hx => hp _ (by simp [pass, hx]), fun x hx => hq _ (by simp [change, hx]), ?_⟩
  refine yields_of_effect rfl h ?_ rfl rfl hmode rfl (decide_eq_true hb)
  have hreport : reportBeam r.slot b (accept r.slot s) =
      complete r.slot .ok (leBytes 8 (entry s.beams.table b).toNat ++ p.2 ++ q.2) q.1 := by
    simp only [reportBeam, accept_frame, p, q, pass, change]
  change Answered s (reportBeam r.slot b (accept r.slot s)) _ _ _ ∧ (reportBeam r.slot b (accept r.slot s)).beams = _ ∧
    (reportBeam r.slot b (accept r.slot s)).flow = _ ∧ (reportBeam r.slot b (accept r.slot s)).ev = _ ∧ DramKept s (reportBeam r.slot b (accept r.slot s))
  rw [hreport]
  refine ⟨answered_of_mail h.orphan (by rw [hrest]), ?_, ?_, ?_, dramKept_of_eq ?_⟩ <;> simp [hrest]

theorem reportHistory_accept (n : Fin 16) (i : Nat) (s : State) : reportHistory n i (accept n s) = complete n .ok
    (leBytes 4 s.beams.nextHist ++ leBytes 1 (historyFrom s i).length ++ [0, 0, 0] ++ (historyFrom s i).flatMap History.bytes) (accept n s) := by
  have hbeams : (accept n s).beams = s.beams := by simp
  have hhistory : historyFrom (accept n s) i = historyFrom s i := by rw [historyFrom, historyFrom, hbeams]
  rw [reportHistory, hhistory, hbeams]

set_option Elab.async false in
/-- Settles O22: what each command of the group makes of the accepted state. -/
theorem checksAreAskedAndReported : Obligations.ChecksAreAskedAndReported := by
  constructor
  · intro r s between asked ended
    refine ⟨fun h hm => ?_, fun h hm => ?_, fun h hm => ?_, fun h hm => ?_, fun h hm hon => ⟨fun href => ?_, fun href => ?_⟩, fun h hm hon => ?_⟩
    · refine yields_of_beamCheck h (by omega) (hm.imp_right fun h => ⟨by simpa [modeIn] using h.1, h.2, rfl⟩) ?_
      exact ⟨asked_of_accepted rfl (by simp) rfl (by simp) (by simp) (by simp), regsKept_accept _ _⟩
    · refine yields_of_beamCheck h (by omega) (hm.imp_right fun h => ⟨by simp [modeIn, h.1], h.2, by simp [h.1]⟩) ?_
      have hindex := regsKept_fput (ks := [Reg.MBX_STATE, Reg.BHM_SCAN_CURSOR]) (f := Reg.BHM_SCAN_CURSOR_INDEX) (by simp) 0
        (restartChecks (accept r.slot s))
      exact ⟨asked_of_accepted rfl (by simp [restartChecks]) rfl (by simp [restartChecks]) (by simp [restartChecks]) (by simp [restartChecks]),
        fget_fput_same _ _ rfl 0, ((regsKept_accept _ _).mono (by simp)).trans hindex⟩
    · obtain ⟨hrun, hasked, hstarts, hpaused⟩ := stopChecks_health (accept r.slot s)
      refine yields_of_beamCheck h (by omega) (.inl hm) ?_
      exact ⟨answered_of_completing h.orphan ((completing_stopChecks _).of_mail (by simp)), by simpa using hrun, by simpa using hasked,
        by simpa using hstarts, by simpa using hpaused, by simp, dramKept_of_eq (by simp)⟩
    · refine yields_of_effect rfl h ?_ rfl rfl ?_
      on_goal 2 =>
        obtain hm | ⟨hm, hb⟩ := hm
        · simp [hm]
        · simp [hm, show betweenStripes s = true from hb]
      obtain ⟨u, hu, hmail, hhealth, hpaused, hflow, hev, hdram⟩ := startLocate_asks r (accept r.slot s)
      refine ⟨?_, startLocate_owns r _⟩
      rw [hu]
      exact asked_of_accepted hmail (by simpa using hhealth) hpaused (by simpa using hflow) (by simpa using hev) (by simpa using hdram)
    · exact completes_of_command rfl h (by simp [fget_accept r.slot s Reg.BHM_CAL_REF_REF (by decide), href])
        (acceptedAs_self _ _) rfl rfl hm (by simp [hon])
    · refine yields_of_effect rfl h ?_ rfl rfl hm (by simp [hon])
      rw [if_neg (by rwa [fget_accept _ _ _ (by decide)])]
      let u := restartChecks (accept r.slot s)
      have hregs : RegsKept [Reg.MBX_STATE, Reg.BHM_CAL_CURSOR] (accept r.slot s) (fput Reg.BHM_CAL_CURSOR_BEAM 0 (fput Reg.BHM_CAL_CURSOR_ACTIVE 1 u)) :=
        (regsKept_fput (by simp) 1 u).trans (regsKept_fput (by simp) 0 _)
      refine ⟨answered_of_mail h.orphan rfl, ?_, ?_, regsKept_command hregs, by simp [restartChecks], dramKept_of_eq (by simp [restartChecks])⟩
      · rw [(regsKept_complete _ _ _ _).fbit (by decide), fbit_fput_beside _ _ _ rfl _ (by decide) (by decide)]
        exact fbit_fput _ _ rfl rfl 1
      · rw [(regsKept_complete _ _ _ _).fget (by decide)]
        exact fget_fput_same _ _ rfl 0
    · exact calAbort_ends h hm hon
  · intro r s
    refine ⟨fun h hm => ⟨fun arg hon => ?_, fun b hb => beamReport_beam h hm hb, fun i hi => ?_⟩, fun refv adc sensors rails h hm => ?_⟩
    · obtain ⟨hanswer, -, -, hflow, hev, hdram⟩ := completeWords_answers r.slot reportRegs h.orphan
      exact yields_of_effect rfl h ⟨hanswer, hflow, hev, hdram⟩ rfl rfl hm (by simp [hon])
    · exact completes_of_command rfl h (reportHistory_accept r.slot i s) (acceptedAs_self _ _) rfl rfl hm rfl (decide_eq_true hi)
    · exact analogCal_judges h hm

end Sys2Proof.Machine
end

section
/-!
PROOFS. O23 fails in a state whose DRAM is not in canonical form: the zeroing of a page drops entries of that page, and one of them may have kept
an entry of another page from being read.
-/

namespace Sys2Proof.Machine

/-- Ready after Boot, with every domain powered that holds DRAM. The entry of byte 0 stands behind one of the staging ring, and so does not read. -/
def hiddenByte : State :=
  { State.reset with
    regs := [(Reg.PWR_STATUS, 0x2F)]
    dram := [((region Rgn.staging).lo, 0), (0, 5)]
    flow := { State.reset.flow with mode := .ready, boot := .over } }

/-- A MEM_ZERO in slot 0. -/
def zeroRequest : Req := ⟨0, 12, true⟩

/-- The first page of the staging ring is zeroed, and byte 0 reads 5. -/
theorem memZero_shows : dramByte (memZeroCommand zeroRequest Rgn.staging 0 1 hiddenByte) 0 = 5 := by decide +kernel

/-- Refutes O23: MEM_ZERO may change what a byte outside its pages reads where DRAM is not in canonical form. -/
theorem not_memoryIsZeroed : ¬ Obligations.MemoryIsZeroed := by
  intro h
  have hadmit : Admitted hiddenByte zeroRequest 0x0402 12 false := ⟨rfl, rfl, by decide, by decide, fun _ => by decide, rfl⟩
  obtain ⟨t, hexec, _, _, hkept, _⟩ := (h zeroRequest hiddenByte).1 Rgn.staging 0 1 hadmit (by decide) (by decide) (by decide)
    (by decide) (by decide) (by decide)
  have ht : memZeroCommand zeroRequest Rgn.staging 0 1 hiddenByte = t := Host.Outcome.next.inj hexec
  have hbyte := hkept 0 (.inl (by decide))
  rw [← ht, memZero_shows] at hbyte
  exact absurd hbyte (by decide)

end Sys2Proof.Machine
end

section
/-!
PROOFS. The configuration of the cohort (O24).
-/

namespace Sys2Proof.Machine

/-! ## The votes for the cohort links and for Ethernet (R465, Table 20-2) -/

/-- The registers that a vote for COH or ETH may change: neither holds a block, and neither does PROC, which both need. -/
def linkVoteRegs : List Nat :=
  [Reg.PWR_VOTE Dom.COH, Reg.PWR_VOTE Dom.ETH, Reg.PWR_STATUS, Reg.COH_DELAY, Reg.COH_FRAME_ERR, Reg.COH_LANES, Reg.COH_STATUS,
    Reg.TIM_TS_DROP, Reg.TIM_PTP_OFS, Reg.TIM_TS_COUNT]

/-- What a vote for COH or ETH keeps. -/
def LinkVoted (s t : State) : Prop := RegsKept linkVoteRegs s t ∧ t.coh.go = s.coh.go

theorem LinkVoted.trans {s t u : State} (h : LinkVoted s t) (h' : LinkVoted t u) : LinkVoted s u := ⟨h.1.trans h'.1, h'.2.trans h.2⟩

theorem linkVoted_of_eq {s t : State} (hregs : t.regs = s.regs) (hcoh : t.coh = s.coh) : LinkVoted s t := ⟨regsKept_of_eq hregs, by rw [hcoh]⟩

theorem linkVoted_fput {f : Field} (h : f.reg ∈ linkVoteRegs) (v : Nat) (s : State) : LinkVoted s (fput f v s) := ⟨regsKept_fput h v s, rfl⟩

/-- Two registers return to POR, unless the module is in Rest. -/
theorem linkVoted_rpor2 {k l : Nat} (hk : k ∈ linkVoteRegs) (hl : l ∈ linkVoteRegs) (c : Prop) [Decidable c] (s : State) :
    LinkVoted s (if c then s else rpor k (rpor l s)) := by
  split
  · exact linkVoted_of_eq rfl rfl
  · exact ⟨(regsKept_rset hl _ s).trans (regsKept_rset hk _ _), rfl⟩

theorem linkVoted_dropPorts (s : State) : LinkVoted s (dropPorts s) := by
  let u := raiseIf (fbit s Reg.COH_STATUS_EAST_UP && !(s.flow.mode == .rest)) Ev.COH_EAST_DOWN s
  let v := raiseIf (fbit u Reg.COH_STATUS_WEST_UP && !(s.flow.mode == .rest)) Ev.COH_WEST_DOWN u
  let w := if (s.flow.mode == .rest) = true then v else rpor Reg.COH_FRAME_ERR (rpor Reg.COH_DELAY v)
  let x : State := { w with coh := { w.coh with heardEast := false, heardWest := false, peers := w.coh.peers.map fun q => { q with alive := none } } }
  have hv : LinkVoted s v := linkVoted_of_eq (by simp [v, u]) (by simp [v, u])
  have hw : LinkVoted v w := linkVoted_rpor2 (by simp [linkVoteRegs]) (by simp [linkVoteRegs]) _ v
  have hx : LinkVoted w x := ⟨fun _ _ => rfl, rfl⟩
  exact ((((hv.trans hw).trans hx).trans (linkVoted_fput (f := Reg.COH_STATUS_WEST_UP) (by simp [linkVoteRegs]) 0 x)).trans
    (linkVoted_fput (f := Reg.COH_STATUS_EAST_UP) (by simp [linkVoteRegs]) 0 _)).trans
    ((linkVoted_fput (f := Reg.COH_LANES_WEST) (by simp [linkVoteRegs]) 0 _).trans
      (linkVoted_fput (f := Reg.COH_LANES_EAST) (by simp [linkVoteRegs]) 0 _))

/-- The queue of timestamps is lost with ETH. -/
theorem linkVoted_dropEthernet (s : State) : LinkVoted s (dropContents Dom.ETH s) := by
  let v := if s.flow.mode = .rest then s else rpor Reg.TIM_TS_DROP (rpor Reg.TIM_PTP_OFS s)
  have hv : LinkVoted s v := linkVoted_rpor2 (by simp [linkVoteRegs]) (by simp [linkVoteRegs]) _ s
  have hts : LinkVoted v { v with tim := { v.tim with ts := [] } } := ⟨fun _ _ => rfl, rfl⟩
  exact (hv.trans hts).trans (linkVoted_fput (f := Reg.TIM_TS_COUNT_ENTRIES) (by simp [linkVoteRegs]) 0 _)

/-- COH, ETH or PROC drops: none of them holds a register. -/
theorem linkVoted_dropDomain {d : Nat} (hd : d = Dom.COH ∨ d = Dom.ETH ∨ d = Dom.PROC) (s : State) : LinkVoted s (dropDomain d s) := by
  have hblocks : domainBlocks d = [] := by obtain rfl | rfl | rfl := hd <;> decide
  have hbanks : ∀ (l : List (Nat × Nat)) (u : State), LinkVoted u (l.foldl (fun s b => emptyBanks b.1 b.2 s) u) := by
    intro l
    induction l with
    | nil => exact fun _ => linkVoted_of_eq rfl rfl
    | cons b l ih => exact fun u => (linkVoted_of_eq (t := emptyBanks b.1 b.2 u) rfl rfl).trans (ih _)
  unfold dropDomain
  split
  case isFalse => exact linkVoted_of_eq rfl rfl
  case isTrue =>
    have hput : LinkVoted s (fputBit Reg.PWR_STATUS_DOMAINS d false s) :=
      ⟨regsKept_fputBit (by simp [linkVoteRegs]) _ _ _, by simp⟩
    have hregs : LinkVoted (fputBit Reg.PWR_STATUS_DOMAINS d false s) (dropRegs d (fputBit Reg.PWR_STATUS_DOMAINS d false s)) :=
      linkVoted_of_eq (by simp [dropRegs, hblocks]) rfl
    refine ((hput.trans hregs).trans ?_).trans (hbanks _ _)
    obtain rfl | rfl | rfl := hd
    · exact linkVoted_dropPorts _
    · exact linkVoted_dropEthernet _
    · exact linkVoted_of_eq rfl rfl

/-- A domain without votes is no longer raised. -/
def notRaised (d : Nat) (s : State) : State := { s with pwr := { s.pwr with raising := s.pwr.raising &&& ~~~((1 : BitVec 9) <<< d) } }

theorem linkVoted_dropped {d : Nat} (hd : d = Dom.COH ∨ d = Dom.ETH ∨ d = Dom.PROC) (s : State) : LinkVoted s (dropDomain d (notRaised d s)) :=
  (linkVoted_of_eq (t := notRaised d s) rfl rfl).trans (linkVoted_dropDomain hd _)

/-- COH and ETH both need PROC alone. -/
theorem settleDrop_link {d : Nat} (hd : d = Dom.COH ∨ d = Dom.ETH) (n : Nat) (s : State) : settleDrop (n + 1) d s =
    if votes s d = 0 ∧ noDependents s d ∧ 2 ≤ d then settleDrop n Dom.PROC (dropDomain d (notRaised d s)) else s := by
  obtain rfl | rfl := hd <;> rfl

theorem settleDrop_proc (n : Nat) (s : State) : settleDrop (n + 1) Dom.PROC s =
    if votes s Dom.PROC = 0 ∧ noDependents s Dom.PROC ∧ 2 ≤ Dom.PROC then dropDomain Dom.PROC (notRaised Dom.PROC s) else s := rfl

theorem linkVoted_settleDrop {d : Nat} (hd : d = Dom.COH ∨ d = Dom.ETH) (n : Nat) (s : State) : LinkVoted s (settleDrop (n + 2) d s) := by
  have hproc : ∀ u, LinkVoted u (settleDrop (n + 1) Dom.PROC u) := fun u => by
    rw [settleDrop_proc]
    split
    · exact linkVoted_dropped (.inr (.inr rfl)) u
    · exact linkVoted_of_eq rfl rfl
  rw [settleDrop_link hd]
  split
  · exact (linkVoted_dropped (hd.imp_right .inl) s).trans (hproc _)
  · exact linkVoted_of_eq rfl rfl

theorem linkVoted_setVote {d : Nat} (hd : d = Dom.COH ∨ d = Dom.ETH) (c : Nat) (on : Bool) (s : State) : LinkVoted s (setVote d c on s) := by
  have hput : LinkVoted s (fputBit (Reg.PWR_VOTE_VOTES d) c on s) :=
    ⟨regsKept_fputBit (by obtain rfl | rfl := hd <;> simp [linkVoteRegs]) _ _ _, by simp⟩
  unfold setVote
  dsimp only
  split
  · rw [raiseDomain_eq]
    split
    · exact hput.trans (linkVoted_of_eq rfl rfl)
    · rw [voteAnew_eq]
      exact hput.trans (linkVoted_of_eq rfl rfl)
  split
  · refine (hput.trans ?_).trans (linkVoted_settleDrop hd 2 _)
    rw [noteWithdrawn_eq]
    exact linkVoted_of_eq rfl rfl
  · exact hput

/-! ## The ring -/

/-- The registers in which the ring is written. -/
def ringRegs : List Nat := [Reg.COH_REACH, Reg.COH_KEEP, Reg.COH_STATUS]

theorem regsKept_masterSync (anew : Bool) (s : State) : RegsKept ringRegs s (masterSync anew s) := fun k hk =>
  rget_masterSync anew s (fun h => hk (by simp [ringRegs, h]))

/-- The ring is written; what follows is a partition that acts at once. -/
theorem setRing_eq (reach keep : Word) (anew : Bool) (s : State) :
    ∃ u, setRing reach keep anew s = partitionAtOnce u ∧ RegsKept ringRegs s u ∧ u.coh = s.coh ∧ u.flow = s.flow ∧ u.mail = s.mail := by
  refine ⟨_, rfl, ?_, ?_, ?_, ?_⟩
  · refine RegsKept.trans ?_ (regsKept_masterSync _ _)
    intro k hk
    rw [rget_raiseIf, rget_raiseIf]
    exact ((regsKept_rset (by simp [ringRegs]) _ s).trans (regsKept_rset (by simp [ringRegs]) _ _)) k hk
  · rw [(masterSync_keeps _ _).1]
    simp
  · simp
  · simp

theorem regsKept_partitionAtOnce (s : State) : RegsKept holdRegs s (partitionAtOnce s) := by
  unfold partitionAtOnce partitionHold
  split
  · split
    · exact regsKept_requestHold 6 s
    · exact fun _ _ => rfl
  · exact fun _ _ => rfl

theorem completing_partitionAtOnce (s : State) : Completing s (partitionAtOnce s) := by
  unfold partitionAtOnce partitionHold
  split
  · split
    · exact completing_requestHold 6 s
    · exact completing_of_mail rfl
  · exact completing_of_mail rfl

theorem partitionAtOnce_of_idle {s : State} (h : modeIn s [.write, .hold] = false) : partitionAtOnce s = s := by
  simp [partitionAtOnce, h]

theorem regsKept_setRing (reach keep : Word) (anew : Bool) (s : State) : RegsKept (ringRegs ++ holdRegs) s (setRing reach keep anew s) := by
  obtain ⟨u, hu, hregs, -⟩ := setRing_eq reach keep anew s
  rw [hu]
  exact (hregs.mono (by simp)).trans ((regsKept_partitionAtOnce u).mono (by simp))

/-! ## The time source -/

theorem regsKept_settleSource (s : State) : RegsKept [Reg.TIM_STATUS, Reg.TIM_INC_LO, Reg.TIM_INC_HI] s (settleSource s) := by
  have hput := regsKept_fput (ks := [Reg.TIM_STATUS, Reg.TIM_INC_LO, Reg.TIM_INC_HI]) (f := Reg.TIM_STATUS_SRC) (by simp) (timeSource s) s
  unfold settleSource
  dsimp only
  split
  · exact hput.trans ((regsKept_rset (by simp) _ _).trans (regsKept_rset (by simp) _ _))
  · exact hput

theorem settleSource_coh (s : State) : (settleSource s).coh = s.coh := by
  unfold settleSource
  dsimp only
  split <;> rfl

theorem readyNoneOrService_idle {s : State} (h : readyNoneOrService s = true) : modeIn s [.write, .hold] = false := by
  simp only [readyNoneOrService, inState, Bool.or_eq_true, Bool.and_eq_true, beq_iff_eq] at h
  obtain ⟨hm, -⟩ | hm := h <;> simp [modeIn, hm]

/-! ## The obligation -/

/-- COHORT_CONFIG: the size and the own position are written, and what follows leaves them. -/
theorem cohortConfig_sets {r : Req} {s : State} {m own : Nat} (h : Admitted s r 0x0501 4 false) (hmode : readyNoneOrService s = true)
    (hm : 1 ≤ m) (hmax : m ≤ 32) (hown : own < m) : Yields (.cohortConfig r m own) s fun t =>
      fget t Reg.COH_CFG_MEMBERS = m ∧ fget t Reg.COH_CFG_OWN = own ∧ rget t Reg.COH_EPOCH = 0 ∧ t.coh.go = none ∧
      (slotOf t r.slot).status = Status.ok.code ∧ t.job = s.job ∧ DramKept s t := by
  refine yields_of_effect rfl h ?_ (decide_eq_true ⟨hm, hmax, hown⟩) rfl hmode
  dsimp only
  generalize hreach : (rget (accept r.slot s) Reg.COH_REACH &&& ~~~((1 : Word) <<< cohOwn (accept r.slot s))) ||| ((1 : Word) <<< own) = reach
  let c := fput Reg.COH_CFG_OWN own (fput Reg.COH_CFG_MEMBERS m (accept r.slot s))
  let e := rset Reg.COH_EPOCH 0 { c with coh := { c.coh with
    peers := c.coh.peers.map fun q => { Peer.empty with holdId := q.holdId }, go := none, removed := false, misaligned := false, masterLost := false } }
  let f := setVote Dom.COH Client.cohort (decide (1 < m)) (setRing reach (BitVec.ofNat 32 (2 ^ m - 1)) true e)
  let t := timeSrcSync (settleSource f)
  have hmodeE : modeIn e [.write, .hold] = false := by simpa [modeIn, e, c] using readyNoneOrService_idle hmode
  obtain ⟨u, hu, hregsU, hcohU, hflowU, hmailU⟩ := setRing_eq reach (BitVec.ofNat 32 (2 ^ m - 1)) true e
  have hring : setRing reach (BitVec.ofNat 32 (2 ^ m - 1)) true e = u := by
    rw [hu, partitionAtOnce_of_idle]
    rw [modeIn, hflowU]
    exact hmodeE
  obtain ⟨hregsF, hgoF⟩ := linkVoted_setVote (.inl rfl) Client.cohort (decide (1 < m)) u
  have hregs : RegsKept (ringRegs ++ linkVoteRegs ++ [Reg.TIM_STATUS, Reg.TIM_INC_LO, Reg.TIM_INC_HI]) e t := by
    refine ((hregsU.mono (by simp)).trans ?_).trans (regsKept_fput (f := Reg.COH_STATUS_TIME_SRC) (by simp [ringRegs]) _ _)
    have hf : f = setVote Dom.COH Client.cohort (decide (1 < m)) u := by rw [← hring]
    rw [hf]
    exact (hregsF.mono (by simp)).trans ((regsKept_settleSource _).mono (by simp))
  have hgo : t.coh.go = none := by
    have : t.coh = (settleSource f).coh := rfl
    rw [this, settleSource_coh, show f = setVote Dom.COH Client.cohort (decide (1 < m)) u by rw [← hring], hgoF, hcohU]
    rfl
  change fget (complete r.slot .ok [] t) _ = _ ∧ fget (complete r.slot .ok [] t) _ = _ ∧ rget (complete r.slot .ok [] t) _ = _ ∧
    (complete r.slot .ok [] t).coh.go = _ ∧ (slotOf (complete r.slot .ok [] t) r.slot).status = _ ∧ (complete r.slot .ok [] t).job = _ ∧
    DramKept s (complete r.slot .ok [] t)
  have hkept := regsKept_complete r.slot .ok [] t
  have hmail : t.mail = (accept r.slot s).mail := by
    have htu : t.mail = u.mail := by simp [t, f, hring]
    rw [htu, hmailU]
    rfl
  refine ⟨?_, ?_, ?_, by simpa using hgo, (answered_of_mail (p := []) h.orphan hmail).1, ?_, dramKept_of_eq ?_⟩
  · rw [hkept.fget (by decide), hregs.fget (by decide)]
    have : fget e Reg.COH_CFG_MEMBERS = fget c Reg.COH_CFG_MEMBERS := fget_congr (rget_rset_other _ _ _ _ (by decide))
    rw [this, fget_fput_beside _ _ _ rfl _ (by decide) (by decide), fget_fput_same _ _ rfl]
    exact Nat.mod_eq_of_lt (by simp; omega)
  · rw [hkept.fget (by decide), hregs.fget (by decide)]
    have : fget e Reg.COH_CFG_OWN = fget c Reg.COH_CFG_OWN := fget_congr (rget_rset_other _ _ _ _ (by decide))
    rw [this, fget_fput_same _ _ rfl]
    exact Nat.mod_eq_of_lt (by simp; omega)
  · rw [hkept _ (by decide), hregs _ (by decide)]
    exact rget_rset_same _ _ _
  · simp [t, f, e, c]
  · simp [t, f, e, c]

/-- The master takes a membership at the next epoch. -/
theorem masterMembership_advances {s : State} {keep : Word} (hkeep : keep.getLsbD (cohOwn s) = true) :
    RegsKept (Reg.COH_EPOCH :: ringRegs ++ holdRegs) s (masterMembership keep s) ∧
    rget (masterMembership keep s) Reg.COH_EPOCH = rget s Reg.COH_EPOCH + 1 ∧ Completing s (masterMembership keep s) := by
  let a := rset Reg.COH_EPOCH (rget s Reg.COH_EPOCH + 1) s
  let b := broadcast Kind.membership (membershipPayload keep) a
  have hab : RegsKept (ringRegs ++ holdRegs) a b := regsKept_of_eq (broadcast_regs _ _ a)
  have hown : keep.getLsbD (cohOwn b) = true := by
    rw [cohOwn, hab.fget (by decide), fget_congr (rget_rset_other _ _ _ _ (by decide))]
    exact hkeep
  have hmaster : masterMembership keep s = raise Ev.COHORT_CHANGED (setRing (rget b Reg.COH_REACH) keep false b) := by
    simp only [masterMembership, takeMembership]
    exact if_pos hown
  obtain ⟨u, hu, -, -, -, hmail⟩ := setRing_eq (rget b Reg.COH_REACH) keep false b
  have hbt : RegsKept (ringRegs ++ holdRegs) a (masterMembership keep s) := by
    rw [hmaster]
    exact (hab.trans (regsKept_setRing _ _ _ b)).trans (fun _ _ => rfl)
  refine ⟨((regsKept_rset (by simp) _ s).trans (hbt.mono (by simp))), ?_, ?_⟩
  · rw [hbt _ (by decide)]
    exact rget_rset_same _ _ _
  · rw [hmaster, hu]
    exact ((completing_of_mail (by simp [hmail, a, b])).trans (completing_partitionAtOnce u)).of_mail (by simp)

/-- Settles O24. -/
theorem cohortIsConfigured : Obligations.CohortIsConfigured := by
  intro r s
  refine ⟨fun m own h hmode hm hmax hown => cohortConfig_sets h hmode hm hmax hown, fun keep h hok hmode hpart => ?_⟩
  have hmodes : (s.flow.mode == .hold || (s.flow.mode == .write && betweenStripes s)) = true := by
    obtain hm | ⟨hm, hb⟩ := hmode
    · simp [hm]
    · simp [hm, hb]
  refine ⟨fun hmaster => ?_, fun hmaster => ?_⟩
  · refine yields_of_effect rfl h ?_ hok rfl (by simp only [hmodes, hpart, Bool.and_self])
    have hregs : RegsKept [Reg.MBX_STATE] (accept r.slot s) (broadcast Kind.membership (membershipPayload keep) (accept r.slot s)) :=
      regsKept_of_eq (broadcast_regs _ _ _)
    simp only [isMaster_accept, hmaster, Bool.false_eq_true, if_false]
    exact ⟨by simp, answered_of_mail h.orphan (by simp), by simp, by simp, regsKept_command hregs, dramKept_of_eq (by simp)⟩
  · refine yields_of_effect rfl h ?_ hok rfl (by simp only [hmodes, hpart, Bool.and_self])
    have hown : keep.getLsbD (cohOwn (accept r.slot s)) = true := by
      simp only [shrinkOk, Bool.and_eq_true] at hok
      rw [cohOwn, fget_accept _ _ _ (by decide)]
      exact hok.1
    obtain ⟨-, hepoch, hcompleting⟩ := masterMembership_advances hown
    simp only [isMaster_accept, hmaster, if_true]
    refine ⟨?_, (answered_of_completing h.orphan hcompleting).1, by simp, dramKept_of_eq (by simp)⟩
    rw [regsKept_complete _ _ _ _ _ (by decide), hepoch, rget_accept _ _ _ (by decide), BitVec.toNat_add]
    rfl

end Sys2Proof.Machine
end

section
/-!
PROOFS. The Time commands (O25).
-/

namespace Sys2Proof.Machine

/-! ## The clock under the actions of triggers -/

/-- The counter and its extension stand; triggers, conversions and the queue of timestamps may change. -/
def ClockKept (s t : State) : Prop := t.tim.h = s.tim.h ∧ t.tim.high = s.tim.high ∧ t.tim.prevWraps = s.tim.prevWraps

theorem ClockKept.trans {s t u : State} (h : ClockKept s t) (h' : ClockKept t u) : ClockKept s u :=
  ⟨h'.1.trans h.1, h'.2.1.trans h.2.1, h'.2.2.trans h.2.2⟩

theorem ClockKept.timeE {s t : State} (h : ClockKept s t) : timeE t = timeE s := by
  obtain ⟨hh, hhigh, hprev⟩ := h
  simp only [Machine.timeE, timeHigh, hh, hhigh, hprev]

theorem clockKept_of_tim {s t : State} (h : t.tim = s.tim) : ClockKept s t := by
  unfold ClockKept
  rw [h]
  exact ⟨rfl, rfl, rfl⟩

theorem VotesMoved.clockKept {s t : State} (h : VotesMoved s t) : ClockKept s t := by
  rw [h]
  exact ⟨rfl, rfl, rfl⟩

theorem closeCheckRun_clockKept (s : State) : ClockKept s (closeCheckRun s) := by
  unfold closeCheckRun
  dsimp only
  (repeat' split)
  case isTrue.isTrue | isFalse.isTrue =>
    refine ClockKept.trans ?_ (votesMoved_setVotes _ _ _ _).clockKept
    exact ⟨rfl, rfl, rfl⟩
  all_goals exact ⟨rfl, rfl, rfl⟩

theorem gpioSeen_clockKept (n : Nat) (rising : Bool) (s : State) : ClockKept s (gpioSeen n rising s) := by
  have hend : ClockKept s (if !rising && fget s Reg.BHM_CFG_READY_GPIO == n then endCheckRun s else s) := by
    unfold endCheckRun
    (repeat' split)
    · exact closeCheckRun_clockKept s
    all_goals exact clockKept_of_tim rfl
  unfold gpioSeen
  refine hend.trans (clockKept_of_tim ?_)
  generalize (if !rising && fget s Reg.BHM_CFG_READY_GPIO == n then endCheckRun s else s) = u
  dsimp only
  generalize (powered u Dom.GATH && fbitAt u (if rising then Reg.MON_GPIO_EVT_RISE else Reg.MON_GPIO_EVT_FALL) n) = seen
  cases seen
  · rfl
  · simp

theorem withPin_clockKept {n : Nat} {f : State → State} {s : State} (h : ClockKept s (f s)) : ClockKept s (withPin n f s) := by
  unfold withPin
  dsimp only
  split
  · exact h
  · exact h.trans (gpioSeen_clockKept _ _ _)

theorem putTrig_clockKept (n : Nat) (t : Option Trigger) (s : State) : ClockKept s (putTrig n t s) := by
  let u : State := { s with tim := { s.tim with trigs := updAt none s.tim.trigs n fun _ => t } }
  have hu : ClockKept s u := ⟨rfl, rfl, rfl⟩
  have hput : ClockKept s (fputBit Reg.TIM_TRIG_STATUS_ACTIVE n t.isSome u) := hu.trans (votesMoved_fputBit _ _ _ u).clockKept
  unfold putTrig
  dsimp only
  split
  · exact hput
  · exact hput.trans (votesMoved_setVote _ _ _ _).clockKept

theorem missTrig_clockKept (n : Nat) (s : State) : ClockKept s (missTrig n s) :=
  clockKept_of_tim (by simp [missTrig])

theorem startJob_tim (slot : Option (Fin 16)) (lead : Nat) (s : State) : (startJob slot lead s).tim = s.tim := by
  have hwindow : ∀ i u, (openWindow i u).tim = u.tim := fun i u => by
    unfold openWindow
    split <;> rfl
  have hexpose : ∀ u, (exposeOn u).tim = u.tim := fun u => by
    unfold exposeOn
    split <;> rfl
  have hown : ∀ u, (ownStage u).tim = u.tim := fun u => rfl
  unfold startJob
  simp only [hexpose, hwindow, hown]

theorem trigAction_clockKept (n : Nat) (t : Trigger) (s : State) : ClockKept s (trigAction n t s) := by
  unfold trigAction
  split
  · split
    · exact missTrig_clockKept n s
    · exact ⟨rfl, rfl, rfl⟩
  · split
    · exact clockKept_of_tim (startJob_tim _ _ s)
    · exact missTrig_clockKept n s
  · split
    · exact missTrig_clockKept n s
    · exact withPin_clockKept ⟨rfl, rfl, rfl⟩
  · exact clockKept_of_tim rfl

theorem oneShotOver_clockKept (n : Nat) (s : State) : ClockKept s (oneShotOver n s) := by
  unfold oneShotOver
  split
  · split
    · exact withPin_clockKept (putTrig_clockKept _ _ _)
    · exact clockKept_of_tim rfl
  · exact clockKept_of_tim rfl

theorem fireNow_clockKept (n : Nat) (t : Trigger) (next : Nat) (s : State) : ClockKept s (fireNow n t next s) := by
  unfold fireNow
  dsimp only
  split
  · exact (trigAction_clockKept n t s).trans (oneShotOver_clockKept _ _)
  · exact (trigAction_clockKept n t s).trans (putTrig_clockKept _ _ _)

theorem lateTrigger_clockKept (s : State) (n : Nat) : ClockKept s (lateTrigger s n) := by
  unfold lateTrigger
  split
  case h_1 t ht =>
    split
    · exact clockKept_of_tim rfl
    · refine ClockKept.trans ?_ (fireNow_clockKept _ _ _ _)
      split
      · exact missTrig_clockKept n s
      · exact (clockKept_of_tim (by simp [fcount])).trans (missTrig_clockKept n _)
  case h_2 => exact clockKept_of_tim rfl

theorem lateTriggers_clockKept (s : State) : ClockKept s (lateTriggers s) := by
  have hfold : ∀ (l : List Nat) (u : State), ClockKept u (l.foldl lateTrigger u) := by
    intro l
    induction l with
    | nil => exact fun _ => clockKept_of_tim rfl
    | cons n l ih => exact fun u => (lateTrigger_clockKept u n).trans (ih _)
  exact hfold _ s

/-- Without a trigger none is late. -/
theorem lateTriggers_of_none {s : State} (h : ∀ n, trigOf s n = none) : lateTriggers s = s := by
  have hfold : ∀ l : List Nat, l.foldl lateTrigger s = s := by
    intro l
    induction l with
    | nil => rfl
    | cons n l ih => rw [List.foldl_cons, show lateTrigger s n = s by simp [lateTrigger, h n], ih]
  exact hfold _

/-- The time that is loaded stands, and is split at 2^48 ns. -/
theorem timeE_loadTime (e : Nat) (s : State) : timeE (loadTime e s).1 = e := by
  have hh : (((e : Int) % 2 ^ 48).toNat) = e % 2 ^ 48 := by omega
  have hhigh : (((e : Int) / 2 ^ 48).toNat) = e / 2 ^ 48 := by omega
  have hload : (loadTime e s).1.tim.h = e % 2 ^ 48 ∧ (loadTime e s).1.tim.high = e / 2 ^ 48 ∧
      (loadTime e s).1.tim.prevWraps = e % 2 ^ 48 / 2 ^ 32 := ⟨hh, hhigh, congrArg (· / 2 ^ 32) hh⟩
  obtain ⟨h1, h2, h3⟩ := hload
  simp only [timeE, timeHigh, h1, h2, h3, lt_irrefl, if_false]
  omega

theorem timeE_stepTime (e : Nat) (s : State) : timeE (stepTime e s) = e :=
  (lateTriggers_clockKept _).timeE.trans (timeE_loadTime e s)

theorem trigOf_loadTime_none {e : Int} {s : State} {n : Nat} (h : trigOf s n = none) : trigOf (loadTime e s).1 n = none := by
  change (s.tim.trigs.map _).getD n none = none
  change s.tim.trigs.getD n none = none at h
  simp only [List.getD_eq_getElem?_getD, List.getElem?_map] at h ⊢
  cases hn : s.tim.trigs[n]? with
  | none => rfl
  | some t =>
    rw [hn] at h
    have ht : t = none := h
    rw [ht]
    rfl

theorem stepTime_flow {e : Int} {s : State} (h : ∀ n, trigOf s n = none) : (stepTime e s).flow = s.flow := by
  rw [stepTime, lateTriggers_of_none fun n => trigOf_loadTime_none (h n)]
  simp

/-! ## The obligation -/

theorem settleSource_tim (s : State) : (settleSource s).tim = s.tim := by
  unfold settleSource
  dsimp only
  split <;> rfl

theorem fget_settleSource (s : State) {f : Field} (hreg : f.reg = Reg.TIM_STATUS) (hbeside : f.hi < Reg.TIM_STATUS_SRC.lo ∨ Reg.TIM_STATUS_SRC.hi < f.lo)
    (hf : f.lo ≤ f.hi) : fget (settleSource s) f = fget s f := by
  have hput := fget_fput_beside s Reg.TIM_STATUS_SRC f rfl (timeSource s) hbeside hf
  have hinc : ∀ v u, fget (setIncrement v u) f = fget u f := fun v u =>
    fget_congr ((rget_rset_other _ _ _ _ (by rw [hreg]; decide)).trans (rget_rset_other _ _ _ _ (by rw [hreg]; decide)))
  unfold settleSource
  dsimp only
  split
  · rw [hinc, hput]
  · exact hput

/-- TIME_RATE: the increment of HOST. -/
theorem timeRate_stores {r : Req} {s : State} {inc : Nat} (h : Admitted s r 0x0602 8 false) (hmin : incMin ≤ inc) (hmax : inc ≤ incMax) :
    Yields (.timeRate r inc) s fun t =>
      t.tim = { s.tim with hostInc := inc } ∧ Answered s t r.slot .ok (leBytes 8 s.tim.hostInc) ∧ t.flow = s.flow ∧ t.ev = s.ev ∧ DramKept s t := by
  refine yields_of_effect rfl h ?_ (decide_eq_true ⟨hmin, hmax⟩)
  let u : State := { accept r.slot s with tim := { (accept r.slot s).tim with hostInc := inc } }
  have hold : (accept r.slot s).tim.hostInc = s.tim.hostInc := by simp
  dsimp only
  rw [hold]
  change (complete r.slot .ok _ (settleSource u)).tim = _ ∧ _
  refine ⟨?_, answered_of_mail h.orphan ?_, ?_, ?_, dramKept_of_eq ?_⟩
  · rw [(show (complete r.slot .ok (leBytes 8 s.tim.hostInc) (settleSource u)).tim = (settleSource u).tim by simp), settleSource_tim]
    simp [u]
  · simp
  · simp
  · simp
  · simp

/-- REF_CONFIG: the enable of REF_IN. -/
theorem refConfig_enables {r : Req} {s : State} {f : Nat} (h : Admitted s r 0x0606 4 false) (hf : f ≤ 1) (hmode : rwhs s = true) :
    Yields (.refConfig r f) s fun t => fget t Reg.TIM_STATUS_REF_EN = f ∧
      Answered s t r.slot .ok (leBytes 1 (fget s Reg.TIM_STATUS_REF_EN)) ∧ t.flow = s.flow ∧ t.ev = s.ev ∧ DramKept s t := by
  refine yields_of_effect rfl h ?_ (decide_eq_true hf) rfl hmode
  have hold : fget (accept r.slot s) Reg.TIM_STATUS_REF_EN = fget s Reg.TIM_STATUS_REF_EN := fget_accept _ _ _ (by decide)
  dsimp only
  rw [hold]
  let u := fput Reg.TIM_STATUS_REF_EN f (accept r.slot s)
  let v := if f = fget s Reg.TIM_STATUS_REF_EN then u else
    fput Reg.TIM_STATUS_REF_LOCK 0 { u with tim := { u.tim with refGood := false, refWindows := 0 } }
  have hv : fget v Reg.TIM_STATUS_REF_EN = f := by
    have hu : fget u Reg.TIM_STATUS_REF_EN = f := (fget_fput_same _ _ rfl f).trans (Nat.mod_eq_of_lt (by simp; omega))
    simp only [v]
    split
    · exact hu
    · rw [fget_fput_beside _ _ _ rfl _ (by decide) (by decide)]
      exact hu
  change fget (complete r.slot .ok _ (settleSource v)) _ = _ ∧ _
  refine ⟨?_, answered_of_mail h.orphan (by simp), by simp, by simp, dramKept_of_eq (by simp)⟩
  rw [(regsKept_complete _ _ _ _).fget (by decide), fget_settleSource _ rfl (by decide) (by decide)]
  exact hv

/-- PTP_CONFIG: the enable, the transport, the domain and the address. -/
theorem ptpConfig_enables {r : Req} {s : State} {f d ip : Nat} (h : Admitted s r 0x0604 8 false) (hf : f ≤ 3)
    (hmode : s.flow.mode = .ready ∨ s.flow.mode = .service) : Yields (.ptpConfig r f d ip) s fun t =>
      fget t Reg.TIM_STATUS_PTP_EN = f % 2 ∧ t.tim.ptpUdp = f.testBit 1 ∧ t.tim.ptpDomain = d ∧ t.tim.ptpIp = ip ∧
      (slotOf t r.slot).status = Status.ok.code ∧ t.flow = s.flow ∧ DramKept s t := by
  refine yields_of_effect rfl h ?_ (decide_eq_true hf) rfl (by simpa [modeIn] using hmode)
  let u : State := { accept r.slot s with tim := { (accept r.slot s).tim with
    ptpUdp := f.testBit 1, ptpDomain := d, ptpIp := ip, ptpSync := none, ptpReqs := [], ptpDelay := 0, ptpOut := false } }
  let v := fput Reg.TIM_STATUS_PTP_EN (f % 2) (fput Reg.TIM_STATUS_PTP_LOCK 0 u)
  let w := setVote Dom.ETH Client.firmware (f.testBit 0) v
  have hw := votesMoved_setVote Dom.ETH Client.firmware (f.testBit 0) v
  have hvoted := (linkVoted_setVote (.inr rfl) Client.firmware (f.testBit 0) v).1
  have hmail : (settleSource w).mail = (accept r.slot s).mail := by simp [w, v, u]
  change fget (complete r.slot .ok [] (settleSource w)) _ = _ ∧ _
  have htim : (complete r.slot .ok [] (settleSource w)).tim = w.tim := by simp
  have hwt : w.tim = { v.tim with ts := w.tim.ts } := congrArg State.tim hw
  refine ⟨?_, ?_, ?_, ?_, (answered_of_mail (p := []) h.orphan hmail).1, by simp, dramKept_of_eq (by simp)⟩
  · rw [(regsKept_complete _ _ _ _).fget (by decide), fget_settleSource _ rfl (by decide) (by decide), hvoted.fget (by decide)]
    exact (fget_fput_same _ _ rfl _).trans (Nat.mod_mod_of_dvd _ (dvd_refl 2))
  all_goals
    rw [htim, hwt]
    rfl

set_option Elab.async false in
/-- Settles O25. -/
theorem timeIsCommanded : Obligations.TimeIsCommanded := by
  intro r s
  refine ⟨fun sec ns h hsec hns hmode => ?_, fun inc h hmin hmax => timeRate_stores h hmin hmax, fun f h hf hmode => refConfig_enables h hf hmode,
    fun f d ip h hf hmode => ptpConfig_enables h hf hmode, fun h hmode => ?_⟩
  · refine yields_of_effect rfl h ?_ (decide_eq_true ⟨hsec, hns⟩) rfl (by simpa [modeIn] using hmode)
    refine ⟨?_, answered_of_mail h.orphan (by simp), dramKept_of_eq (by simp), fun htrig => ?_⟩
    · have hstep : ((sec * 1000000000 + ns : Nat) : Int) = (sec : Int) * 1000000000 + ns := by push_cast; rfl
      rw [← hstep]
      exact (clockKept_of_tim (s := stepTime _ (accept r.slot s)) (by simp)).timeE.trans (timeE_stepTime _ _)
    · simp only [complete_frame]
      have hnone : ∀ n, trigOf (accept r.slot s) n = none := fun n => by simpa [trigOf] using htrig n
      simp [stepTime_flow hnone]
  · refine yields_of_effect rfl h ?_ rfl rfl hmode
    have hregs : RegsKept [Reg.MBX_STATE, Reg.TIM_TS_COUNT] (accept r.slot s) (fput Reg.TIM_TS_COUNT_ENTRIES (s.tim.ts.drop 13).length
      { accept r.slot s with tim := { s.tim with ts := s.tim.ts.drop 13 } }) := regsKept_fput (by simp) _ _
    simp only [accept_frame]
    refine ⟨by simp, ?_, answered_of_mail h.orphan (by simp), by simp, by simp, regsKept_command hregs, dramKept_of_eq (by simp)⟩
    rw [(regsKept_complete _ _ _ _).fget (by decide), fget_fput_same _ _ rfl]
    rfl

end Sys2Proof.Machine
end

section
/-!
PROOFS. Certificates, reports and firmware images (O26).
-/

namespace Sys2Proof.Machine

/-! ## Reports -/

theorem ownDigest_accept (n : Fin 16) (s : State) : ownDigest (accept n s) = ownDigest s :=
  ownDigest_congr (by simp) (by rw [accept_pwr])
    (fun k hk => rget_accept n s k fun h => absurd (h ▸ hk) (by decide)) (rget_accept n s _ (by decide))

/-- The bytes of a report stand on the digest, the image that runs and the count. -/
theorem reportBytes_congr {s t : State} (hdigest : ownDigest t = ownDigest s) (hsec : t.sec = s.sec) (kind : Nat) (p : List Byte) :
    reportBytes kind t p = reportBytes kind s p := by
  simp only [reportBytes, hdigest, runningImage, hsec]

theorem reportBytes_of_length (kind : Nat) (s : State) {p : List Byte} (h : p.length = 16) : reportBytes kind s p =
    leBytes 1 kind ++ [0, 0, 0] ++ leBytes 4 s.sec.attests ++ leBytes 8 (ownDigest s) ++ slice (runningImage s).meas 0 48 ++ p := by
  rw [reportBytes, slice_self h]

theorem signedReport_congr {s t : State} (hsec : t.sec = s.sec) (nonce report : List Byte) : signedReport t nonce report = signedReport s nonce report := by
  rw [signedReport, signedReport, hsec]

/-- Firmware's count of reports. -/
def countReport (s : State) : State := { s with sec := { s.sec with attests := (s.sec.attests + 1) % 2 ^ 32 } }

/-- The job position of a report, with the state in which the report is formed. -/
def reportPosition (s : State) : State × List Byte :=
  match s.job with
  | some j => jobPosition s j
  | none => (s, [])

theorem attestEffect_eq (n : Fin 16) (nonce : List Byte) (kind : Nat) (s : State) : attestEffect n nonce kind s =
    complete n .ok (signedReport s (slice nonce 0 32) (reportBytes kind (reportPosition s).1 (reportPosition s).2))
      (countReport (reportPosition s).1) := rfl

/-- A report of the accepted state says what one of the state before it says. -/
theorem attestEffect_accept {n : Fin 16} {nonce p : List Byte} {kind f : Nat} {s : State} (hnonce : nonce.length = 32)
    (hposition : reportPosition (accept n s) = ({ accept n s with free := f }, p)) :
    attestEffect n nonce kind (accept n s) =
      complete n .ok (signedReport s nonce (reportBytes kind s p)) (countReport { accept n s with free := f }) := by
  have hsec : (accept n s).sec = s.sec := by simp
  have hreport : reportBytes kind { accept n s with free := f } p = reportBytes kind s p := reportBytes_congr (ownDigest_accept n s) hsec kind p
  rw [attestEffect_eq, hposition, slice_self hnonce, signedReport_congr hsec, hreport]

/-- ATTEST, where the position is known: it is signed with the report, and the count goes on. -/
theorem attest_completes {r : Req} {s : State} {nonce p : List Byte} {kind : Nat} (h : Admitted s r 0x0702 36 false) (hmode : rwhs s = true)
    (hnonce : nonce.length = 32) (hkind : kind ≤ 1) (hjob : ¬ (kind = 1 ∧ s.job.isNone))
    (hposition : reportPosition (accept r.slot s) = (accept r.slot s, p)) :
    Completes (.attest r nonce kind) s r.slot .ok (signedReport s nonce (reportBytes kind s p))
      { s with sec := { s.sec with attests := (s.sec.attests + 1) % 2 ^ 32 } } := by
  refine completes_of_command (v := countReport (accept r.slot s)) rfl h ?_ (.of_regs ⟨rfl, rfl⟩ rfl ?_) (decide_eq_true hkind) rfl hmode
  · rw [(show (accept r.slot s).job = s.job by simp), if_neg hjob]
    exact attestEffect_accept hnonce hposition
  · apply State.ext <;> simp [countReport, accept_pwr]

/-! ## FW_UPDATE -/

/-- The image goes into the slot that is not running; it becomes the newest where the copy verifies. -/
theorem storeImage_stores {n : Fin 16} {im : Image} (him : im.good = true) {s u : State} (ho : s.mail.orphan = false)
    (hmail : u.mail = (accept n s).mail) :
    let t := storeImage n im u
    t.flow = u.flow ∧ t.job = u.job ∧ t.dram = u.dram ∧
    ((Answered s t n .ok (leBytes 4 im.release ++ leBytes 4 im.rollback) ∧ t.ev = u.ev ∧
        t.sec = if u.sec.runningB then { u.sec with slotA := im, newestB := false } else { u.sec with slotB := im, newestB := true }) ∨
      (Answered s t n .authFail [] ∧ t.ev = (raise Ev.FW_VERIFY_FAIL u).ev ∧
        t.sec = if u.sec.runningB then { u.sec with slotA := { im with good := false } } else { u.sec with slotB := { im with good := false } })) := by
  intro t
  have hflash : ∀ im, (flashSlot im (useFree u)).sec = if u.sec.runningB then { u.sec with slotA := im } else { u.sec with slotB := im } := fun im => by
    have hrun : (useFree u).sec.runningB = u.sec.runningB := rfl
    unfold flashSlot
    rw [hrun]
    cases u.sec.runningB <;> rfl
  have hrunning : (flashSlot { im with good := true } (useFree u)).sec.runningB = u.sec.runningB := by
    rw [hflash]
    cases h : u.sec.runningB <;> simp [h]
  have hself : { im with good := true } = im := by rw [← him]
  cases hwhole : decide (freeNat u % 2 = 1) with
  | true =>
    have ht : t = complete n .ok (leBytes 4 im.release ++ leBytes 4 im.rollback)
        { flashSlot im (useFree u) with sec := { (flashSlot im (useFree u)).sec with newestB := !u.sec.runningB } } := by
      rw [← hrunning, hself]
      simp only [t, storeImage, hwhole, if_true, hself]
    rw [ht]
    refine ⟨by simp, by simp, by simp, .inl ⟨answered_of_mail ho ((show _ = u.mail by simp).trans hmail), by simp, ?_⟩⟩
    simp only [complete_frame, hflash]
    cases u.sec.runningB <;> rfl
  | false =>
    have ht : t = complete n .authFail [] (raise Ev.FW_VERIFY_FAIL (flashSlot { im with good := false } (useFree u))) := by
      simp only [t, storeImage, hwhole, Bool.false_eq_true, if_false]
    rw [ht]
    refine ⟨by simp, by simp, by simp, .inr ⟨answered_of_mail ho ((show _ = u.mail by simp).trans hmail), by simp [raise], ?_⟩⟩
    simp [hflash]

/-- Settles O26. -/
theorem imagesAndReportsAreSigned : Obligations.ImagesAndReportsAreSigned := by
  constructor
  · intro r s
    refine ⟨fun off h hmode => ⟨fun hoff => ?_, fun hoff => ?_⟩, ?_⟩
    · exact completes_of_command rfl h rfl (acceptedAs_self _ _) rfl rfl hmode rfl (decide_eq_true hoff)
    · obtain ⟨hlen, hzero, hlife, hboot, -, ho⟩ := h
      exact refused_range ho hzero rfl ⟨⟨hlen, hlife⟩, hboot⟩ (decide_eq_false (by omega)) rfl hmode
    intro nonce kind h hmode hnonce hkind report counted
    have hjobs : (accept r.slot s).job = s.job := by simp
    have hbells : (accept r.slot s).prog = s.prog := by simp
    refine ⟨fun hjob hk => ?_, fun hjob hk => ?_, fun j hjob hbell => ?_, fun j l st hjob hbell => ?_⟩
    · have hreport : report (List.replicate 16 0) = reportBytes kind s [] := by simp [report, reportBytes, slice]
      rw [hreport]
      exact attest_completes h hmode hnonce hkind (by omega) (by rw [reportPosition, hjobs, hjob])
    · exact completes_of_command rfl h (if_pos ⟨hk, by simp [hjob]⟩) (acceptedAs_self _ _) (decide_eq_true hkind) rfl hmode
    · have hposition : reportPosition (accept r.slot s) =
          ({ accept r.slot s with free := (accept r.slot s).free + 1 }, leBytes 8 j.jobId ++ leBytes 8 (freeNat (accept r.slot s))) := by
        rw [reportPosition, hjobs, hjob]
        simp only [jobPosition, hbells, hbell]
        rw [useFree, hbells]
      refine ⟨leBytes 8 (freeNat (accept r.slot s)), leBytes_length _ _, yields_of_effect rfl h ?_ (decide_eq_true hkind) rfl hmode⟩
      rw [if_neg (by simp [hjob]), attestEffect_accept hnonce hposition, reportBytes_of_length _ _ (by simp)]
      refine ⟨answered_of_mail h.orphan rfl, by simp [countReport, counted], by simp [countReport], by simp [countReport], by simp [countReport],
        regsKept_command (u := countReport { accept r.slot s with free := (accept r.slot s).free + 1 }) (fun _ _ => rfl), dramKept_of_eq (by simp [countReport])⟩
    · have hshot : storedReg (accept r.slot s) Reg.BELL_SHOT = storedReg s Reg.BELL_SHOT :=
        storedReg_congr (by rw [accept_pwr]) (rget_accept _ _ _ (by decide)) (rget_accept _ _ _ (by decide))
      have hreport : reportBytes kind s (leBytes 8 j.jobId ++ leBytes 2 l ++ leBytes 2 st ++ leBytes 4 (storedReg s Reg.BELL_SHOT).toNat) = report _ :=
        reportBytes_of_length kind s (by simp)
      rw [← hreport]
      refine attest_completes h hmode hnonce hkind (by simp [hjob]) ?_
      rw [reportPosition, hjobs, hjob]
      simp only [jobPosition, hbells, hbell, hshot]
  · intro r s off len h halign hlen hreach hmode hon
    refine yields_of_effect rfl h (fromBuffer_of_read rfl fun u im hu ht => ?_) (by simp [halign, hlen]) rfl hmode (by simp [hon])
      (by dsimp only; exact hreach)
    have hmail : u.mail = (accept r.slot s).mail := by rw [hu.rest]
    have hrollback : fget u Reg.SEC_ROLLBACK_COUNTER = fget s Reg.SEC_ROLLBACK_COUNTER := by
      rw [fget_congr (hu.regs _ (by decide) (by decide)), fget_accept _ _ _ (by decide)]
    rw [hrollback] at ht
    refine ⟨fun hbad => ?_, fun hgood hold => ?_, fun hgood hnew => ?_⟩
    · rw [ht, hbad]
      rfl
    · simpa [hgood, hold] using ht
    · rw [ht, hgood, if_neg (by simp), if_neg (by omega)]
      obtain ⟨hflow, hjob, hdram, hends⟩ := storeImage_stores (im := imageOf im) rfl h.orphan hmail
      have hsec : u.sec = s.sec := by rw [hu.rest]; simp
      have hkept : u.flow = s.flow ∧ u.job = s.job ∧ u.dram = s.dram := by rw [hu.rest]; simp
      obtain ⟨hf, hj, hd⟩ := hkept
      rw [hsec] at hends
      exact ⟨hflow.trans hf, hjob.trans hj, dramKept_of_eq (hdram.trans hd), hends⟩

end Sys2Proof.Machine
end

section
/-!
PROOFS. O28 fails: MEM comes up for GATH, and a trigger whose firing has waited for the core clock reaches it, finds GATH off and is over; the vote
that it withdraws was the only one for GATH, so that MEM drops again in the same step.
-/

namespace Sys2Proof.Machine

/-- Ready with the core clock stopped. MEM and GATH are being raised for a one-shot conversion, whose firing waits for the core clock (R491). -/
def firingWaits : State :=
  { State.reset with
    regs := [(Reg.PWR_STATUS, 0x7), (Reg.PWR_VOTE Dom.GATH, 1 <<< Client.triggers)]
    flow := { State.reset.flow with mode := .ready, boot := .over }
    pwr := { State.reset.pwr with raising := 0x28 }
    tim := { State.reset.tim with trigs := [some ⟨2, 0, 0, 0, 0⟩] }
    clk := { State.reset.clk with pend := [(2, 1)] } }

/-- The power-good of MEM delivers the firing, and MEM is off after it. -/
theorem domainUp_drops : powered (domainUp Dom.MEM firingWaits) Dom.MEM = false := by decide +kernel

/-- Refutes O28: a power-good may leave its domain off where a trigger's firing waits for the core clock. -/
theorem not_domainsFollowVotes : ¬ Obligations.DomainsFollowVotes := by
  intro h
  obtain ⟨_, _, hup, _⟩ := h firingWaits
  obtain ⟨t, hexec, hpowered, _⟩ := hup ⟨Dom.MEM, by decide⟩ (by decide) (by decide) (by decide)
  have ht : domainUp Dom.MEM firingWaits = t := Host.Outcome.next.inj hexec
  have hon := hpowered Dom.MEM (by decide)
  rw [← ht, domainUp_drops] at hon
  exact absurd hon (by decide)

end Sys2Proof.Machine
end

section
/-!
PROOFS. Lifecycle transitions and the customer root key (O27).
-/

namespace Sys2Proof.Machine

/-! ## Registers above every switched block -/

/-- The register blocks that a domain drops lie below these: a register from here on reads as before, unless it is written. -/
abbrev highRegs : Nat := 0xF0000

/-- Registers from `highRegs` on stand, but for those listed. -/
def HighKept (ks : List Nat) (s t : State) : Prop := ∀ k, highRegs ≤ k → k ∉ ks → rget t k = rget s k

theorem HighKept.trans {ks : List Nat} {s t u : State} (h : HighKept ks s t) (h' : HighKept ks t u) : HighKept ks s u :=
  fun k hk hks => (h' k hk hks).trans (h k hk hks)

theorem RegsKept.high {ks : List Nat} {s t : State} (h : RegsKept ks s t) : HighKept ks s t := fun k _ hks => h k hks

/-- Of registers that were written, those below `highRegs` need not be listed. -/
theorem RegsKept.highOf {ks ls : List Nat} {s t : State} (h : RegsKept ls s t) (hlow : ∀ k ∈ ls, k < highRegs ∨ k ∈ ks) : HighKept ks s t :=
  fun k hk hks => h k fun hkl => (hlow k hkl).elim (Nat.not_lt.mpr hk) hks

theorem highKept_of_eq {ks : List Nat} {s t : State} (h : t.regs = s.regs) : HighKept ks s t := (regsKept_of_eq h).high

theorem HighKept.fget {ks : List Nat} {s t : State} (h : HighKept ks s t) {f : Field} (hhigh : highRegs ≤ f.reg) (hf : f.reg ∉ ks) :
    fget t f = fget s f := fget_congr (h _ hhigh hf)

/-- Entries below a key do not bear on what it reads as. -/
theorem get_filter_below {α : Type} (d : Nat → α) (m : List (Nat × α)) (p : Nat × α → Bool) {k : Nat} (h : ∀ e, k ≤ e.1 → p e = true) :
    Sparse.get d (m.filter p) k = Sparse.get d m k := by
  induction m with
  | nil => rfl
  | cons e m ih =>
    obtain ⟨j, v⟩ := e
    cases hp : p (j, v) with
    | true => rw [List.filter_cons_of_pos hp, Sparse.get_cons, Sparse.get_cons, ih]
    | false =>
      have hlt : j < k := by
        by_contra hle
        rw [h (j, v) (by simpa using hle)] at hp
        exact absurd hp (by decide)
      rw [List.filter_cons_of_neg (by simp [hp]), Sparse.get_cons, if_neg (by omega), if_neg (by omega), ih]

theorem domainBlocks_lt {d b : Nat} (hb : b ∈ domainBlocks d) : b < 0xF := by
  simp only [domainBlocks, List.mem_filter, List.mem_range, Bool.and_eq_true, bne_iff_ne, decide_eq_true_eq, beq_iff_eq] at hb
  obtain ⟨hlt, ⟨-, hd⟩, hblock⟩ := hb
  by_contra hge
  have hzero : blockDomain b = 0 := by interval_cases b <;> rfl
  omega

/-- The register of an entry of a domain lies below the high ones. -/
theorem lt_highRegs {d k : Nat} (h : (domainBlocks d).contains (k / 65536) = true) : k < highRegs := by
  have := domainBlocks_lt (List.contains_iff_mem.mp h)
  unfold highRegs
  omega

/-- The registers of a domain are dropped from the list. -/
theorem get_filter_domain (d k : Nat) (m : List (Nat × Word)) (hk : highRegs ≤ k) :
    Sparse.get regPor (m.filter fun e => !(domainBlocks d).contains (e.1 / 65536)) k = Sparse.get regPor m k :=
  get_filter_below _ _ _ fun e he => by
    rw [Bool.not_eq_true', ← Bool.not_eq_true]
    exact fun h => absurd (lt_highRegs h) (Nat.not_lt.mpr (hk.trans he))

theorem highKept_dropRegs (ks : List Nat) (d : Nat) (s : State) : HighKept ks s (dropRegs d s) := fun k hk _ => get_filter_domain d k s.regs hk

/-! ## Votes -/

/-- The high registers that a vote may change. -/
def voteRegs : List Nat := linkVoteRegs ++ (List.range 9).map Reg.PWR_VOTE

/-- What votes leave alone: the high registers that are not theirs, and the events, but for those of the cohort ports where COH is voted on. -/
structure VotesQuiet (coh : Prop) (s t : State) : Prop where
  high : HighKept voteRegs s t
  ev : ¬ coh → t.ev = s.ev
  events : ∀ n, s.ev.bits.getLsbD n = true → t.ev.bits.getLsbD n = true

theorem VotesQuiet.trans {coh : Prop} {s t u : State} (h : VotesQuiet coh s t) (h' : VotesQuiet coh t u) : VotesQuiet coh s u :=
  ⟨h.high.trans h'.high, fun hc => (h'.ev hc).trans (h.ev hc), fun n hn => h'.events n (h.events n hn)⟩

theorem votesQuiet_of_ev {coh : Prop} {s t : State} (hhigh : HighKept voteRegs s t) (hev : t.ev = s.ev) : VotesQuiet coh s t :=
  ⟨hhigh, fun _ => hev, fun n hn => by rwa [hev]⟩

theorem votesQuiet_of_eq {coh : Prop} {s t : State} (hregs : t.regs = s.regs) (hev : t.ev = s.ev) : VotesQuiet coh s t :=
  votesQuiet_of_ev (highKept_of_eq hregs) hev

theorem VotesQuiet.of_ev {coh coh' : Prop} {s t : State} (h : VotesQuiet coh s t) (hc : coh → coh') : VotesQuiet coh' s t :=
  ⟨h.high, fun hn => h.ev fun hh => hn (hc hh), h.events⟩

theorem votesQuiet_raiseIf (b : Bool) (n : Nat) (s : State) : VotesQuiet True s (raiseIf b n s) := by
  refine ⟨fun k _ _ => rget_raiseIf b n s k, fun h => absurd trivial h, fun m hm => ?_⟩
  cases b with
  | false => exact hm
  | true =>
    change (raise n s).ev.bits.getLsbD m = true
    rw [getLsbD_raise, hm]
    rfl

theorem linkVoted_high {s t : State} (h : LinkVoted s t) : HighKept voteRegs s t :=
  h.1.highOf fun _ hk => .inr (List.mem_append_left _ hk)

theorem votesQuiet_dropPorts (s : State) : VotesQuiet True s (dropPorts s) := by
  let u := raiseIf (fbit s Reg.COH_STATUS_EAST_UP && !(s.flow.mode == .rest)) Ev.COH_EAST_DOWN s
  let v := raiseIf (fbit u Reg.COH_STATUS_WEST_UP && !(s.flow.mode == .rest)) Ev.COH_WEST_DOWN u
  have hev : (dropPorts s).ev = v.ev := by
    simp only [dropPorts, u, v]
    split <;> rfl
  obtain ⟨-, -, hevents⟩ := (votesQuiet_raiseIf (fbit s Reg.COH_STATUS_EAST_UP && !(s.flow.mode == .rest)) Ev.COH_EAST_DOWN s).trans
    (votesQuiet_raiseIf (fbit u Reg.COH_STATUS_WEST_UP && !(s.flow.mode == .rest)) Ev.COH_WEST_DOWN u)
  exact ⟨linkVoted_high (linkVoted_dropPorts s), fun h => absurd trivial h, fun n hn => by rw [hev]; exact hevents n hn⟩

theorem votesQuiet_dropContents (d : Nat) (s : State) : VotesQuiet (d = Dom.COH) s (dropContents d s) := by
  unfold dropContents
  split
  case h_4 => exact (votesQuiet_dropPorts s).of_ev fun _ => rfl
  case h_5 =>
    refine votesQuiet_of_ev (linkVoted_high (linkVoted_dropEthernet s)) ?_
    dsimp only
    split <;> rfl
  all_goals exact votesQuiet_of_eq rfl rfl

theorem votesQuiet_dropDomain (d : Nat) (s : State) : VotesQuiet (d = Dom.COH) s (dropDomain d s) := by
  have hbanks : ∀ (l : List (Nat × Nat)) (u : State), VotesQuiet (d = Dom.COH) u (l.foldl (fun s b => emptyBanks b.1 b.2 s) u) := by
    intro l
    induction l with
    | nil => exact fun _ => votesQuiet_of_eq rfl rfl
    | cons b l ih => exact fun u => (votesQuiet_of_eq (s := u) (t := emptyBanks b.1 b.2 u) rfl rfl).trans (ih _)
  unfold dropDomain
  split
  · have hput : VotesQuiet (d = Dom.COH) s (fputBit Reg.PWR_STATUS_DOMAINS d false s) :=
      votesQuiet_of_ev (regsKept_fputBit (by simp [voteRegs, linkVoteRegs]) _ _ _).high (by simp)
    have hdrop : VotesQuiet (d = Dom.COH) (fputBit Reg.PWR_STATUS_DOMAINS d false s) (dropRegs d (fputBit Reg.PWR_STATUS_DOMAINS d false s)) :=
      votesQuiet_of_ev (highKept_dropRegs _ d _) rfl
    exact ((hput.trans hdrop).trans (votesQuiet_dropContents d _)).trans (hbanks _ _)
  · exact votesQuiet_of_eq rfl rfl

/-- No domain needs COH. -/
theorem domainNeeds_ne_coh {d e : Nat} (h : domainNeeds d = some e) : e ≠ Dom.COH := by
  unfold domainNeeds at h
  split at h
  all_goals cases h
  all_goals decide

theorem votesQuiet_settleDrop (n d : Nat) (s : State) : VotesQuiet (d = Dom.COH) s (settleDrop n d s) := by
  induction n generalizing d s with
  | zero => exact votesQuiet_of_eq rfl rfl
  | succ n ih =>
    unfold settleDrop
    split
    · have hdrop : VotesQuiet (d = Dom.COH) s (dropDomain d (notRaised d s)) :=
        (votesQuiet_of_eq (s := s) (t := notRaised d s) rfl rfl).trans (votesQuiet_dropDomain d _)
      dsimp only
      split
      next e he => exact hdrop.trans ((ih e _).of_ev fun h => absurd h (domainNeeds_ne_coh he))
      · exact hdrop
    · exact votesQuiet_of_eq rfl rfl

theorem votesQuiet_setVote {d : Nat} (hd : d < 9) (c : Nat) (on : Bool) (s : State) : VotesQuiet (d = Dom.COH) s (setVote d c on s) := by
  have hput : VotesQuiet (d = Dom.COH) s (fputBit (Reg.PWR_VOTE_VOTES d) c on s) :=
    votesQuiet_of_ev (regsKept_fputBit (List.mem_append_right _ (List.mem_map.mpr ⟨d, List.mem_range.mpr hd, rfl⟩)) _ _ _).high (by simp)
  unfold setVote
  dsimp only
  split
  · rw [raiseDomain_eq]
    split
    · exact hput.trans (votesQuiet_of_eq rfl rfl)
    · rw [voteAnew_eq]
      exact hput.trans (votesQuiet_of_eq rfl rfl)
  split
  · refine (hput.trans ?_).trans (votesQuiet_settleDrop 4 d _)
    rw [noteWithdrawn_eq]
    exact votesQuiet_of_eq rfl rfl
  · exact hput

theorem votesQuiet_setVotes {ds : List Nat} (hds : ∀ d ∈ ds, d < 9) (c : Nat) (on : Bool) (s : State) :
    VotesQuiet (Dom.COH ∈ ds) s (setVotes ds c on s) := by
  suffices h : ∀ (l : List Nat) (u : State), (∀ d ∈ l, d ∈ ds) → VotesQuiet (Dom.COH ∈ ds) u (setVotes l c on u) from h ds s fun _ h => h
  intro l
  unfold setVotes
  induction l with
  | nil => exact fun _ _ => votesQuiet_of_eq rfl rfl
  | cons d l ih =>
    intro u hl
    have hd := hl d List.mem_cons_self
    exact ((votesQuiet_setVote (hds d hd) c on u).of_ev fun h => h ▸ hd).trans (ih _ fun e he => hl e (List.mem_cons_of_mem d he))

/-! ## The end of a check run, and BLANK_ALL -/

theorem votesQuiet_low {s t : State} {ls : List Nat} (h : RegsKept ls s t) (hlow : ∀ k ∈ ls, k < highRegs) (hev : t.ev = s.ev) : VotesQuiet False s t :=
  votesQuiet_of_ev (h.highOf fun k hk => .inl (hlow k hk)) hev

theorem votesQuiet_closeCheckRun (s : State) : VotesQuiet False s (closeCheckRun s) := by
  have hvotes : ∀ u, VotesQuiet False u (setVotes [Dom.GATH, Dom.OUT] Client.cal false u) := fun u =>
    (votesQuiet_setVotes (by decide) _ _ u).of_ev (by decide)
  let t : State := { s with health := { s.health with run := none, windows := [] }, shots := (s.shots.map Shot.abandonCheck).filter fun sh => !sh.checkOver }
  have hblank : RegsKept [Reg.OUT_STATUS] s (fput Reg.OUT_STATUS_BLANK 1 t) := regsKept_fput (by simp) 1 t
  have hoff : ∀ u, RegsKept [Reg.OUT_STATUS] u
      (fput Reg.OUT_STATUS_SETTLED 0 (fput Reg.OUT_STATUS_EXPOSE_EN 0 { u with out := { u.out with exposeSince := none } })) := fun u =>
    (regsKept_fput (by simp) 0 { u with out := _ }).trans (regsKept_fput (by simp) 0 _)
  unfold closeCheckRun
  dsimp only
  (repeat' split)
  · exact (votesQuiet_low (hblank.trans (hoff _)) (by decide) rfl).trans (hvotes _)
  · exact votesQuiet_low (hblank.trans (hoff _)) (by decide) rfl
  · exact (votesQuiet_low hblank (by decide) rfl).trans (hvotes _)
  · exact votesQuiet_low hblank (by decide) rfl

theorem votesQuiet_endCheckRun (s : State) : VotesQuiet False s (endCheckRun s) := by
  unfold endCheckRun
  split
  · exact votesQuiet_closeCheckRun s
  · exact votesQuiet_of_eq rfl rfl

theorem votesQuiet_assertCut (w : Reason) (t : Int) (s : State) : VotesQuiet False s (assertCut w t s) := by
  refine VotesQuiet.trans ?_ (votesQuiet_endCheckRun _)
  split
  · exact votesQuiet_low (ls := [Reg.OUT_CUT_TIME, Reg.OUT_STATUS])
      ((regsKept_fput (f := Reg.OUT_CUT_TIME_STEPS) (by simp) _ s).trans (regsKept_fput (f := Reg.OUT_STATUS_BLANK) (by simp) 1 { fput _ _ s with shots := _ }))
      (by decide) rfl
  · exact votesQuiet_low (regsKept_fput (f := Reg.OUT_STATUS_BLANK) (ks := [Reg.OUT_STATUS]) (by simp) 1 { s with shots := _ }) (by decide) rfl

/-! ## The obligation -/

/-- The fuses of the lifecycle, and the report of it. -/
def lifecycleBlown (dst : Nat) (s : State) : State := raise Ev.LIFECYCLE_CHANGE (fput Reg.SEC_STATUS_LIFECYCLE dst s)

theorem lifecycle_blown {dst : Nat} (h : dst ≤ 3) (s : State) : lifecycle (lifecycleBlown dst s) = dst :=
  (fget_fput_same s Reg.SEC_STATUS_LIFECYCLE rfl dst).trans (Nat.mod_eq_of_lt (by simp; omega))

/-- BLANK_ALL asserts, and EXPOSE_EN is off. -/
theorem exposeOff_blanks (s : State) : fbit (exposeOff s) Reg.OUT_STATUS_BLANK = true ∧ fbit (exposeOff s) Reg.OUT_STATUS_EXPOSE_EN = false := by
  let u : State := { s with out := { s.out with exposeSince := none } }
  change fbit (fput Reg.OUT_STATUS_SETTLED 0 (fput Reg.OUT_STATUS_EXPOSE_EN 0 (fput Reg.OUT_STATUS_BLANK 1 u))) _ = _ ∧
    fbit (fput Reg.OUT_STATUS_SETTLED 0 (fput Reg.OUT_STATUS_EXPOSE_EN 0 (fput Reg.OUT_STATUS_BLANK 1 u))) _ = _
  constructor
  · rw [fbit_fput_beside _ _ _ rfl _ (by decide) (by decide), fbit_fput_beside _ _ _ rfl _ (by decide) (by decide), fbit_fput _ _ rfl rfl]
    rfl
  · rw [fbit_fput_beside _ _ _ rfl _ (by decide) (by decide), fbit_fput _ _ rfl rfl]
    rfl

theorem regsKept_exposeOff (s : State) : RegsKept [Reg.OUT_STATUS] s (exposeOff s) := by
  let u : State := { s with out := { s.out with exposeSince := none } }
  have hblank : RegsKept [Reg.OUT_STATUS] u (fput Reg.OUT_STATUS_BLANK 1 u) := regsKept_fput (by simp) 1 u
  have hoff := regsKept_fput (ks := [Reg.OUT_STATUS]) (f := Reg.OUT_STATUS_EXPOSE_EN) (by simp) 0 (fput Reg.OUT_STATUS_BLANK 1 u)
  exact (hblank.trans hoff).trans (regsKept_fput (f := Reg.OUT_STATUS_SETTLED) (by simp) 0 _)

/-- K_job is gone, and the memory key pair with it. -/
def jobKeysGone (s : State) : State := { s with sec := { s.sec with jobKey := none }, ecc := { s.ecc with memKeyGone := true } }

/-- The helper data is gone, and every key that it gave. -/
def identityGone (s : State) : State := { s with sec := { s.sec with helper := false, identity := false, wrap := false, rootKey := none } }

/-- The beams are off and K_job is gone, after SEC_ZEROIZE.PENDING has been set. -/
def beamsOff (s : State) : State :=
  exposeOff (assertCut .hold (stepsNow (fput Reg.SEC_ZEROIZE_PENDING 1 s)) (fput Reg.SEC_ZEROIZE_PENDING 1 s))

theorem zeroize_eq (s : State) : zeroize s =
    fput Reg.SEC_ZEROIZE_PENDING 0 (fput Reg.SEC_STATUS_ROOT_KEY 0 (identityGone (fput Reg.SEC_STATUS_JOB_KEY 0 (jobKeysGone (beamsOff s))))) := rfl

theorem regsKept_zeroize (s : State) : RegsKept [Reg.SEC_STATUS, Reg.SEC_ZEROIZE] (beamsOff s) (zeroize s) := by
  have hjob := regsKept_fput (ks := [Reg.SEC_STATUS, Reg.SEC_ZEROIZE]) (f := Reg.SEC_STATUS_JOB_KEY) (by simp) 0 (jobKeysGone (beamsOff s))
  have hroot := regsKept_fput (ks := [Reg.SEC_STATUS, Reg.SEC_ZEROIZE]) (f := Reg.SEC_STATUS_ROOT_KEY) (by simp) 0
    (identityGone (fput Reg.SEC_STATUS_JOB_KEY 0 (jobKeysGone (beamsOff s))))
  have hstart : RegsKept [Reg.SEC_STATUS, Reg.SEC_ZEROIZE] (beamsOff s) (jobKeysGone (beamsOff s)) := fun _ _ => rfl
  rw [zeroize_eq]
  exact ((hstart.trans hjob).trans hroot).trans (regsKept_fput (f := Reg.SEC_ZEROIZE_PENDING) (by simp) 0 _)

/-- The keys go, the beams are off, and nothing else that the lifecycle says of the module changes (R462). -/
theorem zeroize_zeroizes (s : State) :
    (zeroize s).sec = { s.sec with jobKey := none, helper := false, identity := false, wrap := false, rootKey := none } ∧
    (zeroize s).ecc.memKeyGone = true ∧ (zeroize s).ev = s.ev ∧ fbit (zeroize s) Reg.OUT_STATUS_BLANK = true ∧
    fbit (zeroize s) Reg.OUT_STATUS_EXPOSE_EN = false ∧ fget (zeroize s) Reg.SEC_STATUS_ROOT_KEY = 0 ∧
    fget (zeroize s) Reg.SEC_STATUS_JOB_KEY = 0 ∧ lifecycle (zeroize s) = lifecycle s := by
  have hsec : (beamsOff s).sec = s.sec := by simp [beamsOff]
  have hquiet := votesQuiet_assertCut .hold (stepsNow (fput Reg.SEC_ZEROIZE_PENDING 1 s)) (fput Reg.SEC_ZEROIZE_PENDING 1 s)
  have hev : (beamsOff s).ev = s.ev := by simpa [beamsOff] using hquiet.ev not_false
  obtain ⟨hblank, hexpose⟩ := exposeOff_blanks (assertCut .hold (stepsNow (fput Reg.SEC_ZEROIZE_PENDING 1 s)) (fput Reg.SEC_ZEROIZE_PENDING 1 s))
  have hlife : fget (beamsOff s) Reg.SEC_STATUS_LIFECYCLE = fget s Reg.SEC_STATUS_LIFECYCLE := by
    rw [beamsOff, (regsKept_exposeOff _).fget (by decide), hquiet.high.fget (by decide) (by decide), fget_fput_other _ _ _ _ (by decide)]
  have hregs := regsKept_zeroize s
  refine ⟨?_, ?_, ?_, ?_, ?_, ?_, ?_, ?_⟩
  · simp [zeroize_eq, identityGone, jobKeysGone, hsec]
  · simp [zeroize_eq, identityGone, jobKeysGone]
  · simp [zeroize_eq, identityGone, jobKeysGone, hev]
  · exact (hregs.fbit (by decide)).trans hblank
  · exact (hregs.fbit (by decide)).trans hexpose
  · rw [zeroize_eq, fget_fput_other _ _ _ _ (by decide)]
    exact fget_fput_same _ _ rfl 0
  · rw [zeroize_eq, fget_fput_other _ _ _ _ (by decide), fget_fput_beside _ _ _ rfl _ (by decide) (by decide)]
    exact fget_fput_same _ _ rfl 0
  · rw [lifecycle, lifecycle, zeroize_eq, fget_fput_other _ _ _ _ (by decide), fget_fput_beside _ _ _ rfl _ (by decide) (by decide), ← hlife]
    exact fget_fput_beside (jobKeysGone (beamsOff s)) Reg.SEC_STATUS_JOB_KEY _ rfl 0 (by decide) (by decide)

theorem transitionKey_accept (n : Fin 16) (s : State) (a b : Nat) : transitionKey (accept n s) a b = transitionKey s a b := by
  simp [transitionKey]

set_option Elab.async false in
/-- Settles O27. -/
theorem lifecycleMoves : Obligations.LifecycleMoves := by
  intro r s
  have hlife : lifecycle (accept r.slot s) = lifecycle s := fget_accept _ _ _ (by decide)
  refine ⟨fun target auth h hlo hhi hmode => ⟨fun hkey => ?_, fun key hkey => ?_⟩, fun key h hmode hlen => ?_⟩
  · refine completes_of_command rfl h ?_ (acceptedAs_self _ _) (decide_eq_true ⟨hlo, hhi⟩) rfl hmode
    simp only [lifecycleWith, hlife, transitionKey_accept, hkey]
  · refine yields_of_effect rfl h ?_ (decide_eq_true ⟨hlo, hhi⟩) rfl hmode
    simp only [lifecycleWith, hlife, transitionKey_accept, hkey]
    refine ⟨fun hbad => ?_, fun hgood => ?_⟩
    · rw [hbad, if_neg (by decide)]
      exact ⟨answered_of_mail h.orphan rfl, by simp, by simp, by simp, by simp, regsKept_command (fun _ _ => rfl), dramKept_of_eq (by simp)⟩
    · rw [hgood, if_pos rfl]
      let u := lifecycleBlown target (accept r.slot s)
      have hu : lifecycle u = target := lifecycle_blown hhi _
      have hregs : RegsKept [Reg.MBX_STATE, Reg.SEC_STATUS] (accept r.slot s) u :=
        (regsKept_fput (f := Reg.SEC_STATUS_LIFECYCLE) (by simp) target (accept r.slot s)).trans (fun _ _ => rfl)
      have hev : u.ev = (raise Ev.LIFECYCLE_CHANGE s).ev := by simp [u, lifecycleBlown, raise]
      have heffect : lifecycleEffect target (accept r.slot s) = if target = 3 then zeroize u else u := rfl
      have hanswer : Answered s (complete r.slot .ok [] (lifecycleEffect target (accept r.slot s))) r.slot .ok [] :=
        answered_of_mail h.orphan (by simp)
      by_cases h3 : target = 3
      · rw [if_pos h3] at heffect
        obtain ⟨hsec, hmem, hzev, hblank, hexpose, hroot, hjob, hzlife⟩ := zeroize_zeroizes u
        have hkept := regsKept_complete r.slot .ok [] (zeroize u)
        refine ⟨hanswer, ?_, ?_, by simp, by simp, dramKept_of_eq (by simp), fun hne => absurd h3 hne, fun _ => ?_⟩
        · rw [heffect, lifecycle, hkept.fget (by decide)]
          exact hzlife.trans hu
        · rw [heffect]
          simpa [hzev] using hev
        · rw [heffect, hkept.fbit (by decide), hkept.fbit (by decide), hkept.fget (by decide), hkept.fget (by decide)]
          refine ⟨?_, by simpa using hmem, hblank, hexpose, hroot, hjob⟩
          rw [show (complete r.slot .ok [] (zeroize u)).sec = (zeroize u).sec by simp, hsec]
          simp [u, lifecycleBlown]
      · rw [if_neg h3] at heffect
        refine ⟨hanswer, ?_, ?_, by simp, by simp, dramKept_of_eq (by simp), fun _ => ⟨?_, ?_⟩, fun he => absurd he h3⟩
        · rw [heffect, lifecycle, (regsKept_complete _ _ _ _).fget (by decide)]
          exact hu
        · rw [heffect]
          simpa using hev
        · rw [heffect]
          simp [u, lifecycleBlown]
        · rw [heffect]
          exact regsKept_command hregs
  · refine yields_of_effect rfl h ?_ rfl rfl hmode
    have hsec : (accept r.slot s).sec = s.sec := by simp
    simp only [hlife, hsec, slice_self hlen]
    refine ⟨fun horder hprov hroot => ?_, fun hbad => ?_⟩
    · rw [if_pos ⟨horder, hprov, by simp [hroot]⟩]
      have hregs : RegsKept [Reg.MBX_STATE, Reg.SEC_STATUS] (accept r.slot s)
          (fput Reg.SEC_STATUS_ROOT_KEY 1 { accept r.slot s with sec := { s.sec with rootKey := some key } }) :=
        regsKept_fput (by simp) 1 { accept r.slot s with sec := _ }
      refine ⟨answered_of_mail h.orphan rfl, by simp, ?_, by simp, by simp, by simp, regsKept_command hregs, dramKept_of_eq (by simp)⟩
      rw [(regsKept_complete _ _ _ _).fget (by decide)]
      exact fget_fput_same _ _ rfl 1
    · rw [if_neg]
      · exact (acceptedAs_self r.slot s).completed _ _ h.orphan
      · rintro ⟨horder, hprov, hroot⟩
        obtain hbad | hbad | hbad := hbad
        · exact hbad horder
        · exact hbad hprov
        · simp_all

end Sys2Proof.Machine
end

section
/-!
PROOFS. Built-in self-tests (O29).
-/

namespace Sys2Proof.Machine

/-! ## What asking for a Hold leaves -/

/-- Registers, flow, events, mailboxes and the cohort's wire may change; the rest stands. -/
def HoldOnly (s t : State) : Prop := t = { s with regs := t.regs, flow := t.flow, ev := t.ev, mail := t.mail, coh := t.coh }

theorem HoldOnly.trans {s t u : State} (h : HoldOnly s t) (h' : HoldOnly t u) : HoldOnly s u := by
  unfold HoldOnly at *
  rw [h', h]

theorem holdOnly_complete (n : Fin 16) (st : Status) (p : List Byte) (s : State) : HoldOnly s (complete n st p s) := by
  unfold HoldOnly
  apply State.ext <;> simp

theorem holdOnly_completeOpt (n : Option (Fin 16)) (st : Status) (p : List Byte) (s : State) : HoldOnly s (completeOpt n st p s) := by
  cases n with
  | none => rfl
  | some n => exact holdOnly_complete n st p s

theorem holdOnly_sendHoldSet (s : State) : HoldOnly s (sendHoldSet s) := by
  have hsend : ∀ src id (u : State) (p : Port), HoldOnly u (sendHoldOn src id u p) := by
    intro src id u p
    unfold sendHoldOn
    split <;> rfl
  unfold sendHoldSet
  dsimp only
  split
  · exact (HoldOnly.trans (t := fput Reg.COH_HOLD_ID_ID ((fget s Reg.COH_HOLD_ID_ID + 1) % 65536) _) rfl (hsend _ _ _ _)).trans (hsend _ _ _ _)
  · rfl

theorem holdOnly_cancelResume (s : State) : HoldOnly s (cancelResume s) := by
  unfold cancelResume
  split
  case h_2 => rfl
  case h_1 =>
    refine HoldOnly.trans ?_ (holdOnly_completeOpt _ _ _ _)
    (repeat' split)
    · exact HoldOnly.trans (t := raise Ev.HOLD (fput Reg.OUT_STATUS_BLANK 1 { s with flow := { s.flow with resume := .none, mode := .hold } }))
        rfl (holdOnly_sendHoldSet _)
    all_goals rfl

theorem holdOnly_requestHold (n : Nat) (s : State) : HoldOnly s (requestHold n s) := by
  have hcancel : HoldOnly s (cancelResume (setCause n s)) := HoldOnly.trans (t := setCause n s) rfl (holdOnly_cancelResume _)
  unfold requestHold
  dsimp only
  split
  · exact hcancel.trans rfl
  · split
    · exact hcancel.trans rfl
    · exact hcancel

theorem holdOnly_absReserve (s : State) : HoldOnly s (absReserve s) := by
  unfold absReserve
  split
  · exact (HoldOnly.trans (t := fput Reg.ABS_STATUS_RESERVE 1 s) rfl (holdOnly_requestHold 9 _)).trans rfl
  · split <;> rfl

theorem holdOnly_absSync (s : State) : HoldOnly s (absSync s) := by
  have hlost : ∀ u, HoldOnly u (absShowLost u) := fun u => by
    unfold absShowLost
    split <;> rfl
  let u := fput Reg.ABS_OPEN_ENTRIES (fput Reg.ABS_FREE_SLOTS (absFree s) s).abs.openE.length (fput Reg.ABS_FREE_SLOTS (absFree s) s)
  have hu : HoldOnly s (fputSat Reg.ABS_UNREC_ENTRIES (unrecCount u) u) := rfl
  exact (hu.trans (hlost _)).trans (holdOnly_absReserve _)

/-! ## Stopping the checks of Service -/

/-- The self-test in progress, and the one that follows, are those of `s`. -/
def BistKept (s t : State) : Prop := t.mon.bist = s.mon.bist ∧ t.mon.bistNext = s.mon.bistNext

theorem BistKept.trans {s t u : State} (h : BistKept s t) (h' : BistKept t u) : BistKept s u := ⟨h'.1.trans h.1, h'.2.trans h.2⟩

theorem bistKept_of_mon {s t : State} (h : t.mon = s.mon) : BistKept s t := by
  unfold BistKept
  rw [h]
  exact ⟨rfl, rfl⟩

theorem VotesMoved.bistKept {s t : State} (h : VotesMoved s t) : BistKept s t := by
  rw [h]
  exact ⟨rfl, rfl⟩

theorem bistKept_closeCheckRun (s : State) : BistKept s (closeCheckRun s) := by
  unfold closeCheckRun
  dsimp only
  (repeat' split)
  case isTrue.isTrue | isFalse.isTrue => exact BistKept.trans ⟨rfl, rfl⟩ (votesMoved_setVotes _ _ _ _).bistKept
  all_goals exact ⟨rfl, rfl⟩

theorem bistKept_endCheckRun (s : State) : BistKept s (endCheckRun s) := by
  unfold endCheckRun
  split
  · exact bistKept_closeCheckRun s
  · exact ⟨rfl, rfl⟩

theorem stopChan_mon (n : Nat) (s : State) : (stopChan n s).mon = s.mon := by
  unfold stopChan
  dsimp only
  split
  · split <;> simp [startProfile, cancelCommit, updChan]
  · simp [cancelCommit, updChan]

theorem bistKept_stopChecks (s : State) : BistKept s (stopChecks s) := by
  have hlocate : ∀ u, (dropLocate u).mon = u.mon := fun u => by
    unfold dropLocate locateOver
    split
    · split <;> simp [disownStage, stopStage, stopChan_mon]
    · rfl
  have hstarts : ∀ u, (dropStarts u).mon = u.mon := fun u => by
    unfold dropStarts
    rw [foldl_mon _ _ _ fun s x t h => by rw [← h]; simp]
  refine (bistKept_endCheckRun s).trans (bistKept_of_mon ?_)
  unfold stopChecks
  simp [hlocate, hstarts]

/-- Below `highRegs`: the registers that stopping the stage writes. -/
def stageRegs : List Nat := [Reg.MOT_CH_STATUS 0, Reg.MOT_CH_STATUS 1]

theorem regsKept_stopChan {n : Nat} (hn : n < 2) (s : State) : RegsKept stageRegs s (stopChan n s) := by
  have hreg : Reg.MOT_CH_STATUS n ∈ stageRegs := by
    obtain rfl | rfl : n = 0 ∨ n = 1 := by omega
    · simp [stageRegs]
    · simp [stageRegs]
  have hcancel : RegsKept stageRegs s (cancelCommit n s) :=
    ((regsKept_fput (f := Reg.MOT_CH_STATUS_PLANNED n) hreg 0 s).trans (regsKept_fput (f := Reg.MOT_CH_STATUS_PENDING n) hreg 0 _)).trans (fun _ _ => rfl)
  unfold stopChan
  dsimp only
  split
  · split
    · exact hcancel.trans (regsKept_fput (f := Reg.MOT_CH_STATUS_STATE n) hreg _ (updChan n _ _))
    · exact hcancel
  · exact hcancel

theorem regsKept_disownStage (s : State) : RegsKept stageRegs s (disownStage s) := by
  let u : State := { s with mot := { s.mot with step := 0, locate := false } }
  exact (regsKept_fput (f := Reg.MOT_CH_STATUS_OWNED 1) (by simp [stageRegs]) 0 u).trans
    (regsKept_fput (f := Reg.MOT_CH_STATUS_OWNED 0) (by simp [stageRegs]) 0 _)

theorem regsKept_dropLocate (s : State) : RegsKept stageRegs s (dropLocate s) := by
  have hstop : RegsKept stageRegs s (stopStage s) :=
    ((regsKept_stopChan (by decide) s).trans (regsKept_stopChan (by decide) _)).trans (fun _ _ => rfl)
  unfold dropLocate locateOver
  split
  · split
    · exact hstop.trans (regsKept_disownStage _)
    · exact hstop
  · exact fun _ _ => rfl

theorem highKept_stopChecks (s : State) : HighKept voteRegs s (stopChecks s) := by
  have hlocate : HighKept voteRegs (endCheckRun s) (dropLocate (endCheckRun s)) := (regsKept_dropLocate _).highOf (by decide)
  have hstarts : HighKept voteRegs (dropLocate (endCheckRun s)) (dropStarts (dropLocate (endCheckRun s))) := (regsKept_dropStarts _).highOf (by decide)
  refine (((votesQuiet_endCheckRun s).high.trans hlocate).trans hstarts).trans fun k _ _ => ?_
  unfold stopChecks
  rw [rget_raiseIf]
  rfl

/-! ## A run starts -/

theorem bistOrder_lt (m : BitVec 9) : ∀ d ∈ bistOrder m, d < 9 := fun d hd => by
  simp only [bistOrder, List.mem_filter, List.mem_cons, List.not_mem_nil, or_false] at hd
  omega

/-- MON_BIST_STATUS shows the run as it starts. -/
def bistShown (kind : Nat) (s : State) : State := fput Reg.MON_BIST_STATUS_KIND kind (fput Reg.MON_BIST_STATUS_RUNNING 1 s)

theorem bistShown_shows {kind : Nat} (h : kind ≤ 1) (s : State) :
    fget (bistShown kind s) Reg.MON_BIST_STATUS_RUNNING = 1 ∧ fget (bistShown kind s) Reg.MON_BIST_STATUS_KIND = kind := by
  constructor
  · rw [bistShown, fget_fput_beside _ _ _ rfl _ (by decide) (by decide)]
    exact fget_fput_same _ _ rfl 1
  · exact (fget_fput_same _ _ rfl kind).trans (Nat.mod_eq_of_lt (by simp; omega))

/-- A self-test is in progress. -/
def bistRuns (b : Bist) (s : State) : State := { s with mon := { s.mon with bist := some b } }

/-- The votes of a logic run, before the checks of Service are stopped. -/
def logicVotes (m : BitVec 9) (s : State) : State :=
  setVotes (bistOrder m) Client.diag true (bistRuns ⟨0, m, false⟩ s)

theorem startLogic_starts (m : BitVec 9) (s : State) :
    (startLogic m s).mon.bist = some ⟨0, m, false⟩ ∧ HighKept voteRegs s (startLogic m s) ∧ Completing s (startLogic m s) ∧
      fbit (startLogic m s) Reg.OUT_STATUS_BLANK = true ∧ fbit (startLogic m s) Reg.OUT_STATUS_EXPOSE_EN = false := by
  have heq : startLogic m s = exposeOff (stopChecks (logicVotes m s)) := rfl
  obtain ⟨hblank, hexpose⟩ := exposeOff_blanks (stopChecks (logicVotes m s))
  have hvotes := votesMoved_setVotes (bistOrder m) Client.diag true (bistRuns ⟨0, m, false⟩ s)
  have hquiet := votesQuiet_setVotes (bistOrder_lt m) Client.diag true (bistRuns ⟨0, m, false⟩ s)
  rw [heq]
  refine ⟨?_, ?_, ?_, hblank, hexpose⟩
  · rw [show (exposeOff (stopChecks (logicVotes m s))).mon = (stopChecks (logicVotes m s)).mon from rfl, (bistKept_stopChecks _).1]
    exact hvotes.bistKept.1
  · have hstart : HighKept voteRegs s (logicVotes m s) := HighKept.trans (fun _ _ _ => rfl) hquiet.high
    exact (hstart.trans (highKept_stopChecks _)).trans ((regsKept_exposeOff _).highOf (by decide))
  · have hmail : Completing s (logicVotes m s) := completing_of_mail (by simp [logicVotes, bistRuns])
    exact (hmail.trans (completing_stopChecks (logicVotes m s))).of_mail (by simp)

/-- The registers of the table and of the log return to POR for a memory run. -/
def memoryRegs : List Nat := [Reg.GTH_BT_STATUS, Reg.ABS_HEAD, Reg.ABS_TAIL, Reg.ABS_STATUS, Reg.ABS_LOST_LS, Reg.ABS_LOST_SHOT]

/-- What a memory run finds empty. -/
def memoryEmptied (s : State) : State :=
  let s := stopChecks (bistRuns ⟨1, 0, false⟩ s)
  memoryRegs.foldl (fun s k => rpor k s) { s with beams := Beams.empty, abs := ⟨[], [], none, []⟩, ingest := { s.ingest with rejects := [] } }

theorem startMemory_eq (s : State) : startMemory s = absSync (beamCounts (memoryEmptied s)) := rfl

theorem startMemory_starts (s : State) :
    (startMemory s).mon.bist = some ⟨1, 0, false⟩ ∧ (startMemory s).beams.table = [] ∧ (startMemory s).ingest.rejects = [] ∧
      HighKept (Reg.COH_HOLD_ID :: voteRegs) s (startMemory s) ∧ Completing s (startMemory s) := by
  have hsync := holdOnly_absSync (beamCounts (memoryEmptied s))
  rw [startMemory_eq]
  refine ⟨?_, ?_, ?_, ?_, ?_⟩
  · rw [hsync]
    exact (bistKept_stopChecks (bistRuns ⟨1, 0, false⟩ s)).1
  · rw [hsync]
    rfl
  · rw [hsync]
    rfl
  · have hpor : ∀ (l : List Nat) (u : State), (∀ k ∈ l, k < highRegs) → HighKept (Reg.COH_HOLD_ID :: voteRegs) u (l.foldl (fun s k => rpor k s) u) := by
      intro l
      induction l with
      | nil => exact fun _ _ _ _ _ => rfl
      | cons k l ih =>
        intro u hl
        have hlow := hl k List.mem_cons_self
        have hk : HighKept (Reg.COH_HOLD_ID :: voteRegs) u (rpor k u) := fun j hj _ => rget_rset_other _ _ _ _ (by omega)
        exact hk.trans (ih _ fun j hj => hl j (List.mem_cons_of_mem k hj))
    have hstop : HighKept (Reg.COH_HOLD_ID :: voteRegs) s (stopChecks (bistRuns ⟨1, 0, false⟩ s)) :=
      fun k hk hks => highKept_stopChecks (bistRuns ⟨1, 0, false⟩ s) k hk fun h => hks (List.mem_cons_of_mem _ h)
    have hcounts : RegsKept [Reg.BHM_COUNTS] (memoryEmptied s) (beamCounts (memoryEmptied s)) :=
      (regsKept_fput (f := Reg.BHM_COUNTS_WEAK) (by simp) _ _).trans (regsKept_fput (f := Reg.BHM_COUNTS_RETIRED) (by simp) _ _)
    refine ((hstop.trans ?_).trans (hcounts.highOf (by decide))).trans ((regsKept_absSync _).highOf (by decide))
    exact HighKept.trans (fun _ _ _ => rfl) (hpor memoryRegs { stopChecks _ with beams := _, abs := _, ingest := _ } (by decide))
  · have hmail : Completing s (bistRuns ⟨1, 0, false⟩ s) := completing_of_mail rfl
    exact ((hmail.trans (completing_stopChecks (bistRuns ⟨1, 0, false⟩ s))).of_mail (by simp [memoryEmptied])).trans (completing_absSync _)

/-! ## A logic run ends -/

theorem votesQuiet_restoreRegs (d : Nat) (s : State) : VotesQuiet False s (restoreRegs d s) := by
  have hfold : ∀ (l : List (Nat × Word)) (u : State), (∀ e ∈ l, (domainBlocks d).contains (e.1 / 65536) = true) →
      HighKept voteRegs u (l.foldl (fun s e => rset e.1 e.2 s) u) := by
    intro l
    induction l with
    | nil => exact fun _ _ _ _ _ => rfl
    | cons e l ih =>
      intro u hl
      have hlow := lt_highRegs (hl e List.mem_cons_self)
      have hset : HighKept voteRegs u (rset e.1 e.2 u) := fun k hk _ => rget_rset_other _ _ _ _ (by omega)
      exact hset.trans (ih _ fun f hf => hl f (List.mem_cons_of_mem e hf))
  have hdrop : HighKept voteRegs s { s with regs := s.regs.filter fun e => !(domainBlocks d).contains (e.1 / 65536) } :=
    fun k hk _ => get_filter_domain d k s.regs hk
  refine votesQuiet_of_ev (hdrop.trans (hfold _ { s with regs := _, pwr := _ } fun e he => (List.mem_filter.mp he).2)) ?_
  simp

theorem votesQuiet_renewDomain (d : Nat) (s : State) : VotesQuiet (d = Dom.COH) s (renewDomain d s) := by
  unfold renewDomain
  split
  · exact ((votesQuiet_of_ev (highKept_dropRegs _ d s) rfl).trans (votesQuiet_dropContents d _)).trans
      ((votesQuiet_restoreRegs d _).of_ev False.elim)
  · exact votesQuiet_of_eq rfl rfl

theorem bistKept_renewDomain (d : Nat) (s : State) : BistKept s (renewDomain d s) := by
  have hrestore : ∀ u, (restoreRegs d u).mon = u.mon := fun u => by
    unfold restoreRegs
    dsimp only
    rw [foldl_mon _ _ _ fun s x t h => by rw [← h]; simp]
  unfold renewDomain
  split
  · exact ((votesMoved_dropRegs d s).bistKept.trans (votesMoved_dropContents d _).bistKept).trans (bistKept_of_mon (hrestore _))
  · exact ⟨rfl, rfl⟩

/-- The registers that show what a logic run has found. -/
def logicShown (m bad : BitVec 9) (misr : DWord) (s : State) : State :=
  let s := fput Reg.MON_BIST_STATUS_TESTED m.toNat (fput Reg.MON_BIST_STATUS_FAILED bad.toNat s)
  if bad = 0 then s else rset64 Reg.MON_BIST_MISR_LO Reg.MON_BIST_MISR_HI misr.toNat s

theorem logicShown_shows (m bad : BitVec 9) (misr : DWord) (s : State) :
    fget (logicShown m bad misr s) Reg.MON_BIST_STATUS_TESTED = m.toNat ∧ fget (logicShown m bad misr s) Reg.MON_BIST_STATUS_FAILED = bad.toNat ∧
    (bad ≠ 0 → (rget (logicShown m bad misr s) Reg.MON_BIST_MISR_LO).toNat = misr.toNat % 2 ^ 32 ∧
      (rget (logicShown m bad misr s) Reg.MON_BIST_MISR_HI).toNat = misr.toNat / 2 ^ 32) := by
  let u := fput Reg.MON_BIST_STATUS_TESTED m.toNat (fput Reg.MON_BIST_STATUS_FAILED bad.toNat s)
  have htested : fget u Reg.MON_BIST_STATUS_TESTED = m.toNat := (fget_fput_same _ _ rfl _).trans (Nat.mod_eq_of_lt m.isLt)
  have hfailed : fget u Reg.MON_BIST_STATUS_FAILED = bad.toNat := by
    rw [fget_fput_beside _ _ _ rfl _ (by decide) (by decide)]
    exact (fget_fput_same _ _ rfl _).trans (Nat.mod_eq_of_lt bad.isLt)
  have hmisr : ∀ f : Field, f.reg = Reg.MON_BIST_STATUS → fget (rset64 Reg.MON_BIST_MISR_LO Reg.MON_BIST_MISR_HI misr.toNat u) f = fget u f :=
    fun f hf => fget_congr ((rget_rset_other _ _ _ _ (by rw [hf]; decide)).trans (rget_rset_other _ _ _ _ (by rw [hf]; decide)))
  by_cases hbad : bad = 0
  · have heq : logicShown m bad misr s = u := if_pos hbad
    rw [heq]
    exact ⟨htested, hfailed, fun h => absurd hbad h⟩
  · have heq : logicShown m bad misr s = rset64 Reg.MON_BIST_MISR_LO Reg.MON_BIST_MISR_HI misr.toNat u := if_neg hbad
    rw [heq]
    refine ⟨(hmisr _ rfl).trans htested, (hmisr _ rfl).trans hfailed, fun _ => ⟨?_, ?_⟩⟩
    · rw [rset64, rget_rset_other _ _ _ _ (by decide), rget_rset_same, BitVec.toNat_ofNat]
    · rw [rset64, rget_rset_same, BitVec.toNat_ofNat]
      have := misr.isLt
      omega

theorem logicResult_eq (m bad : BitVec 9) (misr : DWord) (s : State) : logicResult m bad misr s =
    ((bistOrder m).filter (· != 2)).foldl (fun s d => renewDomain d s) (logicShown m bad misr s) := rfl

theorem logicResult_keeps (m bad : BitVec 9) (misr : DWord) (s : State) :
    VotesQuiet (m.getLsbD Dom.COH = true) (logicShown m bad misr s) (logicResult m bad misr s) ∧
      BistKept (logicShown m bad misr s) (logicResult m bad misr s) := by
  have hfold : ∀ (l : List Nat) (u : State), (∀ d ∈ l, d = Dom.COH → m.getLsbD Dom.COH = true) →
      VotesQuiet (m.getLsbD Dom.COH = true) u (l.foldl (fun s d => renewDomain d s) u) ∧ BistKept u (l.foldl (fun s d => renewDomain d s) u) := by
    intro l
    induction l with
    | nil => exact fun _ _ => ⟨votesQuiet_of_eq rfl rfl, ⟨rfl, rfl⟩⟩
    | cons d l ih =>
      intro u hl
      obtain ⟨hquiet, hbist⟩ := ih (renewDomain d u) fun e he => hl e (List.mem_cons_of_mem d he)
      exact ⟨((votesQuiet_renewDomain d u).of_ev (hl d List.mem_cons_self)).trans hquiet, (bistKept_renewDomain d u).trans hbist⟩
  rw [logicResult_eq]
  refine hfold _ _ fun d hd hcoh => ?_
  have hmem := List.mem_filter.mp (List.mem_filter.mp hd).1
  exact hcoh ▸ hmem.2

theorem logicShown_keeps (m bad : BitVec 9) (misr : DWord) (s : State) : (logicShown m bad misr s).ev = s.ev ∧ (logicShown m bad misr s).mon = s.mon := by
  unfold logicShown
  dsimp only
  split <;> exact ⟨rfl, rfl⟩

theorem coh_mem_bistOrder {m : BitVec 9} : Dom.COH ∈ bistOrder m ↔ m.getLsbD Dom.COH = true := by
  simp [bistOrder]

/-- A logic run that did not test PROC, with nothing that waits for it, is over. -/
theorem logicEnds_over {m failed : BitVec 9} {misr : DWord} {s : State} (hproc : m.getLsbD 2 = false) (hnext : s.mon.bistNext = none)
    (hexit : s.flow.serviceExit = none) : logicEnds m failed misr s =
      setVotes (bistOrder m) Client.diag false (bistReport (failed &&& m != 0) (logicResult m (failed &&& m) misr s)) := by
  let u := bistReport (failed &&& m != 0) (logicResult m (failed &&& m) misr s)
  have hkept : (logicResult m (failed &&& m) misr s).mon.bistNext = none := by
    rw [(logicResult_keeps _ _ _ _).2.2, (logicShown_keeps _ _ _ _).2, hnext]
  have hbist : (setVotes (bistOrder m) Client.diag false u).mon.bistNext = none := by
    rw [(votesMoved_setVotes _ _ _ u).bistKept.2]
    simpa [u, bistReport] using hkept
  have hflow : (setVotes (bistOrder m) Client.diag false u).flow.serviceExit = none := by simpa [u, bistReport] using hexit
  have hends : logicEnds m failed misr s = serviceExitDue (bistFollows (setVotes (bistOrder m) Client.diag false u)) := by
    unfold logicEnds
    rw [hproc]
    rfl
  have hfollows : bistFollows (setVotes (bistOrder m) Client.diag false u) = setVotes (bistOrder m) Client.diag false u := by
    unfold bistFollows
    rw [hbist]
  rw [hends, hfollows]
  unfold serviceExitDue
  rw [hflow]

/-- The high registers that a Proctor restart writes. -/
def restartRegs : List Nat := [Reg.TIM_STATUS, Reg.TIM_INC_LO, Reg.TIM_INC_HI] ++ voteRegs

theorem highKept_resetChk (s : State) : HighKept restartRegs s (resetChk [2, 3] s) := by
  have hpor : ∀ (l : List Nat) (u : State), (∀ k ∈ l, k < highRegs) → HighKept restartRegs u (l.foldl (fun s k => rpor k s) u) := by
    intro l
    induction l with
    | nil => exact fun _ _ _ _ _ => rfl
    | cons k l ih =>
      intro u hl
      have hlow := hl k List.mem_cons_self
      have hk : HighKept restartRegs u (rpor k u) := fun j hj _ => rget_rset_other _ _ _ _ (by omega)
      exact hk.trans (ih _ fun j hj => hl j (List.mem_cons_of_mem k hj))
  have hunit : ∀ u : Nat, (∀ k ∈ chkRegs u, k < highRegs) → ∀ v : State,
      HighKept restartRegs v ((chkRegs u).foldl (fun s k => rpor k s) { v with chk := updAt Chk.por v.chk u fun _ => Chk.por }) := fun u hu v =>
    HighKept.trans (fun _ _ _ => rfl) (hpor (chkRegs u) { v with chk := _ } hu)
  exact (hunit 2 (by decide) s).trans (hunit 3 (by decide) _)

/-- A Proctor restart leaves a self-test that waits for it, and asks for the mode in which it ends. -/
theorem startRestart_keeps {b : Bist} {s : State} (after : Mode) (hb : s.mon.bist = some b) (hfilling : b.filling = true) :
    (startRestart after s).mon.bist = some b ∧ (startRestart after s).flow.restart = some after ∧ HighKept restartRegs s (startRestart after s) := by
  let u := dropStart (endCheckRun s)
  have hubist : u.mon.bist = some b := by
    have hdrop : u.mon = (endCheckRun s).mon := by
      simp only [u, dropStart]
      split <;> rfl
    rw [hdrop, (bistKept_endCheckRun s).1, hb]
  have huregs : HighKept restartRegs s u := by
    have hend : HighKept restartRegs s (endCheckRun s) := fun k hk hks => (votesQuiet_endCheckRun s).high k hk fun h => hks (List.mem_append_right _ h)
    refine hend.trans ?_
    simp only [u, dropStart]
    split
    · let v : State := { endCheckRun s with flow := { (endCheckRun s).flow with starting := none } }
      have hoff : HighKept restartRegs (endCheckRun s) (exposeOff v) := HighKept.trans (t := v) (fun _ _ _ => rfl) ((regsKept_exposeOff v).highOf (by decide))
      exact hoff.trans ((regsKept_disownStage _).highOf (by decide))
    · exact fun _ _ _ => rfl
  have hsettle : ∀ v, HighKept restartRegs v (loseLocks v) := fun v => by
    let w : State := { v with tim := { v.tim with refWindows := 0 } }
    have hlocks : RegsKept [Reg.TIM_STATUS, Reg.TIM_INC_LO, Reg.TIM_INC_HI] v (fput Reg.TIM_STATUS_PTP_LOCK 0 (fput Reg.TIM_STATUS_REF_LOCK 0 w)) :=
      (regsKept_fput (by simp) 0 w).trans (regsKept_fput (by simp) 0 _)
    exact (hlocks.trans (regsKept_settleSource _)).highOf fun k hk => .inr (List.mem_append_left _ hk)
  have hform : ∃ w : State, startRestart after s = loseLocks (resetChk [2, 3] w) ∧ w.regs = u.regs ∧ w.mon.bist = some b ∧
      w.flow.restart = some after := by
    unfold startRestart
    dsimp only
    split
    next c hc =>
      have hcb : c = b := Option.some.inj (hc.symm.trans hubist)
      rw [if_neg (by simp [hcb, hfilling])]
      exact ⟨_, rfl, rfl, hubist, rfl⟩
    next hc => exact absurd (hubist.symm.trans hc) (by simp)
  obtain ⟨w, hw, hwregs, hwbist, hwrestart⟩ := hform
  rw [hw]
  refine ⟨?_, ?_, ?_⟩
  · have hmon : ∀ v, (settleSource v).mon = v.mon := fun v => by
      unfold settleSource
      dsimp only
      split <;> rfl
    rw [show (loseLocks (resetChk [2, 3] w)).mon = w.mon by simp [loseLocks, hmon, resetChk]]
    exact hwbist
  · simpa [loseLocks, resetChk] using hwrestart
  · have hstart : HighKept restartRegs s w := huregs.trans (highKept_of_eq hwregs)
    exact (hstart.trans (highKept_resetChk w)).trans (hsettle _)

/-! ## A memory run ends -/

theorem fbit_memFails (u : MemUnit) (s : State) : fbit (memFails u s) Reg.MON_BIST_STATUS_MEM_FAIL = true := by
  have hput : fbit (fput Reg.MON_BIST_STATUS_MEM_FAIL 1 s) Reg.MON_BIST_STATUS_MEM_FAIL = true := fbit_fput _ _ rfl rfl 1
  have hother : ∀ (f : Field) (v : Nat) (t : State), f.reg ≠ Reg.MON_BIST_STATUS → fbit t Reg.MON_BIST_STATUS_MEM_FAIL = true →
      fbit (fput f v t) Reg.MON_BIST_STATUS_MEM_FAIL = true := fun f v t hf ht => by
    rw [fbit_fput_other _ _ _ _ (Ne.symm hf)]
    exact ht
  cases u with
  | dram a => exact hother _ _ _ (by decide) (hother _ _ _ (by decide) (hother _ _ _ (by decide) (hother _ _ _ (by decide) hput)))
  | sram b o => exact hother _ _ _ (by decide) (hother _ _ _ (by decide) (hother _ _ _ (by decide) (hother _ _ _ (by decide) hput)))

/-- What the march has found. -/
def marchShown (fail : Option MemUnit) (s : State) : State :=
  match fail with
  | some u => memFails u s
  | none => fput Reg.MON_BIST_STATUS_MEM_FAIL 0 s

theorem memoryEnds_eq (fail : Option MemUnit) (s : State) : memoryEnds fail s =
    startFill true (bistRuns ⟨1, 0, true⟩ (raiseIf fail.isSome Ev.BIST_FAIL (raise Ev.BIST_DONE (marchShown fail s)))) := by
  cases fail <;> rfl

theorem marchShown_keeps (fail : Option MemUnit) (s : State) : (marchShown fail s).ev = s.ev ∧ (marchShown fail s).flow = s.flow ∧
    (marchShown fail s).job = s.job ∧ fbit (marchShown fail s) Reg.MON_BIST_STATUS_MEM_FAIL = fail.isSome := by
  cases fail with
  | none => exact ⟨rfl, rfl, rfl, fbit_fput _ _ rfl rfl 0⟩
  | some u =>
    refine ⟨?_, ?_, ?_, fbit_memFails u s⟩
    all_goals
      simp only [marchShown, memFails]
      cases u <;> rfl

/-! ## The obligation -/

theorem raiseIf_ev_congr {s t : State} (h : t.ev = s.ev) (b : Bool) (n m : Nat) : (raiseIf b n (raise m t)).ev = (raiseIf b n (raise m s)).ev := by
  cases b <;> simp [raiseIf, raise, h]

/-- BIST_RUN of kind 0 or 1 with nothing in progress: the run starts, unless a signature is missing. -/
theorem bistRunWith_idle {n : Fin 16} {kind domains : Nat} {s : State} (hbist : s.mon.bist = none) (hfill : s.hbm.fill ≠ some true) :
    bistRunWith n kind domains s =
      if kind = 0 ∧ (bistOrder (BitVec.ofNat 9 domains)).all (hasSignature s) = false then complete n .badParam [] s
      else complete n .ok [] (startBist kind (BitVec.ofNat 9 domains) s) := by
  unfold bistRunWith
  rw [hbist]
  exact if_neg hfill

theorem hasSignature_accept (n : Fin 16) (s : State) : hasSignature (accept n s) = hasSignature s := by
  funext d
  simp [hasSignature]

/-- BIST_RUN of kind 0. -/
theorem bistRun_logic {r : Req} {m : Nat} {s : State} (h : Admitted s r 0x0905 8 false) (hm : m < 512) (hmod : m % 4 = 0)
    (hmode : s.flow.mode = .service) (hbist : s.mon.bist = none) (hfill : s.hbm.fill ≠ some true) : Yields (.bistRun r 0 m) s fun t =>
        ((bistOrder (BitVec.ofNat 9 m)).all (hasSignature s) = false → Answered s t r.slot .badParam [] ∧ t.mon = s.mon ∧
          Quiet [Reg.MBX_STATE] s t) ∧
        ((bistOrder (BitVec.ofNat 9 m)).all (hasSignature s) = true → Answered s t r.slot .ok [] ∧
          t.mon.bist = some ⟨0, BitVec.ofNat 9 m, false⟩ ∧ fget t Reg.MON_BIST_STATUS_RUNNING = 1 ∧ fget t Reg.MON_BIST_STATUS_KIND = 0 ∧
          fbit t Reg.OUT_STATUS_BLANK = true ∧ fbit t Reg.OUT_STATUS_EXPOSE_EN = false ∧ t.job = s.job ∧ DramKept s t) := by
  refine yields_of_effect rfl h ?_ (by simp [hm, hmod]) rfl (by simp [hmode])
  rw [bistRunWith_idle (by simpa using hbist) (by simpa using hfill), hasSignature_accept]
  refine ⟨fun hno => ?_, fun hall => ?_⟩
  · rw [if_pos ⟨rfl, hno⟩]
    exact ⟨answered_of_mail h.orphan rfl, by simp, by simp, by simp, by simp, regsKept_command (fun _ _ => rfl), dramKept_of_eq (by simp)⟩
  · rw [if_neg (by simp [hall])]
    let u := bistShown 0 (accept r.slot s)
    obtain ⟨hrun, hhigh, hcompleting, hblank, hexpose⟩ := startLogic_starts (BitVec.ofNat 9 m) u
    obtain ⟨hrunning, hkind⟩ := bistShown_shows (kind := 0) (by omega) (accept r.slot s)
    have hstart : startBist 0 (BitVec.ofNat 9 m) (accept r.slot s) = startLogic (BitVec.ofNat 9 m) u := rfl
    have hkept := regsKept_complete r.slot .ok [] (startLogic (BitVec.ofNat 9 m) u)
    have hacc : Completing (accept r.slot s) (startLogic (BitVec.ofNat 9 m) u) := (completing_of_mail (s := accept r.slot s) (t := u) rfl).trans hcompleting
    have hjob : (startLogic (BitVec.ofNat 9 m) u).job = s.job ∧ (startLogic (BitVec.ofNat 9 m) u).dram = s.dram := by simp [u, bistShown]
    rw [hstart, hkept.fget (by decide), hkept.fget (by decide), hkept.fbit (by decide), hkept.fbit (by decide),
      hhigh.fget (by decide) (by decide), hhigh.fget (by decide) (by decide)]
    exact ⟨answered_of_completing h.orphan hacc, by simpa using hrun, hrunning, hkind, hblank, hexpose, by simpa using hjob.1,
      dramKept_of_eq (by simpa using hjob.2)⟩

/-- BIST_RUN of kind 1. -/
theorem bistRun_memory {r : Req} {s : State} (h : Admitted s r 0x0905 8 true) (hmode : s.flow.mode = .service) (hon : powered s Dom.MEM = true)
    (hbist : s.mon.bist = none) (hfill : s.hbm.fill ≠ some true) : Yields (.bistRun r 1 0) s fun t =>
        Answered s t r.slot .ok [] ∧ t.mon.bist = some ⟨1, 0, false⟩ ∧ fget t Reg.MON_BIST_STATUS_RUNNING = 1 ∧
        fget t Reg.MON_BIST_STATUS_KIND = 1 ∧ t.beams.table = [] ∧ t.ingest.rejects = [] ∧ t.job = s.job ∧ DramKept s t := by
  refine yields_of_effect rfl h ?_ rfl rfl (by simp [hmode]) (by simp [hon])
  rw [bistRunWith_idle (by simpa using hbist) (by simpa using hfill), if_neg (by simp)]
  let u := bistShown 1 (accept r.slot s)
  obtain ⟨hrun, htable, hrejects, hhigh, hcompleting⟩ := startMemory_starts u
  obtain ⟨hrunning, hkind⟩ := bistShown_shows (kind := 1) (by omega) (accept r.slot s)
  have hstart : startBist 1 (BitVec.ofNat 9 0) (accept r.slot s) = startMemory u := rfl
  have hkept := regsKept_complete r.slot .ok [] (startMemory u)
  have hacc : Completing (accept r.slot s) (startMemory u) := (completing_of_mail (s := accept r.slot s) (t := u) rfl).trans hcompleting
  have hjob : (startMemory u).job = s.job ∧ (startMemory u).dram = s.dram := by simp [u, bistShown]
  rw [hstart, hkept.fget (by decide), hkept.fget (by decide), hhigh.fget (by decide) (by decide), hhigh.fget (by decide) (by decide)]
  exact ⟨answered_of_completing h.orphan hacc, by simpa using hrun, hrunning, hkind, by simpa using htable, by simpa using hrejects,
    by simpa using hjob.1, dramKept_of_eq (by simpa using hjob.2)⟩

/-- The end of a logic run that did not test PROC is reported. -/
theorem logicRun_reported {s : State} {m failed : BitVec 9} {misr : DWord} (hproc : m.getLsbD 2 = false) (hnext : s.mon.bistNext = none)
    (hexit : s.flow.serviceExit = none) :
    let t := logicEnds m failed misr s
    t.mon.bist = none ∧ fget t Reg.MON_BIST_STATUS_RUNNING = 0 ∧ fget t Reg.MON_BIST_STATUS_TESTED = m.toNat ∧
    fget t Reg.MON_BIST_STATUS_FAILED = (failed &&& m).toNat ∧
    (m.getLsbD Dom.COH = false → t.ev = (raiseIf (failed &&& m != 0) Ev.BIST_FAIL (raise Ev.BIST_DONE s)).ev) ∧
    t.ev.bits.getLsbD Ev.BIST_DONE = true ∧ (failed &&& m ≠ 0 → t.ev.bits.getLsbD Ev.BIST_FAIL = true) ∧
    (failed &&& m ≠ 0 → (rget t Reg.MON_BIST_MISR_LO).toNat = misr.toNat % 2 ^ 32 ∧
      (rget t Reg.MON_BIST_MISR_HI).toNat = misr.toNat / 2 ^ 32) ∧
    t.flow = s.flow ∧ t.job = s.job ∧ DramKept s t := by
  intro t
  let w := logicShown m (failed &&& m) misr s
  let u := logicResult m (failed &&& m) misr s
  let v := bistReport (failed &&& m != 0) u
  have ht : t = setVotes (bistOrder m) Client.diag false v := logicEnds_over hproc hnext hexit
  obtain ⟨hquiet, -⟩ := logicResult_keeps m (failed &&& m) misr s
  have hvotes := votesQuiet_setVotes (bistOrder_lt m) Client.diag false v
  obtain ⟨htested, hfailed, hmisr⟩ := logicShown_shows m (failed &&& m) misr s
  let x : State := { raiseIf (failed &&& m != 0) Ev.BIST_FAIL (raise Ev.BIST_DONE u) with mon := { u.mon with bist := none } }
  have hrunning : RegsKept [Reg.MON_BIST_STATUS] u v := by
    have hx : RegsKept [Reg.MON_BIST_STATUS] u x := fun k _ => rget_raiseIf _ _ (raise Ev.BIST_DONE u) k
    have hv : v = fput Reg.MON_BIST_STATUS_RUNNING 0 x := by simp [v, x, bistReport]
    rw [hv]
    exact hx.trans (regsKept_fput (by simp) 0 x)
  have hbeside : ∀ f : Field, f.reg = Reg.MON_BIST_STATUS → (f.hi < Reg.MON_BIST_STATUS_RUNNING.lo ∨ Reg.MON_BIST_STATUS_RUNNING.hi < f.lo) →
      f.lo ≤ f.hi → fget t f = fget w f := fun f hreg hbit hf => by
    have hhigh : highRegs ≤ f.reg := by rw [hreg]; decide
    have hnot : f.reg ∉ voteRegs := by rw [hreg]; decide
    rw [ht, hvotes.high.fget hhigh hnot, ← hquiet.high.fget hhigh hnot]
    exact (fget_fput_beside _ _ _ rfl _ hbit hf).trans (fget_congr (by simp [rget, u]))
  have hreg : ∀ k, highRegs ≤ k → k ∉ voteRegs → k ≠ Reg.MON_BIST_STATUS → rget t k = rget w k := fun k hk hvote hne => by
    rw [ht, hvotes.high k hk hvote, hrunning k (by simpa using hne), hquiet.high k hk hvote]
  have hev : v.ev = (raiseIf (failed &&& m != 0) Ev.BIST_FAIL (raise Ev.BIST_DONE u)).ev := by simp [v, bistReport]
  have hdone : v.ev.bits.getLsbD Ev.BIST_DONE = true ∧ (failed &&& m ≠ 0 → v.ev.bits.getLsbD Ev.BIST_FAIL = true) := by
    rw [hev]
    constructor
    · cases failed &&& m != 0 with
      | false =>
        change (raise Ev.BIST_DONE u).ev.bits.getLsbD Ev.BIST_DONE = true
        rw [getLsbD_raise]
        simp [Ev.BIST_DONE]
      | true =>
        change (raise Ev.BIST_FAIL (raise Ev.BIST_DONE u)).ev.bits.getLsbD Ev.BIST_DONE = true
        rw [getLsbD_raise, getLsbD_raise]
        simp [Ev.BIST_DONE]
    · intro hbad
      rw [show (failed &&& m != 0) = true by simpa using hbad]
      change (raise Ev.BIST_FAIL (raise Ev.BIST_DONE u)).ev.bits.getLsbD Ev.BIST_FAIL = true
      rw [getLsbD_raise]
      simp [Ev.BIST_FAIL]
  refine ⟨?_, ?_, (hbeside _ rfl (by decide) (by decide)).trans htested, (hbeside _ rfl (by decide) (by decide)).trans hfailed, fun hcoh => ?_, ?_,
    fun hbad => ?_, fun hbad => ?_, ?_, ?_, dramKept_of_eq ?_⟩
  · rw [ht, (votesMoved_setVotes _ _ _ v).bistKept.1]
    rfl
  · rw [ht, hvotes.high.fget (by decide) (by decide)]
    exact fget_fput_same _ _ rfl 0
  · have hno : ¬ m.getLsbD Dom.COH = true := by simp [hcoh]
    rw [ht, hvotes.ev fun hmem => hno (coh_mem_bistOrder.mp hmem), hev]
    exact raiseIf_ev_congr ((hquiet.ev hno).trans (logicShown_keeps _ _ _ _).1) _ _ _
  · rw [ht]
    exact hvotes.events _ hdone.1
  · rw [ht]
    exact hvotes.events _ (hdone.2 hbad)
  · rw [hreg _ (by decide) (by decide) (by decide), hreg _ (by decide) (by decide) (by decide)]
    exact hmisr hbad
  · rw [ht]
    simp [v, u, bistReport]
  · rw [ht]
    simp [v, u, bistReport]
  · rw [ht]
    simp [v, u, bistReport]

/-- Settles O29. -/
theorem selfTestRuns : Obligations.SelfTestRuns := by
  intro s
  refine ⟨fun r m h hm hmod hmode hbist hfill => bistRun_logic h hm hmod hmode hbist hfill,
    fun r h hmode hon hbist hfill => bistRun_memory h hmode hon hbist hfill, fun m failed misr fail => ⟨fun hbist hproc hnext hexit => ?_,
    fun hbist hproc => ?_, fun hbist => ?_⟩⟩
  · have hends : bistComplete failed misr fail s = logicEnds m failed misr s := by
      unfold bistComplete
      rw [hbist]
      rfl
    exact ⟨_, congrArg Host.Outcome.next hends, logicRun_reported hproc hnext hexit⟩
  · let u := logicResult m (failed &&& m) misr s
    let v := notWatchdog (bistRuns ⟨0, m, true⟩ u)
    have hends : bistComplete failed misr fail s = startRestart .ready v := by
      unfold bistComplete logicEnds
      rw [hbist]
      dsimp only
      rw [if_neg (by simp), if_pos rfl, if_pos hproc]
      rfl
    obtain ⟨hrun, hrestart, hhigh⟩ := startRestart_keeps (b := ⟨0, m, true⟩) (s := v) .ready rfl rfl
    obtain ⟨hquiet, -⟩ := logicResult_keeps m (failed &&& m) misr s
    obtain ⟨htested, hfailed, -⟩ := logicShown_shows m (failed &&& m) misr s
    have hv : RegsKept [Reg.PWR_RESET_CAUSE] u v := regsKept_fput (f := Reg.PWR_RESET_CAUSE_WATCHDOG) (by simp) 0 (bistRuns ⟨0, m, true⟩ u)
    refine ⟨_, congrArg Host.Outcome.next hends, hrun, hrestart, ?_, ?_, by simp [v, u, bistRuns], dramKept_of_eq (by simp [v, u, bistRuns])⟩
    · rw [hhigh.fget (by decide) (by decide), hv.fget (by decide), hquiet.high.fget (by decide) (by decide)]
      exact htested
    · rw [hhigh.fget (by decide) (by decide), hv.fget (by decide), hquiet.high.fget (by decide) (by decide)]
      exact hfailed
  · let u := raiseIf fail.isSome Ev.BIST_FAIL (raise Ev.BIST_DONE (marchShown fail s))
    have hends : bistComplete failed misr fail s = startFill true (bistRuns ⟨1, 0, true⟩ u) := by
      rw [← memoryEnds_eq]
      unfold bistComplete
      rw [hbist]
      rfl
    obtain ⟨hev, hflow, hjob, hfail⟩ := marchShown_keeps fail s
    let v := fillDram { bistRuns ⟨1, 0, true⟩ u with hbm := { u.hbm with fill := some (true || u.hbm.fill == some true) } }
    have hregs : RegsKept [Reg.ECC_STATUS] (marchShown fail s) (startFill true (bistRuns ⟨1, 0, true⟩ u)) := by
      have hu : RegsKept [Reg.ECC_STATUS] (marchShown fail s) v := fun k _ => by simp [rget, v, u, fillDram, bistRuns]
      exact hu.trans (regsKept_fput (f := Reg.ECC_STATUS_FILL_BUSY) (by simp) 1 v)
    refine ⟨_, congrArg Host.Outcome.next hends, rfl, rfl, fbit_fput v Reg.ECC_STATUS_FILL_BUSY rfl rfl 1, ?_, fun a => rfl, ?_, ?_, ?_⟩
    · rw [hregs.fbit (by decide)]
      exact hfail
    · have : (startFill true (bistRuns ⟨1, 0, true⟩ u)).ev = u.ev := by simp [bistRuns]
      rw [this]
      exact raiseIf_ev_congr hev _ _ _
    · simp [bistRuns, u, hflow]
    · simp [bistRuns, u, hjob]

end Sys2Proof.Machine
end

section
/-!
PROOFS. O31 fails where a Bell of an in-stripe resume has taken the module to Write and the watchdog expires before the resume is complete: the Hold
that the restart asks for cancels the resume, and the module raises HOLD beside FW_WATCHDOG.
-/

namespace Sys2Proof.Machine

/-- Write, entered at a Bell of an in-stripe resume that is not complete. -/
def resumingInWrite : State :=
  { State.reset with
    regs := [(Reg.PWR_STATUS, 0x2F)]
    flow := { State.reset.flow with mode := .write, boot := .over, job := .stripe, resume := .inStripe 0 none } }

/-- The expiry of the watchdog raises HOLD, which no expiry raised before. -/
theorem watchdogExpiry_raises_hold :
    (watchdogExpiry resumingInWrite).ev ≠ (raise Ev.FW_WATCHDOG resumingInWrite).ev := by decide +kernel

set_option Elab.async false in
/-- Refutes O31: the expiry of the watchdog may raise HOLD as well as FW_WATCHDOG. -/
theorem not_proctorServesAndRestarts : ¬ Obligations.ProctorServesAndRestarts := by
  intro ⟨hrestart, _⟩
  obtain ⟨_, hwatchdog, _⟩ := hrestart resumingInWrite
  obtain ⟨t, hexec, hev, _⟩ := hwatchdog (by decide +kernel)
  have ht : watchdogExpiry resumingInWrite = t := Host.Outcome.next.inj hexec
  exact watchdogExpiry_raises_hold (ht ▸ hev)

end Sys2Proof.Machine
end

section
/-!
PROOFS. O32 fails in a state that holds two conversions for one trigger: TRIGGER_SET with ACTION 0 abandons the first that the state lists, and
the trigger is still busy with the other.
-/

namespace Sys2Proof.Machine

/-- Ready, with trigger 0 in charge of conversions of inputs 0 and 1. -/
def convertsTwice : State :=
  { State.reset with
    flow := { State.reset.flow with mode := .ready, boot := .over }
    tim := { State.reset.tim with converting := 3, convFor := [(0, 0), (1, 0)] } }

/-- A TRIGGER_SET in slot 0. -/
def triggerRequest : Req := ⟨0, 24, true⟩

/-- Turned off, trigger 0 is busy all the same. -/
theorem triggerSet_leaves_busy :
    trigBusy (triggerSetCommand triggerRequest 0 0 0 0 0 0 0 convertsTwice) 0 = true := by decide +kernel

/-- Refutes O32: a trigger that is turned off may be busy with a second conversion. -/
theorem not_triggersAct : ¬ Obligations.TriggersAct := by
  intro h
  obtain ⟨hset, _⟩ := h convertsTwice 0
  have hadmit : Admitted convertsTwice triggerRequest 0x0603 24 false :=
    ⟨rfl, rfl, by decide, by decide, fun hmoves => absurd hmoves (by decide), rfl⟩
  obtain ⟨_, _, _, hoff, _⟩ := hset triggerRequest 0 0 0 0 0 0 hadmit (by decide) (by decide)
  obtain ⟨t, hexec, _, _, _, _, _, hidle, _⟩ := hoff rfl
  have ht : triggerSetCommand triggerRequest 0 0 0 0 0 0 0 convertsTwice = t := Host.Outcome.next.inj hexec
  have hbusy := triggerSet_leaves_busy
  rw [ht] at hbusy
  exact absurd (hbusy.symm.trans hidle) (by decide)

end Sys2Proof.Machine
end

section
/-!
PROOFS. O34 fails in a state whose register file is not in canonical form: a host-link reset withdraws the host's votes after it has cleared the
mailboxes, and a domain that drops then may bring an entry of MBX_STATE to light that did not read before.
-/

namespace Sys2Proof.Machine

/-- Ready, GATH held by the host's vote alone. MBX_STATE is listed with slot 0 busy behind BHM_STATUS, where it does not read until the registers of
GATH are gone. -/
def hiddenBusySlot : State :=
  { State.reset with
    regs := [(0x80000, 1), (Reg.MBX_STATE, 1), (Reg.PWR_STATUS, 0x2F), (Reg.PWR_VOTE Dom.GATH, 1 <<< Client.host)]
    flow := { State.reset.flow with mode := .ready, boot := .over } }

/-- The host's vote goes, GATH drops, and slot 0 reads busy. -/
theorem hostLinkReset_leaves_busy : slotBusy (hostLinkReset .perst hiddenBusySlot) 0 = true := by decide +kernel

set_option Elab.async false in
/-- Refutes O34: a host-link reset may leave a slot busy where the register file is not in canonical form. -/
theorem not_resetsClear : ¬ Obligations.ResetsClear := by
  intro ⟨_, hlink⟩
  obtain ⟨t, hexec, ⟨_, _, _, hidle, _⟩, _⟩ := (hlink hiddenBusySlot .perst (by decide)).1 (by decide)
  have ht : hostLinkReset .perst hiddenBusySlot = t := Host.Outcome.next.inj hexec
  have hbusy := hostLinkReset_leaves_busy
  rw [ht] at hbusy
  exact absurd (hbusy.symm.trans (hidle 0)) (by decide)

end Sys2Proof.Machine
end

section
/-!
PROOFS. O35 fails in a state whose register file is not in canonical form: a tick withdraws the calibration votes after the committed set has been
swapped, and OUT, when it drops then, may bring an entry of GTH_PSET_STATUS to light that did not read before.
-/

namespace Sys2Proof.Machine

/-- Ready with a committed parameter set; the calibration votes are left, and OUT has no other. GTH_PSET_STATUS is listed once more behind
OUT_STATUS, where it does not read until the registers of OUT are gone. -/
def hiddenCommit : State :=
  { State.reset with
    regs := [(Reg.GTH_PSET_STATUS, 1), (Reg.GTH_PSET_SEQ, 0xFFFFFFFF), (Reg.OUT_STATUS, 3), (Reg.GTH_PSET_STATUS, 1), (Reg.PWR_STATUS, 0x6F),
      (Reg.PWR_VOTE Dom.GATH, 0x11), (Reg.PWR_VOTE Dom.OUT, 0x10), (Reg.CLK_STATUS, 0x3F)]
    flow := { State.reset.flow with mode := .ready, boot := .over } }

/-- The set is swapped, OUT drops, and PENDING reads 1. -/
theorem parameterTick_leaves_pending : fbit (parameterTick hiddenCommit) Reg.GTH_PSET_STATUS_PENDING = true := by decide +kernel

/-- Refutes O35: a tick that swaps a parameter set may leave PENDING set where the register file is not in canonical form. -/
theorem not_pageAndTick : ¬ Obligations.PageAndTick := by
  intro h
  obtain ⟨_, _, _, htick⟩ := h hiddenCommit
  obtain ⟨⟨t, hexec, hswapped, _⟩, _⟩ := htick (by decide) rfl rfl rfl ⟨Client.host, by decide, by decide⟩
  have ht : parameterTick hiddenCommit = t := Host.Outcome.next.inj hexec
  have hpending := (hswapped (by decide)).2.1
  rw [← ht, parameterTick_leaves_pending] at hpending
  exact absurd hpending (by decide)

end Sys2Proof.Machine
end

section
/-!
PROOFS. O39 fails where a Bell of an in-stripe resume has taken the module to Write and a COMMIT is rejected before the resume is complete: the Hold of
cause 11 cancels the resume, and the module raises HOLD beside MOTION_FAULT.
-/

namespace Sys2Proof.Machine

/-- A job of no stripes. -/
def emptyJob : Job := ⟨0, 0, false, 0, 0, 1, [], [], [], [], 0⟩

/-- Write, entered at a Bell of an in-stripe resume that is not complete, with channel 0 owned by firmware. -/
def resumesWithStageOwned : State :=
  fput (Reg.MOT_CH_STATUS_OWNED 0) 1 { resumingInWrite with job := some emptyJob }

/-- The host's COMMIT on channel 0 raises HOLD, which no rejection raised before. -/
theorem motionCommit_raises_hold :
    (motionCommit 0 true resumesWithStageOwned).ev ≠ (raise Ev.MOTION_FAULT resumesWithStageOwned).ev := by decide +kernel

/-- Refutes O39: the rejection of a COMMIT may raise HOLD as well as MOTION_FAULT. -/
theorem not_segmentsArePlanned : ¬ Obligations.SegmentsArePlanned := by
  intro h
  obtain ⟨_, howned, _⟩ := h resumesWithStageOwned 0
  obtain ⟨t, hexec, _, _, _, hev, _⟩ := howned (by decide)
  have ht : motionCommit 0 true resumesWithStageOwned = t := Host.Outcome.next.inj hexec
  exact motionCommit_raises_hold (ht ▸ hev)

end Sys2Proof.Machine
end

section
/-!
PROOFS. O40 fails where a Bell of an in-stripe resume has taken the module to Write and a channel underruns before the resume is complete: the Hold of
cause 11 cancels the resume, and the module raises HOLD beside MOTION_FAULT.
-/

namespace Sys2Proof.Machine

/-- A segment without phases whose end velocity is one count per µs. -/
def runningOn : Segment := ⟨Dy.zero, Dy.zero, Dy.zero, [], Dy.zero, Dy.zero, Dy.ofInt 1, Dy.zero⟩

/-- Write, entered at a Bell of an in-stripe resume that is not complete, with channel 5 in a segment that nothing follows. -/
def resumesWithUnderrun : State :=
  fput (Reg.MOT_CH_STATUS_STATE 5) stMoving
    (updChan 5 (fun c => { c with seg := some runningOn }) { resumingInWrite with job := some emptyJob })

/-- The underrun raises HOLD, which no underrun raised before. -/
theorem segmentEnd_raises_hold :
    (segmentEnd 5 resumesWithUnderrun).ev ≠ (raise Ev.MOTION_FAULT resumesWithUnderrun).ev := by decide +kernel

set_option Elab.async false in
/-- Refutes O40: an underrun may raise HOLD as well as MOTION_FAULT. -/
theorem not_segmentsRunAndStall : ¬ Obligations.SegmentsRunAndStall := by
  intro ⟨hsegments, _⟩
  obtain ⟨_, _, _, hends, _⟩ := hsegments resumesWithUnderrun 5
  have hseg : (chan resumesWithUnderrun 5).seg = some runningOn := by decide +kernel
  obtain ⟨_, _, hunderrun⟩ := (hends runningOn hseg).1 (by decide +kernel)
  obtain ⟨t, hexec, _, _, hev, _⟩ := hunderrun (by decide +kernel) (by decide +kernel)
  have ht : segmentEnd 5 resumesWithUnderrun = t := Host.Outcome.next.inj hexec
  exact segmentEnd_raises_hold (ht ▸ hev)

end Sys2Proof.Machine
end

section
/-!
PROOFS. O41 fails in Service with an uncorrectable error armed: the first reading of a folded INPUT transfer takes the error into a unit that it writes in
part, and the second reading, which writes the same unit in part, reads it back and raises ECC_UE.
-/

namespace Sys2Proof.Machine

/-! ## A write within one unit -/

/-- Requests of a port are served, `k` of them at level 3 of urgency. -/
def urgentAs (p k : Nat) (s : State) : State := useFree (fcount (Reg.HBM_PORT_URG3_COUNT p) k s)

theorem countUrgent_one (p : Nat) (s : State) : ∃ k : Fin 2, countUrgent p 1 s = urgentAs p k s :=
  ⟨⟨freeNat s % 2, Nat.mod_lt _ (by decide)⟩, rfl⟩

/-- A unit is read and written in part, before an injection strikes. -/
def partWritten (port a n u : Nat) (s : State) : State :=
  let s := readUnit port u s
  let t := accessUnit true u s
  { t with ecc := { t.ecc with dram := t.ecc.dram.cleared fun w =>
      w / 8 == u && !(!decide (a ≤ w * 8 ∧ w * 8 + 8 ≤ a + n) && s.ecc.dram.bad w) } }

/-- An injection strikes word `w` of a unit. -/
def struckAt (u w : Nat) (r : EccResult) (s : State) : State :=
  useFree (fput Reg.ECC_INJECT_KIND 0 { s with ecc := { s.ecc with dram := s.ecc.dram.put (8 * u + w) r } })

theorem writeUnit_in_part {port a n u : Nat} {s : State} (hfence : fencedAt s (u * 64) = false) (hpart : ¬ (a ≤ u * 64 ∧ u * 64 + 64 ≤ a + n))
    (hclean : injectKind (partWritten port a n u s) (128 + pcnOf (partWritten port a n u s) (u * 64)) = .clean) :
    writeUnit port a n u s = partWritten port a n u s := by
  unfold writeUnit
  rw [if_neg (by simp [hfence])]
  simp only [decide_eq_false hpart]
  exact if_pos hclean

theorem writeUnit_strikes {port a n u : Nat} {s : State} {r : EccResult} (hfence : fencedAt s (u * 64) = false)
    (hpart : ¬ (a ≤ u * 64 ∧ u * 64 + 64 ≤ a + n))
    (hkind : injectKind (partWritten port a n u s) (128 + pcnOf (partWritten port a n u s) (u * 64)) = r) (hr : r ≠ .clean) :
    ∃ w : Fin 8, writeUnit port a n u s = struckAt u w r (partWritten port a n u s) := by
  refine ⟨⟨freeNat (partWritten port a n u s) % 8, Nat.mod_lt _ (by decide)⟩, ?_⟩
  unfold writeUnit
  rw [if_neg (by simp [hfence])]
  simp only [decide_eq_false hpart]
  subst hkind
  exact if_neg hr

theorem memWrite_one_unit {port a u : Nat} {bs : List Byte} {s : State} (hne : bs.isEmpty = false) (hunits : unitsOf a bs.length = [u])
    (hfence : fencedAt s (u * 64) = false) (hspans : writeSpans s a bs.length = [(a, bs.length)]) :
    memWrite port a bs s = writeUnit port a bs.length u
      (validatePages (a / 4096) ((a + bs.length - 1) / 4096 + 1) (countUrgent port 1 (dramWrite a bs s))) := by
  have hfence' : fencedAt (dramWrite a bs s) (u * 64) = false := hfence
  have hspans' : writeSpans (dramWrite a bs s) a bs.length = [(a, bs.length)] := hspans
  simp [memWrite, writeUnits, hne, hunits, hfence, hfence', hspans']

/-- Some bytes reach the input buffer's first unit, `k` of their requests at level 3 of urgency. -/
def reaching (bs : List Byte) (k : Nat) (s : State) : State :=
  validatePages (inputBuffer / 4096) ((inputBuffer + bs.length - 1) / 4096 + 1) (urgentAs Port.proctor k (dramWrite inputBuffer bs s))

/-! ## The transfer -/

/-- An INPUT descriptor of one byte with a fold value, the last of its chain. -/
def foldedDesc : Desc := ⟨0, 0, 2 * 2 ^ 60, 0, 5, 0x18, 0⟩

/-- A reading whose fold value is wrong. -/
def wrongFold : List Byte := [0, 0, 0, 0, 0]

/-- A reading whose fold value is right. -/
def rightFold : List Byte := [0, 0xA3, 0x68, 0xE5, 0xBB]

/-- Service, with channel 0 in the transfer, and an uncorrectable error armed for the next write to pseudo-channel 0. -/
def injectingState : State :=
  { State.reset with
    regs := [(Reg.DMA_CH_STATE 0, 0x10000), (Reg.ECC_INJECT, 2 + 4 * 128)]
    flow := { State.reset.flow with mode := .service, boot := .over }
    ecc := { State.reset.ecc with invalid := [] }
    dma := { State.reset.dma with chans := [{ DmaChan.idle with phase := .data, desc := some foldedDesc }] } }

/-- The first reading has landed, and the error has struck word `w` of the unit. -/
def onceLanded (k : Fin 2) (w : Fin 8) : State :=
  bytesMoved 0 5 (struckAt (inputBuffer / 64) w .uncorrectable
    (partWritten Port.proctor inputBuffer 5 (inputBuffer / 64) (reaching wrongFold k injectingState)))

/-- The second reading has landed. -/
def twiceLanded (k : Fin 2) (w : Fin 8) (l : Fin 2) : State :=
  partWritten Port.proctor inputBuffer 5 (inputBuffer / 64) (reaching rightFold l (onceLanded k w))

theorem memWrite_wrongFold : ∃ (k : Fin 2) (w : Fin 8), bytesMoved 0 5 (memWrite Port.proctor inputBuffer wrongFold injectingState) = onceLanded k w := by
  obtain ⟨k, hk⟩ := countUrgent_one Port.proctor (dramWrite inputBuffer wrongFold injectingState)
  have hlands := memWrite_one_unit (port := Port.proctor) (a := inputBuffer) (u := inputBuffer / 64) (bs := wrongFold) (s := injectingState)
    rfl (by decide) (by decide +kernel) (by decide +kernel)
  have hfence : ∀ k : Fin 2, fencedAt (reaching wrongFold k injectingState) (inputBuffer / 64 * 64) = false := by decide +kernel
  have hkind : ∀ k : Fin 2, let t := partWritten Port.proctor inputBuffer 5 (inputBuffer / 64) (reaching wrongFold k injectingState)
      injectKind t (128 + pcnOf t (inputBuffer / 64 * 64)) = .uncorrectable := by decide +kernel
  obtain ⟨w, hw⟩ := writeUnit_strikes (port := Port.proctor) (a := inputBuffer) (n := 5) (hfence k) (by decide) (hkind k) (by decide)
  exact ⟨k, w, congrArg (bytesMoved 0 5) ((hlands.trans (by rw [hk]; rfl)).trans hw)⟩

theorem memWrite_rightFold (k : Fin 2) (w : Fin 8) :
    ∃ l : Fin 2, memWrite Port.proctor inputBuffer rightFold (onceLanded k w) = twiceLanded k w l := by
  obtain ⟨l, hl⟩ := countUrgent_one Port.proctor (dramWrite inputBuffer rightFold (onceLanded k w))
  have hopen : ∀ (k : Fin 2) (w : Fin 8), fencedAt (onceLanded k w) (inputBuffer / 64 * 64) = false ∧
      writeSpans (onceLanded k w) inputBuffer 5 = [(inputBuffer, 5)] := by decide +kernel
  have hlands := memWrite_one_unit (port := Port.proctor) (a := inputBuffer) (u := inputBuffer / 64) (bs := rightFold) (s := onceLanded k w)
    rfl (by decide) (hopen k w).1 (hopen k w).2
  have hfence : ∀ (k : Fin 2) (w : Fin 8) (l : Fin 2), fencedAt (reaching rightFold l (onceLanded k w)) (inputBuffer / 64 * 64) = false := by
    decide +kernel
  have hkind : ∀ (k : Fin 2) (w : Fin 8) (l : Fin 2),
      injectKind (twiceLanded k w l) (128 + pcnOf (twiceLanded k w l) (inputBuffer / 64 * 64)) = .clean := by decide +kernel
  exact ⟨l, (hlands.trans (by rw [hl]; rfl)).trans
    (writeUnit_in_part (port := Port.proctor) (a := inputBuffer) (n := 5) (hfence k w l) (by decide) (hkind k w l))⟩

/-- The transfer ends with ECC_UE raised, wherever the error struck. -/
theorem transfer_raises (k : Fin 2) (w : Fin 8) (l : Fin 2) :
    (dmaGoesOn (descDone 0 foldedDesc (bytesMoved 0 5 (twiceLanded k w l)))).ev ≠ injectingState.ev := by
  revert k w l; decide +kernel

theorem landInput_wrong {c n : Nat} {d : Desc} {bs : List Byte} {rest : List (List Byte)} {s : State} (hlen : bs.length = d.len)
    (hfold : foldOk d bs = false) : landInput c d (n + 1) (bs :: rest) s =
      landInput c d n rest (bytesMoved c d.len (memWrite Port.proctor (inputBuffer + d.offset) (swapped d.swap bs) s)) := by
  simp [landInput, hlen, hfold]

theorem landInput_right {c n : Nat} {d : Desc} {bs : List Byte} {rest : List (List Byte)} {s : State} (hlen : bs.length = d.len)
    (hfold : foldOk d bs = true) : landInput c d (n + 1) (bs :: rest) s =
      descDone c d (bytesMoved c d.len (memWrite Port.proctor (inputBuffer + d.offset) (swapped d.swap bs) s)) := by
  simp [landInput, hlen, hfold]

theorem descComplete_input {c : Nat} {d : Desc} {readings : List (List Byte)} {s : State} (hphase : (dmaChan s c).phase = .data)
    (hdesc : (dmaChan s c).desc = some d) (hruns : dmaState s c = Dma.running) (hmode : s.flow.mode ≠ .rest) (hopen : portClosed s d = false)
    (hin : d.outbound = false) (hcls : d.cls ≠ 1) : descComplete c (.data readings) s = landInput c d 3 readings s := by
  simp [descComplete, hphase, hdesc, hruns, hmode, hopen, hin, hcls]

/-- The two readings land one after the other. -/
theorem descComplete_two_readings :
    descComplete 0 (.data [wrongFold, rightFold]) injectingState =
      descDone 0 foldedDesc (bytesMoved 0 5 (memWrite Port.proctor inputBuffer rightFold
        (bytesMoved 0 5 (memWrite Port.proctor inputBuffer wrongFold injectingState)))) := by
  have hoffset : inputBuffer + foldedDesc.offset = inputBuffer := by decide +kernel
  have hwrong : swapped foldedDesc.swap wrongFold = wrongFold := by decide +kernel
  have hright : swapped foldedDesc.swap rightFold = rightFold := by decide +kernel
  rw [descComplete_input (d := foldedDesc) rfl rfl (by decide +kernel) (by decide) (by decide +kernel) (by decide) (by decide),
    landInput_wrong (by decide) (by decide +kernel), landInput_right (by decide) (by decide +kernel), hoffset, hwrong, hright]
  rfl

/-- Refutes O41: a transfer of INPUT data may raise ECC_UE where DRAM was clean, by an injected error that its first reading takes in. -/
theorem not_descriptorChainsRun : ¬ Obligations.DescriptorChainsRun := by
  intro ⟨_, hruns⟩
  obtain ⟨_, _, hrunning, _⟩ := hruns injectingState 0
  obtain ⟨_, _, _, _, hends⟩ := hrunning (by decide +kernel) (by decide +kernel)
  obtain ⟨_, hinput, _⟩ := hends foldedDesc rfl rfl (by decide +kernel)
  have hfolds : ∀ b ∈ [wrongFold], b.length = foldedDesc.len ∧ foldOk foldedDesc b = false := by decide +kernel
  obtain ⟨t, hexec, _, _, _, hev⟩ :=
    (hinput (by decide) (by decide)).1 [wrongFold] rightFold [] (by decide) hfolds (by decide) (by decide +kernel)
  have ht : dmaGoesOn (descComplete 0 (.data [wrongFold, rightFold]) injectingState) = t := Host.Outcome.next.inj hexec
  obtain ⟨k, w, hfirst⟩ := memWrite_wrongFold
  obtain ⟨l, hsecond⟩ := memWrite_rightFold k w
  rw [descComplete_two_readings, hfirst, hsecond] at ht
  exact transfer_raises k w l (ht ▸ hev (by decide +kernel) rfl)

end Sys2Proof.Machine
end

section
/-!
PROOFS. Check-value units (O42), after what an access of the host does and how a count in a field holds at all ones.
-/

namespace Sys2Proof.Machine

/-! ## Accesses of the host -/

theorem hostTouch_awake {s : State} (h : Awake s) : hostTouch s = s := by
  obtain ⟨_, hmode, hstage, _⟩ := h
  simp [hostTouch, restWake, wakeEnabled, asleep, hstage, hmode]

theorem hostAccess_awake {s : State} (h : Awake s) (i : Instr) : hostAccess i s = hostDo i s := by
  obtain ⟨hboot, _, _, hwaking⟩ := id h
  simp [hostAccess, hostTouch_awake h, hboot, hwaking]

/-- The host touches a module that sleeps: it wakes. -/
theorem hostTouch_asleep {s : State} (h : asleep s = true) :
    hostTouch s = fput Reg.PWR_REST_STATUS_WAKE_SRC 1 (updRest (fun r => { r with waking := true }) s) := by
  have hstage : s.pwr.rest.stage = 0 := by simp_all [asleep]
  simp [hostTouch, restWake, wakeEnabled, hstage, h, WakeSource.number]

theorem hostAccess_asleep {s : State} (hboot : s.flow.boot ≠ .held) (h : asleep s = true) (i : Instr) :
    let t := hostAccess i s
    t.host.held = s.host.held ++ [i] ∧ t.pwr.rest.waking = true ∧ t.chk = s.chk ∧ Quiet [Reg.PWR_REST_STATUS] s t := by
  have ht : hostAccess i s = { fput Reg.PWR_REST_STATUS_WAKE_SRC 1 (updRest (fun r => { r with waking := true }) s) with
      host := { s.host with held := s.host.held ++ [i] } } := by
    rw [hostAccess, if_neg hboot, hostTouch_asleep h]
    rfl
  rw [ht]
  exact ⟨rfl, rfl, rfl, rfl, rfl, rfl, regsKept_fput (by decide) _ _, fun _ => rfl⟩

/-! ## Counts -/

theorem fget_fcount {f : Field} (hf : f.ok = true) (k : Nat) (s : State) : fget (fcount f k s) f = min f.top (fget s f + k) := by
  rw [fcount, fget_fput_same _ _ hf, satAdd, Nat.mod_eq_of_lt]
  exact lt_of_le_of_lt (min_le_left _ _) (Nat.sub_one_lt (by positivity))

/-! ## The units -/

/-- What a unit is left with: its running state, the bytes that COUNT shows, RESULT, and nothing else changed. -/
theorem chkResult_leaves (u : Fin 4) (f : Chk → Chk) (n : Nat) (s : State) :
    let k := f (chkUnit s u.val)
    let t := chkResult u.val (fput (Reg.CHK_UNIT_COUNT_BYTES u.val) n { s with chk := updAt Chk.por s.chk u.val f })
    chkUnit t u.val = k ∧ fget t (Reg.CHK_UNIT_COUNT_BYTES u.val) = n % 2 ^ 32 ∧
      rget64 t (Reg.CHK_UNIT_RESULT_LO u.val) (Reg.CHK_UNIT_RESULT_HI u.val) = crcResult (chkAlg k.alg) k.crc % 2 ^ 64 ∧
      (∀ w, w ≠ u.val → chkUnit t w = chkUnit s w) ∧ Quiet (chkRegs u.val) s t := by
  intro k t
  have hunit : ∀ w, chkUnit t w = if w = u.val then k else chkUnit s w := fun w => by
    have h : chkUnit t w = if w = u.val then f (chkUnit s w) else chkUnit s w := getD_updAt Chk.por s.chk u.val w f
    split at h
    next hw => subst hw; simpa using h
    next hw => simpa [hw] using h
  have hcount : fget t (Reg.CHK_UNIT_COUNT_BYTES u.val) = n % 2 ^ 32 := by
    have hkeep : fget t (Reg.CHK_UNIT_COUNT_BYTES u.val) =
        fget (fput (Reg.CHK_UNIT_COUNT_BYTES u.val) n { s with chk := updAt Chk.por s.chk u.val f }) (Reg.CHK_UNIT_COUNT_BYTES u.val) :=
      fget_congr (rget_rset64 (by simp) (by simp))
    exact hkeep.trans (fget_fput_same _ _ rfl _)
  have hresult : rget64 t (Reg.CHK_UNIT_RESULT_LO u.val) (Reg.CHK_UNIT_RESULT_HI u.val) = crcResult (chkAlg k.alg) k.crc % 2 ^ 64 := by
    have hk := hunit u.val
    rw [if_pos rfl] at hk
    rw [← hk]
    exact rget64_rset64 _ _ _ _ (by simp)
  have hregs : RegsKept (chkRegs u.val) s t :=
    .trans (regsKept_fput (by simp [chkRegs]) _ _) (.trans (regsKept_rset (by simp [chkRegs]) _ _) (regsKept_rset (by simp [chkRegs]) _ _))
  exact ⟨by simp [hunit], hcount, hresult, fun w hw => by simp [hunit, hw], rfl, rfl, rfl, hregs, fun _ => rfl⟩

theorem chkDrop_drops (u : Fin 4) (s : State) :
    let t := chkDrop u.val s
    t.chk = s.chk ∧ fget t (Reg.CHK_UNIT_STATUS_DROPPED u.val) = min 65535 (fget s (Reg.CHK_UNIT_STATUS_DROPPED u.val) + 1) ∧
      Quiet [Reg.CHK_UNIT_STATUS u.val] s t :=
  ⟨rfl, fget_fcount rfl _ _, rfl, rfl, rfl, regsKept_fput (by simp) _ _, fun _ => rfl⟩

theorem chkStart_refused {u : Nat} {host : Bool} {s : State} (h : chkAccepts u host = false) : chkStart u host s = chkDrop u s := by
  simp [chkStart, h]

theorem chkFeed_refused {u : Nat} {host : Bool} {bs : List Byte} {s : State} (h : chkAccepts u host = false) :
    chkFeed u host bs s = chkDrop u s := by
  simp [chkFeed, h]

theorem chkStart_accepted {u : Nat} {host : Bool} {s : State} (h : chkAccepts u host = true) :
    let alg := if fget s (Reg.CHK_UNIT_CFG_ALG u) = 3 then 0 else fget s (Reg.CHK_UNIT_CFG_ALG u)
    chkStart u host s = chkResult u (fput (Reg.CHK_UNIT_COUNT_BYTES u) 0
      { s with chk := updAt Chk.por s.chk u fun k => ⟨alg, crcFeed (chkAlg alg) (chkAlg alg).init (chkFold s u), k.queued⟩ }) := by
  simp [chkStart, h]

theorem chkFeed_accepted {u : Nat} {host : Bool} {bs : List Byte} {s : State} (h : chkAccepts u host = true) :
    chkFeed u host bs s = chkResult u (fput (Reg.CHK_UNIT_COUNT_BYTES u) ((fget s (Reg.CHK_UNIT_COUNT_BYTES u) + bs.length) % 2 ^ 32)
      { s with chk := updAt Chk.por s.chk u fun k =>
        { k with crc := crcFeed (chkAlg k.alg) k.crc bs, queued := min 16 (k.queued + bs.length) } }) := by
  simp only [chkFeed, h]
  rfl

theorem chkFeed_leaves {u : Fin 4} {host : Bool} {bs : List Byte} {n : Nat} {s : State} (h : chkAccepts u.val host = true) (hn : bs.length = n) :
    let k := chkUnit s u.val
    let t := chkFeed u.val host bs s
    chkUnit t u.val = { k with crc := crcFeed (chkAlg k.alg) k.crc bs, queued := min 16 (k.queued + n) } ∧
      fget t (Reg.CHK_UNIT_COUNT_BYTES u.val) = (fget s (Reg.CHK_UNIT_COUNT_BYTES u.val) + n) % 2 ^ 32 ∧
      rget64 t (Reg.CHK_UNIT_RESULT_LO u.val) (Reg.CHK_UNIT_RESULT_HI u.val) =
        crcResult (chkAlg k.alg) (crcFeed (chkAlg k.alg) k.crc bs) % 2 ^ 64 ∧
      (∀ w, w ≠ u.val → chkUnit t w = chkUnit s w) ∧ Quiet (chkRegs u.val) s t := by
  intro k t
  have ht : t = _ := chkFeed_accepted h
  obtain ⟨hunit, hcount, hrest⟩ := chkResult_leaves u (fun k => { k with crc := crcFeed (chkAlg k.alg) k.crc bs, queued := min 16 (k.queued + bs.length) })
    ((fget s (Reg.CHK_UNIT_COUNT_BYTES u.val) + bs.length) % 2 ^ 32) s
  rw [Nat.mod_mod] at hcount
  subst hn
  rw [ht]
  exact ⟨hunit, hcount, hrest⟩

/-! ## A write acts on the unit from either side -/

theorem exec_checkUnitStart {host : Bool} {s : State} (u : Fin 4) (h : host = true → Awake s) :
    exec (.checkUnitStart u host) s = .next (chkStart u.val host s) := by
  cases host with
  | true => exact congrArg _ (hostAccess_awake (h rfl) _)
  | false => rfl

theorem exec_checkUnitData8 {host : Bool} {s : State} (u : Fin 4) (v : Word) (h : host = true → Awake s) :
    exec (.checkUnitData8 u host v) s = .next (chkFeed u.val host (leBytes 1 v.toNat) s) := by
  cases host with
  | true => exact congrArg _ (hostAccess_awake (h rfl) _)
  | false => rfl

theorem exec_checkUnitData16 {host : Bool} {s : State} (u : Fin 4) (v : Word) (h : host = true → Awake s) :
    exec (.checkUnitData16 u host v) s = .next (chkFeed u.val host (leBytes 2 v.toNat) s) := by
  cases host with
  | true => exact congrArg _ (hostAccess_awake (h rfl) _)
  | false => rfl

theorem exec_checkUnitData32 {host : Bool} {s : State} (u : Fin 4) (v : Word) (h : host = true → Awake s) :
    exec (.checkUnitData32 u host v) s = .next (chkFeed u.val host (leBytes 4 v.toNat) s) := by
  cases host with
  | true => exact congrArg _ (hostAccess_awake (h rfl) _)
  | false => rfl

/-- Settles O42: a start and the three widths of data are one feeding each, from either side. -/
theorem checkUnitsRun : Obligations.CheckUnitsRun := by
  unfold Obligations.CheckUnitsRun
  intro s u host v
  refine ⟨fun _ hboot hasleep i hi => ?_, fun hawake => ⟨fun haccepts => ?_, fun hrefuses => ?_⟩⟩
  · have hexec : exec i s = .next (hostAccess i s) := by
      simp only [List.mem_cons, List.not_mem_nil, or_false] at hi
      obtain rfl | rfl | rfl | rfl := hi <;> rfl
    exact ⟨_, hexec, hostAccess_asleep hboot hasleep i⟩
  · exact ⟨⟨_, exec_checkUnitStart u hawake, chkStart_accepted haccepts ▸ chkResult_leaves u _ 0 s⟩,
      ⟨_, exec_checkUnitData8 u v hawake, chkFeed_leaves haccepts (length_leBytes _ _)⟩,
      ⟨_, exec_checkUnitData16 u v hawake, chkFeed_leaves haccepts (length_leBytes _ _)⟩,
      ⟨_, exec_checkUnitData32 u v hawake, chkFeed_leaves haccepts (length_leBytes _ _)⟩⟩
  · have hstart : chkStart u.val host s = chkDrop u.val s := chkStart_refused hrefuses
    have hfeed : ∀ bs, chkFeed u.val host bs s = chkDrop u.val s := fun bs => chkFeed_refused hrefuses
    have hdrop := chkDrop_drops u s
    exact ⟨⟨_, exec_checkUnitStart u hawake, hstart ▸ hdrop⟩, ⟨_, exec_checkUnitData8 u v hawake, hfeed _ ▸ hdrop⟩,
      ⟨_, exec_checkUnitData16 u v hawake, hfeed _ ▸ hdrop⟩, ⟨_, exec_checkUnitData32 u v hawake, hfeed _ ▸ hdrop⟩⟩

end Sys2Proof.Machine
end

section
/-!
PROOFS. O45 fails in a state that holds a stalled write to BELL_SHOT among the staging writes: the Bell that carries the apply out writes it after
BELL_SHOT has taken the shot of the Bell.
-/

namespace Sys2Proof.Machine

/-! ## An apply with one stalled write behind it -/

/-- `t` is `s` but for the registers, the events, the modes, the Beam Table and the memories. -/
def HandedOver (s t : State) : Prop :=
  t = { s with regs := t.regs, ev := t.ev, flow := t.flow, beams := t.beams, hbm := t.hbm, ecc := t.ecc, free := t.free }

theorem HandedOver.trans {s t u : State} (h : HandedOver s t) (h' : HandedOver t u) : HandedOver s u := by
  unfold HandedOver at h h' ⊢
  rw [h', h]

theorem MemoryOnly.handedOver {s t : State} (h : MemoryOnly s t) : HandedOver s t := by
  unfold HandedOver
  rw [h.rest]

theorem handedOver_beams (b : Beams) (s : State) : HandedOver s { s with beams := b } := rfl

theorem handedOver_fput (f : Field) (v : Nat) (s : State) : HandedOver s (fput f v s) := rfl

theorem handedOver_stuckRelease (s : State) : HandedOver s (stuckRelease s) := by
  unfold stuckRelease
  split <;> rfl

theorem handedOver_applyNothing (bell : Option Int) (cset : Nat) (sum : Word) (s : State) : HandedOver s (applyEntries bell cset sum [] s) :=
  .trans (.trans (handedOver_beams _ s) (memoryOnly_writeSram _ _ _).handedOver)
    (.trans (handedOver_beams _ _) (.trans (.trans (handedOver_fput _ _ _) (handedOver_fput _ _ _)) (handedOver_stuckRelease _)))

theorem stagingWrite_lands {k : Nat} {v : Word} {s : State} (hidle : applyPending s = false) (hk : k ≠ Reg.GTH_BT_CMD) :
    stagingWrite k v s = rset k v s := by
  simp [stagingWrite, hidle, hk]

/-- The apply of no entries, and then the write that stalled behind it. -/
theorem beamApply_drains {bell : Option Int} {s : State} {k : Nat} {v : Word} (happly : s.beams.applyCmd = some (0, none))
    (hstalled : s.beams.stalled = [(k, v)]) (hqueue : s.beams.queue = []) (hk : k ≠ Reg.GTH_BT_CMD) :
    ∃ u, beamApply bell s = rset k v u ∧ HandedOver s u ∧ u.beams.applyCmd = none := by
  obtain ⟨-, -, -, hkeepStalled, hkeepQueue⟩ := applyEntries_beams bell (bits (0 : Word).toNat 30 16) (rget s Reg.GTH_BT_SUM) [] s
  let u := applyEntries bell (bits (0 : Word).toNat 30 16) (rget s Reg.GTH_BT_SUM) [] s
  let x := fput Reg.GTH_BT_STATUS_PENDING 0 { u with beams := { u.beams with applyCmd := none } }
  have hx : beamApply bell s = stageNext (drainStalled x.beams.stalled.length x) := by simp only [beamApply, happly, x, u]; rfl
  have hxs : x.beams.stalled = [(k, v)] := hkeepStalled.trans hstalled
  have hxq : x.beams.queue = [] := hkeepQueue.trans hqueue
  have hidle : applyPending x = false := fbit_fput _ _ rfl rfl 0
  let y := { x with beams := { x.beams with stalled := [] } }
  have hidle' : applyPending y = false := hidle
  have hdrain : drainStalled 1 x = rset k v y := by
    simp only [drainStalled, hxs, hidle]
    exact stagingWrite_lands hidle' hk
  refine ⟨y, ?_, ?_, rfl⟩
  · rw [hx, hxs, List.length_singleton, hdrain]
    exact by simp [stageNext, hxq, y]
  · exact .trans (handedOver_applyNothing _ _ _ s) (.trans (handedOver_beams _ _) (.trans (handedOver_fput _ _ _) (handedOver_beams _ _)))

/-! ## The Bell -/

/-- A stripe without bands, at the origin. -/
def bareStripe : StripeEntry := ⟨0, 0, 0, 0, 0, false, false⟩

/-- Shot 4094 has been crossed. -/
def crossedShot : Crossing := ⟨4094, 0, 0⟩

/-- The bare stripe armed with its last two slots. -/
def lastTwoSlots : Armed := ⟨0, [4094, 4095], none, 0, [crossedShot], none, 4096, 0, []⟩

/-- Write in the bare stripe, with an apply of no entries in force and a write to BELL_SHOT among the stalled ones. -/
def stalledBellShot : State :=
  { State.reset with
    regs := [(Reg.CLK_STATUS, 0x3F)]
    flow := { State.reset.flow with mode := .write, boot := .over, job := .stripe }
    job := some { emptyJob with stripes := [bareStripe] }
    armed := some lastTwoSlots
    beams := { State.reset.beams with applyCmd := some (0, none), stalled := [(Reg.BELL_SHOT, 5)] } }

theorem updShot_empty {i : Nat} {n : Int} {f : Shot → Shot} {s : State} (h : s.shots = []) : updShot i n f s = s := by
  rw [updShot, h, List.map_nil, ← h]

theorem bellExpire_keeps (n : Int) (s : State) : (bellExpire n s).regs = s.regs ∧ (bellExpire n s).armed = s.armed := by
  unfold bellExpire
  dsimp only
  (repeat' split) <;> exact ⟨rfl, rfl⟩

theorem bellResume_keeps (n : Int) (s : State) : ∃ f, bellResume n s = { s with flow := f } := by
  unfold bellResume
  split
  · split <;> exact ⟨_, rfl⟩
  · exact ⟨_, rfl⟩

/-- With no shot in flight and none left to gather, what follows the hand-over leaves the registers. -/
theorem bellGather_last {e : StripeEntry} {n m t p : Int} {ts : Nat} {a : Armed} {s : State} (hshots : s.shots = [])
    (hlink : s.out.link.on = false) (harmed : s.armed = some a) (hslots : a.slots = [m]) (hlast : (e.h : Int) + 4095 ≤ m) :
    (bellOver (bellGather e n t p ts [m] s)).regs = s.regs := by
  have hfire : countCleanSlot (firingCheck e n t s) = s := by simp [firingCheck, hshots, countCleanSlot, hlink]
  have hreasons : ∃ b, bellReasons n s = raiseIf b Ev.HOLD s := by
    unfold bellReasons
    dsimp only
    rw [updShot_empty hshots]
    exact ⟨_, rfl⟩
  obtain ⟨b, hreasons⟩ := hreasons
  let u := raiseIf b Ev.HOLD s
  have hu : u.shots = [] := by simp [u, hshots]
  have hua : u.armed = some a := by simp [u, harmed]
  have hstart : gatherStart e t p ts [m] u = u := by simp [gatherStart, hlast]
  have hrelease : bellRelease u = u := by simp [bellRelease, nextSlotShot, hua, hslots, hu]
  have hgather : bellGather e n t p ts [m] s = bellExpire n u := by
    rw [bellGather, hfire, hreasons, updShot_empty hu, hstart, hrelease]
  obtain ⟨hregs, hkeep⟩ := bellExpire_keeps n u
  have hover : bellOver (bellExpire n u) = bellExpire n u := by simp [bellOver, hkeep, hua, hslots]
  rw [hgather, hover, hregs]
  simp [u]

/-- BELL_SHOT holds what the stalled write had, not the shot of the Bell. -/
theorem bell_writes_stalled : fget (bellEvent 0 stalledBellShot) Reg.BELL_SHOT_SHOT = 5 := by
  let b := bellShown 4094 [4095] crossedShot (bellTime stalledBellShot lastTwoSlots crossedShot).1
    (bellTime stalledBellShot lastTwoSlots crossedShot).2 stalledBellShot
  have hshown : psetSwap (bellOutOfStep (bellHold b)) = b := by
    have hpset : fbit b Reg.GTH_PSET_STATUS_PENDING = false := by decide +kernel
    have hhold : bellOutOfStep (bellHold b) = b := rfl
    rw [hhold]
    simp [psetSwap, hpset]
  obtain ⟨u, hdrain, hkeep, -⟩ := beamApply_drains (bell := some 4094) (s := b) (k := Reg.BELL_SHOT) (v := 5) rfl rfl rfl (by decide)
  have hover : bellHandOver 4094 b = bellResume 4094 (rset Reg.BELL_SHOT 5 u) := by rw [bellHandOver, hshown, hdrain]
  have hbell : bellEvent 0 stalledBellShot = bellFire bareStripe 4094 [4095] crossedShot (bellTime stalledBellShot lastTwoSlots crossedShot).1
    (bellTime stalledBellShot lastTwoSlots crossedShot).2 0 stalledBellShot := rfl
  obtain ⟨f, hresume⟩ := bellResume_keeps 4094 (rset Reg.BELL_SHOT 5 u)
  let v : State := { rset Reg.BELL_SHOT 5 u with flow := f }
  have hv : v.shots = [] ∧ v.out.link.on = false ∧ ∃ a, v.armed = some a ∧ a.slots = [4095] := by
    simp only [v, rset]
    rw [hkeep]
    exact ⟨rfl, rfl, _, rfl, rfl⟩
  obtain ⟨hshots, hlink, a, harmed, hslots⟩ := hv
  have hfire : bellEvent 0 stalledBellShot = bellOver (bellGather bareStripe 4094 (bellTime stalledBellShot lastTwoSlots crossedShot).1
      (bellTime stalledBellShot lastTwoSlots crossedShot).2 0 [4095] v) := by
    rw [hbell, bellFire]
    show (if (bellHandOver 4094 b).armed.isNone then _ else _) = _
    rw [hover, hresume]
    have hu : u.armed = some a := harmed
    exact if_neg (by simp [hu])
  have hregs := bellGather_last (e := bareStripe) (n := 4094) (t := (bellTime stalledBellShot lastTwoSlots crossedShot).1)
    (p := (bellTime stalledBellShot lastTwoSlots crossedShot).2) (ts := 0) hshots hlink harmed hslots (by decide)
  rw [hfire, fget, rget, hregs]
  show bits (rget (rset Reg.BELL_SHOT 5 u) Reg.BELL_SHOT).toNat 31 0 = 5
  rw [rget_rset_same]
  rfl

set_option Elab.async false in
/-- Refutes O45: BELL_SHOT may show what a stalled write holds instead of the shot of the Bell. -/
theorem not_stripesArePaced : ¬ Obligations.StripesArePaced := by
  intro h
  obtain ⟨_, _, _, _, _, hbell, _⟩ := h stalledBellShot
  obtain ⟨t, hexec, ⟨_, hshot, _⟩, _⟩ := (hbell lastTwoSlots bareStripe 4094 [4095] crossedShot 0 (by decide +kernel) rfl rfl rfl
    (by decide +kernel) (.inl rfl)).1 (by decide)
  have hclocks : bellCrossing stalledBellShot = stalledBellShot := if_pos (by decide +kernel)
  have ht : bellEvent 0 stalledBellShot = t := by
    have := Host.Outcome.next.inj hexec
    rwa [if_pos (by decide), hclocks] at this
  rw [← ht, bell_writes_stalled] at hshot
  exact absurd hshot (by decide)

end Sys2Proof.Machine
end

section
/-!
PROOFS. The Holds that act at once (R51): what they leave of the events, of the causes and of OUT_STATUS; and O38, the Cinch and the end of the
settle of EXPOSE_EN.
-/

namespace Sys2Proof.Machine

/-! ## Events that stand -/

/-- No event is cleared. -/
def EventsStand (s t : State) : Prop := ∀ n, s.ev.bits.getLsbD n = true → t.ev.bits.getLsbD n = true

theorem EventsStand.trans {s t u : State} (h : EventsStand s t) (h' : EventsStand t u) : EventsStand s u := fun n hn => h' n (h n hn)

theorem eventsStand_of_ev {s t : State} (h : t.ev = s.ev) : EventsStand s t := fun n hn => by rwa [h]

theorem eventsStand_raise (n : Nat) (s : State) : EventsStand s (raise n s) := (memoryOnly_raise n s).events

theorem eventsStand_raiseIf (b : Bool) (n : Nat) (s : State) : EventsStand s (raiseIf b n s) := (memoryOnly_raiseIf b n s).events

theorem raise_regs (n : Nat) (s : State) : (raise n s).regs = s.regs := rfl

theorem raise_raises {n : Nat} (h : n < 96) (s : State) : (raise n s).ev.bits.getLsbD n = true := by
  simp [getLsbD_raise, h]

theorem eventsStand_cancelResume (s : State) : EventsStand s (cancelResume s) := by
  unfold cancelResume
  split
  · intro n hn
    simp only [completeOpt_frame]
    split
    · split
      · simp only [sendHoldSet_frame]
        exact eventsStand_raise Ev.HOLD _ n hn
      · exact eventsStand_raise Ev.HOLD _ n hn
    · exact hn
  · exact eventsStand_of_ev rfl

theorem eventsStand_requestHold (n : Nat) (s : State) : EventsStand s (requestHold n s) := by
  have h : EventsStand s (cancelResume (setCause n s)) := (eventsStand_of_ev (by simp)).trans (eventsStand_cancelResume _)
  unfold requestHold
  dsimp only
  split
  · exact h
  · split
    · exact h
    · exact h

theorem assertCut_ev (r : Reason) (t : Int) (s : State) : (assertCut r t s).ev = s.ev := (votesQuiet_assertCut r t s).ev id

theorem endCheckRun_ev (s : State) : (endCheckRun s).ev = s.ev := (votesQuiet_endCheckRun s).ev id

/-! ## OUT_STATUS under a Hold -/

/-- OUT_STATUS stands, but for BLANK, which may have been set; the other registers but those of `ks` stand. -/
structure BlankSet (ks : List Nat) (s t : State) : Prop where
  regs : RegsKept (Reg.OUT_STATUS :: ks) s t
  others : ∀ f : Field, f.reg = Reg.OUT_STATUS → Reg.OUT_STATUS_BLANK.hi < f.lo ∨ f.hi < Reg.OUT_STATUS_BLANK.lo → f.lo ≤ f.hi → fget t f = fget s f
  blank : fbit s Reg.OUT_STATUS_BLANK = true → fbit t Reg.OUT_STATUS_BLANK = true

theorem BlankSet.trans {ks : List Nat} {s t u : State} (h : BlankSet ks s t) (h' : BlankSet ks t u) : BlankSet ks s u :=
  ⟨h.regs.trans h'.regs, fun f hreg hbeside hf => (h'.others f hreg hbeside hf).trans (h.others f hreg hbeside hf), fun hb => h'.blank (h.blank hb)⟩

theorem blankSet_of_regsKept {ks ls : List Nat} {s t : State} (h : RegsKept ls s t) (hsub : ls ⊆ ks) (hout : Reg.OUT_STATUS ∉ ls) : BlankSet ks s t :=
  ⟨h.mono fun k hk => List.mem_cons_of_mem _ (hsub hk), fun f hreg _ _ => fget_congr (h _ (by rwa [hreg])),
   fun hb => by rw [fbit, fget_congr (h Reg.OUT_STATUS hout)]; exact hb⟩

theorem blankSet_of_regs {ks : List Nat} {s t : State} (h : t.regs = s.regs) : BlankSet ks s t :=
  blankSet_of_regsKept (ls := []) (regsKept_of_eq h) (List.nil_subset _) (List.not_mem_nil)

theorem fbit_fput_blank (s : State) : fbit (fput Reg.OUT_STATUS_BLANK 1 s) Reg.OUT_STATUS_BLANK = true := by
  rw [fbit_fput _ _ rfl rfl]
  rfl

theorem blankSet_fput (ks : List Nat) (s : State) : BlankSet ks s (fput Reg.OUT_STATUS_BLANK 1 s) where
  regs := regsKept_fput (f := Reg.OUT_STATUS_BLANK) List.mem_cons_self 1 s
  others _ _ hbeside hf := fget_fput_beside _ _ _ rfl _ hbeside.symm hf
  blank _ := fbit_fput_blank s

theorem blankSet_sendHoldSet {ks : List Nat} (h : Reg.COH_HOLD_ID ∈ ks) (s : State) : BlankSet ks s (sendHoldSet s) :=
  blankSet_of_regsKept (regsKept_sendHoldSet s) (by simp [h]) (by decide)

theorem blankSet_cancelResume {ks : List Nat} (hid : Reg.COH_HOLD_ID ∈ ks) (hmbx : Reg.MBX_STATE ∈ ks) (s : State) : BlankSet ks s (cancelResume s) := by
  unfold cancelResume
  split
  · refine BlankSet.trans ?_ (blankSet_of_regsKept (regsKept_completeOpt _ _ _ _) (by simp [hmbx]) (by decide))
    let v : State := { s with flow := { s.flow with resume := .none, mode := .hold } }
    have hv : BlankSet ks s v := blankSet_of_regs rfl
    have hfirst : BlankSet ks s (fput Reg.OUT_STATUS_BLANK 1 v) := hv.trans (blankSet_fput ks v)
    split
    · split
      · exact (hfirst.trans (blankSet_of_regs (raise_regs Ev.HOLD _))).trans (blankSet_sendHoldSet hid _)
      · exact hfirst.trans (blankSet_of_regs (raise_regs Ev.HOLD _))
    · exact hfirst
  · exact blankSet_of_regs rfl

theorem endCheckRun_of_none {s : State} (h : s.health.run = none) : endCheckRun s = s := by simp [endCheckRun, h]

theorem cancelResume_health (s : State) : (cancelResume s).health = s.health := by
  rw [holdOnly_cancelResume s]

theorem sendHoldSet_health (s : State) : (sendHoldSet s).health = s.health := by
  rw [holdOnly_sendHoldSet s]

theorem raise_flow (n : Nat) (s : State) : (raise n s).flow = s.flow := rfl

theorem fput_flow (f : Field) (v : Nat) (s : State) : (fput f v s).flow = s.flow := by simp

theorem fput_out (f : Field) (v : Nat) (s : State) : (fput f v s).out = s.out := by simp

theorem fput_health (f : Field) (v : Nat) (s : State) : (fput f v s).health = s.health := by simp

/-- The registers of a Hold that acts at once, beside OUT_STATUS. -/
def holdNowRegs : List Nat := [Reg.COH_HOLD_ID, Reg.MBX_STATE, Reg.OUT_CUT_TIME]

theorem blankSet_assertCut (r : Reason) (t : Int) {s : State} (hrun : s.health.run = none) : BlankSet holdNowRegs s (assertCut r t s) := by
  have hcut : ∀ u : State, BlankSet holdNowRegs s u → u.health = s.health → BlankSet holdNowRegs s
      (endCheckRun (fput Reg.OUT_STATUS_BLANK 1 { u with shots := u.shots.map (Shot.markCuts r t) })) := by
    intro u hu hhealth
    rw [endCheckRun_of_none (by simpa [hhealth] using hrun)]
    let v : State := { u with shots := u.shots.map (Shot.markCuts r t) }
    have huv : BlankSet holdNowRegs u v := blankSet_of_regs rfl
    exact (hu.trans huv).trans (blankSet_fput _ v)
  unfold assertCut
  dsimp only
  split
  · exact hcut _ (blankSet_of_regsKept (ls := [Reg.OUT_CUT_TIME]) (regsKept_fput (f := Reg.OUT_CUT_TIME_STEPS) (List.mem_singleton.2 rfl) _ s) (by decide) (by decide)) (by simp)
  · exact hcut _ (blankSet_of_regs rfl) rfl

theorem assertCut_health_run (r : Reason) (t : Int) (s : State) : (assertCut r t s).health.run = none := by
  unfold assertCut
  exact (endCheckRun_health _).1

theorem assertCut_blanks (r : Reason) (t : Int) {s : State} (hrun : s.health.run = none) : fbit (assertCut r t s) Reg.OUT_STATUS_BLANK = true := by
  have hcut : ∀ u : State, u.health = s.health → fbit (endCheckRun (fput Reg.OUT_STATUS_BLANK 1 u)) Reg.OUT_STATUS_BLANK = true := by
    intro u hhealth
    rw [endCheckRun_of_none (by simpa [hhealth] using hrun)]
    exact fbit_fput_blank u
  unfold assertCut
  dsimp only
  split
  · exact hcut _ (by simp)
  · exact hcut _ rfl

theorem toHold_eq (s : State) : ∃ u, u = endCheckRun (assertBlank { s with flow := { s.flow with mode := .hold, holdReq := s.flow.ending.isSome || s.flow.restartReq } }) ∧
    (toHold s = raise Ev.HOLD u ∨ toHold s = sendHoldSet (raise Ev.HOLD u)) := by
  refine ⟨_, rfl, ?_⟩
  unfold toHold
  dsimp only
  split
  · exact .inr rfl
  · exact .inl rfl

theorem toHold_flow (s : State) : (toHold s).flow = { s.flow with mode := .hold, holdReq := s.flow.ending.isSome || s.flow.restartReq } := by
  obtain ⟨u, rfl, h | h⟩ := toHold_eq s
  · rw [h]; simp
  · rw [h]; simp

theorem toHold_raises (s : State) : EventsStand s (toHold s) ∧ (toHold s).ev.bits.getLsbD Ev.HOLD = true := by
  obtain ⟨u, hu, h⟩ := toHold_eq s
  have hev : u.ev = s.ev := by rw [hu, endCheckRun_ev]; simp
  have hstand : EventsStand s (raise Ev.HOLD u) := (eventsStand_of_ev hev).trans (eventsStand_raise _ _)
  have hraised := raise_raises (n := Ev.HOLD) (by decide) u
  obtain h | h := h
  · rw [h]
    exact ⟨hstand, hraised⟩
  · rw [h]
    exact ⟨hstand.trans (eventsStand_of_ev (by simp)), by simpa using hraised⟩

theorem toHold_health_run (s : State) : (toHold s).health.run = none := by
  obtain ⟨u, rfl, h | h⟩ := toHold_eq s
  · rw [h]
    simpa using (endCheckRun_health _).1
  · rw [h, sendHoldSet_health]
    simpa using (endCheckRun_health _).1

theorem blankSet_toHold {s : State} (hrun : s.health.run = none) : BlankSet holdNowRegs s (toHold s) ∧ fbit (toHold s) Reg.OUT_STATUS_BLANK = true := by
  obtain ⟨u, hu, h⟩ := toHold_eq s
  let v : State := { s with flow := { s.flow with mode := .hold, holdReq := s.flow.ending.isSome || s.flow.restartReq } }
  have huv : u = fput Reg.OUT_STATUS_BLANK 1 v := by
    rw [hu]
    exact endCheckRun_of_none (by rw [assertBlank, fput_health]; exact hrun)
  have hset : BlankSet holdNowRegs s (raise Ev.HOLD u) := by
    rw [huv]
    have hv : BlankSet holdNowRegs s v := blankSet_of_regs rfl
    exact (hv.trans (blankSet_fput _ v)).trans (blankSet_of_regs (raise_regs _ _))
  have hblank : fbit (raise Ev.HOLD u) Reg.OUT_STATUS_BLANK = true := by
    rw [huv, fbit, fget_congr (s := fput Reg.OUT_STATUS_BLANK 1 v) (rget_regs_congr (raise_regs _ _) _)]
    exact fbit_fput_blank v
  obtain h | h := h
  · rw [h]
    exact ⟨hset, hblank⟩
  · rw [h]
    have hsend := blankSet_sendHoldSet (ks := holdNowRegs) (by decide) (raise Ev.HOLD u)
    exact ⟨hset.trans hsend, hsend.blank hblank⟩

/-! ## Holds at once -/

theorem cancelResume_flow (s : State) : (cancelResume s).flow = match s.flow.resume with
    | .inStripe _ _ => { s.flow with resume := .none, mode := .hold }
    | _ => s.flow := by
  cases h : s.flow.resume with
  | inStripe first slot =>
    simp only [cancelResume, h, completeOpt_frame]
    split
    · split
      · simp only [sendHoldSet_frame]
        exact raise_flow _ _
      · exact raise_flow _ _
    · exact fput_flow _ _ _
  | none => simp only [cancelResume, h]
  | atTick slot => simp only [cancelResume, h]

theorem hasCause_congr {s t : State} (h : t.flow.causes = s.flow.causes) (n : Nat) : hasCause t n = hasCause s n := by simp [hasCause, h]

theorem cancelResume_causes (s : State) : (cancelResume s).flow.causes = s.flow.causes := by
  rw [cancelResume_flow]
  split <;> rfl

theorem holdAtOnce_cases (n : Nat) (r : Reason) (t : Int) (s : State) : let u := assertCut r t (cancelResume (setCause n s))
    ((∃ sl, u.flow.resume = .atTick sl) ∧ holdAtOnce n r t s = { u with flow := { u.flow with holdReq := true } }) ∨
    ((∀ sl, u.flow.resume ≠ .atTick sl) ∧ holdAtOnce n r t s = if u.flow.mode = .write then toHold u else u) := by
  intro u
  unfold holdAtOnce
  dsimp only
  split
  · next sl h => exact .inl ⟨⟨sl, h⟩, rfl⟩
  · next h => exact .inr ⟨h, rfl⟩

theorem holdAtOnce_causes (n : Nat) (r : Reason) (t : Int) (s : State) : (holdAtOnce n r t s).flow.causes = (setCause n s).flow.causes := by
  have hu : (assertCut r t (cancelResume (setCause n s))).flow.causes = (setCause n s).flow.causes := by
    simp [cancelResume_causes]
  obtain ⟨_, h⟩ | ⟨_, h⟩ := holdAtOnce_cases n r t s
  · rw [h]
    exact hu
  · rw [h]
    split
    · rw [toHold_flow]
      exact hu
    · exact hu

theorem hasCause_holdAtOnce {n : Nat} (hn : n < 32) (r : Reason) (t : Int) (s : State) (m : Nat) :
    hasCause (holdAtOnce n r t s) m = (hasCause s m || decide (n = m)) := by
  rw [hasCause_congr (holdAtOnce_causes n r t s), hasCause_setCause hn]

theorem eventsStand_holdAtOnce (n : Nat) (r : Reason) (t : Int) (s : State) : EventsStand s (holdAtOnce n r t s) := by
  have hu : EventsStand s (assertCut r t (cancelResume (setCause n s))) :=
    ((eventsStand_of_ev (by simp)).trans (eventsStand_cancelResume (setCause n s))).trans (eventsStand_of_ev (assertCut_ev r t _))
  obtain ⟨_, h⟩ | ⟨_, h⟩ := holdAtOnce_cases n r t s
  · rw [h]
    exact hu
  · rw [h]
    split
    · exact hu.trans (toHold_raises _).1
    · exact hu

theorem holdAtOnce_health_run (n : Nat) (r : Reason) (t : Int) (s : State) : (holdAtOnce n r t s).health.run = none := by
  have hu := assertCut_health_run r t (cancelResume (setCause n s))
  obtain ⟨_, h⟩ | ⟨_, h⟩ := holdAtOnce_cases n r t s
  · rw [h]
    exact hu
  · rw [h]
    split
    · exact toHold_health_run _
    · exact hu

theorem blankSet_holdAtOnce (n : Nat) (r : Reason) (t : Int) {s : State} (hrun : s.health.run = none) :
    BlankSet holdNowRegs s (holdAtOnce n r t s) ∧ fbit (holdAtOnce n r t s) Reg.OUT_STATUS_BLANK = true := by
  have hrun' : (cancelResume (setCause n s)).health.run = none := by rw [cancelResume_health]; simpa using hrun
  have hu : BlankSet holdNowRegs s (assertCut r t (cancelResume (setCause n s))) :=
    ((blankSet_of_regs (by simp)).trans (blankSet_cancelResume (by decide) (by decide) _)).trans (blankSet_assertCut r t hrun')
  have hblank := assertCut_blanks r t hrun'
  obtain ⟨_, h⟩ | ⟨_, h⟩ := holdAtOnce_cases n r t s
  · rw [h]
    exact ⟨hu.trans (blankSet_of_regs rfl), hblank⟩
  · rw [h]
    split
    · have hhold := blankSet_toHold (assertCut_health_run r t (cancelResume (setCause n s)))
      exact ⟨hu.trans hhold.1, hhold.2⟩
    · exact ⟨hu, hblank⟩

/-- In Write, with no resume that waits for a tick, the module is in Hold. -/
theorem holdAtOnce_holds (n : Nat) (r : Reason) (t : Int) {s : State} (hmode : s.flow.mode = .write) (hresume : ∀ sl, s.flow.resume ≠ .atTick sl) :
    (holdAtOnce n r t s).flow.mode = .hold := by
  have hflow : (assertCut r t (cancelResume (setCause n s))).flow = (cancelResume (setCause n s)).flow := by simp
  have hresume' : ∀ sl, (setCause n s).flow.resume ≠ .atTick sl := hresume
  obtain ⟨⟨sl, hsl⟩, _⟩ | ⟨_, h⟩ := holdAtOnce_cases n r t s
  · rw [hflow, cancelResume_flow] at hsl
    split at hsl
    · cases hsl
    · exact absurd hsl (hresume' sl)
  · rw [h]
    split
    · rw [toHold_flow]
    · next hwrite =>
      rw [hflow, cancelResume_flow] at hwrite ⊢
      split
      · rfl
      · next hnot =>
        split at hwrite
        · next h => exact absurd h (hnot _ _)
        · exact absurd hmode hwrite

/-! ## O38: the Cinch -/

theorem yields_cinchTest {s : State} (ps : Nat) (hmode : s.flow.mode = .service) (hon : powered s Dom.OUT = true) : Yields (.cinchTest ps) s fun t =>
    fbit t Reg.OUT_STATUS_CINCH_TEST_OK = decide (950 * actCinchNs s ≤ ps ∧ ps ≤ 1050 * actCinchNs s) ∧ Quiet [Reg.OUT_STATUS] s t := by
  refine ⟨cinchTest ps s, rfl, ?_⟩
  rw [cinchTest, if_pos ⟨hmode, hon⟩, cinchTested]
  refine ⟨?_, by simp, by simp, by simp, regsKept_fput (f := Reg.OUT_STATUS_CINCH_TEST_OK) List.mem_cons_self _ s, dramKept_of_eq (by simp)⟩
  rw [fbit_fput _ _ rfl rfl, cinchTestPasses]
  split <;> simp_all

theorem yields_cinchTest_idle {s : State} (ps : Nat) (h : s.flow.mode ≠ .service ∨ powered s Dom.OUT = false) :
    Yields (.cinchTest ps) s fun t => t = s := by
  refine ⟨cinchTest ps s, rfl, if_neg ?_⟩
  rintro ⟨hmode, hon⟩
  rcases h with h | h
  · exact h hmode
  · simp [h] at hon

/-- A trip has set the latch and raised its event. -/
def tripped (s : State) : State := raise Ev.CINCH_CUT (fput Reg.OUT_STATUS_CINCH 1 s)

theorem tripped_flow (s : State) : (tripped s).flow = s.flow := by simp [tripped]

theorem tripped_run (s : State) : (tripped s).health.run = s.health.run := congrArg (·.run) (fput_health Reg.OUT_STATUS_CINCH 1 s)

theorem tripped_cinch (s : State) : fbit (tripped s) Reg.OUT_STATUS_CINCH = true := by
  have hkept : fbit (tripped s) Reg.OUT_STATUS_CINCH = fbit (fput Reg.OUT_STATUS_CINCH 1 s) Reg.OUT_STATUS_CINCH :=
    congrArg (· == 1) (fget_congr (rget_regs_congr (raise_regs _ _) _))
  rw [hkept, fbit_fput _ _ rfl rfl]
  rfl

theorem toHold_raises_of_write (n : Nat) (r : Reason) (t : Int) {s : State} (hmode : s.flow.mode = .write) (hresume : s.flow.resume = .none) :
    (holdAtOnce n r t s).ev.bits.getLsbD Ev.HOLD = true := by
  have hflow : (assertCut r t (cancelResume (setCause n s))).flow = (setCause n s).flow := by
    have hset : (setCause n s).flow.resume = .none := hresume
    rw [cancelResume_of_none hset]
    simp
  obtain ⟨⟨sl, hsl⟩, _⟩ | ⟨_, h⟩ := holdAtOnce_cases n r t s
  · rw [hflow] at hsl
    have hset : (setCause n s).flow.resume = .none := hresume
    rw [hset] at hsl
    cases hsl
  · rw [h, if_pos (by rw [hflow]; exact hmode)]
    exact (toHold_raises _).2

theorem yields_cinchTrip {s : State} (ps : Nat) (hlatch : fbit s Reg.OUT_STATUS_CINCH = false) : Yields (.cinchTrip ps) s fun t =>
    t.out.strobes = 0 ∧ hasCause t 4 = true ∧ t.ev.bits.getLsbD Ev.CINCH_CUT = true ∧ t.health.run = none ∧
    (s.health.run = none → fbit t Reg.OUT_STATUS_CINCH = true ∧ fbit t Reg.OUT_STATUS_BLANK = true) ∧
    (s.flow.mode = .write → (∀ n, s.flow.resume ≠ .atTick n) → t.flow.mode = .hold) ∧
    (s.flow.mode = .write → s.flow.resume = .none → t.ev.bits.getLsbD Ev.HOLD = true) ∧ t.job = s.job ∧ DramKept s t := by
  let u := holdAtOnce 4 .strobeCut ps (tripped s)
  let v : State := { u with shots := u.shots.map Shot.forceLow, out := { u.out with strobes := 0 } }
  have hflow := tripped_flow s
  refine ⟨v, ?_, rfl, ?_, ?_, ?_, fun hrun => ?_, fun hmode hresume => ?_, fun hmode hresume => ?_, ?_, ?_⟩
  · simp only [exec, execCinchTrip, cinchTrip, hlatch]
    rfl
  · change hasCause u 4 = true
    simp [u, hasCause_holdAtOnce]
  · exact eventsStand_holdAtOnce 4 .strobeCut ps (tripped s) _ (raise_raises (by decide) _)
  · exact holdAtOnce_health_run 4 .strobeCut ps (tripped s)
  · obtain ⟨hset, hblank⟩ := blankSet_holdAtOnce 4 .strobeCut ps (s := tripped s) ((tripped_run s).trans hrun)
    refine ⟨?_, hblank⟩
    have hcinch : fbit u Reg.OUT_STATUS_CINCH = true := by
      rw [fbit, hset.others Reg.OUT_STATUS_CINCH rfl (by decide) (by decide)]
      exact tripped_cinch s
    exact hcinch
  · exact holdAtOnce_holds 4 .strobeCut ps (by rw [hflow]; exact hmode) (by rw [hflow]; exact hresume)
  · exact toHold_raises_of_write 4 .strobeCut ps (by rw [hflow]; exact hmode) (by rw [hflow]; exact hresume)
  · change u.job = s.job
    simp [u, tripped]
  · exact dramKept_of_eq (by change u.dram = s.dram; simp [u, tripped])

theorem yields_cinchTrip_latched {s : State} (ps : Nat) (hlatch : fbit s Reg.OUT_STATUS_CINCH = true) :
    Yields (.cinchTrip ps) s fun t => t = s := by
  refine ⟨cinchTrip ps s, rfl, ?_⟩
  simp [cinchTrip, hlatch]

/-! ## O38: the settle of EXPOSE_EN -/

theorem runTo_out (h : Nat) (s : State) : (runTo h s).out = s.out := by
  unfold runTo countWrap fcount
  dsimp only
  split
  · rfl
  · split
    · split
      · exact fput_out _ _ _
      · rfl
    · rfl

theorem regsKept_runTo (h : Nat) (s : State) : RegsKept [Reg.TIM_REST_WRAPS] s (runTo h s) := by
  unfold runTo countWrap fcount
  dsimp only
  split
  · exact fun _ _ => rfl
  · split
    · split
      · exact regsKept_fput (f := Reg.TIM_REST_WRAPS_WRAPS) List.mem_cons_self _ _
      · exact fun _ _ => rfl
    · exact fun _ _ => rfl

theorem exposeSettled_idle {s : State} (ps : Nat)
    (h : s.out.exposeSince = none ∨ fbit s Reg.OUT_STATUS_SETTLED = true ∨ fbit s Reg.OUT_STATUS_EXPOSE_EN = false) : exposeSettled ps s = s := by
  unfold exposeSettled
  split
  · rfl
  · next t0 hsince =>
    rw [if_pos ?_]
    simpa [hsince] using h

/-- The state in which the settle time has passed. -/
def settled (t0 : Nat) (s : State) : State := fput Reg.OUT_STATUS_SETTLED 1 (runTo (t0 + actSettleMs s * 1000000) s)

theorem exposeSettled_eq {s : State} (ps : Nat) {t0 : Nat} (hsince : s.out.exposeSince = some t0) (hsettled : fbit s Reg.OUT_STATUS_SETTLED = false)
    (hon : fbit s Reg.OUT_STATUS_EXPOSE_EN = true) : exposeSettled ps s = match s.flow.starting with
      | none => settled t0 s
      | some slot => startSettled ps slot (settled t0 s) := by
  have hflow : (settled t0 s).flow = s.flow := by simp [settled]
  unfold exposeSettled
  simp only [hsince, hsettled, hon, Bool.not_true, or_self, Bool.false_eq_true, if_false]
  rw [← settled, hflow] <;> rfl

theorem settled_settled (t0 : Nat) (s : State) : fbit (settled t0 s) Reg.OUT_STATUS_SETTLED = true := by
  rw [settled, fbit_fput _ _ rfl rfl]
  rfl

/-- The registers that a settle leaves are all but OUT_STATUS and the count of wraps in Rest. -/
theorem regsKept_settled (t0 : Nat) (s : State) : RegsKept [Reg.TIM_REST_WRAPS, Reg.OUT_STATUS] s (settled t0 s) :=
  ((regsKept_runTo _ s).mono (by simp)).trans (regsKept_fput (f := Reg.OUT_STATUS_SETTLED) (by simp) _ _)

theorem cinchTestPasses_settled (t0 : Nat) (s : State) (ps : Nat) : cinchTestPasses (settled t0 s) ps = cinchTestPasses s ps := by
  have hkept : ∀ f : Field, f.reg ∉ [Reg.TIM_REST_WRAPS, Reg.OUT_STATUS] → fget (settled t0 s) f = fget s f := fun f hf => (regsKept_settled t0 s).fget hf
  have hpmin : actPmin (settled t0 s) = actPmin s := by rw [actPmin, actPmin, hkept _ (by decide)]
  have hslice : actSlice (settled t0 s) = actSlice s := by rw [actSlice, actSlice, hpmin, hkept _ (by decide)]
  have hcinch : actCinchNs (settled t0 s) = actCinchNs s := by rw [actCinchNs, actCinchNs, hslice, hkept _ (by decide)]
  rw [cinchTestPasses, cinchTestPasses, hcinch]

theorem status_completeOpt (slot : Option (Fin 16)) (st : Status) (p : List Byte) {s : State} (n : Fin 16) (h : slot = some n) :
    (slotOf (completeOpt slot st p s) n).status = st.code ∨ s.mail.orphan = true := by
  subst h
  cases horphan : s.mail.orphan with
  | true => exact .inr rfl
  | false =>
    left
    rw [completeOpt, slotOf_complete n st p s horphan n, if_pos rfl]
    rfl

theorem completeOpt_flow (slot : Option (Fin 16)) (st : Status) (p : List Byte) (s : State) : (completeOpt slot st p s).flow = s.flow := by simp

/-! ## O38: the start of a job -/

/-- The registers that show where the rasterizer stands. -/
def rasterRegs : List Nat := [Reg.RAS_STATUS, Reg.RAS_POS_BAND, Reg.RAS_POS_STRIPE]

theorem regsKept_startBand (s : State) : RegsKept rasterRegs s (startBand s) := by
  unfold startBand
  split
  · exact fun _ _ => rfl
  · exact ((regsKept_fput (f := Reg.RAS_POS_STRIPE_LAYER) (by simp [rasterRegs]) _ _).trans
      (regsKept_fput (f := Reg.RAS_POS_STRIPE_STRIPE) (by simp [rasterRegs]) _ _)).trans
      (regsKept_fput (f := Reg.RAS_POS_BAND_BAND) (by simp [rasterRegs]) _ _)

theorem giveTile_regs (s : State) : (giveTile s).regs = s.regs := by
  unfold giveTile
  split <;> rfl

theorem regsKept_fillCells (n : Nat) (s : State) : RegsKept rasterRegs s (fillCells n s) := by
  induction n generalizing s with
  | zero => exact fun _ _ => rfl
  | succ n ih =>
    unfold fillCells
    split
    · exact fun _ _ => rfl
    · split
      · exact (regsKept_of_eq (giveTile_regs s)).trans (ih _)
      · split
        · exact (regsKept_startBand s).trans (ih _)
        · exact fun _ _ => rfl

theorem regsKept_rasterStart (s : State) : RegsKept rasterRegs s (rasterStart s) := by
  have hsync : ∀ u, RegsKept rasterRegs u (rasterSync u) := fun u => regsKept_fput (f := Reg.RAS_STATUS_STATE) (by simp [rasterRegs]) _ u
  unfold rasterStart
  split
  · exact (regsKept_fillCells _ s).trans (hsync _)
  · exact hsync s

/-- With no resume in progress, a member outside the master's partition sets its cause and asks for a Hold; nothing else moves. -/
theorem partitionAtOnce_of_none {s : State} (h : s.flow.resume = .none) : ∃ causes seen req,
    partitionAtOnce s = { s with flow := { s.flow with causes, seen, holdReq := req } } := by
  unfold partitionAtOnce partitionHold
  split
  · split
    · rw [requestHold_of_none h]
      split
      · exact ⟨(setCause 6 s).flow.causes, (setCause 6 s).flow.seen, true, rfl⟩
      · exact ⟨(setCause 6 s).flow.causes, (setCause 6 s).flow.seen, s.flow.holdReq, rfl⟩
    · exact ⟨s.flow.causes, s.flow.seen, s.flow.holdReq, rfl⟩
  · exact ⟨s.flow.causes, s.flow.seen, s.flow.holdReq, rfl⟩

theorem openRecess_recess (s : State) : (openRecess s).prog.recess ≠ none := by simp [openRecess]

theorem regsKept_openNext (s : State) : RegsKept [] s (openNext s) := by
  unfold openNext
  split
  · exact fun _ _ => rfl
  · exact regsKept_of_eq (openWindow_regs _ s)

/-- A JOB_START whose test passed: Write, in the first Recess slot (R57, R242). -/
theorem enterWrite_starts {s : State} (h : s.flow.resume = .none) : (enterWrite s).flow.mode = .write ∧ (enterWrite s).flow.job = .recess ∧
    (enterWrite s).flow.starting = none ∧ (enterWrite s).prog.recess ≠ none ∧ (enterWrite s).mail = s.mail ∧ RegsKept rasterRegs s (enterWrite s) := by
  let v : State := { s with flow := { s.flow with mode := .write, job := .recess, starting := none, seen := s.flow.causes } }
  have hflow : (rasterStart (openRecess (openNext v))).flow = v.flow := by simp
  obtain ⟨causes, seen, req, heq⟩ := partitionAtOnce_of_none (s := rasterStart (openRecess (openNext v))) (by rw [hflow]; exact h)
  have henter : enterWrite s = partitionAtOnce (rasterStart (openRecess (openNext v))) := rfl
  have hregs : RegsKept rasterRegs v (rasterStart (openRecess (openNext v))) :=
    ((regsKept_openNext v).mono (List.nil_subset _)).trans ((regsKept_of_eq rfl).trans (regsKept_rasterStart _))
  rw [henter, heq]
  refine ⟨?_, ?_, ?_, ?_, ?_, fun k hk => hregs k hk⟩
  · exact congrArg Flow.mode hflow
  · exact congrArg Flow.job hflow
  · exact congrArg Flow.starting hflow
  · change (rasterStart (openRecess (openNext v))).prog.recess ≠ none
    rw [show (rasterStart (openRecess (openNext v))).prog = (openRecess (openNext v)).prog by simp]
    exact openRecess_recess _
  · change (rasterStart (openRecess (openNext v))).mail = s.mail
    simp [v]

theorem startFails_off (s : State) : (startFails s).flow = { s.flow with starting := none } ∧ (startFails s).mail = s.mail ∧
    fbit (startFails s) Reg.OUT_STATUS_EXPOSE_EN = false ∧ fbit (startFails s) Reg.OUT_STATUS_CINCH_TEST_OK = fbit s Reg.OUT_STATUS_CINCH_TEST_OK := by
  let v : State := { s with flow := { s.flow with starting := none } }
  have hstage := regsKept_disownStage (exposeOff v)
  refine ⟨by simp [startFails], by simp [startFails], ?_, ?_⟩
  · exact (hstage.fbit (by decide)).trans (exposeOff_blanks v).2
  · refine (hstage.fbit (by decide)).trans ?_
    let u : State := { v with out := { v.out with exposeSince := none } }
    change fbit (fput Reg.OUT_STATUS_SETTLED 0 (fput Reg.OUT_STATUS_EXPOSE_EN 0 (fput Reg.OUT_STATUS_BLANK 1 u))) _ = fbit u _
    rw [fbit_fput_beside _ _ _ rfl _ (by decide) (by decide), fbit_fput_beside _ _ _ rfl _ (by decide) (by decide),
      fbit_fput_beside _ _ _ rfl _ (by decide) (by decide)]

/-- Settles O38: a trip goes through `holdAtOnce`, whose rules say what a Hold at once leaves; the settle goes through `exposeSettled_eq`, and its
two ends through `enterWrite_starts` and `startFails_off`. -/
theorem outputsAreEnabled : Obligations.OutputsAreEnabled := by
  intro s ps
  refine ⟨yields_cinchTest ps, yields_cinchTest_idle ps, yields_cinchTrip ps, yields_cinchTrip_latched ps, fun h => ⟨_, rfl, exposeSettled_idle ps h⟩, ?_⟩
  intro hsince hsettled hon
  obtain ⟨t0, ht0⟩ := Option.isSome_iff_exists.1 hsince
  have heq := exposeSettled_eq ps ht0 hsettled hon
  refine ⟨fun hnone => ⟨_, rfl, ?_⟩, fun slot hslot => ?_⟩
  · rw [heq, hnone]
    exact ⟨settled_settled t0 s, by simp [settled], by simp [settled], by simp [settled], (fput_out _ _ _).trans (runTo_out _ s),
      dramKept_of_eq (by simp [settled])⟩
  · intro answers
    let u := cinchTested ps (settled t0 s)
    have hflow : u.flow = s.flow := by simp [u, cinchTested, settled]
    have hmail : u.mail = s.mail := by simp [u, cinchTested, settled]
    have hpasses := cinchTestPasses_settled t0 s ps
    have htest : fbit u Reg.OUT_STATUS_CINCH_TEST_OK = cinchTestPasses s ps := by
      rw [show u = cinchTested ps (settled t0 s) from rfl, cinchTested, fbit_fput _ _ rfl rfl, hpasses]
      cases cinchTestPasses s ps <;> rfl
    have hsettled' : fbit u Reg.OUT_STATUS_SETTLED = true :=
      (fbit_fput_beside _ _ _ rfl _ (by decide) (by decide)).trans (settled_settled t0 s)
    rw [hslot] at heq
    refine ⟨fun hpass hresume => ⟨_, rfl, ?_⟩, fun hfail => ⟨_, rfl, ?_⟩⟩
    · obtain ⟨hmode, hjob, hstarting, hrecess, hmail', hregs⟩ := enterWrite_starts (s := u) (by rw [hflow]; exact hresume)
      have hdone : exposeSettled ps s = completeOpt slot .ok [] (enterWrite u) := by
        rw [heq]
        exact if_pos (hpasses.trans hpass)
      have hkept := (hregs.mono (ls := Reg.MBX_STATE :: rasterRegs) (by simp)).trans
        ((regsKept_completeOpt slot .ok [] (enterWrite u)).mono (by simp))
      rw [hdone, completeOpt_flow]
      refine ⟨hmode, hjob, hstarting, ?_, ?_, by simpa using hrecess, fun n hn => ?_, by simp [enterWrite, u, cinchTested, settled], ?_⟩
      · rw [hkept.fbit (by decide), htest, hpass]
      · rw [hkept.fbit (by decide), hsettled']
      · rw [← hmail, ← hmail']
        exact status_completeOpt slot .ok [] n hn
      · exact dramKept_of_eq (by simp [enterWrite, u, cinchTested, settled])
    · obtain ⟨hflow', hmail', hoff, htest'⟩ := startFails_off u
      have hdone : exposeSettled ps s = completeOpt slot .selftestFail [] (startFails u) := by
        rw [heq]
        exact if_neg (by rw [hpasses, hfail]; decide)
      have hkept := regsKept_completeOpt slot .selftestFail [] (startFails u)
      rw [hdone, completeOpt_flow, hflow', hflow]
      refine ⟨rfl, ?_, ?_, fun n hn => ?_, by simp [startFails, u, cinchTested, settled], ?_⟩
      · rw [hkept.fbit (by decide), htest', htest, hfail]
      · rw [hkept.fbit (by decide), hoff]
      · rw [← hmail, ← hmail']
        exact status_completeOpt slot .selftestFail [] n hn
      · exact dramKept_of_eq (by simp [startFails, u, cinchTested, settled])

end Sys2Proof.Machine
end

section
/-!
PROOFS. What the cohort's ring, its ports and its frames leave of the module; and O54, how the ring is watched.
-/

namespace Sys2Proof.Machine

/-! ## What the cohort moves -/

/-- The registers that the ring, the ports and the Holds that follow from them may change. -/
abbrev ringMoveRegs : List Nat := ringRegs ++ holdRegs

/-- The ring moves: of the cohort, what it has heard, where it stands in time and what goes out may change, and a Hold may be asked for. -/
structure RingMoved (s t : State) : Prop where
  rest : HoldOnly s t
  regs : RegsKept ringMoveRegs s t
  events : EventsStand s t
  wire : t.coh = { s.coh with
    sentHold := t.coh.sentHold, sent := t.coh.sent, heardEast := t.coh.heardEast, heardWest := t.coh.heardWest
    misaligned := t.coh.misaligned, masterLost := t.coh.masterLost }

theorem RingMoved.refl (s : State) : RingMoved s s := ⟨rfl, fun _ _ => rfl, fun _ h => h, rfl⟩

theorem RingMoved.trans {s t u : State} (h : RingMoved s t) (h' : RingMoved t u) : RingMoved s u :=
  ⟨h.rest.trans h'.rest, h.regs.trans h'.regs, h.events.trans h'.events, by rw [h'.wire, h.wire]⟩

section
variable {s t : State} (h : RingMoved s t)
include h

theorem RingMoved.job : t.job = s.job := by rw [h.rest]

theorem RingMoved.prog : t.prog = s.prog := by rw [h.rest]

theorem RingMoved.pwr : t.pwr = s.pwr := by rw [h.rest]

theorem RingMoved.mon : t.mon = s.mon := by rw [h.rest]

theorem RingMoved.tim : t.tim = s.tim := by rw [h.rest]

theorem RingMoved.dram : t.dram = s.dram := by rw [h.rest]

theorem RingMoved.sec : t.sec = s.sec := by rw [h.rest]

theorem RingMoved.peers : t.coh.peers = s.coh.peers := by rw [h.wire]

theorem RingMoved.peer (i : Nat) : peer t i = peer s i := by rw [Machine.peer, Machine.peer, h.peers]

theorem RingMoved.go : t.coh.go = s.coh.go := by rw [h.wire]

theorem RingMoved.removed : t.coh.removed = s.coh.removed := by rw [h.wire]

theorem RingMoved.alive : t.coh.alive = s.coh.alive := by rw [h.wire]

theorem RingMoved.rget {k : Nat} (hk : k ∉ ringMoveRegs) : rget t k = rget s k := h.regs k hk

theorem RingMoved.fget {f : Field} (hf : f.reg ∉ ringMoveRegs) : fget t f = fget s f := fget_congr (h.rget hf)

theorem RingMoved.powered (d : Nat) : powered t d = powered s d := by
  rw [Machine.powered, Machine.powered, fbitAt, fbitAt, h.fget (by simp [ringRegs])]

theorem RingMoved.cohOwn : cohOwn t = cohOwn s := h.fget (by decide)

theorem RingMoved.cohMembers : cohMembers t = cohMembers s := by rw [Machine.cohMembers, Machine.cohMembers, h.fget (by decide)]

theorem RingMoved.inCohort : inCohort t = inCohort s := by rw [Machine.inCohort, Machine.inCohort, h.cohMembers]

theorem RingMoved.masterBit : masterBit t = masterBit s := by
  rw [Machine.masterBit, Machine.masterBit, storedField, storedField, storedReg_congr (by rw [h.pwr]) (h.rget (by decide)) (h.rget (by decide))]

theorem RingMoved.isMaster : isMaster t = isMaster s := by rw [Machine.isMaster, Machine.isMaster, h.masterBit, h.fget (by decide)]

theorem RingMoved.saysMaster (i : Nat) : saysMaster t i = saysMaster s i := by
  rw [Machine.saysMaster, Machine.saysMaster, h.cohOwn, h.isMaster, h.peer]

theorem RingMoved.portSends (p : Port) : portSends t p = portSends s p := portSends_congr (h.rget (by decide)) (h.rget (by decide)) h.mon p

theorem RingMoved.ownDigest : ownDigest t = ownDigest s :=
  ownDigest_congr h.sec (by rw [h.pwr]) (fun k hk => h.rget ((by decide : ∀ k ∈ digestRegs, k ∉ ringMoveRegs) k hk)) (h.rget (by decide))

theorem RingMoved.digestOk : digestOk t = digestOk s := by rw [Machine.digestOk, Machine.digestOk, h.job, h.ownDigest]

theorem RingMoved.curEntry : curEntry t = curEntry s := by rw [Machine.curEntry, Machine.curEntry, stripeAt, stripeAt, h.job, h.prog]

theorem RingMoved.dramKept : DramKept s t := dramKept_of_eq h.dram

end

theorem ringMoved_raiseIf (b : Bool) (n : Nat) (s : State) : RingMoved s (raiseIf b n s) where
  rest := by cases b <;> rfl
  regs := fun k _ => rget_raiseIf b n s k
  events := eventsStand_raiseIf b n s
  wire := by cases b <;> rfl

theorem ringMoved_fput {f : Field} (h : f.reg ∈ ringMoveRegs) (v : Nat) (s : State) : RingMoved s (fput f v s) :=
  ⟨rfl, regsKept_fput h v s, fun _ hn => hn, rfl⟩

theorem ringMoved_rset {k : Nat} (h : k ∈ ringMoveRegs) (v : Word) (s : State) : RingMoved s (rset k v s) :=
  ⟨rfl, regsKept_rset h v s, fun _ hn => hn, rfl⟩

theorem sendHoldOn_coh (src id : Nat) (s : State) (p : Port) : (sendHoldOn src id s p).coh = { s.coh with sentHold := (sendHoldOn src id s p).coh.sentHold } := by
  unfold sendHoldOn
  split <;> rfl

theorem sendHoldSet_coh (s : State) : (sendHoldSet s).coh = { s.coh with sentHold := (sendHoldSet s).coh.sentHold } := by
  unfold sendHoldSet
  dsimp only
  split
  · simp only [List.foldl_cons, List.foldl_nil]
    rw [sendHoldOn_coh, sendHoldOn_coh _ _ (fput _ _ s)]
    rfl
  · rfl

theorem completeOpt_coh (n : Option (Fin 16)) (st : Status) (p : List Byte) (s : State) : (completeOpt n st p s).coh = s.coh := by simp

theorem cancelResume_coh (s : State) : (cancelResume s).coh = { s.coh with sentHold := (cancelResume s).coh.sentHold } := by
  unfold cancelResume
  split
  · simp only [completeOpt_coh]
    split
    · split
      · rw [sendHoldSet_coh]
        rfl
      · rfl
    · rfl
  · rfl

theorem requestHold_coh (n : Nat) (s : State) : (requestHold n s).coh = { s.coh with sentHold := (requestHold n s).coh.sentHold } := by
  have h : (cancelResume (setCause n s)).coh = { s.coh with sentHold := (cancelResume (setCause n s)).coh.sentHold } := cancelResume_coh (setCause n s)
  unfold requestHold
  dsimp only
  split
  · exact h
  · split
    · exact h
    · exact h

theorem ringMoved_requestHold (n : Nat) (s : State) : RingMoved s (requestHold n s) where
  rest := holdOnly_requestHold n s
  regs := (regsKept_requestHold n s).mono (by simp)
  events := eventsStand_requestHold n s
  wire := by rw [requestHold_coh]

theorem ringMoved_partitionAtOnce (s : State) : RingMoved s (partitionAtOnce s) := by
  unfold partitionAtOnce partitionHold
  split
  · split
    · exact ringMoved_requestHold 6 s
    · exact .refl s
  · exact .refl s

theorem partitionAtOnce_of_whole {s : State} (h : ringWhole s = true) : partitionAtOnce s = s := by
  simp [partitionAtOnce, partitionHold, outsidePartition, h]

theorem ringMoved_masterSync (anew : Bool) (s : State) : RingMoved s (masterSync anew s) :=
  (((ringMoved_fput (f := Reg.COH_STATUS_WHOLE) (by decide) _ s).trans (ringMoved_fput (f := Reg.COH_STATUS_IN_MASTER_PART) (by decide) _ _)).trans
    (ringMoved_raiseIf _ _ _))

/-- The ring with its new masks, before what follows from them. -/
def ringPut (reach keep : Word) (s : State) : State := rset Reg.COH_KEEP keep (rset Reg.COH_REACH reach s)

/-- The ring with its new masks and the events that they raise. -/
def ringTold (reach keep : Word) (anew : Bool) (s : State) : State :=
  let u := raiseIf ((ringWhole s || anew) && !ringWhole (ringPut reach keep s)) Ev.PARTITION (ringPut reach keep s)
  raiseIf (!ringWhole s && ringWhole u && inCohort u) Ev.REJOINED u

theorem setRing_told (reach keep : Word) (anew : Bool) (s : State) :
    setRing reach keep anew s = partitionAtOnce (masterSync anew (ringTold reach keep anew s)) := rfl

theorem ringMoved_ringPut (reach keep : Word) (s : State) : RingMoved s (ringPut reach keep s) :=
  (ringMoved_rset (by decide) reach s).trans (ringMoved_rset (by decide) keep _)

theorem ringMoved_ringTold (reach keep : Word) (anew : Bool) (s : State) : RingMoved s (ringTold reach keep anew s) :=
  ((ringMoved_ringPut reach keep s).trans (ringMoved_raiseIf _ _ _)).trans (ringMoved_raiseIf _ _ _)

theorem ringMoved_setRing (reach keep : Word) (anew : Bool) (s : State) : RingMoved s (setRing reach keep anew s) := by
  rw [setRing_told]
  exact ((ringMoved_ringTold reach keep anew s).trans (ringMoved_masterSync anew _)).trans (ringMoved_partitionAtOnce _)

theorem rget_setRing (reach keep : Word) (anew : Bool) (s : State) {k : Nat} (hk : k = Reg.COH_REACH ∨ k = Reg.COH_KEEP) :
    rget (setRing reach keep anew s) k = rget (ringPut reach keep s) k := by
  have hhold : k ∉ holdRegs := by rcases hk with rfl | rfl <;> decide
  have hstatus : k ≠ Reg.COH_STATUS := by rcases hk with rfl | rfl <;> decide
  rw [setRing_told, regsKept_partitionAtOnce _ k hhold, rget_masterSync _ _ hstatus, ringTold, rget_raiseIf, rget_raiseIf]

theorem reach_setRing (reach keep : Word) (anew : Bool) (s : State) : rget (setRing reach keep anew s) Reg.COH_REACH = reach := by
  rw [rget_setRing _ _ _ _ (.inl rfl), ringPut, rget_rset_other _ _ _ _ (by decide), rget_rset_same]

theorem keep_setRing (reach keep : Word) (anew : Bool) (s : State) : rget (setRing reach keep anew s) Reg.COH_KEEP = keep := by
  rw [rget_setRing _ _ _ _ (.inr rfl), ringPut, rget_rset_same]

theorem ringWhole_ringPut (reach keep : Word) (s : State) : ringWhole (ringPut reach keep s) = (reach == keep) := by
  rw [ringWhole, ringPut, rget_rset_other _ _ _ _ (by decide), rget_rset_same, rget_rset_same]

/-- A ring that stops being whole raises its event (R424). -/
theorem setRing_partition {reach keep : Word} {anew : Bool} {s : State} (h : (ringWhole s || anew) = true) (hne : reach ≠ keep) :
    (setRing reach keep anew s).ev.bits.getLsbD Ev.PARTITION = true := by
  have hraised : (raiseIf ((ringWhole s || anew) && !ringWhole (ringPut reach keep s)) Ev.PARTITION (ringPut reach keep s)).ev.bits.getLsbD Ev.PARTITION = true := by
    rw [ringWhole_ringPut, h]
    simpa [raiseIf, hne] using raise_raises (by decide) _
  rw [setRing_told]
  exact (ringMoved_partitionAtOnce _).events _ ((ringMoved_masterSync anew _).events _ (eventsStand_raiseIf _ _ _ _ hraised))

/-- A ring that is whole holds nothing. -/
theorem setRing_flow_of_whole {reach keep : Word} {anew : Bool} {s : State} (h : reach = keep) : (setRing reach keep anew s).flow = s.flow := by
  have hwhole : ringWhole (masterSync anew (ringTold reach keep anew s)) = true := by
    have hregs : ∀ k, k = Reg.COH_REACH ∨ k = Reg.COH_KEEP → rget (masterSync anew (ringTold reach keep anew s)) k = rget (ringPut reach keep s) k := by
      intro k hk
      rw [rget_masterSync _ _ (by rcases hk with rfl | rfl <;> decide), ringTold, rget_raiseIf, rget_raiseIf]
    rw [ringWhole, hregs _ (.inl rfl), hregs _ (.inr rfl), ← ringWhole, ringWhole_ringPut, h]
    simp
  rw [setRing_told, partitionAtOnce_of_whole hwhole]
  simp [ringTold, ringPut]

theorem sent_setRing (reach keep : Word) (anew : Bool) (s : State) : (setRing reach keep anew s).coh.sent = s.coh.sent := by
  have hpart : ∀ u, (partitionAtOnce u).coh.sent = u.coh.sent := by
    intro u
    unfold partitionAtOnce partitionHold
    split
    · split
      · rw [requestHold_coh]
      · rfl
    · rfl
  rw [setRing_told, hpart, (masterSync_keeps _ _).1]
  simp [ringTold, ringPut]

/-! ## Alignment -/

theorem ringMoved_timeSrcSync (s : State) : RingMoved s (timeSrcSync s) := ringMoved_fput (f := Reg.COH_STATUS_TIME_SRC) (by decide) _ s

/-- The state of alignment is taken. -/
def aligned (misaligned lost : Bool) (s : State) : State := { s with coh := { s.coh with misaligned := misaligned, masterLost := lost } }

theorem setAlign_eq (misaligned lost : Bool) (s : State) : setAlign misaligned lost s =
    timeSrcSync (raiseIf (!timeUnaligned s && timeUnaligned (aligned misaligned lost s)) Ev.TIME_ALIGN (aligned misaligned lost s)) := rfl

theorem ringMoved_setAlign (misaligned lost : Bool) (s : State) : RingMoved s (setAlign misaligned lost s) := by
  have haligned : RingMoved s (aligned misaligned lost s) := ⟨rfl, fun _ _ => rfl, fun _ hn => hn, rfl⟩
  exact (haligned.trans (ringMoved_raiseIf _ _ _)).trans (ringMoved_timeSrcSync _)

theorem timeSrcSync_coh (s : State) : (timeSrcSync s).coh = s.coh := by simp [timeSrcSync]

theorem setAlign_coh (misaligned lost : Bool) (s : State) : (setAlign misaligned lost s).coh = { s.coh with misaligned := misaligned, masterLost := lost } := by
  rw [setAlign_eq, timeSrcSync_coh]
  simp [aligned]

theorem setAlign_flow (misaligned lost : Bool) (s : State) : (setAlign misaligned lost s).flow = s.flow := by
  simp [setAlign_eq, timeSrcSync, aligned]

/-- A change of alignment writes COH_STATUS alone. -/
theorem rget_setAlign (misaligned lost : Bool) (s : State) {k : Nat} (hk : k ≠ Reg.COH_STATUS) : rget (setAlign misaligned lost s) k = rget s k := by
  rw [setAlign_eq, timeSrcSync, rget_fput, if_neg hk, rget_raiseIf]
  rfl

theorem setAlign_raises {misaligned lost : Bool} {s : State} (hbefore : timeUnaligned s = false)
    (hafter : timeUnaligned (aligned misaligned lost s) = true) : (setAlign misaligned lost s).ev.bits.getLsbD Ev.TIME_ALIGN = true := by
  rw [setAlign_eq, hbefore, hafter]
  exact (ringMoved_timeSrcSync _).events _ (raise_raises (by decide) _)

/-! ## Ports -/

theorem portUp_reg (p : Port) : (portUp p).reg = Reg.COH_STATUS := by cases p <;> rfl

theorem ringMoved_portSync (p : Port) (s : State) : RingMoved s (portSync p s) :=
  (ringMoved_fput (f := portUp p) (by rw [portUp_reg]; decide) _ s).trans (ringMoved_raiseIf _ _ _)

theorem ringMoved_setHeard (p : Port) (b : Bool) (s : State) : RingMoved s (setHeard p b s) := by
  refine RingMoved.trans ?_ (ringMoved_portSync p _)
  cases p <;> exact ⟨rfl, fun _ _ => rfl, fun _ hn => hn, rfl⟩

/-- Whether a port is up as its lanes and what it hears say. -/
def portIsUp (p : Port) (s : State) : Bool :=
  decide (2 ≤ ((List.range 4).filter fun n => (portLanes s p).testBit n).length) && portHeard s p && powered s Dom.COH

theorem portSync_up (p : Port) (s : State) : fbit (portSync p s) (portUp p) = portIsUp p s := by
  have hregs : ∀ k, rget (portSync p s) k = rget (fput (portUp p) (if portIsUp p s then 1 else 0) s) k := fun k => rget_raiseIf _ _ _ k
  rw [fbit, fget_congr (hregs _), ← fbit, fbit_fput _ _ (by cases p <;> rfl) (by cases p <;> rfl)]
  cases portIsUp p s <;> rfl

theorem portSync_ev (p : Port) (s : State) : (portSync p s).ev = (raiseIf (fbit s (portUp p) && !portIsUp p s) (portEvent p) s).ev := by
  have heq : portSync p s = raiseIf (fbit s (portUp p) && !portIsUp p s) (portEvent p) (fput (portUp p) (if portIsUp p s then 1 else 0) s) := rfl
  rw [heq]
  cases fbit s (portUp p) && !portIsUp p s
  · simp [raiseIf]
  · exact raise_ev_congr _ (by simp)

theorem portSync_coh (p : Port) (s : State) : (portSync p s).coh = s.coh := by simp [portSync]

theorem regsKept_portSync (p : Port) (s : State) : RegsKept [Reg.COH_STATUS] s (portSync p s) :=
  (regsKept_fput (f := portUp p) (by rw [portUp_reg]; exact List.mem_cons_self) _ s).trans (fun k _ => rget_raiseIf _ _ _ k)

theorem portSync_flow (p : Port) (s : State) : (portSync p s).flow = s.flow := by simp [portSync]

theorem setHeard_flow (p : Port) (b : Bool) (s : State) : (setHeard p b s).flow = s.flow := by
  cases p <;> exact portSync_flow _ _

theorem sent_setHeard (p : Port) (b : Bool) (s : State) : (setHeard p b s).coh.sent = s.coh.sent := by
  cases p <;> simp [setHeard, portSync_coh]

theorem regsKept_setHeard (p : Port) (b : Bool) (s : State) : RegsKept [Reg.COH_STATUS] s (setHeard p b s) := by
  cases p <;> exact RegsKept.trans (fun _ _ => rfl) (regsKept_portSync _ _)

theorem raiseIf_ev_of_ev {s t : State} (h : t.ev = s.ev) (b : Bool) (n : Nat) : (raiseIf b n t).ev = (raiseIf b n s).ev := by
  cases b
  · exact h
  · exact raise_ev_congr n h

/-! ## O54: ports -/

theorem yields_cohPortDown (s : State) (p : Port) : Yields (.cohPortDown p) s fun t => fbit t (portUp p) = false ∧ portHeard t p = false ∧
    t.ev = (raiseIf (fbit s (portUp p)) (portEvent p) s).ev ∧ t.flow = s.flow ∧ t.job = s.job ∧ RegsKept [Reg.COH_STATUS] s t ∧ DramKept s t := by
  have hmoved := ringMoved_setHeard p false s
  refine ⟨_, rfl, ?_, ?_, ?_, setHeard_flow p false s, hmoved.job, regsKept_setHeard p false s, hmoved.dramKept⟩
  · cases p <;> simp [setHeard, portSync_up, portIsUp, portHeard]
  · cases p <;> simp [setHeard, portHeard, portSync_coh]
  · cases p <;>
    · rw [setHeard, portSync_ev]
      simp only [portIsUp, portHeard, Bool.and_false, Bool.false_and, Bool.not_false, Bool.and_true]
      exact raiseIf_ev_of_ev (s := s) (by rfl) (fbit s (portUp _)) _

/-- The lanes of a port. -/
def laneField : Port → Field
  | .east => Reg.COH_LANES_EAST
  | .west => Reg.COH_LANES_WEST

theorem yields_cohLaneLockChange {s : State} (p : Port) (lane : Fin 4) (locked : Bool) (hon : powered s Dom.COH = true) :
    Yields (.cohLaneLockChange p lane locked) s fun t => (portLanes t p).testBit lane.val = locked ∧
      (∀ n, n < 4 → n ≠ lane.val → (portLanes t p).testBit n = (portLanes s p).testBit n) ∧
      fbit t (portUp p) = (decide (2 ≤ ((List.range 4).filter fun n => (portLanes t p).testBit n).length) && portHeard s p) ∧
      t.ev = (raiseIf (fbit s (portUp p) && !fbit t (portUp p)) (portEvent p) s).ev ∧
      t.flow = s.flow ∧ t.job = s.job ∧ RegsKept [Reg.COH_STATUS, Reg.COH_LANES] s t ∧ DramKept s t := by
  let u := fputBit (laneField p) lane.val locked s
  have hfield : (laneField p).reg = Reg.COH_LANES ∧ (laneField p).ok = true ∧ (laneField p).hi - (laneField p).lo + 1 = 4 := by cases p <;> decide
  obtain ⟨hreg, hok, hwidth⟩ := hfield
  have hlanes : ∀ (v : State) n, (portLanes v p).testBit n = fbitAt v (laneField p) n := fun v n => by cases p <;> rfl
  have hbits : ∀ n, fbitAt (portSync p u) (laneField p) n = if n = lane.val then locked else fbitAt s (laneField p) n := fun n => by
    rw [(regsKept_portSync p u).fbitAt (by rw [hreg]; decide), fbitAt_fputBit _ _ hok _ (by rw [hwidth]; exact lane.isLt)]
  have hsame : ∀ n, (portLanes (portSync p u) p).testBit n = (portLanes u p).testBit n := fun n => by
    rw [hlanes, hlanes, (regsKept_portSync p u).fbitAt (by rw [hreg]; decide)]
  have hup : fbit (portSync p u) (portUp p) = portIsUp p u := portSync_up p u
  have hbit : fbit u (portUp p) = fbit s (portUp p) := (regsKept_fputBit (ks := [Reg.COH_LANES]) (by simp [hreg]) _ _ s).fbit (by rw [portUp_reg]; decide)
  have hpow : powered u Dom.COH = true := by
    rw [← hon]
    exact (regsKept_fputBit (ks := [Reg.COH_LANES]) (by simp [hreg]) lane.val locked s).fbitAt (f := Reg.PWR_STATUS_DOMAINS) (n := Dom.COH) (by decide)
  refine ⟨portSync p u, ?_, ?_, fun n _ hne => ?_, ?_, ?_, ?_, ?_, ?_, ?_⟩
  · cases p <;> simp [exec, execCohLaneLockChange, hon, u, laneField]
  · rw [hlanes, hbits, if_pos rfl]
  · rw [hlanes, hlanes, hbits, if_neg hne]
  · rw [hup]
    have hheard : portHeard u p = portHeard s p := by cases p <;> simp [portHeard, u]
    simp only [hsame, portIsUp, hpow, hheard, Bool.and_true]
  · rw [hup, portSync_ev, hbit]
    exact raiseIf_ev_of_ev (show u.ev = s.ev by simp [u]) _ _
  · rw [portSync_flow]
    simp [u]
  · rw [(ringMoved_portSync p u).job]
    simp [u]
  · exact ((regsKept_fputBit (ks := [Reg.COH_STATUS, Reg.COH_LANES]) (by simp [hreg]) _ _ s)).trans ((regsKept_portSync p u).mono (by simp))
  · exact dramKept_of_eq (by rw [(ringMoved_portSync p u).dram]; simp [u])

/-! ## O54: reach -/

theorem getLsbD_clear (w : Word) {i : Nat} (hi : i < 32) (k : Nat) : (w &&& ~~~((1 : Word) <<< i)).getLsbD k = (w.getLsbD k && !decide (i = k)) := by
  rw [BitVec.getLsbD_and, BitVec.getLsbD_not, getLsbD_one_shiftLeft]
  by_cases hk : k < 32
  · simp [hi, hk]
  · simp [BitVec.getLsbD_of_ge w k (by omega)]

theorem peer_updPeer (i : Nat) (g : Peer → Peer) (s : State) (k : Nat) : peer (updPeer i g s) k = if k = i then g (peer s k) else peer s k :=
  getD_updAt _ _ _ _ _

/-- The position's ALIVE is forgotten. -/
def forgotten (i : Nat) (s : State) : State := updPeer i (fun p => { p with alive := none }) s

/-- Whether the module loses its master with a position. -/
def losesMaster (i : Nat) (s : State) : Bool :=
  saysMaster s i || !((List.range 32).any fun j => j != cohOwn s && j != i && reachable s j && saysMaster s j)

theorem saysMaster_updPeer {g : Peer → Peer} (hg : ∀ q, (g q).roll = q.roll) (i : Nat) (s : State) (j : Nat) :
    saysMaster (updPeer i g s) j = saysMaster s j := by
  have hroll : (peer (updPeer i g s) j).roll = (peer s j).roll := by
    rw [peer_updPeer]
    split
    · exact hg _
    · rfl
  simp only [saysMaster, hroll]
  rfl

theorem saysMaster_forgotten (i : Nat) (s : State) (j : Nat) : saysMaster (forgotten i s) j = saysMaster s j :=
  saysMaster_updPeer (g := fun p => { p with alive := none }) (fun _ => rfl) i s j

/-- The ring without a position. -/
def ringWithout (i : Nat) (s : State) : State :=
  setRing (rget s Reg.COH_REACH &&& ~~~((1 : Word) <<< i)) (rget s Reg.COH_KEEP) false (forgotten i s)

theorem reachExpiry_eq {s : State} {i : Nat} (h : i ≠ cohOwn s) : reachExpiry i s =
    setAlign (ringWithout i s).coh.misaligned ((ringWithout i s).coh.masterLost || losesMaster i s) (ringWithout i s) := by
  have hlost : losesMaster i (forgotten i s) = losesMaster i s := by
    simp only [losesMaster, saysMaster_forgotten]
    rfl
  rw [← hlost, reachExpiry, if_neg h]
  rfl

theorem misaligned_setRing (reach keep : Word) (anew : Bool) (s : State) :
    (setRing reach keep anew s).coh.misaligned = s.coh.misaligned ∧ (setRing reach keep anew s).coh.masterLost = s.coh.masterLost := by
  have hpart : ∀ u, (partitionAtOnce u).coh.misaligned = u.coh.misaligned ∧ (partitionAtOnce u).coh.masterLost = u.coh.masterLost := by
    intro u
    unfold partitionAtOnce partitionHold
    split
    · split
      · rw [requestHold_coh]
        exact ⟨rfl, rfl⟩
      · exact ⟨rfl, rfl⟩
    · exact ⟨rfl, rfl⟩
  rw [setRing_told, (hpart _).1, (hpart _).2, (masterSync_keeps _ _).1]
  simp [ringTold, ringPut]

theorem losesMaster_of_no_other {s : State} {i : Nat}
    (h : saysMaster s i = true ∨ ∀ j, j < 32 → j ≠ cohOwn s → j ≠ i → reachable s j = true → saysMaster s j = false) : losesMaster i s = true := by
  rcases h with h | h
  · simp [losesMaster, h]
  · have hnone : (List.range 32).any (fun j => j != cohOwn s && j != i && reachable s j && saysMaster s j) = false := by
      simp only [List.any_eq_false, List.mem_range]
      intro j hj hall
      simp only [Bool.and_eq_true, bne_iff_ne] at hall
      obtain ⟨⟨⟨hown, hi⟩, hreach⟩, hsays⟩ := hall
      simp [h j hj hown hi hreach] at hsays
    simp [losesMaster, hnone]

theorem yields_reachExpiry {s : State} (i : Fin 32) (hcore : coreRuns s = true) (hother : i.val ≠ cohOwn s) : Yields (.reachExpiry i) s fun t =>
    reachable t i.val = false ∧ (peer t i.val).alive = none ∧ (∀ k, k ≠ i.val → reachable t k = reachable s k ∧ peer t k = peer s k) ∧
    (ringWhole s = true → reachable s i.val = true → t.ev.bits.getLsbD Ev.PARTITION = true) ∧
    (saysMaster s i.val = true ∨ (∀ j, j < 32 → j ≠ cohOwn s → j ≠ i.val → reachable s j = true → saysMaster s j = false) → t.coh.masterLost = true ∧
      (inCohort s = true → isMaster s = false → timeUnaligned s = false → t.ev.bits.getLsbD Ev.TIME_ALIGN = true)) ∧
    t.job = s.job ∧ DramKept s t := by
  let u := ringWithout i.val s
  let t := setAlign u.coh.misaligned (u.coh.masterLost || losesMaster i.val s) u
  have hring : RingMoved (forgotten i.val s) u := ringMoved_setRing _ _ _ _
  have halign : RingMoved u t := ringMoved_setAlign _ _ _
  have hmoved := hring.trans halign
  have hreach : rget t Reg.COH_REACH = rget s Reg.COH_REACH &&& ~~~((1 : Word) <<< i.val) := by
    rw [show rget t Reg.COH_REACH = rget u Reg.COH_REACH from rget_setAlign _ _ _ (by decide)]
    exact reach_setRing _ _ _ _
  have hbit : ∀ k, reachable t k = (reachable s k && !decide (i.val = k)) := fun k => by
    rw [reachable, hreach, getLsbD_clear _ i.isLt, reachable]
  have hpeer : ∀ k, peer t k = if k = i.val then { peer s k with alive := none } else peer s k := fun k => (hmoved.peer k).trans (peer_updPeer _ _ _ _)
  refine ⟨t, ?_, ?_, ?_, fun k hk => ⟨?_, ?_⟩, fun hwhole hreached => ?_, fun hlost => ?_, hmoved.job, hmoved.dramKept⟩
  · simp only [exec, execReachExpiry, hcore, if_true, reachExpiry_eq hother]
    rfl
  · rw [hbit]
    simp
  · rw [hpeer, if_pos rfl]
  · rw [hbit]
    simp [Ne.symm hk]
  · rw [hpeer, if_neg hk]
  · refine halign.events _ (setRing_partition ?_ ?_)
    · change (ringWhole s || false) = true
      simp [hwhole]
    · intro heq
      have hall : rget s Reg.COH_REACH = rget s Reg.COH_KEEP := by simpa [ringWhole] using hwhole
      have hcleared := congrArg (fun w : Word => w.getLsbD i.val) heq
      simp only [getLsbD_clear _ i.isLt, ← hall] at hcleared
      simp [reachable] at hreached
      simp [hreached] at hcleared
  · have hloses := losesMaster_of_no_other hlost
    have hcoh : t.coh = { u.coh with misaligned := u.coh.misaligned, masterLost := u.coh.masterLost || losesMaster i.val s } := setAlign_coh _ _ _
    refine ⟨by rw [hcoh, hloses, Bool.or_true], fun hin hmaster hunaligned => setAlign_raises ?_ ?_⟩
    · have hmis : u.coh.misaligned = s.coh.misaligned ∧ u.coh.masterLost = s.coh.masterLost := misaligned_setRing _ _ _ _
      rw [timeUnaligned, hring.inCohort, hring.isMaster, hmis.1, hmis.2]
      exact hunaligned
    · have hin' : inCohort u = true := hring.inCohort.trans hin
      have hmaster' : isMaster u = false := hring.isMaster.trans hmaster
      change (inCohort u && !isMaster u && (u.coh.misaligned || (u.coh.masterLost || losesMaster i.val s))) = true
      rw [hin', hmaster', hloses]
      simp

/-! ## O54: Roll Calls and the wake pattern -/

/-- A frame's CRC covers all but itself. -/
theorem cohCrc_crc (f : CohFrame) (c : Word) : cohCrc { f with crc := c } = cohCrc f := by
  rw [cohCrc, cohCrc]

theorem frameSound_ownFrame (s : State) (kind : Nat) {payload : List Byte} {k : Nat} (hlen : payload.length = 8 * k) (hk : k ≤ 8) :
    frameSound (ownFrame s kind payload) = true := by
  have hcrc : cohCrc (ownFrame s kind payload) = (ownFrame s kind payload).crc := by
    rw [ownFrame]
    exact cohCrc_crc _ _
  have hnpay : (ownFrame s kind payload).npay = k := by
    change payload.length / 8 = k
    omega
  have hpayload : (ownFrame s kind payload).payload.length = 8 * k := hlen
  simp [frameSound, hcrc, hnpay, hpayload, hk]

theorem broadcast_coh (kind : Nat) (payload : List Byte) (s : State) :
    (broadcast kind payload s).coh = { s.coh with sent := (broadcast kind payload s).coh.sent, alive := (s.coh.alive + 1) % 2 ^ 32 } := by
  have hput : ∀ (f : CohFrame) (u : State) (p : Port), (putFrame f u p).coh = { u.coh with sent := (putFrame f u p).coh.sent } := by
    intro f u p
    unfold putFrame
    split <;> rfl
  have hcoh : (broadcast kind payload s).coh = { (putFrame (ownFrame s kind payload) (putFrame (ownFrame s kind payload) s .east) .west).coh with
      alive := (s.coh.alive + 1) % 2 ^ 32 } := by
    simp only [broadcast, sendOwn, List.foldl_cons, List.foldl_nil]
    rw [hput, hput]
  rw [hcoh, hput, hput]

theorem length_rollPayload (s : State) : (rollPayload s).length = 8 * 3 := by
  simp [rollPayload, length_leBytes]

theorem yields_rollCallSend {s : State} (hproctor : proctorRuns s = true) (hrest : resting s = false)
    (hmode : s.flow.mode ∈ [Mode.ready, Mode.write, Mode.hold]) : Yields .rollCallSend s fun t =>
      rget64 t Reg.COH_DIGEST_LO Reg.COH_DIGEST_HI = ownDigest s % 2 ^ 64 ∧ t.coh.alive = (s.coh.alive + 1) % 2 ^ 32 ∧
      (∀ p, portSends s p = true → ∃ f, (p, f) ∈ t.coh.sent ∧ f.kind = Kind.rollCall ∧ f.src = cohOwn s ∧ f.alive = s.coh.alive ∧ frameSound f = true ∧
        slice f.payload 0 8 = leBytes 8 (ownDigest s % 2 ^ 64)) ∧
      t.flow = s.flow ∧ t.job = s.job ∧ DramKept s t := by
  let u := rollCallSource s
  let v := broadcast Kind.rollCall (rollPayload u) u
  have hsent := rollCallSend_eq hproctor hrest hmode
  have hregs : ∀ k, rget (rollCallSend s) k = rget u k := fun k => by
    rw [hsent]
    exact rget_regs_congr (broadcast_regs _ _ _) k
  have hcoh : (rollCallSend s).coh = v.coh := by rw [hsent]; rfl
  refine ⟨rollCallSend s, rfl, ?_, ?_, fun p hp => ⟨ownFrame u Kind.rollCall (rollPayload u), ?_, rfl, cohOwn_rollCallSource s, ?_, ?_, ?_⟩, ?_, ?_, ?_⟩
  · rw [rget64, hregs, hregs]
    exact digest_rollCallSource s
  · rw [hcoh, broadcast_coh, rollCallSource_coh]
  · rw [hcoh]
    exact sent_broadcast _ _ _ (by rw [portSends_rollCallSource]; exact hp)
  · exact congrArg Coh.alive (rollCallSource_coh s)
  · exact frameSound_ownFrame u _ (length_rollPayload u) (by decide)
  · rw [← digest_rollCallSource]
    exact slice_append_middle (a := []) (n := 8) _ rfl (length_leBytes 8 _)
  · simp [rollCallSend]
  · simp [rollCallSend]
  · exact dramKept_of_eq (by simp [rollCallSend])

/-- A burst of the wake pattern is due on a port. -/
def burstDue (s : State) (p : Port) : Bool := decide (burstsOn s p < 10000) && !(decide (0 < burstsOn s p) && fbit s (portUp p))

/-- What a port counts after a burst, or without one. -/
def burstNext (s : State) (p : Port) : Nat := if burstDue s p then burstsOn s p + 1 else max 10000 (burstsOn s p)

/-- The patterns that go out on a port. -/
def burstSent (s : State) (p : Port) : List WakeBurst := if burstDue s p then [wakePattern p] else []

/-- More patterns have gone out. -/
def wakeSent (ws : List WakeBurst) (s : State) : State := { s with coh := { s.coh with sentWake := s.coh.sentWake ++ ws } }

theorem burstPort_eq (s : State) (p : Port) : burstPort s p = setBursts p (burstNext s p) (wakeSent (burstSent s p) s) := by
  unfold burstPort burstNext burstSent burstDue
  dsimp only
  by_cases hover : 10000 ≤ burstsOn s p
  · have hlt : ¬ burstsOn s p < 10000 := by omega
    simp only [hover, hlt, if_true, decide_false, Bool.false_and, Bool.false_eq_true, if_false, max_eq_right]
    cases p <;> simp [setBursts, burstsOn, wakeSent]
  · have hlt : burstsOn s p < 10000 := by omega
    by_cases hup : 0 < burstsOn s p ∧ fbit s (portUp p) = true
    · have hmax : max 10000 (burstsOn s p) = 10000 := by omega
      rw [if_neg hover, if_pos hup]
      simp only [hup.1, hup.2, hmax, decide_true, Bool.and_self, Bool.not_true, Bool.and_false, Bool.false_eq_true, if_false]
      simp [wakeSent]
    · have hnot : (decide (0 < burstsOn s p) && fbit s (portUp p)) = false := by simpa using hup
      rw [if_neg hover, if_neg hup]
      simp only [hlt, hnot, decide_true, Bool.not_false, Bool.and_self, if_true]
      rfl

/-- Both ports count their bursts, and the patterns go out. -/
def burstsPut (east west : Nat) (ws : List WakeBurst) (s : State) : State :=
  { s with coh := { s.coh with burstsEast := east, burstsWest := west, sentWake := s.coh.sentWake ++ ws } }

theorem burstsPut_keeps (east west : Nat) (ws : List WakeBurst) (s : State) : Quiet [] s (burstsPut east west ws s) ∧
    (burstsPut east west ws s).coh = { s.coh with
      burstsEast := (burstsPut east west ws s).coh.burstsEast, burstsWest := (burstsPut east west ws s).coh.burstsWest
      sentWake := (burstsPut east west ws s).coh.sentWake } :=
  ⟨⟨rfl, rfl, rfl, fun _ _ => rfl, dramKept_of_eq rfl⟩, rfl⟩

theorem setBursts_both (east west : Nat) (ws vs : List WakeBurst) (s : State) :
    setBursts .west west (wakeSent vs (setBursts .east east (wakeSent ws s))) = burstsPut east west (ws ++ vs) s := by
  simp [setBursts, wakeSent, burstsPut]

/-- What the wake pattern leaves: the two ports do not see each other. -/
theorem wakeBurst_eq {s : State} (hon : powered s Dom.COH = true) (hkept : kept s (cohOwn s) = true) : wakeBurst s =
    burstsPut (burstNext s .east) (burstNext s .west) (burstSent s .east ++ burstSent s .west) s := by
  have hwest : ∀ n ws, burstNext (setBursts .east n (wakeSent ws s)) .west = burstNext s .west ∧
      burstSent (setBursts .east n (wakeSent ws s)) .west = burstSent s .west := fun _ _ => ⟨rfl, rfl⟩
  rw [wakeBurst, if_pos (by simp [hon, hkept]), List.foldl_cons, List.foldl_cons, List.foldl_nil, burstPort_eq s, burstPort_eq, (hwest _ _).1, (hwest _ _).2,
    setBursts_both]

theorem yields_wakePatternBurst (s : State) : Yields .wakePatternBurst s fun t =>
    let due := fun (p : Port) => powered s Dom.COH && kept s (cohOwn s) && decide (burstsOn s p < 10000) && !(decide (0 < burstsOn s p) && fbit s (portUp p))
    Quiet [] s t ∧
    t.coh.sentWake = s.coh.sentWake ++ ([Port.east, Port.west].filter due).map
      (fun p => ⟨p, 0, 0b10, [0x4B, 0x57, 0x41, 0x4B, 0x0D, 0x00, 0x00, 0x00], 64⟩) ∧
    t.coh = { s.coh with burstsEast := t.coh.burstsEast, burstsWest := t.coh.burstsWest, sentWake := t.coh.sentWake } ∧
    ∀ p, (due p = true → burstsOn t p = burstsOn s p + 1) ∧
      (due p = false → powered s Dom.COH = true → kept s (cohOwn s) = true → 10000 ≤ burstsOn t p) ∧
      (powered s Dom.COH = false ∨ kept s (cohOwn s) = false → burstsOn t p = burstsOn s p) := by
  refine ⟨wakeBurst s, rfl, ?_⟩
  beta_reduce
  intro due
  have hdue : ∀ p, due p = (powered s Dom.COH && kept s (cohOwn s) && burstDue s p) := fun p => by simp only [due, burstDue, Bool.and_assoc]
  by_cases hout : (powered s Dom.COH && kept s (cohOwn s)) = true
  · obtain ⟨hon, hkept⟩ := (Bool.and_eq_true _ _).mp hout
    have hdue' : due = burstDue s := funext fun p => by rw [hdue, hout, Bool.true_and]
    have hbursts : ∀ p, burstsOn (wakeBurst s) p = burstNext s p := fun p => by
      rw [wakeBurst_eq hon hkept]
      cases p <;> rfl
    have hkeeps := burstsPut_keeps (burstNext s .east) (burstNext s .west) (burstSent s .east ++ burstSent s .west) s
    rw [← wakeBurst_eq hon hkept] at hkeeps
    rw [hdue']
    refine ⟨hkeeps.1, ?_, hkeeps.2, fun p => ⟨fun h => ?_, fun h _ _ => ?_, fun h => ?_⟩⟩
    · have hsent : (wakeBurst s).coh.sentWake = s.coh.sentWake ++ (burstSent s .east ++ burstSent s .west) := by
        rw [wakeBurst_eq hon hkept]
        rfl
      rw [hsent]
      congr 1
      unfold burstSent
      cases heast : burstDue s .east <;> cases hwest : burstDue s .west <;> simp [heast, hwest, wakePattern]
    · rw [hbursts, burstNext, if_pos h]
    · rw [hbursts, burstNext, if_neg (by simp [h])]
      exact le_max_left _ _
    · simp [hon, hkept] at h
  · have hidle : wakeBurst s = s := if_neg hout
    have hnot : ∀ p, due p = false := fun p => by
      rw [hdue, Bool.eq_false_of_not_eq_true hout, Bool.false_and]
    rw [hidle]
    refine ⟨⟨rfl, rfl, rfl, fun _ _ => rfl, dramKept_of_eq rfl⟩, ?_, rfl, fun p => ⟨fun h => ?_, fun _ hon hkept => ?_, fun _ => rfl⟩⟩
    · simp [hnot]
    · simp [hnot] at h
    · simp [hon, hkept] at hout

/-! ## O54 -/

/-- Settles O54: ports through `portSync`, reach through `setRing` and `setAlign`, a Roll Call through `rollCallSend_eq`, the wake pattern through
`wakeBurst_eq`. -/
theorem ringIsWatched : Obligations.RingIsWatched := by
  intro s
  refine ⟨yields_cohPortDown s, fun p lane locked => yields_cohLaneLockChange p lane locked, fun p lane locked hoff => ⟨_, rfl, ?_⟩,
    fun i hcore hother => yields_reachExpiry i hcore hother, fun i hidle => ⟨_, rfl, ?_⟩,
    fun i hcore hkept hother => ⟨_, exec_rollCallMiss hcore hkept hother, rfl⟩, fun i hidle => ⟨_, rfl, ?_⟩,
    yields_rollCallSend, fun hidle => ⟨_, rfl, ?_⟩, yields_wakePatternBurst s⟩
  · simp [hoff]
  · rcases hidle with hcore | hown
    · simp [hcore]
    · simp [reachExpiry, hown]
  · rcases hidle with hcore | hkept | hown
    · simp [hcore, raiseIf]
    · simp [hkept, raiseIf]
    · simp [hown, raiseIf]
  · rw [rollCallSend, if_pos]
    rcases hidle with hproctor | hrest | hmode
    · simp [hproctor]
    · simp [hrest]
    · simp [modeIn, hmode]

end Sys2Proof.Machine
end

section
/-!
PROOFS. What an accepted frame leaves (R408, R409), what a step of the counter leaves of the cohort, and the frames that are not taken.
-/

namespace Sys2Proof.Machine

/-! ## Accepted frames -/

/-- The frame's ALIVE is kept. -/
def aliveKept (f : CohFrame) (s : State) : State := updPeer f.src (fun q => { q with alive := some f.alive }) s

/-- The position of the frame is in reach. -/
def reachWith (p : Port) (f : CohFrame) (s : State) : State :=
  setRing (rget s Reg.COH_REACH ||| 1 <<< f.src) (rget s Reg.COH_KEEP) false (setHeard p true (aliveKept f s))

/-- The master is heard again. -/
def masterHeard (f : CohFrame) (s : State) : State :=
  if s.coh.masterLost && saysMaster s f.src then setAlign s.coh.misaligned false s else s

theorem admitFrame_eq (p : Port) (f : CohFrame) (s : State) : admitFrame p f s = forward p f (masterHeard f (reachWith p f s)) := rfl

theorem ringMoved_forward (p : Port) (f : CohFrame) (s : State) : RingMoved s (forward p f s) := by
  unfold forward putFrame
  split
  · split
    · exact ⟨rfl, fun _ _ => rfl, fun _ hn => hn, rfl⟩
    · exact .refl s
  · exact .refl s

theorem ringMoved_masterHeard (f : CohFrame) (s : State) : RingMoved s (masterHeard f s) := by
  unfold masterHeard
  split
  · exact ringMoved_setAlign _ _ s
  · exact .refl s

theorem ringMoved_reachWith (p : Port) (f : CohFrame) (s : State) : RingMoved (aliveKept f s) (reachWith p f s) :=
  (ringMoved_setHeard p true _).trans (ringMoved_setRing _ _ _ _)

theorem ringMoved_admitFrame (p : Port) (f : CohFrame) (s : State) : RingMoved (aliveKept f s) (admitFrame p f s) := by
  rw [admitFrame_eq]
  exact ((ringMoved_reachWith p f s).trans (ringMoved_masterHeard f _)).trans (ringMoved_forward p f _)

theorem forward_regs (p : Port) (f : CohFrame) (s : State) : (forward p f s).regs = s.regs := by
  unfold forward putFrame
  split
  · split <;> rfl
  · rfl

theorem rget_masterHeard (f : CohFrame) (s : State) {k : Nat} (hk : k ≠ Reg.COH_STATUS) : rget (masterHeard f s) k = rget s k := by
  unfold masterHeard
  split
  · exact rget_setAlign _ _ s hk
  · rfl

theorem rget_admitFrame (p : Port) (f : CohFrame) (s : State) {k : Nat} (hk : k ≠ Reg.COH_STATUS) : rget (admitFrame p f s) k = rget (reachWith p f s) k := by
  rw [admitFrame_eq, rget_regs_congr (forward_regs p f _), rget_masterHeard f _ hk]

theorem reach_admitFrame (p : Port) (f : CohFrame) (s : State) : rget (admitFrame p f s) Reg.COH_REACH = rget s Reg.COH_REACH ||| 1 <<< f.src := by
  rw [rget_admitFrame p f s (by decide), reachWith, reach_setRing]

theorem keep_admitFrame (p : Port) (f : CohFrame) (s : State) : rget (admitFrame p f s) Reg.COH_KEEP = rget s Reg.COH_KEEP := by
  rw [rget_admitFrame p f s (by decide), reachWith, keep_setRing]

theorem getLsbD_natCast_shiftLeft (n m : Nat) : (((1 <<< n : Nat) : Word)).getLsbD m = (decide (m < 32) && decide (n = m)) := by
  have hcast : ((1 <<< n : Nat) : Word) = BitVec.ofNat 32 (1 <<< n) := rfl
  rw [hcast, BitVec.getLsbD_ofNat, Nat.one_shiftLeft, Nat.testBit_two_pow]

theorem reachable_admitFrame (p : Port) {f : CohFrame} (s : State) (hsrc : f.src < 32) (k : Nat) :
    reachable (admitFrame p f s) k = (reachable s k || decide (k = f.src)) := by
  rw [reachable, reach_admitFrame, BitVec.getLsbD_or, getLsbD_natCast_shiftLeft, reachable]
  by_cases hk : k = f.src
  · simp [hk, hsrc]
  · have hk' : ¬ f.src = k := fun h => hk h.symm
    simp [hk, hk']

theorem kept_admitFrame (p : Port) (f : CohFrame) (s : State) (k : Nat) : kept (admitFrame p f s) k = kept s k := by
  rw [kept, keep_admitFrame, kept]

/-- A position that is in reach stays there. -/
theorem reach_of_reachable {s : State} {i : Nat} (h : reachable s i = true) : rget s Reg.COH_REACH ||| 1 <<< i = rget s Reg.COH_REACH := by
  apply BitVec.eq_of_getLsbD_eq
  intro k hk
  rw [BitVec.getLsbD_or, getLsbD_natCast_shiftLeft]
  by_cases hki : i = k
  · subst hki
    rw [reachable] at h
    simp [h]
  · simp [hki]

theorem ringWhole_admitFrame (p : Port) {f : CohFrame} {s : State} (hwhole : ringWhole s = true) (hreach : reachable s f.src = true) :
    ringWhole (admitFrame p f s) = true := by
  rw [ringWhole, reach_admitFrame, keep_admitFrame, reach_of_reachable hreach]
  exact hwhole

theorem masterHeard_flow (f : CohFrame) (s : State) : (masterHeard f s).flow = s.flow := by
  unfold masterHeard
  split
  · exact setAlign_flow _ _ s
  · rfl

theorem forward_flow (p : Port) (f : CohFrame) (s : State) : (forward p f s).flow = s.flow := by simp [forward]

/-- In a whole ring a frame of a position in reach asks for no Hold. -/
theorem admitFrame_flow (p : Port) {f : CohFrame} {s : State} (hwhole : ringWhole s = true) (hreach : reachable s f.src = true) :
    (admitFrame p f s).flow = s.flow := by
  have hkeep : rget s Reg.COH_REACH ||| 1 <<< f.src = rget s Reg.COH_KEEP := by
    rw [reach_of_reachable hreach]
    simpa [ringWhole] using hwhole
  rw [admitFrame_eq, forward_flow, masterHeard_flow, reachWith, setRing_flow_of_whole hkeep, setHeard_flow]
  rfl

theorem sent_forward {p : Port} {f : CohFrame} {s : State} (hkind : broadcastKind f.kind = true) (hhops : f.hops + 1 ≠ cohMembers s)
    (hport : portSends s (otherPort p) = true) : (otherPort p, { f with hops := f.hops + 1 }) ∈ (forward p f s).coh.sent := by
  rw [forward, if_pos (by simp [hkind, hhops]), sent_putFrame, if_pos hport]
  simp

theorem sent_admitFrame {p : Port} {f : CohFrame} {s : State} (hkind : broadcastKind f.kind = true) (hhops : f.hops + 1 ≠ cohMembers s)
    (hport : portSends s (otherPort p) = true) : (otherPort p, { f with hops := f.hops + 1 }) ∈ (admitFrame p f s).coh.sent := by
  have hmoved := (ringMoved_reachWith p f s).trans (ringMoved_masterHeard f _)
  have hmembers : cohMembers (masterHeard f (reachWith p f s)) = cohMembers s := hmoved.cohMembers
  have hsends : portSends (masterHeard f (reachWith p f s)) (otherPort p) = true := (hmoved.portSends _).trans hport
  rw [admitFrame_eq]
  exact sent_forward hkind (by rw [hmembers]; exact hhops) hsends

theorem peer_admitFrame (p : Port) (f : CohFrame) (s : State) (k : Nat) :
    peer (admitFrame p f s) k = if k = f.src then { peer s k with alive := some f.alive } else peer s k :=
  ((ringMoved_admitFrame p f s).peer k).trans (peer_updPeer _ _ _ _)

theorem saysMaster_aliveKept (f : CohFrame) (s : State) (j : Nat) : saysMaster (aliveKept f s) j = saysMaster s j :=
  saysMaster_updPeer (g := fun q => { q with alive := some f.alive }) (fun _ => rfl) f.src s j

theorem saysMaster_admitFrame (p : Port) (f : CohFrame) (s : State) (j : Nat) : saysMaster (admitFrame p f s) j = saysMaster s j :=
  ((ringMoved_admitFrame p f s).saysMaster j).trans (saysMaster_aliveKept f s j)

/-! ## Causes stand -/

/-- No cause is cleared. -/
def CausesStand (s t : State) : Prop := ∀ n, hasCause s n = true → hasCause t n = true

theorem CausesStand.trans {s t u : State} (h : CausesStand s t) (h' : CausesStand t u) : CausesStand s u := fun n hn => h' n (h n hn)

theorem causesStand_of_flow {s t : State} (h : t.flow = s.flow) : CausesStand s t := fun n hn => by
  rwa [hasCause, h]

theorem causesStand_partitionAtOnce (s : State) : CausesStand s (partitionAtOnce s) := by
  have hrequest : CausesStand s (requestHold 6 s) := by
    have hset : CausesStand s (setCause 6 s) := fun n hn => by rw [hasCause_setCause (by decide), hn, Bool.true_or]
    have hcancel : CausesStand s (cancelResume (setCause 6 s)) := hset.trans fun n hn => by rwa [hasCause_congr (cancelResume_causes _)]
    unfold requestHold
    dsimp only
    split
    · exact hcancel
    · split
      · exact hcancel
      · exact hcancel
  unfold partitionAtOnce partitionHold
  split
  · split
    · exact hrequest
    · exact causesStand_of_flow rfl
  · exact causesStand_of_flow rfl

theorem causesStand_setRing (reach keep : Word) (anew : Bool) (s : State) : CausesStand s (setRing reach keep anew s) := by
  rw [setRing_told]
  have htold : (masterSync anew (ringTold reach keep anew s)).flow = s.flow := by simp [ringTold, ringPut]
  exact (causesStand_of_flow htold).trans (causesStand_partitionAtOnce _)

theorem causesStand_admitFrame (p : Port) (f : CohFrame) (s : State) : CausesStand s (admitFrame p f s) := by
  have hheard : (setHeard p true (aliveKept f s)).flow = s.flow := setHeard_flow p true _
  have hrest : (admitFrame p f s).flow = (reachWith p f s).flow := by rw [admitFrame_eq, forward_flow, masterHeard_flow]
  exact ((causesStand_of_flow hheard).trans (causesStand_setRing _ _ _ _)).trans (causesStand_of_flow hrest)

/-! ## What a late trigger leaves of the cohort -/

/-- The cohort stands, with the delays of its ports; events may be raised. -/
structure CohortQuiet (s t : State) : Prop where
  coh : t.coh = s.coh
  delay : rget t Reg.COH_DELAY = rget s Reg.COH_DELAY
  events : EventsStand s t

theorem CohortQuiet.trans {s t u : State} (h : CohortQuiet s t) (h' : CohortQuiet t u) : CohortQuiet s u :=
  ⟨h'.coh.trans h.coh, h'.delay.trans h.delay, h.events.trans h'.events⟩

theorem CohortQuiet.refl (s : State) : CohortQuiet s s := ⟨rfl, rfl, fun _ h => h⟩

theorem cohortQuiet_of_eq {s t : State} (hcoh : t.coh = s.coh) (hregs : t.regs = s.regs) (hev : t.ev = s.ev) : CohortQuiet s t :=
  ⟨hcoh, rget_regs_congr hregs _, eventsStand_of_ev hev⟩

theorem cohortQuiet_of_regsKept {ks : List Nat} {s t : State} (hregs : RegsKept ks s t) (hks : Reg.COH_DELAY ∉ ks) (hcoh : t.coh = s.coh) (hev : t.ev = s.ev) :
    CohortQuiet s t := ⟨hcoh, hregs _ hks, eventsStand_of_ev hev⟩

theorem cohortQuiet_fput {f : Field} (h : f.reg ≠ Reg.COH_DELAY) (v : Nat) (s : State) : CohortQuiet s (fput f v s) :=
  cohortQuiet_of_regsKept (ks := [f.reg]) (regsKept_fput List.mem_cons_self v s) (by simpa using h.symm) rfl rfl

theorem cohortQuiet_fputBit {f : Field} (h : f.reg ≠ Reg.COH_DELAY) (n : Nat) (b : Bool) (s : State) : CohortQuiet s (fputBit f n b s) :=
  cohortQuiet_of_regsKept (ks := [f.reg]) (regsKept_fputBit List.mem_cons_self n b s) (by simpa using h.symm) (by simp) (by simp)

theorem cohortQuiet_raiseIf (b : Bool) (n : Nat) (s : State) : CohortQuiet s (raiseIf b n s) :=
  ⟨by simp, rget_raiseIf b n s _, eventsStand_raiseIf b n s⟩

theorem cohortQuiet_dropContents {d : Nat} (hd : d ≠ Dom.COH) (s : State) : CohortQuiet s (dropContents d s) := by
  unfold dropContents
  split
  case h_4 => exact absurd rfl hd
  case h_5 =>
    let v := if s.flow.mode = .rest then s else rpor Reg.TIM_TS_DROP (rpor Reg.TIM_PTP_OFS s)
    have hv : CohortQuiet s v := by
      unfold v
      split
      · exact .refl s
      · exact cohortQuiet_of_regsKept (ks := [Reg.TIM_PTP_OFS, Reg.TIM_TS_DROP])
          ((regsKept_rset (by simp) _ s).trans (regsKept_rset (by simp) _ _)) (by decide) rfl rfl
    exact (hv.trans (cohortQuiet_of_eq (s := v) (t := { v with tim := { v.tim with ts := [] } }) rfl rfl rfl)).trans
      (cohortQuiet_fput (f := Reg.TIM_TS_COUNT_ENTRIES) (by decide) 0 _)
  all_goals exact cohortQuiet_of_eq rfl rfl rfl

theorem cohortQuiet_dropDomain {d : Nat} (hd : d ≠ Dom.COH) (s : State) : CohortQuiet s (dropDomain d s) := by
  have hbanks : ∀ (l : List (Nat × Nat)) (u : State), CohortQuiet u (l.foldl (fun s b => emptyBanks b.1 b.2 s) u) := by
    intro l
    induction l with
    | nil => exact .refl
    | cons b l ih => exact fun u => (cohortQuiet_of_eq (s := u) (t := emptyBanks b.1 b.2 u) rfl rfl rfl).trans (ih _)
  unfold dropDomain
  split
  · have hput := cohortQuiet_fputBit (f := Reg.PWR_STATUS_DOMAINS) (by decide) d false s
    have hdrop : CohortQuiet (fputBit Reg.PWR_STATUS_DOMAINS d false s) (dropRegs d (fputBit Reg.PWR_STATUS_DOMAINS d false s)) :=
      ⟨rfl, highKept_dropRegs [] d _ _ (by decide) (by simp), fun _ h => h⟩
    exact ((hput.trans hdrop).trans (cohortQuiet_dropContents hd _)).trans (hbanks _ _)
  · exact .refl s

theorem cohortQuiet_settleDrop (n : Nat) {d : Nat} (hd : d ≠ Dom.COH) (s : State) : CohortQuiet s (settleDrop n d s) := by
  induction n generalizing d s with
  | zero => exact .refl s
  | succ n ih =>
    unfold settleDrop
    split
    · have hdrop : CohortQuiet s (dropDomain d (notRaised d s)) :=
        (cohortQuiet_of_eq (s := s) (t := notRaised d s) rfl rfl rfl).trans (cohortQuiet_dropDomain hd _)
      dsimp only
      split
      next e he => exact hdrop.trans (ih (domainNeeds_ne_coh he) _)
      · exact hdrop
    · exact .refl s

theorem cohortQuiet_setVote {d : Nat} (hlt : d < 9) (hd : d ≠ Dom.COH) (c : Nat) (on : Bool) (s : State) : CohortQuiet s (setVote d c on s) := by
  have hreg : (Reg.PWR_VOTE_VOTES d).reg ≠ Reg.COH_DELAY := by
    interval_cases d <;> decide
  have hput := cohortQuiet_fputBit hreg c on s
  unfold setVote
  dsimp only
  split
  · rw [raiseDomain_eq]
    split
    · exact hput.trans (cohortQuiet_of_eq rfl rfl rfl)
    · rw [voteAnew_eq]
      exact hput.trans (cohortQuiet_of_eq rfl rfl rfl)
  split
  · refine (hput.trans ?_).trans (cohortQuiet_settleDrop 4 hd _)
    rw [noteWithdrawn_eq]
    exact cohortQuiet_of_eq rfl rfl rfl
  · exact hput

theorem cohortQuiet_closeCheckRun (s : State) : CohortQuiet s (closeCheckRun s) := by
  have hvotes : ∀ u, CohortQuiet u (setVotes [Dom.GATH, Dom.OUT] Client.cal false u) := fun u =>
    (cohortQuiet_setVote (by decide) (by decide) Client.cal false u).trans (cohortQuiet_setVote (by decide) (by decide) Client.cal false _)
  let t : State := { s with health := { s.health with run := none, windows := [] }, shots := (s.shots.map Shot.abandonCheck).filter fun sh => !sh.checkOver }
  have hblank : CohortQuiet s (fput Reg.OUT_STATUS_BLANK 1 t) :=
    (cohortQuiet_of_eq (s := s) (t := t) rfl rfl rfl).trans (cohortQuiet_fput (f := Reg.OUT_STATUS_BLANK) (by decide) 1 t)
  have hoff : ∀ u, CohortQuiet u (fput Reg.OUT_STATUS_SETTLED 0 (fput Reg.OUT_STATUS_EXPOSE_EN 0 { u with out := { u.out with exposeSince := none } })) := fun u => by
    let v : State := { u with out := { u.out with exposeSince := none } }
    exact ((cohortQuiet_of_eq (s := u) (t := v) rfl rfl rfl).trans (cohortQuiet_fput (f := Reg.OUT_STATUS_EXPOSE_EN) (by decide) 0 v)).trans
      (cohortQuiet_fput (f := Reg.OUT_STATUS_SETTLED) (by decide) 0 _)
  unfold closeCheckRun
  dsimp only
  (repeat' split)
  · exact (hblank.trans (hoff _)).trans (hvotes _)
  · exact hblank.trans (hoff _)
  · exact hblank.trans (hvotes _)
  · exact hblank

theorem cohortQuiet_endCheckRun (s : State) : CohortQuiet s (endCheckRun s) := by
  unfold endCheckRun
  split
  · exact cohortQuiet_closeCheckRun s
  · exact .refl s

theorem cohortQuiet_gpioSeen (n : Nat) (rising : Bool) (s : State) : CohortQuiet s (gpioSeen n rising s) := by
  have hend : CohortQuiet s (if !rising && fget s Reg.BHM_CFG_READY_GPIO == n then endCheckRun s else s) := by
    split
    · exact cohortQuiet_endCheckRun s
    · exact .refl s
  unfold gpioSeen
  refine hend.trans ?_
  generalize (if !rising && fget s Reg.BHM_CFG_READY_GPIO == n then endCheckRun s else s) = u
  have hcross : CohortQuiet u (crossPulse 10 (proctorRuns u) u) := by
    unfold crossPulse
    dsimp only
    split
    · exact cohortQuiet_of_eq rfl rfl rfl
    · split
      · exact cohortQuiet_of_eq rfl rfl rfl
      · exact (cohortQuiet_fputBit (f := Reg.CLK_XOVR_FLAGS) (by decide) 10 true u).trans (cohortQuiet_raiseIf true _ _)
  dsimp only
  generalize (powered u Dom.GATH && fbitAt u (if rising then Reg.MON_GPIO_EVT_RISE else Reg.MON_GPIO_EVT_FALL) n) = seen
  cases seen
  · exact .refl u
  · exact hcross.trans (cohortQuiet_raiseIf _ _ _)

theorem cohortQuiet_withPin {n : Nat} {f : State → State} {s : State} (h : CohortQuiet s (f s)) : CohortQuiet s (withPin n f s) := by
  unfold withPin
  dsimp only
  split
  · exact h
  · exact h.trans (cohortQuiet_gpioSeen _ _ _)

theorem cohortQuiet_putTrig (n : Nat) (t : Option Trigger) (s : State) : CohortQuiet s (putTrig n t s) := by
  let u : State := { s with tim := { s.tim with trigs := updAt none s.tim.trigs n fun _ => t } }
  have hput : CohortQuiet s (fputBit Reg.TIM_TRIG_STATUS_ACTIVE n t.isSome u) :=
    (cohortQuiet_of_eq (s := s) (t := u) rfl rfl rfl).trans (cohortQuiet_fputBit (by decide) _ _ u)
  unfold putTrig
  dsimp only
  split
  · exact hput
  · exact hput.trans (cohortQuiet_setVote (by decide) (by decide) _ _ _)

theorem cohortQuiet_missTrig (n : Nat) (s : State) : CohortQuiet s (missTrig n s) :=
  (cohortQuiet_fputBit (f := Reg.TIM_TRIG_STATUS_LATE) (by decide) n true s).trans (cohortQuiet_raiseIf true _ _)

theorem cohortQuiet_startJob (slot : Option (Fin 16)) (lead : Nat) (s : State) : CohortQuiet s (startJob slot lead s) := by
  have hwindow : ∀ i u, CohortQuiet u (openWindow i u) := fun i u => by
    unfold openWindow
    split <;> exact cohortQuiet_of_eq rfl rfl rfl
  have hexpose : ∀ u, CohortQuiet u (exposeOn u) := fun u => by
    unfold exposeOn
    split
    · exact .refl u
    · let v : State := { u with out := { u.out with exposeSince := some (Machine.timeE u) } }
      exact ((cohortQuiet_of_eq (s := u) (t := v) rfl rfl rfl).trans (cohortQuiet_fput (f := Reg.OUT_STATUS_EXPOSE_EN) (by decide) _ v)).trans
        (cohortQuiet_fput (f := Reg.OUT_STATUS_SETTLED) (by decide) _ _)
  have hown : ∀ u, CohortQuiet u (ownStage u) := fun u => by
    let v : State := { u with mot := { u.mot with
      limA := ((segWords u (Reg.MOT_CH_ACT_TARGET_LO 0)).vMax, (segWords u (Reg.MOT_CH_ACT_TARGET_LO 0)).aMax, (segWords u (Reg.MOT_CH_ACT_TARGET_LO 0)).jMax)
      limB := ((segWords u (Reg.MOT_CH_ACT_TARGET_LO 1)).vMax, (segWords u (Reg.MOT_CH_ACT_TARGET_LO 1)).aMax, (segWords u (Reg.MOT_CH_ACT_TARGET_LO 1)).jMax)
      step := 0 } }
    exact ((cohortQuiet_of_eq (s := u) (t := v) rfl rfl rfl).trans (cohortQuiet_fput (f := Reg.MOT_CH_STATUS_OWNED 1) (by decide) 1 v)).trans
      (cohortQuiet_fput (f := Reg.MOT_CH_STATUS_OWNED 0) (by decide) 1 _)
  let u : State := { s with prog := { s.prog with startLead := if lead = 0 then 32 else lead } }
  have hu : CohortQuiet s u := cohortQuiet_of_eq rfl rfl rfl
  exact (((hu.trans (hown u)).trans (hwindow _ _)).trans (hexpose _)).trans (cohortQuiet_of_eq rfl rfl rfl)

theorem cohortQuiet_trigAction (n : Nat) (t : Trigger) (s : State) : CohortQuiet s (trigAction n t s) := by
  unfold trigAction
  split
  · split
    · exact cohortQuiet_missTrig n s
    · exact cohortQuiet_of_eq rfl rfl rfl
  · split
    · exact cohortQuiet_startJob _ _ s
    · exact cohortQuiet_missTrig n s
  · split
    · exact cohortQuiet_missTrig n s
    · exact cohortQuiet_withPin (cohortQuiet_of_eq rfl rfl rfl)
  · exact .refl s

theorem cohortQuiet_oneShotOver (n : Nat) (s : State) : CohortQuiet s (oneShotOver n s) := by
  unfold oneShotOver
  split
  · split
    · exact cohortQuiet_withPin (cohortQuiet_putTrig _ _ _)
    · exact .refl s
  · exact .refl s

theorem cohortQuiet_fireNow (n : Nat) (t : Trigger) (next : Nat) (s : State) : CohortQuiet s (fireNow n t next s) := by
  unfold fireNow
  dsimp only
  split
  · exact (cohortQuiet_trigAction n t s).trans (cohortQuiet_oneShotOver _ _)
  · exact (cohortQuiet_trigAction n t s).trans (cohortQuiet_putTrig _ _ _)

theorem skip_ne_delay (n : Nat) : (Reg.TIM_TRIG_SKIP_COUNT n).reg ≠ Reg.COH_DELAY := by
  change 0x100044 + 0x8 * n ≠ 0xF002C
  omega

theorem cohortQuiet_lateTrigger (s : State) (n : Nat) : CohortQuiet s (lateTrigger s n) := by
  unfold lateTrigger
  split
  case h_1 t ht =>
    split
    · exact .refl s
    · refine CohortQuiet.trans ?_ (cohortQuiet_fireNow _ _ _ _)
      split
      · exact cohortQuiet_missTrig n s
      · exact (cohortQuiet_fput (f := Reg.TIM_TRIG_SKIP_COUNT n) (skip_ne_delay n) _ s).trans (cohortQuiet_missTrig n _)
  case h_2 => exact .refl s

theorem cohortQuiet_lateTriggers (s : State) : CohortQuiet s (lateTriggers s) := by
  have hfold : ∀ (l : List Nat) (u : State), CohortQuiet u (l.foldl lateTrigger u) := by
    intro l
    induction l with
    | nil => exact .refl
    | cons n l ih => exact fun u => (cohortQuiet_lateTrigger u n).trans (ih _)
  exact hfold _ s

theorem cohortQuiet_loadTime (e : Int) (s : State) : CohortQuiet s (loadTime e s).1 := by
  have hput : ∀ (u : State) (v : Int), CohortQuiet u (raise Ev.TIME_STEP (fputInt Reg.TIM_STEP_LAST_NS v u)) := fun u v =>
    (cohortQuiet_fput (f := Reg.TIM_STEP_LAST_NS) (by decide) _ u).trans (cohortQuiet_raiseIf true _ _)
  unfold loadTime
  dsimp only
  refine CohortQuiet.trans ?_ (hput _ _)
  exact cohortQuiet_of_eq rfl rfl rfl

theorem loadTime_raises (e : Int) (s : State) : (loadTime e s).1.ev.bits.getLsbD Ev.TIME_STEP = true := by
  unfold loadTime
  dsimp only
  exact raise_raises (by decide) _

theorem stepTime_steps (e : Int) (s : State) : CohortQuiet s (stepTime e s) ∧ (stepTime e s).ev.bits.getLsbD Ev.TIME_STEP = true := by
  have hlate := cohortQuiet_lateTriggers (loadTime e s).1
  unfold stepTime
  exact ⟨(cohortQuiet_loadTime e s).trans hlate, hlate.events _ (loadTime_raises e s)⟩

/-! ## Frames that are not taken -/

theorem receiveFrame_off {s : State} (p : Port) (f : CohFrame) (h : powered s Dom.COH = false) : receiveFrame p f s = (s, false) := by
  simp [receiveFrame, h]

theorem receiveFrame_unsound {s : State} (p : Port) {f : CohFrame} (hon : powered s Dom.COH = true) (h : frameSound f = false) :
    receiveFrame p f s = (fcount Reg.COH_FRAME_ERR_CRC 1 s, false) := by
  simp [receiveFrame, hon, h]

theorem receiveFrame_foreign {s : State} (p : Port) {f : CohFrame} (hon : powered s Dom.COH = true) (hsound : frameSound f = true)
    (h : f.src = cohOwn s ∨ kept s f.src = false) : receiveFrame p f s = (s, false) := by
  have hforeign : f.src = cohOwn s ∨ (!kept s f.src) = true := by simpa using h
  rw [receiveFrame, hon, hsound, if_neg (by decide), if_neg (by decide), if_pos hforeign]

theorem receiveFrame_old {s : State} (p : Port) {f : CohFrame} {a : Nat} (hon : powered s Dom.COH = true) (hsound : frameSound f = true)
    (hsrc : f.src ≠ cohOwn s) (hkept : kept s f.src = true) (ha : (peer s f.src).alive = some a) (h : 2 ^ 31 ≤ (2 ^ 32 + f.alive - a) % 2 ^ 32) :
    receiveFrame p f s = (fcount Reg.COH_FRAME_ERR_ALIVE 1 s, false) := by
  have hpos : (2 ^ 32 + f.alive - a) % 2 ^ 32 ≠ 0 := by omega
  have hlt : ¬ (2 ^ 32 + f.alive - a) % 2 ^ 32 < 2 ^ 31 := by omega
  simp only [receiveFrame, hon, hsound, hsrc, hkept, ha, hpos, hlt]
  rfl

theorem receiveFrame_again {s : State} (p : Port) {f : CohFrame} {a : Nat} (hon : powered s Dom.COH = true) (hsound : frameSound f = true)
    (hsrc : f.src ≠ cohOwn s) (hkept : kept s f.src = true) (ha : (peer s f.src).alive = some a) (h : (2 ^ 32 + f.alive - a) % 2 ^ 32 = 0) :
    receiveFrame p f s = (s, false) := by
  simp only [receiveFrame, hon, hsound, hsrc, hkept, ha, h]
  rfl

/-- The events of received frames, with the kind that each takes. -/
def frameEvents (p : Port) (f : CohFrame) (req : ReqTimes) (t3 : Nat) : List (Instr × Nat) :=
  [(.rollCallReceived p f, Kind.rollCall), (.timeReqReceived p f req t3, Kind.timeReq), (.timeRespReceived p f t3, Kind.timeResp),
    (.readyReceived p f, Kind.ready), (.goReceived p f, Kind.go), (.armMissFrame p f, Kind.armMiss), (.membershipReceived p f, Kind.membership),
    (.resumeFrameReceived p f, Kind.resume)]

/-- What every event of a received frame has in common, where the frame is no copy of a Roll Call. -/
theorem exec_frameEvent {s : State} {p : Port} {f : CohFrame} {req : ReqTimes} {t3 : Nat} {q : Instr × Nat} (hq : q ∈ frameEvents p f req t3)
    (hcopy : q.2 = Kind.rollCall → rollCallCopy p f s = s) : ∃ act, exec q.1 s = .next (onFrame q.2 p f act s) := by
  simp only [frameEvents, List.mem_cons, List.not_mem_nil, or_false] at hq
  rcases hq with rfl | rfl | rfl | rfl | rfl | rfl | rfl | rfl
  · refine ⟨rollCallAccepted p f, ?_⟩
    have harm : exec (.rollCallReceived p f) s = execRollCallReceived p f s := rfl
    simp [harm, execRollCallReceived, hcopy rfl]
  all_goals exact ⟨_, rfl⟩

theorem onFrame_refused {kind : Nat} {p : Port} {f : CohFrame} {s u : State} (h : receiveFrame p f s = (u, false)) (act : State → State) :
    onFrame kind p f act s = if f.kind = kind then u else s := by
  simp [onFrame, h]

theorem yields_refused {s u : State} {p : Port} {f : CohFrame} {req : ReqTimes} {t3 : Nat} {q : Instr × Nat} (hq : q ∈ frameEvents p f req t3)
    (hcopy : q.2 = Kind.rollCall → rollCallCopy p f s = s) (h : receiveFrame p f s = (u, false)) {post : State → Prop}
    (hpost : post (if f.kind = q.2 then u else s)) : Yields q.1 s post := by
  obtain ⟨act, hexec⟩ := exec_frameEvent hq hcopy
  exact ⟨_, hexec, by rwa [onFrame_refused h act]⟩

/-- A copy comes with the ALIVE of the last frame. -/
theorem rollCallCopy_of_other {s : State} {p : Port} {f : CohFrame}
    (h : frameSound f = false ∨ powered s Dom.COH = false ∨ kept s f.src = false ∨ f.src = cohOwn s ∨ ∀ a, (peer s f.src).alive = some a → a ≠ f.alive) :
    rollCallCopy p f s = s := by
  unfold rollCallCopy
  dsimp only
  split
  · next a hvia halive =>
    rw [if_neg]
    rcases h with h | h | h | h | h
    · simp [h]
    · simp [h]
    · simp [h]
    · simp [h]
    · have hne := h _ halive
      simp [hne]
  · rfl

/-- A frame error is counted, or was not of this kind. -/
theorem counted_frame {f : Field} (hf : f.ok = true) (hreg : f.reg = Reg.COH_FRAME_ERR) (htop : f.top = 65535) (s : State) (c : Prop) [Decidable c] :
    (if c then fcount f 1 s else s).coh = s.coh ∧ Quiet [Reg.COH_FRAME_ERR] s (if c then fcount f 1 s else s) ∧
    fget (if c then fcount f 1 s else s) f = min 65535 (fget s f + if c then 1 else 0) := by
  split
  · refine ⟨rfl, ⟨by simp, by simp, by simp, ?_, dramKept_of_eq (by simp)⟩, ?_⟩
    · exact regsKept_fput (by rw [hreg]; exact List.mem_cons_self) _ s
    · rw [fget_fcount hf, htop]
  · refine ⟨rfl, ⟨rfl, rfl, rfl, fun _ _ => rfl, dramKept_of_eq rfl⟩, ?_⟩
    have hle : fget s f ≤ 65535 := by
      have hlt : fget s f < 2 ^ (f.hi - f.lo + 1) := Nat.mod_lt _ (by positivity)
      rw [← htop, Field.top]
      omega
    rw [Nat.add_zero, min_eq_right hle]

theorem refused_frames {s : State} (p : Port) (f : CohFrame) (hon : powered s Dom.COH = true) : ∀ req t3, ∀ q ∈ frameEvents p f req t3,
    (frameSound f = false → Yields q.1 s fun t => t.coh = s.coh ∧ Quiet [Reg.COH_FRAME_ERR] s t ∧
      fget t Reg.COH_FRAME_ERR_CRC = min 65535 (fget s Reg.COH_FRAME_ERR_CRC + if f.kind = q.2 then 1 else 0)) ∧
    (frameSound f = true → f.src = cohOwn s ∨ kept s f.src = false → Yields q.1 s fun t => t = s) ∧
    (∀ a, frameSound f = true → f.src ≠ cohOwn s → kept s f.src = true → (peer s f.src).alive = some a →
      (2 ^ 31 ≤ (2 ^ 32 + f.alive - a) % 2 ^ 32 → Yields q.1 s fun t => t.coh = s.coh ∧ Quiet [Reg.COH_FRAME_ERR] s t ∧
        fget t Reg.COH_FRAME_ERR_ALIVE = min 65535 (fget s Reg.COH_FRAME_ERR_ALIVE + if f.kind = q.2 then 1 else 0)) ∧
      ((2 ^ 32 + f.alive - a) % 2 ^ 32 = 0 → q.2 ≠ Kind.rollCall → Yields q.1 s fun t => t = s)) := by
  intro req t3 q hq
  refine ⟨fun hsound => ?_, fun hsound hforeign => ?_, fun a hsound hsrc hkept ha => ⟨fun hold => ?_, fun hagain hkind => ?_⟩⟩
  · exact yields_refused hq (fun _ => rollCallCopy_of_other (.inl hsound)) (receiveFrame_unsound p hon hsound) (counted_frame rfl rfl rfl s _)
  · refine yields_refused hq (fun _ => rollCallCopy_of_other ?_) (receiveFrame_foreign p hon hsound hforeign) (by split <;> rfl)
    rcases hforeign with h | h
    · exact .inr (.inr (.inr (.inl h)))
    · exact .inr (.inr (.inl h))
  · refine yields_refused hq (fun _ => rollCallCopy_of_other (.inr (.inr (.inr (.inr fun b hb hcopy => ?_)))))
      (receiveFrame_old p hon hsound hsrc hkept ha hold) (counted_frame rfl rfl rfl s _)
    have hab : a = b := Option.some.inj (ha.symm.trans hb)
    rw [hab, hcopy, Nat.add_sub_cancel] at hold
    simp at hold
  · exact yields_refused hq (fun h => absurd h hkind) (receiveFrame_again p hon hsound hsrc hkept ha hagain) (by split <;> rfl)

set_option Elab.async false in
theorem silent_frames {s : State} (p : Port) (f : CohFrame) (hoff : powered s Dom.COH = false) (req : ReqTimes) (t3 : Nat) :
    ∀ i ∈ [Instr.rollCallReceived p f, .timeReqReceived p f req t3, .timeRespReceived p f t3,
        .readyReceived p f, .goReceived p f, .armMissFrame p f, .membershipReceived p f, .resumeFrameReceived p f], Yields i s fun t => t = s := by
  intro i hi
  have hmem : i ∈ (frameEvents p f req t3).map Prod.fst := hi
  obtain ⟨q, hq, rfl⟩ := List.mem_map.mp hmem
  exact yields_refused hq (fun _ => rollCallCopy_of_other (.inr (.inl hoff))) (receiveFrame_off p f hoff) (by split <;> rfl)

end Sys2Proof.Machine
end

section
/-!
PROOFS. Roll Calls and time requests (O55).
-/

namespace Sys2Proof.Machine

/-! ## Roll Calls -/

/-- The Roll Call is the last record of its position. -/
def rollKept (p : Port) (f : CohFrame) (s : State) : State :=
  updPeer f.src (fun q => { q with roll := some (fword f 0 8, f.epoch, fword f 8 4, fword f 12 4, fword f 16 8), via := some (p, f.hops) }) s

/-- The record stands in the page, and what follows for the ring has acted. -/
def rollTold (p : Port) (f : CohFrame) (s : State) : State :=
  partitionAtOnce (masterSync false (refreshMember f.src (fword f 0 8) f.epoch (fword f 8 4) (rollKept p f s)))

/-- The Roll Call has told where the master is. -/
def rollAligned (f : CohFrame) (s : State) : State := if (fword f 8 4).testBit 10 then setAlign s.coh.misaligned false s else timeSrcSync s

theorem rollCallAccepted_eq (p : Port) (f : CohFrame) (s : State) :
    rollCallAccepted p f s = rejoin (fword f 8 4) f.epoch (rollAligned f (rollTold p f s)) := rfl

theorem ringMoved_rollAligned (f : CohFrame) (s : State) : RingMoved s (rollAligned f s) := by
  unfold rollAligned
  split
  · exact ringMoved_setAlign _ _ s
  · exact ringMoved_timeSrcSync s

theorem rollAligned_flow (f : CohFrame) (s : State) : (rollAligned f s).flow = s.flow := by
  unfold rollAligned
  split
  · exact setAlign_flow _ _ s
  · simp [timeSrcSync]

theorem rget_rollAligned (f : CohFrame) (s : State) {k : Nat} (hk : k ≠ Reg.COH_STATUS) : rget (rollAligned f s) k = rget s k := by
  unfold rollAligned
  split
  · exact rget_setAlign _ _ s hk
  · rw [timeSrcSync, rget_fput, if_neg hk]

theorem sent_rollAligned (f : CohFrame) (s : State) : (rollAligned f s).coh.sent = s.coh.sent := by
  unfold rollAligned
  split
  · rw [setAlign_coh]
  · rw [timeSrcSync_coh]

/-- The record in the page and in the peers, before what follows for the ring. -/
def rollRecorded (p : Port) (f : CohFrame) (s : State) : State := refreshMember f.src (fword f 0 8) f.epoch (fword f 8 4) (rollKept p f s)

theorem ringMoved_rollTold (p : Port) (f : CohFrame) (s : State) : RingMoved (rollRecorded p f s) (rollTold p f s) :=
  (ringMoved_masterSync false _).trans (ringMoved_partitionAtOnce _)

theorem sent_partitionAtOnce (s : State) : (partitionAtOnce s).coh.sent = s.coh.sent := by
  unfold partitionAtOnce partitionHold
  split
  · split
    · rw [requestHold_coh]
    · rfl
  · rfl

theorem sent_rollTold (p : Port) (f : CohFrame) (s : State) : (rollTold p f s).coh.sent = s.coh.sent := by
  rw [rollTold, sent_partitionAtOnce, (masterSync_keeps _ _).1]
  rfl

theorem rget_rollTold (p : Port) (f : CohFrame) (s : State) {k : Nat} (hk : k ∉ Reg.COH_STATUS :: holdRegs) : rget (rollTold p f s) k = rget s k := by
  have hstatus : k ≠ Reg.COH_STATUS := fun h => hk (h ▸ List.mem_cons_self)
  rw [rollTold, regsKept_partitionAtOnce _ k (fun h => hk (List.mem_cons_of_mem _ h)), rget_masterSync _ _ hstatus]
  rfl

theorem ringWhole_congr {s t : State} (hreach : rget t Reg.COH_REACH = rget s Reg.COH_REACH) (hkeep : rget t Reg.COH_KEEP = rget s Reg.COH_KEEP) :
    ringWhole t = ringWhole s := by rw [ringWhole, hreach, hkeep, ringWhole]

theorem rollTold_flow_of_whole (p : Port) (f : CohFrame) {s : State} (h : ringWhole s = true) : (rollTold p f s).flow = s.flow := by
  have hwhole : ringWhole (masterSync false (rollRecorded p f s)) = true := by
    rw [← h]
    exact ringWhole_congr (rget_masterSync _ _ (by decide)) (rget_masterSync _ _ (by decide))
  have htold : rollTold p f s = masterSync false (rollRecorded p f s) := partitionAtOnce_of_whole hwhole
  rw [htold]
  simp [rollRecorded, rollKept, refreshMember, updPeer]

theorem causesStand_rollTold (p : Port) (f : CohFrame) (s : State) : CausesStand s (rollTold p f s) := by
  have hflow : (masterSync false (rollRecorded p f s)).flow = s.flow := by simp [rollRecorded, rollKept, refreshMember, updPeer]
  exact (causesStand_of_flow hflow).trans (causesStand_partitionAtOnce _)

/-- A rejoin ends cause 6 and nothing else. -/
theorem rejoin_cases (st epoch : Nat) (s : State) : (rejoin st epoch s = clearCause 6 s ∧
      (hasCause s 6 && ringWhole s && st.testBit 10 && epoch == (rget s Reg.COH_EPOCH).toNat && digestOk s && !s.coh.removed) = true) ∨
    (rejoin st epoch s = s ∧
      (hasCause s 6 && ringWhole s && st.testBit 10 && epoch == (rget s Reg.COH_EPOCH).toNat && digestOk s && !s.coh.removed) = false) := by
  unfold rejoin
  split
  · next h => exact .inl ⟨rfl, h⟩
  · next h => exact .inr ⟨rfl, Bool.eq_false_of_not_eq_true h⟩

theorem rejoin_keeps (st epoch : Nat) (s : State) : (rejoin st epoch s).coh = s.coh ∧ (rejoin st epoch s).regs = s.regs ∧
    (rejoin st epoch s).job = s.job ∧ (rejoin st epoch s).dram = s.dram := by
  obtain ⟨h, _⟩ | ⟨h, _⟩ := rejoin_cases st epoch s <;> rw [h] <;> exact ⟨rfl, rfl, rfl, rfl⟩

/-- What the ring has of an accepted Roll Call before a rejoin. -/
def rollHeard (p : Port) (f : CohFrame) (s : State) : State := rollAligned f (rollTold p f (admitFrame p f s))

theorem hold6_lt : (6 : Nat) < 32 := by decide

theorem rollCall_accepted {s : State} (p : Port) {f : CohFrame} (h : Acceptable s f) (hkind : f.kind = Kind.rollCall) :
    Yields (.rollCallReceived p f) s fun t =>
      (peer t f.src).roll = some (fword f 0 8, f.epoch, fword f 8 4, fword f 12 4, fword f 16 8) ∧ (peer t f.src).alive = some f.alive ∧
      (peer t f.src).via = some (p, f.hops) ∧ reachable t f.src = true ∧
      (f.hops + 1 ≠ cohMembers s → portSends s (otherPort p) = true → (otherPort p, { f with hops := f.hops + 1 }) ∈ t.coh.sent) ∧
      (ringWhole s = true → reachable s f.src = true → hasCause s 6 = false → t.flow = s.flow) ∧
      (ringWhole s = true → reachable s f.src = true → (fword f 8 4).testBit 10 = true → f.epoch = (rget s Reg.COH_EPOCH).toNat →
        digestOk s = true → s.coh.removed = false → hasCause t 6 = false) ∧
      (s.coh.removed = true → hasCause s 6 = true → hasCause t 6 = true) ∧ t.job = s.job ∧ DramKept s t := by
  let v := admitFrame p f s
  let u := rollHeard p f s
  let t := rejoin (fword f 8 4) f.epoch u
  have hadmit := ringMoved_admitFrame p f s
  have hheard : RingMoved (rollRecorded p f v) u := (ringMoved_rollTold p f v).trans (ringMoved_rollAligned f _)
  obtain ⟨hcoh, hregs, hjob, hdram⟩ := rejoin_keeps (fword f 8 4) f.epoch u
  have hsrc : f.src < 32 := lt_of_kept h.2.2.2.1
  have hpeer : peer t f.src = { peer v f.src with
      roll := some (fword f 0 8, f.epoch, fword f 8 4, fword f 12 4, fword f 16 8), via := some (p, f.hops) } := by
    have hsame : peer t f.src = peer u f.src := by rw [peer, peer, hcoh]
    have hkept : peer (rollRecorded p f v) f.src = peer (rollKept p f v) f.src := rfl
    rw [hsame, hheard.peer, hkept, rollKept, peer_updPeer, if_pos rfl]
  have hregs' : ∀ {k}, k ∉ Reg.COH_STATUS :: holdRegs → rget t k = rget v k := fun {k} hk => by
    have hstatus : k ≠ Reg.COH_STATUS := fun h => hk (h ▸ List.mem_cons_self)
    rw [rget_regs_congr hregs, show rget u k = rget (rollTold p f v) k from rget_rollAligned _ _ hstatus, rget_rollTold p f v hk]
  have hflow : ringWhole s = true → reachable s f.src = true → u.flow = s.flow := fun hwhole hreach => by
    rw [show u.flow = (rollTold p f v).flow from rollAligned_flow _ _, rollTold_flow_of_whole p f (ringWhole_admitFrame p hwhole hreach),
      admitFrame_flow p hwhole hreach]
  have hremoved : u.coh.removed = s.coh.removed := hheard.removed.trans hadmit.removed
  refine ⟨t, ?_, ?_, ?_, ?_, ?_, fun hhops hport => ?_, fun hwhole hreach hcause => ?_, fun hwhole hreach hst hepoch hdigest hrem => ?_,
    fun hrem hcause => ?_, ?_, ?_⟩
  · exact exec_rollCallReceived p h hkind
  · rw [hpeer]
  · rw [hpeer, peer_admitFrame, if_pos rfl]
  · rw [hpeer]
  · rw [reachable, hregs' (by decide), ← reachable, reachable_admitFrame p s hsrc]
    simp
  · have hsent : t.coh.sent = v.coh.sent := by
      rw [hcoh, show u.coh.sent = (rollTold p f v).coh.sent from sent_rollAligned _ _, sent_rollTold]
    rw [hsent]
    exact sent_admitFrame (by rw [hkind]; rfl) hhops hport
  · have hcause' : hasCause u 6 = false := by rw [hasCause, hflow hwhole hreach, ← hasCause, hcause]
    obtain ⟨_, hcond⟩ | ⟨heq, _⟩ := rejoin_cases (fword f 8 4) f.epoch u
    · simp [hcause'] at hcond
    · rw [show t = u from heq, hflow hwhole hreach]
  · obtain ⟨heq, _⟩ | ⟨heq, hcond⟩ := rejoin_cases (fword f 8 4) f.epoch u
    · rw [show t = clearCause 6 u from heq, hasCause_clearCause hold6_lt]
      simp
    · have hwhole' : ringWhole u = true := by
        rw [ringWhole_congr (s := v) ?_ ?_]
        · exact ringWhole_admitFrame p hwhole hreach
        · rw [← rget_regs_congr hregs, hregs' (by decide)]
        · rw [← rget_regs_congr hregs, hregs' (by decide)]
      have hepoch' : rget u Reg.COH_EPOCH = rget s Reg.COH_EPOCH := (hheard.rget (by decide)).trans (hadmit.rget (by decide))
      have hdigest' : digestOk u = true := by
        rw [hheard.digestOk]
        exact hadmit.digestOk.trans hdigest
      rw [show t = u from heq]
      simpa [hwhole', hst, hepoch', ← hepoch, hdigest', hremoved, hrem] using hcond
  · have hcause' : hasCause u 6 = true := by
      have hstand := (causesStand_admitFrame p f s).trans (causesStand_rollTold p f v)
      rw [hasCause, show u.flow = (rollTold p f v).flow from rollAligned_flow _ _, ← hasCause]
      exact hstand 6 hcause
    obtain ⟨_, hcond⟩ | ⟨heq, _⟩ := rejoin_cases (fword f 8 4) f.epoch u
    · simp [hremoved, hrem] at hcond
    · rw [show t = u from heq]
      exact hcause'
  · rw [hjob, hheard.job]
    exact hadmit.job
  · refine dramKept_of_eq ?_
    rw [hdram, hheard.dram]
    exact hadmit.dram

/-! ## Time requests -/

theorem sendNeighbour_eq (p : Port) (kind : Nat) (payload : List Byte) (s : State) :
    ∃ sent alive, sendNeighbour p kind payload s = { s with coh := { s.coh with sent, alive } } := by
  rw [sendNeighbour, sendOwn]
  simp only [List.foldl_cons, List.foldl_nil]
  generalize ((putFrame (ownFrame s kind payload) s p).coh.alive + 1) % 2 ^ 32 = a
  unfold putFrame
  split
  · exact ⟨s.coh.sent ++ [(p, ownFrame s kind payload)], a, rfl⟩
  · exact ⟨s.coh.sent, a, rfl⟩

theorem sent_sendNeighbour {p : Port} (kind : Nat) (payload : List Byte) {s : State} (h : portSends s p = true) :
    (p, ownFrame s kind payload) ∈ (sendNeighbour p kind payload s).coh.sent := by
  have hsent : (sendNeighbour p kind payload s).coh.sent = (putFrame (ownFrame s kind payload) s p).coh.sent := rfl
  rw [hsent, sent_putFrame, if_pos h]
  simp

theorem exec_timeReqReceived {s : State} (p : Port) {f : CohFrame} (req : ReqTimes) (t3 : Nat) (h : Acceptable s f) (hkind : f.kind = Kind.timeReq) :
    exec (.timeReqReceived p f req t3) s = .next (timeResp p req t3 (admitFrame p f s)) := by
  have harm : exec (.timeReqReceived p f req t3) s = execTimeReqReceived p f req t3 s := rfl
  simp [harm, execTimeReqReceived, onFrame, hkind, receiveFrame_of_acceptable p h]

theorem exec_timeRespReceived {s : State} (p : Port) {f : CohFrame} (t4 : Nat) (h : Acceptable s f) (hkind : f.kind = Kind.timeResp) :
    exec (.timeRespReceived p f t4) s = .next (timeRespAccepted p f t4 (admitFrame p f s)) := by
  have harm : exec (.timeRespReceived p f t4) s = execTimeRespReceived p f t4 s := rfl
  simp [harm, execTimeRespReceived, onFrame, hkind, receiveFrame_of_acceptable p h]

/-- The payload of an answer: the three times, the own offset, and what is reserved. -/
def respPayload (req : ReqTimes) (t3 : Nat) (s : State) : List Byte :=
  leBytes 8 (wireTime req.t1) ++ leBytes 8 (wireTime req.t2) ++ leBytes 8 (wireTime t3) ++ leBytes 4 (unsigned 32 (timeOffset s)) ++ leBytes 4 0

theorem length_respPayload (req : ReqTimes) (t3 : Nat) (s : State) : (respPayload req t3 s).length = 8 * 4 := by
  simp [respPayload, length_leBytes]

/-- The first part of a payload. -/
theorem slice_append_left {b : List Byte} {n : Nat} (c : List Byte) (hb : b.length = n) : slice (b ++ c) 0 n = b := by
  subst hb
  simp [slice]

theorem slices_respPayload (req : ReqTimes) (t3 : Nat) (s : State) : slice (respPayload req t3 s) 0 8 = leBytes 8 (wireTime req.t1) ∧
    slice (respPayload req t3 s) 8 8 = leBytes 8 (wireTime req.t2) ∧ slice (respPayload req t3 s) 16 8 = leBytes 8 (wireTime t3) := by
  refine ⟨?_, ?_, ?_⟩
  · simp only [respPayload, List.append_assoc]
    exact slice_append_left _ (length_leBytes 8 _)
  · simp only [respPayload, List.append_assoc]
    exact slice_append_middle _ (length_leBytes 8 _) (length_leBytes 8 _)
  · have hsplit : respPayload req t3 s = (leBytes 8 (wireTime req.t1) ++ leBytes 8 (wireTime req.t2)) ++
        (leBytes 8 (wireTime t3) ++ (leBytes 4 (unsigned 32 (timeOffset s)) ++ leBytes 4 0)) := by
      simp only [respPayload, List.append_assoc]
    rw [hsplit]
    exact slice_append_middle _ (by simp [length_leBytes]) (length_leBytes 8 _)

theorem timeReq_answered {s : State} (p : Port) {f : CohFrame} (h : Acceptable s f) (req : ReqTimes) (t3 : Nat) (hkind : f.kind = Kind.timeReq) :
    Yields (.timeReqReceived p f req t3) s fun t => (peer t f.src).alive = some f.alive ∧
      (portSends s p = true → ∃ g, (p, g) ∈ t.coh.sent ∧ g.kind = Kind.timeResp ∧ g.src = cohOwn s ∧ slice g.payload 0 8 = leBytes 8 (wireTime req.t1) ∧
        slice g.payload 8 8 = leBytes 8 (wireTime req.t2) ∧ slice g.payload 16 8 = leBytes 8 (wireTime t3) ∧ frameSound g = true) ∧
      t.job = s.job ∧ DramKept s t := by
  let v := admitFrame p f s
  have hadmit := ringMoved_admitFrame p f s
  have hsend : timeResp p req t3 v = sendNeighbour p Kind.timeResp (respPayload req t3 v) v := rfl
  obtain ⟨sent, alive, heq⟩ := sendNeighbour_eq p Kind.timeResp (respPayload req t3 v) v
  obtain ⟨hfirst, hsecond, hthird⟩ := slices_respPayload req t3 v
  refine ⟨timeResp p req t3 v, exec_timeReqReceived p req t3 h hkind, ?_, fun hport => ⟨ownFrame v Kind.timeResp (respPayload req t3 v), ?_, rfl, ?_,
    hfirst, hsecond, hthird, frameSound_ownFrame v _ (length_respPayload req t3 v) (by decide)⟩, ?_, ?_⟩
  · have hpeer : peer (timeResp p req t3 v) f.src = peer v f.src := by
      rw [hsend, heq]
      rfl
    rw [hpeer, peer_admitFrame, if_pos rfl]
  · rw [hsend]
    exact sent_sendNeighbour _ _ ((hadmit.portSends p).trans hport)
  · exact hadmit.cohOwn
  · rw [hsend, heq]
    exact hadmit.job
  · refine dramKept_of_eq ?_
    rw [hsend, heq]
    exact hadmit.dram

/-- The request outstanding on a port is noted, or answered. -/
def t1Put (p : Port) (t1 : Option Nat) (s : State) : State :=
  match p with
  | .east => { s with coh := { s.coh with t1East := t1 } }
  | .west => { s with coh := { s.coh with t1West := t1 } }

theorem timeReqSend_eq {s : State} {p : Port} (t1 : Nat) (hup : fbit s (portUp p) = true) (hon : powered s Dom.COH = true) :
    timeReqSend p t1 s = sendNeighbour p Kind.timeReq [] (t1Put p (some t1) s) := by
  unfold timeReqSend
  rw [if_neg (by simp [hup, hon])]
  cases p <;> rfl

theorem timeReq_sent {s : State} {p : Port} (t1 : Nat) (hup : fbit s (portUp p) = true) (hon : powered s Dom.COH = true) :
    Yields (.timeReqSend p t1) s fun t => sentT1 t p = some t1 ∧
      (portSends s p = true → ∃ g, (p, g) ∈ t.coh.sent ∧ g.kind = Kind.timeReq ∧ g.src = cohOwn s ∧ frameSound g = true) ∧ Quiet [] s t := by
  let u := t1Put p (some t1) s
  have hsends : portSends u p = portSends s p := by cases p <;> rfl
  have hown : cohOwn u = cohOwn s := by cases p <;> rfl
  obtain ⟨sent, alive, heq⟩ := sendNeighbour_eq p Kind.timeReq [] u
  refine ⟨timeReqSend p t1 s, rfl, ?_⟩
  rw [timeReqSend_eq t1 hup hon]
  refine ⟨?_, fun hport => ⟨ownFrame u Kind.timeReq [], sent_sendNeighbour _ _ (hsends.trans hport), rfl, hown,
    frameSound_ownFrame u _ (k := 0) rfl (by decide)⟩, ?_⟩
  · rw [heq]
    cases p <;> rfl
  · rw [heq]
    cases p <;> exact ⟨rfl, rfl, rfl, fun _ _ => rfl, dramKept_of_eq rfl⟩

/-! ## Answers -/

theorem sample_eq (src : Nat) (vals : List Int) (s : State) : ∃ mon ev, sample src vals s = { s with mon, ev } := by
  have hfold : ∀ (l : List Nat) (u : State), ∃ mon ev, l.foldl (probeSample src vals) u = { u with mon, ev } := by
    intro l
    induction l with
    | nil => exact fun u => ⟨u.mon, u.ev, rfl⟩
    | cons p l ih =>
      intro u
      obtain ⟨mon, ev, heq⟩ := ih (probeSample src vals u p)
      exact ⟨mon, ev, by rw [List.foldl_cons, heq, probeSample_eq_with_mon_ev]⟩
  unfold sample
  split
  · exact ⟨s.mon, s.ev, rfl⟩
  · exact hfold _ s

theorem eventsStand_sample (src : Nat) (vals : List Int) (s : State) : EventsStand s (sample src vals s) := by
  have hfold : ∀ (l : List Nat) (u : State), EventsStand u (l.foldl (probeSample src vals) u) := by
    intro l
    induction l with
    | nil => exact fun _ _ h => h
    | cons p l ih =>
      intro u
      refine EventsStand.trans ?_ (ih _)
      rw [EventsStand, probeSample_ev]
      intro n hn
      split
      · exact eventsStand_raise _ u n hn
      · exact hn
  unfold sample
  split
  · exact fun _ h => h
  · exact hfold _ s

/-- The samples of a port's delay. -/
def delaySource : Port → Nat
  | .east => Src.cohEast
  | .west => Src.cohWest

/-- A delay has been measured. -/
def measured (p : Port) (delay : Int) (s : State) : State :=
  sample (delaySource p) [delay] (t1Put p none (fputSat (delayField p) delay.toNat s))

/-- The delay that an answer measures, in steps. -/
def respDelay (f : CohFrame) (t1 t4 : Nat) : Int := rndDiv (stepDiff t4 t1 - stepDiff (stepsOf (fword f 16 8)) (stepsOf (fword f 8 8))) 2

/-- The offset to the master that an answer measures, in picoseconds. -/
def respOffset (f : CohFrame) (t1 t4 : Nat) : Int :=
  rndDiv ((stepDiff (stepsOf (fword f 8 8)) t1 + stepDiff (stepsOf (fword f 16 8)) t4) * 25) 2 + signed 32 (fword f 24 4)

theorem timeRespAccepted_some {p : Port} {f : CohFrame} {t1 t4 : Nat} {s : State} (h : sentT1 s p = some t1) : timeRespAccepted p f t4 s =
    if upstream (measured p (respDelay f t1 t4) s) = some p then followMaster (respOffset f t1 t4) (measured p (respDelay f t1 t4) s)
    else measured p (respDelay f t1 t4) s := by
  unfold timeRespAccepted
  rw [h]
  cases p <;> rfl

theorem upstream_congr {s t : State} (hreg : ∀ k ∈ [Reg.COH_CFG, Reg.COH_REACH, Reg.MOT_CHOREO, Reg.PWR_STATUS], rget t k = rget s k)
    (hsaved : t.pwr.saved = s.pwr.saved) (hpeers : ∀ i, (peer t i).via = (peer s i).via ∧ (peer t i).roll = (peer s i).roll) : upstream t = upstream s := by
  have hown : cohOwn t = cohOwn s := fget_congr (hreg _ (by simp))
  have hmaster : isMaster t = isMaster s := by
    rw [isMaster, isMaster, masterBit, masterBit, storedField, storedField, storedReg_congr hsaved (hreg _ (by simp)) (hreg _ (by simp)),
      fget_congr (hreg Reg.COH_CFG (by simp))]
  have hsays : ∀ i, saysMaster t i = saysMaster s i := fun i => by rw [saysMaster, saysMaster, hown, hmaster, (hpeers i).2]
  have hreach : ∀ i, reachable t i = reachable s i := fun i => by rw [reachable, reachable, hreg Reg.COH_REACH (by simp)]
  simp only [upstream, hown, hmaster, hsays, hreach, (hpeers _).1]

theorem measured_keeps (p : Port) (delay : Int) (s : State) : (measured p delay s).coh = (t1Put p none s).coh ∧
    RegsKept [Reg.COH_DELAY] s (measured p delay s) ∧ fget (measured p delay s) (delayField p) = min 65535 delay.toNat ∧
    (measured p delay s).tim = s.tim ∧ (measured p delay s).pwr = s.pwr ∧ (measured p delay s).job = s.job ∧ (measured p delay s).dram = s.dram := by
  obtain ⟨mon, ev, heq⟩ := sample_eq (delaySource p) [delay] (t1Put p none (fputSat (delayField p) delay.toNat s))
  have hregs : ∀ k, rget (measured p delay s) k = rget (fputSat (delayField p) delay.toNat s) k := fun k => by
    rw [measured, heq]
    cases p <;> rfl
  have hok : (delayField p).ok = true ∧ (delayField p).top = 65535 ∧ (delayField p).reg = Reg.COH_DELAY ∧
      (delayField p).hi - (delayField p).lo + 1 = 16 := by cases p <;> decide
  obtain ⟨hok, htop, hreg, hwidth⟩ := hok
  refine ⟨?_, ?_, ?_, ?_⟩
  · rw [measured, heq]
    cases p <;> rfl
  · intro k hk
    rw [hregs]
    exact regsKept_fput (by rw [hreg]; exact List.mem_cons_self) _ s k hk
  · rw [fget_congr (hregs _), fputSat, fget_fput_same _ _ hok, htop, hwidth]
    omega
  · rw [measured, heq]
    cases p <;> exact ⟨rfl, rfl, rfl, rfl⟩

/-- The offset is shown. -/
def offsetShown (ps : Int) (s : State) : State := fputInt Reg.COH_TIME_OFS_PS (sat32 ps) s

/-- The counter steps, is steered, or runs on. -/
theorem followMaster_cases (ps : Int) (s : State) : ∃ u, followMaster ps s = setAlign (decide (2000 < ps.natAbs)) u.coh.masterLost u ∧
    ((1000000 < ps.natAbs ∧ ∃ e, u = stepTime e (offsetShown ps s)) ∨
     (ps.natAbs ≤ 2000 ∧ ∃ inc, u = useFree (setIncrement inc (offsetShown ps s))) ∨
     (ps.natAbs ≤ 1000000 ∧ u = offsetShown ps s)) := by
  refine ⟨_, rfl, ?_⟩
  split
  · next h => exact .inl ⟨h, _, rfl⟩
  · next h =>
    split
    · next h' => exact .inr (.inl ⟨h'.1, _, rfl⟩)
    · exact .inr (.inr ⟨by omega, rfl⟩)

theorem cohortQuiet_offsetShown (ps : Int) (s : State) : CohortQuiet s (offsetShown ps s) := cohortQuiet_fput (f := Reg.COH_TIME_OFS_PS) (by decide) _ s

theorem cohortQuiet_steered (inc : Nat) (s : State) : CohortQuiet s (useFree (setIncrement inc s)) :=
  cohortQuiet_of_regsKept (ks := [Reg.TIM_INC_LO, Reg.TIM_INC_HI])
    ((regsKept_rset (by simp) _ s).trans (regsKept_rset (by simp) _ _) : RegsKept _ s (setIncrement inc s)) (by decide) rfl rfl

theorem sat32_bounds (v : Int) : -2147483648 ≤ sat32 v ∧ sat32 v ≤ 2147483647 := by
  unfold sat32
  omega

/-- A signed value in its range is read back. -/
theorem signed_unsigned_32 {v : Int} (hlo : -2147483648 ≤ v) (hhi : v ≤ 2147483647) : signed 32 (unsigned 32 v) = v := by
  simp only [signed, unsigned]
  omega

theorem fint_offsetShown (ps : Int) (s : State) : fint (offsetShown ps s) Reg.COH_TIME_OFS_PS = sat32 ps := by
  obtain ⟨hlo, hhi⟩ := sat32_bounds ps
  have hget : fget (offsetShown ps s) Reg.COH_TIME_OFS_PS = unsigned 32 (sat32 ps) := by
    rw [offsetShown, fputInt, fget_fput_same _ _ rfl]
    exact Nat.mod_eq_of_lt (by unfold unsigned; omega)
  rw [fint, hget]
  exact signed_unsigned_32 hlo hhi

theorem followMaster_job (ps : Int) (s : State) : (followMaster ps s).job = s.job := by simp

theorem followMaster_dram (ps : Int) (s : State) : (followMaster ps s).dram = s.dram := by simp

theorem offsetShown_tim (ps : Int) (s : State) : (offsetShown ps s).tim = s.tim := by simp [offsetShown]

theorem steered_tim (inc : Nat) (ps : Int) (s : State) : (useFree (setIncrement inc (offsetShown ps s))).tim = s.tim := by
  simp [setIncrement, offsetShown]

/-- What the offset leaves of the cohort and of the counter. -/
theorem followMaster_follows (ps : Int) (s : State) : let t := followMaster ps s
    t.coh = { s.coh with misaligned := decide (2000 < ps.natAbs) } ∧ rget t Reg.COH_DELAY = rget s Reg.COH_DELAY ∧
    (ps.natAbs ≤ 1000000 → t.tim = s.tim ∧ fint t Reg.COH_TIME_OFS_PS = sat32 ps) ∧
    (2000 < ps.natAbs → ps.natAbs ≤ 1000000 → rget t Reg.TIM_INC_LO = rget s Reg.TIM_INC_LO ∧ rget t Reg.TIM_INC_HI = rget s Reg.TIM_INC_HI) ∧
    (1000000 < ps.natAbs → t.ev.bits.getLsbD Ev.TIME_STEP = true) := by
  obtain ⟨u, heq, hcases⟩ := followMaster_cases ps s
  dsimp only
  generalize followMaster ps s = t at heq ⊢
  have halign := ringMoved_setAlign (decide (2000 < ps.natAbs)) u.coh.masterLost u
  have hquiet : CohortQuiet s u := by
    refine (cohortQuiet_offsetShown ps s).trans ?_
    rcases hcases with ⟨_, e, hu⟩ | ⟨_, inc, hu⟩ | ⟨_, hu⟩
    · rw [hu]
      exact (stepTime_steps e _).1
    · rw [hu]
      exact cohortQuiet_steered inc _
    · rw [hu]
      exact .refl _
  have hshown : ∀ {k}, k ≠ Reg.COH_TIME_OFS → rget (offsetShown ps s) k = rget s k := fun {k} hk =>
    regsKept_fput (ks := [Reg.COH_TIME_OFS]) (f := Reg.COH_TIME_OFS_PS) (by simp) _ s k (by simpa using hk)
  have hinc : ∀ inc, fint (useFree (setIncrement inc (offsetShown ps s))) Reg.COH_TIME_OFS_PS = fint (offsetShown ps s) Reg.COH_TIME_OFS_PS := fun inc => by
    have hkept : RegsKept [Reg.TIM_INC_LO, Reg.TIM_INC_HI] (offsetShown ps s) (setIncrement inc (offsetShown ps s)) :=
      (regsKept_rset (by simp) _ _).trans (regsKept_rset (by simp) _ _)
    rw [fint, fint]
    congr 1
    exact fget_congr (hkept _ (by decide))
  have hkept : ∀ {k}, k ≠ Reg.COH_STATUS → rget t k = rget u k := fun {k} hk => by
    rw [heq]
    exact rget_setAlign _ _ u hk
  have htim : t.tim = u.tim := by rw [heq]; exact halign.tim
  have hofs : fint t Reg.COH_TIME_OFS_PS = fint u Reg.COH_TIME_OFS_PS := by
    rw [fint, fint, fget_congr (hkept (by decide))]
  refine ⟨?_, ?_, fun hsmall => ?_, fun hlarge hsmall => ?_, fun hstep => ?_⟩
  · rw [heq, setAlign_coh, hquiet.coh]
  · rw [hkept (by decide), hquiet.delay]
  · rcases hcases with ⟨hbig, _⟩ | ⟨_, inc, hu⟩ | ⟨_, hu⟩
    · omega
    · have hclock : u.tim = s.tim := by rw [hu]; exact steered_tim inc ps s
      exact ⟨htim.trans hclock, hofs.trans ((hu ▸ hinc inc).trans (fint_offsetShown ps s))⟩
    · have hclock : u.tim = s.tim := by rw [hu]; exact offsetShown_tim ps s
      exact ⟨htim.trans hclock, hofs.trans (hu ▸ fint_offsetShown ps s)⟩
  · rcases hcases with ⟨hbig, _⟩ | ⟨htiny, _⟩ | ⟨_, hu⟩
    · omega
    · omega
    · have hsame : ∀ {k}, k ≠ Reg.COH_TIME_OFS → rget u k = rget s k := fun hk => by rw [hu]; exact hshown hk
      exact ⟨(hkept (by decide)).trans (hsame (by decide)), (hkept (by decide)).trans (hsame (by decide))⟩
  · rcases hcases with ⟨_, e, hu⟩ | ⟨htiny, _⟩ | ⟨hsmall, _⟩
    · have hstepped : u.ev.bits.getLsbD Ev.TIME_STEP = true := by rw [hu]; exact (stepTime_steps e _).2
      rw [heq]
      exact halign.events _ hstepped
    · omega
    · omega

theorem sentT1_admitFrame (p q : Port) (f : CohFrame) (s : State) : sentT1 (admitFrame p f s) q = sentT1 s q := by
  have hwire := (ringMoved_admitFrame p f s).wire
  have heast := congrArg Coh.t1East hwire
  have hwest := congrArg Coh.t1West hwire
  cases q
  · exact heast
  · exact hwest

theorem delayField_reg (p : Port) : (delayField p).reg = Reg.COH_DELAY := by cases p <;> rfl

theorem timeResp_ignored {s : State} (p : Port) {f : CohFrame} (h : Acceptable s f) (t4 : Nat) (hkind : f.kind = Kind.timeResp) (hnone : sentT1 s p = none) :
    Yields (.timeRespReceived p f t4) s fun t => (peer t f.src).alive = some f.alive ∧
      fget t (delayField p) = fget s (delayField p) ∧ t.tim = s.tim ∧ t.job = s.job ∧ DramKept s t := by
  have hadmit := ringMoved_admitFrame p f s
  have hidle : timeRespAccepted p f t4 (admitFrame p f s) = admitFrame p f s := by
    unfold timeRespAccepted
    rw [sentT1_admitFrame, hnone]
  refine ⟨admitFrame p f s, (exec_timeRespReceived p t4 h hkind).trans (by rw [hidle]), ?_, ?_, hadmit.tim, hadmit.job, hadmit.dramKept⟩
  · rw [peer_admitFrame, if_pos rfl]
  · exact hadmit.fget (by rw [delayField_reg]; decide)

theorem upstream_measured {s : State} (p : Port) {f : CohFrame} (delay : Int) (hreach : reachable s f.src = true) :
    upstream (measured p delay (admitFrame p f s)) = upstream s := by
  have hadmit := ringMoved_admitFrame p f s
  obtain ⟨hcoh, hregs, -, -, hpwr, -, -⟩ := measured_keeps p delay (admitFrame p f s)
  refine upstream_congr (fun k hk => ?_) (by rw [hpwr, hadmit.pwr]; rfl) fun i => ?_
  · rw [hregs k (by revert k; decide)]
    by_cases hk' : k = Reg.COH_REACH
    · rw [hk', reach_admitFrame, reach_of_reachable hreach]
    · refine hadmit.rget ?_
      simp only [List.mem_cons, List.not_mem_nil, or_false] at hk
      rcases hk with rfl | rfl | rfl | rfl
      · decide
      · exact absurd rfl hk'
      · decide
      · decide
  · have hpeer : peer (measured p delay (admitFrame p f s)) i = peer (admitFrame p f s) i := by
      rw [peer, hcoh]
      cases p <;> rfl
    rw [hpeer, peer_admitFrame]
    split <;> exact ⟨rfl, rfl⟩

theorem timeResp_measured {s : State} (p : Port) {f : CohFrame} (h : Acceptable s f) (t1 t4 : Nat) (hkind : f.kind = Kind.timeResp)
    (hsome : sentT1 s p = some t1) (hreach : reachable s f.src = true) : Yields (.timeRespReceived p f t4) s fun t =>
      sentT1 t p = none ∧ (peer t f.src).alive = some f.alive ∧ fget t (delayField p) =
        min 65535 (rndDiv (stepDiff t4 t1 - stepDiff (stepsOf (fword f 16 8)) (stepsOf (fword f 8 8))) 2).toNat ∧
      (upstream s ≠ some p → t.tim = s.tim) ∧
      (upstream s = some p →
        let ps := rndDiv ((stepDiff (stepsOf (fword f 8 8)) t1 + stepDiff (stepsOf (fword f 16 8)) t4) * 25) 2 + signed 32 (fword f 24 4)
        t.coh.misaligned = decide (2000 < ps.natAbs) ∧ (ps.natAbs ≤ 1000000 → t.tim = s.tim ∧ fint t Reg.COH_TIME_OFS_PS = sat32 ps) ∧
        (2000 < ps.natAbs → ps.natAbs ≤ 1000000 → rget t Reg.TIM_INC_LO = rget s Reg.TIM_INC_LO ∧ rget t Reg.TIM_INC_HI = rget s Reg.TIM_INC_HI) ∧
        (1000000 < ps.natAbs → t.ev.bits.getLsbD Ev.TIME_STEP = true)) ∧
      t.job = s.job ∧ DramKept s t := by
  let v := admitFrame p f s
  let m := measured p (respDelay f t1 t4) v
  have hadmit := ringMoved_admitFrame p f s
  obtain ⟨hcoh, hregs, hdelay, htim, -, hjob, hdram⟩ := measured_keeps p (respDelay f t1 t4) v
  have hup : upstream m = upstream s := upstream_measured p _ hreach
  have heq : timeRespAccepted p f t4 v = if upstream s = some p then followMaster (respOffset f t1 t4) m else m := by
    rw [timeRespAccepted_some ((sentT1_admitFrame p p f s).trans hsome), ← hup]
  have hsent : sentT1 m p = none := by
    have : ∀ u : State, u.coh = (t1Put p none v).coh → sentT1 u p = none := fun u hu => by
      cases p
      · exact congrArg Coh.t1East hu
      · exact congrArg Coh.t1West hu
    exact this m hcoh
  have halive : (peer m f.src).alive = some f.alive := by
    have hpeer : peer m f.src = peer v f.src := by
      rw [peer, hcoh]
      cases p <;> rfl
    rw [hpeer, peer_admitFrame, if_pos rfl]
  refine ⟨_, exec_timeRespReceived p t4 h hkind, ?_⟩
  change (fun t => _) (timeRespAccepted p f t4 v)
  rw [heq]
  by_cases hupstream : upstream s = some p
  · rw [if_pos hupstream]
    obtain ⟨hfcoh, hfdelay, hsmall, hfree, hstep⟩ := followMaster_follows (respOffset f t1 t4) m
    refine ⟨?_, ?_, ?_, fun hne => absurd hupstream hne, fun _ => ?_, ?_, ?_⟩
    · have heast := congrArg Coh.t1East hfcoh
      have hwest := congrArg Coh.t1West hfcoh
      rw [← hsent]
      cases p
      · exact heast
      · exact hwest
    · rw [← halive, peer, hfcoh, peer]
    · refine Eq.trans ?_ hdelay
      exact fget_congr (by rw [delayField_reg]; exact hfdelay)
    · refine ⟨by rw [hfcoh]; rfl, fun h1 => ?_, fun h2 h1 => ?_, hstep⟩
      · exact ⟨(hsmall h1).1.trans (htim.trans hadmit.tim), (hsmall h1).2⟩
      · obtain ⟨hlo, hhi⟩ := hfree h2 h1
        exact ⟨hlo.trans ((hregs _ (by decide)).trans (hadmit.rget (by decide))), hhi.trans ((hregs _ (by decide)).trans (hadmit.rget (by decide)))⟩
    · exact (followMaster_job _ m).trans (hjob.trans hadmit.job)
    · exact dramKept_of_eq ((followMaster_dram _ m).trans (hdram.trans hadmit.dram))
  · rw [if_neg hupstream]
    exact ⟨hsent, halive, hdelay, fun _ => htim.trans hadmit.tim, fun hh => absurd hh hupstream, hjob.trans hadmit.job,
      dramKept_of_eq (hdram.trans hadmit.dram)⟩

/-- Settles O55: a frame that is not taken changes one counter (`refused_frames`); one that is taken goes through `admitFrame`, and its kind
adds what it adds. -/
theorem framesAreAccepted : Obligations.FramesAreAccepted := by
  intro s p f
  refine ⟨refused_frames p f, fun hoff req t3 => silent_frames p f hoff req t3, fun h => ⟨fun hkind => rollCall_accepted p h hkind,
    fun req t3 hkind => timeReq_answered p h req t3 hkind, fun t4 hkind hnone => timeResp_ignored p h t4 hkind hnone,
    fun t1 t4 hkind hsome hreach => timeResp_measured p h t1 t4 hkind hsome hreach⟩, fun t1 hup hon => timeReq_sent t1 hup hon,
    fun t1 hdown => ⟨_, rfl, ?_⟩⟩
  unfold timeReqSend
  rw [if_pos]
  rcases hdown with hup | hoff
  · simp [hup]
  · simp [hoff]

end Sys2Proof.Machine
end

section
/-!
PROOFS. The handshake of the motion master (O56).
-/

namespace Sys2Proof.Machine

/-! ## GO -/

theorem curEntry_congr {s t : State} (hjob : t.job = s.job) (hprog : t.prog = s.prog) : curEntry t = curEntry s := by
  rw [curEntry, curEntry, stripeAt, stripeAt, hjob, hprog]

/-- Whether the master sends GO for the next stripe. -/
def goesFor (s : State) (e : StripeEntry) : Bool :=
  masterBit s && inCohort s && ringWhole s && inState s .write .recess && allReady s e && !goneFor s e

/-- The epoch advances and GO goes out. -/
def goSent (e : StripeEntry) (s : State) : State :=
  goStripe e.layer e.stripe (broadcast Kind.go (stripePayload e) (rset Reg.COH_EPOCH (rget s Reg.COH_EPOCH + 1) s))

theorem tryGo_eq {s : State} {e : StripeEntry} (h : curEntry s = some e) : tryGo s = if goesFor s e then goSent e s else s := by
  unfold tryGo
  rw [h]
  rfl

theorem tryGo_of_not_master {s : State} (h : masterBit s = false) : tryGo s = s := by
  unfold tryGo
  split
  · rw [h]
    rfl
  · rfl

theorem broadcast_eq (kind : Nat) (payload : List Byte) (s : State) : ∃ sent alive, broadcast kind payload s = { s with coh := { s.coh with sent, alive } } := by
  have hput : ∀ (f : CohFrame) (u : State) (p : Port), ∃ sent, putFrame f u p = { u with coh := { u.coh with sent } } := by
    intro f u p
    unfold putFrame
    split
    · exact ⟨_, rfl⟩
    · exact ⟨u.coh.sent, rfl⟩
  obtain ⟨sent1, h1⟩ := hput (ownFrame s kind payload) s .east
  obtain ⟨sent2, h2⟩ := hput (ownFrame s kind payload) (putFrame (ownFrame s kind payload) s .east) .west
  refine ⟨sent2, ((putFrame (ownFrame s kind payload) (putFrame (ownFrame s kind payload) s .east) .west).coh.alive + 1) % 2 ^ 32, ?_⟩
  rw [broadcast, sendOwn]
  simp only [List.foldl_cons, List.foldl_nil]
  generalize ((putFrame (ownFrame s kind payload) (putFrame (ownFrame s kind payload) s .east) .west).coh.alive + 1) % 2 ^ 32 = a
  rw [h2, h1]

theorem length_stripePayload (e : StripeEntry) : (stripePayload e).length = 8 * 1 := by
  simp [stripePayload, length_leBytes]

/-- What a GO of this module's own leaves. -/
theorem goSent_sends (e : StripeEntry) (s : State) : let t := goSent e s
    rget t Reg.COH_EPOCH = rget s Reg.COH_EPOCH + 1 ∧ t.coh.go = some (e.layer, e.stripe, (rget t Reg.COH_EPOCH).toNat) ∧
    (∀ p, portSends s p = true → ∃ f, (p, f) ∈ t.coh.sent ∧ f.kind = Kind.go ∧ f.src = cohOwn s ∧ f.epoch = (rget t Reg.COH_EPOCH).toNat ∧
      f.payload = stripePayload e ∧ frameSound f = true) ∧
    t.coh.peers = s.coh.peers ∧ RegsKept [Reg.COH_EPOCH] s t ∧ t.flow = s.flow ∧ t.job = s.job ∧ t.ev = s.ev ∧ t.dram = s.dram ∧
    t.coh.sent = (broadcast Kind.go (stripePayload e) (rset Reg.COH_EPOCH (rget s Reg.COH_EPOCH + 1) s)).coh.sent := by
  intro t
  let u := rset Reg.COH_EPOCH (rget s Reg.COH_EPOCH + 1) s
  obtain ⟨sent, alive, heq⟩ := broadcast_eq Kind.go (stripePayload e) u
  have hgo : t = goStripe e.layer e.stripe (broadcast Kind.go (stripePayload e) u) := rfl
  have hregs : t.regs = u.regs := by rw [hgo, heq]; rfl
  have hepoch : rget t Reg.COH_EPOCH = rget s Reg.COH_EPOCH + 1 := by rw [rget_regs_congr hregs, rget_rset_same]
  have hsent : t.coh.sent = (broadcast Kind.go (stripePayload e) u).coh.sent := rfl
  have hkept : RegsKept [Reg.COH_EPOCH] s u := regsKept_rset List.mem_cons_self _ s
  refine ⟨hepoch, ?_, fun p hp => ⟨ownFrame u Kind.go (stripePayload e), ?_, rfl, ?_, ?_, rfl, ?_⟩, ?_, ?_, ?_⟩
  · rw [hgo]
    rfl
  · rw [hsent]
    exact sent_broadcast _ _ _ ((portSends_congr (hkept _ (by decide)) (hkept _ (by decide)) rfl p).trans hp)
  · exact hkept.fget (by decide)
  · rw [rget_regs_congr hregs]
    rfl
  · exact frameSound_ownFrame u _ (length_stripePayload e) (by decide)
  · rw [hgo, heq]
    rfl
  · exact (hkept.trans (regsKept_of_eq hregs))
  · rw [hgo, heq]
    exact ⟨rfl, rfl, rfl, rfl, rfl⟩

/-- What has gone out stays on the wire. -/
theorem sent_mem_broadcast {x : Port × CohFrame} {kind : Nat} {payload : List Byte} {s : State} (h : x ∈ s.coh.sent) : x ∈ (broadcast kind payload s).coh.sent := by
  have hsent : (broadcast kind payload s).coh.sent =
      (putFrame (ownFrame s kind payload) (putFrame (ownFrame s kind payload) s .east) .west).coh.sent := rfl
  rw [hsent, sent_putFrame, sent_putFrame]
  simp [h]

/-! ## READY -/

theorem readyToSend_some {s : State} {e : StripeEntry} (h : readyToSend s = some e) :
    curEntry s = some e ∧ inCohort s = true ∧ inState s .write .recess = true ∧ goneFor s e = false := by
  unfold readyToSend at h
  split at h
  · next d hd =>
    split at h
    · next hcond =>
      simp only [Bool.and_eq_true, Bool.not_eq_true'] at hcond
      obtain ⟨⟨⟨⟨⟨⟨⟨hin, hstate⟩, _⟩, _⟩, _⟩, _⟩, _⟩, hgone⟩ := hcond
      have hde : d = e := Option.some.inj h
      exact ⟨hd.trans h, hin, hstate, hde ▸ hgone⟩
    · cases h
  · cases h

/-- A position has said READY for a stripe. -/
def readyKept (i layer stripe : Nat) (s : State) : State := updPeer i (fun q => { q with ready := some (layer, stripe) }) s

theorem ready_readyKept (i layer stripe k : Nat) (s : State) :
    (peer (readyKept i layer stripe s) k).ready = if k = i then some (layer, stripe) else (peer s k).ready := by
  rw [readyKept, peer_updPeer]
  split <;> rfl

theorem readySend_eq {s : State} {e : StripeEntry} (h : readyToSend s = some e) : readySend s =
    tryGo (readyKept (cohOwn s) e.layer e.stripe (broadcast Kind.ready (stripePayload e) s)) := by
  unfold readySend
  rw [h]
  rfl

theorem allReady_readyKept (i : Nat) (s : State) (e : StripeEntry) : allReady (readyKept i e.layer e.stripe s) e =
    (List.range 32).all fun k => !kept s k || decide (k = i) || (peer s k).ready == some (e.layer, e.stripe) := by
  unfold allReady
  congr 1
  funext k
  have hkept : kept (readyKept i e.layer e.stripe s) k = kept s k := rfl
  rw [hkept, ready_readyKept]
  by_cases hk : k = i <;> simp [hk]

theorem readySend_sends {s : State} {e : StripeEntry} (h : readyToSend s = some e) :
    let go := masterBit s && ringWhole s && !goneFor s e &&
      (List.range 32).all fun i => !kept s i || decide (i = cohOwn s) || (peer s i).ready == some (e.layer, e.stripe)
    Yields .readySend s fun t => (peer t (cohOwn s)).ready = some (e.layer, e.stripe) ∧
      (∀ p, portSends s p = true → ∃ f, (p, f) ∈ t.coh.sent ∧ f.kind = Kind.ready ∧ f.src = cohOwn s ∧ f.payload = stripePayload e ∧ frameSound f = true) ∧
      (go = false → rget t Reg.COH_EPOCH = rget s Reg.COH_EPOCH ∧ t.coh.go = s.coh.go) ∧
      (go = true → rget t Reg.COH_EPOCH = rget s Reg.COH_EPOCH + 1 ∧ t.coh.go = some (e.layer, e.stripe, (rget t Reg.COH_EPOCH).toNat) ∧
        ∀ p, portSends s p = true → ∃ f, (p, f) ∈ t.coh.sent ∧ f.kind = Kind.go ∧ f.src = cohOwn s ∧ f.epoch = (rget t Reg.COH_EPOCH).toNat ∧
          f.payload = stripePayload e ∧ frameSound f = true) ∧
      t.flow = s.flow ∧ t.job = s.job ∧ t.ev = s.ev ∧ DramKept s t := by
  intro go
  obtain ⟨hcur, hin, hstate, hgone⟩ := readyToSend_some h
  let v := broadcast Kind.ready (stripePayload e) s
  let w := readyKept (cohOwn s) e.layer e.stripe v
  obtain ⟨sent, alive, heq⟩ := broadcast_eq Kind.ready (stripePayload e) s
  have hpeer : ∀ i, peer v i = peer s i := fun i => by rw [show v = _ from heq]; rfl
  have hrest : w.regs = s.regs ∧ w.flow = s.flow ∧ w.job = s.job ∧ w.ev = s.ev ∧ w.dram = s.dram ∧ w.coh.go = s.coh.go ∧ w.mon = s.mon ∧ w.prog = s.prog ∧
      w.pwr = s.pwr := by
    rw [show w = readyKept (cohOwn s) e.layer e.stripe v from rfl, show v = _ from heq]
    exact ⟨rfl, rfl, rfl, rfl, rfl, rfl, rfl, rfl, rfl⟩
  obtain ⟨hregs, hflow, hjob, hev, hdram, hcgo, hmon, hprog, hpwr⟩ := hrest
  have hreg : ∀ k, rget w k = rget s k := rget_regs_congr hregs
  have hcur' : curEntry w = some e := (curEntry_congr hjob hprog).trans hcur
  have hready : (peer w (cohOwn s)).ready = some (e.layer, e.stripe) := by rw [ready_readyKept, if_pos rfl]
  have hgoes : goesFor w e = go := by
    have hmaster : masterBit w = masterBit s := by
      rw [masterBit, masterBit, storedField, storedField, storedReg_congr (by rw [hpwr]) (hreg _) (hreg _)]
    have hcohort : inCohort w = true := by rw [← hin, inCohort, inCohort, cohMembers, cohMembers, fget_congr (hreg _)]
    have hinstate : inState w .write .recess = true := by rw [← hstate, inState, inState, hflow]
    have hgone' : goneFor w e = goneFor s e := by rw [goneFor, goneFor, hcohort, hin, hcgo, hreg]
    have hkept : ∀ i, kept v i = kept s i := fun i => by rw [show v = _ from heq]; rfl
    have hall := allReady_readyKept (cohOwn s) v e
    simp only [hpeer, hkept] at hall
    rw [goesFor, hmaster, hcohort, ringWhole_congr (hreg _) (hreg _), hinstate, show allReady w e = _ from hall, hgone']
    simp only [go, Bool.and_true]
    ac_rfl
  have hout : ∀ p, portSends s p = true → (p, ownFrame s Kind.ready (stripePayload e)) ∈ w.coh.sent := fun p hp => sent_broadcast _ _ _ hp
  have hsends : ∀ p, portSends w p = portSends s p := fun p => portSends_congr (hreg _) (hreg _) hmon p
  refine ⟨tryGo w, congrArg _ (readySend_eq h), ?_⟩
  rw [tryGo_eq hcur', hgoes]
  cases hcase : go with
  | false =>
    simp only [Bool.false_eq_true, if_false]
    exact ⟨hready, fun p hp => ⟨_, hout p hp, rfl, rfl, rfl, frameSound_ownFrame s _ (length_stripePayload e) (by decide)⟩,
      fun _ => ⟨hreg _, hcgo⟩, False.elim, hflow, hjob, hev, dramKept_of_eq hdram⟩
  | true =>
    obtain ⟨hepoch, hgot, hframes, hpeers, -, htflow, htjob, htev, htdram, htsent⟩ := goSent_sends e w
    have hown : cohOwn w = cohOwn s := fget_congr (hreg _)
    simp only [if_true]
    refine ⟨?_, fun p hp => ⟨_, ?_, rfl, rfl, rfl, frameSound_ownFrame s _ (length_stripePayload e) (by decide)⟩, fun hh => absurd hh (by simp),
      fun _ => ⟨by rw [hepoch, hreg], hgot, fun p hp => ?_⟩, htflow.trans hflow, htjob.trans hjob, htev.trans hev, dramKept_of_eq (htdram.trans hdram)⟩
    · rw [peer, hpeers]
      exact hready
    · rw [htsent]
      exact sent_mem_broadcast (hout p hp)
    · rw [← hown]
      exact hframes p ((hsends p).trans hp)

theorem exec_readyReceived {s : State} (p : Port) {f : CohFrame} (h : Acceptable s f) (hkind : f.kind = Kind.ready) :
    exec (.readyReceived p f) s = .next (tryGo (readyKept f.src (fword f 0 2) (fword f 2 2) (admitFrame p f s))) := by
  have harm : exec (.readyReceived p f) s = execReadyReceived p f s := rfl
  simp [harm, execReadyReceived, onFrame, hkind, receiveFrame_of_acceptable p h, readyKept]

theorem allReady_of_others {s : State} {e : StripeEntry} {i : Nat} (hi : (peer s i).ready = some (e.layer, e.stripe))
    (h : ∀ k, k < 32 → kept s k = true → k ≠ i → (peer s k).ready = some (e.layer, e.stripe)) : allReady s e = true := by
  rw [allReady, List.all_eq_true]
  intro k hk
  have hk' : k < 32 := List.mem_range.mp hk
  by_cases hki : k = i
  · simp [hki, hi]
  · cases hkept : kept s k with
    | false => simp
    | true => simp [h k hk' hkept hki]

theorem ready_received {s : State} (p : Port) {f : CohFrame} (h : Acceptable s f) (hkind : f.kind = Kind.ready) :
    Yields (.readyReceived p f) s fun t => (peer t f.src).ready = some (fword f 0 2, fword f 2 2) ∧
      (peer t f.src).alive = some f.alive ∧ reachable t f.src = true ∧ (masterBit s = false → t.coh.go = s.coh.go) ∧
      (∀ e, masterBit s = true → curEntry s = some e → inCohort s = true → ringWhole s = true → reachable s f.src = true →
        inState s .write .recess = true → goneFor s e = false →
        (∀ i, i < 32 → kept s i = true → i ≠ f.src → (peer s i).ready = some (e.layer, e.stripe)) → fword f 0 2 = e.layer → fword f 2 2 = e.stripe →
        t.coh.go = some (e.layer, e.stripe, (rget t Reg.COH_EPOCH).toNat) ∧ rget t Reg.COH_EPOCH = rget s Reg.COH_EPOCH + 1) ∧
      t.job = s.job ∧ DramKept s t := by
  let v := admitFrame p f s
  let w := readyKept f.src (fword f 0 2) (fword f 2 2) v
  have hadmit := ringMoved_admitFrame p f s
  have hsrc : f.src < 32 := lt_of_kept h.2.2.2.1
  have hready : (peer w f.src).ready = some (fword f 0 2, fword f 2 2) := by rw [ready_readyKept, if_pos rfl]
  have halive : (peer w f.src).alive = some f.alive := by
    have hpeer : peer w f.src = { peer v f.src with ready := some (fword f 0 2, fword f 2 2) } := by rw [show w = readyKept _ _ _ v from rfl, readyKept, peer_updPeer, if_pos rfl]
    rw [hpeer, peer_admitFrame, if_pos rfl]
  have hreach : reachable w f.src = true := by
    have hsame : reachable w f.src = reachable v f.src := rfl
    rw [hsame, reachable_admitFrame p s hsrc]
    simp
  have hmaster : masterBit w = masterBit s := hadmit.masterBit
  have hwgo : w.coh.go = s.coh.go := hadmit.go
  have hkeep : (peer (tryGo w) f.src) = peer w f.src ∧ reachable (tryGo w) f.src = reachable w f.src ∧ (tryGo w).job = w.job ∧ (tryGo w).dram = w.dram := by
    cases hcur : curEntry w with
    | none =>
      have hidle : tryGo w = w := by
        unfold tryGo
        rw [hcur]
      rw [hidle]
      exact ⟨rfl, rfl, rfl, rfl⟩
    | some e =>
      rw [tryGo_eq hcur]
      split
      · obtain ⟨-, -, -, hpeers, hregs, -, hjob, -, hdram, -⟩ := goSent_sends e w
        exact ⟨by rw [peer, hpeers, peer], by rw [reachable, hregs _ (by decide), reachable], hjob, hdram⟩
      · exact ⟨rfl, rfl, rfl, rfl⟩
  obtain ⟨htpeer, htreach, htjob, htdram⟩ := hkeep
  refine ⟨tryGo w, exec_readyReceived p h hkind, by rw [htpeer, hready], by rw [htpeer, halive], by rw [htreach, hreach], fun hno => ?_,
    fun e hyes hcur hin hwhole hreached hstate hgone hothers hlayer hstripe => ?_, htjob.trans hadmit.job, dramKept_of_eq (htdram.trans hadmit.dram)⟩
  · rw [tryGo_of_not_master (hmaster.trans hno), hwgo]
  · have hcur' : curEntry w = some e := by
      rw [← hcur]
      exact hadmit.curEntry
    have hflow : w.flow = s.flow := admitFrame_flow p hwhole hreached
    have hepoch : rget w Reg.COH_EPOCH = rget s Reg.COH_EPOCH := hadmit.rget (by decide)
    have hcohort : inCohort w = inCohort s := hadmit.inCohort
    have hgoes : goesFor w e = true := by
      have hinstate : inState w .write .recess = true := by rw [← hstate, inState, inState, hflow]
      have hwhole' : ringWhole w = true := ringWhole_admitFrame p hwhole hreached
      have hgone' : goneFor w e = false := by rw [← hgone, goneFor, goneFor, hcohort, hwgo, hepoch]
      have hall : allReady w e = true := by
        refine allReady_of_others (i := f.src) (by rw [hready, hlayer, hstripe]) fun k hk hkept hki => ?_
        have hkept' : kept s k = true := (kept_admitFrame p f s k).symm.trans hkept
        rw [ready_readyKept, if_neg hki, peer_admitFrame, if_neg hki]
        exact hothers k hk hkept' hki
      rw [goesFor, hmaster, hyes, hcohort, hin, hwhole', hinstate, hall, hgone']
      rfl
    obtain ⟨htepoch, hgot, -⟩ := goSent_sends e w
    rw [tryGo_eq hcur', hgoes]
    exact ⟨hgot, htepoch.trans (by rw [hepoch])⟩

/-! ## GO received -/

theorem exec_goReceived {s : State} (p : Port) {f : CohFrame} (h : Acceptable s f) (hkind : f.kind = Kind.go) :
    exec (.goReceived p f) s = .next (if saysMaster (admitFrame p f s) f.src then
      goStripe (fword f 0 2) (fword f 2 2) (rset Reg.COH_EPOCH (BitVec.ofNat 32 f.epoch) (admitFrame p f s)) else admitFrame p f s) := by
  have harm : exec (.goReceived p f) s = execGoReceived p f s := rfl
  simp [harm, execGoReceived, onFrame, hkind, receiveFrame_of_acceptable p h, fromMaster]

theorem go_received {s : State} (p : Port) {f : CohFrame} (h : Acceptable s f) (hkind : f.kind = Kind.go) :
    Yields (.goReceived p f) s fun t => (peer t f.src).alive = some f.alive ∧
      (saysMaster s f.src = true → rget t Reg.COH_EPOCH = BitVec.ofNat 32 f.epoch ∧
        t.coh.go = some (fword f 0 2, fword f 2 2, (rget t Reg.COH_EPOCH).toNat)) ∧
      (saysMaster s f.src = false → rget t Reg.COH_EPOCH = rget s Reg.COH_EPOCH ∧ t.coh.go = s.coh.go) ∧
      t.prog = s.prog ∧ t.job = s.job ∧ DramKept s t := by
  have hadmit := ringMoved_admitFrame p f s
  have halive : (peer (admitFrame p f s) f.src).alive = some f.alive := by rw [peer_admitFrame, if_pos rfl]
  refine ⟨_, exec_goReceived p h hkind, ?_⟩
  rw [saysMaster_admitFrame]
  cases hmaster : saysMaster s f.src with
  | true =>
    have hepoch : rget (rset Reg.COH_EPOCH (BitVec.ofNat 32 f.epoch) (admitFrame p f s)) Reg.COH_EPOCH = BitVec.ofNat 32 f.epoch := rget_rset_same _ _ _
    exact ⟨halive, fun _ => ⟨hepoch, rfl⟩, fun hh => absurd hh (by simp), hadmit.prog, hadmit.job, hadmit.dramKept⟩
  | false =>
    exact ⟨halive, fun hh => absurd hh (by simp), fun _ => ⟨hadmit.rget (by decide), hadmit.go⟩, hadmit.prog, hadmit.job, hadmit.dramKept⟩

/-! ## ARM_MISS received -/

/-- What an accepted ARM_MISS does. -/
def armMissed (f : CohFrame) (s : State) : State :=
  match curEntry s with
  | some e => if isMaster s && fword f 0 2 == e.layer && fword f 2 2 == e.stripe && s.flow.mode == .write then repeatApproach s else s
  | none => s

theorem exec_armMissFrame {s : State} (p : Port) {f : CohFrame} (h : Acceptable s f) (hkind : f.kind = Kind.armMiss) :
    exec (.armMissFrame p f) s = .next (armMissed f (admitFrame p f s)) := by
  have harm : exec (.armMissFrame p f) s = execArmMissFrame p f s := rfl
  simp only [harm, execArmMissFrame, onFrame, hkind, receiveFrame_of_acceptable p h, if_true]
  rfl

theorem armMissed_cases (f : CohFrame) (s : State) : armMissed f s = s ∨ armMissed f s = repeatApproach s := by
  unfold armMissed
  split
  · split
    · exact .inr rfl
    · exact .inl rfl
  · exact .inl rfl

theorem armMissed_repeats {f : CohFrame} {s : State} {e : StripeEntry} (hcur : curEntry s = some e) (hmode : s.flow.mode = .write)
    (hmaster : isMaster s = true) (hlayer : fword f 0 2 = e.layer) (hstripe : fword f 2 2 = e.stripe) : armMissed f s = repeatApproach s := by
  simp [armMissed, hcur, hmode, hmaster, hlayer, hstripe]

theorem armMissed_idle {f : CohFrame} {s : State} {e : StripeEntry} (hcur : curEntry s = some e)
    (h : isMaster s = false ∨ fword f 0 2 ≠ e.layer ∨ fword f 2 2 ≠ e.stripe) : armMissed f s = s := by
  unfold armMissed
  rw [hcur]
  refine if_neg ?_
  simp only [Bool.and_eq_true, beq_iff_eq]
  rintro ⟨⟨⟨hmaster, hlayer⟩, hstripe⟩, -⟩
  rcases h with h | h | h
  · simp [h] at hmaster
  · exact h hlayer
  · exact h hstripe

/-- A stop profile touches the channels and the registers alone. -/
theorem stopChan_eq (n : Nat) (s : State) : stopChan n s = { s with regs := (stopChan n s).regs, mot := (stopChan n s).mot } := by
  unfold stopChan
  dsimp only
  split
  · split <;> rfl
  · rfl

theorem chan_updChan (n : Nat) (g : Chan → Chan) (s : State) (m : Nat) : chan (updChan n g s) m = if m = n then g (chan s m) else chan s m :=
  getD_updAt _ _ _ _ _

/-- A channel that was stopped is not moving. -/
theorem stopChan_stops (n : Nat) (s : State) {g : Segment} (h : (chan (stopChan n s) n).seg = some g) : chanState (stopChan n s) n ≠ stMoving := by
  unfold stopChan at h ⊢
  dsimp only at h ⊢
  split at h
  · split at h
    · next hmoving =>
      rw [if_pos hmoving]
      simp only [startProfile, chanState]
      rw [fget_fput_same _ _ rfl]
      change ¬ 2 % 2 ^ 2 = 1
      decide
    · next hmoving =>
      rw [if_neg hmoving]
      exact hmoving
  · next hnone =>
    rw [hnone] at h
    cases h

theorem stopChan_step (n : Nat) (s : State) : (stopChan n s).mot.step = s.mot.step := by
  unfold stopChan
  dsimp only
  split
  · split <;> rfl
  · rfl

theorem unarm_unarms (s : State) : (unarm s).armed = none ∧ (unarm s).flow.job = .recess ∧ (unarm s).prog = s.prog ∧ (unarm s).coh = s.coh ∧
    (unarm s).dram = s.dram ∧ fbit (unarm s) Reg.OUT_STATUS_BLANK = true :=
  ⟨rfl, rfl, rfl, rfl, rfl, fbit_fput_blank _⟩

/-- The stage goes back to the approach. -/
def approachAgain (s : State) : State :=
  { s with mot := { s.mot with step := if (chan s 0).seg.isSome then 3 else 6 }, prog := { s.prog with speed := false } }

theorem repeatApproach_eq (s : State) : repeatApproach s = if s.flow.job = .stripe ∧ (s.armed.isNone ∨ !mayUnarm s) then s
    else approachAgain (stopChan 0 (if s.armed.isSome then unarm s else s)) := rfl

theorem stopped_keeps (s : State) : (approachAgain (stopChan 0 s)).coh = s.coh ∧ (approachAgain (stopChan 0 s)).dram = s.dram ∧
    (approachAgain (stopChan 0 s)).armed = s.armed ∧ (approachAgain (stopChan 0 s)).flow = s.flow ∧
    (approachAgain (stopChan 0 s)).prog = { s.prog with speed := false } := by
  rw [approachAgain, stopChan_eq]
  exact ⟨rfl, rfl, rfl, rfl, rfl⟩

theorem repeatApproach_keeps (s : State) : (repeatApproach s).coh = s.coh ∧ (repeatApproach s).dram = s.dram := by
  rw [repeatApproach_eq]
  split
  · exact ⟨rfl, rfl⟩
  · split
    · obtain ⟨hcoh, hdram, -⟩ := stopped_keeps (unarm s)
      exact ⟨hcoh, hdram⟩
    · obtain ⟨hcoh, hdram, -⟩ := stopped_keeps s
      exact ⟨hcoh, hdram⟩

/-- Between stripes the approach begins again, with channel A stopped. -/
theorem repeatApproach_between {s : State} (hjob : s.flow.job ≠ .stripe) (harmed : s.armed = none) : let t := repeatApproach s
    t.prog = { s.prog with speed := false } ∧ t.mot.step = (if (chan t 0).seg.isSome then 3 else 6) ∧
    ∀ g, (chan t 0).seg = some g → chanState t 0 ≠ stMoving := by
  intro t
  have heq : t = approachAgain (stopChan 0 s) := by
    rw [show t = repeatApproach s from rfl, repeatApproach_eq, if_neg fun h => hjob h.1, harmed]
    rfl
  obtain ⟨-, -, -, -, hprog⟩ := stopped_keeps s
  rw [heq]
  exact ⟨hprog, rfl, fun g hg => stopChan_stops 0 s hg⟩

/-- A stripe that is armed, and that may be, is given up. -/
theorem repeatApproach_unarms {s : State} (harmed : s.armed ≠ none) (hmay : mayUnarm s = true) : let t := repeatApproach s
    t.armed = none ∧ t.flow.job = .recess ∧ t.prog.speed = false ∧ fbit t Reg.OUT_STATUS_BLANK = true := by
  intro t
  have hsome : s.armed.isSome = true := Option.isSome_iff_ne_none.mpr harmed
  have hcond : ¬ (s.flow.job = .stripe ∧ (s.armed.isNone ∨ !mayUnarm s)) := by
    rintro ⟨-, hnone | hnot⟩
    · simp [Option.isNone_iff_eq_none, harmed] at hnone
    · simp [hmay] at hnot
  have heq : t = approachAgain (stopChan 0 (unarm s)) := by
    rw [show t = repeatApproach s from rfl, repeatApproach_eq, if_neg hcond, if_pos hsome]
  obtain ⟨harm, hjob, -, -, -, hblank⟩ := unarm_unarms s
  obtain ⟨-, -, harm', hflow, hprog⟩ := stopped_keeps (unarm s)
  rw [heq]
  refine ⟨harm'.trans harm, (congrArg Flow.job hflow).trans hjob, congrArg (·.speed) hprog, ?_⟩
  rw [← hblank]
  exact (regsKept_stopChan (by decide) (unarm s)).fbit (f := Reg.OUT_STATUS_BLANK) (by decide)

theorem repeatApproach_late {s : State} (hjob : s.flow.job = .stripe) (h : s.armed = none ∨ mayUnarm s = false) : repeatApproach s = s := by
  rw [repeatApproach_eq, if_pos]
  exact ⟨hjob, h.imp (fun h => by simp [h]) fun h => by simp [h]⟩

/-- With no resume in progress an accepted frame leaves the mode, the job state and the resume. -/
theorem admitFrame_flow_of_none (p : Port) (f : CohFrame) {s : State} (h : s.flow.resume = .none) :
    (admitFrame p f s).flow.mode = s.flow.mode ∧ (admitFrame p f s).flow.job = s.flow.job ∧ (admitFrame p f s).flow.resume = .none := by
  have hrest : (admitFrame p f s).flow = (reachWith p f s).flow := by rw [admitFrame_eq, forward_flow, masterHeard_flow]
  let u := masterSync false (ringTold (rget s Reg.COH_REACH ||| 1 <<< f.src) (rget s Reg.COH_KEEP) false (setHeard p true (aliveKept f s)))
  have huflow : u.flow = s.flow := by
    have htold : u.flow = (setHeard p true (aliveKept f s)).flow := by simp [u, ringTold, ringPut]
    rw [htold, setHeard_flow]
    rfl
  have hring : reachWith p f s = partitionAtOnce u := setRing_told _ _ _ _
  obtain ⟨causes, seen, req, heq⟩ := partitionAtOnce_of_none (s := u) (by rw [huflow]; exact h)
  rw [hrest, hring, heq, ← huflow]
  exact ⟨rfl, rfl, by rw [← h, ← huflow]⟩

theorem armMiss_received {s : State} (p : Port) {f : CohFrame} (h : Acceptable s f) (hkind : f.kind = Kind.armMiss) :
    Yields (.armMissFrame p f) s fun t => (peer t f.src).alive = some f.alive ∧ DramKept s t ∧
      (∀ e, curEntry s = some e → s.flow.mode = .write → s.flow.resume = .none →
        (isMaster s = true → fword f 0 2 = e.layer → fword f 2 2 = e.stripe →
          (s.flow.job ≠ .stripe → s.armed = none → t.prog = { s.prog with speed := false } ∧
            t.mot.step = (if (chan t 0).seg.isSome then 3 else 6) ∧ (∀ g, (chan t 0).seg = some g → chanState t 0 ≠ stMoving)) ∧
          (s.armed ≠ none → mayUnarm s = true → t.armed = none ∧ t.flow.job = .recess ∧ t.prog.speed = false ∧
            fbit t Reg.OUT_STATUS_BLANK = true) ∧
          (s.flow.job = .stripe → s.armed = none ∨ mayUnarm s = false → t.mot = s.mot ∧ t.prog = s.prog ∧ t.armed = s.armed)) ∧
        (isMaster s = false ∨ fword f 0 2 ≠ e.layer ∨ fword f 2 2 ≠ e.stripe → t.mot = s.mot ∧ t.prog = s.prog ∧ t.armed = s.armed)) := by
  let v := admitFrame p f s
  have hadmit := ringMoved_admitFrame p f s
  have hmot : v.mot = s.mot := by rw [show v.mot = _ from congrArg State.mot hadmit.rest]; rfl
  have harmed : v.armed = s.armed := by rw [show v.armed = _ from congrArg State.armed hadmit.rest]; rfl
  have hshots : v.shots = s.shots := by rw [show v.shots = _ from congrArg State.shots hadmit.rest]; rfl
  have hprog : v.prog = s.prog := hadmit.prog
  have hcur : curEntry v = curEntry s := hadmit.curEntry
  have hmaster : isMaster v = isMaster s := hadmit.isMaster
  have hmay : mayUnarm v = mayUnarm s := by rw [mayUnarm, mayUnarm, hshots, hprog]
  have halive : (peer v f.src).alive = some f.alive := by rw [peer_admitFrame, if_pos rfl]
  refine ⟨armMissed f v, exec_armMissFrame p h hkind, ?_, ?_, fun e he hmode hresume => ?_⟩
  · obtain heq | heq := armMissed_cases f v
    · rw [heq, halive]
    · rw [heq, peer, (repeatApproach_keeps v).1, ← peer, halive]
  · refine dramKept_of_eq (Eq.trans ?_ hadmit.dram)
    obtain heq | heq := armMissed_cases f v
    · rw [heq]
    · rw [heq, (repeatApproach_keeps v).2]
  · obtain ⟨hvmode, hvjob, -⟩ := admitFrame_flow_of_none p f hresume
    have hcur' : curEntry v = some e := hcur.trans he
    refine ⟨fun hyes hlayer hstripe => ?_, fun hno => ?_⟩
    · rw [armMissed_repeats hcur' (hvmode.trans hmode) (hmaster.trans hyes) hlayer hstripe]
      refine ⟨fun hjob hnone => ?_, fun hsome hmayu => ?_, fun hjob hlate => ?_⟩
      · obtain ⟨hp, hrest⟩ := repeatApproach_between (s := v) (by rw [hvjob]; exact hjob) (harmed.trans hnone)
        exact ⟨by rw [hp, hprog], hrest⟩
      · exact repeatApproach_unarms (s := v) (by rw [harmed]; exact hsome) (hmay.trans hmayu)
      · rw [repeatApproach_late (s := v) (hvjob.trans hjob) (by rw [harmed, hmay]; exact hlate)]
        exact ⟨hmot, hprog, harmed⟩
    · rw [armMissed_idle hcur' (by rw [hmaster]; exact hno)]
      exact ⟨hmot, hprog, harmed⟩

/-- Settles O56: READY ends in `tryGo`, which is one `goSent` where every member is ready; ARM_MISS ends in `repeatApproach`, by its three cases. -/
theorem membersAgree : Obligations.MembersAgree := by
  intro s
  refine ⟨fun hnone => ⟨_, rfl, ?_⟩, fun e he => readySend_sends he, fun p f h => ⟨ready_received p h, go_received p h, armMiss_received p h⟩⟩
  unfold readySend
  rw [hnone]

end Sys2Proof.Machine
end

section
/-!
PROOFS. Writes of the memories, and what settling shots leaves of the module (R269 to R278).
-/

namespace Sys2Proof.Machine

/-! ## Writes -/

theorem memoryOnly_writeUnit (port a n u : Nat) (s : State) : MemoryOnly s (writeUnit port a n u s) := by
  unfold writeUnit
  split
  · exact .refl s
  · dsimp only
    refine MemoryOnly.trans ?_ (memoryOnly_inject _ _ _)
    have hread : MemoryOnly s (if decide (a ≤ u * 64 ∧ u * 64 + 64 ≤ a + n) = true then s else readUnit port u s) := by
      split
      · exact .refl s
      · exact memoryOnly_readUnit port u s
    exact (hread.trans (memoryOnly_accessUnit true u _)).trans (memoryOnly_ecc _ _)

theorem memoryOnly_validatePages (lo hi : Nat) (s : State) : MemoryOnly s (validatePages lo hi s) := memoryOnly_ecc _ s

theorem memoryOnly_writeUnits {port : Nat} (hp : port < 16) (a n : Nat) (s : State) : MemoryOnly s (writeUnits port a n s) := by
  unfold writeUnits
  split
  · exact .refl s
  · have hparts : ∀ (ps : List (Nat × Nat)) (v : State), MemoryOnly v (ps.foldl (fun s p => (unitsOf p.1 p.2).foldl (fun s u => writeUnit port p.1 p.2 u s) s) v) :=
      fun ps v => memoryOnly_foldl (fun q _ u => memoryOnly_foldl (fun w _ v => memoryOnly_writeUnit port q.1 q.2 w v) u) v
    exact ((memoryOnly_countUrgent hp (unitsOf a n).length s).trans (memoryOnly_validatePages (a / 4096) ((a + n - 1) / 4096 + 1) _)).trans (hparts _ _)

/-! ## The Absence Log at work -/

/-- The registers of the log, of the memories, and those that a Hold may change. -/
def logReg (k : Nat) : Prop := k / 65536 = 0x9 ∨ k / 65536 = 0xB ∨ k / 65536 = 0xC ∨ k = Reg.GTH_CLIP ∨ k ∈ holdRegs

/-- Shots settle: the log is written, a Hold may be asked for when it is full, and the rest of the module stands. -/
structure Settling (s t : State) : Prop where
  rest : t = { s with
    regs := t.regs, flow := t.flow, ev := t.ev, mail := t.mail, coh := t.coh, hbm := t.hbm, ecc := t.ecc, free := t.free, abs := t.abs, shots := t.shots }
  regs : ∀ k, ¬ logReg k → rget t k = rget s k
  events : EventsStand s t
  causes : ∀ n, n ≠ 9 → hasCause t n = hasCause s n
  wire : t.coh = { s.coh with sentHold := t.coh.sentHold }

theorem Settling.refl (s : State) : Settling s s := ⟨rfl, fun _ _ => rfl, fun _ h => h, fun _ _ => rfl, rfl⟩

theorem Settling.trans {s t u : State} (h : Settling s t) (h' : Settling t u) : Settling s u :=
  ⟨by rw [h'.rest, h.rest], fun k hk => (h'.regs k hk).trans (h.regs k hk), h.events.trans h'.events,
    fun n hn => (h'.causes n hn).trans (h.causes n hn), by rw [h'.wire, h.wire]⟩

theorem settling_foldl {β : Type} {g : State → β → State} (h : ∀ s x, Settling s (g s x)) (l : List β) (s : State) : Settling s (l.foldl g s) := by
  induction l generalizing s with
  | nil => exact .refl s
  | cons x l ih => exact (h s x).trans (ih _)

theorem MemoryOnly.settling {s t : State} (h : MemoryOnly s t) : Settling s t where
  rest := by rw [h.rest]
  regs k hk := h.regs k (fun hb => hk (.inr (.inl hb))) fun hc => hk (.inr (.inr (.inl hc)))
  events := h.events
  causes n _ := by rw [hasCause, h.rest]; rfl
  wire := by rw [h.rest]

theorem settling_fput {f : Field} (h : logReg f.reg) (v : Nat) (s : State) : Settling s (fput f v s) :=
  ⟨rfl, fun k hk => by rw [rget_fput, if_neg fun hf : k = f.reg => hk (hf ▸ h)], fun _ hn => hn, fun _ _ => rfl, rfl⟩

theorem settling_raise (n : Nat) (s : State) : Settling s (raise n s) := (memoryOnly_raise n s).settling

theorem settling_abs (a : Abs) (s : State) : Settling s { s with abs := a } := ⟨rfl, fun _ _ => rfl, fun _ hn => hn, fun _ _ => rfl, rfl⟩

theorem settling_shots (sh : List Shot) (s : State) : Settling s { s with shots := sh } := ⟨rfl, fun _ _ => rfl, fun _ hn => hn, fun _ _ => rfl, rfl⟩

theorem requestHold_causes (n : Nat) (s : State) : (requestHold n s).flow.causes = (setCause n s).flow.causes := by
  have h : (cancelResume (setCause n s)).flow.causes = (setCause n s).flow.causes := cancelResume_causes _
  unfold requestHold
  dsimp only
  split
  · exact h
  · split
    · exact h
    · exact h

theorem settling_requestHold (s : State) : Settling s (requestHold 9 s) where
  rest := by
    have h := holdOnly_requestHold 9 s
    rw [h]
  regs k hk := regsKept_requestHold 9 s k fun hh => hk (.inr (.inr (.inr (.inr hh))))
  events := eventsStand_requestHold 9 s
  causes n hn := by
    rw [hasCause_congr (requestHold_causes 9 s), hasCause_setCause (by decide)]
    simp [hn.symm]
  wire := requestHold_coh 9 s

theorem settling_clearCause (s : State) : Settling s (clearCause 9 s) :=
  ⟨rfl, fun _ _ => rfl, fun _ hn => hn, fun n hn => by rw [hasCause_clearCause (by decide)]; simp [hn.symm], rfl⟩

theorem settling_absReserve (s : State) : Settling s (absReserve s) := by
  have hput : ∀ v, Settling s (fput Reg.ABS_STATUS_RESERVE v s) := fun v => settling_fput (.inl (by decide)) v s
  unfold absReserve
  split
  · exact ((hput 1).trans (settling_requestHold _)).trans (settling_raise _ _)
  · split
    · exact (hput 0).trans (settling_clearCause _)
    · exact .refl s

theorem settling_absShowLost (s : State) : Settling s (absShowLost s) := by
  have hput : ∀ {f : Field} (_ : f.reg / 65536 = 9) (v : Nat) (u : State), Settling s u → Settling s (fput f v u) := fun hf v u hu =>
    hu.trans (settling_fput (.inl hf) v u)
  unfold absShowLost
  split <;> exact hput (by decide) _ _ (hput (by decide) _ _ (hput (by decide) _ _ (hput (by decide) _ _ (hput (by decide) _ _ (.refl s)))))

theorem settling_absSync (s : State) : Settling s (absSync s) := by
  have hput : ∀ {f : Field} (_ : f.reg / 65536 = 9) (v : Nat) (u : State), Settling s u → Settling s (fput f v u) := fun hf v u hu =>
    hu.trans (settling_fput (.inl hf) v u)
  exact ((hput (f := Reg.ABS_UNREC_ENTRIES) (by decide) _ _ (hput (f := Reg.ABS_OPEN_ENTRIES) (by decide) _ _
    (hput (f := Reg.ABS_FREE_SLOTS) (by decide) _ _ (.refl s)))).trans (settling_absShowLost _)).trans (settling_absReserve _)

theorem settling_absWrite (e : AbsEntry) (s : State) : Settling s (absWrite e s) := by
  have hentries : (Reg.ABS_ENTRIES_COUNT e.reason.code).reg / 65536 = 9 := by cases e.reason <;> decide
  have hwrite : Settling s (writeUnits Port.log (absAddr (fget s Reg.ABS_HEAD_INDEX)) 32 s) := (memoryOnly_writeUnits (by decide) _ _ s).settling
  exact ((hwrite.trans (settling_abs _ _)).trans (settling_fput (f := Reg.ABS_HEAD_INDEX) (.inl (by decide)) _ _)).trans
    (settling_fput (.inl hentries) _ _)

theorem settling_absPlace (e : AbsEntry) (s : State) : Settling s (absPlace e s) := by
  unfold absPlace
  split
  · split
    · exact settling_abs _ s
    · exact settling_abs _ s
  · split
    · exact settling_absWrite e s
    · split
      · exact settling_abs _ s
      · exact (settling_abs _ s).trans (settling_raise _ _)

theorem settling_absMakeRoom (room n : Nat) (s : State) : Settling s (absMakeRoom room n s) := by
  induction n generalizing s with
  | zero => exact .refl s
  | succ n ih =>
    unfold absMakeRoom
    split
    · exact .refl s
    · split
      · exact ((settling_abs _ s).trans (settling_absPlace _ _)).trans (ih _)
      · exact .refl s

theorem settling_absAppend (e : AbsEntry) (s : State) : Settling s (absAppend e s) :=
  (settling_absPlace e s).trans (settling_absMakeRoom _ _ _)

theorem settling_absCloseWhere (p : AbsEntry → Bool) (s : State) : Settling s (absCloseWhere p s) :=
  (settling_abs _ s).trans (settling_foldl (fun u e => settling_absAppend e u) _ _)

theorem settling_absOpen (e : AbsEntry) (s : State) : Settling s (absOpen e s) :=
  ((settling_absMakeRoom _ _ s).trans (memoryOnly_writeSram _ _ _).settling).trans (settling_abs _ _)

theorem settling_absJoin (e : AbsEntry) (s : State) : Settling s (absJoin e s) := by
  unfold absJoin
  dsimp only
  split
  · exact settling_abs _ s
  · exact settling_absOpen e s

theorem settling_absForm (e : AbsEntry) (s : State) : Settling s (absForm e s) := by
  unfold absForm
  split
  · split
    · exact settling_abs _ s
    · exact settling_absJoin e s
  · exact settling_absJoin e s

theorem settling_absFormShot (sh : Shot) (s : State) : Settling s (absFormShot sh s) := by
  have hclips : Settling s (countClips sh s) := settling_fput (.inr (.inr (.inr (.inl rfl)))) _ s
  unfold absFormShot
  split
  · exact (settling_absForm _ s).trans (settling_absCloseWhere _ _)
  · split
    · exact (hclips.trans (settling_foldl (fun u e => settling_absForm e u) _ _)).trans (settling_absCloseWhere _ _)
    · exact .refl s

theorem settling_absSettle (sh : Shot) (s : State) : Settling s (absSettle sh s) :=
  ((settling_absCloseWhere _ s).trans (settling_absFormShot sh _)).trans (settling_absSync _)

theorem settling_absLastShot (sh : Shot) (s : State) : Settling s (absLastShot sh s) := by
  unfold absLastShot
  split
  · exact (settling_absCloseWhere _ s).trans (settling_absSync _)
  · exact .refl s

theorem settling_absLeave (s : State) : Settling s (absLeave s) := by
  unfold absLeave
  split
  · exact .refl s
  · exact (settling_absCloseWhere _ s).trans (settling_absSync _)

theorem settling_settleLoop (n : Nat) (s : State) : Settling s (settleLoop n s) := by
  induction n generalizing s with
  | zero => exact .refl s
  | succ n ih =>
    unfold settleLoop
    split
    · split
      · exact (((settling_shots _ s).trans (settling_absSettle _ _)).trans (settling_absLastShot _ _)).trans (ih _)
      · exact .refl s
    · exact .refl s

set_option Elab.async false in
theorem settling_settleAll (s : State) : Settling s (settleAll s) := settling_settleLoop _ s

end Sys2Proof.Machine
end

section
/-!
PROOFS. Membership, Hold sets and RESUME on the ring (O57).
-/

namespace Sys2Proof.Machine

/-! ## What the close of a stripe leaves of the cohort -/

/-- Of the cohort only the Hold sets on the wire may have changed. -/
def WireOnly (s t : State) : Prop := t.coh = { s.coh with sentHold := t.coh.sentHold }

theorem WireOnly.trans {s t u : State} (h : WireOnly s t) (h' : WireOnly t u) : WireOnly s u := by
  unfold WireOnly at *
  rw [h', h]

theorem wireOnly_of_coh {s t : State} (h : t.coh = s.coh) : WireOnly s t := by
  rw [WireOnly, h]

theorem Settling.wireOnly {s t : State} (h : Settling s t) : WireOnly s t := h.wire

theorem startBand_coh (s : State) : (startBand s).coh = s.coh := by
  unfold startBand
  split <;> rfl

theorem giveTile_coh (s : State) : (giveTile s).coh = s.coh := by
  unfold giveTile
  split <;> rfl

theorem fillCells_coh (n : Nat) (s : State) : (fillCells n s).coh = s.coh := by
  induction n generalizing s with
  | zero => rfl
  | succ n ih =>
    unfold fillCells
    split
    · rfl
    · split
      · rw [ih, giveTile_coh]
      · split
        · rw [ih, startBand_coh]
        · rfl

theorem rasterStart_coh (s : State) : (rasterStart s).coh = s.coh := by
  have hsync : ∀ u, (rasterSync u).coh = u.coh := fun _ => rfl
  unfold rasterStart
  rw [hsync]
  split
  · exact fillCells_coh _ s
  · rfl

theorem MemoryOnly.coh {s t : State} (h : MemoryOnly s t) : t.coh = s.coh := by rw [h.rest]

theorem fput_coh (f : Field) (v : Nat) (s : State) : (fput f v s).coh = s.coh := rfl

theorem returnQueue_coh (i j : Nat) (s : State) : (returnQueue i j s).coh = s.coh := by
  unfold returnQueue queueSync
  rw [fput_coh]

theorem finishBand_coh (c : Render) (rest : List Render) (s : State) : (finishBand c rest s).coh = s.coh := by
  have hstored : ∀ (a b m n : Nat), (writeUnits Port.bandWrite b n (writeUnits Port.bandWrite a m s)).coh = s.coh := fun _ _ _ _ =>
    ((memoryOnly_writeUnits (by decide) _ _ s).trans (memoryOnly_writeUnits (by decide) _ _ _)).coh
  unfold finishBand
  simp only [returnQueue_coh, hstored]

theorem promote_coh (s : State) : (promote s).coh = s.coh := by
  unfold promote
  split
  · split
    · exact finishBand_coh _ _ s
    · rfl
  · rfl

theorem leadTo_coh (left : Nat) (s : State) : (leadTo left s).coh = s.coh := by
  have hsample : ∀ src vals (u : State), (sample src vals u).coh = u.coh := fun src vals u => by
    obtain ⟨mon, ev, heq⟩ := sample_eq src vals u
    rw [heq]
  unfold leadTo
  dsimp only
  split
  · rfl
  · rw [(ringMoved_raiseIf _ _ _).wire]
    simp [hsample]

theorem dropStripe_coh (i : Nat) (s : State) : (dropStripe i s).coh = s.coh := by
  have hgo : ∀ u, (rasterGo u).coh = u.coh := fun u => by rw [rasterGo, rasterStart_coh, promote_coh, promote_coh]
  have hqueue : ∀ u, (queueSync u).coh = u.coh := fun _ => rfl
  unfold dropStripe
  rw [hgo, hqueue, leadTo_coh]

theorem openNext_coh (s : State) : (openNext s).coh = s.coh := by
  unfold openNext openWindow
  split
  · rfl
  · split <;> rfl

theorem wireOnly_leaveStripe (s : State) : WireOnly s (leaveStripe s) := by
  have hleave := (wireOnly_of_coh (dropStripe_coh s.prog.cur s)).trans (settling_absLeave (dropStripe s.prog.cur s)).wireOnly
  refine hleave.trans (wireOnly_of_coh ?_)
  unfold leaveStripe
  have hrecess : ∀ u, (openRecess u).coh = u.coh := fun _ => rfl
  rw [hrecess]
  simp [openNext_coh, passStripe]

theorem wireOnly_closeStripe (s : State) : WireOnly s (closeStripe s) := by
  unfold closeStripe
  split
  · next a e _ _ =>
    have hclose : (disarm { closeShots a e s with win := Window.closed }).coh = s.coh := by
      simp [disarm, closeShots]
    exact ((wireOnly_of_coh hclose).trans (wireOnly_leaveStripe _)).trans (settling_settleAll _).wireOnly
  · split
    · exact wireOnly_leaveStripe s
    · exact wireOnly_of_coh rfl

theorem wireOnly_beginResume (slot : Option (Fin 16)) (s : State) : WireOnly s (beginResume slot s) := by
  have hclear : (clearHostHold s).coh = s.coh := by
    unfold clearHostHold
    dsimp only
    split <;> rfl
  unfold beginResume
  dsimp only
  split
  · split
    · let u := closeStripe (clearHostHold s)
      let v : State := { u with flow := { u.flow with mode := .write, seen := u.flow.causes, holdReq := false } }
      have hu : WireOnly s u := (wireOnly_of_coh hclear).trans (wireOnly_closeStripe _)
      have hv : WireOnly u v := wireOnly_of_coh rfl
      have hpart : ∀ w, WireOnly w (partitionAtOnce w) := fun w => by
        unfold partitionAtOnce partitionHold
        split
        · split
          · exact requestHold_coh 6 w
          · exact wireOnly_of_coh rfl
        · exact wireOnly_of_coh rfl
      exact ((hu.trans hv).trans (wireOnly_of_coh (completeOpt_coh slot .ok [] v))).trans (hpart _)
    · exact wireOnly_of_coh hclear
  · exact wireOnly_of_coh hclear

/-! ## MEMBERSHIP -/

theorem leNat_lt (bs : List Byte) : leNat bs < 256 ^ bs.length := by
  induction bs with
  | nil => simp [leNat]
  | cons b bs ih =>
    have hb : b.toNat < 256 := b.isLt
    rw [leNat, List.length_cons, pow_succ]
    omega

theorem fword_lt (f : CohFrame) (off k : Nat) : fword f off k < 256 ^ k := by
  have hlen : (slice f.payload off k).length ≤ k := by
    simp only [slice, List.length_append, List.length_take, List.length_replicate]
    omega
  exact lt_of_lt_of_le (leNat_lt _) (Nat.pow_le_pow_right (by decide) hlen)

theorem length_membershipPayload (keep : Word) : (membershipPayload keep).length = 8 * 1 := by
  simp [membershipPayload, length_leBytes]

/-- What a MEMBERSHIP of one's own says. -/
theorem fword_membership (s : State) (keep : Word) : fword (ownFrame s Kind.membership (membershipPayload keep)) 0 4 = keep.toNat := by
  have hslice : slice (membershipPayload keep) 0 4 = leBytes 4 keep.toNat := slice_append_left _ (length_leBytes 4 _)
  change leNat (slice (membershipPayload keep) 0 4) = keep.toNat
  rw [hslice]
  exact leNat_leBytes keep.isLt

theorem takeMembership_kept {keep : Word} {s : State} (h : keep.getLsbD (cohOwn s) = true) :
    takeMembership keep s = raise Ev.COHORT_CHANGED (setRing (rget s Reg.COH_REACH) keep false s) := if_pos h

theorem takeMembership_removed {keep : Word} {s : State} (h : keep.getLsbD (cohOwn s) = false) :
    takeMembership keep s = { s with coh := { s.coh with removed := true } } := if_neg (by simp [h])

/-- What a membership taken leaves, whichever way it goes. -/
theorem takeMembership_keeps (keep : Word) (s : State) : let t := takeMembership keep s
    rget t Reg.COH_REACH = rget s Reg.COH_REACH ∧ rget t Reg.COH_EPOCH = rget s Reg.COH_EPOCH ∧ t.coh.sent = s.coh.sent ∧ t.job = s.job ∧ t.dram = s.dram := by
  intro t
  cases hbit : keep.getLsbD (cohOwn s) with
  | true =>
    have hring := ringMoved_setRing (rget s Reg.COH_REACH) keep false s
    rw [show t = _ from takeMembership_kept hbit]
    refine ⟨?_, ?_, ?_, hring.job, hring.dram⟩
    · exact (rget_regs_congr (raise_regs _ _) _).trans (reach_setRing _ _ _ _)
    · exact (rget_regs_congr (raise_regs _ _) _).trans (hring.rget (by decide))
    · exact sent_setRing _ _ _ _
  | false =>
    rw [show t = _ from takeMembership_removed hbit]
    exact ⟨rfl, rfl, rfl, rfl, rfl⟩

theorem takeMembership_takes (keep : Word) (s : State) : let t := takeMembership keep s
    (keep.getLsbD (cohOwn s) = true → rget t Reg.COH_KEEP = keep ∧ t.ev.bits.getLsbD Ev.COHORT_CHANGED = true) ∧
    (keep.getLsbD (cohOwn s) = false → t.coh.removed = true ∧ rget t Reg.COH_KEEP = rget s Reg.COH_KEEP) := by
  intro t
  refine ⟨fun hbit => ?_, fun hbit => ?_⟩
  · rw [show t = _ from takeMembership_kept hbit]
    exact ⟨(rget_regs_congr (raise_regs _ _) _).trans (keep_setRing _ _ _ _), raise_raises (by decide) _⟩
  · rw [show t = _ from takeMembership_removed hbit]
    exact ⟨rfl, rfl⟩

/-- What an accepted MEMBERSHIP does. -/
def membershipTaken (f : CohFrame) (s : State) : State :=
  if masterBit s then masterMembership (BitVec.ofNat 32 (fword f 0 4)) s
  else if saysMaster s f.src then takeMembership (BitVec.ofNat 32 (fword f 0 4)) (rset Reg.COH_EPOCH (BitVec.ofNat 32 f.epoch) s) else s

theorem exec_membershipReceived {s : State} (p : Port) {f : CohFrame} (h : Acceptable s f) (hkind : f.kind = Kind.membership) :
    exec (.membershipReceived p f) s = .next (membershipTaken f (admitFrame p f s)) := by
  have harm : exec (.membershipReceived p f) s = execMembershipReceived p f s := rfl
  simp only [harm, execMembershipReceived, onFrame, hkind, receiveFrame_of_acceptable p h, if_true]
  rfl

theorem takeMembership_of_broadcast (kind : Nat) (payload : List Byte) (keep : Word) (s : State) : let u := broadcast kind payload s
    rget (takeMembership keep u) Reg.COH_REACH = rget s Reg.COH_REACH ∧ rget (takeMembership keep u) Reg.COH_EPOCH = rget s Reg.COH_EPOCH ∧
    rget u Reg.COH_KEEP = rget s Reg.COH_KEEP ∧ cohOwn u = cohOwn s ∧ (takeMembership keep u).job = s.job ∧ (takeMembership keep u).dram = s.dram := by
  intro u
  obtain ⟨hreach, hepoch, -, hjob, hdram⟩ := takeMembership_keeps keep u
  obtain ⟨sent, alive, heq⟩ := broadcast_eq kind payload s
  have hreg : ∀ k, rget u k = rget s k := rget_regs_congr (broadcast_regs _ _ _)
  refine ⟨hreach.trans (hreg _), hepoch.trans (hreg _), hreg _, fget_congr (hreg _), hjob.trans ?_, hdram.trans ?_⟩
  · rw [show u = _ from heq]
  · rw [show u = _ from heq]

theorem membership_received {s : State} (p : Port) {f : CohFrame} (h : Acceptable s f) (hkind : f.kind = Kind.membership) :
    Yields (.membershipReceived p f) s fun t => t.job = s.job ∧ DramKept s t ∧
      (∀ k, k < 32 → (reachable t k = true ↔ reachable s k = true ∨ k = f.src)) ∧
      (masterBit s = false → saysMaster s f.src = true → rget t Reg.COH_EPOCH = BitVec.ofNat 32 f.epoch) ∧
      (masterBit s = true → rget t Reg.COH_EPOCH = rget s Reg.COH_EPOCH + 1 ∧
        ∀ q, portSends s q = true → ∃ g, (q, g) ∈ t.coh.sent ∧ g.kind = Kind.membership ∧ g.src = cohOwn s ∧
          g.epoch = (rget t Reg.COH_EPOCH).toNat ∧ fword g 0 4 = fword f 0 4 ∧ frameSound g = true) ∧
      (masterBit s = true ∨ saysMaster s f.src = true →
        ((BitVec.ofNat 32 (fword f 0 4)).getLsbD (cohOwn s) = true →
          rget t Reg.COH_KEEP = BitVec.ofNat 32 (fword f 0 4) ∧ t.ev.bits.getLsbD Ev.COHORT_CHANGED = true) ∧
        ((BitVec.ofNat 32 (fword f 0 4)).getLsbD (cohOwn s) = false → t.coh.removed = true ∧ rget t Reg.COH_KEEP = rget s Reg.COH_KEEP)) ∧
      (masterBit s = false → saysMaster s f.src = false → rget t Reg.COH_KEEP = rget s Reg.COH_KEEP ∧ rget t Reg.COH_EPOCH = rget s Reg.COH_EPOCH) := by
  let v := admitFrame p f s
  let keep : Word := BitVec.ofNat 32 (fword f 0 4)
  have hadmit := ringMoved_admitFrame p f s
  have hsrc : f.src < 32 := lt_of_kept h.2.2.2.1
  have hmaster : masterBit v = masterBit s := hadmit.masterBit
  have hsays : saysMaster v f.src = saysMaster s f.src := saysMaster_admitFrame p f s _
  have hown : cohOwn v = cohOwn s := hadmit.cohOwn
  have hepoch : rget v Reg.COH_EPOCH = rget s Reg.COH_EPOCH := hadmit.rget (by decide)
  have hkeep : rget v Reg.COH_KEEP = rget s Reg.COH_KEEP := keep_admitFrame p f s
  have hreach : ∀ t : State, rget t Reg.COH_REACH = rget v Reg.COH_REACH → ∀ k, k < 32 → (reachable t k = true ↔ reachable s k = true ∨ k = f.src) := by
    intro t ht k _
    rw [reachable, ht, ← reachable, reachable_admitFrame p s hsrc]
    simp
  have hkeepNat : keep.toNat = fword f 0 4 := Nat.mod_eq_of_lt (fword_lt f 0 4)
  refine ⟨membershipTaken f v, exec_membershipReceived p h hkind, ?_⟩
  rw [membershipTaken, hmaster, hsays]
  cases hm : masterBit s with
  | true =>
    let u := rset Reg.COH_EPOCH (rget v Reg.COH_EPOCH + 1) v
    let w := broadcast Kind.membership (membershipPayload keep) u
    let t := takeMembership keep w
    have hu : RegsKept [Reg.COH_EPOCH] v u := regsKept_rset List.mem_cons_self _ v
    obtain ⟨htreach, htepoch, hwkeep, hwown, htjob, htdram⟩ := takeMembership_of_broadcast Kind.membership (membershipPayload keep) keep u
    obtain ⟨htaken, htremoved⟩ := takeMembership_takes keep w
    have hwown' : cohOwn w = cohOwn s := hwown.trans ((hu.fget (f := Reg.COH_CFG_OWN) (by decide)).trans hown)
    have hepoch' : rget t Reg.COH_EPOCH = rget s Reg.COH_EPOCH + 1 := by rw [show rget t Reg.COH_EPOCH = _ from htepoch, rget_rset_same, hepoch]
    have hsent : t.coh.sent = w.coh.sent := (takeMembership_keeps keep w).2.2.1
    change t.job = s.job ∧ _
    refine ⟨htjob.trans hadmit.job, dramKept_of_eq (htdram.trans hadmit.dram), hreach t (htreach.trans (hu _ (by decide))), fun hh => absurd hh (by simp),
      fun _ => ⟨hepoch', fun q hq => ⟨ownFrame u Kind.membership (membershipPayload keep), ?_, rfl, ?_, ?_, ?_, ?_⟩⟩, fun _ => ⟨fun hbit => ?_, fun hbit => ?_⟩,
      fun hh => absurd hh (by simp)⟩
    · change _ ∈ t.coh.sent
      rw [hsent]
      exact sent_broadcast _ _ _ ((portSends_congr (hu _ (by decide)) (hu _ (by decide)) rfl q).trans ((hadmit.portSends q).trans hq))
    · exact (hu.fget (f := Reg.COH_CFG_OWN) (by decide)).trans hown
    · change (rget u Reg.COH_EPOCH).toNat = (rget t Reg.COH_EPOCH).toNat
      rw [hepoch', rget_rset_same, hepoch]
    · rw [fword_membership, hkeepNat]
    · exact frameSound_ownFrame u _ (length_membershipPayload keep) (by decide)
    · exact htaken (by rw [hwown']; exact hbit)
    · obtain ⟨hrem, hk⟩ := htremoved (by rw [hwown']; exact hbit)
      exact ⟨hrem, hk.trans (hwkeep.trans ((hu _ (by decide)).trans hkeep))⟩
  | false =>
    simp only [Bool.false_eq_true, if_false]
    cases hs : saysMaster s f.src with
    | true =>
      let u := rset Reg.COH_EPOCH (BitVec.ofNat 32 f.epoch) v
      let t := takeMembership keep u
      have hu : RegsKept [Reg.COH_EPOCH] v u := regsKept_rset List.mem_cons_self _ v
      obtain ⟨htreach, htepoch, -, htjob, htdram⟩ := takeMembership_keeps keep u
      obtain ⟨htaken, htremoved⟩ := takeMembership_takes keep u
      have huown : cohOwn u = cohOwn s := (hu.fget (f := Reg.COH_CFG_OWN) (by decide)).trans hown
      change t.job = s.job ∧ _
      refine ⟨htjob.trans hadmit.job, dramKept_of_eq (htdram.trans hadmit.dram), hreach t (htreach.trans (hu _ (by decide))), fun _ _ => ?_,
        fun hh => absurd hh (by simp), fun _ => ⟨fun hbit => ?_, fun hbit => ?_⟩, fun _ hh => absurd hh (by simp)⟩
      · exact htepoch.trans (rget_rset_same _ _ _)
      · exact htaken (by rw [huown]; exact hbit)
      · obtain ⟨hrem, hk⟩ := htremoved (by rw [huown]; exact hbit)
        exact ⟨hrem, hk.trans ((hu _ (by decide)).trans hkeep)⟩
    | false =>
      refine ⟨hadmit.job, hadmit.dramKept, hreach v rfl, fun _ hh => absurd hh (by simp), fun hh => absurd hh (by simp), fun hh => absurd hh (by simp),
        fun _ _ => ⟨hkeep, hepoch⟩⟩

/-! ## Hold sets -/

theorem sentHold_sendHoldOn {x : Port × Nat × Nat} {src id : Nat} {s : State} {p : Port} (h : x ∈ s.coh.sentHold) : x ∈ (sendHoldOn src id s p).coh.sentHold := by
  unfold sendHoldOn
  split
  · exact List.mem_append_left _ h
  · exact h

theorem sentHold_sendHoldSet {x : Port × Nat × Nat} {s : State} (h : x ∈ s.coh.sentHold) : x ∈ (sendHoldSet s).coh.sentHold := by
  unfold sendHoldSet
  dsimp only
  split
  · exact sentHold_sendHoldOn (sentHold_sendHoldOn h)
  · exact h

theorem sentHold_cancelResume {x : Port × Nat × Nat} {s : State} (h : x ∈ s.coh.sentHold) : x ∈ (cancelResume s).coh.sentHold := by
  unfold cancelResume
  split
  · simp only [completeOpt_coh]
    split
    · split
      · exact sentHold_sendHoldSet h
      · exact h
    · exact h
  · exact h

theorem sentHold_requestHold {x : Port × Nat × Nat} {n : Nat} {s : State} (h : x ∈ s.coh.sentHold) : x ∈ (requestHold n s).coh.sentHold := by
  have hcancel : x ∈ (cancelResume (setCause n s)).coh.sentHold := sentHold_cancelResume h
  unfold requestHold
  dsimp only
  split
  · exact hcancel
  · split
    · exact hcancel
    · exact hcancel

/-- The set is recorded, with the ID of its position. -/
def holdRecorded (src id : Nat) (s : State) : State :=
  let anew := !s.coh.seen.contains (src, id)
  updPeer src (fun q => { q with holdId := id }) { s with coh := { s.coh with
    seen := if anew then (src, id) :: s.coh.seen.filter fun e => e.1 != src || idNotLater e.2 id else s.coh.seen
    pairs := if s.coh.pairs.contains (src, id) then s.coh.pairs else s.coh.pairs ++ [(src, id)] } }

/-- A set that was not seen before goes on, unless the port leads back to its origin. -/
def holdPassed (p : Port) (src id : Nat) (anew : Bool) (s : State) : State :=
  if anew && neighbour s (otherPort p) != src then sendHoldOn src id s (otherPort p) else s

theorem holdSetReceived_eq {s : State} {p : Port} {src : Nat} (id : Nat) (hon : powered s Dom.COH = true) (hsrc : src ≠ cohOwn s) : holdSetReceived p src id s =
    requestHold 5 (holdPassed p src id (!s.coh.seen.contains (src, id)) (holdRecorded src id (setHeard p true s))) := by
  have hmoved := ringMoved_setHeard p true s
  have hseen : (setHeard p true s).coh.seen = s.coh.seen := by rw [hmoved.wire]
  have hown : ¬ src = cohOwn (setHeard p true s) := by rw [hmoved.cohOwn]; exact hsrc
  rw [← hseen]
  simp only [holdSetReceived, hon, Bool.not_true, Bool.false_eq_true, if_false, hown]
  rfl

theorem holdPassed_coh (p : Port) (src id : Nat) (anew : Bool) (s : State) : WireOnly s (holdPassed p src id anew s) := by
  unfold holdPassed
  split
  · exact sendHoldOn_coh _ _ s _
  · exact wireOnly_of_coh rfl

theorem holdPassed_goes {p : Port} {src id : Nat} {anew : Bool} {s : State} (hanew : anew = true) (hback : neighbour s (otherPort p) ≠ src)
    (hport : portSends s (otherPort p) = true) : (otherPort p, src, id) ∈ (holdPassed p src id anew s).coh.sentHold := by
  rw [holdPassed, if_pos (by simp [hanew, hback]), sendHoldOn, if_pos hport]
  exact List.mem_append_right _ (List.mem_singleton.mpr rfl)

theorem holdPassed_idle {p : Port} {src id : Nat} {anew : Bool} {s : State} (h : anew = false ∨ neighbour s (otherPort p) = src) :
    holdPassed p src id anew s = s := by
  refine if_neg ?_
  rcases h with hold | hback
  · simp [hold]
  · simp [hback]

theorem holdPassed_rest (p : Port) (src id : Nat) (anew : Bool) (s : State) : holdPassed p src id anew s = { s with coh := (holdPassed p src id anew s).coh } := by
  unfold holdPassed sendHoldOn
  split
  · split <;> rfl
  · rfl

theorem hold_received {s : State} {p : Port} (src : Fin 32) (id : Nat) (hon : powered s Dom.COH = true) (hsrc : src.val ≠ cohOwn s) :
    let pair := (src.val, id % 65536)
    let anew := !s.coh.seen.contains pair
    Yields (.holdSetReceived p src id) s fun t =>
      hasCause t 5 = true ∧ t.coh.pairs = (if s.coh.pairs.contains pair then s.coh.pairs else s.coh.pairs ++ [pair]) ∧ t.coh.seen.contains pair = true ∧
      (peer t src.val).holdId = id % 65536 ∧ (s.flow.mode = .write → s.flow.resume = .none → t.flow.holdReq = true) ∧
      (anew = true → neighbour s (otherPort p) ≠ src.val → portSends s (otherPort p) = true → (otherPort p, pair) ∈ t.coh.sentHold) ∧
      (anew = false ∨ neighbour s (otherPort p) = src.val → s.flow.resume = .none → t.coh.sentHold = s.coh.sentHold) ∧ t.job = s.job ∧ DramKept s t := by
  intro pair anew
  let h := setHeard p true s
  let r := holdRecorded src.val (id % 65536) h
  let u := holdPassed p src.val (id % 65536) anew r
  have hmoved := ringMoved_setHeard p true s
  have hpassed : WireOnly r u := holdPassed_coh _ _ _ _ r
  have hrest : u = { r with coh := u.coh } := holdPassed_rest _ _ _ _ r
  have hflow : u.flow = s.flow := by
    rw [hrest]
    exact setHeard_flow p true s
  have htwire : WireOnly r (requestHold 5 u) := hpassed.trans (requestHold_coh 5 u)
  have hsentHold : r.coh.sentHold = s.coh.sentHold := by
    have hheard : h.coh.sentHold = s.coh.sentHold := by cases p <;> simp [h, setHeard, portSync_coh]
    exact hheard
  have hneighbour : neighbour r (otherPort p) = neighbour s (otherPort p) := by
    have hown : cohOwn r = cohOwn s := hmoved.cohOwn
    have hmembers : cohMembers r = cohMembers s := hmoved.cohMembers
    cases p <;> simp only [neighbour, otherPort, hown, hmembers]
  have hnone : s.flow.resume = .none → requestHold 5 u = if u.flow.mode = .write then
      { setCause 5 u with flow := { (setCause 5 u).flow with holdReq := true } } else setCause 5 u := fun hresume =>
    requestHold_of_none (by rw [hflow]; exact hresume)
  refine ⟨requestHold 5 u, congrArg _ (holdSetReceived_eq _ hon hsrc), ?_, ?_, ?_, ?_, fun hmode hresume => ?_, fun hanew hback hport => ?_,
    fun hidle hresume => ?_, ?_, ?_⟩
  · rw [hasCause_congr (requestHold_causes 5 u), hasCause_setCause (by decide)]
    simp
  · rw [htwire]
    have hpairs : h.coh.pairs = s.coh.pairs := by rw [hmoved.wire]
    change (if h.coh.pairs.contains pair then h.coh.pairs else h.coh.pairs ++ [pair]) = _
    rw [hpairs]
  · rw [htwire]
    change (if (!h.coh.seen.contains pair) = true then pair :: h.coh.seen.filter _ else h.coh.seen).contains pair = true
    cases hseen : h.coh.seen.contains pair with
    | true => simpa using hseen
    | false => simp
  · have hpeer : peer (requestHold 5 u) src.val = peer r src.val := by rw [peer, htwire, peer]
    rw [hpeer, show r = updPeer _ _ _ from rfl, peer_updPeer, if_pos rfl]
  · rw [hnone hresume, if_pos (by rw [hflow]; exact hmode)]
  · exact sentHold_requestHold (holdPassed_goes hanew (by rw [hneighbour]; exact hback) ((hmoved.portSends _).trans hport))
  · have hu : u.coh = r.coh := congrArg State.coh (holdPassed_idle (by rw [hneighbour]; exact hidle))
    rw [hnone hresume, ← hsentHold, ← hu]
    split <;> rfl
  · rw [show (requestHold 5 u).job = u.job from (ringMoved_requestHold 5 u).job, hrest]
    exact hmoved.job
  · refine dramKept_of_eq ?_
    rw [(ringMoved_requestHold 5 u).dram, hrest]
    exact hmoved.dram

theorem hold_own {s : State} {p : Port} (src : Fin 32) (id : Nat) (hon : powered s Dom.COH = true) (hsrc : src.val = cohOwn s) :
    Yields (.holdSetReceived p src id) s fun t =>
      t.coh.pairs = s.coh.pairs ∧ t.flow = s.flow ∧ t.job = s.job ∧ RegsKept [Reg.COH_STATUS] s t ∧ DramKept s t := by
  have hmoved := ringMoved_setHeard p true s
  have heq : holdSetReceived p src.val (id % 65536) s = setHeard p true s := by
    simp only [holdSetReceived, hon, Bool.not_true, Bool.false_eq_true, if_false]
    rw [if_pos (by rw [hmoved.cohOwn]; exact hsrc)]
  refine ⟨setHeard p true s, congrArg _ heq, by rw [hmoved.wire], setHeard_flow p true s, hmoved.job, regsKept_setHeard p true s, hmoved.dramKept⟩

/-! ## RESUME -/

theorem hasCause_partitionAtOnce (s : State) {n : Nat} (hn : n ≠ 6) : hasCause (partitionAtOnce s) n = hasCause s n := by
  unfold partitionAtOnce partitionHold
  split
  · split
    · rw [hasCause_congr (requestHold_causes 6 s), hasCause_setCause (by decide)]
      simp [hn.symm]
    · rfl
  · rfl

theorem hasCause_admitFrame (p : Port) (f : CohFrame) (s : State) {n : Nat} (hn : n ≠ 6) : hasCause (admitFrame p f s) n = hasCause s n := by
  have hrest : (admitFrame p f s).flow = (reachWith p f s).flow := by rw [admitFrame_eq, forward_flow, masterHeard_flow]
  have htold : ∀ u : State, (masterSync false (ringTold (rget s Reg.COH_REACH ||| 1 <<< f.src) (rget s Reg.COH_KEEP) false u)).flow = u.flow := fun u => by
    simp [ringTold, ringPut]
  have hheard : (setHeard p true (aliveKept f s)).flow = s.flow := setHeard_flow p true _
  rw [hasCause_congr (congrArg Flow.causes hrest), reachWith, setRing_told, hasCause_partitionAtOnce _ hn]
  exact hasCause_congr (congrArg Flow.causes ((htold _).trans hheard)) n

theorem hasCause_clearHostHold (s : State) (n : Nat) : hasCause (clearHostHold s) n = (hasCause s n && !(holdClocksLocked s && decide (n = 0))) := by
  have hclocks : holdClocksLocked { s with flow := { s.flow with hostHold := false } } = holdClocksLocked s := rfl
  unfold clearHostHold
  dsimp only
  rw [hclocks]
  cases holdClocksLocked s with
  | true =>
    rw [if_pos rfl, hasCause_clearCause (by decide)]
    by_cases hn : n = 0
    · subst hn
      simp
    · have hn' : ¬ 0 = n := fun h => hn h.symm
      simp [hn, hn']
      rfl
  | false =>
    simp
    rfl

/-- The flow but for causes and the host's Hold. -/
theorem clearHostHold_flow (s : State) : ∃ causes, clearHostHold s = { s with flow := { s.flow with hostHold := false, causes } } := by
  unfold clearHostHold
  dsimp only
  split
  · exact ⟨(clearCause 0 s).flow.causes, rfl⟩
  · exact ⟨s.flow.causes, rfl⟩

/-- A resume that begins where none is in progress leaves the causes but 0, 6 and 9. -/
theorem hasCause_beginResume {s : State} (slot : Option (Fin 16)) (h : s.flow.resume = .none) {n : Nat} (hn : n ∉ [0, 6, 9]) :
    hasCause (beginResume slot s) n = hasCause s n := by
  simp only [List.mem_cons, List.not_mem_nil, or_false, not_or] at hn
  obtain ⟨h0, h6, h9⟩ := hn
  have hclear : hasCause (clearHostHold s) n = hasCause s n := by
    rw [hasCause_clearHostHold]
    simp [h0]
  obtain ⟨causes, heq⟩ := clearHostHold_flow s
  have hresume : (clearHostHold s).flow.resume = .none := by rw [heq]; exact h
  unfold beginResume
  dsimp only
  split
  · split
    · let u := closeStripe (clearHostHold s)
      let v : State := { u with flow := { u.flow with mode := .write, seen := u.flow.causes, holdReq := false } }
      obtain ⟨_, hcauses, _⟩ := holdsAsked_closeStripe (clearHostHold s) hresume
      have hv : hasCause v n = hasCause s n := (hcauses n (by simpa using h9)).trans hclear
      change hasCause (partitionAtOnce (completeOpt slot .ok [] v)) n = _
      rw [hasCause_partitionAtOnce _ h6, hasCause_congr (congrArg Flow.causes (completeOpt_flow slot .ok [] v)), hv]
    · exact hclear
  · exact hclear

/-- The pairs that a RESUME leaves. -/
def pairsLeft (f : CohFrame) (s : State) : State :=
  { s with coh := { s.coh with pairs := s.coh.pairs.filter fun e => !idNotLater e.2 (fword f (2 * e.1) 2) } }

/-- The causes that a RESUME leaves. -/
def causesLeft (f : CohFrame) (s : State) : State :=
  if (clearHostHold (pairsLeft f s)).coh.pairs.isEmpty then clearCause 5 (clearHostHold (pairsLeft f s)) else clearHostHold (pairsLeft f s)

theorem resumeFrame_eq (f : CohFrame) (s : State) : resumeFrame f s =
    if (causesLeft f s).flow.mode == .hold && noCause (causesLeft f s) && !transitioning (causesLeft f s) then beginResume none (causesLeft f s)
    else causesLeft f s := rfl

theorem exec_resumeFrameReceived {s : State} (p : Port) {f : CohFrame} (h : Acceptable s f) (hkind : f.kind = Kind.resume) :
    exec (.resumeFrameReceived p f) s = .next (resumeFrame f (admitFrame p f s)) := by
  have harm : exec (.resumeFrameReceived p f) s = execResumeFrameReceived p f s := rfl
  simp only [harm, execResumeFrameReceived, onFrame, hkind, receiveFrame_of_acceptable p h, if_true]

/-- What stands of the state when the pairs and the causes are taken back. -/
theorem causesLeft_keeps (f : CohFrame) (s : State) : ∃ causes, causesLeft f s = { pairsLeft f s with flow := { s.flow with hostHold := false, causes } } := by
  obtain ⟨causes, heq⟩ := clearHostHold_flow (pairsLeft f s)
  unfold causesLeft
  split
  · exact ⟨(clearCause 5 (clearHostHold (pairsLeft f s))).flow.causes, by rw [heq]; rfl⟩
  · exact ⟨causes, heq⟩

theorem hasCause_causesLeft (f : CohFrame) (s : State) (n : Nat) : hasCause (causesLeft f s) n =
    (hasCause s n && !(holdClocksLocked s && decide (n = 0)) && !((pairsLeft f s).coh.pairs.isEmpty && decide (n = 5))) := by
  have hpairs : (clearHostHold (pairsLeft f s)).coh.pairs = (pairsLeft f s).coh.pairs := by
    obtain ⟨causes, heq⟩ := clearHostHold_flow (pairsLeft f s)
    rw [heq]
  have hhost : hasCause (clearHostHold (pairsLeft f s)) n = (hasCause s n && !(holdClocksLocked s && decide (n = 0))) := hasCause_clearHostHold (pairsLeft f s) n
  unfold causesLeft
  rw [hpairs]
  cases (pairsLeft f s).coh.pairs.isEmpty with
  | true =>
    rw [if_pos rfl, hasCause_clearCause (by decide), hhost]
    by_cases hn : n = 5
    · subst hn
      simp
    · have hn' : ¬ 5 = n := fun h => hn h.symm
      simp [hn, hn']
  | false => simp [hhost]

theorem noCause_of_bits {s : State} (h : ∀ n, hasCause s n = false) : noCause s = true := by
  have hzero : s.flow.causes = 0 := BitVec.eq_of_getLsbD_eq fun n _ => by rw [← hasCause, h n]; simp
  simp [noCause, hzero]

theorem transitioning_resume {s : State} (h : transitioning s = false) : s.flow.resume = .none := by
  simp only [transitioning, Bool.or_eq_false_iff] at h
  simpa using h.1.1.1.1.1.1.1.1

theorem resume_received {s : State} (p : Port) {f : CohFrame} (h : Acceptable s f) (hkind : f.kind = Kind.resume) :
    let left := s.coh.pairs.filter fun e => !idNotLater e.2 (fword f (2 * e.1) 2)
    Yields (.resumeFrameReceived p f) s fun t => t.coh.pairs = left ∧
      (left = [] → hasCause t 5 = false) ∧ (left ≠ [] → hasCause t 5 = hasCause s 5) ∧
      (s.flow.mode ≠ .hold → s.flow.resume = .none → t.job = s.job ∧ t.flow.mode = s.flow.mode) ∧
      (s.flow.mode = .hold → s.flow.job ≠ .stripe → (∀ n, hasCause s n = true → n = 0 ∨ n = 5) → left = [] → holdClocksLocked s = true →
        transitioning s = false → ringWhole s = true → reachable s f.src = true →
        t.flow.resume = .atTick none ∧ s.flow.mode = t.flow.mode ∧ s.job = t.job) ∧ DramKept s t := by
  intro left
  let v := admitFrame p f s
  let u := causesLeft f v
  have hadmit := ringMoved_admitFrame p f s
  obtain ⟨causes, hu⟩ := causesLeft_keeps f v
  have hpairs : (pairsLeft f v).coh.pairs = left := by
    have hv : v.coh.pairs = s.coh.pairs := by rw [hadmit.wire]; rfl
    change v.coh.pairs.filter _ = left
    rw [hv]
  have hupairs : u.coh.pairs = left := by rw [show u = _ from hu]; exact hpairs
  have hujob : u.job = s.job := by rw [show u = _ from hu]; exact hadmit.job
  have hudram : u.dram = s.dram := by rw [show u = _ from hu]; exact hadmit.dram
  have hcause : ∀ n, hasCause u n = (hasCause v n && !(holdClocksLocked v && decide (n = 0)) && !(left.isEmpty && decide (n = 5))) := fun n => by
    rw [hasCause_causesLeft, hpairs]
  have hfive : hasCause u 5 = (hasCause s 5 && !left.isEmpty) := by
    rw [hcause, hasCause_admitFrame p f s (by decide)]
    simp
  have hbegin : ∀ t, t = u ∨ (t = beginResume none u ∧ transitioning u = false) → t.coh.pairs = left ∧ hasCause t 5 = hasCause u 5 ∧ t.dram = s.dram := by
    rintro t (rfl | ⟨rfl, htrans⟩)
    · exact ⟨hupairs, rfl, hudram⟩
    · refine ⟨?_, hasCause_beginResume none (transitioning_resume htrans) (by decide), ?_⟩
      · rw [wireOnly_beginResume]
        exact hupairs
      · simpa using hudram
  have hcases : resumeFrame f v = u ∨ (resumeFrame f v = beginResume none u ∧ transitioning u = false) := by
    rw [resumeFrame_eq]
    split
    · next hcond =>
      simp only [Bool.and_eq_true, Bool.not_eq_true'] at hcond
      exact .inr ⟨rfl, hcond.2⟩
    · exact .inl rfl
  obtain ⟨htpairs, htcause, htdram⟩ := hbegin _ hcases
  refine ⟨resumeFrame f v, exec_resumeFrameReceived p h hkind, htpairs, fun hnil => ?_, fun hne => ?_, fun hmode hresume => ?_,
    fun hmode hjob hcauses hnil hclocks htrans hwhole hreach => ?_, dramKept_of_eq htdram⟩
  · rw [htcause, hfive, hnil]
    simp
  · rw [htcause, hfive]
    simp [List.isEmpty_eq_false_iff.mpr hne]
  · obtain ⟨hvmode, -, -⟩ := admitFrame_flow_of_none p f hresume
    have humode : u.flow.mode = s.flow.mode := by rw [show u = _ from hu]; exact hvmode
    have hidle : resumeFrame f v = u := by
      rw [resumeFrame_eq]
      exact if_neg (by rw [show causesLeft f v = u from rfl, humode]; simp [hmode])
    rw [hidle]
    exact ⟨hujob, humode⟩
  · have hvflow : v.flow = s.flow := admitFrame_flow p hwhole hreach
    have huflow : u.flow = { s.flow with hostHold := false, causes } := by
      rw [show u = _ from hu, ← hvflow]
    have hclocks' : holdClocksLocked v = true := by
      have hclk : rget v Reg.CLK_STATUS = rget s Reg.CLK_STATUS := hadmit.rget (by decide)
      have hbit : ∀ g : Field, g.reg = Reg.CLK_STATUS → fbit v g = fbit s g := fun g hg => by
        have hfget : fget v g = fget s g := fget_congr (by rw [hg, hclk])
        rw [fbit, fbit, hfget]
      rw [← hclocks, holdClocksLocked, holdClocksLocked, hbit _ rfl, hbit _ rfl, hbit _ rfl, hbit _ rfl]
    have hno : noCause u = true := noCause_of_bits fun n => by
      have hv : hasCause v n = hasCause s n := by rw [hasCause, hvflow, ← hasCause]
      rw [hcause, hv, hclocks', hnil]
      cases hn : hasCause s n with
      | false => rfl
      | true =>
        obtain rfl | rfl := hcauses n hn
        · rfl
        · rfl
    have htrans' : transitioning u = false := by
      have hpwr : u.pwr = s.pwr := by rw [show u = _ from hu]; exact hadmit.pwr
      rw [← htrans, transitioning, transitioning, huflow, hpwr]
    have heq : resumeFrame f v = beginResume none u := by
      rw [resumeFrame_eq]
      exact if_pos (by rw [show causesLeft f v = u from rfl, hno, htrans', huflow]; simp [hmode])
    obtain ⟨causes', hclear⟩ := clearHostHold_flow u
    have hnot : ¬ (clearHostHold u).flow.job = .stripe := by
      rw [hclear, huflow]
      exact hjob
    have hend : beginResume none u = { clearHostHold u with flow := { (clearHostHold u).flow with resume := .atTick none } } := by
      unfold beginResume
      dsimp only
      rw [if_neg hnot]
    rw [heq, hend, hclear]
    refine ⟨rfl, ?_, hujob.symm⟩
    change s.flow.mode = u.flow.mode
    rw [huflow]

/-- Settles O57: a MEMBERSHIP ends in `takeMembership`, a Hold set in one `requestHold`, and a RESUME in `beginResume` where nothing else holds
the module. -/
theorem ringHoldsAndResumes : Obligations.RingHoldsAndResumes := by
  intro s p
  refine ⟨fun f h hkind => membership_received p h hkind, fun src id hon => ⟨fun hown => hold_own src id hon hown, fun hother => hold_received src id hon hother⟩,
    fun src id hoff => ⟨_, rfl, ?_⟩, fun f h hkind => resume_received p h hkind⟩
  simp [holdSetReceived, hoff]

end Sys2Proof.Machine
end

section
/-! PROOFS. The lanes and the records of shots; the frames, strobes, locks and warnings of the output links. -/

namespace Sys2Proof.Machine

/-! ## A lane, and its bit in a pair of registers -/

theorem laneState_updLane_same (l : Nat) (f : Lane → Lane) (s : State) : laneState (updLane l f s) l = f (laneState s l) := by
  rw [laneState, updLane, laneState, getD_updAt, if_pos rfl]

theorem laneState_updLane_other {l m : Nat} (h : m ≠ l) (f : Lane → Lane) (s : State) :
    laneState (updLane l f s) m = laneState s m := by
  rw [laneState, updLane, laneState, getD_updAt, if_neg h]

theorem updLane_ev (l : Nat) (f : Lane → Lane) (s : State) : (updLane l f s).ev = s.ev := rfl

theorem updLane_health (l : Nat) (f : Lane → Lane) (s : State) : (updLane l f s).health = s.health := rfl

theorem regsKept_updLane (ks : List Nat) (l : Nat) (f : Lane → Lane) (s : State) : RegsKept ks s (updLane l f s) :=
  regsKept_of_eq rfl

theorem putLanesBit_out (lo hi i : Nat) (b : Bool) (s : State) : (putLanesBit lo hi i b s).out = s.out := rfl

theorem putLanesBit_health (lo hi i : Nat) (b : Bool) (s : State) : (putLanesBit lo hi i b s).health = s.health := rfl

theorem putLanesBit_ev (lo hi i : Nat) (b : Bool) (s : State) : (putLanesBit lo hi i b s).ev = s.ev := rfl

theorem regsKept_putLanesBit (lo hi i : Nat) (b : Bool) (s : State) : RegsKept [lo, hi] s (putLanesBit lo hi i b s) := by
  refine regsKept_rset ?_ _ s
  by_cases h : i < 32 <;> simp [h]

/-- A bit of a word after the bits of a mask are set or cleared. -/
theorem getLsbD_put (w m : Word) {j : Nat} (hj : j < 32) (b : Bool) :
    (if b then w ||| m else w &&& ~~~m).getLsbD j = if m.getLsbD j then b else w.getLsbD j := by
  cases b
  · rw [if_neg Bool.false_ne_true, BitVec.getLsbD_and, BitVec.getLsbD_not]
    cases m.getLsbD j <;> simp [hj]
  · rw [if_pos rfl, BitVec.getLsbD_or]
    cases m.getLsbD j <;> simp

theorem getLsbD_mask {i j : Nat} (hi : i < 32) : ((1 <<< i : Nat) : Word).getLsbD j = decide (j = i) := by
  rw [Nat.one_shiftLeft, BitVec.natCast_eq_ofNat, BitVec.getLsbD_ofNat, Nat.testBit_two_pow]
  by_cases h : i = j
  · simp [h, h ▸ hi]
  · simp [h, Ne.symm h]

theorem lanesBit_putLanesBit {lo hi : Nat} (hne : lo ≠ hi) {l m : Nat} (hl : l < 64) (hm : m < 64) (b : Bool) (s : State) :
    lanesBit (putLanesBit lo hi l b s) lo hi m = if m = l then b else lanesBit s lo hi m := by
  by_cases hl32 : l < 32 <;> by_cases hm32 : m < 32
  · simp only [lanesBit, putLanesBit, hl32, hm32, if_true, rget_rset_same, Nat.mod_eq_of_lt hl32]
    refine (getLsbD_put _ _ hm32 b).trans ?_
    rw [show BitVec.getLsbD (_ : Word) m = _ from getLsbD_mask hl32]
    simp
  · have hml : m ≠ l := by omega
    simp only [lanesBit, putLanesBit, hl32, hm32, if_true, if_false, hml, rget_rset_other _ _ _ _ hne.symm]
  · have hml : m ≠ l := by omega
    simp only [lanesBit, putLanesBit, hl32, hm32, if_true, if_false, hml, rget_rset_other _ _ _ _ hne]
  · have hmod : l % 32 = l - 32 := by omega
    have hsame : m - 32 = l - 32 ↔ m = l := by omega
    simp only [lanesBit, putLanesBit, hl32, hm32, if_false, rget_rset_same, hmod]
    refine (getLsbD_put _ _ (by omega) b).trans ?_
    rw [show BitVec.getLsbD (_ : Word) (m - 32) = _ from getLsbD_mask (by omega)]
    simp [hsame]

/-! ## LINK_LOSS -/

theorem assertCut_out (r : Reason) (t : Int) {s : State} (hrun : s.health.run = none) : (assertCut r t s).out = s.out := by
  have hcut : ∀ u : State, u.health = s.health → u.out = s.out → (endCheckRun (fput Reg.OUT_STATUS_BLANK 1 u)).out = s.out := by
    intro u hhealth hout
    rw [endCheckRun_of_none (by simpa [hhealth] using hrun), fput_out, hout]
  unfold assertCut
  dsimp only
  split
  · exact hcut _ (by simp) (by simp)
  · exact hcut _ rfl rfl

/-- LINK_LOSS stands after it is declared, and a first declaration blanks the outputs and reports it. -/
theorem declareLinkLoss_lost (t : Int) {s : State} (hrun : s.health.run = none) :
    (declareLinkLoss t s).out.link.on = true ∧
    (s.out.link.on = false → (declareLinkLoss t s).ev = (raise Ev.LINK_LOSS s).ev ∧
      fbit (declareLinkLoss t s) Reg.OUT_STATUS_BLANK = true ∧ fbit (declareLinkLoss t s) Reg.OUT_STATUS_LINK_LOSS = true) := by
  cases hon : s.out.link.on with
  | true =>
    have heq : declareLinkLoss t s = { s with out := { s.out with link := { s.out.link with clean := 0 } } } := if_pos hon
    exact ⟨by rw [heq]; exact hon, nofun⟩
  | false =>
    let u : State := raise Ev.LINK_LOSS (fput Reg.OUT_STATUS_LINK_LOSS 1 { s with out := { s.out with link := ⟨true, 0, none⟩ } })
    have heq : declareLinkLoss t s = assertCut .linkLoss t u := if_neg (by simp [hon])
    have hurun : u.health.run = none := by simpa [u] using hrun
    have hushown : fget u Reg.OUT_STATUS_LINK_LOSS = 1 := fget_fput_same _ _ rfl 1
    refine ⟨by rw [heq, assertCut_out _ _ hurun]; rfl, fun _ => ⟨?_, ?_, ?_⟩⟩
    · rw [heq, assertCut_ev]
      rfl
    · rw [heq, assertCut_blanks _ _ hurun]
    · rw [heq, fbit, (blankSet_assertCut .linkLoss t hurun).others Reg.OUT_STATUS_LINK_LOSS rfl (by decide) (by decide), hushown]
      rfl

/-- Beside LINK_LOSS, its declaration leaves what the outputs are. -/
theorem declareLinkLoss_out (t : Int) {s : State} (hrun : s.health.run = none) :
    ∃ link, (declareLinkLoss t s).out = { s.out with link } := by
  cases hon : s.out.link.on with
  | true => exact ⟨_, by rw [declareLinkLoss, if_pos hon]⟩
  | false =>
    have heq : declareLinkLoss t s = assertCut .linkLoss t
        (raise Ev.LINK_LOSS (fput Reg.OUT_STATUS_LINK_LOSS 1 { s with out := { s.out with link := ⟨true, 0, none⟩ } })) := if_neg (by simp [hon])
    exact ⟨⟨true, 0, none⟩, by rw [heq, assertCut_out _ _ (by simpa using hrun)]; rfl⟩

theorem regsKept_declareLinkLoss (t : Int) {s : State} (hrun : s.health.run = none) :
    RegsKept (Reg.OUT_STATUS :: holdNowRegs) s (declareLinkLoss t s) := by
  cases hon : s.out.link.on with
  | true =>
    rw [declareLinkLoss, if_pos hon]
    exact regsKept_of_eq rfl
  | false =>
    let v : State := { s with out := { s.out with link := ⟨true, 0, none⟩ } }
    let u : State := raise Ev.LINK_LOSS (fput Reg.OUT_STATUS_LINK_LOSS 1 v)
    have heq : declareLinkLoss t s = assertCut .linkLoss t u := if_neg (by simp [hon])
    have hv : RegsKept (Reg.OUT_STATUS :: holdNowRegs) s v := regsKept_of_eq rfl
    have hu : RegsKept (Reg.OUT_STATUS :: holdNowRegs) v u :=
      (regsKept_fput (f := Reg.OUT_STATUS_LINK_LOSS) List.mem_cons_self 1 v).trans (regsKept_of_eq (raise_regs _ _))
    rw [heq]
    exact (hv.trans hu).trans (blankSet_assertCut _ _ (by simpa [u, v] using hrun)).regs

/-! ## The record of a shot -/

/-- What a change of one shot's record keeps of it: its stripe and its number. -/
def KeepsKey (f : Shot → Shot) : Prop := ∀ sh, (f sh).stripeIdx = sh.stripeIdx ∧ (f sh).shot = sh.shot

theorem map_shot_updShot {f : Shot → Shot} (hf : KeepsKey f) (i : Nat) (n : Int) (s : State) :
    (updShot i n f s).shots.map (·.shot) = s.shots.map (·.shot) := by
  simp only [updShot, List.map_map]
  refine List.map_congr_left fun sh _ => ?_
  simp only [Function.comp_apply]
  split
  · exact (hf sh).2
  · rfl

theorem mem_updShot {f : Shot → Shot} {i : Nat} {n : Int} {s : State} {x : Shot} (hx : x ∈ (updShot i n f s).shots)
    (hi : x.stripeIdx = i) (hn : x.shot = n) : ∃ y, x = f y ∧ y.shot = n := by
  obtain ⟨y, -, rfl⟩ := List.mem_map.1 hx
  by_cases h : y.stripeIdx = i ∧ y.shot = n
  · exact ⟨y, if_pos h, h.2⟩
  · rw [if_neg h] at hi hn
    exact absurd ⟨hi, hn⟩ h

theorem quiet_updShot (i : Nat) (n : Int) (f : Shot → Shot) (s : State) : Quiet [] s (updShot i n f s) :=
  ⟨rfl, rfl, rfl, regsKept_of_eq rfl, dramKept_of_eq rfl⟩

theorem updShot_keeps (i : Nat) (n : Int) (f : Shot → Shot) (s : State) :
    (updShot i n f s).out = s.out ∧ (updShot i n f s).armed = s.armed ∧ (updShot i n f s).health = s.health := ⟨rfl, rfl, rfl⟩

/-! ## Frames -/

/-- Lateness changes a shot's lane `l` only. -/
theorem lateAtFrame_eq (l : Nat) (sh : Shot) : ∃ lanes, sh.lateAtFrame l = { sh with lanes } := by
  unfold Shot.lateAtFrame
  split
  · exact ⟨sh.lanes, rfl⟩
  · exact ⟨_, rfl⟩

theorem sendFrame_lane (s : State) (t l : Nat) (sh : Shot) :
    let ty := frameType s sh l
    let payload := if ty = .shot then lanePayload sh.counts l else List.replicate 2560 0
    ((sendFrame s t l sh).lane l).sent = some (ty, frameCrc ty l (unsigned 32 sh.shot) payload, t) ∧
    ((sendFrame s t l sh).lane l).late = (sh.lane l).late := by
  dsimp only [Shot.lane, sendFrame]
  rw [getD_updAt, if_pos rfl]
  exact ⟨rfl, rfl⟩

/-- A SHOT frame is of a shot that is fired: not blanked as a whole, its lane not late, and no reason in force. -/
theorem frameType_shot {s : State} {sh : Shot} {l : Nat} (h : frameType s sh l = .shot) :
    0 ≤ sh.shot ∧ sh.whole = [] ∧ (sh.lane l).late = false ∧ blockReasons s sh.shot = [] := by
  unfold frameType at h
  split at h
  · next hc =>
    obtain ⟨hnum, -, hlate, hwhole, hreasons⟩ := hc
    exact ⟨hnum, hwhole, Bool.not_eq_true _ ▸ hlate, hreasons⟩
  · cases h

theorem keepsKey_frame (s : State) (t l : Nat) : KeepsKey fun sh => sendFrame s t l (sh.lateAtFrame l) := fun sh => by
  obtain ⟨lanes, hlate⟩ := lateAtFrame_eq l sh
  dsimp only
  rw [hlate]
  exact ⟨rfl, rfl⟩

theorem yields_frameStart_idle {s : State} (l : Fin 64) (t : Nat)
    (h : powered s Dom.OUT = false ∨ (shotsInReach s.shots).find? (Shot.frameDue l.val) = none) :
    Yields (.frameStart l t) s fun u => u = s := by
  refine ⟨_, rfl, ?_⟩
  rw [frameStart]
  rcases h with h | h
  · simp [h]
  · simp [h]

theorem yields_frameStart {s : State} (l : Fin 64) (t : Nat) {sh : Shot} (hon : powered s Dom.OUT = true)
    (hdue : (shotsInReach s.shots).find? (Shot.frameDue l.val) = some sh) :
    Yields (.frameStart l t) s fun u =>
      (∀ x ∈ u.shots, x.stripeIdx = sh.stripeIdx → x.shot = sh.shot → ∃ ty, (x.lane l.val).sent =
          some (ty, frameCrc ty l.val (unsigned 32 sh.shot) (if ty = .shot then lanePayload x.counts l.val else List.replicate 2560 0), t) ∧
        (ty = .shot → 0 ≤ sh.shot ∧ x.whole = [] ∧ (x.lane l.val).late = false ∧ blockReasons s sh.shot = [])) ∧
      u.shots.map (·.shot) = s.shots.map (·.shot) ∧ u.out = s.out ∧ Quiet [] s u := by
  have heq : frameStart l.val t s = updShot sh.stripeIdx sh.shot (fun sh => sendFrame s t l.val (sh.lateAtFrame l.val)) s := by
    rw [frameStart, if_neg (by simp [hon]), hdue]
  refine ⟨_, congrArg Host.Outcome.next heq, fun x hx hi hn => ?_, map_shot_updShot (keepsKey_frame s t l.val) _ _ _, rfl, quiet_updShot _ _ _ _⟩
  obtain ⟨y, rfl, hy⟩ := mem_updShot hx hi hn
  obtain ⟨lanes, hlate⟩ := lateAtFrame_eq l.val y
  obtain ⟨hsent, hkept⟩ := sendFrame_lane s t l.val (y.lateAtFrame l.val)
  have hshot : (y.lateAtFrame l.val).shot = sh.shot := by rw [hlate]; exact hy
  have hwhole : (sendFrame s t l.val (y.lateAtFrame l.val)).whole = (y.lateAtFrame l.val).whole := rfl
  have hcounts : (sendFrame s t l.val (y.lateAtFrame l.val)).counts = (y.lateAtFrame l.val).counts := rfl
  refine ⟨frameType s (y.lateAtFrame l.val) l.val, ?_, fun hty => ?_⟩
  · rw [hsent, hshot, hcounts]
  · obtain ⟨hnum, hw, hl, hr⟩ := frameType_shot hty
    rw [hshot] at hnum hr
    exact ⟨hnum, hwhole.trans hw, hkept.trans hl, hr⟩

/-! ## Strobes -/

/-- BLANK_ALL asserts where no stripe and no check run is left to fire and every strobe is over. -/
theorem blankIfOver_noLonger (s : State) :
    Quiet [Reg.OUT_STATUS] s (blankIfOver s) ∧ (s.armed.isSome = true → blankIfOver s = s) ∧
    (s.armed = none → s.health.run = none → (blankIfOver s).shots.all Shot.strobesOver = true → fbit (blankIfOver s) Reg.OUT_STATUS_BLANK = true) ∧
    (blankIfOver s).shots = s.shots ∧ (blankIfOver s).out = s.out := by
  unfold blankIfOver assertBlank
  split
  · next h =>
    refine ⟨⟨by simp, by simp, by simp, regsKept_fput (f := Reg.OUT_STATUS_BLANK) (List.mem_singleton.2 rfl) _ _, dramKept_of_eq (by simp)⟩,
      fun ha => ?_, fun _ _ _ => fbit_fput_blank s, by simp, by simp⟩
    rw [Option.isSome_iff_ne_none] at ha
    simp [ha] at h
  · next h =>
    exact ⟨⟨rfl, rfl, rfl, regsKept_of_eq rfl, dramKept_of_eq rfl⟩, fun _ => rfl, fun ha hr hall => absurd (by simp [ha, hr, hall]) h, rfl, rfl⟩

/-- The strobe of a group that has neither risen nor been withheld is the next of the first such shot. -/
def strobeNext (g : Nat) (s : State) : Option Shot :=
  s.shots.find? fun x => x.bell.isSome && (x.groups.getD g ⟨none, false⟩) == ⟨none, false⟩

theorem yields_strobeRise_idle {s : State} (g : Fin 8)
    (h : powered s Dom.OUT = false ∨ outputsHeld s Dom.OUT = true ∨ strobeNext g.val s = none) :
    Yields (.strobeRise g) s fun t => t = s := by
  refine ⟨_, rfl, ?_⟩
  rw [strobeRise]
  rcases h with h | h | h
  · simp [h]
  · simp [h]
  · rw [show s.shots.find? _ = none from h]
    simp

theorem getD_setGroup (g : Nat) (v : GroupShot) (sh : Shot) : (sh.setGroup g v).groups.getD g ⟨none, false⟩ = v := by
  rw [Shot.setGroup, getD_updAt, if_pos rfl]

/-- The strobe rises: its time is recorded, the group's strobe is high, and an in-stripe resume that waits for the shot completes. -/
theorem strobeRise_fires {s : State} {g : Nat} {sh : Shot} {b : Int × Int} (hon : powered s Dom.OUT = true)
    (hheld : outputsHeld s Dom.OUT = false) (hnext : strobeNext g s = some sh) (hbell : sh.bell = some b) (hnum : 0 ≤ sh.shot)
    (hreasons : blockReasons s sh.shot = []) (hwhole : sh.whole = []) (hfires : sh.groupFires g = true) :
    strobeRise g s = resumeFires sh.shot { updShot sh.stripeIdx sh.shot (Shot.setGroup g ⟨some (sh.strobeTime g b), false⟩) s with
      out := { s.out with strobes := s.out.strobes ||| 1 <<< g } } := by
  rw [strobeRise, if_neg (by simp [hon, hheld]), show s.shots.find? _ = some sh from hnext]
  dsimp only
  rw [hbell]
  dsimp only
  rw [if_neg (by simp [hreasons, hwhole, hfires, hnum])]
  rfl

theorem strobeRise_blanked {s : State} {g : Nat} {sh : Shot} {b : Int × Int} (hon : powered s Dom.OUT = true)
    (hheld : outputsHeld s Dom.OUT = false) (hnext : strobeNext g s = some sh) (hbell : sh.bell = some b)
    (hnot : (decide (0 ≤ sh.shot) && (blockReasons s sh.shot).isEmpty && sh.whole.isEmpty && sh.groupFires g) = false) :
    strobeRise g s = blankIfOver (suppressStrobe g sh s) := by
  rw [strobeRise, if_neg (by simp [hon, hheld]), show s.shots.find? _ = some sh from hnext]
  dsimp only
  rw [hbell]
  dsimp only
  refine if_pos ?_
  by_cases h0 : 0 ≤ sh.shot
  · cases h1 : (blockReasons s sh.shot).isEmpty with
    | false => simp
    | true =>
      cases h2 : sh.whole.isEmpty with
      | false => simp
      | true => exact .inr (by simpa [h0, h1, h2] using hnot)
  · exact .inl (by omega)

/-- A resume within a stripe that has reached its shot completes; any other stands. -/
theorem resumeFires_cases (n : Int) (s : State) :
    (resumeFires n s = s ∧ ∀ k slot, s.flow.resume = .inStripe k slot → n < k) ∨
    ∃ k slot, s.flow.resume = .inStripe k slot ∧
      resumeFires n s = completeOpt slot .ok [] { s with flow := { s.flow with resume := .none } } := by
  unfold resumeFires
  cases h : s.flow.resume with
  | none => exact .inl ⟨rfl, nofun⟩
  | atTick slot => exact .inl ⟨rfl, nofun⟩
  | inStripe k slot =>
    dsimp only
    split
    · exact .inr ⟨k, slot, rfl, rfl⟩
    · next hk => exact .inl ⟨rfl, fun _ _ e => by cases e; omega⟩

/-- A shot that no reason blanks has been reached by a resume within its stripe. -/
theorem resume_reached {s : State} {n k : Int} {slot : Option (Fin 16)} (hreasons : blockReasons s n = [])
    (hresume : s.flow.resume = .inStripe k slot) : ¬ n < k := by
  intro hlt
  rw [blockReasons, hresume] at hreasons
  simp [hlt] at hreasons

theorem yields_strobeRise_fires {s : State} (g : Fin 8) {sh : Shot} {b : Int × Int} (hon : powered s Dom.OUT = true)
    (hheld : outputsHeld s Dom.OUT = false) (hnext : strobeNext g.val s = some sh) (hbell : sh.bell = some b) (hnum : 0 ≤ sh.shot)
    (hreasons : blockReasons s sh.shot = []) (hwhole : sh.whole = []) (hfires : sh.groupFires g.val = true) :
    Yields (.strobeRise g) s fun t => t.out = { s.out with strobes := s.out.strobes ||| 1 <<< g.val } ∧
      (∀ x ∈ t.shots, x.stripeIdx = sh.stripeIdx → x.shot = sh.shot → x.groups.getD g.val ⟨none, false⟩ =
        ⟨some (b.1 + rndDiv (g.val * b.2) 8 + sh.skew.getD g.val 0), false⟩) ∧
      ((∀ k n, s.flow.resume ≠ .inStripe k n) → Quiet [] s t) ∧
      (∀ k slot, s.flow.resume = .inStripe k slot → t.flow = { s.flow with resume := .none } ∧ t.job = s.job ∧ t.ev = s.ev ∧ DramKept s t ∧
        ∀ n, slot = some n → (slotOf t n).status = Status.ok.code ∨ s.mail.orphan = true) := by
  let u : State := { updShot sh.stripeIdx sh.shot (Shot.setGroup g.val ⟨some (sh.strobeTime g.val b), false⟩) s with
    out := { s.out with strobes := s.out.strobes ||| 1 <<< g.val } }
  have heq : strobeRise g.val s = resumeFires sh.shot u := strobeRise_fires hon hheld hnext hbell hnum hreasons hwhole hfires
  have hrisen : ∀ x ∈ u.shots, x.stripeIdx = sh.stripeIdx → x.shot = sh.shot → x.groups.getD g.val ⟨none, false⟩ =
      ⟨some (b.1 + rndDiv (g.val * b.2) 8 + sh.skew.getD g.val 0), false⟩ := fun x hx hi hn => by
    obtain ⟨y, rfl, -⟩ := mem_updShot hx hi hn
    exact getD_setGroup _ _ y
  have hquiet : Quiet [] s u := ⟨rfl, rfl, rfl, regsKept_of_eq rfl, dramKept_of_eq rfl⟩
  refine ⟨_, congrArg Host.Outcome.next heq, ?_⟩
  rcases resumeFires_cases sh.shot u with ⟨hsame, hbefore⟩ | ⟨k, slot, hresume, hdone⟩
  · rw [hsame]
    exact ⟨rfl, hrisen, fun _ => hquiet, fun k slot hk => absurd (hbefore k slot hk) (resume_reached hreasons hk)⟩
  · rw [hdone]
    refine ⟨by simp [u], fun x hx => hrisen x (by simpa using hx), fun hnone => absurd hresume (hnone k slot), fun k' slot' hk => ?_⟩
    obtain ⟨rfl, rfl⟩ : k = k' ∧ slot = slot' := Resume.inStripe.inj (hresume.symm.trans hk)
    exact ⟨by simp [u], by simp [u], by simp [u], dramKept_of_eq (by simp [u]), fun n hn => status_completeOpt _ _ _ n hn⟩

theorem keepsKey_suppress (g : Nat) (mark : Nat → LaneShot → LaneShot) :
    KeepsKey fun sh => { sh.setGroup g ⟨none, true⟩ with lanes := sh.lanes.mapIdx mark } := fun _ => ⟨rfl, rfl⟩

theorem yields_strobeRise_blanked {s : State} (g : Fin 8) {sh : Shot} {b : Int × Int} (hon : powered s Dom.OUT = true)
    (hheld : outputsHeld s Dom.OUT = false) (hnext : strobeNext g.val s = some sh) (hbell : sh.bell = some b)
    (hnot : (decide (0 ≤ sh.shot) && (blockReasons s sh.shot).isEmpty && sh.whole.isEmpty && sh.groupFires g.val) = false) :
    Yields (.strobeRise g) s fun t => t.out = s.out ∧
      (Quiet [Reg.OUT_STATUS] s t ∧ (s.armed.isSome = true → Quiet [] s t) ∧
        (s.armed = none → s.health.run = none → t.shots.all Shot.strobesOver = true → fbit t Reg.OUT_STATUS_BLANK = true)) ∧
      ∀ x ∈ t.shots, x.stripeIdx = sh.stripeIdx → x.shot = sh.shot → x.groups.getD g.val ⟨none, false⟩ = ⟨none, true⟩ := by
  obtain ⟨hquiet, harmed, hblank, hshots, hout⟩ := blankIfOver_noLonger (suppressStrobe g.val sh s)
  refine ⟨_, congrArg Host.Outcome.next (strobeRise_blanked hon hheld hnext hbell hnot), hout, ⟨hquiet, fun ha => ?_, hblank⟩, fun x hx hi hn => ?_⟩
  · rw [harmed ha]
    exact quiet_updShot _ _ _ _
  · rw [hshots] at hx
    obtain ⟨y, rfl, -⟩ := mem_updShot hx hi hn
    exact getD_setGroup _ _ y

/-- The strobe of group `g` of the shot is high. -/
def Shot.strobeHigh (g : Nat) (sh : Shot) : Bool :=
  match sh.groups.getD g ⟨none, false⟩ with | ⟨some _, false⟩ => true | _ => false

theorem strobeHigh_eq (g : Nat) (sh : Shot) :
    sh.strobeHigh g = ((sh.groups.getD g ⟨none, false⟩).rise.isSome && !(sh.groups.getD g ⟨none, false⟩).fallen) := by
  unfold Shot.strobeHigh
  obtain ⟨rise, fallen⟩ := sh.groups.getD g ⟨none, false⟩
  cases rise <;> cases fallen <;> rfl

/-- The strobe of group `g` of a shot falls. -/
def Shot.fall (g : Nat) (sh : Shot) : Shot := { sh with groups := updAt ⟨none, false⟩ sh.groups g fun x => { x with fallen := true } }

/-- The group's strobe is low. -/
def strobeLow (g : Nat) (s : State) : State :=
  { s with out := { s.out with strobes := s.out.strobes &&& ~~~((1 : BitVec 8) <<< g) } }

theorem strobeFall_eq (g : Nat) (s : State) : strobeFall g s =
    (s.shots.find? (Shot.strobeHigh g)).elim (strobeLow g s)
      fun sh => blankIfOver (updShot sh.stripeIdx sh.shot (Shot.fall g) (strobeLow g s)) := by
  have heq : strobeFall g s = match s.shots.find? (Shot.strobeHigh g) with
      | none => strobeLow g s
      | some sh => blankIfOver (updShot sh.stripeIdx sh.shot (Shot.fall g) (strobeLow g s)) := rfl
  rw [heq]
  cases s.shots.find? (Shot.strobeHigh g) <;> rfl

theorem yields_strobeFall (s : State) (g : Fin 8) :
    Yields (.strobeFall g) s fun t => t.out = { s.out with strobes := s.out.strobes &&& ~~~((1 : BitVec 8) <<< g.val) } ∧
      t.shots.map (·.shot) = s.shots.map (·.shot) ∧ Quiet [Reg.OUT_STATUS] s t ∧
      (s.shots.any (fun sh => (sh.groups.getD g.val ⟨none, false⟩).rise.isSome && !(sh.groups.getD g.val ⟨none, false⟩).fallen) = true →
        Quiet [Reg.OUT_STATUS] s t ∧ (s.armed.isSome = true → Quiet [] s t) ∧
        (s.armed = none → s.health.run = none → t.shots.all Shot.strobesOver = true → fbit t Reg.OUT_STATUS_BLANK = true)) := by
  cases hfind : s.shots.find? (Shot.strobeHigh g.val) with
  | none =>
    have heq : strobeFall g.val s = strobeLow g.val s := by rw [strobeFall_eq, hfind, Option.elim_none]
    refine ⟨_, congrArg Host.Outcome.next heq, rfl, rfl, ⟨rfl, rfl, rfl, regsKept_of_eq rfl, dramKept_of_eq rfl⟩, fun hany => ?_⟩
    obtain ⟨sh, hmem, hhigh⟩ := List.any_eq_true.1 hany
    rw [← strobeHigh_eq] at hhigh
    exact absurd hhigh (List.find?_eq_none.1 hfind sh hmem)
  | some sh =>
    let v : State := updShot sh.stripeIdx sh.shot (Shot.fall g.val) (strobeLow g.val s)
    have heq : strobeFall g.val s = blankIfOver v := by rw [strobeFall_eq, hfind, Option.elim_some]
    obtain ⟨hquiet, harmed, hblank, hshots, hout⟩ := blankIfOver_noLonger v
    refine ⟨_, congrArg Host.Outcome.next heq, hout, ?_, hquiet, fun _ => ⟨hquiet, fun ha => ?_, hblank⟩⟩
    · rw [hshots]
      exact map_shot_updShot (f := Shot.fall g.val) (fun _ => ⟨rfl, rfl⟩) _ _ (strobeLow g.val s)
    · rw [harmed ha]
      exact quiet_updShot sh.stripeIdx sh.shot (Shot.fall g.val) (strobeLow g.val s)

/-! ## Locks, faults and warnings -/

theorem quiet_lanes {lo hi : Nat} (l : Nat) (b : Bool) (f : Lane → Lane) (s : State) :
    Quiet [lo, hi] s (updLane l f (putLanesBit lo hi l b s)) :=
  ⟨by simp, by simp, putLanesBit_ev lo hi l b s, (regsKept_putLanesBit lo hi l b s).trans (regsKept_updLane _ _ _ _), dramKept_of_eq (by simp)⟩

theorem lanesBit_regs {s t : State} (h : t.regs = s.regs) (lo hi i : Nat) : lanesBit t lo hi i = lanesBit s lo hi i := by
  rw [lanesBit, lanesBit, rget_regs_congr h, rget_regs_congr h]

theorem lanesBit_regsKept {ks : List Nat} {s t : State} (h : RegsKept ks s t) {lo hi : Nat} (hlo : lo ∉ ks) (hhi : hi ∉ ks) (i : Nat) :
    lanesBit t lo hi i = lanesBit s lo hi i := by
  rw [lanesBit, lanesBit, h lo hlo, h hi hhi]

theorem yields_returnLaneLock {s : State} (l : Fin 64) (hon : powered s Dom.OUT = true) :
    Yields (.returnLaneLock l) s fun t =>
      lanesBit t Reg.OUT_RX_LOCK_LO Reg.OUT_RX_LOCK_HI l.val = true ∧ (laneState t l.val).watched = true ∧
      (∀ m, m < 64 → m ≠ l.val → lanesBit t Reg.OUT_RX_LOCK_LO Reg.OUT_RX_LOCK_HI m = lanesBit s Reg.OUT_RX_LOCK_LO Reg.OUT_RX_LOCK_HI m) ∧
      Quiet [Reg.OUT_RX_LOCK_LO, Reg.OUT_RX_LOCK_HI] s t := by
  let u := putLanesBit Reg.OUT_RX_LOCK_LO Reg.OUT_RX_LOCK_HI l true s
  have heq : returnLaneLock l.val s = updLane l (fun x => { x with watched := true }) u := if_pos hon
  have hbits : ∀ m, m < 64 → lanesBit (updLane l (fun x => { x with watched := true }) u) Reg.OUT_RX_LOCK_LO Reg.OUT_RX_LOCK_HI m =
      if m = l.val then true else lanesBit s Reg.OUT_RX_LOCK_LO Reg.OUT_RX_LOCK_HI m := fun m hm => by
    rw [lanesBit_regs (by rfl : _ = u.regs)]
    exact lanesBit_putLanesBit (by decide) l.isLt hm true s
  refine ⟨_, congrArg Host.Outcome.next heq, ?_, ?_, fun m hm hne => ?_, quiet_lanes _ _ _ _⟩
  · rw [hbits _ l.isLt, if_pos rfl]
  · rw [laneState_updLane_same]
  · rw [hbits m hm, if_neg hne]

/-- What LINK_LOSS shows after a declaration in `u`, which differs from `s` in a lane and its bit only. -/
theorem lost_of_declared (t0 : Int) {s u : State} (hrun : s.health.run = none) (hhealth : u.health = s.health)
    (hlink : u.out.link = s.out.link) (hev : u.ev = s.ev) (hflow : u.flow = s.flow) (hjob : u.job = s.job) (hdram : u.dram = s.dram) :
    (declareLinkLoss t0 u).out.link.on = true ∧
    (s.out.link.on = false → (declareLinkLoss t0 u).ev = (raise Ev.LINK_LOSS s).ev ∧
      fbit (declareLinkLoss t0 u) Reg.OUT_STATUS_BLANK = true ∧ fbit (declareLinkLoss t0 u) Reg.OUT_STATUS_LINK_LOSS = true) ∧
    (declareLinkLoss t0 u).flow = s.flow ∧ (declareLinkLoss t0 u).job = s.job ∧ DramKept s (declareLinkLoss t0 u) := by
  have hurun : u.health.run = none := by rw [hhealth, hrun]
  obtain ⟨hon, hfirst⟩ := declareLinkLoss_lost t0 hurun
  refine ⟨hon, fun hs => ?_, by simp [hflow], by simp [hjob], dramKept_of_eq (by simp [hdram])⟩
  obtain ⟨hraised, hblank, hshown⟩ := hfirst (by rw [hlink, hs])
  exact ⟨by rw [hraised, raise, hev, raise], hblank, hshown⟩

theorem laneState_declareLinkLoss (t0 : Int) {s : State} (hrun : s.health.run = none) (l : Nat) :
    laneState (declareLinkLoss t0 s) l = laneState s l := by
  obtain ⟨link, hout⟩ := declareLinkLoss_out t0 hrun
  rw [laneState, hout, laneState]

theorem lanesBit_declareLinkLoss (t0 : Int) {s : State} (hrun : s.health.run = none) {lo hi : Nat} (hlo : lo ∉ Reg.OUT_STATUS :: holdNowRegs)
    (hhi : hi ∉ Reg.OUT_STATUS :: holdNowRegs) (i : Nat) : lanesBit (declareLinkLoss t0 s) lo hi i = lanesBit s lo hi i :=
  lanesBit_regsKept (regsKept_declareLinkLoss t0 hrun) hlo hhi i

theorem returnLaneLost_shown {s : State} (l : Fin 64) (t0 : Nat) (hrun : s.health.run = none) (hlock : lanesBit s Reg.OUT_RX_LOCK_LO Reg.OUT_RX_LOCK_HI l.val = true) :
    ∃ u, returnLaneLost l t0 s = declareLinkLoss t0 u ∧ u.health = s.health ∧ u.out = s.out ∧ u.ev = s.ev ∧ u.flow = s.flow ∧ u.job = s.job ∧
      u.dram = s.dram ∧ lanesBit (declareLinkLoss t0 u) Reg.OUT_RX_LOCK_LO Reg.OUT_RX_LOCK_HI l.val = false := by
  refine ⟨putLanesBit Reg.OUT_RX_LOCK_LO Reg.OUT_RX_LOCK_HI l false s, if_pos hlock, putLanesBit_health _ _ _ _ _, putLanesBit_out _ _ _ _ _,
    putLanesBit_ev _ _ _ _ _, by simp, by simp, by simp, ?_⟩
  rw [lanesBit_declareLinkLoss t0 (by rw [putLanesBit_health, hrun]) (by decide) (by decide),
    lanesBit_putLanesBit (by decide) l.isLt l.isLt, if_pos rfl]

theorem txLaneFault_shown {s : State} (l : Fin 64) (t0 : Nat) (hon : powered s Dom.OUT = true) (hrun : s.health.run = none) :
    ∃ u, txLaneFault l t0 s = declareLinkLoss t0 u ∧ u.health = s.health ∧ u.out.link = s.out.link ∧ u.ev = s.ev ∧ u.flow = s.flow ∧
      u.job = s.job ∧ u.dram = s.dram ∧ lanesBit (declareLinkLoss t0 u) Reg.OUT_TX_FAULT_LO Reg.OUT_TX_FAULT_HI l.val = true ∧
      (laneState (declareLinkLoss t0 u) l.val).alarm = true := by
  let v := updLane l (fun x => { x with alarm := true }) s
  let u := putLanesBit Reg.OUT_TX_FAULT_LO Reg.OUT_TX_FAULT_HI l true v
  have hurun : u.health.run = none := by rw [show u.health = s.health from rfl, hrun]
  refine ⟨u, if_pos hon, rfl, rfl, rfl, by simp [u, v], by simp [u, v], by simp [u, v], ?_, ?_⟩
  · rw [lanesBit_declareLinkLoss t0 hurun (by decide) (by decide), lanesBit_putLanesBit (by decide) l.isLt l.isLt, if_pos rfl]
  · rw [laneState_declareLinkLoss t0 hurun, laneState, putLanesBit_out, ← laneState, laneState_updLane_same]

theorem yields_txLaneFaultEnd (s : State) (l : Fin 64) :
    Yields (.txLaneFaultEnd l) s fun t => lanesBit t Reg.OUT_TX_FAULT_LO Reg.OUT_TX_FAULT_HI l.val = !fbit s Reg.CLK_STATUS_OPT ∧
      (laneState t l.val).alarm = false ∧ Quiet [Reg.OUT_TX_FAULT_LO, Reg.OUT_TX_FAULT_HI] s t := by
  let v := updLane l (fun x => { x with alarm := false }) s
  refine ⟨_, rfl, ?_, ?_, by simp [txLaneFaultEnd], by simp [txLaneFaultEnd], rfl, ?_, dramKept_of_eq (by simp [txLaneFaultEnd])⟩
  · exact (lanesBit_putLanesBit (by decide) l.isLt l.isLt _ v).trans (if_pos rfl)
  · rw [txLaneFaultEnd, laneState, putLanesBit_out, ← laneState, laneState_updLane_same]
  · exact (regsKept_updLane _ l (fun x => { x with alarm := false }) s).trans (regsKept_putLanesBit _ _ _ _ v)

theorem yields_linkLossClear {s : State} (h : linkLossMayClear s = true) :
    Yields .linkLossClear s fun t => t.out.link.on = false ∧ fbit t Reg.OUT_STATUS_LINK_LOSS = false ∧
      t.out.link.clearsAt = (if s.armed.isSome then some (nextGathered s) else none) ∧ Quiet [Reg.OUT_STATUS] s t := by
  let u : State := { s with out := { s.out with link := ⟨false, 0, if s.armed.isSome then some (nextGathered s) else none⟩ } }
  have heq : linkLossClear s = fput Reg.OUT_STATUS_LINK_LOSS 0 u := if_pos h
  have hu : RegsKept [Reg.OUT_STATUS] s u := regsKept_of_eq rfl
  refine ⟨_, congrArg Host.Outcome.next heq, by simp [u], fbit_fput u Reg.OUT_STATUS_LINK_LOSS rfl rfl 0, by simp [u], by simp [u], by simp [u], by simp [u],
    hu.trans (regsKept_fput (f := Reg.OUT_STATUS_LINK_LOSS) (List.mem_singleton.2 rfl) 0 u), dramKept_of_eq (by simp [u])⟩

theorem yields_opticsReport_beyond {s : State} (e : Fin 8) {power : List Int} {bias : List Nat} {temp : Int} (hon : powered s Dom.OUT = true)
    (h : opticsBeyond s power bias temp = true) :
    Yields (.opticsReport e power bias temp) s fun t => t.out.opticsArmed = false ∧ t.out.opticsClean = [] ∧
      t.ev = (raiseIf s.out.opticsArmed Ev.OPTICS_WARN s).ev ∧ t.flow = s.flow ∧ t.job = s.job ∧ RegsKept [] s t ∧ DramKept s t := by
  let u : State := { s with out := { s.out with opticsArmed := false, opticsClean := [] } }
  have heq : opticsReport e power bias temp s = raiseIf s.out.opticsArmed Ev.OPTICS_WARN u := by
    rw [opticsReport, if_neg (by simp [hon]), if_pos h]
  refine ⟨_, congrArg Host.Outcome.next heq, ?_⟩
  cases s.out.opticsArmed
  · exact ⟨rfl, rfl, rfl, rfl, rfl, regsKept_of_eq rfl, dramKept_of_eq rfl⟩
  · exact ⟨rfl, rfl, rfl, rfl, rfl, regsKept_of_eq rfl, dramKept_of_eq rfl⟩

theorem yields_opticsReport_clean {s : State} (e : Fin 8) {power : List Int} {bias : List Nat} {temp : Int} (hon : powered s Dom.OUT = true)
    (h : opticsBeyond s power bias temp = false) :
    Yields (.opticsReport e power bias temp) s fun t =>
      t.out.opticsClean = ((List.range 8).map fun i => min 1000 (s.out.opticsClean.getD i 0 + if i = e.val then 1 else 0)) ∧
      t.out.opticsArmed = (s.out.opticsArmed || t.out.opticsClean.all (· == 1000)) ∧ Quiet [] s t := by
  let clean := (List.range 8).map fun i => min 1000 (s.out.opticsClean.getD i 0 + if i = e.val then 1 else 0)
  have heq : opticsReport e power bias temp s =
      { s with out := { s.out with opticsClean := clean, opticsArmed := s.out.opticsArmed || clean.all (· == 1000) } } := by
    rw [opticsReport, if_neg (by simp [hon]), if_neg (by simp [h])]
  exact ⟨_, congrArg Host.Outcome.next heq, rfl, rfl, rfl, rfl, rfl, regsKept_of_eq rfl, dramKept_of_eq rfl⟩

/-- While the outputs are off nothing is watched. -/
theorem unwatched {s : State} (l : Fin 64) (t0 : Nat) (e : Fin 8) (power : List Int) (bias : List Nat) (temp : Int) (hoff : powered s Dom.OUT = false) :
    ∀ i ∈ [Instr.returnLaneLock l, .returnLockTimeout l t0, .txLaneFault l t0, .opticsReport e power bias temp], Yields i s fun t => t = s := by
  simp only [List.forall_mem_cons, List.not_mem_nil, false_implies, implies_true, and_true]
  refine ⟨⟨_, rfl, ?_⟩, ⟨_, rfl, ?_⟩, ⟨_, rfl, ?_⟩, ⟨_, rfl, ?_⟩⟩
  · exact if_neg (by simp [hoff])
  · exact if_neg (by simp [hoff])
  · exact if_neg (by simp [hoff])
  · exact if_pos (by simp [hoff])

theorem yields_idleFrame_none {s : State} (t0 : Nat) (h : powered s Dom.OUT = false ∨ s.armed.isSome = true ∨ s.health.run.isSome = true) :
    Yields (.idleFrame t0) s fun t => t = s := by
  refine ⟨_, rfl, if_pos ?_⟩
  rcases h with h | h | h
  · simp [h]
  · simp [h]
  · simp [h]

/-- Settles O46. -/
theorem lanesSendAndAreWatched : Obligations.LanesSendAndAreWatched := by
  refine ⟨fun s => ⟨fun l t0 h => yields_frameStart_idle l t0 h, fun l t0 sh hon hdue => yields_frameStart l t0 hon hdue,
    fun t0 h => yields_idleFrame_none t0 h, fun t0 hon harmed hrun => ⟨_, rfl, if_neg (by simp [hon, harmed, hrun])⟩,
    fun g => ⟨fun h => yields_strobeRise_idle g h, fun sh b hon hheld hnext hbell => ⟨fun hfires => ?_,
      fun hnot => yields_strobeRise_blanked g hon hheld hnext hbell hnot⟩⟩, fun g => yields_strobeFall s g⟩,
    fun s l t0 e power bias temp => ⟨unwatched l t0 e power bias temp, yields_returnLaneLock l, fun hlock hrun => ?_,
      fun hlock => ⟨_, rfl, if_neg (by simp [hlock])⟩, fun hon hrun => ⟨fun hw => ?_, fun hw => ⟨_, rfl, if_neg (by simp [hw])⟩, ?_⟩,
      yields_txLaneFaultEnd s l, yields_linkLossClear, fun h => ⟨_, rfl, if_neg (by simp [h])⟩,
      fun hon => ⟨yields_opticsReport_beyond e hon, yields_opticsReport_clean e hon⟩⟩⟩
  · simp only [Bool.and_eq_true, decide_eq_true_eq, List.isEmpty_iff] at hfires
    obtain ⟨⟨⟨hnum, hreasons⟩, hwhole⟩, hgroup⟩ := hfires
    exact yields_strobeRise_fires g hon hheld hnext hbell hnum hreasons hwhole hgroup
  · obtain ⟨u, heq, hhealth, hout, hev, hflow, hjob, hdram, hbit⟩ := returnLaneLost_shown l t0 hrun hlock
    exact ⟨_, congrArg Host.Outcome.next heq, hbit, lost_of_declared _ hrun hhealth (by rw [hout]) hev hflow hjob hdram⟩
  · let u := updLane l (fun x => { x with watched := true }) s
    have heq : returnLockTimeout l t0 s = declareLinkLoss t0 u := if_pos (by simp [hon, hw])
    refine ⟨_, congrArg Host.Outcome.next heq, ?_, lost_of_declared _ hrun rfl rfl rfl rfl rfl rfl⟩
    rw [laneState_declareLinkLoss _ (s := u) hrun, laneState_updLane_same]
  · obtain ⟨u, heq, hhealth, hlink, hev, hflow, hjob, hdram, hbit, halarm⟩ := txLaneFault_shown l t0 hon hrun
    exact ⟨_, congrArg Host.Outcome.next heq, hbit, halarm, lost_of_declared _ hrun hhealth hlink hev hflow hjob hdram⟩

end Sys2Proof.Machine
end

section
/-!
PROOFS. What a Hold that is requested leaves, the axes of the position input, and their marks (O37).
-/

namespace Sys2Proof.Machine

/-! ## A Hold that is requested changes registers, the flow, events, the mailboxes and the Hold sets sent -/

/-- Beside registers, the flow, the events, the mailboxes and the Hold sets on the wire the state is as it was. -/
def HoldParts (s t : State) : Prop :=
  t = { s with regs := t.regs, flow := t.flow, ev := t.ev, mail := t.mail, coh := { s.coh with sentHold := t.coh.sentHold } }

theorem HoldParts.trans {s t u : State} (h : HoldParts s t) (h' : HoldParts t u) : HoldParts s u := by
  unfold HoldParts at *
  generalize u.regs = regs, u.flow = flow, u.ev = ev, u.mail = mail, u.coh.sentHold = sent at h'
  rw [h', h]

theorem holdParts_sendHoldSet (s : State) : HoldParts s (sendHoldSet s) := by
  have hsend : ∀ src id (u : State) (p : Port), HoldParts u (sendHoldOn src id u p) := fun src id u p => by
    unfold sendHoldOn
    split <;> rfl
  unfold sendHoldSet
  dsimp only
  split
  · exact HoldParts.trans (t := fput _ _ s) rfl ((hsend _ _ _ Port.east).trans (hsend _ _ _ Port.west))
  · rfl

theorem holdParts_completeOpt (n : Option (Fin 16)) (st : Status) (p : List Byte) (s : State) : HoldParts s (completeOpt n st p s) := by
  unfold completeOpt
  split
  · unfold complete
    split
    · rfl
    · unfold freeCurrent fputBit
      (repeat' split) <;> rfl
  · rfl

theorem holdParts_cancelResume (s : State) : HoldParts s (cancelResume s) := by
  unfold cancelResume
  split
  · dsimp only
    refine HoldParts.trans ?_ (holdParts_completeOpt _ _ _ _)
    split
    · split
      · exact HoldParts.trans (t := raise Ev.HOLD (fput Reg.OUT_STATUS_BLANK 1 _)) rfl (holdParts_sendHoldSet _)
      · rfl
    · rfl
  · rfl

theorem holdParts_requestHold (n : Nat) (s : State) : HoldParts s (requestHold n s) := by
  have h : HoldParts s (cancelResume (setCause n s)) := HoldParts.trans (t := setCause n s) rfl (holdParts_cancelResume _)
  unfold requestHold
  dsimp only
  split
  · exact h.trans rfl
  · split
    · exact h.trans rfl
    · exact h

/-! ## The bits of POS_STATUS -/

/-- The fields of POS_STATUS that the axes and the marks use. -/
def statusFields : List Field :=
  [Reg.POS_STATUS_VALID_Y, Reg.POS_STATUS_VALID_X, Reg.POS_STATUS_VALID_YAW, Reg.POS_STATUS_LOCK, Reg.POS_STATUS_REVERSED]

theorem validField_mem (a : Axis) : validField a ∈ statusFields := by cases a <;> decide

theorem validField_reg (a : Axis) : (validField a).reg = Reg.POS_STATUS := by cases a <;> rfl

theorem statusFields_apart : ∀ f ∈ statusFields, ∀ g ∈ statusFields,
    f.ok = true ∧ f.hi = f.lo ∧ g.lo ≤ g.hi ∧ (g ≠ f → g.hi < f.lo ∨ f.hi < g.lo) := by decide

theorem fbit_fput_status {f g : Field} (hf : f ∈ statusFields) (hg : g ∈ statusFields) (v : Nat) (s : State) :
    fbit (fput f v s) g = if g = f then v % 2 == 1 else fbit s g := by
  obtain ⟨hok, hone, hle, hapart⟩ := statusFields_apart f hf g hg
  split
  · next h => rw [h, fbit_fput s f hok hone]
  · next h => rw [fbit_fput_beside s f g hok v (hapart h) hle]

theorem validField_inj {a b : Axis} : validField a = validField b ↔ a = b := by
  cases a <;> cases b <;> decide

theorem validField_beside {a : Axis} {g : Field} (hg : g = Reg.POS_STATUS_LOCK ∨ g = Reg.POS_STATUS_REVERSED) : g ≠ validField a := by
  rcases hg with rfl | rfl <;> cases a <;> decide

theorem fbit_regsKept {ks : List Nat} {s t : State} (h : RegsKept ks s t) {f : Field} (hf : f.reg ∉ ks) : fbit t f = fbit s f := by
  rw [fbit, h.fget hf, fbit]

/-! ## An axis that is faulted or invalidated -/

theorem stopStage_pos (s : State) : (stopStage s).pos = s.pos ∧ (stopStage s).armed = s.armed := by
  have hstop : ∀ n u, (stopChan n u).pos = u.pos ∧ (stopChan n u).armed = u.armed := fun n u => by
    rw [stopChan_eq]
    exact ⟨rfl, rfl⟩
  exact ⟨(hstop 1 _).1.trans (hstop 0 s).1, (hstop 1 _).2.trans (hstop 0 s).2⟩

theorem regsKept_stopStage (s : State) : RegsKept stageRegs s (stopStage s) :=
  ((regsKept_stopChan (by decide) s).trans (regsKept_stopChan (by decide) _)).trans fun _ _ => rfl

/-- What the fault of axis `a` does: the axis is invalid, and of the positions only the record of faults has moved. -/
structure AxisFaulted (a : Axis) (s t : State) : Prop where
  pos : t.pos = { s.pos with faulted := t.pos.faulted }
  armed : t.armed = s.armed
  valid : ∀ b, axisValid t b = (axisValid s b && decide (b ≠ a))
  status : ∀ g, g = Reg.POS_STATUS_LOCK ∨ g = Reg.POS_STATUS_REVERSED → fbit t g = fbit s g
  regs : RegsKept (Reg.POS_STATUS :: stageRegs) s t
  quiet : a ≠ .y ∨ s.armed = none → RegsKept [Reg.POS_STATUS] s t

theorem axisFaulted_faultAxis (a : Axis) (s : State) : AxisFaulted a s (faultAxis a s) := by
  let u : State := { s with pos := { s.pos with faulted := a :: s.pos.faulted.filter (· != a) } }
  have hbit : ∀ g ∈ statusFields, fbit (faultAxis a s) g = if g = validField a then false else fbit s g := fun g hg =>
    fbit_fput_status (validField_mem a) hg 0 u
  have hregs : ∀ ks, Reg.POS_STATUS ∈ ks → RegsKept ks s (faultAxis a s) := fun ks hk =>
    RegsKept.trans (t := u) (regsKept_of_eq rfl) ((regsKept_fput (f := validField a) (by rw [validField_reg]; exact hk) 0 u).trans (regsKept_of_eq rfl))
  refine ⟨rfl, rfl, fun b => ?_, fun g hg => ?_, hregs _ List.mem_cons_self, fun _ => hregs _ List.mem_cons_self⟩
  · rw [axisValid, hbit _ (validField_mem b), axisValid]
    by_cases h : b = a <;> simp [h, validField_inj]
  · rw [hbit g (by rcases hg with rfl | rfl <;> decide), if_neg (validField_beside hg)]

theorem axisFaulted_invalidate (a : Axis) (s : State) : AxisFaulted a s (invalidate a s) := by
  have hfault := axisFaulted_faultAxis a s
  cases hvalid : axisValid s a with
  | false =>
    rw [invalidate, if_neg (by simp [hvalid])]
    refine ⟨rfl, rfl, fun b => ?_, fun _ _ => rfl, regsKept_of_eq rfl, fun _ => regsKept_of_eq rfl⟩
    by_cases h : b = a
    · simp [h, hvalid]
    · simp [h]
  | true =>
    by_cases hstop : a = .y ∧ (faultAxis a s).armed.isSome = true
    · have heq : invalidate a s = stopStage (faultAxis a s) := by rw [invalidate, if_pos hvalid, if_pos hstop]
      obtain ⟨hpos, harmed⟩ := stopStage_pos (faultAxis a s)
      have hregs := regsKept_stopStage (faultAxis a s)
      rw [heq]
      refine ⟨by rw [hpos]; exact hfault.pos, harmed.trans hfault.armed, fun b => ?_, fun g hg => ?_,
        hfault.regs.trans (hregs.mono (List.subset_cons_self _ _)), fun hquiet => ?_⟩
      · rw [axisValid, fbit_regsKept hregs (by rw [validField_reg]; decide), ← axisValid, hfault.valid]
      · rw [fbit_regsKept hregs (by rcases hg with rfl | rfl <;> decide), hfault.status g hg]
      · obtain ⟨hy, harm⟩ := hstop
        rw [hfault.armed] at harm
        rcases hquiet with h | h
        · exact absurd hy h
        · simp [h] at harm
    · have heq : invalidate a s = faultAxis a s := by rw [invalidate, if_pos hvalid, if_neg hstop]
      rw [heq]
      exact hfault

theorem invalidate_ev (a : Axis) (s : State) : (invalidate a s).ev = (raiseIf (axisValid s a) Ev.POS_FAULT s).ev := by
  cases hvalid : axisValid s a with
  | false =>
    rw [invalidate, if_neg (by simp [hvalid])]
    rfl
  | true =>
    have hraised : (faultAxis a s).ev = (raise Ev.POS_FAULT s).ev := rfl
    rw [invalidate, if_pos hvalid]
    dsimp only
    split
    · simp [hraised, raiseIf]
    · exact hraised

/-! ## Changes of the axes that leave their counts -/

/-- The counts and the marks stand, and what the module does. -/
structure AxesAged (s t : State) : Prop where
  counts : t.pos = { s.pos with
    y := { s.pos.y with age := t.pos.y.age }, x := { s.pos.x with age := t.pos.x.age }, yaw := { s.pos.yaw with age := t.pos.yaw.age },
    faulted := t.pos.faulted }
  armed : t.armed = s.armed
  flow : t.flow = s.flow
  job : t.job = s.job
  prog : t.prog = s.prog
  dram : t.dram = s.dram
  status : ∀ g, g = Reg.POS_STATUS_LOCK ∨ g = Reg.POS_STATUS_REVERSED → fbit t g = fbit s g
  regs : RegsKept (Reg.POS_STATUS :: stageRegs) s t
  quiet : s.armed = none → RegsKept [Reg.POS_STATUS] s t

theorem AxesAged.trans {s t u : State} (h : AxesAged s t) (h' : AxesAged t u) : AxesAged s u where
  counts := by
    have hu := h'.counts
    generalize u.pos.y.age = ya, u.pos.x.age = xa, u.pos.yaw.age = wa, u.pos.faulted = faulted at hu
    rw [hu, h.counts]
  armed := h'.armed.trans h.armed
  flow := h'.flow.trans h.flow
  job := h'.job.trans h.job
  prog := h'.prog.trans h.prog
  dram := h'.dram.trans h.dram
  status g hg := (h'.status g hg).trans (h.status g hg)
  regs := h.regs.trans h'.regs
  quiet hs := (h.quiet hs).trans (h'.quiet (h.armed.trans hs))

theorem axesAged_invalidate (a : Axis) (s : State) : AxesAged s (invalidate a s) := by
  have h := axisFaulted_invalidate a s
  exact ⟨by rw [h.pos], h.armed, by simp, by simp, by simp, by simp, h.status, h.regs, fun hs => h.quiet (.inr hs)⟩

theorem axesAged_age (a : Axis) (f : Nat → Nat) (s : State) : AxesAged s (updAxis a (fun x => { x with age := f x.age }) s) := by
  cases a <;> exact ⟨rfl, rfl, rfl, rfl, rfl, rfl, fun _ _ => rfl, regsKept_of_eq rfl, fun _ => regsKept_of_eq rfl⟩

/-! ## Crossings and the high-water mark -/

/-- Of the positions only the marks have moved, and what the module does stands. -/
structure Crossed (s t : State) : Prop where
  pos : t.pos = { s.pos with hwm := t.pos.hwm, warnArmed := t.pos.warnArmed }
  armed : t.armed.isSome = s.armed.isSome
  flow : t.flow = s.flow
  job : t.job = s.job
  dram : t.dram = s.dram
  regs : RegsKept [Reg.BELL_XING_MIN] s t

theorem Crossed.trans {s t u : State} (h : Crossed s t) (h' : Crossed t u) : Crossed s u where
  pos := by
    have hu := h'.pos
    generalize u.pos.hwm = hwm, u.pos.warnArmed = warn at hu
    rw [hu, h.pos]
  armed := h'.armed.trans h.armed
  flow := h'.flow.trans h.flow
  job := h'.job.trans h.job
  dram := h'.dram.trans h.dram
  regs := h.regs.trans h'.regs

/-- What an interval between two crossings shows: the smallest is kept, and one at or below the guard warns once. -/
theorem crossingInterval_shows (d : Nat) (s : State) : let t := crossingInterval d s
    t.pos = { s.pos with warnArmed := t.pos.warnArmed } ∧ t.armed = s.armed ∧
    fget t Reg.BELL_XING_MIN_STEPS = min (fget s Reg.BELL_XING_MIN_STEPS) (min (2 ^ 32 - 1) d) ∧
    (d ≤ fget s Reg.BELL_GUARD_STEPS → t.pos.warnArmed = false ∧ t.ev = (raiseIf s.pos.warnArmed Ev.OVERSPEED_WARN s).ev) ∧
    (fget s Reg.BELL_GUARD_STEPS < d → t.ev = s.ev ∧
      t.pos.warnArmed = (s.pos.warnArmed || decide (fget s Reg.BELL_GUARD_STEPS + fget s Reg.BELL_GUARD_STEPS / 64 < d))) ∧
    RegsKept [Reg.BELL_XING_MIN] s t := by
  let u := fmin Reg.BELL_XING_MIN_STEPS d s
  have hmin : fget u Reg.BELL_XING_MIN_STEPS = min (fget s Reg.BELL_XING_MIN_STEPS) (min (2 ^ 32 - 1) d) := by
    refine (fget_fput_same s Reg.BELL_XING_MIN_STEPS rfl _).trans (Nat.mod_eq_of_lt ?_)
    have h : min (fget s Reg.BELL_XING_MIN_STEPS) (min (2 ^ 32 - 1) d) ≤ 2 ^ 32 - 1 := (min_le_right _ _).trans (min_le_left _ _)
    exact lt_of_le_of_lt h (by decide)
  have hkept : RegsKept [Reg.BELL_XING_MIN] s u := regsKept_fput (f := Reg.BELL_XING_MIN_STEPS) (List.mem_singleton.2 rfl) _ s
  by_cases hlow : d ≤ fget s Reg.BELL_GUARD_STEPS
  · have heq : crossingInterval d s = raiseIf s.pos.warnArmed Ev.OVERSPEED_WARN { u with pos := { u.pos with warnArmed := false } } := if_pos hlow
    rw [heq]
    refine ⟨?_, ?_, ?_, fun _ => ?_, fun h => absurd hlow (by omega), ?_⟩
    all_goals cases s.pos.warnArmed
    · rfl
    · rfl
    · rfl
    · rfl
    · exact hmin
    · exact hmin
    · exact ⟨rfl, rfl⟩
    · exact ⟨rfl, rfl⟩
    · exact hkept.trans (regsKept_of_eq rfl)
    · exact hkept.trans (regsKept_of_eq rfl)
  by_cases hfar : fget s Reg.BELL_GUARD_STEPS + fget s Reg.BELL_GUARD_STEPS / 64 < d
  · have heq : crossingInterval d s = { u with pos := { u.pos with warnArmed := true } } := (if_neg hlow).trans (if_pos hfar)
    rw [heq]
    exact ⟨rfl, rfl, hmin, fun h => absurd h hlow, fun _ => ⟨rfl, by simp [hfar]⟩, hkept.trans (regsKept_of_eq rfl)⟩
  · have heq : crossingInterval d s = u := (if_neg hlow).trans (if_neg hfar)
    rw [heq]
    exact ⟨rfl, rfl, hmin, fun h => absurd h hlow, fun _ => ⟨rfl, by simp [hfar, u, fmin]⟩, hkept⟩

theorem crossed_crossingInterval (d : Nat) (s : State) : Crossed s (crossingInterval d s) := by
  obtain ⟨hpos, harmed, -, -, -, hregs⟩ := crossingInterval_shows d s
  exact ⟨by rw [hpos], by rw [harmed], by simp, by simp, by simp, hregs⟩

theorem crossed_noteCrossing (n : Int) (tc tdet : Nat) (s : State) :
    Crossed s (noteCrossing n tc tdet s) ∧ (noteCrossing n tc tdet s).pos.hwm = s.pos.hwm := by
  have hupd : ∀ f (u : State), Crossed u (updArmed f u) := fun f u => ⟨rfl, by simp [updArmed], rfl, rfl, rfl, regsKept_of_eq rfl⟩
  unfold noteCrossing
  cases harmed : s.armed with
  | none => exact ⟨⟨rfl, rfl, rfl, rfl, rfl, regsKept_of_eq rfl⟩, rfl⟩
  | some a =>
    dsimp only
    cases a.lastTc with
    | none => exact ⟨hupd _ s, rfl⟩
    | some t =>
      dsimp only
      obtain ⟨hpos, -⟩ := crossingInterval_shows (tc - t) s
      exact ⟨(crossed_crossingInterval _ s).trans (hupd _ _), show (crossingInterval (tc - t) s).pos.hwm = s.pos.hwm by rw [hpos]⟩

theorem crossed_raiseMark (u : Int) (tcOf : Int → Nat) (tdet : Nat) (s : State) :
    Crossed s (raiseMark u tcOf tdet s) ∧ (s.armed.isSome = true → (raiseMark u tcOf tdet s).pos.hwm = max s.pos.hwm u) := by
  have hfold : ∀ (is : List Nat) (g : Nat → Int) (tc : Nat → Nat) (v : State),
      Crossed v (is.foldl (fun s i => noteCrossing (g i) (tc i) tdet s) v) ∧
      (is.foldl (fun s i => noteCrossing (g i) (tc i) tdet s) v).pos.hwm = v.pos.hwm := by
    intro is g tc
    induction is with
    | nil => exact fun v => ⟨⟨rfl, rfl, rfl, rfl, rfl, regsKept_of_eq rfl⟩, rfl⟩
    | cons i is ih =>
      intro v
      obtain ⟨hcross, hhwm⟩ := crossed_noteCrossing (g i) (tc i) tdet v
      obtain ⟨hrest, hrhwm⟩ := ih (noteCrossing (g i) (tc i) tdet v)
      exact ⟨hcross.trans hrest, hrhwm.trans hhwm⟩
  by_cases hidle : (s.armed.isNone || decide (u ≤ s.pos.hwm)) = true
  · have heq : raiseMark u tcOf tdet s = s := if_pos hidle
    rw [heq]
    refine ⟨⟨rfl, rfl, rfl, rfl, rfl, regsKept_of_eq rfl⟩, fun ha => ?_⟩
    obtain ⟨a, harmed⟩ := Option.isSome_iff_exists.1 ha
    have hle : u ≤ s.pos.hwm := by simpa [harmed] using hidle
    exact (max_eq_left hle).symm
  · let v : State := { s with pos := { s.pos with hwm := u } }
    have hv : Crossed s v := ⟨rfl, rfl, rfl, rfl, rfl, regsKept_of_eq rfl⟩
    rw [raiseMark, if_neg hidle]
    obtain ⟨hcross, hhwm⟩ := hfold _ _ _ v
    refine ⟨hv.trans hcross, fun _ => hhwm.trans ?_⟩
    have hlt : s.pos.hwm < u := by simp at hidle; omega
    exact (max_eq_right hlt.le).symm

/-! ## Reversal -/

/-- What the marks leave: the counts, the validity of the axes, the samples and the receiver. -/
structure MarksOnly (s t : State) : Prop where
  pos : t.pos = { s.pos with hwm := t.pos.hwm, warnArmed := t.pos.warnArmed }
  valid : ∀ a, axisValid t a = axisValid s a
  job : t.job = s.job
  dram : t.dram = s.dram

theorem Crossed.marksOnly {s t : State} (h : Crossed s t) : MarksOnly s t :=
  ⟨h.pos, fun a => fbit_regsKept h.regs (by rw [validField_reg]; decide), h.job, h.dram⟩

theorem MarksOnly.trans {s t u : State} (h : MarksOnly s t) (h' : MarksOnly t u) : MarksOnly s u where
  pos := by
    have hu := h'.pos
    generalize u.pos.hwm = hwm, u.pos.warnArmed = warn at hu
    rw [hu, h.pos]
  valid a := (h'.valid a).trans (h.valid a)
  job := h'.job.trans h.job
  dram := h'.dram.trans h.dram

/-- The scan has gone back by more than the jitter window, for the first time in its stripe. -/
def reverses (u : Int) (s : State) : Bool :=
  s.armed.isSome && decide ((bits s.pos.jitter.toNat 7 0 : Int) < s.pos.hwm - u) && !fbit s Reg.POS_STATUS_REVERSED

theorem checkReversal_marks (u : Int) (s : State) : MarksOnly s (checkReversal u s) ∧ (checkReversal u s).pos.hwm = s.pos.hwm ∧
    (reverses u s = true → hasCause (checkReversal u s) 2 = true ∧ (checkReversal u s).ev.bits.getLsbD Ev.REVERSAL = true ∧
      fbit (checkReversal u s) Reg.POS_STATUS_REVERSED = true) := by
  cases h : reverses u s with
  | false =>
    have heq : checkReversal u s = s := if_neg (by rw [show (_ && _ && _) = _ from h]; simp)
    rw [heq]
    exact ⟨⟨rfl, fun _ => rfl, rfl, rfl⟩, rfl, nofun⟩
  | true =>
    let v := fput Reg.POS_STATUS_REVERSED 1 s
    let w := stopStage (raise Ev.REVERSAL v)
    have heq : checkReversal u s = requestHold 2 w := if_pos h
    have hwv : RegsKept stageRegs v w := (regsKept_of_eq (raise_regs Ev.REVERSAL v)).trans (regsKept_stopStage _)
    have hbits : ∀ g ∈ statusFields, fbit (requestHold 2 w) g = fbit v g := fun g hg => by
      have hreg : g.reg = Reg.POS_STATUS := by revert g; decide
      rw [fbit_regsKept (regsKept_requestHold 2 w) (by rw [hreg]; decide), fbit_regsKept hwv (by rw [hreg]; decide)]
    have hpos : (requestHold 2 w).pos = s.pos := by
      rw [holdParts_requestHold 2 w]
      exact (stopStage_pos _).1
    have hstands := eventsStand_requestHold 2 w
    rw [heq]
    refine ⟨⟨by rw [hpos], fun a => ?_, by simp [w, v], by simp [w, v]⟩, by rw [hpos], fun _ => ⟨?_, ?_, ?_⟩⟩
    · rw [axisValid, hbits _ (validField_mem a), fbit_fput_status (by decide) (validField_mem a), if_neg (validField_beside (.inr rfl)).symm, axisValid]
    · rw [hasCause, requestHold_causes, ← hasCause, hasCause_setCause (by decide)]
      simp
    · refine hstands _ ?_
      have hw : w.ev = (raise Ev.REVERSAL v).ev := by simp [w]
      rw [hw]
      exact raise_raises (by decide) v
    · rw [hbits _ (by decide), fbit_fput_status (by decide) (by decide)]
      rfl

/-- A Y count at `u` raises the mark and checks for a reversal. -/
theorem marks_moved (u : Int) (tcOf : Int → Nat) (tdet : Nat) (s : State) : let t := checkReversal u (raiseMark u tcOf tdet s)
    MarksOnly s t ∧ (s.armed = none → t = s) ∧
    (s.armed.isSome = true → t.pos.hwm = max s.pos.hwm u ∧
      (fbit s Reg.POS_STATUS_REVERSED = false → ((bits s.pos.jitter.toNat 7 0 : Nat) : Int) < s.pos.hwm - u →
        hasCause t 2 = true ∧ t.ev.bits.getLsbD Ev.REVERSAL = true ∧ fbit t Reg.POS_STATUS_REVERSED = true)) := by
  obtain ⟨hcross, hmark⟩ := crossed_raiseMark u tcOf tdet s
  obtain ⟨hmarks, hhwm, hreverse⟩ := checkReversal_marks u (raiseMark u tcOf tdet s)
  refine ⟨hcross.marksOnly.trans hmarks, fun hnone => ?_, fun harmed => ⟨hhwm.trans (hmark harmed), fun hrev hback => hreverse ?_⟩⟩
  · have hraise : raiseMark u tcOf tdet s = s := if_pos (by simp [hnone])
    rw [hraise]
    exact if_neg (by simp [hnone])
  · have hjitter : (raiseMark u tcOf tdet s).pos.jitter = s.pos.jitter := by rw [hcross.pos]
    have hsame : max s.pos.hwm u = s.pos.hwm := max_eq_left (by omega)
    rw [reverses, hcross.armed, harmed, hjitter, hmark harmed, hsame, fbit_regsKept hcross.regs (by decide), hrev]
    simpa using hback

/-! ## Counts that are set -/

theorem wrap40_signed (v : Nat) : wrap40 (signed 40 v) = signed 40 v := by
  have h : (v : Int) % 1099511627776 = ((v % 1099511627776 : Nat) : Int) := by omega
  simp only [wrap40, signed, unsigned]
  norm_num
  split <;> omega

theorem axisOf_setCount (a b : Axis) (v : Int) (s : State) :
    axisOf (setCount a v s) b = if b = a then { axisOf s a with count := wrap40 v } else axisOf s b := by
  cases a <;> cases b <;> rfl

theorem setCount_keeps (a : Axis) (v : Int) (s : State) : let t := setCount a v s
    t.pos.hwm = s.pos.hwm ∧ t.pos.jitter = s.pos.jitter ∧ t.armed = s.armed ∧ t.regs = s.regs := by
  cases a <;> exact ⟨rfl, rfl, rfl, rfl⟩

theorem MarksOnly.axes {s t : State} (h : MarksOnly s t) (a : Axis) : axisOf t a = axisOf s a := by
  have hpos := h.pos
  generalize t.pos.hwm = hwm, t.pos.warnArmed = warn at hpos
  cases a <;> simp only [axisOf, hpos]

theorem axisValid_regs {s t : State} (h : t.regs = s.regs) (a : Axis) : axisValid t a = axisValid s a := by
  rw [axisValid, fbit, fget_congr (rget_regs_congr h _), ← fbit, ← axisValid]

/-- With a stripe armed, a Y count of `y` has raised the high-water mark, and a first excursion beyond the jitter window holds. -/
def Marked (s t : State) (y : Int) : Prop :=
  ∀ e, s.armed.isSome = true → curEntry s = some e →
    t.pos.hwm = max s.pos.hwm (progressOf e y) ∧
    (fbit s Reg.POS_STATUS_REVERSED = false → ((bits s.pos.jitter.toNat 7 0 : Nat) : Int) < s.pos.hwm - progressOf e y →
      hasCause t 2 = true ∧ t.ev.bits.getLsbD Ev.REVERSAL = true ∧ fbit t Reg.POS_STATUS_REVERSED = true)

theorem marked_of_no_entry {s : State} (h : curEntry s = none) (t : State) (y : Int) : Marked s t y := fun e _ he => by
  rw [h] at he
  cases he

theorem marked_of_entry {s v : State} {e : StripeEntry} (hentry : curEntry s = some e) (hhwm : v.pos.hwm = s.pos.hwm)
    (hjitter : v.pos.jitter = s.pos.jitter) (harmed : v.armed = s.armed)
    (hrev : fbit v Reg.POS_STATUS_REVERSED = fbit s Reg.POS_STATUS_REVERSED) (y : Int) (tcOf : Int → Nat) (tdet : Nat) :
    Marked s (checkReversal (progressOf e y) (raiseMark (progressOf e y) tcOf tdet v)) y := by
  intro e' ha he
  rw [hentry] at he
  cases he
  obtain ⟨-, -, hmarks⟩ := marks_moved (progressOf e y) tcOf tdet v
  rw [harmed, hhwm, hjitter, hrev] at hmarks
  exact hmarks ha

/-! ## Quadrature -/

/-- Whether the positions are tracked at all. -/
def tracks (s : State) : Bool := s.flow.mode != .boot && s.flow.mode != .rest && powered s Dom.GATH

theorem untracked {s : State} (h : tracks s = false) : (s.flow.mode = .boot ∨ s.flow.mode = .rest) ∨ powered s Dom.GATH = false := by
  rw [tracks, Bool.and_eq_false_iff, Bool.and_eq_false_iff] at h
  simpa [bne] using h

theorem quadEdge_idle {s : State} (a : Axis) (m : QuadMove) (st det : Nat)
    (h : pwsForm s = true ∨ tracks s = false ∨ edgeHeld s a st det = false) : quadEdge a m st det s = s := by
  refine if_pos ?_
  rcases h with h | h | h
  · simp [h]
  · rcases untracked h with (h | h) | h <;> simp [h]
  · simp [h]

theorem tracked_guard {s : State} {a : Axis} {st det : Nat} (hform : pwsForm s = false) (htrack : tracks s = true) (hheld : edgeHeld s a st det = true) :
    ¬ (pwsForm s || s.flow.mode == .boot || s.flow.mode == .rest || !powered s Dom.GATH || !edgeHeld s a st det) = true := by
  rw [tracks, Bool.and_eq_true, Bool.and_eq_true] at htrack
  obtain ⟨⟨hboot, hrest⟩, hon⟩ := htrack
  simp_all [bne]

/-- Edges on both pins at once are counted and leave the axis invalid. -/
theorem yields_quadEdge_both {s : State} (a : Axis) (st det : Nat) (hform : pwsForm s = false) (htrack : tracks s = true) (hheld : edgeHeld s a st det = true) :
    Yields (.quadEdge a .both st det) s fun t =>
      fget t Reg.POS_QUAD_ERR_COUNT = min 65535 (fget s Reg.POS_QUAD_ERR_COUNT + 1) ∧ axisValid t a = false ∧ axisOf t a = axisOf s a ∧
      (∀ b, b ≠ a → axisValid t b = axisValid s b) ∧ t.ev = (raise Ev.POS_FAULT s).ev ∧ t.flow = s.flow ∧ (t.job = s.job ∧ DramKept s t) ∧
      (a ≠ .y ∨ s.armed = none → RegsKept [Reg.POS_QUAD_ERR, Reg.POS_STATUS] s t) := by
  let u := fcount Reg.POS_QUAD_ERR_COUNT 1 s
  have heq : quadEdge a .both st det s = faultAxis a (invalidate a u) := if_neg (tracked_guard hform htrack hheld)
  have hinv := axisFaulted_invalidate a u
  have hfault := axisFaulted_faultAxis a (invalidate a u)
  have hcount : RegsKept [Reg.POS_QUAD_ERR] s u := regsKept_fput (f := Reg.POS_QUAD_ERR_COUNT) (List.mem_singleton.2 rfl) _ s
  have hpos : (faultAxis a (invalidate a u)).pos = { s.pos with faulted := (faultAxis a (invalidate a u)).pos.faulted } := by
    rw [hfault.pos, hinv.pos]
    rfl
  have hvalid : ∀ b, axisValid u b = axisValid s b := fun b => fbit_regsKept hcount (by rw [validField_reg]; decide)
  refine ⟨_, congrArg Host.Outcome.next heq, ?_, ?_, ?_, fun b hb => ?_, ?_, by simp [u], ⟨by simp [u], dramKept_of_eq (by simp [u])⟩, fun hquiet => ?_⟩
  · rw [hfault.regs.fget (f := Reg.POS_QUAD_ERR_COUNT) (by decide), hinv.regs.fget (f := Reg.POS_QUAD_ERR_COUNT) (by decide)]
    exact fget_fcount (f := Reg.POS_QUAD_ERR_COUNT) rfl 1 s
  · rw [hfault.valid]
    simp
  · generalize (faultAxis a (invalidate a u)).pos.faulted = faulted at hpos
    cases a <;> simp only [axisOf, hpos]
  · rw [hfault.valid, hinv.valid, hvalid]
    simp [hb]
  · have hraised : (invalidate a u).ev = (raiseIf (axisValid u a) Ev.POS_FAULT s).ev := by
      rw [invalidate_ev]
      cases axisValid u a <;> rfl
    have hev : (faultAxis a (invalidate a u)).ev = (raise Ev.POS_FAULT (invalidate a u)).ev := rfl
    rw [hev, raise, hraised]
    cases axisValid u a
    · rfl
    · simp [raiseIf, raise, BitVec.or_assoc]
  · have harmed : (invalidate a u).armed = s.armed := hinv.armed
    have hfirst : RegsKept [Reg.POS_QUAD_ERR, Reg.POS_STATUS] u (invalidate a u) := (hinv.quiet hquiet).mono (by decide)
    have hsecond : RegsKept [Reg.POS_QUAD_ERR, Reg.POS_STATUS] (invalidate a u) (faultAxis a (invalidate a u)) :=
      (hfault.quiet (harmed.symm ▸ hquiet)).mono (by decide)
    exact ((hcount.mono (by decide)).trans hfirst).trans hsecond

/-- The axis counts to `c`, and the sample of `stamp` is kept. -/
def counted (a : Axis) (c : Int) (stamp : Nat) (s : State) : State := keepSample stamp (setCount a c s)

theorem counted_keeps (a : Axis) (c : Int) (stamp : Nat) (s : State) : let t := counted a c stamp s
    (∀ b, axisOf t b = if b = a then { axisOf s a with count := wrap40 c } else axisOf s b) ∧
    t.pos.samples.head? = some ⟨stamp, t.pos.y.count, t.pos.x.count, t.pos.yaw.count⟩ ∧ t.pos.hwm = s.pos.hwm ∧ t.pos.jitter = s.pos.jitter ∧
    t.armed = s.armed ∧ t.regs = s.regs ∧ t.flow = s.flow ∧ t.ev = s.ev ∧ t.job = s.job ∧ t.dram = s.dram ∧ t.prog = s.prog := by
  obtain ⟨hhwm, hjitter, harmed, hregs⟩ := setCount_keeps a c s
  have hkept : ∀ u b, axisOf (keepSample stamp u) b = axisOf u b := fun u b => by cases b <;> rfl
  exact ⟨fun b => (hkept _ b).trans (axisOf_setCount a b c s), rfl, hhwm, hjitter, harmed, hregs,
    by simp [counted], by simp [counted], by simp [counted], by simp [counted], by simp [counted]⟩

/-- The count that an edge makes. -/
def edgeCount (a : Axis) (m : QuadMove) (s : State) : Int := (axisOf s a).count + if (m == .up) == axisInv s a then -1 else 1

theorem quadEdge_counts {s : State} (a : Axis) (m : QuadMove) (st det : Nat) (hform : pwsForm s = false) (htrack : tracks s = true)
    (hheld : edgeHeld s a st det = true) (hm : m ≠ .both) : quadEdge a m st det s =
      if a = .y then (curEntry (counted a (edgeCount a m s) st s)).elim (counted a (edgeCount a m s) st s) fun e =>
        let v := counted a (edgeCount a m s) st s
        checkReversal (progressOf e v.pos.y.count) (raiseMark (progressOf e v.pos.y.count) (fun _ => st) det v)
      else counted a (edgeCount a m s) st s := by
  have hcount : ∀ up : Bool, (axisOf s a).count + (if (up != axisInv s a) = true then 1 else -1) =
      (axisOf s a).count + if (up == axisInv s a) = true then -1 else 1 := fun up => by
    cases up <;> cases axisInv s a <;> rfl
  unfold quadEdge
  rw [if_neg (tracked_guard hform htrack hheld)]
  cases m
  case both => exact absurd rfl hm
  all_goals
    dsimp only
    rw [hcount, ← edgeCount, ← counted]
    split
    · cases curEntry _ <;> rfl
    · rfl

/-- An edge on one pin counts, in its sense. -/
theorem yields_quadEdge {s : State} (a : Axis) (m : QuadMove) (st det : Nat) (hform : pwsForm s = false) (htrack : tracks s = true)
    (hheld : edgeHeld s a st det = true) (hm : m ≠ .both) :
    Yields (.quadEdge a m st det) s fun t =>
      (axisOf t a).count = wrap40 ((axisOf s a).count + if (m == .up) == axisInv s a then -1 else 1) ∧
      (∀ b, b ≠ a → axisOf t b = axisOf s b) ∧ (∀ b, axisValid t b = axisValid s b) ∧
      t.pos.samples.head? = some ⟨st, t.pos.y.count, t.pos.x.count, t.pos.yaw.count⟩ ∧ (t.job = s.job ∧ DramKept s t) ∧
      (a ≠ .y ∨ s.armed = none → t.pos.hwm = s.pos.hwm ∧ Quiet [] s t) ∧ (a = .y → Marked s t t.pos.y.count) := by
  let v := counted a (edgeCount a m s) st s
  obtain ⟨haxes, hsample, hhwm, hjitter, harmed, hregs, hflow, hev, hjob, hdram, hprog⟩ := counted_keeps a (edgeCount a m s) st s
  have hquiet : v.pos.hwm = s.pos.hwm ∧ Quiet [] s v := ⟨hhwm, hflow, hjob, hev, regsKept_of_eq hregs, dramKept_of_eq hdram⟩
  have hentry : curEntry v = curEntry s := curEntry_congr hjob hprog
  have htail : ∀ t, MarksOnly v t → (a ≠ .y ∨ s.armed = none → t = v) → (a = .y → Marked s t t.pos.y.count) →
      (axisOf t a).count = wrap40 ((axisOf s a).count + if (m == .up) == axisInv s a then -1 else 1) ∧
      (∀ b, b ≠ a → axisOf t b = axisOf s b) ∧ (∀ b, axisValid t b = axisValid s b) ∧
      t.pos.samples.head? = some ⟨st, t.pos.y.count, t.pos.x.count, t.pos.yaw.count⟩ ∧ (t.job = s.job ∧ DramKept s t) ∧
      (a ≠ .y ∨ s.armed = none → t.pos.hwm = s.pos.hwm ∧ Quiet [] s t) ∧ (a = .y → Marked s t t.pos.y.count) := by
    intro t hmarks hsame hmarked
    refine ⟨?_, fun b hb => ?_, fun b => ?_, ?_, ⟨hmarks.job.trans hjob, dramKept_of_eq (hmarks.dram.trans hdram)⟩, fun h => ?_, hmarked⟩
    · rw [hmarks.axes, haxes, if_pos rfl]
      rfl
    · rw [hmarks.axes, haxes, if_neg hb]
    · rw [hmarks.valid, axisValid_regs hregs]
    · rw [hmarks.pos]
      exact hsample
    · rw [hsame h]
      exact hquiet
  refine ⟨_, congrArg Host.Outcome.next (quadEdge_counts a m st det hform htrack hheld hm), ?_⟩
  by_cases hy : a = .y
  · rw [if_pos hy, hentry]
    cases he : curEntry s with
    | none => exact htail v ⟨rfl, fun _ => rfl, rfl, rfl⟩ (fun _ => rfl) fun _ => marked_of_no_entry he _ _
    | some e =>
      obtain ⟨hmarks, hidle, -⟩ := marks_moved (progressOf e v.pos.y.count) (fun _ => st) det v
      refine htail _ hmarks (fun h => hidle (harmed.trans (h.resolve_left fun hne => hne hy))) fun _ => ?_
      have hcount : ∀ t, MarksOnly v t → t.pos.y.count = v.pos.y.count := fun t ht => congrArg AxisState.count (ht.axes .y)
      rw [Option.elim_some]
      dsimp only
      rw [hcount _ hmarks]
      exact marked_of_entry he hhwm hjitter harmed (by rw [fbit, fget_congr (rget_regs_congr hregs _), fbit]) _ _ _
  · rw [if_neg hy]
    exact htail v ⟨rfl, fun _ => rfl, rfl, rfl⟩ (fun _ => rfl) fun h => absurd h hy

/-! ## POS_SET -/

/-- The axis that POS_SET_CMD names. -/
def setAxis (k : Nat) : Axis := if k = 0 then .y else if k = 1 then .x else .yaw

/-- Whether POS_SET_CMD is taken: in quadrature form, in the modes of R187, and for one of the three axes. -/
def setTaken (k : Nat) (s : State) : Bool :=
  !pwsForm s && (modeIn s [.ready, .hold, .service] || inState s .write .recess) && decide (k ≤ 2)

theorem posSet_guard (k : Nat) (s : State) :
    (pwsForm s || !(modeIn s [.ready, .hold, .service] || inState s .write .recess) || decide (2 < k)) = !setTaken k s := by
  have hk : decide (2 < k) = !decide (k ≤ 2) := by
    by_cases h : k ≤ 2
    · simp [h]
    · simp [h, Nat.lt_of_not_le h]
  rw [setTaken, hk]
  cases pwsForm s <;> simp

/-- The axis counts what POS_SET holds, and is valid. -/
def axisSet (a : Axis) (s : State) : State := fput (validField a) 1 (setCount a (signed 40 (rget64 s Reg.POS_SET_LO Reg.POS_SET_HI)) s)

theorem axisSet_keeps (a : Axis) (s : State) : let t := axisSet a s
    (∀ b, axisOf t b = if b = a then { axisOf s a with count := signed 40 (rget64 s Reg.POS_SET_LO Reg.POS_SET_HI) } else axisOf s b) ∧
    (∀ b, axisValid t b = (axisValid s b || decide (b = a))) ∧ t.pos.hwm = s.pos.hwm ∧ t.pos.jitter = s.pos.jitter ∧ t.armed = s.armed ∧
    fbit t Reg.POS_STATUS_REVERSED = fbit s Reg.POS_STATUS_REVERSED ∧ t.job = s.job ∧ t.prog = s.prog ∧ t.dram = s.dram ∧ Quiet [Reg.POS_STATUS] s t := by
  let u := setCount a (signed 40 (rget64 s Reg.POS_SET_LO Reg.POS_SET_HI)) s
  obtain ⟨hhwm, hjitter, harmed, hregs⟩ := setCount_keeps a (signed 40 (rget64 s Reg.POS_SET_LO Reg.POS_SET_HI)) s
  have hkept : ∀ b, axisOf (axisSet a s) b = axisOf u b := fun b => by cases b <;> rfl
  have hu : RegsKept [Reg.POS_STATUS] s u := regsKept_of_eq hregs
  refine ⟨fun b => ?_, fun b => ?_, hhwm, hjitter, harmed, ?_, by simp [axisSet], by simp [axisSet], by simp [axisSet],
    by simp [axisSet], by simp [axisSet], by simp [axisSet], hu.trans (regsKept_fput (f := validField a) (by simp [validField_reg]) 1 u),
    dramKept_of_eq (by simp [axisSet])⟩
  · rw [hkept, axisOf_setCount, wrap40_signed]
  · rw [axisSet, axisValid, fbit_fput_status (validField_mem a) (validField_mem b), ← axisValid, axisValid_regs hregs]
    by_cases h : b = a <;> simp [h, validField_inj]
  · rw [axisSet, fbit_fput_status (validField_mem a) (by decide), if_neg (validField_beside (.inr rfl)), fbit, fget_congr (rget_regs_congr hregs _), fbit]

theorem posSet_taken {s : State} {k : Nat} (h : setTaken k s = true) : posSet k s =
    if setAxis k = .y then (curEntry (axisSet (setAxis k) s)).elim (axisSet (setAxis k) s) fun e =>
      let v := signed 40 (rget64 s Reg.POS_SET_LO Reg.POS_SET_HI)
      checkReversal (progressOf e v) (raiseMark (progressOf e v) (fun _ => freeNat (axisSet (setAxis k) s)) (freeNat (axisSet (setAxis k) s))
        (useFree (axisSet (setAxis k) s)))
    else axisSet (setAxis k) s := by
  unfold posSet
  dsimp only
  rw [posSet_guard, if_neg (by simp [h]), ← setAxis, ← axisSet]
  split
  · cases curEntry _ <;> rfl
  · rfl

theorem yields_posSet {s : State} {k : Nat} (h : setTaken k s = true) :
    Yields (.posSet k) s fun t =>
      (axisOf t (setAxis k)).count = signed 40 (rget64 s Reg.POS_SET_LO Reg.POS_SET_HI) ∧ axisValid t (setAxis k) = true ∧
      (∀ b, b ≠ setAxis k → axisOf t b = axisOf s b ∧ axisValid t b = axisValid s b) ∧ (t.job = s.job ∧ DramKept s t) ∧
      (setAxis k ≠ .y ∨ s.armed = none → Quiet [Reg.POS_STATUS] s t) ∧ (setAxis k = .y → Marked s t t.pos.y.count) := by
  let a := setAxis k
  let v := axisSet a s
  obtain ⟨haxes, hvalid, hhwm, hjitter, harmed, hrev, hjob, hprog, hdram, hquiet⟩ := axisSet_keeps a s
  have hentry : curEntry v = curEntry s := curEntry_congr hjob hprog
  have htail : ∀ t, MarksOnly v t → (a ≠ .y ∨ s.armed = none → Quiet [Reg.POS_STATUS] s t) → (a = .y → Marked s t t.pos.y.count) →
      (axisOf t a).count = signed 40 (rget64 s Reg.POS_SET_LO Reg.POS_SET_HI) ∧ axisValid t a = true ∧
      (∀ b, b ≠ a → axisOf t b = axisOf s b ∧ axisValid t b = axisValid s b) ∧ (t.job = s.job ∧ DramKept s t) ∧
      (a ≠ .y ∨ s.armed = none → Quiet [Reg.POS_STATUS] s t) ∧ (a = .y → Marked s t t.pos.y.count) := by
    intro t hmarks hq hmarked
    refine ⟨?_, ?_, fun b hb => ⟨?_, ?_⟩, ⟨hmarks.job.trans hjob, dramKept_of_eq (hmarks.dram.trans hdram)⟩, hq, hmarked⟩
    · rw [hmarks.axes, haxes, if_pos rfl]
    · rw [hmarks.valid, hvalid]
      simp
    · rw [hmarks.axes, haxes, if_neg hb]
    · rw [hmarks.valid, hvalid]
      simp [hb]
  refine ⟨_, congrArg Host.Outcome.next (posSet_taken h), ?_⟩
  by_cases hy : a = .y
  · rw [if_pos hy, hentry]
    cases he : curEntry s with
    | none => exact htail v ⟨rfl, fun _ => rfl, rfl, rfl⟩ (fun _ => hquiet) fun _ => marked_of_no_entry he _ _
    | some e =>
      rw [Option.elim_some]
      dsimp only
      obtain ⟨hmarks, hidle, -⟩ := marks_moved (progressOf e (signed 40 (rget64 s Reg.POS_SET_LO Reg.POS_SET_HI))) (fun _ => freeNat v) (freeNat v) (useFree v)
      have hfree : MarksOnly v (useFree v) := ⟨rfl, fun _ => rfl, rfl, rfl⟩
      have hcount : ∀ t, MarksOnly v t → t.pos.y.count = signed 40 (rget64 s Reg.POS_SET_LO Reg.POS_SET_HI) := fun t ht => by
        have hy' : axisOf t .y = _ := (ht.axes .y).trans (haxes .y)
        rw [if_pos hy.symm] at hy'
        exact congrArg AxisState.count hy'
      refine htail _ (hfree.trans hmarks) (fun hn => ?_) fun _ => ?_
      · rw [hidle (harmed.trans (hn.resolve_left fun hne => hne hy))]
        exact hquiet
      · rw [hcount _ (hfree.trans hmarks)]
        exact marked_of_entry (v := useFree v) he hhwm hjitter harmed hrev _ _ _
  · rw [if_neg hy]
    exact htail v ⟨rfl, fun _ => rfl, rfl, rfl⟩ (fun _ => hquiet) fun hy' => absurd hy' hy

/-! ## The Position Word Stream -/

theorem axisValid_invalidate (a b : Axis) (s : State) : axisValid (invalidate a s) b = (axisValid s b && decide (b ≠ a)) :=
  (axisFaulted_invalidate a s).valid b

/-- One axis of a discarded frame grows older, and is invalid past the limit. -/
def ageAxis (lim : Nat) (s : State) (a : Axis) : State :=
  let s := updAxis a (fun x => { x with age := x.age + 1 }) s
  if lim < (axisOf s a).age then invalidate a s else s

theorem axesAged_ageAxis (lim : Nat) (a : Axis) (s : State) : AxesAged s (ageAxis lim s a) := by
  have hage := axesAged_age a (· + 1) s
  unfold ageAxis
  dsimp only
  split
  · exact hage.trans (axesAged_invalidate a _)
  · exact hage

/-- A frame that is discarded is counted, and the axes grow older. -/
theorem pwsDiscard_discards (s : State) : AxesAged (fcount Reg.POS_PWS_ERR_FRAMES 1 s) (pwsDiscard s) ∧
    fget (pwsDiscard s) Reg.POS_PWS_ERR_FRAMES = min 65535 (fget s Reg.POS_PWS_ERR_FRAMES + 1) := by
  let u := fcount Reg.POS_PWS_ERR_FRAMES 1 s
  have haged : AxesAged u (pwsDiscard s) :=
    ((axesAged_ageAxis (actPwsTimeout u.pos.pwsCfg) .y u).trans (axesAged_ageAxis _ .x _)).trans (axesAged_ageAxis _ .yaw _)
  refine ⟨haged, ?_⟩
  rw [haged.regs.fget (f := Reg.POS_PWS_ERR_FRAMES) (by decide)]
  exact fget_fcount (f := Reg.POS_PWS_ERR_FRAMES) rfl 1 s

/-- The loss of lock leaves every axis invalid. -/
theorem pwsUnlock_unlocks (s : State) : AxesAged (fput Reg.POS_STATUS_LOCK 0 s) (pwsUnlock s) ∧
    fbit (pwsUnlock s) Reg.POS_STATUS_LOCK = false ∧ ∀ a, axisValid (pwsUnlock s) a = false := by
  have haged : AxesAged (fput Reg.POS_STATUS_LOCK 0 s) (pwsUnlock s) :=
    ((axesAged_invalidate .y _).trans (axesAged_invalidate .x _)).trans (axesAged_invalidate .yaw _)
  refine ⟨haged, ?_, fun a => ?_⟩
  · rw [haged.status _ (.inl rfl)]
    exact fbit_fput_status (by decide) (by decide) 0 s
  · simp only [pwsUnlock, axes, List.foldl_cons, List.foldl_nil, axisValid_invalidate]
    cases a <;> simp

/-- One axis is valid when the frame says so. -/
def validAs (b : Bool) (a : Axis) (s : State) : State :=
  if b then fput (validField a) 1 (updAxis a (fun x => { x with age := 0 }) s) else invalidate a s

theorem validAs_shows (b : Bool) (a : Axis) (s : State) :
    AxesAged s (validAs b a s) ∧ ∀ c, axisValid (validAs b a s) c = if c = a then b else axisValid s c := by
  cases b with
  | false =>
    refine ⟨axesAged_invalidate a s, fun c => (axisValid_invalidate a c s).trans ?_⟩
    by_cases h : c = a <;> simp [h]
  | true =>
    let u := updAxis a (fun x => { x with age := 0 }) s
    have hu := axesAged_age a (fun _ => 0) s
    have hput : AxesAged u (fput (validField a) 1 u) := by
      have hregs : ∀ ks, Reg.POS_STATUS ∈ ks → RegsKept ks u (fput (validField a) 1 u) := fun ks hk =>
        regsKept_fput (f := validField a) (by rw [validField_reg]; exact hk) 1 u
      refine ⟨rfl, rfl, rfl, rfl, rfl, rfl, fun g hg => ?_, hregs _ List.mem_cons_self, fun _ => hregs _ List.mem_cons_self⟩
      rw [fbit_fput_status (validField_mem a) (by rcases hg with rfl | rfl <;> decide), if_neg (validField_beside hg)]
    refine ⟨hu.trans hput, fun c => ?_⟩
    have hbit : axisValid (fput (validField a) 1 u) c = _ := fbit_fput_status (validField_mem a) (validField_mem c) 1 u
    refine hbit.trans ?_
    have huregs : axisValid u c = axisValid s c := axisValid_regs (by cases a <;> rfl) c
    rw [← axisValid, huregs]
    by_cases h : c = a <;> simp [h, validField_inj]

theorem pwsValid_shows (d1 : BitVec 80) (s : State) : AxesAged s (pwsValid d1 s) ∧ axisValid (pwsValid d1 s) .y = d1.getLsbD 56 ∧
    axisValid (pwsValid d1 s) .x = d1.getLsbD 57 ∧ axisValid (pwsValid d1 s) .yaw = d1.getLsbD 58 := by
  have heq : pwsValid d1 s = validAs (d1.getLsbD 58) .yaw (validAs (d1.getLsbD 57) .x (validAs (d1.getLsbD 56) .y s)) := rfl
  obtain ⟨hyaw, hyawv⟩ := validAs_shows (d1.getLsbD 58) .yaw (validAs (d1.getLsbD 57) .x (validAs (d1.getLsbD 56) .y s))
  obtain ⟨hx, hxv⟩ := validAs_shows (d1.getLsbD 57) .x (validAs (d1.getLsbD 56) .y s)
  obtain ⟨hy, hyv⟩ := validAs_shows (d1.getLsbD 56) .y s
  rw [heq]
  exact ⟨(hy.trans hx).trans hyaw, by rw [hyawv, hxv, hyv]; rfl, by rw [hyawv, hxv]; rfl, by rw [hyawv]; rfl⟩

/-- A frame that is discarded is counted, and the counts and the mark stand. -/
def Discarded (s t : State) : Prop :=
  fget t Reg.POS_PWS_ERR_FRAMES = min 65535 (fget s Reg.POS_PWS_ERR_FRAMES + 1) ∧
  t.pos.y.count = s.pos.y.count ∧ t.pos.x.count = s.pos.x.count ∧ t.pos.yaw.count = s.pos.yaw.count ∧ t.pos.hwm = s.pos.hwm ∧ t.flow = s.flow ∧
  (s.armed = none → t.flow = s.flow ∧ RegsKept [Reg.POS_STATUS, Reg.POS_PWS_ERR] s t) ∧ (t.job = s.job ∧ DramKept s t)

theorem AxesAged.stands {s t : State} (h : AxesAged s t) : t.pos.y.count = s.pos.y.count ∧ t.pos.x.count = s.pos.x.count ∧
    t.pos.yaw.count = s.pos.yaw.count ∧ t.pos.hwm = s.pos.hwm ∧ t.pos.jitter = s.pos.jitter ∧ t.pos.pws = s.pos.pws ∧ t.pos.samples = s.pos.samples := by
  rw [h.counts]
  exact ⟨rfl, rfl, rfl, rfl, rfl, rfl, rfl⟩

theorem discarded_pwsDiscard {s v : State} (hpos : v.pos = { s.pos with pws := v.pos.pws }) (harmed : v.armed = s.armed)
    (hflow : v.flow = s.flow) (hjob : v.job = s.job) (hdram : v.dram = s.dram) (hregs : RegsKept [Reg.POS_STATUS] s v) :
    Discarded s (pwsDiscard v) := by
  obtain ⟨haged, hframes⟩ := pwsDiscard_discards v
  let u := fcount Reg.POS_PWS_ERR_FRAMES 1 v
  have hcount : RegsKept [Reg.POS_PWS_ERR] v u := regsKept_fput (f := Reg.POS_PWS_ERR_FRAMES) (List.mem_singleton.2 rfl) _ v
  obtain ⟨hy, hx, hyaw, hhwm, -⟩ := haged.stands
  have hupos : u.pos = { s.pos with pws := v.pos.pws } := hpos
  refine ⟨?_, by rw [hy, hupos], by rw [hx, hupos], by rw [hyaw, hupos], by rw [hhwm, hupos], haged.flow.trans hflow, fun hnone => ⟨haged.flow.trans hflow, ?_⟩,
    haged.job.trans hjob, dramKept_of_eq (haged.dram.trans hdram)⟩
  · rw [hframes, hregs.fget (f := Reg.POS_PWS_ERR_FRAMES) (by decide)]
  · exact ((hregs.mono (by decide)).trans (hcount.mono (by decide))).trans ((haged.quiet (harmed.trans hnone)).mono (by decide))

theorem discarded_unlock {s d : State} (h : Discarded s d) (harmed : d.armed = s.armed) : Discarded s (pwsUnlock d) := by
  obtain ⟨hframes, hy, hx, hyaw, hhwm, hflow, hquiet, hjob, hdram⟩ := h
  obtain ⟨haged, -⟩ := pwsUnlock_unlocks d
  obtain ⟨hy', hx', hyaw', hhwm', -⟩ := haged.stands
  have hput : RegsKept [Reg.POS_STATUS] d (fput Reg.POS_STATUS_LOCK 0 d) := regsKept_fput (f := Reg.POS_STATUS_LOCK) (List.mem_singleton.2 rfl) 0 d
  have hframes' : fget (pwsUnlock d) Reg.POS_PWS_ERR_FRAMES = fget d Reg.POS_PWS_ERR_FRAMES := by
    rw [haged.regs.fget (f := Reg.POS_PWS_ERR_FRAMES) (by decide), hput.fget (f := Reg.POS_PWS_ERR_FRAMES) (by decide)]
  refine ⟨hframes'.trans hframes, hy'.trans hy, hx'.trans hx, hyaw'.trans hyaw, hhwm'.trans hhwm, haged.flow.trans hflow, fun hnone => ⟨haged.flow.trans hflow, ?_⟩,
    haged.job.trans hjob, fun a => ?_⟩
  · exact ((hquiet hnone).2.trans (hput.mono (by decide))).trans ((haged.quiet (harmed.trans hnone)).mono (by decide))
  · rw [← hdram a, dramByte, dramByte, haged.dram]
    rfl

/-- The state with the counts of the receiver's run of frames. -/
def framed (good bad : Nat) (s : State) : State := { s with pos := { s.pos with pws := { s.pos.pws with good, bad } } }

theorem pwsForm_guard {s : State} (hform : pwsForm s = true) (htrack : tracks s = true) :
    ¬ (!pwsForm s || s.flow.mode == .boot || s.flow.mode == .rest || !powered s Dom.GATH) = true := by
  rw [tracks, Bool.and_eq_true, Bool.and_eq_true] at htrack
  obtain ⟨⟨hboot, hrest⟩, hon⟩ := htrack
  simp_all [bne]

theorem pwsFrame_idle {s : State} (d0 d1 : BitVec 80) (at' : Nat) (h : pwsForm s = false ∨ tracks s = false) : pwsFrame d0 d1 at' s = s := by
  refine if_pos ?_
  rcases h with h | h
  · simp [h]
  · rcases untracked h with (h | h) | h <;> simp [h]

/-- A good frame that is not used is discarded, and brings lock as the fourth of a run. -/
theorem yields_pwsFrame_unused {s : State} (d0 d1 : BitVec 80) (at' : Nat) (hform : pwsForm s = true) (htrack : tracks s = true)
    (hgood : pwsFrameGood d0 d1 = true) (hunused : fbit s Reg.POS_STATUS_LOCK = false ∨ d1.getLsbD 59 = true) :
    Yields (.pwsFrame d0 d1 at') s fun t => Discarded s t ∧ t.pos.pws.good = s.pos.pws.good + 1 ∧
      fbit t Reg.POS_STATUS_LOCK = (fbit s Reg.POS_STATUS_LOCK || decide (3 ≤ s.pos.pws.good)) := by
  let v := framed (s.pos.pws.good + 1) 0 s
  have hdrops : ∀ w : State, w.pos = v.pos → w.armed = s.armed → w.flow = s.flow → w.job = s.job → w.dram = s.dram → RegsKept [Reg.POS_STATUS] s w →
      fbit w Reg.POS_STATUS_LOCK = (fbit s Reg.POS_STATUS_LOCK || decide (3 ≤ s.pos.pws.good)) →
      Discarded s (pwsDiscard w) ∧ (pwsDiscard w).pos.pws.good = s.pos.pws.good + 1 ∧
        fbit (pwsDiscard w) Reg.POS_STATUS_LOCK = (fbit s Reg.POS_STATUS_LOCK || decide (3 ≤ s.pos.pws.good)) := by
    intro w hpos harmed hflow hjob hdram hregs hlock
    obtain ⟨haged, -⟩ := pwsDiscard_discards w
    obtain ⟨-, -, -, -, -, hpws, -⟩ := haged.stands
    have hw : RegsKept [Reg.POS_PWS_ERR] w (fcount Reg.POS_PWS_ERR_FRAMES 1 w) := regsKept_fput (f := Reg.POS_PWS_ERR_FRAMES) (List.mem_singleton.2 rfl) _ w
    refine ⟨discarded_pwsDiscard (by rw [hpos]; rfl) harmed hflow hjob hdram hregs, ?_, ?_⟩
    · rw [hpws, show (fcount Reg.POS_PWS_ERR_FRAMES 1 w).pos = w.pos from rfl, hpos]
      rfl
    · rw [haged.status _ (.inl rfl), fbit_regsKept hw (by decide), hlock]
  have hvlock : fbit v Reg.POS_STATUS_LOCK = fbit s Reg.POS_STATUS_LOCK := rfl
  have hframe : ∀ w, w = (if fbit s Reg.POS_STATUS_LOCK = true then v else if 4 ≤ s.pos.pws.good + 1 then fput Reg.POS_STATUS_LOCK 1 v else v) →
      pwsFrame d0 d1 at' s = pwsDiscard w := by
    intro w hw
    rw [pwsFrame, if_neg (pwsForm_guard hform htrack)]
    dsimp only
    rw [if_pos hgood, ← framed, hw]
    split
    · next hlock =>
      have herror := hunused.resolve_left (by simp [hlock])
      rw [if_pos herror]
    · rfl
  refine ⟨_, congrArg Host.Outcome.next (hframe _ rfl), ?_⟩
  cases hlock : fbit s Reg.POS_STATUS_LOCK with
  | true =>
    rw [if_pos rfl]
    exact hlock ▸ hdrops v rfl rfl rfl rfl rfl (regsKept_of_eq rfl) (by rw [hvlock, hlock]; rfl)
  | false =>
    rw [if_neg Bool.false_ne_true]
    by_cases hfour : 4 ≤ s.pos.pws.good + 1
    · rw [if_pos hfour]
      have hregs : RegsKept [Reg.POS_STATUS] s v := regsKept_of_eq rfl
      refine hlock ▸ hdrops (fput Reg.POS_STATUS_LOCK 1 v) rfl rfl rfl rfl rfl (hregs.trans (regsKept_fput (f := Reg.POS_STATUS_LOCK) (List.mem_singleton.2 rfl) 1 v)) ?_
      rw [fbit_fput v Reg.POS_STATUS_LOCK rfl rfl, hlock, decide_eq_true (by omega : 3 ≤ s.pos.pws.good)]
      rfl
    · rw [if_neg hfour]
      refine hlock ▸ hdrops v rfl rfl rfl rfl rfl (regsKept_of_eq rfl) ?_
      rw [hvlock, hlock, decide_eq_false (by omega : ¬ 3 ≤ s.pos.pws.good)]
      rfl

/-- A bad frame is discarded, and the fourth of a run ends the lock. -/
theorem yields_pwsFrame_bad {s : State} (d0 d1 : BitVec 80) (at' : Nat) (hform : pwsForm s = true) (htrack : tracks s = true)
    (hbad : pwsFrameGood d0 d1 = false) :
    Yields (.pwsFrame d0 d1 at') s fun t => Discarded s t ∧ t.pos.pws.good = 0 ∧
      (fbit s Reg.POS_STATUS_LOCK = true → 3 ≤ s.pos.pws.bad → fbit t Reg.POS_STATUS_LOCK = false ∧ ∀ a, axisValid t a = false) := by
  let v := framed 0 (s.pos.pws.bad + 1) s
  have hdrop : Discarded s (pwsDiscard v) := discarded_pwsDiscard rfl rfl rfl rfl rfl (regsKept_of_eq rfl)
  obtain ⟨haged, -⟩ := pwsDiscard_discards v
  obtain ⟨-, -, -, -, -, hpws, -⟩ := haged.stands
  obtain ⟨huaged, hunlocked, hinvalid⟩ := pwsUnlock_unlocks (pwsDiscard v)
  obtain ⟨-, -, -, -, -, hupws, -⟩ := huaged.stands
  have hgood : (pwsDiscard v).pos.pws.good = 0 := by rw [hpws]; rfl
  have heq : pwsFrame d0 d1 at' s = if fbit s Reg.POS_STATUS_LOCK && decide (4 ≤ s.pos.pws.bad + 1) then pwsUnlock (pwsDiscard v) else pwsDiscard v := by
    rw [pwsFrame, if_neg (pwsForm_guard hform htrack)]
    dsimp only
    rw [if_neg (by simp [hbad])]
    rfl
  refine ⟨_, congrArg Host.Outcome.next heq, ?_⟩
  by_cases hends : (fbit s Reg.POS_STATUS_LOCK && decide (4 ≤ s.pos.pws.bad + 1)) = true
  · rw [if_pos hends]
    refine ⟨discarded_unlock hdrop haged.armed, ?_, fun _ _ => ⟨hunlocked, hinvalid⟩⟩
    rw [hupws]
    exact hgood
  · rw [if_neg hends]
    refine ⟨hdrop, hgood, fun hlock hthree => absurd ?_ hends⟩
    rw [hlock, decide_eq_true (by omega : 4 ≤ s.pos.pws.bad + 1)]
    rfl

/-- The counts of a used frame, with its sequence number and latch instant, before the axes' validity. -/
def pwsTaken (d0 d1 : BitVec 80) (at' : Nat) (s : State) : State :=
  let v := pwsGap (bits d1.toNat 67 64) s
  pwsTake (bits d1.toNat 67 64) (at' - pwsSkew s) (pwsCount v .y (bits d0.toNat 47 8))
    (pwsCount v .x (bits d0.toNat 79 48 + 2 ^ 32 * bits d1.toNat 15 8)) (pwsCount v .yaw (bits d1.toNat 55 16)) v

theorem pwsGap_keeps (seq : Nat) (s : State) : let t := pwsGap seq s
    t.pos = s.pos ∧ t.armed = s.armed ∧ t.flow = s.flow ∧ t.job = s.job ∧ t.prog = s.prog ∧ t.dram = s.dram ∧ RegsKept [Reg.POS_PWS_ERR] s t := by
  unfold pwsGap
  split
  · split
    · exact ⟨rfl, rfl, rfl, rfl, rfl, rfl, regsKept_fput (f := Reg.POS_PWS_ERR_GAPS) (List.mem_singleton.2 rfl) _ s⟩
    · exact ⟨rfl, rfl, rfl, rfl, rfl, rfl, regsKept_of_eq rfl⟩
  · exact ⟨rfl, rfl, rfl, rfl, rfl, rfl, regsKept_of_eq rfl⟩

theorem pwsCount_congr {s t : State} (h : t.pos = s.pos) (a : Axis) (raw : Nat) : pwsCount t a raw = pwsCount s a raw := by
  have hinv : axisInv t a = axisInv s a := by cases a <;> simp only [axisInv, h]
  rw [pwsCount, pwsCount, hinv]

theorem pwsTaken_keeps (d0 d1 : BitVec 80) (at' : Nat) (s : State) : let t := pwsTaken d0 d1 at' s
    t.pos.y.count = wrap40 (pwsCount s .y (bits d0.toNat 47 8)) ∧
    t.pos.x.count = wrap40 (pwsCount s .x (bits d0.toNat 79 48 + 2 ^ 32 * bits d1.toNat 15 8)) ∧
    t.pos.yaw.count = wrap40 (pwsCount s .yaw (bits d1.toNat 55 16)) ∧ t.pos.pws.fseq = some (bits d1.toNat 67 64) ∧
    t.pos.pws.bad = s.pos.pws.bad ∧ t.pos.hwm = s.pos.hwm ∧ t.pos.jitter = s.pos.jitter ∧ t.armed = s.armed ∧
    t.flow = s.flow ∧ t.job = s.job ∧ t.prog = s.prog ∧ t.dram = s.dram ∧ RegsKept [Reg.POS_PWS_ERR] s t := by
  obtain ⟨hpos, harmed, hflow, hjob, hprog, hdram, hregs⟩ := pwsGap_keeps (bits d1.toNat 67 64) s
  dsimp only [pwsTaken, pwsTake, setCount, updAxis]
  rw [pwsCount_congr hpos, pwsCount_congr hpos, pwsCount_congr hpos, hpos]
  exact ⟨rfl, rfl, rfl, rfl, rfl, rfl, rfl, harmed, hflow, hjob, hprog, hdram, hregs.trans (regsKept_of_eq rfl)⟩

/-- A used frame before its progress: its counts, its validity and its sample. -/
def pwsPlaced (d0 d1 : BitVec 80) (at' : Nat) (s : State) : State := keepSample (at' - pwsSkew s) (pwsValid d1 (pwsTaken d0 d1 at' s))

theorem pwsUse_eq (d0 d1 : BitVec 80) (at' : Nat) (s : State) : ∃ prev, pwsUse d0 d1 at' s =
    pwsProgress (d1.getLsbD 56) (pwsCount s .y (bits d0.toNat 47 8)) prev (at' - pwsSkew s) at' (pwsPlaced d0 d1 at' s) := by
  obtain ⟨hpos, -⟩ := pwsGap_keeps (bits d1.toNat 67 64) s
  rw [← pwsCount_congr hpos]
  exact ⟨_, rfl⟩

/-- The progress of a used frame moves the marks, when its Y count is valid. -/
theorem pwsProgress_marks {s p : State} (hentry : curEntry p = curEntry s) (hhwm : p.pos.hwm = s.pos.hwm) (hjitter : p.pos.jitter = s.pos.jitter)
    (harmed : p.armed = s.armed) (hrev : fbit p Reg.POS_STATUS_REVERSED = fbit s Reg.POS_STATUS_REVERSED) (valid : Bool) (y : Int)
    (prev : Option Sample) (latch arrival : Nat) : let t := pwsProgress valid y prev latch arrival p
    MarksOnly p t ∧ (s.armed = none → t = p) ∧ (valid = true → Marked s t y) := by
  unfold pwsProgress
  rw [hentry]
  cases he : curEntry s with
  | none => exact ⟨⟨rfl, fun _ => rfl, rfl, rfl⟩, fun _ => rfl, fun _ => marked_of_no_entry he _ _⟩
  | some e =>
    cases valid with
    | false => exact ⟨⟨rfl, fun _ => rfl, rfl, rfl⟩, fun _ => rfl, nofun⟩
    | true =>
      obtain ⟨hmarks, hidle, -⟩ := marks_moved (progressOf e y) (pwsCrossing p e prev latch (progressOf e y)) (arrival + 4000) p
      exact ⟨hmarks, fun hnone => hidle (harmed.trans hnone), fun _ => marked_of_entry he hhwm hjitter harmed hrev _ _ _⟩

theorem yields_pwsFrame_used {s : State} (d0 d1 : BitVec 80) (at' : Nat) (hform : pwsForm s = true) (htrack : tracks s = true)
    (hgood : pwsFrameGood d0 d1 = true) (hlock : fbit s Reg.POS_STATUS_LOCK = true) (herror : d1.getLsbD 59 = false) :
    Yields (.pwsFrame d0 d1 at') s fun t =>
      t.pos.y.count = wrap40 (pwsCount s .y (bits d0.toNat 47 8)) ∧
      t.pos.x.count = wrap40 (pwsCount s .x (bits d0.toNat 79 48 + 2 ^ 32 * bits d1.toNat 15 8)) ∧
      t.pos.yaw.count = wrap40 (pwsCount s .yaw (bits d1.toNat 55 16)) ∧ t.pos.pws.fseq = some (bits d1.toNat 67 64) ∧
      axisValid t .y = d1.getLsbD 56 ∧ axisValid t .x = d1.getLsbD 57 ∧ axisValid t .yaw = d1.getLsbD 58 ∧
      t.pos.pws.bad = 0 ∧ (d1.getLsbD 56 = true → Marked s t (pwsCount s .y (bits d0.toNat 47 8))) ∧
      (s.armed = none → t.flow = s.flow ∧ RegsKept [Reg.POS_STATUS, Reg.POS_PWS_ERR] s t) ∧ (t.job = s.job ∧ DramKept s t) := by
  let v := framed (s.pos.pws.good + 1) 0 s
  let w := pwsTaken d0 d1 at' v
  let p := pwsPlaced d0 d1 at' v
  obtain ⟨hy, hx, hyaw, hseq, hbad, hhwm, hjitter, harmed, hflow, hjob, hprog, hdram, hregs⟩ := pwsTaken_keeps d0 d1 at' v
  obtain ⟨haged, hyv, hxv, hyawv⟩ := pwsValid_shows d1 w
  obtain ⟨hay, hax, hayaw, hahwm, hajitter, hapws, -⟩ := haged.stands
  have hcounts : ∀ a raw, pwsCount v a raw = pwsCount s a raw := fun a raw => by cases a <;> rfl
  have hparmed : p.armed = s.armed := haged.armed.trans harmed
  have hpentry : curEntry p = curEntry s := curEntry_congr (haged.job.trans hjob) (haged.prog.trans hprog)
  have hprev : fbit p Reg.POS_STATUS_REVERSED = fbit s Reg.POS_STATUS_REVERSED :=
    (haged.status _ (.inr rfl)).trans (fbit_regsKept hregs (by decide))
  have hpregs : s.armed = none → RegsKept [Reg.POS_STATUS, Reg.POS_PWS_ERR] s p := fun hnone =>
    (hregs.mono (by decide) : RegsKept [Reg.POS_STATUS, Reg.POS_PWS_ERR] s w).trans ((haged.quiet (harmed.trans hnone)).mono (by decide))
  have htail : ∀ t, MarksOnly p t → (s.armed = none → t = p) → (d1.getLsbD 56 = true → Marked s t (pwsCount s .y (bits d0.toNat 47 8))) →
      t.pos.y.count = wrap40 (pwsCount s .y (bits d0.toNat 47 8)) ∧
      t.pos.x.count = wrap40 (pwsCount s .x (bits d0.toNat 79 48 + 2 ^ 32 * bits d1.toNat 15 8)) ∧
      t.pos.yaw.count = wrap40 (pwsCount s .yaw (bits d1.toNat 55 16)) ∧ t.pos.pws.fseq = some (bits d1.toNat 67 64) ∧
      axisValid t .y = d1.getLsbD 56 ∧ axisValid t .x = d1.getLsbD 57 ∧ axisValid t .yaw = d1.getLsbD 58 ∧
      t.pos.pws.bad = 0 ∧ (d1.getLsbD 56 = true → Marked s t (pwsCount s .y (bits d0.toNat 47 8))) ∧
      (s.armed = none → t.flow = s.flow ∧ RegsKept [Reg.POS_STATUS, Reg.POS_PWS_ERR] s t) ∧ (t.job = s.job ∧ DramKept s t) := by
    intro t hmarks hsame hmarked
    refine ⟨?_, ?_, ?_, ?_, (hmarks.valid _).trans hyv, (hmarks.valid _).trans hxv, (hmarks.valid _).trans hyawv, ?_, hmarked, fun hnone => ?_,
      hmarks.job.trans (haged.job.trans hjob), dramKept_of_eq (hmarks.dram.trans (haged.dram.trans hdram))⟩
    · rw [hmarks.pos, ← hcounts, ← hy]
      exact hay
    · rw [hmarks.pos, ← hcounts, ← hx]
      exact hax
    · rw [hmarks.pos, ← hcounts, ← hyaw]
      exact hayaw
    · rw [hmarks.pos, ← hseq]
      exact congrArg Pws.fseq hapws
    · rw [hmarks.pos]
      exact (congrArg Pws.bad hapws).trans hbad
    · rw [hsame hnone]
      exact ⟨haged.flow.trans hflow, hpregs hnone⟩
  obtain ⟨prev, huse⟩ := pwsUse_eq d0 d1 at' v
  have heq : pwsFrame d0 d1 at' s = pwsProgress (d1.getLsbD 56) (pwsCount s .y (bits d0.toNat 47 8)) prev (at' - pwsSkew v) at' p := by
    rw [pwsFrame, if_neg (pwsForm_guard hform htrack)]
    dsimp only
    rw [if_pos hgood, if_pos hlock, if_neg (by rw [herror]; exact Bool.false_ne_true), ← framed, huse, hcounts]
  obtain ⟨hmarks, hidle, hmarked⟩ := pwsProgress_marks hpentry (hahwm.trans hhwm) (hajitter.trans hjitter) hparmed hprev (d1.getLsbD 56)
    (pwsCount s .y (bits d0.toNat 47 8)) prev (at' - pwsSkew v) at'
  exact ⟨_, congrArg Host.Outcome.next heq, htail _ hmarks hidle hmarked⟩

theorem yields_pwsAxisTimeout {s : State} (a : Axis) (hform : pwsForm s = true) :
    Yields (.pwsAxisTimeout a) s fun t => axisValid t a = false ∧ (∀ b, b ≠ a → axisValid t b = axisValid s b) ∧
      t.ev = (raiseIf (axisValid s a) Ev.POS_FAULT s).ev ∧ t.flow = s.flow ∧ (t.job = s.job ∧ DramKept s t) ∧
      (a ≠ .y ∨ s.armed = none → RegsKept [Reg.POS_STATUS] s t) := by
  have heq : (if pwsForm s then invalidate a s else s) = invalidate a s := if_pos hform
  refine ⟨_, congrArg Host.Outcome.next heq, ?_, fun b hb => ?_, invalidate_ev a s, by simp, ⟨by simp, dramKept_of_eq (by simp)⟩,
    (axisFaulted_invalidate a s).quiet⟩
  · rw [axisValid_invalidate]
    simp
  · rw [axisValid_invalidate]
    simp [hb]

/-! ## Crossings, and the read of POS_Y_LO -/

theorem yields_shotCrossed_idle {s : State} (n : Int) (tc tdet : Nat) (h : s.armed = none ∨ n * pixCounts s ≤ s.pos.hwm ∨ n < -3) :
    Yields (.shotCrossed n tc tdet) s fun t => t = s := by
  refine ⟨_, rfl, if_neg ?_⟩
  rcases h with h | h | h
  · simp [h]
  · simp only [Bool.and_eq_true, decide_eq_true_eq, not_and]
    omega
  · simp only [Bool.and_eq_true, decide_eq_true_eq, not_and]
    omega

/-- The crossing is kept with its times, and its interval is shown. -/
theorem yields_shotCrossed {s : State} (n : Int) (tc tdet : Nat) {a : Armed} (harmed : s.armed = some a) (hnew : s.pos.hwm < n * pixCounts s)
    (hlead : -3 ≤ n) : Yields (.shotCrossed n tc tdet) s fun t =>
      t.pos = { s.pos with hwm := n * pixCounts s, warnArmed := t.pos.warnArmed } ∧
      t.armed = some { a with crossings := a.crossings ++ [⟨n, tc, tdet⟩], lastTc := some tc } ∧
      (a.lastTc = none → t.pos.warnArmed = s.pos.warnArmed ∧ t.ev = s.ev) ∧
      (∀ l, a.lastTc = some l → fget t Reg.BELL_XING_MIN_STEPS = min (fget s Reg.BELL_XING_MIN_STEPS) (min (2 ^ 32 - 1) (tc - l)) ∧
        (tc - l ≤ fget s Reg.BELL_GUARD_STEPS → t.pos.warnArmed = false ∧ t.ev = (raiseIf s.pos.warnArmed Ev.OVERSPEED_WARN s).ev) ∧
        (fget s Reg.BELL_GUARD_STEPS < tc - l → t.ev = s.ev ∧ t.pos.warnArmed = (s.pos.warnArmed ||
          decide (fget s Reg.BELL_GUARD_STEPS + fget s Reg.BELL_GUARD_STEPS / 64 < tc - l)))) ∧
      t.flow = s.flow ∧ RegsKept [Reg.BELL_XING_MIN] s t ∧ (t.job = s.job ∧ DramKept s t) := by
  let v : State := { s with pos := { s.pos with hwm := n * pixCounts s } }
  have heq : shotCrossed n tc tdet s = noteCrossing n tc tdet v := if_pos (by simp [harmed, hnew, hlead])
  refine ⟨_, congrArg Host.Outcome.next heq, ?_⟩
  have hv : v.armed = some a := harmed
  rw [noteCrossing, hv]
  dsimp only
  cases hlast : a.lastTc with
  | none =>
    refine ⟨rfl, ?_, fun _ => ⟨rfl, rfl⟩, nofun, rfl, regsKept_of_eq rfl, rfl, dramKept_of_eq rfl⟩
    rw [updArmed, hv]
    rfl
  | some l =>
    dsimp only
    obtain ⟨hpos, harm, hmin, hlow, hhigh, hregs⟩ := crossingInterval_shows (tc - l) v
    have hvregs : RegsKept [Reg.BELL_XING_MIN] s v := regsKept_of_eq rfl
    have hraised : (raiseIf v.pos.warnArmed Ev.OVERSPEED_WARN v).ev = (raiseIf s.pos.warnArmed Ev.OVERSPEED_WARN s).ev := by
      show (raiseIf s.pos.warnArmed Ev.OVERSPEED_WARN v).ev = _
      cases s.pos.warnArmed <;> rfl
    refine ⟨hpos, ?_, nofun, fun l' hl' => ?_, ?_, (hvregs.trans hregs).trans (regsKept_of_eq rfl), ?_, dramKept_of_eq ?_⟩
    · rw [updArmed, harm, hv]
      rfl
    · cases hl'
      exact ⟨hmin, fun h => ⟨(hlow h).1, (hlow h).2.trans hraised⟩, hhigh⟩
    · simp [updArmed, v]
    · simp [updArmed, v]
    · simp [updArmed, v]

theorem regsKept_rset64 {ks : List Nat} {lo hi : Nat} (hlo : lo ∈ ks) (hhi : hi ∈ ks) (v : Nat) (s : State) : RegsKept ks s (rset64 lo hi v s) :=
  (regsKept_rset hlo _ s).trans (regsKept_rset hhi _ _)

theorem rget64_regsKept {ks : List Nat} {s t : State} (h : RegsKept ks s t) {lo hi : Nat} (hlo : lo ∉ ks) (hhi : hi ∉ ks) :
    rget64 t lo hi = rget64 s lo hi := by
  rw [rget64, rget64, h lo hlo, h hi hhi]

theorem unsigned_lt (n : Nat) (v : Int) : unsigned n v < 2 ^ n := by
  unfold unsigned
  have hpos : (0 : Int) < ((2 ^ n : Nat) : Int) := by positivity
  have := Int.emod_lt_of_pos v hpos
  omega

theorem posYLoCapture_captures (s : State) : let t := posYLoCapture s
    rget64 t Reg.POS_Y_LO Reg.POS_Y_HI = unsigned 40 s.pos.y.count ∧ rget64 t Reg.POS_X_LO Reg.POS_X_HI = unsigned 40 s.pos.x.count ∧
    rget64 t Reg.POS_YAW_LO Reg.POS_YAW_HI = unsigned 40 s.pos.yaw.count ∧ rget64 t Reg.POS_HWM_LO Reg.POS_HWM_HI = unsigned 40 s.pos.hwm ∧
    t.pos = s.pos ∧
    Quiet [Reg.POS_Y_LO, Reg.POS_Y_HI, Reg.POS_X_LO, Reg.POS_X_HI, Reg.POS_YAW_LO, Reg.POS_YAW_HI, Reg.POS_HWM_LO, Reg.POS_HWM_HI] s t := by
  let y := rset64 Reg.POS_Y_LO Reg.POS_Y_HI (unsigned 40 s.pos.y.count) s
  let x := rset64 Reg.POS_X_LO Reg.POS_X_HI (unsigned 40 s.pos.x.count) y
  let w := rset64 Reg.POS_YAW_LO Reg.POS_YAW_HI (unsigned 40 s.pos.yaw.count) x
  let h := rset64 Reg.POS_HWM_LO Reg.POS_HWM_HI (unsigned 40 s.pos.hwm) w
  have hread : ∀ lo hi v u, lo ≠ hi → rget64 (rset64 lo hi (unsigned 40 v) u) lo hi = unsigned 40 v := fun lo hi v u hne => by
    rw [rget64_rset64 _ _ _ _ hne, Nat.mod_eq_of_lt ((unsigned_lt 40 v).trans (by decide))]
  have hx : RegsKept [Reg.POS_X_LO, Reg.POS_X_HI] y x := regsKept_rset64 (by simp) (by simp) _ y
  have hw : RegsKept [Reg.POS_YAW_LO, Reg.POS_YAW_HI] x w := regsKept_rset64 (by simp) (by simp) _ x
  have hh : RegsKept [Reg.POS_HWM_LO, Reg.POS_HWM_HI] w h := regsKept_rset64 (by simp) (by simp) _ w
  refine ⟨?_, ?_, ?_, hread _ _ _ _ (by decide), rfl, rfl, rfl, rfl, ?_, dramKept_of_eq rfl⟩
  · exact (rget64_regsKept hh (by decide) (by decide)).trans ((rget64_regsKept hw (by decide) (by decide)).trans
      ((rget64_regsKept hx (by decide) (by decide)).trans (hread _ _ _ _ (by decide))))
  · exact (rget64_regsKept hh (by decide) (by decide)).trans ((rget64_regsKept hw (by decide) (by decide)).trans (hread _ _ _ _ (by decide)))
  · exact (rget64_regsKept hh (by decide) (by decide)).trans (hread _ _ _ _ (by decide))
  · have hy : RegsKept [Reg.POS_Y_LO, Reg.POS_Y_HI] s y := regsKept_rset64 (by simp) (by simp) _ s
    exact (((hy.mono (by decide)).trans (hx.mono (by decide))).trans (hw.mono (by decide))).trans (hh.mono (by decide))

set_option Elab.async false in
/-- Settles O37. -/
theorem positionIsTracked : Obligations.PositionIsTracked := by
  intro s
  refine ⟨fun a m st det => ⟨fun h => ⟨_, rfl, quadEdge_idle a m st det h⟩, fun hform htrack hheld => ⟨?_, yields_quadEdge a m st det hform htrack hheld⟩⟩,
    fun k => ⟨fun h => ⟨_, rfl, if_pos ?_⟩, fun h => yields_posSet h⟩, fun d0 d1 at' => ⟨fun h => ⟨_, rfl, pwsFrame_idle d0 d1 at' h⟩,
      fun hform htrack => ⟨yields_pwsFrame_used d0 d1 at' hform htrack, yields_pwsFrame_unused d0 d1 at' hform htrack,
        yields_pwsFrame_bad d0 d1 at' hform htrack⟩⟩,
    fun a => ⟨fun hform => ⟨_, rfl, if_neg (by simp [hform])⟩, yields_pwsAxisTimeout a⟩,
    fun n tc tdet => ⟨yields_shotCrossed_idle n tc tdet, fun a => yields_shotCrossed n tc tdet⟩,
    fun hoff => ⟨_, rfl, if_neg (by simp [hoff])⟩, fun hon => ⟨_, congrArg Host.Outcome.next (if_pos hon), posYLoCapture_captures s⟩⟩
  · rintro rfl
    exact yields_quadEdge_both a st det hform htrack hheld
  · rw [posSet_guard, setTaken, h]
    rfl

end Sys2Proof.Machine
end

section
/-!
PROOFS. The time counter, its sources, the Syncs of PTP and the servo tick (O43).
-/

namespace Sys2Proof.Machine

/-! ## The servo tick -/

theorem runTo_eq (h : Nat) (s : State) : runTo h s = { s with regs := (runTo h s).regs, tim := (runTo h s).tim } := by
  unfold runTo countWrap
  dsimp only
  split
  · rfl
  · split
    · split <;> rfl
    · rfl

/-- The registers that a servo tick writes. -/
def servoRegs : List Nat :=
  Reg.TIM_REST_WRAPS :: (List.range 6).flatMap fun n => [Reg.MOT_CH_POS_L n, Reg.MOT_CH_POS_H n]

theorem servoRegs_apart : ∀ n < 6, Reg.MOT_CH_CFG n ∉ servoRegs ∧ Reg.MOT_CH_STATUS n ∉ servoRegs ∧
    ∀ i < 10, Reg.MOT_CH_ACT_TARGET_LO n + 4 * i ∉ servoRegs := by decide

theorem chan_congr {s t : State} (hmot : t.mot = s.mot) (n : Nat) : chan t n = chan s n := by rw [chan, hmot, chan]

theorem segWords_congr {s t : State} (hregs : RegsKept servoRegs s t) {n : Nat} (hn : n < 6) : segWords t (Reg.MOT_CH_ACT_TARGET_LO n) = segWords s (Reg.MOT_CH_ACT_TARGET_LO n) := by
  obtain ⟨-, -, hact⟩ := servoRegs_apart n hn
  have hget : ∀ i < 10, rget t (Reg.MOT_CH_ACT_TARGET_LO n + 4 * i) = rget s (Reg.MOT_CH_ACT_TARGET_LO n + 4 * i) := fun i hi => hregs _ (hact i hi)
  have h0 := hget 0 (by decide)
  have h1 := hget 1 (by decide)
  have h2 := hget 2 (by decide)
  have h3 := hget 3 (by decide)
  have h4 := hget 4 (by decide)
  have h5 := hget 5 (by decide)
  have h6 := hget 6 (by decide)
  have h7 := hget 7 (by decide)
  have h8 := hget 8 (by decide)
  have h9 := hget 9 (by decide)
  simp only [Nat.mul_zero, Nat.add_zero, Nat.reduceMul] at h0 h1 h2 h3 h4 h5 h6 h7 h8 h9
  simp only [segWords, rget64, h0, h1, h2, h3, h4, h5, h6, h7, h8, h9]

section
variable {s t : State} (hmot : t.mot = s.mot) (hregs : RegsKept servoRegs s t)
include hmot hregs

theorem chanPos_congr {n : Nat} (hn : n < 6) (e : Int) : chanPos t n e = chanPos s n e := by
  have hkin : ∀ k, chanKin t n k = chanKin s n k := fun k => by
    unfold chanKin
    rw [chan_congr hmot, actLimits, segWords_congr hregs hn, ← actLimits]
  rw [chanPos, hkin, chanPos]

theorem chanMode_congr {n : Nat} (hn : n < 6) : chanMode t n = chanMode s n := by
  rw [chanMode, chanCfg, chan_congr hmot, hregs _ (servoRegs_apart n hn).1, ← chanCfg, ← chanMode]

end

theorem anyStalled_congr {s t : State} (hregs : RegsKept servoRegs s t) : anyStalled t = anyStalled s := by
  have hstate : ∀ n ∈ List.range 6, (chanState t n == stStalled) = (chanState s n == stStalled) := fun n hn => by
    rw [chanState, hregs.fget (servoRegs_apart n (List.mem_range.1 hn)).2.1, ← chanState]
  rw [anyStalled, anyStalled, Bool.eq_iff_iff, List.any_eq_true, List.any_eq_true]
  exact exists_congr fun n => and_congr_right fun hn => by rw [hstate n hn]

theorem masterBit_congr {s t : State} (hchoreo : rget t Reg.MOT_CHOREO_MASTER.reg = rget s Reg.MOT_CHOREO_MASTER.reg)
    (hon : rget t Reg.PWR_STATUS = rget s Reg.PWR_STATUS) (hpwr : t.pwr = s.pwr) : masterBit t = masterBit s := by
  rw [masterBit, masterBit, storedField, storedField, storedReg_congr (by rw [hpwr]) hchoreo hon]

/-- The set-point frame is of the channels, the flow, the events and the job. -/
theorem setPointFrame_congr {s t : State} (hmot : t.mot = s.mot) (hregs : RegsKept servoRegs s t) (hflow : t.flow = s.flow)
    (hev : t.ev = s.ev) (hjob : t.job = s.job) (hpwr : t.pwr = s.pwr) (e : Int) : setPointFrame t e = setPointFrame s e := by
  have hstage : stageEmits t = stageEmits s := by
    rw [stageEmits, isMaster, masterBit_congr (hregs _ (by decide)) (hregs _ (by decide)) hpwr, hregs.fget (f := Reg.COH_CFG_MEMBERS) (by decide), jobLoaded, hjob, ← isMaster, ← jobLoaded, ← stageEmits]
  have hmask : ∀ n, fbitAt t Reg.MOT_SP_CFG_MASK n = fbitAt s Reg.MOT_SP_CFG_MASK n := fun n => by
    rw [fbitAt, hregs.fget (f := Reg.MOT_SP_CFG_MASK) (by decide), fbitAt]
  have hchannels : framedChannels t = framedChannels s := by
    refine List.filter_congr fun n hn => ?_
    rw [hmask, chanMode_congr hmot hregs (List.mem_range.1 hn), hflow, hstage]
  have hrun : servoRun t = servoRun s := by
    rw [servoRun, rwhs, modeIn, hflow, fbit_regsKept hregs (by decide), ← modeIn, ← rwhs, ← servoRun]
  have hpos : ∀ n ∈ framedChannels s, chanPos t n e = chanPos s n e := fun n hn =>
    chanPos_congr hmot hregs (List.mem_range.1 (List.mem_of_mem_filter hn)) e
  unfold setPointFrame
  rw [hchannels, anyStalled_congr hregs, hrun, hflow, hev, hmot]
  dsimp only
  have hbytes : (framedChannels s).flatMap (fun n => leBytes 6 (unsigned 48 ((((Dy.ofInt 512).mul (chanPos t n e)).add (Dy.ofInt 1)).mul ⟨1, 1⟩).floor)) =
      (framedChannels s).flatMap fun n => leBytes 6 (unsigned 48 ((((Dy.ofInt 512).mul (chanPos s n e)).add (Dy.ofInt 1)).mul ⟨1, 1⟩).floor) :=
    List.flatMap_congr fun n hn => by rw [hpos n hn]
  rw [hbytes]

/-- MOT_CH_n_POS of the first `k` channels take their positions at `e`. -/
def showPositions (k : Nat) (e : Int) (s : State) : State :=
  (List.range k).foldl (fun s n => rset64 (Reg.MOT_CH_POS_L n) (Reg.MOT_CH_POS_H n) (unsigned 64 (chanPos s n e).floor) s) s

theorem showPositions_eq (k : Nat) (e : Int) (s : State) : showPositions k e s = { s with regs := (showPositions k e s).regs } := by
  have hfold : ∀ (l : List Nat) (u : State), (l.foldl (fun s n => rset64 (Reg.MOT_CH_POS_L n) (Reg.MOT_CH_POS_H n) (unsigned 64 (chanPos s n e).floor) s) u) =
      { u with regs := (l.foldl (fun s n => rset64 (Reg.MOT_CH_POS_L n) (Reg.MOT_CH_POS_H n) (unsigned 64 (chanPos s n e).floor) s) u).regs } := by
    intro l
    induction l with
    | nil => exact fun u => rfl
    | cons n l ih =>
      intro u
      rw [List.foldl_cons, ih]
      rfl
  exact hfold _ s

theorem posRegs_mem {n : Nat} (hn : n < 6) : Reg.MOT_CH_POS_L n ∈ servoRegs ∧ Reg.MOT_CH_POS_H n ∈ servoRegs := by
  have h : ∀ n < 6, Reg.MOT_CH_POS_L n ∈ servoRegs ∧ Reg.MOT_CH_POS_H n ∈ servoRegs := by decide
  exact h n hn

theorem posRegs_apart {m n : Nat} (h : m ≠ n) : Reg.MOT_CH_POS_L m ∉ [Reg.MOT_CH_POS_L n, Reg.MOT_CH_POS_H n] ∧
    Reg.MOT_CH_POS_H m ∉ [Reg.MOT_CH_POS_L n, Reg.MOT_CH_POS_H n] := by
  simp only [List.mem_cons, List.not_mem_nil, or_false, not_or, Reg.MOT_CH_POS_L, Reg.MOT_CH_POS_H]
  omega

theorem showPositions_shows (k : Nat) (hk : k ≤ 6) (e : Int) (s : State) : RegsKept servoRegs s (showPositions k e s) ∧
    ∀ n < k, rget64 (showPositions k e s) (Reg.MOT_CH_POS_L n) (Reg.MOT_CH_POS_H n) = unsigned 64 (chanPos s n e).floor := by
  induction k with
  | zero => exact ⟨regsKept_of_eq rfl, fun n hn => absurd hn (Nat.not_lt_zero n)⟩
  | succ k ih =>
    obtain ⟨hregs, hshown⟩ := ih (by omega)
    let u := showPositions k e s
    have hmot : u.mot = s.mot := by rw [show u = _ from showPositions_eq k e s]
    have hstep : showPositions (k + 1) e s = rset64 (Reg.MOT_CH_POS_L k) (Reg.MOT_CH_POS_H k) (unsigned 64 (chanPos s k e).floor) u := by
      rw [← chanPos_congr hmot hregs (by omega), showPositions, List.range_succ, List.foldl_append]
      rfl
    obtain ⟨hlo, hhi⟩ := posRegs_mem (n := k) (by omega)
    rw [hstep]
    refine ⟨hregs.trans (regsKept_rset64 hlo hhi _ u), fun n hn => ?_⟩
    by_cases h : n = k
    · rw [h, rget64_rset64 _ _ _ _ (by simp), Nat.mod_eq_of_lt (unsigned_lt 64 _)]
    · obtain ⟨hl, hh⟩ := posRegs_apart h
      have hkept : RegsKept [Reg.MOT_CH_POS_L k, Reg.MOT_CH_POS_H k] u (rset64 (Reg.MOT_CH_POS_L k) (Reg.MOT_CH_POS_H k) (unsigned 64 (chanPos s k e).floor) u) :=
        regsKept_rset64 (by simp) (by simp) _ u
      rw [rget64_regsKept hkept hl hh]
      exact hshown n (by omega)

theorem servo_guard (h : Nat) (s : State) :
    ((runTo h s).flow.mode == .rest || !powered (runTo h s) Dom.GATH) = (s.flow.mode == .rest || !powered s Dom.GATH) := by
  have hpow : powered (runTo h s) Dom.GATH = powered s Dom.GATH := by
    rw [powered, fbitAt, (regsKept_runTo h s).fget (f := Reg.PWR_STATUS_DOMAINS) (by decide), ← fbitAt, ← powered]
  rw [hpow, congrArg State.flow (runTo_eq h s)]

theorem yields_servoTick_off {s : State} (h : s.flow.mode = .rest ∨ powered s Dom.GATH = false) :
    Yields .servoTick s fun t => t.mot = s.mot ∧ Quiet [Reg.TIM_REST_WRAPS] s t := by
  let u := runTo (unsigned 48 (nextServoTick s)) s
  have hu : u = { s with regs := u.regs, tim := u.tim } := runTo_eq _ s
  have hregs : RegsKept [Reg.TIM_REST_WRAPS] s u := regsKept_runTo _ s
  have heq : servoTick s = u := by
    unfold servoTick
    refine if_pos ?_
    rw [servo_guard]
    rcases h with h | h <;> simp [h]
  refine ⟨_, congrArg Host.Outcome.next heq, ?_, ?_, ?_, ?_, hregs, dramKept_of_eq ?_⟩
  all_goals rw [hu]

theorem yields_servoTick {s : State} (hmode : s.flow.mode ≠ .rest) (hon : powered s Dom.GATH = true) :
    Yields .servoTick s fun t =>
      (∀ n, n < 6 → rget64 t (Reg.MOT_CH_POS_L n) (Reg.MOT_CH_POS_H n) = unsigned 64 (chanPos s n (nextServoTick s)).floor) ∧
      (outputsHeld s Dom.GATH = true → t.mot = s.mot) ∧ (outputsHeld s Dom.GATH = false →
        t.mot.frame = setPointFrame s (nextServoTick s + actServoUs s * 1000) ∧ t.mot.fseq = (s.mot.fseq + 1) % 256) ∧
      t.mot.chans = s.mot.chans ∧ t.flow = s.flow ∧ t.job = s.job ∧ t.ev = s.ev ∧ DramKept s t := by
  let u := runTo (unsigned 48 (nextServoTick s)) s
  let v := showPositions 6 (nextServoTick s) u
  have hu : u = { s with regs := u.regs, tim := u.tim } := runTo_eq _ s
  have hv : v = { s with regs := v.regs, tim := u.tim } := by
    rw [show v = _ from showPositions_eq 6 _ u, hu]
  have huregs : RegsKept [Reg.TIM_REST_WRAPS] s u := regsKept_runTo _ s
  have huservo : RegsKept servoRegs s u := huregs.mono (by decide)
  obtain ⟨hregs, hshown⟩ := showPositions_shows 6 le_rfl (nextServoTick s) u
  have hsv : RegsKept servoRegs s v := huservo.trans hregs
  have hpositions : ∀ n, n < 6 → rget64 v (Reg.MOT_CH_POS_L n) (Reg.MOT_CH_POS_H n) = unsigned 64 (chanPos s n (nextServoTick s)).floor := fun n hn => by
    have humot : u.mot = s.mot := by rw [hu]
    rw [hshown n hn, chanPos_congr humot huservo hn]
  have hheld : outputsHeld v Dom.GATH = outputsHeld s Dom.GATH := by rw [hv]; rfl
  have hframe : setPointFrame v (nextServoTick s + actServoUs v * 1000) = setPointFrame s (nextServoTick s + actServoUs s * 1000) := by
    have hservo : actServoUs v = actServoUs s := by rw [actServoUs, hsv.fget (f := Reg.MOT_SERVO_PERIOD_US) (by decide), ← actServoUs]
    rw [hservo]
    exact setPointFrame_congr (by rw [hv]) hsv (by rw [hv]) (by rw [hv]) (by rw [hv]) (by rw [hv]) _
  have heq : servoTick s = if outputsHeld v Dom.GATH then v else
      { v with mot := { v.mot with frame := setPointFrame v (nextServoTick s + actServoUs v * 1000), fseq := (v.mot.fseq + 1) % 256 } } := by
    unfold servoTick
    dsimp only
    rw [servo_guard, if_neg (by simp [hmode, hon])]
    rfl
  clear_value v u
  refine ⟨_, congrArg Host.Outcome.next heq, ?_⟩
  rw [hheld, hframe]
  cases outputsHeld s Dom.GATH with
  | true =>
    rw [if_pos rfl]
    exact ⟨hpositions, fun _ => by rw [hv], nofun, by rw [hv], by rw [hv], by rw [hv], by rw [hv], dramKept_of_eq (by rw [hv])⟩
  | false =>
    rw [if_neg Bool.false_ne_true]
    refine ⟨hpositions, nofun, fun _ => ⟨rfl, ?_⟩, ?_, ?_, ?_, ?_, dramKept_of_eq ?_⟩
    · show (v.mot.fseq + 1) % 256 = _
      rw [hv]
    · show v.mot.chans = _
      rw [hv]
    · show v.flow = _
      rw [hv]
    · show v.job = _
      rw [hv]
    · show v.ev = _
      rw [hv]
    · show v.dram = _
      rw [hv]

/-! ## The counter -/

theorem yields_timNsRead (s : State) : Yields .timNsRead s fun t =>
    fget t Reg.TIM_NS_NS = s.tim.h % 2 ^ 32 ∧ fget t Reg.TIM_FRAC_FRAC = s.tim.frac % 2 ^ 32 ∧
    fget t Reg.TIM_WRAPS_WRAPS = s.tim.h / 2 ^ 32 % 65536 ∧ t.tim = s.tim ∧ Quiet [Reg.TIM_NS, Reg.TIM_FRAC, Reg.TIM_WRAPS] s t := by
  let u := fput Reg.TIM_NS_NS (s.tim.h % 2 ^ 32) s
  let v := fput Reg.TIM_WRAPS_WRAPS (s.tim.h / 2 ^ 32) u
  let w := fput Reg.TIM_FRAC_FRAC s.tim.frac v
  have hu : RegsKept [Reg.TIM_NS] s u := regsKept_fput (f := Reg.TIM_NS_NS) (List.mem_singleton.2 rfl) _ s
  have hv : RegsKept [Reg.TIM_WRAPS] u v := regsKept_fput (f := Reg.TIM_WRAPS_WRAPS) (List.mem_singleton.2 rfl) _ u
  have hw : RegsKept [Reg.TIM_FRAC] v w := regsKept_fput (f := Reg.TIM_FRAC_FRAC) (List.mem_singleton.2 rfl) _ v
  refine ⟨w, rfl, ?_, fget_fput_same v Reg.TIM_FRAC_FRAC rfl _, ?_, rfl, rfl, rfl, rfl, ?_, dramKept_of_eq rfl⟩
  · rw [hw.fget (f := Reg.TIM_NS_NS) (by decide), hv.fget (f := Reg.TIM_NS_NS) (by decide)]
    exact (fget_fput_same s Reg.TIM_NS_NS rfl _).trans (Nat.mod_mod _ _)
  · rw [hw.fget (f := Reg.TIM_WRAPS_WRAPS) (by decide)]
    exact fget_fput_same u Reg.TIM_WRAPS_WRAPS rfl _
  · exact ((hu.mono (by decide)).trans (hv.mono (by decide))).trans (hw.mono (by decide))

theorem yields_counterWrap_awake {s : State} (h : s.tim.inRest = false) : Yields .counterWrap s fun t =>
    t.tim.h = 0 ∧ t.tim.frac = 0 ∧ timeE t = (timeHigh s + 1) * 2 ^ 48 ∧ Quiet [] s t := by
  let u : State := { s with tim := { s.tim with high := timeHigh s, prevWraps := 0xFFFF, h := 0, frac := 0 } }
  have heq : counterWrap s = u := by
    unfold counterWrap countWrap
    rw [if_neg (c := s.tim.inRest = true) (by simp [h])]
    exact if_neg (c := s.tim.inRest = true) (by simp [h])
  refine ⟨_, congrArg Host.Outcome.next heq, rfl, rfl, ?_, rfl, rfl, rfl, regsKept_of_eq rfl, dramKept_of_eq rfl⟩
  have hhigh : timeHigh u = timeHigh s + 1 := by
    show timeHigh s + (if 0 / 2 ^ 32 < 0xFFFF then 1 else 0) = _
    simp
  rw [timeE, hhigh]
  exact Nat.add_zero _

theorem yields_counterWrap_resting {s : State} (h : s.tim.inRest = true) : Yields .counterWrap s fun t =>
    t.tim = { s.tim with h := 0, frac := 0 } ∧
    fget t Reg.TIM_REST_WRAPS_WRAPS = min 65535 (fget s Reg.TIM_REST_WRAPS_WRAPS + 1) ∧ Quiet [Reg.TIM_REST_WRAPS] s t := by
  let u : State := { s with tim := { s.tim with h := 0, frac := 0 } }
  have heq : counterWrap s = fcount Reg.TIM_REST_WRAPS_WRAPS 1 u := by
    unfold counterWrap countWrap
    rw [if_pos h]
    exact if_pos h
  have hu : RegsKept [Reg.TIM_REST_WRAPS] s u := regsKept_of_eq rfl
  exact ⟨_, congrArg Host.Outcome.next heq, rfl, fget_fcount (f := Reg.TIM_REST_WRAPS_WRAPS) rfl 1 u, rfl, rfl, rfl,
    hu.trans (regsKept_fput (f := Reg.TIM_REST_WRAPS_WRAPS) (List.mem_singleton.2 rfl) _ u), dramKept_of_eq rfl⟩

/-! ## The source in force -/

theorem timeSource_congr {s t : State} (hmembers : fget t Reg.COH_CFG_MEMBERS = fget s Reg.COH_CFG_MEMBERS) (hmaster : masterBit t = masterBit s)
    (hptp : fbit t Reg.TIM_STATUS_PTP_EN = fbit s Reg.TIM_STATUS_PTP_EN) (hlock : fbit t Reg.TIM_STATUS_PTP_LOCK = fbit s Reg.TIM_STATUS_PTP_LOCK)
    (href : fbit t Reg.TIM_STATUS_REF_EN = fbit s Reg.TIM_STATUS_REF_EN) (hgood : t.tim.refGood = s.tim.refGood) : timeSource t = timeSource s := by
  rw [timeSource, hmembers, hmaster, hptp, hlock, href, hgood, ← timeSource]

theorem timeSource_lt (s : State) : timeSource s < 4 := by
  unfold timeSource
  (repeat' split) <;> decide

theorem increment_setIncrement (v : Nat) (s : State) : increment (setIncrement v s) = v % 2 ^ 64 := rget64_rset64 _ _ _ _ (by decide)

theorem clampInc_lt (v : Int) : clampInc v % 2 ^ 64 = clampInc v := by
  refine Nat.mod_eq_of_lt ?_
  unfold clampInc incMin incMax
  omega

/-- The registers of the active increment. -/
def incRegs : List Nat := [Reg.TIM_INC_LO, Reg.TIM_INC_HI]

theorem regsKept_setIncrement (v : Nat) (s : State) : RegsKept incRegs s (setIncrement v s) :=
  regsKept_rset64 List.mem_cons_self (List.mem_cons_of_mem _ List.mem_cons_self) v s

theorem increment_regsKept {ks : List Nat} {s t : State} (h : RegsKept ks s t) (hlo : Reg.TIM_INC_LO ∉ ks) (hhi : Reg.TIM_INC_HI ∉ ks) :
    increment t = increment s := rget64_regsKept h hlo hhi

theorem timeSource_setIncrement (v : Nat) (s : State) : timeSource (setIncrement v s) = timeSource s := by
  have h := regsKept_setIncrement v s
  exact timeSource_congr (h.fget (by decide)) (masterBit_congr (h _ (by decide)) (h _ (by decide)) rfl) (fbit_regsKept h (by decide))
    (fbit_regsKept h (by decide)) (fbit_regsKept h (by decide)) rfl

theorem settleSource_pwr (s : State) : (settleSource s).pwr = s.pwr := by
  unfold settleSource
  dsimp only
  split <;> rfl

/-- SRC shows the source in force, which HOST's takeover gives its own increment. -/
theorem settleSource_settles (s : State) : let t := settleSource s
    fget t Reg.TIM_STATUS_SRC = timeSource s ∧ timeSource t = timeSource s ∧
    (timeSource s = 3 → increment t = s.tim.hostInc % 2 ^ 64) ∧ (timeSource s ≠ 3 → increment t = increment s) := by
  have hkept := regsKept_settleSource s
  have hbit : ∀ f : Field, f.reg = Reg.TIM_STATUS → Reg.TIM_STATUS_SRC.hi < f.lo → f.lo ≤ f.hi → fbit (settleSource s) f = fbit s f := fun f hreg hb hf => by
    rw [fbit, fget_settleSource s hreg (.inr hb) hf, fbit]
  have hput : fget (fput Reg.TIM_STATUS_SRC (timeSource s) s) Reg.TIM_STATUS_SRC = timeSource s :=
    (fget_fput_same s Reg.TIM_STATUS_SRC rfl _).trans (Nat.mod_eq_of_lt (timeSource_lt s))
  refine ⟨?_, ?_, fun h => ?_, fun h => ?_⟩
  · unfold settleSource
    dsimp only
    split
    · rw [(regsKept_setIncrement _ _).fget (f := Reg.TIM_STATUS_SRC) (by decide), hput]
    · exact hput
  · exact timeSource_congr (hkept.fget (by decide)) (masterBit_congr (hkept _ (by decide)) (hkept _ (by decide)) (settleSource_pwr s))
      (hbit _ rfl (by decide) (by decide)) (hbit _ rfl (by decide) (by decide)) (hbit _ rfl (by decide) (by decide)) (by rw [settleSource_tim])
  · have heq : settleSource s = setIncrement s.tim.hostInc (fput Reg.TIM_STATUS_SRC (timeSource s) s) := if_pos h
    rw [heq, increment_setIncrement]
  · have heq : settleSource s = fput Reg.TIM_STATUS_SRC (timeSource s) s := if_neg h
    have hsrc : RegsKept [Reg.TIM_STATUS] s (fput Reg.TIM_STATUS_SRC (timeSource s) s) := regsKept_fput (f := Reg.TIM_STATUS_SRC) (List.mem_singleton.2 rfl) _ s
    rw [heq]
    exact increment_regsKept hsrc (by decide) (by decide)

/-! ## REF_IN -/

theorem yields_refInWindow_idle {s : State} (adv : Nat) (h : adv = 0 ∨ fbit s Reg.TIM_STATUS_REF_EN = false) :
    Yields (.refInWindow adv) s fun t => t = s := by
  refine ⟨_, rfl, if_pos ?_⟩
  rcases h with h | h <;> simp [h]

/-- The windows of the reference in a row that were small enough, after one that advanced by `adv`. -/
def windowsAfter (adv : Nat) (s : State) : Nat :=
  if ((adv : Int) - 10 ^ 9 * 2 ^ 32).natAbs * 10 ^ 7 < 10 ^ 9 * 2 ^ 32 then s.tim.refWindows + 1 else 0

/-- The residual of a window, in ppb. -/
def windowPpb (adv : Nat) : Int := sat32 (rndDiv (((adv : Int) - 10 ^ 9 * 2 ^ 32) * 10 ^ 9) (10 ^ 9 * 2 ^ 32))

/-- The reference after a window, before the source is taken anew. -/
def refMeasured (adv : Nat) (s : State) : State :=
  fput Reg.TIM_STATUS_REF_LOCK (if 10 ≤ windowsAfter adv s then 1 else 0)
    (fputInt Reg.TIM_REF_ERR_PPB (windowPpb adv) { s with tim := { s.tim with refGood := true, refWindows := windowsAfter adv s } })

theorem refWindow_eq {s : State} {adv : Nat} (hadv : adv ≠ 0) (hon : fbit s Reg.TIM_STATUS_REF_EN = true) : refWindow adv s =
    let u := settleSource (refMeasured adv s)
    if fget u Reg.TIM_STATUS_SRC = 2 then setIncrement (clampInc (rndDiv ((increment u : Int) * (10 ^ 9 * 2 ^ 32)) adv)) u else u := by
  have hsmall : (if decide (((adv : Int) - 10 ^ 9 * 2 ^ 32).natAbs * 10 ^ 7 < (10 ^ 9 * 2 ^ 32 : Int).natAbs) = true then s.tim.refWindows + 1 else 0) =
      windowsAfter adv s := by
    simp only [decide_eq_true_eq]
    rfl
  unfold refWindow
  rw [if_neg (by simp [hon, hadv])]
  dsimp only
  rw [hsmall]
  rfl

theorem refMeasured_shows (adv : Nat) (s : State) : let t := refMeasured adv s
    fget t Reg.TIM_REF_ERR_PPB = unsigned 32 (windowPpb adv) ∧ fbit t Reg.TIM_STATUS_REF_LOCK = decide (10 ≤ windowsAfter adv s) ∧
    RegsKept [Reg.TIM_STATUS, Reg.TIM_REF_ERR] s t := by
  let u : State := { s with tim := { s.tim with refGood := true, refWindows := windowsAfter adv s } }
  let v := fputInt Reg.TIM_REF_ERR_PPB (windowPpb adv) u
  have hu : RegsKept [Reg.TIM_STATUS, Reg.TIM_REF_ERR] s u := regsKept_of_eq rfl
  have hv : RegsKept [Reg.TIM_STATUS, Reg.TIM_REF_ERR] u v := regsKept_fput (f := Reg.TIM_REF_ERR_PPB) (by decide) _ u
  have ht : RegsKept [Reg.TIM_STATUS] v (refMeasured adv s) := regsKept_fput (f := Reg.TIM_STATUS_REF_LOCK) (List.mem_singleton.2 rfl) _ v
  refine ⟨?_, ?_, (hu.trans hv).trans (ht.mono (by decide))⟩
  · rw [ht.fget (f := Reg.TIM_REF_ERR_PPB) (by decide)]
    exact (fget_fput_same u Reg.TIM_REF_ERR_PPB rfl _).trans (Nat.mod_eq_of_lt (unsigned_lt 32 _))
  · rw [refMeasured, fbit_fput v Reg.TIM_STATUS_REF_LOCK rfl rfl]
    by_cases h : 10 ≤ windowsAfter adv s <;> simp [h]

theorem yields_refInWindow {s : State} {adv : Nat} (hadv : adv ≠ 0) (hon : fbit s Reg.TIM_STATUS_REF_EN = true) :
    Yields (.refInWindow adv) s fun t =>
      t.tim = { s.tim with refGood := true, refWindows := windowsAfter adv s } ∧
      fbit t Reg.TIM_STATUS_REF_LOCK = decide (10 ≤ t.tim.refWindows) ∧
      fget t Reg.TIM_REF_ERR_PPB = unsigned 32 (windowPpb adv) ∧
      (fget t Reg.TIM_STATUS_SRC = 2 → increment t = clampInc (rndDiv ((increment s : Int) * (10 ^ 9 * 2 ^ 32)) adv)) ∧
      fget t Reg.TIM_STATUS_SRC = timeSource t ∧ (fget t Reg.TIM_STATUS_SRC = 3 → increment t = s.tim.hostInc % 2 ^ 64) ∧
      Quiet [Reg.TIM_STATUS, Reg.TIM_REF_ERR, Reg.TIM_INC_LO, Reg.TIM_INC_HI] s t := by
  let m := refMeasured adv s
  let u := settleSource m
  obtain ⟨hppb, hlock, hmregs⟩ := refMeasured_shows adv s
  obtain ⟨hsrc, hsame, hhost, hother⟩ := settleSource_settles m
  have hsettle : RegsKept [Reg.TIM_STATUS, Reg.TIM_INC_LO, Reg.TIM_INC_HI] m u := regsKept_settleSource m
  have htim : u.tim = { s.tim with refGood := true, refWindows := windowsAfter adv s } := settleSource_tim m
  have hregs : RegsKept [Reg.TIM_STATUS, Reg.TIM_REF_ERR, Reg.TIM_INC_LO, Reg.TIM_INC_HI] s u := (hmregs.mono (by decide)).trans (hsettle.mono (by decide))
  have hulock : fbit u Reg.TIM_STATUS_REF_LOCK = decide (10 ≤ windowsAfter adv s) := by
    rw [fbit, fget_settleSource m rfl (by decide) (by decide), ← fbit, hlock]
  have huppb : fget u Reg.TIM_REF_ERR_PPB = unsigned 32 (windowPpb adv) := (hsettle.fget (by decide)).trans hppb
  have hquiet : Quiet [Reg.TIM_STATUS, Reg.TIM_REF_ERR, Reg.TIM_INC_LO, Reg.TIM_INC_HI] s u :=
    ⟨by simp [u, m, refMeasured], by simp [u, m, refMeasured], by simp [u, m, refMeasured], hregs, dramKept_of_eq (by simp [u, m, refMeasured])⟩
  have hinc : timeSource m ≠ 3 → increment u = increment s := fun h =>
    (hother h).trans (increment_regsKept hmregs (by decide) (by decide))
  refine ⟨_, congrArg Host.Outcome.next (refWindow_eq hadv hon), ?_⟩
  dsimp only
  by_cases htwo : fget u Reg.TIM_STATUS_SRC = 2
  · let t := setIncrement (clampInc (rndDiv ((increment u : Int) * (10 ^ 9 * 2 ^ 32)) adv)) u
    have hkept : RegsKept incRegs u t := regsKept_setIncrement _ u
    have htsrc : fget t Reg.TIM_STATUS_SRC = fget u Reg.TIM_STATUS_SRC := hkept.fget (by decide)
    have hmtwo : timeSource m = 2 := hsrc.symm.trans htwo
    rw [if_pos htwo]
    refine ⟨htim, ?_, (hkept.fget (by decide)).trans huppb, fun _ => ?_, ?_, fun h => absurd (htwo.symm.trans (htsrc.symm.trans h)) (by decide), ?_⟩
    · rw [show (setIncrement (clampInc (rndDiv ((increment u : Int) * (10 ^ 9 * 2 ^ 32)) adv)) u).tim = u.tim from rfl, htim,
        fbit_regsKept hkept (by decide), hulock]
    · rw [increment_setIncrement, clampInc_lt, hinc (by rw [hmtwo]; decide)]
    · rw [htsrc, timeSource_setIncrement, hsrc, hsame]
    · obtain ⟨hflow, hjob, hev, hqregs, hdram⟩ := hquiet
      exact ⟨hflow, hjob, hev, hqregs.trans (hkept.mono (by decide)), hdram⟩
  · rw [if_neg htwo]
    refine ⟨htim, ?_, huppb, fun h => absurd h htwo, hsrc.trans hsame.symm, fun h => ?_, hquiet⟩
    · rw [show (settleSource (refMeasured adv s)).tim = _ from htim]
      exact hulock
    · have hm : m.tim.hostInc = s.tim.hostInc := rfl
      exact (hhost (hsrc.symm.trans h)).trans (by rw [hm])

theorem yields_refInLost {s : State} (hon : fbit s Reg.TIM_STATUS_REF_EN = true) :
    Yields .refInLost s fun t => t.tim = { s.tim with refGood := false, refWindows := 0 } ∧
      fbit t Reg.TIM_STATUS_REF_LOCK = false ∧ fget t Reg.TIM_STATUS_SRC ≠ 2 ∧ t.ev = (raise Ev.REF_IN_LOST s).ev ∧ t.flow = s.flow ∧
      t.job = s.job ∧ RegsKept [Reg.TIM_STATUS, Reg.TIM_INC_LO, Reg.TIM_INC_HI] s t ∧ DramKept s t := by
  let u : State := { s with tim := { s.tim with refGood := false, refWindows := 0 } }
  let v := fput Reg.TIM_STATUS_REF_LOCK 0 u
  have heq : refLost s = raise Ev.REF_IN_LOST (settleSource v) := if_neg (by simp [hon])
  obtain ⟨hsrc, -⟩ := settleSource_settles v
  have hu : RegsKept [Reg.TIM_STATUS, Reg.TIM_INC_LO, Reg.TIM_INC_HI] s u := regsKept_of_eq rfl
  have hv : RegsKept [Reg.TIM_STATUS, Reg.TIM_INC_LO, Reg.TIM_INC_HI] u v := regsKept_fput (f := Reg.TIM_STATUS_REF_LOCK) (by decide) 0 u
  have hregs : RegsKept [Reg.TIM_STATUS, Reg.TIM_INC_LO, Reg.TIM_INC_HI] s (settleSource v) := (hu.trans hv).trans (regsKept_settleSource v)
  have hlost : timeSource v ≠ 2 := by
    have hgood : v.tim.refGood = false := rfl
    unfold timeSource
    rw [hgood]
    (repeat' split) <;> simp_all
  refine ⟨_, congrArg Host.Outcome.next heq, settleSource_tim v, ?_, ?_, ?_, by simp [v, u], by simp [v, u], hregs.trans (regsKept_of_eq rfl),
    dramKept_of_eq (by simp [v, u])⟩
  · have hbit : fbit (settleSource v) Reg.TIM_STATUS_REF_LOCK = false := by
      rw [fbit, fget_settleSource v rfl (by decide) (by decide), ← fbit]
      exact fbit_fput u Reg.TIM_STATUS_REF_LOCK rfl rfl 0
    exact hbit
  · rw [show fget (raise Ev.REF_IN_LOST (settleSource v)) Reg.TIM_STATUS_SRC = _ from hsrc]
    exact hlost
  · have hev : (settleSource v).ev = s.ev := by simp [v, u]
    rw [raise, hev, raise]

/-! ## PTP -/

theorem setPtpOut_sets (out : Bool) (s : State) : let t := setPtpOut out s
    t.tim = { s.tim with ptpOut := out } ∧ t.regs = s.regs ∧ t.pwr = s.pwr ∧ t.ev = (raiseIf (out && !s.tim.ptpOut) Ev.PTP_UNLOCKED s).ev := by
  unfold setPtpOut
  cases out && !s.tim.ptpOut <;> exact ⟨rfl, rfl, rfl, rfl⟩

theorem fget_regs {s t : State} (h : t.regs = s.regs) (f : Field) : fget t f = fget s f := fget_congr (rget_regs_congr h _)

theorem fbit_regs {s t : State} (h : t.regs = s.regs) (f : Field) : fbit t f = fbit s f := by rw [fbit, fget_regs h, fbit]

theorem timeSource_setPtpOut (out : Bool) (s : State) : timeSource (setPtpOut out s) = timeSource s := by
  obtain ⟨htim, hregs, hpwr, -⟩ := setPtpOut_sets out s
  exact timeSource_congr (fget_regs hregs _) (masterBit_congr (rget_regs_congr hregs _) (rget_regs_congr hregs _) hpwr)
    (fbit_regs hregs _) (fbit_regs hregs _) (fbit_regs hregs _) (by rw [htim])

/-- The module follows the cohort: it is a member, and not the master. -/
theorem timeSource_zero (s : State) : timeSource s = 0 ↔ (fget s Reg.COH_CFG_MEMBERS > 1 ∧ ¬ masterBit s) := by
  unfold timeSource
  split
  · next h => exact iff_of_true rfl h
  · next h =>
    refine iff_of_false ?_ h
    (repeat' split) <;> decide

/-- PTP's lock is set or cleared, the source is taken anew, and PTP_UNLOCKED begins or ends. -/
def ptpLocked (lock : Bool) (s : State) : State :=
  setPtpOut (!lock) (settleSource (fput Reg.TIM_STATUS_PTP_LOCK (if lock then 1 else 0) s))

theorem ptpLocked_shows (lock : Bool) (s : State) : let t := ptpLocked lock s
    fbit t Reg.TIM_STATUS_PTP_LOCK = lock ∧ fget t Reg.TIM_STATUS_SRC = timeSource t ∧
    (timeSource t = 3 → increment t = s.tim.hostInc % 2 ^ 64) ∧ (timeSource t ≠ 3 → increment t = increment s) ∧
    (lock = false → timeSource t ≠ 1) ∧ (timeSource s = 0 ↔ timeSource t = 0) ∧
    t.tim = { s.tim with ptpOut := !lock } ∧ t.ev = (raiseIf (!lock && !s.tim.ptpOut) Ev.PTP_UNLOCKED s).ev ∧
    RegsKept [Reg.TIM_STATUS, Reg.TIM_INC_LO, Reg.TIM_INC_HI] s t := by
  let u := fput Reg.TIM_STATUS_PTP_LOCK (if lock then 1 else 0) s
  let v := settleSource u
  obtain ⟨htim, hregs, hpwr, hev⟩ := setPtpOut_sets (!lock) v
  obtain ⟨hsrc, hsame, hhost, hother⟩ := settleSource_settles u
  have hu : RegsKept [Reg.TIM_STATUS] s u := regsKept_fput (f := Reg.TIM_STATUS_PTP_LOCK) (List.mem_singleton.2 rfl) _ s
  have hv : RegsKept [Reg.TIM_STATUS, Reg.TIM_INC_LO, Reg.TIM_INC_HI] u v := regsKept_settleSource u
  have hvtim : v.tim = s.tim := settleSource_tim u
  have hulock : fbit u Reg.TIM_STATUS_PTP_LOCK = lock := by
    rw [show u = _ from rfl, fbit_fput s Reg.TIM_STATUS_PTP_LOCK rfl rfl]
    cases lock <;> rfl
  have hsource : timeSource (ptpLocked lock s) = timeSource u := (timeSource_setPtpOut (!lock) v).trans hsame
  refine ⟨?_, ?_, fun h => ?_, fun h => ?_, fun h => ?_, ?_, ?_, ?_, ?_⟩
  · rw [ptpLocked, fbit_regs hregs, fbit, fget_settleSource u rfl (by decide) (by decide), ← fbit, hulock]
  · rw [hsource, ptpLocked, fget_regs hregs, hsrc]
  · rw [hsource] at h
    rw [ptpLocked, increment, rget64, rget_regs_congr hregs, rget_regs_congr hregs, ← rget64, ← increment, hhost h]
    rfl
  · rw [hsource] at h
    rw [ptpLocked, increment, rget64, rget_regs_congr hregs, rget_regs_congr hregs, ← rget64, ← increment, hother h]
    exact increment_regsKept hu (by decide) (by decide)
  · rw [hsource]
    unfold timeSource
    rw [hulock, h]
    (repeat' split) <;> simp_all
  · rw [hsource, timeSource_zero, timeSource_zero, hu.fget (f := Reg.COH_CFG_MEMBERS) (by decide), masterBit_congr (hu _ (by decide)) (hu _ (by decide)) rfl]
  · rw [ptpLocked, htim, hvtim]
  · rw [ptpLocked, hev, hvtim]
    have hvev : v.ev = s.ev := by simp [v, u]
    cases !lock && !s.tim.ptpOut
    · exact hvev
    · rw [raiseIf, if_pos rfl, raise, hvev, raiseIf, if_pos rfl, raise]
  · exact ((hu.mono (by decide)).trans hv).trans (regsKept_of_eq hregs)

theorem yields_ptpSyncTimeout {s : State} (hon : fbit s Reg.TIM_STATUS_PTP_EN = true) :
    Yields .ptpSyncTimeout s fun t => fbit t Reg.TIM_STATUS_PTP_LOCK = false ∧ fget t Reg.TIM_STATUS_SRC ≠ 1 ∧
      t.ev = (raiseIf (!s.tim.ptpOut) Ev.PTP_UNLOCKED s).ev ∧ t.tim = { s.tim with ptpOut := true } ∧ t.flow = s.flow ∧ t.job = s.job ∧
      RegsKept [Reg.TIM_STATUS, Reg.TIM_INC_LO, Reg.TIM_INC_HI] s t ∧ DramKept s t := by
  have heq : ptpTimeout s = ptpLocked false s := if_neg (by simp [hon])
  obtain ⟨hlock, hsrc, -, -, hout, -, htim, hev, hregs⟩ := ptpLocked_shows false s
  exact ⟨_, congrArg Host.Outcome.next heq, hlock, by rw [hsrc]; exact hout rfl, hev, htim, by simp [ptpLocked], by simp [ptpLocked], hregs,
    dramKept_of_eq (by simp [ptpLocked])⟩

/-- The offset of a Sync from `origin`. -/
def syncOffset (origin : Nat) (s : State) : Int := (timeE s : Int) - origin - s.tim.ptpDelay

/-- A Sync once its offset is shown, and the lock taken from it. -/
def syncHeard (origin : Nat) (s : State) : State :=
  ptpLocked (decide ((syncOffset origin s).natAbs ≤ 1000))
    (fputInt Reg.TIM_PTP_OFS_NS (sat32 (syncOffset origin s)) { s with tim := { s.tim with ptpSync := some (origin, timeE s) } })

theorem ptpSyncArrives_eq (origin inc : Nat) (s : State) : ptpSyncArrives origin inc s =
    let u := syncHeard origin s
    if timeSource u = 0 then u
    else if 100000 < (syncOffset origin s).natAbs then stepTime ((timeE u : Int) - syncOffset origin s) u
    else if timeSource u = 1 then setIncrement (clampInc inc) u
    else u := rfl

theorem syncHeard_shows (origin : Nat) (s : State) : let t := syncHeard origin s
    let ofs := syncOffset origin s
    fget t Reg.TIM_PTP_OFS_NS = unsigned 32 (sat32 ofs) ∧ fbit t Reg.TIM_STATUS_PTP_LOCK = decide (ofs.natAbs ≤ 1000) ∧
    fget t Reg.TIM_STATUS_SRC = timeSource t ∧ (timeSource t = 3 → increment t = s.tim.hostInc % 2 ^ 64) ∧
    (timeSource t ≠ 3 → increment t = increment s) ∧ (timeSource s = 0 ↔ timeSource t = 0) ∧
    t.tim = { s.tim with ptpSync := some (origin, timeE s), ptpOut := decide (1000 < ofs.natAbs) } ∧
    t.ev = (raiseIf (decide (1000 < ofs.natAbs) && !s.tim.ptpOut) Ev.PTP_UNLOCKED s).ev ∧
    RegsKept [Reg.TIM_STATUS, Reg.TIM_PTP_OFS, Reg.TIM_INC_LO, Reg.TIM_INC_HI] s t ∧ t.flow = s.flow ∧ t.job = s.job ∧ t.dram = s.dram := by
  let u : State := { s with tim := { s.tim with ptpSync := some (origin, timeE s) } }
  let v := fputInt Reg.TIM_PTP_OFS_NS (sat32 (syncOffset origin s)) u
  obtain ⟨hlock, hsrc, hhost, hother, -, hfollows, htim, hev, hregs⟩ := ptpLocked_shows (decide ((syncOffset origin s).natAbs ≤ 1000)) v
  have hu : RegsKept [Reg.TIM_PTP_OFS] s u := regsKept_of_eq rfl
  have hv : RegsKept [Reg.TIM_PTP_OFS] s v := hu.trans (regsKept_fput (f := Reg.TIM_PTP_OFS_NS) (List.mem_singleton.2 rfl) _ u)
  have hvsource : timeSource v = timeSource s := timeSource_congr (hv.fget (by decide)) (masterBit_congr (hv _ (by decide)) (hv _ (by decide)) rfl)
    (fbit_regsKept hv (by decide)) (fbit_regsKept hv (by decide)) (fbit_regsKept hv (by decide)) rfl
  have hout : (!decide ((syncOffset origin s).natAbs ≤ 1000)) = decide (1000 < (syncOffset origin s).natAbs) := by
    by_cases h : (syncOffset origin s).natAbs ≤ 1000
    · simp [h, not_lt.2 h]
    · simp [h, not_le.1 h]
  refine ⟨?_, hlock, hsrc, hhost, fun h => (hother h).trans (increment_regsKept hv (by decide) (by decide)), ?_, ?_, ?_,
    (hv.mono (by decide)).trans (hregs.mono (by decide)), by simp [syncHeard, ptpLocked], by simp [syncHeard, ptpLocked], by simp [syncHeard, ptpLocked]⟩
  · refine (hregs.fget (f := Reg.TIM_PTP_OFS_NS) (by decide)).trans ?_
    exact (fget_fput_same u Reg.TIM_PTP_OFS_NS rfl _).trans (Nat.mod_eq_of_lt (unsigned_lt 32 _))
  · rw [← hvsource]
    exact hfollows
  · rw [← hout]
    exact htim
  · rw [← hout]
    refine hev.trans ?_
    have hvev : v.ev = s.ev := rfl
    have hvtim : v.tim.ptpOut = s.tim.ptpOut := rfl
    rw [hvtim]
    cases !decide ((syncOffset origin s).natAbs ≤ 1000) && !s.tim.ptpOut <;> rfl

theorem timeE_congr {s t : State} (h : t.tim.h = s.tim.h) (hhigh : t.tim.high = s.tim.high) (hprev : t.tim.prevWraps = s.tim.prevWraps) :
    timeE t = timeE s := by
  rw [timeE, timeHigh, h, hhigh, hprev, ← timeHigh, ← timeE]

theorem ptpMessage_on {s : State} (m : PtpMsg) (hen : fbit s Reg.TIM_STATUS_PTP_EN = true) (hon : powered s Dom.ETH = true) :
    ptpMessage m s = match m with
      | .sync h origin inc => if ptpMine s h then ptpSyncArrives origin inc s else s
      | .sent id => if sfpTransmitDisable s then s else ptpReqSent id s
      | .delayResp h id t4 => if ptpMine s h then ptpDelayResp id t4 s else s
      | .unsupported => s := by
  refine (if_neg (by simp [hen, hon])).trans ?_
  cases m <;> rfl

theorem exec_sync {s : State} {h : PtpHead} (origin inc : Nat) (hen : fbit s Reg.TIM_STATUS_PTP_EN = true) (hon : powered s Dom.ETH = true)
    (hmine : ptpMine s h = true) : exec (.ptpEventMessage (.sync h origin inc)) s = .next (ptpSyncArrives origin inc s) :=
  congrArg Host.Outcome.next ((ptpMessage_on _ hen hon).trans (if_pos hmine))

theorem sat32_of_small {v : Int} (h : v.natAbs ≤ 100000) : sat32 v = v := by
  unfold sat32
  omega

/-- Within 100 µs the servo slews the counter while PTP is the source. -/
theorem yields_sync_near {s : State} {h : PtpHead} (origin inc : Nat) (hen : fbit s Reg.TIM_STATUS_PTP_EN = true) (hon : powered s Dom.ETH = true)
    (hmine : ptpMine s h = true) (hnear : (syncOffset origin s).natAbs ≤ 100000) :
    Yields (.ptpEventMessage (.sync h origin inc)) s fun t => let ofs := syncOffset origin s
      fget t Reg.TIM_PTP_OFS_NS = unsigned 32 ofs ∧ fbit t Reg.TIM_STATUS_PTP_LOCK = decide (ofs.natAbs ≤ 1000) ∧
      fget t Reg.TIM_STATUS_SRC = timeSource t ∧ (timeSource t = 1 → increment t = clampInc inc) ∧
      (timeSource t = 3 → increment t = s.tim.hostInc % 2 ^ 64) ∧ (timeSource t ≠ 1 → timeSource t ≠ 3 → increment t = increment s) ∧
      t.ev = (raiseIf (decide (1000 < ofs.natAbs) && !s.tim.ptpOut) Ev.PTP_UNLOCKED s).ev ∧
      t.tim = { s.tim with ptpSync := some (origin, timeE s), ptpOut := decide (1000 < ofs.natAbs) } ∧ t.flow = s.flow ∧
      t.job = s.job ∧ RegsKept [Reg.TIM_STATUS, Reg.TIM_PTP_OFS, Reg.TIM_INC_LO, Reg.TIM_INC_HI] s t ∧ DramKept s t := by
  let u := syncHeard origin s
  obtain ⟨hofs, hlock, hsrc, hhost, hother, -, htim, hev, hregs, hflow, hjob, hdram⟩ := syncHeard_shows origin s
  rw [sat32_of_small hnear] at hofs
  refine ⟨_, exec_sync origin inc hen hon hmine, ?_⟩
  by_cases hone : timeSource u = 1
  · have heq : ptpSyncArrives origin inc s = setIncrement (clampInc inc) u := by
      rw [ptpSyncArrives_eq]
      dsimp only
      rw [if_neg (by rw [hone]; decide), if_neg (by omega), if_pos hone]
    have hkept := regsKept_setIncrement (clampInc inc) u
    have hsame := timeSource_setIncrement (clampInc inc) u
    rw [heq]
    refine ⟨(hkept.fget (by decide)).trans hofs, (fbit_regsKept hkept (by decide)).trans hlock, ?_, fun _ => ?_, fun h => ?_, fun h _ => absurd (hsame.trans hone) h,
      by simp [u, hev], by simp [u, htim], by simp [u, hflow], by simp [u, hjob], hregs.trans (hkept.mono (by decide)), dramKept_of_eq (by simp [u, hdram])⟩
    · rw [hkept.fget (f := Reg.TIM_STATUS_SRC) (by decide), hsame]
      exact hsrc
    · rw [increment_setIncrement, clampInc_lt]
    · exact absurd (hone.symm.trans (hsame.symm.trans h)) (by decide)
  · have heq : ptpSyncArrives origin inc s = u := by
      rw [ptpSyncArrives_eq]
      by_cases hzero : timeSource u = 0
      · exact if_pos hzero
      · exact (if_neg hzero).trans ((if_neg (not_lt.2 hnear)).trans (if_neg hone))
    rw [heq]
    exact ⟨hofs, hlock, hsrc, fun h => absurd h hone, hhost, fun _ => hother, hev, htim, hflow, hjob, hregs, dramKept_of_eq hdram⟩

/-- Beyond 100 µs a member of the cohort keeps its time. -/
theorem yields_sync_far_member {s : State} {h : PtpHead} (origin inc : Nat) (hen : fbit s Reg.TIM_STATUS_PTP_EN = true) (hon : powered s Dom.ETH = true)
    (hmine : ptpMine s h = true) (hfar : 100000 < (syncOffset origin s).natAbs) (hmember : timeSource s = 0) :
    Yields (.ptpEventMessage (.sync h origin inc)) s fun t => let ofs := syncOffset origin s
      fget t Reg.TIM_PTP_OFS_NS = unsigned 32 (sat32 ofs) ∧ fbit t Reg.TIM_STATUS_PTP_LOCK = false ∧ increment t = increment s ∧
      t.tim = { s.tim with ptpSync := some (origin, timeE s), ptpOut := decide (1000 < ofs.natAbs) } ∧ t.flow = s.flow ∧ t.job = s.job ∧ DramKept s t := by
  obtain ⟨hofs, hlock, -, -, hother, hfollows, htim, -, -, hflow, hjob, hdram⟩ := syncHeard_shows origin s
  have hzero := hfollows.1 hmember
  have heq : ptpSyncArrives origin inc s = syncHeard origin s := if_pos hzero
  refine ⟨_, exec_sync origin inc hen hon hmine, ?_⟩
  rw [heq]
  exact ⟨hofs, hlock.trans (decide_eq_false (by omega)), hother (by rw [hzero]; decide), htim, hflow, hjob, dramKept_of_eq hdram⟩

theorem regsKept_loadTime (e : Int) (s : State) : RegsKept [Reg.TIM_STEP_LAST] s (loadTime e s).1 :=
  fun _ hk => rget_rset_other _ _ _ _ (by simpa using hk)

/-- Beyond 100 µs the servo steps the counter of any other module. -/
theorem yields_sync_far {s : State} {h : PtpHead} (origin inc : Nat) (hen : fbit s Reg.TIM_STATUS_PTP_EN = true) (hon : powered s Dom.ETH = true)
    (hmine : ptpMine s h = true) (hfar : 100000 < (syncOffset origin s).natAbs) (hnot : timeSource s ≠ 0) (htrigs : ∀ n, trigOf s n = none) :
    Yields (.ptpEventMessage (.sync h origin inc)) s fun t => let ofs := syncOffset origin s
      (t.tim.h : Int) = ((timeE s : Int) - ofs) % 2 ^ 48 ∧ t.tim.frac = 0 ∧ (ofs ≤ timeE s → (timeE t : Int) = timeE s - ofs) ∧
      t.ev.bits.getLsbD Ev.TIME_STEP = true ∧ fbit t Reg.TIM_STATUS_PTP_LOCK = false ∧ t.flow = s.flow ∧ t.job = s.job ∧ DramKept s t := by
  let u := syncHeard origin s
  let e : Int := (timeE s : Int) - syncOffset origin s
  obtain ⟨-, hlock, -, -, -, hfollows, htim, -, -, hflow, hjob, hdram⟩ := syncHeard_shows origin s
  have htime : timeE u = timeE s := timeE_congr (by rw [htim]) (by rw [htim]) (by rw [htim])
  have hutrigs : ∀ n, trigOf u n = none := fun n => by
    have hn : trigOf u n = trigOf s n := by rw [trigOf, htim, trigOf]
    exact hn.trans (htrigs n)
  have hstep : ∀ e : Int, stepTime e u = (loadTime e u).1 := fun e => lateTriggers_of_none fun n => trigOf_loadTime_none (hutrigs n)
  have heq : ptpSyncArrives origin inc s = stepTime e u := by
    rw [ptpSyncArrives_eq]
    dsimp only
    rw [if_neg fun h => hnot (hfollows.2 h), if_pos hfar, htime]
  have hh : ((loadTime e u).1.tim.h : Int) = e % 2 ^ 48 := by
    have hload : (loadTime e u).1.tim.h = (e % 2 ^ 48).toNat := rfl
    rw [hload, Int.toNat_of_nonneg (Int.emod_nonneg _ (by decide))]
  refine ⟨_, exec_sync origin inc hen hon hmine, ?_⟩
  rw [heq]
  refine ⟨?_, ?_, fun hle => ?_, (stepTime_steps e u).2, ?_, (stepTime_flow hutrigs).trans hflow, by simp [u, hjob], dramKept_of_eq (by simp [u, hdram])⟩
  · rw [hstep]
    exact hh
  · rw [hstep]
    rfl
  · have hnat : e = (e.toNat : Int) := (Int.toNat_of_nonneg (by omega)).symm
    rw [hnat, timeE_stepTime, ← hnat]
  · rw [hstep, fbit_regsKept (regsKept_loadTime e u) (by decide)]
    exact hlock.trans (decide_eq_false (by omega))

/-- The answer to a request that is known measures the mean path delay. -/
theorem yields_delayResp {s : State} {h : PtpHead} {id t1 t2 t3 : Nat} (at' : Nat) (hen : fbit s Reg.TIM_STATUS_PTP_EN = true)
    (hon : powered s Dom.ETH = true) (hmine : ptpMine s h = true) (hsync : s.tim.ptpSync = some (t1, t2)) (hreq : s.tim.ptpReqs.lookup id = some t3) :
    Yields (.ptpEventMessage (.delayResp h id at')) s fun t =>
      t = { s with tim := { s.tim with ptpReqs := s.tim.ptpReqs.filter (·.1 != id),
                                       ptpDelay := rndDiv (((t2 : Int) - t1) + ((at' : Int) - t3)) 2 } } := by
  refine ⟨_, congrArg Host.Outcome.next ((ptpMessage_on _ hen hon).trans (if_pos hmine)), ?_⟩
  rw [ptpDelayResp, hsync, hreq]

theorem yields_delayResp_unknown {s : State} {h : PtpHead} {id : Nat} (at' : Nat) (hen : fbit s Reg.TIM_STATUS_PTP_EN = true)
    (hon : powered s Dom.ETH = true) (hmine : ptpMine s h = true) (hnone : s.tim.ptpSync = none ∨ s.tim.ptpReqs.lookup id = none) :
    Yields (.ptpEventMessage (.delayResp h id at')) s fun t => t = s := by
  refine ⟨_, congrArg Host.Outcome.next ((ptpMessage_on _ hen hon).trans (if_pos hmine)), ?_⟩
  unfold ptpDelayResp
  split
  · next hsync hreq => rcases hnone with h | h <;> simp_all
  · rfl

theorem ptpReqSent_queues {s : State} (id : Nat) (hroom : s.tim.ts.length < 16) : let t := ptpReqSent id s
    t.tim = { s.tim with ptpReqs := assocPut s.tim.ptpReqs id (timeE s), ts := s.tim.ts ++ [⟨id % 65536, timeE s⟩] } ∧
    fget t Reg.TIM_TS_COUNT_ENTRIES = s.tim.ts.length + 1 ∧ Quiet [Reg.TIM_TS_COUNT] s t := by
  let u : State := { s with tim := { s.tim with ptpReqs := assocPut s.tim.ptpReqs id (timeE s), ts := s.tim.ts ++ [⟨id % 65536, timeE s⟩] } }
  have heq : ptpReqSent id s = fput Reg.TIM_TS_COUNT_ENTRIES u.tim.ts.length u := if_pos hroom
  have hu : RegsKept [Reg.TIM_TS_COUNT] s u := regsKept_of_eq rfl
  have hlen : u.tim.ts.length = s.tim.ts.length + 1 := List.length_append
  rw [heq]
  refine ⟨rfl, ?_, rfl, rfl, rfl, hu.trans (regsKept_fput (f := Reg.TIM_TS_COUNT_ENTRIES) (List.mem_singleton.2 rfl) _ u), dramKept_of_eq rfl⟩
  rw [fget_fput_same u Reg.TIM_TS_COUNT_ENTRIES rfl, hlen]
  exact Nat.mod_eq_of_lt (lt_of_lt_of_le (Nat.succ_lt_succ hroom) (by decide))

theorem ptpReqSent_overflows {s : State} (id : Nat) (hfull : 16 ≤ s.tim.ts.length) : let t := ptpReqSent id s
    t.tim = { s.tim with ptpReqs := assocPut s.tim.ptpReqs id (timeE s) } ∧ t.ev = (raise Ev.TS_OVERFLOW s).ev ∧
    fget t Reg.TIM_TS_DROP_COUNT = min 65535 (fget s Reg.TIM_TS_DROP_COUNT + 1) ∧ t.flow = s.flow ∧ RegsKept [Reg.TIM_TS_DROP] s t ∧ DramKept s t := by
  let u : State := { s with tim := { s.tim with ptpReqs := assocPut s.tim.ptpReqs id (timeE s) } }
  have heq : ptpReqSent id s = raise Ev.TS_OVERFLOW (fcount Reg.TIM_TS_DROP_COUNT 1 u) := if_neg (not_lt.2 hfull)
  have hu : RegsKept [Reg.TIM_TS_DROP] s u := regsKept_of_eq rfl
  rw [heq]
  exact ⟨rfl, rfl, fget_fcount (f := Reg.TIM_TS_DROP_COUNT) rfl 1 u, rfl,
    (hu.trans (regsKept_fput (f := Reg.TIM_TS_DROP_COUNT) (List.mem_singleton.2 rfl) _ u)).trans (regsKept_of_eq rfl), dramKept_of_eq rfl⟩

/-- Settles O43. -/
theorem timeIsKept : Obligations.TimeIsKept := by
  intro s
  refine ⟨yields_timNsRead s, yields_counterWrap_awake, yields_counterWrap_resting, yields_servoTick, yields_servoTick_off, fun adv => yields_refInWindow_idle adv,
    fun adv => yields_refInWindow, yields_refInLost, fun hoff => ⟨_, rfl, if_pos (by simp [hoff])⟩, fun hoff => ⟨_, rfl, if_pos (by simp [hoff])⟩,
    fun m hoff => ⟨_, rfl, if_pos ?_⟩, yields_ptpSyncTimeout, fun hen hon => ⟨fun h origin inc hmine => ⟨yields_sync_near origin inc hen hon hmine,
      yields_sync_far_member origin inc hen hon hmine, yields_sync_far origin inc hen hon hmine⟩, fun h origin inc id at' hmine => ⟨?_, ?_⟩,
      fun h id at' hmine => ⟨fun t1 t2 t3 => yields_delayResp at' hen hon hmine, yields_delayResp_unknown at' hen hon hmine⟩, fun id hdis => ?_,
      fun id hdis => ⟨fun hroom => ?_, fun hfull => ?_⟩, ⟨_, congrArg Host.Outcome.next (ptpMessage_on _ hen hon), rfl⟩⟩,
    fun up h => ⟨_, rfl, if_neg ?_⟩, fun up hon hup => ⟨_, rfl, if_pos ⟨hon, hup⟩⟩⟩
  · rcases hoff with h | h <;> simp [h]
  · exact ⟨_, congrArg Host.Outcome.next (ptpMessage_on _ hen hon), if_neg (by simp [hmine])⟩
  · exact ⟨_, congrArg Host.Outcome.next (ptpMessage_on _ hen hon), if_neg (by simp [hmine])⟩
  · exact ⟨_, congrArg Host.Outcome.next (ptpMessage_on _ hen hon), if_pos hdis⟩
  · exact ⟨_, congrArg Host.Outcome.next ((ptpMessage_on _ hen hon).trans (if_neg (by simp [hdis]))), ptpReqSent_queues id hroom⟩
  · exact ⟨_, congrArg Host.Outcome.next ((ptpMessage_on _ hen hon).trans (if_neg (by simp [hdis]))), ptpReqSent_overflows id hfull⟩
  · rcases h with h | h <;> simp [h]

end Sys2Proof.Machine
end

section
/-!
PROOFS. O44 fails where a write that waits behind an apply is of SEC_STATUS: the held debug instruction ends the job, the apply lands, and so does
the write.
-/

namespace Sys2Proof.Machine

/-! ## An apply of no entry on an empty Beam Table -/

theorem beamCounts_of_empty {s : State} (h : s.beams.table = []) :
    beamCounts s = fputSat Reg.BHM_COUNTS_RETIRED 0 (fputSat Reg.BHM_COUNTS_WEAK 0 s) := by
  have hnone : ∀ st, st ≠ 0 → ((List.range nBeams).filter fun b => entStatus (entry s.beams.table b) == st).length = 0 := by
    intro st hst
    have hzero : ∀ b, entStatus (entry s.beams.table b) = 0 := fun b => by
      rw [h]
      exact (by decide : entStatus 0 = 0)
    rw [List.length_eq_zero_iff, List.filter_eq_nil_iff]
    intro b _
    rw [hzero, beq_iff_eq]
    exact Ne.symm hst
  unfold beamCounts
  dsimp only
  rw [hnone 2 (by decide), hnone 1 (by decide)]

/-- The apply of no entry, with the counts of an empty Beam Table. -/
def emptyApplied (s : State) : State :=
  let a := closeHistory s.beams.nextHist (writeSummary 0 (rget s Reg.GTH_BT_SUM) { s with beams := { s.beams with changed := s.beams.changed ++ [] } })
  let a := stuckRelease (fputSat Reg.BHM_COUNTS_RETIRED 0 (fputSat Reg.BHM_COUNTS_WEAK 0 a))
  let x := fput Reg.GTH_BT_STATUS_PENDING 0 { a with beams := { a.beams with applyCmd := none } }
  stageNext (drainStalled x.beams.stalled.length x)

theorem beamApply_of_empty {s : State} (happly : s.beams.applyCmd = some (0, none)) (htable : s.beams.table = []) :
    beamApply none s = emptyApplied s := by
  have hkept : (closeHistory s.beams.nextHist (writeSummary 0 (rget s Reg.GTH_BT_SUM)
      { s with beams := { s.beams with changed := s.beams.changed ++ [] } })).beams.table = [] := by
    rw [closeHistory_beams, writeSummary_beams]
    exact htable
  have hentries : applyEntries none 0 (rget s Reg.GTH_BT_SUM) [] s = stuckRelease (fputSat Reg.BHM_COUNTS_RETIRED 0 (fputSat Reg.BHM_COUNTS_WEAK 0
      (closeHistory s.beams.nextHist (writeSummary 0 (rget s Reg.GTH_BT_SUM) { s with beams := { s.beams with changed := s.beams.changed ++ [] } })))) :=
    congrArg stuckRelease (beamCounts_of_empty hkept)
  unfold beamApply
  rw [happly]
  dsimp only
  rw [show bits (0 : Word).toNat 30 16 = 0 from rfl, show stagedEntries s 0 = [] from rfl, hentries]
  rfl

/-! ## The debug instruction -/

/-- PROVISIONED, Ready with a job loaded. An apply of no entry is in force, and a write of SEC_STATUS that sets DEBUG_OPEN waits behind it. -/
def stalledDebugOpen : State :=
  { fput Reg.SEC_STATUS_LIFECYCLE Life.provisioned State.reset with
    flow := { State.reset.flow with mode := .ready, boot := .over, job := .loaded }
    job := some emptyJob
    beams := { State.reset.beams with applyCmd := some (0, none), stalled := [(Reg.SEC_STATUS, 0x11)] } }

/-- What the end of the job does once its applies have landed. -/
def afterApplies (s : State) : State :=
  let s := clearJobCauses s
  let s := { s with
    flow := { s.flow with job := .none, resume := .none, holdReq := false, lastLayer := none, starting := none }
    job := none
    prog := { Progress.zero with lastStarted := none }
    ingest := s.ingest.after true, cache := { Cache.empty with size := s.cache.size }, ras := Raster.empty, win := Window.closed, shots := []
    sec := { s.sec with jobKey := none }, coh := s.coh.noHandshake }
  let s := emptyJobMemory s
  let s := streamSync (skiverRestart (fput Reg.SEC_STATUS_JOB_KEY 0 (disarm s)))
  let s := dropStarts (disownStage s)
  let s := absSync (setVotes [Dom.RAST, Dom.GATH, Dom.OUT] Client.job false s)
  if s.sec.debugHeld then debugFill s else s

theorem endJob_abort (s : State) : endJob true s =
    afterApplies (applyAll (absStripeEnd { readyOutputs (closeRecess (stopStage s)) with
      flow := { (readyOutputs (closeRecess (stopStage s))).flow with mode := .ready } })) := rfl

/-- The job end that a held debug instruction asks for. -/
def debugEnding : Ending := ⟨none, none, true⟩

theorem abortJob_ready (slot : Option (Fin 16)) {s : State}
    (h : (stopStage { s with flow := { s.flow with ending := some ⟨slot, none, false⟩ } }).flow.mode ≠ .write) :
    abortJob slot s = effectEnding (stopStage { s with flow := { s.flow with ending := some ⟨slot, none, false⟩ } }) := if_neg h

theorem effectEnding_abort {s : State} (h : s.flow.ending = some ⟨none, none, false⟩) : effectEnding s = finishEnding (closeStripe (assertBlank
    { stopStage s with flow := { (stopStage s).flow with ending := some debugEnding, holdReq := false } })) := by
  rw [effectEnding, h]
  rfl

theorem finishEnding_abort {s : State} (h : s.flow.ending = some debugEnding) (hnow : (s.shots.isEmpty && !s.flow.restartReq) = true) :
    finishEnding s = endJob true { s with flow := { s.flow with ending := none } } := by
  rw [Bool.and_eq_true] at hnow
  rw [finishEnding, h]
  exact if_pos (by simp [hnow, debugEnding])

theorem applyAll_of_empty {s : State} (happly : s.beams.applyCmd = some (0, none)) (htable : s.beams.table = [])
    (hfuel : s.beams.queue.length + s.beams.stalled.length = 1) : applyAll s = applyWaiting 1 (emptyApplied s) := by
  rw [applyAll, hfuel, applyWaiting, happly, beamApply_of_empty happly htable]
  rfl

/-- The debug instruction is held. -/
def debugAsked : State := { stalledDebugOpen with sec := { stalledDebugOpen.sec with debugHeld := true } }

/-- The end of the job is asked for. -/
def endingAsked : State := stopStage { debugAsked with flow := { debugAsked.flow with ending := some ⟨none, none, false⟩ } }

/-- The job ends. -/
def jobEnding : State :=
  closeStripe (assertBlank { stopStage endingAsked with flow := { (stopStage endingAsked).flow with ending := some debugEnding, holdReq := false } })

theorem debugDue_debugAsked : debugDue debugAsked = abortJob none debugAsked := by
  rw [debugDue, if_neg (by decide), if_pos (by decide)]
  rfl

theorem jtagInstruction_ends : jtagInstruction .debug stalledDebugOpen = finishEnding jobEnding := by
  have hdue : jtagInstruction .debug stalledDebugOpen = debugDue debugAsked := by
    rw [jtagInstruction, if_neg (by decide +kernel), if_pos (by decide +kernel), if_pos rfl, tapDebug, if_neg (by decide +kernel), debugAsked]
  have hasked : abortJob none debugAsked = effectEnding endingAsked := abortJob_ready none (by decide +kernel)
  have hending : endingAsked.flow.ending = some ⟨none, none, false⟩ := by decide +kernel
  rw [hdue, debugDue_debugAsked, hasked, effectEnding_abort hending, jobEnding]

theorem finishEnding_ends : finishEnding jobEnding = endJob true { jobEnding with flow := { jobEnding.flow with ending := none } } :=
  finishEnding_abort (by decide +kernel) (by decide +kernel)

/-- The state before the applies land. -/
def appliesDue : State :=
  let s := readyOutputs (closeRecess (stopStage { jobEnding with flow := { jobEnding.flow with ending := none } }))
  absStripeEnd { s with flow := { s.flow with mode := .ready } }

theorem applyAll_appliesDue : applyAll appliesDue = applyWaiting 1 (emptyApplied appliesDue) :=
  applyAll_of_empty (by decide +kernel) (by decide +kernel) (by decide +kernel)

/-- The job ends, its applies land, and with them the write: DEBUG_OPEN reads 1. -/
theorem jtagInstruction_opens : fbit (jtagInstruction .debug stalledDebugOpen) Reg.SEC_STATUS_DEBUG_OPEN = true := by
  rw [jtagInstruction_ends, finishEnding_ends, endJob_abort]
  have happlies := applyAll_appliesDue
  unfold appliesDue at happlies
  dsimp only at happlies
  rw [happlies]
  decide +kernel

/-- Refutes O44: a debug instruction that is held may leave DEBUG_OPEN reading 1, by a write that waited behind an apply. -/
theorem not_tapIsGuarded : ¬ Obligations.TapIsGuarded := by
  intro h
  obtain ⟨-, -, -, -, hdebug, -⟩ := h stalledDebugOpen .debug
  obtain ⟨-, hheld, -⟩ := hdebug (by decide)
  obtain ⟨t, hexec, -, -, hshut⟩ := hheld (by decide)
  have ht : jtagInstruction .debug stalledDebugOpen = t := Host.Outcome.next.inj hexec
  rw [← ht, jtagInstruction_opens] at hshut
  exact absurd hshut (by decide)

end Sys2Proof.Machine
end

section
/-!
PROOFS. What the commands of the DRAM controller leave, and how refresh, readings and disturbance move its counters (O52).
-/

namespace Sys2Proof.Machine

/-! ## Events that stand -/

theorem EventsKept.trans {es : List Nat} {s t u : State} (h : EventsKept es s t) (h' : EventsKept es t u) : EventsKept es s u :=
  fun n hn hes => (h' n hn hes).trans (h n hn hes)

theorem EventsKept.mono {es fs : List Nat} {s t : State} (h : EventsKept es s t) (hsub : es ⊆ fs) : EventsKept fs s t :=
  fun n hn hfs => h n hn fun hes => hfs (hsub hes)

theorem eventsKept_of_ev {es : List Nat} {s t : State} (h : t.ev = s.ev) : EventsKept es s t := fun n _ _ => by rw [h]

theorem eventsKept_raise {es : List Nat} {n : Nat} (hn : n ∈ es) (s : State) : EventsKept es s (raise n s) := fun m _ hm => by
  rw [getLsbD_raise, decide_eq_false (fun h : n = m => hm (h ▸ hn)), Bool.and_false, Bool.or_false]

theorem eventsKept_raiseIf {es : List Nat} {n : Nat} (hn : n ∈ es) (b : Bool) (s : State) : EventsKept es s (raiseIf b n s) := by
  cases b with
  | true => exact eventsKept_raise hn s
  | false => exact eventsKept_of_ev rfl

theorem eventsKept_sample (src : Nat) (vals : List Int) (s : State) : EventsKept [Ev.MON_LIMIT] s (sample src vals s) := by
  have hfold : ∀ (l : List Nat) (u : State), EventsKept [Ev.MON_LIMIT] u (l.foldl (probeSample src vals) u) := by
    intro l
    induction l with
    | nil => exact fun _ _ _ _ => rfl
    | cons p l ih =>
      intro u
      refine EventsKept.trans (t := probeSample src vals u p) ?_ (ih _)
      intro n hn hes
      rw [probeSample_ev]
      split
      · exact eventsKept_raise (List.mem_singleton_self _) u n hn hes
      · rfl
  unfold sample
  split
  · exact fun _ _ _ => rfl
  · exact hfold _ s

/-! ## Debts -/

theorem assocD_filter_self {β : Type} (d : β) (m : List (Nat × β)) (k : Nat) : assocD d (m.filter fun e => e.1 != k) k = d := by
  induction m with
  | nil => rfl
  | cons e m ih =>
    obtain ⟨j, v⟩ := e
    by_cases hj : j = k
    · simp [hj, ih]
    · simp [hj, assocD, ih, Ne.symm hj]

theorem debtOf_putDebt (pc d : Nat) (s : State) (k : Nat) : debtOf (putDebt pc d s) k = if k = pc then d else debtOf s k := by
  have hdebt : debtOf (putDebt pc d s) k = assocD 0 (if d = 0 then s.hbm.debt.filter (·.1 != pc) else assocPut s.hbm.debt pc d) k := rfl
  rw [hdebt]
  split
  case isFalse => exact assocD_assocPut 0 _ pc k d
  case isTrue h =>
    by_cases hk : k = pc
    · rw [if_pos hk, hk, h]
      exact assocD_filter_self 0 _ pc
    · rw [if_neg hk, assocD_filter_other 0 _ hk]
      rfl

/-- Beside the debts, the largest debt seen and what the probes make of them the state is as it was. -/
structure DebtsMoved (s t : State) : Prop where
  rest : t = { s with hbm := { s.hbm with debt := t.hbm.debt }, regs := t.regs, mon := t.mon, ev := t.ev }
  regs : RegsKept [Reg.HBM_REF_DEBT_MAX] s t
  events : EventsKept [Ev.MON_LIMIT] s t

theorem debtsMoved_refl (s : State) : DebtsMoved s s := ⟨rfl, fun _ _ => rfl, fun _ _ _ => rfl⟩

theorem DebtsMoved.trans {s t u : State} (h : DebtsMoved s t) (h' : DebtsMoved t u) : DebtsMoved s u := by
  refine ⟨?_, h.regs.trans h'.regs, h.events.trans h'.events⟩
  have hu := h'.rest
  generalize u.hbm.debt = debt, u.regs = regs, u.mon = mon, u.ev = ev at hu
  rw [hu, h.rest]

theorem debtsMoved_putDebt (pc d : Nat) (s : State) : DebtsMoved s (putDebt pc d s) :=
  ⟨rfl, regsKept_fput (f := Reg.HBM_REF_DEBT_MAX_INTERVALS) (List.mem_singleton_self _) _ _, fun _ _ _ => rfl⟩

theorem debtsMoved_sample (src : Nat) (vals : List Int) (s : State) : DebtsMoved s (sample src vals s) := by
  obtain ⟨mon, ev, heq⟩ := sample_eq src vals s
  refine ⟨by rw [heq], regsKept_of_eq (by rw [heq]), eventsKept_sample src vals s⟩

theorem debtOf_sample (src : Nat) (vals : List Int) (s : State) (k : Nat) : debtOf (sample src vals s) k = debtOf s k := by
  obtain ⟨mon, ev, heq⟩ := sample_eq src vals s
  rw [heq]
  rfl

theorem debtsMoved_foldl_putDebt (ds : List (Nat × Nat)) (s : State) : DebtsMoved s (ds.foldl (fun s p => putDebt p.1 p.2 s) s) := by
  induction ds generalizing s with
  | nil => exact debtsMoved_refl s
  | cons p ds ih => exact (debtsMoved_putDebt p.1 p.2 s).trans (ih _)

theorem debtsMoved_setDebts (ds : List (Nat × Nat)) (s : State) : DebtsMoved s (setDebts ds s) := by
  unfold setDebts
  dsimp only
  split
  · exact debtsMoved_refl s
  · exact (debtsMoved_foldl_putDebt _ s).trans (debtsMoved_sample _ _ _)

/-- Each pseudo-channel of a list has the debt that `g` gives it, the others theirs. -/
theorem debtOf_foldl_putDebt (g : Nat → Nat) (pcs : List Nat) (s : State) (k : Nat) :
    debtOf ((pcs.map fun pc => (pc, g pc)).foldl (fun s p => putDebt p.1 p.2 s) s) k = if k ∈ pcs then g k else debtOf s k := by
  induction pcs generalizing s with
  | nil => rfl
  | cons pc pcs ih =>
    rw [List.map_cons, List.foldl_cons, ih, debtOf_putDebt]
    by_cases hk : k = pc
    · simp [hk]
    · simp [hk]

theorem debtOf_setDebts (g : Nat → Nat) (pcs : List Nat) (s : State) (k : Nat) :
    debtOf (setDebts (pcs.map fun pc => (pc, g pc)) s) k = if k ∈ pcs then g k else debtOf s k := by
  have hfilter : (pcs.map fun pc => (pc, g pc)).filter (fun p => debtOf s p.1 != p.2) =
      (pcs.filter fun pc => debtOf s pc != g pc).map fun pc => (pc, g pc) := List.filter_map
  have hsame : (if k ∈ pcs.filter (fun pc => debtOf s pc != g pc) then g k else debtOf s k) = if k ∈ pcs then g k else debtOf s k := by
    by_cases hk : k ∈ pcs
    · by_cases hg : debtOf s k = g k
      · simp [hk, hg]
      · simp [hk, hg]
    · simp [hk]
  unfold setDebts
  dsimp only
  rw [hfilter]
  split
  case isTrue hempty =>
    rw [← hsame, List.map_eq_nil_iff.mp (List.isEmpty_iff.mp hempty), if_neg List.not_mem_nil]
  case isFalse => rw [debtOf_sample, debtOf_foldl_putDebt, hsame]

theorem debtOf_setDebt (pc d : Nat) (s : State) (k : Nat) : debtOf (setDebt pc d s) k = if k = pc then d else debtOf s k :=
  (debtOf_setDebts (fun _ => d) [pc] s k).trans (if_congr List.mem_singleton rfl rfl)

/-! ## Commands to one pseudo-channel -/

/-- The registers in which commands are counted. -/
abbrev cmdRegs : List Nat := [Reg.HBM_REF_DEBT_MAX, Reg.HBM_REF_FORCED, Reg.HBM_RD_COUNT] ++ (List.range 7).map Reg.HBM_PORT_URG3

/-- What commands to the pseudo-channels of `pcs` leave: the debts of the others; none enters power-down. -/
structure Commanded (pcs : List Nat) (s t : State) : Prop where
  rest : t = { s with hbm := t.hbm, regs := t.regs, mon := t.mon, ev := t.ev }
  regs : RegsKept cmdRegs s t
  events : EventsKept [Ev.MON_LIMIT] s t
  debts : ∀ k, k ∉ pcs → debtOf t k = debtOf s k
  down : ∀ k, t.hbm.powerDown.getLsbD k = true → s.hbm.powerDown.getLsbD k = true
  hot : t.hbm.hot = s.hbm.hot

section
variable {pcs : List Nat}

theorem commanded_refl (s : State) : Commanded pcs s s := ⟨rfl, fun _ _ => rfl, fun _ _ _ => rfl, fun _ _ => rfl, fun _ h => h, rfl⟩

theorem Commanded.trans {s t u : State} (h : Commanded pcs s t) (h' : Commanded pcs t u) : Commanded pcs s u := by
  refine ⟨?_, h.regs.trans h'.regs, h.events.trans h'.events, fun k hk => (h'.debts k hk).trans (h.debts k hk), fun k hk => h.down k (h'.down k hk),
    h'.hot.trans h.hot⟩
  have hu := h'.rest
  generalize u.hbm = hbm, u.regs = regs, u.mon = mon, u.ev = ev at hu
  rw [hu, h.rest]

theorem commanded_foldl {β : Type} {g : State → β → State} {l : List β} (h : ∀ x ∈ l, ∀ s, Commanded pcs s (g s x)) (s : State) :
    Commanded pcs s (l.foldl g s) := by
  induction l generalizing s with
  | nil => exact commanded_refl s
  | cons x l ih => exact (h x List.mem_cons_self s).trans (ih (fun y hy => h y (List.mem_cons_of_mem x hy)) _)

theorem commanded_hbm {m : Hbm} {s : State} (hdebt : m.debt = s.hbm.debt) (hdown : ∀ k, m.powerDown.getLsbD k = true → s.hbm.powerDown.getLsbD k = true)
    (hhot : m.hot = s.hbm.hot) : Commanded pcs s { s with hbm := m } :=
  ⟨rfl, fun _ _ => rfl, fun _ _ _ => rfl, fun k _ => congrArg (assocD 0 · k) hdebt, hdown, hhot⟩

theorem commanded_issueCmd (pc : Nat) (c : DramCmd) (s : State) : Commanded pcs s (issueCmd pc c s) := commanded_hbm rfl (fun _ h => h) rfl

theorem commanded_precharge (pc bank : Nat) (s : State) : Commanded pcs s (precharge pc bank s) := commanded_hbm rfl (fun _ h => h) rfl

theorem commanded_prechargeAll (pc : Nat) (s : State) : Commanded pcs s (prechargeAll pc s) := commanded_hbm rfl (fun _ h => h) rfl

theorem commanded_activateRow (pc bank row : Nat) (s : State) : Commanded pcs s (activateRow pc bank row s) := commanded_hbm rfl (fun _ h => h) rfl

theorem getLsbD_leavePowerDown (pc : Nat) (s : State) (k : Nat) :
    (leavePowerDown pc s).hbm.powerDown.getLsbD k = (s.hbm.powerDown.getLsbD k && !decide (pc = k)) := by
  have hone : ((1 : BitVec 64) <<< pc).getLsbD k = (decide (pc < 64) && decide (pc = k)) := BitVec.getLsbD_twoPow pc k
  have hand : (leavePowerDown pc s).hbm.powerDown.getLsbD k = (s.hbm.powerDown.getLsbD k && (~~~((1 : BitVec 64) <<< pc)).getLsbD k) :=
    BitVec.getLsbD_and
  rw [hand, BitVec.getLsbD_not, hone]
  by_cases hk : k < 64
  · by_cases hpc : pc = k
    · simp [hpc, hk]
    · simp [hpc, hk]
  · rw [BitVec.getLsbD_of_ge _ _ (by omega)]
    rfl

theorem commanded_leavePowerDown (pc : Nat) (s : State) : Commanded pcs s (leavePowerDown pc s) :=
  commanded_hbm rfl (fun k h => by
    have hleft := (getLsbD_leavePowerDown pc s k).symm.trans h
    exact (Bool.and_eq_true _ _ ▸ hleft).1) rfl

theorem commanded_fcount {f : Field} (hf : f.reg ∈ cmdRegs) (n : Nat) (s : State) : Commanded pcs s (fcount f n s) :=
  ⟨rfl, regsKept_fput hf _ s, fun _ _ _ => rfl, fun _ _ => rfl, fun _ h => h, rfl⟩

theorem commanded_setDebts {g : Nat → Nat} {l : List Nat} (hsub : l ⊆ pcs) (s : State) : Commanded pcs s (setDebts (l.map fun pc => (pc, g pc)) s) := by
  obtain ⟨hrest, hregs, hevents⟩ := debtsMoved_setDebts (l.map fun pc => (pc, g pc)) s
  refine ⟨?_, hregs.mono (by simp), hevents, fun k hk => ?_, fun k h => ?_, by rw [hrest]⟩
  · generalize setDebts _ s = u at hrest ⊢
    generalize hhbm : u.hbm = hbm
    rw [hhbm] at hrest
    generalize u.regs = regs, u.mon = mon, u.ev = ev at hrest
    rw [hrest] at hhbm
    rw [hrest, ← hhbm]
  · rw [debtOf_setDebts, if_neg fun hl => hk (hsub hl)]
  · rw [hrest] at h
    exact h

/-- The count of a row returns to 0. -/
def zeroRow (pc bank row : Nat) (s : State) : State :=
  let zeroed := (rowCounts s pc bank).map fun e => if e.row = row then { e with count := 0 } else e
  { s with hbm := { s.hbm with rows := assocPut s.hbm.rows (bankKey pc bank) zeroed } }

/-- The neighbours of a row are activated and precharged. -/
def neighboursDone (pc bank row : Nat) (s : State) : State :=
  (neighbours row).foldl (fun s r => precharge pc bank (activateRow pc bank r s)) (precharge pc bank (leavePowerDown pc s))

theorem refreshNeighbours_eq (pc bank row : Nat) (s : State) : refreshNeighbours pc bank row s =
    fcount Reg.HBM_RD_COUNT_COUNT 1 (zeroRow pc bank row (issueCmd pc (.rfm pc bank) (neighboursDone pc bank row s))) := rfl

theorem commanded_neighboursDone (pc bank row : Nat) (s : State) : Commanded pcs s (neighboursDone pc bank row s) := by
  have hfirst := (commanded_leavePowerDown (pcs := pcs) pc s).trans (commanded_precharge pc bank _)
  exact hfirst.trans (commanded_foldl (fun r _ u => (commanded_activateRow pc bank r u).trans (commanded_precharge pc bank _)) _)

theorem commanded_zeroRow (pc bank row : Nat) (s : State) : Commanded pcs s (zeroRow pc bank row s) := commanded_hbm rfl (fun _ h => h) rfl

theorem commanded_refreshNeighbours (pc bank row : Nat) (s : State) : Commanded pcs s (refreshNeighbours pc bank row s) := by
  rw [refreshNeighbours_eq]
  refine Commanded.trans ?_ (commanded_fcount (by decide) 1 _)
  exact ((commanded_neighboursDone pc bank row s).trans (commanded_issueCmd pc _ _)).trans (commanded_zeroRow pc bank row _)

theorem commanded_refreshAllBanks {pc : Nat} (hpc : pc ∈ pcs) (s : State) : Commanded pcs s (refreshAllBanks pc s) :=
  ((commanded_prechargeAll pc s).trans (commanded_issueCmd pc (.refreshAll pc) _)).trans
    (commanded_setDebts (g := fun _ => debtOf s pc - 1) (l := [pc]) (by simpa using hpc) _)

theorem commanded_forceRefresh {pc : Nat} (hpc : pc ∈ pcs) (s : State) : Commanded pcs s (forceRefresh pc s) :=
  (commanded_fcount (f := Reg.HBM_REF_FORCED_COUNT) (by decide) 1 s).trans (commanded_refreshAllBanks hpc _)

theorem commanded_refreshPerBank (pc : Nat) (s : State) : Commanded pcs s (refreshPerBank pc s) := by
  refine commanded_foldl (fun b _ u => ?_) s
  refine Commanded.trans ?_ (commanded_issueCmd pc (.refreshBank pc b) _)
  split
  · exact commanded_precharge pc b u
  · exact commanded_refl u

theorem commanded_countLevel3 (w : DramWait) (s : State) : Commanded pcs s (countLevel3 w s) := by
  unfold countLevel3
  split
  case isTrue h =>
    refine commanded_fcount (List.mem_append_right _ ?_) 1 s
    exact List.mem_map_of_mem (List.mem_range.mpr h.1)
  case isFalse => exact commanded_refl s

theorem commanded_addDebt {pc : Nat} (hpc : pc ∈ pcs) (s : State) : Commanded pcs s (addDebt pc s) := by
  unfold addDebt
  dsimp only
  split
  · exact (commanded_forceRefresh hpc s).trans (commanded_setDebts (g := fun _ => _) (l := [pc]) (by simpa using hpc) _)
  · exact commanded_setDebts (g := fun _ => _) (l := [pc]) (by simpa using hpc) _

theorem commanded_runCommands {pc : Nat} (hpc : pc ∈ pcs) (hold : Bool) (n : Nat) (ws : List DramWait) (s : State) :
    Commanded pcs s (runCommands pc hold n ws s) := by
  induction n generalizing ws s with
  | zero => exact commanded_refl s
  | succ n ih =>
    unfold runCommands
    split
    · exact (commanded_forceRefresh hpc s).trans (ih _ _)
    · exact (commanded_refreshNeighbours pc _ _ s).trans (ih _ _)
    · exact (commanded_countLevel3 _ s).trans (ih _ _)
    · split
      · exact commanded_refl s
      · exact (commanded_refreshAllBanks hpc s).trans (ih _ _)
    · exact commanded_refl s

end


/-! ## The debt is paid -/

/-- The forced refreshes counted. -/
def forced (s : State) : Nat := fget s Reg.HBM_REF_FORCED_COUNT

/-- The limit of a pseudo-channel's debt. -/
def limitOf (s : State) (pc : Nat) : Nat := debtLimit (bandOf s (pc / 32))

/-- Registers and row counters on which the next command depends stand. -/
structure SameRules (s t : State) : Prop where
  rows : t.hbm.rows = s.hbm.rows
  regs : RegsKept cmdRegs s t

theorem SameRules.trans {s t u : State} (h : SameRules s t) (h' : SameRules t u) : SameRules s u := ⟨h'.rows.trans h.rows, h.regs.trans h'.regs⟩

theorem bandOf_congr {ks : List Nat} {s t : State} (h : RegsKept ks s t) (hks : Reg.HBM_STATUS ∉ ks) (stack : Nat) : bandOf t stack = bandOf s stack := by
  unfold bandOf
  split <;> exact fget_congr (h _ hks)

theorem SameRules.limitOf {s t : State} (h : SameRules s t) (pc : Nat) : limitOf t pc = Machine.limitOf s pc :=
  congrArg debtLimit (bandOf_congr h.regs (by decide) _)

theorem SameRules.neighbourDue {s t : State} (h : SameRules s t) (pc : Nat) : neighbourDue t pc = Machine.neighbourDue s pc := by
  have hthr : fget t Reg.HBM_RD_CFG_THRESHOLD = fget s Reg.HBM_RD_CFG_THRESHOLD := fget_congr (h.regs _ (by decide))
  have hdue : ∀ bank row, rowDue t pc bank row = rowDue s pc bank row := fun bank row => by
    unfold rowDue rowCounts actThreshold
    rw [h.rows, hthr]
  simp only [Machine.neighbourDue, h.rows, hdue]

theorem sameRules_setDebt (pc d : Nat) (s : State) : SameRules s (setDebt pc d s) :=
  ⟨by rw [setDebt, (debtsMoved_setDebts _ s).rest], (debtsMoved_setDebts _ s).regs.mono (by simp)⟩

theorem sameRules_refreshAllBanks (pc : Nat) (s : State) : SameRules s (refreshAllBanks pc s) :=
  SameRules.trans (t := issueCmd pc (.refreshAll pc) (prechargeAll pc s)) ⟨rfl, fun _ _ => rfl⟩ (sameRules_setDebt _ _ _)

theorem sameRules_fcount {f : Field} (hf : f.reg ∈ cmdRegs) (n : Nat) (s : State) : SameRules s (fcount f n s) := ⟨rfl, regsKept_fput hf _ s⟩

theorem sameRules_forceRefresh (pc : Nat) (s : State) : SameRules s (forceRefresh pc s) :=
  (sameRules_fcount (f := Reg.HBM_REF_FORCED_COUNT) (by decide) 1 s).trans (sameRules_refreshAllBanks pc _)

theorem countLevel3_hbm (w : DramWait) (s : State) : (countLevel3 w s).hbm = s.hbm := by
  unfold countLevel3
  split <;> rfl

theorem forced_countLevel3 (w : DramWait) (s : State) : forced (countLevel3 w s) = forced s := by
  unfold countLevel3
  split
  case isTrue h =>
    refine fget_fput_other _ _ _ _ ?_
    have hport := h.1
    simp only [Reg.HBM_REF_FORCED, Reg.HBM_PORT_URG3]
    omega
  case isFalse => rfl

theorem sameRules_countLevel3 (w : DramWait) (s : State) : SameRules s (countLevel3 w s) :=
  ⟨by rw [countLevel3_hbm], (commanded_countLevel3 (pcs := []) w s).regs⟩

theorem forced_setDebt (pc d : Nat) (s : State) : forced (setDebt pc d s) = forced s :=
  fget_congr ((debtsMoved_setDebts _ s).regs _ (by decide))

theorem debtOf_refreshAllBanks (pc : Nat) (s : State) : debtOf (refreshAllBanks pc s) pc = debtOf s pc - 1 :=
  (debtOf_setDebt _ _ _ _).trans (if_pos rfl)

theorem forced_refreshAllBanks (pc : Nat) (s : State) : forced (refreshAllBanks pc s) = forced s := forced_setDebt _ _ _

theorem debtOf_forceRefresh (pc : Nat) (s : State) : debtOf (forceRefresh pc s) pc = debtOf s pc - 1 := debtOf_refreshAllBanks pc _

theorem forced_forceRefresh (pc : Nat) (s : State) : forced (forceRefresh pc s) = min (2 ^ 32 - 1) (forced s + 1) :=
  (forced_refreshAllBanks pc _).trans (fget_fcount rfl 1 s)

theorem forced_le (s : State) : forced s ≤ 2 ^ 32 - 1 := Nat.le_sub_one_of_lt (Nat.mod_lt _ (by positivity))

theorem mem_firstRequest {s : State} {ws : List DramWait} {w : DramWait} (h : firstRequest s ws = some w) : w ∈ ws := by
  have hfold : ∀ (l : List DramWait) (m : Option DramWait), l.foldl (fun m w => match m with
      | some v => if goesBefore s w v then some w else some v
      | none => some w) m = some w → w ∈ l ∨ m = some w := by
    intro l
    induction l with
    | nil => exact fun m hm => .inr hm
    | cons x l ih =>
      intro m hm
      rcases ih _ hm with hl | hx
      · exact .inl (List.mem_cons_of_mem x hl)
      · cases m with
        | none => exact .inl (by simp_all)
        | some v =>
          dsimp only at hx
          split at hx
          · exact .inl (by simp_all)
          · exact .inr hx
  exact (hfold ws none h).resolve_right (by simp)

/-- With no neighbour refresh due, commands pay the debt above the limit by force, and the rest unless it is held. -/
theorem runCommands_pays (pc : Nat) (hold : Bool) {n : Nat} {ws : List DramWait} {s : State} (hdue : neighbourDue s pc = none)
    (hfuel : ws.length + debtOf s pc < n) :
    debtOf (runCommands pc hold n ws s) pc = (if hold then min (limitOf s pc) (debtOf s pc) else 0) ∧
      forced (runCommands pc hold n ws s) = min (2 ^ 32 - 1) (forced s + (debtOf s pc - limitOf s pc)) := by
  induction n generalizing ws s with
  | zero => omega
  | succ n ih =>
    have hforced := forced_le s
    unfold runCommands nextCommand
    rw [hdue]
    by_cases hover : debtLimit (bandOf s (pc / 32)) < debtOf s pc
    · have hover' : limitOf s pc < debtOf s pc := hover
      rw [if_pos hover]
      have hrules := sameRules_forceRefresh pc s
      have hdebt := debtOf_forceRefresh pc s
      have hcount := forced_forceRefresh pc s
      obtain ⟨hd, hf⟩ := ih (s := forceRefresh pc s) (ws := ws) (hrules.neighbourDue pc ▸ hdue) (by omega)
      dsimp only
      rw [hd, hf, hrules.limitOf, hdebt, hcount]
      refine ⟨?_, by omega⟩
      split
      · omega
      · rfl
    · have hwithin : debtOf s pc ≤ limitOf s pc := Nat.not_lt.mp hover
      rw [if_neg hover]
      cases hw : firstRequest s ws with
      | some w =>
        have hmem := mem_firstRequest hw
        have hlen := List.length_erase_of_mem hmem
        have hpos := List.length_pos_of_mem hmem
        have hrules := sameRules_countLevel3 w s
        have hdebt : debtOf (countLevel3 w s) pc = debtOf s pc := by simp only [debtOf, countLevel3_hbm]
        obtain ⟨hd, hf⟩ := ih (s := countLevel3 w s) (ws := ws.erase w) (hrules.neighbourDue pc ▸ hdue) (by omega)
        dsimp only
        rw [hd, hf, hrules.limitOf, hdebt, forced_countLevel3]
        exact ⟨rfl, rfl⟩
      | none =>
        dsimp only
        by_cases hzero : debtOf s pc = 0
        · rw [if_pos hzero]
          dsimp only
          rw [hzero]
          refine ⟨by simp, by omega⟩
        · rw [if_neg hzero]
          dsimp only
          cases hold with
          | true => exact ⟨by simp [hwithin], by simp only [if_true]; omega⟩
          | false =>
            have hrules := sameRules_refreshAllBanks pc s
            have hdebt := debtOf_refreshAllBanks pc s
            obtain ⟨hd, hf⟩ := ih (s := refreshAllBanks pc s) (ws := ws) (hrules.neighbourDue pc ▸ hdue) (by omega)
            simp only [Bool.false_eq_true, if_false] at hd ⊢
            rw [hd, hf, hrules.limitOf, hdebt, forced_refreshAllBanks]
            exact ⟨rfl, by omega⟩

/-! ## A refresh interval -/

theorem bandOf_lt (s : State) (stack : Nat) : bandOf s stack < 4 := by
  unfold bandOf
  split <;> exact Nat.mod_lt _ (by decide)

theorem limitOf_pos (s : State) (pc : Nat) : 0 < limitOf s pc := by
  have hband := bandOf_lt s (pc / 32)
  exact Nat.div_pos (Nat.pow_le_pow_right (by decide : 0 < 2) (Nat.lt_succ_iff.mp hband)) (by positivity)

theorem postponed_congr {s t : State} (h : SameRules s t) (ws : List DramWait) : postponed t ws = postponed s ws := by
  have hcfg : fbit t Reg.HBM_REF_CFG_POSTPONE_EN = fbit s Reg.HBM_REF_CFG_POSTPONE_EN := by rw [fbit, fget_congr (h.regs _ (by decide)), fbit]
  have htgt : actTarget t 0 = actTarget s 0 := by rw [actTarget, fget_congr (h.regs _ (by decide)), actTarget]
  unfold postponed portUrgency
  rw [hcfg, htgt]

theorem refreshPerBank_eq (pc : Nat) (s : State) :
    ∃ retry openRows, refreshPerBank pc s = { s with hbm := { s.hbm with retry, openRows } } := by
  have hfold : ∀ (l : List Nat) (u : State), ∃ retry openRows, l.foldl (fun s b => issueCmd pc (.refreshBank pc b)
      (if (s.hbm.openRows.lookup (bankKey pc b)).isSome then precharge pc b s else s)) u = { u with hbm := { u.hbm with retry, openRows } } := by
    intro l
    induction l with
    | nil => exact fun u => ⟨u.hbm.retry, u.hbm.openRows, rfl⟩
    | cons b l ih =>
      intro u
      obtain ⟨retry, openRows, heq⟩ := ih (issueCmd pc (.refreshBank pc b)
        (if (u.hbm.openRows.lookup (bankKey pc b)).isSome then precharge pc b u else u))
      refine ⟨retry, openRows, ?_⟩
      rw [List.foldl_cons, heq]
      split <;> rfl
  exact hfold (List.range 32) s

/-- The unit of an interval is done bank by bank, or added to the debt. -/
def unitAdded (pc : Nat) (unitDone : Bool) (s : State) : State :=
  if fbit s Reg.HBM_REF_CFG_PB_EN && unitDone then refreshPerBank pc (leavePowerDown pc s) else addDebt pc (leavePowerDown pc s)

/-- The unit of an interval is not done bank by bank. -/
def unpaid (s : State) (unitDone : Bool) : Bool := !(fbit s Reg.HBM_REF_CFG_PB_EN && unitDone)

/-- The debt with the unit that is not done. -/
def debtAdded (s : State) (pc : Nat) (unitDone : Bool) : Nat :=
  debtOf s pc + (if unpaid s unitDone && decide (debtOf s pc < limitOf s pc) then 1 else 0)

theorem sameRules_addDebt (pc : Nat) (s : State) : SameRules s (addDebt pc s) := by
  unfold addDebt
  dsimp only
  split
  · exact (sameRules_forceRefresh pc s).trans (sameRules_setDebt _ _ _)
  · exact sameRules_setDebt _ _ _

theorem debtOf_addDebt (pc : Nat) (s : State) : debtOf (addDebt pc s) pc = debtOf s pc + (if debtOf s pc < limitOf s pc then 1 else 0) := by
  have hpos := limitOf_pos s pc
  unfold addDebt
  dsimp only
  rw [debtOf_setDebt, if_pos rfl]
  by_cases hlim : debtLimit (bandOf s (pc / 32)) ≤ debtOf s pc
  · have hlim' : limitOf s pc ≤ debtOf s pc := hlim
    rw [if_pos hlim, debtOf_forceRefresh, if_neg (by omega)]
    omega
  · rw [if_neg hlim, if_pos (c := debtOf s pc < limitOf s pc) (Nat.not_le.mp hlim)]

theorem forced_addDebt (pc : Nat) (s : State) :
    forced (addDebt pc s) = min (2 ^ 32 - 1) (forced s + (if limitOf s pc ≤ debtOf s pc then 1 else 0)) := by
  have hforced := forced_le s
  unfold addDebt
  dsimp only
  rw [forced_setDebt]
  by_cases hlim : debtLimit (bandOf s (pc / 32)) ≤ debtOf s pc
  · rw [if_pos hlim, forced_forceRefresh, if_pos (c := limitOf s pc ≤ debtOf s pc) hlim]
  · rw [if_neg hlim, if_neg (c := limitOf s pc ≤ debtOf s pc) hlim, Nat.add_zero, Nat.min_eq_right hforced]

section
variable (pc : Nat) (unitDone : Bool) (s : State)

theorem commanded_unitAdded : Commanded [pc] s (unitAdded pc unitDone s) := by
  refine (commanded_leavePowerDown pc s).trans ?_
  unfold unitAdded
  split
  · exact commanded_refreshPerBank pc _
  · exact commanded_addDebt (List.mem_singleton_self pc) _

theorem sameRules_unitAdded : SameRules s (unitAdded pc unitDone s) := by
  refine SameRules.trans (t := leavePowerDown pc s) ⟨rfl, fun _ _ => rfl⟩ ?_
  unfold unitAdded
  split
  · obtain ⟨retry, openRows, heq⟩ := refreshPerBank_eq pc (leavePowerDown pc s)
    rw [heq]
    exact ⟨rfl, fun _ _ => rfl⟩
  · exact sameRules_addDebt pc _

theorem debtOf_unitAdded : debtOf (unitAdded pc unitDone s) pc = debtAdded s pc unitDone := by
  unfold unitAdded debtAdded unpaid
  cases hdone : fbit s Reg.HBM_REF_CFG_PB_EN && unitDone with
  | true =>
    obtain ⟨retry, openRows, heq⟩ := refreshPerBank_eq pc (leavePowerDown pc s)
    simp only [if_true, Bool.not_true, Bool.false_and, Bool.false_eq_true, if_false]
    rw [heq]
    rfl
  | false =>
    simp only [Bool.false_eq_true, if_false, Bool.not_false, Bool.true_and, decide_eq_true_eq]
    exact debtOf_addDebt pc _

theorem forced_unitAdded : forced (unitAdded pc unitDone s) =
    min (2 ^ 32 - 1) (forced s + (if unpaid s unitDone && decide (limitOf s pc ≤ debtOf s pc) then 1 else 0)) := by
  have hforced := forced_le s
  unfold unitAdded unpaid
  cases hdone : fbit s Reg.HBM_REF_CFG_PB_EN && unitDone with
  | true =>
    obtain ⟨retry, openRows, heq⟩ := refreshPerBank_eq pc (leavePowerDown pc s)
    simp only [if_true, Bool.not_true, Bool.false_and, Bool.false_eq_true, if_false]
    rw [heq, Nat.add_zero, Nat.min_eq_right hforced]
    rfl
  | false =>
    simp only [Bool.false_eq_true, if_false, Bool.not_false, Bool.true_and, decide_eq_true_eq]
    exact forced_addDebt pc _

end

theorem refreshInterval_of_replay {pc : Nat} {s : State} (hon : hbmOn s = true) (hfenced : pcFenced s pc = false) (hreplay : pcReplays s pc = true)
    (unitDone : Bool) (ws : List DramWait) : refreshInterval pc unitDone ws s = setDebt pc (debtOf s pc + 1) s := by
  simp [refreshInterval, hon, hfenced, hreplay]

theorem refreshInterval_of_none {pc : Nat} {s : State} (hon : hbmOn s = true) (hfenced : pcFenced s pc = false) (hreplay : pcReplays s pc = false)
    (unitDone : Bool) (ws : List DramWait) : refreshInterval pc unitDone ws s = runCommands pc (postponed s ws)
      (ws.length + debtOf (unitAdded pc unitDone s) pc + 600) ws (unitAdded pc unitDone s) := by
  rw [← postponed_congr (sameRules_unitAdded pc unitDone s)]
  simp only [refreshInterval, hon, hfenced, hreplay, Bool.not_true, Bool.or_false, Bool.false_eq_true, if_false]
  rfl

theorem refreshInterval_of_off {pc : Nat} {s : State} (h : hbmOn s = false ∨ pcFenced s pc = true) (unitDone : Bool) (ws : List DramWait) :
    refreshInterval pc unitDone ws s = s := if_pos (by simpa using h)

theorem down_unitAdded (pc : Nat) (unitDone : Bool) (s : State) : (unitAdded pc unitDone s).hbm.powerDown.getLsbD pc = false := by
  have hcmd : Commanded [pc] (leavePowerDown pc s) (unitAdded pc unitDone s) := by
    unfold unitAdded
    split
    · exact commanded_refreshPerBank pc _
    · exact commanded_addDebt (List.mem_singleton_self pc) _
  by_contra hset
  have hleft := hcmd.down pc (Bool.not_eq_false _ ▸ hset)
  rw [getLsbD_leavePowerDown] at hleft
  simp at hleft

section
variable {pc : Nat} {s : State} (hon : hbmOn s = true) (hfenced : pcFenced s pc = false) (hreplay : pcReplays s pc = false)
  (unitDone : Bool) (ws : List DramWait)
include hon hfenced hreplay

theorem commanded_refreshInterval : Commanded [pc] (unitAdded pc unitDone s) (refreshInterval pc unitDone ws s) := by
  rw [refreshInterval_of_none hon hfenced hreplay]
  exact commanded_runCommands (List.mem_singleton_self pc) _ _ _ _

theorem refreshInterval_pays (hdue : neighbourDue s pc = none) :
    debtOf (refreshInterval pc unitDone ws s) pc = (if postponed s ws then min (limitOf s pc) (debtAdded s pc unitDone) else 0) ∧
      forced (refreshInterval pc unitDone ws s) = min (2 ^ 32 - 1) (forced s +
        ((if unpaid s unitDone && decide (limitOf s pc ≤ debtOf s pc) then 1 else 0) + (debtAdded s pc unitDone - limitOf s pc))) := by
  have hrules := sameRules_unitAdded pc unitDone s
  rw [refreshInterval_of_none hon hfenced hreplay]
  obtain ⟨hdebt, hforced⟩ := runCommands_pays pc (postponed s ws) (n := ws.length + debtOf (unitAdded pc unitDone s) pc + 600) (ws := ws)
    (s := unitAdded pc unitDone s) ((hrules.neighbourDue pc).trans hdue) (by omega)
  rw [hdebt, hforced, hrules.limitOf, debtOf_unitAdded, forced_unitAdded]
  exact ⟨rfl, by omega⟩

end

theorem Commanded.stands {pcs : List Nat} {s t : State} (h : Commanded pcs s t) : t.flow = s.flow ∧ t.job = s.job ∧ DramKept s t := by
  have hrest := h.rest
  generalize t.hbm = hbm, t.regs = regs, t.mon = mon, t.ev = ev at hrest
  rw [hrest]
  exact ⟨rfl, rfl, fun _ => rfl⟩

theorem DebtsMoved.stands {s t : State} (h : DebtsMoved s t) :
    t.hbm = { s.hbm with debt := t.hbm.debt } ∧ t.flow = s.flow ∧ t.job = s.job ∧ DramKept s t := by
  have hrest := h.rest
  generalize hdebt : t.hbm.debt = debt at hrest ⊢
  generalize t.regs = regs, t.mon = mon, t.ev = ev at hrest
  rw [hrest]
  exact ⟨rfl, rfl, rfl, fun _ => rfl⟩

/-! ## Bands and debts under a reading -/

theorem le_foldl_max (l : List Nat) {x : Nat} (h : x ∈ l) : x ≤ l.foldl max 0 :=
  (List.max?_eq_some_iff.mp List.max?_cons').2 x (List.mem_cons_of_mem 0 h)

/-- A forced REFab goes to each of the pseudo-channels. -/
def dueForced (due : List Nat) (s : State) : State :=
  due.foldl (fun s pc => issueCmd pc (.refreshAll pc) (fcount Reg.HBM_REF_FORCED_COUNT 1 s)) s

theorem forceTogether_succ (limit : Nat) (pcs : List Nat) (n : Nat) (s : State) : forceTogether limit pcs (n + 1) s =
    (let due := pcs.filter fun pc => decide (limit < debtOf s pc)
     if due.isEmpty then s else forceTogether limit pcs n (setDebts (due.map fun pc => (pc, debtOf (dueForced due s) pc - 1)) (dueForced due s))) := rfl

section
variable {limit : Nat} {pcs : List Nat}

theorem commanded_dueForced (due : List Nat) (s : State) : Commanded pcs s (dueForced due s) :=
  commanded_foldl (fun pc _ u => (commanded_fcount (f := Reg.HBM_REF_FORCED_COUNT) (by decide) 1 u).trans (commanded_issueCmd pc _ _)) s

theorem debtOf_dueForced (due : List Nat) (s : State) (k : Nat) : debtOf (dueForced due s) k = debtOf s k :=
  (commanded_dueForced (pcs := []) due s).debts k List.not_mem_nil

theorem commanded_forceTogether (n : Nat) (s : State) : Commanded pcs s (forceTogether limit pcs n s) := by
  induction n generalizing s with
  | zero => exact commanded_refl s
  | succ n ih =>
    rw [forceTogether_succ]
    dsimp only
    split
    · exact commanded_refl s
    · exact ((commanded_dueForced _ s).trans (commanded_setDebts (g := fun pc => debtOf _ pc - 1) (List.filter_subset_self _) _)).trans (ih _)

theorem debtOf_forceTogether {n : Nat} {s : State} (hfuel : ∀ k ∈ pcs, debtOf s k ≤ n + limit) (k : Nat) :
    debtOf (forceTogether limit pcs n s) k = if k ∈ pcs then min limit (debtOf s k) else debtOf s k := by
  induction n generalizing s with
  | zero =>
    unfold forceTogether
    split
    case isTrue hk =>
      have hle := hfuel k hk
      omega
    case isFalse => rfl
  | succ n ih =>
    rw [forceTogether_succ]
    dsimp only
    split
    case isTrue hempty =>
      split
      case isTrue hk =>
        have hnot := List.filter_eq_nil_iff.mp (List.isEmpty_iff.mp hempty) k hk
        simp only [decide_eq_true_eq] at hnot
        omega
      case isFalse => rfl
    case isFalse =>
      have hpaid := fun j => debtOf_setDebts (fun pc => debtOf (dueForced (pcs.filter fun pc => decide (limit < debtOf s pc)) s) pc - 1)
        (pcs.filter fun pc => decide (limit < debtOf s pc)) (dueForced (pcs.filter fun pc => decide (limit < debtOf s pc)) s) j
      simp only [debtOf_dueForced, List.mem_filter, decide_eq_true_eq] at hpaid
      rw [ih]
      · simp only [debtOf_dueForced, hpaid]
        by_cases hk : k ∈ pcs
        · by_cases hover : limit < debtOf s k
          · simp only [hk, hover, and_self, if_true]
            omega
          · simp [hk, hover]
        · simp [hk]
      · intro j hj
        have hle := hfuel j hj
        simp only [debtOf_dueForced, hpaid, hj, true_and]
        split <;> omega

end

/-- The debts of pseudo-channels are converted. -/
def rescaled (old new : Nat) (pcs : List Nat) (s : State) : State :=
  setDebts ((pcs.filter fun pc => !pcFenced s pc).map fun pc => (pc, debtOf s pc * 2 ^ (new - old))) s

/-- The pseudo-channels whose excess is forced. -/
def overLimit (old new : Nat) (pcs : List Nat) (s : State) : List Nat :=
  (pcs.filter fun pc => !pcFenced s pc).filter fun pc =>
    decide (debtLimit new < debtOf (rescaled old new pcs s) pc) && !pcReplays (rescaled old new pcs s) pc

theorem convertDebts_eq (old new : Nat) (pcs : List Nat) (s : State) : convertDebts old new pcs s =
    forceTogether (debtLimit new) (overLimit old new pcs s) (((overLimit old new pcs s).map (debtOf (rescaled old new pcs s))).foldl max 0)
      ((overLimit old new pcs s).foldl (fun s pc => prechargeAll pc s) (rescaled old new pcs s)) := rfl

theorem Commanded.mono {pcs qcs : List Nat} {s t : State} (h : Commanded pcs s t) (hsub : pcs ⊆ qcs) : Commanded qcs s t :=
  ⟨h.rest, h.regs, h.events, fun k hk => h.debts k fun hpcs => hk (hsub hpcs), h.down, h.hot⟩

theorem commanded_convertDebts (old new : Nat) (pcs : List Nat) (s : State) : Commanded pcs s (convertDebts old new pcs s) := by
  rw [convertDebts_eq]
  have hover : overLimit old new pcs s ⊆ pcs := fun _ hk => List.filter_subset_self _ (List.filter_subset_self _ hk)
  have hscaled : Commanded pcs s (rescaled old new pcs s) := commanded_setDebts (g := fun pc => debtOf s pc * 2 ^ (new - old)) (List.filter_subset_self _) s
  exact (hscaled.trans (commanded_foldl (fun pc _ u => commanded_prechargeAll pc u) _)).trans ((commanded_forceTogether _ _).mono hover)

/-- The debt after the band has risen. -/
def converted (s : State) (old new pc : Nat) : Nat :=
  if pcFenced s pc then debtOf s pc
  else if pcReplays s pc then debtOf s pc * 2 ^ (new - old)
  else min (debtLimit new) (debtOf s pc * 2 ^ (new - old))

theorem pcReplays_rescaled (old new : Nat) (pcs : List Nat) (s : State) (pc : Nat) : pcReplays (rescaled old new pcs s) pc = pcReplays s pc := by
  unfold rescaled pcReplays
  rw [(debtsMoved_setDebts _ s).rest]

theorem debtOf_rescaled (old new : Nat) {pcs : List Nat} (s : State) {pc : Nat} (hpc : pc ∈ pcs) :
    debtOf (rescaled old new pcs s) pc = if pcFenced s pc then debtOf s pc else debtOf s pc * 2 ^ (new - old) := by
  rw [rescaled, debtOf_setDebts (fun pc => debtOf s pc * 2 ^ (new - old))]
  cases hfenced : pcFenced s pc <;> simp [hfenced, hpc]

theorem debtOf_convertDebts (old new : Nat) {pcs : List Nat} (s : State) {pc : Nat} (hpc : pc ∈ pcs) :
    debtOf (convertDebts old new pcs s) pc = converted s old new pc := by
  have hsame : ∀ k, debtOf ((overLimit old new pcs s).foldl (fun s pc => prechargeAll pc s) (rescaled old new pcs s)) k =
      debtOf (rescaled old new pcs s) k := fun k =>
    (commanded_foldl (pcs := []) (fun pc _ u => commanded_prechargeAll pc u) _).debts k List.not_mem_nil
  have hscaled := debtOf_rescaled old new s hpc
  have hmem : pc ∈ overLimit old new pcs s ↔ pcFenced s pc = false ∧ debtLimit new < debtOf (rescaled old new pcs s) pc ∧ pcReplays s pc = false := by
    simp [overLimit, hpc, pcReplays_rescaled, and_comm]
  rw [convertDebts_eq, debtOf_forceTogether]
  · rw [hsame]
    unfold converted
    by_cases hfenced : pcFenced s pc = true
    · rw [if_neg (by rw [hmem]; simp [hfenced]), hscaled, if_pos hfenced, if_pos hfenced]
    rw [Bool.not_eq_true] at hfenced
    rw [hfenced, if_neg (by simp)] at hscaled
    rw [hscaled] at hmem ⊢
    rw [hfenced, if_neg (c := false = true) (by simp)]
    by_cases hreplays : pcReplays s pc = true
    · rw [if_pos hreplays, if_neg (by rw [hmem]; simp [hreplays])]
    rw [if_neg hreplays]
    rw [Bool.not_eq_true] at hreplays
    split
    case isTrue => rfl
    case isFalse hnot =>
      have hle : ¬ debtLimit new < debtOf s pc * 2 ^ (new - old) := fun hlt => hnot (hmem.mpr ⟨hfenced, hlt, hreplays⟩)
      omega
  · intro k hk
    rw [hsame]
    exact (le_foldl_max _ (List.mem_map_of_mem hk)).trans (Nat.le_add_right _ _)

/-! ## Heat -/

theorem eventsKept_cancelResume (s : State) : EventsKept [Ev.HOLD] s (cancelResume s) := by
  unfold cancelResume
  split
  · intro n hn hes
    simp only [completeOpt_frame]
    split
    · split
      · simp only [sendHoldSet_frame]
        exact eventsKept_raise (List.mem_singleton_self Ev.HOLD) _ n hn hes
      · exact eventsKept_raise (List.mem_singleton_self Ev.HOLD) _ n hn hes
    · rfl
  · exact eventsKept_of_ev rfl

theorem eventsKept_requestHold (n : Nat) (s : State) : EventsKept [Ev.HOLD] s (requestHold n s) := by
  have h : EventsKept [Ev.HOLD] s (cancelResume (setCause n s)) := EventsKept.trans (t := setCause n s) (eventsKept_of_ev rfl) (eventsKept_cancelResume _)
  unfold requestHold
  dsimp only
  split
  · exact h
  · split
    · exact h
    · exact h

/-- The readings that reach HOT, one bit each. -/
def hotNow (s : State) : BitVec 4 :=
  BitVec.ofNat 4 ((dramTemps s).zipIdx.map fun (t, k) => if fget s Reg.HBM_TEMP_CFG_HOT ≤ t then 2 ^ k else 0).sum

/-- HOT is shown, and the event of a reading that has come to it raised. -/
def heatShown (s : State) : State :=
  raiseIf (hotNow s &&& ~~~s.hbm.hot != 0) Ev.HBM_HOT
    (fput Reg.HBM_STATUS_HOT (if hotNow s = 0 then 0 else 1) { s with hbm := { s.hbm with hot := hotNow s } })

theorem heatSync_eq (s : State) : heatSync s =
    if (dramTemps (heatShown s)).any fun t => decide (135 < t) then
      (if hasCause (heatShown s) 10 then heatShown s else requestHold 10 (heatShown s))
    else clearCause 10 (heatShown s) := rfl

theorem getLsbD_hotNow (s : State) {k : Nat} (hk : k < 4) :
    (hotNow s).getLsbD k = decide (fget s Reg.HBM_TEMP_CFG_HOT ≤ (dramTemps s).getD k 0) := by
  unfold hotNow dramTemps
  generalize fget s Reg.HBM_TEMP_CFG_HOT = hot, fget s Reg.HBM_TEMP_S0A = a, fget s Reg.HBM_TEMP_S0B = b, fget s Reg.HBM_TEMP_S1A = c,
    fget s Reg.HBM_TEMP_S1B = d
  have hsum : (List.map (fun (t, k) => if hot ≤ t then 2 ^ k else 0) ([a, b, c, d].zipIdx)).sum =
      (decide (hot ≤ a)).toNat + 2 * (decide (hot ≤ b)).toNat + 4 * (decide (hot ≤ c)).toNat + 8 * (decide (hot ≤ d)).toNat := by
    by_cases ha : hot ≤ a <;> by_cases hb : hot ≤ b <;> by_cases hc : hot ≤ c <;> by_cases hd : hot ≤ d <;> simp [ha, hb, hc, hd]
  have hbits : ∀ (p q r u : Bool) (i : Fin 4), (BitVec.ofNat 4 (p.toNat + 2 * q.toNat + 4 * r.toNat + 8 * u.toNat)).getLsbD i = [p, q, r, u].getD i false := by
    decide
  rw [hsum, hbits _ _ _ _ ⟨k, hk⟩]
  match k, hk with
  | 0, _ => rfl
  | 1, _ => rfl
  | 2, _ => rfl
  | 3, _ => rfl

theorem hotNow_eq_zero (s : State) : hotNow s = 0 ↔ ¬ ∃ v ∈ dramTemps s, fget s Reg.HBM_TEMP_CFG_HOT ≤ v := by
  have hlen : (dramTemps s).length = 4 := rfl
  constructor
  · rintro hzero ⟨v, hv, hhot⟩
    obtain ⟨k, hk, hget⟩ := List.mem_iff_getElem.mp hv
    have hbit := getLsbD_hotNow s (hlen ▸ hk)
    rw [hzero, List.getD_eq_getElem _ _ hk, hget, decide_eq_true hhot] at hbit
    exact Bool.false_ne_true (BitVec.getLsbD_zero.symm.trans hbit)
  · intro hnone
    refine BitVec.eq_of_getLsbD_eq fun k hk => ?_
    refine (getLsbD_hotNow s hk).trans (Eq.trans ?_ BitVec.getLsbD_zero.symm)
    rw [decide_eq_false_iff_not]
    refine fun hhot => hnone ⟨_, ?_, hhot⟩
    rw [List.getD_eq_getElem _ _ (hlen ▸ hk)]
    exact List.getElem_mem _

section
variable (s : State)

theorem heatShown_stands : (heatShown s).flow = s.flow ∧ (heatShown s).job = s.job ∧ (heatShown s).hbm.debt = s.hbm.debt ∧ DramKept s (heatShown s) ∧
    RegsKept [Reg.HBM_STATUS] s (heatShown s) := by
  have hstatus := regsKept_fput (f := Reg.HBM_STATUS_HOT) (ks := [Reg.HBM_STATUS]) (List.mem_singleton_self _) (if hotNow s = 0 then 0 else 1)
    { s with hbm := { s.hbm with hot := hotNow s } }
  unfold heatShown raiseIf
  split <;> exact ⟨rfl, rfl, rfl, fun _ => rfl, hstatus⟩

theorem heatShown_regs : (heatShown s).regs = (fput Reg.HBM_STATUS_HOT (if hotNow s = 0 then 0 else 1) s).regs := by
  unfold heatShown raiseIf
  split <;> rfl

theorem dramTemps_congr {ks : List Nat} {s t : State} (h : RegsKept ks s t) (hks : Reg.HBM_TEMP ∉ ks) : dramTemps t = dramTemps s := by
  have htemp := h _ hks
  unfold dramTemps
  rw [fget_congr (f := Reg.HBM_TEMP_S0A) htemp, fget_congr (f := Reg.HBM_TEMP_S0B) htemp, fget_congr (f := Reg.HBM_TEMP_S1A) htemp,
    fget_congr (f := Reg.HBM_TEMP_S1B) htemp]

theorem heatShown_hot : fbit (heatShown s) Reg.HBM_STATUS_HOT = true ↔ ∃ v ∈ dramTemps s, fget s Reg.HBM_TEMP_CFG_HOT ≤ v := by
  have hput : fbit (heatShown s) Reg.HBM_STATUS_HOT = fbit (fput Reg.HBM_STATUS_HOT (if hotNow s = 0 then 0 else 1) s) Reg.HBM_STATUS_HOT :=
    fbit_regs (heatShown_regs s) _
  rw [hput, fbit_fput _ _ rfl rfl]
  by_cases hzero : hotNow s = 0
  · simp [hzero, (hotNow_eq_zero s).mp hzero]
  · have hsome := Classical.not_not.mp (mt (hotNow_eq_zero s).mpr hzero)
    simp only [hzero, if_false, hsome, iff_true]
    decide

theorem bandOf_heatShown (stack : Nat) : bandOf (heatShown s) stack = bandOf s stack := by
  unfold bandOf
  rw [fget_congr (rget_regs_congr (heatShown_regs s) _)]
  by_cases hstack : stack = 0
  · rw [if_pos hstack]
    exact fget_fput_beside _ _ _ rfl _ (by decide) (by decide)
  · rw [if_neg hstack]
    exact fget_fput_beside _ _ _ rfl _ (by decide) (by decide)

theorem heatShown_raises {k : Nat} (hk : k < 4) (hhot : fget s Reg.HBM_TEMP_CFG_HOT ≤ (dramTemps s).getD k 0) (hnew : s.hbm.hot.getLsbD k = false) :
    (heatShown s).ev.bits.getLsbD Ev.HBM_HOT = true := by
  have hbit : (hotNow s &&& ~~~s.hbm.hot).getLsbD k = true := by
    rw [BitVec.getLsbD_and, BitVec.getLsbD_not, getLsbD_hotNow s hk, hnew, decide_eq_true hhot, decide_eq_true hk]
    rfl
  have hne : (hotNow s &&& ~~~s.hbm.hot != 0) = true := by
    rw [bne_iff_ne]
    intro hzero
    rw [hzero] at hbit
    exact Bool.false_ne_true (BitVec.getLsbD_zero.symm.trans hbit)
  unfold heatShown
  rw [hne]
  exact raise_raises (by decide) _

theorem eventsKept_heatShown : EventsKept [Ev.HBM_HOT] s (heatShown s) :=
  EventsKept.trans (t := fput Reg.HBM_STATUS_HOT _ { s with hbm := { s.hbm with hot := hotNow s } }) (eventsKept_of_ev rfl)
    (eventsKept_raiseIf (List.mem_singleton_self _) _ _)

theorem eventsStand_heatShown : EventsStand s (heatShown s) :=
  EventsStand.trans (t := fput Reg.HBM_STATUS_HOT _ { s with hbm := { s.hbm with hot := hotNow s } }) (eventsStand_of_ev rfl)
    (eventsStand_raiseIf _ _ _)

/-- Hold cause 10 follows the readings above 135 °C. -/
def heatHeld (s : State) : State :=
  if (dramTemps s).any fun t => decide (135 < t) then (if hasCause s 10 then s else requestHold 10 s) else clearCause 10 s

theorem heatSync_eq_held : heatSync s = heatHeld (heatShown s) := rfl

theorem heatHeld_leaves : HoldParts s (heatHeld s) ∧ RegsKept holdRegs s (heatHeld s) ∧ EventsKept [Ev.HOLD] s (heatHeld s) ∧
    EventsStand s (heatHeld s) := by
  unfold heatHeld
  split
  · split
    · exact ⟨rfl, fun _ _ => rfl, fun _ _ _ => rfl, fun _ h => h⟩
    · exact ⟨holdParts_requestHold 10 s, regsKept_requestHold 10 s, eventsKept_requestHold 10 s, eventsStand_requestHold 10 s⟩
  · exact ⟨rfl, fun _ _ => rfl, fun _ _ _ => rfl, fun _ h => h⟩

theorem hasCause_heatHeld : hasCause (heatHeld s) 10 = true ↔ ∃ v ∈ dramTemps s, 135 < v := by
  have hany : (dramTemps s).any (fun t => decide (135 < t)) = true ↔ ∃ v ∈ dramTemps s, 135 < v := by simp [List.any_eq_true]
  unfold heatHeld
  split
  case isTrue h =>
    rw [← hany, h]
    split
    · simp_all
    · rw [hasCause_congr (requestHold_causes 10 s), hasCause_setCause (by decide)]
      simp
  case isFalse h =>
    rw [← hany, hasCause_clearCause (by decide)]
    simp [h]

theorem heatHeld_holds (hhot : ∃ v ∈ dramTemps s, 135 < v) (hcause : hasCause s 10 = false) (hmode : s.flow.mode = .write) (hresume : s.flow.resume = .none) :
    (heatHeld s).flow.holdReq = true := by
  have hany : (dramTemps s).any (fun t => decide (135 < t)) = true := by simpa [List.any_eq_true] using hhot
  unfold heatHeld
  rw [if_pos hany, hcause, if_neg Bool.false_ne_true, requestHold_of_none hresume]
  simp [hmode]

end

/-! ## A reading of a stack -/

/-- The readings of a stack are taken. -/
def readingsTaken (stack a b : Nat) (s : State) : State :=
  sample (Src.dramTemp (2 * stack + 1)) [(b : Int)] (sample (Src.dramTemp (2 * stack)) [(a : Int)]
    (if stack = 0 then fput Reg.HBM_TEMP_S0A a (fput Reg.HBM_TEMP_S0B b s) else fput Reg.HBM_TEMP_S1A a (fput Reg.HBM_TEMP_S1B b s)))

theorem hbmTemp_eq (stack ra rb : Nat) {s : State} (hon : hbmOn s = true) : hbmTemp stack ra rb s =
    (let a := min 255 (sensorReading s (12 + 2 * stack) 1000 ra).toNat
     let b := min 255 (sensorReading s (13 + 2 * stack) 1000 rb).toNat
     heatSync (updateBand stack (max a b) (readingsTaken stack a b s))) := by
  unfold hbmTemp
  rw [hon]
  rfl

/-- What readings move before heat is shown. -/
structure Reading (s t : State) : Prop where
  rest : t = { s with hbm := t.hbm, regs := t.regs, mon := t.mon, ev := t.ev }
  regs : RegsKept (Reg.HBM_TEMP :: Reg.HBM_STATUS :: cmdRegs) s t
  events : EventsKept [Ev.HBM_BAND, Ev.MON_LIMIT] s t
  hot : t.hbm.hot = s.hbm.hot

theorem Reading.trans {s t u : State} (h : Reading s t) (h' : Reading t u) : Reading s u := by
  refine ⟨?_, h.regs.trans h'.regs, h.events.trans h'.events, h'.hot.trans h.hot⟩
  have hu := h'.rest
  generalize u.hbm = hbm, u.regs = regs, u.mon = mon, u.ev = ev at hu
  rw [hu, h.rest]

theorem Commanded.reading {pcs : List Nat} {s t : State} (h : Commanded pcs s t) : Reading s t :=
  ⟨h.rest, h.regs.mono fun _ hk => List.mem_cons_of_mem _ (List.mem_cons_of_mem _ hk), h.events.mono (by simp), h.hot⟩

theorem readingsTaken_eq (stack a b : Nat) (s : State) : ∃ mon ev, readingsTaken stack a b s = { s with
    regs := (if stack = 0 then fput Reg.HBM_TEMP_S0A a (fput Reg.HBM_TEMP_S0B b s) else fput Reg.HBM_TEMP_S1A a (fput Reg.HBM_TEMP_S1B b s)).regs, mon, ev } := by
  unfold readingsTaken
  obtain ⟨mon, ev, heq⟩ := sample_eq (Src.dramTemp (2 * stack)) [(a : Int)]
    (if stack = 0 then fput Reg.HBM_TEMP_S0A a (fput Reg.HBM_TEMP_S0B b s) else fput Reg.HBM_TEMP_S1A a (fput Reg.HBM_TEMP_S1B b s))
  rw [heq]
  obtain ⟨mon', ev', heq'⟩ := sample_eq (Src.dramTemp (2 * stack + 1)) [(b : Int)] { (if stack = 0 then fput Reg.HBM_TEMP_S0A a (fput Reg.HBM_TEMP_S0B b s)
    else fput Reg.HBM_TEMP_S1A a (fput Reg.HBM_TEMP_S1B b s)) with mon, ev }
  refine ⟨mon', ev', ?_⟩
  rw [heq']
  split <;> rfl

section
variable (stack a b : Nat) (s : State)

theorem regsKept_readingsTaken : RegsKept [Reg.HBM_TEMP] s (readingsTaken stack a b s) := by
  obtain ⟨mon, ev, heq⟩ := readingsTaken_eq stack a b s
  rw [heq]
  split
  · exact (regsKept_fput (f := Reg.HBM_TEMP_S0B) (by decide) b s).trans (regsKept_fput (f := Reg.HBM_TEMP_S0A) (by decide) a _)
  · exact (regsKept_fput (f := Reg.HBM_TEMP_S1B) (by decide) b s).trans (regsKept_fput (f := Reg.HBM_TEMP_S1A) (by decide) a _)

theorem eventsKept_readingsTaken : EventsKept [Ev.MON_LIMIT] s (readingsTaken stack a b s) := by
  refine EventsKept.trans (EventsKept.trans ?_ (eventsKept_sample _ _ _)) (eventsKept_sample _ _ _)
  split <;> exact eventsKept_of_ev rfl

theorem reading_readingsTaken : Reading s (readingsTaken stack a b s) := by
  have hregs := regsKept_readingsTaken stack a b s
  have hevents := eventsKept_readingsTaken stack a b s
  obtain ⟨mon, ev, heq⟩ := readingsTaken_eq stack a b s
  rw [heq] at hregs hevents ⊢
  exact ⟨rfl, hregs.mono (by simp), hevents.mono (by simp), rfl⟩

theorem hbm_readingsTaken : (readingsTaken stack a b s).hbm = s.hbm := by
  obtain ⟨mon, ev, heq⟩ := readingsTaken_eq stack a b s
  rw [heq]

theorem fget_fput_byte {f : Field} (hf : f.ok = true) (hw : f.hi - f.lo = 7) {v : Nat} (hv : v < 256) (u : State) : fget (fput f v u) f = v := by
  rw [fget_fput_same u f hf, hw]
  exact Nat.mod_eq_of_lt hv

theorem dramTemps_readingsTaken (ha : a < 256) (hb : b < 256) : dramTemps (readingsTaken stack a b s) =
    if stack = 0 then [a, b, fget s Reg.HBM_TEMP_S1A, fget s Reg.HBM_TEMP_S1B] else [fget s Reg.HBM_TEMP_S0A, fget s Reg.HBM_TEMP_S0B, a, b] := by
  obtain ⟨mon, ev, heq⟩ := readingsTaken_eq stack a b s
  have htemps : ∀ {u v : State}, u.regs = v.regs → dramTemps u = dramTemps v := fun h => dramTemps_congr (ks := []) (regsKept_of_eq h) List.not_mem_nil
  rw [heq]
  split
  case isTrue =>
    refine (htemps (v := fput Reg.HBM_TEMP_S0A a (fput Reg.HBM_TEMP_S0B b s)) rfl).trans ?_
    unfold dramTemps
    rw [fget_fput_byte rfl rfl ha, fget_fput_beside _ _ Reg.HBM_TEMP_S0B rfl _ (by decide) (by decide), fget_fput_byte rfl rfl hb]
    rw [fget_fput_beside _ _ Reg.HBM_TEMP_S1A rfl _ (by decide) (by decide), fget_fput_beside _ _ Reg.HBM_TEMP_S1A rfl _ (by decide) (by decide),
      fget_fput_beside _ _ Reg.HBM_TEMP_S1B rfl _ (by decide) (by decide), fget_fput_beside _ _ Reg.HBM_TEMP_S1B rfl _ (by decide) (by decide)]
  case isFalse =>
    refine (htemps (v := fput Reg.HBM_TEMP_S1A a (fput Reg.HBM_TEMP_S1B b s)) rfl).trans ?_
    unfold dramTemps
    rw [fget_fput_byte rfl rfl ha, fget_fput_beside _ _ Reg.HBM_TEMP_S1B rfl _ (by decide) (by decide), fget_fput_byte rfl rfl hb]
    rw [fget_fput_beside _ _ Reg.HBM_TEMP_S0A rfl _ (by decide) (by decide), fget_fput_beside _ _ Reg.HBM_TEMP_S0A rfl _ (by decide) (by decide),
      fget_fput_beside _ _ Reg.HBM_TEMP_S0B rfl _ (by decide) (by decide), fget_fput_beside _ _ Reg.HBM_TEMP_S0B rfl _ (by decide) (by decide)]

end

/-! ## The band of a stack -/

theorem bandOf_setBand {band : Nat} (hband : band < 4) (stack : Nat) (s : State) : bandOf (setBand stack band s) stack = band := by
  unfold bandOf setBand
  split <;> exact (fget_fput_same _ _ rfl _).trans (Nat.mod_eq_of_lt hband)

theorem reading_setBand (stack band : Nat) (s : State) : Reading s (setBand stack band s) := by
  unfold setBand
  split
  · exact ⟨rfl, regsKept_fput (f := Reg.HBM_STATUS_BAND_0) (by decide) _ _, fun _ _ _ => rfl, rfl⟩
  · exact ⟨rfl, regsKept_fput (f := Reg.HBM_STATUS_BAND_1) (by decide) _ _, fun _ _ _ => rfl, rfl⟩

theorem fallTo_le (t hyst n : Nat) : fallTo t hyst n ≤ n := by
  induction n with
  | zero => exact le_refl 0
  | succ n ih =>
    unfold fallTo
    split
    · exact Nat.le_succ_of_le ih
    · exact le_refl _

theorem bandOfTemp_lt (t : Nat) : bandOfTemp t < 4 := by
  unfold bandOfTemp
  (repeat' split) <;> decide

/-- The pseudo-channels of a stack. -/
def stackPcs (stack : Nat) : List Nat := (List.range 32).map (· + 32 * stack)

theorem mem_stackPcs {stack pc : Nat} (h : pc / 32 = stack) : pc ∈ stackPcs stack :=
  List.mem_map.mpr ⟨pc % 32, List.mem_range.mpr (Nat.mod_lt _ (by decide)), by omega⟩

theorem updateBand_eq (stack m : Nat) (s : State) : updateBand stack m s =
    if bandOf s stack < bandOfTemp m then
      convertDebts (bandOf s stack) (bandOfTemp m) (stackPcs stack) (raise Ev.HBM_BAND (setBand stack (bandOfTemp m) s))
    else if (stackPcs stack).all fun pc => debtOf s pc == 0 then setBand stack (fallTo m (fget s Reg.HBM_TEMP_CFG_HYST) (bandOf s stack)) s
    else s := rfl

section
variable (stack m : Nat) (s : State)

theorem reading_updateBand : Reading s (updateBand stack m s) := by
  rw [updateBand_eq]
  split
  · have hraise : Reading (setBand stack (bandOfTemp m) s) (raise Ev.HBM_BAND (setBand stack (bandOfTemp m) s)) :=
      ⟨rfl, fun _ _ => rfl, eventsKept_raise (by decide) _, rfl⟩
    exact ((reading_setBand _ _ s).trans hraise).trans (commanded_convertDebts _ _ _ _).reading
  · split
    · exact reading_setBand _ _ s
    · exact ⟨rfl, fun _ _ => rfl, fun _ _ _ => rfl, rfl⟩

theorem regsKept_updateBand : RegsKept (Reg.HBM_STATUS :: cmdRegs) s (updateBand stack m s) := by
  have hset : ∀ band, RegsKept (Reg.HBM_STATUS :: cmdRegs) s (setBand stack band s) := fun band => by
    unfold setBand
    split
    · exact regsKept_fput (f := Reg.HBM_STATUS_BAND_0) (by decide) _ _
    · exact regsKept_fput (f := Reg.HBM_STATUS_BAND_1) (by decide) _ _
  have hconvert := (commanded_convertDebts (bandOf s stack) (bandOfTemp m) (stackPcs stack) (raise Ev.HBM_BAND (setBand stack (bandOfTemp m) s))).regs
  rw [updateBand_eq]
  split
  · exact (hset _).trans (hconvert.mono fun _ hk => List.mem_cons_of_mem _ hk)
  · split
    · exact hset _
    · exact fun _ _ => rfl

variable {stack m s}

theorem updateBand_rises (hrise : bandOf s stack < bandOfTemp m) : bandOf (updateBand stack m s) stack = bandOfTemp m ∧
    (updateBand stack m s).ev.bits.getLsbD Ev.HBM_BAND = true ∧
    ∀ pc, pc / 32 = stack → debtOf (updateBand stack m s) pc = converted s (bandOf s stack) (bandOfTemp m) pc := by
  rw [updateBand_eq, if_pos hrise]
  have hcmd := commanded_convertDebts (bandOf s stack) (bandOfTemp m) (stackPcs stack) (raise Ev.HBM_BAND (setBand stack (bandOfTemp m) s))
  refine ⟨?_, ?_, fun pc hpc => ?_⟩
  · rw [bandOf_congr hcmd.regs (by decide)]
    exact bandOf_setBand (bandOfTemp_lt m) stack s
  · rw [hcmd.events _ (by decide) (by decide)]
    exact raise_raises (by decide) _
  · rw [debtOf_convertDebts _ _ _ (mem_stackPcs hpc)]
    have hfence : pcFenced (raise Ev.HBM_BAND (setBand stack (bandOfTemp m) s)) pc = pcFenced s pc :=
      congrArg (fun x => Nat.testBit x (pc / 2)) (fget_congr ((reading_setBand stack (bandOfTemp m) s).regs _ (by decide)))
    have hhbm : (raise Ev.HBM_BAND (setBand stack (bandOfTemp m) s)).hbm = s.hbm := by
      unfold setBand
      rfl
    unfold converted
    rw [hfence]
    unfold debtOf pcReplays
    rw [hhbm]

theorem updateBand_stays (hstay : bandOfTemp m ≤ bandOf s stack) : (∀ pc, debtOf (updateBand stack m s) pc = debtOf s pc) ∧
    bandOf (updateBand stack m s) stack = if (List.range 32).all (fun i => debtOf s (i + 32 * stack) == 0) then
      fallTo m (fget s Reg.HBM_TEMP_CFG_HYST) (bandOf s stack) else bandOf s stack := by
  have hall : (stackPcs stack).all (fun pc => debtOf s pc == 0) = (List.range 32).all fun i => debtOf s (i + 32 * stack) == 0 := List.all_map
  rw [updateBand_eq, if_neg (Nat.not_lt.mpr hstay), hall]
  split
  · refine ⟨fun pc => ?_, bandOf_setBand (lt_of_le_of_lt (fallTo_le _ _ _) (bandOf_lt s stack)) stack s⟩
    unfold setBand
    rfl
  · exact ⟨fun _ => rfl, rfl⟩

end

/-! ## Readings, in the words of O52 -/

section
variable {stack a b : Nat} {s : State}

/-- The state when heat comes to be shown. -/
def banded (stack a b : Nat) (s : State) : State := updateBand stack (max a b) (readingsTaken stack a b s)

theorem reading_banded : Reading s (banded stack a b s) := (reading_readingsTaken stack a b s).trans (reading_updateBand _ _ _)

theorem heatSync_leaves (u : State) : RegsKept (Reg.HBM_STATUS :: holdRegs) u (heatSync u) ∧ EventsKept [Ev.HBM_HOT, Ev.HOLD] u (heatSync u) ∧
    EventsStand u (heatSync u) ∧ (heatSync u).job = u.job ∧ (heatSync u).hbm.debt = u.hbm.debt ∧ DramKept u (heatSync u) ∧
    (∀ stack, bandOf (heatSync u) stack = bandOf u stack) ∧ dramTemps (heatSync u) = dramTemps u := by
  obtain ⟨hflow, hjob, hdebt, hdram, hregs⟩ := heatShown_stands u
  obtain ⟨hparts, hhold, hevents, hstand⟩ := heatHeld_leaves (heatShown u)
  have hjob' : (heatHeld (heatShown u)).job = (heatShown u).job := by rw [hparts]
  have hdebt' : (heatHeld (heatShown u)).hbm = (heatShown u).hbm := by rw [hparts]
  have hdram' : (heatHeld (heatShown u)).dram = (heatShown u).dram := by rw [hparts]
  have hall : RegsKept (Reg.HBM_STATUS :: holdRegs) u (heatHeld (heatShown u)) := (hregs.mono (by simp)).trans (hhold.mono (by simp))
  rw [heatSync_eq_held]
  exact ⟨hall, ((eventsKept_heatShown u).mono (by simp)).trans (hevents.mono (by simp)), (eventsStand_heatShown u).trans hstand, hjob'.trans hjob,
    by rw [hdebt', hdebt], fun x => ((dramKept_of_eq hdram') x).trans (hdram x),
    fun stack => (bandOf_congr hhold (by decide) stack).trans (bandOf_heatShown u stack), dramTemps_congr hall (by decide)⟩

theorem heatSync_hot (u : State) : fbit (heatSync u) Reg.HBM_STATUS_HOT = true ↔ ∃ v ∈ dramTemps u, fget u Reg.HBM_TEMP_CFG_HOT ≤ v := by
  rw [heatSync_eq_held, fbit, fget_congr ((heatHeld_leaves (heatShown u)).2.1 _ (by decide))]
  exact heatShown_hot u

theorem hasCause_heatSync (u : State) : hasCause (heatSync u) 10 = true ↔ ∃ v ∈ dramTemps u, 135 < v := by
  obtain ⟨-, -, -, -, hregs⟩ := heatShown_stands u
  rw [heatSync_eq_held, hasCause_heatHeld, dramTemps_congr hregs (by decide)]

theorem heatSync_holds {u : State} (hhot : ∃ v ∈ dramTemps u, 135 < v) (hcause : hasCause u 10 = false) (hmode : u.flow.mode = .write)
    (hresume : u.flow.resume = .none) : (heatSync u).flow.holdReq = true := by
  obtain ⟨hflow, -, -, -, hregs⟩ := heatShown_stands u
  rw [heatSync_eq_held]
  exact heatHeld_holds _ (by rwa [dramTemps_congr hregs (by decide)]) ((hasCause_congr (congrArg Flow.causes hflow) 10).trans hcause) (by rwa [hflow]) (by rwa [hflow])

end

/-! ## Row disturbance -/

section
variable (pc bank row : Nat) (s : State)

theorem rows_neighboursDone {k : Nat} (hk : k ≠ bankKey pc bank) : assocD [] (neighboursDone pc bank row s).hbm.rows k = assocD [] s.hbm.rows k := by
  have hfold : ∀ (l : List Nat) (u : State), assocD [] (l.foldl (fun s r => precharge pc bank (activateRow pc bank r s)) u).hbm.rows k =
      assocD [] u.hbm.rows k := by
    intro l
    induction l with
    | nil => exact fun _ => rfl
    | cons r l ih =>
      intro u
      rw [List.foldl_cons, ih]
      exact (assocD_assocPut [] u.hbm.rows (bankKey pc bank) k _).trans (if_neg hk)
  exact hfold _ _

theorem regs_neighboursDone : (neighboursDone pc bank row s).regs = s.regs := by
  have hfold : ∀ (l : List Nat) (u : State), (l.foldl (fun s r => precharge pc bank (activateRow pc bank r s)) u).regs = u.regs := by
    intro l
    induction l with
    | nil => exact fun _ => rfl
    | cons r l ih => exact fun u => (ih _).trans rfl
  exact hfold _ _

theorem refreshNeighbours_clears : ∀ e ∈ rowCounts (refreshNeighbours pc bank row s) pc bank, e.row = row → e.count = 0 := by
  have hrows : rowCounts (refreshNeighbours pc bank row s) pc bank =
      (rowCounts (issueCmd pc (.rfm pc bank) (neighboursDone pc bank row s)) pc bank).map fun e => if e.row = row then { e with count := 0 } else e :=
    (assocD_assocPut [] _ (bankKey pc bank) (bankKey pc bank) _).trans (if_pos rfl)
  rw [hrows]
  intro e he hrow
  obtain ⟨old, -, rfl⟩ := List.mem_map.mp he
  by_cases hold : old.row = row
  · rw [if_pos hold]
  · rw [if_neg hold] at hrow
    exact absurd hrow hold

theorem refreshNeighbours_others {k : Nat} (hk : k ≠ bankKey pc bank) :
    assocD [] (refreshNeighbours pc bank row s).hbm.rows k = assocD [] s.hbm.rows k :=
  ((assocD_assocPut [] _ (bankKey pc bank) k _).trans (if_neg hk)).trans (rows_neighboursDone pc bank row s hk)

theorem refreshNeighbours_rfm : (assocD [] (refreshNeighbours pc bank row s).hbm.retry (pc / 2)).head? = some (.rfm pc bank) := by
  have hput := assocD_assocPut [] (neighboursDone pc bank row s).hbm.retry (pc / 2) (pc / 2)
    ((DramCmd.rfm pc bank :: assocD [] (neighboursDone pc bank row s).hbm.retry (pc / 2)).take 32)
  rw [if_pos rfl] at hput
  have hretry : (refreshNeighbours pc bank row s).hbm.retry = (issueCmd pc (.rfm pc bank) (neighboursDone pc bank row s)).hbm.retry := rfl
  rw [hretry]
  exact congrArg List.head? hput

theorem refreshNeighbours_counts : fget (refreshNeighbours pc bank row s) Reg.HBM_RD_COUNT_COUNT =
    min (2 ^ 32 - 1) (fget s Reg.HBM_RD_COUNT_COUNT + 1) := by
  rw [refreshNeighbours_eq, fget_fcount rfl]
  have hregs : (zeroRow pc bank row (issueCmd pc (.rfm pc bank) (neighboursDone pc bank row s))).regs = s.regs := regs_neighboursDone pc bank row s
  rw [fget_regs hregs]
  rfl

theorem regsKept_refreshNeighbours : RegsKept [Reg.HBM_RD_COUNT] s (refreshNeighbours pc bank row s) := by
  have hregs : (zeroRow pc bank row (issueCmd pc (.rfm pc bank) (neighboursDone pc bank row s))).regs = s.regs := regs_neighboursDone pc bank row s
  exact (regsKept_of_eq hregs).trans (regsKept_fput (f := Reg.HBM_RD_COUNT_COUNT) (List.mem_singleton_self _) _ _)

theorem refreshNeighbours_wakes : (refreshNeighbours pc bank row s).hbm.powerDown.getLsbD pc = false := by
  have hdown : (refreshNeighbours pc bank row s).hbm.powerDown = (leavePowerDown pc s).hbm.powerDown := by
    have hfold : ∀ (l : List Nat) (u : State), (l.foldl (fun s r => precharge pc bank (activateRow pc bank r s)) u).hbm.powerDown = u.hbm.powerDown := by
      intro l
      induction l with
      | nil => exact fun _ => rfl
      | cons r l ih => exact fun u => (ih _).trans rfl
    exact hfold _ _
  rw [hdown, getLsbD_leavePowerDown]
  simp

end

theorem assocD_filter_keys {β : Type} (d : β) (p : Nat → Bool) (m : List (Nat × β)) (k : Nat) :
    assocD d (m.filter fun e => p e.1) k = if p k then assocD d m k else d := by
  induction m with
  | nil => simp [assocD]
  | cons e m ih =>
    obtain ⟨j, v⟩ := e
    by_cases hj : k = j
    · subst hj
      cases hp : p k <;> simp [assocD, hp, ih]
    · cases hp : p j <;> simp [assocD, hp, ih, hj]

theorem getLsbD_powerDown_set (w : BitVec 64) (pc : Fin 64) (k : Nat) :
    (w ||| (1 : BitVec 64) <<< pc.val).getLsbD k = (w.getLsbD k || decide (pc.val = k)) := by
  have hone : ((1 : BitVec 64) <<< pc.val).getLsbD k = (decide (pc.val < 64) && decide (pc.val = k)) := BitVec.getLsbD_twoPow pc.val k
  rw [BitVec.getLsbD_or, hone, decide_eq_true pc.isLt, Bool.true_and]

/-! ## The statement -/

theorem refreshInterval_waits {pc : Fin 64} {s : State} (hon : hbmOn s = true) (hfenced : pcFenced s pc.val = false)
    (hreplay : pcReplays s pc.val = true) (unitDone : Bool) (ws : List DramWait) : Yields (.refreshInterval pc unitDone ws) s fun t =>
      debtOf t pc.val = debtOf s pc.val + 1 ∧ (∀ k, k ≠ pc.val → debtOf t k = debtOf s k) ∧
        t.hbm = { s.hbm with debt := t.hbm.debt } ∧ EventsKept [Ev.MON_LIMIT] s t ∧ RegsKept [Reg.HBM_REF_DEBT_MAX] s t ∧
        t.flow = s.flow ∧ t.job = s.job ∧ DramKept s t := by
  refine ⟨_, rfl, ?_⟩
  rw [refreshInterval_of_replay hon hfenced hreplay]
  have hmoved : DebtsMoved s (setDebt pc.val (debtOf s pc.val + 1) s) := debtsMoved_setDebts _ s
  obtain ⟨hhbm, hflow, hjob, hdram⟩ := hmoved.stands
  exact ⟨(debtOf_setDebt _ _ _ _).trans (if_pos rfl), fun k hk => (debtOf_setDebt _ _ _ _).trans (if_neg hk), hhbm, hmoved.events, hmoved.regs,
    hflow, hjob, hdram⟩

theorem refreshInterval_runs {pc : Fin 64} {s : State} (hon : hbmOn s = true) (hfenced : pcFenced s pc.val = false)
    (hreplay : pcReplays s pc.val = false) (unitDone : Bool) (ws : List DramWait) : Yields (.refreshInterval pc unitDone ws) s fun t =>
      (∀ k, k ≠ pc.val → debtOf t k = debtOf s k) ∧ t.hbm.powerDown.getLsbD pc.val = false ∧ EventsKept [Ev.MON_LIMIT] s t ∧
        RegsKept cmdRegs s t ∧ t.flow = s.flow ∧ t.job = s.job ∧ DramKept s t := by
  refine ⟨_, rfl, ?_⟩
  have hrun := commanded_refreshInterval hon hfenced hreplay unitDone ws
  have hall := (commanded_unitAdded pc.val unitDone s).trans hrun
  obtain ⟨hflow, hjob, hdram⟩ := hall.stands
  refine ⟨fun k hk => hall.debts k (by simpa using hk), ?_, hall.events, hall.regs, hflow, hjob, hdram⟩
  by_contra hset
  exact absurd (hrun.down pc.val (Bool.not_eq_false _ ▸ hset)) (by rw [down_unitAdded]; simp)

theorem hbmTempRead_reads (stack : Fin 2) (ra rb : Nat) {s : State} (hon : hbmOn s = true) :
    let a := min 255 (sensorReading s (12 + 2 * stack.val) 1000 ra).toNat
    let b := min 255 (sensorReading s (13 + 2 * stack.val) 1000 rb).toNat
    let m := max a b
    let old := bandOf s stack.val
    Yields (.hbmTempRead stack ra rb) s fun t =>
      (dramTemps t = if stack.val = 0 then [a, b, fget s Reg.HBM_TEMP_S1A, fget s Reg.HBM_TEMP_S1B] else
        [fget s Reg.HBM_TEMP_S0A, fget s Reg.HBM_TEMP_S0B, a, b]) ∧
      (old < bandOfTemp m → bandOf t stack.val = bandOfTemp m ∧ t.ev.bits.getLsbD Ev.HBM_BAND = true ∧
        ∀ pc, pc / 32 = stack.val → debtOf t pc = converted s old (bandOfTemp m) pc) ∧
      (bandOfTemp m ≤ old → (∀ pc, debtOf t pc = debtOf s pc) ∧ bandOf t stack.val =
        if (List.range 32).all (fun i => debtOf s (i + 32 * stack.val) == 0) then fallTo m (fget s Reg.HBM_TEMP_CFG_HYST) old else old) ∧
      (fbit t Reg.HBM_STATUS_HOT = true ↔ ∃ v ∈ dramTemps t, fget s Reg.HBM_TEMP_CFG_HOT ≤ v) ∧
      (∀ k, k < 4 → fget s Reg.HBM_TEMP_CFG_HOT ≤ (dramTemps t).getD k 0 → s.hbm.hot.getLsbD k = false →
        t.ev.bits.getLsbD Ev.HBM_HOT = true) ∧
      EventsKept [Ev.HBM_BAND, Ev.HBM_HOT, Ev.MON_LIMIT, Ev.HOLD] s t ∧
      (hasCause t 10 = true ↔ ∃ v ∈ dramTemps t, 135 < v) ∧
      (135 < m → hasCause s 10 = false → s.flow.mode = .write → s.flow.resume = .none → t.flow.holdReq = true) ∧ t.job = s.job ∧ DramKept s t := by
  intro a b m old
  have ha : a < 256 := Nat.lt_succ_of_le (min_le_left _ _)
  have hb : b < 256 := Nat.lt_succ_of_le (min_le_left _ _)
  refine ⟨heatSync (banded stack.val a b s), congrArg Host.Outcome.next (hbmTemp_eq stack.val ra rb hon), ?_⟩
  have hreading : Reading s (banded stack.val a b s) := reading_banded
  have htaken := reading_readingsTaken stack.val a b s
  obtain ⟨hregs, hevents, hstand, hjob, hdebt, hdram, hband, htemps⟩ := heatSync_leaves (banded stack.val a b s)
  have hflow : (banded stack.val a b s).flow = s.flow := by rw [hreading.rest]
  have hjob' : (banded stack.val a b s).job = s.job := by rw [hreading.rest]
  have hdram' : (banded stack.val a b s).dram = s.dram := by rw [hreading.rest]
  have hhot : fget (banded stack.val a b s) Reg.HBM_TEMP_CFG_HOT = fget s Reg.HBM_TEMP_CFG_HOT := fget_congr (hreading.regs _ (by decide))
  have hold : bandOf (readingsTaken stack.val a b s) stack.val = old := bandOf_congr (regsKept_readingsTaken stack.val a b s) (by decide) _
  have hhbm := hbm_readingsTaken stack.val a b s
  have hread := dramTemps_readingsTaken stack.val a b s ha hb
  have htemps' : dramTemps (banded stack.val a b s) = dramTemps (readingsTaken stack.val a b s) :=
    dramTemps_congr (regsKept_updateBand stack.val m _) (by decide)
  have hconv : ∀ pc, converted (readingsTaken stack.val a b s) old (bandOfTemp m) pc = converted s old (bandOfTemp m) pc := by
    intro pc
    unfold converted pcFenced fbitAt debtOf pcReplays
    rw [hhbm, fget_congr ((regsKept_readingsTaken stack.val a b s) _ (by decide))]
  have hdebts : ∀ pc, debtOf (heatSync (banded stack.val a b s)) pc = debtOf (banded stack.val a b s) pc := fun pc => congrArg (assocD 0 · pc) hdebt
  refine ⟨(htemps.trans htemps').trans hread, fun hrise => ?_, fun hstay => ?_, ?_, fun k hk hreach hnew => ?_, ?_, ?_, fun hover hcause hmode hresume => ?_,
    hjob.trans hjob', fun x => (hdram x).trans (dramKept_of_eq hdram' x)⟩
  · obtain ⟨hup, hraised, hpaid⟩ := updateBand_rises (stack := stack.val) (m := m) (s := readingsTaken stack.val a b s) (hold ▸ hrise)
    rw [hold] at hpaid
    refine ⟨(hband _).trans hup, hstand _ hraised, fun pc hpc => ?_⟩
    rw [hdebts, ← hconv]
    exact hpaid pc hpc
  · obtain ⟨hsame, hfall⟩ := updateBand_stays (stack := stack.val) (m := m) (s := readingsTaken stack.val a b s) (hold ▸ hstay)
    have hdebt' : ∀ pc, debtOf (readingsTaken stack.val a b s) pc = debtOf s pc := fun pc => by rw [debtOf, hhbm, debtOf]
    have hhyst : fget (readingsTaken stack.val a b s) Reg.HBM_TEMP_CFG_HYST = fget s Reg.HBM_TEMP_CFG_HYST :=
      fget_congr (regsKept_readingsTaken stack.val a b s _ (by decide))
    simp only [hdebt', hhyst, hold] at hsame hfall
    exact ⟨fun pc => (hdebts pc).trans (hsame pc), (hband _).trans hfall⟩
  · rw [heatSync_hot, hhot, htemps]
  · rw [htemps] at hreach
    exact (heatHeld_leaves (heatShown (banded stack.val a b s))).2.2.2 _
      (heatShown_raises _ hk (by rwa [hhot]) (by rwa [hreading.hot]))
  · exact (hreading.events.mono (by simp)).trans (hevents.mono (by simp))
  · rw [hasCause_heatSync, htemps]
  · refine heatSync_holds ?_ ((hasCause_congr (congrArg Flow.causes hflow) 10).trans hcause) (by rwa [hflow]) (by rwa [hflow])
    rw [htemps', hread]
    rcases lt_max_iff.mp hover with hlt | hlt
    · exact ⟨a, by split <;> simp, hlt⟩
    · exact ⟨b, by split <;> simp, hlt⟩

set_option Elab.async false in
/-- Settles O52: a replay only adds to the debt; commands pay it (`runCommands_pays`) or leave it postponed, and their frame is `Commanded`; a
reading moves the band and its debts before heat is shown (`heatSync_leaves`); a row's own refresh and a window clear counters. -/
theorem dramIsRefreshed : Obligations.DramIsRefreshed := by
  intro s
  refine ⟨fun pc done ws hon hfenced hreplay => refreshInterval_waits hon hfenced hreplay done ws, fun pc done ws hon hfenced hreplay => ?_,
    fun pc done ws hoff => ?_, fun stack ra rb hon => ?_, fun stack ra rb hoff => ?_, fun pc bank row => ⟨fun hon hfenced hreplay hdue => ?_, fun hnot => ?_⟩,
    fun stack => ?_, fun pc => ?_⟩
  · exact ⟨refreshInterval_runs hon hfenced hreplay done ws, fun hdue => ⟨_, rfl, refreshInterval_pays hon hfenced hreplay done ws hdue⟩⟩
  · exact ⟨_, rfl, refreshInterval_of_off hoff done ws⟩
  · obtain ⟨t, ht, htemps, hrise, hstay, hhot, hraised, hevents, hcause, hhold, hjob, hdram⟩ := hbmTempRead_reads stack ra rb hon
    refine ⟨t, ht, fun hzero => ?_, fun hone => ?_, hrise, hstay, hhot, hraised, hevents, hcause, hhold, hjob, hdram⟩
    · rw [if_pos hzero] at htemps
      injection htemps with ha htail
      injection htail with hb htail
      injection htail with hc htail
      injection htail with hd _
      exact ⟨ha, hb, hc, hd⟩
    · rw [if_neg (by omega)] at htemps
      injection htemps with ha htail
      injection htail with hb htail
      injection htail with hc htail
      injection htail with hd _
      exact ⟨hc, hd, ha, hb⟩
  · exact ⟨_, rfl, if_pos (by simpa using hoff)⟩
  · have heq : neighbourRefresh pc.val bank.val row s = refreshNeighbours pc.val bank.val row s := if_pos (by simp [hon, hfenced, hreplay, hdue])
    refine ⟨_, congrArg Host.Outcome.next heq, refreshNeighbours_clears pc.val bank.val row s, fun k hk => refreshNeighbours_others pc.val bank.val row s hk,
      refreshNeighbours_rfm pc.val bank.val row s, refreshNeighbours_wakes pc.val bank.val row s, refreshNeighbours_counts pc.val bank.val row s,
      by simp, by simp, by simp, regsKept_refreshNeighbours pc.val bank.val row s, dramKept_of_eq (by simp)⟩
  · refine ⟨_, rfl, if_neg ?_⟩
    rcases hnot with h | h | h | h <;> simp [h]
  · refine ⟨_, rfl, fun k => ?_, rfl, rfl, rfl, fun _ _ => rfl, fun _ => rfl⟩
    refine (assocD_filter_keys [] (fun k => k / 1024 != stack.val) s.hbm.rows k).trans ?_
    by_cases hk : k / 1024 = stack.val <;> simp [hk]
  · refine ⟨_, rfl, ?_⟩
    unfold powerDown
    split
    case isTrue hmay =>
      refine ⟨⟨rfl, rfl, rfl, fun _ _ => rfl, fun _ => rfl⟩, ?_, fun k hk => ?_⟩
      · rw [hmay, Bool.or_true]
        exact (getLsbD_powerDown_set _ pc _).trans (by simp)
      · exact (getLsbD_powerDown_set _ pc k).trans (by simp [Ne.symm hk])
    case isFalse hnot =>
      rw [Bool.not_eq_true] at hnot
      exact ⟨⟨rfl, rfl, rfl, fun _ _ => rfl, fun _ => rfl⟩, by rw [hnot, Bool.or_false], fun _ _ => rfl⟩

end Sys2Proof.Machine
end

section
/-!
PROOFS. Replays, fences and the pattern generator; what the scrubber makes of a unit (O53).
-/

namespace Sys2Proof.Machine

/-! ## Codes -/

namespace Codes

theorem contains_filter_ne (l : List Nat) (w v : Nat) : (l.filter fun x => !(x == w)).contains v = (l.contains v && !(v == w)) := by
  rw [Bool.eq_iff_iff]
  simp

theorem look_put (w : Nat) (r : EccResult) (c : Codes) (v : Nat) : (c.put w r).look v = if v = w then r else c.look v := by
  unfold put look cleared
  by_cases hv : v = w
  · subst hv
    cases r <;> simp
  · cases r <;> simp [hv]

theorem look_putAll (ws : List Nat) (r : EccResult) (c : Codes) (v : Nat) : (c.putAll ws r).look v = if v ∈ ws then r else c.look v := by
  induction ws generalizing c with
  | nil => rfl
  | cons w ws ih =>
    have hcons : c.putAll (w :: ws) r = (c.put w r).putAll ws r := rfl
    rw [hcons, ih, look_put]
    by_cases hv : v = w
    · simp [hv]
    · simp [hv]

theorem look_worsen (w : Nat) (r : EccResult) (c : Codes) (v : Nat) :
    (c.worsen w r).look v = if v = w ∧ eccRank (c.look w) < eccRank r then r else c.look v := by
  unfold worsen
  by_cases hrank : eccRank (c.look w) < eccRank r
  · rw [if_pos hrank, look_put]
    simp [hrank]
  · rw [if_neg hrank, if_neg fun h => hrank h.2]

theorem worsen_clean (w : Nat) (c : Codes) : c.worsen w .clean = c := if_neg (Nat.not_lt_zero _)

end Codes

theorem mem_unitWords {u w : Nat} : w ∈ unitWords u ↔ w / 8 = u := by
  unfold unitWords
  rw [List.mem_map]
  constructor
  · rintro ⟨k, hk, rfl⟩
    have hlt := List.mem_range.mp hk
    omega
  · exact fun h => ⟨w % 8, List.mem_range.mpr (Nat.mod_lt _ (by decide)), by omega⟩

theorem nodup_unitWords (u : Nat) : (unitWords u).Nodup :=
  List.Nodup.map (fun _ _ h => Nat.add_left_cancel h) List.nodup_range

/-- The word of a unit that a free value strikes. -/
def struckWord (s : State) (u : Nat) : Nat := 8 * u + freeNat s % 8

theorem struckWord_mem (s : State) (u : Nat) : struckWord s u ∈ unitWords u := by
  rw [mem_unitWords]
  unfold struckWord
  omega

/-! ## A unit's codes under the scrubber -/

namespace Codes
variable {c : Codes} {u w : Nat} {r : EccResult}

theorem look_worsen_of_clean (hclean : ∀ v ∈ unitWords u, c.look v = .clean) (hw : w ∈ unitWords u) {v : Nat} (hv : v ∈ unitWords u) :
    (c.worsen w r).look v = if v = w then r else .clean := by
  rw [look_worsen, hclean w hw, hclean v hv]
  by_cases hvw : v = w
  · cases r <;> simp [hvw, eccRank]
  · simp [hvw]

theorem first_eq_none {x : EccResult} : c.first u x = none ↔ ∀ v ∈ unitWords u, c.look v ≠ x := by
  simp [first, List.find?_eq_none]

theorem first_isSome {x : EccResult} : (c.first u x).isSome = true ↔ ∃ v ∈ unitWords u, c.look v = x := by
  simp [first, List.find?_isSome]

theorem correctables_worsen (hclean : ∀ v ∈ unitWords u, c.look v = .clean) (hw : w ∈ unitWords u) :
    (unitWords u).filter (fun v => (c.worsen w .correctable).look v == .correctable) = [w] := by
  have hsame : ∀ v ∈ unitWords u, ((c.worsen w .correctable).look v == .correctable) = (v == w) := fun v hv => by
    rw [look_worsen_of_clean hclean hw hv]
    by_cases hvw : v = w <;> simp [hvw]
  rw [List.filter_congr hsame, List.filter_beq, List.count_eq_one_of_mem (nodup_unitWords u) hw]
  rfl

theorem scrub_of_poisoned (h : ∃ v ∈ unitWords u, c.look v = .poisoned) : c.scrub u = c := by
  unfold scrub
  exact if_pos (by simpa [List.any_eq_true] using h)

theorem scrub_of_uncorrectable (hnone : ∀ v ∈ unitWords u, c.look v ≠ .poisoned) (h : ∃ v ∈ unitWords u, c.look v = .uncorrectable) :
    c.scrub u = c.putAll (unitWords u) .poisoned := by
  unfold scrub
  dsimp only
  rw [if_neg (by simpa [List.any_eq_true] using hnone), if_pos (by simpa [List.any_eq_true] using h)]

theorem scrub_of_readable (hnone : ∀ v ∈ unitWords u, c.look v ≠ .poisoned) (hnone' : ∀ v ∈ unitWords u, c.look v ≠ .uncorrectable) :
    c.scrub u = c.putAll (unitWords u) .clean := by
  unfold scrub
  dsimp only
  rw [if_neg (by simpa [List.any_eq_true] using hnone), if_neg (by simpa [List.any_eq_true] using hnone')]

theorem look_scrub_other {v : Nat} (hv : v ∉ unitWords u) : (c.scrub u).look v = c.look v := by
  unfold scrub
  dsimp only
  split
  · rfl
  · split <;> rw [look_putAll, if_neg hv]

end Codes

/-! ## Requests served by the stacks -/

/-- Requests that go to the stacks change rows, commands and power-down, and count the neighbour refreshes they bring about. -/
structure Served (s t : State) : Prop where
  rest : t = { s with hbm := { s.hbm with
    rows := t.hbm.rows, retry := t.hbm.retry, openRows := t.hbm.openRows, powerDown := t.hbm.powerDown }, regs := t.regs }
  regs : RegsKept [Reg.HBM_RD_COUNT] s t

theorem served_refl (s : State) : Served s s := ⟨rfl, fun _ _ => rfl⟩

theorem Served.trans {s t u : State} (h : Served s t) (h' : Served t u) : Served s u := by
  refine ⟨?_, h.regs.trans h'.regs⟩
  have hu := h'.rest
  generalize u.hbm.rows = rows, u.hbm.retry = retry, u.hbm.openRows = openRows, u.hbm.powerDown = down, u.regs = regs at hu
  rw [hu, h.rest]

theorem served_issueCmd (pc : Nat) (c : DramCmd) (s : State) : Served s (issueCmd pc c s) := ⟨rfl, fun _ _ => rfl⟩

theorem served_precharge (pc bank : Nat) (s : State) : Served s (precharge pc bank s) := ⟨rfl, fun _ _ => rfl⟩

theorem served_activateRow (pc bank row : Nat) (s : State) : Served s (activateRow pc bank row s) := ⟨rfl, fun _ _ => rfl⟩

theorem served_leavePowerDown (pc : Nat) (s : State) : Served s (leavePowerDown pc s) := ⟨rfl, fun _ _ => rfl⟩

theorem served_foldl {β : Type} {g : State → β → State} (h : ∀ x s, Served s (g s x)) (l : List β) (s : State) : Served s (l.foldl g s) := by
  induction l generalizing s with
  | nil => exact served_refl s
  | cons x l ih => exact (h x s).trans (ih _)

theorem served_refreshNeighbours (pc bank row : Nat) (s : State) : Served s (refreshNeighbours pc bank row s) := by
  have hdone : Served s (neighboursDone pc bank row s) := ((served_leavePowerDown pc s).trans (served_precharge pc bank _)).trans
    (served_foldl (fun r u => (served_activateRow pc bank r u).trans (served_precharge pc bank _)) _ _)
  have hzero : Served (neighboursDone pc bank row s) (zeroRow pc bank row (issueCmd pc (.rfm pc bank) (neighboursDone pc bank row s))) :=
    ⟨rfl, fun _ _ => rfl⟩
  rw [refreshNeighbours_eq]
  exact (hdone.trans hzero).trans ⟨rfl, regsKept_fput (f := Reg.HBM_RD_COUNT_COUNT) (List.mem_singleton_self _) _ _⟩

theorem served_refreshDueLoop (pc bank n : Nat) (s : State) : Served s (refreshDueLoop pc bank n s) := by
  induction n generalizing s with
  | zero => exact served_refl s
  | succ n ih =>
    unfold refreshDueLoop
    split
    · exact (served_refreshNeighbours pc bank _ s).trans (ih _)
    · exact served_refl s

theorem served_openRow (pc bank row : Nat) (s : State) : Served s (openRow pc bank row s) := by
  unfold openRow
  split
  · exact served_refl s
  · refine Served.trans (t := refreshDue pc bank s) (served_refreshDueLoop pc bank _ s) ?_
    have hopen : ∀ u : State, Served u (activateRow pc bank row u) := served_activateRow pc bank row
    dsimp only
    split
    · exact ((served_precharge pc bank _).trans (hopen _)).trans ⟨rfl, fun _ _ => rfl⟩
    · exact (hopen _).trans ⟨rfl, fun _ _ => rfl⟩

theorem served_serveUnit (write : Bool) (u : Nat) (s : State) : Served s (serveUnit write u s) :=
  (((served_leavePowerDown _ s).trans (served_openRow _ _ _ _)).trans (served_issueCmd _ _ _)).trans (served_issueCmd _ _ _)

/-! ## The scrubber's log -/

/-- A record writes ECC_LOG_IDX and the registers of the log. -/
theorem rget_eccLog (dram : Bool) (addr result : Nat) (scrub : Bool) (wher port : Nat) (s : State) {k : Nat} (hk : k < 0xC0040)
    (hidx : k ≠ Reg.ECC_LOG_IDX) : rget (eccLog dram addr result scrub wher port s) k = rget s k := by
  have hlo : ∀ n, k ≠ Reg.ECC_LOG_ADDR_LO n := fun n => by simp only [Reg.ECC_LOG_ADDR_LO]; omega
  have hhi : ∀ n, k ≠ Reg.ECC_LOG_ADDR_HI n := fun n => by simp only [Reg.ECC_LOG_ADDR_HI]; omega
  have hinfo : ∀ n, k ≠ Reg.ECC_LOG_INFO n := fun n => by simp only [Reg.ECC_LOG_INFO]; omega
  unfold eccLog
  simp only [rget_fput, hidx, hlo, hhi, hinfo, if_false]

/-- The counts of corrections and of failures. -/
def eccCounts (s : State) : Nat × Nat := (fget s Reg.ECC_CE_COUNT_COUNT, fget s Reg.ECC_UE_COUNT_COUNT)

theorem eccCounts_eccLog (dram : Bool) (addr result : Nat) (scrub : Bool) (wher port : Nat) (s : State) :
    eccCounts (eccLog dram addr result scrub wher port s) = eccCounts s := by
  unfold eccCounts
  rw [fget_congr (rget_eccLog dram addr result scrub wher port s (by decide) (by decide)),
    fget_congr (rget_eccLog dram addr result scrub wher port s (by decide) (by decide))]

theorem countCorrection_eq (s : State) : ∃ b second n raised, countCorrection s = raiseIf b Ev.ECC_CE_HIGH (fcount Reg.ECC_CE_COUNT_COUNT 1
    { s with ecc := { s.ecc with ceSecond := second, ceInSecond := n, ceRaised := raised } }) := ⟨_, _, _, _, rfl⟩

theorem eccCounts_countCorrection (s : State) : eccCounts (countCorrection s) = (min (2 ^ 32 - 1) ((eccCounts s).1 + 1), (eccCounts s).2) := by
  have hregs : (countCorrection s).regs = (fcount Reg.ECC_CE_COUNT_COUNT 1 s).regs := by
    obtain ⟨b, second, n, raised, heq⟩ := countCorrection_eq s
    rw [heq]
    cases b <;> rfl
  unfold eccCounts
  rw [fget_regs hregs, fget_regs hregs, fget_fcount rfl]
  exact congrArg (Prod.mk _) (fget_fput_other _ _ _ _ (by decide))

theorem eccCounts_scrubFailed (s : State) : eccCounts (raise Ev.ECC_SCRUB_UE (fcount Reg.ECC_UE_COUNT_COUNT 1 s)) =
    ((eccCounts s).1, min (2 ^ 32 - 1) ((eccCounts s).2 + 1)) := by
  have hregs : (raise Ev.ECC_SCRUB_UE (fcount Reg.ECC_UE_COUNT_COUNT 1 s)).regs = (fcount Reg.ECC_UE_COUNT_COUNT 1 s).regs := rfl
  unfold eccCounts
  rw [fget_regs hregs, fget_regs hregs, fget_fcount rfl]
  exact congrArg (·, _) (fget_fput_other _ _ _ _ (by decide))

/-- What the scrubber leaves beside the codes: registers, events, the controller's state and free values. -/
structure ScrubKept (s t : State) : Prop where
  rest : t = { s with hbm := t.hbm, regs := t.regs, ev := t.ev, ecc := t.ecc, free := t.free }
  order : rget t Reg.HBM_MAP_CFG = rget s Reg.HBM_MAP_CFG

theorem ScrubKept.trans {s t u : State} (h : ScrubKept s t) (h' : ScrubKept t u) : ScrubKept s u := by
  refine ⟨?_, h'.order.trans h.order⟩
  have hu := h'.rest
  generalize u.hbm = hbm, u.regs = regs, u.ev = ev, u.ecc = ecc, u.free = free at hu
  rw [hu, h.rest]

theorem scrubKept_refl (s : State) : ScrubKept s s := ⟨rfl, rfl⟩

theorem Served.scrubKept {s t : State} (h : Served s t) : ScrubKept s t := by
  refine ⟨?_, h.regs _ (by decide)⟩
  have hrest := h.rest
  generalize hhbm : t.hbm = hbm
  generalize t.regs = regs at hrest ⊢
  rw [hhbm] at hrest
  rw [hrest] at hhbm ⊢
  rw [← hhbm]

theorem Served.same {s t : State} (h : Served s t) : eccCounts t = eccCounts s ∧ t.ev = s.ev ∧ t.ecc = s.ecc := by
  refine ⟨?_, by rw [h.rest], by rw [h.rest]⟩
  unfold eccCounts
  rw [fget_congr (h.regs _ (by decide)), fget_congr (h.regs _ (by decide))]

/-- Beside the registers the state is as it was. -/
def RegsMoved (s t : State) : Prop := t = { s with regs := t.regs }

theorem RegsMoved.trans {s t u : State} (h : RegsMoved s t) (h' : RegsMoved t u) : RegsMoved s u := by
  unfold RegsMoved at *
  generalize u.regs = regs at h'
  rw [h', h]

theorem regsMoved_fput (f : Field) (v : Nat) (s : State) : RegsMoved s (fput f v s) := rfl

theorem regsMoved_eccLog (dram : Bool) (addr result : Nat) (scrub : Bool) (wher port : Nat) (s : State) :
    RegsMoved s (eccLog dram addr result scrub wher port s) :=
  (((((((regsMoved_fput _ _ _).trans (regsMoved_fput _ _ _)).trans (regsMoved_fput _ _ _)).trans (regsMoved_fput _ _ _)).trans
    (regsMoved_fput _ _ _)).trans (regsMoved_fput _ _ _)).trans (regsMoved_fput _ _ _)).trans (regsMoved_fput _ _ _)

theorem RegsMoved.same {s t : State} (h : RegsMoved s t) : t.ecc = s.ecc ∧ t.ev = s.ev := by
  unfold RegsMoved at h
  generalize t.regs = regs at h
  rw [h]
  exact ⟨rfl, rfl⟩

theorem RegsMoved.scrubKept {s t : State} (h : RegsMoved s t) (horder : rget t Reg.HBM_MAP_CFG = rget s Reg.HBM_MAP_CFG) : ScrubKept s t := by
  refine ⟨?_, horder⟩
  unfold RegsMoved at h
  generalize t.regs = regs at h
  rw [h]

theorem scrubKept_eccLog (dram : Bool) (addr result : Nat) (scrub : Bool) (wher port : Nat) (s : State) :
    ScrubKept s (eccLog dram addr result scrub wher port s) :=
  (regsMoved_eccLog dram addr result scrub wher port s).scrubKept (rget_eccLog dram addr result scrub wher port s (by decide) (by decide))

theorem accessUnit_leaves (write : Bool) (u : Nat) (s : State) : ScrubKept s (accessUnit write u s) ∧
    eccCounts (accessUnit write u s) = eccCounts s ∧ (accessUnit write u s).ev = s.ev ∧ (accessUnit write u s).ecc = s.ecc := by
  unfold accessUnit
  split
  · exact ⟨⟨rfl, rfl⟩, rfl, rfl, rfl⟩
  · exact ⟨(served_serveUnit write u s).scrubKept, (served_serveUnit write u s).same⟩

theorem scrubKept_countCorrection (s : State) : ScrubKept s (countCorrection s) ∧ (countCorrection s).ecc.dram = s.ecc.dram ∧
    (countCorrection s).ecc.sram = s.ecc.sram ∧ EventsKept [Ev.ECC_CE_HIGH] s (countCorrection s) := by
  obtain ⟨b, second, n, raised, heq⟩ := countCorrection_eq s
  have hput : rget (fcount Reg.ECC_CE_COUNT_COUNT 1 { s with ecc := { s.ecc with ceSecond := second, ceInSecond := n, ceRaised := raised } })
      Reg.HBM_MAP_CFG = rget s Reg.HBM_MAP_CFG := (rget_fput _ _ _ _).trans (if_neg (by decide))
  have hevents := eventsKept_raiseIf (es := [Ev.ECC_CE_HIGH]) (List.mem_singleton_self _) b (fcount Reg.ECC_CE_COUNT_COUNT 1
    { s with ecc := { s.ecc with ceSecond := second, ceInSecond := n, ceRaised := raised } })
  rw [heq]
  cases b <;> exact ⟨⟨rfl, hput⟩, rfl, rfl, hevents⟩

/-! ## What the scrubber finds -/

section
variable (c : Codes) (dram : Bool) (u wher : Nat) (addr : Nat → Nat) (s : State)

theorem scrubFinds_keeps : ScrubKept s (scrubFinds c dram u wher addr s) ∧ (scrubFinds c dram u wher addr s).ecc.dram = s.ecc.dram ∧
    (scrubFinds c dram u wher addr s).ecc.sram = s.ecc.sram := by
  have hfold : ∀ (l : List Nat) (v : State), ScrubKept v (l.foldl (fun s w => countCorrection (eccLog dram (addr w) 1 true wher Port.scrub s)) v) ∧
      (l.foldl (fun s w => countCorrection (eccLog dram (addr w) 1 true wher Port.scrub s)) v).ecc.dram = v.ecc.dram ∧
      (l.foldl (fun s w => countCorrection (eccLog dram (addr w) 1 true wher Port.scrub s)) v).ecc.sram = v.ecc.sram := by
    intro l
    induction l with
    | nil => exact fun v => ⟨scrubKept_refl v, rfl, rfl⟩
    | cons w l ih =>
      intro v
      obtain ⟨hkept, hdram, hsram⟩ := ih (countCorrection (eccLog dram (addr w) 1 true wher Port.scrub v))
      obtain ⟨hone, hdram', hsram', -⟩ := scrubKept_countCorrection (eccLog dram (addr w) 1 true wher Port.scrub v)
      have hecc := (regsMoved_eccLog dram (addr w) 1 true wher Port.scrub v).same.1
      exact ⟨((scrubKept_eccLog _ _ _ _ _ _ v).trans hone).trans hkept, (hdram.trans hdram').trans (congrArg Ecc.dram hecc),
        (hsram.trans hsram').trans (congrArg Ecc.sram hecc)⟩
  unfold scrubFinds
  split
  · exact ⟨scrubKept_refl s, rfl, rfl⟩
  · rename_i w _ _
    have hlog := scrubKept_eccLog dram (addr w) 2 true wher Port.scrub s
    have hecc := (regsMoved_eccLog dram (addr w) 2 true wher Port.scrub s).same.1
    generalize eccLog dram (addr w) 2 true wher Port.scrub s = v at hlog hecc
    exact ⟨hlog.trans ⟨rfl, (rget_fput _ _ _ _).trans (if_neg (by decide))⟩, congrArg Ecc.dram hecc, congrArg Ecc.sram hecc⟩
  · exact hfold _ s

variable {c u}

theorem scrubFinds_of_poisoned (h : ∃ v ∈ unitWords u, c.look v = .poisoned) : scrubFinds c dram u wher addr s = s := by
  obtain ⟨w, hw⟩ := Option.isSome_iff_exists.mp (Codes.first_isSome.mpr h)
  unfold scrubFinds
  rw [hw]

theorem scrubFinds_of_clean (h : ∀ v ∈ unitWords u, c.look v = .clean) : scrubFinds c dram u wher addr s = s := by
  have hnone : ∀ x, x ≠ .clean → c.first u x = none := fun x hx => Codes.first_eq_none.mpr fun v hv => by rw [h v hv]; exact Ne.symm hx
  have hcorr : (unitWords u).filter (fun w => c.look w == .correctable) = [] := List.filter_eq_nil_iff.mpr fun v hv => by rw [h v hv]; decide
  unfold scrubFinds
  rw [hnone _ (by decide), hnone _ (by decide), hcorr]
  rfl

theorem scrubFinds_of_uncorrectable (hnone : ∀ v ∈ unitWords u, c.look v ≠ .poisoned) (h : ∃ v ∈ unitWords u, c.look v = .uncorrectable) :
    eccCounts (scrubFinds c dram u wher addr s) = ((eccCounts s).1, min (2 ^ 32 - 1) ((eccCounts s).2 + 1)) ∧
      (scrubFinds c dram u wher addr s).ev = (raise Ev.ECC_SCRUB_UE s).ev := by
  obtain ⟨w, hw⟩ := Option.isSome_iff_exists.mp (Codes.first_isSome.mpr h)
  unfold scrubFinds
  rw [Codes.first_eq_none.mpr hnone, hw]
  dsimp only
  have hev := (regsMoved_eccLog dram (addr w) 2 true wher Port.scrub s).same.2
  have hcounts := eccCounts_eccLog dram (addr w) 2 true wher Port.scrub s
  generalize eccLog dram (addr w) 2 true wher Port.scrub s = v at hev hcounts
  rw [eccCounts_scrubFailed, hcounts, raise, raise]
  exact ⟨rfl, by rw [← hev]; rfl⟩

theorem scrubFinds_of_correctable {w : Nat} (hnone : ∀ v ∈ unitWords u, c.look v ≠ .poisoned) (hnone' : ∀ v ∈ unitWords u, c.look v ≠ .uncorrectable)
    (hone : (unitWords u).filter (fun w => c.look w == .correctable) = [w]) :
    eccCounts (scrubFinds c dram u wher addr s) = (min (2 ^ 32 - 1) ((eccCounts s).1 + 1), (eccCounts s).2) ∧
      EventsKept [Ev.ECC_CE_HIGH] s (scrubFinds c dram u wher addr s) := by
  unfold scrubFinds
  rw [Codes.first_eq_none.mpr hnone, Codes.first_eq_none.mpr hnone', hone]
  dsimp only [List.foldl]
  rw [eccCounts_countCorrection, eccCounts_eccLog]
  exact ⟨rfl, (eventsKept_of_ev (regsMoved_eccLog dram (addr w) 1 true wher Port.scrub s).same.2).trans (scrubKept_countCorrection _).2.2.2⟩

end

/-! ## A unit is scrubbed -/

/-- From `s` the scrubber comes to `t`: it reads the unit, reports what codes `c` show, and ends. -/
def Scrubs (c : Codes) (u : Nat) (s t : State) : Prop :=
  ∃ dram wher addr v, (ScrubKept s v ∧ eccCounts v = eccCounts s ∧ v.ev = s.ev) ∧
    ScrubKept (scrubFinds c dram u wher addr v) t ∧ eccCounts t = eccCounts (scrubFinds c dram u wher addr v) ∧
    t.ev = (scrubFinds c dram u wher addr v).ev

section
variable {c : Codes} {u : Nat} {s t : State}

theorem Scrubs.kept (h : Scrubs c u s t) : ScrubKept s t := by
  obtain ⟨dram, wher, addr, v, ⟨hv, -, -⟩, ht, -, -⟩ := h
  exact (hv.trans (scrubFinds_keeps c dram u wher addr v).1).trans ht

theorem ScrubKept.stands (h : ScrubKept s t) : t.flow = s.flow ∧ t.job = s.job ∧ t.cache = s.cache ∧ t.ras = s.ras ∧ DramKept s t := by
  have hrest := h.rest
  generalize t.hbm = hbm, t.regs = regs, t.ev = ev, t.ecc = ecc, t.free = free at hrest
  rw [hrest]
  exact ⟨rfl, rfl, rfl, rfl, fun _ => rfl⟩

theorem Scrubs.silent (h : Scrubs c u s t) (hquiet : (∃ v ∈ unitWords u, c.look v = .poisoned) ∨ ∀ v ∈ unitWords u, c.look v = .clean) :
    eccCounts t = eccCounts s ∧ t.ev = s.ev := by
  obtain ⟨dram, wher, addr, v, ⟨-, hcounts, hev⟩, -, hcounts', hev'⟩ := h
  have hfinds : scrubFinds c dram u wher addr v = v := hquiet.elim (scrubFinds_of_poisoned dram wher addr v) (scrubFinds_of_clean dram wher addr v)
  rw [hfinds] at hcounts' hev'
  exact ⟨hcounts'.trans hcounts, hev'.trans hev⟩

theorem Scrubs.failed (h : Scrubs c u s t) (hnone : ∀ v ∈ unitWords u, c.look v ≠ .poisoned) (hsome : ∃ v ∈ unitWords u, c.look v = .uncorrectable) :
    eccCounts t = ((eccCounts s).1, min (2 ^ 32 - 1) ((eccCounts s).2 + 1)) ∧ t.ev.bits.getLsbD Ev.ECC_SCRUB_UE = true ∧
      EventsKept [Ev.ECC_SCRUB_UE] s t := by
  obtain ⟨dram, wher, addr, v, ⟨-, hcounts, hev⟩, -, hcounts', hev'⟩ := h
  obtain ⟨hone, hraised⟩ := scrubFinds_of_uncorrectable dram wher addr v hnone hsome
  have hev'' : t.ev = (raise Ev.ECC_SCRUB_UE v).ev := hev'.trans hraised
  refine ⟨by rw [hcounts', hone, hcounts], ?_, ?_⟩
  · rw [hev'']
    exact raise_raises (by decide) v
  · exact (eventsKept_of_ev hev).trans ((eventsKept_raise (List.mem_singleton_self _) v).trans (eventsKept_of_ev hev''))

theorem Scrubs.corrected {w : Nat} (h : Scrubs c u s t) (hnone : ∀ v ∈ unitWords u, c.look v ≠ .poisoned)
    (hnone' : ∀ v ∈ unitWords u, c.look v ≠ .uncorrectable) (hone : (unitWords u).filter (fun w => c.look w == .correctable) = [w]) :
    eccCounts t = (min (2 ^ 32 - 1) ((eccCounts s).1 + 1), (eccCounts s).2) ∧ EventsKept [Ev.ECC_CE_HIGH] s t := by
  obtain ⟨dram, wher, addr, v, ⟨-, hcounts, hev⟩, -, hcounts', hev'⟩ := h
  obtain ⟨hcount, hevents⟩ := scrubFinds_of_correctable dram wher addr v hnone hnone' hone
  exact ⟨by rw [hcounts', hcount, hcounts], (eventsKept_of_ev hev).trans (hevents.trans (eventsKept_of_ev hev'))⟩

end

/-! ## A DRAM unit -/

/-- The codes with the error that a unit is found with. -/
def dramFound (s : State) (u : Nat) (r : EccResult) : Codes := s.ecc.dram.worsen (struckWord s u) r

/-- A DRAM unit is read. -/
def scrubRead (u : Nat) (c : Codes) (s : State) : State :=
  accessUnit false u (countUrgent Port.scrub 1 (useFree { s with ecc := { s.ecc with dram := c } }))

/-- A DRAM unit is written back, unless that is dropped or there is nothing to correct. -/
def scrubWrite (u : Nat) (dropped : Bool) (c : Codes) (s : State) : State :=
  if dropped ∨ c.scrub u = c then s
  else
    let s := accessUnit true u { s with ecc := { s.ecc with dram := c.scrub u } }
    if (c.first u .uncorrectable).isSome then noteSource u s else s

theorem scrubDram_eq {u : Nat} {s : State} (hin : u < 536870912) (hvalid : pageInvalid s (u / 64) = false) (hfence : fencedAt s (u * 64) = false)
    (r : EccResult) (dropped : Bool) : scrubDram u r dropped s = scrubWrite u dropped (dramFound s u r)
      (scrubFinds (dramFound s u r) true u (pcnOf (scrubRead u (dramFound s u r) s) (u * 64)) (· * 8) (scrubRead u (dramFound s u r) s)) := by
  unfold scrubDram
  rw [if_neg (by simp [hvalid, hfence]; omega)]
  rfl

theorem countUrgent_leaves (p n : Nat) (s : State) : countUrgent p n s = { s with regs := (countUrgent p n s).regs, free := s.free + 1 } ∧
    RegsKept [Reg.HBM_PORT_URG3 p] s (countUrgent p n s) :=
  ⟨rfl, regsKept_fput (f := Reg.HBM_PORT_URG3_COUNT p) (List.mem_singleton_self _) _ s⟩

theorem scrubRead_leaves (u : Nat) (c : Codes) (s : State) :
    (ScrubKept s (scrubRead u c s) ∧ eccCounts (scrubRead u c s) = eccCounts s ∧ (scrubRead u c s).ev = s.ev) ∧
      (scrubRead u c s).ecc = { s.ecc with dram := c } := by
  let v := useFree { s with ecc := { s.ecc with dram := c } }
  obtain ⟨hrest, hregs⟩ := countUrgent_leaves Port.scrub 1 v
  obtain ⟨haccess, hcounts, hev, hecc⟩ := accessUnit_leaves false u (countUrgent Port.scrub 1 v)
  have hread : scrubRead u c s = accessUnit false u (countUrgent Port.scrub 1 v) := rfl
  have hcounts' : eccCounts (countUrgent Port.scrub 1 v) = eccCounts v := by
    unfold eccCounts
    rw [fget_congr (hregs _ (by decide)), fget_congr (hregs _ (by decide))]
  have hkept : ScrubKept v (countUrgent Port.scrub 1 v) := by
    refine ⟨?_, hregs _ (by decide)⟩
    generalize countUrgent Port.scrub 1 v = x at hrest
    generalize x.regs = regs at hrest
    rw [hrest]
  rw [hread]
  refine ⟨⟨(ScrubKept.trans (s := s) (t := v) ⟨rfl, rfl⟩ hkept).trans haccess, hcounts.trans hcounts', ?_⟩, ?_⟩
  · rw [hev, hrest]
    rfl
  · rw [hecc, hrest]
    rfl

/-- The band that ECC_SRC names. -/
def sourceNoted (b : Band) (e : StripeEntry) (s : State) : State :=
  rset64 Reg.ECC_SRC_SEQ_LO Reg.ECC_SRC_SEQ_HI (b.seq.getD 0)
    (fput Reg.ECC_SRC_BAND_BAND b.band (fput Reg.ECC_SRC_LS_STRIPE e.stripe (fput Reg.ECC_SRC_LS_LAYER e.layer s)))

theorem noteSource_cases (u : Nat) (s : State) : noteSource u s = s ∨ ∃ b e, noteSource u s = sourceNoted b e s := by
  unfold noteSource
  dsimp only
  split
  · exact .inl rfl
  split
  · exact .inl rfl
  split
  · exact .inl rfl
  · exact .inr ⟨_, _, rfl⟩

theorem noteSource_of_band {u : Nat} {s : State} {b : Band} {e : StripeEntry} (hlo : (region Rgn.band).lo / 64 ≤ u)
    (hhi : u < (region Rgn.band).lo / 64 + 256 * 133120)
    (hfind : (s.ras.ring ++ s.ras.released).find? (fun b => b.slot == (u - (region Rgn.band).lo / 64) / 133120) = some b)
    (hat : stripeAt s b.stripeIdx = some e) : noteSource u s = sourceNoted b e s := by
  unfold noteSource
  dsimp only
  rw [if_neg (by omega), hfind]
  dsimp only
  rw [hat]
  rfl

theorem sourceNoted_leaves (b : Band) (e : StripeEntry) (s : State) : RegsMoved s (sourceNoted b e s) ∧
    RegsKept [Reg.ECC_SRC_LS, Reg.ECC_SRC_BAND, Reg.ECC_SRC_SEQ_LO, Reg.ECC_SRC_SEQ_HI] s (sourceNoted b e s) :=
  ⟨rfl, (((regsKept_fput (f := Reg.ECC_SRC_LS_LAYER) (by decide) _ s).trans (regsKept_fput (f := Reg.ECC_SRC_LS_STRIPE) (by decide) _ _)).trans
    (regsKept_fput (f := Reg.ECC_SRC_BAND_BAND) (by decide) _ _)).trans (regsKept_rset64 (by decide) (by decide) _ _)⟩

theorem noteSource_leaves (u : Nat) (s : State) : RegsMoved s (noteSource u s) ∧
    RegsKept [Reg.ECC_SRC_LS, Reg.ECC_SRC_BAND, Reg.ECC_SRC_SEQ_LO, Reg.ECC_SRC_SEQ_HI] s (noteSource u s) := by
  obtain h | ⟨b, e, h⟩ := noteSource_cases u s
  · rw [h]
    exact ⟨rfl, fun _ _ => rfl⟩
  · rw [h]
    exact sourceNoted_leaves b e s

theorem sourceNoted_shows (b : Band) (e : StripeEntry) (s : State) :
    fget (sourceNoted b e s) Reg.ECC_SRC_LS_STRIPE = e.stripe % 2 ^ 16 ∧ fget (sourceNoted b e s) Reg.ECC_SRC_LS_LAYER = e.layer % 2 ^ 16 ∧
      fget (sourceNoted b e s) Reg.ECC_SRC_BAND_BAND = b.band % 2 ^ 20 ∧
      rget64 (sourceNoted b e s) Reg.ECC_SRC_SEQ_LO Reg.ECC_SRC_SEQ_HI = b.seq.getD 0 % 2 ^ 64 := by
  have hseq := regsKept_rset64 (ks := [Reg.ECC_SRC_SEQ_LO, Reg.ECC_SRC_SEQ_HI]) (lo := Reg.ECC_SRC_SEQ_LO) (hi := Reg.ECC_SRC_SEQ_HI) (by decide) (by decide)
    (b.seq.getD 0) (fput Reg.ECC_SRC_BAND_BAND b.band (fput Reg.ECC_SRC_LS_STRIPE e.stripe (fput Reg.ECC_SRC_LS_LAYER e.layer s)))
  unfold sourceNoted
  refine ⟨?_, ?_, ?_, rget64_rset64 _ _ _ _ (by decide)⟩
  · rw [fget_congr (f := Reg.ECC_SRC_LS_STRIPE) (hseq _ (by decide)), fget_fput_other _ _ _ _ (by decide), fget_fput_same _ _ rfl]
    rfl
  · rw [fget_congr (f := Reg.ECC_SRC_LS_LAYER) (hseq _ (by decide)), fget_fput_other _ _ _ _ (by decide), fget_fput_beside _ _ _ rfl _ (by decide) (by decide), fget_fput_same _ _ rfl]
    rfl
  · rw [fget_congr (f := Reg.ECC_SRC_BAND_BAND) (hseq _ (by decide)), fget_fput_same _ _ rfl]
    rfl

theorem scrubWrite_leaves (u : Nat) (dropped : Bool) {c : Codes} {s : State} (hc : s.ecc.dram = c) :
    (ScrubKept s (scrubWrite u dropped c s) ∧ eccCounts (scrubWrite u dropped c s) = eccCounts s ∧ (scrubWrite u dropped c s).ev = s.ev) ∧
      (scrubWrite u dropped c s).ecc = { s.ecc with dram := if dropped then c else c.scrub u } := by
  unfold scrubWrite
  split
  case isTrue h =>
    refine ⟨⟨scrubKept_refl s, rfl, rfl⟩, ?_⟩
    have hsame : (if dropped then c else c.scrub u) = c := by
      split
      · rfl
      · exact h.resolve_left ‹_›
    rw [hsame, ← hc]
  case isFalse h =>
    rw [not_or] at h
    rw [if_neg h.1]
    obtain ⟨haccess, hcounts, hev, hecc⟩ := accessUnit_leaves true u { s with ecc := { s.ecc with dram := c.scrub u } }
    have hkept : ScrubKept s (accessUnit true u { s with ecc := { s.ecc with dram := c.scrub u } }) :=
      ScrubKept.trans (t := { s with ecc := { s.ecc with dram := c.scrub u } }) ⟨rfl, rfl⟩ haccess
    dsimp only
    generalize accessUnit true u { s with ecc := { s.ecc with dram := c.scrub u } } = v at hkept hcounts hev hecc
    split
    · obtain ⟨hmoved, hregs⟩ := noteSource_leaves u v
      refine ⟨⟨hkept.trans (hmoved.scrubKept (hregs _ (by decide))), ?_, hmoved.same.2.trans hev⟩, hmoved.same.1.trans hecc⟩
      refine Eq.trans ?_ hcounts
      unfold eccCounts
      rw [fget_congr (hregs _ (by decide)), fget_congr (hregs _ (by decide))]
    · exact ⟨⟨hkept, hcounts, hev⟩, hecc⟩

section
variable {u : Nat} {s : State} (hin : u < 536870912) (hvalid : pageInvalid s (u / 64) = false) (hfence : fencedAt s (u * 64) = false)
  (r : EccResult) (dropped : Bool)
include hin hvalid hfence

theorem scrubDram_scrubs : Scrubs (dramFound s u r) u s (scrubDram u r dropped s) ∧
    (scrubDram u r dropped s).ecc.dram = (if dropped then dramFound s u r else (dramFound s u r).scrub u) ∧
    (scrubDram u r dropped s).ecc.sram = s.ecc.sram := by
  obtain ⟨hread, hecc⟩ := scrubRead_leaves u (dramFound s u r) s
  rw [scrubDram_eq hin hvalid hfence]
  generalize scrubRead u (dramFound s u r) s = v at hread hecc
  obtain ⟨hkept, hdram, hsram⟩ := scrubFinds_keeps (dramFound s u r) true u (pcnOf v (u * 64)) (· * 8) v
  obtain ⟨hwrite, hecc'⟩ := scrubWrite_leaves u dropped (c := dramFound s u r)
    (s := scrubFinds (dramFound s u r) true u (pcnOf v (u * 64)) (· * 8) v) (by rw [hdram, hecc])
  refine ⟨⟨true, _, _, v, hread, hwrite⟩, by rw [hecc'], ?_⟩
  rw [hecc']
  exact hsram.trans (by rw [hecc])

end

/-! ## An SRAM unit -/

/-- The codes with the error that a unit is found with. -/
def sramFound (s : State) (u : Nat) (r : EccResult) : Codes := s.ecc.sram.worsen (struckWord s u) r

/-- An SRAM unit is read. -/
def sramRead (c : Codes) (s : State) : State := useFree { s with ecc := { s.ecc with sram := c } }

theorem scrubSram_eq {u : Nat} {s : State} (hin : u < 96 * 32768) (hvalid : sramUnitInvalid s u = false) (r : EccResult) (dropped : Bool) :
    scrubSram u r dropped s =
      (let f := scrubFinds (sramFound s u r) false u (u / 32768) (fun w => w % 262144 * 8) (sramRead (sramFound s u r) s)
       if dropped then f else { f with ecc := { f.ecc with sram := (sramFound s u r).scrub u } }) := by
  unfold scrubSram
  rw [if_neg (by simp [hvalid]; omega)]
  rfl

theorem scrubSram_scrubs {u : Nat} {s : State} (hin : u < 96 * 32768) (hvalid : sramUnitInvalid s u = false) (r : EccResult) (dropped : Bool) :
    Scrubs (sramFound s u r) u s (scrubSram u r dropped s) ∧
      (scrubSram u r dropped s).ecc.sram = (if dropped then sramFound s u r else (sramFound s u r).scrub u) ∧
      (scrubSram u r dropped s).ecc.dram = s.ecc.dram := by
  have hread : ScrubKept s (sramRead (sramFound s u r) s) ∧ eccCounts (sramRead (sramFound s u r) s) = eccCounts s ∧
      (sramRead (sramFound s u r) s).ev = s.ev := ⟨⟨rfl, rfl⟩, rfl, rfl⟩
  have hecc : (sramRead (sramFound s u r) s).ecc = { s.ecc with sram := sramFound s u r } := rfl
  rw [scrubSram_eq hin hvalid]
  generalize sramRead (sramFound s u r) s = v at hread hecc
  obtain ⟨hkept, hdram, hsram⟩ := scrubFinds_keeps (sramFound s u r) false u (u / 32768) (fun w => w % 262144 * 8) v
  dsimp only
  cases dropped with
  | true => exact ⟨⟨false, _, _, v, hread, scrubKept_refl _, rfl, rfl⟩, hsram.trans (by rw [hecc]; rfl), hdram.trans (by rw [hecc])⟩
  | false => exact ⟨⟨false, _, _, v, hread, ⟨rfl, rfl⟩, rfl, rfl⟩, rfl, hdram.trans (by rw [hecc])⟩

/-! ## The codes of a unit after the scrubber -/

section
variable {c : Codes} {u w : Nat} (hclean : ∀ v ∈ unitWords u, c.look v = .clean) (hw : w ∈ unitWords u)
include hclean hw

theorem struck_ne {r x : EccResult} (hr : r ≠ x) (hx : x ≠ .clean) : ∀ v ∈ unitWords u, (c.worsen w r).look v ≠ x := fun v hv => by
  rw [Codes.look_worsen_of_clean hclean hw hv]
  split
  · exact hr
  · exact Ne.symm hx

theorem struck_look (r : EccResult) : (c.worsen w r).look w = r := by
  rw [Codes.look_worsen_of_clean hclean hw hw, if_pos rfl]

theorem struck_scrubbed {r : EccResult} (hr : r = .clean ∨ r = .correctable) : ∀ v ∈ unitWords u, ((c.worsen w r).scrub u).look v = .clean := fun v hv => by
  have hne : r ≠ .poisoned ∧ r ≠ .uncorrectable := by rcases hr with rfl | rfl <;> decide
  rw [Codes.scrub_of_readable (struck_ne hclean hw hne.1 (by decide)) (struck_ne hclean hw hne.2 (by decide)), Codes.look_putAll, if_pos hv]

theorem struck_poisoned : ∀ v ∈ unitWords u, ((c.worsen w .uncorrectable).scrub u).look v = .poisoned := fun v hv => by
  rw [Codes.scrub_of_uncorrectable (struck_ne hclean hw (by decide) (by decide)) ⟨w, hw, struck_look hclean hw _⟩, Codes.look_putAll, if_pos hv]

end

theorem look_scrubbed_other {c : Codes} {u w : Nat} (hw : w ∈ unitWords u) (r : EccResult) (dropped : Bool) {v : Nat} (hv : v / 8 ≠ u) :
    (if dropped then c.worsen w r else (c.worsen w r).scrub u).look v = c.look v := by
  have hnot : v ∉ unitWords u := fun h => hv (mem_unitWords.mp h)
  have hne : v ≠ w := fun h => hnot (h ▸ hw)
  have hfound : (c.worsen w r).look v = c.look v := by rw [Codes.look_worsen, if_neg fun h => hne h.1]
  split
  · exact hfound
  · rw [Codes.look_scrub_other hnot, hfound]

/-- The outcomes that O53 asks of a unit of clean words: `looks` is the codes after the step, `w` the word struck. -/
structure CleanScrubbed (u w : Nat) (looks : Codes) (s t : State) (r : EccResult) (dropped : Bool) : Prop where
  kept : t.flow = s.flow ∧ t.job = s.job ∧ t.cache = s.cache ∧ t.ras = s.ras ∧ DramKept s t
  clean : r = .clean → (∀ v ∈ unitWords u, looks.look v = .clean) ∧ eccCounts t = eccCounts s ∧ t.ev = s.ev
  correctable : r = .correctable → (dropped = false → ∀ v ∈ unitWords u, looks.look v = .clean) ∧ (dropped = true → looks.look w = .correctable) ∧
    eccCounts t = (min (2 ^ 32 - 1) ((eccCounts s).1 + 1), (eccCounts s).2) ∧ EventsKept [Ev.ECC_CE_HIGH] s t
  uncorrectable : r = .uncorrectable → (dropped = false → ∀ v ∈ unitWords u, looks.look v = .poisoned) ∧
    (dropped = true → looks.look w = .uncorrectable) ∧ eccCounts t = ((eccCounts s).1, min (2 ^ 32 - 1) ((eccCounts s).2 + 1)) ∧
    t.ev.bits.getLsbD Ev.ECC_SCRUB_UE = true ∧ EventsKept [Ev.ECC_SCRUB_UE] s t
  poisoned : r = .poisoned → looks.look w = .poisoned ∧ eccCounts t = eccCounts s ∧ t.ev = s.ev

theorem cleanScrubbed {c : Codes} {u w : Nat} {s t : State} {looks : Codes} {r : EccResult} {dropped : Bool}
    (hclean : ∀ v ∈ unitWords u, c.look v = .clean) (hw : w ∈ unitWords u) (h : Scrubs (c.worsen w r) u s t)
    (hlooks : looks = if dropped then c.worsen w r else (c.worsen w r).scrub u) : CleanScrubbed u w looks s t r dropped where
  kept := h.kept.stands
  clean hr := by
    subst hr
    have hall : ∀ v ∈ unitWords u, (c.worsen w .clean).look v = .clean := by rwa [Codes.worsen_clean]
    refine ⟨fun v hv => ?_, h.silent (.inr hall)⟩
    rw [hlooks]
    split
    · exact hall v hv
    · exact struck_scrubbed hclean hw (.inl rfl) v hv
  correctable hr := by
    subst hr
    refine ⟨fun hd v hv => ?_, fun hd => ?_, h.corrected (struck_ne hclean hw (by decide) (by decide)) (struck_ne hclean hw (by decide) (by decide))
      (Codes.correctables_worsen hclean hw)⟩
    · rw [hlooks, hd]
      exact struck_scrubbed hclean hw (.inr rfl) v hv
    · rw [hlooks, hd]
      exact struck_look hclean hw _
  uncorrectable hr := by
    subst hr
    refine ⟨fun hd v hv => ?_, fun hd => ?_, h.failed (struck_ne hclean hw (by decide) (by decide)) ⟨w, hw, struck_look hclean hw _⟩⟩
    · rw [hlooks, hd]
      exact struck_poisoned hclean hw v hv
    · rw [hlooks, hd]
      exact struck_look hclean hw _
  poisoned hr := by
    subst hr
    have hsome : ∃ v ∈ unitWords u, (c.worsen w .poisoned).look v = .poisoned := ⟨w, hw, struck_look hclean hw _⟩
    refine ⟨?_, h.silent (.inl hsome)⟩
    rw [hlooks, Codes.scrub_of_poisoned hsome, ite_self]
    exact struck_look hclean hw _

/-- The write-back of a poisoned unit names its source. -/
theorem scrubDram_notes {u : Nat} {s : State} (hin : u < 536870912) (hvalid : pageInvalid s (u / 64) = false) (hfence : fencedAt s (u * 64) = false)
    (hclean : ∀ v ∈ unitWords u, s.ecc.dram.look v = .clean) : ∃ x, ScrubKept s x ∧ scrubDram u .uncorrectable false s = noteSource u x := by
  have hw := struckWord_mem s u
  have hfirst : ((dramFound s u .uncorrectable).first u .uncorrectable).isSome = true :=
    Codes.first_isSome.mpr ⟨_, hw, struck_look hclean hw _⟩
  have hne : (dramFound s u .uncorrectable).scrub u ≠ dramFound s u .uncorrectable := fun h => by
    have hpoisoned := struck_poisoned hclean hw _ hw
    have hlook := struck_look hclean hw .uncorrectable
    unfold dramFound at h
    rw [h, hlook] at hpoisoned
    exact absurd hpoisoned (by decide)
  obtain ⟨⟨hread, -, -⟩, -⟩ := scrubRead_leaves u (dramFound s u .uncorrectable) s
  rw [scrubDram_eq hin hvalid hfence]
  generalize scrubRead u (dramFound s u .uncorrectable) s = v at hread
  obtain ⟨hkept, -, -⟩ := scrubFinds_keeps (dramFound s u .uncorrectable) true u (pcnOf v (u * 64)) (· * 8) v
  generalize scrubFinds (dramFound s u .uncorrectable) true u (pcnOf v (u * 64)) (· * 8) v = f at hkept
  refine ⟨accessUnit true u { f with ecc := { f.ecc with dram := (dramFound s u .uncorrectable).scrub u } }, ?_, ?_⟩
  · exact (hread.trans hkept).trans
      (ScrubKept.trans (t := { f with ecc := { f.ecc with dram := (dramFound s u .uncorrectable).scrub u } }) ⟨rfl, rfl⟩ (accessUnit_leaves _ _ _).1)
  · unfold scrubWrite
    rw [if_neg (by simp [hne]), if_pos hfirst]

theorem scrubUnit_dram {s : State} (hon : scrubOn s = true) (a : Nat) (r : EccResult) (dropped : Bool) :
    exec (.scrubUnit (.dram a) r dropped) s = .next (scrubDram (a / 64) r dropped s) := by
  refine congrArg Host.Outcome.next ?_
  unfold scrubUnit
  rw [hon]
  rfl

theorem scrubUnit_sram {s : State} (hon : scrubOn s = true) (bank off : Nat) (r : EccResult) (dropped : Bool) :
    exec (.scrubUnit (.sram bank off) r dropped) s = .next (scrubSram (bank * 32768 + off / 64) r dropped s) := by
  refine congrArg Host.Outcome.next ?_
  unfold scrubUnit
  rw [hon]
  rfl

theorem scrubUnit_idle {s : State} {addr : MemUnit} (r : EccResult) (dropped : Bool) (h : scrubOn s = false ∨ (∃ a, addr = .dram a ∧
      (536870912 ≤ a / 64 ∨ pageInvalid s (a / 64 / 64) = true ∨ fencedAt s (a / 64 * 64) = true)) ∨
    (∃ bank off, addr = .sram bank off ∧ (96 * 32768 ≤ bank * 32768 + off / 64 ∨ sramUnitInvalid s (bank * 32768 + off / 64) = true))) :
    scrubUnit addr r dropped s = s := by
  unfold scrubUnit
  split
  · rfl
  · rcases h with hoff | ⟨a, rfl, h⟩ | ⟨bank, off, rfl, h⟩
    · simp_all
    · refine if_pos ?_
      rcases h with h | h | h <;> simp [h]
    · refine if_pos ?_
      rcases h with h | h <;> simp [h]

/-! ## Replays -/

/-- The controller once a channel is fenced. -/
def fencedHbm (ch : Nat) (s : State) : Hbm :=
  { s.hbm with
    replaying := s.hbm.replaying.filter (· != ch), reissue := s.hbm.reissue.filter (·.1 != ch), retry := s.hbm.retry.filter (·.1 != ch)
    held := s.hbm.held.filter fun r => pcnOf s (r.2 * 64) / 2 != ch }

section
variable (ch n : Nat) (s : State)

theorem startReplay_starts : (startReplay ch n s).hbm.replaying = ch :: s.hbm.replaying.filter (· != ch) ∧
    assocD [] (startReplay ch n s).hbm.reissue ch = ((assocD [] s.hbm.retry ch).take n).reverse ∧
    assocD [] (startReplay ch n s).hbm.retry ch = (.prechargeAll (2 * ch + 1) :: .prechargeAll (2 * ch) :: assocD [] s.hbm.retry ch).take 32 ∧
    (∀ c, c ≠ ch → assocD [] (startReplay ch n s).hbm.retry c = assocD [] s.hbm.retry c) ∧
    (∀ e ∈ (startReplay ch n s).hbm.openRows, e.1 / 64 ≠ ch) ∧ (startReplay ch n s).hbm.debt = s.hbm.debt ∧
    (startReplay ch n s).hbm.rows = s.hbm.rows ∧ (startReplay ch n s).hbm.fails = s.hbm.fails ∧ (startReplay ch n s).regs = s.regs ∧
    (startReplay ch n s).flow = s.flow ∧ (startReplay ch n s).job = s.job ∧ (startReplay ch n s).ev = s.ev ∧ (startReplay ch n s).dram = s.dram := by
  have hlow : 2 * ch / 2 = ch := by omega
  have hhigh : (2 * ch + 1) / 2 = ch := by omega
  have hretry : ∀ c, assocD [] (startReplay ch n s).hbm.retry c = if c = ch then
      (.prechargeAll (2 * ch + 1) :: .prechargeAll (2 * ch) :: assocD [] s.hbm.retry ch).take 32 else assocD [] s.hbm.retry c := by
    intro c
    have hput : (startReplay ch n s).hbm.retry = assocPut (assocPut s.hbm.retry (2 * ch / 2) ((.prechargeAll (2 * ch) :: assocD [] s.hbm.retry (2 * ch / 2)).take 32))
      ((2 * ch + 1) / 2) ((.prechargeAll (2 * ch + 1) :: assocD [] (assocPut s.hbm.retry (2 * ch / 2)
        ((.prechargeAll (2 * ch) :: assocD [] s.hbm.retry (2 * ch / 2)).take 32)) ((2 * ch + 1) / 2)).take 32) := rfl
    rw [hput, hlow, hhigh, assocD_assocPut, assocD_assocPut, if_pos rfl, assocD_assocPut]
    by_cases hc : c = ch
    · simp [hc, List.take_take]
    · simp [hc]
  refine ⟨rfl, (assocD_assocPut [] _ ch ch _).trans (if_pos rfl), (hretry ch).trans (if_pos rfl), fun c hc => (hretry c).trans (if_neg hc), fun e he => ?_,
    rfl, rfl, rfl, rfl, rfl, rfl, rfl, rfl⟩
  obtain ⟨he, hhighRow⟩ := List.mem_filter.mp he
  obtain ⟨-, hlowRow⟩ := List.mem_filter.mp he
  simp only [bne_iff_ne, ne_eq] at hlowRow hhighRow
  omega

theorem fenceChannel_eq : ∃ v, fenceChannel ch s = requestHold 7 (raise Ev.HBM_FENCE v) ∧
    v = { fputBit Reg.HBM_FENCE_CHANNELS ch true s with hbm := fencedHbm ch s } := by
  have horder : ∀ r : Bool × Nat, pcnOf (fputBit Reg.HBM_FENCE_CHANNELS ch true s) (r.2 * 64) = pcnOf s (r.2 * 64) := fun r => by
    have hkept := regsKept_fputBit (f := Reg.HBM_FENCE_CHANNELS) (ks := [Reg.HBM_FENCE]) (by decide) ch true s
    rw [pcnOf, fget_congr (hkept _ (by decide)), ← pcnOf]
  have hhbm : (fputBit Reg.HBM_FENCE_CHANNELS ch true s).hbm = s.hbm := by
    unfold fputBit
    split <;> rfl
  refine ⟨_, rfl, ?_⟩
  simp only [horder, hhbm, fencedHbm]

end

/-! ## AERR -/

/-- The state in which AERR has been counted. -/
def aerrCounted (s : State) : State := fcount Reg.HBM_PAR_ERR_AERR 1 s

/-- The state in which a failed replay has been counted. -/
def replayFailed (ch : Nat) (s : State) : State :=
  fcount Reg.HBM_PAR_ERR_REPLAY_FAIL 1 { s with hbm := { s.hbm with fails := assocPut s.hbm.fails ch (assocD 0 s.hbm.fails ch + 1) } }

section
variable {ch : Nat} {s : State} (hon : hbmOn s = true) (hfree : fbitAt s Reg.HBM_FENCE_CHANNELS ch = false) (n : Nat)
include hon hfree

theorem aerr_begins (hidle : s.hbm.replaying.contains ch = false) : aerr ch n s = startReplay ch n (aerrCounted s) := by
  unfold aerr
  rw [if_neg (by simp [hon, hfree])]
  exact if_neg (by rw [show (fcount Reg.HBM_PAR_ERR_AERR 1 s).hbm = s.hbm from rfl, hidle]; exact Bool.false_ne_true)

theorem aerr_fails (hreplay : s.hbm.replaying.contains ch = true) : aerr ch n s =
    if 3 ≤ assocD 0 s.hbm.fails ch + 1 then fenceChannel ch (replayFailed ch (aerrCounted s)) else startReplay ch n (replayFailed ch (aerrCounted s)) := by
  unfold aerr
  rw [if_neg (by simp [hon, hfree])]
  exact if_pos hreplay

end

theorem aerrCounted_counts (s : State) : fget (aerrCounted s) Reg.HBM_PAR_ERR_AERR = min 65535 (fget s Reg.HBM_PAR_ERR_AERR + 1) ∧
    fget (aerrCounted s) Reg.HBM_PAR_ERR_REPLAY_FAIL = fget s Reg.HBM_PAR_ERR_REPLAY_FAIL ∧ RegsKept [Reg.HBM_PAR_ERR] s (aerrCounted s) :=
  ⟨fget_fcount rfl 1 s, fget_fput_beside _ _ _ rfl _ (by decide) (by decide), regsKept_fput (f := Reg.HBM_PAR_ERR_AERR) (by decide) _ s⟩

theorem replayFailed_counts (ch : Nat) (s : State) :
    fget (replayFailed ch s) Reg.HBM_PAR_ERR_REPLAY_FAIL = min 65535 (fget s Reg.HBM_PAR_ERR_REPLAY_FAIL + 1) ∧
    fget (replayFailed ch s) Reg.HBM_PAR_ERR_AERR = fget s Reg.HBM_PAR_ERR_AERR ∧ RegsKept [Reg.HBM_PAR_ERR] s (replayFailed ch s) :=
  ⟨fget_fcount rfl 1 _, fget_fput_beside _ _ _ rfl _ (by decide) (by decide), regsKept_fput (f := Reg.HBM_PAR_ERR_REPLAY_FAIL) (by decide) _ _⟩

/-- What a fenced channel is left with. -/
theorem fenceChannel_fences {ch : Nat} (hch : ch < 32) (s : State) :
    fbitAt (fenceChannel ch s) Reg.HBM_FENCE_CHANNELS ch = true ∧ hasCause (fenceChannel ch s) 7 = true ∧
      (fenceChannel ch s).ev.bits.getLsbD Ev.HBM_FENCE = true ∧ EventsKept [Ev.HBM_FENCE, Ev.HOLD] s (fenceChannel ch s) ∧
      (s.flow.mode = .write → s.flow.resume = .none → (fenceChannel ch s).flow.holdReq = true) ∧
      (fenceChannel ch s).hbm = fencedHbm ch s ∧
      (fenceChannel ch s).job = s.job ∧ DramKept s (fenceChannel ch s) ∧ RegsKept (Reg.HBM_FENCE :: holdRegs) s (fenceChannel ch s) := by
  obtain ⟨v, heq, hv⟩ := fenceChannel_eq ch s
  have hput := regsKept_fputBit (f := Reg.HBM_FENCE_CHANNELS) (ks := [Reg.HBM_FENCE]) (by decide) ch true s
  have hbit := fbitAt_fputBit s Reg.HBM_FENCE_CHANNELS rfl ch hch true ch
  have hkeep : (fputBit Reg.HBM_FENCE_CHANNELS ch true s).flow = s.flow ∧ (fputBit Reg.HBM_FENCE_CHANNELS ch true s).job = s.job ∧
      (fputBit Reg.HBM_FENCE_CHANNELS ch true s).ev = s.ev ∧ (fputBit Reg.HBM_FENCE_CHANNELS ch true s).dram = s.dram := by simp
  obtain ⟨hflow, hjob, hev, hdram⟩ := hkeep
  have hregs : v.regs = (fputBit Reg.HBM_FENCE_CHANNELS ch true s).regs := by rw [hv]
  have hvflow : v.flow = s.flow := by rw [hv]; exact hflow
  have hvev : v.ev = s.ev := by rw [hv]; exact hev
  have hvjob : v.job = s.job := by rw [hv]; exact hjob
  have hvdram : v.dram = s.dram := by rw [hv]; exact hdram
  have hvhbm : v.hbm = _ := congrArg State.hbm hv
  have hparts := holdParts_requestHold 7 (raise Ev.HBM_FENCE v)
  have hhold := regsKept_requestHold 7 (raise Ev.HBM_FENCE v)
  rw [heq]
  refine ⟨?_, ?_, eventsStand_requestHold 7 _ _ (raise_raises (by decide) v), ?_, fun hmode hresume => ?_, ?_, ?_, dramKept_of_eq ?_, ?_⟩
  · have hfence : fget (requestHold 7 (raise Ev.HBM_FENCE v)) Reg.HBM_FENCE_CHANNELS = fget (fputBit Reg.HBM_FENCE_CHANNELS ch true s) Reg.HBM_FENCE_CHANNELS :=
      (fget_congr (hhold _ (by decide))).trans (fget_regs hregs _)
    rw [fbitAt, hfence]
    exact hbit.trans (if_pos rfl)
  · rw [hasCause_congr (requestHold_causes 7 _), hasCause_setCause (by decide)]
    simp
  · exact ((eventsKept_of_ev hvev).trans ((eventsKept_raise (by decide) v).trans ((eventsKept_requestHold 7 _).mono (by simp))))
  · have hresume' : (raise Ev.HBM_FENCE v).flow.resume = .none := (congrArg Flow.resume hvflow).trans hresume
    have hmode' : (raise Ev.HBM_FENCE v).flow.mode = .write := (congrArg Flow.mode hvflow).trans hmode
    rw [requestHold_of_none hresume', if_pos hmode']
  · rw [hparts]
    exact hvhbm
  · rw [hparts]
    exact hvjob
  · rw [hparts]
    exact hvdram
  · exact ((hput.trans (regsKept_of_eq hregs)).mono (by simp)).trans (RegsKept.mono (ks := holdRegs) hhold (by simp))

/-- The state in which a replay has ended and no request waits for it. -/
def replayClosed (ch : Nat) (s : State) : State :=
  { s with hbm := { s.hbm with
    replaying := s.hbm.replaying.filter (· != ch), fails := s.hbm.fails.filter (·.1 != ch), reissue := s.hbm.reissue.filter (·.1 != ch)
    held := s.hbm.held.filter fun r => pcnOf s (r.2 * 64) / 2 != ch } }

theorem replayComplete_eq {ch : Nat} {s : State} (h : s.hbm.replaying.contains ch = true) : replayComplete ch s = raise Ev.HBM_REPLAY
    ((s.hbm.held.filter fun r => pcnOf s (r.2 * 64) / 2 == ch).foldl (fun s r => serveUnit r.1 r.2 s) (replayClosed ch s)) := by
  unfold replayComplete
  rw [if_pos h]
  rfl

theorem replayComplete_completes (ch : Fin 32) {s : State} (h : s.hbm.replaying.contains ch.val = true) : Yields (.replayComplete ch) s fun t =>
    t.hbm.replaying = s.hbm.replaying.filter (· != ch.val) ∧ t.ev = (raise Ev.HBM_REPLAY s).ev ∧ assocD 0 t.hbm.fails ch.val = 0 ∧
    assocD [] t.hbm.reissue ch.val = [] ∧ t.hbm.held = s.hbm.held.filter (fun r => pcnOf s (r.2 * 64) / 2 != ch.val) ∧
    t.flow = s.flow ∧ t.job = s.job ∧ RegsKept [Reg.HBM_RD_COUNT] s t ∧ DramKept s t := by
  have hserved := served_foldl (g := fun s (r : Bool × Nat) => serveUnit r.1 r.2 s) (fun r u => served_serveUnit r.1 r.2 u)
    (s.hbm.held.filter fun r => pcnOf s (r.2 * 64) / 2 == ch.val) (replayClosed ch.val s)
  refine ⟨_, congrArg Host.Outcome.next (replayComplete_eq h), ?_⟩
  generalize (s.hbm.held.filter fun r => pcnOf s (r.2 * 64) / 2 == ch.val).foldl (fun s r => serveUnit r.1 r.2 s) (replayClosed ch.val s) = v at hserved ⊢
  have hregs := hserved.regs
  have hrest := hserved.rest
  have hev : v.ev = s.ev := by rw [hrest]; rfl
  generalize v.hbm.rows = rows, v.hbm.retry = retry, v.hbm.openRows = openRows, v.hbm.powerDown = down at hrest
  generalize hvregs : v.regs = regs at hrest
  have hregs' : RegsKept [Reg.HBM_RD_COUNT] s v := hregs
  refine ⟨?_, raise_ev_congr _ hev, ?_, ?_, ?_, ?_, ?_, hregs', dramKept_of_eq ?_⟩
  all_goals simp only [raise, hrest, replayClosed]
  · exact assocD_filter_self 0 _ _
  · exact assocD_filter_self [] _ _

theorem patternRun_fills {s : State} (errors : Nat) (hmode : s.flow.mode = .service) (hon : hbmOn s = true) (hfill : s.hbm.fill = none) :
    Yields (.patternRun errors) s fun t =>
      fget t Reg.HBM_TG_ERR_COUNT = min (2 ^ 32 - 1) errors ∧ fbit t Reg.ECC_STATUS_FILL_BUSY = true ∧ (∀ a, dramByte t a = 0) ∧
      t.flow = s.flow ∧ t.job = s.job ∧ t.ev = s.ev ∧ RegsKept [Reg.HBM_TG_ERR, Reg.ECC_STATUS] s t := by
  have heq : patternRun errors s = startFill false (fputSat Reg.HBM_TG_ERR_COUNT errors s) := if_neg (by simp [hmode, hon, hfill])
  have hbusy : ∀ u : State, fbit (fput Reg.ECC_STATUS_FILL_BUSY 1 u) Reg.ECC_STATUS_FILL_BUSY = true := fun u => by
    rw [fbit_fput _ _ rfl rfl]
    rfl
  have hcount : fget (fputSat Reg.HBM_TG_ERR_COUNT errors s) Reg.HBM_TG_ERR_COUNT = min (2 ^ 32 - 1) errors := by
    rw [fputSat, fget_fput_same _ _ rfl]
    exact Nat.mod_eq_of_lt (lt_of_le_of_lt (min_le_left _ _) (by decide))
  have hcount' : RegsKept [Reg.HBM_TG_ERR, Reg.ECC_STATUS] s (fputSat Reg.HBM_TG_ERR_COUNT errors s) :=
    regsKept_fput (f := Reg.HBM_TG_ERR_COUNT) (by decide) _ s
  have hleaves : (fputSat Reg.HBM_TG_ERR_COUNT errors s).flow = s.flow ∧ (fputSat Reg.HBM_TG_ERR_COUNT errors s).job = s.job ∧
      (fputSat Reg.HBM_TG_ERR_COUNT errors s).ev = s.ev := ⟨rfl, rfl, rfl⟩
  refine ⟨_, congrArg Host.Outcome.next heq, ?_⟩
  generalize fputSat Reg.HBM_TG_ERR_COUNT errors s = u at hcount hcount' hleaves ⊢
  obtain ⟨hflow, hjob, hev⟩ := hleaves
  have hstart := regsKept_fput (f := Reg.ECC_STATUS_FILL_BUSY) (ks := [Reg.ECC_STATUS]) (by decide) 1
    (fillDram { u with hbm := { u.hbm with fill := some (false || u.hbm.fill == some true) } })
  exact ⟨(fget_congr (f := Reg.HBM_TG_ERR_COUNT) (hstart _ (by decide))).trans hcount, hbusy _, fun _ => rfl, hflow, hjob, hev,
    hcount'.trans (RegsKept.mono (ks := [Reg.ECC_STATUS]) hstart (by simp))⟩

/-! ## The statement -/

/-- A replay that starts from a state with the controller of `s`, but for its failures, has started. -/
theorem started_of {ch : Fin 32} {s : State} (n : Nat) {u : State} (hhbm : u.hbm = { s.hbm with fails := u.hbm.fails }) (hregs : RegsKept [Reg.HBM_PAR_ERR] s u)
    (hflow : u.flow = s.flow) (hjob : u.job = s.job) (hev : u.ev = s.ev) (hdram : u.dram = s.dram) :
    (startReplay ch.val n u).hbm.replaying = ch.val :: s.hbm.replaying.filter (· != ch.val) ∧
    assocD [] (startReplay ch.val n u).hbm.reissue ch.val = ((assocD [] s.hbm.retry ch.val).take n).reverse ∧
    assocD [] (startReplay ch.val n u).hbm.retry ch.val =
      (.prechargeAll (2 * ch.val + 1) :: .prechargeAll (2 * ch.val) :: assocD [] s.hbm.retry ch.val).take 32 ∧
    (∀ c, c ≠ ch.val → assocD [] (startReplay ch.val n u).hbm.retry c = assocD [] s.hbm.retry c) ∧
    (∀ e ∈ (startReplay ch.val n u).hbm.openRows, e.1 / 64 ≠ ch.val) ∧ (startReplay ch.val n u).hbm.debt = s.hbm.debt ∧
    (startReplay ch.val n u).hbm.rows = s.hbm.rows ∧ Quiet [Reg.HBM_PAR_ERR] s (startReplay ch.val n u) := by
  obtain ⟨hreplaying, hreissue, hretry, hothers, hclosed, hdebt, hrows, -, hregs', hflow', hjob', hev', hdram'⟩ := startReplay_starts ch.val n u
  have hsame : u.hbm.replaying = s.hbm.replaying ∧ u.hbm.retry = s.hbm.retry ∧ u.hbm.debt = s.hbm.debt ∧ u.hbm.rows = s.hbm.rows := by
    generalize u.hbm = hbm at hhbm
    rw [hhbm]
    exact ⟨rfl, rfl, rfl, rfl⟩
  obtain ⟨hr, ht, hd, hw⟩ := hsame
  rw [hr] at hreplaying
  rw [ht] at hreissue hretry hothers
  exact ⟨hreplaying, hreissue, hretry, hothers, hclosed, hdebt.trans hd, hrows.trans hw, hflow'.trans hflow, hjob'.trans hjob, hev'.trans hev,
    hregs.trans (regsKept_of_eq hregs'), dramKept_of_eq (hdram'.trans hdram)⟩

section
variable {ch : Fin 32} {s : State} (hon : hbmOn s = true) (hfree : fbitAt s Reg.HBM_FENCE_CHANNELS ch.val = false) (n : Nat)
include hon hfree

theorem hbmAerr_begins (hidle : s.hbm.replaying.contains ch.val = false) : ∃ t, exec (.hbmAerr ⟨ch, n⟩) s = .next t ∧
    t = startReplay ch.val n (aerrCounted s) := ⟨_, rfl, aerr_begins hon hfree n hidle⟩

theorem hbmAerr_restarts (hreplay : s.hbm.replaying.contains ch.val = true) (hfails : assocD 0 s.hbm.fails ch.val < 2) :
    aerr ch.val n s = startReplay ch.val n (replayFailed ch.val (aerrCounted s)) :=
  (aerr_fails hon hfree n hreplay).trans (if_neg (by omega))

theorem hbmAerr_fences (hreplay : s.hbm.replaying.contains ch.val = true) (hfails : 2 ≤ assocD 0 s.hbm.fails ch.val) :
    aerr ch.val n s = fenceChannel ch.val (replayFailed ch.val (aerrCounted s)) :=
  (aerr_fails hon hfree n hreplay).trans (if_pos (by omega))

end

/-- A failed replay has been counted, from `s`. -/
theorem aerr_counted (ch : Nat) (s : State) :
    fget (replayFailed ch (aerrCounted s)) Reg.HBM_PAR_ERR_AERR = min 65535 (fget s Reg.HBM_PAR_ERR_AERR + 1) ∧
    fget (replayFailed ch (aerrCounted s)) Reg.HBM_PAR_ERR_REPLAY_FAIL = min 65535 (fget s Reg.HBM_PAR_ERR_REPLAY_FAIL + 1) ∧
    assocD 0 (replayFailed ch (aerrCounted s)).hbm.fails ch = assocD 0 s.hbm.fails ch + 1 ∧ RegsKept [Reg.HBM_PAR_ERR] s (replayFailed ch (aerrCounted s)) := by
  obtain ⟨haerr, hfail, hregs⟩ := aerrCounted_counts s
  obtain ⟨hfail', haerr', hregs'⟩ := replayFailed_counts ch (aerrCounted s)
  exact ⟨haerr'.trans haerr, by rw [hfail', hfail], (assocD_assocPut 0 _ ch ch _).trans (if_pos rfl), hregs.trans hregs'⟩

/-- The scrubber's outcomes in the words of O53: counts as fields. -/
theorem eccCounts_eq {t : State} {n m : Nat} (h : eccCounts t = (n, m)) :
    fget t Reg.ECC_CE_COUNT_COUNT = n ∧ fget t Reg.ECC_UE_COUNT_COUNT = m := ⟨congrArg Prod.fst h, congrArg Prod.snd h⟩

/-- Settles O53: a replay starts (`startReplay_starts`), fails or fences its channel (`fenceChannel_fences`); the scrubber's outcomes are those of
`CleanScrubbed`, for a DRAM and for an SRAM unit. -/
theorem dramIsWatched : Obligations.DramIsWatched := by
  refine ⟨fun s => ⟨fun ch n hon hfree => ⟨fun hidle => ?_, fun hreplay => ?_⟩, fun ch n hoff => ⟨_, rfl, if_pos (by simpa using hoff)⟩,
    fun ch => ⟨replayComplete_completes ch, fun hidle => ⟨_, rfl, if_neg (by rw [hidle]; exact Bool.false_ne_true)⟩⟩,
    patternRun_fills, fun errors hnot => ⟨_, rfl, if_pos ?_⟩⟩, fun s => ⟨fun a hon hin hvalid hfence => ?_, fun bank off hon hbank hoff hvalid => ?_,
    fun addr r dropped h => ⟨_, rfl, scrubUnit_idle r dropped h⟩⟩⟩
  · obtain ⟨haerr, hfail, hregs⟩ := aerrCounted_counts s
    obtain ⟨-, -, -, -, -, -, -, hfails, hregs', -⟩ := startReplay_starts ch.val n (aerrCounted s)
    refine ⟨_, congrArg Host.Outcome.next (aerr_begins hon hfree n hidle), started_of n rfl hregs rfl rfl rfl rfl, ?_, hfails, ?_⟩
    · exact (fget_regs hregs' _).trans haerr
    · exact (fget_regs hregs' _).trans hfail
  · obtain ⟨haerr, hfail, hfails, hregs⟩ := aerr_counted ch.val s
    by_cases hthird : 2 ≤ assocD 0 s.hbm.fails ch.val
    · obtain ⟨hbit, hcause, hev, hevents, hreq, hhbm, hjob, hdram, hkept⟩ := fenceChannel_fences ch.isLt (replayFailed ch.val (aerrCounted s))
      have hpar : rget (fenceChannel ch.val (replayFailed ch.val (aerrCounted s))) Reg.HBM_PAR_ERR = rget (replayFailed ch.val (aerrCounted s)) Reg.HBM_PAR_ERR :=
        hkept _ (by decide)
      refine ⟨_, congrArg Host.Outcome.next (hbmAerr_fences hon hfree n hreplay hthird), (fget_congr (f := Reg.HBM_PAR_ERR_AERR) hpar).trans haerr, ?_,
        (fget_congr (f := Reg.HBM_PAR_ERR_REPLAY_FAIL) hpar).trans hfail, hjob, hdram, fun h => absurd h (by omega),
        fun _ => ⟨hbit, hcause, hev, hevents, hreq, ?_, ?_, ?_⟩⟩
      · rw [hhbm]
        exact hfails
      · rw [hhbm]
        rfl
      · rw [hhbm]
        exact assocD_filter_self [] _ _
      · rw [hhbm]
        have horder : ∀ x, pcnOf (replayFailed ch.val (aerrCounted s)) x = pcnOf s x := fun x => by
          rw [pcnOf, fget_congr (hregs _ (by decide)), ← pcnOf]
        simp only [fencedHbm, horder]
        rfl
    · obtain ⟨-, -, -, -, -, -, -, hfails', hregs', -, hjob, -, hdram⟩ := startReplay_starts ch.val n (replayFailed ch.val (aerrCounted s))
      exact ⟨_, congrArg Host.Outcome.next (hbmAerr_restarts hon hfree n hreplay (by omega)), (fget_regs hregs' _).trans haerr,
        (congrArg (assocD 0 · ch.val) hfails').trans hfails, (fget_regs hregs' _).trans hfail, hjob, dramKept_of_eq hdram,
        fun _ => started_of n rfl hregs rfl rfl rfl rfl, fun h => absurd h hthird⟩
  · rcases hnot with h | h | h
    · exact .inl h
    · exact .inr (.inl (by simp [h]))
    · exact .inr (.inr (Option.isSome_iff_ne_none.mpr h))
  · intro u struck
    have hw : struck ∈ unitWords u := struckWord_mem s u
    have hstep := fun r dropped => scrubDram_scrubs (s := s) hin hvalid hfence r dropped
    refine ⟨fun r dropped => ?_, fun hclean => ?_, fun hpoison dropped => ?_⟩
    · obtain ⟨hrun, hcodes, hsram⟩ := hstep r dropped
      obtain ⟨hflow, hjob, -, -, hdram⟩ := hrun.kept.stands
      exact ⟨_, scrubUnit_dram hon a r dropped, hflow, hjob, hdram, fun w hout => by rw [hcodes]; exact look_scrubbed_other hw r dropped hout, hsram⟩
    · have hall := fun r dropped => cleanScrubbed hclean hw (hstep r dropped).1 (hstep r dropped).2.1
      refine ⟨fun dropped => ?_, ?_, ?_, ?_, ?_, fun dropped => ?_⟩
      · obtain ⟨hlooks, hcounts, hev⟩ := (hall .clean dropped).clean rfl
        obtain ⟨hce, hue⟩ := eccCounts_eq hcounts
        exact ⟨_, scrubUnit_dram hon a .clean dropped, ⟨hlooks, (hall .clean dropped).kept⟩, hce, hue, hev⟩
      · obtain ⟨hlooks, -, hcounts, hevents⟩ := (hall .correctable false).correctable rfl
        obtain ⟨hce, hue⟩ := eccCounts_eq hcounts
        exact ⟨_, scrubUnit_dram hon a .correctable false, ⟨hlooks rfl, (hall .correctable false).kept⟩, hce, hue, hevents⟩
      · obtain ⟨-, hlooks, hcounts, hevents⟩ := (hall .correctable true).correctable rfl
        obtain ⟨hce, hue⟩ := eccCounts_eq hcounts
        exact ⟨_, scrubUnit_dram hon a .correctable true, hlooks rfl, hce, hue, hevents⟩
      · obtain ⟨hlooks, -, hcounts, hraised, hevents⟩ := (hall .uncorrectable false).uncorrectable rfl
        obtain ⟨hce, hue⟩ := eccCounts_eq hcounts
        refine ⟨_, scrubUnit_dram hon a .uncorrectable false, ⟨hlooks rfl, (hall .uncorrectable false).kept⟩, ⟨hue, hce, hraised, hevents⟩,
          fun b e hlo hhi hfind hat => ?_⟩
        obtain ⟨x, hx, heq⟩ := scrubDram_notes hin hvalid hfence hclean
        obtain ⟨-, hjob, -, hras, -⟩ := hx.stands
        have hnoted : noteSource u x = sourceNoted b e x := noteSource_of_band hlo hhi (by rwa [hras]) (by rwa [stripeAt, hjob, ← stripeAt])
        rw [heq, hnoted]
        exact sourceNoted_shows b e x
      · obtain ⟨-, hlooks, hcounts, hraised, hevents⟩ := (hall .uncorrectable true).uncorrectable rfl
        obtain ⟨hce, hue⟩ := eccCounts_eq hcounts
        exact ⟨_, scrubUnit_dram hon a .uncorrectable true, hlooks rfl, hue, hce, hraised, hevents⟩
      · obtain ⟨hlooks, hcounts, hev⟩ := (hall .poisoned dropped).poisoned rfl
        obtain ⟨hce, hue⟩ := eccCounts_eq hcounts
        exact ⟨_, scrubUnit_dram hon a .poisoned dropped, hlooks, hce, hue, hev⟩
    · obtain ⟨hrun, hcodes, -⟩ := hstep .clean dropped
      have hfound : dramFound s u .clean = s.ecc.dram := Codes.worsen_clean _ _
      rw [hfound] at hrun hcodes
      rw [Codes.scrub_of_poisoned hpoison, ite_self] at hcodes
      obtain ⟨hcounts, hev⟩ := hrun.silent (.inl hpoison)
      exact ⟨_, scrubUnit_dram hon a .clean dropped, hcodes, congrArg Prod.fst hcounts, congrArg Prod.snd hcounts, hev⟩
  · intro u
    have hin : u < 96 * 32768 := by omega
    have hw := struckWord_mem s u
    have hstep := fun r dropped => scrubSram_scrubs (s := s) hin hvalid r dropped
    refine ⟨fun r dropped => ?_, fun hclean => ?_⟩
    · obtain ⟨hrun, hcodes, hdram'⟩ := hstep r dropped
      obtain ⟨hflow, hjob, -, -, hdram⟩ := hrun.kept.stands
      exact ⟨_, scrubUnit_sram hon bank off r dropped, hflow, hjob, hdram, fun w hout => by rw [hcodes]; exact look_scrubbed_other hw r dropped hout, hdram'⟩
    · have hall := fun r dropped => cleanScrubbed hclean hw (hstep r dropped).1 (hstep r dropped).2.1
      refine ⟨fun dropped => ?_, ?_, ?_⟩
      · obtain ⟨hlooks, hcounts, hev⟩ := (hall .clean dropped).clean rfl
        obtain ⟨hce, hue⟩ := eccCounts_eq hcounts
        exact ⟨_, scrubUnit_sram hon bank off .clean dropped, ⟨hlooks, (hall .clean dropped).kept⟩, hce, hue, hev⟩
      · obtain ⟨hlooks, -, hcounts, hevents⟩ := (hall .correctable false).correctable rfl
        obtain ⟨hce, hue⟩ := eccCounts_eq hcounts
        exact ⟨_, scrubUnit_sram hon bank off .correctable false, ⟨hlooks rfl, (hall .correctable false).kept⟩, hce, hue, hevents⟩
      · obtain ⟨hlooks, -, hcounts, hraised, hevents⟩ := (hall .uncorrectable false).uncorrectable rfl
        obtain ⟨hce, hue⟩ := eccCounts_eq hcounts
        exact ⟨_, scrubUnit_sram hon bank off .uncorrectable false, ⟨hlooks rfl, (hall .uncorrectable false).kept⟩, hue, hce, hraised, hevents⟩

end Sys2Proof.Machine
end

section
/-!
PROOFS. The events and codes that accesses of the memories leave, the rasterizer's work, and the Window's rows (O51).
-/

namespace Sys2Proof.Machine

/-! ## Events of the memories -/

/-- The events that an access of DRAM or SRAM may raise. -/
abbrev memEvents : List Nat := [Ev.ECC_UE, Ev.ECC_CE_HIGH]

/-- An access changes events of the memories alone, and where every DRAM word can be read, it leaves it so. -/
structure Accessed (s t : State) : Prop where
  only : MemoryOnly s t
  events : EventsKept memEvents s t
  reads : DramReads s → DramReads t

theorem accessed_refl (s : State) : Accessed s s := ⟨.refl s, fun _ _ _ => rfl, id⟩

theorem Accessed.trans {s t u : State} (h : Accessed s t) (h' : Accessed t u) : Accessed s u :=
  ⟨h.only.trans h'.only, h.events.trans h'.events, fun hs => h'.reads (h.reads hs)⟩

theorem accessed_foldl {β : Type} {g : State → β → State} (h : ∀ x s, Accessed s (g s x)) (l : List β) (s : State) : Accessed s (l.foldl g s) := by
  induction l generalizing s with
  | nil => exact accessed_refl s
  | cons x l ih => exact (h x s).trans (ih _)

theorem MemoryOnly.flow {s t : State} (h : MemoryOnly s t) : t.flow = s.flow := by rw [h.rest]

/-- An access that leaves the events and the flawed words of DRAM. -/
theorem accessed_of_codes {s t : State} (h : MemoryOnly s t) (hev : t.ev = s.ev)
    (hcodes : s.ecc.dram.double = [] → s.ecc.dram.poison = [] → s.flow.mode ≠ .service → t.ecc.dram.double = [] ∧ t.ecc.dram.poison = []) : Accessed s t :=
  ⟨h, eventsKept_of_ev hev, fun ⟨hdouble, hpoison, hfence, hmode⟩ =>
    ⟨(hcodes hdouble hpoison hmode).1, (hcodes hdouble hpoison hmode).2, h.fence.trans hfence, by rwa [h.flow]⟩⟩

theorem accessed_of_ecc {s t : State} (h : MemoryOnly s t) (hev : t.ev = s.ev) (hecc : t.ecc.dram = s.ecc.dram) : Accessed s t :=
  accessed_of_codes h hev fun hdouble hpoison _ => by rw [hecc]; exact ⟨hdouble, hpoison⟩

theorem accessed_accessUnit (write : Bool) (u : Nat) (s : State) : Accessed s (accessUnit write u s) := by
  obtain ⟨-, -, hev, hecc⟩ := accessUnit_leaves write u s
  exact accessed_of_ecc (memoryOnly_accessUnit write u s) hev (by rw [hecc])

theorem accessed_countUrgent {p : Nat} (hp : p < 16) (n : Nat) (s : State) : Accessed s (countUrgent p n s) := by
  have hrest := (countUrgent_leaves p n s).1
  have honly := memoryOnly_countUrgent hp n s
  generalize countUrgent p n s = t at hrest honly
  generalize t.regs = regs at hrest
  exact accessed_of_ecc honly (by rw [hrest]) (by rw [hrest])

theorem accessed_eccLog (dram : Bool) (addr result : Nat) (scrub : Bool) (wher port : Nat) (s : State) :
    Accessed s (eccLog dram addr result scrub wher port s) := by
  obtain ⟨hecc, hev⟩ := (regsMoved_eccLog dram addr result scrub wher port s).same
  exact accessed_of_ecc (memoryOnly_eccLog dram addr result scrub wher port s) hev (by rw [hecc])

theorem accessed_countCorrection (s : State) : Accessed s (countCorrection s) := by
  obtain ⟨-, hdram, -, hevents⟩ := scrubKept_countCorrection s
  refine ⟨memoryOnly_countCorrection s, hevents.mono (by simp), fun ⟨hdouble, hpoison, hfence, hmode⟩ => ?_⟩
  exact ⟨by rw [hdram, hdouble], by rw [hdram, hpoison], (memoryOnly_countCorrection s).fence.trans hfence, by rwa [(memoryOnly_countCorrection s).flow]⟩

theorem eventsKept_countUncorrectable (s : State) : EventsKept memEvents s (countUncorrectable s) :=
  EventsKept.trans (t := fcount Reg.ECC_UE_COUNT_COUNT 1 s) (eventsKept_of_ev rfl) (eventsKept_raise (by simp) _)

theorem look_of_reads {s : State} (h : DramReads s) (w : Nat) : s.ecc.dram.look w = .clean ∨ s.ecc.dram.look w = .correctable := by
  obtain ⟨hdouble, hpoison, -, -⟩ := h
  unfold Codes.look
  rw [hdouble, hpoison]
  simp only [List.contains_nil, Bool.false_eq_true, if_false]
  split
  · exact .inr rfl
  · exact .inl rfl

theorem eventsKept_uncorrectable (e : Ecc) (s : State) : EventsKept memEvents s { countUncorrectable s with ecc := e } :=
  (eventsKept_countUncorrectable s).trans (eventsKept_of_ev rfl)

/-- An uncorrectable word is found and marked: where every word can be read there is none. -/
theorem accessed_uncorrectable {s v : State} (e : Ecc) (h : Accessed s v) (hnot : ¬ DramReads s) : Accessed s { countUncorrectable v with ecc := e } :=
  ⟨(h.only.trans (memoryOnly_countUncorrectable v)).trans (memoryOnly_ecc e _), h.events.trans (eventsKept_uncorrectable e v), fun hs => absurd hs hnot⟩

theorem accessed_readWord (port w : Nat) (s : State) : Accessed s (readWord port w s) := by
  have hlook := fun h : DramReads s => look_of_reads h w
  unfold readWord
  dsimp only
  cases hw : s.ecc.dram.look w with
  | clean => exact accessed_refl s
  | correctable => exact (accessed_eccLog _ _ _ _ _ _ s).trans (accessed_countCorrection _)
  | uncorrectable => exact accessed_uncorrectable _ (accessed_eccLog _ _ _ _ _ _ s) fun h => by simpa [hw] using hlook h
  | poisoned => exact accessed_eccLog _ _ _ _ _ _ s

theorem accessed_readUnit (port u : Nat) (s : State) : Accessed s (readUnit port u s) := by
  unfold readUnit
  split
  · exact accessed_refl s
  · exact (accessed_accessUnit false u s).trans (accessed_foldl (fun w v => accessed_readWord port w v) _ _)

theorem accessed_readUnits {port : Nat} (hp : port < 16) (a n : Nat) (s : State) : Accessed s (readUnits port a n s) :=
  (accessed_countUrgent hp _ s).trans (accessed_foldl (fun u v => accessed_readUnit port u v) _ _)

/-- An injection, where one may be armed, outside Service. -/
theorem injectKind_clean {s : State} (h : s.flow.mode ≠ .service) (target : Nat) : injectKind s target = .clean :=
  if_neg fun hs => h hs.1

theorem codes_cleared {p : Nat → Bool} {c : Codes} (hdouble : c.double = []) (hpoison : c.poison = []) :
    (c.cleared p).double = [] ∧ (c.cleared p).poison = [] := by
  unfold Codes.cleared
  rw [hdouble, hpoison]
  exact ⟨rfl, rfl⟩

/-- An injection on a write. -/
theorem accessed_inject (k : EccResult) (e : Ecc) (s : State) (hk : s.flow.mode ≠ .service → k = .clean) :
    Accessed s (if k = .clean then s else useFree (fput Reg.ECC_INJECT_KIND 0 { s with ecc := e })) := by
  refine accessed_of_codes (memoryOnly_inject _ e s) ?_ fun hdouble hpoison hmode => ?_
  · split <;> rfl
  · rw [if_pos (hk hmode)]
    exact ⟨hdouble, hpoison⟩

theorem accessed_writeUnit (port a n u : Nat) (s : State) : Accessed s (writeUnit port a n u s) := by
  unfold writeUnit
  split
  · exact accessed_refl s
  · dsimp only
    have hread : Accessed s (if decide (a ≤ u * 64 ∧ u * 64 + 64 ≤ a + n) = true then s else readUnit port u s) := by
      split
      · exact accessed_refl s
      · exact accessed_readUnit port u s
    refine Accessed.trans ?_ (accessed_inject _ _ _ fun h => injectKind_clean h _)
    refine (hread.trans (accessed_accessUnit true u _)).trans (accessed_of_codes (memoryOnly_ecc _ _) rfl fun hdouble hpoison _ => ?_)
    exact codes_cleared hdouble hpoison

theorem accessed_validatePages (lo hi : Nat) (s : State) : Accessed s (validatePages lo hi s) :=
  accessed_of_ecc (memoryOnly_validatePages lo hi s) rfl rfl

theorem accessed_writeSpan (port a n : Nat) (us : List Nat) (s : State) : Accessed s (us.foldl (fun s u => writeUnit port a n u s) s) :=
  accessed_foldl (g := fun s u => writeUnit port a n u s) (fun u v => accessed_writeUnit port a n u v) us s

theorem accessed_writeParts (port : Nat) (ps : List (Nat × Nat)) (s : State) :
    Accessed s (ps.foldl (fun s p => (unitsOf p.1 p.2).foldl (fun s u => writeUnit port p.1 p.2 u s) s) s) := by
  induction ps generalizing s with
  | nil => exact accessed_refl s
  | cons p ps ih => exact (accessed_writeSpan port p.1 p.2 (unitsOf p.1 p.2) s).trans (ih _)

theorem accessed_writeUnits {port : Nat} (hp : port < 16) (a n : Nat) (s : State) : Accessed s (writeUnits port a n s) := by
  unfold writeUnits
  split
  · exact accessed_refl s
  · exact ((accessed_countUrgent hp (unitsOf a n).length s).trans (accessed_validatePages (a / 4096) ((a + n - 1) / 4096 + 1) _)).trans
      (accessed_writeParts port _ _)

/-- An uncorrectable word of SRAM is found and marked. -/
theorem accessed_sramUncorrectable {s v : State} (c : Codes) (h : Accessed s v) :
    Accessed s { countUncorrectable v with ecc := { (countUncorrectable v).ecc with sram := c } } :=
  ⟨(h.only.trans (memoryOnly_countUncorrectable v)).trans (memoryOnly_ecc _ _), h.events.trans (eventsKept_uncorrectable _ v), fun hs => by
    obtain ⟨hdouble, hpoison, hfence, hmode⟩ := h.reads hs
    exact ⟨hdouble, hpoison, ((memoryOnly_countUncorrectable v).trans (memoryOnly_ecc _ _)).fence.trans hfence, hmode⟩⟩

theorem accessed_readSram (client w : Nat) (s : State) : Accessed s (readSram client w s) := by
  unfold readSram
  dsimp only
  cases s.ecc.sram.look w with
  | clean => exact accessed_refl s
  | correctable => exact (accessed_eccLog _ _ _ _ _ _ s).trans (accessed_countCorrection _)
  | uncorrectable => exact accessed_sramUncorrectable _ (accessed_eccLog _ _ _ _ _ _ s)
  | poisoned => exact accessed_eccLog _ _ _ _ _ _ s

theorem accessed_ecc {s : State} (e : Ecc) (h : e.dram = s.ecc.dram) : Accessed s { s with ecc := e } := accessed_of_ecc (memoryOnly_ecc e s) rfl h

/-- The injection that a write of `n` words of SRAM from `w` on may meet. -/
theorem accessed_sramInject (w n target : Nat) (s : State) :
    Accessed s (if (if w / 262144 ≤ target ∧ target ≤ (w + n - 1) / 262144 then injectKind s target else .clean) = .clean then s
      else useFree (fput Reg.ECC_INJECT_KIND 0 { s with ecc := { s.ecc with
        sram := s.ecc.sram.put (w + freeNat s % n) (if w / 262144 ≤ target ∧ target ≤ (w + n - 1) / 262144 then injectKind s target else .clean) } })) :=
  accessed_inject _ _ s fun h => by rw [injectKind_clean h, ite_self]

/-- Words of SRAM written whole are sound and valid. -/
def sramPlaced (w n : Nat) (s : State) : State :=
  { s with ecc := { s.ecc with
      sram := s.ecc.sram.cleared fun v => decide (w ≤ v ∧ v < w + n)
      sramInvalid := s.ecc.sramInvalid.flatMap (cutRange (w / 8) ((w + n - 1) / 8 + 1)) } }

theorem accessed_writeSram (w n : Nat) (s : State) : Accessed s (writeSram w n s) := by
  have hread := accessed_foldl (g := fun s v => readSram 1 v s) (fun v u => accessed_readSram 1 v u) (sramRmw s w n) s
  unfold writeSram
  dsimp only
  generalize (sramRmw s w n).foldl (fun s v => readSram 1 v s) s = v at hread ⊢
  have hplaced : Accessed v (sramPlaced w n v) := accessed_ecc _ rfl
  exact (hread.trans hplaced).trans (accessed_sramInject w n (fget (sramPlaced w n v) Reg.ECC_INJECT_TARGET) (sramPlaced w n v))

/-! ## The rasterizer at work -/

/-- The registers that the rasterizer's progress may change, beside those of the memories. -/
def workRegs : List Nat := Reg.SKV_QUEUE_FREE :: rasterRegs

/-- The rasterizer has gone on: bands that are done have left for the pending area, cells have taken tiles; the ring stands. -/
structure RasterGone (s t : State) : Prop where
  rest : t = { s with regs := t.regs, ev := t.ev, hbm := t.hbm, ecc := t.ecc, free := t.free, ras := t.ras }
  regs : ∀ k, k / 65536 ≠ 0x0B → k / 65536 ≠ 0x0C → k ∉ workRegs → rget t k = rget s k
  events : EventsKept memEvents s t
  slots : t.ras.ring = s.ras.ring ∧ t.ras.released = s.ras.released ∧ t.ras.nextSlot = s.ras.nextSlot
  pending : ∃ l, t.ras.pending = s.ras.pending ++ l
  current : ∀ c ∈ s.ras.current, c.done ≠ 2080 → ∃ u ∈ t.ras.current, u = { c with started := u.started }

theorem RasterGone.refl (s : State) : RasterGone s s :=
  ⟨rfl, fun _ _ _ _ => rfl, fun _ _ _ => rfl, ⟨rfl, rfl, rfl⟩, ⟨[], by simp⟩, fun c hc _ => ⟨c, hc, rfl⟩⟩

theorem RasterGone.trans {s t u : State} (h : RasterGone s t) (h' : RasterGone t u) : RasterGone s u := by
  obtain ⟨hring, hreleased, hslot⟩ := h.slots
  obtain ⟨hring', hreleased', hslot'⟩ := h'.slots
  obtain ⟨l, hl⟩ := h.pending
  obtain ⟨l', hl'⟩ := h'.pending
  refine ⟨by rw [h'.rest, h.rest], fun k hb hc hk => (h'.regs k hb hc hk).trans (h.regs k hb hc hk), h.events.trans h'.events,
    ⟨hring'.trans hring, hreleased'.trans hreleased, hslot'.trans hslot⟩, ⟨l ++ l', by rw [hl', hl, List.append_assoc]⟩, fun c hc hdone => ?_⟩
  obtain ⟨v, hv, hcv⟩ := h.current c hc hdone
  obtain ⟨w, hw, hvw⟩ := h'.current v hv (by rw [hcv]; exact hdone)
  exact ⟨w, hw, by rw [hvw, hcv]⟩

/-- Where the rasterizer's own data stand but for its list of bands, and the list keeps what is not done. -/
theorem RasterGone.of_regs {s t : State} (hrest : t = { s with regs := t.regs, ras := t.ras }) (hregs : RegsKept workRegs s t)
    (hslots : t.ras.ring = s.ras.ring ∧ t.ras.released = s.ras.released ∧ t.ras.nextSlot = s.ras.nextSlot) (hpending : t.ras.pending = s.ras.pending)
    (hcurrent : ∀ c ∈ s.ras.current, c.done ≠ 2080 → ∃ u ∈ t.ras.current, u = { c with started := u.started }) : RasterGone s t :=
  ⟨by rw [hrest], fun k _ _ hk => hregs k hk, eventsKept_of_ev (by rw [hrest]), hslots, ⟨[], by rw [hpending, List.append_nil]⟩, hcurrent⟩

theorem rasterGone_fput {f : Field} (hf : f.reg ∈ workRegs) (v : Nat) (s : State) : RasterGone s (fput f v s) :=
  .of_regs rfl (regsKept_fput hf v s) ⟨rfl, rfl, rfl⟩ rfl fun c hc _ => ⟨c, hc, rfl⟩

theorem rasterGone_giveTile (s : State) : RasterGone s (giveTile s) := by
  unfold giveTile
  split
  · refine .of_regs rfl (fun _ _ => rfl) ⟨rfl, rfl, rfl⟩ rfl fun d hd _ => ⟨_, List.mem_map_of_mem hd, ?_⟩
    split <;> rfl
  · exact .refl s

theorem rasterGone_startBand (s : State) : RasterGone s (startBand s) := by
  unfold startBand
  split
  · exact .refl s
  · dsimp only
    refine RasterGone.trans (RasterGone.trans (RasterGone.trans ?_ (rasterGone_fput (f := Reg.RAS_POS_STRIPE_LAYER) (by simp [workRegs, rasterRegs]) _ _))
      (rasterGone_fput (f := Reg.RAS_POS_STRIPE_STRIPE) (by simp [workRegs, rasterRegs]) _ _))
      (rasterGone_fput (f := Reg.RAS_POS_BAND_BAND) (by simp [workRegs, rasterRegs]) _ _)
    exact .of_regs rfl (fun _ _ => rfl) ⟨rfl, rfl, rfl⟩ rfl fun c hc _ => ⟨c, List.mem_append_left _ hc, rfl⟩

theorem rasterGone_fillCells (n : Nat) (s : State) : RasterGone s (fillCells n s) := by
  induction n generalizing s with
  | zero => exact .refl s
  | succ n ih =>
    unfold fillCells
    split
    · exact .refl s
    · split
      · exact (rasterGone_giveTile s).trans (ih _)
      · split
        · exact (rasterGone_startBand s).trans (ih _)
        · exact .refl s

theorem rasterGone_rasterStart (s : State) : RasterGone s (rasterStart s) := by
  have hsync : ∀ u, RasterGone u (rasterSync u) := fun u => rasterGone_fput (f := Reg.RAS_STATUS_STATE) (by simp [workRegs, rasterRegs]) _ u
  unfold rasterStart
  split
  · exact (rasterGone_fillCells _ s).trans (hsync _)
  · exact hsync s

theorem pending_giveTile (s : State) : (giveTile s).ras.pending = s.ras.pending := by
  unfold giveTile
  split <;> rfl

theorem pending_startBand (s : State) : (startBand s).ras.pending = s.ras.pending := by
  unfold startBand
  split <;> rfl

theorem pending_fillCells (n : Nat) (s : State) : (fillCells n s).ras.pending = s.ras.pending := by
  induction n generalizing s with
  | zero => rfl
  | succ n ih =>
    unfold fillCells
    split
    · rfl
    · split
      · rw [ih, pending_giveTile]
      · split
        · rw [ih, pending_startBand]
        · rfl

theorem pending_rasterStart (s : State) : (rasterStart s).ras.pending = s.ras.pending := by
  unfold rasterStart
  split
  · exact pending_fillCells _ s
  · rfl

theorem MemoryOnly.ras {s t : State} (h : MemoryOnly s t) : t.ras = s.ras := by rw [h.rest]

theorem MemoryOnly.withRas {s t : State} (h : MemoryOnly s t) (r : Raster) :
    { t with ras := r } = { s with regs := t.regs, ev := t.ev, hbm := t.hbm, ecc := t.ecc, free := t.free, ras := r } := by
  conv_lhs => rw [h.rest]

/-- The pending area and the density maps are written as a band is formed. -/
def bandStored (c : Render) (s : State) : State :=
  writeUnits Port.bandWrite (densityStore c.stripeIdx c.band) 2080 (writeUnits Port.bandWrite (pendingAt s) 17039360 s)

theorem accessed_bandStored (c : Render) (s : State) : Accessed s (bandStored c s) :=
  (accessed_writeUnits (by decide) _ _ s).trans (accessed_writeUnits (by decide) _ _ _)

/-- What a band that is done waits for finalization as. -/
def bandFormed (c : Render) (s : State) : Pending :=
  let d := stripeData s c.stripeIdx
  let ds := if d.isRejected c.band then [] else bandDrawn s c.stripeIdx c.band
  ⟨c.stripeIdx, c.band, bandDoses d.classes ds c.band true, bandDoses d.classes ds c.band false, c.unreadable, pendingAt s⟩

theorem finishBand_eq (c : Render) (rest : List Render) (s : State) : finishBand c rest s =
    returnQueue c.stripeIdx c.band { bandStored c s with ras := { (bandStored c s).ras with
      current := rest, pending := (bandStored c s).ras.pending ++ [bandFormed c s],
      density := (bandStored c s).ras.density ++ bandDensity (stripeData s c.stripeIdx) (bandFormed c s) } } := rfl

theorem pending_finishBand (c : Render) (rest : List Render) (s : State) : (finishBand c rest s).ras.pending = s.ras.pending ++ [bandFormed c s] ∧
    (finishBand c rest s).ras.current = rest := by
  have hras := (accessed_bandStored c s).only.ras
  rw [finishBand_eq]
  generalize bandStored c s = v at hras
  exact ⟨congrArg (· ++ [bandFormed c s]) (congrArg Raster.pending hras), rfl⟩

theorem rasterGone_queueSync (s : State) : RasterGone s (queueSync s) := rasterGone_fput (by simp [workRegs]) _ s

theorem rasterGone_returnQueue (i j : Nat) (s : State) : RasterGone s (returnQueue i j s) := by
  refine RasterGone.trans ?_ (rasterGone_queueSync _)
  exact .of_regs rfl (fun _ _ => rfl) ⟨rfl, rfl, rfl⟩ rfl fun c hc _ => ⟨c, hc, rfl⟩

/-- A band that is done leaves the list for the pending area. -/
theorem rasterGone_bandLeaves {c : Render} {rest : List Render} {s v : State} (h : Accessed s v) (hcurrent : s.ras.current = c :: rest) (hdone : c.done = 2080)
    (p : Pending) (density : List (Nat × Nat)) :
    RasterGone s { v with ras := { v.ras with current := rest, pending := v.ras.pending ++ [p], density := density } } := by
  have hras := h.only.ras
  refine ⟨h.only.withRas _, fun k hb hc _ => h.only.regs k hb hc, h.events, ⟨?_, ?_, ?_⟩, ⟨[p], ?_⟩, fun d hd hnot => ?_⟩
  · exact (congrArg Raster.ring hras :)
  · exact (congrArg Raster.released hras :)
  · exact (congrArg Raster.nextSlot hras :)
  · exact congrArg (· ++ [p]) (congrArg Raster.pending hras)
  · rw [hcurrent] at hd
    rcases List.mem_cons.1 hd with rfl | hd
    · exact absurd hdone hnot
    · exact ⟨d, hd, rfl⟩

theorem rasterGone_finishBand {c : Render} {rest : List Render} {s : State} (hcurrent : s.ras.current = c :: rest) (hdone : c.done = 2080) :
    RasterGone s (finishBand c rest s) :=
  (rasterGone_bandLeaves (accessed_bandStored c s) hcurrent hdone (bandFormed c s) _).trans (rasterGone_returnQueue c.stripeIdx c.band _)

theorem rasterGone_promote (s : State) : RasterGone s (promote s) := by
  unfold promote
  split
  · next c rest hcurrent =>
    split
    · next h => exact rasterGone_finishBand hcurrent h.1
    · exact .refl s
  · exact .refl s

theorem rasterGone_rasterGo (s : State) : RasterGone s (rasterGo s) :=
  ((rasterGone_promote s).trans (rasterGone_promote _)).trans (rasterGone_rasterStart _)

/-! ## Tiles -/

/-- Where every DRAM word can be read, no unit ends in a bus error. -/
theorem unitBad_of_reads {s : State} (h : DramReads s) (u : Nat) : unitBad s u = false := by
  obtain ⟨hdouble, hpoison, hfence, -⟩ := h
  have hfenced : fencedAt s (u * 64) = false := by
    unfold fencedAt fbitAt fget
    rw [show Reg.HBM_FENCE_CHANNELS.reg = Reg.HBM_FENCE from rfl, hfence]
    simp [bits]
  have hwords : (unitWords u).any s.ecc.dram.bad = false := by
    simp [Codes.bad, hdouble, hpoison]
  rw [unitBad, hfenced, hwords, Bool.or_false, Bool.and_false]

theorem rangeBad_of_reads {s : State} (h : DramReads s) (a n : Nat) : rangeBad s a n = false := by
  simp [rangeBad, unitBad_of_reads h]

theorem accessed_readSome {port : Nat} (hp : port < 16) (us : List Nat) (s : State) : Accessed s (readSome port us s).1 := by
  have hfree : Accessed s { s with free := s.free + us.length } := accessed_of_ecc ⟨rfl, fun _ _ _ => rfl, fun _ h => h, rfl⟩ rfl rfl
  exact (hfree.trans (accessed_countUrgent hp _ _)).trans (accessed_foldl (fun u v => accessed_readUnit port u v) _ _)

theorem readSome_good {s : State} (h : DramReads s) (port : Nat) (us : List Nat) : (readSome port us s).2 = false := by
  simp [readSome, unitBad_of_reads (s := { s with free := s.free + us.length }) h]

/-- The memories, as a tile of band `j` is read and its cell's buffer written. -/
def tileRead (n i j : Nat) (s : State) : State := tileBuffer n (tileReads i j s).1

theorem accessed_tileRead (n i j : Nat) (s : State) : Accessed s (tileRead n i j s) :=
  (accessed_readSome (by decide) _ s).trans (accessed_writeSram _ _ _)

/-- A band as tile `k` of band `j` of the stripe at position `i` is done. -/
def tileCounted (i j k cycles : Nat) (bad : Bool) (c : Render) : Render :=
  if c.stripeIdx == i && c.band == j then c.tileDone k cycles bad else c

/-- A cell is free again, and its tile counts for its band. -/
def tileTaken (n i j k cycles : Nat) (bad : Bool) (s : State) : State :=
  { s with ras := { s.ras with cells := s.ras.cells.set n none, current := s.ras.current.map (tileCounted i j k cycles bad) } }

/-- The cycles of a band whose tiles are all done. -/
def cyclesNoted (i j : Nat) (s : State) : State :=
  match s.ras.current.find? fun c => (c.stripeIdx == i && c.band == j) && c.done == 2080 with
  | some c => bandCycles c s
  | none => s

/-- A tile's end but for the rasterizer's going on. -/
def tileEnded (n i j k cycles : Nat) (s : State) : State :=
  sample Src.tileCycles [cycles] (fmax Reg.RAS_TILE_MAX_CYCLES cycles (cyclesNoted i j (tileTaken n i j k cycles (tileReads i j s).2 (tileRead n i j s))))

theorem tileComplete_eq {n : Fin 64} {i j k cycles : Nat} {s : State} (hcell : s.ras.cells.getD n.val none = some (i, j, k)) (hon : rasterOn s = true) :
    tileComplete n cycles s = rasterGo (tileEnded n.val i j k cycles s) := by
  unfold tileComplete
  rw [hcell]
  dsimp only
  rw [if_neg (by simp [hon])]
  rfl

/-- The registers that the end of a band's tiles may change. -/
def bandCycleRegs : List Nat := [Reg.RAS_BAND_CYCLES, Reg.RAS_OVER_BUDGET]

theorem bandCycles_notes (c : Render) (s : State) : bandCycles c s = { s with regs := (bandCycles c s).regs, ev := (bandCycles c s).ev } ∧
    RegsKept bandCycleRegs s (bandCycles c s) ∧ EventsKept [Ev.OVER_BUDGET] s (bandCycles c s) := by
  unfold bandCycles
  dsimp only
  split
  · exact ⟨rfl, (regsKept_fput (f := Reg.RAS_OVER_BUDGET_COUNT) (by simp [bandCycleRegs]) _ s).trans
      (regsKept_fput (f := Reg.RAS_BAND_CYCLES_CYCLES) (by simp [bandCycleRegs]) _ _), EventsKept.trans (t := fcount Reg.RAS_OVER_BUDGET_COUNT 1 s)
        (eventsKept_of_ev rfl) (eventsKept_raise (List.mem_singleton_self _) _)⟩
  · exact ⟨rfl, regsKept_fput (f := Reg.RAS_BAND_CYCLES_CYCLES) (by simp [bandCycleRegs]) _ _, eventsKept_of_ev rfl⟩

theorem bandCycles_counts (c : Render) (s : State) : fget (bandCycles c s) Reg.RAS_BAND_CYCLES_CYCLES = min (2 ^ 32 - 1) c.cycles ∧
    (fget s Reg.RAS_BUDGET_CYCLES < c.bound → (bandCycles c s).ev.bits.getLsbD Ev.OVER_BUDGET = true ∧
      fget (bandCycles c s) Reg.RAS_OVER_BUDGET_COUNT = min 65535 (fget s Reg.RAS_OVER_BUDGET_COUNT + 1)) := by
  have hcycles : ∀ v, fget (fputSat Reg.RAS_BAND_CYCLES_CYCLES c.cycles v) Reg.RAS_BAND_CYCLES_CYCLES = min (2 ^ 32 - 1) c.cycles := fun v => by
    rw [fputSat, fget_fput_same _ _ rfl]
    exact Nat.mod_eq_of_lt (lt_of_le_of_lt (min_le_left _ _) (by decide))
  refine ⟨hcycles _, fun h => ?_⟩
  have heq : bandCycles c s = fputSat Reg.RAS_BAND_CYCLES_CYCLES c.cycles (raise Ev.OVER_BUDGET (fcount Reg.RAS_OVER_BUDGET_COUNT 1 s)) := by
    rw [bandCycles, if_pos h]
  rw [heq]
  refine ⟨raise_raises (n := Ev.OVER_BUDGET) (by decide) _, ?_⟩
  exact ((regsKept_fput (f := Reg.RAS_BAND_CYCLES_CYCLES) (List.mem_singleton_self _) _ _).fget (by decide)).trans (fget_fcount rfl 1 s)

theorem cyclesNoted_notes (i j : Nat) (s : State) : cyclesNoted i j s = { s with regs := (cyclesNoted i j s).regs, ev := (cyclesNoted i j s).ev } ∧
    RegsKept bandCycleRegs s (cyclesNoted i j s) ∧ EventsKept [Ev.OVER_BUDGET] s (cyclesNoted i j s) := by
  unfold cyclesNoted
  split
  · exact bandCycles_notes _ s
  · exact ⟨rfl, fun _ _ => rfl, fun _ _ _ => rfl⟩

/-- The events that a tile's end may raise. -/
abbrev tileEvents : List Nat := [Ev.OVER_BUDGET, Ev.MON_LIMIT, Ev.ECC_UE, Ev.ECC_CE_HIGH]

theorem memEvents_tile : memEvents ⊆ tileEvents := by simp

theorem RasterGone.fget {s t : State} (h : RasterGone s t) {f : Field} (hb : f.reg / 65536 ≠ 0x0B) (hc : f.reg / 65536 ≠ 0x0C) (hk : f.reg ∉ workRegs) :
    fget t f = fget s f := fget_congr (h.regs _ hb hc hk)

theorem Accessed.fget {s t : State} (h : Accessed s t) {f : Field} (hb : f.reg / 65536 ≠ 0x0B) (hc : f.reg / 65536 ≠ 0x0C) : fget t f = fget s f :=
  fget_congr (h.only.regs _ hb hc)

section
variable (n i j k cycles : Nat) (s : State)

/-- The cycles of the band are noted where the tile was its last. -/
def tileNoted : State := cyclesNoted i j (tileTaken n i j k cycles (tileReads i j s).2 (tileRead n i j s))

theorem tileEnded_eq : ∃ mon ev, tileEnded n i j k cycles s = { fmax Reg.RAS_TILE_MAX_CYCLES cycles (tileNoted n i j k cycles s) with mon, ev } :=
  sample_eq _ _ _

theorem tileEnded_regs : (tileEnded n i j k cycles s).regs = (fmax Reg.RAS_TILE_MAX_CYCLES cycles (tileNoted n i j k cycles s)).regs := by
  obtain ⟨mon, ev, h⟩ := tileEnded_eq n i j k cycles s
  rw [h]

theorem tileNoted_ras : (tileNoted n i j k cycles s).ras = (tileTaken n i j k cycles (tileReads i j s).2 s).ras := by
  rw [tileNoted, (cyclesNoted_notes i j _).1]
  have hras := (accessed_tileRead n i j s).only.ras
  unfold tileTaken
  rw [hras]

theorem tileEnded_ras : (tileEnded n i j k cycles s).ras = (tileTaken n i j k cycles (tileReads i j s).2 s).ras := by
  obtain ⟨mon, ev, h⟩ := tileEnded_eq n i j k cycles s
  rw [h]
  exact tileNoted_ras n i j k cycles s

theorem eventsKept_tileEnded : EventsKept tileEvents s (tileEnded n i j k cycles s) := by
  have hread := (accessed_tileRead n i j s).events.mono memEvents_tile
  have hnoted := (cyclesNoted_notes i j (tileTaken n i j k cycles (tileReads i j s).2 (tileRead n i j s))).2.2.mono (fs := tileEvents) (by simp)
  have hmax : EventsKept tileEvents (tileNoted n i j k cycles s) (fmax Reg.RAS_TILE_MAX_CYCLES cycles (tileNoted n i j k cycles s)) := eventsKept_of_ev rfl
  exact ((EventsKept.trans (t := tileTaken n i j k cycles (tileReads i j s).2 (tileRead n i j s)) hread hnoted).trans hmax).trans
    ((eventsKept_sample _ _ _).mono (by simp))

theorem tileEnded_max : fget (tileEnded n i j k cycles s) Reg.RAS_TILE_MAX_CYCLES = max (fget s Reg.RAS_TILE_MAX_CYCLES) (min (2 ^ 32 - 1) cycles) := by
  have hnoted := (cyclesNoted_notes i j (tileTaken n i j k cycles (tileReads i j s).2 (tileRead n i j s))).2.1.fget (f := Reg.RAS_TILE_MAX_CYCLES) (by decide)
  have hread := (accessed_tileRead n i j s).fget (f := Reg.RAS_TILE_MAX_CYCLES) (by decide) (by decide)
  have hold : fget (tileNoted n i j k cycles s) Reg.RAS_TILE_MAX_CYCLES = fget s Reg.RAS_TILE_MAX_CYCLES := hnoted.trans hread
  have hlt : fget s Reg.RAS_TILE_MAX_CYCLES < 2 ^ 32 := Nat.mod_lt _ (by decide)
  rw [fget_regs (tileEnded_regs n i j k cycles s), fmax, fget_fput_same _ _ rfl, hold]
  exact Nat.mod_eq_of_lt (max_lt hlt (lt_of_le_of_lt (min_le_left _ _) (by decide)))

end

theorem tileComplete_going {n : Fin 64} {i j k cycles : Nat} {s : State} (hcell : s.ras.cells.getD n.val none = some (i, j, k)) (hon : rasterOn s = true) :
    Yields (.tileComplete ⟨n, cycles⟩) s fun t =>
      fget t Reg.RAS_TILE_MAX_CYCLES = max (fget s Reg.RAS_TILE_MAX_CYCLES) (min (2 ^ 32 - 1) cycles) ∧ t.ras.ring = s.ras.ring ∧
      t.flow = s.flow ∧ t.job = s.job ∧ EventsKept [Ev.OVER_BUDGET, Ev.MON_LIMIT, Ev.ECC_UE, Ev.ECC_CE_HIGH] s t ∧ DramKept s t := by
  have hgone := rasterGone_rasterGo (tileEnded n.val i j k cycles s)
  refine ⟨_, congrArg Host.Outcome.next (tileComplete_eq hcell hon), ?_, ?_, ?_, ?_, ?_, ?_⟩
  · exact (hgone.fget (by decide) (by decide) (by decide)).trans (tileEnded_max n.val i j k cycles s)
  · rw [hgone.slots.1, tileEnded_ras]
    rfl
  · rw [← tileComplete_eq hcell hon]
    simp
  · rw [← tileComplete_eq hcell hon]
    simp
  · exact (eventsKept_tileEnded n.val i j k cycles s).trans (hgone.events.mono memEvents_tile)
  · rw [← tileComplete_eq hcell hon]
    exact dramKept_of_eq (by simp)

theorem tileCounted_mine {i j k cycles : Nat} {bad : Bool} {c : Render} (hi : c.stripeIdx = i) (hj : c.band = j) :
    tileCounted i j k cycles bad c = c.tileDone k cycles bad := by
  simp [tileCounted, hi, hj]

theorem tileCounted_beside {i j k cycles : Nat} {bad : Bool} {c : Render} (h : c.stripeIdx ≠ i ∨ c.band ≠ j) :
    tileCounted i j k cycles bad c = c := by
  rcases h with h | h <;> simp [tileCounted, h]

/-- A tile that is not its band's last is counted, and the band goes on. -/
theorem tileComplete_counts {n : Fin 64} {i j k cycles : Nat} {s : State} (hcell : s.ras.cells.getD n.val none = some (i, j, k)) (hon : rasterOn s = true)
    {c : Render} (hc : c ∈ s.ras.current) (hi : c.stripeIdx = i) (hj : c.band = j) (hlast : c.done + 1 ≠ 2080) :
    Yields (.tileComplete ⟨n, cycles⟩) s fun t => ∃ u ∈ t.ras.current, u.stripeIdx = i ∧ u.band = j ∧ u.done = c.done + 1 ∧
      u.cycles = c.cycles + cycles ∧ u.bound = c.bound ∧ (DramReads s → u.unreadable = c.unreadable) := by
  have hgone := rasterGone_rasterGo (tileEnded n.val i j k cycles s)
  have hmem : c.tileDone k cycles (tileReads i j s).2 ∈ (tileEnded n.val i j k cycles s).ras.current := by
    rw [tileEnded_ras, ← tileCounted_mine (i := i) (j := j) hi hj]
    exact List.mem_map_of_mem hc
  obtain ⟨u, hu, heq⟩ := hgone.current _ hmem hlast
  refine ⟨_, congrArg Host.Outcome.next (tileComplete_eq hcell hon), u, hu, ?_⟩
  rw [heq]
  refine ⟨hi, hj, rfl, rfl, rfl, fun hreads => ?_⟩
  have hgood : (tileReads i j s).2 = false := readSome_good hreads _ _
  rw [hgood]
  rfl

/-- The stripe's data and what its bands draw follow the rasterizer's and the cache's data. -/
theorem bandFormed_doses (c : Render) {s v : State} (hjob : v.job = s.job) (hcache : v.cache = s.cache) (hgeoms : v.ras.geoms = s.ras.geoms)
    (hstripes : v.ras.stripes = s.ras.stripes) (hnot : (stripeData s c.stripeIdx).isRejected c.band = false) :
    (bandFormed c v).w = bandDoses (stripeData s c.stripeIdx).classes (bandDrawn s c.stripeIdx c.band) c.band true ∧
    (bandFormed c v).v = bandDoses (stripeData s c.stripeIdx).classes (bandDrawn s c.stripeIdx c.band) c.band false := by
  have hdata : stripeData v c.stripeIdx = stripeData s c.stripeIdx := by rw [stripeData, stripeData, StripeData.fresh, StripeData.fresh, hstripes, hjob]
  have hdrawn : bandDrawn v c.stripeIdx c.band = bandDrawn s c.stripeIdx c.band := by rw [bandDrawn, bandDrawn, hgeoms, hcache]
  simp [bandFormed, hdata, hdrawn, hnot]

section
variable (n i j k cycles : Nat) (s : State)

theorem tileNoted_rest : (tileNoted n i j k cycles s).job = s.job ∧ (tileNoted n i j k cycles s).cache = s.cache := by
  have hrest := (accessed_tileRead n i j s).only.rest
  have hnoted := (cyclesNoted_notes i j (tileTaken n i j k cycles (tileReads i j s).2 (tileRead n i j s))).1
  have hjob : (tileRead n i j s).job = s.job := by rw [hrest]
  have hcache : (tileRead n i j s).cache = s.cache := by rw [hrest]
  unfold tileNoted
  rw [hnoted]
  exact ⟨hjob, hcache⟩

theorem tileEnded_rest : (tileEnded n i j k cycles s).job = s.job ∧ (tileEnded n i j k cycles s).cache = s.cache := by
  obtain ⟨mon, ev, h⟩ := tileEnded_eq n i j k cycles s
  rw [h]
  exact tileNoted_rest n i j k cycles s

end

theorem promote_full {s : State} (h : 2 ≤ s.ras.pending.length) : promote s = s := by
  unfold promote
  split
  · exact if_neg (by omega)
  · rfl

theorem promote_busy {s : State} {rest : List Render} (hcurrent : s.ras.current = rest) (h : ∀ d ∈ rest, d.done ≠ 2080) : promote s = s := by
  unfold promote
  split
  · next c cs hcs => exact if_neg fun hdone => h c (by rw [← hcurrent, hcs]; exact List.mem_cons_self) hdone.1
  · rfl

theorem promote_done {s : State} {c : Render} {rest : List Render} (hcurrent : s.ras.current = c :: rest) (hdone : c.done = 2080)
    (h : s.ras.pending.length < 2) : promote s = finishBand c rest s := by
  unfold promote
  rw [hcurrent]
  exact if_pos ⟨hdone, h⟩

/-- The pending area after the oldest band's last tile. -/
theorem rasterGo_forms {s : State} {c : Render} {rest : List Render} (hcurrent : s.ras.current = c :: rest) (hdone : c.done = 2080)
    (hrest : ∀ d ∈ rest, d.done ≠ 2080) : (2 ≤ s.ras.pending.length → (rasterGo s).ras.pending = s.ras.pending) ∧
      (s.ras.pending.length < 2 → (rasterGo s).ras.pending = s.ras.pending ++ [bandFormed c s]) := by
  refine ⟨fun h => ?_, fun h => ?_⟩
  · rw [rasterGo, promote_full h, promote_full h, pending_rasterStart]
  · obtain ⟨hpending, hleft⟩ := pending_finishBand c rest s
    rw [rasterGo, promote_done hcurrent hdone h, promote_busy hleft hrest, pending_rasterStart, hpending]

/-- A tile that is the last of the oldest band. -/
theorem tileTaken_last {n i j k cycles : Nat} {bad : Bool} {s : State} {c : Render} {rest : List Render} (hcurrent : s.ras.current = c :: rest)
    (hi : c.stripeIdx = i) (hj : c.band = j) (hrest : ∀ d ∈ rest, d.done ≠ 2080 ∧ (d.stripeIdx ≠ i ∨ d.band ≠ j)) :
    (tileTaken n i j k cycles bad s).ras.current = c.tileDone k cycles bad :: rest := by
  have hmap : rest.map (tileCounted i j k cycles bad) = rest := List.map_congr_left (g := id) (fun d hd => tileCounted_beside (hrest d hd).2) ▸ List.map_id rest
  change s.ras.current.map (tileCounted i j k cycles bad) = _
  rw [hcurrent, List.map_cons, tileCounted_mine hi hj, hmap]

theorem cyclesNoted_last {i j k cycles : Nat} {bad : Bool} {s : State} {c : Render} {rest : List Render} (hcurrent : s.ras.current = c.tileDone k cycles bad :: rest)
    (hi : c.stripeIdx = i) (hj : c.band = j) (hlast : c.done + 1 = 2080) : cyclesNoted i j s = bandCycles (c.tileDone k cycles bad) s := by
  have hmine : ((c.tileDone k cycles bad).stripeIdx == i && (c.tileDone k cycles bad).band == j) && (c.tileDone k cycles bad).done == 2080 := by
    simp [Render.tileDone, hi, hj, hlast]
  rw [cyclesNoted, hcurrent, List.find?_cons_of_pos (p := fun c : Render => (c.stripeIdx == i && c.band == j) && c.done == 2080) hmine]

/-- The last tile of the oldest band: its cycles and budget are noted, and the band waits as soon as there is room. -/
theorem tileComplete_last {n : Fin 64} {i j k cycles : Nat} {s : State} (hcell : s.ras.cells.getD n.val none = some (i, j, k)) (hon : rasterOn s = true)
    {c : Render} {rest : List Render} (hcurrent : s.ras.current = c :: rest) (hi : c.stripeIdx = i) (hj : c.band = j) (hlast : c.done + 1 = 2080)
    (hrest : ∀ d ∈ rest, d.done ≠ 2080 ∧ (d.stripeIdx ≠ i ∨ d.band ≠ j)) :
    Yields (.tileComplete ⟨n, cycles⟩) s fun t =>
      (2 ≤ s.ras.pending.length → t.ras.pending = s.ras.pending) ∧
      (s.ras.pending.length < 2 → ∃ p, t.ras.pending = s.ras.pending ++ [p] ∧ p.stripeIdx = i ∧ p.band = j ∧
        ((stripeData s i).isRejected j = false → p.w = bandDoses (stripeData s i).classes (bandDrawn s i j) j true ∧
          p.v = bandDoses (stripeData s i).classes (bandDrawn s i j) j false)) ∧
      fget t Reg.RAS_BAND_CYCLES_CYCLES = min (2 ^ 32 - 1) (c.cycles + cycles) ∧
      (fget s Reg.RAS_BUDGET_CYCLES < c.bound → t.ev.bits.getLsbD Ev.OVER_BUDGET = true ∧
        fget t Reg.RAS_OVER_BUDGET_COUNT = min 65535 (fget s Reg.RAS_OVER_BUDGET_COUNT + 1)) := by
  set d := c.tileDone k cycles (tileReads i j s).2 with hd
  set u := tileEnded n.val i j k cycles s with hu
  have hgone := rasterGone_rasterGo u
  have huras : u.ras = (tileTaken n.val i j k cycles (tileReads i j s).2 s).ras := tileEnded_ras n.val i j k cycles s
  have hucurrent : u.ras.current = d :: rest := by rw [huras, tileTaken_last hcurrent hi hj hrest]
  have hupending : u.ras.pending = s.ras.pending := by rw [huras]; rfl
  obtain ⟨hfull, hroom⟩ := rasterGo_forms hucurrent hlast fun e he => (hrest e he).1
  rw [hupending] at hfull hroom
  have hread := accessed_tileRead n.val i j s
  have htaken : (tileTaken n.val i j k cycles (tileReads i j s).2 (tileRead n.val i j s)).ras.current = d :: rest :=
    tileTaken_last (by rw [hread.only.ras]; exact hcurrent) hi hj hrest
  have hnoted : tileNoted n.val i j k cycles s = bandCycles d (tileTaken n.val i j k cycles (tileReads i j s).2 (tileRead n.val i j s)) :=
    cyclesNoted_last htaken hi hj hlast
  have hregs := tileEnded_regs n.val i j k cycles s
  have hmax := regsKept_fput (ks := [Reg.RAS_TILE_MAX]) (f := Reg.RAS_TILE_MAX_CYCLES) (List.mem_singleton_self _)
    (max (fget (tileNoted n.val i j k cycles s) Reg.RAS_TILE_MAX_CYCLES) (min Reg.RAS_TILE_MAX_CYCLES.top cycles)) (tileNoted n.val i j k cycles s)
  obtain ⟨hcycles, hbudget⟩ := bandCycles_counts d (tileTaken n.val i j k cycles (tileReads i j s).2 (tileRead n.val i j s))
  rw [← hnoted] at hcycles hbudget
  refine ⟨_, congrArg Host.Outcome.next (tileComplete_eq hcell hon), hfull, fun h => ⟨_, hroom h, hi, hj, fun hnot => ?_⟩, ?_, fun h => ?_⟩
  · obtain ⟨hjob, hcache⟩ := tileEnded_rest n.val i j k cycles s
    have hdi : d.stripeIdx = i := hi
    have hdj : d.band = j := hj
    have hform := bandFormed_doses d (s := s) (v := u) hjob hcache (by rw [huras]; rfl) (by rw [huras]; rfl) (by rw [hdi, hdj]; exact hnot)
    rw [hdi, hdj] at hform
    exact hform
  · rw [hgone.fget (by decide) (by decide) (by decide), fget_regs hregs]
    exact (hmax.fget (by decide)).trans hcycles
  · have hbound : fget s Reg.RAS_BUDGET_CYCLES = fget (tileTaken n.val i j k cycles (tileReads i j s).2 (tileRead n.val i j s)) Reg.RAS_BUDGET_CYCLES :=
      (hread.fget (by decide) (by decide)).symm
    have hcount : fget (tileTaken n.val i j k cycles (tileReads i j s).2 (tileRead n.val i j s)) Reg.RAS_OVER_BUDGET_COUNT = fget s Reg.RAS_OVER_BUDGET_COUNT :=
      hread.fget (by decide) (by decide)
    obtain ⟨hraised, hcounted⟩ := hbudget (by rw [← hbound]; exact h)
    have hev : u.ev.bits.getLsbD Ev.OVER_BUDGET = (tileNoted n.val i j k cycles s).ev.bits.getLsbD Ev.OVER_BUDGET :=
      (eventsKept_sample _ _ (fmax Reg.RAS_TILE_MAX_CYCLES cycles (tileNoted n.val i j k cycles s))) Ev.OVER_BUDGET (by decide) (by decide)
    refine ⟨?_, ?_⟩
    · rw [hgone.events Ev.OVER_BUDGET (by decide) (by decide), hev, hraised]
    · rw [hgone.fget (by decide) (by decide) (by decide), fget_regs hregs, ← hcount]
      exact (hmax.fget (by decide)).trans hcounted

theorem tileComplete_idle {n : Fin 64} {cycles : Nat} {s : State} (h : s.ras.cells.getD n.val none = none ∨ rasterOn s = false) :
    Yields (.tileComplete ⟨n, cycles⟩) s fun t => t = s := by
  refine ⟨_, rfl, ?_⟩
  unfold tileComplete
  cases hcell : s.ras.cells.getD n.val none with
  | none => rfl
  | some tile =>
    obtain ⟨i, j, k⟩ := tile
    have hoff := h.resolve_left (by rw [hcell]; exact Option.some_ne_none _)
    exact if_pos (by rw [hoff]; rfl)

/-! ## Finalization -/

/-- The registers of the correction engine that show its work. -/
def engineRegs : List Nat := [Reg.PEC_STATUS, Reg.PEC_PROBE_VAL, Reg.PEC_PROBE_F]

/-- The correction engine reads what a band's doses take: the memories are at work, and densities that cannot be read are marked. -/
structure Gathering (s t : State) : Prop where
  rest : t = { s with regs := t.regs, ev := t.ev, hbm := t.hbm, ecc := t.ecc, free := t.free, ras := { s.ras with density := t.ras.density } }
  regs : ∀ k, k / 65536 ≠ 0x0B → k / 65536 ≠ 0x0C → k ∉ engineRegs → rget t k = rget s k
  reads : DramReads s → DramReads t ∧ t.ras.density = s.ras.density

theorem Gathering.trans {s t u : State} (h : Gathering s t) (h' : Gathering t u) : Gathering s u := by
  refine ⟨?_, fun k hb hc hk => (h'.regs k hb hc hk).trans (h.regs k hb hc hk), fun hs => ?_⟩
  · rw [h'.rest, h.rest]
  · obtain ⟨ht, hdensity⟩ := h.reads hs
    obtain ⟨hu, hdensity'⟩ := h'.reads ht
    exact ⟨hu, hdensity'.trans hdensity⟩

theorem Accessed.gathering {s t : State} (h : Accessed s t) : Gathering s t :=
  ⟨by rw [h.only.rest], fun k hb hc _ => h.only.regs k hb hc, fun hs => ⟨h.reads hs, by rw [h.only.ras]⟩⟩

theorem gathering_fput {f : Field} (hf : f.reg ∈ engineRegs) (v : Nat) (s : State) : Gathering s (fput f v s) := by
  have hkept := regsKept_fput hf v s
  exact ⟨rfl, fun k _ _ hk => hkept k hk, fun ⟨hdouble, hpoison, hfence, hmode⟩ => ⟨⟨hdouble, hpoison, (hkept _ (by decide)).trans hfence, hmode⟩, rfl⟩⟩

theorem gathering_spoilTiles {s t : State} (h : Gathering s t) (i j : Nat) {ks : List Nat} (hks : DramReads s → ks = []) : Gathering s (spoilTiles i j ks t) := by
  refine ⟨?_, h.regs, fun hs => ?_⟩
  · exact congrArg (fun u : State => { u with ras := { u.ras with density := (spoilTiles i j ks t).ras.density } }) h.rest
  · rw [hks hs]
    exact h.reads hs

theorem gathering_spoilAll {s t : State} (h : Gathering s t) (i : Nat) {l : List (Nat × List Nat)} (hl : DramReads s → ∀ p ∈ l, p.2 = []) :
    Gathering s (l.foldl (fun s p => spoilTiles i p.1 p.2 s) t) := by
  induction l generalizing t with
  | nil => exact h
  | cons p l ih =>
    exact ih (gathering_spoilTiles h i p.1 fun hs => hl hs p List.mem_cons_self) fun hs q hq => hl hs q (List.mem_cons_of_mem p hq)

theorem densityBad_of_reads {s : State} (h : DramReads s) (d : StripeData) (j : Nat) : densityBad s d j = [] := by
  unfold densityBad
  split
  · rfl
  · simp [unitBad_of_reads h]

theorem pendingBad_of_reads {s : State} (h : DramReads s) (p : Pending) : pendingBad s p = [] := by
  simp [pendingBad, rangeBad_of_reads h]

theorem accessed_readUnitsIf (c : Bool) {port : Nat} (hp : port < 16) (a n : Nat) (s : State) : Accessed s (if c then s else readUnits port a n s) := by
  split
  · exact accessed_refl s
  · exact accessed_readUnits hp a n s

/-- The densities that a band's factors take are read. -/
def densitiesRead (d : StripeData) (j : Nat) (s : State) : State :=
  readUnits Port.bandWrite (dmapStore d.stripeIdx) (10 * ((tileRows
    ((nearBands j).foldl (fun s b => if d.isRejected b then s else readUnits Port.bandWrite (densityStore d.stripeIdx b) 2080 s) s) d.stripeIdx + 63) / 64))
    ((nearBands j).foldl (fun s b => if d.isRejected b then s else readUnits Port.bandWrite (densityStore d.stripeIdx b) 2080 s) s)

theorem accessed_densitiesRead (d : StripeData) (j : Nat) (s : State) : Accessed s (densitiesRead d j s) :=
  (accessed_foldl (g := fun s b => if d.isRejected b then s else readUnits Port.bandWrite (densityStore d.stripeIdx b) 2080 s)
    (fun b v => accessed_readUnitsIf _ (by decide) _ _ v) (nearBands j) s).trans (accessed_readUnits (by decide) _ _ _)

theorem gathering_readDensities (d : StripeData) (j : Nat) (s : State) : Gathering s (readDensities d j s) := by
  have hwrite := accessed_writeSram (82 * 262144) (4 * 262144) s
  unfold readDensities
  dsimp only
  generalize writeSram (82 * 262144) (4 * 262144) s = v at hwrite ⊢
  split
  · exact hwrite.gathering
  · refine gathering_spoilAll (t := densitiesRead d j v) (hwrite.trans (accessed_densitiesRead d j v)).gathering d.stripeIdx fun hs p hp => ?_
    obtain ⟨b, -, rfl⟩ := List.mem_map.1 hp
    exact densityBad_of_reads (hwrite.reads hs) d b

/-- The band as it is read for finalization. -/
theorem readPending_reads (d : StripeData) (p : Pending) (s : State) : Gathering s (readPending d p s).1 ∧
    (∃ l, (readPending d p s).2 = { p with unreadable := l }) ∧ (DramReads s → (readPending d p s).2 = p) := by
  unfold readPending
  split
  · exact ⟨gathering_readDensities d p.band s, ⟨p.unreadable, rfl⟩, fun _ => rfl⟩
  · have hread : Accessed s (readUnits Port.bandWrite p.base 17039360 s) := accessed_readUnits (by decide) _ _ s
    refine ⟨gathering_spoilTiles (hread.gathering.trans (gathering_readDensities d p.band _)) _ _ fun hs => pendingBad_of_reads hs p, ⟨_, rfl⟩, fun hs => ?_⟩
    rw [pendingBad_of_reads hs p]
    exact congrArg (fun l => { p with unreadable := l }) (List.append_nil _)

theorem gathering_useFree (s : State) : Gathering s (useFree s) := ⟨rfl, fun _ _ _ _ => rfl, fun hs => ⟨hs, rfl⟩⟩

theorem gathering_refl (s : State) : Gathering s s := ⟨rfl, fun _ _ _ _ => rfl, fun hs => ⟨hs, rfl⟩⟩

theorem gathering_probeTile (d : StripeData) (p : Pending) (s : State) : Gathering s (probeTile d p s) := by
  have hputs : ∀ a b c e, Gathering s (fput Reg.PEC_PROBE_F_FACTOR a (fput Reg.PEC_PROBE_VAL_S_IDX b (fput Reg.PEC_PROBE_VAL_L_IDX c
      (fput Reg.PEC_PROBE_VAL_DENSITY e s)))) := fun a b c e =>
    (((gathering_fput (by simp [engineRegs]) e s).trans (gathering_fput (by simp [engineRegs]) c _)).trans (gathering_fput (by simp [engineRegs]) b _)).trans
      (gathering_fput (by simp [engineRegs]) a _)
  unfold probeTile
  dsimp only
  split
  · exact gathering_refl s
  · split
    · exact (hputs _ _ _ _).trans (gathering_useFree _)
    · exact hputs _ _ _ _

/-- The band lead taken anew. -/
theorem leadTo_takes (left : Nat) (s : State) : (∃ mon ev, leadTo left s = { s with regs := (leadTo left s).regs, mon, ev }) ∧
    RegsKept [Reg.RAS_BAND_LEAD, Reg.RAS_LEAD_MIN] s (leadTo left s) ∧ fget (leadTo left s) Reg.RAS_BAND_LEAD_BANDS = s.ras.ring.length % 2 ^ 9 := by
  unfold leadTo
  dsimp only
  split
  · next h =>
    refine ⟨⟨s.mon, s.ev, rfl⟩, fun _ _ => rfl, ?_⟩
    rw [h]
    exact (Nat.mod_mod _ _).symm
  · let v := fmin Reg.RAS_LEAD_MIN_BANDS s.ras.ring.length (fput Reg.RAS_BAND_LEAD_BANDS s.ras.ring.length s)
    have hv : RegsKept [Reg.RAS_BAND_LEAD, Reg.RAS_LEAD_MIN] s v := (regsKept_fput (f := Reg.RAS_BAND_LEAD_BANDS) (by simp) _ s).trans
      (regsKept_fput (f := Reg.RAS_LEAD_MIN_BANDS) (by simp) _ _)
    have hlead : fget v Reg.RAS_BAND_LEAD_BANDS = s.ras.ring.length % 2 ^ 9 :=
      ((regsKept_fput (f := Reg.RAS_LEAD_MIN_BANDS) (List.mem_singleton_self _) _ _).fget (by decide)).trans (fget_fput_same _ _ rfl _)
    obtain ⟨mon, ev, hsample⟩ := sample_eq Src.bandLead [(s.ras.ring.length : Int)] v
    have hregs : ∀ b, (raiseIf b Ev.LEAD_LOW (sample Src.bandLead [(s.ras.ring.length : Int)] v)).regs = v.regs := fun b => by
      rw [hsample]
      cases b <;> rfl
    refine ⟨?_, ?_, ?_⟩
    · rw [raiseIf]
      split
      · exact ⟨mon, _, by rw [show fmin Reg.RAS_LEAD_MIN_BANDS s.ras.ring.length (fput Reg.RAS_BAND_LEAD_BANDS s.ras.ring.length s) = v from rfl, hsample]; rfl⟩
      · exact ⟨mon, ev, by rw [show fmin Reg.RAS_LEAD_MIN_BANDS s.ras.ring.length (fput Reg.RAS_BAND_LEAD_BANDS s.ras.ring.length s) = v from rfl, hsample]; rfl⟩
    · exact hv.trans (regsKept_of_eq (hregs _))
    · exact (fget_regs (hregs _) _).trans hlead

/-- What a band's doses are formed from. -/
def bandGathered (p : Pending) (s : State) : State :=
  let d := stripeData s p.stripeIdx
  let r := readPending d p (fput Reg.PEC_STATUS_ACTIVE (if d.active then 1 else 0) s)
  probeTile d r.2 r.1

def bandRead (p : Pending) (s : State) : Pending :=
  let d := stripeData s p.stripeIdx
  (readPending d p (fput Reg.PEC_STATUS_ACTIVE (if d.active then 1 else 0) s)).2

theorem gathering_bandGathered (p : Pending) (s : State) : Gathering s (bandGathered p s) :=
  ((gathering_fput (by simp [engineRegs]) _ s).trans (readPending_reads _ p _).1).trans (gathering_probeTile _ _ _)

theorem bandRead_band (p : Pending) (s : State) : ∃ l, bandRead p s = { p with unreadable := l } := (readPending_reads _ p _).2.1

theorem bandRead_of_reads (p : Pending) {s : State} (h : DramReads s) : bandRead p s = p :=
  (readPending_reads _ p _).2.2 ((gathering_fput (f := Reg.PEC_STATUS_ACTIVE) (by simp [engineRegs]) _ s).reads h).1

/-- The targets that a band's slot stores. -/
def bandStoredTargets (d : StripeData) (p : Pending) (s : State) : List (Nat × Nat) :=
  if d.isRejected p.band then []
  else (bandTargets s d p).filter fun t => !(poisonTiles s d p).contains (t.1 / 33280 / 64 * 520 + t.1 % 33280 / 64)

/-- Pixels stored at 255 are counted. -/
def satCounted (sat : Nat) (s : State) : State := if sat = 0 then s else raise Ev.RAS_SATURATE (fcount Reg.RAS_SAT_COUNT sat s)

/-- The band stands in the ring, in the next slot. -/
def bandPlaced (p : Pending) (e : StripeEntry) (d : StripeData) (slot : Nat) (targets : List (Nat × Nat)) (s : State) : State :=
  { s with ras := { s.ras with
    pending := s.ras.pending.drop 1, nextSlot := (slot + 1) % 256
    ring := s.ras.ring ++ [⟨p.stripeIdx, p.band, slot, coverSeq d p.band, bandBytes e d p.band targets⟩]
    released := s.ras.released.filter fun b => b.slot != slot
    density := s.ras.density.filter fun q => !((densityBand q.1).1 == p.stripeIdx && decide ((densityBand q.1).2 < p.band)) } }

/-- The slot is written and the saturated pixels counted. -/
def bandWritten (p : Pending) (e : StripeEntry) (s : State) : State :=
  let d := stripeData s p.stripeIdx
  let u := bandGathered p s
  let q := bandRead p s
  satCounted (if e.makeup then 0 else ((bandStoredTargets d q u).filter fun t => decide (255 < t.2)).length)
    (writeSlot u.ras.nextSlot (poisonTiles u d q) u)

/-- The band stands in the ring. -/
def bandRinged (p : Pending) (e : StripeEntry) (s : State) : State :=
  bandPlaced (bandRead p s) e (stripeData s p.stripeIdx) (bandGathered p s).ras.nextSlot
    (bandStoredTargets (stripeData s p.stripeIdx) (bandRead p s) (bandGathered p s)) (bandWritten p e s)

theorem finalizeBand_eq (p : Pending) (e : StripeEntry) (s : State) : finalizeBand p e s = rasterGo (leadSync (bandRinged p e s)) := rfl

theorem leadSync_takes (s : State) : (leadSync s).ras = s.ras ∧ (leadSync s).win = s.win ∧ RegsKept [Reg.RAS_BAND_LEAD, Reg.RAS_LEAD_MIN] s (leadSync s) ∧
    fget (leadSync s) Reg.RAS_BAND_LEAD_BANDS = s.ras.ring.length % 2 ^ 9 := by
  obtain ⟨⟨mon, ev, heq⟩, hregs, hbands⟩ := leadTo_takes (bandsToLoad s) s
  refine ⟨?_, ?_, hregs, hbands⟩
  · rw [leadSync, heq]
  · rw [leadSync, heq]

theorem memoryOnly_writeSlot (slot : Nat) (bad : List Nat) (s : State) : MemoryOnly s (writeSlot slot bad s) :=
  (memoryOnly_writeUnits (by decide) _ _ s).trans (memoryOnly_ecc _ _)

theorem satCounted_counts (sat : Nat) (s : State) : (satCounted sat s).ras = s.ras ∧ RegsKept [Reg.RAS_SAT] s (satCounted sat s) ∧
    fget (satCounted sat s) Reg.RAS_SAT_COUNT = min (2 ^ 32 - 1) (fget s Reg.RAS_SAT_COUNT + sat) := by
  unfold satCounted
  split
  · next h =>
    have hlt : fget s Reg.RAS_SAT_COUNT < 2 ^ 32 := Nat.mod_lt _ (by decide)
    exact ⟨rfl, fun _ _ => rfl, by omega⟩
  · exact ⟨rfl, regsKept_fput (f := Reg.RAS_SAT_COUNT) (List.mem_singleton_self _) _ s, fget_fcount rfl sat s⟩

section
variable (p : Pending) (e : StripeEntry) (s : State)

theorem bandGathered_ras : (bandGathered p s).ras = { s.ras with density := (bandGathered p s).ras.density } :=
  congrArg State.ras (gathering_bandGathered p s).rest

theorem bandWritten_ras : (bandWritten p e s).ras = { s.ras with density := (bandGathered p s).ras.density } := by
  unfold bandWritten
  dsimp only
  rw [(satCounted_counts _ _).1, (memoryOnly_writeSlot _ _ _).ras]
  exact bandGathered_ras p s

/-- The band that finalization puts into the ring. -/
def ringBand : Band :=
  ⟨p.stripeIdx, p.band, s.ras.nextSlot, coverSeq (stripeData s p.stripeIdx) p.band,
    bandBytes e (stripeData s p.stripeIdx) p.band (bandStoredTargets (stripeData s p.stripeIdx) (bandRead p s) (bandGathered p s))⟩

theorem bandRinged_ras : (bandRinged p e s).ras.ring = s.ras.ring ++ [ringBand p e s] ∧ (bandRinged p e s).ras.pending = s.ras.pending.drop 1 ∧
    (bandRinged p e s).ras.nextSlot = (s.ras.nextSlot + 1) % 256 := by
  have hslot : (bandGathered p s).ras.nextSlot = s.ras.nextSlot := by rw [bandGathered_ras]
  have hras := bandWritten_ras p e s
  obtain ⟨l, hread⟩ := bandRead_band p s
  refine ⟨?_, ?_, ?_⟩
  · change (bandWritten p e s).ras.ring ++ [_] = _
    rw [hras, ringBand, hslot, show (bandRead p s).stripeIdx = p.stripeIdx by rw [hread], show (bandRead p s).band = p.band by rw [hread]]
  · change (bandWritten p e s).ras.pending.drop 1 = _
    rw [hras]
  · change ((bandGathered p s).ras.nextSlot + 1) % 256 = _
    rw [hslot]

end

/-- With every word of DRAM readable and no tile poisoned, the slot stores every target. -/
theorem bandStoredTargets_reads {p : Pending} {s : State} (hreads : DramReads s) (hnot : (stripeData s p.stripeIdx).isRejected p.band = false)
    (hpoison : poisonTiles s (stripeData s p.stripeIdx) p = []) :
    bandStoredTargets (stripeData s p.stripeIdx) (bandRead p s) (bandGathered p s) = bandTargets s (stripeData s p.stripeIdx) p := by
  have hgather := gathering_bandGathered p s
  obtain ⟨hreads', hdensity⟩ := hgather.reads hreads
  have hjob : (bandGathered p s).job = s.job := by rw [hgather.rest]
  set u := bandGathered p s with hu
  set d := stripeData s p.stripeIdx with hd
  have hstripe : ∀ i, stripeAt u i = stripeAt s i := fun i => by rw [stripeAt, stripeAt, hjob]
  have hrows : ∀ i, tileRows u i = tileRows s i := fun i => by rw [tileRows, tileRows, hstripe]
  have hat : ∀ i row col, densityAt u i row col = densityAt s i row col := fun i row col => by rw [densityAt, densityAt, hrows, hdensity]
  have hshort : ∀ kernel i row col, shortIndex u kernel i row col = shortIndex s kernel i row col := fun kernel i row col => by
    simp only [shortIndex, hat]
  have hfactor : ∀ row col, tileFactor u d row col = tileFactor s d row col := fun row col => by
    simp only [tileFactor, hjob, hshort]
  have htargets : bandTargets u d p = bandTargets s d p := by simp only [bandTargets, hfactor]
  have hnear : ∀ i row col, nearUnreadable u i row col = nearUnreadable s i row col := fun i row col => by simp only [nearUnreadable, hat]
  have hcoarse : ∀ i row col, coarseBad u i row col = coarseBad s i row col := fun i row col => by
    rw [coarseBad, coarseBad, unitBad_of_reads hreads', unitBad_of_reads hreads]
  have htiles : poisonTiles u d p = [] := by
    rw [← hpoison]
    simp only [poisonTiles, hnear, hcoarse]
  rw [bandRead_of_reads p hreads, bandStoredTargets, hnot, if_neg Bool.false_ne_true, htiles, htargets]
  exact List.filter_eq_self.2 fun _ _ => rfl

theorem storedDose_plain {e : StripeEntry} (h : e.makeup = false) (d : StripeData) (j k t : Nat) : storedDose e d j k t = min 255 t := by
  rw [storedDose, h]
  rfl

/-- Pixels stored at 255 are counted, where every word of DRAM is readable and no tile is poisoned. -/
theorem bandRinged_saturates {p : Pending} {e : StripeEntry} {s : State} (hreads : DramReads s) (hnot : (stripeData s p.stripeIdx).isRejected p.band = false)
    (hpoison : poisonTiles s (stripeData s p.stripeIdx) p = []) (hplain : e.makeup = false) :
    fget (bandRinged p e s) Reg.RAS_SAT_COUNT = min (2 ^ 32 - 1) (fget s Reg.RAS_SAT_COUNT +
      ((bandTargets s (stripeData s p.stripeIdx) p).filter (fun q => decide (255 < q.2))).length) := by
  have hgather : fget (bandGathered p s) Reg.RAS_SAT_COUNT = fget s Reg.RAS_SAT_COUNT :=
    fget_congr ((gathering_bandGathered p s).regs _ (by decide) (by decide) (by decide))
  have hslot : ∀ slot bad v, fget (writeSlot slot bad v) Reg.RAS_SAT_COUNT = fget v Reg.RAS_SAT_COUNT := fun slot bad v =>
    fget_congr ((memoryOnly_writeSlot slot bad v).regs _ (by decide) (by decide))
  change fget (bandWritten p e s) Reg.RAS_SAT_COUNT = _
  unfold bandWritten
  dsimp only
  rw [(satCounted_counts _ _).2.2, hslot, hgather, bandStoredTargets_reads hreads hnot hpoison, hplain]
  rfl

/-- The ring's new band, where every word of DRAM is readable and no tile is poisoned. -/
theorem ringBand_dose {p : Pending} {e : StripeEntry} {s : State} (hreads : DramReads s) (hnot : (stripeData s p.stripeIdx).isRejected p.band = false)
    (hpoison : poisonTiles s (stripeData s p.stripeIdx) p = []) : (ringBand p e s).dose =
      bandBytes e (stripeData s p.stripeIdx) p.band (bandTargets s (stripeData s p.stripeIdx) p) :=
  congrArg (bandBytes e (stripeData s p.stripeIdx) p.band) (bandStoredTargets_reads hreads hnot hpoison)

theorem ringBand_rejected {p : Pending} {e : StripeEntry} {s : State} (h : (stripeData s p.stripeIdx).isRejected p.band = true) :
    (ringBand p e s).dose = [] := by
  obtain ⟨l, hread⟩ := bandRead_band p s
  have hnone : bandStoredTargets (stripeData s p.stripeIdx) (bandRead p s) (bandGathered p s) = [] := by
    rw [bandStoredTargets, show (bandRead p s).band = p.band by rw [hread]]
    exact if_pos h
  rw [ringBand, hnone]
  rfl

theorem bandBytes_plain {e : StripeEntry} (h : e.makeup = false) (d : StripeData) (j : Nat) (targets : List (Nat × Nat)) : bandBytes e d j targets =
    targets.filterMap (fun q => if min 255 q.2 = 0 then none else some (doseOffset q.1, min 255 q.2)) := by
  unfold bandBytes
  refine List.filterMap_congr fun q _ => ?_
  dsimp only
  rw [storedDose, h]
  rfl

theorem bandFinalize_eq {p : Pending} {ps : List Pending} {e : StripeEntry} {s : State} (hpending : s.ras.pending = p :: ps) (he : stripeAt s p.stripeIdx = some e)
    (hon : rasterOn s = true) (hmay : mayFinalize s p = true) : bandFinalize s = finalizeBand p e s := by
  unfold bandFinalize
  rw [hpending]
  dsimp only
  rw [he]
  exact if_pos (by rw [hon, hmay]; rfl)

/-- The oldest rendered band goes into the ring. -/
theorem bandFinalize_finalizes {p : Pending} {ps : List Pending} {e : StripeEntry} {s : State} (hpending : s.ras.pending = p :: ps)
    (he : stripeAt s p.stripeIdx = some e) (hon : rasterOn s = true) (hmay : mayFinalize s p = true) : Yields .bandFinalize s fun t =>
      let d := stripeData s p.stripeIdx
      (∃ b, t.ras.ring = s.ras.ring ++ [b] ∧ b.stripeIdx = p.stripeIdx ∧ b.band = p.band ∧ b.slot = s.ras.nextSlot ∧ b.seq = coverSeq d p.band ∧
        (d.isRejected p.band = true → b.dose = []) ∧
        (d.isRejected p.band = false → DramReads s → poisonTiles s d p = [] →
          b.dose = bandBytes e d p.band (bandTargets s d p) ∧
          (e.makeup = false →
            b.dose = (bandTargets s d p).filterMap (fun q => if min 255 q.2 = 0 then none else some (doseOffset q.1, min 255 q.2)) ∧
            fget t Reg.RAS_SAT_COUNT = min (2 ^ 32 - 1) (fget s Reg.RAS_SAT_COUNT +
              ((bandTargets s d p).filter (fun q => decide (255 < q.2))).length)))) ∧
      (∃ l, t.ras.pending = ps ++ l) ∧ t.ras.nextSlot = (s.ras.nextSlot + 1) % 256 ∧ fget t Reg.RAS_BAND_LEAD_BANDS = s.ras.ring.length + 1 ∧
      t.flow = s.flow ∧ t.job = s.job ∧ DramKept s t := by
  have hgone := rasterGone_rasterGo (leadSync (bandRinged p e s))
  obtain ⟨hras, -, hregs, hlead⟩ := leadSync_takes (bandRinged p e s)
  obtain ⟨hring, hwaiting, hslot⟩ := bandRinged_ras p e s
  have hroom : s.ras.ring.length < 256 := by
    unfold mayFinalize at hmay
    simp only [Bool.and_eq_true, decide_eq_true_eq] at hmay
    exact hmay.1
  have heq : bandFinalize s = rasterGo (leadSync (bandRinged p e s)) := bandFinalize_eq hpending he hon hmay
  refine ⟨_, congrArg Host.Outcome.next heq, ⟨ringBand p e s, ?_, rfl, rfl, rfl, rfl, ringBand_rejected, fun hnot hreads hpoison =>
    ⟨ringBand_dose hreads hnot hpoison, fun hplain => ⟨?_, ?_⟩⟩⟩, ?_, ?_, ?_, ?_, ?_, ?_⟩
  · rw [hgone.slots.1, hras, hring]
  · rw [ringBand_dose hreads hnot hpoison, bandBytes_plain hplain]
  · rw [hgone.fget (by decide) (by decide) (by decide), hregs.fget (by decide), bandRinged_saturates hreads hnot hpoison hplain]
  · obtain ⟨l, hl⟩ := hgone.pending
    exact ⟨l, by rw [hl, hras, hwaiting, hpending]; rfl⟩
  · rw [hgone.slots.2.2, hras, hslot]
  · rw [hgone.fget (by decide) (by decide) (by decide), hlead, hring, List.length_append, List.length_singleton]
    exact Nat.mod_eq_of_lt (by omega)
  · rw [← heq]
    simp
  · rw [← heq]
    simp
  · rw [← heq]
    exact dramKept_of_eq (by simp)

theorem bandFinalize_idle {s : State} (h : ∀ p ps e, s.ras.pending = p :: ps → stripeAt s p.stripeIdx = some e → rasterOn s = true → mayFinalize s p = false) :
    Yields .bandFinalize s fun t => t = s := by
  refine ⟨_, rfl, ?_⟩
  unfold bandFinalize
  split
  · rfl
  · next p ps hpending =>
    split
    · next e he =>
      refine if_neg fun hmay => ?_
      obtain ⟨hon, hmay⟩ := Bool.and_eq_true_iff.1 hmay
      rw [h p ps e hpending he hon] at hmay
      exact Bool.false_ne_true hmay
    · rfl

/-! ## The Window's rows -/

/-- Whole units are written without a read. -/
theorem sramRmw_whole {w n : Nat} (hw : w % 8 = 0) (hn : n % 8 = 0) (hpos : 0 < n) (s : State) : sramRmw s w n = [] := by
  unfold sramRmw
  refine List.flatMap_eq_nil_iff.2 fun u hu => if_pos (.inl ?_)
  rcases List.mem_cons.1 (List.mem_eraseDups.1 hu) with rfl | hu
  · omega
  · obtain rfl := List.mem_singleton.1 hu
    omega

/-- An injection changes its own register alone. -/
theorem injection_leaves (k : EccResult) (e : Ecc) (s : State) :
    (if k = .clean then s else useFree (fput Reg.ECC_INJECT_KIND 0 { s with ecc := e })).ev = s.ev ∧
    RegsKept [Reg.ECC_INJECT] s (if k = .clean then s else useFree (fput Reg.ECC_INJECT_KIND 0 { s with ecc := e })) := by
  split
  · exact ⟨rfl, fun _ _ => rfl⟩
  · exact ⟨rfl, regsKept_fput (f := Reg.ECC_INJECT_KIND) (List.mem_singleton_self _) _ _⟩

theorem writeSram_whole {w n : Nat} (hw : w % 8 = 0) (hn : n % 8 = 0) (hpos : 0 < n) (s : State) : (writeSram w n s).ev = s.ev ∧ RegsKept [Reg.ECC_INJECT] s (writeSram w n s) := by
  unfold writeSram
  dsimp only
  rw [sramRmw_whole hw hn hpos, List.foldl_nil]
  exact injection_leaves _ _ (sramPlaced w n s)

/-- The Window with row `v` resident. -/
def rowTaken (v : Int) (bytes : List (Nat × Nat)) (w : Window) : Window :=
  { w with next := v + 1, low := max w.low (v - 4607), bytes := bytes ++ w.bytes.filter fun p => p.1 / 33280 != ringRow v }

theorem placeRow_takes (v : Int) (bytes : List (Nat × Nat)) (bad : List Nat) (s : State) : (placeRow v bytes bad s).win = rowTaken v bytes s.win ∧
    (placeRow v bytes bad s).ras = s.ras ∧ (placeRow v bytes bad s).ev = s.ev ∧ RegsKept [Reg.ECC_INJECT] s (placeRow v bytes bad s) := by
  have hras := (memoryOnly_writeSram (winWord (ringRow v) 0) 4160 s).ras
  obtain ⟨hev, hregs⟩ := writeSram_whole (w := winWord (ringRow v) 0) (n := 4160) (by unfold winWord; omega) (by decide) (by decide) s
  exact ⟨rfl, hras, hev, hregs⟩

theorem sampleEach_eq (src n : Nat) (s : State) : ∃ mon ev free, sampleEach src n s = { s with mon, ev, free } := by
  induction n generalizing s with
  | zero => exact ⟨s.mon, s.ev, s.free, rfl⟩
  | succ n ih =>
    obtain ⟨mon, ev, hsample⟩ := sample_eq src [(freeNat s % 2 ^ 31 : Nat)] s
    obtain ⟨mon', ev', free', h⟩ := ih (useFree (sample src [(freeNat s % 2 ^ 31 : Nat)] s))
    exact ⟨mon', ev', free', by rw [sampleEach, h, hsample]; rfl⟩

theorem sampleFree_eq (src n : Nat) (s : State) : ∃ mon ev free, sampleFree src n s = { s with mon, ev, free } := by
  unfold sampleFree
  split
  · exact sampleEach_eq src n s
  · exact ⟨s.mon, s.ev, s.free + n, rfl⟩

/-- A row is read from its band's slot and stands in the Window. -/
def rowLoaded (b : Band) (v : Nat) (s : State) : State :=
  let units := (List.range 520).map (ringUnit b.slot (v % 256))
  let bad := (List.range 520).filter fun i => unitBad s (ringUnit b.slot (v % 256) i)
  let s := units.foldl (fun s u => readUnit Port.windowFill u s) (countUrgent Port.windowFill 520 s)
  sampleFree Src.windowFill 520
    (placeRow v (bandRow b (v % 256) (ringRow v)) (bad.flatMap fun i => (List.range 8).map (winWord (ringRow v) (64 * i) + ·)) s)

theorem rowLoaded_takes (b : Band) (v : Nat) (s : State) : (rowLoaded b v s).win = rowTaken v (bandRow b (v % 256) (ringRow v)) s.win ∧
    (rowLoaded b v s).ras = s.ras := by
  have hread : Accessed s (((List.range 520).map (ringUnit b.slot (v % 256))).foldl (fun s u => readUnit Port.windowFill u s)
      (countUrgent Port.windowFill 520 s)) :=
    (accessed_countUrgent (by decide) 520 s).trans (accessed_foldl (fun u w => accessed_readUnit Port.windowFill u w) _ _)
  unfold rowLoaded
  dsimp only
  generalize ((List.range 520).map (ringUnit b.slot (v % 256))).foldl _ _ = u at hread ⊢
  obtain ⟨mon, ev, free, hsample⟩ := sampleFree_eq Src.windowFill 520 (placeRow v (bandRow b (v % 256) (ringRow v))
    (((List.range 520).filter fun i => unitBad s (ringUnit b.slot (v % 256) i)).flatMap fun i => (List.range 8).map (winWord (ringRow v) (64 * i) + ·)) u)
  rw [hsample]
  obtain ⟨hwin, hras, -, -⟩ := placeRow_takes v (bandRow b (v % 256) (ringRow v))
    (((List.range 520).filter fun i => unitBad s (ringUnit b.slot (v % 256) i)).flatMap fun i => (List.range 8).map (winWord (ringRow v) (64 * i) + ·)) u
  exact ⟨hwin.trans (by rw [hread.only.rest]), hras.trans hread.only.ras⟩

theorem loadRow_eq (b : Band) (v : Nat) (s : State) : loadRow b v s = if v % 256 = 255 then releaseBand b (rowLoaded b v s) else rowLoaded b v s := rfl

section
variable {s : State} {i : Nat} {e : StripeEntry} (hi : s.win.stripeIdx = some i) (he : stripeAt s i = some e)
include hi he

theorem windowRow_eq (hgath : powered s Dom.GATH = true) (hmay : rowMayLoad s e i = true) : windowRow s =
    if s.win.next < 0 ∨ (e.h : Int) ≤ s.win.next then placeRow s.win.next [] [] s
    else match finishedBand s i (s.win.next / 256).toNat with
      | some b => loadRow b s.win.next.toNat s
      | none => s := by
  unfold windowRow
  rw [hi]
  dsimp only
  rw [he]
  exact if_neg (by simp [hgath, hmay])

/-- Outside the stripe a row is empty. -/
theorem windowRowWrite_empty (hgath : powered s Dom.GATH = true) (hmay : rowMayLoad s e i = true) (hout : s.win.next < 0 ∨ (e.h : Int) ≤ s.win.next) :
    Yields .windowRowWrite s fun t => t.win.next = s.win.next + 1 ∧ t.win.low = max s.win.low (s.win.next - 4607) ∧
      t.win.bytes = s.win.bytes.filter (fun p => p.1 / 33280 != ringRow s.win.next) ∧ t.ras = s.ras ∧ Quiet [Reg.ECC_INJECT] s t := by
  have hrow : windowRow s = placeRow s.win.next [] [] s := (windowRow_eq hi he hgath hmay).trans (if_pos hout)
  obtain ⟨hwin, hras, hev, hregs⟩ := placeRow_takes s.win.next [] [] s
  have hexec : exec .windowRowWrite s = .next (placeRow s.win.next [] [] s) := by
    change Host.Outcome.next _ = _
    rw [hrow, if_neg (by rw [hras]; exact lt_irrefl _)]
  refine ⟨_, hexec, ?_, ?_, ?_, hras, by simp, by simp, hev, hregs, dramKept_of_eq (by simp)⟩
  · rw [hwin]
    rfl
  · rw [hwin]
    rfl
  · rw [hwin]
    rfl

theorem windowRow_loads (hgath : powered s Dom.GATH = true) (hmay : rowMayLoad s e i = true) {b : Band} (hlo : 0 ≤ s.win.next) (hhi : s.win.next < e.h)
    (hb : finishedBand s i (s.win.next / 256).toNat = some b) : windowRow s = loadRow b s.win.next.toNat s := by
  rw [windowRow_eq hi he hgath hmay, if_neg (by omega), hb]

end

/-- A band that the ring does not hold has no slot to give back. -/
theorem releaseBand_takes (b : Band) (s : State) : (releaseBand b s).win = s.win ∧ (releaseBand b s).ras.ring = s.ras.ring.filter (fun c => c != b) ∧
    (b ∈ s.ras.ring → (releaseBand b s).ras.released = s.ras.released ++ [b] ∧
      fget (releaseBand b s) Reg.RAS_BAND_LEAD_BANDS = (releaseBand b s).ras.ring.length % 2 ^ 9) := by
  unfold releaseBand
  split
  · next h =>
    obtain ⟨hras, hwin, -, hlead⟩ := leadSync_takes { s with ras := { s.ras with ring := s.ras.ring.filter (· != b), released := s.ras.released ++ [b] } }
    refine ⟨hwin, by rw [hras], fun _ => ⟨by rw [hras], ?_⟩⟩
    rw [hlead, hras]
  · next h =>
    have hnot : b ∉ s.ras.ring := fun hb => h (List.contains_iff_mem.2 hb)
    refine ⟨rfl, (List.filter_eq_self.2 fun c hc => ?_).symm, fun hb => absurd hb hnot⟩
    simpa using fun hcb : c = b => hnot (hcb ▸ hc)

/-- A row of the stripe comes from its band's slot, which the band's last row gives back. -/
theorem windowRowWrite_loads {s : State} {i : Nat} {e : StripeEntry} (hi : s.win.stripeIdx = some i) (he : stripeAt s i = some e)
    (hgath : powered s Dom.GATH = true) (hmay : rowMayLoad s e i = true) {b : Band} (hlo : 0 ≤ s.win.next) (hhi : s.win.next < e.h)
    (hb : finishedBand s i (s.win.next / 256).toNat = some b) : Yields .windowRowWrite s fun t =>
      t.win.next = s.win.next + 1 ∧ t.win.low = max s.win.low (s.win.next - 4607) ∧
      t.win.bytes = bandRow b (s.win.next.toNat % 256) (ringRow s.win.next) ++ s.win.bytes.filter (fun p => p.1 / 33280 != ringRow s.win.next) ∧
      (s.win.next % 256 = 255 → t.ras.ring = s.ras.ring.filter (fun c => c != b) ∧
        (b ∈ s.ras.ring → t.ras.released = s.ras.released ++ [b] ∧ fget t Reg.RAS_BAND_LEAD_BANDS = t.ras.ring.length % 2 ^ 9)) ∧
      (s.win.next % 256 ≠ 255 → t.ras = s.ras) ∧ t.flow = s.flow ∧ t.job = s.job ∧ DramKept s t := by
  have hrow := windowRow_loads hi he hgath hmay hlo hhi hb
  obtain ⟨hwin, hras⟩ := rowLoaded_takes b s.win.next.toNat s
  have hv : ((s.win.next.toNat : Nat) : Int) = s.win.next := Int.toNat_of_nonneg hlo
  rw [hv] at hwin
  have hframe : ∀ t, exec .windowRowWrite s = .next t → t.flow = s.flow ∧ t.job = s.job ∧ DramKept s t := fun t ht => by
    obtain rfl : (if (windowRow s).ras.ring.length < s.ras.ring.length then rasterGo (windowRow s) else windowRow s) = t := Host.Outcome.next.inj ht
    split
    · exact ⟨by simp, by simp, dramKept_of_eq (by simp)⟩
    · exact ⟨by simp, by simp, dramKept_of_eq (by simp)⟩
  have hexec : exec .windowRowWrite s = .next (if (windowRow s).ras.ring.length < s.ras.ring.length then rasterGo (windowRow s) else windowRow s) := rfl
  by_cases hlast : s.win.next % 256 = 255
  · obtain ⟨hrwin, hring, hreleased⟩ := releaseBand_takes b (rowLoaded b s.win.next.toNat s)
    have heq : windowRow s = releaseBand b (rowLoaded b s.win.next.toNat s) := by
      rw [hrow, loadRow_eq, if_pos (by omega)]
    rw [hras] at hring hreleased
    rw [heq] at hexec
    obtain ⟨hflow, hjob, hdram⟩ := hframe _ hexec
    split at hexec
    · next hless =>
      rw [if_pos hless] at hflow hjob hdram
      have hgone := rasterGone_rasterGo (releaseBand b (rowLoaded b s.win.next.toNat s))
      have hgwin : (rasterGo (releaseBand b (rowLoaded b s.win.next.toNat s))).win = rowTaken s.win.next (bandRow b (s.win.next.toNat % 256) (ringRow s.win.next)) s.win := by
        rw [hgone.rest]
        exact hrwin.trans hwin
      refine ⟨_, hexec, by rw [hgwin]; rfl, by rw [hgwin]; rfl, by rw [hgwin]; rfl, fun _ => ⟨hgone.slots.1.trans hring, fun hmem => ⟨?_, ?_⟩⟩,
        fun h => absurd hlast h, hflow, hjob, hdram⟩
      · exact hgone.slots.2.1.trans (hreleased hmem).1
      · rw [hgone.fget (by decide) (by decide) (by decide), hgone.slots.1]
        exact (hreleased hmem).2
    · next hless =>
      rw [if_neg hless] at hflow hjob hdram
      have hwin' := hrwin.trans hwin
      exact ⟨_, hexec, by rw [hwin']; rfl, by rw [hwin']; rfl, by rw [hwin']; rfl, fun _ => ⟨hring, hreleased⟩, fun h => absurd hlast h, hflow, hjob, hdram⟩
  · have heq : windowRow s = rowLoaded b s.win.next.toNat s := by
      rw [hrow, loadRow_eq, if_neg (by omega)]
    rw [heq, if_neg (by rw [hras]; exact lt_irrefl _)] at hexec
    obtain ⟨hflow, hjob, hdram⟩ := hframe _ hexec
    exact ⟨_, hexec, by rw [hwin]; rfl, by rw [hwin]; rfl, by rw [hwin]; rfl, fun h => absurd h hlast, fun _ => hras, hflow, hjob, hdram⟩

theorem windowRowWrite_idle {s : State} (h : ∀ i e, s.win.stripeIdx = some i → stripeAt s i = some e → powered s Dom.GATH = true → rowMayLoad s e i = false) :
    Yields .windowRowWrite s fun t => t = s := by
  have hrow : windowRow s = s := by
    unfold windowRow
    split
    · rfl
    · next i hi =>
      split
      · rfl
      · next e he =>
        refine if_pos ?_
        cases hgath : powered s Dom.GATH with
        | false => rfl
        | true => rw [h i e hi he hgath]; rfl
  refine ⟨_, rfl, ?_⟩
  rw [hrow, if_neg (lt_irrefl _)]

/-- Settles O51: a tile's end, finalization and a row's reading move the memories' registers and codes beside the rasterizer's own data; the
rasterizer's going on after each keeps the ring and adds to the pending area alone. -/
theorem bandsRender : Obligations.BandsRender := by
  unfold Obligations.BandsRender
  intro s
  refine ⟨fun n cycles i j k hcell hon => ⟨tileComplete_going hcell hon, fun c hc hi hj hlast => tileComplete_counts hcell hon hc hi hj hlast,
    fun c rest hcurrent hi hj hlast hrest => tileComplete_last hcell hon hcurrent hi hj hlast hrest⟩, fun n cycles h => tileComplete_idle h,
    fun p ps e hpending he hon hmay => bandFinalize_finalizes hpending he hon hmay, bandFinalize_idle, fun i e hi he hgath hmay => ?_, windowRowWrite_idle⟩
  exact ⟨fun hout => windowRowWrite_empty hi he hgath hmay hout, fun b hlo hhi hb => windowRowWrite_loads hi he hgath hmay hlo hhi hb⟩

end Sys2Proof.Machine
end

section
/-!
PROOFS. What the votes of a check run leave of OUT_STATUS and the links when they are withdrawn; the supply and the clocks (O33).
-/

namespace Sys2Proof.Machine

/-! ## A register whose entry is in the list, or gone with its domain -/

/-- No entry of the register file is of this register. -/
def NoEntry (k : Nat) (s : State) : Prop := ∀ e ∈ s.regs, e.1 ≠ k

theorem get_of_noEntry {m : List (Nat × Word)} {k : Nat} (h : ∀ e ∈ m, e.1 ≠ k) : Sparse.get regPor m k = regPor k := by
  induction m with
  | nil => rfl
  | cons e m ih =>
    obtain ⟨j, v⟩ := e
    have hj : j ≠ k := h (j, v) List.mem_cons_self
    rw [Sparse.get_cons, if_neg (Ne.symm hj)]
    split
    · rfl
    · exact ih fun e he => h e (List.mem_cons_of_mem _ he)

theorem rget_of_noEntry {k : Nat} {s : State} (h : NoEntry k s) : rget s k = regPor k := get_of_noEntry h

theorem mem_set {d : Nat → Word} {m : List (Nat × Word)} {k : Nat} {v : Word} {e : Nat × Word} (h : e ∈ Sparse.set d m k v) : e.1 = k ∨ e ∈ m := by
  induction m with
  | nil =>
    unfold Sparse.set at h
    split at h
    · cases h
    · rw [List.mem_singleton.1 h]
      exact .inl rfl
  | cons x m ih =>
    obtain ⟨j, w⟩ := x
    unfold Sparse.set at h
    split at h
    · split at h
      · exact .inr (List.mem_cons_of_mem _ ((List.dropWhile_sublist _).mem h))
      · rcases List.mem_cons.1 h with rfl | h
        · exact .inl rfl
        · exact .inr (List.mem_cons_of_mem _ h)
    · split at h
      · split at h
        · exact .inr h
        · rcases List.mem_cons.1 h with rfl | h
          · exact .inl rfl
          · exact .inr h
      · rcases List.mem_cons.1 h with rfl | h
        · exact .inr List.mem_cons_self
        · exact (ih h).imp id fun h => List.mem_cons_of_mem _ h

/-- An entry that reads stays before every other of its register as others are dropped. -/
theorem get_filter_kept {m : List (Nat × Word)} {k : Nat} {p : Nat × Word → Bool} (hread : Sparse.get regPor m k ≠ regPor k)
    (hp : ∀ v, p (k, v) = true) : Sparse.get regPor (m.filter p) k = Sparse.get regPor m k := by
  induction m with
  | nil => rfl
  | cons e m ih =>
    obtain ⟨j, v⟩ := e
    rw [Sparse.get_cons] at hread ⊢
    split at hread
    · next h =>
      subst h
      rw [List.filter_cons_of_pos (hp v), Sparse.get_cons, if_pos rfl, if_pos rfl]
    · next h =>
      split at hread
      · exact absurd rfl hread
      · next hlt =>
        rw [if_neg h, if_neg hlt]
        cases hpe : p (j, v) with
        | true => rw [List.filter_cons_of_pos hpe, Sparse.get_cons, if_neg h, if_neg hlt, ih hread]
        | false => rw [List.filter_cons_of_neg (by simp [hpe]), ih hread]

/-- A register that does not read its POR value keeps what it reads, or is gone with its domain, for good. -/
structure HeldOrGone (k : Nat) (s t : State) : Prop where
  gone : NoEntry k s → NoEntry k t
  held : rget s k ≠ regPor k → rget t k = rget s k ∨ NoEntry k t

section
variable {k : Nat} {s t u : State}

theorem HeldOrGone.trans (h : HeldOrGone k s t) (h' : HeldOrGone k t u) : HeldOrGone k s u := by
  refine ⟨fun hs => h'.gone (h.gone hs), fun hs => ?_⟩
  rcases h.held hs with ht | ht
  · rcases h'.held (by rwa [ht]) with hu | hu
    · exact .inl (hu.trans ht)
    · exact .inr hu
  · exact .inr (h'.gone ht)

theorem heldOrGone_of_regs (h : t.regs = s.regs) : HeldOrGone k s t :=
  ⟨fun hs => by rwa [NoEntry, h], fun _ => .inl (rget_regs_congr h k)⟩

theorem heldOrGone_rset {j : Nat} (h : k ≠ j) (v : Word) (s : State) : HeldOrGone k s (rset j v s) :=
  ⟨fun hs e he => (mem_set he).elim (fun hj hk => h (hk.symm.trans hj)) (hs e), fun _ => .inl (rget_rset_other _ _ _ _ h)⟩

theorem heldOrGone_fput {f : Field} (h : k ≠ f.reg) (v : Nat) (s : State) : HeldOrGone k s (fput f v s) := heldOrGone_rset h _ s

theorem heldOrGone_fputBit {f : Field} (h : k ≠ f.reg) (n : Nat) (b : Bool) (s : State) : HeldOrGone k s (fputBit f n b s) := by
  unfold fputBit
  split
  · exact heldOrGone_of_regs rfl
  · exact heldOrGone_fput h _ s

theorem heldOrGone_dropRegs (d : Nat) (s : State) : HeldOrGone k s (dropRegs d s) := by
  refine ⟨fun hs e he => hs e (List.mem_filter.1 he).1, fun hs => ?_⟩
  cases hd : (domainBlocks d).contains (k / 65536) with
  | true =>
    refine .inr fun e he hk => ?_
    have hnot := (List.mem_filter.1 he).2
    dsimp only at hnot
    rw [hk, hd] at hnot
    cases hnot
  | false => exact .inl (get_filter_kept hs fun _ => by dsimp only; rw [hd]; rfl)

end

/-! ## Votes withdrawn -/

/-- The fields of PWR_STATUS that the supply's events write. -/
def supplyFields : List Field := [Reg.PWR_STATUS_WARN, Reg.PWR_STATUS_RECOVERING]

theorem supplyFields_reg : ∀ f ∈ supplyFields, f.reg = Reg.PWR_STATUS := by decide

/-- Votes leave the state of the links and of the supply, and OUT_STATUS but where it goes with its domain. -/
structure OutLeft (s t : State) : Prop where
  out : t.out = { s.out with lanes := t.out.lanes, strobes := t.out.strobes }
  shown : HeldOrGone Reg.OUT_STATUS s t
  supply : ∀ f ∈ supplyFields, fget t f = fget s f

theorem OutLeft.trans {s t u : State} (h : OutLeft s t) (h' : OutLeft t u) : OutLeft s u :=
  ⟨by rw [h'.out, h.out], h.shown.trans h'.shown, fun f hf => (h'.supply f hf).trans (h.supply f hf)⟩

theorem outLeft_of_eq {s t : State} (hout : t.out = s.out) (hregs : t.regs = s.regs) : OutLeft s t :=
  ⟨by rw [hout], heldOrGone_of_regs hregs, fun f _ => fget_regs hregs f⟩

theorem outLeft_rset {k : Nat} (h : Reg.OUT_STATUS ≠ k ∧ Reg.PWR_STATUS ≠ k) (v : Word) (s : State) : OutLeft s (rset k v s) :=
  ⟨rfl, heldOrGone_rset h.1 v s, fun f hf => fget_congr (rget_rset_other _ _ _ _ (by rw [supplyFields_reg f hf]; exact h.2))⟩

theorem outLeft_fput {f : Field} (h : Reg.OUT_STATUS ≠ f.reg ∧ Reg.PWR_STATUS ≠ f.reg) (v : Nat) (s : State) : OutLeft s (fput f v s) := outLeft_rset h _ s

theorem outLeft_rpor {k : Nat} (h : Reg.OUT_STATUS ≠ k ∧ Reg.PWR_STATUS ≠ k) (s : State) : OutLeft s (rpor k s) := outLeft_rset h _ s

theorem outLeft_raiseIf (b : Bool) (n : Nat) (s : State) : OutLeft s (raiseIf b n s) := by
  cases b <;> exact outLeft_of_eq rfl rfl

theorem outLeft_dropPorts (s : State) : OutLeft s (dropPorts s) := by
  let u := raiseIf (fbit s Reg.COH_STATUS_EAST_UP && !(s.flow.mode == .rest)) Ev.COH_EAST_DOWN s
  let v := raiseIf (fbit u Reg.COH_STATUS_WEST_UP && !(s.flow.mode == .rest)) Ev.COH_WEST_DOWN u
  let w := if (s.flow.mode == .rest) = true then v else rpor Reg.COH_FRAME_ERR (rpor Reg.COH_DELAY v)
  let x : State := { w with coh := { w.coh with heardEast := false, heardWest := false, peers := w.coh.peers.map fun q => { q with alive := none } } }
  have hv : OutLeft s v := (outLeft_raiseIf _ _ s).trans (outLeft_raiseIf _ _ u)
  have hw : OutLeft v w := by
    simp only [w]
    split
    · exact outLeft_of_eq rfl rfl
    · exact (outLeft_rpor (by decide) v).trans (outLeft_rpor (by decide) _)
  have hx : OutLeft w x := outLeft_of_eq rfl rfl
  exact ((((hv.trans hw).trans hx).trans (outLeft_fput (f := Reg.COH_STATUS_WEST_UP) (by decide) 0 x)).trans
    (outLeft_fput (f := Reg.COH_STATUS_EAST_UP) (by decide) 0 _)).trans
    ((outLeft_fput (f := Reg.COH_LANES_WEST) (by decide) 0 _).trans (outLeft_fput (f := Reg.COH_LANES_EAST) (by decide) 0 _))

theorem outLeft_dropEthernet (s : State) : OutLeft s (dropContents Dom.ETH s) := by
  let v := if s.flow.mode = .rest then s else rpor Reg.TIM_TS_DROP (rpor Reg.TIM_PTP_OFS s)
  have hv : OutLeft s v := by
    simp only [v]
    split
    · exact outLeft_of_eq rfl rfl
    · exact (outLeft_rpor (by decide) s).trans (outLeft_rpor (by decide) _)
  have hts : OutLeft v { v with tim := { v.tim with ts := [] } } := outLeft_of_eq rfl rfl
  exact (hv.trans hts).trans (outLeft_fput (f := Reg.TIM_TS_COUNT_ENTRIES) (by decide) 0 _)

theorem outLeft_dropContents (d : Nat) (s : State) : OutLeft s (dropContents d s) := by
  unfold dropContents
  split
  case h_4 => exact outLeft_dropPorts s
  case h_5 => exact outLeft_dropEthernet s
  case h_3 => exact ⟨rfl, heldOrGone_of_regs rfl, fun _ _ => rfl⟩
  all_goals exact outLeft_of_eq rfl rfl

theorem supplyField_fputBit {f : Field} (hf : f ∈ supplyFields) (n : Nat) (b : Bool) (s : State) : fget (fputBit Reg.PWR_STATUS_DOMAINS n b s) f = fget s f := by
  have hbeside : ∀ f ∈ supplyFields, (f.hi < Reg.PWR_STATUS_DOMAINS.lo ∨ Reg.PWR_STATUS_DOMAINS.hi < f.lo) ∧ f.lo ≤ f.hi := by decide
  unfold fputBit
  split
  · rfl
  · exact fget_fput_beside s Reg.PWR_STATUS_DOMAINS f rfl _ (hbeside f hf).1 (hbeside f hf).2

theorem outLeft_dropDomain (d : Nat) (s : State) : OutLeft s (dropDomain d s) := by
  have hbanks : ∀ (l : List (Nat × Nat)) (u : State), OutLeft u (l.foldl (fun s b => emptyBanks b.1 b.2 s) u) := by
    intro l
    induction l with
    | nil => exact fun _ => outLeft_of_eq rfl rfl
    | cons b l ih => exact fun u => (outLeft_of_eq (s := u) (t := emptyBanks b.1 b.2 u) rfl rfl).trans (ih _)
  unfold dropDomain
  split
  · have hput : OutLeft s (fputBit Reg.PWR_STATUS_DOMAINS d false s) :=
      ⟨by simp, heldOrGone_fputBit (by decide) _ _ _, fun f hf => supplyField_fputBit hf d false s⟩
    have hdrop : OutLeft (fputBit Reg.PWR_STATUS_DOMAINS d false s) (dropRegs d (fputBit Reg.PWR_STATUS_DOMAINS d false s)) :=
      ⟨rfl, heldOrGone_dropRegs d _, fun f hf => fget_congr (by rw [supplyFields_reg f hf]; exact highKept_dropRegs [] d _ _ (by decide) (by simp))⟩
    exact ((hput.trans hdrop).trans (outLeft_dropContents d _)).trans (hbanks _ _)
  · exact outLeft_of_eq rfl rfl

theorem outLeft_settleDrop (n d : Nat) (s : State) : OutLeft s (settleDrop n d s) := by
  induction n generalizing d s with
  | zero => exact outLeft_of_eq rfl rfl
  | succ n ih =>
    unfold settleDrop
    split
    · have hdrop : OutLeft s (dropDomain d (notRaised d s)) := (outLeft_of_eq (s := s) (t := notRaised d s) rfl rfl).trans (outLeft_dropDomain d _)
      dsimp only
      split
      next e he => exact hdrop.trans (ih e _)
      · exact hdrop
    · exact outLeft_of_eq rfl rfl

theorem outLeft_setVote (d c : Nat) (on : Bool) (s : State) : OutLeft s (setVote d c on s) := by
  have hput : OutLeft s (fputBit (Reg.PWR_VOTE_VOTES d) c on s) :=
    ⟨by simp, heldOrGone_fputBit (Nat.ne_of_lt (by simp only [Reg.PWR_VOTE, Reg.OUT_STATUS]; omega)) _ _ _, fun f hf => (regsKept_fputBit
      (List.mem_singleton_self _) c on s).fget (by rw [supplyFields_reg f hf, List.mem_singleton, Reg.PWR_STATUS]; simp only [Reg.PWR_VOTE]; omega)⟩
  unfold setVote
  dsimp only
  split
  · rw [raiseDomain_eq]
    split
    · exact hput.trans (outLeft_of_eq rfl rfl)
    · rw [voteAnew_eq]
      exact hput.trans (outLeft_of_eq rfl rfl)
  split
  · refine (hput.trans ?_).trans (outLeft_settleDrop 4 d _)
    rw [noteWithdrawn_eq]
    exact outLeft_of_eq rfl rfl
  · exact hput

theorem outLeft_setVotes (ds : List Nat) (c : Nat) (on : Bool) (s : State) : OutLeft s (setVotes ds c on s) := by
  unfold setVotes
  induction ds generalizing s with
  | nil => exact outLeft_of_eq rfl rfl
  | cons d ds ih => exact (outLeft_setVote d c on s).trans (ih _)

/-! ## The end of a check run, and the cut of every output -/

/-- A check run closes, but for its votes. -/
def checkClosed (s : State) : State :=
  let s := { s with health := { s.health with run := none, windows := [] }, shots := (s.shots.map Shot.abandonCheck).filter fun sh => !sh.checkOver }
  let s := fput Reg.OUT_STATUS_BLANK 1 s
  if s.flow.mode = .service then
    fput Reg.OUT_STATUS_SETTLED 0 (fput Reg.OUT_STATUS_EXPOSE_EN 0 { s with out := { s.out with exposeSince := none } })
  else s

theorem closeCheckRun_eq (s : State) : closeCheckRun s =
    if (checkClosed s).beams.applyCmd.isNone && (checkClosed s).beams.queue.isEmpty then setVotes [Dom.GATH, Dom.OUT] Client.cal false (checkClosed s)
    else checkClosed s := rfl

theorem checkClosed_shows (s : State) : (checkClosed s).out = { s.out with exposeSince := (checkClosed s).out.exposeSince } ∧
    fbit (checkClosed s) Reg.OUT_STATUS_BLANK = true ∧ fbit (checkClosed s) Reg.OUT_STATUS_LINK_LOSS = fbit s Reg.OUT_STATUS_LINK_LOSS ∧
    RegsKept [Reg.OUT_STATUS] s (checkClosed s) := by
  let u : State := { s with health := { s.health with run := none, windows := [] }, shots := (s.shots.map Shot.abandonCheck).filter fun sh => !sh.checkOver }
  have hblank : fbit (fput Reg.OUT_STATUS_BLANK 1 u) Reg.OUT_STATUS_BLANK = true := fbit_fput_blank u
  have hlost : fbit (fput Reg.OUT_STATUS_BLANK 1 u) Reg.OUT_STATUS_LINK_LOSS = fbit s Reg.OUT_STATUS_LINK_LOSS :=
    fbit_fput_beside u Reg.OUT_STATUS_BLANK Reg.OUT_STATUS_LINK_LOSS rfl 1 (by decide) (by decide)
  have hregs : RegsKept [Reg.OUT_STATUS] s (fput Reg.OUT_STATUS_BLANK 1 u) := regsKept_fput (f := Reg.OUT_STATUS_BLANK) (List.mem_singleton_self _) 1 u
  unfold checkClosed
  dsimp only
  split
  · let v : State := { fput Reg.OUT_STATUS_BLANK 1 u with out := { u.out with exposeSince := none } }
    have hoff : ∀ g : Field, g.lo ≤ g.hi → (g.hi < 1 ∨ 1 < g.lo) → (g.hi < 4 ∨ 4 < g.lo) → fbit (fput Reg.OUT_STATUS_SETTLED 0 (fput Reg.OUT_STATUS_EXPOSE_EN 0 v)) g = fbit v g :=
      fun g hg hexpose hsettled => (fbit_fput_beside _ Reg.OUT_STATUS_SETTLED g rfl 0 hsettled hg).trans (fbit_fput_beside v Reg.OUT_STATUS_EXPOSE_EN g rfl 0 hexpose hg)
    exact ⟨rfl, (hoff _ (by decide) (by decide) (by decide)).trans hblank, (hoff _ (by decide) (by decide) (by decide)).trans hlost,
      hregs.trans ((regsKept_fput (f := Reg.OUT_STATUS_EXPOSE_EN) (List.mem_singleton_self _) 0 v).trans (regsKept_fput (f := Reg.OUT_STATUS_SETTLED) (List.mem_singleton_self _) 0 _))⟩
  · exact ⟨rfl, hblank, hlost, hregs⟩

/-- OUT_STATUS shows BLANK_ALL after votes are withdrawn where it shows LINK_LOSS, which its POR value does not. -/
theorem blank_of_outLeft {s t : State} (h : OutLeft s t) (hblank : fbit s Reg.OUT_STATUS_BLANK = true) (hlost : fbit s Reg.OUT_STATUS_LINK_LOSS = true) :
    fbit t Reg.OUT_STATUS_BLANK = true := by
  have hpor : ∀ u : State, rget u Reg.OUT_STATUS = regPor Reg.OUT_STATUS → fbit u Reg.OUT_STATUS_BLANK = true ∧ fbit u Reg.OUT_STATUS_LINK_LOSS = false := fun u hu => by
    unfold fbit fget
    rw [show Reg.OUT_STATUS_BLANK.reg = Reg.OUT_STATUS from rfl, hu]
    decide
  have hne : rget s Reg.OUT_STATUS ≠ regPor Reg.OUT_STATUS := fun hs => by
    rw [(hpor s hs).2] at hlost
    cases hlost
  rcases h.shown.held hne with ht | ht
  · rw [fbit, fget_congr (f := Reg.OUT_STATUS_BLANK) ht]
    exact hblank
  · exact (hpor t (rget_of_noEntry ht)).1

theorem endCheckRun_shows (s : State) : (∃ lanes strobes since, (endCheckRun s).out = { s.out with lanes, strobes, exposeSince := since }) ∧
    (fbit s Reg.OUT_STATUS_BLANK = true → fbit s Reg.OUT_STATUS_LINK_LOSS = true → fbit (endCheckRun s) Reg.OUT_STATUS_BLANK = true) := by
  unfold endCheckRun
  split
  · obtain ⟨hout, hblank, hlost, -⟩ := checkClosed_shows s
    rw [closeCheckRun_eq]
    split
    · have hvotes := outLeft_setVotes [Dom.GATH, Dom.OUT] Client.cal false (checkClosed s)
      exact ⟨⟨_, _, _, by rw [hvotes.out, hout]⟩, fun _ hl => blank_of_outLeft hvotes hblank (hlost.trans hl)⟩
    · exact ⟨⟨_, _, _, hout⟩, fun _ _ => hblank⟩
  · exact ⟨⟨_, _, _, rfl⟩, fun hb _ => hb⟩

/-- The cut keeps the state of the links and of the supply. -/
theorem assertCut_keeps (r : Reason) (t : Int) (s : State) : (assertCut r t s).out.link = s.out.link ∧ (assertCut r t s).out.supply = s.out.supply ∧
    (fbit s Reg.OUT_STATUS_LINK_LOSS = true → fbit (assertCut r t s) Reg.OUT_STATUS_BLANK = true) := by
  have hcut : ∀ u : State, u.out = s.out → fbit u Reg.OUT_STATUS_LINK_LOSS = fbit s Reg.OUT_STATUS_LINK_LOSS →
      (endCheckRun (fput Reg.OUT_STATUS_BLANK 1 u)).out.link = s.out.link ∧ (endCheckRun (fput Reg.OUT_STATUS_BLANK 1 u)).out.supply = s.out.supply ∧
      (fbit s Reg.OUT_STATUS_LINK_LOSS = true → fbit (endCheckRun (fput Reg.OUT_STATUS_BLANK 1 u)) Reg.OUT_STATUS_BLANK = true) := fun u hout hlost => by
    obtain ⟨⟨lanes, strobes, since, heq⟩, hblank⟩ := endCheckRun_shows (fput Reg.OUT_STATUS_BLANK 1 u)
    have hlost' : fbit (fput Reg.OUT_STATUS_BLANK 1 u) Reg.OUT_STATUS_LINK_LOSS = fbit u Reg.OUT_STATUS_LINK_LOSS :=
      fbit_fput_beside u Reg.OUT_STATUS_BLANK Reg.OUT_STATUS_LINK_LOSS rfl 1 (by decide) (by decide)
    rw [heq, fput_out, hout]
    exact ⟨rfl, rfl, fun hl => hblank (fbit_fput_blank u) (by rw [hlost', hlost, hl])⟩
  unfold assertCut
  dsimp only
  split
  · exact hcut _ rfl ((regsKept_fput (f := Reg.OUT_CUT_TIME_STEPS) (List.mem_singleton_self _) _ s).fbit (f := Reg.OUT_STATUS_LINK_LOSS) (by decide))
  · exact hcut _ rfl rfl

/-- LINK_LOSS is declared: whatever runs, the links are lost, and shown so once. -/
theorem declareLinkLoss_declares (t : Int) (s : State) : (declareLinkLoss t s).out.link.on = true ∧ EventsStand s (declareLinkLoss t s) ∧
    (s.out.link.on = false → (declareLinkLoss t s).ev.bits.getLsbD Ev.LINK_LOSS = true ∧ fbit (declareLinkLoss t s) Reg.OUT_STATUS_BLANK = true) := by
  unfold declareLinkLoss
  split
  · next h => exact ⟨h, eventsStand_of_ev rfl, fun hoff => by rw [h] at hoff; cases hoff⟩
  · let v : State := { s with out := { s.out with link := ⟨true, 0, none⟩ } }
    let u := raise Ev.LINK_LOSS (fput Reg.OUT_STATUS_LINK_LOSS 1 v)
    obtain ⟨hlink, -, hblank⟩ := assertCut_keeps .linkLoss t u
    have hlost : fbit u Reg.OUT_STATUS_LINK_LOSS = true := fbit_fput_same v Reg.OUT_STATUS_LINK_LOSS rfl rfl true
    have hev : (assertCut .linkLoss t u).ev = u.ev := assertCut_ev .linkLoss t u
    refine ⟨congrArg (·.on) hlink, fun n hn => ?_, fun _ => ⟨?_, hblank hlost⟩⟩
    · rw [show (assertCut .linkLoss t (raise Ev.LINK_LOSS (fput Reg.OUT_STATUS_LINK_LOSS 1 { s with out := { s.out with link := ⟨true, 0, none⟩ } }))).ev = u.ev from hev]
      exact eventsStand_raise Ev.LINK_LOSS (fput Reg.OUT_STATUS_LINK_LOSS 1 v) n hn
    · rw [show (assertCut .linkLoss t (raise Ev.LINK_LOSS (fput Reg.OUT_STATUS_LINK_LOSS 1 { s with out := { s.out with link := ⟨true, 0, none⟩ } }))).ev = u.ev from hev]
      exact raise_raises (by decide) _

/-! ## VIN -/

theorem holdAtOnce_supply (n : Nat) (r : Reason) (t : Int) (s : State) : (holdAtOnce n r t s).out.supply = s.out.supply := by
  have hcancel : (cancelResume (setCause n s)).out = s.out := by rw [holdOnly_cancelResume]; rfl
  have hu : (assertCut r t (cancelResume (setCause n s))).out.supply = s.out.supply := by rw [(assertCut_keeps r t _).2.1, hcancel]
  have hhold : ∀ u : State, (toHold u).out.supply = u.out.supply := fun u => by
    obtain ⟨v, hv, h⟩ := toHold_eq u
    obtain ⟨⟨lanes, strobes, since, hout⟩, -⟩ := endCheckRun_shows (assertBlank { u with flow := { u.flow with mode := .hold, holdReq := u.flow.ending.isSome || u.flow.restartReq } })
    have hvout : v.out.supply = u.out.supply := by
      rw [hv, hout]
      rfl
    rcases h with h | h
    · rw [h]
      exact hvout
    · rw [h, holdOnly_sendHoldSet]
      exact hvout
  obtain ⟨-, h⟩ | ⟨-, h⟩ := holdAtOnce_cases n r t s
  · rw [h]
    exact hu
  · rw [h]
    split
    · exact (hhold _).trans hu
    · exact hu

/-- A dip is counted and noted. -/
def dipNoted (s : State) : State := fcount Reg.PWR_DIP_COUNT_COUNT 1 (fput Reg.PWR_STATUS_WARN 1 (fput Reg.PWR_STATUS_RECOVERING 0 s))

theorem dipNoted_notes (s : State) : fget (dipNoted s) Reg.PWR_DIP_COUNT_COUNT = min 65535 (fget s Reg.PWR_DIP_COUNT_COUNT + 1) ∧
    fbit (dipNoted s) Reg.PWR_STATUS_WARN = true ∧ fbit (dipNoted s) Reg.PWR_STATUS_RECOVERING = false ∧
    RegsKept [Reg.PWR_STATUS, Reg.PWR_DIP_COUNT] s (dipNoted s) := by
  let u := fput Reg.PWR_STATUS_WARN 1 (fput Reg.PWR_STATUS_RECOVERING 0 s)
  have hstatus : RegsKept [Reg.PWR_STATUS] s u := (regsKept_fput (f := Reg.PWR_STATUS_RECOVERING) (List.mem_singleton_self _) 0 s).trans
    (regsKept_fput (f := Reg.PWR_STATUS_WARN) (List.mem_singleton_self _) 1 _)
  have hcount : RegsKept [Reg.PWR_DIP_COUNT] u (dipNoted s) := regsKept_fput (f := Reg.PWR_DIP_COUNT_COUNT) (List.mem_singleton_self _) _ u
  refine ⟨?_, ?_, ?_, (hstatus.mono (by simp)).trans (hcount.mono (by simp))⟩
  · rw [← hstatus.fget (f := Reg.PWR_DIP_COUNT_COUNT) (by decide)]
    exact fget_fcount rfl 1 u
  · rw [hcount.fbit (by decide)]
    exact fbit_fput_same _ Reg.PWR_STATUS_WARN rfl rfl true
  · rw [hcount.fbit (by decide), fbit_fput_beside _ Reg.PWR_STATUS_WARN Reg.PWR_STATUS_RECOVERING rfl 1 (by decide) (by decide)]
    exact fbit_fput_same _ Reg.PWR_STATUS_RECOVERING rfl rfl false

/-- The outputs are told of the dip, and a check run ends. -/
def dipTold (s : State) : State := endCheckRun (raise Ev.SUPPLY_WARN { s with out := { s.out with supply := true, supplyTo := none } })

theorem endCheckRun_supply (s : State) : ∀ f ∈ supplyFields, fget (endCheckRun s) f = fget s f := by
  intro f hf
  have hreg := supplyFields_reg f hf
  have hclosed : fget (checkClosed s) f = fget s f := (checkClosed_shows s).2.2.2.fget (by rw [hreg]; decide)
  unfold endCheckRun
  split
  · rw [closeCheckRun_eq]
    split
    · rw [(outLeft_setVotes _ _ _ _).supply f hf, hclosed]
    · exact hclosed
  · rfl

theorem dipTold_tells (s : State) : (dipTold s).out.supply = true ∧ (dipTold s).health.run = none ∧ (dipTold s).ev.bits.getLsbD Ev.SUPPLY_WARN = true ∧
    (dipTold s).flow = s.flow ∧ (∀ f ∈ supplyFields, fget (dipTold s) f = fget s f) ∧ HighKept voteRegs s (dipTold s) := by
  let u : State := raise Ev.SUPPLY_WARN { s with out := { s.out with supply := true, supplyTo := none } }
  obtain ⟨⟨lanes, strobes, since, hout⟩, -⟩ := endCheckRun_shows u
  refine ⟨?_, (endCheckRun_health u).1, ?_, by simp [dipTold], fun f hf => endCheckRun_supply u f hf, (votesQuiet_endCheckRun u).high⟩
  · exact congrArg Out.supply hout
  · change (endCheckRun u).ev.bits.getLsbD _ = true
    rw [endCheckRun_ev]
    exact raise_raises (by decide) _

theorem dipActs_eq (t : Int) (s : State) : dipActs t s =
    if fget (dipTold s) Reg.PWR_CFG_AUTO_RESUME = 0 ∧ ((dipTold s).flow.mode = .write ∨ (dipTold s).flow.mode = .hold) then holdAtOnce 3 .supplyWarn t (dipTold s)
    else assertCut .supplyWarn t (dipTold s) := rfl

/-- What a dip leaves, whether it takes a Hold or not. -/
theorem dipActs_cuts (t : Int) (s : State) : (dipActs t s).out.supply = true ∧ (dipActs t s).health.run = none ∧
    (dipActs t s).ev.bits.getLsbD Ev.SUPPLY_WARN = true ∧ fbit (dipActs t s) Reg.OUT_STATUS_BLANK = true ∧
    RegsKept (Reg.OUT_STATUS :: holdNowRegs) (dipTold s) (dipActs t s) := by
  obtain ⟨hsupply, hrun, hev, -, -, -⟩ := dipTold_tells s
  rw [dipActs_eq]
  split
  · obtain ⟨hblank, hshown⟩ := blankSet_holdAtOnce 3 .supplyWarn t hrun
    exact ⟨(holdAtOnce_supply 3 .supplyWarn t _).trans hsupply, holdAtOnce_health_run 3 .supplyWarn t _, eventsStand_holdAtOnce 3 .supplyWarn t _ _ hev, hshown,
      hblank.regs⟩
  · refine ⟨(assertCut_keeps .supplyWarn t _).2.1.trans hsupply, assertCut_health_run .supplyWarn t _, ?_, assertCut_blanks .supplyWarn t hrun,
      (blankSet_assertCut .supplyWarn t hrun).regs⟩
    rw [assertCut_ev]
    exact hev

theorem vinBelowWarning_awake {t : Int} {s : State} (hboot : s.flow.boot ≠ .held) (hmode : s.flow.mode ≠ .rest) :
    vinBelowWarning t s = dipActs t (dipNoted s) := by
  unfold vinBelowWarning
  rw [if_neg hboot]
  exact if_neg (show ¬ (dipNoted s).flow.mode = .rest from hmode)

/-- A dip outside Rest. -/
theorem vinBelowWarning_dips {s : State} (hboot : s.flow.boot ≠ .held) (t0 : Nat) (hmode : s.flow.mode ≠ .rest) : Yields (.vinBelowWarning t0) s fun t =>
      fget t Reg.PWR_DIP_COUNT_COUNT = min 65535 (fget s Reg.PWR_DIP_COUNT_COUNT + 1) ∧ fbit t Reg.PWR_STATUS_WARN = true ∧
      fbit t Reg.PWR_STATUS_RECOVERING = false ∧ t.out.supply = true ∧ t.ev.bits.getLsbD Ev.SUPPLY_WARN = true ∧ t.health.run = none ∧
      fbit t Reg.OUT_STATUS_BLANK = true ∧ t.job = s.job ∧ DramKept s t ∧
      (fget s Reg.PWR_CFG_AUTO_RESUME = 1 → t.flow = s.flow) ∧
      (fget s Reg.PWR_CFG_AUTO_RESUME = 0 → s.flow.mode = .write → s.flow.resume = .none → t.flow.mode = .hold ∧ hasCause t 3 = true ∧
        t.ev.bits.getLsbD Ev.HOLD = true) := by
  obtain ⟨hcount, hwarn, hrecovering, hnoted⟩ := dipNoted_notes s
  obtain ⟨-, -, -, hflow, hfields, hhigh⟩ := dipTold_tells (dipNoted s)
  obtain ⟨hsupply, hrun, hev, hblank, hregs⟩ := dipActs_cuts (t0 : Int) (dipNoted s)
  have hkept : ∀ f ∈ supplyFields, fget (dipActs (t0 : Int) (dipNoted s)) f = fget (dipNoted s) f := fun f hf =>
    (hregs.fget (by rw [supplyFields_reg f hf]; decide)).trans (hfields f hf)
  have hresume : fget (dipTold (dipNoted s)) Reg.PWR_CFG_AUTO_RESUME = fget s Reg.PWR_CFG_AUTO_RESUME :=
    (hhigh.fget (by decide) (by decide)).trans (hnoted.fget (by decide))
  have hflow' : (dipTold (dipNoted s)).flow = s.flow := hflow
  refine ⟨_, congrArg Host.Outcome.next (vinBelowWarning_awake hboot hmode), ?_, ?_, ?_, hsupply, hev, hrun, hblank, by simp [dipNoted], ?_, fun hauto => ?_, fun hauto hwrite hnone => ?_⟩
  · rw [hregs.fget (by decide), hhigh.fget (by decide) (by decide), hcount]
  · rw [fbit, hkept _ (by simp [supplyFields]), ← fbit, hwarn]
  · rw [fbit, hkept _ (by simp [supplyFields]), ← fbit, hrecovering]
  · exact dramKept_of_eq (by simp [dipNoted])
  · rw [dipActs_eq, hresume, hauto, if_neg (by simp)]
    simp [hflow']
  · rw [dipActs_eq, hresume, hauto, hflow', if_pos ⟨rfl, .inl hwrite⟩]
    refine ⟨holdAtOnce_holds 3 .supplyWarn t0 (by rw [hflow']; exact hwrite) (by rw [hflow', hnone]; simp), ?_,
      toHold_raises_of_write 3 .supplyWarn t0 (by rw [hflow']; exact hwrite) (by rw [hflow']; exact hnone)⟩
    rw [hasCause_holdAtOnce (by decide)]
    simp

theorem vinBelowWarning_rests {s : State} (hboot : s.flow.boot ≠ .held) (t0 : Nat) (hmode : s.flow.mode = .rest) : Yields (.vinBelowWarning t0) s fun t =>
    t.pwr.rest.dip = true ∧ t.flow = s.flow ∧ t.ev = s.ev ∧ t.out = s.out ∧ RegsKept [Reg.PWR_STATUS, Reg.PWR_DIP_COUNT] s t ∧ DramKept s t := by
  have heq : vinBelowWarning t0 s = { dipNoted s with pwr := { (dipNoted s).pwr with rest := { (dipNoted s).pwr.rest with dip := true } } } := by
    simp [vinBelowWarning, hboot, hmode, dipNoted]
  obtain ⟨-, -, -, hregs⟩ := dipNoted_notes s
  have hrest : dipNoted s = { s with regs := (dipNoted s).regs } := rfl
  generalize dipNoted s = u at heq hregs hrest
  refine ⟨_, congrArg Host.Outcome.next heq, rfl, ?_, ?_, ?_, hregs, dramKept_of_eq ?_⟩ <;> rw [hrest]

/-- The supply is back. -/
def supplyBack (s : State) : State :=
  { clearCause 3 (fput Reg.PWR_STATUS_WARN 0 (fput Reg.PWR_STATUS_RECOVERING 0 s)) with out := { s.out with supply := false } }

theorem supplyRecovery_recovers {s : State} (hboot : s.flow.boot ≠ .held) (hwarn : fbit s Reg.PWR_STATUS_WARN = true) : Yields .supplyRecovery s fun t =>
    fbit t Reg.PWR_STATUS_WARN = false ∧ t.out.supply = false ∧ hasCause t 3 = false ∧ t.flow.mode = s.flow.mode ∧
    t.ev = (raiseIf (fget s Reg.PWR_CFG_AUTO_RESUME == 1 && s.flow.mode == .write && s.armed.isSome) Ev.AUTO_RESUME s).ev ∧
    t.job = s.job ∧ RegsKept [Reg.PWR_STATUS] s t ∧ DramKept s t := by
  let u := fput Reg.PWR_STATUS_WARN 0 (fput Reg.PWR_STATUS_RECOVERING 0 s)
  have hu : RegsKept [Reg.PWR_STATUS] s u := (regsKept_fput (f := Reg.PWR_STATUS_RECOVERING) (List.mem_singleton_self _) 0 s).trans
    (regsKept_fput (f := Reg.PWR_STATUS_WARN) (List.mem_singleton_self _) 0 _)
  have hoff : fbit u Reg.PWR_STATUS_WARN = false := fbit_fput_same _ Reg.PWR_STATUS_WARN rfl rfl false
  have hcause : hasCause (clearCause 3 u) 3 = false := by rw [hasCause_clearCause (by decide)]; simp
  have hauto : fget (supplyBack s) Reg.PWR_CFG_AUTO_RESUME = fget s Reg.PWR_CFG_AUTO_RESUME := hu.fget (by decide)
  have hcases : (supplyRecovery s = supplyBack s ∧ ¬ (fget s Reg.PWR_CFG_AUTO_RESUME = 1 ∧ s.flow.mode = .write ∧ s.armed.isSome)) ∨
      ((∃ upTo, supplyRecovery s = raise Ev.AUTO_RESUME { supplyBack s with out := { (supplyBack s).out with supplyTo := upTo } }) ∧
        fget s Reg.PWR_CFG_AUTO_RESUME = 1 ∧ s.flow.mode = .write ∧ s.armed.isSome) := by
    have hnot : ¬ (s.flow.boot = .held ∨ fbit s Reg.PWR_STATUS_WARN = false) := by simp [hboot, hwarn]
    by_cases hresume : fget s Reg.PWR_CFG_AUTO_RESUME = 1 ∧ s.flow.mode = .write ∧ s.armed.isSome
    · exact .inr ⟨⟨_, (if_neg hnot).trans (if_pos (by rw [← hauto] at hresume; exact hresume))⟩, hresume⟩
    · exact .inl ⟨(if_neg hnot).trans (if_neg (by rw [← hauto] at hresume; exact hresume)), hresume⟩
  refine ⟨supplyRecovery s, rfl, ?_⟩
  obtain ⟨heq, hno⟩ | ⟨⟨upTo, heq⟩, hauto, hmode, harmed⟩ := hcases
  · have hquiet : (fget s Reg.PWR_CFG_AUTO_RESUME == 1 && s.flow.mode == .write && s.armed.isSome) = false := by
      rw [Bool.eq_false_iff]
      simpa [and_assoc] using hno
    rw [heq, hquiet]
    exact ⟨hoff, rfl, hcause, rfl, rfl, rfl, hu, dramKept_of_eq rfl⟩
  · rw [heq, hauto, hmode, harmed]
    exact ⟨hoff, rfl, hcause, hmode, rfl, rfl, hu, dramKept_of_eq rfl⟩

theorem vinCrossing_crosses {s : State} (hboot : s.flow.boot ≠ .held) (hwarn : fbit s Reg.PWR_STATUS_WARN = true) {mv : Nat} (hmv : mv ≤ 18000) :
    Yields (.vinRecoveryCrossing mv) s fun t => fbit t Reg.PWR_STATUS_RECOVERING = decide (10600 ≤ mv) ∧ fbit t Reg.PWR_STATUS_WARN = true ∧ Quiet [Reg.PWR_STATUS] s t := by
  have heq : execVinRecoveryCrossing mv s = .next (fput Reg.PWR_STATUS_RECOVERING (if 10600 ≤ mv then 1 else 0) s) := by
    unfold execVinRecoveryCrossing vinBeyond vinCrossing
    rw [if_neg (by simp; omega), if_neg (by simp [hboot, hwarn])]
  refine ⟨_, heq, ?_, ?_, rfl, rfl, rfl, regsKept_fput (f := Reg.PWR_STATUS_RECOVERING) (List.mem_singleton_self _) _ s, dramKept_of_eq rfl⟩
  · rw [fbit_fput _ _ rfl rfl]
    split <;> simp [*]
  · rw [fbit_fput_beside _ Reg.PWR_STATUS_RECOVERING Reg.PWR_STATUS_WARN rfl _ (by decide) (by decide), hwarn]

/-! ## The rails -/

theorem railBelow_warns {s : State} (hboot : s.flow.boot ≠ .held) (k : Fin 8) : Yields (.railBelowWarning k) s fun t =>
    fbitAt t Reg.PWR_RAIL_WARN_RAILS k.val = true ∧ t.ev = (raise Ev.RAIL_WARN s).ev ∧ t.flow = s.flow ∧ t.job = s.job ∧ RegsKept [Reg.PWR_RAIL_WARN] s t ∧
    DramKept s t := by
  have heq : railBelow k.val s = raise Ev.RAIL_WARN (fputBit Reg.PWR_RAIL_WARN_RAILS k.val true s) := if_neg hboot
  have hbit : fbitAt (fputBit Reg.PWR_RAIL_WARN_RAILS k.val true s) Reg.PWR_RAIL_WARN_RAILS k.val = true := by
    rw [fbitAt_fputBit s Reg.PWR_RAIL_WARN_RAILS rfl k.val k.isLt, if_pos rfl]
  refine ⟨_, congrArg Host.Outcome.next heq, hbit, ?_, by simp, by simp, regsKept_fputBit (f := Reg.PWR_RAIL_WARN_RAILS) (List.mem_singleton_self _) _ _ s,
    dramKept_of_eq (by simp)⟩
  simp [raise]

theorem railRecovery_ends (s : State) (k : Fin 8) : Yields (.railRecovery k) s fun t =>
    fbitAt t Reg.PWR_RAIL_WARN_RAILS k.val = false ∧ Quiet [Reg.PWR_RAIL_WARN] s t := by
  refine ⟨_, rfl, ?_, by simp, by simp, by simp, regsKept_fputBit (f := Reg.PWR_RAIL_WARN_RAILS) (List.mem_singleton_self _) _ _ s, dramKept_of_eq (by simp)⟩
  rw [fbitAt_fputBit s Reg.PWR_RAIL_WARN_RAILS rfl k.val k.isLt, if_pos rfl]

theorem railSample_reads {s : State} (hboot : s.flow.boot ≠ .held) {v : Nat} (rails : List Nat) (hv : v ≤ 18000) : Yields (.railSample (v :: rails)) s fun t =>
    fget t Reg.PWR_VIN_MV = min 65535 (railReading s 0 v) ∧ fget t Reg.PWR_VIN_MIN_MV = min (fget s Reg.PWR_VIN_MIN_MV) (railReading s 0 v) ∧
    t.flow = s.flow ∧ t.job = s.job ∧ RegsKept [Reg.PWR_VIN, Reg.PWR_VIN_MIN] s t ∧ DramKept s t := by
  let u := fmin Reg.PWR_VIN_MIN_MV (railReading s 0 v) (fputSat Reg.PWR_VIN_MV (railReading s 0 v) s)
  have hfold : ∀ (l : List (Nat × Nat)) (w : State), (l.foldl (fun s p => sample (Src.rail p.2) [p.1] s) w).regs = w.regs := by
    intro l
    induction l with
    | nil => exact fun _ => rfl
    | cons p l ih =>
      intro w
      obtain ⟨mon, ev, h⟩ := sample_eq (Src.rail p.2) [(p.1 : Int)] w
      rw [List.foldl_cons, ih, h]
  have heq : execRailSample (v :: rails) s = .next (railSample (v :: rails) s) := by
    unfold execRailSample vinBeyond
    exact if_neg (by simp; omega)
  have hregs : (railSample (v :: rails) s).regs = u.regs := by
    unfold railSample
    rw [if_neg hboot]
    exact hfold _ u
  have hvin : RegsKept [Reg.PWR_VIN] s (fputSat Reg.PWR_VIN_MV (railReading s 0 v) s) := regsKept_fput (f := Reg.PWR_VIN_MV) (List.mem_singleton_self _) _ s
  have hmin : RegsKept [Reg.PWR_VIN_MIN] (fputSat Reg.PWR_VIN_MV (railReading s 0 v) s) u := regsKept_fput (f := Reg.PWR_VIN_MIN_MV) (List.mem_singleton_self _) _ _
  refine ⟨_, heq, ?_, ?_, by simp, by simp, ((hvin.mono (by simp)).trans (hmin.mono (by simp))).trans (regsKept_of_eq hregs), dramKept_of_eq (by simp)⟩
  · rw [fget_regs hregs, hmin.fget (by decide), fputSat, fget_fput_same _ _ rfl]
    exact Nat.mod_eq_of_lt (lt_of_le_of_lt (min_le_left _ _) (by decide))
  · have hlt : fget s Reg.PWR_VIN_MIN_MV < 2 ^ 16 := Nat.mod_lt _ (by decide)
    rw [fget_regs hregs]
    change fget (fput _ (min (fget (fputSat Reg.PWR_VIN_MV (railReading s 0 v) s) _) _) _) _ = _
    rw [hvin.fget (by decide), fget_fput_same _ _ rfl]
    change min (fget s Reg.PWR_VIN_MIN_MV) (min 65535 (railReading s 0 v)) % 65536 = _
    omega

/-! ## A synthesiser loses its lock -/

theorem synthBits_lt {p : Synth} {n : Nat} (h : synthBits p = [n]) : n < 6 := by
  cases p <;> simp only [synthBits, List.cons.injEq] at h <;> omega

/-- The lock bits are each their own. -/
theorem fbit_fput_clock (s : State) {n m : Nat} (hn : n < 32) (v : Nat) : fbit (fput (clkBit n) v s) (clkBit m) = if m = n then v % 2 == 1 else fbit s (clkBit m) := by
  have hok : (clkBit n).ok = true := by simp [clkBit, Field.ok, hn]
  split
  · next h => rw [h, fbit_fput s _ hok rfl]
  · next h => exact fbit_fput_beside s (clkBit n) (clkBit m) hok v (show m < n ∨ n < m by omega) le_rfl

/-- A lock is lost: its bit, its count and its event. -/
def clockLost (n : Nat) (s : State) : State := raise Ev.CLK_UNLOCK (fcount Reg.CLK_UNLOCK_COUNT_COUNT 1 (fput (clkBit n) 0 s))

theorem clockLost_shows {n : Nat} (hn : n < 6) (s : State) : (∀ m, fbit (clockLost n s) (clkBit m) = (fbit s (clkBit m) && m != n)) ∧
    fget (clockLost n s) Reg.CLK_UNLOCK_COUNT_COUNT = min 65535 (fget s Reg.CLK_UNLOCK_COUNT_COUNT + 1) ∧
    (clockLost n s).ev.bits.getLsbD Ev.CLK_UNLOCK = true ∧ EventsStand s (clockLost n s) ∧ RegsKept [Reg.CLK_STATUS, Reg.CLK_UNLOCK_COUNT] s (clockLost n s) ∧
    clockLost n s = { s with regs := (clockLost n s).regs, ev := (clockLost n s).ev } := by
  have hstatus : RegsKept [Reg.CLK_STATUS] s (fput (clkBit n) 0 s) := regsKept_fput (f := clkBit n) (List.mem_singleton_self _) 0 s
  have hcount : RegsKept [Reg.CLK_UNLOCK_COUNT] (fput (clkBit n) 0 s) (clockLost n s) := regsKept_fput (f := Reg.CLK_UNLOCK_COUNT_COUNT) (List.mem_singleton_self _) _ _
  refine ⟨fun m => ?_, ?_, raise_raises (by decide) _, EventsStand.trans (t := fcount Reg.CLK_UNLOCK_COUNT_COUNT 1 (fput (clkBit n) 0 s)) (eventsStand_of_ev rfl)
    (eventsStand_raise _ _), (hstatus.mono (by simp)).trans (hcount.mono (by simp)), rfl⟩
  · rw [hcount.fbit (show (clkBit m).reg ∉ [Reg.CLK_UNLOCK_COUNT] from (by decide : Reg.CLK_STATUS ∉ [Reg.CLK_UNLOCK_COUNT])), fbit_fput_clock s (by omega)]
    split
    · next h => simp [h]
    · next h => simp [h]
  · rw [← hstatus.fget (f := Reg.CLK_UNLOCK_COUNT_COUNT) (by decide)]
    exact fget_fcount rfl 1 (fput (clkBit n) 0 s)

/-- What the response to a lost lock keeps: the lock bits with their count, every event and every Hold cause. -/
structure ClocksStand (s t : State) : Prop where
  status : rget t Reg.CLK_STATUS = rget s Reg.CLK_STATUS
  count : rget t Reg.CLK_UNLOCK_COUNT = rget s Reg.CLK_UNLOCK_COUNT
  events : EventsStand s t
  causes : CausesStand s t

theorem clocksStand_requestHold (s : State) : ClocksStand s (requestHold 0 s) := by
  have hregs := regsKept_requestHold 0 s
  refine ⟨hregs _ (by decide), hregs _ (by decide), eventsStand_requestHold 0 s, fun n hn => ?_⟩
  rw [hasCause_congr (requestHold_causes 0 s), hasCause_setCause (by decide), hn, Bool.true_or]

theorem ClocksStand.trans {s t u : State} (h : ClocksStand s t) (h' : ClocksStand t u) : ClocksStand s u :=
  ⟨h'.status.trans h.status, h'.count.trans h.count, h.events.trans h'.events, h.causes.trans h'.causes⟩

theorem clocksStand_of_regs {ks : List Nat} {s t : State} (h : RegsKept ks s t) (hks : Reg.CLK_STATUS ∉ ks ∧ Reg.CLK_UNLOCK_COUNT ∉ ks) (hev : EventsStand s t)
    (hflow : t.flow = s.flow) : ClocksStand s t := ⟨h _ hks.1, h _ hks.2, hev, causesStand_of_flow hflow⟩

/-- Every engine shows its transmit fault. -/
def faultsShown (s : State) : State := rset Reg.OUT_TX_FAULT_LO 0xFFFFFFFF (rset Reg.OUT_TX_FAULT_HI 0xFFFFFFFF s)

theorem clocksStand_declareLinkLoss (t : Int) (s : State) : ClocksStand s (declareLinkLoss t s) := by
  have hhigh : HighKept voteRegs s (declareLinkLoss t s) := by
    unfold declareLinkLoss
    split
    · exact highKept_of_eq rfl
    · refine HighKept.trans ?_ (votesQuiet_assertCut _ _ _).high
      exact (regsKept_fput (f := Reg.OUT_STATUS_LINK_LOSS) (List.mem_singleton_self _) 1 { s with out := { s.out with link := ⟨true, 0, none⟩ } }).highOf
        (ks := voteRegs) fun k hk => .inl (by rw [List.mem_singleton.1 hk]; decide)
  exact ⟨hhigh _ (by decide) (by decide), hhigh _ (by decide) (by decide), (declareLinkLoss_declares t s).2.1, causesStand_of_flow (by simp)⟩

theorem clocksStand_opticsUnlock (s : State) : ClocksStand s (opticsUnlock s) := by
  unfold opticsUnlock
  split
  · refine ClocksStand.trans (t := faultsShown s) ?_ (clocksStand_declareLinkLoss _ _)
    exact clocksStand_of_regs ((regsKept_rset (k := Reg.OUT_TX_FAULT_HI) (ks := [Reg.OUT_TX_FAULT_LO, Reg.OUT_TX_FAULT_HI]) (by simp) _ s).trans
      (regsKept_rset (by simp) _ _)) (by decide) (eventsStand_of_ev rfl) rfl
  · exact clocksStand_of_regs (ks := []) (fun _ _ => rfl) (by decide) (eventsStand_of_ev rfl) rfl

/-- The ports' lanes are out of lock and the ports unheard. -/
def portsUnheard (s : State) : State := setHeard .west false (setHeard .east false (fput Reg.COH_LANES_EAST 0 (fput Reg.COH_LANES_WEST 0 s)))

theorem portsDown_eq (s : State) : portsDown s = ethLink false (portsUnheard s) := rfl

theorem regsKept_portsUnheard (s : State) : RegsKept [Reg.COH_LANES, Reg.COH_STATUS] s (portsUnheard s) :=
  (((regsKept_fput (f := Reg.COH_LANES_WEST) (by simp) 0 s).trans (regsKept_fput (f := Reg.COH_LANES_EAST) (by simp) 0 _)).trans
    ((regsKept_setHeard .east false _).mono (by simp))).trans ((regsKept_setHeard .west false _).mono (by simp))

theorem eventsStand_portsUnheard (s : State) : EventsStand s (portsUnheard s) :=
  EventsStand.trans (t := fput Reg.COH_LANES_EAST 0 (fput Reg.COH_LANES_WEST 0 s)) (eventsStand_of_ev rfl)
    ((ringMoved_setHeard .east false _).events.trans (ringMoved_setHeard .west false _).events)

/-- A port that is unheard is down. -/
theorem setHeard_down (p : Port) (s : State) : fbit (setHeard p false s) (portUp p) = false := by
  unfold setHeard
  rw [portSync_up]
  cases p <;> simp [portIsUp, portHeard]

theorem setHeard_beside {p q : Port} (h : p ≠ q) (b : Bool) (s : State) : fbit (setHeard q b s) (portUp p) = fbit s (portUp p) := by
  have hsync : ∀ u, fbit (portSync q u) (portUp p) = fbit u (portUp p) := fun u => by
    have hregs : ∀ k, rget (portSync q u) k = rget (fput (portUp q) (if portIsUp q u then 1 else 0) u) k := fun k => rget_raiseIf _ _ _ k
    rw [fbit, fget_congr (hregs _), ← fbit, fbit_fput_beside _ (portUp q) (portUp p) (by cases q <;> rfl) _
      (by revert h; cases p <;> cases q <;> decide) (by cases p <;> decide)]
  cases q <;> exact hsync _

theorem portsUnheard_down (s : State) : fbit (portsUnheard s) Reg.COH_STATUS_EAST_UP = false ∧ fbit (portsUnheard s) Reg.COH_STATUS_WEST_UP = false :=
  ⟨(setHeard_beside (p := .east) (by decide) false _).trans (setHeard_down .east _), setHeard_down .west _⟩

theorem ethLink_down (s : State) : (powered s Dom.ETH = true → (ethLink false s).tim.ethUp = false) ∧ (ethLink false s).regs = s.regs ∧
    EventsStand s (ethLink false s) := by
  unfold ethLink
  split
  · exact ⟨fun _ => rfl, rfl, EventsStand.trans (t := { s with tim := { s.tim with ethUp := false } }) (eventsStand_of_ev rfl) (eventsStand_raise _ _)⟩
  · next h => exact ⟨fun hon => by simpa [hon] using h, rfl, eventsStand_of_ev rfl⟩

theorem powered_regsKept {ks : List Nat} {s t : State} (h : RegsKept ks s t) (hks : Reg.PWR_STATUS ∉ ks) (d : Nat) : powered t d = powered s d := by
  rw [powered, powered, fbitAt, fbitAt, h.fget (f := Reg.PWR_STATUS_DOMAINS) hks]

theorem portsDown_shows (s : State) : fbit (portsDown s) Reg.COH_STATUS_EAST_UP = false ∧ fbit (portsDown s) Reg.COH_STATUS_WEST_UP = false ∧
    (powered s Dom.ETH = true → (portsDown s).tim.ethUp = false) := by
  obtain ⟨heast, hwest⟩ := portsUnheard_down s
  obtain ⟨heth, hregs, -⟩ := ethLink_down (portsUnheard s)
  rw [portsDown_eq]
  refine ⟨(fbit_regs hregs _).trans heast, (fbit_regs hregs _).trans hwest, fun hon => heth ?_⟩
  rw [powered_regsKept (regsKept_portsUnheard s) (by decide), hon]

theorem clocksStand_portsDown (s : State) : ClocksStand s (portsDown s) := by
  have heth := ethLink_down (portsUnheard s)
  refine clocksStand_of_regs (ks := [Reg.COH_LANES, Reg.COH_STATUS]) ?_ (by decide) ?_ (by simp)
  · rw [portsDown_eq]
    exact (regsKept_portsUnheard s).trans (regsKept_of_eq heth.2.1)
  · rw [portsDown_eq]
    exact (eventsStand_portsUnheard s).trans heth.2.2

theorem clocksStand_unlockActs (n : Nat) (s : State) : ClocksStand s (unlockActs n s) := by
  unfold unlockActs
  split
  · exact clocksStand_requestHold s
  · split
    · exact clocksStand_opticsUnlock s
    · exact clocksStand_portsDown s

theorem unlockOne_lost {n : Nat} {s : State} (h : fbit s (clkBit n) = true) : unlockOne s n = unlockActs n (clockLost n s) := if_pos h

theorem unlockOne_unlocked {n : Nat} {s : State} (h : fbit s (clkBit n) = false) : unlockOne s n = s := if_neg (by simp [h])

/-- A synthesiser of the core's clocks asks for a Hold of cause 0. -/
theorem requestHold_clocks (s : State) : hasCause (requestHold 0 s) 0 = true ∧
    (s.flow.mode = .write → s.flow.resume = .none → (requestHold 0 s).flow.holdReq = true) := by
  refine ⟨?_, fun hmode hnone => ?_⟩
  · rw [hasCause_congr (requestHold_causes 0 s), hasCause_setCause (by decide)]
    simp
  · rw [requestHold_of_none hnone, if_pos hmode]

theorem opticsUnlock_shows {s : State} (hon : powered s Dom.OUT = true) : (opticsUnlock s).out.link.on = true ∧
    (s.out.link.on = false → (opticsUnlock s).ev.bits.getLsbD Ev.LINK_LOSS = true ∧ fbit (opticsUnlock s) Reg.OUT_STATUS_BLANK = true) := by
  have heq : opticsUnlock s = declareLinkLoss (stepsNow s) (faultsShown s) := if_pos hon
  obtain ⟨hlost, -, hshown⟩ := declareLinkLoss_declares (stepsNow s) (faultsShown s)
  rw [heq]
  exact ⟨hlost, hshown⟩

theorem pllUnlock_loses {s : State} {p : Synth} {n : Nat} (hp : synthBits p = [n]) (h : fbit s (clkBit n) = true) : Yields (.pllUnlock p) s fun t =>
      fbit t (clkBit n) = false ∧ fget t Reg.CLK_UNLOCK_COUNT_COUNT = min 65535 (fget s Reg.CLK_UNLOCK_COUNT_COUNT + 1) ∧
      t.ev.bits.getLsbD Ev.CLK_UNLOCK = true ∧ t.job = s.job ∧ DramKept s t ∧
      (n ≤ 3 → hasCause t 0 = true ∧ (s.flow.mode = .write → s.flow.resume = .none → t.flow.holdReq = true)) ∧
      (n = 4 → powered s Dom.OUT = true → t.out.link.on = true ∧ (s.out.link.on = false → t.ev.bits.getLsbD Ev.LINK_LOSS = true ∧
        fbit t Reg.OUT_STATUS_BLANK = true)) ∧
      (n = 5 → fbit t Reg.COH_STATUS_EAST_UP = false ∧ fbit t Reg.COH_STATUS_WEST_UP = false ∧ (powered s Dom.ETH = true → t.tim.ethUp = false)) := by
  have hn := synthBits_lt hp
  obtain ⟨hbits, hcount, hraised, -, hregs, hrest⟩ := clockLost_shows hn s
  have hacts := clocksStand_unlockActs n (clockLost n s)
  have hpow := powered_regsKept hregs (by decide)
  have hexec : exec (.pllUnlock p) s = .next (unlockActs n (clockLost n s)) := by
    change Host.Outcome.next ((synthBits p).foldl unlockOne s) = _
    rw [hp, List.foldl_cons, List.foldl_nil, unlockOne_lost h]
  generalize clockLost n s = u at hbits hcount hraised hregs hrest hacts hpow hexec
  have hflow : u.flow = s.flow := by rw [hrest]
  refine ⟨_, hexec, ?_, ?_, hacts.events _ hraised, ?_, ?_, fun hle => ?_, fun hfour hon => ?_, fun hfive => ?_⟩
  · rw [fbit, fget_congr (f := clkBit n) hacts.status, ← fbit, hbits]
    simp
  · rw [fget_congr (f := Reg.CLK_UNLOCK_COUNT_COUNT) hacts.count, hcount]
  · rw [(unlockActs_frame n u).2.2.1, hrest]
  · exact dramKept_of_eq (by rw [(unlockActs_frame n u).2.1, hrest])
  · rw [unlockActs, if_pos hle]
    obtain ⟨hcause, hreq⟩ := requestHold_clocks u
    rw [hflow] at hreq
    exact ⟨hcause, hreq⟩
  · subst hfour
    obtain ⟨hlost, hshown⟩ := opticsUnlock_shows (s := u) (by rw [hpow, hon])
    have hout : u.out = s.out := by rw [hrest]
    rw [hout] at hshown
    exact ⟨hlost, hshown⟩
  · subst hfive
    obtain ⟨heast, hwest, heth⟩ := portsDown_shows u
    exact ⟨heast, hwest, fun hon => heth (by rw [hpow, hon])⟩

theorem pllUnlock_idle {s : State} {p : Synth} {n : Nat} (hp : synthBits p = [n]) (h : fbit s (clkBit n) = false) : Yields (.pllUnlock p) s fun t => t = s := by
  refine ⟨_, rfl, ?_⟩
  rw [hp, List.foldl_cons, List.foldl_nil, unlockOne_unlocked h]

/-! ## A synthesiser is in lock again -/

theorem opticsRelock_shows (s : State) : RegsKept [Reg.OUT_TX_FAULT_LO, Reg.OUT_TX_FAULT_HI] s (opticsRelock s) ∧
    ∀ l, l < 64 → lanesBit (opticsRelock s) Reg.OUT_TX_FAULT_LO Reg.OUT_TX_FAULT_HI l = (laneState s l).alarm := by
  have hfold : ∀ (ls : List Nat) (u : State), (∀ l ∈ ls, l < 64) → u.out = s.out →
      let t := ls.foldl (fun s l => putLanesBit Reg.OUT_TX_FAULT_LO Reg.OUT_TX_FAULT_HI l (laneState s l).alarm s) u
      RegsKept [Reg.OUT_TX_FAULT_LO, Reg.OUT_TX_FAULT_HI] u t ∧ ∀ l, l < 64 → lanesBit t Reg.OUT_TX_FAULT_LO Reg.OUT_TX_FAULT_HI l =
        if l ∈ ls then (laneState s l).alarm else lanesBit u Reg.OUT_TX_FAULT_LO Reg.OUT_TX_FAULT_HI l := by
    intro ls
    induction ls with
    | nil => exact fun u _ _ => ⟨fun _ _ => rfl, fun l _ => by simp⟩
    | cons m ls ih =>
      intro u hls hout
      have hm := hls m List.mem_cons_self
      have hstate : laneState u m = laneState s m := by rw [laneState, laneState, hout]
      obtain ⟨hregs, hlanes⟩ := ih (putLanesBit Reg.OUT_TX_FAULT_LO Reg.OUT_TX_FAULT_HI m (laneState u m).alarm u)
        (fun l hl => hls l (List.mem_cons_of_mem m hl)) hout
      refine ⟨(regsKept_putLanesBit _ _ _ _ u).trans hregs, fun l hl => ?_⟩
      rw [List.foldl_cons, hlanes l hl, lanesBit_putLanesBit (by decide) hm hl, hstate]
      by_cases hmem : l ∈ ls
      · simp [hmem]
      · by_cases hlm : l = m
        · simp [hlm]
        · simp [hmem, hlm]
  obtain ⟨hregs, hlanes⟩ := hfold (List.range 64) s (fun l hl => List.mem_range.1 hl) rfl
  refine ⟨hregs, fun l hl => ?_⟩
  rw [opticsRelock, hlanes l hl, if_pos (List.mem_range.2 hl)]

theorem holdClocksLocked_iff (s : State) : holdClocksLocked s = true ↔ ∀ m, m < 4 → fbit s (clkBit m) = true := by
  have hbits : holdClocksLocked s = (fbit s (clkBit 0) && fbit s (clkBit 1) && fbit s (clkBit 2) && fbit s (clkBit 3)) := rfl
  rw [hbits]
  simp only [Bool.and_eq_true]
  constructor
  · rintro ⟨⟨⟨h0, h1⟩, h2⟩, h3⟩ m hm
    interval_cases m
    · exact h0
    · exact h1
    · exact h2
    · exact h3
  · exact fun h => ⟨⟨⟨h 0 (by omega), h 1 (by omega)⟩, h 2 (by omega)⟩, h 3 (by omega)⟩

/-- What a lock's return does beside its bit. -/
theorem relockOne_locks {n : Nat} (hn : n < 6) (s : State) : (∀ m, fbit (relockOne s n) (clkBit m) = (fbit s (clkBit m) || m == n)) ∧
    (n ≠ 4 → RegsKept [Reg.CLK_STATUS] s (relockOne s n)) ∧ (4 ≤ n → (relockOne s n).flow = s.flow) ∧
    (n ≤ 3 → (relockOne s n).flow = if holdClocksLocked (fput (clkBit n) 1 s) && !s.flow.hostHold then (clearCause 0 s).flow else s.flow) ∧
    (n = 4 → RegsKept [Reg.CLK_STATUS, Reg.OUT_TX_FAULT_LO, Reg.OUT_TX_FAULT_HI] s (relockOne s n) ∧
      ∀ l, l < 64 → lanesBit (relockOne s n) Reg.OUT_TX_FAULT_LO Reg.OUT_TX_FAULT_HI l = (laneState s l).alarm) := by
  have hput : RegsKept [Reg.CLK_STATUS] s (fput (clkBit n) 1 s) := regsKept_fput (f := clkBit n) (List.mem_singleton_self _) 1 s
  have hbits : ∀ m, fbit (fput (clkBit n) 1 s) (clkBit m) = (fbit s (clkBit m) || m == n) := fun m => by
    rw [fbit_fput_clock s (by omega)]
    split
    · next h => simp [h]
    · next h => simp [h]
  by_cases hfour : n = 4
  · have heq : relockOne s n = opticsRelock (fput (clkBit n) 1 s) := if_pos hfour
    obtain ⟨hregs, hlanes⟩ := opticsRelock_shows (fput (clkBit n) 1 s)
    rw [heq]
    refine ⟨fun m => ?_, fun h => absurd hfour h, fun _ => by simp, fun h => by omega, fun _ => ⟨(hput.mono (by simp)).trans (hregs.mono (by simp)), hlanes⟩⟩
    rw [hregs.fbit (show (clkBit m).reg ∉ _ from (by decide : Reg.CLK_STATUS ∉ [Reg.OUT_TX_FAULT_LO, Reg.OUT_TX_FAULT_HI])), hbits]
  · have heq : relockOne s n = if n ≤ 3 ∧ holdClocksLocked (fput (clkBit n) 1 s) ∧ !s.flow.hostHold then clearCause 0 (fput (clkBit n) 1 s) else fput (clkBit n) 1 s :=
      if_neg hfour
    rw [heq]
    refine ⟨fun m => ?_, fun _ => ?_, fun hge => ?_, fun hle => ?_, fun h => absurd h hfour⟩
    · split <;> exact hbits m
    · split <;> exact hput
    · rw [if_neg (by omega)]
      rfl
    · cases hlocked : holdClocksLocked (fput (clkBit n) 1 s) && !s.flow.hostHold with
      | true =>
        rw [if_pos ⟨hle, by simpa using hlocked⟩]
        rfl
      | false =>
        rw [if_neg fun h => by simp [h.2.1, h.2.2] at hlocked]
        rfl

theorem pllRelock_locks {s : State} {p : Synth} {n : Nat} (hp : synthBits p = [n]) (h : fbit s (clkBit n) = false) : Yields (.pllRelock p) s fun t =>
      fbit t (clkBit n) = true ∧ t.job = s.job ∧ t.ev = s.ev ∧ DramKept s t ∧ (n ≠ 4 → RegsKept [Reg.CLK_STATUS] s t) ∧ (4 ≤ n → t.flow = s.flow) ∧
      (n ≤ 3 → t.flow = if holdClocksLocked (fput (clkBit n) 1 s) && !s.flow.hostHold then (clearCause 0 s).flow else s.flow) ∧
      (n = 4 → RegsKept [Reg.CLK_STATUS, Reg.OUT_TX_FAULT_LO, Reg.OUT_TX_FAULT_HI] s t ∧
        ∀ l, l < 64 → lanesBit t Reg.OUT_TX_FAULT_LO Reg.OUT_TX_FAULT_HI l = (laneState s l).alarm) := by
  obtain ⟨hbits, hregs, hflow, hcause, hoptics⟩ := relockOne_locks (synthBits_lt hp) s
  have hexec : exec (.pllRelock p) s = .next (relockOne s n) := by
    change Host.Outcome.next (((synthBits p).filter fun n => !fbit s (clkBit n)).foldl relockOne s) = _
    rw [hp, List.filter_cons_of_pos (by simp [h]), List.filter_nil, List.foldl_cons, List.foldl_nil]
  exact ⟨_, hexec, by rw [hbits]; simp, by simp, by simp, dramKept_of_eq (by simp), hregs, hflow, hcause, hoptics⟩

theorem pllRelock_idle {s : State} {p : Synth} {n : Nat} (hp : synthBits p = [n]) (h : fbit s (clkBit n) = true) : Yields (.pllRelock p) s fun t => t = s := by
  refine ⟨_, rfl, ?_⟩
  rw [hp, List.filter_cons_of_neg (by simp [h]), List.filter_nil, List.foldl_nil]

/-! ## The reference oscillator -/

/-- Every lock of a list is lost in turn. -/
theorem unlock_each {l : List Nat} (hl : ∀ n ∈ l, n < 6) (s : State) :
    (∀ m, fbit (l.foldl unlockOne s) (clkBit m) = (fbit s (clkBit m) && !l.contains m)) ∧ EventsStand s (l.foldl unlockOne s) ∧
    CausesStand s (l.foldl unlockOne s) ∧ (l.foldl unlockOne s).job = s.job ∧ (l.foldl unlockOne s).dram = s.dram ∧
    ((∃ n ∈ l, n < 4 ∧ fbit s (clkBit n) = true) → hasCause (l.foldl unlockOne s) 0 = true ∧ (l.foldl unlockOne s).ev.bits.getLsbD Ev.CLK_UNLOCK = true) := by
  induction l generalizing s with
  | nil => exact ⟨fun m => by simp, fun _ hn => hn, fun _ hn => hn, rfl, rfl, fun ⟨n, hn, _⟩ => by cases hn⟩
  | cons n l ih =>
    obtain ⟨hbits, hevents, hcauses, hjob, hdram, hheld⟩ := ih (fun m hm => hl m (List.mem_cons_of_mem n hm)) (unlockOne s n)
    have hone : (∀ m, fbit (unlockOne s n) (clkBit m) = (fbit s (clkBit m) && m != n)) ∧ EventsStand s (unlockOne s n) ∧ CausesStand s (unlockOne s n) ∧
        (n < 4 → fbit s (clkBit n) = true → hasCause (unlockOne s n) 0 = true ∧ (unlockOne s n).ev.bits.getLsbD Ev.CLK_UNLOCK = true) := by
      cases hlock : fbit s (clkBit n) with
      | false =>
        rw [unlockOne_unlocked hlock]
        refine ⟨fun m => ?_, fun _ h => h, fun _ h => h, fun _ h => by cases h⟩
        by_cases hmn : m = n
        · rw [hmn, hlock]; rfl
        · simp [hmn]
      | true =>
        obtain ⟨hlost, -, hraised, hstand, -, hrest⟩ := clockLost_shows (hl n List.mem_cons_self) s
        have hacts := clocksStand_unlockActs n (clockLost n s)
        rw [unlockOne_lost hlock]
        refine ⟨fun m => ?_, hstand.trans hacts.events, CausesStand.trans (t := clockLost n s) (causesStand_of_flow (by rw [hrest])) hacts.causes, fun hn _ => ⟨?_, hacts.events _ hraised⟩⟩
        · rw [fbit, fget_congr (f := clkBit m) hacts.status, ← fbit, hlost]
        · rw [unlockActs, if_pos (by omega)]
          exact (requestHold_clocks _).1
    obtain ⟨hbits', hevents', hcauses', hheld'⟩ := hone
    refine ⟨fun m => ?_, hevents'.trans hevents, hcauses'.trans hcauses, hjob.trans (by simp), hdram.trans (by simp), fun ⟨k, hk, hk4, hkl⟩ => ?_⟩
    · rw [List.foldl_cons, hbits, hbits', List.contains_cons, Bool.not_or, Bool.and_assoc]
      rfl
    · by_cases hkn : k = n
      · subst hkn
        obtain ⟨hc, he⟩ := hheld' hk4 hkl
        exact ⟨hcauses _ hc, hevents _ he⟩
      · have hmem := (List.mem_cons.1 hk).resolve_left hkn
        exact hheld ⟨k, hmem, hk4, by rw [hbits', hkl]; simp [hkn]⟩

/-- Every lock of a list returns in turn. -/
theorem relock_each {l : List Nat} (hl : ∀ n ∈ l, n < 6) (s : State) :
    (∀ m, fbit (l.foldl relockOne s) (clkBit m) = (fbit s (clkBit m) || l.contains m)) ∧ (l.foldl relockOne s).job = s.job ∧
    (l.foldl relockOne s).ev = s.ev ∧ (l.foldl relockOne s).dram = s.dram ∧ ((∀ n ∈ l, 4 ≤ n) → (l.foldl relockOne s).flow = s.flow) ∧
    (s.flow.hostHold = false → (∀ m, m < 4 → fbit s (clkBit m) = true ∨ m ∈ l) → (∃ n ∈ l, n < 4) → hasCause (l.foldl relockOne s) 0 = false) := by
  induction l generalizing s with
  | nil => exact ⟨fun m => by simp, rfl, rfl, rfl, fun _ => rfl, fun _ _ ⟨n, hn, _⟩ => by cases hn⟩
  | cons n l ih =>
    have hn := hl n List.mem_cons_self
    obtain ⟨hbits, hjob, hev, hdram, hflow, hclear⟩ := ih (fun m hm => hl m (List.mem_cons_of_mem n hm)) (relockOne s n)
    obtain ⟨hbits', -, hflow', hcause', -⟩ := relockOne_locks hn s
    have hhost : (relockOne s n).flow.hostHold = s.flow.hostHold := by
      rcases Nat.lt_or_ge n 4 with h | h
      · rw [hcause' (by omega)]
        split <;> rfl
      · rw [hflow' h]
    refine ⟨fun m => ?_, hjob.trans (by simp), hev.trans (by simp), hdram.trans (by simp), fun hall => ?_, fun hfree hcover hsome => ?_⟩
    · rw [List.foldl_cons, hbits, hbits', List.contains_cons, Bool.or_assoc]
    · rw [List.foldl_cons, hflow fun m hm => hall m (List.mem_cons_of_mem n hm), hflow' (hall n List.mem_cons_self)]
    · rw [List.foldl_cons]
      have hcover' : ∀ m, m < 4 → fbit (relockOne s n) (clkBit m) = true ∨ m ∈ l := fun m hm => by
        rcases hcover m hm with h | h
        · exact .inl (by rw [hbits', h, Bool.true_or])
        · rcases List.mem_cons.1 h with rfl | h
          · exact .inl (by rw [hbits']; simp)
          · exact .inr h
      by_cases hmore : ∃ k ∈ l, k < 4
      · exact hclear (hhost.trans hfree) hcover' hmore
      · have hrest : ∀ k ∈ l, 4 ≤ k := fun k hk => by
          by_contra hlt
          exact hmore ⟨k, hk, by omega⟩
        obtain ⟨k, hk, hk4⟩ := hsome
        have hlast : n < 4 := by
          rcases List.mem_cons.1 hk with rfl | hk
          · exact hk4
          · exact absurd (hrest k hk) (by omega)
        have hlocked : holdClocksLocked (fput (clkBit n) 1 s) = true := by
          refine (holdClocksLocked_iff _).2 fun m hm => ?_
          rw [fbit_fput_clock s (by omega)]
          split
          · rfl
          · next hmn =>
            refine (hcover m hm).resolve_right fun hmem => ?_
            rcases List.mem_cons.1 hmem with h | h
            · exact hmn h
            · exact absurd (hrest m h) (by omega)
        rw [hasCause, hflow hrest, hcause' (by omega), hlocked, hfree]
        change hasCause (clearCause 0 s) 0 = false
        rw [hasCause_clearCause (by decide)]
        simp

set_option Elab.async false in
/-- Settles O33: a dip, its end and the rails write their own registers and the cut; a lost lock and its return write the lock bits, and their
responses (`clocksStand_unlockActs`) keep them with their count, every event and every cause. -/
theorem supplyAndClocksAreWatched : Obligations.SupplyAndClocksAreWatched := by
  unfold Obligations.SupplyAndClocksAreWatched
  refine ⟨fun s hboot => ⟨fun t0 hmode => vinBelowWarning_dips hboot t0 hmode, fun t0 hmode => vinBelowWarning_rests hboot t0 hmode,
    fun hwarn => ⟨supplyRecovery_recovers hboot hwarn, fun mv hmv => vinCrossing_crosses hboot hwarn hmv⟩, fun k => ⟨railBelow_warns hboot k, railRecovery_ends s k⟩,
    fun v rails hv => railSample_reads hboot rails hv, fun v rails hv => ⟨if_pos (decide_eq_true hv), if_pos (decide_eq_true hv)⟩⟩,
    fun s p n hp => ⟨pllUnlock_loses hp, pllUnlock_idle hp, pllRelock_locks hp, pllRelock_idle hp⟩, fun s => ⟨?_, ?_⟩⟩
  · obtain ⟨hbits, -, -, hjob, hdram, hheld⟩ := unlock_each (l := [0, 1, 2, 3, 4, 5]) (by decide) s
    refine ⟨_, rfl, fun n hn => ?_, hjob, dramKept_of_eq hdram, fun ⟨n, hn, hlock⟩ => hheld ⟨n, by simp; omega, hn, hlock⟩⟩
    rw [show synthBits .reference = [0, 1, 2, 3, 4, 5] from rfl, hbits, List.contains_iff_mem.2 (by simp; omega)]
    simp
  · obtain ⟨hbits, hjob, hev, hdram, -, hclear⟩ := relock_each (l := [0, 1, 2, 3, 4, 5].filter fun n => !fbit s (clkBit n))
      (fun n hn => (by decide : ∀ n ∈ [0, 1, 2, 3, 4, 5], n < 6) n (List.mem_filter.1 hn).1) s
    have hmem : ∀ n, n < 6 → fbit s (clkBit n) = false → n ∈ [0, 1, 2, 3, 4, 5].filter fun n => !fbit s (clkBit n) := fun n hn h =>
      List.mem_filter.2 ⟨by simp; omega, by rw [h]; rfl⟩
    refine ⟨_, rfl, fun n hn => ?_, hjob, hev, dramKept_of_eq hdram, fun hfree ⟨n, hn, hoff⟩ => hclear hfree (fun m hm => ?_) ⟨n, hmem n (by omega) hoff, hn⟩⟩
    · rw [show synthBits .reference = [0, 1, 2, 3, 4, 5] from rfl, hbits]
      cases h : fbit s (clkBit n) with
      | true => rfl
      | false => rw [List.contains_iff_mem.2 (hmem n hn h)]; rfl
    · cases h : fbit s (clkBit m) with
      | true => exact .inl rfl
      | false => exact .inr (hmem m (by omega) h)

end Sys2Proof.Machine
end

section
/-!
PROOFS. The probes' settings and captures, the die sensors, and the ring of diagnostics (O30).
-/

namespace Sys2Proof.Machine

/-! ## Probes -/

theorem captureOf_restartCapture (p q : Nat) (s : State) : captureOf (restartCapture p s) q = if q = p then Capture.fresh else captureOf s q := by
  rw [captureOf, restartCapture, captureOf, getD_updAt]

theorem captureOf_complete (n : Fin 16) (st : Status) (bs : List Byte) (s : State) (q : Nat) : captureOf (complete n st bs s) q = captureOf s q := by
  rw [captureOf, captureOf, holdOnly_complete]

theorem captureOf_accept (n : Fin 16) (s : State) (q : Nat) : captureOf (accept n s) q = captureOf s q := by
  rw [captureOf, captureOf, accept_eq]

/-- The settings of a probe, as MON_CONFIG writes them. -/
def probeSet (p src : Nat) (w lo hi : Word) (s : State) : State :=
  rset (Reg.MON_PROBE_HI p) hi (rset (Reg.MON_PROBE_LO p) lo (rset (Reg.MON_PROBE_WIDTH p) w (fput (Reg.MON_PROBE_SRC_SOURCE p) src s)))

abbrev probeRegs (p : Nat) : List Nat := [Reg.MON_PROBE_SRC p, Reg.MON_PROBE_WIDTH p, Reg.MON_PROBE_LO p, Reg.MON_PROBE_HI p]

theorem regsKept_probeSet (p src : Nat) (w lo hi : Word) (s : State) : RegsKept (probeRegs p) s (probeSet p src w lo hi s) :=
  (((regsKept_fput (f := Reg.MON_PROBE_SRC_SOURCE p) (by simp) src s).trans (regsKept_rset (by simp) w _)).trans (regsKept_rset (by simp) lo _)).trans
    (regsKept_rset (by simp) hi _)

theorem probeSet_reads {p src : Nat} (hsrc : src < 65536) (w lo hi : Word) (s : State) :
    fget (probeSet p src w lo hi s) (Reg.MON_PROBE_SRC_SOURCE p) = src ∧ rget (probeSet p src w lo hi s) (Reg.MON_PROBE_WIDTH p) = w ∧
    rget (probeSet p src w lo hi s) (Reg.MON_PROBE_LO p) = lo ∧ rget (probeSet p src w lo hi s) (Reg.MON_PROBE_HI p) = hi := by
  refine ⟨?_, ?_, ?_, rget_rset_same _ _ _⟩
  · have hrest : RegsKept [Reg.MON_PROBE_WIDTH p, Reg.MON_PROBE_LO p, Reg.MON_PROBE_HI p] (fput (Reg.MON_PROBE_SRC_SOURCE p) src s) (probeSet p src w lo hi s) :=
      ((regsKept_rset (by simp) w _).trans (regsKept_rset (by simp) lo _)).trans (regsKept_rset (by simp) hi _)
    have hok : (Reg.MON_PROBE_SRC_SOURCE p).ok = true := by simp [Field.ok]
    rw [hrest.fget (f := Reg.MON_PROBE_SRC_SOURCE p) (by simp [Reg.MON_PROBE_SRC, Reg.MON_PROBE_WIDTH, Reg.MON_PROBE_LO, Reg.MON_PROBE_HI]), fget_fput_same _ _ hok]
    exact Nat.mod_eq_of_lt hsrc
  · rw [probeSet, rget_rset_other _ _ _ _ (by simp [Reg.MON_PROBE_WIDTH, Reg.MON_PROBE_HI]),
      rget_rset_other _ _ _ _ (by simp [Reg.MON_PROBE_WIDTH, Reg.MON_PROBE_LO]), rget_rset_same]
  · rw [probeSet, rget_rset_other _ _ _ _ (by simp [Reg.MON_PROBE_LO, Reg.MON_PROBE_HI]), rget_rset_same]

theorem sourceKnown_lt {src : Nat} (h : sourceKnown src = true) : src < 65536 := by
  unfold sourceKnown at h
  simp only [decide_eq_true_eq] at h
  omega

theorem monConfig_sets {s : State} (p : Fin 16) {r : Req} {src : Nat} (w lo hi : Word) (h : Admitted s r 0x0906 16 false) (hsrc : sourceKnown src = true) :
    Yields (.monConfig r p.val src w lo hi) s fun t => Answered s t r.slot .ok [] ∧
      fget t (Reg.MON_PROBE_SRC_SOURCE p.val) = src ∧ rget t (Reg.MON_PROBE_WIDTH p.val) = w ∧
      rget t (Reg.MON_PROBE_LO p.val) = lo ∧ rget t (Reg.MON_PROBE_HI p.val) = hi ∧ captureOf t p.val = Capture.fresh ∧
      (∀ q, q ≠ p.val → captureOf t q = captureOf s q) ∧
      Quiet [Reg.MBX_STATE, Reg.MON_PROBE_SRC p.val, Reg.MON_PROBE_WIDTH p.val, Reg.MON_PROBE_LO p.val, Reg.MON_PROBE_HI p.val] s t := by
  let u := restartCapture p.val (probeSet p.val src w lo hi (accept r.slot s))
  obtain ⟨hread, hwidth, hlo, hhi⟩ := probeSet_reads (p := p.val) (sourceKnown_lt hsrc) w lo hi (accept r.slot s)
  have hregs : RegsKept [Reg.MBX_STATE] u (complete r.slot .ok [] u) := regsKept_complete _ _ _ u
  have hcap : ∀ q, captureOf (complete r.slot .ok [] u) q = if q = p.val then Capture.fresh else captureOf s q := fun q => by
    rw [captureOf_complete, captureOf_restartCapture]
    split
    · rfl
    · exact captureOf_accept r.slot s q
  have hne : ∀ k ∈ probeRegs p.val, k ≠ Reg.MBX_STATE := fun k hk => by
    simp only [probeRegs, List.mem_cons, List.not_mem_nil, or_false] at hk
    simp only [Reg.MON_PROBE_SRC, Reg.MON_PROBE_WIDTH, Reg.MON_PROBE_LO, Reg.MON_PROBE_HI, Reg.MBX_STATE] at hk ⊢
    omega
  refine yields_of_effect (g := { op := 0x0906, len := 16, inRange := decide (p.val < 16) && sourceKnown src }) rfl h ?_ (by simp [hsrc])
  refine ⟨answered_of_mail h.orphan rfl, ?_, ?_, ?_, ?_, ?_, fun q hq => ?_, by simp, by simp, by simp, ?_, dramKept_of_eq (by simp)⟩
  · exact (hregs.fget (f := Reg.MON_PROBE_SRC_SOURCE p.val) (by simpa using hne _ (by simp))).trans hread
  · exact (hregs _ (by simpa using hne _ (by simp))).trans hwidth
  · exact (hregs _ (by simpa using hne _ (by simp))).trans hlo
  · exact (hregs _ (by simpa using hne _ (by simp))).trans hhi
  · exact (hcap _).trans (if_pos rfl)
  · exact (hcap _).trans (if_neg hq)
  · exact regsKept_command ((regsKept_probeSet p.val src w lo hi (accept r.slot s)).mono (List.subset_cons_self _ _))

theorem monRead_reads {s : State} (p : Fin 16) {r : Req} (h : Admitted s r 0x0907 4 false) :
    Completes (.monRead r p.val 0) s r.slot .ok (captureBytes (captureOf s p.val)) s ∧
    Yields (.monRead r p.val 1) s fun t => Answered s t r.slot .ok (captureBytes (captureOf s p.val)) ∧
      captureOf t p.val = Capture.fresh ∧ (∀ q, q ≠ p.val → captureOf t q = captureOf s q) ∧ Quiet [Reg.MBX_STATE] s t := by
  have hbytes := captureOf_accept r.slot s p.val
  constructor
  · refine completes_of_command (g := { op := 0x0907, len := 4, inRange := decide (p.val < 16 ∧ 0 ≤ 1) }) rfl h ?_ (acceptedAs_self r.slot s) (by simp)
    rw [hbytes]
    rfl
  · have hcap : ∀ q, captureOf (complete r.slot .ok (captureBytes (captureOf s p.val)) (restartCapture p.val (accept r.slot s))) q =
        if q = p.val then Capture.fresh else captureOf s q := fun q => by
      rw [captureOf_complete, captureOf_restartCapture, captureOf_accept]
    refine yields_of_effect (g := { op := 0x0907, len := 4, inRange := decide (p.val < 16 ∧ 1 ≤ 1) }) rfl h ?_ (by simp)
    rw [hbytes, if_pos rfl]
    refine ⟨answered_of_mail h.orphan rfl, ?_, fun q hq => ?_, by simp, by simp, by simp, regsKept_command (fun _ _ => rfl), dramKept_of_eq (by simp)⟩
    · rw [hcap, if_pos rfl]
    · rw [hcap, if_neg hq]

/-- The low half of a register is written. -/
theorem put_low_half (w : Word) (v : Nat) (hv : v < 65536) (r : Nat) : (⟨r, 15, 0⟩ : Field).put w v = BitVec.ofNat 32 (bits w.toNat 31 16 * 65536 + v) := by
  have hlt := w.isLt
  simp only [Field.put, bits]
  congr 1
  omega

/-- What a write to register `i` of a probe stores. -/
def probeStored (p : Nat) (i : Fin 4) (v : Word) (s : State) : Word :=
  if i = 0 then BitVec.ofNat 32 (bits (rget s (Reg.MON_PROBE_SRC p)).toNat 31 16 * 65536 + bits v.toNat 15 0) else v

theorem probeWrite_eq (p : Nat) (i : Fin 4) (v : Word) (s : State) :
    probeWrite p i.val v s = restartCapture p (rset (Reg.MON_PROBE_SRC p + 4 * i.val) (probeStored p i v s) s) := by
  have hkey : ∀ k, (i.val = k → ∀ r, Reg.MON_PROBE_SRC p + 4 * k = r → Reg.MON_PROBE_SRC p + 4 * i.val = r) := fun k hk r hr => by rw [hk, hr]
  match i, hkey with
  | 0, _ =>
    have hlow : bits v.toNat 15 0 < 65536 := Nat.mod_lt _ (by decide)
    change restartCapture p (rset _ ((⟨Reg.MON_PROBE_SRC p, 15, 0⟩ : Field).put (rget s (Reg.MON_PROBE_SRC p)) (bits v.toNat 15 0)) s) = _
    rw [put_low_half _ _ hlow]
    rfl
  | 1, hkey =>
    rw [hkey 1 rfl (Reg.MON_PROBE_WIDTH p) (by simp only [Reg.MON_PROBE_SRC, Reg.MON_PROBE_WIDTH]; omega)]
    rfl
  | 2, hkey =>
    rw [hkey 2 rfl (Reg.MON_PROBE_LO p) (by simp only [Reg.MON_PROBE_SRC, Reg.MON_PROBE_LO]; omega)]
    rfl
  | 3, hkey =>
    rw [hkey 3 rfl (Reg.MON_PROBE_HI p) (by simp only [Reg.MON_PROBE_SRC, Reg.MON_PROBE_HI]; omega)]
    rfl

theorem monProbeWrite_writes {s : State} (p : Fin 16) (i : Fin 4) (v : Word) : Yields (.monProbeWrite p i v) s fun t =>
    rget t (Reg.MON_PROBE_SRC p.val + 4 * i.val) =
      (if i = 0 then BitVec.ofNat 32 (bits (rget s (Reg.MON_PROBE_SRC p.val)).toNat 31 16 * 65536 + bits v.toNat 15 0) else v) ∧
    captureOf t p.val = Capture.fresh ∧ (∀ q, q ≠ p.val → captureOf t q = captureOf s q) ∧ Quiet [Reg.MON_PROBE_SRC p.val + 4 * i.val] s t := by
  let u := rset (Reg.MON_PROBE_SRC p.val + 4 * i.val) (probeStored p.val i v s) s
  refine ⟨_, congrArg Host.Outcome.next (probeWrite_eq p.val i v s), rget_rset_same _ _ _, ?_, fun q hq => ?_, rfl, rfl, rfl,
    regsKept_rset (List.mem_singleton_self _) _ s, dramKept_of_eq rfl⟩
  · rw [captureOf_restartCapture, if_pos rfl]
  · rw [captureOf_restartCapture, if_neg hq]
    rfl

/-! ## The die sensors -/

theorem raiseIf_stands (b : Bool) (n : Nat) (s : State) : (raiseIf b n s).mon = s.mon ∧ (raiseIf b n s).regs = s.regs := by
  cases b <;> exact ⟨rfl, rfl⟩

/-- The captures alone follow the samples. -/
theorem sample_limits (src : Nat) (vals : List Int) (s : State) : (sample src vals s).mon.warn = s.mon.warn ∧ (sample src vals s).mon.trip = s.mon.trip ∧
    (sample src vals s).regs = s.regs := by
  have hfold : ∀ (l : List Nat) (u : State), (l.foldl (probeSample src vals) u).mon.warn = u.mon.warn ∧ (l.foldl (probeSample src vals) u).mon.trip = u.mon.trip ∧
      (l.foldl (probeSample src vals) u).regs = u.regs := by
    intro l
    induction l with
    | nil => exact fun u => ⟨rfl, rfl, rfl⟩
    | cons p l ih =>
      intro u
      obtain ⟨hwarn, htrip, hregs⟩ := ih (probeSample src vals u p)
      have hone : (probeSample src vals u p).mon.warn = u.mon.warn ∧ (probeSample src vals u p).mon.trip = u.mon.trip ∧ (probeSample src vals u p).regs = u.regs := by
        unfold probeSample
        split
        · exact ⟨rfl, rfl, rfl⟩
        · exact ⟨by rw [(raiseIf_stands _ _ _).1], by rw [(raiseIf_stands _ _ _).1], (raiseIf_stands _ _ _).2⟩
      exact ⟨hwarn.trans hone.1, htrip.trans hone.2.1, hregs.trans hone.2.2⟩
  unfold sample
  split
  · exact ⟨rfl, rfl, rfl⟩
  · exact hfold _ s

theorem dieSamples_limits (ts : List Int) (s : State) : (dieSamples ts s).mon.warn = s.mon.warn ∧ (dieSamples ts s).mon.trip = s.mon.trip ∧
    (dieSamples ts s).regs = s.regs := by
  have hfold : ∀ (l : List (Int × Nat)) (u : State), let t := l.foldl (fun s p => sample (Src.dieTemp p.2) [p.1] s) u
      t.mon.warn = u.mon.warn ∧ t.mon.trip = u.mon.trip ∧ t.regs = u.regs := by
    intro l
    induction l with
    | nil => exact fun u => ⟨rfl, rfl, rfl⟩
    | cons p l ih =>
      intro u
      obtain ⟨hwarn, htrip, hregs⟩ := ih (sample (Src.dieTemp p.2) [p.1] u)
      obtain ⟨hwarn', htrip', hregs'⟩ := sample_limits (Src.dieTemp p.2) [p.1] u
      exact ⟨hwarn.trans hwarn', htrip.trans htrip', hregs.trans hregs'⟩
  exact hfold _ s

/-- The warning is taken, with its event. -/
def warnTaken (warn trip : Bool) (s : State) : State :=
  raiseIf (warn && !s.mon.warn) Ev.THERMAL_WARN { s with mon := { s.mon with warn := warn, trip := trip } }

theorem tempLimits_eq (warn trip : Bool) (s : State) : tempLimits warn trip s =
    if trip && !s.mon.trip then requestHold 12 (raise Ev.THERMAL_TRIP (warnTaken warn trip s))
    else if !trip && s.mon.trip then clearCause 12 (warnTaken warn trip s) else warnTaken warn trip s := rfl

theorem warnTaken_takes (warn trip : Bool) (s : State) : (warnTaken warn trip s).mon.warn = warn ∧ (warnTaken warn trip s).mon.trip = trip ∧
    (warnTaken warn trip s).flow = s.flow ∧ (warn = true → s.mon.warn = false → (warnTaken warn trip s).ev.bits.getLsbD Ev.THERMAL_WARN = true) := by
  unfold warnTaken
  refine ⟨by simp, by simp, by simp, fun hwarn hwas => ?_⟩
  rw [hwarn, hwas]
  exact raise_raises (by decide) _

theorem requestHold_mon (n : Nat) (s : State) : (requestHold n s).mon = s.mon := by rw [holdOnly_requestHold]

theorem tempLimits_takes (warn trip : Bool) (s : State) : (tempLimits warn trip s).mon.warn = warn ∧ (tempLimits warn trip s).mon.trip = trip ∧
    (warn = true → s.mon.warn = false → (tempLimits warn trip s).ev.bits.getLsbD Ev.THERMAL_WARN = true) ∧
    (trip = true → s.mon.trip = false → (tempLimits warn trip s).ev.bits.getLsbD Ev.THERMAL_TRIP = true ∧ hasCause (tempLimits warn trip s) 12 = true ∧
      (s.flow.mode = .write → s.flow.resume = .none → (tempLimits warn trip s).flow.holdReq = true)) ∧
    (trip = false → s.mon.trip = true → hasCause (tempLimits warn trip s) 12 = false) ∧ (trip = s.mon.trip → (tempLimits warn trip s).flow = s.flow) := by
  obtain ⟨hwarn, htrip, hflow, hevent⟩ := warnTaken_takes warn trip s
  rw [tempLimits_eq]
  generalize warnTaken warn trip s = u at hwarn htrip hflow hevent
  cases hwas : s.mon.trip <;> cases trip
  case false.true =>
    have hstand := eventsStand_requestHold 12 (raise Ev.THERMAL_TRIP u)
    rw [if_pos (c := (true && !false) = true) rfl]
    refine ⟨by rw [requestHold_mon]; exact hwarn, by rw [requestHold_mon]; exact htrip, fun h h' => hstand _ (eventsStand_raise _ u _ (hevent h h')),
      fun _ _ => ⟨hstand _ (raise_raises (by decide) u), ?_, fun hmode hnone => ?_⟩, nofun, nofun⟩
    · rw [hasCause_congr (requestHold_causes 12 _), hasCause_setCause (by decide)]
      simp
    · rw [requestHold_of_none (s := raise Ev.THERMAL_TRIP u) (by rw [← hnone, ← hflow]; rfl), if_pos (by rw [← hmode, ← hflow]; rfl)]
  case true.false =>
    rw [if_neg (c := (false && !true) = true) (by simp), if_pos (c := (!false && true) = true) rfl]
    refine ⟨hwarn, htrip, hevent, nofun, fun _ _ => ?_, nofun⟩
    rw [hasCause_clearCause (by decide)]
    simp
  case false.false => exact ⟨hwarn, htrip, hevent, nofun, fun _ h => (nomatch h), fun _ => hflow⟩
  case true.true => exact ⟨hwarn, htrip, hevent, fun _ h => (nomatch h), nofun, fun _ => hflow⟩

theorem dieTempRead_reads {s : State} (raw : List Int) (hboot : s.flow.boot ≠ .held) (hawake : asleep s = false) : Yields (.dieTempRead raw) s fun t =>
      let ts := raw.zipIdx.map fun p => sensorReading s p.2 125 p.1
      t.mon.warn = dieWarns ts s ∧ t.mon.trip = dieTrips ts s ∧
      (dieWarns ts s = true → s.mon.warn = false → t.ev.bits.getLsbD Ev.THERMAL_WARN = true) ∧
      (dieTrips ts s = true → s.mon.trip = false → t.ev.bits.getLsbD Ev.THERMAL_TRIP = true ∧ hasCause t 12 = true ∧
        (s.flow.mode = .write → s.flow.resume = .none → t.flow.holdReq = true)) ∧
      (dieTrips ts s = false → s.mon.trip = true → hasCause t 12 = false) ∧
      (dieTrips ts s = s.mon.trip → t.flow = s.flow) ∧ t.job = s.job ∧ DramKept s t := by
  generalize hts : (raw.zipIdx.map fun p => sensorReading s p.2 125 p.1) = ts
  obtain ⟨hwas, hwastrip, hregs⟩ := dieSamples_limits ts s
  have hwarns : dieWarns ts (dieSamples ts s) = dieWarns ts s := by rw [dieWarns, dieWarns, fget_regs hregs, hwas]
  have htrips : dieTrips ts (dieSamples ts s) = dieTrips ts s := by rw [dieTrips, dieTrips, actTrip, actTrip, fget_regs hregs, hwastrip]
  have hnot : ¬ (s.flow.boot = .held ∨ (s.flow.mode = .rest ∧ s.pwr.rest.stage = 0 ∧ !s.pwr.rest.waking)) := by
    rintro (h | ⟨h1, h2, h3⟩)
    · exact hboot h
    · simp only [Bool.not_eq_true'] at h3
      simp [asleep, h1, h2, h3] at hawake
  have heq : dieTemps raw s = tempLimits (dieWarns ts s) (dieTrips ts s) (dieSamples ts s) := by
    unfold dieTemps
    rw [if_neg hnot]
    dsimp only
    rw [hts, hwarns, htrips]
  obtain ⟨hwarn, htrip, hwarned, htripped, hcleared, hflow⟩ := tempLimits_takes (dieWarns ts s) (dieTrips ts s) (dieSamples ts s)
  rw [hwas] at hwarned
  rw [hwastrip] at htripped hcleared hflow
  have hsflow : (dieSamples ts s).flow = s.flow := by simp
  rw [hsflow] at htripped hflow
  exact ⟨_, congrArg Host.Outcome.next heq, hwarn, htrip, hwarned, htripped, hcleared, hflow, by simp, dramKept_of_eq (by simp)⟩

theorem dieTempRead_idle {s : State} (raw : List Int) (h : s.flow.boot = .held ∨ asleep s = true) : Yields (.dieTempRead raw) s fun t => t = s := by
  refine ⟨_, rfl, if_pos (h.imp id fun hasleep => ?_)⟩
  simp only [asleep, Bool.and_eq_true, beq_iff_eq] at hasleep
  obtain ⟨⟨hmode, hstage⟩, hwaking⟩ := hasleep
  exact ⟨hmode, hstage, hwaking⟩

/-! ## Writes of whole units -/

theorem mem_unitsOf {a n u : Nat} (h : u ∈ unitsOf a n) : a / 64 ≤ u ∧ u < (a + n + 63) / 64 := by
  unfold unitsOf at h
  obtain ⟨k, hk, rfl⟩ := List.mem_map.1 h
  have := List.mem_range.1 hk
  omega

theorem writeUnit_whole_ev {port a n u : Nat} (hwhole : a ≤ u * 64 ∧ u * 64 + 64 ≤ a + n) (s : State) : (writeUnit port a n u s).ev = s.ev := by
  have hput : ∀ (k : EccResult) (e : Ecc) (v : State), (if k = .clean then v else useFree (fput Reg.ECC_INJECT_KIND 0 { v with ecc := e })).ev = v.ev :=
    fun k e v => (injection_leaves k e v).1
  obtain ⟨-, -, hev, -⟩ := accessUnit_leaves true u s
  unfold writeUnit
  split
  · rfl
  · rw [decide_eq_true hwhole]
    exact (hput _ _ _).trans hev

theorem writePart_whole {s : State} {a n : Nat} (ha : a % 64 = 0) (hn : n % 64 = 0) (p : Nat) : (writePart s a n p).1 % 64 = 0 ∧ (writePart s a n p).2 % 64 = 0 := by
  unfold writePart
  split
  · exact ⟨by dsimp only; omega, by dsimp only⟩
  · dsimp only
    omega

theorem writeSpan_whole_ev {port a n : Nat} (ha : a % 64 = 0) (hn : n % 64 = 0) (us : List Nat) (hus : ∀ u ∈ us, u ∈ unitsOf a n) (s : State) :
    (us.foldl (fun s u => writeUnit port a n u s) s).ev = s.ev := by
  induction us generalizing s with
  | nil => rfl
  | cons u us ih =>
    obtain ⟨hlo, hhi⟩ := mem_unitsOf (hus u List.mem_cons_self)
    rw [List.foldl_cons, ih (fun v hv => hus v (List.mem_cons_of_mem u hv)), writeUnit_whole_ev (by omega)]

theorem writeParts_whole_ev {port : Nat} (ps : List (Nat × Nat)) (hps : ∀ p ∈ ps, p.1 % 64 = 0 ∧ p.2 % 64 = 0) (s : State) :
    (ps.foldl (fun s p => (unitsOf p.1 p.2).foldl (fun s u => writeUnit port p.1 p.2 u s) s) s).ev = s.ev := by
  induction ps generalizing s with
  | nil => rfl
  | cons p ps ih =>
    obtain ⟨h1, h2⟩ := hps p List.mem_cons_self
    rw [List.foldl_cons, ih (fun q hq => hps q (List.mem_cons_of_mem p hq)), writeSpan_whole_ev h1 h2 _ fun _ hu => hu]

theorem countUrgent_ev (p n : Nat) (s : State) : (countUrgent p n s).ev = s.ev := by
  have hrest := (countUrgent_leaves p n s).1
  generalize countUrgent p n s = t at hrest
  generalize t.regs = regs at hrest
  rw [hrest]

/-- A write of whole units reads none of them. -/
theorem writeUnits_whole_ev {port a n : Nat} (ha : a % 64 = 0) (hn : n % 64 = 0) (s : State) : (writeUnits port a n s).ev = s.ev := by
  unfold writeUnits
  split
  · rfl
  · refine (writeParts_whole_ev _ (fun p hp => ?_) _).trans (countUrgent_ev port (unitsOf a n).length s)
    obtain ⟨k, -, rfl⟩ := List.mem_map.1 hp
    exact writePart_whole ha hn _

/-- What bytes written to DRAM leave beside them. -/
structure BytesPut (s t : State) : Prop where
  regs : ∀ k, k / 65536 ≠ 0x0B → k / 65536 ≠ 0x0C → rget t k = rget s k
  fence : rget t Reg.HBM_FENCE = rget s Reg.HBM_FENCE
  mon : t.mon = s.mon

theorem BytesPut.trans {s t u : State} (h : BytesPut s t) (h' : BytesPut t u) : BytesPut s u :=
  ⟨fun k hb hc => (h'.regs k hb hc).trans (h.regs k hb hc), h'.fence.trans h.fence, h'.mon.trans h.mon⟩

theorem MemoryOnly.bytesPut {s t : State} (h : MemoryOnly s t) : BytesPut s t := ⟨h.regs, h.fence, by rw [h.rest]⟩

theorem bytesPut_of_dram (s : State) (m : List (Nat × Byte)) : BytesPut s { s with dram := m } := ⟨fun _ _ _ => rfl, rfl, rfl⟩

theorem writeBytes_eq (a : Nat) (bs : List Byte) (us : List Nat) (s : State) : ∃ m, us.foldl (fun s u => writeUnitBytes a bs u s) s = { s with dram := m } := by
  induction us generalizing s with
  | nil => exact ⟨s.dram, rfl⟩
  | cons u us ih =>
    have hone : ∃ m, writeUnitBytes a bs u s = { s with dram := m } := by
      unfold writeUnitBytes
      split
      · exact ⟨s.dram, rfl⟩
      · exact ⟨_, rfl⟩
    obtain ⟨m, hm⟩ := hone
    obtain ⟨m', hm'⟩ := ih (writeUnitBytes a bs u s)
    exact ⟨m', by rw [List.foldl_cons, hm', hm]⟩

/-- A write of bytes goes to the stacks as the write of their units. -/
theorem memWrite_units (port a : Nat) (bs : List Byte) (s : State) : ∃ m, memWrite port a bs s =
    if bs.isEmpty then s else writeUnits port a bs.length { s with dram := m } := by
  unfold memWrite
  split
  · exact ⟨s.dram, rfl⟩
  · dsimp only
    split
    · obtain ⟨m, hm⟩ := writeBytes_eq a bs (unitsOf a bs.length) s
      exact ⟨m, by rw [hm]⟩
    · exact ⟨_, rfl⟩

theorem bytesPut_memWrite {port : Nat} (hp : port < 16) (a : Nat) (bs : List Byte) (s : State) : BytesPut s (memWrite port a bs s) := by
  obtain ⟨m, hm⟩ := memWrite_units port a bs s
  rw [hm]
  split
  · exact ⟨fun _ _ _ => rfl, rfl, rfl⟩
  · exact (bytesPut_of_dram s m).trans (memoryOnly_writeUnits hp a bs.length _).bytesPut

theorem memWrite_whole_ev {port a : Nat} {bs : List Byte} (ha : a % 64 = 0) (hn : bs.length % 64 = 0) (s : State) : (memWrite port a bs s).ev = s.ev := by
  obtain ⟨m, hm⟩ := memWrite_units port a bs s
  rw [hm]
  split
  · rfl
  · exact writeUnits_whole_ev ha hn _

/-- With no channel fenced, every byte is written. -/
theorem dramByte_memWrite {s : State} (hfence : fget s Reg.HBM_FENCE_CHANNELS = 0) (port a : Nat) (bs : List Byte) (j : Nat) :
    dramByte (memWrite port a bs s) j = if h : a ≤ j ∧ j - a < bs.length then bs[j - a]'h.2 else dramByte s j := by
  have hnone : ∀ b, fencedAt s b = false := fun b => by rw [fencedAt, fbitAt, hfence, Nat.zero_testBit]
  have hunits : dramByte (memWrite port a bs s) j = dramByte (dramWrite a bs s) j := by
    unfold memWrite
    split
    · next h =>
      rw [dramByte_dramWrite, dif_neg]
      rw [List.isEmpty_iff.1 h]
      simp
    · have hany : ((unitsOf a bs.length).any fun u => fencedAt s (u * 64)) = false := by simp [hnone]
      dsimp only
      rw [hany, if_neg Bool.false_ne_true, dramByte, (writeUnits_frame port a bs.length _).2.2.1, dramByte]
  rw [hunits, dramByte_dramWrite]

/-! ## The ring of diagnostics -/

/-- The chunk of a list of snapshots is a whole number of units, and never empty. -/
theorem diagChunk_length (first : Nat) (content : List Byte) : (diagChunk first content).length % 64 = 0 ∧ 0 < (diagChunk first content).length := by
  unfold diagChunk
  simp only [List.length_append, List.length_replicate, List.length_cons, List.length_nil]
  omega

abbrev diagBase : Nat := (region Rgn.diag).lo

theorem bytesPut_writeDiag (bs : List Byte) (s : State) : BytesPut s (writeDiag bs s) := by
  unfold writeDiag
  dsimp only
  split
  · exact bytesPut_memWrite (by decide) _ _ s
  · exact (bytesPut_memWrite (by decide) _ _ s).trans (bytesPut_memWrite (by decide) _ _ _)

theorem writeDiag_whole_ev {bs : List Byte} {s : State} (hbs : bs.length % 64 = 0) (hhead : fget s Reg.MON_DIAG_HEAD_BYTES % 64 = 0) :
    (writeDiag bs s).ev = s.ev := by
  have hbase : diagBase % 64 = 0 := by decide
  have hfirst : (memWrite Port.proctor (diagBase + fget s Reg.MON_DIAG_HEAD_BYTES % 2 ^ 30) (bs.take (2 ^ 30 - fget s Reg.MON_DIAG_HEAD_BYTES % 2 ^ 30)) s).ev = s.ev := by
    refine memWrite_whole_ev (by omega) ?_ s
    rw [List.length_take]
    omega
  unfold writeDiag
  dsimp only
  split
  · exact hfirst
  · refine (memWrite_whole_ev hbase ?_ _).trans hfirst
    rw [List.length_drop]
    omega

/-- Bytes put into a ring of `room + off` bytes from the offset `off` on, those past its end at its start. -/
theorem dramByte_ringWrite {s : State} (hfence : fget s Reg.HBM_FENCE_CHANNELS = 0) {lo off room : Nat} {bs : List Byte} (hfits : bs.length ≤ room + off)
    {i : Nat} {b : Byte} (hb : bs[i]? = some b) :
    dramByte (if bs.length ≤ room then memWrite Port.proctor (lo + off) (bs.take room) s else memWrite Port.proctor lo (bs.drop room) (memWrite Port.proctor (lo + off) (bs.take room) s))
      (lo + if i < room then off + i else i - room) = b := by
  obtain ⟨hi, hget⟩ := List.getElem?_eq_some_iff.1 hb
  have hput := bytesPut_memWrite (port := Port.proctor) (by decide) (lo + off) (bs.take room) s
  have hfence' : fget (memWrite Port.proctor (lo + off) (bs.take room) s) Reg.HBM_FENCE_CHANNELS = 0 := (fget_congr hput.fence).trans hfence
  have hfirst := dramByte_memWrite hfence Port.proctor (lo + off) (bs.take room)
  have hsecond := dramByte_memWrite hfence' Port.proctor lo (bs.drop room)
  by_cases hin : i < room
  · have hbyte : dramByte (memWrite Port.proctor (lo + off) (bs.take room) s) (lo + (off + i)) = b := by
      rw [hfirst, dif_pos (by rw [List.length_take]; omega), ← hget]
      simp only [List.getElem_take]
      exact getElem_congr_idx (by omega)
    rw [if_pos hin]
    split
    · exact hbyte
    · rw [hsecond, dif_neg (by rw [List.length_drop]; omega), hbyte]
  · rw [if_neg hin, if_neg (by omega), hsecond, dif_pos (by rw [List.length_drop]; omega), ← hget]
    simp only [List.getElem_drop]
    exact getElem_congr_idx (by omega)

/-- A byte of a chunk stands in the ring at its place. -/
theorem writeDiag_puts {bs : List Byte} {s : State} (hfence : fget s Reg.HBM_FENCE_CHANNELS = 0) (hlen : bs.length ≤ 2 ^ 30) {i : Nat} {b : Byte} (hb : bs[i]? = some b) :
    dramByte (writeDiag bs s) (diagBase + (fget s Reg.MON_DIAG_HEAD_BYTES + i) % 2 ^ 30) = b := by
  obtain ⟨hi, -⟩ := List.getElem?_eq_some_iff.1 hb
  unfold writeDiag
  dsimp only
  generalize fget s Reg.MON_DIAG_HEAD_BYTES = head
  have hplace : (head + i) % 2 ^ 30 = if i < 2 ^ 30 - head % 2 ^ 30 then head % 2 ^ 30 + i else i - (2 ^ 30 - head % 2 ^ 30) := by
    split <;> omega
  rw [hplace]
  have hfits : bs.length ≤ 2 ^ 30 - head % 2 ^ 30 + head % 2 ^ 30 := by omega
  generalize head % 2 ^ 30 = off at hfits ⊢
  generalize 2 ^ 30 - off = room at hfits ⊢
  exact dramByte_ringWrite hfence hfits hb

/-- A snapshot is counted, and stands with those before it until they make a chunk. -/
def snapTaken (snaps : List (List Byte)) (s : State) : State := { s with mon := { s.mon with snapIndex := s.mon.snapIndex + 1, snaps := snaps } }

section
variable {s : State} (hen : fbit s Reg.MON_SNAP_EN = true) (hproctor : proctorRuns s = true) (hresting : resting s = false)
  (hmem : powered s Dom.MEM = true) (hboot : s.flow.boot = .over)
include hen hproctor hresting hmem hboot

theorem diagSnapshot_eq : diagSnapshot s = if (s.mon.snaps ++ [snapshot s]).length < 64 then snapTaken (s.mon.snaps ++ [snapshot s]) s
    else putChunk (diagChunk (s.mon.snapIndex + 1 - 64) (s.mon.snaps ++ [snapshot s]).flatten) (snapTaken [] s) := by
  unfold diagSnapshot
  rw [if_pos ⟨hen, hproctor, hresting, hmem, hboot⟩]
  dsimp only
  split
  · rfl
  · rfl

theorem diagSnapshot_stands (hlen : s.mon.snaps.length < 63) : Yields .diagSnapshot s fun t =>
    t = { s with mon := { s.mon with snapIndex := s.mon.snapIndex + 1, snaps := s.mon.snaps ++ [snapshot s] } } := by
  refine ⟨_, rfl, (diagSnapshot_eq hen hproctor hresting hmem hboot).trans (if_pos ?_)⟩
  rw [List.length_append, List.length_singleton]
  omega

theorem diagSnapshot_chunks (hlen : s.mon.snaps.length = 63) : Yields .diagSnapshot s fun t =>
        t.mon.snapIndex = s.mon.snapIndex + 1 ∧ t.mon.snaps = [] ∧ t.flow = s.flow ∧ t.job = s.job ∧
        (fget s Reg.MON_DIAG_HEAD_BYTES % 64 = 0 → t.ev = s.ev) ∧
        (let chunk := diagChunk (s.mon.snapIndex - 63) (s.mon.snaps ++ [snapshot s]).flatten
         let used := (2 ^ 32 + fget s Reg.MON_DIAG_HEAD_BYTES - s.mon.acked) % 2 ^ 32
         if 2 ^ 30 < used + chunk.length then
           fget t Reg.MON_DIAG_HEAD_BYTES = fget s Reg.MON_DIAG_HEAD_BYTES ∧
           fget t Reg.MON_DIAG_LOST_COUNT = min 65535 (fget s Reg.MON_DIAG_LOST_COUNT + 1) ∧ DramKept s t
         else fget t Reg.MON_DIAG_HEAD_BYTES = (fget s Reg.MON_DIAG_HEAD_BYTES + chunk.length) % 2 ^ 32 ∧
           fget t Reg.MON_DIAG_LOST_COUNT = fget s Reg.MON_DIAG_LOST_COUNT ∧
           ∀ i b, chunk[i]? = some b → fget s Reg.HBM_FENCE_CHANNELS = 0 →
             dramByte t ((region Rgn.diag).lo + (fget s Reg.MON_DIAG_HEAD_BYTES + i) % 2 ^ 30) = b) := by
  have heq := diagSnapshot_eq hen hproctor hresting hmem hboot
  rw [if_neg (by rw [List.length_append, List.length_singleton]; omega), show s.mon.snapIndex + 1 - 64 = s.mon.snapIndex - 63 by omega] at heq
  obtain ⟨hwhole, hpos⟩ := diagChunk_length (s.mon.snapIndex - 63) (s.mon.snaps ++ [snapshot s]).flatten
  generalize diagChunk (s.mon.snapIndex - 63) (s.mon.snaps ++ [snapshot s]).flatten = chunk at heq hwhole hpos
  set used := (2 ^ 32 + fget s Reg.MON_DIAG_HEAD_BYTES - s.mon.acked) % 2 ^ 32 with hused
  let u := snapTaken [] s
  have hput := bytesPut_writeDiag chunk u
  by_cases hfull : 2 ^ 30 < used + chunk.length
  · have hlost : putChunk chunk u = fcount Reg.MON_DIAG_LOST_COUNT 1 u := if_pos (show 2 ^ 30 - used < chunk.length by omega)
    have hregs : RegsKept [Reg.MON_DIAG_LOST] u (fcount Reg.MON_DIAG_LOST_COUNT 1 u) := regsKept_fput (f := Reg.MON_DIAG_LOST_COUNT) (List.mem_singleton_self _) _ u
    refine ⟨_, congrArg Host.Outcome.next (heq.trans hlost), rfl, rfl, rfl, rfl, fun _ => rfl, ?_⟩
    dsimp only
    rw [if_pos hfull]
    exact ⟨hregs.fget (by decide), fget_fcount rfl 1 u, dramKept_of_eq rfl⟩
  · have hin : putChunk chunk u = fput Reg.MON_DIAG_HEAD_BYTES (fget s Reg.MON_DIAG_HEAD_BYTES + chunk.length) (writeDiag chunk u) :=
      if_neg (show ¬ 2 ^ 30 - used < chunk.length by omega)
    have hregs : RegsKept [Reg.MON_DIAG_HEAD] (writeDiag chunk u) (putChunk chunk u) := by
      rw [hin]
      exact regsKept_fput (f := Reg.MON_DIAG_HEAD_BYTES) (List.mem_singleton_self _) _ _
    have hmon : (putChunk chunk u).mon = u.mon := by rw [hin]; exact hput.mon
    refine ⟨_, congrArg Host.Outcome.next heq, by rw [hmon]; rfl, by rw [hmon]; rfl, by simp [snapTaken], by simp [snapTaken], fun hhead => ?_, ?_⟩
    · rw [hin]
      exact writeDiag_whole_ev (s := u) hwhole hhead
    · dsimp only
      rw [if_neg hfull]
      refine ⟨?_, ?_, fun i b hb hfence => ?_⟩
      · rw [hin, fget_fput_same _ _ rfl, show Reg.MON_DIAG_HEAD_BYTES.hi - Reg.MON_DIAG_HEAD_BYTES.lo + 1 = 32 from rfl]
      · rw [hregs.fget (by decide), fget_congr (f := Reg.MON_DIAG_LOST_COUNT) (hput.regs _ (by decide) (by decide))]
        rfl
      · rw [hin]
        exact writeDiag_puts (s := u) hfence (by omega) hb

end

/-- Settles O30: a probe's write restarts its own capture alone; the die sensors' samples touch neither the limits nor what they are taken
from; a chunk is a whole number of units, so that its write reads none and lands byte by byte. -/
theorem probesAndSensorsReport : Obligations.ProbesAndSensorsReport := by
  unfold Obligations.ProbesAndSensorsReport
  refine ⟨fun s p => ⟨fun r src w lo hi h hsrc => monConfig_sets p w lo hi h hsrc, fun r h => monRead_reads p h, fun i v => monProbeWrite_writes p i v⟩,
    fun s => ⟨fun raw h => dieTempRead_idle raw h, fun raw hboot hawake => dieTempRead_reads raw hboot hawake, fun hen hproctor hresting hmem hboot =>
      ⟨diagSnapshot_stands hen hproctor hresting hmem hboot, diagSnapshot_chunks hen hproctor hresting hmem hboot⟩⟩⟩

end Sys2Proof.Machine
end

section
/-!
PROOFS. The classes of echoes: what a classification counts, and that neither a head fault nor the settling of shots takes anything of it back (O47).
-/

namespace Sys2Proof.Machine

/-! ## The record of shots under the Absence Log -/

/-- The shots in flight stand, and a job end in progress; BLANK_ALL is not released. -/
structure ShotsStand (s t : State) : Prop where
  shots : t.shots = s.shots
  ending : t.flow.ending = s.flow.ending
  blank : fbit s Reg.OUT_STATUS_BLANK = true → fbit t Reg.OUT_STATUS_BLANK = true

theorem ShotsStand.trans {s t u : State} (h : ShotsStand s t) (h' : ShotsStand t u) : ShotsStand s u :=
  ⟨h'.shots.trans h.shots, h'.ending.trans h.ending, fun hb => h'.blank (h.blank hb)⟩

theorem ShotsStand.refl (s : State) : ShotsStand s s := ⟨rfl, rfl, id⟩

theorem MemoryOnly.shotsStand {s t : State} (h : MemoryOnly s t) : ShotsStand s t := ⟨by rw [h.rest], by rw [h.flow], fun hb => by
    rwa [fbit, fget_congr (f := Reg.OUT_STATUS_BLANK) (h.regs _ (by decide) (by decide))]⟩

theorem HoldOnly.shots {s t : State} (h : HoldOnly s t) : t.shots = s.shots := by rw [h]

theorem shotsStand_foldl {β : Type} {g : State → β → State} (h : ∀ s x, ShotsStand s (g s x)) (l : List β) (s : State) : ShotsStand s (l.foldl g s) := by
  induction l generalizing s with
  | nil => exact .refl s
  | cons x l ih => exact (h s x).trans (ih _)

theorem shotsStand_abs (a : Abs) (s : State) : ShotsStand s { s with abs := a } := ⟨rfl, rfl, id⟩

theorem shotsStand_fput {f : Field} (hf : f.reg ≠ Reg.OUT_STATUS) (v : Nat) (s : State) : ShotsStand s (fput f v s) :=
  ⟨rfl, rfl, fun hb => by rwa [fbit, fget_fput_other _ _ _ _ (Ne.symm hf)]⟩

theorem shotsStand_absPlace (e : AbsEntry) (s : State) : ShotsStand s (absPlace e s) := by
  have hentries : (Reg.ABS_ENTRIES_COUNT e.reason.code).reg ≠ Reg.OUT_STATUS := by cases e.reason <;> decide
  have hwrite : ∀ u : State, ShotsStand u (absWrite e u) := fun u =>
    (((memoryOnly_writeUnits (port := Port.log) (by decide) (absAddr (fget u Reg.ABS_HEAD_INDEX)) 32 u).shotsStand.trans (shotsStand_abs _ _)).trans
      (shotsStand_fput (f := Reg.ABS_HEAD_INDEX) (by decide) _ _)).trans (shotsStand_fput hentries _ _)
  unfold absPlace
  split
  · split
    · exact ⟨rfl, rfl, id⟩
    · exact ⟨rfl, rfl, id⟩
  · split
    · exact hwrite s
    · split
      · exact ⟨rfl, rfl, id⟩
      · exact ⟨rfl, rfl, id⟩

theorem shotsStand_absMakeRoom (room n : Nat) (s : State) : ShotsStand s (absMakeRoom room n s) := by
  induction n generalizing s with
  | zero => exact .refl s
  | succ n ih =>
    unfold absMakeRoom
    split
    · exact .refl s
    · split
      · exact ((shotsStand_abs _ s).trans (shotsStand_absPlace _ _)).trans (ih _)
      · exact .refl s

theorem shotsStand_absCloseWhere (p : AbsEntry → Bool) (s : State) : ShotsStand s (absCloseWhere p s) :=
  (shotsStand_abs _ s).trans (shotsStand_foldl (fun u e => (shotsStand_absPlace e u).trans (shotsStand_absMakeRoom _ _ _)) _ _)

theorem shotsStand_absJoin (e : AbsEntry) (s : State) : ShotsStand s (absJoin e s) := by
  have hopen : ShotsStand s (absOpen e s) := ((shotsStand_absMakeRoom _ _ s).trans (memoryOnly_writeSram _ _ _).shotsStand).trans (shotsStand_abs _ _)
  unfold absJoin
  dsimp only
  split
  · exact ⟨rfl, rfl, id⟩
  · exact hopen

theorem shotsStand_absForm (e : AbsEntry) (s : State) : ShotsStand s (absForm e s) := by
  unfold absForm
  split
  · split
    · exact ⟨rfl, rfl, id⟩
    · exact shotsStand_absJoin e s
  · exact shotsStand_absJoin e s

theorem shotsStand_absFormShot (sh : Shot) (s : State) : ShotsStand s (absFormShot sh s) := by
  have hclips : ShotsStand s (countClips sh s) := shotsStand_fput (f := Reg.GTH_CLIP_COUNT) (by decide) _ s
  unfold absFormShot
  split
  · exact (shotsStand_absForm _ s).trans (shotsStand_absCloseWhere _ _)
  · split
    · exact (hclips.trans (shotsStand_foldl (fun u e => shotsStand_absForm e u) _ _)).trans (shotsStand_absCloseWhere _ _)
    · exact .refl s

theorem requestHold_ending (n : Nat) (s : State) : (requestHold n s).flow.ending = s.flow.ending := by
  have hcancel : (cancelResume (setCause n s)).flow.ending = s.flow.ending := by
    rw [cancelResume_flow]
    split
    · rfl
    · rfl
  unfold requestHold
  dsimp only
  split
  · exact hcancel
  · split
    · exact hcancel
    · exact hcancel

/-- A Hold that is asked for does not release BLANK_ALL. -/
theorem requestHold_blank (n : Nat) (s : State) (hb : fbit s Reg.OUT_STATUS_BLANK = true) : fbit (requestHold n s) Reg.OUT_STATUS_BLANK = true := by
  have hcancel : fbit (cancelResume (setCause n s)) Reg.OUT_STATUS_BLANK = true :=
    (blankSet_cancelResume (ks := holdNowRegs) (by decide) (by decide) (setCause n s)).blank hb
  unfold requestHold
  dsimp only
  split
  · exact hcancel
  · split
    · exact hcancel
    · exact hcancel

theorem shotsStand_absSync (s : State) : ShotsStand s (absSync s) := by
  have hput : ∀ {f : Field} (_ : f.reg / 65536 = 9) (v : Nat) (u w : State), ShotsStand w u → ShotsStand w (fput f v u) := fun hf v u w hu =>
    hu.trans (shotsStand_fput (fun h => by rw [h] at hf; exact absurd hf (by decide)) v u)
  have hlost : ∀ u, ShotsStand u (absShowLost u) := fun u => by
    unfold absShowLost
    split <;> exact hput (by decide) _ _ _ (hput (by decide) _ _ _ (hput (by decide) _ _ _ (hput (by decide) _ _ _ (hput (by decide) _ _ _ (.refl u)))))
  have hreserve : ∀ u, ShotsStand u (absReserve u) := fun u => by
    have hreserved : ∀ v, ShotsStand u (fput Reg.ABS_STATUS_RESERVE v u) := fun v => hput (by decide) v u u (.refl u)
    unfold absReserve
    split
    · have hhold : ShotsStand (fput Reg.ABS_STATUS_RESERVE 1 u) (requestHold 9 (fput Reg.ABS_STATUS_RESERVE 1 u)) :=
        ⟨(holdOnly_requestHold 9 _).shots, requestHold_ending 9 _, requestHold_blank 9 _⟩
      exact ((hreserved 1).trans hhold).trans (memoryOnly_raise _ _).shotsStand
    · split
      · exact (hreserved 0).trans ⟨rfl, rfl, id⟩
      · exact .refl u
  exact (((hput (f := Reg.ABS_UNREC_ENTRIES) (by decide) _ _ _ (hput (f := Reg.ABS_OPEN_ENTRIES) (by decide) _ _ _
    (hput (f := Reg.ABS_FREE_SLOTS) (by decide) _ _ _ (.refl s))))).trans (hlost _)).trans (hreserve _)

theorem shotsStand_absSettle (sh : Shot) (s : State) : ShotsStand s (absSettle sh s) :=
  ((shotsStand_absCloseWhere _ s).trans (shotsStand_absFormShot sh _)).trans (shotsStand_absSync _)

theorem shotsStand_absLastShot (sh : Shot) (s : State) : ShotsStand s (absLastShot sh s) := by
  unfold absLastShot
  split
  · exact (shotsStand_absCloseWhere _ s).trans (shotsStand_absSync _)
  · exact .refl s

/-- Shots settle from the oldest on: those left are left as they are. -/
theorem settleLoop_shots (n : Nat) (s : State) : (settleLoop n s).shots <:+ s.shots ∧ (settleLoop n s).flow.ending = s.flow.ending ∧
    (fbit s Reg.OUT_STATUS_BLANK = true → fbit (settleLoop n s) Reg.OUT_STATUS_BLANK = true) := by
  induction n generalizing s with
  | zero => exact ⟨List.suffix_refl _, rfl, id⟩
  | succ n ih =>
    unfold settleLoop
    split
    · next sh rest hshots =>
      split
      · obtain ⟨hleft, hending, hblank⟩ := ih (absLastShot sh (absSettle sh { s with shots := rest }))
        have hstand := (shotsStand_absSettle sh { s with shots := rest }).trans (shotsStand_absLastShot sh _)
        rw [hstand.shots] at hleft
        exact ⟨hleft.trans (hshots ▸ List.suffix_cons sh rest), hending.trans hstand.ending, fun hb => hblank (hstand.blank hb)⟩
      · exact ⟨List.suffix_refl _, rfl, id⟩
    · exact ⟨List.suffix_refl _, rfl, id⟩

theorem settleLoop_stands {n : Nat} {s : State} {sh : Shot} (hhead : s.shots.head? = some sh) (hsettled : sh.settled = false) : settleLoop n s = s := by
  obtain ⟨rest, hshots⟩ := List.head?_eq_some_iff.1 hhead
  cases n with
  | zero => rfl
  | succ n => simp only [settleLoop, hshots, hsettled, Bool.false_eq_true, if_false]

/-! ## What a classification has shown, and what keeps it -/

/-- The registers that a classification shows, and the limit of mismatches. -/
def echoRegs : List Nat := [Reg.OUT_ECHO_ERR, Reg.OUT_LAST_MISMATCH, Reg.OUT_LAST_SHOT, Reg.OUT_ECHO_CFG]

/-- No shot is added, and none loses the class of a lane. -/
def ClassesKept (s t : State) : Prop :=
  ∀ x ∈ t.shots, ∃ y ∈ s.shots, x.stripeIdx = y.stripeIdx ∧ x.shot = y.shot ∧ ∀ l c, (y.lane l).cls = some c → (x.lane l).cls = some c

theorem classesKept_of_mem {s t : State} (h : ∀ x ∈ t.shots, x ∈ s.shots) : ClassesKept s t :=
  fun x hx => ⟨x, h x hx, rfl, rfl, fun _ _ hc => hc⟩

theorem ClassesKept.trans {s t u : State} (h : ClassesKept s t) (h' : ClassesKept t u) : ClassesKept s u := fun x hx => by
  obtain ⟨y, hy, hidx, hshot, hcls⟩ := h' x hx
  obtain ⟨z, hz, hidx', hshot', hcls'⟩ := h y hy
  exact ⟨z, hz, hidx.trans hidx', hshot.trans hshot', fun l c hc => hcls l c (hcls' l c hc)⟩

theorem markCuts_classes (r : Reason) (t : Int) (sh : Shot) (l : Nat) : ((sh.markCuts r t).lane l).cls = (sh.lane l).cls := by
  have hmark : ∀ (g : GroupShot) (ls : LaneShot), (ls.markCut r t g).cls = ls.cls := fun g ls => by
    unfold LaneShot.markCut
    split
    · split
      · rfl
      · rfl
    · rfl
  simp only [Shot.lane, Shot.markCuts, List.getD_eq_getElem?_getD, List.getElem?_mapIdx]
  cases h : sh.lanes[l]? with
  | none => rfl
  | some ls => exact hmark _ ls

/-- What follows a classification leaves what it has shown. -/
structure EchoStands (s t : State) : Prop where
  regs : ∀ k ∈ echoRegs, rget t k = rget s k
  lanes : t.out.lanes = s.out.lanes
  link : t.out.link = s.out.link
  events : EventsStand s t
  classes : ClassesKept s t
  armed : t.armed = s.armed
  ending : t.flow.ending = s.flow.ending
  health : t.health = s.health
  job : t.job = s.job
  dram : t.dram = s.dram

theorem EchoStands.refl (s : State) : EchoStands s s :=
  ⟨fun _ _ => rfl, rfl, rfl, fun _ h => h, classesKept_of_mem fun _ h => h, rfl, rfl, rfl, rfl, rfl⟩

theorem EchoStands.trans {s t u : State} (h : EchoStands s t) (h' : EchoStands t u) : EchoStands s u :=
  ⟨fun k hk => (h'.regs k hk).trans (h.regs k hk), h'.lanes.trans h.lanes, h'.link.trans h.link, h.events.trans h'.events, h.classes.trans h'.classes,
    h'.armed.trans h.armed, h'.ending.trans h.ending, h'.health.trans h.health, h'.job.trans h.job, h'.dram.trans h.dram⟩

theorem echoRegs_kept {ks : List Nat} (h : ∀ k ∈ echoRegs, k ∉ ks) {s t : State} (hregs : RegsKept ks s t) : ∀ k ∈ echoRegs, rget t k = rget s k :=
  fun k hk => hregs k (h k hk)

theorem EchoStands.of_holdOnly {s t : State} (h : HoldOnly s t) (hregs : ∀ k ∈ echoRegs, rget t k = rget s k) (hev : EventsStand s t)
    (hending : t.flow.ending = s.flow.ending) : EchoStands s t where
  regs := hregs
  lanes := by rw [h]
  link := by rw [h]
  events := hev
  classes := classesKept_of_mem fun x hx => by rwa [h.shots] at hx
  armed := by rw [h]
  ending := hending
  health := by rw [h]
  job := by rw [h]
  dram := by rw [h]

theorem echoStands_assertCut (r : Reason) (t : Int) {s : State} (hrun : s.health.run = none) : EchoStands s (assertCut r t s) := by
  have hshots : ∀ u : State, u.shots = s.shots → u.health = s.health → u.armed = s.armed →
      (let v := endCheckRun (fput Reg.OUT_STATUS_BLANK 1 { u with shots := u.shots.map (Shot.markCuts r t) })
       v.shots = s.shots.map (Shot.markCuts r t) ∧ v.health = s.health ∧ v.armed = s.armed) := fun u hu hh ha => by
    dsimp only
    rw [endCheckRun_of_none (by rw [fput_health]; exact (congrArg (·.run) hh).trans hrun)]
    exact ⟨congrArg (List.map _) hu, hh, ha⟩
  have hcut : (assertCut r t s).shots = s.shots.map (Shot.markCuts r t) ∧ (assertCut r t s).health = s.health ∧ (assertCut r t s).armed = s.armed := by
    unfold assertCut
    dsimp only
    split
    · exact hshots _ rfl rfl rfl
    · exact hshots _ rfl rfl rfl
  obtain ⟨hmap, hhealth, harmed⟩ := hcut
  exact {
    regs := echoRegs_kept (by decide) (blankSet_assertCut r t hrun).regs
    lanes := by rw [assertCut_out r t hrun]
    link := by rw [assertCut_out r t hrun]
    events := eventsStand_of_ev (assertCut_ev r t s)
    classes := fun x hx => by
      rw [hmap] at hx
      obtain ⟨y, hy, rfl⟩ := List.mem_map.1 hx
      exact ⟨y, hy, rfl, rfl, fun l c hc => (markCuts_classes r t y l).trans hc⟩
    armed := harmed
    ending := by simp
    health := hhealth
    job := by simp
    dram := by simp }

theorem echoStands_toHold {s : State} (hrun : s.health.run = none) : EchoStands s (toHold s) := by
  obtain ⟨u, hu, h⟩ := toHold_eq s
  let v : State := { s with flow := { s.flow with mode := .hold, holdReq := s.flow.ending.isSome || s.flow.restartReq } }
  have huv : u = fput Reg.OUT_STATUS_BLANK 1 v := by
    rw [hu]
    exact endCheckRun_of_none (by rw [assertBlank, fput_health]; exact hrun)
  have hv : HoldOnly s (raise Ev.HOLD u) := by rw [huv]; rfl
  have hhold : HoldOnly s (toHold s) := by
    obtain h | h := h
    · rw [h]; exact hv
    · rw [h]; exact hv.trans (holdOnly_sendHoldSet _)
  exact .of_holdOnly hhold (echoRegs_kept (by decide) (blankSet_toHold hrun).1.regs) (toHold_raises s).1 (by rw [toHold_flow])

theorem echoStands_cancelResume (s : State) : EchoStands s (cancelResume s) :=
  .of_holdOnly (holdOnly_cancelResume s) (echoRegs_kept (ks := Reg.OUT_STATUS :: holdNowRegs) (by decide) (blankSet_cancelResume (by decide) (by decide) s).regs)
    (eventsStand_cancelResume s) (by rw [cancelResume_flow]; split <;> rfl)

theorem echoStands_setCause (n : Nat) (s : State) : EchoStands s (setCause n s) :=
  ⟨fun _ _ => rfl, rfl, rfl, fun _ h => h, classesKept_of_mem fun _ h => h, rfl, rfl, rfl, rfl, rfl⟩

theorem echoStands_holdAtOnce (n : Nat) (r : Reason) (t : Int) {s : State} (hrun : s.health.run = none) : EchoStands s (holdAtOnce n r t s) := by
  have hcancel := (echoStands_setCause n s).trans (echoStands_cancelResume (setCause n s))
  have hcut := hcancel.trans (echoStands_assertCut r t (by rw [hcancel.health, hrun]))
  obtain ⟨-, h⟩ | ⟨-, h⟩ := holdAtOnce_cases n r t s
  · rw [h]
    exact hcut.trans ⟨fun _ _ => rfl, rfl, rfl, fun _ h => h, classesKept_of_mem fun _ h => h, rfl, rfl, rfl, rfl, rfl⟩
  · rw [h]
    split
    · exact hcut.trans (echoStands_toHold (by rw [hcut.health, hrun]))
    · exact hcut

theorem holdAtOnce_out (n : Nat) (r : Reason) (t : Int) {s : State} (hrun : s.health.run = none) : (holdAtOnce n r t s).out = s.out := by
  have hcancel : (cancelResume (setCause n s)).out = s.out := by rw [holdOnly_cancelResume]; rfl
  have hrun' : (cancelResume (setCause n s)).health.run = none := by rw [cancelResume_health]; exact hrun
  have hcut := (assertCut_out r t hrun').trans hcancel
  obtain ⟨-, h⟩ | ⟨-, h⟩ := holdAtOnce_cases n r t s
  · rw [h]
    exact hcut
  · rw [h]
    split
    · refine Eq.trans ?_ hcut
      obtain ⟨u, hu, hhold⟩ := toHold_eq (assertCut r t (cancelResume (setCause n s)))
      have huv : u.out = (assertCut r t (cancelResume (setCause n s))).out := by
        rw [hu, endCheckRun_of_none (by rw [assertBlank, fput_health]; exact assertCut_health_run _ _ _), assertBlank, fput_out]
      obtain hhold | hhold := hhold
      · rw [hhold]; exact huv
      · rw [hhold, holdOnly_sendHoldSet (raise Ev.HOLD u)]; exact huv
    · exact hcut

/-- A head fault is reported and shown, and holds the module with the outputs blanked. -/
theorem headFault_faults (t : Int) {s : State} (hrun : s.health.run = none) :
    EchoStands s (headFault t s) ∧ (headFault t s).ev.bits.getLsbD Ev.HEAD_FAULT = true ∧ (headFault t s).out.headFault = true ∧
    hasCause (headFault t s) 8 = true ∧ fbit (headFault t s) Reg.OUT_STATUS_BLANK = true := by
  let v : State := { s with out := { s.out with headFault := true } }
  let u := raise Ev.HEAD_FAULT v
  have hu : EchoStands s u :=
    ⟨fun _ _ => rfl, rfl, rfl, eventsStand_raise Ev.HEAD_FAULT v, classesKept_of_mem fun _ h => h, rfl, rfl, rfl, rfl, rfl⟩
  have hhold : EchoStands u (holdAtOnce 8 .hold t u) := echoStands_holdAtOnce 8 .hold t hrun
  refine ⟨hu.trans hhold, hhold.events _ (raise_raises (by decide) v), ?_, ?_, (blankSet_holdAtOnce 8 .hold t (s := u) hrun).2⟩
  · rw [show headFault t s = holdAtOnce 8 .hold t u from rfl, holdAtOnce_out 8 .hold t (s := u) hrun]
    rfl
  · rw [show headFault t s = holdAtOnce 8 .hold t u from rfl, hasCause_holdAtOnce (by decide)]
    simp

theorem echoStands_settleAll (s : State) : EchoStands s (settleAll s) := by
  have h := settling_settleAll s
  have hlog : ∀ k ∈ echoRegs, ¬ logReg k := by
    unfold echoRegs logReg holdRegs
    decide
  exact {
    regs := fun k hk => h.regs k (hlog k hk)
    lanes := by rw [h.rest]
    link := by rw [h.rest]
    events := h.events
    classes := classesKept_of_mem fun x hx => (settleLoop_shots _ s).1.subset hx
    armed := by rw [h.rest]
    ending := (settleLoop_shots _ s).2.1
    health := by rw [h.rest]
    job := by rw [h.rest]
    dram := by rw [h.rest] }

/-! ## Counting an echo -/

/-- What the count of a class shows. -/
def Counted (l : Nat) (c : EchoClass) (shot : Nat) (s t : State) : Prop :=
  (c = .match → (laneState t l).bad = 0 ∧ rget t Reg.OUT_ECHO_ERR = rget s Reg.OUT_ECHO_ERR) ∧
  (c ≠ .match → fget t (if c = .missing then Reg.OUT_ECHO_ERR_MISSING else Reg.OUT_ECHO_ERR_COUNT) =
      min 65535 (fget s (if c = .missing then Reg.OUT_ECHO_ERR_MISSING else Reg.OUT_ECHO_ERR_COUNT) + 1) ∧
    fget t Reg.OUT_LAST_MISMATCH_LANE = l ∧ fget t Reg.OUT_LAST_MISMATCH_CLASS = c.code ∧ fget t Reg.OUT_LAST_SHOT_SHOT = shot % 2 ^ 32 ∧
    (laneState t l).bad = (laneState s l).bad + 1 ∧ t.out.link.clean = 0 ∧
    (actEchoLimit s ≤ (laneState s l).bad + 1 → t.out.link.on = true ∧ (s.out.link.on = false → t.ev.bits.getLsbD Ev.LINK_LOSS = true)))

/-- The counter of a class. -/
abbrev echoCounter (c : EchoClass) : Field := if c = .missing then Reg.OUT_ECHO_ERR_MISSING else Reg.OUT_ECHO_ERR_COUNT

theorem echoCounter_cases (c : EchoClass) : (echoCounter c).ok = true ∧ (echoCounter c).top = 65535 ∧ (echoCounter c).reg = Reg.OUT_ECHO_ERR := by
  cases c <;> decide

theorem Counted.stands {l : Nat} {c : EchoClass} {shot : Nat} {s t u : State} (h : Counted l c shot s t) (hu : EchoStands t u) : Counted l c shot s u := by
  obtain ⟨hmatch, hmiss⟩ := h
  have hlane : laneState u l = laneState t l := by rw [laneState, hu.lanes, laneState]
  have hcount : fget u (echoCounter c) = fget t (echoCounter c) := by
    refine fget_congr (hu.regs _ ?_)
    rw [(echoCounter_cases c).2.2]
    decide
  refine ⟨fun hc => ?_, fun hc => ?_⟩
  · obtain ⟨hbad, herr⟩ := hmatch hc
    exact ⟨by rw [hlane, hbad], (hu.regs _ (by decide)).trans herr⟩
  · obtain ⟨hn, hl, hcode, hshot, hbad, hclean, hlimit⟩ := hmiss hc
    refine ⟨hcount.trans hn, (fget_congr (hu.regs _ (by decide))).trans hl, (fget_congr (hu.regs _ (by decide))).trans hcode,
      (fget_congr (hu.regs _ (by decide))).trans hshot, by rw [hlane, hbad], by rw [hu.link, hclean], fun hle => ?_⟩
    obtain ⟨hon, hev⟩ := hlimit hle
    exact ⟨by rw [hu.link, hon], fun hoff => hu.events _ (hev hoff)⟩

/-- What is done for a record before it is counted leaves what the count starts from. -/
structure CountFrom (l : Nat) (s u : State) : Prop where
  regs : ∀ k ∈ echoRegs, rget u k = rget s k
  bad : (laneState u l).bad = (laneState s l).bad
  link : u.out.link = s.out.link
  events : EventsStand s u

theorem CountFrom.counted {l : Nat} {c : EchoClass} {shot : Nat} {s u t : State} (hu : CountFrom l s u) (h : Counted l c shot u t) : Counted l c shot s t := by
  have hcount : fget u (echoCounter c) = fget s (echoCounter c) := by
    refine fget_congr (hu.regs _ ?_)
    rw [(echoCounter_cases c).2.2]
    decide
  have hlimit : actEchoLimit u = actEchoLimit s := by
    rw [actEchoLimit, fget_congr (f := Reg.OUT_ECHO_CFG_LIMIT) (hu.regs _ (by decide)), actEchoLimit]
  unfold Counted at h ⊢
  rw [hu.regs _ (by decide), hu.bad, hu.link, hlimit] at h
  rwa [show fget u (if c = .missing then Reg.OUT_ECHO_ERR_MISSING else Reg.OUT_ECHO_ERR_COUNT) = fget s (echoCounter c) from hcount] at h

/-- The registers of a mismatch have been set. -/
def mismatchShown (l shot : Nat) (c : EchoClass) (s : State) : State :=
  fput Reg.OUT_LAST_SHOT_SHOT shot (fput Reg.OUT_LAST_MISMATCH_LANE l (fput Reg.OUT_LAST_MISMATCH_CLASS c.code (fcount (echoCounter c) 1 s)))

/-- A mismatch has been counted, in the registers and with its lane. -/
def mismatchCounted (l shot : Nat) (c : EchoClass) (s : State) : State :=
  updLane l (fun x => { x with bad := x.bad + 1 })
    { mismatchShown l shot c s with out := { s.out with link := { s.out.link with clean := 0 } } }

/-- The registers that a mismatch changes. -/
def mismatchRegs : List Nat := [Reg.OUT_ECHO_ERR, Reg.OUT_LAST_MISMATCH, Reg.OUT_LAST_SHOT]

theorem mismatchShown_shows {l : Nat} (hl : l < 64) (shot : Nat) (c : EchoClass) (s : State) : let t := mismatchShown l shot c s
    fget t (echoCounter c) = min 65535 (fget s (echoCounter c) + 1) ∧ fget t Reg.OUT_LAST_MISMATCH_LANE = l ∧
    fget t Reg.OUT_LAST_MISMATCH_CLASS = c.code ∧ fget t Reg.OUT_LAST_SHOT_SHOT = shot % 2 ^ 32 ∧ RegsKept mismatchRegs s t := by
  obtain ⟨hok, htop, hreg⟩ := echoCounter_cases c
  have hcode : c.code < 8 := by cases c <;> decide
  unfold mismatchShown
  set v := fcount (echoCounter c) 1 s with hv
  have hcount : RegsKept mismatchRegs s v := regsKept_fput (f := echoCounter c) (by rw [hreg]; decide) _ s
  refine ⟨?_, ?_, ?_, fget_fput_same _ _ rfl shot, ?_⟩
  · rw [fget_fput_other _ _ _ _ (by rw [hreg]; decide), fget_fput_other _ _ _ _ (by rw [hreg]; decide),
      fget_fput_other _ _ _ _ (by rw [hreg]; decide), hv, fget_fcount hok, htop]
  · rw [fget_fput_other _ _ _ _ (by decide), fget_fput_same _ _ rfl]
    exact Nat.mod_eq_of_lt hl
  · rw [fget_fput_other _ _ _ _ (by decide), fget_fput_beside _ _ _ rfl, fget_fput_same _ _ rfl]
    · exact Nat.mod_eq_of_lt hcode
    all_goals decide
  · exact ((hcount.trans (regsKept_fput (f := Reg.OUT_LAST_MISMATCH_CLASS) (by decide) _ _)).trans
      (regsKept_fput (f := Reg.OUT_LAST_MISMATCH_LANE) (by decide) _ _)).trans (regsKept_fput (f := Reg.OUT_LAST_SHOT_SHOT) (by decide) _ _)

/-- What a count does beside what it shows: LINK_LOSS may be declared, and the state is otherwise as it was. -/
structure CountMade (l : Nat) (c : EchoClass) (s t : State) : Prop where
  events : EventsStand s t
  classes : ClassesKept s t
  idle : (laneState t l).idle = (laneState s l).idle
  armed : t.armed = s.armed
  flow : t.flow = s.flow
  health : t.health = s.health
  job : t.job = s.job
  dram : t.dram = s.dram
  within : c = .match ∨ (laneState s l).bad + 1 < actEchoLimit s → RegsKept mismatchRegs s t ∧ t.shots = s.shots

theorem countEcho_match {l : Nat} {ty : FrameType} {shot : Nat} {cut : Bool} {t : Int} {s : State} :
    Counted l .match shot s (countEcho l ty shot .match cut t s) ∧ CountMade l .match s (countEcho l ty shot .match cut t s) := by
  have heq : countEcho l ty shot .match cut t s = updLane l (fun x => { x with bad := 0 }) s := rfl
  rw [heq]
  refine ⟨⟨fun _ => ⟨?_, rfl⟩, fun h => absurd rfl h⟩, fun _ h => h, classesKept_of_mem fun _ h => h, ?_, rfl, rfl, rfl, rfl, rfl, fun _ =>
    ⟨fun _ _ => rfl, rfl⟩⟩
  · rw [laneState_updLane_same]
  · rw [laneState_updLane_same]

/-- LINK_LOSS has been declared, and nothing is cut yet. -/
def lossShown (s : State) : State :=
  if s.out.link.on then { s with out := { s.out with link := { s.out.link with clean := 0 } } }
  else raise Ev.LINK_LOSS (fput Reg.OUT_STATUS_LINK_LOSS 1 { s with out := { s.out with link := ⟨true, 0, none⟩ } })

theorem declareLinkLoss_stands (t : Int) {s : State} (hrun : s.health.run = none) :
    EchoStands (lossShown s) (declareLinkLoss t s) ∧ (declareLinkLoss t s).flow = s.flow := by
  refine ⟨?_, by simp⟩
  unfold declareLinkLoss lossShown
  split
  · exact .refl _
  · exact echoStands_assertCut .linkLoss t hrun

/-- The state that LINK_LOSS is shown in is, beside the links and the events, the one before. -/
theorem lossShown_leaves (s : State) : let t := lossShown s
    (∀ k ∈ echoRegs, rget t k = rget s k) ∧ t.out.lanes = s.out.lanes ∧ t.out.link.clean = 0 ∧ EventsStand s t ∧ t.shots = s.shots ∧ t.armed = s.armed ∧
    t.health = s.health ∧ t.job = s.job ∧ t.dram = s.dram := by
  unfold lossShown
  split
  · exact ⟨fun _ _ => rfl, rfl, rfl, fun _ h => h, rfl, rfl, rfl, rfl, rfl⟩
  · let v : State := { s with out := { s.out with link := ⟨true, 0, none⟩ } }
    have hput : RegsKept [Reg.OUT_STATUS] v (fput Reg.OUT_STATUS_LINK_LOSS 1 v) := regsKept_fput (f := Reg.OUT_STATUS_LINK_LOSS) (List.mem_singleton_self _) 1 v
    exact ⟨echoRegs_kept (by decide) hput, rfl, rfl, eventsStand_raise Ev.LINK_LOSS (fput Reg.OUT_STATUS_LINK_LOSS 1 v), rfl, rfl, rfl, rfl, rfl⟩

/-- A mismatch, and the event of the frame it belongs to. -/
theorem countEcho_mismatch {l : Nat} (hl : l < 64) (ty : FrameType) (shot : Nat) {c : EchoClass} (hc : c ≠ .match) (cut : Bool) (t : Int) {s : State}
    (hrun : s.health.run = none) : let w := countEcho l ty shot c cut t s
    Counted l c shot s w ∧ CountMade l c s w ∧ (echoMismatch ty shot c cut = true → w.ev.bits.getLsbD Ev.ECHO_MISMATCH = true) := by
  set u := mismatchCounted l shot c s with hu
  set v := raiseIf (echoMismatch ty shot c cut) Ev.ECHO_MISMATCH u with hv
  have heq : countEcho l ty shot c cut t s = if actEchoLimit v ≤ (laneState v l).bad then declareLinkLoss t v else v := if_neg hc
  obtain ⟨hcount, hlane, hcode, hshot, hkept⟩ := mismatchShown_shows hl shot c s
  have hmem : MemoryOnly u v := memoryOnly_raiseIf _ _ _
  have hregs : ∀ k, rget v k = rget (mismatchShown l shot c s) k := fun k => by
    rw [hv, raiseIf]
    split
    · rfl
    · rfl
  have hout : v.out = u.out := by rw [hmem.rest]
  have hbad : laneState v l = { laneState s l with bad := (laneState s l).bad + 1 } := by
    rw [laneState, hout, ← laneState, hu, mismatchCounted, laneState_updLane_same]
    rfl
  have hkept' : RegsKept mismatchRegs s v := fun k hk => (hregs k).trans (hkept k hk)
  have hlimit : actEchoLimit v = actEchoLimit s := by
    rw [actEchoLimit, hkept'.fget (f := Reg.OUT_ECHO_CFG_LIMIT) (by decide), actEchoLimit]
  rw [hlimit, show (laneState v l).bad = (laneState s l).bad + 1 by rw [hbad]] at heq
  have hfield : ∀ f : Field, fget v f = fget (mismatchShown l shot c s) f := fun f => fget_congr (hregs f.reg)
  have hmade : CountMade l c s v :=
    { events := (eventsStand_of_ev (s := s) (t := u) rfl).trans hmem.events
      classes := classesKept_of_mem fun x hx => by rwa [hmem.rest] at hx
      idle := by rw [hbad]
      armed := by rw [hmem.rest]; rfl
      flow := hmem.flow
      health := by rw [hmem.rest]; rfl
      job := by rw [hmem.rest]; rfl
      dram := by rw [hmem.rest]; rfl
      within := fun _ => ⟨hkept', by rw [hmem.rest]; rfl⟩ }
  have hraised : echoMismatch ty shot c cut = true → v.ev.bits.getLsbD Ev.ECHO_MISMATCH = true := fun h => by
    rw [hv, raiseIf, if_pos h]
    exact raise_raises (by decide) u
  have hlink : v.out.link = { s.out.link with clean := 0 } := by rw [hout]; rfl
  have hvrun : v.health.run = none := by rw [hmade.health, hrun]
  dsimp only
  rw [heq]
  split
  · next hle =>
    obtain ⟨hon, hfirst⟩ := declareLinkLoss_lost t hvrun
    have hstand : EventsStand v (declareLinkLoss t v) := (declareLinkLoss_declares t v).2.1
    obtain ⟨hshown, hflow⟩ := declareLinkLoss_stands t hvrun
    obtain ⟨hlregs, hllanes, hlclean, hlev, hlshots, hlarmed, hlhealth, hljob, hldram⟩ := lossShown_leaves v
    have hlane' : laneState (declareLinkLoss t v) l = laneState v l := by rw [laneState, hshown.lanes, hllanes, laneState]
    have hfield' : ∀ f : Field, f.reg ∈ echoRegs → fget (declareLinkLoss t v) f = fget (mismatchShown l shot c s) f := fun f hf =>
      (fget_congr ((hshown.regs _ hf).trans (hlregs _ hf))).trans (hfield f)
    have hcounter : (echoCounter c).reg ∈ echoRegs := by rw [(echoCounter_cases c).2.2]; decide
    refine ⟨⟨fun h => absurd h hc, fun _ => ⟨(hfield' _ hcounter).trans hcount, (hfield' _ (by decide)).trans hlane, (hfield' _ (by decide)).trans hcode,
      (hfield' _ (by decide)).trans hshot, by rw [hlane', hbad], by rw [hshown.link, hlclean], fun _ => ⟨hon, fun hoff => ?_⟩⟩⟩, ?_, fun h => hstand _ (hraised h)⟩
    · rw [(hfirst (by rw [hlink]; exact hoff)).1]
      exact raise_raises (by decide) v
    · exact { events := hmade.events.trans hstand
              classes := (hmade.classes.trans (classesKept_of_mem fun x hx => by rwa [hlshots] at hx)).trans hshown.classes
              idle := by rw [hlane', hbad]
              armed := by rw [hshown.armed, hlarmed, hmade.armed]
              flow := by rw [hflow, hmade.flow]
              health := by rw [hshown.health, hlhealth, hmade.health]
              job := by rw [hshown.job, hljob, hmade.job]
              dram := by rw [hshown.dram, hldram, hmade.dram]
              within := fun h => (h.elim (absurd · hc) fun hlt => absurd hle (by omega)) }
  · next hle =>
    refine ⟨⟨fun h => absurd h hc, fun _ => ⟨?_, ?_, ?_, ?_, ?_, ?_, fun h => absurd h hle⟩⟩, hmade, hraised⟩
    · rw [hfield]; exact hcount
    · rw [hfield, hlane]
    · rw [hfield, hcode]
    · rw [hfield, hshot]
    · rw [hbad]
    · rw [hlink]


theorem countEcho_counts {l : Nat} (hl : l < 64) (ty : FrameType) (shot : Nat) (c : EchoClass) (cut : Bool) (t : Int) {s : State}
    (hrun : s.health.run = none) : let w := countEcho l ty shot c cut t s
    Counted l c shot s w ∧ CountMade l c s w ∧ (echoMismatch ty shot c cut = true → w.ev.bits.getLsbD Ev.ECHO_MISMATCH = true) := by
  by_cases hc : c = .match
  · subst hc
    obtain ⟨hcounted, hmade⟩ := countEcho_match (l := l) (ty := ty) (shot := shot) (cut := cut) (t := t) (s := s)
    refine ⟨hcounted, hmade, fun h => absurd h ?_⟩
    unfold echoMismatch
    cases ty <;> simp
  · exact countEcho_mismatch hl ty shot hc cut t hrun

/-! ## IDLE frames -/

theorem echoLatency_from (echo : Option DWord) (base : Int) (t : Nat) (s : State) : ∃ mon ev regs, echoLatency echo base t s = { s with mon, ev, regs } ∧
    EventsStand s (echoLatency echo base t s) ∧ RegsKept [Reg.OUT_ECHO_LAT_MAX] s (echoLatency echo base t s) := by
  unfold echoLatency
  split
  · let u := fmax Reg.OUT_ECHO_LAT_MAX_NS ((t - base) / 40).toNat s
    have hu : RegsKept [Reg.OUT_ECHO_LAT_MAX] s u := regsKept_fput (f := Reg.OUT_ECHO_LAT_MAX_NS) (List.mem_singleton_self _) _ s
    obtain ⟨mon, ev, heq⟩ := sample_eq Src.echo [(((t - base) / 40).toNat : Int)] u
    have hev := eventsStand_sample Src.echo [(((t - base) / 40).toNat : Int)] u
    refine ⟨mon, ev, u.regs, heq, hev, hu.trans (regsKept_of_eq ?_)⟩
    exact (congrArg State.regs heq).trans rfl
  · exact ⟨s.mon, s.ev, s.regs, rfl, fun _ h => h, fun _ _ => rfl⟩

/-- The registers that a classification changes. -/
def classRegs : List Nat := [Reg.OUT_ECHO_ERR, Reg.OUT_LAST_MISMATCH, Reg.OUT_LAST_SHOT, Reg.OUT_ECHO_LAT_MAX]

theorem classifyIdle_counts {l : Nat} (hl : l < 64) (base : Nat) (rest : List Nat) (echo : Option DWord) (t : Nat) {s : State} (hrun : s.health.run = none) {c : EchoClass}
    (hc : classify .idle 0x80000000 (idleCrc l) echo = c) : let w := classifyIdle l base rest echo t s
    Counted l c 0x80000000 s w ∧ (laneState w l).idle = rest ∧ w.job = s.job ∧ DramKept s w ∧
    (c ≠ .firedNonShot → c = .match ∨ (laneState s l).bad + 1 < actEchoLimit s → w.flow = s.flow ∧ w.job = s.job ∧ RegsKept classRegs s w ∧ DramKept s w) ∧
    (c = .firedNonShot → (w.ev.bits.getLsbD Ev.HEAD_FAULT = true ∧ w.out.headFault = true ∧ hasCause w 8 = true ∧ fbit w Reg.OUT_STATUS_BLANK = true) ∧
      (s.flow.mode = .write → (∀ n, s.flow.resume ≠ .atTick n) → w.flow.mode = .hold)) := by
  let v := updLane l (fun x => { x with idle := rest }) s
  obtain ⟨mon, ev, regs, heq, hev, hregs⟩ := echoLatency_from echo base t v
  set u := echoLatency echo base t v with hu
  have hvlane : laneState v l = { laneState s l with idle := rest } := laneState_updLane_same l _ s
  have hlane : laneState u l = { laneState s l with idle := rest } := by rw [heq]; exact hvlane
  have hfrom : CountFrom l s u :=
    { regs := echoRegs_kept (by decide) hregs, bad := by rw [hlane], link := by rw [heq]; rfl, events := fun n hn => hev n hn }
  have hurun : u.health.run = none := by rw [heq]; exact hrun
  obtain ⟨hcounted, hmade, -⟩ := countEcho_counts hl .idle 0x80000000 c false t hurun
  set w := countEcho l .idle 0x80000000 c false t u with hw
  have hres : classifyIdle l base rest echo t s = if c = .firedNonShot then headFault t w else w := by
    unfold classifyIdle
    rw [hc]
  have hflow : w.flow = s.flow := by rw [hmade.flow, heq]; rfl
  have hjob : w.job = s.job := by rw [hmade.job, heq]; rfl
  have hdram : w.dram = s.dram := by rw [hmade.dram, heq]; rfl
  have hidle : (laneState w l).idle = rest := by rw [hmade.idle, hlane]
  have hwrun : w.health.run = none := by rw [hmade.health, hurun]
  dsimp only
  rw [hres]
  by_cases hfired : c = .firedNonShot
  · rw [if_pos hfired]
    obtain ⟨hstand, hfault⟩ := headFault_faults t hwrun
    refine ⟨(hfrom.counted hcounted).stands hstand, ?_, by rw [hstand.job, hjob], dramKept_of_eq (by rw [hstand.dram, hdram]), fun h => absurd hfired h,
      fun _ => ⟨hfault, fun hmode hresume => ?_⟩⟩
    · rw [laneState, hstand.lanes, ← laneState, hidle]
    · exact holdAtOnce_holds 8 .hold t (s := raise Ev.HEAD_FAULT { w with out := { w.out with headFault := true } }) (by rw [raise_flow, hflow, hmode])
        (by rw [raise_flow, hflow]; exact hresume)
  · rw [if_neg hfired]
    refine ⟨hfrom.counted hcounted, hidle, hjob, dramKept_of_eq hdram, fun _ hwithin => ⟨hflow, hjob, ?_, dramKept_of_eq hdram⟩, fun h => absurd h hfired⟩
    have hlimit : actEchoLimit u = actEchoLimit s := by
      rw [actEchoLimit, fget_congr (f := Reg.OUT_ECHO_CFG_LIMIT) (hfrom.regs _ (by decide)), actEchoLimit]
    have hw' := (hmade.within (by rwa [hfrom.bad, hlimit])).1
    have hv : RegsKept [Reg.OUT_ECHO_LAT_MAX] s u := hregs
    exact (hv.mono (by decide)).trans (hw'.mono (by decide))

/-! ## Frames of shots -/

/-- A lane's frame of a shot is in class `c`. -/
def Shot.classed (l : Nat) (c : EchoClass) (sh : Shot) : Shot :=
  { sh with lanes := updAt LaneShot.fresh sh.lanes l fun ls => { ls with cls := some c } }

theorem classed_lane (l : Nat) (c : EchoClass) (sh : Shot) (k : Nat) :
    ((sh.classed l c).lane k).cls = if k = l then some c else (sh.lane k).cls := by
  rw [Shot.lane, Shot.classed, getD_updAt]
  split
  · rfl
  · rfl

theorem classed_waits {l k : Nat} {sh : Shot} (c : EchoClass) (hk : k < sh.lanes.length) (hkl : k ≠ l) (hnone : (sh.lane k).cls = none) :
    (sh.classed l c).settled = false := by
  have hlen : k < (sh.classed l c).lanes.length := by
    simp only [Shot.classed, updAt, List.length_modify, List.length_append]
    omega
  have hlane : (sh.classed l c).lanes[k] = (sh.classed l c).lane k := by
    rw [Shot.lane, List.getD_eq_getElem?_getD, List.getElem?_eq_getElem hlen, Option.getD_some]
  refine List.all_eq_false.2 ⟨_, List.getElem_mem hlen, ?_⟩
  rw [hlane, classed_lane, if_neg hkl, hnone]
  simp

theorem checkVoid_of_none {sh : Shot} {s : State} (h : s.health.run = none) : checkVoid sh s = s := by simp [checkVoid, h]

theorem judgeBeams_of_none {all : Bool} {s : State} (h : s.health.run = none) : judgeBeams all s = s := by simp [judgeBeams, h]

/-- While a stripe is armed and no job ends, settling ends nothing. -/
theorem settle_of_armed {s : State} (harmed : s.armed.isSome = true) (hending : s.flow.ending = none) : settle s = settleAll s := by
  have hstand := echoStands_settleAll s
  have harmed' : (settleAll s).armed.isNone = false := by rw [hstand.armed, ← Option.not_isSome, harmed]; rfl
  have hstripe : tryStripeEnd (settleAll s) = settleAll s := if_neg fun h => by simp [harmed'] at h
  rw [settle, hstripe, finishEnding, hstand.ending, hending]

/-- What the classification of a shot's frame leaves. -/
def Classified (l i : Nat) (n : Int) (ty : FrameType) (cut : Bool) (c : EchoClass) (s t : State) : Prop :=
  Counted l c (unsigned 32 n) s t ∧ (∀ x ∈ t.shots, x.stripeIdx = i → x.shot = n → (x.lane l).cls = some c) ∧
  (echoMismatch ty (unsigned 32 n) c cut = true → t.ev.bits.getLsbD Ev.ECHO_MISMATCH = true) ∧
  (c ≠ .firedNonShot → c = .match ∨ (laneState s l).bad + 1 < actEchoLimit s →
    (∃ sh0 k, s.shots.head? = some sh0 ∧ k < sh0.lanes.length ∧ k ≠ l ∧ (sh0.lane k).cls = none) →
    t.flow = s.flow ∧ t.job = s.job ∧ RegsKept classRegs s t ∧ DramKept s t) ∧
  (c = .firedNonShot → t.ev.bits.getLsbD Ev.HEAD_FAULT = true ∧ t.out.headFault = true ∧ hasCause t 8 = true ∧ fbit t Reg.OUT_STATUS_BLANK = true)

theorem classifyShot_classifies {l : Nat} (hl : l < 64) (i : Nat) (n : Int) (sh : Shot) (ty : FrameType) (crc : Word) (echo : Option DWord) (t : Nat) {s : State}
    (hrun : s.health.run = none) (harmed : s.armed.isSome = true) (hending : s.flow.ending = none) {c : EchoClass}
    (hc : classify ty (unsigned 32 n) crc echo = c) : Classified l i n ty (sh.lane l).cut.isSome c s (classifyShot l i n sh ty crc echo t s) := by
  obtain ⟨mon, ev, regs, heq, hev, hregs⟩ := echoLatency_from echo (echoBase sh l) t s
  set v := echoLatency echo (echoBase sh l) t s with hv
  set u := updShot i n (Shot.classed l c) v with hu
  have hfrom : CountFrom l s u :=
    { regs := echoRegs_kept (by decide) hregs, bad := by rw [hu, heq]; rfl, link := by rw [hu, heq]; rfl, events := hev }
  have hurun : u.health.run = none := by rw [hu, heq]; exact hrun
  obtain ⟨hcounted, hmade, hmismatch⟩ := countEcho_counts hl ty (unsigned 32 n) c (sh.lane l).cut.isSome t hurun
  set w := countEcho l ty (unsigned 32 n) c (sh.lane l).cut.isSome t u with hw
  have hwrun : w.health.run = none := by rw [hmade.health, hurun]
  have hwarmed : w.armed = s.armed := by rw [hmade.armed, hu, heq]; rfl
  have hwflow : w.flow = s.flow := by rw [hmade.flow, hu, heq]; rfl
  let x := if c = .firedNonShot then headFault t w else w
  have hx : EchoStands w x := by
    by_cases hfired : c = .firedNonShot
    · rw [show x = headFault t w from if_pos hfired]
      exact (headFault_faults t hwrun).1
    · rw [show x = w from if_neg hfired]
      exact .refl w
  have hsettle : settle x = settleAll x := settle_of_armed (by rw [hx.armed, hwarmed, harmed]) (by rw [hx.ending, hwflow, hending])
  have hall := hx.trans (echoStands_settleAll x)
  have hres : classifyShot l i n sh ty crc echo t s = settleAll x := by
    have hvoid : (if c ≠ .match ∧ checkShot0 ≤ n then checkVoid sh w else w) = w := by
      rw [checkVoid_of_none hwrun, ite_self]
    have hjudge : (if checkShot0 ≤ n then judgeBeams false (settleAll x) else settleAll x) = settleAll x := by
      rw [judgeBeams_of_none (by rw [hall.health, hwrun]), ite_self]
    unfold classifyShot
    rw [hc]
    dsimp only
    rw [show updShot i n (fun sh => { sh with lanes := updAt LaneShot.fresh sh.lanes l fun ls => { ls with cls := some c } }) v = u from rfl, ← hw, hvoid,
      hsettle, hjudge]
  rw [hres]
  refine ⟨(hfrom.counted hcounted).stands hall, fun y hy hidx hshot => ?_, fun h => hall.events _ (hmismatch h), fun hfired hwithin hwaits => ?_, fun hfired => ?_⟩
  · obtain ⟨z, hz, hzi, hzs, hcls⟩ := (hmade.classes.trans hall.classes) y hy
    obtain ⟨y', rfl, -⟩ := mem_updShot hz (hzi.symm.trans hidx) (hzs.symm.trans hshot)
    exact hcls l c (by rw [classed_lane, if_pos rfl])
  · obtain ⟨sh0, k, hhead, hk, hkl, hnone⟩ := hwaits
    have hlimit : actEchoLimit u = actEchoLimit s := by
      rw [actEchoLimit, fget_congr (f := Reg.OUT_ECHO_CFG_LIMIT) (hfrom.regs _ (by decide)), actEchoLimit]
    obtain ⟨hkept, hshots⟩ := hmade.within (by rwa [hfrom.bad, hlimit])
    have hxw : x = w := if_neg hfired
    have hfirst : ∃ sh1, w.shots.head? = some sh1 ∧ sh1.settled = false := by
      have hvshots : v.shots = s.shots := by rw [heq]
      rw [hshots, hu, updShot, List.head?_map, hvshots, hhead]
      by_cases hmine : sh0.stripeIdx = i ∧ sh0.shot = n
      · exact ⟨sh0.classed l c, by rw [Option.map_some, if_pos hmine], classed_waits c hk hkl hnone⟩
      · refine ⟨sh0, by rw [Option.map_some, if_neg hmine], List.all_eq_false.2 ⟨sh0.lanes[k], List.getElem_mem hk, ?_⟩⟩
        rw [show sh0.lanes[k] = sh0.lane k by rw [Shot.lane, List.getD_eq_getElem?_getD, List.getElem?_eq_getElem hk, Option.getD_some], hnone]
        simp
    obtain ⟨sh1, hsh1, hunsettled⟩ := hfirst
    rw [hxw, settleAll, settleLoop_stands hsh1 hunsettled]
    have hvkept : RegsKept [Reg.OUT_ECHO_LAT_MAX] s u := hregs
    exact ⟨hwflow, by rw [hmade.job, hu, heq]; rfl, (hvkept.mono (by decide)).trans (hkept.mono (by decide)), dramKept_of_eq (by rw [hmade.dram, hu, heq]; rfl)⟩
  · obtain ⟨-, hbit, hfault, hcause, hblank⟩ := headFault_faults t hwrun
    rw [show x = headFault t w from if_pos hfired]
    have hsettled := settling_settleAll (headFault t w)
    have hkeep := echoStands_settleAll (headFault t w)
    refine ⟨hkeep.events _ hbit, by rw [hsettled.rest]; exact hfault, by rw [hsettled.causes 8 (by decide)]; exact hcause, (settleLoop_shots _ _).2.2 hblank⟩

/-- Settles O47: neither the Holds that act at once nor the settling of shots touch the registers a classification shows, the lanes, or the
classes of shots. -/
theorem echoesAreClassified : Obligations.EchoesAreClassified := by
  unfold Obligations.EchoesAreClassified
  intro s l echo t0
  have hecho : ∀ f, echoFrame s l.val echo = some f → exec (.echoReceived l echo t0) s = .next (classifyFrame l.val f (some echo) t0 s) := fun f h => by
    rw [exec, execEchoReceived, echoReceived, h]
  have hdeadline : ∀ f, deadlineFrame s l.val t0 = some f → exec (.echoDeadline l t0) s = .next (classifyFrame l.val f none t0 s) := fun f h => by
    rw [exec, execEchoDeadline, echoDeadline, h]
  refine ⟨fun h => ⟨s, by rw [exec, execEchoReceived, echoReceived, h], rfl⟩, fun h => ⟨s, by rw [exec, execEchoDeadline, echoDeadline, h], rfl⟩, fun hrun base rest hidle => ?_,
    fun hrun harmed hending i n sh ty crc t1 hfind hsent => ?_⟩
  · have hframe : ∀ e, classifyFrame l.val .idle e t0 s = classifyIdle l.val base rest e t0 s := fun e => by rw [classifyFrame, hidle]
    refine ⟨fun h c hc => ?_, fun h => ?_⟩
    · obtain ⟨hcounted, hrest, hjob, hdram, hquiet, hfault⟩ := classifyIdle_counts l.isLt base rest (some echo) t0 hrun hc
      exact ⟨_, (hecho _ h).trans (by rw [hframe]), hcounted, hrest, hjob, hdram, hquiet, hfault⟩
    · obtain ⟨hcounted, hrest, -, -, hquiet, -⟩ := classifyIdle_counts l.isLt base rest none t0 hrun (c := .missing) rfl
      exact ⟨_, (hdeadline _ h).trans (by rw [hframe]), hcounted, hrest, hquiet nofun⟩
  · have hframe : ∀ e, classifyFrame l.val (.shot i n) e t0 s = classifyShot l.val i n sh ty crc e t0 s := fun e => by
      simp only [classifyFrame, hfind, hsent]
    refine ⟨fun h => ?_, fun h => ?_⟩
    · exact ⟨_, (hecho _ h).trans (by rw [hframe]), classifyShot_classifies l.isLt i n sh ty crc (some echo) t0 hrun harmed hending rfl⟩
    · exact ⟨_, (hdeadline _ h).trans (by rw [hframe]), classifyShot_classifies l.isLt i n sh ty crc none t0 hrun harmed hending rfl⟩

end Sys2Proof.Machine
end

section
/-!
PROOFS. The block stream at work: what is quiet about it, what a judgement of a block leaves, and what the pump does with blocks that ask for nothing
(R77 to R85, R100 to R119).
-/

namespace Sys2Proof.Machine

/-! ## Quiet work -/

/-- The registers of the Skiver, of the rasterizer's start and of the staging ring's end. -/
def streamRegs : List Nat :=
  [Reg.SKV_STATUS, Reg.SKV_CELLS, Reg.SKV_FREE, Reg.SKV_PENDING, Reg.SKV_STOP_SEQ_LO, Reg.SKV_STOP_SEQ_HI, Reg.SKV_STOP_STORED, Reg.SKV_STOP_CELLS,
    Reg.SKV_REFETCH, Reg.DMA_STG_REL_LO, Reg.DMA_STG_REL_HI] ++ workRegs

/-- The stream goes on: beside its own records, the memories and the registers `ks`, the state is as it was. -/
structure StreamOnly (ks : List Nat) (s t : State) : Prop where
  rest : t = { s with regs := t.regs, ev := t.ev, hbm := t.hbm, ecc := t.ecc, free := t.free, cache := t.cache, ras := t.ras, ingest := t.ingest }
  regs : ∀ k, k / 65536 ≠ 0x0B → k / 65536 ≠ 0x0C → k ∉ ks → rget t k = rget s k
  events : EventsKept memEvents s t
  stands : EventsStand s t

theorem StreamOnly.refl {ks : List Nat} (s : State) : StreamOnly ks s s := ⟨rfl, fun _ _ _ _ => rfl, fun _ _ _ => rfl, fun _ h => h⟩

theorem StreamOnly.trans {ks : List Nat} {s t u : State} (h : StreamOnly ks s t) (h' : StreamOnly ks t u) : StreamOnly ks s u :=
  ⟨by rw [h'.rest, h.rest], fun k hb hc hk => (h'.regs k hb hc hk).trans (h.regs k hb hc hk), h.events.trans h'.events, h.stands.trans h'.stands⟩

theorem StreamOnly.mono {ks ls : List Nat} {s t : State} (h : StreamOnly ks s t) (hsub : ks ⊆ ls) : StreamOnly ls s t :=
  ⟨h.rest, fun k hb hc hk => h.regs k hb hc fun hin => hk (hsub hin), h.events, h.stands⟩

theorem Accessed.streamOnly {ks : List Nat} {s t : State} (h : Accessed s t) : StreamOnly ks s t :=
  ⟨by rw [h.only.rest], fun k hb hc _ => h.only.regs k hb hc, h.events, h.only.events⟩

/-- A band leaves the rasterizer for the pending area. -/
def bandLeft (c : Render) (rest : List Render) (p : Pending) (density : List (Nat × Nat)) (v : State) : State :=
  returnQueue c.stripeIdx c.band { v with ras := { v.ras with current := rest, pending := v.ras.pending ++ [p], density := v.ras.density ++ density } }

theorem bandLeft_leaves (c : Render) (rest : List Render) (p : Pending) (density : List (Nat × Nat)) (v : State) :
    (bandLeft c rest p density v).ev = v.ev ∧ (bandLeft c rest p density v).ras.stripes = v.ras.stripes := ⟨rfl, rfl⟩

theorem finishBand_left (c : Render) (rest : List Render) (s : State) :
    finishBand c rest s = bandLeft c rest (bandFormed c s) (bandDensity (stripeData s c.stripeIdx) (bandFormed c s)) (bandStored c s) := finishBand_eq c rest s

theorem promote_leaves (s : State) : EventsStand s (promote s) ∧ (promote s).ras.stripes = s.ras.stripes := by
  unfold promote
  split
  · split
    · next c rest _ _ =>
      have hstored := (accessed_bandStored c s).only
      obtain ⟨hev, hstripes⟩ := bandLeft_leaves c rest (bandFormed c s) (bandDensity (stripeData s c.stripeIdx) (bandFormed c s)) (bandStored c s)
      rw [finishBand_left]
      exact ⟨EventsStand.trans hstored.events (eventsStand_of_ev hev), hstripes.trans (by rw [hstored.ras])⟩
    · exact ⟨fun _ h => h, rfl⟩
  · exact ⟨fun _ h => h, rfl⟩

theorem streamOnly_rasterGo (s : State) : StreamOnly workRegs s (rasterGo s) := by
  have h := rasterGone_rasterGo s
  have hstart : (rasterGo s).ev = (promote (promote s)).ev := by simp [rasterGo]
  exact ⟨by rw [h.rest], h.regs, h.events, ((promote_leaves s).1.trans (promote_leaves _).1).trans (eventsStand_of_ev hstart)⟩

theorem streamOnly_ingest {ks : List Nat} (s : State) (g : Ingest) : StreamOnly ks s { s with ingest := g } := ⟨rfl, fun _ _ _ _ => rfl, fun _ _ _ => rfl, fun _ h => h⟩

theorem streamOnly_ras {ks : List Nat} (s : State) (r : Raster) : StreamOnly ks s { s with ras := r } := ⟨rfl, fun _ _ _ _ => rfl, fun _ _ _ => rfl, fun _ h => h⟩

theorem streamOnly_cache {ks : List Nat} (s : State) (c : Cache) : StreamOnly ks s { s with cache := c } := ⟨rfl, fun _ _ _ _ => rfl, fun _ _ _ => rfl, fun _ h => h⟩

theorem streamOnly_fput {ks : List Nat} {f : Field} (hf : f.reg ∈ ks) (v : Nat) (s : State) : StreamOnly ks s (fput f v s) :=
  ⟨rfl, fun k _ _ hk => regsKept_fput (f := f) (List.mem_singleton_self _) v s k fun h => hk (by rwa [List.mem_singleton.1 h]), fun _ _ _ => rfl, fun _ h => h⟩

theorem StreamOnly.flow {ks : List Nat} {s t : State} (h : StreamOnly ks s t) : t.flow = s.flow := by rw [h.rest]

theorem StreamOnly.job {ks : List Nat} {s t : State} (h : StreamOnly ks s t) : t.job = s.job := by rw [h.rest]

theorem StreamOnly.dramKept {ks : List Nat} {s t : State} (h : StreamOnly ks s t) : DramKept s t := dramKept_of_eq (by rw [h.rest])

theorem StreamOnly.fget {ks : List Nat} {s t : State} (h : StreamOnly ks s t) {f : Field} (hb : f.reg / 65536 ≠ 0x0B) (hc : f.reg / 65536 ≠ 0x0C)
    (hk : f.reg ∉ ks) : fget t f = fget s f := fget_congr (h.regs _ hb hc hk)

/-! ## The rasterizer beside the stream -/

/-- The rasterizer's stripes stand, and the geometry it draws from. -/
def DrawnFrom (s t : State) : Prop := t.ras.stripes = s.ras.stripes ∧ t.ras.geoms = s.ras.geoms

theorem drawnFrom_giveTile (s : State) : DrawnFrom s (giveTile s) := by
  unfold giveTile
  split <;> exact ⟨rfl, rfl⟩

theorem drawnFrom_startBand (s : State) : DrawnFrom s (startBand s) := by
  unfold startBand
  split <;> exact ⟨rfl, rfl⟩

theorem drawnFrom_fillCells (n : Nat) (s : State) : DrawnFrom s (fillCells n s) := by
  induction n generalizing s with
  | zero => exact ⟨rfl, rfl⟩
  | succ n ih =>
    have hnext : ∀ u, DrawnFrom s u → DrawnFrom s (fillCells n u) := fun u hu => ⟨(ih u).1.trans hu.1, (ih u).2.trans hu.2⟩
    unfold fillCells
    split
    · exact ⟨rfl, rfl⟩
    · split
      · exact hnext _ (drawnFrom_giveTile s)
      · split
        · exact hnext _ (drawnFrom_startBand s)
        · exact ⟨rfl, rfl⟩

theorem drawnFrom_rasterStart (s : State) : DrawnFrom s (rasterStart s) := by
  unfold rasterStart
  split
  · exact drawnFrom_fillCells _ s
  · exact ⟨rfl, rfl⟩

theorem stripes_rasterGo (s : State) : (rasterGo s).ras.stripes = s.ras.stripes :=
  (drawnFrom_rasterStart _).1.trans ((promote_leaves _).2.trans (promote_leaves s).2)

/-- No band can leave the rasterizer for the pending area. -/
def Rastered (s : State) : Prop := ∀ c, s.ras.current.head? = some c → c.done ≠ 2080 ∨ 2 ≤ s.ras.pending.length

theorem promote_rastered {s : State} (h : Rastered s) : promote s = s := by
  unfold promote
  split
  · next c rest hcurrent =>
    refine if_neg fun hdone => ?_
    rcases h c (by rw [hcurrent]; rfl) with hne | hle
    · exact hne hdone.1
    · omega
  · rfl

theorem geoms_rasterGo {s : State} (h : Rastered s) : (rasterGo s).ras.geoms = s.ras.geoms := by
  rw [rasterGo, promote_rastered h, promote_rastered h]
  exact (drawnFrom_rasterStart s).2

theorem stripeData_congr {s t : State} (hjob : t.job = s.job) (hstripes : t.ras.stripes = s.ras.stripes) (i : Nat) : stripeData t i = stripeData s i := by
  rw [stripeData, hstripes, StripeData.fresh, hjob, stripeData, StripeData.fresh]

theorem stripeData_idx (s : State) (i : Nat) : (stripeData s i).stripeIdx = i := by
  unfold stripeData
  cases h : s.ras.stripes.find? fun d => d.stripeIdx == i with
  | none => rfl
  | some d => exact beq_iff_eq.1 (List.find?_some (p := fun d : StripeData => d.stripeIdx == i) h)

theorem stripeData_updStripe {i : Nat} {f : StripeData → StripeData} {s : State} (hf : (f (stripeData s i)).stripeIdx = i) :
    stripeData (updStripe i f s) i = f (stripeData s i) := by
  have hnone : (s.ras.stripes.filter fun d => d.stripeIdx != i).find? (fun d => d.stripeIdx == i) = none := by
    refine List.find?_eq_none.2 fun d hd => ?_
    have := (List.mem_filter.1 hd).2
    simpa using this
  rw [stripeData, updStripe]
  simp [List.find?_append, hnone, hf]

/-! ## The pump -/

theorem placeLoop_stands {n : Nat} {s : State} (h : nextHeld s.ingest.blocks = none) : placeLoop n s = s := by
  cases n with
  | zero => rfl
  | succ n => rw [placeLoop, h]

/-- The block at the commit point is neither unrenderable nor discarded. -/
def HeadStands (bs : List Blk) : Prop := ∀ b, bs.head? = some b → b.phase ≠ .rejected ∧ b.phase ≠ .discarded

theorem consumeLoop_stands {n : Nat} {s : State} (h : HeadStands s.ingest.blocks) : consumeLoop n s = s := by
  cases n with
  | zero => rfl
  | succ n =>
    unfold consumeLoop
    split
    · next b hb =>
      obtain ⟨hrejected, hdiscarded⟩ := h b hb
      rw [if_neg hrejected, if_neg hdiscarded]
    · rfl

/-- What the pump does when no block asks for anything. -/
def pumped (s : State) : State := rasterGo (skiverSync s)

theorem ingestPump_stands {s : State} (hheld : nextHeld s.ingest.blocks = none) (hhead : HeadStands s.ingest.blocks) : ingestPump s = pumped s := by
  rw [ingestPump, placeLoop_stands hheld, consumeLoop_stands hhead, pumped]

theorem streamOnly_skiverSync (s : State) : StreamOnly (Reg.SKV_STATUS :: workRegs) s (skiverSync s) := by
  have hqueue : ∀ u, StreamOnly (Reg.SKV_STATUS :: workRegs) u (queueSync u) := fun u => streamOnly_fput (f := Reg.SKV_QUEUE_FREE_KIB) (by simp [workRegs]) _ u
  unfold skiverSync
  split
  · exact hqueue s
  · exact (streamOnly_fput (f := Reg.SKV_STATUS_STATE) List.mem_cons_self _ s).trans (hqueue _)

theorem streamOnly_pumped (s : State) : StreamOnly (Reg.SKV_STATUS :: workRegs) s (pumped s) :=
  (streamOnly_skiverSync s).trans ((streamOnly_rasterGo _).mono (List.subset_cons_self _ _))

theorem skiverSync_ras (s : State) : (skiverSync s).ras = s.ras := by
  unfold skiverSync
  split <;> rfl

theorem skiverSync_stream (s : State) : (skiverSync s).ingest = s.ingest ∧ (skiverSync s).cache = s.cache := by
  unfold skiverSync
  split <;> exact ⟨rfl, rfl⟩

theorem pumped_stream (s : State) : (pumped s).ingest = s.ingest ∧ (pumped s).cache = s.cache := by
  have hgone := (rasterGone_rasterGo (skiverSync s)).rest
  obtain ⟨hingest, hcache⟩ := skiverSync_stream s
  refine ⟨?_, ?_⟩
  · rw [pumped, hgone]; exact hingest
  · rw [pumped, hgone]; exact hcache

theorem stripeData_pumped (s : State) (i : Nat) : stripeData (pumped s) i = stripeData s i := by
  refine stripeData_congr (streamOnly_pumped s).job ?_ i
  rw [pumped, stripes_rasterGo, skiverSync_ras]

theorem geoms_pumped {s : State} (h : Rastered s) : (pumped s).ras.geoms = s.ras.geoms := by
  have h' : Rastered (skiverSync s) := by rw [Rastered, skiverSync_ras]; exact h
  rw [pumped, geoms_rasterGo h', skiverSync_ras]

theorem skiverStopped_pumped (s : State) : skiverStopped (pumped s) = skiverStopped s := by
  have hgo : skiverStopped (pumped s) = skiverStopped (skiverSync s) := by
    rw [skiverStopped, pumped, (rasterGone_rasterGo _).fget (f := Reg.SKV_STATUS_STATE) (by decide) (by decide) (by simp [workRegs, rasterRegs]), skiverStopped]
  have hqueue : ∀ u, fget (queueSync u) Reg.SKV_STATUS_STATE = fget u Reg.SKV_STATUS_STATE := fun u => fget_fput_other _ _ _ _ (by decide)
  rw [hgo]
  unfold skiverSync
  split
  · rw [skiverStopped, hqueue, skiverStopped]
  · next h =>
    rw [Bool.not_eq_true] at h
    rw [h, skiverStopped, hqueue, fget_fput_same _ _ rfl]
    split
    · rfl
    · split <;> rfl

/-! ## Judgements -/

/-- Reject records are added, and the last 16 are kept. -/
def RejectsGrow (s t : State) : Prop :=
  t.ingest.rejects = s.ingest.rejects ∨ ∃ l, t.ingest.rejects = (l ++ s.ingest.rejects).take 16

theorem take_append_take {β : Type} (a b : List β) (n : Nat) : (a ++ b.take n).take n = (a ++ b).take n := by
  rw [List.take_append, List.take_append, List.take_take, min_eq_left (Nat.sub_le _ _)]

theorem RejectsGrow.trans {s t u : State} (h : RejectsGrow s t) (h' : RejectsGrow t u) : RejectsGrow s u := by
  rcases h' with h' | ⟨l', h'⟩
  · rcases h with h | ⟨l, h⟩
    · exact .inl (h'.trans h)
    · exact .inr ⟨l, h'.trans h⟩
  · rcases h with h | ⟨l, h⟩
    · exact .inr ⟨l', by rw [h', h]⟩
    · exact .inr ⟨l' ++ l, by rw [h', h, take_append_take, List.append_assoc]⟩

/-- Blocks are judged: what the stream's pump may do to the events, the reject records and the engines. -/
structure Judged (s t : State) : Prop where
  events : EventsStand s t
  rejects : RejectsGrow s t
  dma : t.dma = s.dma
  next : t.ingest.nextSeq = s.ingest.nextSeq

theorem Judged.refl (s : State) : Judged s s := ⟨fun _ h => h, .inl rfl, rfl, rfl⟩

theorem Judged.trans {s t u : State} (h : Judged s t) (h' : Judged t u) : Judged s u :=
  ⟨h.events.trans h'.events, h.rejects.trans h'.rejects, h'.dma.trans h.dma, h'.next.trans h.next⟩

theorem judged_foldl {β : Type} {g : State → β → State} (h : ∀ s x, Judged s (g s x)) (l : List β) (s : State) : Judged s (l.foldl g s) := by
  induction l generalizing s with
  | nil => exact .refl s
  | cons x l ih => exact (h s x).trans (ih _)

theorem StreamOnly.judged {ks : List Nat} {s t : State} (h : StreamOnly ks s t) (hingest : t.ingest.rejects = s.ingest.rejects ∧ t.ingest.nextSeq = s.ingest.nextSeq) :
    Judged s t := ⟨h.stands, .inl hingest.1, by rw [h.rest], hingest.2⟩

theorem Accessed.judged {s t : State} (h : Accessed s t) : Judged s t :=
  (h.streamOnly (ks := [])).judged (by rw [h.only.rest]; exact ⟨rfl, rfl⟩)

theorem judged_raise (n : Nat) (s : State) : Judged s (raise n s) := ⟨eventsStand_raise n s, .inl rfl, rfl, rfl⟩

/-- A block has been recorded as unrenderable, and the record stays. -/
theorem Recorded.judged {s t u : State} {seq cause off : Nat} (h : Recorded s t seq cause off) (h' : Judged t u) : Recorded s u seq cause off := by
  obtain ⟨⟨l, hl⟩, hev⟩ := h
  refine ⟨?_, h'.events _ hev⟩
  rcases h'.rejects with heq | ⟨l', heq⟩
  · exact ⟨l, heq.trans hl⟩
  · exact ⟨l' ++ l, by rw [heq, hl, take_append_take, List.append_assoc]⟩

theorem Recorded.from {s s' t : State} {seq cause off : Nat} (h : Recorded s' t seq cause off) (hs : s'.ingest.rejects = s.ingest.rejects) :
    Recorded s t seq cause off := by
  rw [Recorded, ← hs]
  exact h

theorem judged_updBlock (seq : Nat) (f : Blk → Blk) (s : State) : Judged s (updBlock seq f s) := ⟨fun _ h => h, .inl rfl, rfl, rfl⟩

theorem judged_updStripe (i : Nat) (f : StripeData → StripeData) (s : State) : Judged s (updStripe i f s) := ⟨fun _ h => h, .inl rfl, rfl, rfl⟩

theorem Settling.judged {s t : State} (h : Settling s t) : Judged s t := ⟨h.events, .inl (by rw [h.rest]), by rw [h.rest], by rw [h.rest]⟩

theorem Settling.ingest {s t : State} (h : Settling s t) : t.ingest = s.ingest ∧ t.ras = s.ras ∧ t.job = s.job ∧ t.cache = s.cache := by
  rw [h.rest]
  exact ⟨rfl, rfl, rfl, rfl⟩

theorem settling_absLogRows (layer stripe lastShot tag : Nat) (psetSeq : Word) (a b : Nat) (s : State) :
    Settling s (absLogRows layer stripe lastShot tag psetSeq a b s) := by
  unfold absLogRows
  split
  · exact .refl s
  · exact (settling_absAppend _ s).trans (settling_absSync _)

/-- The bands to be rejected are marked, and logged. -/
theorem rejectBands_rejects (i : Nat) (bs : List Nat) (s : State) : let t := rejectBands i bs s
    Judged s t ∧ t.ingest = s.ingest ∧ (∀ e, stripeAt s i = some e → ∀ j ∈ bs, j < e.h / 256 → (stripeData t i).isRejected j = true) := by
  unfold rejectBands
  cases he : stripeAt s i with
  | none => exact ⟨.refl s, rfl, nofun⟩
  | some e =>
    dsimp only
    set new := bs.filter fun j => decide (j < e.h / 256) && !(stripeData s i).isRejected j with hnew
    set u := updStripe i (fun d => { d with rejected := d.rejected ++ new }) s with hu
    let v : State := { u with ras := { u.ras with density := u.ras.density.filter fun p =>
      !((densityBand p.1).1 == i && new.contains (densityBand p.1).2) } }
    have hfold := settling_foldl (g := fun (s : State) (r : Nat × Nat) =>
      absLogRows e.layer e.stripe (4095 + e.h) (jobTag s) (rget s Reg.GTH_PSET_SEQ) (256 * r.1) (256 * r.2 + 255) s)
      (fun w r => settling_absLogRows _ _ _ _ _ _ _ w) (numberRuns new) v
    obtain ⟨hingest, hras, hjob, -⟩ := hfold.ingest
    have hv : Judged s v := ⟨fun _ h => h, .inl rfl, rfl, rfl⟩
    refine ⟨hv.trans hfold.judged, hingest, fun e' he' j hj hlt => ?_⟩
    cases he'
    have hmarked : stripeData v i = { stripeData s i with rejected := (stripeData s i).rejected ++ new } :=
      (stripeData_congr (s := u) rfl rfl i).trans (stripeData_updStripe (stripeData_idx s i))
    rw [stripeData_congr hjob (by rw [hras]), hmarked]
    have hcontains : ((stripeData s i).rejected ++ new).contains j = ((stripeData s i).isRejected j || new.contains j) := List.contains_append
    rw [StripeData.isRejected, hcontains]
    cases hold : (stripeData s i).isRejected j with
    | true => rfl
    | false =>
      rw [Bool.false_or, List.contains_iff_mem, hnew, List.mem_filter]
      exact ⟨hj, by simp [hlt, hold]⟩

theorem judged_rejectBands (i : Nat) (bs : List Nat) (s : State) : Judged s (rejectBands i bs s) := (rejectBands_rejects i bs s).1

theorem judged_fput (f : Field) (v : Nat) (s : State) : Judged s (fput f v s) := ⟨fun _ h => h, .inl rfl, rfl, rfl⟩

theorem judged_skiverRestart (s : State) : Judged s (skiverRestart s) := by
  unfold skiverRestart
  split
  · exact judged_fput _ _ s
  · exact .refl s

theorem judged_addReject (seq cause off : Nat) (s : State) : Judged s (addReject seq cause off s) :=
  ⟨fun _ h => h, .inr ⟨[⟨seq, cause, off⟩], rfl⟩, rfl, rfl⟩

/-- What a block's judgement does to the blocks in hand. -/
abbrev markedRejected (seq : Nat) (bs : List Blk) : List Blk :=
  bs.map fun b => if b.seq = seq then { b with phase := .rejected, queueKib := 0, cause := none, late := none } else b

theorem declare_declares (b : Blk) (cause off : Nat) (s : State) : let t := declare b cause off s
    Judged s t ∧ Recorded s t b.seq cause off ∧ t.ras = s.ras ∧
    t.ingest = { s.ingest with rejects := (⟨b.seq, cause, off⟩ :: s.ingest.rejects).take 16, blocks := markedRejected b.seq s.ingest.blocks } := by
  set u := if s.ingest.commitSeq = b.seq then skiverRestart s else s with hu
  have hjudged : Judged s u ∧ u.ingest = s.ingest ∧ u.ras = s.ras := by
    rw [hu]
    split
    · refine ⟨judged_skiverRestart s, ?_⟩
      unfold skiverRestart
      split <;> exact ⟨rfl, rfl⟩
    · exact ⟨.refl s, rfl, rfl⟩
  obtain ⟨hu', hingest, hras⟩ := hjudged
  have heq : declare b cause off s = updBlock b.seq (fun b => { b with phase := .rejected, queueKib := 0, cause := none, late := none })
    (raise Ev.SOURCE_CHECK (addReject b.seq cause off u)) := rfl
  dsimp only
  rw [heq]
  have hall : Judged s (updBlock b.seq (fun b => { b with phase := .rejected, queueKib := 0, cause := none, late := none })
      (raise Ev.SOURCE_CHECK (addReject b.seq cause off u))) :=
    ((hu'.trans (judged_addReject b.seq cause off u)).trans (judged_raise _ _)).trans (judged_updBlock _ _ _)
  refine ⟨hall, ⟨⟨[], ?_⟩, raise_raises (by decide) (addReject b.seq cause off u)⟩, hras, ?_⟩
  · exact congrArg (fun g : Ingest => (⟨b.seq, cause, off⟩ :: g.rejects).take 16) hingest
  · exact congrArg (fun g : Ingest => ({ g with rejects := (⟨b.seq, cause, off⟩ :: g.rejects).take 16, blocks := markedRejected b.seq g.blocks } : Ingest)) hingest

theorem cacheSync_leaves (s : State) : Judged s (cacheSync s) ∧ (cacheSync s).ingest = s.ingest ∧ (cacheSync s).ras = s.ras :=
  ⟨⟨fun _ h => h, .inl rfl, rfl, rfl⟩, rfl, rfl⟩

/-- A CELL_ID is marked unrenderable. -/
def cellMarked (s : State) (id : Nat) : State :=
  if (s.cache.dir.lookup id).isSome ∨ 4194304 ≤ s.cache.dir.length then s
  else { s with cache := { s.cache with dir := s.cache.dir ++ [(id, none)] } }

theorem cellMarked_leaves (s : State) (id : Nat) : Judged s (cellMarked s id) ∧ (cellMarked s id).ingest = s.ingest := by
  unfold cellMarked
  split
  · exact ⟨.refl s, rfl⟩
  · exact ⟨⟨fun _ h => h, .inl rfl, rfl, rfl⟩, rfl⟩

theorem markCells_leaves (ids : List Nat) (s : State) : Judged s (markCells ids s) ∧ (markCells ids s).ingest = s.ingest := by
  have heq : markCells ids s = cacheSync (ids.foldl cellMarked s) := rfl
  have hfold : (ids.foldl cellMarked s).ingest = s.ingest := by
    clear heq
    induction ids generalizing s with
    | nil => rfl
    | cons id ids ih => exact (ih _).trans (cellMarked_leaves s id).2
  obtain ⟨hsync, hkept, -⟩ := cacheSync_leaves (ids.foldl cellMarked s)
  rw [heq]
  exact ⟨(judged_foldl (fun u id => (cellMarked_leaves u id).1) ids s).trans hsync, hkept.trans hfold⟩

/-- A block that is unrenderable at check 5 or 6 is recorded, whatever its kind. -/
theorem rejectLate_records (b : Blk) (cause off : Nat) (ids : List Nat) (s : State) : let t := rejectLate b cause off ids s
    Judged s t ∧ Recorded s t b.seq cause off ∧
    t.ingest = { s.ingest with rejects := (⟨b.seq, cause, off⟩ :: s.ingest.rejects).take 16, blocks := markedRejected b.seq s.ingest.blocks } := by
  obtain ⟨hjudged, hrecorded, -, hingest⟩ := declare_declares b cause off s
  have hbands : ∀ bs, Judged s (rejectBands b.stripeIdx bs (declare b cause off s)) ∧
      Recorded s (rejectBands b.stripeIdx bs (declare b cause off s)) b.seq cause off ∧
      (rejectBands b.stripeIdx bs (declare b cause off s)).ingest =
        { s.ingest with rejects := (⟨b.seq, cause, off⟩ :: s.ingest.rejects).take 16, blocks := markedRejected b.seq s.ingest.blocks } := fun bs => by
    obtain ⟨hj, hi, -⟩ := rejectBands_rejects b.stripeIdx bs (declare b cause off s)
    exact ⟨hjudged.trans hj, hrecorded.judged hj, hi.trans hingest⟩
  unfold rejectLate
  dsimp only
  split
  · obtain ⟨hj, hi⟩ := markCells_leaves ids (declare b cause off s)
    exact ⟨hjudged.trans hj, hrecorded.judged hj, hi.trans hingest⟩
  · exact hbands _
  · split
    · exact hbands _
    · exact hbands _

/-! ## Consuming -/

theorem completeBands_leaves (b : Blk) (s : State) : Judged s (completeBands b s) ∧ (completeBands b s).ingest = s.ingest := by
  unfold completeBands
  split
  · exact ⟨judged_updStripe _ _ s, rfl⟩
  · exact ⟨.refl s, rfl⟩

/-- The check of a density map leaves all of the ingest but the records. -/
theorem checkMap_leaves (b : Blk) (d : StripeData) (s : State) : Judged s (checkMap b d s) ∧ ∃ r, (checkMap b d s).ingest = { s.ingest with rejects := r } := by
  unfold checkMap
  split
  · exact ⟨.refl s, _, rfl⟩
  · next e _ =>
    split
    · exact ⟨.refl s, _, rfl⟩
    · obtain ⟨hjudged, hingest, -⟩ := rejectBands_rejects b.stripeIdx (List.range (e.h / 256))
        (raise Ev.SOURCE_CHECK (addReject (d.dmapSeq.getD b.seq) Cause.fieldRange noOffset s))
      exact ⟨((judged_addReject _ _ _ s).trans (judged_raise _ _)).trans hjudged, _, hingest⟩

theorem checkRejected_leaves (b : Blk) (s : State) : Judged s (checkRejected b s) ∧ ∃ r, (checkRejected b s).ingest = { s.ingest with rejects := r } := by
  unfold checkRejected
  split
  · exact checkMap_leaves _ _ s
  · exact ⟨.refl s, _, rfl⟩

theorem judged_consume (b : Blk) (s : State) : Judged s (consume b s) := ⟨fun _ h => h, .inl rfl, rfl, rfl⟩

/-- The block at the commit point is gone, and its units have returned. -/
def Gone (b : Blk) (rest : List Blk) (s t : State) : Prop :=
  t.ingest.blocks = rest ∧ t.ingest.commitSeq = b.seq + 1 ∧ rget64 t Reg.DMA_STG_REL_LO Reg.DMA_STG_REL_HI = (b.seq + 1) % 2 ^ 64 ∧ t.job = s.job ∧ DramKept s t

/-- Blocks whose SEQs differ from one. -/
theorem filter_others {seq : Nat} {bs : List Blk} (h : seq ∉ bs.map (·.seq)) : bs.filter (·.seq != seq) = bs := by
  refine List.filter_eq_self.2 fun b hb => ?_
  rw [bne_iff_ne]
  exact fun heq : b.seq = seq => h (heq ▸ List.mem_map_of_mem hb)

theorem map_others {seq : Nat} {bs : List Blk} (h : seq ∉ bs.map (·.seq)) (f : Blk → Blk) : (bs.map fun b => if b.seq = seq then f b else b) = bs := by
  refine (List.map_congr_left fun b hb => if_neg fun heq : b.seq = seq => h (heq ▸ List.mem_map_of_mem hb)).trans (List.map_id' _)

theorem consume_gone {b : Blk} {rest : List Blk} {s : State} (hblocks : s.ingest.blocks = b :: rest) (hothers : b.seq ∉ rest.map (·.seq)) :
    Gone b rest s (consume b s) := by
  refine ⟨?_, rfl, rget64_rset64 _ _ _ _ (by decide), by simp, dramKept_of_eq (by simp)⟩
  have hfilter : s.ingest.blocks.filter (·.seq != b.seq) = rest := by
    rw [hblocks, List.filter_cons_of_neg (by simp), filter_others hothers]
  exact hfilter

theorem Gone.stream {ks : List Nat} {b : Blk} {rest : List Blk} {s t u : State} (h : Gone b rest s t) (hu : StreamOnly ks t u) (hingest : u.ingest = t.ingest)
    (hlo : Reg.DMA_STG_REL_LO ∉ ks) (hhi : Reg.DMA_STG_REL_HI ∉ ks) : Gone b rest s u := by
  obtain ⟨hblocks, hseq, hrel, hjob, hdram⟩ := h
  refine ⟨by rw [hingest, hblocks], by rw [hingest, hseq], ?_, hu.job.trans hjob, fun a => (hu.dramKept a).trans (hdram a)⟩
  rw [rget64, hu.regs _ (by decide) (by decide) hlo, hu.regs _ (by decide) (by decide) hhi]
  exact hrel

theorem Gone.pumped {b : Blk} {rest : List Blk} {s t : State} (h : Gone b rest s t) : Gone b rest s (pumped t) :=
  h.stream (streamOnly_pumped t) (pumped_stream t).1 (by simp [workRegs, rasterRegs]) (by simp [workRegs, rasterRegs])

theorem Gone.from {b : Blk} {rest : List Blk} {s' s t : State} (h : Gone b rest s' t) (hjob : s'.job = s.job) (hdram : s'.dram = s.dram) : Gone b rest s t := by
  obtain ⟨hblocks, hseq, hrel, hj, hd⟩ := h
  exact ⟨hblocks, hseq, hrel, hj.trans hjob, fun a => (hd a).trans (dramKept_of_eq (s := s) hdram a)⟩

theorem judged_pumped (s : State) : Judged s (pumped s) := (streamOnly_pumped s).judged (by rw [(pumped_stream s).1]; exact ⟨rfl, rfl⟩)

set_option Elab.async false in
/-- An unrenderable block at the commit point is consumed, and with a settled rest nothing follows it. -/
theorem pump_rejected {b : Blk} {rest : List Blk} {s : State} (hblocks : s.ingest.blocks = b :: rest) (hrejected : b.phase = .rejected)
    (hothers : b.seq ∉ rest.map (·.seq)) (hheld : nextHeld rest = none) (hhead : HeadStands rest) :
    Gone b rest s (ingestPump s) ∧ Judged s (ingestPump s) := by
  have hplaced : nextHeld s.ingest.blocks = none := by
    rw [hblocks, nextHeld, List.find?_cons_of_neg (by simp [hrejected])]
    exact hheld
  obtain ⟨hchecked, r, hcheckedIngest⟩ := checkRejected_leaves b s
  obtain ⟨hcompleted, hcompletedIngest⟩ := completeBands_leaves b (checkRejected b s)
  set v := completeBands b (checkRejected b s) with hv
  have hvblocks : v.ingest.blocks = b :: rest := by rw [hcompletedIngest, hcheckedIngest]; exact hblocks
  have hconsumed := consume_gone hvblocks hothers
  have hloop : consumeLoop s.ingest.blocks.length s = consume b v := by
    rw [hblocks, List.length_cons, consumeLoop, commitPoint, hblocks, List.head?_cons]
    dsimp only
    rw [if_pos hrejected]
    exact consumeLoop_stands (by rw [show (consume b v).ingest.blocks = rest from hconsumed.1]; exact hhead)
  have hpump : ingestPump s = pumped (consume b v) := by
    rw [ingestPump, placeLoop_stands hplaced, hloop, pumped]
  rw [hpump]
  exact ⟨hconsumed.pumped.from (by simp [hv]) (by simp [hv]), ((hchecked.trans hcompleted).trans (judged_consume b v)).trans (judged_pumped _)⟩

end Sys2Proof.Machine
end

section
/-!
PROOFS. Commits of cells, densities and geometry, and the granules that return (O50).
-/

namespace Sys2Proof.Machine

/-! ## Cells -/

theorem resolveRecord_congr {s t : State} (h : t.cache = s.cache) : resolveRecord t = resolveRecord s := by
  have hlookup : ∀ id, lookupCell t id = lookupCell s id := fun id => by rw [lookupCell, h, lookupCell]
  funext own limit a r
  simp only [resolveRecord, hlookup]

theorem resolveRecords_congr {s t : State} (h : t.cache = s.cache) (own : List Nat) (limit : Bool) (rs : List Record) :
    resolveRecords t own limit rs = resolveRecords s own limit rs := by
  rw [resolveRecords, resolveRecord_congr h, resolveRecords]

theorem resolveDrafts_congr {s t : State} (h : t.cache = s.cache) (ds : List CellDraft) : resolveDrafts t ds = resolveDrafts s ds := by
  have hlookup : ∀ id, lookupCell t id = lookupCell s id := fun id => by rw [lookupCell, h, lookupCell]
  have hgo : ∀ (ds : List CellDraft) (own seen : List Nat), resolveDrafts.go t own seen ds = resolveDrafts.go s own seen ds := fun ds => by
    induction ds with
    | nil => exact fun _ _ => rfl
    | cons d ds ih =>
      intro own seen
      simp only [resolveDrafts.go, hlookup, resolveRecords_congr h, ih]
  exact hgo ds _ _

/-- Where a cell's granules go. -/
def cellPlace (c : Cell) (s : State) : Nat := if s.cache.nextGranule + c.granules ≤ cacheGranules s then s.cache.nextGranule else 0

/-- A cell whose granules stand in DRAM is entered. -/
def cellEntered (c : Cell) (at' uid : Nat) (s : State) : State :=
  { s with cache := { s.cache with
    nextGranule := at' + c.granules
    nextUid := uid + 1, cells := s.cache.cells ++ [{ c with uid := uid, storeAt := at' }]
    dir := assocPut s.cache.dir c.id (some uid) } }

/-- The granules of a cell are written. -/
def cellWritten (c : Cell) (s : State) : State := writeUnits Port.cellRead (granuleAt (cellPlace c s)) (c.granules * 64) s

/-- One cell is stored. -/
def cellStored (c : Cell) (s : State) : State := cellEntered c (cellPlace c s) s.cache.nextUid (cellWritten c s)

theorem accessed_cellWritten (c : Cell) (s : State) : Accessed s (cellWritten c s) := accessed_writeUnits (by decide) _ _ s

theorem storeCells_cons (c : Cell) (cs : List Cell) (g n : Nat) (s : State) :
    storeCells (c :: cs) g n s = if granulesFree s < c.granules ∨ (!(s.cache.dir.lookup c.id).isSome ∧ 4194304 ≤ s.cache.dir.length) then ⟨s, g, n, true⟩
      else storeCells cs (g + c.granules) (n + 1) (cellStored c s) := rfl

theorem cellEntered_streamOnly (c : Cell) (at' uid : Nat) (s : State) : StreamOnly [] s (cellEntered c at' uid s) ∧ (cellEntered c at' uid s).ingest = s.ingest :=
  ⟨streamOnly_cache _ _, rfl⟩

theorem cellStored_streamOnly (c : Cell) (s : State) : StreamOnly [] s (cellStored c s) ∧ (cellStored c s).ingest = s.ingest := by
  have hwrite := accessed_cellWritten c s
  have hingest : (cellWritten c s).ingest = s.ingest := by rw [hwrite.only.rest]
  obtain ⟨henter, hkept⟩ := cellEntered_streamOnly c (cellPlace c s) s.cache.nextUid (cellWritten c s)
  exact ⟨hwrite.streamOnly.trans henter, by rw [cellStored, hkept, hingest]⟩

theorem cacheGranules_congr {s t : State} (h : t.cache = s.cache) : cacheGranules t = cacheGranules s :=
  congrArg (fun c : Cache => c.size * 4194304 - 1048576) h

theorem granulesFree_congr {s t : State} (h : t.cache = s.cache) : granulesFree t = granulesFree s :=
  congrArg₂ (· - ·) (cacheGranules_congr h) (congrArg (fun c : Cache => (c.cells.map (·.granules)).foldl (· + ·) 0) h)

theorem cellStored_cache {s t : State} (h : t.cache = s.cache) (c : Cell) : (cellStored c t).cache = (cellStored c s).cache := by
  have hwrite : ∀ u : State, (cellWritten c u).cache = u.cache := fun u => by rw [(accessed_cellWritten c u).only.rest]
  have hplace : cellPlace c t = cellPlace c s := by rw [cellPlace, cacheGranules_congr h, h]; rfl
  simp only [cellStored, cellEntered, hwrite, h, hplace]

theorem storeCells_streamOnly (cs : List Cell) (g n : Nat) (s : State) :
    StreamOnly [] s (storeCells cs g n s).state ∧ (storeCells cs g n s).state.ingest = s.ingest := by
  induction cs generalizing g n s with
  | nil => exact ⟨.refl s, rfl⟩
  | cons c cs ih =>
    rw [storeCells_cons]
    by_cases hroom : granulesFree s < c.granules ∨ (!(s.cache.dir.lookup c.id).isSome ∧ 4194304 ≤ s.cache.dir.length)
    · rw [if_pos hroom]
      exact ⟨.refl s, rfl⟩
    · rw [if_neg hroom]
      obtain ⟨hone, hingest⟩ := cellStored_streamOnly c s
      obtain ⟨hall, hkept⟩ := ih (g + c.granules) (n + 1) (cellStored c s)
      exact ⟨hone.trans hall, by rw [hkept, hingest]⟩

theorem storeCells_congr {s t : State} (h : t.cache = s.cache) (cs : List Cell) (g n : Nat) :
    (storeCells cs g n t).full = (storeCells cs g n s).full ∧ (storeCells cs g n t).granules = (storeCells cs g n s).granules ∧
    (storeCells cs g n t).state.cache = (storeCells cs g n s).state.cache := by
  induction cs generalizing g n s t with
  | nil => exact ⟨rfl, rfl, h⟩
  | cons c cs ih =>
    have hfree := granulesFree_congr h
    rw [storeCells_cons, storeCells_cons, hfree, h]
    split
    · exact ⟨rfl, rfl, h⟩
    · exact ih (cellStored_cache h c) _ _

/-! ## Commits -/

theorem marked_head {b : Blk} {rest : List Blk} (hothers : b.seq ∉ rest.map (·.seq)) : markedRejected b.seq (b :: rest) =
    { b with phase := .rejected, queueKib := 0, cause := none, late := none } :: rest := by
  rw [markedRejected, List.map_cons, if_pos rfl, map_others hothers]

/-! ## Commits -/

/-- What a block leaves that commits without a word: nothing but the stream's own work. -/
def Plainly (s t : State) : Prop := t.flow = s.flow ∧ EventsKept [Ev.OVER_BUDGET, Ev.ECC_UE, Ev.ECC_CE_HIGH] s t

theorem StreamOnly.plainly {ks : List Nat} {s t : State} (h : StreamOnly ks s t) : Plainly s t :=
  ⟨h.flow, fun n hn hnot => h.events n hn fun hin => hnot (List.mem_cons_of_mem _ hin)⟩

theorem streamOnly_consume (b : Blk) (s : State) : StreamOnly streamRegs s (consume b s) where
  rest := rfl
  regs k _ _ hk := regsKept_rset64 (ks := streamRegs) (by simp [streamRegs]) (by simp [streamRegs]) (b.seq + 1) s k hk
  events := fun _ _ _ => rfl
  stands := fun _ h => h

theorem regsKept_consume (b : Blk) (s : State) : RegsKept [Reg.DMA_STG_REL_LO, Reg.DMA_STG_REL_HI] s (consume b s) :=
  fun k hk => regsKept_rset64 (by decide) (by decide) (b.seq + 1) s k hk

theorem work_stream : Reg.SKV_STATUS :: workRegs ⊆ streamRegs := by
  intro k hk
  simp only [streamRegs, List.mem_append]
  rcases List.mem_cons.1 hk with rfl | hk
  · exact .inl (by simp)
  · exact .inr hk

theorem streamOnly_pumped' (s : State) : StreamOnly streamRegs s (pumped s) := (streamOnly_pumped s).mono work_stream

/-- A block's densities join its stripe's. -/
def densityJoined (b : Blk) (s : State) : State := updStripe b.stripeIdx (fun d => { d with dmap := dmapOf b.records ++ d.dmap }) s

theorem densityJoined_leaves (b : Blk) (s : State) : let v := densityJoined b s
    StreamOnly streamRegs s v ∧ v.ingest = s.ingest ∧ (consume b v).cache = s.cache ∧
    (stripeData (consume b v) b.stripeIdx).dmap = dmapOf b.records ++ (stripeData s b.stripeIdx).dmap := by
  refine ⟨streamOnly_ras s _, rfl, rfl, ?_⟩
  rw [stripeData_congr (s := densityJoined b s) (t := consume b (densityJoined b s)) (by simp) rfl, densityJoined, stripeData_updStripe (stripeData_idx s _)]

/-- A density map's part of DRAM is written. -/
def densityWritten (b : Blk) (s : State) : State :=
  writeUnits Port.cellRead (dmapStore b.stripeIdx) (10 * ((bandsOf s b.stripeIdx + 15) / 16)) s

theorem accessed_densityWritten (b : Blk) (s : State) : Accessed s (densityWritten b s) := accessed_writeUnits (by decide) _ _ s

theorem commitDensity_eq (b : Blk) (s : State) : commitDensity b s = consume b (densityJoined b (densityWritten b s)) := rfl

theorem skiverRestart_leaves (s : State) : StreamOnly streamRegs s (skiverRestart s) ∧ (skiverRestart s).ingest = s.ingest ∧ (skiverRestart s).cache = s.cache ∧
    skiverStopped (skiverRestart s) = false := by
  unfold skiverRestart
  split
  · refine ⟨streamOnly_fput (by simp [streamRegs]) 0 s, rfl, rfl, ?_⟩
    rw [skiverStopped, fget_fput_same _ _ rfl]
    rfl
  · next h => exact ⟨.refl s, rfl, rfl, by simpa using h⟩

theorem cacheSync_shows (s : State) : StreamOnly streamRegs s (cacheSync s) ∧ (cacheSync s).ingest = s.ingest ∧ (cacheSync s).cache = s.cache ∧
    skiverStopped (cacheSync s) = skiverStopped s ∧ fget (cacheSync s) Reg.SKV_FREE_GRANULES = granulesFree s % 2 ^ 32 := by
  refine ⟨?_, rfl, rfl, ?_, ?_⟩
  · exact ((streamOnly_fput (f := Reg.SKV_CELLS_ENTRIES) (by simp [streamRegs]) _ s).trans
      (streamOnly_fput (f := Reg.SKV_PENDING_GRANULES) (by simp [streamRegs]) _ _)).trans (streamOnly_fput (f := Reg.SKV_FREE_GRANULES) (by simp [streamRegs]) _ _)
  · rw [skiverStopped, cacheSync, fget_fput_other _ _ _ _ (by decide), fget_fput_other _ _ _ _ (by decide), fget_fput_other _ _ _ _ (by decide), skiverStopped]
  · exact fget_fput_same (fput Reg.SKV_PENDING_GRANULES _ (fput Reg.SKV_CELLS_ENTRIES _ s)) Reg.SKV_FREE_GRANULES rfl (granulesFree s)

/-- The cells of a block have been stored, and a stop is over. -/
theorem cellsKept_shows (cells : List Cell) (s : State) : let v := cacheSync (skiverRestart (storeCells cells 0 0 s).state)
    StreamOnly streamRegs s v ∧ v.ingest = s.ingest ∧ v.cache = (storeCells cells 0 0 s).state.cache ∧ skiverStopped v = false ∧
    fget v Reg.SKV_FREE_GRANULES = granulesFree v % 2 ^ 32 := by
  obtain ⟨hstore, hstoreIngest⟩ := storeCells_streamOnly cells 0 0 s
  obtain ⟨hrestart, hrestartIngest, hrestartCache, hruns⟩ := skiverRestart_leaves (storeCells cells 0 0 s).state
  obtain ⟨hsync, hsyncIngest, hsyncCache, hsyncRuns, hfree⟩ := cacheSync_shows (skiverRestart (storeCells cells 0 0 s).state)
  exact ⟨((hstore.mono (List.nil_subset _)).trans hrestart).trans hsync, by rw [hsyncIngest, hrestartIngest, hstoreIngest], by rw [hsyncCache, hrestartCache],
    by rw [hsyncRuns, hruns], by rw [hfree, granulesFree_congr hsyncCache]⟩

/-- A stop is shown with the block it stopped at and what of it was stored. -/
theorem stopSkiver_shows (seq g n : Nat) (s : State) : let w := stopSkiver seq g n s
    w.ingest = s.ingest ∧ w.cache = s.cache ∧ skiverStopped w = true ∧ rget64 w Reg.SKV_STOP_SEQ_LO Reg.SKV_STOP_SEQ_HI = seq % 2 ^ 64 ∧
    fget w Reg.SKV_STOP_STORED_GRANULES = g % 2 ^ 32 ∧ (skiverStopped s = false → w.ev.bits.getLsbD Ev.CACHE_FULL = true) ∧
    (skiverStopped s = true → w.ev = s.ev) ∧ EventsKept [Ev.CACHE_FULL] s w ∧ w.flow = s.flow ∧ w.job = s.job ∧ w.dram = s.dram := by
  set u := raiseIf (!skiverStopped s) Ev.CACHE_FULL s with hu
  have hmem : MemoryOnly s u := memoryOnly_raiseIf _ _ _
  set v := rset64 Reg.SKV_STOP_SEQ_LO Reg.SKV_STOP_SEQ_HI seq (fput Reg.SKV_STATUS_STATE 3 u) with hv
  have heq : stopSkiver seq g n s = fput Reg.SKV_STOP_STORED_GRANULES g (fput Reg.SKV_STOP_CELLS_CELLS n v) := rfl
  have hregs : RegsKept [Reg.SKV_STOP_STORED, Reg.SKV_STOP_CELLS] v (stopSkiver seq g n s) :=
    (regsKept_fput (f := Reg.SKV_STOP_CELLS_CELLS) (by decide) n v).trans (regsKept_fput (f := Reg.SKV_STOP_STORED_GRANULES) (by decide) g _)
  have hstate : RegsKept [Reg.SKV_STOP_SEQ_LO, Reg.SKV_STOP_SEQ_HI] (fput Reg.SKV_STATUS_STATE 3 u) v := regsKept_rset64 (by decide) (by decide) seq _
  dsimp only
  refine ⟨?_, ?_, ?_, ?_, fget_fput_same (fput Reg.SKV_STOP_CELLS_CELLS n v) Reg.SKV_STOP_STORED_GRANULES rfl g, fun hruns => ?_, fun hstopped => ?_, ?_, ?_, by simp, by simp⟩
  · exact (show (stopSkiver seq g n s).ingest = u.ingest from rfl).trans (by rw [hmem.rest])
  · exact (show (stopSkiver seq g n s).cache = u.cache from rfl).trans (by rw [hmem.rest])
  · rw [skiverStopped, hregs.fget (by decide), hstate.fget (by decide), fget_fput_same _ _ rfl]
    rfl
  · rw [rget64_regsKept hregs (by decide) (by decide), hv, rget64_rset64 _ _ _ _ (by decide)]
  · have hraised : u = raise Ev.CACHE_FULL s := by rw [hu, hruns]; rfl
    have hbit := raise_raises (n := Ev.CACHE_FULL) (by decide) s
    rw [← hraised] at hbit
    exact hbit
  · have hquiet : u = s := by rw [hu, hstopped]; rfl
    exact (show (stopSkiver seq g n s).ev = u.ev from rfl).trans (by rw [hquiet])
  · exact eventsKept_raiseIf (by simp) _ s
  · exact (show (stopSkiver seq g n s).flow = u.flow from rfl).trans hmem.flow

/-- A block's geometry joins its stripe's, and its bands are complete. -/
def geometryJoined (b : Blk) (places : List (Nat × Nat)) (s : State) : State :=
  let u := completeBands b (consume b s)
  if hasRendered u b.stripeIdx b.hdr.lastBand then u else { u with ras := { u.ras with geoms := u.ras.geoms ++ [geomOf b places] } }

theorem hasRendered_congr {s t : State} (hcurrent : t.ras.current = s.ras.current) (hidx : t.ras.stripeIdx = s.ras.stripeIdx) (hband : t.ras.band = s.ras.band)
    (i j : Nat) : hasRendered t i j = hasRendered s i j := by
  unfold hasRendered
  rw [hcurrent, hidx, hband]

theorem completeBands_geometry {b : Blk} (hkind : b.hdr.kind = 3) (hplaced : b.placed = true) (s : State) :
    completeBands b s = updStripe b.stripeIdx (fun d => { d with
      complete := max d.complete (if b.hdr.last then bandsOf s b.stripeIdx else b.hdr.firstBand) }) s := if_pos ⟨hkind, hplaced⟩

theorem geometryJoined_joins {b : Blk} (hkind : b.hdr.kind = 3) (hplaced : b.placed = true) (places : List (Nat × Nat)) (s : State) :
    let w := geometryJoined b places s
    StreamOnly streamRegs (consume b s) w ∧ w.ingest = (consume b s).ingest ∧ w.regs = (consume b s).regs ∧ w.cache = s.cache ∧
    stripeData w b.stripeIdx = { stripeData s b.stripeIdx with
      complete := max (stripeData s b.stripeIdx).complete (if b.hdr.last then bandsOf s b.stripeIdx else b.hdr.firstBand) } ∧
    (Rastered s → Rastered w) ∧
    w.ras.geoms = s.ras.geoms ++ (if hasRendered s b.stripeIdx b.hdr.lastBand then [] else [geomOf b places]) := by
  set u := completeBands b (consume b s) with hu
  rw [completeBands_geometry hkind hplaced] at hu
  have hdata : stripeData u b.stripeIdx = { stripeData s b.stripeIdx with
      complete := max (stripeData s b.stripeIdx).complete (if b.hdr.last then bandsOf s b.stripeIdx else b.hdr.firstBand) } := by
    have hsame : stripeData (consume b s) b.stripeIdx = stripeData s b.stripeIdx := stripeData_congr (by simp) rfl _
    have hbands : bandsOf (consume b s) b.stripeIdx = bandsOf s b.stripeIdx := by simp only [bandsOf, stripeAt, consume_frame]
    rw [hu, stripeData_updStripe (stripeData_idx _ _), hsame, hbands]
  have hrendered : hasRendered u b.stripeIdx b.hdr.lastBand = hasRendered s b.stripeIdx b.hdr.lastBand := by
    rw [hu]
    exact hasRendered_congr rfl rfl rfl _ _
  have hwork : StreamOnly streamRegs (consume b s) u := by rw [hu]; exact streamOnly_ras _ _
  have hkept : u.ingest = (consume b s).ingest ∧ u.regs = (consume b s).regs ∧ u.cache = s.cache ∧ u.ras.geoms = s.ras.geoms ∧
      u.ras.current = s.ras.current ∧ u.ras.pending = s.ras.pending := by
    rw [hu]
    exact ⟨rfl, rfl, rfl, rfl, rfl, rfl⟩
  obtain ⟨hingest, hregs, hcache, hgeoms, hcurrent, hpending⟩ := hkept
  have heq : geometryJoined b places s = if hasRendered u b.stripeIdx b.hdr.lastBand then u
      else { u with ras := { u.ras with geoms := u.ras.geoms ++ [geomOf b places] } } := rfl
  have hrastered : Rastered s → Rastered u := fun h => by rw [Rastered, hcurrent, hpending]; exact h
  dsimp only
  rw [heq, hrendered]
  clear_value u
  split
  · exact ⟨hwork, hingest, hregs, hcache, hdata, hrastered, by rw [hgeoms, List.append_nil]⟩
  · refine ⟨hwork.trans (streamOnly_ras u _), hingest, hregs, hcache, ?_, hrastered, congrArg (· ++ [geomOf b places]) hgeoms⟩
    exact (stripeData_congr (s := u) rfl rfl _).trans hdata

/-- The prologue of a block as its stripe takes it. -/
def StripeData.opened (b : Blk) (d : StripeData) : StripeData :=
  { d with classes := classesWith d.classes b.records, margin := marginsOf b.records, makeups := makeupsOf b.records, parsed := true }

theorem prologue_taken (b : Blk) (s : State) : let u := updStripe b.stripeIdx (StripeData.opened b) s
    commitPrologue b s = checkMap b ((stripeData s b.stripeIdx).opened b) u ∧ stripeData u b.stripeIdx = (stripeData s b.stripeIdx).opened b := by
  have hdata : stripeData (updStripe b.stripeIdx (StripeData.opened b) s) b.stripeIdx = (stripeData s b.stripeIdx).opened b :=
    stripeData_updStripe (stripeData_idx s _)
  exact ⟨congrArg (fun d => checkMap b d (updStripe b.stripeIdx (StripeData.opened b) s)) hdata, hdata⟩

theorem checkMap_complete {b : Blk} {d : StripeData} {s : State} (h : ∀ e, stripeAt s b.stripeIdx = some e → densityComplete d e.h = true) : checkMap b d s = s := by
  unfold checkMap
  split
  · rfl
  · next e he => rw [if_pos (h e he)]

/-- A density map that is not complete is recorded, and its stripe's bands are rejected. -/
theorem checkMap_fails {b : Blk} {d : StripeData} {s : State} {e : StripeEntry} (he : stripeAt s b.stripeIdx = some e) (h : densityComplete d e.h = false) :
    Recorded s (checkMap b d s) (d.dmapSeq.getD b.seq) Cause.fieldRange noOffset ∧
    ∀ j, j < e.h / 256 → (stripeData (checkMap b d s) b.stripeIdx).isRejected j = true := by
  let u := raise Ev.SOURCE_CHECK (addReject (d.dmapSeq.getD b.seq) Cause.fieldRange noOffset s)
  have heq : checkMap b d s = rejectBands b.stripeIdx (List.range (e.h / 256)) u := by
    unfold checkMap
    rw [he]
    simp only [h, Bool.false_eq_true, if_false]
    rfl
  obtain ⟨hjudged, -, hrejected⟩ := rejectBands_rejects b.stripeIdx (List.range (e.h / 256)) u
  have hrecorded : Recorded s u (d.dmapSeq.getD b.seq) Cause.fieldRange noOffset := ⟨⟨[], rfl⟩, raise_raises (by decide) _⟩
  rw [heq]
  exact ⟨hrecorded.judged hjudged, fun j hj => hrejected e he j (List.mem_range.2 hj) hj⟩

section
variable {b : Blk} {rest : List Blk} {s : State} (hothers : b.seq ∉ rest.map (·.seq)) (hheld : nextHeld rest = none) (hhead : HeadStands rest)
include hothers hheld hhead

/-- A block that commits from a state of the stream is gone, and the pump finds nothing else to do. -/
theorem commit_gone {v : State} (hv : StreamOnly streamRegs s v) (hingest : v.ingest.blocks = b :: rest) {w : State}
    (hw : StreamOnly streamRegs (consume b v) w) (hkept : w.ingest = (consume b v).ingest) (hlo : rget w Reg.DMA_STG_REL_LO = rget (consume b v) Reg.DMA_STG_REL_LO)
    (hhi : rget w Reg.DMA_STG_REL_HI = rget (consume b v) Reg.DMA_STG_REL_HI) :
    ingestPump w = pumped w ∧ Gone b rest s (pumped w) ∧ Plainly s (pumped w) := by
  have hconsumed := (consume_gone hingest hothers).from hv.job (by rw [hv.rest])
  obtain ⟨hrest, hseq, hrel, hjob, hdram⟩ := hconsumed
  have hwgone : Gone b rest s w := by
    refine ⟨by rw [hkept, hrest], by rw [hkept, hseq], ?_, by rw [hw.job, hjob], fun a => (hw.dramKept a).trans (hdram a)⟩
    rw [rget64, hlo, hhi]
    exact hrel
  refine ⟨ingestPump_stands (by rw [hwgone.1]; exact hheld) (by rw [hwgone.1]; exact hhead), hwgone.pumped, ?_⟩
  exact (((hv.trans (streamOnly_consume b v)).trans hw).trans (streamOnly_pumped' w)).plainly

/-- A block that is unrenderable as it commits is recorded, and gone. -/
theorem rejectLate_gone (hblocks : s.ingest.blocks = b :: rest) {cause off : Nat} {ids : List Nat} :
    Gone b rest s (ingestPump (rejectLate b cause off ids s)) ∧ Recorded s (ingestPump (rejectLate b cause off ids s)) b.seq cause off := by
  obtain ⟨-, hrecorded, hingest⟩ := rejectLate_records b cause off ids s
  have hleft : (rejectLate b cause off ids s).ingest.blocks = { b with phase := .rejected, queueKib := 0, cause := none, late := none } :: rest := by
    rw [hingest]
    exact (congrArg (markedRejected b.seq) hblocks).trans (marked_head hothers)
  obtain ⟨hgone, hjudged⟩ := pump_rejected hleft rfl hothers hheld hhead
  exact ⟨Gone.from hgone (by simp) (by simp), hrecorded.judged hjudged⟩

/-- A DENSITY_MAP block commits. -/
theorem commitDensity_commits (hblocks : s.ingest.blocks = b :: rest) (hkind : b.hdr.kind = 2) : let t := ingestPump (commitBlock b s)
    Gone b rest s t ∧ Plainly s t ∧ t.cache = s.cache ∧ (stripeData t b.stripeIdx).dmap = dmapOf b.records ++ (stripeData s b.stripeIdx).dmap := by
  have hu := accessed_densityWritten b s
  have heq : commitBlock b s = consume b (densityJoined b (densityWritten b s)) := by
    unfold commitBlock
    rw [hkind]
    exact commitDensity_eq b s
  generalize densityWritten b s = u at hu heq
  obtain ⟨huv, hkept, hcache, hdata⟩ := densityJoined_leaves b u
  have huingest : u.ingest = s.ingest := by rw [hu.only.rest]
  have hucache : u.cache = s.cache := by rw [hu.only.rest]
  obtain ⟨hpump, hgone, hplainly⟩ := commit_gone hothers hheld hhead (hu.streamOnly.trans huv) (by rw [hkept, huingest, hblocks])
    (.refl (consume b (densityJoined b u))) rfl rfl rfl
  dsimp only
  rw [heq, hpump]
  refine ⟨hgone, hplainly, ?_, ?_⟩
  · rw [(pumped_stream _).2, hcache, hucache]
  · rw [stripeData_pumped, hdata, stripeData_congr (s := s) (by rw [hu.only.rest]) (congrArg Raster.stripes hu.only.ras)]

/-- A CELLS block whose records do not resolve is unrenderable, and gone. -/
theorem commitCells_fails (hblocks : s.ingest.blocks = b :: rest) (hkind : b.hdr.kind = 1) {cause off : Nat}
    (hresolve : resolveDrafts s (draftsOf b.records none) = .error (cause, off)) :
    Gone b rest s (ingestPump (commitBlock b s)) ∧ Recorded s (ingestPump (commitBlock b s)) b.seq cause off := by
  have heq : commitBlock b s = rejectLate b cause off (((draftsOf b.records none).filter fun d => decide (d.off ≤ off)).map (·.id)) s := by
    unfold commitBlock commitCells
    rw [hkind]
    simp only [hresolve]
  rw [heq]
  exact rejectLate_gone hothers hheld hhead hblocks

/-- A CELLS block that finds room is stored, and gone; a stop at it is over. -/
theorem commitCells_stores (hblocks : s.ingest.blocks = b :: rest) (hkind : b.hdr.kind = 1) {cells : List Cell}
    (hresolve : resolveDrafts s (draftsOf b.records none) = .ok cells) (hroom : (storeCells cells 0 0 s).full = false) : let t := ingestPump (commitBlock b s)
    Gone b rest s t ∧ Plainly s t ∧ t.cache = (storeCells cells 0 0 s).state.cache ∧ fget t Reg.SKV_FREE_GRANULES = granulesFree t % 2 ^ 32 ∧
    skiverStopped t = false := by
  obtain ⟨hkeep, hingest, hcache, hruns, hfree⟩ := cellsKept_shows cells s
  have heq : commitBlock b s = consume b (cacheSync (skiverRestart (storeCells cells 0 0 s).state)) := by
    unfold commitBlock commitCells
    rw [hkind]
    simp only [hresolve, cellsStored, hroom, Bool.false_eq_true, if_false]
  generalize cacheSync (skiverRestart (storeCells cells 0 0 s).state) = v at hkeep hingest hcache hruns hfree heq
  obtain ⟨hpump, hgone, hplainly⟩ := commit_gone hothers hheld hhead hkeep (by rw [hingest, hblocks]) (.refl (consume b v)) rfl rfl rfl
  have hconsumed : RegsKept [Reg.DMA_STG_REL_LO, Reg.DMA_STG_REL_HI] v (consume b v) := regsKept_consume b v
  have hpcache : (pumped (consume b v)).cache = v.cache := (pumped_stream _).2
  dsimp only
  rw [heq, hpump]
  refine ⟨hgone, hplainly, hpcache.trans hcache, ?_, ?_⟩
  · rw [(streamOnly_pumped (consume b v)).fget (f := Reg.SKV_FREE_GRANULES) (by decide) (by decide) (by simp [workRegs, rasterRegs]),
      hconsumed.fget (by decide), hfree, granulesFree_congr hpcache]
  · rw [skiverStopped_pumped, skiverStopped, hconsumed.fget (by decide)]
    exact hruns

omit hothers hheld hhead in
/-- A CELLS block that finds no room stops the Skiver, and stays. -/
theorem commitCells_stops (hblocks : s.ingest.blocks = b :: rest) (hall : nextHeld (b :: rest) = none) (hchecked : b.phase = .checked) (hkind : b.hdr.kind = 1)
    {cells : List Cell} (hresolve : resolveDrafts s (draftsOf b.records none) = .ok cells) (hfull : (storeCells cells 0 0 s).full = true) :
    let t := ingestPump (commitBlock b s)
    t.ingest = s.ingest ∧ t.cache = s.cache ∧ skiverStopped t = true ∧ rget64 t Reg.SKV_STOP_SEQ_LO Reg.SKV_STOP_SEQ_HI = b.seq % 2 ^ 64 ∧
    fget t Reg.SKV_STOP_STORED_GRANULES = (storeCells cells 0 0 s).granules % 2 ^ 32 ∧ (skiverStopped s = false → t.ev.bits.getLsbD Ev.CACHE_FULL = true) ∧
    (skiverStopped s = true → EventsKept memEvents s t) ∧ EventsKept [Ev.CACHE_FULL, Ev.OVER_BUDGET, Ev.ECC_UE, Ev.ECC_CE_HIGH] s t ∧
    t.flow = s.flow ∧ t.job = s.job ∧ DramKept s t := by
  have heq : commitBlock b s = stopSkiver b.seq (storeCells cells 0 0 s).granules (storeCells cells 0 0 s).cells s := by
    unfold commitBlock commitCells
    rw [hkind]
    simp only [hresolve, cellsStored, hfull, if_true]
  obtain ⟨hingest, hcache, hstopped, hseq, hstored, hraised, hsilent, hevents, hflow, hjob, hdram⟩ :=
    stopSkiver_shows b.seq (storeCells cells 0 0 s).granules (storeCells cells 0 0 s).cells s
  generalize stopSkiver b.seq (storeCells cells 0 0 s).granules (storeCells cells 0 0 s).cells s = w at *
  have hwblocks : w.ingest.blocks = b :: rest := by rw [hingest, hblocks]
  have hpump : ingestPump w = pumped w := ingestPump_stands (by rw [hwblocks]; exact hall) fun x hx => by
    rw [hwblocks] at hx
    cases hx
    rw [hchecked]
    exact ⟨nofun, nofun⟩
  have hwork := streamOnly_pumped w
  obtain ⟨hpingest, hpcache⟩ := pumped_stream w
  dsimp only
  rw [heq, hpump]
  refine ⟨hpingest.trans hingest, hpcache.trans hcache, (skiverStopped_pumped w).trans hstopped, ?_, ?_, fun h => hwork.stands _ (hraised h), fun h => ?_, ?_,
    hwork.flow.trans hflow, hwork.job.trans hjob, fun a => (hwork.dramKept a).trans (dramKept_of_eq (s := s) hdram a)⟩
  · rw [rget64, hwork.regs _ (by decide) (by decide) (by simp [workRegs, rasterRegs]), hwork.regs _ (by decide) (by decide) (by simp [workRegs, rasterRegs])]
    exact hseq
  · rw [hwork.fget (f := Reg.SKV_STOP_STORED_GRANULES) (by decide) (by decide) (by simp [workRegs, rasterRegs]), hstored]
  · have hev := hwork.events
    rwa [EventsKept, hsilent h] at hev
  · exact (hevents.mono (by simp)).trans (hwork.events.mono (by simp))

omit hothers hheld hhead in
theorem commitGeometry_eq (hkind : b.hdr.kind = 3) (hbad : (resolveRecords s [] false b.records).bad = none) :
    commitBlock b s = geometryJoined b (resolveRecords s [] false b.records).places (if b.first then commitPrologue b s else s) := by
  unfold commitBlock commitGeometry
  rw [hkind]
  simp only [hbad]
  rfl

/-- A STRIPE_GEOMETRY block whose stripe's density map is complete joins it. -/
theorem commitGeometry_joins (hblocks : s.ingest.blocks = b :: rest) (hkind : b.hdr.kind = 3) (hplaced : b.placed = true)
    (hbad : (resolveRecords s [] false b.records).bad = none)
    (hmap : b.first = false ∨ ∀ e, stripeAt s b.stripeIdx = some e → densityComplete ((stripeData s b.stripeIdx).opened b) e.h = true) :
    let t := ingestPump (commitBlock b s)
    let d := stripeData s b.stripeIdx
    Gone b rest s t ∧ Plainly s t ∧ t.cache = s.cache ∧
    stripeData t b.stripeIdx = { (if b.first then d.opened b else d) with
      complete := max d.complete (if b.hdr.last then bandsOf s b.stripeIdx else b.hdr.firstBand) } ∧
    (Rastered s → t.ras.geoms = s.ras.geoms ++
      (if hasRendered s b.stripeIdx b.hdr.lastBand then [] else [geomOf b (resolveRecords s [] false b.records).places])) := by
  have hstart : ∃ v, (if b.first then commitPrologue b s else s) = v ∧ StreamOnly streamRegs s v ∧ v.ingest = s.ingest ∧ v.cache = s.cache ∧
      stripeData v b.stripeIdx = (if b.first then (stripeData s b.stripeIdx).opened b else stripeData s b.stripeIdx) ∧ v.job = s.job ∧
      v.ras.geoms = s.ras.geoms ∧ v.ras.current = s.ras.current ∧ v.ras.pending = s.ras.pending ∧ v.ras.stripeIdx = s.ras.stripeIdx ∧ v.ras.band = s.ras.band := by
    by_cases hfirst : b.first = true
    · rw [if_pos hfirst, if_pos hfirst]
      obtain ⟨heq, hdata⟩ := prologue_taken b s
      rw [heq, checkMap_complete (s := updStripe b.stripeIdx (StripeData.opened b) s) (hmap.resolve_left (by simp [hfirst]))]
      exact ⟨_, rfl, streamOnly_ras s _, rfl, rfl, hdata, rfl, rfl, rfl, rfl, rfl, rfl⟩
    · rw [if_neg hfirst, if_neg hfirst]
      exact ⟨s, rfl, .refl s, rfl, rfl, rfl, rfl, rfl, rfl, rfl, rfl, rfl⟩
  obtain ⟨v, hv, hwork, hingest, hcache, hdata, hjob, hgeoms, hcurrent, hpending, hidx, hband⟩ := hstart
  rw [commitGeometry_eq hkind hbad, hv]
  generalize (resolveRecords s [] false b.records).places = places
  obtain ⟨hjoin, hjoinIngest, hjoinRegs, hjoinCache, hjoinData, hjoinRastered, hjoinGeoms⟩ := geometryJoined_joins hkind hplaced places v
  obtain ⟨hpump, hgone, hplainly⟩ := commit_gone hothers hheld hhead hwork (by rw [hingest, hblocks]) hjoin hjoinIngest
    (rget_regs_congr hjoinRegs _) (rget_regs_congr hjoinRegs _)
  have hbands : bandsOf v b.stripeIdx = bandsOf s b.stripeIdx := by rw [bandsOf, stripeAt, hjob, bandsOf, stripeAt]
  dsimp only
  rw [hpump]
  refine ⟨hgone, hplainly, ?_, ?_, fun hrastered => ?_⟩
  · rw [(pumped_stream _).2, hjoinCache, hcache]
  · rw [stripeData_pumped, hjoinData, hdata, hbands]
    split
    · rfl
    · rfl
  · rw [geoms_pumped (hjoinRastered (by rw [Rastered, hcurrent, hpending]; exact hrastered)), hjoinGeoms, hgeoms, hasRendered_congr hcurrent hidx hband]

/-- A first STRIPE_GEOMETRY block after whose prologue the density map is not complete. -/
theorem commitGeometry_mapFails (hblocks : s.ingest.blocks = b :: rest) (hkind : b.hdr.kind = 3) (hplaced : b.placed = true)
    (hbad : (resolveRecords s [] false b.records).bad = none) (hfirst : b.first = true) {e : StripeEntry} (he : stripeAt s b.stripeIdx = some e)
    (hmap : densityComplete ((stripeData s b.stripeIdx).opened b) e.h = false) : let t := ingestPump (commitBlock b s)
    Gone b rest s t ∧ Recorded s t ((stripeData s b.stripeIdx).dmapSeq.getD b.seq) Cause.fieldRange noOffset ∧
    ∀ j, j < e.h / 256 → (stripeData t b.stripeIdx).isRejected j = true := by
  obtain ⟨heq, -⟩ := prologue_taken b s
  set u := updStripe b.stripeIdx (StripeData.opened b) s with hu
  obtain ⟨hrecorded, hrejected⟩ := checkMap_fails (s := u) (b := b) (d := (stripeData s b.stripeIdx).opened b) he hmap
  obtain ⟨hjudged, r, hingest⟩ := checkMap_leaves b ((stripeData s b.stripeIdx).opened b) u
  have hvjob : (checkMap b ((stripeData s b.stripeIdx).opened b) u).job = s.job := by simp [hu]
  have hvdram : (checkMap b ((stripeData s b.stripeIdx).opened b) u).dram = s.dram := by simp [hu]
  rw [commitGeometry_eq hkind hbad, if_pos hfirst, heq]
  generalize checkMap b ((stripeData s b.stripeIdx).opened b) u = v at *
  generalize (resolveRecords s [] false b.records).places = places
  obtain ⟨hjoin, hjoinIngest, hjoinRegs, -, hjoinData, -, -⟩ := geometryJoined_joins hkind hplaced places v
  have hvblocks : v.ingest.blocks = b :: rest := by rw [hingest]; exact hblocks
  obtain ⟨hrest, hseq, hrel, hjob, hdram⟩ := (consume_gone hvblocks hothers).from hvjob hvdram
  have hgone : Gone b rest s (geometryJoined b places v) := by
    refine ⟨by rw [hjoinIngest, hrest], by rw [hjoinIngest, hseq], ?_, by rw [hjoin.job, hjob], fun a => (hjoin.dramKept a).trans (hdram a)⟩
    rw [rget64, rget_regs_congr hjoinRegs, rget_regs_congr hjoinRegs]
    exact hrel
  have hpump : ingestPump (geometryJoined b places v) = pumped (geometryJoined b places v) :=
    ingestPump_stands (by rw [hgone.1]; exact hheld) (by rw [hgone.1]; exact hhead)
  have hjoined : Judged v (geometryJoined b places v) :=
    (judged_consume b v).trans (hjoin.judged (by rw [hjoinIngest]; exact ⟨rfl, rfl⟩))
  dsimp only
  rw [hpump]
  refine ⟨hgone.pumped, (hrecorded.from rfl).judged (hjoined.trans (judged_pumped _)), fun j hj => ?_⟩
  rw [stripeData_pumped, hjoinData]
  exact hrejected j hj

theorem commitGeometry_fails (hblocks : s.ingest.blocks = b :: rest) (hkind : b.hdr.kind = 3) {cause off : Nat}
    (hbad : (resolveRecords s [] false b.records).bad = some (cause, off)) :
    Gone b rest s (ingestPump (commitBlock b s)) ∧ Recorded s (ingestPump (commitBlock b s)) b.seq cause off := by
  have heq : commitBlock b s = rejectLate b cause off [] s := by
    unfold commitBlock commitGeometry
    rw [hkind]
    simp only [hbad]
  rw [heq]
  exact rejectLate_gone hothers hheld hhead hblocks

end

/-! ## The staging ring -/

theorem accessed_readPart {port : Nat} (hp : port < 16) (p : Nat × Nat) (s : State) : Accessed s (readUnits port p.1 p.2 s) := accessed_readUnits hp p.1 p.2 s

theorem accessed_readParts {port : Nat} (hp : port < 16) (ps : List (Nat × Nat)) (s : State) : Accessed s (readParts port ps s) := by
  induction ps generalizing s with
  | nil => exact accessed_refl s
  | cons p ps ih => exact (accessed_readPart hp p s).trans (ih _)

theorem partsBad_of_reads {s : State} (h : DramReads s) (ps : List (Nat × Nat)) : partsBad s ps = false := by
  simp [partsBad, rangeBad_of_reads h]

theorem partsBad_congr {s t : State} (hecc : t.ecc = s.ecc) (hregs : ∀ k, k / 65536 = 0x0B → rget t k = rget s k) (ps : List (Nat × Nat)) :
    partsBad t ps = partsBad s ps := by
  have hplace : ∀ a, pcnOf t a = pcnOf s a := fun a => by
    rw [pcnOf, fget_congr (f := Reg.HBM_MAP_CFG_ORDER) (hregs _ (by decide)), pcnOf]
  have hfenced : ∀ a, fencedAt t a = fencedAt s a := fun a => by
    rw [fencedAt, fbitAt, hplace, fget_congr (f := Reg.HBM_FENCE_CHANNELS) (hregs _ (by decide)), fencedAt, fbitAt]
  have hpage : ∀ p, pageInvalid t p = pageInvalid s p := fun p => by
    unfold pageInvalid
    rw [hecc]
  have hunit : unitBad t = unitBad s := funext fun u => by
    rw [unitBad, hfenced, hecc, hpage, unitBad]
  simp only [partsBad, rangeBad, hunit]

theorem ringBytes_valid {s : State} (h : s.ecc.invalid = []) (b : Blk) : ringBytes s b = b.bytes := by
  unfold ringBytes
  rw [h]
  rfl

/-- A block whose bytes stand in the ring, and check, is read. -/
theorem ringRead_reads {b : Blk} {s : State} (hreads : DramReads s) (hvalid : s.ecc.invalid = []) (hcheck : transportOk b.seq b.bytes = true) :
    ringRead b s = (readParts Port.cellRead (stagingParts b.ringAt b.bytes.length) s, some b.plain) := by
  unfold ringRead
  dsimp only
  rw [partsBad_of_reads hreads, ringBytes_valid hvalid, hcheck]
  simp

theorem ringRead_fails {b : Blk} {s : State}
    (h : partsBad s (stagingParts b.ringAt b.bytes.length) = true ∨ transportOk b.seq (ringBytes s b) = false) :
    ringRead b s = (readParts Port.cellRead (stagingParts b.ringAt b.bytes.length) s, none) := by
  unfold ringRead
  refine if_pos ?_
  rcases h with h | h <;> simp [h]

/-! ## Granules -/

theorem returnGranules_returns (s : State) : let t := returnGranules s
    Quiet [Reg.SKV_CELLS, Reg.SKV_FREE, Reg.SKV_PENDING] s t ∧ StreamOnly streamRegs s t ∧ t.ingest = s.ingest ∧ t.abs = s.abs ∧ t.ecc = s.ecc ∧
    t.cache.fences = s.cache.fences.filter (fun f => !fenceMet s f) ∧ t.cache.dir = s.cache.dir ∧
    (∀ c, c ∈ t.cache.cells ↔ c ∈ s.cache.cells ∧ ∀ f ∈ s.cache.fences, fenceMet s f = true → c.uid ∉ f.uids) ∧
    fget t Reg.SKV_FREE_GRANULES = granulesFree t % 2 ^ 32 := by
  let gone := (s.cache.fences.filter (fenceMet s)).flatMap (·.uids)
  let u : State := { s with cache := { s.cache with
    fences := s.cache.fences.filter fun f => !fenceMet s f
    cells := s.cache.cells.filter fun c => !gone.contains c.uid } }
  have heq : returnGranules s = cacheSync u := rfl
  obtain ⟨hwork, hingest, hcache, -, hfree⟩ := cacheSync_shows u
  have hregs : RegsKept [Reg.SKV_CELLS, Reg.SKV_FREE, Reg.SKV_PENDING] u (cacheSync u) :=
    ((regsKept_fput (f := Reg.SKV_CELLS_ENTRIES) (by decide) _ u).trans (regsKept_fput (f := Reg.SKV_PENDING_GRANULES) (by decide) _ _)).trans
      (regsKept_fput (f := Reg.SKV_FREE_GRANULES) (by decide) _ _)
  dsimp only
  rw [heq]
  refine ⟨⟨rfl, rfl, rfl, hregs, dramKept_of_eq rfl⟩, (streamOnly_cache s u.cache).trans hwork, rfl, rfl, rfl, rfl, rfl, fun c => ?_, ?_⟩
  · rw [hcache, List.mem_filter]
    refine and_congr_right fun _ => ?_
    rw [Bool.not_eq_true', ← Bool.not_eq_true, List.contains_iff_mem, List.mem_flatMap]
    refine ⟨fun h f hf hmet hin => h ⟨f, List.mem_filter.2 ⟨hf, hmet⟩, hin⟩, ?_⟩
    rintro h ⟨f, hf, hin⟩
    exact h f (List.mem_filter.1 hf).1 (List.mem_filter.1 hf).2 hin
  · rw [hfree, granulesFree_congr hcache]

theorem returnGranules_skiver (s : State) : skiverStopped (returnGranules s) = skiverStopped s ∧ absHolds (returnGranules s) = absHolds s := by
  obtain ⟨⟨-, -, -, hregs, -⟩, -, -, habs, -⟩ := returnGranules_returns s
  exact ⟨by rw [skiverStopped, hregs.fget (by decide), skiverStopped], by rw [absHolds, habs, absHolds]⟩

/-- Where no block is tried again, granules return and that is all. -/
theorem granuleReturn_returns {s : State} (hmet : s.cache.fences.any (fenceMet s) = true)
    (hidle : skiverStopped s = false ∨ absHolds s = true ∨ ∀ b, s.ingest.blocks.head? = some b → b.phase ≠ .checked) : granuleReturn s = returnGranules s := by
  obtain ⟨-, -, hingest, -⟩ := returnGranules_returns s
  obtain ⟨hstopped, hholds⟩ := returnGranules_skiver s
  rw [granuleReturn, hmet]
  refine (if_neg (by simp)).trans ?_
  unfold commitStopped commitPoint
  rw [hstopped, hholds, hingest]
  split
  · next b hb =>
    refine if_neg ?_
    rintro ⟨hs, hp, ha⟩
    rcases hidle with h | h | h
    · simp [h] at hs
    · simp [h] at ha
    · exact h b hb hp
  · rfl

/-- A stopped block is tried again as granules return. -/
theorem granuleReturn_retries {s : State} {b : Blk} {rest : List Blk} (hmet : s.cache.fences.any (fenceMet s) = true) (hblocks : s.ingest.blocks = b :: rest)
    (hstopped : skiverStopped s = true) (hchecked : b.phase = .checked) (hholds : absHolds s = false) :
    granuleReturn s = retryStopped b (returnGranules s) := by
  obtain ⟨-, -, hingest, -⟩ := returnGranules_returns s
  obtain ⟨hs, ha⟩ := returnGranules_skiver s
  rw [granuleReturn, hmet]
  refine (if_neg (by simp)).trans ?_
  unfold commitStopped commitPoint
  rw [hs, ha, hingest, hblocks]
  exact if_pos ⟨hstopped, hchecked, by simp [hholds]⟩

/-- A reading that fails is asked for again. -/
theorem failReading_refetches {b : Blk} (hreadings : b.readings < 3) (cause off : Nat) (late : Bool) (s : State) : let t := failReading b cause off late s
    t = updBlock b.seq (fun b => { b with phase := .refetch, queueKib := 0 }) (raise Ev.BLOCK_REFETCH (fcount Reg.SKV_REFETCH_COUNT 1 s)) ∧
    t.ev.bits.getLsbD Ev.BLOCK_REFETCH = true ∧ fget t Reg.SKV_REFETCH_COUNT = min 65535 (fget s Reg.SKV_REFETCH_COUNT + 1) ∧
    RegsKept [Reg.SKV_REFETCH] s t ∧ t.flow = s.flow ∧ t.job = s.job ∧ t.dram = s.dram := by
  have heq : failReading b cause off late s =
      updBlock b.seq (fun b => { b with phase := .refetch, queueKib := 0 }) (raise Ev.BLOCK_REFETCH (fcount Reg.SKV_REFETCH_COUNT 1 s)) := if_pos hreadings
  dsimp only
  rw [heq]
  have hcount : RegsKept [Reg.SKV_REFETCH] s (fcount Reg.SKV_REFETCH_COUNT 1 s) := regsKept_fput (f := Reg.SKV_REFETCH_COUNT) (List.mem_singleton_self _) _ s
  exact ⟨rfl, raise_raises (by decide) (fcount Reg.SKV_REFETCH_COUNT 1 s), fget_fcount rfl 1 s, hcount, rfl, rfl, rfl⟩

/-- A stopped block that cannot be read is read again, and the Skiver stays where it is. -/
theorem granuleReturn_refetches {s : State} {b : Blk} {rest : List Blk} (hmet : s.cache.fences.any (fenceMet s) = true) (hblocks : s.ingest.blocks = b :: rest)
    (hothers : b.seq ∉ rest.map (·.seq)) (hheld : nextHeld rest = none) (hchecked : b.phase = .checked)
    (hstopped : skiverStopped s = true) (hholds : absHolds s = false) (hreadings : b.readings < 3)
    (hbad : partsBad s (stagingParts b.ringAt b.bytes.length) = true) : Yields .granuleReturn s fun t =>
    t.ingest.blocks = { b with phase := .refetch, queueKib := 0 } :: rest ∧ t.ev.bits.getLsbD Ev.BLOCK_REFETCH = true ∧
    skiverStopped t = true ∧ t.flow = s.flow ∧ t.job = s.job ∧ DramKept s t := by
  obtain ⟨⟨-, -, -, hregs, -⟩, hwork, hingest, -, hecc, -⟩ := returnGranules_returns s
  have hstop := (returnGranules_skiver s).1.trans hstopped
  have hbad' : partsBad (returnGranules s) (stagingParts b.ringAt b.bytes.length) = true :=
    (partsBad_congr hecc (fun k hk => hregs k fun hin => by revert hk; revert k; decide) _).trans hbad
  have heq := granuleReturn_retries hmet hblocks hstopped hchecked hholds
  rw [retryStopped, ringRead_fails (.inl hbad')] at heq
  have hread := accessed_readParts (port := Port.cellRead) (by decide) (stagingParts b.ringAt b.bytes.length) (returnGranules s)
  have hsv : StreamOnly streamRegs s (readParts Port.cellRead (stagingParts b.ringAt b.bytes.length) (returnGranules s)) := hwork.trans hread.streamOnly
  have hvingest : (readParts Port.cellRead (stagingParts b.ringAt b.bytes.length) (returnGranules s)).ingest = s.ingest := by
    rw [hread.only.rest]; exact hingest
  have hvstop : skiverStopped (readParts Port.cellRead (stagingParts b.ringAt b.bytes.length) (returnGranules s)) = true := by
    rw [skiverStopped, hread.fget (f := Reg.SKV_STATUS_STATE) (by decide) (by decide)]
    exact hstop
  generalize readParts Port.cellRead (stagingParts b.ringAt b.bytes.length) (returnGranules s) = v at *
  obtain ⟨hfail, hev, -, hkept, hflow, hjob, hdram⟩ := failReading_refetches hreadings Cause.transport noOffset false v
  generalize failReading b Cause.transport noOffset false v = w at *
  have hwblocks : w.ingest.blocks = { b with phase := .refetch, queueKib := 0 } :: rest := by
    rw [hfail]
    refine (congrArg (fun g : Ingest => g.blocks.map _) hvingest).trans ?_
    rw [hblocks, List.map_cons, if_pos rfl, map_others hothers]
  have hnext : nextHeld w.ingest.blocks = none := by
    rw [hwblocks]
    unfold nextHeld at hheld ⊢
    by_cases hplaced : b.placed = true
    · rw [List.find?_cons_of_neg (by simp [hplaced])]
      exact hheld
    · rw [List.find?_cons_of_pos (by simp [hplaced])]
      exact if_pos rfl
  have hpump : ingestPump w = pumped w := ingestPump_stands hnext fun x hx => by
    rw [hwblocks] at hx
    cases hx
    exact ⟨nofun, nofun⟩
  have hpumped := streamOnly_pumped w
  refine ⟨_, congrArg Host.Outcome.next (heq.trans hpump), ?_, hpumped.stands _ hev, ?_, ?_, ?_, fun a => ?_⟩
  · rw [(pumped_stream w).1, hwblocks]
  · rw [skiverStopped_pumped, skiverStopped, hkept.fget (by decide)]
    exact hvstop
  · rw [hpumped.flow, hflow, hsv.flow]
  · rw [hpumped.job, hjob, hsv.job]
  · exact (hpumped.dramKept a).trans ((dramKept_of_eq (s := v) hdram a).trans (hsv.dramKept a))

/-- A stopped block that is read again commits on what the returned granules leave. -/
theorem granuleReturn_commits {s : State} {b : Blk} {rest : List Blk} (hmet : s.cache.fences.any (fenceMet s) = true) (hblocks : s.ingest.blocks = b :: rest)
    (hstopped : skiverStopped s = true) (hchecked : b.phase = .checked) (hholds : absHolds s = false)
    (hcheck : transportOk b.seq b.bytes = true) (hreads : DramReads s) (hvalid : s.ecc.invalid = []) :
    ∃ v, granuleReturn s = ingestPump (commitBlock b v) ∧ StreamOnly streamRegs s v ∧ v.ingest = s.ingest ∧ v.cache = (returnGranules s).cache ∧
      skiverStopped v = true := by
  obtain ⟨⟨hflow, -, -, hregs, -⟩, hwork, hingest, -, hecc, -⟩ := returnGranules_returns s
  have hreads' : DramReads (returnGranules s) := by
    obtain ⟨hdouble, hpoison, hfence, hmode⟩ := hreads
    exact ⟨by rw [hecc, hdouble], by rw [hecc, hpoison], by rw [hregs _ (by decide), hfence], by rw [hflow]; exact hmode⟩
  have heq := granuleReturn_retries hmet hblocks hstopped hchecked hholds
  rw [retryStopped, ringRead_reads hreads' (by rw [hecc, hvalid]) hcheck] at heq
  have hread := accessed_readParts (port := Port.cellRead) (by decide) (stagingParts b.ringAt b.bytes.length) (returnGranules s)
  refine ⟨_, heq, hwork.trans hread.streamOnly, by rw [hread.only.rest]; exact hingest, by rw [hread.only.rest], ?_⟩
  rw [skiverStopped, hread.fget (f := Reg.SKV_STATUS_STATE) (by decide) (by decide)]
  exact (returnGranules_skiver s).1.trans hstopped

/-! ## The obligation -/

theorem blockCommit_commits {s : State} {b : Blk} {rest : List Blk} (hblocks : s.ingest.blocks = b :: rest) (hchecked : b.phase = .checked)
    (hon : skiverOn s = true) (hruns : skiverStopped s = false) (hholds : absHolds s = false) : blockCommit s = ingestPump (commitBlock b s) := by
  unfold blockCommit commitPoint
  rw [hblocks]
  exact if_pos ⟨hchecked, hon, by simp [hruns], by simp [hholds]⟩

theorem blockCommit_idle {s : State} (h : skiverOn s = false ∨ skiverStopped s = true ∨ absHolds s = true ∨ ∀ b, s.ingest.blocks.head? = some b → b.phase ≠ .checked) :
    blockCommit s = s := by
  unfold blockCommit commitPoint
  split
  · next b hb =>
    refine if_neg ?_
    rintro ⟨hp, hon, hs, ha⟩
    rcases h with h | h | h | h
    · simp [h] at hon
    · simp [h] at hs
    · simp [h] at ha
    · exact h b hb hp
  · rfl

/-- Settles O50: a commit works on the stream's own records alone; the pump after it finds a settled rest; and what the granules leave is the same
before and after the block has been read again. -/
theorem blocksCommit : Obligations.BlocksCommit := by
  unfold Obligations.BlocksCommit
  intro s
  refine ⟨fun b rest hblocks hall hrest hchecked hon hholds => ?_, fun h => ⟨_, rfl, blockCommit_idle h⟩, fun h => ⟨_, rfl, if_pos (by simp [h])⟩, fun hmet hidle => ?_⟩
  · obtain ⟨hnodup, hall, -⟩ := hall
    obtain ⟨-, hheld, hhead⟩ := hrest
    have hothers : b.seq ∉ rest.map (·.seq) := (List.nodup_cons.1 hnodup).1
    refine ⟨fun hruns => ?_, fun hstopped hmet hreadings hbad =>
      granuleReturn_refetches hmet hblocks hothers hheld hchecked hstopped hholds hreadings hbad, fun hstopped hmet hcheck hreads hvalid cells hkind hresolve => ?_⟩
    · have heq : exec .blockCommit s = .next (ingestPump (commitBlock b s)) := congrArg Host.Outcome.next (blockCommit_commits hblocks hchecked hon hruns hholds)
      refine ⟨fun hkind => ⟨_, heq, commitDensity_commits hothers hheld hhead hblocks hkind⟩, fun cells hkind hresolve => ⟨fun hroom => ?_, fun hfull => ?_⟩,
        fun cause off hkind hresolve => ⟨_, heq, commitCells_fails hothers hheld hhead hblocks hkind hresolve⟩, fun hkind hplaced => ⟨fun hbad hmap => ?_,
          fun e hbad hfirst he hmap => ⟨_, heq, commitGeometry_mapFails hothers hheld hhead hblocks hkind hplaced hbad hfirst he hmap⟩,
          fun cause off hbad => ⟨_, heq, commitGeometry_fails hothers hheld hhead hblocks hkind hbad⟩⟩⟩
      · obtain ⟨hgone, hplainly, hcache, hfree, -⟩ := commitCells_stores hothers hheld hhead hblocks hkind hresolve hroom
        exact ⟨_, heq, hgone, hplainly, hcache, hfree⟩
      · obtain ⟨hingest, hcache, hstop, hseq, hstored, hraised, -, hevents, hflow, hjob, hdram⟩ := commitCells_stops hblocks hall hchecked hkind hresolve hfull
        exact ⟨_, heq, hingest, hcache, hstop, hseq, hstored, hraised hruns, hevents, hflow, hjob, hdram⟩
      · obtain ⟨hgone, hplainly, hcache, hdata, hgeoms⟩ := commitGeometry_joins hothers hheld hhead hblocks hkind hplaced hbad hmap
        exact ⟨_, heq, hgone, hplainly, hcache, hdata, hgeoms⟩
    · obtain ⟨v, heq, hwork, hingest, hcache, hstop⟩ := granuleReturn_commits hmet hblocks hstopped hchecked hholds hcheck hreads hvalid
      have hvblocks : v.ingest.blocks = b :: rest := by rw [hingest, hblocks]
      have hvresolve : resolveDrafts v (draftsOf b.records none) = .ok cells := (resolveDrafts_congr hcache _).trans hresolve
      obtain ⟨hfullSame, -, hcacheSame⟩ := storeCells_congr hcache cells 0 0
      refine ⟨fun hroom => ?_, fun hfull => ?_⟩
      · obtain ⟨hgone, ⟨hflow, hevents⟩, hcacheLeft, -, hruns⟩ := commitCells_stores hothers hheld hhead hvblocks hkind hvresolve (hfullSame.trans hroom)
        exact ⟨_, congrArg Host.Outcome.next heq, hgone.from hwork.job (by rw [hwork.rest]),
          ⟨hflow.trans hwork.flow, hwork.plainly.2.trans hevents⟩, hcacheLeft.trans hcacheSame, hruns⟩
      · obtain ⟨hkept, hcacheLeft, hstopped', -, -, -, hsilent, -, hflow, hjob, hdram⟩ :=
          commitCells_stops hvblocks hall hchecked hkind hvresolve (hfullSame.trans hfull)
        exact ⟨_, congrArg Host.Outcome.next heq, hkept.trans hingest, hcacheLeft.trans hcache, hstopped',
          ⟨hflow.trans hwork.flow, hwork.plainly.2.trans ((hsilent hstop).mono (List.subset_cons_self _ _))⟩, hjob.trans hwork.job,
          fun a => (hdram a).trans (hwork.dramKept a)⟩
  · obtain ⟨hquiet, -, -, -, -, hfences, hdir, hcells, hfree⟩ := returnGranules_returns s
    exact ⟨_, congrArg Host.Outcome.next (granuleReturn_returns hmet hidle), hfences, hdir, hcells, hfree, hquiet⟩

end Sys2Proof.Machine
end

section
/-!
PROOFS. O49 fails where two blocks in hand have one SEQ: each reserves what it needs itself in the geometry queue as a decode starts (R118), and not what
the block of the decode needs.
-/

namespace Sys2Proof.Machine

/-- A block of SEQ 0 that is ready to be decoded. -/
def readyBlock (kind dlen : Nat) : Blk :=
  { Blk.fresh 0 0 0 0 [] with phase := .ready, hdr := { headerOf [] with kind := kind, clen := dlen, dlen := dlen } }

/-- Ready with a job, RAST powered, and a CELLS block and a STRIPE_GEOMETRY block of one SEQ in hand. -/
def sharedSeq : State :=
  fput Reg.PWR_STATUS_DOMAINS 16 { State.reset with
    job := some emptyJob, flow := { State.reset.flow with mode := .ready }
    ingest := { State.reset.ingest with blocks := [readyBlock 1 0, readyBlock 3 1024] } }

/-- As the decode of the CELLS block starts, the geometry block reserves a KiB of the queue. -/
theorem decodeStart_reserves_both : (decodeStart 0 sharedSeq).ingest.blocks.map (·.queueKib) = [0, 1] := by decide +kernel

/-- Refutes O49: a decode that starts leaves another block of its SEQ with a reservation that is not the decoded block's. -/
theorem not_blocksLandAndDecode : ¬ Obligations.BlocksLandAndDecode := by
  intro ⟨_, hdecode⟩
  obtain ⟨hstarts, _⟩ := (hdecode sharedSeq).1 (by decide)
  obtain ⟨_, hguard, _⟩ := hstarts (readyBlock 1 0) (by decide) (by decide)
  obtain ⟨t, hexec, hchanged, _⟩ := (hguard (.inr (by decide))).2 (by decide)
  have ht : decodeStart 0 sharedSeq = t := Host.Outcome.next.inj hexec
  have hreserved : t.ingest.blocks.map (·.queueKib) = [0, 0] := by
    rw [hchanged]
    rfl
  rw [← ht, decodeStart_reserves_both] at hreserved
  exact absurd hreserved (by decide)

end Sys2Proof.Machine
end

section
/-!
PROOFS. O36 fails where Rest entry begins with a stalled write to PWR_REST_STATUS among the staging writes: the apply that stage 1 carries out writes it
after the register has been cleared.
-/

namespace Sys2Proof.Machine

theorem restStatus_stopChan {n : Nat} (hn : n < 6) (s : State) : rget (stopChan n s) Reg.PWR_REST_STATUS = rget s Reg.PWR_REST_STATUS := by
  have hother : Reg.PWR_REST_STATUS ∉ [Reg.MOT_CH_STATUS n] := by
    simp only [Reg.PWR_REST_STATUS, Reg.MOT_CH_STATUS, List.mem_singleton]
    omega
  have hcancel : rget (cancelCommit n s) Reg.PWR_REST_STATUS = rget s Reg.PWR_REST_STATUS :=
    ((regsKept_fput (f := Reg.MOT_CH_STATUS_PLANNED n) (List.mem_singleton_self _) 0 s).trans
      (regsKept_fput (f := Reg.MOT_CH_STATUS_PENDING n) (List.mem_singleton_self _) 0 _)) _ hother
  unfold stopChan
  dsimp only
  split
  · split
    · exact (regsKept_fput (f := Reg.MOT_CH_STATUS_STATE n) (List.mem_singleton_self _) _ (updChan n _ _) _ hother).trans hcancel
    · exact hcancel
  · exact hcancel

theorem restStatus_stopChans (ns : List Nat) (h : ∀ n ∈ ns, n < 6) (s : State) :
    rget (ns.foldl (fun s n => stopChan n s) s) Reg.PWR_REST_STATUS = rget s Reg.PWR_REST_STATUS := by
  induction ns generalizing s with
  | nil => rfl
  | cons n ns ih => exact (ih (fun m hm => h m (List.mem_cons_of_mem n hm)) _).trans (restStatus_stopChan (h n List.mem_cons_self) s)

theorem restStatus_stopMotion (s : State) : rget (stopMotion s) Reg.PWR_REST_STATUS = rget s Reg.PWR_REST_STATUS := by
  have hregs : (stopMotion s).regs = ((List.range 6).foldl (fun s n => stopChan n s) s).regs := by
    unfold stopMotion
    generalize (List.range 6).foldl (fun s n => stopChan n s) s = t
    rfl
  exact (rget_regs_congr hregs _).trans (restStatus_stopChans _ (fun n hn => List.mem_range.1 hn) s)

theorem restStatus_abandonDecodes (s : State) : rget (abandonDecodes s) Reg.PWR_REST_STATUS = rget s Reg.PWR_REST_STATUS :=
  (streamOnly_skiverSync _).regs _ (by decide) (by decide) (by simp [workRegs, rasterRegs])

/-- Ready with Rest entry due, an apply of no entries in force and a write to PWR_REST_STATUS among the stalled ones. -/
def stalledRestStatus : State :=
  { State.reset with
    flow := { State.reset.flow with mode := .ready, boot := .over }
    beams := { State.reset.beams with applyCmd := some (0, none), stalled := [(Reg.PWR_REST_STATUS, 5)] }
    pwr := { State.reset.pwr with rest := { State.reset.pwr.rest with due := some .ready } } }

/-- Stage 1 has begun, and its checks are stopped. -/
def checksStopped (m : Mode) (s : State) : State :=
  stopChecks (rset Reg.PWR_REST_STATUS 0 (updRest (fun r => { r with stage := 1, entry := m }) (updRest (fun r => { r with due := none }) s)))

theorem restStarts_stops {s : State} {m : Mode} (hdue : s.pwr.rest.due = some m) (hmode : s.flow.mode = m) (hmay : restAllowed s = true)
    (hfree : transitioning s = false) : restStarts s = stopMotion (abandonDecodes (applyAll (checksStopped m s))) := by
  have hmay' : restAllowed (updRest (fun r => { r with due := none }) s) = true := hmay
  have hfree' : transitioning (updRest (fun r => { r with due := none }) s) = false := hfree
  have hmode' : (updRest (fun r => { r with due := none }) s).flow.mode = m := hmode
  unfold restStarts
  rw [hdue]
  dsimp only
  rw [if_neg (by simp only [hmay', hfree', hmode']; simp)]
  rfl

theorem stopChecks_beams {s : State} (hrun : s.health.run = none) (hlocate : s.mot.locate = false) (hstarts : s.health.starts = []) :
    (stopChecks s).beams = s.beams := by
  have hend : dropLocate (endCheckRun s) = s := by
    rw [show endCheckRun s = s from if_neg (by simp [hrun])]
    exact if_neg (by simp [hlocate])
  have hdrop : (dropStarts s).beams = s.beams := by
    rw [dropStarts, hstarts]
    rfl
  unfold stopChecks
  rw [hend]
  dsimp only
  generalize dropStarts s = u at *
  unfold raiseIf
  split
  · exact hdrop
  · exact hdrop

/-- With one write stalled behind an apply of no entries, the writes that firmware's applies let through end with it. -/
theorem applyAll_drains {s : State} {k : Nat} {v : Word} (happly : s.beams.applyCmd = some (0, none)) (hstalled : s.beams.stalled = [(k, v)])
    (hqueue : s.beams.queue = []) (hk : k ≠ Reg.GTH_BT_CMD) : ∃ u, applyAll s = rset k v u := by
  obtain ⟨u, hdrain, -, hidle⟩ := beamApply_drains (bell := none) happly hstalled hqueue hk
  refine ⟨u, ?_⟩
  rw [applyAll, hstalled, hqueue, List.length_nil, List.length_singleton, applyWaiting, happly]
  refine (if_pos rfl).trans ?_
  rw [hdrain, applyWaiting]
  exact if_neg (by simp [rset, hidle])

/-- PWR_REST_STATUS holds what the stalled write had. -/
theorem restStarts_writes_stalled : rget (restStarts stalledRestStatus) Reg.PWR_REST_STATUS = 5 := by
  have hbeams : (checksStopped .ready stalledRestStatus).beams = stalledRestStatus.beams := stopChecks_beams rfl rfl rfl
  obtain ⟨u, hdrain⟩ := applyAll_drains (s := checksStopped .ready stalledRestStatus) (k := Reg.PWR_REST_STATUS) (v := 5)
    (by rw [hbeams]; rfl) (by rw [hbeams]; rfl) (by rw [hbeams]; rfl) (by decide)
  rw [restStarts_stops (m := .ready) rfl rfl (by decide) (by decide), restStatus_stopMotion, restStatus_abandonDecodes, hdrain, rget_rset_same]

set_option Elab.async false in
/-- Refutes O36: PWR_REST_STATUS may read what a stalled write holds instead of zero as stage 1 begins. -/
theorem not_restIsEnteredAndLeft : ¬ Obligations.RestIsEnteredAndLeft := by
  intro ⟨hentry, _⟩
  obtain ⟨hstarts, _⟩ := hentry stalledRestStatus rfl rfl
  obtain ⟨t, hexec, _, _, _, hzero, _⟩ := hstarts rfl (by decide) (by decide)
  have ht : restStarts stalledRestStatus = t := Host.Outcome.next.inj hexec
  rw [← ht, restStarts_writes_stalled] at hzero
  exact absurd hzero (by decide)

end Sys2Proof.Machine
end

section
/-!
PROOFS. Beams applied and judged, and the shots of a check run: what each leaves of the state.
-/

namespace Sys2Proof.Machine

/-! ## Applies -/

/-- Entries of the Beam Table are applied: nothing moves beside the registers, the events, the mailboxes, the table, the memories and the cause that
a stuck-open beam keeps. -/
structure Applying (s t : State) : Prop where
  rest : t = { s with regs := t.regs, ev := t.ev, flow := t.flow, mail := t.mail, beams := t.beams, hbm := t.hbm, ecc := t.ecc, free := t.free }
  flow : hasCause s 1 = false ∨ s.health.darkPassed = false → t.flow = s.flow
  events : EventsStand s t

theorem Applying.refl (s : State) : Applying s s := ⟨rfl, fun _ => rfl, fun _ h => h⟩

theorem Applying.health {s t : State} (h : Applying s t) : t.health = s.health := by rw [h.rest]

theorem Applying.trans {s t u : State} (h : Applying s t) (h' : Applying t u) : Applying s u :=
  ⟨by rw [h'.rest, h.rest], fun hc => by
    have hflow := h.flow hc
    exact (h'.flow (hc.imp (fun h1 => (hasCause_congr (by rw [hflow]) 1).trans h1) fun hd => by rw [h.health, hd])).trans hflow,
    h.events.trans h'.events⟩

theorem applying_foldl {β : Type} {g : State → β → State} (h : ∀ s x, Applying s (g s x)) (l : List β) (s : State) : Applying s (l.foldl g s) := by
  induction l generalizing s with
  | nil => exact .refl s
  | cons x l ih => exact (h s x).trans (ih _)

theorem MemoryOnly.applying {s t : State} (h : MemoryOnly s t) : Applying s t := ⟨by rw [h.rest], fun _ => by rw [h.rest], h.events⟩

theorem applying_regs (s : State) (regs : List (Nat × Word)) : Applying s { s with regs := regs } := ⟨rfl, fun _ => rfl, fun _ h => h⟩

theorem applying_fput (f : Field) (v : Nat) (s : State) : Applying s (fput f v s) := applying_regs s _

theorem applying_beams (s : State) (b : Beams) : Applying s { s with beams := b } := ⟨rfl, fun _ => rfl, fun _ h => h⟩

theorem applying_complete (n : Fin 16) (st : Status) (bs : List Byte) (s : State) : Applying s (complete n st bs s) := by
  unfold complete freeCurrent fputBit
  split
  · exact ⟨rfl, fun _ => rfl, fun _ h => h⟩
  · split <;> split <;> exact ⟨rfl, fun _ => rfl, fun _ h => h⟩

theorem applying_completeOpt (n : Option (Fin 16)) (st : Status) (bs : List Byte) (s : State) : Applying s (completeOpt n st bs s) := by
  cases n with
  | none => exact .refl s
  | some n => exact applying_complete n st bs s

theorem applying_stuckRelease (s : State) : Applying s (stuckRelease s) := by
  unfold stuckRelease
  split
  · next h =>
    rw [Bool.and_eq_true, Bool.and_eq_true] at h
    refine ⟨rfl, fun hc => ?_, fun _ h => h⟩
    rcases hc with hc | hc
    · exact absurd (h.1.1.symm.trans hc) nofun
    · exact absurd (h.1.2.symm.trans hc) nofun
  · exact .refl s

theorem applying_changeEntry (first b : Nat) (e : DWord) (s : State) : Applying s (changeEntry first b e s) := by
  unfold changeEntry
  dsimp only
  split
  · exact (memoryOnly_writeSram _ _ s).applying
  · exact (memoryOnly_writeSram _ _ s).applying.trans (applying_beams _ _)

theorem applying_applyEntries (bell : Option Int) (cset : Nat) (sum : Word) (es : List (Nat × DWord)) (s : State) :
    Applying s (applyEntries bell cset sum es s) := by
  have hcounts : ∀ u, Applying u (beamCounts u) := fun u => (applying_fput _ _ u).trans (applying_fput _ _ _)
  have hsummary : ∀ u, Applying u (writeSummary cset sum u) := fun u => (applying_beams u _).trans (memoryOnly_writeSram _ _ _).applying
  have hclose : ∀ n u, Applying u (closeHistory n u) := fun n u => applying_beams u _
  have hchange := applying_foldl (g := fun s (p : Nat × DWord) => changeEntry (firstShotOf bell) p.1 p.2 s) (fun s p => applying_changeEntry _ _ _ s) es s
  exact ((((hchange.trans (applying_beams _ _)).trans (hsummary _)).trans (hclose _ _)).trans (hcounts _)).trans (applying_stuckRelease _)

theorem applying_applyCommand (w : Word) (slot : Option (Fin 16)) (s : State) : Applying s (applyCommand w slot s) := by
  unfold applyCommand
  split
  · exact (applying_beams s _).trans (applying_fput _ _ _)
  · exact .refl s

theorem applying_stagingWrite (k : Nat) (v : Word) (s : State) : Applying s (stagingWrite k v s) := by
  unfold stagingWrite
  split
  · exact applying_beams s _
  · split
    · exact applying_applyCommand v none s
    · exact applying_regs s _

theorem applying_drainStalled (n : Nat) (s : State) : Applying s (drainStalled n s) := by
  induction n generalizing s with
  | zero => exact .refl s
  | succ n ih =>
    unfold drainStalled
    split
    · exact .refl s
    · next k v rest _ =>
      split
      · exact .refl s
      · exact ((applying_beams s _).trans (applying_stagingWrite k v _)).trans (ih _)

theorem applying_stageNext (s : State) : Applying s (stageNext s) := by
  unfold stageNext
  split
  · exact .refl s
  · split
    · exact .refl s
    · dsimp only
      refine (((applying_beams s _).trans (applying_foldl ?_ _ _)).trans (applying_regs _ _)).trans (applying_applyCommand _ _ _)
      exact fun u p => applying_regs u _

theorem applying_beamApply (bell : Option Int) (s : State) : Applying s (beamApply bell s) := by
  unfold beamApply
  split
  · exact .refl s
  · next w slot _ =>
    dsimp only
    exact (((((applying_applyEntries _ _ _ _ s).trans (applying_beams _ _)).trans (applying_fput _ _ _)).trans (applying_completeOpt _ _ _ _)).trans
      (applying_drainStalled _ _)).trans (applying_stageNext _)

theorem applying_applyWaiting (n : Nat) (s : State) : Applying s (applyWaiting n s) := by
  induction n generalizing s with
  | zero => exact .refl s
  | succ n ih =>
    unfold applyWaiting
    split
    · exact (applying_beamApply none s).trans (ih _)
    · exact .refl s

theorem applying_queueApply (cset : Nat) (es : List (Nat × DWord)) (slot : Option (Fin 16)) (s : State) : Applying s (queueApply cset es slot s) :=
  (applying_beams s _).trans (applying_stageNext _)

theorem applying_serviceApplies (s : State) : Applying s (serviceApplies s) := by
  unfold serviceApplies applyAll
  split
  · exact applying_applyWaiting _ s
  · exact .refl s

/-- Outside Service, and where no apply waits, nothing is applied at once. -/
theorem serviceApplies_idle {s : State} (h : s.flow.mode ≠ .service ∨ (s.beams.applyCmd = none ∧ s.beams.queue = [])) : serviceApplies s = s := by
  unfold serviceApplies
  split
  · next hmode =>
    obtain ⟨hidle, -⟩ := h.resolve_left (fun hn => hn hmode)
    rw [applyAll, applyWaiting, hidle]
    rfl
  · rfl

theorem applying_retireBeam (b : Nat) (s : State) : Applying s (retireBeam b s) := by
  have hraise : ∀ n u, Applying u (raise n u) := fun n u => (memoryOnly_raise n u).applying
  unfold retireBeam
  dsimp only
  split
  · exact .refl s
  · exact ((applying_queueApply _ _ _ s).trans (hraise _ _)).trans (memoryOnly_raiseIf _ _ _).applying

/-! ## The shots of a check run -/

/-- A check shot comes to be, and the batch notes what it fires. -/
theorem ensureCheckShot_runs {s : State} {b : Batch} (h : s.health.run = some b) (i : Nat) : ∃ fired shots,
    ensureCheckShot i s = { s with health := { s.health with run := some { b with fired := fired } }, shots := s.shots ++ shots } ∧
    ∀ c, b.content i = some c → ∃ sh ∈ s.shots ++ shots, sh.stripeIdx = checkStripe s ∧ sh.shot = checkShot0 + (b.start + i : Nat) := by
  have hstill : s = { s with health := { s.health with run := some { b with fired := b.fired } }, shots := s.shots ++ [] } := by
    rw [← h, List.append_nil]
  unfold ensureCheckShot
  rw [h]
  dsimp only
  split
  · next hnone => exact ⟨b.fired, [], hstill, fun c hc => nomatch hnone.symm.trans hc⟩
  · next c hc =>
    split
    · next hany =>
      refine ⟨b.fired, [], hstill, fun _ _ => ?_⟩
      obtain ⟨sh, hmem, heq⟩ := List.any_eq_true.1 hany
      rw [Bool.and_eq_true, beq_iff_eq, beq_iff_eq] at heq
      exact ⟨sh, by rwa [List.append_nil], heq.1, heq.2⟩
    · refine ⟨b.fired ++ ((checkShot s b i c).counts.map fun p => ((i : Int), groupOf (laneOf p.1))).eraseDups, [checkShot s b i c], ?_, fun _ _ => ⟨checkShot s b i c, by simp, rfl, rfl⟩⟩
      unfold updBatch
      rw [h]
      rfl

/-! ## Beams judged -/

/-- The beams of a batch are judged: beside the applies, the batch alone moves, and keeps its course. -/
structure BeamsJudged (s t : State) : Prop where
  rest : t = { s with regs := t.regs, ev := t.ev, flow := t.flow, mail := t.mail, beams := t.beams, hbm := t.hbm, ecc := t.ecc, free := t.free,
                      health := { s.health with run := t.health.run } }
  run : ∀ b, s.health.run = some b → ∃ b', t.health.run = some b' ∧ b'.step = b.step ∧ b'.i = b.i ∧ b'.stage = b.stage ∧ b'.plan = b.plan

theorem BeamsJudged.refl (s : State) : BeamsJudged s s := ⟨rfl, fun b h => ⟨b, h, rfl, rfl, rfl, rfl⟩⟩

theorem BeamsJudged.trans {s t u : State} (h : BeamsJudged s t) (h' : BeamsJudged t u) : BeamsJudged s u :=
  ⟨by rw [h'.rest, h.rest], fun b hb => by
    obtain ⟨c, hc, hstep, hi, hstage, hplan⟩ := h.run b hb
    obtain ⟨d, hd, hstep', hi', hstage', hplan'⟩ := h'.run c hc
    exact ⟨d, hd, hstep'.trans hstep, hi'.trans hi, hstage'.trans hstage, hplan'.trans hplan⟩⟩

theorem Applying.judged {s t : State} (h : Applying s t) : BeamsJudged s t :=
  ⟨by rw [h.rest], fun b hb => ⟨b, by rw [h.health]; exact hb, rfl, rfl, rfl, rfl⟩⟩

theorem beamsJudged_updBatch {f : Batch → Batch} (hf : ∀ b, (f b).step = b.step ∧ (f b).i = b.i ∧ (f b).stage = b.stage ∧ (f b).plan = b.plan) (s : State) :
    BeamsJudged s (updBatch f s) := ⟨rfl, fun b hb => ⟨f b, congrArg (Option.map f) hb, hf b⟩⟩

theorem beamsJudged_judgeBeam (b : Batch) (k : Nat) (s : State) : BeamsJudged s (judgeBeam b k s) := by
  unfold judgeBeam
  split
  · exact .refl s
  · next x _ =>
    have hnoted : BeamsJudged s (updBatch (fun b => { b with judged := k :: b.judged }) s) := by
      refine beamsJudged_updBatch ?_ s
      exact fun _ => ⟨rfl, rfl, rfl, rfl⟩
    dsimp only
    split
    · refine hnoted.trans (beamsJudged_updBatch ?_ _)
      exact fun _ => ⟨rfl, rfl, rfl, rfl⟩
    · exact hnoted.trans (applying_retireBeam x _).judged
    · split
      · exact hnoted.trans (applying_queueApply _ _ _ _).judged
      · exact hnoted

theorem beamsJudged_judgeBeams (all : Bool) (s : State) : BeamsJudged s (judgeBeams all s) := by
  have hjudge : ∀ k u, BeamsJudged u (judgeIf all k u) := fun k u => by
    unfold judgeIf
    split
    · split
      · exact beamsJudged_judgeBeam _ k u
      · exact .refl u
    · exact .refl u
  have hfold : ∀ (ks : List Nat) (u : State), BeamsJudged u (ks.foldl (fun s k => judgeIf all k s) u) := fun ks => by
    induction ks with
    | nil => exact fun u => .refl u
    | cons k ks ih => exact fun u => (hjudge k u).trans (ih _)
  unfold judgeBeams
  split
  · split
    · exact .refl s
    · exact hfold _ s
  · exact .refl s

/-- Beams are judged in a CAL batch only. -/
theorem judgeBeams_other {all : Bool} {s : State} {b : Batch} (h : s.health.run = some b) (hstep : b.step ≠ .cal) : judgeBeams all s = s := by
  unfold judgeBeams
  rw [h]
  exact if_pos hstep


end Sys2Proof.Machine
end

section
/-!
PROOFS. A check run opens, plays its check Bells, and records its windows.
-/

namespace Sys2Proof.Machine

/-! ## The opening -/

/-- The three fields of the cursor as they are put. -/
theorem calCursor_put (n : Nat) (s : State) : let v := fput Reg.BHM_CAL_CURSOR_BEAM 0 (fput Reg.BHM_CAL_CURSOR_PASSES n s); let t := fput Reg.BHM_CAL_CURSOR_ACTIVE 0 v
    fbit t Reg.BHM_CAL_CURSOR_ACTIVE = false ∧ fget t Reg.BHM_CAL_CURSOR_BEAM = 0 ∧ RegsKept [Reg.BHM_CAL_CURSOR] s t ∧
    t.ev = s.ev ∧ t.flow = s.flow ∧ t.job = s.job ∧ t.dram = s.dram := by
  have hput : ∀ (f : Field) (k : Nat) (w : State), f.reg = Reg.BHM_CAL_CURSOR → RegsKept [Reg.BHM_CAL_CURSOR] w (fput f k w) := fun f k w hf =>
    regsKept_fput (f := f) (by simp [hf]) k w
  intro v t
  have hkept : RegsKept [Reg.BHM_CAL_CURSOR] s t := ((hput Reg.BHM_CAL_CURSOR_PASSES n s rfl).trans
    (hput Reg.BHM_CAL_CURSOR_BEAM 0 _ rfl)).trans (hput Reg.BHM_CAL_CURSOR_ACTIVE 0 v rfl)
  refine ⟨fbit_fput v Reg.BHM_CAL_CURSOR_ACTIVE rfl rfl 0, ?_, hkept, by simp [t, v], by simp [t, v], by simp [t, v], by simp [t, v]⟩
  exact (fget_fput_beside v Reg.BHM_CAL_CURSOR_ACTIVE Reg.BHM_CAL_CURSOR_BEAM rfl 0 (by decide) (by decide)).trans
    (fget_fput_same _ Reg.BHM_CAL_CURSOR_BEAM rfl 0)

/-- Of a calibration at the end of the array: the cursor wraps. -/
theorem calWrap_wraps (s : State) : let t := calWrap s
    fbit t Reg.BHM_CAL_CURSOR_ACTIVE = false ∧ fget t Reg.BHM_CAL_CURSOR_BEAM = 0 ∧ t.ev = (raise Ev.CAL_DONE s).ev ∧ t.flow = s.flow ∧ t.job = s.job ∧
    DramKept s t ∧ RegsKept [Reg.BHM_CAL_CURSOR] s t := by
  unfold calWrap
  have h := calCursor_put (fget s Reg.BHM_CAL_CURSOR_PASSES + 1) s
  dsimp only at h ⊢
  generalize fput Reg.BHM_CAL_CURSOR_ACTIVE 0 _ = v at h ⊢
  obtain ⟨hshown, hbeam, hregs, hev, hflow, hjob, hdram⟩ := h
  have hraised : (raise Ev.CAL_DONE v).regs = v.regs := raise_regs _ v
  have hget : RegsKept [] v (raise Ev.CAL_DONE v) := fun k _ => rget_regs_congr hraised k
  exact ⟨(hget.fbit (f := Reg.BHM_CAL_CURSOR_ACTIVE) nofun).trans hshown, (hget.fget (f := Reg.BHM_CAL_CURSOR_BEAM) nofun).trans hbeam,
    raise_ev_congr _ hev, by simp [hflow], by simp [hjob], dramKept_of_eq (by simp [hdram]), hregs.trans (hget.mono nofun)⟩

/-- Commands complete, each in its slot. -/
theorem completes_all (l : List (CheckStep × Fin 16)) (s : State) : let t := l.foldl (fun s p => complete p.2 .ok [] s) s
    Applying s t ∧ RegsKept [Reg.MBX_STATE] s t ∧
    (s.mail.orphan = false → ∀ n, (slotOf s n).status = Status.ok.code ∨ n ∈ l.map (·.2) → (slotOf t n).status = Status.ok.code) := by
  induction l generalizing s with
  | nil => exact ⟨.refl s, fun _ _ => rfl, fun _ n h => h.elim id nofun⟩
  | cons p l ih =>
    obtain ⟨happly, hregs, hstatus⟩ := ih (complete p.2 .ok [] s)
    refine ⟨(applying_complete _ _ _ s).trans happly, (regsKept_complete _ _ _ s).trans hregs, fun horphan n hn => ?_⟩
    refine hstatus ((completing_complete p.2 .ok [] s).orphan horphan) n ?_
    rw [slotOf_complete _ _ _ _ horphan]
    split
    · exact .inl rfl
    · next hne => exact hn.imp id fun hmem => (List.mem_cons.1 hmem).resolve_left hne

theorem startsDone_completes (c : CheckStep) (s : State) : let t := startsDone c s
    t.health = { s.health with starts := s.health.starts.filter (·.1 != c) } ∧ RegsKept [Reg.MBX_STATE] s t ∧
    ∀ p ∈ s.health.starts, p.1 = c → (slotOf t p.2).status = Status.ok.code ∨ s.mail.orphan = true := by
  let u : State := { s with health := { s.health with starts := s.health.starts.filter (·.1 != c) } }
  obtain ⟨happly, hregs, hstatus⟩ := completes_all (s.health.starts.filter (·.1 == c)) u
  refine ⟨happly.health, hregs, fun p hp hc => ?_⟩
  cases horphan : s.mail.orphan with
  | true => exact .inr rfl
  | false => exact .inl (hstatus horphan p.2 (.inr (List.mem_map_of_mem (List.mem_filter.2 ⟨hp, beq_iff_eq.2 hc⟩))))

theorem setVote_casts (d c : Nat) (s : State) : ∃ p, setVote d c true s = { fputBit (Reg.PWR_VOTE_VOTES d) c true s with pwr := p } := by
  unfold setVote
  rw [if_pos rfl, raiseDomain_eq]
  split
  · exact ⟨_, rfl⟩
  · rw [voteAnew_eq]
    exact ⟨_, rfl⟩

/-- A check run casts its votes for GATH and OUT. -/
def checkVotes (s : State) : State := setVotes [Dom.GATH, Dom.OUT] Client.cal true s

theorem checkVotes_cast (s : State) : let u := checkVotes s
    RegsAndPwr s u ∧ RegsKept [Reg.PWR_VOTE Dom.GATH, Reg.PWR_VOTE Dom.OUT] s u ∧ (votes u Dom.GATH).testBit Client.cal = true ∧
    (votes u Dom.OUT).testBit Client.cal = true := by
  obtain ⟨p, hp⟩ := setVote_casts Dom.GATH Client.cal s
  obtain ⟨q, hq⟩ := setVote_casts Dom.OUT Client.cal (setVote Dom.GATH Client.cal true s)
  have heq : checkVotes s = setVote Dom.OUT Client.cal true (setVote Dom.GATH Client.cal true s) := rfl
  have hfirst : ∀ v : State, RegsKept [Reg.PWR_VOTE Dom.GATH, Reg.PWR_VOTE Dom.OUT] v (fputBit (Reg.PWR_VOTE_VOTES Dom.GATH) Client.cal true v) := fun v k hk =>
    rget_fputBit v _ _ _ k fun h => hk (by rw [h]; exact List.mem_cons_self)
  have hsecond : ∀ v : State, ∀ k, k ≠ Reg.PWR_VOTE Dom.OUT → rget (fputBit (Reg.PWR_VOTE_VOTES Dom.OUT) Client.cal true v) k = rget v k := fun v k hk =>
    rget_fputBit v _ _ _ k hk
  have hgath : (votes (setVote Dom.GATH Client.cal true s) Dom.GATH).testBit Client.cal = true := by
    rw [hp]
    exact (votes_fputBit_same s Dom.GATH (c := Client.cal) (by decide) true).trans (if_pos rfl)
  dsimp only
  rw [heq]
  refine ⟨?_, fun k hk => ?_, ?_, ?_⟩
  · refine RegsAndPwr.trans (t := setVote Dom.GATH Client.cal true s) ?_ ?_
    · rw [hp]
      exact (regsAndPwr_fputBit _ _ _ s).trans rfl
    · rw [hq]
      exact (regsAndPwr_fputBit _ _ _ _).trans rfl
  · rw [hq]
    refine (hsecond _ k fun h => hk (by rw [h]; simp)).trans ?_
    rw [hp]
    exact hfirst s k hk
  · rw [hq]
    refine Eq.trans (congrArg (fun n : Nat => n.testBit Client.cal) ?_) hgath
    exact votes_congr (hsecond _ _ (by decide))
  · rw [hq]
    exact (votes_fputBit_same _ Dom.OUT (c := Client.cal) (by decide) true).trans (if_pos rfl)

section
variable {s : State} {b : Batch}

/-- A run whose domains are up begins. -/
theorem openRun_begins (hgath : powered s Dom.GATH = true) (hout : powered s Dom.OUT = true) :
    openRun b s = startsDone b.step (beginBatch b (if s.flow.mode = .service then exposeOn (checkVotes s) else checkVotes s)) := by
  obtain ⟨hrest, hregs, -, -⟩ := checkVotes_cast s
  have hon : ∀ d, powered (checkVotes s) d = powered s d := fun d => by
    rw [powered, fbitAt, fget_congr (f := Reg.PWR_STATUS_DOMAINS) (hregs _ (by decide)), powered, fbitAt]
  have hmode : (checkVotes s).flow.mode = s.flow.mode := by rw [hrest.keeps.2.1]
  have heq : openRun b s = if powered (checkVotes s) Dom.GATH && powered (checkVotes s) Dom.OUT then
      startsDone b.step (beginBatch b (if (checkVotes s).flow.mode = .service then exposeOn (checkVotes s) else checkVotes s)) else checkVotes s := rfl
  rw [heq, hon, hon, hgath, hout, hmode]
  rfl

theorem openRun_waits (hoff : powered s Dom.GATH = false ∨ powered s Dom.OUT = false) : openRun b s = checkVotes s := by
  obtain ⟨-, hregs, -, -⟩ := checkVotes_cast s
  have hon : ∀ d, powered (checkVotes s) d = powered s d := fun d => by
    rw [powered, fbitAt, fget_congr (f := Reg.PWR_STATUS_DOMAINS) (hregs _ (by decide)), powered, fbitAt]
  have heq : openRun b s = if powered (checkVotes s) Dom.GATH && powered (checkVotes s) Dom.OUT then
      startsDone b.step (beginBatch b (if (checkVotes s).flow.mode = .service then exposeOn (checkVotes s) else checkVotes s)) else checkVotes s := rfl
  rw [heq, hon, hon]
  refine if_neg ?_
  rcases hoff with h | h <;> simp [h]

theorem openRun_opens (hblocked : checkBlocked s = false) : let t := openRun b s
    (votes t Dom.GATH).testBit Client.cal = true ∧ (votes t Dom.OUT).testBit Client.cal = true ∧
    (powered s Dom.GATH = true ∧ powered s Dom.OUT = true →
      t.health = { s.health with run := some b, serial := s.health.serial + 1, windows := [], starts := s.health.starts.filter (·.1 != b.step) } ∧
      (∀ p ∈ s.health.starts, p.1 = b.step → (slotOf t p.2).status = Status.ok.code ∨ s.mail.orphan = true) ∧
      (s.flow.mode = .service → tapHolds s = false → fbit t Reg.OUT_STATUS_EXPOSE_EN = true)) ∧
    (powered s Dom.GATH = false ∨ powered s Dom.OUT = false → t.health = s.health) ∧ t.flow = s.flow ∧ t.ev = s.ev ∧ t.job = s.job ∧ DramKept s t := by
  obtain ⟨hrest, hregs, hgathVote, houtVote⟩ := checkVotes_cast s
  obtain ⟨hmail, hflow, hev, hdram, hjob⟩ := hrest.keeps
  have hhealth : (checkVotes s).health = s.health := by rw [hrest]
  have hmon : (checkVotes s).mon = s.mon := by rw [hrest]
  have hsec : (checkVotes s).sec = s.sec := by rw [hrest]
  by_cases hon : powered s Dom.GATH = true ∧ powered s Dom.OUT = true
  · let w := if s.flow.mode = .service then exposeOn (checkVotes s) else checkVotes s
    have hw : RegsKept [Reg.OUT_STATUS] (checkVotes s) w ∧ w.health = s.health ∧ w.mail = s.mail ∧ w.flow = s.flow ∧ w.ev = s.ev ∧ w.job = s.job ∧ w.dram = s.dram := by
      simp only [w]
      split
      · exact ⟨regsKept_exposeOn _, by simp [exposeOn, apply_ite, hhealth], by simp [hmail], by simp [hflow], by simp [hev], by simp [hjob], by simp [hdram]⟩
      · exact ⟨fun _ _ => rfl, hhealth, hmail, hflow, hev, hjob, hdram⟩
    have heq : openRun b s = startsDone b.step (beginBatch b w) := openRun_begins hon.1 hon.2
    obtain ⟨hwregs, hwhealth, hwmail, hwflow, hwev, hwjob, hwdram⟩ := hw
    have hexpose : s.flow.mode = .service → tapHolds s = false → fbit w Reg.OUT_STATUS_EXPOSE_EN = true := fun hmode htap => by
      have hruns : logicRuns s = false := by
        unfold checkBlocked at hblocked
        simp only [Bool.or_eq_false_iff] at hblocked
        exact hblocked.2
      have hw : w = exposeOn (checkVotes s) := if_pos hmode
      rw [hw, fbit_exposeOn, tapHolds_congr hsec (by rw [hflow]) (hregs _ (by decide)), logicRuns_congr hmon, htap, hruns]
      simp
    clear_value w
    obtain ⟨hstarts, hkept, hstatus⟩ := startsDone_completes b.step (beginBatch b w)
    have hvote : ∀ d, d = Dom.GATH ∨ d = Dom.OUT → votes (startsDone b.step (beginBatch b w)) d = votes (checkVotes s) d := fun d hd => by
      refine votes_congr ((hkept _ ?_).trans (hwregs _ ?_))
      · rcases hd with rfl | rfl <;> decide
      · rcases hd with rfl | rfl <;> decide
    dsimp only
    rw [heq]
    refine ⟨by rw [hvote _ (.inl rfl), hgathVote], by rw [hvote _ (.inr rfl), houtVote], fun _ => ⟨?_, ?_, ?_⟩, fun h => ?_, ?_, ?_, ?_, ?_⟩
    · rw [hstarts]
      show ({ w.health with run := some b, serial := w.health.serial + 1, windows := [], starts := w.health.starts.filter (·.1 != b.step) } : Health) = _
      rw [hwhealth]
    · have hstatus' : ∀ p ∈ w.health.starts, p.1 = b.step → _ ∨ w.mail.orphan = true := hstatus
      rw [hwhealth, hwmail] at hstatus'
      exact hstatus'
    · exact fun hmode htap => ((hkept.fbit (f := Reg.OUT_STATUS_EXPOSE_EN) (by decide)).trans (hexpose hmode htap))
    · rcases h with h | h
      · exact absurd (hon.1.symm.trans h) nofun
      · exact absurd (hon.2.symm.trans h) nofun
    · simp [beginBatch, hwflow]
    · simp [beginBatch, hwev]
    · simp [beginBatch, hwjob]
    · exact dramKept_of_eq (by simp [beginBatch, hwdram])
  · have hoff : powered s Dom.GATH = false ∨ powered s Dom.OUT = false := by
      rw [← Bool.not_eq_true, ← Bool.not_eq_true]
      exact not_and_or.1 hon
    dsimp only
    rw [openRun_waits hoff]
    exact ⟨hgathVote, houtVote, fun h => absurd h hon, fun _ => hhealth, hflow, hev, hjob, dramKept_of_eq hdram⟩

end


end Sys2Proof.Machine
end

section
/-!
PROOFS. A check run opens for the next step, and its check Bells play the batch.
-/

namespace Sys2Proof.Machine

/-! ## The opening of a run -/

/-- No run, no stripe and no source of Table 8-7 stands in the way of a check run. -/
def mayOpenRun (s : State) : Bool :=
  s.health.run.isNone && s.armed.isNone && detectorReady s && !checkBlocked s && (s.flow.mode == .service || betweenStripes s)

/-- The run of step `step`, when its traverse runs and its duration fits. -/
def runStep (slotUs : Nat) (step : CheckStep) (s : State) : State :=
  if step = .cal ∧ (freshBatch s step).plan.isEmpty then calWrap s
  else if !traverseRuns s step then s
  else if s.flow.mode = .service ∨ (freshBatch s step).duration ≤ 10 * slotUs then openRun (freshBatch s step) s
  else s

theorem mayOpenRun_not (s : State) : (s.health.run.isSome || s.armed.isSome || !detectorReady s || checkBlocked s ||
    !(s.flow.mode == .service || betweenStripes s)) = !mayOpenRun s := by
  simp only [mayOpenRun, Bool.not_and, Option.not_isNone, Bool.not_not]

theorem checkRunOpen_of_closed {s : State} (slotUs : Nat) (h : mayOpenRun s = false) : checkRunOpen slotUs s = s :=
  if_pos ((mayOpenRun_not s).trans (by rw [h]; rfl))

theorem checkRunOpen_of_open {s : State} (slotUs : Nat) (h : mayOpenRun s = true) :
    checkRunOpen slotUs s = match nextCheckStep s with | none => s | some step => runStep slotUs step s := by
  refine if_neg ?_
  rw [mayOpenRun_not, h]
  decide

theorem checkRunOpen_idle {s : State} (slotUs : Nat) (h : mayOpenRun s = false ∨ nextCheckStep s = none) : checkRunOpen slotUs s = s := by
  cases hopen : mayOpenRun s with
  | false => exact checkRunOpen_of_closed slotUs hopen
  | true =>
    rw [checkRunOpen_of_open slotUs hopen, h.resolve_left (by simp [hopen])]

section
variable {s : State} {step : CheckStep} {slotUs : Nat}

theorem runStep_wraps (h : (step == .cal && (freshBatch s step).plan.isEmpty) = true) : runStep slotUs step s = calWrap s := by
  rw [Bool.and_eq_true, beq_iff_eq] at h
  exact if_pos h

theorem runStep_opens (hwrap : (step == .cal && (freshBatch s step).plan.isEmpty) = false) : runStep slotUs step s =
    if (traverseRuns s step && (s.flow.mode == .service || decide ((freshBatch s step).duration ≤ 10 * slotUs))) = true then
      openRun (freshBatch s step) s else s := by
  have hnot : ¬ (step = .cal ∧ (freshBatch s step).plan.isEmpty) := fun h => by
    rw [h.2, h.1] at hwrap
    exact absurd hwrap (by decide)
  unfold runStep
  rw [if_neg hnot]
  cases traverseRuns s step <;> simp

end

theorem checkBlocked_of_open {s : State} (h : mayOpenRun s = true) : checkBlocked s = false := by
  unfold mayOpenRun at h
  simp only [Bool.and_eq_true, Bool.not_eq_true'] at h
  exact h.1.2

theorem checkRunOpen_next {s : State} {step : CheckStep} (slotUs : Nat) (h : mayOpenRun s = true) (hnext : nextCheckStep s = some step) :
    checkRunOpen slotUs s = runStep slotUs step s := by
  rw [checkRunOpen_of_open slotUs h, hnext]

/-! ## Check Bells -/

/-- A Hold taken at a check Bell ends the run. -/
theorem enterHold_holds {s : State} (hmode : s.flow.mode = .write) (hending : s.flow.ending = none) (hrestart : s.flow.restartReq = false) :
    let t := enterHold s
    t.health.run = none ∧ t.flow.mode = .hold ∧ t.flow.holdReq = false ∧ t.ev.bits.getLsbD Ev.HOLD = true ∧ t.job = s.job ∧ DramKept s t := by
  have heq : enterHold s = toHold s := by
    rw [enterHold, hrestart, hending, takeHold, if_pos hmode]
    rfl
  dsimp only
  rw [heq]
  refine ⟨toHold_health_run s, by rw [toHold_flow], ?_, (toHold_raises s).2, by simp, dramKept_of_eq (by simp)⟩
  rw [toHold_flow, hending, hrestart]
  rfl

/-- OUT_OF_STEP ends the run at a check Bell. -/
theorem checkRun_stops (s : State) : let t := endCheckRun (assertBlank s)
    t.health.run = none ∧ t.flow = s.flow ∧ t.ev = s.ev ∧ t.job = s.job ∧ DramKept s t :=
  ⟨(endCheckRun_health _).1, by simp, by rw [endCheckRun_ev]; simp, by simp, dramKept_of_eq (by simp)⟩

section
variable {s : State} {b : Batch}

theorem ensureCheckShot_of_upd (h : s.health.run = some b) (f : Batch → Batch) (i : Nat) : ∃ fired shots,
    ensureCheckShot i (updBatch f s) = { s with health := { s.health with run := some { f b with fired := fired } }, shots := s.shots ++ shots } ∧
    ∀ c, (f b).content i = some c → ∃ sh ∈ s.shots ++ shots, sh.stripeIdx = checkStripe s ∧ sh.shot = checkShot0 + ((f b).start + i : Nat) :=
  ensureCheckShot_runs (s := updBatch f s) (b := f b) (by rw [updBatch, h]; rfl) i

/-- BLANK_ALL is released where it may be. -/
def releaseBlank (s : State) : State := if mayRelease s then fput Reg.OUT_STATUS_BLANK 0 s else s

theorem releaseBlank_quiet {t : State} (h : Quiet [Reg.OUT_STATUS] s t) : (releaseBlank t).health = t.health ∧
    (mayRelease t = true → fbit (releaseBlank t) Reg.OUT_STATUS_BLANK = false) ∧ Quiet [Reg.OUT_STATUS] s (releaseBlank t) := by
  obtain ⟨hflow, hjob, hev, hregs, hdram⟩ := h
  unfold releaseBlank
  split
  · refine ⟨fput_health _ _ t, fun _ => fbit_fput t Reg.OUT_STATUS_BLANK rfl rfl 0, by simpa using hflow, by simpa using hjob, by simpa using hev, ?_, hdram⟩
    exact hregs.trans (regsKept_fput (f := Reg.OUT_STATUS_BLANK) (List.mem_singleton.2 rfl) _ t)
  · next hrel => exact ⟨rfl, fun h => absurd h hrel, hflow, hjob, hev, hregs, hdram⟩

/-- The lead of a run releases BLANK_ALL. -/
theorem checkLead_releases (h : s.health.run = some b) : let t := releaseBlank (ensureCheckShot 0 (updBatch (fun b => { b with i := -1 }) s))
    (∃ f, t.health.run = some { b with i := -1, fired := f }) ∧ (mayRelease s = true → fbit t Reg.OUT_STATUS_BLANK = false) ∧ Quiet [Reg.OUT_STATUS] s t := by
  obtain ⟨fired, shots, heq, -⟩ := ensureCheckShot_of_upd h (fun b => { b with i := -1 }) 0
  rw [heq]
  obtain ⟨hhealth, hblank, hquiet⟩ := releaseBlank_quiet (s := s) (t := { s with
    health := { s.health with run := some { b with i := -1, fired := fired } }, shots := s.shots ++ shots }) ⟨rfl, rfl, rfl, fun _ _ => rfl, fun _ => rfl⟩
  exact ⟨⟨fired, by rw [hhealth]⟩, hblank, hquiet⟩

/-- The shot of a check Bell gets its time, and its windows open. -/
def ringCheck (b : Batch) (i t : Nat) (stage : Int) (s : State) : State :=
  let s := ensureCheckShot i (updBatch (fun b => { b with i := i, stage := stage }) s)
  let s := updShot (checkStripe s) (checkShot0 + (b.start + i : Nat)) (fun sh => { sh with bell := some (t, 128000) }) s
  { s with health := { s.health with windows := s.health.windows ++ checkWindows i t stage s } }

theorem ringCheck_rings (h : s.health.run = some b) {i c : Nat} (hc : b.content i = some c) (t : Nat) (stage : Int) : ∃ fired shots,
    ringCheck b i t stage s = { s with health := { s.health with
      run := some { b with i := i, stage := stage, fired := fired }, windows := s.health.windows ++ checkWindows i t stage s }, shots := shots } ∧
    ∃ sh ∈ shots, sh.stripeIdx = checkStripe s ∧ sh.shot = checkShot0 + (b.start + i : Nat) ∧ sh.bell = some ((t : Int), 128000) := by
  obtain ⟨fired, shots, heq, hshot⟩ := ensureCheckShot_of_upd h (fun b => { b with i := i, stage := stage }) i
  obtain ⟨sh, hmem, hstripe, hn⟩ := hshot c hc
  unfold ringCheck
  rw [heq]
  refine ⟨fired, _, rfl, { sh with bell := some ((t : Int), 128000) }, ?_, hstripe, hn, rfl⟩
  exact List.mem_map.2 ⟨sh, hmem, if_pos ⟨hstripe, hn⟩⟩

theorem playContent_eq (b : Batch) (i c t sample : Nat) (stage : Int) (s : State) : playContent b i c t sample stage s =
    ensureCheckShot (i + 1) (if b.step = .cal then judgeBeams false (calSample c sample (ringCheck b i t stage s)) else ringCheck b i t stage s) := rfl

/-- A check Bell plays its content. -/
theorem playContent_plays (h : s.health.run = some b) {i c : Nat} (hc : b.content i = some c) (t sample : Nat) (stage : Int) :
    let u := playContent b i c t sample stage s
    (∃ b', u.health.run = some b' ∧ b'.i = i ∧ b'.stage = stage) ∧ u.health.windows = s.health.windows ++ checkWindows i t stage s ∧
    (∃ sh ∈ u.shots, sh.stripeIdx = checkStripe s ∧ sh.shot = checkShot0 + (b.start + i : Nat) ∧ sh.bell = some ((t : Int), 128000)) ∧
    u.flow = s.flow ∧ u.job = s.job ∧ DramKept s u ∧
    (b.step ≠ .cal → (∃ f, u.health.run = some { b with i := i, stage := stage, fired := f }) ∧ Quiet [] s u) := by
  obtain ⟨fired, shots, hring, sh, hmem, hsh⟩ := ringCheck_rings h hc t stage
  dsimp only
  rw [playContent_eq]
  generalize ringCheck b i t stage s = v at hring
  have hvrun : v.health.run = some { b with i := i, stage := stage, fired := fired } := by rw [hring]
  by_cases hcal : b.step = .cal
  · rw [if_pos hcal]
    have hjudged : BeamsJudged v (judgeBeams false (calSample c sample v)) := by
      refine BeamsJudged.trans ?_ (beamsJudged_judgeBeams false _)
      unfold calSample
      refine beamsJudged_updBatch ?_ v
      exact fun _ => ⟨rfl, rfl, rfl, rfl⟩
    have hflow : (judgeBeams false (calSample c sample v)).flow = s.flow := by
      simp only [judgeBeams_frame]
      rw [hring]
      rfl
    generalize judgeBeams false (calSample c sample v) = w at hjudged hflow ⊢
    obtain ⟨hrest, hrun⟩ := hjudged
    obtain ⟨b', hb', -, hi, hstage, -⟩ := hrun _ hvrun
    obtain ⟨fired', shots', heq, -⟩ := ensureCheckShot_runs hb' (i + 1)
    rw [heq]
    have hshots : w.shots = shots := by rw [hrest, hring]
    have hwindows : w.health.windows = s.health.windows ++ checkWindows i t stage s := by rw [hrest, hring]
    refine ⟨⟨_, rfl, hi, hstage⟩, hwindows, ⟨sh, ?_, hsh⟩, hflow, by rw [hrest, hring], dramKept_of_eq (by rw [hrest, hring]), fun hn => absurd hcal hn⟩
    rw [hshots]
    exact List.mem_append_left _ hmem
  · rw [if_neg hcal]
    obtain ⟨fired', shots', heq, -⟩ := ensureCheckShot_runs hvrun (i + 1)
    rw [heq, hring]
    refine ⟨⟨_, rfl, rfl, rfl⟩, rfl, ⟨sh, List.mem_append_left _ hmem, hsh⟩, rfl, rfl, fun _ => rfl, fun _ => ⟨⟨fired', rfl⟩, rfl, rfl, rfl, fun _ _ => rfl, fun _ => rfl⟩⟩

theorem checkBell_none (h : s.health.run = none) (t0 smp : Nat) (x y : Int) : checkBell t0 smp x y s = s := by rw [checkBell, h]

theorem checkBell_eq (h : s.health.run = some b) (t0 smp : Nat) (x y : Int) : checkBell t0 smp x y s =
    if s.flow.holdReq = true then enterHold s
    else if s.out.outOfStep = true then endCheckRun (assertBlank s)
    else if b.i < -1 then releaseBlank (ensureCheckShot 0 (updBatch (fun b => { b with i := -1 }) s))
    else match b.content (b.i + 1).toNat with
      | none => s
      | some c => playContent b (b.i + 1).toNat c t0 smp (if b.step = .locateX then x else y) s := by
  rw [checkBell, h]
  rfl

variable (h : s.health.run = some b) (hhold : s.flow.holdReq = false) (hstep : s.out.outOfStep = false)
include h hhold hstep

theorem checkBell_lead (hi : b.i < -1) (t0 smp : Nat) (x y : Int) :
    checkBell t0 smp x y s = releaseBlank (ensureCheckShot 0 (updBatch (fun b => { b with i := -1 }) s)) := by
  rw [checkBell_eq h, hhold, hstep, if_neg nofun, if_neg nofun, if_pos hi]

theorem checkBell_past (hi : -1 ≤ b.i) (hc : b.content (b.i + 1).toNat = none) (t0 smp : Nat) (x y : Int) : checkBell t0 smp x y s = s := by
  rw [checkBell_eq h, hhold, hstep, if_neg nofun, if_neg nofun, if_neg (not_lt.2 hi), hc]

theorem checkBell_content (hi : -1 ≤ b.i) {c : Nat} (hc : b.content (b.i + 1).toNat = some c) (t0 smp : Nat) (x y : Int) :
    checkBell t0 smp x y s = playContent b (b.i + 1).toNat c t0 smp (if b.step = .locateX then x else y) s := by
  rw [checkBell_eq h, hhold, hstep, if_neg nofun, if_neg nofun, if_neg (not_lt.2 hi), hc]

end

/-! ## GATE_IN and windows -/

theorem gateInEdge_short {s : State} {e : GateEdge} (h : e.held < max 2 (fget s Reg.BHM_CFG_FILT)) : gateInEdge e s = s := if_pos h

/-- An accepted edge marks the windows it falls in. -/
theorem gateInEdge_marks {s : State} {e : GateEdge} (h : max 2 (fget s Reg.BHM_CFG_FILT) ≤ e.held) :
    gateInEdge e s = { s with health := { s.health with windows := s.health.windows.map (fun w =>
      { w with pulsed := w.pulsed || (decide (w.opens ≤ (e.stamp : Int)) && decide ((e.stamp : Int) < w.closes)) }) } } := by
  refine (if_neg (not_lt.2 h)).trans ?_
  refine congrArg (fun ws => { s with health := { s.health with windows := ws } }) ?_
  refine List.map_congr_left fun w _ => ?_
  split
  · next hin => simp [hin.1, hin.2]
  · next hout =>
    have hfalse : (decide (w.opens ≤ (e.stamp : Int)) && decide ((e.stamp : Int) < w.closes)) = false := by
      rw [← Bool.not_eq_true, Bool.and_eq_true, decide_eq_true_iff, decide_eq_true_iff]
      exact hout
    rw [hfalse, Bool.or_false]

theorem windowClose_idle {s : State} {g : Nat} (high : Bool) (h : s.health.run = none ∨ s.health.windows.find? (·.group == g) = none) :
    windowClose g high s = s := by
  unfold windowClose
  split
  · next w b hw hb =>
    rcases h with h | h
    · exact nomatch h.symm.trans hb
    · exact nomatch h.symm.trans hw
  · rfl

set_option Elab.async false in
theorem windowClose_closes {s : State} {g : Nat} {w : CheckWindow} {b : Batch} (high : Bool) (hw : s.health.windows.find? (·.group == g) = some w)
    (hb : s.health.run = some b) : windowClose g high s =
      { s with health := { s.health with windows := s.health.windows.erase w, run := some { b with
        pulsed := b.pulsed ++ (if w.pulsed || high then [(w.bell, g)] else [])
        held := b.held ++ (if high then [(w.bell, g)] else [])
        hits := b.hits ++ (if w.pulsed || high then [(w.bell, w.stage)] else []) } } } := by
  unfold windowClose
  rw [hw, hb]
  cases hp : (w.pulsed || high) <;> cases high <;> simp [hp]

end Sys2Proof.Machine
end

section
/-!
PROOFS. O48: the batches of a check run are judged.
-/

namespace Sys2Proof.Machine

/-! ## The run closes -/

theorem closeCheckRun_closes (s : State) : let t := closeCheckRun s
    t.health = { s.health with run := none, windows := [] } ∧ t.ev = s.ev ∧ t.flow = s.flow ∧ t.job = s.job ∧ t.dram = s.dram ∧ t.mot.locate = s.mot.locate := by
  have hvotes : VotesMoved (checkClosed s) (closeCheckRun s) := by
    rw [closeCheckRun_eq]
    split
    · exact votesMoved_setVotes _ _ _ _
    · rfl
  have hclosed : (checkClosed s).health = { s.health with run := none, windows := [] } ∧ (checkClosed s).mot.locate = s.mot.locate := by
    unfold checkClosed
    dsimp only
    split
    · exact ⟨by simp, by simp⟩
    · exact ⟨by simp, by simp⟩
  refine ⟨hvotes.health.trans hclosed.1, (votesQuiet_closeCheckRun s).ev id, by simp, by simp, by simp, ?_⟩
  rw [hvotes]
  exact hclosed.2

/-- A batch is judged, what it wrote is applied in Service, and the run closes. -/
theorem judged_closes {u w : State} (h : Applying u w) : let t := closeCheckRun (serviceApplies w)
    t.health = { u.health with run := none, windows := [] } ∧ EventsStand u t ∧ (hasCause u 1 = false ∨ u.health.darkPassed = false → t.flow = u.flow) ∧
    t.job = u.job ∧ t.dram = u.dram ∧ t.mot.locate = u.mot.locate := by
  have happly : Applying u (serviceApplies w) := h.trans (applying_serviceApplies w)
  obtain ⟨hhealth, hev, hflow, hjob, hdram, hmot⟩ := closeCheckRun_closes (serviceApplies w)
  intro t
  have hjob' : (serviceApplies w).job = u.job := by rw [happly.rest]
  have hdram' : (serviceApplies w).dram = u.dram := by rw [happly.rest]
  have hmot' : (serviceApplies w).mot.locate = u.mot.locate := by rw [happly.rest]
  exact ⟨hhealth.trans (by rw [happly.health]), happly.events.trans (eventsStand_of_ev hev), fun hc => hflow.trans (happly.flow hc),
    hjob.trans hjob', hdram.trans hdram', hmot.trans hmot'⟩

/-- Where nothing is applied at once, no event comes to be as the run closes. -/
theorem closes_ev {w : State} (h : w.flow.mode ≠ .service ∨ (w.beams.applyCmd = none ∧ w.beams.queue = [])) :
    (closeCheckRun (serviceApplies w)).ev = w.ev := by
  rw [serviceApplies_idle h]
  exact (closeCheckRun_closes w).2.1

theorem raiseIf_ev_of_eq {s t : State} (h : t.ev = s.ev) (b : Bool) (n : Nat) : (raiseIf b n t).ev = (raiseIf b n s).ev := by
  cases b with
  | false => exact h
  | true => exact raise_ev_congr n h

theorem raiseIf_mot (b : Bool) (n : Nat) (s : State) : (raiseIf b n s).mot = s.mot := by cases b <;> rfl

/-- What was asked for ends. -/
theorem askedDone_eq (c : CheckStep) (s : State) : askedDone c s =
    { raiseIf (s.health.asked.contains c) Ev.CHECK_DONE s with health := { s.health with asked := s.health.asked.filter (· != c) } } := by
  unfold askedDone
  split
  · next h => rw [h]; rfl
  · next h =>
    have hall : s.health.asked.filter (· != c) = s.health.asked := List.filter_eq_self.2 fun x hx => by
      rw [bne_iff_ne]
      exact fun heq => h (List.contains_iff_mem.2 (heq ▸ hx))
    rw [hall, Bool.not_eq_true _ |>.mp h]
    rfl

theorem not_mem_asked (c : CheckStep) (l : List CheckStep) : ¬ c ∈ l.filter (· != c) := by simp

/-! ## The end of a batch -/

section
variable {s : State} {b : Batch}

theorem checkBatchEnd_idle (h : ∀ b, s.health.run = some b → b.played = false) : checkBatchEnd s = s := by
  unfold checkBatchEnd
  split
  · rfl
  · next b hb => rw [h b hb]; rfl

variable (h : s.health.run = some b) (hplayed : b.played = true)
include h hplayed

theorem checkBatchEnd_eq : checkBatchEnd s = if b.scanFails = true then
      ensureCheckShot 0 (beginBatch { freshBatch s .dark with i := -1, start := b.start + b.n + b.extra.length } s)
    else batchOver (judgeBeams true s) := by
  rw [checkBatchEnd, h]
  dsimp only
  rw [hplayed]
  rfl

/-- A batch without beams to measure again is judged, and its run closes. -/
theorem checkBatchEnd_judges (hcal : b.step ≠ .cal) (hscan : b.scanFails = false) : checkBatchEnd s = closeCheckRun (serviceApplies (judgeBatch b s)) := by
  rw [checkBatchEnd_eq h hplayed, hscan, if_neg nofun, judgeBeams_other h hcal, batchOver, h]
  exact if_neg fun hc => hcal hc.1

end

/-- Only a SCAN batch fails as one. -/
theorem scanFails_other {b : Batch} (h : b.step ≠ .scan) : b.scanFails = false := by
  rw [Batch.scanFails, beq_eq_false_iff_ne.2 h]
  rfl

/-! ### DARK -/

section
variable (b : Batch) (s : State)

/-- The state of a DARK batch that has passed, or has not, before the commands that asked for it are told. -/
def darkJudged (passed : Bool) : State :=
  { s with health := { s.health with darkAt := some (slotKey s), calNext := false, darkPassed := passed } }

theorem darkEnds_pass (h : b.pulses ≤ fget s Reg.BHM_DARK_TOL) : darkEnds b s = stuckRelease (askedDone .dark (darkJudged s true)) := if_pos h

theorem darkEnds_fail (h : fget s Reg.BHM_DARK_TOL < b.pulses) :
    darkEnds b s = askedDone .dark (requestHold 1 (raise Ev.STUCK_OPEN (fput Reg.BHM_STUCK_VALID 0 (darkJudged s false)))) := if_neg (not_le.2 h)

/-- A stuck-open Hold cause ends with the last stuck-open beam, once DARK has passed. -/
theorem stuckRelease_releases {s : State} (hpassed : s.health.darkPassed = true) (hnone : (s.beams.table.any fun p => entStatus p.2 == 3) = false) :
    hasCause (stuckRelease s) 1 = false := by
  unfold stuckRelease
  rw [hpassed, hnone]
  cases hc : hasCause s 1 with
  | false => exact hc
  | true =>
    rw [if_pos (by rfl), hasCause_clearCause (by decide)]
    simp

theorem darkPass_closes (h : b.pulses ≤ fget s Reg.BHM_DARK_TOL) : let t := closeCheckRun (serviceApplies (darkEnds b s))
    t.health.run = none ∧ t.health.darkPassed = true ∧ t.health.darkAt = some (slotKey s) ∧ ¬ CheckStep.dark ∈ t.health.asked ∧
    (s.flow.mode ≠ .service ∨ (s.beams.applyCmd = none ∧ s.beams.queue = []) →
      t.ev = (raiseIf (s.health.asked.contains .dark) Ev.CHECK_DONE s).ev) ∧ (hasCause s 1 = false → t.flow = s.flow) ∧ t.job = s.job ∧ DramKept s t ∧
    ((s.beams.table.any fun p => entStatus p.2 == 3) = false → hasCause t 1 = false) := by
  have hasked := askedDone_eq .dark (darkJudged s true)
  rw [darkEnds_pass b s h]
  generalize askedDone .dark (darkJudged s true) = u at hasked
  have hev : u.ev = (raiseIf (s.health.asked.contains .dark) Ev.CHECK_DONE s).ev := by
    rw [hasked]
    exact raiseIf_ev_of_eq (s := s) (t := darkJudged s true) rfl _ _
  have hflow : u.flow = s.flow := by rw [hasked]; simp [darkJudged]
  have hjob : u.job = s.job := by rw [hasked]; simp [darkJudged]
  have hdram : u.dram = s.dram := by rw [hasked]; simp [darkJudged]
  have hbeams : u.beams = s.beams := by rw [hasked]; simp [darkJudged]
  have hhealth : u.health = { (darkJudged s true).health with asked := s.health.asked.filter (· != .dark) } := by rw [hasked]; rfl
  have hrelease := applying_stuckRelease u
  obtain ⟨hclosed, -, hstay, hjob', hdram', -⟩ := judged_closes hrelease
  have hcause : hasCause u 1 = hasCause s 1 := hasCause_congr (by rw [hflow]) 1
  intro t
  have hhealth' : t.health = { u.health with run := none, windows := [] } := hclosed
  rw [hhealth', hhealth]
  refine ⟨rfl, rfl, rfl, not_mem_asked _ _, fun hstill => ?_, fun hc => (hstay (.inl (hcause.trans hc))).trans hflow, hjob'.trans hjob,
    dramKept_of_eq (hdram'.trans hdram), fun hnone => ?_⟩
  · have hmode : (stuckRelease u).flow.mode = s.flow.mode := by
      rw [← hflow]
      unfold stuckRelease
      split <;> rfl
    have hbeams' : (stuckRelease u).beams = s.beams := by
      rw [← hbeams]
      unfold stuckRelease
      split <;> rfl
    refine (closes_ev (by rw [hmode, hbeams']; exact hstill)).trans ?_
    simpa using hev
  · have hout := stuckRelease_releases (s := u) (by rw [hhealth]; rfl) (by rw [hbeams]; exact hnone)
    obtain ⟨-, -, hstay', -⟩ := judged_closes (Applying.refl (stuckRelease u))
    exact (hasCause_congr (by rw [hstay' (.inl hout)]) 1).trans hout

theorem darkFail_closes (h : fget s Reg.BHM_DARK_TOL < b.pulses) : let t := closeCheckRun (serviceApplies (darkEnds b s))
    t.health.run = none ∧ t.health.darkPassed = false ∧ t.ev.bits.getLsbD Ev.STUCK_OPEN = true ∧ hasCause t 1 = true ∧
    (s.flow.mode = .write → s.flow.resume = .none → t.flow.holdReq = true) ∧ t.job = s.job ∧ DramKept s t := by
  rw [darkEnds_fail b s h]
  have hv : ∀ w, w = fput Reg.BHM_STUCK_VALID 0 (darkJudged s false) → (raise Ev.STUCK_OPEN w).flow = s.flow ∧ (raise Ev.STUCK_OPEN w).job = s.job ∧
      (raise Ev.STUCK_OPEN w).dram = s.dram ∧ (raise Ev.STUCK_OPEN w).health.darkPassed = false ∧ (raise Ev.STUCK_OPEN w).ev.bits.getLsbD Ev.STUCK_OPEN = true := by
    rintro w rfl
    exact ⟨by simp [darkJudged], by simp [darkJudged], by simp [darkJudged], by simp [darkJudged], raise_raises (by decide) _⟩
  replace hv := hv _ rfl
  generalize raise Ev.STUCK_OPEN _ = v at hv ⊢
  obtain ⟨hflow, hjob, hdram, hpassed, hraised⟩ := hv
  have hheld : hasCause (requestHold 1 v) 1 = true := by
    rw [hasCause_congr (requestHold_causes 1 v), hasCause_setCause (by decide)]
    simp
  have hreq : s.flow.mode = .write → s.flow.resume = .none → (requestHold 1 v).flow.holdReq = true := fun hmode hresume => by
    rw [requestHold_of_none (by rw [hflow]; exact hresume), if_pos (by rw [hflow]; exact hmode)]
  have hhealth : (requestHold 1 v).health = v.health := by rw [holdOnly_requestHold 1 v]
  have hjob' : (requestHold 1 v).job = s.job := by simp [hjob]
  have hdram' : (requestHold 1 v).dram = s.dram := by simp [hdram]
  have hev := eventsStand_requestHold 1 v _ hraised
  generalize requestHold 1 v = w at *
  have hasked := askedDone_eq .dark w
  have hstand : EventsStand w (askedDone .dark w) := by
    rw [hasked]
    exact eventsStand_raiseIf _ _ w
  have haflow : (askedDone .dark w).flow = w.flow := by simp
  have hajob : (askedDone .dark w).job = w.job := by simp
  have hadram : (askedDone .dark w).dram = w.dram := by simp
  have hahealth : (askedDone .dark w).health.darkPassed = false := by rw [hasked, ← hpassed, ← hhealth]
  generalize askedDone .dark w = u at *
  obtain ⟨hclosed, hevs, hstay, hcjob, hcdram, -⟩ := judged_closes (Applying.refl u)
  have hcflow := (hstay (.inr hahealth)).trans haflow
  intro t
  have hhealth' : t.health = { u.health with run := none, windows := [] } := hclosed
  rw [hhealth']
  exact ⟨rfl, hahealth, hevs _ (hstand _ hev), (hasCause_congr (by rw [hcflow]) 1).trans hheld, fun hmode hresume => by rw [hcflow]; exact hreq hmode hresume,
    hcjob.trans (hajob.trans hjob'), dramKept_of_eq (hcdram.trans (hadram.trans hdram'))⟩

end

/-! ### SCAN -/

/-- A DARK batch fires no beam. -/
theorem ensureCheckShot_dark {s : State} {b : Batch} (h : s.health.run = some b) (hdark : b.step = .dark) (i : Nat) :
    ∃ shots, ensureCheckShot i s = { s with shots := shots } := by
  unfold ensureCheckShot
  rw [h]
  dsimp only
  split
  · exact ⟨_, rfl⟩
  · next c _ =>
    split
    · exact ⟨_, rfl⟩
    · have hcounts : (checkShot s b i c).counts = [] := by
        show b.counts _ c = []
        rw [Batch.counts, hdark]
      refine ⟨s.shots ++ [checkShot s b i c], ?_⟩
      rw [hcounts, updBatch, h]
      simp only [List.map_nil, List.eraseDups_nil, List.append_nil, Option.map_some]
      rw [← h]

/-- A SCAN that failed goes over to DARK within the run. -/
theorem darkFollows (s : State) (start : Nat) : let t := ensureCheckShot 0 (beginBatch { freshBatch s .dark with i := -1, start := start } s)
    t.health.run = some { freshBatch s .dark with i := -1, start := start } ∧ t.health.serial = s.health.serial + 1 ∧ Quiet [] s t := by
  obtain ⟨shots, heq⟩ := ensureCheckShot_dark (s := beginBatch { freshBatch s .dark with i := -1, start := start } s) rfl rfl 0
  rw [heq]
  exact ⟨rfl, rfl, rfl, rfl, rfl, fun _ _ => rfl, fun _ => rfl⟩

/-- The beams that a SCAN batch lists to be checked again. -/
def scanListed (b : Batch) (s : State) : List Nat :=
  (scanResults b).filterMap fun r => if !r.2 && entLive (entry s.beams.table r.1) && !s.health.recheck.contains r.1 then some r.1 else none

theorem mem_scanListed (b : Batch) (s : State) (x : Nat) :
    x ∈ s.health.recheck ++ scanListed b s ↔ x ∈ s.health.recheck ∨ ((x, false) ∈ scanResults b ∧ entLive (entry s.beams.table x) = true) := by
  simp only [scanListed, List.mem_append, List.mem_filterMap, Option.ite_none_right_eq_some, Bool.and_eq_true, Bool.not_eq_true', Option.some.injEq]
  constructor
  · rintro (hx | ⟨⟨y, seen⟩, hmem, ⟨⟨hseen, hlive⟩, -⟩, rfl⟩)
    · exact .inl hx
    · exact .inr ⟨by rw [← hseen]; exact hmem, hlive⟩
  · rintro (hx | ⟨hmem, hlive⟩)
    · exact .inl hx
    · by_cases hx : x ∈ s.health.recheck
      · exact .inl hx
      · exact .inr ⟨(x, false), hmem, ⟨⟨rfl, hlive⟩, by simpa using hx⟩, rfl⟩

theorem scanAdvance_health (b : Batch) (s : State) : ∃ asked, (scanAdvance b s).health = { s.health with asked := asked } := by
  unfold scanAdvance
  split
  · exact ⟨_, rfl⟩
  · split
    · exact ⟨s.health.asked, by simp⟩
    · dsimp only
      rw [askedDone_eq]
      exact ⟨s.health.asked.filter (· != .scan), by simp⟩

theorem scanEnds_health (b : Batch) (s : State) : ∃ asked, (scanEnds b s).health =
    { s.health with recheck := s.health.recheck ++ scanListed b s, calNext := true, asked := asked } := scanAdvance_health b _

theorem scanPass_closes (b : Batch) (s : State) : let t := closeCheckRun (serviceApplies (scanEnds b s))
    t.health.run = none ∧ t.health.calNext = true ∧
    (∀ x, x ∈ t.health.recheck ↔ x ∈ s.health.recheck ∨ ((x, false) ∈ scanResults b ∧ entLive (entry s.beams.table x) = true)) ∧
    (hasCause s 1 = false → t.flow = s.flow) ∧ t.job = s.job ∧ DramKept s t := by
  have hflow : (scanEnds b s).flow = s.flow := by simp
  have hjob : (scanEnds b s).job = s.job := by simp
  have hdram : (scanEnds b s).dram = s.dram := by simp
  obtain ⟨asked, hhealth⟩ := scanEnds_health b s
  generalize scanEnds b s = u at *
  obtain ⟨hclosed, -, hstay, hjob', hdram', -⟩ := judged_closes (Applying.refl u)
  intro t
  have hhealth' : t.health = { u.health with run := none, windows := [] } := hclosed
  rw [hhealth', hhealth]
  exact ⟨rfl, rfl, mem_scanListed b s, fun hc => (hstay (.inl ((hasCause_congr (by rw [hflow]) 1).trans hc))).trans hflow, hjob'.trans hjob,
    dramKept_of_eq (hdram'.trans hdram)⟩

/-! ### RECHECK -/

/-- The check Bells of a RECHECK of beam `x` whose window was PULSED. -/
abbrev recheckPulses (b : Batch) (x : Nat) : Nat := ((List.range 16).filter fun c => b.sawPulse c (groupOf (laneOf x))).length

/-- The beam is off the list. -/
def recheckTaken (s : State) : State := { s with health := { s.health with recheck := s.health.recheck.drop 1 } }

section
variable {b : Batch} {x : Nat} {plan : List Nat} (s : State)

theorem recheckEnds_eq (h : b.plan = x :: plan) : recheckEnds b s =
    if 12 ≤ recheckPulses b x then fcount Reg.BHM_FLAKY_COUNT 1 (recheckTaken s) else retireBeam x (recheckTaken s) := by
  rw [recheckEnds, h]
  rfl

theorem applying_recheckEnds (h : b.plan = x :: plan) : Applying (recheckTaken s) (recheckEnds b s) := by
  rw [recheckEnds_eq s h]
  split
  · exact applying_fput _ _ _
  · exact applying_retireBeam x _

theorem retireBeam_raises {s : State} (h : entLive (entry (tableAhead s) x) = true) : (retireBeam x s).ev.bits.getLsbD Ev.BEAM_RETIRED = true := by
  unfold retireBeam
  dsimp only
  rw [h]
  exact eventsStand_raiseIf _ _ _ _ (raise_raises (by decide) _)

theorem recheck_closes (h : b.plan = x :: plan) : let t := closeCheckRun (serviceApplies (recheckEnds b s))
    t.health.run = none ∧ t.health.recheck = s.health.recheck.drop 1 ∧
    (12 ≤ recheckPulses b x → s.flow.mode ≠ .service ∨ (s.beams.applyCmd = none ∧ s.beams.queue = []) → t.ev = s.ev) ∧
    (recheckPulses b x < 12 → entLive (entry (tableAhead s) x) = true → t.ev.bits.getLsbD Ev.BEAM_RETIRED = true) ∧
    (hasCause s 1 = false → t.flow = s.flow) ∧ t.job = s.job ∧ DramKept s t := by
  obtain ⟨hclosed, -, hstay, hjob, hdram, -⟩ := judged_closes (applying_recheckEnds s h)
  obtain ⟨-, hevs, -⟩ := judged_closes (Applying.refl (recheckEnds b s))
  intro t
  have hhealth : t.health = { (recheckTaken s).health with run := none, windows := [] } := hclosed
  rw [hhealth]
  refine ⟨rfl, rfl, fun hn hstill => ?_, fun hn hlive => hevs _ ?_, fun hc => hstay (.inl hc), hjob, dramKept_of_eq hdram⟩
  · have heq : recheckEnds b s = fcount Reg.BHM_FLAKY_COUNT 1 (recheckTaken s) := (recheckEnds_eq s h).trans (if_pos hn)
    have hbeams : (fcount Reg.BHM_FLAKY_COUNT 1 (recheckTaken s)).beams = s.beams := by simp [fcount, recheckTaken]
    show (closeCheckRun (serviceApplies (recheckEnds b s))).ev = s.ev
    rw [heq]
    refine (closes_ev ?_).trans (by simp [recheckTaken])
    rw [hbeams]
    simpa [recheckTaken] using hstill
  · rw [(recheckEnds_eq s h).trans (if_neg (not_le.2 hn))]
    exact retireBeam_raises (s := recheckTaken s) hlive

end

/-! ### CAL -/

/-- Beams to measure again go on in the batch. -/
theorem calAgain_goes {s : State} {b : Batch} (h : s.health.run = some b) :
    ∃ c, (calAgain b s).health.run = some c ∧ c.plan = b.plan ++ b.redo ∧ c.redo = [] := by
  have happend : ∀ (cs : List Nat) (u : State) (d : Batch), u.health.run = some d →
      ∃ c, (appendContents cs u).health.run = some c ∧ c.plan = d.plan ∧ c.redo = d.redo := by
    intro cs u d hu
    have hrun : (updBatch (fun b => { b with extra := b.extra ++ cs }) u).health.run = some { d with extra := d.extra ++ cs } := by
      rw [updBatch, hu]
      rfl
    unfold appendContents
    rw [hu]
    dsimp only
    split
    · obtain ⟨fired, shots, heq, -⟩ := ensureCheckShot_runs hrun (d.i + 1).toNat
      rw [heq]
      exact ⟨_, rfl, rfl, rfl⟩
    · exact ⟨_, hrun, rfl, rfl⟩
  refine happend _ (updBatch (fun b => { b with plan := b.plan ++ b.redo, redone := b.redone ++ b.redo, redo := [] }) s)
    { b with plan := b.plan ++ b.redo, redone := b.redone ++ b.redo, redo := [] } ?_
  rw [updBatch, h]
  rfl

theorem batchOver_cal {u : State} {b : Batch} (h : u.health.run = some b) (hcal : b.step = .cal) : let t := batchOver u
    (b.redo = [] → t.health.run = none) ∧ (b.redo ≠ [] → ∃ c, t.health.run = some c ∧ c.plan = b.plan ++ b.redo ∧ c.redo = []) ∧
    (hasCause u 1 = false → t.flow = u.flow) ∧ t.job = u.job ∧ t.dram = u.dram := by
  by_cases hredo : b.redo = []
  · have heq : batchOver u = closeCheckRun (serviceApplies (calEnds b u)) := by
      rw [batchOver, h]
      dsimp only
      rw [hredo, if_neg (fun hc => hc.2 rfl), judgeBatch, hcal]
    have hflow : (calEnds b u).flow = u.flow := by simp
    have hjob : (calEnds b u).job = u.job := by simp
    have hdram : (calEnds b u).dram = u.dram := by simp
    obtain ⟨hclosed, -, hstay, hjob', hdram', -⟩ := judged_closes (Applying.refl (calEnds b u))
    dsimp only
    rw [heq]
    refine ⟨fun _ => by rw [hclosed], fun hn => absurd hredo hn, fun hc => (hstay (.inl ((hasCause_congr (by rw [hflow]) 1).trans hc))).trans hflow,
      hjob'.trans hjob, hdram'.trans hdram⟩
  · have heq : batchOver u = calAgain b u := by
      rw [batchOver, h]
      exact if_pos ⟨hcal, by simpa using hredo⟩
    dsimp only
    rw [heq]
    exact ⟨fun hn => absurd hn hredo, fun _ => calAgain_goes h, fun _ => by simp, by simp, by simp⟩

theorem checkBatchEnd_cal {s : State} {b : Batch} (h : s.health.run = some b) (hplayed : b.played = true) (hcal : b.step = .cal) : let t := checkBatchEnd s
    ∃ bu, (judgeBeams true s).health.run = some bu ∧ (bu.redo = [] → t.health.run = none) ∧
    (bu.redo ≠ [] → ∃ c, t.health.run = some c ∧ c.plan = bu.plan ++ bu.redo ∧ c.redo = []) ∧
    (hasCause s 1 = false → t.flow = s.flow) ∧ t.job = s.job ∧ DramKept s t := by
  have heq : checkBatchEnd s = batchOver (judgeBeams true s) := by
    rw [checkBatchEnd_eq h hplayed, scanFails_other (by rw [hcal]; decide), if_neg nofun]
  obtain ⟨bu, hbu, hstep, -⟩ := (beamsJudged_judgeBeams true s).run b h
  have hflow : (judgeBeams true s).flow = s.flow := by simp
  have hjob : (judgeBeams true s).job = s.job := by simp
  have hdram : (judgeBeams true s).dram = s.dram := by simp
  dsimp only
  rw [heq]
  generalize judgeBeams true s = u at *
  obtain ⟨hcloses, hagain, hstay, hjob', hdram'⟩ := batchOver_cal hbu (hstep.trans hcal)
  exact ⟨bu, hbu, hcloses, hagain, fun hc => (hstay ((hasCause_congr (by rw [hflow]) 1).trans hc)).trans hflow, hjob'.trans hjob,
    dramKept_of_eq (hdram'.trans hdram)⟩

/-! ### LOCATE -/

theorem locateX_closes (b : Batch) (s : State) : let t := closeCheckRun (serviceApplies (locateXEnds b s))
    t.health.run = none ∧ t.health.xHit = b.hit ∧ t.health.asked = s.health.asked.map (fun c => if c = .locateX then .locateY else c) ∧
    (s.flow.mode ≠ .service ∨ (s.beams.applyCmd = none ∧ s.beams.queue = []) → t.ev = s.ev) ∧
    (hasCause s 1 = false → t.flow = s.flow) ∧ t.job = s.job ∧ DramKept s t := by
  obtain ⟨hclosed, -, hstay, hjob, hdram, -⟩ := judged_closes (Applying.refl (locateXEnds b s))
  dsimp only
  rw [hclosed]
  exact ⟨rfl, rfl, rfl, fun hstill => closes_ev (w := locateXEnds b s) hstill, fun hc => hstay (.inl hc), hjob, dramKept_of_eq hdram⟩

/-- What LOCATE resolves, but for what was asked for and the stage. -/
def locateResolved (b : Batch) (s : State) : State :=
  let pix := s.health.pix
  let fx : Int := freeNat s
  let fy : Int := Config.freeValue (s.free + 1)
  let x := match s.health.xHit with | some v => locateOffset pix v (fint s Reg.BHM_EDGE_X_COUNTS) | none => fx
  let y := match b.hit with | some v => locateOffset pix v (fint s Reg.BHM_EDGE_Y_COUNTS) | none => fy
  let both := s.health.xHit.isSome && b.hit.isSome
  let s := if both then s else useFree (useFree s)
  match if both then located s.beams.table x y else [] with
  | [beam] =>
    fput Reg.BHM_STUCK_BEAM beam (fput Reg.BHM_STUCK_VALID 1 (fput Reg.BHM_STUCK_UNRESOLVED 0
      (applyBeam beam (withStatus (entry (tableAhead s) beam) 3) s)))
  | _ => fputInt Reg.BHM_LOC_X x (fputInt Reg.BHM_LOC_Y (Int.fdiv y 16) (fput Reg.BHM_STUCK_UNRESOLVED 1 s))

theorem locateEnds_eq (b : Batch) (s : State) : locateEnds b s =
    askedDone .locateY (locateOver { locateResolved b s with health := { (locateResolved b s).health with xHit := none } }) := rfl

theorem locateResolved_keeps (b : Batch) (s : State) : let t := locateResolved b s
    t.health = s.health ∧ t.ev = s.ev ∧ t.flow = s.flow ∧ t.job = s.job ∧ t.dram = s.dram := by
  have hfree : ∀ u : State, u = s ∨ u = useFree (useFree s) → u.health = s.health ∧ u.ev = s.ev ∧ u.flow = s.flow ∧ u.job = s.job ∧ u.dram = s.dram := by
    rintro u (rfl | rfl)
    · exact ⟨rfl, rfl, rfl, rfl, rfl⟩
    · exact ⟨rfl, rfl, rfl, rfl, rfl⟩
  have happly : ∀ beam e u, (applyBeam beam e u).health = u.health := fun beam e u => (applying_queueApply _ _ _ u).health
  unfold locateResolved
  dsimp only
  obtain ⟨hhealth, hev, hflow, hjob, hdram⟩ := hfree (if (s.health.xHit.isSome && b.hit.isSome) = true then s else useFree (useFree s)) (by split <;> simp)
  generalize (if (s.health.xHit.isSome && b.hit.isSome) = true then s else useFree (useFree s)) = u at *
  split
  · exact ⟨by simp [happly, hhealth], by simp [hev], by simp [hflow], by simp [hjob], by simp [hdram]⟩
  · exact ⟨by simp [hhealth], by simp [hev], by simp [hflow], by simp [hjob], by simp [hdram]⟩

theorem locateOver_keeps (s : State) : (locateOver s).health = s.health ∧ (locateOver s).mot.locate = false := by
  unfold locateOver disownStage
  split
  · exact ⟨by simp, by simp⟩
  · exact ⟨rfl, rfl⟩

theorem locateY_closes (b : Batch) (s : State) : let t := closeCheckRun (serviceApplies (locateEnds b s))
    t.health.run = none ∧ t.health.xHit = none ∧ t.mot.locate = false ∧ ¬ CheckStep.locateY ∈ t.health.asked ∧
    (s.flow.mode ≠ .service → t.ev = (raiseIf (s.health.asked.contains .locateY) Ev.CHECK_DONE s).ev) ∧
    (hasCause s 1 = false → t.flow = s.flow) ∧ t.job = s.job ∧ DramKept s t := by
  have hflow : (locateEnds b s).flow = s.flow := by simp
  have hjob : (locateEnds b s).job = s.job := by simp
  have hdram : (locateEnds b s).dram = s.dram := by simp
  obtain ⟨hhealth, hev, -⟩ := locateResolved_keeps b s
  obtain ⟨hover, hmot⟩ := locateOver_keeps { locateResolved b s with health := { (locateResolved b s).health with xHit := none } }
  have hoev : (locateOver { locateResolved b s with health := { (locateResolved b s).health with xHit := none } }).ev = s.ev := by simpa using hev
  have heq := locateEnds_eq b s
  rw [askedDone_eq] at heq
  generalize locateOver { locateResolved b s with health := { (locateResolved b s).health with xHit := none } } = v at *
  have hvhealth : v.health = { s.health with xHit := none } := by rw [hover, hhealth]
  generalize locateEnds b s = u at *
  have huhealth : u.health = { s.health with xHit := none, asked := s.health.asked.filter (· != .locateY) } := by rw [heq, hvhealth]
  have huev : u.ev = (raiseIf (s.health.asked.contains .locateY) Ev.CHECK_DONE s).ev := by
    rw [heq, hvhealth]
    exact raiseIf_ev_of_eq hoev _ _
  have humot : u.mot.locate = false := by
    rw [heq, ← hmot]
    exact congrArg Motion.locate (raiseIf_mot _ _ v)
  obtain ⟨hclosed, -, hstay, hjob', hdram', hlocate⟩ := judged_closes (Applying.refl u)
  dsimp only
  rw [hclosed, huhealth]
  exact ⟨rfl, rfl, hlocate.trans humot, not_mem_asked _ _, fun hmode => (closes_ev (.inl (by rw [hflow]; exact hmode))).trans huev,
    fun hc => (hstay (.inl ((hasCause_congr (by rw [hflow]) 1).trans hc))).trans hflow, hjob'.trans hjob, dramKept_of_eq (hdram'.trans hdram)⟩

/-! ## O48 -/

theorem checkRunOpen_plays (s : State) (slotUs : Nat) (step : CheckStep) (hopen : mayOpenRun s = true) (hnext : nextCheckStep s = some step) :
    let wraps : Bool := step == .cal && (freshBatch s step).plan.isEmpty
    let fits : Bool := traverseRuns s step && (s.flow.mode == .service || decide ((freshBatch s step).duration ≤ 10 * slotUs))
    (wraps = true → checkRunOpen slotUs s = calWrap s) ∧ (wraps = false → fits = false → checkRunOpen slotUs s = s) ∧
    (wraps = false → fits = true → checkRunOpen slotUs s = openRun (freshBatch s step) s) := by
  intro wraps fits
  rw [checkRunOpen_next slotUs hopen hnext]
  exact ⟨runStep_wraps, fun hwraps hfits => (runStep_opens hwraps).trans (if_neg (by simpa [fits] using hfits)),
    fun hwraps hfits => (runStep_opens hwraps).trans (if_pos hfits)⟩

/-- Settles O48: check runs open, play their batches, and judge them (R245 to R264). An event whose condition does not hold leaves the state as it is
(log entry 27). -/
theorem checkRunsPlay : Obligations.CheckRunsPlay := by
  unfold Obligations.CheckRunsPlay
  intro s kept
  refine ⟨fun slotUs => ?_,
    fun t0 smp x y hrun => ⟨_, rfl, checkBell_none hrun t0 smp x y⟩, fun b t0 smp x y hrun => ⟨fun hhold hmode hending hrestart => ?_, fun hhold hstep => ?_,
    fun hhold hstep => ⟨fun hi => ?_, fun hi hc => ⟨_, rfl, checkBell_past hrun hhold hstep hi hc t0 smp x y⟩, fun c hi hc => ?_⟩⟩,
    fun e => ⟨fun hshort => ⟨_, rfl, gateInEdge_short hshort⟩, fun hheld => ⟨_, rfl, gateInEdge_marks hheld⟩⟩,
    fun g high hidle => ⟨_, rfl, windowClose_idle high hidle⟩, fun g high w b hw hb => ⟨_, rfl, windowClose_closes high hw hb⟩,
    fun hidle => ⟨_, rfl, checkBatchEnd_idle hidle⟩, fun b hrun hplayed => ?_⟩
  · intro open'
    refine ⟨fun hidle => ⟨_, rfl, checkRunOpen_idle slotUs hidle⟩, fun step hopen hnext => ?_⟩
    intro wraps fits
    obtain ⟨hwrap, hstay, hplay⟩ := checkRunOpen_plays s slotUs step hopen hnext
    refine ⟨fun hwraps => ⟨_, congrArg Host.Outcome.next (hwrap hwraps), ?_⟩, fun hwraps hfits => ⟨_, rfl, hstay hwraps hfits⟩,
      fun hwraps hfits => ⟨_, congrArg Host.Outcome.next (hplay hwraps hfits), ?_⟩⟩
    · obtain ⟨hactive, hbeam, hev, hflow, hjob, hdram, hregs⟩ := calWrap_wraps s
      exact ⟨hactive, hbeam, hev, hflow, ⟨hjob, hdram⟩, hregs⟩
    · obtain ⟨hgath, hout, hon, hoff, hflow, hev, hjob, hdram⟩ := openRun_opens (b := freshBatch s step) (checkBlocked_of_open hopen)
      exact ⟨hgath, hout, hon, hoff, hflow, hev, hjob, hdram⟩
  · have heq : checkBell t0 smp x y s = enterHold s := (checkBell_eq hrun t0 smp x y).trans (if_pos hhold)
    obtain ⟨hend, hmode', hreq, hev, hjob, hdram⟩ := enterHold_holds hmode hending hrestart
    exact ⟨_, congrArg Host.Outcome.next heq, hend, hmode', hreq, hev, hjob, hdram⟩
  · have heq : checkBell t0 smp x y s = endCheckRun (assertBlank s) := by
      rw [checkBell_eq hrun, hhold, hstep]
      rfl
    obtain ⟨hend, hflow, hev, hjob, hdram⟩ := checkRun_stops s
    exact ⟨_, congrArg Host.Outcome.next heq, hend, hflow, hev, hjob, hdram⟩
  · exact ⟨_, congrArg Host.Outcome.next (checkBell_lead hrun hhold hstep hi t0 smp x y), checkLead_releases hrun⟩
  · intro stage
    have hnat : (((b.i + 1).toNat : Nat) : Int) = b.i + 1 := Int.toNat_of_nonneg (by omega)
    obtain ⟨⟨b', hb', hi', hstage⟩, hwindows, ⟨sh, hmem, hstripe, hshot, hbell⟩, hflow, hjob, hdram, hother⟩ := playContent_plays hrun hc t0 smp stage
    refine ⟨_, congrArg Host.Outcome.next (checkBell_content hrun hhold hstep hi hc t0 smp x y), ⟨b', hb', hi'.trans hnat, hstage⟩, hwindows,
      ⟨sh, hmem, hstripe, ?_, hbell⟩, hflow, ⟨hjob, hdram⟩, fun hcal => ?_⟩
    · rw [hshot, Nat.cast_add, hnat]
      exact (add_assoc _ _ _).symm
    · obtain ⟨⟨f, hf⟩, hquiet⟩ := hother hcal
      rw [hnat] at hf
      exact ⟨⟨f, hf⟩, hquiet⟩
  · intro same still
    have hjudges : b.step ≠ .cal → b.scanFails = false → checkBatchEnd s = closeCheckRun (serviceApplies (judgeBatch b s)) :=
      checkBatchEnd_judges hrun hplayed
    have hstep : ∀ {c : CheckStep}, b.step = c → c ≠ .cal → c ≠ .scan → checkBatchEnd s = closeCheckRun (serviceApplies (judgeBatch b s)) :=
      fun hc hcal hscan => hjudges (by rw [hc]; exact hcal) (scanFails_other (by rw [hc]; exact hscan))
    refine ⟨fun hdark hpulses => ?_, fun hdark hpulses => ?_, fun _ hfails => ?_, fun hscan hfails => ?_, fun x plan hre hplan => ?_, fun hcal => ?_,
      fun hx => ?_, fun hy => ?_⟩
    · have heq := hstep hdark (by decide) (by decide)
      rw [judgeBatch, hdark] at heq
      obtain ⟨hend, hpassed, hat, hasked, hev, hflow, hjob, hdram, hcause⟩ := darkPass_closes b s hpulses
      exact ⟨_, congrArg Host.Outcome.next heq, hend, hpassed, hat, hasked, hev, ⟨hflow, hjob, hdram⟩, hcause⟩
    · have heq := hstep hdark (by decide) (by decide)
      rw [judgeBatch, hdark] at heq
      obtain ⟨hend, hpassed, hev, hcause, hreq, hjob, hdram⟩ := darkFail_closes b s hpulses
      exact ⟨_, congrArg Host.Outcome.next heq, hend, hpassed, hev, hcause, hreq, hjob, hdram⟩
    · have heq := (checkBatchEnd_eq hrun hplayed).trans (if_pos hfails)
      exact ⟨_, congrArg Host.Outcome.next heq, darkFollows s _⟩
    · have heq := hjudges (by rw [hscan]; decide) hfails
      rw [judgeBatch, hscan] at heq
      obtain ⟨hend, hnext, hlist, hflow, hjob, hdram⟩ := scanPass_closes b s
      exact ⟨_, congrArg Host.Outcome.next heq, hend, hnext, hlist, hflow, hjob, hdram⟩
    · have heq := hstep hre (by decide) (by decide)
      rw [judgeBatch, hre] at heq
      obtain ⟨hend, hlist, hev, hretired, hflow, hjob, hdram⟩ := recheck_closes s hplan
      exact ⟨_, congrArg Host.Outcome.next heq, hend, hlist, hev, hretired, hflow, hjob, hdram⟩
    · obtain ⟨bu, hbu, hcloses, hagain, hflow, hjob, hdram⟩ := checkBatchEnd_cal hrun hplayed hcal
      exact ⟨_, rfl, bu, hbu, hcloses, hagain, hflow, hjob, hdram⟩
    · have heq := hstep hx (by decide) (by decide)
      rw [judgeBatch, hx] at heq
      obtain ⟨hend, hhit, hasked, hev, hflow, hjob, hdram⟩ := locateX_closes b s
      exact ⟨_, congrArg Host.Outcome.next heq, hend, hhit, hasked, hev, hflow, hjob, hdram⟩
    · have heq := hstep hy (by decide) (by decide)
      rw [judgeBatch, hy] at heq
      obtain ⟨hend, hhit, hlocate, hasked, hev, hflow, hjob, hdram⟩ := locateY_closes b s
      exact ⟨_, congrArg Host.Outcome.next heq, hend, hhit, hlocate, hasked, hev, hflow, hjob, hdram⟩

end Sys2Proof.Machine
end
